-- ==== Sys2Proof/Word.lean ====
section
/-! DEFINITION. The word types of the LK-2160 and their plainest arithmetic (00_scope.md R3). -/
namespace Sys2Proof

/-- A general register, a PRS register, an address register. -/
abbrev Word := BitVec 64
/-- One byte of memory. -/
abbrev Byte := BitVec 8
/-- One 64-byte cache line, byte 0 in bits [7:0] (R3: little-endian). -/
abbrev Line := BitVec 512
/-- PA[51:6], the address of a line. -/
abbrev LineAddr := BitVec 46
/-- A 52-bit physical address (R196). -/
abbrev PA := BitVec 52
/-- A realm number (R8). -/
abbrev Realm := BitVec 10
/-- The position of a hardware thread in its package: die * 40 + cluster * 8 + core * 2 + thread (R32). -/
abbrev ThreadPos := Fin 480
/-- The position of a core in its package: die * 20 + cluster * 4 + core. -/
abbrev CorePos := Fin 240
/-- The position of a compute die, 0-11. -/
abbrev DiePos := Fin 12
/-- A SerDes octet, 0-11. -/
abbrev Octet := Fin 12
/-- A home agent, and the DRAM channel it serves, 0-15. -/
abbrev Chan := Fin 16
/-- A package number, 0-31. -/
abbrev Pkg := BitVec 5

/-- A sparse table: the entries that differ from what an unlisted key holds, newest first. -/
abbrev Tbl (V : Type) := List (Nat × V)

/-- What the table holds at `k`, `d` where it lists nothing. -/
def Tbl.get {V : Type} (d : V) : Tbl V → Nat → V
  | [], _ => d
  | (k', v) :: t, k => if k' = k then v else Tbl.get d t k

/-- What the table lists at `k`. -/
def Tbl.find {V : Type} : Tbl V → Nat → Option V
  | [], _ => none
  | (k', v) :: t, k => if k' = k then some v else Tbl.find t k

/-- The table without an entry at `k`. -/
def Tbl.erase {V : Type} : Tbl V → Nat → Tbl V
  | [], _ => []
  | (k', v) :: t, k => if k' = k then Tbl.erase t k else (k', v) :: Tbl.erase t k

/-- The table with `v` at `k`. -/
def Tbl.set {V : Type} (t : Tbl V) (k : Nat) (v : V) : Tbl V := (k, v) :: Tbl.erase t k

end Sys2Proof
end

