-- ==== Sys2Proof/Syntax.lean ====
section
/-! DEFINITION. The commands of the LK-2160 package: one constructor of `Instr` per row of spec/opcode_table.json, with
the row's operands as the rules name them. The messages of R237 to R239 and R690 stand here too, since commands carry them. -/
namespace Sys2Proof

/-- The line states of R234; as a GRANT (R237), `I` is 000b none. -/
inductive CState where
  | I | S | E | O | M
  deriving DecidableEq, Repr

/-- FLAGS of a message header (R237). -/
structure Flags where
  subj : Bool := false
  conf : Bool := false
  stale : Bool := false
  wbp : Bool := false
  broken : Bool := false
  lost : Bool := false
  keepS : Bool := false
  fwd : Bool := false
  dirty : Bool := false
  forwarded : Bool := false
  deriving DecidableEq, Repr

/-- The header fields of a coherence message but its TYPE (R237). -/
structure Hdr where
  tid : BitVec 12 := 0
  src : BitVec 16 := 0
  dst : BitVec 16 := 0
  addr : LineAddr := 0
  stamp : Word := 0
  rank : BitVec 16 := 0
  realm : Realm := 0
  grant : CState := .I
  pred : Pkg := 0
  flags : Flags := {}
  cr : BitVec 4 := 0
  deriving DecidableEq, Repr

/-- The message types, in the order of their TYPE values (R690). -/
inductive MsgType where
  | rdS | rdX | upg | rdZ | wbM | evN | atom | cmo | wrP
  | ucRd | ucWr | ucAtom | ownChk
  | snpS | snpX | snpI | snpH | snpC | rdSub
  | data | dataSub | cmp | cmpAck | refute | fwdAck | snpAck | snpNone | snpData
  | subFwd | subDone | wbAck | atomRsp | ucRsp | ownRsp | credit
  | tlbi | tlbiDone | tlbiAck | jrnWr
  | discover | ident | assign | syncReq | syncRsp | epoch
  | routeWrite | routeHold | holdDone | routeSwitch
  | regime | heartbeat | heardReq | heardRsp | takeover | event
  | mirror | haltImage | cut | cutDone
  | regRead | regWrite | regAnswer | interrupt
  deriving DecidableEq, Repr

/-- The operations of a far atomic (R75), in the order of fn[2:0]. -/
inductive AtomOp where
  | add | and | or | xor | swap | min | max | cas
  deriving DecidableEq, Repr

/-- A far atomic as a message carries it: operation, 8-byte size, byte offset in the line, operand, compare value. -/
structure AtomArgs where
  op : AtomOp
  wide : Bool
  off : BitVec 6
  operand : Word
  compare : Word
  deriving DecidableEq, Repr

/-- The content of a Tlbi (R270 step 1). -/
structure TlbiArgs where
  issuer : BitVec 16
  realm : Realm
  control : BitVec 19
  va : BitVec 45
  seq : BitVec 16
  /-- it was issued at H, and acts on both regimes of realm 0 (R220, log entry 11) -/
  h : Bool := false
  deriving DecidableEq, Repr

/-- A trip-log record (R621); its SEQUENCE is given when it is stored. -/
structure Rec where
  clause : Word
  code : BitVec 16
  origin : BitVec 16
  realm : BitVec 16
  p0 : BitVec 32
  p1 : BitVec 32
  p2 : BitVec 32
  p3 : BitVec 32
  deriving DecidableEq, Repr

/-- The interrupt source classes: SUB of code 10h (R108). -/
inductive IntClass where
  | device | interThread | ring | timer | counter
  deriving DecidableEq, Repr

/-- A platform-host command as its descriptor and extension give it (R495, R496). -/
structure Command where
  opcode : BitVec 16 := 0
  ticketed : Bool := false
  /-- INT of FLAGS -/
  int : Bool := false
  /-- EXT of FLAGS -/
  hasExt : Bool := false
  /-- a reserved field is nonzero -/
  reserved : Bool := false
  slot : BitVec 8 := 0
  cmdid : BitVec 32 := 0
  counter : Word := 0
  tag : BitVec 128 := 0
  target : BitVec 8 := 0xff
  /-- P0 to P10 -/
  ps : List Word := []
  /-- the bytes of the extension -/
  ext : List (BitVec 8) := []
  ring : Nat := 0
  index : Nat := 0
  /-- the long operation, once the command has started one (R508) -/
  oper : Nat := 0
  /-- as the manager sends it to a member: 0 whole, 1 its checks, 2 its effect (log entry 24) -/
  phase : Nat := 0
  /-- the clause at which a ticketed command was accepted (R504) -/
  stamp : Option Word := none
  /-- the reset generation of the function in which it was read (R513) -/
  gen : Nat := 0
  deriving DecidableEq, Repr

/-- What an event asks of the package that resolves it (R27). -/
inductive EventKind where
  /-- a HALT-class error (rank 1) -/
  | haltClass (code : BitVec 16)
  /-- a UE-P of a member (rank 2) -/
  | ueP (code : BitVec 16)
  /-- a thermal trip (rank 3) -/
  | trip
  /-- a realm-fatal error (rank 4) -/
  | ueR (realm : Realm) (code : BitVec 16)
  /-- an accepted ticketed command (rank 5) -/
  | command (c : Command)
  /-- a happening that only leaves its record -/
  | record
  /-- entry to DEGRADED (rank 6); this and the kinds below concern the package that samples them, which resolves them itself -/
  | degrade
  /-- the cut of this clause is complete on every member (rank 6) -/
  | quiesced (cut : Word)
  /-- the loss of the manager's heartbeat, which the standby answers by a takeover (rank 6) -/
  | takeover
  /-- an interrupt for the thread at a position, with the message that brought it (rank 9) -/
  | interrupt (t : Nat) (cls : IntClass) (realm : Realm) (atS : Bool) (via : Option (Hdr × BitVec 16))
  /-- a timer of the thread at a position, its H timer when `h` (rank 9) -/
  | timer (t : Nat) (h : Bool)
  /-- the doorbell of a context at an engine (rank 10) -/
  | doorbell (engine ctx : Nat)
  /-- a snoop has taken the line that the thread at a position monitors with WAITD (rank 10, R97) -/
  | wake (t : Nat) (line : LineAddr)
  deriving DecidableEq, Repr

/-- What EVENT carries to the manager, and the manager's notices to a member (R40; log entry 24). -/
inductive Report where
  /-- an event with its stamp, to be resolved -/
  | event (stamp : Word) (rank : Nat) (origin : BitVec 16) (kind : EventKind)
  /-- a forwarded trip-log record (R627) -/
  | record (r : Rec)
  /-- a link is fenced, or its far end has gone silent (R341, R689) -/
  | link (octet : Nat) (neighbour : Pkg) (fenced : Bool)
  /-- the worker is aligned to the manager, or cannot align (R33) -/
  | aligned (ok : Bool) (offset : BitVec 16)
  /-- the worker asks for a realignment (R46) -/
  | realign (offset : BitVec 16)
  /-- the result of a command that the manager passed on (R506) -/
  | done (c : Command) (status : BitVec 8) (r0 r1 : Word)
  /-- a member has finished its part of a realm's reset (R476) or of a key rotation's sweep (R464) -/
  | realmDone (realm : Realm) (sweep : Bool)
  /-- the manager writes a word of the realm entries or of the regulators on every member (R445, R467); `origin` made the change -/
  | realmWord (off : Nat) (w : Word) (origin : BitVec 16)
  /-- a rotation of the realm's key begins, or ends (R464) -/
  | rotate (realm : Realm) (done : Bool)
  /-- the image mode the manager announces (R16), and the standby's loss (R352) -/
  | imageMode (mode : BitVec 4)
  | standbyDropped
  /-- a member has left the image (R572) -/
  | memberLeft (p : Pkg)
  deriving DecidableEq, Repr

/-- A package's identity report (R344 step 1). -/
structure Ident where
  serial : Word
  mgrSel : Bool := false
  stby : Bool := false
  rev : BitVec 4 := 1
  /-- octet, neighbour serial, width code of each Trail octet in state up -/
  links : List (Nat × Word × Nat) := []
  /-- DRAM top in bytes -/
  top : Nat := 0
  /-- densities of its trained directory ports -/
  dens : List Nat := []
  /-- its channel mode (R395) -/
  chanMode : BitVec 2 := 0
  clause : Word := 0
  /-- the number it holds, when it is a member -/
  num : Option Pkg := none
  deriving DecidableEq, Repr

/-- ASSIGN (R340, R344, R372). -/
structure Assign where
  serial : Word
  num : Pkg
  members : BitVec 32
  manager : Pkg
  standby : Option Pkg := none
  /-- 1 Indicative, 2 Subjunctive -/
  regime : Nat := 1
  /-- channel mode and DRAM top of each member -/
  modes : List (Nat × Nat) := []
  tops : List (Nat × Nat) := []
  /-- to a package that is left out: the serials of the others' members (log entry 26) -/
  without : List Word := []
  deriving DecidableEq, Repr

/-- MIRROR: an owner key slot's state (R352, R501). -/
structure MirrorArgs where
  slot : Fin 8
  active : Bool
  key : BitVec 256
  last : Word
  deriving DecidableEq, Repr

/-- One timing exchange of a correction (R33, R36), times in 1/16 clause. -/
structure Exchange where
  t1 : Nat
  t2 : Nat
  tm : Nat
  ta : Nat
  retx : Bool := false
  deriving DecidableEq, Repr

/-- What a message carries beside its header (the Data column of R239). -/
inductive Body where
  | none
  | line (l : Line)
  | atom (a : AtomArgs)
  | cmo (clinv : Bool)
  | bytes (l : Line) (mask : BitVec 64)
  | uc (off : BitVec 6) (size : Nat)
  | value (w : Word)
  | flag (b : Bool)
  | state (c : CState)
  | tlbi (a : TlbiArgs)
  | journal (r : BitVec 256)
  | words (ws : List Word)
  | record (r : Rec)
  /-- an access to the device region at 7F00_0000_0000h + offset (R666) -/
  | reg (offset : BitVec 40) (size : Nat) (w : Word)
  | report (r : Report)
  | command (c : Command)
  | ident (i : Ident)
  | assign (a : Assign)
  | mirror (m : MirrorArgs)
  /-- an interrupt: the thread identifier, its class and whether c.counter routing takes it at S (R465) -/
  | interrupt (tid : BitVec 16) (cls : IntClass) (atS : Bool)
  deriving DecidableEq, Repr

/-- A message an agent of the package has sent. -/
structure Msg where
  type : MsgType
  hdr : Hdr
  body : Body := .none
  deriving DecidableEq, Repr

/-- The loads of R71 and R72. -/
inductive LoadOp where
  | lb | lh | lw | ld | lbu | lhu | lwu
  deriving DecidableEq, Repr

/-- The stores of R71 and R72. -/
inductive StoreOp where
  | sb | sh | sw | sd
  deriving DecidableEq, Repr

/-- How a DRAM read decodes (R384): without error, corrected in one device (its symbols in `syms`), not within one device, or,
for a line that has never been written, by chance (R385). -/
inductive ReadOutcome where
  | clean
  | device (dev : Fin 10) (syms : BitVec 4)
  | uncorrectable
  | stray
  deriving DecidableEq, Repr

/-- How a directory SRAM read ends (R300): clean, a single-bit error in an entry or set control, an uncorrectable error that a
retry clears, one that stays in set control or in an entry, and the errors of a displacement-table pointer. -/
inductive DirOutcome where
  | clean
  | single (bit : BitVec 8)
  | retried
  | controlSingle (bit : BitVec 8)
  | controlRetried
  | controlTwice
  | entryTwice
  | pointerSingle
  | pointerUncorr
  deriving DecidableEq, Repr

/-- Who writes a register (R673, R674): a realm-0 thread, the platform host through BAR0, REG_WRITE. -/
inductive Writer where
  | thread (origin : BitVec 16)
  | host
  | ticket
  deriving DecidableEq, Repr

/-- How a DRAM channel trains (R364): what the SPD of its DIMMs gives, coded as in DMC[n].STATUS (R393); whether it fails at
8000 MT/s and at 6400 MT/s; its two result words. -/
structure ChanTrain where
  dimms : BitVec 2 := 0
  size : BitVec 2 := 0
  ranks : BitVec 2 := 0
  fail8000 : Bool := true
  fail6400 : Bool := true
  res0 : Word := 0
  res1 : Word := 0
  deriving DecidableEq, Repr

/-- How a directory SRAM port trains (R298, R299): a device answers, training passes, the density code and the read latency. -/
structure PortTrain where
  present : Bool := false
  trained : Bool := false
  density : BitVec 2 := 0
  rlat : BitVec 4 := 0
  deriving DecidableEq, Repr

/-- What TRAIN finds on a wire group of a bridge (R534): the failed wires, and whether the strobe failed. -/
structure WireFault where
  die : DiePos
  toDie : Bool
  group : Fin 32
  wires : Nat
  strobe : Bool := false
  deriving DecidableEq, Repr

/-- What the SEC-DED and parity checks of the mesh and the narrow network find on a message's way (R552), with the router, the input port
and the virtual channel. -/
inductive MeshError where
  | clean
  | corrected (router : Fin 36) (port vc : Nat)
  | uncorrectable (router : Fin 36) (port vc : Nat)
  | narrow (router : Fin 36) (vc : Nat)
  | narrowTwice (router : Fin 36) (vc : Nat)
  deriving DecidableEq, Repr

/-- The routing word (R327). -/
structure Route where
  dst : Pkg := 0
  src : Pkg := 0
  pri : BitVec 2 := 0
  snp : Bool := false
  hop : BitVec 2 := 0
  len : BitVec 4 := 2
  retx : Bool := false
  flood : Bool := false
  reserved : BitVec 11 := 0
  deriving DecidableEq, Repr

/-- A message on a Trail link (R327): its routing word, the source and sequence number of a flooded one (R340), and its content,
or its TYPE where that value is unassigned (R690). -/
structure Pkt where
  route : Route
  fsrc : Word := 0
  fseq : BitVec 16 := 0
  msg : Msg
  unknown : Option (BitVec 8) := none
  deriving DecidableEq, Repr

/-- What a receiver's decoder makes of the codewords of a flit (R319): the symbols corrected, by lane, and the codewords it cannot
correct. -/
structure Decoded where
  syms : List (Fin 8 × Nat) := []
  uncorr : Nat := 0
  deriving DecidableEq, Repr

/-- A flit as it is received (R320): bytes 0 to 3, the fifteen slots, bytes 244 to 251 and the CRC; what the decoder made of it; and the
messages that its slots begin, in slot order, whose routing words stand in the slots (the layout of the rest of a message is not given,
log entry 25). -/
structure Flit where
  head : BitVec 32
  slots : List (BitVec 128) := List.replicate 15 0
  tail : BitVec 64 := 0
  crc : BitVec 32 := 0
  rx : Decoded := {}
  pkts : List Pkt := []
  deriving DecidableEq, Repr

/-- The commands: one constructor per row of spec/opcode_table.json. -/
inductive Instr where
  /-- CLAUSE_CLOCK_LOCK (R21): The clause clock locks in SENSE, and the clause counter starts at 0 or resumes from its held value -/
  | clauseClockLock
  /-- CLAUSE_LOCK_LOSS (R46): The clause clock loses lock or the board reference is lost: UE-P, counting goes on in holdover -/
  | clauseLockLoss
  /-- SYNC_REQ (R33): A timing-exchange request reaches the manager, which answers with its departure time and turnaround -/
  | syncReq (src : Pkg) (xid : BitVec 12) (retx : Bool) (turn : BitVec 16)
  /-- SYNC_RSP (R33): A timing-exchange answer reaches the worker, which computes round trip and offset and discards retransmitted exchanges -/
  | syncRsp (xid : BitVec 12) (retx : Bool) (tm : Nat) (turn : BitVec 16)
  /-- EPOCH (R33): The JOIN epoch named by the manager reaches a worker, which starts its alignment exchanges -/
  | epoch (value : Word)
  /-- DRIFT_CORRECTION (R36): Every 1 ms a worker runs four timing exchanges and corrects its rate trim and phase slew -/
  | driftCorrection (xs : List Exchange)
  /-- CLAUSE_REALIGN (R47): The manager realigns the image through QUIESCE, holding workers that are ahead and loading those behind -/
  | clauseRealign (p : Pkg) (offset : BitVec 16)
  /-- CLAUSE_RESOLUTION (R40): At clause s plus the horizon the resolving package resolves all events stamped s in precedence order -/
  | clauseResolution
  /-- ADDI (R62): Adds the sign-extended immediate to ra -/
  | addi (t : ThreadPos) (rd : BitVec 5) (ra : BitVec 5) (imm : BitVec 16)
  /-- ANDI (R62): ANDs ra with the zero-extended immediate -/
  | andi (t : ThreadPos) (rd : BitVec 5) (ra : BitVec 5) (imm : BitVec 16)
  /-- ORI (R62): ORs ra with the zero-extended immediate -/
  | ori (t : ThreadPos) (rd : BitVec 5) (ra : BitVec 5) (imm : BitVec 16)
  /-- XORI (R62): XORs ra with the zero-extended immediate -/
  | xori (t : ThreadPos) (rd : BitVec 5) (ra : BitVec 5) (imm : BitVec 16)
  /-- SLTI (R62): Writes 1 when ra is below the immediate, signed -/
  | slti (t : ThreadPos) (rd : BitVec 5) (ra : BitVec 5) (imm : BitVec 16)
  /-- SLTIU (R62): Writes 1 when ra is below the immediate, unsigned -/
  | sltiu (t : ThreadPos) (rd : BitVec 5) (ra : BitVec 5) (imm : BitVec 16)
  /-- LUI (R62): Writes the sign-extended immediate shifted left by 16 -/
  | lui (t : ThreadPos) (rd : BitVec 5) (imm : BitVec 16)
  /-- ADDIS (R62): Adds the sign-extended immediate shifted left by 16 to ra -/
  | addis (t : ThreadPos) (rd : BitVec 5) (ra : BitVec 5) (imm : BitVec 16)
  /-- ALU (R63): Three-register integer operation selected by its function code -/
  | alu (t : ThreadPos) (fn : BitVec 6) (rc : BitVec 5) (rb : BitVec 5) (ra : BitVec 5) (rd : BitVec 5)
  /-- MULDIV (R63): Multiply, divide, remainder or multiply-add selected by its function code; division by zero does not trap -/
  | muldiv (t : ThreadPos) (fn : BitVec 6) (rc : BitVec 5) (rb : BitVec 5) (ra : BitVec 5) (rd : BitVec 5)
  /-- SHIFT (R63): Shift, rotate or count operation selected by its function code -/
  | shift (t : ThreadPos) (fn : BitVec 6) (rc : BitVec 5) (rb : BitVec 5) (ra : BitVec 5) (rd : BitVec 5)
  /-- BEQ (R65): Branches with one delay slot when ra equals rb -/
  | beq (t : ThreadPos) (a : Bool) (ra : BitVec 5) (rb : BitVec 5) (disp : BitVec 15)
  /-- BNE (R65): Branches with one delay slot when ra differs from rb -/
  | bne (t : ThreadPos) (a : Bool) (ra : BitVec 5) (rb : BitVec 5) (disp : BitVec 15)
  /-- BLT (R65): Branches when ra is below rb, signed -/
  | blt (t : ThreadPos) (a : Bool) (ra : BitVec 5) (rb : BitVec 5) (disp : BitVec 15)
  /-- BGE (R65): Branches when ra is at least rb, signed -/
  | bge (t : ThreadPos) (a : Bool) (ra : BitVec 5) (rb : BitVec 5) (disp : BitVec 15)
  /-- BLTU (R65): Branches when ra is below rb, unsigned -/
  | bltu (t : ThreadPos) (a : Bool) (ra : BitVec 5) (rb : BitVec 5) (disp : BitVec 15)
  /-- BGEU (R65): Branches when ra is at least rb, unsigned -/
  | bgeu (t : ThreadPos) (a : Bool) (ra : BitVec 5) (rb : BitVec 5) (disp : BitVec 15)
  /-- J (R65): Unconditional jump with a delay slot -/
  | j (t : ThreadPos) (a : Bool) (disp : BitVec 25)
  /-- JAL (R65): Jump that writes its link to g31 -/
  | jal (t : ThreadPos) (a : Bool) (disp : BitVec 25)
  /-- JALR (R65): Register jump that writes its link to rd, raising TARGET_ALIGN on a misaligned target -/
  | jalr (t : ThreadPos) (a : Bool) (rd : BitVec 5) (ra : BitVec 5)
  /-- LOAD (R71): LB to LWU load from ra plus immediate, translated, checked and filled from the cache hierarchy -/
  | load (t : ThreadPos) (op : LoadOp) (rd : BitVec 5) (ra : BitVec 5) (imm : BitVec 16)
  /-- STORE (R71): SB to SD store that retires into the merging buffer or leaves as a device store -/
  | store (t : ThreadPos) (op : StoreOp) (rs : BitVec 5) (ra : BitVec 5) (imm : BitVec 16)
  /-- LOAD_INDEXED (R72): MEMX load from ra plus rb -/
  | loadIndexed (t : ThreadPos) (op : LoadOp) (rd : BitVec 5) (ra : BitVec 5) (rb : BitVec 5)
  /-- STORE_INDEXED (R72): MEMX store of rc to ra plus rb -/
  | storeIndexed (t : ThreadPos) (op : StoreOp) (rc : BitVec 5) (ra : BitVec 5) (rb : BitVec 5)
  /-- LAW (R72): Load-acquire of 4 bytes -/
  | law (t : ThreadPos) (rd : BitVec 5) (ra : BitVec 5)
  /-- LAD (R72): Load-acquire of 8 bytes -/
  | lad (t : ThreadPos) (rd : BitVec 5) (ra : BitVec 5)
  /-- SRW (R72): Store-release of 4 bytes -/
  | srw (t : ThreadPos) (ra : BitVec 5) (rb : BitVec 5)
  /-- SRD (R72): Store-release of 8 bytes -/
  | srd (t : ThreadPos) (ra : BitVec 5) (rb : BitVec 5)
  /-- PREF (R74): Prefetches a line without architectural effect or exception -/
  | pref (t : ThreadPos) (write : Bool) (ra : BitVec 5) (rb : BitVec 5)
  /-- AADD (R75): Far atomic add performed at the home agent or DRAM controller -/
  | aadd (t : ThreadPos) (wide : Bool) (ord : BitVec 2) (rd : BitVec 5) (ra : BitVec 5) (rb : BitVec 5)
  /-- AAND (R75): Far atomic AND -/
  | aand (t : ThreadPos) (wide : Bool) (ord : BitVec 2) (rd : BitVec 5) (ra : BitVec 5) (rb : BitVec 5)
  /-- AOR (R75): Far atomic OR -/
  | aor (t : ThreadPos) (wide : Bool) (ord : BitVec 2) (rd : BitVec 5) (ra : BitVec 5) (rb : BitVec 5)
  /-- AXOR (R75): Far atomic XOR -/
  | axor (t : ThreadPos) (wide : Bool) (ord : BitVec 2) (rd : BitVec 5) (ra : BitVec 5) (rb : BitVec 5)
  /-- ASWAP (R75): Far atomic swap -/
  | aswap (t : ThreadPos) (wide : Bool) (ord : BitVec 2) (rd : BitVec 5) (ra : BitVec 5) (rb : BitVec 5)
  /-- AMIN (R75): Far atomic signed minimum -/
  | amin (t : ThreadPos) (wide : Bool) (ord : BitVec 2) (rd : BitVec 5) (ra : BitVec 5) (rb : BitVec 5)
  /-- AMAX (R75): Far atomic signed maximum -/
  | amax (t : ThreadPos) (wide : Bool) (ord : BitVec 2) (rd : BitVec 5) (ra : BitVec 5) (rb : BitVec 5)
  /-- ACAS (R75): Far atomic compare-and-swap -/
  | acas (t : ThreadPos) (wide : Bool) (ord : BitVec 2) (rd : BitVec 5) (ra : BitVec 5) (rb : BitVec 5) (rc : BitVec 5)
  /-- VINT (R79): Vector integer operation selected by its function code -/
  | vint (t : ThreadPos) (fn : BitVec 6) (esz : BitVec 2) (k : BitVec 3) (vb : BitVec 5) (va : BitVec 5) (vd : BitVec 5)
  /-- VFP (R79): Vector floating-point operation selected by its function code, setting sticky flags -/
  | vfp (t : ThreadPos) (fn : BitVec 6) (esz : BitVec 2) (k : BitVec 3) (vb : BitVec 5) (va : BitVec 5) (vd : BitVec 5)
  /-- VMEM (R79): Vector load, store, gather, scatter or broadcast load -/
  | vmem (t : ThreadPos) (fn : BitVec 6) (esz : BitVec 2) (k : BitVec 3) (vb : BitVec 5) (va : BitVec 5) (vd : BitVec 5)
  /-- VMASK (R79): Mask, insert, extract, permute, reduce or compress operation -/
  | vmask (t : ThreadPos) (fn : BitVec 6) (esz : BitVec 2) (k : BitVec 3) (vb : BitVec 5) (va : BitVec 5) (vd : BitVec 5)
  /-- SYSCALL (R84): Raises the SYSCALL exception -/
  | syscall (t : ThreadPos)
  /-- HCALL (R109): Raises HCALL in realm 0 or causes a realm exit in another realm -/
  | hcall (t : ThreadPos)
  /-- RTE (R113): Returns from an exception, honouring the delay-slot flag -/
  | rte (t : ThreadPos)
  /-- BREAK (R84): Raises the BREAK exception -/
  | brk (t : ThreadPos)
  /-- WFI (R84): Waits until an interrupt for the thread is pending -/
  | wfi (t : ThreadPos)
  /-- RENTER (R115): Enters a realm from H by loading its thread context block, or is refused -/
  | renter (t : ThreadPos) (ra : BitVec 5)
  /-- TLBI (R86): Broadcasts a translation invalidation to every package of the image -/
  | tlbi (t : ThreadPos) (ra : BitVec 5) (rd : BitVec 5)
  /-- SYNC_T (R88): Waits until every earlier TLBI of the thread has been performed image-wide -/
  | syncT (t : ThreadPos)
  /-- ISYNC (R93): Discards later fetched instructions and refetches after earlier ones complete -/
  | isync (t : ThreadPos)
  /-- CLK (R43): Reads the clause counter into a register -/
  | clk (t : ThreadPos) (rd : BitVec 5)
  /-- PCRD (R94): Reads a core performance counter -/
  | pcrd (t : ThreadPos) (rd : BitVec 5) (n : BitVec 5)
  /-- RSYNC (R131): Rebuilds the return stack from the frame-record chain -/
  | rsync (t : ThreadPos)
  /-- RSCLR (R134): Clears the thread's return stack -/
  | rsclr (t : ThreadPos)
  /-- WAITD (R96): Monitors a line through a copy and waits for a snoop, interrupt, timeout or loss -/
  | waitd (t : ThreadPos) (rd : BitVec 5) (ra : BitVec 5)
  /-- WAITD_TIMEOUT (R96): The WAITD timeout elapses and the thread wakes with status 2 -/
  | waitdTimeout (t : ThreadPos)
  /-- FENCE (R99): Orders earlier and later accesses by its four-bit mask -/
  | fence (t : ThreadPos) (mask : BitVec 4)
  /-- MFC (R84): Copies a control register to rd -/
  | mfc (t : ThreadPos) (rd : BitVec 5) (n : BitVec 13)
  /-- MTC (R102): Copies ra to a control register, effective for every later instruction -/
  | mtc (t : ThreadPos) (ra : BitVec 5) (n : BitVec 13)
  /-- CLEAN_VA (R176): Writes back a dirty line image-wide and leaves clean copies -/
  | cleanVa (t : ThreadPos) (ra : BitVec 5)
  /-- INV_VA (R89): Acts as CLINV.VA -/
  | invVa (t : ThreadPos) (ra : BitVec 5)
  /-- CLINV_VA (R176): Writes back a dirty line and removes it from every cache of the image -/
  | clinvVa (t : ThreadPos) (ra : BitVec 5)
  /-- ZERO_VA (R167): Writes a zero line without reading it, through an RdZ drain -/
  | zeroVa (t : ThreadPos) (ra : BitVec 5)
  /-- INV_L1I (R89): Removes a line from this core's L1I -/
  | invL1i (t : ThreadPos) (ra : BitVec 5)
  /-- CLEAN_SW2 (R177): Cleans one L2 line by set and way through Cmo CLEAN -/
  | cleanSw2 (t : ThreadPos) (ra : BitVec 5)
  /-- INV_SW2 (R177): Writes back and invalidates one L2 line by set and way -/
  | invSw2 (t : ThreadPos) (ra : BitVec 5)
  /-- CLINV_SW2 (R177): Writes back and invalidates one L2 line by set and way -/
  | clinvSw2 (t : ThreadPos) (ra : BitVec 5)
  /-- CLEAN_SW3 (R177): Cleans one L3 line by set and way through Cmo CLEAN -/
  | cleanSw3 (t : ThreadPos) (ra : BitVec 5)
  /-- INV_SW3 (R177): Writes back and invalidates one L3 line by set and way -/
  | invSw3 (t : ThreadPos) (ra : BitVec 5)
  /-- CLINV_SW3 (R177): Writes back and invalidates one L3 line by set and way -/
  | clinvSw3 (t : ThreadPos) (ra : BitVec 5)
  /-- INTERRUPT (R109): A sampled interrupt is routed and taken at the next instruction boundary, held, or discarded -/
  | interrupt (t : ThreadPos) (cls : IntClass) (realm : Realm) (atS : Bool)
  /-- TIMER_COMPARE (R107): Clause time reaches a timer compare value and a timer interrupt becomes pending -/
  | timerCompare (t : ThreadPos) (h : Bool)
  /-- PREDCTL_FLUSH (R149): A write of 1 to c.predctl.FLUSH starts a predictor flush -/
  | predctlFlush (t : ThreadPos)
  /-- PREDICTOR_FLUSH_DONE (R127): A predictor flush completes after 64 cycles and prediction resumes -/
  | predictorFlushDone (c : CorePos)
  /-- RESIDUE_RETRY (R144): A residue-marked instruction becomes oldest and is re-executed alone -/
  | residueRetry (t : ThreadPos) (unit : Fin 8) (again : Bool)
  /-- MB_DRAIN (R163): The oldest merging-buffer entry meets a drain condition, obtains M or E and writes the L2 -/
  | mbDrain (c : CorePos)
  /-- EVICTION_ISSUE (R169): A pending eviction-buffer entry is issued to the L3 slice or the home -/
  | evictionIssue (c : CorePos)
  /-- L2_SCRUB (R180): Every 8,192 clauses an L2 scrubs one set -/
  | l2Scrub (c : CorePos)
  /-- L3_SCRUB (R180): Every 65,536 clauses an L3 slice scrubs one set -/
  | l3Scrub (d : DiePos) (slice : Fin 16)
  /-- L2_DISABLE (R182): A write of 1 to c.cachectl.L2_DIS starts the L2 flush -/
  | l2Disable (c : CorePos)
  /-- L2_ENABLE (R185): A write of 0 to L2_DIS after flushing re-enables an empty L2 -/
  | l2Enable (c : CorePos)
  /-- L2_FLUSH_DONE (R182): The last L2 writeback is acknowledged and FLUSHING clears -/
  | l2FlushDone (c : CorePos)
  /-- L3_DISABLE (R182): A write of 1 to CDI[n].X_L3CTL.DIS starts the L3 flush -/
  | l3Disable (d : DiePos)
  /-- L3_ENABLE (R185): A write of 0 to DIS after flushing re-enables an empty L3 -/
  | l3Enable (d : DiePos)
  /-- L3_FLUSH_DONE (R182): The last L3 writeback is acknowledged and FLUSHING clears -/
  | l3FlushDone (d : DiePos)
  /-- AD_UPDATE (R213): When the instruction is oldest, the walker sets A or D by compare-and-swap, restarting the walk on failure -/
  | adUpdate (t : ThreadPos)
  /-- TRANS_TLBI_TIMEOUT (R221): A TLBI not performed within 4 ms: UE-P -/
  | transTlbiTimeout (t : ThreadPos) (seq : BitVec 16)
  /-- RDS (R252): Read for a shared copy, served by the proxy or the home -/
  | rds (h : Hdr)
  /-- RDX (R252): Read for ownership of a line not held -/
  | rdx (h : Hdr)
  /-- UPG (R252): Ownership of a line held in S or O -/
  | upg (h : Hdr)
  /-- RDZ (R252): Ownership without data for ZERO.VA -/
  | rdz (h : Hdr)
  /-- WBM (R253): Writeback of an M or O victim, served or answered STALE -/
  | wbm (h : Hdr) (line : Line)
  /-- EVN (R253): Eviction notice for E or S, or LOST notice -/
  | evn (h : Hdr)
  /-- ATOM (R252): Far atomic request performed at the home after recalling every copy -/
  | atom (h : Hdr) (args : AtomArgs)
  /-- CMO (R252): CACHE by address request, kind CLEAN or CLINV -/
  | cmo (h : Hdr) (clinv : Bool)
  /-- WRP (R252): Coherent partial or full line write at the home -/
  | wrp (h : Hdr) (bytes : Line) (mask : BitVec 64)
  /-- UCRD (R374): Uncached read at the DRAM controller -/
  | ucrd (h : Hdr) (off : BitVec 6) (size : Nat)
  /-- UCWR (R374): Uncached write performed as read, merge and full-line write -/
  | ucwr (h : Hdr) (bytes : Line) (mask : BitVec 64)
  /-- UCATOM (R374): Uncached atomic performed as a read-modify-write -/
  | ucatom (h : Hdr) (args : AtomArgs)
  /-- OWNCHK (R271): Ownership query answered by the page-ownership cache at once -/
  | ownchk (h : Hdr)
  /-- SNPS (R246): Snoop to forward a shared copy to the requester -/
  | snps (h : Hdr)
  /-- SNPX (R246): Snoop to forward the line and invalidate -/
  | snpx (h : Hdr)
  /-- SNPI (R246): Snoop to invalidate without forwarding -/
  | snpi (h : Hdr)
  /-- SNPH (R246): Snoop to write dirty data home and invalidate or keep S -/
  | snph (h : Hdr)
  /-- SNPC (R246): Snoop to write dirty data home and keep a clean copy -/
  | snpc (h : Hdr)
  /-- RDSUB (R263): Subjunctive forward request to the predicted owner package -/
  | rdsub (h : Hdr)
  /-- DATA (R246): Line data with its grant reaches the requester -/
  | data (h : Hdr) (line : Line) (e : MeshError)
  /-- DATASUB (R264): Subjunctive line data enters the subjunctive buffer -/
  | datasub (h : Hdr) (line : Line)
  /-- CMP (R246): Completion with final grant, possibly confirming a subjunctive fill -/
  | cmp (h : Hdr)
  /-- CMPACK (R247): Requester acknowledgement that returns the home line to idle -/
  | cmpack (h : Hdr)
  /-- REFUTE (R266): A subjunctive fill is refuted and the thread squashes to its oldest consumer -/
  | refute (h : Hdr)
  /-- FWDACK (R254): The owner reports that it forwarded, with its new state -/
  | fwdack (h : Hdr) (st : CState)
  /-- SNPACK (R254): A holder reports a snoop applied -/
  | snpack (h : Hdr)
  /-- SNPNONE (R691): The addressed agent holds no copy -/
  | snpnone (h : Hdr)
  /-- SNPDATA (R254): Data for SnpH or SnpC merged into the memory write -/
  | snpdata (h : Hdr) (line : Line)
  /-- SUBFWD (R263): The predicted owner reports whether it forwarded; the home confirms or refutes -/
  | subfwd (h : Hdr) (st : CState)
  /-- SUBDONE (R246): APPLY or RELEASE unfreezes the predicted owner's OF copy -/
  | subdone (h : Hdr) (apply : Bool)
  /-- WBACK (R246): Writeback or notice done; frees the eviction entry -/
  | wback (h : Hdr)
  /-- ATOMRSP (R255): Result of a far atomic returns to the requester -/
  | atomrsp (h : Hdr) (value : Word)
  /-- UCRSP (R239): Result of an uncached read or atomic returns -/
  | ucrsp (h : Hdr) (value : Word)
  /-- OWNRSP (R212): Ownership answer lets the TLB install or faults the walk with OWNER -/
  | ownrsp (h : Hdr) (ok : Bool)
  /-- CREDIT (R241): The home grants reservation credits ahead of time -/
  | credit (h : Hdr) (pool : Bool) (count : Nat)
  /-- TLBI_MESSAGE (R270): A Tlbi reaches a TLBI unit or die, which removes entries and waits for their accesses -/
  | tlbiMessage (h : Hdr) (args : TlbiArgs)
  /-- TLBIDONE (R270): A die reports its TLBI done to its unit -/
  | tlbidone (h : Hdr) (args : TlbiArgs)
  /-- TLBIACK (R270): A package's TLBI unit acknowledges to the issuer -/
  | tlbiack (h : Hdr) (args : TlbiArgs)
  /-- JRNWR (R261): A journal record is appended to a lane and WRITE advanced -/
  | jrnwr (h : Hdr) (record : BitVec 256)
  /-- SETTLE_POINT_REACHED (R256): A held request reaches its settle point and is served in stamp and rank order -/
  | settlePointReached (n : Chan) (line : LineAddr)
  /-- LEAD_POINT_REACHED (R256): A lead request reaches its lead point and is served -/
  | leadPointReached (n : Chan) (line : LineAddr)
  /-- MEMORY_READ_DONE (R384): A DRAM read returns and is decoded under both away-bit values -/
  | memoryReadDone (n : Chan) (line : LineAddr) (o : ReadOutcome)
  /-- COH_TIMEOUT (R245): A home waits over 10 ms for a response: UE-P -/
  | cohTimeout (n : Chan) (line : LineAddr)
  /-- DIRECTORY_LOOKUP_DONE (R291): A directory SRAM read returns and the lookup hits or misses, allocating on a miss -/
  | directoryLookupDone (n : Chan) (line : LineAddr) (o : DirOutcome)
  /-- AGE_CLOCK (R293): The directory age clock advances every 2^TICK clauses -/
  | ageClock
  /-- DIR_SCRUB (R295): The port scrubber reads a location in an idle cycle, correcting and rewriting AGE -/
  | dirScrub (p : Fin 8) (o : DirOutcome)
  /-- DIR_PORT_LOST (R300): A directory port loses lock while holding entries: UE-P -/
  | dirPortLost (p : Fin 8)
  /-- RESHAPE_MIGRATE (R304): The package migrates the next old global set to the new layout -/
  | reshapeMigrate (outcome : DirOutcome)
  /-- DATA_FLIT (R322): A data flit is accepted in sequence or discarded with a NAK; its messages and credits are taken -/
  | dataFlit (n : Octet) (f : Flit)
  /-- IDLE_FLIT (R323): An idle flit carries acknowledgement and credit returns -/
  | idleFlit (n : Octet) (f : Flit)
  /-- NAK_FLIT (R324): A NAK makes the sender resend every flit after its ACKSEQ -/
  | nakFlit (n : Octet) (f : Flit)
  /-- WIDTH_CONTROL_FLIT (R333): A width-control flit carries a lane mask and proposal or confirms the adopted width -/
  | widthControlFlit (n : Octet) (f : Flit) (mask : BitVec 8) (proposal : BitVec 2) (confirm : Bool)
  /-- TRAINING_MARKER (R332): Training markers make the other end join a partial reset or carry training exchange -/
  | trainingMarker (n : Octet) (mask : BitVec 8)
  /-- REPLAY_TIMEOUT (R324): No ACKSEQ advance for 256 clauses resends from the oldest held flit -/
  | replayTimeout (n : Octet)
  /-- FEC_LOCK_LOSS (R332): Loss of FEC lock starts a partial reset -/
  | fecLockLoss (n : Octet)
  /-- LANE_LIMIT (R332): A lane reaching its corrected-symbol limit is excluded and a partial reset starts -/
  | laneLimit (n : Octet) (lane : Fin 8)
  /-- TRL_RETRAIN (R332): A write of 1 to TRL[n].X_LINKCTL.RETRAIN starts a partial reset -/
  | trlRetrain (n : Octet)
  /-- PARTIAL_RESET_DONE (R332): A partial reset completes and width agreement begins -/
  | partialResetDone (n : Octet) (good : BitVec 8)
  /-- WIDTH_CONFIRM_TIMEOUT (R333): No width confirmation within 64 clauses: link down and full retrain -/
  | widthConfirmTimeout (n : Octet)
  /-- FULL_RETRAIN_DONE (R335): A full retrain attempt completes or fails; three failures fence the link -/
  | fullRetrainDone (n : Octet) (ok : Bool) (good : BitVec 8) (far : BitVec 8)
  /-- LINK_TRAINING_DONE (R331): An octet completes training step 7 and enters state up -/
  | linkTrainingDone (n : Octet) (good : BitVec 8) (far : BitVec 8) (serial : Word) (octet : Octet)
  /-- LINK_TRAINING_TIMEOUT (R331): Training not complete in 100 ms fails and the octet stays down -/
  | linkTrainingTimeout (n : Octet)
  /-- LINK_DOWN (R689): Loss of the far end's signal is recorded and a retrain begins -/
  | linkDown (n : Octet)
  /-- DISCOVER (R344): A flooded DISCOVER is answered with IDENT and puts a SEALED worker into JOIN -/
  | discover (manager : Word)
  /-- IDENT (R344): A package's identity report reaches the manager -/
  | ident (i : Ident)
  /-- DISCOVERY_END (R344): 1 ms after the last new IDENT the manager checks straps, admission, numbers and topology -/
  | discoveryEnd
  /-- ASSIGN (R344): A package receives its number, members, manager and standby -/
  | assign (a : Assign)
  /-- ROUTE_WRITE (R341): A member stores new route tables -/
  | routeWrite (gen : BitVec 16) (routes : List Word)
  /-- ROUTE_HOLD (R341): A member stops injecting priority 1 to 3 messages -/
  | routeHold
  /-- HOLD_DONE (R341): A member reports its links empty of all but stranded messages -/
  | holdDone (src : Pkg)
  /-- ROUTE_SWITCH (R341): Members adopt new tables and send stranded messages -/
  | routeSwitch
  /-- ROUTE_CHANGE_TIMEOUT (R342): A route change not complete in 2 ms: HALT-class error -/
  | routeChangeTimeout
  /-- REGIME (R348): A member writes the new ordering regime into every home agent -/
  | regime (value : BitVec 2)
  /-- HEARTBEAT_PERIOD (R349): Every 1 ms the manager sends HEARTBEAT -/
  | heartbeatPeriod
  /-- HEARTBEAT (R349): A member receives HEARTBEAT and resets SILENCE -/
  | heartbeat (src : Pkg)
  /-- STANDBY_SILENCE_LIMIT (R350): The standby's SILENCE reaches 10 ms and it sends HEARD_REQ -/
  | standbySilenceLimit
  /-- HEARD_REQ (R350): A worker answers with its SILENCE -/
  | heardReq (src : Pkg)
  /-- HEARD_RSP (R350): The standby collects a worker's SILENCE -/
  | heardRsp (src : Pkg) (silence : BitVec 32)
  /-- HEARD_TIMEOUT (R350): Answers close after 1 ms; the standby declines or takes over -/
  | heardTimeout
  /-- TAKEOVER (R351): Members switch to the new manager; the old one contains its endpoint and enters DEGRADED -/
  | takeover (src : Pkg)
  /-- HEARTBEAT_SILENCE (R353): A worker's SILENCE reaches 20 ms: HALT-class error -/
  | heartbeatSilence
  /-- EVENT (R40): An event or forwarded record reaches the manager with its stamp -/
  | event (src : Pkg) (r : Report) (e : MeshError)
  /-- MIRROR (R352): The standby stores owner key and ticket counter changes and acknowledges -/
  | mirror (m : MirrorArgs)
  /-- MIRROR_ACK (R352): The standby's acknowledgement lets the manager accept the command -/
  | mirrorAck
  /-- MIRROR_TIMEOUT (R352): No acknowledgement within 1 ms drops the standby -/
  | mirrorTimeout
  /-- HALT_IMAGE (R609): A member receives HALT_IMAGE and enters HALT -/
  | haltImage (stamp : Word)
  /-- CUT (R567): A member learns the cut clause or release clause from the manager -/
  | cut (clause : Word) (release : Bool)
  /-- CUT_DONE (R567): A member's report that its part of the cut is complete -/
  | cutDone (src : Pkg) (clause : Word)
  /-- REGISTER_READ (R670): A register read from another package's PRS is served -/
  | registerRead (h : Hdr) (off : BitVec 40) (size : Fin 9) (e : MeshError)
  /-- REGISTER_WRITE (R670): A register write to another package's PRS is applied there -/
  | registerWrite (h : Hdr) (off : BitVec 40) (size : Fin 9) (v : Word) (e : MeshError)
  /-- REGISTER_ANSWER (R670): The answer to a remote register access, possibly RETRY_LATER, returns -/
  | registerAnswer (h : Hdr) (v : Word) (e : MeshError)
  /-- INTERRUPT_DELIVERY (R465): An interrupt message reaches its target thread's package -/
  | interruptDelivery (h : Hdr) (tid : BitVec 16) (cls : IntClass) (atS : Bool) (e : MeshError)
  /-- RETRY_LATER (R551): A source holds a refused packet and later ones for the destination and asks the domain to open -/
  | retryLater (d : Fin 96)
  /-- RETRY_LATER_RESEND (R551): Every DELAY clauses the source resends the held packet -/
  | retryLaterResend
  /-- MESH_RETRY_EXHAUSTED (R551): A packet refused for 25,000 clauses: UE-P -/
  | meshRetryExhausted
  /-- REFRESH (R376): A rank receives its same-bank refresh every tREFI/4, forced after postponement -/
  | refresh (n : Chan) (rank : Fin 8) (bank : Fin 4) (forced : Bool)
  /-- DIMM_TEMP_POLL (R376): Every 1 ms the controller reads DIMM temperatures, halving tREFI or raising an alarm -/
  | dimmTempPoll (n : Chan) (dimm : Fin 2) (celsius : Nat)
  /-- ROW_IDLE_TIMEOUT (R375): A bank's row is precharged after the idle timer passes -/
  | rowIdleTimeout (n : Chan) (bank : Fin 2048)
  /-- PRECHARGE_POWER_DOWN (R363): A rank enters power-down after 1,024 idle controller cycles -/
  | prechargePowerDown (n : Chan) (rank : Fin 8)
  /-- DIMM_ALERT (R388): A DIMM reports a write CRC or parity error and the controller replays -/
  | dimmAlert (n : Chan) (parity : Bool) (failed : Fin 5)
  /-- PMIC_POWER_GOOD_LOSS (R388): A DIMM's PMIC power-good is lost -/
  | pmicPowerGoodLoss (n : Chan)
  /-- PHY_LOCK_LOSS (R388): A DRAM PHY loses lock -/
  | phyLockLoss (n : Chan)
  /-- DRAM_SCRUB (R387): The controller scrub-reads the next line in an idle cycle -/
  | dramScrub (n : Chan) (line : LineAddr) (o : ReadOutcome)
  /-- CETAB_CLEAR (R390): A write of 1 to X_CECTL.CLEAR clears the count and table -/
  | cetabClear (n : Chan)
  /-- CTXCMD_READ (R404): Copies a context's words into the staging registers -/
  | ctxcmdRead (c : Fin 16384)
  /-- CTXCMD_WRITE (R404): Copies staging registers into a disabled context's words 0 to 4 -/
  | ctxcmdWrite (c : Fin 16384)
  /-- CTXCMD_ENABLE (R405): Checks a context, arms its monitor entry and enables it -/
  | ctxcmdEnable (c : Fin 16384)
  /-- CTXCMD_DISABLE (R404): Disables a context, draining a descriptor in progress -/
  | ctxcmdDisable (c : Fin 16384)
  /-- CTXCMD_ABORT (R404): Stops the descriptor in progress at its next segment boundary -/
  | ctxcmdAbort (c : Fin 16384)
  /-- DESCRIPTOR_NOP (R420): Engine operation that does nothing -/
  | descriptorNop (e : Fin 16)
  /-- SCAN_FILTER (R425): Evaluates predicates over rows into a bitmap or row ids -/
  | scanFilter (e : Fin 16)
  /-- PROJECT (R426): Writes selected values packed to DST -/
  | project (e : Fin 16)
  /-- AGGREGATE (R428): Computes count, nulls, sum, min and max into a result block -/
  | aggregate (e : Fin 16)
  /-- HASH_PARTITION (R429): Copies records into partitions by CRC hash of the key -/
  | hashPartition (e : Fin 16)
  /-- GATHER (R427): Writes the values of listed row ids -/
  | gather (e : Fin 16)
  /-- COPY (R430): Copies LEN bytes between non-overlapping ranges -/
  | copy (e : Fin 16)
  /-- FILL (R431): Writes a repeated pattern, whole lines with away bit 0 -/
  | fill (e : Fin 16)
  /-- CRC32C (R432): Computes the CRC-32C of LEN bytes -/
  | crc32c (e : Fin 16)
  /-- SEGMENT_DONE (R433): A segment ends and the engine chooses the next context to serve -/
  | segmentDone (e : Fin 16) (residue : Fin 3)
  /-- COMPLETION_RECORD_WRITE (R418): After the descriptor's writes and room in the ring, the record is written and CHEAD advanced -/
  | completionRecordWrite (e : Fin 16)
  /-- REALM_CAP_PERIOD (R434): Every 256 clauses the realm caps of the engines refill -/
  | realmCapPeriod
  /-- START (R447): RLM.CMD START makes a stopped realm RUNNING, waiting for uniform mode when sealed -/
  | start (realm : Realm) (origin : BitVec 16)
  /-- STOP (R447): RLM.CMD STOP makes a running realm STOPPED with realm exits -/
  | stop (realm : Realm) (origin : BitVec 16)
  /-- BIND (R450): Binds a thread or core pair to a realm -/
  | bind (realm : Realm) (origin : BitVec 16)
  /-- UNBIND (R450): Removes a thread's binding -/
  | unbind (realm : Realm) (origin : BitVec 16)
  /-- PGCMD_ASSIGN (R459): Assigns free pages to a realm after recall and zeroing -/
  | pgcmdAssign (page : BitVec 40)
  /-- RECLAIM (R459): Returns owned pages of an unsealed realm to FREE -/
  | reclaim (page : BitVec 40)
  /-- KEY_ROTATE_SWEEP (R464): The ownership unit re-encrypts the next page of the realm under the new half -/
  | keyRotateSweep
  /-- REALM_RESET_DONE (R476): Every member finished cleanup; the realm becomes STOPPED -/
  | realmResetDone (realm : Realm)
  /-- DOORBELL_POLL (R494): The endpoint reads the doorbell page and adjusts its interval -/
  | doorbellPoll (words : List Word)
  /-- COMMAND_DESCRIPTOR (R496): A command descriptor and extension are read and passed to the ticket engine -/
  | commandDescriptor (desc : BitVec 1024) (ext : List (BitVec 8))
  /-- TICKET_ACCEPT (R504): After the flash write and mirror, the command is accepted and stamped -/
  | ticketAccept
  /-- COMMAND_COMPLETION (R498): A completion record is written when ring room exists, with MSI-X when due -/
  | commandCompletion
  /-- NOP (R507): Command that does nothing -/
  | nop (c : Command)
  /-- PROGRESS (R508): Returns the done and total counts of a long operation -/
  | progress (c : Command)
  /-- OWNER_CLAIM (R510): Makes slot 0 ACTIVE with the given key while every slot is EMPTY -/
  | ownerClaim (c : Command)
  /-- JOIN (R343): The manager starts forming the image -/
  | join (c : Command)
  /-- SET_REGIME (R348): Changes the ordering regime through QUIESCE -/
  | setRegime (c : Command)
  /-- MODE_QUIESCE (R567): MODE target 8 brings the image to QUIESCE -/
  | modeQuiesce (c : Command)
  /-- MODE_JOIN (R570): MODE target 5 re-forms the image from QUIESCE -/
  | modeJoin (c : Command)
  /-- MODE_RUN_I (R566): MODE target 6 returns the image to RUN-I -/
  | modeRunI (c : Command)
  /-- MODE_RUN_S (R566): MODE target 7 returns the image to RUN-S -/
  | modeRunS (c : Command)
  /-- MODE_DRAIN (R571): MODE target 10 drains the image or removes a worker -/
  | modeDrain (c : Command)
  /-- RESET (R576): Resets the target package or every member -/
  | reset (c : Command)
  /-- RESHAPE (R302): Starts a directory reshape to a new port map or span -/
  | reshape (c : Command)
  /-- MEMINIT (R577): Repeats the memory fill and page ownership table -/
  | meminit (c : Command)
  /-- REG_WRITE (R509): Writes an RWT register under a mask -/
  | regWrite (c : Command)
  /-- FW_UPDATE_FIRMWARE (R578): Writes a verified firmware image into the slot that did not boot -/
  | fwUpdateFirmware (c : Command)
  /-- FW_UPDATE_BOARD_RECORD (R578): Writes the board configuration record -/
  | fwUpdateBoardRecord (c : Command)
  /-- FW_UPDATE_FLOOR (R578): Raises the fused SVN floor -/
  | fwUpdateFloor (c : Command)
  /-- EXPERT_GRANT (R511): Installs an expert grant on the named packages -/
  | expertGrant (c : Command)
  /-- EXPERT_REVOKE (R512): Frees the named grants -/
  | expertRevoke (c : Command)
  /-- GRANT_EXPIRED (R512): A grant reaches its expiry clause and is freed -/
  | grantExpired
  /-- TLOG_CLEAR (R635): Advances TAIL on the target or every member -/
  | tlogClear (c : Command)
  /-- REALM_CREATE (R447): Creates a realm, activating its key slot -/
  | realmCreate (c : Command)
  /-- REALM_DESTROY (R449): Destroys a stopped realm -/
  | realmDestroy (c : Command)
  /-- REALM_SEAL (R467): Seals a stopped realm after the seal checks -/
  | realmSeal (c : Command)
  /-- REALM_UNSEAL (R447): Clears SEALED on a stopped realm -/
  | realmUnseal (c : Command)
  /-- KEY_ROTATE (R464): Starts a key rotation for a realm -/
  | keyRotate (c : Command)
  /-- PAGE_RECLAIM (R457): Ticketed reclaim of pages regardless of seal -/
  | pageReclaim (c : Command)
  /-- OWNER_KEY_SET (R510): Replaces an owner key slot's key, keeping LAST -/
  | ownerKeySet (c : Command)
  /-- OWNER_KEY_CLEAR (R510): Makes an owner key slot EMPTY -/
  | ownerKeyClear (c : Command)
  /-- PEER_WINDOW_READ (R490): A host read through BAR2 is performed or refused -/
  | peerWindowRead (tag : BitVec 10) (off : BitVec 36) (len : Fin 4097)
  /-- PEER_WINDOW_WRITE (R490): A host write through BAR2 is performed or refused -/
  | peerWindowWrite (off : BitVec 36) (data : List (BitVec 8))
  /-- WINDOW_WRITE (R492): A write to EPF.WIN takes effect at the next clause boundary -/
  | windowWrite (k : Fin 16) (v : Word) (origin : BitVec 16)
  /-- CONFIG_REQUEST (R487): A configuration request is answered or given Request Retry Status -/
  | configRequest (tag : BitVec 10) (dw : BitVec 10) (write : Option (BitVec 4 × BitVec 32))
  /-- BUS_MASTER_DISABLE (R513): Bus Master Enable is cleared; reads are abandoned and completions held -/
  | busMasterDisable
  /-- FUNCTION_LEVEL_RESET (R513): The function resets its state after outstanding reads end -/
  | functionLevelReset
  /-- PERST_N (R513): PERST_N or hot reset takes the link down and resets the function -/
  | perstN (hot : Bool)
  /-- D_STATE_CHANGE (R514): The function enters D0, D3hot or D3cold -/
  | dStateChange (d : BitVec 2)
  /-- EPF_CONTAINED (R515): Link-down, uncorrectable error or TAKEOVER puts the function in containment -/
  | epfContained (linkDown : Bool) (aer : BitVec 32)
  /-- CONTAINMENT_RELEASE (R516): A write of 1 to the DVSEC RELEASE leaves containment -/
  | containmentRelease
  /-- INBOUND_DMA_WRITE (R520): A root-port inbound write is checked and performed or refused, or raises an interrupt -/
  | inboundDmaWrite (n : Fin 12) (rid : BitVec 16) (pa : BitVec 52) (data : List (BitVec 8))
  /-- INBOUND_DMA_READ (R520): A root-port inbound read is checked and performed or refused -/
  | inboundDmaRead (n : Fin 12) (tag : BitVec 10) (rid : BitVec 16) (pa : BitVec 52) (len : Fin 4097)
  /-- DEVICE_READ_TIMEOUT (R521): A device read with no completion in 50 ms returns all ones -/
  | deviceReadTimeout (n : Fin 12)
  /-- RP_CONTAINED (R522): A root port enters containment -/
  | rpContained (n : Fin 12) (linkDown : Bool) (aer : BitVec 32)
  /-- RP_RELEASE (R522): A write of 1 to OCT[n].RPCTL.RELEASE releases a root port -/
  | rpRelease (n : Fin 12)
  /-- RPASSIGN_WRITE (R519): A write to a root-port assignment entry takes effect or is refused for sealed realms -/
  | rpassignWrite (n : Fin 12) (i : Fin 64) (v : Word) (origin : BitVec 16)
  /-- BRIDGE_FRAME (R535): A bridge frame is accepted or discarded and replayed -/
  | bridgeFrame (d : DiePos) (toDie crcOk : Bool)
  /-- BRIDGE_RETRAIN_DONE (R536): A bridge retrain completes or fails, a failure being UE-P -/
  | bridgeRetrainDone (d : DiePos) (ok : Bool)
  /-- STROBE_LOCK_LOSS (R536): A bridge loses strobe lock: UE-P -/
  | strobeLockLoss (d : DiePos)
  /-- DOMAIN_CLOSED (R549): All credits return and the closing domain is powered down -/
  | domainClosed (d : Fin 96)
  /-- MESH_CLOSE_ABORTED (R549): A domain not closed within 100 µs is opened again -/
  | meshCloseAborted (d : Fin 96)
  /-- DOMAIN_OPEN (R598): A closed domain opens after a RETRY_LATER, BIND, ENABLE or enable clear -/
  | domainOpen (d : Fin 96)
  /-- VAUX_RISE (R559): VAUX enters range and the package enters STANDBY -/
  | vauxRise (mgr stby : Bool)
  /-- VAUX_LOSS (R559): VAUX is lost and the package enters OFF -/
  | vauxLoss
  /-- PWR_GOOD_FALL (R559): PWR_GOOD falls and the package enters STANDBY, losing the trip log -/
  | pwrGoodFall
  /-- RESET_N_ASSERT (R559): RESET_N asserted with PWR_GOOD high takes the package to STANDBY -/
  | resetNAssert
  /-- PWR_GOOD_RISE (R559): PWR_GOOD rises with RESET_N high and the package enters SENSE -/
  | pwrGoodRise (mgr stby : Bool)
  /-- RESET_N_RISE (R559): RESET_N rises with PWR_GOOD high and the package enters SENSE -/
  | resetNRise (mgr stby : Bool)
  /-- TRAIN_START (R560): SENSE completes and bridges, memory, directory ports and octets train -/
  | trainStart (wires : List WireFault) (chans : List ChanTrain) (ports : List PortTrain)
  /-- TRAIN_COMPLETE (R560): Training and memory initialisation complete and the package enters SEALED -/
  | trainComplete
  /-- QUIESCE_CUT (R567): At the cut clause every member holds its sources -/
  | quiesceCut
  /-- QUIESCE_TIMEOUT (R568): A member not reported within 10 ms: HALT-class error -/
  | quiesceTimeout
  /-- QUIESCE_RELEASE (R569): At the release clause members release sources and return to their modes -/
  | quiesceRelease
  /-- DRAIN_DONE (R573): A draining package enters STANDBY with DRAM in self-refresh -/
  | drainDone
  /-- QUANTUM_BOUNDARY (R590): Every 1 ms Parasol sets frequencies, uniform mode and gating from the last quantum -/
  | quantumBoundary (p : BitVec 16) (dies : List Nat)
  /-- SENSOR_SAMPLE (R585): Every 25,000 clauses Parasol samples temperatures, excluding bad sensors -/
  | sensorSample (rs : List (Fin 248 × BitVec 16))
  /-- THERMAL_ALARM (R595): A sensor at or above the alarm temperature activates a throttle alarm -/
  | thermalAlarm (i : Fin 248) (temp : BitVec 16)
  /-- THERMAL_TRIP (R596): A sensor crosses 115 °C; THERMTRIP_N is asserted and the package halts -/
  | thermalTrip (i : Fin 248) (temp : BitVec 16)
  /-- POWER_CLAMP (R592): VIN current crosses 500 A and issue is halved until the boundary -/
  | powerClamp (amps : Nat)
  /-- FREQUENCY_CHANGE_DONE (R588): A cluster's voltage and frequency change completes -/
  | frequencyChangeDone (k : Fin 60)
  /-- MC_WATCHDOG (R607): The MC watchdog lapses after 1 ms: UE-P -/
  | mcWatchdog
  /-- INJECT_ARM (R615): A write to GLB.X_INJECT arms or cancels an error injection -/
  | injectArm (who : Writer) (v : Word)
  /-- TRIP_LOG_RECORD (R624): A record enters the input queue, is stored or dropped, and forwarded to the manager -/
  | tripLogRecord
  /-- SPILL_COPY (R625): A stored record is copied to the spill region -/
  | spillCopy
  /-- RATE_TOKEN (R628): Every 2^SHIFT clauses each bucket of a class gains a token -/
  | rateToken (cls : Fin 16)
  /-- FREEZE (R634): A write to TLG.FREEZE freezes or unfreezes the store -/
  | freeze (on : Bool)
  /-- FREEZE_TIMEOUT (R634): The store unfreezes 1 ms after the freeze began -/
  | freezeTimeout
  /-- COUNTER_DUMP (R656): At each PERIOD multiple the collector latches every counter or skips -/
  | counterDump
  /-- DUMP_NOW (R656): A write of 1 to PCC.B_DUMPCTL.NOW takes an explicit snapshot -/
  | dumpNow
  /-- DUMP_ENABLE (R660): Setting B_DUMPCTL.EN checks the region and starts dumps at number 0 -/
  | dumpEnable
  /-- DUMP_COMMIT (R658): After every line of a dump commits the header is written -/
  | dumpCommit
  /-- PCEV_WRITE (R648): An MTC to c.pcev sets the tag, clears the count and OVF -/
  | pcevWrite (t : ThreadPos) (i : Fin 8) (ra : BitVec 5)
  /-- PCWRITE (R650): An MTC to c.pcwrite presets a visible counter -/
  | pcwrite (t : ThreadPos) (ra : BitVec 5)
  /-- PRS_WRITE (R674): A write to a register without its own row is applied or refused field by field -/
  | prsWrite (who : Writer) (off : BitVec 26) (size : Fin 9) (v : Word)
  /-- ILLEGAL (R60): An instruction word with an unassigned opcode or function code, a nonzero unused field, or all zeros raises ILLEGAL -/
  | illegal (t : ThreadPos) (word : BitVec 32)
  /-- L3_VICTIM_INSTALL (R169): The L3 slice installs an issued victim and acknowledges it, freeing the ISSUED eviction-buffer entry and removing the core from the snoop filter -/
  | l3VictimInstall (c : CorePos) (line : LineAddr)
  /-- CONTROLLER_CYCLE (R373): At each controller cycle the port and realm token buckets refill and the scheduler admits and issues the next eligible DDR5 command -/
  | controllerCycle (n : Chan)
  /-- SELF_REFRESH_ENTRY (R363): A channel that has held memory without traffic in QUIESCE for longer than 1 ms puts its ranks into self-refresh -/
  | selfRefreshEntry (n : Chan)
  /-- BUS_MASTER_ENABLE (R513): Bus Master Enable is set again, and the function writes its held completions and MSI-X messages in their original order and resumes polling -/
  | busMasterEnable
  /-- PCIE_LINK_UP (R487): The link of the endpoint or a root port completes training and comes up, after which a root port can be released -/
  | pcieLinkUp (n : Fin 12) (width speed : BitVec 4)
  /-- DEVICE_READ_COMPLETION (R521): A completion, possibly Unsupported Request or Completer Abort, reaches a root port for a core's outbound device read and finishes the load -/
  | deviceReadCompletion (n : Fin 12) (tag : BitVec 10) (status : Fin 3) (data : Word)
  /-- COMPLETION_TIMEOUT (R486): A read issued by the endpoint function receives no completion within the fixed 50 ms completion timeout -/
  | completionTimeout
  /-- FW_UPDATE_DONE (R578): The boot-flash write of an FW_UPDATE completes, and the package writes code 0009h and the command's final completion -/
  | fwUpdateDone
  /-- NOTICE_SPACING_EXPIRY (R613): The 256-clause spacing or the 250,000-clause CE limit of the notice line runs out, and the deferred notice is written with the accumulated counts -/
  | noticeSpacingExpiry
  deriving DecidableEq, Repr

end Sys2Proof
end

