-- ==== Sys2Proof/Decode.lean ====
section
/-! DEFINITION. Commands from words of the table's bits. -/
namespace Sys2Proof

/-- The command that a word spells by the bits of spec/opcode_table.json: no row has bits, so no word spells one (log entry 40). -/
def decodeTableWord (_nbits _w : Nat) : Option Instr := none

end Sys2Proof
end

