-- ==== Sys2Proof/Config.lean ====
section
/-! DEFINITION. What the spec leaves to the implementation: values without a body, which no proof can see. -/
namespace Sys2Proof.Config

/-- The free value for the `n`-th open value that a run meets (log entry 1). -/
opaque freeWord : Nat → BitVec 64

/-- One piece of work on the path that a thread did not take, as far as R135 lets it leave an effect. -/
inductive WrongWork where
  /-- a conditional transfer resolves (R124) -/
  | cond (pc : BitVec 57) (history : BitVec 256) (taken : Bool) (target : BitVec 57)
  /-- another transfer is predicted and installs its target (R121, R130); `kind` as in the BTB -/
  | jump (pc : BitVec 57) (kind : Fin 5) (target : BitVec 57)
  /-- a load, or a fetch -/
  | access (va : BitVec 57) (fetch : Bool)
  /-- a walk -/
  | walk (va : BitVec 57) (store : Bool)
  deriving DecidableEq, Repr

/-- The work of the `n`-th wrong path that a run meets: which instructions lie on it, and how far they get, is not the model's to
say (log entry 7). -/
opaque wrongPath : Nat → List WrongWork

/-- The 64 bytes of the `n`-th key half that the package generates: the output of its random bit generator (R461, log entry 89). -/
opaque keyBits : Nat → Nat

/-- Whether tininess is detected before rounding: IEEE 754-2019 leaves it to the implementation (log entry 6). -/
opaque tinyBefore : Bool

/-- Whether a fused multiply-add of infinity and zero with a quiet NaN signals invalid: IEEE 754-2019 leaves it to the
implementation (log entry 6). -/
opaque fmaNanInvalid : Bool

/-- The fixed hash of a message's SRC and DST agent identifiers that chooses its octet (R339, which does not give it). -/
opaque routeHash : BitVec 16 → BitVec 16 → Nat

end Sys2Proof.Config
end

