-- ==== Sys2Proof/Machine/Bits.lean ====
section
/-! DEFINITION. Bit fields, bytes of lines and sign extension: the helpers every meaning uses. -/
namespace Sys2Proof.Machine
open Sys2Proof

/-- Bits [hi:lo] of a number. -/
def natBits (n hi lo : Nat) : Nat := (n >>> lo) % 2 ^ (hi - lo + 1)

/-- Bits [hi:lo] of a word, as a number. -/
def bits (w : Word) (hi lo : Nat) : Nat := natBits w.toNat hi lo

/-- The word with bits [hi:lo] replaced by the low bits of `v`. -/
def putBits (w : Word) (hi lo v : Nat) : Word :=
  (w &&& ~~~(BitVec.ofNat 64 ((2 ^ (hi - lo + 1) - 1) * 2 ^ lo))) |||
    BitVec.ofNat 64 ((v % 2 ^ (hi - lo + 1)) * 2 ^ lo)

/-- Bit `i` of a word. -/
def bit (w : Word) (i : Nat) : Bool := w.getLsbD i

/-- 1 for true. -/
def b2n (b : Bool) : Nat := if b then 1 else 0

/-- The low `n` bits of `v` as a signed number. -/
def signedOf (n v : Nat) : Int :=
  let m := v % 2 ^ n
  if m < 2 ^ (n - 1) then (m : Int) else (m : Int) - (2 ^ n : Nat)

/-- A signed number as a word, modulo 2^64. -/
def wordOfInt (i : Int) : Word := BitVec.ofInt 64 i

/-- The low `n` bits of `v`, sign-extended to a word. -/
def sextNat (n v : Nat) : Word := wordOfInt (signedOf n v)

/-- `n` bytes of a line from byte `off`, little-endian (R3). -/
def lineNat (l : Line) (off n : Nat) : Nat := (l.toNat >>> (8 * off)) % 2 ^ (8 * n)

/-- Byte `i` of a line. -/
def lineByte (l : Line) (i : Nat) : Byte := BitVec.ofNat 8 (l.toNat >>> (8 * i))

/-- The line with `n` bytes from byte `off` replaced by the low bytes of `v`. -/
def putLine (l : Line) (off n v : Nat) : Line :=
  (l &&& ~~~(BitVec.ofNat 512 ((2 ^ (8 * n) - 1) * 2 ^ (8 * off)))) |||
    BitVec.ofNat 512 ((v % 2 ^ (8 * n)) * 2 ^ (8 * off))

/-- A byte mask as a bit mask over the low `n` bytes. -/
def maskNat (m : Nat) : Nat → Nat
  | 0 => 0
  | n + 1 => maskNat m n + (if m.testBit n then 255 * 2 ^ (8 * n) else 0)

/-- A byte-valid mask as a mask over the bits of a line (R160). -/
def maskLine (m : BitVec 64) : Line := BitVec.ofNat 512 (maskNat m.toNat 64)

/-- `old` with the bytes that `m` names taken from `new`. -/
def mergeLine (old new : Line) (m : BitVec 64) : Line :=
  (old &&& ~~~maskLine m) ||| (new &&& maskLine m)

/-- The byte-valid mask of `n` bytes from `off`. -/
def byteMask (off n : Nat) : BitVec 64 := BitVec.ofNat 64 ((2 ^ n - 1) * 2 ^ off)

/-- The line address of a physical address. -/
def lineOf (pa : Nat) : LineAddr := BitVec.ofNat 46 (pa / 64)

/-- The physical address of the first byte of a line. -/
def lineBase (a : LineAddr) : Nat := a.toNat * 64

/-- The package of a line address, PA[51:47] (R229). -/
def linePkg (a : LineAddr) : Nat := a.toNat / 2 ^ 41

/-- The local offset of a line, PA[46:6] * 64. -/
def lineLocal (a : LineAddr) : Nat := (a.toNat % 2 ^ 41) * 64

/-- Smaller of `v` and `m`: a saturating count. -/
def satTo (m v : Nat) : Nat := if v ≤ m then v else m

/-- `v` held within [lo, hi]. -/
def clampTo (lo hi v : Nat) : Nat := if v < lo then lo else if hi < v then hi else v

/-- XOR of the bits of a number below `n`: the parity of R368's hashes. -/
def parityBits (v : Nat) : Nat → Bool
  | 0 => false
  | n + 1 => Bool.xor (v.testBit n) (parityBits v n)

/-- The numbers below `n`, ascending. -/
def upTo (n : Nat) : List Nat := List.range n

/-- How many of the low `n` bits of `v` are 1. -/
def popBits (v : Nat) : Nat → Nat
  | 0 => 0
  | n + 1 => popBits v n + b2n (v.testBit n)

end Sys2Proof.Machine
end

