-- ==== Sys2Proof/Machine/State.lean ====
section
/-! DEFINITION. The state of one LK-2160 package, as plain data, and the state right after reset. Each structure names the
rules of spec/ that give its fields. A table lists only what differs from its default. -/
namespace Sys2Proof.Machine

/-! ## Threads (R55, R101 to R107, R148 to R153) -/

/-- The banked control registers 008h to 010h, one copy for S and one for H (R101). -/
structure Bank where
  epc : Word := 0
  enpc : Word := 0
  estatus : Word := 0
  ecause : Word := 0
  eaddr : Word := 0
  vbase : Word := 0
  scratch : Word := 0
  tcmp : Word := 0
  ttbase : Word := 0
  deriving DecidableEq, Repr

/-- Where the answer of a memory access outside the core goes, when it arrives. -/
inductive Dest where
  /-- a load into rd; `mask` names the bytes that older stores of the thread supply, `over` their values (R165) -/
  | load (op : LoadOp) (rd : BitVec 5) (mask : BitVec 8) (keep : Word)
  /-- a far atomic's old value into rd (R75) -/
  | atomic (rd : BitVec 5) (wide : Bool)
  /-- nothing but the completion is awaited: a CACHE instruction, a device store -/
  | done
  deriving DecidableEq, Repr

/-- What keeps a thread from starting its next instruction. -/
inductive Wait where
  | ready
  /-- WFI (R84) -/
  | wfi
  /-- WAITD on a line, with its timeout in clauses and the register that takes the status (R96) -/
  | waitd (line : LineAddr) (until? : Option Word) (rd : BitVec 5)
  /-- an access with transaction number `tid` is outstanding beyond the core -/
  | access (tid : BitVec 12) (dest : Dest)
  /-- SYNC.T waits for TlbiAcks (R88) -/
  | syncT
  /-- stopped: the thread left its realm with the core fenced, or its package is not in a running mode (R145, R608) -/
  | stopped
  deriving DecidableEq, Repr

/-- One outstanding TLBI of a thread (R270). -/
structure TlbiOut where
  seq : BitVec 16
  issued : Word
  /-- packages whose TlbiAck has not arrived -/
  left : List Nat
  args : TlbiArgs
  /-- the control word and the address as the instruction gave them (R227) -/
  control : Word := 0
  va : Word := 0
  deriving DecidableEq, Repr

/-- The answer to a thread's OwnChk for one 4 KiB page (R212). -/
structure OwnQuery where
  page : Nat
  tid : BitVec 12
  answer : Option Bool
  deriving DecidableEq, Repr

/-- An A or D update of a table entry: its address, the value read, the value to store, and the transaction once sent (R213). -/
structure AdUpdate where
  ea : Nat
  va : BitVec 57 := 0
  old : Word
  new : Word
  tid : Option (BitVec 12) := none
  deriving DecidableEq, Repr

structure Thread where
  /-- g1 to g31; g0 is not stored (R55) -/
  g : Tbl Word := []
  v : Tbl (BitVec 256) := []
  /-- k1 to k7; k0 is not stored (R55) -/
  k : Tbl (BitVec 32) := []
  pc : BitVec 57 := 0
  /-- `some n`: the instruction at `pc` is an executing delay slot, and `n` is the transfer's next address (R66) -/
  slot : Option (BitVec 57) := none
  status : Word := 2
  realm : Realm := 0
  fpcsr : Word := 0
  s : Bank := {}
  h : Bank := {}
  /-- c.predctl PARTITIONED, SLOT, and RSCLR_EXC as S has it (R149) -/
  predctl : Word := 0
  /-- c.predctl.RSCLR_EXC as H has it: the field speaks of exception entries to the level that holds it (R149, log entry 82) -/
  rsclrH : Bool := false
  /-- c.smtctl WEIGHT (R150) -/
  weight : BitVec 4 := 8
  /-- c.rsstat STOP and PLACED (R151) -/
  rsstat : Word := 0
  /-- pending interrupt classes taken at S, by SUB (R109) -/
  pendS : List IntClass := []
  /-- pending interrupt classes routed to H -/
  pendH : List IntClass := []
  wait : Wait := .ready
  tlbis : List TlbiOut := []
  tlbiSeq : BitVec 16 := 0
  /-- ownership questions of the present instruction, with their answers (R212) -/
  own : List OwnQuery := []
  /-- an A or D update that the walk waits for (R213) -/
  ad : Option AdUpdate := none
  /-- a line whose request the home refused (R455) -/
  refused : Option LineAddr := none
  /-- global history, bit 0 newest (R122) -/
  history : BitVec 256 := 0
  /-- return stack entries, target [56:2] (R129) -/
  rstack : Tbl (BitVec 55) := []
  rtop : BitVec 5 := 0
  /-- realms whose context on this thread last exited by HCALL (R115 step 3) -/
  hcallExits : List Nat := []
  /-- an acquire or full fence waits for the thread's older stores (R163 item 5) -/
  drainWanted : Bool := false
  /-- the next instruction has missed L1D, L2, the DTLB, when it is retried (events 09h, 0Ah, 0Dh of R651) -/
  missL1 : Bool := false
  missL2 : Bool := false
  missTlb : Bool := false
  /-- the sealed realm for which the thread waits at RENTER (R469) -/
  renter : Option Nat := none
  /-- the residue-marked instruction: its unit and whether a retry has failed (R143, R144) -/
  residue : Option (Nat × Bool) := none
  /-- the marked instruction was executed again without a mismatch and retires before an interrupt is taken (R144) -/
  retried : Bool := false
  /-- SUB of a realm exit that waits for the answer of an access already sent, which is performed only once (R100) -/
  exitDue : Option Nat := none
  /-- the thread left its realm and accesses made there are not all performed: H starts nothing before they are (R116) -/
  exitFence : Bool := false
  deriving DecidableEq, Repr

/-! ## Cores (R121 to R128, R142 to R146, R155 to R189, R217) -/

/-- A BTB entry (R121). `kind`: 0 conditional, 1 jump, 2 call, 3 return, 4 other register jump. -/
structure Btb where
  tag : BitVec 16
  realm : Realm
  kind : Fin 5
  target : BitVec 55
  deriving DecidableEq, Repr

structure L1Line where
  line : LineAddr
  data : Line
  /-- the realm whose access brought it in, for a line that no L2 line covers (R158, R184) -/
  realm : Realm := 0
  /-- a latched parity error (R615) -/
  bad : Bool := false
  deriving DecidableEq, Repr

/-- A line of an L2 or an L3 (R158). `bad`: latched bit errors, 0 none, 1 single, 2 double (R179). -/
structure CLine where
  line : LineAddr
  st : CState
  realm : Realm
  data : Line
  bad : Nat := 0
  tagBad : Bool := false
  /-- the copy has been forwarded subjunctively: state OF (R246) -/
  frozen : Bool := false
  /-- it was forwarded for an RdX (R246 column SubDone) -/
  frozenX : Bool := false
  deriving DecidableEq, Repr

/-- A merging-buffer entry (R160). -/
structure MbEntry where
  line : LineAddr
  data : Line
  mask : BitVec 64
  /-- the thread of the core that allocated it, 0 or 1 -/
  thread : Fin 2
  realm : Realm
  closed : Bool := false
  uncached : Bool := false
  /-- it holds ZERO.VA's zeros (R167) -/
  zero : Bool := false
  /-- the clause of the last store into it (R163 item 4) -/
  lastStore : Word := 0
  bad : Bool := false
  /-- the partial write of this entry that is outstanding (R166, R184) -/
  sent : Option (BitVec 12) := none
  deriving DecidableEq, Repr

/-- An eviction-buffer entry (R169). -/
structure EbEntry where
  idx : Nat
  line : LineAddr
  st : CState
  realm : Realm
  data : Line
  issued : Bool := false
  /-- where an issued entry went: true the L3 slice, false the home -/
  toL3 : Bool := false
  tid : BitVec 12 := 0
  /-- its copy was taken by a snoop after issue: state WI (R246) -/
  taken : Bool := false
  /-- latched bit errors: 0 none, 1 single, 2 double (R179) -/
  bad : Nat := 0
  /-- the victim of a CACHE instruction, which goes to the home (R168) -/
  cacheOp : Bool := false
  /-- its data was discarded after a double-bit error that is recorded: it holds no copy (R179, R246) -/
  gone : Bool := false
  /-- the discarded data was dirty: the home is told by a notice with LOST (R179) -/
  lost : Bool := false
  deriving DecidableEq, Repr

/-- An outstanding RdS, RdX, Upg or RdZ of a core's L2 (R246). -/
structure Txn where
  tid : BitVec 12
  line : LineAddr
  kind : MsgType
  /-- IS, IM or UM -/
  held : CState := .I
  thread : Fin 2
  realm : Realm
  /-- a fetch asked for it: with the L2 disabled its line enters the L1I (R184) -/
  instr : Bool := false
  data : Option Line := none
  fromCache : Option Pkg := none
  /-- the grant of a Cmp that arrived before its Data -/
  cmp : Option CState := none
  conf : Bool := false
  refuted : Bool := false
  /-- a subjunctive request holds a subjunctive-buffer entry (R263) -/
  sub : Bool := false
  subData : Option Line := none
  /-- the address of the oldest instruction that consumed the subjunctive data (R264) -/
  consumer : Option (BitVec 57) := none
  /-- a latched parity error of the subjunctive-buffer entry: whether one strikes is a free value (R280, log entry 84) -/
  subBad : Bool := false
  /-- the entry was discarded after a parity error and stays reserved until the home answers (R280) -/
  subLost : Bool := false
  deriving DecidableEq, Repr

/-- A TLB entry (R218). `level`: the leaf's level, 0 to 3; `group`: a contiguous group kept as one entry (R209); `small`: the
4 KiB translation an L1 TLB holds (R217). -/
structure Tlb where
  realm : Realm
  hreg : Bool
  asn : BitVec 16
  global : Bool
  va : BitVec 57
  level : Nat
  group : Bool
  small : Bool
  /-- the leaf: attributes as read, ADDR that of the first byte of the entry's range -/
  leaf : Word
  bad : Bool := false
  /-- the way of its set, in the L2 TLB; the place, in an L1 TLB (R217) -/
  way : Nat := 0
  deriving DecidableEq, Repr

/-- A walk-cache entry: a table entry of levels 4 to 1 (R217). -/
structure WalkEntry where
  realm : Realm
  hreg : Bool
  asn : BitVec 16
  va : BitVec 57
  level : Nat
  next : PA
  bad : Bool := false
  /-- the way of its set (R217) -/
  way : Nat := 0
  deriving DecidableEq, Repr

/-- One line of a thread's context block that a realm exit writes (R116, log entry 8). -/
structure CtxWrite where
  line : LineAddr
  realm : Realm
  data : Line
  thread : Nat
  deriving DecidableEq, Repr

structure Core where
  btb : Tbl Btb := []
  /-- BTB ways of a set, most recently used first -/
  btbOrder : Tbl (List Nat) := []
  t0 : Tbl Nat := []
  t1 : Tbl Nat := []
  t2 : Tbl Nat := []
  /-- SEL_A * 4 + SEL_B (R123) -/
  chooser : Tbl Nat := []
  /-- a predictor flush is in progress (R127) -/
  flushing : Bool := false
  l1i : Tbl L1Line := []
  l1d : Tbl L1Line := []
  l2 : Tbl CLine := []
  /-- tree bits per set (R175) -/
  plruI : Tbl Nat := []
  plruD : Tbl Nat := []
  plru2 : Tbl Nat := []
  mb : List MbEntry := []
  eb : List EbEntry := []
  txns : List Txn := []
  nextTid : BitVec 12 := 0
  itlb : List Tlb := []
  dtlb : List Tlb := []
  l2tlb : List Tlb := []
  walks : List WalkEntry := []
  fenced : Bool := false
  /-- c.resstat RETRIES (R152) -/
  retries : BitVec 32 := 0
  /-- c.cachectl MB_IDLE (R187) -/
  mbIdle : BitVec 8 := 8
  l2Dis : Bool := false
  /-- the disable bit was written and FLUSHING rises at the next clause tick (R182) -/
  l2FlushDue : Bool := false
  l2Flushing : Bool := false
  /-- c.cacheerr (R188) -/
  cacheerr : Word := 0
  /-- context-block lines not yet sent, and the writes sent and not yet completed (R116) -/
  ctxWrites : List CtxWrite := []
  ctxOut : List (BitVec 12) := []
  /-- transactions whose response is discarded when it arrives, their thread having left its realm (R476) -/
  discards : List (BitVec 12) := []
  /-- the set the L2 scrubber reads next (R180) -/
  scrub2 : Nat := 0
  /-- c.pcsample (R662) -/
  pcsample : Word := 0
  deriving DecidableEq, Repr

/-! ## Compute dies (R173, R233, R250, R267) -/

/-- A snoop-filter entry (R233). `owner`: the owner core, when one L2 owns the line. -/
structure SfEntry where
  cores : List Nat
  owner : Option Nat := none
  st : CState := .S
  /-- a request of the die is outstanding at agent h: BZ (R250) -/
  busy : Bool := false
  bad : Nat := 0
  /-- the way of its set (R233) -/
  way : Nat := 0
  deriving DecidableEq, Repr

/-- An owner-prediction entry (R267). -/
structure OwnerPred where
  tag : BitVec 34
  realm : Realm
  pkg : Pkg
  conf : Nat
  deriving DecidableEq, Repr

structure Die where
  /-- enabled cores, as the fuses record (R10); bit cluster * 4 + core -/
  enabled : BitVec 20 := 0x3ffff
  fenced : Bool := false
  /-- snoop-filter entries by line address -/
  sf : Tbl SfEntry := []
  /-- L3 lines by slice * 65536 + set * 16 + way -/
  l3 : Tbl CLine := []
  /-- X_L3CTL.DIS was written and FLUSHING rises at the next clause tick (R182) -/
  flushDue : Bool := false
  /-- L3 ways of a set, most recently used first, by slice * 4096 + set (R173) -/
  l3Order : Tbl (List Nat) := []
  /-- the set each slice scrubs next (R180) -/
  scrub3 : Tbl Nat := []
  /-- owner-prediction table, 4,096 entries (R267) -/
  preds : Tbl OwnerPred := []
  /-- reservation credits the die holds: agent * 2 + pool, pool 0 requests, 1 writebacks (R241) -/
  creds : Tbl Nat := []
  /-- TLBIs the die has been sent and not yet answered (R270) -/
  tlbis : List TlbiArgs := []
  /-- writebacks and notices of the L3 slices that the home has not acknowledged (R172) -/
  wbs : List EbEntry := []
  deriving DecidableEq, Repr

/-! ## The trip log and clause resolution (R27 to R31, R40 to R42, R621 to R642) -/

/-- A record on its way into the store, with the rank that orders it within its clause (R31). -/
structure QRec where
  /-- the clause with which it is processed (R42) -/
  proc : Word
  rank : Nat
  r : Rec
  deriving DecidableEq, Repr

/-- Records of one code that its empty bucket has suppressed (R628, R629). -/
structure Suppressed where
  count : Nat := 0
  first : Word := 0
  last : Word := 0
  deriving DecidableEq, Repr

/-- An event the manager has not yet resolved (R40). -/
structure Event where
  stamp : Word
  rank : Nat
  /-- package | die | source index, the tie-breaking keys of R28 -/
  origin : BitVec 16
  kind : EventKind
  recs : List Rec := []
  /-- the package has acted on it at once (R41) -/
  acted : Bool := false
  /-- a late event: the clause with which it is resolved (R42) -/
  due : Option Word := none
  deriving DecidableEq, Repr

structure TripLog where
  /-- records by slot, index modulo 65,536 (R623) -/
  store : Tbl Rec := []
  /-- the input queue, next to store first (R624) -/
  queue : List QRec := []
  /-- dropped since the last record of code 00E4h (R624) -/
  dropDue : Bool := false
  /-- tokens by code, where they differ from the DEPTH of the code's class (R628) -/
  buckets : Tbl Nat := []
  suppressed : Tbl Suppressed := []
  /-- the clause at which the present freeze began (R634) -/
  frozenAt : Option Word := none
  deriving DecidableEq, Repr

/-- The notice line (R613). -/
structure Notice where
  /-- the error to note: code, realm, origin -/
  due : Option (Nat × Nat × BitVec 16) := none
  stamp : Word := 0
  /-- a UE-R is among the errors to note -/
  ueDue : Bool := false
  /-- NOTICES: written since SENSE entry -/
  count : Nat := 0
  /-- SEQUENCE of the record of the error to note, once it is stored -/
  seq : Option Nat := none
  /-- the clause of the last write, and of the last write for a CE -/
  last : Option Word := none
  lastCe : Option Word := none
  deriving DecidableEq, Repr

/-! ## Home agents and proxies (R228 to R273) -/

/-- A request at a home agent or a proxy: kind, header, content, and the points of R256 that its arrival fixes (R274). -/
structure HReq where
  kind : MsgType
  hdr : Hdr
  body : Body := .none
  arrival : Word := 0
  settleAt : Word := 0
  leadAt : Word := 0
  /-- it arrived on an idle line with nothing held: the lead (R256) -/
  lead : Bool := false
  /-- a request of higher stamp and rank for the line was served before it arrived (R256 step 4) -/
  overtake : Bool := false
  deriving DecidableEq, Repr

/-- The home states of R254; a line without a transaction is idle. -/
inductive HPhase where
  | tw | ts | ta | tr
  deriving DecidableEq, Repr

/-- What a transaction at an agent is for. -/
inductive TxnKind where
  /-- a request served by the home (R252) -/
  | request
  /-- the recall of a line whose region's owner changes: SnpH with KEEP_S to the owner package (R236) -/
  | ownerRecall
  /-- the recall of a line of an evicted directory entry (R296) -/
  | dirRecall
  /-- the recall of a line of a replaced presence entry (R232) -/
  | presRecall
  /-- the recall of a line of a page that changes its owner, with dirty data discarded (R459) -/
  | pageRecall
  /-- a proxy serves a request of its package (R230, R692) -/
  | proxyServe
  /-- a proxy applies a snoop of the home to its dies (R251) -/
  | proxySnoop
  deriving DecidableEq, Repr

/-- The transaction active on a line at a home agent or a proxy (R252 to R255, R692). -/
structure HTxn where
  line : LineAddr
  kind : TxnKind := .request
  req : HReq
  phase : HPhase
  /-- snoop answers not yet received -/
  answers : Nat := 0
  memWait : Bool := false
  dirWait : Bool := false
  /-- the directory has been looked up -/
  looked : Bool := false
  /-- the holders have been found and snooped -/
  decided : Bool := false
  /-- data read from memory -/
  mem : Option Line := none
  /-- the new state and DIRTY of the owner's FwdAck -/
  fwd : Option (CState × Bool) := none
  /-- data of SnpData -/
  wdata : Option Line := none
  /-- the owner snooped: a die below 12, or 64 + package -/
  owner : Option Nat := none
  /-- the owner answered without a forward or data (R691), with KEEP_S or not -/
  noOwner : Option Bool := none
  lost : Bool := false
  /-- some answer carried WBP, BROKEN, KEEP_S or was not SnpNone: what a proxy combines (R251) -/
  wbp : Bool := false
  broken : Bool := false
  kept : Bool := false
  held : Bool := false
  /-- a subjunctive forward of the owner is confirmed (R263) -/
  conf : Bool := false
  /-- the requester held the line when its Upg was served (R252) -/
  upgHeld : Bool := false
  /-- lines whose recall the transaction waits for in TR (R236) -/
  recalls : List LineAddr := []
  /-- the clause at which the present wait began (R245) -/
  since : Word := 0
  /-- snoops of the home that a package-local transaction holds (R692) -/
  heldSnoops : List Msg := []
  deriving DecidableEq, Repr

/-- A recall that waits for its line to become idle (R236, R296). `dies` and `pkgs` are the holders to snoop, where the recall's
record names them; `owner` the owner among them, a die below 12 or 64 + package. -/
structure Recall where
  line : LineAddr
  kind : TxnKind
  dies : List Nat := []
  pkgs : List Nat := []
  owner : Option Nat := none
  realm : Realm := 0
  deriving DecidableEq, Repr

/-- A SubFwd kept for its request (R254): its line, the request's TID and rank, and what it said. -/
structure SubFwdKept where
  line : LineAddr
  tid : BitVec 12
  rank : BitVec 16
  pkg : Nat
  forwarded : Bool
  st : CState
  dirty : Bool := false
  broken : Bool := false
  deriving DecidableEq, Repr

/-- A presence-table entry (R232): the die vector, and per line its state, as the directory encodes it, and its owner die. -/
structure Presence where
  dies : BitVec 12 := 0
  st : Tbl Nat := []
  owner : Tbl Nat := []
  bad : Nat := 0
  /-- the way of its set (R232) -/
  way : Nat := 0
  deriving DecidableEq, Repr

/-- What the transactions of one line have left at its home: the state the directory records of it, and the holders that were granted it
and have not lost it since, dies and packages (R252: an Upg whose requester no longer holds the line; R287: the strongest state of a
field's lines). -/
structure LineRec where
  st : Nat := 0
  keys : List Nat := []
  deriving DecidableEq, Repr

/-- A lane of a write journal on which records are on their way (R261): the sequence number of the next record, those of the records
not yet visible, WRITE as last written, and the writes of WRITE not yet complete. -/
structure JrnLane where
  next : Nat
  out : List Nat := []
  done : Nat
  writes : Nat := 0
  deriving DecidableEq, Repr

/-- A directory entry (R283): LSTATE as 16 two-bit fields. `bad`: latched bit errors, 0 none, 1 single, 2 uncorrectable. -/
structure DirEntry where
  gen : Nat := 0
  quot : Nat := 0
  lstate : BitVec 32 := 0
  sharers : BitVec 32 := 0
  owner : Nat := 0
  age : Nat := 0
  bad : Nat := 0
  deriving DecidableEq, Repr

/-- A set control location (R290); ORDER lists ways, youngest first. -/
structure SetCtl where
  valid : BitVec 8 := 0
  disp : BitVec 8 := 0
  order : List Nat := [7, 6, 5, 4, 3, 2, 1, 0]
  oldgen : BitVec 8 := 0
  deriving DecidableEq, Repr

/-- A displacement-table pointer (R291). -/
structure DispPtr where
  port : Nat
  set : Nat
  gen : Nat
  quot : Nat
  way : Nat
  deriving DecidableEq, Repr

/-- A recall-buffer entry (R296): the evicted entry with its key and span, and the lines whose recall is not complete. -/
structure RecallEntry where
  key : Nat
  span : Nat
  entry : DirEntry
  left : List LineAddr
  deriving DecidableEq, Repr

structure Home where
  txns : List HTxn := []
  /-- requests held under R256 or R262, or behind a proxy's transaction, in order of arrival -/
  held : List HReq := []
  recalls : List Recall := []
  kept : List SubFwdKept := []
  presence : Tbl Presence := []
  /-- regions of the presence table, least recently allocated last -/
  presOrder : List Nat := []
  /-- the recall buffer (R296) -/
  recallBuf : List RecallEntry := []
  /-- per line, the highest stamp and rank served (R256 step 4) -/
  served : Tbl (Word × BitVec 16) := []
  /-- requests present from each source: die below 12, or 64 + package (R241) -/
  reqUsed : Tbl Nat := []
  wbUsed : Tbl Nat := []
  /-- reservation credits a proxy holds at the homes: package * 2 + pool (R241) -/
  creds : Tbl Nat := []
  /-- messages that wait for a credit of the home -/
  waiting : List Msg := []
  /-- lines whose RdX a proxy turned into an Upg after dirty data moved on its package (R230, R231) -/
  moved : List LineAddr := []
  /-- lines a proxy has marked frozen (R692) -/
  frozen : List LineAddr := []
  /-- partition sizes in force: the X_CREDIT word the agent took at JOIN (R276, R277) -/
  credit : Word := 0x0205070C
  /-- lanes that have lost a record since the last one stored, by the address of WRITE[i] (R261) -/
  jrnLost : Tbl Nat := []
  /-- lanes with records on their way, by the address of WRITE[i] -/
  lanes : Tbl JrnLane := []
  /-- the writes of those lanes: TID, the address of WRITE[i], and the sequence number of a record, none for a write of WRITE[i] -/
  jrnOut : List (BitVec 12 × Nat × Option Nat) := []
  /-- per line, what its transactions have left (R252, R287) -/
  recs : Tbl LineRec := []
  nextTid : BitVec 12 := 0
  deriving DecidableEq, Repr

/-- The memory port of an agent of the I/O die: lines read and not yet used, reads and writes outstanding by TID, lines whose read
failed, and those the home refused. -/
structure Port where
  lines : List (LineAddr × Line) := []
  reads : List (BitVec 12 × LineAddr) := []
  writes : List (BitVec 12 × LineAddr) := []
  failed : List LineAddr := []
  refused : List LineAddr := []
  nextTid : BitVec 12 := 0
  /-- reads whose Data has come before their Cmp, and Cmps whose Data has not come (R247) -/
  got : List (BitVec 12) := []
  cmps : List Hdr := []
  deriving DecidableEq, Repr

/-- A request at a DRAM controller that does not go through the home: an uncached access (R374). -/
structure UcReq where
  line : LineAddr
  msg : Msg
  deriving DecidableEq, Repr

/-- What a page step is for: a register command, a ticketed reclaim, or a realm destroy (R457, R459). -/
inductive PageWhy where
  | register
  | ticket (c : Command)
  | destroy
  deriving DecidableEq, Repr

/-- Pages that are being assigned or reclaimed (R459): those left, in order, as local page numbers; how many are done; whether
the first of those left is in TRANSIT. -/
structure PageJob where
  why : PageWhy
  realm : Nat
  assign : Bool
  first : Nat
  pages : List Nat
  done : Nat := 0
  active : Bool := false
  deriving DecidableEq, Repr

/-- A realm command that waits its turn (R448): a ticketed one, or a write of RLM.CMD with its command code and its origin. -/
inductive RealmTask where
  | ticket (c : Command)
  | reg (cmd realm : Nat) (arg0 arg1 : Word) (origin : BitVec 16)
  deriving DecidableEq, Repr

/-- What the manager waits for on every member: the reset of a realm, with the code of its cause and the package (R476); a
destroy (R449); a key rotation (R464). -/
inductive RealmWaitKind where
  | reset (code : Nat) (pkg : Nat)
  | destroy (c : Command)
  | rotate (c : Command)
  deriving DecidableEq, Repr

structure RealmWait where
  kind : RealmWaitKind
  realm : Nat
  started : Word
  waiting : List Nat
  deriving DecidableEq, Repr

/-- A command whose parts the manager has sent to members: who has still to answer, the first status that is not OK with its
results, and the sums of the results (R505, R506). -/
structure MemberJob where
  cmd : Command
  waiting : List Nat
  status : Nat := 0
  r0 : Nat := 0
  r1 : Nat := 0
  started : Word
  deriving DecidableEq, Repr

/-- A sweep of this package: the realm, the pages left in page order, and how many it began with (R464). -/
structure Sweep where
  realm : Nat
  pages : List Nat
  total : Nat
  deriving DecidableEq, Repr

structure Realms where
  pageJobs : List PageJob := []
  /-- the command that waits for uniform mode or for a domain to open, and those behind it (R447, R598) -/
  hold : Option RealmTask := none
  queue : List RealmTask := []
  waits : List RealmWait := []
  sweeps : List Sweep := []
  /-- realms whose threads a UE-R of this package has stopped, until STATE shows it (R29, R476 step 1) -/
  stopped : List Nat := []
  /-- pages reclaimed by the last destroy of this package, by realm -/
  destroyed : Tbl Nat := []
  /-- latched errors of a key slot's copies: bit 0 copy 0, bit 1 copy 1 (R461) -/
  keyBad : Tbl Nat := []
  /-- latched errors of the page-ownership cache by line of the table: 1 one bit, 2 uncorrectable (R456) -/
  ownBad : Tbl Nat := []
  deriving DecidableEq, Repr

/-- A domain that Parasol opens and closes (R549, R597, R598). -/
inductive DomainPhase where
  | opened
  | closing
  | closed
  | opening
  deriving DecidableEq, Repr

structure Domain where
  phase : DomainPhase := .opened
  /-- the clause at which the phase began -/
  since : Word := 0
  /-- consecutive quanta for which its condition has held, and quanta for which it is not closed again -/
  idle : Nat := 0
  rest : Nat := 0
  /-- Parasol has begun to flush the cluster's L2s (R597) -/
  flush : Bool := false
  deriving DecidableEq, Repr

/-! ## Bridges, the mesh, Parasol (R535, R551, R584 to R598) -/

/-- A bridge: consecutive replays of the present frame by direction (0 toward the I/O die), replays since the last record of code
3010h, and whether a retrain runs (R535, R536). -/
structure Bridge where
  run : Tbl Nat := []
  since : Option Nat := none
  retrain : Bool := false
  deriving DecidableEq, Repr

/-- A packet held after RETRY_LATER (R551): its domain, the clauses of its first refusal and of its next resend. -/
structure HeldPacket where
  msg : Msg
  dom : Nat
  first : Word
  next : Word
  deriving DecidableEq, Repr

/-- A temperature sensor as Parasol follows it (R585, R586), in degrees Celsius: its last reading, how many samples in a row gave it,
whether a neighbour changed meanwhile, and the hottest reading of the quantum. -/
structure Sensor where
  last : Int := 0
  run : Nat := 0
  moved : Bool := false
  excluded : Bool := false
  hot : Option Int := none
  deriving DecidableEq, Repr

structure Parasol where
  /-- die * 20 + sensor for the clusters' sensors, 240 to 247 for those of the I/O die -/
  sensors : Tbl Sensor := []
  /-- frequency changes ordered and not complete, by cluster -/
  target : Tbl Nat := []
  /-- F of uniform mode (R594) -/
  f : Nat := 0
  /-- consecutive quanta above the cap, P of the last quantum, and whether code 6003h has been written in this one (R591, R592) -/
  past : Nat := 0
  lastP : Nat := 0
  clampRec : Bool := false
  /-- when the active alarms of clusters, and those of channels, began (R595) -/
  alarms : Tbl Word := []
  dimmHot : Tbl Word := []
  /-- THM.B_ALARM.TEMP as it took effect at the last boundary (R600) -/
  temp : Nat := 0x64
  deriving DecidableEq, Repr

/-! ## Predicate-engine contexts (R402, R408) -/

/-- Words 0 to 6 of a ring context (R403); word 7 is reserved. -/
structure RingCtx where
  w0 : Word := 0
  w1 : Word := 0
  w2 : Word := 0
  w3 : Word := 0
  w4 : Word := 0
  w5 : Word := 0
  w6 : Word := 0
  deriving DecidableEq, Repr

/-- A doorbell monitor entry (R408). `bad`: a latched error of the table, 0 none, 1 single-bit, 2 uncorrectable (R439). -/
structure Monitor where
  line : LineAddr
  ctx : Nat
  engine : Nat
  armed : Bool
  bad : Nat := 0
  deriving DecidableEq, Repr

/-- The descriptor in progress of a context (R414 to R416). -/
structure EngRun where
  /-- HEAD of the descriptor, and its context -/
  head : Nat
  ctx : Nat := 0
  /-- its eight words, once read -/
  words : List Word := []
  /-- rows, records, ids or bytes finished, in whole segments -/
  pos : Nat := 0
  /-- rows selected, values, records or bytes written so far -/
  out : Nat := 0
  /-- bytes or bits read and not yet written -/
  buf : Nat := 0
  /-- AGGREGATE: rows and nulls, the sum, the extremes -/
  cnt : Nat := 0
  nulls : Nat := 0
  sum : Int := 0
  ext : Option (Int × Int) := none
  /-- HASH-PARTITION: FILL of the partitions that have grown -/
  fills : Tbl Nat := []
  /-- the CRC register -/
  crc : BitVec 32 := 0
  /-- its status, once it has ended, with RESULT, OVF and EMPTY -/
  status : Option Nat := none
  result : Word := 0
  ovf : Bool := false
  empty : Bool := false
  /-- an ABORT is to stop it at its next segment boundary (R404) -/
  abort : Bool := false
  /-- its record is written, and the write is not yet complete (R418) -/
  written : Bool := false
  deriving DecidableEq, Repr

/-- What the engines keep of a context beside its words. -/
structure CtxRun where
  run : Option EngRun := none
  /-- the status of a doorbell read that failed, its record still to write, and whether it is written (R411) -/
  bell : Option Nat := none
  bellOut : Bool := false
  /-- CONSUMED as the last doorbell read found it -/
  consumed : Nat := 0
  /-- the writes of its descriptors and records that may be outstanding at its engine's port (R415, R418) -/
  wrs : List (BitVec 12) := []
  deriving DecidableEq, Repr

/-- A predicate engine (R397, R409, R433). -/
structure Engine where
  /-- the context whose segment runs, and whether that segment has ended -/
  cur : Option Nat := none
  past : Bool := false
  /-- the context last served at each priority, and the deficits of R434 -/
  last : Tbl Nat := []
  deficit : Tbl Nat := []
  /-- doorbell reads outstanding, by TID, and contexts whose doorbell line is still to be read -/
  bells : List (BitVec 12 × Nat) := []
  due : List Nat := []
  deriving DecidableEq, Repr

/-- The command of PEN.CTXCMD that has not ended (R406): an ENABLE that waits for its domain to open, or for the doorbell line; a
DISABLE or an ABORT of a running descriptor. -/
inductive CtxJob where
  | opening (c : Nat)
  | reading (c : Nat)
  | stopping (c : Nat)
  deriving DecidableEq, Repr

/-! ## Trail links (R320 to R336) -/

/-- A flit that an octet has for its transmitter (R320): KIND, SEQ, ACKSEQ, the messages that begin in it, the first in slot `first`, and
its credit returns; of a width-control flit or a marker the good lanes, with the proposed width and the confirmation. -/
structure OutFlit where
  kind : Nat
  seq : BitVec 12
  ackseq : BitVec 12
  first : Nat := 0
  pkts : List Pkt := []
  crets : List (Nat × Nat) := []
  lanes : BitVec 8 := 0
  proposal : BitVec 2 := 0
  confirm : Bool := false
  deriving DecidableEq, Repr

/-- A data flit in the replay buffer (R324): its messages, the slot of the first, its credit returns, and how often it has been resent
in a row. -/
structure TxFlit where
  seq : BitVec 12
  pkts : List Pkt
  first : Nat := 0
  crets : List (Nat × Nat) := []
  resends : Nat := 0
  deriving DecidableEq, Repr

structure Link where
  /-- SEQ of the next data flit, and the last ACKSEQ received -/
  nextSeq : BitVec 12 := 0
  acked : BitVec 12 := 0xfff
  replay : List TxFlit := []
  /-- the clause of the last ACKSEQ advance -/
  lastAck : Word := 0
  /-- slots of a message that the next data flit continues -/
  txRest : Nat := 0
  /-- messages that wait for this octet, oldest first -/
  queue : List Pkt := []
  /-- slots of credit by pool, where they differ from the pool's size (R329) -/
  creds : Tbl Nat := []
  /-- messages of each priority 1 to 3 still to choose in this round (R330) -/
  round : Tbl Nat := []
  /-- SEQ last accepted, and the clause of the last NAK for the next one (R322) -/
  rxSeq : BitVec 12 := 0xfff
  nakAt : Option Word := none
  /-- symbols corrected on a lane: clauses and counts, newest first (R319, R332) -/
  laneSyms : Tbl (List (Word × Nat)) := []
  /-- the clause by which an accepted flit is acknowledged (R323) -/
  ackDue : Option Word := none
  /-- a message begun in an accepted flit, and its slots to come (R327) -/
  rxRest : Option (Pkt × Nat) := none
  /-- slots freed and not yet returned, by pool -/
  owed : Tbl Nat := []
  /-- good lanes of this end and of the other (R331, R333) -/
  good : BitVec 8 := 0xff
  far : BitVec 8 := 0xff
  /-- the clause of the first width-control flit of this agreement, and whether the two masks have met -/
  agreeing : Option Word := none
  met : Bool := false
  /-- full retrains of the present loss that have failed (R335) -/
  attempts : Nat := 0
  /-- resends since the last record of code 3090h, none before the first (R326) -/
  resent : Option Nat := none
  /-- the retrain in progress is a full one (R335) -/
  full : Bool := false
  /-- the far end is not a member: the link comes up isolated (R345) -/
  isolated : Bool := false
  /-- what is kept for the route change of a fenced link, in order (R341) -/
  stranded : List Pkt := []
  out : List OutFlit := []
  deriving DecidableEq, Repr

/-! ## The image: JOIN, routes, cuts, the manager's watch (R33, R340 to R353, R567 to R572) -/

/-- A worker's alignment (R33 steps 3 to 5, R47): exchanges still to run, tries begun, the exchange that is out and the one with
the smallest round trip so far (round trip, offset), all in 1/16 clause. -/
structure Align where
  realign : Bool := false
  verify : Bool := false
  /-- the counter is held; the exchanges that verify begin when it counts again (R47) -/
  paused : Bool := false
  left : Nat := 8
  tries : Nat := 1
  xid : BitVec 12 := 0
  t1 : Nat := 0
  best : Option (Int × Int) := none
  deriving DecidableEq, Repr

/-- The JOIN or re-JOIN that the manager performs (R344, R570). -/
structure JoinJob where
  cmd : Command
  regime : Nat
  minPkg : Nat
  /-- serial and number, as the command gives them -/
  table : List (Word × Nat)
  re : Bool
  step : Nat := 1
  /-- serial and number of each member -/
  members : List (Word × Nat) := []
  epoch : Word := 0
  /-- workers that have not yet reported their alignment -/
  waiting : List Nat := []
  /-- a refused re-JOIN: the members take up their places again (R570) -/
  refused : Bool := false
  deriving DecidableEq, Repr

/-- Why the manager holds the image in QUIESCE (transition 11 of R559). -/
inductive Purpose where
  | command
  | regime (value : Nat)
  /-- the workers that are to be realigned and have not reported -/
  | realign (ps : List Nat)
  | takeover
  | leave (p : Nat)
  deriving DecidableEq, Repr

/-- The QUIESCE that the manager performs: its cause, the command to complete, Q, members that have not reported, and whether the
cut is complete. -/
structure Quiesce where
  purpose : Purpose
  cmd : Option Command := none
  cut : Word
  waiting : List Nat
  complete : Bool := false
  deriving DecidableEq, Repr

/-- The route change that the manager performs (R341). -/
structure RouteChange where
  pkg : Nat
  octet : Nat
  started : Word
  waiting : List Nat
  deriving DecidableEq, Repr

structure Image where
  /-- floods delivered or forwarded, by source and number, and the next number of this package's own (R340) -/
  floods : List (Word × BitVec 16) := []
  floodSeq : BitVec 16 := 0
  /-- ROUTE_HOLD is in force, and HOLD_DONE has been sent (R341) -/
  held : Bool := false
  holdDone : Bool := false
  /-- route tables stored and not yet used, with their generation -/
  newRoutes : List Word := []
  gen : BitVec 16 := 0
  change : Option RouteChange := none
  /-- the manager's knowledge of the image: identities, and links fenced or lost (serial of one end, octet) -/
  idents : List Ident := []
  lastIdent : Word := 0
  lostLinks : List (Nat × Nat) := []
  join : Option JoinJob := none
  assigned : Option Assign := none
  align : Option Align := none
  /-- ticks for which the counter is still held (R47) -/
  holdTicks : Nat := 0
  /-- the cut and release clauses named and not yet reached; the cut report is sent (R567, R569) -/
  cutAt : Option Word := none
  releaseAt : Option Word := none
  cutReported : Bool := false
  quiesce : Option Quiesce := none
  /-- the standby's question: when it was asked, the answers, and the SILENCE at which it asks again (R350) -/
  heardAt : Option Word := none
  heard : List (Nat × Nat) := []
  askAgain : Nat := 2500000
  /-- phase still to slew, in 1/16 clause, and the clauses until the next 1/16 may be slewed (R36) -/
  slew : Int := 0
  slewWait : Nat := 0
  /-- workers that have asked for a realignment which no QUIESCE serves yet, with the offset each found (R46, R47) -/
  realignAsked : List (Nat × BitVec 16) := []
  /-- the takeover that this package performs: old manager, SILENCE at the decision (R351) -/
  takeover : Option (Nat × Nat) := none
  deriving DecidableEq, Repr

/-! ## Commands in progress (R496 to R508) -/

/-- A completion record to be written (R497, R500). -/
structure Completion where
  cmd : Command
  status : Nat
  final : Bool := true
  r0 : Word := 0
  r1 : Word := 0
  deriving DecidableEq, Repr

/-- What the endpoint or a root port puts on its PCIe link for the other end (R486, R490, R494, R497, R520, R521). -/
inductive Tlp where
  /-- a read of host memory: its tag, address and length -/
  | memRead (tag addr len : Nat)
  /-- configuration requests below a root port: tag, ECAM offset, length; offset, length, value (R666) -/
  | cfgRead (tag off len : Nat)
  | cfgWrite (off len data : Nat)
  /-- a posted write to host or device memory: address, length, bytes little-endian -/
  | memWrite (addr len data : Nat)
  /-- an MSI-X message of a vector -/
  | msix (vector : Nat)
  /-- the completion of a host or device read: its tag, the length asked, the data, or none for Unsupported Request -/
  | completion (tag len : Nat) (data : Option Nat)
  /-- a configuration request answered with Request Retry Status -/
  | retryStatus (tag : Nat)
  /-- PM_PME (R514) -/
  | pme
  deriving DecidableEq, Repr

/-- An outstanding descriptor read (R496, R513): its tag, command ring, descriptor index and clause of issue. -/
structure HostRead where
  tag : Nat
  ring : Nat
  index : Nat
  since : Word
  deriving DecidableEq, Repr

/-- A ticketed command between check 4 and its acceptance (R504): the number of its MIRROR message, 0 for none. -/
structure Accept where
  cmd : Command
  mirror : Nat := 0
  since : Word
  deriving DecidableEq, Repr

/-- An inbound request of a PCIe link (R490, R491, R520): a read has a tag, a write its bytes; `via` is the PRS offset of the mapping
register it uses, and `old` says that the register has changed since (R492). -/
structure InReq where
  tag : Option Nat := none
  realm : Nat := 0
  pa : Nat
  len : Nat
  data : Nat := 0
  via : Nat
  old : Bool := false
  started : Bool := false
  deriving DecidableEq, Repr

/-- A core's device read outstanding below a root port (R521): the TLP's tag, the request, its octet and address. -/
structure DevRead where
  octet : Nat
  tag : Nat
  hdr : Hdr
  addr : Nat
  len : Nat
  since : Word
  deriving DecidableEq, Repr

/-- The endpoint function (R486 to R517), beside its EPF registers. -/
structure Endpoint where
  /-- Bus Master Enable -/
  bme : Bool := false
  /-- writable words of configuration space by dword offset -/
  config : Tbl (BitVec 32) := []
  /-- AER uncorrectable error status -/
  aer : BitVec 32 := 0
  /-- MSI-X table words by entry * 4 + word, and pending bits by vector -/
  msix : Tbl (BitVec 32) := []
  msixPending : List Nat := []
  /-- the clause at which containment began, and a release that waits -/
  containedAt : Word := 0
  /-- doorbell words as the last poll found them (R493) -/
  doorbells : Tbl (BitVec 32) := []
  /-- the clause of the next poll -/
  nextPoll : Word := 0
  /-- descriptor reads outstanding, oldest first -/
  reads : List HostRead := []
  nextTag : Nat := 0
  /-- TLPs sent and not yet taken by the link, oldest first -/
  out : List Tlp := []
  /-- reset generation: completions of commands read before the last function reset are not written (R513) -/
  gen : Nat := 0
  /-- commands that wait for the flash write and the standby's acknowledgement (R504) -/
  accepting : List Accept := []
  /-- MIRROR messages sent and acknowledged -/
  mirrorSent : Nat := 0
  mirrorAcked : Nat := 0
  /-- reads abandoned and not yet completed or timed out (R513) -/
  late : List HostRead := []
  /-- the function reset that waits for them: kind, commands aborted (R513, R527) -/
  resetDue : Option (Nat × Nat) := none
  /-- a record of class HALT or UE-P awaits the host (R514), and PM_PME has been sent for what awaits it -/
  hostRec : Bool := false
  pmeSent : Bool := false
  /-- a notice vector that waits (R614) -/
  noticeHeld : Bool := false
  /-- a completion or a record of class HALT or UE-P awaits the host (R514): WAKE_N -/
  wakeN : Bool := false
  /-- LOG of BAR2CFG in force since the last PERST_N (R524) -/
  bar2Log : Nat := 0x1c
  /-- the next ring served (R496) -/
  nextRing : Nat := 0
  deriving DecidableEq, Repr

/-! ## The counter collector (R656 to R660) -/

/-- A snapshot that is being written: its number, address and stamp, the header's word 2, and whether the header has been sent. -/
structure DumpJob where
  number : Nat
  addr : Nat
  clause : Word
  header : Nat
  headerSent : Bool := false
  deriving DecidableEq, Repr

structure Dump where
  next : Nat := 0
  /-- snapshots skipped since the last dump -/
  missed : Nat := 0
  job : Option DumpJob := none
  deriving DecidableEq, Repr

/-! ## What the package keeps outside its registers (R501, R537, R561 to R563, R578) -/

/-- The identity fuses of a compute die (R537), whether the die answers, and whether both reads agree and their check passes
(R539). -/
structure DieFuses where
  position : BitVec 4 := 0
  rev : BitVec 4 := 1
  feature : BitVec 4 := 1
  cores : BitVec 20 := 0x3ffff
  serial : Word := 0
  answers : Bool := true
  agree : Bool := true
  deriving DecidableEq, Repr

/-- The fuses of the I/O die: the security-version floor, the raises that remain, the key that verifies firmware (the coordinates of
the curve point whose digest is fused), and its serial (R561, R578, R581, R555). -/
structure Fuses where
  svnMin : Nat := 0
  svnLeft : Nat := 32
  fwKey : Nat × Nat := (0, 0)
  ioSerial : Word := 0
  deriving DecidableEq, Repr

/-- The boot flash (R562): the bytes of a firmware slot, none where a read fails; of the board record; and what each copy of the key
record decrypts to, none where it does not check: slot, key, LAST of each ACTIVE slot (R501). -/
structure Flash where
  slotA : Option (List Byte) := some []
  slotB : Option (List Byte) := some []
  board : List Byte := []
  keys0 : Option (List (Nat × BitVec 256 × Word)) := none
  keys1 : Option (List (Nat × BitVec 256 × Word)) := none
  deriving DecidableEq, Repr

/-- Steps 4 to 7 of R560 since the last SENSE entry: still to run, passed, or failed, and then the package stays in SENSE. -/
inductive SensePhase where
  | due
  | passed
  | failed
  deriving DecidableEq, Repr

/-- A drain (R572, R573): its command; whether it leaves a running image; that its flush has begun; that a leaving worker refuses
requests, and has told the manager. -/
structure Drain where
  cmd : Command
  leaving : Bool := false
  flushing : Bool := false
  refusing : Bool := false
  reported : Bool := false
  deriving DecidableEq, Repr

/-! ## The reasons to stop, and the whole state -/

/-- Why the machine stops on a command. -/
inductive Fault where
  /-- raised by a message addressed to an agent that the package does not have. Safe: no agent receives it. -/
  | noSuchAgent
  deriving DecidableEq, Repr

/-- Why the model refuses a command. -/
inductive Refusal where
  /-- raised by an arm of `exec` whose command has no meaning yet. Safe: the machine stops. -/
  | notModelled (mnemonic : String)
  deriving DecidableEq, Repr

/-- A TLBI at the TLBI unit of the package, with the dies that have not reported (R270). -/
structure TlbiJob where
  args : TlbiArgs
  dies : List Nat
  deriving DecidableEq, Repr

structure State where
  /-- the commands that wait, first in first out -/
  pending : List Instr := []
  /-- CLK.TIME.COUNT (R20, R48) -/
  clause : Word := 0
  /-- the phase fraction below the counter, in 1/16 clause (R23) -/
  phase : BitVec 4 := 0
  /-- the clause clock has locked since SENSE entry: the counter counts (R21, R46) -/
  counting : Bool := false
  /-- every PRS register by its PRS offset; an unlisted one holds its reset value -/
  regs : Tbl Word := []
  vaux : Bool := true
  pwrGood : Bool := true
  resetN : Bool := true
  mgrStrap : Bool := false
  stbyStrap : Bool := false
  threads : Tbl Thread := []
  cores : Tbl Core := []
  dies : Tbl Die := []
  /-- messages sent and not yet delivered, oldest first -/
  sent : List Msg := []
  log : TripLog := {}
  /-- events awaiting the resolution of their clause (R40) -/
  events : List Event := []
  /-- the earliest clause not yet resolved (R42) -/
  unresolved : Word := 0
  /-- PCC.VALUE and PCC.SEL (c.pcev for core slots) by slot (R643) -/
  pccVal : Tbl Word := []
  pccSel : Tbl Word := []
  homes : Tbl Home := []
  /-- directory entries and set control by port * 2^24 + location, and * 2^24 + set (R283, R290) -/
  dirMem : Tbl DirEntry := []
  dirCtl : Tbl SetCtl := []
  disp : List DispPtr := []
  /-- realms whose journal has stopped, its control block's page no longer theirs (R460) -/
  jrnOff : List Nat := []
  /-- keys marked in the reshape filter (R306) -/
  dirFilter : List Nat := []
  dirAge : BitVec 8 := 0
  /-- the location each port scrubs next, and its corrected errors by age-clock tick, newest tick first (R295, R301) -/
  dirScrubAt : Tbl Nat := []
  dirCes : Tbl (List (Nat × Nat)) := []
  /-- when the reshape that runs began, entries evicted, and the causes of the automatic reshapes that wait (R302 to R304) -/
  reshapeStart : Word := 0
  reshapeEvicted : Nat := 0
  reshapeQueue : List Nat := []
  /-- age-clock ticks since package reset (R293, R301) -/
  dirTicks : Nat := 0
  /-- local lines whose away bit is 1, by line number (R285) -/
  away : List Nat := []
  /-- the hash masks in force since the last TRAIN, by the register's offset, where they differ from its reset value (R395) -/
  masks : Tbl Word := []
  /-- ranges of local lines with valid check symbols, first and one past the last (R385) -/
  written : List (Nat × Nat) := []
  /-- key halves generated in the life of the package, and the number of the one each half holds, by slot * 2 + half (R461, R463) -/
  keyCount : Nat := 0
  keyHalf : Tbl Nat := []
  /-- the key half under which memory was last initialised, and the lines encrypted under another one since, by local line (R462) -/
  fillKey : Nat := 0
  lineKeys : Tbl Nat := []
  /-- latched DRAM errors by local line: 1 one device, 2 uncorrectable (R384) -/
  dramBad : Tbl Nat := []
  /-- the memory ports of the I/O die's agents by unit (R238, log entry 22) -/
  ports : Tbl Port := []
  /-- uncached requests at the controllers, oldest first (R374) -/
  ucq : List UcReq := []
  /-- tokens of the port buckets, in 1/256 line, by channel * 4 + port (R378) -/
  portTok : Tbl Nat := []
  /-- the read queue of each controller: lines admitted, oldest first (R373, R473) -/
  readQ : Tbl (List LineAddr) := []
  /-- the realm last admitted, by (controller * 4 + port) * 2, plus 1 for requests beyond a minimum (R473) -/
  admitTurn : Tbl Nat := []
  /-- tokens of the MIN and MAX buckets, in 1/1,024 line, by group * 1,024 + realm (R472) -/
  minTok : Tbl Nat := []
  maxTok : Tbl Nat := []
  /-- the open row of each bank, by channel * 2^16 + the bank's number, and ranks in power-down and channels in self-refresh
  (R375, R363) -/
  openRow : Tbl Nat := []
  powerDown : List Nat := []
  selfRefresh : List Nat := []
  /-- replays of a channel since the last record of code 3082h (R388) -/
  replays : Tbl Nat := []
  /-- the page ownership table by local page, where it differs from FREE (R451) -/
  pot : Tbl Nat := []
  realms : Realms := {}
  /-- commands in progress on several members -/
  memberJobs : List MemberJob := []
  /-- domains by number: clusters 0 to 59, engines from 60, octets from 76, directory ports from 88 (log entry 28) -/
  domains : Tbl Domain := []
  tlbiUnit : List TlbiJob := []
  /-- ring contexts by index (R402) -/
  ctxs : Tbl RingCtx := []
  monitors : List Monitor := []
  engines : Tbl Engine := []
  ctxRuns : Tbl CtxRun := []
  ctxJob : Option CtxJob := none
  /-- latched errors of the context store, 1 one bit, 2 uncorrectable (R439) -/
  ctxBad : Tbl Nat := []
  /-- lines the engines have transferred for a realm in the present period of 256 clauses, and contexts a cap has stopped (R434) -/
  capUsed : Tbl Nat := []
  capHeld : List Nat := []
  notice : Notice := {}
  /-- Trail links by octet -/
  links : Tbl Link := []
  image : Image := {}
  /-- completions not yet written, oldest first (R498) -/
  completions : List Completion := []
  epf : Endpoint := {}
  /-- inbound requests by the unit of their octet, oldest first; window and assignment registers that take effect at the next clause
  boundary, with their origin; and the values that older requests still use (R492) -/
  inbound : Tbl (List InReq) := []
  mapDue : List (Nat × Word × BitVec 16) := []
  mapOld : Tbl Word := []
  /-- device reads outstanding below the root ports, the next tag, and what each root port has for its link -/
  devReads : List DevRead := []
  devTag : Nat := 0
  rpOut : Tbl (List Tlp) := []
  /-- subsystem ID and subsystem vendor ID, as the board record gives them (R486, R563) -/
  subsystem : Nat := 0
  dump : Dump := {}
  fuses : Fuses := {}
  /-- the fuses of a compute die, where they differ from those of a die of revision 1h in its own position -/
  dieFuses : Tbl DieFuses := []
  flash : Flash := {}
  sense : SensePhase := .due
  /-- the FW_UPDATE whose flash or fuse write is in progress (R578) -/
  flashJob : Option Command := none
  drain : Option Drain := none
  /-- the RESHAPE that runs on this package, and the RESET that waits for its final completion (R302, R576) -/
  reshapeCmd : Option Command := none
  resetDue : Option Command := none
  bridges : Tbl Bridge := []
  meshHeld : List HeldPacket := []
  /-- the input last served at an output, by router * 8 + class (R545) -/
  meshTurn : Tbl Nat := []
  parasol : Parasol := {}
  /-- owner keys by slot, held by the management controller (R501) -/
  ownerKeys : Tbl (BitVec 256) := []
  /-- the next operation number, and the long operations begun: the command, and whether it has ended (R508) -/
  opNext : Nat := 1
  longOps : Tbl (Command × Bool) := []
  /-- the DRAM top of each other member, in bytes (R196) -/
  tops : Tbl Nat := []
  /-- DEFAULT counters chain: judged at each JOIN (R645) -/
  chainDefault : Bool := false
  /-- ALERT_N asserted (R575) -/
  alertN : Bool := false
  /-- THERMTRIP_N asserted (R596) -/
  thermtripN : Bool := false
  /-- DRAM contents as plaintext by local offset (R196): rising addresses, no zero byte -/
  mem : List Host.Cell := []
  /-- how many free values the run has met (log entry 1) -/
  freeCount : Nat := 0
  deriving DecidableEq, Repr

/-- The package right after SENSE entry by a rise of PWR_GOOD, before the clause clock locks: every register at the Reset
value of its table, caches and buffers empty. -/
def State.reset : State := {}

end Sys2Proof.Machine
end

