-- ==== Sys2Proof/Machine/Registers.lean ====
section
/-! DEFINITION. The registers of the PRS: where each lies and which fields it has, with the access code and the reset
value of the spec's register tables (R3 to R5, R671). A register is named by its PRS offset. -/
namespace Sys2Proof.Machine

/-- The access codes of R5; a reserved field has no entry. -/
inductive Access where
  | ro | rw | w1c | w1s | wo | rwt | rwx
  deriving DecidableEq, Repr

/-- One field: bits [hi:lo], access code, reset value. -/
structure RegField where
  hi : Nat
  lo : Nat
  access : Access
  reset : Nat
  deriving DecidableEq, Repr

/-- A register, or an array of `count` registers `stride` apart, each of `count2` registers `stride2` apart. -/
structure RegRow where
  base : Nat
  stride : Nat
  count : Nat
  stride2 : Nat
  count2 : Nat
  fields : List RegField
  deriving DecidableEq, Repr

/-- `off` is one of the registers of the row. -/
def RegRow.holds (r : RegRow) (off : Nat) : Bool :=
  decide (r.base ≤ off) && (
    let d := off - r.base
    let i := if r.count = 1 then 0 else d / r.stride
    let e := d - i * r.stride
    let j := if r.count2 = 1 then 0 else e / r.stride2
    decide (i < r.count) && decide (j < r.count2) && decide (e = j * r.stride2))

/-- Offset of this register (R581, 15_startup_modes.md). -/
def regGlbIdent : Nat := 0x0
/-- Offset of this register (R581, 15_startup_modes.md). -/
def regGlbMode : Nat := 0x8
/-- Offset of this register (R581, 15_startup_modes.md). -/
def regGlbModetime : Nat := 0x10
/-- Offset of this register (R581, 15_startup_modes.md). -/
def regGlbBoot : Nat := 0x18
/-- Offset of this register (R581, 15_startup_modes.md). -/
def regGlbQcut : Nat := 0x20
/-- Offset of this register (R581, 15_startup_modes.md). -/
def regGlbQuiescectl : Nat := 0x28
/-- Offset of this register (R619, 17_errors.md). -/
def regGlbErrsum : Nat := 0x40
/-- Offset of this register (R619, 17_errors.md). -/
def regGlbErrnote : Nat := 0x48
/-- Offset of this register (R619, 17_errors.md). -/
def regGlbInject : Nat := 0x100
/-- Offset of this register (R619, 17_errors.md). -/
def regGlbInjaddr : Nat := 0x108
/-- Offset of this register (R48, 02_clause_time.md). -/
def regClkTime : Nat := 0x40000
/-- Offset of this register (R49, 02_clause_time.md). -/
def regClkStatus : Nat := 0x40008
/-- Offset of this register (R50, 02_clause_time.md). -/
def regClkSyncstat : Nat := 0x40010
/-- Offset of this register (R51, 02_clause_time.md). -/
def regClkTrim : Nat := 0x40018
/-- Offset of this register (R52, 02_clause_time.md). -/
def regClkEventctl : Nat := 0x40020
/-- Offset of this register (R600, 16_thermos.md). -/
def regThmStatus : Nat := 0x100000
/-- Offset of this register (R600, 16_thermos.md). -/
def regThmEnergy : Nat := 0x100008
/-- Offset of this register (R600, 16_thermos.md). -/
def regThmCap : Nat := 0x100010
/-- Offset of this register (R600, 16_thermos.md). -/
def regThmAlarm : Nat := 0x100018
/-- Offset of this register (R600, 16_thermos.md). -/
def regThmCluster (n : Nat) : Nat := 0x100100 + n * 0x8
/-- Offset of this register (R600, 16_thermos.md). -/
def regThmDiecap (n : Nat) : Nat := 0x100400 + n * 0x8
/-- Offset of this register (R600, 16_thermos.md). -/
def regThmXcluster (n : Nat) : Nat := 0x100500 + n * 0x8
/-- Offset of this register (R600, 16_thermos.md). -/
def regThmGate : Nat := 0x100800
/-- Offset of this register (R600, 16_thermos.md). -/
def regThmUniform : Nat := 0x100808
/-- Offset of this register (R640, 18_trip_log.md). -/
def regTlgStatus : Nat := 0x200000
/-- Offset of this register (R640, 18_trip_log.md). -/
def regTlgHead : Nat := 0x200008
/-- Offset of this register (R640, 18_trip_log.md). -/
def regTlgTail : Nat := 0x200010
/-- Offset of this register (R640, 18_trip_log.md). -/
def regTlgCursor : Nat := 0x200018
/-- Offset of this register (R640, 18_trip_log.md). -/
def regTlgFreeze : Nat := 0x200020
/-- Offset of this register (R640, 18_trip_log.md). -/
def regTlgSpill : Nat := 0x200028
/-- Offset of this register (R640, 18_trip_log.md). -/
def regTlgSpilled : Nat := 0x200030
/-- Offset of this register (R640, 18_trip_log.md). -/
def regTlgRate (n : Nat) : Nat := 0x200100 + n * 0x8
/-- Offset of this register (R664, 19_performance_counters.md). -/
def regPccDumpctl : Nat := 0x300000
/-- Offset of this register (R664, 19_performance_counters.md). -/
def regPccDumpbase : Nat := 0x300008
/-- Offset of this register (R664, 19_performance_counters.md). -/
def regPccDumpstat : Nat := 0x300010
/-- Offset of this register (R664, 19_performance_counters.md). -/
def regPccValue (n : Nat) : Nat := 0x310000 + n * 0x8
/-- Offset of this register (R664, 19_performance_counters.md). -/
def regPccSel (n : Nat) : Nat := 0x320000 + n * 0x8
/-- Offset of this register (R480, 12_realms_isolation.md). -/
def regRlmCmd : Nat := 0x400000
/-- Offset of this register (R480, 12_realms_isolation.md). -/
def regRlmCmdarg0 : Nat := 0x400008
/-- Offset of this register (R480, 12_realms_isolation.md). -/
def regRlmCmdarg1 : Nat := 0x400010
/-- Offset of this register (R480, 12_realms_isolation.md). -/
def regRlmPgcmd : Nat := 0x400100
/-- Offset of this register (R480, 12_realms_isolation.md). -/
def regRlmPgarg : Nat := 0x400108
/-- Offset of this register (R480, 12_realms_isolation.md). -/
def regRlmSeal : Nat := 0x400200
/-- Offset of this register (R480, 12_realms_isolation.md). -/
def regRlmPotbase : Nat := 0x400300
/-- Offset of this register (R481, 12_realms_isolation.md). -/
def regRlmTable0 (n : Nat) : Nat := 0x410000 + n * 0x10
/-- Offset of this register (R481, 12_realms_isolation.md). -/
def regRlmTable1 (n : Nat) : Nat := 0x410008 + n * 0x10
/-- Offset of this register (R482, 12_realms_isolation.md). -/
def regRlmBind0 (n : Nat) : Nat := 0x420000 + n * 0x10
/-- Offset of this register (R482, 12_realms_isolation.md). -/
def regRlmBind1 (n : Nat) : Nat := 0x420008 + n * 0x10
/-- Offset of this register (R483, 12_realms_isolation.md). -/
def regRlmReg0 (n : Nat) : Nat := 0x440000 + n * 0x10
/-- Offset of this register (R483, 12_realms_isolation.md). -/
def regRlmReg1 (n : Nat) : Nat := 0x440008 + n * 0x10
/-- Offset of this register (R484, 12_realms_isolation.md). -/
def regKeySlot (n : Nat) : Nat := 0x480000 + n * 0x8
/-- Offset of this register (R484, 12_realms_isolation.md). -/
def regKeyRotstat : Nat := 0x482000
/-- Offset of this register (R525, 13_platform_endpoint.md). -/
def regTktSlot0 (n : Nat) : Nat := 0x600000 + n * 0x10
/-- Offset of this register (R525, 13_platform_endpoint.md). -/
def regTktSlot1 (n : Nat) : Nat := 0x600008 + n * 0x10
/-- Offset of this register (R525, 13_platform_endpoint.md). -/
def regTktGrant0 (n : Nat) : Nat := 0x600100 + n * 0x10
/-- Offset of this register (R525, 13_platform_endpoint.md). -/
def regTktGrant1 (n : Nat) : Nat := 0x600108 + n * 0x10
/-- Offset of this register (R393, 10_dram_subsystem.md). -/
def regDmcStatus (n : Nat) : Nat := 0x800000 + n * 0x10000
/-- Offset of this register (R393, 10_dram_subsystem.md). -/
def regDmcTrainres0 (n : Nat) : Nat := 0x800008 + n * 0x10000
/-- Offset of this register (R393, 10_dram_subsystem.md). -/
def regDmcTrainres1 (n : Nat) : Nat := 0x800010 + n * 0x10000
/-- Offset of this register (R393, 10_dram_subsystem.md). -/
def regDmcIdleTimer (n : Nat) : Nat := 0x800018 + n * 0x10000
/-- Offset of this register (R393, 10_dram_subsystem.md). -/
def regDmcCecount (n : Nat) : Nat := 0x800020 + n * 0x10000
/-- Offset of this register (R393, 10_dram_subsystem.md). -/
def regDmcUelast (n : Nat) : Nat := 0x800028 + n * 0x10000
/-- Offset of this register (R393, 10_dram_subsystem.md). -/
def regDmcTokenrate (n : Nat) : Nat := 0x800030 + n * 0x10000
/-- Offset of this register (R393, 10_dram_subsystem.md). -/
def regDmcTokendepth (n : Nat) : Nat := 0x800038 + n * 0x10000
/-- Offset of this register (R393, 10_dram_subsystem.md). -/
def regDmcCectl (n : Nat) : Nat := 0x800040 + n * 0x10000
/-- Offset of this register (R393, 10_dram_subsystem.md). -/
def regDmcScrub (n : Nat) : Nat := 0x800048 + n * 0x10000
/-- Offset of this register (R394, 10_dram_subsystem.md). -/
def regDmcCetab0 (n i : Nat) : Nat := 0x800100 + n * 0x10000 + i * 0x10
/-- Offset of this register (R394, 10_dram_subsystem.md). -/
def regDmcCetab1 (n i : Nat) : Nat := 0x800108 + n * 0x10000 + i * 0x10
/-- Offset of this register (R395, 10_dram_subsystem.md). -/
def regDmcCfg : Nat := 0x808000
/-- Offset of this register (R395, 10_dram_subsystem.md). -/
def regDmcTop : Nat := 0x808008
/-- Offset of this register (R395, 10_dram_subsystem.md). -/
def regDmcHalfmap : Nat := 0x808010
/-- Offset of this register (R395, 10_dram_subsystem.md). -/
def regDmcShare : Nat := 0x808018
/-- Offset of this register (R395, 10_dram_subsystem.md). -/
def regDmcChanhash0 : Nat := 0x808020
/-- Offset of this register (R395, 10_dram_subsystem.md). -/
def regDmcChanhash1 : Nat := 0x808028
/-- Offset of this register (R395, 10_dram_subsystem.md). -/
def regDmcChanhash2 : Nat := 0x808030
/-- Offset of this register (R395, 10_dram_subsystem.md). -/
def regDmcChanhash3 : Nat := 0x808038
/-- Offset of this register (R395, 10_dram_subsystem.md). -/
def regDmcBankhash0 : Nat := 0x808040
/-- Offset of this register (R395, 10_dram_subsystem.md). -/
def regDmcBankhash1 : Nat := 0x808048
/-- Offset of this register (R395, 10_dram_subsystem.md). -/
def regDmcBankhash2 : Nat := 0x808050
/-- Offset of this register (R395, 10_dram_subsystem.md). -/
def regDmcBankhash3 : Nat := 0x808058
/-- Offset of this register (R395, 10_dram_subsystem.md). -/
def regDmcBankhash4 : Nat := 0x808060
/-- Offset of this register (R395, 10_dram_subsystem.md). -/
def regDmcBankhash5 : Nat := 0x808068
/-- Offset of this register (R311, 08_global_directory.md). -/
def regDirStatus (n : Nat) : Nat := 0xa00000 + n * 0x10000
/-- Offset of this register (R311, 08_global_directory.md). -/
def regDirCount0 (n : Nat) : Nat := 0xa00008 + n * 0x10000
/-- Offset of this register (R311, 08_global_directory.md). -/
def regDirCount1 (n : Nat) : Nat := 0xa00010 + n * 0x10000
/-- Offset of this register (R311, 08_global_directory.md). -/
def regDirLasterr (n : Nat) : Nat := 0xa00018 + n * 0x10000
/-- Offset of this register (R311, 08_global_directory.md). -/
def regDirFencectl (n : Nat) : Nat := 0xa00020 + n * 0x10000
/-- Offset of this register (R312, 08_global_directory.md). -/
def regDirLayout : Nat := 0xa08000
/-- Offset of this register (R312, 08_global_directory.md). -/
def regDirReshape : Nat := 0xa08008
/-- Offset of this register (R312, 08_global_directory.md). -/
def regDirCursor : Nat := 0xa08010
/-- Offset of this register (R312, 08_global_directory.md). -/
def regDirAgectl : Nat := 0xa08018
/-- Offset of this register (R312, 08_global_directory.md). -/
def regDirReshapectl : Nat := 0xa08020
/-- Offset of this register (R273, 07_coherence_protocol.md). -/
def regHomStatus (n : Nat) : Nat := 0xb00000 + n * 0x10000
/-- Offset of this register (R274, 07_coherence_protocol.md). -/
def regHomSettle (n : Nat) : Nat := 0xb00008 + n * 0x10000
/-- Offset of this register (R276, 07_coherence_protocol.md). -/
def regHomCredit (n : Nat) : Nat := 0xb00010 + n * 0x10000
/-- Offset of this register (R278, 07_coherence_protocol.md). -/
def regHomCount0 (n : Nat) : Nat := 0xb00018 + n * 0x10000
/-- Offset of this register (R278, 07_coherence_protocol.md). -/
def regHomCount1 (n : Nat) : Nat := 0xb00020 + n * 0x10000
/-- Offset of this register (R278, 07_coherence_protocol.md). -/
def regHomLasterr (n : Nat) : Nat := 0xb00028 + n * 0x10000
/-- Offset of this register (R356, 09_trail_fabric.md). -/
def regOctCfg (n : Nat) : Nat := 0xc00000 + n * 0x10000
/-- Offset of this register (R356, 09_trail_fabric.md). -/
def regTrlStatus (n : Nat) : Nat := 0xc00100 + n * 0x10000
/-- Offset of this register (R356, 09_trail_fabric.md). -/
def regTrlNeighbour (n : Nat) : Nat := 0xc00108 + n * 0x10000
/-- Offset of this register (R356, 09_trail_fabric.md). -/
def regTrlCount0 (n : Nat) : Nat := 0xc00110 + n * 0x10000
/-- Offset of this register (R356, 09_trail_fabric.md). -/
def regTrlCount1 (n : Nat) : Nat := 0xc00118 + n * 0x10000
/-- Offset of this register (R356, 09_trail_fabric.md). -/
def regTrlLinkctl (n : Nat) : Nat := 0xc00120 + n * 0x10000
/-- Offset of this register (R526, 13_platform_endpoint.md). -/
def regRpstatus (n : Nat) : Nat := 0xc00200 + n * 0x10000
/-- Offset of this register (R526, 13_platform_endpoint.md). -/
def regRpctl (n : Nat) : Nat := 0xc00208 + n * 0x10000
/-- Offset of this register (R526, 13_platform_endpoint.md). -/
def regRpassign (n i : Nat) : Nat := 0xc00300 + n * 0x10000 + i * 0x8
/-- Offset of this register (R357, 09_trail_fabric.md). -/
def regTrlImage : Nat := 0xc08000
/-- Offset of this register (R357, 09_trail_fabric.md). -/
def regTrlHeartbeat : Nat := 0xc08008
/-- Offset of this register (R357, 09_trail_fabric.md). -/
def regTrlArb : Nat := 0xc08010
/-- Offset of this register (R357, 09_trail_fabric.md). -/
def regTrlRoute (n : Nat) : Nat := 0xc08100 + n * 0x8
/-- Offset of this register (R524, 13_platform_endpoint.md). -/
def regEpfStatus : Nat := 0xd00000
/-- Offset of this register (R524, 13_platform_endpoint.md). -/
def regEpfPoll : Nat := 0xd00008
/-- Offset of this register (R524, 13_platform_endpoint.md). -/
def regEpfDbpage : Nat := 0xd00010
/-- Offset of this register (R524, 13_platform_endpoint.md). -/
def regEpfBar2cfg : Nat := 0xd00018
/-- Offset of this register (R524, 13_platform_endpoint.md). -/
def regEpfCount0 : Nat := 0xd00020
/-- Offset of this register (R524, 13_platform_endpoint.md). -/
def regEpfWin (n : Nat) : Nat := 0xd00100 + n * 0x8
/-- Offset of this register (R524, 13_platform_endpoint.md). -/
def regEpfCring0 (n : Nat) : Nat := 0xd01000 + n * 0x10
/-- Offset of this register (R524, 13_platform_endpoint.md). -/
def regEpfCring1 (n : Nat) : Nat := 0xd01008 + n * 0x10
/-- Offset of this register (R524, 13_platform_endpoint.md). -/
def regEpfPring0 (n : Nat) : Nat := 0xd01800 + n * 0x10
/-- Offset of this register (R524, 13_platform_endpoint.md). -/
def regEpfPring1 (n : Nat) : Nat := 0xd01808 + n * 0x10
/-- Offset of this register (R441, 11_predicate_engines.md). -/
def regPenStatus (n : Nat) : Nat := 0xe00000 + n * 0x10000
/-- Offset of this register (R441, 11_predicate_engines.md). -/
def regPenCurrent (n : Nat) : Nat := 0xe00008 + n * 0x10000
/-- Offset of this register (R441, 11_predicate_engines.md). -/
def regPenProgress (n : Nat) : Nat := 0xe00010 + n * 0x10000
/-- Offset of this register (R441, 11_predicate_engines.md). -/
def regPenCount0 (n : Nat) : Nat := 0xe00018 + n * 0x10000
/-- Offset of this register (R441, 11_predicate_engines.md). -/
def regPenCount1 (n : Nat) : Nat := 0xe00020 + n * 0x10000
/-- Offset of this register (R441, 11_predicate_engines.md). -/
def regPenLasterr (n : Nat) : Nat := 0xe00028 + n * 0x10000
/-- Offset of this register (R442, 11_predicate_engines.md). -/
def regPenWeight (n : Nat) : Nat := 0xe04000 + n * 0x8
/-- Offset of this register (R442, 11_predicate_engines.md). -/
def regPenCtxcmd : Nat := 0xe08000
/-- Offset of this register (R442, 11_predicate_engines.md). -/
def regPenArb : Nat := 0xe08008
/-- Offset of this register (R442, 11_predicate_engines.md). -/
def regPenCtxdata (n : Nat) : Nat := 0xe08040 + n * 0x8
/-- Offset of this register (R442, 11_predicate_engines.md). -/
def regPenRealmcap (n : Nat) : Nat := 0xe0c000 + n * 0x8
/-- Offset of this register (R191, 05_core_caches.md). -/
def regL3ctl (n : Nat) : Nat := 0x1010000 + n * 0x100000
/-- Offset of this register (R192, 05_core_caches.md). -/
def regL3stat (n : Nat) : Nat := 0x1010008 + n * 0x100000
/-- Offset of this register (R193, 05_core_caches.md). -/
def regL3last (n : Nat) : Nat := 0x1010010 + n * 0x100000
/-- Offset of this register (R279, 07_coherence_protocol.md). -/
def regOptctl (n : Nat) : Nat := 0x1010100 + n * 0x100000
/-- Offset of this register (R279, 07_coherence_protocol.md). -/
def regSubstat (n : Nat) : Nat := 0x1010108 + n * 0x100000
/-- Offset of this register (R554, 14_die_bridges_mesh.md). -/
def regBrgIdent (n : Nat) : Nat := 0x1020000 + n * 0x100000
/-- Offset of this register (R554, 14_die_bridges_mesh.md). -/
def regBrgSerial (n : Nat) : Nat := 0x1020008 + n * 0x100000
/-- Offset of this register (R554, 14_die_bridges_mesh.md). -/
def regBrgStatus (n : Nat) : Nat := 0x1020010 + n * 0x100000
/-- Offset of this register (R554, 14_die_bridges_mesh.md). -/
def regBrgCfg (n : Nat) : Nat := 0x1020018 + n * 0x100000
/-- Offset of this register (R554, 14_die_bridges_mesh.md). -/
def regBrgCount (n : Nat) : Nat := 0x1020020 + n * 0x100000
/-- Offset of this register (R554, 14_die_bridges_mesh.md). -/
def regBrgSpared (n : Nat) : Nat := 0x1020028 + n * 0x100000
/-- Offset of this register (R555, 14_die_bridges_mesh.md). -/
def regMshIoident : Nat := 0x2000000
/-- Offset of this register (R555, 14_die_bridges_mesh.md). -/
def regMshIoserial : Nat := 0x2000008
/-- Offset of this register (R555, 14_die_bridges_mesh.md). -/
def regMshDiemap : Nat := 0x2000010
/-- Offset of this register (R555, 14_die_bridges_mesh.md). -/
def regMshArb : Nat := 0x2000018
/-- Offset of this register (R555, 14_die_bridges_mesh.md). -/
def regMshRetry : Nat := 0x2000020
/-- Offset of this register (R555, 14_die_bridges_mesh.md). -/
def regMshRouter (n : Nat) : Nat := 0x2001000 + n * 0x8

/-- The registers of the GLB window. -/
def rowsGlb : List RegRow := [
  -- glbIdent R581
  ⟨0x0, 0x0, 1, 0x0, 1, [⟨5, 5, .ro, 0x0⟩, ⟨4, 4, .ro, 0x0⟩, ⟨3, 0, .ro, 0x1⟩]⟩,
  -- glbMode R581
  ⟨0x8, 0x0, 1, 0x0, 1, [⟨23, 16, .ro, 0x4⟩, ⟨12, 12, .ro, 0x0⟩, ⟨11, 8, .ro, 0x1⟩, ⟨7, 4, .ro, 0x0⟩, ⟨3, 0, .ro, 0x2⟩]⟩,
  -- glbModetime R581
  ⟨0x10, 0x0, 1, 0x0, 1, [⟨63, 0, .ro, 0x0⟩]⟩,
  -- glbBoot R581
  ⟨0x18, 0x0, 1, 0x0, 1, [⟨63, 32, .ro, 0x0⟩, ⟨31, 24, .ro, 0x0⟩, ⟨23, 16, .ro, 0x0⟩, ⟨10, 5, .ro, 0x0⟩, ⟨4, 4, .ro, 0x0⟩, ⟨3, 3, .ro, 0x0⟩, ⟨2, 2, .ro, 0x0⟩, ⟨1, 0, .ro, 0x3⟩]⟩,
  -- glbQcut R581
  ⟨0x20, 0x0, 1, 0x0, 1, [⟨63, 0, .ro, 0x0⟩]⟩,
  -- glbQuiescectl R581
  ⟨0x28, 0x0, 1, 0x0, 1, [⟨7, 0, .rwx, 0x80⟩]⟩,
  -- glbErrsum R619
  ⟨0x40, 0x0, 1, 0x0, 1, [⟨63, 32, .ro, 0x0⟩, ⟨31, 16, .ro, 0x0⟩, ⟨15, 0, .ro, 0x0⟩]⟩,
  -- glbErrnote R619
  ⟨0x48, 0x0, 1, 0x0, 1, [⟨63, 63, .rw, 0x0⟩, ⟨62, 52, .rw, 0x0⟩, ⟨51, 6, .rw, 0x0⟩, ⟨1, 1, .rw, 0x0⟩, ⟨0, 0, .rw, 0x0⟩]⟩,
  -- glbInject R619
  ⟨0x100, 0x0, 1, 0x0, 1, [⟨63, 63, .rwx, 0x0⟩, ⟨62, 62, .ro, 0x0⟩, ⟨51, 48, .rwx, 0x0⟩, ⟨47, 46, .rwx, 0x0⟩, ⟨31, 16, .rwx, 0x0⟩]⟩,
  -- glbInjaddr R619
  ⟨0x108, 0x0, 1, 0x0, 1, [⟨51, 6, .rwx, 0x0⟩]⟩]

/-- The registers of the CLK window. -/
def rowsClk : List RegRow := [
  -- clkTime R48
  ⟨0x40000, 0x0, 1, 0x0, 1, [⟨63, 0, .ro, 0x0⟩]⟩,
  -- clkStatus R49
  ⟨0x40008, 0x0, 1, 0x0, 1, [⟨11, 8, .ro, 0x0⟩, ⟨4, 4, .ro, 0x0⟩, ⟨3, 3, .ro, 0x0⟩, ⟨2, 2, .ro, 0x0⟩, ⟨1, 1, .ro, 0x0⟩, ⟨0, 0, .ro, 0x0⟩]⟩,
  -- clkSyncstat R50
  ⟨0x40010, 0x0, 1, 0x0, 1, [⟨47, 32, .ro, 0x0⟩, ⟨15, 0, .ro, 0x0⟩]⟩,
  -- clkTrim R51
  ⟨0x40018, 0x0, 1, 0x0, 1, [⟨31, 0, .ro, 0x0⟩]⟩,
  -- clkEventctl R52
  ⟨0x40020, 0x0, 1, 0x0, 1, [⟨7, 0, .rwx, 0x40⟩]⟩]

/-- The registers of the THM window. -/
def rowsThm : List RegRow := [
  -- thmStatus R600
  ⟨0x100000, 0x0, 1, 0x0, 1, [⟨63, 48, .ro, 0x0⟩, ⟨47, 40, .ro, 0x0⟩, ⟨39, 32, .ro, 0x0⟩, ⟨7, 7, .ro, 0x0⟩, ⟨6, 6, .ro, 0x0⟩, ⟨5, 5, .ro, 0x0⟩, ⟨4, 4, .ro, 0x0⟩, ⟨3, 3, .ro, 0x0⟩]⟩,
  -- thmEnergy R600
  ⟨0x100008, 0x0, 1, 0x0, 1, [⟨63, 0, .ro, 0x0⟩]⟩,
  -- thmCap R600
  ⟨0x100010, 0x0, 1, 0x0, 1, [⟨9, 0, .rw, 0x30c⟩]⟩,
  -- thmAlarm R600
  ⟨0x100018, 0x0, 1, 0x0, 1, [⟨7, 0, .rw, 0x64⟩]⟩,
  -- thmCluster R600
  ⟨0x100100, 0x8, 60, 0x0, 1, [⟨31, 24, .ro, 0x0⟩, ⟨23, 23, .ro, 0x0⟩, ⟨22, 22, .ro, 0x0⟩, ⟨15, 8, .ro, 0x78⟩, ⟨7, 0, .ro, 0x10⟩]⟩,
  -- thmDiecap R600
  ⟨0x100400, 0x8, 12, 0x0, 1, [⟨7, 0, .rwx, 0x0⟩]⟩,
  -- thmXcluster R600
  ⟨0x100500, 0x8, 60, 0x0, 1, [⟨15, 8, .rwx, 0x50⟩, ⟨7, 0, .rwx, 0x10⟩]⟩,
  -- thmGate R600
  ⟨0x100800, 0x0, 1, 0x0, 1, [⟨15, 8, .rwx, 0xa⟩, ⟨3, 3, .rwx, 0x1⟩, ⟨2, 2, .rwx, 0x1⟩, ⟨1, 1, .rwx, 0x1⟩, ⟨0, 0, .rwx, 0x1⟩]⟩,
  -- thmUniform R600
  ⟨0x100808, 0x0, 1, 0x0, 1, [⟨7, 0, .rwx, 0x40⟩]⟩]

/-- The registers of the TLG window. -/
def rowsTlg : List RegRow := [
  -- tlgStatus R640
  ⟨0x200000, 0x0, 1, 0x0, 1, [⟨63, 48, .ro, 0x0⟩, ⟨44, 32, .ro, 0x0⟩, ⟨1, 1, .ro, 0x0⟩, ⟨0, 0, .ro, 0x0⟩]⟩,
  -- tlgHead R640
  ⟨0x200008, 0x0, 1, 0x0, 1, [⟨63, 0, .ro, 0x0⟩]⟩,
  -- tlgTail R640
  ⟨0x200010, 0x0, 1, 0x0, 1, [⟨63, 0, .ro, 0x0⟩]⟩,
  -- tlgCursor R640
  ⟨0x200018, 0x0, 1, 0x0, 1, [⟨52, 48, .rw, 0x0⟩, ⟨47, 0, .rw, 0x0⟩]⟩,
  -- tlgFreeze R640
  ⟨0x200020, 0x0, 1, 0x0, 1, [⟨63, 32, .ro, 0x0⟩, ⟨31, 16, .ro, 0x0⟩, ⟨0, 0, .rw, 0x0⟩]⟩,
  -- tlgSpill R640
  ⟨0x200028, 0x0, 1, 0x0, 1, [⟨51, 21, .rwx, 0x0⟩, ⟨5, 1, .rwx, 0x10⟩, ⟨0, 0, .rwx, 0x0⟩]⟩,
  -- tlgSpilled R640
  ⟨0x200030, 0x0, 1, 0x0, 1, [⟨63, 0, .ro, 0x0⟩]⟩,
  -- tlgRate R640
  ⟨0x200100, 0x8, 16, 0x0, 1, [⟨15, 8, .rwx, 0x20⟩, ⟨4, 0, .rwx, 0x10⟩]⟩]

/-- The registers of the PCC window. -/
def rowsPcc : List RegRow := [
  -- pccDumpctl R664
  ⟨0x300000, 0x0, 1, 0x0, 1, [⟨63, 32, .rw, 0x3d090⟩, ⟨7, 4, .rw, 0x4⟩, ⟨1, 1, .w1s, 0x0⟩, ⟨0, 0, .rw, 0x0⟩]⟩,
  -- pccDumpbase R664
  ⟨0x300008, 0x0, 1, 0x0, 1, [⟨51, 21, .rw, 0x0⟩]⟩,
  -- pccDumpstat R664
  ⟨0x300010, 0x0, 1, 0x0, 1, [⟨63, 48, .ro, 0x0⟩, ⟨47, 0, .ro, 0x0⟩]⟩,
  -- pccValue R664
  ⟨0x310000, 0x8, 3064, 0x0, 1, [⟨49, 49, .ro, 0x0⟩, ⟨48, 48, .w1c, 0x0⟩, ⟨47, 0, .rw, 0x0⟩]⟩,
  -- pccSel R664
  ⟨0x320000, 0x8, 3064, 0x0, 1, [⟨21, 21, .rw, 0x0⟩, ⟨20, 19, .rw, 0x0⟩, ⟨18, 18, .rw, 0x0⟩, ⟨17, 8, .rw, 0x0⟩, ⟨7, 0, .rw, 0x0⟩]⟩]

/-- The registers of the RLM window. -/
def rowsRlm : List RegRow := [
  -- rlmCmd R480
  ⟨0x400000, 0x0, 1, 0x0, 1, [⟨31, 31, .ro, 0x0⟩, ⟨27, 24, .ro, 0x0⟩, ⟨18, 16, .wo, 0x0⟩, ⟨9, 0, .rw, 0x0⟩]⟩,
  -- rlmCmdarg0 R480
  ⟨0x400008, 0x0, 1, 0x0, 1, [⟨16, 16, .rw, 0x0⟩, ⟨15, 0, .rw, 0x0⟩]⟩,
  -- rlmCmdarg1 R480
  ⟨0x400010, 0x0, 1, 0x0, 1, [⟨51, 6, .rw, 0x0⟩]⟩,
  -- rlmPgcmd R480
  ⟨0x400100, 0x0, 1, 0x0, 1, [⟨63, 63, .ro, 0x0⟩, ⟨62, 60, .ro, 0x0⟩, ⟨59, 50, .ro, 0x0⟩, ⟨19, 10, .rw, 0x0⟩, ⟨9, 0, .rw, 0x0⟩]⟩,
  -- rlmPgarg R480
  ⟨0x400108, 0x0, 1, 0x0, 1, [⟨51, 12, .rw, 0x0⟩, ⟨1, 0, .wo, 0x0⟩]⟩,
  -- rlmSeal R480
  ⟨0x400200, 0x0, 1, 0x0, 1, [⟨28, 16, .rw, 0x40⟩, ⟨4, 0, .rw, 0x4⟩]⟩,
  -- rlmPotbase R480
  ⟨0x400300, 0x0, 1, 0x0, 1, [⟨51, 21, .ro, 0x0⟩]⟩,
  -- rlmTable0 R481
  ⟨0x410000, 0x10, 1024, 0x0, 1, [⟨63, 48, .rwx, 0xffff⟩, ⟨44, 44, .rwx, 0x0⟩, ⟨43, 42, .rwx, 0x0⟩, ⟨41, 41, .rw, 0x0⟩, ⟨40, 40, .rw, 0x0⟩, ⟨32, 32, .rwt, 0x0⟩, ⟨18, 16, .ro, 0x0⟩, ⟨15, 0, .ro, 0x0⟩]⟩,
  -- rlmTable1 R481
  ⟨0x410008, 0x10, 1024, 0x0, 1, [⟨51, 12, .rw, 0x0⟩]⟩,
  -- rlmBind0 R482
  ⟨0x420000, 0x10, 480, 0x0, 1, [⟨20, 17, .ro, 0x0⟩, ⟨16, 16, .ro, 0x0⟩, ⟨9, 0, .ro, 0x0⟩]⟩,
  -- rlmBind1 R482
  ⟨0x420008, 0x10, 480, 0x0, 1, [⟨51, 6, .ro, 0x0⟩]⟩,
  -- rlmReg0 R483
  ⟨0x440000, 0x10, 4096, 0x0, 1, [⟨28, 16, .rwx, 0x0⟩, ⟨12, 0, .rwx, 0x0⟩]⟩,
  -- rlmReg1 R483
  ⟨0x440008, 0x10, 4096, 0x0, 1, [⟨31, 0, .ro, 0x0⟩]⟩,
  -- keySlot R484
  ⟨0x480000, 0x8, 1024, 0x0, 1, [⟨23, 8, .ro, 0x0⟩, ⟨3, 3, .ro, 0x0⟩, ⟨2, 0, .ro, 0x0⟩]⟩,
  -- keyRotstat R484
  ⟨0x482000, 0x0, 1, 0x0, 1, [⟨63, 54, .ro, 0x0⟩, ⟨53, 53, .ro, 0x0⟩, ⟨30, 0, .ro, 0x0⟩]⟩]

/-- The registers of the TKT window. -/
def rowsTkt : List RegRow := [
  -- tktSlot0 R525
  ⟨0x600000, 0x10, 8, 0x0, 1, [⟨0, 0, .ro, 0x0⟩]⟩,
  -- tktSlot1 R525
  ⟨0x600008, 0x10, 8, 0x0, 1, [⟨63, 0, .ro, 0x0⟩]⟩,
  -- tktGrant0 R525
  ⟨0x600100, 0x10, 16, 0x0, 1, [⟨8, 8, .ro, 0x0⟩, ⟨4, 0, .ro, 0x0⟩]⟩,
  -- tktGrant1 R525
  ⟨0x600108, 0x10, 16, 0x0, 1, [⟨63, 0, .ro, 0x0⟩]⟩]

/-- The registers of the DMC window. -/
def rowsDmc : List RegRow := [
  -- dmcStatus R393
  ⟨0x800000, 0x10000, 16, 0x0, 1, [⟨11, 10, .ro, 0x0⟩, ⟨9, 8, .ro, 0x0⟩, ⟨7, 6, .ro, 0x0⟩, ⟨5, 5, .ro, 0x0⟩, ⟨4, 4, .ro, 0x0⟩, ⟨3, 2, .ro, 0x0⟩, ⟨1, 1, .ro, 0x0⟩, ⟨0, 0, .ro, 0x0⟩]⟩,
  -- dmcTrainres0 R393
  ⟨0x800008, 0x10000, 16, 0x0, 1, [⟨47, 40, .ro, 0x0⟩, ⟨39, 32, .ro, 0x0⟩, ⟨31, 24, .ro, 0x0⟩, ⟨23, 16, .ro, 0x0⟩, ⟨15, 8, .ro, 0x0⟩, ⟨7, 0, .ro, 0x0⟩]⟩,
  -- dmcTrainres1 R393
  ⟨0x800010, 0x10000, 16, 0x0, 1, [⟨31, 24, .ro, 0x0⟩, ⟨23, 20, .ro, 0x0⟩, ⟨19, 16, .ro, 0x0⟩, ⟨15, 8, .ro, 0x0⟩, ⟨7, 0, .ro, 0x0⟩]⟩,
  -- dmcIdleTimer R393
  ⟨0x800018, 0x10000, 16, 0x0, 1, [⟨7, 0, .rw, 0x18⟩]⟩,
  -- dmcCecount R393
  ⟨0x800020, 0x10000, 16, 0x0, 1, [⟨31, 0, .ro, 0x0⟩]⟩,
  -- dmcUelast R393
  ⟨0x800028, 0x10000, 16, 0x0, 1, [⟨63, 54, .ro, 0x0⟩, ⟨53, 52, .ro, 0x0⟩, ⟨46, 6, .ro, 0x0⟩]⟩,
  -- dmcTokenrate R393
  ⟨0x800030, 0x10000, 16, 0x0, 1, [⟨63, 48, .rwx, 0x20⟩, ⟨47, 32, .rwx, 0x40⟩, ⟨31, 16, .rwx, 0x40⟩, ⟨15, 0, .rwx, 0x60⟩]⟩,
  -- dmcTokendepth R393
  ⟨0x800038, 0x10000, 16, 0x0, 1, [⟨63, 63, .rwx, 0x0⟩, ⟨51, 48, .rwx, 0x0⟩, ⟨47, 36, .rwx, 0x40⟩, ⟨35, 24, .rwx, 0x40⟩, ⟨23, 12, .rwx, 0x40⟩, ⟨11, 0, .rwx, 0x40⟩]⟩,
  -- dmcCectl R393
  ⟨0x800040, 0x10000, 16, 0x0, 1, [⟨8, 8, .ro, 0x0⟩, ⟨0, 0, .rwx, 0x0⟩]⟩,
  -- dmcScrub R393
  ⟨0x800048, 0x10000, 16, 0x0, 1, [⟨15, 8, .rwx, 0x18⟩, ⟨0, 0, .rwx, 0x0⟩]⟩,
  -- dmcCetab0 R394
  ⟨0x800100, 0x10000, 16, 0x10, 16, [⟨63, 60, .ro, 0x0⟩, ⟨59, 56, .ro, 0x0⟩, ⟨55, 55, .ro, 0x0⟩, ⟨54, 54, .ro, 0x0⟩, ⟨53, 52, .ro, 0x0⟩, ⟨51, 50, .ro, 0x0⟩, ⟨46, 6, .ro, 0x0⟩, ⟨0, 0, .ro, 0x0⟩]⟩,
  -- dmcCetab1 R394
  ⟨0x800108, 0x10000, 16, 0x10, 16, [⟨63, 0, .ro, 0x0⟩]⟩,
  -- dmcCfg R395
  ⟨0x808000, 0x0, 1, 0x0, 1, [⟨7, 6, .rwt, 0x0⟩, ⟨5, 4, .rwt, 0x0⟩, ⟨3, 2, .rwt, 0x0⟩, ⟨1, 0, .rwt, 0x0⟩]⟩,
  -- dmcTop R395
  ⟨0x808008, 0x0, 1, 0x0, 1, [⟨63, 0, .ro, 0x0⟩]⟩,
  -- dmcHalfmap R395
  ⟨0x808010, 0x0, 1, 0x0, 1, [⟨31, 30, .ro, 0x0⟩, ⟨29, 28, .ro, 0x0⟩, ⟨27, 26, .ro, 0x0⟩, ⟨25, 24, .ro, 0x0⟩, ⟨23, 22, .ro, 0x0⟩, ⟨21, 20, .ro, 0x0⟩, ⟨19, 18, .ro, 0x0⟩, ⟨17, 16, .ro, 0x0⟩, ⟨15, 14, .ro, 0x0⟩, ⟨13, 12, .ro, 0x0⟩, ⟨11, 10, .ro, 0x0⟩, ⟨9, 8, .ro, 0x0⟩, ⟨7, 6, .ro, 0x0⟩, ⟨5, 4, .ro, 0x0⟩, ⟨3, 2, .ro, 0x0⟩, ⟨1, 0, .ro, 0x0⟩]⟩,
  -- dmcShare R395
  ⟨0x808018, 0x0, 1, 0x0, 1, [⟨31, 24, .rw, 0x20⟩, ⟨23, 16, .rw, 0x40⟩, ⟨15, 8, .rw, 0x40⟩, ⟨7, 0, .rw, 0x60⟩]⟩,
  -- dmcChanhash0 R395
  ⟨0x808020, 0x0, 1, 0x0, 1, [⟨51, 0, .rwt, 0x2222000400⟩]⟩,
  -- dmcChanhash1 R395
  ⟨0x808028, 0x0, 1, 0x0, 1, [⟨51, 0, .rwt, 0x4444000800⟩]⟩,
  -- dmcChanhash2 R395
  ⟨0x808030, 0x0, 1, 0x0, 1, [⟨51, 0, .rwt, 0x8888001000⟩]⟩,
  -- dmcChanhash3 R395
  ⟨0x808038, 0x0, 1, 0x0, 1, [⟨51, 0, .rwt, 0x11110002000⟩]⟩,
  -- dmcBankhash0 R395
  ⟨0x808040, 0x0, 1, 0x0, 1, [⟨51, 0, .rwt, 0x20001010100⟩]⟩,
  -- dmcBankhash1 R395
  ⟨0x808048, 0x0, 1, 0x0, 1, [⟨51, 0, .rwt, 0x40000820200⟩]⟩,
  -- dmcBankhash2 R395
  ⟨0x808050, 0x0, 1, 0x0, 1, [⟨51, 0, .rwt, 0x202044000⟩]⟩,
  -- dmcBankhash3 R395
  ⟨0x808058, 0x0, 1, 0x0, 1, [⟨51, 0, .rwt, 0x404088000⟩]⟩,
  -- dmcBankhash4 R395
  ⟨0x808060, 0x0, 1, 0x0, 1, [⟨51, 0, .rwt, 0x2020200000⟩]⟩,
  -- dmcBankhash5 R395
  ⟨0x808068, 0x0, 1, 0x0, 1, [⟨51, 0, .rwt, 0x8080400000⟩]⟩]

/-- The registers of the DIR window. -/
def rowsDir : List RegRow := [
  -- dirStatus R311
  ⟨0xa00000, 0x10000, 8, 0x0, 1, [⟨11, 8, .ro, 0x0⟩, ⟨7, 6, .ro, 0x0⟩, ⟨3, 3, .ro, 0x0⟩, ⟨2, 2, .ro, 0x0⟩, ⟨1, 1, .ro, 0x0⟩, ⟨0, 0, .ro, 0x0⟩]⟩,
  -- dirCount0 R311
  ⟨0xa00008, 0x10000, 8, 0x0, 1, [⟨63, 32, .ro, 0x0⟩, ⟨31, 0, .ro, 0x0⟩]⟩,
  -- dirCount1 R311
  ⟨0xa00010, 0x10000, 8, 0x0, 1, [⟨63, 32, .ro, 0x0⟩, ⟨31, 0, .ro, 0x0⟩]⟩,
  -- dirLasterr R311
  ⟨0xa00018, 0x10000, 8, 0x0, 1, [⟨63, 48, .ro, 0x0⟩, ⟨23, 0, .ro, 0x0⟩]⟩,
  -- dirFencectl R311
  ⟨0xa00020, 0x10000, 8, 0x0, 1, [⟨23, 16, .rwx, 0x10⟩, ⟨15, 0, .rwx, 0x100⟩]⟩,
  -- dirLayout R312
  ⟨0xa08000, 0x0, 1, 0x0, 1, [⟨63, 32, .ro, 0x0⟩, ⟨13, 12, .ro, 0x0⟩, ⟨9, 8, .ro, 0x0⟩, ⟨7, 0, .ro, 0x0⟩]⟩,
  -- dirReshape R312
  ⟨0xa08008, 0x0, 1, 0x0, 1, [⟨19, 18, .ro, 0x0⟩, ⟨17, 10, .ro, 0x0⟩, ⟨9, 8, .ro, 0x0⟩, ⟨2, 1, .ro, 0x0⟩, ⟨0, 0, .ro, 0x0⟩]⟩,
  -- dirCursor R312
  ⟨0xa08010, 0x0, 1, 0x0, 1, [⟨63, 32, .ro, 0x0⟩, ⟨31, 0, .ro, 0x0⟩]⟩,
  -- dirAgectl R312
  ⟨0xa08018, 0x0, 1, 0x0, 1, [⟨4, 0, .rwx, 0x14⟩]⟩,
  -- dirReshapectl R312
  ⟨0xa08020, 0x0, 1, 0x0, 1, [⟨1, 0, .rwx, 0x3⟩]⟩]

/-- The registers of the HOM window. -/
def rowsHom : List RegRow := [
  -- homStatus R273
  ⟨0xb00000, 0x10000, 16, 0x0, 1, [⟨25, 16, .ro, 0x0⟩, ⟨1, 0, .ro, 0x0⟩]⟩,
  -- homSettle R274
  ⟨0xb00008, 0x10000, 16, 0x0, 1, [⟨15, 8, .rwx, 0x0⟩, ⟨7, 0, .rwx, 0x30⟩]⟩,
  -- homCredit R276
  ⟨0xb00010, 0x10000, 16, 0x0, 1, [⟨31, 24, .rwx, 0x2⟩, ⟨23, 16, .rwx, 0x5⟩, ⟨15, 8, .rwx, 0x7⟩, ⟨7, 0, .rwx, 0xc⟩]⟩,
  -- homCount0 R278
  ⟨0xb00018, 0x10000, 16, 0x0, 1, [⟨63, 32, .ro, 0x0⟩, ⟨31, 0, .ro, 0x0⟩]⟩,
  -- homCount1 R278
  ⟨0xb00020, 0x10000, 16, 0x0, 1, [⟨63, 32, .ro, 0x0⟩, ⟨31, 0, .ro, 0x0⟩]⟩,
  -- homLasterr R278
  ⟨0xb00028, 0x10000, 16, 0x0, 1, [⟨63, 48, .ro, 0x0⟩, ⟨45, 0, .ro, 0x0⟩]⟩]

/-- The registers of the OCT window. -/
def rowsOct : List RegRow := [
  -- octCfg R356
  ⟨0xc00000, 0x10000, 12, 0x0, 1, [⟨6, 4, .ro, 0x0⟩, ⟨2, 0, .rwt, 0x0⟩]⟩,
  -- trlStatus R356
  ⟨0xc00100, 0x10000, 12, 0x0, 1, [⟨27, 24, .ro, 0x0⟩, ⟨20, 16, .ro, 0x0⟩, ⟨15, 8, .ro, 0x0⟩, ⟨7, 6, .ro, 0x0⟩, ⟨2, 0, .ro, 0x0⟩]⟩,
  -- trlNeighbour R356
  ⟨0xc00108, 0x10000, 12, 0x0, 1, [⟨63, 0, .ro, 0x0⟩]⟩,
  -- trlCount0 R356
  ⟨0xc00110, 0x10000, 12, 0x0, 1, [⟨63, 32, .ro, 0x0⟩, ⟨31, 0, .ro, 0x0⟩]⟩,
  -- trlCount1 R356
  ⟨0xc00118, 0x10000, 12, 0x0, 1, [⟨63, 32, .ro, 0x0⟩, ⟨31, 16, .ro, 0x0⟩, ⟨15, 0, .ro, 0x0⟩]⟩,
  -- trlLinkctl R356
  ⟨0xc00120, 0x10000, 12, 0x0, 1, [⟨24, 24, .rwx, 0x0⟩, ⟨23, 16, .rwx, 0x8⟩, ⟨15, 4, .rwx, 0x100⟩, ⟨1, 0, .rwx, 0x1⟩]⟩,
  -- rpstatus R526
  ⟨0xc00200, 0x10000, 12, 0x0, 1, [⟨15, 12, .ro, 0x0⟩, ⟨11, 11, .ro, 0x0⟩, ⟨7, 4, .ro, 0x0⟩, ⟨3, 0, .ro, 0x0⟩]⟩,
  -- rpctl R526
  ⟨0xc00208, 0x10000, 12, 0x0, 1, [⟨0, 0, .w1s, 0x0⟩]⟩,
  -- rpassign R526
  ⟨0xc00300, 0x10000, 12, 0x8, 64, [⟨32, 32, .rw, 0x0⟩, ⟨25, 16, .rw, 0x0⟩, ⟨15, 0, .rw, 0x0⟩]⟩,
  -- trlImage R357
  ⟨0xc08000, 0x0, 1, 0x0, 1, [⟨63, 32, .ro, 0x0⟩, ⟨22, 22, .ro, 0x0⟩, ⟨20, 16, .ro, 0x0⟩, ⟨12, 8, .ro, 0x0⟩, ⟨5, 5, .ro, 0x0⟩, ⟨4, 0, .ro, 0x0⟩]⟩,
  -- trlHeartbeat R357
  ⟨0xc08008, 0x0, 1, 0x0, 1, [⟨31, 0, .ro, 0x0⟩]⟩,
  -- trlArb R357
  ⟨0xc08010, 0x0, 1, 0x0, 1, [⟨11, 8, .rwx, 0x1⟩, ⟨7, 4, .rwx, 0x4⟩, ⟨3, 0, .rwx, 0x8⟩]⟩,
  -- trlRoute R357
  ⟨0xc08100, 0x8, 32, 0x0, 1, [⟨15, 15, .ro, 0x0⟩, ⟨13, 12, .ro, 0x0⟩, ⟨11, 0, .ro, 0x0⟩]⟩]

/-- The registers of the EPF window. -/
def rowsEpf : List RegRow := [
  -- epfStatus R524
  ⟨0xd00000, 0x0, 1, 0x0, 1, [⟨40, 32, .ro, 0x0⟩, ⟨15, 12, .ro, 0x0⟩, ⟨11, 11, .ro, 0x0⟩, ⟨10, 10, .ro, 0x0⟩, ⟨9, 8, .ro, 0x0⟩, ⟨7, 4, .ro, 0x0⟩, ⟨3, 0, .ro, 0x0⟩]⟩,
  -- epfPoll R524
  ⟨0xd00008, 0x0, 1, 0x0, 1, [⟨23, 16, .ro, 0x1⟩, ⟨15, 8, .rw, 0x64⟩, ⟨7, 0, .rw, 0x1⟩]⟩,
  -- epfDbpage R524
  ⟨0xd00010, 0x0, 1, 0x0, 1, [⟨63, 12, .rw, 0x0⟩, ⟨0, 0, .rw, 0x0⟩]⟩,
  -- epfBar2cfg R524
  ⟨0xd00018, 0x0, 1, 0x0, 1, [⟨5, 0, .rwt, 0x1c⟩]⟩,
  -- epfCount0 R524
  ⟨0xd00020, 0x0, 1, 0x0, 1, [⟨63, 32, .ro, 0x0⟩, ⟨31, 0, .ro, 0x0⟩]⟩,
  -- epfWin R524
  ⟨0xd00100, 0x8, 16, 0x0, 1, [⟨51, 24, .rw, 0x0⟩, ⟨0, 0, .rw, 0x0⟩]⟩,
  -- epfCring0 R524
  ⟨0xd01000, 0x10, 64, 0x0, 1, [⟨63, 12, .rw, 0x0⟩]⟩,
  -- epfCring1 R524
  ⟨0xd01008, 0x10, 64, 0x0, 1, [⟨63, 32, .ro, 0x0⟩, ⟨21, 16, .rw, 0x0⟩, ⟨4, 4, .rw, 0x0⟩, ⟨3, 0, .rw, 0x0⟩]⟩,
  -- epfPring0 R524
  ⟨0xd01800, 0x10, 64, 0x0, 1, [⟨63, 12, .rw, 0x0⟩]⟩,
  -- epfPring1 R524
  ⟨0xd01808, 0x10, 64, 0x0, 1, [⟨63, 32, .ro, 0x0⟩, ⟨26, 16, .rw, 0x0⟩, ⟨4, 4, .rw, 0x0⟩, ⟨3, 0, .rw, 0x0⟩]⟩]

/-- The registers of the PEN window. -/
def rowsPen : List RegRow := [
  -- penStatus R441
  ⟨0xe00000, 0x10000, 16, 0x0, 1, [⟨30, 16, .ro, 0x0⟩, ⟨2, 2, .ro, 0x0⟩, ⟨1, 1, .ro, 0x0⟩, ⟨0, 0, .ro, 0x0⟩]⟩,
  -- penCurrent R441
  ⟨0xe00008, 0x10000, 16, 0x0, 1, [⟨63, 63, .ro, 0x0⟩, ⟨47, 16, .ro, 0x0⟩, ⟨13, 0, .ro, 0x0⟩]⟩,
  -- penProgress R441
  ⟨0xe00010, 0x10000, 16, 0x0, 1, [⟨63, 0, .ro, 0x0⟩]⟩,
  -- penCount0 R441
  ⟨0xe00018, 0x10000, 16, 0x0, 1, [⟨63, 32, .ro, 0x0⟩, ⟨31, 0, .ro, 0x0⟩]⟩,
  -- penCount1 R441
  ⟨0xe00020, 0x10000, 16, 0x0, 1, [⟨63, 32, .ro, 0x0⟩, ⟨31, 0, .ro, 0x0⟩]⟩,
  -- penLasterr R441
  ⟨0xe00028, 0x10000, 16, 0x0, 1, [⟨63, 48, .ro, 0x0⟩, ⟨47, 40, .ro, 0x0⟩, ⟨13, 0, .ro, 0x0⟩]⟩,
  -- penWeight R442
  ⟨0xe04000, 0x8, 2048, 0x0, 1, [⟨63, 56, .rwx, 0x10⟩, ⟨55, 48, .rwx, 0x10⟩, ⟨47, 40, .rwx, 0x10⟩, ⟨39, 32, .rwx, 0x10⟩, ⟨31, 24, .rwx, 0x10⟩, ⟨23, 16, .rwx, 0x10⟩, ⟨15, 8, .rwx, 0x10⟩, ⟨7, 0, .rwx, 0x10⟩]⟩,
  -- penCtxcmd R442
  ⟨0xe08000, 0x0, 1, 0x0, 1, [⟨23, 20, .ro, 0x0⟩, ⟨19, 19, .ro, 0x0⟩, ⟨18, 16, .wo, 0x0⟩, ⟨13, 0, .rw, 0x0⟩]⟩,
  -- penArb R442
  ⟨0xe08008, 0x0, 1, 0x0, 1, [⟨0, 0, .rwx, 0x0⟩]⟩,
  -- penCtxdata R442
  ⟨0xe08040, 0x8, 8, 0x0, 1, [⟨63, 0, .rw, 0x0⟩]⟩,
  -- penRealmcap R442
  ⟨0xe0c000, 0x8, 1024, 0x0, 1, [⟨15, 0, .rwx, 0x0⟩]⟩]

/-- The registers of the CDI window. -/
def rowsCdi : List RegRow := [
  -- l3ctl R191
  ⟨0x1010000, 0x100000, 12, 0x0, 1, [⟨1, 1, .ro, 0x0⟩, ⟨0, 0, .rwx, 0x0⟩]⟩,
  -- l3stat R192
  ⟨0x1010008, 0x100000, 12, 0x0, 1, [⟨63, 32, .ro, 0x0⟩, ⟨31, 0, .ro, 0x0⟩]⟩,
  -- l3last R193
  ⟨0x1010010, 0x100000, 12, 0x0, 1, [⟨63, 48, .ro, 0x0⟩, ⟨37, 34, .ro, 0x0⟩, ⟨33, 22, .ro, 0x0⟩, ⟨21, 18, .ro, 0x0⟩]⟩,
  -- optctl R279
  ⟨0x1010100, 0x100000, 12, 0x0, 1, [⟨2, 1, .rwx, 0x2⟩, ⟨0, 0, .rwx, 0x1⟩]⟩,
  -- substat R279
  ⟨0x1010108, 0x100000, 12, 0x0, 1, [⟨63, 32, .ro, 0x0⟩, ⟨31, 0, .ro, 0x0⟩]⟩,
  -- brgIdent R554
  ⟨0x1020000, 0x100000, 12, 0x0, 1, [⟨32, 32, .ro, 0x0⟩, ⟨31, 12, .ro, 0x0⟩, ⟨11, 8, .ro, 0x0⟩, ⟨7, 4, .ro, 0x0⟩, ⟨3, 0, .ro, 0x0⟩]⟩,
  -- brgSerial R554
  ⟨0x1020008, 0x100000, 12, 0x0, 1, [⟨63, 0, .ro, 0x0⟩]⟩,
  -- brgStatus R554
  ⟨0x1020010, 0x100000, 12, 0x0, 1, [⟨15, 12, .ro, 0x0⟩, ⟨9, 8, .ro, 0x0⟩, ⟨7, 4, .ro, 0x0⟩, ⟨1, 1, .ro, 0x0⟩, ⟨0, 0, .ro, 0x0⟩]⟩,
  -- brgCfg R554
  ⟨0x1020018, 0x100000, 12, 0x0, 1, [⟨1, 0, .rwt, 0x0⟩]⟩,
  -- brgCount R554
  ⟨0x1020020, 0x100000, 12, 0x0, 1, [⟨63, 32, .ro, 0x0⟩, ⟨31, 16, .ro, 0x0⟩]⟩,
  -- brgSpared R554
  ⟨0x1020028, 0x100000, 12, 0x0, 1, [⟨63, 32, .ro, 0x0⟩, ⟨31, 0, .ro, 0x0⟩]⟩]

/-- The registers of the MSH window. -/
def rowsMsh : List RegRow := [
  -- mshIoident R555
  ⟨0x2000000, 0x0, 1, 0x0, 1, [⟨11, 8, .ro, 0x1⟩, ⟨7, 4, .ro, 0x2⟩, ⟨3, 0, .ro, 0x1⟩]⟩,
  -- mshIoserial R555
  ⟨0x2000008, 0x0, 1, 0x0, 1, [⟨63, 0, .ro, 0x0⟩]⟩,
  -- mshDiemap R555
  ⟨0x2000010, 0x0, 1, 0x0, 1, [⟨27, 24, .ro, 0x0⟩, ⟨23, 12, .ro, 0x0⟩, ⟨11, 0, .ro, 0x0⟩]⟩,
  -- mshArb R555
  ⟨0x2000018, 0x0, 1, 0x0, 1, [⟨9, 0, .rwx, 0x100⟩]⟩,
  -- mshRetry R555
  ⟨0x2000020, 0x0, 1, 0x0, 1, [⟨7, 0, .rwx, 0x40⟩]⟩,
  -- mshRouter R555
  ⟨0x2001000, 0x8, 36, 0x0, 1, [⟨63, 32, .ro, 0x0⟩, ⟨31, 0, .ro, 0x0⟩]⟩]

/-- The window of the PRS that `off` lies in (R671). -/
def rowsNear (off : Nat) : List RegRow :=
  if off < 0x40000 then rowsGlb else if off < 0x100000 then rowsClk else if off < 0x200000 then rowsThm
  else if off < 0x300000 then rowsTlg else if off < 0x400000 then rowsPcc else if off < 0x600000 then rowsRlm
  else if off < 0x800000 then rowsTkt else if off < 0xA00000 then rowsDmc else if off < 0xB00000 then rowsDir
  else if off < 0xC00000 then rowsHom else if off < 0xD00000 then rowsOct else if off < 0xE00000 then rowsEpf
  else if off < 0x1000000 then rowsPen else if off < 0x2000000 then rowsCdi else rowsMsh

/-- The fields of the register at `off`; none where no register lies there (R668). -/
def regFields (off : Nat) : List RegField :=
  match (rowsNear off).find? (fun r => r.holds off) with
  | some r => r.fields
  | none => []

/-- The value a register's fields hold at reset (R4). -/
def fieldsReset (fs : List RegField) : Word :=
  BitVec.ofNat 64 (fs.foldl (fun a f => a + f.reset * 2 ^ f.lo) 0)

/-- The reset value of the register at `off`. -/
def regReset (off : Nat) : Word := fieldsReset (regFields off)

end Sys2Proof.Machine
end

