-- ==== Sys2Proof/Machine/Ops.lean ====
section
/-! DEFINITION. The named operations over the state: registers, threads, cores, dies, messages, free values, DRAM bytes,
trip-log records. -/
namespace Sys2Proof.Machine
open Sys2Proof

/-! ## PRS registers -/

/-- The reset value of a register, TLG.X_RATE of a class whose records are never suppressed, realm 0's state and the raises of
SVN_MIN of a new package included (R640, R446, R578). -/
def regInit (off : Nat) : Word :=
  if off = regTlgRate 0 || off = regTlgRate 1 || off = regTlgRate 2 || off = regTlgRate 4 || off = regTlgRate 5
      || off = regTlgRate 15 then 0
  else if off = regRlmTable0 0 then putBits (regReset off) 18 16 2
  else if off = regGlbBoot then putBits (regReset off) 10 5 32
  else regReset off

/-- What the register at `off` holds. -/
def State.reg (s : State) (off : Nat) : Word := Tbl.get (regInit off) s.regs off

def State.setReg (s : State) (off : Nat) (w : Word) : State := { s with regs := Tbl.set s.regs off w }

/-- Bits [hi:lo] of the register at `off`. -/
def State.fld (s : State) (off hi lo : Nat) : Nat := bits (s.reg off) hi lo

def State.setFld (s : State) (off hi lo v : Nat) : State := s.setReg off (putBits (s.reg off) hi lo v)

/-- Adds `n` to a count field that saturates at its all-ones value. -/
def State.addFld (s : State) (off hi lo n : Nat) : State :=
  s.setFld off hi lo (satTo (2 ^ (hi - lo + 1) - 1) (s.fld off hi lo + n))

/-! ## Modes (R557) -/

def modeOff : Nat := 0
def modeStandby : Nat := 1
def modeSense : Nat := 2
def modeTrain : Nat := 3
def modeSealed : Nat := 4
def modeJoin : Nat := 5
def modeRunI : Nat := 6
def modeRunS : Nat := 7
def modeQuiesce : Nat := 8
def modeDegraded : Nat := 9
def modeDrain : Nat := 10
def modeHalt : Nat := 11

/-- GLB.MODE.MODE (R557). -/
def State.mode (s : State) : Nat := s.fld regGlbMode 3 0
/-- GLB.MODE.IMAGE (R16). -/
def State.imageMode (s : State) : Nat := s.fld regGlbMode 7 4
/-- GLB.MODE.HELD (R567). -/
def State.heldBit (s : State) : Bool := s.fld regGlbMode 12 12 = 1

/-- The cores of the package retire instructions (R557): a run mode, or DEGRADED with its sources not held. -/
def State.running (s : State) : Bool :=
  s.mode = modeRunI || s.mode = modeRunS || (s.mode = modeDegraded && !s.heldBit)

/-- The package's sources are held (R567). -/
def State.sourcesHeld (s : State) : Bool := s.mode = modeQuiesce || (s.mode = modeDegraded && s.heldBit)

/-- The package's number, 0 before its first JOIN (R15). -/
def State.pkgNum (s : State) : Nat := s.fld regTrlImage 4 0
/-- The package is a member of an image. -/
def State.joined (s : State) : Bool := s.fld regTrlImage 5 5 = 1
/-- The package is the image's time source (R49). -/
def State.timeSource (s : State) : Bool := s.fld regClkStatus 3 3 = 1
/-- The manager's package number. -/
def State.managerNum (s : State) : Nat := s.fld regTrlImage 12 8
/-- The package is the manager: from the JOIN epoch, or from its TAKEOVER, on which it is not yet the time source (R49, R351). -/
def State.isManager (s : State) : Bool := s.timeSource || (s.joined && decide (s.managerNum = s.pkgNum))
/-- Package `p` is a member of the image. -/
def State.isMember (s : State) (p : Nat) : Bool := s.joined && (s.fld regTrlImage 63 32).testBit p
/-- The members other than this package, ascending. -/
def State.otherMembers (s : State) : List Nat := (upTo 32).filter (fun p => s.isMember p && p ≠ s.pkgNum)

/-! ## Threads, cores, dies -/

def State.thread (s : State) (t : Nat) : Thread := Tbl.get {} s.threads t
def State.setThread (s : State) (t : Nat) (x : Thread) : State := { s with threads := Tbl.set s.threads t x }
def State.modThread (s : State) (t : Nat) (f : Thread → Thread) : State := s.setThread t (f (s.thread t))

def State.core (s : State) (c : Nat) : Core := Tbl.get {} s.cores c
def State.setCore (s : State) (c : Nat) (x : Core) : State := { s with cores := Tbl.set s.cores c x }
def State.modCore (s : State) (c : Nat) (f : Core → Core) : State := s.setCore c (f (s.core c))

def State.die (s : State) (d : Nat) : Die := Tbl.get {} s.dies d
def State.setDie (s : State) (d : Nat) (x : Die) : State := { s with dies := Tbl.set s.dies d x }
def State.modDie (s : State) (d : Nat) (f : Die → Die) : State := s.setDie d (f (s.die d))

/-- The realm manager's data of this package. -/
def State.modRealms (s : State) (f : Realms → Realms) : State := { s with realms := f s.realms }

/-- The domain passes packets: it is not closing, closed or opening (R549). -/
def State.domainOpen (s : State) (d : Nat) : Bool := decide ((Tbl.get {} s.domains d).phase = .opened)

/-- The core position of a thread position: die * 20 + cluster * 4 + core. -/
def coreOf (t : Nat) : Nat := t / 2
/-- Which of the two threads of its core a thread is. -/
def threadIx (t : Nat) : Nat := t % 2
/-- The die of a thread position. -/
def dieOf (t : Nat) : Nat := t / 40
/-- The die of a core position. -/
def dieOfCore (c : Nat) : Nat := c / 20
/-- The sibling thread on the core. -/
def siblingOf (t : Nat) : Nat := if t % 2 = 0 then t + 1 else t - 1

/-- A core is enabled by its die's fuses, and its die is not fenced (R10, R11, R541). -/
def State.coreExists (s : State) (c : Nat) : Bool :=
  !(s.die (dieOfCore c)).fenced && (s.die (dieOfCore c)).enabled.getLsbD (c % 20)

/-- A thread exists: its core is enabled and its die not fenced. -/
def State.threadExists (s : State) (t : Nat) : Bool := s.coreExists (coreOf t)

/-- The thread identifier package | die | cluster | core | thread (R3). -/
def State.tidOf (s : State) (t : Nat) : BitVec 16 :=
  BitVec.ofNat 16 (s.pkgNum * 2048 + (t / 40) * 128 + (t % 40 / 8) * 16 + (t % 8 / 2) * 4 + t % 2)

/-- The thread position a thread identifier of this package names, when its fields are in range. -/
def posOfTid (tid : Nat) : Option Nat :=
  let die := natBits tid 10 7; let cl := natBits tid 6 4; let th := natBits tid 1 0
  if die < 12 ∧ cl < 5 ∧ th < 2 then some (die * 40 + cl * 8 + natBits tid 3 2 * 2 + th) else none

/-- The agent identifier package[15:11] | die[10:7] | unit[6:0] (R237). -/
def agentId (pkg die unit : Nat) : BitVec 16 := BitVec.ofNat 16 (pkg * 2048 + die * 128 + unit)
def agentPkg (a : BitVec 16) : Nat := natBits a.toNat 15 11
def agentDie (a : BitVec 16) : Nat := natBits a.toNat 10 7
def agentUnit (a : BitVec 16) : Nat := natBits a.toNat 6 0

/-- A core's L2 agent (R238). -/
def State.coreAgent (s : State) (c : Nat) : BitVec 16 := agentId s.pkgNum (c / 20) (c % 20)
/-- Home agent `n` of package `p` (R238). -/
def homeAgentId (p n : Nat) : BitVec 16 := agentId p 12 n

/-! ## Messages -/

/-- Sends a message. -/
def State.send (s : State) (m : Msg) : State := { s with sent := s.sent ++ [m] }

/-! ## Home agents and proxies -/

def State.home (s : State) (n : Nat) : Home := Tbl.get {} s.homes n
def State.setHome (s : State) (n : Nat) (h : Home) : State := { s with homes := Tbl.set s.homes n h }
def State.modHome (s : State) (n : Nat) (f : Home → Home) : State := s.setHome n (f (s.home n))

/-- The key of a package among the holders of a line and the sources of an agent's pools; a die's key is its number. -/
def pkgKey (p : Nat) : Nat := 64 + p
/-- The key of an agent: its die on this package (12 for the I/O die), or its package. -/
def State.keyOf (s : State) (a : BitVec 16) : Nat := if agentPkg a = s.pkgNum then agentDie a else pkgKey (agentPkg a)

def sumTbl (t : Tbl Nat) : Nat := t.foldl (fun n p => n + p.2) 0

/-- HOM[n].STATUS.PENDING follows the requests present in both pools (R273). -/
def State.notePending (s : State) (n : Nat) : State :=
  s.setFld (regHomStatus n) 25 16 (sumTbl (s.home n).reqUsed + sumTbl (s.home n).wbUsed)

/-- A source's request enters a pool of agent `n` (0 requests, 1 writebacks), or leaves it (R241). -/
def State.enterPool (s : State) (n pool key : Nat) : State :=
  (s.modHome n (fun h => if pool = 0 then { h with reqUsed := Tbl.set h.reqUsed key (Tbl.get 0 h.reqUsed key + 1) }
    else { h with wbUsed := Tbl.set h.wbUsed key (Tbl.get 0 h.wbUsed key + 1) })).notePending n
def State.leavePool (s : State) (n pool key : Nat) : State :=
  (s.modHome n (fun h => if pool = 0 then { h with reqUsed := Tbl.set h.reqUsed key (Tbl.get 0 h.reqUsed key - 1) }
    else { h with wbUsed := Tbl.set h.wbUsed key (Tbl.get 0 h.wbUsed key - 1) })).notePending n

/-- Sends the first message that waits for a credit of package `p`'s agents, when the proxy holds one (R241). -/
def State.sendWaiting (s : State) (n : Nat) (poolOf : MsgType → Nat) : State :=
  let ok (m : Msg) : Bool := decide (Tbl.get 0 (s.home n).creds (agentPkg m.hdr.dst * 2 + poolOf m.type) > 0)
  match (s.home n).waiting.find? ok with
  | none => s
  | some m =>
    let k := agentPkg m.hdr.dst * 2 + poolOf m.type
    (s.modHome n (fun h => { h with waiting := h.waiting.erase m, creds := Tbl.set h.creds k (Tbl.get 0 h.creds k - 1) })).send m

/-- The pool a message draws on (R241). -/
def poolOf (t : MsgType) : Nat := if t = .wbM ∨ t = .evN then 1 else 0

/-- A proxy sends a REQ-class message to a home, once it holds a credit there (R241). -/
def State.sendHome (s : State) (n : Nat) (m : Msg) : State :=
  (s.modHome n (fun h => { h with waiting := h.waiting ++ [m] })).sendWaiting n poolOf

/-- Credits that a home returns to the proxy (R241). -/
def State.homeCredits (s : State) (n p pool k : Nat) : State :=
  (s.modHome n (fun h => { h with creds := Tbl.set h.creds (p * 2 + pool) (Tbl.get 0 h.creds (p * 2 + pool) + k) })).sendWaiting n poolOf

/-! ## Free values -/

/-- The state after one open value has been met. -/
def State.spendFree (s : State) : State := { s with freeCount := s.freeCount + 1 }
/-- The next free value (log entry 1). -/
def State.freeWord (s : State) : Word := Config.freeWord s.freeCount

/-! ## DRAM bytes -/

/-- The byte at local offset `a`; an unlisted byte is 0 (log entry 2). -/
def memGet : List Host.Cell → Nat → Byte
  | [], _ => 0
  | (a', v) :: t, a => if a' = a then v else memGet t a

/-- The cells with byte `v` at `a`, in canonical form: addresses rising, no zero byte. -/
def memSet : List Host.Cell → Nat → Byte → List Host.Cell
  | [], a, v => if v = 0 then [] else [(a, v)]
  | (a', v') :: t, a, v =>
    if a' < a then (a', v') :: memSet t a v
    else if a' = a then (if v = 0 then t else (a, v) :: t)
    else (if v = 0 then (a', v') :: t else (a, v) :: (a', v') :: t)

/-- Bytes of `v` at `a`, `n` of them, little-endian. -/
def memPut (m : List Host.Cell) (a v : Nat) : Nat → List Host.Cell
  | 0 => m
  | n + 1 => memPut (memSet m a (BitVec.ofNat 8 v)) (a + 1) (v / 256) n

/-- `n` bytes at `a` as a number, little-endian. -/
def memNat (m : List Host.Cell) (a : Nat) : Nat → Nat
  | 0 => 0
  | n + 1 => (memGet m a).toNat + 256 * memNat m (a + 1) n

/-- The canonical form of DRAM contents: addresses strictly rising, no zero byte. -/
def memWf : List Host.Cell → Bool
  | [] => true
  | [(_, v)] => v ≠ 0
  | (a, v) :: (b, w) :: t => v ≠ 0 && decide (a < b) && memWf ((b, w) :: t)

/-- The line at local offset `a` (a multiple of 64). -/
def State.readMem (s : State) (a : Nat) : Line := BitVec.ofNat 512 (memNat s.mem a 64)
/-- Writes the line at local offset `a`. -/
def State.writeMem (s : State) (a : Nat) (l : Line) : State := { s with mem := memPut s.mem a l.toNat 64 }

/-! ## Trip-log records -/

/-- The origin field: package | die | source index (R621). -/
def State.origin (s : State) (die src : Nat) : BitVec 16 := BitVec.ofNat 16 (s.pkgNum * 2048 + die * 128 + src)

/-- The rank at which a happening with this code stands in the precedence list (R27; codes outside the list after it, log
entry 5). -/
def codeRank (code : Nat) : Nat :=
  if code = 0x0002 || code = 0x7006 then 1
  else if code = 0x6002 then 3
  else
    let c := code / 4096
    if c = 5 then 2 else if c = 4 then 4 else if c = 1 || c = 2 then 5 else if c = 0 then 6
    else if c = 6 then 7 else if c = 3 then 8 else if c = 13 then 11 else 12

/-- `a` stands before or beside `b`: by clause, then rank, then origin (R28, R31). -/
def qBefore (a b : QRec) : Bool :=
  if a.proc ≠ b.proc then decide (a.proc.toNat < b.proc.toNat)
  else if a.rank ≠ b.rank then decide (a.rank < b.rank)
  else decide (a.r.origin.toNat ≤ b.r.origin.toNat)

/-- Inserts a record after every record that stands before or beside it. -/
def qInsert (q : QRec) : List QRec → List QRec
  | [] => [q]
  | x :: t => if qBefore x q then x :: qInsert q t else q :: x :: t

/-- A record enters the input queue, or is dropped when the queue is full (R624). -/
def State.enqueueRec (s : State) (q : QRec) : State :=
  if s.log.queue.length < 4096 then { s with log := { s.log with queue := qInsert q s.log.queue } }
  else ({ s with log := { s.log with dropDue := true } }).addFld regTlgStatus 63 48 1

/-- Writes a record of rank `rank`: on the manager it waits for the resolution of its clause (R626), elsewhere it enters the
input queue. -/
def State.emitRank (s : State) (rank die src code realm : Nat) (ps : List Nat) : State :=
  let r : Rec := { clause := s.clause, code := BitVec.ofNat 16 code, origin := s.origin die src,
                   realm := BitVec.ofNat 16 realm, p0 := BitVec.ofNat 32 (ps.getD 0 0), p1 := BitVec.ofNat 32 (ps.getD 1 0),
                   p2 := BitVec.ofNat 32 (ps.getD 2 0), p3 := BitVec.ofNat 32 (ps.getD 3 0) }
  if s.isManager then
    { s with events := s.events ++ [{ stamp := s.clause, rank := rank, origin := r.origin, kind := .record, recs := [r],
                                      acted := true }] }
  else s.enqueueRec { proc := s.clause, rank := rank, r := r }

/-- A happening that concerns this package waits for the resolution of its clause (R27, R40). -/
def State.localEvent (s : State) (kind : EventKind) (rank die src : Nat) : State :=
  { s with events := s.events ++ [{ stamp := s.clause, rank := rank, origin := s.origin die src, kind := kind }] }

/-- Writes a record that carries the stamp of an event now being resolved: it takes its place among that clause's records (R31). -/
def State.emitStamped (s : State) (stamp : Word) (die src code realm : Nat) (ps : List Nat) : State :=
  s.enqueueRec { proc := stamp, rank := codeRank code,
                 r := { clause := stamp, code := BitVec.ofNat 16 code, origin := s.origin die src, realm := BitVec.ofNat 16 realm,
                        p0 := BitVec.ofNat 32 (ps.getD 0 0), p1 := BitVec.ofNat 32 (ps.getD 1 0),
                        p2 := BitVec.ofNat 32 (ps.getD 2 0), p3 := BitVec.ofNat 32 (ps.getD 3 0) } }

/-- Writes a record with the rank of its code. -/
def State.emit (s : State) (die src code realm : Nat) (ps : List Nat) : State :=
  s.emitRank (codeRank code) die src code realm ps

end Sys2Proof.Machine
end

