-- ==== Sys2Proof/Machine/Operands.lean ====
section
/-! DEFINITION. The operands and results of the W64 integer instructions (03_wemir_instruction_set.md R55, R56, R62 to R66,
R71, R75) and the registers of a thread. -/
namespace Sys2Proof.Machine
open Sys2Proof

/-! ## Registers of a thread (R55) -/

/-- g0 reads as 0. -/
def Thread.gpr (t : Thread) (r : BitVec 5) : Word := if r = 0 then 0 else Tbl.get 0 t.g r.toNat
/-- A write to g0 is ignored. -/
def Thread.setGpr (t : Thread) (r : BitVec 5) (w : Word) : Thread :=
  if r = 0 then t else { t with g := Tbl.set t.g r.toNat w }

def Thread.vec (t : Thread) (r : BitVec 5) : BitVec 256 := Tbl.get 0 t.v r.toNat
def Thread.setVec (t : Thread) (r : BitVec 5) (x : BitVec 256) : Thread := { t with v := Tbl.set t.v r.toNat x }

/-- k0 reads as FFFF_FFFFh. -/
def Thread.mask (t : Thread) (r : BitVec 3) : BitVec 32 := if r = 0 then 0xffffffff else Tbl.get 0 t.k r.toNat
/-- A write to k0 is ignored. -/
def Thread.setMask (t : Thread) (r : BitVec 3) (x : BitVec 32) : Thread :=
  if r = 0 then t else { t with k := Tbl.set t.k r.toNat x }

/-! ## Levels and status (R57, R103) -/

/-- PL: 0 U, 1 S, 2 H. -/
def Thread.level (t : Thread) : Nat := bits t.status 1 0
def Thread.ie (t : Thread) : Bool := bit t.status 2
def Thread.exl (t : Thread) : Bool := bit t.status 3
def Thread.sxg (t : Thread) : Bool := bit t.status 4
def Thread.sag (t : Thread) : Bool := bit t.status 5

/-! ## Immediates and displacements (R58, R62) -/

def sextImm (i : BitVec 16) : Word := i.signExtend 64
def zextImm (i : BitVec 16) : Word := i.zeroExtend 64
/-- sext(imm16) * 2^16 (R62). -/
def upperImm (i : BitVec 16) : Word := i.signExtend 64 <<< 16

/-- p + disp * 4 of a conditional branch (R65). -/
def branchTarget (p : BitVec 57) (d : BitVec 15) : BitVec 57 := p + d.signExtend 57 * 4
/-- p + disp * 4 of a jump (R65). -/
def jumpTarget (p : BitVec 57) (d : BitVec 25) : BitVec 57 := p + d.signExtend 57 * 4
/-- p + 8, the link and the untaken path (R65, R66). -/
def linkOf (p : BitVec 57) : BitVec 57 := p + 8
/-- An instruction address in a 64-bit register: bits [63:57] equal bit 56 (R195). -/
def wordOfPc (p : BitVec 57) : Word := p.signExtend 64

/-! ## Integer results (R62 to R64) -/

def sltWord (a b : Word) : Word := if a.slt b then 1 else 0
def sltuWord (a b : Word) : Word := if a.ult b then 1 else 0
/-- The low 32 bits, sign-extended (R56). -/
def sextW (a : Word) : Word := (a.truncate 32).signExtend 64

/-- ALU (01h) by function code; none where the code is unassigned or rc is not 0 where the table does not use it (R60, R63). -/
def aluResult (fn : Nat) (rcField : BitVec 5) (a b c : Word) : Option Word :=
  if fn ≠ 0x0D ∧ rcField ≠ 0 then none else
  match fn with
  | 0x00 => some (a + b)
  | 0x01 => some (a - b)
  | 0x02 => some (a &&& b)
  | 0x03 => some (a ||| b)
  | 0x04 => some (a ^^^ b)
  | 0x05 => some (~~~(a ||| b))
  | 0x06 => some (a &&& ~~~b)
  | 0x07 => some (sltWord a b)
  | 0x08 => some (sltuWord a b)
  | 0x09 => some (if a.slt b then a else b)
  | 0x0A => some (if a.slt b then b else a)
  | 0x0B => some (if a.ult b then a else b)
  | 0x0C => some (if a.ult b then b else a)
  | 0x0D => some (if c = 0 then a else b)
  | 0x0E => some (sextW (a + b))
  | 0x0F => some (sextW (a - b))
  | _ => none

/-- The signed quotient rounded toward zero; all ones for division by zero (R63, R64). -/
def divWord (a b : Word) : Word := if b = 0 then BitVec.allOnes 64 else a.sdiv b
def divuWord (a b : Word) : Word := if b = 0 then BitVec.allOnes 64 else a.udiv b
/-- The remainder with the sign of ra; ra for division by zero (R63, R64). -/
def remWord (a b : Word) : Word := if b = 0 then a else a.srem b
def remuWord (a b : Word) : Word := if b = 0 then a else a.umod b

/-- MULDIV (02h) by function code (R63, R64). -/
def muldivResult (fn : Nat) (rcField : BitVec 5) (a b c : Word) : Option Word :=
  if fn ≠ 0x08 ∧ rcField ≠ 0 then none else
  match fn with
  | 0x00 => some (a * b)
  | 0x01 => some ((a.signExtend 128 * b.signExtend 128).extractLsb' 64 64)
  | 0x02 => some ((a.zeroExtend 128 * b.zeroExtend 128).extractLsb' 64 64)
  | 0x03 => some ((a.signExtend 128 * b.zeroExtend 128).extractLsb' 64 64)
  | 0x04 => some (divWord a b)
  | 0x05 => some (divuWord a b)
  | 0x06 => some (remWord a b)
  | 0x07 => some (remuWord a b)
  | 0x08 => some (a * b + c)
  | _ => none

/-- Leading zeros of the low `n` bits. -/
def clzNat (v : Nat) : Nat → Nat
  | 0 => 0
  | n + 1 => if v.testBit n then 0 else 1 + clzNat v n

/-- Trailing zeros, counting up from bit `i`, of `n` bits. -/
def ctzNat (v i : Nat) : Nat → Nat
  | 0 => 0
  | n + 1 => if v.testBit i then 0 else 1 + ctzNat v (i + 1) n

/-- The bytes of the low `n` bytes in reverse order. -/
def bswapNat (v : Nat) : Nat → Nat
  | 0 => 0
  | n + 1 => (v % 256) * 256 ^ n + bswapNat (v / 256) n

/-- SHIFT (03h) by function code (R63). The amount of the immediate forms is (fn[0], rc). -/
def shiftResult (fn : Nat) (rcField rbField : BitVec 5) (a b : Word) : Option Word :=
  let imm := (fn % 2) * 32 + rcField.toNat
  let amt := b.toNat % 64
  if fn ≤ 0x03 ∧ rcField ≠ 0 then none
  else if 0x04 ≤ fn ∧ fn ≤ 0x0B ∧ rbField ≠ 0 then none
  else if 0x0C ≤ fn ∧ (rcField ≠ 0 ∨ rbField ≠ 0) then none else
  match fn with
  | 0x00 => some (a <<< amt)
  | 0x01 => some (a >>> amt)
  | 0x02 => some (a.sshiftRight amt)
  | 0x03 => some (a.rotateRight amt)
  | 0x04 | 0x05 => some (a <<< imm)
  | 0x06 | 0x07 => some (a >>> imm)
  | 0x08 | 0x09 => some (a.sshiftRight imm)
  | 0x0A | 0x0B => some (a.rotateRight imm)
  | 0x0C => some (BitVec.ofNat 64 (clzNat a.toNat 64))
  | 0x0D => some (BitVec.ofNat 64 (ctzNat a.toNat 0 64))
  | 0x0E => some (BitVec.ofNat 64 (popBits a.toNat 64))
  | 0x0F => some (BitVec.ofNat 64 (bswapNat a.toNat 8))
  | _ => none

/-! ## Sizes of loads and stores (R71) -/

def loadSize : LoadOp → Nat
  | .lb | .lbu => 1
  | .lh | .lhu => 2
  | .lw | .lwu => 4
  | .ld => 8

/-- The loaded bytes, extended (R71). -/
def loadExtend (op : LoadOp) (v : Nat) : Word :=
  match op with
  | .lb => sextNat 8 v
  | .lh => sextNat 16 v
  | .lw => sextNat 32 v
  | .ld => BitVec.ofNat 64 v
  | .lbu => BitVec.ofNat 64 (v % 2 ^ 8)
  | .lhu => BitVec.ofNat 64 (v % 2 ^ 16)
  | .lwu => BitVec.ofNat 64 (v % 2 ^ 32)

def storeSize : StoreOp → Nat
  | .sb => 1
  | .sh => 2
  | .sw => 4
  | .sd => 8

/-! ## Far atomics (R75) -/

/-- The new memory value of an atomic on `n`-bit values. -/
def atomApply (op : AtomOp) (n old operand compare : Nat) : Nat :=
  let o := old % 2 ^ n; let b := operand % 2 ^ n; let c := compare % 2 ^ n
  match op with
  | .add => (o + b) % 2 ^ n
  | .and => o &&& b
  | .or => o ||| b
  | .xor => o ^^^ b
  | .swap => b
  | .min => if signedOf n o ≤ signedOf n b then o else b
  | .max => if signedOf n o ≤ signedOf n b then b else o
  | .cas => if o = c then b else o

/-- An atomic performed on a line: the new line and the old value (R75, R255). -/
def atomPerform (a : AtomArgs) (l : Line) : Line × Word :=
  let n := if a.wide then 8 else 4
  let old := lineNat l a.off.toNat n
  (putLine l a.off.toNat n (atomApply a.op (8 * n) old a.operand.toNat a.compare.toNat), BitVec.ofNat 64 old)

/-- The old value of an atomic as rd receives it: sign-extended for 4-byte operations (R75). -/
def atomResult (wide : Bool) (old : Word) : Word := if wide then old else sextW old

end Sys2Proof.Machine
end

