-- ==== Sys2Proof/Machine/Counters.lean ====
section
/-! DEFINITION. The performance counters (19_performance_counters.md): counting, overflow, the sampling interrupt. -/
namespace Sys2Proof.Machine
open Sys2Proof

/-- The snapshot slot of counter `i` of a core position (R643). -/
def slotCore (c i : Nat) : Nat := c * 8 + i
/-- The snapshot slot of counter `i` of an L3 slice, die * 16 + slice (R643). -/
def slotL3 (n i : Nat) : Nat := 1920 + n * 4 + i
def slotHome (n i : Nat) : Nat := 2688 + n * 6 + i
def slotDram (n i : Nat) : Nat := 2784 + n * 6 + i
def slotOctet (n i : Nat) : Nat := 2880 + n * 4 + i
def slotEngine (n i : Nat) : Nat := 2928 + n * 4 + i
def slotRouter (n i : Nat) : Nat := 2992 + n * 2 + i

def State.pccV (s : State) (j : Nat) : Word := Tbl.get 0 s.pccVal j
def State.pccS (s : State) (j : Nat) : Word := Tbl.get 0 s.pccSel j
def State.setPccV (s : State) (j : Nat) (w : Word) : State := { s with pccVal := Tbl.set s.pccVal j w }
def State.setPccS (s : State) (j : Nat) (w : Word) : State := { s with pccSel := Tbl.set s.pccSel j w }

/-- MODE of the counter in slot `j`: [15:14] of a core's select, [20:19] of an uncore select (R661, R664). -/
def State.counterMode (s : State) (j : Nat) : Nat :=
  if j < 1920 then bits (s.pccS j) 15 14 else bits (s.pccS j) 20 19

/-- Counter `i` of its block, in slot `j`, chains into the next one (R645). -/
def State.chains (s : State) (i j : Nat) : Bool :=
  decide (i % 2 = 0) && (s.counterMode j = 2 || (s.counterMode j = 0 && s.chainDefault))

/-- Adds `n` to the counter in slot `j`, number `i` of its block; whether it set an OVF bit (R645). -/
def State.bump (s : State) (i j n : Nat) : State × Bool :=
  let v := s.pccV j
  let sum := bits v 47 0 + n
  if sum < 2 ^ 48 then (s.setPccV j (putBits v 47 0 sum), false)
  else
    let s := s.setPccV j (putBits v 47 0 sum)
    if s.chains i j then
      let w := s.pccV (j + 1)
      let hi := bits w 47 0 + 1
      (s.setPccV (j + 1) (putBits (putBits (putBits w 47 0 hi) 49 49 1) 48 48 (if hi < 2 ^ 48 then bits w 48 48 else 1)),
        decide (hi ≥ 2 ^ 48))
    else (s.setPccV j (putBits (s.pccV j) 48 48 1), true)

/-- Adds a class to a list of pending interrupts, where arrivals of one class merge (R109). -/
def addPending (c : IntClass) (l : List IntClass) : List IntClass := if l.contains c then l else l ++ [c]

/-- The sampling interrupt of a core counter that set OVF: an interrupt of rank 9 (R27, R652, R653). -/
def State.samplingInterrupt (s : State) (t i : Nat) (exact : Option (BitVec 57)) : State :=
  let c := coreOf t
  let sel := s.pccS (slotCore c i)
  if bit sel 13 then
    let sample : Word := match exact with
      | some p => BitVec.ofNat 64 (2 ^ 63 + i * 2 ^ 60 + p.toNat)
      | none => 0
    let s := s.modCore c (fun k => { k with pcsample := sample })
    s.localEvent (.interrupt t .counter (BitVec.ofNat 10 (bits sel 33 24)) (decide (bits sel 33 24 = 0) && !bit sel 23) none) 9
      (dieOf t) (t % 40)
  else s

/-- Counter `i` of the thread's core counts event `ev` of the thread (R649). -/
def State.countsHere (s : State) (t i ev : Nat) : Bool :=
  let c := coreOf t
  let sel := s.pccS (slotCore c i)
  let th := s.thread t
  bit sel 12 && decide (bits sel 7 0 = ev) && bit sel (16 + threadIx t) && bit sel (20 + th.level) &&
    decide (bits sel 33 24 = th.realm.toNat) && !(decide (i % 2 = 1) && s.chains (i - 1) (slotCore c (i - 1)))

/-- Counts `n` of event `ev` of thread `t` in counters `i`, `i+1`, ... of its core. -/
def State.countFrom (s : State) (t ev n : Nat) (exact : Option (BitVec 57)) (i : Nat) : Nat → State
  | 0 => s
  | k + 1 =>
    let s := if s.countsHere t i ev then
        let (s', ovf) := s.bump i (slotCore (coreOf t) i) n
        if ovf then s'.samplingInterrupt t i exact else s'
      else s
    s.countFrom t ev n exact (i + 1) k

/-- Counts one event of a thread, attributed to the instruction at its pc when `exact` (R651). Counters stop in HALT. -/
def State.countEv (s : State) (t ev : Nat) (exact : Bool := true) : State :=
  if s.mode = modeHalt then s
  else s.countFrom t ev 1 (if exact then some (s.thread t).pc else none) 0 8

/-- Counts `n` of an uncore event in counters `i`, `i+1`, ... of a block whose first slot is `base` (R654). -/
def State.uncoreFrom (s : State) (base ev n : Nat) (realm : Option Nat) (i : Nat) : Nat → State
  | 0 => s
  | k + 1 =>
    let sel := s.pccS (base + i)
    let f := bits sel 17 8
    let sealedFilter := decide (f ≠ 0) && bit (s.reg (regRlmTable0 f)) 32
    let match' := bit sel 18 || (decide (realm = some f) && !sealedFilter)
    let s := if bit sel 21 && decide (bits sel 7 0 = ev) && match' &&
        !(decide (i % 2 = 1) && s.chains (i - 1) (base + (i - 1))) then (s.bump i (base + i) n).1 else s
    s.uncoreFrom base ev n realm (i + 1) k

/-- Counts an uncore event of a block with `k` counters. -/
def State.countUncore (s : State) (base k ev n : Nat) (realm : Option Nat) : State :=
  if s.mode = modeHalt then s else s.uncoreFrom base ev n realm 0 k

/-- `n` of a core event that no cycle of the model gives: cycles in a clause and wrong-path work (R649, R651, log entry 1). -/
def State.countFree (s : State) (t ev limit : Nat) : State :=
  if s.mode = modeHalt then s else (s.countFrom t ev (s.freeWord.toNat % (limit + 1)) none 0 8).spendFree

/-- What squashed wrong-path work counts (R135, R136, R651). -/
def State.countWrongPath (s : State) (t : Nat) : State :=
  if (upTo 8).any (fun i => decide (0x80 ≤ bits (s.pccS (slotCore (coreOf t) i)) 7 0)) then
    [0x80, 0x81, 0x82, 0x83, 0x84].foldl (fun (s : State) ev => s.countFree t ev 512) s
  else s

/-! ## Octets and routers (R655) -/

def State.octetCount (s : State) (n ev k : Nat) : State := s.countUncore (slotOctet n 0) 4 ev k none

/-- A payload in units of 64 bytes. -/
def payloadUnits (bytes : Nat) : Nat := (bytes + 63) / 64

/-- A TLP comes in at an octet, or goes out. -/
def State.tlpIn (s : State) (n bytes : Nat) : State := (s.octetCount n 0x08 1).octetCount n 0x0A (payloadUnits bytes)
def State.tlpOut (s : State) (n bytes : Nat) : State := (s.octetCount n 0x09 1).octetCount n 0x0B (payloadUnits bytes)

def tlpBytes : Tlp → Nat
  | .memRead _ _ _ => 0
  | .cfgRead _ _ _ => 0
  | .cfgWrite _ _ _ => 4
  | .memWrite _ len _ => len
  | .msix _ => 4
  | .completion _ len (some _) => len
  | .completion _ _ none => 0
  | .retryStatus _ => 0
  | .pme => 0

def State.routerCount (s : State) (k ev n : Nat) : State := s.countUncore (slotRouter k 0) 2 ev n none

/-- The router of a bridge or an octet (R542). -/
def edgeRouter (n : Nat) : Nat := if n < 6 then n else 24 + n

/-- The router of an agent (R542). -/
def agentRouter (die unit : Nat) : Nat :=
  if die < 12 then edgeRouter die
  else if unit < 32 then (let n := unit % 16
    if n < 8 then 6 * (1 + n / 2) else 6 * (1 + (n - 8) / 2) + 5)
  else if 40 ≤ unit ∧ unit < 56 then (let e := unit - 40
    if e < 8 then 6 * (1 + e / 2) + 1 else 6 * (1 + (e - 8) / 2) + 4)
  else if 64 ≤ unit ∧ unit < 76 then edgeRouter (unit - 64)
  else if unit = 96 ∨ unit = 97 then 21 else 14

/-- Router `k` lies on the way from one router to another: along the row, then along the column (R544). -/
def onPath (a b k : Nat) : Bool :=
  let between (x y z : Nat) : Bool := (decide (x ≤ z) && decide (z ≤ y)) || (decide (y ≤ z) && decide (z ≤ x))
  (decide (k / 6 = a / 6) && between (a % 6) (b % 6) (k % 6)) || (decide (k % 6 = b % 6) && between (a / 6) (b / 6) (k / 6))

/-- Where a message enters the mesh: at its agent, or at an octet of the route to its package (log entry 38). -/
def State.meshEntry (s : State) (h : Hdr) : Nat :=
  if agentPkg h.src = s.pkgNum then agentRouter (agentDie h.src) (agentUnit h.src)
  else edgeRouter (((upTo 12).find? (fun n => bit (s.reg (regTrlRoute (agentPkg h.src))) n)).getD 0)

/-- A delivered message has passed the routers of its way, one flit each; a message of a die to itself passes none (R544, R655). -/
def State.meshPassed (s : State) (h : Hdr) : State :=
  if !(s.pccSel.any (fun p => decide (slotRouter 0 0 ≤ p.1))) || (decide (agentDie h.src < 12) && decide (agentDie h.src = agentDie h.dst) &&
      decide (agentPkg h.src = agentPkg h.dst)) then s
  else ((upTo 36).filter (onPath (s.meshEntry h) (agentRouter (agentDie h.dst) (agentUnit h.dst)))).foldl (fun (s : State) k => s.routerCount k 0x01 1) s

/-- A TYPE value (R690). -/
def typeNum : MsgType → Nat
  | .rdS => 0x00 | .rdX => 0x01 | .upg => 0x02 | .rdZ => 0x03 | .wbM => 0x04 | .evN => 0x05 | .atom => 0x06 | .cmo => 0x07
  | .wrP => 0x08 | .ucRd => 0x09 | .ucWr => 0x0A | .ucAtom => 0x0B | .ownChk => 0x0C | .snpS => 0x0D | .snpX => 0x0E
  | .snpI => 0x0F | .snpH => 0x10 | .snpC => 0x11 | .rdSub => 0x12 | .data => 0x13 | .dataSub => 0x14 | .cmp => 0x15
  | .cmpAck => 0x16 | .refute => 0x17 | .fwdAck => 0x18 | .snpAck => 0x19 | .snpNone => 0x1A | .snpData => 0x1B
  | .subFwd => 0x1C | .subDone => 0x1D | .wbAck => 0x1E | .atomRsp => 0x1F | .ucRsp => 0x20 | .ownRsp => 0x21 | .credit => 0x22
  | .tlbi => 0x23 | .tlbiDone => 0x24 | .tlbiAck => 0x25 | .jrnWr => 0x26 | .discover => 0x28 | .ident => 0x29 | .assign => 0x2A
  | .syncReq => 0x2B | .syncRsp => 0x2C | .epoch => 0x2D | .routeWrite => 0x2E | .routeHold => 0x2F | .holdDone => 0x30
  | .routeSwitch => 0x31 | .regime => 0x32 | .heartbeat => 0x33 | .heardReq => 0x34 | .heardRsp => 0x35 | .takeover => 0x36
  | .event => 0x37 | .mirror => 0x38 | .haltImage => 0x39 | .cut => 0x3A | .cutDone => 0x3B | .regRead => 0x3C
  | .regWrite => 0x3D | .regAnswer => 0x3E | .interrupt => 0x3F

/-- Classes 0 MGT, 1 RSP, 2 SNP, 3 REQ, 4 BLK (R239, R329, R543). -/
def linkClass (t : MsgType) : Nat :=
  let n := typeNum t
  if n ≤ 0x0c then 3
  else if n ≤ 0x12 then 2
  else if n ≤ 0x22 then 1
  else if n = 0x26 then 4
  else if n = 0x3c ∨ n = 0x3d ∨ n = 0x3f then 3
  else if n = 0x3e then 1
  else 0

/-- The channel of a die bridge that a message travels in (R532): 0 CMD, 1 RSP, 2 DATA. -/
def bridgeChannel (m : Msg) : Nat := match m.body with
  | .line _ => 2
  | .bytes _ _ => 2
  | _ => if linkClass m.type = 1 then 1 else 0

/-- The message goes between a compute die and the I/O die of this package, over the die's bridge. -/
def State.onBridge (s : State) (h : Hdr) : Bool :=
  decide (agentPkg h.src = s.pkgNum ∧ agentPkg h.dst = s.pkgNum ∧ (agentDie h.src = 12 ↔ agentDie h.dst ≠ 12))

/-- `x` and `y` of one source and one destination keep their order: they share a class (R244, R544), or a channel of the bridge they
cross (R531). -/
def State.keepsOrder (s : State) (x y : Msg) : Bool :=
  decide (x.hdr.src = y.hdr.src ∧ x.hdr.dst = y.hdr.dst) &&
    (decide (linkClass x.type = linkClass y.type) || (s.onBridge x.hdr && decide (bridgeChannel x = bridgeChannel y)))

/-- A message sent before this one, with which it keeps its order, has not arrived yet. -/
def State.behind (s : State) (m : Msg) : Bool :=
  s.sent.contains m && (s.sent.takeWhile (fun x => decide (x ≠ m))).any (fun x => s.keepsOrder x m)

/-- Takes the delivered message off the list of messages sent, when it is one of them. -/
def State.delivered (s : State) (m : Msg) : State := ({ s with sent := s.sent.erase m } : State).meshPassed m.hdr

/-- A message arrives: it is taken off the list, and what its receiver does follows. One that must keep behind a message that has not
arrived cannot arrive yet, and nothing happens (R244, R531, R544). -/
def arrive (s : State) (m : Msg) (f : State → Host.Outcome State Fault Refusal) : Host.Outcome State Fault Refusal :=
  if s.behind m then .next s else f (s.delivered m)

end Sys2Proof.Machine
end

