-- ==== Sys2Proof/Machine/Errors.lean ====
section
/-! DEFINITION. Mode entry and the error classes (15_startup_modes.md R558, 17_errors.md R602 to R614): what a CE, a UE-P and
a HALT-class error do on the package that detects them; the change log (18_trip_log.md R636 to R638). -/
namespace Sys2Proof.Machine
open Sys2Proof

/-- Enters a mode by a transition of R559: record 0000h, GLB.MODE and GLB.MODETIME (R558). -/
def State.enterMode (s : State) (new trans : Nat) : State :=
  let old := s.mode
  let w := putBits (putBits (putBits (s.reg regGlbMode) 3 0 new) 11 8 old) 23 16 trans
  ((s.setReg regGlbMode w).setReg regGlbModetime s.clause).emit 12 81 0x0000 0 [old, new, trans]

/-- Transition 14 (R559): a run mode or QUIESCE becomes DEGRADED; a package that holds its sources keeps holding them (R567). -/
def State.degradeNow (s : State) : State :=
  if s.mode = modeRunI ∨ s.mode = modeRunS then s.enterMode modeDegraded 14
  else if s.mode = modeQuiesce then (s.enterMode modeDegraded 14).setFld regGlbMode 12 12 1
  else s

/-- Entry to DEGRADED is asked for: an event of rank 6, which the resolution of its clause acts on (R27, R40). -/
def State.degrade (s : State) : State := s.localEvent .degrade 6 12 81

/-- A management message to package `p` at priority 0. -/
def State.sendMgmt (s : State) (ty : MsgType) (p : Nat) (body : Body) : State :=
  s.send { type := ty, hdr := { src := agentId s.pkgNum 12 96, dst := agentId p 12 96, stamp := s.clause }, body := body }

/-- Sends a management message to every other member. -/
def State.sendAll (s : State) (ty : MsgType) (body : Body) : List Nat → State
  | [] => s
  | p :: t => (s.sendMgmt ty p body).sendAll ty body t

/-- The package tells the manager of an event of its own (R40): it joins the manager's events, or travels as EVENT. -/
def State.raiseEvent (s : State) (kind : EventKind) (rank die src : Nat) : State :=
  if s.isManager then
    { s with events := s.events ++ [{ stamp := s.clause, rank := rank, origin := s.origin die src, kind := kind,
                                      acted := true }] }
  else if s.joined then s.sendMgmt .event s.managerNum (.report (.event s.clause rank (s.origin die src) kind))
  else s

/-- The code of the latest UE-R, UE-P or HALT-class record (GLB.ERRSUM.LASTUE, R619). -/
def State.noteUe (s : State) (code : Nat) : State := s.setFld regGlbErrsum 15 0 code

/-- A notice is due for the error last recorded (R613): the code, realm and origin it will name. -/
def State.noticeDue (s : State) (code realm : Nat) (origin : BitVec 16) (ue : Bool) : State :=
  if s.fld regGlbErrnote 0 0 = 1 ∧ (ue ∨ s.fld regGlbErrnote 1 1 = 1) then
    { s with notice := { s.notice with due := some (code, realm, origin), stamp := s.clause,
                                       ueDue := ue || s.notice.ueDue } }
  else s

/-- A CE: the record, GLB.ERRSUM.CE, the notice (R7, R613, R619). -/
def State.ce (s : State) (die src code realm : Nat) (ps : List Nat) : State :=
  ((s.emit die src code realm ps).addFld regGlbErrsum 63 32 1).noticeDue code realm (s.origin die src) false

/-- Every core's caches, buffers and TLB-independent structures are reset, contents discarded without writeback (R608 step 2). -/
def Core.discard (c : Core) : Core :=
  { c with l1i := [], l1d := [], l2 := [], mb := [], eb := [], txns := [], plruI := [], plruD := [], plru2 := [],
           l2Flushing := false }

def Die.discard (d : Die) : Die := { d with sf := [], l3 := [], l3Order := [], tlbis := [], wbs := [] }

/-- A table with a function applied to each entry. -/
def Tbl.map {V : Type} (f : V → V) (t : Tbl V) : Tbl V := List.map (fun p => (p.1, f p.2)) t

/-- A UE-P sampled on this package: recorded, and the package halts under R608; in HALT it is recorded only (R605), in
STANDBY and OFF nothing is powered to detect it. -/
def State.ueP (s : State) (die src code realm : Nat) (ps : List Nat) : State :=
  let s := (s.emit die src code realm ps).noteUe code
  if s.mode = modeHalt ∨ s.mode ≤ modeStandby then s
  else
    let s := { s with cores := Tbl.map Core.discard s.cores, dies := Tbl.map Die.discard s.dies, homes := [] }
    let s := { (s.enterMode modeHalt 18) with alertN := true }
    s.raiseEvent (.ueP (BitVec.ofNat 16 code)) 2 die src

/-- A HALT-class error: recorded; the package halts at once, its state held (R41, R574), and the event is brought to the manager,
which halts the image (R609); a package that is not a member halts alone (R605). -/
def State.haltError (s : State) (die src code : Nat) (ps : List Nat) : State :=
  let s := (s.emit die src code 0 ps).noteUe code
  if s.mode = modeHalt ∨ s.mode ≤ modeStandby then s
  else
    let s := { (s.enterMode modeHalt 18) with alertN := true }
    s.raiseEvent (.haltClass (BitVec.ofNat 16 code)) 1 die src

/-! ## The change log (R636 to R638) -/

/-- A record whose origin is another source than the one that writes it. -/
def State.emitOrigin (s : State) (origin : BitVec 16) (code realm : Nat) (ps : List Nat) : State :=
  let r : Rec := { clause := s.clause, code := BitVec.ofNat 16 code, origin := origin, realm := BitVec.ofNat 16 realm,
                   p0 := BitVec.ofNat 32 (ps.getD 0 0), p1 := BitVec.ofNat 32 (ps.getD 1 0),
                   p2 := BitVec.ofNat 32 (ps.getD 2 0), p3 := BitVec.ofNat 32 (ps.getD 3 0) }
  if s.isManager then
    { s with events := s.events ++ [{ stamp := s.clause, rank := codeRank code, origin := origin, kind := .record, recs := [r],
                                      acted := true }] }
  else s.enqueueRec { proc := s.clause, rank := codeRank code, r := r }

/-- Records 1000h and 1001h of one change: the register's offset, the outcome, the old value and the new one or the one written
(R636, R637). -/
def State.chgRecs (s : State) (origin : BitVec 16) (off outcome : Nat) (old new : Word) : State :=
  (s.emitOrigin origin 0x1000 0 [off, outcome, bits old 31 0, bits old 63 32]).emitOrigin origin 0x1001 0
    [off, 0, bits new 31 0, bits new 63 32]

/-- The package acting on its own account, and the platform host (R638). -/
def State.selfOrigin (s : State) : BitVec 16 := s.origin 12 81
def State.hostOrigin (s : State) : BitVec 16 := BitVec.ofNat 16 (s.managerNum * 2048 + 12 * 128 + 84)

/-- A change of a realm or binding entry word, recorded when the word changes (R636). -/
def State.setLogged (s : State) (origin : BitVec 16) (off : Nat) (w : Word) : State :=
  let old := s.reg off
  if old = w then s else (s.setReg off w).chgRecs origin off 0 old w

/-- The change-log record of a ticketed command's final completion (R636). -/
def State.ticketDone (s : State) (c : Command) (status : Nat) (stamp : Word) : State :=
  s.emitOrigin s.hostOrigin 0x1006 0 [c.cmdid.toNat, status, c.opcode.toNat, s.clause.toNat - stamp.toNat]

/-- The record of a key slot whose STATE or CUR has changed since `old` (R636, R641). -/
def State.keyLogged (s : State) (old r : Nat) : State :=
  let w := s.reg (regKeySlot r)
  if old = bits w 3 0 then s else s.emitOrigin s.hostOrigin 0x1003 0 [r, old, bits w 3 0, bits w 23 8]

end Sys2Proof.Machine
end

