-- ==== Sys2Proof/Machine/Predictor.lean ====
section
/-! DEFINITION. Branch prediction and the return stack (04_core_pipeline.md R121 to R134). Prediction is evaluated when a
transfer retires. -/
namespace Sys2Proof.Machine
open Sys2Proof

/-! ## Direction tables (R122 to R124) -/

/-- XOR of `k` 14-bit chunks of the low `len` bits of `gh`, from bit `i` (R123). -/
def foldChunks (gh len i : Nat) : Nat → Nat
  | 0 => 0
  | k + 1 =>
    let n := if len - i < 14 then len - i else 14
    ((gh >>> i) % 2 ^ n) ^^^ foldChunks gh len (i + 14) k

/-- fold14 of R123. -/
def fold14 (gh len : Nat) : Nat := foldChunks gh len 0 ((len + 13) / 14)

/-- rotl14 of R123. -/
def rotl14 (x s : Nat) : Nat := ((x <<< s) ||| (x >>> (14 - s))) % 16384

/-- The indices of R123. -/
structure PredIx where
  i0 : Nat
  i1 : Nat
  i2 : Nat
  ic : Nat
  deriving DecidableEq, Repr

/-- Replaces bits [hi:lo] of an index. -/
def putIx (x hi lo v : Nat) : Nat := x - natBits x hi lo * 2 ^ lo + (v % 2 ^ (hi - lo + 1)) * 2 ^ lo

/-- The indices for a transfer at `pc` with global history `gh` (R123). `part`: the partition slot, when the realm has one. -/
def predIx (pc gh : Nat) (part : Option Nat) : PredIx :=
  let lo := natBits pc 15 2
  let hi := natBits pc 29 16
  let i0 := lo ^^^ fold14 gh 16
  let i1 := lo ^^^ hi ^^^ fold14 gh 64
  let i2 := lo ^^^ rotl14 hi 7 ^^^ fold14 gh 256
  let ic := natBits pc 13 2
  match part with
  | none => ⟨i0, i1, i2, ic⟩
  | some v => ⟨putIx i0 13 12 v, putIx i1 13 12 v, putIx i2 13 12 v, putIx ic 11 10 v⟩

/-- The partition slot of the thread's realm, as c.predctl holds it (R149). -/
def Thread.part (t : Thread) : Option Nat := if bit t.predctl 11 then some (bits t.predctl 10 9) else none

/-- Every counter resets to 01b (R124); the chooser holds SEL_A * 4 + SEL_B. -/
def Core.ctr0 (c : Core) (i : Nat) : Nat := Tbl.get 1 c.t0 i
def Core.ctr1 (c : Core) (i : Nat) : Nat := Tbl.get 1 c.t1 i
def Core.ctr2 (c : Core) (i : Nat) : Nat := Tbl.get 1 c.t2 i
def Core.sel (c : Core) (i : Nat) : Nat := Tbl.get 5 c.chooser i

/-- The long prediction's counter (R123). -/
def Core.longCtr (c : Core) (x : PredIx) : Nat := if c.sel x.ic % 4 ≥ 2 then c.ctr2 x.i2 else c.ctr1 x.i1

/-- The predicted direction (R123); not taken while a flush is in progress (R127). -/
def Core.predictTaken (c : Core) (x : PredIx) : Bool :=
  if c.flushing then false
  else decide ((if c.sel x.ic / 4 ≥ 2 then c.longCtr x else c.ctr0 x.i0) ≥ 2)

/-- A two-bit counter moved up or down, saturating (R124). -/
def sat2 (up : Bool) (v : Nat) : Nat := if up then (if v < 3 then v + 1 else 3) else v - 1

/-- The update of R124. -/
def Core.train (c : Core) (x : PredIx) (taken : Bool) : Core :=
  let p0 := decide (c.ctr0 x.i0 ≥ 2); let p1 := decide (c.ctr1 x.i1 ≥ 2); let p2 := decide (c.ctr2 x.i2 ≥ 2)
  let pl := decide (c.longCtr x ≥ 2)
  let sa := c.sel x.ic / 4; let sb := c.sel x.ic % 4
  let sb' := if p1 != p2 then sat2 (p2 == taken) sb else sb
  let sa' := if p0 != pl then sat2 (pl == taken) sa else sa
  { c with t0 := Tbl.set c.t0 x.i0 (sat2 taken (c.ctr0 x.i0)), t1 := Tbl.set c.t1 x.i1 (sat2 taken (c.ctr1 x.i1)),
           t2 := Tbl.set c.t2 x.i2 (sat2 taken (c.ctr2 x.i2)), chooser := Tbl.set c.chooser x.ic (sa' * 4 + sb') }

/-! ## Branch target buffer (R121) -/

def btbSet (pc : BitVec 57) : Nat := natBits pc.toNat 12 2
def btbTag (pc : BitVec 57) : BitVec 16 := BitVec.ofNat 16 (natBits pc.toNat 28 13)

/-- The ways a thread uses: all four, or the way of its partition slot (R126). -/
def btbWays (part : Option Nat) : List Nat := match part with
  | none => [0, 1, 2, 3]
  | some v => [v]

/-- The hit of a lookup: tag and realm both match (R121). -/
def Core.btbHit (c : Core) (pc : BitVec 57) (realm : Realm) (ways : List Nat) : Option (Nat × Btb) :=
  ways.findSome? (fun w => match Tbl.find c.btb (btbSet pc * 4 + w) with
    | some e => if e.tag = btbTag pc ∧ e.realm = realm then some (w, e) else none
    | none => none)

/-- The entries of a set, most recently used first. -/
def Core.btbLru (c : Core) (set : Nat) : List Nat := Tbl.get [0, 1, 2, 3] c.btbOrder set

/-- Installs or refreshes the entry of a taken transfer, replacing the least recently used way (R121). Only a taken transfer, on the
right path or a wrong one, uses a way: a hit of one that is not taken leaves the order (log entry 81). -/
def Core.btbPut (c : Core) (pc : BitVec 57) (realm : Realm) (kind : Fin 5) (target : BitVec 57) (part : Option Nat) : Core :=
  let set := btbSet pc
  let order := c.btbLru set
  let ways := btbWays part
  let way := match c.btbHit pc realm ways with
    | some (w, _) => w
    | none => match ways.find? (fun w => (Tbl.find c.btb (set * 4 + w)).isNone) with
      | some w => w
      | none => (order.reverse.find? (fun w => ways.contains w)).getD 0
  let e : Btb := { tag := btbTag pc, realm := realm, kind := kind, target := BitVec.ofNat 55 (target.toNat / 4) }
  { c with btb := Tbl.set c.btb (set * 4 + way) e, btbOrder := Tbl.set c.btbOrder set (way :: order.erase way) }

/-! ## Return stack (R129, R134) -/

/-- A call writes its return address into the slot after the top and advances the top. -/
def Thread.pushRet (t : Thread) (ret : BitVec 57) : Thread :=
  { t with rtop := t.rtop + 1, rstack := Tbl.set t.rstack (t.rtop + 1).toNat (BitVec.ofNat 55 (ret.toNat / 4)) }

/-- The entry at the top pointer. -/
def Thread.topRet (t : Thread) : BitVec 55 := Tbl.get 0 t.rstack t.rtop.toNat

/-- A return moves the pointer back by one. -/
def Thread.popRet (t : Thread) : Thread := { t with rtop := t.rtop - 1 }

/-- All 32 entries and the top pointer become 0 (R134). -/
def Thread.clearRet (t : Thread) : Thread := { t with rstack := [], rtop := 0 }

/-! ## Flushes (R126 to R128) -/

/-- Entries of a table outside quarter `v` of `size` entries. -/
def dropQuarter (size v : Nat) (t : Tbl Nat) : Tbl Nat := t.filter (fun p => p.1 / (size / 4) ≠ v)

/-- A flush of the whole predictor, or of one partition slot: counters to 01b, BTB entries invalid (R127). -/
def Core.flushPred (c : Core) (part : Option Nat) : Core :=
  match part with
  | none => { c with t0 := [], t1 := [], t2 := [], chooser := [], btb := [], btbOrder := [], flushing := true }
  | some v => { c with t0 := dropQuarter 16384 v c.t0, t1 := dropQuarter 16384 v c.t1, t2 := dropQuarter 16384 v c.t2,
                       chooser := dropQuarter 4096 v c.chooser, btb := c.btb.filter (fun p => p.1 % 4 ≠ v), flushing := true }

/-- The predictor partition slot of a realm (R481). -/
def State.realmPart (s : State) (r : Nat) : Option Nat :=
  if s.fld (regRlmTable0 r) 44 44 = 1 then some (s.fld (regRlmTable0 r) 43 42) else none

/-- The predictor's action at a switch between realms (R126). -/
def State.switchPred (s : State) (c left entered : Nat) : State :=
  match s.realmPart left, s.realmPart entered with
  | some a, some b => if a = b then s.modCore c (fun k => k.flushPred (some a)) else s
  | _, _ => s.modCore c (fun k => k.flushPred none)

/-- c.predctl after a switch into realm `r`: RSCLR_EXC 0, PARTITIONED and SLOT of the realm entered (R153). -/
def State.switchPredctl (s : State) (r : Nat) : Word :=
  match s.realmPart r with
  | some v => BitVec.ofNat 64 (2048 + v * 512)
  | none => 0

end Sys2Proof.Machine
end

