-- ==== Sys2Proof/Machine/CacheSets.lean ====
section
/-! DEFINITION. The arrays of a core's caches and of its die as data: sets and ways, replacement, fills, victims, the eviction buffer,
the snoop filter (05_core_caches.md R155 to R175, 07_coherence_protocol.md R233, R250). -/
namespace Sys2Proof.Machine
open Sys2Proof

/-! ## Indices (R156) -/

def l1iSet (a : LineAddr) : Nat := a.toNat % 256
def l1dSet (a : LineAddr) : Nat := a.toNat % 128
def l2Set (a : LineAddr) : Nat := a.toNat % 2048
/-- PA[9:6] XOR PA[25:22] XOR PA[37:34] XOR PA[49:46]. -/
def l3Slice (a : LineAddr) : Nat :=
  (a.toNat % 16) ^^^ (a.toNat / 2 ^ 16 % 16) ^^^ (a.toNat / 2 ^ 28 % 16) ^^^ (a.toNat / 2 ^ 40 % 16)
/-- PA[21:10]. -/
def l3Set (a : LineAddr) : Nat := a.toNat / 16 % 4096

/-! ## Replacement (R175) -/

/-- The tree after a use of `way`: every node on its path points away. `i` is the node, 1 the root. -/
def plruTouch (tree way i : Nat) : Nat → Nat
  | 0 => tree
  | k + 1 =>
    let b := way / 2 ^ k % 2
    let tree := if b = 1 then (if tree.testBit i then tree - 2 ^ i else tree) else (if tree.testBit i then tree else tree + 2 ^ i)
    plruTouch tree way (2 * i + b) k

/-- The way the tree points at. -/
def plruVictim (tree i acc : Nat) : Nat → Nat
  | 0 => acc
  | k + 1 => let b := b2n (tree.testBit i); plruVictim tree (2 * i + b) (2 * acc + b) k

/-- The way of `set` (ways `ways` of a table keyed set * ways + way) for which `p` holds. -/
def findWay {V : Type} (t : Tbl V) (set ways : Nat) (p : V → Bool) : Option (Nat × V) :=
  (upTo ways).findSome? (fun w => match Tbl.find t (set * ways + w) with
    | some v => if p v then some (w, v) else none
    | none => none)

/-- A free way of a set. -/
def freeWay {V : Type} (t : Tbl V) (set ways : Nat) : Option Nat :=
  (upTo ways).find? (fun w => (Tbl.find t (set * ways + w)).isNone)

/-! ## L1 (R155, R157) -/

def Core.l1dFind (c : Core) (a : LineAddr) : Option (Nat × L1Line) := findWay c.l1d (l1dSet a) 8 (fun v => decide (v.line = a))
def Core.l1iFind (c : Core) (a : LineAddr) : Option (Nat × L1Line) := findWay c.l1i (l1iSet a) 4 (fun v => decide (v.line = a))

/-- The way that a fill of the L1D takes: the line's own, a free one, or the tree's victim (R175). -/
def Core.l1dWay (c : Core) (a : LineAddr) : Nat := match c.l1dFind a with
  | some (w, _) => w
  | none => (freeWay c.l1d (l1dSet a) 8).getD (plruVictim (Tbl.get 0 c.plruD (l1dSet a)) 1 0 3)
def Core.l1iWay (c : Core) (a : LineAddr) : Nat := match c.l1iFind a with
  | some (w, _) => w
  | none => (freeWay c.l1i (l1iSet a) 4).getD (plruVictim (Tbl.get 0 c.plruI (l1iSet a)) 1 0 2)

/-- Marks a use of a way of an L1 set. -/
def Core.l1dTouch (c : Core) (set w : Nat) : Core :=
  { c with plruD := Tbl.set c.plruD set (plruTouch (Tbl.get 0 c.plruD set) w 1 3) }
def Core.l1iTouch (c : Core) (set w : Nat) : Core :=
  { c with plruI := Tbl.set c.plruI set (plruTouch (Tbl.get 0 c.plruI set) w 1 2) }

/-- Fills the L1D, replacing the tree's victim. -/
def Core.l1dFill (c : Core) (a : LineAddr) (d : Line) (realm : Realm) : Core :=
  { c.l1dTouch (l1dSet a) (c.l1dWay a) with
    l1d := Tbl.set c.l1d (l1dSet a * 8 + c.l1dWay a) { line := a, data := d, realm := realm } }

/-- Fills the L1I. -/
def Core.l1iFill (c : Core) (a : LineAddr) (d : Line) (realm : Realm) : Core :=
  { c.l1iTouch (l1iSet a) (c.l1iWay a) with
    l1i := Tbl.set c.l1i (l1iSet a * 4 + c.l1iWay a) { line := a, data := d, realm := realm } }

/-- The line that a fill of an L1 by `a` displaces from the core's L1s, when the other L1 does not hold it too. -/
def Core.l1Victim (c : Core) (a : LineAddr) (instr : Bool) : Option L1Line :=
  if instr then (Tbl.find c.l1i (l1iSet a * 4 + c.l1iWay a)).filter (fun x => decide (x.line ≠ a) && (c.l1dFind x.line).isNone)
  else (Tbl.find c.l1d (l1dSet a * 8 + c.l1dWay a)).filter (fun x => decide (x.line ≠ a) && (c.l1iFind x.line).isNone)

/-- Removes a line from the L1I. -/
def Core.l1iDrop (c : Core) (a : LineAddr) : Core := { c with l1i := c.l1i.filter (fun p => p.2.line ≠ a) }
def Core.l1dDrop (c : Core) (a : LineAddr) : Core := { c with l1d := c.l1d.filter (fun p => p.2.line ≠ a) }
/-- A line that leaves the L2 leaves both L1s (R157). -/
def Core.l1Drop (c : Core) (a : LineAddr) : Core := (c.l1iDrop a).l1dDrop a

/-! ## L2 and the eviction buffer (R168, R169) -/

def Core.l2Find (c : Core) (a : LineAddr) : Option (Nat × CLine) := findWay c.l2 (l2Set a) 16 (fun v => decide (v.line = a))

/-- The core's L2 holds the line in this state; I where it does not. -/
def Core.l2State (c : Core) (a : LineAddr) : CState := match c.l2Find a with
  | some (_, v) => v.st
  | none => .I

/-- The L2's copy of the line is in OF (R246). -/
def Core.frozenAt (c : Core) (a : LineAddr) : Bool := match c.l2Find a with
  | some (_, v) => v.frozen
  | none => false

/-- Changes the L2's copy of a line. -/
def Core.l2Mod (c : Core) (a : LineAddr) (f : CLine → CLine) : Core :=
  match c.l2Find a with
  | some (w, v) => { c with l2 := Tbl.set c.l2 (l2Set a * 16 + w) (f v) }
  | none => c

/-- Removes the line from L2 and L1s. -/
def Core.l2Drop (c : Core) (a : LineAddr) : Core := { (c.l1Drop a) with l2 := c.l2.filter (fun p => p.2.line ≠ a) }

/-- Marks a use of the line's way. -/
def Core.l2Touch (c : Core) (a : LineAddr) : Core :=
  match c.l2Find a with
  | some (w, _) => { c with plru2 := Tbl.set c.plru2 (l2Set a) (plruTouch (Tbl.get 0 c.plru2 (l2Set a)) w 1 4) }
  | none => c

def Core.ebFind (c : Core) (a : LineAddr) : Option EbEntry := c.eb.find? (fun e => e.line = a)
def Core.ebMod (c : Core) (a : LineAddr) (f : EbEntry → EbEntry) : Core :=
  { c with eb := c.eb.map (fun e => if e.line = a then f e else e) }
def Core.ebDrop (c : Core) (a : LineAddr) : Core := { c with eb := c.eb.filter (fun e => e.line ≠ a) }

/-- The lowest eviction-buffer entry number in no use. -/
def Core.ebFree (c : Core) : Option Nat := (upTo 32).find? (fun i => c.eb.all (fun e => e.idx ≠ i))

/-- An L2 line leaves the L2 through a PENDING eviction-buffer entry; none when all 32 are in use (R168, R170). -/
def Core.evict (c : Core) (v : CLine) (cacheOp : Bool) : Option Core :=
  match c.ebFree with
  | none => none
  | some i =>
    let e : EbEntry := { idx := i, line := v.line, st := v.st, realm := v.realm, data := v.data, bad := v.bad, cacheOp := cacheOp }
    some { (c.l2Drop v.line) with eb := c.eb ++ [e] }

/-- A line whose double-bit error is recorded leaves the L2 as an entry whose data is discarded (R179). -/
def Core.evictBad (c : Core) (v : CLine) : Option Core :=
  (c.evict { v with bad := 0 } false).map (fun k => k.ebMod v.line (fun e =>
    { e with gone := true, lost := decide (v.st = .M ∨ v.st = .O) }))

/-- Fills the L2 with a line, evicting the tree's victim where the set is full; none when the fill must wait (R170, R175). A
frozen line is never the victim (R248). -/
def Core.l2Fill (c : Core) (v : CLine) : Option Core :=
  let set := l2Set v.line
  let put (c : Core) (w : Nat) : Core :=
    { c with l2 := Tbl.set c.l2 (set * 16 + w) v, plru2 := Tbl.set c.plru2 set (plruTouch (Tbl.get 0 c.plru2 set) w 1 4) }
  match c.l2Find v.line with
  | some (w, _) => some (put c w)
  | none =>
    match freeWay c.l2 set 16 with
    | some w => some (put c w)
    | none =>
      let tree := Tbl.get 0 c.plru2 set
      let w0 := plruVictim tree 1 0 4
      let ok w := match Tbl.find c.l2 (set * 16 + w) with
        | some x => !x.frozen
        | none => true
      let w := if ok w0 then w0 else ((upTo 16).find? ok).getD w0
      match Tbl.find c.l2 (set * 16 + w) with
      | none => some (put c w)
      | some x => if x.frozen then none else (match c.evict x false with
        | none => none
        | some c' => some (put c' w))

/-! ## The snoop filter (R233, R250) -/

def Die.sfFind (d : Die) (a : LineAddr) : Option SfEntry := Tbl.find d.sf a.toNat
def Die.sfSet (d : Die) (a : LineAddr) (e : SfEntry) : Die := { d with sf := Tbl.set d.sf a.toNat e }
def Die.sfDrop (d : Die) (a : LineAddr) : Die := { d with sf := Tbl.erase d.sf a.toNat }

/-- The set of the snoop filter that a line falls in: the slice of R156, and 3,072 sets in it (R233, log entry 83). -/
def sfIndex (a : LineAddr) : Nat := l3Slice a * 3072 + a.toNat / 16 % 3072

/-- A request of the die for the line is outstanding: BZ (R250). -/
def Die.sfBusy (d : Die) (a : LineAddr) : Bool := match d.sfFind a with
  | some e => e.busy
  | none => false

/-- The entries of the line's set. -/
def Die.sfSame (d : Die) (a : LineAddr) : Tbl SfEntry := d.sf.filter (fun p => decide (sfIndex (BitVec.ofNat 46 p.1) = sfIndex a))

/-- The way of its set that a new entry takes: a free one, or that of the oldest. `used`: the ways in use, newest first. -/
def wayFor (ways : Nat) (used : List Nat) : Nat := ((upTo ways).find? (fun w => !used.contains w)).getD (used.getLast?.getD 0)

/-- The line's entry, or the new one it would get in a free way of its set. -/
def Die.sfEntry (d : Die) (a : LineAddr) : SfEntry :=
  (d.sfFind a).getD { cores := [], st := .I, way := wayFor 16 ((d.sfSame a).map (fun p => p.2.way)) }

/-- SLICE, SET and WAY of the line's entry in a snoop-filter record (R281). -/
def Die.sfParams (d : Die) (a : LineAddr) : List Nat := [l3Slice a, a.toNat / 16 % 3072, (d.sfEntry a).way]

/-- Adds a core (0 to 19) as a holder: owner when its state is E, M or O. -/
def Die.sfAdd (d : Die) (a : LineAddr) (core : Nat) (st : CState) : Die :=
  let e := d.sfEntry a
  let cores := if e.cores.contains core then e.cores else e.cores ++ [core]
  match st with
  | .S | .I => d.sfSet a { e with cores := cores, busy := false, st := if e.owner.isSome then e.st else .S }
  | _ => d.sfSet a { e with cores := cores, owner := some core, busy := false, st := st }

/-- Removes a core as a holder; the entry goes with its last holder. -/
def Die.sfRemove (d : Die) (a : LineAddr) (core : Nat) : Die :=
  match d.sfFind a with
  | none => d
  | some e =>
    let cores := e.cores.filter (· ≠ core)
    if cores.isEmpty && !e.busy then d.sfDrop a
    else d.sfSet a { e with cores := cores, owner := if e.owner = some core then none else e.owner,
                            st := if e.owner = some core then (if cores.isEmpty then .I else .S) else e.st }

/-- Other cores of the die that the filter lists for a line. -/
def Die.otherHolders (d : Die) (a : LineAddr) (core : Nat) : List Nat :=
  match d.sfFind a with
  | none => []
  | some e => e.cores.filter (· ≠ core)

/-! ## L3 (R171 to R173) -/

def l3Key (a : LineAddr) : Nat := l3Slice a * 4096 + l3Set a
def Die.l3Find (d : Die) (a : LineAddr) : Option (Nat × CLine) := findWay d.l3 (l3Key a) 16 (fun v => decide (v.line = a))
def Die.l3Drop (d : Die) (a : LineAddr) : Die := { d with l3 := d.l3.filter (fun p => p.2.line ≠ a) }
def Die.l3Mod (d : Die) (a : LineAddr) (f : CLine → CLine) : Die :=
  match d.l3Find a with
  | some (w, v) => { d with l3 := Tbl.set d.l3 (l3Key a * 16 + w) (f v) }
  | none => d
def Die.l3Lru (d : Die) (k : Nat) : List Nat := Tbl.get (upTo 16) d.l3Order k
def Die.l3Use (d : Die) (k w : Nat) : Die := { d with l3Order := Tbl.set d.l3Order k (w :: (d.l3Lru k).erase w) }

/-- The L3 of a die takes fills and installs: enabled and not flushing (R168, R182). -/
def State.l3On (s : State) (die : Nat) : Bool := s.fld (regL3ctl die) 1 0 = 0
/-- The L3 way mask of a realm (R173). -/
def State.l3Mask (s : State) (r : Nat) : Nat := s.fld (regRlmTable0 r) 63 48
/-- L3 available for a victim with this fill realm (R168). -/
def State.l3Available (s : State) (die r : Nat) : Bool := s.l3On die && decide (s.l3Mask r ≠ 0)

/-- CE or UE records of cache structures carry the line address in two parameters (R194). -/
def lineP0 (a : LineAddr) : Nat := a.toNat % 2 ^ 32
def lineP1 (a : LineAddr) : Nat := a.toNat / 2 ^ 32

/-! ## Outstanding requests (R246) -/

def Core.txnFind (c : Core) (a : LineAddr) : Option Txn := c.txns.find? (fun x => x.line = a)
def Core.txnMod (c : Core) (tid : BitVec 12) (f : Txn → Txn) : Core :=
  { c with txns := c.txns.map (fun x => if x.tid = tid then f x else x) }
/-- Lines being filled hold every way of the line's L2 set, so a new fill waits (R175). -/
def Core.waysHeld (c : Core) (a : LineAddr) : Bool :=
  decide (16 ≤ (c.txns.filter (fun x => decide (x.held = .I) && decide (l2Set x.line = l2Set a))).length)
def Core.txnDrop (c : Core) (tid : BitVec 12) : Core := { c with txns := c.txns.filter (fun x => x.tid ≠ tid) }

end Sys2Proof.Machine
end

