-- ==== Sys2Proof/Machine/Tlbs.lean ====
section
/-! DEFINITION. Address regions, table entries and the translation structures as data (06_address_translation.md R196, R201 to R207,
R217, R218, R225). -/
namespace Sys2Proof.Machine
open Sys2Proof

/-! ## Regions (R196) -/

/-- The class of a physical address. -/
inductive Region where
  | dram | device | absent
  deriving DecidableEq, Repr

/-- The DRAM top of a package in bytes. -/
def State.topOf (s : State) (p : Nat) : Nat := if p = s.pkgNum then (s.reg regDmcTop).toNat else Tbl.get 0 s.tops p

/-- Package `p`'s physical addresses exist: it is this package, or a member of its image. -/
def State.pkgPresent (s : State) (p : Nat) : Bool := decide (p = s.pkgNum) || s.isMember p

def State.region (s : State) (pa : Nat) : Region :=
  let p := pa / 2 ^ 47
  let off := pa % 2 ^ 47
  if !s.pkgPresent p then .absent
  else if off < s.topOf p then .dram
  else if 0x7F0000000000 ≤ off then .device
  else .absent

/-! ## Entries (R201, R202) -/

def pteV (e : Word) : Bool := bit e 0
def pteL (e : Word) : Bool := bit e 1
def pteR (e : Word) : Bool := bit e 2
def pteW (e : Word) : Bool := bit e 3
def pteX (e : Word) : Bool := bit e 4
def pteU (e : Word) : Bool := bit e 5
def pteG (e : Word) : Bool := bit e 6
def pteA (e : Word) : Bool := bit e 7
def pteD (e : Word) : Bool := bit e 8
def pteMT (e : Word) : Nat := bits e 10 9
def pteCont (e : Word) : Bool := bit e 11
/-- ADDR as an address. -/
def pteAddr (e : Word) : Nat := bits e 51 12 * 4096

/-- Walk-fault reasons (R226). -/
def wfInvalid : Nat := 0x01
def wfReserved : Nat := 0x02
def wfBlockAlign : Nat := 0x03
def wfTableDevice : Nat := 0x04
def wfTableAbsent : Nat := 0x05
def wfTableOwner : Nat := 0x06
def wfMtMismatch : Nat := 0x07
def wfOutAbsent : Nat := 0x08
def wfUser : Nat := 0x09
def wfGuardExec : Nat := 0x0A
def wfGuardAccess : Nat := 0x0B
def wfRightsExec : Nat := 0x0C
def wfRightsRead : Nat := 0x0D
def wfRightsWrite : Nat := 0x0E
def wfOwner : Nat := 0x0F
def wfNoncanonical : Nat := 0x10
def wfTranslationOff : Nat := 0x11

/-- A walk-fault code: reason in bits [7:3], level in bits [2:0] (R226). -/
def wfCode (reason level : Nat) : Nat := reason * 8 + level

/-- The reason of R202 for an entry with V = 1 at a level, when it has one. -/
def checkReserved (e : Word) (lvl : Nat) : Option Nat :=
  if !pteL e then (if lvl = 0 ∨ bits e 11 2 ≠ 0 then some wfReserved else none)
  else if lvl = 4 ∨ (pteW e ∧ ¬ pteR e) ∨ pteMT e = 3 then some wfReserved
  else if pteAddr e % 2 ^ (12 + 9 * lvl) ≠ 0 then some wfBlockAlign
  else none

/-- The kinds of access a translation serves (R207, R208, R211). -/
inductive AccKind where
  | fetch | load | store
  deriving DecidableEq, Repr

/-- R207: the first check that fails, at level `pl` (0 U, 1 S, 2 H). -/
def checkRights (e : Word) (k : AccKind) (pl : Nat) (sxg sag : Bool) : Option Nat :=
  if pl = 0 ∧ ¬ pteU e then some wfUser
  else if pl = 1 ∧ k = .fetch ∧ pteU e ∧ sxg then some wfGuardExec
  else if pl = 1 ∧ k ≠ .fetch ∧ pteU e ∧ sag then some wfGuardAccess
  else match k with
  | .fetch => if pteX e then none else some wfRightsExec
  | .load => if pteR e then none else some wfRightsRead
  | .store => if pteW e then none else some wfRightsWrite

/-- R205: the reason for a leaf whose output is of the wrong class. -/
def State.checkOutput (s : State) (e : Word) (pa : Nat) : Option Nat :=
  match s.region pa with
  | .absent => some wfOutAbsent
  | .device => if pteMT e = 2 then none else some wfMtMismatch
  | .dram => if pteMT e = 2 then some wfMtMismatch else none

/-! ## TLBs (R217, R218, R225) -/

/-- log2 of the bytes a TLB entry maps. -/
def Tlb.sizeLog (e : Tlb) : Nat := if e.small then 12 else 12 + 9 * e.level + (if e.group then 4 else 0)

/-- log2 of the bytes that the leaf of an entry maps, for a 4 KiB translation too. -/
def Tlb.leafLog (e : Tlb) : Nat := 12 + 9 * e.level + (if e.group then 4 else 0)

/-- The entry belongs to this realm, regime and ASN (R218). -/
def Tlb.mine (e : Tlb) (realm : Realm) (h : Bool) (asn : BitVec 16) : Bool :=
  decide (e.realm = realm) && decide (e.hreg = h) && (e.global || decide (e.asn = asn))

/-- The range of the entry contains the address. -/
def Tlb.covers (e : Tlb) (va : BitVec 57) : Bool := decide (e.va.toNat / 2 ^ e.sizeLog = va.toNat / 2 ^ e.sizeLog)

/-- The output address. -/
def Tlb.out (e : Tlb) (va : BitVec 57) : Nat := (pteAddr e.leaf + va.toNat % 2 ^ e.sizeLog) % 2 ^ 52

/-- c.ttbase of a thread's regime, and whether it is the H regime (R197). -/
def Thread.regime (t : Thread) : Bool := decide (t.level = 2)
def Thread.ttbase (t : Thread) : Word := if t.regime then t.h.ttbase else t.s.ttbase
def Thread.asn (t : Thread) : BitVec 16 := BitVec.ofNat 16 (bits t.ttbase 63 48)

/-- The hits of a lookup in one structure. -/
def tlbHits (l : List Tlb) (th : Thread) (va : BitVec 57) : List Tlb :=
  l.filter (fun e => e.mine th.realm th.regime th.asn && e.covers va)

/-- Every entry of a core's structures that matches the address in the thread's realm and regime is removed (R225, R455). -/
def Core.dropVa (c : Core) (th : Thread) (va : BitVec 57) : Core :=
  let keep (e : Tlb) : Bool := !(decide (e.realm = th.realm) && decide (e.hreg = th.regime) && e.covers va)
  { c with itlb := c.itlb.filter keep, dtlb := c.dtlb.filter keep, l2tlb := c.l2tlb.filter keep,
           walks := c.walks.filter (fun w => !(decide (w.realm = th.realm) && decide (w.hreg = th.regime) &&
             decide (w.va.toNat / 2 ^ (12 + 9 * w.level) = va.toNat / 2 ^ (12 + 9 * w.level)))) }

/-! ## TLB contents -/

/-- The leaf with ADDR replaced. -/
def leafAt (e : Word) (addr : Nat) : Word := putBits e 51 12 (addr / 4096)

/-- The attributes of a leaf that a conflict compares: all but ADDR, A, D and IGN (R225). -/
def leafAttrs (e : Word) : Nat := bits e 6 0 * 8 + bits e 11 9

/-- The two entries share an address, for the same realm, regime and address space (R218, R225). -/
def Tlb.overlaps (a b : Tlb) : Bool :=
  decide (a.realm = b.realm) && decide (a.hreg = b.hreg) && (a.global || b.global || decide (a.asn = b.asn)) &&
    (a.covers b.va || b.covers a.va)

/-- The output of both at the first address they share, and their attributes, agree (R225). -/
def Tlb.agrees (a b : Tlb) : Bool :=
  let va := if a.va.toNat < b.va.toNat then b.va else a.va
  decide (a.out va = b.out va) && decide (leafAttrs a.leaf = leafAttrs b.leaf)

/-- The entry that a leaf gives the L2 TLB: a contiguous group as one entry (R209, R217). -/
def tlbOfLeaf (th : Thread) (va : BitVec 57) (lvl : Nat) (e : Word) : Tlb :=
  let size := 2 ^ (12 + 9 * lvl)
  let addr := pteAddr e
  let group := pteCont e
  let ix := va.toNat / size % 16
  let range := if group then size * 16 else size
  { realm := th.realm, hreg := th.regime, asn := th.asn, global := pteG e, va := BitVec.ofNat 57 (va.toNat / range * range),
    level := lvl, group := group, small := false,
    leaf := if group then leafAt e ((addr + 2 ^ 52 - ix * size) % 2 ^ 52) else e }

/-- The 4 KiB translation that an L1 TLB takes from a larger entry (R217). -/
def Tlb.smallAt (e : Tlb) (va : BitVec 57) : Tlb :=
  { e with va := BitVec.ofNat 57 (va.toNat / 4096 * 4096), small := true, leaf := leafAt e.leaf (e.out va) }

/-- An entry enters its set of a structure with `ways` ways, in a free way or that of the set's oldest entry (R217, log entry 10). -/
def tlbPut (ways : Nat) (set : Tlb → Nat) (l : List Tlb) (e : Tlb) : List Tlb :=
  let l := l.filter (fun x => !(x.overlaps e))
  let w := wayFor ways ((l.filter (fun x => decide (set x = set e))).map (fun x => x.way))
  { e with way := w } :: l.filter (fun x => !(decide (set x = set e) && decide (x.way = w)))

/-- The set of an entry in the L2 TLB: 512 sets, chosen by the address in units of the entry's size (R217, log entry 10). -/
def Tlb.set2 (e : Tlb) : Nat := e.va.toNat / 2 ^ e.sizeLog % 512

/-- The leaf enters the L2 TLB. -/
def Core.l2tlbPut (c : Core) (e : Tlb) : Core := { c with l2tlb := tlbPut 8 Tlb.set2 c.l2tlb e }

/-- The entry's 4 KiB translation enters the ITLB for a fetch, the DTLB otherwise. -/
def Core.l1tlbPut (c : Core) (k : AccKind) (e : Tlb) : Core :=
  if k = .fetch then { c with itlb := tlbPut 64 (fun _ => 0) c.itlb e } else { c with dtlb := tlbPut 96 (fun _ => 0) c.dtlb e }

/-- The set of a walk-cache entry: 64 sets, chosen by the address in units of what its table entry maps (R217, log entry 10). -/
def WalkEntry.set (w : WalkEntry) : Nat := w.va.toNat / 2 ^ (12 + 9 * w.level) % 64

/-- A walk-cache entry for the table that a table entry names, in a free way of its set or that of the oldest (R217). -/
def Core.walkPut (c : Core) (w : WalkEntry) : Core :=
  let l := c.walks.filter (fun x => !(decide (x.realm = w.realm) && decide (x.hreg = w.hreg) &&
      decide (x.asn = w.asn) && decide (x.level = w.level) && decide (x.va = w.va)))
  let k := wayFor 4 ((l.filter (fun x => decide (x.set = w.set))).map (fun x => x.way))
  { c with walks := { w with way := k } :: l.filter (fun x => !(decide (x.set = w.set) && decide (x.way = k))) }

/-- The walk-cache entry for a table entry read at level `lvl`. -/
def walkEntryOf (th : Thread) (va : BitVec 57) (lvl : Nat) (e : Word) : WalkEntry :=
  { realm := th.realm, hreg := th.regime, asn := th.asn,
    va := BitVec.ofNat 57 (va.toNat / 2 ^ (12 + 9 * lvl) * 2 ^ (12 + 9 * lvl)), level := lvl,
    next := BitVec.ofNat 52 (pteAddr e) }

/-- The walk-cache entry of the lowest level on the address's path. -/
def Core.walkHit (c : Core) (th : Thread) (va : BitVec 57) : Option WalkEntry :=
  [1, 2, 3, 4].findSome? (fun l => c.walks.find? (fun w => decide (w.level = l) && decide (w.realm = th.realm) &&
    decide (w.hreg = th.regime) && decide (w.asn = th.asn) &&
    decide (w.va.toNat / 2 ^ (12 + 9 * l) = va.toNat / 2 ^ (12 + 9 * l))))

/-- R195: bits [63:57] equal bit 56. -/
def canonical (va : Word) : Bool := decide ((BitVec.ofNat 57 va.toNat).signExtend 64 = va)

end Sys2Proof.Machine
end

