-- ==== Sys2Proof/Machine/WrongPath.lean ====
section
/-! DEFINITION. What the wrong path of a thread leaves behind when it is squashed (04_core_pipeline.md R124, R130, R135, R136;
06_address_translation.md R214; 17_errors.md R604): predictor state, fills from the die, translations, replacement order, counts. Which
work there was is a free value (log entry 7). -/
namespace Sys2Proof.Machine
open Sys2Proof Sys2Proof.Config

/-- What wrong-path work may change: its core, its thread and its die. -/
structure Wrong where
  core : Core
  thread : Thread
  die : Die
  deriving DecidableEq, Repr

/-- Another L2 of the die holds the line in S, with no owner, and may give a copy without a change of its own (R135). -/
def State.quietCopy (s : State) (c : Nat) (d : Die) (a : LineAddr) : Option Line :=
  match d.sfFind a with
  | some e =>
    if e.busy || e.owner.isSome || decide (e.bad ≠ 0) then none
    else e.cores.findSome? (fun o => if o = c % 20 then none else
      match (s.core (dieOfCore c * 20 + o)).l2Find a with
      | some (_, v) => if v.st = .S ∧ v.bad = 0 ∧ v.tagBad = false then some v.data else none
      | none => none)
  | none => none

/-- The line as a wrong-path access finds it: in its own L2, or brought there when the die's snoop filter holds an entry and neither a
victim nor another cache is touched. One with an error gives nothing and is left as it is (R135, R604). -/
def State.wrongL2 (s : State) (c : Nat) (w : Wrong) (a : LineAddr) : Wrong × Option Line :=
  if w.core.l2Dis || w.core.l2Flushing then (w, none)
  else match w.core.l2Find a with
  | some (_, v) =>
    if v.bad = 0 ∧ v.tagBad = false ∧ v.st ≠ .I then ({ w with core := w.core.l2Touch a }, some v.data) else (w, none)
  | none =>
    match s.quietCopy c w.die a with
    | some d =>
      if (freeWay w.core.l2 (l2Set a) 16).isSome && (w.core.txnFind a).isNone && (w.core.ebFind a).isNone then
        match w.core.l2Fill { line := a, st := .S, realm := w.thread.realm, data := d } with
        | some k => ({ w with core := k, die := w.die.sfAdd a (c % 20) .S }, some d)
        | none => (w, none)
      else (w, none)
    | none => (w, none)

/-- A load or fetch of the wrong path: through a translation that a TLB holds, to cacheable memory (R135). -/
def State.wrongAccess (s : State) (c : Nat) (w : Wrong) (va : BitVec 57) (fetch : Bool) : Wrong :=
  let th := w.thread
  match tlbHits (if fetch then w.core.itlb else w.core.dtlb) th va with
  | [e] =>
    if e.bad || decide (pteMT e.leaf ≠ 0) || !(bit th.ttbase 0) ||
        (checkRights e.leaf (if fetch then .fetch else .load) th.level th.sxg th.sag).isSome then w
    else
      let a := lineOf (e.out va)
      match if fetch then w.core.l1iFind a else w.core.l1dFind a with
      | some (k, x) =>
        if x.bad then w
        else { w with core := if fetch then w.core.l1iTouch (l1iSet a) k else w.core.l1dTouch (l1dSet a) k }
      | none =>
        match s.wrongL2 c w a with
        | (w, some d) => { w with core := if fetch then w.core.l1iFill a d th.realm else w.core.l1dFill a d th.realm }
        | (w, none) => w
  | _ => w

/-- A walk of the wrong path from the table at `table` (R214): it reads entries that the core can reach without a request, and installs
in the L2 TLB a leaf whose A, and for a store D, are set. The L1 TLBs take nothing: their entry needs an ownership answer from beyond the
die (R136, R212). -/
def State.wrongWalk (s : State) (c : Nat) (w : Wrong) (va : BitVec 57) (store : Bool) (table : Nat) : Nat → Wrong
  | 0 => w
  | lvl + 1 =>
    let ea := table + va.toNat / 2 ^ (12 + 9 * lvl) % 512 * 8
    if s.region ea ≠ .dram then w
    else
      let (w, l) := s.wrongL2 c w (lineOf ea)
      match l with
      | none => w
      | some l =>
        let e : Word := BitVec.ofNat 64 (lineNat l (ea % 64) 8)
        if !pteV e || (checkReserved e lvl).isSome then w
        else if pteL e then
          let n := tlbOfLeaf w.thread va lvl e
          let k : AccKind := if store then .store else .load
          if (s.checkOutput e ((pteAddr e + va.toNat % 2 ^ (12 + 9 * lvl)) % 2 ^ 52)).isSome ||
              (checkRights e k w.thread.level w.thread.sxg w.thread.sag).isSome || !pteA e || (store && !pteD e) ||
              w.core.l2tlb.any (fun x => x.overlaps n && !(x.agrees n)) then w
          else { w with core := w.core.l2tlbPut n }
        else s.wrongWalk c { w with core := w.core.walkPut (walkEntryOf w.thread va lvl e) } va store (pteAddr e) lvl

/-- One piece of wrong-path work. -/
def State.wrongStep (s : State) (c : Nat) (w : Wrong) : WrongWork → Wrong
  | .cond pc history taken target =>
    let k := w.core.train (predIx pc.toNat history.toNat w.thread.part) taken
    { w with core := if taken then k.btbPut pc w.thread.realm 0 target w.thread.part else k }
  | .jump pc kind target =>
    { w with core := w.core.btbPut pc w.thread.realm kind target w.thread.part,
             thread := match kind with
               | 2 => w.thread.pushRet (linkOf pc)
               | 3 => w.thread.popRet
               | _ => w.thread }
  | .access va fetch => s.wrongAccess c w va fetch
  | .walk va store => if bit w.thread.ttbase 0 then s.wrongWalk c w va store (bits w.thread.ttbase 47 8 * 4096) 5 else w

/-- Everything the wrong path did, in its order. -/
def State.wrongAll (s : State) (t : Nat) (l : List WrongWork) : Wrong :=
  l.foldl (fun w x => s.wrongStep (coreOf t) w x) { core := s.core (coreOf t), thread := s.thread t, die := s.die (dieOf t) }

/-- The effects that R135 lists, and no other, remain of the wrong path. -/
def State.wrongPath (s : State) (t : Nat) : State :=
  let w := s.wrongAll t (Config.wrongPath s.freeCount)
  (((s.modCore (coreOf t) (fun k =>
      { k with btb := w.core.btb, btbOrder := w.core.btbOrder, t0 := w.core.t0, t1 := w.core.t1, t2 := w.core.t2,
               chooser := w.core.chooser, l1i := w.core.l1i, l1d := w.core.l1d, l2 := w.core.l2, plruI := w.core.plruI,
               plruD := w.core.plruD, plru2 := w.core.plru2, l2tlb := w.core.l2tlb, walks := w.core.walks })).modDie (dieOf t)
    (fun d => { d with sf := w.die.sf })).modThread t (fun y => { y with rstack := w.thread.rstack, rtop := w.thread.rtop })).spendFree

/-- The younger work of thread `t` is squashed: what it counted and what it leaves (R135, R136, R651). -/
def State.squash (s : State) (t : Nat) : State := (s.countWrongPath t).wrongPath t

end Sys2Proof.Machine
end

