-- ==== Sys2Proof/Machine/Exceptions.lean ====
section
/-! DEFINITION. Exceptions, interrupts and realm exits (03_wemir_instruction_set.md R108 to R117): one shared entry, the return,
and the thread context block. -/
namespace Sys2Proof.Machine
open Sys2Proof

/-! ## Exception codes (R108) -/

def exIllegal : Nat := 0x01
def exPrivileged : Nat := 0x02
def exSlot : Nat := 0x03
def exTargetAlign : Nat := 0x04
def exDataAlign : Nat := 0x05
def exFetchFault : Nat := 0x06
def exLoadFault : Nat := 0x07
def exStoreFault : Nat := 0x08
def exConflict : Nat := 0x09
def exMemtype : Nat := 0x0A
def exCounterAccess : Nat := 0x0B
def exSyscall : Nat := 0x0C
def exHcall : Nat := 0x0D
def exBreak : Nat := 0x0E
def exInterrupt : Nat := 0x10
def exRealmExit : Nat := 0x11
def exRenterRefused : Nat := 0x12
def exNested : Nat := 0x13

/-- SUB of an interrupt class (R108). -/
def IntClassSub (c : IntClass) : Nat := match c with
  | .device => 0
  | .interThread => 1
  | .ring => 2
  | .timer => 3
  | .counter => 4

/-- An exception: CODE, SUB and c.eaddr (R105, R108). -/
structure Exc where
  code : Nat
  sub : Nat := 0
  eaddr : Word := 0
  deriving DecidableEq, Repr

/-- c.ecause (R105). -/
def Exc.cause (e : Exc) : Word := BitVec.ofNat 64 (e.sub * 256 + e.code)

/-! ## Entry (R110, R111) -/

/-- The banked registers of a level: S for 1, H for 2. -/
def Thread.bank (t : Thread) (h : Bool) : Bank := if h then t.h else t.s
def Thread.setBank (t : Thread) (h : Bool) (b : Bank) : Thread := if h then { t with h := b } else { t with s := b }

/-- c.vbase.BASE plus an offset, as an instruction address (R110). -/
def vectorOf (b : Bank) (off : Nat) : BitVec 57 := BitVec.ofNat 57 ((b.vbase.toNat / 4096) * 4096 + off)

/-- c.status after entry: PL the target level, EXL set, IE cleared (R111 step 6). -/
def entryStatus (st : Word) (target : Nat) : Word := putBits (putBits (putBits st 1 0 target) 3 3 1) 2 2 0

/-- c.estatus at entry: c.status [5:0], and DS when the interrupted instruction is an executing delay slot (R111). -/
def entryEstatus (t : Thread) : Word := BitVec.ofNat 64 (bits t.status 5 0 + b2n t.slot.isSome * 65536)

/-- Exception entry (R111) to level `target` (1 S, 2 H) at vector offset `off`. `after` is set for SYSCALL, HCALL and BREAK,
whose c.epc is the following instruction (step 4). -/
def Thread.enter (t : Thread) (target off : Nat) (e : Exc) (after : Bool) : Thread :=
  let hh := decide (target = 2)
  let epc := if after then t.pc + 4 else t.pc
  let enpc := match t.slot with
    | some n => n
    | none => epc + 4
  let b := { t.bank hh with estatus := entryEstatus t, epc := wordOfPc epc, enpc := wordOfPc enpc, ecause := e.cause,
                            eaddr := e.eaddr }
  let t' := if (if hh then t.rsclrH else bit t.predctl 0) then t.clearRet else t
  { (t'.setBank hh b) with status := entryStatus t.status target, pc := vectorOf b off, slot := none, renter := none, own := [],
                           retried := false }

/-- Closes the merging-buffer entries of one thread of a core (R162). -/
def Core.closeMb (c : Core) (thread : Nat) : Core :=
  { c with mb := c.mb.map (fun e => if e.thread.val = thread then { e with closed := true } else e) }

/-- Closes the merging-buffer entries of a thread. -/
def State.closeMb (s : State) (t : Nat) : State := s.modCore (coreOf t) (fun c => c.closeMb (threadIx t))

/-! ## The thread context block (R117) -/

/-- The 64-bit word of a thread's context block at offset 8 * `i`. -/
def ctxWord (t : Thread) (i : Nat) : Word :=
  if i < 31 then t.gpr (BitVec.ofNat 5 (i + 1))
  else if i = 31 then t.status
  else if i < 160 then (t.vec (BitVec.ofNat 5 ((i - 32) / 4))).extractLsb' (64 * ((i - 32) % 4)) 64
  else if i < 164 then
    let k := (i - 160) * 2
    (t.mask (BitVec.ofNat 3 (k + 1))).zeroExtend 64 <<< 32 ||| (t.mask (BitVec.ofNat 3 k)).zeroExtend 64
  else match i with
    | 164 => wordOfPc t.pc
    | 165 => wordOfPc (t.slot.getD (t.pc + 4))
    | 166 => if t.slot.isSome then 1 else 0
    | 167 => t.fpcsr
    | 168 => t.s.ttbase
    | 169 => t.s.vbase
    | 170 => t.s.scratch
    | 171 => t.s.tcmp
    | 172 => t.s.epc
    | 173 => t.s.enpc
    | 174 => t.s.estatus
    | 175 => t.s.ecause
    | 176 => t.s.eaddr
    | _ => 0

/-- Eight words as a line. -/
def lineOfWords (f : Nat → Word) (base : Nat) : Line :=
  (upTo 8).foldl (fun l k => putLine l (8 * k) 8 (f (base + k)).toNat) 0

/-- Line `i` of a thread's context block, 0 to 23. -/
def ctxLine (t : Thread) (i : Nat) : Line := lineOfWords (ctxWord t) (8 * i)

/-- The context block of a thread, from its binding entry (R482). -/
def State.ctxBase (s : State) (t : Nat) : Nat := (s.fld (regRlmBind1 t) 51 6) * 64

/-! ## Requests of a core's L2 agent -/

/-- The channel mode of a package (R372): 0 sixteen channels, 1 channels 0 to 7, 2 channels 8 to 15. -/
def State.chanMode (s : State) (p : Nat) : Nat := s.fld regDmcHalfmap (2 * p + 1) (2 * p)

/-- The hash mask in force (R395). -/
def State.maskAt (s : State) (reg : Nat) : Word := Tbl.get (regReset reg) s.masks reg

/-- The parity of an address under a mask register (R367). -/
def State.hashBit (s : State) (reg addr : Nat) : Nat := b2n (parityBits (addr &&& (s.maskAt reg).toNat) 52)

/-- The channel, and agent index h, of a physical address (R229, R367, R369, R372). -/
def State.chanOf (s : State) (pa : Nat) : Nat :=
  let off := pa % 2 ^ 47
  let low := s.hashBit regDmcChanhash0 off + 2 * s.hashBit regDmcChanhash1 off + 4 * s.hashBit regDmcChanhash2 off
  match s.chanMode (pa / 2 ^ 47) with
  | 1 => low
  | 2 => low + 8
  | _ => low + 8 * s.hashBit regDmcChanhash3 off

/-- A header of a REQ-class message from core `c` for thread `t`'s access to a line (R237, R238): its stamp is the present
clause, its rank the thread's identifier. -/
def State.coreHdr (s : State) (c t : Nat) (line : LineAddr) (tid : BitVec 12) (realm : Realm) : Hdr :=
  { tid := tid, src := s.coreAgent c, dst := homeAgentId s.pkgNum (s.chanOf (lineBase line)), addr := line, stamp := s.clause,
    rank := s.tidOf t, realm := realm }

/-- A fresh transaction number of a core (R237). -/
def State.takeTid (s : State) (c : Nat) : BitVec 12 × State :=
  ((s.core c).nextTid, s.modCore c (fun k => { k with nextTid := k.nextTid + 1 }))

/-- A request that a core's agent sends beyond its die (event 0Bh, R651). -/
def State.sendReq (s : State) (t : Nat) (m : Msg) : State := (s.countEv t 0x0B false).send m

/-- The reservation credits of a die at agent `n`: pool 0 for requests, 1 for writebacks (R241). -/
def State.credits (s : State) (die n pool : Nat) : Nat := Tbl.get 0 (s.die die).creds (n * 2 + pool)
def State.addCredits (s : State) (die n pool k : Nat) : State :=
  s.modDie die (fun d => { d with creds := Tbl.set d.creds (n * 2 + pool) (s.credits die n pool + k) })
def State.useCredit (s : State) (die n pool : Nat) : State :=
  s.modDie die (fun d => { d with creds := Tbl.set d.creds (n * 2 + pool) (s.credits die n pool - 1) })

/-- A REQ-class message of a core's agent for thread `t`, when the die holds a credit for it: true when it was sent (R241). No
request is issued while the package's sources are held (R567). -/
def State.sendCredited (s : State) (t pool : Nat) (m : Msg) : State × Bool :=
  let n := s.chanOf (lineBase m.hdr.addr)
  if s.sourcesHeld || s.credits (dieOf t) n pool = 0 then (s, false)
  else ((s.useCredit (dieOf t) n pool).sendReq t m, true)

/-- One line of a context block is queued to be written as a full-line coherent write (R116, log entry 8). -/
def State.saveLine (s : State) (t : Nat) (pa : Nat) (realm : Realm) (l : Line) : State :=
  s.modCore (coreOf t) (fun c => { c with ctxWrites := c.ctxWrites ++ [{ line := lineOf pa, realm := realm, data := l, thread := t }] })

/-- The lines `i`, `i+1`, ... of the context block of thread `t` as it stands in `th`. -/
def State.saveCtx (s : State) (t base : Nat) (th : Thread) (i : Nat) : Nat → State
  | 0 => s
  | k + 1 => (s.saveLine t (base + 64 * i) th.realm (ctxLine th i)).saveCtx t base th (i + 1) k

/-! ## Realm exits (R116, R126, R128, R153) -/

/-- g1 to g31, v0 to v31 and k1 to k7 set to 0; an HCALL exit keeps g1 to g4 (R116). -/
def Thread.clearRegs (t : Thread) (keep : Bool) : Thread :=
  { t with g := if keep then t.g.filter (fun p => decide (1 ≤ p.1 ∧ p.1 ≤ 4)) else [], v := [], k := [] }

/-- The thread enters H at offset 300h with code REALM_EXIT and reason `sub`, in realm 0 (R110, R111, R116). -/
def Thread.exitRealm (t : Thread) (sub : Nat) (predctl : Word) : Thread :=
  let left := t.realm.toNat
  let t := (t.enter 2 0x300 { code := exRealmExit, sub := sub } false).clearRegs (decide (sub = 0))
  { t with realm := 0, predctl := predctl, rsclrH := false, rsstat := 0, history := 0, rstack := [], rtop := 0, wait := .ready,
           drainWanted := false, ad := none, residue := none, retried := false, exitDue := none, exitFence := true,
           hcallExits := if sub = 0 then left :: t.hcallExits.erase left else t.hcallExits.erase left }

/-- The PEND bits of pending classes: bit i for SUB i, 0 to 3 (R482). -/
def pendBits (l : List IntClass) : Nat :=
  b2n (l.contains .device) + 2 * b2n (l.contains .interThread) + 4 * b2n (l.contains .ring) + 8 * b2n (l.contains .timer)

/-- The realm's pending classes go back to the binding entry's PEND, as interrupts of a realm whose thread is at H are held
(R465, log entry 9). -/
def State.parkPending (s : State) (t : Nat) : State :=
  let th := s.thread t
  if th.realm = 0 then s
  else (s.setFld (regRlmBind0 t) 20 17 (s.fld (regRlmBind0 t) 20 17 ||| pendBits th.pendS)).modThread t
    (fun y => { y with pendS := [] })

/-- The transactions that a thread has outstanding beyond its core. -/
def Thread.outstanding (t : Thread) : List (BitVec 12) :=
  (match t.wait with
   | .access tid _ => [tid]
   | _ => []) ++
  (match t.ad with
   | some a => a.tid.toList
   | none => [])

/-- An access of the thread is under way: it is performed exactly once, and its answer is awaited (R100). -/
def Thread.accessing (t : Thread) : Bool := match t.wait with
  | .access _ _ => true
  | _ => false

/-- The realm exit of one thread: its younger work squashed, its context saved unless `save` is false, its entries of the merging
buffer closed, the predictor flushed as R126 gives. -/
def State.exitOne (s : State) (t sub : Nat) (save : Bool) : State :=
  let s := s.squash t
  let th := s.thread t
  let s := if save then s.saveCtx t (s.ctxBase t) th 0 24 else s
  let s := s.modCore (coreOf t) (fun c => { c with discards := c.discards ++ th.outstanding })
  let s := ((s.closeMb t).switchPred (coreOf t) th.realm.toNat 0).parkPending t
  s.modThread t (fun y => y.exitRealm sub (s.switchPredctl 0))

/-- The realm exit of a thread that another one causes: at once, or once the answer of its access has come (R100). -/
def State.exitSoon (s : State) (t sub : Nat) : State :=
  if (s.thread t).accessing then s.modThread t (fun y => { y with exitDue := some sub }) else s.exitOne t sub true

/-- An access of the thread is complete: a realm exit that waited for it is taken. -/
def State.exitNow (s : State) (t : Nat) : State := match (s.thread t).exitDue with
  | some sub => if (s.thread t).accessing then s else s.exitOne t sub true
  | none => s

/-- A realm exit with reason `sub`; the sibling leaves a sealed realm too, with SUB 5, its context saved first (R469). -/
def State.realmExit (s : State) (t sub : Nat) : State :=
  let r := (s.thread t).realm.toNat
  let sib := siblingOf t
  let s := if s.fld (regRlmTable0 r) 32 32 = 1 ∧ (s.thread sib).realm.toNat = r ∧ s.threadExists sib
    then s.exitSoon sib 5 else s
  s.exitOne t sub true

/-! ## Taking an exception -/

/-- A synchronous exception of the instruction at the thread's pc (R109 to R114). -/
def State.raise (s : State) (t : Nat) (e : Exc) (after : Bool := false) : State :=
  let th := s.thread t
  let s := ((s.countEv t 0x14).squash t).closeMb t
  let toH := e.code = exHcall ∨ (th.level = 2)
  if th.level = 2 ∧ th.exl then
    s.ueP (dieOf t) (t % 40) 0x5041 th.realm.toNat
      [(s.tidOf t).toNat, e.cause.toNat, th.pc.toNat % 2 ^ 32, th.pc.toNat / 2 ^ 32]
  else if th.level = 1 ∧ th.exl ∧ e.code ≠ exHcall then
    if th.realm = 0 then s.modThread t (fun y => y.enter 2 0x100 { code := exNested, eaddr := e.eaddr } after)
    else s.realmExit t 3
  else if toH then s.modThread t (fun y => y.enter 2 (if th.level = 2 then 0 else 0x100) e after)
  else s.modThread t (fun y => y.enter 1 (if th.level = 1 then 0 else 0x100) e after)

/-- Whether a pending class may be taken: while IE = 1 and EXL = 0; an H-routed one always while another realm runs; an
S-routed one waits while the thread is at H (R109, log entry 9). -/
def Thread.mayTake (t : Thread) (h : Bool) : Bool :=
  if h then decide (t.realm ≠ 0) || (t.ie && !t.exl) else decide (t.level < 2) && t.ie && !t.exl

/-- The interrupt a thread would take at this instruction boundary, routed to H or not: of the classes that may be taken, the one with
the lowest SUB (R109); an H-routed one first where one class is pending both ways (log entry 80). -/
def Thread.takeable (t : Thread) : Option (Bool × IntClass) :=
  [IntClass.device, .interThread, .ring, .timer, .counter].findSome? (fun c =>
    if t.pendH.contains c && t.mayTake true then some (true, c)
    else if t.pendS.contains c && t.mayTake false then some (false, c) else none)

/-- Takes an interrupt of class `cls` (R109, R111): at S or H by entry at 200h; an H-routed one while another realm runs is a
realm exit, SUB 1 for the H timer and 2 otherwise. Taking it clears its class, but for a timer's; a class that causes a realm exit stays
pending for H, which enters with REALM_EXIT and takes it as an interrupt later (log entry 80). -/
def State.takeInterrupt (s : State) (t : Nat) (toH : Bool) (cls : IntClass) : State :=
  let th := s.thread t
  let s := ((s.countEv t 0x15 false).squash t).closeMb t
  if toH then
    if th.realm ≠ 0 then
      s.realmExit t (if cls = .timer then 1 else 2)
    else
      let s := s.modThread t (fun y => y.enter 2 0x200 { code := exInterrupt, sub := IntClassSub cls } false)
      if cls = .timer then s else s.modThread t (fun y => { y with pendH := y.pendH.erase cls })
  else
    let s := s.modThread t (fun y => y.enter 1 0x200 { code := exInterrupt, sub := IntClassSub cls } false)
    if cls = .timer then s else s.modThread t (fun y => { y with pendS := y.pendS.erase cls })

end Sys2Proof.Machine
end

