-- ==== Sys2Proof/Machine/RealmReset.lean ====
section
/-! DEFINITION. A UE-R and the first step of the realm reset it starts (12_realms_isolation.md R476, R478; R603, R605), and
error injection (17_errors.md R615 to R617). -/
namespace Sys2Proof.Machine
open Sys2Proof

/-- STATE of a realm entry (R446). -/
def State.realmState (s : State) (r : Nat) : Nat := s.fld (regRlmTable0 r) 18 16
def State.realmSealed (s : State) (r : Nat) : Bool := s.fld (regRlmTable0 r) 32 32 = 1

def realmFree : Nat := 0
def realmStopped : Nat := 1
def realmRunning : Nat := 2

/-- The thread positions of the threads table that run in realm `r`. -/
def State.threadsIn (s : State) (r : Nat) : List Nat :=
  (upTo 480).filter (fun t => (s.thread t).realm.toNat = r && s.threadExists t)

/-- Every thread of a list takes a realm exit with SUB 6, its context not saved (R476 step 1). -/
def State.exitAll (s : State) : List Nat → State
  | [] => s
  | t :: l => (s.exitOne t 6 false).exitAll l

/-- The realm's merging-buffer entries are discarded and its subjunctive fills lose their consumers (R476 step 1). -/
def Core.dropRealm (c : Core) (r : Realm) : Core :=
  { c with mb := c.mb.filter (fun e => e.realm ≠ r),
           txns := c.txns.map (fun x => if x.realm = r then { x with consumer := none } else x) }

/-- The realm a context is bound to (R403). -/
def RingCtx.realm (c : RingCtx) : Nat := bits c.w3 9 0

/-- The engine drops what it does for the contexts that `p` names: their reads are discarded (R437, R438). -/
def State.dropServed (s : State) (p : Nat → Bool) (e : Nat) : State :=
  let g : Engine := Tbl.get {} s.engines e
  let mine := match g.cur with
    | some c => p c
    | none => false
  let keep := g.bells.filter (fun b => !p b.2)
  let s := { s with engines := Tbl.set s.engines e { g with cur := if mine then none else g.cur, bells := keep,
                                                            due := g.due.filter (fun c => !p c) } }
  let port : Port := Tbl.get {} s.ports (40 + e)
  let s := if mine then
      { s with ports := Tbl.set s.ports (40 + e) { port with lines := [], failed := [], reads := port.reads.filter (fun r => keep.any (fun b => decide (b.1 = r.1))) } }
    else s
  if mine then (s.setFld (regPenStatus e) 0 0 0).setFld (regPenCurrent e) 63 63 0 else s

def State.dropServedAll (s : State) (p : Nat → Bool) : List Nat → State
  | [] => s
  | e :: l => (s.dropServed p e).dropServedAll p l

/-- CONTEXTS of an engine: its contexts in ENABLED, ERROR or DRAINING (R441). -/
def State.countContexts (s : State) : List Nat → State
  | [] => s
  | e :: l => (s.setFld (regPenStatus e) 30 16 ((s.ctxs.filter (fun p => decide (bits p.2.w3 15 12 = e) &&
      decide (1 ≤ bits p.2.w6 2 0 ∧ bits p.2.w6 2 0 ≤ 3))).length)).countContexts l

/-- Contexts leave service: their monitor entries, descriptors and reads go, and no further write or record is issued (R437). -/
def State.stopCtxs (s : State) (p : Nat → Bool) (st : Nat) : State :=
  let hit (c : Nat) : Bool := p c && decide (bits (Tbl.get {} s.ctxs c).w6 2 0 ≠ 0)
  let l := (s.ctxs.map (fun x => x.1)).filter hit
  let s := { s with monitors := s.monitors.filter (fun m => !l.contains m.ctx),
                    ctxRuns := s.ctxRuns.filter (fun x => !l.contains x.1),
                    ctxs := s.ctxs.map (fun (x : Nat × RingCtx) => if l.contains x.1 then (x.1, { x.2 with w6 := putBits x.2.w6 2 0 st }) else x) }
  let s := (s.dropServedAll (fun c => l.contains c) (upTo 16)).countContexts (upTo 16)
  match s.ctxJob with
  | some (.stopping c) => if l.contains c then ({ s with ctxJob := none }).setFld regPenCtxcmd 23 19 0 else s
  | _ => s

/-- The contexts of a realm enter DISABLED without DRAINING (R437). -/
def State.disableCtxs (s : State) (r : Nat) : State := s.stopCtxs (fun c => decide ((Tbl.get {} s.ctxs c).realm = r)) 0

/-- Step 1 of R476 on this package. -/
def State.resetLocal (s : State) (r : Nat) : State :=
  let s := s.exitAll (s.threadsIn r)
  let s := { s with cores := Tbl.map (fun c => c.dropRealm (BitVec.ofNat 10 r)) s.cores }
  s.disableCtxs r

/-- The realm's threads may not run here: a UE-R of this package has stopped them (R29, R476 step 1). -/
def State.realmHalted (s : State) (r : Nat) : Bool := s.realms.stopped.contains r

/-- A UE-R for realm `r` with its code `code`, or the UE-P code `codeP` of the same source when `r` is 0 (R603): recorded,
and acted on at once unless the package halts, the realm is being destroyed or is already resetting (R478, R605). -/
def State.ueR (s : State) (die src code codeP r : Nat) (ps : List Nat) : State :=
  if r = 0 then s.ueP die src codeP r ps
  else
    let s := ((s.emit die src code r ps).addFld regGlbErrsum 31 16 1).noteUe code
    let s := s.noticeDue code r (s.origin die src) true
    if s.mode = modeHalt then s
    else if s.realmState r = 3 ∨ s.realmState r = 4 then s
    else ((s.resetLocal r).modRealms (fun x => { x with stopped := r :: x.stopped.erase r })).raiseEvent (.ueR (BitVec.ofNat 10 r) (BitVec.ofNat 16 code)) 4 die src

/-! ## Error injection -/

/-- An armed injection would fire at an access of `target`, `unit` to `line` (R616): its KIND. It does not fire in QUIESCE,
DRAIN or HALT. -/
def State.injectKind (s : State) (target unit : Nat) (line : Option LineAddr) : Option Nat :=
  let w := s.reg regGlbInject
  let want := s.fld regGlbInjaddr 51 6
  let lineOk : Bool := match line with
    | some l => decide (want = 0) || decide (want = l.toNat)
    | none => true
  let held := s.mode = modeQuiesce || s.mode = modeDrain || s.mode = modeHalt
  if bit w 63 && decide (bits w 51 48 = target) && decide (bits w 31 16 = unit) && lineOk && !held
  then some (bits w 47 46) else none

/-- The injection fires: ARMED clears, FIRED is set, and 00F0h is written at the rank of the error it causes (R617). -/
def State.fireInject (s : State) (rank die src : Nat) : State :=
  let w := s.reg regGlbInject
  (s.setReg regGlbInject (putBits (putBits w 63 63 0) 62 62 1)).emitRank rank die src 0x00F0 0
    [bits w 51 48, bits w 47 46, bits w 31 16, s.fld regGlbInjaddr 37 6]

/-! ## The mesh and the narrow network (R542, R544, R550, R552) -/

/-- A corrected error at router `k` (R552, R555). -/
def State.meshCe (s : State) (k code : Nat) (ps : List Nat) : State := (s.addFld (regMshRouter k) 63 32 1).ce 12 (88 + k) code 0 ps

/-- What the checks find on a message's way: the state, and whether the message arrives (R552). -/
def State.meshError (s : State) : MeshError → State × Bool
  | .clean => (s, true)
  | .corrected k p v => (s.meshCe k.val 0x3020 [k.val, p, v], true)
  | .uncorrectable k p v => (s.ueP 12 (88 + k.val) 0x5021 0 [k.val, p, v], false)
  | .narrow k v => (s.meshCe k.val 0x3022 [k.val, v], true)
  | .narrowTwice k v => (s.ueP 12 (88 + k.val) 0x5023 0 [k.val, v], false)

/-- An injection armed at a router fires on a message that passes it (R615, R616). -/
def State.meshInject (s : State) (h : Hdr) (e : MeshError) : State × MeshError :=
  let k := s.fld regGlbInject 31 16
  let src := s.meshEntry h
  if k < 36 ∧ onPath src (agentRouter (agentDie h.dst) (agentUnit h.dst)) k then
    match s.injectKind 0xA k none with
    | some 0 => (s.spendFree.fireInject 8 12 (88 + k), .corrected (Fin.ofNat 36 k) (s.freeWord.toNat % 8) (s.freeWord.toNat / 8 % 4))
    | some 1 => (s.spendFree.fireInject 2 12 (88 + k), .uncorrectable (Fin.ofNat 36 k) (s.freeWord.toNat % 8) (s.freeWord.toNat / 8 % 4))
    | _ => (s, e)
  else (s, e)

/-- The boundary router of a domain (log entry 28). -/
def domainRouter (d : Nat) : Nat :=
  if d < 60 then edgeRouter (d / 5)
  else if d < 76 then agentRouter 12 (d - 60 + 40)
  else if d < 88 then edgeRouter (d - 76)
  else if d < 92 then 8 + (d - 88) / 2 else 26 + (d - 92) / 2

/-- R550: a coherence message reaches a closing or closed domain. -/
def State.closedCoherent (s : State) (d type : Nat) : State :=
  s.ueP 12 (88 + domainRouter d) 0x5020 0 [domainRouter d, d, type]

end Sys2Proof.Machine
end

