-- ==== Sys2Proof/Machine/Caches.lean ====
section
/-! DEFINITION. The caches of a core and of its die at work: the requests that leave the die, waiters, and the errors that reads meet
(05_core_caches.md R155 to R185, 07_coherence_protocol.md R246, R250, R263). -/
namespace Sys2Proof.Machine
open Sys2Proof

/-! ## Requests that leave the die (R246, R250, R263) -/

/-- PA[17:6] XOR PA[29:18], the index of the owner-prediction table (R267). -/
def predIndex (a : LineAddr) : Nat := (a.toNat % 4096) ^^^ (a.toNat / 4096 % 4096)
/-- PA[51:18], its tag. -/
def predTag (a : LineAddr) : BitVec 34 := BitVec.ofNat 34 (a.toNat / 4096)

/-- The owner package predicted for a request of realm `r`, when it may go subjunctively (R263, R267). -/
def State.predictOwner (s : State) (c : Nat) (a : LineAddr) (r : Realm) : Option Pkg :=
  let d := dieOfCore c
  if s.mode ≠ modeRunS ∨ s.fld (regOptctl d) 0 0 = 0 ∨ ((s.core c).txns.filter (fun x => x.sub)).length ≥ 16 then none
  else match Tbl.find (s.die d).preds (predIndex a) with
    | some e => if e.tag = predTag a ∧ e.realm = r ∧ e.conf ≥ s.fld (regOptctl d) 2 1 ∧ e.pkg.toNat ≠ s.pkgNum
        then some e.pkg else none
    | none => none

/-- The core's L2 sends RdS, RdX, Upg or RdZ for a line to agent h, once the die holds a credit for it; the die's entry becomes
BZ (R241, R250). -/
def State.sendLineReq (s : State) (t : Nat) (kind : MsgType) (a : LineAddr) (held : CState) (realm : Realm) (instr : Bool := false) :
    State :=
  let c := coreOf t
  let (tid, s1) := s.takeTid c
  let pred := if kind = .rdS ∨ kind = .rdX then s.predictOwner c a realm else none
  let h := s.coreHdr c t a tid realm
  let h := match pred with
    | some p => { h with pred := p, flags := { h.flags with subj := true } }
    | none => h
  let (s1, ok) := s1.sendCredited t 0 { type := kind, hdr := h }
  if !ok || (decide (held = .I) && (s.core c).waysHeld a) then s
  else
    let x : Txn := { tid := tid, line := a, kind := kind, held := held, thread := if threadIx t = 0 then 0 else 1,
                     realm := realm, instr := instr, sub := pred.isSome }
    let s := s1.modCore c (fun k => { k with txns := k.txns ++ [x] })
    s.modDie (dieOfCore c) (fun d => d.sfSet a { d.sfEntry a with busy := true })

/-! ## Waiters (R96, R97) -/

/-- A waiter on a line of the core wakes: WAITD status for a copy that leaves (R96). -/
def Thread.wake (t : Thread) (a : LineAddr) (status : Nat) : Thread :=
  match t.wait with
  | .waitd l _ rd => if l = a then
      let t' := { (t.setGpr rd (BitVec.ofNat 64 status)) with wait := .ready }
      { t' with pc := match t.slot with
                  | some n => n
                  | none => t.pc + 4,
                slot := none }
    else t
  | _ => t

/-- The thread wakes from its WAITD on a line with a status; a wake of its that waits for its clause is void (R96). -/
def State.wakeThread (s : State) (t : Nat) (a : LineAddr) (status : Nat) : State :=
  match (s.thread t).wait with
  | .waitd l _ _ =>
    if l = a then
      let s := { s with events := s.events.filter (fun e => decide (e.kind ≠ EventKind.wake t a)) }
      (s.countEv t 0x03).modThread t (fun y => y.wake a status)
    else s
  | _ => s

/-- Both threads of a core wake from a WAITD on a line with status 4: the core's own action removed the copy (R96). -/
def State.wakeCore (s : State) (c : Nat) (a : LineAddr) : State := (s.wakeThread (2 * c) a 4).wakeThread (2 * c + 1) a 4

/-- A snoop has taken the copy that a thread monitors: a doorbell detection of rank 10, whose resolution wakes it with status 0
(R96, R97). -/
def State.snoopWake (s : State) (t : Nat) (a : LineAddr) : State :=
  match (s.thread t).wait with
  | .waitd l _ _ =>
    if l = a && !s.events.any (fun e => decide (e.kind = EventKind.wake t a)) then s.localEvent (.wake t a) 10 (dieOf t) (t % 40) else s
  | _ => s

/-- A snoop has taken a copy of the core. -/
def State.snoopWakes (s : State) (c : Nat) (a : LineAddr) : State := (s.snoopWake (2 * c) a).snoopWake (2 * c + 1) a

/-! ## Detected errors (R179) -/

/-- Counts a CE of the core's own structures in c.cacheerr: field [lo+15:lo], saturating (R181, R188). -/
def State.cacheErr (s : State) (c lo : Nat) : State :=
  s.modCore c (fun k => { k with cacheerr := putBits k.cacheerr (lo + 15) lo (satTo 0xffff (bits k.cacheerr (lo + 15) lo + 1)) })

/-- The thread identifier of thread 0 of a core. -/
def State.tid0 (s : State) (c : Nat) : Nat := (s.tidOf (2 * c)).toNat

/-- The check of an L2 line that is read, by an access, a scrub or a snoop, with its errors handled by R179: the state after, and the
line when it can be used. A line found lost leaves through the eviction buffer; while that is full an access waits, and a snoop, which
takes the line and tells the home itself, does not. -/
def State.l2Check (s : State) (c : Nat) (a : LineAddr) (snoop : Bool := false) : State × Option CLine :=
  match (s.core c).l2Find a with
  | none => (s, none)
  | some (w, v) =>
    let src := (2 * c) % 40
    let d := dieOfCore c
    let set := l2Set a
    -- an armed injection fires at the read: bits are flipped in the stored copy (R616)
    let (s, v) := match s.injectKind 1 (s.tid0 c) (some a) with
      | some k => if k ≤ 1 then
          let rank := if k = 0 ∨ v.st = CState.S ∨ v.st = CState.E then 8 else 4
          (s.fireInject rank d src, { v with bad := k + 1 }) else (s, v)
      | none => (s, v)
    if v.tagBad then (s.ueP d src 0x5054 v.realm.toNat [s.tid0 c, set, w], none)
    else match v.bad with
    | 0 => (s, some v)
    | 1 =>
      let v := { v with bad := 0 }
      (((s.modCore c (fun k => k.l2Mod a (fun _ => v))).cacheErr c 16).ce d src 0x3051 v.realm.toNat [s.tid0 c, set, w, 0], some v)
    | _ =>
      let out := match (s.core c).evictBad v with
        | some k => some (s.setCore c k)
        | none => if snoop then some ((s.modCore c (fun k => k.l2Drop a)).modDie d (fun x => x.sfRemove a (c % 20))) else none
      match out with
      | none => (s.modCore c (fun k => k.l2Mod a (fun _ => v)), none)
      | some s =>
        let s := if snoop then s else s.wakeCore c a
        if v.st = CState.M ∨ v.st = CState.O then
          (s.ueR d src 0x4051 0x5051 v.realm.toNat [s.tid0 c, set * 16 + w, lineP0 a, lineP1 a], none)
        else ((s.cacheErr c 32).ce d src 0x3052 v.realm.toNat [s.tid0 c, set, w, lineP0 a], none)

/-- The check of an eviction-buffer entry whose data is read, on its way out or by a snoop or an access of the core, with its errors
handled by R179: the state after, and the entry when its data can be used. -/
def State.ebCheck (s : State) (c : Nat) (a : LineAddr) : State × Option EbEntry :=
  match (s.core c).ebFind a with
  | none => (s, none)
  | some e =>
    let src := (2 * c) % 40
    let dirty := decide (e.st = .M ∨ e.st = .O)
    if e.gone || e.taken then (s, none)
    else
      let (s, e) := match s.injectKind 4 (s.tid0 c) (some a) with
        | some k => if k ≤ 1 then
            let rank := if k = 1 ∧ dirty then (if e.realm = 0 then 2 else 4) else 8
            (s.fireInject rank (dieOfCore c) src, { e with bad := k + 1 }) else (s, e)
        | none => (s, e)
      match e.bad with
      | 0 => (s, some e)
      | 1 =>
        let e := { e with bad := 0 }
        (((s.modCore c (fun k => k.ebMod a (fun _ => e))).cacheErr c 48).ce (dieOfCore c) src 0x3055 e.realm.toNat
          [s.tid0 c, e.idx, 0, lineP0 a], some e)
      | _ =>
        let s := s.modCore c (fun k => k.ebMod a (fun x => { x with bad := 0, gone := true, lost := dirty }))
        if dirty then (s.ueR (dieOfCore c) src 0x4052 0x5052 e.realm.toNat [s.tid0 c, e.idx, lineP0 a, lineP1 a], none)
        else ((s.cacheErr c 48).ce (dieOfCore c) src 0x3055 e.realm.toNat [s.tid0 c, e.idx, 1, lineP0 a], none)

/-- An L2 read of a line by an access: it counts as a use of the line's way. -/
def State.l2Read (s : State) (c : Nat) (a : LineAddr) : State × Option CLine :=
  let (s, v) := s.l2Check c a
  (if v.isSome then s.modCore c (fun k => k.l2Touch a) else s, v)

/-- The check of an L3 line that is read, by an access or a scrub, with its errors handled by R179. -/
def State.l3Check (s : State) (die : Nat) (a : LineAddr) : State × Option CLine :=
  match (s.die die).l3Find a with
  | none => (s, none)
  | some (w, v) =>
    let slice := l3Slice a
    let (s, v) := match s.injectKind 2 (die * 16 + slice) (some a) with
      | some k => if k ≤ 1 then
          let rank := if k = 0 ∨ v.st = CState.S ∨ v.st = CState.E then 8 else 4
          (s.fireInject rank die (40 + slice), { v with bad := k + 1 }) else (s, v)
      | none => (s, v)
    let last (s : State) (code : Nat) : State :=
      s.setReg (regL3last die) (BitVec.ofNat 64 (code * 2 ^ 48 + w * 2 ^ 34 + l3Set a * 2 ^ 22 + slice * 2 ^ 18))
    if v.tagBad then ((last s 0x5055).ueP die (40 + slice) 0x5055 v.realm.toNat [slice, l3Set a, w], none)
    else match v.bad with
    | 0 => (s, some v)
    | 1 =>
      let v := { v with bad := 0 }
      let s := ((last s 0x3053).modDie die (fun d => d.l3Mod a (fun _ => v))).addFld (regL3stat die) 31 0 1
      (s.ce die (40 + slice) 0x3053 v.realm.toNat [slice, l3Set a, w, 0], some v)
    | _ =>
      let drop (s : State) : State := s.modDie die (fun d => d.l3Drop a)
      -- the home is told by an eviction notice: at once for a dirty line, and for a clean one where no L2 of the die holds it
      let notice (s : State) (lost : Bool) : State :=
        let (tid, s) := s.takeTid (die * 20)
        let h := s.coreHdr (die * 20) (die * 40) a tid v.realm
        let keep := !((s.die die).otherHolders a 99).isEmpty
        let h := { h with src := agentId s.pkgNum die (32 + slice), rank := BitVec.ofNat 16 (s.pkgNum * 2048 + die * 128 + 0x70 + slice),
                          flags := { h.flags with lost := lost, keepS := lost && keep } }
        let e : EbEntry := { idx := 0, line := a, st := v.st, realm := v.realm, data := v.data, issued := true, tid := tid,
                             taken := true, gone := true, lost := lost }
        (s.modDie die (fun d => { d with wbs := d.wbs ++ [e] })).send { type := .evN, hdr := h }
      if v.st = CState.M ∨ v.st = CState.O then
        ((notice (drop (last s 0x4053)) true).ueR die (40 + slice) 0x4053 0x5053 v.realm.toNat
          [slice, l3Set a * 16 + w, lineP0 a, lineP1 a], none)
      else
        let s := (drop (last s 0x3054)).addFld (regL3stat die) 63 32 1
        let s := if ((s.die die).otherHolders a 99).isEmpty then notice s false else s
        (s.ce die (40 + slice) 0x3054 v.realm.toNat [slice, l3Set a, w, lineP0 a], none)

/-- An L3 read of a line by an access: a use of its way, and a hit (R655). -/
def State.l3Read (s : State) (die : Nat) (a : LineAddr) : State × Option CLine :=
  let (s, v) := s.l3Check die a
  match v with
  | none => (s, none)
  | some v =>
    let s := match (s.die die).l3Find a with
      | some (w, _) => s.modDie die (fun d => d.l3Use (l3Key a) w)
      | none => s
    (s.countUncore (slotL3 (die * 16 + l3Slice a) 0) 4 0x02 1 (some v.realm.toNat), some v)

/-! ## L3 victims and installs (R171 to R173) -/

/-- The agent of an L3 slice (R238). -/
def State.l3Agent (s : State) (die slice : Nat) : BitVec 16 := agentId s.pkgNum die (32 + slice)
/-- The rank of an L3 slice's own requests (R238). -/
def State.l3Rank (s : State) (die slice : Nat) : BitVec 16 := BitVec.ofNat 16 (s.pkgNum * 2048 + die * 128 + 0x70 + slice)

/-- A WbM or EvN of an L3 slice for a line that leaves it; none while no credit is held (R172, R241). -/
def State.l3Evict (s : State) (die : Nat) (v : CLine) : Option State :=
  let slice := l3Slice v.line
  let n := s.chanOf (lineBase v.line)
  let inL2 := !((s.die die).otherHolders v.line 99).isEmpty
  let dirty := decide (v.st = CState.M ∨ v.st = CState.O)
  if !dirty && inL2 then some s
  else if s.sourcesHeld || s.credits die n 1 = 0 then none
  else
    let (tid, s) := (s.useCredit die n 1).takeTid (die * 20)
    let h := s.coreHdr (die * 20) (die * 40) v.line tid v.realm
    let h := { h with src := s.l3Agent die slice, rank := s.l3Rank die slice, flags := { h.flags with keepS := dirty && inL2 } }
    let e : EbEntry := { idx := 0, line := v.line, st := v.st, realm := v.realm, data := v.data, issued := true, tid := tid }
    let s := s.modDie die (fun d => { d with wbs := d.wbs ++ [e] })
    some (if dirty then
        (s.countUncore (slotL3 (die * 16 + slice) 0) 4 0x04 1 (some v.realm.toNat)).send
          { type := .wbM, hdr := h, body := .line v.data }
      else s.send { type := .evN, hdr := h })

/-- The way of an L3 set in which a victim of realm `r` installs: free within its mask, else the least recently used (R173). -/
def State.l3Way (s : State) (die : Nat) (a : LineAddr) (r : Nat) : Option Nat :=
  let d := s.die die
  let mask := s.l3Mask r
  let ways := (upTo 16).filter (fun w => mask.testBit w)
  match ways.find? (fun w => (Tbl.find d.l3 (l3Key a * 16 + w)).isNone) with
  | some w => some w
  | none => (d.l3Lru (l3Key a)).reverse.find? (fun w => mask.testBit w)

/-- The slice installs a victim in its line's entry, or in a way of the realm's mask, whose own line leaves first (R171 to R173).
None while that line cannot leave. -/
def State.l3Install (s : State) (die : Nat) (v : CLine) : Option State :=
  let put (s : State) (w : Nat) : State :=
    (s.modDie die (fun d => { (d.l3Use (l3Key v.line) w) with l3 := Tbl.set d.l3 (l3Key v.line * 16 + w) v })).countUncore
      (slotL3 (die * 16 + l3Slice v.line) 0) 4 0x03 1 (some v.realm.toNat)
  match (s.die die).l3Find v.line with
  | some (w, _) => some (put s w)
  | none =>
    match s.l3Way die v.line v.realm.toNat with
    | none => none
    | some w => match Tbl.find (s.die die).l3 (l3Key v.line * 16 + w) with
      | none => some (put s w)
      | some old => match s.l3Evict die old with
        | none => none
        | some s => some (put s w)

/-! ## The capacity of the snoop filter (R233, R250) -/

/-- The copy of a line that a core of the die supplies to a snoop: from its L2, its eviction buffer, or an L1 that no L2 covers. -/
def Core.supply (c : Core) (a : LineAddr) : Option (CState × Line × Realm) :=
  match c.l2Find a with
  | some (_, v) => if v.frozen || v.bad ≥ 2 then none else some (v.st, v.data, v.realm)
  | none => match c.ebFind a with
    | some e => if e.bad ≥ 2 || e.taken || e.gone then none else some (e.st, e.data, e.realm)
    | none => match c.l1dFind a with
      | some (_, x) => if x.bad then none else some (.S, x.data, x.realm)
      | none => match c.l1iFind a with
        | some (_, x) => if x.bad then none else some (.S, x.data, x.realm)
        | none => none

/-- A snoop takes the core's copy away, wherever it is; an ISSUED eviction entry becomes WI, and its core stays listed until the
acknowledgement (R169, R246). -/
def State.takeCopy (s : State) (c : Nat) (a : LineAddr) : State :=
  let s := s.modCore c (fun k =>
    let eb := (k.eb.filter (fun e => e.line ≠ a || e.issued)).map (fun e => if e.line = a then { e with taken := true } else e)
    { (k.l2Drop a) with eb := eb })
  let s := if ((s.core c).ebFind a).isSome then s else s.modDie (dieOfCore c) (fun d => d.sfRemove a (c % 20))
  s.snoopWakes c a

def State.takeCopies (s : State) (die : Nat) (a : LineAddr) : List Nat → State
  | [] => s
  | o :: l => (s.takeCopy (die * 20 + o) a).takeCopies die a l

/-- An entry of the snoop filter is replaced: the copies of its cores are taken, and the owner's line, or one clean copy, goes the way
of a victim (R168, R250). False while that must wait. -/
def State.sfReplace (s : State) (die : Nat) (a : LineAddr) (e : SfEntry) : State × Bool :=
  let from' := match e.owner with
    | some o => some o
    | none => e.cores.find? (fun o => ((s.core (die * 20 + o)).supply a).isSome)
  match from' with
  | none => (s.takeCopies die a e.cores, true)
  | some o =>
    let s := if ((s.core (die * 20 + o)).l2Find a).isSome then (s.l2Check (die * 20 + o) a).1 else s
    match (s.core (die * 20 + o)).supply a with
    | none => (s, false)
    | some (st, d, realm) =>
      let v : CLine := { line := a, st := st, realm := realm, data := d }
      let s1 := (s.takeCopies die a e.cores).modDie die (fun x => x.sfDrop a)
      match if s.l3Available die realm.toNat then s1.l3Install die v else s1.l3Evict die v with
      | some s2 => (s2, true)
      | none => (s, false)

/-- The set of the line has room for its entry in the snoop filter, or the oldest entry that may be chosen is replaced: not one with
a request outstanding, nor one that an eviction buffer is about to release. Which one the rule leaves open (log entry 83). -/
def State.sfRoom (s : State) (die : Nat) (a : LineAddr) : State × Bool :=
  let d := s.die die
  let same := d.sfSame a
  if (d.sfFind a).isSome || decide (same.length < 16) then (s, true)
  else match same.reverse.find? (fun p => !p.2.busy &&
      p.2.cores.all (fun o => ((s.core (die * 20 + o)).ebFind (BitVec.ofNat 46 p.1)).isNone && !(s.core (die * 20 + o)).frozenAt (BitVec.ofNat 46 p.1))) with
    | none => (s, false)
    | some p => s.sfReplace die (BitVec.ofNat 46 p.1) p.2

end Sys2Proof.Machine
end

