-- ==== Sys2Proof/Machine/CoreMemory.lean ====
section
/-! DEFINITION. How a core obtains a line: from its L1D, its L2, its eviction buffer, another core of the die, the L3, or by a
request to agent h (R165, R169, R171, R250). A line that is not there yet answers none, and the access is tried again. -/
namespace Sys2Proof.Machine
open Sys2Proof

/-- A snoop that leaves the core a shared copy: M becomes O, E becomes S (R169, R246). -/
def shareState (st : CState) : CState := match st with
  | .M => .O
  | .E => .S
  | x => x

def Core.share (c : Core) (a : LineAddr) : Core :=
  (c.l2Mod a (fun v => { v with st := shareState v.st })).ebMod a (fun e => { e with st := shareState e.st })

/-- The L2 of a core is on: neither disabled nor flushing (R183). -/
def Core.l2On (c : Core) : Bool := !c.l2Dis && !c.l2Flushing

/-- What asks for a line. -/
inductive LineUse where
  | load | fetch | walk
  deriving DecidableEq, Repr

/-- An L1 takes the line. While the L2 is disabled its victim leaves the core as an L2 line would (R168, R184); none while that must
wait. -/
def State.l1Fill (s : State) (c : Nat) (a : LineAddr) (d : Line) (realm : Realm) (instr : Bool) : Option State :=
  let put (s : State) : State := s.modCore c (fun k => if instr then k.l1iFill a d realm else k.l1dFill a d realm)
  if (s.core c).l2On then some (put s)
  else match (s.core c).l1Victim a instr with
    | none => some (put s)
    | some x => match (s.core c).evict { line := x.line, st := .S, realm := x.realm, data := x.data } false with
      | none => none
      | some k => some (put ((s.setCore c k).wakeCore c x.line))

/-- Fills the core with a line in state `st`: the L2, or one L1 alone in S while the L2 is disabled (R184); none when the fill must
wait. No store and no fetch enters the L1D this way (R155). -/
def State.fillCore (s : State) (c : Nat) (a : LineAddr) (st : CState) (realm : Realm) (d : Line) (instr : Bool := false) : Option State :=
  if (s.core c).l2On then
    match (s.core c).l2Fill { line := a, st := st, realm := realm, data := d } with
    | none => none
    | some k =>
      -- a victim that a thread of the core monitors wakes it with status 4
      let gone := ((s.core c).l2.filter (fun p => (k.l2Find p.2.line).isNone)).map (fun p => p.2.line)
      let s := gone.foldl (fun s l => s.wakeCore c l) (s.setCore c k)
      some (s.modDie (dieOfCore c) (fun x => x.sfAdd a (c % 20) st))
  else (s.l1Fill c a d realm instr).map (fun s => s.modDie (dieOfCore c) (fun x => x.sfAdd a (c % 20) .S))

/-- A PENDING eviction of the line is cancelled: it returns to the L2 with its state and fill realm, its data checked as it leaves the
buffer (R169, R179). -/
def State.cancelEvict (s : State) (c : Nat) (a : LineAddr) : State × Option EbEntry :=
  let (s, e) := s.ebCheck c a
  match e with
  | none => (s, none)
  | some e => match (s.modCore c (fun k => k.ebDrop a)).fillCore c a e.st e.realm e.data with
    | some s' => (s', some e)
    | none => (s, none)

/-- The core (0 to 19) of the die that supplies a shared copy: the owner, else a sharer (R250). -/
def Die.supplier (_d : Die) (e : SfEntry) (core : Nat) : Option Nat :=
  match e.owner with
  | some o => if o = core then none else some o
  | none => (e.cores.filter (· ≠ core)).head?

/-- A core's copy is read, with its errors handled by R179. -/
def State.checkHolder (s : State) (c : Nat) (a : LineAddr) : State :=
  if ((s.core c).l2Find a).isSome then (s.l2Check c a).1 else (s.ebCheck c a).1

/-- The line from another core of the die: the owner keeps O or S (R250 rows SH and OW). -/
def State.copyFromCore (s : State) (c o : Nat) (a : LineAddr) (realm : Realm) (instr : Bool) : State × Option Line :=
  let die := dieOfCore c
  let s := s.checkHolder (die * 20 + o) a
  match (s.core (die * 20 + o)).supply a with
  | none => (s, none)
  | some (st, d, _) =>
    match s.fillCore c a .S realm d instr with
    | none => (s, none)
    | some s =>
      let s := s.modCore (die * 20 + o) (fun k => k.share a)
      let s := s.modDie die (fun x => match x.sfFind a with
        | some e => x.sfSet a { e with st := if st = .M ∨ st = .O then .O else .S,
                                       owner := if st = .M ∨ st = .O then some o else none }
        | none => x)
      (s, some d)

/-- The line from the die's L3: copied when clean there, moved when dirty (R171). Its fill realm in the L2 is that of the thread whose
access brings it in (R158). -/
def State.copyFromL3 (s : State) (c : Nat) (a : LineAddr) (own : Bool) (realm : Realm) (instr : Bool) : State × Option Line :=
  let die := dieOfCore c
  let (s, v) := s.l3Read die a
  match v with
  | none => (s, none)
  | some v =>
    if !(s.core c).l2On then
      -- the L1D takes a shared copy, and the L3 keeps the line (R184)
      match s.fillCore c a .S realm v.data instr with
      | none => (s, none)
      | some s => (s.modDie die (fun d => d.l3Mod a (fun x => { x with st := shareState x.st })), some v.data)
    else match s.fillCore c a v.st realm v.data with
    | none => (s, none)
    | some s => (if own ∨ v.st = CState.M ∨ v.st = CState.O then s.modDie die (fun d => d.l3Drop a) else s, some v.data)

/-- Event counts of an L3 lookup (R655). -/
def State.l3Lookup (s : State) (die : Nat) (a : LineAddr) (realm : Realm) : State :=
  s.countUncore (slotL3 (die * 16 + l3Slice a) 0) 4 0x01 1 (some realm.toNat)

/-- A single-bit error of the line's snoop-filter entry is corrected as the entry is used (R281). -/
def State.sfCorrect (s : State) (die : Nat) (a : LineAddr) (realm : Realm) : State :=
  match (s.die die).sfFind a with
  | some e => if e.bad = 1 then (s.modDie die (fun d => d.sfSet a { e with bad := 0 })).ce die 56 0x3070 realm.toNat ((s.die die).sfParams a) else s
  | none => s

/-- The line for a read of thread `t`, in its core's L2 (R250 column "Core read miss"). -/
def State.getShared (s : State) (t : Nat) (a : LineAddr) (realm : Realm) (use : LineUse := .load) : State × Option Line :=
  let c := coreOf t
  let instr := decide (use = .fetch)
  let die := dieOfCore c
  match (s.core c).txnFind a with
  | some x =>
    if x.sub && x.subData.isSome && decide (x.thread.val = threadIx t) && decide (use ≠ .walk) then
      -- subjunctive data is consumed only by the thread that asked, which waits for the confirmation to retire (R138, R265)
      (s.modCore c (fun k => k.txnMod x.tid (fun y => { y with consumer := some (y.consumer.getD (s.thread t).pc) })), none)
    else (s, if x.kind = .rdS ∨ x.kind = .rdX then x.data else none)
  | none =>
    let (s, v) := s.l2Read c a
    match v with
    | some v =>
      if v.st = CState.I then (s, none)
      else if (s.core c).l2On then (s, some v.data)
      -- a line still in a flushing L2 is flushed first (R183)
      else if v.frozen then (s, none)
      else (((s.core c).evict v false).elim s (fun k => (s.setCore c k).wakeCore c a), none)
    | none =>
      match (s.core c).ebFind a with
      | some e =>
        if e.issued || !(s.core c).l2On then (s, none)
        else
          let (s, r) := s.cancelEvict c a
          (s, r.map (fun e => e.data))
      | none =>
        let s := s.modThread t (fun y => { y with missL2 := true })
        match (s.die die).sfFind a with
        | some e =>
          if e.bad ≥ 2 then (s.ueP die 56 0x5073 realm.toNat ((s.die die).sfParams a), none)
          else
            let s := s.sfCorrect die a realm
            if e.busy then (s, none)
            else match (s.die die).supplier e (c % 20) with
              | some o => s.copyFromCore c o a realm instr
              | none => (s.sendLineReq t .rdS a .I realm instr, none)
        | none =>
          let (s, room) := s.sfRoom die a
          if !room then (s, none)
          else
            let s := s.l3Lookup die a realm
            if s.l3On die && ((s.die die).l3Find a).isSome then s.copyFromL3 c a false realm instr
            else (s.sendLineReq t .rdS a .I realm instr, none)

/-- The line for a load of thread `t`: from its L1D, with a parity error handled by R179, or else from the L2. -/
def State.loadLine (s : State) (t : Nat) (a : LineAddr) (realm : Realm) : State × Option Line :=
  let c := coreOf t
  match (s.core c).l1dFind a with
  | some (w, x) =>
    let (s, bad) := match s.injectKind 0 (s.tidOf t).toNat (some a) with
      | some k => if k ≤ 1 then (s.fireInject 8 (dieOf t) (t % 40), true) else (s, x.bad)
      | none => (s, x.bad)
    if bad then
      -- the line is invalidated and refetched from L2
      let s := (((s.modCore c (fun k => k.l1dDrop a)).cacheErr c 0).ce (dieOf t) (t % 40) 0x3050 realm.toNat
        [(s.tidOf t).toNat, 1, l1dSet a, w])
      s.getShared t a realm
    else
      (s.modCore c (fun k => k.l1dTouch (l1dSet a) w), some x.data)
  | none =>
    let s := s.modThread t (fun y => { y with missL1 := true })
    let (s, r) := s.getShared t a realm
    match r with
    | some d => if ((s.core c).l2Find a).isSome then (s.modCore c (fun k => k.l1dFill a d realm), some d) else (s, some d)
    | none => (s, none)

/-- Moves the line from another core of the die that holds it in E or M (SnpX on the die, R250). -/
def State.moveFromCore (s : State) (c o : Nat) (a : LineAddr) (realm : Realm) : State × Bool :=
  let die := dieOfCore c
  let s := s.checkHolder (die * 20 + o) a
  match (s.core (die * 20 + o)).supply a with
  | none => (s, false)
  | some (st, d, _) =>
    match (s.takeCopy (die * 20 + o) a).fillCore c a st realm d with
    | none => (s, false)
    | some s => (s, true)

/-- Ownership of a line in the core's L2: true once it is there in M or E; otherwise what can be done now is done, and the
request is sent when it is due (R163, R169, R250 column "Core ownership miss"). `zero`: for a ZERO.VA drain (R167). -/
def State.getOwned (s : State) (t : Nat) (a : LineAddr) (realm : Realm) (zero : Bool) : State × Bool :=
  let c := coreOf t
  let die := dieOfCore c
  if ((s.core c).txnFind a).isSome || !(s.core c).l2On then (s, false)
  else
    let (s, v) := s.l2Read c a
    match v with
    | some v =>
      if v.frozen then (s, false)
      else match v.st with
      | .M | .E => (s, true)
      | .I => (s, false)
      | st => (if (s.die die).sfBusy a then s else s.sendLineReq t .upg a st realm, false)
    | none =>
      match (s.core c).ebFind a with
      | some e =>
        if e.issued then (s, false)
        else
          let (s, r) := s.cancelEvict c a
          (match r with
          | some e => if e.st = CState.M ∨ e.st = CState.E then (s, true)
            else (if (s.die die).sfBusy a then s else s.sendLineReq t .upg a e.st realm, false)
          | none => (s, false))
      | none =>
        match (s.die die).sfFind a with
        | some e =>
          let s := s.sfCorrect die a realm
          if e.bad ≥ 2 then (s.ueP die 56 0x5073 realm.toNat ((s.die die).sfParams a), false)
          else if e.busy then (s, false)
          else match e.owner with
            | some o =>
              if e.st = CState.O then (s.sendLineReq t .upg a .I realm, false)
              else s.moveFromCore c o a realm
            | none => (s.sendLineReq t .upg a .I realm, false)
        | none =>
          let (s, room) := s.sfRoom die a
          if !room then (s, false)
          else
            let s := s.l3Lookup die a realm
            if s.l3On die && ((s.die die).l3Find a).isSome then
              let st := match (s.die die).l3Find a with
                | some (_, x) => x.st
                | none => CState.I
              let (s, r) := s.copyFromL3 c a true realm false
              match r with
              | none => (s, false)
              | some _ => if st = CState.M ∨ st = CState.E then (s, true) else (s.sendLineReq t .upg a st realm, false)
            else (s.sendLineReq t (if zero then .rdZ else .rdX) a .I realm, false)

end Sys2Proof.Machine
end

