-- ==== Sys2Proof/Machine/Translate.lean ====
section
/-! DEFINITION. Address translation (06_address_translation.md): regions, table walks, TLBs, rights, A and D, invalidation. -/
namespace Sys2Proof.Machine
open Sys2Proof

/-- The record of a parity error on an entry of core `c`: structure 0 ITLB, 1 DTLB, 2 L2 TLB, 3 walk cache; its realm is that of the
thread it names, thread 0 of the core (R227). -/
def State.tlbParity (s : State) (c st set way : Nat) : State :=
  s.ce (dieOfCore c) ((2 * c) % 40) 0x3060 (s.thread (2 * c)).realm.toNat [s.tid0 c, st, set, way]

/-- A parity error on an entry invalidates it (R219). -/
def State.dropBadTlb (s : State) (t : Nat) (va : BitVec 57) : State :=
  let c := coreOf t
  let th := s.thread t
  let k := s.core c
  let report (s : State) (st : Nat) (set : Tlb → Nat) (l : List Tlb) : State := match l.find? (fun e => e.bad) with
    | some e => s.tlbParity c st (set e) e.way
    | none => s
  let s := report (report (report s 0 (fun _ => 0) (tlbHits k.itlb th va)) 1 (fun _ => 0) (tlbHits k.dtlb th va)) 2 Tlb.set2
    (tlbHits k.l2tlb th va)
  let clean (l : List Tlb) : List Tlb := l.filter (fun e => !(e.bad && e.mine th.realm th.regime th.asn && e.covers va))
  s.modCore c (fun k => { k with itlb := clean k.itlb, dtlb := clean k.dtlb, l2tlb := clean k.l2tlb })

/-! ## Results -/

/-- The outcome of a translation: an address and memory type, a walk-fault code, a conflict, or an access that must be tried
again once something it asked for has arrived. -/
inductive Tr where
  | ok (pa : Nat) (mt : Nat)
  /-- `mt`: the memory type of the leaf, where the walk reached one -/
  | fault (sub : Nat) (mt : Option Nat)
  | conflict
  | wait
  deriving DecidableEq, Repr

/-- A question to the page-ownership cache of the page's home package (R212, R271). -/
def State.askOwner (s : State) (t page : Nat) (realm : Realm) : State :=
  let c := coreOf t
  let (tid, s) := s.takeTid c
  let h := s.coreHdr c t (lineOf (page * 4096)) tid realm
  let h := { h with dst := agentId (page / 2 ^ 35) 12 97 }
  (s.sendReq t { type := .ownChk, hdr := h }).modThread t (fun y => { y with own := y.own ++ [{ page := page, tid := tid, answer := none }] })

/-- The ownership check of the 4 KiB page of a leaf's output (R212, R667): answered, or asked of the page-ownership cache of
the page's home package. `none`: the answer has not arrived. -/
def State.checkOwner (s : State) (t : Nat) (pa : Nat) : State × Option Bool :=
  let th := s.thread t
  if s.region pa = .device then (s, some (decide (th.realm = 0)))
  else
    let page := pa / 4096
    match th.own.find? (fun q => decide (q.page = page)) with
    | some q => (s, q.answer)
    | none => (s.askOwner t page th.realm, none)

/-! ## The walk (R211 to R216) -/

/-- The cacheable read of a table entry: through the L2, or the L1D while the L2 is disabled (R184, R211). -/
def State.readEntry (s : State) (t ea : Nat) : State × Option Word :=
  let c := coreOf t
  let word (l : Line) : Word := BitVec.ofNat 64 (lineNat l (ea % 64) 8)
  if (s.core c).l2On then
    let (s, r) := s.getShared t (lineOf ea) (s.thread t).realm .walk
    (s, r.map word)
  else
    let (s, r) := s.loadLine t (lineOf ea) (s.thread t).realm
    (s, r.map word)

/-- The walk's result for a leaf at level `lvl`, read at `ea`: R205, R212, R207, A and D, conflict, install. -/
def State.walkLeaf (s : State) (t : Nat) (va : BitVec 57) (k : AccKind) (lvl ea : Nat) (e : Word) : State × Tr :=
  let th := s.thread t
  let c := coreOf t
  let pa := (pteAddr e + va.toNat % 2 ^ (12 + 9 * lvl)) % 2 ^ 52
  match s.checkOutput e pa with
  | some r => (s, .fault (wfCode r lvl) (some (pteMT e)))
  | none =>
    let (s, own) := s.checkOwner t pa
    match own with
    | none => (s, .wait)
    | some false => (s, .fault (wfCode wfOwner lvl) (some (pteMT e)))
    | some true =>
      match checkRights e k th.level th.sxg th.sag with
      | some r => (s, .fault (wfCode r lvl) (some (pteMT e)))
      | none =>
        let need := putBits e 7 7 1
        let need := if k = .store then putBits need 8 8 1 else need
        if need ≠ e then
          (s.modThread t (fun y => { y with ad := some { ea := ea, va := va, old := e, new := need } }), .wait)
        else
          let n := tlbOfLeaf th va lvl e
          if (s.core c).l2tlb.any (fun x => x.overlaps n && !(x.agrees n)) then
            (s.modCore c (fun q => q.dropVa th va), .conflict)
          else
            ((s.countEv t 0x0E false).modCore c (fun q => (q.l1tlbPut k (n.smallAt va)).l2tlbPut n), .ok pa (pteMT e))

/-- The walk from level `lvl - 1` with the table at `table` (R211). -/
def State.walk (s : State) (t : Nat) (va : BitVec 57) (k : AccKind) (table : Nat) : Nat → State × Tr
  | 0 => (s, .fault (wfCode wfReserved 0) none)
  | lvl + 1 =>
    let ea := table + va.toNat / 2 ^ (12 + 9 * lvl) % 512 * 8
    let th := s.thread t
    match s.region ea with
    | .device => (s, .fault (wfCode wfTableDevice lvl) none)
    | .absent => (s, .fault (wfCode wfTableAbsent lvl) none)
    | .dram =>
      if th.refused = some (lineOf ea) then
        (s.modThread t (fun y => { y with refused := none }), .fault (wfCode wfTableOwner lvl) none)
      else
        let (s, r) := s.readEntry t ea
        match r with
        | none => (s, .wait)
        | some e =>
          if !pteV e then (s, .fault (wfCode wfInvalid lvl) none)
          else match checkReserved e lvl with
            | some r => (s, .fault (wfCode r lvl) none)
            | none =>
              if pteL e then s.walkLeaf t va k lvl ea e
              else
                (s.modCore (coreOf t) (fun q => q.walkPut (walkEntryOf th va lvl e))).walk t va k (pteAddr e) lvl

/-- Starts the walk at the walk-cache entry found, or at c.ttbase.BASE. A parity error on the entry invalidates it (R219). -/
def State.startWalk (s : State) (t : Nat) (va : BitVec 57) (k : AccKind) : State × Tr :=
  let c := coreOf t
  let th := s.thread t
  let s := s.modThread t (fun y => { y with missTlb := true })
  match (s.core c).walkHit th va with
  | some w =>
    if w.bad then
      let s := (s.modCore c (fun q => { q with walks := q.walks.erase w })).tlbParity c 3 w.set w.way
      s.walk t va k (bits th.ttbase 47 8 * 4096) 5
    else s.walk t va k w.next.toNat w.level
  | none => s.walk t va k (bits th.ttbase 47 8 * 4096) 5

/-! ## Translation -/

/-- R199: without tables. -/
def State.translateOff (s : State) (t : Nat) (va : Word) : Tr :=
  let pa := va.toNat % 2 ^ 52
  if (s.thread t).level = 0 then .fault (wfCode wfTranslationOff 7) none
  else if va.toNat / 2 ^ 52 ≠ 0 then .fault (wfCode wfNoncanonical 7) none
  else match s.region pa with
    | .absent => .fault (wfCode wfOutAbsent 7) none
    | .device => .ok pa 2
    | .dram => .ok pa 1

/-- What a TLB entry gives an access: its rights checked (R207), A and D as the walk left them. `none`: a store meets D = 0, and
the walk decides. -/
def tlbUse (th : Thread) (k : AccKind) (va : BitVec 57) (e : Tlb) : Option Tr :=
  match checkRights e.leaf k th.level th.sxg th.sag with
  | some r => some (.fault (wfCode r e.level) (some (pteMT e.leaf)))
  | none => if k = .store ∧ ¬ pteD e.leaf then none else some (.ok (e.out va) (pteMT e.leaf))

/-- A hit in the L2 TLB: the output's class and the owner of its 4 KiB page are checked before the L1 TLB takes it (R205, R212). -/
def State.fromL2Tlb (s : State) (t : Nat) (va : BitVec 57) (k : AccKind) (e : Tlb) : State × Tr :=
  let th := s.thread t
  let pa := e.out va
  match s.checkOutput e.leaf pa with
  | some r => (s, .fault (wfCode r e.level) (some (pteMT e.leaf)))
  | none =>
    let (s, own) := s.checkOwner t pa
    match own with
    | none => (s, .wait)
    | some false => (s, .fault (wfCode wfOwner e.level) (some (pteMT e.leaf)))
    | some true =>
      match tlbUse th k va e with
      | none => s.startWalk t va k
      | some (.ok pa mt) => (s.modCore (coreOf t) (fun q => q.l1tlbPut k (e.smallAt va)), .ok pa mt)
      | some r => (s, r)

/-- Translation with tables: the L1 TLB, the L2 TLB, the walk (R211, R217, R225). -/
def State.translateOn (s : State) (t : Nat) (va : BitVec 57) (k : AccKind) : State × Tr :=
  let c := coreOf t
  let th := s.thread t
  let s := s.dropBadTlb t va
  let first := tlbHits (if k = .fetch then (s.core c).itlb else (s.core c).dtlb) th va
  let second := tlbHits (s.core c).l2tlb th va
  if first.length ≥ 2 ∨ (first.isEmpty ∧ second.length ≥ 2) then (s.modCore c (fun q => q.dropVa th va), .conflict)
  else match first with
    | e :: _ => match tlbUse th k va e with
      | some r => (s, r)
      | none => s.startWalk t va k
    | [] => match second with
      | e :: _ => s.fromL2Tlb t va k e
      | [] => s.startWalk t va k

/-- The translation of one address for one access of a thread (R195 to R213). A thread whose walk waits for an A or D update
waits for it. -/
def State.translate (s : State) (t : Nat) (va : Word) (k : AccKind) : State × Tr :=
  let th := s.thread t
  if th.ad.isSome then (s, .wait)
  else if bit th.ttbase 0 then
    if canonical va then s.translateOn t (BitVec.ofNat 57 va.toNat) k else (s, .fault (wfCode wfNoncanonical 7) none)
  else (s, s.translateOff t va)

/-- The instruction's access was refused by the home: the entries that map the page leave the core's structures, and the
exception names reason OWNER with level field 7 (R455). -/
def State.refusedFault (s : State) (t : Nat) (va : Word) (code : Nat) : State × Exc :=
  ((s.modThread t (fun y => { y with refused := none })).modCore (coreOf t) (fun k =>
      k.dropVa (s.thread t) (BitVec.ofNat 57 va.toNat)),
    { code := code, sub := wfCode wfOwner 7, eaddr := va })

/-! ## Invalidation (R220) -/

/-- A TLBI removes a leaf entry: an H TLBI acts on both regimes of realm 0. -/
def tlbiRemoves (a : TlbiArgs) (e : Tlb) : Bool :=
  let scope := natBits a.control.toNat 17 16
  let asn := BitVec.ofNat 16 (natBits a.control.toNat 15 0)
  -- a 4 KiB translation goes with the leaf it came from, whichever of its addresses is named
  let inRange := decide (e.va.toNat / 2 ^ e.leafLog = a.va.toNat * 4096 / 2 ^ e.leafLog)
  let mineRegime := decide (e.realm = a.realm) && (a.h || !e.hreg)
  mineRegime && (match scope with
    | 0 => inRange && (decide (e.asn = asn) || e.global)
    | 1 => inRange
    | 2 => decide (e.asn = asn) && !e.global
    | _ => true)

/-- A TLBI removes a walk-cache entry: only when LEAF is 0. -/
def tlbiRemovesWalk (a : TlbiArgs) (w : WalkEntry) : Bool :=
  let scope := natBits a.control.toNat 17 16
  let asn := BitVec.ofNat 16 (natBits a.control.toNat 15 0)
  let onPath := decide (w.va.toNat / 2 ^ (12 + 9 * w.level) = a.va.toNat * 4096 / 2 ^ (12 + 9 * w.level))
  !(a.control.getLsbD 18) && decide (w.realm = a.realm) && (a.h || !w.hreg) && (match scope with
    | 0 => onPath && decide (w.asn = asn)
    | 1 => onPath
    | 2 => decide (w.asn = asn)
    | _ => true)

/-- The core's translation structures after a TLBI. -/
def Core.tlbi (c : Core) (a : TlbiArgs) : Core :=
  let keep (e : Tlb) : Bool := !(tlbiRemoves a e)
  { c with itlb := c.itlb.filter keep, dtlb := c.dtlb.filter keep, l2tlb := c.l2tlb.filter keep,
           walks := c.walks.filter (fun w => !(tlbiRemovesWalk a w)) }

end Sys2Proof.Machine
end

