-- ==== Sys2Proof/Machine/Run.lean ====
section
/-! DEFINITION. What every instruction of a thread does before and after its own meaning: it starts at an instruction boundary,
is fetched, and retires (03_wemir_instruction_set.md R109, R112; 04_core_pipeline.md R118, R142 to R144). -/
namespace Sys2Proof.Machine
open Sys2Proof

/-- The thread's entries of the buffer. -/
def State.mbOf (s : State) (t : Nat) : List MbEntry := (s.core (coreOf t)).mb.filter (fun e => e.thread.val = threadIx t)

/-- A device store of the thread has not been performed yet. -/
def State.devicePending (s : State) (t : Nat) : Bool :=
  s.sent.any (fun m => decide (m.type = .regWrite) && decide (m.hdr.rank = s.tidOf t))

/-- Accesses that the thread made in the realm it left are not all performed: a realm exit orders them before what H does, as a FENCE of
all four bits would (R116). -/
def State.exitFenced (s : State) (t : Nat) : Bool := (s.thread t).exitFence && (!(s.mbOf t).isEmpty || s.devicePending t)

/-- The thread may start its next instruction: the package runs, the core is not fenced, nothing is awaited, no marked instruction
waits for its retry, and what a realm exit orders first is done (R116, R145, R469, R557). -/
def State.canStart (s : State) (t : Nat) : Bool :=
  s.running && s.domainOpen (coreOf t / 4) && !(s.core (coreOf t)).fenced && decide ((s.thread t).wait = .ready) &&
    (s.thread t).residue.isNone && !s.exitFenced t && decide ((s.thread (siblingOf t)).exitDue ≠ some 5)

/-- The line of a fetch from cacheable memory: in the L1I, with a parity error handled by R179, or else from the L2. -/
def State.fetchLine (s : State) (t : Nat) (a : LineAddr) : State × Bool :=
  let c := coreOf t
  let realm := (s.thread t).realm
  let refill (s : State) : State × Bool :=
    let (s, r) := s.getShared t a realm .fetch
    match r with
    | some d => (if ((s.core c).l2Find a).isSome then s.modCore c (fun k => k.l1iFill a d realm) else s, true)
    | none => (s, false)
  match (s.core c).l1iFind a with
  | some (w, x) =>
    if x.bad then
      refill (((s.modCore c (fun k => k.l1iDrop a)).cacheErr c 0).ce (dieOf t) (t % 40) 0x3050 realm.toNat
        [(s.tidOf t).toNat, 0, l1iSet a, w])
    else (s.modCore c (fun k => k.l1iTouch (l1iSet a) w), true)
  | none => refill s

/-- The fetch of the instruction at the pc: true when it may go on (R195 to R213). A refusal of the fetched line by its home is
a fetch fault with reason OWNER (R455). -/
def State.fetch (s : State) (t : Nat) : State × Bool :=
  let th := s.thread t
  let va := wordOfPc th.pc
  let (s, r) := s.translate t va .fetch
  match r with
  | .wait => (s, false)
  | .fault sub _ => (s.raise t { code := exFetchFault, sub := sub, eaddr := va }, false)
  | .conflict => (s.raise t { code := exConflict, eaddr := va }, false)
  | .ok pa mt =>
    if mt ≠ 0 then (s, true)
    else if th.refused = some (lineOf pa) then
      let (s, e) := s.refusedFault t va exFetchFault
      (s.raise t e, false)
    else s.fetchLine t (lineOf pa)

/-- The instruction meets an injected residue mismatch in its unit (R615, R616): it is marked and waits for its retry (R143). The
mismatch falls in one unit that the instruction uses: a load's data path, a store's, an atomic's or a vector access's address generation
(log entry 85). An execution that is a retry meets none (R144). -/
def State.residueMark (s : State) (t : Nat) (unit : Option Nat) : State × Bool :=
  match (if (s.thread t).retried then none else unit) with
  | none => (s, true)
  | some u =>
    match s.injectKind 5 (s.tidOf t).toNat none with
    | some k =>
      if k ≤ 1 then
        let rank := if k = 0 then 8 else if (s.thread t).realm = 0 ∨ (s.thread (siblingOf t)).realm = 0 then 2 else 4
        ((s.fireInject rank (dieOf t) (t % 40)).modThread t (fun y => { y with residue := some (u, k = 1) }), false)
      else (s, true)
    | none => (s, true)

/-- An instruction of thread `t` starts: false when it cannot, or when an interrupt or a fetch fault is taken in its place.
`unit` is the residue-checked unit it uses (R142). -/
def State.startInstr (s : State) (t : Nat) (unit : Option Nat) : State × Bool :=
  if !s.canStart t then (s, false)
  -- a marked instruction whose retry met no mismatch retires before an interrupt is taken (R144)
  else match if (s.thread t).retried then none else (s.thread t).takeable with
    | some (toH, cls) => (s.takeInterrupt t toH cls, false)
    | none =>
      match s.fetch t with
      | (s, false) => (s, false)
      | (s, true) => s.residueMark t unit

/-- The meaning `f` of an instruction of thread `t`, run when the thread can start it. A disabled core or a fenced die has no thread to
run one (R11, R541): nothing happens (log entry 41). -/
def onThread (s : State) (t : Nat) (unit : Option Nat) (f : State → State) : Host.Outcome State Fault Refusal :=
  if s.threadExists t then
    match s.startInstr t unit with
    | (s', true) => .next (f s')
    | (s', false) => .next s'
  else .next s

/-- The instruction retires and execution goes on at `pc`, in a delay slot when `slot` names the address after it (R66, R113). -/
def State.retireTo (s : State) (t : Nat) (pc : BitVec 57) (slot : Option (BitVec 57)) : State :=
  (s.countEv t 0x03).modThread t (fun y => { y with pc := pc, slot := slot, missL1 := false, missL2 := false, missTlb := false,
                                                    drainWanted := false, refused := none, own := [], retried := false,
                                                    exitFence := false })

/-- The address after the instruction at the pc: pc + 4, or the transfer's next address after an executing slot (R66). -/
def Thread.nextPc (t : Thread) : BitVec 57 := t.slot.getD (t.pc + 4)

/-- The instruction retires in sequence. -/
def State.retire (s : State) (t : Nat) : State := s.retireTo t (s.thread t).nextPc none

/-- The instruction writes its thread's registers and retires. -/
def State.finish (s : State) (t : Nat) (f : Thread → Thread) : State := (s.modThread t f).retire t

/-- The instruction's address, as c.eaddr receives it (R108). -/
def State.instrAddr (s : State) (t : Nat) : Word := wordOfPc (s.thread t).pc

def State.illegal (s : State) (t : Nat) : State := s.raise t { code := exIllegal, eaddr := s.instrAddr t }
def State.privileged (s : State) (t : Nat) : State := s.raise t { code := exPrivileged, eaddr := s.instrAddr t }
def State.slotFault (s : State) (t : Nat) : State := s.raise t { code := exSlot, eaddr := s.instrAddr t }

/-- The thread writes rd and retires, or raises ILLEGAL where there is no result (R60). -/
def State.writeRd (s : State) (t : Nat) (rd : BitVec 5) (r : Option Word) : State :=
  match r with
  | some w => s.finish t (fun y => y.setGpr rd w)
  | none => s.illegal t

end Sys2Proof.Machine
end

