-- ==== Sys2Proof/Machine/DataPath.lean ====
section
/-! DEFINITION. The data accesses of a thread: translation of each piece, alignment and memory-type rules, the merging buffer,
and the messages of uncached and device accesses (03_wemir_instruction_set.md R71 to R82, 05_core_caches.md R160 to R167). -/
namespace Sys2Proof.Machine
open Sys2Proof

/-! ## Pieces of an access -/

/-- One part of an access, within one line: its address and physical address, its length, its memory type (R204). -/
structure Piece where
  va : Word
  pa : Nat
  len : Nat
  mt : Nat
  deriving DecidableEq, Repr

def Piece.line (p : Piece) : LineAddr := lineOf p.pa
def Piece.off (p : Piece) : Nat := p.pa % 64

/-- What the checks of an access give. -/
inductive Acc where
  | ok (ps : List Piece)
  | exc (e : Exc)
  | wait
  deriving DecidableEq, Repr

/-- LOAD_FAULT or STORE_FAULT (R208). -/
def faultCode (k : AccKind) : Nat := if k = .store then exStoreFault else exLoadFault

/-- How an access treats alignment and memory type. -/
inductive AccForm where
  /-- a plain load or store: unaligned only in cacheable memory (R73) -/
  | plain
  /-- an acquire load, a release store: always naturally aligned (R73) -/
  | aligned
  /-- an atomic: naturally aligned, and not in device memory (R73, R77) -/
  | atomic
  /-- a gathered or scattered element: naturally aligned, in cacheable memory only (R81) -/
  | gather
  /-- VLD, VST and ZERO.VA: anywhere in cacheable memory, and nowhere else (R81, R92) -/
  | vector
  /-- WAITD: in any memory, and a line that its home refuses is no fault (R96) -/
  | watch
  deriving DecidableEq, Repr

/-- The form must be naturally aligned in every memory type. -/
def AccForm.strict (f : AccForm) : Bool := decide (f = .aligned ∨ f = .atomic ∨ f = .gather)

/-- The exception that the memory type `mt` gives an access of the form (R73, R77, R81, R92). -/
def AccForm.typeExc (f : AccForm) (aligned : Bool) (mt : Nat) : Option Nat := match f with
  | .plain => if mt ≠ 0 && !aligned then some exDataAlign else none
  | .atomic => if mt = 2 then some exMemtype else none
  | .gather | .vector => if mt ≠ 0 then some exMemtype else none
  | .aligned | .watch => none

/-- The order of R112 among the exceptions of a data access. -/
def excOrder (e : Exc) : Nat :=
  if e.code = exDataAlign then 7 else if e.code = exMemtype then 8 else if e.code = exConflict then 10 else 9

/-- The exception to take: the lowest of R112, of the lowest element. -/
def pickExc : List Exc → Option Exc
  | [] => none
  | e :: l => match pickExc l with
    | some e' => if excOrder e' < excOrder e then some e' else some e
    | none => some e

/-- One piece translated, `form` its rules. DATA_ALIGN and MEMTYPE come before a fault of the translation, where its leaf names the
memory type (R112). A refusal of the line by its home is a fault (R455). -/
def State.onePiece (s : State) (t : Nat) (va : Word) (len : Nat) (k : AccKind) (form : AccForm) (aligned : Bool) : State × Acc :=
  let code := faultCode k
  let (s, r) := s.translate t va k
  match r with
  | .wait => (s, .wait)
  | .fault sub mt => (s, .exc (match mt.bind (form.typeExc aligned) with
    | some x => { code := x, eaddr := va }
    | none => { code := code, sub := sub, eaddr := va }))
  | .conflict => (s, .exc { code := exConflict, eaddr := va })
  | .ok pa mt =>
    match form.typeExc aligned mt with
    | some x => (s, .exc { code := x, eaddr := va })
    | none =>
      if form ≠ .watch ∧ (s.thread t).refused = some (lineOf pa) then
        let (s, e) := s.refusedFault t va code
        (s, .exc e)
      else (s, .ok [{ va := va, pa := pa, len := len, mt := mt }])

/-- An access of `n` bytes: one piece, or two where it crosses a line (R73). The exceptions of both are weighed (R112); a conflict has
removed the entries that gave it, so it is raised while the other piece still waits. -/
def State.pieces (s : State) (t : Nat) (va : Word) (n : Nat) (k : AccKind) (form : AccForm) : State × Acc :=
  let isAligned := decide (va.toNat % n = 0)
  if form.strict && !isAligned then (s, .exc { code := exDataAlign, eaddr := va })
  else
    let first := if n ≤ 64 - va.toNat % 64 then n else 64 - va.toNat % 64
    let (s, r) := s.onePiece t va first k form isAligned
    if first = n then (s, r)
    else match r with
    | .wait => (s, .wait)
    | .ok ps =>
      let (s, r2) := s.onePiece t (va + BitVec.ofNat 64 first) (n - first) k form isAligned
      (match r2 with
      | .ok qs => (s, .ok (ps ++ qs))
      | x => (s, x))
    | .exc e =>
      let (s2, r2) := s.onePiece t (va + BitVec.ofNat 64 first) (n - first) k form isAligned
      match r2 with
      | .ok _ => (s2, .exc e)
      | .exc e2 => (s2, .exc (if excOrder e2 < excOrder e then e2 else e))
      | .wait => if e.code = exConflict then (s, .exc e) else (s2, .wait)

/-! ## Merging buffer (R160 to R167) -/

/-- A parity error on an entry: it is discarded, the later entries of its thread never drain, and the error is a UE-R of the
allocating thread's realm (R179). -/
def State.mbParity (s : State) (c : Nat) (e : MbEntry) : State :=
  let t := 2 * c + e.thread.val
  let ix := (s.core c).mb.findIdx (fun x => x = e)
  let s := s.modCore c (fun k => { k with mb := k.mb.take ix ++ (k.mb.drop (ix + 1)).filter (fun x => x.thread ≠ e.thread) })
  s.ueR (dieOfCore c) (t % 40) 0x4050 0x5050 e.realm.toNat [(s.tidOf t).toNat, ix, lineP0 e.line, lineP1 e.line]

/-- The entry read meets a latched or an injected parity error (R615). -/
def State.mbCheck (s : State) (c : Nat) (e : MbEntry) : State × Bool :=
  let t := 2 * c + e.thread.val
  match s.injectKind 3 (s.tidOf t).toNat (some e.line) with
  | some k => if k ≤ 1 then ((s.fireInject (if e.realm = 0 then 2 else 4) (dieOfCore c) (t % 40)).mbParity c e, false)
              else if e.bad then (s.mbParity c e, false) else (s, true)
  | none => if e.bad then (s.mbParity c e, false) else (s, true)

/-- The bytes of a line that the thread's entries supply, the youngest last: mask and data (R165). -/
def mbForward (l : List MbEntry) (a : LineAddr) : BitVec 64 × Line :=
  (l.filter (fun e => e.line = a)).foldl (fun (m, d) e => (m ||| e.mask, mergeLine d e.data e.mask)) (0, 0)

/-- The thread is solo (R140). -/
def State.solo (s : State) (t : Nat) : Bool :=
  let sib := s.thread (siblingOf t)
  (s.core (coreOf t)).fenced || !(s.threadExists (siblingOf t)) || (match sib.wait with
    | .wfi => true
    | .waitd _ _ _ => true
    | .stopped => true
    | _ => false)

/-- A new entry may be allocated for the thread (R164). -/
def State.mbRoom (s : State) (t : Nat) : Bool :=
  decide ((s.core (coreOf t)).mb.length < 16) && (s.solo t || decide ((s.mbOf t).length < 12))

/-- The thread of its core as an entry holds it. -/
def mbThread (t : Nat) : Fin 2 := if threadIx t = 0 then 0 else 1

/-- A retired store enters the buffer: into an open entry of its thread for the line, or a new one; none when it must wait
(R161, R164). `closed`: a release store, which never merges (R162). -/
def State.mbStore (s : State) (t : Nat) (a : LineAddr) (data : Line) (m : BitVec 64) (uncached closed zero : Bool) : Option State :=
  let c := coreOf t
  let open? (e : MbEntry) : Bool := decide (e.thread.val = threadIx t) && decide (e.line = a) && !e.closed && e.uncached == uncached
  if !closed && (s.core c).mb.any open? then
    some (s.modCore c (fun k => { k with mb := k.mb.map (fun e =>
      if open? e then { e with data := mergeLine e.data data m, mask := e.mask ||| m, lastStore := s.clause } else e) }))
  else if s.mbRoom t then
    let e : MbEntry := { line := a, data := mergeLine 0 data m, mask := m, thread := mbThread t, realm := (s.thread t).realm,
                         closed := closed, uncached := uncached, zero := zero, lastStore := s.clause }
    some (s.modCore c (fun k => { k with mb := k.mb ++ [e] }))
  else none

/-- The pieces of a store enter the buffer in order, all or none. `v` holds the bytes of the access. -/
def State.mbStorePieces (s : State) (t : Nat) (v : Nat) (closed : Bool) : List Piece → Option State
  | [] => some s
  | p :: ps =>
    match s.mbStore t p.line (putLine 0 p.off p.len v) (byteMask p.off p.len) (p.mt = 1) closed false with
    | none => none
    | some s => s.mbStorePieces t (v / 256 ^ p.len) closed ps

/-! ## Reading pieces of cacheable memory -/

/-- The bytes of one piece: from the thread's entries of the merging buffer, and the rest from the caches (R165). -/
def State.readPiece (s : State) (t : Nat) (p : Piece) : State × Option Nat :=
  match (s.mbOf t).find? (fun e => e.line = p.line && (e.bad || (s.injectKind 3 (s.tidOf t).toNat (some e.line)).isSome)) with
  | some e => ((s.mbCheck (coreOf t) e).1, none)
  | none =>
    let (m, d) := mbForward (s.mbOf t) p.line
    let want := byteMask p.off p.len
    if want &&& ~~~m = 0 then (s, some (lineNat d p.off p.len))
    else
      let (s, r) := s.loadLine t p.line (s.thread t).realm
      (s, r.map (fun l => lineNat (mergeLine l d m) p.off p.len))

/-- The bytes of the pieces, the first lowest. -/
def State.readPieces (s : State) (t : Nat) : List Piece → State × Option Nat
  | [] => (s, some 0)
  | p :: ps =>
    let (s, r) := s.readPiece t p
    match r with
    | none => (s, none)
    | some v =>
      let (s, r2) := s.readPieces t ps
      (s, r2.map (fun w => v + w * 256 ^ p.len))

/-! ## Retirement of memory instructions (R651) -/

/-- Counts a retiring load or store. -/
def State.countMem (s : State) (t : Nat) (isLoad isStore : Bool) : State :=
  let th := s.thread t
  let s := if isLoad then s.countEv t 0x07 else s
  let s := if isStore then s.countEv t 0x08 else s
  let s := if isLoad && th.missL1 then s.countEv t 0x09 else s
  let s := if th.missL2 then s.countEv t 0x0A else s
  if th.missTlb then s.countEv t 0x0D else s

/-- A load that has its value retires. -/
def State.finishLoad (s : State) (t : Nat) (f : Thread → Thread) : State := (s.countMem t true false).finish t f
/-- A store that has left its thread retires. -/
def State.finishStore (s : State) (t : Nat) : State := (s.countMem t false true).retire t

/-! ## Accesses beyond the caches -/

/-- DRAM controller `n` of package `p` (R238). -/
def dramAgentId (p n : Nat) : BitVec 16 := agentId p 12 (16 + n)

/-- The destination of an uncached access: DRAM controller h when the line's home is this package, or else the proxy, which
forwards it (R239, R241, log entry 13). -/
def State.ucHdr (s : State) (t : Nat) (a : LineAddr) (tid : BitVec 12) (realm : Realm) : Hdr :=
  let h := s.coreHdr (coreOf t) t a tid realm
  if linePkg a = s.pkgNum then { h with dst := dramAgentId s.pkgNum (s.chanOf (lineBase a)) } else h

/-- Sends a request of the thread and makes it wait for the answer; nothing changes while no credit is held (R241). -/
def State.sendAndWait (s : State) (t : Nat) (ty : MsgType) (hdr : BitVec 12 → State → Hdr) (b : Body) (d : Dest) : State :=
  let (tid, s1) := s.takeTid (coreOf t)
  let (s1, ok) := s1.sendCredited t 0 { type := ty, hdr := hdr tid s1, body := b }
  if ok then s1.modThread t (fun y => { y with wait := .access tid d }) else s

/-- The unit of a package that serves register accesses (log entry 14). -/
def regUnit : Nat := 96

/-- The header of a device access of thread `t` to package `p`: its rank names the thread (R670). -/
def State.devHdr (s : State) (t p : Nat) (tid : BitVec 12) : Hdr :=
  { tid := tid, src := s.coreAgent (coreOf t), dst := agentId p 12 regUnit, stamp := s.clause, rank := s.tidOf t,
    realm := (s.thread t).realm }

/-- The offset of a device-class PA in its package's device region (R666). -/
def devOffset (pa : Nat) : BitVec 40 := BitVec.ofNat 40 (pa % 2 ^ 47 - 0x7F0000000000)

/-- A device load leaves as a register or device read, once every earlier device store of the thread is performed, and the thread waits
(R99, R100, R669, R670). -/
def State.deviceLoad (s : State) (t : Nat) (p : Piece) (d : Dest) : State :=
  if s.devicePending t then s
  else
  let (tid, s) := s.takeTid (coreOf t)
  (s.sendReq t { type := .regRead, hdr := s.devHdr t (p.pa / 2 ^ 47) tid, body := .reg (devOffset p.pa) p.len 0 }).modThread t
    (fun y => { y with wait := .access tid d })

/-- A device store leaves the core (R166). -/
def State.deviceStore (s : State) (t : Nat) (p : Piece) (v : Word) : State :=
  let (tid, s) := s.takeTid (coreOf t)
  s.sendReq t { type := .regWrite, hdr := s.devHdr t (p.pa / 2 ^ 47) tid, body := .reg (devOffset p.pa) p.len v }

/-- The thread waits for its entries of the merging buffer to drain (R163 item 5). -/
def State.wantDrain (s : State) (t : Nat) : State := s.modThread t (fun y => { y with drainWanted := true })

/-! ## Loads and stores -/

/-- A load of `n` bytes at `va` into rd (R71, R165). `acquire`: the thread's older stores drain first. -/
def State.loadAt (s : State) (t : Nat) (op : LoadOp) (rd : BitVec 5) (va : Word) (acquire : Bool) : State :=
  let n := loadSize op
  let (s, r) := s.pieces t va n .load (if acquire then .aligned else .plain)
  match r with
  | .wait => s
  | .exc e => s.raise t e
  | .ok ps =>
    if acquire && !(s.mbOf t).isEmpty then s.wantDrain t
    else match ps with
    | [] => s
    | p :: _ =>
      if p.mt = 0 then
        let (s, v) := s.readPieces t ps
        match v with
        | some v => s.finishLoad t (fun y => y.setGpr rd (loadExtend op v))
        | none => s
      else if p.mt = 1 then
        let (m, d) := mbForward (s.mbOf t) p.line
        let m8 : BitVec 8 := BitVec.ofNat 8 (m.toNat >>> p.off % 2 ^ p.len)
        let keep : Word := BitVec.ofNat 64 (lineNat d p.off p.len)
        s.sendAndWait t .ucRd (fun tid s => s.ucHdr t p.line tid (s.thread t).realm) (.uc (BitVec.ofNat 6 p.off) p.len)
          (.load op rd m8 keep)
      else s.deviceLoad t p (.load op rd 0 0)

/-- A store of the low `n` bytes of `v` at `va` (R71, R161, R166). `release`: the thread's entries close, and a new closed one
is allocated (R162). -/
def State.storeAt (s : State) (t : Nat) (n : Nat) (v : Word) (va : Word) (release : Bool) : State :=
  let (s, r) := s.pieces t va n .store (if release then .aligned else .plain)
  match r with
  | .wait => s
  | .exc e => s.raise t e
  | .ok ps =>
    match ps with
    | [] => s
    | p :: _ =>
      if p.mt = 2 then
        -- every older entry of the thread has drained before a device store leaves, and device stores are performed in order (R99, R166)
        if (s.mbOf t).isEmpty && !s.devicePending t then (s.deviceStore t p v).finishStore t else s
      else
        -- a release store follows every earlier device store (R99)
        if release && s.devicePending t then s
        else
          let s := if release then s.closeMb t else s
          match s.mbStorePieces t v.toNat release ps with
          | some s => s.finishStore t
          | none => s

end Sys2Proof.Machine
end

