-- ==== Sys2Proof/Machine/Atomics.lean ====
section
/-! DEFINITION. The far atomics as their requester sends them (03_wemir_instruction_set.md R75 to R77). -/
namespace Sys2Proof.Machine
open Sys2Proof

/-- The thread's entries of the merging buffer that an atomic waits for: all of them with an ordering, those of its line without
(R98 rule 1, R99, R163). -/
def State.atomWaits (s : State) (t : Nat) (a : LineAddr) (ord : BitVec 2) : Bool :=
  (s.mbOf t).any (fun e => decide (ord ≠ 0) || decide (e.line = a))

/-- R75 to R77: the atomic goes to the home of a cacheable line, or to the DRAM controller of an uncached one; device memory
raises MEMTYPE. The thread waits for the old value. -/
def State.atomRun (s : State) (t : Nat) (op : AtomOp) (wide : Bool) (ord : BitVec 2) (rd : BitVec 5) (va operand compare : Word) : State :=
  let n := if wide then 8 else 4
  let (s, r) := s.pieces t va n .store .atomic
  match r with
  | .wait => s
  | .exc e => s.raise t e
  | .ok ps =>
    match ps with
    | [] => s
    | p :: _ =>
      -- with release ordering it follows every earlier device store (R99)
      if ord.getLsbD 1 && s.devicePending t then s
      else if s.atomWaits t p.line ord then (if ord.getLsbD 1 then s.closeMb t else s).wantDrain t
      else
        let a : AtomArgs := { op := op, wide := wide, off := BitVec.ofNat 6 p.off, operand := operand, compare := compare }
        if p.mt = 0 then
          s.sendAndWait t .atom (fun tid s => s.coreHdr (coreOf t) t p.line tid (s.thread t).realm) (.atom a) (.atomic rd wide)
        else s.sendAndWait t .ucAtom (fun tid s => s.ucHdr t p.line tid (s.thread t).realm) (.atom a) (.atomic rd wide)

/-- An atomic instruction with operand rb. -/
def atomInstr (op : AtomOp) (t : Nat) (wide : Bool) (ord : BitVec 2) (rd ra rb rc : BitVec 5) (s : State) :
    Host.Outcome State Fault Refusal :=
  onThread s t (some 1) (fun s =>
    let y := s.thread t
    s.atomRun t op wide ord rd (y.gpr ra) (y.gpr rb) (y.gpr rc))

/-- R75. -/
def execAadd (t : ThreadPos) (wide : Bool) (ord : BitVec 2) (rd ra rb : BitVec 5) (s : State) : Host.Outcome State Fault Refusal :=
  atomInstr .add t.val wide ord rd ra rb 0 s

/-- R75. -/
def execAand (t : ThreadPos) (wide : Bool) (ord : BitVec 2) (rd ra rb : BitVec 5) (s : State) : Host.Outcome State Fault Refusal :=
  atomInstr .and t.val wide ord rd ra rb 0 s

/-- R75. -/
def execAor (t : ThreadPos) (wide : Bool) (ord : BitVec 2) (rd ra rb : BitVec 5) (s : State) : Host.Outcome State Fault Refusal :=
  atomInstr .or t.val wide ord rd ra rb 0 s

/-- R75. -/
def execAxor (t : ThreadPos) (wide : Bool) (ord : BitVec 2) (rd ra rb : BitVec 5) (s : State) : Host.Outcome State Fault Refusal :=
  atomInstr .xor t.val wide ord rd ra rb 0 s

/-- R75. -/
def execAswap (t : ThreadPos) (wide : Bool) (ord : BitVec 2) (rd ra rb : BitVec 5) (s : State) : Host.Outcome State Fault Refusal :=
  atomInstr .swap t.val wide ord rd ra rb 0 s

/-- R75. -/
def execAmin (t : ThreadPos) (wide : Bool) (ord : BitVec 2) (rd ra rb : BitVec 5) (s : State) : Host.Outcome State Fault Refusal :=
  atomInstr .min t.val wide ord rd ra rb 0 s

/-- R75. -/
def execAmax (t : ThreadPos) (wide : Bool) (ord : BitVec 2) (rd ra rb : BitVec 5) (s : State) : Host.Outcome State Fault Refusal :=
  atomInstr .max t.val wide ord rd ra rb 0 s

/-- R75: the compare value is rc. -/
def execAcas (t : ThreadPos) (wide : Bool) (ord : BitVec 2) (rd ra rb rc : BitVec 5) (s : State) : Host.Outcome State Fault Refusal :=
  atomInstr .cas t.val wide ord rd ra rb rc s

end Sys2Proof.Machine
end

