-- ==== Sys2Proof/Machine/Control.lean ====
section
/-! DEFINITION. The control registers (03_wemir_instruction_set.md R85, R101 to R107; 04_core_pipeline.md R148 to R153;
05_core_caches.md R186 to R189; 19_performance_counters.md R646 to R650, R661, R662). -/
namespace Sys2Proof.Machine
open Sys2Proof

/-- How MFC and MTC may use a control register at a level. -/
inductive CtlAccess where
  | unassigned | closed | open
  deriving DecidableEq, Repr

/-- The access that level `pl` has to control register `n`. -/
def ctlAccess (n pl : Nat) : CtlAccess :=
  let atS : CtlAccess := if pl = 0 then .closed else .open
  if n = 0 then atS
  else if n = 1 ∨ n = 2 ∨ n = 3 then .open
  else if 0x008 ≤ n ∧ n ≤ 0x010 then atS
  else if 0x020 ≤ n ∧ n ≤ 0x023 then atS
  else if 0x040 ≤ n ∧ n ≤ 0x042 then atS
  else if 0x060 ≤ n ∧ n ≤ 0x06A then atS
  else if 0x108 ≤ n ∧ n ≤ 0x110 then (if pl = 2 then .open else .closed)
  else .unassigned

/-- Register 008h + `i` of a bank (R101). -/
def Bank.read (b : Bank) (i : Nat) : Word := match i with
  | 0 => b.epc
  | 1 => b.enpc
  | 2 => b.estatus
  | 3 => b.ecause
  | 4 => b.eaddr
  | 5 => b.vbase
  | 6 => b.scratch
  | 7 => b.tcmp
  | _ => b.ttbase

/-- The bits of a register that are not reserved. -/
def maskEstatus : Word := 0x1003f
def maskEcause : Word := 0xff3f
def maskVbase : Word := 0xfffffffffffff000
def maskTtbase : Word := 0xffffffffffffff01
def maskFpcsr : Word := 0x1f03

/-- Register 008h + `i` of a bank written: reserved bits stay 0 (R104, R105, R107, R198). -/
def Bank.write (b : Bank) (i : Nat) (w : Word) : Bank := match i with
  | 0 => { b with epc := w }
  | 1 => { b with enpc := w }
  | 2 => { b with estatus := w &&& maskEstatus }
  | 3 => { b with ecause := w &&& maskEcause }
  | 4 => { b with eaddr := w }
  | 5 => { b with vbase := w &&& maskVbase }
  | 6 => { b with scratch := w }
  | 7 => { b with tcmp := w }
  | _ => { b with ttbase := w &&& maskTtbase }

/-- c.realm (R106). -/
def State.realmReg (s : State) (t : Nat) : Word :=
  let r := (s.thread t).realm.toNat
  BitVec.ofNat 64 (s.fld (regRlmTable0 r) 40 40 * 2 ^ 17 + s.fld (regRlmTable0 r) 32 32 * 2 ^ 16 + r)

/-- The counter in slot `j` of a core is visible to the thread (R647). -/
def State.counterVisible (s : State) (t j : Nat) : Bool :=
  let tag := bits (s.pccS j) 33 24
  let th := s.thread t
  if th.level = 2 then decide (tag = 0) || !s.realmSealed tag else decide (tag = th.realm.toNat)

/-- c.pcstat: the OVF bits of the counters the thread sees. -/
def State.pcstat (s : State) (t : Nat) : Nat :=
  (upTo 8).foldl (fun a i => let j := slotCore (coreOf t) i
    a + b2n (s.counterVisible t j && bit (s.pccV j) 48) * 2 ^ i) 0

/-- What MFC of control register `n` reads. c.predctl.FLUSH is the core's: it reads 1 for a flush that the sibling, a RENTER or a realm
exit began, too (R149, log entry 88). -/
def State.readCtl (s : State) (t n : Nat) : Word :=
  let th := s.thread t
  let c := s.core (coreOf t)
  if n = 0 then th.status
  else if n = 1 then s.realmReg t
  else if n = 2 then (s.tidOf t).zeroExtend 64
  else if n = 3 then th.fpcsr
  else if 0x008 ≤ n ∧ n ≤ 0x010 then (th.bank (th.level = 2)).read (n - 8)
  else if 0x108 ≤ n ∧ n ≤ 0x110 then th.s.read (n - 0x108)
  else if n = 0x020 then
    putBits (putBits th.predctl 1 1 (b2n c.flushing)) 0 0 (if th.level = 2 then b2n th.rsclrH else bits th.predctl 0 0)
  else if n = 0x021 then BitVec.ofNat 64 (b2n (s.solo t) * 256 + th.weight.toNat)
  else if n = 0x022 then th.rsstat ||| th.rtop.zeroExtend 64
  else if n = 0x023 then c.retries.zeroExtend 64
  else if n = 0x040 then BitVec.ofNat 64 (c.mbIdle.toNat * 256 + b2n c.l2Flushing * 2 + b2n c.l2Dis)
  else if n = 0x041 then c.cacheerr
  else if n = 0x042 then BitVec.ofNat 64 (c.mb.length * 256 + (s.mbOf t).length)
  else if 0x060 ≤ n ∧ n ≤ 0x067 then
    (let j := slotCore (coreOf t) (n - 0x60); if s.counterVisible t j then s.pccS j else 0)
  else if n = 0x068 then BitVec.ofNat 64 (s.pcstat t)
  else if n = 0x069 then c.pcsample
  else 0

/-- A flush of the thread's predictor slot, or of the whole predictor, starts (R127, R149). -/
def State.startFlush (s : State) (t : Nat) : State := s.modCore (coreOf t) (fun c => c.flushPred (s.thread t).part)

/-- The L2 flush moves lines into the eviction buffer while it has room (R182). -/
def Core.flushLines (c : Core) : Nat → Core
  | 0 => c
  | n + 1 => match c.l2 with
    | [] => c
    | (_, v) :: _ => if v.frozen then c else match c.evict v false with
      | some c' => c'.flushLines n
      | none => c

/-- The lines of a flushing L2 that threads of the core monitor are lost to them (R96). -/
def State.flushL2 (s : State) (c : Nat) : State :=
  let k := s.core c
  if k.l2Flushing then
    let k' := k.flushLines 32
    let gone := (k.l2.filter (fun p => (k'.l2Find p.2.line).isNone)).map (fun p => p.2.line)
    gone.foldl (fun s l => s.wakeCore c l) (s.setCore c k')
  else s

/-- A write of 1 to L2_DIS while the L2 is on: accesses bypass it from now, and FLUSHING rises at the next clause tick (R182, R183). -/
def State.disableL2 (s : State) (c : Nat) : State :=
  if (s.core c).l2Dis then s else s.modCore c (fun k => { k with l2Dis := true, l2FlushDue := true })

/-- The clause tick at which the flush of a disabled L2 begins (R182 step 2). -/
def State.beginFlushL2 (s : State) (c : Nat) : State :=
  if (s.core c).l2FlushDue then (s.modCore c (fun k => { k with l2FlushDue := false, l2Flushing := true })).flushL2 c else s

def State.beginFlushes2 (s : State) : List Nat → State
  | [] => s
  | c :: l => (s.beginFlushL2 c).beginFlushes2 l

/-- A write of 0 to L2_DIS: ignored while FLUSHING is 1, or is about to be (R185, log entry 66). The L1D then holds nothing the L2 does
not; a monitored line that leaves it so wakes its thread with status 4 (R96). -/
def State.enableL2 (s : State) (c : Nat) : State :=
  let k := s.core c
  if k.l2Dis && !k.l2Flushing && !k.l2FlushDue then
    let lines := k.l1d.map (fun p => p.2.line) ++ k.l1i.map (fun p => p.2.line)
    let s := s.modDie (dieOfCore c) (fun d => lines.foldl (fun d a => d.sfRemove a (c % 20)) d)
    lines.foldl (fun s a => s.wakeCore c a) (s.modCore c (fun k => { k with l2Dis := false, l2 := [], plru2 := [], l1d := [], l1i := [] }))
  else s

/-- The events a core counter may select (R651). -/
def coreEvent (e : Nat) : Bool := decide (e ≤ 0x17) || (decide (0x80 ≤ e) && decide (e ≤ 0x84))

/-- An MTC to c.pcev`i` (R648). -/
def State.writePcev (s : State) (t i : Nat) (w : Word) : State :=
  let th := s.thread t
  let j := slotCore (coreOf t) i
  let tag := bits (s.pccS j) 33 24
  let h := decide (th.level = 2)
  if h && decide (tag ≠ 0) && s.realmSealed tag then s
  else
    let ev := if coreEvent (bits w 7 0) then bits w 7 0 else 0
    let levels := if h then bits w 22 20 else bits w 22 20 % 4
    let sel := th.realm.toNat * 2 ^ 24 + b2n h * 2 ^ 23 + levels * 2 ^ 20 + bits w 17 16 * 2 ^ 16 + bits w 15 12 * 2 ^ 12 + ev
    (s.setPccS j (BitVec.ofNat 64 sel)).setPccV j 0

/-- An MTC to c.pcwrite (R650). -/
def State.writePcwrite (s : State) (t : Nat) (w : Word) : State :=
  let j := slotCore (coreOf t) (bits w 50 48)
  if s.counterVisible t j && decide (bits (s.pccS j) 33 24 = (s.thread t).realm.toNat) then
    s.setPccV j (putBits (putBits (s.pccV j) 47 0 (bits w 47 0)) 48 48 0)
  else s

/-- An MTC to c.pcstat: 1 clears the OVF of a counter the thread sees (R647, R662). -/
def State.writePcstat (s : State) (t : Nat) (w : Word) : State :=
  (upTo 8).foldl (fun s i => let j := slotCore (coreOf t) i
    if bit w i && s.counterVisible t j then s.setPccV j (putBits (s.pccV j) 48 48 0) else s) s

/-- A timer interrupt stays pending only while its compare condition holds (R107, R109). -/
def timerDue (clause cmp : Word) : Bool := decide (cmp ≠ 0) && decide (cmp.toNat ≤ clause.toNat)
def State.refreshTimers (s : State) (t : Nat) : State :=
  s.modThread t (fun y => { y with pendS := if timerDue s.clause y.s.tcmp then y.pendS else y.pendS.erase .timer,
                                   pendH := if timerDue s.clause y.h.tcmp then y.pendH else y.pendH.erase .timer })

/-- What MTC to control register `n` does. A write to a field that the level may only read is ignored (log entry 17). -/
def State.writeCtl (s : State) (t n : Nat) (w : Word) : State :=
  let th := s.thread t
  let c := coreOf t
  let h := decide (th.level = 2)
  if n = 0 then s.modThread t (fun y => { y with status := putBits y.status 5 2 (bits w 5 2) })
  else if n = 3 then s.modThread t (fun y => { y with fpcsr := w &&& maskFpcsr })
  else if 0x008 ≤ n ∧ n ≤ 0x010 then (s.modThread t (fun y => y.setBank h ((y.bank h).write (n - 8) w))).refreshTimers t
  else if 0x108 ≤ n ∧ n ≤ 0x110 then (s.modThread t (fun y => { y with s := y.s.write (n - 0x108) w })).refreshTimers t
  else if n = 0x020 then
    let s := s.modThread t (fun y => if h then { y with rsclrH := bit w 0 } else { y with predctl := putBits y.predctl 0 0 (bits w 0 0) })
    if bit w 1 then s.startFlush t else s
  else if n = 0x021 then
    if h then s.modThread t (fun y => { y with weight := if bits w 3 0 = 0 then 1 else BitVec.ofNat 4 (bits w 3 0) }) else s
  else if n = 0x040 then
    if h then
      let s := s.modCore c (fun k => { k with mbIdle := if bits w 15 8 = 0 then 1 else BitVec.ofNat 8 (bits w 15 8) })
      if bit w 0 then s.disableL2 c else s.enableL2 c
    else s
  else if 0x060 ≤ n ∧ n ≤ 0x067 then s.writePcev t (n - 0x60) w
  else if n = 0x068 then s.writePcstat t w
  else if n = 0x06A then s.writePcwrite t w
  else s

/-- MTC to control register `n` of a value, as an instruction: ILLEGAL, PRIVILEGED, or the write (R84, R85, R102). -/
def State.mtcRun (s : State) (t n : Nat) (w : Word) : State :=
  match ctlAccess n (s.thread t).level with
  | .unassigned => s.illegal t
  | .closed => s.privileged t
  | .open => (s.writeCtl t n w).retire t

/-- R84. -/
def execMfc (t : ThreadPos) (rd : BitVec 5) (n : BitVec 13) (s : State) : Host.Outcome State Fault Refusal :=
  onThread s t.val none (fun s =>
    match ctlAccess n.toNat (s.thread t.val).level with
    | .unassigned => s.illegal t.val
    | .closed => s.privileged t.val
    | .open => s.finish t.val (fun y => y.setGpr rd (s.readCtl t.val n.toNat)))

/-- R84, R102. -/
def execMtc (t : ThreadPos) (ra : BitVec 5) (n : BitVec 13) (s : State) : Host.Outcome State Fault Refusal :=
  onThread s t.val none (fun s => s.mtcRun t.val n.toNat ((s.thread t.val).gpr ra))

/-- R648: an MTC to c.pcev`i`. -/
def execPcevWrite (t : ThreadPos) (i : Fin 8) (ra : BitVec 5) (s : State) : Host.Outcome State Fault Refusal :=
  onThread s t.val none (fun s => s.mtcRun t.val (0x60 + i.val) ((s.thread t.val).gpr ra))

/-- R650: an MTC to c.pcwrite. -/
def execPcwrite (t : ThreadPos) (ra : BitVec 5) (s : State) : Host.Outcome State Fault Refusal :=
  onThread s t.val none (fun s => s.mtcRun t.val 0x6A ((s.thread t.val).gpr ra))

/-- What happens in a core's own units happens in no core that is disabled or whose die is fenced: nothing then (R11, R541, log entry
41). -/
def onCoreUnit (s : State) (c : Nat) (f : State → State) : Host.Outcome State Fault Refusal :=
  .next (if s.coreExists c then f s else s)

/-- R149: an MTC to c.predctl that writes 1 to FLUSH and keeps RSCLR_EXC. -/
def execPredctlFlush (t : ThreadPos) (s : State) : Host.Outcome State Fault Refusal :=
  onThread s t.val none (fun s => s.mtcRun t.val 0x20 (s.readCtl t.val 0x20 ||| 2))

/-- R127: the flush completes and prediction resumes. -/
def execPredictorFlushDone (c : CorePos) (s : State) : Host.Outcome State Fault Refusal :=
  onCoreUnit s c.val (fun s => s.modCore c.val (fun k => { k with flushing := false }))

/-- R182: a write of 1 to c.cachectl.L2_DIS. -/
def execL2Disable (c : CorePos) (s : State) : Host.Outcome State Fault Refusal :=
  onCoreUnit s c.val (fun s => s.disableL2 c.val)

/-- R185: a write of 0 to c.cachectl.L2_DIS. -/
def execL2Enable (c : CorePos) (s : State) : Host.Outcome State Fault Refusal :=
  onCoreUnit s c.val (fun s => s.enableL2 c.val)

/-- R182 step 4: FLUSHING clears once the L2 is empty and every writeback is acknowledged. -/
def execL2FlushDone (c : CorePos) (s : State) : Host.Outcome State Fault Refusal :=
  onCoreUnit s c.val (fun s =>
    let s := s.flushL2 c.val
    let k := s.core c.val
    if k.l2Flushing && k.l2.isEmpty && k.eb.isEmpty then s.modCore c.val (fun k => { k with l2Flushing := false }) else s)

end Sys2Proof.Machine
end

