-- ==== Sys2Proof/Machine/System.lean ====
section
/-! DEFINITION. The system instructions (03_wemir_instruction_set.md R84 to R97, R109, R113, R115; 04_core_pipeline.md R131 to
R134; 02_clause_time.md R43). -/
namespace Sys2Proof.Machine
open Sys2Proof

/-! ## Exception-class instructions -/

/-- An instruction for level 1 and above (R85), which raises SLOT in an executing delay slot when `slotRule` (R70, R112). -/
def sysInstr (s : State) (t minLevel : Nat) (slotRule : Bool) (f : State → State) : Host.Outcome State Fault Refusal :=
  onThread s t none (fun s =>
    let th := s.thread t
    if th.level < minLevel then s.privileged t
    else if slotRule && th.slot.isSome then s.slotFault t
    else f s)

/-- R84, R111 step 4. -/
def execSyscall (t : ThreadPos) (s : State) : Host.Outcome State Fault Refusal :=
  sysInstr s t.val 0 true (fun s => s.raise t.val { code := exSyscall, eaddr := s.instrAddr t.val } true)

/-- R84, R111 step 4. -/
def execBrk (t : ThreadPos) (s : State) : Host.Outcome State Fault Refusal :=
  sysInstr s t.val 0 true (fun s => s.raise t.val { code := exBreak, eaddr := s.instrAddr t.val } true)

/-- R109: an HCALL exception in realm 0, a realm exit with SUB 0 in another realm; the realm resumes after the HCALL. -/
def execHcall (t : ThreadPos) (s : State) : Host.Outcome State Fault Refusal :=
  sysInstr s t.val 1 true (fun s =>
    if (s.thread t.val).realm = 0 then s.raise t.val { code := exHcall, eaddr := s.instrAddr t.val } true
    else (s.modThread t.val (fun y => { y with pc := y.pc + 4 })).realmExit t.val 0)

/-- c.status after RTE: [5:0] of c.estatus with EXL cleared (R113). -/
def rteStatus (st es : Word) : Word := putBits (putBits st 5 0 (bits es 5 0)) 3 3 0

/-- An address in a register as an instruction address, a multiple of 4 (R55, log entry 18). -/
def pcOf (w : Word) : BitVec 57 := BitVec.ofNat 57 (w.toNat / 4 * 4)

/-- R113: the return from exception; PRIVILEGED when c.estatus.PL exceeds the present level (R108). R139's rule for the two threads of a
core is kept by the binding rules alone: an RTE of realm 0 to S or U is not checked against the sibling (log entry 87). -/
def execRte (t : ThreadPos) (s : State) : Host.Outcome State Fault Refusal :=
  sysInstr s t.val 1 false (fun s =>
    let th := s.thread t.val
    let b := th.bank (th.level = 2)
    if bits b.estatus 1 0 > th.level then s.privileged t.val
    else if th.slot.isSome then s.slotFault t.val
    else
      (s.modThread t.val (fun y => { y with status := rteStatus y.status b.estatus })).retireTo t.val (pcOf b.epc)
        (if bit b.estatus 16 then some (pcOf b.enpc) else none))

/-- An interrupt for the thread is pending, whether or not it is enabled. -/
def Thread.pendingAny (t : Thread) : Bool := !t.pendS.isEmpty || !t.pendH.isEmpty

/-- R84: the thread waits after a WFI until an interrupt is pending. -/
def execWfi (t : ThreadPos) (s : State) : Host.Outcome State Fault Refusal :=
  sysInstr s t.val 1 true (fun s =>
    (s.retire t.val).modThread t.val (fun y => { y with wait := if y.pendingAny then .ready else .wfi }))

/-! ## RENTER (R115, R126, R128, R153) -/

/-- The lines `i`, `i+1`, ... of a context block, when all of them are in the core. -/
def State.readCtx (s : State) (t base : Nat) (realm : Realm) (i : Nat) : Nat → State × Option (List Line)
  | 0 => (s, some [])
  | n + 1 =>
    let (s, r) := s.loadLine t (lineOf (base + 64 * i)) realm
    match r with
    | none => (s, none)
    | some l =>
      let (s, rest) := s.readCtx t base realm (i + 1) n
      (s, rest.map (fun ls => l :: ls))

/-- The 64-bit word of a context block at offset 8 * `i`. -/
def blockWord (ls : List Line) (i : Nat) : Word := BitVec.ofNat 64 (lineNat (ls.getD (i / 8) 0) (8 * (i % 8)) 8)

/-- A thread's registers loaded from its context block (R115, R117). `hg` keeps g1 to g4 of H after an HCALL exit. -/
def Thread.loadCtx (t : Thread) (ls : List Line) (hg : Bool) : Thread :=
  let w := blockWord ls
  let g := (upTo 31).map (fun i => (i + 1, if hg && decide (i < 4) then t.gpr (BitVec.ofNat 5 (i + 1)) else w i))
  let v := (upTo 32).map (fun i => (i, (w (32 + 4 * i + 3) ++ w (32 + 4 * i + 2) ++ w (32 + 4 * i + 1) ++ w (32 + 4 * i) : BitVec 256)))
  let k := (upTo 7).map (fun i => (i + 1, BitVec.ofNat 32 ((w (160 + (i + 1) / 2)).toNat >>> (32 * ((i + 1) % 2)))))
  { t with g := g, v := v, k := k,
           status := BitVec.ofNat 64 (bits (w 31) 5 0),
           pc := pcOf (w 164),
           slot := if bit (w 166) 0 then some (pcOf (w 165)) else none,
           fpcsr := w 167 &&& maskFpcsr,
           s := { ttbase := w 168 &&& maskTtbase, vbase := w 169 &&& maskVbase, scratch := w 170, tcmp := w 171,
                  epc := w 172, enpc := w 173, estatus := w 174 &&& maskEstatus, ecause := w 175 &&& maskEcause, eaddr := w 176 } }

/-- Pending classes from the PEND bits of a binding entry (R465, R482). -/
def pendOfBits (n : Nat) : List IntClass :=
  (if n.testBit 0 then [IntClass.device] else []) ++ (if n.testBit 1 then [.interThread] else []) ++
  (if n.testBit 2 then [.ring] else []) ++ (if n.testBit 3 then [.timer] else [])

/-- The thread is bound to the realm (R482). -/
def State.boundTo (s : State) (t r : Nat) : Bool :=
  decide (s.fld (regRlmBind0 t) 16 16 = 1) && decide (s.fld (regRlmBind0 t) 9 0 = r)

/-- Entry succeeds: the thread runs in the realm with its context (R115, R126, R128, R153, R465). -/
def State.enterRealm (s : State) (t r : Nat) (ls : List Line) : State :=
  let hg := (s.thread t).hcallExits.contains r
  let pend := s.fld (regRlmBind0 t) 20 17
  let s := (s.closeMb t).countEv t 0x03
  let s := (s.switchPred (coreOf t) 0 r).setFld (regRlmBind0 t) 20 17 0
  s.modThread t (fun y =>
    { (y.loadCtx ls hg) with realm := BitVec.ofNat 10 r, history := 0, rstack := [], rtop := 0, predctl := s.switchPredctl r, rsclrH := false,
                             rsstat := 0, pendS := pendOfBits pend, pendH := y.pendH.erase .counter, own := [],
                             refused := none, hcallExits := y.hcallExits.erase r,
                             renter := none, exitFence := false, retried := false, missL1 := false, missL2 := false, missTlb := false })

/-- RENTER_REFUSED (R108, R115). -/
def State.renterRefused (s : State) (t sub r : Nat) : State :=
  s.raise t { code := exRenterRefused, sub := sub, eaddr := BitVec.ofNat 64 r }

/-- Entry of a sealed realm: the thread waits at RENTER until its sibling executes RENTER into the same realm, and both enter
(R469). -/
def State.renterBoth (s : State) (t r : Nat) (ls : List Line) : State :=
  let sib := siblingOf t
  if (s.thread sib).renter = some r then
    let (s, b) := s.readCtx sib (s.ctxBase sib) (BitVec.ofNat 10 r) 0 24
    match b with
    | some ls' => (s.enterRealm t r ls).enterRealm sib r ls'
    | none => s
  else s.modThread t (fun y => { y with renter := some r })

/-- R115. -/
def State.renterRun (s : State) (t r : Nat) : State :=
  let base := s.ctxBase t
  let c := s.core (coreOf t)
  if s.realmState r ≠ realmRunning ∨ s.realmHalted r then s.renterRefused t 1 r
  else if r = 0 ∨ ¬ s.boundTo t r ∨ c.fenced then s.renterRefused t 2 r
  else if (s.thread t).refused.any (fun a => decide (base ≤ lineBase a ∧ lineBase a < base + 0x600)) then
    (s.modThread t (fun y => { y with refused := none })).renterRefused t 3 r
  -- a context block that a realm exit is still writing is read once it has been written
  else if !c.ctxWrites.isEmpty || !c.ctxOut.isEmpty then s
  else
    let (s, b) := s.readCtx t base (BitVec.ofNat 10 r) 0 24
    match b with
    | none => s
    | some ls =>
      if bits (blockWord ls 31) 1 0 ≥ 2 then s.renterRefused t 4 r
      else if s.realmSealed r then s.renterBoth t r ls
      else s.enterRealm t r ls

/-- R115. -/
def execRenter (t : ThreadPos) (ra : BitVec 5) (s : State) : Host.Outcome State Fault Refusal :=
  sysInstr s t.val 2 true (fun s => s.renterRun t.val (bits ((s.thread t.val).gpr ra) 9 0))

/-! ## TLBI and SYNC.T (R86 to R88, R270) -/

/-- The packages whose TlbiAck a TLBI awaits: every member, this one included. -/
def State.tlbiTargets (s : State) : List Nat := s.pkgNum :: s.otherMembers

/-- R86, R270: sent to the TLBI unit of the I/O die; a ninth outstanding TLBI waits to issue. -/
def State.tlbiRun (s : State) (t : Nat) (va control : Word) : State :=
  let th := s.thread t
  if th.tlbis.length ≥ 8 then s
  else
    let a : TlbiArgs := { issuer := s.tidOf t, realm := th.realm, control := control.truncate 19,
                          va := BitVec.ofNat 45 (bits va 56 12), seq := th.tlbiSeq, h := decide (th.level = 2) }
    let o : TlbiOut := { seq := a.seq, issued := s.clause, left := s.tlbiTargets, args := a, control := control, va := va }
    let s := s.modThread t (fun y => { y with tlbiSeq := y.tlbiSeq + 1, tlbis := y.tlbis ++ [o] })
    let h : Hdr := { src := s.coreAgent (coreOf t), dst := agentId s.pkgNum 12 96, stamp := s.clause, rank := s.tidOf t, realm := a.realm }
    (s.send { type := .tlbi, hdr := h, body := .tlbi a }).retire t

/-- R86. -/
def execTlbi (t : ThreadPos) (ra rd : BitVec 5) (s : State) : Host.Outcome State Fault Refusal :=
  sysInstr s t.val 1 false (fun s => s.tlbiRun t.val ((s.thread t.val).gpr ra) ((s.thread t.val).gpr rd))

/-- R88: no later instruction begins before every earlier TLBI of the thread is performed image-wide. -/
def execSyncT (t : ThreadPos) (s : State) : Host.Outcome State Fault Refusal :=
  sysInstr s t.val 1 false (fun s =>
    if (s.thread t.val).tlbis.isEmpty then s.retire t.val
    else s.modThread t.val (fun y => { y with wait := .syncT }))

/-! ## ISYNC, CLK, PCRD, RSCLR -/

/-- R93: earlier instructions have completed, since the model runs a thread's instructions in order. -/
def execIsync (t : ThreadPos) (s : State) : Host.Outcome State Fault Refusal :=
  onThread s t.val none (fun s => s.retire t.val)

/-- R43. -/
def execClk (t : ThreadPos) (rd : BitVec 5) (s : State) : Host.Outcome State Fault Refusal :=
  onThread s t.val none (fun s => s.finish t.val (fun y => y.setGpr rd s.clause))

/-- R94, R647: the 48-bit count of counter `n` of the thread's core; 0 when it is not visible. -/
def execPcrd (t : ThreadPos) (rd n : BitVec 5) (s : State) : Host.Outcome State Fault Refusal :=
  onThread s t.val none (fun s =>
    let th := s.thread t.val
    let j := slotCore (coreOf t.val) n.toNat
    if n.toNat > 7 then s.illegal t.val
    else if th.level = 0 ∧ ¬ bit (s.realmReg t.val) 17 then s.raise t.val { code := exCounterAccess, eaddr := s.instrAddr t.val }
    else s.finish t.val (fun y => y.setGpr rd (if s.counterVisible t.val j then BitVec.ofNat 64 (bits (s.pccV j) 47 0) else 0)))

/-- R134. -/
def execRsclr (t : ThreadPos) (s : State) : Host.Outcome State Fault Refusal :=
  sysInstr s t.val 1 false (fun s => s.finish t.val (fun y => y.clearRet))

/-! ## RSYNC (R131, R132) -/

/-- What RSYNC finds at an address: the line, or the reason to stop. -/
inductive Frame where
  | line (pa : Nat)
  | stop (why : Nat)
  deriving DecidableEq, Repr

/-- The physical address of a frame record: only through a translation that a TLB holds, to readable cacheable memory (R132). A record
that the level may not read, or that is met with translation off, stops with 100b, one that is absent or not canonical with 011b (log
entry 86). -/
def State.frameAt (s : State) (t : Nat) (a : Word) : Frame :=
  let th := s.thread t
  let k := s.core (coreOf t)
  let va := BitVec.ofNat 57 a.toNat
  if a = 0 then .stop 0
  else if a.toNat % 16 ≠ 0 then .stop 2
  else if !(bit th.ttbase 0) then .stop (if (s.region (a.toNat % 2 ^ 52)) = .absent then 3 else 4)
  else if !canonical a then .stop 3
  else match tlbHits k.dtlb th va ++ tlbHits k.l2tlb th va with
    | [] => .stop 3
    | e :: _ =>
      if pteMT e.leaf ≠ 0 ∨ (checkRights e.leaf .load th.level th.sxg th.sag).isSome then .stop 4
      else if th.refused = some (lineOf (e.out va)) then .stop 4
      else .line (e.out va)

/-- Follows the chain of frame records from `a`, at most `n` of them: the links read, the nearest first, and the reason to stop;
none while a record's line is on its way. -/
def State.frames (s : State) (t : Nat) (a : Word) : Nat → State × Option (List Word × Nat)
  | 0 => (s, some ([], 1))
  | n + 1 =>
    match s.frameAt t a with
    | .stop w => (s, some ([], w))
    | .line pa =>
      let (s, r) := s.loadLine t (lineOf pa) (s.thread t).realm
      match r with
      | none => (s, none)
      | some l =>
        let (s, rest) := s.frames t (BitVec.ofNat 64 (lineNat l (pa % 64) 8)) n
        (s, rest.map (fun (ls, w) => (BitVec.ofNat 64 (lineNat l (pa % 64 + 8) 8) :: ls, w)))

/-- The thread's return stack rebuilt from the links, oldest at the bottom, with g31 on top unless it is the first link (R131). -/
def Thread.rebuild (t : Thread) (links : List Word) (why : Nat) : Thread :=
  let g31 := t.gpr 31
  let stack := (if links.head? = some g31 then links else g31 :: links).reverse
  let entry (w : Word) : BitVec 55 := BitVec.ofNat 55 (bits w 56 2)
  { t with rstack := (stack.zipIdx 1).map (fun (w, i) => (i, entry w)), rtop := BitVec.ofNat 5 stack.length,
           rsstat := BitVec.ofNat 64 (why * 2 ^ 17 + stack.length * 2 ^ 12) }

/-- R131. -/
def execRsync (t : ThreadPos) (s : State) : Host.Outcome State Fault Refusal :=
  onThread s t.val none (fun s =>
    let (s, r) := s.frames t.val ((s.thread t.val).gpr 29) 7
    match r with
    | none => s
    | some (ls, why) => (s.countEv t.val 0x13).finish t.val (fun y => y.rebuild ls why))

/-! ## WAITD (R96, R97) -/

/-- WAITD returns a status at once. -/
def State.waitdReturn (s : State) (t : Nat) (rd : BitVec 5) (status : Nat) : State :=
  s.finish t (fun y => y.setGpr rd (BitVec.ofNat 64 status))

/-- R96: monitors the line of `va` through a copy in the L2. -/
def State.waitdRun (s : State) (t : Nat) (rd : BitVec 5) (va : Word) : State :=
  let timeout := (s.thread t).gpr rd
  let (s, r) := s.onePiece t va 1 .load .watch true
  match r with
  | .wait => s
  | .exc e => s.raise t e
  | .ok ps => match ps with
    | [] => s
    | p :: _ =>
      if p.mt ≠ 0 then s.waitdReturn t rd 3
      -- the home refused the line: it is not the realm's (R455)
      else if (s.thread t).refused = some p.line then (s.refusedFault t va exLoadFault).1.waitdReturn t rd 3
      else if (s.thread t).pendingAny then s.waitdReturn t rd 1
      else
        let (s, d) := s.loadLine t p.line (s.thread t).realm
        match d with
        | none => s
        | some _ =>
          let until? := if timeout = 0 then none else some (s.clause + timeout)
          s.modThread t (fun y => { y with wait := .waitd p.line until? rd })

/-- R96. -/
def execWaitd (t : ThreadPos) (rd ra : BitVec 5) (s : State) : Host.Outcome State Fault Refusal :=
  onThread s t.val none (fun s => s.waitdRun t.val rd ((s.thread t.val).gpr ra))

/-- A thread that waits in WAITD wakes with a status. -/
def State.wakeWaitd (s : State) (t status : Nat) : State :=
  match (s.thread t).wait with
  | .waitd l _ _ => s.wakeThread t l status
  | _ => s

/-- R96: the timeout has elapsed. -/
def execWaitdTimeout (t : ThreadPos) (s : State) : Host.Outcome State Fault Refusal :=
  .next (match (s.thread t.val).wait with
    | .waitd _ (some u) _ => if s.threadExists t.val ∧ u.toNat ≤ s.clause.toNat ∧ s.running then s.wakeWaitd t.val 2 else s
    | _ => s)

/-! ## FENCE (R99, R162) -/

/-- R99: a mask that names earlier stores closes the thread's entries, and one that orders them before anything later waits for
them; all four bits order device accesses too. Loads complete in order. -/
def State.fenceRun (s : State) (t : Nat) (mask : BitVec 4) : State :=
  let s := if mask.getLsbD 3 then s.closeMb t else s
  if mask.getLsbD 3 ∧ mask.toNat % 4 ≠ 0 ∧ !(s.mbOf t).isEmpty then s
  else if mask = 15 ∧ s.devicePending t then s
  else s.retire t

/-- R99. -/
def execFence (t : ThreadPos) (mask : BitVec 4) (s : State) : Host.Outcome State Fault Refusal :=
  onThread s t.val none (fun s => s.fenceRun t.val mask)

end Sys2Proof.Machine
end

