-- ==== Sys2Proof/Machine/CacheOps.lean ====
section
/-! DEFINITION. The CACHE instructions (03_wemir_instruction_set.md R89 to R92; 05_core_caches.md R167, R176 to R178). -/
namespace Sys2Proof.Machine
open Sys2Proof

/-! ## By address -/

/-- The one line of a CACHE by address, translated as `k`; its translation faults are those of a load (R92, R208). -/
def State.cachePiece (s : State) (t : Nat) (va : Word) (k : AccKind) (form : AccForm) : State × Acc :=
  let (s, r) := s.onePiece t va 1 k form true
  match r with
  | .exc e => (s, .exc (if e.code = exStoreFault then { e with code := exLoadFault } else e))
  | x => (s, x)

/-- The thread's entries for the line close; true when none is left to drain (R162, R176). -/
def State.closeLine (s : State) (t : Nat) (a : LineAddr) : State × Bool :=
  if (s.mbOf t).any (fun e => e.line = a) then
    (s.modCore (coreOf t) (fun k => { k with mb := k.mb.map (fun e =>
      if e.line = a ∧ e.thread.val = threadIx t then { e with closed := true } else e) }), false)
  else (s, true)

/-- CLEAN.VA, INV.VA and CLINV.VA: a Cmo request to the home, which the thread awaits; none on uncached or device memory. -/
def State.cmoRun (s : State) (t : Nat) (va : Word) (clinv : Bool) : State :=
  let (s, r) := s.cachePiece t va .load .plain
  match r with
  | .wait => s
  | .exc e => s.raise t e
  | .ok ps => match ps with
    | [] => s
    | p :: _ =>
      if p.mt ≠ 0 then s.retire t
      else
        let (s, clear) := s.closeLine t p.line
        if !clear then s
        else s.sendAndWait t .cmo (fun tid s => s.coreHdr (coreOf t) t p.line tid (s.thread t).realm) (.cmo clinv) .done

/-- R176. -/
def execCleanVa (t : ThreadPos) (ra : BitVec 5) (s : State) : Host.Outcome State Fault Refusal :=
  onThread s t.val none (fun s => s.cmoRun t.val ((s.thread t.val).gpr ra) false)

/-- R89: as CLINV.VA, at S and H. -/
def execInvVa (t : ThreadPos) (ra : BitVec 5) (s : State) : Host.Outcome State Fault Refusal :=
  sysInstr s t.val 1 false (fun s => s.cmoRun t.val ((s.thread t.val).gpr ra) true)

/-- R176. -/
def execClinvVa (t : ThreadPos) (ra : BitVec 5) (s : State) : Host.Outcome State Fault Refusal :=
  onThread s t.val none (fun s => s.cmoRun t.val ((s.thread t.val).gpr ra) true)

/-- R92, R167: ZERO.VA enters the merging buffer as a closed entry of zeros. -/
def State.zeroRun (s : State) (t : Nat) (va : Word) : State :=
  let (s, r) := s.cachePiece t va .store .vector
  match r with
  | .wait => s
  | .exc e => s.raise t e
  | .ok ps => match ps with
    | [] => s
    | p :: _ =>
      let (s, clear) := s.closeLine t p.line
      if !clear then s
      else match s.mbStore t p.line 0 (BitVec.allOnes 64) false true true with
        | some s => s.retire t
        | none => s

/-- R167. -/
def execZeroVa (t : ThreadPos) (ra : BitVec 5) (s : State) : Host.Outcome State Fault Refusal :=
  onThread s t.val none (fun s => s.zeroRun t.val ((s.thread t.val).gpr ra))

/-- INV.L1I: the thread's stores to the line drain first, as for every CACHE by address (R89, R162, R176). -/
def State.invL1iRun (s : State) (t : Nat) (va : Word) : State :=
  let (s, r) := s.cachePiece t va .load .plain
  match r with
  | .wait => s
  | .exc e => s.raise t e
  | .ok ps => match ps with
    | [] => s
    | p :: _ =>
      let (s, clear) := s.closeLine t p.line
      if clear then (s.modCore (coreOf t) (fun k => k.l1iDrop p.line)).retire t else s

/-- R89: removes the line from the L1I of the core. -/
def execInvL1i (t : ThreadPos) (ra : BitVec 5) (s : State) : Host.Outcome State Fault Refusal :=
  onThread s t.val none (fun s => s.invL1iRun t.val ((s.thread t.val).gpr ra))

/-! ## By set and way -/

/-- A descriptor's way, set and slice (R91), when it is within the geometry (R178). -/
def swDescriptor (w : Word) (l3 : Bool) : Option (Nat × Nat × Nat) :=
  let way := bits w 7 0; let set := bits w 27 16; let slice := bits w 35 32
  if bits w 15 8 ≠ 0 ∨ bits w 31 28 ≠ 0 ∨ bits w 63 36 ≠ 0 then none
  else if way > 15 then none
  else if l3 then some (way, set, slice)
  else if set ≤ 2047 ∧ slice = 0 then some (way, set, slice) else none

/-- A set/way instruction at H: ILLEGAL comes before PRIVILEGED (R91, R112). -/
def swInstr (s : State) (t : Nat) (ra : BitVec 5) (l3 : Bool) (f : State → Nat × Nat × Nat → State) :
    Host.Outcome State Fault Refusal :=
  onThread s t none (fun s =>
    let th := s.thread t
    match swDescriptor (th.gpr ra) l3 with
    | none => s.illegal t
    | some d => if th.level < 2 then s.privileged t else f s d)

/-- CLEAN.SW2: a dirty line is cleaned by a Cmo CLEAN to the home (R177). -/
def State.cleanSw2Run (s : State) (t : Nat) (d : Nat × Nat × Nat) : State :=
  match Tbl.find (s.core (coreOf t)).l2 (d.2.1 * 16 + d.1) with
  | none => s.retire t
  | some v =>
    if v.st = CState.M ∨ v.st = CState.O then
      s.sendAndWait t .cmo (fun tid s => s.coreHdr (coreOf t) t v.line tid v.realm) (.cmo false) .done
    else s.retire t

/-- INV.SW2 and CLINV.SW2: the line leaves the L2 for the home, through the eviction buffer (R168, R177). -/
def State.invSw2Run (s : State) (t : Nat) (d : Nat × Nat × Nat) : State :=
  match Tbl.find (s.core (coreOf t)).l2 (d.2.1 * 16 + d.1) with
  | none => s.retire t
  | some v =>
    if v.frozen then s
    else match (s.core (coreOf t)).evict v true with
    | none => s
    | some k => ((s.setCore (coreOf t) k).wakeCore (coreOf t) v.line).retire t

/-- R177. -/
def execCleanSw2 (t : ThreadPos) (ra : BitVec 5) (s : State) : Host.Outcome State Fault Refusal :=
  swInstr s t.val ra false (fun s d => s.cleanSw2Run t.val d)
/-- R177. -/
def execInvSw2 (t : ThreadPos) (ra : BitVec 5) (s : State) : Host.Outcome State Fault Refusal :=
  swInstr s t.val ra false (fun s d => s.invSw2Run t.val d)
/-- R177. -/
def execClinvSw2 (t : ThreadPos) (ra : BitVec 5) (s : State) : Host.Outcome State Fault Refusal :=
  swInstr s t.val ra false (fun s d => s.invSw2Run t.val d)

/-- CLEAN.SW3: the slice sends the Cmo CLEAN, and the thread awaits it (R177). -/
def State.cleanSw3Run (s : State) (t : Nat) (d : Nat × Nat × Nat) : State :=
  let die := dieOf t
  match Tbl.find (s.die die).l3 ((d.2.2 * 4096 + d.2.1) * 16 + d.1) with
  | none => s.retire t
  | some v =>
    if v.st = CState.M ∨ v.st = CState.O then
      s.sendAndWait t .cmo (fun tid s => { s.coreHdr (coreOf t) t v.line tid v.realm with src := s.l3Agent die d.2.2 })
        (.cmo false) .done
    else s.retire t

/-- INV.SW3 and CLINV.SW3: the line is written back and leaves the L3, with an eviction notice (R177). -/
def State.invSw3Run (s : State) (t : Nat) (d : Nat × Nat × Nat) : State :=
  let die := dieOf t
  match Tbl.find (s.die die).l3 ((d.2.2 * 4096 + d.2.1) * 16 + d.1) with
  | none => s.retire t
  | some v => match s.l3Evict die v with
    | none => s
    | some s => (s.modDie die (fun x => x.l3Drop v.line)).retire t

/-- R177. -/
def execCleanSw3 (t : ThreadPos) (ra : BitVec 5) (s : State) : Host.Outcome State Fault Refusal :=
  swInstr s t.val ra true (fun s d => s.cleanSw3Run t.val d)
/-- R177. -/
def execInvSw3 (t : ThreadPos) (ra : BitVec 5) (s : State) : Host.Outcome State Fault Refusal :=
  swInstr s t.val ra true (fun s d => s.invSw3Run t.val d)
/-- R177. -/
def execClinvSw3 (t : ThreadPos) (ra : BitVec 5) (s : State) : Host.Outcome State Fault Refusal :=
  swInstr s t.val ra true (fun s d => s.invSw3Run t.val d)

end Sys2Proof.Machine
end

