-- ==== Sys2Proof/Machine/Interrupts.lean ====
section
/-! DEFINITION. Interrupt routing (12_realms_isolation.md R465; R107, R109), the residue retry (04_core_pipeline.md R144 to R146),
the walker's A and D update (06_address_translation.md R213), TLBI timeouts (R221), undefined words (R60). -/
namespace Sys2Proof.Machine
open Sys2Proof

/-! ## Interrupts -/

/-- A pending class of a thread, taken at H when `h`; a thread in WFI or WAITD wakes (R84, R96). -/
def State.pend (s : State) (t : Nat) (h : Bool) (cls : IntClass) : State :=
  let s := s.modThread t (fun y =>
    if h then { y with pendH := addPending cls y.pendH } else { y with pendS := addPending cls y.pendS })
  match (s.thread t).wait with
  | .wfi => s.modThread t (fun y => { y with wait := .ready })
  | .waitd _ _ _ => s.wakeWaitd t 1
  | _ => s

/-- The bit of RLM.BIND.PEND of a class (R482); counter overflows have none. -/
def pendBit (cls : IntClass) : Option Nat := match cls with
  | .device => some 17
  | .interThread => some 18
  | .ring => some 19
  | .timer => some 20
  | .counter => none

/-- An interrupt of realm `r` for thread `t` (R465): taken at S, held in RLM.BIND with an H interrupt, or `discard`ed. One of
realm 0 is taken at H, or at S when its source names S. A fenced core's threads take none (R146). -/
def State.routeInterrupt (s : State) (t : Nat) (cls : IntClass) (r : Nat) (atS : Bool) (discard : State → State) : State :=
  let th := s.thread t
  if (s.core (coreOf t)).fenced then s
  else if r = 0 then s.pend t (!(atS && decide (th.realm = 0))) cls
  else if th.realm.toNat = r then s.pend t false cls
  else if s.boundTo t r && decide (th.realm = 0) && (s.realmState r = realmStopped || s.realmState r = realmRunning)
      && !s.realmHalted r then
    match pendBit cls with
    | some b => (s.setFld (regRlmBind0 t) b b 1).pend t true cls
    | none => s
  else if cls = .counter then s
  else discard s

/-- The record of a discarded interrupt (R465). -/
def State.intDiscarded (t : Nat) (cls : IntClass) (r : Nat) (s : State) : State :=
  s.emit (dieOf t) (t % 40) 0xE006 r [(s.tidOf t).toNat, IntClassSub cls]

/-- An interrupt that names no thread of its realm is discarded: C002h with the context for a completion ring, else E006h, whose
origin is the thread where there is one (R11, R418, R465). -/
def State.intRefused (h : Hdr) (tid : BitVec 16) (cls : IntClass) (s : State) : State :=
  let (die, src) := match posOfTid tid.toNat with
    | some t => if s.threadExists t then (dieOf t, t % 40) else (12, 81)
    | none => (12, 81)
  if cls = .ring then s.emit 12 (agentUnit h.src) 0xC002 h.realm.toNat [h.addr.toNat, tid.toNat]
  else s.emit die src 0xE006 h.realm.toNat [tid.toNat, IntClassSub cls]

/-- An interrupt of rank 9 is resolved: it takes its way (R465). -/
def State.actInterrupt (s : State) (t : Nat) (cls : IntClass) (realm : Realm) (atS : Bool) (via : Option (Hdr × BitVec 16)) : State :=
  if s.threadExists t then
    s.routeInterrupt t cls realm.toNat atS (match via with
      | some (h, tid) => State.intRefused h tid cls
      | none => State.intDiscarded t cls realm.toNat)
  else s

/-- A timer of rank 9 is resolved: clause time has reached the compare value (R107). -/
def State.actTimer (s : State) (t : Nat) (h : Bool) : State :=
  if !s.threadExists t || (s.core (coreOf t)).fenced then s
  else if timerDue s.clause (((s.thread t).bank h).tcmp) then s.pend t h .timer else s

/-- R109, R465: an interrupt of realm `realm` is sampled; `atS`: its source names S of realm 0. It waits for the resolution of its
clause at rank 9 (R27, R40). No thread of a disabled core or fenced die exists to interrupt (R11, R541): nothing happens (log entry
41). -/
def execInterrupt (t : ThreadPos) (cls : IntClass) (realm : Realm) (atS : Bool) (s : State) : Host.Outcome State Fault Refusal :=
  .next (if s.threadExists t.val then s.localEvent (.interrupt t.val cls realm atS none) 9 (dieOf t.val) (t.val % 40) else s)

/-- R107: clause time reaches c.tcmp, or c.htcmp when `h`: an event of rank 9. -/
def execTimerCompare (t : ThreadPos) (h : Bool) (s : State) : Host.Outcome State Fault Refusal :=
  .next (if !s.threadExists t.val || (s.core (coreOf t.val)).fenced then s
    else if timerDue s.clause (((s.thread t.val).bank h).tcmp) then s.localEvent (.timer t.val h) 9 (dieOf t.val) (t.val % 40) else s)

/-! ## Residue (R144 to R146) -/

/-- The core is fenced: its threads stop and its merging buffer is discarded (R145). -/
def State.fenceCore (s : State) (c : Nat) : State := s.modCore c (fun k => { k with fenced := true, mb := [] })

/-- The parameters of a residue record (R154). -/
def State.residueParams (s : State) (t unit : Nat) : List Nat :=
  let pc := (s.thread t).pc.toNat
  [(s.tidOf t).toNat, unit, pc % 2 ^ 32, pc / 2 ^ 32]

/-- R144: younger work is squashed, and the marked instruction is executed again, alone. Without a new mismatch it retires next, before
any interrupt; with one, the core is fenced. A mark left by an injection decides the unit and the outcome (R615). -/
def State.residueRetry (s : State) (t unit : Nat) (again : Bool) : State :=
  let th := s.thread t
  let (unit, again) := th.residue.getD (unit, again)
  let ps := s.residueParams t unit
  if !again then
    let s := ((s.squash t).modThread t (fun y => { y with residue := none, retried := true })).modCore (coreOf t) (fun k =>
      { k with retries := if k.retries = BitVec.allOnes 32 then k.retries else k.retries + 1 })
    (s.countEv t 0x12).ce (dieOf t) (t % 40) 0x3040 th.realm.toNat ps
  else
    let s := ((s.squash t).modThread t (fun y => { y with residue := none })).fenceCore (coreOf t)
    if th.realm = 0 ∨ (s.thread (siblingOf t)).realm = 0 then s.ueP (dieOf t) (t % 40) 0x5040 th.realm.toNat ps
    else s.ueR (dieOf t) (t % 40) 0x4040 0x5040 th.realm.toNat ps

/-- R144. -/
def execResidueRetry (t : ThreadPos) (unit : Fin 8) (again : Bool) (s : State) : Host.Outcome State Fault Refusal :=
  .next (if s.threadExists t.val && s.running && !(s.core (coreOf t.val)).fenced && decide ((s.thread t.val).wait = .ready) then
    s.residueRetry t.val unit.val again else s)

/-! ## A and D (R213) -/

/-- R213: the walker's compare-and-swap of the entry goes to its home. -/
def State.sendAd (s : State) (t : Nat) (a : AdUpdate) : State :=
  let (tid, s1) := s.takeTid (coreOf t)
  let line := lineOf a.ea
  let args : AtomArgs := { op := .cas, wide := true, off := BitVec.ofNat 6 (a.ea % 64), operand := a.new, compare := a.old }
  let m : Msg := { type := .atom, hdr := s1.coreHdr (coreOf t) t line tid (s1.thread t).realm, body := .atom args }
  let (s1, ok) := s1.sendCredited t 0 m
  if ok then s1.modThread t (fun y => { y with ad := some { a with tid := some tid } }) else s

/-- R213. -/
def execAdUpdate (t : ThreadPos) (s : State) : Host.Outcome State Fault Refusal :=
  .next (match (s.thread t.val).ad with
    | some a => if s.threadExists t.val && a.tid.isNone then s.sendAd t.val a else s
    | none => s)

/-- The answer to the walker's compare-and-swap: the walk goes on, or restarts from level 4 when the entry had changed. -/
def State.adAnswer (s : State) (t : Nat) (a : AdUpdate) (old : Word) : State :=
  let s := s.modThread t (fun y => { y with ad := none })
  if old = a.old then s else s.modCore (coreOf t) (fun k => k.dropVa (s.thread t) a.va)

/-! ## TLBI timeout (R221) -/

/-- R221: a TLBI that every package has not performed within 1,000,000 clauses. -/
def execTransTlbiTimeout (t : ThreadPos) (seq : BitVec 16) (s : State) : Host.Outcome State Fault Refusal :=
  let th := s.thread t.val
  .next (match th.tlbis.find? (fun o => o.seq = seq) with
    | some o =>
      if s.threadExists t.val ∧ s.clause.toNat ≥ o.issued.toNat + 1000000 then
        s.ueP (dieOf t.val) (t.val % 40) 0x5060 th.realm.toNat
          [(s.tidOf t.val).toNat, bits o.control 31 0, bits o.va 31 0, bits o.va 56 32]
      else s
    | none => s)

end Sys2Proof.Machine
end

