-- ==== Sys2Proof/Machine/DieSnoop.lean ====
section
/-! DEFINITION. How a compute die answers snoops (07_coherence_protocol.md R246, R250, R251, R263; 05_core_caches.md R169). -/
namespace Sys2Proof.Machine
open Sys2Proof

/-! ## The copies of a die -/

/-- Where a copy of a line stands on a die: the L2 or the eviction buffer of a core (0 to 239), or the L3. -/
inductive Place where
  | l2 (core : Nat)
  | eb (core : Nat)
  | l1 (core : Nat)
  | l3
  deriving DecidableEq, Repr

/-- A copy: its place, state and data. -/
structure Copy where
  place : Place
  st : CState
  data : Line
  /-- an eviction of it has been issued: its forward carries WBP (R246 rows WB and EV) -/
  wbp : Bool := false
  /-- its L2 line is in OF: its forward carries BROKEN -/
  frozen : Bool := false
  bad : Bool := false
  deriving DecidableEq, Repr

/-- The copies of one core. A copy that a snoop has taken, or whose data an error has discarded, is none (R246). -/
def Core.copies (k : Core) (c : Nat) (a : LineAddr) : List Copy :=
  (match k.l2Find a with
   | some (_, v) => if v.st = .I then [] else [{ place := .l2 c, st := v.st, data := v.data, frozen := v.frozen, bad := decide (v.bad ≥ 2) }]
   | none => match k.l1dFind a with
     | some (_, x) => [{ place := .l1 c, st := .S, data := x.data, bad := x.bad }]
     | none => match k.l1iFind a with
       | some (_, x) => [{ place := .l1 c, st := .S, data := x.data, bad := x.bad }]
       | none => []) ++
  (match k.ebFind a with
   | some e => if e.taken || e.gone then [] else [{ place := .eb c, st := e.st, data := e.data, wbp := e.issued, bad := decide (e.bad ≥ 2) }]
   | none => [])

/-- The copies of a die: of the cores its snoop filter lists, and of its L3. -/
def State.dieCopies (s : State) (die : Nat) (a : LineAddr) : List Copy :=
  let d := s.die die
  (match d.sfFind a with
   | some e => e.cores.foldl (fun l o => l ++ (s.core (die * 20 + o)).copies (die * 20 + o) a) []
   | none => []) ++
  (match d.l3Find a with
   | some (_, v) => [{ place := .l3, st := v.st, data := v.data, bad := decide (v.bad ≥ 2) }]
   | none => [])

/-- An owner's copy: M, O or E. -/
def Copy.owns (c : Copy) : Bool := decide (c.st = .M ∨ c.st = .O ∨ c.st = .E)
/-- Dirty data: M or O. -/
def Copy.dirty (c : Copy) : Bool := decide (c.st = .M ∨ c.st = .O)

/-! ## What a snoop does to copies -/

/-- The copy that an outstanding Upg of the core still holds is now `st` (R246 row UM). -/
def Core.upgHeld (k : Core) (a : LineAddr) (st : CState) : Core :=
  { k with txns := k.txns.map (fun (x : Txn) => if x.line = a ∧ x.kind = MsgType.upg then { x with held := st } else x) }

/-- Removes a copy: a frozen one stays in OF without data (R246 row OF), a pending eviction is freed, an issued one becomes WI
(R169). An Upg outstanding on it goes on as RdX (R246 row UM). -/
def State.removeCopy (s : State) (die : Nat) (a : LineAddr) (p : Copy) : State :=
  match p.place with
  | .l3 => s.modDie die (fun d => d.l3Drop a)
  | .l1 c => ((s.modCore c (fun k => k.l1Drop a)).modDie die (fun d => d.sfRemove a (c % 20))).snoopWakes c a
  | .l2 c =>
    let s := s.modCore c (fun k =>
      let k := k.upgHeld a .I
      if p.frozen then (k.l1Drop a).l2Mod a (fun v => { v with st := .I }) else k.l2Drop a)
    (s.modDie die (fun d => d.sfRemove a (c % 20))).snoopWakes c a
  | .eb c =>
    let s := s.modCore c (fun k =>
      if p.wbp then k.ebMod a (fun e => { e with taken := true }) else k.ebDrop a)
    if p.wbp then s else s.modDie die (fun d => d.sfRemove a (c % 20))

def State.removeCopies (s : State) (die : Nat) (a : LineAddr) : List Copy → State
  | [] => s
  | p :: l => (s.removeCopy die a p).removeCopies die a l

/-- The state of a copy changes to `st`. -/
def State.setCopy (s : State) (die : Nat) (a : LineAddr) (p : Copy) (st : CState) : State :=
  match p.place with
  | .l3 => s.modDie die (fun d => d.l3Mod a (fun v => { v with st := st }))
  | .l1 _ => s
  | .l2 c => s.modCore c (fun k => (k.l2Mod a (fun v => { v with st := st })).upgHeld a st)
  | .eb c => s.modCore c (fun k => k.ebMod a (fun e => { e with st := st }))

def State.setCopies (s : State) (die : Nat) (a : LineAddr) (st : CState) : List Copy → State
  | [] => s
  | p :: l => (s.setCopy die a p st).setCopies die a st l

/-- The snoop filter's owner and state follow the copies that are left. -/
def State.refreshSf (s : State) (die : Nat) (a : LineAddr) : State :=
  let cs := s.dieCopies die a
  let owner := cs.findSome? (fun p => if p.owns then (match p.place with
    | .l2 c => some (c % 20)
    | .eb c => some (c % 20)
    | _ => none) else none)
  let st := (cs.find? (fun p => p.owns && decide (p.place ≠ .l3))).map (fun p => p.st)
  s.modDie die (fun d => match d.sfFind a with
    | some e => d.sfSet a { e with owner := owner, st := st.getD (if e.cores.isEmpty then .I else .S) }
    | none => d)

/-! ## Answers (R246, R251) -/

/-- The agent h of this package for a line. -/
def State.agentH (s : State) (a : LineAddr) : BitVec 16 := homeAgentId s.pkgNum (s.chanOf (lineBase a))

/-- The answer of a die to agent h, with the transaction of the snoop. -/
def State.answer (s : State) (die : Nat) (h : Hdr) (ty : MsgType) (fl : Flags) (b : Body) : State :=
  s.send { type := ty, hdr := { h with src := agentId s.pkgNum die 48, dst := s.agentH h.addr, flags := fl, grant := .I }, body := b }

/-- Data of an owner's copy to the requester that the snoop names (log entry 19). -/
def State.forward (s : State) (die : Nat) (h : Hdr) (ty : MsgType) (g : CState) (l : Line) : State :=
  s.send { type := ty, hdr := { h with src := agentId s.pkgNum die 48, dst := h.src, grant := g, flags := { fwd := true } }, body := .line l }

/-- The owner's copy, checked as it is read (R179); none where it has been lost. -/
def State.readOwner (s : State) (die : Nat) (a : LineAddr) (p : Copy) : State × Option Copy :=
  match p.place with
  | .l2 c => let (s, v) := s.l2Check c a true; (s, v.map (fun v => { p with data := v.data }))
  | .l3 => let (s, v) := s.l3Check die a; (s, v.map (fun v => { p with data := v.data }))
  | .eb c => let (s, v) := s.ebCheck c a; (s, v.map (fun v => { p with data := v.data }))
  | .l1 _ => (s, some p)

/-- The answer of a die without an owner's copy to SnpS or SnpC: its S copies stay (R251). -/
def State.sharedAnswer (s : State) (die : Nat) (h : Hdr) : State :=
  if (s.dieCopies die h.addr).isEmpty then s.answer die h .snpNone {} .none else s.answer die h .snpAck { keepS := true } .none

/-- The answer of a die without an owner's copy that can forward to SnpX: its copies go (R251). -/
def State.dropAnswer (s : State) (die : Nat) (h : Hdr) : State :=
  let cs := s.dieCopies die h.addr
  let s := (s.removeCopies die h.addr cs).refreshSf die h.addr
  if cs.isEmpty then s.answer die h .snpNone {} .none else s.answer die h .snpAck {} .none

/-- SnpS (R246, R251): the owner forwards a shared copy; a die that holds only S keeps it. A clean copy found bad is none; a dirty one
is lost (R179, R249). -/
def State.dieSnpS (s : State) (die : Nat) (h : Hdr) : State :=
  let cs := s.dieCopies die h.addr
  match cs.find? Copy.owns with
  | none => s.sharedAnswer die h
  | some p =>
    let (s, p') := s.readOwner die h.addr p
    match p' with
    | none => if p.dirty then s.answer die h .fwdAck { lost := true } (.state .I) else (s.refreshSf die h.addr).sharedAnswer die h
    | some p =>
      let st := shareState p.st
      let s := (s.setCopy die h.addr p st).refreshSf die h.addr
      (s.forward die h .data .S p.data).answer die h .fwdAck { dirty := p.dirty, wbp := p.wbp, broken := p.frozen } (.state st)

/-- A PENDING entry in E: a snoop that removes it gets no data from it (R169). -/
def Copy.quietE (c : Copy) : Bool := match c.place with
  | .eb _ => !c.wbp && decide (c.st = .E)
  | _ => false

/-- SnpX (R246, R251): the owner forwards the line, and the die keeps no copy. -/
def State.dieSnpX (s : State) (die : Nat) (h : Hdr) : State :=
  let cs := s.dieCopies die h.addr
  match cs.find? (fun p => p.owns && !p.quietE) with
  | none => s.dropAnswer die h
  | some p =>
    let (s, p') := s.readOwner die h.addr p
    match p' with
    | none => if !p.dirty then s.dropAnswer die h
      else ((s.removeCopies die h.addr (s.dieCopies die h.addr)).refreshSf die h.addr).answer die h .fwdAck { lost := true } (.state .I)
    | some p =>
      let s := (s.removeCopies die h.addr cs).refreshSf die h.addr
      (s.forward die h .data (if p.dirty then .M else .E) p.data).answer die h .fwdAck
        { dirty := p.dirty, wbp := p.wbp, broken := p.frozen } (.state .I)

/-- SnpI (R246): every copy of the die is removed. -/
def State.dieSnpI (s : State) (die : Nat) (h : Hdr) : State :=
  let cs := s.dieCopies die h.addr
  let s := (s.removeCopies die h.addr cs).refreshSf die h.addr
  if cs.isEmpty then s.answer die h .snpNone {} .none
  else s.answer die h .snpAck { wbp := cs.any (fun p => p.wbp && p.dirty), broken := cs.any (fun p => p.frozen) } .none

/-- SnpH (R246): dirty data goes home; the copies are removed, or stay S with KEEP_S. -/
def State.dieSnpH (s : State) (die : Nat) (h : Hdr) : State :=
  let cs := s.dieCopies die h.addr
  let after (s : State) : State :=
    if h.flags.keepS then
      -- an issued writeback is taken; every other copy stays in S (R246 rows WB and EV)
      let (gone, kept) := cs.partition (fun p => p.wbp)
      ((s.removeCopies die h.addr gone).setCopies die h.addr .S kept).refreshSf die h.addr
    else (s.removeCopies die h.addr cs).refreshSf die h.addr
  match cs.find? Copy.dirty with
  | some p =>
    let (s, p') := s.readOwner die h.addr p
    match p' with
    | none => (after s).answer die h .snpData { lost := true } .none
    | some p => (after s).answer die h .snpData { dirty := true, broken := p.frozen } (.line p.data)
  | none => if cs.isEmpty then s.answer die h .snpNone {} .none
    else (after s).answer die h .snpAck { broken := cs.any (fun p => p.frozen) } .none

/-- SnpC (R246, R251): dirty data goes home, and the owner keeps a clean copy: M becomes E, O becomes S. -/
def State.dieSnpC (s : State) (die : Nat) (h : Hdr) : State :=
  let cs := s.dieCopies die h.addr
  match cs.find? Copy.owns with
  | none => s.sharedAnswer die h
  | some p =>
    if !p.dirty then s.answer die h .snpAck { broken := p.frozen } .none
    else
      let (s, p') := s.readOwner die h.addr p
      match p' with
      | none => s.answer die h .snpData { lost := true } .none
      | some p =>
        -- an entry in WB stays in WB
        let s := if p.wbp then s else (s.setCopy die h.addr p (if p.st = .M then .E else .S)).refreshSf die h.addr
        s.answer die h .snpData { dirty := true, broken := p.frozen } (.line p.data)

/-- RdSub (R246, R263): an L2 that owns the line, not frozen, forwards it subjunctively and freezes it; every other state answers
FORWARDED 0. GRANT S stands for an RdS and M for an RdX (log entry 19). -/
def State.dieRdSub (s : State) (die : Nat) (h : Hdr) : State :=
  let cs := s.dieCopies die h.addr
  let sf0 := s.answer die h .subFwd {} (.state .I)
  match cs.find? (fun p => p.owns && !p.frozen && !p.wbp) with
  | some p => match p.place with
    | .l2 c =>
      -- a copy whose Upg is outstanding is in UM
      if ((s.core c).txnFind h.addr).isSome then sf0
      else
      let (s, p') := s.readOwner die h.addr p
      (match p' with
      | none => s.answer die h .subFwd {} (.state .I)
      | some p =>
        let s := s.modCore c (fun k => k.l2Mod h.addr (fun v => { v with frozen := true, frozenX := decide (h.grant = .M) }))
        (s.forward die h .dataSub h.grant p.data).answer die h .subFwd { forwarded := true, dirty := p.dirty } (.state p.st))
    | _ => sf0
  | none => sf0

/-- The row of R250 that the die's entry stands in, numbered from 0: NT, SH, OW, BZ (R281). -/
def State.dieRow (s : State) (die : Nat) (a : LineAddr) : Nat := match (s.die die).sfFind a with
  | none => 0
  | some e => if e.busy then 3 else if e.owner.isSome then 2 else 1

/-- SubDone (R246): the OF copy is unfrozen; APPLY makes the change of SnpS for an RdS and of SnpX for an RdX. -/
def State.dieSubDone (s : State) (die : Nat) (h : Hdr) (apply : Bool) : State :=
  let a := h.addr
  match (upTo 20).find? (fun o => match (s.core (die * 20 + o)).l2Find a with
      | some (_, v) => v.frozen
      | none => false) with
  | none => s.ueP die 56 0x5070 h.realm.toNat [(agentId s.pkgNum die 48).toNat + 0x1D * 2 ^ 16, s.dieRow die a, lineP0 a, lineP1 a]
  | some o =>
    let c := die * 20 + o
    match (s.core c).l2Find a with
    | none => s
    | some (_, v) =>
      let s := s.modCore c (fun k => k.l2Mod a (fun v => { v with frozen := false, frozenX := false }))
      let s :=
        if v.st = .I then (s.modCore c (fun k => k.l2Drop a)).modDie die (fun d => d.sfRemove a o)
        else if !apply then s
        else if v.frozenX then
          (((s.modCore c (fun k => k.l2Drop a)).modDie die (fun d => d.sfRemove a o)).snoopWakes c a)
        else s.modCore c (fun k => k.l2Mod a (fun v => { v with st := shareState v.st }))
      s.refreshSf die a

/-- A snoop that reaches a die (R250). The snoop filter's own errors are those of R281. -/
def State.dieSnoop (s : State) (die : Nat) (ty : MsgType) (h : Hdr) : State :=
  let bad := match (s.die die).sfFind h.addr with
    | some e => e.bad
    | none => 0
  if bad ≥ 2 then s.ueP die 56 0x5073 h.realm.toNat ((s.die die).sfParams h.addr)
  else
    let s := s.sfCorrect die h.addr h.realm
    match ty with
    | .snpS => s.dieSnpS die h
    | .snpX => s.dieSnpX die h
    | .snpI => s.dieSnpI die h
    | .snpH => s.dieSnpH die h
    | .snpC => s.dieSnpC die h
    | .rdSub => s.dieRdSub die h
    | _ => s

end Sys2Proof.Machine
end

