-- ==== Sys2Proof/Machine/Ports.lean ====
section
/-! DEFINITION. How the agents of the I/O die that keep no cache read and write memory: predicate engines, the endpoint and root
ports, the collector, the management controller (11_predicate_engines.md R399 to R401; 13_platform_endpoint.md R490, R520). Each
sends RdS and WrP to agent h of its package and takes the answers in its port. -/
namespace Sys2Proof.Machine
open Sys2Proof

def State.port (s : State) (u : Nat) : Port := Tbl.get {} s.ports u
def State.modPort (s : State) (u : Nat) (f : Port → Port) : State := { s with ports := Tbl.set s.ports u (f (s.port u)) }

/-- The rank of an agent of the I/O die (R238): an engine uses its number. -/
def State.portRank (s : State) (u : Nat) : BitVec 16 :=
  BitVec.ofNat 16 (s.pkgNum * 2048 + 12 * 128 + 0x70 + (if 40 ≤ u ∧ u < 56 then u - 40 else u % 16))

def State.portHdr (s : State) (u : Nat) (a : LineAddr) (tid : BitVec 12) (realm : Realm) : Hdr :=
  { tid := tid, src := agentId s.pkgNum 12 u, dst := s.agentH a, addr := a, stamp := s.clause, rank := s.portRank u, realm := realm }

/-- A line that an engine reads (event 02h) or writes (03h) counts against its realm's cap (R434, R655). -/
def State.noteEngine (s : State) (u r ev : Nat) : State :=
  if 40 ≤ u ∧ u < 56 then
    ({ s with capUsed := Tbl.set s.capUsed r (Tbl.get 0 s.capUsed r + 1) }).countUncore (slotEngine (u - 40) 0) 4 ev 1 (some r)
  else s

/-- The line, once it has come; otherwise it is asked for (R399). A line whose read failed is not asked for again. An engine has
at most 256 reads outstanding (R435). -/
def State.portRead (s : State) (u : Nat) (realm : Realm) (a : LineAddr) : State × Option Line :=
  let p := s.port u
  match p.lines.find? (fun x => decide (x.1 = a)) with
  | some x => (s, some x.2)
  | none =>
    if p.reads.any (fun x => decide (x.2 = a)) || p.failed.contains a || s.sourcesHeld ||
        (decide (40 ≤ u ∧ u < 56) && decide (256 ≤ p.reads.length)) then (s, none)
    else
      let s1 := s.modPort u (fun p => { p with reads := p.reads ++ [(p.nextTid, a)], nextTid := p.nextTid + 1 })
      ((s1.noteEngine u realm.toNat 2).send { type := .rdS, hdr := s.portHdr u a p.nextTid realm }, none)

/-- Every line of a list, asked for at once; what they hold when all have come. -/
def State.portReadAll (s : State) (u : Nat) (realm : Realm) : List LineAddr → State × Option (List Line)
  | [] => (s, some [])
  | a :: l =>
    let (s, d) := s.portRead u realm a
    let (s, ds) := s.portReadAll u realm l
    (s, match d, ds with
      | some x, some xs => some (x :: xs)
      | _, _ => none)

/-- A write of the bytes of `m` (R400). -/
def State.portWrite (s : State) (u : Nat) (realm : Realm) (a : LineAddr) (d : Line) (m : BitVec 64) : State :=
  let p := s.port u
  let s1 := s.modPort u (fun p => { p with writes := p.writes ++ [(p.nextTid, a)], nextTid := p.nextTid + 1 })
  (s1.noteEngine u realm.toNat 3).send { type := .wrP, hdr := s.portHdr u a p.nextTid realm, body := .bytes d m }

/-- Writes `n` bytes of `v` at `pa`, line by line. -/
def State.portWriteBytes (s : State) (u : Nat) (realm : Realm) (pa n v : Nat) : Nat → State
  | 0 => s
  | k + 1 =>
    if n = 0 then s
    else
      let off := pa % 64
      let len := if 64 - off < n then 64 - off else n
      (s.portWrite u realm (lineOf pa) (putLine 0 off len v) (byteMask off len)).portWriteBytes u realm (pa + len) (n - len)
        (v / 2 ^ (8 * len)) k

/-- The lines that hold bytes [pa, pa + n). -/
def linesOf (pa n : Nat) : List LineAddr :=
  if n = 0 then [] else (upTo ((pa + n - 1) / 64 - pa / 64 + 1)).map (fun i => BitVec.ofNat 46 (pa / 64 + i))

/-- `n` bytes at `pa` out of the lines that hold them, little-endian. -/
def bytesOf (pa n : Nat) (ls : List Line) : Nat :=
  let whole := (ls.foldr (fun l v => l.toNat + v * 2 ^ 512) 0)
  whole / 2 ^ (8 * (pa % 64)) % 2 ^ (8 * n)

/-- Reads `n` bytes at `pa`, once their lines have come. -/
def State.portReadBytes (s : State) (u : Nat) (realm : Realm) (pa n : Nat) : State × Option Nat :=
  let (s, r) := s.portReadAll u realm (linesOf pa n)
  (s, r.map (bytesOf pa n))

/-- The port forgets what it has read. -/
def State.portClear (s : State) (u : Nat) : State := s.modPort u (fun p => { p with lines := [], failed := [] })
/-- Every write of the port has completed. -/
def State.portQuiet (s : State) (u : Nat) : Bool := (s.port u).writes.isEmpty

/-- A read or write of a port is complete, and is acknowledged; one that carries LOST brought nothing (R391, R455). -/
def State.portDone (s : State) (u : Nat) (h : Hdr) : State :=
  let s := s.modPort u (fun p =>
    let failed := if h.flags.lost then h.addr :: p.failed else p.failed
    { p with got := p.got.erase h.tid, cmps := p.cmps.filter (fun x => decide (x.tid ≠ h.tid)),
             reads := p.reads.filter (fun x => decide (x.1 ≠ h.tid)), writes := p.writes.filter (fun x => decide (x.1 ≠ h.tid)),
             failed := failed, refused := if h.flags.lost && h.flags.stale then h.addr :: p.refused else p.refused })
  if h.flags.stale && h.flags.lost then s
  else s.send { type := .cmpAck, hdr := { h with src := h.dst, dst := h.src, stamp := s.clause, flags := {}, grant := .I, cr := 0 } }

/-- A Cmp for a port. That of a read waits for the Data that is due (R247). -/
def State.portCmp (s : State) (u : Nat) (h : Hdr) : State :=
  let p := s.port u
  if p.reads.any (fun x => decide (x.1 = h.tid)) && !h.flags.lost && !p.got.contains h.tid then
    s.modPort u (fun p => { p with cmps := p.cmps ++ [h] })
  else s.portDone u h

/-- The Data of a port's read has come: a Cmp that waited for it is acknowledged (R247). -/
def State.portGot (s : State) (u : Nat) (tid : BitVec 12) : State :=
  match (s.port u).cmps.find? (fun x => decide (x.tid = tid)) with
  | some h => s.portDone u h
  | none => s.modPort u (fun p => if p.reads.any (fun x => decide (x.1 = tid)) then { p with got := tid :: p.got } else p)

/-- Data for a port. -/
def State.portData (s : State) (u : Nat) (h : Hdr) (l : Line) : State :=
  (s.modPort u (fun p => if p.reads.any (fun x => decide (x.1 = h.tid)) then { p with lines := (h.addr, l) :: p.lines.filter (fun x => decide (x.1 ≠ h.addr)) } else p)).portGot u h.tid

end Sys2Proof.Machine
end

