-- ==== Sys2Proof/Machine/Engines.lean ====
section
/-! DEFINITION. The predicate engines' contexts (11_predicate_engines.md R402 to R413, R418, R433 to R439): what an engine serves,
its doorbell lines, how a descriptor ends. The operations stand in EngineOps.lean. -/
namespace Sys2Proof.Machine
open Sys2Proof

/-! ## Contexts -/

def State.ctx (s : State) (c : Nat) : RingCtx := Tbl.get {} s.ctxs c
def State.setCtx (s : State) (c : Nat) (x : RingCtx) : State := { s with ctxs := Tbl.set s.ctxs c x }
def State.ctxRun (s : State) (c : Nat) : CtxRun := Tbl.get {} s.ctxRuns c
def State.setCtxRun (s : State) (c : Nat) (x : CtxRun) : State := { s with ctxRuns := Tbl.set s.ctxRuns c x }
def State.engine (s : State) (e : Nat) : Engine := Tbl.get {} s.engines e
def State.setEngine (s : State) (e : Nat) (x : Engine) : State := { s with engines := Tbl.set s.engines e x }

def RingCtx.ringLog (x : RingCtx) : Nat := bits x.w0 4 0
def RingCtx.cringLog (x : RingCtx) : Nat := bits x.w1 4 0
def RingCtx.dbLine (x : RingCtx) : LineAddr := BitVec.ofNat 46 (bits x.w2 51 6)
def RingCtx.engineOf (x : RingCtx) : Nat := bits x.w3 15 12
def RingCtx.priority (x : RingCtx) : Nat := bits x.w3 18 16
def RingCtx.head (x : RingCtx) : Nat := bits x.w4 31 0
def RingCtx.chead (x : RingCtx) : Nat := bits x.w4 63 32
def RingCtx.tailSeen (x : RingCtx) : Nat := bits x.w5 31 0
def RingCtx.resumeSeen (x : RingCtx) : Nat := bits x.w5 63 32
def RingCtx.state (x : RingCtx) : Nat := bits x.w6 2 0

/-- STATE of a context (R403). -/
def ctxDisabled : Nat := 0
def ctxEnabled : Nat := 1
def ctxError : Nat := 2
def ctxDraining : Nat := 3
def ctxFenced : Nat := 4

def State.setCtxState (s : State) (c st : Nat) : State :=
  (s.setCtx c { (s.ctx c) with w6 := putBits (s.ctx c).w6 2 0 st }).countContexts [(s.ctx c).engineOf]

/-- `a` − `b` modulo 2^32 (R405, R411). -/
def sub32 (a b : Nat) : Nat := (a % 2 ^ 32 + 2 ^ 32 - b % 2 ^ 32) % 2 ^ 32

/-- Statuses of a descriptor (R436). -/
def peOk : Nat := 0
def peBadOp : Nat := 1
def peBadField : Nat := 2
def peNotLocal : Nat := 3
def peOwner : Nat := 4
def peOverlap : Nat := 5
def peOutFull : Nat := 6
def pePartFull : Nat := 7
def peRange : Nat := 8
def peAborted : Nat := 9
def peDbMismatch : Nat := 10
def peTailRange : Nat := 11

/-- The memory port of an engine. -/
def engPort (e : Nat) : Nat := 40 + e

/-- The engine may act: the package runs, the engine is available and not fenced, its domain is open (R397, R438, R557, R597). -/
def State.engineOn (s : State) (e : Nat) : Bool :=
  s.running && decide (s.fld (regPenStatus e) 2 1 = 0) && s.domainOpen (60 + e)

def State.engineCount (s : State) (e ev k : Nat) (r : Nat) : State := s.countUncore (slotEngine e 0) 4 ev k (some r)

/-- The last error of an engine (R441). -/
def State.engineErr (s : State) (e code status c : Nat) : State :=
  s.setReg (regPenLasterr e) (putBits (putBits (putBits 0 63 48 code) 47 40 status) 13 0 c)

/-! ## Errors of the context store (R439) -/

/-- The context store reads a context: whether it may be used. -/
def State.ctxCheck (s : State) (c : Nat) : State × Bool :=
  let x := s.ctx c
  match Tbl.find s.ctxBad c with
  | none => (s, true)
  | some k =>
    let s := { s with ctxBad := Tbl.erase s.ctxBad c }
    let e := x.engineOf
    if k = 1 then ((s.engineErr e 0x30D1 0 c).ce 12 (40 + e) 0x30D1 x.realm [c], true)
    else
      let code := if x.realm = 0 then 0x50D1 else 0x40D1
      (((s.engineErr e code 0 c).stopCtxs (fun i => decide (i = c)) 0).ueR 12 (40 + e) 0x40D1 0x50D1 x.realm [c], false)

/-! ## Which context is served (R433, R434) -/

/-- The engine has begun a descriptor of the context that has not ended. -/
def CtxRun.begun (x : CtxRun) : Bool := match x.run with
  | some r => r.status.isNone
  | none => false
/-- A completion of the context is not yet settled (R418). -/
def CtxRun.completing (x : CtxRun) : Bool := x.bell.isSome || (match x.run with
  | some r => r.status.isSome
  | none => false)

/-- Every write of the context is complete. -/
def State.ctxQuiet (s : State) (e c : Nat) : Bool := (s.port (engPort e)).writes.all (fun w => !(s.ctxRun c).wrs.contains w.1)

/-- The writes at the engine's port from the `n`-th on are the context's. -/
def State.noteWrites (s : State) (e c n : Nat) : State :=
  let w := (s.port (engPort e)).writes.map (·.1)
  let r := s.ctxRun c
  s.setCtxRun c { r with wrs := r.wrs.filter (fun t => w.contains t) ++ w.drop n }

/-- The next descriptor asks for FENCE, as far as the engine has read it, and is not satisfied (R415). -/
def State.fenceWaits (s : State) (e : Nat) (x : CtxRun) : Bool := match x.run with
  | some r => decide (r.pos = 0) && bit (r.words.getD 0 0) 8 && !s.ctxQuiet e r.ctx
  | none => false

/-- The context's realm has reached its cap in this period (R434). -/
def State.capReached (s : State) (r : Nat) : Bool :=
  let cap := s.fld (regPenRealmcap r) 15 0
  decide (s.fld regPenArb 0 0 = 1) && decide (cap ≠ 0) && decide (cap ≤ Tbl.get 0 s.capUsed r)

/-- A context has work. A descriptor that has begun goes on in ERROR and DRAINING too (log entry 31). -/
def State.hasWork (s : State) (e c : Nat) : Bool :=
  let x := s.ctx c
  let r := s.ctxRun c
  decide (x.engineOf = e) && !r.completing && !s.capReached x.realm &&
    ((decide (x.state = ctxEnabled) && (r.begun || decide (x.head ≠ x.tailSeen)) && !s.fenceWaits e r) ||
     (decide (x.state = ctxDraining ∨ x.state = ctxError) && r.begun))

def insertNat (a : Nat) : List Nat → List Nat
  | [] => [a]
  | b :: l => if a ≤ b then a :: b :: l else b :: insertNat a l
def sortNat (l : List Nat) : List Nat := l.foldr insertNat []

/-- The contexts of the store, ascending. -/
def State.ctxList (s : State) : List Nat := sortNat (s.ctxs.map (fun p => p.1)).eraseDups

/-- The list, beginning after `k`. -/
def after (k : Option Nat) (l : List Nat) : List Nat := match k with
  | none => l
  | some k => l.filter (fun i => decide (k < i)) ++ l.filter (fun i => decide (i ≤ k))

/-- R433: the highest priority with work, in round robin. -/
def State.chooseBasic (s : State) (e : Nat) (l : List Nat) : Nat → Option Nat
  | 0 => none
  | p + 1 =>
    match (after (Tbl.find (s.engine e).last p) l).find? (fun c => decide ((s.ctx c).priority = p)) with
    | some c => some c
    | none => s.chooseBasic e l p

/-- The weight of a context; 0 acts as 1 (R434). -/
def State.ctxWeight (s : State) (c : Nat) : Nat :=
  let w := s.fld (regPenWeight (c / 8)) (8 * (c % 8) + 7) (8 * (c % 8))
  if w = 0 then 1 else w

/-- R434: deficit round robin, where a segment costs 255, the largest weight (log entry 31). -/
def State.chooseDrr (s : State) (d : Tbl Nat) (l : List Nat) : Nat → List Nat → Option (Nat × Tbl Nat)
  | 0, _ => none
  | k + 1, c :: rest =>
    let v := Tbl.get 0 d c + s.ctxWeight c
    if 255 ≤ v then some (c, Tbl.set d c (v - 255)) else s.chooseDrr (Tbl.set d c v) l k rest
  | k + 1, [] => match l with
    | [] => none
    | c :: rest =>
      let v := Tbl.get 0 d c + s.ctxWeight c
      if 255 ≤ v then some (c, Tbl.set d c (v - 255)) else s.chooseDrr (Tbl.set d c v) l k rest

/-- Contexts that would have work but for their realm's cap; each is counted once in a period (event 06h). -/
def State.countCaps (s : State) (e : Nat) : List Nat → State
  | [] => s
  | c :: l =>
    let x := s.ctx c
    let stopped := decide (x.engineOf = e) && decide (x.state = ctxEnabled) && s.capReached x.realm && !s.capHeld.contains x.realm &&
      ((s.ctxRun c).begun || decide (x.head ≠ x.tailSeen))
    (if stopped then ({ s with capHeld := x.realm :: s.capHeld }).engineCount e 6 1 x.realm else s).countCaps e l

/-- The engine begins a segment of a context, and a descriptor when none has begun (R415, R441). -/
def State.serve (s : State) (e c : Nat) : State :=
  let x := s.ctx c
  let r := s.ctxRun c
  let s := if r.begun then s else
    let run : EngRun := { head := x.head, ctx := c }
    (s.setCtxRun c { r with run := some run }).setReg (regPenProgress e) 0
  let s := s.setEngine e { (s.engine e) with cur := some c, past := false, last := Tbl.set (s.engine e).last x.priority c }
  let head := match (s.ctxRun c).run with
    | some y => y.head
    | none => x.head
  ((s.setFld (regPenStatus e) 0 0 1).setReg (regPenCurrent e)
    (putBits (putBits (putBits 0 63 63 1) 47 16 head) 13 0 c)).setReg (regPenProgress e)
      (BitVec.ofNat 64 (match (s.ctxRun c).run with
        | some y => y.pos
        | none => 0))

/-- The engine has no segment to run. -/
def State.engineIdle (s : State) (e : Nat) : State :=
  ((s.setEngine e { (s.engine e) with cur := none, past := false }).setFld (regPenStatus e) 0 0 0).setFld (regPenCurrent e) 63 63 0

/-- At a segment boundary the engine chooses the context to serve (R433, R434). -/
def State.choose (s : State) (e : Nat) : State :=
  let s := s.engineIdle e
  if !s.engineOn e then s
  else
    let all := s.ctxList
    let s := s.countCaps e all
    let l := all.filter (fun c => s.hasWork e c)
    if s.fld regPenArb 0 0 = 0 then
      match s.chooseBasic e l 8 with
      | none => s
      | some c =>
        let (s, ok) := s.ctxCheck c
        if ok then s.serve e c else s
    else
      let g := s.engine e
      let d := g.deficit.filter (fun p => l.contains p.1)
      match s.chooseDrr d l (256 * l.length) (after (Tbl.find g.last 8) l) with
      | none => s.setEngine e { g with deficit := d }
      | some (c, d) =>
        let (s, ok) := s.ctxCheck c
        if ok then (s.setEngine e { (s.engine e) with deficit := d, last := Tbl.set (s.engine e).last 8 c }).serve e c else s

/-- An idle engine looks for work. -/
def State.kick (s : State) (e : Nat) : State := if (s.engine e).cur.isNone then s.choose e else s

/-! ## The doorbell line (R407 to R411) -/

/-- The engine reads a context's doorbell line; while sources are held the read waits. -/
def State.readBell (s : State) (e c : Nat) : State :=
  if !s.engineOn e then s.setEngine e { (s.engine e) with due := c :: (s.engine e).due.filter (fun i => decide (i ≠ c)) }
  else
    let a := (s.ctx c).dbLine
    let u := engPort e
    let tid := (s.port u).nextTid
    let s := s.modPort u (fun p => { p with reads := p.reads ++ [(tid, a)], nextTid := tid + 1 })
    let s := s.setEngine e { (s.engine e) with bells := (tid, c) :: (s.engine e).bells, due := (s.engine e).due.filter (fun i => decide (i ≠ c)) }
    (s.noteEngine u (s.ctx c).realm 2).send { type := .rdS, hdr := s.portHdr u a tid (BitVec.ofNat 10 (s.ctx c).realm) }

def State.readBells (s : State) (e : Nat) : List Nat → State
  | [] => s
  | c :: l => (s.readBell e c).readBells e l

/-- A doorbell detection is resolved: the engine reads the line again (R409). -/
def State.detect (s : State) (e c : Nat) : State :=
  ((s.addFld (regPenCount1 e) 63 32 1).engineCount e 4 1 (s.ctx c).realm).readBell e c

/-- Doorbell detections of a list of contexts: events of rank 10, which their clause's resolution acts on (R27, R40). -/
def State.bellAll (s : State) (e : Nat) : List Nat → State
  | [] => s
  | c :: l => (s.localEvent (.doorbell e c) 10 12 (40 + e)).bellAll e l

/-- A monitor entry with an error is rebuilt from the context store, and its context gets a detection (R439). -/
def State.rebuildMonitors (s : State) : List Monitor → State
  | [] => s
  | m :: l =>
    if m.bad = 0 then s.rebuildMonitors l
    else
      let n := s.chanOf (lineBase m.line)
      let ix := ((s.monitors.filter (fun x => decide (s.chanOf (lineBase x.line) = n))).findIdx (fun x => decide (x = m)))
      let fixed : Monitor := { m with bad := 0 }
      let s := { s with monitors := s.monitors.map (fun x => if x = m then fixed else x) }
      let s := (s.engineErr m.engine 0x30D2 0 m.ctx).ce 12 (40 + m.engine) 0x30D2 (s.ctx m.ctx).realm [n, ix, if m.bad = 1 then 0 else 1]
      (s.bellAll m.engine [m.ctx]).rebuildMonitors l

/-- A snoop reaches engine `e`: SnpAck; armed entries of the line are disarmed, each a detection (R408, R409). -/
def State.engineSnoop (s : State) (e : Nat) (h : Hdr) : State :=
  let s := s.rebuildMonitors (s.monitors.filter (fun m => decide (m.line = h.addr)))
  let hit (m : Monitor) : Bool := decide (m.line = h.addr) && decide (m.engine = e) && m.armed
  let cs := (s.monitors.filter hit).map (fun m => m.ctx)
  let s := { s with monitors := s.monitors.map (fun (m : Monitor) => if hit m then { m with armed := false } else m) }
  let back : Hdr := { h with src := agentId s.pkgNum 12 (40 + e), dst := homeAgentId s.pkgNum (s.chanOf (lineBase h.addr)), flags := {}, cr := 0 }
  let s := s.send { type := .snpAck, hdr := { back with grant := .I } }
  s.bellAll e cs

/-- Fields of a doorbell line (R407). -/
def bellTail (l : Line) : Nat := lineNat l 0 4
def bellConsumed (l : Line) : Nat := lineNat l 4 4
def bellResume (l : Line) : Nat := lineNat l 8 4

/-- MAGIC, CTX and REALM match context `c` (R411 step 1). -/
def State.bellMatches (s : State) (c : Nat) (l : Line) : Bool :=
  decide (lineNat l 0x10 4 = 0x50454E44) && decide (lineNat l 0x14 2 = c) && decide (lineNat l 0x16 2 = (s.ctx c).realm)

/-- TAIL − HEAD and CHEAD − CONSUMED do not exceed their ring sizes (R405, R411). -/
def State.bellInRange (s : State) (c : Nat) (l : Line) : Bool :=
  let x := s.ctx c
  decide (sub32 (bellTail l) x.head ≤ 2 ^ x.ringLog) && decide (sub32 x.chead (bellConsumed l) ≤ 2 ^ x.cringLog)

/-- The context enters ERROR (R436); HEAD of the record is the context's as it then stands. -/
def State.ctxFail (s : State) (c status : Nat) : State :=
  let x := s.ctx c
  let e := x.engineOf
  ((s.setCtxState c ctxError).engineErr e 0xC000 status c).emit 12 (40 + e) 0xC000 x.realm [c, status, x.head, e]

/-- The engine acts on the contents of the doorbell line (R411). -/
def State.bellAct (s : State) (e c : Nat) (l : Line) : State :=
  let x := s.ctx c
  if !(x.state = ctxEnabled ∨ x.state = ctxError) then s
  else
    let bad : Option Nat := if !s.bellMatches c l then some peDbMismatch else if !s.bellInRange c l then some peTailRange else none
    match bad with
    | some st =>
      if x.state = ctxError then s
      else (s.setCtxRun c { (s.ctxRun c) with bell := some st, bellOut := false }).ctxFail c st
    | none =>
      let s := s.setCtxRun c { (s.ctxRun c) with consumed := bellConsumed l }
      let s := s.setCtx c { x with w5 := putBits x.w5 31 0 (bellTail l) }
      let s := if x.state = ctxError ∧ bellResume l ≠ x.resumeSeen then
          let y := s.ctx c
          (s.setCtx c { y with w5 := putBits y.w5 63 32 (bellResume l) }).setCtxState c ctxEnabled
        else s
      s.kick e

/-- The command of PEN.CTXCMD ends with a RESULT (R406, R442). -/
def State.ctxCmdDone (s : State) (result : Nat) : State :=
  ({ s with ctxJob := none }).setFld regPenCtxcmd 23 19 (result * 2)

def ctxrOk : Nat := 0
def ctxrState : Nat := 1
def ctxrBadField : Nat := 2
def ctxrNotLocal : Nat := 3
def ctxrOwner : Nat := 4
def ctxrDbMismatch : Nat := 5
def ctxrMonitorFull : Nat := 6
def ctxrUnavailable : Nat := 7
def ctxrTailRange : Nat := 8

def State.dropMonitor (s : State) (c : Nat) : State := { s with monitors := s.monitors.filter (fun m => decide (m.ctx ≠ c)) }

/-- Checks 5 and 6 of ENABLE, once the doorbell line has been read, and its success (R405). -/
def State.enableRead (s : State) (e c : Nat) (l : Line) : State :=
  if !s.bellMatches c l then (s.dropMonitor c).ctxCmdDone ctxrDbMismatch
  else if !s.bellInRange c l then (s.dropMonitor c).ctxCmdDone ctxrTailRange
  else
    let x := s.ctx c
    let fresh : CtxRun := { consumed := bellConsumed l }
    let s := (s.setCtx c { x with w5 := putBits (putBits 0 63 32 (bellResume l)) 31 0 (bellTail l) }).setCtxRun c fresh
    ((s.setCtxState c ctxEnabled).ctxCmdDone ctxrOk).kick e

/-- Data for an engine: a doorbell line is acted on, any other line waits in the port (R411). -/
def State.engineData (s : State) (e : Nat) (h : Hdr) (l : Line) : State :=
  match (s.engine e).bells.find? (fun b => decide (b.1 = h.tid)) with
  | none => s.portData (engPort e) h l
  | some (_, c) =>
    if !(s.port (engPort e)).reads.any (fun r => decide (r.1 = h.tid)) then s
    else
      let s := (s.setEngine e { (s.engine e) with bells := (s.engine e).bells.filter (fun b => decide (b.1 ≠ h.tid)) }).portGot (engPort e) h.tid
      if s.ctxJob = some (.reading c) then s.enableRead e c l else s.bellAct e c l

/-! ## The end of a descriptor (R418, R436) -/

/-- The thread of the completion interrupt is told (R418 step 4, R465): the message names the context, for the discard record. -/
def State.ringInterrupt (s : State) (e c : Nat) : State :=
  let x := s.ctx c
  let tid := bits x.w3 47 32
  let here : Bool := match posOfTid tid with
    | some t => s.threadExists t && (decide (x.realm = 0) || decide ((s.thread t).realm.toNat = x.realm) || s.boundTo t x.realm)
    | none => false
  if tid / 2048 = s.pkgNum ∧ !here then
    (s.engineErr e 0xC002 0 c).emit 12 (40 + e) 0xC002 x.realm [c, tid]
  else
    let dest : Hdr := { src := agentId s.pkgNum 12 (40 + e), dst := agentId (tid / 2048) 12 96, stamp := s.clause, addr := BitVec.ofNat 46 c }
    s.send { type := .interrupt, hdr := { dest with realm := BitVec.ofNat 10 x.realm }, body := .interrupt (BitVec.ofNat 16 tid) .ring false }

/-- A DRAINING context is DISABLED, and its command ends (R404). -/
def State.stopDone (s : State) (c : Nat) : State :=
  let s := s.setCtxState c ctxDisabled
  match s.ctxJob with
  | some (.stopping i) => if i = c then s.ctxCmdDone ctxrOk else s
  | _ => s

/-- A descriptor whose completion is written and whose writes are complete: HEAD advances, the state follows (R404, R418, R436). -/
def State.settleRun (s : State) (e c : Nat) (r : EngRun) : State :=
  let x := s.ctx c
  let st := r.status.getD 0
  let int := bit x.w3 19 && (bit (r.words.getD 0 0) 9 || decide (st ≠ peOk))
  let s := s.setCtxRun c { (s.ctxRun c) with run := none }
  let s := s.setCtx c { x with w4 := putBits x.w4 31 0 (r.head + 1), w6 := putBits x.w6 15 8 st }
  let s := (s.addFld (regPenCount0 e) 63 32 1).engineCount e 1 1 x.realm
  let s := if st = peOk then s else s.addFld (regPenCount0 e) 31 0 1
  let s := if int then s.ringInterrupt e c else s
  if x.state = ctxDraining ∨ s.ctxJob = some (.stopping c) then s.stopDone c
  else if st = peOk ∨ st = peAborted then s
  else s.ctxFail c st

/-- The record of a doorbell error is complete (R411). -/
def State.settleBell (s : State) (e c st : Nat) : State :=
  let x := s.ctx c
  let s := s.setCtxRun c { (s.ctxRun c) with bell := none, bellOut := false }
  let s := s.setCtx c { x with w6 := putBits x.w6 15 8 st }
  if bit x.w3 19 then s.ringInterrupt e c else s

/-- What settles on engine `e`: the completions of contexts whose writes are complete. -/
def State.settleEngine (s : State) (e : Nat) : List Nat → State
  | [] => s
  | c :: l =>
    let r := s.ctxRun c
    let mine := decide ((s.ctx c).engineOf = e) && s.ctxQuiet e c
    let s := match mine && r.bellOut, r.bell with
      | true, some st => s.settleBell e c st
      | _, _ => s
    let s := match r.run with
      | some y => if mine && y.written then s.settleRun e c y else s
      | none => s
    s.settleEngine e l

/-- After a completion at its port, or with time: reads that were held go out, completions settle, an idle engine looks for work. -/
def State.engineAdvance (s : State) (e : Nat) : State :=
  let s := if s.engineOn e then s.readBells e (s.engine e).due else s
  let s := if s.ctxRuns.isEmpty then s else s.settleEngine e s.ctxList
  s.kick e

def State.engineAdvanceAll (s : State) : List Nat → State
  | [] => s
  | e :: l => (if (s.engine e).due.isEmpty && s.ctxRuns.isEmpty then s else s.engineAdvance e).engineAdvanceAll l

/-- The home has refused a doorbell line as not the realm's: the context enters ERROR with status OWNER (R460). -/
def State.bellRefused (s : State) (c : Nat) : State :=
  if (s.ctx c).state = ctxEnabled then (s.setCtxRun c { (s.ctxRun c) with bell := some peOwner, bellOut := false }).ctxFail c peOwner else s

/-- A Cmp for an engine (R400, R455): a doorbell read that brought nothing is over. -/
def State.engineCmp (s : State) (e : Nat) (h : Hdr) : State :=
  let s := s.portCmp (engPort e) h
  let s := if h.flags.lost then
      match (s.engine e).bells.find? (fun b => decide (b.1 = h.tid)) with
      | none => s
      | some (_, c) =>
        let s := s.setEngine e { (s.engine e) with bells := (s.engine e).bells.filter (fun b => decide (b.1 ≠ h.tid)) }
        let s := s.modPort (engPort e) (fun p => { p with failed := p.failed.erase h.addr, refused := p.refused.erase h.addr })
        if s.ctxJob = some (.reading c) then (s.dropMonitor c).ctxCmdDone ctxrOwner
        else if h.flags.stale then s.bellRefused c else s
    else s
  s.engineAdvance e

end Sys2Proof.Machine
end

