-- ==== Sys2Proof/Machine/CoreMessages.lean ====
section
/-! DEFINITION. The messages that reach cores and dies: data, completions, results, credits, TLBI (07_coherence_protocol.md R241,
R246, R247, R250, R264 to R270), and the drain and eviction of a core's buffers (05_core_caches.md R163 to R169, R182). -/
namespace Sys2Proof.Machine
open Sys2Proof


/-- A protocol violation at an agent in a state's row: UE-P, code 5070h (R246, R281). -/
def State.protocolErr (s : State) (die src : Nat) (agent : BitVec 16) (ty : MsgType) (row : Nat) (a : LineAddr) (realm : Realm) : State :=
  s.ueP die src 0x5070 realm.toNat [agent.toNat + typeNum ty * 65536, row, lineP0 a, lineP1 a]

/-- The core position of an agent identifier on a compute die of this package. -/
def State.coreOfAgent (s : State) (a : BitVec 16) : Option Nat :=
  if agentPkg a = s.pkgNum ∧ agentDie a < 12 ∧ agentUnit a < 20 then some (agentDie a * 20 + agentUnit a) else none

/-- The credits that a response returns to the requester's die (R241). A response of another package's home returns the proxy's
credit too, and the request leaves the proxy's pool. -/
def State.returnCredit (s : State) (die pool : Nat) (h : Hdr) : State :=
  let n := s.chanOf (lineBase h.addr)
  let s := if agentPkg h.src = s.pkgNum then s
    else (s.homeCredits n (agentPkg h.src) pool h.cr.toNat).leavePool n pool die
  s.addCredits die n pool h.cr.toNat

/-- STALE and LOST together: the home refused the request (R455). -/
def refusedFlags (f : Flags) : Bool := f.stale && f.lost

/-! ## Owner prediction (R267) -/

def State.predUpdate (s : State) (die : Nat) (a : LineAddr) (realm : Realm) (f : Option OwnerPred → Option OwnerPred) : State :=
  s.modDie die (fun d =>
    let old := match Tbl.find d.preds (predIndex a) with
      | some e => if e.tag = predTag a ∧ e.realm = realm then some e else none
      | none => none
    match f old with
    | some e => { d with preds := Tbl.set d.preds (predIndex a) e }
    | none => if old.isSome then { d with preds := Tbl.erase d.preds (predIndex a) } else d)

/-- Data with FWD from package `q` sets the entry, or raises its confidence. -/
def State.predFwd (s : State) (die : Nat) (a : LineAddr) (realm : Realm) (q : Nat) : State :=
  s.predUpdate die a realm (fun o => some (match o with
    | some e => if e.pkg.toNat = q then { e with conf := satTo 3 (e.conf + 1) } else { e with pkg := BitVec.ofNat 5 q, conf := 1 }
    | none => { tag := predTag a, realm := realm, pkg := BitVec.ofNat 5 q, conf := 1 }))

def State.predAdd (s : State) (die : Nat) (a : LineAddr) (realm : Realm) : State :=
  s.predUpdate die a realm (fun o => o.map (fun e => { e with conf := satTo 3 (e.conf + 1) }))

def State.predSub (s : State) (die : Nat) (a : LineAddr) (realm : Realm) : State :=
  s.predUpdate die a realm (fun o => o.map (fun e => { e with conf := e.conf - 2 }))

/-! ## Fills -/

/-- The requester's CmpAck to agent h (R247). -/
def State.sendCmpAck (s : State) (c : Nat) (x : Txn) : State :=
  s.send { type := .cmpAck, hdr := { tid := x.tid, src := s.coreAgent c, dst := s.agentH x.line, addr := x.line,
                                     stamp := s.clause, rank := s.tidOf (2 * c + x.thread.val), realm := x.realm } }

/-- The line is no longer requested: its transaction ends and the die's entry leaves BZ. -/
def State.endTxn (s : State) (c : Nat) (x : Txn) : State :=
  (s.modCore c (fun k => k.txnDrop x.tid)).modDie (dieOfCore c) (fun d => match d.sfFind x.line with
    | some e => if e.cores.isEmpty then d.sfDrop x.line else d.sfSet x.line { e with busy := false }
    | none => d)

/-- The data a granted line has: brought by Data or confirmed, zero for RdZ, or a copy that the die still holds. -/
def State.fillData (s : State) (c : Nat) (x : Txn) : Option Line :=
  if x.kind = .rdZ then some 0
  else match (s.core c).l2Find x.line with
    | some (_, v) => if v.st = .I then x.data else some v.data
    | none =>
      if x.data.isSome then x.data
      else if x.kind = .upg then ((s.dieCopies (dieOfCore c) x.line).find? (fun p => !p.bad)).map (fun p => p.data)
      else none

/-- The fill realm of a granted line: the requester's, unless its L2 held the line all along (R158). -/
def State.fillRealm (s : State) (c : Nat) (x : Txn) : Realm := match (s.core c).l2Find x.line with
  | some (_, v) => if v.st = .I then x.realm else v.realm
  | none => x.realm

/-- The copies of the die other than the requester's leave when the grant is E or M (R231, R252). -/
def State.dropOthers (s : State) (c : Nat) (a : LineAddr) : State :=
  let die := dieOfCore c
  let cs := (s.dieCopies die a).filter (fun p => decide (p.place ≠ .l2 c ∧ p.place ≠ .l1 c))
  s.removeCopies die a cs

/-- A transaction that has its completion and its data installs the line and acknowledges; it waits while the fill must wait
(R170, R246, R247). -/
def State.tryInstall (s : State) (c : Nat) (tid : BitVec 12) : State :=
  match (s.core c).txns.find? (fun x => x.tid = tid) with
  | none => s
  | some x =>
    match x.cmp with
    | none => s
    | some g =>
      -- a confirmed read whose entry was lost to a parity error keeps no copy, and the access asks again (log entry 84)
      if x.conf && x.subLost && decide (x.kind = .rdS) then (s.endTxn c x).sendCmpAck c x
      else if x.conf && x.subData.isNone then s
      else match (if x.conf then x.subData else s.fillData c x) with
        | none => s
        | some d =>
          let own := decide (g = .E ∨ g = .M ∨ g = .O)
          let s1 := if g = .E ∨ g = .M then s.dropOthers c x.line else s
          -- an owner's line meets a disabled L2: it leaves again through the eviction buffer, but for a read's, whose copy an L1 takes
          -- in S (R184, R251)
          if own && !(s.core c).l2On && !(g = .E && x.kind = .rdS) then
            match (s1.core c).evict { line := x.line, st := g, realm := x.realm, data := d } false with
            | none => s
            | some k =>
              let s1 := (s1.setCore c k).modDie (dieOfCore c) (fun y => y.sfAdd x.line (c % 20) g)
              (s1.endTxn c x).sendCmpAck c x
          else match s1.fillCore c x.line g (s.fillRealm c x) d x.instr with
            | none => s
            | some s2 => (s2.endTxn c x).sendCmpAck c x

/-- The transactions of a core whose fill may have waited for an eviction-buffer entry. -/
def State.retryInstalls (s : State) (c : Nat) : List Txn → State
  | [] => s
  | x :: l => (s.tryInstall c x.tid).retryInstalls c l

def State.retryCores (s : State) : List Nat → State
  | [] => s
  | c :: l => (s.retryInstalls c (s.core c).txns).retryCores l

/-- A merging-buffer drain was refused: UE-R of the entry's realm, code 40E0h (R455). The entry is discarded. -/
def State.drainRefused (s : State) (c : Nat) (e : MbEntry) : State :=
  let t := 2 * c + e.thread.val
  let pa := lineBase e.line
  (s.modCore c (fun k => { k with mb := k.mb.erase e })).ueR (dieOfCore c) (t % 40) 0x40E0 0x50E0 e.realm.toNat
    [(s.tidOf t).toNat, pa / 4096 % 2 ^ 20, pa / 2 ^ 32]

/-- The home refused a request of the core's L2 (R455): a drain's is a UE-R, any other is a fault of the access that asked. -/
def State.txnRefused (s : State) (c : Nat) (x : Txn) : State :=
  let s := s.endTxn c x
  match (s.core c).mb.head? with
  | some e =>
    if e.line = x.line ∧ e.thread = x.thread ∧ x.kind ≠ .rdS then s.drainRefused c e
    else s.modThread (2 * c + x.thread.val) (fun y => { y with refused := some x.line })
  | none => s.modThread (2 * c + x.thread.val) (fun y => { y with refused := some x.line })

/-! ## Data, DataSub, Refute -/

/-- The row of R246 that a core's line stands in, numbered from 0 (R281). -/
def State.lineRow (s : State) (c : Nat) (a : LineAddr) : Nat :=
  let k := s.core c
  match k.txnFind a with
  | some x => if x.subData.isSome then 11 else if x.kind = .rdS then 5 else if x.kind = .upg ∧ x.held ≠ CState.I then 7 else 6
  | none => match k.l2Find a with
    | some (_, v) => if v.frozen then 12 else (match v.st with
      | .M => 0
      | .O => 1
      | .E => 2
      | .S => 3
      | .I => 4)
    | none => match k.ebFind a with
      | some e => if e.taken then 10 else if e.st = .M ∨ e.st = .O then 8 else 9
      | none => 4

def State.coreErr (s : State) (c : Nat) (ty : MsgType) (h : Hdr) : State :=
  s.protocolErr (dieOfCore c) ((2 * c) % 40) (s.coreAgent c) ty (s.lineRow c h.addr) h.addr h.realm

/-- A message for a core's agent. A disabled core and a core of a fenced die have no agent that takes it (R11, R541, log entry 41); an
identifier of no core is no agent of the package. -/
def onCore (s : State) (m : Msg) (f : State → Nat → Host.Outcome State Fault Refusal) : Host.Outcome State Fault Refusal :=
  match s.coreOfAgent m.hdr.dst with
  | some c =>
    arrive s m (fun s =>
      if !s.coreExists c then .next s
      else if s.domainOpen (c / 4) then f s c
      else .next (s.closedCoherent (c / 4) (typeNum m.type)))
  | none => .fault .noSuchAgent

/-- R246: Data with its grant. -/
def State.coreData (s : State) (c : Nat) (h : Hdr) (l : Line) : State :=
  match (s.core c).txns.find? (fun x => x.tid = h.tid && x.line = h.addr) with
  | none => s.coreErr c .data h
  | some x =>
    if (x.kind = .upg ∧ x.held ≠ CState.I) ∨ x.subData.isSome then s.coreErr c .data h
    else
      let s := if h.flags.fwd then s.predFwd (dieOfCore c) h.addr x.realm (agentPkg h.src)
        else s.predUpdate (dieOfCore c) h.addr x.realm (fun _ => none)
      (s.modCore c (fun k => k.txnMod h.tid (fun y => { y with data := some l }))).tryInstall c h.tid

/-- R246; the data crosses the mesh (R552). -/
def execData (h : Hdr) (line : Line) (e : MeshError) (s : State) : Host.Outcome State Fault Refusal :=
  let m : Msg := { type := .data, hdr := h, body := .line line }
  if s.behind m then .next s
  else
    let (s, e) := s.meshInject h e
    let (s, ok) := s.meshError e
    if !ok then .next (s.delivered m)
    else if agentPkg h.dst = s.pkgNum ∧ agentDie h.dst = 12 ∧ agentUnit h.dst ≥ 40 then
      arrive s m (fun s => .next (if agentUnit h.dst < 56 then s.engineData (agentUnit h.dst - 40) h line
        else s.portData (agentUnit h.dst) h line))
    else onCore s m (fun s c => .next (s.coreData c h line))

/-- The discarded subjunctive fill: the consuming thread is squashed to its oldest consumer, which waits for the home's Data
(R266). -/
def State.coreRefute (s : State) (c : Nat) (x : Txn) : State :=
  let die := dieOfCore c
  let t := 2 * c + x.thread.val
  let s := (s.addFld (regSubstat die) 31 0 1).predSub die x.line x.realm
  let s := if x.consumer.isSome then (s.countEv t 0x11 false).squash t else s
  s.modCore c (fun k => k.txnMod x.tid (fun y =>
    if y.subLost then { y with sub := false, subLost := false }
    else if y.subData.isSome then { y with subData := none, consumer := none, sub := false } else { y with refuted := true }))

/-- The subjunctive-buffer entry of a transaction is read as its fill moves on: a parity error discards it, as a Refute would, with a
record of class CE (R280). It stays reserved until the home's answer. -/
def State.subCheck (s : State) (c : Nat) (tid : BitVec 12) : State :=
  match (s.core c).txns.find? (fun x => x.tid = tid) with
  | some x =>
    if x.subBad && x.subData.isSome && x.conf then
      let entry := ((s.core c).txns.filter (fun y => y.sub)).findIdx (fun y => decide (y.tid = tid))
      let s := s.coreRefute c x
      (s.modCore c (fun k => k.txnMod tid (fun y => { y with subBad := false, subLost := true }))).ce (dieOfCore c) ((2 * c) % 40) 0x3072
        x.realm.toNat [s.tid0 c, entry, lineP0 x.line]
    else s
  | none => s

/-- R264, R246: subjunctive data enters the subjunctive buffer; it is discarded where a Refute came first. -/
def execDatasub (h : Hdr) (line : Line) (s : State) : Host.Outcome State Fault Refusal :=
  onCore s { type := .dataSub, hdr := h, body := .line line } (fun s c =>
    .next (match (s.core c).txns.find? (fun x => x.tid = h.tid && x.line = h.addr) with
      | none => s.coreErr c .dataSub h
      | some x =>
        if x.refuted then s.modCore c (fun k => k.txnMod h.tid (fun y => { y with refuted := false, sub := false }))
        else if !x.sub ∨ x.subData.isSome ∨ x.subLost then s.coreErr c .dataSub h
        else ((s.spendFree.modCore c (fun k => k.txnMod h.tid (fun y =>
            { y with subData := some line, subBad := s.freeWord.getLsbD 0 }))).subCheck c h.tid).tryInstall c h.tid))

/-- R266. -/
def execRefute (h : Hdr) (s : State) : Host.Outcome State Fault Refusal :=
  onCore s { type := .refute, hdr := h } (fun s c =>
    .next (match (s.core c).txns.find? (fun x => x.tid = h.tid && x.line = h.addr) with
      | none => s.coreErr c .refute h
      | some x => if x.sub then s.coreRefute c x else s.coreErr c .refute h))

/-! ## Cmp -/

/-- The thread whose outstanding access has this transaction number, on core `c`. -/
def State.waiter (s : State) (c : Nat) (tid : BitVec 12) : Option (Nat × Dest) :=
  [2 * c, 2 * c + 1].findSome? (fun t => match (s.thread t).wait with
    | .access i d => if i = tid then some (t, d) else none
    | _ => none)

/-- The bytes that the thread's own stores supply replace those of the answer (R165). -/
def overBytes (n v : Nat) (mask : BitVec 8) (keep : Word) : Nat :=
  let m := maskNat mask.toNat n
  (v - (v &&& m)) + (keep.toNat &&& m)

/-- The answer to a thread's outstanding access: the destination is written and the instruction retires. A realm exit that waited for it
is taken then (R100). -/
def State.completeAccess (s : State) (t : Nat) (d : Dest) (v : Word) : State :=
  let s := s.modThread t (fun y => { y with wait := .ready })
  match d with
  | .load op rd m keep =>
    let n := loadSize op
    (s.finishLoad t (fun y => y.setGpr rd (loadExtend op (overBytes n (v.toNat % 256 ^ n) m keep)))).exitNow t
  | .atomic rd wide => (((s.countEv t 0x0C).countMem t true true).finish t (fun y => y.setGpr rd (atomResult wide v))).exitNow t
  | .done => (s.retire t).exitNow t

/-- The thread's outstanding access was refused: the instruction is tried again, and faults (R455). -/
def State.refuseAccess (s : State) (t : Nat) (a : LineAddr) : State :=
  (s.modThread t (fun y => { y with wait := .ready, refused := some a })).exitNow t

/-- The CmpAck of a CACHE instruction or of a partial or full-line write (R247). -/
def State.ackOther (s : State) (h : Hdr) : State :=
  if refusedFlags h.flags then s
  else s.send { type := .cmpAck, hdr := { h with src := h.dst, dst := s.agentH h.addr, stamp := s.clause, flags := {}, grant := .I, cr := 0 } }

/-- A response that answers nothing: discarded with its realm (R476), or a protocol violation. -/
def State.discard (s : State) (c : Nat) (ty : MsgType) (h : Hdr) : State :=
  if (s.core c).discards.contains h.tid then s.modCore c (fun k => { k with discards := k.discards.erase h.tid })
  else s.coreErr c ty h

/-- A Cmp that ends a CACHE instruction, a partial write of the merging buffer or a context-block write. -/
def State.cmpOther (s : State) (c : Nat) (h : Hdr) : State :=
  let s := s.ackOther h
  if (s.core c).ctxOut.contains h.tid then s.modCore c (fun k => { k with ctxOut := k.ctxOut.erase h.tid })
  else match (s.core c).mb.find? (fun e => e.sent = some h.tid) with
    | some e => if refusedFlags h.flags then s.drainRefused c e else s.modCore c (fun k => { k with mb := k.mb.erase e })
    | none => match s.waiter c h.tid with
      | some (t, d) => if refusedFlags h.flags then s.refuseAccess t h.addr else s.completeAccess t d 0
      | none => s.discard c .cmp h

/-- R246, R247: the completion with its grant. -/
def State.coreCmp (s : State) (c : Nat) (h : Hdr) : State :=
  let s := s.returnCredit (dieOfCore c) 0 h
  match (s.core c).txns.find? (fun x => x.tid = h.tid && x.line = h.addr) with
  | none => s.cmpOther c h
  | some x =>
    if refusedFlags h.flags then s.txnRefused c x
    -- LOST alone: the data is lost, and the access goes with its realm (R249)
    else if h.flags.lost then (s.endTxn c x).sendCmpAck c x
    else if x.cmp.isSome then s.coreErr c .cmp h
    else if h.flags.conf then
      let die := dieOfCore c
      let s := (s.addFld (regSubstat die) 63 32 1).predAdd die x.line x.realm
      let s := if x.consumer.isSome then s.countEv (2 * c + x.thread.val) 0x10 false else s
      ((s.modCore c (fun k => k.txnMod h.tid (fun y => { y with cmp := some h.grant, conf := true }))).subCheck c h.tid).tryInstall c h.tid
    else if x.subData.isSome then s.coreErr c .cmp h
    else (s.modCore c (fun k => k.txnMod h.tid (fun y => { y with cmp := some h.grant }))).tryInstall c h.tid

/-! ## Results -/

/-- The thread of the core whose walker's compare-and-swap has this transaction number. -/
def State.adWaiter (s : State) (c : Nat) (tid : BitVec 12) : Option (Nat × AdUpdate) :=
  [2 * c, 2 * c + 1].findSome? (fun t => match (s.thread t).ad with
    | some a => if a.tid = some tid then some (t, a) else none
    | none => none)

/-- R255, R213: the result of a far atomic. -/
def State.coreAtomRsp (s : State) (c : Nat) (h : Hdr) (v : Word) : State :=
  let s := s.returnCredit (dieOfCore c) 0 h
  match s.adWaiter c h.tid with
  | some (t, a) =>
    if refusedFlags h.flags then s.modThread t (fun y => { y with ad := none, refused := some h.addr }) else s.adAnswer t a v
  | none => match s.waiter c h.tid with
    | some (t, d) => if refusedFlags h.flags then s.refuseAccess t h.addr else s.completeAccess t d v
    | none => s.discard c .atomRsp h

/-- R255. -/
def execAtomrsp (h : Hdr) (value : Word) (s : State) : Host.Outcome State Fault Refusal :=
  onCore s { type := .atomRsp, hdr := h, body := .value value } (fun s c => .next (s.coreAtomRsp c h value))

/-- R239: the result of an uncached access; that of a merging-buffer write frees its entry (log entry 13). -/
def execUcrsp (h : Hdr) (value : Word) (s : State) : Host.Outcome State Fault Refusal :=
  onCore s { type := .ucRsp, hdr := h, body := .value value } (fun s c =>
    .next (match (s.core c).mb.find? (fun e => e.sent = some h.tid) with
      | some e =>
        let s := s.returnCredit (dieOfCore c) 0 h
        if refusedFlags h.flags then s.drainRefused c e else s.modCore c (fun k => { k with mb := k.mb.erase e })
      | none => s.coreAtomRsp c h value))

/-- R212: the ownership answer. -/
def execOwnrsp (h : Hdr) (ok : Bool) (s : State) : Host.Outcome State Fault Refusal :=
  onCore s { type := .ownRsp, hdr := h, body := .flag ok } (fun s c =>
    let ans (t : Nat) (s : State) : State := s.modThread t (fun y =>
      { y with own := y.own.map (fun (q : OwnQuery) => if q.tid = h.tid then { q with answer := some ok } else q) })
    .next (ans (2 * c + 1) (ans (2 * c) s)))

/-! ## The drain of the merging buffer (R163, R166, R167, R184) -/

/-- The frequency of a core's cluster, in 50 MHz units. -/
def State.clusterFreq (s : State) (c : Nat) : Nat := s.fld (regThmCluster (c / 4)) 7 0

/-- The oldest entry starts to drain (R163): five core cycles of 50 MHz pass in a clause. -/
def State.drains (s : State) (c : Nat) (e : MbEntry) : Bool :=
  let t := 2 * c + e.thread.val
  let k := s.core c
  decide (e.mask = BitVec.allOnes 64) || e.closed || decide (k.mb.length ≥ 12) ||
    decide ((s.clause.toNat - e.lastStore.toNat) * s.clusterFreq c ≥ 40 * k.mbIdle.toNat) ||
    (s.thread t).drainWanted || (match (s.thread t).wait with
      | .wfi => true
      | .waitd _ _ _ => true
      | _ => false)

/-- The entry's bytes enter the L2 and the L1 copies of the line, in M (R161). The sibling's monitor on the line wakes. -/
def State.writeL2 (s : State) (c : Nat) (e : MbEntry) : State :=
  let upd (l : Line) : Line := mergeLine l e.data e.mask
  let s := s.modCore c (fun k =>
    let k := k.l2Mod e.line (fun v => { v with st := .M, data := upd v.data })
    { k with l1d := Tbl.map (fun x => if x.line = e.line then { x with data := upd x.data } else x) k.l1d,
             l1i := Tbl.map (fun x => if x.line = e.line then { x with data := upd x.data } else x) k.l1i,
             mb := k.mb.erase e })
  let s := s.modDie (dieOfCore c) (fun d => d.sfAdd e.line (c % 20) .M)
  let sib := 2 * c + (1 - e.thread.val)
  match (s.thread sib).wait with
  | .waitd l _ _ => if l = e.line then s.snoopWake sib l else s
  | _ => s

/-- The write of an entry that does not go through the L2: an uncached one at its DRAM controller, a cacheable one at the home
while the L2 is disabled (R166, R184). -/
def State.writeOut (s : State) (c : Nat) (e : MbEntry) : State :=
  if e.sent.isSome then s
  else
    let t := 2 * c + e.thread.val
    let (tid, s1) := s.takeTid c
    let h := if e.uncached then s1.ucHdr t e.line tid e.realm else s1.coreHdr c t e.line tid e.realm
    let (s1, ok) := s1.sendCredited t 0 { type := if e.uncached then .ucWr else .wrP, hdr := h, body := .bytes e.data e.mask }
    if ok then s1.modCore c (fun k => { k with mb := k.mb.map (fun x => if x = e then { x with sent := some tid, closed := true } else x) })
    else s

/-- Sends the next line of a context block that waits to be written (R116). -/
def State.sendCtx (s : State) (c : Nat) : State :=
  match (s.core c).ctxWrites with
  | [] => s
  | w :: rest =>
    let (tid, s1) := s.takeTid c
    let m : Msg := { type := .wrP, hdr := s1.coreHdr c w.thread w.line tid w.realm, body := .bytes w.data (BitVec.allOnes 64) }
    let (s1, ok) := s1.sendCredited w.thread 0 m
    if ok then s1.modCore c (fun k => { k with ctxWrites := rest, ctxOut := k.ctxOut ++ [tid] }) else s

/-- The oldest entry of the buffer drains, when a condition of R163 holds and its line is owned. -/
def State.drainOldest (s : State) (c : Nat) : State :=
  match (s.core c).mb with
  | [] => s
  | e :: _ =>
    if !s.drains c e then s
    else
      let (s, ok) := s.mbCheck c e
      if !ok then s
      else
        let e' := { e with closed := true }
        let s := s.modCore c (fun k => { k with mb := k.mb.map (fun x => if x = e then e' else x) })
        if e.uncached then s.writeOut c e'
        else if !(s.core c).l2On then
          -- a line still in the L2 leaves it first, and its eviction is awaited (R183)
          match (s.core c).l2Find e.line with
          | some (_, v) => if v.frozen then s else (((s.core c).evict v false).elim s (fun k => (s.setCore c k).wakeCore c e.line))
          | none => if ((s.core c).ebFind e.line).isSome then s else s.writeOut c e'
        else
          let (s, own) := s.getOwned (2 * c + e.thread.val) e.line e.realm e.zero
          if own then s.writeL2 c e' else s

/-- R163. -/
def execMbDrain (c : CorePos) (s : State) : Host.Outcome State Fault Refusal :=
  onCoreUnit s c.val (fun s => if (s.core c.val).fenced then s else (s.sendCtx c.val).drainOldest c.val)

/-! ## Evictions (R168, R169, R182) -/

/-- Another L2 of the die, or its L3, holds the line. -/
def State.otherOnDie (s : State) (c : Nat) (a : LineAddr) : Bool :=
  !((s.die (dieOfCore c)).otherHolders a (c % 20)).isEmpty

/-- An eviction goes to the home as WbM or EvN, once a credit is held. A WbM, or an EvN with LOST, that leaves copies on the die
carries KEEP_S (R250). -/
def State.evictHome (s : State) (c : Nat) (e : EbEntry) : State :=
  let die := dieOfCore c
  let n := s.chanOf (lineBase e.line)
  if s.sourcesHeld || s.credits die n 1 = 0 then s
  else
    let (tid, s) := (s.useCredit die n 1).takeTid c
    let dirty := decide (e.st = .M ∨ e.st = .O)
    let keep := s.otherOnDie c e.line || ((s.die die).l3Find e.line).isSome
    let h := s.coreHdr c (2 * c) e.line tid e.realm
    let h := { h with rank := s.tidOf (2 * c), flags := { keepS := dirty && keep, lost := e.lost } }
    -- an entry whose dirty data was discarded is freed as its notice leaves (R179)
    let s := if e.lost then
        (s.modCore c (fun k => { (k.ebDrop e.line) with discards := k.discards ++ [tid] })).modDie die (fun d => d.sfRemove e.line (c % 20))
      else s.modCore c (fun k => k.ebMod e.line (fun x => { x with issued := true, tid := tid }))
    if dirty && !e.lost then s.send { type := .wbM, hdr := h, body := .line e.data } else s.send { type := .evN, hdr := h }

/-- The oldest pending eviction is issued to the L3 slice or the home (R168). -/
def State.issueEviction (s : State) (c : Nat) : State :=
  match (s.core c).eb.find? (fun e => !e.issued) with
  | none => s
  | some e =>
    let die := dieOfCore c
    let s := (s.ebCheck c e.line).1
    match (s.core c).ebFind e.line with
    | none => s
    | some e' =>
      if e'.st = .S ∧ s.otherOnDie c e.line then
        -- dropped: the snoop filter records the change
        (s.modCore c (fun k => k.ebDrop e.line)).modDie die (fun d => d.sfRemove e.line (c % 20))
      else if !e'.cacheOp && !e'.gone && s.l3Available die e'.realm.toNat then
        s.modCore c (fun k => k.ebMod e.line (fun x => { x with issued := true, toL3 := true }))
      else s.evictHome c e'

/-- R169. -/
def execEvictionIssue (c : CorePos) (s : State) : Host.Outcome State Fault Refusal :=
  onCoreUnit s c.val (fun s => ((s.issueEviction c.val).flushL2 c.val).retryInstalls c.val ((s.issueEviction c.val).core c.val).txns)

/-- An eviction-buffer entry is freed: the snoop filter removes the core unless its L2 holds the line again, waiting fills and
an L2 flush go on (R169, R170, R182). -/
def State.freeEb (s : State) (c : Nat) (a : LineAddr) : State :=
  let s := s.modCore c (fun k => k.ebDrop a)
  let s := if ((s.core c).l2Find a).isSome then s else s.modDie (dieOfCore c) (fun d => d.sfRemove a (c % 20))
  (s.flushL2 c).retryInstalls c (s.core c).txns

/-- R169: an issued victim reaches its slice. One that a snoop took is only acknowledged; one whose L3 is no longer available
goes back to be issued to the home. -/
def execL3VictimInstall (c : CorePos) (line : LineAddr) (s : State) : Host.Outcome State Fault Refusal :=
  onCoreUnit s c.val (fun s => match (s.core c.val).eb.find? (fun e => e.line = line && e.issued && e.toL3) with
    | none => s
    | some e =>
      let die := dieOfCore c.val
      if e.taken then s.freeEb c.val line
      else if e.gone || !s.l3Available die e.realm.toNat then
        s.modCore c.val (fun k => k.ebMod line (fun x => { x with issued := false, toL3 := false }))
      else match s.l3Install die { line := line, st := e.st, realm := e.realm, data := e.data } with
        | none => s
        | some s => s.freeEb c.val line)

/-! ## L3 disable and flush (R182, R185) -/

/-- The flush goes on for as many lines as the credits allow. -/
def State.flushL3 (s : State) (die : Nat) : Nat → State
  | 0 => s
  | n + 1 =>
    if s.fld (regL3ctl die) 1 1 = 0 then s
    else match (s.die die).l3 with
      | [] => s
      | (_, v) :: _ => match s.l3Evict die v with
        | none => s
        | some s => (s.modDie die (fun d => d.l3Drop v.line)).flushL3 die n

/-- As many steps as the L3 has lines. -/
def State.flushL3All (s : State) (die : Nat) : State := s.flushL3 die (s.die die).l3.length

/-- A write of 1 to CDI[n].X_L3CTL.DIS: FLUSHING rises at the next clause tick (R182). -/
def State.disableL3 (s : State) (die : Nat) : State :=
  if s.fld (regL3ctl die) 0 0 = 1 then s
  else (s.setFld (regL3ctl die) 0 0 1).modDie die (fun d => { d with flushDue := true })

/-- The clause tick at which the flush of a disabled L3 begins (R182 step 2). -/
def State.beginFlushL3 (s : State) (die : Nat) : State :=
  if (s.die die).flushDue then
    ((s.modDie die (fun d => { d with flushDue := false })).setFld (regL3ctl die) 1 1 1).flushL3All die
  else s

def State.beginFlushes3 (s : State) : List Nat → State
  | [] => s
  | d :: l => (s.beginFlushL3 d).beginFlushes3 l

/-- A clause tick begins the flushes that are due, and fills that waited for an eviction-buffer entry go on (R170, R182). -/
def State.cacheTick (s : State) : State :=
  let cs := (s.cores.map (fun p => p.1)).eraseDups
  (((s.beginFlushes2 cs).beginFlushes3 (upTo 12)).retryCores (cs.filter (fun c => (s.core c).txns.any (fun x => x.cmp.isSome))))

/-- A write of 0: ignored while FLUSHING is 1, or is about to be (R185, log entry 66). -/
def State.enableL3 (s : State) (die : Nat) : State :=
  if s.fld (regL3ctl die) 1 0 = 1 && !(s.die die).flushDue then (s.setFld (regL3ctl die) 0 0 0).modDie die (fun d => { d with l3 := [], l3Order := [] }) else s

/-- What happens in a compute die happens in none that is fenced (R541, log entry 41). -/
def onDie (s : State) (d : DiePos) (f : State → State) : Host.Outcome State Fault Refusal :=
  .next (if (s.die d.val).fenced then s else f s)

/-- R182. -/
def execL3Disable (d : DiePos) (s : State) : Host.Outcome State Fault Refusal := onDie s d (fun s => s.disableL3 d.val)
/-- R185. -/
def execL3Enable (d : DiePos) (s : State) : Host.Outcome State Fault Refusal := onDie s d (fun s => s.enableL3 d.val)
/-- R182 step 4. -/
def execL3FlushDone (d : DiePos) (s : State) : Host.Outcome State Fault Refusal :=
  onDie s d (fun s =>
    let s := s.flushL3All d.val
    if (s.die d.val).flushDue then s
    else if (s.die d.val).l3.isEmpty && (s.die d.val).wbs.isEmpty then s.setFld (regL3ctl d.val) 1 1 0 else s)

/-! ## Scrubs (R180) -/

/-- The lines listed are read as a scrub reads them. -/
def State.scrubLines2 (s : State) (c : Nat) : List LineAddr → State
  | [] => s
  | a :: l => (s.l2Check c a).1.scrubLines2 c l

def State.scrubLines3 (s : State) (die : Nat) : List LineAddr → State
  | [] => s
  | a :: l => (s.l3Check die a).1.scrubLines3 die l

/-- R180: the L2 scrubs its next set. -/
def execL2Scrub (c : CorePos) (s : State) : Host.Outcome State Fault Refusal :=
  onCoreUnit s c.val (fun s =>
    let k := s.core c.val
    let lines := (upTo 16).filterMap (fun w => (Tbl.find k.l2 (k.scrub2 * 16 + w)).map (fun v => v.line))
    (s.scrubLines2 c.val lines).modCore c.val (fun k => { k with scrub2 := (k.scrub2 + 1) % 2048 }))

/-- R180: the slice scrubs its next set. -/
def execL3Scrub (d : DiePos) (slice : Fin 16) (s : State) : Host.Outcome State Fault Refusal :=
  onDie s d (fun s =>
    let set := Tbl.get 0 (s.die d.val).scrub3 slice.val
    let lines := (upTo 16).filterMap (fun w => (Tbl.find (s.die d.val).l3 ((slice.val * 4096 + set) * 16 + w)).map (fun v => v.line))
    (s.scrubLines3 d.val lines).modDie d.val (fun x => { x with scrub3 := Tbl.set x.scrub3 slice.val ((set + 1) % 4096) }))

/-! ## WbAck (R246, R169) -/

/-- The acknowledgement of a writeback or notice, at the core or the L3 slice that sent it. -/
def execWback (h : Hdr) (s : State) : Host.Outcome State Fault Refusal :=
  let m : Msg := { type := .wbAck, hdr := h }
  let die := agentDie h.dst
  let unit := agentUnit h.dst
  if agentPkg h.dst = s.pkgNum ∧ die < 12 ∧ 32 ≤ unit ∧ unit < 48 then
    arrive s m (fun s => .next (((s.returnCredit die 1 h).modDie die (fun d =>
      { d with wbs := d.wbs.filter (fun e => !(e.tid = h.tid && e.line = h.addr)) })).flushL3All die))
  else if agentPkg h.dst = s.pkgNum ∧ die = 12 ∧ unit < 16 then
    -- a proxy's own writeback of a replaced presence entry (R232)
    arrive s m (fun s => .next (s.homeCredits unit (agentPkg h.src) 1 h.cr.toNat))
  else onCore s m (fun s c =>
    let s := s.returnCredit (dieOfCore c) 1 h
    .next (match (s.core c).eb.find? (fun e => e.line = h.addr && e.issued && e.tid = h.tid) with
      | some _ => s.freeEb c h.addr
      | none => s.discard c .wbAck h))

end Sys2Proof.Machine
end

