-- ==== Sys2Proof/Machine/Digest.lean ====
section
/-! DEFINITION. The check functions that the spec takes from published standards: CRC-32C (11_predicate_engines.md R432), SHA-256 and
HMAC (13_platform_endpoint.md R502; FIPS 180-4 and 198-1), SHA-384 and ECDSA over P-384 (15_startup_modes.md R561; FIPS 186-5).
The functions and the curve are those of the standards (log entry 29). -/
namespace Sys2Proof.Machine
open Sys2Proof

/-! ## Bytes -/

/-- Bytes as a number, first byte least significant. -/
def leNat (l : List (BitVec 8)) : Nat := l.foldr (fun b n => b.toNat + 256 * n) 0
/-- Bytes as a number, first byte most significant. -/
def beNat (l : List (BitVec 8)) : Nat := l.foldl (fun n b => n * 256 + b.toNat) 0
/-- `n` bytes of a number, least significant first. -/
def leBytes (v : Nat) : Nat → List (BitVec 8)
  | 0 => []
  | n + 1 => BitVec.ofNat 8 v :: leBytes (v / 256) n
/-- `n` bytes of a number, most significant first. -/
def beBytes (v n : Nat) : List (BitVec 8) := (leBytes v n).reverse

/-! ## CRC-32C (R432) -/

/-- The reflected polynomial of CRC-32C. -/
def crcStep (c : BitVec 32) : Nat → BitVec 32
  | 0 => c
  | n + 1 => crcStep (if c.getLsbD 0 then (c >>> 1) ^^^ 0x82f63b78 else c >>> 1) n

/-- The register after a run of bytes. -/
def crcBytes (c : BitVec 32) : List (BitVec 8) → BitVec 32
  | [] => c
  | b :: l => crcBytes (crcStep (c ^^^ b.zeroExtend 32) 8) l

/-- CRC-32C of bytes that continues from the CRC `seed` of those before them; 0 starts a new one. -/
def crc32c (seed : BitVec 32) (l : List (BitVec 8)) : BitVec 32 := ~~~(crcBytes (~~~seed) l)

/-! ## The SHA-2 family

FIPS 180-4 takes its constants from the roots of the first primes; they are computed here, not listed. -/

/-- The largest number whose `k`-th power is at most `n`, found bit by bit from bit `b - 1` down. -/
def rootFrom (k n r : Nat) : Nat → Nat
  | 0 => r
  | b + 1 => rootFrom k n (if (r + 2 ^ b) ^ k ≤ n then r + 2 ^ b else r) b

/-- The first `w` bits of the fraction of the `k`-th root of `p`. -/
def rootFraction (w k p : Nat) : BitVec w := BitVec.ofNat w (rootFrom k (p * 2 ^ (k * w)) 0 (w + 4))

/-- The primes below 410: eighty of them. -/
def smallPrimes : List Nat :=
  (upTo 410).filter (fun n => decide (2 ≤ n) && (upTo 21).all (fun d => decide (d < 2) || decide (n ≤ d) || decide (n % d ≠ 0)))

/-- One member of the family: bytes of a word, rounds, the first prime of its initial value, and the rotations of its four mixing
functions, the last number of the two that stir the schedule being a shift. -/
structure Sha2 (w : Nat) where
  bytes : Nat
  rounds : Nat
  skip : Nat
  mixA : List Nat
  mixE : List Nat
  stirOld : List Nat × Nat
  stirNew : List Nat × Nat

/-- The exclusive or of some rotations of a word with another word. -/
def turns {w : Nat} (x : BitVec w) (rs : List Nat) (y : BitVec w) : BitVec w := rs.foldl (fun z r => z ^^^ x.rotateRight r) y

/-- `n` more words of the schedule, whose words stand newest first. -/
def shaSchedule {w : Nat} (a : Sha2 w) (ws : List (BitVec w)) : Nat → List (BitVec w)
  | 0 => ws
  | n + 1 =>
    let old := ws.getD 14 0
    let new := ws.getD 1 0
    let sum := ws.getD 15 0 + turns old a.stirOld.1 (old >>> a.stirOld.2) + (ws.getD 6 0 + turns new a.stirNew.1 (new >>> a.stirNew.2))
    shaSchedule a (sum :: ws) n

/-- One round over the eight working variables; `x` is the sum of the round's constant and schedule word. -/
def shaTurn {w : Nat} (f : Sha2 w) (v : List (BitVec w)) (x : BitVec w) : List (BitVec w) :=
  let at' (i : Nat) : BitVec w := v.getD i 0
  let chosen := at' 6 ^^^ (at' 4 &&& (at' 5 ^^^ at' 6))
  let most := (at' 0 &&& (at' 1 ||| at' 2)) ||| (at' 1 &&& at' 2)
  let gain := chosen + x + (turns (at' 4) f.mixE 0 + at' 7)
  ((turns (at' 0) f.mixA 0 + gain + most) :: v.take 3) ++ ((gain + at' 3) :: (v.drop 4).take 3)

/-- `k` big-endian words of a block. -/
def shaWords {w : Nat} (bytes : Nat) (l : List (BitVec 8)) (k : Nat) : List (BitVec w) :=
  (upTo k).map (fun i => BitVec.ofNat w (beNat ((l.drop (bytes * i)).take bytes)))

def Sha2.constants {w : Nat} (f : Sha2 w) : List (BitVec w) := (smallPrimes.take f.rounds).map (rootFraction w 3)
def Sha2.initial {w : Nat} (f : Sha2 w) : List (BitVec w) := ((smallPrimes.drop f.skip).take 8).map (rootFraction w 2)

/-- The value after one block. -/
def shaBlock {w : Nat} (f : Sha2 w) (h : List (BitVec w)) (block : List (BitVec 8)) : List (BitVec w) :=
  let ws := (shaSchedule f (shaWords f.bytes block 16).reverse (f.rounds - 16)).reverse
  let v := (List.zipWith (· + ·) f.constants ws).foldl (shaTurn f) h
  List.zipWith (· + ·) h v

/-- The value after `n` blocks. -/
def shaBlocks {w : Nat} (f : Sha2 w) (h : List (BitVec w)) (l : List (BitVec 8)) : Nat → List (BitVec w)
  | 0 => h
  | n + 1 => shaBlocks f (shaBlock f h l) (l.drop (16 * f.bytes)) n

/-- A message filled up to whole blocks: a one bit, zeros, and its length in bits in the last two words. -/
def shaFill (bytes : Nat) (l : List (BitVec 8)) : List (BitVec 8) :=
  let blocks := (l.length + 2 * bytes) / (16 * bytes) + 1
  let room := blocks * (16 * bytes) - l.length - 2 * bytes - 1
  l ++ (0x80 : BitVec 8) :: (List.replicate room 0 ++ beBytes (8 * l.length) (2 * bytes))

def sha2 {w : Nat} (f : Sha2 w) (l : List (BitVec 8)) : List (BitVec 8) :=
  let m := shaFill f.bytes l
  (shaBlocks f f.initial m (m.length / (16 * f.bytes))).flatMap (fun x => beBytes x.toNat f.bytes)

def sha256Form : Sha2 32 :=
  { bytes := 4, rounds := 64, skip := 0, mixA := [2, 13, 22], mixE := [6, 11, 25], stirOld := ([7, 18], 3), stirNew := ([17, 19], 10) }
def sha384Form : Sha2 64 :=
  { bytes := 8, rounds := 80, skip := 8, mixA := [28, 34, 39], mixE := [14, 18, 41], stirOld := ([1, 8], 7), stirNew := ([19, 61], 6) }

/-- SHA-256: 32 bytes. -/
def sha256 (l : List (BitVec 8)) : List (BitVec 8) := sha2 sha256Form l
/-- SHA-384: the first 48 bytes of the final value. -/
def sha384 (l : List (BitVec 8)) : List (BitVec 8) := (sha2 sha384Form l).take 48

/-- HMAC-SHA-256 under a key of at most 64 bytes (R502). -/
def hmac256 (key msg : List (BitVec 8)) : List (BitVec 8) :=
  let k := key ++ List.replicate (64 - key.length) 0
  sha256 (k.map (· ^^^ 0x5c) ++ sha256 (k.map (· ^^^ 0x36) ++ msg))

/-! ## ECDSA over P-384 (R561) -/

def p384 : Nat := 2 ^ 384 - 2 ^ 128 - 2 ^ 96 + 2 ^ 32 - 1
def p384B : Nat := 0xb3312fa7e23ee7e4988e056be3f82d19181d9c6efe8141120314088f5013875ac656398d8a2ed19d2a85c8edd3ec2aef
def p384N : Nat := 0xffffffffffffffffffffffffffffffffffffffffffffffffc7634d81f4372ddf581a0db248b0a77aecec196accc52973
def p384G : Nat × Nat :=
  (0xaa87ca22be8b05378eb1c71ef320ad746e1d3b628ba79b9859f741e082542a385502f25dbf55296c3a545e3872760ab7,
   0x3617de4a96262c6f5d9e98bf9292dc29f8f41dbd289a147ce9da3113b5f0b8c00a60b1ce1d7e819d7a431d7c90ea0e5f)

/-- `b` to the power `e` modulo `m`, over `n` bits of `e`. -/
def powMod (m b e : Nat) : Nat → Nat
  | 0 => 1 % m
  | n + 1 =>
    let h := powMod m b (e / 2) n
    if e % 2 = 1 then h * h % m * b % m else h * h % m

/-- The inverse modulo a prime. -/
def invMod (m a : Nat) : Nat := powMod m (a % m) (m - 2) 400

/-- The sum of two points; none is the point at infinity. -/
def ecAdd (p q : Option (Nat × Nat)) : Option (Nat × Nat) :=
  match p, q with
  | none, _ => q
  | _, none => p
  | some (x1, y1), some (x2, y2) =>
    let m := p384
    if x1 = x2 ∧ (y1 + y2) % m = 0 then none
    else
      let l := if x1 = x2 then (3 * x1 * x1 + m - 3) % m * invMod m (2 * y1) % m
        else (y2 + m - y1) % m * invMod m (x2 + m - x1) % m
      let x3 := (l * l + 2 * m - x1 - x2) % m
      some (x3, (l * (x1 + m - x3) + m - y1) % m)

/-- `k` times a point, over `n` bits of `k`. -/
def ecMul (p : Option (Nat × Nat)) (k : Nat) : Nat → Option (Nat × Nat)
  | 0 => none
  | n + 1 =>
    let h := ecMul p (k / 2) n
    let d := ecAdd h h
    if k % 2 = 1 then ecAdd d p else d

/-- The signature (r, s) of a message under the public key `q`. -/
def ecdsaOk (q : Nat × Nat) (msg : List (BitVec 8)) (r s : Nat) : Bool :=
  if r = 0 ∨ p384N ≤ r ∨ s = 0 ∨ p384N ≤ s then false
  else
    let w := invMod p384N s
    let z := beNat (sha384 msg)
    match ecAdd (ecMul (some p384G) (z * w % p384N) 384) (ecMul (some q) (r * w % p384N) 384) with
    | some (x, _) => decide (x % p384N = r)
    | none => false

end Sys2Proof.Machine
end

