-- ==== Sys2Proof/Machine/Flits.lean ====
section
/-! DEFINITION. The 256-byte flit of Trail (09_trail_fabric.md R320, R327): the fields of a received flit, its CRC-32C, the messages its
slots begin, and the words of a flit that is sent. -/
namespace Sys2Proof.Machine
open Sys2Proof

/-! ## A received flit -/

/-- KIND codes. -/
def kindData : Nat := 0
def kindIdle : Nat := 1
def kindNak : Nat := 2
def kindWidth : Nat := 3
def kindMarker : Nat := 4

/-- The routing word in bytes 0 to 3 of a message's first slot (R327). -/
def routeOf (w : Nat) : Route :=
  { dst := BitVec.ofNat 5 w, src := BitVec.ofNat 5 (natBits w 9 5), pri := BitVec.ofNat 2 (natBits w 11 10), snp := w.testBit 12,
    hop := BitVec.ofNat 2 (natBits w 14 13), len := BitVec.ofNat 4 (natBits w 18 15), retx := w.testBit 19, flood := w.testBit 20,
    reserved := BitVec.ofNat 11 (natBits w 31 21) }

end Sys2Proof.Machine

namespace Sys2Proof
open Sys2Proof.Machine

def Flit.seq (f : Flit) : BitVec 12 := BitVec.ofNat 12 (natBits f.head.toNat 11 0)
def Flit.kind (f : Flit) : Nat := natBits f.head.toNat 14 12
def Flit.ackseq (f : Flit) : BitVec 12 := BitVec.ofNat 12 (natBits f.head.toNat 27 16)
/-- Bit i is set when slot i begins a message. -/
def Flit.sstart (f : Flit) : Nat := natBits f.tail.toNat 50 36

/-- The credits it returns: pools and units of 4 slots. There is no pool 15. -/
def Flit.crets (f : Flit) : List (Nat × Nat) :=
  ((upTo 3).map (fun i => (natBits f.tail.toNat (12 * i + 11) (12 * i + 8), natBits f.tail.toNat (12 * i + 7) (12 * i)))).filter
    (fun c => decide (c.1 < 15 ∧ c.2 ≠ 0))

/-- Bytes 0 to 251. -/
def Flit.bytes (f : Flit) : List (BitVec 8) :=
  leBytes f.head.toNat 4 ++ f.slots.flatMap (fun w => leBytes w.toNat 16) ++ leBytes f.tail.toNat 8

def Flit.crcOk (f : Flit) : Bool := decide (crc32c 0 f.bytes = f.crc)

/-- Received without error: no codeword of it is uncorrectable, and its CRC is correct (R319, R322). -/
def Flit.intact (f : Flit) : Bool := decide (f.rx.uncorr = 0) && f.crcOk

/-- The messages that begin in the flit, each with the slot in which it begins and the routing word that stands there. -/
def Flit.begun (f : Flit) : List (Nat × Pkt) :=
  List.zipWith (fun i (k : Pkt) => (i, { k with route := routeOf ((f.slots.getD i 0).toNat % 2 ^ 32) }))
    ((upTo 15).filter (fun i => f.sstart.testBit i)) f.pkts

end Sys2Proof

namespace Sys2Proof.Machine

/-! ## A flit that is sent -/

/-- Slots in which messages begin, the first at `i`. -/
def startsFrom (i : Nat) : List Pkt → List Nat
  | [] => []
  | k :: l => i :: startsFrom (i + k.route.len.toNat) l

/-- Bytes 0 to 3. -/
def OutFlit.head (f : OutFlit) : BitVec 32 := BitVec.ofNat 32 (f.seq.toNat + f.kind * 2 ^ 12 + f.ackseq.toNat * 2 ^ 16)

/-- A list of credit returns from bit `i` on. -/
def cretBits (i : Nat) : List (Nat × Nat) → Nat
  | [] => 0
  | c :: l => (c.2 % 256 + c.1 % 16 * 256) * 2 ^ i + cretBits (i + 12) l

/-- Bytes 244 to 251. -/
def OutFlit.tail (f : OutFlit) : BitVec 64 :=
  BitVec.ofNat 64 (cretBits 0 (f.crets.take 3) + (startsFrom f.first f.pkts).foldl (fun m i => m + 2 ^ i) 0 * 2 ^ 36)

end Sys2Proof.Machine
end

