-- ==== Sys2Proof/Machine/Links.lean ====
section
/-! DEFINITION. Trail links (09_trail_fabric.md R318 to R336, R339, R340): flits, retry, credits, width, retrains, the routing of
messages. -/
namespace Sys2Proof.Machine
open Sys2Proof

def State.link (s : State) (n : Nat) : Link := Tbl.get {} s.links n
def State.setLink (s : State) (n : Nat) (l : Link) : State := { s with links := Tbl.set s.links n l }
def State.modLink (s : State) (n : Nat) (f : Link → Link) : State := s.setLink n (f (s.link n))

/-! ## Link states (R356) -/

def linkDownSt : Nat := 0
def linkTrainingSt : Nat := 1
def linkAgreeing : Nat := 2
def linkUp : Nat := 3
def linkIsolated : Nat := 4
def linkFenced : Nat := 5

/-- The octet's applied role is Trail (R315). -/
def State.isTrail (s : State) (n : Nat) : Bool := s.fld (regOctCfg n) 6 4 = 1
def State.linkState (s : State) (n : Nat) : Nat := s.fld (regTrlStatus n) 2 0
def State.setLinkState (s : State) (n st : Nat) : State := s.setFld (regTrlStatus n) 2 0 st
/-- The package at the far end. -/
def State.linkPkg (s : State) (n : Nat) : Nat := s.fld (regTrlStatus n) 20 16
def State.trailOctets (s : State) : List Nat := (upTo 12).filter s.isTrail
def State.upOctets (s : State) : List Nat := s.trailOctets.filter (fun n => s.linkState n = linkUp)

/-! ## Widths (R334) -/

/-- The width code and the lanes that R334 chooses from a mask, none wider than `most`. -/
def widthOf (m : BitVec 8) (most : Nat) : Nat × Nat :=
  let has (l : Nat) : Bool := decide (m.toNat &&& l = l)
  if 3 ≤ most ∧ has 0xff then (3, 0xff)
  else if 2 ≤ most ∧ has 0x0f then (2, 0x0f)
  else if 2 ≤ most ∧ has 0xf0 then (2, 0xf0)
  else if has 0x03 then (1, 0x03) else if has 0x0c then (1, 0x0c) else if has 0x30 then (1, 0x30) else if has 0xc0 then (1, 0xc0)
  else (0, 0)

/-- The width is usable on the link (R334). -/
def State.widthOk (s : State) (n w : Nat) : Bool := decide (w ≠ 0) && decide (s.fld (regTrlLinkctl n) 1 0 ≤ w)

/-! ## Messages on a link (R327 to R329) -/

/-- The Trail priority of a class (R240). -/
def classPri (c : Nat) : Nat := if c = 0 then 0 else if c ≤ 2 then 1 else c - 1

/-- Slots of a message's data (R327; for bodies whose layout the spec does not give, log entry 25). -/
def bodySlots : Body → Nat
  | .line _ => 4
  | .bytes _ _ => 5
  | .atom _ => 2
  | .journal _ => 2
  | .words ws => (ws.length + 1) / 2
  | .record _ => 3
  | .reg _ _ _ => 1
  | .report _ => 4
  | .command _ => 8
  | .ident _ => 12
  | .assign _ => 12
  | .mirror _ => 4
  | _ => 0

/-- LEN, 2 to 15 slots. -/
def msgLen (m : Msg) : Nat := satTo 15 (2 + bodySlots m.body)

/-- Slots of a pool (R329). -/
def poolSize (p : Nat) : Nat := match p / 3 with
  | 0 => 64
  | 1 => 384
  | 2 => 192
  | 3 => 384
  | _ => 256

/-- The pool a message uses on a link (R329). -/
def pktPool (k : Pkt) : Nat := 3 * linkClass k.msg.type + satTo 2 k.route.hop.toNat

def Link.credit (l : Link) (p : Nat) : Nat := Tbl.get (poolSize p) l.creds p

/-- The routing word as a number (R327). -/
def routeWord (r : Route) : Nat :=
  r.dst.toNat + r.src.toNat * 2 ^ 5 + r.pri.toNat * 2 ^ 10 + b2n r.snp * 2 ^ 12 + r.hop.toNat * 2 ^ 13 + r.len.toNat * 2 ^ 15
    + b2n r.retx * 2 ^ 19 + b2n r.flood * 2 ^ 20 + r.reserved.toNat * 2 ^ 21

/-- A message of this package with its routing word. -/
def State.pkt (s : State) (m : Msg) (flood : Bool) : Pkt :=
  let c := linkClass m.type
  { route := { dst := BitVec.ofNat 5 (agentPkg m.hdr.dst), src := BitVec.ofNat 5 s.pkgNum, pri := BitVec.ofNat 2 (classPri c),
               snp := decide (c = 2), len := BitVec.ofNat 4 (msgLen m), flood := flood },
    msg := m }

/-! ## Flooding and routing (R339, R340) -/

/-- A message joins the queue of each octet of a list. -/
def State.queueOn (s : State) (k : Pkt) : List Nat → State
  | [] => s
  | n :: l => (s.modLink n (fun x => { x with queue := x.queue ++ [k] })).queueOn k l

/-- What names this package as the source of a flood: its number, or before JOIN its I/O-die serial (R340). -/
def State.floodName (s : State) : Word := if s.joined then BitVec.ofNat 64 s.pkgNum else s.reg regMshIoserial

/-- A message becomes a flooded one of this package, on every link in state up; DISCOVER and IDENT cross isolated links too (R340,
R345). -/
def State.floodPkt (s : State) (k : Pkt) : State :=
  let k := { k with route := { k.route with flood := true }, fsrc := s.floodName, fseq := s.image.floodSeq }
  let outs := s.trailOctets.filter (fun n => s.linkState n = linkUp
    || (s.linkState n = linkIsolated && (decide (k.msg.type = .discover) || decide (k.msg.type = .ident))))
  let s := { s with image := { s.image with floods := (k.fsrc, k.fseq) :: s.image.floods, floodSeq := s.image.floodSeq + 1 } }
  s.queueOn k outs

/-- Floods a message of this package. -/
def State.flood (s : State) (m : Msg) : State := s.floodPkt (s.pkt m true)

/-- The octet of a route, by the fixed hash of the two agents (R339). -/
def State.routeOctet (s : State) (m : Msg) : Option Nat :=
  let w := s.reg (regTrlRoute (agentPkg m.hdr.dst))
  let ports := (upTo 12).filter (fun n => bit w n)
  if !bit w 15 ∨ ports = [] then none
  else ports[Config.routeHash m.hdr.src m.hdr.dst % ports.length]?

/-- A message for another package goes to its route's octet; a priority-0 message whose route has no octet in state up is flooded, by
the package that finds it so (R339, R340). -/
def State.route (s : State) (k : Pkt) : State :=
  let w := s.reg (regTrlRoute k.route.dst.toNat)
  let anyUp := s.upOctets.any (fun n => bit w n)
  if k.route.pri = 0 ∧ !anyUp then s.floodPkt k
  else match s.routeOctet k.msg with
    | some n => s.queueOn k [n]
    | none => s

/-! ## Sending (R321 to R323, R330) -/

/-- `k` keeps its place: no earlier message of its route and pool waits (R244, R330). -/
def aheadOf (earlier : List Pkt) (k : Pkt) : Bool :=
  !earlier.any (fun e => decide (pktPool e = pktPool k) && decide (e.route.src = k.route.src) && decide (e.route.dst = k.route.dst))

/-- Positions of the messages of a queue that may go: credit for the whole message, in order. -/
def Link.eligible (l : Link) : List Pkt → List Pkt → List Pkt
  | _, [] => []
  | earlier, k :: t =>
    let ok := aheadOf earlier k && decide (k.route.len.toNat ≤ l.credit (pktPool k))
    if ok then k :: l.eligible (earlier ++ [k]) t else l.eligible (earlier ++ [k]) t

/-- The weight of priorities 1 to 3 (TRL.X_ARB). -/
def State.arbWeight (s : State) (p : Nat) : Nat := s.fld regTrlArb (4 * p - 1) (4 * p - 4)

/-- The next message of an octet, and the round that its choice leaves (R330). -/
def State.nextMessage (s : State) (l : Link) : Option (Pkt × Tbl Nat) :=
  let es := l.eligible [] l.queue
  let ofPri (p : Nat) : Option Pkt := es.find? (fun k => k.route.pri.toNat = p)
  match ofPri 0 with
  | some k => some (k, l.round)
  | none =>
    let full : Tbl Nat := [(1, s.arbWeight 1), (2, s.arbWeight 2), (3, s.arbWeight 3)]
    let pick (r : Tbl Nat) : Option (Pkt × Tbl Nat) :=
      ([1, 2, 3].filterMap (fun p => if Tbl.get 0 r p > 0 then (ofPri p).map (fun k => (k, Tbl.set r p (Tbl.get 0 r p - 1))) else none)).head?
    match pick l.round with
    | some x => some x
    | none => pick full

/-- Fills a data flit from slot 15 - `free` on: its messages and the link after it (R321, R327). -/
def State.fillFlit (s : State) (l : Link) (free : Nat) : Nat → List Pkt × Link
  | 0 => ([], l)
  | fuel + 1 =>
    if free = 0 then ([], l)
    else match s.nextMessage l with
      | none => ([], l)
      | some (k, r) =>
        let n := k.route.len.toNat
        let l := { l with queue := l.queue.erase k, round := r, creds := Tbl.set l.creds (pktPool k) (l.credit (pktPool k) - n),
                          txRest := n - free }
        let (ks, l) := s.fillFlit l (free - n) fuel
        (k :: ks, l)

/-- The credit returns of the next flit: whole units of 4 slots, from at most three pools (R320, R329). -/
def Link.crets (l : Link) : List (Nat × Nat) := ((l.owed.filter (fun p => p.2 ≥ 4)).take 3).map (fun p => (p.1, p.2 / 4))
/-- They leave with it. -/
def Link.returnOwed (l : Link) : Link :=
  { l with owed := l.crets.foldl (fun (t : Tbl Nat) p => Tbl.set t p.1 (Tbl.get 0 t p.1 - p.2 * 4)) l.owed }

/-- A control flit: it carries the SEQ of the next data flit, and what R323 asks of every flit. -/
def Link.control (l : Link) (kind : Nat) : OutFlit := { kind := kind, seq := l.nextSeq, ackseq := l.rxSeq }
/-- A training marker, with this end's good lanes. -/
def Link.marker (l : Link) : OutFlit := { (l.control kindMarker) with lanes := l.good }
/-- A width-control flit (R333). -/
def Link.widthFlit (l : Link) (lanes : BitVec 8) (w : Nat) (confirm : Bool) : OutFlit :=
  { (l.control kindWidth) with lanes := lanes, proposal := BitVec.ofNat 2 w, confirm := confirm }
/-- A flit of the replay buffer as it is sent now. -/
def Link.dataFlit (l : Link) (f : TxFlit) : OutFlit :=
  { kind := kindData, seq := f.seq, ackseq := l.rxSeq, first := f.first, pkts := f.pkts, crets := f.crets }

/-- What an octet in state up sends at a tick: a data flit while messages wait and the replay buffer has room, otherwise an idle
flit when an acknowledgement is due or credits are owed (R322 to R324). -/
def State.sendFlit (s : State) (n : Nat) : State :=
  let l := { s.link n with out := [] }
  let room := decide (l.replay.length < 512)
  let rest := l.txRest
  let (ks, l') := if room then s.fillFlit { l with txRest := rest - 15 } (15 - rest) 15 else ([], l)
  if room && (!ks.isEmpty || decide (rest > 0)) then
    let f : TxFlit := { seq := l'.nextSeq, pkts := ks, first := satTo 15 rest, crets := l'.crets }
    (s.octetCount n 0x01 1).setLink n { l'.returnOwed with
      nextSeq := l'.nextSeq + 1, replay := l'.replay ++ [f], ackDue := none,
      lastAck := if l'.replay.isEmpty then s.clause else l'.lastAck, out := [l'.dataFlit f] }
  else if l.ackDue.any (fun c => decide (c.toNat ≤ s.clause.toNat)) || l.owed.any (fun p => decide (p.2 ≥ 4)) then
    s.setLink n { l.returnOwed with ackDue := none, out := [{ (l.control kindIdle) with crets := l.crets }] }
  else s.setLink n l

/-- Messages of priorities 1 to 3 of the package's own agents are held by ROUTE_HOLD (R341 step 3). -/
def State.injectable (s : State) (m : Msg) : Bool :=
  decide (agentPkg m.hdr.dst ≠ s.pkgNum) && s.joined && (!s.image.held || decide (linkClass m.type = 0))

/-- Messages for other packages move from their agents to the links. -/
def State.inject (s : State) : List Msg → State
  | [] => s
  | m :: l => ({ s with sent := s.sent.erase m }.route (s.pkt m false)).inject l

def State.sendFlits (s : State) : List Nat → State
  | [] => s
  | n :: l => (s.sendFlit n).sendFlits l

/-- Octets with a message that waits for credit count the clause (R655). -/
def State.countWaits (s : State) : List Nat → State
  | [] => s
  | n :: l => (if (s.link n).queue.any (fun k => decide ((s.link n).credit (pktPool k) < k.route.len.toNat)) then s.octetCount n 0x05 1 else s).countWaits l

/-- One clause of the package's Trail links. -/
def State.linkTick (s : State) : State :=
  let s := s.inject (s.sent.filter s.injectable)
  let up := s.trailOctets.filter (fun n => s.linkState n = linkUp || s.linkState n = linkIsolated)
  (s.countWaits up).sendFlits up

/-! ## Retrains (R332 to R335) -/

/-- A link state with no lanes in use while it retrains (R356). -/
def State.noLanes (s : State) (n : Nat) : State := s.setFld (regTrlStatus n) 15 8 0

/-- A partial reset starts at this end (R332; 7003h, log entry 23). -/
def State.partialReset (s : State) (n cause : Nat) : State :=
  if s.linkState n = linkUp ∨ s.linkState n = linkIsolated then
    let s := (s.emit 12 (56 + n) 0x7003 0 [n, cause]).addFld (regTrlCount1 n) 31 16 1
    (s.setLinkState n linkTrainingSt).modLink n (fun l => { l with full := false, agreeing := none, met := false, out := [l.marker] })
  else s

/-- A full retrain attempt begins (R335). -/
def State.fullRetrain (s : State) (n : Nat) : State :=
  ((s.setLinkState n linkTrainingSt).addFld (regTrlCount1 n) 15 0 1).modLink n
    (fun l => { l with full := true, agreeing := none, met := false, out := [l.marker] })

/-- The link is fenced after three failed full retrains: its messages are stranded, the manager is told, and a member enters DEGRADED
(R335, R341 step 1). -/
def State.fenceLink (s : State) (n last : Nat) : State :=
  let l := s.link n
  let nb := s.linkPkg n
  let s := (s.setLinkState n linkFenced).noLanes n
  let s := s.setLink n { l with stranded := l.replay.flatMap (·.pkts) ++ l.queue, queue := [], replay := [], txRest := 0, out := [] }
  let s := s.emit 12 (56 + n) 0x7004 0 [n, l.attempts, last]
  let s := if s.joined then s.sendMgmt .event s.managerNum (.report (.link n (BitVec.ofNat 5 nb) true)) else s
  s.degrade

/-- A failed attempt: another, or the fence after the third (R335). -/
def State.retrainFailed (s : State) (n last : Nat) : State :=
  let s := s.modLink n (fun l => { l with attempts := l.attempts + 1 })
  if (s.link n).attempts ≥ 3 then s.fenceLink n last else s.fullRetrain n

/-- Resends of a link count as CE, with a record at most once per 1,024 (R326). -/
def State.countResends (s : State) (n k : Nat) (last : BitVec 12) : State :=
  let s := ((s.addFld (regTrlCount0 n) 31 0 k).addFld regGlbErrsum 63 32 k).octetCount n 0x03 k
  let rec' (c : Nat) (s : State) : State :=
    (s.emit 12 (56 + n) 0x3090 0 [n, c, last.toNat]).noticeDue 0x3090 0 (s.origin 12 (56 + n)) false
  match (s.link n).resent with
  | none => (rec' k s).modLink n (fun l => { l with resent := some 0 })
  | some c =>
    if c + k ≥ 1024 then (rec' (c + k) s).modLink n (fun l => { l with resent := some 0 })
    else s.modLink n (fun l => { l with resent := some (c + k) })

/-- Every held flit is resent in SEQ order, with RETX in the messages that begin in it (R324, R325). -/
def State.resendAll (s : State) (n : Nat) : State :=
  let l := s.link n
  match l.replay.getLast? with
  | none => s
  | some f =>
    let flag (k : Pkt) : Pkt := { k with route := { k.route with retx := true } }
    let again := l.replay.map (fun (f : TxFlit) => { f with pkts := f.pkts.map flag, resends := f.resends + 1 })
    (s.setLink n { l with replay := again, lastAck := s.clause, out := again.map l.dataFlit }).countResends n
      again.length f.seq

/-- The link enters state up at a width; a changed width is CE (R333, R334). -/
def State.enterUp (s : State) (n w lanes : Nat) : State :=
  let old := s.fld (regTrlStatus n) 7 6
  let s := (s.setFld (regTrlStatus n) 7 6 w).setFld (regTrlStatus n) 15 8 lanes
  let s := s.setLinkState n (if (s.link n).isolated then linkIsolated else linkUp)
  let s := s.modLink n (fun l => { l with full := false, attempts := 0, agreeing := none, met := false, nakAt := none,
                                          replay := l.replay.map (fun (f : TxFlit) => { f with resends := 0 }) })
  let s := if old ≠ w ∧ old ≠ 0 then s.ce 12 (56 + n) 0x7001 0 [n, old, w, lanes] else s
  s.resendAll n

/-! ## What an accepted message does (R325, R328, R339, R340) -/

/-- A flooded message is meant for this package. -/
def State.floodForMe (s : State) (k : Pkt) : Bool :=
  match k.msg.type, k.msg.body with
  | .discover, _ => true
  | .takeover, _ => true
  | .haltImage, _ => true
  | .ident, _ => s.fld regGlbIdent 4 4 = 1
  | .assign, .assign a => decide (a.serial = s.reg regMshIoserial)
  | _, _ => decide (k.route.dst.toNat = s.pkgNum)

/-- A message that an accepted data flit brought whole. -/
def State.takePkt (s : State) (n : Nat) (k : Pkt) : State :=
  let mine := decide (k.route.dst.toNat = s.pkgNum) || k.route.flood
  if k.route.len.toNat < 2 ∨ k.route.reserved ≠ 0 ∨ (mine ∧ k.unknown.isSome) then
    s.ueP 12 (56 + n) 0x5090 0 [n, routeWord k.route, match k.unknown with | some t => t.toNat | none => typeNum k.msg.type]
  else if k.route.flood then
    if s.image.floods.contains (k.fsrc, k.fseq) then s
    else
      let s := { s with image := { s.image with floods := (k.fsrc, k.fseq) :: s.image.floods } }
      let s := if k.route.hop.toNat < 2 then
          s.queueOn { k with route := { k.route with hop := k.route.hop + 1 } } (s.upOctets.filter (· ≠ n))
        else s
      if s.floodForMe k then { s with sent := s.sent ++ [k.msg] } else s
  else if k.route.dst.toNat = s.pkgNum then { s with sent := s.sent ++ [k.msg] }
  else if k.route.hop.toNat ≥ 2 then s.ueP 12 (56 + n) 0x5091 0 [n, routeWord k.route]
  else s.route { k with route := { k.route with hop := k.route.hop + 1 } }

def State.takePkts (s : State) (n : Nat) : List Pkt → State
  | [] => s
  | k :: l => (s.takePkt n k).takePkts n l

/-- The messages that an accepted flit completes, of those that begin in it, and the one it leaves begun with its slots to come
(R327). -/
def splitFlit : List (Nat × Pkt) → List Pkt × Option (Pkt × Nat)
  | [] => ([], none)
  | (i, k) :: l =>
    let (ks, r) := splitFlit l
    if i + k.route.len.toNat ≤ 15 then (k :: ks, r) else (ks, some (k, i + k.route.len.toNat - 15))

/-- An ACKSEQ: the flits it covers leave the replay buffer (R324). -/
def State.ackIn (s : State) (n : Nat) (a : BitVec 12) : State :=
  let l := s.link n
  if l.replay.any (fun f => decide (f.seq = a)) then
    s.setLink n { l with replay := (l.replay.dropWhile (fun f => decide (f.seq ≠ a))).drop 1, acked := a, lastAck := s.clause }
  else s

/-- Credits returned, in units of 4 slots (R320, R329). -/
def State.credIn (s : State) (n : Nat) (cs : List (Nat × Nat)) : State :=
  s.modLink n (fun l => { l with creds := cs.foldl (fun (t : Tbl Nat) c =>
    Tbl.set t c.1 (Tbl.get (poolSize c.1) t c.1 + 4 * c.2)) l.creds })

/-- The octet carries flits. -/
def State.linkCarries (s : State) (n : Nat) : Bool :=
  s.isTrail n && (decide (s.linkState n = linkUp) || decide (s.linkState n = linkIsolated))

/-- A data flit that is not accepted is discarded, with one NAK for each expected SEQ, and another when R324's 256 clauses have passed
since (R322, log entry 96). -/
def State.discardFlit (s : State) (n : Nat) : State :=
  let l := s.link n
  let asked := l.nakAt.any (fun c => decide (s.clause.toNat < c.toNat + 256))
  if asked then s else s.setLink n { l with nakAt := some s.clause, out := l.out ++ [l.control kindNak] }

/-- An accepted data flit. -/
def State.acceptFlit (s : State) (n : Nat) (f : Flit) : State :=
  let l := s.link n
  let (first, rest) : List Pkt × Option (Pkt × Nat) := match l.rxRest with
    | none => ([], none)
    | some (k, m) => if m ≤ 15 then ([k], none) else ([], some (k, m - 15))
  let (more, begun) := splitFlit f.begun
  let done := first ++ more
  let owed := done.foldl (fun (t : Tbl Nat) k => Tbl.set t (pktPool k) (Tbl.get 0 t (pktPool k) + k.route.len.toNat)) l.owed
  let due : Word := match l.ackDue with
    | some c => c
    | none => s.clause + 8
  let s := s.setLink n { l with rxSeq := f.seq, nakAt := none, ackDue := some due,
                                rxRest := (match rest with | some x => some x | none => begun), owed := owed }
  let s := (s.ackIn n f.ackseq).credIn n f.crets
  (s.octetCount n 0x02 1).takePkts n done

/-- The corrected symbols of a lane within 2^20 clauses (R332). -/
def State.laneSum (s : State) (n lane : Nat) : Nat :=
  ((Tbl.get [] (s.link n).laneSyms lane).filter (fun x => decide ((s.clause - x.1).toNat < 2 ^ 20))).foldl (fun k x => k + x.2) 0

/-- Corrected symbols are attributed to their lanes. -/
def State.attribute (s : State) (n : Nat) : List (Fin 8 × Nat) → State
  | [] => s
  | (lane, k) :: l => (s.modLink n (fun x =>
      let old := (Tbl.get [] x.laneSyms lane.val).filter (fun y => decide ((s.clause - y.1).toNat < 2 ^ 20))
      { x with laneSyms := Tbl.set x.laneSyms lane.val ((s.clause, k) :: old) })).attribute n l

/-- R319: what the decoder counts for a flit. -/
def State.decoded (s : State) (n : Nat) (d : Decoded) : State :=
  let k := d.syms.foldl (fun m x => m + x.2) 0
  (((s.addFld (regTrlCount0 n) 63 32 k).addFld (regTrlCount1 n) 63 32 d.uncorr).octetCount n 0x04 k).attribute n d.syms

/-- R322, R319, R616: a data flit arrives. -/
def execDataFlit (n : Octet) (f : Flit) (s : State) : Host.Outcome State Fault Refusal :=
  if !s.linkCarries n.val then .next s
  else
    let s := s.decoded n.val f.rx
    match s.injectKind 8 n.val none with
    | some 0 => .next ((s.fireInject 8 12 (56 + n.val)).discardFlit n.val)
    | some 1 => .next ((s.fireInject 8 12 (56 + n.val)).partialReset n.val 1)
    | _ =>
      if f.intact && decide (f.kind ≠ kindData) then .next s
      else if f.intact && decide (f.seq = (s.link n.val).rxSeq + 1) then .next (s.acceptFlit n.val f)
      else .next (s.discardFlit n.val)

/-- A control flit: the decoder counts it, and one received in error, or of another KIND, does nothing more (R319). -/
def onControl (s : State) (n : Nat) (f : Flit) (kind : Nat) (act : State → State) : Host.Outcome State Fault Refusal :=
  let s := s.decoded n f.rx
  .next (if f.intact && decide (f.kind = kind) then act s else s)

/-- R323. -/
def execIdleFlit (n : Octet) (f : Flit) (s : State) : Host.Outcome State Fault Refusal :=
  if s.linkCarries n.val then onControl s n.val f kindIdle (fun s => (s.ackIn n.val f.ackseq).credIn n.val f.crets) else .next s

/-- The resend after a NAK or a timeout, or the partial reset when a flit has been resent too often (R324, R326). -/
def State.retry (s : State) (n : Nat) : State :=
  let s := s.resendAll n
  if (s.link n).replay.any (fun f => decide (f.resends ≥ s.fld (regTrlLinkctl n) 23 16)) then s.partialReset n 1 else s

/-- R324. -/
def execNakFlit (n : Octet) (f : Flit) (s : State) : Host.Outcome State Fault Refusal :=
  if s.linkCarries n.val then onControl s n.val f kindNak (fun s => ((s.ackIn n.val f.ackseq).credIn n.val f.crets).retry n.val)
  else .next s

/-- R324. -/
def execReplayTimeout (n : Octet) (s : State) : Host.Outcome State Fault Refusal :=
  let l := s.link n.val
  if s.linkCarries n.val ∧ l.replay ≠ [] ∧ l.lastAck.toNat + 256 ≤ s.clause.toNat then .next (s.retry n.val) else .next s

/-- Masks meet, then the confirmation at the width adopted (R333). -/
def State.agreeWidth (s : State) (n : Nat) (mask : BitVec 8) (proposal : BitVec 2) (confirm : Bool) : State :=
  let l := s.link n
  let mine := (widthOf l.good 3).1
  let most := if proposal.toNat < mine then proposal.toNat else mine
  let far := if confirm then l.far else mask
  let (w, lanes) := widthOf (l.good &&& far) most
  if confirm then (if l.met then s.enterUp n w lanes else s)
  else if !s.widthOk n w then s.retrainFailed n w
  else s.setLink n { l with far := mask, met := true, out := l.out ++ [l.widthFlit l.good w true] }

/-- R333. -/
def execWidthControlFlit (n : Octet) (f : Flit) (mask : BitVec 8) (proposal : BitVec 2) (confirm : Bool) (s : State) :
    Host.Outcome State Fault Refusal :=
  if s.linkState n.val = linkAgreeing then onControl s n.val f kindWidth (fun s => s.agreeWidth n.val mask proposal confirm)
  else .next s

/-- R332: the other end has begun a partial reset, or exchanges its good lanes in training. -/
def execTrainingMarker (n : Octet) (mask : BitVec 8) (s : State) : Host.Outcome State Fault Refusal :=
  let st := s.linkState n.val
  if !s.isTrail n.val ∨ st = linkFenced ∨ st = linkDownSt then .next s
  else
    let s := s.modLink n.val (fun l => { l with far := mask })
    if st = linkUp ∨ st = linkIsolated then
      .next ((s.setLinkState n.val linkTrainingSt).modLink n.val
        (fun l => { l with full := false, agreeing := none, met := false, out := [l.marker] }))
    else .next s

/-- R332. -/
def execFecLockLoss (n : Octet) (s : State) : Host.Outcome State Fault Refusal :=
  .next (if s.isTrail n.val then s.partialReset n.val 2 else s)

/-- R332: a lane whose corrected symbols have reached the limit is excluded from the good lanes. -/
def execLaneLimit (n : Octet) (lane : Fin 8) (s : State) : Host.Outcome State Fault Refusal :=
  let limit := s.fld (regTrlLinkctl n.val) 15 4
  if s.linkCarries n.val ∧ limit ≠ 0 ∧ limit ≤ s.laneSum n.val lane.val then
    .next ((s.modLink n.val (fun l => { l with good := l.good &&& ~~~(BitVec.ofNat 8 (2 ^ lane.val)),
                                               laneSyms := Tbl.erase l.laneSyms lane.val })).partialReset n.val 3)
  else .next s

/-- R332. -/
def execTrlRetrain (n : Octet) (s : State) : Host.Outcome State Fault Refusal :=
  .next (if s.isTrail n.val then s.partialReset n.val 4 else s)

/-- R332, R333: the partial reset is over, and width agreement begins. `good`: the lanes that trained. -/
def execPartialResetDone (n : Octet) (good : BitVec 8) (s : State) : Host.Outcome State Fault Refusal :=
  let l := s.link n.val
  if s.linkState n.val = linkTrainingSt ∧ !l.full ∧ s.mode ≠ modeTrain then
    let g := l.good &&& good
    .next ((s.setLinkState n.val linkAgreeing).setLink n.val
      { l with good := g, agreeing := some s.clause, met := false, out := [l.widthFlit g (widthOf g 3).1 false] })
  else .next s

/-- R333. -/
def execWidthConfirmTimeout (n : Octet) (s : State) : Host.Outcome State Fault Refusal :=
  let l := s.link n.val
  match l.agreeing with
  | some c =>
    if s.linkState n.val = linkAgreeing ∧ c.toNat + 64 ≤ s.clause.toNat then
      let prop (m : BitVec 8) : Nat := m.toNat + (widthOf m 3).1 * 256
      .next ((s.emit 12 (56 + n.val) 0x7002 0 [n.val, prop l.good, prop l.far]).fullRetrain n.val)
    else .next s
  | none => .next s

/-- R335: a full retrain attempt ends; `good`, `far`: the good lanes of the two ends. -/
def execFullRetrainDone (n : Octet) (ok : Bool) (good far : BitVec 8) (s : State) : Host.Outcome State Fault Refusal :=
  let l := s.link n.val
  if s.linkState n.val = linkTrainingSt ∧ l.full then
    let (w, lanes) := widthOf (good &&& far) 3
    if ok && s.widthOk n.val w then .next ((s.setLink n.val { l with good := good, far := far }).enterUp n.val w lanes)
    else .next (s.retrainFailed n.val w)
  else .next s

/-- R331 steps 4 to 7. -/
def execLinkTrainingDone (n : Octet) (good far : BitVec 8) (serial : Word) (octet : Octet) (s : State) : Host.Outcome State Fault Refusal :=
  if s.mode = modeTrain ∧ s.isTrail n.val ∧ s.linkState n.val = linkTrainingSt then
    let (w, lanes) := widthOf (good &&& far) 3
    if s.widthOk n.val w then
      let s := (s.setReg (regTrlNeighbour n.val) serial).setFld (regTrlStatus n.val) 27 24 octet.val
      let s := ((s.setFld (regTrlStatus n.val) 7 6 w).setFld (regTrlStatus n.val) 15 8 lanes).setLinkState n.val linkUp
      let s := s.setLink n.val { good := good, far := far }
      .next (s.emit 12 (56 + n.val) 0x7000 0 [n.val, w, lanes, bits serial 31 0])
    else .next (s.setLinkState n.val linkDownSt)
  else .next s

/-- R331. -/
def execLinkTrainingTimeout (n : Octet) (s : State) : Host.Outcome State Fault Refusal :=
  if s.mode = modeTrain ∧ s.isTrail n.val ∧ s.linkState n.val = linkTrainingSt then .next (s.setLinkState n.val linkDownSt)
  else .next s

/-- R689 step 1: the far end's signal is lost. -/
def execLinkDown (n : Octet) (s : State) : Host.Outcome State Fault Refusal :=
  let st := s.linkState n.val
  if !s.isTrail n.val ∨ st = linkDownSt ∨ st = linkFenced ∨ s.mode = modeTrain then .next s
  else
    let nb := BitVec.ofNat 5 (s.linkPkg n.val)
    let s := s.emit 12 (56 + n.val) 0x7003 0 [n.val, 5]
    let s := if s.joined then s.sendMgmt .event s.managerNum (.report (.link n.val nb false)) else s
    .next ((s.modLink n.val (fun l => { l with attempts := 0 })).fullRetrain n.val)

end Sys2Proof.Machine
end

