-- ==== Sys2Proof/Machine/Commands.lean ====
section
/-! DEFINITION. What becomes of a platform-host command once it is judged (13_platform_endpoint.md R500, R503, R506, R508): its
completion, its refusal, its life as a long operation, its passing to another member. -/
namespace Sys2Proof.Machine
open Sys2Proof

/-! ## The key record (R501) -/

/-- The slots that are ACTIVE, as the key record holds them. -/
def State.keyRecord (s : State) : List (Nat × BitVec 256 × Word) :=
  ((upTo 8).filter (fun k => s.fld (regTktSlot0 k) 0 0 = 1)).map (fun k => (k, Tbl.get 0 s.ownerKeys k, s.reg (regTktSlot1 k)))

/-- Both copies of the key record are written (R501, R504). -/
def State.saveKeys (s : State) : State :=
  { s with flash := { s.flash with keys0 := some s.keyRecord, keys1 := some s.keyRecord } }

/-! ## Status values (R500) -/

def stOk : Nat := 0
def stRunning : Nat := 1
def stState : Nat := 2
def stAuth : Nat := 3
def stReplay : Nat := 4
def stBadField : Nat := 5
def stSlotEmpty : Nat := 6
def stAborted : Nat := 7
def stNoTarget : Nat := 8

/-- Parameter word `i` of a command. -/
def cmdWord (c : Command) (i : Nat) : Word := c.ps.getD i 0

/-- The package presents the endpoint and its command rings: the manager, once a takeover is complete, and before JOIN the package
strapped MGR_SEL (R14, R351 step 4). -/
def State.servesHost (s : State) : Bool :=
  if s.joined then s.isManager && s.image.takeover.isNone else s.fld regGlbIdent 4 4 = 1

/-- The command no longer counts as outstanding (R496). -/
def State.notOutstanding (s : State) : State := s.setFld regEpfStatus 40 32 (s.fld regEpfStatus 40 32 - 1)

/-- A completion waits for its ring; that of a command read before the last function reset is not written (R513). -/
def State.pushCompletion (s : State) (x : Completion) : State :=
  if x.cmd.gen ≠ s.epf.gen then
    let s := s.emit 12 84 0xB004 0 [x.cmd.cmdid.toNat, x.status, x.cmd.ring]
    if x.final then s.notOutstanding else s
  else { s with completions := s.completions ++ [x] }

/-- The final completion of a command. On a member that the manager passed the command to, its result goes to the manager (R506). -/
def State.complete (s : State) (c : Command) (status : Nat) (r0 r1 : Word) : State :=
  if s.servesHost then
    let s := match c.stamp with
      | some t => s.ticketDone c status t
      | none => s
    let s := { s with longOps := if c.oper = 0 then s.longOps else Tbl.set s.longOps c.oper (c, true) }
    s.pushCompletion { cmd := c, status := status, r0 := r0, r1 := r1 }
  else if s.joined then s.sendMgmt .event s.managerNum (.report (.done c (BitVec.ofNat 8 status) r0 r1))
  else s

def State.ok (s : State) (c : Command) : State := s.complete c stOk 0 0

/-- A long command is given the next operation number and its RUNNING completion (R508). -/
def State.startLong (s : State) (c : Command) : State × Command :=
  if !s.servesHost then (s, c)
  else
    let c := { c with oper := s.opNext }
    let s := { s with opNext := if s.opNext = 255 then 1 else s.opNext + 1, longOps := Tbl.set s.longOps c.oper (c, false) }
    (s.pushCompletion { cmd := c, status := stRunning, final := false }, c)

/-- A command that is not legal in the mode or state in which it is resolved (R503 check 6). The refusal carries the stamp of the
command's acceptance, as the worked example of R47 shows. -/
def State.refuseState (s : State) (c : Command) : State :=
  let ps := [c.slot.toNat, c.opcode.toNat, bits c.counter 31 0, bits (s.reg regGlbMode) 31 0]
  (match c.stamp with
    | some t => s.emitStamped t 12 82 0x2003 0 ps
    | none => s.emit 12 82 0x2003 0 ps).complete c stState 0 0

/-- A command whose parameters or target are not valid (R503 check 5). -/
def State.refuseField (s : State) (c : Command) (status : Nat) : State :=
  (s.emit 12 82 0x2004 0 [c.slot.toNat, c.opcode.toNat, c.cmdid.toNat, 5]).complete c status 0 0

/-- The manager passes a command to a member's management controller (R506; log entry 24). -/
def State.passCommand (s : State) (c : Command) (p : Nat) : State := s.sendMgmt .event p (.command c)

def State.passAll (s : State) (c : Command) : List Nat → State
  | [] => s
  | p :: l => (s.passCommand c p).passAll c l

/-- A command taken off the list of messages sent, when it came from the manager. -/
def State.takeCommand (s : State) (c : Command) : State :=
  match s.sent.find? (fun m => decide (m.body = .command c)) with
  | some m => s.delivered m
  | none => s

/-- The first message of a type from a package leaves the list of messages sent. -/
def State.takeMgmt (s : State) (ty : MsgType) (src : Nat) : State :=
  match s.sent.find? (fun m => decide (m.type = ty) && decide (agentPkg m.hdr.dst = s.pkgNum) && decide (agentPkg m.hdr.src = src)) with
  | some m => s.delivered m
  | none => s

/-- A management message before and after routes exist: flooded until this package is a member (R340). -/
def State.sendCtl (s : State) (ty : MsgType) (p : Nat) (body : Body) : State :=
  let m : Msg := { type := ty, hdr := { src := agentId s.pkgNum 12 96, dst := agentId p 12 96, stamp := s.clause }, body := body }
  if s.joined then s.send m else s.flood m

/-- A management message of the image for every package (R340). -/
def State.floodMgmt (s : State) (ty : MsgType) (body : Body) : State :=
  s.flood { type := ty, hdr := { src := agentId s.pkgNum 12 96, dst := agentId s.pkgNum 12 96, stamp := s.clause }, body := body }

/-- The function enters containment (R515): cause 1 link-down, 2 an uncorrectable error, 3 takeover. -/
def State.epfContain (s : State) (cause : Nat) : State :=
  if s.fld regEpfStatus 11 11 = 1 then s
  else
    let s := (s.setFld regEpfStatus 15 12 cause).setFld regEpfStatus 11 11 1
    ({ s with epf := { s.epf with containedAt := s.clause, reads := [], late := s.epf.late ++ s.epf.reads } }).emit 12 84 0xB000 0 [cause, s.epf.aer.toNat]

/-- The package halts by transition 18, its state held (second case of R574): ALERT_N is asserted (R575). -/
def State.haltHeld (s : State) : State :=
  if s.mode = modeHalt ∨ s.mode ≤ modeStandby then s else { (s.enterMode modeHalt 18) with alertN := true }

end Sys2Proof.Machine
end

