-- ==== Sys2Proof/Machine/ClauseUnit.lean ====
section
/-! DEFINITION. The clause unit (02_clause_time.md R20 to R24, R33 to R37, R46, R49 to R51): lock, timing exchanges, alignment,
drift correction. -/
namespace Sys2Proof.Machine
open Sys2Proof

/-- A count in 1/16 clause, with the phase fraction (R23). -/
def State.now16 (s : State) : Nat := s.clause.toNat * 16 + s.phase.toNat

/-- R21: the clause clock locks in SENSE, and the counter starts, or resumes from the value it held. -/
def execClauseClockLock (s : State) : Host.Outcome State Fault Refusal :=
  if s.mode = modeSense then .next { (s.setFld regClkStatus 0 0 1) with counting := true } else .next s

/-- R46: lock or the board reference is lost; the counter goes on in holdover, which nothing trims. -/
def execClauseLockLoss (s : State) : Host.Outcome State Fault Refusal :=
  if s.fld regClkStatus 0 0 = 1 then
    let w := bits (s.reg regClkStatus) 31 0
    let s := { s with image := { s.image with slew := 0 } }
    .next ((s.setFld regClkStatus 0 0 0).ueP 12 87 0x50C0 0 [w])
  else .next s

/-- R33, R35: the manager answers a timing exchange with its time at departure and its turnaround. -/
def execSyncReq (src : Pkg) (xid : BitVec 12) (retx : Bool) (turn : BitVec 16) (s : State) : Host.Outcome State Fault Refusal :=
  let s := s.takeMgmt .syncReq src.toNat
  if s.timeSource then
    .next (s.sendCtl .syncRsp src.toNat (.words [xid.zeroExtend 64, BitVec.ofNat 64 (b2n retx), BitVec.ofNat 64 s.now16, turn.zeroExtend 64]))
  else .next s

/-- The worker sends SYNC_REQ and notes its time at departure. -/
def State.startExchange (s : State) (a : Align) : State :=
  let a := { a with xid := a.xid + 1, t1 := s.now16 }
  let s := { s with image := { s.image with align := some a } }
  s.sendCtl .syncReq s.managerNum (.words [a.xid.zeroExtend 64])

/-- Of two exchanges, the one with the smaller round trip. -/
def betterOf (a : Option (Int × Int)) (b : Int × Int) : Option (Int × Int) := match a with
  | some x => if b.1 < x.1 then some b else some x
  | none => some b

/-- CLK.SYNCSTAT of the exchange chosen (R50). DESIGN CHOICE (log entry 77): a round trip beyond 16 bits reads FFFFh, a negative one 0,
and OFFSET keeps the low 16 bits. -/
def State.setSyncstat (s : State) (b : Int × Int) : State :=
  (s.setFld regClkSyncstat 47 32 (satTo 65535 b.1.toNat)).setFld regClkSyncstat 15 0 (wordOfInt b.2).toNat

/-- The offset's magnitude is within `n` clauses. -/
def within (off : Int) (n : Nat) : Bool := decide (off.natAbs ≤ 16 * n)

/-- The worker tells the manager how its alignment ended (R33 step 5). -/
def State.reportAligned (s : State) (ok : Bool) (off : Int) : State :=
  s.sendCtl .event s.managerNum (.report (.aligned ok (BitVec.ofInt 16 off)))

/-- The counter is moved to the manager's time: forward at once, or, at a realignment that finds it ahead, held until the manager's
count passes it (R33 step 4, R47). It never moves backward (R22). -/
def State.loadCounter (s : State) (a : Align) (off : Int) : State :=
  if 0 ≤ off then
    let t := s.now16 + off.toNat
    { (s.setFld regClkStatus 1 1 1) with clause := BitVec.ofNat 64 (t / 16), phase := BitVec.ofNat 4 t }
  else if a.realign then
    { (s.setFld regClkStatus 4 4 1) with image := { s.image with holdTicks := off.natAbs / 16 + 1 } }
  else s.setFld regClkStatus 1 1 1

/-- A try of R33 steps 3 to 5 has failed: another, or the worker cannot be aligned (R46). -/
def State.alignFailed (s : State) (a : Align) (off : Int) : State :=
  if a.tries < 3 then s.startExchange { a with tries := a.tries + 1, verify := false, left := 8, best := none }
  else
    let s := { s with image := { s.image with align := none } }
    if a.realign then s.ueP 12 87 0x50C1 0 [s.pkgNum, bits (wordOfInt off) 31 0, 3] else s.reportAligned false off

/-- Eight exchanges are done (R33 steps 3 to 5); ALIGNED follows the offset found (R49). Eight that were all discarded count as a try
that has failed, with offset 0 (DESIGN CHOICE, log entry 77). A counter that is held verifies once it counts again (R47). -/
def State.alignStep (s : State) (a : Align) : State :=
  match a.best with
  | none => s.alignFailed a 0
  | some b =>
    let s := (s.setSyncstat b).setFld regClkStatus 2 2 (b2n (within b.2 1))
    if a.verify then
      if within b.2 1 then { (s.reportAligned true b.2) with image := { s.image with align := none } }
      else s.alignFailed a b.2
    else
      let s := s.loadCounter a b.2
      let a := { a with verify := true, left := 8, best := none }
      if s.image.holdTicks = 0 then s.startExchange a else { s with image := { s.image with align := some { a with paused := true } } }

/-- R33, R34: an answer arrives; `tm` and `turn` are the manager's departure time and turnaround in 1/16 clause. -/
def execSyncRsp (xid : BitVec 12) (retx : Bool) (tm : Nat) (turn : BitVec 16) (s : State) : Host.Outcome State Fault Refusal :=
  let s := s.takeMgmt .syncRsp s.managerNum
  match s.image.align with
  | none => .next s
  | some a =>
    if a.xid ≠ xid ∨ a.paused then .next s
    else
      let rtt : Int := (s.now16 : Int) - a.t1 - turn.toNat
      let off : Int := (tm : Int) + rtt / 2 - s.now16
      let a := { a with best := if retx then a.best else betterOf a.best (rtt, off), left := a.left - 1 }
      if a.left = 0 then .next (s.alignStep a) else .next (s.startExchange a)

/-- R33 steps 2 and 3, R47 step 2: the worker starts its exchanges. -/
def execEpoch (value : Word) (s : State) : Host.Outcome State Fault Refusal :=
  let s := match s.sent.find? (fun m => decide (m.type = .epoch) && decide (m.body = .value value)) with
    | some m => s.delivered m
    | none => s
  if s.isManager then .next s
  else if s.mode = modeJoin ∨ s.sourcesHeld then .next (s.startExchange { realign := s.joined })
  else .next s

/-- The smallest round trip among four exchanges that Trail did not retransmit (R33, R34, R36). -/
def bestExchange (xs : List Exchange) : Option (Int × Int) :=
  ((xs.take 4).filter (fun x => !x.retx)).foldl (fun b x =>
    let rtt : Int := (x.t2 : Int) - x.t1 - x.ta
    betterOf b (rtt, (x.tm : Int) + rtt / 2 - x.t2)) none

/-- A rate within ±250 ppm, in units of 2^-32 (R51); the spec gives no formula (log entry 1). -/
def boundedRate (w : Word) : Nat := (wordOfInt ((w.toNat % 2147483 : Nat) - (1073741 : Int))).toNat % 2 ^ 32

/-- A worker asks the manager for a realignment (R46). -/
def State.askRealign (s : State) (off : Int) : State :=
  s.sendMgmt .event s.managerNum (.report (.realign (BitVec.ofInt 16 off)))

/-- R36, R46: the four exchanges of a correction, whose phase the ticks then slew. A package in holdover corrects nothing, and one in
HALT runs no exchanges. Where eight corrections have been missed, no offset has been found, and 00C0h will name 0 (DESIGN CHOICE,
log entry 77). -/
def execDriftCorrection (xs : List Exchange) (s : State) : Host.Outcome State Fault Refusal :=
  if !s.joined ∨ s.isManager ∨ s.mode = modeHalt ∨ s.fld regClkStatus 0 0 = 0 then .next s
  else match bestExchange xs with
    | none =>
      let k := satTo 8 (s.fld regClkStatus 11 8 + 1)
      let s := s.setFld regClkStatus 11 8 k
      let s := if k = 4 then s.ce 12 87 0x30C1 0 [k] else s
      .next (if k = 8 then s.askRealign 0 else s)
    | some b =>
      let s := (s.setSyncstat b).setFld regClkStatus 11 8 0
      let s := s.setFld regClkStatus 2 2 (b2n (within b.2 1))
      let s := (s.setFld regClkTrim 31 0 (boundedRate s.freeWord)).spendFree
      let s := { s with image := { s.image with slew := b.2 } }
      if !within b.2 8 then .next (s.askRealign b.2)
      else if 32 ≤ b.2.natAbs then .next (s.ce 12 87 0x30C0 0 [bits (wordOfInt b.2) 31 0, b.1.toNat])
      else .next s

/-- The counter counts: its clock runs and nothing holds it (R21, R47). -/
def State.clauseRuns (s : State) : Bool := s.counting && decide (modeStandby < s.mode) && decide (s.image.holdTicks = 0)

/-- A sixteenth of a clause may be slewed now (R36). -/
def State.slewDue (s : State) : Bool := s.clauseRuns && decide (s.image.slew ≠ 0) && decide (s.image.slewWait = 0)

/-- The slew carries out of the phase fraction: a second tick falls into this period of the board's clock. -/
def State.slewCarries (s : State) : Bool := s.slewDue && decide (0 < s.image.slew) && decide (s.phase = 15)

/-- The end of a hold: the counter counts again, and the exchanges that verify begin (R47). -/
def State.endHold (s : State) : State :=
  let s := s.setFld regClkStatus 4 4 0
  match s.image.align with
  | some a => if a.paused then s.startExchange { a with paused := false } else s
  | none => s

/-- One period of the board's clock: a tick of the counter (R20, R21), held while HELD is 1 (R47). A slew moves time by 1/16 clause in
every 16 clauses (R36): where it borrows from the count, the tick falls into the next period, so the count takes no step. -/
def State.clauseTick (s : State) : State :=
  if !s.counting ∨ s.mode ≤ modeStandby then s
  else if s.image.holdTicks > 0 then
    let s1 := { s with image := { s.image with holdTicks := s.image.holdTicks - 1 } }
    if s.image.holdTicks = 1 then s1.endHold else s1
  else if s.slewDue then
    let im (d : Int) : Image := { s.image with slew := s.image.slew - d, slewWait := 16 }
    if 0 < s.image.slew then { s with clause := s.clause + 1, phase := s.phase + 1, image := im 1 }
    else { s with clause := if s.phase = 0 then s.clause else s.clause + 1, phase := s.phase - 1, image := im (-1) }
  else { s with clause := s.clause + 1, image := { s.image with slewWait := s.image.slewWait - 1 } }

end Sys2Proof.Machine
end

