-- ==== Sys2Proof/Machine/Xts.lean ====
section
/-! DEFINITION. XTS-AES-256 over one 64-byte line (12_realms_isolation.md R462), as FIPS 197 and IEEE Std 1619 define it: the spec names
the cipher and gives none of its tables (PRESUMED, log entry 89). Bytes are numbers below 256. -/
namespace Sys2Proof.Machine

/-! ## The field of 256 elements -/

/-- The product by x modulo x^8 + x^4 + x^3 + x + 1. -/
def gfTwice (a : Nat) : Nat := if a < 128 then 2 * a else (2 * a) ^^^ 0x11b

/-- The product of `a` with the lowest `n` bits of `b`. -/
def gfTimes (a b : Nat) : Nat → Nat
  | 0 => 0
  | n + 1 => (if b.testBit 0 then a else 0) ^^^ gfTimes (gfTwice a) (b / 2) n

def gfInverse (a : Nat) : Nat := ((upTo 256).find? (fun b => decide (gfTimes a b 8 = 1))).getD 0

/-- A byte rotated to the left. -/
def rotByte (a k : Nat) : Nat := a * 2 ^ k % 256 + a / 2 ^ (8 - k)

def aesSub (a : Nat) : Nat :=
  let b := gfInverse a
  (upTo 5).foldl (fun x k => x ^^^ rotByte b k) 0x63

/-- The byte that `aesSub` takes to `a`. -/
def aesUnsub (a : Nat) : Nat := gfInverse (rotByte a 1 ^^^ rotByte a 3 ^^^ rotByte a 6 ^^^ 0x05)

/-! ## The cipher on a block of 16 bytes, four to a column -/

def xorBytes (a b : List Nat) : List Nat := (a.zip b).map (fun p => p.1 ^^^ p.2)

/-- The columns of the key schedule, newest first, `n` of them added to those of the key. -/
def aesColumns (cols : List (List Nat)) (round : Nat) : Nat → List (List Nat)
  | 0 => cols
  | n + 1 =>
    let i := cols.length
    let last := cols.headD []
    let step := if i % 8 = 0 then xorBytes ((last.drop 1 ++ last.take 1).map aesSub) [round, 0, 0, 0]
      else if i % 8 = 4 then last.map aesSub else last
    aesColumns (xorBytes (cols.getD 7 []) step :: cols) (if i % 8 = 0 then gfTwice round else round) n

/-- A list cut into columns of four. -/
def inFours (l : List Nat) : Nat → List (List Nat)
  | 0 => []
  | n + 1 => l.take 4 :: inFours (l.drop 4) n

/-- The fifteen round keys of a key of 32 bytes. -/
def aesKeys (key : List Nat) : List (List Nat) :=
  let cols := (aesColumns (inFours key 8).reverse 1 52).reverse
  (upTo 15).map (fun r => ((cols.drop (4 * r)).take 4).flatten)

/-- Row `r` of the block moves by `r` columns, forward or back. -/
def aesShift (back : Bool) (l : List Nat) : List Nat :=
  (upTo 16).map (fun i => l.getD ((i + (if back then 12 else 4) * (i % 4)) % 16) 0)

/-- Each column is multiplied by the polynomial with the given coefficients. -/
def aesMix (coef : List Nat) (l : List Nat) : List Nat :=
  (upTo 16).map (fun i => (upTo 4).foldl (fun x k =>
    x ^^^ gfTimes (l.getD (i / 4 * 4 + (i + k) % 4) 0) (coef.getD k 0) 8) 0)

def aesEncrypt (keys : List (List Nat)) (l : List Nat) : List Nat :=
  let inner := (keys.drop 1).take 13
  let x := inner.foldl (fun x k => xorBytes (aesMix [2, 3, 1, 1] (aesShift false (x.map aesSub))) k) (xorBytes l (keys.getD 0 []))
  xorBytes (aesShift false (x.map aesSub)) (keys.getD 14 [])

def aesDecrypt (keys : List (List Nat)) (l : List Nat) : List Nat :=
  let inner := ((keys.drop 1).take 13).reverse
  let x := inner.foldl (fun x k => aesMix [14, 11, 13, 9] (xorBytes ((aesShift true x).map aesUnsub) k)) (xorBytes l (keys.getD 14 []))
  xorBytes ((aesShift true x).map aesUnsub) (keys.getD 0 [])

/-! ## XTS over a line -/

/-- Bytes of a number, least significant first. -/
def lowBytes (v n : Nat) : List Nat := (upTo n).map (fun i => v / 256 ^ i % 256)
def fromBytes (l : List Nat) : Nat := l.foldr (fun b n => b + 256 * n) 0

/-- The tweak of the next block: the product by the primitive element of the field of 2^128 elements. -/
def nextTweak (t : Nat) : Nat := if t < 2 ^ 127 then 2 * t else (2 * t - 2 ^ 128) ^^^ 0x87

/-- Four blocks, each under its tweak. -/
def xtsBlocks (f : List Nat → List Nat) (t v : Nat) : Nat → Nat
  | 0 => 0
  | n + 1 =>
    let c := fromBytes (f (lowBytes (v % 2 ^ 128 ^^^ t) 16)) ^^^ t
    c + 2 ^ 128 * xtsBlocks f (nextTweak t) (v / 2 ^ 128) n

/-- A line encrypted or decrypted: `key` is 64 bytes, the data key first, and `tweak` the number of the data unit. -/
def xtsLine (decrypt : Bool) (key tweak : Nat) (v : Line) : Line :=
  let keys (n : Nat) : List (List Nat) := aesKeys (lowBytes (key / 2 ^ (256 * n)) 32)
  let t := fromBytes (aesEncrypt (keys 1) (lowBytes tweak 16))
  BitVec.ofNat 512 (xtsBlocks (if decrypt then aesDecrypt (keys 0) else aesEncrypt (keys 0)) t v.toNat 4)

end Sys2Proof.Machine
end

