-- ==== Sys2Proof/Machine/Dram.lean ====
section
/-! DEFINITION. The DRAM controllers (10_dram_subsystem.md R372 to R391) and the page ownership table (12_realms_isolation.md
R451 to R456). -/
namespace Sys2Proof.Machine
open Sys2Proof

/-! ## Page ownership (R451 to R454) -/

def potFree : Nat := 0
def potOwned : Nat := 1
def potSystem : Nat := 2
def potTransit : Nat := 3

/-- The first local page of the page ownership table, when the table has been written (R452, R480). -/
def State.potFirst (s : State) : Option Nat :=
  if s.fld regRlmPotbase 46 21 = 0 then none else some (s.fld regRlmPotbase 46 21 * 512)

/-- The entry of a local page; the table's own pages are SYSTEM (R452). -/
def State.potEntry (s : State) (page : Nat) : Nat :=
  match Tbl.find s.pot page with
  | some e => e
  | none => match s.potFirst with
    | some p => if p ≤ page then potSystem * 1024 else 0
    | none => 0

def State.setPot (s : State) (page e : Nat) : State :=
  { s with pot := if e = 0 then Tbl.erase s.pot page else Tbl.set s.pot page e }

def potState (e : Nat) : Nat := natBits e 11 10
def potRealm (e : Nat) : Nat := natBits e 9 0
def potKeysel (e : Nat) : Nat := natBits e 12 12
/-- An entry from KEYSEL, STATE and REALM. -/
def potMake (keysel st realm : Nat) : Nat := keysel * 4096 + st * 1024 + realm

/-- R453: an agent of realm `r` may access a local page. -/
def State.ownOk (s : State) (r page : Nat) : Bool :=
  let e := s.potEntry page
  (decide (potState e = potFree) && decide (r = 0)) || (decide (potState e = potOwned) && decide (potRealm e = r))

/-- The package answers a request of realm `r` for a local page: the ownership check passes, and it is not leaving the image with
step 3 of R572 begun. -/
def State.admitsPage (s : State) (r page : Nat) : Bool :=
  s.ownOk r page && !(match s.drain with
    | some d => d.refusing
    | none => false)

/-- The realm that owns a local page, 0 for a page that no realm owns (R391). -/
def State.pageOwner (s : State) (page : Nat) : Nat :=
  let e := s.potEntry page
  if potState e = potOwned then potRealm e else 0

/-- The local page of a line number. -/
def pageOfLine (a : Nat) : Nat := a / 64
/-- The number of a line within its package. -/
def lineIx (a : LineAddr) : Nat := a.toNat % 2 ^ 41

/-- The page-ownership cache reads the entry of a page: an error is corrected, or the line is read again (R456). -/
def State.ownCacheRead (s : State) (page : Nat) : State :=
  match Tbl.find s.realms.ownBad (page / 32) with
  | none => s
  | some k => ({ s with realms := { s.realms with ownBad := Tbl.erase s.realms.ownBad (page / 32) } }).ce 12 81 0x30E0 0
      [page / 32 % 16384, if k = 1 then 0 else 1]

/-- A key slot is read: an error of one copy is corrected from the other; a slot lost in both is a UE-P (R461). -/
def State.keyRead (s : State) (slot : Nat) : State :=
  match Tbl.find s.realms.keyBad slot with
  | none => s
  | some b =>
    if b % 4 = 3 then s.ueP 12 81 0x50E1 slot [slot]
    else ({ s with realms := { s.realms with keyBad := Tbl.erase s.realms.keyBad slot } }).ce 12 81 0x30E1 slot [slot, if b % 2 = 1 then 0 else 1]

/-- The record of a refused request (R455): code E005h. -/
def State.refusalRecord (s : State) (die src : Nat) (agent rank : Nat) (page realm : Nat) : State :=
  s.emit die src 0xE005 realm [agent + rank * 65536, (s.pkgNum * 2 ^ 35 + page) % 2 ^ 20, (s.pkgNum * 2 ^ 35 + page) / 2 ^ 20,
    s.potEntry page]

/-! ## Lines in DRAM (R384, R385) -/

/-- The line has been written in full since the last TRAIN (R385). -/
def State.isWritten (s : State) (a : Nat) : Bool := s.written.any (fun r => decide (r.1 ≤ a ∧ a < r.2))

/-- The lines `a` to `b - 1` have valid check symbols. A range joins one that it touches. -/
def addRange (l : List (Nat × Nat)) (a b : Nat) : List (Nat × Nat) :=
  match l.find? (fun r => decide (r.1 ≤ a ∧ a ≤ r.2)) with
  | some r => if b ≤ r.2 then l else (r.1, b) :: l.erase r
  | none => (a, b) :: l

def State.isAway (s : State) (a : Nat) : Bool := s.away.contains a
def State.setAway (s : State) (a : Nat) (v : Bool) : State :=
  if v then (if s.away.contains a then s else { s with away := a :: s.away }) else { s with away := s.away.filter (· ≠ a) }

/-! ## Memory keys (R461 to R464) -/

/-- Half `half` of slot `slot` is generated (R461, R463). -/
def State.genKey (s : State) (slot half : Nat) : State :=
  { s with keyCount := s.keyCount + 1, keyHalf := Tbl.set s.keyHalf (slot * 2 + half) (s.keyCount + 1) }
/-- A half is overwritten: it holds no key. -/
def State.eraseKey (s : State) (slot half : Nat) : State := { s with keyHalf := Tbl.erase s.keyHalf (slot * 2 + half) }
/-- The number of the key in half `half` of slot `slot`; 0 when it holds none. -/
def State.keyIn (s : State) (slot half : Nat) : Nat := Tbl.get 0 s.keyHalf (slot * 2 + half)

/-- The key of a page: the half that KEYSEL names in the slot of the page's owner, slot 0 for a page that no realm owns (R461, R462). -/
def State.pageKey (s : State) (page : Nat) : Nat :=
  let e := s.potEntry page
  if potState e = potOwned then s.keyIn (potRealm e) (potKeysel e) else s.keyIn 0 (s.fld (regKeySlot 0) 3 3)

/-- The key under which a line stands encrypted in DRAM. -/
def State.lineKey (s : State) (a : Nat) : Nat := Tbl.get s.fillKey s.lineKeys a
/-- A line is encrypted under a key from now on. -/
def State.setLineKey (s : State) (a k : Nat) : State :=
  { s with lineKeys := if k = s.fillKey then Tbl.erase s.lineKeys a else Tbl.set s.lineKeys a k }

/-- XTS-AES-256 of a line under the `k`-th key: the tweak is PA[46:6], its number (R462). -/
def cipherLine (k a : Nat) (l : Line) : Line := xtsLine false (Config.keyBits k) a l
/-- What decryption under the `k`-th key gives. -/
def decipherLine (k a : Nat) (c : Line) : Line := xtsLine true (Config.keyBits k) a c

/-- The line as the DIMM holds it. -/
def State.storedLine (s : State) (a : Nat) : Line := cipherLine (s.lineKey a) a (s.readMem (64 * a))

/-- The line as a read under key `k` delivers it: its plaintext, or what another key makes of the ciphertext. The state keeps the
plaintext beside the number of its key, of which decryption under the same key is the inverse (log entry 89). -/
def State.plainLine (s : State) (a k : Nat) : Line :=
  if k = s.lineKey a then s.readMem (64 * a) else decipherLine k a (s.storedLine a)

/-! ## Ports and regulators (R377 to R381, R472 to R475) -/

def State.groupReg (n r : Nat) : Nat := n / 4 * 1024 + r

/-- A line is admitted for a realm: a token of the MAX bucket, and one of the MIN bucket where that holds one (R472). -/
def State.takeRealmTokens (s : State) (g : Nat) : State :=
  let mn := Tbl.get 0 s.minTok g
  let mx := Tbl.get 0 s.maxTok g
  { s with minTok := if mn ≥ 1024 then Tbl.set s.minTok g (mn - 1024) else s.minTok,
           maxTok := if mx ≥ 1024 then Tbl.set s.maxTok g (mx - 1024) else s.maxTok }

/-- The read queue of a controller (R373). -/
def State.readQueue (s : State) (n : Nat) : List LineAddr := Tbl.get [] s.readQ n

/-- One line is transferred for a port and a realm: tokens are taken, the line is counted (R378, R472, R655). A read that stood in the
controller's queue took its realm's tokens as it was admitted. -/
def State.transfer (s : State) (n port r a : Nat) : State :=
  let k := n * 4 + port
  let g := State.groupReg n r
  let tok := Tbl.get 0 s.portTok k
  let q := s.readQueue n
  let l := BitVec.ofNat 46 (s.pkgNum * 2 ^ 41 + a)
  let s := if q.contains l then { s with readQ := Tbl.set s.readQ n (q.erase l) } else s.takeRealmTokens g
  let s := { s with portTok := if tok ≥ 256 then Tbl.set s.portTok k (tok - 256) else s.portTok }
  (s.addFld (regRlmReg1 g) 31 0 1).countUncore (slotDram n 0) 6 (0x10 + port) 1 (some r)

/-- RATE_p and DEPTH_p (R380). -/
def State.portRate (s : State) (n p : Nat) : Nat :=
  if s.fld (regDmcTokendepth n) 63 63 = 1 then s.fld (regDmcTokenrate n) (16 * p + 15) (16 * p)
  else
    let w (i : Nat) : Nat := s.fld regDmcShare (8 * i + 7) (8 * i)
    256 * w p / (w 0 + w 1 + w 2 + w 3)
def State.portDepth (s : State) (n p : Nat) : Nat :=
  if s.fld (regDmcTokendepth n) 63 63 = 1 then s.fld (regDmcTokendepth n) (12 * p + 11) (12 * p) else 64
def State.portHard (s : State) (n p : Nat) : Bool :=
  s.fld (regDmcTokendepth n) 63 63 = 1 && (s.reg (regDmcTokendepth n)).getLsbD (48 + p)

/-- A port's queued request may be performed: the port is in credit, or is not hard (R379). -/
def State.portReady (s : State) (n port : Nat) : Bool :=
  !s.portHard n port || decide (Tbl.get 0 s.portTok (n * 4 + port) ≥ 256)

/-- The realm's MAX bucket lets a request through (R473). -/
def State.underCap (s : State) (n r : Nat) : Bool :=
  decide (s.fld (regRlmReg0 (State.groupReg n r)) 28 16 = 0) || decide (Tbl.get 0 s.maxTok (State.groupReg n r) ≥ 1024)
/-- The realm's MIN bucket holds a token (R473). -/
def State.belowMin (s : State) (n r : Nat) : Bool := decide (Tbl.get 0 s.minTok (State.groupReg n r) ≥ 1024)

/-- The next realm in round robin after `last`: the lowest above it, or the lowest of all. -/
def nextRealm (last : Nat) (rs : List Nat) : Option Nat :=
  let low (l : List Nat) : Option Nat := l.foldl (fun m r => match m with
    | some x => some (if r < x then r else x)
    | none => some r) none
  match low (rs.filter (fun r => decide (last < r))) with
  | some r => some r
  | none => low rs

/-- A port admits one of the requests that wait, given with their realms in order of arrival: of a realm whose MIN bucket holds a token,
and otherwise of another; round robin by realm number in each case (R473). The read queue has room for 96 lines (R373). -/
def State.admitOne (s : State) (n port : Nat) (waiting : List (LineAddr × Nat)) : State :=
  let open' := waiting.filter (fun w => !(s.readQueue n).contains w.1 && s.underCap n w.2)
  let first := open'.filter (fun w => s.belowMin n w.2)
  let turn := (n * 4 + port) * 2 + b2n first.isEmpty
  let class' := if first.isEmpty then open' else first
  if 96 ≤ (s.readQueue n).length then s
  else match nextRealm (Tbl.get 0 s.admitTurn turn) (class'.map (·.2)) with
    | none => s
    | some r => match class'.find? (fun w => decide (w.2 = r)) with
      | none => s
      | some w => ({ s with readQ := Tbl.set s.readQ n (s.readQueue n ++ [w.1]),
                            admitTurn := Tbl.set s.admitTurn turn r } : State).takeRealmTokens (State.groupReg n r)

/-- A port admits every request that it may now. -/
def State.admitPort (s : State) (n port : Nat) (waiting : List (LineAddr × Nat)) : Nat → State
  | 0 => s
  | k + 1 => (s.admitOne n port waiting).admitPort n port waiting k

/-- The ports of a controller admit what waits at them, `waiting` by port; a queued line for which nothing waits any more leaves the
queue. -/
def State.admitPorts (s : State) (n : Nat) (waiting : List (Nat × LineAddr × Nat)) : State :=
  let s := { s with readQ := Tbl.set s.readQ n ((s.readQueue n).filter (fun a => waiting.any (fun w => decide (w.2.1 = a)))) }
  (upTo 4).foldl (fun (s : State) p =>
    let l := (waiting.filter (fun w => decide (w.1 = p))).map (·.2)
    s.admitPort n p l l.length) s

/-- The lowest channel in use, whose population is that of every channel in use (R360, R366). -/
def State.chanInUse (s : State) : Nat := if s.fld (regDmcStatus 0) 1 1 = 1 then 8 else 0
/-- Each channel holds two DIMMs: d of R368. -/
def State.twoDimms (s : State) : Bool := decide (s.fld (regDmcStatus s.chanInUse) 9 8 = 2)
/-- r of R368: 0, 1 or 2 for 1, 2 or 4 ranks. -/
def State.rankBits (s : State) : Nat := satTo 2 (s.fld (regDmcStatus s.chanInUse) 11 10)

/-- DIMM * 4 + rank of a line (R368). -/
def State.dramRank (s : State) (a : Nat) : Nat :=
  let pa := 64 * a
  let two := s.twoDimms
  let rbits := s.rankBits
  (if two then pa / 2 ^ 23 % 2 else 0) * 4 + pa / 2 ^ (if two then 24 else 23) % 2 ^ rbits

/-- The number of a line's bank: rank, bank, subchannel, bank group (R367, R368). -/
def State.dramBank (s : State) (n a : Nat) : Nat :=
  let h (reg : Nat) : Nat := s.hashBit reg (64 * a)
  n * 65536 + s.dramRank a * 256 + (h regDmcBankhash4 + 2 * h regDmcBankhash5) * 64 + h regDmcBankhash0 * 8 +
    h regDmcBankhash1 + 2 * h regDmcBankhash2 + 4 * h regDmcBankhash3

/-- The row of a line: the address bits above DIMM and rank, with PA[13] on top in half mode (R368, R369). -/
def State.dramRow (s : State) (a : Nat) : Nat :=
  let pa := 64 * a
  let lo := (if s.twoDimms then 24 else 23) + s.rankBits
  if s.chanMode s.pkgNum = 0 then pa / 2 ^ lo % 2 ^ 17 else pa / 2 ^ lo % 2 ^ 16 + pa / 2 ^ 13 % 2 * 2 ^ 16

/-- The row that an access opens or hits (R375, R655). A command ends power-down and self-refresh. -/
def State.touchRow (s : State) (n a r : Nat) : State :=
  let k := s.dramBank n a
  let row := s.dramRow a
  let s := { s with powerDown := s.powerDown.filter (· ≠ n * 8 + s.dramRank a), selfRefresh := s.selfRefresh.filter (· ≠ n) }
  if Tbl.find s.openRow k = some row then s.countUncore (slotDram n 0) 6 0x03 1 (some r)
  else
    let s := s.countUncore (slotDram n 0) 6 0x04 1 (some r)
    { s with openRow := if s.fld (regDmcIdleTimer n) 7 0 = 0 then Tbl.erase s.openRow k else Tbl.set s.openRow k row }

/-- A full line is encrypted under key `k` and stored with its away bit; its check symbols are valid from now on (R383, R385, R462). -/
def State.storeLine (s : State) (a k : Nat) (d : Line) (away : Bool) : State :=
  let s := ((s.writeMem (64 * a) d).setAway a away).setLineKey a k
  { s with written := if s.isWritten a then s.written else addRange s.written a (a + 1), dramBad := Tbl.erase s.dramBad a }

/-- Writes a full line under key `k`. -/
def State.dramWriteKey (s : State) (n port r a k : Nat) (d : Line) (away : Bool) : State :=
  (((s.storeLine a k d away).touchRow n a r).transfer n port r a).countUncore (slotDram n 0) 6 0x02 1 (some r)

/-- Writes a full line under the key of its page (R462). -/
def State.dramWrite (s : State) (n port r a : Nat) (d : Line) (away : Bool) : State :=
  s.dramWriteKey n port r a (s.pageKey (pageOfLine a)) d away

/-- R391: an uncorrectable read. The owner's realm is reset and the line rewritten with zeros and away bit 1, or the package
resets. -/
def State.dramUe (s : State) (n a src : Nat) : State :=
  let r := s.pageOwner (pageOfLine a)
  let ul := putBits (putBits (putBits (s.reg (regDmcUelast n)) 63 54 r) 53 52 src) 46 6 a
  let s := s.setReg (regDmcUelast n) ul
  let s := s.ueR 12 (16 + n) 0x4080 0x5080 r [n, src, a % 2 ^ 32, a / 2 ^ 32]
  if r = 0 then s else s.storeLine a (s.pageKey (pageOfLine a)) 0 true

/-- Bits [59:52] of a correction-table entry: DEVICE, SUBCH, DIMM, RANK of a line (R368, R394). -/
def State.dramPlace (s : State) (a dev : Nat) : Nat :=
  dev * 16 + s.hashBit regDmcBankhash0 (64 * a) * 8 + s.dramRank a / 4 * 4 + s.dramRank a % 4

/-- R389, R390: a correction is counted and recorded. -/
def State.dramCorrected (s : State) (n a src dev syms : Nat) : State :=
  let r := s.pageOwner (pageOfLine a)
  let place := s.dramPlace a dev
  let s := (s.addFld (regDmcCecount n) 31 0 1).countUncore (slotDram n 0) 6 0x18 1 (some r)
  let w : Word := BitVec.ofNat 64 (syms * 2 ^ 60 + place * 2 ^ 52 + src * 2 ^ 50 + a * 64 + 1)
  let free := (upTo 15).find? (fun i => s.fld (regDmcCetab0 n i) 0 0 = 0)
  let i := free.getD 15
  let s := (s.setReg (regDmcCetab0 n i) w).setReg (regDmcCetab1 n i) s.clause
  let s := s.ce 12 (16 + n) 0x3080 r [n, place, a % 2 ^ 32, a / 2 ^ 32]
  if free = some 14 then
    (s.setFld (regDmcCectl n) 8 8 1).emit 12 (16 + n) 0x9085 0 [n, s.fld (regDmcCecount n) 31 0]
  else s

/-- The errors that an access of the line meets: an injected one is latched in the stored line (R616). -/
def State.dramInject (s : State) (n a : Nat) : State :=
  match s.injectKind 6 n (some (BitVec.ofNat 46 (s.pkgNum * 2 ^ 41 + a))) with
  | some k =>
    if k ≤ 1 then
      let rank := if k = 0 then 8 else if s.pageOwner (pageOfLine a) = 0 then 2 else 4
      { (s.fireInject rank 12 (16 + n)) with dramBad := Tbl.set s.dramBad a (k + 1) }
    else s
  | none => s

/-- A line of free values, for a read of a line never written that decodes by chance (R385). -/
def State.freeLine (s : State) : State × Line :=
  ({ s with freeCount := s.freeCount + 8 },
   BitVec.ofNat 512 ((upTo 8).foldl (fun v i => v + (Config.freeWord (s.freeCount + i)).toNat * 2 ^ (64 * i)) 0))

/-- A read of a line (R384, R385, R391): the data, or none when it is uncorrectable. `src`: SOURCE of R393. -/
def State.dramRead (s : State) (n port a src : Nat) (o : ReadOutcome) : State × Option Line :=
  let r := s.pageOwner (pageOfLine a)
  let s := ((((s.keyRead r).dramInject n a).touchRow n a r).transfer n port r a).countUncore (slotDram n 0) 6 0x01 1 (some r)
  let v := s.plainLine a (s.pageKey (pageOfLine a))
  let bad := Tbl.get 0 s.dramBad a
  if !s.isWritten a then
    (match o with
     | .stray => let (s, l) := s.freeLine; (s, some l)
     | _ => (s.dramUe n a src, none))
  else if bad = 2 then (s.dramUe n a src, none)
  else match o with
    | .uncorrectable => (s.dramUe n a src, none)
    | .device dev syms =>
      (({ s with dramBad := Tbl.erase s.dramBad a }).dramCorrected n a src dev.val syms.toNat, some v)
    | _ =>
      if bad = 1 then (({ s with dramBad := Tbl.erase s.dramBad a }).dramCorrected n a src 0 1, some v)
      else (s, some v)

/-! ## Cycles, refresh, power (R363, R373 to R378, R388) -/

def State.depthTokens (s : State) (n p : Nat) : Nat := s.portDepth n p * 256

/-- The port buckets of controller `n` from port `p` on gain one cycle's tokens (R378). -/
def State.fillPorts (s : State) (n p : Nat) : Nat → State
  | 0 => s
  | k + 1 =>
    let v := satTo (s.depthTokens n p) (Tbl.get 0 s.portTok (n * 4 + p) + s.portRate n p)
    ({ s with portTok := Tbl.set s.portTok (n * 4 + p) v }).fillPorts n (p + 1) k

/-- The realm buckets of the group, of the realms whose regulator is programmed (R472). -/
def State.fillRealms (s : State) (g : Nat) : List Nat → State
  | [] => s
  | r :: l =>
    let k := g * 1024 + r
    let mn := satTo 65536 (Tbl.get 0 s.minTok k + s.fld (regRlmReg0 k) 12 0)
    let mx := satTo 65536 (Tbl.get 0 s.maxTok k + s.fld (regRlmReg0 k) 28 16)
    ({ s with minTok := Tbl.set s.minTok k mn, maxTok := Tbl.set s.maxTok k mx }).fillRealms g l

/-- The regulators of a group that a register names. -/
def State.regulated (s : State) (g : Nat) : List Nat :=
  (s.regs.filterMap (fun p =>
    if regRlmReg0 (g * 1024) ≤ p.1 ∧ p.1 < regRlmReg0 (g * 1024 + 1024) ∧ (p.1 - regRlmReg0 0) % 16 = 0 then
      some ((p.1 - regRlmReg0 0) / 16 - g * 1024) else none)).eraseDups

/-- R376: a same-bank refresh closes the open rows of its bank index in every bank group of the rank, and is counted. It may be
postponed while a row is open; a forced one closes it. -/
def execRefresh (n : Chan) (rank : Fin 8) (bank : Fin 4) (forced : Bool) (s : State) : Host.Outcome State Fault Refusal :=
  let mine (p : Nat × Nat) : Bool := decide (p.1 / 64 = n.val * 1024 + rank.val * 4 + bank.val)
  .next (if s.openRow.any mine && !forced then s
    else ({ s with openRow := s.openRow.filter (fun p => !mine p),
                   powerDown := s.powerDown.filter (· ≠ n.val * 8 + rank.val) }).countUncore (slotDram n.val 0) 6 0x05 1 none)

/-- ALERT_N is asserted in HALT and while any throttle alarm is active (R575, R595). -/
def State.alertUpdate (s : State) : State :=
  let hot := !s.parasol.dimmHot.isEmpty
  let s := s.setFld regThmStatus 3 3 (b2n hot)
  { s with alertN := decide (s.mode = modeHalt) || hot || !s.parasol.alarms.isEmpty }

/-- A channel's alarm begins above 95 degrees, and ends once every sensor reads below 90 (R376, R595, log entry 36). -/
def State.channelHeat (s : State) (n dimm celsius : Nat) : State :=
  match Tbl.find s.parasol.dimmHot n with
  | none =>
    if 95 < celsius then
      (({ s with parasol := { s.parasol with dimmHot := Tbl.set s.parasol.dimmHot n s.clause } }).emit 12 (16 + n) 0x6006 0
        [n, dimm, celsius]).alertUpdate
    else s
  | some c =>
    if celsius < 90 then
      (({ s with parasol := { s.parasol with dimmHot := Tbl.erase s.parasol.dimmHot n } }).emit 12 (16 + n) 0x6001 0
        [12, n, (s.clause.toNat - c.toNat) % 2 ^ 32]).alertUpdate
    else s

/-- R376: the channel's hottest sensor stands on `dimm`. Above 85 degrees tREFI is halved, and above 95 degrees the channel is
throttled. -/
def execDimmTempPoll (n : Chan) (dimm : Fin 2) (celsius : Nat) (s : State) : Host.Outcome State Fault Refusal :=
  .next ((s.setFld (regDmcStatus n.val) 5 5 (if celsius > 85 then 1 else 0)).channelHeat n.val dimm.val celsius)

/-- R375: the bank is precharged. -/
def execRowIdleTimeout (n : Chan) (bank : Fin 2048) (s : State) : Host.Outcome State Fault Refusal :=
  .next { s with openRow := Tbl.erase s.openRow (n.val * 65536 + bank.val) }

/-- R363: a rank without a command enters power-down. -/
def execPrechargePowerDown (n : Chan) (rank : Fin 8) (s : State) : Host.Outcome State Fault Refusal :=
  let k := n.val * 8 + rank.val
  .next { s with powerDown := if s.powerDown.contains k then s.powerDown else k :: s.powerDown }

/-- R388: the channel is lost. -/
def State.channelLost (s : State) (n cause : Nat) : State := s.ueP 12 (16 + n) 0x5081 0 [n, cause]

/-- R388: the replays of an alert, each a CE recorded at most once per 1,024; the fourth failed replay loses the channel. -/
def State.dimmReplay (s : State) (n parity : Nat) : Nat → State
  | 0 => s
  | k + 1 =>
    let c := Tbl.get 0 s.replays n + 1
    let s := s.addFld regGlbErrsum 63 32 1
    let s := if c % 1024 = 1 then
        (s.emit 12 (16 + n) 0x3082 0 [n, parity, c]).noticeDue 0x3082 0 (s.origin 12 (16 + n)) false else s
    ({ s with replays := Tbl.set s.replays n (if c ≥ 1024 then 0 else c) }).dimmReplay n parity k

/-- R388. `failed`: how many replays of the command fail, the command being replayed once more than that, up to four. -/
def execDimmAlert (n : Chan) (parity : Bool) (failed : Fin 5) (s : State) : Host.Outcome State Fault Refusal :=
  let s := s.dimmReplay n.val (b2n parity) (satTo 4 (failed.val + 1))
  .next (if failed.val = 4 then s.channelLost n.val 1 else s)

/-- R388. -/
def execPmicPowerGoodLoss (n : Chan) (s : State) : Host.Outcome State Fault Refusal := .next (s.channelLost n.val 2)
/-- R388. -/
def execPhyLockLoss (n : Chan) (s : State) : Host.Outcome State Fault Refusal := .next (s.channelLost n.val 3)

/-- R363: self-refresh, in DRAIN, and in QUIESCE once that has lasted more than 1 ms. -/
def execSelfRefreshEntry (n : Chan) (s : State) : Host.Outcome State Fault Refusal :=
  .next (if s.mode = modeDrain ∨ (s.mode = modeQuiesce ∧ (s.reg regGlbModetime).toNat + 250000 < s.clause.toNat) then
    { s with selfRefresh := if s.selfRefresh.contains n.val then s.selfRefresh else n.val :: s.selfRefresh } else s)

/-- R387: the scrub of one line of the channel. -/
def execDramScrub (n : Chan) (line : LineAddr) (o : ReadOutcome) (s : State) : Host.Outcome State Fault Refusal :=
  if s.fld (regDmcScrub n.val) 0 0 = 1 ∧ linePkg line = s.pkgNum ∧ s.chanOf (lineBase line) = n.val then
    .next ((s.setFld (regDmcStatus n.val) 4 4 1).dramRead n.val 1 (lineIx line) 1 o).1
  else .next s

def State.clearCetab (s : State) (n : Nat) : Nat → State
  | 0 => (s.setFld (regDmcCecount n) 31 0 0).setFld (regDmcCectl n) 8 8 0
  | k + 1 => ((s.setReg (regDmcCetab0 n k) 0).setReg (regDmcCetab1 n k) 0).clearCetab n k

/-- R390. -/
def execCetabClear (n : Chan) (s : State) : Host.Outcome State Fault Refusal := .next (s.clearCetab n.val 16)

end Sys2Proof.Machine
end

