-- ==== Sys2Proof/Machine/TripLog.lean ====
section
/-! DEFINITION. The trip log and the change log (18_trip_log.md R621 to R642), and the notice line (17_errors.md R613). -/
namespace Sys2Proof.Machine
open Sys2Proof

/-! ## Buckets (R628, R629) -/

def codeClass (code : Nat) : Nat := code / 4096
/-- Records of the code are never suppressed. -/
def neverSuppressed (code : Nat) : Bool :=
  let c := codeClass code
  c = 0 || c = 1 || c = 2 || c = 4 || c = 5 || code = 0x7006

def State.bucketDepth (s : State) (code : Nat) : Nat := s.fld (regTlgRate (codeClass code)) 15 8
def State.bucket (s : State) (code : Nat) : Nat := satTo (s.bucketDepth code) (Tbl.get (s.bucketDepth code) s.log.buckets code)
def State.setBucket (s : State) (code n : Nat) : State := { s with log := { s.log with buckets := Tbl.set s.log.buckets code n } }

def State.frozen (s : State) : Bool := s.log.frozenAt.isSome

/-! ## Storing (R621 to R627) -/

/-- The record of the error to note has its index (R613). -/
def State.noticeStored (s : State) (r : Rec) (ix : Nat) : State :=
  match s.notice.due with
  | some (code, realm, origin) =>
    if r.code.toNat = code ∧ natBits r.realm.toNat 9 0 = realm ∧ r.origin = origin then
      { s with notice := { s.notice with seq := some (ix % 65536) } }
    else s
  | none => s

/-- Classes that a worker forwards to the manager (R627). -/
def forwardedClass (c : Nat) : Bool := c = 0 || c = 1 || c = 2 || c = 4 || c = 5 || c = 6 || c = 7 || c = 14

/-- A worker's record goes to the manager too (R627). -/
def State.forwardRec (s : State) (r : Rec) : State :=
  if s.joined && !s.isManager && forwardedClass (codeClass r.code.toNat) then s.sendMgmt .event s.managerNum (.report (.record r)) else s

/-- A record enters the store (R622, R623) and is forwarded (R627). -/
def State.storeRec (s : State) (r : Rec) : State :=
  let h := (s.reg regTlgHead).toNat
  let t := (s.reg regTlgTail).toNat
  let s := if t + 65536 ≤ h then s.setReg regTlgTail (BitVec.ofNat 64 (h - 65535)) else s
  let s := { s with log := { s.log with store := Tbl.set s.log.store (h % 65536) r } }
  let s := (s.setReg regTlgHead (BitVec.ofNat 64 (h + 1))).noticeStored r h
  s.forwardRec r

/-- A record that a frozen store does not take (R634). -/
def State.dropFrozen (s : State) (r : Rec) : State :=
  let s := s.addFld regTlgFreeze 63 32 1
  s.setFld regTlgFreeze 31 16 (s.fld regTlgFreeze 31 16 ||| 2 ^ codeClass r.code.toNat)

def State.storeOrDrop (s : State) (r : Rec) : State := if s.frozen then s.dropFrozen r else s.storeRec r

/-- The summary of a code's suppressed records (R629). -/
def State.summarise (s : State) (code : Nat) : State :=
  let x := Tbl.get {} s.log.suppressed code
  let s := { s with log := { s.log with suppressed := Tbl.erase s.log.suppressed code } }
  s.storeRec { clause := s.clause, code := 0x00e0, origin := s.origin 12 86, realm := 0, p0 := BitVec.ofNat 32 code,
               p1 := BitVec.ofNat 32 x.count, p2 := BitVec.ofNat 32 x.first.toNat, p3 := BitVec.ofNat 32 x.last.toNat }

def State.suppress (s : State) (r : Rec) : State :=
  let code := r.code.toNat
  let x := Tbl.get {} s.log.suppressed code
  let y : Suppressed := { count := x.count + 1, first := if x.count = 0 then r.clause else x.first, last := r.clause }
  { s with log := { s.log with suppressed := Tbl.set s.log.suppressed code y } }

/-- A record of the package passes its code's bucket; a forwarded copy does not (R627, R628). -/
def State.passBucket (s : State) (r : Rec) : State :=
  let code := r.code.toNat
  if neverSuppressed code ∨ r.realm.getLsbD 15 then s.storeOrDrop r
  else
    let waiting := decide ((Tbl.get {} s.log.suppressed code).count > 0)
    let s := if waiting && !s.frozen && decide (s.bucket code > 0) then (s.setBucket code (s.bucket code - 1)).summarise code else s
    if s.bucket code > 0 then (s.setBucket code (s.bucket code - 1)).storeOrDrop r else s.suppress r

/-- DRAM-class bytes [pa, pa + n) of this package whose pages are FREE or owned by realm 0: 0 when they are, 1 or 2 for the check
that fails (R613, R625). -/
def State.systemRange (s : State) (pa n : Nat) : Nat :=
  let loc := pa % 2 ^ 47
  if pa / 2 ^ 47 ≠ s.pkgNum ∨ (s.reg regDmcTop).toNat < loc + n then 1
  else if (upTo ((loc + n + 4095) / 4096 - loc / 4096)).all (fun i => s.ownOk 0 (loc / 4096 + i)) then 0 else 2

/-! ## The notice line (R613) -/

/-- The notice may be written now: at least 256 clauses after the last, and 250,000 after the last for a CE. -/
def State.noticeTime (s : State) : Bool :=
  let gap (l : Option Word) (n : Nat) : Bool := match l with
    | some c => decide (c.toNat + n ≤ s.clause.toNat)
    | none => true
  gap s.notice.last 256 && (s.notice.ueDue || gap s.notice.lastCe 250000)

/-- The notice of the latest error, written once its record is stored; an unwritable line clears EN (00F1h). -/
def State.writeNotice (s : State) : State :=
  match s.notice.due, s.notice.seq with
  | some (code, realm, origin), some seq =>
    if s.fld regGlbErrnote 0 0 = 1 ∧ s.noticeTime then
      let pa := s.fld regGlbErrnote 51 6 * 64
      match s.systemRange pa 64 with
      | 0 =>
        let n := s.notice.count + 1
        let v := n % 2 ^ 64 + s.notice.stamp.toNat * 2 ^ 64 + s.fld regGlbErrsum 63 32 * 2 ^ 128 + s.fld regGlbErrsum 31 16 * 2 ^ 160
          + code * 2 ^ 176 + realm * 2 ^ 192 + origin.toNat * 2 ^ 208 + seq * 2 ^ 224
        let s := s.portWrite 81 0 (lineOf pa) (BitVec.ofNat 512 v) (BitVec.allOnes 64)
        { s with notice := { count := n, last := some s.clause, lastCe := if s.notice.ueDue then s.notice.lastCe else some s.clause } }
      | k =>
        let s := (s.setFld regGlbErrnote 0 0 0).emit 12 81 0x00F1 0 [k, s.fld regGlbErrnote 37 6, s.fld regGlbErrnote 51 38]
        { s with notice := { count := s.notice.count, last := s.notice.last, lastCe := s.notice.lastCe } }
    else s
  | _, _ => s

/-! ## The input queue (R624) -/

/-- A record of this clause may still be joined by one of a higher rank: the clause has not ended (R31). The manager's records enter
the queue when their clause has been resolved (R626). -/
def State.clauseOpen (s : State) (c : Word) : Bool :=
  !s.isManager && s.counting && decide (modeStandby < s.mode) && decide (s.clause.toNat ≤ c.toNat)

/-- R624, R626, R628: the oldest record of the input queue is stored, suppressed or dropped, once its clause has ended. -/
def execTripLogRecord (s : State) : Host.Outcome State Fault Refusal :=
  match s.log.queue with
  | [] => .next s
  | q :: l =>
    if s.clauseOpen q.proc then .next s
    else
    let s := ({ s with log := { s.log with queue := l } }).passBucket q.r
    if s.log.dropDue ∧ l.length < 2048 then
      .next (({ s with log := { s.log with dropDue := false } }).emit 12 86 0x00E4 0 [s.fld regTlgStatus 63 48]).writeNotice
    else .next s.writeNotice

/-- The codes of a class that have lost tokens or records. -/
def TripLog.codesOf (l : TripLog) (cls : Nat) : List Nat :=
  ((l.buckets.map (·.1) ++ l.suppressed.map (·.1)).filter (fun c => codeClass c = cls)).eraseDups

/-- A bucket gains a token, up to its depth; a full one is not listed. -/
def State.addToken (s : State) (code : Nat) : State :=
  if s.bucket code + 1 < s.bucketDepth code then s.setBucket code (s.bucket code + 1)
  else { s with log := { s.log with buckets := Tbl.erase s.log.buckets code } }

/-- A token for a code whose records were suppressed goes to their summary. -/
def State.giveToken (s : State) (code : Nat) : State :=
  let s := s.addToken code
  let due := decide ((Tbl.get {} s.log.suppressed code).count > 0) && !s.frozen
  if due then (s.setBucket code (s.bucket code - 1)).summarise code else s

def State.giveTokens (s : State) (l : List Nat) : State := l.foldl State.giveToken s

/-- R628, R629: each bucket of the class gains a token. -/
def execRateToken (cls : Fin 16) (s : State) : Host.Outcome State Fault Refusal := .next (s.giveTokens (s.log.codesOf cls.val))

/-! ## Freeze (R634) -/

def State.freezeLog (s : State) : State :=
  if s.frozen then s
  else { ((s.setReg regTlgFreeze 1).setFld regTlgStatus 0 0 1) with log := { s.log with frozenAt := some s.clause } }

/-- The store unfreezes: 1 by a write of 0, 2 by the time limit. -/
def State.unfreezeLog (s : State) (how : Nat) : State :=
  if s.frozen then
    let s := { ((s.setFld regTlgFreeze 0 0 0).setFld regTlgStatus 0 0 0) with log := { s.log with frozenAt := none } }
    s.emit 12 86 0x00E1 0 [s.fld regTlgFreeze 63 32, s.fld regTlgFreeze 31 16, how]
  else s

/-- R632, R634: a write of TLG.FREEZE; on the manager one for another member's log goes to that member. -/
def State.freezeWrite (s : State) (on : Bool) : State :=
  let p := s.fld regTlgCursor 52 48
  if s.isManager ∧ p ≠ s.pkgNum ∧ s.isMember p then
    s.sendMgmt .regWrite p (.reg (BitVec.ofNat 40 regTlgFreeze) 8 (BitVec.ofNat 64 (b2n on)))
  else if on then s.freezeLog else s.unfreezeLog 1

/-- R634. -/
def execFreeze (on : Bool) (s : State) : Host.Outcome State Fault Refusal := .next (s.freezeWrite on)

/-- R634. -/
def execFreezeTimeout (s : State) : Host.Outcome State Fault Refusal :=
  match s.log.frozenAt with
  | some c => if c.toNat + 250000 ≤ s.clause.toNat then .next (s.unfreezeLog 2) else .next s
  | none => .next s

/-! ## The bytes of a record, the window, the spill (R621, R625, R630) -/

/-- Record `i` as 256 bits, all ones when it is not held. -/
def State.recBits (s : State) (i : Nat) : Nat :=
  if (s.reg regTlgTail).toNat ≤ i ∧ i < (s.reg regTlgHead).toNat then
    match Tbl.find s.log.store (i % 65536) with
    | some r => r.clause.toNat + r.code.toNat * 2 ^ 64 + r.origin.toNat * 2 ^ 80 + r.realm.toNat * 2 ^ 96 + (i % 65536) * 2 ^ 112
        + r.p0.toNat * 2 ^ 128 + r.p1.toNat * 2 ^ 160 + r.p2.toNat * 2 ^ 192 + r.p3.toNat * 2 ^ 224
    | none => 2 ^ 256 - 1
  else 2 ^ 256 - 1

/-- The spill region's address and its count of records. -/
def State.spillBase (s : State) : Nat := s.fld regTlgSpill 51 21 * 2 ^ 21
def State.spillLen (s : State) : Nat := 2 ^ s.fld regTlgSpill 5 1

/-- The pages of a list are FREE or realm 0's. -/
def State.spillCheck (s : State) (pa : Nat) : Nat := s.systemRange (pa / 64 * 64) 64

def State.spillOff (s : State) (cause : Nat) : State :=
  ((s.setFld regTlgSpill 0 0 0).setFld regTlgStatus 1 1 0).emit 12 86 0x00E2 0 [s.fld regTlgSpill 31 21, cause]

/-- R625: the next stored record goes to the spill region, in a full line with the record it shares the line with (log entry 27). -/
def execSpillCopy (s : State) : Host.Outcome State Fault Refusal :=
  let i := (s.reg regTlgSpilled).toNat
  if s.fld regTlgSpill 0 0 = 0 ∨ s.frozen ∨ (s.reg regTlgHead).toNat ≤ i then .next s
  else
    let pa := s.spillBase + i % s.spillLen * 32
    match s.spillCheck pa with
    | 0 =>
      let e := i / 2 * 2
      let data : Line := BitVec.ofNat 512 (s.recBits e + s.recBits (e + 1) * 2 ^ 256)
      let s := s.portWrite 86 0 (lineOf pa) data (BitVec.allOnes 64)
      let next := if e + 1 < (s.reg regTlgHead).toNat then e + 2 else i + 1
      .next ((s.setReg regTlgSpilled (BitVec.ofNat 64 next)).setFld regTlgStatus 1 1 1)
    | k => .next (s.spillOff k)

/-- R613: the spacing has run out, and the deferred notice is written. -/
def execNoticeSpacingExpiry (s : State) : Host.Outcome State Fault Refusal := .next s.writeNotice

end Sys2Proof.Machine
end

