-- ==== Sys2Proof/Machine/Collector.lean ====
section
/-! DEFINITION. The counter collector (19_performance_counters.md R643, R647, R656 to R660, R664). -/
namespace Sys2Proof.Machine
open Sys2Proof

/-- PCC.VALUE of slot `j`: 0 for a disabled core, a fenced die, or a core counter tagged with a sealed realm; CHAINHI as the chain stands
(R643, R647, R664). -/
def State.counterValue (s : State) (j : Nat) : Word :=
  let tag := bits (s.pccS j) 33 24
  let hidden : Bool :=
    if j < 1920 then !s.coreExists (j / 8) || (decide (tag ≠ 0) && bit (s.reg (regRlmTable0 tag)) 32)
    else if j < 2688 then (s.die ((j - 1920) / 64)).fenced
    else false
  if hidden then 0 else putBits (s.pccV j) 49 49 (b2n (decide (j % 2 = 1) && s.chains 0 (j - 1)))

/-- The 383 lines of slots of a snapshot, `i` and those before it. -/
def State.dumpSlots (s : State) (base : Nat) : Nat → State
  | 0 => s
  | i + 1 =>
    let line : Nat := (upTo 8).foldr (fun k v => (s.counterValue (i * 8 + k)).toNat + v * 2 ^ 64) 0
    (s.dumpSlots base i).portWrite 83 0 (lineOf (base + 0x40 + i * 64)) (BitVec.ofNat 512 line) (BitVec.allOnes 64)

def State.setDump (s : State) (d : Dump) : State := { s with dump := d }
def State.dumpBase (s : State) : Nat := s.fld regPccDumpbase 51 21 * 2 ^ 21
/-- Dump `k` lies here (R658). -/
def State.dumpAddr (s : State) (k : Nat) : Nat := s.dumpBase + k % 2 ^ s.fld regPccDumpctl 7 4 * 0x6000
/-- The check of the dump region (R660): 0 when it passes, else the cause. -/
def State.dumpRegion (s : State) : Nat := s.systemRange s.dumpBase (2 ^ s.fld regPccDumpctl 7 4 * 0x6000)

/-- EN clears: the region breaks its rule (R660). -/
def State.dumpOff (s : State) (cause : Nat) : State :=
  (s.setFld regPccDumpctl 0 0 0).emit 12 83 0xD002 0 [cause, s.fld regPccDumpbase 31 21]

/-- A dump whose header has committed is done (R658). -/
def State.dumpSettle (s : State) : State :=
  match s.dump.job with
  | some x => if x.headerSent && s.portQuiet 83 then (s.setDump { s.dump with job := none }).addFld regPccDumpstat 47 0 1 else s
  | none => s

/-- Why a snapshot is skipped (R659); none when it is taken. The cause for HALT is not stated: a free value. -/
def State.dumpSkip (s : State) : Option Nat :=
  if s.dump.job.isSome then some 1
  else if s.sourcesHeld then some 2
  else if s.mode = modeHalt then some (s.freeWord.toNat % 2 ^ 32)
  else if s.fld regGlbBoot 3 3 = 0 then some 3
  else none

/-- R656, R658, R659: a snapshot is taken, or skipped. -/
def State.snapshot (s : State) (explicit : Bool) : State :=
  let s := s.dumpSettle
  let d := s.dump
  match s.dumpSkip with
  | some cause =>
    let s1 := (s.setDump { d with missed := satTo 65535 (d.missed + 1) }).addFld regPccDumpstat 63 48 1
    let s1 := if s.mode = modeHalt then s1.spendFree else s1
    if d.missed = 0 then s1.emit 12 83 0xD001 0 [d.next % 2 ^ 32, cause] else s1
  | none =>
    match s.dumpRegion with
    | 0 =>
      let head := s.fld regPccDumpctl 63 32 + s.pkgNum * 2 ^ 32 + b2n explicit * 2 ^ 40 + d.missed * 2 ^ 48
      let job : DumpJob := { number := d.next, addr := s.dumpAddr d.next, clause := s.clause, header := head }
      (s.dumpSlots (s.dumpAddr d.next) 383).setDump { next := d.next + 1, missed := 0, job := some job }
    | cause => s.dumpOff cause

/-- R656: at a clause that is a multiple of PERIOD. -/
def execCounterDump (s : State) : Host.Outcome State Fault Refusal :=
  .next (if s.fld regPccDumpctl 0 0 = 1 ∧ s.clause.toNat % s.fld regPccDumpctl 63 32 = 0 then s.snapshot false else s)

/-- The request of NOW is met at the tick that follows it, while EN is 1 (R656). -/
def State.dumpRequested (s : State) : State :=
  if s.fld regPccDumpctl 0 0 = 1 ∧ s.fld regPccDumpctl 1 1 = 1 then (s.setFld regPccDumpctl 1 1 0).snapshot true else s

/-- R656: a write of 1 to NOW; the next clause tick takes the snapshot. -/
def State.dumpNow (s : State) : State := s.setFld regPccDumpctl 1 1 1
def execDumpNow (s : State) : Host.Outcome State Fault Refusal := .next (if s.mode = modeHalt then s else s.dumpNow)

/-- R660: EN is set. -/
def State.dumpEnable (s : State) : State :=
  if s.fld regPccDumpctl 0 0 = 1 then s
  else
    let s := (s.setFld regPccDumpctl 0 0 1).setReg regPccDumpstat 0
    let s := s.setDump { s.dump with next := 0, missed := 0 }
    let s := s.emit 12 83 0xD000 0 [s.fld regPccDumpctl 63 32, s.fld regPccDumpctl 7 4, s.fld regPccDumpbase 31 21]
    match s.dumpRegion with
    | 0 => s
    | cause => s.dumpOff cause
def execDumpEnable (s : State) : Host.Outcome State Fault Refusal := .next (if s.mode = modeHalt then s else s.dumpEnable)

/-- R658: every other line has committed, and the header goes out; once it has, the dump is done. -/
def execDumpCommit (s : State) : Host.Outcome State Fault Refusal :=
  .next (match s.dump.job with
    | none => s
    | some x =>
      if x.headerSent then s.dumpSettle
      else if s.portQuiet 83 then
        let v := x.clause.toNat + x.number % 2 ^ 64 * 2 ^ 64 + x.header * 2 ^ 128
        (s.portWrite 83 0 (lineOf x.addr) (BitVec.ofNat 512 v) (BitVec.allOnes 64)).setDump
          { s.dump with job := some { x with headerSent := true } }
      else s)

end Sys2Proof.Machine
end

