-- ==== Sys2Proof/Machine/Directory.lean ====
section
/-! DEFINITION. The global directory (08_global_directory.md): placement, lookup, allocation, eviction into the recall buffer,
scrubbing, errors, and the reshape. -/
namespace Sys2Proof.Machine
open Sys2Proof

/-! ## Layouts and placement (R287, R289) -/

/-- A layout: port map, span code, generation; `sets` per port. -/
structure Layout where
  ports : Nat
  span : Nat
  gen : Nat
  sets : Nat
  deriving DecidableEq, Repr

def State.oldLayout (s : State) : Layout :=
  { ports := s.fld regDirLayout 7 0, span := s.fld regDirLayout 9 8, gen := s.fld regDirLayout 13 12, sets := s.fld regDirLayout 63 32 }

def State.reshaping (s : State) : Bool := s.fld regDirReshape 0 0 = 1

def State.newLayout (s : State) : Layout :=
  if s.reshaping then { ports := s.fld regDirReshape 17 10, span := s.fld regDirReshape 19 18,
                        gen := (s.oldLayout.gen + 1) % 4, sets := s.oldLayout.sets }
  else s.oldLayout

/-- The numbers of the set bits of a port map, ascending. -/
def portList (m : Nat) : List Nat := (upTo 8).filter (fun i => m.testBit i)
/-- The global set count T. -/
def Layout.total (l : Layout) : Nat := (portList l.ports).length * l.sets

/-- Where an entry belongs: port, set, quotient, global set. -/
structure Spot where
  port : Nat
  set : Nat
  quot : Nat
  g : Nat
  deriving DecidableEq, Repr

/-- R289; none when the layout has no sets. -/
def Layout.spot (l : Layout) (key : Nat) : Option Spot :=
  let np := (portList l.ports).length
  if l.total = 0 then none
  else
    let g := key % l.total
    some { port := (portList l.ports).getD (g % np) 0, set := g / np, quot := key / l.total, g := g }

/-- The key whose quotient stands in set `set` of port `port`. -/
def Layout.keyOf (l : Layout) (port set quot : Nat) : Nat :=
  let ps := portList l.ports
  quot * l.total + (set * ps.length + ps.idxOf port)

def prefWay (quot : Nat) : Nat := (quot % 8) ^^^ (quot / 8 % 8)

/-- The entry key of a line under a span (R289). -/
def dirKey (a : LineAddr) (span : Nat) : Nat := (lineIx a / 16) >>> span
/-- The line-state field of a line (R287). -/
def dirField (a : LineAddr) (span : Nat) : Nat := (lineIx a % (16 * 2 ^ span)) / 2 ^ span
/-- The first line of field `j` of an entry, in package `p`. -/
def fieldLine (p key span j : Nat) : LineAddr := BitVec.ofNat 46 (p * 2 ^ 41 + (key * 16 + j) * 2 ^ span)
/-- Every line of field `j` of an entry. -/
def fieldLines (p key span j : Nat) : List LineAddr :=
  (upTo (2 ^ span)).map (fun i => BitVec.ofNat 46 (p * 2 ^ 41 + (key * 16 + j) * 2 ^ span + i))

def DirEntry.st (e : DirEntry) (j : Nat) : Nat := natBits e.lstate.toNat (2 * j + 1) (2 * j)
def DirEntry.setSt (e : DirEntry) (j v : Nat) : DirEntry :=
  { e with lstate := BitVec.ofNat 32 (e.lstate.toNat - e.st j * 4 ^ j + v % 4 * 4 ^ j) }
/-- R284: every line state is 00b. -/
def DirEntry.free (e : DirEntry) : Bool := decide (e.lstate = 0)
/-- Some line is owned or exclusive-or-modified: OWNER is meaningful (R283). -/
def DirEntry.owned (e : DirEntry) : Bool := (upTo 16).any (fun j => decide (e.st j ≥ 2))
/-- OWNER is written 0 when no line is owned (R283), and its bit leaves SHARERS with it (R286). -/
def DirEntry.norm (e : DirEntry) : DirEntry := if e.owned then e else { e with owner := 0 }

def DirEntry.sharerList (e : DirEntry) : List Nat := (upTo 32).filter (fun p => e.sharers.getLsbD p)

/-! ## Locations (R289 to R291) -/

def dirLoc (port set way : Nat) : Nat := port * 2 ^ 24 + set * 9 + 1 + way
def dirSet (port set : Nat) : Nat := port * 2 ^ 24 + set

def State.dirCtlAt (s : State) (port set : Nat) : SetCtl := Tbl.get {} s.dirCtl (dirSet port set)
def State.setDirCtl (s : State) (port set : Nat) (c : SetCtl) : State := { s with dirCtl := Tbl.set s.dirCtl (dirSet port set) c }

/-- The way that holds an entry: the one its pointer names, or the preferred way (R291). -/
def State.dirWay (s : State) (l : Layout) (x : Spot) : Nat :=
  match s.disp.find? (fun p => decide (p.port = x.port ∧ p.set = x.set ∧ p.gen = l.gen ∧ p.quot = x.quot)) with
  | some p => p.way
  | none => prefWay x.quot

/-- The layout of an entry's generation. -/
def State.layoutOf (s : State) (e : DirEntry) : Layout := if e.gen = s.newLayout.gen then s.newLayout else s.oldLayout

/-- Where an entry was found: in a home agent's recall buffer, or in a way of a layout. -/
inductive DirSlot where
  | buffer (home : Nat) (r : RecallEntry)
  | way (l : Layout) (port set way : Nat)
  deriving DecidableEq, Repr

/-- The span under which a slot's entry is kept. -/
def DirSlot.span : DirSlot → Nat
  | .buffer _ r => r.span
  | .way l _ _ _ => l.span

/-- The read of the location that a key has under a layout. The entry there is accepted when its tag, under the layout of its own
generation, names a block that meets the key's; that layout is the slot's (R291, R307). -/
def State.dirAt (s : State) (l : Layout) (key : Nat) : Option (DirSlot × DirEntry) :=
  match l.spot key with
  | none => none
  | some x =>
    let w := s.dirWay l x
    match Tbl.find s.dirMem (dirLoc x.port x.set w) with
    | some e =>
      let m := s.layoutOf e
      if m.keyOf x.port x.set e.quot * 2 ^ m.span / 2 ^ l.span = key ∨ m.keyOf x.port x.set e.quot = key * 2 ^ l.span / 2 ^ m.span
      then some (.way m x.port x.set w, e) else none
    | none => none

/-- The lookup of a line in one layout: the entry must be the line's (R307). -/
def State.dirIn (s : State) (l : Layout) (a : LineAddr) : Option (DirSlot × DirEntry) :=
  match s.dirAt l (dirKey a l.span) with
  | some (.way m port set w, e) => if m.keyOf port set e.quot = dirKey a m.span then some (.way m port set w, e) else none
  | _ => none

/-- An old global set lies behind the cursor (R306). -/
def State.behindCursor (s : State) (a : LineAddr) : Bool :=
  match s.oldLayout.spot (dirKey a s.oldLayout.span) with
  | some x => decide (x.g < s.fld regDirCursor 31 0)
  | none => true

/-- The recall-buffer entry of a line of this package, with the agent that holds it: the agent of the entry's first region (R296). -/
def State.recallAt (s : State) (n : Nat) (a : LineAddr) : Option (Nat × RecallEntry) :=
  (n :: upTo 16).findSome? (fun k =>
    ((s.home k).recallBuf.find? (fun r => decide (r.key = dirKey a r.span))).map (fun r => (k, r)))

/-- The reshape filter marks the line's new key. -/
def State.marked (s : State) (a : LineAddr) : Bool := s.dirFilter.contains (dirKey a s.newLayout.span)

/-- The lookup of a line's entry (R291, R306): recall buffer first, then the layouts as the cursor and the filter say. -/
def State.dirFind (s : State) (n : Nat) (a : LineAddr) : Option (DirSlot × DirEntry) :=
  match s.recallAt n a with
  | some (k, r) => some (.buffer k r, r.entry)
  | none =>
    if !s.reshaping then s.dirIn s.oldLayout a
    else if s.behindCursor a then s.dirIn s.newLayout a
    else if s.marked a then
      (match s.dirIn s.newLayout a with
       | some r => some r
       | none => s.dirIn s.oldLayout a)
    else s.dirIn s.oldLayout a

/-- What the directory records of a line: its state, the sharers, the owner; nothing when it has no entry. -/
structure DirView where
  st : Nat := 0
  sharers : List Nat := []
  owner : Option Nat := none
  /-- the entry's owner field, while some line of the entry is owned (R236) -/
  field : Option Nat := none
  span : Nat := 0
  deriving DecidableEq, Repr

def State.dirView (s : State) (n : Nat) (a : LineAddr) : DirView :=
  match s.dirFind n a with
  | none => {}
  | some (d, e) =>
    let st := e.st (dirField a d.span)
    { st := st, sharers := if st = 0 then [] else e.sharerList, owner := if st ≥ 2 then some e.owner else none,
      field := if e.owned then some e.owner else none, span := d.span }

/-! ## A reshape begins (R302, R304 step 1) -/

def State.startReshape (s : State) (cause ports span : Nat) : State :=
  let o := s.oldLayout
  let w : Word := putBits (putBits (putBits (putBits (s.reg regDirReshape) 19 18 span) 17 10 ports) 2 1 cause) 0 0 1
  let s := (s.setReg regDirReshape w).setReg regDirCursor (BitVec.ofNat 64 (o.total * 2 ^ 32))
  let s := { s with dirFilter := [], reshapeStart := s.clause, reshapeEvicted := 0,
                    dirCtl := Tbl.map (fun c => { c with oldgen := c.valid }) s.dirCtl }
  s.emit 12 81 0xA000 0 [cause, bits (s.reg regDirLayout) 15 0, ports + span * 256, o.total]

/-- The port map of an automatic reshape (R302): for a fence, the ports in use but those that drain or are fenced; for a change of the
package count, those trained that neither drain nor are fenced. -/
def State.autoPorts (s : State) (cause : Nat) : Nat :=
  let used (p : Nat) : Bool := if cause = 1 then s.oldLayout.ports.testBit p else decide (s.fld (regDirStatus p) 1 1 = 1)
  (upTo 8).foldl (fun m p => if used p && decide (s.fld (regDirStatus p) 3 2 = 0) then m + 2 ^ p else m) 0

/-- The ports that this reshape removed become fenced, each with its record (R301, R304 step 3). -/
def State.fencePorts (s : State) (old new : Nat) : List Nat → State
  | [] => s
  | p :: l =>
    let s := if s.fld (regDirStatus p) 3 3 = 1 ∧ old.testBit p ∧ !new.testBit p then
        ((s.setFld (regDirStatus p) 3 3 0).setFld (regDirStatus p) 2 2 1).emit 12 (32 + p) 0xA003 0
          [p, s.fld (regDirCount1 p) 63 32]
      else s
    s.fencePorts old new l

/-- The new layout is installed (R304 step 3); a reshape that waits starts, under the port map of this moment. -/
def State.endReshape (s : State) : State :=
  let nl := s.newLayout
  let o := s.oldLayout
  let w := putBits (putBits (putBits (s.reg regDirLayout) 7 0 nl.ports) 9 8 nl.span) 13 12 nl.gen
  let s := (s.setReg regDirLayout w).setFld regDirReshape 0 0 0
  let s := { s with disp := s.disp.filter (fun p => p.gen ≠ o.gen), dirFilter := [] }
  let s := s.emit 12 81 0xA002 0 [(s.clause - s.reshapeStart).toNat % 2 ^ 32, s.reshapeEvicted]
  let s := s.fencePorts o.ports nl.ports (upTo 8)
  match s.reshapeQueue with
  | [] => s.setFld regDirReshape 9 8 0
  | cause :: rest =>
    let s := { s with reshapeQueue := rest }
    (s.setFld regDirReshape 9 8 (satTo 3 rest.length)).startReshape cause (s.autoPorts cause) s.oldLayout.span

/-- An automatic reshape starts, or waits for the running one (R302). With no old sets it ends at once (R303). -/
def State.autoReshape (s : State) (cause : Nat) : State :=
  if s.reshaping then
    let s := { s with reshapeQueue := s.reshapeQueue ++ [cause] }
    s.setFld regDirReshape 9 8 (satTo 3 s.reshapeQueue.length)
  else
    let empty := decide (s.oldLayout.total = 0)
    let s := s.startReshape cause (s.autoPorts cause) s.oldLayout.span
    if empty then s.endReshape else s

/-! ## Errors of a port (R300, R301) -/

def State.dirLastErr (s : State) (p code loc : Nat) : State :=
  s.setReg (regDirLasterr p) (BitVec.ofNat 64 (code * 2 ^ 48 + loc % 2 ^ 24))

/-- The ports that a predictive fence of `p` would leave in use. -/
def State.otherPorts (s : State) (p : Nat) : List Nat :=
  (portList s.newLayout.ports).filter (fun q => decide (q ≠ p) && decide (s.fld (regDirStatus q) 3 2 = 0))

/-- The corrected errors of a port in the age-clock ticks of its window, this one with them. -/
def State.ceWindow (s : State) (p : Nat) : List (Nat × Nat) :=
  let l := (Tbl.get [] s.dirCes p).filter (fun x => decide (s.dirTicks - x.1 < s.fld (regDirFencectl p) 23 16))
  match l with
  | (t, k) :: r => if t = s.dirTicks then (t, k + 1) :: r else (s.dirTicks, 1) :: l
  | [] => [(s.dirTicks, 1)]

/-- A corrected error of a port: recorded, counted, and, at the limit, the port drains (R301). -/
def State.dirCe (s : State) (p code loc : Nat) (ps : List Nat) : State :=
  let s := ((s.ce 12 (32 + p) code 0 ps).addFld (regDirCount1 p) 63 32 1).dirLastErr p code loc
  let l := s.ceWindow p
  let s := { s with dirCes := Tbl.set s.dirCes p l }
  let limit := s.fld (regDirFencectl p) 15 0
  if limit ≠ 0 ∧ l.foldl (fun n x => n + x.2) 0 ≥ limit ∧ s.fld (regDirStatus p) 3 2 = 0 ∧ s.newLayout.ports.testBit p ∧
      !(s.otherPorts p).isEmpty then
    (s.setFld (regDirStatus p) 3 3 1).degrade.autoReshape 1
  else s

/-- Set control rebuilt from the eight ways (R300). -/
def State.rebuildCtl (s : State) (port set : Nat) : State :=
  let ent (w : Nat) : Option DirEntry := Tbl.find s.dirMem (dirLoc port set w)
  let mask (p : Nat → DirEntry → Bool) : BitVec 8 :=
    BitVec.ofNat 8 ((upTo 8).foldl (fun m w => match ent w with
      | some e => if p w e then m + 2 ^ w else m
      | none => m) 0)
  let age (w : Nat) : Nat := match ent w with
    | some e => (s.dirAge.toNat + 256 - e.age) % 256
    | none => 256
  let ins (l : List Nat) (w : Nat) : List Nat := (l.takeWhile (fun x => decide (age x ≤ age w))) ++ w :: l.dropWhile (fun x => decide (age x ≤ age w))
  s.setDirCtl port set { valid := mask (fun _ _ => true), disp := mask (fun w e => decide (w ≠ prefWay e.quot)),
                         order := (upTo 8).foldl ins [], oldgen := mask (fun _ e => s.reshaping && decide (e.gen = s.oldLayout.gen)) }

/-- What a read of a set control location meets (R300). -/
def State.dirCtlError (s : State) (p set : Nat) (o : DirOutcome) : State :=
  let loc := set * 9
  match o with
  | .controlSingle b => s.dirCe p 0x30A0 loc [p, loc, b.toNat]
  | .controlRetried => (s.dirCe p 0x30A2 loc [p, loc]).addFld (regDirCount1 p) 31 0 1
  | .controlTwice => ((s.rebuildCtl p set).addFld (regDirCount1 p) 31 0 1).dirCe p 0x30A1 loc [p, set]
  | _ => s

/-- An armed injection into a directory entry is met by this read (R616): its KIND. The entry's span must cover a named line. -/
def State.dirInject (s : State) (p set : Nat) (e : DirEntry) : Option Nat :=
  let want := BitVec.ofNat 46 (s.fld regGlbInjaddr 51 6)
  let m := s.layoutOf e
  if want = 0 ∨ (linePkg want = s.pkgNum ∧ dirKey want m.span = m.keyOf p set e.quot) then s.injectKind 7 p none else none

/-- What a read of a way's location meets (R300): an injected error of an entry is latched in it first (R616). A displacement pointer
is named by its set and, among the four of the set, a value the spec leaves open (log entry 92). -/
def State.dirError (s : State) (p set w : Nat) (o : DirOutcome) : State :=
  let loc := set * 9 + 1 + w
  let key := dirLoc p set w
  let s := match Tbl.find s.dirMem key with
    | some e => (match s.dirInject p set e with
      | some k => if k ≤ 1 then { (s.fireInject (if k = 0 then 8 else 2) 12 (32 + p)) with dirMem := Tbl.set s.dirMem key { e with bad := k + 1 } } else s
      | none => s)
    | none => s
  let bad := match Tbl.find s.dirMem key with
    | some e => e.bad
    | none => 0
  let o := if bad = 2 then .entryTwice else if bad = 1 then .single 0 else o
  let ptr := set % 1024 * 4 + s.freeWord.toNat % 4
  match o with
  | .single b =>
    let s := match Tbl.find s.dirMem key with
      | some e => { s with dirMem := Tbl.set s.dirMem key { e with bad := 0 } }
      | none => s
    s.dirCe p 0x30A0 loc [p, loc, b.toNat]
  | .retried => (s.dirCe p 0x30A2 loc [p, loc]).addFld (regDirCount1 p) 31 0 1
  | .entryTwice => ((s.addFld (regDirCount1 p) 31 0 1).dirLastErr p 0x50A0 loc).ueP 12 (32 + p) 0x50A0 0 [p, loc]
  | .pointerSingle => s.spendFree.dirCe p 0x30A3 loc [p, ptr]
  | .pointerUncorr => (s.spendFree.dirLastErr p 0x50A2 loc).ueP 12 (32 + p) 0x50A2 0 [p, ptr]
  | o => s.dirCtlError p set o

/-- The location that the lookup of a line reads first under a layout. -/
def State.dirReadAt (s : State) (l : Layout) (a : LineAddr) (o : DirOutcome) : State :=
  match l.spot (dirKey a l.span) with
  | some x => s.dirError x.port x.set (s.dirWay l x) o
  | none => s

/-- The read of a line's entry meets the errors of its location. A line in the recall buffer is not looked for further. -/
def State.dirReadError (s : State) (n : Nat) (a : LineAddr) (o : DirOutcome) : State :=
  match s.dirFind n a with
  | some (.way _ port set w, _) => s.dirError port set w o
  | some (.buffer _ _, _) => s
  | none => s.dirReadAt (if s.reshaping && (s.behindCursor a || s.marked a) then s.newLayout else s.oldLayout) a o

/-! ## Freeing and evicting (R292, R294, R296) -/

/-- An entry that becomes free leaves its way (R294). -/
def State.dirFree (s : State) (port set way : Nat) : State :=
  let c := s.dirCtlAt port set
  let off (v : BitVec 8) : BitVec 8 := v &&& ~~~(BitVec.ofNat 8 (2 ^ way))
  let s := s.setDirCtl port set { c with valid := off c.valid, disp := off c.disp, oldgen := off c.oldgen }
  { s with dirMem := Tbl.erase s.dirMem (dirLoc port set way),
           disp := s.disp.filter (fun p => !(decide (p.port = port ∧ p.set = set ∧ p.way = way))) }

/-- An entry of layout `l` is written into a way: AGE takes the clock, a new entry or a new AGE makes the way youngest, VALID, DISP
and OLDGEN follow, and a pointer stands for an entry outside its preferred way (R292, R293). -/
def State.dirPut (s : State) (l : Layout) (port set w quot : Nat) (e : DirEntry) : State :=
  let c := s.dirCtlAt port set
  let one := BitVec.ofNat 8 (2 ^ w)
  let flag (b : Bool) (v : BitVec 8) : BitVec 8 := if b then v ||| one else v &&& ~~~one
  let out := decide (w ≠ prefWay quot)
  let same := match Tbl.find s.dirMem (dirLoc port set w) with
    | some x => decide (x.quot = quot ∧ x.gen = l.gen ∧ x.age = s.dirAge.toNat)
    | none => false
  let s := s.setDirCtl port set { c with valid := flag true c.valid, disp := flag out c.disp,
                                         order := if same then c.order else w :: c.order.erase w,
                                         oldgen := flag (s.reshaping && decide (l.gen ≠ s.newLayout.gen)) c.oldgen }
  let ptr : DispPtr := { port := port, set := set, gen := l.gen, quot := quot, way := w }
  let rest := s.disp.filter (fun p => !(decide (p.port = port ∧ p.set = set ∧ p.way = w)))
  { s with dirMem := Tbl.set s.dirMem (dirLoc port set w) { e with gen := l.gen, quot := quot, age := s.dirAge.toNat, bad := 0 },
           disp := if out then rest ++ [ptr] else rest }

/-- The lines of an entry that have a state other than 00b, or a transaction at their home. -/
def State.entryLines (s : State) (key span : Nat) (e : DirEntry) : List LineAddr :=
  (upTo 16).foldl (fun l j => l ++ (fieldLines s.pkgNum key span j).filter (fun a =>
    decide (e.st j ≠ 0) || (s.home (s.chanOf (lineBase a))).txns.any (fun t => decide (t.line = a)))) []

/-- Each recall waits at the agent that serves its line (R282), ahead of the line's held requests. -/
def State.queueRecalls (s : State) : List Recall → State
  | [] => s
  | r :: l => (s.modHome (s.chanOf (lineBase r.line)) (fun h => { h with recalls := h.recalls ++ [r] })).queueRecalls l

/-- An entry moves into the recall buffer of its home agent, and its lines wait for their recalls; none when the buffer is full
(R296, R297). An entry that names no line is merely dropped. -/
def State.dirEvict (s : State) (p key span : Nat) (e : DirEntry) : Option State :=
  let n := s.chanOf (s.pkgNum * 2 ^ 47 + key * 1024 * 2 ^ span)
  let lines := s.entryLines key span e
  if lines.isEmpty then some s
  else if (s.home n).recallBuf.length ≥ 16 then none
  else
    let s := s.modHome n (fun h => { h with recallBuf := h.recallBuf ++ [{ key := key, span := span, entry := e, left := lines }] })
    let s := s.queueRecalls (lines.map (fun a => { line := a, kind := .dirRecall }))
    let s := (s.countUncore (slotHome n 0) 6 0x08 1 none).addFld (regDirCount0 p) 31 0 1
    some (if s.reshaping then { s with reshapeEvicted := s.reshapeEvicted + 1 } else s)

/-- The recall of a line of an evicted entry is complete. Its field is 00b once no line of it is left, and the entry leaves the buffer
once every answer has come (R296). -/
def State.recalled (s : State) (a : LineAddr) : State :=
  match s.recallAt (s.chanOf (lineBase a)) a with
  | none => s
  | some (k, r) =>
    let f := dirField a r.span
    let left := r.left.filter (· ≠ a)
    let e := if left.any (fun x => decide (dirField x r.span = f)) then r.entry else (r.entry.setSt f 0).norm
    let now (l : List RecallEntry) : List RecallEntry :=
      if left.isEmpty then l.erase r else l.map (fun x => if x = r then { r with left := left, entry := e } else x)
    s.modHome k (fun h => { h with recallBuf := now h.recallBuf })

/-- The way is emptied for an allocation: its occupant is read and evicted (R292). None when the recall buffer is full. -/
def State.clearWay (s : State) (port set w : Nat) : Option State :=
  let s := s.dirError port set w .clean
  match Tbl.find s.dirMem (dirLoc port set w) with
  | none => some (s.dirFree port set w)
  | some e =>
    let l := s.layoutOf e
    (s.dirFree port set w).dirEvict port (l.keyOf port set e.quot) l.span e

/-! ## Allocation and migration (R292, R304 to R308) -/

/-- Room in the displacement table for another pointer of the set (R291). -/
def State.dispRoom (s : State) (port set : Nat) : Bool :=
  decide ((s.disp.filter (fun p => decide (p.port = port ∧ p.set % 1024 = set % 1024))).length < 4)

/-- The way that an allocation takes (R292). -/
def State.allocWay (s : State) (x : Spot) : Nat :=
  let c := s.dirCtlAt x.port x.set
  let pref := prefWay x.quot
  if !c.valid.getLsbD pref then pref
  else if s.dispRoom x.port x.set then
    match (upTo 8).find? (fun w => !c.valid.getLsbD w) with
    | some w => w
    | none => c.order.getLast?.getD pref
  else pref

/-- Raises a line's state by merging another entry into it (R305). -/
def DirEntry.merge (a b : DirEntry) : DirEntry :=
  let m := (upTo 16).foldl (fun e j => e.setSt j (if e.st j < b.st j then b.st j else e.st j)) a
  { m with sharers := a.sharers ||| b.sharers, owner := if b.owned then b.owner else a.owner }

/-- The parts of an old entry under a new span: keys and entries (R305). -/
def splitEntry (key os ns : Nat) (e : DirEntry) : List (Nat × DirEntry) :=
  if ns = os then [(key, e)]
  else if os < ns then
    -- its fields fold into the fields of the wider entry
    let d := ns - os
    let base := key % 2 ^ d * 16
    let x : DirEntry := (upTo 16).foldl (fun x j =>
      let j' := (base + j) / 2 ^ d
      if x.st j' < e.st j then x.setSt j' (e.st j) else x) { e with lstate := 0 }
    [(key >>> d, x)]
  else
    let d := os - ns
    (upTo (2 ^ d)).map (fun i =>
      (key * 2 ^ d + i, ((upTo 16).foldl (fun (x : DirEntry) j => x.setSt j (e.st ((i * 16 + j) / 2 ^ d))) { e with lstate := 0 }).norm))

/-- An entry of the old layout, with its key and its way. -/
structure OldWay where
  key : Nat
  port : Nat
  set : Nat
  way : Nat
  entry : DirEntry
  deriving DecidableEq, Repr

def OldWay.loc (w : OldWay) : Nat := dirLoc w.port w.set w.way

/-- The entry that the old layout has for a key of it. -/
def State.oldWay (s : State) (key : Nat) : Option OldWay :=
  match s.dirAt s.oldLayout key with
  | some (.way m port set w, e) => if m = s.oldLayout then some { key := key, port := port, set := set, way := w, entry := e } else none
  | _ => none

/-- The old entries that go into one entry of the new layout with the old key `key`: several under a larger span (R305). -/
def State.oldGroup (s : State) (key : Nat) : List OldWay :=
  let d := s.newLayout.span - s.oldLayout.span
  ((upTo (2 ^ d)).map (fun i => key / 2 ^ d * 2 ^ d + i)).filterMap s.oldWay

/-- Entries that cannot merge yet: two of them name different owners (R305). -/
def ownersDiffer (g : List OldWay) : Bool :=
  let os := (g.filter (fun w => w.entry.owned)).map (fun w => w.entry.owner)
  os.any (fun a => os.any (fun b => decide (a ≠ b)))

/-- An old entry as it migrates: for a change of the package count the bits of departed packages are cleared (R304 step 2). -/
def State.adapted (s : State) (e : DirEntry) : DirEntry :=
  if s.fld regDirReshape 2 1 = 2 then { e with sharers := e.sharers &&& BitVec.ofNat 32 (s.fld regTrlImage 63 32) } else e

/-- What a group of old entries becomes in the new layout: keys and entries. -/
def State.newParts (s : State) (g : List OldWay) : List (Nat × DirEntry) :=
  let parts := g.foldl (fun l w => l ++ splitEntry w.key s.oldLayout.span s.newLayout.span (s.adapted w.entry)) []
  if s.oldLayout.span < s.newLayout.span then
    match parts with
    | [] => []
    | (k, e) :: t => [(k, t.foldl (fun x p => x.merge p.2) e)]
  else parts

/-- An entry enters the new layout: merged with the one of its key, or in the way that R292 chooses, which `room` empties. None where
`room` must wait. -/
def State.insertEntry (s : State) (room : State → Nat → Nat → Nat → Option State) (key : Nat) (e : DirEntry) : Option State :=
  let l := s.newLayout
  match l.spot key with
  | none => none
  | some x =>
    let known := match s.dirAt l key with
      | some (.way m _ _ w, old) => if m = l then some (w, old) else none
      | _ => none
    match known with
    | some (w, old) => some (s.dirPut l x.port x.set w x.quot (old.merge e))
    | none =>
      let w := s.allocWay x
      (room s x.port x.set w).map (fun s => s.dirPut l x.port x.set w x.quot e)

def State.insertParts (s : State) (room : State → Nat → Nat → Nat → Option State) : List (Nat × DirEntry) → Option State
  | [] => some s
  | (k, e) :: t => if e.free then s.insertParts room t
    else match s.insertEntry room k e with
    | none => none
    | some s => s.insertParts room t

/-- The old ways of a group are freed, but for one that has been taken again, and the filter marks the new keys (R304, R306). -/
def State.freeGroup (s : State) (g : List OldWay) (keys : List Nat) : State :=
  let s := g.foldl (fun (s : State) w => match Tbl.find s.dirMem w.loc with
    | some e => if e.gen = s.oldLayout.gen ∧ e.quot = w.entry.quot then s.dirFree w.port w.set w.way else s
    | none => s) s
  { s with dirFilter := (keys ++ s.dirFilter).eraseDups }

/-- A group of old entries moves: its parts are inserted, then the old ways are freed. `room` knows the group's own ways. -/
def State.moveGroup (s : State) (room : List Nat → State → Nat → Nat → Nat → Option State) (g : List OldWay) : Option State :=
  let parts := s.newParts g
  (s.insertParts (room (g.map OldWay.loc)) parts).map (fun s => s.freeGroup g (parts.map (fun p => p.1)))

/-- Room in a way at the end of a chain: an entry of the moving group gives its way up, any other is evicted (R308). -/
def State.roomLast (own : List Nat) (s : State) (port set w : Nat) : Option State :=
  if own.contains (dirLoc port set w) then some (s.dirFree port set w) else s.clearWay port set w

/-- Room in a way: an occupant of the old layout is migrated first, with those it merges with; where it cannot be, or comes to stand in
this very way, it is evicted (R308). -/
def State.roomFirst (own : List Nat) (s : State) (port set w : Nat) : Option State :=
  if own.contains (dirLoc port set w) then some (s.dirFree port set w)
  else
    let s := s.dirError port set w .clean
    match Tbl.find s.dirMem (dirLoc port set w) with
    | none => some (s.dirFree port set w)
    | some e =>
      if s.reshaping && (s.dirCtlAt port set).oldgen.getLsbD w then
        let g := s.oldGroup (s.oldLayout.keyOf port set e.quot)
        if ownersDiffer g then s.clearWay port set w
        else match s.moveGroup (fun mine => State.roomLast (mine ++ own)) g with
          | none => none
          | some s => State.roomLast own s port set w
      else s.clearWay port set w

/-- An allocation of a new entry for a line (R292). In a reshape it takes in the old entries that the new one covers. None while the
recall buffer has no room, or while two of those have different owners. -/
def State.dirAlloc (s : State) (a : LineAddr) (e : DirEntry) : Option State :=
  let l := s.newLayout
  let key := dirKey a l.span
  let g := if s.reshaping && decide (s.oldLayout.span < l.span) then s.oldGroup (dirKey a s.oldLayout.span) else []
  if ownersDiffer g then none
  else
    let e' := (s.newParts g).foldl (fun x p => x.merge p.2) e
    (s.insertEntry (State.roomFirst (g.map OldWay.loc)) key e').map (fun s =>
      let s := if s.reshaping then s.freeGroup g [key] else s
      match l.spot key with
      | some x => s.addFld (regDirCount0 x.port) 63 32 1
      | none => s)

/-- An entry is written where it stands, or freed. -/
def State.dirWrite (s : State) (l : Layout) (port set w quot : Nat) (e : DirEntry) : State :=
  if e.free then s.dirFree port set w else s.dirPut l port set w quot e

/-- A write of a line's entry: in the recall buffer, in its way, or, where it stands in the old layout of a reshape, moved to the
new one (R306), unless the entries it would merge with have another owner (log entry 93). None while it must wait. -/
def State.dirUpdate (s : State) (n : Nat) (a : LineAddr) (f : Nat → DirEntry → DirEntry) : Option State :=
  match s.dirFind n a with
  | none =>
    let e := (f (dirField a s.newLayout.span) {}).norm
    if e.free then some s else s.dirAlloc a e
  | some (.buffer k r, e) =>
    some (s.modHome k (fun h => { h with recallBuf := h.recallBuf.map (fun x =>
      if x = r then { r with entry := (f (dirField a r.span) e).norm } else x) }))
  | some (.way l port set w, e) =>
    let e' := (f (dirField a l.span) e).norm
    let g := (s.oldGroup (l.keyOf port set e.quot)).map (fun x => if x.loc = dirLoc port set w then { x with entry := e' } else x)
    if s.reshaping && decide (l.gen ≠ s.newLayout.gen) && !ownersDiffer g then s.moveGroup State.roomFirst g
    else some (s.dirWrite l port set w e.quot e')

/-- A write that cannot wait: where its move to the new layout would, the entry is written where it stands (log entry 93). -/
def State.dirStay (s : State) (n : Nat) (a : LineAddr) (f : Nat → DirEntry → DirEntry) : State :=
  match s.dirUpdate n a f with
  | some s => s
  | none => match s.dirFind n a with
    | some (.way l port set w, e) => s.dirWrite l port set w e.quot (f (dirField a l.span) e).norm
    | _ => s

/-- The recalls that entries with different owners need before they merge, but for those that wait or run (R236, R305). -/
def State.mergeRecalls (s : State) (g : List OldWay) : List Recall :=
  if !ownersDiffer g then []
  else g.foldl (fun l w => l ++ ((upTo 16).foldl (fun l j => if w.entry.st j ≥ 2 then
      l ++ ((fieldLines s.pkgNum w.key s.oldLayout.span j).filter (fun a =>
        let h := s.home (s.chanOf (lineBase a))
        !h.recalls.any (fun r => decide (r.line = a)) && !h.txns.any (fun t => decide (t.line = a) && decide (t.kind = .ownerRecall)))).map
        (fun a => ({ line := a, kind := .ownerRecall, pkgs := [w.entry.owner], owner := some (pkgKey w.entry.owner) } : Recall))
      else l) [])) []

/-- The old ways of a set are migrated in order; whether every one could be. Entries that must not merge yet are recalled first. The
outcome falls on the first entry read. -/
def State.migrateWays (s : State) (port set : Nat) (o : DirOutcome) : List Nat → State × Bool
  | [] => (s, true)
  | w :: l =>
    if !(s.dirCtlAt port set).oldgen.getLsbD w then s.migrateWays port set o l
    else
      let s := s.dirError port set w o
      match Tbl.find s.dirMem (dirLoc port set w) with
      | none => (s.dirFree port set w).migrateWays port set .clean l
      | some e =>
        let g := s.oldGroup (s.oldLayout.keyOf port set e.quot)
        if ownersDiffer g then (s.queueRecalls (s.mergeRecalls g), false)
        else match s.moveGroup State.roomFirst g with
          | none => (s, false)
          | some s => s.migrateWays port set .clean l

/-- R304 step 2: the next old global set is migrated; a set whose eviction or recall must wait is taken up again. -/
def State.migrateSet (s : State) (o : DirOutcome) : State :=
  let old := s.oldLayout
  let g := s.fld regDirCursor 31 0
  let total := s.fld regDirCursor 63 32
  if g ≥ total then s.endReshape
  else
    let ps := portList old.ports
    let port := ps.getD (g % ps.length) 0
    let set := g / ps.length
    let (s, ok) := (s.dirCtlError port set o).migrateWays port set (match o with
      | .controlSingle _ => .clean
      | .controlRetried => .clean
      | .controlTwice => .clean
      | o => o) (upTo 8)
    if !ok then s
    else
      let s := s.setFld regDirCursor 31 0 (g + 1)
      -- another eighth of the old sets has been passed (R309)
      let s := if (g + 1) * 8 / total > g * 8 / total then s.emit 12 81 0xA001 0 [g + 1, total] else s
      if g + 1 ≥ total then s.endReshape else s

/-! ## Ageing, scrubbing, a lost port (R293, R295, R300) -/

/-- R293. -/
def execAgeClock (s : State) : Host.Outcome State Fault Refusal :=
  .next { s with dirAge := s.dirAge + 1, dirTicks := s.dirTicks + 1 }

/-- An entry of age 128 or more takes the age 128, and its way is youngest (R293, R295). -/
def State.freshAge (s : State) (port set w : Nat) : State :=
  match Tbl.find s.dirMem (dirLoc port set w) with
  | some e =>
    if (s.dirAge.toNat + 256 - e.age) % 256 ≥ 128 then
      let old := (s.dirAge.toNat + 128) % 256
      let c := s.dirCtlAt port set
      let s := { s with dirMem := Tbl.set s.dirMem (dirLoc port set w) { e with age := old } }
      if e.age = old then s else s.setDirCtl port set { c with order := w :: c.order.erase w }
    else s
  | none => s

/-- R295: the port's scrubber reads its next location. -/
def execDirScrub (p : Fin 8) (o : DirOutcome) (s : State) : Host.Outcome State Fault Refusal :=
  .next (if s.fld (regDirStatus p.val) 2 1 ≠ 1 then s
  else
    let at' := Tbl.get 0 s.dirScrubAt p.val
    let limit := s.fld regDirLayout 63 32 * 9
    let s := { s with dirScrubAt := Tbl.set s.dirScrubAt p.val (if at' + 1 ≥ limit then 0 else at' + 1) }
    let set := at' / 9
    if at' % 9 = 0 then s.dirCtlError p.val set (match o with
      | .entryTwice => .controlTwice
      | .single b => .controlSingle b
      | .retried => .controlRetried
      | o => o)
    else (s.dirError p.val set (at' % 9 - 1) o).freshAge p.val set (at' % 9 - 1))

/-- Code 50A1h of a port (R300, R314). -/
def State.dirPortLost (s : State) (p : Nat) : State :=
  (s.dirLastErr p 0x50A1 0).ueP 12 (32 + p) 0x50A1 0 [p, (s.reg (regDirStatus p)).toNat % 2 ^ 32]

/-- R300: loss of lock while the port holds entries. -/
def execDirPortLost (p : Fin 8) (s : State) : Host.Outcome State Fault Refusal :=
  .next (if s.dirMem.any (fun e => decide (e.1 / 2 ^ 24 = p.val)) then s.dirPortLost p.val else s)

end Sys2Proof.Machine
end

