-- ==== Sys2Proof/Machine/Endpoint.lean ====
section
/-! DEFINITION. The endpoint function (13_platform_endpoint.md R486 to R500, R513 to R517): configuration, polls, descriptor reads,
completions, function resets, power states, containment; the inbound requests of a PCIe link and the peer window. -/
namespace Sys2Proof.Machine
open Sys2Proof

def State.modEpf (s : State) (f : Endpoint → Endpoint) : State := { s with epf := f s.epf }
def State.epfOut (s : State) (t : Tlp) : State := (s.modEpf (fun e => { e with out := e.out ++ [t] })).tlpOut 0 (tlpBytes t)

/-- The package presents the function (R14, R557): the package that serves the host, from SENSE on. -/
def State.epfPresent (s : State) : Bool := s.servesHost && decide (modeSense ≤ s.mode)
/-- The link of the function is up (R524). -/
def State.epfLinked (s : State) : Bool := decide (s.fld regEpfStatus 7 4 ≠ 0)
def State.epfContained (s : State) : Bool := decide (s.fld regEpfStatus 11 11 = 1)
/-- The function issues requests of its own (R494, R513 to R515): commands are served, Bus Master Enable is set in D0, no containment
holds and no reset is due. -/
def State.epfMaster (s : State) : Bool :=
  s.servesHost && decide (modeSealed ≤ s.mode) && s.epf.bme && decide (s.fld regEpfStatus 9 8 = 0) && !s.epfContained
    && s.epf.resetDue.isNone

/-! ## MSI-X and wake (R486, R514, R614) -/

/-- The vector's table entry is masked: bit 0 of its fourth word, 1 at reset (log entry 33). -/
def State.msixMasked (s : State) (v : Nat) : Bool := (Tbl.get 1 s.epf.msix (v * 4 + 3)).getLsbD 0

/-- An MSI-X message goes out, or waits in the pending bit array while its vector is masked. -/
def State.sendMsix (s : State) (v : Nat) : State :=
  if s.msixMasked v then
    s.modEpf (fun e => { e with msixPending := if e.msixPending.contains v then e.msixPending else e.msixPending ++ [v] })
  else s.epfOut (.msix v)

/-- R614: the notice vector is sent, or held until the function may issue. -/
def State.noticeVector (s : State) : State :=
  if s.fld regGlbErrnote 63 63 = 0 then s
  else if s.epfMaster then s.sendMsix (s.fld regGlbErrnote 62 52) else s.modEpf (fun e => { e with noticeHeld := true })

/-- The hold has ended: one vector for what was held (R614). -/
def State.noticeResume (s : State) : State :=
  if s.epf.noticeHeld && s.epfMaster then (s.modEpf (fun e => { e with noticeHeld := false })).sendMsix (s.fld regGlbErrnote 62 52) else s

/-- Something awaits the host (R514). -/
def State.awaitsHost (s : State) : Bool := !s.completions.isEmpty || s.epf.hostRec

/-- PM_PME in D3hot and WAKE_N in D3cold while something awaits the host (R514). -/
def State.wakeTick (s : State) : State :=
  if !s.servesHost then s
  else
    let d := s.fld regEpfStatus 9 8
    let s := if d = 3 ∧ s.awaitsHost ∧ !s.epf.pmeSent then (s.epfOut .pme).modEpf (fun e => { e with pmeSent := true }) else s
    let w := decide (d = 2) && s.awaitsHost
    if s.epf.wakeN = w ∨ s.mode ≤ modeStandby then s else s.modEpf (fun e => { e with wakeN := w })

/-! ## Polls and descriptor reads (R493 to R496) -/

/-- HEAD, size and TAIL of a command ring. -/
def State.cringHead (s : State) (i : Nat) : Nat := s.fld (regEpfCring1 i) 63 32
def State.cringSize (s : State) (i : Nat) : Nat := 2 ^ s.fld (regEpfCring1 i) 3 0
def State.cringTail (s : State) (i : Nat) : Nat := (Tbl.get 0 s.epf.doorbells i).toNat
def State.cringOn (s : State) (i : Nat) : Bool := decide (s.fld (regEpfCring1 i) 4 4 = 1)

/-- Descriptor reads outstanding on a ring. -/
def State.ringReads (s : State) (i : Nat) : Nat := (s.epf.reads.filter (fun r => decide (r.ring = i))).length

/-- The ring has a descriptor that is not asked for. -/
def State.ringWants (s : State) (i : Nat) : Bool :=
  s.cringOn i && decide ((s.cringHead i + s.ringReads i) % 2 ^ 32 ≠ s.cringTail i)

/-- Commands outstanding, the descriptors being read included (R496). -/
def State.outstanding (s : State) : Nat := s.fld regEpfStatus 40 32 + s.epf.reads.length

/-- The read of the next descriptor of ring `i`. -/
def State.askDescriptor (s : State) (i : Nat) : State :=
  let ix := (s.cringHead i + s.ringReads i) % 2 ^ 32
  let tag := s.epf.nextTag
  let r : HostRead := { tag := tag, ring := i, index := ix, since := s.clause }
  let s := s.modEpf (fun e => { e with reads := e.reads ++ [r], nextTag := (tag + 1) % 1024, nextRing := (i + 1) % 64 })
  s.epfOut (.memRead tag (s.fld (regEpfCring0 i) 63 12 * 4096 + ix % s.cringSize i * 128) 128)

/-- Rings are served in round robin, one descriptor at a time, while fewer than 256 commands are outstanding (R496). -/
def State.issueReads (s : State) : Nat → State
  | 0 => s
  | k + 1 =>
    if !s.epfMaster || decide (256 ≤ s.outstanding) then s
    else match ((upTo 64).map (fun j => (s.epf.nextRing + j) % 64)).find? s.ringWants with
      | some i => (s.askDescriptor i).issueReads k
      | none => s

/-- A ring whose TAIL has run more than its size ahead is disabled (R496). -/
def State.checkRings (s : State) : List Nat → State
  | [] => s
  | i :: l =>
    let t := s.cringTail i
    let h := s.cringHead i
    (if s.cringOn i && decide (s.cringSize i < (t + 2 ^ 32 - h) % 2 ^ 32) then
      (s.setFld (regEpfCring1 i) 4 4 0).emit 12 84 0xB006 0 [i, t, h]
    else s).checkRings l

/-- The doorbell words of a poll: the low halves of its 128 words (R493). -/
def doorbellTbl (ws : List Word) : Tbl (BitVec 32) :=
  ((upTo 128).zip ws).foldl (fun t p => Tbl.set t p.1 (BitVec.ofNat 32 p.2.toNat)) []

/-- A poll has returned the words of the doorbell page (R494). -/
def State.poll (s : State) (ws : List Word) : State :=
  let old := s.epf.doorbells
  let new := doorbellTbl ws
  let changed := (upTo 128).any (fun i => decide (Tbl.get (0 : BitVec 32) old i ≠ Tbl.get 0 new i))
  let cur := s.fld regEpfPoll 23 16
  let max := s.fld regEpfPoll 15 8
  let next := if changed then s.fld regEpfPoll 7 0 else if 2 * cur < max then 2 * cur else max
  let s := (s.addFld regEpfCount0 63 32 1).setFld regEpfPoll 23 16 next
  let s := s.epfOut (.memRead s.epf.nextTag (s.fld regEpfDbpage 63 12 * 4096) 1024)
  let s := s.modEpf (fun e => { e with doorbells := new, nextTag := (e.nextTag + 1) % 1024,
                                       nextPoll := s.clause + BitVec.ofNat 64 (250 * next) })
  (s.checkRings (upTo 64)).issueReads 256

/-- R494: a poll is due, and `words` are the 128 words of the page that its read brings. -/
def execDoorbellPoll (words : List Word) (s : State) : Host.Outcome State Fault Refusal :=
  if s.epfMaster && decide (s.fld regEpfDbpage 0 0 = 1) && decide (s.epf.nextPoll.toNat ≤ s.clause.toNat) then .next ((s.tlpIn 0 1024).poll words)
  else .next s

/-! ## Completions (R497, R498, R500) -/

/-- The completion ring of a command: its size, CHEAD and room. -/
def State.pringOf (s : State) (c : Command) : Nat := s.fld (regEpfCring1 c.ring) 21 16
def State.pringSize (s : State) (j : Nat) : Nat := 2 ^ s.fld (regEpfPring1 j) 3 0
def State.pringRoom (s : State) (j : Nat) : Bool :=
  let used := (s.fld (regEpfPring1 j) 63 32 + 2 ^ 32 - (Tbl.get 0 s.epf.doorbells (64 + j)).toNat) % 2 ^ 32
  decide (s.fld (regEpfPring1 j) 4 4 = 1) && decide (used < s.pringSize j)

/-- The 32 bytes of a completion record (R497). -/
def completionBits (x : Completion) (phase : Nat) : Nat :=
  x.cmd.cmdid.toNat + x.status * 2 ^ 32 + (phase + 2 * b2n x.final) * 2 ^ 40 + x.cmd.index % 65536 * 2 ^ 48 + x.cmd.ring * 2 ^ 64
    + x.cmd.oper * 2 ^ 72 + x.r0.toNat * 2 ^ 128 + x.r1.toNat * 2 ^ 192

/-- The record of a completion goes to its ring (R498). -/
def State.writeCompletion (s : State) (x : Completion) : State :=
  let j := s.pringOf x.cmd
  let n := s.fld (regEpfPring1 j) 63 32
  let size := s.pringSize j
  let addr := s.fld (regEpfPring0 j) 63 12 * 4096 + n % size * 32
  let s := s.epfOut (.memWrite addr 32 (completionBits x ((n / size + 1) % 2)))
  let s := s.setFld (regEpfPring1 j) 63 32 (n + 1)
  let s := if x.cmd.int || !(decide (x.status = stOk) || decide (x.status = stRunning)) then s.sendMsix (s.fld (regEpfPring1 j) 26 16) else s
  let s := { s with completions := s.completions.erase x }
  if x.final then s.notOutstanding.issueReads 256 else s

/-- R498: the oldest completion whose ring has room is written. -/
def execCommandCompletion (s : State) : Host.Outcome State Fault Refusal :=
  .next (if s.epfMaster then
      match s.completions.find? (fun x => s.pringRoom (s.pringOf x.cmd)) with
      | some x => s.writeCompletion x
      | none => s
    else s)

/-! ## Resets of the function (R513) -/

/-- The reads outstanding are abandoned: each one's command completes with ABORTED, its CMDID unknown (log entry 1). -/
def State.abandon (s : State) : List HostRead → State
  | [] => s
  | r :: l =>
    let c : Command := { cmdid := BitVec.ofNat 32 s.freeWord.toNat, ring := r.ring, index := r.index, gen := s.epf.gen }
    let s := (s.spendFree.setFld (regEpfCring1 r.ring) 63 32 (r.index + 1)).addFld regEpfStatus 40 32 1
    let s := s.modEpf (fun e => { e with reads := e.reads.erase r, late := e.late ++ [r] })
    (s.complete c stAborted 0 0).abandon l

/-- Bus Master Enable is cleared (R513): how many commands are aborted. -/
def State.stopMaster (s : State) : State × Nat :=
  let n := s.epf.reads.length
  ((s.abandon s.epf.reads).modEpf (fun e => { e with bme := false, config := Tbl.set e.config 1 (Tbl.get 0 e.config 1 &&& ~~~4) }), n)

/-- Completions not written are undelivered (R513). -/
def State.dropCompletions (s : State) : List Completion → State
  | [] => s
  | x :: l =>
    let s := s.emit 12 84 0xB004 0 [x.cmd.cmdid.toNat, x.status, x.cmd.ring]
    (if x.final then s.notOutstanding else s).dropCompletions l

/-- The registers of a list of offsets take their reset values. -/
def State.resetRegs (s : State) : List Nat → State
  | [] => s
  | o :: l => (s.setReg o (regInit o)).resetRegs l

/-- The ring, window and DBPAGE registers. -/
def epfResetRegs : List Nat :=
  regEpfDbpage :: ((upTo 16).map regEpfWin ++ (upTo 64).map regEpfCring0 ++ (upTo 64).map regEpfCring1 ++ (upTo 64).map regEpfPring0
    ++ (upTo 64).map regEpfPring1)

/-- The function resets its state and reports ready when its link is up (R513). -/
def State.finishReset (s : State) (kind aborted : Nat) : State :=
  let cs := s.completions
  let s := { s with completions := [], mapDue := s.mapDue.filter (fun d => decide (d.1 < regEpfWin 0 ∨ regEpfWin 16 ≤ d.1)) }
  let s := (s.dropCompletions cs).resetRegs epfResetRegs
  let s := s.modEpf (fun e => { e with config := [], msix := [], msixPending := [], doorbells := [], nextPoll := 0, gen := e.gen + 1,
                                       nextRing := 0, resetDue := none })
  let s := s.setFld regEpfStatus 10 10 (b2n (s.epfLinked && decide (modeSealed ≤ s.mode)))
  let s := if s.fld regEpfStatus 9 8 = 2 then s else s.setFld regEpfStatus 9 8 0
  s.emit 12 84 0xB002 0 [kind, aborted]

/-- A function reset begins: it ends once every outstanding read has (R513). -/
def State.beginReset (s : State) (kind : Nat) : State :=
  let (s, n) := s.stopMaster
  let s := s.setFld regEpfStatus 10 10 0
  if s.epf.late.isEmpty then s.finishReset kind n else s.modEpf (fun e => { e with resetDue := some (kind, n) })

/-- An abandoned read has ended. -/
def State.lateDone (s : State) (r : HostRead) : State :=
  let s := s.modEpf (fun e => { e with late := e.late.erase r })
  match s.epf.resetDue with
  | some (k, n) => if s.epf.late.isEmpty then s.finishReset k n else s
  | none => s

/-- R513: Bus Master Enable is cleared. -/
def State.busMasterOff (s : State) : State :=
  if s.epfPresent && s.epf.bme then
    let (s, n) := s.stopMaster
    s.emit 12 84 0xB003 0 [n]
  else s

/-- R513: Bus Master Enable is set; polling resumes, and what was held is written. -/
def State.busMasterOn (s : State) : State :=
  if s.epfPresent && !s.epf.bme && s.epf.resetDue.isNone then
    ((s.modEpf (fun e => { e with bme := true, nextPoll := s.clause,
                                  config := Tbl.set e.config 1 (Tbl.get 0 e.config 1 ||| 4) })).noticeResume).issueReads 256
  else s

def execBusMasterDisable (s : State) : Host.Outcome State Fault Refusal := .next s.busMasterOff
def execBusMasterEnable (s : State) : Host.Outcome State Fault Refusal := .next s.busMasterOn

/-- R513. -/
def execFunctionLevelReset (s : State) : Host.Outcome State Fault Refusal :=
  .next (if s.epfPresent && s.epf.resetDue.isNone then s.beginReset 3 else s)

/-- R513: PERST_N, or a hot reset, takes the link down and resets the function; BAR2CFG.LOG takes effect at PERST_N (R524). -/
def execPerstN (hot : Bool) (s : State) : Host.Outcome State Fault Refusal :=
  .next (if s.epfPresent then
      let s := (s.setFld regEpfStatus 7 4 0).setFld regEpfStatus 3 0 0
      let s := if hot then s else s.modEpf (fun e => { e with bar2Log := s.fld regEpfBar2cfg 5 0 })
      if s.epf.resetDue.isNone then s.beginReset (if hot then 2 else 1) else s
    else s)

/-- R486: 50 ms without a completion. An abandoned read ends so; a read in use is an uncorrectable error (AER bit 14, log entry 33),
and the function is contained (R515). -/
def execCompletionTimeout (s : State) : Host.Outcome State Fault Refusal :=
  let old (r : HostRead) : Bool := decide (r.since.toNat + 12500000 ≤ s.clause.toNat)
  .next (match s.epf.late.find? old with
    | some r => s.lateDone r
    | none => match s.epf.reads.find? old with
      | some r =>
        let s := s.modEpf (fun e => { e with aer := e.aer ||| 0x4000, reads := e.reads.erase r })
        s.epfContain 2
      | none => s)

/-- R514: D0 (0), D3cold (2) or D3hot (3). The return to D0 keeps the function's state; held completions are then written. -/
def execDStateChange (d : BitVec 2) (s : State) : Host.Outcome State Fault Refusal :=
  .next (if s.epfPresent && decide (d ≠ 1) then
      let s := s.setFld regEpfStatus 9 8 d.toNat
      if d = 0 then
        ((s.modEpf (fun e => { e with pmeSent := false, hostRec := false, wakeN := false, nextPoll := s.clause })).noticeResume).issueReads 256
      else s.wakeTick
    else s)

/-- R515: a surprise link-down, or errors that AER classes as uncorrectable (`aer`). -/
def execEpfContained (linkDown : Bool) (aer : BitVec 32) (s : State) : Host.Outcome State Fault Refusal :=
  .next (if s.epfPresent then
      let s := s.modEpf (fun e => { e with aer := e.aer ||| aer })
      if linkDown then ((s.setFld regEpfStatus 7 4 0).setFld regEpfStatus 3 0 0).epfContain 1
      else if aer = 0 then s else s.epfContain 2
    else s)

/-- R516: the host writes 1 to RELEASE. -/
def execContainmentRelease (s : State) : Host.Outcome State Fault Refusal :=
  .next (if s.epfPresent && s.epfContained && s.epfLinked && decide (s.epf.aer = 0) then
      let s1 := (s.setFld regEpfStatus 11 11 0).setFld regEpfStatus 15 12 0
      let s1 := s1.modEpf (fun e => { e with nextPoll := s.clause })
      ((s1.noticeResume).issueReads 256).emit 12 84 0xB001 0 [(s.clause.toNat - s.epf.containedAt.toNat) % 2 ^ 32]
    else s)

/-! ## Configuration requests (R486 to R488) -/

/-- The dwords of configuration space whose contents the spec gives, in the standard header and the AER capability (log entry 33). -/
def State.configRead (s : State) (dw : Nat) : Option (BitVec 32) :=
  let st (i : Nat) : BitVec 32 := Tbl.get 0 s.epf.config i
  let log := s.epf.bar2Log
  match dw with
  | 0 => some 0x21601f3a
  | 1 => some ((st 1 &&& 6) ||| 0x00100000)
  | 2 => some 0x08800001
  | 3 => some 0
  | 4 => some ((st 4 &&& 0xfff00000) ||| 4)
  | 5 => some (st 5)
  | 6 => some (BitVec.ofNat 32 ((st 6).toNat / 2 ^ log * 2 ^ log) ||| 0xc)
  | 7 => some (BitVec.ofNat 32 ((st 7).toNat / 2 ^ (log - 32) * 2 ^ (log - 32)))
  | 8 => some 0
  | 9 => some 0
  | 11 => some (BitVec.ofNat 32 s.subsystem)
  | 12 => some 0
  | 15 => some (st 15 &&& 0xff)
  | 65 => some s.epf.aer
  | _ => none

/-- A write of the bytes that `be` enables. -/
def dwordMerge (old new : BitVec 32) (be : BitVec 4) : BitVec 32 :=
  let m : BitVec 32 := BitVec.ofNat 32 (maskNat be.toNat 4)
  (old &&& ~~~m) ||| (new &&& m)

/-- A configuration write: Command, the BARs, Interrupt Line, and the AER status, which clears by writing 1. -/
def State.configWrite (s : State) (dw : Nat) (be : BitVec 4) (v : BitVec 32) : State :=
  let new := dwordMerge (Tbl.get 0 s.epf.config dw) v be
  if dw = 1 then
    let s := s.modEpf (fun e => { e with config := Tbl.set e.config 1 ((new &&& 2) ||| (Tbl.get 0 e.config 1 &&& 4)) })
    if new.getLsbD 2 then s.busMasterOn else s.busMasterOff
  else if dw = 65 then s.modEpf (fun e => { e with aer := e.aer &&& ~~~(dwordMerge 0 v be) })
  else if (4 ≤ dw ∧ dw ≤ 7) ∨ dw = 15 then s.modEpf (fun e => { e with config := Tbl.set e.config dw new })
  else s

/-- R486 to R488: a configuration request for dword `dw`; `write` gives the byte enables and the value written. -/
def execConfigRequest (tag : BitVec 10) (dw : BitVec 10) (write : Option (BitVec 4 × BitVec 32)) (s : State) :
    Host.Outcome State Fault Refusal :=
  .next (if !s.epfPresent || !s.epfLinked || decide (s.fld regEpfStatus 9 8 = 2) then s
    else if s.fld regEpfStatus 10 10 = 0 then (s.tlpIn 0 (if write.isSome then 4 else 0)).epfOut (.retryStatus tag.toNat)
    else
    let s := s.tlpIn 0 (if write.isSome then 4 else 0)
    match write with
      | some (be, v) => (s.configWrite dw.toNat be v).epfOut (.completion tag.toNat 0 (some 0))
      | none => match s.configRead dw.toNat with
        | some v => s.epfOut (.completion tag.toNat 4 (some v.toNat))
        | none => (s.epfOut (.completion tag.toNat 4 (some (s.freeWord.toNat % 2 ^ 32)))).spendFree)

/-! ## Inbound requests of a link (R490 to R492, R520) -/

/-- What the link of an octet takes from the package. -/
def State.octetOut (s : State) (n : Nat) (t : Tlp) : State :=
  if n = 0 ∧ s.servesHost then s.epfOut t
  else ({ s with rpOut := Tbl.set s.rpOut n (Tbl.get [] s.rpOut n ++ [t]) } : State).tlpOut n (tlpBytes t)

def State.inboundOf (s : State) (n : Nat) : List InReq := Tbl.get [] s.inbound n
def State.setInbound (s : State) (n : Nat) (l : List InReq) : State := { s with inbound := Tbl.set s.inbound n l }

/-- Accesses below this many lines end a request (4 KiB). -/
def inboundLines : Nat := 65

/-- The oldest inbound request of octet `n` goes on: a write is visible when the home has answered, a read when its lines have come;
the next begins after it (R491). -/
def State.inboundStep (s : State) (n : Nat) : State × Bool :=
  match s.inboundOf n with
  | [] => (s, false)
  | r :: l =>
    let u := 64 + n
    match r.tag with
    | none =>
      if !r.started then
        ((s.portWriteBytes u (BitVec.ofNat 10 r.realm) r.pa r.len r.data inboundLines).setInbound n ({ r with started := true } :: l), false)
      else if s.portQuiet u then ((s.portClear u).setInbound n l, true) else (s, false)
    | some tag =>
      let lines := linesOf r.pa r.len
      if lines.any (fun a => (s.port u).failed.contains a) then
        (((s.portClear u).octetOut n (.completion tag r.len none)).setInbound n l, true)
      else match s.portReadBytes u (BitVec.ofNat 10 r.realm) r.pa r.len with
        | (s, some v) => (((s.portClear u).octetOut n (.completion tag r.len (some v))).setInbound n l, true)
        | (s, none) => (s, false)

def State.inboundRun (s : State) (n : Nat) : Nat → State
  | 0 => s
  | k + 1 => match s.inboundStep n with
    | (s, true) => s.inboundRun n k
    | (s, false) => s

/-- The requests of octet `n` go on, unless the sources are held (R567) or the package is halted (R608). -/
def State.inboundAdvance (s : State) (n : Nat) : State :=
  if s.sourcesHeld || decide (s.mode = modeHalt) then s else s.inboundRun n ((s.inboundOf n).length + 1)

def State.inboundTick (s : State) : List Nat → State
  | [] => s
  | n :: l => (if (s.inboundOf n).isEmpty then s else s.inboundAdvance n).inboundTick l

/-- A request joins those of its link. -/
def State.inboundPut (s : State) (n : Nat) (r : InReq) : State := (s.setInbound n (s.inboundOf n ++ [r])).inboundAdvance n

/-! ### Mapping registers (R492, R519) -/

/-- An earlier request still uses the old value of a mapping register. -/
def State.oldInUse (s : State) (off : Nat) : Bool := s.inbound.any (fun x => x.2.any (fun r => r.old && decide (r.via = off)))

/-- What a read of a mapping register returns: the old value until every request that used it has committed (R492). -/
def State.mapRead (s : State) (off : Nat) : Word :=
  match Tbl.find s.mapOld off with
  | some w => if s.oldInUse off then w else s.reg off
  | none => s.reg off

/-- Writes of mapping registers in the order of R28: by origin. -/
def mapInsert (x : Nat × Word × BitVec 16) : List (Nat × Word × BitVec 16) → List (Nat × Word × BitVec 16)
  | [] => [x]
  | y :: l => if y.2.2.toNat ≤ x.2.2.toNat then y :: mapInsert x l else x :: y :: l

/-- A mapping register is written; the value takes effect at the next clause boundary, and is recorded (R492, R519, R636). -/
def State.mapWrite (s : State) (off : Nat) (v : Word) (origin : BitVec 16) : State :=
  ({ s with mapDue := mapInsert (off, v, origin) s.mapDue }).chgRecs origin off 0 (s.reg off) v

/-- A value takes effect: requests in progress keep the old one (R492). -/
def State.mapApply (s : State) : List (Nat × Word × BitVec 16) → State
  | [] => s
  | (off, v, _) :: l =>
    let used := s.inbound.any (fun x => x.2.any (fun r => decide (r.via = off)))
    let keep := if s.oldInUse off then Tbl.find s.mapOld off else if used then some (s.reg off) else none
    let inb := Tbl.map (fun (q : List InReq) => q.map (fun (r : InReq) => if r.via = off then { r with old := true } else r)) s.inbound
    let s := { s with inbound := inb, mapOld := match keep with
      | some w => Tbl.set s.mapOld off w
      | none => Tbl.erase s.mapOld off }
    (s.setReg off v).mapApply l

/-- The clause boundary (R492). -/
def State.mapTick (s : State) : State := if s.mapDue.isEmpty then s else ({ s with mapDue := [] }).mapApply s.mapDue

/-- The fields of a value written to EPF.WIN or RPASSIGN. -/
def winMask (v : Word) : Word := v &&& 0x000fffffff000001
def rpassignMask (v : Word) : Word := v &&& 0x0000000103ffffff

/-- R492: a write to EPF.WIN[k]; `origin` made it. -/
def execWindowWrite (k : Fin 16) (v : Word) (origin : BitVec 16) (s : State) : Host.Outcome State Fault Refusal :=
  .next (if s.mode = modeHalt ∨ s.mode ≤ modeStandby then s else s.mapWrite (regEpfWin k.val) (winMask v) origin)

/-! ### The peer window (R490) -/

/-- The window, the PA and whether an access of `n` bytes at BAR2 offset `o` is allowed. -/
def State.peerTarget (s : State) (o n : Nat) : Nat × Nat × Bool :=
  let log := s.epf.bar2Log - 4
  let k := o / 2 ^ log
  let w := s.reg (regEpfWin k)
  let pa := bits w 51 24 * 2 ^ 24 / 2 ^ log * 2 ^ log + o % 2 ^ log
  (k, pa, bit w 0 && decide (k < 16) && decide (s.systemRange pa n = 0))

/-- Code B005h. -/
def State.peerRefused (s : State) (k o pa : Nat) : State := s.emit 12 84 0xB005 0 [k, o % 2 ^ 32, pa / 4096 % 2 ^ 20, pa / 2 ^ 32]

/-- The window can be reached: the link is up in D0, memory is in service, and inbound requests have credit (R514, R567). -/
def State.peerOpen (s : State) : Bool :=
  s.servesHost && s.epfLinked && decide (s.fld regEpfStatus 10 10 = 1) && decide (s.fld regEpfStatus 9 8 = 0) && !s.sourcesHeld

/-- R490: a host read of `len` bytes at BAR2 offset `off`. -/
def execPeerWindowRead (tag : BitVec 10) (off : BitVec 36) (len : Fin 4097) (s : State) : Host.Outcome State Fault Refusal :=
  .next (if !s.peerOpen then s
    else if s.epfContained || decide (s.mode = modeHalt) then (s.tlpIn 0 0).epfOut (.completion tag.toNat len.val none)
    else
      let s := s.tlpIn 0 0
      let (k, pa, ok) := s.peerTarget off.toNat len.val
      if ok then s.inboundPut 0 { tag := some tag.toNat, pa := pa, len := len.val, via := regEpfWin k }
      else (s.peerRefused k off.toNat pa).epfOut (.completion tag.toNat len.val none))

/-- R490: a host write of bytes at BAR2 offset `off`. -/
def execPeerWindowWrite (off : BitVec 36) (data : List (BitVec 8)) (s : State) : Host.Outcome State Fault Refusal :=
  .next (if !s.peerOpen || s.epfContained || decide (s.mode = modeHalt) then s
    else
      let s := s.tlpIn 0 data.length
      let (k, pa, ok) := s.peerTarget off.toNat data.length
      if ok then s.inboundPut 0 { pa := pa, len := data.length, data := leNat data, via := regEpfWin k }
      else s.peerRefused k off.toNat pa)

end Sys2Proof.Machine
end

