-- ==== Sys2Proof/Machine/Home.lean ====
section
/-! DEFINITION. The home agents (07_coherence_protocol.md R229, R232, R235 to R245, R252 to R262, R288): the holders of a line,
the service of requests, snoop answers, recalls and the write journal. -/
namespace Sys2Proof.Machine
open Sys2Proof

/-! ## The presence table (R232) -/

def presKey (a : LineAddr) : Nat := a.toNat / 16
def presIx (a : LineAddr) : Nat := a.toNat % 16
def State.pres (s : State) (n : Nat) (a : LineAddr) : Presence := Tbl.get {} (s.home n).presence (presKey a)
def Presence.stAt (p : Presence) (j : Nat) : Nat := Tbl.get 0 p.st j
def Presence.ownerAt (p : Presence) (j : Nat) : Nat := Tbl.get 0 p.owner j
def Presence.dieList (p : Presence) : List Nat := (upTo 12).filter (fun d => p.dies.getLsbD d)
/-- The entry with line `j` in state `st`, and its owner die. -/
def Presence.put (p : Presence) (j st owner : Nat) : Presence :=
  { p with st := if st = 0 then Tbl.erase p.st j else Tbl.set p.st j st,
           owner := if st < 2 then Tbl.erase p.owner j else Tbl.set p.owner j owner }
def Presence.addDie (p : Presence) (d : Nat) : Presence := { p with dies := p.dies ||| BitVec.ofNat 12 (2 ^ d) }
def Presence.dropDie (p : Presence) (d : Nat) : Presence := { p with dies := p.dies &&& ~~~(BitVec.ofNat 12 (2 ^ d)) }

/-- The recalls of a replaced entry: SnpH to every die in its vector, for each of its lines (R232). -/
def presRecalls (region : Nat) (p : Presence) : List Recall :=
  (upTo 16).filterMap (fun j => if p.stAt j = 0 then none else
    some { line := BitVec.ofNat 46 (region * 16 + j), kind := .presRecall, dies := p.dieList,
           owner := if p.stAt j ≥ 2 then some (p.ownerAt j) else none })

/-- The lowest way of a set that none of its regions holds. -/
def Home.presWay (h : Home) (set : List Nat) : Nat :=
  ((upTo 16).find? (fun w => !set.any (fun x => decide ((Tbl.get {} h.presence x).way = w)))).getD 0

/-- Changes a line's entry. A new one takes a free way of its set, or replaces the oldest of its 16 ways (R232). -/
def State.modPres (s : State) (n : Nat) (a : LineAddr) (f : Presence → Presence) : State :=
  let k := presKey a
  s.modHome n (fun h =>
    let p := f (Tbl.get {} h.presence k)
    if p.st.isEmpty then { h with presence := Tbl.erase h.presence k, presOrder := h.presOrder.erase k }
    else if h.presOrder.contains k then { h with presence := Tbl.set h.presence k p }
    else
      let set := h.presOrder.filter (fun x => decide (x % 8192 = k % 8192))
      if set.length ≥ 16 then
        let old := set.getLast?.getD 0
        let e : Presence := Tbl.get {} h.presence old
        { h with presence := Tbl.set (Tbl.erase h.presence old) k { p with way := e.way }, presOrder := k :: h.presOrder.erase old,
                 recalls := h.recalls ++ presRecalls old e }
      else { h with presence := Tbl.set h.presence k { p with way := h.presWay set }, presOrder := k :: h.presOrder })

/-- HOM[n].LASTERR of an error at a line (R278). -/
def State.homLast (s : State) (n code : Nat) (a : LineAddr) : State :=
  s.setReg (regHomLasterr n) (BitVec.ofNat 64 (code * 2 ^ 48 + a.toNat))

/-- The entry of the line's region is read: a single error is corrected, an uncorrectable one is a UE-P and the request is not served
(R232, R281). -/
def State.presCheck (s : State) (n : Nat) (a : LineAddr) : State × Bool :=
  let p := s.pres n a
  let ps := [(homeAgentId s.pkgNum n).toNat, presKey a % 8192, p.way]
  match p.bad with
  | 0 => (s, true)
  | 1 => (((s.modPres n a (fun p => { p with bad := 0 })).homLast n 0x3071 a).ce 12 n 0x3071 0 ps, true)
  | _ => ((s.homLast n 0x5074 a).ueP 12 n 0x5074 0 ps, false)

/-! ## Holders (R252) -/

/-- The holders of a line other than one left out: the owner with its state (2 owned, 3 exclusive-or-modified), and sharers. -/
structure Holders where
  owner : Option Nat := none
  st : Nat := 0
  sharers : List Nat := []
  deriving DecidableEq, Repr

/-- The key of an engine whose armed monitor entry makes it a holder (R408). -/
def engineKey (e : Nat) : Nat := 200 + e
/-- Engines that hold the line in S through an armed monitor entry (R408). -/
def State.monitorKeys (s : State) (a : LineAddr) : List Nat :=
  (s.monitors.filter (fun m => decide (m.line = a) && m.armed)).map (fun m => engineKey m.engine)

/-- The holders at the home. The directory's view counts once the directory has been looked up. -/
def State.holders (s : State) (n : Nat) (a : LineAddr) (looked : Bool) (excl : Option Nat) : Holders :=
  let p := s.pres n a
  let lst := p.stAt (presIx a)
  let d : DirView := if looked then s.dirView n a else {}
  let owner := if lst ≥ 2 then some (p.ownerAt (presIx a)) else d.owner.map pkgKey
  let st := if lst ≥ 2 then lst else d.st
  let all := (if lst = 0 then [] else p.dieList) ++ d.sharers.map pkgKey ++ s.monitorKeys a
  { owner := if owner = excl then none else owner, st := if owner = excl ∨ owner = none then 1 else st,
    sharers := all.filter (fun k => some k ≠ excl && some k ≠ owner) }

/-- A holder that the home records: key `k` may hold the line, its bit of the region's or the entry's vector being set. -/
def State.holds (s : State) (n : Nat) (a : LineAddr) (k : Nat) : Bool :=
  if k < 12 then decide ((s.pres n a).stAt (presIx a) ≠ 0) && (s.pres n a).dies.getLsbD k
  else (s.dirView n a).sharers.contains (k - 64)

/-! ## What a line's transactions have left (R252, R287) -/

def State.lineRec (s : State) (n : Nat) (a : LineAddr) : LineRec := Tbl.get {} (s.home n).recs a.toNat
def State.modRec (s : State) (n : Nat) (a : LineAddr) (f : LineRec → LineRec) : State :=
  s.modHome n (fun h =>
    let r := f (Tbl.get {} h.recs a.toNat)
    { h with recs := if r.keys.isEmpty then Tbl.erase h.recs a.toNat else Tbl.set h.recs a.toNat r })

/-- Holder `k` was granted the line and still holds it: its region's or entry's vector alone does not tell (R252). -/
def State.stillHolds (s : State) (n : Nat) (a : LineAddr) (k : Nat) : Bool :=
  s.holds n a k && (s.lineRec n a).keys.contains k

/-- Another package holds the line. -/
def LineRec.away (r : LineRec) : Bool := r.keys.any (fun k => decide (64 ≤ k))
/-- Holder `k` holds the line no more. -/
def LineRec.drop (r : LineRec) (k : Nat) : LineRec :=
  let r' := { r with keys := r.keys.filter (· ≠ k) }
  { r' with st := if k < 64 then r'.st else if r'.away then satTo 1 r'.st else 0 }
/-- Holder `k` is beside those there are, in a state of the directory's encoding when it is a package. -/
def LineRec.add (r : LineRec) (k st : Nat) : LineRec :=
  { keys := if r.keys.contains k then r.keys else k :: r.keys, st := if k < 64 then r.st else if r.st < st then st else r.st }
/-- The recorded owner `k` now has state `st`. -/
def LineRec.become (r : LineRec) (k st : Nat) : LineRec :=
  if st = 0 then r.drop k else { (r.add k st) with st := if k < 64 then r.st else st }

/-- The strongest state of the other lines of a line's field (R287). -/
def State.fieldFloor (s : State) (a : LineAddr) (span : Nat) : Nat :=
  ((fieldLines s.pkgNum (dirKey a span) span (dirField a span)).filter (· ≠ a)).foldl (fun m x =>
    let v := (s.lineRec (s.chanOf (lineBase x)) x).st
    if m < v then v else m) 0

/-- A field of the entry takes the strongest of the line's new state and its neighbours' (R287). -/
def State.fieldSet (s : State) (n : Nat) (a : LineAddr) (v : Nat) (j : Nat) (e : DirEntry) : DirEntry :=
  let f := s.fieldFloor a (s.dirView n a).span
  e.setSt j (if v < f then f else v)

/-- Key `k` is recorded as owner of the line in state `st`. -/
def State.ownsAs (s : State) (n : Nat) (a : LineAddr) (k st : Nat) : Bool :=
  if k < 12 then decide ((s.pres n a).stAt (presIx a) = st ∧ (s.pres n a).ownerAt (presIx a) = k)
  else decide ((s.dirView n a).st = st ∧ (s.dirView n a).owner = some (k - 64))

/-! ## Transactions -/

def State.txnAt (s : State) (n : Nat) (a : LineAddr) : Option HTxn := (s.home n).txns.find? (fun t => decide (t.line = a))
def State.putTxn (s : State) (n : Nat) (t : HTxn) : State :=
  s.modHome n (fun h => { h with txns := t :: h.txns.filter (fun x => decide (x.line ≠ t.line)) })
def State.endHTxn (s : State) (n : Nat) (a : LineAddr) : State :=
  s.modHome n (fun h => { h with txns := h.txns.filter (fun x => decide (x.line ≠ a)) })

def State.homeCount (s : State) (n ev k : Nat) (r : Realm) : State := s.countUncore (slotHome n 0) 6 ev k (some r.toNat)

/-- A protocol violation at an agent, in row `row` of R254 (R281). -/
def State.homeErr (s : State) (n : Nat) (ty : MsgType) (row : Nat) (h : Hdr) : State :=
  (s.homLast n 0x5070 h.addr).protocolErr 12 n (homeAgentId s.pkgNum n) ty row h.addr h.realm

/-- The row of R254 in which a line stands. -/
def State.homeRow (s : State) (n : Nat) (a : LineAddr) : Nat := match s.txnAt n a with
  | none => 0
  | some t => match t.phase with
    | .ts => 1
    | .tw => 2
    | .ta => 3
    | .tr => 4

/-- The agent to which a snoop of holder `k` goes. -/
def State.snoopDst (s : State) (n k : Nat) : BitVec 16 :=
  if k < 12 then agentId s.pkgNum k 48 else if 200 ≤ k then agentId s.pkgNum 12 (k - 160) else homeAgentId (k - 64) n

/-- A snoop for a request, which its header names (log entry 19). -/
def State.snoop (s : State) (n : Nat) (ty : MsgType) (h : Hdr) (keepS : Bool) (k : Nat) : State :=
  (s.homeCount n 0x03 1 h.realm).send { type := ty, hdr := { h with dst := s.snoopDst n k, flags := { keepS := keepS }, grant := .I, cr := 0 } }

def State.snoopAll (s : State) (n : Nat) (ty : MsgType) (h : Hdr) : List Nat → State
  | [] => s
  | k :: l => (s.snoop n ty h false k).snoopAll n ty h l

/-- The DRAM port of a requester's accesses (R377). -/
def State.portOf (s : State) (h : Hdr) : Nat :=
  if agentPkg h.src ≠ s.pkgNum then 1
  else if agentDie h.src < 12 then 0
  else if 40 ≤ agentUnit h.src ∧ agentUnit h.src < 56 then 2
  else if agentUnit h.src < 16 then 1 else 3

/-- A response to the requester; one that ends its request returns a credit (R241). A journal write, which a home agent sends, takes
none. -/
def State.respond (s : State) (n : Nat) (ty : MsgType) (h : Hdr) (g : CState) (fl : Flags) (b : Body) : State :=
  let journal := decide (ty = .cmp ∧ agentDie h.src = 12 ∧ agentUnit h.src < 16)
  let final := decide (ty = .cmp ∨ ty = .wbAck ∨ ty = .atomRsp ∨ ty = .ucRsp) && !journal
  let pool := if ty = .wbAck then 1 else 0
  let s := if final then s.leavePool n pool (s.keyOf h.src) else s
  s.send { type := ty, hdr := { h with src := homeAgentId s.pkgNum n, dst := h.src, grant := g, flags := fl, pred := 0,
                                       cr := if final then 1 else 0 }, body := b }

/-- The requester keeps no copy: an engine, an endpoint or root port, a home's own write (R399, R400). -/
def State.keepsNone (s : State) (h : Hdr) : Bool := agentPkg h.src = s.pkgNum && agentDie h.src = 12

/-! ## The records of holders -/

/-- Line states of a package's part of the directory change; none where an allocation must wait. -/
def State.dirSet (s : State) (n : Nat) (a : LineAddr) (f : Nat → DirEntry → DirEntry) : Option State :=
  if s.newLayout.total = 0 ∧ (s.dirFind n a).isNone then some s else s.dirUpdate n a f

/-- No cache of the image holds the line any more. -/
def State.recordNone (s : State) (n : Nat) (a : LineAddr) : Option State :=
  let s := (s.modPres n a (fun p => p.put (presIx a) 0 0)).modRec n a (fun _ => {})
  if (s.dirView n a).st = 0 then some s else s.dirSet n a (s.fieldSet n a 0)

/-- Holder `k` is the only one, in E or M. -/
def State.recordOwner (s : State) (n : Nat) (a : LineAddr) (k : Nat) : Option State :=
  if k < 12 then
    (s.recordNone n a).map (fun s => (s.modPres n a (fun p => (p.put (presIx a) 3 k).addDie k)).modRec n a (fun _ => { keys := [k] }))
  else if k = 12 then s.recordNone n a
  else
    let s := (s.modPres n a (fun p => p.put (presIx a) 0 0)).modRec n a (fun _ => { keys := [k], st := 3 })
    s.dirSet n a (fun j e =>
      let e := e.setSt j 3
      { e with sharers := (if e.sharers = 0 ∨ (s.dirView n a).span > 0 then e.sharers else
                 if (upTo 16).all (fun i => i = j || decide (e.st i = 0)) then 0 else e.sharers) ||| BitVec.ofNat 32 (2 ^ (k - 64)),
               owner := k - 64 })

/-- Holder `k` is a sharer beside those recorded. -/
def State.recordSharer (s : State) (n : Nat) (a : LineAddr) (k : Nat) : Option State :=
  if k < 12 then
    some ((s.modPres n a (fun p => ((if p.stAt (presIx a) = 0 then p.put (presIx a) 1 0 else p).addDie k))).modRec n a (·.add k 1))
  else if k = 12 then some s
  else (s.modRec n a (·.add k 1)).dirSet n a (fun j e =>
    let e := if e.st j = 0 then e.setSt j 1 else e
    { e with sharers := e.sharers ||| BitVec.ofNat 32 (2 ^ (k - 64)) })

/-- The recorded owner `k` now has state `st` of the directory's encoding: 0 none, 1 shared, 2 owned. -/
def State.recordOwnerState (s : State) (n : Nat) (a : LineAddr) (k st : Nat) : Option State :=
  let s := s.modRec n a (·.become k st)
  if k < 12 then some (s.modPres n a (fun p => p.put (presIx a) st k))
  else s.dirSet n a (s.fieldSet n a st)

/-! ## The write journal (R259 to R261) -/

/-- The value of a line of this package as its own caches and memory have it. -/
def State.peekLine (s : State) (a : LineAddr) : Line :=
  match ((upTo 12).foldl (fun l d => l ++ s.dieCopies d a) []).find? Copy.dirty with
  | some p => p.data
  | none => s.plainLine (lineIx a) (s.pageKey (pageOfLine (lineIx a)))

/-- The 8-byte word at a local physical address. -/
def State.peekWord (s : State) (pa : Nat) : Word := BitVec.ofNat 64 (lineNat (s.peekLine (lineOf pa)) (pa % 64) 8)

/-- The address of the journal control block of a realm, while its journal is on (R259, R481). -/
def State.journalBlock (s : State) (r : Nat) : Option Nat :=
  if s.mode = modeRunI ∧ s.fld (regRlmTable0 r) 41 41 = 1 ∧ s.realmState r ≠ 4 then some (s.fld (regRlmTable1 r) 51 12 * 4096) else none

/-- The line holds WRITE words of the realm's journal control block (R260). -/
def State.isWriteLine (s : State) (r : Nat) (a : LineAddr) : Bool :=
  let w := s.fld (regRlmTable1 r) 51 12 * 4096 + 0x1000
  decide (w ≤ lineBase a ∧ lineBase a < w + 0x1000)

/-- A home offers a record to its lane: JrnWr goes to the home of the lane's WRITE word, in the realm's control block (R261). -/
def State.journal (s : State) (n : Nat) (h : Hdr) (kind : Nat) (overtake : Bool) : State :=
  match s.journalBlock h.realm.toNat with
  | none => s
  | some jcb =>
    let lane := s.pkgNum * 16 + n
    let rec' : Nat := h.stamp.toNat + (h.addr.toNat * 64 + kind) * 2 ^ 64 + h.rank.toNat * 2 ^ 128 + h.realm.toNat * 2 ^ 144 +
      b2n overtake * 2 ^ 160
    let wa := lineOf (jcb + 0x1000 + lane * 8)
    s.send { type := .jrnWr, hdr := { h with src := homeAgentId s.pkgNum n, dst := homeAgentId (linePkg wa) (s.chanOf (lineBase wa)),
                                             addr := wa, flags := {} }, body := .journal (BitVec.ofNat 256 rec') }

def State.laneAt (s : State) (n wAddr : Nat) : JrnLane :=
  (Tbl.find (s.home n).lanes wAddr).getD { next := (s.peekWord wAddr).toNat, done := (s.peekWord wAddr).toNat }
/-- A lane with nothing on its way is not kept. -/
def State.setLane (s : State) (n wAddr : Nat) (l : JrnLane) : State :=
  s.modHome n (fun h => { h with lanes := if l.out.isEmpty && decide (l.writes = 0) && decide (l.done = l.next) then Tbl.erase h.lanes wAddr
                                          else Tbl.set h.lanes wAddr l })

/-- A transaction number of the agent's own journal writes. -/
def State.jrnTid (s : State) (n : Nat) : State × BitVec 12 :=
  let tid := (s.home n).nextTid
  (s.modHome n (fun x => { x with nextTid := if tid + 1 = 0xfff then 0 else tid + 1 }), tid)

/-- The header of an agent's own journal write: its rank is that of R238. -/
def State.jrnHdr (s : State) (n : Nat) (a : LineAddr) (realm : Realm) (tid : BitVec 12) : Hdr :=
  { tid := tid, src := homeAgentId s.pkgNum n, dst := homeAgentId (linePkg a) (s.chanOf (lineBase a)), addr := a, stamp := s.clause,
    rank := BitVec.ofNat 16 (s.pkgNum * 2048 + 12 * 128 + 0x60 + n), realm := realm }

/-- The write of WRITE[i] that is now due, the records before it being visible: up to the first that is not (R261). -/
def State.laneWrite (s : State) (n wAddr : Nat) (realm : Realm) : State × Option HReq :=
  let l := s.laneAt n wAddr
  let v := l.out.head?.getD l.next
  if v ≤ l.done then (s.setLane n wAddr l, none)
  else
    let (s, tid) := s.jrnTid n
    let s := (s.setLane n wAddr { l with done := v, writes := l.writes + 1 }).modHome n (fun x => { x with jrnOut := x.jrnOut ++ [(tid, wAddr, none)] })
    (s, some { kind := .jrnWr, hdr := s.jrnHdr n (lineOf wAddr) realm tid,
               body := .bytes (putLine 0 (wAddr % 64) 8 v) (byteMask (wAddr % 64) 8) })

/-- R261 at the home of the WRITE word: the record takes the next sequence number, and JrnWr carries it to its slot's home; a full lane
only counts it. -/
def State.journalAppend (s : State) (n : Nat) (h : Hdr) (r : BitVec 256) : State × Option HReq :=
  let realm := h.realm.toNat
  let jcb := s.fld (regRlmTable1 realm) 51 12 * 4096
  if !s.ownOk realm (jcb % 2 ^ 47 / 4096) then
    (if s.jrnOff.contains realm then s
     else ({ s with jrnOff := realm :: s.jrnOff }).emit 12 n 0xE009 realm [jcb % 2 ^ 32, jcb / 2 ^ 32], none)
  else
    let shift := (s.peekWord (jcb + 8)).toNat
    if shift < 16 ∨ 30 < shift then (s, none)
    else
      let lane := agentPkg h.src * 16 + agentUnit h.src
      let wAddr := jcb + 0x1000 + lane * 8
      let l := s.laneAt n wAddr
      let read := (s.peekWord (jcb + 0x2000 + lane * 8)).toNat
      let cap := 2 ^ (shift - 5)
      if l.next - read ≥ cap then
        -- the record is not stored, and WRITE still advances
        let s := (s.setLane n wAddr { l with next := l.next + 1 }).modHome n (fun x => { x with jrnLost := Tbl.set x.jrnLost wAddr 1 })
        (s.emit 12 n 0xE070 realm [lane, 1, l.next % 2 ^ 32]).laneWrite n wAddr h.realm
      else
        let (s, tid) := s.jrnTid n
        let slot := (s.peekWord jcb).toNat + lane * 2 ^ shift + l.next % cap * 32
        let lost := (Tbl.find (s.home n).jrnLost wAddr).isSome
        let v := r.toNat + (if lost then 2 ^ 161 else 0) + l.next * 2 ^ 192
        let s := (s.setLane n wAddr { l with next := l.next + 1, out := l.out ++ [l.next] }).modHome n (fun x =>
          { x with jrnLost := Tbl.erase x.jrnLost wAddr, jrnOut := x.jrnOut ++ [(tid, wAddr, some l.next)] })
        (s.send { type := .jrnWr, hdr := s.jrnHdr n (lineOf slot) h.realm tid, body := .journal (BitVec.ofNat 256 v) }, none)

/-- A record for its slot, at the slot's home: a coherent write of its 32 bytes, even sequence numbers in the line's first half. -/
def journalStore (h : Hdr) (r : BitVec 256) : HReq :=
  let o := r.toNat / 2 ^ 192 % 2 * 32
  { kind := .jrnWr, hdr := h, body := .bytes (putLine 0 o 32 r.toNat) (byteMask o 32) }

/-- The Cmp of an agent's own journal write: a record is visible, and WRITE may advance; or WRITE has (R261). -/
def State.journalCmp (s : State) (n : Nat) (h : Hdr) : State × Option HReq :=
  let s := s.send { type := .cmpAck, hdr := { h with src := h.dst, dst := h.src, flags := {}, grant := .I, cr := 0 } }
  match (s.home n).jrnOut.find? (fun x => decide (x.1 = h.tid)) with
  | none => (s, none)
  | some (_, wAddr, seq) =>
    let s := s.modHome n (fun x => { x with jrnOut := x.jrnOut.filter (fun y => decide (y.1 ≠ h.tid)) })
    let l := s.laneAt n wAddr
    let l : JrnLane := match seq with
      | some k => { l with out := l.out.erase k }
      | none => { l with writes := l.writes - 1 }
    (s.setLane n wAddr l).laneWrite n wAddr h.realm

/-! ## Service (R252 to R255) -/

/-- A request that the ownership check refuses: no holder changes, nothing is read or written (R455). -/
def State.refuse (s : State) (n : Nat) (r : HReq) : State :=
  let h := r.hdr
  let s := s.refusalRecord 12 n h.src.toNat h.rank.toNat (pageOfLine (lineIx h.addr)) h.realm.toNat
  s.respond n (if r.kind = .atom then .atomRsp else .cmp) h .I { stale := true, lost := true } (if r.kind = .atom then .value 0 else .none)

/-- The home looks the directory up for this request before it looks for holders (R285). -/
def State.looksUp (s : State) (n : Nat) (r : HReq) : Bool :=
  let p := s.pres n r.hdr.addr
  let st := p.stAt (presIx r.hdr.addr)
  let hasDir := decide (s.newLayout.total ≠ 0) || decide ((s.home n).recallBuf ≠ [])
  hasDir && (decide (agentPkg r.hdr.src ≠ s.pkgNum) ||
    ((decide (r.kind = .upg ∨ r.kind = .rdZ ∨ r.kind = .atom ∨ r.kind = .cmo ∨ r.kind = .wrP ∨ r.kind = .jrnWr)) && decide (st ≠ 3)) ||
    -- a local RdX of a line that a local die owns in O: other packages may share it (log entry 20)
    (decide (r.kind = .rdX) && decide (st = 2)))

/-- The bytes a WrP writes cover the line. -/
def HReq.fullLine (r : HReq) : Bool := match r.body with
  | .bytes _ m => decide (m = BitVec.allOnes 64)
  | _ => false

/-- A request is admitted to service: its transaction begins, with the lookup or the memory read that must come first. -/
def State.beginTxn (s : State) (n : Nat) (r : HReq) : State :=
  let (s, ok) := s.presCheck n r.hdr.addr
  let s := s.homeCount n 0x01 1 r.hdr.realm
  let s := if agentPkg r.hdr.src ≠ s.pkgNum then s.homeCount n 0x02 1 r.hdr.realm else s
  let wb := decide (r.kind = .wbM ∨ r.kind = .evN)
  if !ok then s
  else if !wb && !s.admitsPage r.hdr.realm.toNat (pageOfLine (lineIx r.hdr.addr)) then s.refuse n r
  else
    let look := s.looksUp n r
    let st := (s.pres n r.hdr.addr).stAt (presIx r.hdr.addr)
    let localRead := agentPkg r.hdr.src = s.pkgNum && decide (r.kind = .rdS ∨ r.kind = .rdX) && decide (st < 2)
    let s := if look then s.homeCount n 0x07 1 r.hdr.realm else s
    s.putTxn n { line := r.hdr.addr, req := r, phase := .tw, dirWait := look, memWait := localRead, since := s.clause }

/-- Other lines of the region that package `o` owns, which R236 recalls before package `p` may own one. -/
def State.regionOwned (s : State) (n : Nat) (a : LineAddr) : List LineAddr :=
  match s.dirFind n a with
  | none => []
  | some (d, e) =>
    let sp := d.span
    let key := dirKey a sp
    (upTo 16).foldl (fun l j => if e.st j ≥ 2 then l ++ (fieldLines s.pkgNum key sp j).filter (· ≠ a) else l) []

/-- R236: the recalls a remote ownership request needs first. -/
def State.ownerRecalls (s : State) (n : Nat) (t : HTxn) : List Recall :=
  let p := agentPkg t.req.hdr.src
  if p ≠ s.pkgNum ∧ (t.req.kind = .rdX ∨ t.req.kind = .rdZ ∨ t.req.kind = .upg) then
    match (s.dirView n t.line).field with
    | some o => if o = p then [] else (s.regionOwned n t.line).map (fun a =>
        { line := a, kind := .ownerRecall, pkgs := [o], owner := some (pkgKey o), realm := t.req.hdr.realm })
    | none => []
  else []

/-- The SubFwd kept for a request (R254, R263). -/
def State.keptFor (s : State) (n : Nat) (h : Hdr) : Option SubFwdKept :=
  (s.home n).kept.find? (fun k => decide (k.line = h.addr ∧ k.tid = h.tid ∧ k.rank = h.rank))

/-- SubDone to the predicted package. -/
def State.sendSubDone (s : State) (n : Nat) (h : Hdr) (pkg : Nat) (apply : Bool) : State :=
  s.send { type := .subDone, hdr := { h with src := homeAgentId s.pkgNum n, dst := homeAgentId pkg n, flags := {}, cr := 0 },
           body := .flag apply }

/-- The kind under which a transaction is served: an Upg whose requester no longer holds the line is an RdX (R252), and a journal write
goes as a WrP. -/
def HTxn.asKind (t : HTxn) : MsgType :=
  if t.req.kind = .upg ∧ !t.upgHeld then .rdX else if t.req.kind = .jrnWr then .wrP else t.req.kind

/-- The home finds the holders and sends the snoops of R252. -/
def State.snoopHolders (s : State) (n : Nat) (t : HTxn) : State :=
  let h := t.req.hdr
  let a := t.line
  let me := s.keyOf h.src
  let t := { t with decided := true, upgHeld := s.stillHolds n a me, since := s.clause }
  let k := t.asKind
  let excl := if k = .rdS ∨ k = .rdX ∨ k = .upg ∨ k = .rdZ then some me else none
  let v := s.holders n a t.looked excl
  -- with a span above 1 a field's owner may stand beside sharers of its neighbours (log entry 21)
  let wide := decide (v.st = 2) || decide ((s.dirView n a).span > 0)
  let go (t : HTxn) (s : State) : State := s.putTxn n t
  match k, v.owner with
  | .rdS, some o => go { t with owner := some o, answers := 1 } (s.snoop n .snpS h false o)
  | .rdS, none => go { t with memWait := t.mem.isNone } s
  | .rdX, some o =>
    let sh := if wide then v.sharers else v.sharers.filter (fun x => decide (200 ≤ x))
    go { t with owner := some o, answers := 1 + sh.length } ((s.snoop n .snpX h false o).snoopAll n .snpI h sh)
  | .rdX, none => go { t with answers := v.sharers.length, memWait := t.mem.isNone } (s.snoopAll n .snpI h v.sharers)
  | .upg, some o =>
    -- with a span above 1 the owner may own a neighbour of the line only (R288)
    if v.st = 3 ∧ (s.dirView n a).span = 0 then (s.endHTxn n a).homeErr n .upg 2 h
    else go { t with answers := 1 + v.sharers.length, owner := some o } (s.snoopAll n .snpI h (o :: v.sharers))
  | .upg, none => go { t with answers := v.sharers.length } (s.snoopAll n .snpI h v.sharers)
  | .rdZ, some o => go { t with answers := 1 + v.sharers.length } (s.snoopAll n .snpI h (o :: v.sharers))
  | .rdZ, none => go { t with answers := v.sharers.length } (s.snoopAll n .snpI h v.sharers)
  | .cmo, some o => match t.req.body with
    | .cmo true => go { t with owner := some o, answers := 1 + v.sharers.length } ((s.snoop n .snpH h false o).snoopAll n .snpI h v.sharers)
    | _ => go { t with owner := some o, answers := 1 } (s.snoop n .snpC h false o)
  | .cmo, none => match t.req.body with
    | .cmo true => go { t with answers := v.sharers.length } (s.snoopAll n .snpI h v.sharers)
    | _ => go t s
  | _, some o => go { t with owner := some o, answers := 1 + v.sharers.length } ((s.snoop n .snpH h false o).snoopAll n .snpI h v.sharers)
  | _, none => go { t with answers := v.sharers.length, memWait := decide (k = .atom ∨ k = .wrP) && !t.req.fullLine }
      (s.snoopAll n .snpI h v.sharers)

/-- A confirmed subjunctive forward: the owner is not snooped, the sharers are (R263). -/
def State.confirmSub (s : State) (n : Nat) (t : HTxn) (x : SubFwdKept) : State :=
  let h := t.req.hdr
  let me := s.keyOf h.src
  let o := if x.pkg = s.pkgNum then (s.pres n t.line).ownerAt (presIx t.line) else pkgKey x.pkg
  let v := s.holders n t.line t.looked (some me)
  let sh := if t.req.kind = .rdX then v.sharers else []
  let st : CState := if t.req.kind = .rdX then .I else shareState x.st
  let s := s.sendSubDone n h x.pkg true
  (s.snoopAll n .snpI h sh).putTxn n { t with decided := true, conf := true, owner := some o, fwd := some (st, x.dirty),
                                              answers := sh.length, since := s.clause }

/-- A refuted one: Refute and SubDone RELEASE, and the request is served as non-subjunctive (R263). -/
def State.refuteSub (s : State) (n : Nat) (t : HTxn) (x : SubFwdKept) : State :=
  let s := (s.addFld (regHomCount1 n) 63 32 1).homeCount n 0x09 1 t.req.hdr.realm
  ((s.respond n .refute t.req.hdr .I {} .none).sendSubDone n t.req.hdr x.pkg false).snoopHolders n t

/-- The predicted package owns the line as the home records it. -/
def State.predOwns (s : State) (n : Nat) (a : LineAddr) (pkg : Nat) : Bool :=
  if pkg = s.pkgNum then decide ((s.pres n a).stAt (presIx a) ≥ 2) else decide ((s.dirView n a).owner = some pkg)

/-- The transaction's holders are decided, after the region recalls and the SubFwd it must wait for. -/
def State.decideTxn (s : State) (n : Nat) (t : HTxn) : State :=
  let h := t.req.hdr
  match s.ownerRecalls n t with
  | r :: rs =>
    let s := s.addFld (regHomCount1 n) 31 0 1
    (s.queueRecalls (r :: rs)).putTxn n
      { t with phase := .tr, recalls := (r :: rs).map (fun y => y.line), since := s.clause }
  | [] =>
    if h.flags.subj ∧ s.fld (regHomStatus n) 1 0 = 2 ∧ (t.req.kind = .rdS ∨ t.req.kind = .rdX) then
      match s.keptFor n h with
      | none => s.putTxn n { t with phase := .ts, since := s.clause }
      | some x =>
        let s := s.modHome n (fun y => { y with kept := y.kept.erase x })
        let t := { t with phase := HPhase.tw }
        if !x.forwarded then s.snoopHolders n t
        else if s.predOwns n t.line x.pkg && !x.broken then s.confirmSub n t x
        else s.refuteSub n t x
    else s.snoopHolders n t

/-- Whether another package still holds the line, so that its away bit must be 1 (R285). -/
def State.heldAway (s : State) (n : Nat) (a : LineAddr) : Bool := decide ((s.dirView n a).st ≠ 0)

/-- A line left with another package has its away bit 1: where the bit may be 0, the controller reads the line and writes it back with
1 (R285). A line without valid check symbols yet is not read: its first write is to be a full-line one (R385, log entry 90). -/
def State.markAway (s : State) (n : Nat) (h : Hdr) : State :=
  let a := lineIx h.addr
  if !s.heldAway n h.addr || s.isAway a then s
  else if !s.isWritten a then s.setAway a true
  else match s.dramRead n (s.portOf h) a 0 .clean with
    | (s, some d) => s.dramWrite n (s.portOf h) h.realm.toNat a d true
    | (s, none) => s

/-- The home writes a line, with the away bit that R285 gives. -/
def State.homeWrite (s : State) (n : Nat) (t : HTxn) (d : Line) (away : Bool) : State :=
  s.dramWrite n (s.portOf t.req.hdr) t.req.hdr.realm.toNat (lineIx t.line) d away

/-- Cmp, and the wait for CmpAck (R254). -/
def State.sendCmp (s : State) (n : Nat) (t : HTxn) (g : CState) (fl : Flags) : State :=
  (s.respond n .cmp t.req.hdr g fl .none).putTxn n { t with phase := .ta, since := s.clause }

/-- The data a request still needs from memory: a read whose owner gave none, an atomic or partial write without SnpData. -/
def HTxn.needsMem (t : HTxn) : Bool :=
  let k := t.asKind
  t.mem.isNone && ((decide (k = .rdS ∨ k = .rdX) && t.fwd.isNone) ||
    (decide (k = .atom ∨ k = .wrP) && t.wdata.isNone && !t.req.fullLine))

/-- The owner that gave neither data nor a forward is a sharer with KEEP_S and holds nothing otherwise (R691). -/
def State.applyNoOwner (s : State) (n : Nat) (t : HTxn) : Option State :=
  match t.owner, t.noOwner with
  | some o, some kept => s.recordOwnerState n t.line o (if kept then 1 else
      (if o < 12 then (if (s.pres n t.line).stAt (presIx t.line) = 2 then 1 else 0)
       else if (s.dirView n t.line).st = 2 then 1 else 0))
  | _, _ => some s

def ownerField (st : CState) : Nat := match st with
  | .O => 2
  | .S => 1
  | .I => 0
  | _ => 3

/-- An engine's read of a line that it monitors arms its entry (R409). -/
def State.armMonitor (s : State) (h : Hdr) : State :=
  if s.keepsNone h ∧ 40 ≤ agentUnit h.src ∧ agentUnit h.src < 56 then
    { s with monitors := s.monitors.map (fun (m : Monitor) =>
      if m.line = h.addr ∧ m.engine = agentUnit h.src - 40 then { m with armed := true } else m) }
  else s

/-- RdS completes (R252). -/
def State.finishRdS (s : State) (n : Nat) (t : HTxn) : Option State :=
  let h := t.req.hdr
  let me := s.keyOf h.src
  match t.fwd, t.owner with
  | some (st, _), some o =>
    (s.recordOwnerState n t.line o (ownerField st)).bind (fun s => (s.recordSharer n t.line me).map (fun s =>
      ((s.armMonitor h).markAway n h).sendCmp n t (if s.keepsNone h then .I else .S) { conf := t.conf }))
  | _, _ =>
    (s.applyNoOwner n t).bind (fun s =>
      let v := s.holders n t.line true (some me)
      let field := (s.dirView n t.line).field
      let alone := v.owner.isNone && v.sharers.isEmpty &&
        (decide (me < 64) || decide (field = none ∨ field = some (me - 64)))
      let g : CState := if s.keepsNone h then .I else if alone then .E else .S
      ((if alone then s.recordOwner n t.line me else s.recordSharer n t.line me).map (fun s =>
        (((s.armMonitor h).respond n .data h g {} (.line (t.mem.getD 0))).markAway n h).sendCmp n t g {})))

/-- A grant of E or M completes: holders and the journal (R252, R259). -/
def State.finishOwn (s : State) (n : Nat) (t : HTxn) (g : CState) (data : Option Line) : Option State :=
  let h := t.req.hdr
  (s.recordOwner n t.line (s.keyOf h.src)).map (fun s =>
    let s := match data with
      | some d => s.respond n .data h g {} (.line d)
      | none => s
    ((s.markAway n h).journal n h 1 t.req.overtake).sendCmp n t g { conf := t.conf })

def State.finishRdX (s : State) (n : Nat) (t : HTxn) : Option State :=
  match t.fwd with
  | some (_, dirty) => s.finishOwn n t (if dirty then .M else .E) none
  | none => (s.applyNoOwner n t).bind (fun s => s.finishOwn n t .E (some (t.mem.getD 0)))

/-- Upg: M when the requester or the owner held O, else E (R252). -/
def State.finishUpg (s : State) (n : Nat) (t : HTxn) : Option State :=
  s.finishOwn n t (if s.ownsAs n t.line (s.keyOf t.req.hdr.src) 2 || t.owner.isSome then .M else .E) none

/-- A far atomic is performed on the one current value (R255). -/
def State.finishAtom (s : State) (n : Nat) (t : HTxn) (args : AtomArgs) : Option State :=
  let old := (t.wdata.orElse (fun _ => t.mem)).getD 0
  let (new, v) := atomPerform args old
  (s.recordNone n t.line).map (fun s =>
    let s := (s.homeWrite n t new (s.heldAway n t.line)).homeCount n 0x0A 1 t.req.hdr.realm
    ((s.journal n t.req.hdr 2 t.req.overtake).respond n .atomRsp t.req.hdr .I {} (.value v)).endHTxn n t.line)

def State.finishWrP (s : State) (n : Nat) (t : HTxn) (d : Line) (m : BitVec 64) : Option State :=
  let old := (t.wdata.orElse (fun _ => t.mem)).getD 0
  (s.recordNone n t.line).map (fun s =>
    let s := s.homeWrite n t (mergeLine old d m) (!t.req.fullLine && s.heldAway n t.line)
    (if t.req.kind = .wrP then s.journal n t.req.hdr 3 t.req.overtake else s).sendCmp n t .I {})

/-- Cmo: the owner's data is written; CLINV leaves no copy, CLEAN a clean one (R252, R691). -/
def State.finishCmo (s : State) (n : Nat) (t : HTxn) (inv : Bool) : Option State :=
  let s1 : Option State :=
    if inv then s.recordNone n t.line
    else match t.owner, t.noOwner with
      | some o, none => if t.wdata.isSome ∧ s.ownsAs n t.line o 2 then s.recordOwnerState n t.line o 1 else some s
      | _, some _ => s.applyNoOwner n t
      | _, _ => some s
  s1.map (fun s =>
    let s := match t.wdata with
      | some d => s.homeWrite n t d (s.heldAway n t.line)
      | none => s
    s.sendCmp n t .I {})

/-- The writer `k` of a line in `st` leaves it, or stays a sharer with KEEP_S (R253, R286). Of a package, a line in 10b becomes 01b, and
its bit stays while the vector serves another line of the entry. -/
def State.removeWriter (s : State) (n : Nat) (a : LineAddr) (k st : Nat) (keepS : Bool) : Option State :=
  let s := s.modRec n a (fun r => if keepS then r.become k 1 else r.drop k)
  let j := presIx a
  if k < 12 then
    let others := (s.lineRec n a).keys.any (fun x => decide (x < 12)) || (decide (st = 2) && ((s.pres n a).dropDie k).dies ≠ 0)
    some (s.modPres n a (fun p =>
      let alone := (upTo 16).all (fun i => i = j || decide (p.stAt i = 0))
      let p := if alone && !keepS then p.dropDie k else p
      p.put j (if keepS || others then 1 else 0) 0))
  else
    s.dirSet n a (fun f e =>
      let e := s.fieldSet n a (if keepS ∨ st = 2 then 1 else 0) f e
      let alone := (upTo 16).all (fun i => i = f || decide (e.st i = 0)) && decide (s.fieldFloor a (s.dirView n a).span = 0)
      if keepS || !alone then e
      else
        let e := { e with sharers := e.sharers &&& ~~~(BitVec.ofNat 32 (2 ^ (k - 64))) }
        if e.sharers = 0 then e.setSt f 0 else e)

/-- A sharer `k` leaves the line (R253, R286): the vectors are kept while they serve another line. -/
def State.removeSharer (s : State) (n : Nat) (a : LineAddr) (k : Nat) : Option State :=
  let s := s.modRec n a (·.drop k)
  let j := presIx a
  if k < 12 then
    some (s.modPres n a (fun p =>
      if (upTo 16).all (fun i => i = j || decide (p.stAt i = 0)) then
        (let p := p.dropDie k; if p.dies = 0 then p.put j 0 0 else p)
      else p))
  else match s.dirFind n a with
    | none => some s
    | some (d, e) =>
      let f := dirField a d.span
      -- no field of the entry changes while another line of it is held
      if !(upTo 16).all (fun i => i = f || decide (e.st i = 0)) || decide (s.fieldFloor a d.span ≠ 0) then some s
      else s.dirSet n a (fun f e =>
        let e := { e with sharers := e.sharers &&& ~~~(BitVec.ofNat 32 (2 ^ (k - 64))) }
        if e.sharers = 0 then e.setSt f 0 else e)

/-- R253. -/
def State.finishWb (s : State) (n : Nat) (t : HTxn) : Option State :=
  let h := t.req.hdr
  let me := s.keyOf h.src
  let done (stale : Bool) (s : State) : State := (s.respond n .wbAck h .I { stale := stale } .none).endHTxn n t.line
  let owned := if s.ownsAs n t.line me 3 then 3 else if s.ownsAs n t.line me 2 then 2 else 0
  match t.req.kind, t.req.body with
  | .wbM, .line d =>
    if owned = 0 then some (done true s)
    else (s.removeWriter n t.line me owned h.flags.keepS).map (fun s =>
      let away := if me < 12 then decide (owned = 2) else s.heldAway n t.line
      done false (s.homeWrite n t d away))
  | _, _ =>
    if owned ≠ 0 then (s.removeWriter n t.line me owned (h.flags.lost && h.flags.keepS)).map (done false)
    else if s.holds n t.line me then (s.removeSharer n t.line me).map (done false)
    else some (done true s)

/-- The home ends a request once every answer and read it waits for has come. None while a directory allocation must wait. -/
def State.finishTxn (s : State) (n : Nat) (t : HTxn) : Option State :=
  if t.req.kind = .wbM ∨ t.req.kind = .evN then s.finishWb n t
  else if t.lost then
    -- the data is lost, and the realm's reset is under way (R249, R391)
    let s1 : Option State := match t.owner with
      | some o => s.recordOwnerState n t.line o 0
      | none => some s
    s1.map (fun s =>
      if t.req.kind = .atom then (s.respond n .atomRsp t.req.hdr .I { lost := true } (.value 0)).endHTxn n t.line
      else s.sendCmp n t .I { lost := true })
  else match t.asKind, t.req.body with
    | .rdS, _ => s.finishRdS n t
    | .rdX, _ => s.finishRdX n t
    | .upg, _ => s.finishUpg n t
    | .rdZ, _ => s.finishOwn n t .E none
    | .atom, .atom args => s.finishAtom n t args
    | .wrP, .bytes d m => s.finishWrP n t d m
    | .cmo, .cmo inv => s.finishCmo n t inv
    | _, _ => some (s.endHTxn n t.line)

/-! ## Recalls (R232, R236, R296, R459) -/

/-- The recalled line's records after its answers. -/
def State.finishRecall (s : State) (n : Nat) (t : HTxn) : State :=
  let s := match t.wdata with
    | some d => if t.kind = TxnKind.pageRecall then s else s.homeWrite n t d (decide (t.kind = TxnKind.ownerRecall) || s.heldAway n t.line)
    | none => s
  let s := match t.kind with
    | .ownerRecall =>
      let s := s.modRec n t.line (fun r => { r with st := satTo 1 r.st })
      s.dirStay n t.line (fun j e => if e.st j ≥ 2 then s.fieldSet n t.line 1 j e else e)
    | .dirRecall => (s.modRec n t.line (fun r => { st := 0, keys := r.keys.filter (fun k => decide (k < 64)) })).recalled t.line
    | .presRecall => s.modRec n t.line (fun r => { r with keys := r.keys.filter (fun k => decide (64 ≤ k)) })
    | .pageRecall => (s.recordNone n t.line).getD s
    | _ => s
  let s := s.endHTxn n t.line
  -- requests in TR that waited for this recall go on
  { s with homes := Tbl.map (fun (h : Home) => { h with txns := h.txns.map (fun (x : HTxn) =>
    if x.recalls.contains t.line then
      (let l := x.recalls.erase t.line
       let ph : HPhase := if l.isEmpty then .tw else x.phase
       { x with recalls := l, phase := ph })
    else x) }) s.homes }

/-- The realm that a copy of the line on a die of this package was filled for. -/
def State.fillRealmOf (s : State) (a : LineAddr) (dies : List Nat) : Realm :=
  (dies.findSome? (fun d =>
    ((s.die d).l3Find a).map (fun v => v.2.realm) <|> ((s.die d).sfFind a).bind (fun e => e.cores.findSome? (fun o =>
      let k := s.core (d * 20 + o)
      (k.l2Find a).map (fun v => v.2.realm) <|> (k.ebFind a).map (fun v => v.realm))))).getD 0

/-- A recall begins on an idle line: SnpH to the owner, SnpI to the sharers (R236, R296); SnpH to every holder for a replaced
presence entry and a page command (R232, R459). -/
def State.startRecall (s : State) (n : Nat) (r : Recall) : State :=
  let realm := if r.kind = .presRecall then s.fillRealmOf r.line r.dies else r.realm
  let h : Hdr := { src := homeAgentId s.pkgNum n, addr := r.line, stamp := s.clause, realm := realm,
                   rank := BitVec.ofNat 16 (s.pkgNum * 2048 + 12 * 128 + 0x60 + n) }
  let req : HReq := { kind := .snpH, hdr := h }
  let t : HTxn := { line := r.line, kind := r.kind, req := req, phase := .tr, looked := true, decided := true, since := s.clause }
  match r.kind with
  | .ownerRecall => match r.owner with
    | some o => (s.snoop n .snpH h true o).putTxn n { t with owner := some o, answers := 1 }
    | none => s
  | .dirRecall =>
    let v := s.dirView n r.line
    let o := v.owner.map pkgKey
    let sh := (v.sharers.map pkgKey).filter (fun k => some k ≠ o)
    let s := match o with
      | some k => s.snoop n .snpH h false k
      | none => s
    (s.snoopAll n .snpI h sh).putTxn n { t with owner := o, answers := b2n o.isSome + sh.length }
  | .pageRecall =>
    let v := s.holders n r.line true none
    let all := v.sharers ++ v.owner.toList
    (s.snoopAll n .snpH h all).putTxn n { t with owner := v.owner, answers := all.length }
  | _ => (s.snoopAll n .snpH h r.dies).putTxn n { t with owner := r.owner, answers := r.dies.length }

/-! ## The proxy (R230, R231, R692) -/

/-- RdSub to the predicted package, for a subjunctive request of a die of this package (R263). -/
def State.sendRdSub (s : State) (n : Nat) (ty : MsgType) (h : Hdr) : State :=
  if h.flags.subj ∧ agentPkg h.src = s.pkgNum then
    s.send { type := .rdSub, hdr := { h with dst := homeAgentId h.pred.toNat n, grant := if ty = .rdX then .M else .S, flags := {} } }
  else s

/-- A proxy forwards a request to the home, with RdSub to the predicted package for a subjunctive one (R230, R263). -/
def State.forwardReq (s : State) (n : Nat) (ty : MsgType) (h : Hdr) (b : Body) : State :=
  (s.sendHome n { type := ty, hdr := { h with dst := homeAgentId (linePkg h.addr) n }, body := b }).sendRdSub n ty h

/-- WbM and EvN at a proxy (R230): the presence table changes, and the home hears when no other die holds the line. -/
def State.proxyWb (s : State) (n : Nat) (r : HReq) : State :=
  let h := r.hdr
  let a := h.addr
  let d := s.keyOf h.src
  let p := s.pres n a
  let j := presIx a
  let st := p.stAt j
  let others := decide ((p.dropDie d).dies ≠ 0)
  let owns := decide (st ≥ 2 ∧ p.ownerAt j = d)
  -- other copies stay: the die's own in S, those of other dies, or the copy of another owner
  let keep := decide (st ≠ 0) && (h.flags.keepS || (others && (decide (st ≠ 3) || !owns)))
  let left (s : State) : State := if st ≥ 2 ∧ !owns then s else s.modPres n a (fun p => p.put j (if keep then 1 else 0) 0)
  if r.kind = .wbM then
    if st ≥ 2 ∧ !owns then s.respond n .wbAck h .I { stale := true } .none
    else (left s).forwardReq n .wbM { h with flags := { h.flags with keepS := keep } } r.body
  else if h.flags.lost then (left s).forwardReq n .evN { h with flags := { h.flags with keepS := keep } } .none
  else if owns then (s.modPres n a (fun p => p.put j 0 0)).forwardReq n .evN h .none
  else if st ≠ 0 ∧ others then
    (s.modPres n a (fun p => if (upTo 16).all (fun i => i = j || decide (p.stAt i = 0)) then p.dropDie d else p)).respond n .wbAck h .I {} .none
  else (s.modPres n a (fun p => p.put j 0 0)).forwardReq n .evN h .none

/-- A proxy begins a request of its package on a line with nothing in progress (R230, R692). -/
def State.proxyBegin (s : State) (n : Nat) (r : HReq) : State :=
  let h := r.hdr
  let a := h.addr
  let (s, ok) := s.presCheck n a
  let p := s.pres n a
  let j := presIx a
  let st := p.stAt j
  let o := p.ownerAt j
  let other := decide (st ≥ 2 ∧ o ≠ s.keyOf h.src)
  let t : HTxn := { line := a, kind := .proxyServe, req := r, phase := .tw, decided := true, answers := 1, owner := some o, since := s.clause }
  if !ok then s
  else if r.kind = .wbM ∨ r.kind = .evN then s.proxyWb n r
  else if (s.home n).frozen.contains a || !other then s.forwardReq n r.kind h r.body
  else match r.kind with
    | .rdS => (s.snoop n .snpS h false o).putTxn n t
    | .rdX => (s.snoop n .snpX h false o).putTxn n t
    | .rdZ => (s.snoop n (if st = 3 then .snpX else .snpI) h false o).putTxn n t
    | .upg => if st = 3 then (s.snoop n .snpX h false o).putTxn n t else s.forwardReq n r.kind h r.body
    | _ => s.forwardReq n r.kind h r.body

/-- A package-local service has its answer (R230, R692). -/
def State.proxyServed (s : State) (n : Nat) (t : HTxn) : State :=
  let h := t.req.hdr
  let a := t.line
  let me := s.keyOf h.src
  let st := (s.pres n a).stAt (presIx a)
  let forwardAs (ty : MsgType) (s : State) : State := (s.endHTxn n a).forwardReq n ty h t.req.body
  if t.lost then s.sendCmp n t .I { lost := true }
  else match t.fwd with
  | some (new, dirty) =>
    if t.req.kind = .rdS then
      (s.modPres n a (fun p => (p.put (presIx a) (ownerField new) (p.ownerAt (presIx a))).addDie me)).sendCmp n t .S {}
    else if st = 3 then
      (s.modPres n a (fun p => (p.put (presIx a) 3 me).addDie me)).sendCmp n t (if dirty then .M else .E) {}
    else
      -- the package held O: Upg goes to the home in place of the request
      forwardAs .upg (s.modHome n (fun x => { x with moved := if dirty then a :: x.moved else x.moved }))
  | none =>
    if t.req.kind = .rdZ ∧ st = 2 ∧ t.held then forwardAs .upg s
    else
      -- the owner's copy has left: the package no longer holds the line
      forwardAs t.req.kind (s.modPres n a (fun p => p.put (presIx a) (if t.kept then 1 else 0) 0))

/-- A proxy's answer to the home (R251). -/
def State.proxyReply (s : State) (n : Nat) (h : Hdr) (ty : MsgType) (fl : Flags) (b : Body) : State :=
  s.send { type := ty, hdr := { h with src := homeAgentId s.pkgNum n, dst := homeAgentId (linePkg h.addr) n, flags := fl, grant := .I }, body := b }

/-- The combined answer, and the presence entry after the snoop (R251). -/
def State.proxyCombine (s : State) (n : Nat) (t : HTxn) : State :=
  let h := t.req.hdr
  let a := t.line
  let j := presIx a
  let p := s.pres n a
  let fl : Flags := { wbp := t.wbp, broken := t.broken }
  let s := match t.fwd, t.wdata with
    | some (st, dirty), _ => s.proxyReply n h .fwdAck { fl with dirty := dirty, lost := t.lost } (.state st)
    | none, some d => s.proxyReply n h .snpData { fl with dirty := true } (.line d)
    | none, none =>
      if t.lost then s.proxyReply n h .snpData { fl with lost := true } .none
      else if t.held then s.proxyReply n h .snpAck { fl with keepS := t.kept } .none
      else s.proxyReply n h .snpNone {} .none
  let st : Nat := match t.req.kind with
    | .snpS => (match t.fwd with
      | some (x, _) => ownerField x
      | none => if t.kept then 1 else 0)
    | .snpC => if t.wdata.isSome then (if p.stAt j = 2 then 1 else p.stAt j) else if t.kept then 1 else if t.held then p.stAt j else 0
    | .snpH => if h.flags.keepS && t.held then 1 else 0
    | _ => 0
  s.modPres n a (fun p => p.put j st (p.ownerAt j))

/-- The snoops of the home that a transaction of the line held are applied in order: the first begins, the rest go on waiting. -/
def State.proxySnoop (s : State) (n : Nat) (m : Msg) (rest : List Msg) : State :=
  let h := m.hdr
  let a := h.addr
  let (s, ok) := s.presCheck n a
  if !ok then s else
  let p := s.pres n a
  let st := p.stAt (presIx a)
  let o := p.ownerAt (presIx a)
  let dies := if st = 0 then [] else p.dieList
  let t : HTxn := { line := a, kind := .proxySnoop, req := { kind := m.type, hdr := h }, phase := .tw, decided := true,
                    since := s.clause, heldSnoops := rest }
  match m.type with
  | .snpS | .snpC =>
    if st ≥ 2 then (s.snoop n m.type h false o).putTxn n { t with answers := 1, owner := some o }
    else s.putTxn n { t with held := decide (st = 1), kept := decide (st = 1) }
  | .snpX =>
    if st ≥ 2 then ((s.snoop n .snpX h false o).snoopAll n .snpI h (dies.filter (· ≠ o))).putTxn n
      { t with answers := 1 + (dies.filter (· ≠ o)).length, owner := some o }
    else (s.snoopAll n .snpI h dies).putTxn n { t with answers := dies.length }
  | .snpH =>
    let rec' (s : State) (d : Nat) : State := s.snoop n .snpH h h.flags.keepS d
    (dies.foldl rec' s).putTxn n { t with answers := dies.length, owner := if st ≥ 2 then some o else none }
  | _ => (s.snoopAll n .snpI h dies).putTxn n { t with answers := dies.length }

/-- A proxy's transaction that has its answers ends, and the snoops it held follow. -/
def State.proxyStep (s : State) (n : Nat) (a : LineAddr) : Nat → State
  | 0 => s
  | k + 1 => match s.txnAt n a with
    | none => s
    | some t =>
      if t.answers > 0 ∨ t.phase ≠ .tw then s
      else if t.kind = .proxyServe then
        let s := s.proxyServed n t
        -- a service that became a request to the home lets the held snoops go on
        (match (s.txnAt n a), t.heldSnoops with
         | none, m :: rest => (s.proxySnoop n m rest).proxyStep n a k
         | _, _ => s)
      else if t.kind = .proxySnoop then
        let s := (s.proxyCombine n t).endHTxn n a
        (match t.heldSnoops with
         | m :: rest => (s.proxySnoop n m rest).proxyStep n a k
         | [] => s)
      else s

/-- The recall of a replaced presence entry of a foreign line ends in a writeback or notice to its home (R232). -/
def State.proxyRecalled (s : State) (n : Nat) (t : HTxn) : State :=
  let tid := (s.home n).nextTid
  let s := s.modHome n (fun h => { h with nextTid := tid + 1 })
  let h : Hdr := { tid := tid, src := homeAgentId s.pkgNum n, dst := homeAgentId (linePkg t.line) n, addr := t.line, stamp := s.clause,
                   rank := BitVec.ofNat 16 (s.pkgNum * 2048 + 12 * 128 + 0x60 + n), realm := t.req.hdr.realm }
  match t.wdata with
  | some d => s.sendHome n { type := .wbM, hdr := h, body := .line d }
  | none => s.sendHome n { type := .evN, hdr := { h with flags := { lost := t.lost } } }

/-! ## Going on -/

/-- The transaction still waits for an answer, a lookup, a memory read, a SubFwd, a CmpAck or a recall. -/
def HTxn.waits (t : HTxn) : Bool :=
  decide (t.phase ≠ .tw ∧ !(t.phase = .tr ∧ t.kind ≠ .request)) || decide (t.answers > 0) || t.dirWait || t.memWait

/-- A request's transaction goes as far as it can: a lookup for an away line, the holders, memory, the end (R252, R285). -/
def State.finishStep (s : State) (n : Nat) (a : LineAddr) : State :=
  match s.txnAt n a with
  | none => s
  | some t =>
    if t.waits || !t.decided then s
    else if t.kind = .request then
      if t.needsMem && !t.lost then s.putTxn n { t with memWait := true }
      else if !t.looked && t.mem.isSome && s.isAway (lineIx a) && decide (s.newLayout.total ≠ 0) && !t.lost then
        -- an owner of this package answered without data, and the line read from memory has its away bit 1 (R285, R691)
        (s.homeCount n 0x07 1 t.req.hdr.realm).putTxn n { t with dirWait := true }
      else match s.finishTxn n t with
        | some s => s
          | none => s.putTxn n { t with dirWait := true }
    else if linePkg a ≠ s.pkgNum then (s.endHTxn n a).proxyRecalled n t
    else s.finishRecall n t

def State.advance (s : State) (n : Nat) (a : LineAddr) : State :=
  match s.txnAt n a with
  | none => s
  | some t =>
    if t.waits || t.kind = .proxyServe || t.kind = .proxySnoop then s
    else if t.decided then s.finishStep n a
    else if t.req.kind = .wbM ∨ t.req.kind = .evN ∨ t.lost then (s.putTxn n { t with decided := true }).finishStep n a
    else if !t.looked && t.mem.isSome && s.isAway (lineIx a) && decide (s.newLayout.total ≠ 0) then
      -- a local read found the away bit 1 (R285)
      (s.homeCount n 0x07 1 t.req.hdr.realm).putTxn n { t with dirWait := true }
    else (s.decideTxn n t).finishStep n a

/-- `a` comes before `b` in stamp, then rank (R256). -/
def reqBefore (a b : HReq) : Bool :=
  decide (a.hdr.stamp.toNat < b.hdr.stamp.toNat) || (decide (a.hdr.stamp = b.hdr.stamp) && decide (a.hdr.rank.toNat < b.hdr.rank.toNat))

def lowestReq : List HReq → Option HReq
  | [] => none
  | r :: l => match lowestReq l with
    | none => some r
    | some x => if reqBefore x r then some x else some r

/-- The held request that an idle line serves now (R256, R262). -/
def State.nextReq (s : State) (n : Nat) (a : LineAddr) : Option HReq :=
  let l := (s.home n).held.filter (fun r => decide (r.hdr.addr = a))
  if s.fld (regHomStatus n) 1 0 = 1 ∧ linePkg a = s.pkgNum then
    -- the lowest in stamp and rank, once its settle point has come; before that the lead, once its lead point has come
    match (lowestReq l).filter (fun r => decide (r.settleAt.toNat ≤ s.clause.toNat)) with
    | some r => some r
    | none => l.find? (fun r => r.lead && decide (r.leadAt.toNat ≤ s.clause.toNat))
  else l.head?

/-- Every line of an evicted entry is held until the entry has left the recall buffer (R296). -/
def State.recallHeld (s : State) (n : Nat) (a : LineAddr) : Bool := (s.recallAt n a).isSome

/-- The highest stamp and rank served on a line is kept (R256 step 4). -/
def State.noteServed (s : State) (n : Nat) (r : HReq) : State :=
  s.modHome n (fun h =>
    let k := r.hdr.addr.toNat
    let newer := match Tbl.find h.served k with
      | some (st, rk) => decide (st.toNat < r.hdr.stamp.toNat) || (decide (st = r.hdr.stamp) && decide (rk.toNat ≤ r.hdr.rank.toNat))
      | none => true
    if newer then { h with served := Tbl.set h.served k (r.hdr.stamp, r.hdr.rank) } else h)

/-- An idle line starts its recalls and serves its held requests, as many as end at once. -/
def State.serveLine (s : State) (n : Nat) (a : LineAddr) : Nat → State
  | 0 => s
  | k + 1 =>
    if (s.txnAt n a).isSome then s
    else match (s.home n).recalls.find? (fun r => decide (r.line = a)) with
      | some r => (((s.modHome n (fun h => { h with recalls := h.recalls.erase r })).startRecall n r).advance n a).serveLine n a k
      | none =>
        if s.recallHeld n a then s
        else match s.nextReq n a with
          | none => s
          | some r =>
            let s := (s.modHome n (fun h => { h with held := h.held.erase r })).noteServed n r
            let s := if r.overtake && decide (linePkg a = s.pkgNum) then (s.addFld (regHomCount0 n) 31 0 1).homeCount n 0x05 1 r.hdr.realm else s
            (if linePkg a = s.pkgNum then (s.beginTxn n r).advance n a else s.proxyBegin n r).serveLine n a k

/-- The lines with something waiting, once each. -/
def State.waitingLines (s : State) (n : Nat) : List LineAddr :=
  (((s.home n).held.map (fun r => r.hdr.addr)) ++ ((s.home n).recalls.map (fun r => r.line))).eraseDups

def State.serveLines (s : State) (n fuel : Nat) : List LineAddr → State
  | [] => s
  | a :: l => (s.serveLine n a fuel).serveLines n fuel l

/-- The transactions whose recalls are complete go on. -/
def State.advanceAll (s : State) (n : Nat) : List LineAddr → State
  | [] => s
  | a :: l => (s.advance n a).advanceAll n l

/-- At agent `n` the transactions whose recalls are complete go on, and recalls and held requests of idle lines are served, beginning
with line `a`. -/
def State.settleHome (s : State) (n : Nat) (a : List LineAddr) : State :=
  let s := s.advanceAll n (((s.home n).txns.filter (fun t => decide (t.phase = .tw) && !t.decided)).map (fun t => t.line))
  let fuel := (s.home n).held.length + (s.home n).recalls.length + 1
  let s := s.serveLines n fuel (a ++ s.waitingLines n)
  s.serveLines n fuel (s.waitingLines n)

/-- Recalls that the directory has queued at other agents start, and what waited for a recall buffer or a recall there goes on (R236,
R296). -/
def State.settleHomes (s : State) : List Nat → State
  | [] => s
  | n :: l =>
    let h := s.home n
    (if h.recalls.isEmpty && h.held.isEmpty && h.txns.isEmpty then s else s.settleHome n []).settleHomes l

/-- After an event at agent `n` on line `a`: the line goes on, then what waited for it. -/
def State.settle (s : State) (n : Nat) (a : LineAddr) : State :=
  ((s.advance n a).settleHome n [a]).settleHomes ((upTo 16).filter (· ≠ n))

/-- A request arrives at the home: it leads, or is held (R256, R262). -/
def State.homeArrive (s : State) (n : Nat) (ty : MsgType) (h : Hdr) (b : Body) : State :=
  let window := s.fld (regHomSettle n) 7 0
  let lead := satTo window (s.fld (regHomSettle n) 15 8)
  let s := if linePkg h.addr = s.pkgNum then s.sendRdSub n ty h else s
  let idle := (s.txnAt n h.addr).isNone && !(s.home n).held.any (fun r => decide (r.hdr.addr = h.addr)) && !s.recallHeld n h.addr
  let past := match Tbl.find (s.home n).served h.addr.toNat with
    | some (st, rk) => decide (h.stamp.toNat < st.toNat) || (decide (h.stamp = st) && decide (h.rank.toNat < rk.toNat))
    | none => false
  let r : HReq := { kind := ty, hdr := h, body := b, arrival := s.clause, settleAt := h.stamp + BitVec.ofNat 64 window,
                    leadAt := h.stamp + BitVec.ofNat 64 lead, lead := idle, overtake := past && decide (s.fld (regHomStatus n) 1 0 = 1) }
  (s.modHome n (fun x => { x with held := x.held ++ [r] })).settle n h.addr

end Sys2Proof.Machine
end

