-- ==== Sys2Proof/Machine/HomeMessages.lean ====
section
/-! DEFINITION. The messages that reach home agents, proxies, dies, DRAM controllers and the TLBI unit (07_coherence_protocol.md R230,
R231, R239 to R245, R250, R254 to R256, R263, R270, R271; 10_dram_subsystem.md R374). -/
namespace Sys2Proof.Machine
open Sys2Proof

/-! ## Requests -/

/-- The size of a source's partition (R241, R276). -/
def Home.partition (h : Home) (pool key : Nat) : Nat :=
  if pool = 0 then (if key < 12 then bits h.credit 7 0 else bits h.credit 15 8)
  else (if key < 12 then bits h.credit 23 16 else bits h.credit 31 24)

/-- A request enters an agent's pool; one too many is a protocol violation (R242). The agent's own I/O-die agents hold no
partition. -/
def State.poolIn (s : State) (n pool : Nat) (h : Hdr) (f : State → State) : State :=
  let key := s.keyOf h.src
  let used := Tbl.get 0 (if pool = 0 then (s.home n).reqUsed else (s.home n).wbUsed) key
  if key ≠ 12 ∧ used ≥ (s.home n).partition pool key then
    (s.homLast n 0x5071 h.addr).ueP 12 n 0x5071 h.realm.toNat
      [(homeAgentId s.pkgNum n).toNat, h.src.toNat, pool]
  else f (s.enterPool n pool key)

/-- A request of the protocol enters its pool and is served or held. -/
def State.requestIn (s : State) (n : Nat) (ty : MsgType) (h : Hdr) (b : Body) : State :=
  s.poolIn n (poolOf ty) h (fun s => s.homeArrive n ty h b)

/-- A message for an agent of this package's I/O die with a unit number below 16. -/
def onAgent (s : State) (m : Msg) (f : State → Nat → State) : Host.Outcome State Fault Refusal :=
  if agentPkg m.hdr.dst = s.pkgNum ∧ agentDie m.hdr.dst = 12 ∧ agentUnit m.hdr.dst < 16 then
    arrive s m (fun s => .next (f s (agentUnit m.hdr.dst)))
  else .fault .noSuchAgent

/-- R230, R252. -/
def request (s : State) (ty : MsgType) (h : Hdr) (b : Body) : Host.Outcome State Fault Refusal :=
  onAgent s { type := ty, hdr := h, body := b } (fun s n => s.requestIn n ty h b)

/-- R252. -/
def execRds (h : Hdr) (s : State) : Host.Outcome State Fault Refusal := request s .rdS h .none
/-- R252. -/
def execRdx (h : Hdr) (s : State) : Host.Outcome State Fault Refusal := request s .rdX h .none
/-- R252. -/
def execUpg (h : Hdr) (s : State) : Host.Outcome State Fault Refusal := request s .upg h .none
/-- R252, R167. -/
def execRdz (h : Hdr) (s : State) : Host.Outcome State Fault Refusal := request s .rdZ h .none
/-- R253. -/
def execWbm (h : Hdr) (line : Line) (s : State) : Host.Outcome State Fault Refusal := request s .wbM h (.line line)
/-- R253. -/
def execEvn (h : Hdr) (s : State) : Host.Outcome State Fault Refusal := request s .evN h .none
/-- R252, R255. -/
def execAtom (h : Hdr) (args : AtomArgs) (s : State) : Host.Outcome State Fault Refusal := request s .atom h (.atom args)
/-- R252, R177. -/
def execCmo (h : Hdr) (clinv : Bool) (s : State) : Host.Outcome State Fault Refusal := request s .cmo h (.cmo clinv)
/-- R252, R374, R400. -/
def execWrp (h : Hdr) (bytes : Line) (mask : BitVec 64) (s : State) : Host.Outcome State Fault Refusal :=
  request s .wrP h (.bytes bytes mask)

/-! ## Uncached accesses (R374, R454) -/

/-- The answer of a DRAM controller. -/
def State.ucRespond (s : State) (n : Nat) (h : Hdr) (fl : Flags) (v : Word) : State :=
  let s := s.leavePool n 0 (s.keyOf h.src)
  s.send { type := .ucRsp, hdr := { h with src := dramAgentId s.pkgNum n, dst := h.src, flags := fl, grant := .I, cr := 1 }, body := .value v }

/-- An uncached access at its controller is checked and waits for its read (R374). A proxy passes it on to the home package's
controller (log entry 13). -/
def State.uncachedIn (s : State) (n : Nat) (m : Msg) : State :=
  let h := m.hdr
  if linePkg h.addr ≠ s.pkgNum then s.sendHome n { m with hdr := { h with dst := dramAgentId (linePkg h.addr) n } }
  else if s.admitsPage h.realm.toNat (pageOfLine (lineIx h.addr)) then { s with ucq := s.ucq ++ [{ line := h.addr, msg := m }] }
  else (s.refusalRecord 12 (16 + n) h.src.toNat h.rank.toNat (pageOfLine (lineIx h.addr)) h.realm.toNat).ucRespond n h
    { stale := true, lost := true } 0

/-- R374, R242. -/
def uncached (s : State) (ty : MsgType) (h : Hdr) (b : Body) : Host.Outcome State Fault Refusal :=
  let m : Msg := { type := ty, hdr := h, body := b }
  let unit := agentUnit h.dst
  if agentPkg h.dst = s.pkgNum ∧ agentDie h.dst = 12 ∧ unit < 32 then
    arrive s m (fun s => .next (s.poolIn (unit % 16) 0 h (fun s => s.uncachedIn (unit % 16) m)))
  else .fault .noSuchAgent

/-- R374. -/
def execUcrd (h : Hdr) (off : BitVec 6) (size : Nat) (s : State) : Host.Outcome State Fault Refusal := uncached s .ucRd h (.uc off size)
/-- R374. -/
def execUcwr (h : Hdr) (bytes : Line) (mask : BitVec 64) (s : State) : Host.Outcome State Fault Refusal :=
  uncached s .ucWr h (.bytes bytes mask)
/-- R374. -/
def execUcatom (h : Hdr) (args : AtomArgs) (s : State) : Host.Outcome State Fault Refusal := uncached s .ucAtom h (.atom args)

/-- An uncached access is performed: a read; a read, a merge or operation, and a full-line write that keeps the away bit (R285,
R374). One that meets an uncorrectable line receives no data (R391). -/
def State.ucPerform (s : State) (n : Nat) (q : UcReq) (o : ReadOutcome) : State :=
  let h := q.msg.hdr
  let a := lineIx q.line
  let s := { s with ucq := s.ucq.erase q }
  let full := match q.msg.body with
    | .bytes _ m => decide (m = BitVec.allOnes 64)
    | _ => false
  let (s, d) := if full then (s, some 0) else s.dramRead n 3 a (if q.msg.type = .ucRd then 0 else 2) o
  match d with
  | none => s.ucRespond n h { lost := true } 0
  | some l => match q.msg.body with
    | .uc off size => s.ucRespond n h {} (BitVec.ofNat 64 (lineNat l off.toNat size))
    | .bytes b m => ((s.dramWrite n 3 h.realm.toNat a (mergeLine l b m) (s.isAway a)).journal n h 4 false).ucRespond n h {} 0
    | .atom args =>
      let (new, v) := atomPerform args l
      ((s.dramWrite n 3 h.realm.toNat a new (s.isAway a)).journal n h 5 false).ucRespond n h {} v
    | _ => s

/-- The reads that wait at controller `n`, oldest first: port, line, realm (R473). -/
def State.readsWaiting (s : State) (n : Nat) : List (Nat × LineAddr × Nat) :=
  ((s.home n).txns.reverse.filter (fun t => t.memWait && decide (linePkg t.line = s.pkgNum))).map
      (fun t => (s.portOf t.req.hdr, t.line, t.req.hdr.realm.toNat)) ++
    (s.ucq.filter (fun q => decide (s.chanOf (lineBase q.line) = n))).map (fun q => (3, q.line, q.msg.hdr.realm.toNat))

/-- The controller admits what it may (R473). -/
def State.admitReads (s : State) (n : Nat) : State := s.admitPorts n (s.readsWaiting n)

/-- R373, R378, R472, R473: a controller cycle. The realm buckets of a group gain with its first controller's cycle. -/
def execControllerCycle (n : Chan) (s : State) : Host.Outcome State Fault Refusal :=
  let s := s.fillPorts n.val 0 4
  .next ((if n.val % 4 = 0 then s.fillRealms (n.val / 4) (s.regulated (n.val / 4)) else s).admitReads n.val)

/-- R384: a read of the line returns, for the transaction that waits for it or for the oldest uncached access to it. A request
that its realm's regulator has not admitted, or whose port may not use the channel, goes on waiting (R379, R473). -/
def execMemoryReadDone (n : Chan) (line : LineAddr) (o : ReadOutcome) (s : State) : Host.Outcome State Fault Refusal :=
  let s := s.admitReads n.val
  .next (if !(s.readQueue n.val).contains line then s else match s.txnAt n.val line with
  | some t =>
    if t.memWait && linePkg line = s.pkgNum then
      let h := t.req.hdr
      let port := s.portOf h
      if !s.portReady n.val port then s
      else
        let s := s.ownCacheRead (pageOfLine (lineIx line))
        let (s, d) := s.dramRead n.val port (lineIx line) (if t.req.kind = .atom ∨ t.asKind = .wrP then 2 else if port = 2 then 3 else 0) o
        match s.txnAt n.val line with
        | none => s
        | some t => (s.putTxn n.val { t with memWait := false, mem := d, lost := t.lost || d.isNone }).settle n.val line
    else s
  | none => match s.ucq.find? (fun q => decide (q.line = line)) with
    | some q => if s.portReady n.val 3 then s.ucPerform n.val q o else s
    | none => s)

/-! ## Directory lookups (R285, R291) -/

/-- R291: the lookup returns. A request of another package that may grant it a copy allocates its entry on a miss, and waits while
the recall buffer is full (R297). -/
def execDirectoryLookupDone (n : Chan) (line : LineAddr) (o : DirOutcome) (s : State) : Host.Outcome State Fault Refusal :=
  .next (match s.txnAt n.val line with
  | none => s
  | some t =>
    if !t.dirWait then s
    else
      let s := s.dirReadError n.val line o
      if (s.txnAt n.val line).isNone then s
      else
        let grants := decide (agentPkg t.req.hdr.src ≠ s.pkgNum) &&
          decide (t.req.kind = .rdS ∨ t.req.kind = .rdX ∨ t.req.kind = .rdZ ∨ t.req.kind = .upg)
        let s1 : Option State := if grants && (s.dirFind n.val line).isNone then s.dirAlloc line {} else some s
        match s1 with
        -- the request stays in TW, and entries that must not merge yet are recalled (R297, R305)
        | none => (s.queueRecalls (s.mergeRecalls (s.oldGroup (dirKey line s.oldLayout.span)))).settleHomes (upTo 16)
        | some s => (s.putTxn n.val { t with dirWait := false, looked := true }).settle n.val line)

/-- R304 step 2: the next old global set is migrated, and the recalls that this asks for start. -/
def execReshapeMigrate (o : DirOutcome) (s : State) : Host.Outcome State Fault Refusal :=
  .next (if s.reshaping then (s.migrateSet o).settleHomes (upTo 16) else s)

/-! ## Settle and lead points, timeouts (R245, R256) -/

/-- R256 step 3. -/
def execSettlePointReached (n : Chan) (line : LineAddr) (s : State) : Host.Outcome State Fault Refusal := .next (s.settle n.val line)
/-- R256 step 1. -/
def execLeadPointReached (n : Chan) (line : LineAddr) (s : State) : Host.Outcome State Fault Refusal := .next (s.settle n.val line)

/-- R245: more than 2,500,000 clauses of waiting for a response. The timeout does not run in HALT (R605), nor while a key rotation
holds the line's page (R464). -/
def execCohTimeout (n : Chan) (line : LineAddr) (s : State) : Host.Outcome State Fault Refusal :=
  .next (match s.txnAt n.val line with
  | none => s
  | some t =>
    if s.mode ≠ modeHalt ∧ (t.answers > 0 ∨ t.phase = .ta ∨ t.phase = .ts) ∧ (s.clause - t.since).toNat > 2500000 then
      (s.homLast n.val 0x5072 line).ueP 12 n.val 0x5072 t.req.hdr.realm.toNat
        [(homeAgentId s.pkgNum n.val).toNat, s.homeRow n.val line, lineP0 line, lineP1 line]
    else s)

/-! ## Snoop answers (R251, R254, R691) -/

/-- The answer's sender was the owner whose data or forward the transaction awaits. -/
def State.fromOwner (s : State) (t : HTxn) (h : Hdr) : Bool := decide (t.owner = some (s.keyOf h.src))

/-- An answer goes into the line's transaction (R254): FwdAck only in TW, the others in TW and TR. -/
def State.answered (s : State) (n : Nat) (ty : MsgType) (h : Hdr) (f : State → HTxn → HTxn) : State :=
  match s.txnAt n h.addr with
  | none => s.homeErr n ty 0 h
  | some t =>
    let ok := decide (t.answers > 0) && (decide (t.phase = .tw) || (decide (t.phase = .tr) && decide (ty ≠ .fwdAck)))
    if !ok then s.homeErr n ty (s.homeRow n h.addr) h
    else
      let t := { f s t with answers := t.answers - 1, wbp := t.wbp || h.flags.wbp, broken := t.broken || h.flags.broken }
      let s := s.putTxn n t
      if linePkg h.addr = s.pkgNum then s.settle n h.addr else (s.proxyStep n h.addr (t.heldSnoops.length + 2)).settle n h.addr

/-- A FwdAck with BROKEN breaks the subjunctive forwards of its package (R263). -/
def State.noteBroken (s : State) (n : Nat) (h : Hdr) : State :=
  if h.flags.broken then s.modHome n (fun x => { x with kept := x.kept.map (fun (k : SubFwdKept) =>
    if k.line = h.addr ∧ k.pkg = agentPkg h.src then { k with broken := true } else k) })
  else s

/-- R254. -/
def execFwdack (h : Hdr) (st : CState) (s : State) : Host.Outcome State Fault Refusal :=
  onAgent s { type := .fwdAck, hdr := h, body := .state st } (fun s n =>
    (s.noteBroken n h).answered n .fwdAck h (fun _ t => { t with fwd := some (st, h.flags.dirty), held := true, lost := t.lost || h.flags.lost }))

/-- R254, R691. -/
def execSnpack (h : Hdr) (s : State) : Host.Outcome State Fault Refusal :=
  onAgent s { type := .snpAck, hdr := h } (fun s n =>
    s.answered n .snpAck h (fun s t =>
      let reads := decide (t.asKind = .rdS ∨ t.asKind = .rdX) || (decide (t.asKind = .cmo) && h.flags.keepS)
      { t with held := true, kept := t.kept || h.flags.keepS,
               noOwner := if s.fromOwner t h && reads then some h.flags.keepS else t.noOwner }))

/-- R691, R254. -/
def execSnpnone (h : Hdr) (s : State) : Host.Outcome State Fault Refusal :=
  onAgent s { type := .snpNone, hdr := h } (fun s n =>
    let s := (s.addFld (regHomCount0 n) 63 32 1).homeCount n 0x04 1 h.realm
    s.answered n .snpNone h (fun s t => { t with noOwner := if s.fromOwner t h then some false else t.noOwner }))

/-- R254. With LOST it carries no data (R249). -/
def execSnpdata (h : Hdr) (line : Line) (s : State) : Host.Outcome State Fault Refusal :=
  onAgent s { type := .snpData, hdr := h, body := if h.flags.lost then .none else .line line } (fun s n =>
    s.answered n .snpData h (fun _ t =>
      { t with held := true, wdata := if h.flags.lost then t.wdata else some line, lost := t.lost || h.flags.lost }))

/-- R263: the predicted owner's report; a proxy marks the line frozen and passes it on (R692). -/
def execSubfwd (h : Hdr) (st : CState) (s : State) : Host.Outcome State Fault Refusal :=
  onAgent s { type := .subFwd, hdr := h, body := .state st } (fun s n =>
    if linePkg h.addr ≠ s.pkgNum then
      let s := if h.flags.forwarded then s.modHome n (fun x => { x with frozen := h.addr :: x.frozen }) else s
      s.proxyReply n h .subFwd h.flags (.state st)
    else
      let k : SubFwdKept := { line := h.addr, tid := h.tid, rank := h.rank, pkg := agentPkg h.src, forwarded := h.flags.forwarded,
                              st := st, dirty := h.flags.dirty }
      let s := s.modHome n (fun x => { x with kept := x.kept ++ [k] })
      match s.txnAt n h.addr with
      | some t => if t.phase = .ts ∧ t.req.hdr.tid = h.tid ∧ t.req.hdr.rank = h.rank
          then (s.putTxn n { t with phase := .tw }).settle n h.addr else s
      | none => s)

/-! ## CmpAck, Cmp, Credit -/

/-- R254: the line becomes idle. A proxy ends its own service and applies the snoops it held, or passes the CmpAck on (R692). -/
def execCmpack (h : Hdr) (s : State) : Host.Outcome State Fault Refusal :=
  onAgent s { type := .cmpAck, hdr := h } (fun s n =>
    let ta : Bool := match s.txnAt n h.addr with
      | some t => decide (t.phase = .ta)
      | none => false
    if linePkg h.addr = s.pkgNum then
      if ta then (s.endHTxn n h.addr).settle n h.addr else s.homeErr n .cmpAck (s.homeRow n h.addr) h
    else match s.txnAt n h.addr with
      | some t =>
        if ta then
          (match t.heldSnoops with
           | m :: rest => (((s.endHTxn n h.addr).proxySnoop n m rest).proxyStep n h.addr (rest.length + 2)).settle n h.addr
           | [] => (s.endHTxn n h.addr).settle n h.addr)
        else s.send { type := .cmpAck, hdr := { h with dst := homeAgentId (linePkg h.addr) n } }
      | none => s.send { type := .cmpAck, hdr := { h with dst := homeAgentId (linePkg h.addr) n } })

/-- The copies of every other die of the package are invalidated (R231). -/
def State.dropOtherDies (s : State) (die : Nat) (a : LineAddr) : State :=
  (upTo 12).foldl (fun s d => if d = die then s else (s.removeCopies d a (s.dieCopies d a)).refreshSf d a) s

/-- A Cmp of another package's home passes the proxy: with E or M the other dies lose their copies, and an E grant of a line whose
dirty data moved on the package goes on as M (R231). -/
def State.proxyCmp (s : State) (h : Hdr) : State × Hdr :=
  let a := h.addr
  if linePkg a = s.pkgNum ∨ agentPkg h.src = s.pkgNum ∨ h.flags.lost then (s, h)
  else
    let n := s.chanOf (lineBase a)
    let die := agentDie h.dst
    match h.grant with
    | .S => (s.modPres n a (fun p => (if p.stAt (presIx a) = 0 then p.put (presIx a) 1 0 else p).addDie die), h)
    | .E | .M =>
      let moved := (s.home n).moved.contains a
      let s := s.dropOtherDies die a
      let s := s.modPres n a (fun p => (p.put (presIx a) 3 die).addDie die)
      (s.modHome n (fun x => { x with moved := x.moved.erase a }), if moved then { h with grant := .M } else h)
    | _ => (s, h)

/-- A home agent serves the write of its own that journal work has made due. -/
def State.ownServe (n : Nat) (x : State × Option HReq) : State := match x with
  | (s, some r) => s.homeArrive n r.kind r.hdr r.body
  | (s, none) => s

/-- A response of another package's home to an agent of the I/O die returns the credit of the proxy that passed its request on, and the
request leaves the proxy's pool (R241). -/
def State.proxyCredit (s : State) (h : Hdr) : State :=
  if agentPkg h.src = s.pkgNum then s
  else (s.homeCredits (s.chanOf (lineBase h.addr)) (agentPkg h.src) 0 h.cr.toNat).leavePool (s.chanOf (lineBase h.addr)) 0 12

/-- The thread of a die that waits for the completion of its CACHE instruction's Cmo, sent by an L3 slice (R177). -/
def State.sliceWaiter (s : State) (h : Hdr) : Option (Nat × Dest) :=
  match posOfTid h.rank.toNat with
  | none => none
  | some t => match (s.thread t).wait with
    | .access i d => if i = h.tid then some (t, d) else none
    | _ => none

/-- R246, R247: a completion, at a core's agent, an L3 slice, or an agent of the I/O die. -/
def execCmp (h : Hdr) (s : State) : Host.Outcome State Fault Refusal :=
  let m : Msg := { type := .cmp, hdr := h }
  let die := agentDie h.dst
  let unit := agentUnit h.dst
  if agentPkg h.dst = s.pkgNum ∧ die = 12 then
    arrive s m (fun s =>
      let s := if unit < 16 then s else s.proxyCredit h
      .next (if unit < 16 then State.ownServe unit (s.journalCmp unit h)
             else if 40 ≤ unit ∧ unit < 56 then s.engineCmp (unit - 40) h
             else s.portCmp unit h))
  else if agentPkg h.dst = s.pkgNum ∧ die < 12 ∧ 32 ≤ unit ∧ unit < 48 then
    arrive s m (fun s =>
      let s := (s.returnCredit die 0 h).ackOther h
      .next (match s.sliceWaiter h with
        | some (t, d) => if refusedFlags h.flags then s.refuseAccess t h.addr else s.completeAccess t d 0
        | none => s.discard (die * 20) .cmp h))
  else onCore s m (fun s c =>
    let (s, h) := s.proxyCmp h
    .next (s.coreCmp c h))

/-- R241: credits granted to a die, or to a proxy. -/
def execCredit (h : Hdr) (pool : Bool) (count : Nat) (s : State) : Host.Outcome State Fault Refusal :=
  let m : Msg := { type := .credit, hdr := h, body := .words [BitVec.ofNat 64 (b2n pool), BitVec.ofNat 64 count] }
  let die := agentDie h.dst
  if agentPkg h.dst = s.pkgNum ∧ die < 12 then
    arrive s m (fun s => .next (s.addCredits die (agentUnit h.src % 16) (b2n pool) count))
  else onAgent s m (fun s n => s.homeCredits n (agentPkg h.src) (b2n pool) count)

/-- R271: the page-ownership cache answers at once. -/
def execOwnchk (h : Hdr) (s : State) : Host.Outcome State Fault Refusal :=
  if agentPkg h.dst = s.pkgNum ∧ agentDie h.dst = 12 ∧ agentUnit h.dst = 97 then
    arrive s { type := .ownChk, hdr := h } (fun s =>
      let s := s.ownCacheRead (pageOfLine (lineIx h.addr))
      .next (s.send { type := .ownRsp, hdr := { h with src := h.dst, dst := h.src },
                      body := .flag (s.admitsPage h.realm.toNat (pageOfLine (lineIx h.addr))) }))
  else .fault .noSuchAgent

/-! ## Snoops (R246, R250, R692) -/

/-- A snoop for a die of the package, for an engine (R408), or for the package's proxy. -/
def snoopIn (s : State) (ty : MsgType) (h : Hdr) : Host.Outcome State Fault Refusal :=
  let m : Msg := { type := ty, hdr := h }
  if agentPkg h.dst = s.pkgNum ∧ agentDie h.dst < 12 then arrive s m (fun s => .next (s.dieSnoop (agentDie h.dst) ty h))
  else if agentPkg h.dst = s.pkgNum ∧ agentDie h.dst = 12 ∧ 40 ≤ agentUnit h.dst ∧ agentUnit h.dst < 56 then
    arrive s m (fun s => .next (s.engineSnoop (agentUnit h.dst - 40) h))
  else onAgent s m (fun s n =>
    match s.txnAt n h.addr with
    | some t => s.putTxn n { t with heldSnoops := t.heldSnoops ++ [m] }
    | none => ((s.proxySnoop n m []).proxyStep n h.addr 2).settle n h.addr)

/-- R246. -/
def execSnps (h : Hdr) (s : State) : Host.Outcome State Fault Refusal := snoopIn s .snpS h
/-- R246. -/
def execSnpx (h : Hdr) (s : State) : Host.Outcome State Fault Refusal := snoopIn s .snpX h
/-- R246. -/
def execSnpi (h : Hdr) (s : State) : Host.Outcome State Fault Refusal := snoopIn s .snpI h
/-- R246. -/
def execSnph (h : Hdr) (s : State) : Host.Outcome State Fault Refusal := snoopIn s .snpH h
/-- R246. -/
def execSnpc (h : Hdr) (s : State) : Host.Outcome State Fault Refusal := snoopIn s .snpC h

/-- R263: the predicted package's proxy passes RdSub to its owner die, or answers that nothing was forwarded. -/
def execRdsub (h : Hdr) (s : State) : Host.Outcome State Fault Refusal :=
  let m : Msg := { type := .rdSub, hdr := h }
  if agentPkg h.dst = s.pkgNum ∧ agentDie h.dst < 12 then
    arrive s m (fun s => .next (s.dieSnoop (agentDie h.dst) .rdSub h))
  else onAgent s m (fun s n =>
    let p := s.pres n h.addr
    if p.stAt (presIx h.addr) ≥ 2 then s.send { m with hdr := { h with dst := agentId s.pkgNum (p.ownerAt (presIx h.addr)) 48 } }
    else s.proxyReply n h .subFwd {} (.state .I))

/-- R246, R692: the proxy clears its mark and passes SubDone to the die that holds the line frozen. -/
def execSubdone (h : Hdr) (apply : Bool) (s : State) : Host.Outcome State Fault Refusal :=
  let m : Msg := { type := .subDone, hdr := h, body := .flag apply }
  if agentPkg h.dst = s.pkgNum ∧ agentDie h.dst < 12 then
    arrive s m (fun s => .next (s.dieSubDone (agentDie h.dst) h apply))
  else onAgent s m (fun s n =>
    let s := s.modHome n (fun x => { x with frozen := x.frozen.erase h.addr })
    let held := (upTo 12).findSome? (fun d => (upTo 20).findSome? (fun o => match (s.core (d * 20 + o)).l2Find h.addr with
      | some (_, v) => if v.frozen then some (d, v) else none
      | none => none))
    match held with
    | some (d, v) =>
      -- APPLY: the package holds the line as its owner die then does (R246)
      let s := if apply ∧ v.st ≠ .I then s.modPres n h.addr (fun p => p.put (presIx h.addr)
          (if v.frozenX then 0 else ownerField (shareState v.st)) (p.ownerAt (presIx h.addr))) else s
      s.send { m with hdr := { h with dst := agentId s.pkgNum d 48 } }
    | none => s.homeErr n .subDone 4 h)

/-! ## TLBI (R270) -/

/-- The dies that take part: those not fenced. -/
def State.liveDies (s : State) : List Nat := (upTo 12).filter (fun d => !(s.die d).fenced)

/-- A die has completed every access that used the realm's entries: no thread of the realm on it waits for one, and its merging
buffers hold no store of the realm, and no posted device store of theirs is unperformed. -/
def State.tlbiQuiet (s : State) (d : Nat) (r : Realm) : Bool :=
  (upTo 40).all (fun i => decide ((s.thread (d * 40 + i)).realm ≠ r) || (match (s.thread (d * 40 + i)).wait with
    | .access _ _ => false
    | _ => !s.devicePending (d * 40 + i))) &&
  (upTo 20).all (fun c => (s.core (d * 20 + c)).mb.all (fun e => decide (e.realm ≠ r)))

/-- The TLBIs a die has taken and whose accesses have completed are reported to the unit. -/
def State.tlbiReport (s : State) (d : Nat) : State :=
  let done := (s.die d).tlbis.filter (fun a => s.tlbiQuiet d a.realm)
  let s := s.modDie d (fun x => { x with tlbis := x.tlbis.filter (fun a => !done.contains a) })
  done.foldl (fun s a => s.send { type := .tlbiDone, hdr := { src := agentId s.pkgNum d 48, dst := agentId s.pkgNum 12 96, stamp := s.clause,
                                                              realm := a.realm }, body := .tlbi a }) s

/-- A die takes a Tlbi: the entries of R220 leave every core of it that is not fenced. -/
def State.dieTlbi (s : State) (d : Nat) (a : TlbiArgs) : State :=
  let s := (upTo 20).foldl (fun s c => if (s.core (d * 20 + c)).fenced then s else s.modCore (d * 20 + c) (fun k => k.tlbi a)) s
  (s.modDie d (fun x => { x with tlbis := x.tlbis ++ [a] })).tlbiReport d

/-- The unit's acknowledgement to the issuing package (R270 step 4). -/
def State.tlbiAcked (s : State) (h : Hdr) (a : TlbiArgs) : State :=
  s.send { type := .tlbiAck, hdr := { h with src := agentId s.pkgNum 12 96, dst := agentId (a.issuer.toNat / 2048) 12 96 }, body := .tlbi a }

/-- A Tlbi at the TLBI unit: sent to the package's dies and, when a core of this package issued it, to every other member. A package
none of whose dies is live has nothing to wait for. -/
def State.unitTlbi (s : State) (h : Hdr) (a : TlbiArgs) : State :=
  let dies := s.liveDies
  let s := if dies.isEmpty then s.tlbiAcked h a else { s with tlbiUnit := s.tlbiUnit ++ [{ args := a, dies := dies }] }
  let dest (dst : BitVec 16) (s : State) : State := s.send { type := .tlbi, hdr := { h with src := agentId s.pkgNum 12 96, dst := dst }, body := .tlbi a }
  let s := dies.foldl (fun s d => dest (agentId s.pkgNum d 48) s) s
  if a.issuer.toNat / 2048 = s.pkgNum then s.otherMembers.foldl (fun s p => dest (agentId p 12 96) s) s else s

/-- R270 steps 2 and 3. -/
def execTlbiMessage (h : Hdr) (args : TlbiArgs) (s : State) : Host.Outcome State Fault Refusal :=
  let m : Msg := { type := .tlbi, hdr := h, body := .tlbi args }
  if agentPkg h.dst ≠ s.pkgNum then .fault .noSuchAgent
  else if agentDie h.dst < 12 then arrive s m (fun s => .next (s.dieTlbi (agentDie h.dst) args))
  else arrive s m (fun s => .next (s.unitTlbi h args))

/-- R270 step 4: once all its dies are done, the unit acknowledges to the issuing package. -/
def execTlbidone (h : Hdr) (args : TlbiArgs) (s : State) : Host.Outcome State Fault Refusal :=
  if agentPkg h.dst ≠ s.pkgNum then .fault .noSuchAgent
  else arrive s { type := .tlbiDone, hdr := h, body := .tlbi args } (fun s =>
    let jobs := s.tlbiUnit.map (fun (j : TlbiJob) => if j.args = args then { j with dies := j.dies.erase (agentDie h.src) } else j)
    let s := { s with tlbiUnit := jobs.filter (fun j => !j.dies.isEmpty) }
    .next (if jobs.any (fun j => decide (j.args = args) && j.dies.isEmpty) then s.tlbiAcked h args else s))

/-- R270 step 5, R88: the issuer's TLBI is performed on that package; SYNC.T ends with the last. -/
def execTlbiack (h : Hdr) (args : TlbiArgs) (s : State) : Host.Outcome State Fault Refusal :=
  if agentPkg h.dst ≠ s.pkgNum then .fault .noSuchAgent
  else arrive s { type := .tlbiAck, hdr := h, body := .tlbi args } (fun s =>
    .next (match posOfTid args.issuer.toNat with
    | none => s
    | some t =>
      let s := s.modThread t (fun y => { y with tlbis := (y.tlbis.map (fun (o : TlbiOut) =>
        if o.seq = args.seq then { o with left := o.left.erase (agentPkg h.src) } else o)).filter (fun o => !o.left.isEmpty) })
      if (s.thread t).wait = .syncT ∧ (s.thread t).tlbis.isEmpty then (s.modThread t (fun y => { y with wait := .ready })).retire t else s))

/-- R261: an append at the home of the lane's WRITE word, or a record at the home of its slot. -/
def execJrnwr (h : Hdr) (record : BitVec 256) (s : State) : Host.Outcome State Fault Refusal :=
  onAgent s { type := .jrnWr, hdr := h, body := .journal record } (fun s n =>
    State.ownServe n (if s.isWriteLine h.realm.toNat h.addr then s.journalAppend n h record else (s, some (journalStore h record))))

end Sys2Proof.Machine
end

