-- ==== Sys2Proof/Machine/Realms.lean ====
section
/-! DEFINITION. Realms (12_realms_isolation.md R444 to R485): the realm entries and their states, bindings, page commands, keys,
sealing, the register commands START, STOP, BIND, UNBIND and the page commands, the key sweep, the end of a realm reset. -/
namespace Sys2Proof.Machine
open Sys2Proof


/-! ## What a package does when a realm's state changes (R447, R449, R463, R476) -/

def realmResetting : Nat := 3
def realmDestroying : Nat := 4

/-- STATE, CUR and GEN of a key slot (R484). -/
def State.keyState (s : State) (r : Nat) : Nat := s.fld (regKeySlot r) 2 0
def State.keyCur (s : State) (r : Nat) : Nat := s.fld (regKeySlot r) 3 3
def keyEmpty : Nat := 0
def keyActive : Nat := 1
def keyRotating : Nat := 2
def keyZeroizing : Nat := 3

/-- Half 0 of a slot is generated, and the slot becomes ACTIVE (R463). -/
def State.keyCreate (s : State) (r : Nat) : State :=
  ((((((s.keyRead r).genKey r 0).setFld (regKeySlot r) 2 0 keyActive).setFld (regKeySlot r) 3 3 0)).addFld (regKeySlot r) 23 8 1).keyLogged
    (s.fld (regKeySlot r) 3 0) r

/-- Both halves of a slot are overwritten (R463). -/
def State.keyZeroize (s : State) (r : Nat) : State :=
  let s1 := (s.setFld (regKeySlot r) 2 0 keyZeroizing).keyLogged (s.fld (regKeySlot r) 3 0) r
  ((((s1.eraseKey r 0).eraseKey r 1).setFld (regKeySlot r) 2 0 keyEmpty).setFld (regKeySlot r) 3 3 0).keyLogged (s1.fld (regKeySlot r) 3 0) r

/-- Threads of a list take a realm exit with SUB 4, their contexts saved (R447). -/
def State.stopAll (s : State) : List Nat → State
  | [] => s
  | t :: l => (if (s.thread t).realm = 0 then s else s.exitSoon t 4).stopAll l

/-- The thread positions bound to realm `r` (R482). -/
def State.boundThreads (s : State) (r : Nat) : List Nat := (upTo 480).filter (fun t => s.boundTo t r)

/-- The translation structures of a core without the entries of a realm (R476 step 3). -/
def Core.dropRealmTlb (c : Core) (r : Realm) : Core :=
  { c with itlb := c.itlb.filter (fun e => e.realm ≠ r), dtlb := c.dtlb.filter (fun e => e.realm ≠ r),
           l2tlb := c.l2tlb.filter (fun e => e.realm ≠ r), walks := c.walks.filter (fun e => e.realm ≠ r) }

/-- PEND of every thread of a list clears (R465). -/
def State.clearPend (s : State) : List Nat → State
  | [] => s
  | t :: l => (if s.fld (regRlmBind0 t) 20 17 = 0 then s else s.setFld (regRlmBind0 t) 20 17 0).clearPend l

/-- The predictors of the cores of a list are flushed, or one slot of them (R476 step 3). -/
def State.flushPreds (s : State) (part : Option Nat) : List Nat → State
  | [] => s
  | c :: l => (s.modCore c (fun k => k.flushPred part)).flushPreds part l

/-- Steps 1 and 3 of R476 on this package. -/
def State.resetRealm (s : State) (r : Nat) : State :=
  let s := s.resetLocal r
  let rr : Realm := BitVec.ofNat 10 r
  let s := { s with cores := Tbl.map (fun c => c.dropRealmTlb rr) s.cores,
                    dies := Tbl.map (fun (d : Die) => { d with preds := d.preds.filter (fun p => p.2.realm ≠ rr) }) s.dies }
  let bound := s.boundThreads r
  (s.clearPend bound).flushPreds (s.realmPart r) (bound.map coreOf).eraseDups

/-- What the last exit from the thread's context of realm `r` was belongs to that context: a binding that ends or begins forgets it
(R115 step 3). -/
def State.forgetExit (s : State) (t r : Nat) : State := s.modThread t (fun y => { y with hcallExits := y.hcallExits.filter (· ≠ r) })

/-- Every binding entry of a list is removed (R449 step 1). -/
def State.unbindAll (s : State) (origin : BitVec 16) : List Nat → State
  | [] => s
  | t :: l => (((s.forgetExit t (s.fld (regRlmBind0 t) 9 0)).setLogged origin (regRlmBind0 t) 0).setLogged origin (regRlmBind1 t) 0).unbindAll origin l

/-- The local pages that realm `r` owns, in page order. -/
def State.ownedPages (s : State) (r : Nat) : List Nat :=
  sortNat ((s.pot.filter (fun e => decide (potState e.2 = potOwned) && decide (potRealm e.2 = r))).map (·.1))

/-- A member tells the manager that it has finished its part; the manager takes its own part off its list. -/
def State.realmPart' (s : State) (r : Nat) (sweep : Bool) : State :=
  if s.isManager then
    s.modRealms (fun x => { x with waits := x.waits.map (fun (w : RealmWait) =>
      let mine := match w.kind with
        | .rotate _ => sweep
        | _ => !sweep
      if w.realm = r && mine then { w with waiting := w.waiting.filter (· ≠ s.pkgNum) } else w) })
  else s.sendMgmt .event s.managerNum (.report (.realmDone (BitVec.ofNat 10 r) sweep))

/-- The destroy of a realm begins on this package (R449 steps 1 and 2). -/
def State.beginDestroy (s : State) (r : Nat) (origin : BitVec 16) : State :=
  let s := (s.unbindAll origin (s.boundThreads r)).disableCtxs r
  let job : PageJob := { why := .destroy, realm := r, assign := false, first := 0, pages := s.ownedPages r }
  s.modRealms (fun x => { x with pageJobs := x.pageJobs ++ [job] })

/-- A realm's STATE has changed from `old` to `new`: what this package does. -/
def State.realmChanged (s : State) (r old new : Nat) (origin : BitVec 16) : State :=
  let s := if old = new then s else s.modRealms (fun x => { x with stopped := x.stopped.erase r })
  if old = new then s
  else if new = realmStopped then
    if old = realmFree then s.keyCreate r else if old = realmRunning then s.stopAll (s.threadsIn r) else s
  else if new = realmResetting then (s.resetRealm r).realmPart' r false
  else if new = realmDestroying then s.beginDestroy r origin
  else s

/-- The realm whose word 0 lies at an offset. -/
def realmOfOffset (off : Nat) : Option Nat :=
  if regRlmTable0 0 ≤ off ∧ off < regRlmTable0 1024 ∧ off % 16 = 0 then some ((off - regRlmTable0 0) / 16) else none

/-- A word of the realm entries or of a regulator takes effect on this package. -/
def State.takeRealmWord (s : State) (off : Nat) (w : Word) (origin : BitVec 16) : State :=
  let old := s.reg off
  let s := s.setLogged origin off w
  match realmOfOffset off with
  | some r => s.realmChanged r (bits old 18 16) (bits w 18 16) origin
  | none => s

/-- The manager applies a change on every member (R445). -/
def State.setRealmWord (s : State) (off : Nat) (w : Word) (origin : BitVec 16) : State :=
  (s.sendAll .event (.report (.realmWord off w origin)) s.otherMembers).takeRealmWord off w origin

/-- The manager sets a realm's STATE on every member. -/
def State.setRealmState (s : State) (r st : Nat) (origin : BitVec 16) : State :=
  s.setRealmWord (regRlmTable0 r) (putBits (s.reg (regRlmTable0 r)) 18 16 st) origin

/-! ## Seal checks (R467, R475) -/

/-- The lowest `n` L3 ways outside `used`. -/
def lowestWays (used n : Nat) : Nat :=
  ((((upTo 16).filter (fun i => !used.testBit i)).take n).foldl (fun m i => m + 2 ^ i) 0)

/-- The ways of every sealed realm but `r`. -/
def State.sealedWays (s : State) (r : Nat) : Nat :=
  (upTo 1024).foldl (fun m q => if q ≠ r ∧ s.realmSealed q then m ||| s.fld (regRlmTable0 q) 63 48 else m) 0

/-- The mask of a seal: the one named, or the default (R467 check 1). -/
def State.sealMask (s : State) (r named : Nat) : Nat :=
  if named = 0 then lowestWays (s.sealedWays r) (s.fld regRlmSeal 4 0) else named

/-- The MIN of group `g` of a seal: the one named in P2, at most 1000h, or the default (R467 check 2, R483). -/
def State.sealMin (s : State) (p2 : Word) (g : Nat) : Nat :=
  let v := satTo 0x1000 (bits p2 (16 * g + 12) (16 * g))
  if v = 0 then s.fld regRlmSeal 28 16 else v

/-- The budget of group `g` (R475): 12 times the least port RATE of its controllers. -/
def State.groupBudget (s : State) (g : Nat) : Nat :=
  let rates := (upTo 4).foldr (fun i l => ((upTo 4).map (fun p => s.portRate (g * 4 + i) p)) ++ l) []
  12 * rates.foldl (fun m r => if r < m then r else m) 256

/-- The sum of MIN over the sealed realms of group `g` but `r`. -/
def State.sealedMins (s : State) (g r : Nat) : Nat :=
  (upTo 1024).foldl (fun m q => if q ≠ r ∧ s.realmSealed q then m + s.fld (regRlmReg0 (g * 1024 + q)) 12 0 else m) 0

/-- The number of the first check of R467 that fails on this package and, for check 2, its group; none when all pass. -/
def State.sealCheck (s : State) (r mask : Nat) (mins : List Nat) : Option (Nat × Nat) :=
  if mask = 0 ∨ mask &&& s.sealedWays r ≠ 0 then some (1, 0)
  else match (upTo 4).find? (fun g => decide (mins.getD g 0 = 0) || decide (s.groupBudget g < s.sealedMins g r + mins.getD g 0)) with
    | some g => some (2, g)
    | none =>
      if (s.boundThreads r).any (fun t => !s.boundTo (siblingOf t) r) then some (3, 0) else none

/-! ## Page commands (R457 to R459) -/

/-- RESULT of RLM.PGCMD (R480). -/
def pgOk : Nat := 0
def pgState : Nat := 1
def pgNotLocal : Nat := 2
def pgSealed : Nat := 3
def pgInuse : Nat := 4

/-- A page holds the context block of a binding entry of this package (R457). -/
def State.holdsCtx (s : State) (page : Nat) : Bool :=
  (upTo 480).any (fun t => decide (s.fld (regRlmBind0 t) 16 16 = 1) &&
    (let a := s.ctxBase t
     decide (a / 2 ^ 47 = s.pkgNum) && decide (a % 2 ^ 47 / 4096 ≤ page) && decide (page ≤ (a % 2 ^ 47 + 0x5ff) / 4096)))

/-- The condition that a page breaks, as its RESULT; 0 when it breaks none (R457). -/
def State.pageRefusal (s : State) (j : PageJob) (page : Nat) : Nat :=
  let e := s.potEntry page
  let st := s.realmState j.realm
  if j.assign then
    if potState e ≠ potFree ∨ !(st = realmStopped || st = realmRunning) then pgState else pgOk
  else if potState e ≠ potOwned ∨ potRealm e ≠ j.realm then pgState
  else match j.why with
    | .destroy => pgOk
    | .register => if s.realmSealed j.realm then pgSealed else if s.holdsCtx page then pgInuse else pgOk
    | .ticket _ => if s.holdsCtx page then pgInuse else pgOk

/-- The lines of a local page. -/
def State.pageLines (s : State) (page : Nat) : List LineAddr :=
  (upTo 64).map (fun i => BitVec.ofNat 46 (s.pkgNum * 2 ^ 41 + page * 64 + i))

/-- The home of each line of a list recalls it with SnpH (R459 step 2). -/
def State.recallLines (s : State) : List LineAddr → State
  | [] => s
  | a :: l =>
    let n := s.chanOf (lineBase a)
    ((s.modHome n (fun h => { h with recalls := h.recalls ++ [({ line := a, kind := .pageRecall } : Recall)] })).settle n a).recallLines l

/-- The recalls of a line and the requests in service on it are complete. -/
def State.lineIdle (s : State) (a : LineAddr) : Bool :=
  let n := s.chanOf (lineBase a)
  (s.txnAt n a).isNone && !(s.home n).recalls.any (fun r => decide (r.line = a)) && !s.recallHeld n a
    && !s.ucq.any (fun q => decide (q.line = a))

/-- Each line is written whole with zeros and away bit 0, under key `k` (R459 step 3). -/
def State.zeroLines (s : State) (k : Nat) : List LineAddr → State
  | [] => s
  | a :: l => (s.dramWriteKey (s.chanOf (lineBase a)) 1 0 (lineIx a) k 0 false).zeroLines k l

/-- The half that encrypts a page of realm `r` from now on: the new one while the slot is ROTATING (R464). -/
def State.halfFor (s : State) (r : Nat) : Nat := if s.keyState r = keyRotating then 1 - s.keyCur r else s.keyCur r

/-- A page enters TRANSIT and its recalls begin (R459 steps 1 and 2). -/
def State.beginPage (s : State) (page : Nat) : State :=
  let s := s.setPot page (potMake (potKeysel (s.potEntry page)) potTransit 0)
  s.recallLines (s.pageLines page)

/-- A page has its zeros and its new entry (R459 steps 3 and 4). -/
def State.endPage (s : State) (j : PageJob) (page : Nat) : State :=
  let s := s.zeroLines (if j.assign then s.keyIn j.realm (s.halfFor j.realm) else s.keyIn 0 (s.keyCur 0)) (s.pageLines page)
  s.setPot page (if j.assign then potMake (s.halfFor j.realm) potOwned j.realm else potMake (s.keyCur 0) potFree 0)

/-- A page job goes on as far as it can: the state, and the job or its RESULT. -/
def State.runPages (s : State) (j : PageJob) : Nat → State × Sum PageJob (PageJob × Nat)
  | 0 => (s, .inl j)
  | k + 1 =>
    match j.pages with
    | [] => (s, .inr (j, pgOk))
    | p :: rest =>
      if j.active then
        if (s.pageLines p).all s.lineIdle then
          (s.endPage j p).runPages { j with pages := rest, done := j.done + 1, active := false } k
        else (s, .inl j)
      else
        let why := s.pageRefusal j p
        if why ≠ pgOk then (s, .inr (j, why)) else (s.beginPage p).runPages { j with active := true } k

/-- A page command or a destroy's page step has ended (R449 step 3, R457). -/
def State.endPages (s : State) (j : PageJob) (result : Nat) : State :=
  let rec' (s : State) : State := s.emit 12 81 0xE00A j.realm [if j.assign then 1 else 2, (s.pkgNum * 2 ^ 35 + j.first) % 2 ^ 20, j.done, result]
  match j.why with
  | .register =>
    rec' (s.setReg regRlmPgcmd (putBits (putBits (putBits (s.reg regRlmPgcmd) 63 63 0) 62 60 result) 59 50 j.done))
  | .ticket c =>
    let st := if result = pgOk then stOk else if result = pgNotLocal then stBadField else stState
    (rec' s).complete c st (BitVec.ofNat 64 j.done) (BitVec.ofNat 64 result)
  | .destroy =>
    let s := s.modRealms (fun x => { x with destroyed := Tbl.set x.destroyed j.realm j.done })
    (s.keyZeroize j.realm).realmPart' j.realm false

/-- Runs a list of page jobs; those that go on are kept. -/
def State.runJobs (s : State) : List PageJob → State
  | [] => s
  | j :: l =>
    match s.runPages j (2 * j.pages.length + 1) with
    | (s, .inl j) => (s.modRealms (fun x => { x with pageJobs := x.pageJobs ++ [j] })).runJobs l
    | (s, .inr (j, result)) => (s.endPages j result).runJobs l

/-- Every page job of this package goes on. -/
def State.pageTick (s : State) : State :=
  let l := s.realms.pageJobs
  if l.isEmpty then s else (s.modRealms (fun x => { x with pageJobs := [] })).runJobs l

/-- A page command begins (R457, R458): its first page, count and realm. -/
def State.beginPages (s : State) (why : PageWhy) (assign : Bool) (realm page count : Nat) : State :=
  let loc := page % 2 ^ 35
  let j : PageJob := { why := why, realm := realm, assign := assign, first := loc, pages := (upTo count).map (· + loc) }
  if page / 2 ^ 35 ≠ s.pkgNum ∨ (s.reg regDmcTop).toNat ≤ loc * 4096 then s.endPages j pgNotLocal
  else (s.modRealms (fun x => { x with pageJobs := x.pageJobs ++ [j] })).pageTick

/-- RUN-I, RUN-S or DEGRADED: the register commands are served (R565). -/
def State.servesRegs (s : State) : Bool := decide (s.mode = modeRunI) || decide (s.mode = modeRunS) || decide (s.mode = modeDegraded)

/-- A write of RLM.PGARG that starts a page command, or is refused at once (R480, R565). -/
def State.pageCommand (s : State) (assign : Bool) (page : BitVec 40) : State :=
  if s.fld regRlmPgcmd 63 63 = 1 then s
  else
    let s := s.setFld regRlmPgarg 51 12 page.toNat
    let count := s.fld regRlmPgcmd 19 10
    let realm := s.fld regRlmPgcmd 9 0
    if !s.servesRegs || decide (count = 0) || decide (512 < count) then
      (s.setFld regRlmPgcmd 62 60 pgState).setFld regRlmPgcmd 59 50 0
    else (s.setFld regRlmPgcmd 63 63 1).beginPages .register assign realm page.toNat count

/-- R457, R459: `page` is PA[51:12] of the first page; the realm and the count stand in RLM.PGCMD. -/
def execPgcmdAssign (page : BitVec 40) (s : State) : Host.Outcome State Fault Refusal := .next (s.pageCommand true page)
def execReclaim (page : BitVec 40) (s : State) : Host.Outcome State Fault Refusal := .next (s.pageCommand false page)

/-! ## RLM.CMD (R447, R448, R450, R480) -/

/-- RESULT of RLM.CMD (R480). -/
def rcOk : Nat := 0
def rcState : Nat := 1
def rcNotManager : Nat := 2
def rcBinding : Nat := 3
def rcOwner : Nat := 4
def rcBadField : Nat := 5

/-- The command of RLM.CMD ends with a RESULT. -/
def State.rlmDone (s : State) (result : Nat) : State := (s.setFld regRlmCmd 31 31 0).setFld regRlmCmd 27 24 result

/-- The context block at `a` lies in pages of this package that realm `r` owns (R450). -/
def State.ctxOwned (s : State) (r a : Nat) : Bool :=
  let lo := a % 2 ^ 47
  let page (i : Nat) : Bool := decide (potState (s.potEntry i) = potOwned) && decide (potRealm (s.potEntry i) = r)
  decide (a / 2 ^ 47 = s.pkgNum) && decide (lo + 0x600 ≤ (s.reg regDmcTop).toNat) && page (lo / 4096) && page ((lo + 0x5ff) / 4096)

/-- The threads that CMDARG0 names: one, or both of a core; none when it names no thread of this package (R480). -/
def State.rlmThreads (s : State) (arg0 : Word) : Option (List Nat) :=
  match posOfTid (bits arg0 15 0) with
  | none => none
  | some t =>
    if bits arg0 15 11 ≠ s.pkgNum ∨ !s.threadExists t then none
    else if bit arg0 16 then (if t % 2 = 0 then some [t, t + 1] else none) else some [t]

/-- A thread may be bound to realm `r`: its core is not fenced, neither it nor its sibling, unless both are named, is bound to another
realm, and a sealed realm's core is bound whole (R146, R444, R450). -/
def State.mayBind (s : State) (r : Nat) (ts : List Nat) : Bool :=
  ts.all (fun t => !(s.core (coreOf t)).fenced && (decide (s.fld (regRlmBind0 t) 16 16 = 0) || s.boundTo t r) &&
    (let b := siblingOf t
     ts.contains b || ((decide (s.fld (regRlmBind0 b) 16 16 = 0) && !s.realmSealed r) || s.boundTo b r)))

/-- A binding entry is written (R482). -/
def State.bindThread (s : State) (r ctx t : Nat) (origin : BitVec 16) : State :=
  let w0 := putBits (putBits (s.reg (regRlmBind0 t)) 16 16 1) 9 0 r
  ((s.forgetExit t r).setLogged origin (regRlmBind0 t) w0).setLogged origin (regRlmBind1 t) (putBits 0 51 6 (ctx / 64))

def State.bindThreads (s : State) (r ctx : Nat) (origin : BitVec 16) : List Nat → State
  | [] => s
  | t :: l => (s.bindThread r ctx t origin).bindThreads r (ctx + 0x600) origin l

/-- A closed domain is to open (R598). -/
def State.openDomain (s : State) (d : Nat) : State :=
  match (Tbl.get {} s.domains d).phase with
  | .opened => s
  | _ => { s with domains := Tbl.set s.domains d { (Tbl.get {} s.domains d) with phase := .opening, since := s.clause } }

/-- BIND (R450). A thread of a closed cluster makes the command wait for the cluster's opening (R598): none. -/
def State.rlmBind (s : State) (r : Nat) (arg0 arg1 : Word) (origin : BitVec 16) : Option State :=
  match s.rlmThreads arg0 with
  | none => some (s.rlmDone rcBadField)
  | some ts =>
    let ctx := bits arg1 51 6 * 64
    let st := s.realmState r
    if r = 0 ∨ !(st = realmStopped || st = realmRunning) then some (s.rlmDone rcState)
    else if !s.mayBind r ts then some (s.rlmDone rcBinding)
    else if !(s.ctxOwned r ctx && (decide (ts.length = 1) || s.ctxOwned r (ctx + 0x600))) then some (s.rlmDone rcOwner)
    else if !s.domainOpen ((ts.headD 0) / 8) then none
    else some ((s.bindThreads r ctx origin ts).rlmDone rcOk)

/-- UNBIND (R450). -/
def State.rlmUnbind (s : State) (r : Nat) (arg0 : Word) (origin : BitVec 16) : State :=
  match s.rlmThreads arg0 with
  | none => s.rlmDone rcBadField
  | some ts =>
    if !ts.all (fun t => s.boundTo t r) then s.rlmDone rcBinding
    else if s.realmSealed r ∧ s.realmState r ≠ realmStopped then s.rlmDone rcState
    else if ts.any (fun t => decide ((s.thread t).realm.toNat = r)) then s.rlmDone rcState
    else (s.unbindAll origin ts).rlmDone rcOk

/-- START (R447): none while a sealed realm waits for uniform mode. -/
def State.rlmStart (s : State) (r : Nat) (origin : BitVec 16) : Option State :=
  if r = 0 ∨ s.realmState r ≠ realmStopped then some (s.rlmDone rcState)
  else if s.realmSealed r ∧ s.fld regThmStatus 6 6 = 0 then none
  else some (((s.setRealmState r realmRunning origin).emit 12 81 0xE003 r [realmStopped, realmRunning]).rlmDone rcOk)

/-- STOP (R447). -/
def State.rlmStop (s : State) (r : Nat) (origin : BitVec 16) : State :=
  if r = 0 ∨ s.realmState r ≠ realmRunning then s.rlmDone rcState
  else ((s.setRealmState r realmStopped origin).emit 12 81 0xE003 r [realmRunning, realmStopped]).rlmDone rcOk

/-- A command of RLM.CMD is executed, or waits: none. -/
def State.runReg (s : State) (cmd r : Nat) (arg0 arg1 : Word) (origin : BitVec 16) : Option State :=
  if cmd = 3 then s.rlmBind r arg0 arg1 origin
  else if cmd = 4 then some (s.rlmUnbind r arg0 origin)
  else if !s.isManager then some (s.rlmDone rcNotManager)
  else if cmd = 1 then s.rlmStart r origin
  else if cmd = 2 then some (s.rlmStop r origin)
  else some (s.rlmDone rcBadField)

/-! ## Realm commands of the platform host (R447, R449, R464, R467) -/

/-- The realm and mask that a realm command names, and its MIN values. -/
def cmdRealm (c : Command) : Nat := bits (cmdWord c 0) 9 0

/-- The checks of a seal, with the command's mask and MIN values (R467). -/
def State.sealMins (s : State) (c : Command) : List Nat := (upTo 4).map (s.sealMin (cmdWord c 2))

def State.commandSealCheck (s : State) (c : Command) : Option (Nat × Nat) :=
  s.sealCheck (cmdRealm c) (s.sealMask (cmdRealm c) (bits (cmdWord c 1) 15 0)) (s.sealMins c)

/-- Code E00Bh on the package whose check fails (R467). -/
def State.sealFailed (s : State) (c : Command) (f : Nat × Nat) : State := s.emit 12 81 0xE00B (cmdRealm c) [f.1, f.2]

/-- The MIN of each group of a list is written to the realm's regulators on every member. -/
def State.writeMins (s : State) (r : Nat) (mins : List Nat) (origin : BitVec 16) : List Nat → State
  | [] => s
  | g :: l =>
    let off := regRlmReg0 (g * 1024 + r)
    (s.setRealmWord off (putBits (s.reg off) 12 0 (mins.getD g 0)) origin).writeMins r mins origin l

/-- REALM_CREATE takes effect (R447). -/
def State.createRealm (s : State) (c : Command) (sealing : Bool) : State :=
  let r := cmdRealm c
  let named := bits (cmdWord c 1) 15 0
  let mask := if sealing then s.sealMask r named else if named = 0 then 0xffff else named
  let mins := if sealing then s.sealMins c else (upTo 4).map (fun g => satTo 0x1000 (bits (cmdWord c 2) (16 * g + 12) (16 * g)))
  let s := s.writeMins r mins s.hostOrigin (upTo 4)
  let w := putBits (putBits (putBits (putBits (s.reg (regRlmTable0 r)) 63 48 mask) 32 32 (b2n sealing)) 18 16 realmStopped) 15 0 0
  let s := s.setRealmWord (regRlmTable0 r) w s.hostOrigin
  (s.emit 12 81 0xE000 r [b2n sealing, mask]).ok c

/-- REALM_SEAL takes effect (R467). -/
def State.sealRealm (s : State) (c : Command) : State :=
  let r := cmdRealm c
  let mask := s.sealMask r (bits (cmdWord c 1) 15 0)
  let mins := s.sealMins c
  let s := s.writeMins r mins s.hostOrigin (upTo 4)
  let w := putBits (putBits (s.reg (regRlmTable0 r)) 63 48 mask) 32 32 1
  let s := s.setRealmWord (regRlmTable0 r) w s.hostOrigin
  (s.emit 12 81 0xE004 r [1, mask, mins.getD 0 0]).ok c

/-- Every member has answered the checks of a seal: the effect, or the refusal. -/
def State.sealAnswered (s : State) (c : Command) (status : Nat) : State :=
  if status ≠ stOk then s.refuseState c
  else if c.opcode = 0x0022 then s.sealRealm c else s.createRealm c true

/-- A command's part for other members is sent; the manager waits for their answers. -/
def State.askMembers (s : State) (c : Command) (phase : Nat) (ps : List Nat) : State :=
  let c := { c with phase := phase }
  let j : MemberJob := { cmd := c, waiting := ps, started := s.clause }
  ({ s with memberJobs := s.memberJobs ++ [j] }).passAll c ps

/-- The checks of a seal run on this package, then on every other member. -/
def State.askSeal (s : State) (c : Command) : State :=
  match s.commandSealCheck c with
  | some f => (s.sealFailed c f).refuseState c
  | none => if s.otherMembers.isEmpty then s.sealAnswered c stOk else s.askMembers c 1 s.otherMembers

/-- REALM_DESTROY begins (R449). -/
def State.destroyRealm (s : State) (c : Command) : State :=
  let r := cmdRealm c
  let w : RealmWait := { kind := .destroy c, realm := r, started := s.clause, waiting := s.pkgNum :: s.otherMembers }
  ((s.modRealms (fun x => { x with waits := x.waits ++ [w] })).setRealmState r realmDestroying s.hostOrigin).pageTick

/-- A key rotation begins on this package (R464 step 1). -/
def State.beginSweep (s : State) (r : Nat) : State :=
  let pages := s.ownedPages r
  let s := ((((s.keyRead r).genKey r (1 - s.keyCur r)).setFld (regKeySlot r) 2 0 keyRotating).addFld (regKeySlot r) 23 8 1).keyLogged (s.fld (regKeySlot r) 3 0) r
  let s := s.emit 12 81 0xE007 r [pages.length]
  let w := putBits (putBits (putBits (s.reg regKeyRotstat) 63 54 r) 53 53 1) 30 0 (pages.headD 0)
  (s.setReg regKeyRotstat w).modRealms (fun x => { x with sweeps := x.sweeps ++ [{ realm := r, pages := pages, total := pages.length }] })

/-- A rotation ends on this package: CUR names the new half, and the old one is zeroized (R464 step 3). -/
def State.endRotation (s : State) (r : Nat) : State :=
  (((s.eraseKey r (s.keyCur r)).setFld (regKeySlot r) 3 3 (1 - s.keyCur r)).setFld (regKeySlot r) 2 0 keyActive).keyLogged (s.fld (regKeySlot r) 3 0) r

/-- KEY_ROTATE begins on every member (R464). -/
def State.rotateKey (s : State) (c : Command) : State :=
  let r := cmdRealm c
  let (s, c) := s.startLong c
  let w : RealmWait := { kind := .rotate c, realm := r, started := s.clause, waiting := s.pkgNum :: s.otherMembers }
  let s := s.modRealms (fun x => { x with waits := x.waits ++ [w] })
  (s.sendAll .event (.report (.rotate (BitVec.ofNat 10 r) false)) s.otherMembers).beginSweep r

/-- A realm command is executed on the manager, in the mode that allows it (R447). -/
def State.runTicket (s : State) (c : Command) : State :=
  let r := cmdRealm c
  let st := s.realmState r
  let op := c.opcode.toNat
  let live := decide (st = realmStopped) || decide (st = realmRunning)
  if r = 0 then s.refuseState c
  else if op = 0x20 then
    if st ≠ realmFree then s.refuseState c else if bit (cmdWord c 0) 16 then s.askSeal c else s.createRealm c false
  else if op = 0x21 then
    if st ≠ realmStopped ∨ s.keyState r ≠ keyActive then s.refuseState c else s.destroyRealm c
  else if op = 0x22 then (if st ≠ realmStopped then s.refuseState c else s.askSeal c)
  else if op = 0x23 then
    if st ≠ realmStopped then s.refuseState c
    else
      let w := s.reg (regRlmTable0 r)
      let s := s.setRealmWord (regRlmTable0 r) (putBits w 32 32 0) s.hostOrigin
      (s.emit 12 81 0xE004 r [0, bits w 63 48, s.fld (regRlmReg0 r) 12 0]).ok c
  else if op = 0x24 then (if !live || decide (s.keyState r ≠ keyActive) then s.refuseState c else s.rotateKey c)
  else if op = 0x25 then
    if !live then s.refuseState c else s.beginPages (.ticket c) false r (bits (cmdWord c 1) 51 12) (cmdWord c 2).toNat
  else s.refuseState c

/-! ## One at a time, in order (R448) -/

/-- A realm command is in progress: checks of a seal are out, or a command waits for uniform mode or a domain. -/
def State.realmBusy (s : State) : Bool :=
  s.realms.hold.isSome || s.memberJobs.any (fun j => decide (j.cmd.opcode = 0x20) || decide (j.cmd.opcode = 0x22))

/-- A realm command runs; one that must wait is held. -/
def State.runTask (s : State) (t : RealmTask) : State :=
  match t with
  | .ticket c => s.runTicket c
  | .reg cmd r a0 a1 o => match s.runReg cmd r a0 a1 o with
    | some s => s
    | none =>
      let s := match cmd, posOfTid (bits a0 15 0) with
        | 3, some p => s.openDomain (p / 8)
        | _, _ => s
      s.modRealms (fun x => { x with hold := some t })

/-- The realm commands that wait run while none is in progress. -/
def State.realmNext (s : State) : Nat → State
  | 0 => s
  | k + 1 =>
    if s.realmBusy then s
    else match s.realms.queue with
      | [] => s
      | t :: l => ((s.modRealms (fun x => { x with queue := l })).runTask t).realmNext k

/-- A realm command arrives. -/
def State.realmCommand (s : State) (t : RealmTask) : State :=
  (s.modRealms (fun x => { x with queue := x.queue ++ [t] })).realmNext (s.realms.queue.length + 1)

/-- The command that waited for uniform mode or for a domain is tried again. -/
def State.retryHeld (s : State) : State :=
  match s.realms.hold with
  | none => s
  | some t => ((s.modRealms (fun x => { x with hold := none })).runTask t).realmNext (s.realms.queue.length + 1)

/-- A write of RLM.CMD (R480, R565). -/
def State.rlmCommand (s : State) (cmd : Nat) (realm : Nat) (origin : BitVec 16) : State :=
  if s.fld regRlmCmd 31 31 = 1 then s
  else
    let s := s.setFld regRlmCmd 9 0 realm
    if !s.servesRegs then s.rlmDone rcState
    else (s.setFld regRlmCmd 31 31 1).realmCommand (.reg cmd realm (s.reg regRlmCmdarg0) (s.reg regRlmCmdarg1) origin)

/-- R447, R450: RLM.CMD is written with START, STOP, BIND or UNBIND by `origin`; the arguments of the last two stand in
RLM.CMDARG0 and RLM.CMDARG1. -/
def execStart (realm : Realm) (origin : BitVec 16) (s : State) : Host.Outcome State Fault Refusal := .next (s.rlmCommand 1 realm.toNat origin)
def execStop (realm : Realm) (origin : BitVec 16) (s : State) : Host.Outcome State Fault Refusal := .next (s.rlmCommand 2 realm.toNat origin)
def execBind (realm : Realm) (origin : BitVec 16) (s : State) : Host.Outcome State Fault Refusal := .next (s.rlmCommand 3 realm.toNat origin)
def execUnbind (realm : Realm) (origin : BitVec 16) (s : State) : Host.Outcome State Fault Refusal := .next (s.rlmCommand 4 realm.toNat origin)

/-! ## The ends of what waits for every member -/

/-- A rotation, a destroy or a reset that every member has finished (R449 step 4, R464 step 3, R476 step 4). -/
def State.endWait (s : State) (w : RealmWait) : State :=
  let s := s.modRealms (fun x => { x with waits := x.waits.erase w })
  match w.kind with
  | .rotate c =>
    let s := (s.sendAll .event (.report (.rotate (BitVec.ofNat 10 w.realm) true)) s.otherMembers).endRotation w.realm
    (s.emit 12 81 0xE008 w.realm [(s.clause.toNat - w.started.toNat) % 2 ^ 32]).ok c
  | .destroy c =>
    let s := s.setRealmWord (regRlmTable1 w.realm) 0 s.hostOrigin
    let s := s.setRealmWord (regRlmTable0 w.realm) (regReset (regRlmTable0 w.realm)) s.hostOrigin
    (s.emit 12 81 0xE001 w.realm [Tbl.get 0 s.realms.destroyed w.realm]).ok c
  | .reset code p =>
    let old := s.reg (regRlmTable0 w.realm)
    let n := satTo 0xffff (bits old 15 0 + 1)
    let s := s.setRealmWord (regRlmTable0 w.realm) (putBits (putBits old 18 16 realmStopped) 15 0 n) s.selfOrigin
    s.emit 12 81 0xE002 w.realm [code, p, n]

/-- Whether a wait is the reset of a realm; the reset ends by REALM_RESET_DONE, the others at once. -/
def RealmWait.isReset (w : RealmWait) : Bool := match w.kind with
  | .reset _ _ => true
  | _ => false

def State.endWaits (s : State) : List RealmWait → State
  | [] => s
  | w :: l => (s.endWait w).endWaits l

/-- Destroys and rotations that every member has finished end. -/
def State.finishWaits (s : State) : State := s.endWaits (s.realms.waits.filter (fun w => w.waiting.isEmpty && !w.isReset))

/-- A member has finished its part (R464, R476). -/
def State.memberFinished (s : State) (p r : Nat) (sweep : Bool) : State :=
  (s.modRealms (fun x => { x with waits := x.waits.map (fun (w : RealmWait) =>
    let mine := match w.kind with
      | .rotate _ => sweep
      | _ => !sweep
    if w.realm = r && mine then { w with waiting := w.waiting.filter (· ≠ p) } else w) })).finishWaits

/-- R476 step 4: every member has finished, and the realm is STOPPED. -/
def execRealmResetDone (realm : Realm) (s : State) : Host.Outcome State Fault Refusal :=
  .next (match s.realms.waits.find? (fun w => decide (w.realm = realm.toNat) && w.isReset && w.waiting.isEmpty) with
  | some w => s.endWait w
  | none => s)

/-- The manager resolves a UE-R (R476 step 2). -/
def State.resolveUeR (s : State) (r code p : Nat) : State :=
  let st := s.realmState r
  if st = realmStopped ∨ st = realmRunning then
    let w : RealmWait := { kind := .reset code p, realm := r, started := s.clause, waiting := s.pkgNum :: s.otherMembers }
    (s.modRealms (fun x => { x with waits := x.waits ++ [w] })).setRealmState r realmResetting s.selfOrigin
  else s

/-! ## The sweep (R464) -/

/-- Each line of a page is read under its key and written, with the away bit it has, under key `k`; a line never written is left as it
is. An uncorrectable one is handled under R391, and its zeros stand under the new key (R464 step 2). -/
def State.rekeyLines (s : State) (r k : Nat) : List LineAddr → State
  | [] => s
  | a :: l =>
    let n := s.chanOf (lineBase a)
    let x := lineIx a
    (if !s.isWritten x then s else match s.dramRead n 1 x 1 .clean with
      | (s, some d) => s.dramWriteKey n 1 r x k d (s.isAway x)
      | (s, none) => s.storeLine x k 0 true).rekeyLines r k l

/-- R464 step 2: the next page of the realm moves to the new half; the sweep pauses while the sources are held (R567). -/
def execKeyRotateSweep (s : State) : Host.Outcome State Fault Refusal :=
  if s.sourcesHeld then .next s
  else match s.realms.sweeps with
  | [] => .next s
  | w :: l =>
    match w.pages with
    | p :: rest =>
      let e := s.potEntry p
      let new := s.halfFor w.realm
      let s := if potState e = potOwned ∧ potRealm e = w.realm then
          (s.rekeyLines w.realm (s.keyIn w.realm new) (s.pageLines p)).setPot p (potMake new potOwned w.realm) else s
      let s := s.setFld regKeyRotstat 30 0 (rest.headD (p + 1))
      .next (s.modRealms (fun x => { x with sweeps := { w with pages := rest } :: l }))
    | [] =>
      let s := (s.modRealms (fun x => { x with sweeps := l })).setFld regKeyRotstat 53 53 (b2n !l.isEmpty)
      .next ((s.realmPart' w.realm true).finishWaits)

end Sys2Proof.Machine
end

