-- ==== Sys2Proof/Machine/EngineOps.lean ====
section
/-! DEFINITION. The operations of the predicate engines, a segment at a time (11_predicate_engines.md R414 to R432), the ends of
segments and descriptors (R418, R433, R438), and the context commands (R404 to R406). -/
namespace Sys2Proof.Machine
open Sys2Proof

/-! ## Addresses (R398) -/

/-- The first failed check among local pages, each looked up in the page-ownership cache. -/
def State.checkPages (s : State) (realm : Nat) : List Nat → State × Nat
  | [] => (s, peOk)
  | p :: l =>
    let s := s.ownCacheRead p
    if s.ownOk realm p then s.checkPages realm l else (s, peOwner)

/-- R398 for bytes [pa, pa + n). -/
def State.checkRange (s : State) (realm pa n : Nat) : State × Nat :=
  let lo := pa % 2 ^ 47
  if n = 0 then (s, peOk)
  else if pa / 2 ^ 47 ≠ s.pkgNum ∨ (s.reg regDmcTop).toNat < lo + n then (s, peNotLocal)
  else s.checkPages realm ((upTo ((lo + n - 1) / 4096 - lo / 4096 + 1)).map (· + lo / 4096))

def State.checkRanges (s : State) (realm : Nat) : List (Nat × Nat) → State × Nat
  | [] => (s, peOk)
  | (pa, n) :: l =>
    let (s, st) := s.checkRange realm pa n
    if st = peOk then s.checkRanges realm l else (s, st)

/-! ## What a segment may read and write -/

/-- A segment's outcome: none while its reads are outstanding. -/
abbrev SegOut := State × Option EngRun

/-- The descriptor ends with a status for which R420 gives no RESULT (log entry 32). -/
def failRun (s : State) (r : EngRun) (st : Nat) : SegOut := (s.spendFree, some { r with status := some st, result := s.freeWord })

/-- The bytes of every range, once their lines have come. -/
def State.fetchAll (s : State) (e : Nat) (realm : Nat) : List (Nat × Nat) → State × Option (List Nat)
  | [] => (s, some [])
  | (pa, n) :: l =>
    let (s, v) := s.portReadBytes (engPort e) (BitVec.ofNat 10 realm) pa n
    let (s, vs) := s.fetchAll e realm l
    (s, match v, vs with
      | some x, some xs => some (x :: xs)
      | _, _ => none)

/-- Reads ranges after their checks (R398), and goes on when all have come. -/
def State.engRead (s : State) (e realm : Nat) (r : EngRun) (l : List (Nat × Nat)) (k : State → List Nat → SegOut) : SegOut :=
  let (s, st) := s.checkRanges realm l
  if st ≠ peOk then failRun s r st
  else
    let (s, v) := s.fetchAll e realm l
    match v with
    | some vs => k s vs
    | none => if (s.port (engPort e)).failed.isEmpty then (s, none) else failRun s r peOwner

/-- Writes ranges after the checks of all (R398, R400). -/
def State.putAll (s : State) (e realm : Nat) : List (Nat × Nat × Nat) → State
  | [] => s
  | (pa, n, v) :: l => (s.portWriteBytes (engPort e) (BitVec.ofNat 10 realm) pa n v (n / 64 + 2)).putAll e realm l

def State.engWrite (s : State) (e realm : Nat) (r : EngRun) (l : List (Nat × Nat × Nat)) (k : State → SegOut) : SegOut :=
  let (s, st) := s.checkRanges realm (l.map (fun x => (x.1, x.2.1)))
  if st ≠ peOk then failRun s r st
  else k ((s.putAll e realm l).noteWrites e r.ctx (s.port (engPort e)).writes.length)

/-- P word `i` of the descriptor. -/
def EngRun.p (r : EngRun) (i : Nat) : Nat := (r.words.getD (i + 1) 0).toNat
/-- Bits of the control word P6. -/
def EngRun.ctl (r : EngRun) (hi lo : Nat) : Nat := natBits (r.p 6) hi lo
def EngRun.op (r : EngRun) : Nat := bits (r.words.getD 0 0) 7 0
/-- COUNT or LEN. -/
def EngRun.count (r : EngRun) : Nat := match r.op with
  | 4 => r.p 1
  | _ => r.p 2

/-- Element `i` of packed elements of `w` bytes. -/
def elt (v w i : Nat) : Nat := v / 2 ^ (8 * w * i) % 2 ^ (8 * w)
/-- Elements packed, the first lowest. -/
def packed (w : Nat) : List Nat → Nat
  | [] => 0
  | x :: l => x % 2 ^ (8 * w) + 2 ^ (8 * w) * packed w l
/-- Bits packed, the first lowest (R422). -/
def packBits : List Bool → Nat
  | [] => 0
  | b :: l => b2n b + 2 * packBits l
/-- Bytes that hold `n` bits. -/
def bitBytes (n : Nat) : Nat := (n + 7) / 8

/-- The segment is done: `n` more, and the status OK with RESULT when that was all. -/
def EngRun.step (r : EngRun) (n : Nat) (result : Nat) : EngRun :=
  let r := { r with pos := r.pos + n }
  if r.pos ≥ r.count then { r with status := some peOk, result := BitVec.ofNat 64 result } else r

/-- The descriptor stops before its end, with RESULT. -/
def EngRun.stop (r : EngRun) (status result : Nat) : EngRun := { r with status := some status, result := BitVec.ofNat 64 result }

/-! ## Columns and predicates (R421 to R424) -/

/-- The type and width pairs of R421. -/
def colOk (type width : Nat) : Bool := match type with
  | 0 => [1, 2, 4, 8, 16].contains width
  | 1 => [1, 2, 4, 8, 16].contains width
  | 2 => [4, 8].contains width
  | 3 => decide (1 ≤ width ∧ width ≤ 16)
  | _ => false

/-- The place of an IEEE 754 value in its order; none for a NaN (R421). -/
def floatKey (w v : Nat) : Option Int :=
  let m := if w = 4 then 23 else 52
  let top := 2 ^ (8 * w - 1)
  let mag := v % top
  if (2 ^ (8 * w - 1 - m) - 1) * 2 ^ m < mag then none else some (if v ≥ top then -(mag : Int) else (mag : Int))

/-- The place of a value in the order of its type. -/
def valueKey (type w v : Nat) : Option Int := match type with
  | 0 => some (v : Int)
  | 1 => some (signedOf (8 * w) v)
  | 2 => floatKey w v
  | _ => some ((beNat (leBytes v w) : Nat) : Int)

/-- A predicate entry (R423). -/
structure Pred where
  col : Nat
  nullmap : Nat
  control : Nat
  reserved : Nat
  c1 : Nat
  c2 : Nat
  deriving DecidableEq, Repr

def Pred.of (v : Nat) : Pred :=
  { col := elt v 8 0, nullmap := elt v 8 1, control := elt v 8 2, reserved := elt v 8 3, c1 := elt v 16 2, c2 := elt v 16 3 }
def Pred.oper (p : Pred) : Nat := natBits p.control 3 0
def Pred.type (p : Pred) : Nat := natBits p.control 7 4
def Pred.width (p : Pred) : Nat := natBits p.control 12 8
def Pred.hasNull (p : Pred) : Bool := p.control.testBit 13
/-- The entry's fields are valid (R414, R424). -/
def Pred.ok (p : Pred) : Bool := decide (p.control / 2 ^ 14 = 0) && decide (p.reserved = 0) && decide (p.oper ≤ 9) && colOk p.type p.width

/-- A comparison of two values of the predicate's type; false for a NaN (R424). -/
def Pred.cmp (p : Pred) (f : Int → Int → Bool) (a b : Nat) : Bool :=
  match valueKey p.type p.width a, valueKey p.type p.width b with
  | some x, some y => f x y
  | _, _ => false

/-- R424: TRUE, FALSE or UNKNOWN (none) for a value. -/
def Pred.eval (p : Pred) (v : Nat) (null : Bool) : Option Bool :=
  let c1 := p.c1 % 2 ^ (8 * p.width)
  let c2 := p.c2 % 2 ^ (8 * p.width)
  if p.oper = 8 then some null
  else if p.oper = 9 then some (!null)
  else if null then none
  else some (match p.oper with
    | 0 => p.cmp (fun x y => decide (x = y)) v c1
    | 1 => !p.cmp (fun x y => decide (x = y)) v c1
    | 2 => p.cmp (fun x y => decide (x < y)) v c1
    | 3 => p.cmp (fun x y => decide (x ≤ y)) v c1
    | 4 => p.cmp (fun x y => decide (y < x)) v c1
    | 5 => p.cmp (fun x y => decide (y ≤ x)) v c1
    | 6 => p.cmp (fun x y => decide (y ≤ x)) v c1 && p.cmp (fun x y => decide (x ≤ y)) v c2
    | _ => decide (v &&& c2 = c1))

/-- The three-valued combination, AND or OR; TRUE only (R425). -/
def combineTrue (orMode : Bool) (l : List (Option Bool)) : Bool :=
  if orMode then l.any (fun x => decide (x = some true)) else l.all (fun x => decide (x = some true))

/-! ## The checks of a descriptor's fields (R414, R420) -/

def EngRun.zeroP (r : EngRun) (l : List Nat) : Bool := l.all (fun i => decide (r.p i = 0))

/-- The fields of the descriptor that are valid for its operation, predicates apart. -/
def EngRun.fieldsOk (r : EngRun) : Bool :=
  let w0 := r.words.getD 0 0
  decide (bits w0 15 11 = 0) && decide (bits w0 31 16 = 0) && decide (r.op = 0 ∨ r.count ≤ 2 ^ 40) && (match r.op with
    | 0 => r.zeroP [0, 1, 2, 3, 4, 5, 6]
    | 1 =>
      let form := r.ctl 6 5
      decide (r.ctl 63 8 = 0) && decide (1 ≤ r.ctl 3 0 ∧ r.ctl 3 0 ≤ 8) && decide (form ≠ 3) && decide (r.p 0 % 64 = 0) &&
        decide (form ≠ 0 ∨ r.p 5 = 0) && decide (form ≠ 1 ∨ r.count = 0 ∨ r.p 1 + r.count - 1 ≤ 0xFFFFFFFF)
    | 2 => decide (r.ctl 63 7 = 0) && decide (1 ≤ r.ctl 4 0 ∧ r.ctl 4 0 ≤ 16) && decide (r.ctl 6 6 = 1 ∨ r.p 5 = 0)
    | 3 => decide (r.ctl 63 10 = 0) && decide (r.p 4 % 64 = 0) && r.zeroP [5] && decide (r.ctl 9 8 ≤ 1) && colOk (r.ctl 9 8) (r.ctl 4 0)
    | 4 => decide (r.ctl 63 41 = 0) && decide (1 ≤ r.ctl 12 0 ∧ r.ctl 12 0 ≤ 4096) && decide (1 ≤ r.ctl 29 25 ∧ r.ctl 29 25 ≤ 16) &&
        decide (1 ≤ r.ctl 40 30 ∧ r.ctl 40 30 ≤ 1024) && decide (r.ctl 24 13 + r.ctl 29 25 ≤ r.ctl 12 0) && decide (r.p 2 % 64 = 0) &&
        decide (r.p 3 < 2 ^ 32) && r.zeroP [4, 5]
    | 5 => decide (r.ctl 63 7 = 0) && decide (1 ≤ r.ctl 4 0 ∧ r.ctl 4 0 ≤ 16) && decide (r.ctl 5 5 = 1 ∨ r.p 5 = 0)
    | 6 => r.zeroP [3, 4, 5, 6]
    | 7 => r.zeroP [0, 4, 5, 6]
    | _ => decide (r.p 3 < 2 ^ 32) && r.zeroP [1, 4, 5, 6])

/-- The status with which a descriptor ends before it reads anything, if it does. -/
def EngRun.early (r : EngRun) : Option Nat :=
  if 8 < r.op then some peBadOp
  else if !r.fieldsOk then some peBadField
  else if r.op = 6 ∧ r.p 0 < r.p 1 + r.p 2 ∧ r.p 1 < r.p 0 + r.p 2 then some peOverlap
  else none

/-! ## Segments -/

/-- Rows, records or ids of the next segment. -/
def EngRun.rows (r : EngRun) : Nat := if r.count - r.pos < 16384 then r.count - r.pos else 16384
def EngRun.bytes (r : EngRun) : Nat := if r.count - r.pos < 65536 then r.count - r.pos else 65536

/-- The column ranges of the predicates for `n` rows from `pos`. -/
def predRanges (pos n : Nat) : List Pred → List (Nat × Nat)
  | [] => []
  | p :: l => (p.col + pos * p.width, n * p.width) :: (p.nullmap + pos / 8, if p.hasNull then bitBytes n else 0) :: predRanges pos n l

/-- What the predicates give for row `i`, from the values of `predRanges`. -/
def predRow (i : Nat) : List Pred → List Nat → List (Option Bool)
  | p :: l, c :: m :: vs => p.eval (elt c p.width i) (p.hasNull && m.testBit i) :: predRow i l vs
  | _, _ => []

/-- SCAN-FILTER (R425). -/
def State.segScan (s : State) (e realm : Nat) (r : EngRun) : SegOut :=
  let np := r.ctl 3 0
  let n := r.rows
  s.engRead e realm r [(r.p 0, np * 64)] (fun s blk =>
    let ps := (upTo np).map (fun i => Pred.of (elt (blk.headD 0) 64 i))
    if !ps.all Pred.ok then failRun s r peBadField
    else
      let hasSel := r.ctl 7 7 = 1
      s.engRead e realm r ((r.p 3 + r.pos / 8, if hasSel then bitBytes n else 0) :: predRanges r.pos n ps) (fun s vs =>
        let sel := vs.headD 0
        let hit (i : Nat) : Bool := combineTrue (decide (r.ctl 4 4 = 1)) (predRow i ps vs.tail) && (!hasSel || sel.testBit i)
        if r.ctl 6 5 = 0 then
          let v := packBits ((upTo n).map hit)
          s.engWrite e realm r [(r.p 4 + r.pos / 8, bitBytes n, v)] (fun s =>
            let out := r.out + ((upTo n).filter hit).length
            (s, some (({ r with out := out }).step n out)))
        else
          let w := if r.ctl 6 5 = 1 then 4 else 8
          let rows := (upTo n).filter hit
          let room := r.p 5 - r.out
          let ids := (rows.take room).map (fun i => r.p 1 + r.pos + i)
          s.engWrite e realm r [(r.p 4 + r.out * w, ids.length * w, packed w ids)] (fun s =>
            match rows.drop room with
            | [] => (s, some (({ r with out := r.out + ids.length }).step n (r.out + ids.length)))
            | i :: _ => (s, some (({ r with out := r.out + ids.length }).stop peOutFull (r.pos + i))))))

/-- PROJECT (R426): the values, and the bits of the DST null map, whose last incomplete byte waits. -/
def State.segProject (s : State) (e realm : Nat) (r : EngRun) : SegOut :=
  let n := r.rows
  let w := r.ctl 4 0
  let hasNull := r.ctl 5 5 = 1
  s.engRead e realm r [(r.p 3 + r.pos / 8, bitBytes n), (r.p 0 + r.pos * w, n * w), (r.p 1 + r.pos / 8, if hasNull then bitBytes n else 0)] (fun s vs =>
    let rows := (upTo n).filter (fun i => (vs.getD 0 0).testBit i)
    let vals := rows.map (fun i => elt (vs.getD 1 0) w i)
    let k := vals.length
    let last := decide (r.pos + n ≥ r.count)
    let have' := r.out % 8
    let v := r.buf + packBits (rows.map (fun i => hasNull && (vs.getD 2 0).testBit i)) * 2 ^ have'
    let nb := if last then bitBytes (have' + k) else (have' + k) / 8
    let nulls := if r.ctl 6 6 = 1 then [(r.p 5 + r.out / 8, nb, v)] else []
    s.engWrite e realm r ((r.p 4 + r.out * w, k * w, packed w vals) :: nulls) (fun s =>
      (s, some (({ r with out := r.out + k, buf := v / 2 ^ (8 * nb) }).step n (r.out + k)))))

/-- The extremes with one more value. -/
def widen (x : Option (Int × Int)) (v : Int) : Option (Int × Int) := match x with
  | none => some (v, v)
  | some (a, b) => some (if v < a then v else a, if b < v then v else b)

/-- A row of AGGREGATE. -/
def EngRun.aggRow (r : EngRun) (null : Bool) (v : Int) : EngRun :=
  if null then { r with nulls := r.nulls + 1 } else { r with cnt := r.cnt + 1, sum := r.sum + v, ext := widen r.ext v }

/-- 128-bit two's complement of a number. -/
def nat128 (v : Int) : Nat := (v % ((2 ^ 128 : Nat) : Int)).toNat

/-- The result block, OVF and EMPTY, from the rows aggregated and the block already there (R428). -/
def EngRun.aggEnd (r : EngRun) (old : Nat) : Nat × Bool × Bool :=
  let signed := decide (r.ctl 9 8 = 1)
  let num (v : Nat) : Int := if signed then signedOf 128 v else (v : Int)
  let acc := decide (r.ctl 7 7 = 1)
  let oldCount := if acc then elt old 8 0 else 0
  let count := (oldCount + r.cnt) % 2 ^ 64
  let nulls := ((if acc then elt old 8 1 else 0) + r.nulls) % 2 ^ 64
  let sum := (if acc then num (elt old 16 1) else 0) + r.sum
  let ext := if oldCount = 0 then r.ext else widen (widen r.ext (num (elt old 16 2))) (num (elt old 16 3))
  let (mn, mx) := if count = 0 then (0, 0) else ext.getD (0, 0)
  let past := if signed then decide (sum < -((2 ^ 127 : Nat) : Int) ∨ ((2 ^ 127 : Nat) : Int) ≤ sum) else decide (((2 ^ 128 : Nat) : Int) ≤ sum)
  (count + nulls * 2 ^ 64 + nat128 sum * 2 ^ 128 + nat128 mn * 2 ^ 256 + nat128 mx * 2 ^ 384, past, decide (count = 0))

/-- AGGREGATE (R428). The block is read and written once all rows have been read (R416). -/
def State.segAggregate (s : State) (e realm : Nat) (r : EngRun) : SegOut :=
  let n := r.rows
  let w := r.ctl 4 0
  let hasNull := r.ctl 5 5 = 1
  let hasSel := r.ctl 6 6 = 1
  let last := decide (r.pos + n ≥ r.count)
  s.engRead e realm r [(r.p 0 + r.pos * w, n * w), (r.p 1 + r.pos / 8, if hasNull then bitBytes n else 0),
      (r.p 3 + r.pos / 8, if hasSel then bitBytes n else 0), (r.p 4, if last ∧ r.ctl 7 7 = 1 then 64 else 0)] (fun s vs =>
    let key (i : Nat) : Int := let v := elt (vs.getD 0 0) w i
      if r.ctl 9 8 = 1 then signedOf (8 * w) v else (v : Int)
    let rows := (upTo n).filter (fun i => !hasSel || (vs.getD 2 0).testBit i)
    let r := rows.foldl (fun (x : EngRun) i => x.aggRow (hasNull && (vs.getD 1 0).testBit i) (key i)) r
    if !last then (s, some (r.step n 0))
    else
      let (blk, ovf, empty) := r.aggEnd (vs.getD 3 0)
      s.engWrite e realm r (if r.count = 0 then [] else [(r.p 4, 64, blk)]) (fun s =>
        (s, some (({ r with ovf := ovf, empty := empty }).step n r.cnt))))

/-- What HASH-PARTITION has done with the records of a segment: FILL by partition, the copies, how many, the full partition. -/
structure Parted where
  fills : Tbl Nat
  writes : List (Nat × Nat × Nat) := []
  placed : Nat := 0
  full : Option Nat := none
  deriving DecidableEq, Repr

/-- One record (R429). -/
def EngRun.part (r : EngRun) (table : Nat) (x : Parted) (record : Nat) : Parted :=
  match x.full with
  | some _ => x
  | none =>
    let recw := r.ctl 12 0
    let keyw := r.ctl 29 25
    let key := record / 2 ^ (8 * r.ctl 24 13) % 2 ^ (8 * keyw)
    let h := (crc32c (BitVec.ofNat 32 (r.p 3)) (leBytes key keyw)).toNat
    let p := h * r.ctl 40 30 / 2 ^ 32
    let entry := elt table 16 p
    let fill := (Tbl.find x.fills p).getD (elt entry 4 3)
    if elt entry 4 2 ≤ fill then { x with full := some p }
    else { x with fills := Tbl.set x.fills p (fill + 1), writes := x.writes ++ [(elt entry 8 0 + fill * recw, recw, record)], placed := x.placed + 1 }

/-- FILL of every partition that has grown (R429). -/
def EngRun.fillWrites (r : EngRun) : List (Nat × Nat × Nat) := r.fills.map (fun x => (r.p 2 + x.1 * 16 + 12, 4, x.2))

/-- HASH-PARTITION (R429). -/
def State.segHash (s : State) (e realm : Nat) (r : EngRun) : SegOut :=
  let n := r.rows
  let recw := r.ctl 12 0
  s.engRead e realm r [(r.p 2, r.ctl 40 30 * 16), (r.p 0 + r.pos * recw, n * recw)] (fun s vs =>
    let x := ((upTo n).map (fun i => elt (vs.getD 1 0) recw i)).foldl (fun x v => r.part (vs.getD 0 0) x v) { fills := r.fills }
    s.engWrite e realm r x.writes (fun s =>
      let r := { r with fills := x.fills, out := r.out + x.placed }
      let r := match x.full with
        | some p => r.stop pePartFull (r.out + p * 2 ^ 48)
        | none => r.step n r.out
      if r.status.isSome then s.engWrite e realm r r.fillWrites (fun s => (s, some r)) else (s, some r)))

/-- Where GATHER's output null map begins (R427). -/
def EngRun.gatherMap (r : EngRun) : Nat := (r.p 3 + r.count * r.ctl 4 0 + 7) / 8 * 8

/-- GATHER (R427). -/
def State.segGather (s : State) (e realm : Nat) (r : EngRun) : SegOut :=
  let n := r.rows
  let w := r.ctl 4 0
  let hasNull := decide (r.ctl 5 5 = 1)
  let iw := if r.ctl 6 6 = 1 then 8 else 4
  s.engRead e realm r [(r.p 1 + r.pos * iw, n * iw)] (fun s vs =>
    let all := (upTo n).map (fun i => elt (vs.headD 0) iw i)
    let ids := all.takeWhile (fun x => decide (x < r.p 4))
    let k := ids.length
    s.engRead e realm r (ids.map (fun x => (r.p 0 + x * w, w)) ++ (if hasNull then ids.map (fun x => (r.p 5 + x / 8, 1)) else [])) (fun s vals =>
      let bitsOf := (ids.zip (vals.drop k)).map (fun x => x.2.testBit (x.1 % 8))
      let nulls := if hasNull then [(r.gatherMap + r.pos / 8, bitBytes k, packBits bitsOf)] else []
      s.engWrite e realm r ((r.p 3 + r.pos * w, k * w, packed w (vals.take k)) :: nulls) (fun s =>
        let r := { r with out := r.out + k }
        (s, some (if k < n then r.stop peRange (r.pos + k) else r.step n r.out)))))

/-- Writes the next bytes of COPY and FILL: whole destination lines, the rest waiting for the next segment (R430, R431). -/
def State.putStream (s : State) (e realm : Nat) (r : EngRun) (n v : Nat) : SegOut :=
  let dst := r.p 1
  let upto := r.pos + n
  let stop := if upto ≥ r.count then upto else
    let cut := (dst + upto) / 64 * 64
    if cut ≤ dst + r.out then r.out else cut - dst
  let all := r.buf + v * 2 ^ (8 * (r.pos - r.out))
  s.engWrite e realm r [(dst + r.out, stop - r.out, all % 2 ^ (8 * (stop - r.out)))] (fun s =>
    (s, some (({ r with buf := all / 2 ^ (8 * (stop - r.out)), out := stop }).step n upto)))

/-- COPY (R430). -/
def State.segCopy (s : State) (e realm : Nat) (r : EngRun) : SegOut :=
  let n := r.bytes
  s.engRead e realm r [(r.p 0 + r.pos, n)] (fun s vs => s.putStream e realm r n (vs.headD 0))

/-- `n` bytes of a repeated pattern from address `a` (R431). -/
def patternAt (p a n : Nat) : Nat :=
  let k := a % 8
  let turned := p % 2 ^ 64 / 2 ^ (8 * k) + p % 2 ^ (8 * k) * 2 ^ (64 - 8 * k)
  turned * ((2 ^ (64 * ((n + 7) / 8)) - 1) / (2 ^ 64 - 1)) % 2 ^ (8 * n)

/-- FILL (R431). -/
def State.segFill (s : State) (e realm : Nat) (r : EngRun) : SegOut :=
  s.putStream e realm r r.bytes (patternAt (r.p 3) (r.p 1 + r.pos) r.bytes)

/-- CRC32C (R432). -/
def State.segCrc (s : State) (e realm : Nat) (r : EngRun) : SegOut :=
  let n := r.bytes
  s.engRead e realm r [(r.p 0 + r.pos, n)] (fun s vs =>
    let start := if r.pos = 0 then ~~~(BitVec.ofNat 32 (r.p 3)) else r.crc
    let c := crcBytes start (leBytes (vs.headD 0) n)
    (s, some (({ r with crc := c }).step n (if r.count = 0 then 0 else (~~~c).toNat))))

/-- The next segment of a descriptor. -/
def State.segment (s : State) (e realm : Nat) (r : EngRun) : SegOut :=
  if r.count = 0 ∧ r.op ≠ 3 then (s, some (r.step 0 0))
  else match r.op with
  | 0 => (s, some (r.stop peOk 0))
  | 1 => s.segScan e realm r
  | 2 => s.segProject e realm r
  | 3 => s.segAggregate e realm r
  | 4 => s.segHash e realm r
  | 5 => s.segGather e realm r
  | 6 => s.segCopy e realm r
  | 7 => s.segFill e realm r
  | _ => s.segCrc e realm r

/-! ## Running a descriptor (R415) -/

def State.putRun (s : State) (c : Nat) (r : EngRun) : State := s.setCtxRun c { (s.ctxRun c) with run := some r }

/-- The segment of context `c` has ended, with the descriptor's new state; its lines are forgotten. -/
def State.segmentOver (s : State) (e c : Nat) (r : EngRun) : State :=
  let s := (s.putRun c r).portClear (engPort e)
  s.setEngine e { (s.engine e) with past := true }

/-- The engine reads the descriptor (R415): its eight words, once they have come. -/
def State.readDescriptor (s : State) (e c : Nat) (r : EngRun) : SegOut :=
  let x := s.ctx c
  s.engRead e x.realm r [(bits x.w0 51 12 * 4096 + r.head % 2 ^ x.ringLog * 64, 64)] (fun s vs =>
    let s := s.portClear (engPort e)
    (s, some { r with words := (upTo 8).map (fun i => BitVec.ofNat 64 (elt (vs.headD 0) 8 i)) }))

/-- The engine runs the next segment of the descriptor it serves, when that is of operation `op` (R415, R420). -/
def State.engineOp (s : State) (e op : Nat) : State :=
  if !s.engineOn e || (s.engine e).past then s
  else
    let s := s.kick e
    match (s.engine e).cur with
    | none => s
    | some c =>
      match (s.ctxRun c).run with
      | none => s
      | some r =>
        let (s, got) := if r.words = [] then s.readDescriptor e c r else (s, some r)
        match got with
        | none => s
        | some r =>
          if r.status.isSome then s.segmentOver e c r
          else
            let s := s.putRun c r
            match r.early with
            | some st =>
              let (s, r) := failRun s r st
              match r with
              | some r => s.segmentOver e c r
              | none => s
            | none =>
              if r.op ≠ op then s
              else if s.fenceWaits e (s.ctxRun c) then s.choose e
              else
                let (s, r) := s.segment e (s.ctx c).realm r
                match r with
                | none => s
                | some r => s.segmentOver e c r

/-- R420: NOP. -/
def execDescriptorNop (e : Fin 16) (s : State) : Host.Outcome State Fault Refusal := .next (s.engineOp e.val 0)
/-- R425. -/
def execScanFilter (e : Fin 16) (s : State) : Host.Outcome State Fault Refusal := .next (s.engineOp e.val 1)
/-- R426. -/
def execProject (e : Fin 16) (s : State) : Host.Outcome State Fault Refusal := .next (s.engineOp e.val 2)
/-- R428. -/
def execAggregate (e : Fin 16) (s : State) : Host.Outcome State Fault Refusal := .next (s.engineOp e.val 3)
/-- R429. -/
def execHashPartition (e : Fin 16) (s : State) : Host.Outcome State Fault Refusal := .next (s.engineOp e.val 4)
/-- R427. -/
def execGather (e : Fin 16) (s : State) : Host.Outcome State Fault Refusal := .next (s.engineOp e.val 5)
/-- R430. -/
def execCopy (e : Fin 16) (s : State) : Host.Outcome State Fault Refusal := .next (s.engineOp e.val 6)
/-- R431. -/
def execFill (e : Fin 16) (s : State) : Host.Outcome State Fault Refusal := .next (s.engineOp e.val 7)
/-- R432. -/
def execCrc32c (e : Fin 16) (s : State) : Host.Outcome State Fault Refusal := .next (s.engineOp e.val 8)

/-! ## Segment boundaries (R404, R433, R438) -/

/-- The descriptor stops with ABORTED at a boundary; what was read and not written is written (R404, R420). -/
def State.abortRun (s : State) (e c : Nat) (r : EngRun) : State :=
  let realm := (s.ctx c).realm
  let left : List (Nat × Nat × Nat) :=
    if r.op = 6 ∨ r.op = 7 then [(r.p 1 + r.out, r.pos - r.out, r.buf)]
    else if r.op = 2 ∧ r.ctl 6 6 = 1 ∧ r.out % 8 ≠ 0 then [(r.p 5 + r.out / 8, 1, r.buf)] else []
  let (s, _) := if r.pos = 0 then (s, none) else s.engWrite e realm r left (fun s => (s, none))
  s.putRun c (r.stop peAborted r.pos)

/-- The engine is fenced (R438): its other contexts enter FENCED, and the realm served is reset, or the package. -/
def State.fenceEngine (s : State) (e c : Nat) : State :=
  let x := s.ctx c
  let others := s.ctxList.filter (fun i => decide (i ≠ c) && decide ((s.ctx i).engineOf = e) && decide (1 ≤ (s.ctx i).state ∧ (s.ctx i).state ≤ 3))
  let s := s.setFld (regPenStatus e) 2 2 1
  let s := s.stopCtxs (fun i => others.contains i) ctxFenced
  let s := (s.engineErr e 0xC001 0 c).emit 12 (40 + e) 0xC001 x.realm [e, others.length]
  let s := s.engineErr e (if x.realm = 0 then 0x50D0 else 0x40D0) 0 c
  (s.stopCtxs (fun i => decide (i = c)) 0).ueR 12 (40 + e) 0x40D0 0x50D0 x.realm [e, c, x.head]

/-- A residue mismatch in the segment (R438): the segment is recomputed, once; whether the engine is still in service. -/
def State.residueSeg (s : State) (e c mismatches : Nat) : State × Bool :=
  let (s, k) := match s.injectKind 0xB e none with
    | some kind => if kind ≤ 1 then (s.fireInject 8 12 (40 + e), kind + 1) else (s, mismatches)
    | none => (s, mismatches)
  if k = 0 then (s, true)
  else
    let x := s.ctx c
    let s := ((s.engineErr e 0x30D0 0 c).addFld (regPenCount1 e) 31 0 1).ce 12 (40 + e) 0x30D0 x.realm [e, c, x.head]
    if k = 1 then (s, true) else (s.fenceEngine e c, false)

/-- R433: a segment ends, and the engine chooses the next context. `residue`: mismatches found in the segment, 2 on its retry too. -/
def execSegmentDone (e : Fin 16) (residue : Fin 3) (s : State) : Host.Outcome State Fault Refusal :=
  .next (
    let g := s.engine e.val
    if !s.engineOn e.val then s
    else match g.cur with
    | none => (s.rebuildMonitors s.monitors).kick e.val
    | some c =>
      if !g.past then s
      else
        let s := s.rebuildMonitors s.monitors
        let (s, ok) := s.residueSeg e.val c residue.val
        if !ok then s.setEngine e.val { (s.engine e.val) with past := false }
        else
          let s := s.engineCount e.val 5 1 (s.ctx c).realm
          let s := match (s.ctxRun c).run with
            | some r =>
              let s := s.setReg (regPenProgress e.val) (BitVec.ofNat 64 r.pos)
              if r.abort && r.status.isNone then s.abortRun e.val c r else s
            | none => s
          s.choose e.val)

/-! ## Completion records (R417, R418) -/

/-- A completion record as a number of 16 bytes (R417). -/
def recordNat (tag st desc : Nat) (phase ovf empty : Bool) (result : Nat) : Nat :=
  tag % 2 ^ 32 + st % 256 * 2 ^ 32 + b2n phase * 2 ^ 40 + b2n ovf * 2 ^ 41 + b2n empty * 2 ^ 42 + desc % 65536 * 2 ^ 48 + result % 2 ^ 64 * 2 ^ 64

/-- The record is written to slot CHEAD, and CHEAD advances (R418 step 3). -/
def State.writeRecord (s : State) (e c tag st desc : Nat) (ovf empty : Bool) (result : Nat) : State :=
  let x := s.ctx c
  let size := 2 ^ x.cringLog
  let v := recordNat tag st desc (decide ((x.chead / size + 1) % 2 = 1)) ovf empty result
  let n := (s.port (engPort e)).writes.length
  let s := s.portWriteBytes (engPort e) (BitVec.ofNat 10 x.realm) (bits x.w1 51 12 * 4096 + x.chead % size * 16) 16 v 2
  (s.noteWrites e c n).setCtx c { x with w4 := putBits x.w4 63 32 (x.chead + 1) }

/-- The completion ring has room (R418 step 2). -/
def State.ringRoom (s : State) (c : Nat) : Bool := decide (sub32 (s.ctx c).chead (s.ctxRun c).consumed < 2 ^ (s.ctx c).cringLog)

/-- The descriptor of context `c` has ended, its segment too, its writes are complete, and its record is not written (R418 step 1). -/
def State.toComplete (s : State) (e c : Nat) : Bool :=
  s.ctxQuiet e c && decide ((s.ctx c).engineOf = e) && decide ((s.engine e).cur ≠ some c) && (match (s.ctxRun c).run with
    | some r => r.status.isSome && !r.written
    | none => false)

/-- The completion of context `c`: its record, unless NOCOMP and OK ask for none (R418). -/
def State.completeRun (s : State) (e c : Nat) (r : EngRun) : State :=
  let w0 := r.words.getD 0 0
  let st := r.status.getD 0
  let silent := bit w0 10 && decide (st = peOk)
  let s := if silent then s else s.writeRecord e c (bits w0 63 32) st r.head r.ovf r.empty r.result.toNat
  s.putRun c { r with written := true }

/-- A doorbell error's record: TAG 0 and HEAD (R411). -/
def State.completeBell (s : State) (e c st : Nat) : State :=
  let s := s.writeRecord e c 0 st (s.ctx c).head false false 0
  s.setCtxRun c { (s.ctxRun c) with bellOut := true }

/-- R418: the first context of the engine whose writes are complete and whose completion has room. -/
def execCompletionRecordWrite (e : Fin 16) (s : State) : Host.Outcome State Fault Refusal :=
  .next (
    if !s.engineOn e.val then s
    else
      let silent (c : Nat) : Bool := match (s.ctxRun c).run with
        | some r => bit (r.words.getD 0 0) 10 && decide (r.status = some peOk)
        | none => false
      let bell (c : Nat) : Bool := decide ((s.ctx c).engineOf = e.val) && (s.ctxRun c).bell.isSome && !(s.ctxRun c).bellOut && s.ringRoom c &&
        s.ctxQuiet e.val c
      match s.ctxList.find? (fun c => bell c || (s.toComplete e.val c && (silent c || s.ringRoom c))) with
      | none => s
      | some c =>
        let s := match bell c, (s.ctxRun c).bell with
          | true, some st => s.completeBell e.val c st
          | _, _ => match (s.ctxRun c).run with
            | some r => s.completeRun e.val c r
            | none => s
        s.engineAdvance e.val)

/-- R434: a period of 256 clauses begins. -/
def execRealmCapPeriod (s : State) : Host.Outcome State Fault Refusal :=
  .next (({ s with capUsed := [], capHeld := [] }).engineAdvanceAll (upTo 16))

/-! ## The context commands (R404 to R406) -/

/-- A write of PEN.CTXCMD starts a command on context `c` (R404, R406, R565). -/
def State.ctxCommand (s : State) (c : Nat) (run : State → State) : State :=
  if s.fld regPenCtxcmd 19 19 = 1 then s
  else
    let s := s.setFld regPenCtxcmd 13 0 c
    if !s.servesRegs then s.ctxCmdDone ctxrState
    else
      let (s, ok) := s.ctxCheck c
      if ok then run s else s.ctxCmdDone ctxrState

/-- The words of a context, as READ copies them (R402). -/
def RingCtx.words (x : RingCtx) : List Word := [x.w0, x.w1, x.w2, x.w3, x.w4, x.w5, x.w6, 0]

def State.putCtxData (s : State) (i : Nat) : List Word → State
  | [] => s
  | w :: l => (s.setReg (regPenCtxdata i) w).putCtxData (i + 1) l

/-- R404: READ. -/
def State.ctxcmdRead (s : State) (c : Nat) : State :=
  s.ctxCommand c (fun s => (s.putCtxData 0 (s.ctx c).words).ctxCmdDone ctxrOk)
/-- A write of PEN.CTXCMD with this command. -/
def execCtxcmdRead (c : Fin 16384) (s : State) : Host.Outcome State Fault Refusal := .next (s.ctxcmdRead c.val)

/-- A staging register has a nonzero reserved bit (R402). -/
def State.stagingReserved (s : State) : Bool :=
  let d (i : Nat) : Word := s.reg (regPenCtxdata i)
  decide (bits (d 0) 63 52 ≠ 0) || decide (bits (d 0) 11 5 ≠ 0) || decide (bits (d 1) 63 52 ≠ 0) || decide (bits (d 1) 11 5 ≠ 0) ||
    decide (bits (d 2) 63 52 ≠ 0) || decide (bits (d 2) 5 0 ≠ 0) || decide (bits (d 3) 63 48 ≠ 0) || decide (bits (d 3) 31 20 ≠ 0) ||
    decide (bits (d 3) 11 10 ≠ 0)

/-- R404: WRITE. -/
def State.ctxcmdWrite (s : State) (c : Nat) : State :=
  s.ctxCommand c (fun s =>
    if (s.ctx c).state ≠ ctxDisabled then s.ctxCmdDone ctxrState
    else if s.stagingReserved then s.ctxCmdDone ctxrBadField
    else
      let d (i : Nat) : Word := s.reg (regPenCtxdata i)
      (s.setCtx c { (s.ctx c) with w0 := d 0, w1 := d 1, w2 := d 2, w3 := d 3, w4 := d 4 }).ctxCmdDone ctxrOk)
/-- A write of PEN.CTXCMD with this command. -/
def execCtxcmdWrite (c : Fin 16384) (s : State) : Host.Outcome State Fault Refusal := .next (s.ctxcmdWrite c.val)

/-- A ring's base is aligned to its size, or to 4 KiB (R402). -/
def baseAligned (base bytes : Nat) : Bool := decide (base % (if bytes < 4096 then 4096 else bytes) = 0)

/-- Checks 3 and 4 of ENABLE, and the read of the doorbell line (R405). -/
def State.enableOpen (s : State) (c : Nat) : State :=
  let x := s.ctx c
  let e := x.engineOf
  let a := x.dbLine
  let (s, st) := s.checkRanges x.realm [(bits x.w0 51 12 * 4096, 2 ^ x.ringLog * 64), (bits x.w1 51 12 * 4096, 2 ^ x.cringLog * 16), (lineBase a, 64)]
  if st = peNotLocal then s.ctxCmdDone ctxrNotLocal
  else if st = peOwner then s.ctxCmdDone ctxrOwner
  else
    let n := s.chanOf (lineBase a)
    if 2048 ≤ (s.monitors.filter (fun m => decide (s.chanOf (lineBase m.line) = n))).length then s.ctxCmdDone ctxrMonitorFull
    else
      let m : Monitor := { line := a, ctx := c, engine := e, armed := false }
      let s : State := { s with monitors := s.monitors ++ [m], ctxJob := some (.reading c) }
      s.readBell e c

/-- ENABLE (R405): checks 1 and 2; a closed engine opens first (R598). -/
def State.enableCtx (s : State) (c : Nat) : State :=
  let x := s.ctx c
  let e := x.engineOf
  let rl := x.ringLog
  let cl := x.cringLog
  if x.state ≠ ctxDisabled then s.ctxCmdDone ctxrState
  else if !(decide (6 ≤ rl ∧ rl ≤ 16) && decide (8 ≤ cl ∧ cl ≤ 18) && baseAligned (bits x.w0 51 12 * 4096) (2 ^ rl * 64) &&
      baseAligned (bits x.w1 51 12 * 4096) (2 ^ cl * 16)) then s.ctxCmdDone ctxrBadField
  else if s.fld (regPenStatus e) 2 1 ≠ 0 then s.ctxCmdDone ctxrUnavailable
  else
    let s := s.setFld regPenCtxcmd 19 19 1
    if s.domainOpen (60 + e) then s.enableOpen c else ({ s with ctxJob := some (.opening c) }).openDomain (60 + e)

/-- R405. -/
def State.ctxcmdEnable (s : State) (c : Nat) : State :=
  s.ctxCommand c (fun s => s.enableCtx c)
/-- A write of PEN.CTXCMD with this command. -/
def execCtxcmdEnable (c : Fin 16384) (s : State) : Host.Outcome State Fault Refusal := .next (s.ctxcmdEnable c.val)

/-- An ENABLE that waited for its engine's domain goes on (R598). -/
def State.enableResume (s : State) : State := match s.ctxJob with
  | some (.opening c) => if s.domainOpen (60 + (s.ctx c).engineOf) then s.enableOpen c else s
  | _ => s

/-- A descriptor of the context is in progress, or its completion is. -/
def CtxRun.inProgress (x : CtxRun) : Bool := x.run.isSome || x.bell.isSome

/-- R404: DISABLE. -/
def State.ctxcmdDisable (s : State) (c : Nat) : State :=
  s.ctxCommand c (fun s =>
    let st := (s.ctx c).state
    if !(st = ctxEnabled ∨ st = ctxError ∨ st = ctxFenced) then s.ctxCmdDone ctxrState
    else
      let s := s.dropMonitor c
      if st = ctxEnabled ∧ (s.ctxRun c).run.isSome then
        let s : State := { s with ctxJob := some (.stopping c) }
        (s.setCtxState c ctxDraining).setFld regPenCtxcmd 19 19 1
      else (s.stopCtxs (fun i => decide (i = c)) ctxDisabled).ctxCmdDone ctxrOk)
/-- A write of PEN.CTXCMD with this command. -/
def execCtxcmdDisable (c : Fin 16384) (s : State) : Host.Outcome State Fault Refusal := .next (s.ctxcmdDisable c.val)

/-- R404: ABORT. A descriptor whose segment is not running stops at once; with none in progress the context is DISABLED. -/
def State.ctxcmdAbort (s : State) (c : Nat) : State :=
  s.ctxCommand c (fun s =>
    let x := s.ctx c
    let e := x.engineOf
    if !(x.state = ctxEnabled ∨ x.state = ctxDraining) then s.ctxCmdDone ctxrState
    else
      let s := s.dropMonitor c
      match (s.ctxRun c).run with
      | none => (s.stopCtxs (fun i => decide (i = c)) ctxDisabled).ctxCmdDone ctxrOk
      | some r =>
        let s : State := { s with ctxJob := some (.stopping c) }
        let s := s.setFld regPenCtxcmd 19 19 1
        if r.status.isSome then s
        else if (s.engine e).cur = some c then s.putRun c { r with abort := true }
        else s.abortRun e c r)
/-- A write of PEN.CTXCMD with this command. -/
def execCtxcmdAbort (c : Fin 16384) (s : State) : Host.Outcome State Fault Refusal := .next (s.ctxcmdAbort c.val)

end Sys2Proof.Machine
end

