-- ==== Sys2Proof/Machine/RootPorts.lean ====
section
/-! DEFINITION. The root ports (13_platform_endpoint.md R518 to R522): assignment, inbound DMA, device reads, containment; the links of
root ports and endpoint coming up (R487). -/
namespace Sys2Proof.Machine
open Sys2Proof

/-- The octet's applied role is a root port; a x16 pair uses its even octet (R518). -/
def State.isRoot (s : State) (n : Nat) : Bool := decide (s.fld (regOctCfg n) 6 4 = 2) || decide (s.fld (regOctCfg n) 6 4 = 3)
def State.rpContained (s : State) (n : Nat) : Bool := decide (s.fld (regRpstatus n) 11 11 = 1)
def State.rpLinked (s : State) (n : Nat) : Bool := decide (s.fld (regRpstatus n) 7 4 ≠ 0)

/-! ## Containment (R522) -/

/-- The answer to a register or device access (R521, R670). -/
def State.regReply (s : State) (h : Hdr) (v : Word) : State :=
  s.send { type := .regAnswer, hdr := { h with src := h.dst, dst := h.src, stamp := s.clause }, body := .value v }

/-- A device read ends without data: all ones, and code B013h (R521). -/
def State.devReadFailed (s : State) (r : DevRead) (why : Nat) : State :=
  let s := { s with devReads := s.devReads.erase r }
  (s.emit 12 (56 + r.octet) 0xB013 0 [r.octet, r.hdr.rank.toNat, r.addr % 2 ^ 32, why]).regReply r.hdr (BitVec.allOnes 64)

def State.failReads (s : State) (why : Nat) : List DevRead → State
  | [] => s
  | r :: l => (s.devReadFailed r why).failReads why l

/-- The port enters containment: outbound reads complete under R521, and inbound requests are discarded. -/
def State.rpContain (s : State) (n cause : Nat) (aer : BitVec 32) : State :=
  if s.rpContained n then s
  else
    let s := (s.setFld (regRpstatus n) 15 12 cause).setFld (regRpstatus n) 11 11 1
    let s := (s.setInbound n ((s.inboundOf n).filter (·.started))).emit 12 (56 + n) 0xB011 0 [n, cause, aer.toNat]
    s.failReads 1 (s.devReads.filter (fun r => decide (r.octet = n)))

/-- R522: a surprise link-down, or an uncorrectable error. -/
def execRpContained (n : Fin 12) (linkDown : Bool) (aer : BitVec 32) (s : State) : Host.Outcome State Fault Refusal :=
  .next (if !s.isRoot n.val then s
    else if linkDown then ((s.setFld (regRpstatus n.val) 7 4 0).setFld (regRpstatus n.val) 3 0 0).rpContain n.val 1 aer
    else if aer = 0 then s else s.rpContain n.val 2 aer)

/-- A release that waits is done once the link is up. -/
def State.rpReleaseTry (s : State) (n : Nat) : State :=
  if s.fld (regRpctl n) 0 0 = 1 && s.rpContained n && s.rpLinked n then
    (((s.setFld (regRpstatus n) 11 11 0).setFld (regRpstatus n) 15 12 0).setFld (regRpctl n) 0 0 0).emit 12 (56 + n) 0xB012 0 [n]
  else s

/-- R522: realm 0 writes 1 to OCT[n].RPCTL.RELEASE, which reads 1 until the port is released. -/
def State.rpRelease (s : State) (n : Nat) : State :=
  if s.isRoot n && s.rpContained n && decide (s.mode ≠ modeHalt) then (s.setFld (regRpctl n) 0 0 1).rpReleaseTry n else s

/-- R522. -/
def execRpRelease (n : Fin 12) (s : State) : Host.Outcome State Fault Refusal := .next (s.rpRelease n.val)

/-- R487: the link of the endpoint (octet 0) or of a root port has trained. -/
def execPcieLinkUp (n : Fin 12) (width speed : BitVec 4) (s : State) : Host.Outcome State Fault Refusal :=
  let role := s.fld (regOctCfg n.val) 6 4
  .next (if width = 0 ∨ speed = 0 ∨ s.mode < modeSense then s
    else if n = 0 ∧ s.servesHost ∧ (role = 5 ∨ role = 6 ∨ s.mode = modeSense) then
      let s := (s.setFld regEpfStatus 7 4 width.toNat).setFld regEpfStatus 3 0 speed.toNat
      let s := if s.fld regEpfStatus 9 8 = 2 then s.setFld regEpfStatus 9 8 0 else s
      if modeSealed ≤ s.mode ∧ s.epf.resetDue.isNone then s.setFld regEpfStatus 10 10 1 else s
    else if s.isRoot n.val then
      ((s.setFld (regRpstatus n.val) 7 4 width.toNat).setFld (regRpstatus n.val) 3 0 speed.toNat).rpReleaseTry n.val
    else s)

/-! ## Assignment (R519) -/

/-- R519: a write to an assignment entry; one that concerns a sealed realm is refused. -/
def State.rpassignWrite (s : State) (n i : Nat) (v : Word) (origin : BitVec 16) : State :=
  let off := regRpassign n i
  if !s.isRoot n || decide (s.mode = modeHalt) then s
  else if s.realmSealed (s.fld off 25 16) || s.realmSealed (bits v 25 16) then s.chgRecs origin off 3 (s.reg off) v
  else s.mapWrite off (rpassignMask v) origin

/-- R519. -/
def execRpassignWrite (n : Fin 12) (i : Fin 64) (v : Word) (origin : BitVec 16) (s : State) : Host.Outcome State Fault Refusal :=
  .next (s.rpassignWrite n.val i.val v origin)

/-- The entry that a requester ID matches. -/
def State.rpEntry (s : State) (n : Nat) (rid : BitVec 16) : Option Nat :=
  (upTo 64).find? (fun i => decide (s.fld (regRpassign n i) 32 32 = 1) && decide (s.fld (regRpassign n i) 15 0 = rid.toNat))

/-! ## Inbound DMA (R520) -/

/-- The interrupt page of this package (R666). -/
def State.intPage (s : State) (pa : Nat) : Bool := decide (pa / 4096 = s.pkgNum * 2 ^ 35 + 0x7F0010000)

/-- The first page of [pa, pa + n) that realm `r` may not access; a remote page is checked at its home. -/
def State.dmaBad (s : State) (r pa n : Nat) : Option Nat :=
  (upTo ((pa + n - 1) / 4096 - pa / 4096 + 1)).map (· + pa / 4096) |>.find? (fun p =>
    if p / 2 ^ 35 = s.pkgNum then decide ((s.reg regDmcTop).toNat ≤ p % 2 ^ 35 * 4096) || !s.ownOk r (p % 2 ^ 35)
    else !s.isMember (p / 2 ^ 35) || decide (Tbl.get 0 s.tops (p / 2 ^ 35) ≤ p % 2 ^ 35 * 4096))

/-- The record of a refused DMA (R520). -/
def State.dmaRefused (s : State) (n r page : Nat) : State :=
  let agent := (agentId s.pkgNum 12 (64 + n)).toNat
  s.emit 12 (56 + n) 0xE005 r [agent + (s.portRank (64 + n)).toNat * 65536, page % 2 ^ 20, page / 2 ^ 20,
    if page / 2 ^ 35 = s.pkgNum then s.potEntry (page % 2 ^ 35) else 0]

/-- The package takes no inbound request of the port: contained, held by QUIESCE, or halted. -/
def State.rpDeaf (s : State) (n : Nat) : Bool :=
  !s.isRoot n || s.rpContained n || s.sourcesHeld || decide (s.mode = modeHalt) || decide (s.mode < modeSealed)

/-- R520: an inbound write. -/
def execInboundDmaWrite (n : Fin 12) (rid : BitVec 16) (pa : BitVec 52) (data : List (BitVec 8)) (s : State) :
    Host.Outcome State Fault Refusal :=
  .next (if s.rpDeaf n.val || data.isEmpty then s
    else
    let s := s.tlpIn n.val data.length
    match s.rpEntry n.val rid with
      | none => s.emit 12 (56 + n.val) 0xB010 0 [n.val, rid.toNat]
      | some i =>
        let r := s.fld (regRpassign n.val i) 25 16
        if s.intPage pa.toNat then
          let tid := leNat data % 65536
          let h : Hdr := { src := agentId s.pkgNum 12 (64 + n.val), dst := agentId (tid / 2048) 12 96, stamp := s.clause, realm := BitVec.ofNat 10 r }
          s.send { type := .interrupt, hdr := h, body := .interrupt (BitVec.ofNat 16 tid) .device false }
        else match s.dmaBad r pa.toNat data.length with
          | some p => s.dmaRefused n.val r p
          | none => s.inboundPut n.val { realm := r, pa := pa.toNat, len := data.length, data := leNat data, via := regRpassign n.val i })

/-- R520: an inbound read. -/
def execInboundDmaRead (n : Fin 12) (tag : BitVec 10) (rid : BitVec 16) (pa : BitVec 52) (len : Fin 4097) (s : State) :
    Host.Outcome State Fault Refusal :=
  .next (if s.rpDeaf n.val || decide (len.val = 0) then s
    else
    let s := s.tlpIn n.val 0
    match s.rpEntry n.val rid with
      | none => (s.emit 12 (56 + n.val) 0xB010 0 [n.val, rid.toNat]).octetOut n.val (.completion tag.toNat len.val none)
      | some i =>
        let r := s.fld (regRpassign n.val i) 25 16
        match s.dmaBad r pa.toNat len.val with
        | some p => (s.dmaRefused n.val r p).octetOut n.val (.completion tag.toNat len.val none)
        | none => s.inboundPut n.val { tag := some tag.toNat, realm := r, pa := pa.toNat, len := len.val, via := regRpassign n.val i })

/-! ## Device accesses of cores (R521, R666) -/

/-- A core's access at a device-region offset of octet `n`'s ranges: the octet, whether it is configuration space, and the offset. -/
def deviceRange (off : Nat) : Option (Nat × Bool × Nat) :=
  if 0x100000000 ≤ off ∧ off < 0x100000000 + 12 * 0x10000000 then
    some ((off - 0x100000000) / 0x10000000, true, (off - 0x100000000) % 0x10000000)
  else if 0x1000000000 ≤ off ∧ off < 0x1000000000 + 12 * 0x1000000000 then
    some ((off - 0x1000000000) / 0x1000000000, false, (off - 0x1000000000) % 0x1000000000)
  else none

/-- A read below a root port goes out, or ends at once when the port is contained or down. Bus 0 of the configuration space is the port
itself, whose contents the spec does not give (log entry 1). -/
def State.devRead (s : State) (h : Hdr) (off len n : Nat) (cfg : Bool) (o : Nat) : State :=
  if cfg && decide (o < 0x100000) then (s.regReply h s.freeWord).spendFree
  else
    let tag := s.devTag
    let r : DevRead := { octet := n, tag := tag, hdr := h, addr := s.pkgNum * 2 ^ 47 + 0x7F0000000000 + off, len := len, since := s.clause }
    let s := { s with devReads := s.devReads ++ [r], devTag := (tag + 1) % 1024 }
    if s.rpContained n || !s.rpLinked n then s.devReadFailed r 1
    else s.octetOut n (if cfg then .cfgRead tag o len else .memRead tag r.addr len)

/-- A posted write below a root port; a contained port discards it (R522). -/
def State.devWrite (s : State) (off len : Nat) (v : Word) (n : Nat) (cfg : Bool) (o : Nat) : State :=
  if s.rpContained n || !s.rpLinked n || (cfg && decide (o < 0x100000)) then s
  else
    let d := v.toNat % 256 ^ len
    s.octetOut n (if cfg then .cfgWrite o len d else .memWrite (s.pkgNum * 2 ^ 47 + 0x7F0000000000 + off) len d)

/-- R521: the completion of a device read: 0 successful, 1 Unsupported Request, 2 Completer Abort. -/
def execDeviceReadCompletion (n : Fin 12) (tag : BitVec 10) (status : Fin 3) (data : Word) (s : State) : Host.Outcome State Fault Refusal :=
  .next (match s.devReads.find? (fun r => decide (r.octet = n.val) && decide (r.tag = tag.toNat)) with
    | none => s
    | some r =>
      let s := s.tlpIn n.val (if status = 0 then r.len else 0)
      if status = 0 then ({ s with devReads := s.devReads.erase r }).regReply r.hdr (BitVec.ofNat 64 (data.toNat % 256 ^ r.len))
      else s.devReadFailed r status.val)

/-- R521: no completion in 50 ms. -/
def execDeviceReadTimeout (n : Fin 12) (s : State) : Host.Outcome State Fault Refusal :=
  .next (match s.devReads.find? (fun r => decide (r.octet = n.val) && decide (r.since.toNat + 12500000 ≤ s.clause.toNat)) with
    | none => s
    | some r => s.devReadFailed r 3)

end Sys2Proof.Machine
end

