-- ==== Sys2Proof/Machine/Mesh.lean ====
section
/-! DEFINITION. The die bridges and the mesh (14_die_bridges_mesh.md R528 to R552): frames and retrains, refusals by closed domains and
their resends, the closing and opening of domains (R597, R598). -/
namespace Sys2Proof.Machine
open Sys2Proof

/-! ## Bridges (R535, R536) -/

def State.bridge (s : State) (d : Nat) : Bridge := Tbl.get {} s.bridges d
def State.modBridge (s : State) (d : Nat) (f : Bridge → Bridge) : State := { s with bridges := Tbl.set s.bridges d (f (s.bridge d)) }

/-- The bridge carries frames: it has trained, and its die is not fenced. -/
def State.bridgeUp (s : State) (d : Nat) : Bool := decide (s.fld (regBrgStatus d) 0 0 = 1) && !(s.die d).fenced

/-- A frame is resent: a CE, recorded at most once per 1,024 replays; after eight in a row a retrain starts. -/
def State.replayFrame (s : State) (d dir : Nat) : State :=
  let b := s.bridge d
  let n := Tbl.get 0 b.run dir + 1
  let (rec', since) : Bool × Nat := match b.since with
    | none => (true, 1)
    | some k => (decide (1024 ≤ k + 1), k + 1)
  let s := s.addFld (regBrgCount d) 63 32 1
  let s := if rec' then s.ce 12 (68 + d) 0x3010 0 [d, dir, since] else s.addFld regGlbErrsum 63 32 1
  let s := s.modBridge d (fun b => { b with since := some (if rec' then 0 else since) })
  if n = 8 then
    (s.addFld (regBrgCount d) 31 16 1).modBridge d (fun b => { b with run := Tbl.erase b.run dir, retrain := true })
  else s.modBridge d (fun b => { b with run := Tbl.set b.run dir n })

/-- Eight replays of one frame (an injected error of KIND 01b, R615). -/
def State.replayTimes (s : State) (d dir : Nat) : Nat → State
  | 0 => s
  | k + 1 => (s.replayFrame d dir).replayTimes d dir k

/-- R535, R616: a frame arrives at one end of the bridge of die `d`. -/
def execBridgeFrame (d : DiePos) (toDie crcOk : Bool) (s : State) : Host.Outcome State Fault Refusal :=
  .next (if !s.bridgeUp d.val || (s.bridge d.val).retrain then s
    else match s.injectKind 9 d.val none with
      | some 0 => (s.fireInject 8 12 (68 + d.val)).replayFrame d.val (b2n toDie)
      | some 1 => (s.fireInject 8 12 (68 + d.val)).replayTimes d.val (b2n toDie) 8
      | _ => if crcOk then s.modBridge d.val (fun b => { b with run := Tbl.erase b.run (b2n toDie) }) else s.replayFrame d.val (b2n toDie))

/-- R536. -/
def execBridgeRetrainDone (d : DiePos) (ok : Bool) (s : State) : Host.Outcome State Fault Refusal :=
  .next (if (s.bridge d.val).retrain then
      let s := s.modBridge d.val (fun b => { b with retrain := false })
      if ok then s else s.ueP 12 (68 + d.val) 0x5010 0 [d.val, 1]
    else s)

/-- R536. -/
def execStrobeLockLoss (d : DiePos) (s : State) : Host.Outcome State Fault Refusal :=
  .next (if s.bridgeUp d.val then s.ueP 12 (68 + d.val) 0x5010 0 [d.val, 2] else s)

/-! ## Packets that a closed domain refuses (R549 to R551) -/

/-- The domain whose agents answer a PRS access, where it is one that closes: an engine, an octet, a directory port, a cluster whose
counters are read (R543, log entry 28). -/
def regDomain (off : Nat) : Option Nat :=
  if 0xe00000 ≤ off ∧ off < 0xf00000 then (if off % 0x10000 < 0x4000 then some (60 + (off - 0xe00000) / 0x10000) else none)
  else if 0xc00000 ≤ off ∧ off < 0xcc0000 then (if off % 0x10000 < 0x8000 then some (76 + (off - 0xc00000) / 0x10000) else none)
  else if 0xa00000 ≤ off ∧ off < 0xa80000 then (if off % 0x10000 < 0x8000 then some (88 + (off - 0xa00000) / 0x10000) else none)
  else if 0x310000 ≤ off ∧ off < 0x310000 + 1920 * 8 then some ((off - 0x310000) / 8 / 32)
  else none

/-- The domain that a register access or an interrupt of this package reaches. -/
def State.msgDomain (s : State) (m : Msg) : Option Nat :=
  if agentPkg m.hdr.dst ≠ s.pkgNum then none
  else match m.type, m.body with
    | .regRead, .reg off _ _ => regDomain off.toNat
    | .regWrite, .reg off _ _ => regDomain off.toNat
    | .interrupt, .interrupt tid _ _ => (posOfTid tid.toNat).map (· / 8)
    | _, _ => none

/-- The message is refused by a domain that does not pass packets, or waits behind one of its source that was (R551). -/
def State.meshBlocked (s : State) (m : Msg) : Bool :=
  match s.msgDomain m with
  | none => false
  | some d => !s.domainOpen d || s.meshHeld.any (fun x => decide (x.msg.hdr.src = m.hdr.src) && decide (x.dom = d))

/-- A refusal: the router counts it, the source holds the packet, and a closed domain is asked to open (R551). -/
def State.meshRefuse (s : State) (m : Msg) : State :=
  match s.msgDomain m with
  | none => s
  | some d =>
    let k := domainRouter d
    let s := if s.domainOpen d then s else (s.addFld (regMshRouter k) 31 0 1).routerCount k 0x03 1
    let s := if (Tbl.get {} s.domains d).phase = .closed then s.openDomain d else s
    let wait := s.clause + BitVec.ofNat 64 (s.fld regMshRetry 7 0)
    { s with sent := s.sent.erase m, meshHeld := s.meshHeld ++ [{ msg := m, dom := d, first := s.clause, next := wait }] }

/-- R551: the oldest packet that domain `d` does not pass is answered with RETRY_LATER. -/
def execRetryLater (d : Fin 96) (s : State) : Host.Outcome State Fault Refusal :=
  .next (match s.sent.find? (fun m => decide (s.msgDomain m = some d.val) && s.meshBlocked m) with
    | some m => s.meshRefuse m
    | none => s)

/-- A packet held is sent again: its domain passes it, or refuses it again. -/
def State.meshResend (s : State) (x : HeldPacket) : State :=
  if s.domainOpen x.dom then { s with meshHeld := s.meshHeld.erase x, sent := s.sent ++ [x.msg] }
  else
    let s := (s.addFld (regMshRouter (domainRouter x.dom)) 31 0 1).routerCount (domainRouter x.dom) 0x03 1
    let s := if (Tbl.get {} s.domains x.dom).phase = .closed then s.openDomain x.dom else s
    let y : HeldPacket := { x with next := s.clause + BitVec.ofNat 64 (s.fld regMshRetry 7 0) }
    { s with meshHeld := s.meshHeld.map (fun z => if z = x then y else z) }

/-! ## An output's choice (R545) -/

/-- The input by which a packet from router `a` comes to router `k`: 0 from its own block, then along the row and the column (R544). -/
def meshInput (a k : Nat) : Nat :=
  if a = k then 0
  else if a / 6 = k / 6 then (if a % 6 < k % 6 then 1 else 2)
  else if a / 6 < k / 6 then 3 else 4

def HeldPacket.router (x : HeldPacket) : Nat := domainRouter x.dom
def HeldPacket.input (x : HeldPacket) : Nat := meshInput (agentRouter (agentDie x.msg.hdr.src) (agentUnit x.msg.hdr.src)) x.router

/-- Mesh cycles that the head of a packet has waited at the router since it was sent again: eight to a clause. -/
def State.headWait (s : State) (x : HeldPacket) : Nat := (s.clause.toNat - x.next.toNat) * 8

/-- The first packet of the least value under `f`. -/
def leastBy (f : HeldPacket → Nat) : List HeldPacket → Option HeldPacket
  | [] => none
  | x :: l => match leastBy f l with
    | some y => if f y < f x then some y else some x
    | none => some x

/-- The packet that a router's output takes next: one that has waited X_ARB.AGE cycles, oldest first; then the classes in order, the
inputs of a class in turn. -/
def State.arbitrate (s : State) (l : List HeldPacket) : Option HeldPacket :=
  match leastBy (fun x => x.next.toNat) (l.filter (fun x => decide (s.fld regMshArb 9 0 ≤ s.headWait x))) with
  | some x => some x
  | none =>
    (upTo 5).findSome? (fun c => leastBy (fun x => (x.input + 4 - Tbl.get 4 s.meshTurn (x.router * 8 + c)) % 5)
      (l.filter (fun x => decide (linkClass x.msg.type = c))))

/-- The held packets whose resend is due, of each source and destination the first (R551). -/
def State.dueResends (s : State) : List HeldPacket :=
  s.meshHeld.filter (fun x => decide (x.next.toNat ≤ s.clause.toNat) &&
    !(s.meshHeld.takeWhile (fun y => decide (y ≠ x))).any (fun y => decide (y.dom = x.dom ∧ y.msg.hdr.src = x.msg.hdr.src)))

/-- R551: a packet whose resend is due. Where several stand at one router, its output chooses among them (R545). -/
def execRetryLaterResend (s : State) : Host.Outcome State Fault Refusal :=
  .next (match s.dueResends with
    | [] => s
    | y :: l => match s.arbitrate ((y :: l).filter (fun x => decide (x.router = y.router))) with
      | some x => ({ s with meshTurn := Tbl.set s.meshTurn (x.router * 8 + linkClass x.msg.type) x.input } : State).meshResend x
      | none => s)

/-- R551: a packet still refused 25,000 clauses after its first refusal. -/
def execMeshRetryExhausted (s : State) : Host.Outcome State Fault Refusal :=
  .next (match s.meshHeld.find? (fun x => decide (x.first.toNat + 25000 ≤ s.clause.toNat)) with
    | some x =>
      let k := agentRouter (agentDie x.msg.hdr.src) (agentUnit x.msg.hdr.src)
      ({ s with meshHeld := s.meshHeld.erase x }).ueP 12 (88 + k) 0x5022 0 [k, x.dom]
    | none => s)

/-! ## Domains close and open (R549, R597, R598) -/

def State.domain (s : State) (d : Nat) : Domain := Tbl.get {} s.domains d
def State.setDomain (s : State) (d : Nat) (x : Domain) : State := { s with domains := Tbl.set s.domains d x }

/-- The enabled cores of cluster `k`. -/
def State.clusterCores (s : State) (k : Nat) : List Nat := ((upTo 4).map (· + 4 * k)).filter s.coreExists

/-- Nothing of the cluster is in flight: its buffers are empty and no thread waits for an answer (R548, R549 step 4). -/
def State.clusterQuiet (s : State) (k : Nat) : Bool :=
  (s.clusterCores k).all (fun c => let y := s.core c
    y.l2.isEmpty && y.eb.isEmpty && y.mb.isEmpty && y.txns.isEmpty && !y.l2Flushing && y.ctxWrites.isEmpty && y.ctxOut.isEmpty)

/-- R549 step 4: every credit has returned, and the closing domain is powered down. -/
def execDomainClosed (d : Fin 96) (s : State) : Host.Outcome State Fault Refusal :=
  .next (if (s.domain d.val).phase = .closing then
      let s := s.setDomain d.val { (s.domain d.val) with phase := .closed, since := s.clause, flush := false }
      if d.val < 60 then s.setFld (regThmCluster d.val) 23 23 1 else s
    else s)

/-- R549: a domain that has not closed in 25,000 clauses is opened again, and is not closed for 10 quanta (R598). The credits still
out are a free value (log entry 1). -/
def execMeshCloseAborted (d : Fin 96) (s : State) : Host.Outcome State Fault Refusal :=
  .next (let x := s.domain d.val
    if x.phase = .closing ∧ x.since.toNat + 25000 ≤ s.clause.toNat then
      let s := s.setDomain d.val { phase := .opened, since := s.clause, rest := 10 }
      let k := domainRouter d.val
      (s.ce 12 (88 + k) 0x3021 0 [d.val, s.freeWord.toNat % 2 ^ 32]).spendFree
    else s)

/-- The voltage code of a frequency code (R587): in 5 mV units, interpolated and rounded up. -/
def voltOf (f : Nat) : Nat :=
  let pts : List (Nat × Nat × Nat × Nat) := [(16, 32, 600, 100), (32, 48, 700, 100), (48, 64, 800, 100), (64, 72, 900, 80), (72, 80, 980, 120)]
  match pts.find? (fun p => decide (f ≤ p.2.1)) with
  | some (lo, hi, mv, up) => (mv * (hi - lo) + (f - lo) * up + 5 * (hi - lo) - 1) / (5 * (hi - lo))
  | none => 220

def State.modParasol (s : State) (f : Parasol → Parasol) : State := { s with parasol := f s.parasol }

/-- A cluster's frequency and voltage. -/
def State.setFreq (s : State) (k f : Nat) : State := (s.setFld (regThmCluster k) 7 0 f).setFld (regThmCluster k) 15 8 (voltOf f)

/-- An opened cluster starts with empty caches, at F in uniform mode and at 800 MHz outside it (R598). -/
def State.clusterOpened (s : State) (k : Nat) : State :=
  let fresh (y : Core) : Core := { y.discard with itlb := [], dtlb := [], l2tlb := [], walks := [] }
  let s := (upTo 4).foldl (fun (s : State) i => s.modCore (4 * k + i) fresh) s
  let s := (s.setFld (regThmCluster k) 23 23 0).setFreq k (if s.fld regThmStatus 6 6 = 1 then s.parasol.f else 16)
  s.modParasol (fun p => { p with target := Tbl.erase p.target k })

/-- R598: a domain opens; what waited for it goes on. -/
def execDomainOpen (d : Fin 96) (s : State) : Host.Outcome State Fault Refusal :=
  .next (if (s.domain d.val).phase = .opening then
      let s := s.setDomain d.val { phase := .opened, since := s.clause }
      let s := if d.val < 60 then s.clusterOpened d.val else s
      s.retryHeld.enableResume
    else s)

end Sys2Proof.Machine
end

