-- ==== Sys2Proof/Machine/Thermal.lean ====
section
/-! DEFINITION. Parasol (16_thermos.md R584 to R598): sensors, alarms and the trip, the quantum boundary with its frequencies, limits,
uniform mode and gating. -/
namespace Sys2Proof.Machine
open Sys2Proof


/-! ## Sensors (R585, R586) -/

def State.sensor (s : State) (i : Nat) : Sensor := Tbl.get {} s.parasol.sensors i
def State.setSensor (s : State) (i : Nat) (x : Sensor) : State := s.modParasol (fun p => { p with sensors := Tbl.set p.sensors i x })

/-- The die of a sensor (12 for the I/O die), its source index (R32), and its cluster. -/
def sensorDie (i : Nat) : Nat := if i < 240 then i / 20 else 12
def sensorSrc (i : Nat) : Nat := if i < 240 then 64 + i % 20 else 80
def sensorCluster (i : Nat) : Option Nat := if i < 240 then some (i / 4) else none

/-- The other sensors of its cluster, or of the I/O die. -/
def sensorNear (i : Nat) : List Nat :=
  ((if i < 240 then (upTo 4).map (· + i / 4 * 4) else (upTo 8).map (· + 240))).filter (· ≠ i)

/-- A throttle alarm of a cluster begins (R595). -/
def State.clusterAlarm (s : State) (i : Nat) (temp : Int) : State :=
  match sensorCluster i with
  | none => s
  | some k =>
    if (Tbl.find s.parasol.alarms k).isSome ∨ (s.sensor i).excluded ∨ temp < s.parasol.temp then s
    else
      let s := s.modParasol (fun p => { p with alarms := Tbl.set p.alarms k s.clause })
      let s := (s.setFld (regThmCluster k) 22 22 1).setFld regThmStatus 4 4 1
      ((s.emit (sensorDie i) (sensorSrc i) 0x6000 0 [sensorDie i, sensorSrc i, temp.toNat]).alertUpdate)

/-- A reading outside -40 to +150 degrees, or the 64th in a row with neighbours that change, excludes the sensor (R586). -/
def State.takeReading (s : State) (i : Nat) (v : Int) (nearMoved : Bool) : State :=
  let x := s.sensor i
  if x.excluded then s
  else
    let same := decide (x.run > 0) && decide (x.last = v)
    let run := if same then x.run + 1 else 1
    let moved := same && (x.moved || nearMoved)
    let bad := decide (v < -40) || decide (150 < v) || (decide (64 ≤ run) && moved)
    let hot := match x.hot with
      | some h => if h < v then some v else some h
      | none => some v
    let s := s.setSensor i { last := v, run := run, moved := moved, excluded := bad, hot := if bad then x.hot else hot }
    if bad then s.ce (sensorDie i) (sensorSrc i) 0x30F0 0 [sensorDie i, sensorSrc i, (BitVec.ofInt 32 v).toNat]
    else s.clusterAlarm i v

/-- The value of a reading: two's complement degrees. -/
def reading (v : BitVec 16) : Int := v.toInt

/-- Some neighbour of sensor `i` reads another value than before. -/
def State.nearMoved (s : State) (rs : List (Fin 248 × BitVec 16)) (i : Nat) : Bool :=
  rs.any (fun r => (sensorNear i).contains r.1.val && decide ((s.sensor r.1.val).last ≠ reading r.2))

/-- Each reading with whether a neighbour of its sensor changes at this sample. -/
def State.takeReadings (s : State) : List (Nat × Int × Bool) → State
  | [] => s
  | (i, v, m) :: l => (s.takeReading i v m).takeReadings l

/-- R585, R586: every 25,000 clauses the sensors are sampled. -/
def execSensorSample (rs : List (Fin 248 × BitVec 16)) (s : State) : Host.Outcome State Fault Refusal :=
  .next (if s.mode ≤ modeStandby then s else s.takeReadings (rs.map (fun r => (r.1.val, reading r.2, s.nearMoved rs r.1.val))))

/-- R595: a sensor reads at or above the alarm temperature. -/
def execThermalAlarm (i : Fin 248) (temp : BitVec 16) (s : State) : Host.Outcome State Fault Refusal :=
  .next (if s.mode ≤ modeStandby then s
    else
      let x := s.sensor i.val
      let s := if x.excluded then s else s.setSensor i.val { x with hot := match x.hot with
        | some h => if h < reading temp then some (reading temp) else some h
        | none => some (reading temp) }
      s.clusterAlarm i.val (reading temp))

/-- The compute dies lose their power: threads, cores and dies keep nothing (R596 step 3). -/
def State.powerOffDies (s : State) : State :=
  { s with threads := [], cores := [], homes := [],
           dies := Tbl.map (fun (d : Die) => ({ enabled := d.enabled, fenced := d.fenced } : Die)) s.dies }

/-- R596: a comparator crosses 115 degrees. -/
def execThermalTrip (i : Fin 248) (temp : BitVec 16) (s : State) : Host.Outcome State Fault Refusal :=
  .next (if s.mode ≤ modeStandby then s
    else
      let s := ({ s with thermtripN := true }).setFld regThmStatus 7 7 1
      let s := s.emit (sensorDie i.val) (sensorSrc i.val) 0x6002 0 [sensorDie i.val, sensorSrc i.val, (reading temp).toNat]
      if s.mode = modeHalt then s
      else
        let s := { (s.powerOffDies.enterMode modeHalt 18) with alertN := true }
        s.raiseEvent .trip 3 (sensorDie i.val) (sensorSrc i.val))

/-! ## The clamp (R592) -/

/-- R592: VIN current crosses 500 A. -/
def execPowerClamp (amps : Nat) (s : State) : Host.Outcome State Fault Refusal :=
  .next (if amps < 500 ∨ s.mode ≤ modeStandby then s
    else
      let s := s.setFld regThmStatus 5 5 1
      if s.parasol.clampRec then s
      else (s.modParasol (fun p => { p with clampRec := true })).emit 12 80 0x6003 0 [amps, s.parasol.lastP])

/-! ## Frequencies (R587 to R591) -/

/-- R588: an ordered change of cluster `k` is complete. -/
def execFrequencyChangeDone (k : Fin 60) (s : State) : Host.Outcome State Fault Refusal :=
  .next (match Tbl.find s.parasol.target k.val with
    | some f => (s.setFreq k.val f).modParasol (fun p => { p with target := Tbl.erase p.target k.val })
    | none => s)

def State.gated (s : State) (k : Nat) : Bool := decide (s.fld (regThmCluster k) 23 23 = 1)
def State.freq (s : State) (k : Nat) : Nat := s.fld (regThmCluster k) 7 0
/-- Enabled cores of a cluster; none on a fenced die. -/
def State.coresOf (s : State) (k : Nat) : Nat := (s.clusterCores k).length
/-- The clusters that take a frequency: those of dies not fenced, ungated. -/
def State.liveClusters (s : State) : List Nat := (upTo 60).filter (fun k => !(s.die (k / 5)).fenced && !s.gated k)
def State.alarmed (s : State) (k : Nat) : Bool := (Tbl.find s.parasol.alarms k).isSome
/-- Every sensor of a cluster is excluded: it runs at its floor (R586). -/
def State.blind (s : State) (k : Nat) : Bool := (upTo 4).all (fun i => (s.sensor (4 * k + i)).excluded)

/-- Frequencies under computation, by cluster. -/
abbrev Freqs := List (Nat × Nat)

def freqOf (fs : Freqs) (k : Nat) : Nat := ((fs.find? (fun p => decide (p.1 = k))).map (·.2)).getD 0
def freqPut (fs : Freqs) (k f : Nat) : Freqs := fs.map (fun p => if p.1 = k then (k, f) else p)

/-- The cluster with the highest frequency among some, the lowest index at ties. -/
def highest (fs : Freqs) : Option Nat :=
  (fs.foldl (fun (b : Option (Nat × Nat)) p => match b with
    | some q => if q.2 < p.2 then some p else some q
    | none => some p) none).map (·.1)

/-- The same for the lowest. -/
def lowest (fs : Freqs) : Option Nat :=
  (fs.foldl (fun (b : Option (Nat × Nat)) p => match b with
    | some q => if p.2 < q.2 then some p else some q
    | none => some p) none).map (·.1)

/-- Steps are removed, one at a time, until they are worth the excess (in 0.01 W) (R590 step 3). -/
def removeSteps (value : Nat → Nat) (mine : Nat → Bool) (fs : Freqs) (excess : Int) : Nat → Freqs
  | 0 => fs
  | n + 1 =>
    if excess ≤ 0 then fs
    else match highest (fs.filter (fun p => mine p.1 && decide (0 < p.2))) with
      | some k => removeSteps value mine (freqPut fs k (freqOf fs k - 1)) (excess - value k) n
      | none => fs

/-- Steps of the rise are granted, one at a time, while they are within the headroom (R590 step 3). -/
def grantSteps (value : Nat → Nat) (mine : Nat → Bool) (want fs : Freqs) (room : Int) : Nat → Freqs
  | 0 => fs
  | n + 1 =>
    match lowest (fs.filter (fun p => mine p.1 && decide (p.2 < freqOf want p.1))) with
    | some k => if room < value k then fs else grantSteps value mine want (freqPut fs k (freqOf fs k + 1)) (room - value k) n
    | none => fs

/-- One cap is applied: `p` the measured power and `cap` the cap, in 0.01 W. Clusters that fall keep their fall. -/
def applyCap (value : Nat → Nat) (mine : Nat → Bool) (now want : Freqs) (p cap : Nat) : Freqs :=
  if cap < p then removeSteps value mine want ((p : Int) - cap) 5000
  else
    let start : Freqs := want.map (fun q => if mine q.1 && decide (freqOf now q.1 < q.2) then (q.1, freqOf now q.1) else q)
    grantSteps value mine want start ((cap * 97 / 100 : Nat) - (p : Int)) 300

/-- A cluster's frequency plus 4 steps, within its ceiling. -/
def State.wish (s : State) (k : Nat) : Nat :=
  let hi := s.fld (regThmXcluster k) 15 8
  if s.freq k + 4 < hi then s.freq k + 4 else hi

/-- The one cluster of a die that may exceed 3,200 MHz: the one that does, or else the first that could; none while an alarm is
active on the die (R589). -/
def State.boosted (s : State) (die : Nat) : Option Nat :=
  let ks := ((upTo 5).map (· + 5 * die)).filter (fun k => !s.gated k)
  if (upTo 5).any (fun i => s.alarmed (5 * die + i)) then none
  else match ks.find? (fun k => decide (64 < s.freq k)) with
    | some k => some k
    | none => ks.find? (fun k => decide (64 < s.wish k))

/-- R589. -/
def State.capBoost (s : State) (k f : Nat) : Nat := if f ≤ 64 ∨ s.boosted (k / 5) = some k then f else 64

/-- The start values (R590 steps 1 and 2). -/
def State.startFreq (s : State) (k : Nat) : Nat := if s.alarmed k then s.freq k - 4 else s.capBoost k (s.wish k)

/-- Step 4: within the cluster's floor, 800 MHz and the ceiling; R589 holds whatever the floor. -/
def State.boundFreq (s : State) (k f : Nat) : Nat :=
  let lo := s.fld (regThmXcluster k) 7 0
  let hi := s.fld (regThmXcluster k) 15 8
  let lo := if lo < 16 then 16 else lo
  s.capBoost k (if s.blind k then lo else if f < lo then lo else if hi < f then hi else f)

/-- The die caps in turn (R590 step 3). -/
def State.dieCaps (s : State) (value : Nat → Nat) (now : Freqs) (dies : List Nat) (want : Freqs) : List Nat → Freqs
  | [] => want
  | d :: l =>
    let cap := s.fld (regThmDiecap d) 7 0
    let want := if cap = 0 then want else applyCap value (fun k => decide (k / 5 = d)) now want (dies.getD d 0 * 100) (cap * 100)
    s.dieCaps value now dies want l

/-- An ordered frequency of a cluster. -/
def State.order (s : State) : Freqs → State
  | [] => s
  | (k, f) :: l => (if f = s.freq k then s else s.modParasol (fun p => { p with target := Tbl.set p.target k f })).order l

/-- R590: the frequencies of a boundary outside uniform mode. -/
def State.setFrequencies (s : State) (p cap : Nat) (dies : List Nat) : State :=
  let value (k : Nat) : Nat := 11 * s.coresOf k
  let now : Freqs := s.liveClusters.map (fun k => (k, s.freq k))
  let want : Freqs := now.map (fun q => (q.1, s.startFreq q.1))
  let want := s.dieCaps value now dies want (upTo 12)
  let want := applyCap value (fun _ => true) now want (p * 100) cap
  s.order (want.map (fun q => (q.1, s.boundFreq q.1 q.2)))

/-! ## Uniform mode (R593, R594) -/

/-- F of a boundary in uniform mode; a step of it is worth 0.11 W for every enabled core of the package. -/
def State.uniformFreq (s : State) (f p cap : Nat) : Nat :=
  let live := s.liveClusters
  let ceil := live.foldl (fun m k => if s.fld (regThmXcluster k) 15 8 < m then s.fld (regThmXcluster k) 15 8 else m) (s.fld regThmUniform 7 0)
  let start := if s.parasol.alarms.isEmpty then (if f + 4 < ceil then f + 4 else ceil) else f - 4
  let v := 11 * (upTo 60).foldl (fun n k => n + s.coresOf k) 0
  let steps (e : Nat) : Nat := if v = 0 then 0 else e / v
  let r := if cap < p * 100 then start - steps (p * 100 - cap + v - 1)
    else
      let room := steps (cap * 97 / 100 - p * 100)
      if f < start then (if f + room < start then f + room else start) else start
  if r < 16 then 16 else r

/-- A boundary in uniform mode: entry takes the lowest present frequency as F. -/
def State.uniformBoundary (s : State) (p cap : Nat) : State :=
  let was := s.fld regThmStatus 6 6 = 1
  let f := if was then s.parasol.f else match lowest (s.liveClusters.map (fun k => (k, s.freq k))) with
    | some k => s.freq k
    | none => 16
  let g := s.uniformFreq f p cap
  let s := s.modParasol (fun x => { x with f := g })
  let s := if was then s else (s.setFld regThmStatus 6 6 1).emit 12 80 0x6005 0 [1, g]
  s.order (s.liveClusters.map (fun k => (k, g)))

/-- Some realm is sealed (R593). -/
def State.anySealed (s : State) : Bool := (upTo 1024).any s.realmSealed

/-- Uniform mode ends. -/
def State.leaveUniform (s : State) : State :=
  if s.fld regThmStatus 6 6 = 1 then (s.setFld regThmStatus 6 6 0).emit 12 80 0x6005 0 [0, s.parasol.f] else s

/-! ## Alarms and telemetry at a boundary (R585, R595) -/

/-- The hottest of some sensors in the quantum. -/
def State.hottest (s : State) (is : List Nat) : Int :=
  (is.foldl (fun (b : Option Int) i => match (s.sensor i).hot, b with
    | some h, some m => if m < h then some h else some m
    | some h, none => some h
    | none, b => b) none).getD 0

/-- An alarm clears when every sensor counted has read 3 degrees below throughout the quantum. -/
def State.clearAlarms (s : State) : List (Nat × Word) → State
  | [] => s
  | (k, c) :: l =>
    let live := ((upTo 4).map (· + 4 * k)).filter (fun i => !(s.sensor i).excluded)
    let cool := live.all (fun i => match (s.sensor i).hot with
      | some h => decide (h + 3 ≤ (s.parasol.temp : Int))
      | none => true)
    (if cool then
      let s := (s.modParasol (fun p => { p with alarms := Tbl.erase p.alarms k })).setFld (regThmCluster k) 22 22 0
      s.emit 12 80 0x6001 0 [k / 5, k % 5, (s.clause.toNat - c.toNat) % 2 ^ 32]
    else s).clearAlarms l

/-- TEMP of each cluster, HOTTEST and IOHOT; then a new quantum begins. -/
def State.telemetry (s : State) : State :=
  let t (v : Int) : Nat := (BitVec.ofInt 8 v).toNat
  let s1 := (upTo 60).foldl (fun (x : State) k => x.setFld (regThmCluster k) 31 24 (t (s.hottest ((upTo 4).map (· + 4 * k))))) s
  let s1 := (s1.setFld regThmStatus 47 40 (t (s.hottest (upTo 240)))).setFld regThmStatus 39 32 (t (s.hottest ((upTo 8).map (· + 240))))
  s1.modParasol (fun p => { p with sensors := Tbl.map (fun (x : Sensor) => { x with hot := none }) p.sensors })

/-! ## Gating (R597, R598) -/

/-- The condition of a domain, and its enable bit. -/
def State.domainIdle (s : State) (d : Nat) : Bool :=
  if d < 60 then
    let ts := (s.clusterCores d).flatMap (fun c => [2 * c, 2 * c + 1])
    !(s.die (d / 5)).fenced && ts.all (fun t => decide (s.fld (regRlmBind0 t) 16 16 = 0) &&
      !(decide ((s.thread t).level = 2) && decide ((s.thread t).wait = .ready) && s.running))
  else if d < 76 then
    s.ctxs.all (fun c => decide (c.2.engineOf ≠ d - 60) ||
      !(decide (c.2.state = ctxEnabled) || decide (c.2.state = ctxError) || decide (c.2.state = ctxDraining)))
  else if d < 88 then
    decide (s.fld (regOctCfg (d - 76)) 6 4 = 0) || (s.isTrail (d - 76) && decide (s.linkState (d - 76) = linkFenced))
  else decide (s.fld (regDirStatus (d - 88)) 1 1 = 0) || decide (s.fld (regDirStatus (d - 88)) 2 2 = 1)

def State.gateOn (s : State) (d : Nat) : Bool :=
  let b := if d < 60 then 0 else if d < 76 then 1 else if d < 88 then 2 else 3
  decide (s.fld regThmGate b b = 1)

/-- The L2s of a cluster begin their flush (R597). -/
def State.flushCluster (s : State) (k : Nat) : State :=
  (s.clusterCores k).foldl (fun (s : State) c => (s.modCore c (fun y => { y with l2Flushing := true })).flushL2 c) s

/-- A domain is marked closing; a cluster's TLBs are emptied (R548, R549 step 1). -/
def State.closeDomain (s : State) (d : Nat) (x : Domain) : State :=
  let s := s.setDomain d { x with phase := .closing, since := s.clause }
  if d < 60 then
    (s.clusterCores d).foldl (fun (s : State) c => s.modCore c (fun y => { y with itlb := [], dtlb := [], l2tlb := [], walks := [] })) s
  else s

/-- The gating decision for one domain. -/
def State.gateStep (s : State) (d : Nat) : State :=
  let x := s.domain d
  match x.phase with
  | .opened =>
    let x := { x with rest := x.rest - 1 }
    if !s.gateOn d || !s.domainIdle d then
      if x.idle = 0 ∧ !x.flush ∧ (s.domain d).rest = 0 then s else s.setDomain d { x with idle := 0, flush := false }
    else
      let x := { x with idle := x.idle + 1 }
      if x.idle < s.fld regThmGate 15 8 ∨ x.rest ≠ 0 then s.setDomain d x
      else if d < 60 ∧ !x.flush then (s.setDomain d { x with flush := true }).flushCluster d
      else if d < 60 ∧ !s.clusterQuiet d then s.setDomain d x
      else s.closeDomain d x
  | .closed => if s.gateOn d then s else s.openDomain d
  | _ => s

def State.gateSteps (s : State) : List Nat → State
  | [] => s
  | d :: l => (s.gateStep d).gateSteps l

/-! ## The boundary -/

/-- R584 to R594, R597: `p` is P of the quantum just ended, in watts, and `dies` the power of each compute die. -/
def execQuantumBoundary (p : BitVec 16) (dies : List Nat) (s : State) : Host.Outcome State Fault Refusal :=
  .next (if s.mode ≤ modeStandby ∨ s.mode = modeHalt then s
    else
      let s := s.modParasol (fun x => { x with temp := s.fld regThmAlarm 7 0 })
      let capW := s.fld regThmCap 9 0
      let past := decide (capW < p.toNat) || decide (s.fld regThmStatus 5 5 = 1)
      let n := if past then s.parasol.past + 1 else 0
      let forced := decide (10 ≤ n)
      let cap := if forced then capW * 95 else capW * 100
      let s := s.modParasol (fun x => { x with past := n, lastP := p.toNat, clampRec := false })
      let s := (s.setFld regThmStatus 5 5 0).setFld regThmStatus 63 48 p.toNat
      let s := s.setReg regThmEnergy (BitVec.ofNat 64 (satTo (2 ^ 64 - 1) ((s.reg regThmEnergy).toNat + p.toNat)))
      let s := if forced then s.emit 12 80 0x6004 0 [n, cap / 100] else s
      let s := (s.clearAlarms s.parasol.alarms).telemetry
      let s := (s.setFld regThmStatus 4 4 (b2n !s.parasol.alarms.isEmpty)).alertUpdate
      let s := if s.anySealed then s.uniformBoundary p.toNat cap else s.leaveUniform.setFrequencies p.toNat cap dies
      let s := if modeSealed ≤ s.mode then s.gateSteps (upTo 96) else s
      s.retryHeld)

end Sys2Proof.Machine
end

