-- ==== Sys2Proof/Machine/Space.lean ====
section
/-! DEFINITION. The package register space (20_register_space.md R666 to R675): what a register reads, how a write is judged and applied
field by field, what a write sets going, the host's view; error injection is armed (17_errors.md R615 to R619). -/
namespace Sys2Proof.Machine
open Sys2Proof

/-! ## Accesses and fields (R669, R674) -/

/-- The bits of its register that an access of `size` bytes at `off` touches; none for a width or an alignment that R669 does not
allow. -/
def accessMask (off size : Nat) : Option Word :=
  if size = 8 ∧ off % 8 = 0 then some (BitVec.allOnes 64)
  else if size = 4 ∧ off % 8 = 0 then some 0xffffffff
  else if size = 4 ∧ off % 8 = 4 then some 0xffffffff00000000
  else none

/-- The value of an access, in its place in the register. -/
def accessWord (off : Nat) (v : Word) : Word := if off % 8 = 4 then v <<< 32 else v

def RegField.mask (f : RegField) : Word := BitVec.ofNat 64 ((2 ^ (f.hi - f.lo + 1) - 1) * 2 ^ f.lo)

/-- The bits of the fields with an access code. -/
def fieldsMask (fs : List RegField) (a : Access) : Word :=
  fs.foldl (fun m f => if f.access = a then m ||| f.mask else m) 0

/-- The register after a write of the bits `m` of `v`: every field takes it as its access code gives, the protected ones only with
`prot` (R5, R674). -/
def applyFields (fs : List RegField) (prot : Bool) (old v m : Word) : Word :=
  let rw := (fieldsMask fs .rw ||| (if prot then fieldsMask fs .rwt ||| fieldsMask fs .rwx else 0)) &&& m
  let w := (old &&& ~~~rw) ||| (v &&& rw)
  (w &&& ~~~(fieldsMask fs .w1c &&& v &&& m)) ||| (fieldsMask fs .w1s &&& v &&& m)

/-! ## Values outside their range (the register tables) -/

/-- `off` is one of `n` registers `stride` apart from `base`. -/
def oneOf (base stride n off : Nat) : Bool :=
  decide (base ≤ off) && decide (off < base + stride * n) && decide ((off - base) % stride = 0)

/-- A field held within [a, b]. -/
def holdFld (w : Word) (hi lo a b : Nat) : Word := putBits w hi lo (clampTo a b (bits w hi lo))
/-- A field that stores 1 for 0. -/
def least1 (w : Word) (hi lo : Nat) : Word := if bits w hi lo = 0 then putBits w hi lo 1 else w

/-- The events of an uncore counter's block (R655). -/
def uncoreEvent (j ev : Nat) : Bool :=
  if j < 2688 then decide (1 ≤ ev ∧ ev ≤ 4)
  else if j < 2784 then decide (1 ≤ ev ∧ ev ≤ 10)
  else if j < 2880 then decide (1 ≤ ev ∧ ev ≤ 5) || decide (0x10 ≤ ev ∧ ev ≤ 0x18)
  else if j < 2928 then decide (1 ≤ ev ∧ ev ≤ 5) || decide (8 ≤ ev ∧ ev ≤ 11)
  else if j < 2992 then decide (1 ≤ ev ∧ ev ≤ 6)
  else decide (1 ≤ ev ∧ ev ≤ 3)

/-- The instance that UNIT names exists (R615). -/
def State.injectUnit (s : State) (target u : Nat) : Bool :=
  let thread (first : Bool) : Bool := decide (u / 2048 = s.pkgNum) && (match posOfTid u with
    | some t => s.threadExists t && (!first || decide (t % 2 = 0))
    | none => false)
  match target with
  | 0 => thread false
  | 1 => thread true
  | 2 => decide (u < 192) && !(s.die (u / 16)).fenced
  | 3 => thread false
  | 4 => thread true
  | 5 => thread false
  | 6 => decide (u < 16) && decide (s.fld (regDmcStatus u) 1 1 = 0)
  | 7 => decide (u < 8) && decide (s.fld (regDirStatus u) 2 1 = 1)
  | 8 => decide (u < 12) && s.isTrail u
  | 9 => decide (u < 12) && !(s.die u).fenced
  | 10 => decide (u < 36)
  | 11 => decide (u < 16) && decide (s.fld (regPenStatus u) 2 1 = 0)
  | _ => false

/-- GLB.X_INJECT: an injection that names nothing leaves ARMED at 0; arming clears FIRED (R615, R619). -/
def State.injectValue (s : State) (w : Word) : Word :=
  if bit w 63 then
    if bits w 47 46 < 2 ∧ s.injectUnit (bits w 51 48) (bits w 31 16) then putBits w 62 62 0 else putBits w 63 63 0
  else w

/-- The word stored for `w`, fields outside their range brought to what their table gives. -/
def State.clampReg (s : State) (off : Nat) (w : Word) : Word :=
  if off = regGlbQuiescectl then holdFld w 7 0 0x40 0xff
  else if off = regGlbInject then s.injectValue w
  else if off = regClkEventctl then holdFld w 7 0 0x20 0x7f
  else if off = regThmCap then holdFld w 9 0 200 780
  else if off = regThmAlarm then holdFld w 7 0 0x3c 0x69
  else if oneOf (regThmXcluster 0) 8 60 off then (let w := holdFld w 15 8 0x10 0x50; holdFld w 7 0 0x10 (bits w 15 8))
  else if off = regThmGate then least1 w 15 8
  else if off = regThmUniform then holdFld w 7 0 0x10 0x40
  else if off = regTlgSpill then holdFld w 5 1 0x10 0x1e
  else if oneOf (regTlgRate 0) 8 16 off then holdFld (least1 w 15 8) 4 0 8 0x18
  else if off = regPccDumpctl then holdFld (holdFld w 63 32 0x9c4 0xffffffff) 7 4 0 10
  else if off = regRlmSeal then holdFld (least1 w 28 16) 4 0 1 16
  else if oneOf (regRlmReg0 0) 16 4096 off then holdFld (holdFld w 28 16 0 0x1000) 12 0 0 0x1000
  else if oneOf (regDmcTokendepth 0) 0x10000 16 off then least1 (least1 (least1 (least1 w 47 36) 35 24) 23 12) 11 0
  else if oneOf (regDmcScrub 0) 0x10000 16 off then least1 w 15 8
  else if off = regDmcShare then least1 (least1 (least1 (least1 w 31 24) 23 16) 15 8) 7 0
  else if oneOf (regDirFencectl 0) 0x10000 8 off then least1 w 23 16
  else if off = regDirAgectl then holdFld w 4 0 0x10 0x1c
  else if off = regDirReshapectl then least1 w 1 0
  else if oneOf (regHomSettle 0) 0x10000 16 off then holdFld w 7 0 0x10 0xff
  else if oneOf (regTrlLinkctl 0) 0x10000 12 off then least1 (least1 w 23 16) 1 0
  else if off = regTrlArb then least1 (least1 (least1 w 11 8) 7 4) 3 0
  else if off = regEpfPoll then (let w := holdFld w 7 0 1 0x64; holdFld w 15 8 (bits w 7 0) 0x64)
  else if off = regEpfBar2cfg then holdFld w 5 0 0x1c 0x24
  else if oneOf (regOptctl 0) 0x100000 12 off then least1 w 2 1
  else if off = regMshArb then least1 w 9 0
  else if off = regMshRetry then holdFld w 7 0 0x10 0xff
  else w

/-! ## Judging a write (R674) -/

/-- The number of the block that a register belongs to (R511). -/
def blockOf (off : Nat) : Nat :=
  if off < 0x40000 then 0 else if off < 0x100000 then 1 else if off < 0x200000 then 2 else if off < 0x300000 then 3
  else if off < 0x400000 then 4 else if off < 0x480000 then 5 else if off < 0x600000 then 6 else if off < 0x800000 then 7
  else if off < 0xa00000 then 8 else if off < 0xb00000 then 9 else if off < 0xc00000 then 10
  else if off < 0xd00000 then (if off % 0x10000 < 0x100 ∨ (0x200 ≤ off % 0x10000 ∧ off % 0x10000 < 0x8000) then 11 else 12)
  else if off < 0xe00000 then 13 else if off < 0x1000000 then 14
  else if off < 0x2000000 then (if off % 0x100000 < 0x20000 then 15 else 16)
  else 17

/-- A grant for the block is live at the present clause (R512). -/
def State.grantLive (s : State) (block : Nat) : Bool :=
  (upTo 16).any (fun k => decide (s.fld (regTktGrant0 k) 8 8 = 1) && decide (s.fld (regTktGrant0 k) 4 0 = block) &&
    decide (s.clause.toNat < (s.reg (regTktGrant1 k)).toNat))

/-- The register's chapter allows the change of protected fields in the present state: a sealed realm's SEALED, L3MASK and MIN do not
change (R468, R481), and an L3's flush is not broken off (R185). -/
def State.stateAllows (s : State) (off : Nat) (old new : Word) : Bool :=
  match realmOfOffset off with
  | some _ => decide (bits old 32 32 = bits new 32 32) && (!bit old 32 || decide (bits old 63 48 = bits new 63 48))
  | none =>
    if oneOf (regRlmReg0 0) 16 4096 off then
      !s.realmSealed ((off - regRlmReg0 0) / 16 % 1024) || decide (bits old 12 0 = bits new 12 0)
    else if oneOf (regL3ctl 0) 0x100000 12 off then !(bit old 1 && bit old 0 && !bit new 0)
    else true

/-- What a write leaves in the register, and, for a register with protected fields, the outcome that is recorded: 0 applied, 1 no
ticket, 2 no live grant, 3 refused by state (R674). -/
def State.judge (s : State) (who : Writer) (off : Nat) (v m : Word) : Word × Option Nat :=
  let old := s.reg off
  let fs := regFields off
  let want := s.clampReg off (applyFields fs true old v m)
  let rwt := fieldsMask fs .rwt
  let rwx := fieldsMask fs .rwx
  if rwt ||| rwx = 0 then (want, none)
  else
    let dt := decide ((want ^^^ old) &&& rwt ≠ 0)
    let dx := decide ((want ^^^ old) &&& rwx ≠ 0)
    let thread := match who with
      | .thread _ => true
      | _ => false
    let outcome : Nat :=
      if dt && decide (who ≠ .ticket) then 1
      else if dx && !(thread && s.grantLive (blockOf off)) then 2
      else if (dt || dx) && !s.stateAllows off old want then 3
      else 0
    (if outcome = 0 then want else s.clampReg off (applyFields fs false old v m), some outcome)

/-- The origin of a write's records (R638). -/
def State.writerOrigin (s : State) (who : Writer) : BitVec 16 := match who with
  | .thread o => o
  | _ => s.hostOrigin

/-- The records of a write to a protected register: NEW is the register's value when the outcome is 0, else the value written
(R637). -/
def State.writeRecs (s : State) (who : Writer) (off outcome : Nat) (old new v : Word) : State :=
  s.chgRecs (s.writerOrigin who) off outcome old (if outcome = 0 then new else v)

/-- A write that a rule refuses in full (R674). -/
def State.refuseFull (s : State) (who : Writer) (off : Nat) (v m : Word) : State :=
  let old := s.reg off
  let want := applyFields (regFields off) true old v m
  let dx := decide ((want ^^^ old) &&& fieldsMask (regFields off) .rwx ≠ 0)
  s.chgRecs (s.writerOrigin who) off (if dx && !s.grantLive (blockOf off) then 2 else 3) old v

/-- The ordinary write of a register: judged, stored, recorded. `done` is what an applied write sets going. -/
def State.writePlain (s : State) (who : Writer) (off : Nat) (v m : Word) (done : State → Word → State) : State :=
  let old := s.reg off
  match s.judge who off v m with
  | (w, none) => done (s.setReg off w) w
  | (w, some k) =>
    let s := (s.setReg off w).writeRecs who off k old w v
    if k = 0 then done s w else s

/-! ## Registers whose write does more -/

/-- A write of RLM.TABLE[r]: refused in full on a worker, else applied on every member (R445). A journal that had stopped goes on with
what is written (R460). -/
def State.writeRealmEntry (s : State) (who : Writer) (off : Nat) (v m : Word) : State :=
  if s.joined && !s.isManager then s.refuseFull who off v m
  else
    let old := s.reg off
    let o := s.writerOrigin who
    let r := (off - regRlmTable0 0) / 16
    let s := { s with jrnOff := s.jrnOff.filter (fun x => decide (x ≠ r)) }
    match s.judge who off v m with
    | (w, none) => if w = old then s else s.setRealmWord off w o
    | (w, some 0) => if w = old then s.writeRecs who off 0 old w v else s.setRealmWord off w o
    | (w, some k) =>
      let s := s.writeRecs who off k old w v
      if w = old then s else (s.sendAll .event (.report (.realmWord off w o)) s.otherMembers).setReg off w

/-- A write of GLB.X_INJECT: while ARMED is 1 only a write of ARMED = 0 is judged (R619). -/
def State.writeInject (s : State) (who : Writer) (v m : Word) : State :=
  if bit (s.reg regGlbInject) 63 && !(bit m 63 && !bit v 63) then s.refuseFull who regGlbInject v m
  else s.writePlain who regGlbInject v m (fun s _ => s)

/-- R615, R619: a write to GLB.X_INJECT. -/
def execInjectArm (who : Writer) (v : Word) (s : State) : Host.Outcome State Fault Refusal :=
  .next (if s.mode = modeHalt then s else s.writeInject who v (BitVec.allOnes 64))

/-- A write of PCC.B_DUMPCTL (R656, R660). -/
def State.writeDumpctl (s : State) (v m : Word) : State :=
  let old := s.reg regPccDumpctl
  let w := s.clampReg regPccDumpctl (applyFields (regFields regPccDumpctl) true old v m)
  let s := s.setReg regPccDumpctl (putBits w 1 0 (bits old 1 0))
  let s := if bit w 0 then s.dumpEnable else s.setFld regPccDumpctl 0 0 0
  if bit (v &&& m) 1 then s.dumpNow else s

/-- A write of PCC.VALUE or PCC.SEL; those of core slots ignore writes (R655, R664). -/
def State.writeCounter (s : State) (off : Nat) (v m : Word) : State :=
  let sel := decide (regPccSel 0 ≤ off)
  let j := (off - (if sel then regPccSel 0 else regPccValue 0)) / 8
  if j < 1920 then s
  else if sel then
    let w := applyFields (regFields off) true (s.pccS j) v m
    s.setPccS j (if uncoreEvent j (bits w 7 0) then w else putBits w 7 0 0)
  else s.setPccV j (applyFields (regFields off) true (s.pccV j) v m)

/-- A write of RLM.CMD (R480). -/
def State.writeRlmCmd (s : State) (o : BitVec 16) (v m : Word) : State :=
  s.rlmCommand (bits (v &&& m) 18 16) (bits (applyFields (regFields regRlmCmd) true (s.reg regRlmCmd) v m) 9 0) o

/-- A write of RLM.PGARG: CMD 01b and 10b start a command, 11b completes at once (R480). -/
def State.writePgarg (s : State) (v m : Word) : State :=
  let page := bits (applyFields (regFields regRlmPgarg) true (s.reg regRlmPgarg) v m) 51 12
  match bits (v &&& m) 1 0 with
  | 1 => s.pageCommand true (BitVec.ofNat 40 page)
  | 2 => s.pageCommand false (BitVec.ofNat 40 page)
  | 0 => s.setFld regRlmPgarg 51 12 page
  | _ => if s.fld regRlmPgcmd 63 63 = 1 then s
    else ((s.setFld regRlmPgarg 51 12 page).setFld regRlmPgcmd 62 60 pgState).setFld regRlmPgcmd 59 50 0

/-- A write of PEN.CTXCMD (R404, R406, R565): 000b only sets INDEX, 110b and 111b complete with BAD_FIELD. -/
def State.writeCtxcmd (s : State) (v m : Word) : State :=
  let c := bits (applyFields (regFields regPenCtxcmd) true (s.reg regPenCtxcmd) v m) 13 0
  match bits (v &&& m) 18 16 with
  | 0 => if s.fld regPenCtxcmd 19 19 = 1 then s else s.setFld regPenCtxcmd 13 0 c
  | 1 => s.ctxcmdRead c
  | 2 => s.ctxcmdWrite c
  | 3 => s.ctxcmdEnable c
  | 4 => s.ctxcmdDisable c
  | 5 => s.ctxcmdAbort c
  | _ => s.ctxCommand c (fun s => s.ctxCmdDone ctxrBadField)

/-- A write of a ring's word: while EN is 1 only EN takes it; EN is set with LOG in range, and clears the head (R524). -/
def State.writeRing (s : State) (off : Nat) (v m : Word) : State :=
  let old := s.reg off
  let top := if off < regEpfPring0 0 then 12 else 14
  if off % 16 = 0 then
    if s.fld (off + 8) 4 4 = 1 then s else s.setReg off (applyFields (regFields off) true old v m)
  else
    let w := applyFields (regFields off) true old v m
    if bit old 4 then s.setReg off (putBits old 4 4 (bits w 4 4))
    else if bit w 4 then
      if 4 ≤ bits w 3 0 ∧ bits w 3 0 ≤ top then (s.setReg off (putBits w 63 32 0)).issueReads 256
      else s.setReg off (putBits w 4 4 0)
    else s.setReg off w

/-- The value that a mapping register will hold once its writes have taken effect (R492). -/
def State.mapPending (s : State) (off : Nat) : Word :=
  s.mapDue.foldl (fun w x => if x.1 = off then x.2.1 else w) (s.reg off)

/-- A spill region at EN = 1 is checked (R625). -/
def State.spillWritten (s : State) : State :=
  if s.fld regTlgSpill 0 0 = 0 then s.setFld regTlgStatus 1 1 0
  else match s.systemRange s.spillBase (s.spillLen * 32) with
    | 0 => s.setFld regTlgStatus 1 1 1
    | k => s.spillOff k

/-- The records of a class's codes fit a smaller DEPTH (R628). -/
def State.rateWritten (s : State) (off : Nat) : State :=
  let cls := (off - regTlgRate 0) / 8
  let d := s.bucketDepth (cls * 4096)
  { s with log := { s.log with buckets := s.log.buckets.filter (fun x => decide (codeClass x.1 ≠ cls) || decide (x.2 < d)) } }

/-- A register that only RLM, PEN or other commands may find absent: a fenced die's (R541), a root port's on another octet (R526). -/
def State.regAbsent (s : State) (off : Nat) : Bool :=
  if 0x1000000 ≤ off ∧ off < 0x1c00000 then
    (s.die ((off - 0x1000000) / 0x100000)).fenced && decide (off % 0x100000 < 0x20000)
  else if 0xc00000 ≤ off ∧ off < 0xcc0000 then
    decide (0x200 ≤ off % 0x10000 ∧ off % 0x10000 < 0x600) && !s.isRoot ((off - 0xc00000) / 0x10000)
  else false

/-- A TRL register of an octet whose applied role is not Trail, which reads 0 (R356). -/
def State.trailAbsent (s : State) (off : Nat) : Bool :=
  decide (0xc00000 ≤ off ∧ off < 0xcc0000) && decide (0x100 ≤ off % 0x10000 ∧ off % 0x10000 < 0x200) && !s.isTrail ((off - 0xc00000) / 0x10000)

/-- An owner key slot, which reads 0 on a worker (R525). -/
def State.slotAbsent (s : State) (off : Nat) : Bool :=
  decide (regTktSlot0 0 ≤ off ∧ off < regTktSlot0 8) && s.joined && !s.isManager

/-- The classes whose TLG.X_RATE holds only reserved fields (R640). -/
def rateReserved (off : Nat) : Bool :=
  [0, 1, 2, 4, 5, 15].any (fun c => decide (off = regTlgRate c))

/-- A write of the bits `m` of `v` to the register at `off`. -/
def State.writeReg (s : State) (who : Writer) (off : Nat) (v m : Word) : State :=
  let o := s.writerOrigin who
  if (regFields off).isEmpty || s.regAbsent off || rateReserved off then s
  else if off = regTlgFreeze then (if bit m 0 then s.freezeWrite (bit v 0) else s)
  else if s.mode = modeHalt ∧ off ≠ regTlgCursor then s
  else if off = regGlbInject then s.writeInject who v m
  else if off = regPccDumpctl then s.writeDumpctl v m
  else if regPccValue 0 ≤ off ∧ off < 0x400000 then s.writeCounter off v m
  else if off = regRlmCmd then s.writeRlmCmd o v m
  else if off = regRlmPgcmd then (if s.fld regRlmPgcmd 63 63 = 1 then s else s.writePlain who off v m (fun s _ => s))
  else if off = regRlmPgarg then s.writePgarg v m
  else if regRlmTable0 0 ≤ off ∧ off < regRlmTable0 1024 then s.writeRealmEntry who off v m
  else if off = regPenCtxcmd then s.writeCtxcmd v m
  else if regEpfCring0 0 ≤ off ∧ off < regEpfPring0 64 then s.writeRing off v m
  else if oneOf (regEpfWin 0) 8 16 off then
    s.mapWrite off (winMask (applyFields (regFields off) true (s.mapPending off) v m)) o
  else if oneOf (regRpctl 0) 0x10000 12 off then (if bit (v &&& m) 0 then s.rpRelease ((off - 0xc00000) / 0x10000) else s)
  else if 0xc00000 ≤ off ∧ off < 0xcc0000 ∧ 0x300 ≤ off % 0x10000 ∧ off % 0x10000 < 0x500 then
    s.rpassignWrite ((off - 0xc00000) / 0x10000) (off % 0x10000 / 8 - 0x60) (applyFields (regFields off) true (s.mapPending off) v m) o
  else if oneOf (regL3ctl 0) 0x100000 12 off then
    let die := (off - 0x1000000) / 0x100000
    let old := s.reg off
    match s.judge who off v m with
    | (w, some 0) =>
      let s := s.writeRecs who off 0 old w v
      if bit w 0 then s.disableL3 die else s.enableL3 die
    | (w, k) => s.writeRecs who off (k.getD 0) old w v
  else s.writePlain who off v m (fun s w =>
    if off = regTlgSpill then s.spillWritten
    else if oneOf (regTlgRate 0) 8 16 off then s.rateWritten off
    else if oneOf (regDmcCectl 0) 0x10000 16 off then
      (if bit w 0 then (s.setFld off 0 0 0).clearCetab ((off - 0x800000) / 0x10000) 16 else s)
    else if oneOf (regTrlLinkctl 0) 0x10000 12 off then
      (let n := (off - 0xc00000) / 0x10000
       if bit w 24 then (let s := s.setFld off 24 24 0
                         if s.isTrail n then s.partialReset n 4 else s) else s)
    else s)

/-- The package's registers can be reached: it is powered and out of reset. -/
def State.regsOn (s : State) : Bool := decide (modeSense ≤ s.mode)

/-- A write of `size` bytes at a PRS offset (R669). -/
def State.prsWrite (s : State) (who : Writer) (off size : Nat) (v : Word) : State :=
  match accessMask off size with
  | none => s
  | some m => if s.regsOn then s.writeReg who (off / 8 * 8) (accessWord off v) m else s

/-! ## The platform host's view (R489, R672, R673) -/

/-- The PRS offset that a BAR0 offset from 4_0000h maps. -/
def viewOffset (o : Nat) : Nat :=
  let page := [0x0, 0x40000, 0x100000, 0x200000, 0x600000, 0x800000, 0xa00000, 0xc00000, 0x300000, 0x410000, 0x480000, 0x2000000]
  page.getD (o / 0x10000 - 4) 0 + o % 0x10000

/-- A write through the view: only TLG.CURSOR and TLG.FREEZE take it; one to a protected register is recorded as refused. -/
def State.viewWrite (s : State) (off : Nat) (v m : Word) : State :=
  let fs := regFields off
  let rwt := fieldsMask fs .rwt
  let rwx := fieldsMask fs .rwx
  if off = regTlgCursor ∨ off = regTlgFreeze then s.writeReg .host off v m
  else if rwt ||| rwx = 0 ∨ rateReserved off ∨ s.regAbsent off ∨ s.mode = modeHalt then s
  else
    let old := s.reg off
    let d := s.clampReg off (applyFields fs true old v m) ^^^ old
    let ticket := decide (d &&& rwt ≠ 0) || (decide (d &&& rwx = 0) && decide (rwt ≠ 0))
    s.chgRecs s.hostOrigin off (if ticket then 1 else 2) old v

/-- The host writes 4 bytes of the MSI-X table; a pending vector that becomes unmasked is sent (R486, R489). -/
def State.msixWrite (s : State) (dw : Nat) (v : BitVec 32) : State :=
  let s := s.modEpf (fun e => { e with msix := Tbl.set e.msix dw v })
  if s.epf.msixPending.contains (dw / 4) && !s.msixMasked (dw / 4) then
    (s.modEpf (fun e => { e with msixPending := e.msixPending.erase (dw / 4) })).epfOut (.msix (dw / 4))
  else s

/-- The function answers accesses to its BARs (R487, R514, R515). -/
def State.barsOpen (s : State) : Bool :=
  s.epfPresent && s.epfLinked && !s.epfContained && decide (s.fld regEpfStatus 9 8 = 0) && decide (s.fld regEpfStatus 10 10 = 1)

/-- A host write of `size` bytes at BAR0 offset `o` (R489). -/
def State.barWrite (s : State) (o size : Nat) (v : Word) : State :=
  match accessMask o size with
  | none => s
  | some m =>
    if !s.barsOpen || decide (0x100000 ≤ o) then s
    else if o < 0x8000 then s.writeReg .host (0xd00000 + o / 8 * 8) (accessWord o v) m
    else if o < 0x10000 then
      let dw := (o - 0x8000) / 4
      if size = 8 then (s.msixWrite dw (v.truncate 32)).msixWrite (dw + 1) ((v >>> 32).truncate 32) else s.msixWrite dw (v.truncate 32)
    else if o < 0x40000 then s
    else s.viewWrite (viewOffset o / 8 * 8) (accessWord o v) m

/-- R674: a realm-0 thread writes at PRS offset `off`, or the platform host at BAR0 offset `off`. -/
def execPrsWrite (who : Writer) (off : BitVec 26) (size : Fin 9) (v : Word) (s : State) : Host.Outcome State Fault Refusal :=
  .next (match who with
    | .host => (s.tlpIn 0 size.val).barWrite off.toNat size.val v
    | _ => s.prsWrite who off.toNat size.val v)

/-! ## Reads (R630, R632, R664, R668) -/

/-- 8 bytes of the record window, record 0 having index `ix` (R630). -/
def State.windowRead (s : State) (off ix : Nat) : Word :=
  let o := off % 0x1000
  BitVec.ofNat 64 (s.recBits (ix + o / 32) / 2 ^ (o % 32 * 8))

/-- A register's value as a read finds it. -/
def State.readReg (s : State) (off : Nat) : Word :=
  if regTlgStatus + 0x1000 ≤ off ∧ off < regTlgStatus + 0x2000 then
    let p := s.fld regTlgCursor 52 48
    if p ≠ s.pkgNum then BitVec.allOnes 64 else s.windowRead off (s.fld regTlgCursor 47 0)
  else if (regFields off).isEmpty || s.regAbsent off || rateReserved off || s.trailAbsent off || s.slotAbsent off then 0
  else if off = regClkTime then s.clause
  else if off = regTlgStatus then putBits (s.reg off) 44 32 s.log.queue.length
  else if regPccValue 0 ≤ off ∧ off < regPccSel 0 then s.counterValue ((off - regPccValue 0) / 8)
  else if regPccSel 0 ≤ off ∧ off < 0x400000 then
    let j := (off - regPccSel 0) / 8
    let tag := bits (s.pccS j) 33 24
    if j < 1920 ∧ (!s.coreExists (j / 8) ∨ (tag ≠ 0 ∧ s.realmSealed tag)) then 0 else s.pccS j
  else if oneOf (regTktSlot0 0) 8 16 off then (if s.joined && !s.isManager then 0 else s.reg off)
  else if oneOf (regEpfWin 0) 8 16 off ∨ (0xc00000 ≤ off ∧ off < 0xcc0000 ∧ 0x300 ≤ off % 0x10000 ∧ off % 0x10000 < 0x500) then s.mapRead off
  else s.reg off &&& ~~~(fieldsMask (regFields off) .wo)

/-- A read of `size` bytes at a PRS offset (R630, R669). -/
def State.prsRead (s : State) (off size : Nat) : Word :=
  let window := decide (regTlgStatus + 0x1000 ≤ off ∧ off < regTlgStatus + 0x2000)
  match accessMask off size with
  | none => 0
  | some _ =>
    if size = 8 then s.readReg off
    else if window then 0
    else BitVec.ofNat 64 (bits (s.readReg (off / 8 * 8)) (if off % 8 = 4 then 63 else 31) (if off % 8 = 4 then 32 else 0))

/-- A read of the window, HEAD, TAIL or FREEZE that the manager's CURSOR.PKG directs to another member (R632). -/
def State.readsOther (s : State) (off : Nat) : Option Nat :=
  let p := s.fld regTlgCursor 52 48
  let mine := (0x201000 ≤ off ∧ off < 0x202000) ∨ off / 8 * 8 = regTlgHead ∨ off / 8 * 8 = regTlgTail ∨ off / 8 * 8 = regTlgFreeze
  if s.isManager ∧ p ≠ s.pkgNum ∧ s.isMember p ∧ mine then some p else none

/-! ## The messages (R543, R670) -/

/-- A realm-0 thread as the origin of a change: its package, die and position (R32, R638). -/
def threadOrigin (rank : BitVec 16) : BitVec 16 :=
  match posOfTid rank.toNat with
  | some t => BitVec.ofNat 16 (rank.toNat / 2048 * 2048 + t / 40 * 128 + t % 40)
  | none => rank

/-- A message for this package's register unit: refused by a closed domain (R551), lost to the mesh (R552), or served. -/
def State.regMessage (s : State) (m : Msg) (e : MeshError) (serve : State → State) : Host.Outcome State Fault Refusal :=
  if agentPkg m.hdr.dst ≠ s.pkgNum then .fault .noSuchAgent
  else if !s.regsOn then .next s
  else if s.meshBlocked m then .next (s.meshRefuse m)
  else arrive s m (fun s => match s.meshError e with
    | (s, true) => .next (serve s)
    | (s, false) => .next s)

/-- The octet, when the access falls in the ranges of a root port of this package. -/
def State.portRange (s : State) (off : Nat) : Option (Nat × Bool × Nat) :=
  match deviceRange off with
  | some (n, cfg, o) => if s.isRoot n then some (n, cfg, o) else none
  | none => none

/-- R666, R668, R670, R521: a read of the device region. One that the manager's TLG.CURSOR directs elsewhere goes there, with the
record index in its message (log entry 37). -/
def State.serveRead (s : State) (h : Hdr) (off size : Nat) (w : Word) : State :=
  if off < 0x4000000 then
    if bit w 63 ∧ 0x201000 ≤ off ∧ off < 0x202000 then
      s.regReply h (if size = 8 ∧ off % 8 = 0 then s.windowRead off (bits w 47 0) else 0)
    else match s.readsOther off with
      | some p =>
        s.send { type := .regRead, hdr := { h with dst := agentId p 12 96, stamp := s.clause },
                 body := .reg (BitVec.ofNat 40 off) size (BitVec.ofNat 64 (2 ^ 63 + s.fld regTlgCursor 47 0)) }
      | none => s.regReply h (s.prsRead off size)
  else match s.portRange off with
    | some (n, cfg, o) => s.devRead h off size n cfg o
    | none => s.regReply h 0

/-- The index that a directed read of the record window carries. -/
def State.directedIndex (s : State) (h : Hdr) (off : BitVec 40) (size : Nat) : Word :=
  match s.sent.find? (fun m => decide (m.type = .regRead) && decide (m.hdr = h)) with
  | some m => match m.body with
    | .reg o n w => if o = off ∧ n = size then w else 0
    | _ => 0
  | none => 0

/-- R670. -/
def execRegisterRead (h : Hdr) (off : BitVec 40) (size : Fin 9) (e : MeshError) (s : State) : Host.Outcome State Fault Refusal :=
  let w := s.directedIndex h off size.val
  s.regMessage { type := .regRead, hdr := h, body := .reg off size.val w } e (fun s => s.serveRead h off.toNat size.val w)

/-- R670: a write of the device region. -/
def execRegisterWrite (h : Hdr) (off : BitVec 40) (size : Fin 9) (v : Word) (e : MeshError) (s : State) :
    Host.Outcome State Fault Refusal :=
  s.regMessage { type := .regWrite, hdr := h, body := .reg off size.val v } e (fun s =>
    if off.toNat < 0x4000000 then s.prsWrite (.thread (threadOrigin h.rank)) off.toNat size.val v
    else match s.portRange off.toNat with
      | some (n, cfg, o) => if s.mode = modeHalt then s else s.devWrite off.toNat size.val v n cfg o
      | none => s)

/-- R670: the answer reaches the thread that waits for it. -/
def execRegisterAnswer (h : Hdr) (v : Word) (e : MeshError) (s : State) : Host.Outcome State Fault Refusal :=
  match s.coreOfAgent h.dst with
  | none => .fault .noSuchAgent
  | some c =>
    arrive s { type := .regAnswer, hdr := h, body := .value v } (fun s =>
      if !s.coreExists c then .next s
      else match s.meshError e with
        | (s, false) => .next s
        | (s, true) => .next (match s.waiter c h.tid with
          | some (t, d) => s.completeAccess t d v
          | none => if (s.core c).discards.contains h.tid then s.modCore c (fun k => { k with discards := k.discards.erase h.tid }) else s))

/-- R465: an interrupt message reaches this package, and its interrupt waits for the resolution of its clause at rank 9. -/
def execInterruptDelivery (h : Hdr) (tid : BitVec 16) (cls : IntClass) (atS : Bool) (e : MeshError) (s : State) :
    Host.Outcome State Fault Refusal :=
  s.regMessage { type := .interrupt, hdr := h, body := .interrupt tid cls atS } e (fun s =>
    if s.mode = modeHalt then s
    else match posOfTid tid.toNat with
      | some t =>
        if tid.toNat / 2048 = s.pkgNum ∧ s.threadExists t then s.localEvent (.interrupt t cls h.realm atS (some (h, tid))) 9 (dieOf t) (t % 40)
        else s.intRefused h tid cls
      | none => s.intRefused h tid cls)

/-- R607: 250,000 clauses have passed without a restart of the watchdog. -/
def execMcWatchdog (s : State) : Host.Outcome State Fault Refusal :=
  .next (if s.regsOn then s.ueP 12 81 0x5000 0 [250000] else s)

end Sys2Proof.Machine
end

