-- ==== Sys2Proof/Machine/Image.lean ====
section
/-! DEFINITION. Forming the image and its routes (09_trail_fabric.md R337 to R346, R689; 15_startup_modes.md R570). -/
namespace Sys2Proof.Machine
open Sys2Proof

/-! ## Topology (R337, R338) -/

/-- A link between two members as the identities give it: the ends' numbers, and the octet at the first. -/
abbrev Edge := Nat × Nat × Nat

/-- The number of a serial among numbered members. -/
def numOf (ms : List (Word × Nat)) (serial : Word) : Option Nat := (ms.find? (fun m => decide (m.1 = serial))).map (·.2)

/-- Every link end between members, less the lost ones. -/
def edges (ids : List Ident) (ms : List (Word × Nat)) (lost : List (Nat × Nat)) : List Edge :=
  ids.flatMap (fun i => match numOf ms i.serial with
    | none => []
    | some p => i.links.filterMap (fun l => match numOf ms l.2.1 with
      | some q => if lost.contains (p, l.1) then none else some (p, q, l.1)
      | none => none))

/-- A link is up only while neither end has lost it: both ends of every edge kept. -/
def upEdges (es : List Edge) : List Edge :=
  es.filter (fun e => decide ((es.filter (fun f => decide (f.1 = e.2.1 ∧ f.2.1 = e.1))).length > 0))

/-- Packages within `k` links of those in `from'`. -/
def reachIn (es : List Edge) (from' : List Nat) : Nat → List Nat
  | 0 => from'
  | k + 1 => reachIn es (es.foldl (fun acc e => if acc.contains e.1 && !acc.contains e.2.1 && from'.contains e.1 then acc ++ [e.2.1] else acc) from') k

/-- Links on the shortest route from `p` to `q`, at most 3 (R337); 0 for itself, none beyond. -/
def distance (es : List Edge) (p q : Nat) : Option Nat :=
  (upTo 4).find? (fun k => (reachIn es [p] k).contains q)

/-- The route table entry of package `p` for destination `d` (R338, R357). -/
def routeEntry (es : List Edge) (members : List Nat) (p d : Nat) : Word :=
  if p = d ∨ !members.contains d then 0
  else match distance es p d with
    | none => 0
    | some k =>
      let ports := es.filter (fun e => decide (e.1 = p) && (match distance es e.2.1 d with
        | some j => decide (j + 1 = k)
        | none => false))
      let mask := ports.foldl (fun m e => m ||| 2 ^ e.2.2) 0
      BitVec.ofNat 64 (2 ^ 15 + k * 2 ^ 12 + mask)

def routeTable (es : List Edge) (members : List Nat) (p : Nat) : List Word := (upTo 32).map (routeEntry es members p)

/-- The rules of R337 hold among the members: 0, or 1 when a member is out of reach and 2 for the other rules. -/
def topologyFault (es : List Edge) (members : List Nat) : Nat :=
  let anyFar (k : Nat) : Bool := members.any (fun p => members.any (fun q => !(reachIn es [p] k).contains q))
  if anyFar 32 then 1
  else if anyFar 3 || es.any (fun e => decide (e.1 = e.2.1)) ||
    members.any (fun p => members.any (fun q => decide (p ≠ q) && decide ((es.filter (fun e => decide (e.1 = p ∧ e.2.1 = q))).length > 4))) then 2
  else 0

/-! ## This package's identity and resources (R344, R557, R610) -/

/-- Its channel mode (R395): 16 channels, 0 to 7, or 8 to 15. -/
def State.ownChanMode (s : State) : Nat :=
  let fenced (a : Nat) : Bool := (upTo 8).all (fun i => s.fld (regDmcStatus (a + i)) 1 1 = 1)
  if fenced 8 then 1 else if fenced 0 then 2 else 0

def State.trainedPorts (s : State) : List Nat := (upTo 8).filter (fun p => s.fld (regDirStatus p) 1 1 = 1)

/-- IDENT (R344 step 1). -/
def State.ownIdent (s : State) : Ident :=
  { serial := s.reg regMshIoserial, mgrSel := s.fld regGlbIdent 4 4 = 1, stby := s.fld regGlbIdent 5 5 = 1,
    rev := BitVec.ofNat 4 (s.fld regGlbIdent 3 0),
    links := (s.trailOctets.filter (fun n => s.linkState n = linkUp || s.linkState n = linkIsolated)).map
      (fun n => (n, s.reg (regTrlNeighbour n), s.fld (regTrlStatus n) 7 6)),
    top := (s.reg regDmcTop).toNat, dens := s.trainedPorts.map (fun p => s.fld (regDirStatus p) 7 6),
    chanMode := BitVec.ofNat 2 s.ownChanMode, clause := s.clause,
    num := if s.joined then some (BitVec.ofNat 5 s.pkgNum) else none }

/-- A fenced die, channel, directory port or link (transition 9). -/
def State.holdsFenced (s : State) : Bool :=
  (upTo 12).any (fun d => (s.die d).fenced) || (upTo 16).any (fun n => s.fld (regDmcStatus n) 1 1 = 1)
    || (upTo 8).any (fun p => s.fld (regDirStatus p) 2 2 = 1) || s.trailOctets.any (fun n => s.linkState n = linkFenced)

/-- The run mode of a regime. -/
def runModeOf (regime : Nat) : Nat := if regime = 2 then modeRunS else modeRunI
/-- The image's regime (R347). -/
def State.regime (s : State) : Nat := s.fld (regHomStatus 0) 1 0

def State.setRegime (s : State) (v : Nat) : List Nat → State
  | [] => s
  | n :: l => (s.setFld (regHomStatus n) 1 0 v).setRegime v l

/-- The package directory breaks R299 for an image of two packages or more. -/
def badPopulation (i : Ident) : Bool := match i.dens with
  | [] => true
  | d :: l => l.any (· ≠ d)

/-! ## JOIN on a member (R341, R344, R345) -/

/-- The partition sizes an agent takes at JOIN: those of its register, or the reset values when they do not fit its pools or a field is
0 (R276, R277). -/
def State.takeCredit (s : State) (n : Nat) : State :=
  let w := s.reg (regHomCredit n)
  let f (i : Nat) : Nat := bits w (8 * i + 7) (8 * i)
  let bad := (upTo 4).any (fun i => decide (f i = 0)) || decide (384 < 12 * f 0 + 31 * f 1) || decide (128 < 12 * f 2 + 31 * f 3)
  let s := s.modHome n (fun h => { h with credit := if bad then regReset (regHomCredit n) else w })
  if bad then s.emit 12 n 0x0070 0 [(homeAgentId s.pkgNum n).toNat, bits w 31 0] else s

/-- Credit messages that grant the partitions of a home agent: to the package's dies and the other members, or at a re-JOIN to the
packages that are new (R241). -/
def State.grantCredits (s : State) (n : Nat) (re : Bool) (news : List Nat) : State :=
  let s := if re then s else s.takeCredit n
  let dies := (upTo 12).filter (fun d => !re && !(s.die d).fenced)
  let dsts := dies.map (fun d => (d, agentId s.pkgNum d n)) ++ news.map (fun p => (pkgKey p, homeAgentId p n))
  let one (pool : Nat) (x : Nat × BitVec 16) : Msg :=
    { type := .credit, hdr := { src := homeAgentId s.pkgNum n, dst := x.2, stamp := s.clause, cr := 0 },
      body := .words [BitVec.ofNat 64 pool, BitVec.ofNat 64 ((s.home n).partition pool x.1)] }
  { s with sent := s.sent ++ dsts.map (one 0) ++ dsts.map (one 1) }

def State.grantAll (s : State) (re : Bool) (news : List Nat) : List Nat → State
  | [] => s
  | n :: l => (s.grantCredits n re news).grantAll re news l

/-- Links to packages that are not members are isolated; the others are up, with their neighbour's number (R345, R356). -/
def State.setLinkMembers (s : State) (ms : List (Word × Nat)) : List Nat → State
  | [] => s
  | n :: l =>
    let s := match numOf ms (s.reg (regTrlNeighbour n)) with
      | some p =>
        let s := (s.setFld (regTrlStatus n) 20 16 p).modLink n (fun x => { x with isolated := false })
        if s.linkState n = linkIsolated then s.setLinkState n linkUp else s
      | none =>
        let s := s.modLink n (fun x => { x with isolated := true })
        if s.linkState n = linkUp then
          (s.setLinkState n linkIsolated).emit 12 (56 + n) 0x7007 0
            [n, bits (s.reg (regTrlNeighbour n)) 31 0, bits (s.reg (regTrlNeighbour n)) 63 32]
        else s
    s.setLinkMembers ms l

def State.writeRoutes (s : State) (rs : List Word) : List Nat → State
  | [] => s
  | d :: l => (s.setReg (regTrlRoute d) (rs.getD d 0)).writeRoutes rs l

/-- TRL.IMAGE of an ASSIGN (R357). -/
def imageWord (a : Assign) (joined : Bool) : Word :=
  let (sv, sb) : Nat × Nat := match a.standby with
    | some p => (1, p.toNat)
    | none => (0, 0)
  BitVec.ofNat 64 (a.num.toNat + b2n joined * 2 ^ 5 + a.manager.toNat * 2 ^ 8 + sb * 2 ^ 16 + sv * 2 ^ 22 + a.members.toNat * 2 ^ 32)

def halfmapOf (modes : List (Nat × Nat)) : Word := modes.foldl (fun w m => putBits w (2 * m.1 + 1) (2 * m.1) m.2) 0

/-- From ASSIGN on, the links of a package that takes part in a JOIN carry every message, also those that had been isolated; which of
them stay up the numbers of the members settle (R345, log entry 26). -/
def State.openLinks (s : State) : List Nat → State
  | [] => s
  | n :: l => (if s.linkState n = linkIsolated then (s.setLinkState n linkUp).modLink n (fun x => { x with isolated := false }) else s).openLinks l

/-- What ASSIGN gives a member: its number, the members, their channel modes and DRAM tops (R344 step 4, R372). -/
def State.takeAssign (s : State) (a : Assign) : State :=
  let s := s.openLinks s.trailOctets
  let s := s.setReg regTrlImage (imageWord a s.joined)
  let s := s.setReg regDmcHalfmap (halfmapOf a.modes)
  { s with tops := a.tops.filter (fun t => decide (t.1 ≠ a.num.toNat)), image := { s.image with assigned := some a } }

/-- Members of an ASSIGN but this package. -/
def memberList (m : BitVec 32) : List Nat := (upTo 32).filter (fun p => m.getLsbD p)

/-- The directory's port map as the image's size asks (R299, R303). -/
def State.joinDirectory (s : State) (a : Assign) (re : Bool) : State :=
  let n := (memberList a.members).length
  if !re then (if n ≤ 1 then s.setFld regDirLayout 7 0 0 else s)
  else if n ≤ 1 ∧ s.fld regDirLayout 7 0 = 0 then s
  else s.autoReshape 2

/-- Steps 7 and 8 of R344 on one member: routes, image, regime, credits, directory; then the run mode, or DEGRADED when it holds a
fenced resource. -/
def State.enterImage (s : State) (rs : List Word) : State :=
  match s.image.assigned with
  | none => s
  | some a =>
    let re := s.joined
    let same := decide (s.fld regTrlImage 63 32 = a.members.toNat)
    let had := s.otherMembers
    let s := (s.writeRoutes rs (upTo 32)).setReg regTrlImage (imageWord a true)
    let s := if s.fld regGlbBoot 4 4 = 1 then s.setFld regRlmPotbase 51 47 a.num.toNat else s
    let s := s.setRegime a.regime (upTo 16)
    let s := if re && same then s else s.joinDirectory a re
    let s := s.grantAll re (if re then s.otherMembers.filter (fun p => !had.contains p) else s.otherMembers) (upTo 16)
    let s := { s with image := { s.image with assigned := none, cutAt := none, releaseAt := none, cutReported := false,
                                              quiesce := none } }
    let s := s.setFld regGlbMode 7 4 (runModeOf a.regime)
    let s := (if re then s else s.setFld regTrlHeartbeat 31 0 0)
    (if s.holdsFenced then s.enterMode modeDegraded 9 else s.enterMode (runModeOf a.regime) 8).setFld regGlbMode 12 12 0

/-- A package that is refused or left out returns to SEALED (transition 10), and its links to members are isolated (R345). -/
def State.leaveJoin (s : State) (ms : List (Word × Nat)) : State :=
  if s.mode = modeJoin then
    let s := if s.joined then s else ((s.setReg regTrlImage 0).setFld regRlmPotbase 51 47 0).setFld regGlbMode 7 4 0
    let s := { s with image := { s.image with assigned := none, align := none } }
    let s := s.enterMode modeSealed 10
    if ms = [] then s
    else
      let toMembers := s.upOctets.filter (fun n => (numOf ms (s.reg (regTrlNeighbour n))).isSome)
      s.setLinkMembers [] toMembers
  else s

/-- R343, R344 step 1: a package in SEALED joins, and every package answers with its identity. -/
def execDiscover (manager : Word) (s : State) : Host.Outcome State Fault Refusal :=
  let s := match s.sent.find? (fun m => decide (m.type = .discover)) with
    | some m => s.delivered m
    | none => s
  if manager = s.reg regMshIoserial then .next s
  else if s.mode = modeSealed ∨ s.mode = modeJoin ∨ (s.joined ∧ s.sourcesHeld) then
    let s := if s.mode = modeSealed then s.enterMode modeJoin 7
      else if s.joined ∧ s.sourcesHeld then ((s.enterMode modeJoin 13).setFld regGlbMode 12 12 0).setFld regGlbMode 7 4 modeJoin else s
    .next (s.floodMgmt .ident (.ident s.ownIdent))
  else .next s

/-- R344 step 4: a member receives its number; a package that the ASSIGN leaves out returns to SEALED (log entry 26). -/
def execAssign (a : Assign) (s : State) : Host.Outcome State Fault Refusal :=
  let s := match s.sent.find? (fun m => decide (m.body = .assign a)) with
    | some m => s.delivered m
    | none => s
  if a.serial ≠ s.reg regMshIoserial ∨ s.mode ≠ modeJoin then .next s
  else if a.members = 0 then .next (s.leaveJoin (a.without.map (fun w => (w, 0))))
  else .next (s.takeAssign a)

/-! ## JOIN on the manager (R343 to R346, R570) -/

def State.setJoin (s : State) (j : Option JoinJob) : State := { s with image := { s.image with join := j } }

/-- Each package of a list is told that it is left out, and of which members (log entry 26). -/
def State.tellLeftOut (s : State) (ms : List Word) : List Word → State
  | [] => s
  | w :: l => (s.floodMgmt .assign (.assign { serial := w, num := 0, members := 0, manager := 0, without := ms })).tellLeftOut ms l

def State.leftOut (s : State) (reason : Nat) : List Ident → State
  | [] => s
  | i :: l => ((s.emit 12 82 0x0092 0 [bits i.serial 31 0, bits i.serial 63 32, reason]).leftOut reason l)

/-- The lowest numbers not in use, for serials in ascending order (R344 step 4). -/
def giveNumbers (used : List Nat) : List Word → List (Word × Nat)
  | [] => []
  | w :: l =>
    let n := ((upTo 32).find? (fun k => !used.contains k)).getD 0
    (w, n) :: giveNumbers (n :: used) l

/-- A list of words in ascending order. -/
def insertWord (w : Word) : List Word → List Word
  | [] => [w]
  | x :: l => if w.toNat ≤ x.toNat then w :: x :: l else x :: insertWord w l
def sortWords (l : List Word) : List Word := l.foldr insertWord []

/-- Numbers of the packages of the image, or the refusal of the table (R344 step 4). -/
def numberAll (table : List (Word × Nat)) (own : Word) (ids : List Ident) : Option (List (Word × Nat)) :=
  let serials := ids.map (·.serial)
  let named := table.filter (fun t => serials.contains t.1)
  let nums := table.map (·.2)
  let ownNum := match numOf table own with
    | some n => n
    | none => 0
  let dup := decide ((nums.eraseDups).length ≠ nums.length) || nums.any (fun n => decide (n ≥ 32))
  let clash := table.any (fun t => decide (t.1 ≠ own) && decide (t.2 = ownNum))
  if dup || clash then none
  else
    let fixed := (own, ownNum) :: named.filter (fun t => decide (t.1 ≠ own))
    let rest := sortWords (serials.filter (fun w => (numOf fixed w).isNone))
    some (fixed ++ giveNumbers (fixed.map (·.2)) rest)

/-- Present members keep their numbers; the others get the lowest free ones (R570). -/
def numberMore (ids : List Ident) : List (Word × Nat) :=
  let fixed := ids.filterMap (fun i => i.num.map (fun n => (i.serial, n.toNat)))
  let rest := sortWords ((ids.filter (fun i => decide (i.num = none))).map (·.serial))
  fixed ++ giveNumbers (fixed.map (·.2)) rest

/-- Identities of the manager and of the packages it reaches through admitted ones. -/
def reachable (ids : List Ident) (own : Word) : List Ident :=
  let ix := ids.zip (upTo ids.length)
  let ms := ix.map (fun x => (x.1.serial, x.2))
  let start := (numOf ms own).getD 0
  let seen := reachIn (upEdges (edges ids ms [])) [start] 32
  (ix.filter (fun x => seen.contains x.2)).map (·.1)

/-- ASSIGN for each member but the manager (R344 step 4). -/
def State.sendAssigns (s : State) (mk : Word → Nat → Assign) : List (Word × Nat) → State
  | [] => s
  | m :: l =>
    let s := if m.1 = s.reg regMshIoserial then s else s.floodMgmt .assign (.assign (mk m.1 m.2))
    s.sendAssigns mk l

/-- EPOCH to each of a list of members (R33 step 2). -/
def State.sendEpochs (s : State) (v : Word) : List Nat → State
  | [] => s
  | p :: l => (s.sendCtl .epoch p (.value v)).sendEpochs v l

/-- The links between the members of a JOIN. -/
def State.joinEdges (s : State) (ms : List (Word × Nat)) : List Edge := upEdges (edges s.image.idents ms s.image.lostLinks)

/-- ROUTE_WRITE to each of a list of members (R344 step 7). -/
def State.sendRoutes (s : State) (es : List Edge) (members : List Nat) : List Nat → State
  | [] => s
  | p :: l => (s.sendCtl .routeWrite p (.words (s.image.gen.zeroExtend 64 :: routeTable es members p))).sendRoutes es members l

/-- The manager mirrors an owner key slot to the standby (R352). -/
def State.mirrorSlots (s : State) (p : Nat) : List Nat → State
  | [] => s
  | k :: l =>
    let s : State := { s with epf := { s.epf with mirrorSent := s.epf.mirrorSent + 1 } }
    (s.sendCtl .mirror p (.mirror { slot := Fin.ofNat 8 k, active := s.fld (regTktSlot0 k) 0 0 = 1, key := Tbl.get 0 s.ownerKeys k,
                                    last := s.reg (regTktSlot1 k) })).mirrorSlots p l

/-- Steps 7 and 8 of R344 on the manager. -/
def State.finishJoin (s : State) (j : JoinJob) : State :=
  let nums := j.members.map (·.2)
  let es := s.joinEdges j.members
  let numbered := s.image.idents.map (fun (i : Ident) => { i with num := (numOf j.members i.serial).map (BitVec.ofNat 5) })
  let s := { s with image := { s.image with gen := s.image.gen + 1, join := none, idents := numbered } }
  let s := s.sendRoutes es nums (nums.filter (· ≠ s.pkgNum))
  let sb := match s.image.assigned with
    | some a => a.standby
    | none => none
  let s := match sb with
    | some p => s.mirrorSlots p.toNat (upTo 8)
    | none => s
  let s := s.setLinkMembers j.members s.trailOctets
  let s := s.enterImage (routeTable es nums s.pkgNum)
  if j.refused then s.complete j.cmd stState 0 0
  else (s.emit 12 82 0x0090 0 [s.fld regTrlImage 63 32, s.pkgNum, j.regime]).ok j.cmd

/-- The members of the image take the place they had: a refused re-JOIN ends with the members unchanged (R570). -/
def State.keepMembers (s : State) (j : JoinJob) : State :=
  let ids := s.image.idents.filter (fun i => i.num.isSome)
  let ms := ids.filterMap (fun i => i.num.map (fun n => (i.serial, n.toNat)))
  let tbl (f : Ident → Nat) : List (Nat × Nat) := ids.filterMap (fun i => i.num.map (fun n => (n.toNat, f i)))
  let w := s.reg regTrlImage
  let mk (x : Word) (n : Nat) : Assign :=
    { serial := x, num := BitVec.ofNat 5 n, members := BitVec.ofNat 32 (bits w 63 32), manager := BitVec.ofNat 5 s.pkgNum,
      standby := if bit w 22 then some (BitVec.ofNat 5 (bits w 20 16)) else none, regime := s.regime,
      modes := tbl (fun i => i.chanMode.toNat), tops := tbl (·.top) }
  let s := (s.takeAssign (mk (s.reg regMshIoserial) s.pkgNum)).sendAssigns mk ms
  s.finishJoin { j with refused := true, members := ms }

/-- JOIN is refused: code 0091h; every package stays in SEALED, and a re-JOIN ends with the members unchanged (R344, R570, log
entry 34). -/
def State.joinRefused (s : State) (j : JoinJob) (reason left : Nat) : State :=
  let s := (s.emit 12 82 0x0091 0 [reason, left]).setJoin none
  let news := s.image.idents.filter (fun i => decide (i.serial ≠ s.reg regMshIoserial) && decide (i.num = none))
  let s := s.tellLeftOut [] (news.map (·.serial))
  if j.re then s.keepMembers j else (s.leaveJoin []).complete j.cmd stState 0 0

/-- Rounds up to a multiple of 2^20. -/
def roundEpoch (n : Nat) : Nat := (n + 2 ^ 20 - 1) / 2 ^ 20 * 2 ^ 20

/-- R344 steps 4 to 6 for an admitted set of packages: numbers, ASSIGN, topology, the JOIN epoch. -/
def State.formImage (s : State) (j : JoinJob) (ids : List Ident) (standby : Option Word) : State :=
  let own := s.reg regMshIoserial
  match (if j.re then some (numberMore ids) else numberAll j.table own ids) with
  | none => s.joinRefused j 3 ids.length
  | some ms =>
    let nums := ms.map (·.2)
    -- a present member of mixed densities has no usable directory either (log entry 94)
    let bare := ids.any (fun i => i.num.isSome && badPopulation i)
    if topologyFault (s.joinEdges ms) nums ≠ 0 then s.joinRefused j 4 ids.length
    else if j.re ∧ nums.length ≥ 2 ∧ bare then s.joinRefused j 5 ids.length
    else
      let mask := nums.foldl (fun (m : BitVec 32) n => m ||| BitVec.ofNat 32 (2 ^ n)) 0
      let tbl (f : Ident → Nat) : List (Nat × Nat) := ms.filterMap (fun m => (ids.find? (fun i => decide (i.serial = m.1))).map (fun i => (m.2, f i)))
      let mgr := (numOf ms own).getD 0
      let mk (w : Word) (n : Nat) : Assign :=
        { serial := w, num := BitVec.ofNat 5 n, members := mask, manager := BitVec.ofNat 5 mgr,
          standby := (standby.bind (numOf ms)).map (BitVec.ofNat 5), regime := j.regime,
          modes := tbl (fun i => i.chanMode.toNat), tops := tbl (·.top) }
      let s := (s.takeAssign (mk own mgr)).sendAssigns mk ms
      let news := ms.filter (fun m => decide (m.1 ≠ own) && ids.any (fun i => decide (i.serial = m.1) && (!j.re || decide (i.num = none))))
      let s := if j.re then s
        else
          let e := roundEpoch ((ids.foldl (fun n i => if n < i.clause.toNat then i.clause.toNat else n) s.clause.toNat) + 2 ^ 20)
          let s := { s with clause := BitVec.ofNat 64 e }
          let s := s.setFld regClkStatus 3 1 7
          s.emit 12 87 0x00C1 0 [e % 2 ^ 32, e / 2 ^ 32]
      let j := { j with step := 6, members := ms, epoch := s.clause, waiting := news.map (·.2) }
      if news = [] then s.finishJoin j
      else (s.setJoin (some j)).sendEpochs s.clause (news.map (·.2))

/-- R344 steps 2 to 6, once discovery has ended. -/
def execDiscoveryEnd (s : State) : Host.Outcome State Fault Refusal :=
  match s.image.join with
  | none => .next s
  | some j =>
    if j.step ≠ 1 ∨ s.clause.toNat < s.image.lastIdent.toNat + 250000 then .next s
    else
      let own := s.reg regMshIoserial
      let ids := s.image.idents
      let others := ids.filter (fun i => decide (i.serial ≠ own))
      let stby := ids.filter (fun i => i.stby && !i.mgrSel)
      if others.any (·.mgrSel) then .next (s.joinRefused j 1 ids.length)
      else
        let s := if stby.length > 1 then s.emit 12 82 0x0096 0 [stby.length] else s
        let standby := match stby with
          | [i] => some i.serial
          | _ => none
        let self := ids.filter (fun i => decide (i.serial = own))
        let badRev := others.filter (fun i => decide (i.rev.toNat ≠ s.fld regGlbIdent 3 0))
        let good := others.filter (fun i => decide (i.rev.toNat = s.fld regGlbIdent 3 0))
        let ownBad := self.any badPopulation
        let isBad (i : Ident) : Bool := !(j.re && i.num.isSome) && (ownBad && !j.re || badPopulation i)
        let admitted := self ++ good.filter (fun i => !isBad i)
        let reach := reachable admitted own
        let lost := admitted.filter (fun i => !reach.contains i)
        let s := ((s.leftOut 1 badRev).leftOut 2 (good.filter isBad)).leftOut 3 lost
        let s := s.tellLeftOut (reach.map (·.serial)) ((badRev ++ good.filter isBad ++ lost).map (·.serial))
        if reach.length < j.minPkg then .next (s.joinRefused j 2 reach.length)
        else .next (s.formImage j reach standby)

/-- R344 step 1: an identity reaches the manager. -/
def execIdent (i : Ident) (s : State) : Host.Outcome State Fault Refusal :=
  let s := match s.sent.find? (fun m => decide (m.body = .ident i)) with
    | some m => s.delivered m
    | none => s
  match s.image.join with
  | none => .next s
  | some j =>
    if j.step ≠ 1 then .next s
    else if s.image.idents.any (fun x => decide (x.serial = i.serial)) then .next s
    else .next { s with image := { s.image with idents := s.image.idents ++ [i], lastIdent := s.clause } }

/-- A worker has reported its alignment (R33 step 5, R344 step 6); one that cannot align is left out, and steps 3 and 5 are checked
again without it. -/
def State.joinAligned (s : State) (j : JoinJob) (p : Nat) (ok : Bool) : State :=
  if ok then
    let j : JoinJob := { j with waiting := j.waiting.filter (· ≠ p) }
    if j.waiting = [] then s.finishJoin j else s.setJoin (some j)
  else
    let rest := j.members.filter (fun m => decide (m.2 ≠ p))
    let near := reachIn (s.joinEdges rest) [s.pkgNum] 32
    let ms := rest.filter (fun m => near.contains m.2)
    let idOf (out : List (Word × Nat)) : List Ident := s.image.idents.filter (fun i => out.any (fun m => decide (m.1 = i.serial)))
    let out := j.members.filter (fun m => decide (m.2 = p))
    let far := rest.filter (fun m => !near.contains m.2)
    let s := (s.leftOut 4 (idOf out)).leftOut 3 (idOf far)
    let s := s.tellLeftOut (ms.map (·.1)) ((out ++ far).map (·.1))
    let fault := topologyFault (s.joinEdges ms) (ms.map (·.2))
    if ms.length < j.minPkg then s.joinRefused { j with members := ms } 2 ms.length
    else if fault ≠ 0 then s.joinRefused { j with members := ms } 4 ms.length
    else
      let s := match s.image.assigned with
        | some a => s.takeAssign { a with members := ms.foldl (fun (m : BitVec 32) (x : Word × Nat) => m ||| BitVec.ofNat 32 (2 ^ x.2)) 0,
                                          standby := a.standby.filter (fun b => ms.any (fun x => decide (x.2 = b.toNat))) }
        | none => s
      let mk (w : Word) (n : Nat) : Assign := match s.image.assigned with
        | some a => { a with serial := w, num := BitVec.ofNat 5 n }
        | none => { serial := w, num := BitVec.ofNat 5 n, members := 0, manager := 0 }
      let s := s.sendAssigns mk ms
      let j : JoinJob := { j with members := ms, waiting := j.waiting.filter (fun q => ms.any (fun m => decide (m.2 = q))) }
      if j.waiting = [] then s.finishJoin j else s.setJoin (some j)

/-- JOIN and re-JOIN begin (R343, R570): the manager enters JOIN and floods DISCOVER. During a re-JOIN GLB.MODE.IMAGE reads 5h: R16
makes it follow the manager's mode, although the sources stay held (DESIGN CHOICE, log entry 79). -/
def State.beginJoin (s : State) (c : Command) (regime minPkg : Nat) (table : List (Word × Nat)) (re : Bool) : State :=
  let (s, c) := s.startLong c
  let s := if re then ((s.enterMode modeJoin 13).setFld regGlbMode 12 12 0).setFld regGlbMode 7 4 modeJoin else s.enterMode modeJoin 7
  let s := { s with image := { s.image with idents := [s.ownIdent], lastIdent := s.clause,
                                            join := some { cmd := c, regime := regime, minPkg := minPkg, table := table, re := re } } }
  s.floodMgmt .discover (.value (s.reg regMshIoserial))

/-- The pairs of serial and number in a JOIN extension, 16 bytes each. -/
def joinTable (ext : List (BitVec 8)) : Nat → List (Word × Nat)
  | 0 => []
  | k + 1 =>
    if ext = [] then []
    else
      let v (l : List (BitVec 8)) : Nat := l.foldr (fun b n => b.toNat + 256 * n) 0
      (BitVec.ofNat 64 (v (ext.take 8)), v ((ext.drop 8).take 8)) :: joinTable (ext.drop 16) k

/-! ## Route change (R341, R342) -/

/-- ROUTE_WRITE: at JOIN the member takes part from then on, otherwise it stores the tables (R341 step 2, R344 step 7). -/
def execRouteWrite (gen : BitVec 16) (routes : List Word) (s : State) : Host.Outcome State Fault Refusal :=
  let s := match s.sent.find? (fun m => decide (m.type = .routeWrite)) with
    | some m => s.delivered m
    | none => s
  if s.mode = modeJoin ∧ s.image.assigned.isSome then
    let ms := match s.image.assigned with
      | some a => a.members
      | none => 0
    let s := s.enterImage routes
    let direct := s.trailOctets.filter (fun n => s.linkState n = linkUp || s.linkState n = linkIsolated)
    let nb (n : Nat) : Option Nat := (memberList ms).find? (fun d => decide (bits (routes.getD d 0) 13 12 = 1) && bit (routes.getD d 0) n)
    let known := direct.filterMap (fun n => (nb n).map (fun d => (s.reg (regTrlNeighbour n), d)))
    .next (s.setLinkMembers known direct)
  else .next { s with image := { s.image with newRoutes := routes, gen := gen } }

/-- R341 step 3. -/
def execRouteHold (s : State) : Host.Outcome State Fault Refusal :=
  let s := s.takeMgmt .routeHold s.managerNum
  .next { s with image := { s.image with held := true, holdDone := false } }

/-- Every link the member owns has no unacknowledged flit and no message queued, other than stranded ones (R341 step 4). -/
def State.linksEmpty (s : State) : Bool :=
  s.trailOctets.all (fun n => decide (s.linkState n = linkFenced) ||
    ((s.link n).replay.isEmpty && (s.link n).queue.isEmpty && decide ((s.link n).txRest = 0)))

/-- The stranded messages of the fenced links go by the new tables, in order, with those queued there since (R341 step 5). -/
def State.sendStranded (s : State) : List Nat → State
  | [] => s
  | n :: l =>
    let x := s.link n
    let late := decide (s.linkState n = linkFenced)
    let ks := x.stranded ++ (if late then x.queue else [])
    let s := s.setLink n { x with stranded := [], queue := if late then [] else x.queue }
    (ks.foldl State.route s).sendStranded l

/-- R341 steps 5 and 6 on a member. -/
def State.switchRoutes (s : State) : State :=
  let s := if s.image.newRoutes = [] then s else s.writeRoutes s.image.newRoutes (upTo 32)
  let s := { s with image := { s.image with newRoutes := [], held := false, holdDone := false } }
  s.sendStranded s.trailOctets

/-- R341 step 5. -/
def execRouteSwitch (s : State) : Host.Outcome State Fault Refusal := .next ((s.takeMgmt .routeSwitch s.managerNum).switchRoutes)

/-- A member without unacknowledged flits or queued messages tells the manager once (R341 step 4). -/
def State.holdTick (s : State) : State :=
  if s.image.held ∧ !s.image.holdDone ∧ s.linksEmpty then
    ({ s with image := { s.image with holdDone := true } }).sendMgmt .holdDone s.managerNum .none
  else s

/-- Members' numbers, with serials, as the identities know them. -/
def State.imageMembers (s : State) : List (Word × Nat) :=
  s.image.idents.filterMap (fun i => i.num.map (fun n => (i.serial, n.toNat)))

/-- The manager computes new routes after a link is fenced (R341 step 2): a HALT-class error when a member is out of reach or the
diameter exceeds three. -/
def State.changeRoutes (s : State) (p octet : Nat) : State :=
  let ms := s.imageMembers.filter (fun m => s.isMember m.2)
  let nums := ms.map (·.2)
  let es := s.joinEdges ms
  let fault := topologyFault es nums
  if fault ≠ 0 then
    let far := nums.filter (fun q => !(reachIn es [s.pkgNum] 32).contains q)
    s.haltError 12 82 0x7006 [fault, far.foldl (fun m q => m ||| 2 ^ q) 0]
  else
    let s := { s with image := { s.image with gen := s.image.gen + 1, newRoutes := routeTable es nums s.pkgNum, held := true,
                                              holdDone := false,
                                              change := some { pkg := p, octet := octet, started := s.clause, waiting := nums } } }
    let others := nums.filter (· ≠ s.pkgNum)
    (s.sendRoutes es nums others).sendAll .routeHold .none others

/-- R341 steps 4 to 6 on the manager. -/
def execHoldDone (src : Pkg) (s : State) : Host.Outcome State Fault Refusal :=
  let s := s.takeMgmt .holdDone src.toNat
  match s.image.change with
  | none => .next s
  | some c =>
    let w := c.waiting.filter (· ≠ src.toNat)
    if w ≠ [] then .next { s with image := { s.image with change := some { c with waiting := w } } }
    else
      let s := { s with image := { s.image with change := none } }
      let s := (s.sendAll .routeSwitch .none s.otherMembers).switchRoutes
      .next (s.emit 12 82 0x0095 0 [c.pkg, c.octet, s.clause.toNat - c.started.toNat])

/-- R342. -/
def execRouteChangeTimeout (s : State) : Host.Outcome State Fault Refusal :=
  match s.image.change with
  | some c =>
    if c.started.toNat + 500000 ≤ s.clause.toNat then
      .next (s.haltError 12 82 0x7006 [3, c.waiting.foldl (fun m q => m ||| 2 ^ q) 0])
    else .next s
  | none => .next s

/-- A member reports a fenced link or a lost far end (R341 step 1, R689). -/
def State.linkReport (s : State) (p octet : Nat) (fenced : Bool) : State :=
  if fenced ∧ s.isManager then
    ({ s with image := { s.image with lostLinks := s.image.lostLinks ++ [(p, octet)] } }).changeRoutes p octet
  else s

end Sys2Proof.Machine
end

