-- ==== Sys2Proof/Machine/Startup.lean ====
section
/-! DEFINITION. Start-up, reset and power (15_startup_modes.md R557 to R563, R572, R573, R577, R579; 21_electrical_package.md R677 to
R684; 08_global_directory.md R299; 09_trail_fabric.md R315 to R317; 10_dram_subsystem.md R360 to R370, R386; 12_realms_isolation.md R452,
R463; 14_die_bridges_mesh.md R532 to R541). -/
namespace Sys2Proof.Machine
open Sys2Proof

/-! ## What a loss of power or a reset leaves (R559 transitions 2 to 4, 17 and 19; R576) -/

/-- The registers of the TLG window, which a reset with PWR_GOOD high keeps (R623, R640). -/
def tlgRegs (t : Tbl Word) : Tbl Word := t.filter (fun p => decide (0x200000 ≤ p.1 ∧ p.1 < 0x300000))

/-- The clause with which an event is resolved: its stamp, or a later one when it came late. -/
def Event.clause (e : Event) : Word := match e.due with
  | some c => c
  | none => e.stamp

/-- The records of an event enter the queue with their clause (R31, R626). -/
def State.enqueueAll (s : State) (e : Event) : List Rec → State
  | [] => s
  | r :: l => (s.enqueueRec { proc := e.clause, rank := e.rank, r := r }).enqueueAll e l

/-- Records that wait for the resolution of their clause enter the queue before a reset that keeps the trip log. -/
def State.flushEvents (s : State) : List Event → State
  | [] => s
  | e :: l => (s.enqueueAll e e.recs).flushEvents l

/-- Requests, caches and registers are discarded. What stays: the board's signals, the fuses, the boot flash, the commands that wait,
the clause count, DIMMs in self-refresh, and, while PWR_GOOD stays high, the trip log. -/
def State.wiped (s : State) (keepLog : Bool) : State :=
  { pending := s.pending, clause := s.clause, phase := s.phase, vaux := s.vaux, pwrGood := s.pwrGood, resetN := s.resetN,
    mgrStrap := s.mgrStrap, stbyStrap := s.stbyStrap, fuses := s.fuses, dieFuses := s.dieFuses, flash := s.flash,
    selfRefresh := s.selfRefresh, freeCount := s.freeCount, keyCount := s.keyCount,
    log := if keepLog then s.log else {}, regs := if keepLog then tlgRegs s.regs else [] }

/-- GLB.MODE of a package that leaves `old` for `new` by a transition. -/
def modeWord (old new trans : Nat) : Word := BitVec.ofNat 64 (new + old * 2 ^ 8 + trans * 2 ^ 16)

/-- Enters OFF, STANDBY or SENSE from a mode whose state is discarded. While PWR_GOOD is low the trip log takes no record: it holds
nothing between the fall and the rise, so that no stamp in it lies above a later one (R21). -/
def State.restart (s : State) (new trans : Nat) (keepLog : Bool) : State :=
  let w := modeWord s.mode new trans
  let old := s.mode
  let s := if keepLog then s.flushEvents s.events else s
  let s := ((s.wiped keepLog).setReg regGlbMode w).setReg regGlbModetime s.clause
  if s.pwrGood then s.emit 12 81 0x0000 0 [old, new, trans] else s

/-- SENSE entry (R560 step 2): the straps are latched, MGR_SEL before STBY_MGR; the fused values show. -/
def State.senseEntry (s : State) (trans : Nat) (keepLog : Bool) : State :=
  let therm := s.thermtripN && decide (trans = 19)
  let s := s.restart modeSense trans keepLog
  let s := { s with selfRefresh := [], thermtripN := therm }
  let s := (s.setFld regGlbIdent 4 4 (b2n s.mgrStrap)).setFld regGlbIdent 5 5 (b2n (s.stbyStrap && !s.mgrStrap))
  let s := (s.setFld regGlbBoot 23 16 s.fuses.svnMin).setFld regGlbBoot 10 5 s.fuses.svnLeft
  s.setReg regMshIoserial s.fuses.ioSerial

/-- Transition 3, or 17 at the end of a drain. -/
def State.toStandby (s : State) (trans : Nat) (keepLog : Bool) : State := s.restart modeStandby trans keepLog

/-- R559 transitions 1 and 4, R677. -/
def execVauxRise (mgr stby : Bool) (s : State) : Host.Outcome State Fault Refusal :=
  let s : State := { s with vaux := true, mgrStrap := mgr, stbyStrap := stby }
  .next (if s.mode ≠ modeOff then s
    else
      let s := s.restart modeStandby 1 false
      if s.pwrGood && s.resetN then s.senseEntry 4 true else s)

/-- R559 transition 2: all state is lost. -/
def execVauxLoss (s : State) : Host.Outcome State Fault Refusal :=
  let w := modeWord s.mode modeOff 2
  let s : State := { (s.wiped false) with vaux := false, clause := 0, phase := 0, selfRefresh := [] }
  .next (s.setReg regGlbMode w)

/-- R559 transition 3: PWR_GOOD falls, and the trip log is lost (R576, R679). -/
def execPwrGoodFall (s : State) : Host.Outcome State Fault Refusal :=
  let s : State := { s with pwrGood := false }
  .next (if modeSense ≤ s.mode then s.toStandby 3 false
    else { (s.wiped false) with regs := [(regGlbMode, s.reg regGlbMode), (regGlbModetime, s.reg regGlbModetime)] })

/-- R559 transition 3: RESET_N is asserted while PWR_GOOD is high. -/
def execResetNAssert (s : State) : Host.Outcome State Fault Refusal :=
  let s : State := { s with resetN := false }
  .next (if s.pwrGood ∧ modeSense ≤ s.mode then s.toStandby 3 true else s)

/-- R559 transition 4, R21: PWR_GOOD rises with RESET_N high; the next lock starts the counter at 0. In STANDBY, WAKE_N is asserted
(R514). -/
def execPwrGoodRise (mgr stby : Bool) (s : State) : Host.Outcome State Fault Refusal :=
  .next (if s.pwrGood then s
    else
      let s : State := { s with pwrGood := true, mgrStrap := mgr, stbyStrap := stby, clause := 0, phase := 0 }
      if s.mode = modeStandby then
        (if s.resetN then s.senseEntry 4 true else s).modEpf (fun e => { e with wakeN := true })
      else s)

/-- R559 transition 4: RESET_N rises with PWR_GOOD high. -/
def execResetNRise (mgr stby : Bool) (s : State) : Host.Outcome State Fault Refusal :=
  .next (if s.resetN then s
    else
      let s : State := { s with resetN := true, mgrStrap := mgr, stbyStrap := stby }
      if s.pwrGood ∧ s.mode = modeStandby then s.senseEntry 4 true else s)

/-- Transition 19: the RESET command (R576). -/
def State.packageReset (s : State) : State := if modeSense ≤ s.mode then s.senseEntry 19 true else s

/-! ## Firmware (R561, R562) -/

/-- What a check of a signed image gives: VERSION and SVN, or the cause that invalidates it. -/
def fwCheck (key : Nat × Nat) (floor : Nat) (l : List Byte) : Nat ⊕ (Nat × Nat) :=
  let fld (o n : Nat) : Nat := leNat ((l.drop o).take n)
  let len := fld 4 4
  let svn := fld 0xc 1
  if fld 0 4 ≠ 0x4c4b4657 ∨ 24 * 2 ^ 20 - 160 < len ∨ l.length < 160 + len then .inl 1
  else
    let sig := (l.drop (0x40 + len)).take 96
    if !ecdsaOk key (l.take (0x40 + len)) (beNat (sig.take 48)) (beNat (sig.drop 48)) then .inl 2
    else if svn < floor then .inl 3 else .inr (fld 8 4, svn)

def State.slotCheck (s : State) (slot : Nat) : Nat ⊕ (Nat × Nat) :=
  match (if slot = 0 then s.flash.slotA else s.flash.slotB) with
  | none => .inl 4
  | some l => fwCheck s.fuses.fwKey s.fuses.svnMin l

/-- The record of an invalid slot. -/
def State.slotInvalid (s : State) (slot : Nat) : State := match s.slotCheck slot with
  | .inl k => s.emit 12 81 0x0004 0 [slot, k]
  | .inr _ => s

/-- The slot that runs: the valid one, of two the one with the higher VERSION, or slot A (R561). -/
def State.bootSlot (s : State) : Option (Nat × Nat × Nat) :=
  match s.slotCheck 0, s.slotCheck 1 with
  | .inr a, .inr b => if a.1 < b.1 then some (1, b) else some (0, a)
  | .inr a, .inl _ => some (0, a)
  | .inl _, .inr b => some (1, b)
  | .inl _, .inl _ => none

/-! ## The board record (R563) -/

/-- The cause for which a board record is not used: 1 MAGIC, 2 CRC; none when it checks. -/
def recordFault (l : List Byte) : Option Nat :=
  if leNat (l.take 4) ≠ 0x4b4c4342 then some 1
  else if l.length < 0x1000 ∨ leNat ((l.drop 0xffc).take 4) ≠ (crc32c 0 (l.take 0xffc)).toNat then some 2 else none

def State.loadRoles (s : State) (l : List Byte) : List Nat → State
  | [] => s
  | n :: t => ((s.setFld (regOctCfg n) 2 0 (leNat ((l.drop (8 + n)).take 1))).setFld (regBrgCfg n) 1 0 (leNat ((l.drop (0x14 + n)).take 1))).loadRoles l t

/-- The mask registers in the order of the record: CHANHASH0 to 3, BANKHASH0 to 5. -/
def channelMaskReg (i : Nat) : Nat := regDmcChanhash0 + 8 * i

def State.loadMasks (s : State) (l : List Byte) : List Nat → State
  | [] => s
  | i :: t => (s.setFld (channelMaskReg i) 51 0 (leNat ((l.drop (0x28 + 8 * i)).take 8))).loadMasks l t

def State.loadBoard (s : State) : State :=
  let l := s.flash.board
  match recordFault l with
  | some k => s.emit 12 81 0x0006 0 [k]
  | none =>
    let fld (o n : Nat) : Nat := leNat ((l.drop o).take n)
    let s := (s.loadRoles l (upTo 12)).setFld regDmcCfg 7 0 (fld 0x20 1)
    let s := if (fld 0x21 1).testBit 0 then s.loadMasks l (upTo 10) else s
    { (s.setFld regGlbBoot 2 2 1) with subsystem := fld 0x24 2 * 65536 + fld 0x22 2 }

/-! ## The key record (R501) -/

def State.loadSlots (s : State) : List (Nat × BitVec 256 × Word) → State
  | [] => s
  | (k, key, last) :: t =>
    let s := (s.setFld (regTktSlot0 k) 0 0 1).setReg (regTktSlot1 k) last
    ({ s with ownerKeys := Tbl.set s.ownerKeys k key }).loadSlots t

/-- R560 step 6. -/
def State.loadKeys (s : State) : State :=
  if s.fld regGlbIdent 5 4 = 0 then s
  else match s.flash.keys0, s.flash.keys1 with
    | some l, _ => s.loadSlots l
    | none, some l => s.loadSlots l
    | none, none => s.emit 12 81 0x000B 0 []

/-! ## The dies (R537 to R541) -/

def State.dieFuse (s : State) (d : Nat) : DieFuses := Tbl.get { position := BitVec.ofNat 4 d } s.dieFuses d

/-- Set bits of an enabled-core map. -/
def coreCount (m : BitVec 20) : Nat := ((upTo 20).filter (fun i => m.getLsbD i)).length

/-- BRG[n].IDENT of a die (R554). -/
def DieFuses.word (f : DieFuses) : Word :=
  if f.answers then
    BitVec.ofNat 64 (f.position.toNat + f.rev.toNat * 2 ^ 4 + f.feature.toNat * 2 ^ 8 + f.cores.toNat * 2 ^ 12 + b2n f.agree * 2 ^ 32)
  else 0

/-- The first check of R539 that fails, as its reason; 0 when the die passes. -/
def State.dieCheck (s : State) (d : Nat) : Nat :=
  let f := s.dieFuse d
  if !f.answers then 1 else if !f.agree then 2 else if f.position.toNat ≠ d then 3
  else if f.rev.toNat < s.fld regMshIoident 11 8 then 4
  else if s.fld regMshIoident 7 4 + 1 < f.feature.toNat then 5
  else if coreCount f.cores ≠ 18 then 6 else 0

/-- A die is fenced (R541). -/
def State.fenceDie (s : State) (d reason : Nat) : State :=
  let s := (s.modDie d (fun x => { x with fenced := true })).setFld (regBrgStatus d) 15 12 reason
  let s := (s.setFld (regBrgStatus d) 1 1 1).setFld regMshDiemap (12 + d) (12 + d) 1
  s.emit 12 (68 + d) 0x8001 0 [d, reason, bits (s.reg (regBrgIdent d)) 31 0]

/-- R539: each die is read and checked, in order. -/
def State.checkDies (s : State) : List Nat → State
  | [] => s
  | d :: l =>
    let f := s.dieFuse d
    let s := (s.setReg (regBrgIdent d) f.word).setReg (regBrgSerial d) (if f.answers then f.serial else 0)
    let s := s.setFld regMshDiemap d d (b2n f.answers)
    let r := s.dieCheck d
    let s := if r = 0 then
        (s.modDie d (fun x => { x with enabled := f.cores })).emit 12 (68 + d) 0x8000 0
          [d, bits f.word 31 0, bits f.serial 31 0, bits f.serial 63 32]
      else s.fenceDie d r
    s.checkDies l

/-- R540: the least FEATURE of the I/O die and the dies not fenced. -/
def State.commonLevel (s : State) : Nat :=
  s.liveDies.foldl (fun m d => satTo m (s.dieFuse d).feature.toNat) (s.fld regMshIoident 7 4)

def State.applyLevel (s : State) (lv : Nat) : List Nat → State
  | [] => s
  | d :: l =>
    let s := s.setFld (regBrgStatus d) 7 4 lv
    let f := (s.dieFuse d).feature.toNat
    (if f = lv then s else s.emit 12 (68 + d) 0x8002 0 [d, f, lv]).applyLevel lv l

/-- R540, R541. -/
def State.levelDies (s : State) : State :=
  if s.liveDies = [] then s.emit 12 81 0x8005 0 [bits (s.reg regMshDiemap) 23 0]
  else
    let lv := s.commonLevel
    let s := (s.setFld regMshDiemap 27 24 lv).applyLevel lv s.liveDies
    if s.fld regMshIoident 7 4 = lv then s else s.emit 12 81 0x8002 0 [12, s.fld regMshIoident 7 4, lv]

/-- Steps 4 to 7 of R560. -/
def State.senseSteps (s : State) : State :=
  let s := (s.slotInvalid 0).slotInvalid 1
  match s.bootSlot with
  | none => { (s.emit 12 81 0x0005 0 []) with sense := .failed }
  | some (slot, ver, svn) =>
    let s := ((s.setFld regGlbBoot 63 32 ver).setFld regGlbBoot 31 24 svn).setFld regGlbBoot 1 0 slot
    let s := s.emit 12 81 0x0003 0 [slot, ver, svn]
    let s := (((s.loadBoard).loadKeys).checkDies (upTo 12)).levelDies
    { s with sense := if s.liveDies = [] then .failed else .passed }

/-! ## TRAIN: bridges (R532 to R534) -/

/-- A wire group of a bridge is repaired, or lost with its die. -/
def State.repairWires (s : State) : List WireFault → State
  | [] => s
  | w :: l =>
    let d := w.die.val
    let s := if (s.die d).fenced then s
      else if w.strobe ∨ 2 < w.wires then s.fenceDie d 7
      else if w.wires = 0 then s
      else
        let b := (if w.toDie then 32 else 0) + w.group.val
        (s.setFld (regBrgSpared d) b b 1).emit 12 (68 + d) 0x8003 0 [d, b2n w.toDie, w.group.val, w.wires]
    s.repairWires l

/-- R532, R533: the profile applied. -/
def State.applyProfiles (s : State) : List Nat → State
  | [] => s
  | d :: l =>
    let want := s.fld (regBrgCfg d) 1 0
    let got := if want = 3 ∨ (want = 2 ∧ s.fld (regBrgStatus d) 7 4 < 2) then 0 else want
    let s := (s.setFld (regBrgStatus d) 9 8 got).setFld (regBrgStatus d) 0 0 1
    (if got = want then s else s.emit 12 (68 + d) 0x8004 0 [d, want, got]).applyProfiles l

/-! ## TRAIN: DRAM channels (R359 to R366) -/

/-- A population that R359 supports and DMC.CFG expects. -/
def State.populationOk (s : State) (c : ChanTrain) : Bool :=
  decide (c.dimms ≠ 0) && decide (c.dimms ≠ 3) && decide (c.size ≠ 0) && decide (c.size.toNat = c.ranks.toNat + 1) &&
    decide (s.fld regDmcCfg 5 4 = c.dimms.toNat) && decide (s.fld regDmcCfg 3 2 = c.size.toNat) && decide (s.fld regDmcCfg 1 0 = c.ranks.toNat)

/-- A channel trains at 8000 MT/s (`fast`) or at 6400 MT/s. -/
def State.chanTrains (s : State) (fast : Bool) (c : ChanTrain) : Bool :=
  s.populationOk c && !(if fast then c.fail8000 else c.fail6400)

/-- The target rate is 8000 MT/s (R365). -/
def State.wantsFast (s : State) : Bool := decide (s.fld regDmcCfg 5 4 = 1) && decide (s.fld regDmcCfg 7 6 ≠ 1)

def chanMask (l : List Nat) : Nat := l.foldl (fun m n => m + 2 ^ n) 0

/-- R364 step 11, R393: what a channel's training leaves in its registers. -/
def State.recordChans (s : State) (fast : Bool) (cs : Nat → ChanTrain) : List Nat → State
  | [] => s
  | n :: l =>
    let c := cs n
    let ok := s.chanTrains fast c
    let res1 := if s.populationOk c then c.res1 else putBits (putBits c.res1 31 24 1) 23 20 3
    let st : Nat := c.ranks.toNat * 2 ^ 10 + c.dimms.toNat * 2 ^ 8 + c.size.toNat * 2 ^ 6 + (if ok then (if fast then 2 else 1) else 0) * 2 ^ 2 + b2n ok
    let s := ((s.setReg (regDmcStatus n) (BitVec.ofNat 64 st)).setReg (regDmcTrainres0 n) (c.res0 &&& 0x0000ffffffffffff)).setReg (regDmcTrainres1 n) (res1 &&& 0xffffffff)
    (if ok then s.emit 12 (16 + n) 0x9080 0 [n, st, bits c.res0 31 0] else s).recordChans fast cs l

def State.fenceChans (s : State) : List Nat → State
  | [] => s
  | n :: l => (s.setFld (regDmcStatus n) 1 1 1).fenceChans l

/-- The engines of a group with fenced channels are unavailable (R397). -/
def State.fenceEngines (s : State) : List Nat → State
  | [] => s
  | e :: l => (s.setFld (regPenStatus e) 1 1 1).fenceEngines l

/-- R364 to R366: the channels train, and those in use are chosen. -/
def State.trainDram (s : State) (chans : List ChanTrain) : State :=
  let cs (n : Nat) : ChanTrain := chans.getD n {}
  let slow := (upTo 16).filter (fun n => !s.chanTrains true (cs n))
  let fall := s.wantsFast && !slow.isEmpty
  let s := if fall then s.emit 12 81 0x9081 0 [chanMask slow] else s
  let fast := s.wantsFast && !fall
  let s := s.recordChans fast cs (upTo 16)
  let bad := (upTo 16).filter (fun n => !s.chanTrains fast (cs n))
  let lowOk := bad.all (fun n => decide (8 ≤ n))
  let highOk := bad.all (fun n => decide (n < 8))
  let c := cs (if lowOk then 0 else 8)
  let size := c.dimms.toNat * 2 ^ (c.size.toNat + 35)
  if !lowOk && !highOk then
    let w := bad.headD 0
    s.emit 12 81 0x9083 0 [chanMask bad, s.fld (regDmcTrainres1 w) 31 24]
  else if bad = [] then s.setReg regDmcTop (BitVec.ofNat 64 (16 * size))
  else
    let out := if lowOk then [8, 9, 10, 11, 12, 13, 14, 15] else upTo 8
    let s := (s.fenceChans out).fenceEngines out
    (s.setReg regDmcTop (BitVec.ofNat 64 (8 * size))).emit 12 81 0x9082 0 [chanMask out, b2n (!lowOk)]

/-! ## TRAIN: the address masks (R367 to R370) -/

/-- The pivots of the ten masks, in their order (R367). -/
def pivots : List Nat := [10, 11, 12, 13, 8, 9, 14, 15, 21, 22]

/-- The rule of R370 that a mask breaks. -/
def maskRule (half : Bool) (i : Nat) (m : Nat) : Option Nat :=
  let free := half && decide (i = 3)
  let others := (upTo 10).filter (fun j => decide (j ≠ i))
  if !free && !m.testBit (pivots.getD i 0) then some 1
  else if others.any (fun j => m.testBit (pivots.getD j 0)) then some 2
  else if !free && (decide (m % 64 ≠ 0) || decide (m / 2 ^ 43 % 2 ^ 9 ≠ 0)) then some 3
  else if !free && decide (i < 4) && decide (m % 2 ^ 10 ≠ 0) then some 4
  else none

/-- The first mask that breaks a rule, with the rule. -/
def State.maskFault (s : State) (half : Bool) : Option (Nat × Nat) :=
  (upTo 10).findSome? (fun i => (maskRule half i (s.fld (channelMaskReg i) 51 0)).map (fun r => (i, r)))

def State.resetMasks (s : State) : List Nat → State
  | [] => s
  | i :: l => (s.setReg (channelMaskReg i) (regInit (channelMaskReg i))).resetMasks l

/-- R370, R395: the masks take effect, or the reset values do. -/
def State.trainMasks (s : State) : State :=
  let half := decide (s.ownChanMode ≠ 0)
  let s := match s.maskFault half with
    | some (i, r) => (s.resetMasks (upTo 10)).emit 12 81 0x9084 0 [i, r]
    | none => s
  { s with masks := ((upTo 10).map (fun i => (channelMaskReg i, s.reg (channelMaskReg i)))).filter (fun p => decide (p.2 ≠ regInit p.1)) }

/-! ## TRAIN: directory ports (R298, R299) -/

def State.recordPorts (s : State) (ps : Nat → PortTrain) : List Nat → State
  | [] => s
  | p :: l =>
    let x := ps p
    let ok := x.present && x.trained && decide (x.density ≠ 0)
    let st := b2n x.present + b2n ok * 2 + (if x.present then x.density.toNat else 0) * 2 ^ 6 + (if ok then x.rlat.toNat else 0) * 2 ^ 8
    (s.setReg (regDirStatus p) (BitVec.ofNat 64 st)).recordPorts ps l

/-- A present port that failed training is UE-P (R300). -/
def State.failedPorts (s : State) : List Nat → State
  | [] => s
  | p :: l => (if s.fld (regDirStatus p) 1 0 = 1 then s.dirPortLost p else s).failedPorts l

def State.trainPorts (s : State) (ports : List PortTrain) : State :=
  let s := s.recordPorts (fun p => ports.getD p {}) (upTo 8)
  let s := s.failedPorts (upTo 8)
  let ps := s.trainedPorts
  let dens (p : Nat) : Nat := s.fld (regDirStatus p) 7 6
  match ps with
  | p :: l =>
    if l.all (fun q => decide (dens q = dens p)) then
      (s.setFld regDirLayout 63 32 (2 ^ (21 + dens p) / 9)).setFld regDirLayout 7 0 (chanMask ps)
    else s.emit 12 81 0xA004 0 [chanMask ps, (upTo 8).foldl (fun n q => n + dens q * 4 ^ q) 0]
  | [] => s.emit 12 81 0xA004 0 [0, (upTo 8).foldl (fun n q => n + dens q * 4 ^ q) 0]

/-! ## TRAIN: octets (R315 to R317) -/

/-- The role of an octet keeps to R315 and R317. -/
def State.roleOk (s : State) (n : Nat) : Bool :=
  let role (k : Nat) : Nat := s.fld (regOctCfg k) 2 0
  let r := role n
  let strapped := decide (s.fld regGlbIdent 5 4 ≠ 0)
  if r ≤ 2 then true
  else if r = 3 then decide (n % 2 = 0) && decide (role (n + 1) = 4)
  else if r = 4 then decide (n % 2 = 1) && decide (role (n - 1) = 3)
  else if r = 5 then decide (n = 0) && strapped
  else if r = 6 then decide (n = 0) && decide (role 1 = 7) && strapped
  else decide (n = 1) && decide (role 0 = 6) && strapped

def State.applyRoles (s : State) : List Nat → State
  | [] => s
  | n :: l =>
    let r := s.fld (regOctCfg n) 2 0
    let ok := s.roleOk n
    let s := s.setFld (regOctCfg n) 6 4 (if ok then r else 0)
    let s := if ok then s else s.emit 12 (56 + n) 0x7008 0 [n, r]
    (if ok && decide (r = 1) then s.setLinkState n linkTrainingSt else s).applyRoles l

/-! ## The two commands of TRAIN (R560 steps 4 to 12) -/

/-- R560 steps 8 to 10, as `wires`, `chans` and `ports` come out of training. -/
def State.train (s : State) (wires : List WireFault) (chans : List ChanTrain) (ports : List PortTrain) : State :=
  let s := (s.enterMode modeTrain 5).repairWires wires
  let s := s.applyProfiles s.liveDies
  let s := if s.liveDies = [] then s.emit 12 81 0x8005 0 [bits (s.reg regMshDiemap) 23 0] else s
  let s := ((s.trainDram chans).trainMasks).trainPorts ports
  s.applyRoles (upTo 12)

/-- R560 steps 4 to 10: once the clause clock has locked, SENSE ends; a package without valid firmware or without a die stays in it. -/
def execTrainStart (wires : List WireFault) (chans : List ChanTrain) (ports : List PortTrain) (s : State) :
    Host.Outcome State Fault Refusal :=
  .next (if s.mode = modeSense ∧ s.counting then
      let s := if s.sense = .due then s.senseSteps else s
      if s.sense = .passed then s.train wires chans ports else s
    else s)

/-- The lines of the DRAM top are filled with zeros, and the page ownership table is written (R386, R452, R560 step 11). -/
def State.initMemory (s : State) : State :=
  let top := (s.reg regDmcTop).toNat
  let table := (top / 2048 + 2 ^ 21 - 1) / 2 ^ 21 * 2 ^ 21
  let s := { s with mem := [], written := [(0, top / 64)], away := [], dramBad := [], pot := [],
                    fillKey := s.keyIn 0 (s.keyCur 0), lineKeys := [] }
  let s := s.setReg regRlmPotbase (BitVec.ofNat 64 (s.pkgNum * 2 ^ 47 + (top - table)))
  (s.setFld regGlbBoot 3 3 1).setFld regGlbBoot 4 4 1

/-- Half 0 of key slot 0, at the first memory initialisation after reset (R463). -/
def State.firstKey (s : State) : State :=
  if s.keyState 0 = keyEmpty then
    let s := (((s.genKey 0 0).setFld (regKeySlot 0) 2 0 keyActive).setFld (regKeySlot 0) 3 3 0).addFld (regKeySlot 0) 23 8 1
    s.emit 12 81 0x1003 0 [0, 0, bits (s.reg (regKeySlot 0)) 3 0, s.fld (regKeySlot 0) 23 8]
  else s

/-- Training is complete: channels are in use, a die is left, and no Trail octet still trains (R366, R541, R331). -/
def State.trained (s : State) : Bool :=
  decide (s.mode = modeTrain) && decide (s.reg regDmcTop ≠ 0) && !s.liveDies.isEmpty && s.trailOctets.all (fun n => decide (s.linkState n ≠ linkTrainingSt))

/-- R560 steps 11 and 12. -/
def execTrainComplete (s : State) : Host.Outcome State Fault Refusal :=
  .next (if s.trained then
      let s := ((s.firstKey).initMemory).enterMode modeSealed 6
      if s.servesHost ∧ s.epfLinked then s.setFld regEpfStatus 10 10 1 else s
    else s)

end Sys2Proof.Machine
end

