-- ==== Sys2Proof/Machine/Quiesce.lean ====
section
/-! DEFINITION. QUIESCE and what it is for (15_startup_modes.md R567 to R569; 09_trail_fabric.md R348; 02_clause_time.md R47): the
cut, its completion, the release, the regime change, the realignment. -/
namespace Sys2Proof.Machine
open Sys2Proof

/-- The takeover is complete (R351 step 5): the package presents its endpoint. -/
def State.endTakeover (s : State) : State := match s.image.takeover with
  | some (old, sil) => { (s.emit 12 82 0x0094 0 [old, s.pkgNum, sil]) with image := { s.image with takeover := none } }
  | none => s

/-- The manager may begin a QUIESCE: the image runs, and none is in progress. -/
def State.canQuiesce (s : State) : Bool :=
  s.isManager && s.joined && s.image.quiesce.isNone && s.image.takeover.isNone
    && (decide (s.imageMode = modeRunI) || decide (s.imageMode = modeRunS))

/-- The cut clause is named and sent to every member (R567 step 1); a leaving worker, drained, has no part in the cut (R572). -/
def State.beginQuiesce (s : State) (why : Purpose) (cmd : Option Command) : State :=
  let q := s.clause + BitVec.ofNat 64 (s.fld regGlbQuiescectl 7 0)
  let all := (s.pkgNum :: s.otherMembers).filter (fun p => decide (why ≠ .leave p))
  let s := { s with image := { s.image with cutAt := some q, cutReported := false,
                                            quiesce := some { purpose := why, cmd := cmd, cut := q, waiting := all } } }
  s.sendAll .cut (.words [q, 0]) s.otherMembers

/-- The release clause is named and sent to every member (R569). -/
def State.beginRelease (s : State) (cmd : Option Command) : State :=
  let v := s.clause + BitVec.ofNat 64 (s.fld regGlbQuiescectl 7 0)
  let s := match s.image.quiesce with
    | some z => { s with image := { s.image with releaseAt := some v, quiesce := some { z with cmd := match cmd with
        | some c => some c
        | none => z.cmd } } }
    | none => { s with image := { s.image with releaseAt := some v } }
  s.sendAll .cut (.words [v, 1]) s.otherMembers

/-- R567 step 1, R569: a member learns the cut clause, or the release clause. -/
def execCut (clause : Word) (release : Bool) (s : State) : Host.Outcome State Fault Refusal :=
  let s := s.takeMgmt .cut s.managerNum
  if !s.joined then .next s
  else if release then .next { s with image := { s.image with releaseAt := some clause } }
  else .next { s with image := { s.image with cutAt := some clause, cutReported := false } }

/-- R567 step 2: at Q the member's sources are held. -/
def execQuiesceCut (s : State) : Host.Outcome State Fault Refusal :=
  match s.image.cutAt with
  | some q =>
    if s.clause.toNat < q.toNat then .next s
    else
      let s := if s.mode = modeRunI ∨ s.mode = modeRunS then s.enterMode modeQuiesce 11
        else if s.mode = modeDegraded then s.setFld regGlbMode 12 12 1 else s
      .next (if s.joined then s.setFld regGlbMode 7 4 modeQuiesce else s)
  | none => .next s

/-- A core has no request outstanding, no subjunctive fill and no line in OF (R567 step 4). -/
def Core.quiet (c : Core) : Bool :=
  c.txns.isEmpty && c.eb.all (fun e => !e.issued) && c.mb.all (fun e => decide (e.sent = none)) && c.ctxOut.isEmpty
    && c.l2.all (fun l => !l.2.frozen) && c.discards.isEmpty

def Thread.quiet (t : Thread) : Bool := match t.wait with
  | .access _ _ => false
  | _ => true

def Home.quiet (h : Home) : Bool := h.txns.isEmpty && h.held.isEmpty && h.recalls.isEmpty && h.waiting.isEmpty

/-- A member's part of the cut is complete (R567 step 4). -/
def State.cutMet (s : State) : Bool :=
  s.cores.all (fun c => c.2.quiet) && s.threads.all (fun t => t.2.quiet) && s.homes.all (fun h => h.2.quiet)
    && s.dies.all (fun d => d.2.wbs.isEmpty) && s.ports.all (fun p => p.2.reads.isEmpty && p.2.writes.isEmpty)
    && s.ucq.isEmpty && s.sent.all (fun m => decide (linkClass m.type = 0))
    && s.links.all (fun l => l.2.queue.all (fun k => decide (k.route.pri = 0)) && l.2.replay.all (fun f => f.pkts.all (fun k => decide (k.route.pri = 0))))

/-- The regime goes to every member, each of which writes it into its home agents; on leaving RUN-S the owner-prediction tables are
invalidated (R348 step 3). -/
def State.writeRegime (s : State) (v : Nat) : State :=
  let s := if s.regime = 2 ∧ v ≠ 2 then { s with dies := Tbl.map (fun (d : Die) => { d with preds := [] }) s.dies } else s
  s.setRegime v (upTo 16)

/-- R348. -/
def execRegime (value : BitVec 2) (s : State) : Host.Outcome State Fault Refusal :=
  let s := s.takeMgmt .regime s.managerNum
  if s.joined ∧ value ≠ 0 then .next (s.writeRegime value.toNat) else .next s

/-- A worker's departure (R572 step 4): its bit leaves MEMBERS, its PAs and its links. -/
def State.removeMember (s : State) (p : Nat) : State :=
  let w := s.reg regTrlImage
  let w := putBits w (32 + p) (32 + p) 0
  let w := if bit w 22 ∧ bits w 20 16 = p then putBits (putBits w 22 22 0) 20 16 0 else w
  let s := { (s.setReg regTrlImage w) with tops := Tbl.erase s.tops p }
  let s := s.setReg (regTrlRoute p) 0
  let gone := s.trailOctets.filter (fun n => decide (s.linkPkg n = p) && (decide (s.linkState n = linkUp)))
  let s := s.setLinkMembers [] gone
  s.autoReshape 2

/-- The cut is complete on every member (R567 step 5): what the QUIESCE was for goes on. -/
def State.cutComplete (s : State) (z : Quiesce) : State :=
  let s := s.setReg regGlbQcut z.cut
  let s := s.sendAll .cutDone (.value z.cut) s.otherMembers
  let s := s.emit 12 82 0x0001 0 [bits z.cut 31 0, bits z.cut 63 32, s.clause.toNat - z.cut.toNat]
  let s := { s with image := { s.image with quiesce := some { z with complete := true, waiting := [] } } }
  match z.purpose with
  | .command =>
    match z.cmd with
    | some c => { (s.ok c) with image := { s.image with quiesce := some { z with complete := true, waiting := [], cmd := none } } }
    | none => s
  | .regime v => ((s.sendAll .regime (.value (BitVec.ofNat 64 v)) s.otherMembers).writeRegime v).beginRelease none
  | .realign ps => s.sendEpochs s.clause ps
  | .takeover => (s.setFld regClkStatus 3 3 1).beginRelease none
  | .leave p =>
    let s := s.sendAll .event (.report (.memberLeft (BitVec.ofNat 5 p))) s.otherMembers
    let s := s.removeMember p
    let ms := s.imageMembers.filter (fun m => s.isMember m.2)
    let nums := ms.map (·.2)
    let es := s.joinEdges ms
    let s := s.writeRoutes (routeTable es nums s.pkgNum) (upTo 32)
    let others := nums.filter (· ≠ s.pkgNum)
    ((s.sendRoutes es nums others).sendAll .routeSwitch .none others).beginRelease none

/-- A member reports its part of the cut, or learns the completed cut from the manager (R567 steps 4 and 5). The completion is an event
of rank 6 (R27). -/
def execCutDone (src : Pkg) (clause : Word) (s : State) : Host.Outcome State Fault Refusal :=
  let s := s.takeMgmt .cutDone src.toNat
  if s.isManager then
    match s.image.quiesce with
    | none => .next s
    | some z =>
      if z.complete ∨ z.cut ≠ clause then .next s
      else
        let w := z.waiting.filter (· ≠ src.toNat)
        let s := { s with image := { s.image with quiesce := some { z with waiting := w } } }
        .next (if w = [] then s.localEvent (.quiesced z.cut) 6 12 82 else s)
  else if src.toNat = s.managerNum then .next (s.setReg regGlbQcut clause)
  else .next s

/-- At a tick, a member that holds its sources and whose part of the cut is complete reports once. -/
def State.cutTick (s : State) : State :=
  match s.image.cutAt with
  | some q =>
    if s.sourcesHeld ∧ !s.image.cutReported ∧ s.cutMet then
      ({ s with image := { s.image with cutReported := true } }).sendMgmt .cutDone s.managerNum (.value q)
    else s
  | none => s

/-- R568. -/
def execQuiesceTimeout (s : State) : Host.Outcome State Fault Refusal :=
  match s.image.quiesce with
  | some z =>
    if !z.complete ∧ s.mode ≠ modeHalt ∧ z.cut.toNat + 2500000 ≤ s.clause.toNat then
      .next (s.haltError 12 82 0x0002 [z.waiting.foldl (fun m p => m ||| 2 ^ p) 0, bits z.cut 31 0])
    else .next s
  | none => .next s

/-- What ends at the release (R348 steps 4 and 5, R351 step 5, R566, R572 step 5). -/
def State.released (s : State) (z : Quiesce) : State :=
  let fin (s : State) : State := match z.cmd with
    | some c => s.ok c
    | none => s
  match z.purpose with
  | .command => fin s
  | .regime v => fin (s.emit 12 82 0x0093 0 [3 - v, v])
  | .realign _ => s
  | .takeover => s.endTakeover
  | .leave p =>
    let serial : Word := match s.image.idents.find? (fun i => decide (i.num = some (BitVec.ofNat 5 p))) with
      | some i => i.serial
      | none => 0
    fin (s.emit 12 82 0x0008 0 [p, bits serial 31 0, bits serial 63 32])

/-- R569: at V the sources are released, and the member returns to the mode it held. -/
def execQuiesceRelease (s : State) : Host.Outcome State Fault Refusal :=
  match s.image.releaseAt with
  | some v =>
    if s.clause.toNat < v.toNat ∨ !s.sourcesHeld then .next s
    else
      let run := runModeOf s.regime
      let s := if s.mode = modeQuiesce then s.enterMode run 12 else s.setFld regGlbMode 12 12 0
      let s := s.setFld regGlbMode 7 4 run
      let z := s.image.quiesce
      let s := { s with image := { s.image with cutAt := none, releaseAt := none, cutReported := false, quiesce := none } }
      match z with
      | some z => .next (s.released z)
      | none => .next s
  | none => .next s

/-- 00C0h for a package that is realigned (R46, R54). -/
def State.realignRecord (s : State) (p : Nat) (offset : BitVec 16) : State :=
  s.emit 12 87 0x00C0 0 [p, bits (sextNat 16 offset.toNat) 31 0]

def State.realignRecords (s : State) : List (Nat × BitVec 16) → State
  | [] => s
  | x :: l => (s.realignRecord x.1 x.2).realignRecords l

/-- R46, R47: a worker out of tolerance has asked. It joins the realignment that runs, or waits until one can begin. -/
def State.realignImage (s : State) (p : Nat) (offset : BitVec 16) : State :=
  if !s.isManager ∨ !s.isMember p then s
  else match s.image.quiesce with
    | some z => match z.purpose with
      | .realign ps =>
        if ps.contains p then s
        else
          let s := { (s.realignRecord p offset) with image := { s.image with quiesce := some { z with purpose := .realign (ps ++ [p]) } } }
          if z.complete then s.sendCtl .epoch p (.value s.clause) else s
      | _ => { s with image := { s.image with realignAsked := s.image.realignAsked.filter (fun x => decide (x.1 ≠ p)) ++ [(p, offset)] } }
    | none => { s with image := { s.image with realignAsked := s.image.realignAsked.filter (fun x => decide (x.1 ≠ p)) ++ [(p, offset)] } }

/-- The realignment that workers have asked for begins: the image is brought to QUIESCE (R47 step 1). -/
def State.realignTick (s : State) : State :=
  if s.image.realignAsked = [] ∨ !s.canQuiesce then s
  else
    let asked := s.image.realignAsked.filter (fun x => s.isMember x.1)
    let s := { s with image := { s.image with realignAsked := [] } }
    if asked = [] then s else (s.realignRecords asked).beginQuiesce (.realign (asked.map (·.1))) none

/-- R46, R47: member `p` is out of tolerance; its request is taken where it stands among the messages. -/
def execClauseRealign (p : Pkg) (offset : BitVec 16) (s : State) : Host.Outcome State Fault Refusal :=
  let s := match s.sent.find? (fun m => decide (m.body = .report (.realign offset)) && decide (agentPkg m.hdr.src = p.toNat)) with
    | some m => s.delivered m
    | none => s
  .next (s.realignImage p.toNat offset).realignTick

/-- A realigned worker has reported; once every one has, the image is released (R47 step 3). -/
def State.realignDone (s : State) (p : Nat) : State :=
  match s.image.quiesce with
  | some z => match z.purpose with
    | .realign ps =>
      let w := ps.filter (· ≠ p)
      let s := { s with image := { s.image with quiesce := some { z with purpose := .realign w } } }
      if ps.contains p ∧ w = [] then s.beginRelease none else s
    | _ => s
  | none => s

end Sys2Proof.Machine
end

