-- ==== Sys2Proof/Machine/Watch.lean ====
section
/-! DEFINITION. The watch over the manager (09_trail_fabric.md R349 to R353, R689) and the halt of the image (17_errors.md R609). -/
namespace Sys2Proof.Machine
open Sys2Proof

def State.silence (s : State) : Nat := s.fld regTrlHeartbeat 31 0

/-- SILENCE counts clauses since the last heartbeat, and reads 0 on the manager (R349, R357). -/
def State.silenceTick (s : State) : State :=
  if s.joined ∧ !s.isManager ∧ s.mode ≠ modeHalt then s.addFld regTrlHeartbeat 31 0 1 else s

/-- R349. -/
def execHeartbeatPeriod (s : State) : Host.Outcome State Fault Refusal :=
  if s.isManager ∧ s.joined ∧ s.mode ≠ modeHalt then .next (s.sendAll .heartbeat .none s.otherMembers) else .next s

/-- R349, R351: a heartbeat of the present manager restarts SILENCE. -/
def execHeartbeat (src : Pkg) (s : State) : Host.Outcome State Fault Refusal :=
  let s := s.takeMgmt .heartbeat src.toNat
  if s.joined ∧ src.toNat = s.managerNum then
    .next { (s.setFld regTrlHeartbeat 31 0 0) with image := { s.image with askAgain := 2500000 } }
  else .next s

/-- This package is the image's standby (R350). -/
def State.isStandby (s : State) : Bool :=
  s.joined && decide (s.fld regTrlImage 22 22 = 1) && decide (s.fld regTrlImage 20 16 = s.pkgNum) && !s.isManager

/-- Workers the standby asks: members but the manager and itself. -/
def State.workersAsked (s : State) : List Nat := s.otherMembers.filter (· ≠ s.managerNum)

/-- R350: the standby asks every worker. -/
def execStandbySilenceLimit (s : State) : Host.Outcome State Fault Refusal :=
  if s.isStandby ∧ s.image.askAgain ≤ s.silence ∧ s.image.heardAt = none then
    .next (({ s with image := { s.image with heardAt := some s.clause, heard := [] } }).sendAll .heardReq .none s.workersAsked)
  else .next s

/-- R350: a worker answers with its SILENCE. -/
def execHeardReq (src : Pkg) (s : State) : Host.Outcome State Fault Refusal :=
  let s := s.takeMgmt .heardReq src.toNat
  if s.joined then .next (s.sendMgmt .heardRsp src.toNat (.value (BitVec.ofNat 64 s.silence))) else .next s

/-- A HALT-class error that a member without a manager raises for itself (R353, R689 step 3): it halts at once. -/
def State.imageLost (s : State) (cause mask : Nat) : State :=
  ((s.emit 12 81 0x7006 0 [cause, mask]).noteUe 0x7006).haltHeld

/-- The takeover on every member (R351 step 1). -/
def State.takeoverMember (s : State) (new : Nat) : State :=
  let s := ((s.setFld regTrlImage 12 8 new).setFld regTrlImage 22 22 0).setFld regTrlHeartbeat 31 0 0
  s.setFld regClkStatus 2 2 0

/-- The standby takes over (R351 steps 1 and 3): it is the manager, whose ALIGNED is 1 and whose CLK.SYNCSTAT is 0 (R49, R50), and
becomes the time source once the image is quiesced. An image that joins or drains is not brought to QUIESCE (log entry 48). -/
def State.takeOver (s : State) : State :=
  let old := s.managerNum
  let sil := s.silence
  let s := s.floodMgmt .takeover (.value (BitVec.ofNat 64 s.pkgNum))
  let s := ((s.takeoverMember s.pkgNum).setFld regClkStatus 2 2 1).setReg regClkSyncstat 0
  let s := { s with image := { s.image with takeover := some (old, sil), heardAt := none, heard := [], slew := 0 } }
  let s := s.sendAll .heartbeat .none s.otherMembers
  if s.imageMode = modeRunI ∨ s.imageMode = modeRunS ∨ s.imageMode = modeQuiesce then s.beginQuiesce .takeover none
  else (s.setFld regClkStatus 3 3 1).endTakeover

/-- The loss of the manager's heartbeat is resolved: the standby takes over (R27 rank 6, R351). -/
def State.actTakeover (s : State) : State := if s.isStandby ∧ s.mode ≠ modeHalt then s.takeOver else s

/-- The standby's decision, once every answer has arrived or counts as silent (R350, R689 step 3). -/
def State.decideTakeover (s : State) : State :=
  let least := s.image.heard.foldl (fun m p => if p.2 < m then p.2 else m) 0xffffffff
  let mgr := s.managerNum
  if s.image.heard.any (fun p => decide (p.2 < 500000)) then
    ({ s with image := { s.image with heardAt := none, heard := [], askAgain := s.silence + 2500000 } }).emit 12 81 0x7005 0 [mgr, least]
  else
    let w := s.reg (regTrlRoute mgr)
    if s.upOctets.any (fun n => bit w n) then ({ s with image := { s.image with heardAt := none, heard := [], askAgain := s.silence + 2500000 } }).localEvent .takeover 6 12 81
    else
      let s := s.floodMgmt .haltImage (.value s.clause)
      (s.imageLost 1 (2 ^ mgr)).setFld regGlbMode 7 4 modeHalt

/-- R350. -/
def execHeardRsp (src : Pkg) (silence : BitVec 32) (s : State) : Host.Outcome State Fault Refusal :=
  let s := s.takeMgmt .heardRsp src.toNat
  if s.image.heardAt = none then .next s
  else
    let heard := (src.toNat, silence.toNat) :: s.image.heard.filter (fun p => decide (p.1 ≠ src.toNat))
    let s := { s with image := { s.image with heard := heard } }
    if s.workersAsked.all (fun p => heard.any (fun h => decide (h.1 = p))) then .next s.decideTakeover else .next s

/-- R350: after a millisecond the missing answers count as silent. -/
def execHeardTimeout (s : State) : Host.Outcome State Fault Refusal :=
  match s.image.heardAt with
  | some c => if c.toNat + 250000 ≤ s.clause.toNat then .next s.decideTakeover else .next s
  | none => .next s

/-- R351 steps 1 and 2. -/
def execTakeover (src : Pkg) (s : State) : Host.Outcome State Fault Refusal :=
  let s := s.takeMgmt .takeover src.toNat
  if !s.joined ∨ src.toNat = s.pkgNum then .next s
  else
    let was := s.isManager
    let s := s.takeoverMember src.toNat
    if was then .next (((s.epfContain 3).setFld regClkStatus 3 3 0).degrade) else .next s

/-- R353: a worker that has not heard the manager for 20 ms. -/
def execHeartbeatSilence (s : State) : Host.Outcome State Fault Refusal :=
  if s.joined ∧ !s.isManager ∧ s.mode ≠ modeHalt ∧ 5000000 ≤ s.silence then
    .next (s.imageLost 4 (2 ^ s.managerNum))
  else .next s

/-- R352: the standby stores a change of an owner key slot and acknowledges. -/
def execMirror (m : MirrorArgs) (s : State) : Host.Outcome State Fault Refusal :=
  let s := match s.sent.find? (fun x => decide (x.body = .mirror m)) with
    | some x => s.delivered x
    | none => s
  if s.isManager then .next s
  else
    let s := (s.setFld (regTktSlot0 m.slot.val) 0 0 (b2n m.active)).setReg (regTktSlot1 m.slot.val) m.last
    let s := ({ s with ownerKeys := Tbl.set s.ownerKeys m.slot.val m.key } : State).saveKeys
    .next (s.sendCtl .mirror s.managerNum (.flag true))

/-- R609, second case of R574. -/
def execHaltImage (stamp : Word) (s : State) : Host.Outcome State Fault Refusal :=
  let s := match s.sent.find? (fun m => decide (m.type = .haltImage) && decide (m.body = .value stamp)) with
    | some m => s.delivered m
    | none => s
  if s.joined then .next (s.haltHeld.setFld regGlbMode 7 4 modeHalt) else .next s

end Sys2Proof.Machine
end

