-- ==== Sys2Proof/Machine/Ticket.lean ====
section
/-! DEFINITION. The ticket engine (13_platform_endpoint.md R495, R496, R501 to R507; 15_startup_modes.md R564, R566): descriptors, the
checks, acceptance, the mirror to the standby. -/
namespace Sys2Proof.Machine
open Sys2Proof

/-! ## The catalogue (R507, R564) -/

/-- A row of the catalogue: the opcode, whether it is ticketed, the modes in which it is legal, whether it is long, and whether it is
a command of the image, which takes TARGET FFh only (log entry 35). -/
structure CmdRow where
  op : Nat
  ticketed : Bool
  legal : List Nat
  long : Bool := false
  image : Bool := false
  deriving DecidableEq, Repr

def legalAll : List Nat := [4, 5, 6, 7, 8, 9, 10, 11]
def legalSealed : List Nat := [4]
def legalRun : List Nat := [6, 7, 9]
def legalSet : List Nat := [4, 6, 7, 8, 9]

def catalogueA : List CmdRow := [
  { op := 0x0001, ticketed := false, legal := legalAll },
  { op := 0x0002, ticketed := false, legal := legalAll },
  { op := 0x0003, ticketed := false, legal := legalSealed, image := true },
  { op := 0x0010, ticketed := true, legal := legalSealed, long := true, image := true },
  { op := 0x0011, ticketed := true, legal := [6, 7], long := true, image := true },
  { op := 0x0012, ticketed := true, legal := legalSet, long := true },
  { op := 0x0013, ticketed := true, legal := legalAll },
  { op := 0x0014, ticketed := true, legal := legalRun, long := true },
  { op := 0x0015, ticketed := true, legal := legalSealed, long := true },
  { op := 0x0016, ticketed := true, legal := legalSet },
  { op := 0x0017, ticketed := true, legal := legalSet, long := true }]
def catalogueB : List CmdRow := [
  { op := 0x0018, ticketed := true, legal := legalSet, image := true },
  { op := 0x0019, ticketed := true, legal := [4, 5, 6, 7, 8, 9, 10], image := true },
  { op := 0x001a, ticketed := true, legal := legalSet },
  { op := 0x0020, ticketed := true, legal := legalRun, image := true },
  { op := 0x0021, ticketed := true, legal := legalRun, image := true },
  { op := 0x0022, ticketed := true, legal := legalRun, image := true },
  { op := 0x0023, ticketed := true, legal := legalRun, image := true },
  { op := 0x0024, ticketed := true, legal := legalRun, long := true, image := true },
  { op := 0x0025, ticketed := true, legal := legalRun, image := true },
  { op := 0x0030, ticketed := true, legal := legalSet, image := true },
  { op := 0x0031, ticketed := true, legal := legalSet, image := true }]
def catalogue : List CmdRow := catalogueA ++ catalogueB

def cmdRow (op : Nat) : Option CmdRow := catalogue.find? (fun r => decide (r.op = op))

/-! ## Descriptors (R495, R502, R503 checks 1 to 4) -/

/-- The command of a descriptor's 128 bytes (R495). -/
def parseDescriptor (d : List (BitVec 8)) (ext : List (BitVec 8)) (ring index gen : Nat) : Command :=
  let fld (o n : Nat) : Nat := leNat ((d.drop o).take n)
  let flags := fld 2 1
  { opcode := BitVec.ofNat 16 (fld 0 2), ticketed := flags.testBit 0, int := flags.testBit 1, hasExt := flags.testBit 2,
    reserved := decide (8 ≤ flags) || decide (fld 0x21 7 ≠ 0), slot := BitVec.ofNat 8 (fld 3 1), cmdid := BitVec.ofNat 32 (fld 4 4),
    counter := BitVec.ofNat 64 (fld 8 8), tag := BitVec.ofNat 128 (fld 16 16), target := BitVec.ofNat 8 (fld 0x20 1),
    ps := (upTo 11).map (fun i => BitVec.ofNat 64 (fld (0x28 + 8 * i) 8)), ext := ext, ring := ring, index := index, gen := gen }

/-- The extension's length and digest are those of P6 to P10 (R495, R496). -/
def extOk (c : Command) (d : List (BitVec 8)) : Bool :=
  !c.hasExt || (decide ((cmdWord c 6).toNat ≤ 2 ^ 26) && decide (c.ext.length = (cmdWord c 6).toNat) && decide (sha256 c.ext = d.drop 0x60))

/-- Check 1: the opcode is assigned, TICKETED matches it, reserved fields are 0, and the ticket fields of an unticketed command are. -/
def formOk (c : Command) : Bool :=
  match cmdRow c.opcode.toNat with
  | none => false
  | some r => decide (r.ticketed = c.ticketed) && !c.reserved && decide (c.slot.toNat < 8) &&
      (c.ticketed || (decide (c.slot = 0) && decide (c.counter = 0) && decide (c.tag = 0)))

/-- The tag of a descriptor under a key (R502). -/
def ticketTag (key : BitVec 256) (d : List (BitVec 8)) : List (BitVec 8) :=
  (hmac256 (leBytes key.toNat 32) (d.take 16 ++ d.drop 32)).take 16

/-- A refused command: its record and its completion. -/
def State.refuseTicket (s : State) (c : Command) (code status : Nat) (ps : List Nat) : State :=
  (s.emit 12 82 code 0 ps).complete c status 0 0

/-- A package is a possible target: a member, or this package before its JOIN (log entry 35). -/
def State.isTarget (s : State) (p : Nat) : Bool := s.isMember p || (!s.joined && decide (p = s.pkgNum))

/-- The register at `off` holds an RWT field (R509). -/
def hasRwt (off : Nat) : Bool := (regFields off).any (fun f => decide (f.access = .rwt))

/-- Every package of a mask is a possible target. -/
def State.maskOk (s : State) (m : Nat) : Bool := (upTo 32).all (fun p => !m.testBit p || s.isTarget p)

/-- The parameters of a command break its rules (R503 check 5). -/
def State.badField (s : State) (c : Command) : Bool :=
  let p0 := cmdWord c 0
  let p1 := cmdWord c 1
  let any := c.target = 0xff
  match c.opcode.toNat with
  | 0x0002 => (Tbl.find s.longOps p0.toNat).isNone
  | 0x0010 => !(decide (bits p0 1 0 = 1) || decide (bits p0 1 0 = 2)) || decide (32 < bits p0 13 8) || decide (c.ext.length % 16 ≠ 0)
      || decide (512 < c.ext.length) || (joinTable c.ext 32).any (fun t => decide (31 < t.2))
  | 0x0011 => !(decide (bits p0 1 0 = 1) || decide (bits p0 1 0 = 2))
  | 0x0012 =>
    let t := bits p0 3 0
    if 5 ≤ t ∧ t ≤ 8 then decide (¬ any) else decide (t ≠ 10) || (decide (¬ any) && decide (c.target.toNat = s.pkgNum))
  | 0x0016 => !hasRwt p0.toNat
  | 0x0017 => let k := bits p0 1 0
    decide (k = 3) || (decide (k < 2) && !c.hasExt) || (decide (k = 2) && c.hasExt)
  | 0x0018 => decide (17 < bits p0 36 32) || decide (p1.toNat ≤ s.clause.toNat) || decide (s.clause.toNat + 2 ^ 38 < p1.toNat)
      || !s.maskOk (bits p0 31 0)
  | 0x0019 => !s.maskOk (bits p0 31 0)
  | 0x001a => decide any && !bit p0 63
  | 0x0025 => let n := (cmdWord c 2).toNat
    decide (n = 0) || decide (512 < n)
  | 0x0030 => !(decide (c.slot = 0) || decide (c.slot.toNat = bits p0 2 0))
  | 0x0031 => decide (bits p0 2 0 = 0) || decide (c.slot ≠ 0)
  | _ => false

/-- Check 5: the status when it fails. -/
def State.fieldStatus (s : State) (c : Command) : Option Nat :=
  let image := match cmdRow c.opcode.toNat with
    | some r => r.image
    | none => false
  if c.target ≠ 0xff && (image || !s.isTarget c.target.toNat) then some stNoTarget
  else if s.badField c then some stBadField else none

/-- The command is accepted with its stamp, and waits for its resolution at rank 5; or check 5 refuses it. A RESET has rank 2 (R27,
R559): the package acts at once on one that names it alone, and one for other members waits for the horizon as their part of it does
(R41; DESIGN CHOICE, log entry 78). -/
def State.accept (s : State) (c : Command) : State :=
  match s.fieldStatus c with
  | some st => s.refuseField c st
  | none =>
    let c := if c.ticketed then { c with stamp := some s.clause } else c
    let s := if c.ticketed then
        s.emitOrigin s.hostOrigin 0x1005 0 [c.slot.toNat * 65536 + c.opcode.toNat, c.cmdid.toNat, bits c.counter 31 0, c.target.toNat]
      else s
    if c.opcode = 0x13 ∧ c.target.toNat = s.pkgNum ∧ !bit (cmdWord c 0) 0 then { (s.ok c) with resetDue := some c }
    else s.localEvent (.command c) (if c.opcode = 0x13 then 2 else 5) 12 82

/-- Check 4 has passed: LAST takes the counter, the key record is written, and the standby is sent the mirror (R352, R504). -/
def State.beginAccept (s : State) (c : Command) : State :=
  let k := c.slot.toNat % 8
  let s := (s.setReg (regTktSlot1 k) c.counter).saveKeys
  let mirrored := s.joined && decide (s.fld regTrlImage 22 22 = 1)
  let s := if mirrored then s.mirrorSlots (s.fld regTrlImage 20 16) [k] else s
  s.modEpf (fun e => { e with accepting := e.accepting ++ [{ cmd := c, mirror := if mirrored then e.mirrorSent else 0, since := s.clause }] })

/-- Checks 1 to 4 (R503). -/
def State.checkTicket (s : State) (c : Command) (d : List (BitVec 8)) : State :=
  let k := c.slot.toNat % 8
  let ids := [c.slot.toNat, c.opcode.toNat, c.cmdid.toNat]
  let last := s.reg (regTktSlot1 k)
  if !extOk c d || !formOk c then s.refuseTicket c 0x2004 stBadField (ids ++ [1])
  else if !c.ticketed then s.accept c
  else if s.fld (regTktSlot0 k) 0 0 = 0 then s.refuseTicket c 0x2005 stSlotEmpty ids
  else if ticketTag (Tbl.get 0 s.ownerKeys k) d ≠ (d.drop 16).take 16 then
    s.refuseTicket c 0x2001 stAuth (ids ++ [bits c.counter 31 0])
  else if c.counter.toNat ≤ last.toNat then
    s.refuseTicket c 0x2002 stReplay [c.slot.toNat, c.opcode.toNat, bits c.counter 31 0, bits last 31 0]
  else s.beginAccept c

/-- R496, R502, R503: the oldest descriptor read returns its 128 bytes, with the extension's where it names one. The completion of an
abandoned read is discarded (R513). -/
def execCommandDescriptor (desc : BitVec 1024) (ext : List (BitVec 8)) (s : State) : Host.Outcome State Fault Refusal :=
  .next (match s.epf.late with
    | r :: _ => (s.tlpIn 0 128).lateDone r
    | [] => match s.epf.reads with
      | [] => s
      | r :: l =>
        let d := leBytes desc.toNat 128
        let c := parseDescriptor d ext r.ring r.index s.epf.gen
        let s := (s.tlpIn 0 (128 + ext.length)).modEpf (fun e => { e with reads := l })
        let s := (s.setFld (regEpfCring1 r.ring) 63 32 (r.index + 1)).addFld regEpfCount0 31 0 1
        let s := s.addFld regEpfStatus 40 32 1
        let s := if c.hasExt then
            (s.epfOut (.memRead s.epf.nextTag (cmdWord c 5).toNat (cmdWord c 6).toNat)).modEpf (fun e => { e with nextTag := (e.nextTag + 1) % 1024 })
          else s
        (s.checkTicket c d).issueReads 256)

/-! ## Acceptance (R503 check 5, R504) -/

/-- The first command whose mirror is acknowledged, or that needs none. -/
def State.acceptNext (s : State) : State :=
  match s.epf.accepting.find? (fun a => decide (a.mirror ≤ s.epf.mirrorAcked)) with
  | some a => (s.modEpf (fun e => { e with accepting := e.accepting.erase a })).accept a.cmd
  | none => s

/-- R504: the flash write is complete and the mirror acknowledged. -/
def execTicketAccept (s : State) : Host.Outcome State Fault Refusal := .next (if s.servesHost then s.acceptNext else s)

/-- R352: the standby has acknowledged a mirror. -/
def execMirrorAck (s : State) : Host.Outcome State Fault Refusal :=
  let s := match s.sent.find? (fun m => decide (m.type = .mirror) && decide (m.body = .flag true)) with
    | some m => s.delivered m
    | none => s
  .next (if s.isManager && decide (s.epf.mirrorAcked < s.epf.mirrorSent) then s.modEpf (fun e => { e with mirrorAcked := e.mirrorAcked + 1 }) else s)

/-- The standby is dropped on this package (R352). -/
def State.dropStandby (s : State) : State := (s.setFld regTrlImage 22 22 0).setFld regTrlImage 20 16 0

/-- R352: a standby that has not acknowledged a mirror within 250,000 clauses is dropped, and the command is accepted. -/
def execMirrorTimeout (s : State) : Host.Outcome State Fault Refusal :=
  .next (match s.epf.accepting.find? (fun a => decide (s.epf.mirrorAcked < a.mirror) && decide (a.since.toNat + 250000 ≤ s.clause.toNat)) with
    | some a =>
      if s.isManager ∧ s.fld regTrlImage 22 22 = 1 then
        let p := s.fld regTrlImage 20 16
        let s1 := (s.sendAll .event (.report .standbyDropped) s.otherMembers).dropStandby
        let s1 := s1.modEpf (fun e => { e with mirrorAcked := e.mirrorSent })
        (s1.emit 12 82 0x0097 0 [p, s.clause.toNat - a.since.toNat]).acceptNext
      else s
    | none => s)

/-! ## Judging (R503 check 6, R506, R564, R566) -/

/-- The mode by which a command for TARGET FFh is judged: the image mode, or, before JOIN, the package's own mode. -/
def State.imageJudge (s : State) : Nat :=
  if s.mode = modeHalt then modeHalt else if s.joined then s.imageMode else s.mode

/-- The mode by which a command for this package is judged: its own, QUIESCE for DEGRADED with HELD. -/
def State.ownJudge (s : State) : Nat := if s.mode = modeDegraded ∧ s.heldBit then modeQuiesce else s.mode

/-- A MODE command's target is legal in the mode judged (R566). -/
def State.modeLegal (s : State) (c : Command) (m : Nat) : Bool :=
  let t := bits (cmdWord c 0) 3 0
  let any := decide (c.target = 0xff)
  if m = modeSealed then decide (t = 10) && any
  else if m = modeRunI ∨ m = modeRunS then decide (t = 8) || (decide (t = 10) && !any)
  else if m = modeDegraded then decide (t = 10) && !any
  else if m = modeQuiesce then decide (t = 5) || (decide (t = 6) && decide (s.regime = 1)) || (decide (t = 7) && decide (s.regime = 2))
    || (decide (t = 10) && any)
  else false

/-- The command is legal in mode `m` (R564). -/
def State.legalIn (s : State) (c : Command) (m : Nat) : Bool :=
  match cmdRow c.opcode.toNat with
  | none => false
  | some r => r.legal.contains m && (decide (c.opcode ≠ 0x12) || s.modeLegal c m)

end Sys2Proof.Machine
end

