-- ==== Sys2Proof/Machine/TicketOps.lean ====
section
/-! DEFINITION. What the platform host's commands do (13_platform_endpoint.md R505 to R512; 15_startup_modes.md R566 to R573, R576 to
R578; 08_global_directory.md R302; 09_trail_fabric.md R343, R348; 18_trip_log.md R635). The manager judges a command of the image; a
command for packages is judged by each of them, then carried out by each (log entry 24). -/
namespace Sys2Proof.Machine
open Sys2Proof

/-! ## Drains (R571 to R573) -/

/-- Every L2 and L3 that holds lines is flushed (R182). -/
def State.flushDies (s : State) : List Nat → State
  | [] => s
  | d :: l => (s.disableL3 d).flushDies l
def State.flushCores (s : State) : List Nat → State
  | [] => s
  | c :: l => (if s.coreExists c then s.disableL2 c else s).flushCores l
def State.flushAll (s : State) : State := (s.flushCores (s.cores.map (fun p => p.1))).flushDies s.liveDies

/-- No L2 and no L3 holds a line, and every writeback is acknowledged. -/
def State.flushed (s : State) : Bool :=
  s.cores.all (fun p => p.2.l2.isEmpty && p.2.eb.isEmpty) && s.dies.all (fun p => p.2.l3.isEmpty && p.2.wbs.isEmpty)

/-- The package enters DRAIN; its flush begins at once, but on a manager with other members it waits for theirs (R573). -/
def State.beginDrain (s : State) (c : Command) (leaving now : Bool) : State :=
  let s := s.enterMode modeDrain (if leaving then 16 else 15)
  let s := { s with drain := some { cmd := c, leaving := leaving, flushing := now } }
  if now then s.flushAll else s

/-- Each entry of the directory is recalled as an evicted one, while the recall buffers have room (R296, R572 step 3). -/
def State.recallEntries (s : State) : List (Nat × DirEntry) → State
  | [] => s
  | (loc, e) :: l =>
    let port := loc / 2 ^ 24
    let k := loc % 2 ^ 24 - 1
    match s.clearWay port (k / 9) (k % 9) with
    | none => s
    | some s =>
      let y := s.layoutOf e
      let a := fieldLine s.pkgNum (y.keyOf port (k / 9) e.quot) y.span 0
      (s.settle (s.chanOf (lineBase a)) a).recallEntries l

/-- The state conditions under which this worker may leave the image (R571). -/
def State.mayLeave (s : State) : Bool :=
  s.pot.all (fun p => decide (potState p.2 ≠ potOwned)) &&
  s.regs.all (fun p => !(decide (regRlmBind0 0 ≤ p.1 ∧ p.1 < regRlmBind0 0 + 480 * 16) && decide (p.1 % 16 = 0) && bit p.2 16)) &&
  s.ctxs.all (fun p => !decide (1 ≤ bits p.2.w6 2 0 ∧ bits p.2.w6 2 0 ≤ 3)) &&
  s.regs.all (fun p => !(decide (0xc00000 ≤ p.1 ∧ p.1 < 0xcc0000) && decide (0x300 ≤ p.1 % 0x10000 ∧ p.1 % 0x10000 < 0x500) && bit p.2 32))

/-- The image without worker `p` keeps to R337. -/
def State.topologyWithout (s : State) (p : Nat) : Bool :=
  let ms := s.imageMembers.filter (fun m => s.isMember m.2 && decide (m.2 ≠ p))
  decide (topologyFault (s.joinEdges ms) (ms.map (·.2)) = 0)

/-- This package has been removed from the image (R572 step 4): its links to members are isolated, and it takes 0 as its number. -/
def State.leftImage (s : State) : State :=
  let s := s.setLinkMembers [] s.upOctets
  let s := (((s.setReg regTrlImage 0).setFld regRlmPotbase 51 47 0).setFld regClkStatus 3 1 0).setFld regGlbMode 7 4 0
  { s with tops := [], image := { s.image with cutAt := none, releaseAt := none, cutReported := false } }

/-! ## Grants (R511, R512) -/

def State.freeGrant (s : State) : Option Nat := (upTo 16).find? (fun k => decide (s.fld (regTktGrant0 k) 8 8 = 0))

def State.grantRecord (s : State) (origin : BitVec 16) (k installed : Nat) : State :=
  s.emitOrigin origin 0x1007 0 [k, s.fld (regTktGrant0 k) 4 0, bits (s.reg (regTktGrant1 k)) 31 0, installed]

/-- An expert grant is installed in the lowest free entry. -/
def State.installGrant (s : State) (c : Command) : State :=
  match s.freeGrant with
  | none => s
  | some k =>
    let s := (s.setReg (regTktGrant0 k) (BitVec.ofNat 64 (256 + bits (cmdWord c 0) 36 32))).setReg (regTktGrant1 k) (cmdWord c 1)
    s.grantRecord s.hostOrigin k 1

/-- The live grants of a list are freed. -/
def State.freeGrants (s : State) (origin : BitVec 16) : List Nat → State
  | [] => s
  | k :: l =>
    let s := if s.fld (regTktGrant0 k) 8 8 = 1 then
        ((s.grantRecord origin k 0).setReg (regTktGrant0 k) 0).setReg (regTktGrant1 k) 0
      else s
    s.freeGrants origin l

/-- Each of a list of grants has expired: 2006h, and the entry is freed (R512). -/
def State.expireGrants (s : State) : List Nat → State
  | [] => s
  | k :: l =>
    let s := s.emit 12 82 0x2006 0 [k, s.fld (regTktGrant0 k) 4 0, bits (s.reg (regTktGrant1 k)) 31 0]
    (s.freeGrants s.selfOrigin [k]).expireGrants l

/-- R512: at the first clause at or after EXPIRY. -/
def execGrantExpired (s : State) : Host.Outcome State Fault Refusal :=
  .next (s.expireGrants ((upTo 16).filter (fun k => decide (s.fld (regTktGrant0 k) 8 8 = 1) &&
    decide ((s.reg (regTktGrant1 k)).toNat ≤ s.clause.toNat))))

/-! ## Owner keys (R510) -/

/-- Four parameter words as a key, the first the least significant. -/
def cmdKey (c : Command) (i : Nat) : BitVec 256 :=
  BitVec.ofNat 256 ((cmdWord c i).toNat + (cmdWord c (i + 1)).toNat * 2 ^ 64 + (cmdWord c (i + 2)).toNat * 2 ^ 128 + (cmdWord c (i + 3)).toNat * 2 ^ 192)

/-- An owner key slot changes: its record, the key record, the mirror (R352, R501, R636). -/
def State.setSlot (s : State) (k : Nat) (active : Bool) (key : BitVec 256) : State :=
  let old := s.fld (regTktSlot0 k) 0 0
  let s : State := { (s.setFld (regTktSlot0 k) 0 0 (b2n active)) with ownerKeys := if active then Tbl.set s.ownerKeys k key else Tbl.erase s.ownerKeys k }
  let s := s.emitOrigin s.hostOrigin 0x1004 0 [k, old, b2n active, bits (s.reg (regTktSlot1 k)) 31 0]
  let s := s.saveKeys
  if s.joined ∧ s.fld regTrlImage 22 22 = 1 then s.mirrorSlots (s.fld regTrlImage 20 16) [k] else s

/-! ## A package's part of a command -/

/-- The members that a command for packages names: all of them, one, or those of its mask. -/
def State.cmdMembers (s : State) (c : Command) : List Nat :=
  let op := c.opcode.toNat
  if op = 0x18 ∨ op = 0x19 then
    (upTo 32).filter (fun p => (cmdWord c 0).getLsbD p && s.isTarget p)
  else if c.target = 0xff then s.pkgNum :: s.otherMembers else [c.target.toNat]

/-- A RESHAPE may start (R302): no reshape runs, and the command names populated ports, not fenced, and a span. -/
def State.reshapeOk (s : State) (c : Command) : Bool :=
  let m := bits (cmdWord c 0) 7 0
  !s.reshaping && decide (m ≠ 0) && decide (bits (cmdWord c 0) 9 8 ≠ 3)
    && (portList m).all (fun p => decide (s.fld (regDirStatus p) 1 1 = 1) && decide (s.fld (regDirStatus p) 2 2 = 0))

/-- The content of an FW_UPDATE passes its check (R578). -/
def State.fwContentOk (s : State) (c : Command) : Bool :=
  match bits (cmdWord c 0) 1 0 with
  | 0 => match fwCheck s.fuses.fwKey s.fuses.svnMin c.ext with
    | .inr _ => true
    | .inl _ => false
  | 1 => decide (recordFault c.ext = none)
  | _ => true

/-- The status of this package's checks: OK, STATE or BAD_FIELD. `named`: the command names this package, and its mode judges. -/
def State.partStatus (s : State) (c : Command) (named : Bool) : Nat :=
  if named && !s.legalIn c s.ownJudge then stState
  else match c.opcode.toNat with
    | 0x0012 => if s.mayLeave then stOk else stState
    | 0x0014 => if s.reshapeOk c then stOk else stState
    | 0x0017 =>
      if !s.fwContentOk c then stBadField
      else if s.flashJob.isSome then stState
      else if decide (bits (cmdWord c 0) 1 0 = 2) && decide (s.fuses.svnLeft = 0) && decide (s.fuses.svnMin ≠ s.fld regGlbBoot 31 24) then stState
      else stOk
    | 0x0018 => if s.freeGrant.isSome then stOk else stState
    | 0x0020 => if (s.commandSealCheck c).isNone then stOk else stState
    | 0x0022 => if (s.commandSealCheck c).isNone then stOk else stState
    | _ => stOk

/-- The record of a check that this package refuses (R467, R503). -/
def State.partRecord (s : State) (c : Command) (st : Nat) : State :=
  let ids := [c.slot.toNat, c.opcode.toNat]
  if st = stOk then s
  else if st = stBadField then s.emit 12 82 0x2004 0 (ids ++ [c.cmdid.toNat, 5])
  else
    let s := match c.opcode.toNat, s.commandSealCheck c with
      | 0x0020, some f => s.sealFailed c f
      | 0x0022, some f => s.sealFailed c f
      | _, _ => s
    s.emit 12 82 0x2003 0 (ids ++ [bits c.counter 31 0, bits (s.reg regGlbMode) 31 0])

/-- A job of several members loses one of them, its results added. -/
def MemberJob.answered (j : MemberJob) (p status r0 r1 : Nat) : MemberJob :=
  { j with waiting := j.waiting.filter (· ≠ p), status := if j.status = stOk then status else j.status, r0 := j.r0 + r0, r1 := j.r1 + r1 }

/-- The manager notes that member `p` has carried out its part; the last one completes the command. That of a worker's drain goes on
with its removal (`leaveTick`). -/
def State.partEnded (s : State) (c : Command) (p status r0 r1 : Nat) : State :=
  match s.memberJobs.find? (fun j => decide (j.cmd = c)) with
  | none => s
  | some j =>
    let j' := j.answered p status r0 r1
    let rest := s.memberJobs.erase j
    if j'.waiting.isEmpty && decide (c.opcode ≠ 0x12 ∨ c.target = 0xff) then
      ({ s with memberJobs := rest }).complete c j'.status (BitVec.ofNat 64 j'.r0) (BitVec.ofNat 64 j'.r1)
    else { s with memberJobs := rest ++ [j'] }

/-- This package has carried out its part. -/
def State.partDone (s : State) (c : Command) (status r0 r1 : Nat) : State :=
  if s.servesHost then s.partEnded c s.pkgNum status r0 r1
  else s.complete c status (BitVec.ofNat 64 r0) (BitVec.ofNat 64 r1)

/-- RESHAPE on this package (R302, R610): ports that it removes drain, and the package enters DEGRADED. -/
def State.reshapePart (s : State) (c : Command) : State :=
  let m := bits (cmdWord c 0) 7 0
  let span := bits (cmdWord c 0) 9 8
  let gone := (portList s.oldLayout.ports).filter (fun p => !m.testBit p)
  let s := gone.foldl (fun (s : State) p => s.setFld (regDirStatus p) 3 3 1) s
  let s := if gone.isEmpty then s else s.degrade
  { (s.startReshape (if span = s.oldLayout.span then 1 else 3) m span) with reshapeCmd := some c }

/-- MEMINIT on this package (R577). How long it lasts is not the model's (log entry 1). -/
def State.meminitPart (s : State) (c : Command) : State :=
  let s := s.initMemory
  let gib := (s.reg regDmcTop).toNat / 2 ^ 30
  let s := s.spendFree.emit 12 81 0x0007 0 [gib, bits s.freeWord 31 0]
  s.partDone c stOk 0 0

/-- REG_WRITE on this package (R509, R674). -/
def State.regWritePart (s : State) (c : Command) : State :=
  let off := bits (cmdWord c 0) 25 0
  let m := cmdWord c 2
  (s.prsWrite .ticket off 8 ((s.readReg off &&& ~~~m) ||| (cmdWord c 1 &&& m))).partDone c stOk 0 0

/-- TLOG_CLEAR on this package (R635). -/
def State.tlogPart (s : State) (c : Command) : State :=
  let head := (s.reg regTlgHead).toNat
  let tail := (s.reg regTlgTail).toNat
  let p0 := cmdWord c 0
  let want := if bit p0 63 ∨ head < bits p0 47 0 then head else bits p0 47 0
  let new := if want < tail then tail else want
  let s := s.setReg regTlgTail (BitVec.ofNat 64 new)
  (s.emit 12 82 0x00E3 0 [tail, new, new - tail]).partDone c stOk 0 0

/-- What this package does of a command whose checks have passed. A part that lasts ends later. -/
def State.performPart (s : State) (c : Command) : State :=
  match c.opcode.toNat with
  | 0x0012 => if c.target = 0xff then s.beginDrain c false (!s.servesHost || s.otherMembers.isEmpty) else s.beginDrain c true true
  | 0x0014 => s.reshapePart c
  | 0x0015 => s.meminitPart c
  | 0x0016 => s.regWritePart c
  | 0x0017 =>
    if bits (cmdWord c 0) 1 0 = 2 ∧ s.fuses.svnMin = s.fld regGlbBoot 31 24 then s.partDone c stOk 0 0
    else { s with flashJob := some c }
  | 0x0018 => (s.installGrant c).partDone c stOk 0 0
  | 0x0019 =>
    let p0 := cmdWord c 0
    (s.freeGrants s.hostOrigin (if bit p0 40 then upTo 16 else [bits p0 35 32])).partDone c stOk 0 0
  | 0x001a => s.tlogPart c
  | _ => s.partDone c stOk 0 0

/-! ## The manager's side of a command for packages -/

/-- Every named member carries out its part. A long command first has its operation number (R508). -/
def State.startParts (s : State) (c : Command) : State :=
  let ps := s.cmdMembers c
  let long := match cmdRow c.opcode.toNat with
    | some r => r.long
    | none => false
  let (s, c) := if long then s.startLong c else (s, c)
  let c := { c with phase := 2 }
  if ps.isEmpty then s.ok c
  else
    let job : MemberJob := { cmd := c, waiting := ps, started := s.clause }
    let s := ({ s with memberJobs := s.memberJobs ++ [job] }).passAll c (ps.filter (· ≠ s.pkgNum))
    if ps.contains s.pkgNum then s.performPart c else s

/-- The members named run their checks; this package's come first. `named`: the command names one package, whose mode judges. -/
def State.askParts (s : State) (c : Command) (named : Bool) : State :=
  let ps := s.cmdMembers c
  let others := ps.filter (· ≠ s.pkgNum)
  let st := if ps.contains s.pkgNum then s.partStatus c named else stOk
  if st ≠ stOk then (s.partRecord c st).complete c st 0 0
  else if others.isEmpty then s.startParts c
  else s.askMembers c 1 others

/-- The answers to checks are all in: the parts begin, or the command is refused. Each refusing member has written its record. -/
def State.checksEnded (s : State) (j : MemberJob) : State :=
  let c := { j.cmd with phase := 0 }
  match c.opcode.toNat with
  | 0x0020 => s.sealAnswered c j.status
  | 0x0022 => s.sealAnswered c j.status
  | 0x0002 => s.complete c stOk (BitVec.ofNat 64 j.r0) (BitVec.ofNat 64 j.r1)
  | _ => if j.status = stOk then s.startParts c else s.complete c j.status 0 0

/-- A member answers its checks, or has carried out its part (R506). -/
def State.memberAnswer (s : State) (p : Nat) (c : Command) (status : Nat) (r0 r1 : Word) : State :=
  if c.phase ≠ 1 then
    (if (s.memberJobs.find? (fun j => decide (j.cmd = c))).isSome then s.partEnded c p status r0.toNat r1.toNat
     else s.complete { c with phase := 0 } status r0 r1)
  else match s.memberJobs.find? (fun j => decide (j.cmd = c)) with
    | none => s
    | some j =>
      let j' := j.answered p status r0.toNat r1.toNat
      let s := { s with memberJobs := s.memberJobs.erase j }
      if j'.waiting.isEmpty then (s.checksEnded j').realmNext (s.realms.queue.length + 1)
      else { s with memberJobs := s.memberJobs ++ [j'] }

/-! ## PROGRESS (R508) -/

/-- Done and total of an operation on this package. -/
def State.ownProgress (s : State) (c : Command) : Nat × Nat :=
  let top := (s.reg regDmcTop).toNat
  match c.opcode.toNat with
  | 0x0014 => (s.fld regDirCursor 31 0, s.fld regDirCursor 63 32)
  | 0x0015 => (top, top)
  | 0x0017 => if s.flashJob.isSome then (s.freeWord.toNat % (c.ext.length + 1), c.ext.length) else (c.ext.length, c.ext.length)
  | 0x0024 => match s.realms.sweeps.find? (fun x => decide (x.realm = cmdRealm c)) with
    | some x => (x.total - x.pages.length, x.total)
    | none => (0, 0)
  | _ => (0, 1)

/-- The members whose counts an operation's progress sums. -/
def State.progressMembers (s : State) (c : Command) : List Nat :=
  match c.opcode.toNat with
  | 0x0014 => s.cmdMembers c
  | 0x0015 => s.cmdMembers c
  | 0x0017 => s.cmdMembers c
  | 0x0024 => s.pkgNum :: s.otherMembers
  | _ => []

/-- PROGRESS on the manager. The total of an operation that has ended is that of its table, where it still stands, else a free value
(log entry 1). -/
def State.runProgress (s : State) (c : Command) : State :=
  match Tbl.find s.longOps (cmdWord c 0).toNat with
  | none => s.refuseField c stBadField
  | some (x, ended) =>
    let op := x.opcode.toNat
    if ended then
      let n : Word := if op = 0x10 then 8 else if op = 0x11 ∨ op = 0x12 then 1
        else if op = 0x17 then BitVec.ofNat 64 x.ext.length else s.freeWord
      s.spendFree.complete c stOk n n
    else if op = 0x10 then s.complete c stOk (BitVec.ofNat 64 ((s.image.join.map (·.step)).getD 8)) 8
    else if op = 0x11 ∨ op = 0x12 then s.complete c stOk 0 1
    else
      let ps := s.progressMembers x
      let (d, t) := if ps.contains s.pkgNum then s.ownProgress x else (0, 0)
      let others := ps.filter (· ≠ s.pkgNum)
      let s := s.spendFree
      if others.isEmpty then s.complete c stOk (BitVec.ofNat 64 d) (BitVec.ofNat 64 t)
      else
        let c := { c with phase := 1, ps := [x.opcode.zeroExtend 64, cmdWord x 0], ext := x.ext }
        let j : MemberJob := { cmd := c, waiting := others, r0 := d, r1 := t, started := s.clause }
        ({ s with memberJobs := s.memberJobs ++ [j] }).passAll c others

/-! ## Commands of the image (R343, R348, R510, R566) -/

/-- A QUIESCE that a MODE command began is complete, and no release is named. -/
def State.quiesced (s : State) : Bool := match s.image.quiesce with
  | some z => z.complete && decide (z.purpose = .command) && s.image.releaseAt.isNone
  | none => false

/-- MODE with TARGET FFh, its target legal in the mode judged. -/
def State.runMode (s : State) (c : Command) : State :=
  match bits (cmdWord c 0) 3 0 with
  | 8 => if !s.canQuiesce then s.refuseState c
    else
      let (s, c) := s.startLong c
      s.beginQuiesce .command (some c)
  | 5 => if s.quiesced then s.beginJoin c s.regime 1 [] true else s.refuseState c
  | 10 =>
    if !s.joined then
      let s := s.flood { type := .event, hdr := { src := agentId s.pkgNum 12 96, dst := agentId s.pkgNum 12 96, stamp := s.clause },
                         body := .command { c with phase := 2 } }
      let (s, c) := s.startLong c
      (s.ok c).beginDrain c false true
    else if s.mode = modeQuiesce ∧ !s.quiesced then s.refuseState c
    else
      let (s, c) := s.startLong c
      let c := { c with phase := 2 }
      let s := s.setFld regGlbMode 7 4 modeDrain
      let others := s.otherMembers
      let s := s.sendAll .event (.report (.imageMode (BitVec.ofNat 4 modeDrain))) others
      if others.isEmpty then (s.ok c).beginDrain c false true
      else
        let job : MemberJob := { cmd := c, waiting := others, started := s.clause }
        (({ s with memberJobs := s.memberJobs ++ [job] }).passAll c others).beginDrain c false false
  | _ => if !s.quiesced then s.refuseState c
    else
      let (s, c) := s.startLong c
      s.beginRelease (some c)

/-- SET_REGIME (R347, R348). -/
def State.runRegime (s : State) (c : Command) : State :=
  let v := bits (cmdWord c 0) 1 0
  if v = s.regime then s.ok c
  else if !s.canQuiesce then s.refuseState c
  else
    let (s, c) := s.startLong c
    s.beginQuiesce (.regime v) (some c)

/-- OWNER_CLAIM (R510). -/
def State.runClaim (s : State) (c : Command) : State :=
  if (upTo 8).any (fun k => decide (s.fld (regTktSlot0 k) 0 0 = 1)) then s.refuseState c
  else ((((s.setReg (regTktSlot1 0) 0).setSlot 0 true (cmdKey c 0)).emit 12 82 0x2007 0 []).ok c)

/-- RESET: its effect follows its final completion (R576). -/
def State.runReset (s : State) (c : Command) : State := { (s.ok c) with resetDue := some c }

/-- The packages that a RESET names. -/
def State.resetMembers (s : State) (c : Command) : List Nat :=
  if c.target = 0xff ∨ bit (cmdWord c 0) 0 then s.pkgNum :: s.otherMembers else [c.target.toNat]

/-- Code 000Ah, then transition 19. -/
def State.resetPart (s : State) (c : Command) : State :=
  (s.emit 12 81 0x000A 0 [bits (cmdWord c 0) 0 0, s.pkgNum]).packageReset

/-- The first clause after a RESET's final completion has been written: the members named are told, and this package resets when it
is one of them. -/
def State.resetTick (s : State) : State :=
  match s.resetDue with
  | none => s
  | some c =>
    if s.completions.any (fun x => decide (x.cmd.cmdid = c.cmdid ∧ x.cmd.index = c.index ∧ x.cmd.ring = c.ring)) then s
    else
      let ps := s.resetMembers c
      let s := { s with resetDue := none }
      let x := { c with phase := 2 }
      let s := if s.joined then s.passAll x (ps.filter (· ≠ s.pkgNum))
        else if ps = [s.pkgNum] ∧ c.target ≠ 0xff ∧ !bit (cmdWord c 0) 0 then s
        else s.flood { type := .event, hdr := { src := agentId s.pkgNum 12 96, dst := agentId s.pkgNum 12 96, stamp := s.clause },
                       body := .command x }
      if ps.contains s.pkgNum then s.resetPart c else s

/-- A command in a mode that allows it. -/
def State.runCommand (s : State) (c : Command) (named : Bool) : State :=
  let p0 := cmdWord c 0
  match c.opcode.toNat with
  | 0x0001 => s.ok c
  | 0x0002 => s.runProgress c
  | 0x0003 => s.runClaim c
  | 0x0010 => s.beginJoin c (bits p0 1 0) (if bits p0 13 8 = 0 then 1 else bits p0 13 8) (joinTable c.ext 32) false
  | 0x0011 => s.runRegime c
  | 0x0012 => if c.target = 0xff then s.runMode c
    else if c.target.toNat = s.pkgNum ∨ !s.topologyWithout c.target.toNat ∨ !s.canQuiesce then s.refuseState c
    else s.askParts c named
  | 0x0013 => s.runReset c
  | 0x0015 =>
    if c.target = 0xff ∧ !s.joined then
      (s.flood { type := .event, hdr := { src := agentId s.pkgNum 12 96, dst := agentId s.pkgNum 12 96, stamp := s.clause },
                 body := .command { c with phase := 2 } }).startParts c
    else s.askParts c named
  | 0x0025 =>
    let p := bits (cmdWord c 1) 51 47
    if p ≠ s.pkgNum ∧ s.isMember p then s.passCommand { c with phase := 2 } p else s.realmCommand (.ticket c)
  | 0x0030 => (s.setSlot (bits p0 2 0) true (cmdKey c 1)).ok c
  | 0x0031 => (s.setSlot (bits p0 2 0) false 0).ok c
  | op => if 0x20 ≤ op ∧ op ≤ 0x24 then s.realmCommand (.ticket c) else s.askParts c named

/-- Check 6 of R503, and the command: the manager judges one for the image or for itself; a worker judges its own (R506). -/
def State.resolveCommand (s : State) (c : Command) : State :=
  let any := decide (c.target = 0xff)
  let op := c.opcode.toNat
  if !any ∧ c.target.toNat ≠ s.pkgNum ∧ op ≠ 0x13 ∧ op ≠ 0x01 ∧ op ≠ 0x02 then s.runCommand c true
  else if s.legalIn c (if any then s.imageJudge else s.ownJudge) then s.runCommand c (!any)
  else s.refuseState c

/-! ## A worker's side -/

/-- A command that the manager has passed on: its checks, or its effect. -/
def State.runPassed (s : State) (c : Command) : State :=
  if c.phase = 1 then
    if c.opcode = 0x0002 then
      let x : Command := { opcode := (cmdWord c 0).setWidth 16, ps := [cmdWord c 1], ext := c.ext }
      let (d, t) := s.ownProgress x
      s.spendFree.complete c stOk (BitVec.ofNat 64 d) (BitVec.ofNat 64 t)
    else
      let st := s.partStatus c (decide (c.target ≠ 0xff))
      (s.partRecord c st).complete c st 0 0
  else match c.opcode.toNat with
    | 0x0013 => s.resetPart c
    | 0x0025 => s.beginPages (.ticket c) false (cmdRealm c) (bits (cmdWord c 1) 51 12) (cmdWord c 2).toNat
    | _ => if !s.joined ∧ s.mode ≠ modeSealed then s else s.performPart c

/-! ## What ends later -/

/-- A RESHAPE's end (R302, R304). -/
def State.reshapeTick (s : State) : State :=
  match s.reshapeCmd with
  | some c => if s.reshaping then s else ({ s with reshapeCmd := none }).partDone c stOk 0 0
  | none => s

/-- A drained worker is removed once the image can be brought to QUIESCE (R572 step 4). -/
def State.leaveTick (s : State) : State :=
  match s.memberJobs.find? (fun j => decide (j.cmd.opcode = 0x12 ∧ j.cmd.target ≠ 0xff ∧ j.cmd.phase = 2) && j.waiting.isEmpty) with
  | some j =>
    if s.canQuiesce then
      ({ s with memberJobs := s.memberJobs.erase j }).beginQuiesce (.leave j.cmd.target.toNat) (some j.cmd)
    else s
  | none => s

/-- A drain goes on: a leaving worker whose flush is complete refuses requests and recalls every copy, then reports; the manager's own
flush begins once the other members have drained (R572, R573). -/
def State.drainTick (s : State) : State :=
  match s.drain with
  | none => s
  | some d =>
    if s.mode ≠ modeDrain then s
    else if !d.flushing then
      if s.memberJobs.any (fun j => decide (j.cmd = d.cmd)) then s
      else ({ s with drain := some { d with flushing := true } }).flushAll
    else if d.leaving && !d.refusing then
      if s.flushed then { s with drain := some { d with refusing := true } } else s
    else if d.leaving && !d.reported then
      let s := s.recallEntries s.dirMem
      if s.dirMem.isEmpty && s.homes.all (fun h => h.2.quiet) then
        ({ s with drain := some { d with reported := true } }).partDone d.cmd stOk 0 0
      else s
    else s

/-- R573, transition 17: the flush is complete, every rank enters self-refresh, and the package reports and powers down. -/
def execDrainDone (s : State) : Host.Outcome State Fault Refusal :=
  .next (match s.drain with
  | none => s
  | some d =>
    if s.mode ≠ modeDrain ∨ !d.flushing ∨ !s.flushed ∨ (d.leaving ∧ s.joined) ∨ (s.servesHost ∧ !s.completions.isEmpty) then s
    else
      let chans := (upTo 16).filter (fun n => decide (s.fld (regDmcStatus n) 0 0 = 1) && decide (s.fld (regDmcStatus n) 1 1 = 0))
      let s := { s with selfRefresh := chans }
      let done : List Msg := if s.joined && !s.servesHost then
          [{ type := .event, hdr := { src := agentId s.pkgNum 12 96, dst := agentId s.managerNum 12 96, stamp := s.clause },
             body := .report (.done d.cmd 0 0 0) }]
        else []
      { (s.toStandby 17 true) with sent := done })

/-- R578: the write ends. -/
def execFwUpdateDone (s : State) : Host.Outcome State Fault Refusal :=
  .next (match s.flashJob with
  | none => s
  | some c =>
    let s := { s with flashJob := none }
    match bits (cmdWord c 0) 1 0 with
    | 0 =>
      let slot := if s.fld regGlbBoot 1 0 = 0 then 1 else 0
      let ver := leNat ((c.ext.drop 8).take 4)
      let f : Flash := if slot = 0 then { s.flash with slotA := some c.ext } else { s.flash with slotB := some c.ext }
      let s := { s with flash := f }
      (s.emit 12 81 0x0009 0 [0, slot, ver]).partDone c stOk 0 0
    | 1 =>
      let f : Flash := { s.flash with board := c.ext }
      let s := { s with flash := f }
      (s.emit 12 81 0x0009 0 [1, 0, 0]).partDone c stOk 0 0
    | _ =>
      let n := s.fld regGlbBoot 31 24
      let f : Fuses := { s.fuses with svnMin := n, svnLeft := s.fuses.svnLeft - 1 }
      let s := { s with fuses := f }
      let s := (s.setFld regGlbBoot 23 16 n).setFld regGlbBoot 10 5 s.fuses.svnLeft
      (s.emit 12 81 0x0009 0 [2, 0, n]).partDone c stOk 0 0)

end Sys2Proof.Machine
end

