-- ==== Sys2Proof/Machine/Resolve.lean ====
section
/-! DEFINITION. The resolution of a clause, and what EVENT brings (02_clause_time.md R27 to R31, R38 to R42; 17_errors.md R609, R611,
R614; 18_trip_log.md R626, R627). -/
namespace Sys2Proof.Machine
open Sys2Proof

/-! ## The order of a clause's events (R27, R28, R42) -/

/-- Whether an event stands before or beside another of its clause: by rank, then package, die and source. -/
def Event.before (a b : Event) : Bool :=
  if a.rank ≠ b.rank then decide (a.rank < b.rank) else decide (a.origin.toNat ≤ b.origin.toNat)

/-- Puts an event after those that stand before or beside it. -/
def insertEvent (e : Event) : List Event → List Event
  | [] => [e]
  | x :: l => if x.before e then x :: insertEvent e l else e :: x :: l

def sortEvents (l : List Event) : List Event := l.foldl (fun acc e => insertEvent e acc) []

/-- H (R52). -/
def State.horizon (s : State) : Nat := s.fld regClkEventctl 7 0

/-- The earliest clause among the events. -/
def State.firstClause (s : State) : Option Word :=
  s.events.foldl (fun m e => match m with
    | some c => if e.clause.toNat < c.toNat then some e.clause else some c
    | none => some e.clause) none

/-! ## Acting on an event -/

/-- The manager halts the image, once (R609). -/
def State.haltAll (s : State) (code pkg : Nat) (stamp : Word) : State :=
  if s.imageMode = modeHalt then s
  else
    let s := s.emit 12 81 0x00F2 0 [code, pkg, bits stamp 31 0]
    let s := s.floodMgmt .haltImage (.value stamp)
    s.haltHeld.setFld regGlbMode 7 4 modeHalt

/-- The host has a record of class HALT or UE-P to read (R514). -/
def State.hostRecord (s : State) : State := s.modEpf (fun e => { e with hostRec := true })

/-- The manager, or a package that serves the host before its JOIN, acts on an event; the second component says that no later event of
the clause is acted upon (R30). -/
def State.actOn (s : State) (e : Event) : State × Bool :=
  let pkg := agentPkg e.origin
  match e.kind with
  | .haltClass code => ((s.noticeVector.hostRecord).haltAll code.toNat pkg e.stamp, true)
  | .ueP code => ((s.noticeVector.hostRecord).haltAll code.toNat pkg e.stamp, true)
  | .trip => (s.haltAll 0x6002 pkg e.stamp, false)
  | .ueR r code =>
    let s := s.noticeVector
    (if s.imageMode = modeHalt then s else s.resolveUeR r.toNat code.toNat pkg, false)
  | .command c => (s.resolveCommand c, decide (c.opcode = 0x13) && s.legalIn c s.imageJudge)
  | .record => (s, false)
  | .degrade => (s.degradeNow, false)
  | .quiesced q => (match s.image.quiesce with
      | some z => if z.cut = q ∧ !z.complete ∧ z.waiting = [] then s.cutComplete z else s
      | none => s, false)
  | .takeover => (s.actTakeover, false)
  | .interrupt t cls realm atS via => (s.actInterrupt t cls realm atS via, false)
  | .timer t h => (s.actTimer t h, false)
  | .doorbell n c => (s.detect n c, false)
  | .wake t a => (s.wakeThread t a 0, false)

/-- A kind of event that concerns the package which samples it, and which that package resolves (R40). -/
def ownKind : EventKind → Bool
  | .degrade => true
  | .quiesced _ => true
  | .takeover => true
  | .interrupt _ _ _ _ _ => true
  | .timer _ _ => true
  | .doorbell _ _ => true
  | .wake _ _ => true
  | .haltClass _ => false
  | .ueP _ => false
  | .trip => false
  | .ueR _ _ => false
  | .command _ => false
  | .record => false

/-- The events of one clause, one at a time (R29, R30). A package that resolves for no image and serves no host acts on its own events
and writes the records of the others alone (R351). -/
def State.resolveAll (s : State) (dead : Bool) : List Event → State
  | [] => s
  | e :: l =>
    let s := s.enqueueAll e e.recs
    let (s, d) := if dead || !(s.isManager || s.servesHost || ownKind e.kind) then (s, dead) else s.actOn e
    s.resolveAll (dead || d) l

/-- R40: the earliest clause with events is resolved once the horizon has passed. -/
def State.resolveClause (s : State) : State :=
  match s.firstClause with
  | none => s
  | some c =>
    if s.clause.toNat < c.toNat + s.horizon then s
    else
      let es := s.events.filter (fun e => decide (e.clause = c))
      let s := { s with events := s.events.filter (fun e => decide (e.clause ≠ c)), unresolved := c + 1 }
      s.resolveAll false (sortEvents es)

/-- Every clause up to `c` whose horizon has passed is resolved, the earliest first. -/
def State.resolveUpTo (s : State) (c : Word) : Nat → State
  | 0 => s
  | k + 1 => match s.firstClause with
    | some f => if f.toNat ≤ c.toNat ∧ f.toNat + s.horizon ≤ s.clause.toNat then (s.resolveClause).resolveUpTo c k else s
    | none => s

/-- R27 to R31, R38, R40. -/
def execClauseResolution (s : State) : Host.Outcome State Fault Refusal := .next s.resolveClause

/-! ## EVENT (R40, R42, R627) -/

/-- The code that stands for an event's kind. -/
def kindCode : EventKind → Nat
  | .haltClass c => c.toNat
  | .ueP c => c.toNat
  | .trip => 0x6002
  | .ueR _ c => c.toNat
  | .command c => c.opcode.toNat
  | .record => 0
  | .degrade => 0
  | .quiesced _ => 0
  | .takeover => 0
  | .interrupt _ _ _ _ _ => 0
  | .timer _ _ => 0
  | .doorbell _ _ => 0
  | .wake _ _ => 0

/-- The earliest clause not yet resolved. -/
def State.openClause (s : State) : Nat :=
  let h := s.clause.toNat - s.horizon
  if h < s.unresolved.toNat then s.unresolved.toNat else h

/-- An event reaches the manager: a late one goes with the earliest clause not yet resolved, and 00C2h notes it, once for an error
whose record comes beside its event. -/
def State.takeEvent (s : State) (e : Event) (code : Nat) (note : Bool) : State :=
  if s.openClause ≤ e.stamp.toNat then { s with events := s.events ++ [e] }
  else
    let s := { s with events := s.events ++ [{ e with due := some (BitVec.ofNat 64 s.openClause) }] }
    if note then s.emit 12 87 0x00C2 0 [bits e.stamp 31 0, code, s.clause.toNat - e.stamp.toNat] else s

/-- A record of this code comes beside an event of the package that wrote it. -/
def besideEvent (code : Nat) : Bool :=
  decide (code / 4096 = 4) || decide (code / 4096 = 5) || decide (code = 0x0002) || decide (code = 0x7006) || decide (code = 0x6002)

/-- A worker has reported its alignment, at JOIN or at a realignment (R33, R47). -/
def State.alignmentReport (s : State) (p : Nat) (ok : Bool) : State :=
  match s.image.join with
  | some j => s.joinAligned j p ok
  | none => if ok then s.realignDone p else s

/-- What a member tells the manager. -/
def State.managerReport (s : State) (p : Nat) : Report → State
  | .event stamp rank origin kind =>
    if ownKind kind then s else s.takeEvent { stamp := stamp, rank := rank, origin := origin, kind := kind } (kindCode kind) true
  | .record r =>
    let code := r.code.toNat
    let r' : Rec := { r with realm := r.realm ||| 0x8000 }
    s.takeEvent { stamp := r.clause, rank := codeRank code, origin := r.origin, kind := .record, recs := [r'] } code (!besideEvent code)
  | .link n _ fenced => s.linkReport p n fenced
  | .aligned ok _ => s.alignmentReport p ok
  | .realign off => (s.realignImage p off).realignTick
  | .done c st r0 r1 => s.memberAnswer p c st.toNat r0 r1
  | .realmDone r sweep => s.memberFinished p r.toNat sweep
  | .realmWord _ _ _ => s
  | .rotate _ _ => s
  | .imageMode _ => s
  | .standbyDropped => s
  | .memberLeft _ => s

/-- What the manager tells a member. -/
def State.memberNotice (s : State) : Report → State
  | .realmWord off w o => s.takeRealmWord off w o
  | .rotate r true => s.endRotation r.toNat
  | .rotate r false => s.beginSweep r.toNat
  | .imageMode m => s.setFld regGlbMode 7 4 m.toNat
  | .standbyDropped => s.dropStandby
  | .memberLeft p => if p.toNat = s.pkgNum then s.leftImage else s.removeMember p.toNat
  | .event _ _ _ _ => s
  | .record _ => s
  | .link _ _ _ => s
  | .aligned _ _ => s
  | .realign _ => s
  | .done _ _ _ _ => s
  | .realmDone _ _ => s

/-- R40, R42, R627: a report reaches the manager, or a notice of the manager reaches a member (log entry 24). -/
def execEvent (src : Pkg) (r : Report) (e : MeshError) (s : State) : Host.Outcome State Fault Refusal :=
  let s := match s.sent.find? (fun m => decide (m.type = .event) && decide (m.body = .report r) && decide (agentPkg m.hdr.src = src.toNat)) with
    | some m => s.delivered m
    | none => s
  let (s, there) := s.meshError e
  .next (if !there then s
    else if s.isManager then s.managerReport src.toNat r
    else if s.joined && decide (src.toNat = s.managerNum) then s.memberNotice r
    else s)

end Sys2Proof.Machine
end

