-- ==== Sys2Proof/Machine/HostRows.lean ====
section
/-! DEFINITION. The rows of the platform host's catalogue (13_platform_endpoint.md R507): one meaning per command. -/
namespace Sys2Proof.Machine
open Sys2Proof

/-- A command of opcode `op`, with P0 [1:0] or P0 [3:0] equal to `sel` where given. One that the ticket engine has accepted waits for
its clause: it is resolved with that clause, in its rank, once the horizon has passed (R29, R40). Any other is judged and carried out
now: by the package that serves the host, or, passed on by the manager, by a member (log entry 35). -/
def hostCommand (c : Command) (op : Nat) (sel : Option (Nat × Nat)) (s : State) : State :=
  let selOk := match sel with
    | some (hi, v) => decide (bits (cmdWord c 0) hi 0 = v)
    | none => true
  if c.opcode.toNat ≠ op ∨ !selOk ∨ s.mode < modeSealed then s
  else match s.events.find? (fun e => decide (e.kind = .command c)) with
    | some e => s.resolveUpTo e.clause s.events.length
    | none =>
      let s := s.takeCommand c
      if s.servesHost then s.resolveCommand c else s.runPassed c

/-- R507. -/
def execNop (c : Command) (s : State) : Host.Outcome State Fault Refusal := .next (hostCommand c 0x01 none s)
/-- R508. -/
def execProgress (c : Command) (s : State) : Host.Outcome State Fault Refusal := .next (hostCommand c 0x02 none s)
/-- R510. -/
def execOwnerClaim (c : Command) (s : State) : Host.Outcome State Fault Refusal := .next (hostCommand c 0x03 none s)
/-- R343, R344. -/
def execJoin (c : Command) (s : State) : Host.Outcome State Fault Refusal := .next (hostCommand c 0x10 none s)
/-- R347, R348. -/
def execSetRegime (c : Command) (s : State) : Host.Outcome State Fault Refusal := .next (hostCommand c 0x11 none s)
/-- R566, R567. -/
def execModeQuiesce (c : Command) (s : State) : Host.Outcome State Fault Refusal := .next (hostCommand c 0x12 (some (3, 8)) s)
/-- R566, R570. -/
def execModeJoin (c : Command) (s : State) : Host.Outcome State Fault Refusal := .next (hostCommand c 0x12 (some (3, 5)) s)
/-- R566, R569. -/
def execModeRunI (c : Command) (s : State) : Host.Outcome State Fault Refusal := .next (hostCommand c 0x12 (some (3, 6)) s)
/-- R566, R569. -/
def execModeRunS (c : Command) (s : State) : Host.Outcome State Fault Refusal := .next (hostCommand c 0x12 (some (3, 7)) s)
/-- R566, R571 to R573. -/
def execModeDrain (c : Command) (s : State) : Host.Outcome State Fault Refusal := .next (hostCommand c 0x12 (some (3, 10)) s)
/-- R576. -/
def execReset (c : Command) (s : State) : Host.Outcome State Fault Refusal := .next (hostCommand c 0x13 none s)
/-- R302. -/
def execReshape (c : Command) (s : State) : Host.Outcome State Fault Refusal := .next (hostCommand c 0x14 none s)
/-- R577. -/
def execMeminit (c : Command) (s : State) : Host.Outcome State Fault Refusal := .next (hostCommand c 0x15 none s)
/-- R509. -/
def execRegWrite (c : Command) (s : State) : Host.Outcome State Fault Refusal := .next (hostCommand c 0x16 none s)
/-- R578. -/
def execFwUpdateFirmware (c : Command) (s : State) : Host.Outcome State Fault Refusal := .next (hostCommand c 0x17 (some (1, 0)) s)
/-- R578. -/
def execFwUpdateBoardRecord (c : Command) (s : State) : Host.Outcome State Fault Refusal := .next (hostCommand c 0x17 (some (1, 1)) s)
/-- R578. -/
def execFwUpdateFloor (c : Command) (s : State) : Host.Outcome State Fault Refusal := .next (hostCommand c 0x17 (some (1, 2)) s)
/-- R511. -/
def execExpertGrant (c : Command) (s : State) : Host.Outcome State Fault Refusal := .next (hostCommand c 0x18 none s)
/-- R512. -/
def execExpertRevoke (c : Command) (s : State) : Host.Outcome State Fault Refusal := .next (hostCommand c 0x19 none s)
/-- R635. -/
def execTlogClear (c : Command) (s : State) : Host.Outcome State Fault Refusal := .next (hostCommand c 0x1a none s)
/-- R447. -/
def execRealmCreate (c : Command) (s : State) : Host.Outcome State Fault Refusal := .next (hostCommand c 0x20 none s)
/-- R449. -/
def execRealmDestroy (c : Command) (s : State) : Host.Outcome State Fault Refusal := .next (hostCommand c 0x21 none s)
/-- R447, R467. -/
def execRealmSeal (c : Command) (s : State) : Host.Outcome State Fault Refusal := .next (hostCommand c 0x22 none s)
/-- R447. -/
def execRealmUnseal (c : Command) (s : State) : Host.Outcome State Fault Refusal := .next (hostCommand c 0x23 none s)
/-- R464. -/
def execKeyRotate (c : Command) (s : State) : Host.Outcome State Fault Refusal := .next (hostCommand c 0x24 none s)
/-- R457 to R459. -/
def execPageReclaim (c : Command) (s : State) : Host.Outcome State Fault Refusal := .next (hostCommand c 0x25 none s)
/-- R510. -/
def execOwnerKeySet (c : Command) (s : State) : Host.Outcome State Fault Refusal := .next (hostCommand c 0x30 none s)
/-- R510. -/
def execOwnerKeyClear (c : Command) (s : State) : Host.Outcome State Fault Refusal := .next (hostCommand c 0x31 none s)

end Sys2Proof.Machine
end

