-- ==== Sys2Proof/Machine/Flags.lean ====
section
/-! DEFINITION. The floating-point arithmetic of VFP and its flags (R79, R83, R107): IEEE 754-2019 binary32 and binary64,
exact values rounded once by c.fpcsr.RM, with default NaN handling. -/
namespace Sys2Proof.Machine
open Sys2Proof

/-! ## Sticky flags, as c.fpcsr [12:8] holds them: NV, DZ, OF, UF, NX from bit 0 -/

def flNV : Nat := 1
def flDZ : Nat := 2
def flOF : Nat := 4
def flUF : Nat := 8
def flNX : Nat := 16

/-- Sets sticky bits of c.fpcsr (R83). -/
def Thread.raiseFp (t : Thread) (fl : Nat) : Thread :=
  { t with fpcsr := t.fpcsr ||| BitVec.ofNat 64 ((fl % 32) * 256) }

/-- RM: 0 to nearest even, 1 toward zero, 2 toward +inf, 3 toward -inf (R107). -/
def Thread.rm (t : Thread) : Nat := bits t.fpcsr 1 0

/-! ## Formats -/

/-- A binary format: exponent bits and stored significand bits. -/
structure FpFormat where
  ebits : Nat
  mbits : Nat
  deriving DecidableEq, Repr

def fp32 : FpFormat := ⟨8, 23⟩
def fp64 : FpFormat := ⟨11, 52⟩

def FpFormat.width (f : FpFormat) : Nat := 1 + f.ebits + f.mbits
def FpFormat.bias (f : FpFormat) : Nat := 2 ^ (f.ebits - 1) - 1
def FpFormat.emaxField (f : FpFormat) : Nat := 2 ^ f.ebits - 1
/-- The canonical quiet NaN (R83). -/
def FpFormat.qnan (f : FpFormat) : Nat := f.emaxField * 2 ^ f.mbits + 2 ^ (f.mbits - 1)
def FpFormat.inf (f : FpFormat) (neg : Bool) : Nat := b2n neg * 2 ^ (f.ebits + f.mbits) + f.emaxField * 2 ^ f.mbits
def FpFormat.zero (f : FpFormat) (neg : Bool) : Nat := b2n neg * 2 ^ (f.ebits + f.mbits)
/-- The largest finite number. -/
def FpFormat.maxFin (f : FpFormat) (neg : Bool) : Nat := f.inf neg - 1

/-- A decoded operand: a NaN (signalling or not), an infinity, or (-1)^neg * m * 2^e. -/
inductive FpVal where
  | nan (signalling : Bool)
  | inf (neg : Bool)
  | fin (neg : Bool) (m : Nat) (e : Int)
  deriving DecidableEq, Repr

def FpFormat.decode (f : FpFormat) (v : Nat) : FpVal :=
  let neg := v.testBit (f.ebits + f.mbits)
  let ex := (v / 2 ^ f.mbits) % 2 ^ f.ebits
  let m := v % 2 ^ f.mbits
  if ex = f.emaxField then (if m = 0 then .inf neg else .nan (!m.testBit (f.mbits - 1)))
  else if ex = 0 then .fin neg m (1 - (f.bias : Int) - f.mbits)
  else .fin neg (m + 2 ^ f.mbits) ((ex : Int) - f.bias - f.mbits)

/-- A result: the encoded value and its flags. -/
abbrev FpRes := Nat × Nat

/-- Whether a significand with remainder `rem` out of `2 * half` rounds up. -/
def roundsUp (rm : Nat) (neg : Bool) (odd : Bool) (rem half : Nat) (sticky : Bool) : Bool :=
  let exact := rem = 0 && !sticky
  match rm with
  | 0 => decide (rem > half) || (decide (rem = half) && (sticky || odd))
  | 1 => false
  | 2 => !neg && !exact
  | _ => neg && !exact

/-- m * 2^e, plus less than one unit of m when `sticky`, with its significand cut at weight 2^q: the rounded multiple of 2^q and
whether rounding was inexact. -/
def roundAt (rm : Nat) (neg : Bool) (m : Nat) (e q : Int) (sticky : Bool) : Nat × Bool :=
  if q ≤ e then (m * 2 ^ (e - q).toNat, sticky)
  else
    let sh := (q - e).toNat
    let mant := m / 2 ^ sh
    let rem := m % 2 ^ sh
    (mant + b2n (roundsUp rm neg (mant % 2 = 1) rem (2 ^ (sh - 1)) sticky), decide (rem ≠ 0) || sticky)

/-- The result of an overflow (IEEE 754-2019 7.4). -/
def overflowResult (f : FpFormat) (rm : Nat) (neg : Bool) : FpRes :=
  let toInf := match rm with
    | 0 => true
    | 1 => false
    | 2 => !neg
    | _ => neg
  (if toInf then f.inf neg else f.maxFin neg, flOF + flNX)

/-- Rounds (-1)^neg * m * 2^e, with a sticky tail, into the format. -/
def fpRound (f : FpFormat) (rm : Nat) (neg : Bool) (m : Nat) (e : Int) (sticky : Bool) : FpRes :=
  if m = 0 then (f.zero neg, 0)
  else
    let p := f.mbits + 1
    let emin : Int := 1 - (f.bias : Int)
    let top : Int := e + (Nat.log2 m : Nat)
    let qn : Int := top - (p - 1 : Nat)
    let qmin : Int := emin - f.mbits
    let q := if qn < qmin then qmin else qn
    let (mant, inex) := roundAt rm neg m e q sticky
    let (mant, q) := if mant = 2 ^ p then (2 ^ (p - 1), q + 1) else (mant, q)
    -- tininess before rounding looks at `top`; after rounding, at the value rounded as if the exponent were unbounded
    let (um, _) := roundAt rm neg m e qn sticky
    let topAfter := if um = 2 ^ p then top + 1 else top
    let tiny := if Config.tinyBefore then decide (top < emin) else decide (topAfter < emin)
    let s := b2n neg * 2 ^ (f.ebits + f.mbits)
    if mant < 2 ^ f.mbits then
      (s + mant, (if inex then flNX else 0) + (if inex && tiny then flUF else 0))
    else
      let ex : Int := q + f.mbits + f.bias
      if ex ≥ (f.emaxField : Int) then overflowResult f rm neg
      else (s + ex.toNat * 2 ^ f.mbits + (mant - 2 ^ f.mbits), (if inex then flNX else 0) + (if inex && tiny then flUF else 0))

def FpVal.isNan : FpVal → Bool
  | .nan _ => true
  | _ => false
def FpVal.isSnan : FpVal → Bool
  | .nan s => s
  | _ => false

/-- The default NaN, with NV for a signalling operand. -/
def nanOf (f : FpFormat) (a b : FpVal) : FpRes := (f.qnan, if a.isSnan || b.isSnan then flNV else 0)

/-- The exact sum of two finite values, rounded. -/
def addFin (f : FpFormat) (rm : Nat) (n1 : Bool) (m1 : Nat) (e1 : Int) (n2 : Bool) (m2 : Nat) (e2 : Int) : FpRes :=
  let e := if e1 ≤ e2 then e1 else e2
  let a : Int := (m1 * 2 ^ (e1 - e).toNat : Nat)
  let b : Int := (m2 * 2 ^ (e2 - e).toNat : Nat)
  let sum := (if n1 then -a else a) + (if n2 then -b else b)
  if sum = 0 then
    -- an exact zero sum is +0, or -0 when rounding toward -inf; equal signs keep their sign
    (if n1 = n2 then f.zero n1 else f.zero (rm = 3), 0)
  else fpRound f rm (decide (sum < 0)) sum.natAbs e false

def fpAdd (f : FpFormat) (rm : Nat) (a b : FpVal) : FpRes :=
  match a, b with
  | .nan _, _ | _, .nan _ => nanOf f a b
  | .inf n1, .inf n2 => if n1 = n2 then (f.inf n1, 0) else (f.qnan, flNV)
  | .inf n, _ => (f.inf n, 0)
  | _, .inf n => (f.inf n, 0)
  | .fin n1 m1 e1, .fin n2 m2 e2 => addFin f rm n1 m1 e1 n2 m2 e2

def FpVal.negate : FpVal → FpVal
  | .nan s => .nan s
  | .inf n => .inf (!n)
  | .fin n m e => .fin (!n) m e

def fpSub (f : FpFormat) (rm : Nat) (a b : FpVal) : FpRes := fpAdd f rm a b.negate

def fpMul (f : FpFormat) (rm : Nat) (a b : FpVal) : FpRes :=
  match a, b with
  | .nan _, _ | _, .nan _ => nanOf f a b
  | .inf n1, .inf n2 => (f.inf (n1 != n2), 0)
  | .inf n1, .fin n2 m _ => if m = 0 then (f.qnan, flNV) else (f.inf (n1 != n2), 0)
  | .fin n1 m _, .inf n2 => if m = 0 then (f.qnan, flNV) else (f.inf (n1 != n2), 0)
  | .fin n1 m1 e1, .fin n2 m2 e2 => fpRound f rm (n1 != n2) (m1 * m2) (e1 + e2) false

def fpDiv (f : FpFormat) (rm : Nat) (a b : FpVal) : FpRes :=
  match a, b with
  | .nan _, _ | _, .nan _ => nanOf f a b
  | .inf _, .inf _ => (f.qnan, flNV)
  | .inf n1, .fin n2 _ _ => (f.inf (n1 != n2), 0)
  | .fin n1 _ _, .inf n2 => (f.zero (n1 != n2), 0)
  | .fin n1 m1 e1, .fin n2 m2 e2 =>
    if m2 = 0 then (if m1 = 0 then (f.qnan, flNV) else (f.inf (n1 != n2), flDZ))
    else if m1 = 0 then (f.zero (n1 != n2), 0)
    else
      -- enough quotient bits for the format, the remainder as a sticky tail
      let k := 2 * f.mbits + 8
      let num := m1 * 2 ^ k
      fpRound f rm (n1 != n2) (num / m2) (e1 - e2 - k) (decide (num % m2 ≠ 0))

/-- va * vb + vd with a single rounding (R79). -/
def fpFma (f : FpFormat) (rm : Nat) (a b c : FpVal) : FpRes :=
  let zeroInf := match a, b with
    | .inf _, .fin _ m _ => m = 0
    | .fin _ m _, .inf _ => m = 0
    | _, _ => false
  if a.isNan || b.isNan || c.isNan then
    (f.qnan, if a.isSnan || b.isSnan || c.isSnan || (zeroInf && Config.fmaNanInvalid) then flNV else 0)
  else if zeroInf then (f.qnan, flNV)
  else
    match a, b, c with
    | .fin n1 m1 e1, .fin n2 m2 e2, .fin n3 m3 e3 => addFin f rm (n1 != n2) (m1 * m2) (e1 + e2) n3 m3 e3
    | .fin _ _ _, .fin _ _ _, .inf n => (f.inf n, 0)
    | _, _, _ =>
      let neg p := match p with
        | FpVal.inf n => n
        | FpVal.fin n _ _ => n
        | FpVal.nan _ => false
      let pn := neg a != neg b
      match c with
      | .inf n => if n = pn then (f.inf n, 0) else (f.qnan, flNV)
      | _ => (f.inf pn, 0)

/-- The integer square root by bits, from bit `n` down. -/
def isqrtBits (v r : Nat) : Nat → Nat
  | 0 => r
  | n + 1 => if (r + 2 ^ n) * (r + 2 ^ n) ≤ v then isqrtBits v (r + 2 ^ n) n else isqrtBits v r n

def fpSqrt (f : FpFormat) (rm : Nat) (a : FpVal) : FpRes :=
  match a with
  | .nan s => (f.qnan, if s then flNV else 0)
  | .inf n => if n then (f.qnan, flNV) else (f.inf false, 0)
  | .fin n m e =>
    if m = 0 then (f.zero n, 0)
    else if n then (f.qnan, flNV)
    else
      let k := 2 * f.mbits + 8
      let e' : Int := e - k
      let adj : Nat := if e' % 2 = 0 then 0 else 1
      let v := m * 2 ^ (k + adj)
      let r := isqrtBits v 0 (f.mbits * 2 + 8)
      fpRound f rm false r ((e' - adj) / 2) (decide (r * r ≠ v))

/-- a < b on numbers; both zeros are equal. -/
def fpLt (a b : FpVal) : Bool :=
  match a, b with
  | .nan _, _ | _, .nan _ => false
  | .inf n1, .inf n2 => n1 && !n2
  | .inf n, _ => n
  | _, .inf n => !n
  | .fin n1 m1 e1, .fin n2 m2 e2 =>
    let e := if e1 ≤ e2 then e1 else e2
    let x : Int := (m1 * 2 ^ (e1 - e).toNat : Nat)
    let y : Int := (m2 * 2 ^ (e2 - e).toNat : Nat)
    decide ((if n1 then -x else x) < (if n2 then -y else y))

def fpEq (a b : FpVal) : Bool := !a.isNan && !b.isNan && !fpLt a b && !fpLt b a

def FpVal.isNeg : FpVal → Bool
  | .nan _ => false
  | .inf n => n
  | .fin n _ _ => n

/-- Minimum (`mx` false) or maximum; a single NaN operand yields the other (R79); -0 is below +0. `x`, `y` are the encodings. -/
def fpMinMax (f : FpFormat) (mx : Bool) (x y : Nat) : FpRes :=
  let a := f.decode x; let b := f.decode y
  let fl := if a.isSnan || b.isSnan then flNV else 0
  if a.isNan && b.isNan then (f.qnan, fl)
  else if a.isNan then (y, fl)
  else if b.isNan then (x, fl)
  else
    let aLess := fpLt a b || (fpEq a b && a.isNeg && !b.isNeg)
    (if aLess != mx then x else y, fl)

/-- To a signed integer of `w` bits, saturating; NaN gives 0 (R79). A discarded fraction sets NX (DESIGN CHOICE, log entry 6). -/
def fpToInt (_f : FpFormat) (rm w : Nat) (a : FpVal) : FpRes :=
  let mxv := 2 ^ (w - 1) - 1
  let mnv := 2 ^ (w - 1)
  match a with
  | .nan _ => (0, flNV)
  | .inf n => (if n then mnv else mxv, flNV)
  | .fin n m e =>
    let (v, inex) := roundAt rm n m e 0 false
    if n then (if v > mnv then (mnv, flNV) else ((2 ^ w - v) % 2 ^ w, if inex then flNX else 0))
    else (if v > mxv then (mxv, flNV) else (v, if inex then flNX else 0))

/-- A signed integer of `w` bits to floating point (R79). -/
def fpOfInt (f : FpFormat) (rm w v : Nat) : FpRes :=
  let i := signedOf w v
  if i = 0 then (f.zero false, 0) else fpRound f rm (decide (i < 0)) i.natAbs 0 false

end Sys2Proof.Machine
end

