-- ==== Sys2Proof/Machine/Vector.lean ====
section
/-! DEFINITION. The vector instructions (03_wemir_instruction_set.md R78 to R83). -/
namespace Sys2Proof.Machine
open Sys2Proof

/-! ## Elements -/

/-- The element width in bits of an esz code (R60). -/
def elemBits (esz : BitVec 2) : Nat := 8 * 2 ^ esz.toNat
/-- The number of elements of a 256-bit register. -/
def elemCount (esz : BitVec 2) : Nat := 32 / 2 ^ esz.toNat
/-- Element `i` of a register, as a number. -/
def elem (w : Nat) (v : BitVec 256) (i : Nat) : Nat := (v.toNat >>> (w * i)) % 2 ^ w

/-- The register whose `n` low elements are given. -/
def packElems (w : Nat) (f : Nat → Nat) : Nat → Nat
  | 0 => 0
  | n + 1 => packElems w f n + (f n % 2 ^ w) * 2 ^ (w * n)

def vecOf (esz : BitVec 2) (f : Nat → Nat) : BitVec 256 := BitVec.ofNat 256 (packElems (elemBits esz) f (elemCount esz))

/-- The mask bits of the elements for which `f` holds; the others, and those above the count, are 0. -/
def maskOf (f : Nat → Bool) : Nat → Nat
  | 0 => 0
  | n + 1 => maskOf f n + b2n (f n) * 2 ^ n

/-- An element is active under a mask (R78). -/
def active (m : BitVec 32) (i : Nat) : Bool := m.getLsbD i

/-- vd after an element-wise operation: inactive elements keep their value (R78). -/
def mapActive (esz : BitVec 2) (m : BitVec 32) (old : BitVec 256) (f : Nat → Nat) : BitVec 256 :=
  vecOf esz (fun i => if active m i then f i else elem (elemBits esz) old i)

/-- A mask register's number from a 5-bit field whose bits [4:3] are 0 (R79). -/
def maskReg (f : BitVec 5) : BitVec 3 := f.truncate 3
def maskField (f : BitVec 5) : Bool := decide (f.toNat < 8)

/-! ## VINT -/

/-- A signed number as an element of `w` bits. -/
def elemOfInt (w : Nat) (i : Int) : Nat := (i % (2 ^ w : Nat)).toNat

/-- One element of VINT's arithmetic (R79); none for an unassigned code. -/
def vintElem (fn w a b : Nat) : Option Nat :=
  let sa := signedOf w a; let sb := signedOf w b
  let amt := b % w
  match fn with
  | 0x00 => some ((a + b) % 2 ^ w)
  | 0x01 => some ((a + 2 ^ w - b) % 2 ^ w)
  | 0x02 => some (a * b % 2 ^ w)
  | 0x03 => some (elemOfInt w (sa * sb / (2 ^ w : Nat)))
  | 0x04 => some (if sa < sb then a else b)
  | 0x05 => some (if sa < sb then b else a)
  | 0x06 => some (if a < b then a else b)
  | 0x07 => some (if a < b then b else a)
  | 0x08 => some (a &&& b)
  | 0x09 => some (a ||| b)
  | 0x0A => some (a ^^^ b)
  | 0x0B => some (a &&& (2 ^ w - 1 - b))
  | 0x0C => some ((a <<< amt) % 2 ^ w)
  | 0x0D => some (a >>> amt)
  | 0x0E => some (elemOfInt w (sa / (2 ^ amt : Nat)))
  | 0x14 =>
    let r := sa + sb
    let mx : Int := (2 ^ (w - 1) : Nat) - 1
    let mn : Int := -((2 ^ (w - 1) : Nat) : Int)
    some (elemOfInt w (if r > mx then mx else if r < mn then mn else r))
  | 0x15 => some (if a + b < 2 ^ w then a + b else 2 ^ w - 1)
  | _ => none

/-- One comparison of VINT (R79). -/
def vintCmp (fn w a b : Nat) : Option Bool :=
  match fn with
  | 0x10 => some (decide (a = b))
  | 0x11 => some (decide (signedOf w a < signedOf w b))
  | 0x12 => some (decide (a < b))
  | _ => none

/-- The thread after a VINT instruction; none where it raises ILLEGAL (R60, R79). -/
def Thread.vint (t : Thread) (fn : Nat) (esz : BitVec 2) (k : BitVec 3) (vb va vd : BitVec 5) : Option Thread :=
  let w := elemBits esz
  let m := t.mask k
  let a := t.vec va; let b := t.vec vb
  if (vintCmp fn w 0 0).isSome then
    if maskField vd then
      some (t.setMask (maskReg vd) (BitVec.ofNat 32 (maskOf (fun i => active m i && (vintCmp fn w (elem w a i) (elem w b i)).getD false)
        (elemCount esz))))
    else none
  else if (vintElem fn w 0 0).isSome then
    some (t.setVec vd (mapActive esz m (t.vec vd) (fun i => (vintElem fn w (elem w a i) (elem w b i)).getD 0)))
  else none

/-- R79. -/
def execVint (t : ThreadPos) (fn : BitVec 6) (esz : BitVec 2) (k : BitVec 3) (vb va vd : BitVec 5) (s : State) :
    Host.Outcome State Fault Refusal :=
  onThread s t.val (some 6) (fun s =>
    match (s.thread t.val).vint fn.toNat esz k vb va vd with
    | some y => s.finish t.val (fun _ => y)
    | none => s.illegal t.val)

/-! ## VFP -/

/-- One element of VFP's arithmetic, with the flags it raises (R79, R83). `d` is the old element of vd. -/
def vfpElem (fn : Nat) (f : FpFormat) (rm a b d : Nat) : Option FpRes :=
  let x := f.decode a; let y := f.decode b
  match fn with
  | 0x00 => some (fpAdd f rm x y)
  | 0x01 => some (fpSub f rm x y)
  | 0x02 => some (fpMul f rm x y)
  | 0x03 => some (fpDiv f rm x y)
  | 0x04 => some (fpFma f rm x y (f.decode d))
  | 0x05 => some (fpSqrt f rm x)
  | 0x06 => some (fpMinMax f false a b)
  | 0x07 => some (fpMinMax f true a b)
  | 0x18 => some (fpOfInt f rm f.width a)
  | 0x19 => some (fpToInt f rm f.width x)
  | _ => none

/-- One comparison of VFP, with its flags: false for NaN. LT and LE signal invalid on a quiet NaN, EQ only on a signalling one
(R79, R83, log entry 6). -/
def vfpCmp (fn : Nat) (f : FpFormat) (a b : Nat) : Option (Bool × Nat) :=
  let x := f.decode a; let y := f.decode b
  let quiet := if x.isSnan || y.isSnan then flNV else 0
  let signal := if x.isNan || y.isNan then flNV else 0
  match fn with
  | 0x10 => some (fpEq x y, quiet)
  | 0x11 => some (fpLt x y, signal)
  | 0x12 => some (fpLt x y || fpEq x y, signal)
  | _ => none

/-- The flags of the active elements together. -/
def orFlags (m : BitVec 32) (f : Nat → Nat) : Nat → Nat
  | 0 => 0
  | n + 1 => orFlags m f n ||| (if active m n then f n else 0)

/-- The thread after a VFP instruction; none where it raises ILLEGAL (R60, R79, R80). -/
def Thread.vfp (t : Thread) (fn : Nat) (esz : BitVec 2) (k : BitVec 3) (vb va vd : BitVec 5) : Option Thread :=
  if esz.toNat < 2 then none
  else if (fn = 0x05 ∨ fn = 0x18 ∨ fn = 0x19) ∧ vb ≠ 0 then none
  else
    let f := if esz.toNat = 2 then fp32 else fp64
    let w := elemBits esz; let n := elemCount esz
    let m := t.mask k
    let a := t.vec va; let b := t.vec vb; let d := t.vec vd
    if (vfpCmp fn f 0 0).isSome then
      if maskField vd then
        let r i := (vfpCmp fn f (elem w a i) (elem w b i)).getD (false, 0)
        some ((t.setMask (maskReg vd) (BitVec.ofNat 32 (maskOf (fun i => active m i && (r i).1) n))).raiseFp
          (orFlags m (fun i => (r i).2) n))
      else none
    else if (vfpElem fn f 0 0 0 0).isSome then
      let r i := (vfpElem fn f t.rm (elem w a i) (elem w b i) (elem w d i)).getD (0, 0)
      some ((t.setVec vd (mapActive esz m d (fun i => (r i).1))).raiseFp (orFlags m (fun i => (r i).2) n))
    else none

/-- R79. -/
def execVfp (t : ThreadPos) (fn : BitVec 6) (esz : BitVec 2) (k : BitVec 3) (vb va vd : BitVec 5) (s : State) :
    Host.Outcome State Fault Refusal :=
  onThread s t.val (some 7) (fun s =>
    match (s.thread t.val).vfp fn.toNat esz k vb va vd with
    | some y => s.finish t.val (fun _ => y)
    | none => s.illegal t.val)

/-! ## VMASK -/

/-- The active elements of `v`, in order. -/
def activeElems (w : Nat) (m : BitVec 32) (v : BitVec 256) (n : Nat) : List Nat :=
  (upTo n).filterMap (fun i => if active m i then some (elem w v i) else none)

/-- The thread after a VMASK instruction; none where it raises ILLEGAL (R60, R79, R80). The mask-register forms use neither esz
nor k, and VEXT does not use k (log entry 15). -/
def Thread.vmask (t : Thread) (fn : Nat) (esz : BitVec 2) (k : BitVec 3) (vb va vd : BitVec 5) : Option Thread :=
  let w := elemBits esz; let n := elemCount esz
  let m := t.mask k
  let plain := decide (esz = 0 ∧ k = 0)
  let ka := t.mask (maskReg va); let kb := t.mask (maskReg vb)
  let ga := t.gpr va
  let kop (r : BitVec 32) : Option Thread :=
    if plain && maskField va && maskField vb && maskField vd then some (t.setMask (maskReg vd) r) else none
  match fn with
  | 0x00 => kop (ka &&& kb)
  | 0x01 => kop (ka ||| kb)
  | 0x02 => kop (ka ^^^ kb)
  | 0x03 => kop (ka &&& ~~~kb)
  | 0x04 => if plain && maskField vd && decide (vb = 0) then some (t.setMask (maskReg vd) (ga.truncate 32)) else none
  | 0x05 => if plain && maskField va && decide (vb = 0) then some (t.setGpr vd (ka.zeroExtend 64)) else none
  | 0x06 => if plain && maskField va && decide (vb = 0) then some (t.setGpr vd (BitVec.ofNat 64 (popBits ka.toNat 32))) else none
  | 0x08 => if vb.toNat < n then some (t.setVec vd (vecOf esz (fun i =>
      if i = vb.toNat && active m i then ga.toNat else elem w (t.vec vd) i))) else none
  | 0x09 => if vb.toNat < n ∧ k = 0 then some (t.setGpr vd (BitVec.ofNat 64 (elem w (t.vec va) vb.toNat))) else none
  | 0x0A => if vb = 0 then some (t.setVec vd (mapActive esz m (t.vec vd) (fun _ => ga.toNat))) else none
  | 0x0B => some (t.setVec vd (mapActive esz m (t.vec vd) (fun i => elem w (t.vec va) (elem w (t.vec vb) i % n))))
  | 0x0C => if vb = 0 then
      some (t.setGpr vd (sextNat w ((activeElems w m (t.vec va) n).foldl (· + ·) 0))) else none
  | 0x0D => if vb = 0 then
      let l := activeElems w m (t.vec va) n
      some (t.setVec vd (vecOf esz (fun i => l.getD i 0))) else none
  | _ => none

/-- R79. -/
def execVmask (t : ThreadPos) (fn : BitVec 6) (esz : BitVec 2) (k : BitVec 3) (vb va vd : BitVec 5) (s : State) :
    Host.Outcome State Fault Refusal :=
  onThread s t.val (if fn.toNat < 8 then none else some 6) (fun s =>
    match (s.thread t.val).vmask fn.toNat esz k vb va vd with
    | some y => s.finish t.val (fun _ => y)
    | none => s.illegal t.val)

/-! ## VMEM -/

/-- The exceptions of the active elements in order, and their pieces; `wait` when one of them must wait. -/
structure VAcc where
  excs : List Exc := []
  /-- the pieces of each active element, with the element's number -/
  ps : List (Nat × List Piece) := []
  wait : Bool := false

/-- The accesses of the elements listed, each of `len` bytes at the address `addr` gives. -/
def State.vecPieces (s : State) (t : Nat) (addr : Nat → Word) (len : Nat) (k : AccKind) (gathered : Bool) : List Nat → State × VAcc
  | [] => (s, {})
  | i :: l =>
    let (s, r) := s.pieces t (addr i) len k (if gathered then .gather else .vector)
    match r with
    | .wait => (s, { wait := true })
    | .ok ps =>
      let (s, rest) := s.vecPieces t addr len k gathered l
      (s, { rest with ps := (i, ps) :: rest.ps })
    | .exc e =>
      let (s, rest) := s.vecPieces t addr len k gathered l
      (s, { rest with excs := e :: rest.excs })

/-- Reads the elements in order; none while one of them must wait. -/
def State.vecRead (s : State) (t : Nat) : List (Nat × List Piece) → State × Option (List (Nat × Nat))
  | [] => (s, some [])
  | (i, ps) :: l =>
    let (s, v) := s.readPieces t ps
    match v with
    | none => (s, none)
    | some v =>
      let (s, r) := s.vecRead t l
      (s, r.map (fun x => (i, v) :: x))

/-- The elements enter the merging buffer in order, so that the higher-numbered prevails (R82). -/
def State.vecStore (s : State) (t : Nat) (f : Nat → Nat) : List (Nat × List Piece) → Option State
  | [] => some s
  | (i, ps) :: l => match s.mbStorePieces t (f i) false ps with
    | none => none
    | some s => s.vecStore t f l

/-- The code is assigned and its esz and unused fields are legal (R60, R79, R80). -/
def vmemLegal (fn : Nat) (esz : BitVec 2) (vb : BitVec 5) : Bool :=
  match fn with
  | 0x00 | 0x01 | 0x04 => decide (vb = 0)
  | 0x02 | 0x03 => decide (esz.toNat ≥ 2)
  | _ => false

/-- R79, R81, R82: a vector load, store, gather, scatter or broadcast load. -/
def State.vmemRun (s : State) (t fn : Nat) (esz : BitVec 2) (k : BitVec 3) (vb va vd : BitVec 5) : State :=
  let th := s.thread t
  let w := elemBits esz; let n := elemCount esz; let len : Nat := 2 ^ esz.toNat
  let m := th.mask k
  let base := th.gpr va
  let isStore := fn = 0x01 ∨ fn = 0x03
  let gathered := decide (fn = 0x02 ∨ fn = 0x03)
  let addr (i : Nat) : Word :=
    if gathered then base + wordOfInt (signedOf w (elem w (th.vec vb) i) * (len : Int))
    else if fn = 0x04 then base else base + BitVec.ofNat 64 (i * len)
  let act := (upTo n).filter (active m)
  -- VBCASTM makes one access for all active elements
  let els := if fn = 0x04 then act.take 1 else act
  match els.find? (fun i => gathered && decide ((addr i).toNat % len ≠ 0)) with
  | some i => s.raise t { code := exDataAlign, eaddr := addr i }
  | none =>
  let (s, r) := s.vecPieces t addr len (if isStore then .store else .load) gathered els
  -- a conflict has removed the entries that gave it, so it is raised while another element still waits
  if r.wait && !r.excs.any (fun e => decide (e.code = exConflict)) then s
  else match pickExc r.excs with
  | some e => s.raise t e
  | none =>
    if isStore then
      match s.vecStore t (elem w (th.vec vd)) r.ps with
      | some s => s.finishStore t
      | none => s
    else
      let (s, v) := s.vecRead t r.ps
      match v with
      | none => s
      | some l =>
        let get (i : Nat) : Nat := if fn = 0x04 then (l.head?.map (·.2)).getD 0 else Tbl.get 0 l i
        s.finishLoad t (fun y => y.setVec vd (mapActive esz m (y.vec vd) get))

/-- R79. -/
def execVmem (t : ThreadPos) (fn : BitVec 6) (esz : BitVec 2) (k : BitVec 3) (vb va vd : BitVec 5) (s : State) :
    Host.Outcome State Fault Refusal :=
  onThread s t.val (some 1) (fun s =>
    if vmemLegal fn.toNat esz vb then s.vmemRun t.val fn.toNat esz k vb va vd else s.illegal t.val)

end Sys2Proof.Machine
end

