-- ==== Sys2Proof/Machine/Illegal.lean ====
section
/-! DEFINITION. The instruction words of Wemir (03_wemir_instruction_set.md R58 to R61, R63, R72, R75, R79, R84, R89): the command that a
word spells, with its operands, and the words that spell none and raise ILLEGAL. -/
namespace Sys2Proof.Machine
open Sys2Proof

/-! ## Fields of a word (R58) -/

/-- Bits [hi:lo] of an instruction word. -/
def wordBits (w : BitVec 32) (hi lo : Nat) : Nat := natBits w.toNat hi lo
/-- A 5-bit register field at bit `lo`. -/
def wordReg (w : BitVec 32) (lo : Nat) : BitVec 5 := w.extractLsb' lo 5
/-- The immediate of format B. -/
def wordImm (w : BitVec 32) : BitVec 16 := w.extractLsb' 16 16
/-- The displacement of format C. -/
def wordDispC (w : BitVec 32) : BitVec 15 := w.extractLsb' 30 2 ++ w.extractLsb' 16 13
/-- The displacement of format D. -/
def wordDispD (w : BitVec 32) : BitVec 25 := w.extractLsb' 30 2 ++ w.extractLsb' 6 23

/-- The command when the fields that it does not use are 0 (R60). -/
def spelled (ok : Bool) (i : Instr) : Option Instr := if ok then some i else none

/-! ## The classes -/

/-- Loads in the order of R61 and R72. -/
def loadOpOf (n : Nat) : Option LoadOp := [LoadOp.lb, .lh, .lw, .ld, .lbu, .lhu, .lwu][n]?
/-- Stores in the order of R61 and R72. -/
def storeOpOf (n : Nat) : Option StoreOp := [StoreOp.sb, .sh, .sw, .sd][n]?

/-- ADDI to ADDIS, op 08h to 0Fh (R61). -/
def immInstr (t : ThreadPos) (n : Nat) (rd ra : BitVec 5) (imm : BitVec 16) : Option Instr :=
  match n with
  | 0 => some (.addi t rd ra imm)
  | 1 => some (.andi t rd ra imm)
  | 2 => some (.ori t rd ra imm)
  | 3 => some (.xori t rd ra imm)
  | 4 => some (.slti t rd ra imm)
  | 5 => some (.sltiu t rd ra imm)
  | 6 => spelled (decide (ra = 0)) (.lui t rd imm)
  | 7 => some (.addis t rd ra imm)
  | _ => none

/-- BEQ to BGEU, op 20h to 25h: in format C ra stands in bits [10:6] and rb in bits [15:11] (R58, R61). -/
def branchInstr (t : ThreadPos) (n : Nat) (a : Bool) (ra rb : BitVec 5) (d : BitVec 15) : Option Instr :=
  match n with
  | 0 => some (.beq t a ra rb d)
  | 1 => some (.bne t a ra rb d)
  | 2 => some (.blt t a ra rb d)
  | 3 => some (.bge t a ra rb d)
  | 4 => some (.bltu t a ra rb d)
  | 5 => some (.bgeu t a ra rb d)
  | _ => none

/-- MEMX (R72). -/
def memxInstr (t : ThreadPos) (fn : Nat) (rc rb ra rd : BitVec 5) : Option Instr :=
  if fn ≤ 0x06 then (loadOpOf fn).bind (fun o => spelled (decide (rc = 0)) (.loadIndexed t o rd ra rb))
  else if 0x08 ≤ fn ∧ fn ≤ 0x0B then (storeOpOf (fn - 8)).bind (fun o => spelled (decide (rd = 0)) (.storeIndexed t o rc ra rb))
  else match fn with
    | 0x10 => spelled (decide (rb = 0 ∧ rc = 0)) (.law t rd ra)
    | 0x11 => spelled (decide (rb = 0 ∧ rc = 0)) (.lad t rd ra)
    | 0x12 => spelled (decide (rd = 0 ∧ rc = 0)) (.srw t ra rb)
    | 0x13 => spelled (decide (rd = 0 ∧ rc = 0)) (.srd t ra rb)
    | 0x18 => spelled (decide (rd = 0 ∧ rc.toNat ≤ 1)) (.pref t (decide (rc = 1)) ra rb)
    | _ => none

/-- ATOM (R75): fn[5] the size, fn[4:3] the ordering, fn[2:0] the operation. -/
def atomWord (t : ThreadPos) (fn : Nat) (rc rb ra rd : BitVec 5) : Option Instr :=
  let wide := fn.testBit 5
  let ord := BitVec.ofNat 2 (fn / 8)
  match fn % 8 with
  | 0 => spelled (decide (rc = 0)) (.aadd t wide ord rd ra rb)
  | 1 => spelled (decide (rc = 0)) (.aand t wide ord rd ra rb)
  | 2 => spelled (decide (rc = 0)) (.aor t wide ord rd ra rb)
  | 3 => spelled (decide (rc = 0)) (.axor t wide ord rd ra rb)
  | 4 => spelled (decide (rc = 0)) (.aswap t wide ord rd ra rb)
  | 5 => spelled (decide (rc = 0)) (.amin t wide ord rd ra rb)
  | 6 => spelled (decide (rc = 0)) (.amax t wide ord rd ra rb)
  | _ => some (.acas t wide ord rd ra rb rc)

/-- The miscellaneous SYS group, fn2 = 00b (R84). -/
def miscInstr (t : ThreadPos) (fn : Nat) (ra rd : BitVec 5) : Option Instr :=
  let bare := decide (ra = 0 ∧ rd = 0)
  match fn with
  | 0x000 => spelled bare (.syscall t)
  | 0x001 => spelled bare (.hcall t)
  | 0x002 => spelled bare (.rte t)
  | 0x003 => spelled bare (.brk t)
  | 0x004 => spelled bare (.wfi t)
  | 0x005 => spelled (decide (rd = 0)) (.renter t ra)
  | 0x010 => some (.tlbi t ra rd)
  | 0x011 => spelled bare (.syncT t)
  | 0x012 => spelled bare (.isync t)
  | 0x020 => spelled (decide (ra = 0)) (.clk t rd)
  | 0x021 => spelled (decide (ra.toNat ≤ 7)) (.pcrd t rd ra)
  | 0x022 => spelled bare (.rsync t)
  | 0x023 => spelled bare (.rsclr t)
  | 0x024 => some (.waitd t rd ra)
  | _ => if 0x030 ≤ fn ∧ fn ≤ 0x03F then spelled bare (.fence t (BitVec.ofNat 4 fn)) else none

/-- The CACHE group, fn2 = 11b (R89). -/
def cacheInstr (t : ThreadPos) (fn : Nat) (ra rd : BitVec 5) : Option Instr :=
  if rd ≠ 0 then none
  else match fn with
    | 0x00 => some (.cleanVa t ra)
    | 0x10 => some (.invVa t ra)
    | 0x20 => some (.clinvVa t ra)
    | 0x30 => some (.zeroVa t ra)
    | 0x50 => some (.invL1i t ra)
    | 0x88 => some (.cleanSw2 t ra)
    | 0x98 => some (.invSw2 t ra)
    | 0xA8 => some (.clinvSw2 t ra)
    | 0xC8 => some (.cleanSw3 t ra)
    | 0xD8 => some (.invSw3 t ra)
    | 0xE8 => some (.clinvSw3 t ra)
    | _ => none

/-- SYS (R59, R84). A control register's number is assigned, whatever the level. -/
def sysWordInstr (t : ThreadPos) (w : BitVec 32) : Option Instr :=
  let fn := wordBits w 28 16
  let ra := wordReg w 11; let rd := wordReg w 6
  let known := decide (ctlAccess fn 2 ≠ .unassigned)
  if w.getLsbD 29 then none
  else match wordBits w 31 30 with
    | 0 => miscInstr t fn ra rd
    | 1 => spelled (decide (ra = 0) && known) (.mfc t rd (BitVec.ofNat 13 fn))
    | 2 => spelled (decide (rd = 0) && known) (.mtc t ra (BitVec.ofNat 13 fn))
    | _ => cacheInstr t fn ra rd

/-- Format A: ALU, MULDIV, SHIFT, MEMX and ATOM (R58, R61). A function code is assigned when it has a result (R63). -/
def formatA (t : ThreadPos) (op : Nat) (w : BitVec 32) : Option Instr :=
  let fn := wordBits w 31 26
  let f : BitVec 6 := w.extractLsb' 26 6
  let rc := wordReg w 21; let rb := wordReg w 16; let ra := wordReg w 11; let rd := wordReg w 6
  match op with
  | 0x01 => spelled (aluResult fn rc 0 0 0).isSome (.alu t f rc rb ra rd)
  | 0x02 => spelled (muldivResult fn rc 0 0 0).isSome (.muldiv t f rc rb ra rd)
  | 0x03 => spelled (shiftResult fn rc rb 0 0).isSome (.shift t f rc rb ra rd)
  | 0x1E => memxInstr t fn rc rb ra rd
  | 0x30 => atomWord t fn rc rb ra rd
  | _ => none

/-- Format F: the vector classes (R58, R61, R79). -/
def formatF (t : ThreadPos) (op : Nat) (w : BitVec 32) : Option Instr :=
  let fn := wordBits w 31 26
  let f : BitVec 6 := w.extractLsb' 26 6
  let esz : BitVec 2 := w.extractLsb' 24 2
  let k : BitVec 3 := w.extractLsb' 21 3
  let vb := wordReg w 16; let va := wordReg w 11; let vd := wordReg w 6
  match op with
  | 0x38 => spelled (({} : Thread).vint fn esz k vb va vd).isSome (.vint t f esz k vb va vd)
  | 0x39 => spelled (({} : Thread).vfp fn esz k vb va vd).isSome (.vfp t f esz k vb va vd)
  | 0x3A => spelled (vmemLegal fn esz vb) (.vmem t f esz k vb va vd)
  | 0x3B => spelled (({} : Thread).vmask fn esz k vb va vd).isSome (.vmask t f esz k vb va vd)
  | _ => none

/-- The command that an instruction word spells for a thread (R58, R61); none where the word raises ILLEGAL. -/
def wordInstr (t : ThreadPos) (w : BitVec 32) : Option Instr :=
  let op := wordBits w 5 0
  let a := w.getLsbD 29
  let hi := wordReg w 11; let lo := wordReg w 6
  if 0x08 ≤ op ∧ op ≤ 0x0F then immInstr t (op - 0x08) lo hi (wordImm w)
  else if 0x10 ≤ op ∧ op ≤ 0x16 then (loadOpOf (op - 0x10)).map (fun o => .load t o lo hi (wordImm w))
  else if 0x18 ≤ op ∧ op ≤ 0x1B then (storeOpOf (op - 0x18)).map (fun o => .store t o lo hi (wordImm w))
  else if 0x20 ≤ op ∧ op ≤ 0x25 then branchInstr t (op - 0x20) a lo hi (wordDispC w)
  else match op with
    | 0x28 => some (.j t a (wordDispD w))
    | 0x29 => some (.jal t a (wordDispD w))
    | 0x2A => spelled (decide (wordBits w 31 30 = 0 ∧ wordBits w 28 16 = 0)) (.jalr t a lo hi)
    | 0x31 => sysWordInstr t w
    | _ => (formatA t op w).orElse (fun _ => formatF t op w)

/-- R60: a word that is not a legal instruction raises ILLEGAL. A legal word is the command that `wordInstr` gives, and does nothing
here. -/
def execIllegal (t : ThreadPos) (word : BitVec 32) (s : State) : Host.Outcome State Fault Refusal :=
  onThread s t.val none (fun s => if (wordInstr t word).isSome then s else s.illegal t.val)

end Sys2Proof.Machine
end

