-- ==== Sys2Proof/Machine/Integer.lean ====
section
/-! DEFINITION. The integer instructions (03_wemir_instruction_set.md R62 to R64). -/
namespace Sys2Proof.Machine
open Sys2Proof

/-- An instruction of the integer units: rd receives `f` of the thread. -/
def intOp (s : State) (t : Nat) (unit : Nat) (rd : BitVec 5) (f : Thread → Option Word) : Host.Outcome State Fault Refusal :=
  onThread s t (some unit) (fun s => s.writeRd t rd (f (s.thread t)))

/-- R62. -/
def execAddi (t : ThreadPos) (rd ra : BitVec 5) (imm : BitVec 16) (s : State) : Host.Outcome State Fault Refusal :=
  intOp s t.val 0 rd (fun y => some (y.gpr ra + sextImm imm))

/-- R62. -/
def execAndi (t : ThreadPos) (rd ra : BitVec 5) (imm : BitVec 16) (s : State) : Host.Outcome State Fault Refusal :=
  intOp s t.val 0 rd (fun y => some (y.gpr ra &&& zextImm imm))

/-- R62. -/
def execOri (t : ThreadPos) (rd ra : BitVec 5) (imm : BitVec 16) (s : State) : Host.Outcome State Fault Refusal :=
  intOp s t.val 0 rd (fun y => some (y.gpr ra ||| zextImm imm))

/-- R62. -/
def execXori (t : ThreadPos) (rd ra : BitVec 5) (imm : BitVec 16) (s : State) : Host.Outcome State Fault Refusal :=
  intOp s t.val 0 rd (fun y => some (y.gpr ra ^^^ zextImm imm))

/-- R62. -/
def execSlti (t : ThreadPos) (rd ra : BitVec 5) (imm : BitVec 16) (s : State) : Host.Outcome State Fault Refusal :=
  intOp s t.val 0 rd (fun y => some (sltWord (y.gpr ra) (sextImm imm)))

/-- R62. -/
def execSltiu (t : ThreadPos) (rd ra : BitVec 5) (imm : BitVec 16) (s : State) : Host.Outcome State Fault Refusal :=
  intOp s t.val 0 rd (fun y => some (sltuWord (y.gpr ra) (sextImm imm)))

/-- R62. -/
def execLui (t : ThreadPos) (rd : BitVec 5) (imm : BitVec 16) (s : State) : Host.Outcome State Fault Refusal :=
  intOp s t.val 0 rd (fun _ => some (upperImm imm))

/-- R62. -/
def execAddis (t : ThreadPos) (rd ra : BitVec 5) (imm : BitVec 16) (s : State) : Host.Outcome State Fault Refusal :=
  intOp s t.val 0 rd (fun y => some (y.gpr ra + upperImm imm))

/-- R63: ALU by function code. -/
def execAlu (t : ThreadPos) (fn : BitVec 6) (rc rb ra rd : BitVec 5) (s : State) : Host.Outcome State Fault Refusal :=
  intOp s t.val 0 rd (fun y => aluResult fn.toNat rc (y.gpr ra) (y.gpr rb) (y.gpr rc))

/-- R63, R64: MULDIV by function code; 04h to 07h use the divider. -/
def execMuldiv (t : ThreadPos) (fn : BitVec 6) (rc rb ra rd : BitVec 5) (s : State) : Host.Outcome State Fault Refusal :=
  intOp s t.val (if 4 ≤ fn.toNat ∧ fn.toNat ≤ 7 then 4 else 5) rd
    (fun y => muldivResult fn.toNat rc (y.gpr ra) (y.gpr rb) (y.gpr rc))

/-- R63: SHIFT by function code. -/
def execShift (t : ThreadPos) (fn : BitVec 6) (rc rb ra rd : BitVec 5) (s : State) : Host.Outcome State Fault Refusal :=
  intOp s t.val 0 rd (fun y => shiftResult fn.toNat rc rb (y.gpr ra) (y.gpr rb))

end Sys2Proof.Machine
end

