-- ==== Sys2Proof/Machine/Memory.lean ====
section
/-! DEFINITION. The scalar loads and stores, and the prefetch (03_wemir_instruction_set.md R71 to R74). -/
namespace Sys2Proof.Machine
open Sys2Proof

/-- R71. -/
def execLoad (t : ThreadPos) (op : LoadOp) (rd ra : BitVec 5) (imm : BitVec 16) (s : State) : Host.Outcome State Fault Refusal :=
  onThread s t.val (some 2) (fun s => s.loadAt t.val op rd ((s.thread t.val).gpr ra + sextImm imm) false)

/-- R71. -/
def execStore (t : ThreadPos) (op : StoreOp) (rs ra : BitVec 5) (imm : BitVec 16) (s : State) : Host.Outcome State Fault Refusal :=
  onThread s t.val (some 3) (fun s =>
    s.storeAt t.val (storeSize op) ((s.thread t.val).gpr rs) ((s.thread t.val).gpr ra + sextImm imm) false)

/-- R72. -/
def execLoadIndexed (t : ThreadPos) (op : LoadOp) (rd ra rb : BitVec 5) (s : State) : Host.Outcome State Fault Refusal :=
  onThread s t.val (some 2) (fun s => s.loadAt t.val op rd ((s.thread t.val).gpr ra + (s.thread t.val).gpr rb) false)

/-- R72. -/
def execStoreIndexed (t : ThreadPos) (op : StoreOp) (rc ra rb : BitVec 5) (s : State) : Host.Outcome State Fault Refusal :=
  onThread s t.val (some 3) (fun s =>
    s.storeAt t.val (storeSize op) ((s.thread t.val).gpr rc) ((s.thread t.val).gpr ra + (s.thread t.val).gpr rb) false)

/-- R72: load-acquire of 4 bytes, sign-extended. -/
def execLaw (t : ThreadPos) (rd ra : BitVec 5) (s : State) : Host.Outcome State Fault Refusal :=
  onThread s t.val (some 2) (fun s => s.loadAt t.val .lw rd ((s.thread t.val).gpr ra) true)

/-- R72: load-acquire of 8 bytes. -/
def execLad (t : ThreadPos) (rd ra : BitVec 5) (s : State) : Host.Outcome State Fault Refusal :=
  onThread s t.val (some 2) (fun s => s.loadAt t.val .ld rd ((s.thread t.val).gpr ra) true)

/-- R72: store-release of rb's low 4 bytes. -/
def execSrw (t : ThreadPos) (ra rb : BitVec 5) (s : State) : Host.Outcome State Fault Refusal :=
  onThread s t.val (some 3) (fun s => s.storeAt t.val 4 ((s.thread t.val).gpr rb) ((s.thread t.val).gpr ra) true)

/-- R72: store-release of rb's 8 bytes. -/
def execSrd (t : ThreadPos) (ra rb : BitVec 5) (s : State) : Host.Outcome State Fault Refusal :=
  onThread s t.val (some 3) (fun s => s.storeAt t.val 8 ((s.thread t.val).gpr rb) ((s.thread t.val).gpr ra) true)

/-- The line a prefetch brings in: only through a translation that does not fault, from cacheable memory (R74, R208). A walk
that it starts is dropped where it would wait for an A or D update or fault. -/
def State.prefetch (s : State) (t : Nat) (va : Word) (write : Bool) : State :=
  let (s', r) := s.translate t va .load
  match r with
  | .ok pa 0 =>
    if write then (s'.getOwned t (lineOf pa) (s'.thread t).realm false).1
    else (s'.loadLine t (lineOf pa) (s'.thread t).realm).1
  | .ok _ _ => s'
  | .wait => s'.modThread t (fun y => { y with ad := none })
  | _ => s'

/-- R74: no exception, no uncached or device access, no architectural effect. -/
def execPref (t : ThreadPos) (write : Bool) (ra rb : BitVec 5) (s : State) : Host.Outcome State Fault Refusal :=
  onThread s t.val (some 1) (fun s =>
    (s.prefetch t.val ((s.thread t.val).gpr ra + (s.thread t.val).gpr rb) write).retire t.val)

end Sys2Proof.Machine
end

