-- ==== Sys2Proof/Machine/Transfers.lean ====
section
/-! DEFINITION. The control transfers and their delay slots (03_wemir_instruction_set.md R65 to R70). -/
namespace Sys2Proof.Machine
open Sys2Proof

/-! ## Transfers retire (R65 to R70, R119 to R130) -/

/-- A mispredicted transfer retires: it counts, and the work on its wrong path is squashed (R651, R135). -/
def State.mispredict (s : State) (t : Nat) : State := (s.countEv t 0x05).squash t

/-- The state after a conditional transfer at the thread's pc resolves `taken`: history, tables, BTB, counters. A transfer
that retires while a flush is in progress trains and installs as ever (R127, log entry 81). -/
def State.resolveCond (s : State) (t : Nat) (taken : Bool) (target : BitVec 57) : State :=
  let th := s.thread t
  let c := coreOf t
  let core := s.core c
  let x := predIx th.pc.toNat th.history.toNat th.part
  let pred := core.predictTaken x
  -- an aliased hit with another target is a misprediction too (R121)
  let wrongTarget := match core.btbHit th.pc th.realm (btbWays th.part) with
    | some (_, e) => pred && taken && decide (e.target.toNat ≠ target.toNat / 4)
    | none => false
  let s := s.modThread t (fun y => { y with history := y.history <<< 1 ||| (if taken then 1 else 0) })
  let s := s.modCore c (fun k =>
    let k := k.train x taken
    if taken then k.btbPut th.pc th.realm 0 target th.part else k)
  let s := s.countEv t 0x04
  if pred != taken || wrongTarget then s.mispredict t else s

/-- The state after an unconditional transfer retires: calls push, returns pop (R129, R130). `kind` as in the BTB.
Until a flush completes no target is taken from the BTB (R127). -/
def State.resolveJump (s : State) (t : Nat) (kind : Fin 5) (target : BitVec 57) : State :=
  let th := s.thread t
  let c := coreOf t
  let hit := if (s.core c).flushing then none else (s.core c).btbHit th.pc th.realm (btbWays th.part)
  let btbWrong := match hit with
    | some (_, e) => decide (e.target.toNat ≠ target.toNat / 4)
    | none => false
  let s := s.modCore c (fun k => k.btbPut th.pc th.realm kind target th.part)
  match kind with
  | 2 => let s := s.modThread t (fun y => y.pushRet (linkOf th.pc)); if btbWrong then s.mispredict t else s
  | 3 =>
    let entry := th.topRet
    let s := s.modThread t (fun y => y.popRet)
    let wrong := if entry = 0 then btbWrong else decide (entry.toNat ≠ target.toNat / 4)
    let s := if wrong then s.mispredict t else s
    if wrong || decide (entry = 0) then s.countEv t 0x06 else s
  | _ => if btbWrong then s.mispredict t else s

/-- A conditional transfer (R66): the slot executes, or is annulled when A = 1 and the condition is false. In an executing
delay slot it raises SLOT (R70). -/
def condTransfer (s : State) (t : Nat) (a : Bool) (disp : BitVec 15) (cond : Thread → Bool) : Host.Outcome State Fault Refusal :=
  onThread s t none (fun s =>
    let th := s.thread t
    if th.slot.isSome then s.slotFault t
    else
      let taken := cond th
      let target := branchTarget th.pc disp
      let s := s.resolveCond t taken target
      if a && !taken then s.retireTo t (linkOf th.pc) none
      else s.retireTo t (th.pc + 4) (some (if taken then target else linkOf th.pc)))

/-- An unconditional transfer to `target` that writes its link to `rd` (R66, R68): with A = 1 the slot is annulled. -/
def uncondTransfer (s : State) (t : Nat) (a : Bool) (kind : Fin 5) (rd : BitVec 5) (target : BitVec 57) : State :=
  let pc := (s.thread t).pc
  let s := s.resolveJump t kind target
  let s := s.modThread t (fun y => y.setGpr rd (wordOfPc (linkOf pc)))
  if a then s.retireTo t target none else s.retireTo t (pc + 4) (some target)

/-- R65. -/
def execBeq (t : ThreadPos) (a : Bool) (ra rb : BitVec 5) (disp : BitVec 15) (s : State) : Host.Outcome State Fault Refusal :=
  condTransfer s t.val a disp (fun y => decide (y.gpr ra = y.gpr rb))

/-- R65. -/
def execBne (t : ThreadPos) (a : Bool) (ra rb : BitVec 5) (disp : BitVec 15) (s : State) : Host.Outcome State Fault Refusal :=
  condTransfer s t.val a disp (fun y => decide (y.gpr ra ≠ y.gpr rb))

/-- R65. -/
def execBlt (t : ThreadPos) (a : Bool) (ra rb : BitVec 5) (disp : BitVec 15) (s : State) : Host.Outcome State Fault Refusal :=
  condTransfer s t.val a disp (fun y => (y.gpr ra).slt (y.gpr rb))

/-- R65. -/
def execBge (t : ThreadPos) (a : Bool) (ra rb : BitVec 5) (disp : BitVec 15) (s : State) : Host.Outcome State Fault Refusal :=
  condTransfer s t.val a disp (fun y => !((y.gpr ra).slt (y.gpr rb)))

/-- R65. -/
def execBltu (t : ThreadPos) (a : Bool) (ra rb : BitVec 5) (disp : BitVec 15) (s : State) : Host.Outcome State Fault Refusal :=
  condTransfer s t.val a disp (fun y => (y.gpr ra).ult (y.gpr rb))

/-- R65. -/
def execBgeu (t : ThreadPos) (a : Bool) (ra rb : BitVec 5) (disp : BitVec 15) (s : State) : Host.Outcome State Fault Refusal :=
  condTransfer s t.val a disp (fun y => !((y.gpr ra).ult (y.gpr rb)))

/-- R65: the link register field 0 writes no link. -/
def execJ (t : ThreadPos) (a : Bool) (disp : BitVec 25) (s : State) : Host.Outcome State Fault Refusal :=
  onThread s t.val none (fun s =>
    if (s.thread t.val).slot.isSome then s.slotFault t.val
    else uncondTransfer s t.val a 1 0 (jumpTarget (s.thread t.val).pc disp))

/-- R65: JAL links to g31 and is a call. -/
def execJal (t : ThreadPos) (a : Bool) (disp : BitVec 25) (s : State) : Host.Outcome State Fault Refusal :=
  onThread s t.val none (fun s =>
    if (s.thread t.val).slot.isSome then s.slotFault t.val
    else uncondTransfer s t.val a 2 31 (jumpTarget (s.thread t.val).pc disp))

/-- How the core treats a JALR: a call for rd = g31, a return for JALR g0, g31, another register jump otherwise (R65). -/
def jalrKind (rd ra : BitVec 5) : Fin 5 := if rd = 31 then 2 else if rd = 0 ∧ ra = 31 then 3 else 4

/-- R65, R69: the target is ra as it stood before the link is written; a misaligned one raises TARGET_ALIGN. -/
def execJalr (t : ThreadPos) (a : Bool) (rd ra : BitVec 5) (s : State) : Host.Outcome State Fault Refusal :=
  onThread s t.val none (fun s =>
    let th := s.thread t.val
    let target := th.gpr ra
    if th.slot.isSome then s.slotFault t.val
    else if target.toNat % 4 ≠ 0 then s.raise t.val { code := exTargetAlign, eaddr := target }
    else uncondTransfer s t.val a (jalrKind rd ra) rd (BitVec.ofNat 57 target.toNat))

end Sys2Proof.Machine
end

