-- ==== Sys2Proof/Machine/Dispatch.lean ====
section
/-! DEFINITION. One arm per command: its meaning, or a refusal by name. -/

namespace Sys2Proof.Machine
open Sys2Proof

def exec (i : Instr) (s : State) : Host.Outcome State Fault Refusal :=
  match i with
  | .clauseClockLock => Sys2Proof.Machine.execClauseClockLock s
  | .clauseLockLoss => Sys2Proof.Machine.execClauseLockLoss s
  | .syncReq src xid retx turn => Sys2Proof.Machine.execSyncReq src xid retx turn s
  | .syncRsp xid retx tm turn => Sys2Proof.Machine.execSyncRsp xid retx tm turn s
  | .epoch value => Sys2Proof.Machine.execEpoch value s
  | .driftCorrection xs => Sys2Proof.Machine.execDriftCorrection xs s
  | .clauseRealign p offset => Sys2Proof.Machine.execClauseRealign p offset s
  | .clauseResolution => Sys2Proof.Machine.execClauseResolution s
  | .addi t rd ra imm => Sys2Proof.Machine.execAddi t rd ra imm s
  | .andi t rd ra imm => Sys2Proof.Machine.execAndi t rd ra imm s
  | .ori t rd ra imm => Sys2Proof.Machine.execOri t rd ra imm s
  | .xori t rd ra imm => Sys2Proof.Machine.execXori t rd ra imm s
  | .slti t rd ra imm => Sys2Proof.Machine.execSlti t rd ra imm s
  | .sltiu t rd ra imm => Sys2Proof.Machine.execSltiu t rd ra imm s
  | .lui t rd imm => Sys2Proof.Machine.execLui t rd imm s
  | .addis t rd ra imm => Sys2Proof.Machine.execAddis t rd ra imm s
  | .alu t fn rc rb ra rd => Sys2Proof.Machine.execAlu t fn rc rb ra rd s
  | .muldiv t fn rc rb ra rd => Sys2Proof.Machine.execMuldiv t fn rc rb ra rd s
  | .shift t fn rc rb ra rd => Sys2Proof.Machine.execShift t fn rc rb ra rd s
  | .beq t a ra rb disp => Sys2Proof.Machine.execBeq t a ra rb disp s
  | .bne t a ra rb disp => Sys2Proof.Machine.execBne t a ra rb disp s
  | .blt t a ra rb disp => Sys2Proof.Machine.execBlt t a ra rb disp s
  | .bge t a ra rb disp => Sys2Proof.Machine.execBge t a ra rb disp s
  | .bltu t a ra rb disp => Sys2Proof.Machine.execBltu t a ra rb disp s
  | .bgeu t a ra rb disp => Sys2Proof.Machine.execBgeu t a ra rb disp s
  | .j t a disp => Sys2Proof.Machine.execJ t a disp s
  | .jal t a disp => Sys2Proof.Machine.execJal t a disp s
  | .jalr t a rd ra => Sys2Proof.Machine.execJalr t a rd ra s
  | .load t op rd ra imm => Sys2Proof.Machine.execLoad t op rd ra imm s
  | .store t op rs ra imm => Sys2Proof.Machine.execStore t op rs ra imm s
  | .loadIndexed t op rd ra rb => Sys2Proof.Machine.execLoadIndexed t op rd ra rb s
  | .storeIndexed t op rc ra rb => Sys2Proof.Machine.execStoreIndexed t op rc ra rb s
  | .law t rd ra => Sys2Proof.Machine.execLaw t rd ra s
  | .lad t rd ra => Sys2Proof.Machine.execLad t rd ra s
  | .srw t ra rb => Sys2Proof.Machine.execSrw t ra rb s
  | .srd t ra rb => Sys2Proof.Machine.execSrd t ra rb s
  | .pref t write ra rb => Sys2Proof.Machine.execPref t write ra rb s
  | .aadd t wide ord rd ra rb => Sys2Proof.Machine.execAadd t wide ord rd ra rb s
  | .aand t wide ord rd ra rb => Sys2Proof.Machine.execAand t wide ord rd ra rb s
  | .aor t wide ord rd ra rb => Sys2Proof.Machine.execAor t wide ord rd ra rb s
  | .axor t wide ord rd ra rb => Sys2Proof.Machine.execAxor t wide ord rd ra rb s
  | .aswap t wide ord rd ra rb => Sys2Proof.Machine.execAswap t wide ord rd ra rb s
  | .amin t wide ord rd ra rb => Sys2Proof.Machine.execAmin t wide ord rd ra rb s
  | .amax t wide ord rd ra rb => Sys2Proof.Machine.execAmax t wide ord rd ra rb s
  | .acas t wide ord rd ra rb rc => Sys2Proof.Machine.execAcas t wide ord rd ra rb rc s
  | .vint t fn esz k vb va vd => Sys2Proof.Machine.execVint t fn esz k vb va vd s
  | .vfp t fn esz k vb va vd => Sys2Proof.Machine.execVfp t fn esz k vb va vd s
  | .vmem t fn esz k vb va vd => Sys2Proof.Machine.execVmem t fn esz k vb va vd s
  | .vmask t fn esz k vb va vd => Sys2Proof.Machine.execVmask t fn esz k vb va vd s
  | .syscall t => Sys2Proof.Machine.execSyscall t s
  | .hcall t => Sys2Proof.Machine.execHcall t s
  | .rte t => Sys2Proof.Machine.execRte t s
  | .brk t => Sys2Proof.Machine.execBrk t s
  | .wfi t => Sys2Proof.Machine.execWfi t s
  | .renter t ra => Sys2Proof.Machine.execRenter t ra s
  | .tlbi t ra rd => Sys2Proof.Machine.execTlbi t ra rd s
  | .syncT t => Sys2Proof.Machine.execSyncT t s
  | .isync t => Sys2Proof.Machine.execIsync t s
  | .clk t rd => Sys2Proof.Machine.execClk t rd s
  | .pcrd t rd n => Sys2Proof.Machine.execPcrd t rd n s
  | .rsync t => Sys2Proof.Machine.execRsync t s
  | .rsclr t => Sys2Proof.Machine.execRsclr t s
  | .waitd t rd ra => Sys2Proof.Machine.execWaitd t rd ra s
  | .waitdTimeout t => Sys2Proof.Machine.execWaitdTimeout t s
  | .fence t mask => Sys2Proof.Machine.execFence t mask s
  | .mfc t rd n => Sys2Proof.Machine.execMfc t rd n s
  | .mtc t ra n => Sys2Proof.Machine.execMtc t ra n s
  | .cleanVa t ra => Sys2Proof.Machine.execCleanVa t ra s
  | .invVa t ra => Sys2Proof.Machine.execInvVa t ra s
  | .clinvVa t ra => Sys2Proof.Machine.execClinvVa t ra s
  | .zeroVa t ra => Sys2Proof.Machine.execZeroVa t ra s
  | .invL1i t ra => Sys2Proof.Machine.execInvL1i t ra s
  | .cleanSw2 t ra => Sys2Proof.Machine.execCleanSw2 t ra s
  | .invSw2 t ra => Sys2Proof.Machine.execInvSw2 t ra s
  | .clinvSw2 t ra => Sys2Proof.Machine.execClinvSw2 t ra s
  | .cleanSw3 t ra => Sys2Proof.Machine.execCleanSw3 t ra s
  | .invSw3 t ra => Sys2Proof.Machine.execInvSw3 t ra s
  | .clinvSw3 t ra => Sys2Proof.Machine.execClinvSw3 t ra s
  | .interrupt t cls realm atS => Sys2Proof.Machine.execInterrupt t cls realm atS s
  | .timerCompare t h => Sys2Proof.Machine.execTimerCompare t h s
  | .predctlFlush t => Sys2Proof.Machine.execPredctlFlush t s
  | .predictorFlushDone c => Sys2Proof.Machine.execPredictorFlushDone c s
  | .residueRetry t unit again => Sys2Proof.Machine.execResidueRetry t unit again s
  | .mbDrain c => Sys2Proof.Machine.execMbDrain c s
  | .evictionIssue c => Sys2Proof.Machine.execEvictionIssue c s
  | .l2Scrub c => Sys2Proof.Machine.execL2Scrub c s
  | .l3Scrub d slice => Sys2Proof.Machine.execL3Scrub d slice s
  | .l2Disable c => Sys2Proof.Machine.execL2Disable c s
  | .l2Enable c => Sys2Proof.Machine.execL2Enable c s
  | .l2FlushDone c => Sys2Proof.Machine.execL2FlushDone c s
  | .l3Disable d => Sys2Proof.Machine.execL3Disable d s
  | .l3Enable d => Sys2Proof.Machine.execL3Enable d s
  | .l3FlushDone d => Sys2Proof.Machine.execL3FlushDone d s
  | .adUpdate t => Sys2Proof.Machine.execAdUpdate t s
  | .transTlbiTimeout t seq => Sys2Proof.Machine.execTransTlbiTimeout t seq s
  | .rds h => Sys2Proof.Machine.execRds h s
  | .rdx h => Sys2Proof.Machine.execRdx h s
  | .upg h => Sys2Proof.Machine.execUpg h s
  | .rdz h => Sys2Proof.Machine.execRdz h s
  | .wbm h line => Sys2Proof.Machine.execWbm h line s
  | .evn h => Sys2Proof.Machine.execEvn h s
  | .atom h args => Sys2Proof.Machine.execAtom h args s
  | .cmo h clinv => Sys2Proof.Machine.execCmo h clinv s
  | .wrp h bytes mask => Sys2Proof.Machine.execWrp h bytes mask s
  | .ucrd h off size => Sys2Proof.Machine.execUcrd h off size s
  | .ucwr h bytes mask => Sys2Proof.Machine.execUcwr h bytes mask s
  | .ucatom h args => Sys2Proof.Machine.execUcatom h args s
  | .ownchk h => Sys2Proof.Machine.execOwnchk h s
  | .snps h => Sys2Proof.Machine.execSnps h s
  | .snpx h => Sys2Proof.Machine.execSnpx h s
  | .snpi h => Sys2Proof.Machine.execSnpi h s
  | .snph h => Sys2Proof.Machine.execSnph h s
  | .snpc h => Sys2Proof.Machine.execSnpc h s
  | .rdsub h => Sys2Proof.Machine.execRdsub h s
  | .data h line e => Sys2Proof.Machine.execData h line e s
  | .datasub h line => Sys2Proof.Machine.execDatasub h line s
  | .cmp h => Sys2Proof.Machine.execCmp h s
  | .cmpack h => Sys2Proof.Machine.execCmpack h s
  | .refute h => Sys2Proof.Machine.execRefute h s
  | .fwdack h st => Sys2Proof.Machine.execFwdack h st s
  | .snpack h => Sys2Proof.Machine.execSnpack h s
  | .snpnone h => Sys2Proof.Machine.execSnpnone h s
  | .snpdata h line => Sys2Proof.Machine.execSnpdata h line s
  | .subfwd h st => Sys2Proof.Machine.execSubfwd h st s
  | .subdone h apply => Sys2Proof.Machine.execSubdone h apply s
  | .wback h => Sys2Proof.Machine.execWback h s
  | .atomrsp h value => Sys2Proof.Machine.execAtomrsp h value s
  | .ucrsp h value => Sys2Proof.Machine.execUcrsp h value s
  | .ownrsp h ok => Sys2Proof.Machine.execOwnrsp h ok s
  | .credit h pool count => Sys2Proof.Machine.execCredit h pool count s
  | .tlbiMessage h args => Sys2Proof.Machine.execTlbiMessage h args s
  | .tlbidone h args => Sys2Proof.Machine.execTlbidone h args s
  | .tlbiack h args => Sys2Proof.Machine.execTlbiack h args s
  | .jrnwr h record => Sys2Proof.Machine.execJrnwr h record s
  | .settlePointReached n line => Sys2Proof.Machine.execSettlePointReached n line s
  | .leadPointReached n line => Sys2Proof.Machine.execLeadPointReached n line s
  | .memoryReadDone n line o => Sys2Proof.Machine.execMemoryReadDone n line o s
  | .cohTimeout n line => Sys2Proof.Machine.execCohTimeout n line s
  | .directoryLookupDone n line o => Sys2Proof.Machine.execDirectoryLookupDone n line o s
  | .ageClock => Sys2Proof.Machine.execAgeClock s
  | .dirScrub p o => Sys2Proof.Machine.execDirScrub p o s
  | .dirPortLost p => Sys2Proof.Machine.execDirPortLost p s
  | .reshapeMigrate o => Sys2Proof.Machine.execReshapeMigrate o s
  | .dataFlit n f => Sys2Proof.Machine.execDataFlit n f s
  | .idleFlit n f => Sys2Proof.Machine.execIdleFlit n f s
  | .nakFlit n f => Sys2Proof.Machine.execNakFlit n f s
  | .widthControlFlit n f mask proposal confirm => Sys2Proof.Machine.execWidthControlFlit n f mask proposal confirm s
  | .trainingMarker n mask => Sys2Proof.Machine.execTrainingMarker n mask s
  | .replayTimeout n => Sys2Proof.Machine.execReplayTimeout n s
  | .fecLockLoss n => Sys2Proof.Machine.execFecLockLoss n s
  | .laneLimit n lane => Sys2Proof.Machine.execLaneLimit n lane s
  | .trlRetrain n => Sys2Proof.Machine.execTrlRetrain n s
  | .partialResetDone n good => Sys2Proof.Machine.execPartialResetDone n good s
  | .widthConfirmTimeout n => Sys2Proof.Machine.execWidthConfirmTimeout n s
  | .fullRetrainDone n ok good far => Sys2Proof.Machine.execFullRetrainDone n ok good far s
  | .linkTrainingDone n good far serial octet => Sys2Proof.Machine.execLinkTrainingDone n good far serial octet s
  | .linkTrainingTimeout n => Sys2Proof.Machine.execLinkTrainingTimeout n s
  | .linkDown n => Sys2Proof.Machine.execLinkDown n s
  | .discover manager => Sys2Proof.Machine.execDiscover manager s
  | .ident j => Sys2Proof.Machine.execIdent j s
  | .discoveryEnd => Sys2Proof.Machine.execDiscoveryEnd s
  | .assign a => Sys2Proof.Machine.execAssign a s
  | .routeWrite gen routes => Sys2Proof.Machine.execRouteWrite gen routes s
  | .routeHold => Sys2Proof.Machine.execRouteHold s
  | .holdDone src => Sys2Proof.Machine.execHoldDone src s
  | .routeSwitch => Sys2Proof.Machine.execRouteSwitch s
  | .routeChangeTimeout => Sys2Proof.Machine.execRouteChangeTimeout s
  | .regime value => Sys2Proof.Machine.execRegime value s
  | .heartbeatPeriod => Sys2Proof.Machine.execHeartbeatPeriod s
  | .heartbeat src => Sys2Proof.Machine.execHeartbeat src s
  | .standbySilenceLimit => Sys2Proof.Machine.execStandbySilenceLimit s
  | .heardReq src => Sys2Proof.Machine.execHeardReq src s
  | .heardRsp src silence => Sys2Proof.Machine.execHeardRsp src silence s
  | .heardTimeout => Sys2Proof.Machine.execHeardTimeout s
  | .takeover src => Sys2Proof.Machine.execTakeover src s
  | .heartbeatSilence => Sys2Proof.Machine.execHeartbeatSilence s
  | .event src r e => Sys2Proof.Machine.execEvent src r e s
  | .mirror m => Sys2Proof.Machine.execMirror m s
  | .mirrorAck => Sys2Proof.Machine.execMirrorAck s
  | .mirrorTimeout => Sys2Proof.Machine.execMirrorTimeout s
  | .haltImage stamp => Sys2Proof.Machine.execHaltImage stamp s
  | .cut clause release => Sys2Proof.Machine.execCut clause release s
  | .cutDone src clause => Sys2Proof.Machine.execCutDone src clause s
  | .registerRead h off size e => Sys2Proof.Machine.execRegisterRead h off size e s
  | .registerWrite h off size v e => Sys2Proof.Machine.execRegisterWrite h off size v e s
  | .registerAnswer h v e => Sys2Proof.Machine.execRegisterAnswer h v e s
  | .interruptDelivery h tid cls atS e => Sys2Proof.Machine.execInterruptDelivery h tid cls atS e s
  | .retryLater d => Sys2Proof.Machine.execRetryLater d s
  | .retryLaterResend => Sys2Proof.Machine.execRetryLaterResend s
  | .meshRetryExhausted => Sys2Proof.Machine.execMeshRetryExhausted s
  | .refresh n rank bank forced => Sys2Proof.Machine.execRefresh n rank bank forced s
  | .dimmTempPoll n dimm celsius => Sys2Proof.Machine.execDimmTempPoll n dimm celsius s
  | .rowIdleTimeout n bank => Sys2Proof.Machine.execRowIdleTimeout n bank s
  | .prechargePowerDown n rank => Sys2Proof.Machine.execPrechargePowerDown n rank s
  | .dimmAlert n parity failed => Sys2Proof.Machine.execDimmAlert n parity failed s
  | .pmicPowerGoodLoss n => Sys2Proof.Machine.execPmicPowerGoodLoss n s
  | .phyLockLoss n => Sys2Proof.Machine.execPhyLockLoss n s
  | .dramScrub n line o => Sys2Proof.Machine.execDramScrub n line o s
  | .cetabClear n => Sys2Proof.Machine.execCetabClear n s
  | .ctxcmdRead c => Sys2Proof.Machine.execCtxcmdRead c s
  | .ctxcmdWrite c => Sys2Proof.Machine.execCtxcmdWrite c s
  | .ctxcmdEnable c => Sys2Proof.Machine.execCtxcmdEnable c s
  | .ctxcmdDisable c => Sys2Proof.Machine.execCtxcmdDisable c s
  | .ctxcmdAbort c => Sys2Proof.Machine.execCtxcmdAbort c s
  | .descriptorNop e => Sys2Proof.Machine.execDescriptorNop e s
  | .scanFilter e => Sys2Proof.Machine.execScanFilter e s
  | .project e => Sys2Proof.Machine.execProject e s
  | .aggregate e => Sys2Proof.Machine.execAggregate e s
  | .hashPartition e => Sys2Proof.Machine.execHashPartition e s
  | .gather e => Sys2Proof.Machine.execGather e s
  | .copy e => Sys2Proof.Machine.execCopy e s
  | .fill e => Sys2Proof.Machine.execFill e s
  | .crc32c e => Sys2Proof.Machine.execCrc32c e s
  | .segmentDone e residue => Sys2Proof.Machine.execSegmentDone e residue s
  | .completionRecordWrite e => Sys2Proof.Machine.execCompletionRecordWrite e s
  | .realmCapPeriod => Sys2Proof.Machine.execRealmCapPeriod s
  | .start realm origin => Sys2Proof.Machine.execStart realm origin s
  | .stop realm origin => Sys2Proof.Machine.execStop realm origin s
  | .bind realm origin => Sys2Proof.Machine.execBind realm origin s
  | .unbind realm origin => Sys2Proof.Machine.execUnbind realm origin s
  | .pgcmdAssign page => Sys2Proof.Machine.execPgcmdAssign page s
  | .reclaim page => Sys2Proof.Machine.execReclaim page s
  | .keyRotateSweep => Sys2Proof.Machine.execKeyRotateSweep s
  | .realmResetDone realm => Sys2Proof.Machine.execRealmResetDone realm s
  | .doorbellPoll words => Sys2Proof.Machine.execDoorbellPoll words s
  | .commandDescriptor desc ext => Sys2Proof.Machine.execCommandDescriptor desc ext s
  | .ticketAccept => Sys2Proof.Machine.execTicketAccept s
  | .commandCompletion => Sys2Proof.Machine.execCommandCompletion s
  | .nop c => Sys2Proof.Machine.execNop c s
  | .progress c => Sys2Proof.Machine.execProgress c s
  | .ownerClaim c => Sys2Proof.Machine.execOwnerClaim c s
  | .join c => Sys2Proof.Machine.execJoin c s
  | .setRegime c => Sys2Proof.Machine.execSetRegime c s
  | .modeQuiesce c => Sys2Proof.Machine.execModeQuiesce c s
  | .modeJoin c => Sys2Proof.Machine.execModeJoin c s
  | .modeRunI c => Sys2Proof.Machine.execModeRunI c s
  | .modeRunS c => Sys2Proof.Machine.execModeRunS c s
  | .modeDrain c => Sys2Proof.Machine.execModeDrain c s
  | .reset c => Sys2Proof.Machine.execReset c s
  | .reshape c => Sys2Proof.Machine.execReshape c s
  | .meminit c => Sys2Proof.Machine.execMeminit c s
  | .regWrite c => Sys2Proof.Machine.execRegWrite c s
  | .fwUpdateFirmware c => Sys2Proof.Machine.execFwUpdateFirmware c s
  | .fwUpdateBoardRecord c => Sys2Proof.Machine.execFwUpdateBoardRecord c s
  | .fwUpdateFloor c => Sys2Proof.Machine.execFwUpdateFloor c s
  | .expertGrant c => Sys2Proof.Machine.execExpertGrant c s
  | .expertRevoke c => Sys2Proof.Machine.execExpertRevoke c s
  | .grantExpired => Sys2Proof.Machine.execGrantExpired s
  | .tlogClear c => Sys2Proof.Machine.execTlogClear c s
  | .realmCreate c => Sys2Proof.Machine.execRealmCreate c s
  | .realmDestroy c => Sys2Proof.Machine.execRealmDestroy c s
  | .realmSeal c => Sys2Proof.Machine.execRealmSeal c s
  | .realmUnseal c => Sys2Proof.Machine.execRealmUnseal c s
  | .keyRotate c => Sys2Proof.Machine.execKeyRotate c s
  | .pageReclaim c => Sys2Proof.Machine.execPageReclaim c s
  | .ownerKeySet c => Sys2Proof.Machine.execOwnerKeySet c s
  | .ownerKeyClear c => Sys2Proof.Machine.execOwnerKeyClear c s
  | .peerWindowRead tag off len => Sys2Proof.Machine.execPeerWindowRead tag off len s
  | .peerWindowWrite off data => Sys2Proof.Machine.execPeerWindowWrite off data s
  | .windowWrite k v origin => Sys2Proof.Machine.execWindowWrite k v origin s
  | .configRequest tag dw write => Sys2Proof.Machine.execConfigRequest tag dw write s
  | .busMasterDisable => Sys2Proof.Machine.execBusMasterDisable s
  | .functionLevelReset => Sys2Proof.Machine.execFunctionLevelReset s
  | .perstN hot => Sys2Proof.Machine.execPerstN hot s
  | .dStateChange d => Sys2Proof.Machine.execDStateChange d s
  | .epfContained linkDown aer => Sys2Proof.Machine.execEpfContained linkDown aer s
  | .containmentRelease => Sys2Proof.Machine.execContainmentRelease s
  | .inboundDmaWrite n rid pa data => Sys2Proof.Machine.execInboundDmaWrite n rid pa data s
  | .inboundDmaRead n tag rid pa len => Sys2Proof.Machine.execInboundDmaRead n tag rid pa len s
  | .deviceReadTimeout n => Sys2Proof.Machine.execDeviceReadTimeout n s
  | .rpContained n linkDown aer => Sys2Proof.Machine.execRpContained n linkDown aer s
  | .rpRelease n => Sys2Proof.Machine.execRpRelease n s
  | .rpassignWrite n j v origin => Sys2Proof.Machine.execRpassignWrite n j v origin s
  | .bridgeFrame d toDie crcOk => Sys2Proof.Machine.execBridgeFrame d toDie crcOk s
  | .bridgeRetrainDone d ok => Sys2Proof.Machine.execBridgeRetrainDone d ok s
  | .strobeLockLoss d => Sys2Proof.Machine.execStrobeLockLoss d s
  | .domainClosed d => Sys2Proof.Machine.execDomainClosed d s
  | .meshCloseAborted d => Sys2Proof.Machine.execMeshCloseAborted d s
  | .domainOpen d => Sys2Proof.Machine.execDomainOpen d s
  | .vauxRise mgr stby => Sys2Proof.Machine.execVauxRise mgr stby s
  | .vauxLoss => Sys2Proof.Machine.execVauxLoss s
  | .pwrGoodFall => Sys2Proof.Machine.execPwrGoodFall s
  | .resetNAssert => Sys2Proof.Machine.execResetNAssert s
  | .pwrGoodRise mgr stby => Sys2Proof.Machine.execPwrGoodRise mgr stby s
  | .resetNRise mgr stby => Sys2Proof.Machine.execResetNRise mgr stby s
  | .trainStart wires chans ports => Sys2Proof.Machine.execTrainStart wires chans ports s
  | .trainComplete => Sys2Proof.Machine.execTrainComplete s
  | .quiesceCut => Sys2Proof.Machine.execQuiesceCut s
  | .quiesceTimeout => Sys2Proof.Machine.execQuiesceTimeout s
  | .quiesceRelease => Sys2Proof.Machine.execQuiesceRelease s
  | .drainDone => Sys2Proof.Machine.execDrainDone s
  | .quantumBoundary p dies => Sys2Proof.Machine.execQuantumBoundary p dies s
  | .sensorSample rs => Sys2Proof.Machine.execSensorSample rs s
  | .thermalAlarm j temp => Sys2Proof.Machine.execThermalAlarm j temp s
  | .thermalTrip j temp => Sys2Proof.Machine.execThermalTrip j temp s
  | .powerClamp amps => Sys2Proof.Machine.execPowerClamp amps s
  | .frequencyChangeDone k => Sys2Proof.Machine.execFrequencyChangeDone k s
  | .mcWatchdog => Sys2Proof.Machine.execMcWatchdog s
  | .injectArm who v => Sys2Proof.Machine.execInjectArm who v s
  | .tripLogRecord => Sys2Proof.Machine.execTripLogRecord s
  | .spillCopy => Sys2Proof.Machine.execSpillCopy s
  | .rateToken cls => Sys2Proof.Machine.execRateToken cls s
  | .freeze on => Sys2Proof.Machine.execFreeze on s
  | .freezeTimeout => Sys2Proof.Machine.execFreezeTimeout s
  | .counterDump => Sys2Proof.Machine.execCounterDump s
  | .dumpNow => Sys2Proof.Machine.execDumpNow s
  | .dumpEnable => Sys2Proof.Machine.execDumpEnable s
  | .dumpCommit => Sys2Proof.Machine.execDumpCommit s
  | .pcevWrite t j ra => Sys2Proof.Machine.execPcevWrite t j ra s
  | .pcwrite t ra => Sys2Proof.Machine.execPcwrite t ra s
  | .prsWrite who off size v => Sys2Proof.Machine.execPrsWrite who off size v s
  | .illegal t word => Sys2Proof.Machine.execIllegal t word s
  | .l3VictimInstall c line => Sys2Proof.Machine.execL3VictimInstall c line s
  | .controllerCycle n => Sys2Proof.Machine.execControllerCycle n s
  | .selfRefreshEntry n => Sys2Proof.Machine.execSelfRefreshEntry n s
  | .busMasterEnable => Sys2Proof.Machine.execBusMasterEnable s
  | .pcieLinkUp n width speed => Sys2Proof.Machine.execPcieLinkUp n width speed s
  | .deviceReadCompletion n tag status data => Sys2Proof.Machine.execDeviceReadCompletion n tag status data s
  | .completionTimeout => Sys2Proof.Machine.execCompletionTimeout s
  | .fwUpdateDone => Sys2Proof.Machine.execFwUpdateDone s
  | .noticeSpacingExpiry => Sys2Proof.Machine.execNoticeSpacingExpiry s

end Sys2Proof.Machine
end

