-- ==== Sys2Proof/Machine/Tick.lean ====
section
/-! DEFINITION. What the package does by itself at a clause tick (02_clause_time.md R20; log entry 39). -/
namespace Sys2Proof.Machine
open Sys2Proof

/-! ## Counters that time drives (R651, R655) -/

/-- The threads with a counter that counts one of a list of events. -/
def State.threadsCounting (s : State) (evs : List Nat) : List Nat :=
  ((s.pccSel.filter (fun p => decide (p.1 < 1920) && evs.contains (bits p.2 7 0))).flatMap (fun p => [p.1 / 8 * 2, p.1 / 8 * 2 + 1])).eraseDups.filter
    s.threadExists

def State.countClause (s : State) : List Nat → State
  | [] => s
  | t :: l => (s.countEv t 0x02 false).countClause l

/-- Events measured in core cycles, of which a clause holds at most 16: how many is not the model's (log entry 1). -/
def State.countCycles (s : State) : List Nat → State
  | [] => s
  | t :: l => ((((s.countFree t 0x01 16).countFree t 0x0F 16).countFree t 0x16 16).countFree t 0x17 16).countCycles l

/-- Each held request of a home agent counts the clause. -/
def State.countHeld (s : State) : List (Nat × Home) → State
  | [] => s
  | (n, h) :: l => (h.held.foldl (fun (s : State) r => s.homeCount n 0x06 1 r.hdr.realm) s).countHeld l

/-- A port of controller `n` has a request and no token. -/
def State.portStarved (s : State) (n p : Nat) : Bool :=
  s.portHard n p && decide (Tbl.get 0 s.portTok (n * 4 + p) < 256) &&
    ((s.home n).txns.any (fun t => t.memWait && decide (s.portOf t.req.hdr = p)) ||
      (decide (p = 3) && s.ucq.any (fun q => decide (s.chanOf (lineBase q.line) = n))))

def State.countStarved (s : State) : List Nat → State
  | [] => s
  | n :: l => (((upTo 4).filter (s.portStarved n)).foldl (fun (s : State) p => s.countUncore (slotDram n 0) 6 (0x14 + p) 1 none) s).countStarved l

/-- The counters of a clause. -/
def State.countTick (s : State) : State :=
  if s.mode = modeHalt then s
  else
    let s := (s.countClause (s.threadsCounting [0x02])).countCycles (s.threadsCounting [0x01, 0x0F, 0x16, 0x17])
    (s.countHeld s.homes).countStarved (upTo 16)

/-! ## The clause -/

/-- Reports of TLBIs whose accesses have completed. -/
def State.tlbiTick (s : State) : List Nat → State
  | [] => s
  | d :: l => (if (s.die d).tlbis.isEmpty then s else s.tlbiReport d).tlbiTick l

/-- The image, the endpoint and the commands of the host go on. -/
def State.imageTick (s : State) : State :=
  ((((((s.silenceTick.holdTick.cutTick.realignTick.pageTick.finishWaits).reshapeTick).leaveTick).drainTick).wakeTick).noticeResume).issueReads 256

/-- One clause: the counter, then what is due. In HALT the engines, the root ports and the endpoint's DMA stand (R575, R608). -/
def State.tickOnce (s : State) : State :=
  if s.mode ≤ modeStandby then s
  else
    let s := (s.clauseTick.dumpRequested.countTick).mapTick
    let s := s.tlbiTick (s.dies.map (·.1))
    let s := if s.mode = modeHalt then s else ((s.cacheTick.engineAdvanceAll (upTo 16)).inboundTick (upTo 12)).dumpSettle
    ((s.imageTick).linkTick).resetTick

/-- One period of the board's clock, with the second tick of a slew that carries out of the phase (R36). -/
def State.tick (s : State) : State := if s.slewCarries then s.tickOnce.tickOnce else s.tickOnce

end Sys2Proof.Machine
end

