-- ==== Sys2Proof/Machine/Step.lean ====
section
/-! DEFINITION. The step: the command at the front of the queue, or a clause tick when no command waits. -/
namespace Sys2Proof.Machine
open Sys2Proof

/-- The oldest waiting command runs on the state with the rest of the queue; an empty queue lets one clause pass (log entry 39). -/
def step (s : State) : Host.Outcome State Fault Refusal :=
  match s.pending with
  | c :: rest => exec c { s with pending := rest }
  | [] => .next s.tick

/-- The command that a word spells put at the front of the queue. The table gives no row any bits, so no word spells one (log
entry 40). -/
def State.withFetchWord (s : State) (nbits w : Nat) : State :=
  match decodeTableWord nbits w with
  | some c => { s with pending := c :: s.pending }
  | none => s

end Sys2Proof.Machine
end

