-- ==== Sys2Proof/Safety.lean ====
section
/-! DEFINITION. What claims say of runs: completion, the invariant of DRAM contents, and the frames of the commands. -/
namespace Sys2Proof.Machine
open Sys2Proof

/-- The command completes: exec answers a next state, of which `P` holds. -/
def Ends (c : Instr) (s : State) (P : State → Prop) : Prop := ∃ u, exec c s = .next u ∧ P u

/-- The canonical form of DRAM contents (log entry 2). -/
def State.MemOk (s : State) : Prop := memWf s.mem = true

/-! ## Threads -/

/-- The thread begins an instruction, and the fetch brings it: what every statement of an instruction's effect assumes. `s'` is the
state after the fetch. -/
def State.starts (s : State) (t : Nat) (unit : Option Nat) (s' : State) : Prop :=
  s.threadExists t = true ∧ s.startInstr t unit = (s', true)

/-- All of the state but threads, cores, counter values, the events of the open clause and the count of free values. -/
def State.outside (s : State) : State := { s with threads := [], cores := [], pccVal := [], events := [], freeCount := 0 }

/-- A sampling interrupt, which a counter that overflows asks for (R652). -/
def Event.samples (e : Event) : Bool := match e.kind with
  | .interrupt _ .counter _ _ _ => true
  | _ => false

/-- No event is lost, and every new one is a sampling interrupt. -/
def State.samplesOnly (s u : State) : Prop := ∃ l, u.events = s.events ++ l ∧ ∀ e ∈ l, e.samples = true

/-- A core without its sample register, which a counter that overflows writes. -/
def Core.unsampled (k : Core) : Core := { k with pcsample := 0 }

/-- A thread without what any retiring instruction may write: general registers, pc and delay slot, and the marks of an instruction under
way. -/
def Thread.special (y : Thread) : Thread :=
  { y with g := [], pc := 0, slot := none, missL1 := false, missL2 := false, missTlb := false, drainWanted := false, refused := none,
           own := [], retried := false, exitFence := false }

/-- Beyond thread `t`, only counters differ: the frame of an instruction that writes registers of its thread alone. -/
def State.onlyThread (s u : State) (t : Nat) : Prop :=
  u.outside = s.outside ∧ s.samplesOnly u ∧ (∀ t', t' ≠ t → u.thread t' = s.thread t') ∧
    ∀ c, (u.core c).unsampled = (s.core c).unsampled

/-- Nothing differs but thread `t`'s general registers, its pc and its delay slot. -/
def State.onlyRegs (s u : State) (t : Nat) : Prop := s.onlyThread u t ∧ (u.thread t).special = (s.thread t).special

/-- General register `rd` receives `w`, and no other does; g0 stays 0. -/
def wroteGpr (x y : Thread) (rd : BitVec 5) (w : Word) : Prop := ∀ r, y.gpr r = if r = rd ∧ r ≠ 0 then w else x.gpr r

/-- The thread goes on at `pc`; `slot` is the address after an executing delay slot. -/
def Thread.goesTo (y : Thread) (pc : BitVec 57) (slot : Option (BitVec 57)) : Prop := y.pc = pc ∧ y.slot = slot

/-- The whole effect of an instruction that computes a general register: rd, the next instruction, and nothing else. -/
def State.computes (s u : State) (t : Nat) (rd : BitVec 5) (w : Word) : Prop :=
  s.onlyRegs u t ∧ wroteGpr (s.thread t) (u.thread t) rd w ∧ (u.thread t).goesTo (s.thread t).nextPc none

/-- The whole effect of a transfer of control that writes no register. -/
def State.jumps (s u : State) (t : Nat) (pc : BitVec 57) (slot : Option (BitVec 57)) : Prop :=
  s.onlyRegs u t ∧ (∀ r, (u.thread t).gpr r = (s.thread t).gpr r) ∧ (u.thread t).goesTo pc slot

/-- The effect of a vector instruction on vd alone: element `i` becomes `f i`, modulo its width; every other register of the thread but
the pc stays (FPCSR is said beside). -/
def State.writesVec (s u : State) (t : Nat) (vd : BitVec 5) (esz : BitVec 2) (f : Nat → Nat) : Prop :=
  s.onlyThread u t ∧ (u.thread t).goesTo (s.thread t).nextPc none ∧ (∀ r, (u.thread t).gpr r = (s.thread t).gpr r) ∧
    (∀ r, r ≠ vd → (u.thread t).vec r = (s.thread t).vec r) ∧ (u.thread t).k = (s.thread t).k ∧
    ∀ i, i < elemCount esz → elem (elemBits esz) ((u.thread t).vec vd) i = f i % 2 ^ elemBits esz

/-- The effect of an instruction on mask register `kd` alone; k0 stays all ones. -/
def State.writesMask (s u : State) (t : Nat) (kd : BitVec 3) (m : BitVec 32) : Prop :=
  s.onlyThread u t ∧ (u.thread t).goesTo (s.thread t).nextPc none ∧ (∀ r, (u.thread t).gpr r = (s.thread t).gpr r) ∧
    (u.thread t).v = (s.thread t).v ∧ ∀ q, (u.thread t).mask q = if q = kd ∧ q ≠ 0 then m else (s.thread t).mask q

/-- A core without its predictor and without what the wrong path of a thread may leave in it: copies of lines, their replacement order,
translations (R124, R135). -/
def Core.unpredicted (k : Core) : Core :=
  { k with pcsample := 0, btb := [], btbOrder := [], t0 := [], t1 := [], t2 := [], chooser := [],
           l1i := [], l1d := [], l2 := [], plruI := [], plruD := [], plru2 := [], l2tlb := [], walks := [] }
def Thread.unpredicted (y : Thread) : Thread := { y.special with history := 0, rstack := [], rtop := 0 }

/-- Of one core the predictor and what a wrong path leaves may differ, with its die's snoop filter; of the rest, counters alone. -/
def State.predictsOnly (s u : State) (t : Nat) : Prop :=
  { u.outside with dies := [] } = { s.outside with dies := [] } ∧ s.samplesOnly u ∧
    (∀ d, { u.die d with sf := [] } = { s.die d with sf := [] }) ∧ (∀ t', t' ≠ t → u.thread t' = s.thread t') ∧
    (∀ c, (u.core c).unpredicted = (s.core c).unpredicted) ∧ (∀ c, c ≠ coreOf t → (u.core c).unsampled = (s.core c).unsampled) ∧
    (u.thread t).unpredicted = (s.thread t).unpredicted

/-- A control transfer: the thread goes on at `pc`, and beyond its general registers only prediction, what the wrong path leaves, and
counters differ. -/
def State.transfers (s u : State) (t : Nat) (pc : BitVec 57) (slot : Option (BitVec 57)) : Prop :=
  s.predictsOnly u t ∧ (u.thread t).goesTo pc slot

/-- The thread takes exception `e` at level `target` (1 S, 2 H) at vector offset `off` (R110, R111): the bank's five registers, the
level, EXL and IE, and the pc; its general, vector and mask registers stay. -/
def entered (x y : Thread) (target off : Nat) (e : Exc) (epc enpc : BitVec 57) : Prop :=
  let b := y.bank (decide (target = 2))
  b.estatus = BitVec.ofNat 64 (bits x.status 5 0 + (if x.slot.isSome then 65536 else 0)) ∧ b.epc = epc.signExtend 64 ∧
    b.enpc = enpc.signExtend 64 ∧ b.ecause = BitVec.ofNat 64 (e.sub * 256 + e.code) ∧ b.eaddr = e.eaddr ∧
    y.level = target ∧ y.exl = true ∧ y.ie = false ∧
    y.pc = BitVec.ofNat 57 ((x.bank (decide (target = 2))).vbase.toNat / 4096 * 4096 + off) ∧ y.slot = none ∧
    (∀ r, y.gpr r = x.gpr r) ∧ y.v = x.v ∧ y.k = x.k ∧ y.realm = x.realm ∧ y.fpcsr = x.fpcsr

/-- The thread asks another agent: the message is sent, the thread waits for its answer and keeps its registers, and nothing else of
the memory system changes here. -/
def State.asks (s u : State) (t : Nat) (m : Msg) (d : Dest) : Prop :=
  u.sent = s.sent ++ [m] ∧ (u.thread t).wait = .access m.hdr.tid d ∧ (∀ r, (u.thread t).gpr r = (s.thread t).gpr r) ∧
    (u.thread t).pc = (s.thread t).pc ∧ (∀ t', t' ≠ t → u.thread t' = s.thread t') ∧ u.mem = s.mem ∧ u.regs = s.regs ∧
    u.homes = s.homes

/-- The core may send a request for the line: its die holds a credit of the pool, and its sources are not held (R241, R567). -/
def State.canAsk (s : State) (t pool : Nat) (a : LineAddr) : Prop :=
  s.sourcesHeld = false ∧ s.credits (dieOf t) (s.chanOf (lineBase a)) pool ≠ 0

/-- The bytes of a load as rd receives them (R71): sign-extended for LB, LH, LW, zero-extended for LBU, LHU, LWU. -/
def loadedWord (op : LoadOp) (v : Nat) : Word :=
  match op with
  | .lb => (BitVec.ofNat 8 v).signExtend 64
  | .lh => (BitVec.ofNat 16 v).signExtend 64
  | .lw => (BitVec.ofNat 32 v).signExtend 64
  | .ld => BitVec.ofNat 64 v
  | .lbu => (BitVec.ofNat 8 v).zeroExtend 64
  | .lhu => (BitVec.ofNat 16 v).zeroExtend 64
  | .lwu => (BitVec.ofNat 32 v).zeroExtend 64

/-- The package is powered and does not stand in HALT. -/
def State.live (s : State) : Prop := modeStandby < s.mode ∧ s.mode ≠ modeHalt

/-- An error stops the package: it stands in HALT with ALERT_N asserted, DRAM as it was (R574, R575, R608). -/
def State.halts (s u : State) : Prop := u.mode = modeHalt ∧ u.alertN = true ∧ u.mem = s.mem

/-- Agent `n` is at rest in Arrival order, and no cache, engine or directory entry of the image holds a line of it. -/
def State.homeRests (s : State) (n : Nat) : Prop :=
  (s.home n).txns = [] ∧ (s.home n).held = [] ∧ (s.home n).recalls = [] ∧ (s.home n).recallBuf = [] ∧ (s.home n).presence = [] ∧
    s.monitors = [] ∧ s.reshaping = false ∧ s.oldLayout.total = 0 ∧ s.fld (regHomStatus n) 1 0 = 0

/-- The message is for agent `n` of this package, from one of its compute dies, about a line of it. -/
def State.homeTakes (s : State) (n : Nat) (h : Hdr) : Prop :=
  agentPkg h.dst = s.pkgNum ∧ agentDie h.dst = 12 ∧ agentUnit h.dst = n ∧ agentPkg h.src = s.pkgNum ∧ agentDie h.src < 12 ∧
    linePkg h.addr = s.pkgNum

/-- The source's partition of the pool has room (R241, R242). -/
def State.poolRoom (s : State) (n pool : Nat) (h : Hdr) : Bool :=
  decide (Tbl.get 0 (if pool = 0 then (s.home n).reqUsed else (s.home n).wbUsed) (s.keyOf h.src) <
    (s.home n).partition pool (s.keyOf h.src))

/-- A read of the line meets no error: it has been written, none is latched, and no injection is armed. -/
def State.readsClean (s : State) (a : Nat) : Prop :=
  s.isWritten a = true ∧ Tbl.get 0 s.dramBad a = 0 ∧ bit (s.reg regGlbInject) 63 = false ∧ s.realms.keyBad = []

/-- The message reaches core `c`: it exists, and its domain is open. -/
def State.coreTakes (s : State) (c : Nat) (h : Hdr) : Prop :=
  s.coreOfAgent h.dst = some c ∧ s.coreExists c = true ∧ s.domainOpen (c / 4) = true

/-- Threads and DRAM are as they were; of the list of messages sent, only the delivered one has left. -/
def State.takesOnly (s u : State) (m : Msg) : Prop := u.sent = s.sent.erase m ∧ u.mem = s.mem ∧ u.threads = s.threads

/-- A management message of this package to package `p`. -/
def State.mgmt (s : State) (ty : MsgType) (p : Nat) (b : Body) : Msg :=
  { type := ty, hdr := { src := agentId s.pkgNum 12 96, dst := agentId p 12 96, stamp := s.clause }, body := b }

/-- DRAM, threads and cores are as they were. -/
def State.sameMachine (s u : State) : Prop := u.mem = s.mem ∧ u.threads = s.threads ∧ u.cores = s.cores

/-- The package has entered mode `new` by transition `trans` of R559, from its mode before (R558). -/
def State.entersMode (s u : State) (new trans : Nat) : Prop :=
  u.mode = new ∧ u.fld regGlbMode 11 8 = s.mode ∧ u.fld regGlbMode 23 16 = trans ∧ u.reg regGlbModetime = s.clause

/-- A command of the platform host that has been accepted is the next event to resolve: it is alone in its clause, the horizon of that
clause has passed, and what else waits belongs to later clauses (R29, R40). -/
def State.resolves (s : State) (c : Command) : Bool :=
  match s.events.find? (fun e => decide (e.kind = .command c)) with
  | some e => decide (e.recs = [] ∧ e.clause.toNat + s.horizon ≤ s.clause.toNat ∧ e.clause.toNat < s.clause.toNat) &&
      decide (s.events.filter (fun x => decide (x.clause.toNat ≤ e.clause.toNat)) = [e])
  | none => false

/-- Such a command comes to its resolution: this package serves the host and judges it, and it is legal in the mode by which it is judged
(R503, R564). -/
def State.judges (s : State) (c : Command) (op : Nat) : Prop :=
  s.resolves c = true ∧ c.opcode.toNat = op ∧ modeSealed ≤ s.mode ∧ s.servesHost = true ∧ c.gen = s.epf.gen ∧
    (c.target = 0xff ∨ c.target.toNat = s.pkgNum) ∧ s.legalIn c (if c.target = 0xff then s.imageJudge else s.ownJudge) = true

/-- The command's completion waits for its ring, with its status and results (R497, R500). -/
def State.completes (s u : State) (c : Command) (status : Nat) (r0 r1 : Word) : Prop :=
  u.completions = s.completions ++ [{ cmd := c, status := status, r0 := r0, r1 := r1 }]

/-- The command runs on: its completion is RUNNING, and it has its operation number (R508). -/
def State.runsOn (s u : State) (c : Command) : Prop :=
  u.completions = s.completions ++ [{ cmd := { c with oper := s.opNext }, status := stRunning, final := false }] ∧
    u.opNext = (if s.opNext = 255 then 1 else s.opNext + 1)

/-- The package is the image's only member, and no other command of several steps is under way. -/
def State.alone (s : State) : Prop :=
  s.otherMembers = [] ∧ s.memberJobs = [] ∧ s.realms.hold = none ∧ s.realms.queue = [] ∧ s.realms.pageJobs = []

end Sys2Proof.Machine
end

