-- ==== Sys2Proof/Certificates/Slice0/Obligations.lean ====
section
/-! DEFINITION. The statements for the provers: one definition per obligation. -/
open Sys2Proof Sys2Proof.Machine

/-! ## The machine -/

/-- One step takes the command at the front of the queue and runs it with the queue's rest; on an empty queue a clause passes (log entry
39). -/
def Obligations.StepRunsFront : Prop :=
  (∀ (s : State) (c : Instr), step { s with pending := c :: s.pending } = exec c s) ∧
  ∀ s : State, s.pending = [] → step s = .next s.tick

/-- R560, R555: after reset the package stands in SENSE, its queue is empty, and DRAM lists nothing. The instant that reset names is the
model's choice (log entry 3). -/
def Obligations.ResetState : Prop :=
  State.reset.mode = modeSense ∧ State.reset.pending = [] ∧ State.reset.mem = [] ∧ State.reset.threads = [] ∧ State.reset.cores = [] ∧
  State.reset.sent = [] ∧ State.reset.running = false

/-- Memory at reset is in canonical form. -/
def Obligations.ResetMemory : Prop := State.reset.MemOk

/-- Every step keeps the canonical form of DRAM contents: addresses strictly rising, no zero byte. -/
def Obligations.StepKeepsMemory : Prop := ∀ s u : State, s.MemOk → step s = .next u → u.MemOk

/-- A written line reads back, and every byte outside it reads as before, whatever was written. -/
def Obligations.LineReadsBack : Prop :=
  ∀ (s : State) (a : Nat) (l : Line), s.MemOk →
    (s.writeMem a l).readMem a = l ∧ (s.writeMem a l).MemOk ∧
    ∀ b, b < a ∨ a + 64 ≤ b → memGet (s.writeMem a l).mem b = memGet s.mem b

/-! ## Integer instructions -/

/-- When an instruction starts: in a running package a thread at H without tables, whose pc lies in DRAM, with no interrupt it may take, no
access under way and no injection armed, begins its next instruction in the very state it stands in. -/
def Obligations.InstructionStarts : Prop :=
  ∀ (s : State) (t : Nat) (unit : Option Nat), s.threadExists t = true → s.canStart t = true → (s.thread t).takeable = none →
    (s.thread t).level = 2 → bit (s.thread t).h.ttbase 0 = false → (s.thread t).ad = none →
    (wordOfPc (s.thread t).pc).toNat < 2 ^ 52 → s.region (wordOfPc (s.thread t).pc).toNat = .dram → bit (s.reg regGlbInject) 63 = false →
    s.starts t unit s

/-- R62: the immediate instructions. -/
def Obligations.IntegerImmediates : Prop :=
  ∀ (t : ThreadPos) (rd ra : BitVec 5) (imm : BitVec 16) (s s' : State), s.starts t.val (some 0) s' →
    let a := (s'.thread t.val).gpr ra
    let gives (c : Instr) (w : Word) : Prop := Ends c s (fun u => s'.computes u t.val rd w)
    gives (.addi t rd ra imm) (a + imm.signExtend 64) ∧ gives (.andi t rd ra imm) (a &&& imm.zeroExtend 64) ∧
    gives (.ori t rd ra imm) (a ||| imm.zeroExtend 64) ∧ gives (.xori t rd ra imm) (a ^^^ imm.zeroExtend 64) ∧
    gives (.lui t rd imm) (imm.signExtend 64 * 2 ^ 16) ∧ gives (.addis t rd ra imm) (a + imm.signExtend 64 * 2 ^ 16) ∧
    gives (.slti t rd ra imm) (if a.toInt < (imm.signExtend 64).toInt then 1 else 0) ∧
    gives (.sltiu t rd ra imm) (if a.toNat < (imm.signExtend 64).toNat then 1 else 0)

/-- R63: ALU, MULDIV and SHIFT by function code, with the value of most codes (the others in ProductsAndCounts and Divisions); an
unassigned code, or rc not 0 where the code does not use it, raises ILLEGAL. -/
def Obligations.IntegerRegisterForms : Prop :=
  ∀ (t : ThreadPos) (rc rb ra rd : BitVec 5) (s s' : State),
    let a := (s'.thread t.val).gpr ra
    let b := (s'.thread t.val).gpr rb
    let c := (s'.thread t.val).gpr rc
    let gives (i : Instr) (w : Word) : Prop := Ends i s (fun u => s'.computes u t.val rd w)
    (s.starts t.val (some 0) s' → rc = 0 →
      gives (.alu t 0x00 rc rb ra rd) (a + b) ∧ gives (.alu t 0x01 rc rb ra rd) (a - b) ∧ gives (.alu t 0x02 rc rb ra rd) (a &&& b) ∧
      gives (.alu t 0x03 rc rb ra rd) (a ||| b) ∧ gives (.alu t 0x04 rc rb ra rd) (a ^^^ b) ∧ gives (.alu t 0x05 rc rb ra rd) (~~~(a ||| b)) ∧
      gives (.alu t 0x07 rc rb ra rd) (if a.toInt < b.toInt then 1 else 0) ∧ gives (.alu t 0x08 rc rb ra rd) (if a.toNat < b.toNat then 1 else 0) ∧
      gives (.alu t 0x0E rc rb ra rd) (((a + b).truncate 32).signExtend 64) ∧ gives (.alu t 0x0F rc rb ra rd) (((a - b).truncate 32).signExtend 64)) ∧
    (s.starts t.val (some 0) s' → gives (.alu t 0x0D rc rb ra rd) (if c = 0 then a else b)) ∧
    (s.starts t.val (some 0) s' → rc = 0 →
      gives (.shift t 0x00 rc rb ra rd) (a <<< (b.toNat % 64)) ∧ gives (.shift t 0x01 rc rb ra rd) (a >>> (b.toNat % 64)) ∧
      gives (.shift t 0x02 rc rb ra rd) (a.sshiftRight (b.toNat % 64)) ∧ gives (.shift t 0x03 rc rb ra rd) (a.rotateRight (b.toNat % 64))) ∧
    (s.starts t.val (some 0) s' → rb = 0 →
      gives (.shift t 0x04 rc rb ra rd) (a <<< rc.toNat) ∧ gives (.shift t 0x05 rc rb ra rd) (a <<< (32 + rc.toNat)) ∧
      gives (.shift t 0x06 rc rb ra rd) (a >>> rc.toNat) ∧ gives (.shift t 0x07 rc rb ra rd) (a >>> (32 + rc.toNat)) ∧
      gives (.shift t 0x08 rc rb ra rd) (a.sshiftRight rc.toNat) ∧ gives (.shift t 0x09 rc rb ra rd) (a.sshiftRight (32 + rc.toNat)) ∧
      gives (.shift t 0x0A rc rb ra rd) (a.rotateRight rc.toNat) ∧ gives (.shift t 0x0B rc rb ra rd) (a.rotateRight (32 + rc.toNat))) ∧
    (s.starts t.val (some 5) s' → rc = 0 → gives (.muldiv t 0x00 rc rb ra rd) (a * b)) ∧
    (s.starts t.val (some 5) s' → gives (.muldiv t 0x08 rc rb ra rd) (a * b + c)) ∧
    (s.starts t.val (some 0) s' → ∀ fn : BitVec 6, 0x10 ≤ fn.toNat → exec (.alu t fn rc rb ra rd) s = .next (s'.illegal t.val)) ∧
    (s.starts t.val (some 0) s' → rc ≠ 0 → ∀ fn : BitVec 6, fn ≠ 0x0D → exec (.alu t fn rc rb ra rd) s = .next (s'.illegal t.val)) ∧
    (s.starts t.val (some 5) s' → (∀ fn : BitVec 6, 0x09 ≤ fn.toNat → exec (.muldiv t fn rc rb ra rd) s = .next (s'.illegal t.val)) ∧
      (rc ≠ 0 → ∀ fn : BitVec 6, fn.toNat < 4 → exec (.muldiv t fn rc rb ra rd) s = .next (s'.illegal t.val))) ∧
    (s.starts t.val (some 0) s' → (∀ fn : BitVec 6, 0x10 ≤ fn.toNat → exec (.shift t fn rc rb ra rd) s = .next (s'.illegal t.val)) ∧
      (rc ≠ 0 → exec (.shift t 0x00 rc rb ra rd) s = .next (s'.illegal t.val) ∧ exec (.shift t 0x0C rc rb ra rd) s = .next (s'.illegal t.val)) ∧
      (rb ≠ 0 → exec (.shift t 0x04 rc rb ra rd) s = .next (s'.illegal t.val)))

/-- R63: the high halves of the products, ANDN, the minima and maxima, and the counts of bits and the byte reversal. -/
def Obligations.ProductsAndCounts : Prop :=
  ∀ (t : ThreadPos) (rb ra rd : BitVec 5) (s s' : State),
    let a := (s'.thread t.val).gpr ra
    let b := (s'.thread t.val).gpr rb
    let gives (i : Instr) (w : Word) : Prop := Ends i s (fun u => s'.computes u t.val rd w)
    (s.starts t.val (some 5) s' → gives (.muldiv t 0x01 0 rb ra rd) (BitVec.ofInt 64 (a.toInt * b.toInt / 2 ^ 64)) ∧
      gives (.muldiv t 0x02 0 rb ra rd) (BitVec.ofNat 64 (a.toNat * b.toNat / 2 ^ 64)) ∧
      gives (.muldiv t 0x03 0 rb ra rd) (BitVec.ofInt 64 (a.toInt * b.toNat / 2 ^ 64))) ∧
    (s.starts t.val (some 0) s' → gives (.alu t 0x06 0 rb ra rd) (a &&& ~~~b) ∧
      gives (.alu t 0x09 0 rb ra rd) (if a.toInt < b.toInt then a else b) ∧ gives (.alu t 0x0A 0 rb ra rd) (if a.toInt < b.toInt then b else a) ∧
      gives (.alu t 0x0B 0 rb ra rd) (if a.toNat < b.toNat then a else b) ∧ gives (.alu t 0x0C 0 rb ra rd) (if a.toNat < b.toNat then b else a)) ∧
    (s.starts t.val (some 0) s' → gives (.shift t 0x0C 0 0 ra rd) (BitVec.ofNat 64 ((List.range 64).findIdx (fun i => a.getLsbD (63 - i)))) ∧
      gives (.shift t 0x0D 0 0 ra rd) (BitVec.ofNat 64 ((List.range 64).findIdx (fun i => a.getLsbD i))) ∧
      gives (.shift t 0x0E 0 0 ra rd) (BitVec.ofNat 64 ((List.range 64).countP (fun i => a.getLsbD i))) ∧
      gives (.shift t 0x0F 0 0 ra rd) (BitVec.ofNat 64 (beNat (leBytes a.toNat 8))))

/-- R63, R64: the quotient rounds toward zero and the remainder has the sign of ra; division by zero and the overflowing quotient do not
trap. -/
def Obligations.Divisions : Prop :=
  ∀ (t : ThreadPos) (rb ra rd : BitVec 5) (s s' : State), s.starts t.val (some 4) s' →
    let a := (s'.thread t.val).gpr ra
    let b := (s'.thread t.val).gpr rb
    let gives (i : Instr) (w : Word) : Prop := Ends i s (fun u => s'.computes u t.val rd w)
    (b = 0 → gives (.muldiv t 0x04 0 rb ra rd) 0xffffffffffffffff ∧ gives (.muldiv t 0x05 0 rb ra rd) 0xffffffffffffffff ∧
      gives (.muldiv t 0x06 0 rb ra rd) a ∧ gives (.muldiv t 0x07 0 rb ra rd) a) ∧
    (a = 0x8000000000000000 → b = 0xffffffffffffffff → gives (.muldiv t 0x04 0 rb ra rd) 0x8000000000000000 ∧
      gives (.muldiv t 0x06 0 rb ra rd) 0) ∧
    (b ≠ 0 → gives (.muldiv t 0x04 0 rb ra rd) (BitVec.ofInt 64 (a.toInt.tdiv b.toInt)) ∧
      gives (.muldiv t 0x05 0 rb ra rd) (BitVec.ofNat 64 (a.toNat / b.toNat)) ∧
      gives (.muldiv t 0x06 0 rb ra rd) (BitVec.ofInt 64 (a.toInt.tmod b.toInt)) ∧
      gives (.muldiv t 0x07 0 rb ra rd) (BitVec.ofNat 64 (a.toNat % b.toNat)))

/-! ## Control transfers -/

/-- R65, R66: the conditional transfers. Outside a delay slot the transfer goes to its slot, from which execution goes on at the target
when the condition holds and at p + 8 otherwise; with A = 1 and a false condition the slot is annulled. In a slot it raises SLOT. R65, R66,
R69: the unconditional transfers, their links, and the alignment of JALR's target. -/
def Obligations.ControlTransfers : Prop :=
  (∀ (t : ThreadPos) (a : Bool) (ra rb : BitVec 5) (disp : BitVec 15) (s s' : State), s.starts t.val none s' →
      let y := s'.thread t.val
      let x := y.gpr ra
      let z := y.gpr rb
      let target : BitVec 57 := y.pc + disp.signExtend 57 * 4
      let branches (i : Instr) (cond : Bool) : Prop :=
        (y.slot = none → Ends i s (fun u => (∀ r, (u.thread t.val).gpr r = y.gpr r) ∧
          (if cond then s'.transfers u t.val (y.pc + 4) (some target)
           else if a then s'.transfers u t.val (y.pc + 8) none
           else s'.transfers u t.val (y.pc + 4) (some (y.pc + 8))))) ∧
        (y.slot ≠ none → exec i s = .next (s'.slotFault t.val))
      branches (.beq t a ra rb disp) (decide (x = z)) ∧ branches (.bne t a ra rb disp) (decide (x ≠ z)) ∧
      branches (.blt t a ra rb disp) (decide (x.toInt < z.toInt)) ∧ branches (.bge t a ra rb disp) (decide (z.toInt ≤ x.toInt)) ∧
      branches (.bltu t a ra rb disp) (decide (x.toNat < z.toNat)) ∧ branches (.bgeu t a ra rb disp) (decide (z.toNat ≤ x.toNat))) ∧
  (∀ (t : ThreadPos) (a : Bool) (rd ra : BitVec 5) (disp : BitVec 25) (s s' : State), s.starts t.val none s' →
      let y := s'.thread t.val
      let link : Word := (y.pc + 8).signExtend 64
      let jumps (i : Instr) (r : BitVec 5) (target : BitVec 57) : Prop :=
        (y.slot = none → Ends i s (fun u => wroteGpr y (u.thread t.val) r link ∧
          (if a then s'.transfers u t.val target none else s'.transfers u t.val (y.pc + 4) (some target))))
      jumps (.j t a disp) 0 (y.pc + disp.signExtend 57 * 4) ∧ jumps (.jal t a disp) 31 (y.pc + disp.signExtend 57 * 4) ∧
      ((y.gpr ra).toNat % 4 = 0 → jumps (.jalr t a rd ra) rd (BitVec.ofNat 57 (y.gpr ra).toNat)) ∧
      (y.slot = none → (y.gpr ra).toNat % 4 ≠ 0 →
        exec (.jalr t a rd ra) s = .next (s'.raise t.val { code := 0x04, eaddr := y.gpr ra })) ∧
      (y.slot ≠ none → exec (.j t a disp) s = .next (s'.slotFault t.val) ∧ exec (.jal t a disp) s = .next (s'.slotFault t.val) ∧
        exec (.jalr t a rd ra) s = .next (s'.slotFault t.val)))

/-! ## Loads, stores, atomics -/

/-- R71, R72, R165: the loads from cacheable memory. Where the access's pieces are cacheable and their bytes are held, rd receives them,
extended as the load says; the address is ra + sext(imm16), ra + rb, or ra. R74: PREF retires whatever the address, and raises nothing;
what it brings in is the prefetch's. An access whose line is absent is given again (log entry 43). -/
def Obligations.LoadsAndPrefetch : Prop :=
  (∀ (t : ThreadPos) (op : LoadOp) (rd ra rb : BitVec 5) (imm : BitVec 16) (s s' s2 s3 : State) (ps : List Piece) (v : Nat),
      s.starts t.val (some 2) s' → ps ≠ [] → (∀ p ∈ ps, p.mt = 0) → s2.readPieces t.val ps = (s3, some v) →
      let y := s'.thread t.val
      let loads (i : Instr) (op : LoadOp) (va : Word) (form : AccForm) : Prop :=
        s'.pieces t.val va (loadSize op) .load form = (s2, .ok ps) → (form = .aligned → s2.mbOf t.val = []) →
          Ends i s (fun u => s3.computes u t.val rd (loadedWord op v))
      loads (.load t op rd ra imm) op (y.gpr ra + imm.signExtend 64) .plain ∧ loads (.loadIndexed t op rd ra rb) op (y.gpr ra + y.gpr rb) .plain ∧
      loads (.law t rd ra) .lw (y.gpr ra) .aligned ∧ loads (.lad t rd ra) .ld (y.gpr ra) .aligned) ∧
  (∀ (t : ThreadPos) (write : Bool) (ra rb : BitVec 5) (s s' : State), s.starts t.val (some 1) s' →
      let f := s'.prefetch t.val ((s'.thread t.val).gpr ra + (s'.thread t.val).gpr rb) write
      Ends (.pref t write ra rb) s (fun u => f.jumps u t.val (f.thread t.val).nextPc none ∧ u.mem = s'.mem))

/-- R71, R72, R161, R162: the stores to memory. Where the access's pieces are not device memory and the merging buffer takes them, the
store retires; a release store closes the thread's entries first. An access whose line is absent is given again (log entry 43). -/
def Obligations.Stores : Prop :=
  ∀ (t : ThreadPos) (op : StoreOp) (rs ra rb : BitVec 5) (imm : BitVec 16) (s s' s2 s3 : State) (p : Piece) (ps : List Piece),
    s.starts t.val (some 3) s' → p.mt ≠ 2 →
    let y := s'.thread t.val
    let stores (i : Instr) (n : Nat) (v va : Word) (release : Bool) : Prop :=
      s'.pieces t.val va n .store (if release then .aligned else .plain) = (s2, .ok (p :: ps)) →
      (if release then s2.closeMb t.val else s2).mbStorePieces t.val v.toNat release (p :: ps) = some s3 →
        Ends i s (fun u => s3.jumps u t.val (s3.thread t.val).nextPc none)
    stores (.store t op rs ra imm) (storeSize op) (y.gpr rs) (y.gpr ra + imm.signExtend 64) false ∧
    stores (.storeIndexed t op rs ra rb) (storeSize op) (y.gpr rs) (y.gpr ra + y.gpr rb) false ∧
    stores (.srw t ra rb) 4 (y.gpr rb) (y.gpr ra) true ∧ stores (.srd t ra rb) 8 (y.gpr rb) (y.gpr ra) true

/-- R161, R164, R165: what a store leaves in the merging buffer. It enters an open entry of its thread for the line, or a new one when
there is room; then the thread's buffer forwards exactly the stored bytes over what it forwarded before, and no other state changes. (An
open entry that another entry of the line follows, which a page mapped with two memory types could give, takes the store in its place.) -/
def Obligations.StoreMerges : Prop :=
  ∀ (s s3 : State) (t : ThreadPos) (a : LineAddr) (d : Line) (m : BitVec 64) (uncached closed zero : Bool),
    s.mbStore t.val a d m uncached closed zero = some s3 →
    let l := (s.mbOf t.val).filter (fun e => e.line = a)
    let opened (e : MbEntry) : Bool := !e.closed && decide (e.uncached = uncached)
    (mbForward (s3.mbOf t.val) a).1 = (mbForward (s.mbOf t.val) a).1 ||| m ∧
    (closed = true ∨ l.any opened = false ∨ l.getLast?.any opened = true →
      (mbForward (s3.mbOf t.val) a).2 = mergeLine (mbForward (s.mbOf t.val) a).2 d m) ∧
    s3.mem = s.mem ∧ s3.threads = s.threads ∧ s3.sent = s.sent ∧ s3.regs = s.regs ∧
    (∀ c, c ≠ coreOf t.val → s3.core c = s.core c) ∧
    (∀ b, b ≠ a → mbForward (s3.mbOf t.val) b = mbForward (s.mbOf t.val) b)

/-- R75, R77, R241: the far atomics. In cacheable memory, with no entry of the merging buffer to wait for and a credit held, the request
goes to the line's home with the operation, the operand and the compare value, and the thread waits for the old value. An access whose line
is absent is given again (log entry 43). -/
def Obligations.FarAtomics : Prop :=
  ∀ (t : ThreadPos) (wide : Bool) (ord : BitVec 2) (rd ra rb rc : BitVec 5) (s s' s2 : State) (p : Piece),
    s.starts t.val (some 1) s' →
    s'.pieces t.val ((s'.thread t.val).gpr ra) (if wide then 8 else 4) .store .aligned = (s2, .ok [p]) → p.mt = 0 →
    s2.atomWaits t.val p.line ord = false → s2.canAsk t.val 0 p.line →
    let y := s'.thread t.val
    let tid := (s2.core (coreOf t.val)).nextTid
    let asks (i : Instr) (op : AtomOp) (compare : Word) : Prop :=
      Ends i s (fun u => s2.asks u t.val
        { type := .atom, hdr := s2.coreHdr (coreOf t.val) t.val p.line tid (s2.thread t.val).realm,
          body := .atom { op := op, wide := wide, off := BitVec.ofNat 6 p.off, operand := y.gpr rb, compare := compare } } (.atomic rd wide))
    asks (.aadd t wide ord rd ra rb) .add 0 ∧ asks (.aand t wide ord rd ra rb) .and 0 ∧ asks (.aor t wide ord rd ra rb) .or 0 ∧
    asks (.axor t wide ord rd ra rb) .xor 0 ∧ asks (.aswap t wide ord rd ra rb) .swap 0 ∧ asks (.amin t wide ord rd ra rb) .min 0 ∧
    asks (.amax t wide ord rd ra rb) .max 0 ∧ asks (.acas t wide ord rd ra rb rc) .cas (y.gpr rc)

/-- R75: what the home's atomic unit does to the addressed bytes: the old value is the answer, and the line receives the result. -/
def Obligations.AtomicResults : Prop :=
  ∀ (o b c : Nat), o < 2 ^ 64 → b < 2 ^ 64 → c < 2 ^ 64 →
    atomApply .add 64 o b c = (o + b) % 2 ^ 64 ∧ atomApply .and 64 o b c = o &&& b ∧ atomApply .or 64 o b c = o ||| b ∧
    atomApply .xor 64 o b c = o ^^^ b ∧ atomApply .swap 64 o b c = b ∧
    (atomApply .cas 64 o b c = if o = c then b else o) ∧
    ((BitVec.ofNat 64 (atomApply .min 64 o b c)).toInt = min (BitVec.ofNat 64 o).toInt (BitVec.ofNat 64 b).toInt) ∧
    ((BitVec.ofNat 64 (atomApply .max 64 o b c)).toInt = max (BitVec.ofNat 64 o).toInt (BitVec.ofNat 64 b).toInt)

/-! ## Vector instructions -/

/-- R78, R79: VINT by function code. Every active element receives its result, the bits of a comparison go to the mask register, every
inactive element keeps its value, and nothing else is written. An unassigned function code, or a mask register above k7, raises ILLEGAL.
R79, R80, R83: VFP by function code, on binary32 (esz 10b) and binary64 (11b). Every active element receives its result, rounded by RM, or
its bit of the mask register; the flags of the active elements are set in FPCSR, and nothing else is written. Another esz, an unassigned
code, vb not 0 where it is unused, and a mask register above k7 raise ILLEGAL. VMASK by function code, on mask registers and on elements:
each writes its one register. An unassigned code raises ILLEGAL, as does an element number beyond the count. -/
def Obligations.VectorRegisters : Prop :=
  (∀ (t : ThreadPos) (esz : BitVec 2) (k : BitVec 3) (vb va vd : BitVec 5) (s s' : State), s.starts t.val (some 6) s' →
      let y := s'.thread t.val
      let w := elemBits esz
      let m := y.mask k
      let a (i : Nat) : Nat := elem w (y.vec va) i
      let b (i : Nat) : Nat := elem w (y.vec vb) i
      let sa (i : Nat) : Int := signedOf w (a i)
      let sb (i : Nat) : Int := signedOf w (b i)
      let elems (fn : BitVec 6) (f : Nat → Nat) : Prop := Ends (.vint t fn esz k vb va vd) s (fun u =>
        s'.writesVec u t.val vd esz (fun i => if active m i then f i else elem w (y.vec vd) i) ∧ (u.thread t.val).fpcsr = y.fpcsr)
      let compares (fn : BitVec 6) (f : Nat → Bool) : Prop :=
        (vd.toNat < 8 → Ends (.vint t fn esz k vb va vd) s (fun u => (u.thread t.val).fpcsr = y.fpcsr ∧
          s'.writesMask u t.val (vd.truncate 3) (BitVec.ofNat 32 (maskOf (fun i => active m i && f i) (elemCount esz))))) ∧
        (8 ≤ vd.toNat → exec (.vint t fn esz k vb va vd) s = .next (s'.illegal t.val))
      elems 0x00 (fun i => a i + b i) ∧ elems 0x01 (fun i => a i + 2 ^ w - b i) ∧ elems 0x02 (fun i => a i * b i) ∧
      elems 0x03 (fun i => elemOfInt w (sa i * sb i / (2 ^ w : Nat))) ∧
      elems 0x04 (fun i => if sa i < sb i then a i else b i) ∧ elems 0x05 (fun i => if sa i < sb i then b i else a i) ∧
      elems 0x06 (fun i => if a i < b i then a i else b i) ∧ elems 0x07 (fun i => if a i < b i then b i else a i) ∧
      elems 0x08 (fun i => a i &&& b i) ∧ elems 0x09 (fun i => a i ||| b i) ∧ elems 0x0A (fun i => a i ^^^ b i) ∧
      elems 0x0B (fun i => a i &&& (2 ^ w - 1 - b i)) ∧ elems 0x0C (fun i => a i * 2 ^ (b i % w)) ∧ elems 0x0D (fun i => a i / 2 ^ (b i % w)) ∧
      elems 0x0E (fun i => elemOfInt w (sa i / (2 ^ (b i % w) : Nat))) ∧
      elems 0x14 (fun i => elemOfInt w (max (-(2 ^ (w - 1) : Nat)) (min ((2 ^ (w - 1) : Nat) - 1) (sa i + sb i)))) ∧
      elems 0x15 (fun i => min (2 ^ w - 1) (a i + b i)) ∧
      compares 0x10 (fun i => decide (a i = b i)) ∧ compares 0x11 (fun i => decide (sa i < sb i)) ∧ compares 0x12 (fun i => decide (a i < b i)) ∧
      ∀ fn : BitVec 6, fn = 0x0F ∨ fn = 0x13 ∨ 0x16 ≤ fn.toNat → exec (.vint t fn esz k vb va vd) s = .next (s'.illegal t.val)) ∧
  (∀ (t : ThreadPos) (esz : BitVec 2) (k : BitVec 3) (vb va vd : BitVec 5) (s s' : State),
      let y := s'.thread t.val
      let w := elemBits esz
      let n := elemCount esz
      let f : FpFormat := if esz = 2 then fp32 else fp64
      let m := y.mask k
      let e (v : BitVec 5) (i : Nat) : Nat := elem w (y.vec v) i
      let num (v : BitVec 5) (i : Nat) : FpVal := f.decode (e v i)
      let flags (g : Nat → Nat) (u : State) : Prop :=
        (u.thread t.val).fpcsr = y.fpcsr ||| BitVec.ofNat 64 (256 * (orFlags m g n % 32))
      let ops (fn : BitVec 6) (g : Nat → FpRes) : Prop := Ends (.vfp t fn esz k vb va vd) s (fun u => flags (fun i => (g i).2) u ∧
        s'.writesVec u t.val vd esz (fun i => if active m i then (g i).1 else e vd i))
      let bad (fn : BitVec 6) : Prop := exec (.vfp t fn esz k vb va vd) s = .next (s'.illegal t.val)
      let tests (fn : BitVec 6) (g : Nat → Bool) (invalid : FpVal → Bool) : Prop :=
        (vd.toNat < 8 → Ends (.vfp t fn esz k vb va vd) s (fun u =>
          flags (fun i => if invalid (num va i) || invalid (num vb i) then flNV else 0) u ∧
          s'.writesMask u t.val (vd.truncate 3) (BitVec.ofNat 32 (maskOf (fun i => active m i && g i) n)))) ∧ (8 ≤ vd.toNat → bad fn)
      let mask (fn : BitVec 6) : Instr := .vmask t fn esz k vb va vd
      let wrong (fn : BitVec 6) : Prop := exec (mask fn) s = .next (s'.illegal t.val)
      let ka := y.mask (va.truncate 3)
      let kb := y.mask (vb.truncate 3)
      let kop (fn : BitVec 6) (x : BitVec 32) : Prop := Ends (mask fn) s (fun u => s'.writesMask u t.val (vd.truncate 3) x ∧
        (u.thread t.val).fpcsr = y.fpcsr)
      let writes (fn : BitVec 6) (g : Nat → Nat) : Prop := Ends (mask fn) s (fun u => s'.writesVec u t.val vd esz g ∧
        (u.thread t.val).fpcsr = y.fpcsr)
      let gives (fn : BitVec 6) (x : Word) : Prop := Ends (mask fn) s (fun u => s'.computes u t.val vd x)
      let act := (upTo n).filter (active m)
      (s.starts t.val (some 7) s' → 2 ≤ esz.toNat →
        ops 0x00 (fun i => fpAdd f y.rm (num va i) (num vb i)) ∧ ops 0x01 (fun i => fpSub f y.rm (num va i) (num vb i)) ∧
        ops 0x02 (fun i => fpMul f y.rm (num va i) (num vb i)) ∧ ops 0x03 (fun i => fpDiv f y.rm (num va i) (num vb i)) ∧
        ops 0x04 (fun i => fpFma f y.rm (num va i) (num vb i) (num vd i)) ∧
        ops 0x06 (fun i => fpMinMax f false (e va i) (e vb i)) ∧ ops 0x07 (fun i => fpMinMax f true (e va i) (e vb i)) ∧
        (vb = 0 → ops 0x05 (fun i => fpSqrt f y.rm (num va i)) ∧ ops 0x18 (fun i => fpOfInt f y.rm w (e va i)) ∧
          ops 0x19 (fun i => fpToInt f y.rm w (num va i))) ∧
        (vb ≠ 0 → bad 0x05 ∧ bad 0x18 ∧ bad 0x19) ∧
        tests 0x10 (fun i => fpEq (num va i) (num vb i)) FpVal.isSnan ∧ tests 0x11 (fun i => fpLt (num va i) (num vb i)) FpVal.isNan ∧
        tests 0x12 (fun i => fpLt (num va i) (num vb i) || fpEq (num va i) (num vb i)) FpVal.isNan ∧ bad 0x08 ∧ bad 0x1A) ∧
      (s.starts t.val (some 7) s' → esz.toNat < 2 → ∀ fn, bad fn) ∧
      (s.starts t.val none s' → esz = 0 → k = 0 →
        (va.toNat < 8 → vb.toNat < 8 → vd.toNat < 8 → kop 0x00 (ka &&& kb) ∧ kop 0x01 (ka ||| kb) ∧ kop 0x02 (ka ^^^ kb) ∧
          kop 0x03 (ka &&& ~~~kb)) ∧
        (vb = 0 → vd.toNat < 8 → kop 0x04 ((y.gpr va).truncate 32)) ∧
        (vb = 0 → va.toNat < 8 → gives 0x05 (ka.zeroExtend 64) ∧
          gives 0x06 (BitVec.ofNat 64 ((List.range 32).countP (fun i => ka.getLsbD i)))) ∧
        (8 ≤ va.toNat → wrong 0x00 ∧ wrong 0x05) ∧ wrong 0x07) ∧
      (s.starts t.val (some 6) s' →
        (vb.toNat < n → writes 0x08 (fun i => if i = vb.toNat ∧ active m i then (y.gpr va).toNat else e vd i) ∧
          (k = 0 → gives 0x09 (BitVec.ofNat 64 (e va vb.toNat)))) ∧
        (n ≤ vb.toNat → wrong 0x08 ∧ wrong 0x09) ∧
        (vb = 0 → writes 0x0A (fun i => if active m i then (y.gpr va).toNat else e vd i) ∧
          gives 0x0C (sextNat w ((act.map (e va)).sum)) ∧ writes 0x0D (fun i => (act.map (e va)).getD i 0)) ∧
        writes 0x0B (fun i => if active m i then e va (e vb i % n) else e vd i) ∧ wrong 0x0E ∧ wrong 0x3F))

/-- R79, R81: VLD reads its active elements in order into vd, the inactive ones keep their value; VST puts its active elements into the
merging buffer in order; both then retire. An access whose line is absent is given again (log entry 43). -/
def Obligations.VectorMemory : Prop :=
  ∀ (t : ThreadPos) (esz : BitVec 2) (k : BitVec 3) (va vd : BitVec 5) (s s' s2 s3 : State) (r : VAcc) (l : List (Nat × Nat)),
    s.starts t.val (some 1) s' → r.wait = false → r.excs = [] →
    let y := s'.thread t.val
    let len : Nat := 2 ^ esz.toNat
    let addr (i : Nat) : Word := y.gpr va + BitVec.ofNat 64 (i * len)
    let act := (upTo (elemCount esz)).filter (active (y.mask k))
    (s'.vecPieces t.val addr len .load false act = (s2, r) → s2.vecRead t.val r.ps = (s3, some l) →
      Ends (.vmem t 0x00 esz k 0 va vd) s (fun u => s3.onlyThread u t.val ∧ (u.thread t.val).slot = none ∧
        (u.thread t.val).pc = (s3.thread t.val).nextPc ∧ (∀ q, q ≠ vd → (u.thread t.val).vec q = (s3.thread t.val).vec q) ∧
        (u.thread t.val).vec vd = mapActive esz (y.mask k) ((s3.thread t.val).vec vd) (Tbl.get 0 l))) ∧
    (s'.vecPieces t.val addr len .store false act = (s2, r) → s2.vecStore t.val (elem (elemBits esz) (y.vec vd)) r.ps = some s3 →
      Ends (.vmem t 0x01 esz k 0 va vd) s (fun u => s3.jumps u t.val (s3.thread t.val).nextPc none))

/-! ## Exceptions and system instructions -/

/-- R84, R110, R111: SYSCALL, BREAK, an illegal word and, in realm 0, HCALL take their exceptions: the bank of the target level receives
status, pc, next pc, cause and address, the level becomes the target's with EXL set and IE clear, and the thread goes on at the vector. A
legal word given to ILLEGAL changes nothing. Memory and the other threads do not change. -/
def Obligations.TrapInstructions : Prop :=
  ∀ (t : ThreadPos) (word : BitVec 32) (s s' : State), s.starts t.val none s' →
    let x := s'.thread t.val
    let same (u : State) : Prop := u.mem = s'.mem ∧ ∀ t', t' ≠ t.val → u.thread t' = s'.thread t'
    let target : Nat := if x.level = 2 then 2 else 1
    let off : Nat := if x.level = target then 0 else 0x100
    let pc : Word := x.pc.signExtend 64
    (x.slot = none → ¬((x.level = 1 ∨ x.level = 2) ∧ x.exl) →
      Ends (.syscall t) s (fun u => entered x (u.thread t.val) target off { code := 0x0C, eaddr := pc } (x.pc + 4) (x.pc + 8) ∧ same u) ∧
      Ends (.brk t) s (fun u => entered x (u.thread t.val) target off { code := 0x0E, eaddr := pc } (x.pc + 4) (x.pc + 8) ∧ same u)) ∧
    (wordInstr t word = none → ¬((x.level = 1 ∨ x.level = 2) ∧ x.exl) →
      Ends (.illegal t word) s (fun u =>
        entered x (u.thread t.val) target off { code := 0x01, eaddr := pc } x.pc (x.slot.getD (x.pc + 4)) ∧ same u)) ∧
    (wordInstr t word ≠ none → exec (.illegal t word) s = .next s') ∧
    (x.slot = none → 1 ≤ x.level → x.realm = 0 → ¬(x.level = 2 ∧ x.exl) →
      Ends (.hcall t) s (fun u => entered x (u.thread t.val) 2 (if x.level = 2 then 0 else 0x100) { code := 0x0D, eaddr := pc }
        (x.pc + 4) (x.pc + 8) ∧ same u))

/-- R85, R70: below its level a system instruction raises PRIVILEGED; in an executing delay slot the trap instructions, WFI and RENTER
raise SLOT. -/
def Obligations.SystemInstructionGuards : Prop :=
  ∀ (t : ThreadPos) (ra rd : BitVec 5) (s s' : State), s.starts t.val none s' →
    let x := s'.thread t.val
    (x.level = 0 → exec (.rte t) s = .next (s'.privileged t.val) ∧ exec (.wfi t) s = .next (s'.privileged t.val) ∧
      exec (.hcall t) s = .next (s'.privileged t.val) ∧ exec (.tlbi t ra rd) s = .next (s'.privileged t.val) ∧
      exec (.syncT t) s = .next (s'.privileged t.val) ∧ exec (.rsclr t) s = .next (s'.privileged t.val)) ∧
    (x.level ≤ 1 → exec (.renter t ra) s = .next (s'.privileged t.val)) ∧
    (x.slot ≠ none → exec (.syscall t) s = .next (s'.slotFault t.val) ∧ exec (.brk t) s = .next (s'.slotFault t.val) ∧
      (1 ≤ x.level → exec (.wfi t) s = .next (s'.slotFault t.val)))

/-- R113: RTE restores the level, IE, SXG and SAG from c.estatus, clears EXL, and goes on at c.epc, in a delay slot before c.enpc when DS =
1. It writes nothing else. A level above the present one raises PRIVILEGED (R108), and an executing delay slot raises SLOT (R70). -/
def Obligations.ReturnFromException : Prop :=
  ∀ (t : ThreadPos) (s s' : State), s.starts t.val none s' →
    let x := s'.thread t.val
    let b := x.bank (decide (x.level = 2))
    (1 ≤ x.level → bits b.estatus 1 0 ≤ x.level → x.slot = none →
      Ends (.rte t) s (fun u =>
        let y := u.thread t.val
        s'.onlyThread u t.val ∧ y.level = bits b.estatus 1 0 ∧ y.ie = bit b.estatus 2 ∧ y.exl = false ∧ y.sxg = bit b.estatus 4 ∧
        y.sag = bit b.estatus 5 ∧ y.pc = BitVec.ofNat 57 (b.epc.toNat / 4 * 4) ∧
        y.slot = (if bit b.estatus 16 then some (BitVec.ofNat 57 (b.enpc.toNat / 4 * 4)) else none) ∧
        (∀ r, y.gpr r = x.gpr r) ∧ y.s = x.s ∧ y.h = x.h ∧ y.realm = x.realm ∧ y.v = x.v ∧ y.k = x.k)) ∧
    (1 ≤ x.level → x.level < bits b.estatus 1 0 → exec (.rte t) s = .next (s'.privileged t.val)) ∧
    (1 ≤ x.level → bits b.estatus 1 0 ≤ x.level → x.slot ≠ none → exec (.rte t) s = .next (s'.slotFault t.val))

/-- R43, R84, R93, R94, R134: the instructions that read or clear a thread's own state: CLK gives the clause, MFC and PCRD what the
register holds, ISYNC only goes on, RSCLR empties the return stack. -/
def Obligations.ReadingInstructions : Prop :=
  ∀ (t : ThreadPos) (rd : BitVec 5) (n : BitVec 13) (m : BitVec 5) (s s' : State), s.starts t.val none s' →
    let x := s'.thread t.val
    Ends (.clk t rd) s (fun u => s'.computes u t.val rd s'.clause) ∧
    Ends (.isync t) s (fun u => s'.jumps u t.val x.nextPc none) ∧
    (ctlAccess n.toNat x.level = .open → Ends (.mfc t rd n) s (fun u => s'.computes u t.val rd (s'.readCtl t.val n.toNat))) ∧
    (ctlAccess n.toNat x.level = .unassigned → exec (.mfc t rd n) s = .next (s'.illegal t.val)) ∧
    (ctlAccess n.toNat x.level = .closed → exec (.mfc t rd n) s = .next (s'.privileged t.val)) ∧
    (m.toNat ≤ 7 → 1 ≤ x.level → Ends (.pcrd t rd m) s (fun u => s'.computes u t.val rd
      (if s'.counterVisible t.val (coreOf t.val * 8 + m.toNat) then
        BitVec.ofNat 64 ((Tbl.get 0 s'.pccVal (coreOf t.val * 8 + m.toNat)).toNat % 2 ^ 48) else 0))) ∧
    (m.toNat > 7 → exec (.pcrd t rd m) s = .next (s'.illegal t.val)) ∧
    (1 ≤ x.level → Ends (.rsclr t) s (fun u => s'.onlyThread u t.val ∧ (u.thread t.val).rtop = 0 ∧ (u.thread t.val).rstack = [] ∧
      (∀ r, (u.thread t.val).gpr r = x.gpr r) ∧ (u.thread t.val).goesTo x.nextPc none))

/-- R84, R102 to R107: MTC of the registers that hold state of the thread: the named register receives ra within its defined bits, and a
later MFC of it reads that back. Without access it raises ILLEGAL or PRIVILEGED. R648, R650, R149: the counter selects and values and the
predictor's control, as control-register writes. A select clears its counter; PCWRITE sets the count and clears OVF; a flush of the
predictor is under way from then on. -/
def Obligations.ControlRegisterWrites : Prop :=
  (∀ (t : ThreadPos) (ra : BitVec 5) (n : BitVec 13) (s s' : State), s.starts t.val none s' →
      let x := s'.thread t.val
      let w := x.gpr ra
      (ctlAccess n.toNat x.level = .unassigned → exec (.mtc t ra n) s = .next (s'.illegal t.val)) ∧
      (ctlAccess n.toNat x.level = .closed → exec (.mtc t ra n) s = .next (s'.privileged t.val)) ∧
      (n = 3 → Ends (.mtc t ra n) s (fun u => s'.onlyThread u t.val ∧ (u.thread t.val).fpcsr = w &&& 0x1f03)) ∧
      (n = 0x00D → 1 ≤ x.level → x.level ≤ 2 → Ends (.mtc t ra n) s (fun u => s'.onlyThread u t.val ∧
        ((u.thread t.val).bank (decide (x.level = 2))).vbase = w &&& 0xfffffffffffff000 ∧ u.readCtl t.val 0x00D = w &&& 0xfffffffffffff000)) ∧
      (n = 0x00E → 1 ≤ x.level → x.level ≤ 2 → Ends (.mtc t ra n) s (fun u => s'.onlyThread u t.val ∧ u.readCtl t.val 0x00E = w)) ∧
      (n = 0x010 → 1 ≤ x.level → x.level ≤ 2 → Ends (.mtc t ra n) s (fun u => s'.onlyThread u t.val ∧ u.readCtl t.val 0x010 = w &&& 0xffffffffffffff01)) ∧
      (n = 0 → 1 ≤ x.level → Ends (.mtc t ra n) s (fun u => s'.onlyThread u t.val ∧ (u.thread t.val).level = x.level ∧
        (u.thread t.val).ie = bit w 2 ∧ (u.thread t.val).exl = bit w 3 ∧ (u.thread t.val).sxg = bit w 4 ∧ (u.thread t.val).sag = bit w 5))) ∧
  (∀ (t : ThreadPos) (i : Fin 8) (ra : BitVec 5) (s s' : State), s.starts t.val none s' →
      let x := s'.thread t.val
      let w := x.gpr ra
      let j := coreOf t.val * 8 + i.val
      (x.level = 1 → Ends (.pcevWrite t i ra) s (fun u => (u.thread t.val).goesTo x.nextPc none ∧ u.mem = s'.mem ∧
        bits (u.pccS j) 33 24 = x.realm.toNat ∧ bits (u.pccS j) 7 0 = (if coreEvent (bits w 7 0) then bits w 7 0 else 0) ∧
        bits (u.pccS j) 23 23 = 0 ∧ bits (u.pccS j) 17 16 = bits w 17 16 ∧ bits (u.pccS j) 15 12 = bits w 15 12)) ∧
      (1 ≤ x.level → bits w 50 48 = i.val → s'.counterVisible t.val j → bits (s'.pccS j) 33 24 = x.realm.toNat →
        (∀ q, q < 8 → bit (s'.pccS (coreOf t.val * 8 + q)) 12 = false) →
        Ends (.pcwrite t ra) s (fun u => (u.thread t.val).goesTo x.nextPc none ∧ bits (u.pccV j) 47 0 = bits w 47 0 ∧ bits (u.pccV j) 48 48 = 0)) ∧
      (1 ≤ x.level → Ends (.predctlFlush t) s (fun u => (u.core (coreOf t.val)).flushing = true ∧ u.mem = s'.mem ∧
        (u.thread t.val).goesTo x.nextPc none ∧ ∀ r, (u.thread t.val).gpr r = x.gpr r)))

/-- R84, R86, R88, R99, R270: the instructions that wait or order. WFI waits unless an interrupt is pending; TLBI sends its message to the
package's TLBI unit and is outstanding until every member acknowledges; SYNC.T waits for the thread's TLBIs; FENCE goes on once what it
orders has drained. R96, R97, R131: WAITD returns status 3 outside cacheable memory and 1 when an interrupt is pending, and waits for the
line it has in its L2 otherwise; its timeout ends it with status 2; RSYNC rebuilds the return stack from the frame records it finds.
Messages are addressed as log entries 13 and 14 say. -/
def Obligations.WaitingInstructions : Prop :=
  (∀ (t : ThreadPos) (ra rd : BitVec 5) (mask : BitVec 4) (s s' : State), s.starts t.val none s' →
      let x := s'.thread t.val
      (1 ≤ x.level → x.slot = none → Ends (.wfi t) s (fun u =>
        (u.thread t.val).wait = (if (u.thread t.val).pendingAny then .ready else .wfi) ∧ (u.thread t.val).pc = x.pc + 4 ∧
        (∀ r, (u.thread t.val).gpr r = x.gpr r) ∧ u.mem = s'.mem)) ∧
      (1 ≤ x.level → x.tlbis.length < 8 → Ends (.tlbi t ra rd) s (fun u =>
        (∃ m, u.sent = s'.sent ++ [m] ∧ m.type = .tlbi ∧ m.hdr.dst = agentId s'.pkgNum 12 96 ∧ m.hdr.rank = s'.tidOf t.val) ∧
        (∃ o, (u.thread t.val).tlbis = x.tlbis ++ [o] ∧ o.seq = x.tlbiSeq ∧ o.left = s'.pkgNum :: s'.otherMembers) ∧
        (u.thread t.val).goesTo x.nextPc none ∧ u.mem = s'.mem)) ∧
      (1 ≤ x.level → x.tlbis = [] → Ends (.syncT t) s (fun u => s'.jumps u t.val x.nextPc none)) ∧
      (1 ≤ x.level → x.tlbis ≠ [] → Ends (.syncT t) s (fun u => (u.thread t.val).wait = .syncT ∧ (u.thread t.val).pc = x.pc)) ∧
      (mask.getLsbD 3 = false → Ends (.fence t mask) s (fun u => s'.jumps u t.val x.nextPc none)) ∧
      (mask.getLsbD 3 = true → s'.mbOf t.val = [] → s'.devicePending t.val = false →
        Ends (.fence t mask) s (fun u => (u.thread t.val).goesTo x.nextPc none ∧ u.mem = s'.mem ∧ u.sent = s'.sent))) ∧
  (∀ (t : ThreadPos) (rd ra : BitVec 5) (s s' s2 s3 : State) (p : Piece) (d : Line) (ls : List Word) (why : Nat) (l : LineAddr) (lim : Word),
      let x := s'.thread t.val
      (s.starts t.val none s' → s'.onePiece t.val (x.gpr ra) 1 .load .watch true = (s2, .ok [p]) →
        (s2.thread t.val).refused = none →
        (p.mt ≠ 0 → Ends (.waitd t rd ra) s (fun u => s2.computes u t.val rd 3)) ∧
        (p.mt = 0 → (s2.thread t.val).pendingAny = true → Ends (.waitd t rd ra) s (fun u => s2.computes u t.val rd 1)) ∧
        (p.mt = 0 → (s2.thread t.val).pendingAny = false → s2.loadLine t.val p.line (s2.thread t.val).realm = (s3, some d) →
          Ends (.waitd t rd ra) s (fun u => (u.thread t.val).wait =
            .waitd p.line (if x.gpr rd = 0 then none else some (s3.clause + x.gpr rd)) rd ∧ u.mem = s3.mem))) ∧
      (s.threadExists t.val = true → s.running = true → (s.thread t.val).wait = .waitd l (some lim) rd → lim.toNat ≤ s.clause.toNat →
        Ends (.waitdTimeout t) s (fun u => (u.thread t.val).wait = .ready ∧ (rd ≠ 0 → (u.thread t.val).gpr rd = 2) ∧ u.mem = s.mem)) ∧
      (s.starts t.val none s' → s'.frames t.val (x.gpr 29) 7 = (s2, some (ls, why)) →
        Ends (.rsync t) s (fun u => s2.onlyThread u t.val ∧ (∀ r, (u.thread t.val).gpr r = (s2.thread t.val).gpr r) ∧
          (u.thread t.val).rtop = ((s2.thread t.val).rebuild ls why).rtop ∧ (u.thread t.val).rstack = ((s2.thread t.val).rebuild ls why).rstack)))

/-- R115: RENTER of a realm that is not running, or to which the thread is not bound, is refused; with its context block read, an unsealed
realm is entered with the registers of the block. At a sealed realm the thread waits for its sibling's RENTER, and then both enter. -/
def Obligations.RealmEntry : Prop :=
  ∀ (t : ThreadPos) (ra : BitVec 5) (s s' s2 s3 : State) (ls ls' : List Line), s.starts t.val none s' →
    let x := s'.thread t.val
    let r := bits (x.gpr ra) 9 0
    let sib := siblingOf t.val
    let k := s'.core (coreOf t.val)
    let refused (sub : Nat) : Prop := exec (.renter t ra) s = .next (s'.raise t.val { code := 0x12, sub := sub, eaddr := BitVec.ofNat 64 r })
    let enters (u : State) (t : Nat) (ls : List Line) : Prop := (u.thread t).realm = BitVec.ofNat 10 r ∧
      (u.thread t).level = bits (blockWord ls 31) 1 0 ∧ (u.thread t).pc = BitVec.ofNat 57 ((blockWord ls 164).toNat / 4 * 4) ∧
      (u.thread t).gpr 31 = blockWord ls 30 ∧ (u.thread t).rstack = [] ∧ (u.thread t).history = 0
    x.level = 2 → x.slot = none →
    (s'.realmState r ≠ realmRunning ∨ s'.realmHalted r = true → refused 1) ∧
    (s'.realmState r = realmRunning → s'.realmHalted r = false → r = 0 ∨ s'.boundTo t.val r = false ∨ k.fenced = true → refused 2) ∧
    (s'.realmState r = realmRunning → s'.realmHalted r = false → r ≠ 0 → s'.boundTo t.val r = true → k.fenced = false → x.refused = none →
      k.ctxWrites = [] → k.ctxOut = [] → s'.readCtx t.val (s'.ctxBase t.val) (BitVec.ofNat 10 r) 0 24 = (s2, some ls) →
      (2 ≤ bits (blockWord ls 31) 1 0 →
        exec (.renter t ra) s = .next (s2.raise t.val { code := 0x12, sub := 4, eaddr := BitVec.ofNat 64 r })) ∧
      (bits (blockWord ls 31) 1 0 < 2 → s2.realmSealed r = false → Ends (.renter t ra) s (fun u => enters u t.val ls ∧ u.mem = s2.mem)) ∧
      (bits (blockWord ls 31) 1 0 < 2 → s2.realmSealed r = true → (s2.thread sib).renter ≠ some r →
        Ends (.renter t ra) s (fun u => (u.thread t.val).renter = some r ∧ (u.thread t.val).pc = (s2.thread t.val).pc ∧
          (u.thread t.val).realm = (s2.thread t.val).realm ∧ u.mem = s2.mem)) ∧
      (bits (blockWord ls 31) 1 0 < 2 → s2.realmSealed r = true → (s2.thread sib).renter = some r →
        s2.readCtx sib (s2.ctxBase sib) (BitVec.ofNat 10 r) 0 24 = (s3, some ls') →
        Ends (.renter t ra) s (fun u => enters u t.val ls ∧ (u.thread sib).realm = BitVec.ofNat 10 r ∧
          (u.thread sib).gpr 31 = blockWord ls' 30 ∧ u.mem = s3.mem)))

/-! ## CACHE instructions -/

/-- R89 to R92, R162, R167, R176: the CACHE instructions by address. In cacheable memory with no entry of the line left in the merging
buffer CLEAN.VA, INV.VA and CLINV.VA ask the home and wait, ZERO.VA stores a line of zeros, and INV.L1I removes the line from the L1I;
while entries of the line are left, they close and the instruction is given again. Outside cacheable memory CLEAN.VA, INV.VA and CLINV.VA
only retire, and ZERO.VA raises MEMTYPE. INV.VA at U raises PRIVILEGED. R89, R91, R177, R178: the CACHE instructions by set and way, at H.
A descriptor outside the geometry raises ILLEGAL, a lower level PRIVILEGED. Where the way holds no line the instruction only retires, as
does CLEAN of a clean line; CLEAN of a dirty line asks its home; INV and CLINV put the line out through the eviction buffer, or out of the
L3. -/
def Obligations.CacheInstructions : Prop :=
  (∀ (t : ThreadPos) (ra : BitVec 5) (s s' s2 s3 : State) (p : Piece) (pa mt : Nat), s.starts t.val none s' →
      let x := s'.thread t.val
      let va := x.gpr ra
      let c := coreOf t.val
      let ask (clinv : Bool) : Msg := { type := .cmo, hdr := s2.coreHdr c t.val p.line (s2.core c).nextTid (s2.thread t.val).realm, body := .cmo clinv }
      let clear : Prop := (s2.mbOf t.val).any (fun e => decide (e.line = p.line)) = false
      let goes (i : Instr) : Prop := Ends i s (fun u => s2.jumps u t.val (s2.thread t.val).nextPc none)
      let again (i : Instr) : Prop := Ends i s (fun u => (u.thread t.val).pc = (s2.thread t.val).pc ∧ u.mem = s2.mem ∧ u.sent = s2.sent ∧
        ∀ e ∈ u.mbOf t.val, e.line = p.line → e.closed = true)
      (x.level = 0 → exec (.invVa t ra) s = .next (s'.privileged t.val)) ∧
      (s'.cachePiece t.val va .load .plain = (s2, .ok [p]) → p.mt = 0 → clear → s2.canAsk t.val 0 p.line →
        Ends (.cleanVa t ra) s (fun u => s2.asks u t.val (ask false) .done) ∧
        Ends (.clinvVa t ra) s (fun u => s2.asks u t.val (ask true) .done) ∧
        (1 ≤ x.level → Ends (.invVa t ra) s (fun u => s2.asks u t.val (ask true) .done))) ∧
      (s'.cachePiece t.val va .load .plain = (s2, .ok [p]) → p.mt ≠ 0 → goes (.cleanVa t ra) ∧ goes (.clinvVa t ra) ∧
        (1 ≤ x.level → goes (.invVa t ra))) ∧
      (s'.cachePiece t.val va .load .plain = (s2, .ok [p]) → ¬ clear → again (.invL1i t ra) ∧
        (p.mt = 0 → again (.cleanVa t ra) ∧ again (.clinvVa t ra) ∧ (1 ≤ x.level → again (.invVa t ra)))) ∧
      (s'.cachePiece t.val va .load .plain = (s2, .ok [p]) → clear →
        Ends (.invL1i t ra) s (fun u => (∀ q ∈ (u.core c).l1i, q.2.line ≠ p.line) ∧ (u.core c).l2 = (s2.core c).l2 ∧ u.mem = s2.mem ∧
          u.sent = s2.sent ∧ (u.thread t.val).goesTo (s2.thread t.val).nextPc none)) ∧
      (s'.cachePiece t.val va .store .vector = (s2, .ok [p]) → clear →
        s2.mbStore t.val p.line 0 (BitVec.allOnes 64) false true true = some s3 →
        Ends (.zeroVa t ra) s (fun u => s3.jumps u t.val (s3.thread t.val).nextPc none)) ∧
      (s'.cachePiece t.val va .store .vector = (s2, .ok [p]) → ¬ clear → again (.zeroVa t ra)) ∧
      (s'.translate t.val va .store = (s2, .ok pa mt) → mt ≠ 0 →
        exec (.zeroVa t ra) s = .next (s2.raise t.val { code := 0x0A, eaddr := va }))) ∧
  (∀ (t : ThreadPos) (ra : BitVec 5) (s s' s2 : State) (l3 : Bool) (d : Nat × Nat × Nat) (v : CLine) (k : Core), s.starts t.val none s' →
      let x := s'.thread t.val
      let c := coreOf t.val
      let die := dieOf t.val
      let ask (src : BitVec 16) : Msg :=
        { type := .cmo, hdr := { s'.coreHdr c t.val v.line (s'.core c).nextTid v.realm with src := src }, body := .cmo false }
      let goes (i : Instr) : Prop := Ends i s (fun u => s'.jumps u t.val x.nextPc none)
      let found : Option CLine := if l3 then Tbl.find (s'.die die).l3 ((d.2.2 * 4096 + d.2.1) * 16 + d.1)
        else Tbl.find (s'.core c).l2 (d.2.1 * 16 + d.1)
      let clean : Instr := if l3 then .cleanSw3 t ra else .cleanSw2 t ra
      let inv : Instr := if l3 then .invSw3 t ra else .invSw2 t ra
      let clinv : Instr := if l3 then .clinvSw3 t ra else .clinvSw2 t ra
      (swDescriptor (x.gpr ra) l3 = none → exec clean s = .next (s'.illegal t.val) ∧ exec inv s = .next (s'.illegal t.val) ∧
        exec clinv s = .next (s'.illegal t.val)) ∧
      (swDescriptor (x.gpr ra) l3 = some d → x.level < 2 → exec clean s = .next (s'.privileged t.val) ∧
        exec inv s = .next (s'.privileged t.val) ∧ exec clinv s = .next (s'.privileged t.val)) ∧
      (swDescriptor (x.gpr ra) l3 = some d → x.level = 2 → found = none → goes clean ∧ goes inv ∧ goes clinv) ∧
      (swDescriptor (x.gpr ra) l3 = some d → x.level = 2 → found = some v →
        (v.st ≠ .M → v.st ≠ .O → goes clean) ∧
        (v.st = .M ∨ v.st = .O → s'.canAsk t.val 0 v.line → Ends clean s (fun u =>
          s'.asks u t.val (ask (if l3 then s'.l3Agent die d.2.2 else s'.coreAgent c)) .done)) ∧
        (l3 = false → v.frozen = false → (s'.core c).evict v true = some k →
          let put (u : State) : Prop := (u.core c).l2 = k.l2 ∧ (u.core c).eb = k.eb ∧ u.mem = s'.mem ∧ u.sent = s'.sent ∧
            (u.thread t.val).goesTo x.nextPc none
          Ends inv s put ∧ Ends clinv s put) ∧
        (l3 = true → s'.l3Evict die v = some s2 →
          let put (u : State) : Prop := (u.die die).l3 = ((s2.die die).l3Drop v.line).l3 ∧ u.mem = s'.mem ∧
            (u.thread t.val).goesTo x.nextPc none
          Ends inv s put ∧ Ends clinv s put)))

/-! ## Cores and caches between instructions -/

/-- R27, R107, R109, R465: an interrupt, and a timer whose compare value clause time has reached, is an event of rank 9 of its clause; when
that clause is resolved it becomes pending at S or H: an interrupt of realm 0 at H, or at S as its source names, one of the realm that runs
at S, a timer at its own level. R127, R144, R145, R213, R221: what happens to a core between its instructions. A retried instruction
without a new mismatch counts its retry and is free to go on; with one at realm 0, its core is fenced and the package halts, and at another
realm that realm's UE-R is recorded; the flush of a predictor ends; the walker's A or D update goes to the entry's home; a TLBI outstanding
for 1,000,000 clauses halts the package. A command whose condition does not hold changes nothing (log entry 41). Messages are addressed as
log entries 13 and 14 say. -/
def Obligations.CoreEvents : Prop :=
  (∀ (t : ThreadPos) (cls : IntClass) (realm : Realm) (atS h : Bool) (e : Event) (s : State),
      let x := s.thread t.val
      let due : Prop := (x.bank h).tcmp ≠ 0 ∧ (x.bank h).tcmp.toNat ≤ s.clause.toNat
      let listed (i : Instr) (k : EventKind) : Prop := Ends i s (fun u => s.sameMachine u ∧ u.regs = s.regs ∧ u.sent = s.sent ∧
        u.events = s.events ++ [{ stamp := s.clause, rank := 9, origin := s.origin (dieOf t.val) (t.val % 40), kind := k }])
      let pends (toH : Bool) (c : IntClass) : Prop := Ends .clauseResolution s (fun u => u.events = [] ∧ u.mem = s.mem ∧ u.regs = s.regs ∧
        (if toH then c ∈ (u.thread t.val).pendH else c ∈ (u.thread t.val).pendS) ∧
        (x.wait = .ready → ∀ r, (u.thread t.val).gpr r = x.gpr r))
      (s.threadExists t.val = false → exec (.interrupt t cls realm atS) s = .next s ∧ exec (.timerCompare t h) s = .next s) ∧
      (s.threadExists t.val = true → (s.core (coreOf t.val)).fenced = false →
        listed (.interrupt t cls realm atS) (.interrupt t.val cls realm atS none) ∧
        (due → listed (.timerCompare t h) (.timer t.val h)) ∧ (¬ due → exec (.timerCompare t h) s = .next s) ∧
        (s.events = [e] → e.recs = [] → e.clause.toNat + s.horizon ≤ s.clause.toNat →
          (e.kind = .interrupt t.val cls 0 atS none → pends (!(atS && decide (x.realm = 0))) cls) ∧
          (e.kind = .interrupt t.val cls realm atS none → realm ≠ 0 → x.realm = realm → pends false cls) ∧
          (e.kind = .timer t.val h → due → pends h .timer)))) ∧
  (∀ (t : ThreadPos) (c : CorePos) (unit : Fin 8) (seq : BitVec 16) (a : AdUpdate) (o : TlbiOut) (s : State),
      (s.threadExists t.val = true → s.running = true → (s.core (coreOf t.val)).fenced = false → (s.thread t.val).wait = .ready →
        (s.thread t.val).residue = none →
        ((s.core (coreOf t.val)).retries ≠ BitVec.allOnes 32 → Ends (.residueRetry t unit false) s (fun u =>
          (u.core (coreOf t.val)).retries = (s.core (coreOf t.val)).retries + 1 ∧ (u.thread t.val).residue = none ∧
          (u.thread t.val).pc = (s.thread t.val).pc ∧ u.mode = s.mode ∧ u.mem = s.mem)) ∧
        ((s.thread t.val).realm ≠ 0 → (s.thread (siblingOf t.val)).realm ≠ 0 → s.live → Ends (.residueRetry t unit true) s (fun u =>
          u.fld regGlbErrsum 15 0 = 0x4040 ∧ u.mode = s.mode ∧ (u.core (coreOf t.val)).fenced = true ∧ (u.core (coreOf t.val)).mb = [] ∧
          (u.thread t.val).residue = none ∧ u.mem = s.mem)) ∧
        ((s.thread t.val).realm = 0 → Ends (.residueRetry t unit true) s (fun u => u.mode = modeHalt ∧ u.alertN = true ∧
          (u.core (coreOf t.val)).fenced = true ∧ (u.thread t.val).residue = none ∧ u.mem = s.mem))) ∧
      (s.coreExists c.val = true → Ends (.predictorFlushDone c) s (fun u => (u.core c.val).flushing = false ∧ u.threads = s.threads ∧
        u.mem = s.mem ∧ ∀ c', c' ≠ c.val → u.core c' = s.core c')) ∧
      (s.threadExists t.val = true → (s.thread t.val).ad = some a → a.tid = none → s.canAsk t.val 0 (lineOf a.ea) →
        Ends (.adUpdate t) s (fun u => (∃ m, u.sent = s.sent ++ [m] ∧ m.type = .atom ∧ m.hdr.addr = lineOf a.ea ∧
          m.body = .atom { op := .cas, wide := true, off := BitVec.ofNat 6 (a.ea % 64), operand := a.new, compare := a.old }) ∧
          (u.thread t.val).ad = some { a with tid := some (s.core (coreOf t.val)).nextTid } ∧ u.mem = s.mem)) ∧
      (s.threadExists t.val = true → (s.thread t.val).tlbis.find? (fun o => decide (o.seq = seq)) = some o →
        o.issued.toNat + 1000000 ≤ s.clause.toNat → modeStandby < s.mode → s.mode ≠ modeHalt →
        Ends (.transTlbiTimeout t seq) s (fun u => u.mode = modeHalt ∧ u.alertN = true ∧ u.mem = s.mem)))

/-- R161 to R163, R168, R169, R171, R180: the merging buffer drains its oldest entry into the L2 of a core that owns the line, and an
uncached one to its controller; a dirty victim without an L3 is written back to its home; a victim line enters the L3; a scrub reads a set
whose lines are good, leaves them, and goes on to the next. R182, R184, R185: an L2 or an L3 is taken out of use, its flush due at the next
tick; once it is empty and its writebacks are acknowledged FLUSHING clears; it comes back empty, and not while the flush runs. A command
whose condition does not hold changes nothing (log entry 41). Messages are addressed as log entries 13 and 14 say. -/
def Obligations.CachesBetweenInstructions : Prop :=
  (∀ (c : CorePos) (d : DiePos) (slice : Fin 16) (line : LineAddr) (e : MbEntry) (v : EbEntry) (es : List MbEntry) (w : Nat) (y : CLine)
      (s s2 : State),
      let k := s.core c.val
      let oldest : Prop := s.coreExists c.val = true ∧ k.fenced = false ∧ k.ctxWrites = [] ∧ k.mb = e :: es
      let ready : Prop := oldest ∧ s.drains c.val e = true ∧ e.bad = false ∧ bit (s.reg regGlbInject) 63 = false
      (oldest → s.drains c.val e = false → exec (.mbDrain c) s = .next s) ∧
      (ready → e ∉ es → e.uncached = false → k.l2On = true → k.txnFind e.line = none → k.l2Find e.line = some (w, y) → y.st = .M ∨ y.st = .E →
        y.frozen = false → y.bad = 0 → y.tagBad = false → (s.thread (2 * c.val + (1 - e.thread.val))).wait = .ready →
        Ends (.mbDrain c) s (fun u => (u.core c.val).mb = es ∧ u.mem = s.mem ∧ u.sent = s.sent ∧ u.threads = s.threads ∧
          (u.core c.val).l2Find e.line = some (w, { y with st := .M, data := mergeLine y.data e.data e.mask }))) ∧
      (ready → e.uncached = true → e.sent = none → s.canAsk (2 * c.val + e.thread.val) 0 e.line →
        Ends (.mbDrain c) s (fun u => (∃ m, u.sent = s.sent ++ [m] ∧ m.type = .ucWr ∧ m.body = .bytes e.data e.mask ∧ m.hdr.addr = e.line) ∧
          u.mem = s.mem)) ∧
      (s.coreExists c.val = true → k.eb = [] → k.l2Flushing = false → k.txns = [] → exec (.evictionIssue c) s = .next s) ∧
      (s.coreExists c.val = true → k.eb.find? (fun x => !x.issued) = some v → s.ebCheck c.val v.line = (s, some v) →
        k.ebFind v.line = some v → v.st = .M → v.lost = false → s.l3Available (dieOfCore c.val) v.realm.toNat = false →
        s.canAsk (2 * c.val) 1 v.line → k.l2Flushing = false → k.txns = [] →
        Ends (.evictionIssue c) s (fun u => u.mem = s.mem ∧ u.threads = s.threads ∧ ∃ m, u.sent = s.sent ++ [m] ∧ m.type = .wbM ∧
          m.body = .line v.data ∧ m.hdr.addr = v.line)) ∧
      (s.coreExists c.val = true → k.eb.find? (fun x => decide (x.line = line) && x.issued && x.toL3) = none →
        exec (.l3VictimInstall c line) s = .next s) ∧
      (s.coreExists c.val = true → k.eb.find? (fun x => decide (x.line = line) && x.issued && x.toL3) = some v → v.taken = false →
        v.gone = false → s.l3Available (dieOfCore c.val) v.realm.toNat = true →
        s.l3Install (dieOfCore c.val) { line := line, st := v.st, realm := v.realm, data := v.data } = some s2 →
        Ends (.l3VictimInstall c line) s (fun u => u.mem = s.mem ∧ u = s2.freeEb c.val line)) ∧
      (s.coreExists c.val = true → bit (s.reg regGlbInject) 63 = false → (∀ p ∈ k.l2, p.2.bad = 0 ∧ p.2.tagBad = false) →
        Ends (.l2Scrub c) s (fun u => (u.core c.val).scrub2 = (k.scrub2 + 1) % 2048 ∧ (u.core c.val).l2 = k.l2 ∧ u.mem = s.mem ∧
          u.threads = s.threads ∧ u.regs = s.regs ∧ u.sent = s.sent)) ∧
      ((s.die d.val).fenced = false → bit (s.reg regGlbInject) 63 = false → (∀ p ∈ (s.die d.val).l3, p.2.bad = 0 ∧ p.2.tagBad = false) →
        Ends (.l3Scrub d slice) s (fun u => Tbl.get 0 (u.die d.val).scrub3 slice.val = (Tbl.get 0 (s.die d.val).scrub3 slice.val + 1) % 4096 ∧
          (u.die d.val).l3 = (s.die d.val).l3 ∧ u.mem = s.mem ∧ u.threads = s.threads ∧ u.regs = s.regs ∧ u.sent = s.sent))) ∧
  (∀ (c : CorePos) (d : DiePos) (s : State),
      let k := s.core c.val
      let x := s.die d.val
      let there : Prop := s.coreExists c.val = true
      let die : Prop := x.fenced = false
      let keeps (u : State) : Prop := u.mem = s.mem ∧ u.sent = s.sent
      (there → k.l2Dis = false → Ends (.l2Disable c) s (fun u => (u.core c.val).l2Dis = true ∧ (u.core c.val).l2FlushDue = true ∧
        (u.core c.val).l2 = k.l2 ∧ u.threads = s.threads ∧ keeps u)) ∧
      (there → k.l2Dis = true → exec (.l2Disable c) s = .next s) ∧
      (there → k.l2Dis = true → k.l2Flushing = false → k.l2FlushDue = false → Ends (.l2Enable c) s (fun u => (u.core c.val).l2Dis = false ∧
        (u.core c.val).l2 = [] ∧ (u.core c.val).l1d = [] ∧ (u.core c.val).l1i = [] ∧ keeps u)) ∧
      (there → k.l2Flushing = true ∨ k.l2FlushDue = true → exec (.l2Enable c) s = .next s) ∧
      (there → k.l2Flushing = true → k.l2 = [] → k.eb = [] → Ends (.l2FlushDone c) s (fun u => (u.core c.val).l2Flushing = false ∧
        u.threads = s.threads ∧ keeps u)) ∧
      (die → s.fld (regL3ctl d.val) 0 0 = 0 → Ends (.l3Disable d) s (fun u => u.fld (regL3ctl d.val) 0 0 = 1 ∧ (u.die d.val).flushDue = true ∧
        (u.die d.val).l3 = x.l3 ∧ u.threads = s.threads ∧ u.cores = s.cores ∧ keeps u)) ∧
      (die → s.fld (regL3ctl d.val) 0 0 = 1 → exec (.l3Disable d) s = .next s) ∧
      (die → s.fld (regL3ctl d.val) 1 0 = 1 → x.flushDue = false → Ends (.l3Enable d) s (fun u => u.fld (regL3ctl d.val) 0 0 = 0 ∧
        (u.die d.val).l3 = [] ∧ u.threads = s.threads ∧ u.cores = s.cores ∧ keeps u)) ∧
      (die → s.fld (regL3ctl d.val) 1 1 = 1 ∨ x.flushDue = true → exec (.l3Enable d) s = .next s) ∧
      (die → x.l3 = [] → x.wbs = [] → x.flushDue = false → Ends (.l3FlushDone d) s (fun u => u.fld (regL3ctl d.val) 1 1 = 0 ∧
        u.threads = s.threads ∧ u.cores = s.cores ∧ keeps u)))

/-! ## Home agents -/

/-- R230, R241, R244, R252, R253, R256: a request that reaches the home of its line while the agent is at rest and no cache holds the line.
Reads and partial writes go on to memory; RdZ is granted E; a CACHE instruction's Cmo ends without a grant; a full-line write enters DRAM;
a writeback or notice of a line its sender does not hold is acknowledged STALE. One that must keep behind an earlier message on its way has
no effect yet. R242: a request for which its source's partition has no room is a protocol violation: the package records 5071h and halts. A
command whose condition does not hold changes nothing (log entry 41). -/
def Obligations.HomeRequests : Prop :=
  (∀ (n : Chan) (h : Hdr) (line bytes : Line) (args : AtomArgs) (clinv : Bool) (mask : BitVec 64) (s : State),
      s.homeRests n.val → s.homeTakes n.val h → s.admitsPage h.realm.toNat (pageOfLine (lineIx h.addr)) = true →
      s.journalBlock h.realm.toNat = none →
      let comes (c : Instr) (m : Msg) (P : State → Prop) : Prop :=
        (s.behind m = false → Ends c s P) ∧ (s.behind m = true → exec c s = .next s)
      let waits (c : Instr) (ty : MsgType) (b : Body) : Prop := comes c { type := ty, hdr := h, body := b } (fun u =>
        s.takesOnly u { type := ty, hdr := h, body := b } ∧ u.cores = s.cores ∧
        ∃ t, u.txnAt n.val h.addr = some t ∧ t.req.kind = ty ∧ t.req.hdr = h ∧ t.req.body = b ∧ t.phase = .tw ∧ t.memWait = true ∧ t.answers = 0)
      let answers (c : Instr) (ty : MsgType) (b : Body) (r : MsgType) (g : CState) (fl : Flags) : Prop := comes c { type := ty, hdr := h, body := b } (fun u =>
        u.sent = s.sent.erase { type := ty, hdr := h, body := b } ++
          [{ type := r, hdr := { h with src := homeAgentId s.pkgNum n.val, dst := h.src, grant := g, flags := fl, pred := 0, cr := 1 } }] ∧
        u.mem = s.mem ∧ u.threads = s.threads ∧ u.cores = s.cores)
      (s.poolRoom n.val 0 h = true →
        waits (.rds h) .rdS .none ∧ waits (.rdx h) .rdX .none ∧ waits (.upg h) .upg .none ∧ waits (.atom h args) .atom (.atom args) ∧
        (mask ≠ BitVec.allOnes 64 → waits (.wrp h bytes mask) .wrP (.bytes bytes mask)) ∧
        answers (.rdz h) .rdZ .none .cmp .E {} ∧ answers (.cmo h clinv) .cmo (.cmo clinv) .cmp .I {} ∧
        comes (.wrp h bytes (BitVec.allOnes 64)) { type := .wrP, hdr := h, body := .bytes bytes (BitVec.allOnes 64) } (fun u =>
          u.mem = (s.writeMem (64 * lineIx h.addr) bytes).mem ∧ u.threads = s.threads ∧
          u.sent = s.sent.erase { type := .wrP, hdr := h, body := .bytes bytes (BitVec.allOnes 64) } ++
            [{ type := .cmp, hdr := { h with src := homeAgentId s.pkgNum n.val, dst := h.src, grant := .I, flags := {}, pred := 0, cr := 1 } }])) ∧
      (s.poolRoom n.val 1 h = true →
        answers (.wbm h line) .wbM (.line line) .wbAck .I { stale := true } ∧ answers (.evn h) .evN .none .wbAck .I { stale := true })) ∧
  (∀ (n : Chan) (h : Hdr) (s : State), s.homeTakes n.val h → s.poolRoom n.val 0 h = false → s.live → s.behind { type := .rdS, hdr := h } = false →
      Ends (.rds h) s (fun u => s.halts u ∧ u.fld (regHomLasterr n.val) 63 48 = 0x5071))

/-- R254, R246, R263: answers at a home. Each is counted in its line's transaction; while others are outstanding the transaction goes on
waiting. CmpAck returns the line to idle. SubFwd is kept for its request. R254, R384, R454, R473: a read or read for ownership of a line
that no cache holds, its read admitted by the controller, is granted E with the line as memory holds it when the read returns, and waits
for its acknowledgement. An uncached access whose page its realm may access waits at the controller; once the controller has admitted the
read of its line, its end answers a read with the value and merges a write; a refused access is answered STALE and LOST. The ownership unit
answers a check at once. R261: at the home of its lane's WRITE word a journal record takes the next sequence number and goes to its slot's
home; on a full lane it is only counted, and LOST marks the next; a block that the realm does not own ends its journal. At its slot's home
a record is a write of its 32 bytes. Messages are addressed as log entries 13 and 14 say. The lanes of a journal are kept as log entry 68
says, and a controller admits reads as log entry 101 says. -/
def Obligations.HomeAnswers : Prop :=
  (∀ (n : Chan) (h : Hdr) (st : CState) (line : Line) (t : HTxn) (s : State),
      s.homeTakes n.val h → (s.home n.val).held = [] → (s.home n.val).recalls = [] → t.line = h.addr → t.kind = .request →
      let less : HTxn := { t with answers := t.answers - 1, wbp := t.wbp || h.flags.wbp, broken := t.broken || h.flags.broken }
      let counted (c : Instr) (m : Msg) (f : HTxn → HTxn) : Prop := s.behind m = false → Ends c s (fun u =>
        (u.home n.val).txns = [f less] ∧ s.takesOnly u m)
      ((s.home n.val).txns = [t] → t.phase = .tw → 2 ≤ t.answers → t.owner ≠ some (s.keyOf h.src) →
        counted (.fwdack h st) { type := .fwdAck, hdr := h, body := .state st } (fun t => { t with fwd := some (st, h.flags.dirty), held := true, lost := t.lost || h.flags.lost }) ∧
        counted (.snpack h) { type := .snpAck, hdr := h } (fun t => { t with held := true, kept := t.kept || h.flags.keepS }) ∧ counted (.snpnone h) { type := .snpNone, hdr := h } id ∧
        (h.flags.lost = false → counted (.snpdata h line) { type := .snpData, hdr := h, body := .line line } (fun t => { t with held := true, wdata := some line }))) ∧
      ((s.home n.val).txns = [t] → t.phase = .ta → s.behind { type := .cmpAck, hdr := h } = false → Ends (.cmpack h) s (fun u => (u.home n.val).txns = [] ∧ s.takesOnly u { type := .cmpAck, hdr := h })) ∧
      ((s.home n.val).txns = [] → s.behind { type := .subFwd, hdr := h, body := .state st } = false → Ends (.subfwd h st) s (fun u => s.takesOnly u { type := .subFwd, hdr := h, body := .state st } ∧
        (u.home n.val).kept = (s.home n.val).kept ++
          [{ line := h.addr, tid := h.tid, rank := h.rank, pkg := s.pkgNum, forwarded := h.flags.forwarded, st := st, dirty := h.flags.dirty }])) ∧
      ((s.home n.val).txns = [] → s.live → s.behind { type := .cmpAck, hdr := h } = false → Ends (.cmpack h) s s.halts)) ∧
  (∀ (n : Chan) (h : Hdr) (off : BitVec 6) (size : Nat) (bytes : Line) (mask : BitVec 64) (args : AtomArgs) (q : UcReq) (r : HReq)
      (since : Word) (s : State),
      let ok : Bool := s.admitsPage h.realm.toNat (pageOfLine (lineIx h.addr))
      let waits (c : Instr) (ty : MsgType) (b : Body) : Prop := s.behind { type := ty, hdr := h, body := b } = false → Ends c s (fun u =>
        u.ucq = s.ucq ++ [{ line := h.addr, msg := { type := ty, hdr := h, body := b } }] ∧ s.takesOnly u { type := ty, hdr := h, body := b })
      let a : Nat := lineIx h.addr
      let old : Line := s.plainLine a (s.pageKey (pageOfLine a))
      let hb : Hdr := { q.msg.hdr with src := dramAgentId s.pkgNum n, dst := q.msg.hdr.src, flags := {}, grant := .I, cr := 1 }
      let given (ty : MsgType) (cr : BitVec 4) (b : Body) : Msg :=
        { type := ty, hdr := { h with src := homeAgentId s.pkgNum n.val, dst := h.src, grant := .E, flags := {}, pred := 0, cr := cr }, body := b }
      let back (v : Word) : Msg := { type := .ucRsp, hdr := hb, body := .value v }
      (agentPkg h.dst = s.pkgNum → agentDie h.dst = 12 → agentUnit h.dst = 16 + n.val → linePkg h.addr = s.pkgNum → s.poolRoom n.val 0 h = true → ok = true →
        waits (.ucrd h off size) .ucRd (.uc off size) ∧ waits (.ucwr h bytes mask) .ucWr (.bytes bytes mask) ∧
        waits (.ucatom h args) .ucAtom (.atom args)) ∧
      (agentPkg h.dst = s.pkgNum → agentDie h.dst = 12 → agentUnit h.dst = 16 + n.val → linePkg h.addr = s.pkgNum → s.poolRoom n.val 0 h = true → ok = false →
        s.behind { type := .ucRd, hdr := h, body := .uc off size } = false → Ends (.ucrd h off size) s (fun u => u.ucq = s.ucq ∧ u.mem = s.mem ∧
          u.sent = s.sent.erase { type := .ucRd, hdr := h, body := .uc off size } ++
            [{ type := .ucRsp, hdr := { h with src := dramAgentId s.pkgNum n.val, dst := h.src, flags := { stale := true, lost := true },
                                               grant := .I, cr := 1 }, body := .value 0 }])) ∧
      (agentPkg h.dst = s.pkgNum → agentDie h.dst = 12 → agentUnit h.dst = 97 →
        Tbl.find s.realms.ownBad (pageOfLine (lineIx h.addr) / 32) = none → s.behind { type := .ownChk, hdr := h } = false → Ends (.ownchk h) s (fun u =>
          u.mem = s.mem ∧ u.sent = s.sent.erase { type := .ownChk, hdr := h } ++
            [{ type := .ownRsp, hdr := { h with src := h.dst, dst := h.src }, body := .flag ok }])) ∧
      (((s.admitReads n.val).readQueue n.val).contains h.addr = true → (s.admitReads n.val).portReady n.val 3 = true →
        s.txnAt n.val h.addr = none → s.ucq.find? (fun q => decide (q.line = h.addr)) = some q → s.readsClean a →
        s.journalBlock q.msg.hdr.realm.toNat = none →
        (q.msg.type = .ucRd → q.msg.body = .uc off size → Ends (.memoryReadDone n h.addr .clean) s (fun u => u.mem = s.mem ∧
          u.ucq = s.ucq.erase q ∧ u.sent = s.sent ++ [back (BitVec.ofNat 64 (lineNat old off.toNat size))])) ∧
        (q.msg.type = .ucWr → q.msg.body = .bytes bytes mask → mask ≠ BitVec.allOnes 64 → Ends (.memoryReadDone n h.addr .clean) s (fun u =>
          u.mem = (s.writeMem (64 * a) (mergeLine old bytes mask)).mem ∧ u.ucq = s.ucq.erase q ∧ u.sent = s.sent ++ [back 0])) ∧
        (q.msg.type = .ucAtom → q.msg.body = .atom args → Ends (.memoryReadDone n h.addr .clean) s (fun u =>
          u.mem = (s.writeMem (64 * a) (atomPerform args old).1).mem ∧ u.ucq = s.ucq.erase q ∧
          u.sent = s.sent ++ [back (atomPerform args old).2]))) ∧
      (r.hdr = h → r.kind = .rdS ∨ r.kind = .rdX → h.flags = {} → agentPkg h.src = s.pkgNum → agentDie h.src < 12 → linePkg h.addr = s.pkgNum →
        (s.home n.val).txns = [{ line := h.addr, kind := .request, req := r, phase := .tw, memWait := true, since := since }] →
        (s.home n.val).held = [] → (s.home n.val).recalls = [] → (s.home n.val).recallBuf = [] → (s.home n.val).presence = [] →
        s.monitors = [] → s.reshaping = false → s.oldLayout.total = 0 → ((s.admitReads n.val).readQueue n.val).contains h.addr = true →
        (s.admitReads n.val).portReady n.val (s.portOf h) = true → s.readsClean a → s.realms.ownBad = [] →
        s.journalBlock h.realm.toNat = none → Ends (.memoryReadDone n h.addr .clean) s (fun u => u.mem = s.mem ∧
          u.sent = s.sent ++ [given .data 0 (.line old), given .cmp 1 .none] ∧ ∃ x, u.txnAt n.val h.addr = some x ∧ x.phase = .ta)) ∧
      (((s.admitReads n.val).readQueue n.val).contains h.addr = false →
        exec (.memoryReadDone n h.addr .clean) s = .next (s.admitReads n.val))) ∧
  (∀ (n : Chan) (h : Hdr) (r : BitVec 256) (x : Nat) (xs : List Nat) (s : State),
      agentPkg h.dst = s.pkgNum → agentDie h.dst = 12 → agentUnit h.dst = n.val →
      s.behind { type := .jrnWr, hdr := h, body := .journal r } = false →
      let jcb := s.fld (regRlmTable1 h.realm.toNat) 51 12 * 4096
      let shift := (s.peekWord (jcb + 8)).toNat
      let lane := agentPkg h.src * 16 + agentUnit h.src
      let wAddr := jcb + 0x1000 + lane * 8
      let l := s.laneAt n.val wAddr
      let read := (s.peekWord (jcb + 0x2000 + lane * 8)).toNat
      let slot := (s.peekWord jcb).toNat + lane * 2 ^ shift + l.next % 2 ^ (shift - 5) * 32
      let lost := (Tbl.find (s.home n.val).jrnLost wAddr).isSome
      (s.isWriteLine h.realm.toNat h.addr = true → s.ownOk h.realm.toNat (jcb % 2 ^ 47 / 4096) = true → 16 ≤ shift → shift ≤ 30 →
        (l.next - read < 2 ^ (shift - 5) → Ends (.jrnwr h r) s (fun u => u.mem = s.mem ∧ u.threads = s.threads ∧
          u.laneAt n.val wAddr = { l with next := l.next + 1, out := l.out ++ [l.next] } ∧ Tbl.find (u.home n.val).jrnLost wAddr = none ∧
          ∃ m, u.sent = s.sent.erase { type := .jrnWr, hdr := h, body := .journal r } ++ [m] ∧ m.type = .jrnWr ∧ m.hdr.addr = lineOf slot ∧
            m.hdr.realm = h.realm ∧
            m.body = .journal (BitVec.ofNat 256 (r.toNat + (if lost then 2 ^ 161 else 0) + l.next * 2 ^ 192)))) ∧
        (2 ^ (shift - 5) ≤ l.next - read → l.out = x :: xs → x ≤ l.done → Ends (.jrnwr h r) s (fun u => u.mem = s.mem ∧
          u.threads = s.threads ∧ u.laneAt n.val wAddr = { l with next := l.next + 1 } ∧
          Tbl.get 0 (u.home n.val).jrnLost wAddr = 1))) ∧
      (s.isWriteLine h.realm.toNat h.addr = true → s.ownOk h.realm.toNat (jcb % 2 ^ 47 / 4096) = false → Ends (.jrnwr h r) s (fun u =>
        u.jrnOff.contains h.realm.toNat = true ∧ u.mem = s.mem ∧ u.threads = s.threads ∧ u.homes = s.homes)) ∧
      (s.isWriteLine h.realm.toNat h.addr = false → s.homeRests n.val → linePkg h.addr = s.pkgNum → agentPkg h.src = s.pkgNum →
        s.admitsPage h.realm.toNat (pageOfLine (lineIx h.addr)) = true → h.flags = {} →
        Ends (.jrnwr h r) s (fun u => s.takesOnly u { type := .jrnWr, hdr := h, body := .journal r } ∧
          ∃ t, u.txnAt n.val h.addr = some t ∧ t.memWait = true ∧ t.req.body = .bytes
            (putLine 0 (r.toNat / 2 ^ 192 % 2 * 32) 32 r.toNat) (byteMask (r.toNat / 2 ^ 192 % 2 * 32) 32))))

/-- R256, R262, R285, R291: in the Indicative order a held request is served at its settle point, and the lead at its lead point; before,
it goes on waiting. A lookup that finds no entry lets the home go on. R245: a home that has waited more than 2,500,000 clauses for a
response records 5072h and the package halts; before, or without a transaction, nothing happens. A command whose condition does not hold
changes nothing (log entry 41). Messages are addressed as log entries 13 and 14 say. -/
def Obligations.HomeProgress : Prop :=
  (∀ (n : Chan) (a : LineAddr) (r : HReq) (t : HTxn) (s : State),
      let served (c : Instr) : Prop := Ends c s (fun u => (∃ t, u.txnAt n.val a = some t ∧ t.req = r ∧ t.memWait = true) ∧
        (u.home n.val).held = [] ∧ u.sent = s.sent ∧ u.mem = s.mem ∧ u.threads = s.threads)
      ((s.home n.val).txns = [] → (s.home n.val).held = [r] → (s.home n.val).recalls = [] → (s.home n.val).recallBuf = [] →
        (s.home n.val).presence = [] → s.monitors = [] → s.reshaping = false → s.oldLayout.total = 0 → s.fld (regHomStatus n.val) 1 0 = 1 →
        r.hdr.addr = a → linePkg a = s.pkgNum → agentPkg r.hdr.src = s.pkgNum → r.kind = .rdS →
        s.admitsPage r.hdr.realm.toNat (pageOfLine (lineIx a)) = true →
        (r.lead = false → r.settleAt.toNat ≤ s.clause.toNat → served (.settlePointReached n a)) ∧
        (r.lead = true → r.leadAt.toNat ≤ s.clause.toNat → served (.leadPointReached n a)) ∧
        (r.lead = false → s.clause.toNat < r.settleAt.toNat → exec (.settlePointReached n a) s = .next s) ∧
        (r.lead = true → s.clause.toNat < r.leadAt.toNat → exec (.leadPointReached n a) s = .next s)) ∧
      ((s.home n.val).txns = [t] → t.line = a → t.kind = .request → t.req.kind = .rdX → t.req.hdr.addr = a → t.req.hdr.flags = {} →
        linePkg a = s.pkgNum → agentPkg t.req.hdr.src = s.pkgNum → t.phase = .tw → t.answers = 0 → t.dirWait = true → t.decided = false →
        t.lost = false → t.mem = none → (s.home n.val).held = [] → (s.home n.val).recalls = [] → (s.home n.val).presence = [] → s.monitors = [] →
        s.dirFind n.val a = none → bit (s.reg regGlbInject) 63 = false → s.dirMem = [] →
        Ends (.directoryLookupDone n a .clean) s (fun u => u.mem = s.mem ∧ u.sent = s.sent ∧
          ∃ x, u.txnAt n.val a = some x ∧ x.looked = true ∧ x.dirWait = false ∧ x.memWait = true)) ∧
      (s.txnAt n.val a = none → exec (.directoryLookupDone n a .clean) s = .next s)) ∧
  (∀ (n : Chan) (a : LineAddr) (t : HTxn) (s : State),
      (s.txnAt n.val a = none → exec (.cohTimeout n a) s = .next s) ∧
      (s.txnAt n.val a = some t → (s.clause - t.since).toNat ≤ 2500000 → exec (.cohTimeout n a) s = .next s) ∧
      (s.txnAt n.val a = some t → 0 < t.answers → 2500000 < (s.clause - t.since).toNat → s.live →
        Ends (.cohTimeout n a) s (fun u => s.halts u ∧ u.fld (regHomLasterr n.val) 63 48 = 0x5072)))

/-! ## Snoops -/

/-- R244, R246, R250: a die that holds no copy answers SnpNone, and a subjunctive request that nothing was forwarded. R246, R251: a die one
of whose L2s owns the line, alone. SnpS leaves a shared copy and forwards it; SnpX forwards the line and leaves none; SnpI leaves none;
SnpH brings dirty data home; SnpC brings it home and leaves a clean copy; RdSub forwards the line and freezes it. Messages are addressed as
log entries 13 and 14 say. A snoop names its requester (log entry 19). -/
def Obligations.Snoops : Prop :=
  (∀ (d : DiePos) (h : Hdr) (s : State),
      agentPkg h.dst = s.pkgNum → agentDie h.dst = d.val → s.dieCopies d.val h.addr = [] → (s.die d.val).sfFind h.addr = none →
      let answers (c : Instr) (ty r : MsgType) (fl : Flags) (b : Body) : Prop := s.behind { type := ty, hdr := h } = false → Ends c s (fun u =>
        u.sent = s.sent.erase { type := ty, hdr := h } ++
          [{ type := r, hdr := { h with src := agentId s.pkgNum d.val 48, dst := s.agentH h.addr, flags := fl, grant := .I }, body := b }] ∧
        u.mem = s.mem ∧ u.threads = s.threads ∧ u.cores = s.cores)
      answers (.snps h) .snpS .snpNone {} .none ∧ answers (.snpx h) .snpX .snpNone {} .none ∧ answers (.snpi h) .snpI .snpNone {} .none ∧
      answers (.snph h) .snpH .snpNone {} .none ∧ answers (.snpc h) .snpC .snpNone {} .none ∧
      answers (.rdsub h) .rdSub .subFwd {} (.state .I)) ∧
  (∀ (d : DiePos) (c : CorePos) (h : Hdr) (l : Line) (st : CState) (e : SfEntry) (w : Nat) (v : CLine) (s : State),
      agentPkg h.dst = s.pkgNum → agentDie h.dst = d.val → dieOfCore c.val = d.val → (s.die d.val).sfFind h.addr = some e → e.bad = 0 →
      s.dieCopies d.val h.addr = [{ place := .l2 c.val, st := st, data := l }] → (s.core c.val).l2Find h.addr = some (w, v) →
      v.data = l → v.st = st → v.bad = 0 → v.tagBad = false → v.frozen = false → st = .M ∨ st = .O ∨ st = .E →
      bit (s.reg regGlbInject) 63 = false → h.flags.keepS = false → ((s.core c.val).txnFind h.addr) = none →
      let dirty : Bool := decide (st = .M ∨ st = .O)
      let back (ty : MsgType) (fl : Flags) (b : Body) : Msg :=
        { type := ty, hdr := { h with src := agentId s.pkgNum d.val 48, dst := s.agentH h.addr, flags := fl, grant := .I }, body := b }
      let fwd (ty : MsgType) (g : CState) : Msg :=
        { type := ty, hdr := { h with src := agentId s.pkgNum d.val 48, dst := h.src, grant := g, flags := { fwd := true } }, body := .line l }
      let sends (i : Instr) (ty : MsgType) (ms : List Msg) (after : CState) : Prop := s.behind { type := ty, hdr := h } = false → Ends i s (fun u =>
        u.sent = s.sent.erase { type := ty, hdr := h } ++ ms ∧ u.mem = s.mem ∧ (u.core c.val).l2State h.addr = after)
      sends (.snps h) .snpS [fwd .data .S, back .fwdAck { dirty := dirty } (.state (shareState st))] (shareState st) ∧
      sends (.snpx h) .snpX [fwd .data (if dirty then .M else .E), back .fwdAck { dirty := dirty } (.state .I)] .I ∧
      sends (.snpi h) .snpI [back .snpAck {} .none] .I ∧
      sends (.snph h) .snpH [if dirty then back .snpData { dirty := true } (.line l) else back .snpAck {} .none] .I ∧
      sends (.snpc h) .snpC [if dirty then back .snpData { dirty := true } (.line l) else back .snpAck {} .none]
        (if st = .M then .E else if st = .O then .S else st) ∧
      sends (.rdsub h) .rdSub [fwd .dataSub h.grant, back .subFwd { forwarded := true, dirty := dirty } (.state st)] st ∧
      (s.behind { type := .rdSub, hdr := h } = false → Ends (.rdsub h) s (fun u => ∃ x, (u.core c.val).l2Find h.addr = some (w, x) ∧ x.frozen = true)))

/-! ## Answers at cores and dies -/

/-- R246, R247, R264, R266: what reaches a core for its outstanding request. Data is kept until the completion comes; a completion with the
data there fills the L2 in the granted state, is acknowledged, and the request ends; subjunctive data enters the subjunctive buffer, a
Refute empties it, and one that comes first has the data discarded. Where the spec states no value the result is the next free value,
whatever it is (log entry 1). Messages are addressed as log entries 13 and 14 say. A snoop names its requester (log entry 19). A parity
error of a subjunctive entry is a free choice, with the continuation of log entry 84. -/
def Obligations.CoreFills : Prop :=
  ∀ (c : CorePos) (h : Hdr) (l : Line) (x : Txn) (s : State),
    s.coreTakes c.val h → (s.core c.val).txns = [x] → x.tid = h.tid → x.line = h.addr → bit (s.reg regGlbInject) 63 = false →
    let die := dieOfCore c.val
    let takes (i : Instr) (m : Msg) (y : Txn) : Prop := s.behind m = false → Ends i s (fun u => (u.core c.val).txns = [y] ∧ s.takesOnly u m)
    (x.kind ≠ .upg → x.cmp = none → x.subData = none →
      takes (.data h l .clean) { type := .data, hdr := h, body := .line l } { x with data := some l }) ∧
    ((x.kind = .rdS ∧ (h.grant = .S ∨ h.grant = .E) ∨ x.kind = .rdX ∧ (h.grant = .E ∨ h.grant = .M)) → x.cmp = none → x.data = some l →
      x.subData = none → h.flags = {} → agentPkg h.src = s.pkgNum → (s.core c.val).l2 = [] → (s.core c.val).l2On = true →
      s.dieCopies die h.addr = [] → s.behind { type := .cmp, hdr := h } = false →
      Ends (.cmp h) s (fun u => (u.core c.val).txns = [] ∧ (u.core c.val).l2State h.addr = h.grant ∧
        (∃ w v, (u.core c.val).l2Find h.addr = some (w, v) ∧ v.data = l) ∧ u.mem = s.mem ∧
        u.credits die (s.chanOf (lineBase h.addr)) 0 = s.credits die (s.chanOf (lineBase h.addr)) 0 + h.cr.toNat ∧
        ∃ m, u.sent = s.sent.erase { type := .cmp, hdr := h } ++ [m] ∧ m.type = .cmpAck ∧ m.hdr.addr = h.addr ∧ m.hdr.tid = h.tid)) ∧
    (x.sub = true → x.subData = none → x.subLost = false → x.cmp = none → x.conf = false →
      (x.refuted = false → takes (.datasub h l) { type := .dataSub, hdr := h, body := .line l }
        { x with subData := some l, subBad := s.freeWord.getLsbD 0 }) ∧
      (x.refuted = true → takes (.datasub h l) { type := .dataSub, hdr := h, body := .line l } { x with refuted := false, sub := false }) ∧
      takes (.refute h) { type := .refute, hdr := h } { x with refuted := true }) ∧
    (x.sub = true → x.subData = some l → x.subLost = false → x.consumer = none →
      takes (.refute h) { type := .refute, hdr := h } { x with subData := none, sub := false })

/-- R165, R212, R255, R239: results that a thread waits for. A far atomic's old value and an uncached load's bytes reach rd, and the
instruction retires; the ownership answer is kept for the walk. -/
def Obligations.ThreadAnswers : Prop :=
  ∀ (t : ThreadPos) (h : Hdr) (op : LoadOp) (rd : BitVec 5) (wide ok : Bool) (v : Word) (q : OwnQuery) (s : State),
    let y := s.thread t.val
    let c := coreOf t.val
    s.coreTakes c h → (s.thread (siblingOf t.val)).wait = .ready → (s.thread t.val).ad = none → (s.thread (siblingOf t.val)).ad = none →
    (s.core c).mb = [] → h.flags = {} → agentPkg h.src = s.pkgNum → y.exitDue = none →
    let result (i : Instr) (m : Msg) (w : Word) : Prop := s.behind m = false → Ends i s (fun u => u.mem = s.mem ∧
      wroteGpr y (u.thread t.val) rd w ∧ (u.thread t.val).goesTo y.nextPc none ∧ (u.thread t.val).wait = .ready)
    (y.wait = .access h.tid (.atomic rd wide) →
      result (.atomrsp h v) { type := .atomRsp, hdr := h, body := .value v } (atomResult wide v)) ∧
    (y.wait = .access h.tid (.load op rd 0 0) →
      result (.ucrsp h v) { type := .ucRsp, hdr := h, body := .value v } (loadedWord op (v.toNat % 256 ^ loadSize op))) ∧
    (y.own = [q] → q.tid = h.tid → (s.thread (siblingOf t.val)).own = [] → s.behind { type := .ownRsp, hdr := h, body := .flag ok } = false →
      Ends (.ownrsp h ok) s (fun u => (u.thread t.val).own = [{ q with answer := some ok }] ∧
        (∀ r, (u.thread t.val).gpr r = y.gpr r) ∧ u.mem = s.mem))

/-- R169, R241, R246, R263: a writeback's acknowledgement frees its eviction-buffer entry and returns a credit; credits reach the die; a
subjunctive copy is unfrozen by SubDone, unchanged when it is released, shared when it is applied for a read. R220, R270, R88: a TLBI
reaches a die, whose cores drop the entries it names; its report at the unit, when it is the last, is acknowledged to the issuing package;
the acknowledgement of the last package ends the thread's TLBI. Messages are addressed as log entries 13 and 14 say. -/
def Obligations.DieAnswers : Prop :=
  (∀ (c : CorePos) (d : DiePos) (n : Chan) (o : Nat) (h : Hdr) (pool : Bool) (count w : Nat) (e : EbEntry) (v : CLine) (s : State),
      (s.coreTakes c.val h → agentDie h.dst < 12 → agentUnit h.dst < 20 → (s.core c.val).eb = [e] → e.line = h.addr → e.issued = true →
        e.tid = h.tid → (s.core c.val).txns = [] → (s.core c.val).l2Flushing = false → agentPkg h.src = s.pkgNum → s.behind { type := .wbAck, hdr := h } = false →
        Ends (.wback h) s (fun u => (u.core c.val).eb = [] ∧ u.mem = s.mem ∧
          u.credits (dieOfCore c.val) (s.chanOf (lineBase h.addr)) 1 = s.credits (dieOfCore c.val) (s.chanOf (lineBase h.addr)) 1 + h.cr.toNat)) ∧
      (agentPkg h.dst = s.pkgNum → agentDie h.dst = d.val → agentUnit h.src = n.val →
        s.behind { type := .credit, hdr := h, body := .words [BitVec.ofNat 64 (b2n pool), BitVec.ofNat 64 count] } = false → Ends (.credit h pool count) s (fun u =>
        u.credits d.val n.val (b2n pool) = s.credits d.val n.val (b2n pool) + count ∧ u.mem = s.mem ∧ u.threads = s.threads)) ∧
      (agentPkg h.dst = s.pkgNum → agentDie h.dst = d.val → (s.core (d.val * 20 + o)).l2Find h.addr = some (w, v) → v.st ≠ .I →
        (upTo 20).find? (fun o => match (s.core (d.val * 20 + o)).l2Find h.addr with
          | some (_, v) => v.frozen
          | none => false) = some o →
        let freed (apply : Bool) (x : CLine) : Prop := s.behind { type := .subDone, hdr := h, body := .flag apply } = false →
          Ends (.subdone h apply) s (fun u => (u.core (d.val * 20 + o)).l2Find h.addr = some (w, x) ∧ u.mem = s.mem ∧ u.threads = s.threads)
        freed false { v with frozen := false, frozenX := false } ∧
        (v.frozenX = false → freed true { v with frozen := false, frozenX := false, st := shareState v.st }))) ∧
  (∀ (d : DiePos) (t : ThreadPos) (h : Hdr) (a : TlbiArgs) (o : TlbiOut) (s : State), agentPkg h.dst = s.pkgNum →
      (agentDie h.dst = d.val → s.behind { type := .tlbi, hdr := h, body := .tlbi a } = false → Ends (.tlbiMessage h a) s (fun u => u.mem = s.mem ∧ u.threads = s.threads ∧
        ∀ c, c < 20 → (s.core (d.val * 20 + c)).fenced = false → u.core (d.val * 20 + c) = (s.core (d.val * 20 + c)).tlbi a)) ∧
      (s.tlbiUnit = [{ args := a, dies := [agentDie h.src] }] → s.behind { type := .tlbiDone, hdr := h, body := .tlbi a } = false →
        Ends (.tlbidone h a) s (fun u => u.tlbiUnit = [] ∧ u.mem = s.mem ∧
        u.sent = s.sent.erase { type := .tlbiDone, hdr := h, body := .tlbi a } ++
          [{ type := .tlbiAck, hdr := { h with src := agentId s.pkgNum 12 96, dst := agentId (a.issuer.toNat / 2048) 12 96 }, body := .tlbi a }])) ∧
      (posOfTid a.issuer.toNat = some t.val → (s.thread t.val).tlbis = [o] → o.seq = a.seq → o.left = [agentPkg h.src] →
        s.behind { type := .tlbiAck, hdr := h, body := .tlbi a } = false → (s.thread t.val).wait = .ready → Ends (.tlbiack h a) s (fun u => (u.thread t.val).tlbis = [] ∧ u.mem = s.mem ∧
          (∀ r, (u.thread t.val).gpr r = (s.thread t.val).gpr r) ∧ (u.thread t.val).pc = (s.thread t.val).pc)) ∧
      (posOfTid a.issuer.toNat = some t.val → (s.thread t.val).tlbis = [o] → o.seq = a.seq → o.left = [agentPkg h.src] →
        s.behind { type := .tlbiAck, hdr := h, body := .tlbi a } = false → (s.thread t.val).wait = .syncT → Ends (.tlbiack h a) s (fun u => (u.thread t.val).tlbis = [] ∧ (u.thread t.val).wait = .ready ∧
          u.mem = s.mem ∧ (∀ r, (u.thread t.val).gpr r = (s.thread t.val).gpr r) ∧ (u.thread t.val).goesTo (s.thread t.val).nextPc none)))

/-! ## Trail links -/

/-- R319, R320, R322 to R324, R327, R329: flits at an octet that carries them. A data flit in sequence is accepted: its message is
delivered, and its slots are owed. One that is not in sequence, or is received in error, is discarded with one NAK. Idle flits bring
acknowledgements and credits; a NAK or a silence of 256 clauses resends what is held, with RETX. A control flit received in error does
nothing of this. A command whose condition does not hold changes nothing (log entry 41). The messages of a flit stand beside its words (log
entry 25), and a NAK is repeated as log entry 96 says. -/
def Obligations.Flits : Prop :=
  ∀ (n : Octet) (f : Flit) (i : Nat) (k : Pkt) (x : TxFlit) (xs : List TxFlit) (p c : Nat) (w : Word) (s : State),
    s.linkCarries n.val = true → bit (s.reg regGlbInject) 63 = false →
    let l := s.link n.val
    let again : TxFlit := { x with pkts := x.pkts.map (fun q => { q with route := { q.route with retx := true } }), resends := x.resends + 1 }
    let resent : OutFlit := { kind := kindData, seq := x.seq, ackseq := l.rxSeq, first := x.first, pkts := again.pkts, crets := x.crets }
    (f.intact = true → f.kind = kindData → f.seq = l.rxSeq + 1 → f.begun = [(i, k)] → i + k.route.len.toNat ≤ 15 → f.crets = [] →
      l.rxRest = none → 2 ≤ k.route.len.toNat → k.route.reserved = 0 → k.unknown = none → k.route.flood = false →
      k.route.dst.toNat = s.pkgNum → l.replay = [] →
      Ends (.dataFlit n f) s (fun u => u.sent = s.sent ++ [k.msg] ∧ (u.link n.val).rxSeq = f.seq ∧ (u.link n.val).nakAt = none ∧
        Tbl.get 0 (u.link n.val).owed (pktPool k) = Tbl.get 0 l.owed (pktPool k) + k.route.len.toNat ∧ u.mem = s.mem ∧ u.threads = s.threads)) ∧
    (f.intact = false ∨ f.kind = kindData ∧ f.seq ≠ l.rxSeq + 1 →
      (l.nakAt = none → Ends (.dataFlit n f) s (fun u => u.sent = s.sent ∧ (u.link n.val).rxSeq = l.rxSeq ∧
        (u.link n.val).nakAt = some s.clause ∧
        (u.link n.val).out = l.out ++ [{ kind := kindNak, seq := l.nextSeq, ackseq := l.rxSeq }] ∧ u.mem = s.mem)) ∧
      (l.nakAt = some w → s.clause.toNat < w.toNat + 256 → Ends (.dataFlit n f) s (fun u => u.sent = s.sent ∧
        (u.link n.val).rxSeq = l.rxSeq ∧ (u.link n.val).out = l.out ∧ u.mem = s.mem))) ∧
    (f.intact = true → f.kind = kindIdle → l.replay = x :: xs → f.ackseq = x.seq → f.crets = [(p, c)] →
      Ends (.idleFlit n f) s (fun u => (u.link n.val).replay = xs ∧ (u.link n.val).acked = x.seq ∧
        (u.link n.val).credit p = l.credit p + 4 * c ∧ u.sent = s.sent ∧ u.mem = s.mem)) ∧
    (f.intact = false → Ends (.idleFlit n f) s (fun u => (u.link n.val).replay = l.replay ∧ (u.link n.val).creds = l.creds ∧ u.sent = s.sent ∧
      u.mem = s.mem)) ∧
    (f.intact = true → f.kind = kindNak → l.replay = [x] → f.ackseq ≠ x.seq → f.crets = [] →
      x.resends + 1 < s.fld (regTrlLinkctl n.val) 23 16 →
      Ends (.nakFlit n f) s (fun u => (u.link n.val).out = [resent] ∧ (u.link n.val).replay = [again] ∧ u.sent = s.sent ∧ u.mem = s.mem)) ∧
    (f.intact = false → Ends (.nakFlit n f) s (fun u => (u.link n.val).replay = l.replay ∧ (u.link n.val).out = l.out ∧ u.sent = s.sent ∧
      u.mem = s.mem)) ∧
    (l.replay = [x] → x.resends + 1 < s.fld (regTrlLinkctl n.val) 23 16 → l.lastAck.toNat + 256 ≤ s.clause.toNat →
      Ends (.replayTimeout n) s (fun u => (u.link n.val).out = [resent] ∧ (u.link n.val).replay = [again] ∧
        (u.link n.val).lastAck = s.clause ∧ u.sent = s.sent ∧ u.mem = s.mem)) ∧
    (s.clause.toNat < l.lastAck.toNat + 256 → exec (.replayTimeout n) s = .next s)

/-- R332 to R335, R689: the ways by which a link retrains and comes up again. Loss of FEC lock, a lane at its limit, RETRAIN and the other
end's markers begin a partial reset; after it the ends agree on a width; a confirmation brings the link up; none within 64 clauses, or the
far end's silence, begins a full retrain; the third that fails fences the link. R331: in TRAIN an octet whose training completes is up with
the width of R334, its neighbour noted; one that does not complete stays down. A command whose condition does not hold changes nothing (log
entry 41). -/
def Obligations.Retrains : Prop :=
  (∀ (n : Octet) (f : Flit) (lane : Fin 8) (good far mask : BitVec 8) (prop : BitVec 2) (c : Word) (s : State),
      let l := s.link n.val
      let st := s.linkState n.val
      let dest (i : Instr) (new : Nat) : Prop := Ends i s (fun u => u.linkState n.val = new ∧ u.mem = s.mem ∧ u.threads = s.threads ∧
        (u.link n.val).queue = l.queue)
      s.isTrail n.val = true →
      (st = linkUp → dest (.fecLockLoss n) linkTrainingSt ∧ dest (.trlRetrain n) linkTrainingSt ∧ dest (.trainingMarker n mask) linkTrainingSt) ∧
      (st = linkUp → s.fld (regTrlLinkctl n.val) 15 4 ≠ 0 → s.fld (regTrlLinkctl n.val) 15 4 ≤ s.laneSum n.val lane.val →
        Ends (.laneLimit n lane) s (fun u => u.linkState n.val = linkTrainingSt ∧
        (u.link n.val).good = l.good &&& ~~~(BitVec.ofNat 8 (2 ^ lane.val)) ∧ u.mem = s.mem)) ∧
      (st = linkTrainingSt → l.full = false → s.mode ≠ modeTrain → Ends (.partialResetDone n good) s (fun u =>
        u.linkState n.val = linkAgreeing ∧ (u.link n.val).good = l.good &&& good ∧ (u.link n.val).agreeing = some s.clause ∧ u.mem = s.mem)) ∧
      (st = linkAgreeing → f.intact = true → f.kind = kindWidth →
        s.widthOk n.val (widthOf (l.good &&& mask) (if prop.toNat < (widthOf l.good 3).1 then prop.toNat else (widthOf l.good 3).1)).1 = true →
        Ends (.widthControlFlit n f mask prop false) s (fun u => u.linkState n.val = linkAgreeing ∧ (u.link n.val).met = true ∧
          (u.link n.val).far = mask ∧ u.mem = s.mem)) ∧
      (st = linkAgreeing → f.intact = true → f.kind = kindWidth → l.met = true → l.isolated = false → l.replay = [] →
        Ends (.widthControlFlit n f mask prop true) s (fun u =>
        u.linkState n.val = linkUp ∧ (u.link n.val).attempts = 0 ∧ u.mem = s.mem)) ∧
      (st = linkAgreeing → l.agreeing = some c → c.toNat + 64 ≤ s.clause.toNat → Ends (.widthConfirmTimeout n) s (fun u =>
        u.linkState n.val = linkTrainingSt ∧ (u.link n.val).full = true ∧ u.mem = s.mem)) ∧
      (l.agreeing = some c → s.clause.toNat < c.toNat + 64 → exec (.widthConfirmTimeout n) s = .next s) ∧
      (st = linkTrainingSt → l.full = true → l.isolated = false → l.replay = [] → s.widthOk n.val (widthOf (good &&& far) 3).1 = true →
        Ends (.fullRetrainDone n true good far) s (fun u => u.linkState n.val = linkUp ∧ u.fld (regTrlStatus n.val) 7 6 = (widthOf (good &&& far) 3).1 ∧
          u.mem = s.mem)) ∧
      (st = linkTrainingSt → l.full = true → l.attempts = 2 → Ends (.fullRetrainDone n false good far) s (fun u =>
        u.linkState n.val = linkFenced ∧ (u.link n.val).queue = [] ∧ u.mem = s.mem)) ∧
      (st = linkUp → s.mode ≠ modeTrain → Ends (.linkDown n) s (fun u => u.linkState n.val = linkTrainingSt ∧ (u.link n.val).full = true ∧
        (u.link n.val).attempts = 0 ∧ u.mem = s.mem))) ∧
  (∀ (n o : Octet) (good far : BitVec 8) (serial : Word) (s : State),
      s.mode = modeTrain → s.isTrail n.val = true → s.linkState n.val = linkTrainingSt →
      (s.widthOk n.val (widthOf (good &&& far) 3).1 = true → Ends (.linkTrainingDone n good far serial o) s (fun u =>
        u.linkState n.val = linkUp ∧ u.reg (regTrlNeighbour n.val) = serial ∧ u.fld (regTrlStatus n.val) 27 24 = o.val ∧
        u.fld (regTrlStatus n.val) 7 6 = (widthOf (good &&& far) 3).1 ∧ u.mem = s.mem)) ∧
      (s.widthOk n.val (widthOf (good &&& far) 3).1 = false → Ends (.linkTrainingDone n good far serial o) s (fun u =>
        u.linkState n.val = linkDownSt ∧ u.mem = s.mem)) ∧
      Ends (.linkTrainingTimeout n) s (fun u => u.linkState n.val = linkDownSt ∧ u.mem = s.mem ∧ u.threads = s.threads))

/-! ## The clause unit -/

/-- R21, R46, R33, R35: the clause clock locks in SENSE, and counting goes on from the value held; its loss halts the package; the manager
answers a timing exchange with its time; the worker counts its exchanges; an epoch starts the alignment; the manager realigns a member
through QUIESCE. R36, R45, R46, R49, R50: a correction within tolerance sets the phase to slew, keeps the round trip and the offset, clears
the count of missed corrections, and leaves ALIGNED as the offset says; one without a usable exchange raises the count; a package in
holdover corrects nothing. A command whose condition does not hold changes nothing (log entry 41). What the rules of alignment leave open
is settled by log entry 77. -/
def Obligations.ClauseClock : Prop :=
  (∀ (p : Pkg) (xid : BitVec 12) (retx : Bool) (turn off : BitVec 16) (tm : Nat) (v : Word) (a : Align) (s : State),
      (s.mode = modeSense → Ends (.clauseClockLock) s (fun u => u.counting = true ∧ u.fld regClkStatus 0 0 = 1 ∧ u.clause = s.clause ∧
        s.sameMachine u)) ∧
      (s.mode ≠ modeSense → exec .clauseClockLock s = .next s) ∧
      (s.fld regClkStatus 0 0 = 1 → s.live → Ends .clauseLockLoss s (fun u => s.halts u ∧ u.fld regClkStatus 0 0 = 0 ∧ u.counting = s.counting)) ∧
      (s.fld regClkStatus 0 0 = 0 → exec .clauseLockLoss s = .next s) ∧
      (s.timeSource = true → s.joined = true → Ends (.syncReq p xid retx turn) s (fun u => s.sameMachine u ∧
        u.sent = (s.takeMgmt .syncReq p.toNat).sent ++
          [s.mgmt .syncRsp p.toNat (.words [xid.zeroExtend 64, BitVec.ofNat 64 (b2n retx), BitVec.ofNat 64 s.now16, turn.zeroExtend 64])])) ∧
      (s.image.align = some a → a.xid = xid → a.paused = false → 2 ≤ a.left → Ends (.syncRsp xid retx tm turn) s (fun u => s.sameMachine u ∧
        ∃ x, u.image.align = some x ∧ x.left = a.left - 1 ∧ x.xid = a.xid + 1 ∧ x.t1 = s.now16 ∧ (retx = true → x.best = a.best))) ∧
      (s.isManager = false → s.mode = modeJoin → Ends (.epoch v) s (fun u => s.sameMachine u ∧
        u.image.align = some { realign := s.joined, xid := 1, t1 := s.now16 })) ∧
      (s.canQuiesce = true → s.image.realignAsked = [] → s.isMember p.toNat = true → Ends (.clauseRealign p off) s (fun u => s.sameMachine u ∧
        u.image.cutAt = some (s.clause + BitVec.ofNat 64 (s.fld regGlbQuiescectl 7 0)) ∧
        ∃ z, u.image.quiesce = some z ∧ z.purpose = .realign [p.toNat] ∧ z.complete = false))) ∧
  (∀ (xs : List Exchange) (b : Int × Int) (s : State), s.joined = true → s.isManager = false → s.mode ≠ modeHalt →
      (s.fld regClkStatus 0 0 = 1 → bestExchange xs = some b → b.2.natAbs < 32 → 0 ≤ b.1 → b.1 < 65536 → Ends (.driftCorrection xs) s (fun u =>
        u.image.slew = b.2 ∧ u.fld regClkStatus 11 8 = 0 ∧ u.fld regClkStatus 2 2 = (if b.2.natAbs ≤ 16 then 1 else 0) ∧
        u.fld regClkSyncstat 47 32 = b.1.toNat ∧ u.fld regClkSyncstat 15 0 = (wordOfInt b.2).toNat % 2 ^ 16 ∧ u.clause = s.clause ∧ s.sameMachine u)) ∧
      (s.fld regClkStatus 0 0 = 1 → bestExchange xs = none → s.fld regClkStatus 11 8 < 8 → Ends (.driftCorrection xs) s (fun u =>
        u.fld regClkStatus 11 8 = s.fld regClkStatus 11 8 + 1 ∧ u.clause = s.clause ∧ s.sameMachine u)) ∧
      (s.fld regClkStatus 0 0 = 0 → exec (.driftCorrection xs) s = .next s))

/-- R27 to R29: the events of a clause are taken in the order of rank, then package, die and source index, none lost and none twice. -/
def Obligations.EventOrder : Prop := ∀ l : List Event, (sortEvents l).Pairwise (fun a b => a.before b = true) ∧ (sortEvents l).Perm l

/-- R38, R40, R42: a clause is resolved once the horizon has passed, and not before; its records enter the trip log's input queue. A
command whose condition does not hold changes nothing (log entry 41). -/
def Obligations.ClauseResolves : Prop :=
  ∀ (e : Event) (r : Rec) (s : State),
    (s.events = [] → exec .clauseResolution s = .next s) ∧
    (s.events = [e] → s.clause.toNat < e.clause.toNat + s.horizon → exec .clauseResolution s = .next s) ∧
    (s.events = [e] → e.clause.toNat + s.horizon ≤ s.clause.toNat → e.kind = .record → e.recs = [r] → s.log.queue.length < 4096 →
      Ends .clauseResolution s (fun u => u.events = [] ∧ u.unresolved = e.clause + 1 ∧ s.sameMachine u ∧
        u.log.queue = qInsert { proc := e.clause, rank := e.rank, r := r } s.log.queue))

/-! ## Forming the image, its routes and its regime -/

/-- R343 to R345: a package in SEALED that hears of a manager joins and tells who it is; the manager notes each identity once; an ASSIGN
for the package gives it its number and the members; at the end of discovery a second manager makes the JOIN fail. R343, R344: a manager
that finds no other package forms an image of itself, as package 0, and runs in the regime asked for. A command whose condition does not
hold changes nothing (log entry 41). -/
def Obligations.ImageForms : Prop :=
  (∀ (w : Word) (i : Ident) (a : Assign) (j : JoinJob) (s : State),
      (s.mode = modeSealed → w ≠ s.reg regMshIoserial → Ends (.discover w) s (fun u => s.entersMode u modeJoin 7 ∧ s.sameMachine u ∧
        u.image.floodSeq = s.image.floodSeq + 1)) ∧
      (s.image.join = some j → j.step = 1 → s.image.idents.any (fun x => decide (x.serial = i.serial)) = false →
        Ends (.ident i) s (fun u => u.image.idents = s.image.idents ++ [i] ∧ u.image.lastIdent = s.clause ∧ s.sameMachine u)) ∧
      (a.serial = s.reg regMshIoserial → s.mode = modeJoin → a.members ≠ 0 → Ends (.assign a) s (fun u =>
        u.pkgNum = a.num.toNat ∧ u.fld regTrlImage 63 32 = a.members.toNat ∧ u.managerNum = a.manager.toNat ∧ u.joined = s.joined ∧
        u.image.assigned = some a ∧ u.mode = modeJoin ∧ s.sameMachine u)) ∧
      (s.image.join = some j → j.step = 1 → j.re = false → s.mode = modeJoin → s.joined = false →
        s.image.lastIdent.toNat + 250000 ≤ s.clause.toNat →
        (s.image.idents.filter (fun i => decide (i.serial ≠ s.reg regMshIoserial))).any (·.mgrSel) = true →
        Ends .discoveryEnd s (fun u => u.image.join = none ∧ u.mode = modeSealed ∧ u.joined = false ∧ s.sameMachine u)) ∧
      (s.image.join = some j → s.clause.toNat < s.image.lastIdent.toNat + 250000 → exec .discoveryEnd s = .next s)) ∧
  (∀ (i : Ident) (j : JoinJob) (s : State), s.image.join = some j → j.step = 1 → j.re = false → j.table = [] → j.minPkg ≤ 1 →
      j.regime = 1 ∨ j.regime = 2 → s.mode = modeJoin → s.joined = false → s.image.idents = [i] → i.serial = s.reg regMshIoserial →
      i.links = [] → i.stby = false → s.image.lastIdent.toNat + 250000 ≤ s.clause.toNat → s.holdsFenced = false → s.trailOctets = [] →
      s.clause.toNat < 2 ^ 62 → i.clause.toNat < 2 ^ 62 →
      Ends .discoveryEnd s (fun u => u.mode = runModeOf j.regime ∧ u.imageMode = runModeOf j.regime ∧ u.joined = true ∧ u.pkgNum = 0 ∧
        u.managerNum = 0 ∧ u.fld regTrlImage 63 32 = 1 ∧ u.regime = j.regime ∧ s.clause.toNat ≤ u.clause.toNat ∧ u.mem = s.mem))

/-- R341, R342, R348: new routes are stored, the member holds its messages, and at the switch the routes are in force and messages flow
again; the manager waits for every member; a change not complete in 500,000 clauses halts; a regime goes into every home agent. A command
whose condition does not hold changes nothing (log entry 41). -/
def Obligations.RoutesAndRegime : Prop :=
  ∀ (gen : BitVec 16) (routes : List Word) (p : Pkg) (q : Nat) (c : RouteChange) (v : BitVec 2) (s : State),
    (s.mode ≠ modeJoin → Ends (.routeWrite gen routes) s (fun u => u.image.newRoutes = routes ∧ u.image.gen = gen ∧ u.regs = s.regs ∧
      s.sameMachine u)) ∧
    Ends .routeHold s (fun u => u.image.held = true ∧ u.image.holdDone = false ∧ u.regs = s.regs ∧ s.sameMachine u) ∧
    (s.image.newRoutes = routes → routes ≠ [] → s.trailOctets = [] → Ends .routeSwitch s (fun u => u.image.held = false ∧
      u.image.newRoutes = [] ∧ (∀ d, d < 32 → u.reg (regTrlRoute d) = routes.getD d 0) ∧ s.sameMachine u)) ∧
    (s.image.change = some c → c.waiting = [p.toNat, q] → q ≠ p.toNat → Ends (.holdDone p) s (fun u =>
      u.image.change = some { c with waiting := [q] } ∧ s.sameMachine u)) ∧
    (s.image.change = some c → c.waiting = [p.toNat] → Ends (.holdDone p) s (fun u => u.image.change = none ∧ u.image.held = false ∧
      s.sameMachine u)) ∧
    (s.image.change = some c → c.started.toNat + 500000 ≤ s.clause.toNat → s.live → Ends .routeChangeTimeout s s.halts) ∧
    (s.image.change = none → exec .routeChangeTimeout s = .next s) ∧
    (s.joined = true → v ≠ 0 → Ends (.regime v) s (fun u => (∀ n, n < 16 → u.fld (regHomStatus n) 1 0 = v.toNat) ∧ u.mem = s.mem ∧
      u.threads = s.threads))

/-! ## The watch over the manager -/

/-- R27, R349 to R353: the manager's heartbeats restart SILENCE; the standby asks the workers after 10 ms of silence and decides by their
answers; the loss is an event of rank 6, at whose resolution the standby is the manager, as time source once it has brought a running image
to QUIESCE; a member follows the new manager, and the old one contains its endpoint and asks for DEGRADED; a worker that hears nothing for
20 ms halts. R40, R352, R609: the standby stores the manager's key slots, the manager counts its acknowledgements and drops a standby that
gives none; an event reaches the manager and waits for its clause; HALT_IMAGE halts a member. A command whose condition does not hold
changes nothing (log entry 41). -/
def Obligations.WatchOverTheManager : Prop :=
  (∀ (p : Pkg) (silence : BitVec 32) (c : Word) (e : Event) (s : State),
      let asks (u : State) (k : EventKind) : Prop := ∃ q, u.events = s.events ++ q ++ [{ stamp := s.clause, rank := 6, origin := s.origin 12 81, kind := k }]
      let running : Prop := s.imageMode = modeRunI ∨ s.imageMode = modeRunS ∨ s.imageMode = modeQuiesce
      (s.isManager = true → s.joined = true → s.mode ≠ modeHalt → Ends .heartbeatPeriod s (fun u => s.sameMachine u ∧ u.regs = s.regs ∧
        u.sent = s.sent ++ s.otherMembers.map (fun p => s.mgmt .heartbeat p .none))) ∧
      (s.joined = true → p.toNat = s.managerNum → Ends (.heartbeat p) s (fun u => u.silence = 0 ∧ s.sameMachine u)) ∧
      (s.isStandby = true → s.image.askAgain ≤ s.silence → s.image.heardAt = none → Ends .standbySilenceLimit s (fun u =>
        u.image.heardAt = some s.clause ∧ s.sameMachine u ∧ u.sent = s.sent ++ s.workersAsked.map (fun p => s.mgmt .heardReq p .none))) ∧
      (s.joined = true → Ends (.heardReq p) s (fun u => s.sameMachine u ∧
        u.sent = (s.takeMgmt .heardReq p.toNat).sent ++ [s.mgmt .heardRsp p.toNat (.value (BitVec.ofNat 64 s.silence))])) ∧
      (s.image.heardAt = some c → s.image.heard = [] → s.workersAsked = [p.toNat] → silence.toNat < 500000 →
        Ends (.heardRsp p silence) s (fun u => u.image.heardAt = none ∧ u.image.askAgain = s.silence + 2500000 ∧ u.managerNum = s.managerNum ∧
          s.sameMachine u)) ∧
      (s.image.heardAt = some c → c.toNat + 250000 ≤ s.clause.toNat → s.image.heard = [] → s.joined = true →
        s.upOctets.any (fun n => bit (s.reg (regTrlRoute s.managerNum)) n) = true →
        Ends .heardTimeout s (fun u => u.image.heardAt = none ∧ u.managerNum = s.managerNum ∧ asks u .takeover ∧ s.sameMachine u)) ∧
      (s.events = [e] → e.kind = .takeover → e.recs = [] → e.clause.toNat + s.horizon ≤ s.clause.toNat → s.isStandby = true → s.mode ≠ modeHalt →
        Ends .clauseResolution s (fun u => u.managerNum = s.pkgNum ∧ u.isManager = true ∧ u.silence = 0 ∧ u.fld regClkStatus 2 2 = 1 ∧
          u.reg regClkSyncstat = 0 ∧ s.sameMachine u ∧
          (running → (∃ z, u.image.quiesce = some z ∧ z.purpose = .takeover) ∧ u.timeSource = s.timeSource) ∧
          (¬ running → u.timeSource = true ∧ u.fld regTrlImage 22 22 = 0))) ∧
      (s.image.heardAt = some c → s.clause.toNat < c.toNat + 250000 → exec .heardTimeout s = .next s) ∧
      (s.joined = true → p.toNat ≠ s.pkgNum → s.isManager = false → Ends (.takeover p) s (fun u => u.managerNum = p.toNat ∧ u.silence = 0 ∧
        u.mode = s.mode ∧ s.sameMachine u)) ∧
      (s.joined = true → p.toNat ≠ s.pkgNum → s.isManager = true → Ends (.takeover p) s (fun u =>
        u.managerNum = p.toNat ∧ u.isManager = false ∧ u.timeSource = false ∧ u.mode = s.mode ∧ asks u .degrade ∧ u.epfContained = true ∧
        s.sameMachine u)) ∧
      (s.events = [e] → e.kind = .degrade → e.recs = [] → e.clause.toNat + s.horizon ≤ s.clause.toNat → s.mode = modeRunI ∨ s.mode = modeRunS →
        Ends .clauseResolution s (fun u => s.entersMode u modeDegraded 14 ∧ s.sameMachine u)) ∧
      (s.joined = true → s.isManager = false → s.live → 5000000 ≤ s.silence → Ends .heartbeatSilence s s.halts) ∧
      (s.silence < 5000000 → exec .heartbeatSilence s = .next s)) ∧
  (∀ (m : MirrorArgs) (a : Accept) (p : Pkg) (stamp : Word) (rank : Nat) (origin : BitVec 16) (kind : EventKind) (s : State),
      (s.isManager = false → Ends (.mirror m) s (fun u => Tbl.get 0 u.ownerKeys m.slot.val = m.key ∧ u.reg (regTktSlot1 m.slot.val) = m.last ∧
        u.fld (regTktSlot0 m.slot.val) 0 0 = b2n m.active ∧ s.sameMachine u)) ∧
      (s.isManager = true → s.epf.mirrorAcked < s.epf.mirrorSent → Ends .mirrorAck s (fun u => u.epf.mirrorAcked = s.epf.mirrorAcked + 1 ∧
        u.regs = s.regs ∧ s.sameMachine u)) ∧
      (s.epf.accepting = [a] → s.epf.mirrorAcked < a.mirror → a.since.toNat + 250000 ≤ s.clause.toNat → s.isManager = true →
        s.fld regTrlImage 22 22 = 1 → Ends .mirrorTimeout s (fun u => u.fld regTrlImage 22 22 = 0 ∧ u.epf.mirrorAcked = s.epf.mirrorSent ∧
          u.mem = s.mem)) ∧
      (s.epf.accepting = [] → exec .mirrorTimeout s = .next s) ∧
      (s.isManager = true → s.openClause ≤ stamp.toNat → ownKind kind = false → Ends (.event p (.event stamp rank origin kind) .clean) s (fun u =>
        u.events = s.events ++ [{ stamp := stamp, rank := rank, origin := origin, kind := kind }] ∧ u.regs = s.regs ∧ s.sameMachine u)) ∧
      (s.joined = true → s.live → Ends (.haltImage stamp) s (fun u => s.halts u ∧ u.imageMode = modeHalt ∧ s.sameMachine u)))

/-- R567 to R569: the cut and the release. A member learns the clause, holds its sources at it, and returns to its run mode at the release;
the manager waits for every member: the last one's report is an event of rank 6, at whose resolution the cut is complete and the command
that asked for it ends; it halts the image when the cut is not complete in 2,500,000 clauses. A command whose condition does not hold
changes nothing (log entry 41). -/
def Obligations.CutAndRelease : Prop :=
  ∀ (v q : Word) (p : Pkg) (r : Nat) (z : Quiesce) (e : Event) (c : Command) (s : State),
    (s.joined = true → Ends (.cut v false) s (fun u => u.image.cutAt = some v ∧ u.image.cutReported = false ∧ u.regs = s.regs ∧ s.sameMachine u) ∧
      Ends (.cut v true) s (fun u => u.image.releaseAt = some v ∧ u.regs = s.regs ∧ s.sameMachine u)) ∧
    (s.image.cutAt = some q → q.toNat ≤ s.clause.toNat → s.mode = modeRunI ∨ s.mode = modeRunS → Ends .quiesceCut s (fun u =>
      s.entersMode u modeQuiesce 11 ∧ u.sourcesHeld = true ∧ s.sameMachine u)) ∧
    (s.image.cutAt = some q → s.clause.toNat < q.toNat → exec .quiesceCut s = .next s) ∧
    (s.isManager = true → s.image.quiesce = some z → z.complete = false → z.waiting = [p.toNat, r] → r ≠ p.toNat →
      Ends (.cutDone p z.cut) s (fun u => u.image.quiesce = some { z with waiting := [r] } ∧ u.regs = s.regs ∧ s.sameMachine u)) ∧
    (s.isManager = true → s.image.quiesce = some z → z.complete = false → z.waiting = [p.toNat] →
      Ends (.cutDone p z.cut) s (fun u => u.image.quiesce = some { z with waiting := [] } ∧ u.regs = s.regs ∧ s.sameMachine u ∧
        u.events = s.events ++ [{ stamp := s.clause, rank := 6, origin := s.origin 12 82, kind := .quiesced z.cut }])) ∧
    (s.events = [e] → e.kind = .quiesced z.cut → e.recs = [] → e.clause.toNat + s.horizon ≤ s.clause.toNat → s.image.quiesce = some z →
      z.complete = false → z.waiting = [] → z.purpose = .command → z.cmd = some c → c.gen = s.epf.gen → Ends .clauseResolution s (fun u =>
        u.reg regGlbQcut = z.cut ∧ s.completes u c stOk 0 0 ∧ (∃ y, u.image.quiesce = some y ∧ y.complete = true ∧ y.cmd = none) ∧
        u.mode = s.mode ∧ s.sameMachine u)) ∧
    (s.isManager = false → p.toNat = s.managerNum → Ends (.cutDone p v) s (fun u => u.reg regGlbQcut = v ∧ s.sameMachine u)) ∧
    (s.image.quiesce = some z → z.complete = false → s.live → z.cut.toNat + 2500000 ≤ s.clause.toNat → Ends .quiesceTimeout s s.halts) ∧
    (s.image.quiesce = none → exec .quiesceTimeout s = .next s) ∧
    (s.image.releaseAt = some v → v.toNat ≤ s.clause.toNat → s.mode = modeQuiesce → s.image.quiesce = none → Ends .quiesceRelease s (fun u =>
      s.entersMode u (runModeOf s.regime) 12 ∧ u.sourcesHeld = false ∧ u.image.cutAt = none ∧ u.image.releaseAt = none ∧ s.sameMachine u))

/-! ## Directory events -/

/-- R293, R295, R300, R304: the age clock; the scrubber, which steps its location and brings an entry of age 128 or more to the age 128; a
port that loses lock while it holds entries halts the package; a reshape passes one old set after another and ends with the new layout. A
command whose condition does not hold changes nothing (log entry 41). -/
def Obligations.DirectoryEvents : Prop :=
  ∀ (p : Fin 8) (e : DirEntry) (s : State),
    let at' := Tbl.get 0 s.dirScrubAt p.val
    let loc := dirLoc p.val (at' / 9) (at' % 9 - 1)
    let old : Nat := (s.dirAge.toNat + 256 - e.age) % 256
    let ps := portList s.oldLayout.ports
    let g := s.fld regDirCursor 31 0
    let total := s.fld regDirCursor 63 32
    Ends .ageClock s (fun u => u.dirAge = s.dirAge + 1 ∧ u.dirTicks = s.dirTicks + 1 ∧ u.dirMem = s.dirMem ∧ u.regs = s.regs ∧
      u.sent = s.sent ∧ s.sameMachine u) ∧
    (s.fld (regDirStatus p.val) 2 1 ≠ 1 → exec (.dirScrub p .clean) s = .next s) ∧
    (s.fld (regDirStatus p.val) 2 1 = 1 → bit (s.reg regGlbInject) 63 = false → at' % 9 ≠ 0 → Tbl.find s.dirMem loc = some e → e.bad = 0 →
      Ends (.dirScrub p .clean) s (fun u => Tbl.get 0 u.dirScrubAt p.val = (if s.fld regDirLayout 63 32 * 9 ≤ at' + 1 then 0 else at' + 1) ∧
        Tbl.find u.dirMem loc = some (if 128 ≤ old then { e with age := (s.dirAge.toNat + 128) % 256 } else e) ∧ u.regs = s.regs ∧
        u.sent = s.sent ∧ s.sameMachine u)) ∧
    ((∀ x ∈ s.dirMem, x.1 / 2 ^ 24 ≠ p.val) → exec (.dirPortLost p) s = .next s) ∧
    ((∃ x ∈ s.dirMem, x.1 / 2 ^ 24 = p.val) → s.live → Ends (.dirPortLost p) s (fun u => s.halts u ∧
      u.fld (regDirLasterr p.val) 63 48 = 0x50A1)) ∧
    (s.reshaping = false → exec (.reshapeMigrate .clean) s = .next s) ∧
    (s.reshaping = true → (∀ n, n < 16 → (s.home n).recalls = [] ∧ (s.home n).held = [] ∧ (s.home n).txns = []) → g + 1 < total → (s.dirCtlAt (ps.getD (g % ps.length) 0) (g / ps.length)).oldgen = 0 →
      Ends (.reshapeMigrate .clean) s (fun u => u.reshaping = true ∧ u.fld regDirCursor 31 0 = g + 1 ∧ u.dirMem = s.dirMem ∧ u.sent = s.sent ∧
        s.sameMachine u)) ∧
    (s.reshaping = true → (∀ n, n < 16 → (s.home n).recalls = [] ∧ (s.home n).held = [] ∧ (s.home n).txns = []) → total ≤ g →
      s.reshapeQueue = [] → Ends (.reshapeMigrate .clean) s (fun u => u.reshaping = false ∧
      u.oldLayout.ports = s.newLayout.ports ∧ u.oldLayout.span = s.newLayout.span ∧ u.oldLayout.gen = s.newLayout.gen ∧
      u.dirFilter = [] ∧ u.dirMem = s.dirMem ∧ s.sameMachine u))

/-! ## Register accesses, interrupts, injections -/

/-- R465, R607, R615, R619, R670, R674: an access that reaches the register unit is answered with the register's value, or applied as the
field's access code and its range give; one that no ticket or grant allows changes nothing; the answer reaches the thread that waits; an
interrupt waits for the resolution of its clause; an injection arms under a grant; the host reaches BAR0 alone; the lapse of the watchdog
halts. A command whose condition does not hold changes nothing (log entry 41). Register accesses go to unit 96 (log entry 14), and the
watchdog follows log entry 52. -/
def Obligations.RegisterMessages : Prop :=
  ∀ (h : Hdr) (off : BitVec 40) (t : ThreadPos) (op : LoadOp) (rd : BitVec 5) (cls : IntClass) (atS : Bool) (o : BitVec 16) (bar : BitVec 26) (v : Word)
    (s : State),
    let rdMsg : Msg := { type := .regRead, hdr := h, body := .reg off 8 0 }
    let wrMsg : Msg := { type := .regWrite, hdr := h, body := .reg (BitVec.ofNat 40 regThmCap) 8 v }
    let inMsg : Msg := { type := .interrupt, hdr := h, body := .interrupt (s.tidOf t.val) cls atS }
    let cap : Nat := if bits v 9 0 < 200 then 200 else if 780 < bits v 9 0 then 780 else bits v 9 0
    let y := s.thread t.val
    let c := coreOf t.val
    (agentPkg h.dst = s.pkgNum → s.regsOn = true → s.meshBlocked rdMsg = false → s.behind rdMsg = false → off.toNat < 0x4000000 →
      s.directedIndex h off 8 = 0 → (s.delivered rdMsg).readsOther off.toNat = none →
      Ends (.registerRead h off 8 .clean) s (fun u => s.sameMachine u ∧ u.regs = (s.delivered rdMsg).regs ∧ u.sent = (s.delivered rdMsg).sent ++
        [{ type := .regAnswer, hdr := { h with src := h.dst, dst := h.src, stamp := s.clause },
           body := .value ((s.delivered rdMsg).prsRead off.toNat 8) }])) ∧
    (agentPkg h.dst = s.pkgNum → s.regsOn = true → s.mode ≠ modeHalt → s.meshBlocked wrMsg = false → s.behind wrMsg = false →
      Ends (.registerWrite h (BitVec.ofNat 40 regThmCap) 8 v .clean) s (fun u => s.takesOnly u wrMsg ∧ u.fld regThmCap 9 0 = cap)) ∧
    (s.coreTakes c h → s.coreOfAgent h.dst = some c → y.wait = .access h.tid (.load op rd 0 0) → y.exitDue = none →
      (s.thread (siblingOf t.val)).wait = .ready → s.behind { type := .regAnswer, hdr := h, body := .value v } = false → Ends (.registerAnswer h v .clean) s (fun u => u.mem = s.mem ∧
        wroteGpr y (u.thread t.val) rd (loadedWord op (v.toNat % 256 ^ loadSize op)) ∧ (u.thread t.val).goesTo y.nextPc none ∧ (u.thread t.val).wait = .ready)) ∧
    (agentPkg h.dst = s.pkgNum → s.regsOn = true → s.mode ≠ modeHalt → s.meshBlocked inMsg = false → s.behind inMsg = false →
      s.threadExists t.val = true → (s.tidOf t.val).toNat / 2048 = s.pkgNum → posOfTid (s.tidOf t.val).toNat = some t.val →
      Ends (.interruptDelivery h (s.tidOf t.val) cls atS .clean) s (fun u => s.takesOnly u inMsg ∧ u.regs = s.regs ∧
        u.events = s.events ++ [{ stamp := s.clause, rank := 9, origin := s.origin (dieOf t.val) (t.val % 40),
                                  kind := .interrupt t.val cls h.realm atS (some (h, s.tidOf t.val)) }])) ∧
    (s.mode ≠ modeHalt → bit (s.reg regGlbInject) 63 = false → bit v 63 = true → bits v 47 46 < 2 →
      s.injectUnit (bits v 51 48) (bits v 31 16) = true → s.grantLive 0 = true → Ends (.injectArm (.thread o) v) s (fun u =>
        bit (u.reg regGlbInject) 63 = true ∧ bit (u.reg regGlbInject) 62 = false ∧ u.fld regGlbInject 51 48 = bits v 51 48 ∧
        u.fld regGlbInject 31 16 = bits v 31 16 ∧ s.sameMachine u)) ∧
    (bit (s.reg regGlbInject) 63 = false → s.grantLive 0 = false → Ends (.injectArm (.thread o) v) s (fun u =>
      u.reg regGlbInject = s.reg regGlbInject ∧ s.sameMachine u)) ∧
    (s.mode = modeHalt → exec (.injectArm (.thread o) v) s = .next s) ∧
    (s.barsOpen = true → bar.toNat = 0x8000 + 4 * (bar.toNat % 0x8000 / 4) → bar.toNat < 0x10000 → s.epf.msixPending = [] →
      Ends (.prsWrite .host bar 4 v) s (fun u => Tbl.get 0 u.epf.msix (bar.toNat % 0x8000 / 4) = v.truncate 32 ∧ u.regs = s.regs ∧
        s.sameMachine u)) ∧
    (s.barsOpen = false → Ends (.prsWrite .host bar 8 v) s (fun u => u.regs = s.regs ∧ u.epf = s.epf ∧ s.sameMachine u)) ∧
    (s.regsOn = true → s.mode ≠ modeHalt → Ends (.prsWrite (.thread o) (BitVec.ofNat 26 regThmCap) 8 v) s (fun u =>
      u.fld regThmCap 9 0 = cap ∧ u.sent = s.sent ∧ s.sameMachine u)) ∧
    (s.live → s.regsOn = true → Ends .mcWatchdog s (fun u => s.halts u ∧ u.fld regGlbErrsum 15 0 = 0x5000)) ∧
    (s.regsOn = false → exec .mcWatchdog s = .next s)

/-! ## Bridges and domains -/

/-- R535, R536, R549, R551, R598: a frame that fails its CRC is resent, and the eighth failure in a row starts a retrain, whose failure
halts; a packet for a closed domain is held, asks it to open, and is sent again; domains close and open. A command whose condition does not
hold changes nothing (log entry 41). -/
def Obligations.BridgesAndDomains : Prop :=
  ∀ (d : DiePos) (k : Fin 96) (dir : Bool) (m : Msg) (x : HeldPacket) (s : State),
    let runs (s : State) : Nat := Tbl.get 0 (s.bridge d.val).run (b2n dir)
    (s.bridgeUp d.val = true → (s.bridge d.val).retrain = false → bit (s.reg regGlbInject) 63 = false →
      Ends (.bridgeFrame d dir true) s (fun u => runs u = 0 ∧ (u.bridge d.val).retrain = false ∧ u.regs = s.regs ∧ s.sameMachine u) ∧
      (runs s < 7 → Ends (.bridgeFrame d dir false) s (fun u => runs u = runs s + 1 ∧ (u.bridge d.val).retrain = false ∧ s.sameMachine u)) ∧
      (runs s = 7 → Ends (.bridgeFrame d dir false) s (fun u => runs u = 0 ∧ (u.bridge d.val).retrain = true ∧ s.sameMachine u))) ∧
    (s.bridgeUp d.val = false → exec (.bridgeFrame d dir true) s = .next s) ∧
    ((s.bridge d.val).retrain = true → Ends (.bridgeRetrainDone d true) s (fun u => (u.bridge d.val).retrain = false ∧ u.regs = s.regs ∧
      s.sameMachine u)) ∧
    ((s.bridge d.val).retrain = true → s.live → Ends (.bridgeRetrainDone d false) s (fun u => s.halts u ∧
      u.fld regGlbErrsum 15 0 = 0x5010)) ∧
    (s.bridgeUp d.val = true → s.live → Ends (.strobeLockLoss d) s (fun u => s.halts u ∧ u.fld regGlbErrsum 15 0 = 0x5010)) ∧
    (s.bridgeUp d.val = false → exec (.strobeLockLoss d) s = .next s) ∧
    (s.sent.find? (fun m => decide (s.msgDomain m = some k.val) && s.meshBlocked m) = some m → Ends (.retryLater k) s (fun u =>
      u.sent = s.sent.erase m ∧ u.meshHeld = s.meshHeld ++
        [{ msg := m, dom := k.val, first := s.clause, next := s.clause + BitVec.ofNat 64 (s.fld regMshRetry 7 0) }] ∧
      ((s.domain k.val).phase = .closed → (u.domain k.val).phase = .opening) ∧ s.sameMachine u)) ∧
    (s.sent.find? (fun m => decide (s.msgDomain m = some k.val) && s.meshBlocked m) = none → exec (.retryLater k) s = .next s) ∧
    (s.meshHeld = [x] → x.next.toNat ≤ s.clause.toNat →
      (s.domainOpen x.dom = true → Ends .retryLaterResend s (fun u => u.meshHeld = [] ∧ u.sent = s.sent ++ [x.msg] ∧ u.regs = s.regs ∧
        s.sameMachine u)) ∧
      (s.domainOpen x.dom = false → Ends .retryLaterResend s (fun u => u.sent = s.sent ∧ s.sameMachine u ∧
        u.meshHeld = [{ x with next := s.clause + BitVec.ofNat 64 (s.fld regMshRetry 7 0) }]))) ∧
    (s.meshHeld = [x] → s.clause.toNat < x.next.toNat → exec .retryLaterResend s = .next s) ∧
    (s.meshHeld = [x] → x.first.toNat + 25000 ≤ s.clause.toNat → s.live → Ends .meshRetryExhausted s (fun u => s.halts u ∧ u.meshHeld = [] ∧
      u.fld regGlbErrsum 15 0 = 0x5022)) ∧
    (s.meshHeld = [x] → s.clause.toNat < x.first.toNat + 25000 → exec .meshRetryExhausted s = .next s) ∧
    ((s.domain k.val).phase = .closing → Ends (.domainClosed k) s (fun u => (u.domain k.val).phase = .closed ∧
      (k.val < 60 → u.fld (regThmCluster k.val) 23 23 = 1) ∧ u.sent = s.sent ∧ s.sameMachine u)) ∧
    ((s.domain k.val).phase ≠ .closing → exec (.domainClosed k) s = .next s ∧ exec (.meshCloseAborted k) s = .next s) ∧
    ((s.domain k.val).phase = .closing → (s.domain k.val).since.toNat + 25000 ≤ s.clause.toNat → Ends (.meshCloseAborted k) s (fun u =>
      (u.domain k.val).phase = .opened ∧ (u.domain k.val).rest = 10 ∧ u.sent = s.sent ∧ s.sameMachine u)) ∧
    ((s.domain k.val).phase = .opening → s.realms.hold = none → s.ctxJob = none → Ends (.domainOpen k) s (fun u =>
      (u.domain k.val).phase = .opened ∧ u.sent = s.sent ∧ u.mem = s.mem ∧ u.threads = s.threads ∧
      (k.val < 60 → u.fld (regThmCluster k.val) 23 23 = 0 ∧ ∀ i, i < 4 → (u.core (4 * k.val + i)).l2 = [] ∧ (u.core (4 * k.val + i)).dtlb = []) ∧
      (60 ≤ k.val → u.cores = s.cores ∧ u.regs = s.regs))) ∧
    ((s.domain k.val).phase ≠ .opening → exec (.domainOpen k) s = .next s)

/-! ## DRAM controllers -/

/-- R363, R373, R375, R376, R378, R387 to R391: a controller cycle fills the port buckets; a refresh closes rows, and a rank that opens a
row or is refreshed leaves power-down; temperatures raise and end a channel's alarm; a failing channel halts the package; a scrub finds,
corrects or loses a line; the correction table is cleared. A command whose condition does not hold changes nothing (log entry 41). -/
def Obligations.DramEvents : Prop :=
  ∀ (n : Chan) (rank : Fin 8) (bank : Fin 4) (b : Fin 2048) (dimm : Fin 2) (deg : Nat) (parity : Bool) (f : Fin 5) (dev : Fin 10)
    (syms : BitVec 4) (a : LineAddr) (c : Word) (s : State),
    let mine (x : Nat × Nat) : Bool := decide (x.1 / 64 = n.val * 1024 + rank.val * 4 + bank.val)
    let loses (i : Instr) : Prop := Ends i s (fun u => s.halts u ∧ u.fld regGlbErrsum 15 0 = 0x5081)
    let scrubs : Prop := s.fld (regDmcScrub n.val) 0 0 = 1 ∧ linePkg a = s.pkgNum ∧ s.chanOf (lineBase a) = n.val ∧ s.realms.keyBad = [] ∧
      bit (s.reg regGlbInject) 63 = false ∧ s.isWritten (lineIx a) = true ∧ Tbl.get 0 s.dramBad (lineIx a) = 0
    Ends (.controllerCycle n) s (fun u => (∀ p, p < 4 → Tbl.get 0 u.portTok (n.val * 4 + p) =
        satTo (s.depthTokens n.val p) (Tbl.get 0 s.portTok (n.val * 4 + p) + s.portRate n.val p)) ∧
      u.regs = s.regs ∧ u.sent = s.sent ∧ s.sameMachine u) ∧
    ((∀ x ∈ s.openRow, mine x = false) → Ends (.refresh n rank bank false) s (fun u => u.openRow = s.openRow ∧
      u.powerDown = s.powerDown.filter (fun k => decide (k ≠ n.val * 8 + rank.val)) ∧ u.sent = s.sent ∧ s.sameMachine u)) ∧
    ((∃ x ∈ s.openRow, mine x = true) → exec (.refresh n rank bank false) s = .next s) ∧
    Ends (.refresh n rank bank true) s (fun u => (∀ x, x ∈ u.openRow ↔ x ∈ s.openRow ∧ mine x = false) ∧ u.sent = s.sent ∧ s.sameMachine u) ∧
    (Tbl.find s.parasol.dimmHot n.val = none → Ends (.dimmTempPoll n dimm deg) s (fun u =>
      u.fld (regDmcStatus n.val) 5 5 = (if 85 < deg then 1 else 0) ∧
      Tbl.find u.parasol.dimmHot n.val = (if 95 < deg then some s.clause else none) ∧ (95 < deg → u.alertN = true) ∧ s.sameMachine u)) ∧
    (Tbl.find s.parasol.dimmHot n.val = some c → Ends (.dimmTempPoll n dimm deg) s (fun u =>
      Tbl.find u.parasol.dimmHot n.val = (if deg < 90 then none else some c) ∧ s.sameMachine u)) ∧
    Ends (.rowIdleTimeout n b) s (fun u => (∀ k, Tbl.find u.openRow k = if k = n.val * 65536 + b.val then none else Tbl.find s.openRow k) ∧
      u.regs = s.regs ∧ u.sent = s.sent ∧ s.sameMachine u) ∧
    Ends (.prechargePowerDown n rank) s (fun u => (∀ k, k ∈ u.powerDown ↔ k ∈ s.powerDown ∨ k = n.val * 8 + rank.val) ∧
      u.regs = s.regs ∧ u.sent = s.sent ∧ s.sameMachine u) ∧
    (s.mode = modeQuiesce ∨ s.mode = modeDrain → Ends (.selfRefreshEntry n) s (fun u => (∀ k, k ∈ u.selfRefresh ↔ k ∈ s.selfRefresh ∨ k = n.val) ∧
      u.regs = s.regs ∧ u.sent = s.sent ∧ s.sameMachine u)) ∧
    (s.mode ≠ modeQuiesce → s.mode ≠ modeDrain → exec (.selfRefreshEntry n) s = .next s) ∧
    (f.val < 4 → Tbl.get 0 s.replays n.val + f.val + 1 < 1024 → Ends (.dimmAlert n parity f) s (fun u =>
      Tbl.get 0 u.replays n.val = Tbl.get 0 s.replays n.val + f.val + 1 ∧ u.mode = s.mode ∧ u.sent = s.sent ∧ s.sameMachine u)) ∧
    (f.val = 4 → s.live → loses (.dimmAlert n parity f)) ∧ (s.live → loses (.pmicPowerGoodLoss n) ∧ loses (.phyLockLoss n)) ∧
    (scrubs → Ends (.dramScrub n a .clean) s (fun u => u.fld (regDmcStatus n.val) 4 4 = 1 ∧ u.mode = s.mode ∧ u.sent = s.sent ∧ s.sameMachine u) ∧
      Ends (.dramScrub n a (.device dev syms)) s (fun u =>
        u.fld (regDmcCecount n.val) 31 0 = satTo (2 ^ 32 - 1) (s.fld (regDmcCecount n.val) 31 0 + 1) ∧ u.mode = s.mode ∧ u.sent = s.sent ∧
        s.sameMachine u) ∧
      (s.pageOwner (pageOfLine (lineIx a)) = 0 → s.live → Ends (.dramScrub n a .uncorrectable) s s.halts) ∧
      (s.pageOwner (pageOfLine (lineIx a)) ≠ 0 → s.MemOk → Ends (.dramScrub n a .uncorrectable) s (fun u =>
        u.readMem (64 * lineIx a) = 0 ∧ u.isAway (lineIx a) = true))) ∧
    (s.fld (regDmcScrub n.val) 0 0 = 0 → exec (.dramScrub n a .clean) s = .next s) ∧
    Ends (.cetabClear n) s (fun u => (∀ i, i < 16 → u.reg (regDmcCetab0 n.val i) = 0 ∧ u.reg (regDmcCetab1 n.val i) = 0) ∧
      u.fld (regDmcCecount n.val) 31 0 = 0 ∧ u.fld (regDmcCectl n.val) 8 8 = 0 ∧ u.sent = s.sent ∧ s.sameMachine u)

/-! ## The trip log and the counter collector -/

/-- R613, R622 to R625, R628, R634: the oldest queued record enters the store, is dropped by a frozen store, or is suppressed by an empty
bucket; a stored record is copied to the spill region; tokens come back; the freeze and its end; the deferred notice is written. R656 to
R660: at a clause that is a multiple of PERIOD, and at the tick after a write of NOW, a snapshot writes the 383 lines of slots and leaves
its header to come; one that finds the last not done is skipped and counted; the enable starts at number 0, and fails when the region
breaks its rule; the header follows, and completes the dump. A command whose condition does not hold changes nothing (log entry 41).
Messages are addressed as log entries 13 and 14 say. When a snapshot is taken is log entry 102. -/
def Obligations.LogAndCounters : Prop :=
  (∀ (q : QRec) (l : List QRec) (cls : Fin 16) (c : Word) (code realm seq : Nat) (origin : BitVec 16) (s : State),
      let quiet : Prop := s.log.queue = q :: l ∧ s.log.dropDue = false ∧ s.notice.due = none ∧ s.clauseOpen q.proc = false
      let here : Prop := ¬ (s.isManager = true ∧ s.fld regTlgCursor 52 48 ≠ s.pkgNum ∧ s.isMember (s.fld regTlgCursor 52 48) = true)
      let i := (s.reg regTlgSpilled).toNat
      (s.log.queue = [] → exec .tripLogRecord s = .next s) ∧
      (s.log.queue = q :: l → s.clauseOpen q.proc = true → exec .tripLogRecord s = .next s) ∧
      (quiet → s.frozen = false → neverSuppressed q.r.code.toNat = true ∨
          (0 < s.bucket q.r.code.toNat ∧ (Tbl.get {} s.log.suppressed q.r.code.toNat).count = 0) → (s.joined = true → s.isManager = true) →
        Ends .tripLogRecord s (fun u => u.log.queue = l ∧ u.reg regTlgHead = s.reg regTlgHead + 1 ∧
          Tbl.find u.log.store ((s.reg regTlgHead).toNat % 65536) = some q.r ∧ u.sent = s.sent ∧ s.sameMachine u)) ∧
      (quiet → s.frozen = true → neverSuppressed q.r.code.toNat = true → Ends .tripLogRecord s (fun u => u.log.queue = l ∧
        u.log.store = s.log.store ∧ u.reg regTlgHead = s.reg regTlgHead ∧
        u.fld regTlgFreeze 63 32 = satTo (2 ^ 32 - 1) (s.fld regTlgFreeze 63 32 + 1) ∧ u.sent = s.sent ∧ s.sameMachine u)) ∧
      (quiet → neverSuppressed q.r.code.toNat = false → q.r.realm.getLsbD 15 = false → s.bucket q.r.code.toNat = 0 →
        Ends .tripLogRecord s (fun u => u.log.queue = l ∧ u.log.store = s.log.store ∧ u.regs = s.regs ∧
          (Tbl.get {} u.log.suppressed q.r.code.toNat).count = (Tbl.get {} s.log.suppressed q.r.code.toNat).count + 1 ∧
          u.sent = s.sent ∧ s.sameMachine u)) ∧
      (s.fld regTlgSpill 0 0 = 0 → exec .spillCopy s = .next s) ∧
      (s.fld regTlgSpill 0 0 = 1 → s.frozen = false → i < (s.reg regTlgHead).toNat → s.spillCheck (s.spillBase + i % s.spillLen * 32) = 0 →
        Ends .spillCopy s (fun u => i < (u.reg regTlgSpilled).toNat ∧ s.sameMachine u ∧
          ∃ m, u.sent = s.sent ++ [m] ∧ m.type = .wrP ∧ m.hdr.addr = lineOf (s.spillBase + i % s.spillLen * 32) ∧
            m.body = .bytes (BitVec.ofNat 512 (s.recBits (i / 2 * 2) + s.recBits (i / 2 * 2 + 1) * 2 ^ 256)) (BitVec.allOnes 64))) ∧
      (s.log.suppressed = [] → Ends (.rateToken cls) s (fun u => (∀ code, u.bucket code =
          if codeClass code = cls.val then satTo (s.bucketDepth code) (s.bucket code + 1) else s.bucket code) ∧ u.regs = s.regs ∧
        u.sent = s.sent ∧ s.sameMachine u)) ∧
      (here → s.frozen = false → Ends (.freeze true) s (fun u => u.log.frozenAt = some s.clause ∧ u.fld regTlgFreeze 0 0 = 1 ∧
        u.fld regTlgStatus 0 0 = 1 ∧ u.log.store = s.log.store ∧ u.sent = s.sent ∧ s.sameMachine u)) ∧
      (here → s.frozen = true → exec (.freeze true) s = .next s ∧ Ends (.freeze false) s (fun u => u.frozen = false ∧
        u.fld regTlgFreeze 0 0 = 0 ∧ u.log.store = s.log.store ∧ u.sent = s.sent ∧ s.sameMachine u)) ∧
      (s.log.frozenAt = some c → c.toNat + 250000 ≤ s.clause.toNat → Ends .freezeTimeout s (fun u => u.frozen = false ∧
        u.fld regTlgFreeze 0 0 = 0 ∧ u.log.store = s.log.store ∧ u.sent = s.sent ∧ s.sameMachine u)) ∧
      (s.log.frozenAt = some c → s.clause.toNat < c.toNat + 250000 → exec .freezeTimeout s = .next s) ∧
      (s.notice.due = none → exec .noticeSpacingExpiry s = .next s) ∧
      (s.notice.due = some (code, realm, origin) → s.notice.seq = some seq → s.fld regGlbErrnote 0 0 = 1 → s.noticeTime = true →
        s.systemRange (s.fld regGlbErrnote 51 6 * 64) 64 = 0 → Ends .noticeSpacingExpiry s (fun u => u.notice.due = none ∧
          u.notice.count = s.notice.count + 1 ∧ u.notice.last = some s.clause ∧ s.sameMachine u ∧
          ∃ m, u.sent = s.sent ++ [m] ∧ m.type = .wrP ∧ m.hdr.addr = lineOf (s.fld regGlbErrnote 51 6 * 64)))) ∧
  (∀ (x : DumpJob) (s : State),
      let free : Prop := s.dump.job = none ∧ s.sourcesHeld = false ∧ s.mode ≠ modeHalt ∧ s.fld regGlbBoot 3 3 = 1 ∧ s.dumpRegion = 0
      let due : Prop := s.fld regPccDumpctl 0 0 = 1 ∧ s.clause.toNat % s.fld regPccDumpctl 63 32 = 0
      let taken (expl : Nat) (u : State) : Prop := u.dump.next = s.dump.next + 1 ∧ u.dump.missed = 0 ∧
        u.dump.job = some { number := s.dump.next, addr := s.dumpAddr s.dump.next, clause := s.clause,
                            header := s.fld regPccDumpctl 63 32 + s.pkgNum * 2 ^ 32 + expl * 2 ^ 40 + s.dump.missed * 2 ^ 48 } ∧
        u.sent.length = s.sent.length + 383 ∧ s.sameMachine u
      (¬ due → exec .counterDump s = .next s) ∧
      (due → free → Ends .counterDump s (taken 0)) ∧
      (s.fld regPccDumpctl 0 0 = 1 → s.fld regPccDumpctl 1 1 = 1 → free → taken 1 s.dumpRequested) ∧
      (due → s.dump.job = some x → x.headerSent = false → Ends .counterDump s (fun u =>
        u.dump.missed = satTo 65535 (s.dump.missed + 1) ∧ u.dump.job = some x ∧ u.dump.next = s.dump.next ∧ u.sent = s.sent ∧ s.sameMachine u ∧
        u.fld regPccDumpstat 63 48 = satTo 65535 (s.fld regPccDumpstat 63 48 + 1))) ∧
      (s.mode ≠ modeHalt → Ends .dumpNow s (fun u => u.fld regPccDumpctl 1 1 = 1 ∧ u.dump = s.dump ∧
        u.sent = s.sent ∧ s.sameMachine u)) ∧
      (s.mode = modeHalt → exec .dumpNow s = .next s ∧ exec .dumpEnable s = .next s) ∧
      (s.fld regPccDumpctl 0 0 = 0 → s.fld regPccDumpctl 1 1 = 0 → s.mode ≠ modeHalt → Ends .dumpEnable s (fun u =>
        u.fld regPccDumpctl 0 0 = (if s.dumpRegion = 0 then 1 else 0) ∧ u.reg regPccDumpstat = 0 ∧ u.dump.next = 0 ∧ u.dump.missed = 0 ∧
        u.dump.job = s.dump.job ∧ u.sent = s.sent ∧ s.sameMachine u)) ∧
      (s.dump.job = none → exec .dumpCommit s = .next s) ∧
      (s.dump.job = some x → x.headerSent = false → s.portQuiet 83 = false → exec .dumpCommit s = .next s) ∧
      (s.dump.job = some x → x.headerSent = false → s.portQuiet 83 = true → Ends .dumpCommit s (fun u =>
        u.dump = { s.dump with job := some { x with headerSent := true } } ∧ s.sameMachine u ∧ ∃ m, u.sent = s.sent ++ [m] ∧ m.type = .wrP ∧
          m.hdr.addr = lineOf x.addr ∧ m.body = .bytes (BitVec.ofNat 512 (x.clause.toNat + x.number % 2 ^ 64 * 2 ^ 64 + x.header * 2 ^ 128)) (BitVec.allOnes 64))) ∧
      (s.dump.job = some x → x.headerSent = true → s.portQuiet 83 = true → Ends .dumpCommit s (fun u => u.dump = { s.dump with job := none } ∧
        u.fld regPccDumpstat 47 0 = satTo (2 ^ 48 - 1) (s.fld regPccDumpstat 47 0 + 1) ∧ u.sent = s.sent ∧ s.sameMachine u)))

/-! ## Predicate engines -/

/-- R402 to R406: a write of PEN.CTXCMD. While a command runs it changes nothing; READ copies the context, WRITE takes the staging
registers into a disabled one, ENABLE checks and then reads the doorbell line, DISABLE and ABORT end a context's service. R417, R418, R433,
R434: the end of a segment, after which the engine chooses again; the completion record of a descriptor that has ended, in the slot at
CHEAD; and the period of the caps. A command whose condition does not hold changes nothing (log entry 41). Messages are addressed as log
entries 13 and 14 say. A segment costs 255 (log entry 31). -/
def Obligations.EngineContexts : Prop :=
  (∀ (c : Fin 16384) (r : EngRun) (st : Nat) (s : State),
      let x := s.ctx c.val
      let e := x.engineOf
      let d (i : Nat) : Word := s.reg (regPenCtxdata i)
      let ready : Prop := s.fld regPenCtxcmd 19 19 = 0 ∧ s.servesRegs = true ∧ Tbl.find s.ctxBad c.val = none
      let ends (i : Instr) (result : Nat) (P : State → Prop) : Prop := Ends i s (fun u => u.fld regPenCtxcmd 19 19 = 0 ∧
        u.fld regPenCtxcmd 23 20 = result ∧ u.fld regPenCtxcmd 13 0 = c.val ∧ u.ctxJob = none ∧ u.sent = s.sent ∧ s.sameMachine u ∧ P u)
      let goes (i : Instr) (P : State → Prop) : Prop := Ends i s (fun u => u.fld regPenCtxcmd 19 19 = 1 ∧ s.sameMachine u ∧ P u)
      let good : Prop := x.state = ctxDisabled ∧ 6 ≤ x.ringLog ∧ x.ringLog ≤ 16 ∧ 8 ≤ x.cringLog ∧ x.cringLog ≤ 18 ∧
        baseAligned (bits x.w0 51 12 * 4096) (2 ^ x.ringLog * 64) = true ∧ baseAligned (bits x.w1 51 12 * 4096) (2 ^ x.cringLog * 16) = true
      let s1 := (s.setFld regPenCtxcmd 13 0 c.val).setFld regPenCtxcmd 19 19 1
      let checked (st : Nat) : Prop := s1.checkRanges x.realm
        [(bits x.w0 51 12 * 4096, 2 ^ x.ringLog * 64), (bits x.w1 51 12 * 4096, 2 ^ x.cringLog * 16), (lineBase x.dbLine, 64)] = (s1, st)
      (s.fld regPenCtxcmd 19 19 = 1 → exec (.ctxcmdRead c) s = .next s ∧ exec (.ctxcmdWrite c) s = .next s ∧
        exec (.ctxcmdEnable c) s = .next s ∧ exec (.ctxcmdDisable c) s = .next s ∧ exec (.ctxcmdAbort c) s = .next s) ∧
      (ready → ends (.ctxcmdRead c) 0 (fun u => u.ctxs = s.ctxs ∧ u.reg (regPenCtxdata 0) = x.w0 ∧ u.reg (regPenCtxdata 1) = x.w1 ∧
        u.reg (regPenCtxdata 2) = x.w2 ∧ u.reg (regPenCtxdata 3) = x.w3 ∧ u.reg (regPenCtxdata 4) = x.w4 ∧ u.reg (regPenCtxdata 5) = x.w5 ∧
        u.reg (regPenCtxdata 6) = x.w6 ∧ u.reg (regPenCtxdata 7) = 0)) ∧
      (ready → x.state = ctxDisabled → s.stagingReserved = false → ends (.ctxcmdWrite c) 0 (fun u => ∀ k, u.ctx k =
        if k = c.val then { x with w0 := d 0, w1 := d 1, w2 := d 2, w3 := d 3, w4 := d 4 } else s.ctx k)) ∧
      (ready → x.state = ctxDisabled → s.stagingReserved = true → ends (.ctxcmdWrite c) 2 (fun u => u.ctxs = s.ctxs)) ∧
      (ready → x.state ≠ ctxDisabled → ends (.ctxcmdWrite c) 1 (fun u => u.ctxs = s.ctxs) ∧ ends (.ctxcmdEnable c) 1 (fun u => u.ctxs = s.ctxs)) ∧
      (ready → x.state = ctxDisabled → ends (.ctxcmdDisable c) 1 (fun u => u.ctxs = s.ctxs) ∧ ends (.ctxcmdAbort c) 1 (fun u => u.ctxs = s.ctxs)) ∧
      (ready → x.state = ctxDisabled → x.ringLog < 6 ∨ 18 < x.cringLog → ends (.ctxcmdEnable c) 2 (fun u => u.ctxs = s.ctxs)) ∧
      (ready → good → s.fld (regPenStatus e) 2 1 ≠ 0 → ends (.ctxcmdEnable c) 7 (fun u => u.ctxs = s.ctxs)) ∧
      (ready → good → s.engineOn e = true → st = peNotLocal ∨ st = peOwner → checked st → ends (.ctxcmdEnable c) st (fun u => u.ctxs = s.ctxs)) ∧
      (ready → good → s.engineOn e = true → checked peOk →
        (s.monitors.filter (fun m => decide (s.chanOf (lineBase m.line) = s.chanOf (lineBase x.dbLine)))).length < 2048 →
        goes (.ctxcmdEnable c) (fun u => u.ctxs = s.ctxs ∧ u.ctxJob = some (.reading c.val) ∧
          u.monitors = s.monitors ++ [{ line := x.dbLine, ctx := c.val, engine := e, armed := false }] ∧
          ∃ m, u.sent = s.sent ++ [m] ∧ m.type = .rdS ∧ m.hdr.addr = x.dbLine)) ∧
      (ready → x.state = ctxEnabled ∨ x.state = ctxError ∨ x.state = ctxFenced → (s.ctxRun c.val).run = none →
        ends (.ctxcmdDisable c) 0 (fun u => (u.ctx c.val).state = ctxDisabled ∧ (∀ m ∈ u.monitors, m.ctx ≠ c.val))) ∧
      (ready → x.state = ctxEnabled → (s.ctxRun c.val).run = some r → goes (.ctxcmdDisable c) (fun u => (u.ctx c.val).state = ctxDraining ∧
        u.ctxJob = some (.stopping c.val) ∧ (u.ctxRun c.val).run = some r ∧ (∀ m ∈ u.monitors, m.ctx ≠ c.val) ∧ u.sent = s.sent)) ∧
      (ready → x.state = ctxEnabled ∨ x.state = ctxDraining → (s.ctxRun c.val).run = none → ends (.ctxcmdAbort c) 0 (fun u =>
        (u.ctx c.val).state = ctxDisabled ∧ (∀ m ∈ u.monitors, m.ctx ≠ c.val))) ∧
      (ready → x.state = ctxEnabled ∨ x.state = ctxDraining → (s.ctxRun c.val).run = some r → r.status = none → r.pos = 0 →
        goes (.ctxcmdAbort c) (fun u => u.ctxJob = some (.stopping c.val) ∧ (u.ctx c.val).state = x.state ∧ u.sent = s.sent ∧
          (u.ctxRun c.val).run = if (s.engine e).cur = some c.val then some { r with abort := true }
            else some { r with status := some peAborted, result := 0 }))) ∧
  (∀ (e : Fin 16) (c : Nat) (r : EngRun) (s : State),
      let x := s.ctx c
      let g := s.engine e.val
      let slot := bits x.w1 51 12 * 4096 + x.chead % 2 ^ x.cringLog * 16
      let w0 := r.words.getD 0 0
      let phase := decide ((x.chead / 2 ^ x.cringLog + 1) % 2 = 1)
      let v := recordNat (bits w0 63 32) (r.status.getD 0) r.head phase r.ovf r.empty r.result.toNat
      let ended : Prop := s.engineOn e.val = true ∧ s.ctxList = [c] ∧ x.engineOf = e.val ∧ (s.ctxRun c).run = some r ∧ r.status ≠ none ∧
        (s.ctxRun c).bell = none
      (s.engineOn e.val = false → exec (.segmentDone e 0) s = .next s ∧ exec (.completionRecordWrite e) s = .next s) ∧
      (s.engineOn e.val = true → g.cur = some c → g.past = false → exec (.segmentDone e 0) s = .next s) ∧
      (ended → g.cur = some c → g.past = true → s.monitors = [] → bit (s.reg regGlbInject) 63 = false → Ends (.segmentDone e 0) s (fun u =>
        (u.engine e.val).cur = none ∧ (u.engine e.val).past = false ∧ u.fld (regPenStatus e.val) 0 0 = 0 ∧
        u.reg (regPenProgress e.val) = BitVec.ofNat 64 r.pos ∧ u.ctxRun c = s.ctxRun c ∧ u.ctxs = s.ctxs ∧ u.mem = s.mem)) ∧
      (s.portQuiet (engPort e.val) = false → exec (.completionRecordWrite e) s = .next s) ∧
      (ended → g.cur = none → g.due = [] → s.portQuiet (engPort e.val) = true → r.written = false → s.ringRoom c = true →
        (bit w0 10 = false ∨ r.status ≠ some peOk) → Ends (.completionRecordWrite e) s (fun u =>
          (u.ctx c).chead = (x.chead + 1) % 2 ^ 32 ∧ (u.ctx c).head = x.head ∧ (u.ctxRun c).run = some { r with written := true } ∧ u.mem = s.mem ∧
          ∃ m, u.sent = s.sent ++ [m] ∧ m.type = .wrP ∧ m.hdr.addr = lineOf slot ∧
            m.body = .bytes (putLine 0 (slot % 64) 16 v) (byteMask (slot % 64) 16))) ∧
      (ended → g.cur = none → g.due = [] → s.portQuiet (engPort e.val) = true → r.written = false → bit w0 10 = true → r.status = some peOk →
        (r.head + 1) % 2 ^ 32 = x.tailSeen → Ends (.completionRecordWrite e) s (fun u => (u.ctx c).head = (r.head + 1) % 2 ^ 32 ∧ (u.ctx c).chead = x.chead ∧
          (u.ctxRun c).run = none ∧ u.mem = s.mem)) ∧
      ((∀ i, i < 16 → (s.engine i).due = []) → s.ctxRuns = [] →
        exec .realmCapPeriod s = .next { s with capUsed := [], capHeld := [] }))

/-- R415, R416, R420, R425 to R432: one segment of a descriptor that has been read. Its ranges pass the checks and their bytes have come;
it writes what the operation gives, and the run holds the new place, and RESULT with OK once all is done. A descriptor of no rows ends at
once; one that a check refuses ends with that status, its RESULT free (log entry 32). Where the spec states no value the result is the next
free value, whatever it is (log entry 1). -/
def Obligations.EngineOperations : Prop :=
  ∀ (e : Fin 16) (c : Nat) (r : EngRun) (v w x y z : Nat) (vs : List Nat) (s : State),
    s.engineOn e.val = true → (s.engine e.val).past = false → (s.engine e.val).cur = some c → (s.ctxRun c).run = some r → r.words ≠ [] →
    r.status = none → bit (r.words.getD 0 0) 8 = false ∨ s.portQuiet (engPort e.val) = true →
    let realm := (s.ctx c).realm
    let s1 := s.putRun c r
    let n := r.rows
    let b := r.bytes
    let allowed (q : State) (l : List (Nat × Nat)) : Prop := q.checkRanges realm l = (q, peOk)
    let reads (l : List (Nat × Nat)) (vs : List Nat) : Prop := allowed s1 l ∧ s1.fetchAll e.val realm l = (s1, some vs)
    let past (i : Instr) (r' : EngRun) (l : List Msg) : Prop := Ends i s (fun u => (u.ctxRun c).run = some r' ∧ (u.engine e.val).past = true ∧
      (u.port (engPort e.val)).lines = [] ∧ u.sent = l ∧ u.ctx c = s.ctx c ∧ u.mem = s.mem)
    let ran (i : Instr) (l : List (Nat × Nat × Nat)) (r' : EngRun) : Prop := allowed s1 (l.map (fun p => (p.1, p.2.1))) →
      past i r' (s1.putAll e.val realm l).sent
    let first (op : Nat) : Prop := r.early = none ∧ r.op = op ∧ r.pos = 0 ∧ r.out = 0 ∧ r.buf = 0 ∧ 0 < r.count
    let at' (m : Nat) (r' : EngRun) (result : Nat) : EngRun :=
      if r.count ≤ m then { r' with pos := m, status := some peOk, result := BitVec.ofNat 64 result } else { r' with pos := m }
    let rows : List (Nat × Instr) := [(0, .descriptorNop e), (1, .scanFilter e), (2, .project e), (3, .aggregate e), (4, .hashPartition e),
      (5, .gather e), (6, .copy e), (7, .fill e), (8, .crc32c e)]
    (∀ q ∈ rows, r.early = none → r.op = q.1 → q.1 ≠ 3 → r.count = 0 → past q.2 { r with status := some peOk, result := 0 } s.sent) ∧
    (∀ q ∈ rows, ∀ st, r.early = some st → past q.2 { r with status := some st, result := s.freeWord } s.sent) ∧
    (first 1 → let ps := (upTo (r.ctl 3 0)).map (fun i => Pred.of (elt v 64 i))
      let sel := decide (r.ctl 7 7 = 1)
      let hits := (upTo n).filter (fun i => combineTrue (decide (r.ctl 4 4 = 1)) (predRow i ps vs) && (!sel || x.testBit i))
      let wide : Nat := if r.ctl 6 5 = 1 then 4 else 8
      reads [(r.p 0, r.ctl 3 0 * 64)] [v] → ps.all Pred.ok = true →
      reads ((r.p 3, if sel then bitBytes n else 0) :: predRanges 0 n ps) (x :: vs) →
      (r.ctl 6 5 = 0 → ran (.scanFilter e) [(r.p 4, bitBytes n, packBits ((upTo n).map (fun i => decide (i ∈ hits))))]
        (at' n { r with out := hits.length } hits.length)) ∧
      (r.ctl 6 5 ≠ 0 → hits.length ≤ r.p 5 → ran (.scanFilter e) [(r.p 4, hits.length * wide, packed wide (hits.map (fun i => r.p 1 + i)))]
        (at' n { r with out := hits.length } hits.length)) ∧
      (r.ctl 6 5 ≠ 0 → r.p 5 < hits.length → ran (.scanFilter e) [(r.p 4, r.p 5 * wide, packed wide ((hits.take (r.p 5)).map (fun i => r.p 1 + i)))]
        { r with out := r.p 5, status := some peOutFull, result := BitVec.ofNat 64 (hits.getD (r.p 5) 0) })) ∧
    (first 2 → let wide := r.ctl 4 0
      let nul := decide (r.ctl 5 5 = 1)
      let l := (upTo n).filter (fun i => x.testBit i)
      reads [(r.p 3, bitBytes n), (r.p 0, n * wide), (r.p 1, if nul then bitBytes n else 0)] [x, y, z] →
      (r.ctl 6 6 = 0 → nul = false → ran (.project e) [(r.p 4, l.length * wide, packed wide (l.map (fun i => elt y wide i)))]
        (at' n { r with out := l.length } l.length)) ∧
      (r.ctl 6 6 = 1 → r.count ≤ n → ran (.project e) [(r.p 4, l.length * wide, packed wide (l.map (fun i => elt y wide i))),
          (r.p 5, bitBytes l.length, packBits (l.map (fun i => nul && z.testBit i)))] (at' n { r with out := l.length } l.length))) ∧
    (first 3 → r.count ≤ n → let wide := r.ctl 4 0
      let key (i : Nat) : Int := if r.ctl 9 8 = 1 then signedOf (8 * wide) (elt v wide i) else (elt v wide i : Int)
      let r1 := ((upTo n).filter (fun i => decide (r.ctl 6 6 = 0) || x.testBit i)).foldl (fun (a : EngRun) i =>
        a.aggRow (decide (r.ctl 5 5 = 1) && w.testBit i) (key i)) r
      let blk := r1.aggEnd y
      reads [(r.p 0, n * wide), (r.p 1, if r.ctl 5 5 = 1 then bitBytes n else 0), (r.p 3, if r.ctl 6 6 = 1 then bitBytes n else 0),
        (r.p 4, if r.ctl 7 7 = 1 then 64 else 0)] [v, w, x, y] →
      ran (.aggregate e) [(r.p 4, 64, blk.1)] { r1 with pos := n, ovf := blk.2.1, empty := blk.2.2, status := some peOk,
                                                        result := BitVec.ofNat 64 r1.cnt }) ∧
    (first 4 → r.count ≤ n → let a := ((upTo n).map (fun i => elt v (r.ctl 12 0) i)).foldl (fun a q => r.part y a q) { fills := r.fills }
      let s2 := s1.putAll e.val realm a.writes
      let grown := { r with fills := a.fills, out := a.placed }
      reads [(r.p 2, r.ctl 40 30 * 16), (r.p 0, n * r.ctl 12 0)] [y, v] → allowed s1 (a.writes.map (fun p => (p.1, p.2.1))) →
      allowed s2 (grown.fillWrites.map (fun p => (p.1, p.2.1))) → past (.hashPartition e) (match a.full with
        | none => { grown with pos := n, status := some peOk, result := BitVec.ofNat 64 a.placed }
        | some p => { grown with status := some pePartFull, result := BitVec.ofNat 64 (a.placed + p * 2 ^ 48) })
        (s2.putAll e.val realm grown.fillWrites).sent) ∧
    (first 5 → r.ctl 5 5 = 0 → let wide := r.ctl 4 0
      let iw : Nat := if r.ctl 6 6 = 1 then 8 else 4
      let ids := ((upTo n).map (fun i => elt v iw i)).takeWhile (fun i => decide (i < r.p 4))
      reads [(r.p 1, n * iw)] [v] → reads (ids.map (fun i => (r.p 0 + i * wide, wide))) vs →
      ran (.gather e) [(r.p 3, ids.length * wide, packed wide vs)] (if ids.length < n then
        { r with out := ids.length, status := some peRange, result := BitVec.ofNat 64 ids.length } else at' n { r with out := n } n)) ∧
    (first 6 → r.count ≤ b → reads [(r.p 0, b)] [v] → ran (.copy e) [(r.p 1, b, v % 2 ^ (8 * b))]
      { r with pos := b, out := b, buf := v / 2 ^ (8 * b), status := some peOk, result := BitVec.ofNat 64 b }) ∧
    (first 7 → r.count ≤ b → ran (.fill e) [(r.p 1, b, patternAt (r.p 3) (r.p 1) b)]
      { r with pos := b, out := b, status := some peOk, result := BitVec.ofNat 64 b }) ∧
    (first 8 → reads [(r.p 0, b)] [v] → ran (.crc32c e) []
      (at' b { r with crc := crcBytes (~~~(BitVec.ofNat 32 (r.p 3))) (leBytes v b) } (crc32c (BitVec.ofNat 32 (r.p 3)) (leBytes v b)).toNat))

/-! ## Realms -/

/-- R447, R450, R457 to R459, R464, R476, R480: the register commands of realms on a package that is the image's only member. A realm
starts and stops, a thread is bound and unbound, a page is assigned and reclaimed with its lines zeroed, the sweep takes a page, and a
realm reset ends. A command that its realm's state does not allow ends with RESULT STATE and changes no realm. A command whose condition
does not hold changes nothing (log entry 41). -/
def Obligations.RealmRegisterCommands : Prop :=
  ∀ (realm : Realm) (origin : BitVec 16) (page : BitVec 40) (t : ThreadPos) (c : Command) (w : Sweep) (l : List Sweep) (p : Nat) (rest : List Nat)
    (code pkg : Nat) (begun : Word) (s : State),
    let r := realm.toNat
    let loc := page.toNat % 2 ^ 35
    let ready : Prop := s.fld regRlmCmd 31 31 = 0 ∧ s.servesRegs = true ∧ s.alone
    let ends (u : State) (result : Nat) : Prop := u.fld regRlmCmd 31 31 = 0 ∧ u.fld regRlmCmd 27 24 = result ∧ u.fld regRlmCmd 9 0 = r ∧ u.mem = s.mem
    let keeps (u : State) : Prop := (∀ q, q < 1024 → u.realmState q = s.realmState q) ∧ u.pot = s.pot ∧
      (∀ k, k < 480 → u.boundTo k r = s.boundTo k r) ∧ u.threads = s.threads
    let forgets (u : State) : Prop := (∀ k, k ≠ t.val → u.thread k = s.thread k) ∧
      u.thread t.val = { s.thread t.val with hcallExits := (s.thread t.val).hcallExits.filter (· ≠ r) }
    let bound : Prop := s.rlmThreads (s.reg regRlmCmdarg0) = some [t.val]
    let pageReady : Prop := s.fld regRlmPgcmd 63 63 = 0 ∧ s.servesRegs = true ∧ s.alone ∧ s.fld regRlmPgcmd 19 10 = 1 ∧
      s.fld regRlmPgcmd 9 0 = r ∧ page.toNat / 2 ^ 35 = s.pkgNum ∧ loc * 4096 < (s.reg regDmcTop).toNat
    let s2 := ((s.setFld regRlmPgarg 51 12 page.toNat).setFld regRlmPgcmd 63 63 1).beginPage loc
    let idle : Prop := (s2.pageLines loc).all s2.lineIdle = true
    let taken (u : State) (e : Nat) : Prop := u.potEntry loc = e ∧ u.fld regRlmPgcmd 63 63 = 0 ∧ u.fld regRlmPgcmd 62 60 = pgOk ∧
      u.fld regRlmPgcmd 59 50 = 1 ∧ ∀ a ∈ s.pageLines loc, u.readMem (64 * lineIx a) = 0
    (s.fld regRlmCmd 31 31 = 1 → exec (.start realm origin) s = .next s ∧ exec (.stop realm origin) s = .next s ∧
      exec (.bind realm origin) s = .next s ∧ exec (.unbind realm origin) s = .next s) ∧
    (ready → s.isManager = true → r ≠ 0 → s.realmState r = realmStopped → (s.realmSealed r = false ∨ s.fld regThmStatus 6 6 = 1) →
      Ends (.start realm origin) s (fun u => ends u rcOk ∧ u.realmState r = realmRunning ∧ (∀ q, q ≠ r → q < 1024 → u.realmState q = s.realmState q) ∧
        u.threads = s.threads ∧ u.pot = s.pot)) ∧
    (ready → s.isManager = true → r ≠ 0 → s.realmState r = realmStopped → s.realmSealed r = true → s.fld regThmStatus 6 6 = 0 →
      Ends (.start realm origin) s (fun u => u.fld regRlmCmd 31 31 = 1 ∧ keeps u ∧
        u.realms.hold = some (.reg 1 r (s.reg regRlmCmdarg0) (s.reg regRlmCmdarg1) origin))) ∧
    (ready → s.isManager = true → r = 0 ∨ s.realmState r ≠ realmStopped → Ends (.start realm origin) s (fun u => ends u rcState ∧ keeps u)) ∧
    (ready → s.isManager = true → r = 0 ∨ s.realmState r ≠ realmRunning → Ends (.stop realm origin) s (fun u => ends u rcState ∧ keeps u)) ∧
    (ready → s.isManager = false → Ends (.start realm origin) s (fun u => ends u rcNotManager ∧ keeps u) ∧
      Ends (.stop realm origin) s (fun u => ends u rcNotManager ∧ keeps u)) ∧
    (ready → s.isManager = true → r ≠ 0 → s.realmState r = realmRunning → Ends (.stop realm origin) s (fun u => ends u rcOk ∧
      u.realmState r = realmStopped ∧ (∀ q, q ≠ r → q < 1024 → u.realmState q = s.realmState q) ∧ ∀ k ∈ s.threadsIn r, (u.thread k).realm = 0)) ∧
    (ready → bound → r ≠ 0 → s.realmState r = realmStopped ∨ s.realmState r = realmRunning → s.mayBind r [t.val] = true →
      s.ctxOwned r (bits (s.reg regRlmCmdarg1) 51 6 * 64) = true → s.domainOpen (t.val / 8) = true →
      Ends (.bind realm origin) s (fun u => ends u rcOk ∧ u.boundTo t.val r = true ∧
        u.fld (regRlmBind1 t.val) 51 6 = s.fld regRlmCmdarg1 51 6 ∧ forgets u ∧ u.pot = s.pot)) ∧
    (ready → bound → s.boundTo t.val r = true → s.realmSealed r = false → (s.thread t.val).realm ≠ realm →
      Ends (.unbind realm origin) s (fun u => ends u rcOk ∧ u.reg (regRlmBind0 t.val) = 0 ∧ u.reg (regRlmBind1 t.val) = 0 ∧
        forgets u ∧ u.pot = s.pot)) ∧
    (ready → bound → s.boundTo t.val r = false → Ends (.unbind realm origin) s (fun u => ends u rcBinding ∧ keeps u)) ∧
    (s.fld regRlmPgcmd 63 63 = 1 → exec (.pgcmdAssign page) s = .next s ∧ exec (.reclaim page) s = .next s) ∧
    (pageReady → s.MemOk → idle → potState (s.potEntry loc) = potFree → s.realmState r = realmStopped ∨ s.realmState r = realmRunning →
      bit (s.reg regGlbInject) 63 = false → Ends (.pgcmdAssign page) s (fun u => taken u (potMake (s.halfFor r) potOwned r))) ∧
    (pageReady → s.MemOk → idle → potState (s.potEntry loc) = potOwned → potRealm (s.potEntry loc) = r → s.realmSealed r = false →
      s.holdsCtx loc = false → bit (s.reg regGlbInject) 63 = false → Ends (.reclaim page) s (fun u => taken u (potMake (s.keyCur 0) potFree 0))) ∧
    (pageReady → potState (s.potEntry loc) ≠ potFree → Ends (.pgcmdAssign page) s (fun u => u.fld regRlmPgcmd 63 63 = 0 ∧
      u.fld regRlmPgcmd 62 60 = pgState ∧ u.fld regRlmPgcmd 59 50 = 0 ∧ u.pot = s.pot ∧ u.mem = s.mem)) ∧
    (s.realms.sweeps = [] → exec .keyRotateSweep s = .next s) ∧
    (s.sourcesHeld = false → s.realms.sweeps = w :: l → w.pages = p :: rest → s.potEntry p = potMake (s.keyCur w.realm) potOwned w.realm →
      w.realm < 1024 → s.dramBad = [] → Ends .keyRotateSweep s (fun u => u.potEntry p = potMake (s.halfFor w.realm) potOwned w.realm ∧
        u.realms.sweeps = { w with pages := rest } :: l ∧ u.sent = s.sent ∧ s.sameMachine u)) ∧
    (s.sourcesHeld = false → s.alone → s.isManager = true → s.joined = true → c.gen = s.epf.gen → s.realms.sweeps = [w] → w.pages = [] →
      w.realm < 1024 → s.realms.waits = [{ kind := .rotate c, realm := w.realm, started := begun, waiting := [s.pkgNum] }] →
      Ends .keyRotateSweep s (fun u => u.keyCur w.realm = 1 - s.keyCur w.realm ∧ u.keyState w.realm = keyActive ∧ u.realms.sweeps = [] ∧
        u.realms.waits = [] ∧ s.completes u c stOk 0 0 ∧ u.pot = s.pot ∧ s.sameMachine u)) ∧
    (s.realms.waits = [] → exec (.realmResetDone realm) s = .next s) ∧
    (s.alone → s.realmState r = realmResetting → s.realms.waits = [{ kind := .reset code pkg, realm := r, started := begun, waiting := [] }] →
      Ends (.realmResetDone realm) s (fun u => u.realmState r = realmStopped ∧
        u.fld (regRlmTable0 r) 15 0 = satTo 0xffff (s.fld (regRlmTable0 r) 15 0 + 1) ∧ u.realms.waits = [] ∧ s.sameMachine u))

/-- R447, R449, R457, R463, R464, R467: the platform host's realm commands on a package that is the image's only member: the realm's STATE,
its seal, ways and key slot, the reclaimed page's zeros, and the completion; a realm whose STATE does not allow it refuses. -/
def Obligations.RealmTickets : Prop :=
  ∀ (c : Command) (s : State),
    let r := cmdRealm c
    let named := bits (cmdWord c 1) 15 0
    let mask := s.sealMask r named
    let sealing := bit (cmdWord c 0) 16
    let judged (op : Nat) : Prop := s.judges c op ∧ s.alone ∧ s.isManager = true ∧ s.realms.keyBad = []
    let refuses (i : Instr) : Prop := Ends i s (fun u => s.completes u c stState 0 0 ∧ u.regs = s.regs ∧ u.pot = s.pot ∧ u.realms = s.realms ∧
      u.sent = s.sent ∧ s.sameMachine u)
    let ways (u : State) : Nat := u.fld (regRlmTable0 r) 63 48
    let page := bits (cmdWord c 1) 51 12
    let loc := page % 2 ^ 35
    let s2 := s.beginPage loc
    (judged 0x20 → r ≠ 0 → s.realmState r = realmFree → sealing = false → Ends (.realmCreate c) s (fun u => s.completes u c stOk 0 0 ∧
      u.realmState r = realmStopped ∧ u.realmSealed r = false ∧ ways u = (if named = 0 then 0xffff else named) ∧ u.keyState r = keyActive ∧
      u.keyCur r = 0 ∧ s.sameMachine u)) ∧
    (judged 0x20 → r ≠ 0 → s.realmState r = realmFree → sealing = true → s.commandSealCheck c = none → Ends (.realmCreate c) s (fun u =>
      s.completes u c stOk 0 0 ∧ u.realmState r = realmStopped ∧ u.realmSealed r = true ∧ ways u = mask ∧ u.keyState r = keyActive ∧ s.sameMachine u)) ∧
    (judged 0x20 → r = 0 ∨ s.realmState r ≠ realmFree → refuses (.realmCreate c)) ∧
    (judged 0x21 → r ≠ 0 → s.realmState r = realmStopped → s.keyState r = keyActive → Ends (.realmDestroy c) s (fun u =>
      u.realmState r = realmDestroying ∧ (∀ t, t < 480 → u.boundTo t r = false) ∧ u.completions = s.completions ∧
      (s.ownedPages r = [] → u.keyState r = keyEmpty ∧ u.pot = s.pot) ∧ ∀ t, u.thread t =
        { s.thread t with hcallExits := if t < 480 ∧ s.boundTo t r = true then (s.thread t).hcallExits.filter (· ≠ r) else (s.thread t).hcallExits })) ∧
    (judged 0x21 → r = 0 ∨ s.realmState r ≠ realmStopped → refuses (.realmDestroy c)) ∧
    (judged 0x22 → r ≠ 0 → s.realmState r = realmStopped → s.commandSealCheck c = none → Ends (.realmSeal c) s (fun u =>
      s.completes u c stOk 0 0 ∧ u.realmState r = realmStopped ∧ u.realmSealed r = true ∧ ways u = mask ∧ s.sameMachine u)) ∧
    (judged 0x22 → r ≠ 0 → s.realmState r = realmStopped → s.commandSealCheck c ≠ none → refuses (.realmSeal c)) ∧
    (judged 0x23 → r ≠ 0 → s.realmState r = realmStopped → Ends (.realmUnseal c) s (fun u => s.completes u c stOk 0 0 ∧
      u.realmState r = realmStopped ∧ u.realmSealed r = false ∧ ways u = s.fld (regRlmTable0 r) 63 48 ∧ s.sameMachine u)) ∧
    (judged 0x23 → s.realmState r ≠ realmStopped → refuses (.realmUnseal c)) ∧
    (judged 0x24 → r ≠ 0 → s.realmState r = realmStopped ∨ s.realmState r = realmRunning → s.keyState r = keyActive →
      Ends (.keyRotate c) s (fun u => s.runsOn u c ∧ u.keyState r = keyRotating ∧ u.keyCur r = s.keyCur r ∧
        u.realms.sweeps = s.realms.sweeps ++ [{ realm := r, pages := s.ownedPages r, total := (s.ownedPages r).length }] ∧ u.pot = s.pot ∧
        s.sameMachine u)) ∧
    (judged 0x24 → s.keyState r ≠ keyActive → refuses (.keyRotate c)) ∧
    (judged 0x25 → r ≠ 0 → s.realmState r = realmStopped ∨ s.realmState r = realmRunning → cmdWord c 2 = 1 → page / 2 ^ 35 = s.pkgNum →
      loc * 4096 < (s.reg regDmcTop).toNat → potState (s.potEntry loc) = potOwned → potRealm (s.potEntry loc) = r → s.holdsCtx loc = false →
      s.MemOk → bit (s.reg regGlbInject) 63 = false → (s2.pageLines loc).all s2.lineIdle = true →
      Ends (.pageReclaim c) s (fun u => s.completes u c stOk 1 0 ∧ u.potEntry loc = potMake (s.keyCur 0) potFree 0 ∧
        ∀ a ∈ s.pageLines loc, u.readMem (64 * lineIx a) = 0)) ∧
    (judged 0x25 → s.realmState r ≠ realmStopped → s.realmState r ≠ realmRunning → bits (cmdWord c 1) 51 47 = s.pkgNum →
      refuses (.pageReclaim c))

/-! ## The platform host's commands -/

/-- R503, R507 to R512, R578, R635: the platform host's commands for this package: what each leaves, and the completion it ends with; a
command whose check fails changes nothing but its completion. A command whose condition does not hold changes nothing (log entry 41). -/
def Obligations.HostCommands : Prop :=
  ∀ (c x : Command) (k : Nat) (s : State),
    let p0 := cmdWord c 0
    let judged (op : Nat) : Prop := s.judges c op ∧ s.cmdMembers c = [s.pkgNum] ∧ s.memberJobs = []
    let part : Command := { c with phase := 2 }
    let long : Command := { part with oper := s.opNext }
    let fails (i : Instr) (st : Nat) : Prop := Ends i s (fun u => s.completes u c st 0 0 ∧ u.flash = s.flash ∧ u.fuses = s.fuses ∧
      u.ownerKeys = s.ownerKeys ∧ u.flashJob = s.flashJob ∧ (∀ k, k < 16 → u.reg (regTktGrant0 k) = s.reg (regTktGrant0 k)) ∧ s.sameMachine u)
    let live (q : State) (k : Nat) : Prop := q.fld (regTktGrant0 k) 8 8 = 1
    let head := (s.reg regTlgHead).toNat
    let tail := (s.reg regTlgTail).toNat
    let want : Nat := if bit p0 63 ∨ head < bits p0 47 0 then head else bits p0 47 0
    let floor := s.fld regGlbBoot 31 24
    let job : MemberJob := { cmd := c, waiting := [s.pkgNum], started := s.clause }
    let written : Prop := s.servesHost = true ∧ s.flashJob = some c ∧ s.memberJobs = [job] ∧ c.gen = s.epf.gen ∧ c.opcode = 0x17
    (∀ e : Event, s.events = [e] → e.kind = .command c → s.clause.toNat < e.clause.toNat + s.horizon → exec (.nop c) s = .next s) ∧
    (judged 0x01 → Ends (.nop c) s (fun u => s.completes u c stOk 0 0 ∧ u.sent = s.sent ∧ s.sameMachine u)) ∧
    (judged 0x02 → Tbl.find s.longOps p0.toNat = none → fails (.progress c) stBadField) ∧
    (judged 0x02 → Tbl.find s.longOps p0.toNat = some (x, true) → x.opcode = 0x10 → Ends (.progress c) s (fun u => s.completes u c stOk 8 8 ∧
      u.regs = s.regs ∧ s.sameMachine u)) ∧
    (judged 0x02 → Tbl.find s.longOps p0.toNat = some (x, false) → x.opcode = 0x14 → s.cmdMembers x = [s.pkgNum] →
      Ends (.progress c) s (fun u => s.completes u c stOk (BitVec.ofNat 64 (s.fld regDirCursor 31 0)) (BitVec.ofNat 64 (s.fld regDirCursor 63 32)) ∧
        s.sameMachine u)) ∧
    (judged 0x03 → (∀ k, k < 8 → s.fld (regTktSlot0 k) 0 0 = 0) → Ends (.ownerClaim c) s (fun u => s.completes u c stOk 0 0 ∧
      u.fld (regTktSlot0 0) 0 0 = 1 ∧ u.reg (regTktSlot1 0) = 0 ∧ Tbl.find u.ownerKeys 0 = some (cmdKey c 0) ∧ s.sameMachine u)) ∧
    (judged 0x03 → (∃ k, k < 8 ∧ s.fld (regTktSlot0 k) 0 0 = 1) → fails (.ownerClaim c) stState) ∧
    (judged 0x30 → Ends (.ownerKeySet c) s (fun u => s.completes u c stOk 0 0 ∧ u.fld (regTktSlot0 (bits p0 2 0)) 0 0 = 1 ∧
      Tbl.find u.ownerKeys (bits p0 2 0) = some (cmdKey c 1) ∧ u.reg (regTktSlot1 (bits p0 2 0)) = s.reg (regTktSlot1 (bits p0 2 0)) ∧
      s.sameMachine u)) ∧
    (judged 0x31 → Ends (.ownerKeyClear c) s (fun u => s.completes u c stOk 0 0 ∧ u.fld (regTktSlot0 (bits p0 2 0)) 0 0 = 0 ∧
      Tbl.find u.ownerKeys (bits p0 2 0) = none ∧ s.sameMachine u)) ∧
    (judged 0x16 → bits p0 25 0 = regDmcChanhash0 → cmdWord c 2 = BitVec.allOnes 64 → Ends (.regWrite c) s (fun u =>
      s.completes u part stOk 0 0 ∧ u.reg regDmcChanhash0 = BitVec.ofNat 64 (bits (cmdWord c 1) 51 0) ∧ s.sameMachine u)) ∧
    (judged 0x17 → bits p0 1 0 = 0 → s.fwContentOk c = true → s.flashJob = none → Ends (.fwUpdateFirmware c) s (fun u => s.runsOn u c ∧
      u.flashJob = some long ∧ u.flash = s.flash ∧ s.sameMachine u)) ∧
    (judged 0x17 → bits p0 1 0 = 0 → s.fwContentOk c = false → fails (.fwUpdateFirmware c) stBadField) ∧
    (judged 0x17 → bits p0 1 0 = 1 → recordFault c.ext = none → s.flashJob = none → Ends (.fwUpdateBoardRecord c) s (fun u => s.runsOn u c ∧
      u.flashJob = some long ∧ u.flash = s.flash ∧ s.sameMachine u)) ∧
    (judged 0x17 → bits p0 1 0 = 1 → recordFault c.ext = none → s.flashJob ≠ none → fails (.fwUpdateBoardRecord c) stState) ∧
    (judged 0x17 → bits p0 1 0 = 2 → s.flashJob = none → s.fuses.svnMin ≠ floor → s.fuses.svnLeft ≠ 0 → Ends (.fwUpdateFloor c) s (fun u =>
      s.runsOn u c ∧ u.flashJob = some long ∧ u.fuses = s.fuses ∧ s.sameMachine u)) ∧
    (judged 0x17 → bits p0 1 0 = 2 → s.flashJob = none → s.fuses.svnMin ≠ floor → s.fuses.svnLeft = 0 → fails (.fwUpdateFloor c) stState) ∧
    (s.flashJob = none → exec .fwUpdateDone s = .next s) ∧
    (written → bits p0 1 0 = 0 → Ends .fwUpdateDone s (fun u => s.completes u c stOk 0 0 ∧ u.flashJob = none ∧ s.sameMachine u ∧
      u.flash = (if s.fld regGlbBoot 1 0 = 0 then { s.flash with slotB := some c.ext } else { s.flash with slotA := some c.ext }))) ∧
    (written → bits p0 1 0 = 1 → Ends .fwUpdateDone s (fun u => s.completes u c stOk 0 0 ∧ u.flashJob = none ∧
      u.flash = { s.flash with board := c.ext } ∧ s.sameMachine u)) ∧
    (written → bits p0 1 0 = 2 → Ends .fwUpdateDone s (fun u => s.completes u c stOk 0 0 ∧ u.flashJob = none ∧ u.fuses.svnMin = floor ∧
      u.fuses.svnLeft = s.fuses.svnLeft - 1 ∧ u.fld regGlbBoot 23 16 = floor ∧ s.sameMachine u)) ∧
    (judged 0x18 → s.freeGrant = some k → Ends (.expertGrant c) s (fun u => s.completes u part stOk 0 0 ∧ live u k ∧
      u.fld (regTktGrant0 k) 4 0 = bits p0 36 32 ∧ u.reg (regTktGrant1 k) = cmdWord c 1 ∧ s.sameMachine u)) ∧
    (judged 0x18 → s.freeGrant = none → fails (.expertGrant c) stState) ∧
    (judged 0x19 → Ends (.expertRevoke c) s (fun u => s.completes u part stOk 0 0 ∧ s.sameMachine u ∧
      ∀ k, k < 16 → (live u k ↔ live s k ∧ bit p0 40 = false ∧ k ≠ bits p0 35 32))) ∧
    Ends .grantExpired s (fun u => s.sameMachine u ∧ u.sent = s.sent ∧
      ∀ k, k < 16 → (live u k ↔ live s k ∧ s.clause.toNat < (s.reg (regTktGrant1 k)).toNat)) ∧
    (judged 0x1a → Ends (.tlogClear c) s (fun u => s.completes u part stOk 0 0 ∧ (u.reg regTlgTail).toNat = max tail want ∧
      u.reg regTlgHead = s.reg regTlgHead ∧ s.sameMachine u))

/-- R302, R343, R347, R348, R566 to R573, R576, R577: the commands of the image on a package that is its only member, or not yet a member:
JOIN and re-JOIN enter JOIN, a QUIESCE names its cut clause and a release its clause, a regime changes through QUIESCE, a drain begins and
ends in STANDBY, a reset waits for its completion, a reshape and a memory initialisation begin. A command whose condition does not hold
changes nothing (log entry 41). Where the spec states no value the result is the next free value, whatever it is (log entry 1). MEMINIT
ends within its command (log entry 1); the targets are those of log entry 35. -/
def Obligations.ImageCommands : Prop :=
  ∀ (c : Command) (d : Drain) (s : State),
    let p0 := cmdWord c 0
    let judged (op : Nat) : Prop := s.judges c op ∧ s.cmdMembers c = [s.pkgNum] ∧ s.otherMembers = [] ∧ s.memberJobs = []
    let mode (t : Nat) : Prop := judged 0x12 ∧ c.target = 0xff ∧ bits p0 3 0 = t
    let long : Command := { c with oper := s.opNext }
    let refuses (i : Instr) : Prop := Ends i s (fun u => s.completes u c stState 0 0 ∧ u.mode = s.mode ∧ u.image = s.image ∧ u.drain = s.drain ∧
      s.sameMachine u)
    let soon := s.clause + BitVec.ofNat 64 (s.fld regGlbQuiescectl 7 0)
    let cuts (i : Instr) (why : Purpose) : Prop := Ends i s (fun u => s.runsOn u c ∧ u.image.cutAt = some soon ∧ u.image.cutReported = false ∧
      u.image.quiesce = some { purpose := why, cmd := some long, cut := soon, waiting := [s.pkgNum] } ∧ u.mode = s.mode ∧ s.sameMachine u)
    let gone := (portList s.oldLayout.ports).filter (fun p => !p0.getLsbD p)
    (judged 0x10 → Ends (.join c) s (fun u => s.runsOn u c ∧ s.entersMode u modeJoin 7 ∧ u.image.lastIdent = s.clause ∧
      u.image.join = some { cmd := long, regime := bits p0 1 0, minPkg := if bits p0 13 8 = 0 then 1 else bits p0 13 8,
                            table := joinTable c.ext 32, re := false } ∧ s.sameMachine u)) ∧
    (judged 0x11 → bits p0 1 0 = s.regime → Ends (.setRegime c) s (fun u => s.completes u c stOk 0 0 ∧ u.image = s.image ∧ s.sameMachine u)) ∧
    (judged 0x11 → bits p0 1 0 ≠ s.regime → s.canQuiesce = true → cuts (.setRegime c) (.regime (bits p0 1 0))) ∧
    (judged 0x11 → bits p0 1 0 ≠ s.regime → s.canQuiesce = false → refuses (.setRegime c)) ∧
    (mode 8 → s.canQuiesce = true → cuts (.modeQuiesce c) .command) ∧
    (mode 8 → s.canQuiesce = false → refuses (.modeQuiesce c)) ∧
    (mode 5 → s.quiesced = true → Ends (.modeJoin c) s (fun u => s.runsOn u c ∧ s.entersMode u modeJoin 13 ∧ u.imageMode = modeJoin ∧
      u.image.join = some { cmd := long, regime := s.regime, minPkg := 1, table := [], re := true } ∧ s.sameMachine u)) ∧
    (mode 6 → s.quiesced = true → Ends (.modeRunI c) s (fun u => s.runsOn u c ∧ u.image.releaseAt = some soon ∧ u.mode = s.mode ∧
      s.sameMachine u)) ∧
    (mode 7 → s.quiesced = true → Ends (.modeRunS c) s (fun u => s.runsOn u c ∧ u.image.releaseAt = some soon ∧ u.mode = s.mode ∧
      s.sameMachine u)) ∧
    (mode 5 → s.quiesced = false → refuses (.modeJoin c)) ∧ (mode 6 → s.quiesced = false → refuses (.modeRunI c)) ∧
    (mode 7 → s.quiesced = false → refuses (.modeRunS c)) ∧
    (mode 10 → s.joined = true → s.mode ≠ modeQuiesce ∨ s.quiesced = true → Ends (.modeDrain c) s (fun u => s.entersMode u modeDrain 15 ∧
      u.imageMode = modeDrain ∧ u.mem = s.mem ∧ u.drain = some { cmd := { long with phase := 2 }, flushing := true } ∧
      u.completions = s.completions ++ [{ cmd := long, status := stRunning, final := false }, { cmd := { long with phase := 2 }, status := stOk }])) ∧
    (mode 10 → s.joined = true → s.mode = modeQuiesce → s.quiesced = false → refuses (.modeDrain c)) ∧
    (s.drain = none → exec .drainDone s = .next s) ∧
    (s.drain = some d → s.mode = modeDrain → d.flushing = true → d.leaving = false → s.completions = [] → s.servesHost = true →
      (s.flushed = false → exec .drainDone s = .next s) ∧
      (s.flushed = true → Ends .drainDone s (fun u => u.mode = modeStandby ∧ u.fld regGlbMode 11 8 = modeDrain ∧ u.fld regGlbMode 23 16 = 17 ∧
        u.mem = [] ∧ u.threads = [] ∧ u.sent = [] ∧ u.joined = false ∧ u.clause = s.clause ∧
        ∀ n, n ∈ u.selfRefresh ↔ n < 16 ∧ s.fld (regDmcStatus n) 0 0 = 1 ∧ s.fld (regDmcStatus n) 1 1 = 0))) ∧
    (judged 0x13 → Ends (.reset c) s (fun u => s.completes u c stOk 0 0 ∧ u.resetDue = some c ∧ u.mode = s.mode ∧ s.sameMachine u)) ∧
    (judged 0x14 → s.reshapeOk c = true → Ends (.reshape c) s (fun u => s.runsOn u c ∧ u.reshaping = true ∧
      u.newLayout.ports = bits p0 7 0 ∧ u.newLayout.span = bits p0 9 8 ∧ u.fld regDirCursor 31 0 = 0 ∧
      u.reshapeCmd = some { long with phase := 2 } ∧ (∀ p ∈ gone, u.fld (regDirStatus p) 3 3 = 1) ∧ s.sameMachine u)) ∧
    (judged 0x14 → s.reshapeOk c = false → refuses (.reshape c)) ∧
    (judged 0x15 → s.joined = true → Ends (.meminit c) s (fun u => u.mem = [] ∧ u.written = [(0, (s.reg regDmcTop).toNat / 64)] ∧
      u.pot = [] ∧ u.fld regGlbBoot 4 3 = 3 ∧ u.mode = s.mode ∧ u.freeCount = s.freeCount + 1 ∧
      u.completions = s.completions ++ [{ cmd := long, status := stRunning, final := false }, { cmd := { long with phase := 2 }, status := stOk }]))

/-! ## Tickets -/

/-- R493 to R504: a poll keeps the doorbell words, sets the next interval and reads the descriptors that TAIL announces; a descriptor's
checks 1 to 4, in order; acceptance stamps a ticketed command and hands it to the resolution of its clause; a completion is written to its
ring. A command whose condition does not hold changes nothing (log entry 41). A passed command runs in phases (log entry 24). -/
def Obligations.Tickets : Prop :=
  ∀ (words : List Word) (desc : BitVec 1024) (r : HostRead) (l : List HostRead) (a : Accept) (x : Completion) (i : Fin 64) (s : State),
    let doorbells := doorbellTbl words
    let changed := (upTo 128).any (fun k => decide (Tbl.get (0 : BitVec 32) s.epf.doorbells k ≠ Tbl.get 0 doorbells k))
    let cur := s.fld regEpfPoll 23 16
    let next : Nat := if changed then s.fld regEpfPoll 7 0 else min (2 * cur) (s.fld regEpfPoll 15 8)
    let due : Prop := s.epfMaster = true ∧ s.fld regEpfDbpage 0 0 = 1 ∧ s.epf.nextPoll.toNat ≤ s.clause.toNat
    let asked : Tlp := .memRead s.epf.nextTag (s.fld regEpfDbpage 63 12 * 4096) 1024
    let polled (u : State) : Prop := u.epf.doorbells = doorbells ∧ u.fld regEpfPoll 23 16 = next ∧
      u.epf.nextPoll = s.clause + BitVec.ofNat 64 (250 * next) ∧ u.sent = s.sent ∧ s.sameMachine u
    let d := leBytes desc.toNat 128
    let c := parseDescriptor d [] r.ring r.index s.epf.gen
    let k := c.slot.toNat % 8
    let read : Prop := s.epf.late = [] ∧ s.epf.reads = r :: l ∧ s.servesHost = true ∧ c.hasExt = false ∧ r.ring < 64
    let taken (u : State) : Prop := u.fld (regEpfCring1 r.ring) 63 32 = (r.index + 1) % 2 ^ 32 ∧
      u.fld regEpfStatus 40 32 = satTo 511 (s.fld regEpfStatus 40 32 + 1) ∧ s.sameMachine u
    let refused (status : Nat) : Prop := Ends (.commandDescriptor desc []) s (fun u => taken u ∧ s.completes u c status 0 0 ∧
      u.epf.accepting = s.epf.accepting ∧ u.ownerKeys = s.ownerKeys ∧ u.reg (regTktSlot1 k) = s.reg (regTktSlot1 k))
    let listed (u : State) (c : Command) : Prop :=
      ∃ q, u.events = s.events ++ q ++ [{ stamp := s.clause, rank := if c.opcode = 0x13 then 2 else 5, origin := s.origin 12 82, kind := .command c }]
    let here (c : Command) : Prop := c.opcode = 0x13 ∧ c.target.toNat = s.pkgNum ∧ bit (cmdWord c 0) 0 = false
    let active : Prop := s.fld (regTktSlot0 k) 0 0 = 1
    let tagged : Prop := ticketTag (Tbl.get 0 s.ownerKeys k) d = (d.drop 16).take 16
    let j := s.pringOf x.cmd
    let chead := s.fld (regEpfPring1 j) 63 32
    (¬ due → exec (.doorbellPoll words) s = .next s) ∧
    (due → (∀ k, k < 64 → s.cringOn k = false) → Ends (.doorbellPoll words) s (fun u => polled u ∧ u.epf.reads = s.epf.reads ∧
      u.epf.out = s.epf.out ++ [asked])) ∧
    (due → (∀ k, k < 64 → (s.cringOn k = true ↔ k = i.val)) → s.epf.reads = [] → s.fld regEpfStatus 40 32 < 256 →
      (Tbl.get 0 doorbells i.val).toNat = (s.cringHead i.val + 1) % 2 ^ 32 → Ends (.doorbellPoll words) s (fun u => polled u ∧
        u.epf.reads = [{ tag := (s.epf.nextTag + 1) % 1024, ring := i.val, index := s.cringHead i.val, since := s.clause }] ∧
        u.epf.out = s.epf.out ++ [asked, .memRead ((s.epf.nextTag + 1) % 1024)
          (s.fld (regEpfCring0 i.val) 63 12 * 4096 + s.cringHead i.val % s.cringSize i.val * 128) 128])) ∧
    (s.epf.late = [] → s.epf.reads = [] → exec (.commandDescriptor desc []) s = .next s) ∧
    (read → formOk c = false → refused stBadField) ∧
    (read → formOk c = true → c.ticketed = false → s.fieldStatus c = none → ¬ here c → Ends (.commandDescriptor desc []) s (fun u => taken u ∧ listed u c)) ∧
    (read → formOk c = true → c.ticketed = true → ¬ active → refused stSlotEmpty) ∧
    (read → formOk c = true → c.ticketed = true → active → ¬ tagged → refused stAuth) ∧
    (read → formOk c = true → c.ticketed = true → active → tagged → c.counter.toNat ≤ (s.reg (regTktSlot1 k)).toNat → refused stReplay) ∧
    (read → formOk c = true → c.ticketed = true → active → tagged → (s.reg (regTktSlot1 k)).toNat < c.counter.toNat → s.joined = false →
      Ends (.commandDescriptor desc []) s (fun u => taken u ∧ u.reg (regTktSlot1 k) = c.counter ∧ u.flash.keys0 = some u.keyRecord ∧
        u.flash.keys1 = some u.keyRecord ∧ u.epf.accepting = s.epf.accepting ++ [{ cmd := c, mirror := 0, since := s.clause }] ∧
        u.completions = s.completions)) ∧
    (s.servesHost = true → s.epf.accepting = [a] → s.epf.mirrorAcked < a.mirror → exec .ticketAccept s = .next s) ∧
    (s.servesHost = true → s.epf.accepting = [a] → a.mirror ≤ s.epf.mirrorAcked → a.cmd.ticketed = true → s.fieldStatus a.cmd = none →
      here a.cmd → a.cmd.gen = s.epf.gen → Ends .ticketAccept s (fun u => u.epf.accepting = [] ∧ u.resetDue = some { a.cmd with stamp := some s.clause } ∧
        s.completes u { a.cmd with stamp := some s.clause } stOk 0 0 ∧ s.sameMachine u)) ∧
    (s.servesHost = true → s.epf.accepting = [a] → a.mirror ≤ s.epf.mirrorAcked → a.cmd.ticketed = true → s.fieldStatus a.cmd = none → ¬ here a.cmd →
      Ends .ticketAccept s (fun u => u.epf.accepting = [] ∧ listed u { a.cmd with stamp := some s.clause } ∧ u.completions = s.completions ∧
        s.sameMachine u)) ∧
    (s.servesHost = true → s.epf.accepting = [a] → a.mirror ≤ s.epf.mirrorAcked → s.fieldStatus a.cmd = some stBadField → a.cmd.gen = s.epf.gen →
      Ends .ticketAccept s (fun u => u.epf.accepting = [] ∧ s.completes u a.cmd stBadField 0 0 ∧ s.sameMachine u)) ∧
    (s.epfMaster = false ∨ s.completions = [] → exec .commandCompletion s = .next s) ∧
    (s.completions = [x] → s.pringRoom j = false → exec .commandCompletion s = .next s) ∧
    (s.epfMaster = true → s.completions = [x] → s.pringRoom j = true → x.final = false → x.cmd.int = false → x.status = stRunning →
      Ends .commandCompletion s (fun u => u.completions = [] ∧ u.fld (regEpfPring1 j) 63 32 = (chead + 1) % 2 ^ 32 ∧ s.sameMachine u ∧
        u.epf.out = s.epf.out ++ [.memWrite (s.fld (regEpfPring0 j) 63 12 * 4096 + chead % s.pringSize j * 32) 32
          (completionBits x ((chead / s.pringSize j + 1) % 2))])) ∧
    (s.epfMaster = true → s.completions = [x] → s.pringRoom j = true → x.final = true → Ends .commandCompletion s (fun u =>
      u.completions = [] ∧ u.fld (regEpfPring1 j) 63 32 = (chead + 1) % 2 ^ 32 ∧ s.sameMachine u))

/-! ## The endpoint and the root ports -/

/-- R486 to R488, R490, R492, R513 to R517: configuration requests; the peer window's reads and writes; its registers, whose value takes
effect at the next clause; bus mastering, resets, power states; containment and its release; the timeout of a read. A command whose
condition does not hold changes nothing (log entry 41). Where the spec states no value the result is the next free value, whatever it is
(log entry 1). Messages are addressed as log entries 13 and 14 say. The configuration dwords follow log entry 33. -/
def Obligations.EndpointFunction : Prop :=
  ∀ (tag dw : BitVec 10) (off : BitVec 36) (len : Fin 4097) (data : List (BitVec 8)) (k : Fin 16) (v : Word) (w aer : BitVec 32)
    (origin : BitVec 16) (hot : Bool) (r : HostRead) (s : State),
    let gives (i : Instr) (t : Tlp) : Prop := Ends i s (fun u => u.epf.out = s.epf.out ++ [t] ∧ u.sent = s.sent ∧ u.regs = s.regs ∧ s.sameMachine u)
    let t := s.peerTarget off.toNat len.val
    let tw := s.peerTarget off.toNat data.length
    let inService : Prop := s.peerOpen = true ∧ s.epfContained = false ∧ s.mode ≠ modeHalt
    let fresh : Prop := s.inboundOf 0 = [] ∧ s.port 64 = {}
    let present : Prop := s.epfPresent = true
    let linked : Prop := present ∧ s.epfLinked = true ∧ s.fld regEpfStatus 9 8 ≠ 2
    let ready : Prop := linked ∧ s.fld regEpfStatus 10 10 = 1
    let resets (u : State) : Prop := u.epf.bme = false ∧ u.epf.gen = s.epf.gen + 1 ∧ u.completions = [] ∧ u.epf.msix = [] ∧ u.epf.doorbells = [] ∧
      (∀ j, j < 64 → u.reg (regEpfCring1 j) = regInit (regEpfCring1 j)) ∧ (∀ j, j < 16 → u.reg (regEpfWin j) = regInit (regEpfWin j)) ∧ s.sameMachine u
    (s.peerOpen = false → exec (.peerWindowRead tag off len) s = .next s ∧ exec (.peerWindowWrite off data) s = .next s) ∧
    (s.peerOpen = true → s.epfContained = true ∨ s.mode = modeHalt → gives (.peerWindowRead tag off len) (.completion tag.toNat len.val none) ∧
      exec (.peerWindowWrite off data) s = .next s) ∧
    (inService → t.2.2 = false → Ends (.peerWindowRead tag off len) s (fun u =>
      u.epf.out = s.epf.out ++ [.completion tag.toNat len.val none] ∧ u.sent = s.sent ∧ s.sameMachine u)) ∧
    (inService → fresh → t.2.2 = true → 0 < len.val → t.2.1 % 64 + len.val ≤ 64 → Ends (.peerWindowRead tag off len) s (fun u =>
      u.epf.out = s.epf.out ∧ u.inboundOf 0 = [{ tag := some tag.toNat, pa := t.2.1, len := len.val, via := regEpfWin t.1 }] ∧
      s.sameMachine u ∧ ∃ m, u.sent = s.sent ++ [m] ∧ m.type = .rdS ∧ m.hdr.addr = lineOf t.2.1 ∧ m.hdr.realm = 0)) ∧
    (inService → tw.2.2 = false → Ends (.peerWindowWrite off data) s (fun u => u.sent = s.sent ∧ s.sameMachine u)) ∧
    (inService → fresh → tw.2.2 = true → 0 < data.length → tw.2.1 % 64 + data.length ≤ 64 → Ends (.peerWindowWrite off data) s (fun u =>
      s.sameMachine u ∧ ∃ m, u.sent = s.sent ++ [m] ∧ m.type = .wrP ∧ m.hdr.addr = lineOf tw.2.1 ∧
        m.body = .bytes (putLine 0 (tw.2.1 % 64) data.length (leNat data)) (byteMask (tw.2.1 % 64) data.length))) ∧
    (s.mode = modeHalt ∨ s.mode ≤ modeStandby → exec (.windowWrite k v origin) s = .next s) ∧
    (modeStandby < s.mode → s.mode ≠ modeHalt → s.mapDue = [] → Ends (.windowWrite k v origin) s (fun u =>
      u.mapDue = [(regEpfWin k.val, winMask v, origin)] ∧ u.reg (regEpfWin k.val) = s.reg (regEpfWin k.val) ∧ s.sameMachine u)) ∧
    (s.epfPresent = false ∨ s.epfLinked = false ∨ s.fld regEpfStatus 9 8 = 2 → exec (.configRequest tag dw none) s = .next s) ∧
    (linked → s.fld regEpfStatus 10 10 = 0 → gives (.configRequest tag dw none) (.retryStatus tag.toNat)) ∧
    (ready → s.configRead dw.toNat = some w → gives (.configRequest tag dw none) (.completion tag.toNat 4 (some w.toNat))) ∧
    (ready → s.configRead dw.toNat = none → gives (.configRequest tag dw none) (.completion tag.toNat 4 (some (s.freeWord.toNat % 2 ^ 32)))) ∧
    (ready → gives (.configRequest tag 5 (some (0xf, w))) (.completion tag.toNat 0 (some 0)) ∧
      Ends (.configRequest tag 5 (some (0xf, w))) s (fun u => u.configRead 5 = some w)) ∧
    (present → s.epf.bme = false → s.epf.resetDue = none → Ends .busMasterEnable s (fun u => u.epf.bme = true ∧ u.epf.nextPoll = s.clause ∧
      s.sameMachine u)) ∧
    (s.epf.bme = true → exec .busMasterEnable s = .next s) ∧ (s.epf.bme = false → exec .busMasterDisable s = .next s) ∧
    (present → s.epf.bme = true → s.epf.reads = [r] → r.ring < 64 → Ends .busMasterDisable s (fun u => u.epf.bme = false ∧ u.epf.reads = [] ∧
      u.epf.late = s.epf.late ++ [r] ∧ s.sameMachine u ∧ u.completions = s.completions ++ [{ cmd :=
        { cmdid := BitVec.ofNat 32 s.freeWord.toNat, ring := r.ring, index := r.index, gen := s.epf.gen }, status := stAborted }])) ∧
    (present → s.epf.resetDue = none → s.epf.reads = [] → s.epf.late = [] → Ends .functionLevelReset s (fun u => resets u ∧
      u.fld regEpfStatus 10 10 = b2n (s.epfLinked && decide (modeSealed ≤ s.mode)))) ∧
    (present → s.epf.resetDue = none → s.epf.reads = [] → s.epf.late = [] → Ends (.perstN hot) s (fun u => resets u ∧
      u.fld regEpfStatus 7 4 = 0 ∧ u.fld regEpfStatus 10 10 = 0 ∧ u.epf.bar2Log = (if hot then s.epf.bar2Log else s.fld regEpfBar2cfg 5 0))) ∧
    (present → s.epf.resetDue = none → s.epf.reads = [] → s.epf.late = [r] → Ends .functionLevelReset s (fun u => u.epf.bme = false ∧
      u.epf.resetDue = some (3, 0) ∧ u.epf.gen = s.epf.gen ∧ u.fld regEpfStatus 10 10 = 0 ∧ u.completions = s.completions ∧ s.sameMachine u)) ∧
    (s.epfPresent = false → exec .functionLevelReset s = .next s ∧ exec (.perstN hot) s = .next s ∧ exec (.dStateChange 3) s = .next s) ∧
    exec (.dStateChange 1) s = .next s ∧
    (present → Ends (.dStateChange 3) s (fun u => u.fld regEpfStatus 9 8 = 3 ∧ u.completions = s.completions ∧ s.sameMachine u) ∧
      Ends (.dStateChange 0) s (fun u => u.fld regEpfStatus 9 8 = 0 ∧ u.epf.nextPoll = s.clause ∧ u.completions = s.completions ∧ s.sameMachine u)) ∧
    (present → s.epfContained = false → Ends (.epfContained true aer) s (fun u => u.epfContained = true ∧ u.fld regEpfStatus 15 12 = 1 ∧
      u.fld regEpfStatus 7 4 = 0 ∧ u.epf.reads = [] ∧ u.epf.late = s.epf.late ++ s.epf.reads ∧ u.epf.aer = s.epf.aer ||| aer ∧ s.sameMachine u)) ∧
    (present → s.epfContained = false → aer ≠ 0 → Ends (.epfContained false aer) s (fun u => u.epfContained = true ∧
      u.fld regEpfStatus 15 12 = 2 ∧ u.epf.reads = [] ∧ s.sameMachine u)) ∧
    (s.epfContained = false → exec .containmentRelease s = .next s) ∧
    (present → s.epfContained = true → s.epfLinked = true → s.epf.aer = 0 → Ends .containmentRelease s (fun u => u.epfContained = false ∧
      u.fld regEpfStatus 15 12 = 0 ∧ u.epf.nextPoll = s.clause ∧ s.sameMachine u)) ∧
    (s.epf.late = [] → s.epf.reads = [r] → s.clause.toNat < r.since.toNat + 12500000 → exec .completionTimeout s = .next s) ∧
    (s.epf.late = [] → s.epf.reads = [r] → r.since.toNat + 12500000 ≤ s.clause.toNat → s.epfContained = false → Ends .completionTimeout s (fun u =>
      u.epfContained = true ∧ u.fld regEpfStatus 15 12 = 2 ∧ u.epf.aer = s.epf.aer ||| 0x4000 ∧ u.epf.reads = [] ∧ s.sameMachine u))

/-- R487, R518 to R522: inbound DMA by the assignment entry that the requester ID matches; device reads and their ends; containment of a
port and its release; assignment writes, refused where they concern a sealed realm; links that come up. A command whose condition does not
hold changes nothing (log entry 41). Messages are addressed as log entries 13 and 14 say. -/
def Obligations.RootPortTraffic : Prop :=
  ∀ (n : Fin 12) (i : Fin 64) (tag : BitVec 10) (rid : BitVec 16) (pa : BitVec 52) (data : List (BitVec 8)) (len : Fin 4097) (e : Nat)
    (st : Fin 3) (v : Word) (aer : BitVec 32) (width speed : BitVec 4) (origin : BitVec 16) (r : DevRead) (s : State),
    let realm := s.fld (regRpassign n.val e) 25 16
    let open' : Prop := s.rpDeaf n.val = false
    let out (u : State) (t : Tlp) : Prop := Tbl.get [] u.rpOut n.val = Tbl.get [] s.rpOut n.val ++ [t]
    let ur : Tlp := .completion tag.toNat len.val none
    let writes : Prop := open' ∧ data ≠ []
    let reads : Prop := open' ∧ len.val ≠ 0 ∧ ¬ (n = 0 ∧ s.servesHost = true)
    let fresh : Prop := s.inboundOf n.val = [] ∧ s.port (64 + n.val) = {}
    let own : Prop := s.rpEntry n.val rid = some e
    let answer (v : Word) : Msg := { type := .regAnswer, hdr := { r.hdr with src := r.hdr.dst, dst := r.hdr.src, stamp := s.clause }, body := .value v }
    let mine : Prop := s.devReads = [r] ∧ r.octet = n.val
    let linkUp (j : Instr) (reg : Nat) : Prop := Ends j s (fun u => u.fld reg 7 4 = width.toNat ∧ u.fld reg 3 0 = speed.toNat ∧ s.sameMachine u)
    (s.rpDeaf n.val = true → exec (.inboundDmaWrite n rid pa data) s = .next s ∧ exec (.inboundDmaRead n tag rid pa len) s = .next s) ∧
    (writes → s.rpEntry n.val rid = none → Ends (.inboundDmaWrite n rid pa data) s (fun u => u.sent = s.sent ∧ u.inbound = s.inbound ∧ s.sameMachine u)) ∧
    (writes → own → s.intPage pa.toNat = false → s.dmaBad realm pa.toNat data.length ≠ none → Ends (.inboundDmaWrite n rid pa data) s (fun u =>
      u.sent = s.sent ∧ u.inbound = s.inbound ∧ s.sameMachine u)) ∧
    (writes → own → s.intPage pa.toNat = false → s.dmaBad realm pa.toNat data.length = none → fresh → pa.toNat % 64 + data.length ≤ 64 →
      Ends (.inboundDmaWrite n rid pa data) s (fun u => s.sameMachine u ∧ ∃ m, u.sent = s.sent ++ [m] ∧ m.type = .wrP ∧
        m.hdr.addr = lineOf pa.toNat ∧ m.hdr.realm = BitVec.ofNat 10 realm ∧
        m.body = .bytes (putLine 0 (pa.toNat % 64) data.length (leNat data)) (byteMask (pa.toNat % 64) data.length))) ∧
    (writes → own → s.intPage pa.toNat = true → Ends (.inboundDmaWrite n rid pa data) s (fun u => s.sameMachine u ∧ u.inbound = s.inbound ∧
      ∃ m, u.sent = s.sent ++ [m] ∧ m.type = .interrupt ∧ m.hdr.realm = BitVec.ofNat 10 realm ∧
        m.body = .interrupt (BitVec.ofNat 16 (leNat data)) .device false)) ∧
    (reads → s.rpEntry n.val rid = none → Ends (.inboundDmaRead n tag rid pa len) s (fun u => out u ur ∧ u.sent = s.sent ∧ s.sameMachine u)) ∧
    (reads → own → s.dmaBad realm pa.toNat len.val ≠ none → Ends (.inboundDmaRead n tag rid pa len) s (fun u => out u ur ∧ u.sent = s.sent ∧
      s.sameMachine u)) ∧
    (reads → own → s.dmaBad realm pa.toNat len.val = none → fresh → pa.toNat % 64 + len.val ≤ 64 → Ends (.inboundDmaRead n tag rid pa len) s (fun u =>
      u.rpOut = s.rpOut ∧ u.inboundOf n.val = [{ tag := some tag.toNat, realm := realm, pa := pa.toNat, len := len.val, via := regRpassign n.val e }] ∧
      s.sameMachine u ∧ ∃ m, u.sent = s.sent ++ [m] ∧ m.type = .rdS ∧ m.hdr.addr = lineOf pa.toNat ∧ m.hdr.realm = BitVec.ofNat 10 realm)) ∧
    (s.devReads = [] → exec (.deviceReadCompletion n tag st v) s = .next s ∧ exec (.deviceReadTimeout n) s = .next s) ∧
    (mine → r.tag = tag.toNat → Ends (.deviceReadCompletion n tag st v) s (fun u => u.devReads = [] ∧ s.sameMachine u ∧
      u.sent = s.sent ++ [answer (if st = 0 then BitVec.ofNat 64 (v.toNat % 256 ^ r.len) else BitVec.allOnes 64)])) ∧
    (mine → r.since.toNat + 12500000 ≤ s.clause.toNat → Ends (.deviceReadTimeout n) s (fun u => u.devReads = [] ∧ s.sameMachine u ∧
      u.sent = s.sent ++ [answer (BitVec.allOnes 64)])) ∧
    (mine → s.clause.toNat < r.since.toNat + 12500000 → exec (.deviceReadTimeout n) s = .next s) ∧
    (s.isRoot n.val = false → exec (.rpContained n true aer) s = .next s ∧ exec (.rpRelease n) s = .next s ∧
      exec (.rpassignWrite n i v origin) s = .next s) ∧
    (s.isRoot n.val = true → s.rpContained n.val = false → mine → Ends (.rpContained n true aer) s (fun u => u.rpContained n.val = true ∧
      u.fld (regRpstatus n.val) 15 12 = 1 ∧ u.rpLinked n.val = false ∧ u.devReads = [] ∧ u.sent = s.sent ++ [answer (BitVec.allOnes 64)] ∧
      (∀ q ∈ u.inboundOf n.val, q.started = true) ∧ s.sameMachine u)) ∧
    (s.isRoot n.val = true → s.rpContained n.val = true → s.rpLinked n.val = true → s.mode ≠ modeHalt → Ends (.rpRelease n) s (fun u =>
      u.rpContained n.val = false ∧ u.fld (regRpstatus n.val) 15 12 = 0 ∧ u.fld (regRpctl n.val) 0 0 = 0 ∧ s.sameMachine u)) ∧
    (s.isRoot n.val = true → s.rpContained n.val = true → s.rpLinked n.val = false → s.mode ≠ modeHalt → Ends (.rpRelease n) s (fun u =>
      u.rpContained n.val = true ∧ u.fld (regRpctl n.val) 0 0 = 1 ∧ s.sameMachine u)) ∧
    (s.isRoot n.val = true → s.mode ≠ modeHalt → s.mapDue = [] → s.realmSealed (s.fld (regRpassign n.val i.val) 25 16) = false →
      s.realmSealed (bits v 25 16) = false → Ends (.rpassignWrite n i v origin) s (fun u =>
        u.mapDue = [(regRpassign n.val i.val, rpassignMask v, origin)] ∧ u.reg (regRpassign n.val i.val) = s.reg (regRpassign n.val i.val) ∧
        s.sameMachine u)) ∧
    (s.isRoot n.val = true → s.mode ≠ modeHalt → s.realmSealed (bits v 25 16) = true → Ends (.rpassignWrite n i v origin) s (fun u =>
      u.mapDue = s.mapDue ∧ u.reg (regRpassign n.val i.val) = s.reg (regRpassign n.val i.val) ∧ s.sameMachine u)) ∧
    (width = 0 ∨ s.mode < modeSense → exec (.pcieLinkUp n width speed) s = .next s) ∧
    (width ≠ 0 → speed ≠ 0 → modeSense ≤ s.mode → (n ≠ 0 ∨ s.servesHost = false) → s.isRoot n.val = true →
      linkUp (.pcieLinkUp n width speed) (regRpstatus n.val)) ∧
    (width ≠ 0 → speed ≠ 0 → modeSense ≤ s.mode → n = 0 → s.servesHost = true → s.fld (regOctCfg 0) 6 4 = 5 →
      linkUp (.pcieLinkUp n width speed) regEpfStatus)

/-! ## Power, start-up and Parasol -/

/-- R13, R559 (transitions 1 to 6), R560, R576, R677 to R684: what power and resets discard, and what they keep; SENSE entry latches the
straps; training, and the memory that its end initialises. A command whose condition does not hold changes nothing (log entry 41). What a
reset keeps beyond the rules is log entry 56, and a population mismatch log entry 57. -/
def Obligations.PowerAndStartup : Prop :=
  ∀ (mgr stby : Bool) (wires : List WireFault) (chans : List ChanTrain) (ports : List PortTrain) (s : State),
    let keeps (u : State) : Prop := u.pending = s.pending ∧ u.fuses = s.fuses ∧ u.dieFuses = s.dieFuses ∧ u.flash = s.flash
    let blank (u : State) : Prop := u.mem = [] ∧ u.threads = [] ∧ u.cores = [] ∧ u.homes = [] ∧ u.sent = [] ∧ u.ctxs = [] ∧ u.epf.reads = []
    let enters (u : State) (new trans : Nat) : Prop := u.mode = new ∧ u.fld regGlbMode 11 8 = s.mode ∧ u.fld regGlbMode 23 16 = trans ∧
      keeps u ∧ blank u
    let sense (u : State) (old : Nat) : Prop := u.mode = modeSense ∧ u.fld regGlbMode 11 8 = old ∧ u.fld regGlbMode 23 16 = 4 ∧ keeps u ∧ blank u ∧
      u.fld regGlbIdent 4 4 = b2n mgr ∧ u.fld regGlbIdent 5 5 = b2n (stby && !mgr) ∧ u.sense = .due ∧ u.selfRefresh = []
    let c := chans.getD 0 {}
    let trained (u : State) : Prop := s.entersMode u modeTrain 5 ∧ s.sameMachine u
    let top := (s.reg regDmcTop).toNat
    (s.mode ≠ modeOff → Ends (.vauxRise mgr stby) s (fun u => u = { s with vaux := true, mgrStrap := mgr, stbyStrap := stby })) ∧
    (s.mode = modeOff → s.pwrGood = false ∨ s.resetN = false → Ends (.vauxRise mgr stby) s (fun u => enters u modeStandby 1 ∧ u.vaux = true)) ∧
    (s.mode = modeOff → s.pwrGood = true → s.resetN = true → Ends (.vauxRise mgr stby) s (fun u => sense u modeStandby ∧ u.vaux = true)) ∧
    Ends .vauxLoss s (fun u => enters u modeOff 2 ∧ u.vaux = false ∧ u.clause = 0 ∧ u.log = {} ∧ u.selfRefresh = []) ∧
    (modeSense ≤ s.mode → Ends .pwrGoodFall s (fun u => enters u modeStandby 3 ∧ u.pwrGood = false ∧ u.events = [] ∧ u.thermtripN = false)) ∧
    (s.mode < modeSense → Ends .pwrGoodFall s (fun u => u.mode = s.mode ∧ u.pwrGood = false ∧ keeps u ∧ blank u ∧ u.log = {})) ∧
    (s.pwrGood = true → modeSense ≤ s.mode → Ends .resetNAssert s (fun u => enters u modeStandby 3 ∧ u.resetN = false ∧ u.pwrGood = true)) ∧
    (s.pwrGood = false ∨ s.mode < modeSense → exec .resetNAssert s = .next { s with resetN := false }) ∧
    (s.pwrGood = true → exec (.pwrGoodRise mgr stby) s = .next s) ∧
    (s.pwrGood = false → s.mode = modeStandby → s.resetN = true → Ends (.pwrGoodRise mgr stby) s (fun u => sense u modeStandby ∧
      u.pwrGood = true ∧ u.clause = 0 ∧ u.epf.wakeN = true)) ∧
    (s.pwrGood = false → s.mode = modeStandby → s.resetN = false → Ends (.pwrGoodRise mgr stby) s (fun u => u.mode = modeStandby ∧
      u.pwrGood = true ∧ u.regs = s.regs ∧ u.mem = s.mem ∧ u.epf.wakeN = true)) ∧
    (s.resetN = true → exec (.resetNRise mgr stby) s = .next s) ∧
    (s.resetN = false → s.pwrGood = true → s.mode = modeStandby → Ends (.resetNRise mgr stby) s (fun u => sense u modeStandby ∧ u.resetN = true)) ∧
    (s.resetN = false → s.pwrGood = false → exec (.resetNRise mgr stby) s = .next { s with resetN := true, mgrStrap := mgr, stbyStrap := stby }) ∧
    (s.mode ≠ modeSense ∨ s.counting = false ∨ s.sense = .failed → exec (.trainStart wires chans ports) s = .next s) ∧
    (s.mode = modeSense → s.counting = true → s.sense = .due → s.bootSlot = none → Ends (.trainStart wires chans ports) s (fun u =>
      u.mode = modeSense ∧ u.sense = .failed ∧ s.sameMachine u)) ∧
    (s.mode = modeSense → s.counting = true → s.sense = .passed → Ends (.trainStart wires chans ports) s trained) ∧
    (s.mode = modeSense → s.counting = true → s.sense = .passed → s.wantsFast = true → (∀ n, n < 16 → s.chanTrains true (chans.getD n {}) = true) →
      Ends (.trainStart wires chans ports) s (fun u => trained u ∧ u.reg regDmcTop = BitVec.ofNat 64 (16 * (c.dimms.toNat * 2 ^ (c.size.toNat + 35))) ∧
        ∀ n, n < 16 → u.fld (regDmcStatus n) 0 0 = 1 ∧ u.fld (regDmcStatus n) 3 2 = 2)) ∧
    (s.trained = false → exec .trainComplete s = .next s) ∧
    (s.trained = true → Ends .trainComplete s (fun u => s.entersMode u modeSealed 6 ∧ u.mem = [] ∧ u.threads = s.threads ∧ u.cores = s.cores ∧
      (∀ a, a < top / 64 → u.isWritten a = true) ∧ u.fld regGlbBoot 4 3 = 3 ∧ u.reg regDmcTop = s.reg regDmcTop ∧
      u.keyState 0 = (if s.keyState 0 = keyEmpty then keyActive else s.keyState 0)))

/-- R584 to R586, R588, R590 (the power sample), R592, R594 to R596: a sensor's reading, and its exclusion; alarms; the trip, which halts
the package without its dies; the clamp; a frequency change; what a quantum boundary records. A command whose condition does not hold
changes nothing (log entry 41). The readings of Parasol beyond the rules are those of log entry 73. -/
def Obligations.ParasolEvents : Prop :=
  ∀ (i : Fin 248) (v temp : BitVec 16) (amps : Nat) (k : Fin 60) (f : Nat) (p : BitVec 16) (dies : List Nat) (rs : List (Fin 248 × BitVec 16)) (s : State),
    let x := s.sensor i.val
    let r := reading v
    let hot : Option Int := match x.hot with
      | some h => if h < r then some r else some h
      | none => some r
    let new : Prop := x.run = 0 ∨ x.last ≠ r
    let cluster := i.val / 4
    let past : Nat := if s.fld regThmCap 9 0 < p.toNat ∨ s.fld regThmStatus 5 5 = 1 then s.parasol.past + 1 else 0
    let calm : Prop := s.parasol.alarms = [] ∧ i.val < 240 ∧ x.excluded = false
    (s.mode ≤ modeStandby → exec (.sensorSample rs) s = .next s ∧ exec (.thermalAlarm i temp) s = .next s ∧ exec (.thermalTrip i temp) s = .next s ∧
      exec (.powerClamp amps) s = .next s) ∧
    (s.mode ≤ modeStandby ∨ s.mode = modeHalt → exec (.quantumBoundary p dies) s = .next s) ∧
    (modeStandby < s.mode → x.excluded = false → -40 ≤ r → r ≤ 150 → new → Ends (.sensorSample [(i, v)]) s (fun u =>
      u.sensor i.val = { last := r, run := 1, moved := false, excluded := false, hot := hot } ∧ s.sameMachine u)) ∧
    (modeStandby < s.mode → x.excluded = false → r < -40 ∨ 150 < r → Ends (.sensorSample [(i, v)]) s (fun u =>
      (u.sensor i.val).excluded = true ∧ (u.sensor i.val).hot = x.hot ∧ u.parasol.alarms = s.parasol.alarms ∧ s.sameMachine u)) ∧
    (modeStandby < s.mode → x.excluded = true → Ends (.sensorSample [(i, v)]) s (fun u => u.sensor i.val = x ∧ s.sameMachine u)) ∧
    (modeStandby < s.mode → calm → s.parasol.temp ≤ reading temp → Ends (.thermalAlarm i temp) s (fun u => u.alarmed cluster = true ∧
      u.fld (regThmCluster cluster) 22 22 = 1 ∧ u.fld regThmStatus 4 4 = 1 ∧ u.alertN = true ∧ s.sameMachine u)) ∧
    (modeStandby < s.mode → calm → reading temp < s.parasol.temp → Ends (.thermalAlarm i temp) s (fun u => u.parasol.alarms = [] ∧
      u.fld regThmStatus 4 4 = s.fld regThmStatus 4 4 ∧ u.alertN = s.alertN ∧ s.sameMachine u)) ∧
    (s.live → Ends (.thermalTrip i temp) s (fun u => s.entersMode u modeHalt 18 ∧ u.thermtripN = true ∧ u.alertN = true ∧ u.fld regThmStatus 7 7 = 1 ∧
      u.threads = [] ∧ u.cores = [] ∧ u.homes = [] ∧ u.mem = s.mem)) ∧
    (s.mode = modeHalt → Ends (.thermalTrip i temp) s (fun u => u.mode = modeHalt ∧ u.thermtripN = true ∧ u.fld regThmStatus 7 7 = 1 ∧ s.sameMachine u)) ∧
    (amps < 500 → exec (.powerClamp amps) s = .next s) ∧
    (500 ≤ amps → modeStandby < s.mode → Ends (.powerClamp amps) s (fun u => u.fld regThmStatus 5 5 = 1 ∧ u.parasol.clampRec = true ∧ s.sameMachine u)) ∧
    (Tbl.find s.parasol.target k.val = none → exec (.frequencyChangeDone k) s = .next s) ∧
    (Tbl.find s.parasol.target k.val = some f → f < 256 → Ends (.frequencyChangeDone k) s (fun u => u.freq k.val = f ∧
      u.fld (regThmCluster k.val) 15 8 = voltOf f % 256 ∧ u.parasol.target = Tbl.erase s.parasol.target k.val ∧ s.sameMachine u)) ∧
    (s.live → s.realms.hold = none → Ends (.quantumBoundary p dies) s (fun u => u.fld regThmStatus 63 48 = p.toNat ∧ u.fld regThmStatus 5 5 = 0 ∧
      (u.reg regThmEnergy).toNat = min (2 ^ 64 - 1) ((s.reg regThmEnergy).toNat + p.toNat) ∧ u.parasol.past = past ∧ u.parasol.lastP = p.toNat ∧
      u.parasol.clampRec = false ∧ u.fld regThmStatus 6 6 = b2n s.anySealed ∧ u.fld regThmStatus 4 4 = b2n (!u.parasol.alarms.isEmpty) ∧ u.mem = s.mem))
end

