-- ==== Sys2Proof/Laws/Dispatch.lean ====
section
/-! SUPPORT. Which meaning each command runs: the arms of `exec`, one lemma each. -/
set_option Elab.async false
namespace Sys2Proof.Machine
open Sys2Proof

@[simp] theorem exec_clauseClockLock (s : State) : exec (.clauseClockLock) s = execClauseClockLock s := rfl
@[simp] theorem exec_clauseLockLoss (s : State) : exec (.clauseLockLoss) s = execClauseLockLoss s := rfl
@[simp] theorem exec_syncReq (src : Pkg) (xid : BitVec 12) (retx : Bool) (turn : BitVec 16) (s : State) : exec (.syncReq src xid retx turn) s = execSyncReq src xid retx turn s := rfl
@[simp] theorem exec_syncRsp (xid : BitVec 12) (retx : Bool) (tm : Nat) (turn : BitVec 16) (s : State) : exec (.syncRsp xid retx tm turn) s = execSyncRsp xid retx tm turn s := rfl
@[simp] theorem exec_epoch (value : Word) (s : State) : exec (.epoch value) s = execEpoch value s := rfl
@[simp] theorem exec_driftCorrection (xs : List Exchange) (s : State) : exec (.driftCorrection xs) s = execDriftCorrection xs s := rfl
@[simp] theorem exec_clauseRealign (p : Pkg) (offset : BitVec 16) (s : State) : exec (.clauseRealign p offset) s = execClauseRealign p offset s := rfl
@[simp] theorem exec_clauseResolution (s : State) : exec (.clauseResolution) s = execClauseResolution s := rfl
@[simp] theorem exec_addi (t : ThreadPos) (rd : BitVec 5) (ra : BitVec 5) (imm : BitVec 16) (s : State) : exec (.addi t rd ra imm) s = execAddi t rd ra imm s := rfl
@[simp] theorem exec_andi (t : ThreadPos) (rd : BitVec 5) (ra : BitVec 5) (imm : BitVec 16) (s : State) : exec (.andi t rd ra imm) s = execAndi t rd ra imm s := rfl
@[simp] theorem exec_ori (t : ThreadPos) (rd : BitVec 5) (ra : BitVec 5) (imm : BitVec 16) (s : State) : exec (.ori t rd ra imm) s = execOri t rd ra imm s := rfl
@[simp] theorem exec_xori (t : ThreadPos) (rd : BitVec 5) (ra : BitVec 5) (imm : BitVec 16) (s : State) : exec (.xori t rd ra imm) s = execXori t rd ra imm s := rfl
@[simp] theorem exec_slti (t : ThreadPos) (rd : BitVec 5) (ra : BitVec 5) (imm : BitVec 16) (s : State) : exec (.slti t rd ra imm) s = execSlti t rd ra imm s := rfl
@[simp] theorem exec_sltiu (t : ThreadPos) (rd : BitVec 5) (ra : BitVec 5) (imm : BitVec 16) (s : State) : exec (.sltiu t rd ra imm) s = execSltiu t rd ra imm s := rfl
@[simp] theorem exec_lui (t : ThreadPos) (rd : BitVec 5) (imm : BitVec 16) (s : State) : exec (.lui t rd imm) s = execLui t rd imm s := rfl
@[simp] theorem exec_addis (t : ThreadPos) (rd : BitVec 5) (ra : BitVec 5) (imm : BitVec 16) (s : State) : exec (.addis t rd ra imm) s = execAddis t rd ra imm s := rfl
@[simp] theorem exec_alu (t : ThreadPos) (fn : BitVec 6) (rc : BitVec 5) (rb : BitVec 5) (ra : BitVec 5) (rd : BitVec 5) (s : State) : exec (.alu t fn rc rb ra rd) s = execAlu t fn rc rb ra rd s := rfl
@[simp] theorem exec_muldiv (t : ThreadPos) (fn : BitVec 6) (rc : BitVec 5) (rb : BitVec 5) (ra : BitVec 5) (rd : BitVec 5) (s : State) : exec (.muldiv t fn rc rb ra rd) s = execMuldiv t fn rc rb ra rd s := rfl
@[simp] theorem exec_shift (t : ThreadPos) (fn : BitVec 6) (rc : BitVec 5) (rb : BitVec 5) (ra : BitVec 5) (rd : BitVec 5) (s : State) : exec (.shift t fn rc rb ra rd) s = execShift t fn rc rb ra rd s := rfl
@[simp] theorem exec_beq (t : ThreadPos) (a : Bool) (ra : BitVec 5) (rb : BitVec 5) (disp : BitVec 15) (s : State) : exec (.beq t a ra rb disp) s = execBeq t a ra rb disp s := rfl
@[simp] theorem exec_bne (t : ThreadPos) (a : Bool) (ra : BitVec 5) (rb : BitVec 5) (disp : BitVec 15) (s : State) : exec (.bne t a ra rb disp) s = execBne t a ra rb disp s := rfl
@[simp] theorem exec_blt (t : ThreadPos) (a : Bool) (ra : BitVec 5) (rb : BitVec 5) (disp : BitVec 15) (s : State) : exec (.blt t a ra rb disp) s = execBlt t a ra rb disp s := rfl
@[simp] theorem exec_bge (t : ThreadPos) (a : Bool) (ra : BitVec 5) (rb : BitVec 5) (disp : BitVec 15) (s : State) : exec (.bge t a ra rb disp) s = execBge t a ra rb disp s := rfl
@[simp] theorem exec_bltu (t : ThreadPos) (a : Bool) (ra : BitVec 5) (rb : BitVec 5) (disp : BitVec 15) (s : State) : exec (.bltu t a ra rb disp) s = execBltu t a ra rb disp s := rfl
@[simp] theorem exec_bgeu (t : ThreadPos) (a : Bool) (ra : BitVec 5) (rb : BitVec 5) (disp : BitVec 15) (s : State) : exec (.bgeu t a ra rb disp) s = execBgeu t a ra rb disp s := rfl
@[simp] theorem exec_j (t : ThreadPos) (a : Bool) (disp : BitVec 25) (s : State) : exec (.j t a disp) s = execJ t a disp s := rfl
@[simp] theorem exec_jal (t : ThreadPos) (a : Bool) (disp : BitVec 25) (s : State) : exec (.jal t a disp) s = execJal t a disp s := rfl
@[simp] theorem exec_jalr (t : ThreadPos) (a : Bool) (rd : BitVec 5) (ra : BitVec 5) (s : State) : exec (.jalr t a rd ra) s = execJalr t a rd ra s := rfl
@[simp] theorem exec_load (t : ThreadPos) (op : LoadOp) (rd : BitVec 5) (ra : BitVec 5) (imm : BitVec 16) (s : State) : exec (.load t op rd ra imm) s = execLoad t op rd ra imm s := rfl
@[simp] theorem exec_store (t : ThreadPos) (op : StoreOp) (rs : BitVec 5) (ra : BitVec 5) (imm : BitVec 16) (s : State) : exec (.store t op rs ra imm) s = execStore t op rs ra imm s := rfl
@[simp] theorem exec_loadIndexed (t : ThreadPos) (op : LoadOp) (rd : BitVec 5) (ra : BitVec 5) (rb : BitVec 5) (s : State) : exec (.loadIndexed t op rd ra rb) s = execLoadIndexed t op rd ra rb s := rfl
@[simp] theorem exec_storeIndexed (t : ThreadPos) (op : StoreOp) (rc : BitVec 5) (ra : BitVec 5) (rb : BitVec 5) (s : State) : exec (.storeIndexed t op rc ra rb) s = execStoreIndexed t op rc ra rb s := rfl
@[simp] theorem exec_law (t : ThreadPos) (rd : BitVec 5) (ra : BitVec 5) (s : State) : exec (.law t rd ra) s = execLaw t rd ra s := rfl
@[simp] theorem exec_lad (t : ThreadPos) (rd : BitVec 5) (ra : BitVec 5) (s : State) : exec (.lad t rd ra) s = execLad t rd ra s := rfl
@[simp] theorem exec_srw (t : ThreadPos) (ra : BitVec 5) (rb : BitVec 5) (s : State) : exec (.srw t ra rb) s = execSrw t ra rb s := rfl
@[simp] theorem exec_srd (t : ThreadPos) (ra : BitVec 5) (rb : BitVec 5) (s : State) : exec (.srd t ra rb) s = execSrd t ra rb s := rfl
@[simp] theorem exec_pref (t : ThreadPos) (write : Bool) (ra : BitVec 5) (rb : BitVec 5) (s : State) : exec (.pref t write ra rb) s = execPref t write ra rb s := rfl
@[simp] theorem exec_aadd (t : ThreadPos) (wide : Bool) (ord : BitVec 2) (rd : BitVec 5) (ra : BitVec 5) (rb : BitVec 5) (s : State) : exec (.aadd t wide ord rd ra rb) s = execAadd t wide ord rd ra rb s := rfl
@[simp] theorem exec_aand (t : ThreadPos) (wide : Bool) (ord : BitVec 2) (rd : BitVec 5) (ra : BitVec 5) (rb : BitVec 5) (s : State) : exec (.aand t wide ord rd ra rb) s = execAand t wide ord rd ra rb s := rfl
@[simp] theorem exec_aor (t : ThreadPos) (wide : Bool) (ord : BitVec 2) (rd : BitVec 5) (ra : BitVec 5) (rb : BitVec 5) (s : State) : exec (.aor t wide ord rd ra rb) s = execAor t wide ord rd ra rb s := rfl
@[simp] theorem exec_axor (t : ThreadPos) (wide : Bool) (ord : BitVec 2) (rd : BitVec 5) (ra : BitVec 5) (rb : BitVec 5) (s : State) : exec (.axor t wide ord rd ra rb) s = execAxor t wide ord rd ra rb s := rfl
@[simp] theorem exec_aswap (t : ThreadPos) (wide : Bool) (ord : BitVec 2) (rd : BitVec 5) (ra : BitVec 5) (rb : BitVec 5) (s : State) : exec (.aswap t wide ord rd ra rb) s = execAswap t wide ord rd ra rb s := rfl
@[simp] theorem exec_amin (t : ThreadPos) (wide : Bool) (ord : BitVec 2) (rd : BitVec 5) (ra : BitVec 5) (rb : BitVec 5) (s : State) : exec (.amin t wide ord rd ra rb) s = execAmin t wide ord rd ra rb s := rfl
@[simp] theorem exec_amax (t : ThreadPos) (wide : Bool) (ord : BitVec 2) (rd : BitVec 5) (ra : BitVec 5) (rb : BitVec 5) (s : State) : exec (.amax t wide ord rd ra rb) s = execAmax t wide ord rd ra rb s := rfl
@[simp] theorem exec_acas (t : ThreadPos) (wide : Bool) (ord : BitVec 2) (rd : BitVec 5) (ra : BitVec 5) (rb : BitVec 5) (rc : BitVec 5) (s : State) : exec (.acas t wide ord rd ra rb rc) s = execAcas t wide ord rd ra rb rc s := rfl
@[simp] theorem exec_vint (t : ThreadPos) (fn : BitVec 6) (esz : BitVec 2) (k : BitVec 3) (vb : BitVec 5) (va : BitVec 5) (vd : BitVec 5) (s : State) : exec (.vint t fn esz k vb va vd) s = execVint t fn esz k vb va vd s := rfl
@[simp] theorem exec_vfp (t : ThreadPos) (fn : BitVec 6) (esz : BitVec 2) (k : BitVec 3) (vb : BitVec 5) (va : BitVec 5) (vd : BitVec 5) (s : State) : exec (.vfp t fn esz k vb va vd) s = execVfp t fn esz k vb va vd s := rfl
@[simp] theorem exec_vmem (t : ThreadPos) (fn : BitVec 6) (esz : BitVec 2) (k : BitVec 3) (vb : BitVec 5) (va : BitVec 5) (vd : BitVec 5) (s : State) : exec (.vmem t fn esz k vb va vd) s = execVmem t fn esz k vb va vd s := rfl
@[simp] theorem exec_vmask (t : ThreadPos) (fn : BitVec 6) (esz : BitVec 2) (k : BitVec 3) (vb : BitVec 5) (va : BitVec 5) (vd : BitVec 5) (s : State) : exec (.vmask t fn esz k vb va vd) s = execVmask t fn esz k vb va vd s := rfl
@[simp] theorem exec_syscall (t : ThreadPos) (s : State) : exec (.syscall t) s = execSyscall t s := rfl
@[simp] theorem exec_hcall (t : ThreadPos) (s : State) : exec (.hcall t) s = execHcall t s := rfl
@[simp] theorem exec_rte (t : ThreadPos) (s : State) : exec (.rte t) s = execRte t s := rfl
@[simp] theorem exec_brk (t : ThreadPos) (s : State) : exec (.brk t) s = execBrk t s := rfl
@[simp] theorem exec_wfi (t : ThreadPos) (s : State) : exec (.wfi t) s = execWfi t s := rfl
@[simp] theorem exec_renter (t : ThreadPos) (ra : BitVec 5) (s : State) : exec (.renter t ra) s = execRenter t ra s := rfl
@[simp] theorem exec_tlbi (t : ThreadPos) (ra : BitVec 5) (rd : BitVec 5) (s : State) : exec (.tlbi t ra rd) s = execTlbi t ra rd s := rfl
@[simp] theorem exec_syncT (t : ThreadPos) (s : State) : exec (.syncT t) s = execSyncT t s := rfl
@[simp] theorem exec_isync (t : ThreadPos) (s : State) : exec (.isync t) s = execIsync t s := rfl
@[simp] theorem exec_clk (t : ThreadPos) (rd : BitVec 5) (s : State) : exec (.clk t rd) s = execClk t rd s := rfl
@[simp] theorem exec_pcrd (t : ThreadPos) (rd : BitVec 5) (n : BitVec 5) (s : State) : exec (.pcrd t rd n) s = execPcrd t rd n s := rfl
@[simp] theorem exec_rsync (t : ThreadPos) (s : State) : exec (.rsync t) s = execRsync t s := rfl
@[simp] theorem exec_rsclr (t : ThreadPos) (s : State) : exec (.rsclr t) s = execRsclr t s := rfl
@[simp] theorem exec_waitd (t : ThreadPos) (rd : BitVec 5) (ra : BitVec 5) (s : State) : exec (.waitd t rd ra) s = execWaitd t rd ra s := rfl
@[simp] theorem exec_waitdTimeout (t : ThreadPos) (s : State) : exec (.waitdTimeout t) s = execWaitdTimeout t s := rfl
@[simp] theorem exec_fence (t : ThreadPos) (mask : BitVec 4) (s : State) : exec (.fence t mask) s = execFence t mask s := rfl
@[simp] theorem exec_mfc (t : ThreadPos) (rd : BitVec 5) (n : BitVec 13) (s : State) : exec (.mfc t rd n) s = execMfc t rd n s := rfl
@[simp] theorem exec_mtc (t : ThreadPos) (ra : BitVec 5) (n : BitVec 13) (s : State) : exec (.mtc t ra n) s = execMtc t ra n s := rfl
@[simp] theorem exec_cleanVa (t : ThreadPos) (ra : BitVec 5) (s : State) : exec (.cleanVa t ra) s = execCleanVa t ra s := rfl
@[simp] theorem exec_invVa (t : ThreadPos) (ra : BitVec 5) (s : State) : exec (.invVa t ra) s = execInvVa t ra s := rfl
@[simp] theorem exec_clinvVa (t : ThreadPos) (ra : BitVec 5) (s : State) : exec (.clinvVa t ra) s = execClinvVa t ra s := rfl
@[simp] theorem exec_zeroVa (t : ThreadPos) (ra : BitVec 5) (s : State) : exec (.zeroVa t ra) s = execZeroVa t ra s := rfl
@[simp] theorem exec_invL1i (t : ThreadPos) (ra : BitVec 5) (s : State) : exec (.invL1i t ra) s = execInvL1i t ra s := rfl
@[simp] theorem exec_cleanSw2 (t : ThreadPos) (ra : BitVec 5) (s : State) : exec (.cleanSw2 t ra) s = execCleanSw2 t ra s := rfl
@[simp] theorem exec_invSw2 (t : ThreadPos) (ra : BitVec 5) (s : State) : exec (.invSw2 t ra) s = execInvSw2 t ra s := rfl
@[simp] theorem exec_clinvSw2 (t : ThreadPos) (ra : BitVec 5) (s : State) : exec (.clinvSw2 t ra) s = execClinvSw2 t ra s := rfl
@[simp] theorem exec_cleanSw3 (t : ThreadPos) (ra : BitVec 5) (s : State) : exec (.cleanSw3 t ra) s = execCleanSw3 t ra s := rfl
@[simp] theorem exec_invSw3 (t : ThreadPos) (ra : BitVec 5) (s : State) : exec (.invSw3 t ra) s = execInvSw3 t ra s := rfl
@[simp] theorem exec_clinvSw3 (t : ThreadPos) (ra : BitVec 5) (s : State) : exec (.clinvSw3 t ra) s = execClinvSw3 t ra s := rfl
@[simp] theorem exec_interrupt (t : ThreadPos) (cls : IntClass) (realm : Realm) (atS : Bool) (s : State) : exec (.interrupt t cls realm atS) s = execInterrupt t cls realm atS s := rfl
@[simp] theorem exec_timerCompare (t : ThreadPos) (h : Bool) (s : State) : exec (.timerCompare t h) s = execTimerCompare t h s := rfl
@[simp] theorem exec_predctlFlush (t : ThreadPos) (s : State) : exec (.predctlFlush t) s = execPredctlFlush t s := rfl
@[simp] theorem exec_predictorFlushDone (c : CorePos) (s : State) : exec (.predictorFlushDone c) s = execPredictorFlushDone c s := rfl
@[simp] theorem exec_residueRetry (t : ThreadPos) (unit : Fin 8) (again : Bool) (s : State) : exec (.residueRetry t unit again) s = execResidueRetry t unit again s := rfl
@[simp] theorem exec_mbDrain (c : CorePos) (s : State) : exec (.mbDrain c) s = execMbDrain c s := rfl
@[simp] theorem exec_evictionIssue (c : CorePos) (s : State) : exec (.evictionIssue c) s = execEvictionIssue c s := rfl
@[simp] theorem exec_l2Scrub (c : CorePos) (s : State) : exec (.l2Scrub c) s = execL2Scrub c s := rfl
@[simp] theorem exec_l3Scrub (d : DiePos) (slice : Fin 16) (s : State) : exec (.l3Scrub d slice) s = execL3Scrub d slice s := rfl
@[simp] theorem exec_l2Disable (c : CorePos) (s : State) : exec (.l2Disable c) s = execL2Disable c s := rfl
@[simp] theorem exec_l2Enable (c : CorePos) (s : State) : exec (.l2Enable c) s = execL2Enable c s := rfl
@[simp] theorem exec_l2FlushDone (c : CorePos) (s : State) : exec (.l2FlushDone c) s = execL2FlushDone c s := rfl
@[simp] theorem exec_l3Disable (d : DiePos) (s : State) : exec (.l3Disable d) s = execL3Disable d s := rfl
@[simp] theorem exec_l3Enable (d : DiePos) (s : State) : exec (.l3Enable d) s = execL3Enable d s := rfl
@[simp] theorem exec_l3FlushDone (d : DiePos) (s : State) : exec (.l3FlushDone d) s = execL3FlushDone d s := rfl
@[simp] theorem exec_adUpdate (t : ThreadPos) (s : State) : exec (.adUpdate t) s = execAdUpdate t s := rfl
@[simp] theorem exec_transTlbiTimeout (t : ThreadPos) (seq : BitVec 16) (s : State) : exec (.transTlbiTimeout t seq) s = execTransTlbiTimeout t seq s := rfl
@[simp] theorem exec_rds (h : Hdr) (s : State) : exec (.rds h) s = execRds h s := rfl
@[simp] theorem exec_rdx (h : Hdr) (s : State) : exec (.rdx h) s = execRdx h s := rfl
@[simp] theorem exec_upg (h : Hdr) (s : State) : exec (.upg h) s = execUpg h s := rfl
@[simp] theorem exec_rdz (h : Hdr) (s : State) : exec (.rdz h) s = execRdz h s := rfl
@[simp] theorem exec_wbm (h : Hdr) (line : Line) (s : State) : exec (.wbm h line) s = execWbm h line s := rfl
@[simp] theorem exec_evn (h : Hdr) (s : State) : exec (.evn h) s = execEvn h s := rfl
@[simp] theorem exec_atom (h : Hdr) (args : AtomArgs) (s : State) : exec (.atom h args) s = execAtom h args s := rfl
@[simp] theorem exec_cmo (h : Hdr) (clinv : Bool) (s : State) : exec (.cmo h clinv) s = execCmo h clinv s := rfl
@[simp] theorem exec_wrp (h : Hdr) (bytes : Line) (mask : BitVec 64) (s : State) : exec (.wrp h bytes mask) s = execWrp h bytes mask s := rfl
@[simp] theorem exec_ucrd (h : Hdr) (off : BitVec 6) (size : Nat) (s : State) : exec (.ucrd h off size) s = execUcrd h off size s := rfl
@[simp] theorem exec_ucwr (h : Hdr) (bytes : Line) (mask : BitVec 64) (s : State) : exec (.ucwr h bytes mask) s = execUcwr h bytes mask s := rfl
@[simp] theorem exec_ucatom (h : Hdr) (args : AtomArgs) (s : State) : exec (.ucatom h args) s = execUcatom h args s := rfl
@[simp] theorem exec_ownchk (h : Hdr) (s : State) : exec (.ownchk h) s = execOwnchk h s := rfl
@[simp] theorem exec_snps (h : Hdr) (s : State) : exec (.snps h) s = execSnps h s := rfl
@[simp] theorem exec_snpx (h : Hdr) (s : State) : exec (.snpx h) s = execSnpx h s := rfl
@[simp] theorem exec_snpi (h : Hdr) (s : State) : exec (.snpi h) s = execSnpi h s := rfl
@[simp] theorem exec_snph (h : Hdr) (s : State) : exec (.snph h) s = execSnph h s := rfl
@[simp] theorem exec_snpc (h : Hdr) (s : State) : exec (.snpc h) s = execSnpc h s := rfl
@[simp] theorem exec_rdsub (h : Hdr) (s : State) : exec (.rdsub h) s = execRdsub h s := rfl
@[simp] theorem exec_data (h : Hdr) (line : Line) (e : MeshError) (s : State) : exec (.data h line e) s = execData h line e s := rfl
@[simp] theorem exec_datasub (h : Hdr) (line : Line) (s : State) : exec (.datasub h line) s = execDatasub h line s := rfl
@[simp] theorem exec_cmp (h : Hdr) (s : State) : exec (.cmp h) s = execCmp h s := rfl
@[simp] theorem exec_cmpack (h : Hdr) (s : State) : exec (.cmpack h) s = execCmpack h s := rfl
@[simp] theorem exec_refute (h : Hdr) (s : State) : exec (.refute h) s = execRefute h s := rfl
@[simp] theorem exec_fwdack (h : Hdr) (st : CState) (s : State) : exec (.fwdack h st) s = execFwdack h st s := rfl
@[simp] theorem exec_snpack (h : Hdr) (s : State) : exec (.snpack h) s = execSnpack h s := rfl
@[simp] theorem exec_snpnone (h : Hdr) (s : State) : exec (.snpnone h) s = execSnpnone h s := rfl
@[simp] theorem exec_snpdata (h : Hdr) (line : Line) (s : State) : exec (.snpdata h line) s = execSnpdata h line s := rfl
@[simp] theorem exec_subfwd (h : Hdr) (st : CState) (s : State) : exec (.subfwd h st) s = execSubfwd h st s := rfl
@[simp] theorem exec_subdone (h : Hdr) (apply : Bool) (s : State) : exec (.subdone h apply) s = execSubdone h apply s := rfl
@[simp] theorem exec_wback (h : Hdr) (s : State) : exec (.wback h) s = execWback h s := rfl
@[simp] theorem exec_atomrsp (h : Hdr) (value : Word) (s : State) : exec (.atomrsp h value) s = execAtomrsp h value s := rfl
@[simp] theorem exec_ucrsp (h : Hdr) (value : Word) (s : State) : exec (.ucrsp h value) s = execUcrsp h value s := rfl
@[simp] theorem exec_ownrsp (h : Hdr) (ok : Bool) (s : State) : exec (.ownrsp h ok) s = execOwnrsp h ok s := rfl
@[simp] theorem exec_credit (h : Hdr) (pool : Bool) (count : Nat) (s : State) : exec (.credit h pool count) s = execCredit h pool count s := rfl
@[simp] theorem exec_tlbiMessage (h : Hdr) (args : TlbiArgs) (s : State) : exec (.tlbiMessage h args) s = execTlbiMessage h args s := rfl
@[simp] theorem exec_tlbidone (h : Hdr) (args : TlbiArgs) (s : State) : exec (.tlbidone h args) s = execTlbidone h args s := rfl
@[simp] theorem exec_tlbiack (h : Hdr) (args : TlbiArgs) (s : State) : exec (.tlbiack h args) s = execTlbiack h args s := rfl
@[simp] theorem exec_jrnwr (h : Hdr) (record : BitVec 256) (s : State) : exec (.jrnwr h record) s = execJrnwr h record s := rfl
@[simp] theorem exec_settlePointReached (n : Chan) (line : LineAddr) (s : State) : exec (.settlePointReached n line) s = execSettlePointReached n line s := rfl
@[simp] theorem exec_leadPointReached (n : Chan) (line : LineAddr) (s : State) : exec (.leadPointReached n line) s = execLeadPointReached n line s := rfl
@[simp] theorem exec_memoryReadDone (n : Chan) (line : LineAddr) (o : ReadOutcome) (s : State) : exec (.memoryReadDone n line o) s = execMemoryReadDone n line o s := rfl
@[simp] theorem exec_cohTimeout (n : Chan) (line : LineAddr) (s : State) : exec (.cohTimeout n line) s = execCohTimeout n line s := rfl
@[simp] theorem exec_directoryLookupDone (n : Chan) (line : LineAddr) (o : DirOutcome) (s : State) : exec (.directoryLookupDone n line o) s = execDirectoryLookupDone n line o s := rfl
@[simp] theorem exec_ageClock (s : State) : exec (.ageClock) s = execAgeClock s := rfl
@[simp] theorem exec_dirScrub (p : Fin 8) (o : DirOutcome) (s : State) : exec (.dirScrub p o) s = execDirScrub p o s := rfl
@[simp] theorem exec_dirPortLost (p : Fin 8) (s : State) : exec (.dirPortLost p) s = execDirPortLost p s := rfl
@[simp] theorem exec_reshapeMigrate (o : DirOutcome) (s : State) : exec (.reshapeMigrate o) s = execReshapeMigrate o s := rfl
@[simp] theorem exec_dataFlit (n : Octet) (f : Flit) (s : State) : exec (.dataFlit n f) s = execDataFlit n f s := rfl
@[simp] theorem exec_idleFlit (n : Octet) (f : Flit) (s : State) : exec (.idleFlit n f) s = execIdleFlit n f s := rfl
@[simp] theorem exec_nakFlit (n : Octet) (f : Flit) (s : State) : exec (.nakFlit n f) s = execNakFlit n f s := rfl
@[simp] theorem exec_widthControlFlit (n : Octet) (f : Flit) (mask : BitVec 8) (proposal : BitVec 2) (confirm : Bool) (s : State) :
    exec (.widthControlFlit n f mask proposal confirm) s = execWidthControlFlit n f mask proposal confirm s := rfl
@[simp] theorem exec_trainingMarker (n : Octet) (mask : BitVec 8) (s : State) : exec (.trainingMarker n mask) s = execTrainingMarker n mask s := rfl
@[simp] theorem exec_replayTimeout (n : Octet) (s : State) : exec (.replayTimeout n) s = execReplayTimeout n s := rfl
@[simp] theorem exec_fecLockLoss (n : Octet) (s : State) : exec (.fecLockLoss n) s = execFecLockLoss n s := rfl
@[simp] theorem exec_laneLimit (n : Octet) (lane : Fin 8) (s : State) : exec (.laneLimit n lane) s = execLaneLimit n lane s := rfl
@[simp] theorem exec_trlRetrain (n : Octet) (s : State) : exec (.trlRetrain n) s = execTrlRetrain n s := rfl
@[simp] theorem exec_partialResetDone (n : Octet) (good : BitVec 8) (s : State) : exec (.partialResetDone n good) s = execPartialResetDone n good s := rfl
@[simp] theorem exec_widthConfirmTimeout (n : Octet) (s : State) : exec (.widthConfirmTimeout n) s = execWidthConfirmTimeout n s := rfl
@[simp] theorem exec_fullRetrainDone (n : Octet) (ok : Bool) (good : BitVec 8) (far : BitVec 8) (s : State) : exec (.fullRetrainDone n ok good far) s = execFullRetrainDone n ok good far s := rfl
@[simp] theorem exec_linkTrainingDone (n : Octet) (good : BitVec 8) (far : BitVec 8) (serial : Word) (octet : Octet) (s : State) : exec (.linkTrainingDone n good far serial octet) s = execLinkTrainingDone n good far serial octet s := rfl
@[simp] theorem exec_linkTrainingTimeout (n : Octet) (s : State) : exec (.linkTrainingTimeout n) s = execLinkTrainingTimeout n s := rfl
@[simp] theorem exec_linkDown (n : Octet) (s : State) : exec (.linkDown n) s = execLinkDown n s := rfl
@[simp] theorem exec_discover (manager : Word) (s : State) : exec (.discover manager) s = execDiscover manager s := rfl
@[simp] theorem exec_ident (i : Ident) (s : State) : exec (.ident i) s = execIdent i s := rfl
@[simp] theorem exec_discoveryEnd (s : State) : exec (.discoveryEnd) s = execDiscoveryEnd s := rfl
@[simp] theorem exec_assign (a : Assign) (s : State) : exec (.assign a) s = execAssign a s := rfl
@[simp] theorem exec_routeWrite (gen : BitVec 16) (routes : List Word) (s : State) : exec (.routeWrite gen routes) s = execRouteWrite gen routes s := rfl
@[simp] theorem exec_routeHold (s : State) : exec (.routeHold) s = execRouteHold s := rfl
@[simp] theorem exec_holdDone (src : Pkg) (s : State) : exec (.holdDone src) s = execHoldDone src s := rfl
@[simp] theorem exec_routeSwitch (s : State) : exec (.routeSwitch) s = execRouteSwitch s := rfl
@[simp] theorem exec_routeChangeTimeout (s : State) : exec (.routeChangeTimeout) s = execRouteChangeTimeout s := rfl
@[simp] theorem exec_regime (value : BitVec 2) (s : State) : exec (.regime value) s = execRegime value s := rfl
@[simp] theorem exec_heartbeatPeriod (s : State) : exec (.heartbeatPeriod) s = execHeartbeatPeriod s := rfl
@[simp] theorem exec_heartbeat (src : Pkg) (s : State) : exec (.heartbeat src) s = execHeartbeat src s := rfl
@[simp] theorem exec_standbySilenceLimit (s : State) : exec (.standbySilenceLimit) s = execStandbySilenceLimit s := rfl
@[simp] theorem exec_heardReq (src : Pkg) (s : State) : exec (.heardReq src) s = execHeardReq src s := rfl
@[simp] theorem exec_heardRsp (src : Pkg) (silence : BitVec 32) (s : State) : exec (.heardRsp src silence) s = execHeardRsp src silence s := rfl
@[simp] theorem exec_heardTimeout (s : State) : exec (.heardTimeout) s = execHeardTimeout s := rfl
@[simp] theorem exec_takeover (src : Pkg) (s : State) : exec (.takeover src) s = execTakeover src s := rfl
@[simp] theorem exec_heartbeatSilence (s : State) : exec (.heartbeatSilence) s = execHeartbeatSilence s := rfl
@[simp] theorem exec_event (src : Pkg) (r : Report) (e : MeshError) (s : State) : exec (.event src r e) s = execEvent src r e s := rfl
@[simp] theorem exec_mirror (m : MirrorArgs) (s : State) : exec (.mirror m) s = execMirror m s := rfl
@[simp] theorem exec_mirrorAck (s : State) : exec (.mirrorAck) s = execMirrorAck s := rfl
@[simp] theorem exec_mirrorTimeout (s : State) : exec (.mirrorTimeout) s = execMirrorTimeout s := rfl
@[simp] theorem exec_haltImage (stamp : Word) (s : State) : exec (.haltImage stamp) s = execHaltImage stamp s := rfl
@[simp] theorem exec_cut (clause : Word) (release : Bool) (s : State) : exec (.cut clause release) s = execCut clause release s := rfl
@[simp] theorem exec_cutDone (src : Pkg) (clause : Word) (s : State) : exec (.cutDone src clause) s = execCutDone src clause s := rfl
@[simp] theorem exec_registerRead (h : Hdr) (off : BitVec 40) (size : Fin 9) (e : MeshError) (s : State) : exec (.registerRead h off size e) s = execRegisterRead h off size e s := rfl
@[simp] theorem exec_registerWrite (h : Hdr) (off : BitVec 40) (size : Fin 9) (v : Word) (e : MeshError) (s : State) : exec (.registerWrite h off size v e) s = execRegisterWrite h off size v e s := rfl
@[simp] theorem exec_registerAnswer (h : Hdr) (v : Word) (e : MeshError) (s : State) : exec (.registerAnswer h v e) s = execRegisterAnswer h v e s := rfl
@[simp] theorem exec_interruptDelivery (h : Hdr) (tid : BitVec 16) (cls : IntClass) (atS : Bool) (e : MeshError) (s : State) : exec (.interruptDelivery h tid cls atS e) s = execInterruptDelivery h tid cls atS e s := rfl
@[simp] theorem exec_retryLater (d : Fin 96) (s : State) : exec (.retryLater d) s = execRetryLater d s := rfl
@[simp] theorem exec_retryLaterResend (s : State) : exec (.retryLaterResend) s = execRetryLaterResend s := rfl
@[simp] theorem exec_meshRetryExhausted (s : State) : exec (.meshRetryExhausted) s = execMeshRetryExhausted s := rfl
@[simp] theorem exec_refresh (n : Chan) (rank : Fin 8) (bank : Fin 4) (forced : Bool) (s : State) : exec (.refresh n rank bank forced) s = execRefresh n rank bank forced s := rfl
@[simp] theorem exec_dimmTempPoll (n : Chan) (dimm : Fin 2) (celsius : Nat) (s : State) : exec (.dimmTempPoll n dimm celsius) s = execDimmTempPoll n dimm celsius s := rfl
@[simp] theorem exec_rowIdleTimeout (n : Chan) (bank : Fin 2048) (s : State) : exec (.rowIdleTimeout n bank) s = execRowIdleTimeout n bank s := rfl
@[simp] theorem exec_prechargePowerDown (n : Chan) (rank : Fin 8) (s : State) : exec (.prechargePowerDown n rank) s = execPrechargePowerDown n rank s := rfl
@[simp] theorem exec_dimmAlert (n : Chan) (parity : Bool) (failed : Fin 5) (s : State) : exec (.dimmAlert n parity failed) s = execDimmAlert n parity failed s := rfl
@[simp] theorem exec_pmicPowerGoodLoss (n : Chan) (s : State) : exec (.pmicPowerGoodLoss n) s = execPmicPowerGoodLoss n s := rfl
@[simp] theorem exec_phyLockLoss (n : Chan) (s : State) : exec (.phyLockLoss n) s = execPhyLockLoss n s := rfl
@[simp] theorem exec_dramScrub (n : Chan) (line : LineAddr) (o : ReadOutcome) (s : State) : exec (.dramScrub n line o) s = execDramScrub n line o s := rfl
@[simp] theorem exec_cetabClear (n : Chan) (s : State) : exec (.cetabClear n) s = execCetabClear n s := rfl
@[simp] theorem exec_ctxcmdRead (c : Fin 16384) (s : State) : exec (.ctxcmdRead c) s = execCtxcmdRead c s := rfl
@[simp] theorem exec_ctxcmdWrite (c : Fin 16384) (s : State) : exec (.ctxcmdWrite c) s = execCtxcmdWrite c s := rfl
@[simp] theorem exec_ctxcmdEnable (c : Fin 16384) (s : State) : exec (.ctxcmdEnable c) s = execCtxcmdEnable c s := rfl
@[simp] theorem exec_ctxcmdDisable (c : Fin 16384) (s : State) : exec (.ctxcmdDisable c) s = execCtxcmdDisable c s := rfl
@[simp] theorem exec_ctxcmdAbort (c : Fin 16384) (s : State) : exec (.ctxcmdAbort c) s = execCtxcmdAbort c s := rfl
@[simp] theorem exec_descriptorNop (e : Fin 16) (s : State) : exec (.descriptorNop e) s = execDescriptorNop e s := rfl
@[simp] theorem exec_scanFilter (e : Fin 16) (s : State) : exec (.scanFilter e) s = execScanFilter e s := rfl
@[simp] theorem exec_project (e : Fin 16) (s : State) : exec (.project e) s = execProject e s := rfl
@[simp] theorem exec_aggregate (e : Fin 16) (s : State) : exec (.aggregate e) s = execAggregate e s := rfl
@[simp] theorem exec_hashPartition (e : Fin 16) (s : State) : exec (.hashPartition e) s = execHashPartition e s := rfl
@[simp] theorem exec_gather (e : Fin 16) (s : State) : exec (.gather e) s = execGather e s := rfl
@[simp] theorem exec_copy (e : Fin 16) (s : State) : exec (.copy e) s = execCopy e s := rfl
@[simp] theorem exec_fill (e : Fin 16) (s : State) : exec (.fill e) s = execFill e s := rfl
@[simp] theorem exec_crc32c (e : Fin 16) (s : State) : exec (.crc32c e) s = execCrc32c e s := rfl
@[simp] theorem exec_segmentDone (e : Fin 16) (residue : Fin 3) (s : State) : exec (.segmentDone e residue) s = execSegmentDone e residue s := rfl
@[simp] theorem exec_completionRecordWrite (e : Fin 16) (s : State) : exec (.completionRecordWrite e) s = execCompletionRecordWrite e s := rfl
@[simp] theorem exec_realmCapPeriod (s : State) : exec (.realmCapPeriod) s = execRealmCapPeriod s := rfl
@[simp] theorem exec_start (realm : Realm) (origin : BitVec 16) (s : State) : exec (.start realm origin) s = execStart realm origin s := rfl
@[simp] theorem exec_stop (realm : Realm) (origin : BitVec 16) (s : State) : exec (.stop realm origin) s = execStop realm origin s := rfl
@[simp] theorem exec_bind (realm : Realm) (origin : BitVec 16) (s : State) : exec (.bind realm origin) s = execBind realm origin s := rfl
@[simp] theorem exec_unbind (realm : Realm) (origin : BitVec 16) (s : State) : exec (.unbind realm origin) s = execUnbind realm origin s := rfl
@[simp] theorem exec_pgcmdAssign (page : BitVec 40) (s : State) : exec (.pgcmdAssign page) s = execPgcmdAssign page s := rfl
@[simp] theorem exec_reclaim (page : BitVec 40) (s : State) : exec (.reclaim page) s = execReclaim page s := rfl
@[simp] theorem exec_keyRotateSweep (s : State) : exec (.keyRotateSweep) s = execKeyRotateSweep s := rfl
@[simp] theorem exec_realmResetDone (realm : Realm) (s : State) : exec (.realmResetDone realm) s = execRealmResetDone realm s := rfl
@[simp] theorem exec_doorbellPoll (words : List Word) (s : State) : exec (.doorbellPoll words) s = execDoorbellPoll words s := rfl
@[simp] theorem exec_commandDescriptor (desc : BitVec 1024) (ext : List (BitVec 8)) (s : State) : exec (.commandDescriptor desc ext) s = execCommandDescriptor desc ext s := rfl
@[simp] theorem exec_ticketAccept (s : State) : exec (.ticketAccept) s = execTicketAccept s := rfl
@[simp] theorem exec_commandCompletion (s : State) : exec (.commandCompletion) s = execCommandCompletion s := rfl
@[simp] theorem exec_nop (c : Command) (s : State) : exec (.nop c) s = execNop c s := rfl
@[simp] theorem exec_progress (c : Command) (s : State) : exec (.progress c) s = execProgress c s := rfl
@[simp] theorem exec_ownerClaim (c : Command) (s : State) : exec (.ownerClaim c) s = execOwnerClaim c s := rfl
@[simp] theorem exec_join (c : Command) (s : State) : exec (.join c) s = execJoin c s := rfl
@[simp] theorem exec_setRegime (c : Command) (s : State) : exec (.setRegime c) s = execSetRegime c s := rfl
@[simp] theorem exec_modeQuiesce (c : Command) (s : State) : exec (.modeQuiesce c) s = execModeQuiesce c s := rfl
@[simp] theorem exec_modeJoin (c : Command) (s : State) : exec (.modeJoin c) s = execModeJoin c s := rfl
@[simp] theorem exec_modeRunI (c : Command) (s : State) : exec (.modeRunI c) s = execModeRunI c s := rfl
@[simp] theorem exec_modeRunS (c : Command) (s : State) : exec (.modeRunS c) s = execModeRunS c s := rfl
@[simp] theorem exec_modeDrain (c : Command) (s : State) : exec (.modeDrain c) s = execModeDrain c s := rfl
@[simp] theorem exec_reset (c : Command) (s : State) : exec (.reset c) s = execReset c s := rfl
@[simp] theorem exec_reshape (c : Command) (s : State) : exec (.reshape c) s = execReshape c s := rfl
@[simp] theorem exec_meminit (c : Command) (s : State) : exec (.meminit c) s = execMeminit c s := rfl
@[simp] theorem exec_regWrite (c : Command) (s : State) : exec (.regWrite c) s = execRegWrite c s := rfl
@[simp] theorem exec_fwUpdateFirmware (c : Command) (s : State) : exec (.fwUpdateFirmware c) s = execFwUpdateFirmware c s := rfl
@[simp] theorem exec_fwUpdateBoardRecord (c : Command) (s : State) : exec (.fwUpdateBoardRecord c) s = execFwUpdateBoardRecord c s := rfl
@[simp] theorem exec_fwUpdateFloor (c : Command) (s : State) : exec (.fwUpdateFloor c) s = execFwUpdateFloor c s := rfl
@[simp] theorem exec_expertGrant (c : Command) (s : State) : exec (.expertGrant c) s = execExpertGrant c s := rfl
@[simp] theorem exec_expertRevoke (c : Command) (s : State) : exec (.expertRevoke c) s = execExpertRevoke c s := rfl
@[simp] theorem exec_grantExpired (s : State) : exec (.grantExpired) s = execGrantExpired s := rfl
@[simp] theorem exec_tlogClear (c : Command) (s : State) : exec (.tlogClear c) s = execTlogClear c s := rfl
@[simp] theorem exec_realmCreate (c : Command) (s : State) : exec (.realmCreate c) s = execRealmCreate c s := rfl
@[simp] theorem exec_realmDestroy (c : Command) (s : State) : exec (.realmDestroy c) s = execRealmDestroy c s := rfl
@[simp] theorem exec_realmSeal (c : Command) (s : State) : exec (.realmSeal c) s = execRealmSeal c s := rfl
@[simp] theorem exec_realmUnseal (c : Command) (s : State) : exec (.realmUnseal c) s = execRealmUnseal c s := rfl
@[simp] theorem exec_keyRotate (c : Command) (s : State) : exec (.keyRotate c) s = execKeyRotate c s := rfl
@[simp] theorem exec_pageReclaim (c : Command) (s : State) : exec (.pageReclaim c) s = execPageReclaim c s := rfl
@[simp] theorem exec_ownerKeySet (c : Command) (s : State) : exec (.ownerKeySet c) s = execOwnerKeySet c s := rfl
@[simp] theorem exec_ownerKeyClear (c : Command) (s : State) : exec (.ownerKeyClear c) s = execOwnerKeyClear c s := rfl
@[simp] theorem exec_peerWindowRead (tag : BitVec 10) (off : BitVec 36) (len : Fin 4097) (s : State) : exec (.peerWindowRead tag off len) s = execPeerWindowRead tag off len s := rfl
@[simp] theorem exec_peerWindowWrite (off : BitVec 36) (data : List (BitVec 8)) (s : State) : exec (.peerWindowWrite off data) s = execPeerWindowWrite off data s := rfl
@[simp] theorem exec_windowWrite (k : Fin 16) (v : Word) (origin : BitVec 16) (s : State) : exec (.windowWrite k v origin) s = execWindowWrite k v origin s := rfl
@[simp] theorem exec_configRequest (tag : BitVec 10) (dw : BitVec 10) (write : Option (BitVec 4 × BitVec 32)) (s : State) : exec (.configRequest tag dw write) s = execConfigRequest tag dw write s := rfl
@[simp] theorem exec_busMasterDisable (s : State) : exec (.busMasterDisable) s = execBusMasterDisable s := rfl
@[simp] theorem exec_functionLevelReset (s : State) : exec (.functionLevelReset) s = execFunctionLevelReset s := rfl
@[simp] theorem exec_perstN (hot : Bool) (s : State) : exec (.perstN hot) s = execPerstN hot s := rfl
@[simp] theorem exec_dStateChange (d : BitVec 2) (s : State) : exec (.dStateChange d) s = execDStateChange d s := rfl
@[simp] theorem exec_epfContained (linkDown : Bool) (aer : BitVec 32) (s : State) : exec (.epfContained linkDown aer) s = execEpfContained linkDown aer s := rfl
@[simp] theorem exec_containmentRelease (s : State) : exec (.containmentRelease) s = execContainmentRelease s := rfl
@[simp] theorem exec_inboundDmaWrite (n : Fin 12) (rid : BitVec 16) (pa : BitVec 52) (data : List (BitVec 8)) (s : State) : exec (.inboundDmaWrite n rid pa data) s = execInboundDmaWrite n rid pa data s := rfl
@[simp] theorem exec_inboundDmaRead (n : Fin 12) (tag : BitVec 10) (rid : BitVec 16) (pa : BitVec 52) (len : Fin 4097) (s : State) : exec (.inboundDmaRead n tag rid pa len) s = execInboundDmaRead n tag rid pa len s := rfl
@[simp] theorem exec_deviceReadTimeout (n : Fin 12) (s : State) : exec (.deviceReadTimeout n) s = execDeviceReadTimeout n s := rfl
@[simp] theorem exec_rpContained (n : Fin 12) (linkDown : Bool) (aer : BitVec 32) (s : State) : exec (.rpContained n linkDown aer) s = execRpContained n linkDown aer s := rfl
@[simp] theorem exec_rpRelease (n : Fin 12) (s : State) : exec (.rpRelease n) s = execRpRelease n s := rfl
@[simp] theorem exec_rpassignWrite (n : Fin 12) (i : Fin 64) (v : Word) (origin : BitVec 16) (s : State) : exec (.rpassignWrite n i v origin) s = execRpassignWrite n i v origin s := rfl
@[simp] theorem exec_bridgeFrame (d : DiePos) (toDie crcOk : Bool) (s : State) : exec (.bridgeFrame d toDie crcOk) s = execBridgeFrame d toDie crcOk s := rfl
@[simp] theorem exec_bridgeRetrainDone (d : DiePos) (ok : Bool) (s : State) : exec (.bridgeRetrainDone d ok) s = execBridgeRetrainDone d ok s := rfl
@[simp] theorem exec_strobeLockLoss (d : DiePos) (s : State) : exec (.strobeLockLoss d) s = execStrobeLockLoss d s := rfl
@[simp] theorem exec_domainClosed (d : Fin 96) (s : State) : exec (.domainClosed d) s = execDomainClosed d s := rfl
@[simp] theorem exec_meshCloseAborted (d : Fin 96) (s : State) : exec (.meshCloseAborted d) s = execMeshCloseAborted d s := rfl
@[simp] theorem exec_domainOpen (d : Fin 96) (s : State) : exec (.domainOpen d) s = execDomainOpen d s := rfl
@[simp] theorem exec_vauxRise (mgr stby : Bool) (s : State) : exec (.vauxRise mgr stby) s = execVauxRise mgr stby s := rfl
@[simp] theorem exec_vauxLoss (s : State) : exec (.vauxLoss) s = execVauxLoss s := rfl
@[simp] theorem exec_pwrGoodFall (s : State) : exec (.pwrGoodFall) s = execPwrGoodFall s := rfl
@[simp] theorem exec_resetNAssert (s : State) : exec (.resetNAssert) s = execResetNAssert s := rfl
@[simp] theorem exec_pwrGoodRise (mgr stby : Bool) (s : State) : exec (.pwrGoodRise mgr stby) s = execPwrGoodRise mgr stby s := rfl
@[simp] theorem exec_resetNRise (mgr stby : Bool) (s : State) : exec (.resetNRise mgr stby) s = execResetNRise mgr stby s := rfl
@[simp] theorem exec_trainStart (wires : List WireFault) (chans : List ChanTrain) (ports : List PortTrain) (s : State) : exec (.trainStart wires chans ports) s = execTrainStart wires chans ports s := rfl
@[simp] theorem exec_trainComplete (s : State) : exec (.trainComplete) s = execTrainComplete s := rfl
@[simp] theorem exec_quiesceCut (s : State) : exec (.quiesceCut) s = execQuiesceCut s := rfl
@[simp] theorem exec_quiesceTimeout (s : State) : exec (.quiesceTimeout) s = execQuiesceTimeout s := rfl
@[simp] theorem exec_quiesceRelease (s : State) : exec (.quiesceRelease) s = execQuiesceRelease s := rfl
@[simp] theorem exec_drainDone (s : State) : exec (.drainDone) s = execDrainDone s := rfl
@[simp] theorem exec_quantumBoundary (p : BitVec 16) (dies : List Nat) (s : State) : exec (.quantumBoundary p dies) s = execQuantumBoundary p dies s := rfl
@[simp] theorem exec_sensorSample (rs : List (Fin 248 × BitVec 16)) (s : State) : exec (.sensorSample rs) s = execSensorSample rs s := rfl
@[simp] theorem exec_thermalAlarm (i : Fin 248) (temp : BitVec 16) (s : State) : exec (.thermalAlarm i temp) s = execThermalAlarm i temp s := rfl
@[simp] theorem exec_thermalTrip (i : Fin 248) (temp : BitVec 16) (s : State) : exec (.thermalTrip i temp) s = execThermalTrip i temp s := rfl
@[simp] theorem exec_powerClamp (amps : Nat) (s : State) : exec (.powerClamp amps) s = execPowerClamp amps s := rfl
@[simp] theorem exec_frequencyChangeDone (k : Fin 60) (s : State) : exec (.frequencyChangeDone k) s = execFrequencyChangeDone k s := rfl
@[simp] theorem exec_mcWatchdog (s : State) : exec (.mcWatchdog) s = execMcWatchdog s := rfl
@[simp] theorem exec_injectArm (who : Writer) (v : Word) (s : State) : exec (.injectArm who v) s = execInjectArm who v s := rfl
@[simp] theorem exec_tripLogRecord (s : State) : exec (.tripLogRecord) s = execTripLogRecord s := rfl
@[simp] theorem exec_spillCopy (s : State) : exec (.spillCopy) s = execSpillCopy s := rfl
@[simp] theorem exec_rateToken (cls : Fin 16) (s : State) : exec (.rateToken cls) s = execRateToken cls s := rfl
@[simp] theorem exec_freeze (on : Bool) (s : State) : exec (.freeze on) s = execFreeze on s := rfl
@[simp] theorem exec_freezeTimeout (s : State) : exec (.freezeTimeout) s = execFreezeTimeout s := rfl
@[simp] theorem exec_counterDump (s : State) : exec (.counterDump) s = execCounterDump s := rfl
@[simp] theorem exec_dumpNow (s : State) : exec (.dumpNow) s = execDumpNow s := rfl
@[simp] theorem exec_dumpEnable (s : State) : exec (.dumpEnable) s = execDumpEnable s := rfl
@[simp] theorem exec_dumpCommit (s : State) : exec (.dumpCommit) s = execDumpCommit s := rfl
@[simp] theorem exec_pcevWrite (t : ThreadPos) (i : Fin 8) (ra : BitVec 5) (s : State) : exec (.pcevWrite t i ra) s = execPcevWrite t i ra s := rfl
@[simp] theorem exec_pcwrite (t : ThreadPos) (ra : BitVec 5) (s : State) : exec (.pcwrite t ra) s = execPcwrite t ra s := rfl
@[simp] theorem exec_prsWrite (who : Writer) (off : BitVec 26) (size : Fin 9) (v : Word) (s : State) : exec (.prsWrite who off size v) s = execPrsWrite who off size v s := rfl
@[simp] theorem exec_illegal (t : ThreadPos) (word : BitVec 32) (s : State) : exec (.illegal t word) s = execIllegal t word s := rfl
@[simp] theorem exec_l3VictimInstall (c : CorePos) (line : LineAddr) (s : State) : exec (.l3VictimInstall c line) s = execL3VictimInstall c line s := rfl
@[simp] theorem exec_controllerCycle (n : Chan) (s : State) : exec (.controllerCycle n) s = execControllerCycle n s := rfl
@[simp] theorem exec_selfRefreshEntry (n : Chan) (s : State) : exec (.selfRefreshEntry n) s = execSelfRefreshEntry n s := rfl
@[simp] theorem exec_busMasterEnable (s : State) : exec (.busMasterEnable) s = execBusMasterEnable s := rfl
@[simp] theorem exec_pcieLinkUp (n : Fin 12) (width speed : BitVec 4) (s : State) : exec (.pcieLinkUp n width speed) s = execPcieLinkUp n width speed s := rfl
@[simp] theorem exec_deviceReadCompletion (n : Fin 12) (tag : BitVec 10) (status : Fin 3) (data : Word) (s : State) : exec (.deviceReadCompletion n tag status data) s = execDeviceReadCompletion n tag status data s := rfl
@[simp] theorem exec_completionTimeout (s : State) : exec (.completionTimeout) s = execCompletionTimeout s := rfl
@[simp] theorem exec_fwUpdateDone (s : State) : exec (.fwUpdateDone) s = execFwUpdateDone s := rfl
@[simp] theorem exec_noticeSpacingExpiry (s : State) : exec (.noticeSpacingExpiry) s = execNoticeSpacingExpiry s := rfl

end Sys2Proof.Machine
end

