-- ==== Sys2Proof/Laws/State.lean ====
section
/-! SUPPORT. What each named update of the state leaves as it is: one lemma per update and field; what a table and a register hold after
an update. -/
set_option Elab.async false
namespace Sys2Proof.Machine
open Sys2Proof

/-! ## Tables -/

@[simp] theorem Tbl_get_erase {V : Type} (d : V) (t : Tbl V) (k k' : Nat) :
    Tbl.get d (Tbl.erase t k) k' = if k' = k then d else Tbl.get d t k' := by
  induction t with
  | nil => simp [Tbl.erase, Tbl.get]
  | cons p t ih =>
    obtain ⟨a, v⟩ := p
    by_cases h : a = k
    · subst h
      by_cases h' : k' = a
      · subst h'; simp [Tbl.erase, ih]
      · simp [Tbl.erase, Tbl.get, ih, h', Ne.symm h']
    · by_cases h' : a = k'
      · subst h'; simp [Tbl.erase, Tbl.get, h]
      · simp [Tbl.erase, Tbl.get, h, h', ih]

@[simp] theorem Tbl_get_set {V : Type} (d : V) (t : Tbl V) (k k' : Nat) (v : V) :
    Tbl.get d (Tbl.set t k v) k' = if k' = k then v else Tbl.get d t k' := by
  by_cases h : k' = k
  · simp [Tbl.set, Tbl.get, h]
  · simp [Tbl.set, Tbl.get, h, Ne.symm h]

@[simp] theorem Tbl_find_erase {V : Type} (t : Tbl V) (k k' : Nat) :
    Tbl.find (Tbl.erase t k) k' = if k' = k then none else Tbl.find t k' := by
  induction t with
  | nil => simp [Tbl.erase, Tbl.find]
  | cons p t ih =>
    obtain ⟨a, v⟩ := p
    by_cases h : a = k
    · subst h
      by_cases h' : k' = a
      · subst h'; simp [Tbl.erase, ih]
      · simp [Tbl.erase, Tbl.find, ih, h', Ne.symm h']
    · by_cases h' : a = k'
      · subst h'; simp [Tbl.erase, Tbl.find, h]
      · simp [Tbl.erase, Tbl.find, h, h', ih]

@[simp] theorem Tbl_find_set {V : Type} (t : Tbl V) (k k' : Nat) (v : V) :
    Tbl.find (Tbl.set t k v) k' = if k' = k then some v else Tbl.find t k' := by
  by_cases h : k' = k
  · simp [Tbl.set, Tbl.find, h]
  · simp [Tbl.set, Tbl.find, h, Ne.symm h]

/-! ## Registers, threads, cores, dies, homes, links -/

@[simp] theorem reg_setReg (s : State) (off off' : Nat) (w : Word) :
    (s.setReg off w).reg off' = if off' = off then w else s.reg off' := by
  simp [State.reg, State.setReg]

theorem reg_setFld (s : State) (off hi lo v off' : Nat) :
    (s.setFld off hi lo v).reg off' = if off' = off then putBits (s.reg off) hi lo v else s.reg off' := by
  simp [State.setFld]

theorem reg_setFld_ne (s : State) (off hi lo v off' : Nat) (h : off' ≠ off) : (s.setFld off hi lo v).reg off' = s.reg off' := by
  simp [State.setFld, h]

theorem reg_addFld_ne (s : State) (off hi lo v off' : Nat) (h : off' ≠ off) : (s.addFld off hi lo v).reg off' = s.reg off' := by
  simp [State.addFld, State.setFld, h]

@[simp] theorem thread_setThread (s : State) (t t' : Nat) (x : Thread) :
    (s.setThread t x).thread t' = if t' = t then x else s.thread t' := by simp [State.thread, State.setThread]

@[simp] theorem thread_modThread (s : State) (t t' : Nat) (f : Thread → Thread) :
    (s.modThread t f).thread t' = if t' = t then f (s.thread t) else s.thread t' := by simp [State.modThread]

@[simp] theorem core_setCore (s : State) (c c' : Nat) (x : Core) : (s.setCore c x).core c' = if c' = c then x else s.core c' := by
  simp [State.core, State.setCore]

@[simp] theorem core_modCore (s : State) (c c' : Nat) (f : Core → Core) :
    (s.modCore c f).core c' = if c' = c then f (s.core c) else s.core c' := by simp [State.modCore]

@[simp] theorem die_setDie (s : State) (d d' : Nat) (x : Die) : (s.setDie d x).die d' = if d' = d then x else s.die d' := by
  simp [State.die, State.setDie]

@[simp] theorem home_setHome (s : State) (n n' : Nat) (x : Home) : (s.setHome n x).home n' = if n' = n then x else s.home n' := by
  simp [State.home, State.setHome]

@[simp] theorem link_setLink (s : State) (n n' : Nat) (x : Link) : (s.setLink n x).link n' = if n' = n then x else s.link n' := by
  simp [State.link, State.setLink]

/-! ## Bit fields -/

/-- A field reads back what was put into it. -/
theorem bits_putBits (w : Word) (hi lo v : Nat) (h : lo ≤ hi) (h64 : hi < 64) :
    bits (putBits w hi lo v) hi lo = v % 2 ^ (hi - lo + 1) := by
  have hn : (2 ^ (hi - lo + 1) - 1) * 2 ^ lo < 2 ^ 64 := by
    have h1 : 2 ^ (hi - lo + 1) * 2 ^ lo ≤ 2 ^ 64 := by
      rw [← Nat.pow_add]; exact Nat.pow_le_pow_right (by decide) (by omega)
    have h2 : 0 < 2 ^ lo := Nat.two_pow_pos lo
    have h3 : (2 ^ (hi - lo + 1) - 1) * 2 ^ lo = 2 ^ (hi - lo + 1) * 2 ^ lo - 2 ^ lo := by rw [Nat.sub_mul, Nat.one_mul]
    omega
  apply Nat.eq_of_testBit_eq
  intro i
  by_cases hi' : i < hi - lo + 1
  · have hlo : lo + i < 64 := by omega
    simp only [bits, natBits, putBits, Nat.testBit_mod_two_pow, hi', decide_true, Bool.true_and, Nat.testBit_shiftRight,
      BitVec.testBit_toNat, BitVec.getLsbD_or, BitVec.getLsbD_and, BitVec.getLsbD_not, BitVec.getLsbD_ofNat, hlo,
      Nat.testBit_mul_two_pow]
    simp [hi']
  · simp [bits, natBits, hi']

/-- A field elsewhere keeps what it held. -/
theorem bits_putBits_ne (w : Word) (hi lo v hi' lo' : Nat) (h : hi' < lo ∨ hi < lo') (hl : lo ≤ hi) (hl' : lo' ≤ hi') :
    bits (putBits w hi lo v) hi' lo' = bits w hi' lo' := by
  apply Nat.eq_of_testBit_eq
  intro i
  by_cases hi1 : i < hi' - lo' + 1
  · by_cases h64 : lo' + i < 64
    · simp only [bits, natBits, putBits, Nat.testBit_mod_two_pow, hi1, decide_true, Bool.true_and, Nat.testBit_shiftRight,
        BitVec.testBit_toNat, BitVec.getLsbD_or, BitVec.getLsbD_and, BitVec.getLsbD_not, BitVec.getLsbD_ofNat, h64,
        Nat.testBit_mul_two_pow, Nat.testBit_two_pow_sub_one]
      rcases h with h | h
      · have : ¬ lo ≤ lo' + i := by omega
        simp [this]
      · have h3 : ¬ (lo' + i - lo < hi - lo + 1) := by omega
        simp [h3]
    · have h1 : ∀ x : Word, x.getLsbD (lo' + i) = false := fun x => BitVec.getLsbD_of_ge x _ (by omega)
      simp only [bits, natBits, Nat.testBit_mod_two_pow, hi1, Nat.testBit_shiftRight, BitVec.testBit_toNat, h1]
  · simp [bits, natBits, hi1]

/-! ## Fields that an update leaves -/

@[simp] theorem setReg_pending (s : State) (off : Nat) (w : Word) : (s.setReg off w).pending = s.pending := rfl
@[simp] theorem setReg_clause (s : State) (off : Nat) (w : Word) : (s.setReg off w).clause = s.clause := rfl
@[simp] theorem setReg_phase (s : State) (off : Nat) (w : Word) : (s.setReg off w).phase = s.phase := rfl
@[simp] theorem setReg_counting (s : State) (off : Nat) (w : Word) : (s.setReg off w).counting = s.counting := rfl
@[simp] theorem setReg_vaux (s : State) (off : Nat) (w : Word) : (s.setReg off w).vaux = s.vaux := rfl
@[simp] theorem setReg_pwrGood (s : State) (off : Nat) (w : Word) : (s.setReg off w).pwrGood = s.pwrGood := rfl
@[simp] theorem setReg_resetN (s : State) (off : Nat) (w : Word) : (s.setReg off w).resetN = s.resetN := rfl
@[simp] theorem setReg_mgrStrap (s : State) (off : Nat) (w : Word) : (s.setReg off w).mgrStrap = s.mgrStrap := rfl
@[simp] theorem setReg_stbyStrap (s : State) (off : Nat) (w : Word) : (s.setReg off w).stbyStrap = s.stbyStrap := rfl
@[simp] theorem setReg_threads (s : State) (off : Nat) (w : Word) : (s.setReg off w).threads = s.threads := rfl
@[simp] theorem setReg_cores (s : State) (off : Nat) (w : Word) : (s.setReg off w).cores = s.cores := rfl
@[simp] theorem setReg_dies (s : State) (off : Nat) (w : Word) : (s.setReg off w).dies = s.dies := rfl
@[simp] theorem setReg_sent (s : State) (off : Nat) (w : Word) : (s.setReg off w).sent = s.sent := rfl
@[simp] theorem setReg_log (s : State) (off : Nat) (w : Word) : (s.setReg off w).log = s.log := rfl
@[simp] theorem setReg_events (s : State) (off : Nat) (w : Word) : (s.setReg off w).events = s.events := rfl
@[simp] theorem setReg_unresolved (s : State) (off : Nat) (w : Word) : (s.setReg off w).unresolved = s.unresolved := rfl
@[simp] theorem setReg_pccVal (s : State) (off : Nat) (w : Word) : (s.setReg off w).pccVal = s.pccVal := rfl
@[simp] theorem setReg_pccSel (s : State) (off : Nat) (w : Word) : (s.setReg off w).pccSel = s.pccSel := rfl
@[simp] theorem setReg_homes (s : State) (off : Nat) (w : Word) : (s.setReg off w).homes = s.homes := rfl
@[simp] theorem setReg_dirMem (s : State) (off : Nat) (w : Word) : (s.setReg off w).dirMem = s.dirMem := rfl
@[simp] theorem setReg_dirCtl (s : State) (off : Nat) (w : Word) : (s.setReg off w).dirCtl = s.dirCtl := rfl
@[simp] theorem setReg_disp (s : State) (off : Nat) (w : Word) : (s.setReg off w).disp = s.disp := rfl
@[simp] theorem setReg_jrnOff (s : State) (off : Nat) (w : Word) : (s.setReg off w).jrnOff = s.jrnOff := rfl
@[simp] theorem setReg_dirFilter (s : State) (off : Nat) (w : Word) : (s.setReg off w).dirFilter = s.dirFilter := rfl
@[simp] theorem setReg_dirAge (s : State) (off : Nat) (w : Word) : (s.setReg off w).dirAge = s.dirAge := rfl
@[simp] theorem setReg_dirScrubAt (s : State) (off : Nat) (w : Word) : (s.setReg off w).dirScrubAt = s.dirScrubAt := rfl
@[simp] theorem setReg_dirCes (s : State) (off : Nat) (w : Word) : (s.setReg off w).dirCes = s.dirCes := rfl
@[simp] theorem setReg_reshapeStart (s : State) (off : Nat) (w : Word) : (s.setReg off w).reshapeStart = s.reshapeStart := rfl
@[simp] theorem setReg_reshapeEvicted (s : State) (off : Nat) (w : Word) : (s.setReg off w).reshapeEvicted = s.reshapeEvicted := rfl
@[simp] theorem setReg_reshapeQueue (s : State) (off : Nat) (w : Word) : (s.setReg off w).reshapeQueue = s.reshapeQueue := rfl
@[simp] theorem setReg_dirTicks (s : State) (off : Nat) (w : Word) : (s.setReg off w).dirTicks = s.dirTicks := rfl
@[simp] theorem setReg_away (s : State) (off : Nat) (w : Word) : (s.setReg off w).away = s.away := rfl
@[simp] theorem setReg_masks (s : State) (off : Nat) (w : Word) : (s.setReg off w).masks = s.masks := rfl
@[simp] theorem setReg_written (s : State) (off : Nat) (w : Word) : (s.setReg off w).written = s.written := rfl
@[simp] theorem setReg_keyCount (s : State) (off : Nat) (w : Word) : (s.setReg off w).keyCount = s.keyCount := rfl
@[simp] theorem setReg_keyHalf (s : State) (off : Nat) (w : Word) : (s.setReg off w).keyHalf = s.keyHalf := rfl
@[simp] theorem setReg_fillKey (s : State) (off : Nat) (w : Word) : (s.setReg off w).fillKey = s.fillKey := rfl
@[simp] theorem setReg_lineKeys (s : State) (off : Nat) (w : Word) : (s.setReg off w).lineKeys = s.lineKeys := rfl
@[simp] theorem setReg_dramBad (s : State) (off : Nat) (w : Word) : (s.setReg off w).dramBad = s.dramBad := rfl
@[simp] theorem setReg_ports (s : State) (off : Nat) (w : Word) : (s.setReg off w).ports = s.ports := rfl
@[simp] theorem setReg_ucq (s : State) (off : Nat) (w : Word) : (s.setReg off w).ucq = s.ucq := rfl
@[simp] theorem setReg_portTok (s : State) (off : Nat) (w : Word) : (s.setReg off w).portTok = s.portTok := rfl
@[simp] theorem setReg_readQ (s : State) (off : Nat) (w : Word) : (s.setReg off w).readQ = s.readQ := rfl
@[simp] theorem setReg_admitTurn (s : State) (off : Nat) (w : Word) : (s.setReg off w).admitTurn = s.admitTurn := rfl
@[simp] theorem setReg_minTok (s : State) (off : Nat) (w : Word) : (s.setReg off w).minTok = s.minTok := rfl
@[simp] theorem setReg_maxTok (s : State) (off : Nat) (w : Word) : (s.setReg off w).maxTok = s.maxTok := rfl
@[simp] theorem setReg_openRow (s : State) (off : Nat) (w : Word) : (s.setReg off w).openRow = s.openRow := rfl
@[simp] theorem setReg_powerDown (s : State) (off : Nat) (w : Word) : (s.setReg off w).powerDown = s.powerDown := rfl
@[simp] theorem setReg_selfRefresh (s : State) (off : Nat) (w : Word) : (s.setReg off w).selfRefresh = s.selfRefresh := rfl
@[simp] theorem setReg_replays (s : State) (off : Nat) (w : Word) : (s.setReg off w).replays = s.replays := rfl
@[simp] theorem setReg_pot (s : State) (off : Nat) (w : Word) : (s.setReg off w).pot = s.pot := rfl
@[simp] theorem setReg_realms (s : State) (off : Nat) (w : Word) : (s.setReg off w).realms = s.realms := rfl
@[simp] theorem setReg_memberJobs (s : State) (off : Nat) (w : Word) : (s.setReg off w).memberJobs = s.memberJobs := rfl
@[simp] theorem setReg_domains (s : State) (off : Nat) (w : Word) : (s.setReg off w).domains = s.domains := rfl
@[simp] theorem setReg_tlbiUnit (s : State) (off : Nat) (w : Word) : (s.setReg off w).tlbiUnit = s.tlbiUnit := rfl
@[simp] theorem setReg_ctxs (s : State) (off : Nat) (w : Word) : (s.setReg off w).ctxs = s.ctxs := rfl
@[simp] theorem setReg_monitors (s : State) (off : Nat) (w : Word) : (s.setReg off w).monitors = s.monitors := rfl
@[simp] theorem setReg_engines (s : State) (off : Nat) (w : Word) : (s.setReg off w).engines = s.engines := rfl
@[simp] theorem setReg_ctxRuns (s : State) (off : Nat) (w : Word) : (s.setReg off w).ctxRuns = s.ctxRuns := rfl
@[simp] theorem setReg_ctxJob (s : State) (off : Nat) (w : Word) : (s.setReg off w).ctxJob = s.ctxJob := rfl
@[simp] theorem setReg_ctxBad (s : State) (off : Nat) (w : Word) : (s.setReg off w).ctxBad = s.ctxBad := rfl
@[simp] theorem setReg_capUsed (s : State) (off : Nat) (w : Word) : (s.setReg off w).capUsed = s.capUsed := rfl
@[simp] theorem setReg_capHeld (s : State) (off : Nat) (w : Word) : (s.setReg off w).capHeld = s.capHeld := rfl
@[simp] theorem setReg_notice (s : State) (off : Nat) (w : Word) : (s.setReg off w).notice = s.notice := rfl
@[simp] theorem setReg_links (s : State) (off : Nat) (w : Word) : (s.setReg off w).links = s.links := rfl
@[simp] theorem setReg_image (s : State) (off : Nat) (w : Word) : (s.setReg off w).image = s.image := rfl
@[simp] theorem setReg_completions (s : State) (off : Nat) (w : Word) : (s.setReg off w).completions = s.completions := rfl
@[simp] theorem setReg_epf (s : State) (off : Nat) (w : Word) : (s.setReg off w).epf = s.epf := rfl
@[simp] theorem setReg_inbound (s : State) (off : Nat) (w : Word) : (s.setReg off w).inbound = s.inbound := rfl
@[simp] theorem setReg_mapDue (s : State) (off : Nat) (w : Word) : (s.setReg off w).mapDue = s.mapDue := rfl
@[simp] theorem setReg_mapOld (s : State) (off : Nat) (w : Word) : (s.setReg off w).mapOld = s.mapOld := rfl
@[simp] theorem setReg_devReads (s : State) (off : Nat) (w : Word) : (s.setReg off w).devReads = s.devReads := rfl
@[simp] theorem setReg_devTag (s : State) (off : Nat) (w : Word) : (s.setReg off w).devTag = s.devTag := rfl
@[simp] theorem setReg_rpOut (s : State) (off : Nat) (w : Word) : (s.setReg off w).rpOut = s.rpOut := rfl
@[simp] theorem setReg_subsystem (s : State) (off : Nat) (w : Word) : (s.setReg off w).subsystem = s.subsystem := rfl
@[simp] theorem setReg_dump (s : State) (off : Nat) (w : Word) : (s.setReg off w).dump = s.dump := rfl
@[simp] theorem setReg_fuses (s : State) (off : Nat) (w : Word) : (s.setReg off w).fuses = s.fuses := rfl
@[simp] theorem setReg_dieFuses (s : State) (off : Nat) (w : Word) : (s.setReg off w).dieFuses = s.dieFuses := rfl
@[simp] theorem setReg_flash (s : State) (off : Nat) (w : Word) : (s.setReg off w).flash = s.flash := rfl
@[simp] theorem setReg_sense (s : State) (off : Nat) (w : Word) : (s.setReg off w).sense = s.sense := rfl
@[simp] theorem setReg_flashJob (s : State) (off : Nat) (w : Word) : (s.setReg off w).flashJob = s.flashJob := rfl
@[simp] theorem setReg_drain (s : State) (off : Nat) (w : Word) : (s.setReg off w).drain = s.drain := rfl
@[simp] theorem setReg_reshapeCmd (s : State) (off : Nat) (w : Word) : (s.setReg off w).reshapeCmd = s.reshapeCmd := rfl
@[simp] theorem setReg_resetDue (s : State) (off : Nat) (w : Word) : (s.setReg off w).resetDue = s.resetDue := rfl
@[simp] theorem setReg_bridges (s : State) (off : Nat) (w : Word) : (s.setReg off w).bridges = s.bridges := rfl
@[simp] theorem setReg_meshHeld (s : State) (off : Nat) (w : Word) : (s.setReg off w).meshHeld = s.meshHeld := rfl
@[simp] theorem setReg_meshTurn (s : State) (off : Nat) (w : Word) : (s.setReg off w).meshTurn = s.meshTurn := rfl
@[simp] theorem setReg_parasol (s : State) (off : Nat) (w : Word) : (s.setReg off w).parasol = s.parasol := rfl
@[simp] theorem setReg_ownerKeys (s : State) (off : Nat) (w : Word) : (s.setReg off w).ownerKeys = s.ownerKeys := rfl
@[simp] theorem setReg_opNext (s : State) (off : Nat) (w : Word) : (s.setReg off w).opNext = s.opNext := rfl
@[simp] theorem setReg_longOps (s : State) (off : Nat) (w : Word) : (s.setReg off w).longOps = s.longOps := rfl
@[simp] theorem setReg_tops (s : State) (off : Nat) (w : Word) : (s.setReg off w).tops = s.tops := rfl
@[simp] theorem setReg_chainDefault (s : State) (off : Nat) (w : Word) : (s.setReg off w).chainDefault = s.chainDefault := rfl
@[simp] theorem setReg_alertN (s : State) (off : Nat) (w : Word) : (s.setReg off w).alertN = s.alertN := rfl
@[simp] theorem setReg_thermtripN (s : State) (off : Nat) (w : Word) : (s.setReg off w).thermtripN = s.thermtripN := rfl
@[simp] theorem setReg_mem (s : State) (off : Nat) (w : Word) : (s.setReg off w).mem = s.mem := rfl
@[simp] theorem setReg_freeCount (s : State) (off : Nat) (w : Word) : (s.setReg off w).freeCount = s.freeCount := rfl
@[simp] theorem setFld_pending (s : State) (off hi lo v : Nat) : (s.setFld off hi lo v).pending = s.pending := rfl
@[simp] theorem setFld_clause (s : State) (off hi lo v : Nat) : (s.setFld off hi lo v).clause = s.clause := rfl
@[simp] theorem setFld_phase (s : State) (off hi lo v : Nat) : (s.setFld off hi lo v).phase = s.phase := rfl
@[simp] theorem setFld_counting (s : State) (off hi lo v : Nat) : (s.setFld off hi lo v).counting = s.counting := rfl
@[simp] theorem setFld_vaux (s : State) (off hi lo v : Nat) : (s.setFld off hi lo v).vaux = s.vaux := rfl
@[simp] theorem setFld_pwrGood (s : State) (off hi lo v : Nat) : (s.setFld off hi lo v).pwrGood = s.pwrGood := rfl
@[simp] theorem setFld_resetN (s : State) (off hi lo v : Nat) : (s.setFld off hi lo v).resetN = s.resetN := rfl
@[simp] theorem setFld_mgrStrap (s : State) (off hi lo v : Nat) : (s.setFld off hi lo v).mgrStrap = s.mgrStrap := rfl
@[simp] theorem setFld_stbyStrap (s : State) (off hi lo v : Nat) : (s.setFld off hi lo v).stbyStrap = s.stbyStrap := rfl
@[simp] theorem setFld_threads (s : State) (off hi lo v : Nat) : (s.setFld off hi lo v).threads = s.threads := rfl
@[simp] theorem setFld_cores (s : State) (off hi lo v : Nat) : (s.setFld off hi lo v).cores = s.cores := rfl
@[simp] theorem setFld_dies (s : State) (off hi lo v : Nat) : (s.setFld off hi lo v).dies = s.dies := rfl
@[simp] theorem setFld_sent (s : State) (off hi lo v : Nat) : (s.setFld off hi lo v).sent = s.sent := rfl
@[simp] theorem setFld_log (s : State) (off hi lo v : Nat) : (s.setFld off hi lo v).log = s.log := rfl
@[simp] theorem setFld_events (s : State) (off hi lo v : Nat) : (s.setFld off hi lo v).events = s.events := rfl
@[simp] theorem setFld_unresolved (s : State) (off hi lo v : Nat) : (s.setFld off hi lo v).unresolved = s.unresolved := rfl
@[simp] theorem setFld_pccVal (s : State) (off hi lo v : Nat) : (s.setFld off hi lo v).pccVal = s.pccVal := rfl
@[simp] theorem setFld_pccSel (s : State) (off hi lo v : Nat) : (s.setFld off hi lo v).pccSel = s.pccSel := rfl
@[simp] theorem setFld_homes (s : State) (off hi lo v : Nat) : (s.setFld off hi lo v).homes = s.homes := rfl
@[simp] theorem setFld_dirMem (s : State) (off hi lo v : Nat) : (s.setFld off hi lo v).dirMem = s.dirMem := rfl
@[simp] theorem setFld_dirCtl (s : State) (off hi lo v : Nat) : (s.setFld off hi lo v).dirCtl = s.dirCtl := rfl
@[simp] theorem setFld_disp (s : State) (off hi lo v : Nat) : (s.setFld off hi lo v).disp = s.disp := rfl
@[simp] theorem setFld_jrnOff (s : State) (off hi lo v : Nat) : (s.setFld off hi lo v).jrnOff = s.jrnOff := rfl
@[simp] theorem setFld_dirFilter (s : State) (off hi lo v : Nat) : (s.setFld off hi lo v).dirFilter = s.dirFilter := rfl
@[simp] theorem setFld_dirAge (s : State) (off hi lo v : Nat) : (s.setFld off hi lo v).dirAge = s.dirAge := rfl
@[simp] theorem setFld_dirScrubAt (s : State) (off hi lo v : Nat) : (s.setFld off hi lo v).dirScrubAt = s.dirScrubAt := rfl
@[simp] theorem setFld_dirCes (s : State) (off hi lo v : Nat) : (s.setFld off hi lo v).dirCes = s.dirCes := rfl
@[simp] theorem setFld_reshapeStart (s : State) (off hi lo v : Nat) : (s.setFld off hi lo v).reshapeStart = s.reshapeStart := rfl
@[simp] theorem setFld_reshapeEvicted (s : State) (off hi lo v : Nat) : (s.setFld off hi lo v).reshapeEvicted = s.reshapeEvicted := rfl
@[simp] theorem setFld_reshapeQueue (s : State) (off hi lo v : Nat) : (s.setFld off hi lo v).reshapeQueue = s.reshapeQueue := rfl
@[simp] theorem setFld_dirTicks (s : State) (off hi lo v : Nat) : (s.setFld off hi lo v).dirTicks = s.dirTicks := rfl
@[simp] theorem setFld_away (s : State) (off hi lo v : Nat) : (s.setFld off hi lo v).away = s.away := rfl
@[simp] theorem setFld_masks (s : State) (off hi lo v : Nat) : (s.setFld off hi lo v).masks = s.masks := rfl
@[simp] theorem setFld_written (s : State) (off hi lo v : Nat) : (s.setFld off hi lo v).written = s.written := rfl
@[simp] theorem setFld_keyCount (s : State) (off hi lo v : Nat) : (s.setFld off hi lo v).keyCount = s.keyCount := rfl
@[simp] theorem setFld_keyHalf (s : State) (off hi lo v : Nat) : (s.setFld off hi lo v).keyHalf = s.keyHalf := rfl
@[simp] theorem setFld_fillKey (s : State) (off hi lo v : Nat) : (s.setFld off hi lo v).fillKey = s.fillKey := rfl
@[simp] theorem setFld_lineKeys (s : State) (off hi lo v : Nat) : (s.setFld off hi lo v).lineKeys = s.lineKeys := rfl
@[simp] theorem setFld_dramBad (s : State) (off hi lo v : Nat) : (s.setFld off hi lo v).dramBad = s.dramBad := rfl
@[simp] theorem setFld_ports (s : State) (off hi lo v : Nat) : (s.setFld off hi lo v).ports = s.ports := rfl
@[simp] theorem setFld_ucq (s : State) (off hi lo v : Nat) : (s.setFld off hi lo v).ucq = s.ucq := rfl
@[simp] theorem setFld_portTok (s : State) (off hi lo v : Nat) : (s.setFld off hi lo v).portTok = s.portTok := rfl
@[simp] theorem setFld_readQ (s : State) (off hi lo v : Nat) : (s.setFld off hi lo v).readQ = s.readQ := rfl
@[simp] theorem setFld_admitTurn (s : State) (off hi lo v : Nat) : (s.setFld off hi lo v).admitTurn = s.admitTurn := rfl
@[simp] theorem setFld_minTok (s : State) (off hi lo v : Nat) : (s.setFld off hi lo v).minTok = s.minTok := rfl
@[simp] theorem setFld_maxTok (s : State) (off hi lo v : Nat) : (s.setFld off hi lo v).maxTok = s.maxTok := rfl
@[simp] theorem setFld_openRow (s : State) (off hi lo v : Nat) : (s.setFld off hi lo v).openRow = s.openRow := rfl
@[simp] theorem setFld_powerDown (s : State) (off hi lo v : Nat) : (s.setFld off hi lo v).powerDown = s.powerDown := rfl
@[simp] theorem setFld_selfRefresh (s : State) (off hi lo v : Nat) : (s.setFld off hi lo v).selfRefresh = s.selfRefresh := rfl
@[simp] theorem setFld_replays (s : State) (off hi lo v : Nat) : (s.setFld off hi lo v).replays = s.replays := rfl
@[simp] theorem setFld_pot (s : State) (off hi lo v : Nat) : (s.setFld off hi lo v).pot = s.pot := rfl
@[simp] theorem setFld_realms (s : State) (off hi lo v : Nat) : (s.setFld off hi lo v).realms = s.realms := rfl
@[simp] theorem setFld_memberJobs (s : State) (off hi lo v : Nat) : (s.setFld off hi lo v).memberJobs = s.memberJobs := rfl
@[simp] theorem setFld_domains (s : State) (off hi lo v : Nat) : (s.setFld off hi lo v).domains = s.domains := rfl
@[simp] theorem setFld_tlbiUnit (s : State) (off hi lo v : Nat) : (s.setFld off hi lo v).tlbiUnit = s.tlbiUnit := rfl
@[simp] theorem setFld_ctxs (s : State) (off hi lo v : Nat) : (s.setFld off hi lo v).ctxs = s.ctxs := rfl
@[simp] theorem setFld_monitors (s : State) (off hi lo v : Nat) : (s.setFld off hi lo v).monitors = s.monitors := rfl
@[simp] theorem setFld_engines (s : State) (off hi lo v : Nat) : (s.setFld off hi lo v).engines = s.engines := rfl
@[simp] theorem setFld_ctxRuns (s : State) (off hi lo v : Nat) : (s.setFld off hi lo v).ctxRuns = s.ctxRuns := rfl
@[simp] theorem setFld_ctxJob (s : State) (off hi lo v : Nat) : (s.setFld off hi lo v).ctxJob = s.ctxJob := rfl
@[simp] theorem setFld_ctxBad (s : State) (off hi lo v : Nat) : (s.setFld off hi lo v).ctxBad = s.ctxBad := rfl
@[simp] theorem setFld_capUsed (s : State) (off hi lo v : Nat) : (s.setFld off hi lo v).capUsed = s.capUsed := rfl
@[simp] theorem setFld_capHeld (s : State) (off hi lo v : Nat) : (s.setFld off hi lo v).capHeld = s.capHeld := rfl
@[simp] theorem setFld_notice (s : State) (off hi lo v : Nat) : (s.setFld off hi lo v).notice = s.notice := rfl
@[simp] theorem setFld_links (s : State) (off hi lo v : Nat) : (s.setFld off hi lo v).links = s.links := rfl
@[simp] theorem setFld_image (s : State) (off hi lo v : Nat) : (s.setFld off hi lo v).image = s.image := rfl
@[simp] theorem setFld_completions (s : State) (off hi lo v : Nat) : (s.setFld off hi lo v).completions = s.completions := rfl
@[simp] theorem setFld_epf (s : State) (off hi lo v : Nat) : (s.setFld off hi lo v).epf = s.epf := rfl
@[simp] theorem setFld_inbound (s : State) (off hi lo v : Nat) : (s.setFld off hi lo v).inbound = s.inbound := rfl
@[simp] theorem setFld_mapDue (s : State) (off hi lo v : Nat) : (s.setFld off hi lo v).mapDue = s.mapDue := rfl
@[simp] theorem setFld_mapOld (s : State) (off hi lo v : Nat) : (s.setFld off hi lo v).mapOld = s.mapOld := rfl
@[simp] theorem setFld_devReads (s : State) (off hi lo v : Nat) : (s.setFld off hi lo v).devReads = s.devReads := rfl
@[simp] theorem setFld_devTag (s : State) (off hi lo v : Nat) : (s.setFld off hi lo v).devTag = s.devTag := rfl
@[simp] theorem setFld_rpOut (s : State) (off hi lo v : Nat) : (s.setFld off hi lo v).rpOut = s.rpOut := rfl
@[simp] theorem setFld_subsystem (s : State) (off hi lo v : Nat) : (s.setFld off hi lo v).subsystem = s.subsystem := rfl
@[simp] theorem setFld_dump (s : State) (off hi lo v : Nat) : (s.setFld off hi lo v).dump = s.dump := rfl
@[simp] theorem setFld_fuses (s : State) (off hi lo v : Nat) : (s.setFld off hi lo v).fuses = s.fuses := rfl
@[simp] theorem setFld_dieFuses (s : State) (off hi lo v : Nat) : (s.setFld off hi lo v).dieFuses = s.dieFuses := rfl
@[simp] theorem setFld_flash (s : State) (off hi lo v : Nat) : (s.setFld off hi lo v).flash = s.flash := rfl
@[simp] theorem setFld_sense (s : State) (off hi lo v : Nat) : (s.setFld off hi lo v).sense = s.sense := rfl
@[simp] theorem setFld_flashJob (s : State) (off hi lo v : Nat) : (s.setFld off hi lo v).flashJob = s.flashJob := rfl
@[simp] theorem setFld_drain (s : State) (off hi lo v : Nat) : (s.setFld off hi lo v).drain = s.drain := rfl
@[simp] theorem setFld_reshapeCmd (s : State) (off hi lo v : Nat) : (s.setFld off hi lo v).reshapeCmd = s.reshapeCmd := rfl
@[simp] theorem setFld_resetDue (s : State) (off hi lo v : Nat) : (s.setFld off hi lo v).resetDue = s.resetDue := rfl
@[simp] theorem setFld_bridges (s : State) (off hi lo v : Nat) : (s.setFld off hi lo v).bridges = s.bridges := rfl
@[simp] theorem setFld_meshHeld (s : State) (off hi lo v : Nat) : (s.setFld off hi lo v).meshHeld = s.meshHeld := rfl
@[simp] theorem setFld_meshTurn (s : State) (off hi lo v : Nat) : (s.setFld off hi lo v).meshTurn = s.meshTurn := rfl
@[simp] theorem setFld_parasol (s : State) (off hi lo v : Nat) : (s.setFld off hi lo v).parasol = s.parasol := rfl
@[simp] theorem setFld_ownerKeys (s : State) (off hi lo v : Nat) : (s.setFld off hi lo v).ownerKeys = s.ownerKeys := rfl
@[simp] theorem setFld_opNext (s : State) (off hi lo v : Nat) : (s.setFld off hi lo v).opNext = s.opNext := rfl
@[simp] theorem setFld_longOps (s : State) (off hi lo v : Nat) : (s.setFld off hi lo v).longOps = s.longOps := rfl
@[simp] theorem setFld_tops (s : State) (off hi lo v : Nat) : (s.setFld off hi lo v).tops = s.tops := rfl
@[simp] theorem setFld_chainDefault (s : State) (off hi lo v : Nat) : (s.setFld off hi lo v).chainDefault = s.chainDefault := rfl
@[simp] theorem setFld_alertN (s : State) (off hi lo v : Nat) : (s.setFld off hi lo v).alertN = s.alertN := rfl
@[simp] theorem setFld_thermtripN (s : State) (off hi lo v : Nat) : (s.setFld off hi lo v).thermtripN = s.thermtripN := rfl
@[simp] theorem setFld_mem (s : State) (off hi lo v : Nat) : (s.setFld off hi lo v).mem = s.mem := rfl
@[simp] theorem setFld_freeCount (s : State) (off hi lo v : Nat) : (s.setFld off hi lo v).freeCount = s.freeCount := rfl
@[simp] theorem addFld_pending (s : State) (off hi lo n : Nat) : (s.addFld off hi lo n).pending = s.pending := rfl
@[simp] theorem addFld_clause (s : State) (off hi lo n : Nat) : (s.addFld off hi lo n).clause = s.clause := rfl
@[simp] theorem addFld_phase (s : State) (off hi lo n : Nat) : (s.addFld off hi lo n).phase = s.phase := rfl
@[simp] theorem addFld_counting (s : State) (off hi lo n : Nat) : (s.addFld off hi lo n).counting = s.counting := rfl
@[simp] theorem addFld_vaux (s : State) (off hi lo n : Nat) : (s.addFld off hi lo n).vaux = s.vaux := rfl
@[simp] theorem addFld_pwrGood (s : State) (off hi lo n : Nat) : (s.addFld off hi lo n).pwrGood = s.pwrGood := rfl
@[simp] theorem addFld_resetN (s : State) (off hi lo n : Nat) : (s.addFld off hi lo n).resetN = s.resetN := rfl
@[simp] theorem addFld_mgrStrap (s : State) (off hi lo n : Nat) : (s.addFld off hi lo n).mgrStrap = s.mgrStrap := rfl
@[simp] theorem addFld_stbyStrap (s : State) (off hi lo n : Nat) : (s.addFld off hi lo n).stbyStrap = s.stbyStrap := rfl
@[simp] theorem addFld_threads (s : State) (off hi lo n : Nat) : (s.addFld off hi lo n).threads = s.threads := rfl
@[simp] theorem addFld_cores (s : State) (off hi lo n : Nat) : (s.addFld off hi lo n).cores = s.cores := rfl
@[simp] theorem addFld_dies (s : State) (off hi lo n : Nat) : (s.addFld off hi lo n).dies = s.dies := rfl
@[simp] theorem addFld_sent (s : State) (off hi lo n : Nat) : (s.addFld off hi lo n).sent = s.sent := rfl
@[simp] theorem addFld_log (s : State) (off hi lo n : Nat) : (s.addFld off hi lo n).log = s.log := rfl
@[simp] theorem addFld_events (s : State) (off hi lo n : Nat) : (s.addFld off hi lo n).events = s.events := rfl
@[simp] theorem addFld_unresolved (s : State) (off hi lo n : Nat) : (s.addFld off hi lo n).unresolved = s.unresolved := rfl
@[simp] theorem addFld_pccVal (s : State) (off hi lo n : Nat) : (s.addFld off hi lo n).pccVal = s.pccVal := rfl
@[simp] theorem addFld_pccSel (s : State) (off hi lo n : Nat) : (s.addFld off hi lo n).pccSel = s.pccSel := rfl
@[simp] theorem addFld_homes (s : State) (off hi lo n : Nat) : (s.addFld off hi lo n).homes = s.homes := rfl
@[simp] theorem addFld_dirMem (s : State) (off hi lo n : Nat) : (s.addFld off hi lo n).dirMem = s.dirMem := rfl
@[simp] theorem addFld_dirCtl (s : State) (off hi lo n : Nat) : (s.addFld off hi lo n).dirCtl = s.dirCtl := rfl
@[simp] theorem addFld_disp (s : State) (off hi lo n : Nat) : (s.addFld off hi lo n).disp = s.disp := rfl
@[simp] theorem addFld_jrnOff (s : State) (off hi lo n : Nat) : (s.addFld off hi lo n).jrnOff = s.jrnOff := rfl
@[simp] theorem addFld_dirFilter (s : State) (off hi lo n : Nat) : (s.addFld off hi lo n).dirFilter = s.dirFilter := rfl
@[simp] theorem addFld_dirAge (s : State) (off hi lo n : Nat) : (s.addFld off hi lo n).dirAge = s.dirAge := rfl
@[simp] theorem addFld_dirScrubAt (s : State) (off hi lo n : Nat) : (s.addFld off hi lo n).dirScrubAt = s.dirScrubAt := rfl
@[simp] theorem addFld_dirCes (s : State) (off hi lo n : Nat) : (s.addFld off hi lo n).dirCes = s.dirCes := rfl
@[simp] theorem addFld_reshapeStart (s : State) (off hi lo n : Nat) : (s.addFld off hi lo n).reshapeStart = s.reshapeStart := rfl
@[simp] theorem addFld_reshapeEvicted (s : State) (off hi lo n : Nat) : (s.addFld off hi lo n).reshapeEvicted = s.reshapeEvicted := rfl
@[simp] theorem addFld_reshapeQueue (s : State) (off hi lo n : Nat) : (s.addFld off hi lo n).reshapeQueue = s.reshapeQueue := rfl
@[simp] theorem addFld_dirTicks (s : State) (off hi lo n : Nat) : (s.addFld off hi lo n).dirTicks = s.dirTicks := rfl
@[simp] theorem addFld_away (s : State) (off hi lo n : Nat) : (s.addFld off hi lo n).away = s.away := rfl
@[simp] theorem addFld_masks (s : State) (off hi lo n : Nat) : (s.addFld off hi lo n).masks = s.masks := rfl
@[simp] theorem addFld_written (s : State) (off hi lo n : Nat) : (s.addFld off hi lo n).written = s.written := rfl
@[simp] theorem addFld_keyCount (s : State) (off hi lo n : Nat) : (s.addFld off hi lo n).keyCount = s.keyCount := rfl
@[simp] theorem addFld_keyHalf (s : State) (off hi lo n : Nat) : (s.addFld off hi lo n).keyHalf = s.keyHalf := rfl
@[simp] theorem addFld_fillKey (s : State) (off hi lo n : Nat) : (s.addFld off hi lo n).fillKey = s.fillKey := rfl
@[simp] theorem addFld_lineKeys (s : State) (off hi lo n : Nat) : (s.addFld off hi lo n).lineKeys = s.lineKeys := rfl
@[simp] theorem addFld_dramBad (s : State) (off hi lo n : Nat) : (s.addFld off hi lo n).dramBad = s.dramBad := rfl
@[simp] theorem addFld_ports (s : State) (off hi lo n : Nat) : (s.addFld off hi lo n).ports = s.ports := rfl
@[simp] theorem addFld_ucq (s : State) (off hi lo n : Nat) : (s.addFld off hi lo n).ucq = s.ucq := rfl
@[simp] theorem addFld_portTok (s : State) (off hi lo n : Nat) : (s.addFld off hi lo n).portTok = s.portTok := rfl
@[simp] theorem addFld_readQ (s : State) (off hi lo n : Nat) : (s.addFld off hi lo n).readQ = s.readQ := rfl
@[simp] theorem addFld_admitTurn (s : State) (off hi lo n : Nat) : (s.addFld off hi lo n).admitTurn = s.admitTurn := rfl
@[simp] theorem addFld_minTok (s : State) (off hi lo n : Nat) : (s.addFld off hi lo n).minTok = s.minTok := rfl
@[simp] theorem addFld_maxTok (s : State) (off hi lo n : Nat) : (s.addFld off hi lo n).maxTok = s.maxTok := rfl
@[simp] theorem addFld_openRow (s : State) (off hi lo n : Nat) : (s.addFld off hi lo n).openRow = s.openRow := rfl
@[simp] theorem addFld_powerDown (s : State) (off hi lo n : Nat) : (s.addFld off hi lo n).powerDown = s.powerDown := rfl
@[simp] theorem addFld_selfRefresh (s : State) (off hi lo n : Nat) : (s.addFld off hi lo n).selfRefresh = s.selfRefresh := rfl
@[simp] theorem addFld_replays (s : State) (off hi lo n : Nat) : (s.addFld off hi lo n).replays = s.replays := rfl
@[simp] theorem addFld_pot (s : State) (off hi lo n : Nat) : (s.addFld off hi lo n).pot = s.pot := rfl
@[simp] theorem addFld_realms (s : State) (off hi lo n : Nat) : (s.addFld off hi lo n).realms = s.realms := rfl
@[simp] theorem addFld_memberJobs (s : State) (off hi lo n : Nat) : (s.addFld off hi lo n).memberJobs = s.memberJobs := rfl
@[simp] theorem addFld_domains (s : State) (off hi lo n : Nat) : (s.addFld off hi lo n).domains = s.domains := rfl
@[simp] theorem addFld_tlbiUnit (s : State) (off hi lo n : Nat) : (s.addFld off hi lo n).tlbiUnit = s.tlbiUnit := rfl
@[simp] theorem addFld_ctxs (s : State) (off hi lo n : Nat) : (s.addFld off hi lo n).ctxs = s.ctxs := rfl
@[simp] theorem addFld_monitors (s : State) (off hi lo n : Nat) : (s.addFld off hi lo n).monitors = s.monitors := rfl
@[simp] theorem addFld_engines (s : State) (off hi lo n : Nat) : (s.addFld off hi lo n).engines = s.engines := rfl
@[simp] theorem addFld_ctxRuns (s : State) (off hi lo n : Nat) : (s.addFld off hi lo n).ctxRuns = s.ctxRuns := rfl
@[simp] theorem addFld_ctxJob (s : State) (off hi lo n : Nat) : (s.addFld off hi lo n).ctxJob = s.ctxJob := rfl
@[simp] theorem addFld_ctxBad (s : State) (off hi lo n : Nat) : (s.addFld off hi lo n).ctxBad = s.ctxBad := rfl
@[simp] theorem addFld_capUsed (s : State) (off hi lo n : Nat) : (s.addFld off hi lo n).capUsed = s.capUsed := rfl
@[simp] theorem addFld_capHeld (s : State) (off hi lo n : Nat) : (s.addFld off hi lo n).capHeld = s.capHeld := rfl
@[simp] theorem addFld_notice (s : State) (off hi lo n : Nat) : (s.addFld off hi lo n).notice = s.notice := rfl
@[simp] theorem addFld_links (s : State) (off hi lo n : Nat) : (s.addFld off hi lo n).links = s.links := rfl
@[simp] theorem addFld_image (s : State) (off hi lo n : Nat) : (s.addFld off hi lo n).image = s.image := rfl
@[simp] theorem addFld_completions (s : State) (off hi lo n : Nat) : (s.addFld off hi lo n).completions = s.completions := rfl
@[simp] theorem addFld_epf (s : State) (off hi lo n : Nat) : (s.addFld off hi lo n).epf = s.epf := rfl
@[simp] theorem addFld_inbound (s : State) (off hi lo n : Nat) : (s.addFld off hi lo n).inbound = s.inbound := rfl
@[simp] theorem addFld_mapDue (s : State) (off hi lo n : Nat) : (s.addFld off hi lo n).mapDue = s.mapDue := rfl
@[simp] theorem addFld_mapOld (s : State) (off hi lo n : Nat) : (s.addFld off hi lo n).mapOld = s.mapOld := rfl
@[simp] theorem addFld_devReads (s : State) (off hi lo n : Nat) : (s.addFld off hi lo n).devReads = s.devReads := rfl
@[simp] theorem addFld_devTag (s : State) (off hi lo n : Nat) : (s.addFld off hi lo n).devTag = s.devTag := rfl
@[simp] theorem addFld_rpOut (s : State) (off hi lo n : Nat) : (s.addFld off hi lo n).rpOut = s.rpOut := rfl
@[simp] theorem addFld_subsystem (s : State) (off hi lo n : Nat) : (s.addFld off hi lo n).subsystem = s.subsystem := rfl
@[simp] theorem addFld_dump (s : State) (off hi lo n : Nat) : (s.addFld off hi lo n).dump = s.dump := rfl
@[simp] theorem addFld_fuses (s : State) (off hi lo n : Nat) : (s.addFld off hi lo n).fuses = s.fuses := rfl
@[simp] theorem addFld_dieFuses (s : State) (off hi lo n : Nat) : (s.addFld off hi lo n).dieFuses = s.dieFuses := rfl
@[simp] theorem addFld_flash (s : State) (off hi lo n : Nat) : (s.addFld off hi lo n).flash = s.flash := rfl
@[simp] theorem addFld_sense (s : State) (off hi lo n : Nat) : (s.addFld off hi lo n).sense = s.sense := rfl
@[simp] theorem addFld_flashJob (s : State) (off hi lo n : Nat) : (s.addFld off hi lo n).flashJob = s.flashJob := rfl
@[simp] theorem addFld_drain (s : State) (off hi lo n : Nat) : (s.addFld off hi lo n).drain = s.drain := rfl
@[simp] theorem addFld_reshapeCmd (s : State) (off hi lo n : Nat) : (s.addFld off hi lo n).reshapeCmd = s.reshapeCmd := rfl
@[simp] theorem addFld_resetDue (s : State) (off hi lo n : Nat) : (s.addFld off hi lo n).resetDue = s.resetDue := rfl
@[simp] theorem addFld_bridges (s : State) (off hi lo n : Nat) : (s.addFld off hi lo n).bridges = s.bridges := rfl
@[simp] theorem addFld_meshHeld (s : State) (off hi lo n : Nat) : (s.addFld off hi lo n).meshHeld = s.meshHeld := rfl
@[simp] theorem addFld_meshTurn (s : State) (off hi lo n : Nat) : (s.addFld off hi lo n).meshTurn = s.meshTurn := rfl
@[simp] theorem addFld_parasol (s : State) (off hi lo n : Nat) : (s.addFld off hi lo n).parasol = s.parasol := rfl
@[simp] theorem addFld_ownerKeys (s : State) (off hi lo n : Nat) : (s.addFld off hi lo n).ownerKeys = s.ownerKeys := rfl
@[simp] theorem addFld_opNext (s : State) (off hi lo n : Nat) : (s.addFld off hi lo n).opNext = s.opNext := rfl
@[simp] theorem addFld_longOps (s : State) (off hi lo n : Nat) : (s.addFld off hi lo n).longOps = s.longOps := rfl
@[simp] theorem addFld_tops (s : State) (off hi lo n : Nat) : (s.addFld off hi lo n).tops = s.tops := rfl
@[simp] theorem addFld_chainDefault (s : State) (off hi lo n : Nat) : (s.addFld off hi lo n).chainDefault = s.chainDefault := rfl
@[simp] theorem addFld_alertN (s : State) (off hi lo n : Nat) : (s.addFld off hi lo n).alertN = s.alertN := rfl
@[simp] theorem addFld_thermtripN (s : State) (off hi lo n : Nat) : (s.addFld off hi lo n).thermtripN = s.thermtripN := rfl
@[simp] theorem addFld_mem (s : State) (off hi lo n : Nat) : (s.addFld off hi lo n).mem = s.mem := rfl
@[simp] theorem addFld_freeCount (s : State) (off hi lo n : Nat) : (s.addFld off hi lo n).freeCount = s.freeCount := rfl
@[simp] theorem setThread_pending (s : State) (t : Nat) (x : Thread) : (s.setThread t x).pending = s.pending := rfl
@[simp] theorem setThread_clause (s : State) (t : Nat) (x : Thread) : (s.setThread t x).clause = s.clause := rfl
@[simp] theorem setThread_phase (s : State) (t : Nat) (x : Thread) : (s.setThread t x).phase = s.phase := rfl
@[simp] theorem setThread_counting (s : State) (t : Nat) (x : Thread) : (s.setThread t x).counting = s.counting := rfl
@[simp] theorem setThread_regs (s : State) (t : Nat) (x : Thread) : (s.setThread t x).regs = s.regs := rfl
@[simp] theorem setThread_vaux (s : State) (t : Nat) (x : Thread) : (s.setThread t x).vaux = s.vaux := rfl
@[simp] theorem setThread_pwrGood (s : State) (t : Nat) (x : Thread) : (s.setThread t x).pwrGood = s.pwrGood := rfl
@[simp] theorem setThread_resetN (s : State) (t : Nat) (x : Thread) : (s.setThread t x).resetN = s.resetN := rfl
@[simp] theorem setThread_mgrStrap (s : State) (t : Nat) (x : Thread) : (s.setThread t x).mgrStrap = s.mgrStrap := rfl
@[simp] theorem setThread_stbyStrap (s : State) (t : Nat) (x : Thread) : (s.setThread t x).stbyStrap = s.stbyStrap := rfl
@[simp] theorem setThread_cores (s : State) (t : Nat) (x : Thread) : (s.setThread t x).cores = s.cores := rfl
@[simp] theorem setThread_dies (s : State) (t : Nat) (x : Thread) : (s.setThread t x).dies = s.dies := rfl
@[simp] theorem setThread_sent (s : State) (t : Nat) (x : Thread) : (s.setThread t x).sent = s.sent := rfl
@[simp] theorem setThread_log (s : State) (t : Nat) (x : Thread) : (s.setThread t x).log = s.log := rfl
@[simp] theorem setThread_events (s : State) (t : Nat) (x : Thread) : (s.setThread t x).events = s.events := rfl
@[simp] theorem setThread_unresolved (s : State) (t : Nat) (x : Thread) : (s.setThread t x).unresolved = s.unresolved := rfl
@[simp] theorem setThread_pccVal (s : State) (t : Nat) (x : Thread) : (s.setThread t x).pccVal = s.pccVal := rfl
@[simp] theorem setThread_pccSel (s : State) (t : Nat) (x : Thread) : (s.setThread t x).pccSel = s.pccSel := rfl
@[simp] theorem setThread_homes (s : State) (t : Nat) (x : Thread) : (s.setThread t x).homes = s.homes := rfl
@[simp] theorem setThread_dirMem (s : State) (t : Nat) (x : Thread) : (s.setThread t x).dirMem = s.dirMem := rfl
@[simp] theorem setThread_dirCtl (s : State) (t : Nat) (x : Thread) : (s.setThread t x).dirCtl = s.dirCtl := rfl
@[simp] theorem setThread_disp (s : State) (t : Nat) (x : Thread) : (s.setThread t x).disp = s.disp := rfl
@[simp] theorem setThread_jrnOff (s : State) (t : Nat) (x : Thread) : (s.setThread t x).jrnOff = s.jrnOff := rfl
@[simp] theorem setThread_dirFilter (s : State) (t : Nat) (x : Thread) : (s.setThread t x).dirFilter = s.dirFilter := rfl
@[simp] theorem setThread_dirAge (s : State) (t : Nat) (x : Thread) : (s.setThread t x).dirAge = s.dirAge := rfl
@[simp] theorem setThread_dirScrubAt (s : State) (t : Nat) (x : Thread) : (s.setThread t x).dirScrubAt = s.dirScrubAt := rfl
@[simp] theorem setThread_dirCes (s : State) (t : Nat) (x : Thread) : (s.setThread t x).dirCes = s.dirCes := rfl
@[simp] theorem setThread_reshapeStart (s : State) (t : Nat) (x : Thread) : (s.setThread t x).reshapeStart = s.reshapeStart := rfl
@[simp] theorem setThread_reshapeEvicted (s : State) (t : Nat) (x : Thread) : (s.setThread t x).reshapeEvicted = s.reshapeEvicted := rfl
@[simp] theorem setThread_reshapeQueue (s : State) (t : Nat) (x : Thread) : (s.setThread t x).reshapeQueue = s.reshapeQueue := rfl
@[simp] theorem setThread_dirTicks (s : State) (t : Nat) (x : Thread) : (s.setThread t x).dirTicks = s.dirTicks := rfl
@[simp] theorem setThread_away (s : State) (t : Nat) (x : Thread) : (s.setThread t x).away = s.away := rfl
@[simp] theorem setThread_masks (s : State) (t : Nat) (x : Thread) : (s.setThread t x).masks = s.masks := rfl
@[simp] theorem setThread_written (s : State) (t : Nat) (x : Thread) : (s.setThread t x).written = s.written := rfl
@[simp] theorem setThread_keyCount (s : State) (t : Nat) (x : Thread) : (s.setThread t x).keyCount = s.keyCount := rfl
@[simp] theorem setThread_keyHalf (s : State) (t : Nat) (x : Thread) : (s.setThread t x).keyHalf = s.keyHalf := rfl
@[simp] theorem setThread_fillKey (s : State) (t : Nat) (x : Thread) : (s.setThread t x).fillKey = s.fillKey := rfl
@[simp] theorem setThread_lineKeys (s : State) (t : Nat) (x : Thread) : (s.setThread t x).lineKeys = s.lineKeys := rfl
@[simp] theorem setThread_dramBad (s : State) (t : Nat) (x : Thread) : (s.setThread t x).dramBad = s.dramBad := rfl
@[simp] theorem setThread_ports (s : State) (t : Nat) (x : Thread) : (s.setThread t x).ports = s.ports := rfl
@[simp] theorem setThread_ucq (s : State) (t : Nat) (x : Thread) : (s.setThread t x).ucq = s.ucq := rfl
@[simp] theorem setThread_portTok (s : State) (t : Nat) (x : Thread) : (s.setThread t x).portTok = s.portTok := rfl
@[simp] theorem setThread_readQ (s : State) (t : Nat) (x : Thread) : (s.setThread t x).readQ = s.readQ := rfl
@[simp] theorem setThread_admitTurn (s : State) (t : Nat) (x : Thread) : (s.setThread t x).admitTurn = s.admitTurn := rfl
@[simp] theorem setThread_minTok (s : State) (t : Nat) (x : Thread) : (s.setThread t x).minTok = s.minTok := rfl
@[simp] theorem setThread_maxTok (s : State) (t : Nat) (x : Thread) : (s.setThread t x).maxTok = s.maxTok := rfl
@[simp] theorem setThread_openRow (s : State) (t : Nat) (x : Thread) : (s.setThread t x).openRow = s.openRow := rfl
@[simp] theorem setThread_powerDown (s : State) (t : Nat) (x : Thread) : (s.setThread t x).powerDown = s.powerDown := rfl
@[simp] theorem setThread_selfRefresh (s : State) (t : Nat) (x : Thread) : (s.setThread t x).selfRefresh = s.selfRefresh := rfl
@[simp] theorem setThread_replays (s : State) (t : Nat) (x : Thread) : (s.setThread t x).replays = s.replays := rfl
@[simp] theorem setThread_pot (s : State) (t : Nat) (x : Thread) : (s.setThread t x).pot = s.pot := rfl
@[simp] theorem setThread_realms (s : State) (t : Nat) (x : Thread) : (s.setThread t x).realms = s.realms := rfl
@[simp] theorem setThread_memberJobs (s : State) (t : Nat) (x : Thread) : (s.setThread t x).memberJobs = s.memberJobs := rfl
@[simp] theorem setThread_domains (s : State) (t : Nat) (x : Thread) : (s.setThread t x).domains = s.domains := rfl
@[simp] theorem setThread_tlbiUnit (s : State) (t : Nat) (x : Thread) : (s.setThread t x).tlbiUnit = s.tlbiUnit := rfl
@[simp] theorem setThread_ctxs (s : State) (t : Nat) (x : Thread) : (s.setThread t x).ctxs = s.ctxs := rfl
@[simp] theorem setThread_monitors (s : State) (t : Nat) (x : Thread) : (s.setThread t x).monitors = s.monitors := rfl
@[simp] theorem setThread_engines (s : State) (t : Nat) (x : Thread) : (s.setThread t x).engines = s.engines := rfl
@[simp] theorem setThread_ctxRuns (s : State) (t : Nat) (x : Thread) : (s.setThread t x).ctxRuns = s.ctxRuns := rfl
@[simp] theorem setThread_ctxJob (s : State) (t : Nat) (x : Thread) : (s.setThread t x).ctxJob = s.ctxJob := rfl
@[simp] theorem setThread_ctxBad (s : State) (t : Nat) (x : Thread) : (s.setThread t x).ctxBad = s.ctxBad := rfl
@[simp] theorem setThread_capUsed (s : State) (t : Nat) (x : Thread) : (s.setThread t x).capUsed = s.capUsed := rfl
@[simp] theorem setThread_capHeld (s : State) (t : Nat) (x : Thread) : (s.setThread t x).capHeld = s.capHeld := rfl
@[simp] theorem setThread_notice (s : State) (t : Nat) (x : Thread) : (s.setThread t x).notice = s.notice := rfl
@[simp] theorem setThread_links (s : State) (t : Nat) (x : Thread) : (s.setThread t x).links = s.links := rfl
@[simp] theorem setThread_image (s : State) (t : Nat) (x : Thread) : (s.setThread t x).image = s.image := rfl
@[simp] theorem setThread_completions (s : State) (t : Nat) (x : Thread) : (s.setThread t x).completions = s.completions := rfl
@[simp] theorem setThread_epf (s : State) (t : Nat) (x : Thread) : (s.setThread t x).epf = s.epf := rfl
@[simp] theorem setThread_inbound (s : State) (t : Nat) (x : Thread) : (s.setThread t x).inbound = s.inbound := rfl
@[simp] theorem setThread_mapDue (s : State) (t : Nat) (x : Thread) : (s.setThread t x).mapDue = s.mapDue := rfl
@[simp] theorem setThread_mapOld (s : State) (t : Nat) (x : Thread) : (s.setThread t x).mapOld = s.mapOld := rfl
@[simp] theorem setThread_devReads (s : State) (t : Nat) (x : Thread) : (s.setThread t x).devReads = s.devReads := rfl
@[simp] theorem setThread_devTag (s : State) (t : Nat) (x : Thread) : (s.setThread t x).devTag = s.devTag := rfl
@[simp] theorem setThread_rpOut (s : State) (t : Nat) (x : Thread) : (s.setThread t x).rpOut = s.rpOut := rfl
@[simp] theorem setThread_subsystem (s : State) (t : Nat) (x : Thread) : (s.setThread t x).subsystem = s.subsystem := rfl
@[simp] theorem setThread_dump (s : State) (t : Nat) (x : Thread) : (s.setThread t x).dump = s.dump := rfl
@[simp] theorem setThread_fuses (s : State) (t : Nat) (x : Thread) : (s.setThread t x).fuses = s.fuses := rfl
@[simp] theorem setThread_dieFuses (s : State) (t : Nat) (x : Thread) : (s.setThread t x).dieFuses = s.dieFuses := rfl
@[simp] theorem setThread_flash (s : State) (t : Nat) (x : Thread) : (s.setThread t x).flash = s.flash := rfl
@[simp] theorem setThread_sense (s : State) (t : Nat) (x : Thread) : (s.setThread t x).sense = s.sense := rfl
@[simp] theorem setThread_flashJob (s : State) (t : Nat) (x : Thread) : (s.setThread t x).flashJob = s.flashJob := rfl
@[simp] theorem setThread_drain (s : State) (t : Nat) (x : Thread) : (s.setThread t x).drain = s.drain := rfl
@[simp] theorem setThread_reshapeCmd (s : State) (t : Nat) (x : Thread) : (s.setThread t x).reshapeCmd = s.reshapeCmd := rfl
@[simp] theorem setThread_resetDue (s : State) (t : Nat) (x : Thread) : (s.setThread t x).resetDue = s.resetDue := rfl
@[simp] theorem setThread_bridges (s : State) (t : Nat) (x : Thread) : (s.setThread t x).bridges = s.bridges := rfl
@[simp] theorem setThread_meshHeld (s : State) (t : Nat) (x : Thread) : (s.setThread t x).meshHeld = s.meshHeld := rfl
@[simp] theorem setThread_meshTurn (s : State) (t : Nat) (x : Thread) : (s.setThread t x).meshTurn = s.meshTurn := rfl
@[simp] theorem setThread_parasol (s : State) (t : Nat) (x : Thread) : (s.setThread t x).parasol = s.parasol := rfl
@[simp] theorem setThread_ownerKeys (s : State) (t : Nat) (x : Thread) : (s.setThread t x).ownerKeys = s.ownerKeys := rfl
@[simp] theorem setThread_opNext (s : State) (t : Nat) (x : Thread) : (s.setThread t x).opNext = s.opNext := rfl
@[simp] theorem setThread_longOps (s : State) (t : Nat) (x : Thread) : (s.setThread t x).longOps = s.longOps := rfl
@[simp] theorem setThread_tops (s : State) (t : Nat) (x : Thread) : (s.setThread t x).tops = s.tops := rfl
@[simp] theorem setThread_chainDefault (s : State) (t : Nat) (x : Thread) : (s.setThread t x).chainDefault = s.chainDefault := rfl
@[simp] theorem setThread_alertN (s : State) (t : Nat) (x : Thread) : (s.setThread t x).alertN = s.alertN := rfl
@[simp] theorem setThread_thermtripN (s : State) (t : Nat) (x : Thread) : (s.setThread t x).thermtripN = s.thermtripN := rfl
@[simp] theorem setThread_mem (s : State) (t : Nat) (x : Thread) : (s.setThread t x).mem = s.mem := rfl
@[simp] theorem setThread_freeCount (s : State) (t : Nat) (x : Thread) : (s.setThread t x).freeCount = s.freeCount := rfl
@[simp] theorem modThread_pending (s : State) (t : Nat) (f : Thread → Thread) : (s.modThread t f).pending = s.pending := rfl
@[simp] theorem modThread_clause (s : State) (t : Nat) (f : Thread → Thread) : (s.modThread t f).clause = s.clause := rfl
@[simp] theorem modThread_phase (s : State) (t : Nat) (f : Thread → Thread) : (s.modThread t f).phase = s.phase := rfl
@[simp] theorem modThread_counting (s : State) (t : Nat) (f : Thread → Thread) : (s.modThread t f).counting = s.counting := rfl
@[simp] theorem modThread_regs (s : State) (t : Nat) (f : Thread → Thread) : (s.modThread t f).regs = s.regs := rfl
@[simp] theorem modThread_vaux (s : State) (t : Nat) (f : Thread → Thread) : (s.modThread t f).vaux = s.vaux := rfl
@[simp] theorem modThread_pwrGood (s : State) (t : Nat) (f : Thread → Thread) : (s.modThread t f).pwrGood = s.pwrGood := rfl
@[simp] theorem modThread_resetN (s : State) (t : Nat) (f : Thread → Thread) : (s.modThread t f).resetN = s.resetN := rfl
@[simp] theorem modThread_mgrStrap (s : State) (t : Nat) (f : Thread → Thread) : (s.modThread t f).mgrStrap = s.mgrStrap := rfl
@[simp] theorem modThread_stbyStrap (s : State) (t : Nat) (f : Thread → Thread) : (s.modThread t f).stbyStrap = s.stbyStrap := rfl
@[simp] theorem modThread_cores (s : State) (t : Nat) (f : Thread → Thread) : (s.modThread t f).cores = s.cores := rfl
@[simp] theorem modThread_dies (s : State) (t : Nat) (f : Thread → Thread) : (s.modThread t f).dies = s.dies := rfl
@[simp] theorem modThread_sent (s : State) (t : Nat) (f : Thread → Thread) : (s.modThread t f).sent = s.sent := rfl
@[simp] theorem modThread_log (s : State) (t : Nat) (f : Thread → Thread) : (s.modThread t f).log = s.log := rfl
@[simp] theorem modThread_events (s : State) (t : Nat) (f : Thread → Thread) : (s.modThread t f).events = s.events := rfl
@[simp] theorem modThread_unresolved (s : State) (t : Nat) (f : Thread → Thread) : (s.modThread t f).unresolved = s.unresolved := rfl
@[simp] theorem modThread_pccVal (s : State) (t : Nat) (f : Thread → Thread) : (s.modThread t f).pccVal = s.pccVal := rfl
@[simp] theorem modThread_pccSel (s : State) (t : Nat) (f : Thread → Thread) : (s.modThread t f).pccSel = s.pccSel := rfl
@[simp] theorem modThread_homes (s : State) (t : Nat) (f : Thread → Thread) : (s.modThread t f).homes = s.homes := rfl
@[simp] theorem modThread_dirMem (s : State) (t : Nat) (f : Thread → Thread) : (s.modThread t f).dirMem = s.dirMem := rfl
@[simp] theorem modThread_dirCtl (s : State) (t : Nat) (f : Thread → Thread) : (s.modThread t f).dirCtl = s.dirCtl := rfl
@[simp] theorem modThread_disp (s : State) (t : Nat) (f : Thread → Thread) : (s.modThread t f).disp = s.disp := rfl
@[simp] theorem modThread_jrnOff (s : State) (t : Nat) (f : Thread → Thread) : (s.modThread t f).jrnOff = s.jrnOff := rfl
@[simp] theorem modThread_dirFilter (s : State) (t : Nat) (f : Thread → Thread) : (s.modThread t f).dirFilter = s.dirFilter := rfl
@[simp] theorem modThread_dirAge (s : State) (t : Nat) (f : Thread → Thread) : (s.modThread t f).dirAge = s.dirAge := rfl
@[simp] theorem modThread_dirScrubAt (s : State) (t : Nat) (f : Thread → Thread) : (s.modThread t f).dirScrubAt = s.dirScrubAt := rfl
@[simp] theorem modThread_dirCes (s : State) (t : Nat) (f : Thread → Thread) : (s.modThread t f).dirCes = s.dirCes := rfl
@[simp] theorem modThread_reshapeStart (s : State) (t : Nat) (f : Thread → Thread) : (s.modThread t f).reshapeStart = s.reshapeStart := rfl
@[simp] theorem modThread_reshapeEvicted (s : State) (t : Nat) (f : Thread → Thread) : (s.modThread t f).reshapeEvicted = s.reshapeEvicted := rfl
@[simp] theorem modThread_reshapeQueue (s : State) (t : Nat) (f : Thread → Thread) : (s.modThread t f).reshapeQueue = s.reshapeQueue := rfl
@[simp] theorem modThread_dirTicks (s : State) (t : Nat) (f : Thread → Thread) : (s.modThread t f).dirTicks = s.dirTicks := rfl
@[simp] theorem modThread_away (s : State) (t : Nat) (f : Thread → Thread) : (s.modThread t f).away = s.away := rfl
@[simp] theorem modThread_masks (s : State) (t : Nat) (f : Thread → Thread) : (s.modThread t f).masks = s.masks := rfl
@[simp] theorem modThread_written (s : State) (t : Nat) (f : Thread → Thread) : (s.modThread t f).written = s.written := rfl
@[simp] theorem modThread_keyCount (s : State) (t : Nat) (f : Thread → Thread) : (s.modThread t f).keyCount = s.keyCount := rfl
@[simp] theorem modThread_keyHalf (s : State) (t : Nat) (f : Thread → Thread) : (s.modThread t f).keyHalf = s.keyHalf := rfl
@[simp] theorem modThread_fillKey (s : State) (t : Nat) (f : Thread → Thread) : (s.modThread t f).fillKey = s.fillKey := rfl
@[simp] theorem modThread_lineKeys (s : State) (t : Nat) (f : Thread → Thread) : (s.modThread t f).lineKeys = s.lineKeys := rfl
@[simp] theorem modThread_dramBad (s : State) (t : Nat) (f : Thread → Thread) : (s.modThread t f).dramBad = s.dramBad := rfl
@[simp] theorem modThread_ports (s : State) (t : Nat) (f : Thread → Thread) : (s.modThread t f).ports = s.ports := rfl
@[simp] theorem modThread_ucq (s : State) (t : Nat) (f : Thread → Thread) : (s.modThread t f).ucq = s.ucq := rfl
@[simp] theorem modThread_portTok (s : State) (t : Nat) (f : Thread → Thread) : (s.modThread t f).portTok = s.portTok := rfl
@[simp] theorem modThread_readQ (s : State) (t : Nat) (f : Thread → Thread) : (s.modThread t f).readQ = s.readQ := rfl
@[simp] theorem modThread_admitTurn (s : State) (t : Nat) (f : Thread → Thread) : (s.modThread t f).admitTurn = s.admitTurn := rfl
@[simp] theorem modThread_minTok (s : State) (t : Nat) (f : Thread → Thread) : (s.modThread t f).minTok = s.minTok := rfl
@[simp] theorem modThread_maxTok (s : State) (t : Nat) (f : Thread → Thread) : (s.modThread t f).maxTok = s.maxTok := rfl
@[simp] theorem modThread_openRow (s : State) (t : Nat) (f : Thread → Thread) : (s.modThread t f).openRow = s.openRow := rfl
@[simp] theorem modThread_powerDown (s : State) (t : Nat) (f : Thread → Thread) : (s.modThread t f).powerDown = s.powerDown := rfl
@[simp] theorem modThread_selfRefresh (s : State) (t : Nat) (f : Thread → Thread) : (s.modThread t f).selfRefresh = s.selfRefresh := rfl
@[simp] theorem modThread_replays (s : State) (t : Nat) (f : Thread → Thread) : (s.modThread t f).replays = s.replays := rfl
@[simp] theorem modThread_pot (s : State) (t : Nat) (f : Thread → Thread) : (s.modThread t f).pot = s.pot := rfl
@[simp] theorem modThread_realms (s : State) (t : Nat) (f : Thread → Thread) : (s.modThread t f).realms = s.realms := rfl
@[simp] theorem modThread_memberJobs (s : State) (t : Nat) (f : Thread → Thread) : (s.modThread t f).memberJobs = s.memberJobs := rfl
@[simp] theorem modThread_domains (s : State) (t : Nat) (f : Thread → Thread) : (s.modThread t f).domains = s.domains := rfl
@[simp] theorem modThread_tlbiUnit (s : State) (t : Nat) (f : Thread → Thread) : (s.modThread t f).tlbiUnit = s.tlbiUnit := rfl
@[simp] theorem modThread_ctxs (s : State) (t : Nat) (f : Thread → Thread) : (s.modThread t f).ctxs = s.ctxs := rfl
@[simp] theorem modThread_monitors (s : State) (t : Nat) (f : Thread → Thread) : (s.modThread t f).monitors = s.monitors := rfl
@[simp] theorem modThread_engines (s : State) (t : Nat) (f : Thread → Thread) : (s.modThread t f).engines = s.engines := rfl
@[simp] theorem modThread_ctxRuns (s : State) (t : Nat) (f : Thread → Thread) : (s.modThread t f).ctxRuns = s.ctxRuns := rfl
@[simp] theorem modThread_ctxJob (s : State) (t : Nat) (f : Thread → Thread) : (s.modThread t f).ctxJob = s.ctxJob := rfl
@[simp] theorem modThread_ctxBad (s : State) (t : Nat) (f : Thread → Thread) : (s.modThread t f).ctxBad = s.ctxBad := rfl
@[simp] theorem modThread_capUsed (s : State) (t : Nat) (f : Thread → Thread) : (s.modThread t f).capUsed = s.capUsed := rfl
@[simp] theorem modThread_capHeld (s : State) (t : Nat) (f : Thread → Thread) : (s.modThread t f).capHeld = s.capHeld := rfl
@[simp] theorem modThread_notice (s : State) (t : Nat) (f : Thread → Thread) : (s.modThread t f).notice = s.notice := rfl
@[simp] theorem modThread_links (s : State) (t : Nat) (f : Thread → Thread) : (s.modThread t f).links = s.links := rfl
@[simp] theorem modThread_image (s : State) (t : Nat) (f : Thread → Thread) : (s.modThread t f).image = s.image := rfl
@[simp] theorem modThread_completions (s : State) (t : Nat) (f : Thread → Thread) : (s.modThread t f).completions = s.completions := rfl
@[simp] theorem modThread_epf (s : State) (t : Nat) (f : Thread → Thread) : (s.modThread t f).epf = s.epf := rfl
@[simp] theorem modThread_inbound (s : State) (t : Nat) (f : Thread → Thread) : (s.modThread t f).inbound = s.inbound := rfl
@[simp] theorem modThread_mapDue (s : State) (t : Nat) (f : Thread → Thread) : (s.modThread t f).mapDue = s.mapDue := rfl
@[simp] theorem modThread_mapOld (s : State) (t : Nat) (f : Thread → Thread) : (s.modThread t f).mapOld = s.mapOld := rfl
@[simp] theorem modThread_devReads (s : State) (t : Nat) (f : Thread → Thread) : (s.modThread t f).devReads = s.devReads := rfl
@[simp] theorem modThread_devTag (s : State) (t : Nat) (f : Thread → Thread) : (s.modThread t f).devTag = s.devTag := rfl
@[simp] theorem modThread_rpOut (s : State) (t : Nat) (f : Thread → Thread) : (s.modThread t f).rpOut = s.rpOut := rfl
@[simp] theorem modThread_subsystem (s : State) (t : Nat) (f : Thread → Thread) : (s.modThread t f).subsystem = s.subsystem := rfl
@[simp] theorem modThread_dump (s : State) (t : Nat) (f : Thread → Thread) : (s.modThread t f).dump = s.dump := rfl
@[simp] theorem modThread_fuses (s : State) (t : Nat) (f : Thread → Thread) : (s.modThread t f).fuses = s.fuses := rfl
@[simp] theorem modThread_dieFuses (s : State) (t : Nat) (f : Thread → Thread) : (s.modThread t f).dieFuses = s.dieFuses := rfl
@[simp] theorem modThread_flash (s : State) (t : Nat) (f : Thread → Thread) : (s.modThread t f).flash = s.flash := rfl
@[simp] theorem modThread_sense (s : State) (t : Nat) (f : Thread → Thread) : (s.modThread t f).sense = s.sense := rfl
@[simp] theorem modThread_flashJob (s : State) (t : Nat) (f : Thread → Thread) : (s.modThread t f).flashJob = s.flashJob := rfl
@[simp] theorem modThread_drain (s : State) (t : Nat) (f : Thread → Thread) : (s.modThread t f).drain = s.drain := rfl
@[simp] theorem modThread_reshapeCmd (s : State) (t : Nat) (f : Thread → Thread) : (s.modThread t f).reshapeCmd = s.reshapeCmd := rfl
@[simp] theorem modThread_resetDue (s : State) (t : Nat) (f : Thread → Thread) : (s.modThread t f).resetDue = s.resetDue := rfl
@[simp] theorem modThread_bridges (s : State) (t : Nat) (f : Thread → Thread) : (s.modThread t f).bridges = s.bridges := rfl
@[simp] theorem modThread_meshHeld (s : State) (t : Nat) (f : Thread → Thread) : (s.modThread t f).meshHeld = s.meshHeld := rfl
@[simp] theorem modThread_meshTurn (s : State) (t : Nat) (f : Thread → Thread) : (s.modThread t f).meshTurn = s.meshTurn := rfl
@[simp] theorem modThread_parasol (s : State) (t : Nat) (f : Thread → Thread) : (s.modThread t f).parasol = s.parasol := rfl
@[simp] theorem modThread_ownerKeys (s : State) (t : Nat) (f : Thread → Thread) : (s.modThread t f).ownerKeys = s.ownerKeys := rfl
@[simp] theorem modThread_opNext (s : State) (t : Nat) (f : Thread → Thread) : (s.modThread t f).opNext = s.opNext := rfl
@[simp] theorem modThread_longOps (s : State) (t : Nat) (f : Thread → Thread) : (s.modThread t f).longOps = s.longOps := rfl
@[simp] theorem modThread_tops (s : State) (t : Nat) (f : Thread → Thread) : (s.modThread t f).tops = s.tops := rfl
@[simp] theorem modThread_chainDefault (s : State) (t : Nat) (f : Thread → Thread) : (s.modThread t f).chainDefault = s.chainDefault := rfl
@[simp] theorem modThread_alertN (s : State) (t : Nat) (f : Thread → Thread) : (s.modThread t f).alertN = s.alertN := rfl
@[simp] theorem modThread_thermtripN (s : State) (t : Nat) (f : Thread → Thread) : (s.modThread t f).thermtripN = s.thermtripN := rfl
@[simp] theorem modThread_mem (s : State) (t : Nat) (f : Thread → Thread) : (s.modThread t f).mem = s.mem := rfl
@[simp] theorem modThread_freeCount (s : State) (t : Nat) (f : Thread → Thread) : (s.modThread t f).freeCount = s.freeCount := rfl
@[simp] theorem setCore_pending (s : State) (c : Nat) (x : Core) : (s.setCore c x).pending = s.pending := rfl
@[simp] theorem setCore_clause (s : State) (c : Nat) (x : Core) : (s.setCore c x).clause = s.clause := rfl
@[simp] theorem setCore_phase (s : State) (c : Nat) (x : Core) : (s.setCore c x).phase = s.phase := rfl
@[simp] theorem setCore_counting (s : State) (c : Nat) (x : Core) : (s.setCore c x).counting = s.counting := rfl
@[simp] theorem setCore_regs (s : State) (c : Nat) (x : Core) : (s.setCore c x).regs = s.regs := rfl
@[simp] theorem setCore_vaux (s : State) (c : Nat) (x : Core) : (s.setCore c x).vaux = s.vaux := rfl
@[simp] theorem setCore_pwrGood (s : State) (c : Nat) (x : Core) : (s.setCore c x).pwrGood = s.pwrGood := rfl
@[simp] theorem setCore_resetN (s : State) (c : Nat) (x : Core) : (s.setCore c x).resetN = s.resetN := rfl
@[simp] theorem setCore_mgrStrap (s : State) (c : Nat) (x : Core) : (s.setCore c x).mgrStrap = s.mgrStrap := rfl
@[simp] theorem setCore_stbyStrap (s : State) (c : Nat) (x : Core) : (s.setCore c x).stbyStrap = s.stbyStrap := rfl
@[simp] theorem setCore_threads (s : State) (c : Nat) (x : Core) : (s.setCore c x).threads = s.threads := rfl
@[simp] theorem setCore_dies (s : State) (c : Nat) (x : Core) : (s.setCore c x).dies = s.dies := rfl
@[simp] theorem setCore_sent (s : State) (c : Nat) (x : Core) : (s.setCore c x).sent = s.sent := rfl
@[simp] theorem setCore_log (s : State) (c : Nat) (x : Core) : (s.setCore c x).log = s.log := rfl
@[simp] theorem setCore_events (s : State) (c : Nat) (x : Core) : (s.setCore c x).events = s.events := rfl
@[simp] theorem setCore_unresolved (s : State) (c : Nat) (x : Core) : (s.setCore c x).unresolved = s.unresolved := rfl
@[simp] theorem setCore_pccVal (s : State) (c : Nat) (x : Core) : (s.setCore c x).pccVal = s.pccVal := rfl
@[simp] theorem setCore_pccSel (s : State) (c : Nat) (x : Core) : (s.setCore c x).pccSel = s.pccSel := rfl
@[simp] theorem setCore_homes (s : State) (c : Nat) (x : Core) : (s.setCore c x).homes = s.homes := rfl
@[simp] theorem setCore_dirMem (s : State) (c : Nat) (x : Core) : (s.setCore c x).dirMem = s.dirMem := rfl
@[simp] theorem setCore_dirCtl (s : State) (c : Nat) (x : Core) : (s.setCore c x).dirCtl = s.dirCtl := rfl
@[simp] theorem setCore_disp (s : State) (c : Nat) (x : Core) : (s.setCore c x).disp = s.disp := rfl
@[simp] theorem setCore_jrnOff (s : State) (c : Nat) (x : Core) : (s.setCore c x).jrnOff = s.jrnOff := rfl
@[simp] theorem setCore_dirFilter (s : State) (c : Nat) (x : Core) : (s.setCore c x).dirFilter = s.dirFilter := rfl
@[simp] theorem setCore_dirAge (s : State) (c : Nat) (x : Core) : (s.setCore c x).dirAge = s.dirAge := rfl
@[simp] theorem setCore_dirScrubAt (s : State) (c : Nat) (x : Core) : (s.setCore c x).dirScrubAt = s.dirScrubAt := rfl
@[simp] theorem setCore_dirCes (s : State) (c : Nat) (x : Core) : (s.setCore c x).dirCes = s.dirCes := rfl
@[simp] theorem setCore_reshapeStart (s : State) (c : Nat) (x : Core) : (s.setCore c x).reshapeStart = s.reshapeStart := rfl
@[simp] theorem setCore_reshapeEvicted (s : State) (c : Nat) (x : Core) : (s.setCore c x).reshapeEvicted = s.reshapeEvicted := rfl
@[simp] theorem setCore_reshapeQueue (s : State) (c : Nat) (x : Core) : (s.setCore c x).reshapeQueue = s.reshapeQueue := rfl
@[simp] theorem setCore_dirTicks (s : State) (c : Nat) (x : Core) : (s.setCore c x).dirTicks = s.dirTicks := rfl
@[simp] theorem setCore_away (s : State) (c : Nat) (x : Core) : (s.setCore c x).away = s.away := rfl
@[simp] theorem setCore_masks (s : State) (c : Nat) (x : Core) : (s.setCore c x).masks = s.masks := rfl
@[simp] theorem setCore_written (s : State) (c : Nat) (x : Core) : (s.setCore c x).written = s.written := rfl
@[simp] theorem setCore_keyCount (s : State) (c : Nat) (x : Core) : (s.setCore c x).keyCount = s.keyCount := rfl
@[simp] theorem setCore_keyHalf (s : State) (c : Nat) (x : Core) : (s.setCore c x).keyHalf = s.keyHalf := rfl
@[simp] theorem setCore_fillKey (s : State) (c : Nat) (x : Core) : (s.setCore c x).fillKey = s.fillKey := rfl
@[simp] theorem setCore_lineKeys (s : State) (c : Nat) (x : Core) : (s.setCore c x).lineKeys = s.lineKeys := rfl
@[simp] theorem setCore_dramBad (s : State) (c : Nat) (x : Core) : (s.setCore c x).dramBad = s.dramBad := rfl
@[simp] theorem setCore_ports (s : State) (c : Nat) (x : Core) : (s.setCore c x).ports = s.ports := rfl
@[simp] theorem setCore_ucq (s : State) (c : Nat) (x : Core) : (s.setCore c x).ucq = s.ucq := rfl
@[simp] theorem setCore_portTok (s : State) (c : Nat) (x : Core) : (s.setCore c x).portTok = s.portTok := rfl
@[simp] theorem setCore_readQ (s : State) (c : Nat) (x : Core) : (s.setCore c x).readQ = s.readQ := rfl
@[simp] theorem setCore_admitTurn (s : State) (c : Nat) (x : Core) : (s.setCore c x).admitTurn = s.admitTurn := rfl
@[simp] theorem setCore_minTok (s : State) (c : Nat) (x : Core) : (s.setCore c x).minTok = s.minTok := rfl
@[simp] theorem setCore_maxTok (s : State) (c : Nat) (x : Core) : (s.setCore c x).maxTok = s.maxTok := rfl
@[simp] theorem setCore_openRow (s : State) (c : Nat) (x : Core) : (s.setCore c x).openRow = s.openRow := rfl
@[simp] theorem setCore_powerDown (s : State) (c : Nat) (x : Core) : (s.setCore c x).powerDown = s.powerDown := rfl
@[simp] theorem setCore_selfRefresh (s : State) (c : Nat) (x : Core) : (s.setCore c x).selfRefresh = s.selfRefresh := rfl
@[simp] theorem setCore_replays (s : State) (c : Nat) (x : Core) : (s.setCore c x).replays = s.replays := rfl
@[simp] theorem setCore_pot (s : State) (c : Nat) (x : Core) : (s.setCore c x).pot = s.pot := rfl
@[simp] theorem setCore_realms (s : State) (c : Nat) (x : Core) : (s.setCore c x).realms = s.realms := rfl
@[simp] theorem setCore_memberJobs (s : State) (c : Nat) (x : Core) : (s.setCore c x).memberJobs = s.memberJobs := rfl
@[simp] theorem setCore_domains (s : State) (c : Nat) (x : Core) : (s.setCore c x).domains = s.domains := rfl
@[simp] theorem setCore_tlbiUnit (s : State) (c : Nat) (x : Core) : (s.setCore c x).tlbiUnit = s.tlbiUnit := rfl
@[simp] theorem setCore_ctxs (s : State) (c : Nat) (x : Core) : (s.setCore c x).ctxs = s.ctxs := rfl
@[simp] theorem setCore_monitors (s : State) (c : Nat) (x : Core) : (s.setCore c x).monitors = s.monitors := rfl
@[simp] theorem setCore_engines (s : State) (c : Nat) (x : Core) : (s.setCore c x).engines = s.engines := rfl
@[simp] theorem setCore_ctxRuns (s : State) (c : Nat) (x : Core) : (s.setCore c x).ctxRuns = s.ctxRuns := rfl
@[simp] theorem setCore_ctxJob (s : State) (c : Nat) (x : Core) : (s.setCore c x).ctxJob = s.ctxJob := rfl
@[simp] theorem setCore_ctxBad (s : State) (c : Nat) (x : Core) : (s.setCore c x).ctxBad = s.ctxBad := rfl
@[simp] theorem setCore_capUsed (s : State) (c : Nat) (x : Core) : (s.setCore c x).capUsed = s.capUsed := rfl
@[simp] theorem setCore_capHeld (s : State) (c : Nat) (x : Core) : (s.setCore c x).capHeld = s.capHeld := rfl
@[simp] theorem setCore_notice (s : State) (c : Nat) (x : Core) : (s.setCore c x).notice = s.notice := rfl
@[simp] theorem setCore_links (s : State) (c : Nat) (x : Core) : (s.setCore c x).links = s.links := rfl
@[simp] theorem setCore_image (s : State) (c : Nat) (x : Core) : (s.setCore c x).image = s.image := rfl
@[simp] theorem setCore_completions (s : State) (c : Nat) (x : Core) : (s.setCore c x).completions = s.completions := rfl
@[simp] theorem setCore_epf (s : State) (c : Nat) (x : Core) : (s.setCore c x).epf = s.epf := rfl
@[simp] theorem setCore_inbound (s : State) (c : Nat) (x : Core) : (s.setCore c x).inbound = s.inbound := rfl
@[simp] theorem setCore_mapDue (s : State) (c : Nat) (x : Core) : (s.setCore c x).mapDue = s.mapDue := rfl
@[simp] theorem setCore_mapOld (s : State) (c : Nat) (x : Core) : (s.setCore c x).mapOld = s.mapOld := rfl
@[simp] theorem setCore_devReads (s : State) (c : Nat) (x : Core) : (s.setCore c x).devReads = s.devReads := rfl
@[simp] theorem setCore_devTag (s : State) (c : Nat) (x : Core) : (s.setCore c x).devTag = s.devTag := rfl
@[simp] theorem setCore_rpOut (s : State) (c : Nat) (x : Core) : (s.setCore c x).rpOut = s.rpOut := rfl
@[simp] theorem setCore_subsystem (s : State) (c : Nat) (x : Core) : (s.setCore c x).subsystem = s.subsystem := rfl
@[simp] theorem setCore_dump (s : State) (c : Nat) (x : Core) : (s.setCore c x).dump = s.dump := rfl
@[simp] theorem setCore_fuses (s : State) (c : Nat) (x : Core) : (s.setCore c x).fuses = s.fuses := rfl
@[simp] theorem setCore_dieFuses (s : State) (c : Nat) (x : Core) : (s.setCore c x).dieFuses = s.dieFuses := rfl
@[simp] theorem setCore_flash (s : State) (c : Nat) (x : Core) : (s.setCore c x).flash = s.flash := rfl
@[simp] theorem setCore_sense (s : State) (c : Nat) (x : Core) : (s.setCore c x).sense = s.sense := rfl
@[simp] theorem setCore_flashJob (s : State) (c : Nat) (x : Core) : (s.setCore c x).flashJob = s.flashJob := rfl
@[simp] theorem setCore_drain (s : State) (c : Nat) (x : Core) : (s.setCore c x).drain = s.drain := rfl
@[simp] theorem setCore_reshapeCmd (s : State) (c : Nat) (x : Core) : (s.setCore c x).reshapeCmd = s.reshapeCmd := rfl
@[simp] theorem setCore_resetDue (s : State) (c : Nat) (x : Core) : (s.setCore c x).resetDue = s.resetDue := rfl
@[simp] theorem setCore_bridges (s : State) (c : Nat) (x : Core) : (s.setCore c x).bridges = s.bridges := rfl
@[simp] theorem setCore_meshHeld (s : State) (c : Nat) (x : Core) : (s.setCore c x).meshHeld = s.meshHeld := rfl
@[simp] theorem setCore_meshTurn (s : State) (c : Nat) (x : Core) : (s.setCore c x).meshTurn = s.meshTurn := rfl
@[simp] theorem setCore_parasol (s : State) (c : Nat) (x : Core) : (s.setCore c x).parasol = s.parasol := rfl
@[simp] theorem setCore_ownerKeys (s : State) (c : Nat) (x : Core) : (s.setCore c x).ownerKeys = s.ownerKeys := rfl
@[simp] theorem setCore_opNext (s : State) (c : Nat) (x : Core) : (s.setCore c x).opNext = s.opNext := rfl
@[simp] theorem setCore_longOps (s : State) (c : Nat) (x : Core) : (s.setCore c x).longOps = s.longOps := rfl
@[simp] theorem setCore_tops (s : State) (c : Nat) (x : Core) : (s.setCore c x).tops = s.tops := rfl
@[simp] theorem setCore_chainDefault (s : State) (c : Nat) (x : Core) : (s.setCore c x).chainDefault = s.chainDefault := rfl
@[simp] theorem setCore_alertN (s : State) (c : Nat) (x : Core) : (s.setCore c x).alertN = s.alertN := rfl
@[simp] theorem setCore_thermtripN (s : State) (c : Nat) (x : Core) : (s.setCore c x).thermtripN = s.thermtripN := rfl
@[simp] theorem setCore_mem (s : State) (c : Nat) (x : Core) : (s.setCore c x).mem = s.mem := rfl
@[simp] theorem setCore_freeCount (s : State) (c : Nat) (x : Core) : (s.setCore c x).freeCount = s.freeCount := rfl
@[simp] theorem modCore_pending (s : State) (c : Nat) (f : Core → Core) : (s.modCore c f).pending = s.pending := rfl
@[simp] theorem modCore_clause (s : State) (c : Nat) (f : Core → Core) : (s.modCore c f).clause = s.clause := rfl
@[simp] theorem modCore_phase (s : State) (c : Nat) (f : Core → Core) : (s.modCore c f).phase = s.phase := rfl
@[simp] theorem modCore_counting (s : State) (c : Nat) (f : Core → Core) : (s.modCore c f).counting = s.counting := rfl
@[simp] theorem modCore_regs (s : State) (c : Nat) (f : Core → Core) : (s.modCore c f).regs = s.regs := rfl
@[simp] theorem modCore_vaux (s : State) (c : Nat) (f : Core → Core) : (s.modCore c f).vaux = s.vaux := rfl
@[simp] theorem modCore_pwrGood (s : State) (c : Nat) (f : Core → Core) : (s.modCore c f).pwrGood = s.pwrGood := rfl
@[simp] theorem modCore_resetN (s : State) (c : Nat) (f : Core → Core) : (s.modCore c f).resetN = s.resetN := rfl
@[simp] theorem modCore_mgrStrap (s : State) (c : Nat) (f : Core → Core) : (s.modCore c f).mgrStrap = s.mgrStrap := rfl
@[simp] theorem modCore_stbyStrap (s : State) (c : Nat) (f : Core → Core) : (s.modCore c f).stbyStrap = s.stbyStrap := rfl
@[simp] theorem modCore_threads (s : State) (c : Nat) (f : Core → Core) : (s.modCore c f).threads = s.threads := rfl
@[simp] theorem modCore_dies (s : State) (c : Nat) (f : Core → Core) : (s.modCore c f).dies = s.dies := rfl
@[simp] theorem modCore_sent (s : State) (c : Nat) (f : Core → Core) : (s.modCore c f).sent = s.sent := rfl
@[simp] theorem modCore_log (s : State) (c : Nat) (f : Core → Core) : (s.modCore c f).log = s.log := rfl
@[simp] theorem modCore_events (s : State) (c : Nat) (f : Core → Core) : (s.modCore c f).events = s.events := rfl
@[simp] theorem modCore_unresolved (s : State) (c : Nat) (f : Core → Core) : (s.modCore c f).unresolved = s.unresolved := rfl
@[simp] theorem modCore_pccVal (s : State) (c : Nat) (f : Core → Core) : (s.modCore c f).pccVal = s.pccVal := rfl
@[simp] theorem modCore_pccSel (s : State) (c : Nat) (f : Core → Core) : (s.modCore c f).pccSel = s.pccSel := rfl
@[simp] theorem modCore_homes (s : State) (c : Nat) (f : Core → Core) : (s.modCore c f).homes = s.homes := rfl
@[simp] theorem modCore_dirMem (s : State) (c : Nat) (f : Core → Core) : (s.modCore c f).dirMem = s.dirMem := rfl
@[simp] theorem modCore_dirCtl (s : State) (c : Nat) (f : Core → Core) : (s.modCore c f).dirCtl = s.dirCtl := rfl
@[simp] theorem modCore_disp (s : State) (c : Nat) (f : Core → Core) : (s.modCore c f).disp = s.disp := rfl
@[simp] theorem modCore_jrnOff (s : State) (c : Nat) (f : Core → Core) : (s.modCore c f).jrnOff = s.jrnOff := rfl
@[simp] theorem modCore_dirFilter (s : State) (c : Nat) (f : Core → Core) : (s.modCore c f).dirFilter = s.dirFilter := rfl
@[simp] theorem modCore_dirAge (s : State) (c : Nat) (f : Core → Core) : (s.modCore c f).dirAge = s.dirAge := rfl
@[simp] theorem modCore_dirScrubAt (s : State) (c : Nat) (f : Core → Core) : (s.modCore c f).dirScrubAt = s.dirScrubAt := rfl
@[simp] theorem modCore_dirCes (s : State) (c : Nat) (f : Core → Core) : (s.modCore c f).dirCes = s.dirCes := rfl
@[simp] theorem modCore_reshapeStart (s : State) (c : Nat) (f : Core → Core) : (s.modCore c f).reshapeStart = s.reshapeStart := rfl
@[simp] theorem modCore_reshapeEvicted (s : State) (c : Nat) (f : Core → Core) : (s.modCore c f).reshapeEvicted = s.reshapeEvicted := rfl
@[simp] theorem modCore_reshapeQueue (s : State) (c : Nat) (f : Core → Core) : (s.modCore c f).reshapeQueue = s.reshapeQueue := rfl
@[simp] theorem modCore_dirTicks (s : State) (c : Nat) (f : Core → Core) : (s.modCore c f).dirTicks = s.dirTicks := rfl
@[simp] theorem modCore_away (s : State) (c : Nat) (f : Core → Core) : (s.modCore c f).away = s.away := rfl
@[simp] theorem modCore_masks (s : State) (c : Nat) (f : Core → Core) : (s.modCore c f).masks = s.masks := rfl
@[simp] theorem modCore_written (s : State) (c : Nat) (f : Core → Core) : (s.modCore c f).written = s.written := rfl
@[simp] theorem modCore_keyCount (s : State) (c : Nat) (f : Core → Core) : (s.modCore c f).keyCount = s.keyCount := rfl
@[simp] theorem modCore_keyHalf (s : State) (c : Nat) (f : Core → Core) : (s.modCore c f).keyHalf = s.keyHalf := rfl
@[simp] theorem modCore_fillKey (s : State) (c : Nat) (f : Core → Core) : (s.modCore c f).fillKey = s.fillKey := rfl
@[simp] theorem modCore_lineKeys (s : State) (c : Nat) (f : Core → Core) : (s.modCore c f).lineKeys = s.lineKeys := rfl
@[simp] theorem modCore_dramBad (s : State) (c : Nat) (f : Core → Core) : (s.modCore c f).dramBad = s.dramBad := rfl
@[simp] theorem modCore_ports (s : State) (c : Nat) (f : Core → Core) : (s.modCore c f).ports = s.ports := rfl
@[simp] theorem modCore_ucq (s : State) (c : Nat) (f : Core → Core) : (s.modCore c f).ucq = s.ucq := rfl
@[simp] theorem modCore_portTok (s : State) (c : Nat) (f : Core → Core) : (s.modCore c f).portTok = s.portTok := rfl
@[simp] theorem modCore_readQ (s : State) (c : Nat) (f : Core → Core) : (s.modCore c f).readQ = s.readQ := rfl
@[simp] theorem modCore_admitTurn (s : State) (c : Nat) (f : Core → Core) : (s.modCore c f).admitTurn = s.admitTurn := rfl
@[simp] theorem modCore_minTok (s : State) (c : Nat) (f : Core → Core) : (s.modCore c f).minTok = s.minTok := rfl
@[simp] theorem modCore_maxTok (s : State) (c : Nat) (f : Core → Core) : (s.modCore c f).maxTok = s.maxTok := rfl
@[simp] theorem modCore_openRow (s : State) (c : Nat) (f : Core → Core) : (s.modCore c f).openRow = s.openRow := rfl
@[simp] theorem modCore_powerDown (s : State) (c : Nat) (f : Core → Core) : (s.modCore c f).powerDown = s.powerDown := rfl
@[simp] theorem modCore_selfRefresh (s : State) (c : Nat) (f : Core → Core) : (s.modCore c f).selfRefresh = s.selfRefresh := rfl
@[simp] theorem modCore_replays (s : State) (c : Nat) (f : Core → Core) : (s.modCore c f).replays = s.replays := rfl
@[simp] theorem modCore_pot (s : State) (c : Nat) (f : Core → Core) : (s.modCore c f).pot = s.pot := rfl
@[simp] theorem modCore_realms (s : State) (c : Nat) (f : Core → Core) : (s.modCore c f).realms = s.realms := rfl
@[simp] theorem modCore_memberJobs (s : State) (c : Nat) (f : Core → Core) : (s.modCore c f).memberJobs = s.memberJobs := rfl
@[simp] theorem modCore_domains (s : State) (c : Nat) (f : Core → Core) : (s.modCore c f).domains = s.domains := rfl
@[simp] theorem modCore_tlbiUnit (s : State) (c : Nat) (f : Core → Core) : (s.modCore c f).tlbiUnit = s.tlbiUnit := rfl
@[simp] theorem modCore_ctxs (s : State) (c : Nat) (f : Core → Core) : (s.modCore c f).ctxs = s.ctxs := rfl
@[simp] theorem modCore_monitors (s : State) (c : Nat) (f : Core → Core) : (s.modCore c f).monitors = s.monitors := rfl
@[simp] theorem modCore_engines (s : State) (c : Nat) (f : Core → Core) : (s.modCore c f).engines = s.engines := rfl
@[simp] theorem modCore_ctxRuns (s : State) (c : Nat) (f : Core → Core) : (s.modCore c f).ctxRuns = s.ctxRuns := rfl
@[simp] theorem modCore_ctxJob (s : State) (c : Nat) (f : Core → Core) : (s.modCore c f).ctxJob = s.ctxJob := rfl
@[simp] theorem modCore_ctxBad (s : State) (c : Nat) (f : Core → Core) : (s.modCore c f).ctxBad = s.ctxBad := rfl
@[simp] theorem modCore_capUsed (s : State) (c : Nat) (f : Core → Core) : (s.modCore c f).capUsed = s.capUsed := rfl
@[simp] theorem modCore_capHeld (s : State) (c : Nat) (f : Core → Core) : (s.modCore c f).capHeld = s.capHeld := rfl
@[simp] theorem modCore_notice (s : State) (c : Nat) (f : Core → Core) : (s.modCore c f).notice = s.notice := rfl
@[simp] theorem modCore_links (s : State) (c : Nat) (f : Core → Core) : (s.modCore c f).links = s.links := rfl
@[simp] theorem modCore_image (s : State) (c : Nat) (f : Core → Core) : (s.modCore c f).image = s.image := rfl
@[simp] theorem modCore_completions (s : State) (c : Nat) (f : Core → Core) : (s.modCore c f).completions = s.completions := rfl
@[simp] theorem modCore_epf (s : State) (c : Nat) (f : Core → Core) : (s.modCore c f).epf = s.epf := rfl
@[simp] theorem modCore_inbound (s : State) (c : Nat) (f : Core → Core) : (s.modCore c f).inbound = s.inbound := rfl
@[simp] theorem modCore_mapDue (s : State) (c : Nat) (f : Core → Core) : (s.modCore c f).mapDue = s.mapDue := rfl
@[simp] theorem modCore_mapOld (s : State) (c : Nat) (f : Core → Core) : (s.modCore c f).mapOld = s.mapOld := rfl
@[simp] theorem modCore_devReads (s : State) (c : Nat) (f : Core → Core) : (s.modCore c f).devReads = s.devReads := rfl
@[simp] theorem modCore_devTag (s : State) (c : Nat) (f : Core → Core) : (s.modCore c f).devTag = s.devTag := rfl
@[simp] theorem modCore_rpOut (s : State) (c : Nat) (f : Core → Core) : (s.modCore c f).rpOut = s.rpOut := rfl
@[simp] theorem modCore_subsystem (s : State) (c : Nat) (f : Core → Core) : (s.modCore c f).subsystem = s.subsystem := rfl
@[simp] theorem modCore_dump (s : State) (c : Nat) (f : Core → Core) : (s.modCore c f).dump = s.dump := rfl
@[simp] theorem modCore_fuses (s : State) (c : Nat) (f : Core → Core) : (s.modCore c f).fuses = s.fuses := rfl
@[simp] theorem modCore_dieFuses (s : State) (c : Nat) (f : Core → Core) : (s.modCore c f).dieFuses = s.dieFuses := rfl
@[simp] theorem modCore_flash (s : State) (c : Nat) (f : Core → Core) : (s.modCore c f).flash = s.flash := rfl
@[simp] theorem modCore_sense (s : State) (c : Nat) (f : Core → Core) : (s.modCore c f).sense = s.sense := rfl
@[simp] theorem modCore_flashJob (s : State) (c : Nat) (f : Core → Core) : (s.modCore c f).flashJob = s.flashJob := rfl
@[simp] theorem modCore_drain (s : State) (c : Nat) (f : Core → Core) : (s.modCore c f).drain = s.drain := rfl
@[simp] theorem modCore_reshapeCmd (s : State) (c : Nat) (f : Core → Core) : (s.modCore c f).reshapeCmd = s.reshapeCmd := rfl
@[simp] theorem modCore_resetDue (s : State) (c : Nat) (f : Core → Core) : (s.modCore c f).resetDue = s.resetDue := rfl
@[simp] theorem modCore_bridges (s : State) (c : Nat) (f : Core → Core) : (s.modCore c f).bridges = s.bridges := rfl
@[simp] theorem modCore_meshHeld (s : State) (c : Nat) (f : Core → Core) : (s.modCore c f).meshHeld = s.meshHeld := rfl
@[simp] theorem modCore_meshTurn (s : State) (c : Nat) (f : Core → Core) : (s.modCore c f).meshTurn = s.meshTurn := rfl
@[simp] theorem modCore_parasol (s : State) (c : Nat) (f : Core → Core) : (s.modCore c f).parasol = s.parasol := rfl
@[simp] theorem modCore_ownerKeys (s : State) (c : Nat) (f : Core → Core) : (s.modCore c f).ownerKeys = s.ownerKeys := rfl
@[simp] theorem modCore_opNext (s : State) (c : Nat) (f : Core → Core) : (s.modCore c f).opNext = s.opNext := rfl
@[simp] theorem modCore_longOps (s : State) (c : Nat) (f : Core → Core) : (s.modCore c f).longOps = s.longOps := rfl
@[simp] theorem modCore_tops (s : State) (c : Nat) (f : Core → Core) : (s.modCore c f).tops = s.tops := rfl
@[simp] theorem modCore_chainDefault (s : State) (c : Nat) (f : Core → Core) : (s.modCore c f).chainDefault = s.chainDefault := rfl
@[simp] theorem modCore_alertN (s : State) (c : Nat) (f : Core → Core) : (s.modCore c f).alertN = s.alertN := rfl
@[simp] theorem modCore_thermtripN (s : State) (c : Nat) (f : Core → Core) : (s.modCore c f).thermtripN = s.thermtripN := rfl
@[simp] theorem modCore_mem (s : State) (c : Nat) (f : Core → Core) : (s.modCore c f).mem = s.mem := rfl
@[simp] theorem modCore_freeCount (s : State) (c : Nat) (f : Core → Core) : (s.modCore c f).freeCount = s.freeCount := rfl
@[simp] theorem setDie_pending (s : State) (d : Nat) (x : Die) : (s.setDie d x).pending = s.pending := rfl
@[simp] theorem setDie_clause (s : State) (d : Nat) (x : Die) : (s.setDie d x).clause = s.clause := rfl
@[simp] theorem setDie_phase (s : State) (d : Nat) (x : Die) : (s.setDie d x).phase = s.phase := rfl
@[simp] theorem setDie_counting (s : State) (d : Nat) (x : Die) : (s.setDie d x).counting = s.counting := rfl
@[simp] theorem setDie_regs (s : State) (d : Nat) (x : Die) : (s.setDie d x).regs = s.regs := rfl
@[simp] theorem setDie_vaux (s : State) (d : Nat) (x : Die) : (s.setDie d x).vaux = s.vaux := rfl
@[simp] theorem setDie_pwrGood (s : State) (d : Nat) (x : Die) : (s.setDie d x).pwrGood = s.pwrGood := rfl
@[simp] theorem setDie_resetN (s : State) (d : Nat) (x : Die) : (s.setDie d x).resetN = s.resetN := rfl
@[simp] theorem setDie_mgrStrap (s : State) (d : Nat) (x : Die) : (s.setDie d x).mgrStrap = s.mgrStrap := rfl
@[simp] theorem setDie_stbyStrap (s : State) (d : Nat) (x : Die) : (s.setDie d x).stbyStrap = s.stbyStrap := rfl
@[simp] theorem setDie_threads (s : State) (d : Nat) (x : Die) : (s.setDie d x).threads = s.threads := rfl
@[simp] theorem setDie_cores (s : State) (d : Nat) (x : Die) : (s.setDie d x).cores = s.cores := rfl
@[simp] theorem setDie_sent (s : State) (d : Nat) (x : Die) : (s.setDie d x).sent = s.sent := rfl
@[simp] theorem setDie_log (s : State) (d : Nat) (x : Die) : (s.setDie d x).log = s.log := rfl
@[simp] theorem setDie_events (s : State) (d : Nat) (x : Die) : (s.setDie d x).events = s.events := rfl
@[simp] theorem setDie_unresolved (s : State) (d : Nat) (x : Die) : (s.setDie d x).unresolved = s.unresolved := rfl
@[simp] theorem setDie_pccVal (s : State) (d : Nat) (x : Die) : (s.setDie d x).pccVal = s.pccVal := rfl
@[simp] theorem setDie_pccSel (s : State) (d : Nat) (x : Die) : (s.setDie d x).pccSel = s.pccSel := rfl
@[simp] theorem setDie_homes (s : State) (d : Nat) (x : Die) : (s.setDie d x).homes = s.homes := rfl
@[simp] theorem setDie_dirMem (s : State) (d : Nat) (x : Die) : (s.setDie d x).dirMem = s.dirMem := rfl
@[simp] theorem setDie_dirCtl (s : State) (d : Nat) (x : Die) : (s.setDie d x).dirCtl = s.dirCtl := rfl
@[simp] theorem setDie_disp (s : State) (d : Nat) (x : Die) : (s.setDie d x).disp = s.disp := rfl
@[simp] theorem setDie_jrnOff (s : State) (d : Nat) (x : Die) : (s.setDie d x).jrnOff = s.jrnOff := rfl
@[simp] theorem setDie_dirFilter (s : State) (d : Nat) (x : Die) : (s.setDie d x).dirFilter = s.dirFilter := rfl
@[simp] theorem setDie_dirAge (s : State) (d : Nat) (x : Die) : (s.setDie d x).dirAge = s.dirAge := rfl
@[simp] theorem setDie_dirScrubAt (s : State) (d : Nat) (x : Die) : (s.setDie d x).dirScrubAt = s.dirScrubAt := rfl
@[simp] theorem setDie_dirCes (s : State) (d : Nat) (x : Die) : (s.setDie d x).dirCes = s.dirCes := rfl
@[simp] theorem setDie_reshapeStart (s : State) (d : Nat) (x : Die) : (s.setDie d x).reshapeStart = s.reshapeStart := rfl
@[simp] theorem setDie_reshapeEvicted (s : State) (d : Nat) (x : Die) : (s.setDie d x).reshapeEvicted = s.reshapeEvicted := rfl
@[simp] theorem setDie_reshapeQueue (s : State) (d : Nat) (x : Die) : (s.setDie d x).reshapeQueue = s.reshapeQueue := rfl
@[simp] theorem setDie_dirTicks (s : State) (d : Nat) (x : Die) : (s.setDie d x).dirTicks = s.dirTicks := rfl
@[simp] theorem setDie_away (s : State) (d : Nat) (x : Die) : (s.setDie d x).away = s.away := rfl
@[simp] theorem setDie_masks (s : State) (d : Nat) (x : Die) : (s.setDie d x).masks = s.masks := rfl
@[simp] theorem setDie_written (s : State) (d : Nat) (x : Die) : (s.setDie d x).written = s.written := rfl
@[simp] theorem setDie_keyCount (s : State) (d : Nat) (x : Die) : (s.setDie d x).keyCount = s.keyCount := rfl
@[simp] theorem setDie_keyHalf (s : State) (d : Nat) (x : Die) : (s.setDie d x).keyHalf = s.keyHalf := rfl
@[simp] theorem setDie_fillKey (s : State) (d : Nat) (x : Die) : (s.setDie d x).fillKey = s.fillKey := rfl
@[simp] theorem setDie_lineKeys (s : State) (d : Nat) (x : Die) : (s.setDie d x).lineKeys = s.lineKeys := rfl
@[simp] theorem setDie_dramBad (s : State) (d : Nat) (x : Die) : (s.setDie d x).dramBad = s.dramBad := rfl
@[simp] theorem setDie_ports (s : State) (d : Nat) (x : Die) : (s.setDie d x).ports = s.ports := rfl
@[simp] theorem setDie_ucq (s : State) (d : Nat) (x : Die) : (s.setDie d x).ucq = s.ucq := rfl
@[simp] theorem setDie_portTok (s : State) (d : Nat) (x : Die) : (s.setDie d x).portTok = s.portTok := rfl
@[simp] theorem setDie_readQ (s : State) (d : Nat) (x : Die) : (s.setDie d x).readQ = s.readQ := rfl
@[simp] theorem setDie_admitTurn (s : State) (d : Nat) (x : Die) : (s.setDie d x).admitTurn = s.admitTurn := rfl
@[simp] theorem setDie_minTok (s : State) (d : Nat) (x : Die) : (s.setDie d x).minTok = s.minTok := rfl
@[simp] theorem setDie_maxTok (s : State) (d : Nat) (x : Die) : (s.setDie d x).maxTok = s.maxTok := rfl
@[simp] theorem setDie_openRow (s : State) (d : Nat) (x : Die) : (s.setDie d x).openRow = s.openRow := rfl
@[simp] theorem setDie_powerDown (s : State) (d : Nat) (x : Die) : (s.setDie d x).powerDown = s.powerDown := rfl
@[simp] theorem setDie_selfRefresh (s : State) (d : Nat) (x : Die) : (s.setDie d x).selfRefresh = s.selfRefresh := rfl
@[simp] theorem setDie_replays (s : State) (d : Nat) (x : Die) : (s.setDie d x).replays = s.replays := rfl
@[simp] theorem setDie_pot (s : State) (d : Nat) (x : Die) : (s.setDie d x).pot = s.pot := rfl
@[simp] theorem setDie_realms (s : State) (d : Nat) (x : Die) : (s.setDie d x).realms = s.realms := rfl
@[simp] theorem setDie_memberJobs (s : State) (d : Nat) (x : Die) : (s.setDie d x).memberJobs = s.memberJobs := rfl
@[simp] theorem setDie_domains (s : State) (d : Nat) (x : Die) : (s.setDie d x).domains = s.domains := rfl
@[simp] theorem setDie_tlbiUnit (s : State) (d : Nat) (x : Die) : (s.setDie d x).tlbiUnit = s.tlbiUnit := rfl
@[simp] theorem setDie_ctxs (s : State) (d : Nat) (x : Die) : (s.setDie d x).ctxs = s.ctxs := rfl
@[simp] theorem setDie_monitors (s : State) (d : Nat) (x : Die) : (s.setDie d x).monitors = s.monitors := rfl
@[simp] theorem setDie_engines (s : State) (d : Nat) (x : Die) : (s.setDie d x).engines = s.engines := rfl
@[simp] theorem setDie_ctxRuns (s : State) (d : Nat) (x : Die) : (s.setDie d x).ctxRuns = s.ctxRuns := rfl
@[simp] theorem setDie_ctxJob (s : State) (d : Nat) (x : Die) : (s.setDie d x).ctxJob = s.ctxJob := rfl
@[simp] theorem setDie_ctxBad (s : State) (d : Nat) (x : Die) : (s.setDie d x).ctxBad = s.ctxBad := rfl
@[simp] theorem setDie_capUsed (s : State) (d : Nat) (x : Die) : (s.setDie d x).capUsed = s.capUsed := rfl
@[simp] theorem setDie_capHeld (s : State) (d : Nat) (x : Die) : (s.setDie d x).capHeld = s.capHeld := rfl
@[simp] theorem setDie_notice (s : State) (d : Nat) (x : Die) : (s.setDie d x).notice = s.notice := rfl
@[simp] theorem setDie_links (s : State) (d : Nat) (x : Die) : (s.setDie d x).links = s.links := rfl
@[simp] theorem setDie_image (s : State) (d : Nat) (x : Die) : (s.setDie d x).image = s.image := rfl
@[simp] theorem setDie_completions (s : State) (d : Nat) (x : Die) : (s.setDie d x).completions = s.completions := rfl
@[simp] theorem setDie_epf (s : State) (d : Nat) (x : Die) : (s.setDie d x).epf = s.epf := rfl
@[simp] theorem setDie_inbound (s : State) (d : Nat) (x : Die) : (s.setDie d x).inbound = s.inbound := rfl
@[simp] theorem setDie_mapDue (s : State) (d : Nat) (x : Die) : (s.setDie d x).mapDue = s.mapDue := rfl
@[simp] theorem setDie_mapOld (s : State) (d : Nat) (x : Die) : (s.setDie d x).mapOld = s.mapOld := rfl
@[simp] theorem setDie_devReads (s : State) (d : Nat) (x : Die) : (s.setDie d x).devReads = s.devReads := rfl
@[simp] theorem setDie_devTag (s : State) (d : Nat) (x : Die) : (s.setDie d x).devTag = s.devTag := rfl
@[simp] theorem setDie_rpOut (s : State) (d : Nat) (x : Die) : (s.setDie d x).rpOut = s.rpOut := rfl
@[simp] theorem setDie_subsystem (s : State) (d : Nat) (x : Die) : (s.setDie d x).subsystem = s.subsystem := rfl
@[simp] theorem setDie_dump (s : State) (d : Nat) (x : Die) : (s.setDie d x).dump = s.dump := rfl
@[simp] theorem setDie_fuses (s : State) (d : Nat) (x : Die) : (s.setDie d x).fuses = s.fuses := rfl
@[simp] theorem setDie_dieFuses (s : State) (d : Nat) (x : Die) : (s.setDie d x).dieFuses = s.dieFuses := rfl
@[simp] theorem setDie_flash (s : State) (d : Nat) (x : Die) : (s.setDie d x).flash = s.flash := rfl
@[simp] theorem setDie_sense (s : State) (d : Nat) (x : Die) : (s.setDie d x).sense = s.sense := rfl
@[simp] theorem setDie_flashJob (s : State) (d : Nat) (x : Die) : (s.setDie d x).flashJob = s.flashJob := rfl
@[simp] theorem setDie_drain (s : State) (d : Nat) (x : Die) : (s.setDie d x).drain = s.drain := rfl
@[simp] theorem setDie_reshapeCmd (s : State) (d : Nat) (x : Die) : (s.setDie d x).reshapeCmd = s.reshapeCmd := rfl
@[simp] theorem setDie_resetDue (s : State) (d : Nat) (x : Die) : (s.setDie d x).resetDue = s.resetDue := rfl
@[simp] theorem setDie_bridges (s : State) (d : Nat) (x : Die) : (s.setDie d x).bridges = s.bridges := rfl
@[simp] theorem setDie_meshHeld (s : State) (d : Nat) (x : Die) : (s.setDie d x).meshHeld = s.meshHeld := rfl
@[simp] theorem setDie_meshTurn (s : State) (d : Nat) (x : Die) : (s.setDie d x).meshTurn = s.meshTurn := rfl
@[simp] theorem setDie_parasol (s : State) (d : Nat) (x : Die) : (s.setDie d x).parasol = s.parasol := rfl
@[simp] theorem setDie_ownerKeys (s : State) (d : Nat) (x : Die) : (s.setDie d x).ownerKeys = s.ownerKeys := rfl
@[simp] theorem setDie_opNext (s : State) (d : Nat) (x : Die) : (s.setDie d x).opNext = s.opNext := rfl
@[simp] theorem setDie_longOps (s : State) (d : Nat) (x : Die) : (s.setDie d x).longOps = s.longOps := rfl
@[simp] theorem setDie_tops (s : State) (d : Nat) (x : Die) : (s.setDie d x).tops = s.tops := rfl
@[simp] theorem setDie_chainDefault (s : State) (d : Nat) (x : Die) : (s.setDie d x).chainDefault = s.chainDefault := rfl
@[simp] theorem setDie_alertN (s : State) (d : Nat) (x : Die) : (s.setDie d x).alertN = s.alertN := rfl
@[simp] theorem setDie_thermtripN (s : State) (d : Nat) (x : Die) : (s.setDie d x).thermtripN = s.thermtripN := rfl
@[simp] theorem setDie_mem (s : State) (d : Nat) (x : Die) : (s.setDie d x).mem = s.mem := rfl
@[simp] theorem setDie_freeCount (s : State) (d : Nat) (x : Die) : (s.setDie d x).freeCount = s.freeCount := rfl
@[simp] theorem modDie_pending (s : State) (d : Nat) (f : Die → Die) : (s.modDie d f).pending = s.pending := rfl
@[simp] theorem modDie_clause (s : State) (d : Nat) (f : Die → Die) : (s.modDie d f).clause = s.clause := rfl
@[simp] theorem modDie_phase (s : State) (d : Nat) (f : Die → Die) : (s.modDie d f).phase = s.phase := rfl
@[simp] theorem modDie_counting (s : State) (d : Nat) (f : Die → Die) : (s.modDie d f).counting = s.counting := rfl
@[simp] theorem modDie_regs (s : State) (d : Nat) (f : Die → Die) : (s.modDie d f).regs = s.regs := rfl
@[simp] theorem modDie_vaux (s : State) (d : Nat) (f : Die → Die) : (s.modDie d f).vaux = s.vaux := rfl
@[simp] theorem modDie_pwrGood (s : State) (d : Nat) (f : Die → Die) : (s.modDie d f).pwrGood = s.pwrGood := rfl
@[simp] theorem modDie_resetN (s : State) (d : Nat) (f : Die → Die) : (s.modDie d f).resetN = s.resetN := rfl
@[simp] theorem modDie_mgrStrap (s : State) (d : Nat) (f : Die → Die) : (s.modDie d f).mgrStrap = s.mgrStrap := rfl
@[simp] theorem modDie_stbyStrap (s : State) (d : Nat) (f : Die → Die) : (s.modDie d f).stbyStrap = s.stbyStrap := rfl
@[simp] theorem modDie_threads (s : State) (d : Nat) (f : Die → Die) : (s.modDie d f).threads = s.threads := rfl
@[simp] theorem modDie_cores (s : State) (d : Nat) (f : Die → Die) : (s.modDie d f).cores = s.cores := rfl
@[simp] theorem modDie_sent (s : State) (d : Nat) (f : Die → Die) : (s.modDie d f).sent = s.sent := rfl
@[simp] theorem modDie_log (s : State) (d : Nat) (f : Die → Die) : (s.modDie d f).log = s.log := rfl
@[simp] theorem modDie_events (s : State) (d : Nat) (f : Die → Die) : (s.modDie d f).events = s.events := rfl
@[simp] theorem modDie_unresolved (s : State) (d : Nat) (f : Die → Die) : (s.modDie d f).unresolved = s.unresolved := rfl
@[simp] theorem modDie_pccVal (s : State) (d : Nat) (f : Die → Die) : (s.modDie d f).pccVal = s.pccVal := rfl
@[simp] theorem modDie_pccSel (s : State) (d : Nat) (f : Die → Die) : (s.modDie d f).pccSel = s.pccSel := rfl
@[simp] theorem modDie_homes (s : State) (d : Nat) (f : Die → Die) : (s.modDie d f).homes = s.homes := rfl
@[simp] theorem modDie_dirMem (s : State) (d : Nat) (f : Die → Die) : (s.modDie d f).dirMem = s.dirMem := rfl
@[simp] theorem modDie_dirCtl (s : State) (d : Nat) (f : Die → Die) : (s.modDie d f).dirCtl = s.dirCtl := rfl
@[simp] theorem modDie_disp (s : State) (d : Nat) (f : Die → Die) : (s.modDie d f).disp = s.disp := rfl
@[simp] theorem modDie_jrnOff (s : State) (d : Nat) (f : Die → Die) : (s.modDie d f).jrnOff = s.jrnOff := rfl
@[simp] theorem modDie_dirFilter (s : State) (d : Nat) (f : Die → Die) : (s.modDie d f).dirFilter = s.dirFilter := rfl
@[simp] theorem modDie_dirAge (s : State) (d : Nat) (f : Die → Die) : (s.modDie d f).dirAge = s.dirAge := rfl
@[simp] theorem modDie_dirScrubAt (s : State) (d : Nat) (f : Die → Die) : (s.modDie d f).dirScrubAt = s.dirScrubAt := rfl
@[simp] theorem modDie_dirCes (s : State) (d : Nat) (f : Die → Die) : (s.modDie d f).dirCes = s.dirCes := rfl
@[simp] theorem modDie_reshapeStart (s : State) (d : Nat) (f : Die → Die) : (s.modDie d f).reshapeStart = s.reshapeStart := rfl
@[simp] theorem modDie_reshapeEvicted (s : State) (d : Nat) (f : Die → Die) : (s.modDie d f).reshapeEvicted = s.reshapeEvicted := rfl
@[simp] theorem modDie_reshapeQueue (s : State) (d : Nat) (f : Die → Die) : (s.modDie d f).reshapeQueue = s.reshapeQueue := rfl
@[simp] theorem modDie_dirTicks (s : State) (d : Nat) (f : Die → Die) : (s.modDie d f).dirTicks = s.dirTicks := rfl
@[simp] theorem modDie_away (s : State) (d : Nat) (f : Die → Die) : (s.modDie d f).away = s.away := rfl
@[simp] theorem modDie_masks (s : State) (d : Nat) (f : Die → Die) : (s.modDie d f).masks = s.masks := rfl
@[simp] theorem modDie_written (s : State) (d : Nat) (f : Die → Die) : (s.modDie d f).written = s.written := rfl
@[simp] theorem modDie_keyCount (s : State) (d : Nat) (f : Die → Die) : (s.modDie d f).keyCount = s.keyCount := rfl
@[simp] theorem modDie_keyHalf (s : State) (d : Nat) (f : Die → Die) : (s.modDie d f).keyHalf = s.keyHalf := rfl
@[simp] theorem modDie_fillKey (s : State) (d : Nat) (f : Die → Die) : (s.modDie d f).fillKey = s.fillKey := rfl
@[simp] theorem modDie_lineKeys (s : State) (d : Nat) (f : Die → Die) : (s.modDie d f).lineKeys = s.lineKeys := rfl
@[simp] theorem modDie_dramBad (s : State) (d : Nat) (f : Die → Die) : (s.modDie d f).dramBad = s.dramBad := rfl
@[simp] theorem modDie_ports (s : State) (d : Nat) (f : Die → Die) : (s.modDie d f).ports = s.ports := rfl
@[simp] theorem modDie_ucq (s : State) (d : Nat) (f : Die → Die) : (s.modDie d f).ucq = s.ucq := rfl
@[simp] theorem modDie_portTok (s : State) (d : Nat) (f : Die → Die) : (s.modDie d f).portTok = s.portTok := rfl
@[simp] theorem modDie_readQ (s : State) (d : Nat) (f : Die → Die) : (s.modDie d f).readQ = s.readQ := rfl
@[simp] theorem modDie_admitTurn (s : State) (d : Nat) (f : Die → Die) : (s.modDie d f).admitTurn = s.admitTurn := rfl
@[simp] theorem modDie_minTok (s : State) (d : Nat) (f : Die → Die) : (s.modDie d f).minTok = s.minTok := rfl
@[simp] theorem modDie_maxTok (s : State) (d : Nat) (f : Die → Die) : (s.modDie d f).maxTok = s.maxTok := rfl
@[simp] theorem modDie_openRow (s : State) (d : Nat) (f : Die → Die) : (s.modDie d f).openRow = s.openRow := rfl
@[simp] theorem modDie_powerDown (s : State) (d : Nat) (f : Die → Die) : (s.modDie d f).powerDown = s.powerDown := rfl
@[simp] theorem modDie_selfRefresh (s : State) (d : Nat) (f : Die → Die) : (s.modDie d f).selfRefresh = s.selfRefresh := rfl
@[simp] theorem modDie_replays (s : State) (d : Nat) (f : Die → Die) : (s.modDie d f).replays = s.replays := rfl
@[simp] theorem modDie_pot (s : State) (d : Nat) (f : Die → Die) : (s.modDie d f).pot = s.pot := rfl
@[simp] theorem modDie_realms (s : State) (d : Nat) (f : Die → Die) : (s.modDie d f).realms = s.realms := rfl
@[simp] theorem modDie_memberJobs (s : State) (d : Nat) (f : Die → Die) : (s.modDie d f).memberJobs = s.memberJobs := rfl
@[simp] theorem modDie_domains (s : State) (d : Nat) (f : Die → Die) : (s.modDie d f).domains = s.domains := rfl
@[simp] theorem modDie_tlbiUnit (s : State) (d : Nat) (f : Die → Die) : (s.modDie d f).tlbiUnit = s.tlbiUnit := rfl
@[simp] theorem modDie_ctxs (s : State) (d : Nat) (f : Die → Die) : (s.modDie d f).ctxs = s.ctxs := rfl
@[simp] theorem modDie_monitors (s : State) (d : Nat) (f : Die → Die) : (s.modDie d f).monitors = s.monitors := rfl
@[simp] theorem modDie_engines (s : State) (d : Nat) (f : Die → Die) : (s.modDie d f).engines = s.engines := rfl
@[simp] theorem modDie_ctxRuns (s : State) (d : Nat) (f : Die → Die) : (s.modDie d f).ctxRuns = s.ctxRuns := rfl
@[simp] theorem modDie_ctxJob (s : State) (d : Nat) (f : Die → Die) : (s.modDie d f).ctxJob = s.ctxJob := rfl
@[simp] theorem modDie_ctxBad (s : State) (d : Nat) (f : Die → Die) : (s.modDie d f).ctxBad = s.ctxBad := rfl
@[simp] theorem modDie_capUsed (s : State) (d : Nat) (f : Die → Die) : (s.modDie d f).capUsed = s.capUsed := rfl
@[simp] theorem modDie_capHeld (s : State) (d : Nat) (f : Die → Die) : (s.modDie d f).capHeld = s.capHeld := rfl
@[simp] theorem modDie_notice (s : State) (d : Nat) (f : Die → Die) : (s.modDie d f).notice = s.notice := rfl
@[simp] theorem modDie_links (s : State) (d : Nat) (f : Die → Die) : (s.modDie d f).links = s.links := rfl
@[simp] theorem modDie_image (s : State) (d : Nat) (f : Die → Die) : (s.modDie d f).image = s.image := rfl
@[simp] theorem modDie_completions (s : State) (d : Nat) (f : Die → Die) : (s.modDie d f).completions = s.completions := rfl
@[simp] theorem modDie_epf (s : State) (d : Nat) (f : Die → Die) : (s.modDie d f).epf = s.epf := rfl
@[simp] theorem modDie_inbound (s : State) (d : Nat) (f : Die → Die) : (s.modDie d f).inbound = s.inbound := rfl
@[simp] theorem modDie_mapDue (s : State) (d : Nat) (f : Die → Die) : (s.modDie d f).mapDue = s.mapDue := rfl
@[simp] theorem modDie_mapOld (s : State) (d : Nat) (f : Die → Die) : (s.modDie d f).mapOld = s.mapOld := rfl
@[simp] theorem modDie_devReads (s : State) (d : Nat) (f : Die → Die) : (s.modDie d f).devReads = s.devReads := rfl
@[simp] theorem modDie_devTag (s : State) (d : Nat) (f : Die → Die) : (s.modDie d f).devTag = s.devTag := rfl
@[simp] theorem modDie_rpOut (s : State) (d : Nat) (f : Die → Die) : (s.modDie d f).rpOut = s.rpOut := rfl
@[simp] theorem modDie_subsystem (s : State) (d : Nat) (f : Die → Die) : (s.modDie d f).subsystem = s.subsystem := rfl
@[simp] theorem modDie_dump (s : State) (d : Nat) (f : Die → Die) : (s.modDie d f).dump = s.dump := rfl
@[simp] theorem modDie_fuses (s : State) (d : Nat) (f : Die → Die) : (s.modDie d f).fuses = s.fuses := rfl
@[simp] theorem modDie_dieFuses (s : State) (d : Nat) (f : Die → Die) : (s.modDie d f).dieFuses = s.dieFuses := rfl
@[simp] theorem modDie_flash (s : State) (d : Nat) (f : Die → Die) : (s.modDie d f).flash = s.flash := rfl
@[simp] theorem modDie_sense (s : State) (d : Nat) (f : Die → Die) : (s.modDie d f).sense = s.sense := rfl
@[simp] theorem modDie_flashJob (s : State) (d : Nat) (f : Die → Die) : (s.modDie d f).flashJob = s.flashJob := rfl
@[simp] theorem modDie_drain (s : State) (d : Nat) (f : Die → Die) : (s.modDie d f).drain = s.drain := rfl
@[simp] theorem modDie_reshapeCmd (s : State) (d : Nat) (f : Die → Die) : (s.modDie d f).reshapeCmd = s.reshapeCmd := rfl
@[simp] theorem modDie_resetDue (s : State) (d : Nat) (f : Die → Die) : (s.modDie d f).resetDue = s.resetDue := rfl
@[simp] theorem modDie_bridges (s : State) (d : Nat) (f : Die → Die) : (s.modDie d f).bridges = s.bridges := rfl
@[simp] theorem modDie_meshHeld (s : State) (d : Nat) (f : Die → Die) : (s.modDie d f).meshHeld = s.meshHeld := rfl
@[simp] theorem modDie_meshTurn (s : State) (d : Nat) (f : Die → Die) : (s.modDie d f).meshTurn = s.meshTurn := rfl
@[simp] theorem modDie_parasol (s : State) (d : Nat) (f : Die → Die) : (s.modDie d f).parasol = s.parasol := rfl
@[simp] theorem modDie_ownerKeys (s : State) (d : Nat) (f : Die → Die) : (s.modDie d f).ownerKeys = s.ownerKeys := rfl
@[simp] theorem modDie_opNext (s : State) (d : Nat) (f : Die → Die) : (s.modDie d f).opNext = s.opNext := rfl
@[simp] theorem modDie_longOps (s : State) (d : Nat) (f : Die → Die) : (s.modDie d f).longOps = s.longOps := rfl
@[simp] theorem modDie_tops (s : State) (d : Nat) (f : Die → Die) : (s.modDie d f).tops = s.tops := rfl
@[simp] theorem modDie_chainDefault (s : State) (d : Nat) (f : Die → Die) : (s.modDie d f).chainDefault = s.chainDefault := rfl
@[simp] theorem modDie_alertN (s : State) (d : Nat) (f : Die → Die) : (s.modDie d f).alertN = s.alertN := rfl
@[simp] theorem modDie_thermtripN (s : State) (d : Nat) (f : Die → Die) : (s.modDie d f).thermtripN = s.thermtripN := rfl
@[simp] theorem modDie_mem (s : State) (d : Nat) (f : Die → Die) : (s.modDie d f).mem = s.mem := rfl
@[simp] theorem modDie_freeCount (s : State) (d : Nat) (f : Die → Die) : (s.modDie d f).freeCount = s.freeCount := rfl
@[simp] theorem setHome_pending (s : State) (n : Nat) (h : Home) : (s.setHome n h).pending = s.pending := rfl
@[simp] theorem setHome_clause (s : State) (n : Nat) (h : Home) : (s.setHome n h).clause = s.clause := rfl
@[simp] theorem setHome_phase (s : State) (n : Nat) (h : Home) : (s.setHome n h).phase = s.phase := rfl
@[simp] theorem setHome_counting (s : State) (n : Nat) (h : Home) : (s.setHome n h).counting = s.counting := rfl
@[simp] theorem setHome_regs (s : State) (n : Nat) (h : Home) : (s.setHome n h).regs = s.regs := rfl
@[simp] theorem setHome_vaux (s : State) (n : Nat) (h : Home) : (s.setHome n h).vaux = s.vaux := rfl
@[simp] theorem setHome_pwrGood (s : State) (n : Nat) (h : Home) : (s.setHome n h).pwrGood = s.pwrGood := rfl
@[simp] theorem setHome_resetN (s : State) (n : Nat) (h : Home) : (s.setHome n h).resetN = s.resetN := rfl
@[simp] theorem setHome_mgrStrap (s : State) (n : Nat) (h : Home) : (s.setHome n h).mgrStrap = s.mgrStrap := rfl
@[simp] theorem setHome_stbyStrap (s : State) (n : Nat) (h : Home) : (s.setHome n h).stbyStrap = s.stbyStrap := rfl
@[simp] theorem setHome_threads (s : State) (n : Nat) (h : Home) : (s.setHome n h).threads = s.threads := rfl
@[simp] theorem setHome_cores (s : State) (n : Nat) (h : Home) : (s.setHome n h).cores = s.cores := rfl
@[simp] theorem setHome_dies (s : State) (n : Nat) (h : Home) : (s.setHome n h).dies = s.dies := rfl
@[simp] theorem setHome_sent (s : State) (n : Nat) (h : Home) : (s.setHome n h).sent = s.sent := rfl
@[simp] theorem setHome_log (s : State) (n : Nat) (h : Home) : (s.setHome n h).log = s.log := rfl
@[simp] theorem setHome_events (s : State) (n : Nat) (h : Home) : (s.setHome n h).events = s.events := rfl
@[simp] theorem setHome_unresolved (s : State) (n : Nat) (h : Home) : (s.setHome n h).unresolved = s.unresolved := rfl
@[simp] theorem setHome_pccVal (s : State) (n : Nat) (h : Home) : (s.setHome n h).pccVal = s.pccVal := rfl
@[simp] theorem setHome_pccSel (s : State) (n : Nat) (h : Home) : (s.setHome n h).pccSel = s.pccSel := rfl
@[simp] theorem setHome_dirMem (s : State) (n : Nat) (h : Home) : (s.setHome n h).dirMem = s.dirMem := rfl
@[simp] theorem setHome_dirCtl (s : State) (n : Nat) (h : Home) : (s.setHome n h).dirCtl = s.dirCtl := rfl
@[simp] theorem setHome_disp (s : State) (n : Nat) (h : Home) : (s.setHome n h).disp = s.disp := rfl
@[simp] theorem setHome_jrnOff (s : State) (n : Nat) (h : Home) : (s.setHome n h).jrnOff = s.jrnOff := rfl
@[simp] theorem setHome_dirFilter (s : State) (n : Nat) (h : Home) : (s.setHome n h).dirFilter = s.dirFilter := rfl
@[simp] theorem setHome_dirAge (s : State) (n : Nat) (h : Home) : (s.setHome n h).dirAge = s.dirAge := rfl
@[simp] theorem setHome_dirScrubAt (s : State) (n : Nat) (h : Home) : (s.setHome n h).dirScrubAt = s.dirScrubAt := rfl
@[simp] theorem setHome_dirCes (s : State) (n : Nat) (h : Home) : (s.setHome n h).dirCes = s.dirCes := rfl
@[simp] theorem setHome_reshapeStart (s : State) (n : Nat) (h : Home) : (s.setHome n h).reshapeStart = s.reshapeStart := rfl
@[simp] theorem setHome_reshapeEvicted (s : State) (n : Nat) (h : Home) : (s.setHome n h).reshapeEvicted = s.reshapeEvicted := rfl
@[simp] theorem setHome_reshapeQueue (s : State) (n : Nat) (h : Home) : (s.setHome n h).reshapeQueue = s.reshapeQueue := rfl
@[simp] theorem setHome_dirTicks (s : State) (n : Nat) (h : Home) : (s.setHome n h).dirTicks = s.dirTicks := rfl
@[simp] theorem setHome_away (s : State) (n : Nat) (h : Home) : (s.setHome n h).away = s.away := rfl
@[simp] theorem setHome_masks (s : State) (n : Nat) (h : Home) : (s.setHome n h).masks = s.masks := rfl
@[simp] theorem setHome_written (s : State) (n : Nat) (h : Home) : (s.setHome n h).written = s.written := rfl
@[simp] theorem setHome_keyCount (s : State) (n : Nat) (h : Home) : (s.setHome n h).keyCount = s.keyCount := rfl
@[simp] theorem setHome_keyHalf (s : State) (n : Nat) (h : Home) : (s.setHome n h).keyHalf = s.keyHalf := rfl
@[simp] theorem setHome_fillKey (s : State) (n : Nat) (h : Home) : (s.setHome n h).fillKey = s.fillKey := rfl
@[simp] theorem setHome_lineKeys (s : State) (n : Nat) (h : Home) : (s.setHome n h).lineKeys = s.lineKeys := rfl
@[simp] theorem setHome_dramBad (s : State) (n : Nat) (h : Home) : (s.setHome n h).dramBad = s.dramBad := rfl
@[simp] theorem setHome_ports (s : State) (n : Nat) (h : Home) : (s.setHome n h).ports = s.ports := rfl
@[simp] theorem setHome_ucq (s : State) (n : Nat) (h : Home) : (s.setHome n h).ucq = s.ucq := rfl
@[simp] theorem setHome_portTok (s : State) (n : Nat) (h : Home) : (s.setHome n h).portTok = s.portTok := rfl
@[simp] theorem setHome_readQ (s : State) (n : Nat) (h : Home) : (s.setHome n h).readQ = s.readQ := rfl
@[simp] theorem setHome_admitTurn (s : State) (n : Nat) (h : Home) : (s.setHome n h).admitTurn = s.admitTurn := rfl
@[simp] theorem setHome_minTok (s : State) (n : Nat) (h : Home) : (s.setHome n h).minTok = s.minTok := rfl
@[simp] theorem setHome_maxTok (s : State) (n : Nat) (h : Home) : (s.setHome n h).maxTok = s.maxTok := rfl
@[simp] theorem setHome_openRow (s : State) (n : Nat) (h : Home) : (s.setHome n h).openRow = s.openRow := rfl
@[simp] theorem setHome_powerDown (s : State) (n : Nat) (h : Home) : (s.setHome n h).powerDown = s.powerDown := rfl
@[simp] theorem setHome_selfRefresh (s : State) (n : Nat) (h : Home) : (s.setHome n h).selfRefresh = s.selfRefresh := rfl
@[simp] theorem setHome_replays (s : State) (n : Nat) (h : Home) : (s.setHome n h).replays = s.replays := rfl
@[simp] theorem setHome_pot (s : State) (n : Nat) (h : Home) : (s.setHome n h).pot = s.pot := rfl
@[simp] theorem setHome_realms (s : State) (n : Nat) (h : Home) : (s.setHome n h).realms = s.realms := rfl
@[simp] theorem setHome_memberJobs (s : State) (n : Nat) (h : Home) : (s.setHome n h).memberJobs = s.memberJobs := rfl
@[simp] theorem setHome_domains (s : State) (n : Nat) (h : Home) : (s.setHome n h).domains = s.domains := rfl
@[simp] theorem setHome_tlbiUnit (s : State) (n : Nat) (h : Home) : (s.setHome n h).tlbiUnit = s.tlbiUnit := rfl
@[simp] theorem setHome_ctxs (s : State) (n : Nat) (h : Home) : (s.setHome n h).ctxs = s.ctxs := rfl
@[simp] theorem setHome_monitors (s : State) (n : Nat) (h : Home) : (s.setHome n h).monitors = s.monitors := rfl
@[simp] theorem setHome_engines (s : State) (n : Nat) (h : Home) : (s.setHome n h).engines = s.engines := rfl
@[simp] theorem setHome_ctxRuns (s : State) (n : Nat) (h : Home) : (s.setHome n h).ctxRuns = s.ctxRuns := rfl
@[simp] theorem setHome_ctxJob (s : State) (n : Nat) (h : Home) : (s.setHome n h).ctxJob = s.ctxJob := rfl
@[simp] theorem setHome_ctxBad (s : State) (n : Nat) (h : Home) : (s.setHome n h).ctxBad = s.ctxBad := rfl
@[simp] theorem setHome_capUsed (s : State) (n : Nat) (h : Home) : (s.setHome n h).capUsed = s.capUsed := rfl
@[simp] theorem setHome_capHeld (s : State) (n : Nat) (h : Home) : (s.setHome n h).capHeld = s.capHeld := rfl
@[simp] theorem setHome_notice (s : State) (n : Nat) (h : Home) : (s.setHome n h).notice = s.notice := rfl
@[simp] theorem setHome_links (s : State) (n : Nat) (h : Home) : (s.setHome n h).links = s.links := rfl
@[simp] theorem setHome_image (s : State) (n : Nat) (h : Home) : (s.setHome n h).image = s.image := rfl
@[simp] theorem setHome_completions (s : State) (n : Nat) (h : Home) : (s.setHome n h).completions = s.completions := rfl
@[simp] theorem setHome_epf (s : State) (n : Nat) (h : Home) : (s.setHome n h).epf = s.epf := rfl
@[simp] theorem setHome_inbound (s : State) (n : Nat) (h : Home) : (s.setHome n h).inbound = s.inbound := rfl
@[simp] theorem setHome_mapDue (s : State) (n : Nat) (h : Home) : (s.setHome n h).mapDue = s.mapDue := rfl
@[simp] theorem setHome_mapOld (s : State) (n : Nat) (h : Home) : (s.setHome n h).mapOld = s.mapOld := rfl
@[simp] theorem setHome_devReads (s : State) (n : Nat) (h : Home) : (s.setHome n h).devReads = s.devReads := rfl
@[simp] theorem setHome_devTag (s : State) (n : Nat) (h : Home) : (s.setHome n h).devTag = s.devTag := rfl
@[simp] theorem setHome_rpOut (s : State) (n : Nat) (h : Home) : (s.setHome n h).rpOut = s.rpOut := rfl
@[simp] theorem setHome_subsystem (s : State) (n : Nat) (h : Home) : (s.setHome n h).subsystem = s.subsystem := rfl
@[simp] theorem setHome_dump (s : State) (n : Nat) (h : Home) : (s.setHome n h).dump = s.dump := rfl
@[simp] theorem setHome_fuses (s : State) (n : Nat) (h : Home) : (s.setHome n h).fuses = s.fuses := rfl
@[simp] theorem setHome_dieFuses (s : State) (n : Nat) (h : Home) : (s.setHome n h).dieFuses = s.dieFuses := rfl
@[simp] theorem setHome_flash (s : State) (n : Nat) (h : Home) : (s.setHome n h).flash = s.flash := rfl
@[simp] theorem setHome_sense (s : State) (n : Nat) (h : Home) : (s.setHome n h).sense = s.sense := rfl
@[simp] theorem setHome_flashJob (s : State) (n : Nat) (h : Home) : (s.setHome n h).flashJob = s.flashJob := rfl
@[simp] theorem setHome_drain (s : State) (n : Nat) (h : Home) : (s.setHome n h).drain = s.drain := rfl
@[simp] theorem setHome_reshapeCmd (s : State) (n : Nat) (h : Home) : (s.setHome n h).reshapeCmd = s.reshapeCmd := rfl
@[simp] theorem setHome_resetDue (s : State) (n : Nat) (h : Home) : (s.setHome n h).resetDue = s.resetDue := rfl
@[simp] theorem setHome_bridges (s : State) (n : Nat) (h : Home) : (s.setHome n h).bridges = s.bridges := rfl
@[simp] theorem setHome_meshHeld (s : State) (n : Nat) (h : Home) : (s.setHome n h).meshHeld = s.meshHeld := rfl
@[simp] theorem setHome_meshTurn (s : State) (n : Nat) (h : Home) : (s.setHome n h).meshTurn = s.meshTurn := rfl
@[simp] theorem setHome_parasol (s : State) (n : Nat) (h : Home) : (s.setHome n h).parasol = s.parasol := rfl
@[simp] theorem setHome_ownerKeys (s : State) (n : Nat) (h : Home) : (s.setHome n h).ownerKeys = s.ownerKeys := rfl
@[simp] theorem setHome_opNext (s : State) (n : Nat) (h : Home) : (s.setHome n h).opNext = s.opNext := rfl
@[simp] theorem setHome_longOps (s : State) (n : Nat) (h : Home) : (s.setHome n h).longOps = s.longOps := rfl
@[simp] theorem setHome_tops (s : State) (n : Nat) (h : Home) : (s.setHome n h).tops = s.tops := rfl
@[simp] theorem setHome_chainDefault (s : State) (n : Nat) (h : Home) : (s.setHome n h).chainDefault = s.chainDefault := rfl
@[simp] theorem setHome_alertN (s : State) (n : Nat) (h : Home) : (s.setHome n h).alertN = s.alertN := rfl
@[simp] theorem setHome_thermtripN (s : State) (n : Nat) (h : Home) : (s.setHome n h).thermtripN = s.thermtripN := rfl
@[simp] theorem setHome_mem (s : State) (n : Nat) (h : Home) : (s.setHome n h).mem = s.mem := rfl
@[simp] theorem setHome_freeCount (s : State) (n : Nat) (h : Home) : (s.setHome n h).freeCount = s.freeCount := rfl
@[simp] theorem modHome_pending (s : State) (n : Nat) (f : Home → Home) : (s.modHome n f).pending = s.pending := rfl
@[simp] theorem modHome_clause (s : State) (n : Nat) (f : Home → Home) : (s.modHome n f).clause = s.clause := rfl
@[simp] theorem modHome_phase (s : State) (n : Nat) (f : Home → Home) : (s.modHome n f).phase = s.phase := rfl
@[simp] theorem modHome_counting (s : State) (n : Nat) (f : Home → Home) : (s.modHome n f).counting = s.counting := rfl
@[simp] theorem modHome_regs (s : State) (n : Nat) (f : Home → Home) : (s.modHome n f).regs = s.regs := rfl
@[simp] theorem modHome_vaux (s : State) (n : Nat) (f : Home → Home) : (s.modHome n f).vaux = s.vaux := rfl
@[simp] theorem modHome_pwrGood (s : State) (n : Nat) (f : Home → Home) : (s.modHome n f).pwrGood = s.pwrGood := rfl
@[simp] theorem modHome_resetN (s : State) (n : Nat) (f : Home → Home) : (s.modHome n f).resetN = s.resetN := rfl
@[simp] theorem modHome_mgrStrap (s : State) (n : Nat) (f : Home → Home) : (s.modHome n f).mgrStrap = s.mgrStrap := rfl
@[simp] theorem modHome_stbyStrap (s : State) (n : Nat) (f : Home → Home) : (s.modHome n f).stbyStrap = s.stbyStrap := rfl
@[simp] theorem modHome_threads (s : State) (n : Nat) (f : Home → Home) : (s.modHome n f).threads = s.threads := rfl
@[simp] theorem modHome_cores (s : State) (n : Nat) (f : Home → Home) : (s.modHome n f).cores = s.cores := rfl
@[simp] theorem modHome_dies (s : State) (n : Nat) (f : Home → Home) : (s.modHome n f).dies = s.dies := rfl
@[simp] theorem modHome_sent (s : State) (n : Nat) (f : Home → Home) : (s.modHome n f).sent = s.sent := rfl
@[simp] theorem modHome_log (s : State) (n : Nat) (f : Home → Home) : (s.modHome n f).log = s.log := rfl
@[simp] theorem modHome_events (s : State) (n : Nat) (f : Home → Home) : (s.modHome n f).events = s.events := rfl
@[simp] theorem modHome_unresolved (s : State) (n : Nat) (f : Home → Home) : (s.modHome n f).unresolved = s.unresolved := rfl
@[simp] theorem modHome_pccVal (s : State) (n : Nat) (f : Home → Home) : (s.modHome n f).pccVal = s.pccVal := rfl
@[simp] theorem modHome_pccSel (s : State) (n : Nat) (f : Home → Home) : (s.modHome n f).pccSel = s.pccSel := rfl
@[simp] theorem modHome_dirMem (s : State) (n : Nat) (f : Home → Home) : (s.modHome n f).dirMem = s.dirMem := rfl
@[simp] theorem modHome_dirCtl (s : State) (n : Nat) (f : Home → Home) : (s.modHome n f).dirCtl = s.dirCtl := rfl
@[simp] theorem modHome_disp (s : State) (n : Nat) (f : Home → Home) : (s.modHome n f).disp = s.disp := rfl
@[simp] theorem modHome_jrnOff (s : State) (n : Nat) (f : Home → Home) : (s.modHome n f).jrnOff = s.jrnOff := rfl
@[simp] theorem modHome_dirFilter (s : State) (n : Nat) (f : Home → Home) : (s.modHome n f).dirFilter = s.dirFilter := rfl
@[simp] theorem modHome_dirAge (s : State) (n : Nat) (f : Home → Home) : (s.modHome n f).dirAge = s.dirAge := rfl
@[simp] theorem modHome_dirScrubAt (s : State) (n : Nat) (f : Home → Home) : (s.modHome n f).dirScrubAt = s.dirScrubAt := rfl
@[simp] theorem modHome_dirCes (s : State) (n : Nat) (f : Home → Home) : (s.modHome n f).dirCes = s.dirCes := rfl
@[simp] theorem modHome_reshapeStart (s : State) (n : Nat) (f : Home → Home) : (s.modHome n f).reshapeStart = s.reshapeStart := rfl
@[simp] theorem modHome_reshapeEvicted (s : State) (n : Nat) (f : Home → Home) : (s.modHome n f).reshapeEvicted = s.reshapeEvicted := rfl
@[simp] theorem modHome_reshapeQueue (s : State) (n : Nat) (f : Home → Home) : (s.modHome n f).reshapeQueue = s.reshapeQueue := rfl
@[simp] theorem modHome_dirTicks (s : State) (n : Nat) (f : Home → Home) : (s.modHome n f).dirTicks = s.dirTicks := rfl
@[simp] theorem modHome_away (s : State) (n : Nat) (f : Home → Home) : (s.modHome n f).away = s.away := rfl
@[simp] theorem modHome_masks (s : State) (n : Nat) (f : Home → Home) : (s.modHome n f).masks = s.masks := rfl
@[simp] theorem modHome_written (s : State) (n : Nat) (f : Home → Home) : (s.modHome n f).written = s.written := rfl
@[simp] theorem modHome_keyCount (s : State) (n : Nat) (f : Home → Home) : (s.modHome n f).keyCount = s.keyCount := rfl
@[simp] theorem modHome_keyHalf (s : State) (n : Nat) (f : Home → Home) : (s.modHome n f).keyHalf = s.keyHalf := rfl
@[simp] theorem modHome_fillKey (s : State) (n : Nat) (f : Home → Home) : (s.modHome n f).fillKey = s.fillKey := rfl
@[simp] theorem modHome_lineKeys (s : State) (n : Nat) (f : Home → Home) : (s.modHome n f).lineKeys = s.lineKeys := rfl
@[simp] theorem modHome_dramBad (s : State) (n : Nat) (f : Home → Home) : (s.modHome n f).dramBad = s.dramBad := rfl
@[simp] theorem modHome_ports (s : State) (n : Nat) (f : Home → Home) : (s.modHome n f).ports = s.ports := rfl
@[simp] theorem modHome_ucq (s : State) (n : Nat) (f : Home → Home) : (s.modHome n f).ucq = s.ucq := rfl
@[simp] theorem modHome_portTok (s : State) (n : Nat) (f : Home → Home) : (s.modHome n f).portTok = s.portTok := rfl
@[simp] theorem modHome_readQ (s : State) (n : Nat) (f : Home → Home) : (s.modHome n f).readQ = s.readQ := rfl
@[simp] theorem modHome_admitTurn (s : State) (n : Nat) (f : Home → Home) : (s.modHome n f).admitTurn = s.admitTurn := rfl
@[simp] theorem modHome_minTok (s : State) (n : Nat) (f : Home → Home) : (s.modHome n f).minTok = s.minTok := rfl
@[simp] theorem modHome_maxTok (s : State) (n : Nat) (f : Home → Home) : (s.modHome n f).maxTok = s.maxTok := rfl
@[simp] theorem modHome_openRow (s : State) (n : Nat) (f : Home → Home) : (s.modHome n f).openRow = s.openRow := rfl
@[simp] theorem modHome_powerDown (s : State) (n : Nat) (f : Home → Home) : (s.modHome n f).powerDown = s.powerDown := rfl
@[simp] theorem modHome_selfRefresh (s : State) (n : Nat) (f : Home → Home) : (s.modHome n f).selfRefresh = s.selfRefresh := rfl
@[simp] theorem modHome_replays (s : State) (n : Nat) (f : Home → Home) : (s.modHome n f).replays = s.replays := rfl
@[simp] theorem modHome_pot (s : State) (n : Nat) (f : Home → Home) : (s.modHome n f).pot = s.pot := rfl
@[simp] theorem modHome_realms (s : State) (n : Nat) (f : Home → Home) : (s.modHome n f).realms = s.realms := rfl
@[simp] theorem modHome_memberJobs (s : State) (n : Nat) (f : Home → Home) : (s.modHome n f).memberJobs = s.memberJobs := rfl
@[simp] theorem modHome_domains (s : State) (n : Nat) (f : Home → Home) : (s.modHome n f).domains = s.domains := rfl
@[simp] theorem modHome_tlbiUnit (s : State) (n : Nat) (f : Home → Home) : (s.modHome n f).tlbiUnit = s.tlbiUnit := rfl
@[simp] theorem modHome_ctxs (s : State) (n : Nat) (f : Home → Home) : (s.modHome n f).ctxs = s.ctxs := rfl
@[simp] theorem modHome_monitors (s : State) (n : Nat) (f : Home → Home) : (s.modHome n f).monitors = s.monitors := rfl
@[simp] theorem modHome_engines (s : State) (n : Nat) (f : Home → Home) : (s.modHome n f).engines = s.engines := rfl
@[simp] theorem modHome_ctxRuns (s : State) (n : Nat) (f : Home → Home) : (s.modHome n f).ctxRuns = s.ctxRuns := rfl
@[simp] theorem modHome_ctxJob (s : State) (n : Nat) (f : Home → Home) : (s.modHome n f).ctxJob = s.ctxJob := rfl
@[simp] theorem modHome_ctxBad (s : State) (n : Nat) (f : Home → Home) : (s.modHome n f).ctxBad = s.ctxBad := rfl
@[simp] theorem modHome_capUsed (s : State) (n : Nat) (f : Home → Home) : (s.modHome n f).capUsed = s.capUsed := rfl
@[simp] theorem modHome_capHeld (s : State) (n : Nat) (f : Home → Home) : (s.modHome n f).capHeld = s.capHeld := rfl
@[simp] theorem modHome_notice (s : State) (n : Nat) (f : Home → Home) : (s.modHome n f).notice = s.notice := rfl
@[simp] theorem modHome_links (s : State) (n : Nat) (f : Home → Home) : (s.modHome n f).links = s.links := rfl
@[simp] theorem modHome_image (s : State) (n : Nat) (f : Home → Home) : (s.modHome n f).image = s.image := rfl
@[simp] theorem modHome_completions (s : State) (n : Nat) (f : Home → Home) : (s.modHome n f).completions = s.completions := rfl
@[simp] theorem modHome_epf (s : State) (n : Nat) (f : Home → Home) : (s.modHome n f).epf = s.epf := rfl
@[simp] theorem modHome_inbound (s : State) (n : Nat) (f : Home → Home) : (s.modHome n f).inbound = s.inbound := rfl
@[simp] theorem modHome_mapDue (s : State) (n : Nat) (f : Home → Home) : (s.modHome n f).mapDue = s.mapDue := rfl
@[simp] theorem modHome_mapOld (s : State) (n : Nat) (f : Home → Home) : (s.modHome n f).mapOld = s.mapOld := rfl
@[simp] theorem modHome_devReads (s : State) (n : Nat) (f : Home → Home) : (s.modHome n f).devReads = s.devReads := rfl
@[simp] theorem modHome_devTag (s : State) (n : Nat) (f : Home → Home) : (s.modHome n f).devTag = s.devTag := rfl
@[simp] theorem modHome_rpOut (s : State) (n : Nat) (f : Home → Home) : (s.modHome n f).rpOut = s.rpOut := rfl
@[simp] theorem modHome_subsystem (s : State) (n : Nat) (f : Home → Home) : (s.modHome n f).subsystem = s.subsystem := rfl
@[simp] theorem modHome_dump (s : State) (n : Nat) (f : Home → Home) : (s.modHome n f).dump = s.dump := rfl
@[simp] theorem modHome_fuses (s : State) (n : Nat) (f : Home → Home) : (s.modHome n f).fuses = s.fuses := rfl
@[simp] theorem modHome_dieFuses (s : State) (n : Nat) (f : Home → Home) : (s.modHome n f).dieFuses = s.dieFuses := rfl
@[simp] theorem modHome_flash (s : State) (n : Nat) (f : Home → Home) : (s.modHome n f).flash = s.flash := rfl
@[simp] theorem modHome_sense (s : State) (n : Nat) (f : Home → Home) : (s.modHome n f).sense = s.sense := rfl
@[simp] theorem modHome_flashJob (s : State) (n : Nat) (f : Home → Home) : (s.modHome n f).flashJob = s.flashJob := rfl
@[simp] theorem modHome_drain (s : State) (n : Nat) (f : Home → Home) : (s.modHome n f).drain = s.drain := rfl
@[simp] theorem modHome_reshapeCmd (s : State) (n : Nat) (f : Home → Home) : (s.modHome n f).reshapeCmd = s.reshapeCmd := rfl
@[simp] theorem modHome_resetDue (s : State) (n : Nat) (f : Home → Home) : (s.modHome n f).resetDue = s.resetDue := rfl
@[simp] theorem modHome_bridges (s : State) (n : Nat) (f : Home → Home) : (s.modHome n f).bridges = s.bridges := rfl
@[simp] theorem modHome_meshHeld (s : State) (n : Nat) (f : Home → Home) : (s.modHome n f).meshHeld = s.meshHeld := rfl
@[simp] theorem modHome_meshTurn (s : State) (n : Nat) (f : Home → Home) : (s.modHome n f).meshTurn = s.meshTurn := rfl
@[simp] theorem modHome_parasol (s : State) (n : Nat) (f : Home → Home) : (s.modHome n f).parasol = s.parasol := rfl
@[simp] theorem modHome_ownerKeys (s : State) (n : Nat) (f : Home → Home) : (s.modHome n f).ownerKeys = s.ownerKeys := rfl
@[simp] theorem modHome_opNext (s : State) (n : Nat) (f : Home → Home) : (s.modHome n f).opNext = s.opNext := rfl
@[simp] theorem modHome_longOps (s : State) (n : Nat) (f : Home → Home) : (s.modHome n f).longOps = s.longOps := rfl
@[simp] theorem modHome_tops (s : State) (n : Nat) (f : Home → Home) : (s.modHome n f).tops = s.tops := rfl
@[simp] theorem modHome_chainDefault (s : State) (n : Nat) (f : Home → Home) : (s.modHome n f).chainDefault = s.chainDefault := rfl
@[simp] theorem modHome_alertN (s : State) (n : Nat) (f : Home → Home) : (s.modHome n f).alertN = s.alertN := rfl
@[simp] theorem modHome_thermtripN (s : State) (n : Nat) (f : Home → Home) : (s.modHome n f).thermtripN = s.thermtripN := rfl
@[simp] theorem modHome_mem (s : State) (n : Nat) (f : Home → Home) : (s.modHome n f).mem = s.mem := rfl
@[simp] theorem modHome_freeCount (s : State) (n : Nat) (f : Home → Home) : (s.modHome n f).freeCount = s.freeCount := rfl
@[simp] theorem setLink_pending (s : State) (n : Nat) (l : Link) : (s.setLink n l).pending = s.pending := rfl
@[simp] theorem setLink_clause (s : State) (n : Nat) (l : Link) : (s.setLink n l).clause = s.clause := rfl
@[simp] theorem setLink_phase (s : State) (n : Nat) (l : Link) : (s.setLink n l).phase = s.phase := rfl
@[simp] theorem setLink_counting (s : State) (n : Nat) (l : Link) : (s.setLink n l).counting = s.counting := rfl
@[simp] theorem setLink_regs (s : State) (n : Nat) (l : Link) : (s.setLink n l).regs = s.regs := rfl
@[simp] theorem setLink_vaux (s : State) (n : Nat) (l : Link) : (s.setLink n l).vaux = s.vaux := rfl
@[simp] theorem setLink_pwrGood (s : State) (n : Nat) (l : Link) : (s.setLink n l).pwrGood = s.pwrGood := rfl
@[simp] theorem setLink_resetN (s : State) (n : Nat) (l : Link) : (s.setLink n l).resetN = s.resetN := rfl
@[simp] theorem setLink_mgrStrap (s : State) (n : Nat) (l : Link) : (s.setLink n l).mgrStrap = s.mgrStrap := rfl
@[simp] theorem setLink_stbyStrap (s : State) (n : Nat) (l : Link) : (s.setLink n l).stbyStrap = s.stbyStrap := rfl
@[simp] theorem setLink_threads (s : State) (n : Nat) (l : Link) : (s.setLink n l).threads = s.threads := rfl
@[simp] theorem setLink_cores (s : State) (n : Nat) (l : Link) : (s.setLink n l).cores = s.cores := rfl
@[simp] theorem setLink_dies (s : State) (n : Nat) (l : Link) : (s.setLink n l).dies = s.dies := rfl
@[simp] theorem setLink_sent (s : State) (n : Nat) (l : Link) : (s.setLink n l).sent = s.sent := rfl
@[simp] theorem setLink_log (s : State) (n : Nat) (l : Link) : (s.setLink n l).log = s.log := rfl
@[simp] theorem setLink_events (s : State) (n : Nat) (l : Link) : (s.setLink n l).events = s.events := rfl
@[simp] theorem setLink_unresolved (s : State) (n : Nat) (l : Link) : (s.setLink n l).unresolved = s.unresolved := rfl
@[simp] theorem setLink_pccVal (s : State) (n : Nat) (l : Link) : (s.setLink n l).pccVal = s.pccVal := rfl
@[simp] theorem setLink_pccSel (s : State) (n : Nat) (l : Link) : (s.setLink n l).pccSel = s.pccSel := rfl
@[simp] theorem setLink_homes (s : State) (n : Nat) (l : Link) : (s.setLink n l).homes = s.homes := rfl
@[simp] theorem setLink_dirMem (s : State) (n : Nat) (l : Link) : (s.setLink n l).dirMem = s.dirMem := rfl
@[simp] theorem setLink_dirCtl (s : State) (n : Nat) (l : Link) : (s.setLink n l).dirCtl = s.dirCtl := rfl
@[simp] theorem setLink_disp (s : State) (n : Nat) (l : Link) : (s.setLink n l).disp = s.disp := rfl
@[simp] theorem setLink_jrnOff (s : State) (n : Nat) (l : Link) : (s.setLink n l).jrnOff = s.jrnOff := rfl
@[simp] theorem setLink_dirFilter (s : State) (n : Nat) (l : Link) : (s.setLink n l).dirFilter = s.dirFilter := rfl
@[simp] theorem setLink_dirAge (s : State) (n : Nat) (l : Link) : (s.setLink n l).dirAge = s.dirAge := rfl
@[simp] theorem setLink_dirScrubAt (s : State) (n : Nat) (l : Link) : (s.setLink n l).dirScrubAt = s.dirScrubAt := rfl
@[simp] theorem setLink_dirCes (s : State) (n : Nat) (l : Link) : (s.setLink n l).dirCes = s.dirCes := rfl
@[simp] theorem setLink_reshapeStart (s : State) (n : Nat) (l : Link) : (s.setLink n l).reshapeStart = s.reshapeStart := rfl
@[simp] theorem setLink_reshapeEvicted (s : State) (n : Nat) (l : Link) : (s.setLink n l).reshapeEvicted = s.reshapeEvicted := rfl
@[simp] theorem setLink_reshapeQueue (s : State) (n : Nat) (l : Link) : (s.setLink n l).reshapeQueue = s.reshapeQueue := rfl
@[simp] theorem setLink_dirTicks (s : State) (n : Nat) (l : Link) : (s.setLink n l).dirTicks = s.dirTicks := rfl
@[simp] theorem setLink_away (s : State) (n : Nat) (l : Link) : (s.setLink n l).away = s.away := rfl
@[simp] theorem setLink_masks (s : State) (n : Nat) (l : Link) : (s.setLink n l).masks = s.masks := rfl
@[simp] theorem setLink_written (s : State) (n : Nat) (l : Link) : (s.setLink n l).written = s.written := rfl
@[simp] theorem setLink_keyCount (s : State) (n : Nat) (l : Link) : (s.setLink n l).keyCount = s.keyCount := rfl
@[simp] theorem setLink_keyHalf (s : State) (n : Nat) (l : Link) : (s.setLink n l).keyHalf = s.keyHalf := rfl
@[simp] theorem setLink_fillKey (s : State) (n : Nat) (l : Link) : (s.setLink n l).fillKey = s.fillKey := rfl
@[simp] theorem setLink_lineKeys (s : State) (n : Nat) (l : Link) : (s.setLink n l).lineKeys = s.lineKeys := rfl
@[simp] theorem setLink_dramBad (s : State) (n : Nat) (l : Link) : (s.setLink n l).dramBad = s.dramBad := rfl
@[simp] theorem setLink_ports (s : State) (n : Nat) (l : Link) : (s.setLink n l).ports = s.ports := rfl
@[simp] theorem setLink_ucq (s : State) (n : Nat) (l : Link) : (s.setLink n l).ucq = s.ucq := rfl
@[simp] theorem setLink_portTok (s : State) (n : Nat) (l : Link) : (s.setLink n l).portTok = s.portTok := rfl
@[simp] theorem setLink_readQ (s : State) (n : Nat) (l : Link) : (s.setLink n l).readQ = s.readQ := rfl
@[simp] theorem setLink_admitTurn (s : State) (n : Nat) (l : Link) : (s.setLink n l).admitTurn = s.admitTurn := rfl
@[simp] theorem setLink_minTok (s : State) (n : Nat) (l : Link) : (s.setLink n l).minTok = s.minTok := rfl
@[simp] theorem setLink_maxTok (s : State) (n : Nat) (l : Link) : (s.setLink n l).maxTok = s.maxTok := rfl
@[simp] theorem setLink_openRow (s : State) (n : Nat) (l : Link) : (s.setLink n l).openRow = s.openRow := rfl
@[simp] theorem setLink_powerDown (s : State) (n : Nat) (l : Link) : (s.setLink n l).powerDown = s.powerDown := rfl
@[simp] theorem setLink_selfRefresh (s : State) (n : Nat) (l : Link) : (s.setLink n l).selfRefresh = s.selfRefresh := rfl
@[simp] theorem setLink_replays (s : State) (n : Nat) (l : Link) : (s.setLink n l).replays = s.replays := rfl
@[simp] theorem setLink_pot (s : State) (n : Nat) (l : Link) : (s.setLink n l).pot = s.pot := rfl
@[simp] theorem setLink_realms (s : State) (n : Nat) (l : Link) : (s.setLink n l).realms = s.realms := rfl
@[simp] theorem setLink_memberJobs (s : State) (n : Nat) (l : Link) : (s.setLink n l).memberJobs = s.memberJobs := rfl
@[simp] theorem setLink_domains (s : State) (n : Nat) (l : Link) : (s.setLink n l).domains = s.domains := rfl
@[simp] theorem setLink_tlbiUnit (s : State) (n : Nat) (l : Link) : (s.setLink n l).tlbiUnit = s.tlbiUnit := rfl
@[simp] theorem setLink_ctxs (s : State) (n : Nat) (l : Link) : (s.setLink n l).ctxs = s.ctxs := rfl
@[simp] theorem setLink_monitors (s : State) (n : Nat) (l : Link) : (s.setLink n l).monitors = s.monitors := rfl
@[simp] theorem setLink_engines (s : State) (n : Nat) (l : Link) : (s.setLink n l).engines = s.engines := rfl
@[simp] theorem setLink_ctxRuns (s : State) (n : Nat) (l : Link) : (s.setLink n l).ctxRuns = s.ctxRuns := rfl
@[simp] theorem setLink_ctxJob (s : State) (n : Nat) (l : Link) : (s.setLink n l).ctxJob = s.ctxJob := rfl
@[simp] theorem setLink_ctxBad (s : State) (n : Nat) (l : Link) : (s.setLink n l).ctxBad = s.ctxBad := rfl
@[simp] theorem setLink_capUsed (s : State) (n : Nat) (l : Link) : (s.setLink n l).capUsed = s.capUsed := rfl
@[simp] theorem setLink_capHeld (s : State) (n : Nat) (l : Link) : (s.setLink n l).capHeld = s.capHeld := rfl
@[simp] theorem setLink_notice (s : State) (n : Nat) (l : Link) : (s.setLink n l).notice = s.notice := rfl
@[simp] theorem setLink_image (s : State) (n : Nat) (l : Link) : (s.setLink n l).image = s.image := rfl
@[simp] theorem setLink_completions (s : State) (n : Nat) (l : Link) : (s.setLink n l).completions = s.completions := rfl
@[simp] theorem setLink_epf (s : State) (n : Nat) (l : Link) : (s.setLink n l).epf = s.epf := rfl
@[simp] theorem setLink_inbound (s : State) (n : Nat) (l : Link) : (s.setLink n l).inbound = s.inbound := rfl
@[simp] theorem setLink_mapDue (s : State) (n : Nat) (l : Link) : (s.setLink n l).mapDue = s.mapDue := rfl
@[simp] theorem setLink_mapOld (s : State) (n : Nat) (l : Link) : (s.setLink n l).mapOld = s.mapOld := rfl
@[simp] theorem setLink_devReads (s : State) (n : Nat) (l : Link) : (s.setLink n l).devReads = s.devReads := rfl
@[simp] theorem setLink_devTag (s : State) (n : Nat) (l : Link) : (s.setLink n l).devTag = s.devTag := rfl
@[simp] theorem setLink_rpOut (s : State) (n : Nat) (l : Link) : (s.setLink n l).rpOut = s.rpOut := rfl
@[simp] theorem setLink_subsystem (s : State) (n : Nat) (l : Link) : (s.setLink n l).subsystem = s.subsystem := rfl
@[simp] theorem setLink_dump (s : State) (n : Nat) (l : Link) : (s.setLink n l).dump = s.dump := rfl
@[simp] theorem setLink_fuses (s : State) (n : Nat) (l : Link) : (s.setLink n l).fuses = s.fuses := rfl
@[simp] theorem setLink_dieFuses (s : State) (n : Nat) (l : Link) : (s.setLink n l).dieFuses = s.dieFuses := rfl
@[simp] theorem setLink_flash (s : State) (n : Nat) (l : Link) : (s.setLink n l).flash = s.flash := rfl
@[simp] theorem setLink_sense (s : State) (n : Nat) (l : Link) : (s.setLink n l).sense = s.sense := rfl
@[simp] theorem setLink_flashJob (s : State) (n : Nat) (l : Link) : (s.setLink n l).flashJob = s.flashJob := rfl
@[simp] theorem setLink_drain (s : State) (n : Nat) (l : Link) : (s.setLink n l).drain = s.drain := rfl
@[simp] theorem setLink_reshapeCmd (s : State) (n : Nat) (l : Link) : (s.setLink n l).reshapeCmd = s.reshapeCmd := rfl
@[simp] theorem setLink_resetDue (s : State) (n : Nat) (l : Link) : (s.setLink n l).resetDue = s.resetDue := rfl
@[simp] theorem setLink_bridges (s : State) (n : Nat) (l : Link) : (s.setLink n l).bridges = s.bridges := rfl
@[simp] theorem setLink_meshHeld (s : State) (n : Nat) (l : Link) : (s.setLink n l).meshHeld = s.meshHeld := rfl
@[simp] theorem setLink_meshTurn (s : State) (n : Nat) (l : Link) : (s.setLink n l).meshTurn = s.meshTurn := rfl
@[simp] theorem setLink_parasol (s : State) (n : Nat) (l : Link) : (s.setLink n l).parasol = s.parasol := rfl
@[simp] theorem setLink_ownerKeys (s : State) (n : Nat) (l : Link) : (s.setLink n l).ownerKeys = s.ownerKeys := rfl
@[simp] theorem setLink_opNext (s : State) (n : Nat) (l : Link) : (s.setLink n l).opNext = s.opNext := rfl
@[simp] theorem setLink_longOps (s : State) (n : Nat) (l : Link) : (s.setLink n l).longOps = s.longOps := rfl
@[simp] theorem setLink_tops (s : State) (n : Nat) (l : Link) : (s.setLink n l).tops = s.tops := rfl
@[simp] theorem setLink_chainDefault (s : State) (n : Nat) (l : Link) : (s.setLink n l).chainDefault = s.chainDefault := rfl
@[simp] theorem setLink_alertN (s : State) (n : Nat) (l : Link) : (s.setLink n l).alertN = s.alertN := rfl
@[simp] theorem setLink_thermtripN (s : State) (n : Nat) (l : Link) : (s.setLink n l).thermtripN = s.thermtripN := rfl
@[simp] theorem setLink_mem (s : State) (n : Nat) (l : Link) : (s.setLink n l).mem = s.mem := rfl
@[simp] theorem setLink_freeCount (s : State) (n : Nat) (l : Link) : (s.setLink n l).freeCount = s.freeCount := rfl
@[simp] theorem modLink_pending (s : State) (n : Nat) (f : Link → Link) : (s.modLink n f).pending = s.pending := rfl
@[simp] theorem modLink_clause (s : State) (n : Nat) (f : Link → Link) : (s.modLink n f).clause = s.clause := rfl
@[simp] theorem modLink_phase (s : State) (n : Nat) (f : Link → Link) : (s.modLink n f).phase = s.phase := rfl
@[simp] theorem modLink_counting (s : State) (n : Nat) (f : Link → Link) : (s.modLink n f).counting = s.counting := rfl
@[simp] theorem modLink_regs (s : State) (n : Nat) (f : Link → Link) : (s.modLink n f).regs = s.regs := rfl
@[simp] theorem modLink_vaux (s : State) (n : Nat) (f : Link → Link) : (s.modLink n f).vaux = s.vaux := rfl
@[simp] theorem modLink_pwrGood (s : State) (n : Nat) (f : Link → Link) : (s.modLink n f).pwrGood = s.pwrGood := rfl
@[simp] theorem modLink_resetN (s : State) (n : Nat) (f : Link → Link) : (s.modLink n f).resetN = s.resetN := rfl
@[simp] theorem modLink_mgrStrap (s : State) (n : Nat) (f : Link → Link) : (s.modLink n f).mgrStrap = s.mgrStrap := rfl
@[simp] theorem modLink_stbyStrap (s : State) (n : Nat) (f : Link → Link) : (s.modLink n f).stbyStrap = s.stbyStrap := rfl
@[simp] theorem modLink_threads (s : State) (n : Nat) (f : Link → Link) : (s.modLink n f).threads = s.threads := rfl
@[simp] theorem modLink_cores (s : State) (n : Nat) (f : Link → Link) : (s.modLink n f).cores = s.cores := rfl
@[simp] theorem modLink_dies (s : State) (n : Nat) (f : Link → Link) : (s.modLink n f).dies = s.dies := rfl
@[simp] theorem modLink_sent (s : State) (n : Nat) (f : Link → Link) : (s.modLink n f).sent = s.sent := rfl
@[simp] theorem modLink_log (s : State) (n : Nat) (f : Link → Link) : (s.modLink n f).log = s.log := rfl
@[simp] theorem modLink_events (s : State) (n : Nat) (f : Link → Link) : (s.modLink n f).events = s.events := rfl
@[simp] theorem modLink_unresolved (s : State) (n : Nat) (f : Link → Link) : (s.modLink n f).unresolved = s.unresolved := rfl
@[simp] theorem modLink_pccVal (s : State) (n : Nat) (f : Link → Link) : (s.modLink n f).pccVal = s.pccVal := rfl
@[simp] theorem modLink_pccSel (s : State) (n : Nat) (f : Link → Link) : (s.modLink n f).pccSel = s.pccSel := rfl
@[simp] theorem modLink_homes (s : State) (n : Nat) (f : Link → Link) : (s.modLink n f).homes = s.homes := rfl
@[simp] theorem modLink_dirMem (s : State) (n : Nat) (f : Link → Link) : (s.modLink n f).dirMem = s.dirMem := rfl
@[simp] theorem modLink_dirCtl (s : State) (n : Nat) (f : Link → Link) : (s.modLink n f).dirCtl = s.dirCtl := rfl
@[simp] theorem modLink_disp (s : State) (n : Nat) (f : Link → Link) : (s.modLink n f).disp = s.disp := rfl
@[simp] theorem modLink_jrnOff (s : State) (n : Nat) (f : Link → Link) : (s.modLink n f).jrnOff = s.jrnOff := rfl
@[simp] theorem modLink_dirFilter (s : State) (n : Nat) (f : Link → Link) : (s.modLink n f).dirFilter = s.dirFilter := rfl
@[simp] theorem modLink_dirAge (s : State) (n : Nat) (f : Link → Link) : (s.modLink n f).dirAge = s.dirAge := rfl
@[simp] theorem modLink_dirScrubAt (s : State) (n : Nat) (f : Link → Link) : (s.modLink n f).dirScrubAt = s.dirScrubAt := rfl
@[simp] theorem modLink_dirCes (s : State) (n : Nat) (f : Link → Link) : (s.modLink n f).dirCes = s.dirCes := rfl
@[simp] theorem modLink_reshapeStart (s : State) (n : Nat) (f : Link → Link) : (s.modLink n f).reshapeStart = s.reshapeStart := rfl
@[simp] theorem modLink_reshapeEvicted (s : State) (n : Nat) (f : Link → Link) : (s.modLink n f).reshapeEvicted = s.reshapeEvicted := rfl
@[simp] theorem modLink_reshapeQueue (s : State) (n : Nat) (f : Link → Link) : (s.modLink n f).reshapeQueue = s.reshapeQueue := rfl
@[simp] theorem modLink_dirTicks (s : State) (n : Nat) (f : Link → Link) : (s.modLink n f).dirTicks = s.dirTicks := rfl
@[simp] theorem modLink_away (s : State) (n : Nat) (f : Link → Link) : (s.modLink n f).away = s.away := rfl
@[simp] theorem modLink_masks (s : State) (n : Nat) (f : Link → Link) : (s.modLink n f).masks = s.masks := rfl
@[simp] theorem modLink_written (s : State) (n : Nat) (f : Link → Link) : (s.modLink n f).written = s.written := rfl
@[simp] theorem modLink_keyCount (s : State) (n : Nat) (f : Link → Link) : (s.modLink n f).keyCount = s.keyCount := rfl
@[simp] theorem modLink_keyHalf (s : State) (n : Nat) (f : Link → Link) : (s.modLink n f).keyHalf = s.keyHalf := rfl
@[simp] theorem modLink_fillKey (s : State) (n : Nat) (f : Link → Link) : (s.modLink n f).fillKey = s.fillKey := rfl
@[simp] theorem modLink_lineKeys (s : State) (n : Nat) (f : Link → Link) : (s.modLink n f).lineKeys = s.lineKeys := rfl
@[simp] theorem modLink_dramBad (s : State) (n : Nat) (f : Link → Link) : (s.modLink n f).dramBad = s.dramBad := rfl
@[simp] theorem modLink_ports (s : State) (n : Nat) (f : Link → Link) : (s.modLink n f).ports = s.ports := rfl
@[simp] theorem modLink_ucq (s : State) (n : Nat) (f : Link → Link) : (s.modLink n f).ucq = s.ucq := rfl
@[simp] theorem modLink_portTok (s : State) (n : Nat) (f : Link → Link) : (s.modLink n f).portTok = s.portTok := rfl
@[simp] theorem modLink_readQ (s : State) (n : Nat) (f : Link → Link) : (s.modLink n f).readQ = s.readQ := rfl
@[simp] theorem modLink_admitTurn (s : State) (n : Nat) (f : Link → Link) : (s.modLink n f).admitTurn = s.admitTurn := rfl
@[simp] theorem modLink_minTok (s : State) (n : Nat) (f : Link → Link) : (s.modLink n f).minTok = s.minTok := rfl
@[simp] theorem modLink_maxTok (s : State) (n : Nat) (f : Link → Link) : (s.modLink n f).maxTok = s.maxTok := rfl
@[simp] theorem modLink_openRow (s : State) (n : Nat) (f : Link → Link) : (s.modLink n f).openRow = s.openRow := rfl
@[simp] theorem modLink_powerDown (s : State) (n : Nat) (f : Link → Link) : (s.modLink n f).powerDown = s.powerDown := rfl
@[simp] theorem modLink_selfRefresh (s : State) (n : Nat) (f : Link → Link) : (s.modLink n f).selfRefresh = s.selfRefresh := rfl
@[simp] theorem modLink_replays (s : State) (n : Nat) (f : Link → Link) : (s.modLink n f).replays = s.replays := rfl
@[simp] theorem modLink_pot (s : State) (n : Nat) (f : Link → Link) : (s.modLink n f).pot = s.pot := rfl
@[simp] theorem modLink_realms (s : State) (n : Nat) (f : Link → Link) : (s.modLink n f).realms = s.realms := rfl
@[simp] theorem modLink_memberJobs (s : State) (n : Nat) (f : Link → Link) : (s.modLink n f).memberJobs = s.memberJobs := rfl
@[simp] theorem modLink_domains (s : State) (n : Nat) (f : Link → Link) : (s.modLink n f).domains = s.domains := rfl
@[simp] theorem modLink_tlbiUnit (s : State) (n : Nat) (f : Link → Link) : (s.modLink n f).tlbiUnit = s.tlbiUnit := rfl
@[simp] theorem modLink_ctxs (s : State) (n : Nat) (f : Link → Link) : (s.modLink n f).ctxs = s.ctxs := rfl
@[simp] theorem modLink_monitors (s : State) (n : Nat) (f : Link → Link) : (s.modLink n f).monitors = s.monitors := rfl
@[simp] theorem modLink_engines (s : State) (n : Nat) (f : Link → Link) : (s.modLink n f).engines = s.engines := rfl
@[simp] theorem modLink_ctxRuns (s : State) (n : Nat) (f : Link → Link) : (s.modLink n f).ctxRuns = s.ctxRuns := rfl
@[simp] theorem modLink_ctxJob (s : State) (n : Nat) (f : Link → Link) : (s.modLink n f).ctxJob = s.ctxJob := rfl
@[simp] theorem modLink_ctxBad (s : State) (n : Nat) (f : Link → Link) : (s.modLink n f).ctxBad = s.ctxBad := rfl
@[simp] theorem modLink_capUsed (s : State) (n : Nat) (f : Link → Link) : (s.modLink n f).capUsed = s.capUsed := rfl
@[simp] theorem modLink_capHeld (s : State) (n : Nat) (f : Link → Link) : (s.modLink n f).capHeld = s.capHeld := rfl
@[simp] theorem modLink_notice (s : State) (n : Nat) (f : Link → Link) : (s.modLink n f).notice = s.notice := rfl
@[simp] theorem modLink_image (s : State) (n : Nat) (f : Link → Link) : (s.modLink n f).image = s.image := rfl
@[simp] theorem modLink_completions (s : State) (n : Nat) (f : Link → Link) : (s.modLink n f).completions = s.completions := rfl
@[simp] theorem modLink_epf (s : State) (n : Nat) (f : Link → Link) : (s.modLink n f).epf = s.epf := rfl
@[simp] theorem modLink_inbound (s : State) (n : Nat) (f : Link → Link) : (s.modLink n f).inbound = s.inbound := rfl
@[simp] theorem modLink_mapDue (s : State) (n : Nat) (f : Link → Link) : (s.modLink n f).mapDue = s.mapDue := rfl
@[simp] theorem modLink_mapOld (s : State) (n : Nat) (f : Link → Link) : (s.modLink n f).mapOld = s.mapOld := rfl
@[simp] theorem modLink_devReads (s : State) (n : Nat) (f : Link → Link) : (s.modLink n f).devReads = s.devReads := rfl
@[simp] theorem modLink_devTag (s : State) (n : Nat) (f : Link → Link) : (s.modLink n f).devTag = s.devTag := rfl
@[simp] theorem modLink_rpOut (s : State) (n : Nat) (f : Link → Link) : (s.modLink n f).rpOut = s.rpOut := rfl
@[simp] theorem modLink_subsystem (s : State) (n : Nat) (f : Link → Link) : (s.modLink n f).subsystem = s.subsystem := rfl
@[simp] theorem modLink_dump (s : State) (n : Nat) (f : Link → Link) : (s.modLink n f).dump = s.dump := rfl
@[simp] theorem modLink_fuses (s : State) (n : Nat) (f : Link → Link) : (s.modLink n f).fuses = s.fuses := rfl
@[simp] theorem modLink_dieFuses (s : State) (n : Nat) (f : Link → Link) : (s.modLink n f).dieFuses = s.dieFuses := rfl
@[simp] theorem modLink_flash (s : State) (n : Nat) (f : Link → Link) : (s.modLink n f).flash = s.flash := rfl
@[simp] theorem modLink_sense (s : State) (n : Nat) (f : Link → Link) : (s.modLink n f).sense = s.sense := rfl
@[simp] theorem modLink_flashJob (s : State) (n : Nat) (f : Link → Link) : (s.modLink n f).flashJob = s.flashJob := rfl
@[simp] theorem modLink_drain (s : State) (n : Nat) (f : Link → Link) : (s.modLink n f).drain = s.drain := rfl
@[simp] theorem modLink_reshapeCmd (s : State) (n : Nat) (f : Link → Link) : (s.modLink n f).reshapeCmd = s.reshapeCmd := rfl
@[simp] theorem modLink_resetDue (s : State) (n : Nat) (f : Link → Link) : (s.modLink n f).resetDue = s.resetDue := rfl
@[simp] theorem modLink_bridges (s : State) (n : Nat) (f : Link → Link) : (s.modLink n f).bridges = s.bridges := rfl
@[simp] theorem modLink_meshHeld (s : State) (n : Nat) (f : Link → Link) : (s.modLink n f).meshHeld = s.meshHeld := rfl
@[simp] theorem modLink_meshTurn (s : State) (n : Nat) (f : Link → Link) : (s.modLink n f).meshTurn = s.meshTurn := rfl
@[simp] theorem modLink_parasol (s : State) (n : Nat) (f : Link → Link) : (s.modLink n f).parasol = s.parasol := rfl
@[simp] theorem modLink_ownerKeys (s : State) (n : Nat) (f : Link → Link) : (s.modLink n f).ownerKeys = s.ownerKeys := rfl
@[simp] theorem modLink_opNext (s : State) (n : Nat) (f : Link → Link) : (s.modLink n f).opNext = s.opNext := rfl
@[simp] theorem modLink_longOps (s : State) (n : Nat) (f : Link → Link) : (s.modLink n f).longOps = s.longOps := rfl
@[simp] theorem modLink_tops (s : State) (n : Nat) (f : Link → Link) : (s.modLink n f).tops = s.tops := rfl
@[simp] theorem modLink_chainDefault (s : State) (n : Nat) (f : Link → Link) : (s.modLink n f).chainDefault = s.chainDefault := rfl
@[simp] theorem modLink_alertN (s : State) (n : Nat) (f : Link → Link) : (s.modLink n f).alertN = s.alertN := rfl
@[simp] theorem modLink_thermtripN (s : State) (n : Nat) (f : Link → Link) : (s.modLink n f).thermtripN = s.thermtripN := rfl
@[simp] theorem modLink_mem (s : State) (n : Nat) (f : Link → Link) : (s.modLink n f).mem = s.mem := rfl
@[simp] theorem modLink_freeCount (s : State) (n : Nat) (f : Link → Link) : (s.modLink n f).freeCount = s.freeCount := rfl
@[simp] theorem send_pending (s : State) (m : Msg) : (s.send m).pending = s.pending := rfl
@[simp] theorem send_clause (s : State) (m : Msg) : (s.send m).clause = s.clause := rfl
@[simp] theorem send_phase (s : State) (m : Msg) : (s.send m).phase = s.phase := rfl
@[simp] theorem send_counting (s : State) (m : Msg) : (s.send m).counting = s.counting := rfl
@[simp] theorem send_regs (s : State) (m : Msg) : (s.send m).regs = s.regs := rfl
@[simp] theorem send_vaux (s : State) (m : Msg) : (s.send m).vaux = s.vaux := rfl
@[simp] theorem send_pwrGood (s : State) (m : Msg) : (s.send m).pwrGood = s.pwrGood := rfl
@[simp] theorem send_resetN (s : State) (m : Msg) : (s.send m).resetN = s.resetN := rfl
@[simp] theorem send_mgrStrap (s : State) (m : Msg) : (s.send m).mgrStrap = s.mgrStrap := rfl
@[simp] theorem send_stbyStrap (s : State) (m : Msg) : (s.send m).stbyStrap = s.stbyStrap := rfl
@[simp] theorem send_threads (s : State) (m : Msg) : (s.send m).threads = s.threads := rfl
@[simp] theorem send_cores (s : State) (m : Msg) : (s.send m).cores = s.cores := rfl
@[simp] theorem send_dies (s : State) (m : Msg) : (s.send m).dies = s.dies := rfl
@[simp] theorem send_log (s : State) (m : Msg) : (s.send m).log = s.log := rfl
@[simp] theorem send_events (s : State) (m : Msg) : (s.send m).events = s.events := rfl
@[simp] theorem send_unresolved (s : State) (m : Msg) : (s.send m).unresolved = s.unresolved := rfl
@[simp] theorem send_pccVal (s : State) (m : Msg) : (s.send m).pccVal = s.pccVal := rfl
@[simp] theorem send_pccSel (s : State) (m : Msg) : (s.send m).pccSel = s.pccSel := rfl
@[simp] theorem send_homes (s : State) (m : Msg) : (s.send m).homes = s.homes := rfl
@[simp] theorem send_dirMem (s : State) (m : Msg) : (s.send m).dirMem = s.dirMem := rfl
@[simp] theorem send_dirCtl (s : State) (m : Msg) : (s.send m).dirCtl = s.dirCtl := rfl
@[simp] theorem send_disp (s : State) (m : Msg) : (s.send m).disp = s.disp := rfl
@[simp] theorem send_jrnOff (s : State) (m : Msg) : (s.send m).jrnOff = s.jrnOff := rfl
@[simp] theorem send_dirFilter (s : State) (m : Msg) : (s.send m).dirFilter = s.dirFilter := rfl
@[simp] theorem send_dirAge (s : State) (m : Msg) : (s.send m).dirAge = s.dirAge := rfl
@[simp] theorem send_dirScrubAt (s : State) (m : Msg) : (s.send m).dirScrubAt = s.dirScrubAt := rfl
@[simp] theorem send_dirCes (s : State) (m : Msg) : (s.send m).dirCes = s.dirCes := rfl
@[simp] theorem send_reshapeStart (s : State) (m : Msg) : (s.send m).reshapeStart = s.reshapeStart := rfl
@[simp] theorem send_reshapeEvicted (s : State) (m : Msg) : (s.send m).reshapeEvicted = s.reshapeEvicted := rfl
@[simp] theorem send_reshapeQueue (s : State) (m : Msg) : (s.send m).reshapeQueue = s.reshapeQueue := rfl
@[simp] theorem send_dirTicks (s : State) (m : Msg) : (s.send m).dirTicks = s.dirTicks := rfl
@[simp] theorem send_away (s : State) (m : Msg) : (s.send m).away = s.away := rfl
@[simp] theorem send_masks (s : State) (m : Msg) : (s.send m).masks = s.masks := rfl
@[simp] theorem send_written (s : State) (m : Msg) : (s.send m).written = s.written := rfl
@[simp] theorem send_keyCount (s : State) (m : Msg) : (s.send m).keyCount = s.keyCount := rfl
@[simp] theorem send_keyHalf (s : State) (m : Msg) : (s.send m).keyHalf = s.keyHalf := rfl
@[simp] theorem send_fillKey (s : State) (m : Msg) : (s.send m).fillKey = s.fillKey := rfl
@[simp] theorem send_lineKeys (s : State) (m : Msg) : (s.send m).lineKeys = s.lineKeys := rfl
@[simp] theorem send_dramBad (s : State) (m : Msg) : (s.send m).dramBad = s.dramBad := rfl
@[simp] theorem send_ports (s : State) (m : Msg) : (s.send m).ports = s.ports := rfl
@[simp] theorem send_ucq (s : State) (m : Msg) : (s.send m).ucq = s.ucq := rfl
@[simp] theorem send_portTok (s : State) (m : Msg) : (s.send m).portTok = s.portTok := rfl
@[simp] theorem send_readQ (s : State) (m : Msg) : (s.send m).readQ = s.readQ := rfl
@[simp] theorem send_admitTurn (s : State) (m : Msg) : (s.send m).admitTurn = s.admitTurn := rfl
@[simp] theorem send_minTok (s : State) (m : Msg) : (s.send m).minTok = s.minTok := rfl
@[simp] theorem send_maxTok (s : State) (m : Msg) : (s.send m).maxTok = s.maxTok := rfl
@[simp] theorem send_openRow (s : State) (m : Msg) : (s.send m).openRow = s.openRow := rfl
@[simp] theorem send_powerDown (s : State) (m : Msg) : (s.send m).powerDown = s.powerDown := rfl
@[simp] theorem send_selfRefresh (s : State) (m : Msg) : (s.send m).selfRefresh = s.selfRefresh := rfl
@[simp] theorem send_replays (s : State) (m : Msg) : (s.send m).replays = s.replays := rfl
@[simp] theorem send_pot (s : State) (m : Msg) : (s.send m).pot = s.pot := rfl
@[simp] theorem send_realms (s : State) (m : Msg) : (s.send m).realms = s.realms := rfl
@[simp] theorem send_memberJobs (s : State) (m : Msg) : (s.send m).memberJobs = s.memberJobs := rfl
@[simp] theorem send_domains (s : State) (m : Msg) : (s.send m).domains = s.domains := rfl
@[simp] theorem send_tlbiUnit (s : State) (m : Msg) : (s.send m).tlbiUnit = s.tlbiUnit := rfl
@[simp] theorem send_ctxs (s : State) (m : Msg) : (s.send m).ctxs = s.ctxs := rfl
@[simp] theorem send_monitors (s : State) (m : Msg) : (s.send m).monitors = s.monitors := rfl
@[simp] theorem send_engines (s : State) (m : Msg) : (s.send m).engines = s.engines := rfl
@[simp] theorem send_ctxRuns (s : State) (m : Msg) : (s.send m).ctxRuns = s.ctxRuns := rfl
@[simp] theorem send_ctxJob (s : State) (m : Msg) : (s.send m).ctxJob = s.ctxJob := rfl
@[simp] theorem send_ctxBad (s : State) (m : Msg) : (s.send m).ctxBad = s.ctxBad := rfl
@[simp] theorem send_capUsed (s : State) (m : Msg) : (s.send m).capUsed = s.capUsed := rfl
@[simp] theorem send_capHeld (s : State) (m : Msg) : (s.send m).capHeld = s.capHeld := rfl
@[simp] theorem send_notice (s : State) (m : Msg) : (s.send m).notice = s.notice := rfl
@[simp] theorem send_links (s : State) (m : Msg) : (s.send m).links = s.links := rfl
@[simp] theorem send_image (s : State) (m : Msg) : (s.send m).image = s.image := rfl
@[simp] theorem send_completions (s : State) (m : Msg) : (s.send m).completions = s.completions := rfl
@[simp] theorem send_epf (s : State) (m : Msg) : (s.send m).epf = s.epf := rfl
@[simp] theorem send_inbound (s : State) (m : Msg) : (s.send m).inbound = s.inbound := rfl
@[simp] theorem send_mapDue (s : State) (m : Msg) : (s.send m).mapDue = s.mapDue := rfl
@[simp] theorem send_mapOld (s : State) (m : Msg) : (s.send m).mapOld = s.mapOld := rfl
@[simp] theorem send_devReads (s : State) (m : Msg) : (s.send m).devReads = s.devReads := rfl
@[simp] theorem send_devTag (s : State) (m : Msg) : (s.send m).devTag = s.devTag := rfl
@[simp] theorem send_rpOut (s : State) (m : Msg) : (s.send m).rpOut = s.rpOut := rfl
@[simp] theorem send_subsystem (s : State) (m : Msg) : (s.send m).subsystem = s.subsystem := rfl
@[simp] theorem send_dump (s : State) (m : Msg) : (s.send m).dump = s.dump := rfl
@[simp] theorem send_fuses (s : State) (m : Msg) : (s.send m).fuses = s.fuses := rfl
@[simp] theorem send_dieFuses (s : State) (m : Msg) : (s.send m).dieFuses = s.dieFuses := rfl
@[simp] theorem send_flash (s : State) (m : Msg) : (s.send m).flash = s.flash := rfl
@[simp] theorem send_sense (s : State) (m : Msg) : (s.send m).sense = s.sense := rfl
@[simp] theorem send_flashJob (s : State) (m : Msg) : (s.send m).flashJob = s.flashJob := rfl
@[simp] theorem send_drain (s : State) (m : Msg) : (s.send m).drain = s.drain := rfl
@[simp] theorem send_reshapeCmd (s : State) (m : Msg) : (s.send m).reshapeCmd = s.reshapeCmd := rfl
@[simp] theorem send_resetDue (s : State) (m : Msg) : (s.send m).resetDue = s.resetDue := rfl
@[simp] theorem send_bridges (s : State) (m : Msg) : (s.send m).bridges = s.bridges := rfl
@[simp] theorem send_meshHeld (s : State) (m : Msg) : (s.send m).meshHeld = s.meshHeld := rfl
@[simp] theorem send_meshTurn (s : State) (m : Msg) : (s.send m).meshTurn = s.meshTurn := rfl
@[simp] theorem send_parasol (s : State) (m : Msg) : (s.send m).parasol = s.parasol := rfl
@[simp] theorem send_ownerKeys (s : State) (m : Msg) : (s.send m).ownerKeys = s.ownerKeys := rfl
@[simp] theorem send_opNext (s : State) (m : Msg) : (s.send m).opNext = s.opNext := rfl
@[simp] theorem send_longOps (s : State) (m : Msg) : (s.send m).longOps = s.longOps := rfl
@[simp] theorem send_tops (s : State) (m : Msg) : (s.send m).tops = s.tops := rfl
@[simp] theorem send_chainDefault (s : State) (m : Msg) : (s.send m).chainDefault = s.chainDefault := rfl
@[simp] theorem send_alertN (s : State) (m : Msg) : (s.send m).alertN = s.alertN := rfl
@[simp] theorem send_thermtripN (s : State) (m : Msg) : (s.send m).thermtripN = s.thermtripN := rfl
@[simp] theorem send_mem (s : State) (m : Msg) : (s.send m).mem = s.mem := rfl
@[simp] theorem send_freeCount (s : State) (m : Msg) : (s.send m).freeCount = s.freeCount := rfl
@[simp] theorem spendFree_pending (s : State) : (s.spendFree).pending = s.pending := rfl
@[simp] theorem spendFree_clause (s : State) : (s.spendFree).clause = s.clause := rfl
@[simp] theorem spendFree_phase (s : State) : (s.spendFree).phase = s.phase := rfl
@[simp] theorem spendFree_counting (s : State) : (s.spendFree).counting = s.counting := rfl
@[simp] theorem spendFree_regs (s : State) : (s.spendFree).regs = s.regs := rfl
@[simp] theorem spendFree_vaux (s : State) : (s.spendFree).vaux = s.vaux := rfl
@[simp] theorem spendFree_pwrGood (s : State) : (s.spendFree).pwrGood = s.pwrGood := rfl
@[simp] theorem spendFree_resetN (s : State) : (s.spendFree).resetN = s.resetN := rfl
@[simp] theorem spendFree_mgrStrap (s : State) : (s.spendFree).mgrStrap = s.mgrStrap := rfl
@[simp] theorem spendFree_stbyStrap (s : State) : (s.spendFree).stbyStrap = s.stbyStrap := rfl
@[simp] theorem spendFree_threads (s : State) : (s.spendFree).threads = s.threads := rfl
@[simp] theorem spendFree_cores (s : State) : (s.spendFree).cores = s.cores := rfl
@[simp] theorem spendFree_dies (s : State) : (s.spendFree).dies = s.dies := rfl
@[simp] theorem spendFree_sent (s : State) : (s.spendFree).sent = s.sent := rfl
@[simp] theorem spendFree_log (s : State) : (s.spendFree).log = s.log := rfl
@[simp] theorem spendFree_events (s : State) : (s.spendFree).events = s.events := rfl
@[simp] theorem spendFree_unresolved (s : State) : (s.spendFree).unresolved = s.unresolved := rfl
@[simp] theorem spendFree_pccVal (s : State) : (s.spendFree).pccVal = s.pccVal := rfl
@[simp] theorem spendFree_pccSel (s : State) : (s.spendFree).pccSel = s.pccSel := rfl
@[simp] theorem spendFree_homes (s : State) : (s.spendFree).homes = s.homes := rfl
@[simp] theorem spendFree_dirMem (s : State) : (s.spendFree).dirMem = s.dirMem := rfl
@[simp] theorem spendFree_dirCtl (s : State) : (s.spendFree).dirCtl = s.dirCtl := rfl
@[simp] theorem spendFree_disp (s : State) : (s.spendFree).disp = s.disp := rfl
@[simp] theorem spendFree_jrnOff (s : State) : (s.spendFree).jrnOff = s.jrnOff := rfl
@[simp] theorem spendFree_dirFilter (s : State) : (s.spendFree).dirFilter = s.dirFilter := rfl
@[simp] theorem spendFree_dirAge (s : State) : (s.spendFree).dirAge = s.dirAge := rfl
@[simp] theorem spendFree_dirScrubAt (s : State) : (s.spendFree).dirScrubAt = s.dirScrubAt := rfl
@[simp] theorem spendFree_dirCes (s : State) : (s.spendFree).dirCes = s.dirCes := rfl
@[simp] theorem spendFree_reshapeStart (s : State) : (s.spendFree).reshapeStart = s.reshapeStart := rfl
@[simp] theorem spendFree_reshapeEvicted (s : State) : (s.spendFree).reshapeEvicted = s.reshapeEvicted := rfl
@[simp] theorem spendFree_reshapeQueue (s : State) : (s.spendFree).reshapeQueue = s.reshapeQueue := rfl
@[simp] theorem spendFree_dirTicks (s : State) : (s.spendFree).dirTicks = s.dirTicks := rfl
@[simp] theorem spendFree_away (s : State) : (s.spendFree).away = s.away := rfl
@[simp] theorem spendFree_masks (s : State) : (s.spendFree).masks = s.masks := rfl
@[simp] theorem spendFree_written (s : State) : (s.spendFree).written = s.written := rfl
@[simp] theorem spendFree_keyCount (s : State) : (s.spendFree).keyCount = s.keyCount := rfl
@[simp] theorem spendFree_keyHalf (s : State) : (s.spendFree).keyHalf = s.keyHalf := rfl
@[simp] theorem spendFree_fillKey (s : State) : (s.spendFree).fillKey = s.fillKey := rfl
@[simp] theorem spendFree_lineKeys (s : State) : (s.spendFree).lineKeys = s.lineKeys := rfl
@[simp] theorem spendFree_dramBad (s : State) : (s.spendFree).dramBad = s.dramBad := rfl
@[simp] theorem spendFree_ports (s : State) : (s.spendFree).ports = s.ports := rfl
@[simp] theorem spendFree_ucq (s : State) : (s.spendFree).ucq = s.ucq := rfl
@[simp] theorem spendFree_portTok (s : State) : (s.spendFree).portTok = s.portTok := rfl
@[simp] theorem spendFree_readQ (s : State) : (s.spendFree).readQ = s.readQ := rfl
@[simp] theorem spendFree_admitTurn (s : State) : (s.spendFree).admitTurn = s.admitTurn := rfl
@[simp] theorem spendFree_minTok (s : State) : (s.spendFree).minTok = s.minTok := rfl
@[simp] theorem spendFree_maxTok (s : State) : (s.spendFree).maxTok = s.maxTok := rfl
@[simp] theorem spendFree_openRow (s : State) : (s.spendFree).openRow = s.openRow := rfl
@[simp] theorem spendFree_powerDown (s : State) : (s.spendFree).powerDown = s.powerDown := rfl
@[simp] theorem spendFree_selfRefresh (s : State) : (s.spendFree).selfRefresh = s.selfRefresh := rfl
@[simp] theorem spendFree_replays (s : State) : (s.spendFree).replays = s.replays := rfl
@[simp] theorem spendFree_pot (s : State) : (s.spendFree).pot = s.pot := rfl
@[simp] theorem spendFree_realms (s : State) : (s.spendFree).realms = s.realms := rfl
@[simp] theorem spendFree_memberJobs (s : State) : (s.spendFree).memberJobs = s.memberJobs := rfl
@[simp] theorem spendFree_domains (s : State) : (s.spendFree).domains = s.domains := rfl
@[simp] theorem spendFree_tlbiUnit (s : State) : (s.spendFree).tlbiUnit = s.tlbiUnit := rfl
@[simp] theorem spendFree_ctxs (s : State) : (s.spendFree).ctxs = s.ctxs := rfl
@[simp] theorem spendFree_monitors (s : State) : (s.spendFree).monitors = s.monitors := rfl
@[simp] theorem spendFree_engines (s : State) : (s.spendFree).engines = s.engines := rfl
@[simp] theorem spendFree_ctxRuns (s : State) : (s.spendFree).ctxRuns = s.ctxRuns := rfl
@[simp] theorem spendFree_ctxJob (s : State) : (s.spendFree).ctxJob = s.ctxJob := rfl
@[simp] theorem spendFree_ctxBad (s : State) : (s.spendFree).ctxBad = s.ctxBad := rfl
@[simp] theorem spendFree_capUsed (s : State) : (s.spendFree).capUsed = s.capUsed := rfl
@[simp] theorem spendFree_capHeld (s : State) : (s.spendFree).capHeld = s.capHeld := rfl
@[simp] theorem spendFree_notice (s : State) : (s.spendFree).notice = s.notice := rfl
@[simp] theorem spendFree_links (s : State) : (s.spendFree).links = s.links := rfl
@[simp] theorem spendFree_image (s : State) : (s.spendFree).image = s.image := rfl
@[simp] theorem spendFree_completions (s : State) : (s.spendFree).completions = s.completions := rfl
@[simp] theorem spendFree_epf (s : State) : (s.spendFree).epf = s.epf := rfl
@[simp] theorem spendFree_inbound (s : State) : (s.spendFree).inbound = s.inbound := rfl
@[simp] theorem spendFree_mapDue (s : State) : (s.spendFree).mapDue = s.mapDue := rfl
@[simp] theorem spendFree_mapOld (s : State) : (s.spendFree).mapOld = s.mapOld := rfl
@[simp] theorem spendFree_devReads (s : State) : (s.spendFree).devReads = s.devReads := rfl
@[simp] theorem spendFree_devTag (s : State) : (s.spendFree).devTag = s.devTag := rfl
@[simp] theorem spendFree_rpOut (s : State) : (s.spendFree).rpOut = s.rpOut := rfl
@[simp] theorem spendFree_subsystem (s : State) : (s.spendFree).subsystem = s.subsystem := rfl
@[simp] theorem spendFree_dump (s : State) : (s.spendFree).dump = s.dump := rfl
@[simp] theorem spendFree_fuses (s : State) : (s.spendFree).fuses = s.fuses := rfl
@[simp] theorem spendFree_dieFuses (s : State) : (s.spendFree).dieFuses = s.dieFuses := rfl
@[simp] theorem spendFree_flash (s : State) : (s.spendFree).flash = s.flash := rfl
@[simp] theorem spendFree_sense (s : State) : (s.spendFree).sense = s.sense := rfl
@[simp] theorem spendFree_flashJob (s : State) : (s.spendFree).flashJob = s.flashJob := rfl
@[simp] theorem spendFree_drain (s : State) : (s.spendFree).drain = s.drain := rfl
@[simp] theorem spendFree_reshapeCmd (s : State) : (s.spendFree).reshapeCmd = s.reshapeCmd := rfl
@[simp] theorem spendFree_resetDue (s : State) : (s.spendFree).resetDue = s.resetDue := rfl
@[simp] theorem spendFree_bridges (s : State) : (s.spendFree).bridges = s.bridges := rfl
@[simp] theorem spendFree_meshHeld (s : State) : (s.spendFree).meshHeld = s.meshHeld := rfl
@[simp] theorem spendFree_meshTurn (s : State) : (s.spendFree).meshTurn = s.meshTurn := rfl
@[simp] theorem spendFree_parasol (s : State) : (s.spendFree).parasol = s.parasol := rfl
@[simp] theorem spendFree_ownerKeys (s : State) : (s.spendFree).ownerKeys = s.ownerKeys := rfl
@[simp] theorem spendFree_opNext (s : State) : (s.spendFree).opNext = s.opNext := rfl
@[simp] theorem spendFree_longOps (s : State) : (s.spendFree).longOps = s.longOps := rfl
@[simp] theorem spendFree_tops (s : State) : (s.spendFree).tops = s.tops := rfl
@[simp] theorem spendFree_chainDefault (s : State) : (s.spendFree).chainDefault = s.chainDefault := rfl
@[simp] theorem spendFree_alertN (s : State) : (s.spendFree).alertN = s.alertN := rfl
@[simp] theorem spendFree_thermtripN (s : State) : (s.spendFree).thermtripN = s.thermtripN := rfl
@[simp] theorem spendFree_mem (s : State) : (s.spendFree).mem = s.mem := rfl
@[simp] theorem setPccV_pending (s : State) (j : Nat) (w : Word) : (s.setPccV j w).pending = s.pending := rfl
@[simp] theorem setPccV_clause (s : State) (j : Nat) (w : Word) : (s.setPccV j w).clause = s.clause := rfl
@[simp] theorem setPccV_phase (s : State) (j : Nat) (w : Word) : (s.setPccV j w).phase = s.phase := rfl
@[simp] theorem setPccV_counting (s : State) (j : Nat) (w : Word) : (s.setPccV j w).counting = s.counting := rfl
@[simp] theorem setPccV_regs (s : State) (j : Nat) (w : Word) : (s.setPccV j w).regs = s.regs := rfl
@[simp] theorem setPccV_vaux (s : State) (j : Nat) (w : Word) : (s.setPccV j w).vaux = s.vaux := rfl
@[simp] theorem setPccV_pwrGood (s : State) (j : Nat) (w : Word) : (s.setPccV j w).pwrGood = s.pwrGood := rfl
@[simp] theorem setPccV_resetN (s : State) (j : Nat) (w : Word) : (s.setPccV j w).resetN = s.resetN := rfl
@[simp] theorem setPccV_mgrStrap (s : State) (j : Nat) (w : Word) : (s.setPccV j w).mgrStrap = s.mgrStrap := rfl
@[simp] theorem setPccV_stbyStrap (s : State) (j : Nat) (w : Word) : (s.setPccV j w).stbyStrap = s.stbyStrap := rfl
@[simp] theorem setPccV_threads (s : State) (j : Nat) (w : Word) : (s.setPccV j w).threads = s.threads := rfl
@[simp] theorem setPccV_cores (s : State) (j : Nat) (w : Word) : (s.setPccV j w).cores = s.cores := rfl
@[simp] theorem setPccV_dies (s : State) (j : Nat) (w : Word) : (s.setPccV j w).dies = s.dies := rfl
@[simp] theorem setPccV_sent (s : State) (j : Nat) (w : Word) : (s.setPccV j w).sent = s.sent := rfl
@[simp] theorem setPccV_log (s : State) (j : Nat) (w : Word) : (s.setPccV j w).log = s.log := rfl
@[simp] theorem setPccV_events (s : State) (j : Nat) (w : Word) : (s.setPccV j w).events = s.events := rfl
@[simp] theorem setPccV_unresolved (s : State) (j : Nat) (w : Word) : (s.setPccV j w).unresolved = s.unresolved := rfl
@[simp] theorem setPccV_pccSel (s : State) (j : Nat) (w : Word) : (s.setPccV j w).pccSel = s.pccSel := rfl
@[simp] theorem setPccV_homes (s : State) (j : Nat) (w : Word) : (s.setPccV j w).homes = s.homes := rfl
@[simp] theorem setPccV_dirMem (s : State) (j : Nat) (w : Word) : (s.setPccV j w).dirMem = s.dirMem := rfl
@[simp] theorem setPccV_dirCtl (s : State) (j : Nat) (w : Word) : (s.setPccV j w).dirCtl = s.dirCtl := rfl
@[simp] theorem setPccV_disp (s : State) (j : Nat) (w : Word) : (s.setPccV j w).disp = s.disp := rfl
@[simp] theorem setPccV_jrnOff (s : State) (j : Nat) (w : Word) : (s.setPccV j w).jrnOff = s.jrnOff := rfl
@[simp] theorem setPccV_dirFilter (s : State) (j : Nat) (w : Word) : (s.setPccV j w).dirFilter = s.dirFilter := rfl
@[simp] theorem setPccV_dirAge (s : State) (j : Nat) (w : Word) : (s.setPccV j w).dirAge = s.dirAge := rfl
@[simp] theorem setPccV_dirScrubAt (s : State) (j : Nat) (w : Word) : (s.setPccV j w).dirScrubAt = s.dirScrubAt := rfl
@[simp] theorem setPccV_dirCes (s : State) (j : Nat) (w : Word) : (s.setPccV j w).dirCes = s.dirCes := rfl
@[simp] theorem setPccV_reshapeStart (s : State) (j : Nat) (w : Word) : (s.setPccV j w).reshapeStart = s.reshapeStart := rfl
@[simp] theorem setPccV_reshapeEvicted (s : State) (j : Nat) (w : Word) : (s.setPccV j w).reshapeEvicted = s.reshapeEvicted := rfl
@[simp] theorem setPccV_reshapeQueue (s : State) (j : Nat) (w : Word) : (s.setPccV j w).reshapeQueue = s.reshapeQueue := rfl
@[simp] theorem setPccV_dirTicks (s : State) (j : Nat) (w : Word) : (s.setPccV j w).dirTicks = s.dirTicks := rfl
@[simp] theorem setPccV_away (s : State) (j : Nat) (w : Word) : (s.setPccV j w).away = s.away := rfl
@[simp] theorem setPccV_masks (s : State) (j : Nat) (w : Word) : (s.setPccV j w).masks = s.masks := rfl
@[simp] theorem setPccV_written (s : State) (j : Nat) (w : Word) : (s.setPccV j w).written = s.written := rfl
@[simp] theorem setPccV_keyCount (s : State) (j : Nat) (w : Word) : (s.setPccV j w).keyCount = s.keyCount := rfl
@[simp] theorem setPccV_keyHalf (s : State) (j : Nat) (w : Word) : (s.setPccV j w).keyHalf = s.keyHalf := rfl
@[simp] theorem setPccV_fillKey (s : State) (j : Nat) (w : Word) : (s.setPccV j w).fillKey = s.fillKey := rfl
@[simp] theorem setPccV_lineKeys (s : State) (j : Nat) (w : Word) : (s.setPccV j w).lineKeys = s.lineKeys := rfl
@[simp] theorem setPccV_dramBad (s : State) (j : Nat) (w : Word) : (s.setPccV j w).dramBad = s.dramBad := rfl
@[simp] theorem setPccV_ports (s : State) (j : Nat) (w : Word) : (s.setPccV j w).ports = s.ports := rfl
@[simp] theorem setPccV_ucq (s : State) (j : Nat) (w : Word) : (s.setPccV j w).ucq = s.ucq := rfl
@[simp] theorem setPccV_portTok (s : State) (j : Nat) (w : Word) : (s.setPccV j w).portTok = s.portTok := rfl
@[simp] theorem setPccV_readQ (s : State) (j : Nat) (w : Word) : (s.setPccV j w).readQ = s.readQ := rfl
@[simp] theorem setPccV_admitTurn (s : State) (j : Nat) (w : Word) : (s.setPccV j w).admitTurn = s.admitTurn := rfl
@[simp] theorem setPccV_minTok (s : State) (j : Nat) (w : Word) : (s.setPccV j w).minTok = s.minTok := rfl
@[simp] theorem setPccV_maxTok (s : State) (j : Nat) (w : Word) : (s.setPccV j w).maxTok = s.maxTok := rfl
@[simp] theorem setPccV_openRow (s : State) (j : Nat) (w : Word) : (s.setPccV j w).openRow = s.openRow := rfl
@[simp] theorem setPccV_powerDown (s : State) (j : Nat) (w : Word) : (s.setPccV j w).powerDown = s.powerDown := rfl
@[simp] theorem setPccV_selfRefresh (s : State) (j : Nat) (w : Word) : (s.setPccV j w).selfRefresh = s.selfRefresh := rfl
@[simp] theorem setPccV_replays (s : State) (j : Nat) (w : Word) : (s.setPccV j w).replays = s.replays := rfl
@[simp] theorem setPccV_pot (s : State) (j : Nat) (w : Word) : (s.setPccV j w).pot = s.pot := rfl
@[simp] theorem setPccV_realms (s : State) (j : Nat) (w : Word) : (s.setPccV j w).realms = s.realms := rfl
@[simp] theorem setPccV_memberJobs (s : State) (j : Nat) (w : Word) : (s.setPccV j w).memberJobs = s.memberJobs := rfl
@[simp] theorem setPccV_domains (s : State) (j : Nat) (w : Word) : (s.setPccV j w).domains = s.domains := rfl
@[simp] theorem setPccV_tlbiUnit (s : State) (j : Nat) (w : Word) : (s.setPccV j w).tlbiUnit = s.tlbiUnit := rfl
@[simp] theorem setPccV_ctxs (s : State) (j : Nat) (w : Word) : (s.setPccV j w).ctxs = s.ctxs := rfl
@[simp] theorem setPccV_monitors (s : State) (j : Nat) (w : Word) : (s.setPccV j w).monitors = s.monitors := rfl
@[simp] theorem setPccV_engines (s : State) (j : Nat) (w : Word) : (s.setPccV j w).engines = s.engines := rfl
@[simp] theorem setPccV_ctxRuns (s : State) (j : Nat) (w : Word) : (s.setPccV j w).ctxRuns = s.ctxRuns := rfl
@[simp] theorem setPccV_ctxJob (s : State) (j : Nat) (w : Word) : (s.setPccV j w).ctxJob = s.ctxJob := rfl
@[simp] theorem setPccV_ctxBad (s : State) (j : Nat) (w : Word) : (s.setPccV j w).ctxBad = s.ctxBad := rfl
@[simp] theorem setPccV_capUsed (s : State) (j : Nat) (w : Word) : (s.setPccV j w).capUsed = s.capUsed := rfl
@[simp] theorem setPccV_capHeld (s : State) (j : Nat) (w : Word) : (s.setPccV j w).capHeld = s.capHeld := rfl
@[simp] theorem setPccV_notice (s : State) (j : Nat) (w : Word) : (s.setPccV j w).notice = s.notice := rfl
@[simp] theorem setPccV_links (s : State) (j : Nat) (w : Word) : (s.setPccV j w).links = s.links := rfl
@[simp] theorem setPccV_image (s : State) (j : Nat) (w : Word) : (s.setPccV j w).image = s.image := rfl
@[simp] theorem setPccV_completions (s : State) (j : Nat) (w : Word) : (s.setPccV j w).completions = s.completions := rfl
@[simp] theorem setPccV_epf (s : State) (j : Nat) (w : Word) : (s.setPccV j w).epf = s.epf := rfl
@[simp] theorem setPccV_inbound (s : State) (j : Nat) (w : Word) : (s.setPccV j w).inbound = s.inbound := rfl
@[simp] theorem setPccV_mapDue (s : State) (j : Nat) (w : Word) : (s.setPccV j w).mapDue = s.mapDue := rfl
@[simp] theorem setPccV_mapOld (s : State) (j : Nat) (w : Word) : (s.setPccV j w).mapOld = s.mapOld := rfl
@[simp] theorem setPccV_devReads (s : State) (j : Nat) (w : Word) : (s.setPccV j w).devReads = s.devReads := rfl
@[simp] theorem setPccV_devTag (s : State) (j : Nat) (w : Word) : (s.setPccV j w).devTag = s.devTag := rfl
@[simp] theorem setPccV_rpOut (s : State) (j : Nat) (w : Word) : (s.setPccV j w).rpOut = s.rpOut := rfl
@[simp] theorem setPccV_subsystem (s : State) (j : Nat) (w : Word) : (s.setPccV j w).subsystem = s.subsystem := rfl
@[simp] theorem setPccV_dump (s : State) (j : Nat) (w : Word) : (s.setPccV j w).dump = s.dump := rfl
@[simp] theorem setPccV_fuses (s : State) (j : Nat) (w : Word) : (s.setPccV j w).fuses = s.fuses := rfl
@[simp] theorem setPccV_dieFuses (s : State) (j : Nat) (w : Word) : (s.setPccV j w).dieFuses = s.dieFuses := rfl
@[simp] theorem setPccV_flash (s : State) (j : Nat) (w : Word) : (s.setPccV j w).flash = s.flash := rfl
@[simp] theorem setPccV_sense (s : State) (j : Nat) (w : Word) : (s.setPccV j w).sense = s.sense := rfl
@[simp] theorem setPccV_flashJob (s : State) (j : Nat) (w : Word) : (s.setPccV j w).flashJob = s.flashJob := rfl
@[simp] theorem setPccV_drain (s : State) (j : Nat) (w : Word) : (s.setPccV j w).drain = s.drain := rfl
@[simp] theorem setPccV_reshapeCmd (s : State) (j : Nat) (w : Word) : (s.setPccV j w).reshapeCmd = s.reshapeCmd := rfl
@[simp] theorem setPccV_resetDue (s : State) (j : Nat) (w : Word) : (s.setPccV j w).resetDue = s.resetDue := rfl
@[simp] theorem setPccV_bridges (s : State) (j : Nat) (w : Word) : (s.setPccV j w).bridges = s.bridges := rfl
@[simp] theorem setPccV_meshHeld (s : State) (j : Nat) (w : Word) : (s.setPccV j w).meshHeld = s.meshHeld := rfl
@[simp] theorem setPccV_meshTurn (s : State) (j : Nat) (w : Word) : (s.setPccV j w).meshTurn = s.meshTurn := rfl
@[simp] theorem setPccV_parasol (s : State) (j : Nat) (w : Word) : (s.setPccV j w).parasol = s.parasol := rfl
@[simp] theorem setPccV_ownerKeys (s : State) (j : Nat) (w : Word) : (s.setPccV j w).ownerKeys = s.ownerKeys := rfl
@[simp] theorem setPccV_opNext (s : State) (j : Nat) (w : Word) : (s.setPccV j w).opNext = s.opNext := rfl
@[simp] theorem setPccV_longOps (s : State) (j : Nat) (w : Word) : (s.setPccV j w).longOps = s.longOps := rfl
@[simp] theorem setPccV_tops (s : State) (j : Nat) (w : Word) : (s.setPccV j w).tops = s.tops := rfl
@[simp] theorem setPccV_chainDefault (s : State) (j : Nat) (w : Word) : (s.setPccV j w).chainDefault = s.chainDefault := rfl
@[simp] theorem setPccV_alertN (s : State) (j : Nat) (w : Word) : (s.setPccV j w).alertN = s.alertN := rfl
@[simp] theorem setPccV_thermtripN (s : State) (j : Nat) (w : Word) : (s.setPccV j w).thermtripN = s.thermtripN := rfl
@[simp] theorem setPccV_mem (s : State) (j : Nat) (w : Word) : (s.setPccV j w).mem = s.mem := rfl
@[simp] theorem setPccV_freeCount (s : State) (j : Nat) (w : Word) : (s.setPccV j w).freeCount = s.freeCount := rfl
@[simp] theorem setPccS_pending (s : State) (j : Nat) (w : Word) : (s.setPccS j w).pending = s.pending := rfl
@[simp] theorem setPccS_clause (s : State) (j : Nat) (w : Word) : (s.setPccS j w).clause = s.clause := rfl
@[simp] theorem setPccS_phase (s : State) (j : Nat) (w : Word) : (s.setPccS j w).phase = s.phase := rfl
@[simp] theorem setPccS_counting (s : State) (j : Nat) (w : Word) : (s.setPccS j w).counting = s.counting := rfl
@[simp] theorem setPccS_regs (s : State) (j : Nat) (w : Word) : (s.setPccS j w).regs = s.regs := rfl
@[simp] theorem setPccS_vaux (s : State) (j : Nat) (w : Word) : (s.setPccS j w).vaux = s.vaux := rfl
@[simp] theorem setPccS_pwrGood (s : State) (j : Nat) (w : Word) : (s.setPccS j w).pwrGood = s.pwrGood := rfl
@[simp] theorem setPccS_resetN (s : State) (j : Nat) (w : Word) : (s.setPccS j w).resetN = s.resetN := rfl
@[simp] theorem setPccS_mgrStrap (s : State) (j : Nat) (w : Word) : (s.setPccS j w).mgrStrap = s.mgrStrap := rfl
@[simp] theorem setPccS_stbyStrap (s : State) (j : Nat) (w : Word) : (s.setPccS j w).stbyStrap = s.stbyStrap := rfl
@[simp] theorem setPccS_threads (s : State) (j : Nat) (w : Word) : (s.setPccS j w).threads = s.threads := rfl
@[simp] theorem setPccS_cores (s : State) (j : Nat) (w : Word) : (s.setPccS j w).cores = s.cores := rfl
@[simp] theorem setPccS_dies (s : State) (j : Nat) (w : Word) : (s.setPccS j w).dies = s.dies := rfl
@[simp] theorem setPccS_sent (s : State) (j : Nat) (w : Word) : (s.setPccS j w).sent = s.sent := rfl
@[simp] theorem setPccS_log (s : State) (j : Nat) (w : Word) : (s.setPccS j w).log = s.log := rfl
@[simp] theorem setPccS_events (s : State) (j : Nat) (w : Word) : (s.setPccS j w).events = s.events := rfl
@[simp] theorem setPccS_unresolved (s : State) (j : Nat) (w : Word) : (s.setPccS j w).unresolved = s.unresolved := rfl
@[simp] theorem setPccS_pccVal (s : State) (j : Nat) (w : Word) : (s.setPccS j w).pccVal = s.pccVal := rfl
@[simp] theorem setPccS_homes (s : State) (j : Nat) (w : Word) : (s.setPccS j w).homes = s.homes := rfl
@[simp] theorem setPccS_dirMem (s : State) (j : Nat) (w : Word) : (s.setPccS j w).dirMem = s.dirMem := rfl
@[simp] theorem setPccS_dirCtl (s : State) (j : Nat) (w : Word) : (s.setPccS j w).dirCtl = s.dirCtl := rfl
@[simp] theorem setPccS_disp (s : State) (j : Nat) (w : Word) : (s.setPccS j w).disp = s.disp := rfl
@[simp] theorem setPccS_jrnOff (s : State) (j : Nat) (w : Word) : (s.setPccS j w).jrnOff = s.jrnOff := rfl
@[simp] theorem setPccS_dirFilter (s : State) (j : Nat) (w : Word) : (s.setPccS j w).dirFilter = s.dirFilter := rfl
@[simp] theorem setPccS_dirAge (s : State) (j : Nat) (w : Word) : (s.setPccS j w).dirAge = s.dirAge := rfl
@[simp] theorem setPccS_dirScrubAt (s : State) (j : Nat) (w : Word) : (s.setPccS j w).dirScrubAt = s.dirScrubAt := rfl
@[simp] theorem setPccS_dirCes (s : State) (j : Nat) (w : Word) : (s.setPccS j w).dirCes = s.dirCes := rfl
@[simp] theorem setPccS_reshapeStart (s : State) (j : Nat) (w : Word) : (s.setPccS j w).reshapeStart = s.reshapeStart := rfl
@[simp] theorem setPccS_reshapeEvicted (s : State) (j : Nat) (w : Word) : (s.setPccS j w).reshapeEvicted = s.reshapeEvicted := rfl
@[simp] theorem setPccS_reshapeQueue (s : State) (j : Nat) (w : Word) : (s.setPccS j w).reshapeQueue = s.reshapeQueue := rfl
@[simp] theorem setPccS_dirTicks (s : State) (j : Nat) (w : Word) : (s.setPccS j w).dirTicks = s.dirTicks := rfl
@[simp] theorem setPccS_away (s : State) (j : Nat) (w : Word) : (s.setPccS j w).away = s.away := rfl
@[simp] theorem setPccS_masks (s : State) (j : Nat) (w : Word) : (s.setPccS j w).masks = s.masks := rfl
@[simp] theorem setPccS_written (s : State) (j : Nat) (w : Word) : (s.setPccS j w).written = s.written := rfl
@[simp] theorem setPccS_keyCount (s : State) (j : Nat) (w : Word) : (s.setPccS j w).keyCount = s.keyCount := rfl
@[simp] theorem setPccS_keyHalf (s : State) (j : Nat) (w : Word) : (s.setPccS j w).keyHalf = s.keyHalf := rfl
@[simp] theorem setPccS_fillKey (s : State) (j : Nat) (w : Word) : (s.setPccS j w).fillKey = s.fillKey := rfl
@[simp] theorem setPccS_lineKeys (s : State) (j : Nat) (w : Word) : (s.setPccS j w).lineKeys = s.lineKeys := rfl
@[simp] theorem setPccS_dramBad (s : State) (j : Nat) (w : Word) : (s.setPccS j w).dramBad = s.dramBad := rfl
@[simp] theorem setPccS_ports (s : State) (j : Nat) (w : Word) : (s.setPccS j w).ports = s.ports := rfl
@[simp] theorem setPccS_ucq (s : State) (j : Nat) (w : Word) : (s.setPccS j w).ucq = s.ucq := rfl
@[simp] theorem setPccS_portTok (s : State) (j : Nat) (w : Word) : (s.setPccS j w).portTok = s.portTok := rfl
@[simp] theorem setPccS_readQ (s : State) (j : Nat) (w : Word) : (s.setPccS j w).readQ = s.readQ := rfl
@[simp] theorem setPccS_admitTurn (s : State) (j : Nat) (w : Word) : (s.setPccS j w).admitTurn = s.admitTurn := rfl
@[simp] theorem setPccS_minTok (s : State) (j : Nat) (w : Word) : (s.setPccS j w).minTok = s.minTok := rfl
@[simp] theorem setPccS_maxTok (s : State) (j : Nat) (w : Word) : (s.setPccS j w).maxTok = s.maxTok := rfl
@[simp] theorem setPccS_openRow (s : State) (j : Nat) (w : Word) : (s.setPccS j w).openRow = s.openRow := rfl
@[simp] theorem setPccS_powerDown (s : State) (j : Nat) (w : Word) : (s.setPccS j w).powerDown = s.powerDown := rfl
@[simp] theorem setPccS_selfRefresh (s : State) (j : Nat) (w : Word) : (s.setPccS j w).selfRefresh = s.selfRefresh := rfl
@[simp] theorem setPccS_replays (s : State) (j : Nat) (w : Word) : (s.setPccS j w).replays = s.replays := rfl
@[simp] theorem setPccS_pot (s : State) (j : Nat) (w : Word) : (s.setPccS j w).pot = s.pot := rfl
@[simp] theorem setPccS_realms (s : State) (j : Nat) (w : Word) : (s.setPccS j w).realms = s.realms := rfl
@[simp] theorem setPccS_memberJobs (s : State) (j : Nat) (w : Word) : (s.setPccS j w).memberJobs = s.memberJobs := rfl
@[simp] theorem setPccS_domains (s : State) (j : Nat) (w : Word) : (s.setPccS j w).domains = s.domains := rfl
@[simp] theorem setPccS_tlbiUnit (s : State) (j : Nat) (w : Word) : (s.setPccS j w).tlbiUnit = s.tlbiUnit := rfl
@[simp] theorem setPccS_ctxs (s : State) (j : Nat) (w : Word) : (s.setPccS j w).ctxs = s.ctxs := rfl
@[simp] theorem setPccS_monitors (s : State) (j : Nat) (w : Word) : (s.setPccS j w).monitors = s.monitors := rfl
@[simp] theorem setPccS_engines (s : State) (j : Nat) (w : Word) : (s.setPccS j w).engines = s.engines := rfl
@[simp] theorem setPccS_ctxRuns (s : State) (j : Nat) (w : Word) : (s.setPccS j w).ctxRuns = s.ctxRuns := rfl
@[simp] theorem setPccS_ctxJob (s : State) (j : Nat) (w : Word) : (s.setPccS j w).ctxJob = s.ctxJob := rfl
@[simp] theorem setPccS_ctxBad (s : State) (j : Nat) (w : Word) : (s.setPccS j w).ctxBad = s.ctxBad := rfl
@[simp] theorem setPccS_capUsed (s : State) (j : Nat) (w : Word) : (s.setPccS j w).capUsed = s.capUsed := rfl
@[simp] theorem setPccS_capHeld (s : State) (j : Nat) (w : Word) : (s.setPccS j w).capHeld = s.capHeld := rfl
@[simp] theorem setPccS_notice (s : State) (j : Nat) (w : Word) : (s.setPccS j w).notice = s.notice := rfl
@[simp] theorem setPccS_links (s : State) (j : Nat) (w : Word) : (s.setPccS j w).links = s.links := rfl
@[simp] theorem setPccS_image (s : State) (j : Nat) (w : Word) : (s.setPccS j w).image = s.image := rfl
@[simp] theorem setPccS_completions (s : State) (j : Nat) (w : Word) : (s.setPccS j w).completions = s.completions := rfl
@[simp] theorem setPccS_epf (s : State) (j : Nat) (w : Word) : (s.setPccS j w).epf = s.epf := rfl
@[simp] theorem setPccS_inbound (s : State) (j : Nat) (w : Word) : (s.setPccS j w).inbound = s.inbound := rfl
@[simp] theorem setPccS_mapDue (s : State) (j : Nat) (w : Word) : (s.setPccS j w).mapDue = s.mapDue := rfl
@[simp] theorem setPccS_mapOld (s : State) (j : Nat) (w : Word) : (s.setPccS j w).mapOld = s.mapOld := rfl
@[simp] theorem setPccS_devReads (s : State) (j : Nat) (w : Word) : (s.setPccS j w).devReads = s.devReads := rfl
@[simp] theorem setPccS_devTag (s : State) (j : Nat) (w : Word) : (s.setPccS j w).devTag = s.devTag := rfl
@[simp] theorem setPccS_rpOut (s : State) (j : Nat) (w : Word) : (s.setPccS j w).rpOut = s.rpOut := rfl
@[simp] theorem setPccS_subsystem (s : State) (j : Nat) (w : Word) : (s.setPccS j w).subsystem = s.subsystem := rfl
@[simp] theorem setPccS_dump (s : State) (j : Nat) (w : Word) : (s.setPccS j w).dump = s.dump := rfl
@[simp] theorem setPccS_fuses (s : State) (j : Nat) (w : Word) : (s.setPccS j w).fuses = s.fuses := rfl
@[simp] theorem setPccS_dieFuses (s : State) (j : Nat) (w : Word) : (s.setPccS j w).dieFuses = s.dieFuses := rfl
@[simp] theorem setPccS_flash (s : State) (j : Nat) (w : Word) : (s.setPccS j w).flash = s.flash := rfl
@[simp] theorem setPccS_sense (s : State) (j : Nat) (w : Word) : (s.setPccS j w).sense = s.sense := rfl
@[simp] theorem setPccS_flashJob (s : State) (j : Nat) (w : Word) : (s.setPccS j w).flashJob = s.flashJob := rfl
@[simp] theorem setPccS_drain (s : State) (j : Nat) (w : Word) : (s.setPccS j w).drain = s.drain := rfl
@[simp] theorem setPccS_reshapeCmd (s : State) (j : Nat) (w : Word) : (s.setPccS j w).reshapeCmd = s.reshapeCmd := rfl
@[simp] theorem setPccS_resetDue (s : State) (j : Nat) (w : Word) : (s.setPccS j w).resetDue = s.resetDue := rfl
@[simp] theorem setPccS_bridges (s : State) (j : Nat) (w : Word) : (s.setPccS j w).bridges = s.bridges := rfl
@[simp] theorem setPccS_meshHeld (s : State) (j : Nat) (w : Word) : (s.setPccS j w).meshHeld = s.meshHeld := rfl
@[simp] theorem setPccS_meshTurn (s : State) (j : Nat) (w : Word) : (s.setPccS j w).meshTurn = s.meshTurn := rfl
@[simp] theorem setPccS_parasol (s : State) (j : Nat) (w : Word) : (s.setPccS j w).parasol = s.parasol := rfl
@[simp] theorem setPccS_ownerKeys (s : State) (j : Nat) (w : Word) : (s.setPccS j w).ownerKeys = s.ownerKeys := rfl
@[simp] theorem setPccS_opNext (s : State) (j : Nat) (w : Word) : (s.setPccS j w).opNext = s.opNext := rfl
@[simp] theorem setPccS_longOps (s : State) (j : Nat) (w : Word) : (s.setPccS j w).longOps = s.longOps := rfl
@[simp] theorem setPccS_tops (s : State) (j : Nat) (w : Word) : (s.setPccS j w).tops = s.tops := rfl
@[simp] theorem setPccS_chainDefault (s : State) (j : Nat) (w : Word) : (s.setPccS j w).chainDefault = s.chainDefault := rfl
@[simp] theorem setPccS_alertN (s : State) (j : Nat) (w : Word) : (s.setPccS j w).alertN = s.alertN := rfl
@[simp] theorem setPccS_thermtripN (s : State) (j : Nat) (w : Word) : (s.setPccS j w).thermtripN = s.thermtripN := rfl
@[simp] theorem setPccS_mem (s : State) (j : Nat) (w : Word) : (s.setPccS j w).mem = s.mem := rfl
@[simp] theorem setPccS_freeCount (s : State) (j : Nat) (w : Word) : (s.setPccS j w).freeCount = s.freeCount := rfl
@[simp] theorem modEpf_pending (s : State) (f : Endpoint → Endpoint) : (s.modEpf f).pending = s.pending := rfl
@[simp] theorem modEpf_clause (s : State) (f : Endpoint → Endpoint) : (s.modEpf f).clause = s.clause := rfl
@[simp] theorem modEpf_phase (s : State) (f : Endpoint → Endpoint) : (s.modEpf f).phase = s.phase := rfl
@[simp] theorem modEpf_counting (s : State) (f : Endpoint → Endpoint) : (s.modEpf f).counting = s.counting := rfl
@[simp] theorem modEpf_regs (s : State) (f : Endpoint → Endpoint) : (s.modEpf f).regs = s.regs := rfl
@[simp] theorem modEpf_vaux (s : State) (f : Endpoint → Endpoint) : (s.modEpf f).vaux = s.vaux := rfl
@[simp] theorem modEpf_pwrGood (s : State) (f : Endpoint → Endpoint) : (s.modEpf f).pwrGood = s.pwrGood := rfl
@[simp] theorem modEpf_resetN (s : State) (f : Endpoint → Endpoint) : (s.modEpf f).resetN = s.resetN := rfl
@[simp] theorem modEpf_mgrStrap (s : State) (f : Endpoint → Endpoint) : (s.modEpf f).mgrStrap = s.mgrStrap := rfl
@[simp] theorem modEpf_stbyStrap (s : State) (f : Endpoint → Endpoint) : (s.modEpf f).stbyStrap = s.stbyStrap := rfl
@[simp] theorem modEpf_threads (s : State) (f : Endpoint → Endpoint) : (s.modEpf f).threads = s.threads := rfl
@[simp] theorem modEpf_cores (s : State) (f : Endpoint → Endpoint) : (s.modEpf f).cores = s.cores := rfl
@[simp] theorem modEpf_dies (s : State) (f : Endpoint → Endpoint) : (s.modEpf f).dies = s.dies := rfl
@[simp] theorem modEpf_sent (s : State) (f : Endpoint → Endpoint) : (s.modEpf f).sent = s.sent := rfl
@[simp] theorem modEpf_log (s : State) (f : Endpoint → Endpoint) : (s.modEpf f).log = s.log := rfl
@[simp] theorem modEpf_events (s : State) (f : Endpoint → Endpoint) : (s.modEpf f).events = s.events := rfl
@[simp] theorem modEpf_unresolved (s : State) (f : Endpoint → Endpoint) : (s.modEpf f).unresolved = s.unresolved := rfl
@[simp] theorem modEpf_pccVal (s : State) (f : Endpoint → Endpoint) : (s.modEpf f).pccVal = s.pccVal := rfl
@[simp] theorem modEpf_pccSel (s : State) (f : Endpoint → Endpoint) : (s.modEpf f).pccSel = s.pccSel := rfl
@[simp] theorem modEpf_homes (s : State) (f : Endpoint → Endpoint) : (s.modEpf f).homes = s.homes := rfl
@[simp] theorem modEpf_dirMem (s : State) (f : Endpoint → Endpoint) : (s.modEpf f).dirMem = s.dirMem := rfl
@[simp] theorem modEpf_dirCtl (s : State) (f : Endpoint → Endpoint) : (s.modEpf f).dirCtl = s.dirCtl := rfl
@[simp] theorem modEpf_disp (s : State) (f : Endpoint → Endpoint) : (s.modEpf f).disp = s.disp := rfl
@[simp] theorem modEpf_jrnOff (s : State) (f : Endpoint → Endpoint) : (s.modEpf f).jrnOff = s.jrnOff := rfl
@[simp] theorem modEpf_dirFilter (s : State) (f : Endpoint → Endpoint) : (s.modEpf f).dirFilter = s.dirFilter := rfl
@[simp] theorem modEpf_dirAge (s : State) (f : Endpoint → Endpoint) : (s.modEpf f).dirAge = s.dirAge := rfl
@[simp] theorem modEpf_dirScrubAt (s : State) (f : Endpoint → Endpoint) : (s.modEpf f).dirScrubAt = s.dirScrubAt := rfl
@[simp] theorem modEpf_dirCes (s : State) (f : Endpoint → Endpoint) : (s.modEpf f).dirCes = s.dirCes := rfl
@[simp] theorem modEpf_reshapeStart (s : State) (f : Endpoint → Endpoint) : (s.modEpf f).reshapeStart = s.reshapeStart := rfl
@[simp] theorem modEpf_reshapeEvicted (s : State) (f : Endpoint → Endpoint) : (s.modEpf f).reshapeEvicted = s.reshapeEvicted := rfl
@[simp] theorem modEpf_reshapeQueue (s : State) (f : Endpoint → Endpoint) : (s.modEpf f).reshapeQueue = s.reshapeQueue := rfl
@[simp] theorem modEpf_dirTicks (s : State) (f : Endpoint → Endpoint) : (s.modEpf f).dirTicks = s.dirTicks := rfl
@[simp] theorem modEpf_away (s : State) (f : Endpoint → Endpoint) : (s.modEpf f).away = s.away := rfl
@[simp] theorem modEpf_masks (s : State) (f : Endpoint → Endpoint) : (s.modEpf f).masks = s.masks := rfl
@[simp] theorem modEpf_written (s : State) (f : Endpoint → Endpoint) : (s.modEpf f).written = s.written := rfl
@[simp] theorem modEpf_keyCount (s : State) (f : Endpoint → Endpoint) : (s.modEpf f).keyCount = s.keyCount := rfl
@[simp] theorem modEpf_keyHalf (s : State) (f : Endpoint → Endpoint) : (s.modEpf f).keyHalf = s.keyHalf := rfl
@[simp] theorem modEpf_fillKey (s : State) (f : Endpoint → Endpoint) : (s.modEpf f).fillKey = s.fillKey := rfl
@[simp] theorem modEpf_lineKeys (s : State) (f : Endpoint → Endpoint) : (s.modEpf f).lineKeys = s.lineKeys := rfl
@[simp] theorem modEpf_dramBad (s : State) (f : Endpoint → Endpoint) : (s.modEpf f).dramBad = s.dramBad := rfl
@[simp] theorem modEpf_ports (s : State) (f : Endpoint → Endpoint) : (s.modEpf f).ports = s.ports := rfl
@[simp] theorem modEpf_ucq (s : State) (f : Endpoint → Endpoint) : (s.modEpf f).ucq = s.ucq := rfl
@[simp] theorem modEpf_portTok (s : State) (f : Endpoint → Endpoint) : (s.modEpf f).portTok = s.portTok := rfl
@[simp] theorem modEpf_readQ (s : State) (f : Endpoint → Endpoint) : (s.modEpf f).readQ = s.readQ := rfl
@[simp] theorem modEpf_admitTurn (s : State) (f : Endpoint → Endpoint) : (s.modEpf f).admitTurn = s.admitTurn := rfl
@[simp] theorem modEpf_minTok (s : State) (f : Endpoint → Endpoint) : (s.modEpf f).minTok = s.minTok := rfl
@[simp] theorem modEpf_maxTok (s : State) (f : Endpoint → Endpoint) : (s.modEpf f).maxTok = s.maxTok := rfl
@[simp] theorem modEpf_openRow (s : State) (f : Endpoint → Endpoint) : (s.modEpf f).openRow = s.openRow := rfl
@[simp] theorem modEpf_powerDown (s : State) (f : Endpoint → Endpoint) : (s.modEpf f).powerDown = s.powerDown := rfl
@[simp] theorem modEpf_selfRefresh (s : State) (f : Endpoint → Endpoint) : (s.modEpf f).selfRefresh = s.selfRefresh := rfl
@[simp] theorem modEpf_replays (s : State) (f : Endpoint → Endpoint) : (s.modEpf f).replays = s.replays := rfl
@[simp] theorem modEpf_pot (s : State) (f : Endpoint → Endpoint) : (s.modEpf f).pot = s.pot := rfl
@[simp] theorem modEpf_realms (s : State) (f : Endpoint → Endpoint) : (s.modEpf f).realms = s.realms := rfl
@[simp] theorem modEpf_memberJobs (s : State) (f : Endpoint → Endpoint) : (s.modEpf f).memberJobs = s.memberJobs := rfl
@[simp] theorem modEpf_domains (s : State) (f : Endpoint → Endpoint) : (s.modEpf f).domains = s.domains := rfl
@[simp] theorem modEpf_tlbiUnit (s : State) (f : Endpoint → Endpoint) : (s.modEpf f).tlbiUnit = s.tlbiUnit := rfl
@[simp] theorem modEpf_ctxs (s : State) (f : Endpoint → Endpoint) : (s.modEpf f).ctxs = s.ctxs := rfl
@[simp] theorem modEpf_monitors (s : State) (f : Endpoint → Endpoint) : (s.modEpf f).monitors = s.monitors := rfl
@[simp] theorem modEpf_engines (s : State) (f : Endpoint → Endpoint) : (s.modEpf f).engines = s.engines := rfl
@[simp] theorem modEpf_ctxRuns (s : State) (f : Endpoint → Endpoint) : (s.modEpf f).ctxRuns = s.ctxRuns := rfl
@[simp] theorem modEpf_ctxJob (s : State) (f : Endpoint → Endpoint) : (s.modEpf f).ctxJob = s.ctxJob := rfl
@[simp] theorem modEpf_ctxBad (s : State) (f : Endpoint → Endpoint) : (s.modEpf f).ctxBad = s.ctxBad := rfl
@[simp] theorem modEpf_capUsed (s : State) (f : Endpoint → Endpoint) : (s.modEpf f).capUsed = s.capUsed := rfl
@[simp] theorem modEpf_capHeld (s : State) (f : Endpoint → Endpoint) : (s.modEpf f).capHeld = s.capHeld := rfl
@[simp] theorem modEpf_notice (s : State) (f : Endpoint → Endpoint) : (s.modEpf f).notice = s.notice := rfl
@[simp] theorem modEpf_links (s : State) (f : Endpoint → Endpoint) : (s.modEpf f).links = s.links := rfl
@[simp] theorem modEpf_image (s : State) (f : Endpoint → Endpoint) : (s.modEpf f).image = s.image := rfl
@[simp] theorem modEpf_completions (s : State) (f : Endpoint → Endpoint) : (s.modEpf f).completions = s.completions := rfl
@[simp] theorem modEpf_inbound (s : State) (f : Endpoint → Endpoint) : (s.modEpf f).inbound = s.inbound := rfl
@[simp] theorem modEpf_mapDue (s : State) (f : Endpoint → Endpoint) : (s.modEpf f).mapDue = s.mapDue := rfl
@[simp] theorem modEpf_mapOld (s : State) (f : Endpoint → Endpoint) : (s.modEpf f).mapOld = s.mapOld := rfl
@[simp] theorem modEpf_devReads (s : State) (f : Endpoint → Endpoint) : (s.modEpf f).devReads = s.devReads := rfl
@[simp] theorem modEpf_devTag (s : State) (f : Endpoint → Endpoint) : (s.modEpf f).devTag = s.devTag := rfl
@[simp] theorem modEpf_rpOut (s : State) (f : Endpoint → Endpoint) : (s.modEpf f).rpOut = s.rpOut := rfl
@[simp] theorem modEpf_subsystem (s : State) (f : Endpoint → Endpoint) : (s.modEpf f).subsystem = s.subsystem := rfl
@[simp] theorem modEpf_dump (s : State) (f : Endpoint → Endpoint) : (s.modEpf f).dump = s.dump := rfl
@[simp] theorem modEpf_fuses (s : State) (f : Endpoint → Endpoint) : (s.modEpf f).fuses = s.fuses := rfl
@[simp] theorem modEpf_dieFuses (s : State) (f : Endpoint → Endpoint) : (s.modEpf f).dieFuses = s.dieFuses := rfl
@[simp] theorem modEpf_flash (s : State) (f : Endpoint → Endpoint) : (s.modEpf f).flash = s.flash := rfl
@[simp] theorem modEpf_sense (s : State) (f : Endpoint → Endpoint) : (s.modEpf f).sense = s.sense := rfl
@[simp] theorem modEpf_flashJob (s : State) (f : Endpoint → Endpoint) : (s.modEpf f).flashJob = s.flashJob := rfl
@[simp] theorem modEpf_drain (s : State) (f : Endpoint → Endpoint) : (s.modEpf f).drain = s.drain := rfl
@[simp] theorem modEpf_reshapeCmd (s : State) (f : Endpoint → Endpoint) : (s.modEpf f).reshapeCmd = s.reshapeCmd := rfl
@[simp] theorem modEpf_resetDue (s : State) (f : Endpoint → Endpoint) : (s.modEpf f).resetDue = s.resetDue := rfl
@[simp] theorem modEpf_bridges (s : State) (f : Endpoint → Endpoint) : (s.modEpf f).bridges = s.bridges := rfl
@[simp] theorem modEpf_meshHeld (s : State) (f : Endpoint → Endpoint) : (s.modEpf f).meshHeld = s.meshHeld := rfl
@[simp] theorem modEpf_meshTurn (s : State) (f : Endpoint → Endpoint) : (s.modEpf f).meshTurn = s.meshTurn := rfl
@[simp] theorem modEpf_parasol (s : State) (f : Endpoint → Endpoint) : (s.modEpf f).parasol = s.parasol := rfl
@[simp] theorem modEpf_ownerKeys (s : State) (f : Endpoint → Endpoint) : (s.modEpf f).ownerKeys = s.ownerKeys := rfl
@[simp] theorem modEpf_opNext (s : State) (f : Endpoint → Endpoint) : (s.modEpf f).opNext = s.opNext := rfl
@[simp] theorem modEpf_longOps (s : State) (f : Endpoint → Endpoint) : (s.modEpf f).longOps = s.longOps := rfl
@[simp] theorem modEpf_tops (s : State) (f : Endpoint → Endpoint) : (s.modEpf f).tops = s.tops := rfl
@[simp] theorem modEpf_chainDefault (s : State) (f : Endpoint → Endpoint) : (s.modEpf f).chainDefault = s.chainDefault := rfl
@[simp] theorem modEpf_alertN (s : State) (f : Endpoint → Endpoint) : (s.modEpf f).alertN = s.alertN := rfl
@[simp] theorem modEpf_thermtripN (s : State) (f : Endpoint → Endpoint) : (s.modEpf f).thermtripN = s.thermtripN := rfl
@[simp] theorem modEpf_mem (s : State) (f : Endpoint → Endpoint) : (s.modEpf f).mem = s.mem := rfl
@[simp] theorem modEpf_freeCount (s : State) (f : Endpoint → Endpoint) : (s.modEpf f).freeCount = s.freeCount := rfl
@[simp] theorem modRealms_pending (s : State) (f : Realms → Realms) : (s.modRealms f).pending = s.pending := rfl
@[simp] theorem modRealms_clause (s : State) (f : Realms → Realms) : (s.modRealms f).clause = s.clause := rfl
@[simp] theorem modRealms_phase (s : State) (f : Realms → Realms) : (s.modRealms f).phase = s.phase := rfl
@[simp] theorem modRealms_counting (s : State) (f : Realms → Realms) : (s.modRealms f).counting = s.counting := rfl
@[simp] theorem modRealms_regs (s : State) (f : Realms → Realms) : (s.modRealms f).regs = s.regs := rfl
@[simp] theorem modRealms_vaux (s : State) (f : Realms → Realms) : (s.modRealms f).vaux = s.vaux := rfl
@[simp] theorem modRealms_pwrGood (s : State) (f : Realms → Realms) : (s.modRealms f).pwrGood = s.pwrGood := rfl
@[simp] theorem modRealms_resetN (s : State) (f : Realms → Realms) : (s.modRealms f).resetN = s.resetN := rfl
@[simp] theorem modRealms_mgrStrap (s : State) (f : Realms → Realms) : (s.modRealms f).mgrStrap = s.mgrStrap := rfl
@[simp] theorem modRealms_stbyStrap (s : State) (f : Realms → Realms) : (s.modRealms f).stbyStrap = s.stbyStrap := rfl
@[simp] theorem modRealms_threads (s : State) (f : Realms → Realms) : (s.modRealms f).threads = s.threads := rfl
@[simp] theorem modRealms_cores (s : State) (f : Realms → Realms) : (s.modRealms f).cores = s.cores := rfl
@[simp] theorem modRealms_dies (s : State) (f : Realms → Realms) : (s.modRealms f).dies = s.dies := rfl
@[simp] theorem modRealms_sent (s : State) (f : Realms → Realms) : (s.modRealms f).sent = s.sent := rfl
@[simp] theorem modRealms_log (s : State) (f : Realms → Realms) : (s.modRealms f).log = s.log := rfl
@[simp] theorem modRealms_events (s : State) (f : Realms → Realms) : (s.modRealms f).events = s.events := rfl
@[simp] theorem modRealms_unresolved (s : State) (f : Realms → Realms) : (s.modRealms f).unresolved = s.unresolved := rfl
@[simp] theorem modRealms_pccVal (s : State) (f : Realms → Realms) : (s.modRealms f).pccVal = s.pccVal := rfl
@[simp] theorem modRealms_pccSel (s : State) (f : Realms → Realms) : (s.modRealms f).pccSel = s.pccSel := rfl
@[simp] theorem modRealms_homes (s : State) (f : Realms → Realms) : (s.modRealms f).homes = s.homes := rfl
@[simp] theorem modRealms_dirMem (s : State) (f : Realms → Realms) : (s.modRealms f).dirMem = s.dirMem := rfl
@[simp] theorem modRealms_dirCtl (s : State) (f : Realms → Realms) : (s.modRealms f).dirCtl = s.dirCtl := rfl
@[simp] theorem modRealms_disp (s : State) (f : Realms → Realms) : (s.modRealms f).disp = s.disp := rfl
@[simp] theorem modRealms_jrnOff (s : State) (f : Realms → Realms) : (s.modRealms f).jrnOff = s.jrnOff := rfl
@[simp] theorem modRealms_dirFilter (s : State) (f : Realms → Realms) : (s.modRealms f).dirFilter = s.dirFilter := rfl
@[simp] theorem modRealms_dirAge (s : State) (f : Realms → Realms) : (s.modRealms f).dirAge = s.dirAge := rfl
@[simp] theorem modRealms_dirScrubAt (s : State) (f : Realms → Realms) : (s.modRealms f).dirScrubAt = s.dirScrubAt := rfl
@[simp] theorem modRealms_dirCes (s : State) (f : Realms → Realms) : (s.modRealms f).dirCes = s.dirCes := rfl
@[simp] theorem modRealms_reshapeStart (s : State) (f : Realms → Realms) : (s.modRealms f).reshapeStart = s.reshapeStart := rfl
@[simp] theorem modRealms_reshapeEvicted (s : State) (f : Realms → Realms) : (s.modRealms f).reshapeEvicted = s.reshapeEvicted := rfl
@[simp] theorem modRealms_reshapeQueue (s : State) (f : Realms → Realms) : (s.modRealms f).reshapeQueue = s.reshapeQueue := rfl
@[simp] theorem modRealms_dirTicks (s : State) (f : Realms → Realms) : (s.modRealms f).dirTicks = s.dirTicks := rfl
@[simp] theorem modRealms_away (s : State) (f : Realms → Realms) : (s.modRealms f).away = s.away := rfl
@[simp] theorem modRealms_masks (s : State) (f : Realms → Realms) : (s.modRealms f).masks = s.masks := rfl
@[simp] theorem modRealms_written (s : State) (f : Realms → Realms) : (s.modRealms f).written = s.written := rfl
@[simp] theorem modRealms_keyCount (s : State) (f : Realms → Realms) : (s.modRealms f).keyCount = s.keyCount := rfl
@[simp] theorem modRealms_keyHalf (s : State) (f : Realms → Realms) : (s.modRealms f).keyHalf = s.keyHalf := rfl
@[simp] theorem modRealms_fillKey (s : State) (f : Realms → Realms) : (s.modRealms f).fillKey = s.fillKey := rfl
@[simp] theorem modRealms_lineKeys (s : State) (f : Realms → Realms) : (s.modRealms f).lineKeys = s.lineKeys := rfl
@[simp] theorem modRealms_dramBad (s : State) (f : Realms → Realms) : (s.modRealms f).dramBad = s.dramBad := rfl
@[simp] theorem modRealms_ports (s : State) (f : Realms → Realms) : (s.modRealms f).ports = s.ports := rfl
@[simp] theorem modRealms_ucq (s : State) (f : Realms → Realms) : (s.modRealms f).ucq = s.ucq := rfl
@[simp] theorem modRealms_portTok (s : State) (f : Realms → Realms) : (s.modRealms f).portTok = s.portTok := rfl
@[simp] theorem modRealms_readQ (s : State) (f : Realms → Realms) : (s.modRealms f).readQ = s.readQ := rfl
@[simp] theorem modRealms_admitTurn (s : State) (f : Realms → Realms) : (s.modRealms f).admitTurn = s.admitTurn := rfl
@[simp] theorem modRealms_minTok (s : State) (f : Realms → Realms) : (s.modRealms f).minTok = s.minTok := rfl
@[simp] theorem modRealms_maxTok (s : State) (f : Realms → Realms) : (s.modRealms f).maxTok = s.maxTok := rfl
@[simp] theorem modRealms_openRow (s : State) (f : Realms → Realms) : (s.modRealms f).openRow = s.openRow := rfl
@[simp] theorem modRealms_powerDown (s : State) (f : Realms → Realms) : (s.modRealms f).powerDown = s.powerDown := rfl
@[simp] theorem modRealms_selfRefresh (s : State) (f : Realms → Realms) : (s.modRealms f).selfRefresh = s.selfRefresh := rfl
@[simp] theorem modRealms_replays (s : State) (f : Realms → Realms) : (s.modRealms f).replays = s.replays := rfl
@[simp] theorem modRealms_pot (s : State) (f : Realms → Realms) : (s.modRealms f).pot = s.pot := rfl
@[simp] theorem modRealms_memberJobs (s : State) (f : Realms → Realms) : (s.modRealms f).memberJobs = s.memberJobs := rfl
@[simp] theorem modRealms_domains (s : State) (f : Realms → Realms) : (s.modRealms f).domains = s.domains := rfl
@[simp] theorem modRealms_tlbiUnit (s : State) (f : Realms → Realms) : (s.modRealms f).tlbiUnit = s.tlbiUnit := rfl
@[simp] theorem modRealms_ctxs (s : State) (f : Realms → Realms) : (s.modRealms f).ctxs = s.ctxs := rfl
@[simp] theorem modRealms_monitors (s : State) (f : Realms → Realms) : (s.modRealms f).monitors = s.monitors := rfl
@[simp] theorem modRealms_engines (s : State) (f : Realms → Realms) : (s.modRealms f).engines = s.engines := rfl
@[simp] theorem modRealms_ctxRuns (s : State) (f : Realms → Realms) : (s.modRealms f).ctxRuns = s.ctxRuns := rfl
@[simp] theorem modRealms_ctxJob (s : State) (f : Realms → Realms) : (s.modRealms f).ctxJob = s.ctxJob := rfl
@[simp] theorem modRealms_ctxBad (s : State) (f : Realms → Realms) : (s.modRealms f).ctxBad = s.ctxBad := rfl
@[simp] theorem modRealms_capUsed (s : State) (f : Realms → Realms) : (s.modRealms f).capUsed = s.capUsed := rfl
@[simp] theorem modRealms_capHeld (s : State) (f : Realms → Realms) : (s.modRealms f).capHeld = s.capHeld := rfl
@[simp] theorem modRealms_notice (s : State) (f : Realms → Realms) : (s.modRealms f).notice = s.notice := rfl
@[simp] theorem modRealms_links (s : State) (f : Realms → Realms) : (s.modRealms f).links = s.links := rfl
@[simp] theorem modRealms_image (s : State) (f : Realms → Realms) : (s.modRealms f).image = s.image := rfl
@[simp] theorem modRealms_completions (s : State) (f : Realms → Realms) : (s.modRealms f).completions = s.completions := rfl
@[simp] theorem modRealms_epf (s : State) (f : Realms → Realms) : (s.modRealms f).epf = s.epf := rfl
@[simp] theorem modRealms_inbound (s : State) (f : Realms → Realms) : (s.modRealms f).inbound = s.inbound := rfl
@[simp] theorem modRealms_mapDue (s : State) (f : Realms → Realms) : (s.modRealms f).mapDue = s.mapDue := rfl
@[simp] theorem modRealms_mapOld (s : State) (f : Realms → Realms) : (s.modRealms f).mapOld = s.mapOld := rfl
@[simp] theorem modRealms_devReads (s : State) (f : Realms → Realms) : (s.modRealms f).devReads = s.devReads := rfl
@[simp] theorem modRealms_devTag (s : State) (f : Realms → Realms) : (s.modRealms f).devTag = s.devTag := rfl
@[simp] theorem modRealms_rpOut (s : State) (f : Realms → Realms) : (s.modRealms f).rpOut = s.rpOut := rfl
@[simp] theorem modRealms_subsystem (s : State) (f : Realms → Realms) : (s.modRealms f).subsystem = s.subsystem := rfl
@[simp] theorem modRealms_dump (s : State) (f : Realms → Realms) : (s.modRealms f).dump = s.dump := rfl
@[simp] theorem modRealms_fuses (s : State) (f : Realms → Realms) : (s.modRealms f).fuses = s.fuses := rfl
@[simp] theorem modRealms_dieFuses (s : State) (f : Realms → Realms) : (s.modRealms f).dieFuses = s.dieFuses := rfl
@[simp] theorem modRealms_flash (s : State) (f : Realms → Realms) : (s.modRealms f).flash = s.flash := rfl
@[simp] theorem modRealms_sense (s : State) (f : Realms → Realms) : (s.modRealms f).sense = s.sense := rfl
@[simp] theorem modRealms_flashJob (s : State) (f : Realms → Realms) : (s.modRealms f).flashJob = s.flashJob := rfl
@[simp] theorem modRealms_drain (s : State) (f : Realms → Realms) : (s.modRealms f).drain = s.drain := rfl
@[simp] theorem modRealms_reshapeCmd (s : State) (f : Realms → Realms) : (s.modRealms f).reshapeCmd = s.reshapeCmd := rfl
@[simp] theorem modRealms_resetDue (s : State) (f : Realms → Realms) : (s.modRealms f).resetDue = s.resetDue := rfl
@[simp] theorem modRealms_bridges (s : State) (f : Realms → Realms) : (s.modRealms f).bridges = s.bridges := rfl
@[simp] theorem modRealms_meshHeld (s : State) (f : Realms → Realms) : (s.modRealms f).meshHeld = s.meshHeld := rfl
@[simp] theorem modRealms_meshTurn (s : State) (f : Realms → Realms) : (s.modRealms f).meshTurn = s.meshTurn := rfl
@[simp] theorem modRealms_parasol (s : State) (f : Realms → Realms) : (s.modRealms f).parasol = s.parasol := rfl
@[simp] theorem modRealms_ownerKeys (s : State) (f : Realms → Realms) : (s.modRealms f).ownerKeys = s.ownerKeys := rfl
@[simp] theorem modRealms_opNext (s : State) (f : Realms → Realms) : (s.modRealms f).opNext = s.opNext := rfl
@[simp] theorem modRealms_longOps (s : State) (f : Realms → Realms) : (s.modRealms f).longOps = s.longOps := rfl
@[simp] theorem modRealms_tops (s : State) (f : Realms → Realms) : (s.modRealms f).tops = s.tops := rfl
@[simp] theorem modRealms_chainDefault (s : State) (f : Realms → Realms) : (s.modRealms f).chainDefault = s.chainDefault := rfl
@[simp] theorem modRealms_alertN (s : State) (f : Realms → Realms) : (s.modRealms f).alertN = s.alertN := rfl
@[simp] theorem modRealms_thermtripN (s : State) (f : Realms → Realms) : (s.modRealms f).thermtripN = s.thermtripN := rfl
@[simp] theorem modRealms_mem (s : State) (f : Realms → Realms) : (s.modRealms f).mem = s.mem := rfl
@[simp] theorem modRealms_freeCount (s : State) (f : Realms → Realms) : (s.modRealms f).freeCount = s.freeCount := rfl
@[simp] theorem modParasol_pending (s : State) (f : Parasol → Parasol) : (s.modParasol f).pending = s.pending := rfl
@[simp] theorem modParasol_clause (s : State) (f : Parasol → Parasol) : (s.modParasol f).clause = s.clause := rfl
@[simp] theorem modParasol_phase (s : State) (f : Parasol → Parasol) : (s.modParasol f).phase = s.phase := rfl
@[simp] theorem modParasol_counting (s : State) (f : Parasol → Parasol) : (s.modParasol f).counting = s.counting := rfl
@[simp] theorem modParasol_regs (s : State) (f : Parasol → Parasol) : (s.modParasol f).regs = s.regs := rfl
@[simp] theorem modParasol_vaux (s : State) (f : Parasol → Parasol) : (s.modParasol f).vaux = s.vaux := rfl
@[simp] theorem modParasol_pwrGood (s : State) (f : Parasol → Parasol) : (s.modParasol f).pwrGood = s.pwrGood := rfl
@[simp] theorem modParasol_resetN (s : State) (f : Parasol → Parasol) : (s.modParasol f).resetN = s.resetN := rfl
@[simp] theorem modParasol_mgrStrap (s : State) (f : Parasol → Parasol) : (s.modParasol f).mgrStrap = s.mgrStrap := rfl
@[simp] theorem modParasol_stbyStrap (s : State) (f : Parasol → Parasol) : (s.modParasol f).stbyStrap = s.stbyStrap := rfl
@[simp] theorem modParasol_threads (s : State) (f : Parasol → Parasol) : (s.modParasol f).threads = s.threads := rfl
@[simp] theorem modParasol_cores (s : State) (f : Parasol → Parasol) : (s.modParasol f).cores = s.cores := rfl
@[simp] theorem modParasol_dies (s : State) (f : Parasol → Parasol) : (s.modParasol f).dies = s.dies := rfl
@[simp] theorem modParasol_sent (s : State) (f : Parasol → Parasol) : (s.modParasol f).sent = s.sent := rfl
@[simp] theorem modParasol_log (s : State) (f : Parasol → Parasol) : (s.modParasol f).log = s.log := rfl
@[simp] theorem modParasol_events (s : State) (f : Parasol → Parasol) : (s.modParasol f).events = s.events := rfl
@[simp] theorem modParasol_unresolved (s : State) (f : Parasol → Parasol) : (s.modParasol f).unresolved = s.unresolved := rfl
@[simp] theorem modParasol_pccVal (s : State) (f : Parasol → Parasol) : (s.modParasol f).pccVal = s.pccVal := rfl
@[simp] theorem modParasol_pccSel (s : State) (f : Parasol → Parasol) : (s.modParasol f).pccSel = s.pccSel := rfl
@[simp] theorem modParasol_homes (s : State) (f : Parasol → Parasol) : (s.modParasol f).homes = s.homes := rfl
@[simp] theorem modParasol_dirMem (s : State) (f : Parasol → Parasol) : (s.modParasol f).dirMem = s.dirMem := rfl
@[simp] theorem modParasol_dirCtl (s : State) (f : Parasol → Parasol) : (s.modParasol f).dirCtl = s.dirCtl := rfl
@[simp] theorem modParasol_disp (s : State) (f : Parasol → Parasol) : (s.modParasol f).disp = s.disp := rfl
@[simp] theorem modParasol_jrnOff (s : State) (f : Parasol → Parasol) : (s.modParasol f).jrnOff = s.jrnOff := rfl
@[simp] theorem modParasol_dirFilter (s : State) (f : Parasol → Parasol) : (s.modParasol f).dirFilter = s.dirFilter := rfl
@[simp] theorem modParasol_dirAge (s : State) (f : Parasol → Parasol) : (s.modParasol f).dirAge = s.dirAge := rfl
@[simp] theorem modParasol_dirScrubAt (s : State) (f : Parasol → Parasol) : (s.modParasol f).dirScrubAt = s.dirScrubAt := rfl
@[simp] theorem modParasol_dirCes (s : State) (f : Parasol → Parasol) : (s.modParasol f).dirCes = s.dirCes := rfl
@[simp] theorem modParasol_reshapeStart (s : State) (f : Parasol → Parasol) : (s.modParasol f).reshapeStart = s.reshapeStart := rfl
@[simp] theorem modParasol_reshapeEvicted (s : State) (f : Parasol → Parasol) : (s.modParasol f).reshapeEvicted = s.reshapeEvicted := rfl
@[simp] theorem modParasol_reshapeQueue (s : State) (f : Parasol → Parasol) : (s.modParasol f).reshapeQueue = s.reshapeQueue := rfl
@[simp] theorem modParasol_dirTicks (s : State) (f : Parasol → Parasol) : (s.modParasol f).dirTicks = s.dirTicks := rfl
@[simp] theorem modParasol_away (s : State) (f : Parasol → Parasol) : (s.modParasol f).away = s.away := rfl
@[simp] theorem modParasol_masks (s : State) (f : Parasol → Parasol) : (s.modParasol f).masks = s.masks := rfl
@[simp] theorem modParasol_written (s : State) (f : Parasol → Parasol) : (s.modParasol f).written = s.written := rfl
@[simp] theorem modParasol_keyCount (s : State) (f : Parasol → Parasol) : (s.modParasol f).keyCount = s.keyCount := rfl
@[simp] theorem modParasol_keyHalf (s : State) (f : Parasol → Parasol) : (s.modParasol f).keyHalf = s.keyHalf := rfl
@[simp] theorem modParasol_fillKey (s : State) (f : Parasol → Parasol) : (s.modParasol f).fillKey = s.fillKey := rfl
@[simp] theorem modParasol_lineKeys (s : State) (f : Parasol → Parasol) : (s.modParasol f).lineKeys = s.lineKeys := rfl
@[simp] theorem modParasol_dramBad (s : State) (f : Parasol → Parasol) : (s.modParasol f).dramBad = s.dramBad := rfl
@[simp] theorem modParasol_ports (s : State) (f : Parasol → Parasol) : (s.modParasol f).ports = s.ports := rfl
@[simp] theorem modParasol_ucq (s : State) (f : Parasol → Parasol) : (s.modParasol f).ucq = s.ucq := rfl
@[simp] theorem modParasol_portTok (s : State) (f : Parasol → Parasol) : (s.modParasol f).portTok = s.portTok := rfl
@[simp] theorem modParasol_readQ (s : State) (f : Parasol → Parasol) : (s.modParasol f).readQ = s.readQ := rfl
@[simp] theorem modParasol_admitTurn (s : State) (f : Parasol → Parasol) : (s.modParasol f).admitTurn = s.admitTurn := rfl
@[simp] theorem modParasol_minTok (s : State) (f : Parasol → Parasol) : (s.modParasol f).minTok = s.minTok := rfl
@[simp] theorem modParasol_maxTok (s : State) (f : Parasol → Parasol) : (s.modParasol f).maxTok = s.maxTok := rfl
@[simp] theorem modParasol_openRow (s : State) (f : Parasol → Parasol) : (s.modParasol f).openRow = s.openRow := rfl
@[simp] theorem modParasol_powerDown (s : State) (f : Parasol → Parasol) : (s.modParasol f).powerDown = s.powerDown := rfl
@[simp] theorem modParasol_selfRefresh (s : State) (f : Parasol → Parasol) : (s.modParasol f).selfRefresh = s.selfRefresh := rfl
@[simp] theorem modParasol_replays (s : State) (f : Parasol → Parasol) : (s.modParasol f).replays = s.replays := rfl
@[simp] theorem modParasol_pot (s : State) (f : Parasol → Parasol) : (s.modParasol f).pot = s.pot := rfl
@[simp] theorem modParasol_realms (s : State) (f : Parasol → Parasol) : (s.modParasol f).realms = s.realms := rfl
@[simp] theorem modParasol_memberJobs (s : State) (f : Parasol → Parasol) : (s.modParasol f).memberJobs = s.memberJobs := rfl
@[simp] theorem modParasol_domains (s : State) (f : Parasol → Parasol) : (s.modParasol f).domains = s.domains := rfl
@[simp] theorem modParasol_tlbiUnit (s : State) (f : Parasol → Parasol) : (s.modParasol f).tlbiUnit = s.tlbiUnit := rfl
@[simp] theorem modParasol_ctxs (s : State) (f : Parasol → Parasol) : (s.modParasol f).ctxs = s.ctxs := rfl
@[simp] theorem modParasol_monitors (s : State) (f : Parasol → Parasol) : (s.modParasol f).monitors = s.monitors := rfl
@[simp] theorem modParasol_engines (s : State) (f : Parasol → Parasol) : (s.modParasol f).engines = s.engines := rfl
@[simp] theorem modParasol_ctxRuns (s : State) (f : Parasol → Parasol) : (s.modParasol f).ctxRuns = s.ctxRuns := rfl
@[simp] theorem modParasol_ctxJob (s : State) (f : Parasol → Parasol) : (s.modParasol f).ctxJob = s.ctxJob := rfl
@[simp] theorem modParasol_ctxBad (s : State) (f : Parasol → Parasol) : (s.modParasol f).ctxBad = s.ctxBad := rfl
@[simp] theorem modParasol_capUsed (s : State) (f : Parasol → Parasol) : (s.modParasol f).capUsed = s.capUsed := rfl
@[simp] theorem modParasol_capHeld (s : State) (f : Parasol → Parasol) : (s.modParasol f).capHeld = s.capHeld := rfl
@[simp] theorem modParasol_notice (s : State) (f : Parasol → Parasol) : (s.modParasol f).notice = s.notice := rfl
@[simp] theorem modParasol_links (s : State) (f : Parasol → Parasol) : (s.modParasol f).links = s.links := rfl
@[simp] theorem modParasol_image (s : State) (f : Parasol → Parasol) : (s.modParasol f).image = s.image := rfl
@[simp] theorem modParasol_completions (s : State) (f : Parasol → Parasol) : (s.modParasol f).completions = s.completions := rfl
@[simp] theorem modParasol_epf (s : State) (f : Parasol → Parasol) : (s.modParasol f).epf = s.epf := rfl
@[simp] theorem modParasol_inbound (s : State) (f : Parasol → Parasol) : (s.modParasol f).inbound = s.inbound := rfl
@[simp] theorem modParasol_mapDue (s : State) (f : Parasol → Parasol) : (s.modParasol f).mapDue = s.mapDue := rfl
@[simp] theorem modParasol_mapOld (s : State) (f : Parasol → Parasol) : (s.modParasol f).mapOld = s.mapOld := rfl
@[simp] theorem modParasol_devReads (s : State) (f : Parasol → Parasol) : (s.modParasol f).devReads = s.devReads := rfl
@[simp] theorem modParasol_devTag (s : State) (f : Parasol → Parasol) : (s.modParasol f).devTag = s.devTag := rfl
@[simp] theorem modParasol_rpOut (s : State) (f : Parasol → Parasol) : (s.modParasol f).rpOut = s.rpOut := rfl
@[simp] theorem modParasol_subsystem (s : State) (f : Parasol → Parasol) : (s.modParasol f).subsystem = s.subsystem := rfl
@[simp] theorem modParasol_dump (s : State) (f : Parasol → Parasol) : (s.modParasol f).dump = s.dump := rfl
@[simp] theorem modParasol_fuses (s : State) (f : Parasol → Parasol) : (s.modParasol f).fuses = s.fuses := rfl
@[simp] theorem modParasol_dieFuses (s : State) (f : Parasol → Parasol) : (s.modParasol f).dieFuses = s.dieFuses := rfl
@[simp] theorem modParasol_flash (s : State) (f : Parasol → Parasol) : (s.modParasol f).flash = s.flash := rfl
@[simp] theorem modParasol_sense (s : State) (f : Parasol → Parasol) : (s.modParasol f).sense = s.sense := rfl
@[simp] theorem modParasol_flashJob (s : State) (f : Parasol → Parasol) : (s.modParasol f).flashJob = s.flashJob := rfl
@[simp] theorem modParasol_drain (s : State) (f : Parasol → Parasol) : (s.modParasol f).drain = s.drain := rfl
@[simp] theorem modParasol_reshapeCmd (s : State) (f : Parasol → Parasol) : (s.modParasol f).reshapeCmd = s.reshapeCmd := rfl
@[simp] theorem modParasol_resetDue (s : State) (f : Parasol → Parasol) : (s.modParasol f).resetDue = s.resetDue := rfl
@[simp] theorem modParasol_bridges (s : State) (f : Parasol → Parasol) : (s.modParasol f).bridges = s.bridges := rfl
@[simp] theorem modParasol_meshHeld (s : State) (f : Parasol → Parasol) : (s.modParasol f).meshHeld = s.meshHeld := rfl
@[simp] theorem modParasol_meshTurn (s : State) (f : Parasol → Parasol) : (s.modParasol f).meshTurn = s.meshTurn := rfl
@[simp] theorem modParasol_ownerKeys (s : State) (f : Parasol → Parasol) : (s.modParasol f).ownerKeys = s.ownerKeys := rfl
@[simp] theorem modParasol_opNext (s : State) (f : Parasol → Parasol) : (s.modParasol f).opNext = s.opNext := rfl
@[simp] theorem modParasol_longOps (s : State) (f : Parasol → Parasol) : (s.modParasol f).longOps = s.longOps := rfl
@[simp] theorem modParasol_tops (s : State) (f : Parasol → Parasol) : (s.modParasol f).tops = s.tops := rfl
@[simp] theorem modParasol_chainDefault (s : State) (f : Parasol → Parasol) : (s.modParasol f).chainDefault = s.chainDefault := rfl
@[simp] theorem modParasol_alertN (s : State) (f : Parasol → Parasol) : (s.modParasol f).alertN = s.alertN := rfl
@[simp] theorem modParasol_thermtripN (s : State) (f : Parasol → Parasol) : (s.modParasol f).thermtripN = s.thermtripN := rfl
@[simp] theorem modParasol_mem (s : State) (f : Parasol → Parasol) : (s.modParasol f).mem = s.mem := rfl
@[simp] theorem modParasol_freeCount (s : State) (f : Parasol → Parasol) : (s.modParasol f).freeCount = s.freeCount := rfl
@[simp] theorem setCtx_pending (s : State) (c : Nat) (x : RingCtx) : (s.setCtx c x).pending = s.pending := rfl
@[simp] theorem setCtx_clause (s : State) (c : Nat) (x : RingCtx) : (s.setCtx c x).clause = s.clause := rfl
@[simp] theorem setCtx_phase (s : State) (c : Nat) (x : RingCtx) : (s.setCtx c x).phase = s.phase := rfl
@[simp] theorem setCtx_counting (s : State) (c : Nat) (x : RingCtx) : (s.setCtx c x).counting = s.counting := rfl
@[simp] theorem setCtx_regs (s : State) (c : Nat) (x : RingCtx) : (s.setCtx c x).regs = s.regs := rfl
@[simp] theorem setCtx_vaux (s : State) (c : Nat) (x : RingCtx) : (s.setCtx c x).vaux = s.vaux := rfl
@[simp] theorem setCtx_pwrGood (s : State) (c : Nat) (x : RingCtx) : (s.setCtx c x).pwrGood = s.pwrGood := rfl
@[simp] theorem setCtx_resetN (s : State) (c : Nat) (x : RingCtx) : (s.setCtx c x).resetN = s.resetN := rfl
@[simp] theorem setCtx_mgrStrap (s : State) (c : Nat) (x : RingCtx) : (s.setCtx c x).mgrStrap = s.mgrStrap := rfl
@[simp] theorem setCtx_stbyStrap (s : State) (c : Nat) (x : RingCtx) : (s.setCtx c x).stbyStrap = s.stbyStrap := rfl
@[simp] theorem setCtx_threads (s : State) (c : Nat) (x : RingCtx) : (s.setCtx c x).threads = s.threads := rfl
@[simp] theorem setCtx_cores (s : State) (c : Nat) (x : RingCtx) : (s.setCtx c x).cores = s.cores := rfl
@[simp] theorem setCtx_dies (s : State) (c : Nat) (x : RingCtx) : (s.setCtx c x).dies = s.dies := rfl
@[simp] theorem setCtx_sent (s : State) (c : Nat) (x : RingCtx) : (s.setCtx c x).sent = s.sent := rfl
@[simp] theorem setCtx_log (s : State) (c : Nat) (x : RingCtx) : (s.setCtx c x).log = s.log := rfl
@[simp] theorem setCtx_events (s : State) (c : Nat) (x : RingCtx) : (s.setCtx c x).events = s.events := rfl
@[simp] theorem setCtx_unresolved (s : State) (c : Nat) (x : RingCtx) : (s.setCtx c x).unresolved = s.unresolved := rfl
@[simp] theorem setCtx_pccVal (s : State) (c : Nat) (x : RingCtx) : (s.setCtx c x).pccVal = s.pccVal := rfl
@[simp] theorem setCtx_pccSel (s : State) (c : Nat) (x : RingCtx) : (s.setCtx c x).pccSel = s.pccSel := rfl
@[simp] theorem setCtx_homes (s : State) (c : Nat) (x : RingCtx) : (s.setCtx c x).homes = s.homes := rfl
@[simp] theorem setCtx_dirMem (s : State) (c : Nat) (x : RingCtx) : (s.setCtx c x).dirMem = s.dirMem := rfl
@[simp] theorem setCtx_dirCtl (s : State) (c : Nat) (x : RingCtx) : (s.setCtx c x).dirCtl = s.dirCtl := rfl
@[simp] theorem setCtx_disp (s : State) (c : Nat) (x : RingCtx) : (s.setCtx c x).disp = s.disp := rfl
@[simp] theorem setCtx_jrnOff (s : State) (c : Nat) (x : RingCtx) : (s.setCtx c x).jrnOff = s.jrnOff := rfl
@[simp] theorem setCtx_dirFilter (s : State) (c : Nat) (x : RingCtx) : (s.setCtx c x).dirFilter = s.dirFilter := rfl
@[simp] theorem setCtx_dirAge (s : State) (c : Nat) (x : RingCtx) : (s.setCtx c x).dirAge = s.dirAge := rfl
@[simp] theorem setCtx_dirScrubAt (s : State) (c : Nat) (x : RingCtx) : (s.setCtx c x).dirScrubAt = s.dirScrubAt := rfl
@[simp] theorem setCtx_dirCes (s : State) (c : Nat) (x : RingCtx) : (s.setCtx c x).dirCes = s.dirCes := rfl
@[simp] theorem setCtx_reshapeStart (s : State) (c : Nat) (x : RingCtx) : (s.setCtx c x).reshapeStart = s.reshapeStart := rfl
@[simp] theorem setCtx_reshapeEvicted (s : State) (c : Nat) (x : RingCtx) : (s.setCtx c x).reshapeEvicted = s.reshapeEvicted := rfl
@[simp] theorem setCtx_reshapeQueue (s : State) (c : Nat) (x : RingCtx) : (s.setCtx c x).reshapeQueue = s.reshapeQueue := rfl
@[simp] theorem setCtx_dirTicks (s : State) (c : Nat) (x : RingCtx) : (s.setCtx c x).dirTicks = s.dirTicks := rfl
@[simp] theorem setCtx_away (s : State) (c : Nat) (x : RingCtx) : (s.setCtx c x).away = s.away := rfl
@[simp] theorem setCtx_masks (s : State) (c : Nat) (x : RingCtx) : (s.setCtx c x).masks = s.masks := rfl
@[simp] theorem setCtx_written (s : State) (c : Nat) (x : RingCtx) : (s.setCtx c x).written = s.written := rfl
@[simp] theorem setCtx_keyCount (s : State) (c : Nat) (x : RingCtx) : (s.setCtx c x).keyCount = s.keyCount := rfl
@[simp] theorem setCtx_keyHalf (s : State) (c : Nat) (x : RingCtx) : (s.setCtx c x).keyHalf = s.keyHalf := rfl
@[simp] theorem setCtx_fillKey (s : State) (c : Nat) (x : RingCtx) : (s.setCtx c x).fillKey = s.fillKey := rfl
@[simp] theorem setCtx_lineKeys (s : State) (c : Nat) (x : RingCtx) : (s.setCtx c x).lineKeys = s.lineKeys := rfl
@[simp] theorem setCtx_dramBad (s : State) (c : Nat) (x : RingCtx) : (s.setCtx c x).dramBad = s.dramBad := rfl
@[simp] theorem setCtx_ports (s : State) (c : Nat) (x : RingCtx) : (s.setCtx c x).ports = s.ports := rfl
@[simp] theorem setCtx_ucq (s : State) (c : Nat) (x : RingCtx) : (s.setCtx c x).ucq = s.ucq := rfl
@[simp] theorem setCtx_portTok (s : State) (c : Nat) (x : RingCtx) : (s.setCtx c x).portTok = s.portTok := rfl
@[simp] theorem setCtx_readQ (s : State) (c : Nat) (x : RingCtx) : (s.setCtx c x).readQ = s.readQ := rfl
@[simp] theorem setCtx_admitTurn (s : State) (c : Nat) (x : RingCtx) : (s.setCtx c x).admitTurn = s.admitTurn := rfl
@[simp] theorem setCtx_minTok (s : State) (c : Nat) (x : RingCtx) : (s.setCtx c x).minTok = s.minTok := rfl
@[simp] theorem setCtx_maxTok (s : State) (c : Nat) (x : RingCtx) : (s.setCtx c x).maxTok = s.maxTok := rfl
@[simp] theorem setCtx_openRow (s : State) (c : Nat) (x : RingCtx) : (s.setCtx c x).openRow = s.openRow := rfl
@[simp] theorem setCtx_powerDown (s : State) (c : Nat) (x : RingCtx) : (s.setCtx c x).powerDown = s.powerDown := rfl
@[simp] theorem setCtx_selfRefresh (s : State) (c : Nat) (x : RingCtx) : (s.setCtx c x).selfRefresh = s.selfRefresh := rfl
@[simp] theorem setCtx_replays (s : State) (c : Nat) (x : RingCtx) : (s.setCtx c x).replays = s.replays := rfl
@[simp] theorem setCtx_pot (s : State) (c : Nat) (x : RingCtx) : (s.setCtx c x).pot = s.pot := rfl
@[simp] theorem setCtx_realms (s : State) (c : Nat) (x : RingCtx) : (s.setCtx c x).realms = s.realms := rfl
@[simp] theorem setCtx_memberJobs (s : State) (c : Nat) (x : RingCtx) : (s.setCtx c x).memberJobs = s.memberJobs := rfl
@[simp] theorem setCtx_domains (s : State) (c : Nat) (x : RingCtx) : (s.setCtx c x).domains = s.domains := rfl
@[simp] theorem setCtx_tlbiUnit (s : State) (c : Nat) (x : RingCtx) : (s.setCtx c x).tlbiUnit = s.tlbiUnit := rfl
@[simp] theorem setCtx_monitors (s : State) (c : Nat) (x : RingCtx) : (s.setCtx c x).monitors = s.monitors := rfl
@[simp] theorem setCtx_engines (s : State) (c : Nat) (x : RingCtx) : (s.setCtx c x).engines = s.engines := rfl
@[simp] theorem setCtx_ctxRuns (s : State) (c : Nat) (x : RingCtx) : (s.setCtx c x).ctxRuns = s.ctxRuns := rfl
@[simp] theorem setCtx_ctxJob (s : State) (c : Nat) (x : RingCtx) : (s.setCtx c x).ctxJob = s.ctxJob := rfl
@[simp] theorem setCtx_ctxBad (s : State) (c : Nat) (x : RingCtx) : (s.setCtx c x).ctxBad = s.ctxBad := rfl
@[simp] theorem setCtx_capUsed (s : State) (c : Nat) (x : RingCtx) : (s.setCtx c x).capUsed = s.capUsed := rfl
@[simp] theorem setCtx_capHeld (s : State) (c : Nat) (x : RingCtx) : (s.setCtx c x).capHeld = s.capHeld := rfl
@[simp] theorem setCtx_notice (s : State) (c : Nat) (x : RingCtx) : (s.setCtx c x).notice = s.notice := rfl
@[simp] theorem setCtx_links (s : State) (c : Nat) (x : RingCtx) : (s.setCtx c x).links = s.links := rfl
@[simp] theorem setCtx_image (s : State) (c : Nat) (x : RingCtx) : (s.setCtx c x).image = s.image := rfl
@[simp] theorem setCtx_completions (s : State) (c : Nat) (x : RingCtx) : (s.setCtx c x).completions = s.completions := rfl
@[simp] theorem setCtx_epf (s : State) (c : Nat) (x : RingCtx) : (s.setCtx c x).epf = s.epf := rfl
@[simp] theorem setCtx_inbound (s : State) (c : Nat) (x : RingCtx) : (s.setCtx c x).inbound = s.inbound := rfl
@[simp] theorem setCtx_mapDue (s : State) (c : Nat) (x : RingCtx) : (s.setCtx c x).mapDue = s.mapDue := rfl
@[simp] theorem setCtx_mapOld (s : State) (c : Nat) (x : RingCtx) : (s.setCtx c x).mapOld = s.mapOld := rfl
@[simp] theorem setCtx_devReads (s : State) (c : Nat) (x : RingCtx) : (s.setCtx c x).devReads = s.devReads := rfl
@[simp] theorem setCtx_devTag (s : State) (c : Nat) (x : RingCtx) : (s.setCtx c x).devTag = s.devTag := rfl
@[simp] theorem setCtx_rpOut (s : State) (c : Nat) (x : RingCtx) : (s.setCtx c x).rpOut = s.rpOut := rfl
@[simp] theorem setCtx_subsystem (s : State) (c : Nat) (x : RingCtx) : (s.setCtx c x).subsystem = s.subsystem := rfl
@[simp] theorem setCtx_dump (s : State) (c : Nat) (x : RingCtx) : (s.setCtx c x).dump = s.dump := rfl
@[simp] theorem setCtx_fuses (s : State) (c : Nat) (x : RingCtx) : (s.setCtx c x).fuses = s.fuses := rfl
@[simp] theorem setCtx_dieFuses (s : State) (c : Nat) (x : RingCtx) : (s.setCtx c x).dieFuses = s.dieFuses := rfl
@[simp] theorem setCtx_flash (s : State) (c : Nat) (x : RingCtx) : (s.setCtx c x).flash = s.flash := rfl
@[simp] theorem setCtx_sense (s : State) (c : Nat) (x : RingCtx) : (s.setCtx c x).sense = s.sense := rfl
@[simp] theorem setCtx_flashJob (s : State) (c : Nat) (x : RingCtx) : (s.setCtx c x).flashJob = s.flashJob := rfl
@[simp] theorem setCtx_drain (s : State) (c : Nat) (x : RingCtx) : (s.setCtx c x).drain = s.drain := rfl
@[simp] theorem setCtx_reshapeCmd (s : State) (c : Nat) (x : RingCtx) : (s.setCtx c x).reshapeCmd = s.reshapeCmd := rfl
@[simp] theorem setCtx_resetDue (s : State) (c : Nat) (x : RingCtx) : (s.setCtx c x).resetDue = s.resetDue := rfl
@[simp] theorem setCtx_bridges (s : State) (c : Nat) (x : RingCtx) : (s.setCtx c x).bridges = s.bridges := rfl
@[simp] theorem setCtx_meshHeld (s : State) (c : Nat) (x : RingCtx) : (s.setCtx c x).meshHeld = s.meshHeld := rfl
@[simp] theorem setCtx_meshTurn (s : State) (c : Nat) (x : RingCtx) : (s.setCtx c x).meshTurn = s.meshTurn := rfl
@[simp] theorem setCtx_parasol (s : State) (c : Nat) (x : RingCtx) : (s.setCtx c x).parasol = s.parasol := rfl
@[simp] theorem setCtx_ownerKeys (s : State) (c : Nat) (x : RingCtx) : (s.setCtx c x).ownerKeys = s.ownerKeys := rfl
@[simp] theorem setCtx_opNext (s : State) (c : Nat) (x : RingCtx) : (s.setCtx c x).opNext = s.opNext := rfl
@[simp] theorem setCtx_longOps (s : State) (c : Nat) (x : RingCtx) : (s.setCtx c x).longOps = s.longOps := rfl
@[simp] theorem setCtx_tops (s : State) (c : Nat) (x : RingCtx) : (s.setCtx c x).tops = s.tops := rfl
@[simp] theorem setCtx_chainDefault (s : State) (c : Nat) (x : RingCtx) : (s.setCtx c x).chainDefault = s.chainDefault := rfl
@[simp] theorem setCtx_alertN (s : State) (c : Nat) (x : RingCtx) : (s.setCtx c x).alertN = s.alertN := rfl
@[simp] theorem setCtx_thermtripN (s : State) (c : Nat) (x : RingCtx) : (s.setCtx c x).thermtripN = s.thermtripN := rfl
@[simp] theorem setCtx_mem (s : State) (c : Nat) (x : RingCtx) : (s.setCtx c x).mem = s.mem := rfl
@[simp] theorem setCtx_freeCount (s : State) (c : Nat) (x : RingCtx) : (s.setCtx c x).freeCount = s.freeCount := rfl
@[simp] theorem setEngine_pending (s : State) (e : Nat) (x : Engine) : (s.setEngine e x).pending = s.pending := rfl
@[simp] theorem setEngine_clause (s : State) (e : Nat) (x : Engine) : (s.setEngine e x).clause = s.clause := rfl
@[simp] theorem setEngine_phase (s : State) (e : Nat) (x : Engine) : (s.setEngine e x).phase = s.phase := rfl
@[simp] theorem setEngine_counting (s : State) (e : Nat) (x : Engine) : (s.setEngine e x).counting = s.counting := rfl
@[simp] theorem setEngine_regs (s : State) (e : Nat) (x : Engine) : (s.setEngine e x).regs = s.regs := rfl
@[simp] theorem setEngine_vaux (s : State) (e : Nat) (x : Engine) : (s.setEngine e x).vaux = s.vaux := rfl
@[simp] theorem setEngine_pwrGood (s : State) (e : Nat) (x : Engine) : (s.setEngine e x).pwrGood = s.pwrGood := rfl
@[simp] theorem setEngine_resetN (s : State) (e : Nat) (x : Engine) : (s.setEngine e x).resetN = s.resetN := rfl
@[simp] theorem setEngine_mgrStrap (s : State) (e : Nat) (x : Engine) : (s.setEngine e x).mgrStrap = s.mgrStrap := rfl
@[simp] theorem setEngine_stbyStrap (s : State) (e : Nat) (x : Engine) : (s.setEngine e x).stbyStrap = s.stbyStrap := rfl
@[simp] theorem setEngine_threads (s : State) (e : Nat) (x : Engine) : (s.setEngine e x).threads = s.threads := rfl
@[simp] theorem setEngine_cores (s : State) (e : Nat) (x : Engine) : (s.setEngine e x).cores = s.cores := rfl
@[simp] theorem setEngine_dies (s : State) (e : Nat) (x : Engine) : (s.setEngine e x).dies = s.dies := rfl
@[simp] theorem setEngine_sent (s : State) (e : Nat) (x : Engine) : (s.setEngine e x).sent = s.sent := rfl
@[simp] theorem setEngine_log (s : State) (e : Nat) (x : Engine) : (s.setEngine e x).log = s.log := rfl
@[simp] theorem setEngine_events (s : State) (e : Nat) (x : Engine) : (s.setEngine e x).events = s.events := rfl
@[simp] theorem setEngine_unresolved (s : State) (e : Nat) (x : Engine) : (s.setEngine e x).unresolved = s.unresolved := rfl
@[simp] theorem setEngine_pccVal (s : State) (e : Nat) (x : Engine) : (s.setEngine e x).pccVal = s.pccVal := rfl
@[simp] theorem setEngine_pccSel (s : State) (e : Nat) (x : Engine) : (s.setEngine e x).pccSel = s.pccSel := rfl
@[simp] theorem setEngine_homes (s : State) (e : Nat) (x : Engine) : (s.setEngine e x).homes = s.homes := rfl
@[simp] theorem setEngine_dirMem (s : State) (e : Nat) (x : Engine) : (s.setEngine e x).dirMem = s.dirMem := rfl
@[simp] theorem setEngine_dirCtl (s : State) (e : Nat) (x : Engine) : (s.setEngine e x).dirCtl = s.dirCtl := rfl
@[simp] theorem setEngine_disp (s : State) (e : Nat) (x : Engine) : (s.setEngine e x).disp = s.disp := rfl
@[simp] theorem setEngine_jrnOff (s : State) (e : Nat) (x : Engine) : (s.setEngine e x).jrnOff = s.jrnOff := rfl
@[simp] theorem setEngine_dirFilter (s : State) (e : Nat) (x : Engine) : (s.setEngine e x).dirFilter = s.dirFilter := rfl
@[simp] theorem setEngine_dirAge (s : State) (e : Nat) (x : Engine) : (s.setEngine e x).dirAge = s.dirAge := rfl
@[simp] theorem setEngine_dirScrubAt (s : State) (e : Nat) (x : Engine) : (s.setEngine e x).dirScrubAt = s.dirScrubAt := rfl
@[simp] theorem setEngine_dirCes (s : State) (e : Nat) (x : Engine) : (s.setEngine e x).dirCes = s.dirCes := rfl
@[simp] theorem setEngine_reshapeStart (s : State) (e : Nat) (x : Engine) : (s.setEngine e x).reshapeStart = s.reshapeStart := rfl
@[simp] theorem setEngine_reshapeEvicted (s : State) (e : Nat) (x : Engine) : (s.setEngine e x).reshapeEvicted = s.reshapeEvicted := rfl
@[simp] theorem setEngine_reshapeQueue (s : State) (e : Nat) (x : Engine) : (s.setEngine e x).reshapeQueue = s.reshapeQueue := rfl
@[simp] theorem setEngine_dirTicks (s : State) (e : Nat) (x : Engine) : (s.setEngine e x).dirTicks = s.dirTicks := rfl
@[simp] theorem setEngine_away (s : State) (e : Nat) (x : Engine) : (s.setEngine e x).away = s.away := rfl
@[simp] theorem setEngine_masks (s : State) (e : Nat) (x : Engine) : (s.setEngine e x).masks = s.masks := rfl
@[simp] theorem setEngine_written (s : State) (e : Nat) (x : Engine) : (s.setEngine e x).written = s.written := rfl
@[simp] theorem setEngine_keyCount (s : State) (e : Nat) (x : Engine) : (s.setEngine e x).keyCount = s.keyCount := rfl
@[simp] theorem setEngine_keyHalf (s : State) (e : Nat) (x : Engine) : (s.setEngine e x).keyHalf = s.keyHalf := rfl
@[simp] theorem setEngine_fillKey (s : State) (e : Nat) (x : Engine) : (s.setEngine e x).fillKey = s.fillKey := rfl
@[simp] theorem setEngine_lineKeys (s : State) (e : Nat) (x : Engine) : (s.setEngine e x).lineKeys = s.lineKeys := rfl
@[simp] theorem setEngine_dramBad (s : State) (e : Nat) (x : Engine) : (s.setEngine e x).dramBad = s.dramBad := rfl
@[simp] theorem setEngine_ports (s : State) (e : Nat) (x : Engine) : (s.setEngine e x).ports = s.ports := rfl
@[simp] theorem setEngine_ucq (s : State) (e : Nat) (x : Engine) : (s.setEngine e x).ucq = s.ucq := rfl
@[simp] theorem setEngine_portTok (s : State) (e : Nat) (x : Engine) : (s.setEngine e x).portTok = s.portTok := rfl
@[simp] theorem setEngine_readQ (s : State) (e : Nat) (x : Engine) : (s.setEngine e x).readQ = s.readQ := rfl
@[simp] theorem setEngine_admitTurn (s : State) (e : Nat) (x : Engine) : (s.setEngine e x).admitTurn = s.admitTurn := rfl
@[simp] theorem setEngine_minTok (s : State) (e : Nat) (x : Engine) : (s.setEngine e x).minTok = s.minTok := rfl
@[simp] theorem setEngine_maxTok (s : State) (e : Nat) (x : Engine) : (s.setEngine e x).maxTok = s.maxTok := rfl
@[simp] theorem setEngine_openRow (s : State) (e : Nat) (x : Engine) : (s.setEngine e x).openRow = s.openRow := rfl
@[simp] theorem setEngine_powerDown (s : State) (e : Nat) (x : Engine) : (s.setEngine e x).powerDown = s.powerDown := rfl
@[simp] theorem setEngine_selfRefresh (s : State) (e : Nat) (x : Engine) : (s.setEngine e x).selfRefresh = s.selfRefresh := rfl
@[simp] theorem setEngine_replays (s : State) (e : Nat) (x : Engine) : (s.setEngine e x).replays = s.replays := rfl
@[simp] theorem setEngine_pot (s : State) (e : Nat) (x : Engine) : (s.setEngine e x).pot = s.pot := rfl
@[simp] theorem setEngine_realms (s : State) (e : Nat) (x : Engine) : (s.setEngine e x).realms = s.realms := rfl
@[simp] theorem setEngine_memberJobs (s : State) (e : Nat) (x : Engine) : (s.setEngine e x).memberJobs = s.memberJobs := rfl
@[simp] theorem setEngine_domains (s : State) (e : Nat) (x : Engine) : (s.setEngine e x).domains = s.domains := rfl
@[simp] theorem setEngine_tlbiUnit (s : State) (e : Nat) (x : Engine) : (s.setEngine e x).tlbiUnit = s.tlbiUnit := rfl
@[simp] theorem setEngine_ctxs (s : State) (e : Nat) (x : Engine) : (s.setEngine e x).ctxs = s.ctxs := rfl
@[simp] theorem setEngine_monitors (s : State) (e : Nat) (x : Engine) : (s.setEngine e x).monitors = s.monitors := rfl
@[simp] theorem setEngine_ctxRuns (s : State) (e : Nat) (x : Engine) : (s.setEngine e x).ctxRuns = s.ctxRuns := rfl
@[simp] theorem setEngine_ctxJob (s : State) (e : Nat) (x : Engine) : (s.setEngine e x).ctxJob = s.ctxJob := rfl
@[simp] theorem setEngine_ctxBad (s : State) (e : Nat) (x : Engine) : (s.setEngine e x).ctxBad = s.ctxBad := rfl
@[simp] theorem setEngine_capUsed (s : State) (e : Nat) (x : Engine) : (s.setEngine e x).capUsed = s.capUsed := rfl
@[simp] theorem setEngine_capHeld (s : State) (e : Nat) (x : Engine) : (s.setEngine e x).capHeld = s.capHeld := rfl
@[simp] theorem setEngine_notice (s : State) (e : Nat) (x : Engine) : (s.setEngine e x).notice = s.notice := rfl
@[simp] theorem setEngine_links (s : State) (e : Nat) (x : Engine) : (s.setEngine e x).links = s.links := rfl
@[simp] theorem setEngine_image (s : State) (e : Nat) (x : Engine) : (s.setEngine e x).image = s.image := rfl
@[simp] theorem setEngine_completions (s : State) (e : Nat) (x : Engine) : (s.setEngine e x).completions = s.completions := rfl
@[simp] theorem setEngine_epf (s : State) (e : Nat) (x : Engine) : (s.setEngine e x).epf = s.epf := rfl
@[simp] theorem setEngine_inbound (s : State) (e : Nat) (x : Engine) : (s.setEngine e x).inbound = s.inbound := rfl
@[simp] theorem setEngine_mapDue (s : State) (e : Nat) (x : Engine) : (s.setEngine e x).mapDue = s.mapDue := rfl
@[simp] theorem setEngine_mapOld (s : State) (e : Nat) (x : Engine) : (s.setEngine e x).mapOld = s.mapOld := rfl
@[simp] theorem setEngine_devReads (s : State) (e : Nat) (x : Engine) : (s.setEngine e x).devReads = s.devReads := rfl
@[simp] theorem setEngine_devTag (s : State) (e : Nat) (x : Engine) : (s.setEngine e x).devTag = s.devTag := rfl
@[simp] theorem setEngine_rpOut (s : State) (e : Nat) (x : Engine) : (s.setEngine e x).rpOut = s.rpOut := rfl
@[simp] theorem setEngine_subsystem (s : State) (e : Nat) (x : Engine) : (s.setEngine e x).subsystem = s.subsystem := rfl
@[simp] theorem setEngine_dump (s : State) (e : Nat) (x : Engine) : (s.setEngine e x).dump = s.dump := rfl
@[simp] theorem setEngine_fuses (s : State) (e : Nat) (x : Engine) : (s.setEngine e x).fuses = s.fuses := rfl
@[simp] theorem setEngine_dieFuses (s : State) (e : Nat) (x : Engine) : (s.setEngine e x).dieFuses = s.dieFuses := rfl
@[simp] theorem setEngine_flash (s : State) (e : Nat) (x : Engine) : (s.setEngine e x).flash = s.flash := rfl
@[simp] theorem setEngine_sense (s : State) (e : Nat) (x : Engine) : (s.setEngine e x).sense = s.sense := rfl
@[simp] theorem setEngine_flashJob (s : State) (e : Nat) (x : Engine) : (s.setEngine e x).flashJob = s.flashJob := rfl
@[simp] theorem setEngine_drain (s : State) (e : Nat) (x : Engine) : (s.setEngine e x).drain = s.drain := rfl
@[simp] theorem setEngine_reshapeCmd (s : State) (e : Nat) (x : Engine) : (s.setEngine e x).reshapeCmd = s.reshapeCmd := rfl
@[simp] theorem setEngine_resetDue (s : State) (e : Nat) (x : Engine) : (s.setEngine e x).resetDue = s.resetDue := rfl
@[simp] theorem setEngine_bridges (s : State) (e : Nat) (x : Engine) : (s.setEngine e x).bridges = s.bridges := rfl
@[simp] theorem setEngine_meshHeld (s : State) (e : Nat) (x : Engine) : (s.setEngine e x).meshHeld = s.meshHeld := rfl
@[simp] theorem setEngine_meshTurn (s : State) (e : Nat) (x : Engine) : (s.setEngine e x).meshTurn = s.meshTurn := rfl
@[simp] theorem setEngine_parasol (s : State) (e : Nat) (x : Engine) : (s.setEngine e x).parasol = s.parasol := rfl
@[simp] theorem setEngine_ownerKeys (s : State) (e : Nat) (x : Engine) : (s.setEngine e x).ownerKeys = s.ownerKeys := rfl
@[simp] theorem setEngine_opNext (s : State) (e : Nat) (x : Engine) : (s.setEngine e x).opNext = s.opNext := rfl
@[simp] theorem setEngine_longOps (s : State) (e : Nat) (x : Engine) : (s.setEngine e x).longOps = s.longOps := rfl
@[simp] theorem setEngine_tops (s : State) (e : Nat) (x : Engine) : (s.setEngine e x).tops = s.tops := rfl
@[simp] theorem setEngine_chainDefault (s : State) (e : Nat) (x : Engine) : (s.setEngine e x).chainDefault = s.chainDefault := rfl
@[simp] theorem setEngine_alertN (s : State) (e : Nat) (x : Engine) : (s.setEngine e x).alertN = s.alertN := rfl
@[simp] theorem setEngine_thermtripN (s : State) (e : Nat) (x : Engine) : (s.setEngine e x).thermtripN = s.thermtripN := rfl
@[simp] theorem setEngine_mem (s : State) (e : Nat) (x : Engine) : (s.setEngine e x).mem = s.mem := rfl
@[simp] theorem setEngine_freeCount (s : State) (e : Nat) (x : Engine) : (s.setEngine e x).freeCount = s.freeCount := rfl
@[simp] theorem writeMem_pending (s : State) (a : Nat) (l : Line) : (s.writeMem a l).pending = s.pending := by simp only [State.writeMem]
@[simp] theorem writeMem_clause (s : State) (a : Nat) (l : Line) : (s.writeMem a l).clause = s.clause := by simp only [State.writeMem]
@[simp] theorem writeMem_phase (s : State) (a : Nat) (l : Line) : (s.writeMem a l).phase = s.phase := by simp only [State.writeMem]
@[simp] theorem writeMem_counting (s : State) (a : Nat) (l : Line) : (s.writeMem a l).counting = s.counting := by simp only [State.writeMem]
@[simp] theorem writeMem_regs (s : State) (a : Nat) (l : Line) : (s.writeMem a l).regs = s.regs := by simp only [State.writeMem]
@[simp] theorem writeMem_vaux (s : State) (a : Nat) (l : Line) : (s.writeMem a l).vaux = s.vaux := by simp only [State.writeMem]
@[simp] theorem writeMem_pwrGood (s : State) (a : Nat) (l : Line) : (s.writeMem a l).pwrGood = s.pwrGood := by simp only [State.writeMem]
@[simp] theorem writeMem_resetN (s : State) (a : Nat) (l : Line) : (s.writeMem a l).resetN = s.resetN := by simp only [State.writeMem]
@[simp] theorem writeMem_mgrStrap (s : State) (a : Nat) (l : Line) : (s.writeMem a l).mgrStrap = s.mgrStrap := by simp only [State.writeMem]
@[simp] theorem writeMem_stbyStrap (s : State) (a : Nat) (l : Line) : (s.writeMem a l).stbyStrap = s.stbyStrap := by simp only [State.writeMem]
@[simp] theorem writeMem_threads (s : State) (a : Nat) (l : Line) : (s.writeMem a l).threads = s.threads := by simp only [State.writeMem]
@[simp] theorem writeMem_cores (s : State) (a : Nat) (l : Line) : (s.writeMem a l).cores = s.cores := by simp only [State.writeMem]
@[simp] theorem writeMem_dies (s : State) (a : Nat) (l : Line) : (s.writeMem a l).dies = s.dies := by simp only [State.writeMem]
@[simp] theorem writeMem_sent (s : State) (a : Nat) (l : Line) : (s.writeMem a l).sent = s.sent := by simp only [State.writeMem]
@[simp] theorem writeMem_log (s : State) (a : Nat) (l : Line) : (s.writeMem a l).log = s.log := by simp only [State.writeMem]
@[simp] theorem writeMem_events (s : State) (a : Nat) (l : Line) : (s.writeMem a l).events = s.events := by simp only [State.writeMem]
@[simp] theorem writeMem_unresolved (s : State) (a : Nat) (l : Line) : (s.writeMem a l).unresolved = s.unresolved := by simp only [State.writeMem]
@[simp] theorem writeMem_pccVal (s : State) (a : Nat) (l : Line) : (s.writeMem a l).pccVal = s.pccVal := by simp only [State.writeMem]
@[simp] theorem writeMem_pccSel (s : State) (a : Nat) (l : Line) : (s.writeMem a l).pccSel = s.pccSel := by simp only [State.writeMem]
@[simp] theorem writeMem_homes (s : State) (a : Nat) (l : Line) : (s.writeMem a l).homes = s.homes := by simp only [State.writeMem]
@[simp] theorem writeMem_dirMem (s : State) (a : Nat) (l : Line) : (s.writeMem a l).dirMem = s.dirMem := by simp only [State.writeMem]
@[simp] theorem writeMem_dirCtl (s : State) (a : Nat) (l : Line) : (s.writeMem a l).dirCtl = s.dirCtl := by simp only [State.writeMem]
@[simp] theorem writeMem_disp (s : State) (a : Nat) (l : Line) : (s.writeMem a l).disp = s.disp := by simp only [State.writeMem]
@[simp] theorem writeMem_jrnOff (s : State) (a : Nat) (l : Line) : (s.writeMem a l).jrnOff = s.jrnOff := by simp only [State.writeMem]
@[simp] theorem writeMem_dirFilter (s : State) (a : Nat) (l : Line) : (s.writeMem a l).dirFilter = s.dirFilter := by simp only [State.writeMem]
@[simp] theorem writeMem_dirAge (s : State) (a : Nat) (l : Line) : (s.writeMem a l).dirAge = s.dirAge := by simp only [State.writeMem]
@[simp] theorem writeMem_dirScrubAt (s : State) (a : Nat) (l : Line) : (s.writeMem a l).dirScrubAt = s.dirScrubAt := by simp only [State.writeMem]
@[simp] theorem writeMem_dirCes (s : State) (a : Nat) (l : Line) : (s.writeMem a l).dirCes = s.dirCes := by simp only [State.writeMem]
@[simp] theorem writeMem_reshapeStart (s : State) (a : Nat) (l : Line) : (s.writeMem a l).reshapeStart = s.reshapeStart := by simp only [State.writeMem]
@[simp] theorem writeMem_reshapeEvicted (s : State) (a : Nat) (l : Line) : (s.writeMem a l).reshapeEvicted = s.reshapeEvicted := by simp only [State.writeMem]
@[simp] theorem writeMem_reshapeQueue (s : State) (a : Nat) (l : Line) : (s.writeMem a l).reshapeQueue = s.reshapeQueue := by simp only [State.writeMem]
@[simp] theorem writeMem_dirTicks (s : State) (a : Nat) (l : Line) : (s.writeMem a l).dirTicks = s.dirTicks := by simp only [State.writeMem]
@[simp] theorem writeMem_away (s : State) (a : Nat) (l : Line) : (s.writeMem a l).away = s.away := by simp only [State.writeMem]
@[simp] theorem writeMem_masks (s : State) (a : Nat) (l : Line) : (s.writeMem a l).masks = s.masks := by simp only [State.writeMem]
@[simp] theorem writeMem_written (s : State) (a : Nat) (l : Line) : (s.writeMem a l).written = s.written := by simp only [State.writeMem]
@[simp] theorem writeMem_keyCount (s : State) (a : Nat) (l : Line) : (s.writeMem a l).keyCount = s.keyCount := by simp only [State.writeMem]
@[simp] theorem writeMem_keyHalf (s : State) (a : Nat) (l : Line) : (s.writeMem a l).keyHalf = s.keyHalf := by simp only [State.writeMem]
@[simp] theorem writeMem_fillKey (s : State) (a : Nat) (l : Line) : (s.writeMem a l).fillKey = s.fillKey := by simp only [State.writeMem]
@[simp] theorem writeMem_lineKeys (s : State) (a : Nat) (l : Line) : (s.writeMem a l).lineKeys = s.lineKeys := by simp only [State.writeMem]
@[simp] theorem writeMem_dramBad (s : State) (a : Nat) (l : Line) : (s.writeMem a l).dramBad = s.dramBad := by simp only [State.writeMem]
@[simp] theorem writeMem_ports (s : State) (a : Nat) (l : Line) : (s.writeMem a l).ports = s.ports := by simp only [State.writeMem]
@[simp] theorem writeMem_ucq (s : State) (a : Nat) (l : Line) : (s.writeMem a l).ucq = s.ucq := by simp only [State.writeMem]
@[simp] theorem writeMem_portTok (s : State) (a : Nat) (l : Line) : (s.writeMem a l).portTok = s.portTok := by simp only [State.writeMem]
@[simp] theorem writeMem_readQ (s : State) (a : Nat) (l : Line) : (s.writeMem a l).readQ = s.readQ := by simp only [State.writeMem]
@[simp] theorem writeMem_admitTurn (s : State) (a : Nat) (l : Line) : (s.writeMem a l).admitTurn = s.admitTurn := by simp only [State.writeMem]
@[simp] theorem writeMem_minTok (s : State) (a : Nat) (l : Line) : (s.writeMem a l).minTok = s.minTok := by simp only [State.writeMem]
@[simp] theorem writeMem_maxTok (s : State) (a : Nat) (l : Line) : (s.writeMem a l).maxTok = s.maxTok := by simp only [State.writeMem]
@[simp] theorem writeMem_openRow (s : State) (a : Nat) (l : Line) : (s.writeMem a l).openRow = s.openRow := by simp only [State.writeMem]
@[simp] theorem writeMem_powerDown (s : State) (a : Nat) (l : Line) : (s.writeMem a l).powerDown = s.powerDown := by simp only [State.writeMem]
@[simp] theorem writeMem_selfRefresh (s : State) (a : Nat) (l : Line) : (s.writeMem a l).selfRefresh = s.selfRefresh := by simp only [State.writeMem]
@[simp] theorem writeMem_replays (s : State) (a : Nat) (l : Line) : (s.writeMem a l).replays = s.replays := by simp only [State.writeMem]
@[simp] theorem writeMem_pot (s : State) (a : Nat) (l : Line) : (s.writeMem a l).pot = s.pot := by simp only [State.writeMem]
@[simp] theorem writeMem_realms (s : State) (a : Nat) (l : Line) : (s.writeMem a l).realms = s.realms := by simp only [State.writeMem]
@[simp] theorem writeMem_memberJobs (s : State) (a : Nat) (l : Line) : (s.writeMem a l).memberJobs = s.memberJobs := by simp only [State.writeMem]
@[simp] theorem writeMem_domains (s : State) (a : Nat) (l : Line) : (s.writeMem a l).domains = s.domains := by simp only [State.writeMem]
@[simp] theorem writeMem_tlbiUnit (s : State) (a : Nat) (l : Line) : (s.writeMem a l).tlbiUnit = s.tlbiUnit := by simp only [State.writeMem]
@[simp] theorem writeMem_ctxs (s : State) (a : Nat) (l : Line) : (s.writeMem a l).ctxs = s.ctxs := by simp only [State.writeMem]
@[simp] theorem writeMem_monitors (s : State) (a : Nat) (l : Line) : (s.writeMem a l).monitors = s.monitors := by simp only [State.writeMem]
@[simp] theorem writeMem_engines (s : State) (a : Nat) (l : Line) : (s.writeMem a l).engines = s.engines := by simp only [State.writeMem]
@[simp] theorem writeMem_ctxRuns (s : State) (a : Nat) (l : Line) : (s.writeMem a l).ctxRuns = s.ctxRuns := by simp only [State.writeMem]
@[simp] theorem writeMem_ctxJob (s : State) (a : Nat) (l : Line) : (s.writeMem a l).ctxJob = s.ctxJob := by simp only [State.writeMem]
@[simp] theorem writeMem_ctxBad (s : State) (a : Nat) (l : Line) : (s.writeMem a l).ctxBad = s.ctxBad := by simp only [State.writeMem]
@[simp] theorem writeMem_capUsed (s : State) (a : Nat) (l : Line) : (s.writeMem a l).capUsed = s.capUsed := by simp only [State.writeMem]
@[simp] theorem writeMem_capHeld (s : State) (a : Nat) (l : Line) : (s.writeMem a l).capHeld = s.capHeld := by simp only [State.writeMem]
@[simp] theorem writeMem_notice (s : State) (a : Nat) (l : Line) : (s.writeMem a l).notice = s.notice := by simp only [State.writeMem]
@[simp] theorem writeMem_links (s : State) (a : Nat) (l : Line) : (s.writeMem a l).links = s.links := by simp only [State.writeMem]
@[simp] theorem writeMem_image (s : State) (a : Nat) (l : Line) : (s.writeMem a l).image = s.image := by simp only [State.writeMem]
@[simp] theorem writeMem_completions (s : State) (a : Nat) (l : Line) : (s.writeMem a l).completions = s.completions := by simp only [State.writeMem]
@[simp] theorem writeMem_epf (s : State) (a : Nat) (l : Line) : (s.writeMem a l).epf = s.epf := by simp only [State.writeMem]
@[simp] theorem writeMem_inbound (s : State) (a : Nat) (l : Line) : (s.writeMem a l).inbound = s.inbound := by simp only [State.writeMem]
@[simp] theorem writeMem_mapDue (s : State) (a : Nat) (l : Line) : (s.writeMem a l).mapDue = s.mapDue := by simp only [State.writeMem]
@[simp] theorem writeMem_mapOld (s : State) (a : Nat) (l : Line) : (s.writeMem a l).mapOld = s.mapOld := by simp only [State.writeMem]
@[simp] theorem writeMem_devReads (s : State) (a : Nat) (l : Line) : (s.writeMem a l).devReads = s.devReads := by simp only [State.writeMem]
@[simp] theorem writeMem_devTag (s : State) (a : Nat) (l : Line) : (s.writeMem a l).devTag = s.devTag := by simp only [State.writeMem]
@[simp] theorem writeMem_rpOut (s : State) (a : Nat) (l : Line) : (s.writeMem a l).rpOut = s.rpOut := by simp only [State.writeMem]
@[simp] theorem writeMem_subsystem (s : State) (a : Nat) (l : Line) : (s.writeMem a l).subsystem = s.subsystem := by simp only [State.writeMem]
@[simp] theorem writeMem_dump (s : State) (a : Nat) (l : Line) : (s.writeMem a l).dump = s.dump := by simp only [State.writeMem]
@[simp] theorem writeMem_fuses (s : State) (a : Nat) (l : Line) : (s.writeMem a l).fuses = s.fuses := by simp only [State.writeMem]
@[simp] theorem writeMem_dieFuses (s : State) (a : Nat) (l : Line) : (s.writeMem a l).dieFuses = s.dieFuses := by simp only [State.writeMem]
@[simp] theorem writeMem_flash (s : State) (a : Nat) (l : Line) : (s.writeMem a l).flash = s.flash := by simp only [State.writeMem]
@[simp] theorem writeMem_sense (s : State) (a : Nat) (l : Line) : (s.writeMem a l).sense = s.sense := by simp only [State.writeMem]
@[simp] theorem writeMem_flashJob (s : State) (a : Nat) (l : Line) : (s.writeMem a l).flashJob = s.flashJob := by simp only [State.writeMem]
@[simp] theorem writeMem_drain (s : State) (a : Nat) (l : Line) : (s.writeMem a l).drain = s.drain := by simp only [State.writeMem]
@[simp] theorem writeMem_reshapeCmd (s : State) (a : Nat) (l : Line) : (s.writeMem a l).reshapeCmd = s.reshapeCmd := by simp only [State.writeMem]
@[simp] theorem writeMem_resetDue (s : State) (a : Nat) (l : Line) : (s.writeMem a l).resetDue = s.resetDue := by simp only [State.writeMem]
@[simp] theorem writeMem_bridges (s : State) (a : Nat) (l : Line) : (s.writeMem a l).bridges = s.bridges := by simp only [State.writeMem]
@[simp] theorem writeMem_meshHeld (s : State) (a : Nat) (l : Line) : (s.writeMem a l).meshHeld = s.meshHeld := by simp only [State.writeMem]
@[simp] theorem writeMem_meshTurn (s : State) (a : Nat) (l : Line) : (s.writeMem a l).meshTurn = s.meshTurn := by simp only [State.writeMem]
@[simp] theorem writeMem_parasol (s : State) (a : Nat) (l : Line) : (s.writeMem a l).parasol = s.parasol := by simp only [State.writeMem]
@[simp] theorem writeMem_ownerKeys (s : State) (a : Nat) (l : Line) : (s.writeMem a l).ownerKeys = s.ownerKeys := by simp only [State.writeMem]
@[simp] theorem writeMem_opNext (s : State) (a : Nat) (l : Line) : (s.writeMem a l).opNext = s.opNext := by simp only [State.writeMem]
@[simp] theorem writeMem_longOps (s : State) (a : Nat) (l : Line) : (s.writeMem a l).longOps = s.longOps := by simp only [State.writeMem]
@[simp] theorem writeMem_tops (s : State) (a : Nat) (l : Line) : (s.writeMem a l).tops = s.tops := by simp only [State.writeMem]
@[simp] theorem writeMem_chainDefault (s : State) (a : Nat) (l : Line) : (s.writeMem a l).chainDefault = s.chainDefault := by simp only [State.writeMem]
@[simp] theorem writeMem_alertN (s : State) (a : Nat) (l : Line) : (s.writeMem a l).alertN = s.alertN := by simp only [State.writeMem]
@[simp] theorem writeMem_thermtripN (s : State) (a : Nat) (l : Line) : (s.writeMem a l).thermtripN = s.thermtripN := by simp only [State.writeMem]
@[simp] theorem writeMem_freeCount (s : State) (a : Nat) (l : Line) : (s.writeMem a l).freeCount = s.freeCount := by simp only [State.writeMem]

end Sys2Proof.Machine
end

