-- ==== Sys2Proof/Laws/Run.lean ====
section
/-! SUPPORT. What the shared operations of an instruction do: counting, retiring, and the end of an instruction that writes registers
of its own thread. -/
set_option Elab.async false
namespace Sys2Proof.Machine
open Sys2Proof

/-! ## Frames -/

@[simp] theorem outside_modThread (s : State) (t : Nat) (f : Thread → Thread) : (s.modThread t f).outside = s.outside := rfl
@[simp] theorem outside_modCore (s : State) (c : Nat) (f : Core → Core) : (s.modCore c f).outside = s.outside := rfl
@[simp] theorem outside_setPccV (s : State) (j : Nat) (w : Word) : (s.setPccV j w).outside = s.outside := rfl

@[simp] theorem thread_modCore (s : State) (c t : Nat) (f : Core → Core) : (s.modCore c f).thread t = s.thread t := rfl
@[simp] theorem core_modThread (s : State) (c t : Nat) (f : Thread → Thread) : (s.modThread t f).core c = s.core c := rfl
theorem modThread_thread_self (s : State) (t : Nat) (f : Thread → Thread) : (s.modThread t f).thread t = f (s.thread t) := by simp

theorem samplesOnly_of_events {s u : State} (h : u.events = s.events) : s.samplesOnly u := ⟨[], by simp [h], by simp⟩

theorem samplesOnly_trans {a b c : State} (h : a.samplesOnly b) (k : b.samplesOnly c) : a.samplesOnly c := by
  obtain ⟨l, e, hl⟩ := h
  obtain ⟨m, f, hm⟩ := k
  exact ⟨l ++ m, by rw [f, e, List.append_assoc], fun x hx => (List.mem_append.mp hx).elim (hl x) (hm x)⟩

theorem onlyThread_refl (s : State) (t : Nat) : s.onlyThread s t := ⟨rfl, samplesOnly_of_events rfl, fun _ _ => rfl, fun _ => rfl⟩

theorem onlyThread_trans {a b c : State} {t : Nat} (h : a.onlyThread b t) (k : b.onlyThread c t) : a.onlyThread c t :=
  ⟨k.1.trans h.1, samplesOnly_trans h.2.1 k.2.1, fun t' ht => (k.2.2.1 t' ht).trans (h.2.2.1 t' ht),
    fun i => (k.2.2.2 i).trans (h.2.2.2 i)⟩

theorem onlyThread_modThread (s : State) (t : Nat) (f : Thread → Thread) : s.onlyThread (s.modThread t f) t :=
  ⟨rfl, samplesOnly_of_events rfl, fun t' ht => by simp [ht], fun _ => rfl⟩

theorem onlyThread_sample (s : State) (c t : Nat) (w : Word) : s.onlyThread (s.modCore c (fun k => { k with pcsample := w })) t := by
  refine ⟨rfl, samplesOnly_of_events rfl, fun _ _ => rfl, fun i => ?_⟩
  by_cases h : i = c
  · subst h; simp [Core.unsampled]
  · simp [h]

theorem onlyThread_setPccV (s : State) (j : Nat) (w : Word) (t : Nat) : s.onlyThread (s.setPccV j w) t :=
  ⟨rfl, samplesOnly_of_events rfl, fun _ _ => rfl, fun _ => rfl⟩

/-! ## Counting -/

/-- Counting writes counters, and at most asks for a sampling interrupt. -/
def State.countsOnly (s u : State) (t : Nat) : Prop := s.onlyThread u t ∧ u.thread t = s.thread t

theorem countsOnly_refl (s : State) (t : Nat) : s.countsOnly s t := ⟨onlyThread_refl s t, rfl⟩

theorem countsOnly_trans {a b c : State} {t : Nat} (h : a.countsOnly b t) (k : b.countsOnly c t) : a.countsOnly c t := by
  refine ⟨onlyThread_trans h.1 k.1, ?_⟩
  rw [k.2, h.2]

theorem bump_countsOnly (s : State) (i j n t : Nat) : s.countsOnly (s.bump i j n).1 t := by
  unfold State.bump
  dsimp only
  split
  · exact ⟨onlyThread_setPccV _ _ _ _, rfl⟩
  · split <;> exact ⟨onlyThread_trans (onlyThread_setPccV _ _ _ _) (onlyThread_setPccV _ _ _ _), rfl⟩

theorem samplingInterrupt_countsOnly (s : State) (t i : Nat) (e : Option (BitVec 57)) : s.countsOnly (s.samplingInterrupt t i e) t := by
  unfold State.samplingInterrupt
  dsimp only
  split
  · split
    all_goals exact ⟨onlyThread_trans (onlyThread_sample s _ _ _) ⟨rfl, ⟨_, rfl, by simp [Event.samples]⟩, fun _ _ => rfl, fun _ => rfl⟩, rfl⟩
  · exact countsOnly_refl s t

theorem countFrom_countsOnly (s : State) (t ev n : Nat) (e : Option (BitVec 57)) (i k : Nat) : s.countsOnly (s.countFrom t ev n e i k) t := by
  induction k generalizing s i with
  | zero => exact countsOnly_refl s t
  | succ k ih =>
    unfold State.countFrom
    refine countsOnly_trans ?_ (ih _ _)
    split
    · dsimp only
      split
      · exact countsOnly_trans (bump_countsOnly _ _ _ _ _) (samplingInterrupt_countsOnly _ _ _ _)
      · exact bump_countsOnly _ _ _ _ _
    · exact countsOnly_refl s t

/-- An event counted changes counters alone. -/
theorem countEv_countsOnly (s : State) (t ev : Nat) (x : Bool) : s.countsOnly (s.countEv t ev x) t := by
  unfold State.countEv
  split
  · exact countsOnly_refl s t
  · exact countFrom_countsOnly _ _ _ _ _ _ _

theorem countMem_countsOnly (s : State) (t : Nat) (l w : Bool) : s.countsOnly (s.countMem t l w) t := by
  unfold State.countMem
  dsimp only
  have h (c : Prop) [Decidable c] (u : State) (ev : Nat) : u.countsOnly (if c then u.countEv t ev else u) t := by
    split
    · exact countEv_countsOnly _ _ _ _
    · exact countsOnly_refl _ _
  exact countsOnly_trans (countsOnly_trans (countsOnly_trans (countsOnly_trans (h _ _ _) (h _ _ _)) (h _ _ _)) (h _ _ _)) (h _ _ _)

/-! ## Retiring -/

@[simp] theorem gpr_setGpr (y : Thread) (rd r : BitVec 5) (w : Word) : (y.setGpr rd w).gpr r = if r = rd ∧ r ≠ 0 then w else y.gpr r := by
  unfold Thread.setGpr Thread.gpr
  by_cases h : rd = 0
  · subst h; by_cases h2 : r = 0 <;> simp [h2]
  · rw [if_neg h]
    by_cases h2 : r = 0
    · simp [h2]
    · simp only [h2, if_false, Tbl_get_set, not_false_eq_true, ne_eq, and_true]
      by_cases h3 : r = rd
      · subst h3; simp
      · have : r.toNat ≠ rd.toNat := fun e => h3 (BitVec.eq_of_toNat_eq e)
        simp [h3, this]

/-- What a retiring instruction leaves of its thread, and where it goes on. -/
theorem retireTo_spec (s : State) (t : Nat) (pc : BitVec 57) (slot : Option (BitVec 57)) :
    s.onlyRegs (s.retireTo t pc slot) t ∧ (∀ r, ((s.retireTo t pc slot).thread t).gpr r = (s.thread t).gpr r) ∧
      ((s.retireTo t pc slot).thread t).goesTo pc slot := by
  have h := countEv_countsOnly s t 0x03 true
  unfold State.retireTo
  refine ⟨⟨onlyThread_trans h.1 (onlyThread_modThread _ _ _), ?_⟩, fun r => ?_, ?_⟩
  · simp only [modThread_thread_self]; rw [h.2]; rfl
  · simp only [modThread_thread_self]; rw [h.2]; rfl
  · simp only [modThread_thread_self]; exact ⟨rfl, rfl⟩

theorem onlyRegs_trans {a b c : State} {t : Nat} (h : a.onlyRegs b t) (k : b.onlyRegs c t) : a.onlyRegs c t :=
  ⟨onlyThread_trans h.1 k.1, k.2.trans h.2⟩

/-- A transfer of control (R66). -/
theorem retireTo_jumps (s : State) (t : Nat) (pc : BitVec 57) (slot : Option (BitVec 57)) : s.jumps (s.retireTo t pc slot) t pc slot :=
  retireTo_spec s t pc slot

theorem special_setGpr (y : Thread) (rd : BitVec 5) (w : Word) : (y.setGpr rd w).special = y.special := by
  unfold Thread.setGpr; split <;> rfl
theorem pc_setGpr (y : Thread) (rd : BitVec 5) (w : Word) : (y.setGpr rd w).pc = y.pc := by unfold Thread.setGpr; split <;> rfl
theorem slot_setGpr (y : Thread) (rd : BitVec 5) (w : Word) : (y.setGpr rd w).slot = y.slot := by unfold Thread.setGpr; split <;> rfl
theorem nextPc_setGpr (y : Thread) (rd : BitVec 5) (w : Word) : (y.setGpr rd w).nextPc = y.nextPc := by
  unfold Thread.nextPc; rw [slot_setGpr, pc_setGpr]

/-- The end of an instruction that writes rd. -/
theorem finish_computes (s : State) (t : Nat) (rd : BitVec 5) (w : Word) : s.computes (s.finish t (fun y => y.setGpr rd w)) t rd w := by
  have h := retireTo_spec (s.modThread t (fun y => y.setGpr rd w)) t ((s.modThread t (fun y => y.setGpr rd w)).thread t).nextPc none
  have h0 : (s.modThread t (fun y => y.setGpr rd w)).thread t = (s.thread t).setGpr rd w := by simp
  unfold State.finish State.retire
  refine ⟨⟨onlyThread_trans (onlyThread_modThread _ _ _) h.1.1, ?_⟩, fun r => ?_, ?_⟩
  · rw [h.1.2, h0, special_setGpr]
  · rw [h.2.1, h0, gpr_setGpr]
  · have := h.2.2; rw [h0, nextPc_setGpr] at this; rw [h0, nextPc_setGpr]; exact this

/-- What an instruction of a thread that starts answers. -/
theorem onThread_starts (s s' : State) (t : Nat) (unit : Option Nat) (f : State → State) (h : s.starts t unit s') :
    onThread s t unit f = .next (f s') := by
  unfold onThread; rw [if_pos h.1, h.2]

theorem intOp_computes (s s' : State) (t unit : Nat) (rd : BitVec 5) (f : Thread → Option Word) (w : Word) (h : s.starts t (some unit) s')
    (hf : f (s'.thread t) = some w) : ∃ u, intOp s t unit rd f = .next u ∧ s'.computes u t rd w := by
  refine ⟨_, onThread_starts s s' t _ _ h, ?_⟩
  rw [hf]; exact finish_computes s' t rd w

end Sys2Proof.Machine
end

