-- ==== Sys2Proof/Laws/Exceptions.lean ====
section
/-! SUPPORT. Taking an exception (R110, R111). -/
set_option Elab.async false
namespace Sys2Proof.Machine
open Sys2Proof

theorem countFree_threads (s : State) (t ev limit t' : Nat) : (s.countFree t ev limit).thread t' = s.thread t' := by
  unfold State.countFree
  split
  · rfl
  · have k := countFrom_countsOnly s t ev (s.freeWord.toNat % (limit + 1)) none 0 8
    change (s.countFrom t ev (s.freeWord.toNat % (limit + 1)) none 0 8).thread t' = _
    by_cases h : t' = t
    · rw [h]; exact k.2
    · exact k.1.2.2.1 t' h

theorem countWrongPath_threads (s : State) (t t' : Nat) : (s.countWrongPath t).thread t' = s.thread t' := by
  unfold State.countWrongPath
  split
  · simp only [List.foldl_cons, List.foldl_nil, countFree_threads]
  · rfl

/-- What a squash leaves of the threads: the return stack of thread `t` may differ (R130), and nothing else. -/
theorem squash_threads (s : State) (t t' : Nat) :
    (t' ≠ t → (s.squash t).thread t' = s.thread t') ∧ ∃ r n, (s.squash t).thread t = { (s.thread t) with rstack := r, rtop := n } := by
  have h (u : State) (c d : Nat) (f : Core → Core) (g : Die → Die) (m : Thread → Thread) (i : Nat) :
      (((u.modCore c f).modDie d g).modThread t m).spendFree.thread i = if i = t then m (u.thread t) else u.thread i := by
    change (((u.modCore c f).modDie d g).modThread t m).thread i = _
    have k : ((u.modCore c f).modDie d g).thread t = u.thread t := rfl
    by_cases e : i = t
    · subst e; simp [k]
    · rw [if_neg e, show u.thread i = ((u.modCore c f).modDie d g).thread i from rfl]; simp [e]
  unfold State.squash State.wrongPath
  simp only [h, countWrongPath_threads]
  exact ⟨fun e => if_neg e, _, _, by simp; exact ⟨rfl, rfl⟩⟩

/-- An exception taken where it arises, not nested: the thread enters the target level, and no other thread changes. -/
theorem raise_enters (s : State) (t : Nat) (e : Exc) (after : Bool) (target off : Nat)
    (h : ¬(((s.thread t).level = 1 ∨ (s.thread t).level = 2) ∧ (s.thread t).exl = true)) (hc : e.code ≠ 0x0D)
    (ht : target = if (s.thread t).level = 2 then 2 else 1) (ho : off = if (s.thread t).level = target then 0 else 0x100) :
    ∃ x : Thread, { (s.thread t) with pendS := x.pendS, pendH := x.pendH, rstack := x.rstack, rtop := x.rtop } = x ∧
      (s.raise t e after).thread t = x.enter target off e after ∧ (∀ t', t' ≠ t → (s.raise t e after).thread t' = s.thread t') := by
  have k := countEv_countsOnly s t 0x14 true
  have q := squash_threads (s.countEv t 0x14) t
  refine ⟨((s.countEv t 0x14).squash t).thread t, ?_, ?_, ?_⟩
  · obtain ⟨r, n, e⟩ := (q t).2
    rw [e, k.2]
  · unfold State.raise State.closeMb
    simp only [exHcall]
    by_cases h2 : (s.thread t).level = 2
    · have : (s.thread t).exl = false := by simpa [h2] using h
      subst ht; simp [h2, this, ho]
    · by_cases h1 : (s.thread t).level = 1
      · have : (s.thread t).exl = false := by simpa [h1] using h
        subst ht; simp [h1, this, ho, hc]
      · subst ht; simp [h2, h1, ho, hc]
  · intro t' ht'
    have := ((q t').1 ht').trans (k.1.2.2.1 t' ht')
    unfold State.raise State.closeMb
    simp only [exHcall]
    by_cases h2 : (s.thread t).level = 2
    · have h3 : (s.thread t).exl = false := by simpa [h2] using h
      subst ht; simp [h2, h3, ht', this]
    · by_cases h1 : (s.thread t).level = 1
      · have h3 : (s.thread t).exl = false := by simpa [h1] using h
        subst ht; simp [h1, h3, hc, ht', this]
      · subst ht; simp [h2, h1, hc, ht', this]

theorem bits_entryStatus (st : Word) (target : Nat) (h : target < 4) :
    bits (entryStatus st target) 1 0 = target ∧ bit (entryStatus st target) 3 = true ∧ bit (entryStatus st target) 2 = false := by
  have h1 : bits (entryStatus st target) 1 0 = target := by
    unfold entryStatus
    rw [bits_putBits_ne _ _ _ _ _ _ (by omega) (by omega) (by omega), bits_putBits_ne _ _ _ _ _ _ (by omega) (by omega) (by omega),
      bits_putBits _ _ _ _ (by omega) (by omega)]
    exact Nat.mod_eq_of_lt (by omega)
  refine ⟨h1, ?_, ?_⟩ <;> simp [entryStatus, bit, putBits]

theorem setBank_bank (x : Thread) (hh : Bool) (b : Bank) : (x.setBank hh b).bank hh = b := by cases hh <;> rfl

/-- What exception entry leaves in the thread. `x` is the thread before its event was counted and its younger work squashed. -/
theorem enter_entered (x y : Thread) (target off : Nat) (e : Exc) (after : Bool)
    (hx : { x with pendS := y.pendS, pendH := y.pendH, rstack := y.rstack, rtop := y.rtop } = y)
    (ht : target = 1 ∨ target = 2) :
    entered x (y.enter target off e after) target off e (if after then x.pc + 4 else x.pc)
      (x.slot.getD ((if after then x.pc + 4 else x.pc) + 4)) := by
  obtain ⟨p, q, r, n, rfl⟩ : ∃ p q r n, y = { x with pendS := p, pendH := q, rstack := r, rtop := n } := ⟨_, _, _, _, hx.symm⟩
  have h4 := bits_entryStatus x.status target (by omega)
  unfold Thread.enter
  dsimp only
  generalize (if after then x.pc + 4 else x.pc) = epc
  rcases ht with rfl | rfl
  all_goals
    cases hs : x.slot <;> by_cases hp : bit x.predctl 0 = true <;> by_cases hq : x.rsclrH = true
  all_goals
    simp only [hp, hq, Thread.setBank, Thread.bank]
    refine ⟨?_, rfl, rfl, rfl, rfl, h4.1, h4.2.1, h4.2.2, rfl, rfl, fun _ => rfl, rfl, rfl, rfl, rfl⟩
    simp [entryEstatus, hs, Thread.bank, b2n]

end Sys2Proof.Machine
end

