-- ==== Sys2Proof/Laws/MemCells.lean ====
section
/-! SUPPORT. The cells of DRAM: what a byte reads as after a write, and the canonical form, which every write keeps. -/
set_option Elab.async false
namespace Sys2Proof.Machine
open Sys2Proof

/-- The cells are canonical and all lie above `a`. -/
def memAbove (a : Nat) : List Host.Cell → Bool
  | [] => true
  | (b, v) :: t => decide (a < b) && (v ≠ 0 && memAbove b t)

theorem memWf_cons (a : Nat) (v : Byte) (t : List Host.Cell) : memWf ((a, v) :: t) = (v ≠ 0 && memAbove a t) := by
  induction t generalizing a v with
  | nil => simp [memWf, memAbove]
  | cons p t ih => obtain ⟨b, w⟩ := p; simp only [memWf, ih, memAbove, Bool.and_assoc]

theorem memAbove_mono (a b : Nat) (h : a ≤ b) (m : List Host.Cell) (w : memAbove b m = true) : memAbove a m = true := by
  cases m with
  | nil => rfl
  | cons p t => simp only [memAbove, Bool.and_eq_true, decide_eq_true_eq] at w ⊢; exact ⟨by omega, w.2⟩

theorem memAbove_wf (a : Nat) (m : List Host.Cell) (w : memAbove a m = true) : memWf m = true := by
  cases m with
  | nil => rfl
  | cons p t => rw [memWf_cons]; simp only [memAbove, Bool.and_eq_true] at w ⊢; exact w.2

theorem memGet_above (a b : Nat) (m : List Host.Cell) (w : memAbove a m = true) (h : b ≤ a) : memGet m b = 0 := by
  induction m generalizing a with
  | nil => rfl
  | cons p t ih =>
    obtain ⟨c, v⟩ := p
    simp only [memAbove, Bool.and_eq_true, decide_eq_true_eq] at w
    rw [memGet, if_neg (by omega)]
    exact ih c w.2.2 (by omega)

theorem memSet_above (a b : Nat) (v : Byte) (m : List Host.Cell) (w : memAbove a m = true) (h : a < b) :
    memAbove a (memSet m b v) = true := by
  induction m generalizing a with
  | nil =>
    simp only [memSet]
    split
    · rfl
    · simp only [memAbove, Bool.and_true, Bool.and_eq_true, decide_eq_true_eq]; exact ⟨h, ‹_›⟩
  | cons p t ih =>
    obtain ⟨c, x⟩ := p
    simp only [memAbove, Bool.and_eq_true, decide_eq_true_eq] at w
    simp only [memSet]
    split
    · simp only [memAbove, Bool.and_eq_true, decide_eq_true_eq]
      exact ⟨w.1, w.2.1, ih c w.2.2 ‹_›⟩
    · split
      · split
        · exact memAbove_mono _ _ (by omega) _ w.2.2
        · subst b; simp only [memAbove, Bool.and_eq_true, decide_eq_true_eq]
          exact ⟨w.1, by simpa using ‹¬ v = 0›, w.2.2⟩
      · split
        · simp only [memAbove, Bool.and_eq_true, decide_eq_true_eq]; exact ⟨w.1, w.2⟩
        · simp only [memAbove, Bool.and_eq_true, decide_eq_true_eq]
          exact ⟨h, by simpa using ‹¬ v = 0›, by omega, w.2⟩

/-- A write of one byte keeps the canonical form. -/
theorem memSet_wf (m : List Host.Cell) (a : Nat) (v : Byte) (w : memWf m = true) : memWf (memSet m a v) = true := by
  cases m with
  | nil =>
    simp only [memSet]
    split
    · rfl
    · simpa only [memWf, decide_eq_true_eq] using ‹¬ v = 0›
  | cons p t =>
    obtain ⟨c, x⟩ := p
    rw [memWf_cons, Bool.and_eq_true] at w
    simp only [memSet]
    split
    · rw [memWf_cons, Bool.and_eq_true]; exact ⟨w.1, memSet_above _ _ _ _ w.2 ‹_›⟩
    · split
      · split
        · exact memAbove_wf _ _ w.2
        · subst a; rw [memWf_cons, Bool.and_eq_true]; exact ⟨by simpa using ‹¬ v = 0›, w.2⟩
      · split
        · rw [memWf_cons, Bool.and_eq_true]; exact w
        · rw [memWf_cons, Bool.and_eq_true]
          refine ⟨by simpa using ‹¬ v = 0›, ?_⟩
          simp only [memAbove, Bool.and_eq_true, decide_eq_true_eq]; exact ⟨by omega, by simpa using w.1, w.2⟩

theorem memPut_wf (m : List Host.Cell) (a v n : Nat) (w : memWf m = true) : memWf (memPut m a v n) = true := by
  induction n generalizing m a v with
  | zero => exact w
  | succ n ih => exact ih _ _ _ (memSet_wf m a _ w)

/-- A write of one byte changes that byte alone. -/
theorem memGet_memSet (m : List Host.Cell) (a b : Nat) (v : Byte) (w : memWf m = true) :
    memGet (memSet m a v) b = if b = a then v else memGet m b := by
  induction m with
  | nil =>
    simp only [memSet]
    split
    · simp only [memGet]; split <;> simp_all
    · simp only [memGet]
      by_cases h : b = a
      · rw [if_pos h.symm, if_pos h]
      · rw [if_neg (Ne.symm h), if_neg h]
  | cons p t ih =>
    obtain ⟨c, x⟩ := p
    rw [memWf_cons, Bool.and_eq_true] at w
    have ih := ih (memAbove_wf _ _ w.2)
    simp only [memSet]
    split
    · simp only [memGet, ih]; split <;> split <;> simp_all
    · split
      · subst c
        split
        · simp only [memGet]
          by_cases h : b = a
          · subst h; simp [memGet_above _ _ _ w.2 (Nat.le_refl b), *]
          · simp [h, Ne.symm h]
        · simp only [memGet]
          by_cases h : b = a
          · rw [if_pos h.symm, if_pos h]
          · rw [if_neg (Ne.symm h), if_neg h, if_neg (Ne.symm h)]
      · split
        · by_cases h : b = a
          · subst h
            rw [if_pos rfl, memGet, if_neg (by omega), memGet_above _ _ _ w.2 (by omega)]; simp_all
          · rw [if_neg h]
        · simp only [memGet]; by_cases h : b = a
          · subst h; simp
          · simp [h, Ne.symm h]

/-- A write of `n` bytes changes those bytes alone, the least significant at the lowest address. -/
theorem memGet_memPut (m : List Host.Cell) (a v n b : Nat) (w : memWf m = true) :
    memGet (memPut m a v n) b = if a ≤ b ∧ b < a + n then BitVec.ofNat 8 (v / 256 ^ (b - a)) else memGet m b := by
  induction n generalizing m a v with
  | zero => rw [if_neg (by omega)]; rfl
  | succ n ih =>
    rw [memPut, ih _ _ _ (memSet_wf m a _ w)]
    by_cases h : a + 1 ≤ b ∧ b < a + 1 + n
    · rw [if_pos h, if_pos (by omega), Nat.div_div_eq_div_mul, ← Nat.pow_succ', show (b - (a + 1)).succ = b - a by omega]
    · rw [if_neg h, memGet_memSet _ _ _ _ w]
      by_cases h2 : b = a
      · subst h2; rw [if_pos rfl, if_pos (by omega), Nat.sub_self, Nat.pow_zero, Nat.div_one]
      · rw [if_neg h2, if_neg (by omega)]

theorem writeMem_mem (s : State) (a : Nat) (l : Line) : (s.writeMem a l).mem = memPut s.mem a l.toNat 64 := by simp only [State.writeMem]

/-- A write of a line keeps the canonical form. -/
theorem writeMem_wf (s : State) (a : Nat) (l : Line) (w : memWf s.mem = true) : memWf (s.writeMem a l).mem = true := by
  rw [writeMem_mem]; exact memPut_wf _ _ _ _ w

/-- A written line reads back, and no other byte changes. -/
theorem memGet_writeMem (s : State) (a : Nat) (l : Line) (b : Nat) (w : memWf s.mem = true) :
    memGet (s.writeMem a l).mem b = if a ≤ b ∧ b < a + 64 then BitVec.ofNat 8 (l.toNat / 256 ^ (b - a)) else memGet s.mem b := by
  rw [writeMem_mem]; exact memGet_memPut _ _ _ _ _ w

theorem memNat_lt (m : List Host.Cell) (a n : Nat) : memNat m a n < 256 ^ n := by
  induction n generalizing a with
  | zero => simp [memNat]
  | succ n ih => have := ih (a + 1); have h := (memGet m a).isLt; rw [memNat, Nat.pow_succ]; omega

/-- Bytes that are those of `v` read as `v`. -/
theorem memNat_of_bytes (m : List Host.Cell) (a v n : Nat) (h : ∀ i, i < n → memGet m (a + i) = BitVec.ofNat 8 (v / 256 ^ i)) :
    memNat m a n = v % 256 ^ n := by
  induction n generalizing a v with
  | zero => simp [memNat, Nat.mod_one]
  | succ n ih =>
    rw [memNat, ih (a + 1) (v / 256)]
    · have h0 := h 0 (by omega)
      simp only [Nat.add_zero, Nat.pow_zero, Nat.div_one] at h0
      rw [h0, BitVec.toNat_ofNat, Nat.pow_succ' (n := n), Nat.mod_mul (a := 256)]
    · intro i hi
      rw [show a + 1 + i = a + (i + 1) by omega, h (i + 1) (by omega), Nat.div_div_eq_div_mul, ← Nat.pow_succ']

/-- A written line reads back. -/
theorem readMem_writeMem (s : State) (a : Nat) (l : Line) (w : memWf s.mem = true) : (s.writeMem a l).readMem a = l := by
  rw [State.readMem, memNat_of_bytes _ a l.toNat 64]
  · rw [Nat.mod_eq_of_lt (by have := l.isLt; omega)]; simp
  · intro i hi
    rw [memGet_writeMem _ _ _ _ w, if_pos (by omega), Nat.add_sub_cancel_left]

end Sys2Proof.Machine
end

