-- ==== Sys2Proof/Laws/MemSameA.lean ====
section
/-! SUPPORT. Which operations leave DRAM as it is (part 1 of 4): one lemma per operation of the machine. -/
set_option Elab.async false
namespace Sys2Proof.Machine
open Sys2Proof

/-- A fold whose every step leaves memory leaves memory. -/
theorem foldl_mem {α : Type} (f : State → α → State) (h : ∀ s a, (f s a).mem = s.mem) (l : List α) (s : State) :
    (l.foldl f s).mem = s.mem := by
  induction l generalizing s with
  | nil => rfl
  | cons a l ih => rw [List.foldl_cons, ih, h]
theorem map_mem (f : State → State) (h : ∀ s, (f s).mem = s.mem) {o : Option State} {m : List Host.Cell} {t : State}
    (ho : ∀ u, o = some u → u.mem = m) (ht : o.map f = some t) : t.mem = m := by
  obtain ⟨u, rfl, rfl⟩ := Option.map_eq_some_iff.mp ht
  rw [h, ho u rfl]
theorem bind_mem (f : State → Option State) (h : ∀ s u, f s = some u → u.mem = s.mem) {o : Option State} {m : List Host.Cell} {t : State}
    (ho : ∀ u, o = some u → u.mem = m) (ht : o.bind f = some t) : t.mem = m := by
  obtain ⟨u, rfl, hu⟩ := Option.bind_eq_some_iff.mp ht
  rw [h u t hu, ho u rfl]
theorem map_wf (f : State → State) (h : ∀ s, memWf s.mem = true → memWf (f s).mem = true) {o : Option State} {t : State}
    (ho : ∀ u, o = some u → memWf u.mem = true) (ht : o.map f = some t) : memWf t.mem = true := by
  obtain ⟨u, rfl, rfl⟩ := Option.map_eq_some_iff.mp ht
  exact h u (ho u rfl)
theorem ite_wf (c : Prop) [Decidable c] {a b : State} (ha : memWf a.mem = true) (hb : memWf b.mem = true) :
    memWf (if c then a else b).mem = true := by split <;> assumption
theorem bind_wf (f : State → Option State) (h : ∀ s u, memWf s.mem = true → f s = some u → memWf u.mem = true) {o : Option State} {t : State}
    (ho : ∀ u, o = some u → memWf u.mem = true) (ht : o.bind f = some t) : memWf t.mem = true := by
  obtain ⟨u, rfl, hu⟩ := Option.bind_eq_some_iff.mp ht
  exact h u t (ho u rfl) hu
theorem enqueueRec_mem (s : State) (q : QRec) : (State.enqueueRec s q).mem = s.mem := by grind [State.enqueueRec, addFld_mem]
theorem emitOrigin_mem (s : State) (origin : BitVec 16) (code : Nat) (realm : Nat) (ps : List Nat) : (State.emitOrigin s origin code realm ps).mem = s.mem := by
  grind [State.emitOrigin, enqueueRec_mem]
theorem ticketDone_mem (s : State) (c : Command) (status : Nat) (stamp : Word) : (State.ticketDone s c status stamp).mem = s.mem := by
  grind [State.ticketDone, emitOrigin_mem]
theorem emitRank_mem (s : State) (rank : Nat) (die : Nat) (src : Nat) (code : Nat) (realm : Nat) (ps : List Nat) : (State.emitRank s rank die src code realm ps).mem = s.mem := by
  grind [State.emitRank, enqueueRec_mem]
theorem emit_mem (s : State) (die : Nat) (src : Nat) (code : Nat) (realm : Nat) (ps : List Nat) : (State.emit s die src code realm ps).mem = s.mem := by
  grind [State.emit, emitRank_mem]
theorem notOutstanding_mem (s : State) : (State.notOutstanding s).mem = s.mem := by grind [State.notOutstanding, setFld_mem]
theorem pushCompletion_mem (s : State) (x : Completion) : (State.pushCompletion s x).mem = s.mem := by
  grind [State.pushCompletion, notOutstanding_mem, emit_mem]
theorem sendMgmt_mem (s : State) (ty : MsgType) (p : Nat) (body : Body) : (State.sendMgmt s ty p body).mem = s.mem := by
  grind [State.sendMgmt, send_mem]
theorem complete_mem (s : State) (c : Command) (status : Nat) (r0 : Word) (r1 : Word) : (State.complete s c status r0 r1).mem = s.mem := by
  grind [State.complete, sendMgmt_mem, pushCompletion_mem, ticketDone_mem]
theorem abandon_mem (s : State) (x1 : List HostRead) : (State.abandon s x1).mem = s.mem := by
  fun_induction State.abandon s x1 <;> grind [complete_mem, modEpf_mem, spendFree_mem, setFld_mem, addFld_mem]
theorem noticeDue_mem (s : State) (code : Nat) (realm : Nat) (origin : BitVec 16) (ue : Bool) : (State.noticeDue s code realm origin ue).mem = s.mem := by
  grind [State.noticeDue]
theorem ce_mem (s : State) (die : Nat) (src : Nat) (code : Nat) (realm : Nat) (ps : List Nat) : (State.ce s die src code realm ps).mem = s.mem := by
  grind [State.ce, emit_mem, addFld_mem, noticeDue_mem]
theorem ownCacheRead_mem (s : State) (page : Nat) : (State.ownCacheRead s page).mem = s.mem := by grind [State.ownCacheRead, ce_mem]
theorem checkPages_mem (s : State) (realm : Nat) (x2 : List Nat) : (State.checkPages s realm x2).1.mem = s.mem := by
  fun_induction State.checkPages s realm x2 <;> grind [ownCacheRead_mem]
theorem checkRange_mem (s : State) (realm : Nat) (pa : Nat) (n : Nat) : (State.checkRange s realm pa n).1.mem = s.mem := by
  grind [State.checkRange, checkPages_mem]
theorem checkRanges_mem (s : State) (realm : Nat) (x2 : List (Nat × Nat)) : (State.checkRanges s realm x2).1.mem = s.mem := by
  fun_induction State.checkRanges s realm x2 <;> grind [checkRange_mem]
theorem failRun_mem (s : State) (r : EngRun) (st : Nat) : (failRun s r st).1.mem = s.mem := by grind [failRun, spendFree_mem]
theorem setCtxRun_mem (s : State) (c : Nat) (x : CtxRun) : (State.setCtxRun s c x).mem = s.mem := by grind [State.setCtxRun]
theorem noteWrites_mem (s : State) (e : Nat) (c : Nat) (n : Nat) : (State.noteWrites s e c n).mem = s.mem := by grind [State.noteWrites, setCtxRun_mem]
theorem modPort_mem (s : State) (x1 : Nat) (f : Port → Port) : (State.modPort s x1 f).mem = s.mem := by grind [State.modPort]
theorem bump_mem (s : State) (i : Nat) (j : Nat) (n : Nat) : (State.bump s i j n).1.mem = s.mem := by grind [State.bump, setPccV_mem]
theorem uncoreFrom_mem (s : State) (base : Nat) (ev : Nat) (n : Nat) (realm : Option Nat) (i : Nat) (x6 : Nat) : (State.uncoreFrom s base ev n realm i x6).mem = s.mem := by
  fun_induction State.uncoreFrom s base ev n realm i x6 <;> grind [bump_mem]
theorem countUncore_mem (s : State) (base : Nat) (k : Nat) (ev : Nat) (n : Nat) (realm : Option Nat) : (State.countUncore s base k ev n realm).mem = s.mem := by
  grind [State.countUncore, uncoreFrom_mem]
theorem noteEngine_mem (s : State) (x1 : Nat) (r : Nat) (ev : Nat) : (State.noteEngine s x1 r ev).mem = s.mem := by
  grind [State.noteEngine, countUncore_mem]
theorem portWrite_mem (s : State) (x1 : Nat) (realm : Realm) (a : LineAddr) (d : Line) (m : BitVec 64) : (State.portWrite s x1 realm a d m).mem = s.mem := by
  grind [State.portWrite, noteEngine_mem, send_mem, modPort_mem]
theorem portWriteBytes_mem (s : State) (x1 : Nat) (realm : Realm) (pa : Nat) (n : Nat) (v : Nat) (x6 : Nat) : (State.portWriteBytes s x1 realm pa n v x6).mem = s.mem := by
  fun_induction State.portWriteBytes s x1 realm pa n v x6 <;> grind [portWrite_mem]
theorem putAll_mem (s : State) (e : Nat) (realm : Nat) (x3 : List (Nat × Nat × Nat)) : (State.putAll s e realm x3).mem = s.mem := by
  fun_induction State.putAll s e realm x3 <;> grind [portWriteBytes_mem]
theorem putRun_mem (s : State) (c : Nat) (r : EngRun) : (State.putRun s c r).mem = s.mem := by grind [State.putRun, setCtxRun_mem]
theorem abortRun_mem (s : State) (e : Nat) (c : Nat) (r : EngRun) : (State.abortRun s e c r).mem = s.mem := by
  grind [State.abortRun, putRun_mem, putAll_mem, noteWrites_mem, failRun_mem, checkRanges_mem, State.engWrite]
theorem refuseField_mem (s : State) (c : Command) (status : Nat) : (State.refuseField s c status).mem = s.mem := by
  grind [State.refuseField, emit_mem, complete_mem]
theorem ok_mem (s : State) (c : Command) : (State.ok s c).mem = s.mem := by grind [State.ok, complete_mem]
theorem localEvent_mem (s : State) (kind : EventKind) (rank : Nat) (die : Nat) (src : Nat) : (State.localEvent s kind rank die src).mem = s.mem := by
  grind [State.localEvent]
theorem accept_mem (s : State) (c : Command) : (State.accept s c).mem = s.mem := by
  grind [State.accept, localEvent_mem, ok_mem, emitOrigin_mem, refuseField_mem]
theorem credIn_mem (s : State) (n : Nat) (cs : List (Nat × Nat)) : (State.credIn s n cs).mem = s.mem := by grind [State.credIn, modLink_mem]
theorem ackIn_mem (s : State) (n : Nat) (a : BitVec 12) : (State.ackIn s n a).mem = s.mem := by grind [State.ackIn, setLink_mem]
theorem noteUe_mem (s : State) (code : Nat) : (State.noteUe s code).mem = s.mem := by grind [State.noteUe, setFld_mem]
theorem enterMode_mem (s : State) (new : Nat) (trans : Nat) : (State.enterMode s new trans).mem = s.mem := by
  grind [State.enterMode, setReg_mem, emit_mem]
theorem raiseEvent_mem (s : State) (kind : EventKind) (rank : Nat) (die : Nat) (src : Nat) : (State.raiseEvent s kind rank die src).mem = s.mem := by
  grind [State.raiseEvent, sendMgmt_mem]
theorem ueP_mem (s : State) (die : Nat) (src : Nat) (code : Nat) (realm : Nat) (ps : List Nat) : (State.ueP s die src code realm ps).mem = s.mem := by
  grind [State.ueP, raiseEvent_mem, enterMode_mem, emit_mem, noteUe_mem]
theorem queueOn_mem (s : State) (k : Pkt) (x2 : List Nat) : (State.queueOn s k x2).mem = s.mem := by
  fun_induction State.queueOn s k x2 <;> grind [modLink_mem]
theorem floodPkt_mem (s : State) (k : Pkt) : (State.floodPkt s k).mem = s.mem := by grind [State.floodPkt, queueOn_mem]
theorem route_mem (s : State) (k : Pkt) : (State.route s k).mem = s.mem := by grind [State.route, queueOn_mem, floodPkt_mem]
theorem takePkt_mem (s : State) (n : Nat) (k : Pkt) : (State.takePkt s n k).mem = s.mem := by grind [State.takePkt, route_mem, queueOn_mem, ueP_mem]
theorem takePkts_mem (s : State) (n : Nat) (x2 : List Pkt) : (State.takePkts s n x2).mem = s.mem := by
  fun_induction State.takePkts s n x2 <;> grind [takePkt_mem]
theorem octetCount_mem (s : State) (n : Nat) (ev : Nat) (k : Nat) : (State.octetCount s n ev k).mem = s.mem := by grind [State.octetCount, countUncore_mem]
theorem acceptFlit_mem (s : State) (n : Nat) (f : Flit) : (State.acceptFlit s n f).mem = s.mem := by
  grind [State.acceptFlit, octetCount_mem, takePkts_mem, ackIn_mem, credIn_mem, setLink_mem]
theorem acceptNext_mem (s : State) : (State.acceptNext s).mem = s.mem := by grind [State.acceptNext, modEpf_mem, accept_mem]
theorem ackOther_mem (s : State) (x1 : Hdr) : (State.ackOther s x1).mem = s.mem := by grind [State.ackOther, send_mem]
theorem samplingInterrupt_mem (s : State) (t : Nat) (i : Nat) (exact : Option (BitVec 57)) : (State.samplingInterrupt s t i exact).mem = s.mem := by
  unfold State.samplingInterrupt; grind [localEvent_mem, modCore_mem]
theorem countFrom_mem (s : State) (t : Nat) (ev : Nat) (n : Nat) (exact : Option (BitVec 57)) (i : Nat) (x6 : Nat) : (State.countFrom s t ev n exact i x6).mem = s.mem := by
  fun_induction State.countFrom s t ev n exact i x6 <;> grind [samplingInterrupt_mem, bump_mem]
theorem countEv_mem (s : State) (t : Nat) (ev : Nat) (exact : Bool) : (State.countEv s t ev exact).mem = s.mem := by grind [State.countEv, countFrom_mem]
theorem wakeThread_mem (s : State) (t : Nat) (a : LineAddr) (status : Nat) : (State.wakeThread s t a status).mem = s.mem := by
  grind [State.wakeThread, countEv_mem, modThread_mem]
theorem wakeWaitd_mem (s : State) (t : Nat) (status : Nat) : (State.wakeWaitd s t status).mem = s.mem := by grind [State.wakeWaitd, wakeThread_mem]
theorem pend_mem (s : State) (t : Nat) (x2 : Bool) (cls : IntClass) : (State.pend s t x2 cls).mem = s.mem := by
  grind [State.pend, wakeWaitd_mem, modThread_mem]
theorem intRefused_mem (x0 : Hdr) (tid : BitVec 16) (cls : IntClass) (s : State) : (State.intRefused x0 tid cls s).mem = s.mem := by
  grind [State.intRefused, emit_mem]
theorem intDiscarded_mem (t : Nat) (cls : IntClass) (r : Nat) (s : State) : (State.intDiscarded t cls r s).mem = s.mem := by
  grind [State.intDiscarded, emit_mem]
theorem actInterrupt_mem (s : State) (t : Nat) (cls : IntClass) (realm : Realm) (atS : Bool) (via : Option (Hdr × BitVec 16)) :
    (s.actInterrupt t cls realm atS via).mem = s.mem := by
  unfold State.actInterrupt State.routeInterrupt
  cases via <;> grind [intDiscarded_mem, intRefused_mem, setFld_mem, pend_mem]
theorem flood_mem (s : State) (m : Msg) : (State.flood s m).mem = s.mem := by grind [State.flood, floodPkt_mem]
theorem floodMgmt_mem (s : State) (ty : MsgType) (body : Body) : (State.floodMgmt s ty body).mem = s.mem := by grind [State.floodMgmt, flood_mem]
theorem takeoverMember_mem (s : State) (new : Nat) : (State.takeoverMember s new).mem = s.mem := by grind [State.takeoverMember, setFld_mem]
theorem sendAll_mem (s : State) (ty : MsgType) (body : Body) (x3 : List Nat) : (State.sendAll s ty body x3).mem = s.mem := by
  fun_induction State.sendAll s ty body x3 <;> grind [sendMgmt_mem]
theorem beginQuiesce_mem (s : State) (why : Purpose) (cmd : Option Command) : (State.beginQuiesce s why cmd).mem = s.mem := by
  grind [State.beginQuiesce, sendAll_mem]
theorem endTakeover_mem (s : State) : (State.endTakeover s).mem = s.mem := by grind [State.endTakeover, emit_mem]
theorem takeOver_mem (s : State) : (State.takeOver s).mem = s.mem := by
  grind [State.takeOver, endTakeover_mem, beginQuiesce_mem, sendAll_mem, takeoverMember_mem, setFld_mem, setReg_mem, floodMgmt_mem]
theorem actTakeover_mem (s : State) : (State.actTakeover s).mem = s.mem := by grind [State.actTakeover, takeOver_mem]
theorem actTimer_mem (s : State) (t : Nat) (x2 : Bool) : (State.actTimer s t x2).mem = s.mem := by grind [State.actTimer, pend_mem]
theorem adAnswer_mem (s : State) (t : Nat) (a : AdUpdate) (old : Word) : (State.adAnswer s t a old).mem = s.mem := by
  grind [State.adAnswer, modCore_mem, modThread_mem]
theorem addCredits_mem (s : State) (die : Nat) (n : Nat) (pool : Nat) (k : Nat) : (State.addCredits s die n pool k).mem = s.mem := by
  grind [State.addCredits, modDie_mem]
theorem setBucket_mem (s : State) (code : Nat) (n : Nat) : (State.setBucket s code n).mem = s.mem := by grind [State.setBucket]
theorem addToken_mem (s : State) (code : Nat) : (s.addToken code).mem = s.mem := by
  unfold State.addToken; split <;> simp only [setBucket_mem]
theorem takeRealmTokens_mem (s : State) (g : Nat) : (State.takeRealmTokens s g).mem = s.mem := by grind [State.takeRealmTokens]
theorem admitOne_mem (s : State) (n : Nat) (port : Nat) (waiting : List (LineAddr × Nat)) : (State.admitOne s n port waiting).mem = s.mem := by
  grind [State.admitOne, takeRealmTokens_mem]
theorem admitPort_mem (s : State) (n : Nat) (port : Nat) (waiting : List (LineAddr × Nat)) (x4 : Nat) : (State.admitPort s n port waiting x4).mem = s.mem := by
  fun_induction State.admitPort s n port waiting x4 <;> grind [admitOne_mem]
theorem admitPorts_mem (s : State) (n : Nat) (waiting : List (Nat × LineAddr × Nat)) : (s.admitPorts n waiting).mem = s.mem := by
  unfold State.admitPorts
  rw [foldl_mem _ (fun s p => admitPort_mem _ _ _ _ _)]
theorem admitReads_mem (s : State) (n : Nat) : (State.admitReads s n).mem = s.mem := by grind [State.admitReads, admitPorts_mem]
theorem setLinkState_mem (s : State) (n : Nat) (st : Nat) : (State.setLinkState s n st).mem = s.mem := by grind [State.setLinkState, setFld_mem]
theorem countResends_mem (s : State) (n : Nat) (k : Nat) (last : BitVec 12) : (State.countResends s n k last).mem = s.mem := by
  grind [State.countResends, modLink_mem, emit_mem, noticeDue_mem, addFld_mem, octetCount_mem]
theorem resendAll_mem (s : State) (n : Nat) : (State.resendAll s n).mem = s.mem := by grind [State.resendAll, setLink_mem, countResends_mem]
theorem enterUp_mem (s : State) (n : Nat) (x2 : Nat) (lanes : Nat) : (State.enterUp s n x2 lanes).mem = s.mem := by
  grind [State.enterUp, resendAll_mem, ce_mem, modLink_mem, setLinkState_mem, setFld_mem]
theorem noLanes_mem (s : State) (n : Nat) : (State.noLanes s n).mem = s.mem := by grind [State.noLanes, setFld_mem]
theorem degrade_mem (s : State) : (State.degrade s).mem = s.mem := by grind [State.degrade, localEvent_mem]
theorem fenceLink_mem (s : State) (n : Nat) (last : Nat) : (State.fenceLink s n last).mem = s.mem := by
  grind [State.fenceLink, degrade_mem, sendMgmt_mem, emit_mem, setLink_mem, setLinkState_mem, noLanes_mem]
theorem fullRetrain_mem (s : State) (n : Nat) : (State.fullRetrain s n).mem = s.mem := by
  grind [State.fullRetrain, setLinkState_mem, addFld_mem, modLink_mem]
theorem retrainFailed_mem (s : State) (n : Nat) (last : Nat) : (State.retrainFailed s n last).mem = s.mem := by
  grind [State.retrainFailed, fullRetrain_mem, fenceLink_mem, modLink_mem]
theorem agreeWidth_mem (s : State) (n : Nat) (mask : BitVec 8) (proposal : BitVec 2) (confirm : Bool) : (State.agreeWidth s n mask proposal confirm).mem = s.mem := by
  grind [State.agreeWidth, setLink_mem, retrainFailed_mem, enterUp_mem]
theorem alertUpdate_mem (s : State) : (State.alertUpdate s).mem = s.mem := by grind [State.alertUpdate, setFld_mem]
theorem sendCtl_mem (s : State) (ty : MsgType) (p : Nat) (body : Body) : (State.sendCtl s ty p body).mem = s.mem := by
  grind [State.sendCtl, flood_mem, send_mem]
theorem startExchange_mem (s : State) (a : Align) : (State.startExchange s a).mem = s.mem := by grind [State.startExchange, sendCtl_mem]
theorem reportAligned_mem (s : State) (ok : Bool) (off : ℤ) : (State.reportAligned s ok off).mem = s.mem := by
  grind [State.reportAligned, sendCtl_mem]
theorem alignFailed_mem (s : State) (a : Align) (off : ℤ) : (State.alignFailed s a off).mem = s.mem := by
  grind [State.alignFailed, reportAligned_mem, ueP_mem, startExchange_mem]
theorem setSyncstat_mem (s : State) (b : ℤ × ℤ) : (State.setSyncstat s b).mem = s.mem := by grind [State.setSyncstat, setFld_mem]
theorem loadCounter_mem (s : State) (a : Align) (off : ℤ) : (State.loadCounter s a off).mem = s.mem := by grind [State.loadCounter, setFld_mem]
theorem alignStep_mem (s : State) (a : Align) : (State.alignStep s a).mem = s.mem := by
  grind [State.alignStep, startExchange_mem, loadCounter_mem, reportAligned_mem, setSyncstat_mem, setFld_mem, alignFailed_mem]
theorem sendRoutes_mem (s : State) (es : List Edge) (members : List Nat) (x3 : List Nat) : (State.sendRoutes s es members x3).mem = s.mem := by
  fun_induction State.sendRoutes s es members x3 <;> grind [sendCtl_mem]
theorem mirrorSlots_mem (s : State) (p : Nat) (x2 : List Nat) : (State.mirrorSlots s p x2).mem = s.mem := by
  fun_induction State.mirrorSlots s p x2 <;> grind [sendCtl_mem]
theorem setLinkMembers_mem (s : State) (ms : List (Word × Nat)) (x2 : List Nat) : (State.setLinkMembers s ms x2).mem = s.mem := by
  fun_induction State.setLinkMembers s ms x2 <;> grind [emit_mem, setLinkState_mem, setFld_mem, modLink_mem]
theorem writeRoutes_mem (s : State) (rs : List Word) (x2 : List Nat) : (State.writeRoutes s rs x2).mem = s.mem := by
  fun_induction State.writeRoutes s rs x2 <;> grind [setReg_mem]
theorem setRegime_mem (s : State) (v : Nat) (x2 : List Nat) : (State.setRegime s v x2).mem = s.mem := by
  fun_induction State.setRegime s v x2 <;> grind [setFld_mem]
theorem startReshape_mem (s : State) (cause : Nat) (ports : Nat) (span : Nat) : (State.startReshape s cause ports span).mem = s.mem := by
  grind [State.startReshape, emit_mem, setReg_mem]
theorem fencePorts_mem (s : State) (old : Nat) (new : Nat) (x3 : List Nat) : (State.fencePorts s old new x3).mem = s.mem := by
  fun_induction State.fencePorts s old new x3 <;> grind [setFld_mem, emit_mem]
theorem endReshape_mem (s : State) : (State.endReshape s).mem = s.mem := by
  grind [State.endReshape, startReshape_mem, fencePorts_mem, emit_mem, setReg_mem, setFld_mem]
theorem autoReshape_mem (s : State) (cause : Nat) : (State.autoReshape s cause).mem = s.mem := by
  grind [State.autoReshape, endReshape_mem, startReshape_mem, setFld_mem]
theorem joinDirectory_mem (s : State) (a : Assign) (re : Bool) : (State.joinDirectory s a re).mem = s.mem := by
  grind [State.joinDirectory, autoReshape_mem, setFld_mem]
theorem takeCredit_mem (s : State) (n : Nat) : (State.takeCredit s n).mem = s.mem := by grind [State.takeCredit, emit_mem, modHome_mem]
theorem grantCredits_mem (s : State) (n : Nat) (re : Bool) (news : List Nat) : (State.grantCredits s n re news).mem = s.mem := by
  grind [State.grantCredits, takeCredit_mem]
theorem grantAll_mem (s : State) (re : Bool) (news : List Nat) (x3 : List Nat) : (State.grantAll s re news x3).mem = s.mem := by
  fun_induction State.grantAll s re news x3 <;> grind [grantCredits_mem]
theorem enterImage_mem (s : State) (rs : List Word) : (State.enterImage s rs).mem = s.mem := by
  grind [State.enterImage, enterMode_mem, grantAll_mem, joinDirectory_mem, setRegime_mem, setFld_mem, writeRoutes_mem, setReg_mem]
theorem finishJoin_mem (s : State) (j : JoinJob) : (State.finishJoin s j).mem = s.mem := by
  grind [State.finishJoin, emit_mem, ok_mem, complete_mem, enterImage_mem, setLinkMembers_mem, mirrorSlots_mem, sendRoutes_mem]
theorem setJoin_mem (s : State) (j : Option JoinJob) : (State.setJoin s j).mem = s.mem := by grind [State.setJoin]
theorem leftOut_mem (s : State) (reason : Nat) (x2 : List Ident) : (State.leftOut s reason x2).mem = s.mem := by
  fun_induction State.leftOut s reason x2 <;> grind [emit_mem]
theorem tellLeftOut_mem (s : State) (ms : List Word) (x2 : List Word) : (State.tellLeftOut s ms x2).mem = s.mem := by
  fun_induction State.tellLeftOut s ms x2 <;> grind [floodMgmt_mem]
theorem sendAssigns_mem (s : State) (mk : Word → Nat → Assign) (x2 : List (Word × Nat)) : (State.sendAssigns s mk x2).mem = s.mem := by
  fun_induction State.sendAssigns s mk x2 <;> grind [floodMgmt_mem]
theorem openLinks_mem (s : State) (x1 : List Nat) : (State.openLinks s x1).mem = s.mem := by
  fun_induction State.openLinks s x1 <;> grind [setLinkState_mem, modLink_mem]
theorem takeAssign_mem (s : State) (a : Assign) : (State.takeAssign s a).mem = s.mem := by grind [State.takeAssign, setReg_mem, openLinks_mem]
theorem keepMembers_mem (s : State) (j : JoinJob) : (State.keepMembers s j).mem = s.mem := by
  grind [State.keepMembers, finishJoin_mem, takeAssign_mem, sendAssigns_mem]
theorem leaveJoin_mem (s : State) (ms : List (Word × Nat)) : (State.leaveJoin s ms).mem = s.mem := by
  grind [State.leaveJoin, setLinkMembers_mem, enterMode_mem, setReg_mem, setFld_mem]
theorem joinRefused_mem (s : State) (j : JoinJob) (reason : Nat) (left : Nat) : (State.joinRefused s j reason left).mem = s.mem := by
  grind [State.joinRefused, leaveJoin_mem, complete_mem, keepMembers_mem, tellLeftOut_mem, emit_mem, setJoin_mem]
theorem joinAligned_mem (s : State) (j : JoinJob) (p : Nat) (ok : Bool) : (State.joinAligned s j p ok).mem = s.mem := by
  grind [State.joinAligned, sendAssigns_mem, takeAssign_mem, joinRefused_mem, tellLeftOut_mem, leftOut_mem, setJoin_mem, finishJoin_mem]
theorem beginRelease_mem (s : State) (cmd : Option Command) : (State.beginRelease s cmd).mem = s.mem := by grind [State.beginRelease, sendAll_mem]
theorem realignDone_mem (s : State) (p : Nat) : (State.realignDone s p).mem = s.mem := by grind [State.realignDone, beginRelease_mem]
theorem alignmentReport_mem (s : State) (p : Nat) (ok : Bool) : (State.alignmentReport s p ok).mem = s.mem := by
  grind [State.alignmentReport, realignDone_mem, joinAligned_mem]
theorem answer_mem (s : State) (die : Nat) (x2 : Hdr) (ty : MsgType) (fl : Flags) (b : Body) : (State.answer s die x2 ty fl b).mem = s.mem := by
  grind [State.answer, send_mem]
theorem applyLevel_mem (s : State) (lv : Nat) (x2 : List Nat) : (State.applyLevel s lv x2).mem = s.mem := by
  fun_induction State.applyLevel s lv x2 <;> grind [emit_mem, setFld_mem]
theorem modRec_mem (s : State) (n : Nat) (a : LineAddr) (f : LineRec → LineRec) : (State.modRec s n a f).mem = s.mem := by
  grind [State.modRec, modHome_mem]
theorem modPres_mem (s : State) (n : Nat) (a : LineAddr) (f : Presence → Presence) : (State.modPres s n a f).mem = s.mem := by
  grind [State.modPres, modHome_mem]
theorem setDirCtl_mem (s : State) (port : Nat) (set : Nat) (c : SetCtl) : (State.setDirCtl s port set c).mem = s.mem := by grind [State.setDirCtl]
theorem dirFree_mem (s : State) (port : Nat) (set : Nat) (way : Nat) : (State.dirFree s port set way).mem = s.mem := by grind [State.dirFree, setDirCtl_mem]
theorem freeGroup_mem (s : State) (g : List OldWay) (keys : List Nat) : (s.freeGroup g keys).mem = s.mem := by
  unfold State.freeGroup
  exact foldl_mem _ (fun s w => by grind [dirFree_mem]) _ _
theorem dirPut_mem (s : State) (l : Layout) (port : Nat) (set : Nat) (x4 : Nat) (quot : Nat) (e : DirEntry) : (State.dirPut s l port set x4 quot e).mem = s.mem := by
  grind [State.dirPut, setDirCtl_mem]
theorem fireInject_mem (s : State) (rank : Nat) (die : Nat) (src : Nat) : (State.fireInject s rank die src).mem = s.mem := by
  grind [State.fireInject, setReg_mem, emitRank_mem]
theorem dirLastErr_mem (s : State) (p : Nat) (code : Nat) (loc : Nat) : (State.dirLastErr s p code loc).mem = s.mem := by
  grind [State.dirLastErr, setReg_mem]
theorem dirCe_mem (s : State) (p : Nat) (code : Nat) (loc : Nat) (ps : List Nat) : (State.dirCe s p code loc ps).mem = s.mem := by
  grind [State.dirCe, setFld_mem, degrade_mem, autoReshape_mem, ce_mem, addFld_mem, dirLastErr_mem]
theorem rebuildCtl_mem (s : State) (port : Nat) (set : Nat) : (State.rebuildCtl s port set).mem = s.mem := by grind [State.rebuildCtl, setDirCtl_mem]
theorem dirCtlError_mem (s : State) (p : Nat) (set : Nat) (o : DirOutcome) : (State.dirCtlError s p set o).mem = s.mem := by
  unfold State.dirCtlError; grind [rebuildCtl_mem, addFld_mem, dirCe_mem]
theorem dirError_mem (s : State) (p : Nat) (set : Nat) (x3 : Nat) (o : DirOutcome) : (State.dirError s p set x3 o).mem = s.mem := by
  grind [State.dirError, dirCtlError_mem, spendFree_mem, dirLastErr_mem, ueP_mem, addFld_mem, dirCe_mem, fireInject_mem]
theorem queueRecalls_mem (s : State) (x1 : List Recall) : (State.queueRecalls s x1).mem = s.mem := by
  fun_induction State.queueRecalls s x1 <;> grind [modHome_mem]
theorem dirEvict_mem (s : State) (p : Nat) (key : Nat) (span : Nat) (e : DirEntry) (u : State) (h : State.dirEvict s p key span e = some u) : u.mem = s.mem := by
  grind [State.dirEvict, countUncore_mem, addFld_mem, queueRecalls_mem, modHome_mem]
theorem clearWay_mem (s : State) (port : Nat) (set : Nat) (x3 : Nat) (u : State) (h : State.clearWay s port set x3 = some u) : u.mem = s.mem := by
  grind [State.clearWay, dirEvict_mem, dirFree_mem, dirError_mem]
theorem roomLast_mem (own : List Nat) (s : State) (port : Nat) (set : Nat) (x4 : Nat) (u : State) (h : State.roomLast own s port set x4 = some u) : u.mem = s.mem := by
  grind [State.roomLast, clearWay_mem, dirFree_mem]
theorem insertEntry_mem (room : State → Nat → Nat → Nat → Option State) (hr : ∀ s p q w u, room s p q w = some u → u.mem = s.mem)
    (s : State) (key : Nat) (e : DirEntry) (u : State) (h : s.insertEntry room key e = some u) : u.mem = s.mem := by
  unfold State.insertEntry at h
  dsimp only at h
  split at h
  · cases h
  · split at h
    · cases h; rw [dirPut_mem]
    · exact map_mem _ (fun s => dirPut_mem _ _ _ _ _ _ _) (fun u hu => hr _ _ _ _ _ hu) h
theorem insertParts_mem (room : State → Nat → Nat → Nat → Option State) (hr : ∀ s p q w u, room s p q w = some u → u.mem = s.mem)
    (l : List (Nat × DirEntry)) (s u : State) (h : s.insertParts room l = some u) : u.mem = s.mem := by
  induction l generalizing s with
  | nil => cases h; rfl
  | cons p l ih =>
    obtain ⟨k, e⟩ := p
    unfold State.insertParts at h
    split at h
    · exact ih _ h
    · split at h
      · cases h
      · rename_i hs
        rw [ih _ h, insertEntry_mem _ hr _ _ _ _ hs]
theorem moveGroup_mem (room : List Nat → State → Nat → Nat → Nat → Option State)
    (hr : ∀ own s p q w u, room own s p q w = some u → u.mem = s.mem) (s : State) (g : List OldWay) (u : State)
    (h : s.moveGroup room g = some u) : u.mem = s.mem := by
  unfold State.moveGroup at h
  exact map_mem _ (fun s => freeGroup_mem _ _ _) (fun u hu => insertParts_mem _ (hr _) _ _ _ hu) h
theorem roomFirst_mem (own : List Nat) (s : State) (port set w : Nat) (t : State) (h : State.roomFirst own s port set w = some t) :
    t.mem = s.mem := by
  unfold State.roomFirst at h
  split at h
  · cases h; rw [dirFree_mem]
  · dsimp only at h
    split at h
    · cases h; rw [dirFree_mem, dirError_mem]
    · split at h
      · split at h
        · rw [clearWay_mem _ _ _ _ _ h, dirError_mem]
        · split at h
          · cases h
          · rename_i hm
            rw [roomLast_mem _ _ _ _ _ _ h, moveGroup_mem _ (fun o s p q w u hu => roomLast_mem _ _ _ _ _ _ hu) _ _ _ hm, dirError_mem]
      · rw [clearWay_mem _ _ _ _ _ h, dirError_mem]
theorem dirAlloc_mem (s : State) (a : LineAddr) (e : DirEntry) (t : State) (h : s.dirAlloc a e = some t) : t.mem = s.mem := by
  unfold State.dirAlloc at h
  dsimp only at h
  by_cases ho : ownersDiffer (if s.reshaping && decide (s.oldLayout.span < s.newLayout.span) then s.oldGroup (dirKey a s.oldLayout.span) else []) = true
  · rw [if_pos ho] at h; cases h
  · rw [if_neg ho] at h
    exact map_mem _ (fun s => by grind [addFld_mem, freeGroup_mem])
      (fun u hu => insertEntry_mem _ (fun s p q w u hu => roomFirst_mem _ _ _ _ _ _ hu) _ _ _ _ hu) h
theorem dirWrite_mem (s : State) (l : Layout) (port : Nat) (set : Nat) (x4 : Nat) (quot : Nat) (e : DirEntry) : (State.dirWrite s l port set x4 quot e).mem = s.mem := by
  grind [State.dirWrite, dirPut_mem, dirFree_mem]
theorem dirUpdate_mem (s : State) (n : Nat) (a : LineAddr) (f : Nat → DirEntry → DirEntry) (t : State)
    (h : s.dirUpdate n a f = some t) : t.mem = s.mem := by
  unfold State.dirUpdate at h
  split at h
  · grind [dirAlloc_mem]
  · grind [modHome_mem]
  · dsimp only at h
    split at h
    · exact moveGroup_mem _ (fun o s p q w u hu => roomFirst_mem _ _ _ _ _ _ hu) _ _ _ h
    · cases h; rw [dirWrite_mem]
theorem dirSet_mem (s : State) (n : Nat) (a : LineAddr) (f : Nat → DirEntry → DirEntry) (u : State) (h : State.dirSet s n a f = some u) : u.mem = s.mem := by
  grind [State.dirSet, dirUpdate_mem]
theorem recordOwnerState_mem (s : State) (n : Nat) (a : LineAddr) (k : Nat) (st : Nat) (u : State) (h : State.recordOwnerState s n a k st = some u) : u.mem = s.mem := by
  grind [State.recordOwnerState, dirSet_mem, modPres_mem, modRec_mem]
theorem applyNoOwner_mem (s : State) (n : Nat) (t : HTxn) (u : State) (h : State.applyNoOwner s n t = some u) : u.mem = s.mem := by
  grind [State.applyNoOwner, recordOwnerState_mem]
theorem applyProfiles_mem (s : State) (x1 : List Nat) : (State.applyProfiles s x1).mem = s.mem := by
  fun_induction State.applyProfiles s x1 <;> grind [emit_mem, setFld_mem]
theorem applyRoles_mem (s : State) (x1 : List Nat) : (State.applyRoles s x1).mem = s.mem := by
  fun_induction State.applyRoles s x1 <;> grind [setLinkState_mem, emit_mem, setFld_mem]
theorem armMonitor_mem (s : State) (x1 : Hdr) : (State.armMonitor s x1).mem = s.mem := by grind [State.armMonitor]
theorem tlpOut_mem (s : State) (n : Nat) (bytes : Nat) : (State.tlpOut s n bytes).mem = s.mem := by grind [State.tlpOut, octetCount_mem]
theorem epfOut_mem (s : State) (t : Tlp) : (State.epfOut s t).mem = s.mem := by grind [State.epfOut, modEpf_mem, tlpOut_mem]
theorem askDescriptor_mem (s : State) (i : Nat) : (State.askDescriptor s i).mem = s.mem := by grind [State.askDescriptor, epfOut_mem, modEpf_mem]
theorem passCommand_mem (s : State) (c : Command) (p : Nat) : (State.passCommand s c p).mem = s.mem := by grind [State.passCommand, sendMgmt_mem]
theorem passAll_mem (s : State) (c : Command) (x2 : List Nat) : (State.passAll s c x2).mem = s.mem := by
  fun_induction State.passAll s c x2 <;> grind [passCommand_mem]
theorem askMembers_mem (s : State) (c : Command) (phase : Nat) (ps : List Nat) : (State.askMembers s c phase ps).mem = s.mem := by
  grind [State.askMembers, passAll_mem]
theorem sendReq_mem (s : State) (t : Nat) (m : Msg) : (State.sendReq s t m).mem = s.mem := by grind [State.sendReq, countEv_mem, send_mem]
theorem askOwner_mem (s : State) (t : Nat) (page : Nat) (realm : Realm) : (State.askOwner s t page realm).mem = s.mem := by
  grind [State.askOwner, sendReq_mem, modThread_mem, modCore_mem, State.takeTid]
theorem askRealign_mem (s : State) (off : ℤ) : (State.askRealign s off).mem = s.mem := by grind [State.askRealign, sendMgmt_mem]
theorem emitStamped_mem (s : State) (stamp : Word) (die : Nat) (src : Nat) (code : Nat) (realm : Nat) (ps : List Nat) : (State.emitStamped s stamp die src code realm ps).mem = s.mem := by
  grind [State.emitStamped, enqueueRec_mem]
theorem refuseState_mem (s : State) (c : Command) : (State.refuseState s c).mem = s.mem := by
  grind [State.refuseState, emit_mem, emitStamped_mem, complete_mem]
theorem sealFailed_mem (s : State) (c : Command) (f : Nat × Nat) : (State.sealFailed s c f).mem = s.mem := by grind [State.sealFailed, emit_mem]
theorem chgRecs_mem (s : State) (origin : BitVec 16) (off : Nat) (outcome : Nat) (old : Word) (new : Word) : (State.chgRecs s origin off outcome old new).mem = s.mem := by
  grind [State.chgRecs, emitOrigin_mem]
theorem setLogged_mem (s : State) (origin : BitVec 16) (off : Nat) (x3 : Word) : (State.setLogged s origin off x3).mem = s.mem := by
  grind [State.setLogged, setReg_mem, chgRecs_mem]
theorem keyLogged_mem (s : State) (old : Nat) (r : Nat) : (State.keyLogged s old r).mem = s.mem := by grind [State.keyLogged, emitOrigin_mem]
theorem genKey_mem (s : State) (slot : Nat) (half : Nat) : (State.genKey s slot half).mem = s.mem := by grind [State.genKey]
theorem keyRead_mem (s : State) (slot : Nat) : (State.keyRead s slot).mem = s.mem := by grind [State.keyRead, ce_mem, ueP_mem]
theorem keyCreate_mem (s : State) (r : Nat) : (State.keyCreate s r).mem = s.mem := by
  grind [State.keyCreate, keyRead_mem, genKey_mem, setFld_mem, addFld_mem, keyLogged_mem]
theorem wrongPath_mem (s : State) (t : Nat) : (State.wrongPath s t).mem = s.mem := by
  grind [State.wrongPath, modCore_mem, modDie_mem, modThread_mem, spendFree_mem]
theorem countFree_mem (s : State) (t : Nat) (ev : Nat) (limit : Nat) : (State.countFree s t ev limit).mem = s.mem := by
  grind [State.countFree, countFrom_mem, spendFree_mem]
theorem countWrongPath_mem (s : State) (t : Nat) : (State.countWrongPath s t).mem = s.mem := by grind [State.countWrongPath, countFree_mem]
theorem squash_mem (s : State) (t : Nat) : (State.squash s t).mem = s.mem := by grind [State.squash, countWrongPath_mem, wrongPath_mem]
theorem saveLine_mem (s : State) (t : Nat) (pa : Nat) (realm : Realm) (l : Line) : (State.saveLine s t pa realm l).mem = s.mem := by
  grind [State.saveLine, modCore_mem]
theorem saveCtx_mem (s : State) (t : Nat) (base : Nat) (th : Thread) (i : Nat) (x5 : Nat) : (State.saveCtx s t base th i x5).mem = s.mem := by
  fun_induction State.saveCtx s t base th i x5 <;> grind [saveLine_mem]
theorem parkPending_mem (s : State) (t : Nat) : (State.parkPending s t).mem = s.mem := by grind [State.parkPending, setFld_mem, modThread_mem]
theorem switchPred_mem (s : State) (c : Nat) (left : Nat) (entered : Nat) : (State.switchPred s c left entered).mem = s.mem := by
  grind [State.switchPred, modCore_mem]
theorem closeMb_mem (s : State) (t : Nat) : (State.closeMb s t).mem = s.mem := by grind [State.closeMb, modCore_mem]
theorem exitOne_mem (s : State) (t : Nat) (sub : Nat) (save : Bool) : (State.exitOne s t sub save).mem = s.mem := by
  grind [State.exitOne, modThread_mem, closeMb_mem, switchPred_mem, parkPending_mem, modCore_mem, saveCtx_mem, squash_mem]
theorem exitSoon_mem (s : State) (t : Nat) (sub : Nat) : (State.exitSoon s t sub).mem = s.mem := by grind [State.exitSoon, exitOne_mem, modThread_mem]
theorem stopAll_mem (s : State) (x1 : List Nat) : (State.stopAll s x1).mem = s.mem := by fun_induction State.stopAll s x1 <;> grind [exitSoon_mem]
theorem realmPart'_mem (s : State) (r : Nat) (sweep : Bool) : (State.realmPart' s r sweep).mem = s.mem := by
  grind [State.realmPart', sendMgmt_mem, modRealms_mem]
theorem exitAll_mem (s : State) (x1 : List Nat) : (State.exitAll s x1).mem = s.mem := by fun_induction State.exitAll s x1 <;> grind [exitOne_mem]
theorem countContexts_mem (s : State) (x1 : List Nat) : (State.countContexts s x1).mem = s.mem := by
  fun_induction State.countContexts s x1 <;> grind [setFld_mem]
theorem dropServed_mem (s : State) (p : Nat → Bool) (e : Nat) : (State.dropServed s p e).mem = s.mem := by grind [State.dropServed, setFld_mem]
theorem dropServedAll_mem (s : State) (p : Nat → Bool) (x2 : List Nat) : (State.dropServedAll s p x2).mem = s.mem := by
  fun_induction State.dropServedAll s p x2 <;> grind [dropServed_mem]
theorem stopCtxs_mem (s : State) (p : Nat → Bool) (st : Nat) : (s.stopCtxs p st).mem = s.mem := by
  unfold State.stopCtxs
  dsimp only
  split
  · split <;> simp only [setFld_mem, countContexts_mem, dropServedAll_mem]
  · simp only [countContexts_mem, dropServedAll_mem]
theorem disableCtxs_mem (s : State) (r : Nat) : (State.disableCtxs s r).mem = s.mem := by grind [State.disableCtxs, stopCtxs_mem]
theorem resetLocal_mem (s : State) (r : Nat) : (State.resetLocal s r).mem = s.mem := by grind [State.resetLocal, disableCtxs_mem, exitAll_mem]
theorem flushPreds_mem (s : State) (part : Option Nat) (x2 : List Nat) : (State.flushPreds s part x2).mem = s.mem := by
  fun_induction State.flushPreds s part x2 <;> grind [modCore_mem]
theorem clearPend_mem (s : State) (x1 : List Nat) : (State.clearPend s x1).mem = s.mem := by fun_induction State.clearPend s x1 <;> grind [setFld_mem]
theorem resetRealm_mem (s : State) (r : Nat) : (State.resetRealm s r).mem = s.mem := by
  grind [State.resetRealm, clearPend_mem, flushPreds_mem, resetLocal_mem]
theorem forgetExit_mem (s : State) (t : Nat) (r : Nat) : (State.forgetExit s t r).mem = s.mem := by grind [State.forgetExit, modThread_mem]
theorem unbindAll_mem (s : State) (origin : BitVec 16) (x2 : List Nat) : (State.unbindAll s origin x2).mem = s.mem := by
  fun_induction State.unbindAll s origin x2 <;> grind [forgetExit_mem, setLogged_mem]
theorem beginDestroy_mem (s : State) (r : Nat) (origin : BitVec 16) : (State.beginDestroy s r origin).mem = s.mem := by
  grind [State.beginDestroy, modRealms_mem, unbindAll_mem, disableCtxs_mem]
theorem realmChanged_mem (s : State) (r : Nat) (old : Nat) (new : Nat) (origin : BitVec 16) : (State.realmChanged s r old new origin).mem = s.mem := by
  grind [State.realmChanged, beginDestroy_mem, resetRealm_mem, realmPart'_mem, stopAll_mem, keyCreate_mem, modRealms_mem]
theorem takeRealmWord_mem (s : State) (off : Nat) (x2 : Word) (origin : BitVec 16) : (State.takeRealmWord s off x2 origin).mem = s.mem := by
  grind [State.takeRealmWord, realmChanged_mem, setLogged_mem]
theorem setRealmWord_mem (s : State) (off : Nat) (x2 : Word) (origin : BitVec 16) : (State.setRealmWord s off x2 origin).mem = s.mem := by
  grind [State.setRealmWord, sendAll_mem, takeRealmWord_mem]
theorem writeMins_mem (s : State) (r : Nat) (mins : List Nat) (origin : BitVec 16) (x4 : List Nat) : (State.writeMins s r mins origin x4).mem = s.mem := by
  fun_induction State.writeMins s r mins origin x4 <;> grind [setRealmWord_mem]
theorem sealRealm_mem (s : State) (c : Command) : (State.sealRealm s c).mem = s.mem := by
  grind [State.sealRealm, emit_mem, ok_mem, setRealmWord_mem, writeMins_mem]
theorem createRealm_mem (s : State) (c : Command) (sealing : Bool) : (State.createRealm s c sealing).mem = s.mem := by
  grind [State.createRealm, emit_mem, ok_mem, setRealmWord_mem, writeMins_mem]
theorem sealAnswered_mem (s : State) (c : Command) (status : Nat) : (State.sealAnswered s c status).mem = s.mem := by
  grind [State.sealAnswered, createRealm_mem, sealRealm_mem, refuseState_mem]
theorem askSeal_mem (s : State) (c : Command) : (State.askSeal s c).mem = s.mem := by
  grind [State.askSeal, askMembers_mem, sealAnswered_mem, sealFailed_mem, refuseState_mem]
theorem tlbParity_mem (s : State) (c : Nat) (st : Nat) (set : Nat) (way : Nat) : (State.tlbParity s c st set way).mem = s.mem := by
  grind [State.tlbParity, ce_mem]
theorem dropBadTlb_mem (s : State) (t : Nat) (va : BitVec 57) : (State.dropBadTlb s t va).mem = s.mem := by
  grind [State.dropBadTlb, modCore_mem, tlbParity_mem]
theorem cacheErr_mem (s : State) (c : Nat) (lo : Nat) : (State.cacheErr s c lo).mem = s.mem := by grind [State.cacheErr, modCore_mem]
theorem wakeCore_mem (s : State) (c : Nat) (a : LineAddr) : (State.wakeCore s c a).mem = s.mem := by grind [State.wakeCore, wakeThread_mem]
theorem ueR_mem (s : State) (die : Nat) (src : Nat) (code : Nat) (codeP : Nat) (r : Nat) (ps : List Nat) : (State.ueR s die src code codeP r ps).mem = s.mem := by
  grind [State.ueR, resetLocal_mem, modRealms_mem, raiseEvent_mem, noticeDue_mem, emit_mem, addFld_mem, noteUe_mem, ueP_mem]
theorem l2Check_mem (s : State) (c : Nat) (a : LineAddr) (snoop : Bool) : (State.l2Check s c a snoop).1.mem = s.mem := by
  grind [State.l2Check, ueR_mem, wakeCore_mem, modDie_mem, setCore_mem, modCore_mem, cacheErr_mem, ce_mem, ueP_mem, fireInject_mem]
theorem l2Read_mem (s : State) (c : Nat) (a : LineAddr) : (State.l2Read s c a).1.mem = s.mem := by grind [State.l2Read, modCore_mem, l2Check_mem]
theorem ebCheck_mem (s : State) (c : Nat) (a : LineAddr) : (State.ebCheck s c a).1.mem = s.mem := by
  grind [State.ebCheck, ueR_mem, modCore_mem, cacheErr_mem, ce_mem, fireInject_mem]
theorem l1Fill_mem (s : State) (c : Nat) (a : LineAddr) (d : Line) (realm : Realm) (instr : Bool) (u : State) (h : State.l1Fill s c a d realm instr = some u) : u.mem = s.mem := by
  grind [State.l1Fill, setCore_mem, wakeCore_mem, modCore_mem]
theorem fillCore_mem (s : State) (c : Nat) (a : LineAddr) (st : CState) (realm : Realm) (d : Line) (instr : Bool) (t : State)
    (h : s.fillCore c a st realm d instr = some t) : t.mem = s.mem := by
  unfold State.fillCore at h
  split at h
  · split at h
    · cases h
    · cases h
      rw [modDie_mem, foldl_mem _ (fun s l => wakeCore_mem _ _ _), setCore_mem]
  · exact map_mem _ (fun s => modDie_mem _ _ _) (fun u hu => l1Fill_mem _ _ _ _ _ _ _ hu) h
theorem cancelEvict_mem (s : State) (c : Nat) (a : LineAddr) : (State.cancelEvict s c a).1.mem = s.mem := by
  grind [State.cancelEvict, modCore_mem, fillCore_mem, ebCheck_mem]
theorem sfCorrect_mem (s : State) (die : Nat) (a : LineAddr) (realm : Realm) : (State.sfCorrect s die a realm).mem = s.mem := by
  grind [State.sfCorrect, modDie_mem, ce_mem]
theorem checkHolder_mem (s : State) (c : Nat) (a : LineAddr) : (State.checkHolder s c a).mem = s.mem := by
  grind [State.checkHolder, ebCheck_mem, l2Check_mem]
theorem copyFromCore_mem (s : State) (c o : Nat) (a : LineAddr) (realm : Realm) (instr : Bool) :
    (s.copyFromCore c o a realm instr).1.mem = s.mem := by
  unfold State.copyFromCore
  dsimp only
  split
  · rw [checkHolder_mem]
  · split
    · rw [checkHolder_mem]
    · rename_i hf
      rw [modDie_mem, modCore_mem, fillCore_mem _ _ _ _ _ _ _ _ hf, checkHolder_mem]
theorem useCredit_mem (s : State) (die : Nat) (n : Nat) (pool : Nat) : (State.useCredit s die n pool).mem = s.mem := by grind [State.useCredit, modDie_mem]
theorem sendCredited_mem (s : State) (t : Nat) (pool : Nat) (m : Msg) : (State.sendCredited s t pool m).1.mem = s.mem := by
  grind [State.sendCredited, useCredit_mem, sendReq_mem]
theorem sendLineReq_mem (s : State) (t : Nat) (kind : MsgType) (a : LineAddr) (held : CState) (realm : Realm) (instr : Bool) : (State.sendLineReq s t kind a held realm instr).mem = s.mem := by
  grind [State.sendLineReq, modDie_mem, modCore_mem, sendCredited_mem, State.takeTid]
theorem snoopWake_mem (s : State) (t : Nat) (a : LineAddr) : (State.snoopWake s t a).mem = s.mem := by grind [State.snoopWake, localEvent_mem]
theorem snoopWakes_mem (s : State) (c : Nat) (a : LineAddr) : (State.snoopWakes s c a).mem = s.mem := by grind [State.snoopWakes, snoopWake_mem]
theorem takeCopy_mem (s : State) (c : Nat) (a : LineAddr) : (State.takeCopy s c a).mem = s.mem := by
  grind [State.takeCopy, snoopWakes_mem, modDie_mem, modCore_mem]
theorem takeCopies_mem (s : State) (die : Nat) (a : LineAddr) (x3 : List Nat) : (State.takeCopies s die a x3).mem = s.mem := by
  fun_induction State.takeCopies s die a x3 <;> grind [takeCopy_mem]
theorem l3Evict_mem (s : State) (die : Nat) (v : CLine) (u : State) (h : State.l3Evict s die v = some u) : u.mem = s.mem := by
  grind [State.l3Evict, countUncore_mem, send_mem, modDie_mem, useCredit_mem, modCore_mem, State.takeTid]
theorem l3Install_mem (s : State) (die : Nat) (v : CLine) (t : State) (h : s.l3Install die v = some t) : t.mem = s.mem := by
  unfold State.l3Install at h
  dsimp only at h
  split at h
  · cases h; rw [countUncore_mem, modDie_mem]
  · split at h
    · cases h
    · split at h
      · cases h; rw [countUncore_mem, modDie_mem]
      · split at h
        · cases h
        · rename_i u hu
          cases h; rw [countUncore_mem, modDie_mem, l3Evict_mem _ _ _ _ hu]
theorem sfReplace_mem (s : State) (die : Nat) (a : LineAddr) (e : SfEntry) : (State.sfReplace s die a e).1.mem = s.mem := by
  grind [State.sfReplace, l3Evict_mem, l3Install_mem, modDie_mem, l2Check_mem, takeCopies_mem]
theorem sfRoom_mem (s : State) (die : Nat) (a : LineAddr) : (State.sfRoom s die a).1.mem = s.mem := by grind [State.sfRoom, sfReplace_mem]
theorem l3Lookup_mem (s : State) (die : Nat) (a : LineAddr) (realm : Realm) : (State.l3Lookup s die a realm).mem = s.mem := by
  grind [State.l3Lookup, countUncore_mem]
theorem l3Check_mem (s : State) (die : Nat) (a : LineAddr) : (State.l3Check s die a).1.mem = s.mem := by
  grind [State.l3Check, ueR_mem, send_mem, modCore_mem, ce_mem, modDie_mem, addFld_mem, ueP_mem, setReg_mem, fireInject_mem, State.takeTid]
theorem l3Read_mem (s : State) (die : Nat) (a : LineAddr) : (State.l3Read s die a).1.mem = s.mem := by
  grind [State.l3Read, countUncore_mem, modDie_mem, l3Check_mem]
theorem copyFromL3_mem (s : State) (c : Nat) (a : LineAddr) (own : Bool) (realm : Realm) (instr : Bool) :
    (s.copyFromL3 c a own realm instr).1.mem = s.mem := by
  unfold State.copyFromL3
  dsimp only
  split
  · rw [l3Read_mem]
  · split
    · split
      · rw [l3Read_mem]
      · rename_i hf
        rw [modDie_mem, fillCore_mem _ _ _ _ _ _ _ _ hf, l3Read_mem]
    · split
      · rw [l3Read_mem]
      · rename_i hf
        dsimp only
        split
        · rw [modDie_mem, fillCore_mem _ _ _ _ _ _ _ _ hf, l3Read_mem]
        · rw [fillCore_mem _ _ _ _ _ _ _ _ hf, l3Read_mem]
theorem getShared_mem (s : State) (t : Nat) (a : LineAddr) (realm : Realm) (use : LineUse) : (s.getShared t a realm use).1.mem = s.mem := by
  unfold State.getShared
  dsimp only
  split
  · split
    · rw [modCore_mem]
    · rfl
  · split
    · split
      · rw [l2Read_mem]
      · split
        · rw [l2Read_mem]
        · split
          · rw [l2Read_mem]
          · cases h : Core.evict _ _ _ <;> simp only [Option.elim, wakeCore_mem, setCore_mem, l2Read_mem]
    · split
      · split
        · rw [l2Read_mem]
        · rw [cancelEvict_mem, l2Read_mem]
      · split
        · split
          · rw [ueP_mem, modThread_mem, l2Read_mem]
          · split
            · rw [sfCorrect_mem, modThread_mem, l2Read_mem]
            · split
              · rw [copyFromCore_mem, sfCorrect_mem, modThread_mem, l2Read_mem]
              · dsimp only; rw [sendLineReq_mem, sfCorrect_mem, modThread_mem, l2Read_mem]
        · split
          · rw [sfRoom_mem, modThread_mem, l2Read_mem]
          · split
            · rw [copyFromL3_mem, l3Lookup_mem, sfRoom_mem, modThread_mem, l2Read_mem]
            · dsimp only; rw [sendLineReq_mem, l3Lookup_mem, sfRoom_mem, modThread_mem, l2Read_mem]
theorem loadLine_mem (s : State) (t : Nat) (a : LineAddr) (realm : Realm) : (State.loadLine s t a realm).1.mem = s.mem := by
  grind [State.loadLine, modThread_mem, getShared_mem, modCore_mem, cacheErr_mem, ce_mem, fireInject_mem]
theorem readEntry_mem (s : State) (t : Nat) (ea : Nat) : (State.readEntry s t ea).1.mem = s.mem := by grind [State.readEntry, loadLine_mem, getShared_mem]
theorem checkOwner_mem (s : State) (t : Nat) (pa : Nat) : (State.checkOwner s t pa).1.mem = s.mem := by grind [State.checkOwner, askOwner_mem]
theorem walkLeaf_mem (s : State) (t : Nat) (va : BitVec 57) (k : AccKind) (lvl : Nat) (ea : Nat) (e : Word) : (State.walkLeaf s t va k lvl ea e).1.mem = s.mem := by
  grind [State.walkLeaf, countEv_mem, modCore_mem, modThread_mem, checkOwner_mem]
theorem walk_mem (s : State) (t : Nat) (va : BitVec 57) (k : AccKind) (table : Nat) (x5 : Nat) : (State.walk s t va k table x5).1.mem = s.mem := by
  fun_induction State.walk s t va k table x5 <;> grind [modCore_mem, walkLeaf_mem, readEntry_mem, modThread_mem]
theorem startWalk_mem (s : State) (t : Nat) (va : BitVec 57) (k : AccKind) : (State.startWalk s t va k).1.mem = s.mem := by
  grind [State.startWalk, walk_mem, modCore_mem, tlbParity_mem, modThread_mem]
theorem fromL2Tlb_mem (s : State) (t : Nat) (va : BitVec 57) (k : AccKind) (e : Tlb) : (State.fromL2Tlb s t va k e).1.mem = s.mem := by
  grind [State.fromL2Tlb, modCore_mem, startWalk_mem, checkOwner_mem]
theorem translateOn_mem (s : State) (t : Nat) (va : BitVec 57) (k : AccKind) : (State.translateOn s t va k).1.mem = s.mem := by
  grind [State.translateOn, fromL2Tlb_mem, startWalk_mem, modCore_mem, dropBadTlb_mem]
theorem translate_mem (s : State) (t : Nat) (va : Word) (k : AccKind) : (State.translate s t va k).1.mem = s.mem := by
  grind [State.translate, translateOn_mem]
theorem refusedFault_mem (s : State) (t : Nat) (va : Word) (code : Nat) : (State.refusedFault s t va code).1.mem = s.mem := by
  grind [State.refusedFault, modThread_mem, modCore_mem]
theorem onePiece_mem (s : State) (t : Nat) (va : Word) (len : Nat) (k : AccKind) (form : AccForm) (aligned : Bool) : (State.onePiece s t va len k form aligned).1.mem = s.mem := by
  grind [State.onePiece, refusedFault_mem, translate_mem]
theorem pieces_mem (s : State) (t : Nat) (va : Word) (n : Nat) (k : AccKind) (form : AccForm) : (State.pieces s t va n k form).1.mem = s.mem := by
  grind [State.pieces, onePiece_mem]
theorem realmExit_mem (s : State) (t : Nat) (sub : Nat) : (State.realmExit s t sub).mem = s.mem := by grind [State.realmExit, exitOne_mem, exitSoon_mem]
theorem raise_mem (s : State) (t : Nat) (e : Exc) (after : Bool) : (State.raise s t e after).mem = s.mem := by
  grind [State.raise, realmExit_mem, modThread_mem, ueP_mem, countEv_mem, squash_mem, closeMb_mem]
theorem wantDrain_mem (s : State) (t : Nat) : (State.wantDrain s t).mem = s.mem := by grind [State.wantDrain, modThread_mem]
theorem atomRun_mem (s : State) (t : Nat) (op : AtomOp) (wide : Bool) (ord : BitVec 2) (rd : BitVec 5) (va : Word) (operand : Word) (compare : Word) :
    (State.atomRun s t op wide ord rd va operand compare).mem = s.mem := by
  grind [State.atomRun, modThread_mem, sendCredited_mem, modCore_mem, closeMb_mem, wantDrain_mem, raise_mem, pieces_mem, State.sendAndWait, State.takeTid]

end Sys2Proof.Machine
end

