-- ==== Sys2Proof/Laws/MemSameB.lean ====
section
/-! SUPPORT. Which operations leave DRAM as it is (part 2 of 4): one lemma per operation of the machine. -/
set_option Elab.async false
namespace Sys2Proof.Machine
open Sys2Proof

theorem attribute_mem (s : State) (n : Nat) (x2 : List (Fin 8 × Nat)) : (State.attribute s n x2).mem = s.mem := by
  fun_induction State.attribute s n x2 <;> grind [modLink_mem]
theorem saveKeys_mem (s : State) : (State.saveKeys s).mem = s.mem := by grind [State.saveKeys]
theorem beginAccept_mem (s : State) (c : Command) : (State.beginAccept s c).mem = s.mem := by
  grind [State.beginAccept, modEpf_mem, mirrorSlots_mem, setReg_mem, saveKeys_mem]
theorem disableL3_mem (s : State) (die : Nat) : (State.disableL3 s die).mem = s.mem := by grind [State.disableL3, setFld_mem, modDie_mem]
theorem flushDies_mem (s : State) (x1 : List Nat) : (State.flushDies s x1).mem = s.mem := by
  fun_induction State.flushDies s x1 <;> grind [disableL3_mem]
theorem disableL2_mem (s : State) (c : Nat) : (State.disableL2 s c).mem = s.mem := by grind [State.disableL2, modCore_mem]
theorem flushCores_mem (s : State) (x1 : List Nat) : (State.flushCores s x1).mem = s.mem := by
  fun_induction State.flushCores s x1 <;> grind [disableL2_mem]
theorem flushAll_mem (s : State) : (State.flushAll s).mem = s.mem := by grind [State.flushAll, flushCores_mem, flushDies_mem]
theorem beginDrain_mem (s : State) (c : Command) (leaving : Bool) (now : Bool) : (State.beginDrain s c leaving now).mem = s.mem := by
  grind [State.beginDrain, flushAll_mem, enterMode_mem]
theorem flushL2_mem (s : State) (c : Nat) : (s.flushL2 c).mem = s.mem := by
  unfold State.flushL2
  dsimp only
  split
  · rw [foldl_mem _ (fun s l => wakeCore_mem _ _ _), setCore_mem]
  · rfl
theorem beginFlushL2_mem (s : State) (c : Nat) : (State.beginFlushL2 s c).mem = s.mem := by grind [State.beginFlushL2, modCore_mem, flushL2_mem]
theorem flushL3_mem (s : State) (die : Nat) (x2 : Nat) : (State.flushL3 s die x2).mem = s.mem := by
  fun_induction State.flushL3 s die x2 <;> grind [modDie_mem, l3Evict_mem]
theorem flushL3All_mem (s : State) (die : Nat) : (State.flushL3All s die).mem = s.mem := by grind [State.flushL3All, flushL3_mem]
theorem beginFlushL3_mem (s : State) (die : Nat) : (State.beginFlushL3 s die).mem = s.mem := by
  grind [State.beginFlushL3, modDie_mem, setFld_mem, flushL3All_mem]
theorem beginFlushes2_mem (s : State) (x1 : List Nat) : (State.beginFlushes2 s x1).mem = s.mem := by
  fun_induction State.beginFlushes2 s x1 <;> grind [beginFlushL2_mem]
theorem beginFlushes3_mem (s : State) (x1 : List Nat) : (State.beginFlushes3 s x1).mem = s.mem := by
  fun_induction State.beginFlushes3 s x1 <;> grind [beginFlushL3_mem]
theorem startLong_mem (s : State) (c : Command) : (State.startLong s c).1.mem = s.mem := by grind [State.startLong, pushCompletion_mem]
theorem beginJoin_mem (s : State) (c : Command) (regime : Nat) (minPkg : Nat) (table : List (Word × Nat)) (re : Bool) : (State.beginJoin s c regime minPkg table re).mem = s.mem := by
  grind [State.beginJoin, floodMgmt_mem, enterMode_mem, setFld_mem, startLong_mem]
theorem stopMaster_mem (s : State) : (State.stopMaster s).1.mem = s.mem := by grind [State.stopMaster, abandon_mem, modEpf_mem]
theorem resetRegs_mem (s : State) (x1 : List Nat) : (State.resetRegs s x1).mem = s.mem := by fun_induction State.resetRegs s x1 <;> grind [setReg_mem]
theorem dropCompletions_mem (s : State) (x1 : List Completion) : (State.dropCompletions s x1).mem = s.mem := by
  fun_induction State.dropCompletions s x1 <;> grind [notOutstanding_mem, emit_mem]
theorem finishReset_mem (s : State) (kind : Nat) (aborted : Nat) : (State.finishReset s kind aborted).mem = s.mem := by
  grind [State.finishReset, emit_mem, setFld_mem, modEpf_mem, dropCompletions_mem, resetRegs_mem]
theorem beginReset_mem (s : State) (kind : Nat) : (State.beginReset s kind).mem = s.mem := by
  grind [State.beginReset, modEpf_mem, finishReset_mem, setFld_mem, stopMaster_mem]
theorem beginSweep_mem (s : State) (r : Nat) : (State.beginSweep s r).mem = s.mem := by
  grind [State.beginSweep, setReg_mem, modRealms_mem, emit_mem, keyRead_mem, genKey_mem, setFld_mem, addFld_mem, keyLogged_mem]
theorem homLast_mem (s : State) (n : Nat) (code : Nat) (a : LineAddr) : (State.homLast s n code a).mem = s.mem := by grind [State.homLast, setReg_mem]
theorem presCheck_mem (s : State) (n : Nat) (a : LineAddr) : (State.presCheck s n a).1.mem = s.mem := by
  grind [State.presCheck, ueP_mem, modPres_mem, homLast_mem, ce_mem]
theorem homeCount_mem (s : State) (n : Nat) (ev : Nat) (k : Nat) (r : Realm) : (State.homeCount s n ev k r).mem = s.mem := by
  grind [State.homeCount, countUncore_mem]
theorem refusalRecord_mem (s : State) (die : Nat) (src : Nat) (agent : Nat) (rank : Nat) (page : Nat) (realm : Nat) : (State.refusalRecord s die src agent rank page realm).mem = s.mem := by
  grind [State.refusalRecord, emit_mem]
theorem notePending_mem (s : State) (n : Nat) : (State.notePending s n).mem = s.mem := by grind [State.notePending, setFld_mem]
theorem leavePool_mem (s : State) (n : Nat) (pool : Nat) (key : Nat) : (State.leavePool s n pool key).mem = s.mem := by
  grind [State.leavePool, modHome_mem, notePending_mem]
theorem respond_mem (s : State) (n : Nat) (ty : MsgType) (x3 : Hdr) (g : CState) (fl : Flags) (b : Body) : (State.respond s n ty x3 g fl b).mem = s.mem := by
  grind [State.respond, send_mem, leavePool_mem]
theorem refuse_mem (s : State) (n : Nat) (r : HReq) : (State.refuse s n r).mem = s.mem := by grind [State.refuse, respond_mem, refusalRecord_mem]
theorem putTxn_mem (s : State) (n : Nat) (t : HTxn) : (State.putTxn s n t).mem = s.mem := by grind [State.putTxn, modHome_mem]
theorem beginTxn_mem (s : State) (n : Nat) (r : HReq) : (State.beginTxn s n r).mem = s.mem := by
  grind [State.beginTxn, putTxn_mem, refuse_mem, homeCount_mem, presCheck_mem]
theorem engineErr_mem (s : State) (e : Nat) (code : Nat) (status : Nat) (c : Nat) : (State.engineErr s e code status c).mem = s.mem := by
  grind [State.engineErr, setReg_mem]
theorem setCtxState_mem (s : State) (c : Nat) (st : Nat) : (State.setCtxState s c st).mem = s.mem := by
  grind [State.setCtxState, setCtx_mem, countContexts_mem]
theorem ctxFail_mem (s : State) (c : Nat) (status : Nat) : (State.ctxFail s c status).mem = s.mem := by
  grind [State.ctxFail, setCtxState_mem, engineErr_mem, emit_mem]
theorem engineIdle_mem (s : State) (e : Nat) : (State.engineIdle s e).mem = s.mem := by grind [State.engineIdle, setEngine_mem, setFld_mem]
theorem engineCount_mem (s : State) (e : Nat) (ev : Nat) (k : Nat) (r : Nat) : (State.engineCount s e ev k r).mem = s.mem := by
  grind [State.engineCount, countUncore_mem]
theorem countCaps_mem (s : State) (e : Nat) (x2 : List Nat) : (State.countCaps s e x2).mem = s.mem := by
  fun_induction State.countCaps s e x2 <;> grind [engineCount_mem]
theorem ctxCheck_mem (s : State) (c : Nat) : (State.ctxCheck s c).1.mem = s.mem := by
  grind [State.ctxCheck, stopCtxs_mem, ueR_mem, engineErr_mem, ce_mem]
theorem serve_mem (s : State) (e : Nat) (c : Nat) : (State.serve s e c).mem = s.mem := by
  grind [State.serve, setFld_mem, setEngine_mem, setCtxRun_mem, setReg_mem]
theorem choose_mem (s : State) (e : Nat) : (State.choose s e).mem = s.mem := by
  grind [State.choose, setEngine_mem, serve_mem, ctxCheck_mem, countCaps_mem, engineIdle_mem]
theorem kick_mem (s : State) (e : Nat) : (State.kick s e).mem = s.mem := by grind [State.kick, choose_mem]
theorem bellAct_mem (s : State) (e c : Nat) (l : Line) : (s.bellAct e c l).mem = s.mem := by
  unfold State.bellAct
  dsimp only
  split
  · rfl
  · split
    · split
      · rfl
      · rw [ctxFail_mem, setCtxRun_mem]
    · rw [kick_mem]
      split
      · rw [setCtxState_mem, setCtx_mem, setCtx_mem, setCtxRun_mem]
      · rw [setCtx_mem, setCtxRun_mem]
theorem bellAll_mem (s : State) (e : Nat) (x2 : List Nat) : (State.bellAll s e x2).mem = s.mem := by
  fun_induction State.bellAll s e x2 <;> grind [localEvent_mem]
theorem bellRefused_mem (s : State) (c : Nat) : (State.bellRefused s c).mem = s.mem := by grind [State.bellRefused, setCtxRun_mem, ctxFail_mem]
theorem bindThread_mem (s : State) (r : Nat) (ctx : Nat) (t : Nat) (origin : BitVec 16) : (State.bindThread s r ctx t origin).mem = s.mem := by
  grind [State.bindThread, forgetExit_mem, setLogged_mem]
theorem bindThreads_mem (s : State) (r : Nat) (ctx : Nat) (origin : BitVec 16) (x4 : List Nat) : (State.bindThreads s r ctx origin x4).mem = s.mem := by
  fun_induction State.bindThreads s r ctx origin x4 <;> grind [bindThread_mem]
theorem busMasterOff_mem (s : State) : (State.busMasterOff s).mem = s.mem := by grind [State.busMasterOff, emit_mem, stopMaster_mem]
theorem issueReads_mem (s : State) (x1 : Nat) : (State.issueReads s x1).mem = s.mem := by
  fun_induction State.issueReads s x1 <;> grind [askDescriptor_mem]
theorem sendMsix_mem (s : State) (v : Nat) : (State.sendMsix s v).mem = s.mem := by grind [State.sendMsix, epfOut_mem, modEpf_mem]
theorem noticeResume_mem (s : State) : (State.noticeResume s).mem = s.mem := by grind [State.noticeResume, modEpf_mem, sendMsix_mem]
theorem busMasterOn_mem (s : State) : (State.busMasterOn s).mem = s.mem := by grind [State.busMasterOn, modEpf_mem, noticeResume_mem, issueReads_mem]
theorem cachePiece_mem (s : State) (t : Nat) (va : Word) (k : AccKind) (form : AccForm) : (State.cachePiece s t va k form).1.mem = s.mem := by
  grind [State.cachePiece, onePiece_mem]
theorem sendCmpAck_mem (s : State) (c : Nat) (x : Txn) : (State.sendCmpAck s c x).mem = s.mem := by grind [State.sendCmpAck, send_mem]
theorem endTxn_mem (s : State) (c : Nat) (x : Txn) : (State.endTxn s c x).mem = s.mem := by grind [State.endTxn, modCore_mem, modDie_mem]
theorem removeCopy_mem (s : State) (die : Nat) (a : LineAddr) (p : Copy) : (State.removeCopy s die a p).mem = s.mem := by
  grind [State.removeCopy, modCore_mem, snoopWakes_mem, modDie_mem]
theorem removeCopies_mem (s : State) (die : Nat) (a : LineAddr) (x3 : List Copy) : (State.removeCopies s die a x3).mem = s.mem := by
  fun_induction State.removeCopies s die a x3 <;> grind [removeCopy_mem]
theorem dropOthers_mem (s : State) (c : Nat) (a : LineAddr) : (State.dropOthers s c a).mem = s.mem := by grind [State.dropOthers, removeCopies_mem]
theorem tryInstall_mem (s : State) (c : Nat) (tid : BitVec 12) : (s.tryInstall c tid).mem = s.mem := by
  unfold State.tryInstall
  split
  · rfl
  · rename_i x _
    split
    · rfl
    · rename_i g _
      have h1 : (if g = .E ∨ g = .M then s.dropOthers c x.line else s).mem = s.mem := by split <;> simp only [dropOthers_mem]
      split
      · rw [sendCmpAck_mem, endTxn_mem]
      · split
        · rfl
        · split
          · rfl
          · dsimp only
            split
            · split
              · rfl
              · rw [sendCmpAck_mem, endTxn_mem, modDie_mem, setCore_mem, h1]
            · split
              · rfl
              · rename_i hf
                rw [sendCmpAck_mem, endTxn_mem, fillCore_mem _ _ _ _ _ _ _ _ hf, h1]
theorem retryInstalls_mem (s : State) (c : Nat) (x2 : List Txn) : (State.retryInstalls s c x2).mem = s.mem := by
  fun_induction State.retryInstalls s c x2 <;> grind [tryInstall_mem]
theorem retryCores_mem (s : State) (x1 : List Nat) : (State.retryCores s x1).mem = s.mem := by
  fun_induction State.retryCores s x1 <;> grind [retryInstalls_mem]
theorem cacheTick_mem (s : State) : (State.cacheTick s).mem = s.mem := by
  grind [State.cacheTick, beginFlushes2_mem, beginFlushes3_mem, retryCores_mem]
theorem haltError_mem (s : State) (die : Nat) (src : Nat) (code : Nat) (ps : List Nat) : (State.haltError s die src code ps).mem = s.mem := by
  grind [State.haltError, raiseEvent_mem, enterMode_mem, emit_mem, noteUe_mem]
theorem changeRoutes_mem (s : State) (p : Nat) (octet : Nat) : (State.changeRoutes s p octet).mem = s.mem := by
  grind [State.changeRoutes, sendRoutes_mem, sendAll_mem, haltError_mem]
theorem channelHeat_mem (s : State) (n : Nat) (dimm : Nat) (celsius : Nat) : (State.channelHeat s n dimm celsius).mem = s.mem := by
  grind [State.channelHeat, emit_mem, alertUpdate_mem]
theorem channelLost_mem (s : State) (n : Nat) (cause : Nat) : (State.channelLost s n cause).mem = s.mem := by grind [State.channelLost, ueP_mem]
theorem fenceDie_mem (s : State) (d : Nat) (reason : Nat) : (State.fenceDie s d reason).mem = s.mem := by
  grind [State.fenceDie, emit_mem, modDie_mem, setFld_mem]
theorem checkDies_mem (s : State) (x1 : List Nat) : (State.checkDies s x1).mem = s.mem := by
  fun_induction State.checkDies s x1 <;> grind [fenceDie_mem, modDie_mem, emit_mem, setFld_mem, setReg_mem]
theorem checkRings_mem (s : State) (x1 : List Nat) : (State.checkRings s x1).mem = s.mem := by
  fun_induction State.checkRings s x1 <;> grind [setFld_mem, emit_mem]
theorem refuseTicket_mem (s : State) (c : Command) (code : Nat) (status : Nat) (ps : List Nat) : (State.refuseTicket s c code status ps).mem = s.mem := by
  grind [State.refuseTicket, emit_mem, complete_mem]
theorem checkTicket_mem (s : State) (c : Command) (d : List (BitVec 8)) : (State.checkTicket s c d).mem = s.mem := by
  grind [State.checkTicket, beginAccept_mem, accept_mem, refuseTicket_mem]
theorem endHold_mem (s : State) : (State.endHold s).mem = s.mem := by grind [State.endHold, startExchange_mem, setFld_mem]
theorem clauseTick_mem (s : State) : (State.clauseTick s).mem = s.mem := by grind [State.clauseTick, endHold_mem]
theorem retireTo_mem (s : State) (t : Nat) (pc : BitVec 57) (slot : Option (BitVec 57)) : (State.retireTo s t pc slot).mem = s.mem := by
  grind [State.retireTo, countEv_mem, modThread_mem]
theorem retire_mem (s : State) (t : Nat) : (State.retire s t).mem = s.mem := by grind [State.retire, retireTo_mem]
theorem cleanSw2Run_mem (s : State) (t : Nat) (d : Nat × Nat × Nat) : (State.cleanSw2Run s t d).mem = s.mem := by
  grind [State.cleanSw2Run, modThread_mem, sendCredited_mem, modCore_mem, retire_mem, State.sendAndWait, State.takeTid]
theorem cleanSw3Run_mem (s : State) (t : Nat) (d : Nat × Nat × Nat) : (State.cleanSw3Run s t d).mem = s.mem := by
  grind [State.cleanSw3Run, modThread_mem, sendCredited_mem, modCore_mem, retire_mem, State.sendAndWait, State.takeTid]
theorem clearAlarms_mem (s : State) (x1 : List (Nat × Word)) : (State.clearAlarms s x1).mem = s.mem := by
  fun_induction State.clearAlarms s x1 <;> grind [emit_mem, modParasol_mem, setFld_mem]
theorem clearCetab_mem (s : State) (n : Nat) (x2 : Nat) : (State.clearCetab s n x2).mem = s.mem := by
  fun_induction State.clearCetab s n x2 <;> grind [setReg_mem, setFld_mem]
theorem setDomain_mem (s : State) (d : Nat) (x : Domain) : (State.setDomain s d x).mem = s.mem := by grind [State.setDomain]
theorem closeDomain_mem (s : State) (d : Nat) (x : Domain) : (s.closeDomain d x).mem = s.mem := by
  unfold State.closeDomain
  dsimp only
  split
  · rw [foldl_mem _ (fun s c => modCore_mem _ _ _), setDomain_mem]
  · rw [setDomain_mem]
theorem closeLine_mem (s : State) (t : Nat) (a : LineAddr) : (State.closeLine s t a).1.mem = s.mem := by grind [State.closeLine, modCore_mem]
theorem closedCoherent_mem (s : State) (d : Nat) (type : Nat) : (State.closedCoherent s d type).mem = s.mem := by grind [State.closedCoherent, ueP_mem]
theorem clusterAlarm_mem (s : State) (i : Nat) (temp : ℤ) : (State.clusterAlarm s i temp).mem = s.mem := by
  grind [State.clusterAlarm, emit_mem, alertUpdate_mem, setFld_mem, modParasol_mem]
theorem setFreq_mem (s : State) (k : Nat) (f : Nat) : (State.setFreq s k f).mem = s.mem := by grind [State.setFreq, setFld_mem]
theorem clusterOpened_mem (s : State) (k : Nat) : (s.clusterOpened k).mem = s.mem := by
  unfold State.clusterOpened
  dsimp only
  rw [modParasol_mem, setFreq_mem, setFld_mem, foldl_mem]
  intro s i; rw [modCore_mem]
theorem cmoRun_mem (s : State) (t : Nat) (va : Word) (clinv : Bool) : (State.cmoRun s t va clinv).mem = s.mem := by
  grind [State.cmoRun, modThread_mem, sendCredited_mem, modCore_mem, closeLine_mem, retire_mem, raise_mem, cachePiece_mem, State.sendAndWait, State.takeTid]
theorem drainRefused_mem (s : State) (c : Nat) (e : MbEntry) : (State.drainRefused s c e).mem = s.mem := by
  grind [State.drainRefused, modCore_mem, ueR_mem]
theorem exitNow_mem (s : State) (t : Nat) : (State.exitNow s t).mem = s.mem := by grind [State.exitNow, exitOne_mem]
theorem refuseAccess_mem (s : State) (t : Nat) (a : LineAddr) : (State.refuseAccess s t a).mem = s.mem := by
  grind [State.refuseAccess, modThread_mem, exitNow_mem]
theorem finish_mem (s : State) (t : Nat) (f : Thread → Thread) : (State.finish s t f).mem = s.mem := by grind [State.finish, modThread_mem, retire_mem]
theorem countMem_mem (s : State) (t : Nat) (isLoad : Bool) (isStore : Bool) : (State.countMem s t isLoad isStore).mem = s.mem := by
  grind [State.countMem, countEv_mem]
theorem finishLoad_mem (s : State) (t : Nat) (f : Thread → Thread) : (State.finishLoad s t f).mem = s.mem := by
  grind [State.finishLoad, countMem_mem, finish_mem]
theorem completeAccess_mem (s : State) (t : Nat) (d : Dest) (v : Word) : (State.completeAccess s t d v).mem = s.mem := by
  unfold State.completeAccess; grind [retire_mem, countEv_mem, countMem_mem, finish_mem, finishLoad_mem, exitNow_mem, modThread_mem]
theorem protocolErr_mem (s : State) (die : Nat) (src : Nat) (agent : BitVec 16) (ty : MsgType) (row : Nat) (a : LineAddr) (realm : Realm) : (State.protocolErr s die src agent ty row a realm).mem = s.mem := by
  grind [State.protocolErr, ueP_mem]
theorem coreErr_mem (s : State) (c : Nat) (ty : MsgType) (x3 : Hdr) : (State.coreErr s c ty x3).mem = s.mem := by grind [State.coreErr, protocolErr_mem]
theorem discard_mem (s : State) (c : Nat) (ty : MsgType) (x3 : Hdr) : (State.discard s c ty x3).mem = s.mem := by
  grind [State.discard, coreErr_mem, modCore_mem]
theorem cmpOther_mem (s : State) (c : Nat) (x2 : Hdr) : (State.cmpOther s c x2).mem = s.mem := by
  grind [State.cmpOther, discard_mem, completeAccess_mem, refuseAccess_mem, drainRefused_mem, modCore_mem, ackOther_mem]
theorem writeRecord_mem (s : State) (e : Nat) (c : Nat) (tag : Nat) (st : Nat) (desc : Nat) (ovf : Bool) (empty : Bool) (result : Nat) : (State.writeRecord s e c tag st desc ovf empty result).mem = s.mem := by
  grind [State.writeRecord, noteWrites_mem, setCtx_mem, portWriteBytes_mem]
theorem completeBell_mem (s : State) (e : Nat) (c : Nat) (st : Nat) : (State.completeBell s e c st).mem = s.mem := by
  grind [State.completeBell, setCtxRun_mem, writeRecord_mem]
theorem completeRun_mem (s : State) (e : Nat) (c : Nat) (r : EngRun) : (State.completeRun s e c r).mem = s.mem := by
  grind [State.completeRun, putRun_mem, writeRecord_mem]
theorem configWrite_mem (s : State) (dw : Nat) (be : BitVec 4) (v : BitVec 32) : (State.configWrite s dw be v).mem = s.mem := by
  grind [State.configWrite, busMasterOff_mem, busMasterOn_mem, modEpf_mem]
theorem sendSubDone_mem (s : State) (n : Nat) (x2 : Hdr) (pkg : Nat) (apply : Bool) : (State.sendSubDone s n x2 pkg apply).mem = s.mem := by
  grind [State.sendSubDone, send_mem]
theorem snoop_mem (s : State) (n : Nat) (ty : MsgType) (x3 : Hdr) (keepS : Bool) (k : Nat) : (State.snoop s n ty x3 keepS k).mem = s.mem := by
  grind [State.snoop, homeCount_mem, send_mem]
theorem snoopAll_mem (s : State) (n : Nat) (ty : MsgType) (x3 : Hdr) (x4 : List Nat) : (State.snoopAll s n ty x3 x4).mem = s.mem := by
  fun_induction State.snoopAll s n ty x3 x4 <;> grind [snoop_mem]
theorem confirmSub_mem (s : State) (n : Nat) (t : HTxn) (x : SubFwdKept) : (State.confirmSub s n t x).mem = s.mem := by
  grind [State.confirmSub, snoopAll_mem, putTxn_mem, sendSubDone_mem]
theorem sendWaiting_mem (s : State) (n : Nat) (poolOf : MsgType → Nat) : (State.sendWaiting s n poolOf).mem = s.mem := by
  grind [State.sendWaiting, modHome_mem, send_mem]
theorem homeCredits_mem (s : State) (n : Nat) (p : Nat) (pool : Nat) (k : Nat) : (State.homeCredits s n p pool k).mem = s.mem := by
  grind [State.homeCredits, modHome_mem, sendWaiting_mem]
theorem returnCredit_mem (s : State) (die : Nat) (pool : Nat) (x3 : Hdr) : (State.returnCredit s die pool x3).mem = s.mem := by
  grind [State.returnCredit, addCredits_mem, homeCredits_mem, leavePool_mem]
theorem coreAtomRsp_mem (s : State) (c : Nat) (x2 : Hdr) (v : Word) : (State.coreAtomRsp s c x2 v).mem = s.mem := by
  grind [State.coreAtomRsp, discard_mem, completeAccess_mem, refuseAccess_mem, adAnswer_mem, modThread_mem, returnCredit_mem]
theorem txnRefused_mem (s : State) (c : Nat) (x : Txn) : (State.txnRefused s c x).mem = s.mem := by
  grind [State.txnRefused, modThread_mem, drainRefused_mem, endTxn_mem]
theorem predUpdate_mem (s : State) (die : Nat) (a : LineAddr) (realm : Realm) (f : Option OwnerPred → Option OwnerPred) : (State.predUpdate s die a realm f).mem = s.mem := by
  grind [State.predUpdate, modDie_mem]
theorem predAdd_mem (s : State) (die : Nat) (a : LineAddr) (realm : Realm) : (State.predAdd s die a realm).mem = s.mem := by
  grind [State.predAdd, predUpdate_mem]
theorem predSub_mem (s : State) (die : Nat) (a : LineAddr) (realm : Realm) : (State.predSub s die a realm).mem = s.mem := by
  grind [State.predSub, predUpdate_mem]
theorem coreRefute_mem (s : State) (c : Nat) (x : Txn) : (State.coreRefute s c x).mem = s.mem := by
  grind [State.coreRefute, modCore_mem, countEv_mem, squash_mem, addFld_mem, predSub_mem]
theorem subCheck_mem (s : State) (c : Nat) (tid : BitVec 12) : (State.subCheck s c tid).mem = s.mem := by
  grind [State.subCheck, modCore_mem, ce_mem, coreRefute_mem]
theorem coreCmp_mem (s : State) (c : Nat) (x2 : Hdr) : (State.coreCmp s c x2).mem = s.mem := by
  grind [State.coreCmp, modCore_mem, subCheck_mem, tryInstall_mem, countEv_mem, addFld_mem, predAdd_mem, coreErr_mem, endTxn_mem, sendCmpAck_mem, txnRefused_mem, cmpOther_mem, returnCredit_mem]
theorem predFwd_mem (s : State) (die : Nat) (a : LineAddr) (realm : Realm) (q : Nat) : (State.predFwd s die a realm q).mem = s.mem := by
  grind [State.predFwd, predUpdate_mem]
theorem coreData_mem (s : State) (c : Nat) (x2 : Hdr) (l : Line) : (State.coreData s c x2 l).mem = s.mem := by
  grind [State.coreData, modCore_mem, tryInstall_mem, predUpdate_mem, predFwd_mem, coreErr_mem]
theorem countClause_mem (s : State) (x1 : List Nat) : (State.countClause s x1).mem = s.mem := by
  fun_induction State.countClause s x1 <;> grind [countEv_mem]
theorem countCycles_mem (s : State) (x1 : List Nat) : (State.countCycles s x1).mem = s.mem := by
  fun_induction State.countCycles s x1 <;> grind [countFree_mem]
theorem countHeld_mem (s : State) (l : List (Nat × Home)) : (s.countHeld l).mem = s.mem := by
  induction l generalizing s with
  | nil => rfl
  | cons p l ih => obtain ⟨n, h⟩ := p; rw [State.countHeld, ih, foldl_mem]; intro s r; rw [homeCount_mem]
theorem countStarved_mem (s : State) (l : List Nat) : (s.countStarved l).mem = s.mem := by
  induction l generalizing s with
  | nil => rfl
  | cons n l ih => rw [State.countStarved, ih, foldl_mem]; intro s r; rw [countUncore_mem]
theorem countTick_mem (s : State) : (State.countTick s).mem = s.mem := by
  grind [State.countTick, countHeld_mem, countStarved_mem, countClause_mem, countCycles_mem]
theorem countWaits_mem (s : State) (x1 : List Nat) : (State.countWaits s x1).mem = s.mem := by
  fun_induction State.countWaits s x1 <;> grind [octetCount_mem]
theorem ctxCmdDone_mem (s : State) (result : Nat) : (State.ctxCmdDone s result).mem = s.mem := by grind [State.ctxCmdDone, setFld_mem]
theorem dropMonitor_mem (s : State) (c : Nat) : (State.dropMonitor s c).mem = s.mem := by grind [State.dropMonitor]
theorem ctxcmdAbort_mem (s : State) (c : Nat) : (State.ctxcmdAbort s c).mem = s.mem := by
  grind [State.ctxcmdAbort, abortRun_mem, putRun_mem, setFld_mem, stopCtxs_mem, dropMonitor_mem, ctxCmdDone_mem, ctxCheck_mem, State.ctxCommand]
theorem ctxcmdDisable_mem (s : State) (c : Nat) : (State.ctxcmdDisable s c).mem = s.mem := by
  grind [State.ctxcmdDisable, stopCtxs_mem, setCtxState_mem, setFld_mem, dropMonitor_mem, ctxCmdDone_mem, ctxCheck_mem, State.ctxCommand]
theorem readBell_mem (s : State) (e : Nat) (c : Nat) : (State.readBell s e c).mem = s.mem := by
  grind [State.readBell, noteEngine_mem, send_mem, modPort_mem, setEngine_mem]
theorem enableOpen_mem (s : State) (c : Nat) : (State.enableOpen s c).mem = s.mem := by
  grind [State.enableOpen, readBell_mem, ctxCmdDone_mem, checkRanges_mem]
theorem openDomain_mem (s : State) (d : Nat) : (State.openDomain s d).mem = s.mem := by grind [State.openDomain]
theorem enableCtx_mem (s : State) (c : Nat) : (State.enableCtx s c).mem = s.mem := by
  grind [State.enableCtx, openDomain_mem, enableOpen_mem, setFld_mem, ctxCmdDone_mem]
theorem ctxcmdEnable_mem (s : State) (c : Nat) : (State.ctxcmdEnable s c).mem = s.mem := by
  grind [State.ctxcmdEnable, enableCtx_mem, ctxCheck_mem, ctxCmdDone_mem, setFld_mem, State.ctxCommand]
theorem putCtxData_mem (s : State) (i : Nat) (x2 : List Word) : (State.putCtxData s i x2).mem = s.mem := by
  fun_induction State.putCtxData s i x2 <;> grind [setReg_mem]
theorem ctxcmdRead_mem (s : State) (c : Nat) : (State.ctxcmdRead s c).mem = s.mem := by
  grind [State.ctxcmdRead, putCtxData_mem, ctxCmdDone_mem, ctxCheck_mem, setFld_mem, State.ctxCommand]
theorem ctxcmdWrite_mem (s : State) (c : Nat) : (State.ctxcmdWrite s c).mem = s.mem := by
  grind [State.ctxcmdWrite, setCtx_mem, ctxCmdDone_mem, ctxCheck_mem, setFld_mem, State.ctxCommand]
theorem writeRegime_mem (s : State) (v : Nat) : (State.writeRegime s v).mem = s.mem := by grind [State.writeRegime, setRegime_mem]
theorem sendEpochs_mem (s : State) (v : Word) (x2 : List Nat) : (State.sendEpochs s v x2).mem = s.mem := by
  fun_induction State.sendEpochs s v x2 <;> grind [sendCtl_mem]
theorem removeMember_mem (s : State) (p : Nat) : (State.removeMember s p).mem = s.mem := by
  grind [State.removeMember, autoReshape_mem, setLinkMembers_mem, setReg_mem]
theorem cutComplete_mem (s : State) (z : Quiesce) : (State.cutComplete s z).mem = s.mem := by
  grind [State.cutComplete, sendRoutes_mem, writeRoutes_mem, removeMember_mem, setFld_mem, sendEpochs_mem, writeRegime_mem, beginRelease_mem, ok_mem, emit_mem, sendAll_mem, setReg_mem]
theorem cutTick_mem (s : State) : (State.cutTick s).mem = s.mem := by grind [State.cutTick, sendMgmt_mem]
theorem haltHeld_mem (s : State) : (State.haltHeld s).mem = s.mem := by grind [State.haltHeld, enterMode_mem]
theorem imageLost_mem (s : State) (cause : Nat) (mask : Nat) : (State.imageLost s cause mask).mem = s.mem := by
  grind [State.imageLost, emit_mem, noteUe_mem, haltHeld_mem]
theorem decideTakeover_mem (s : State) : (State.decideTakeover s).mem = s.mem := by
  grind [State.decideTakeover, imageLost_mem, setFld_mem, floodMgmt_mem, localEvent_mem, emit_mem]
theorem homeErr_mem (s : State) (n : Nat) (ty : MsgType) (row : Nat) (x4 : Hdr) : (State.homeErr s n ty row x4).mem = s.mem := by
  grind [State.homeErr, homLast_mem, protocolErr_mem]
theorem endHTxn_mem (s : State) (n : Nat) (a : LineAddr) : (State.endHTxn s n a).mem = s.mem := by grind [State.endHTxn, modHome_mem]
theorem snoopHolders_mem (s : State) (n : Nat) (t : HTxn) : (State.snoopHolders s n t).mem = s.mem := by
  grind [State.snoopHolders, endHTxn_mem, homeErr_mem, snoopAll_mem, snoop_mem, putTxn_mem]
theorem refuteSub_mem (s : State) (n : Nat) (t : HTxn) (x : SubFwdKept) : (State.refuteSub s n t x).mem = s.mem := by
  grind [State.refuteSub, respond_mem, sendSubDone_mem, snoopHolders_mem, addFld_mem, homeCount_mem]
theorem decideTxn_mem (s : State) (n : Nat) (t : HTxn) : (State.decideTxn s n t).mem = s.mem := by
  grind [State.decideTxn, refuteSub_mem, confirmSub_mem, snoopHolders_mem, modHome_mem, queueRecalls_mem, putTxn_mem, addFld_mem]
theorem decoded_mem (s : State) (n : Nat) (d : Decoded) : (State.decoded s n d).mem = s.mem := by
  grind [State.decoded, addFld_mem, octetCount_mem, attribute_mem]
theorem degradeNow_mem (s : State) : (State.degradeNow s).mem = s.mem := by grind [State.degradeNow, setFld_mem, enterMode_mem]
theorem routerCount_mem (s : State) (k : Nat) (ev : Nat) (n : Nat) : (State.routerCount s k ev n).mem = s.mem := by
  grind [State.routerCount, countUncore_mem]
theorem meshPassed_mem (s : State) (h : Hdr) : (s.meshPassed h).mem = s.mem := by
  unfold State.meshPassed
  split
  · rfl
  · rw [foldl_mem]; intro s k; rw [routerCount_mem]
theorem delivered_mem (s : State) (m : Msg) : (State.delivered s m).mem = s.mem := by grind [State.delivered, meshPassed_mem]
theorem detect_mem (s : State) (e : Nat) (c : Nat) : (State.detect s e c).mem = s.mem := by
  grind [State.detect, addFld_mem, engineCount_mem, readBell_mem]
theorem regReply_mem (s : State) (x1 : Hdr) (v : Word) : (State.regReply s x1 v).mem = s.mem := by grind [State.regReply, send_mem]
theorem devReadFailed_mem (s : State) (r : DevRead) (why : Nat) : (State.devReadFailed s r why).mem = s.mem := by
  grind [State.devReadFailed, emit_mem, regReply_mem]
theorem octetOut_mem (s : State) (n : Nat) (t : Tlp) : (State.octetOut s n t).mem = s.mem := by grind [State.octetOut, tlpOut_mem, epfOut_mem]
theorem devRead_mem (s : State) (x1 : Hdr) (off : Nat) (len : Nat) (n : Nat) (cfg : Bool) (o : Nat) : (State.devRead s x1 off len n cfg o).mem = s.mem := by
  grind [State.devRead, octetOut_mem, devReadFailed_mem, regReply_mem, spendFree_mem]
theorem devWrite_mem (s : State) (off : Nat) (len : Nat) (v : Word) (n : Nat) (cfg : Bool) (o : Nat) : (State.devWrite s off len v n cfg o).mem = s.mem := by
  grind [State.devWrite, octetOut_mem]
theorem deviceLoad_mem (s : State) (t : Nat) (p : Piece) (d : Dest) : (State.deviceLoad s t p d).mem = s.mem := by
  grind [State.deviceLoad, sendReq_mem, modThread_mem, modCore_mem, State.takeTid]
theorem deviceStore_mem (s : State) (t : Nat) (p : Piece) (v : Word) : (State.deviceStore s t p v).mem = s.mem := by
  grind [State.deviceStore, sendReq_mem, modCore_mem, State.takeTid]
theorem readOwner_mem (s : State) (die : Nat) (a : LineAddr) (p : Copy) : (State.readOwner s die a p).1.mem = s.mem := by
  grind [State.readOwner, ebCheck_mem, l3Check_mem, l2Check_mem]
theorem forward_mem (s : State) (die : Nat) (x2 : Hdr) (ty : MsgType) (g : CState) (l : Line) : (State.forward s die x2 ty g l).mem = s.mem := by
  grind [State.forward, send_mem]
theorem dieRdSub_mem (s : State) (die : Nat) (x2 : Hdr) : (State.dieRdSub s die x2).mem = s.mem := by
  grind [State.dieRdSub, forward_mem, modCore_mem, readOwner_mem, answer_mem]
theorem sharedAnswer_mem (s : State) (die : Nat) (x2 : Hdr) : (State.sharedAnswer s die x2).mem = s.mem := by grind [State.sharedAnswer, answer_mem]
theorem refreshSf_mem (s : State) (die : Nat) (a : LineAddr) : (State.refreshSf s die a).mem = s.mem := by grind [State.refreshSf, modDie_mem]
theorem setCopy_mem (s : State) (die : Nat) (a : LineAddr) (p : Copy) (st : CState) : (State.setCopy s die a p st).mem = s.mem := by
  grind [State.setCopy, modCore_mem, modDie_mem]
theorem dieSnpS_mem (s : State) (die : Nat) (x2 : Hdr) : (State.dieSnpS s die x2).mem = s.mem := by
  grind [State.dieSnpS, forward_mem, setCopy_mem, refreshSf_mem, answer_mem, readOwner_mem, sharedAnswer_mem]
theorem dropAnswer_mem (s : State) (die : Nat) (x2 : Hdr) : (State.dropAnswer s die x2).mem = s.mem := by
  grind [State.dropAnswer, answer_mem, removeCopies_mem, refreshSf_mem]
theorem dieSnpX_mem (s : State) (die : Nat) (x2 : Hdr) : (State.dieSnpX s die x2).mem = s.mem := by
  grind [State.dieSnpX, forward_mem, removeCopies_mem, refreshSf_mem, answer_mem, readOwner_mem, dropAnswer_mem]
theorem dieSnpI_mem (s : State) (die : Nat) (x2 : Hdr) : (State.dieSnpI s die x2).mem = s.mem := by
  grind [State.dieSnpI, answer_mem, removeCopies_mem, refreshSf_mem]
theorem setCopies_mem (s : State) (die : Nat) (a : LineAddr) (st : CState) (x4 : List Copy) : (State.setCopies s die a st x4).mem = s.mem := by
  fun_induction State.setCopies s die a st x4 <;> grind [setCopy_mem]
theorem dieSnpH_mem (s : State) (die : Nat) (x2 : Hdr) : (State.dieSnpH s die x2).mem = s.mem := by
  grind [State.dieSnpH, answer_mem, readOwner_mem, removeCopies_mem, setCopies_mem, refreshSf_mem]
theorem dieSnpC_mem (s : State) (die : Nat) (x2 : Hdr) : (State.dieSnpC s die x2).mem = s.mem := by
  grind [State.dieSnpC, setCopy_mem, refreshSf_mem, readOwner_mem, answer_mem, sharedAnswer_mem]
theorem dieSnoop_mem (s : State) (die : Nat) (ty : MsgType) (x3 : Hdr) : (State.dieSnoop s die ty x3).mem = s.mem := by
  grind [State.dieSnoop, dieRdSub_mem, dieSnpC_mem, dieSnpH_mem, dieSnpI_mem, dieSnpX_mem, dieSnpS_mem, sfCorrect_mem, ueP_mem]
theorem dieSubDone_mem (s : State) (die : Nat) (x2 : Hdr) (apply : Bool) : (State.dieSubDone s die x2 apply).mem = s.mem := by
  grind [State.dieSubDone, refreshSf_mem, snoopWakes_mem, modDie_mem, modCore_mem, ueP_mem]
theorem tlbiReport_mem (s : State) (d : Nat) : (s.tlbiReport d).mem = s.mem := by
  unfold State.tlbiReport
  dsimp only
  rw [foldl_mem, modDie_mem]; intro s a; rw [send_mem]
theorem dieTlbi_mem (s : State) (d : Nat) (a : TlbiArgs) : (s.dieTlbi d a).mem = s.mem := by
  unfold State.dieTlbi
  dsimp only
  rw [tlbiReport_mem, modDie_mem, foldl_mem]; intro s c; split <;> simp only [modCore_mem]
theorem dimmReplay_mem (s : State) (n : Nat) (parity : Nat) (x3 : Nat) : (State.dimmReplay s n parity x3).mem = s.mem := by
  fun_induction State.dimmReplay s n parity x3 <;> grind [emit_mem, noticeDue_mem, addFld_mem]
theorem dirPortLost_mem (s : State) (p : Nat) : (State.dirPortLost s p).mem = s.mem := by grind [State.dirPortLost, dirLastErr_mem, ueP_mem]
theorem dirReadAt_mem (s : State) (l : Layout) (a : LineAddr) (o : DirOutcome) : (State.dirReadAt s l a o).mem = s.mem := by
  grind [State.dirReadAt, dirError_mem]
theorem dirReadError_mem (s : State) (n : Nat) (a : LineAddr) (o : DirOutcome) : (State.dirReadError s n a o).mem = s.mem := by
  grind [State.dirReadError, dirReadAt_mem, dirError_mem]
theorem dirStay_mem (s : State) (n : Nat) (a : LineAddr) (f : Nat → DirEntry → DirEntry) : (State.dirStay s n a f).mem = s.mem := by
  grind [State.dirStay, dirWrite_mem, dirUpdate_mem]
theorem discardFlit_mem (s : State) (n : Nat) : (State.discardFlit s n).mem = s.mem := by grind [State.discardFlit, setLink_mem]
theorem dmaRefused_mem (s : State) (n : Nat) (r : Nat) (page : Nat) : (State.dmaRefused s n r page).mem = s.mem := by grind [State.dmaRefused, emit_mem]
theorem mbParity_mem (s : State) (c : Nat) (e : MbEntry) : (State.mbParity s c e).mem = s.mem := by grind [State.mbParity, ueR_mem, modCore_mem]
theorem mbCheck_mem (s : State) (c : Nat) (e : MbEntry) : (State.mbCheck s c e).1.mem = s.mem := by grind [State.mbCheck, fireInject_mem, mbParity_mem]
theorem writeOut_mem (s : State) (c : Nat) (e : MbEntry) : (State.writeOut s c e).mem = s.mem := by
  grind [State.writeOut, modCore_mem, sendCredited_mem, State.takeTid]
theorem moveFromCore_mem (s : State) (c : Nat) (o : Nat) (a : LineAddr) (realm : Realm) : (State.moveFromCore s c o a realm).1.mem = s.mem := by
  grind [State.moveFromCore, takeCopy_mem, fillCore_mem, checkHolder_mem]
theorem getOwned_mem (s : State) (t : Nat) (a : LineAddr) (realm : Realm) (zero : Bool) : (State.getOwned s t a realm zero).1.mem = s.mem := by
  grind [State.getOwned, copyFromL3_mem, l3Lookup_mem, sfRoom_mem, moveFromCore_mem, ueP_mem, sfCorrect_mem, cancelEvict_mem, sendLineReq_mem, l2Read_mem]
theorem writeL2_mem (s : State) (c : Nat) (e : MbEntry) : (State.writeL2 s c e).mem = s.mem := by
  grind [State.writeL2, snoopWake_mem, modDie_mem, modCore_mem]
theorem drainOldest_mem (s : State) (c : Nat) : (s.drainOldest c).mem = s.mem := by
  unfold State.drainOldest
  split
  · rfl
  · split
    · rfl
    · dsimp only
      split
      · rw [mbCheck_mem]
      · split
        · rw [writeOut_mem, modCore_mem, mbCheck_mem]
        · split
          · split
            · split
              · rw [modCore_mem, mbCheck_mem]
              · cases h : Core.evict _ _ _ <;> simp only [Option.elim, wakeCore_mem, setCore_mem, modCore_mem, mbCheck_mem]
            · split
              · rw [modCore_mem, mbCheck_mem]
              · rw [writeOut_mem, modCore_mem, mbCheck_mem]
          · split
            · rw [writeL2_mem, getOwned_mem, modCore_mem, mbCheck_mem]
            · rw [getOwned_mem, modCore_mem, mbCheck_mem]
theorem dramCorrected_mem (s : State) (n : Nat) (a : Nat) (src : Nat) (dev : Nat) (syms : Nat) : (State.dramCorrected s n a src dev syms).mem = s.mem := by
  grind [State.dramCorrected, setFld_mem, emit_mem, ce_mem, setReg_mem, addFld_mem, countUncore_mem]
theorem dramInject_mem (s : State) (n : Nat) (a : Nat) : (State.dramInject s n a).mem = s.mem := by grind [State.dramInject, fireInject_mem]
theorem dropFrozen_mem (s : State) (r : Rec) : (State.dropFrozen s r).mem = s.mem := by grind [State.dropFrozen, setFld_mem, addFld_mem]
theorem dropOtherDies_mem (s : State) (die : Nat) (a : LineAddr) : (s.dropOtherDies die a).mem = s.mem := by
  unfold State.dropOtherDies
  rw [foldl_mem]; intro s d; split <;> simp only [refreshSf_mem, removeCopies_mem]
theorem dropStandby_mem (s : State) : (State.dropStandby s).mem = s.mem := by grind [State.dropStandby, setFld_mem]
theorem setDump_mem (s : State) (d : Dump) : (State.setDump s d).mem = s.mem := by grind [State.setDump]
theorem dumpOff_mem (s : State) (cause : Nat) : (State.dumpOff s cause).mem = s.mem := by grind [State.dumpOff, setFld_mem, emit_mem]
theorem dumpEnable_mem (s : State) : (State.dumpEnable s).mem = s.mem := by
  grind [State.dumpEnable, dumpOff_mem, emit_mem, setDump_mem, setFld_mem, setReg_mem]
theorem dumpNow_mem (s : State) : (State.dumpNow s).mem = s.mem := by grind [State.dumpNow, setFld_mem]
theorem dumpSettle_mem (s : State) : (State.dumpSettle s).mem = s.mem := by grind [State.dumpSettle, setDump_mem, addFld_mem]
theorem dumpSlots_mem (s : State) (base : Nat) (x2 : Nat) : (State.dumpSlots s base x2).mem = s.mem := by
  fun_induction State.dumpSlots s base x2 <;> grind [portWrite_mem]
theorem snapshot_mem (s : State) (explicit : Bool) : (State.snapshot s explicit).mem = s.mem := by
  grind [State.snapshot, dumpOff_mem, dumpSlots_mem, emit_mem, spendFree_mem, setDump_mem, addFld_mem, dumpSettle_mem]
theorem dumpRequested_mem (s : State) : (State.dumpRequested s).mem = s.mem := by grind [State.dumpRequested, setFld_mem, snapshot_mem]
theorem enableL2_mem (s : State) (c : Nat) : (s.enableL2 c).mem = s.mem := by
  unfold State.enableL2
  dsimp only
  split
  · rw [foldl_mem _ (fun s a => wakeCore_mem _ _ _), modCore_mem, modDie_mem]
  · rfl
theorem enableL3_mem (s : State) (die : Nat) : (State.enableL3 s die).mem = s.mem := by grind [State.enableL3, setFld_mem, modDie_mem]
theorem enableRead_mem (s : State) (e : Nat) (c : Nat) (l : Line) : (State.enableRead s e c l).mem = s.mem := by
  unfold State.enableRead; (repeat' split) <;> simp_all [setCtxState_mem, kick_mem, setCtx_mem, setCtxRun_mem, dropMonitor_mem, ctxCmdDone_mem]
theorem enableResume_mem (s : State) : (State.enableResume s).mem = s.mem := by grind [State.enableResume, enableOpen_mem]
theorem eraseKey_mem (s : State) (slot : Nat) (half : Nat) : (State.eraseKey s slot half).mem = s.mem := by grind [State.eraseKey]
theorem keyZeroize_mem (s : State) (r : Nat) : (State.keyZeroize s r).mem = s.mem := by
  grind [State.keyZeroize, eraseKey_mem, setFld_mem, keyLogged_mem]
theorem endPages_mem (s : State) (j : PageJob) (result : Nat) : (State.endPages s j result).mem = s.mem := by
  grind [State.endPages, keyZeroize_mem, realmPart'_mem, modRealms_mem, complete_mem, setReg_mem, emit_mem]
theorem endRotation_mem (s : State) (r : Nat) : (State.endRotation s r).mem = s.mem := by
  grind [State.endRotation, eraseKey_mem, setFld_mem, keyLogged_mem]
theorem endWait_mem (s : State) (x1 : RealmWait) : (State.endWait s x1).mem = s.mem := by
  grind [State.endWait, setRealmWord_mem, emit_mem, ok_mem, sendAll_mem, endRotation_mem, modRealms_mem]
theorem endWaits_mem (s : State) (x1 : List RealmWait) : (State.endWaits s x1).mem = s.mem := by
  fun_induction State.endWaits s x1 <;> grind [endWait_mem]
theorem readBells_mem (s : State) (e : Nat) (x2 : List Nat) : (State.readBells s e x2).mem = s.mem := by
  fun_induction State.readBells s e x2 <;> grind [readBell_mem]
theorem ringInterrupt_mem (s : State) (e : Nat) (c : Nat) : (State.ringInterrupt s e c).mem = s.mem := by
  grind [State.ringInterrupt, send_mem, engineErr_mem, emit_mem]
theorem settleBell_mem (s : State) (e : Nat) (c : Nat) (st : Nat) : (State.settleBell s e c st).mem = s.mem := by
  grind [State.settleBell, ringInterrupt_mem, setCtx_mem, setCtxRun_mem]
theorem stopDone_mem (s : State) (c : Nat) : (State.stopDone s c).mem = s.mem := by grind [State.stopDone, ctxCmdDone_mem, setCtxState_mem]
theorem settleRun_mem (s : State) (e : Nat) (c : Nat) (r : EngRun) : (State.settleRun s e c r).mem = s.mem := by
  grind [State.settleRun, ctxFail_mem, stopDone_mem, ringInterrupt_mem, addFld_mem, engineCount_mem, setCtx_mem, setCtxRun_mem]
theorem settleEngine_mem (s : State) (e : Nat) (x2 : List Nat) : (State.settleEngine s e x2).mem = s.mem := by
  fun_induction State.settleEngine s e x2 <;> grind [settleRun_mem, settleBell_mem]
theorem engineAdvance_mem (s : State) (e : Nat) : (State.engineAdvance s e).mem = s.mem := by
  grind [State.engineAdvance, kick_mem, settleEngine_mem, readBells_mem]
theorem engineAdvanceAll_mem (s : State) (x1 : List Nat) : (State.engineAdvanceAll s x1).mem = s.mem := by
  fun_induction State.engineAdvanceAll s x1 <;> grind [engineAdvance_mem]
theorem portDone_mem (s : State) (x1 : Nat) (x2 : Hdr) : (State.portDone s x1 x2).mem = s.mem := by grind [State.portDone, send_mem, modPort_mem]
theorem portCmp_mem (s : State) (x1 : Nat) (x2 : Hdr) : (State.portCmp s x1 x2).mem = s.mem := by grind [State.portCmp, portDone_mem, modPort_mem]
theorem engineCmp_mem (s : State) (e : Nat) (x2 : Hdr) : (State.engineCmp s e x2).mem = s.mem := by
  grind [State.engineCmp, engineAdvance_mem, bellRefused_mem, dropMonitor_mem, ctxCmdDone_mem, modPort_mem, setEngine_mem, portCmp_mem]
theorem portGot_mem (s : State) (x1 : Nat) (tid : BitVec 12) : (State.portGot s x1 tid).mem = s.mem := by
  grind [State.portGot, modPort_mem, portDone_mem]
theorem portData_mem (s : State) (x1 : Nat) (x2 : Hdr) (l : Line) : (State.portData s x1 x2 l).mem = s.mem := by
  grind [State.portData, modPort_mem, portGot_mem]
theorem engineData_mem (s : State) (e : Nat) (x2 : Hdr) (l : Line) : (State.engineData s e x2 l).mem = s.mem := by
  grind [State.engineData, bellAct_mem, enableRead_mem, setEngine_mem, portGot_mem, portData_mem]
theorem portRead_mem (s : State) (x1 : Nat) (realm : Realm) (a : LineAddr) : (State.portRead s x1 realm a).1.mem = s.mem := by
  grind [State.portRead, noteEngine_mem, send_mem, modPort_mem]
theorem portReadAll_mem (s : State) (x1 : Nat) (realm : Realm) (x3 : List LineAddr) : (State.portReadAll s x1 realm x3).1.mem = s.mem := by
  fun_induction State.portReadAll s x1 realm x3 <;> grind [portRead_mem]
theorem portReadBytes_mem (s : State) (x1 : Nat) (realm : Realm) (pa : Nat) (n : Nat) : (State.portReadBytes s x1 realm pa n).1.mem = s.mem := by
  grind [State.portReadBytes, portReadAll_mem]
theorem fetchAll_mem (s : State) (e : Nat) (realm : Nat) (x3 : List (Nat × Nat)) : (State.fetchAll s e realm x3).1.mem = s.mem := by
  fun_induction State.fetchAll s e realm x3 <;> grind [portReadBytes_mem]
theorem portClear_mem (s : State) (x1 : Nat) : (State.portClear s x1).mem = s.mem := by grind [State.portClear, modPort_mem]
theorem readDescriptor_mem (s : State) (e : Nat) (c : Nat) (r : EngRun) : (State.readDescriptor s e c r).1.mem = s.mem := by
  grind [State.readDescriptor, portClear_mem, fetchAll_mem, failRun_mem, checkRanges_mem, State.engRead]
theorem segmentOver_mem (s : State) (e : Nat) (c : Nat) (r : EngRun) : (State.segmentOver s e c r).mem = s.mem := by
  grind [State.segmentOver, setEngine_mem, putRun_mem, portClear_mem]
theorem engWrite_mem (s : State) (e realm : Nat) (r : EngRun) (l : List (Nat × Nat × Nat)) (k : State → SegOut)
    (h : ∀ u, (k u).1.mem = u.mem) : (s.engWrite e realm r l k).1.mem = s.mem := by
  unfold State.engWrite
  have := checkRanges_mem s realm (l.map (fun x => (x.1, x.2.1)))
  dsimp only
  split
  · rw [failRun_mem, this]
  · rw [h, noteWrites_mem, putAll_mem, this]
theorem engRead_mem (s : State) (e realm : Nat) (r : EngRun) (l : List (Nat × Nat)) (k : State → List Nat → SegOut)
    (h : ∀ u vs, (k u vs).1.mem = u.mem) : (s.engRead e realm r l k).1.mem = s.mem := by
  unfold State.engRead
  grind [checkRanges_mem, fetchAll_mem, failRun_mem]
theorem segScan_mem (s : State) (e realm : Nat) (r : EngRun) : (s.segScan e realm r).1.mem = s.mem := by
  unfold State.segScan
  apply engRead_mem; intro s blk
  try dsimp only
  split
  · rw [failRun_mem]
  · apply engRead_mem; intro s vs
    try dsimp only
    split
    · apply engWrite_mem; intro s; rfl
    · apply engWrite_mem; intro s; split <;> rfl
theorem segProject_mem (s : State) (e : Nat) (realm : Nat) (r : EngRun) : (State.segProject s e realm r).1.mem = s.mem := by
  grind [State.segProject, putAll_mem, noteWrites_mem, failRun_mem, checkRanges_mem, fetchAll_mem, State.engWrite, State.engRead]
theorem segAggregate_mem (s : State) (e : Nat) (realm : Nat) (r : EngRun) : (State.segAggregate s e realm r).1.mem = s.mem := by
  grind [State.segAggregate, putAll_mem, noteWrites_mem, failRun_mem, checkRanges_mem, fetchAll_mem, State.engWrite, State.engRead]
theorem segHash_mem (s : State) (e : Nat) (realm : Nat) (r : EngRun) : (State.segHash s e realm r).1.mem = s.mem := by
  grind [State.segHash, putAll_mem, noteWrites_mem, failRun_mem, checkRanges_mem, fetchAll_mem, State.engWrite, State.engRead]
theorem segGather_mem (s : State) (e realm : Nat) (r : EngRun) : (s.segGather e realm r).1.mem = s.mem := by
  unfold State.segGather
  apply engRead_mem; intro s vs
  try dsimp only
  apply engRead_mem; intro s vs
  apply engWrite_mem; intro s; rfl
theorem putStream_mem (s : State) (e : Nat) (realm : Nat) (r : EngRun) (n : Nat) (v : Nat) : (State.putStream s e realm r n v).1.mem = s.mem := by
  grind [State.putStream, putAll_mem, noteWrites_mem, failRun_mem, checkRanges_mem, State.engWrite]
theorem segCopy_mem (s : State) (e : Nat) (realm : Nat) (r : EngRun) : (State.segCopy s e realm r).1.mem = s.mem := by
  grind [State.segCopy, putStream_mem, fetchAll_mem, failRun_mem, checkRanges_mem, State.engRead]
theorem segFill_mem (s : State) (e : Nat) (realm : Nat) (r : EngRun) : (State.segFill s e realm r).1.mem = s.mem := by
  grind [State.segFill, putStream_mem]

end Sys2Proof.Machine
end

