-- ==== Sys2Proof/Laws/MemSameC.lean ====
section
/-! SUPPORT. Which operations leave DRAM as it is (part 3 of 4): one lemma per operation of the machine. -/
set_option Elab.async false
namespace Sys2Proof.Machine
open Sys2Proof

theorem segCrc_mem (s : State) (e : Nat) (realm : Nat) (r : EngRun) : (State.segCrc s e realm r).1.mem = s.mem := by
  grind [State.segCrc, fetchAll_mem, failRun_mem, checkRanges_mem, State.engRead]
theorem segment_mem (s : State) (e : Nat) (realm : Nat) (r : EngRun) : (State.segment s e realm r).1.mem = s.mem := by
  grind [State.segment, segCrc_mem, segFill_mem, segCopy_mem, segGather_mem, segHash_mem, segAggregate_mem, segProject_mem, segScan_mem]
theorem engineOp_mem (s : State) (e op : Nat) : (s.engineOp e op).mem = s.mem := by
  unfold State.engineOp
  split
  · rfl
  · dsimp only
    split
    · rw [kick_mem]
    · rename_i c hc
      split
      · rw [kick_mem]
      · rename_i r hr
        have h0 : (if r.words = [] then (s.kick e).readDescriptor e c r else (s.kick e, some r)).1.mem = s.mem := by
          split <;> simp only [readDescriptor_mem, kick_mem]
        revert h0
        generalize (if r.words = [] then (s.kick e).readDescriptor e c r else (s.kick e, some r)) = q
        obtain ⟨u, got⟩ := q
        intro h0
        dsimp only at h0 ⊢
        split
        · exact h0
        · split
          · rw [segmentOver_mem, h0]
          · split
            · split
              · rw [segmentOver_mem, failRun_mem, putRun_mem, h0]
              · rw [failRun_mem, putRun_mem, h0]
            · split
              · rw [putRun_mem, h0]
              · split
                · rw [choose_mem, putRun_mem, h0]
                · split
                  · rw [segment_mem, putRun_mem, h0]
                  · rw [segmentOver_mem, segment_mem, putRun_mem, h0]
theorem rebuildMonitors_mem (s : State) (x1 : List Monitor) : (State.rebuildMonitors s x1).mem = s.mem := by
  fun_induction State.rebuildMonitors s x1 <;> grind [bellAll_mem, engineErr_mem, ce_mem]
theorem engineSnoop_mem (s : State) (e : Nat) (x2 : Hdr) : (State.engineSnoop s e x2).mem = s.mem := by
  grind [State.engineSnoop, bellAll_mem, send_mem, rebuildMonitors_mem]
theorem enqueueAll_mem (s : State) (e : Event) (x2 : List Rec) : (State.enqueueAll s e x2).mem = s.mem := by
  fun_induction State.enqueueAll s e x2 <;> grind [enqueueRec_mem]
theorem enterPool_mem (s : State) (n : Nat) (pool : Nat) (key : Nat) : (State.enterPool s n pool key).mem = s.mem := by
  grind [State.enterPool, modHome_mem, notePending_mem]
theorem enterRealm_mem (s : State) (t : Nat) (r : Nat) (ls : List Line) : (State.enterRealm s t r ls).mem = s.mem := by
  grind [State.enterRealm, modThread_mem, switchPred_mem, setFld_mem, closeMb_mem, countEv_mem]
theorem epfContain_mem (s : State) (cause : Nat) : (State.epfContain s cause).mem = s.mem := by grind [State.epfContain, emit_mem, setFld_mem]
theorem evictHome_mem (s : State) (c : Nat) (e : EbEntry) : (State.evictHome s c e).mem = s.mem := by
  grind [State.evictHome, send_mem, modCore_mem, modDie_mem, useCredit_mem, State.takeTid]
theorem grantRecord_mem (s : State) (origin : BitVec 16) (k : Nat) (installed : Nat) : (State.grantRecord s origin k installed).mem = s.mem := by
  grind [State.grantRecord, emitOrigin_mem]
theorem freeGrants_mem (s : State) (origin : BitVec 16) (x2 : List Nat) : (State.freeGrants s origin x2).mem = s.mem := by
  fun_induction State.freeGrants s origin x2 <;> grind [grantRecord_mem, setReg_mem]
theorem expireGrants_mem (s : State) (x1 : List Nat) : (State.expireGrants s x1).mem = s.mem := by
  fun_induction State.expireGrants s x1 <;> grind [freeGrants_mem, emit_mem]
theorem failReads_mem (s : State) (why : Nat) (x2 : List DevRead) : (State.failReads s why x2).mem = s.mem := by
  fun_induction State.failReads s why x2 <;> grind [devReadFailed_mem]
theorem failedPorts_mem (s : State) (x1 : List Nat) : (State.failedPorts s x1).mem = s.mem := by
  fun_induction State.failedPorts s x1 <;> grind [dirPortLost_mem]
theorem fenceChans_mem (s : State) (x1 : List Nat) : (State.fenceChans s x1).mem = s.mem := by
  fun_induction State.fenceChans s x1 <;> grind [setFld_mem]
theorem fenceCore_mem (s : State) (c : Nat) : (State.fenceCore s c).mem = s.mem := by grind [State.fenceCore, modCore_mem]
theorem fenceEngine_mem (s : State) (e : Nat) (c : Nat) : (State.fenceEngine s e c).mem = s.mem := by
  grind [State.fenceEngine, ueR_mem, engineErr_mem, emit_mem, stopCtxs_mem, setFld_mem]
theorem fenceEngines_mem (s : State) (x1 : List Nat) : (State.fenceEngines s x1).mem = s.mem := by
  fun_induction State.fenceEngines s x1 <;> grind [setFld_mem]
theorem fenceRun_mem (s : State) (t : Nat) (mask : BitVec 4) : (State.fenceRun s t mask).mem = s.mem := by
  grind [State.fenceRun, retire_mem, closeMb_mem]
theorem fetchLine_mem (s : State) (t : Nat) (a : LineAddr) : (State.fetchLine s t a).1.mem = s.mem := by
  grind [State.fetchLine, cacheErr_mem, ce_mem, modCore_mem, getShared_mem]
theorem fetch_mem (s : State) (t : Nat) : (State.fetch s t).1.mem = s.mem := by
  grind [State.fetch, fetchLine_mem, refusedFault_mem, raise_mem, translate_mem]
theorem fillPorts_mem (s : State) (n : Nat) (p : Nat) (x3 : Nat) : (State.fillPorts s n p x3).mem = s.mem := by
  fun_induction State.fillPorts s n p x3 <;> grind []
theorem fillRealms_mem (s : State) (g : Nat) (x2 : List Nat) : (State.fillRealms s g x2).mem = s.mem := by
  fun_induction State.fillRealms s g x2 <;> grind []
theorem finishStore_mem (s : State) (t : Nat) : (State.finishStore s t).mem = s.mem := by grind [State.finishStore, countMem_mem, retire_mem]
theorem finishWaits_mem (s : State) : (State.finishWaits s).mem = s.mem := by grind [State.finishWaits, endWaits_mem]
theorem firstKey_mem (s : State) : (State.firstKey s).mem = s.mem := by grind [State.firstKey, emit_mem, genKey_mem, setFld_mem, addFld_mem]
theorem flushCluster_mem (s : State) (k : Nat) : (s.flushCluster k).mem = s.mem := by
  unfold State.flushCluster
  rw [foldl_mem]; intro s c; rw [flushL2_mem, modCore_mem]
theorem flushEvents_mem (s : State) (x1 : List Event) : (State.flushEvents s x1).mem = s.mem := by
  fun_induction State.flushEvents s x1 <;> grind [enqueueAll_mem]
theorem formImage_mem (s : State) (j : JoinJob) (ids : List Ident) (standby : Option Word) : (State.formImage s j ids standby).mem = s.mem := by
  grind [State.formImage, setJoin_mem, sendEpochs_mem, finishJoin_mem, emit_mem, setFld_mem, takeAssign_mem, sendAssigns_mem, joinRefused_mem]
theorem forwardRec_mem (s : State) (r : Rec) : (State.forwardRec s r).mem = s.mem := by grind [State.forwardRec, sendMgmt_mem]
theorem sendRdSub_mem (s : State) (n : Nat) (ty : MsgType) (x3 : Hdr) : (State.sendRdSub s n ty x3).mem = s.mem := by grind [State.sendRdSub, send_mem]
theorem sendHome_mem (s : State) (n : Nat) (m : Msg) : (State.sendHome s n m).mem = s.mem := by grind [State.sendHome, modHome_mem, sendWaiting_mem]
theorem forwardReq_mem (s : State) (n : Nat) (ty : MsgType) (x3 : Hdr) (b : Body) : (State.forwardReq s n ty x3 b).mem = s.mem := by
  grind [State.forwardReq, sendHome_mem, sendRdSub_mem]
theorem frames_mem (s : State) (t : Nat) (a : Word) (x3 : Nat) : (State.frames s t a x3).1.mem = s.mem := by
  fun_induction State.frames s t a x3 <;> grind [loadLine_mem]
theorem freeEb_mem (s : State) (c : Nat) (a : LineAddr) : (State.freeEb s c a).mem = s.mem := by
  grind [State.freeEb, flushL2_mem, retryInstalls_mem, modDie_mem, modCore_mem]
theorem freeLine_mem (s : State) : (State.freeLine s).1.mem = s.mem := by grind [State.freeLine]
theorem freezeLog_mem (s : State) : (State.freezeLog s).mem = s.mem := by grind [State.freezeLog, setReg_mem, setFld_mem]
theorem unfreezeLog_mem (s : State) (how : Nat) : (State.unfreezeLog s how).mem = s.mem := by grind [State.unfreezeLog, emit_mem, setFld_mem]
theorem freezeWrite_mem (s : State) (on : Bool) : (State.freezeWrite s on).mem = s.mem := by
  grind [State.freezeWrite, unfreezeLog_mem, freezeLog_mem, sendMgmt_mem]
theorem freshAge_mem (s : State) (port : Nat) (set : Nat) (x3 : Nat) : (State.freshAge s port set x3).mem = s.mem := by
  grind [State.freshAge, setDirCtl_mem]
theorem gateStep_mem (s : State) (d : Nat) : (State.gateStep s d).mem = s.mem := by
  grind [State.gateStep, openDomain_mem, closeDomain_mem, flushCluster_mem, setDomain_mem]
theorem gateSteps_mem (s : State) (x1 : List Nat) : (State.gateSteps s x1).mem = s.mem := by fun_induction State.gateSteps s x1 <;> grind [gateStep_mem]
theorem noticeStored_mem (s : State) (r : Rec) (ix : Nat) : (State.noticeStored s r ix).mem = s.mem := by grind [State.noticeStored]
theorem storeRec_mem (s : State) (r : Rec) : (State.storeRec s r).mem = s.mem := by
  grind [State.storeRec, forwardRec_mem, noticeStored_mem, setReg_mem]
theorem summarise_mem (s : State) (code : Nat) : (State.summarise s code).mem = s.mem := by grind [State.summarise, storeRec_mem]
theorem giveToken_mem (s : State) (code : Nat) : (s.giveToken code).mem = s.mem := by
  unfold State.giveToken; dsimp only; split <;> simp only [summarise_mem, setBucket_mem, addToken_mem]
theorem giveTokens_mem (s : State) (l : List Nat) : (s.giveTokens l).mem = s.mem := foldl_mem _ giveToken_mem l s
theorem haltAll_mem (s : State) (code : Nat) (pkg : Nat) (stamp : Word) : (State.haltAll s code pkg stamp).mem = s.mem := by
  grind [State.haltAll, haltHeld_mem, setFld_mem, floodMgmt_mem, emit_mem]
theorem holdTick_mem (s : State) : (State.holdTick s).mem = s.mem := by grind [State.holdTick, sendMgmt_mem]
theorem hostRecord_mem (s : State) : (State.hostRecord s).mem = s.mem := by grind [State.hostRecord, modEpf_mem]
theorem illegal_mem (s : State) (t : Nat) : (State.illegal s t).mem = s.mem := by grind [State.illegal, raise_mem]
theorem setInbound_mem (s : State) (n : Nat) (l : List InReq) : (State.setInbound s n l).mem = s.mem := by grind [State.setInbound]
theorem inboundStep_mem (s : State) (n : Nat) : (State.inboundStep s n).1.mem = s.mem := by
  grind [State.inboundStep, portReadBytes_mem, octetOut_mem, portClear_mem, portWriteBytes_mem, setInbound_mem]
theorem inboundRun_mem (s : State) (n : Nat) (x2 : Nat) : (State.inboundRun s n x2).mem = s.mem := by
  fun_induction State.inboundRun s n x2 <;> grind [inboundStep_mem]
theorem inboundAdvance_mem (s : State) (n : Nat) : (State.inboundAdvance s n).mem = s.mem := by grind [State.inboundAdvance, inboundRun_mem]
theorem inboundPut_mem (s : State) (n : Nat) (r : InReq) : (State.inboundPut s n r).mem = s.mem := by
  grind [State.inboundPut, setInbound_mem, inboundAdvance_mem]
theorem inboundTick_mem (s : State) (x1 : List Nat) : (State.inboundTick s x1).mem = s.mem := by
  fun_induction State.inboundTick s x1 <;> grind [inboundAdvance_mem]
theorem inject_mem (s : State) (x1 : List Msg) : (State.inject s x1).mem = s.mem := by fun_induction State.inject s x1 <;> grind [route_mem]
theorem installGrant_mem (s : State) (c : Command) : (State.installGrant s c).mem = s.mem := by
  grind [State.installGrant, grantRecord_mem, setReg_mem]
theorem invL1iRun_mem (s : State) (t : Nat) (va : Word) : (State.invL1iRun s t va).mem = s.mem := by
  grind [State.invL1iRun, modCore_mem, retire_mem, closeLine_mem, raise_mem, cachePiece_mem]
theorem invSw2Run_mem (s : State) (t : Nat) (d : Nat × Nat × Nat) : (State.invSw2Run s t d).mem = s.mem := by
  grind [State.invSw2Run, setCore_mem, wakeCore_mem, retire_mem]
theorem invSw3Run_mem (s : State) (t : Nat) (d : Nat × Nat × Nat) : (State.invSw3Run s t d).mem = s.mem := by
  grind [State.invSw3Run, modDie_mem, l3Evict_mem, retire_mem]
theorem issueEviction_mem (s : State) (c : Nat) : (State.issueEviction s c).mem = s.mem := by
  grind [State.issueEviction, evictHome_mem, modCore_mem, modDie_mem, ebCheck_mem]
theorem journal_mem (s : State) (n : Nat) (x2 : Hdr) (kind : Nat) (overtake : Bool) : (State.journal s n x2 kind overtake).mem = s.mem := by
  grind [State.journal, send_mem]
theorem setLane_mem (s : State) (n : Nat) (wAddr : Nat) (l : JrnLane) : (State.setLane s n wAddr l).mem = s.mem := by grind [State.setLane, modHome_mem]
theorem jrnTid_mem (s : State) (n : Nat) : (State.jrnTid s n).1.mem = s.mem := by grind [State.jrnTid, modHome_mem]
theorem laneWrite_mem (s : State) (n : Nat) (wAddr : Nat) (realm : Realm) : (State.laneWrite s n wAddr realm).1.mem = s.mem := by
  grind [State.laneWrite, modHome_mem, jrnTid_mem, setLane_mem]
theorem journalAppend_mem (s : State) (n : Nat) (x2 : Hdr) (r : BitVec 256) : (State.journalAppend s n x2 r).1.mem = s.mem := by
  grind [State.journalAppend, send_mem, jrnTid_mem, laneWrite_mem, setLane_mem, modHome_mem, emit_mem]
theorem journalCmp_mem (s : State) (n : Nat) (x2 : Hdr) : (State.journalCmp s n x2).1.mem = s.mem := by
  grind [State.journalCmp, setLane_mem, laneWrite_mem, modHome_mem, send_mem]
theorem lateDone_mem (s : State) (r : HostRead) : (State.lateDone s r).mem = s.mem := by grind [State.lateDone, finishReset_mem, modEpf_mem]
theorem leaveTick_mem (s : State) : (State.leaveTick s).mem = s.mem := by grind [State.leaveTick, beginQuiesce_mem]
theorem leaveUniform_mem (s : State) : (State.leaveUniform s).mem = s.mem := by grind [State.leaveUniform, setFld_mem, emit_mem]
theorem leftImage_mem (s : State) : (State.leftImage s).mem = s.mem := by grind [State.leftImage, setReg_mem, setFld_mem, setLinkMembers_mem]
theorem levelDies_mem (s : State) : (State.levelDies s).mem = s.mem := by grind [State.levelDies, setFld_mem, applyLevel_mem, emit_mem]
theorem linkReport_mem (s : State) (p : Nat) (octet : Nat) (fenced : Bool) : (State.linkReport s p octet fenced).mem = s.mem := by
  grind [State.linkReport, changeRoutes_mem]
theorem sendFlit_mem (s : State) (n : Nat) : (State.sendFlit s n).mem = s.mem := by grind [State.sendFlit, octetCount_mem, setLink_mem]
theorem sendFlits_mem (s : State) (x1 : List Nat) : (State.sendFlits s x1).mem = s.mem := by fun_induction State.sendFlits s x1 <;> grind [sendFlit_mem]
theorem linkTick_mem (s : State) : (State.linkTick s).mem = s.mem := by grind [State.linkTick, countWaits_mem, sendFlits_mem, inject_mem]
theorem readPiece_mem (s : State) (t : Nat) (p : Piece) : (State.readPiece s t p).1.mem = s.mem := by grind [State.readPiece, loadLine_mem, mbCheck_mem]
theorem readPieces_mem (s : State) (t : Nat) (x2 : List Piece) : (State.readPieces s t x2).1.mem = s.mem := by
  fun_induction State.readPieces s t x2 <;> grind [readPiece_mem]
theorem loadAt_mem (s : State) (t : Nat) (op : LoadOp) (rd : BitVec 5) (va : Word) (acquire : Bool) : (State.loadAt s t op rd va acquire).mem = s.mem := by
  grind [State.loadAt, deviceLoad_mem, modThread_mem, sendCredited_mem, modCore_mem, finishLoad_mem, readPieces_mem, wantDrain_mem, raise_mem, pieces_mem, State.sendAndWait, State.takeTid]
theorem loadRoles_mem (s : State) (l : List Byte) (x2 : List Nat) : (State.loadRoles s l x2).mem = s.mem := by
  fun_induction State.loadRoles s l x2 <;> grind [setFld_mem]
theorem loadMasks_mem (s : State) (l : List Byte) (x2 : List Nat) : (State.loadMasks s l x2).mem = s.mem := by
  fun_induction State.loadMasks s l x2 <;> grind [setFld_mem]
theorem loadBoard_mem (s : State) : (State.loadBoard s).mem = s.mem := by grind [State.loadBoard, loadMasks_mem, loadRoles_mem, setFld_mem, emit_mem]
theorem loadSlots_mem (s : State) (x1 : List (Nat × BitVec 256 × Word)) : (State.loadSlots s x1).mem = s.mem := by
  fun_induction State.loadSlots s x1 <;> grind [setFld_mem, setReg_mem]
theorem loadKeys_mem (s : State) : (State.loadKeys s).mem = s.mem := by grind [State.loadKeys, emit_mem, loadSlots_mem]
theorem mapApply_mem (s : State) (x1 : List (Nat × Word × BitVec 16)) : (State.mapApply s x1).mem = s.mem := by
  fun_induction State.mapApply s x1 <;> grind [setReg_mem]
theorem mapTick_mem (s : State) : (State.mapTick s).mem = s.mem := by grind [State.mapTick, mapApply_mem]
theorem mapWrite_mem (s : State) (off : Nat) (v : Word) (origin : BitVec 16) : (State.mapWrite s off v origin).mem = s.mem := by
  grind [State.mapWrite, chgRecs_mem]
theorem mbStore_mem (s : State) (t : Nat) (a : LineAddr) (data : Line) (m : BitVec 64) (uncached : Bool) (closed : Bool) (zero : Bool) (u : State) (h : State.mbStore s t a data m uncached closed zero = some u) :
    u.mem = s.mem := by
  grind [State.mbStore, modCore_mem]
theorem mbStorePieces_mem (s : State) (t : Nat) (v : Nat) (closed : Bool) (x4 : List Piece) (u : State) (h : State.mbStorePieces s t v closed x4 = some u) : u.mem = s.mem := by
  fun_induction State.mbStorePieces s t v closed x4 <;> grind [mbStore_mem]
theorem memberFinished_mem (s : State) (p : Nat) (r : Nat) (sweep : Bool) : (State.memberFinished s p r sweep).mem = s.mem := by
  grind [State.memberFinished, modRealms_mem, finishWaits_mem]
theorem memberNotice_mem (s : State) (x1 : Report) : (State.memberNotice s x1).mem = s.mem := by
  unfold State.memberNotice; grind [removeMember_mem, leftImage_mem, dropStandby_mem, setFld_mem, beginSweep_mem, endRotation_mem, takeRealmWord_mem]
theorem meshCe_mem (s : State) (k : Nat) (code : Nat) (ps : List Nat) : (State.meshCe s k code ps).mem = s.mem := by
  grind [State.meshCe, addFld_mem, ce_mem]
theorem meshError_mem (s : State) (x1 : MeshError) : (State.meshError s x1).1.mem = s.mem := by unfold State.meshError; grind [ueP_mem, meshCe_mem]
theorem meshInject_mem (s : State) (x1 : Hdr) (e : MeshError) : (State.meshInject s x1 e).1.mem = s.mem := by
  grind [State.meshInject, spendFree_mem, fireInject_mem]
theorem meshRefuse_mem (s : State) (m : Msg) : (State.meshRefuse s m).mem = s.mem := by
  grind [State.meshRefuse, openDomain_mem, addFld_mem, routerCount_mem]
theorem meshResend_mem (s : State) (x : HeldPacket) : (State.meshResend s x).mem = s.mem := by
  grind [State.meshResend, openDomain_mem, addFld_mem, routerCount_mem]
theorem migrateWays_mem (s : State) (port set : Nat) (o : DirOutcome) (l : List Nat) : (s.migrateWays port set o l).1.mem = s.mem := by
  induction l generalizing s o with
  | nil => rfl
  | cons w l ih =>
    unfold State.migrateWays
    split
    · exact ih _ _
    · dsimp only
      split
      · rw [ih, dirFree_mem, dirError_mem]
      · split
        · rw [queueRecalls_mem, dirError_mem]
        · split
          · rw [dirError_mem]
          · rename_i hm
            rw [ih, moveGroup_mem _ (fun o s p q w u hu => roomFirst_mem _ _ _ _ _ _ hu) _ _ _ hm, dirError_mem]
theorem migrateSet_mem (s : State) (o : DirOutcome) : (State.migrateSet s o).mem = s.mem := by
  unfold State.migrateSet; grind [emit_mem, setFld_mem, dirCtlError_mem, migrateWays_mem, endReshape_mem]
theorem mispredict_mem (s : State) (t : Nat) : (State.mispredict s t).mem = s.mem := by grind [State.mispredict, countEv_mem, squash_mem]
theorem modBridge_mem (s : State) (d : Nat) (f : Bridge → Bridge) : (State.modBridge s d f).mem = s.mem := by grind [State.modBridge]
theorem msixWrite_mem (s : State) (dw : Nat) (v : BitVec 32) : (State.msixWrite s dw v).mem = s.mem := by
  grind [State.msixWrite, epfOut_mem, modEpf_mem]
theorem privileged_mem (s : State) (t : Nat) : (State.privileged s t).mem = s.mem := by grind [State.privileged, raise_mem]
theorem refreshTimers_mem (s : State) (t : Nat) : (State.refreshTimers s t).mem = s.mem := by grind [State.refreshTimers, modThread_mem]
theorem startFlush_mem (s : State) (t : Nat) : (State.startFlush s t).mem = s.mem := by grind [State.startFlush, modCore_mem]
theorem writePcev_mem (s : State) (t : Nat) (i : Nat) (x3 : Word) : (State.writePcev s t i x3).mem = s.mem := by
  grind [State.writePcev, setPccS_mem, setPccV_mem]
theorem writePcstat_mem (s : State) (t : Nat) (w : Word) : (s.writePcstat t w).mem = s.mem := by
  unfold State.writePcstat
  rw [foldl_mem]; intro s i; dsimp only; split <;> simp only [setPccV_mem]
theorem writePcwrite_mem (s : State) (t : Nat) (x2 : Word) : (State.writePcwrite s t x2).mem = s.mem := by grind [State.writePcwrite, setPccV_mem]
theorem writeCtl_mem (s : State) (t n : Nat) (w : Word) : (s.writeCtl t n w).mem = s.mem := by
  unfold State.writeCtl
  dsimp only
  simp only [apply_ite State.mem, writePcwrite_mem, writePcstat_mem, writePcev_mem, enableL2_mem, disableL2_mem, modCore_mem,
    startFlush_mem, refreshTimers_mem, modThread_mem, ite_self]
theorem mtcRun_mem (s : State) (t : Nat) (n : Nat) (x3 : Word) : (State.mtcRun s t n x3).mem = s.mem := by
  grind [State.mtcRun, writeCtl_mem, retire_mem, privileged_mem, illegal_mem]
theorem noteBroken_mem (s : State) (n : Nat) (x2 : Hdr) : (State.noteBroken s n x2).mem = s.mem := by grind [State.noteBroken, modHome_mem]
theorem noteServed_mem (s : State) (n : Nat) (r : HReq) : (State.noteServed s n r).mem = s.mem := by grind [State.noteServed, modHome_mem]
theorem noticeVector_mem (s : State) : (State.noticeVector s).mem = s.mem := by grind [State.noticeVector, modEpf_mem, sendMsix_mem]
theorem order_mem (s : State) (x1 : Freqs) : (State.order s x1).mem = s.mem := by fun_induction State.order s x1 <;> grind [modParasol_mem]
theorem partEnded_mem (s : State) (c : Command) (p : Nat) (status : Nat) (r0 : Nat) (r1 : Nat) : (State.partEnded s c p status r0 r1).mem = s.mem := by
  grind [State.partEnded, complete_mem]
theorem partDone_mem (s : State) (c : Command) (status : Nat) (r0 : Nat) (r1 : Nat) : (State.partDone s c status r0 r1).mem = s.mem := by
  grind [State.partDone, complete_mem, partEnded_mem]
theorem partRecord_mem (s : State) (c : Command) (st : Nat) : (State.partRecord s c st).mem = s.mem := by
  grind [State.partRecord, sealFailed_mem, emit_mem]
theorem partialReset_mem (s : State) (n : Nat) (cause : Nat) : (State.partialReset s n cause).mem = s.mem := by
  grind [State.partialReset, setLinkState_mem, modLink_mem, emit_mem, addFld_mem]
theorem storeOrDrop_mem (s : State) (r : Rec) : (State.storeOrDrop s r).mem = s.mem := by grind [State.storeOrDrop, storeRec_mem, dropFrozen_mem]
theorem suppress_mem (s : State) (r : Rec) : (State.suppress s r).mem = s.mem := by grind [State.suppress]
theorem passBucket_mem (s : State) (r : Rec) : (State.passBucket s r).mem = s.mem := by
  grind [State.passBucket, suppress_mem, setBucket_mem, summarise_mem, storeOrDrop_mem]
theorem peerRefused_mem (s : State) (k : Nat) (o : Nat) (pa : Nat) : (State.peerRefused s k o pa).mem = s.mem := by grind [State.peerRefused, emit_mem]
theorem poll_mem (s : State) (ws : List Word) : (State.poll s ws).mem = s.mem := by
  grind [State.poll, checkRings_mem, issueReads_mem, modEpf_mem, epfOut_mem, addFld_mem, setFld_mem]
theorem powerOffDies_mem (s : State) : (State.powerOffDies s).mem = s.mem := by grind [State.powerOffDies]
theorem prefetch_mem (s : State) (t : Nat) (va : Word) (write : Bool) : (State.prefetch s t va write).mem = s.mem := by
  grind [State.prefetch, modThread_mem, loadLine_mem, getOwned_mem, translate_mem]
theorem proxyWb_mem (s : State) (n : Nat) (r : HReq) : (State.proxyWb s n r).mem = s.mem := by
  grind [State.proxyWb, forwardReq_mem, respond_mem, modPres_mem]
theorem proxyBegin_mem (s : State) (n : Nat) (r : HReq) : (State.proxyBegin s n r).mem = s.mem := by
  grind [State.proxyBegin, snoop_mem, putTxn_mem, forwardReq_mem, proxyWb_mem, presCheck_mem]
theorem proxyCmp_mem (s : State) (x1 : Hdr) : (State.proxyCmp s x1).1.mem = s.mem := by
  grind [State.proxyCmp, modHome_mem, dropOtherDies_mem, modPres_mem]
theorem proxyReply_mem (s : State) (n : Nat) (x2 : Hdr) (ty : MsgType) (fl : Flags) (b : Body) : (State.proxyReply s n x2 ty fl b).mem = s.mem := by
  grind [State.proxyReply, send_mem]
theorem proxyCombine_mem (s : State) (n : Nat) (t : HTxn) : (State.proxyCombine s n t).mem = s.mem := by
  grind [State.proxyCombine, modPres_mem, proxyReply_mem]
theorem proxyCredit_mem (s : State) (x1 : Hdr) : (State.proxyCredit s x1).mem = s.mem := by grind [State.proxyCredit, homeCredits_mem, leavePool_mem]
theorem proxyRecalled_mem (s : State) (n : Nat) (t : HTxn) : (State.proxyRecalled s n t).mem = s.mem := by
  grind [State.proxyRecalled, sendHome_mem, modHome_mem]
theorem sendCmp_mem (s : State) (n : Nat) (t : HTxn) (g : CState) (fl : Flags) : (State.sendCmp s n t g fl).mem = s.mem := by
  grind [State.sendCmp, respond_mem, putTxn_mem]
theorem proxyServed_mem (s : State) (n : Nat) (t : HTxn) : (State.proxyServed s n t).mem = s.mem := by
  grind [State.proxyServed, modHome_mem, modPres_mem, sendCmp_mem, endHTxn_mem, forwardReq_mem]
theorem proxySnoop_mem (s : State) (n : Nat) (m : Msg) (rest : List Msg) : (s.proxySnoop n m rest).mem = s.mem := by
  unfold State.proxySnoop
  dsimp only
  split
  · rw [presCheck_mem]
  · split
    · split <;> simp only [putTxn_mem, snoop_mem, presCheck_mem]
    · split <;> simp only [putTxn_mem, snoop_mem, presCheck_mem]
    · split <;> simp only [putTxn_mem, snoop_mem, snoopAll_mem, presCheck_mem]
    · rw [putTxn_mem, foldl_mem _ (fun s d => snoop_mem _ _ _ _ _ _), presCheck_mem]
    · rw [putTxn_mem, snoopAll_mem, presCheck_mem]
theorem proxyStep_mem (s : State) (n : Nat) (a : LineAddr) (x3 : Nat) : (State.proxyStep s n a x3).mem = s.mem := by
  fun_induction State.proxyStep s n a x3 <;> grind [proxyCombine_mem, endHTxn_mem, proxySnoop_mem, proxyServed_mem]
theorem rateWritten_mem (s : State) (off : Nat) : (State.rateWritten s off).mem = s.mem := by grind [State.rateWritten]
theorem readCtx_mem (s : State) (t : Nat) (base : Nat) (realm : Realm) (i : Nat) (x5 : Nat) : (State.readCtx s t base realm i x5).1.mem = s.mem := by
  fun_induction State.readCtx s t base realm i x5 <;> grind [loadLine_mem]
theorem realignRecord_mem (s : State) (p : Nat) (offset : BitVec 16) : (State.realignRecord s p offset).mem = s.mem := by
  grind [State.realignRecord, emit_mem]
theorem realignImage_mem (s : State) (p : Nat) (offset : BitVec 16) : (State.realignImage s p offset).mem = s.mem := by
  grind [State.realignImage, sendCtl_mem, realignRecord_mem]
theorem realignRecords_mem (s : State) (x1 : List (Nat × BitVec 16)) : (State.realignRecords s x1).mem = s.mem := by
  fun_induction State.realignRecords s x1 <;> grind [realignRecord_mem]
theorem realignTick_mem (s : State) : (State.realignTick s).mem = s.mem := by grind [State.realignTick, realignRecords_mem, beginQuiesce_mem]
theorem recalled_mem (s : State) (a : LineAddr) : (State.recalled s a).mem = s.mem := by grind [State.recalled, modHome_mem]
theorem recordChans_mem (s : State) (fast : Bool) (cs : Nat → ChanTrain) (x3 : List Nat) : (State.recordChans s fast cs x3).mem = s.mem := by
  fun_induction State.recordChans s fast cs x3 <;> grind [emit_mem, setReg_mem]
theorem recordNone_mem (s : State) (n : Nat) (a : LineAddr) (u : State) (h : State.recordNone s n a = some u) : u.mem = s.mem := by
  grind [State.recordNone, dirSet_mem, modPres_mem, modRec_mem]
theorem recordOwner_mem (s : State) (n : Nat) (a : LineAddr) (k : Nat) (t : State) (h : s.recordOwner n a k = some t) : t.mem = s.mem := by
  unfold State.recordOwner at h
  split at h
  · exact map_mem _ (fun s => by rw [modRec_mem, modPres_mem]) (fun u hu => recordNone_mem _ _ _ _ hu) h
  · split at h
    · exact recordNone_mem _ _ _ _ h
    · rw [dirSet_mem _ _ _ _ _ h, modRec_mem, modPres_mem]
theorem recordPorts_mem (s : State) (ps : Nat → PortTrain) (x2 : List Nat) : (State.recordPorts s ps x2).mem = s.mem := by
  fun_induction State.recordPorts s ps x2 <;> grind [setReg_mem]
theorem recordSharer_mem (s : State) (n : Nat) (a : LineAddr) (k : Nat) (u : State) (h : State.recordSharer s n a k = some u) : u.mem = s.mem := by
  grind [State.recordSharer, dirSet_mem, modPres_mem, modRec_mem]
theorem refuseFull_mem (s : State) (who : Writer) (off : Nat) (v : Word) (m : Word) : (State.refuseFull s who off v m).mem = s.mem := by
  grind [State.refuseFull, chgRecs_mem]
theorem released_mem (s : State) (z : Quiesce) : (State.released s z).mem = s.mem := by grind [State.released, endTakeover_mem, emit_mem, ok_mem]
theorem removeSharer_mem (s : State) (n : Nat) (a : LineAddr) (k : Nat) (u : State) (h : State.removeSharer s n a k = some u) : u.mem = s.mem := by
  grind [State.removeSharer, dirSet_mem, modPres_mem, modRec_mem]
theorem removeWriter_mem (s : State) (n : Nat) (a : LineAddr) (k : Nat) (st : Nat) (keepS : Bool) (u : State) (h : State.removeWriter s n a k st keepS = some u) : u.mem = s.mem := by
  grind [State.removeWriter, dirSet_mem, modPres_mem, modRec_mem]
theorem renterBoth_mem (s : State) (t : Nat) (r : Nat) (ls : List Line) : (State.renterBoth s t r ls).mem = s.mem := by
  grind [State.renterBoth, modThread_mem, enterRealm_mem, readCtx_mem]
theorem renterRefused_mem (s : State) (t : Nat) (sub : Nat) (r : Nat) : (State.renterRefused s t sub r).mem = s.mem := by
  grind [State.renterRefused, raise_mem]
theorem renterRun_mem (s : State) (t : Nat) (r : Nat) : (State.renterRun s t r).mem = s.mem := by
  grind [State.renterRun, enterRealm_mem, renterBoth_mem, readCtx_mem, modThread_mem, renterRefused_mem]
theorem repairWires_mem (s : State) (x1 : List WireFault) : (State.repairWires s x1).mem = s.mem := by
  fun_induction State.repairWires s x1 <;> grind [setFld_mem, emit_mem, fenceDie_mem]
theorem replayFrame_mem (s : State) (d : Nat) (dir : Nat) : (State.replayFrame s d dir).mem = s.mem := by
  grind [State.replayFrame, modBridge_mem, ce_mem, addFld_mem]
theorem replayTimes_mem (s : State) (d : Nat) (dir : Nat) (x3 : Nat) : (State.replayTimes s d dir x3).mem = s.mem := by
  fun_induction State.replayTimes s d dir x3 <;> grind [replayFrame_mem]
theorem resetMasks_mem (s : State) (x1 : List Nat) : (State.resetMasks s x1).mem = s.mem := by
  fun_induction State.resetMasks s x1 <;> grind [setReg_mem]
theorem reshapePart_mem (s : State) (c : Command) : (s.reshapePart c).mem = s.mem := by
  unfold State.reshapePart
  dsimp only
  rw [startReshape_mem]
  split <;> (try rw [degrade_mem]) <;> (rw [foldl_mem]; intro s p; rw [setFld_mem])
theorem reshapeTick_mem (s : State) : (State.reshapeTick s).mem = s.mem := by grind [State.reshapeTick, partDone_mem]
theorem residueMark_mem (s : State) (t : Nat) (unit : Option Nat) : (State.residueMark s t unit).1.mem = s.mem := by
  grind [State.residueMark, fireInject_mem, modThread_mem]
theorem residueRetry_mem (s : State) (t : Nat) (unit : Nat) (again : Bool) : (State.residueRetry s t unit again).mem = s.mem := by
  grind [State.residueRetry, ueR_mem, ueP_mem, fenceCore_mem, countEv_mem, ce_mem, squash_mem, modThread_mem, modCore_mem]
theorem residueSeg_mem (s : State) (e : Nat) (c : Nat) (mismatches : Nat) : (State.residueSeg s e c mismatches).1.mem = s.mem := by
  grind [State.residueSeg, fenceEngine_mem, engineErr_mem, addFld_mem, ce_mem, fireInject_mem]
theorem resolveCond_mem (s : State) (t : Nat) (taken : Bool) (target : BitVec 57) : (State.resolveCond s t taken target).mem = s.mem := by
  grind [State.resolveCond, mispredict_mem, countEv_mem, modCore_mem, modThread_mem]
theorem resolveJump_mem (s : State) (t : Nat) (kind : Fin 5) (target : BitVec 57) : (State.resolveJump s t kind target).mem = s.mem := by
  unfold State.resolveJump; grind [countEv_mem, mispredict_mem, modThread_mem, modCore_mem]
theorem setRealmState_mem (s : State) (r : Nat) (st : Nat) (origin : BitVec 16) : (State.setRealmState s r st origin).mem = s.mem := by
  grind [State.setRealmState, setRealmWord_mem]
theorem resolveUeR_mem (s : State) (r : Nat) (code : Nat) (p : Nat) : (State.resolveUeR s r code p).mem = s.mem := by
  grind [State.resolveUeR, modRealms_mem, setRealmState_mem]
theorem retry_mem (s : State) (n : Nat) : (State.retry s n).mem = s.mem := by grind [State.retry, partialReset_mem, resendAll_mem]
theorem rlmDone_mem (s : State) (result : Nat) : (State.rlmDone s result).mem = s.mem := by grind [State.rlmDone, setFld_mem]
theorem rlmBind_mem (s : State) (r : Nat) (arg0 : Word) (arg1 : Word) (origin : BitVec 16) (u : State) (h : State.rlmBind s r arg0 arg1 origin = some u) : u.mem = s.mem := by
  grind [State.rlmBind, bindThreads_mem, rlmDone_mem]
theorem rlmStart_mem (s : State) (r : Nat) (origin : BitVec 16) (u : State) (h : State.rlmStart s r origin = some u) : u.mem = s.mem := by
  grind [State.rlmStart, setRealmState_mem, emit_mem, rlmDone_mem]
theorem rlmStop_mem (s : State) (r : Nat) (origin : BitVec 16) : (State.rlmStop s r origin).mem = s.mem := by
  grind [State.rlmStop, setRealmState_mem, emit_mem, rlmDone_mem]
theorem rlmUnbind_mem (s : State) (r : Nat) (arg0 : Word) (origin : BitVec 16) : (State.rlmUnbind s r arg0 origin).mem = s.mem := by
  grind [State.rlmUnbind, unbindAll_mem, rlmDone_mem]
theorem rotateKey_mem (s : State) (c : Command) : (State.rotateKey s c).mem = s.mem := by
  grind [State.rotateKey, sendAll_mem, beginSweep_mem, modRealms_mem, startLong_mem]
theorem rpContain_mem (s : State) (n : Nat) (cause : Nat) (aer : BitVec 32) : (State.rpContain s n cause aer).mem = s.mem := by
  grind [State.rpContain, failReads_mem, setInbound_mem, emit_mem, setFld_mem]
theorem rpReleaseTry_mem (s : State) (n : Nat) : (State.rpReleaseTry s n).mem = s.mem := by grind [State.rpReleaseTry, setFld_mem, emit_mem]
theorem rpRelease_mem (s : State) (n : Nat) : (State.rpRelease s n).mem = s.mem := by grind [State.rpRelease, setFld_mem, rpReleaseTry_mem]
theorem rpassignWrite_mem (s : State) (n : Nat) (i : Nat) (v : Word) (origin : BitVec 16) : (State.rpassignWrite s n i v origin).mem = s.mem := by
  grind [State.rpassignWrite, mapWrite_mem, chgRecs_mem]
theorem setSlot_mem (s : State) (k : Nat) (active : Bool) (key : BitVec 256) : (State.setSlot s k active key).mem = s.mem := by
  grind [State.setSlot, mirrorSlots_mem, saveKeys_mem, emitOrigin_mem, setFld_mem]
theorem runClaim_mem (s : State) (c : Command) : (State.runClaim s c).mem = s.mem := by
  grind [State.runClaim, setReg_mem, setSlot_mem, emit_mem, ok_mem, refuseState_mem]
theorem runMode_mem (s : State) (c : Command) : (State.runMode s c).mem = s.mem := by
  grind [State.runMode, beginRelease_mem, passAll_mem, sendAll_mem, setFld_mem, ok_mem, beginDrain_mem, flood_mem, beginJoin_mem, beginQuiesce_mem, startLong_mem, refuseState_mem]
theorem runProgress_mem (s : State) (c : Command) : (State.runProgress s c).mem = s.mem := by
  grind [State.runProgress, passAll_mem, spendFree_mem, complete_mem, refuseField_mem]
theorem runReg_mem (s : State) (cmd : Nat) (r : Nat) (arg0 : Word) (arg1 : Word) (origin : BitVec 16) (u : State) (h : State.runReg s cmd r arg0 arg1 origin = some u) : u.mem = s.mem := by
  grind [State.runReg, rlmStop_mem, rlmStart_mem, rlmDone_mem, rlmUnbind_mem, rlmBind_mem]
theorem runRegime_mem (s : State) (c : Command) : (State.runRegime s c).mem = s.mem := by
  grind [State.runRegime, beginQuiesce_mem, startLong_mem, refuseState_mem, ok_mem]
theorem runReset_mem (s : State) (c : Command) : (State.runReset s c).mem = s.mem := by grind [State.runReset, ok_mem]
theorem scrubLines2_mem (s : State) (c : Nat) (x2 : List LineAddr) : (State.scrubLines2 s c x2).mem = s.mem := by
  fun_induction State.scrubLines2 s c x2 <;> grind [l2Check_mem]
theorem scrubLines3_mem (s : State) (die : Nat) (x2 : List LineAddr) : (State.scrubLines3 s die x2).mem = s.mem := by
  fun_induction State.scrubLines3 s die x2 <;> grind [l3Check_mem]
theorem sendAd_mem (s : State) (t : Nat) (a : AdUpdate) : (State.sendAd s t a).mem = s.mem := by
  grind [State.sendAd, modThread_mem, sendCredited_mem, modCore_mem, State.takeTid]
theorem sendCtx_mem (s : State) (c : Nat) : (State.sendCtx s c).mem = s.mem := by grind [State.sendCtx, modCore_mem, sendCredited_mem, State.takeTid]
theorem sendStranded_mem (s : State) (l : List Nat) : (s.sendStranded l).mem = s.mem := by
  induction l generalizing s with
  | nil => rfl
  | cons n l ih => rw [State.sendStranded, ih, foldl_mem _ (fun s k => route_mem _ _), setLink_mem]
theorem slotInvalid_mem (s : State) (slot : Nat) : (State.slotInvalid s slot).mem = s.mem := by grind [State.slotInvalid, emit_mem]
theorem senseSteps_mem (s : State) : (State.senseSteps s).mem = s.mem := by
  grind [State.senseSteps, loadBoard_mem, loadKeys_mem, checkDies_mem, levelDies_mem, setFld_mem, emit_mem, slotInvalid_mem]
theorem serveRead_mem (s : State) (x1 : Hdr) (off : Nat) (size : Nat) (x4 : Word) : (State.serveRead s x1 off size x4).mem = s.mem := by
  grind [State.serveRead, devRead_mem, send_mem, regReply_mem]
theorem setAway_mem (s : State) (a : Nat) (v : Bool) : (State.setAway s a v).mem = s.mem := by grind [State.setAway]
theorem setFrequencies_mem (s : State) (p : Nat) (cap : Nat) (dies : List Nat) : (State.setFrequencies s p cap dies).mem = s.mem := by
  grind [State.setFrequencies, order_mem]
theorem setLineKey_mem (s : State) (a : Nat) (k : Nat) : (State.setLineKey s a k).mem = s.mem := by grind [State.setLineKey]
theorem setPot_mem (s : State) (page : Nat) (e : Nat) : (State.setPot s page e).mem = s.mem := by grind [State.setPot]
theorem setSensor_mem (s : State) (i : Nat) (x : Sensor) : (State.setSensor s i x).mem = s.mem := by grind [State.setSensor, modParasol_mem]
theorem silenceTick_mem (s : State) : (State.silenceTick s).mem = s.mem := by grind [State.silenceTick, addFld_mem]
theorem slotFault_mem (s : State) (t : Nat) : (State.slotFault s t).mem = s.mem := by grind [State.slotFault, raise_mem]
theorem spillOff_mem (s : State) (cause : Nat) : (State.spillOff s cause).mem = s.mem := by grind [State.spillOff, setFld_mem, emit_mem]
theorem spillWritten_mem (s : State) : (State.spillWritten s).mem = s.mem := by grind [State.spillWritten, spillOff_mem, setFld_mem]
theorem takeInterrupt_mem (s : State) (t : Nat) (toH : Bool) (cls : IntClass) : (State.takeInterrupt s t toH cls).mem = s.mem := by
  grind [State.takeInterrupt, modThread_mem, realmExit_mem, countEv_mem, squash_mem, closeMb_mem]
theorem startInstr_mem (s : State) (t : Nat) (unit : Option Nat) : (State.startInstr s t unit).1.mem = s.mem := by
  grind [State.startInstr, residueMark_mem, fetch_mem, takeInterrupt_mem]
theorem startRecall_mem (s : State) (n : Nat) (r : Recall) : (State.startRecall s n r).mem = s.mem := by
  grind [State.startRecall, snoopAll_mem, snoop_mem, putTxn_mem]
theorem storeAt_mem (s : State) (t : Nat) (n : Nat) (v : Word) (va : Word) (release : Bool) : (State.storeAt s t n v va release).mem = s.mem := by
  unfold State.storeAt; grind [mbStorePieces_mem, closeMb_mem, deviceStore_mem, finishStore_mem, raise_mem, pieces_mem]
theorem switchRoutes_mem (s : State) : (State.switchRoutes s).mem = s.mem := by grind [State.switchRoutes, sendStranded_mem, writeRoutes_mem]
theorem takeCommand_mem (s : State) (c : Command) : (State.takeCommand s c).mem = s.mem := by grind [State.takeCommand, delivered_mem]
theorem takeEvent_mem (s : State) (e : Event) (code : Nat) (note : Bool) : (State.takeEvent s e code note).mem = s.mem := by
  grind [State.takeEvent, emit_mem]
theorem takeMgmt_mem (s : State) (ty : MsgType) (src : Nat) : (State.takeMgmt s ty src).mem = s.mem := by grind [State.takeMgmt, delivered_mem]
theorem takeReading_mem (s : State) (i : Nat) (v : ℤ) (nearMoved : Bool) : (State.takeReading s i v nearMoved).mem = s.mem := by
  grind [State.takeReading, clusterAlarm_mem, ce_mem, setSensor_mem]
theorem takeReadings_mem (s : State) (x1 : List (Nat × ℤ × Bool)) : (State.takeReadings s x1).mem = s.mem := by
  fun_induction State.takeReadings s x1 <;> grind [takeReading_mem]
theorem telemetry_mem (s : State) : s.telemetry.mem = s.mem := by
  unfold State.telemetry
  dsimp only
  rw [modParasol_mem, setFld_mem, setFld_mem, foldl_mem]; intro s k; rw [setFld_mem]
theorem tlbiAcked_mem (s : State) (h : Hdr) (a : TlbiArgs) : (s.tlbiAcked h a).mem = s.mem := by
  unfold State.tlbiAcked; rw [send_mem]
theorem tlbiRun_mem (s : State) (t : Nat) (va : Word) (control : Word) : (State.tlbiRun s t va control).mem = s.mem := by
  grind [State.tlbiRun, send_mem, retire_mem, modThread_mem]
theorem tlbiTick_mem (s : State) (x1 : List Nat) : (State.tlbiTick s x1).mem = s.mem := by fun_induction State.tlbiTick s x1 <;> grind [tlbiReport_mem]
theorem tlogPart_mem (s : State) (c : Command) : (State.tlogPart s c).mem = s.mem := by grind [State.tlogPart, emit_mem, partDone_mem, setReg_mem]
theorem tlpIn_mem (s : State) (n : Nat) (bytes : Nat) : (State.tlpIn s n bytes).mem = s.mem := by grind [State.tlpIn, octetCount_mem]
theorem touchRow_mem (s : State) (n : Nat) (a : Nat) (r : Nat) : (State.touchRow s n a r).mem = s.mem := by grind [State.touchRow, countUncore_mem]
theorem trainPorts_mem (s : State) (ports : List PortTrain) : (State.trainPorts s ports).mem = s.mem := by
  grind [State.trainPorts, emit_mem, setFld_mem, failedPorts_mem, recordPorts_mem]
theorem trainMasks_mem (s : State) : (State.trainMasks s).mem = s.mem := by grind [State.trainMasks, resetMasks_mem, emit_mem]
theorem trainDram_mem (s : State) (chans : List ChanTrain) : (State.trainDram s chans).mem = s.mem := by
  grind [State.trainDram, fenceChans_mem, fenceEngines_mem, setReg_mem, recordChans_mem, emit_mem]
theorem train_mem (s : State) (wires : List WireFault) (chans : List ChanTrain) (ports : List PortTrain) : (State.train s wires chans ports).mem = s.mem := by
  grind [State.train, applyRoles_mem, trainDram_mem, trainMasks_mem, trainPorts_mem, emit_mem, applyProfiles_mem, enterMode_mem, repairWires_mem]
theorem transfer_mem (s : State) (n : Nat) (port : Nat) (r : Nat) (a : Nat) : (State.transfer s n port r a).mem = s.mem := by
  grind [State.transfer, addFld_mem, countUncore_mem, takeRealmTokens_mem]
theorem ucRespond_mem (s : State) (n : Nat) (x2 : Hdr) (fl : Flags) (v : Word) : (State.ucRespond s n x2 fl v).mem = s.mem := by
  grind [State.ucRespond, send_mem, leavePool_mem]
theorem uncachedIn_mem (s : State) (n : Nat) (m : Msg) : (State.uncachedIn s n m).mem = s.mem := by
  grind [State.uncachedIn, refusalRecord_mem, ucRespond_mem, sendHome_mem]
theorem uniformBoundary_mem (s : State) (p : Nat) (cap : Nat) : (State.uniformBoundary s p cap).mem = s.mem := by
  grind [State.uniformBoundary, order_mem, setFld_mem, emit_mem, modParasol_mem]
theorem unitTlbi_mem (s : State) (h : Hdr) (a : TlbiArgs) : (s.unitTlbi h a).mem = s.mem := by
  unfold State.unitTlbi
  dsimp only
  generalize hu : (if s.liveDies.isEmpty = true then s.tlbiAcked h a else _) = u
  have hm : u.mem = s.mem := by
    rw [← hu]; split
    · rw [tlbiAcked_mem]
    · rfl
  split <;> (repeat rw [foldl_mem _ (fun s d => send_mem _ _)]) <;> exact hm
theorem vecPieces_mem (s : State) (t : Nat) (addr : Nat → Word) (len : Nat) (k : AccKind) (gathered : Bool) (x6 : List Nat) : (State.vecPieces s t addr len k gathered x6).1.mem = s.mem := by
  fun_induction State.vecPieces s t addr len k gathered x6 <;> grind [pieces_mem]
theorem vecRead_mem (s : State) (t : Nat) (x2 : List (Nat × List Piece)) : (State.vecRead s t x2).1.mem = s.mem := by
  fun_induction State.vecRead s t x2 <;> grind [readPieces_mem]
theorem vecStore_mem (s : State) (t : Nat) (f : Nat → Nat) (x3 : List (Nat × List Piece)) (u : State) (h : State.vecStore s t f x3 = some u) : u.mem = s.mem := by
  fun_induction State.vecStore s t f x3 <;> grind [mbStorePieces_mem]
theorem vmemRun_mem (s : State) (t : Nat) (fn : Nat) (esz : BitVec 2) (k : BitVec 3) (vb : BitVec 5) (va : BitVec 5) (vd : BitVec 5) : (State.vmemRun s t fn esz k vb va vd).mem = s.mem := by
  grind [State.vmemRun, finishLoad_mem, vecRead_mem, finishStore_mem, vecStore_mem, vecPieces_mem, raise_mem]
theorem waitdReturn_mem (s : State) (t : Nat) (rd : BitVec 5) (status : Nat) : (State.waitdReturn s t rd status).mem = s.mem := by
  grind [State.waitdReturn, finish_mem]
theorem waitdRun_mem (s : State) (t : Nat) (rd : BitVec 5) (va : Word) : (State.waitdRun s t rd va).mem = s.mem := by
  grind [State.waitdRun, modThread_mem, loadLine_mem, refusedFault_mem, waitdReturn_mem, raise_mem, onePiece_mem]
theorem wakeTick_mem (s : State) : (State.wakeTick s).mem = s.mem := by grind [State.wakeTick, epfOut_mem, modEpf_mem]
theorem withFetchWord_mem (s : State) (nbits : Nat) (x2 : Nat) : (State.withFetchWord s nbits x2).mem = s.mem := by grind [State.withFetchWord]
theorem writeCompletion_mem (s : State) (x : Completion) : (State.writeCompletion s x).mem = s.mem := by
  grind [State.writeCompletion, notOutstanding_mem, issueReads_mem, sendMsix_mem, setFld_mem, epfOut_mem]
theorem writeCounter_mem (s : State) (off : Nat) (v : Word) (m : Word) : (State.writeCounter s off v m).mem = s.mem := by
  grind [State.writeCounter, setPccV_mem, setPccS_mem]
theorem writeCtxcmd_mem (s : State) (v : Word) (m : Word) : (State.writeCtxcmd s v m).mem = s.mem := by
  grind [State.writeCtxcmd, ctxCmdDone_mem, ctxCheck_mem, setFld_mem, ctxcmdAbort_mem, ctxcmdDisable_mem, ctxcmdEnable_mem, ctxcmdWrite_mem, ctxcmdRead_mem, State.ctxCommand]
theorem writeDumpctl_mem (s : State) (v : Word) (m : Word) : (State.writeDumpctl s v m).mem = s.mem := by
  grind [State.writeDumpctl, dumpNow_mem, setFld_mem, dumpEnable_mem, setReg_mem]
theorem writeRecs_mem (s : State) (who : Writer) (off : Nat) (outcome : Nat) (old : Word) (new : Word) (v : Word) : (State.writeRecs s who off outcome old new v).mem = s.mem := by
  grind [State.writeRecs, chgRecs_mem]
theorem writeInject_mem (s : State) (who : Writer) (v : Word) (m : Word) : (State.writeInject s who v m).mem = s.mem := by
  grind [State.writeInject, writeRecs_mem, setReg_mem, refuseFull_mem, State.writePlain]
theorem writeNotice_mem (s : State) : (State.writeNotice s).mem = s.mem := by grind [State.writeNotice, setFld_mem, emit_mem, portWrite_mem]
theorem writeRd_mem (s : State) (t : Nat) (rd : BitVec 5) (r : Option Word) : (State.writeRd s t rd r).mem = s.mem := by
  unfold State.writeRd; grind [illegal_mem, finish_mem]
theorem writeRealmEntry_mem (s : State) (who : Writer) (off : Nat) (v : Word) (m : Word) : (State.writeRealmEntry s who off v m).mem = s.mem := by
  grind [State.writeRealmEntry, sendAll_mem, setReg_mem, writeRecs_mem, setRealmWord_mem, refuseFull_mem]
theorem writeRing_mem (s : State) (off : Nat) (v : Word) (m : Word) : (State.writeRing s off v m).mem = s.mem := by
  grind [State.writeRing, issueReads_mem, setReg_mem]
theorem zeroRun_mem (s : State) (t : Nat) (va : Word) : (State.zeroRun s t va).mem = s.mem := by
  unfold State.zeroRun; grind [retire_mem, mbStore_mem, closeLine_mem, raise_mem, cachePiece_mem]

end Sys2Proof.Machine
end

