-- ==== Sys2Proof/Laws/MemSameD.lean ====
section
/-! SUPPORT. Which operations leave DRAM as it is (part 4 of 4): one lemma per operation of the machine. -/
set_option Elab.async false
namespace Sys2Proof.Machine
open Sys2Proof

theorem atomInstr_mem (op : AtomOp) (t : Nat) (wide : Bool) (ord : BitVec 2) (rd : BitVec 5) (ra : BitVec 5) (rb : BitVec 5) (rc : BitVec 5) (s : State) (u : State) (h : atomInstr op t wide ord rd ra rb rc s = .next u) :
    u.mem = s.mem := by
  grind [atomInstr, atomRun_mem, startInstr_mem, onThread]
theorem condTransfer_mem (s : State) (t : Nat) (a : Bool) (disp : BitVec 15) (cond : Thread → Bool) (u : State) (h : condTransfer s t a disp cond = .next u) : u.mem = s.mem := by
  grind [condTransfer, retireTo_mem, resolveCond_mem, slotFault_mem, startInstr_mem, onThread]
theorem execAadd_mem (t : ThreadPos) (wide : Bool) (ord : BitVec 2) (rd : BitVec 5) (ra : BitVec 5) (rb : BitVec 5) (s : State) (u : State) (h : execAadd t wide ord rd ra rb s = .next u) :
    u.mem = s.mem := by
  grind [execAadd, atomInstr_mem]
theorem execAand_mem (t : ThreadPos) (wide : Bool) (ord : BitVec 2) (rd : BitVec 5) (ra : BitVec 5) (rb : BitVec 5) (s : State) (u : State) (h : execAand t wide ord rd ra rb s = .next u) :
    u.mem = s.mem := by
  grind [execAand, atomInstr_mem]
theorem execAcas_mem (t : ThreadPos) (wide : Bool) (ord : BitVec 2) (rd : BitVec 5) (ra : BitVec 5) (rb : BitVec 5) (rc : BitVec 5) (s : State) (u : State) (h : execAcas t wide ord rd ra rb rc s = .next u) :
    u.mem = s.mem := by
  grind [execAcas, atomInstr_mem]
theorem execAdUpdate_mem (t : ThreadPos) (s : State) (u : State) (h : execAdUpdate t s = .next u) : u.mem = s.mem := by
  grind [execAdUpdate, sendAd_mem]
theorem intOp_mem (s : State) (t : Nat) (unit : Nat) (rd : BitVec 5) (f : Thread → Option Word) (u : State) (h : intOp s t unit rd f = .next u) : u.mem = s.mem := by
  grind [intOp, writeRd_mem, startInstr_mem, onThread]
theorem execAddi_mem (t : ThreadPos) (rd : BitVec 5) (ra : BitVec 5) (imm : BitVec 16) (s : State) (u : State) (h : execAddi t rd ra imm s = .next u) : u.mem = s.mem := by
  grind [execAddi, intOp_mem]
theorem execAddis_mem (t : ThreadPos) (rd : BitVec 5) (ra : BitVec 5) (imm : BitVec 16) (s : State) (u : State) (h : execAddis t rd ra imm s = .next u) : u.mem = s.mem := by
  grind [execAddis, intOp_mem]
theorem execAgeClock_mem (s : State) (u : State) (h : execAgeClock s = .next u) : u.mem = s.mem := by grind [execAgeClock]
theorem execAggregate_mem (e : Fin 16) (s : State) (u : State) (h : execAggregate e s = .next u) : u.mem = s.mem := by
  grind [execAggregate, engineOp_mem]
theorem execAlu_mem (t : ThreadPos) (fn : BitVec 6) (rc : BitVec 5) (rb : BitVec 5) (ra : BitVec 5) (rd : BitVec 5) (s : State) (u : State) (h : execAlu t fn rc rb ra rd s = .next u) : u.mem = s.mem := by
  grind [execAlu, intOp_mem]
theorem execAmax_mem (t : ThreadPos) (wide : Bool) (ord : BitVec 2) (rd : BitVec 5) (ra : BitVec 5) (rb : BitVec 5) (s : State) (u : State) (h : execAmax t wide ord rd ra rb s = .next u) :
    u.mem = s.mem := by
  grind [execAmax, atomInstr_mem]
theorem execAmin_mem (t : ThreadPos) (wide : Bool) (ord : BitVec 2) (rd : BitVec 5) (ra : BitVec 5) (rb : BitVec 5) (s : State) (u : State) (h : execAmin t wide ord rd ra rb s = .next u) :
    u.mem = s.mem := by
  grind [execAmin, atomInstr_mem]
theorem execAndi_mem (t : ThreadPos) (rd : BitVec 5) (ra : BitVec 5) (imm : BitVec 16) (s : State) (u : State) (h : execAndi t rd ra imm s = .next u) : u.mem = s.mem := by
  grind [execAndi, intOp_mem]
theorem execAor_mem (t : ThreadPos) (wide : Bool) (ord : BitVec 2) (rd : BitVec 5) (ra : BitVec 5) (rb : BitVec 5) (s : State) (u : State) (h : execAor t wide ord rd ra rb s = .next u) :
    u.mem = s.mem := by
  grind [execAor, atomInstr_mem]
theorem execAssign_mem (a : Assign) (s : State) (u : State) (h : execAssign a s = .next u) : u.mem = s.mem := by
  grind [execAssign, takeAssign_mem, leaveJoin_mem, delivered_mem]
theorem execAswap_mem (t : ThreadPos) (wide : Bool) (ord : BitVec 2) (rd : BitVec 5) (ra : BitVec 5) (rb : BitVec 5) (s : State) (u : State) (h : execAswap t wide ord rd ra rb s = .next u) :
    u.mem = s.mem := by
  grind [execAswap, atomInstr_mem]
theorem execAtomrsp_mem (x0 : Hdr) (value : Word) (s : State) (u : State) (h : execAtomrsp x0 value s = .next u) : u.mem = s.mem := by
  grind [execAtomrsp, coreAtomRsp_mem, closedCoherent_mem, delivered_mem, onCore, arrive]
theorem execAxor_mem (t : ThreadPos) (wide : Bool) (ord : BitVec 2) (rd : BitVec 5) (ra : BitVec 5) (rb : BitVec 5) (s : State) (u : State) (h : execAxor t wide ord rd ra rb s = .next u) :
    u.mem = s.mem := by
  grind [execAxor, atomInstr_mem]
theorem execBeq_mem (t : ThreadPos) (a : Bool) (ra : BitVec 5) (rb : BitVec 5) (disp : BitVec 15) (s : State) (u : State) (h : execBeq t a ra rb disp s = .next u) : u.mem = s.mem := by
  grind [execBeq, condTransfer_mem]
theorem execBge_mem (t : ThreadPos) (a : Bool) (ra : BitVec 5) (rb : BitVec 5) (disp : BitVec 15) (s : State) (u : State) (h : execBge t a ra rb disp s = .next u) : u.mem = s.mem := by
  grind [execBge, condTransfer_mem]
theorem execBgeu_mem (t : ThreadPos) (a : Bool) (ra : BitVec 5) (rb : BitVec 5) (disp : BitVec 15) (s : State) (u : State) (h : execBgeu t a ra rb disp s = .next u) : u.mem = s.mem := by
  grind [execBgeu, condTransfer_mem]
theorem execBlt_mem (t : ThreadPos) (a : Bool) (ra : BitVec 5) (rb : BitVec 5) (disp : BitVec 15) (s : State) (u : State) (h : execBlt t a ra rb disp s = .next u) : u.mem = s.mem := by
  grind [execBlt, condTransfer_mem]
theorem execBltu_mem (t : ThreadPos) (a : Bool) (ra : BitVec 5) (rb : BitVec 5) (disp : BitVec 15) (s : State) (u : State) (h : execBltu t a ra rb disp s = .next u) : u.mem = s.mem := by
  grind [execBltu, condTransfer_mem]
theorem execBne_mem (t : ThreadPos) (a : Bool) (ra : BitVec 5) (rb : BitVec 5) (disp : BitVec 15) (s : State) (u : State) (h : execBne t a ra rb disp s = .next u) : u.mem = s.mem := by
  grind [execBne, condTransfer_mem]
theorem execBridgeFrame_mem (d : DiePos) (toDie : Bool) (crcOk : Bool) (s : State) (u : State) (h : execBridgeFrame d toDie crcOk s = .next u) : u.mem = s.mem := by
  grind [execBridgeFrame, modBridge_mem, replayTimes_mem, fireInject_mem, replayFrame_mem]
theorem execBridgeRetrainDone_mem (d : DiePos) (ok : Bool) (s : State) (u : State) (h : execBridgeRetrainDone d ok s = .next u) : u.mem = s.mem := by
  grind [execBridgeRetrainDone, ueP_mem, modBridge_mem]
theorem execBrk_mem (t : ThreadPos) (s : State) (u : State) (h : execBrk t s = .next u) : u.mem = s.mem := by
  grind [execBrk, raise_mem, slotFault_mem, privileged_mem, startInstr_mem, sysInstr, onThread]
theorem execBusMasterDisable_mem (s : State) (u : State) (h : execBusMasterDisable s = .next u) : u.mem = s.mem := by
  grind [execBusMasterDisable, busMasterOff_mem]
theorem execBusMasterEnable_mem (s : State) (u : State) (h : execBusMasterEnable s = .next u) : u.mem = s.mem := by
  grind [execBusMasterEnable, busMasterOn_mem]
theorem execCetabClear_mem (n : Chan) (s : State) (u : State) (h : execCetabClear n s = .next u) : u.mem = s.mem := by
  grind [execCetabClear, clearCetab_mem]
theorem execClauseClockLock_mem (s : State) (u : State) (h : execClauseClockLock s = .next u) : u.mem = s.mem := by
  grind [execClauseClockLock, setFld_mem]
theorem execClauseLockLoss_mem (s : State) (u : State) (h : execClauseLockLoss s = .next u) : u.mem = s.mem := by
  grind [execClauseLockLoss, setFld_mem, ueP_mem]
theorem execClauseRealign_mem (p : Pkg) (offset : BitVec 16) (s : State) (u : State) (h : execClauseRealign p offset s = .next u) : u.mem = s.mem := by
  grind [execClauseRealign, realignImage_mem, realignTick_mem, delivered_mem]
theorem execCleanSw2_mem (t : ThreadPos) (ra : BitVec 5) (s : State) (u : State) (h : execCleanSw2 t ra s = .next u) : u.mem = s.mem := by
  grind [execCleanSw2, cleanSw2Run_mem, privileged_mem, illegal_mem, startInstr_mem, swInstr, onThread]
theorem execCleanSw3_mem (t : ThreadPos) (ra : BitVec 5) (s : State) (u : State) (h : execCleanSw3 t ra s = .next u) : u.mem = s.mem := by
  grind [execCleanSw3, cleanSw3Run_mem, privileged_mem, illegal_mem, startInstr_mem, swInstr, onThread]
theorem execCleanVa_mem (t : ThreadPos) (ra : BitVec 5) (s : State) (u : State) (h : execCleanVa t ra s = .next u) : u.mem = s.mem := by
  grind [execCleanVa, cmoRun_mem, startInstr_mem, onThread]
theorem execClinvSw2_mem (t : ThreadPos) (ra : BitVec 5) (s : State) (u : State) (h : execClinvSw2 t ra s = .next u) : u.mem = s.mem := by
  grind [execClinvSw2, invSw2Run_mem, privileged_mem, illegal_mem, startInstr_mem, swInstr, onThread]
theorem execClinvSw3_mem (t : ThreadPos) (ra : BitVec 5) (s : State) (u : State) (h : execClinvSw3 t ra s = .next u) : u.mem = s.mem := by
  grind [execClinvSw3, invSw3Run_mem, privileged_mem, illegal_mem, startInstr_mem, swInstr, onThread]
theorem execClinvVa_mem (t : ThreadPos) (ra : BitVec 5) (s : State) (u : State) (h : execClinvVa t ra s = .next u) : u.mem = s.mem := by
  grind [execClinvVa, cmoRun_mem, startInstr_mem, onThread]
theorem execClk_mem (t : ThreadPos) (rd : BitVec 5) (s : State) (u : State) (h : execClk t rd s = .next u) : u.mem = s.mem := by
  grind [execClk, finish_mem, startInstr_mem, onThread]
theorem execCohTimeout_mem (n : Chan) (line : LineAddr) (s : State) (u : State) (h : execCohTimeout n line s = .next u) : u.mem = s.mem := by
  grind [execCohTimeout, homLast_mem, ueP_mem]
theorem execCommandCompletion_mem (s : State) (u : State) (h : execCommandCompletion s = .next u) : u.mem = s.mem := by
  grind [execCommandCompletion, writeCompletion_mem]
theorem execCommandDescriptor_mem (desc : BitVec 1024) (ext : List (BitVec 8)) (s : State) (u : State) (h : execCommandDescriptor desc ext s = .next u) : u.mem = s.mem := by
  grind [execCommandDescriptor, checkTicket_mem, issueReads_mem, epfOut_mem, setFld_mem, addFld_mem, modEpf_mem, tlpIn_mem, lateDone_mem]
theorem execCompletionRecordWrite_mem (e : Fin 16) (s : State) (u : State) (h : execCompletionRecordWrite e s = .next u) : u.mem = s.mem := by
  grind [execCompletionRecordWrite, engineAdvance_mem, completeRun_mem, completeBell_mem]
theorem execCompletionTimeout_mem (s t : State) (h : execCompletionTimeout s = .next t) : t.mem = s.mem := by
  unfold execCompletionTimeout at h
  cases h
  split
  · rw [lateDone_mem]
  · split
    · dsimp only; rw [epfContain_mem, modEpf_mem]
    · rfl
theorem execConfigRequest_mem (tag : BitVec 10) (dw : BitVec 10) (write : Option (BitVec 4 × BitVec 32)) (s : State) (u : State) (h : execConfigRequest tag dw write s = .next u) : u.mem = s.mem := by
  grind [execConfigRequest, spendFree_mem, configWrite_mem, tlpIn_mem, epfOut_mem]
theorem execContainmentRelease_mem (s : State) (u : State) (h : execContainmentRelease s = .next u) : u.mem = s.mem := by
  grind [execContainmentRelease, noticeResume_mem, issueReads_mem, emit_mem, modEpf_mem, setFld_mem]
theorem execControllerCycle_mem (n : Chan) (s : State) (u : State) (h : execControllerCycle n s = .next u) : u.mem = s.mem := by
  grind [execControllerCycle, fillRealms_mem, admitReads_mem, fillPorts_mem]
theorem execCopy_mem (e : Fin 16) (s : State) (u : State) (h : execCopy e s = .next u) : u.mem = s.mem := by grind [execCopy, engineOp_mem]
theorem execCounterDump_mem (s : State) (u : State) (h : execCounterDump s = .next u) : u.mem = s.mem := by grind [execCounterDump, snapshot_mem]
theorem execCrc32c_mem (e : Fin 16) (s : State) (u : State) (h : execCrc32c e s = .next u) : u.mem = s.mem := by grind [execCrc32c, engineOp_mem]
theorem execCredit_mem (x0 : Hdr) (pool : Bool) (count : Nat) (s : State) (u : State) (h : execCredit x0 pool count s = .next u) : u.mem = s.mem := by
  grind [execCredit, homeCredits_mem, delivered_mem, addCredits_mem, onAgent, arrive]
theorem execCtxcmdAbort_mem (c : Fin 16384) (s : State) (u : State) (h : execCtxcmdAbort c s = .next u) : u.mem = s.mem := by
  grind [execCtxcmdAbort, ctxcmdAbort_mem]
theorem execCtxcmdDisable_mem (c : Fin 16384) (s : State) (u : State) (h : execCtxcmdDisable c s = .next u) : u.mem = s.mem := by
  grind [execCtxcmdDisable, ctxcmdDisable_mem]
theorem execCtxcmdEnable_mem (c : Fin 16384) (s : State) (u : State) (h : execCtxcmdEnable c s = .next u) : u.mem = s.mem := by
  grind [execCtxcmdEnable, ctxcmdEnable_mem]
theorem execCtxcmdRead_mem (c : Fin 16384) (s : State) (u : State) (h : execCtxcmdRead c s = .next u) : u.mem = s.mem := by
  grind [execCtxcmdRead, ctxcmdRead_mem]
theorem execCtxcmdWrite_mem (c : Fin 16384) (s : State) (u : State) (h : execCtxcmdWrite c s = .next u) : u.mem = s.mem := by
  grind [execCtxcmdWrite, ctxcmdWrite_mem]
theorem execCut_mem (clause : Word) (release : Bool) (s : State) (u : State) (h : execCut clause release s = .next u) : u.mem = s.mem := by
  grind [execCut, takeMgmt_mem]
theorem execCutDone_mem (src : Pkg) (clause : Word) (s : State) (u : State) (h : execCutDone src clause s = .next u) : u.mem = s.mem := by
  grind [execCutDone, setReg_mem, localEvent_mem, takeMgmt_mem]
theorem execDStateChange_mem (d : BitVec 2) (s : State) (u : State) (h : execDStateChange d s = .next u) : u.mem = s.mem := by
  grind [execDStateChange, wakeTick_mem, modEpf_mem, noticeResume_mem, issueReads_mem, setFld_mem]
theorem execData_mem (x0 : Hdr) (line : Line) (e : MeshError) (s : State) (u : State) (h : execData x0 line e s = .next u) : u.mem = s.mem := by
  grind [execData, coreData_mem, closedCoherent_mem, delivered_mem, portData_mem, engineData_mem, meshError_mem, meshInject_mem, onCore, arrive]
theorem execDataFlit_mem (n : Octet) (f : Flit) (s : State) (u : State) (h : execDataFlit n f s = .next u) : u.mem = s.mem := by
  grind [execDataFlit, acceptFlit_mem, partialReset_mem, fireInject_mem, discardFlit_mem, decoded_mem]
theorem execDatasub_mem (x0 : Hdr) (line : Line) (s : State) (u : State) (h : execDatasub x0 line s = .next u) : u.mem = s.mem := by
  grind [execDatasub, spendFree_mem, subCheck_mem, tryInstall_mem, modCore_mem, coreErr_mem, closedCoherent_mem, delivered_mem, onCore, arrive]
theorem execDescriptorNop_mem (e : Fin 16) (s : State) (u : State) (h : execDescriptorNop e s = .next u) : u.mem = s.mem := by
  grind [execDescriptorNop, engineOp_mem]
theorem execDeviceReadCompletion_mem (n : Fin 12) (tag : BitVec 10) (status : Fin 3) (data : Word) (s : State) (u : State) (h : execDeviceReadCompletion n tag status data s = .next u) : u.mem = s.mem := by
  grind [execDeviceReadCompletion, devReadFailed_mem, regReply_mem, tlpIn_mem]
theorem execDeviceReadTimeout_mem (n : Fin 12) (s t : State) (h : execDeviceReadTimeout n s = .next t) : t.mem = s.mem := by
  unfold execDeviceReadTimeout at h
  cases h
  split
  · rfl
  · rw [devReadFailed_mem]
theorem execDimmAlert_mem (n : Chan) (parity : Bool) (failed : Fin 5) (s : State) (u : State) (h : execDimmAlert n parity failed s = .next u) : u.mem = s.mem := by
  grind [execDimmAlert, channelLost_mem, dimmReplay_mem]
theorem execDimmTempPoll_mem (n : Chan) (dimm : Fin 2) (celsius : Nat) (s : State) (u : State) (h : execDimmTempPoll n dimm celsius s = .next u) : u.mem = s.mem := by
  grind [execDimmTempPoll, setFld_mem, channelHeat_mem]
theorem execDirPortLost_mem (p : Fin 8) (s : State) (u : State) (h : execDirPortLost p s = .next u) : u.mem = s.mem := by
  grind [execDirPortLost, dirPortLost_mem]
theorem execDirScrub_mem (p : Fin 8) (o : DirOutcome) (s : State) (u : State) (h : execDirScrub p o s = .next u) : u.mem = s.mem := by
  unfold execDirScrub at h; grind [dirError_mem, freshAge_mem, dirCtlError_mem]
theorem execDiscover_mem (manager : Word) (s : State) (u : State) (h : execDiscover manager s = .next u) : u.mem = s.mem := by
  grind [execDiscover, floodMgmt_mem, setFld_mem, enterMode_mem, delivered_mem]
theorem execDiscoveryEnd_mem (s : State) (u : State) (h : execDiscoveryEnd s = .next u) : u.mem = s.mem := by
  grind [execDiscoveryEnd, formImage_mem, tellLeftOut_mem, leftOut_mem, emit_mem, joinRefused_mem]
theorem execDomainClosed_mem (d : Fin 96) (s : State) (u : State) (h : execDomainClosed d s = .next u) : u.mem = s.mem := by
  grind [execDomainClosed, setFld_mem, setDomain_mem]
theorem execDoorbellPoll_mem (words : List Word) (s : State) (u : State) (h : execDoorbellPoll words s = .next u) : u.mem = s.mem := by
  grind [execDoorbellPoll, tlpIn_mem, poll_mem]
theorem execDriftCorrection_mem (xs : List Exchange) (s : State) (u : State) (h : execDriftCorrection xs s = .next u) : u.mem = s.mem := by
  grind [execDriftCorrection, spendFree_mem, setSyncstat_mem, askRealign_mem, ce_mem, setFld_mem]
theorem execDumpCommit_mem (s : State) (u : State) (h : execDumpCommit s = .next u) : u.mem = s.mem := by
  grind [execDumpCommit, portWrite_mem, setDump_mem, dumpSettle_mem]
theorem execDumpEnable_mem (s : State) (u : State) (h : execDumpEnable s = .next u) : u.mem = s.mem := by grind [execDumpEnable, dumpEnable_mem]
theorem execDumpNow_mem (s : State) (u : State) (h : execDumpNow s = .next u) : u.mem = s.mem := by grind [execDumpNow, dumpNow_mem]
theorem execEpfContained_mem (linkDown : Bool) (aer : BitVec 32) (s : State) (u : State) (h : execEpfContained linkDown aer s = .next u) : u.mem = s.mem := by
  grind [execEpfContained, setFld_mem, epfContain_mem, modEpf_mem]
theorem execEpoch_mem (value : Word) (s : State) (u : State) (h : execEpoch value s = .next u) : u.mem = s.mem := by
  grind [execEpoch, startExchange_mem, delivered_mem]
theorem execEvictionIssue_mem (c : CorePos) (s : State) (u : State) (h : execEvictionIssue c s = .next u) : u.mem = s.mem := by
  grind [execEvictionIssue, issueEviction_mem, flushL2_mem, retryInstalls_mem, onCoreUnit]
theorem execFecLockLoss_mem (n : Octet) (s : State) (u : State) (h : execFecLockLoss n s = .next u) : u.mem = s.mem := by
  grind [execFecLockLoss, partialReset_mem]
theorem execFence_mem (t : ThreadPos) (mask : BitVec 4) (s : State) (u : State) (h : execFence t mask s = .next u) : u.mem = s.mem := by
  grind [execFence, fenceRun_mem, startInstr_mem, onThread]
theorem execFill_mem (e : Fin 16) (s : State) (u : State) (h : execFill e s = .next u) : u.mem = s.mem := by grind [execFill, engineOp_mem]
theorem execFreeze_mem (on : Bool) (s : State) (u : State) (h : execFreeze on s = .next u) : u.mem = s.mem := by grind [execFreeze, freezeWrite_mem]
theorem execFreezeTimeout_mem (s : State) (u : State) (h : execFreezeTimeout s = .next u) : u.mem = s.mem := by
  grind [execFreezeTimeout, unfreezeLog_mem]
theorem execFrequencyChangeDone_mem (k : Fin 60) (s : State) (u : State) (h : execFrequencyChangeDone k s = .next u) : u.mem = s.mem := by
  grind [execFrequencyChangeDone, setFreq_mem, modParasol_mem]
theorem execFullRetrainDone_mem (n : Octet) (ok : Bool) (good : BitVec 8) (far : BitVec 8) (s : State) (u : State) (h : execFullRetrainDone n ok good far s = .next u) : u.mem = s.mem := by
  grind [execFullRetrainDone, retrainFailed_mem, setLink_mem, enterUp_mem]
theorem execFunctionLevelReset_mem (s : State) (u : State) (h : execFunctionLevelReset s = .next u) : u.mem = s.mem := by
  grind [execFunctionLevelReset, beginReset_mem]
theorem execFwUpdateDone_mem (s : State) (u : State) (h : execFwUpdateDone s = .next u) : u.mem = s.mem := by
  grind [execFwUpdateDone, setFld_mem, emit_mem, partDone_mem]
theorem execGather_mem (e : Fin 16) (s : State) (u : State) (h : execGather e s = .next u) : u.mem = s.mem := by grind [execGather, engineOp_mem]
theorem execGrantExpired_mem (s : State) (u : State) (h : execGrantExpired s = .next u) : u.mem = s.mem := by
  grind [execGrantExpired, expireGrants_mem]
theorem execHaltImage_mem (stamp : Word) (s : State) (u : State) (h : execHaltImage stamp s = .next u) : u.mem = s.mem := by
  grind [execHaltImage, haltHeld_mem, setFld_mem, delivered_mem]
theorem execHashPartition_mem (e : Fin 16) (s : State) (u : State) (h : execHashPartition e s = .next u) : u.mem = s.mem := by
  grind [execHashPartition, engineOp_mem]
theorem execHcall_mem (t : ThreadPos) (s : State) (u : State) (h : execHcall t s = .next u) : u.mem = s.mem := by
  grind [execHcall, modThread_mem, realmExit_mem, raise_mem, slotFault_mem, privileged_mem, startInstr_mem, sysInstr, onThread]
theorem execHeardReq_mem (src : Pkg) (s : State) (u : State) (h : execHeardReq src s = .next u) : u.mem = s.mem := by
  grind [execHeardReq, sendMgmt_mem, takeMgmt_mem]
theorem execHeardRsp_mem (src : Pkg) (silence : BitVec 32) (s : State) (u : State) (h : execHeardRsp src silence s = .next u) : u.mem = s.mem := by
  grind [execHeardRsp, decideTakeover_mem, takeMgmt_mem]
theorem execHeardTimeout_mem (s : State) (u : State) (h : execHeardTimeout s = .next u) : u.mem = s.mem := by
  grind [execHeardTimeout, decideTakeover_mem]
theorem execHeartbeat_mem (src : Pkg) (s : State) (u : State) (h : execHeartbeat src s = .next u) : u.mem = s.mem := by
  grind [execHeartbeat, setFld_mem, takeMgmt_mem]
theorem execHeartbeatPeriod_mem (s : State) (u : State) (h : execHeartbeatPeriod s = .next u) : u.mem = s.mem := by
  grind [execHeartbeatPeriod, sendAll_mem]
theorem execHeartbeatSilence_mem (s : State) (u : State) (h : execHeartbeatSilence s = .next u) : u.mem = s.mem := by
  grind [execHeartbeatSilence, imageLost_mem]
theorem execHoldDone_mem (src : Pkg) (s : State) (u : State) (h : execHoldDone src s = .next u) : u.mem = s.mem := by
  grind [execHoldDone, emit_mem, sendAll_mem, switchRoutes_mem, takeMgmt_mem]
theorem execIdent_mem (i : Ident) (s : State) (u : State) (h : execIdent i s = .next u) : u.mem = s.mem := by grind [execIdent, delivered_mem]
theorem execIdleFlit_mem (n : Octet) (f : Flit) (s : State) (u : State) (h : execIdleFlit n f s = .next u) : u.mem = s.mem := by
  grind [execIdleFlit, ackIn_mem, credIn_mem, decoded_mem, onControl]
theorem execIllegal_mem (t : ThreadPos) (word : BitVec 32) (s : State) (u : State) (h : execIllegal t word s = .next u) : u.mem = s.mem := by
  grind [execIllegal, illegal_mem, startInstr_mem, onThread]
theorem execInboundDmaRead_mem (n : Fin 12) (tag : BitVec 10) (rid : BitVec 16) (pa : BitVec 52) (len : Fin 4097) (s : State) (u : State) (h : execInboundDmaRead n tag rid pa len s = .next u) :
    u.mem = s.mem := by
  grind [execInboundDmaRead, inboundPut_mem, dmaRefused_mem, emit_mem, octetOut_mem, tlpIn_mem]
theorem execInboundDmaWrite_mem (n : Fin 12) (rid : BitVec 16) (pa : BitVec 52) (data : List (BitVec 8)) (s : State) (u : State) (h : execInboundDmaWrite n rid pa data s = .next u) : u.mem = s.mem := by
  grind [execInboundDmaWrite, inboundPut_mem, dmaRefused_mem, send_mem, emit_mem, tlpIn_mem]
theorem execInjectArm_mem (who : Writer) (v : Word) (s : State) (u : State) (h : execInjectArm who v s = .next u) : u.mem = s.mem := by
  grind [execInjectArm, writeInject_mem]
theorem execInterrupt_mem (t : ThreadPos) (cls : IntClass) (realm : Realm) (atS : Bool) (s : State) (u : State) (h : execInterrupt t cls realm atS s = .next u) : u.mem = s.mem := by
  grind [execInterrupt, localEvent_mem]
theorem execInterruptDelivery_mem (x0 : Hdr) (tid : BitVec 16) (cls : IntClass) (atS : Bool) (e : MeshError) (s : State) (u : State) (h : execInterruptDelivery x0 tid cls atS e s = .next u) :
    u.mem = s.mem := by
  grind [execInterruptDelivery, intRefused_mem, localEvent_mem, meshError_mem, delivered_mem, meshRefuse_mem, State.regMessage, arrive]
theorem execInvL1i_mem (t : ThreadPos) (ra : BitVec 5) (s : State) (u : State) (h : execInvL1i t ra s = .next u) : u.mem = s.mem := by
  grind [execInvL1i, invL1iRun_mem, startInstr_mem, onThread]
theorem execInvSw2_mem (t : ThreadPos) (ra : BitVec 5) (s : State) (u : State) (h : execInvSw2 t ra s = .next u) : u.mem = s.mem := by
  grind [execInvSw2, invSw2Run_mem, privileged_mem, illegal_mem, startInstr_mem, swInstr, onThread]
theorem execInvSw3_mem (t : ThreadPos) (ra : BitVec 5) (s : State) (u : State) (h : execInvSw3 t ra s = .next u) : u.mem = s.mem := by
  grind [execInvSw3, invSw3Run_mem, privileged_mem, illegal_mem, startInstr_mem, swInstr, onThread]
theorem execInvVa_mem (t : ThreadPos) (ra : BitVec 5) (s : State) (u : State) (h : execInvVa t ra s = .next u) : u.mem = s.mem := by
  grind [execInvVa, cmoRun_mem, slotFault_mem, privileged_mem, startInstr_mem, sysInstr, onThread]
theorem execIsync_mem (t : ThreadPos) (s : State) (u : State) (h : execIsync t s = .next u) : u.mem = s.mem := by
  grind [execIsync, retire_mem, startInstr_mem, onThread]
theorem uncondTransfer_mem (s : State) (t : Nat) (a : Bool) (kind : Fin 5) (rd : BitVec 5) (target : BitVec 57) : (uncondTransfer s t a kind rd target).mem = s.mem := by
  grind [uncondTransfer, retireTo_mem, modThread_mem, resolveJump_mem]
theorem execJ_mem (t : ThreadPos) (a : Bool) (disp : BitVec 25) (s : State) (u : State) (h : execJ t a disp s = .next u) : u.mem = s.mem := by
  grind [execJ, uncondTransfer_mem, slotFault_mem, startInstr_mem, onThread]
theorem execJal_mem (t : ThreadPos) (a : Bool) (disp : BitVec 25) (s : State) (u : State) (h : execJal t a disp s = .next u) : u.mem = s.mem := by
  grind [execJal, uncondTransfer_mem, slotFault_mem, startInstr_mem, onThread]
theorem execJalr_mem (t : ThreadPos) (a : Bool) (rd : BitVec 5) (ra : BitVec 5) (s : State) (u : State) (h : execJalr t a rd ra s = .next u) : u.mem = s.mem := by
  grind [execJalr, uncondTransfer_mem, raise_mem, slotFault_mem, startInstr_mem, onThread]
theorem execL2Disable_mem (c : CorePos) (s : State) (u : State) (h : execL2Disable c s = .next u) : u.mem = s.mem := by
  grind [execL2Disable, disableL2_mem, onCoreUnit]
theorem execL2Enable_mem (c : CorePos) (s : State) (u : State) (h : execL2Enable c s = .next u) : u.mem = s.mem := by
  grind [execL2Enable, enableL2_mem, onCoreUnit]
theorem execL2FlushDone_mem (c : CorePos) (s : State) (u : State) (h : execL2FlushDone c s = .next u) : u.mem = s.mem := by
  grind [execL2FlushDone, modCore_mem, flushL2_mem, onCoreUnit]
theorem execL2Scrub_mem (c : CorePos) (s : State) (u : State) (h : execL2Scrub c s = .next u) : u.mem = s.mem := by
  grind [execL2Scrub, scrubLines2_mem, modCore_mem, onCoreUnit]
theorem execL3Disable_mem (d : DiePos) (s : State) (u : State) (h : execL3Disable d s = .next u) : u.mem = s.mem := by
  grind [execL3Disable, disableL3_mem, onDie]
theorem execL3Enable_mem (d : DiePos) (s : State) (u : State) (h : execL3Enable d s = .next u) : u.mem = s.mem := by
  grind [execL3Enable, enableL3_mem, onDie]
theorem execL3FlushDone_mem (d : DiePos) (s : State) (u : State) (h : execL3FlushDone d s = .next u) : u.mem = s.mem := by
  grind [execL3FlushDone, setFld_mem, flushL3All_mem, onDie]
theorem execL3Scrub_mem (d : DiePos) (slice : Fin 16) (s : State) (u : State) (h : execL3Scrub d slice s = .next u) : u.mem = s.mem := by
  grind [execL3Scrub, scrubLines3_mem, modDie_mem, onDie]
theorem execL3VictimInstall_mem (c : CorePos) (line : LineAddr) (s : State) (u : State) (h : execL3VictimInstall c line s = .next u) : u.mem = s.mem := by
  grind [execL3VictimInstall, l3Install_mem, modCore_mem, freeEb_mem, onCoreUnit]
theorem execLad_mem (t : ThreadPos) (rd : BitVec 5) (ra : BitVec 5) (s : State) (u : State) (h : execLad t rd ra s = .next u) : u.mem = s.mem := by
  grind [execLad, loadAt_mem, startInstr_mem, onThread]
theorem execLaneLimit_mem (n : Octet) (lane : Fin 8) (s : State) (u : State) (h : execLaneLimit n lane s = .next u) : u.mem = s.mem := by
  grind [execLaneLimit, modLink_mem, partialReset_mem]
theorem execLaw_mem (t : ThreadPos) (rd : BitVec 5) (ra : BitVec 5) (s : State) (u : State) (h : execLaw t rd ra s = .next u) : u.mem = s.mem := by
  grind [execLaw, loadAt_mem, startInstr_mem, onThread]
theorem execLinkDown_mem (n : Octet) (s : State) (u : State) (h : execLinkDown n s = .next u) : u.mem = s.mem := by
  grind [execLinkDown, modLink_mem, fullRetrain_mem, sendMgmt_mem, emit_mem]
theorem execLinkTrainingDone_mem (n : Octet) (good : BitVec 8) (far : BitVec 8) (serial : Word) (octet : Octet) (s : State) (u : State) (h : execLinkTrainingDone n good far serial octet s = .next u) :
    u.mem = s.mem := by
  grind [execLinkTrainingDone, emit_mem, setLink_mem, setLinkState_mem, setReg_mem, setFld_mem]
theorem execLinkTrainingTimeout_mem (n : Octet) (s : State) (u : State) (h : execLinkTrainingTimeout n s = .next u) : u.mem = s.mem := by
  grind [execLinkTrainingTimeout, setLinkState_mem]
theorem execLoad_mem (t : ThreadPos) (op : LoadOp) (rd : BitVec 5) (ra : BitVec 5) (imm : BitVec 16) (s : State) (u : State) (h : execLoad t op rd ra imm s = .next u) : u.mem = s.mem := by
  grind [execLoad, loadAt_mem, startInstr_mem, onThread]
theorem execLoadIndexed_mem (t : ThreadPos) (op : LoadOp) (rd : BitVec 5) (ra : BitVec 5) (rb : BitVec 5) (s : State) (u : State) (h : execLoadIndexed t op rd ra rb s = .next u) : u.mem = s.mem := by
  grind [execLoadIndexed, loadAt_mem, startInstr_mem, onThread]
theorem execLui_mem (t : ThreadPos) (rd : BitVec 5) (imm : BitVec 16) (s : State) (u : State) (h : execLui t rd imm s = .next u) : u.mem = s.mem := by
  grind [execLui, intOp_mem]
theorem execMbDrain_mem (c : CorePos) (s : State) (u : State) (h : execMbDrain c s = .next u) : u.mem = s.mem := by
  grind [execMbDrain, sendCtx_mem, drainOldest_mem, onCoreUnit]
theorem execMcWatchdog_mem (s : State) (u : State) (h : execMcWatchdog s = .next u) : u.mem = s.mem := by grind [execMcWatchdog, ueP_mem]
theorem execMeshCloseAborted_mem (d : Fin 96) (s : State) (u : State) (h : execMeshCloseAborted d s = .next u) : u.mem = s.mem := by
  grind [execMeshCloseAborted, ce_mem, spendFree_mem, setDomain_mem]
theorem execMeshRetryExhausted_mem (s : State) (u : State) (h : execMeshRetryExhausted s = .next u) : u.mem = s.mem := by
  grind [execMeshRetryExhausted, ueP_mem]
theorem execMfc_mem (t : ThreadPos) (rd : BitVec 5) (n : BitVec 13) (s : State) (u : State) (h : execMfc t rd n s = .next u) : u.mem = s.mem := by
  grind [execMfc, finish_mem, privileged_mem, illegal_mem, startInstr_mem, onThread]
theorem execMirror_mem (m : MirrorArgs) (s : State) (u : State) (h : execMirror m s = .next u) : u.mem = s.mem := by
  grind [execMirror, sendCtl_mem, saveKeys_mem, setFld_mem, setReg_mem, delivered_mem]
theorem execMirrorAck_mem (s : State) (u : State) (h : execMirrorAck s = .next u) : u.mem = s.mem := by
  grind [execMirrorAck, modEpf_mem, delivered_mem]
theorem execMirrorTimeout_mem (s : State) (u : State) (h : execMirrorTimeout s = .next u) : u.mem = s.mem := by
  grind [execMirrorTimeout, emit_mem, acceptNext_mem, modEpf_mem, sendAll_mem, dropStandby_mem]
theorem execMtc_mem (t : ThreadPos) (ra : BitVec 5) (n : BitVec 13) (s : State) (u : State) (h : execMtc t ra n s = .next u) : u.mem = s.mem := by
  grind [execMtc, mtcRun_mem, startInstr_mem, onThread]
theorem execMuldiv_mem (t : ThreadPos) (fn : BitVec 6) (rc : BitVec 5) (rb : BitVec 5) (ra : BitVec 5) (rd : BitVec 5) (s : State) (u : State) (h : execMuldiv t fn rc rb ra rd s = .next u) :
    u.mem = s.mem := by
  grind [execMuldiv, intOp_mem]
theorem execNakFlit_mem (n : Octet) (f : Flit) (s : State) (u : State) (h : execNakFlit n f s = .next u) : u.mem = s.mem := by
  grind [execNakFlit, ackIn_mem, credIn_mem, retry_mem, decoded_mem, onControl]
theorem execNoticeSpacingExpiry_mem (s : State) (u : State) (h : execNoticeSpacingExpiry s = .next u) : u.mem = s.mem := by
  grind [execNoticeSpacingExpiry, writeNotice_mem]
theorem execOri_mem (t : ThreadPos) (rd : BitVec 5) (ra : BitVec 5) (imm : BitVec 16) (s : State) (u : State) (h : execOri t rd ra imm s = .next u) : u.mem = s.mem := by
  grind [execOri, intOp_mem]
theorem execOwnchk_mem (x0 : Hdr) (s : State) (u : State) (h : execOwnchk x0 s = .next u) : u.mem = s.mem := by
  grind [execOwnchk, send_mem, ownCacheRead_mem, delivered_mem, arrive]
theorem execOwnrsp_mem (x0 : Hdr) (ok : Bool) (s : State) (u : State) (h : execOwnrsp x0 ok s = .next u) : u.mem = s.mem := by
  grind [execOwnrsp, modThread_mem, closedCoherent_mem, delivered_mem, onCore, arrive]
theorem execPartialResetDone_mem (n : Octet) (good : BitVec 8) (s : State) (u : State) (h : execPartialResetDone n good s = .next u) : u.mem = s.mem := by
  grind [execPartialResetDone, setLinkState_mem, setLink_mem]
theorem execPcevWrite_mem (t : ThreadPos) (i : Fin 8) (ra : BitVec 5) (s : State) (u : State) (h : execPcevWrite t i ra s = .next u) : u.mem = s.mem := by
  grind [execPcevWrite, mtcRun_mem, startInstr_mem, onThread]
theorem execPcieLinkUp_mem (n : Fin 12) (width : BitVec 4) (speed : BitVec 4) (s : State) (u : State) (h : execPcieLinkUp n width speed s = .next u) : u.mem = s.mem := by
  grind [execPcieLinkUp, rpReleaseTry_mem, setFld_mem]
theorem execPcrd_mem (t : ThreadPos) (rd : BitVec 5) (n : BitVec 5) (s : State) (u : State) (h : execPcrd t rd n s = .next u) : u.mem = s.mem := by
  grind [execPcrd, finish_mem, raise_mem, illegal_mem, startInstr_mem, onThread]
theorem execPcwrite_mem (t : ThreadPos) (ra : BitVec 5) (s : State) (u : State) (h : execPcwrite t ra s = .next u) : u.mem = s.mem := by
  grind [execPcwrite, mtcRun_mem, startInstr_mem, onThread]
theorem execPeerWindowRead_mem (tag : BitVec 10) (off : BitVec 36) (len : Fin 4097) (s : State) (u : State) (h : execPeerWindowRead tag off len s = .next u) : u.mem = s.mem := by
  grind [execPeerWindowRead, peerRefused_mem, inboundPut_mem, tlpIn_mem, epfOut_mem]
theorem execPeerWindowWrite_mem (off : BitVec 36) (data : List (BitVec 8)) (s : State) (u : State) (h : execPeerWindowWrite off data s = .next u) : u.mem = s.mem := by
  grind [execPeerWindowWrite, peerRefused_mem, inboundPut_mem, tlpIn_mem]
theorem execPerstN_mem (hot : Bool) (s : State) (u : State) (h : execPerstN hot s = .next u) : u.mem = s.mem := by
  grind [execPerstN, beginReset_mem, modEpf_mem, setFld_mem]
theorem execPhyLockLoss_mem (n : Chan) (s : State) (u : State) (h : execPhyLockLoss n s = .next u) : u.mem = s.mem := by
  grind [execPhyLockLoss, channelLost_mem]
theorem execPmicPowerGoodLoss_mem (n : Chan) (s : State) (u : State) (h : execPmicPowerGoodLoss n s = .next u) : u.mem = s.mem := by
  grind [execPmicPowerGoodLoss, channelLost_mem]
theorem execPowerClamp_mem (amps : Nat) (s : State) (u : State) (h : execPowerClamp amps s = .next u) : u.mem = s.mem := by
  grind [execPowerClamp, modParasol_mem, emit_mem, setFld_mem]
theorem execPrechargePowerDown_mem (n : Chan) (rank : Fin 8) (s : State) (u : State) (h : execPrechargePowerDown n rank s = .next u) : u.mem = s.mem := by
  grind [execPrechargePowerDown]
theorem execPredctlFlush_mem (t : ThreadPos) (s : State) (u : State) (h : execPredctlFlush t s = .next u) : u.mem = s.mem := by
  grind [execPredctlFlush, mtcRun_mem, startInstr_mem, onThread]
theorem execPredictorFlushDone_mem (c : CorePos) (s : State) (u : State) (h : execPredictorFlushDone c s = .next u) : u.mem = s.mem := by
  grind [execPredictorFlushDone, modCore_mem, onCoreUnit]
theorem execPref_mem (t : ThreadPos) (write : Bool) (ra : BitVec 5) (rb : BitVec 5) (s : State) (u : State) (h : execPref t write ra rb s = .next u) : u.mem = s.mem := by
  grind [execPref, prefetch_mem, retire_mem, startInstr_mem, onThread]
theorem execProject_mem (e : Fin 16) (s : State) (u : State) (h : execProject e s = .next u) : u.mem = s.mem := by grind [execProject, engineOp_mem]
theorem execQuiesceCut_mem (s : State) (u : State) (h : execQuiesceCut s = .next u) : u.mem = s.mem := by
  grind [execQuiesceCut, setFld_mem, enterMode_mem]
theorem execQuiesceRelease_mem (s : State) (u : State) (h : execQuiesceRelease s = .next u) : u.mem = s.mem := by
  grind [execQuiesceRelease, released_mem, setFld_mem, enterMode_mem]
theorem execQuiesceTimeout_mem (s : State) (u : State) (h : execQuiesceTimeout s = .next u) : u.mem = s.mem := by
  grind [execQuiesceTimeout, haltError_mem]
theorem execRateToken_mem (cls : Fin 16) (s : State) (u : State) (h : execRateToken cls s = .next u) : u.mem = s.mem := by
  grind [execRateToken, giveTokens_mem]
theorem execRdsub_mem (x0 : Hdr) (s : State) (u : State) (h : execRdsub x0 s = .next u) : u.mem = s.mem := by
  grind [execRdsub, proxyReply_mem, send_mem, delivered_mem, dieSnoop_mem, onAgent, arrive]
theorem execRealmCapPeriod_mem (s : State) (u : State) (h : execRealmCapPeriod s = .next u) : u.mem = s.mem := by
  grind [execRealmCapPeriod, engineAdvanceAll_mem]
theorem execRealmResetDone_mem (realm : Realm) (s : State) (u : State) (h : execRealmResetDone realm s = .next u) : u.mem = s.mem := by
  grind [execRealmResetDone, endWait_mem]
theorem execRefresh_mem (n : Chan) (rank : Fin 8) (bank : Fin 4) (forced : Bool) (s : State) (u : State) (h : execRefresh n rank bank forced s = .next u) : u.mem = s.mem := by
  grind [execRefresh, countUncore_mem]
theorem execRefute_mem (x0 : Hdr) (s : State) (u : State) (h : execRefute x0 s = .next u) : u.mem = s.mem := by
  grind [execRefute, coreRefute_mem, coreErr_mem, closedCoherent_mem, delivered_mem, onCore, arrive]
theorem execRegime_mem (value : BitVec 2) (s : State) (u : State) (h : execRegime value s = .next u) : u.mem = s.mem := by
  grind [execRegime, writeRegime_mem, takeMgmt_mem]
theorem execRegisterAnswer_mem (x0 : Hdr) (v : Word) (e : MeshError) (s : State) (u : State) (h : execRegisterAnswer x0 v e s = .next u) : u.mem = s.mem := by
  grind [execRegisterAnswer, modCore_mem, completeAccess_mem, meshError_mem, delivered_mem, arrive]
theorem execRegisterRead_mem (x0 : Hdr) (off : BitVec 40) (size : Fin 9) (e : MeshError) (s : State) (u : State) (h : execRegisterRead x0 off size e s = .next u) : u.mem = s.mem := by
  grind [execRegisterRead, serveRead_mem, meshError_mem, delivered_mem, meshRefuse_mem, State.regMessage, arrive]
theorem execRenter_mem (t : ThreadPos) (ra : BitVec 5) (s : State) (u : State) (h : execRenter t ra s = .next u) : u.mem = s.mem := by
  grind [execRenter, renterRun_mem, slotFault_mem, privileged_mem, startInstr_mem, sysInstr, onThread]
theorem execReplayTimeout_mem (n : Octet) (s : State) (u : State) (h : execReplayTimeout n s = .next u) : u.mem = s.mem := by
  grind [execReplayTimeout, retry_mem]
theorem execResidueRetry_mem (t : ThreadPos) (unit : Fin 8) (again : Bool) (s : State) (u : State) (h : execResidueRetry t unit again s = .next u) : u.mem = s.mem := by
  grind [execResidueRetry, residueRetry_mem]
theorem execRetryLater_mem (d : Fin 96) (s : State) (u : State) (h : execRetryLater d s = .next u) : u.mem = s.mem := by
  grind [execRetryLater, meshRefuse_mem]
theorem execRetryLaterResend_mem (s : State) (u : State) (h : execRetryLaterResend s = .next u) : u.mem = s.mem := by
  grind [execRetryLaterResend, meshResend_mem]
theorem execRouteChangeTimeout_mem (s : State) (u : State) (h : execRouteChangeTimeout s = .next u) : u.mem = s.mem := by
  grind [execRouteChangeTimeout, haltError_mem]
theorem execRouteHold_mem (s : State) (u : State) (h : execRouteHold s = .next u) : u.mem = s.mem := by grind [execRouteHold, takeMgmt_mem]
theorem execRouteSwitch_mem (s : State) (u : State) (h : execRouteSwitch s = .next u) : u.mem = s.mem := by
  grind [execRouteSwitch, takeMgmt_mem, switchRoutes_mem]
theorem execRouteWrite_mem (gen : BitVec 16) (routes : List Word) (s : State) (u : State) (h : execRouteWrite gen routes s = .next u) : u.mem = s.mem := by
  grind [execRouteWrite, setLinkMembers_mem, enterImage_mem, delivered_mem]
theorem execRowIdleTimeout_mem (n : Chan) (bank : Fin 2048) (s : State) (u : State) (h : execRowIdleTimeout n bank s = .next u) : u.mem = s.mem := by
  grind [execRowIdleTimeout]
theorem execRpContained_mem (n : Fin 12) (linkDown : Bool) (aer : BitVec 32) (s : State) (u : State) (h : execRpContained n linkDown aer s = .next u) : u.mem = s.mem := by
  grind [execRpContained, setFld_mem, rpContain_mem]
theorem execRpRelease_mem (n : Fin 12) (s : State) (u : State) (h : execRpRelease n s = .next u) : u.mem = s.mem := by
  grind [execRpRelease, rpRelease_mem]
theorem execRpassignWrite_mem (n : Fin 12) (i : Fin 64) (v : Word) (origin : BitVec 16) (s : State) (u : State) (h : execRpassignWrite n i v origin s = .next u) : u.mem = s.mem := by
  grind [execRpassignWrite, rpassignWrite_mem]
theorem execRsclr_mem (t : ThreadPos) (s : State) (u : State) (h : execRsclr t s = .next u) : u.mem = s.mem := by
  grind [execRsclr, finish_mem, slotFault_mem, privileged_mem, startInstr_mem, sysInstr, onThread]
theorem execRsync_mem (t : ThreadPos) (s : State) (u : State) (h : execRsync t s = .next u) : u.mem = s.mem := by
  grind [execRsync, countEv_mem, finish_mem, frames_mem, startInstr_mem, onThread]
theorem execRte_mem (t : ThreadPos) (s : State) (u : State) (h : execRte t s = .next u) : u.mem = s.mem := by
  grind [execRte, modThread_mem, retireTo_mem, slotFault_mem, privileged_mem, startInstr_mem, sysInstr, onThread]
theorem execScanFilter_mem (e : Fin 16) (s : State) (u : State) (h : execScanFilter e s = .next u) : u.mem = s.mem := by
  grind [execScanFilter, engineOp_mem]
theorem execSegmentDone_mem (e : Fin 16) (residue : Fin 3) (s : State) (u : State) (h : execSegmentDone e residue s = .next u) : u.mem = s.mem := by
  grind [execSegmentDone, choose_mem, abortRun_mem, setReg_mem, engineCount_mem, setEngine_mem, residueSeg_mem, rebuildMonitors_mem, kick_mem]
theorem execSelfRefreshEntry_mem (n : Chan) (s : State) (u : State) (h : execSelfRefreshEntry n s = .next u) : u.mem = s.mem := by
  grind [execSelfRefreshEntry]
theorem execSensorSample_mem (rs : List (Fin 248 × BitVec 16)) (s : State) (u : State) (h : execSensorSample rs s = .next u) : u.mem = s.mem := by
  grind [execSensorSample, takeReadings_mem]
theorem execShift_mem (t : ThreadPos) (fn : BitVec 6) (rc : BitVec 5) (rb : BitVec 5) (ra : BitVec 5) (rd : BitVec 5) (s : State) (u : State) (h : execShift t fn rc rb ra rd s = .next u) :
    u.mem = s.mem := by
  grind [execShift, intOp_mem]
theorem execSlti_mem (t : ThreadPos) (rd : BitVec 5) (ra : BitVec 5) (imm : BitVec 16) (s : State) (u : State) (h : execSlti t rd ra imm s = .next u) : u.mem = s.mem := by
  grind [execSlti, intOp_mem]
theorem execSltiu_mem (t : ThreadPos) (rd : BitVec 5) (ra : BitVec 5) (imm : BitVec 16) (s : State) (u : State) (h : execSltiu t rd ra imm s = .next u) : u.mem = s.mem := by
  grind [execSltiu, intOp_mem]
theorem execSpillCopy_mem (s : State) (u : State) (h : execSpillCopy s = .next u) : u.mem = s.mem := by
  grind [execSpillCopy, spillOff_mem, setReg_mem, setFld_mem, portWrite_mem]
theorem execSrd_mem (t : ThreadPos) (ra : BitVec 5) (rb : BitVec 5) (s : State) (u : State) (h : execSrd t ra rb s = .next u) : u.mem = s.mem := by
  grind [execSrd, storeAt_mem, startInstr_mem, onThread]
theorem execSrw_mem (t : ThreadPos) (ra : BitVec 5) (rb : BitVec 5) (s : State) (u : State) (h : execSrw t ra rb s = .next u) : u.mem = s.mem := by
  grind [execSrw, storeAt_mem, startInstr_mem, onThread]
theorem execStandbySilenceLimit_mem (s : State) (u : State) (h : execStandbySilenceLimit s = .next u) : u.mem = s.mem := by
  grind [execStandbySilenceLimit, sendAll_mem]
theorem execStore_mem (t : ThreadPos) (op : StoreOp) (rs : BitVec 5) (ra : BitVec 5) (imm : BitVec 16) (s : State) (u : State) (h : execStore t op rs ra imm s = .next u) : u.mem = s.mem := by
  grind [execStore, storeAt_mem, startInstr_mem, onThread]
theorem execStoreIndexed_mem (t : ThreadPos) (op : StoreOp) (rc : BitVec 5) (ra : BitVec 5) (rb : BitVec 5) (s : State) (u : State) (h : execStoreIndexed t op rc ra rb s = .next u) : u.mem = s.mem := by
  grind [execStoreIndexed, storeAt_mem, startInstr_mem, onThread]
theorem execStrobeLockLoss_mem (d : DiePos) (s : State) (u : State) (h : execStrobeLockLoss d s = .next u) : u.mem = s.mem := by
  grind [execStrobeLockLoss, ueP_mem]
theorem execSubdone_mem (x0 : Hdr) (apply : Bool) (s : State) (u : State) (h : execSubdone x0 apply s = .next u) : u.mem = s.mem := by
  grind [execSubdone, homeErr_mem, send_mem, modPres_mem, modHome_mem, delivered_mem, dieSubDone_mem, onAgent, arrive]
theorem execSyncReq_mem (src : Pkg) (xid : BitVec 12) (retx : Bool) (turn : BitVec 16) (s : State) (u : State) (h : execSyncReq src xid retx turn s = .next u) : u.mem = s.mem := by
  grind [execSyncReq, sendCtl_mem, takeMgmt_mem]
theorem execSyncRsp_mem (xid : BitVec 12) (retx : Bool) (tm : Nat) (turn : BitVec 16) (s : State) (u : State) (h : execSyncRsp xid retx tm turn s = .next u) : u.mem = s.mem := by
  grind [execSyncRsp, startExchange_mem, alignStep_mem, takeMgmt_mem]
theorem execSyncT_mem (t : ThreadPos) (s : State) (u : State) (h : execSyncT t s = .next u) : u.mem = s.mem := by
  grind [execSyncT, modThread_mem, retire_mem, slotFault_mem, privileged_mem, startInstr_mem, sysInstr, onThread]
theorem execSyscall_mem (t : ThreadPos) (s : State) (u : State) (h : execSyscall t s = .next u) : u.mem = s.mem := by
  grind [execSyscall, raise_mem, slotFault_mem, privileged_mem, startInstr_mem, sysInstr, onThread]
theorem execTakeover_mem (src : Pkg) (s : State) (u : State) (h : execTakeover src s = .next u) : u.mem = s.mem := by
  grind [execTakeover, epfContain_mem, setFld_mem, degrade_mem, takeoverMember_mem, takeMgmt_mem]
theorem execThermalAlarm_mem (i : Fin 248) (temp : BitVec 16) (s : State) (u : State) (h : execThermalAlarm i temp s = .next u) : u.mem = s.mem := by
  grind [execThermalAlarm, clusterAlarm_mem, setSensor_mem]
theorem execThermalTrip_mem (i : Fin 248) (temp : BitVec 16) (s : State) (u : State) (h : execThermalTrip i temp s = .next u) : u.mem = s.mem := by
  grind [execThermalTrip, raiseEvent_mem, powerOffDies_mem, enterMode_mem, emit_mem, setFld_mem]
theorem execTicketAccept_mem (s : State) (u : State) (h : execTicketAccept s = .next u) : u.mem = s.mem := by grind [execTicketAccept, acceptNext_mem]
theorem execTimerCompare_mem (t : ThreadPos) (x1 : Bool) (s : State) (u : State) (h : execTimerCompare t x1 s = .next u) : u.mem = s.mem := by
  grind [execTimerCompare, localEvent_mem]
theorem execTlbi_mem (t : ThreadPos) (ra : BitVec 5) (rd : BitVec 5) (s : State) (u : State) (h : execTlbi t ra rd s = .next u) : u.mem = s.mem := by
  grind [execTlbi, tlbiRun_mem, slotFault_mem, privileged_mem, startInstr_mem, sysInstr, onThread]
theorem execTlbiMessage_mem (x0 : Hdr) (args : TlbiArgs) (s : State) (u : State) (h : execTlbiMessage x0 args s = .next u) : u.mem = s.mem := by
  grind [execTlbiMessage, unitTlbi_mem, dieTlbi_mem, delivered_mem, arrive]
theorem execTlbiack_mem (x0 : Hdr) (args : TlbiArgs) (s : State) (u : State) (h : execTlbiack x0 args s = .next u) : u.mem = s.mem := by
  grind [execTlbiack, retire_mem, modThread_mem, delivered_mem, arrive]
theorem execTlbidone_mem (x0 : Hdr) (args : TlbiArgs) (s : State) (u : State) (h : execTlbidone x0 args s = .next u) : u.mem = s.mem := by
  grind [execTlbidone, tlbiAcked_mem, delivered_mem, arrive]
theorem execTrainStart_mem (wires : List WireFault) (chans : List ChanTrain) (ports : List PortTrain) (s : State) (u : State) (h : execTrainStart wires chans ports s = .next u) : u.mem = s.mem := by
  grind [execTrainStart, train_mem, senseSteps_mem]
theorem execTrainingMarker_mem (n : Octet) (mask : BitVec 8) (s : State) (u : State) (h : execTrainingMarker n mask s = .next u) : u.mem = s.mem := by
  grind [execTrainingMarker, setLinkState_mem, modLink_mem]
theorem execTransTlbiTimeout_mem (t : ThreadPos) (seq : BitVec 16) (s : State) (u : State) (h : execTransTlbiTimeout t seq s = .next u) : u.mem = s.mem := by
  grind [execTransTlbiTimeout, ueP_mem]
theorem execTripLogRecord_mem (s : State) (u : State) (h : execTripLogRecord s = .next u) : u.mem = s.mem := by
  grind [execTripLogRecord, emit_mem, writeNotice_mem, passBucket_mem]
theorem execTrlRetrain_mem (n : Octet) (s : State) (u : State) (h : execTrlRetrain n s = .next u) : u.mem = s.mem := by
  grind [execTrlRetrain, partialReset_mem]
theorem uncached_mem (s : State) (ty : MsgType) (x2 : Hdr) (b : Body) (u : State) (h : uncached s ty x2 b = .next u) : u.mem = s.mem := by
  grind [uncached, uncachedIn_mem, enterPool_mem, homLast_mem, ueP_mem, delivered_mem, State.poolIn, arrive]
theorem execUcatom_mem (x0 : Hdr) (args : AtomArgs) (s : State) (u : State) (h : execUcatom x0 args s = .next u) : u.mem = s.mem := by
  grind [execUcatom, uncached_mem]
theorem execUcrd_mem (x0 : Hdr) (off : BitVec 6) (size : Nat) (s : State) (u : State) (h : execUcrd x0 off size s = .next u) : u.mem = s.mem := by
  grind [execUcrd, uncached_mem]
theorem execUcrsp_mem (x0 : Hdr) (value : Word) (s : State) (u : State) (h : execUcrsp x0 value s = .next u) : u.mem = s.mem := by
  grind [execUcrsp, coreAtomRsp_mem, modCore_mem, drainRefused_mem, returnCredit_mem, closedCoherent_mem, delivered_mem, onCore, arrive]
theorem execUcwr_mem (x0 : Hdr) (bytes : Line) (mask : BitVec 64) (s : State) (u : State) (h : execUcwr x0 bytes mask s = .next u) : u.mem = s.mem := by
  grind [execUcwr, uncached_mem]
theorem execVfp_mem (t : ThreadPos) (fn : BitVec 6) (esz : BitVec 2) (k : BitVec 3) (vb : BitVec 5) (va : BitVec 5) (vd : BitVec 5) (s : State) (u : State) (h : execVfp t fn esz k vb va vd s = .next u) :
    u.mem = s.mem := by
  grind [execVfp, illegal_mem, finish_mem, startInstr_mem, onThread]
theorem execVint_mem (t : ThreadPos) (fn : BitVec 6) (esz : BitVec 2) (k : BitVec 3) (vb : BitVec 5) (va : BitVec 5) (vd : BitVec 5) (s : State) (u : State) (h : execVint t fn esz k vb va vd s = .next u) :
    u.mem = s.mem := by
  grind [execVint, illegal_mem, finish_mem, startInstr_mem, onThread]
theorem execVmask_mem (t : ThreadPos) (fn : BitVec 6) (esz : BitVec 2) (k : BitVec 3) (vb : BitVec 5) (va : BitVec 5) (vd : BitVec 5) (s : State) (u : State) (h : execVmask t fn esz k vb va vd s = .next u) :
    u.mem = s.mem := by
  grind [execVmask, illegal_mem, finish_mem, startInstr_mem, onThread]
theorem execVmem_mem (t : ThreadPos) (fn : BitVec 6) (esz : BitVec 2) (k : BitVec 3) (vb : BitVec 5) (va : BitVec 5) (vd : BitVec 5) (s : State) (u : State) (h : execVmem t fn esz k vb va vd s = .next u) :
    u.mem = s.mem := by
  grind [execVmem, illegal_mem, vmemRun_mem, startInstr_mem, onThread]
theorem execWaitd_mem (t : ThreadPos) (rd : BitVec 5) (ra : BitVec 5) (s : State) (u : State) (h : execWaitd t rd ra s = .next u) : u.mem = s.mem := by
  grind [execWaitd, waitdRun_mem, startInstr_mem, onThread]
theorem execWaitdTimeout_mem (t : ThreadPos) (s : State) (u : State) (h : execWaitdTimeout t s = .next u) : u.mem = s.mem := by
  grind [execWaitdTimeout, wakeWaitd_mem]
theorem execWback_mem (x0 : Hdr) (s : State) (u : State) (h : execWback x0 s = .next u) : u.mem = s.mem := by
  grind [execWback, discard_mem, freeEb_mem, closedCoherent_mem, delivered_mem, homeCredits_mem, returnCredit_mem, modDie_mem, flushL3All_mem, onCore, arrive]
theorem execWfi_mem (t : ThreadPos) (s : State) (u : State) (h : execWfi t s = .next u) : u.mem = s.mem := by
  grind [execWfi, retire_mem, modThread_mem, slotFault_mem, privileged_mem, startInstr_mem, sysInstr, onThread]
theorem execWidthConfirmTimeout_mem (n : Octet) (s : State) (u : State) (h : execWidthConfirmTimeout n s = .next u) : u.mem = s.mem := by
  grind [execWidthConfirmTimeout, emit_mem, fullRetrain_mem]
theorem execWidthControlFlit_mem (n : Octet) (f : Flit) (mask : BitVec 8) (proposal : BitVec 2) (confirm : Bool) (s : State) (u : State) (h : execWidthControlFlit n f mask proposal confirm s = .next u) :
    u.mem = s.mem := by
  grind [execWidthControlFlit, agreeWidth_mem, decoded_mem, onControl]
theorem execWindowWrite_mem (k : Fin 16) (v : Word) (origin : BitVec 16) (s : State) (u : State) (h : execWindowWrite k v origin s = .next u) : u.mem = s.mem := by
  grind [execWindowWrite, mapWrite_mem]
theorem execXori_mem (t : ThreadPos) (rd : BitVec 5) (ra : BitVec 5) (imm : BitVec 16) (s : State) (u : State) (h : execXori t rd ra imm s = .next u) : u.mem = s.mem := by
  grind [execXori, intOp_mem]
theorem execZeroVa_mem (t : ThreadPos) (ra : BitVec 5) (s : State) (u : State) (h : execZeroVa t ra s = .next u) : u.mem = s.mem := by
  grind [execZeroVa, zeroRun_mem, startInstr_mem, onThread]

end Sys2Proof.Machine
end

