-- ==== Sys2Proof/Laws/MemForm.lean ====
section
/-! SUPPORT. Every operation that writes DRAM keeps the canonical form of its contents. -/
set_option Elab.async false
namespace Sys2Proof.Machine
open Sys2Proof

theorem initMemory_wf (s : State) (_w : memWf s.mem = true) : memWf s.initMemory.mem = true := by
  unfold State.initMemory
  dsimp only
  rw [setFld_mem, setFld_mem, setReg_mem]; rfl
theorem meminitPart_wf (s : State) (c : Command) (w : memWf s.mem = true) : memWf (State.meminitPart s c).mem = true := by
  grind [State.meminitPart, partDone_mem, spendFree_mem, emit_mem, initMemory_wf]
theorem storeLine_wf (s : State) (a : Nat) (k : Nat) (d : Line) (away : Bool) (w : memWf s.mem = true) : memWf (State.storeLine s a k d away).mem = true := by
  grind [State.storeLine, setAway_mem, setLineKey_mem, writeMem_wf]
theorem dramWriteKey_wf (s : State) (n : Nat) (port : Nat) (r : Nat) (a : Nat) (k : Nat) (d : Line) (away : Bool) (w : memWf s.mem = true) : memWf (State.dramWriteKey s n port r a k d away).mem = true := by
  grind [State.dramWriteKey, touchRow_mem, transfer_mem, countUncore_mem, storeLine_wf]
theorem zeroLines_wf (s : State) (k : Nat) (x2 : List LineAddr) (w : memWf s.mem = true) : memWf (State.zeroLines s k x2).mem = true := by
  fun_induction State.zeroLines s k x2 <;> grind [dramWriteKey_wf]
theorem endPage_wf (s : State) (j : PageJob) (page : Nat) (w : memWf s.mem = true) : memWf (State.endPage s j page).mem = true := by
  grind [State.endPage, setPot_mem, zeroLines_wf]
theorem dramWrite_wf (s : State) (n : Nat) (port : Nat) (r : Nat) (a : Nat) (d : Line) (away : Bool) (w : memWf s.mem = true) : memWf (State.dramWrite s n port r a d away).mem = true := by
  grind [State.dramWrite, dramWriteKey_wf]
theorem homeWrite_wf (s : State) (n : Nat) (t : HTxn) (d : Line) (away : Bool) (w : memWf s.mem = true) : memWf (State.homeWrite s n t d away).mem = true := by
  grind [State.homeWrite, dramWrite_wf]
theorem finishWb_wf (s : State) (n : Nat) (t : HTxn) (w : memWf s.mem = true) (u : State) (h : s.finishWb n t = some u) :
    memWf u.mem = true := by
  have hd : ∀ (s : State) b, memWf s.mem = true →
      memWf ((s.respond n .wbAck t.req.hdr .I { stale := b } .none).endHTxn n t.line).mem = true := by
    intro s b hs; rw [endHTxn_mem, respond_mem]; exact hs
  unfold State.finishWb at h
  dsimp only at h
  generalize (if s.ownsAs n t.line (s.keyOf t.req.hdr.src) 3 then 3 else _) = owned at h
  split at h
  · split at h
    · cases h; exact hd _ _ w
    · exact map_wf _ (fun s hs => hd _ _ (homeWrite_wf _ _ _ _ _ hs)) (fun u hu => by rw [removeWriter_mem _ _ _ _ _ _ _ hu]; exact w) h
  · split at h
    · exact map_wf _ (fun s hs => hd _ _ hs) (fun u hu => by rw [removeWriter_mem _ _ _ _ _ _ _ hu]; exact w) h
    · split at h
      · exact map_wf _ (fun s hs => hd _ _ hs) (fun u hu => by rw [removeSharer_mem _ _ _ _ _ hu]; exact w) h
      · cases h; exact hd _ _ w
theorem dramUe_wf (s : State) (n : Nat) (a : Nat) (src : Nat) (w : memWf s.mem = true) : memWf (State.dramUe s n a src).mem = true := by
  grind [State.dramUe, ueR_mem, setReg_mem, storeLine_wf]
theorem dramRead_wf (s : State) (n : Nat) (port : Nat) (a : Nat) (src : Nat) (o : ReadOutcome) (w : memWf s.mem = true) : memWf (State.dramRead s n port a src o).1.mem = true := by
  unfold State.dramRead; grind [dramCorrected_mem, freeLine_mem, keyRead_mem, dramInject_mem, touchRow_mem, transfer_mem, countUncore_mem, dramUe_wf]
theorem markAway_wf (s : State) (n : Nat) (x2 : Hdr) (w : memWf s.mem = true) : memWf (State.markAway s n x2).mem = true := by
  grind [State.markAway, setAway_mem, dramWrite_wf, dramRead_wf]
theorem finishRdS_wf (s : State) (n : Nat) (t : HTxn) (w : memWf s.mem = true) (u : State) (h : s.finishRdS n t = some u) :
    memWf u.mem = true := by
  unfold State.finishRdS at h
  dsimp only at h
  split at h
  · refine bind_wf _ (fun s u hs hu => ?_) (fun u hu => by rw [recordOwnerState_mem _ _ _ _ _ _ hu]; exact w) h
    refine map_wf _ (fun s hs => ?_) (fun u hu => by rw [recordSharer_mem _ _ _ _ _ hu]; exact hs) hu
    rw [sendCmp_mem]
    exact markAway_wf _ _ _ (by rw [armMonitor_mem]; exact hs)
  · refine bind_wf _ (fun s u hs hu => ?_) (fun u hu => by rw [applyNoOwner_mem _ _ _ _ hu]; exact w) h
    refine map_wf _ (fun s hs => ?_) (fun u hu => ?_) hu
    · rw [sendCmp_mem]
      exact markAway_wf _ _ _ (by rw [respond_mem, armMonitor_mem]; exact hs)
    · split at hu
      · rw [recordOwner_mem _ _ _ _ _ hu]; exact hs
      · rw [recordSharer_mem _ _ _ _ _ hu]; exact hs
theorem finishOwn_wf (s : State) (n : Nat) (t : HTxn) (g : CState) (data : Option Line) (w : memWf s.mem = true) (u : State)
    (h : s.finishOwn n t g data = some u) : memWf u.mem = true := by
  unfold State.finishOwn at h
  refine map_wf _ (fun s hs => ?_) (fun u hu => by rw [recordOwner_mem _ _ _ _ _ hu]; exact w) h
  cases data <;> simp only [sendCmp_mem, journal_mem] <;> refine markAway_wf _ _ _ ?_
  · exact hs
  · rw [respond_mem]; exact hs
theorem finishRdX_wf (s : State) (n : Nat) (t : HTxn) (w : memWf s.mem = true) (u : State) (h : s.finishRdX n t = some u) :
    memWf u.mem = true := by
  unfold State.finishRdX at h
  split at h
  · exact finishOwn_wf _ _ _ _ _ w _ h
  · exact bind_wf _ (fun s u hs hu => finishOwn_wf _ _ _ _ _ hs _ hu) (fun u hu => by rw [applyNoOwner_mem _ _ _ _ hu]; exact w) h
theorem finishUpg_wf (s : State) (n : Nat) (t : HTxn) (w : memWf s.mem = true) (u : State) (h : State.finishUpg s n t = some u) : memWf u.mem = true := by
  grind [State.finishUpg, finishOwn_wf]
theorem finishAtom_wf (s : State) (n : Nat) (t : HTxn) (args : AtomArgs) (w : memWf s.mem = true) (u : State)
    (h : s.finishAtom n t args = some u) : memWf u.mem = true := by
  unfold State.finishAtom at h
  dsimp only at h
  refine map_wf _ (fun s hs => ?_) (fun u hu => by rw [recordNone_mem _ _ _ _ hu]; exact w) h
  rw [endHTxn_mem, respond_mem, journal_mem, homeCount_mem]; exact homeWrite_wf _ _ _ _ _ hs
theorem finishWrP_wf (s : State) (n : Nat) (t : HTxn) (d : Line) (m : BitVec 64) (w : memWf s.mem = true) (u : State)
    (h : s.finishWrP n t d m = some u) : memWf u.mem = true := by
  unfold State.finishWrP at h
  dsimp only at h
  refine map_wf _ (fun s hs => ?_) (fun u hu => by rw [recordNone_mem _ _ _ _ hu]; exact w) h
  rw [sendCmp_mem]
  split
  · rw [journal_mem]; exact homeWrite_wf _ _ _ _ _ hs
  · exact homeWrite_wf _ _ _ _ _ hs
theorem finishCmo_wf (s : State) (n : Nat) (t : HTxn) (inv : Bool) (w : memWf s.mem = true) (u : State)
    (h : s.finishCmo n t inv = some u) : memWf u.mem = true := by
  unfold State.finishCmo at h
  dsimp only at h
  refine map_wf _ (fun s hs => ?_) (fun u hu => ?_) h
  · rw [sendCmp_mem]
    split
    · exact homeWrite_wf _ _ _ _ _ hs
    · exact hs
  · split at hu
    · rw [recordNone_mem _ _ _ _ hu]; exact w
    · split at hu
      · split at hu
        · rw [recordOwnerState_mem _ _ _ _ _ _ hu]; exact w
        · cases hu; exact w
      · rw [applyNoOwner_mem _ _ _ _ hu]; exact w
      · cases hu; exact w
theorem finishTxn_wf (s : State) (n : Nat) (t : HTxn) (w : memWf s.mem = true) (u : State) (h : s.finishTxn n t = some u) :
    memWf u.mem = true := by
  unfold State.finishTxn at h
  dsimp only at h
  split at h
  · exact finishWb_wf _ _ _ w _ h
  · split at h
    · refine map_wf _ (fun s hs => ?_) (fun u hu => ?_) h
      · split
        · rw [endHTxn_mem, respond_mem]; exact hs
        · rw [sendCmp_mem]; exact hs
      · split at hu
        · rw [recordOwnerState_mem _ _ _ _ _ _ hu]; exact w
        · cases hu; exact w
    · split at h
      · exact finishRdS_wf _ _ _ w _ h
      · exact finishRdX_wf _ _ _ w _ h
      · exact finishUpg_wf _ _ _ w _ h
      · exact finishOwn_wf _ _ _ _ _ w _ h
      · exact finishAtom_wf _ _ _ _ w _ h
      · exact finishWrP_wf _ _ _ _ _ w _ h
      · exact finishCmo_wf _ _ _ _ w _ h
      · cases h; rw [endHTxn_mem]; exact w
theorem finishRecall_wf (s : State) (n : Nat) (t : HTxn) (w : memWf s.mem = true) : memWf (s.finishRecall n t).mem = true := by
  unfold State.finishRecall
  dsimp only
  rw [endHTxn_mem]
  have h1 : memWf (match t.wdata with
      | some d => if t.kind = TxnKind.pageRecall then s else s.homeWrite n t d (decide (t.kind = TxnKind.ownerRecall) || s.heldAway n t.line)
      | none => s).mem = true := by
    split
    · split
      · exact w
      · exact homeWrite_wf _ _ _ _ _ w
    · exact w
  split
  · rw [dirStay_mem, modRec_mem]; exact h1
  · rw [recalled_mem, modRec_mem]; exact h1
  · rw [modRec_mem]; exact h1
  · generalize hr : State.recordNone _ n t.line = r
    cases r with
    | none => exact h1
    | some v => show memWf v.mem = true; rw [recordNone_mem _ _ _ _ hr]; exact h1
  · exact h1
theorem finishStep_wf (s : State) (n : Nat) (a : LineAddr) (w : memWf s.mem = true) : memWf (State.finishStep s n a).mem = true := by
  grind [State.finishStep, endHTxn_mem, proxyRecalled_mem, homeCount_mem, putTxn_mem, finishRecall_wf, finishTxn_wf]
theorem advance_wf (s : State) (n : Nat) (a : LineAddr) (w : memWf s.mem = true) : memWf (State.advance s n a).mem = true := by
  grind [State.advance, decideTxn_mem, homeCount_mem, putTxn_mem, finishStep_wf]
theorem advanceAll_wf (s : State) (n : Nat) (x2 : List LineAddr) (w : memWf s.mem = true) : memWf (State.advanceAll s n x2).mem = true := by
  fun_induction State.advanceAll s n x2 <;> grind [advance_wf]
theorem serveLine_wf (s : State) (n : Nat) (a : LineAddr) (x3 : Nat) (w : memWf s.mem = true) : memWf (State.serveLine s n a x3).mem = true := by
  fun_induction State.serveLine s n a x3 <;> grind [proxyBegin_mem, beginTxn_mem, addFld_mem, homeCount_mem, noteServed_mem, modHome_mem, startRecall_mem, advance_wf]
theorem serveLines_wf (s : State) (n : Nat) (fuel : Nat) (x3 : List LineAddr) (w : memWf s.mem = true) : memWf (State.serveLines s n fuel x3).mem = true := by
  fun_induction State.serveLines s n fuel x3 <;> grind [serveLine_wf]
theorem settleHome_wf (s : State) (n : Nat) (a : List LineAddr) (w : memWf s.mem = true) : memWf (State.settleHome s n a).mem = true := by
  grind [State.settleHome, serveLines_wf, advanceAll_wf]
theorem settleHomes_wf (s : State) (x1 : List Nat) (w : memWf s.mem = true) : memWf (State.settleHomes s x1).mem = true := by
  fun_induction State.settleHomes s x1 <;> grind [settleHome_wf]
theorem settle_wf (s : State) (n : Nat) (a : LineAddr) (w : memWf s.mem = true) : memWf (State.settle s n a).mem = true := by
  grind [State.settle, advance_wf, settleHome_wf, settleHomes_wf]
theorem recallLines_wf (s : State) (x1 : List LineAddr) (w : memWf s.mem = true) : memWf (State.recallLines s x1).mem = true := by
  fun_induction State.recallLines s x1 <;> grind [modHome_mem, settle_wf]
theorem beginPage_wf (s : State) (page : Nat) (w : memWf s.mem = true) : memWf (State.beginPage s page).mem = true := by
  grind [State.beginPage, setPot_mem, recallLines_wf]
theorem runPages_wf (s : State) (j : PageJob) (x2 : Nat) (w : memWf s.mem = true) : memWf (State.runPages s j x2).1.mem = true := by
  fun_induction State.runPages s j x2 <;> grind [beginPage_wf, endPage_wf]
theorem runJobs_wf (s : State) (x1 : List PageJob) (w : memWf s.mem = true) : memWf (State.runJobs s x1).mem = true := by
  fun_induction State.runJobs s x1 <;> grind [endPages_mem, modRealms_mem, runPages_wf]
theorem pageTick_wf (s : State) (w : memWf s.mem = true) : memWf (State.pageTick s).mem = true := by grind [State.pageTick, modRealms_mem, runJobs_wf]
theorem destroyRealm_wf (s : State) (c : Command) (w : memWf s.mem = true) : memWf (State.destroyRealm s c).mem = true := by
  grind [State.destroyRealm, modRealms_mem, setRealmState_mem, pageTick_wf]
theorem beginPages_wf (s : State) (why : PageWhy) (assign : Bool) (realm : Nat) (page : Nat) (count : Nat) (w : memWf s.mem = true) : memWf (State.beginPages s why assign realm page count).mem = true := by
  grind [State.beginPages, modRealms_mem, endPages_mem, pageTick_wf]
theorem runTicket_wf (s : State) (c : Command) (w : memWf s.mem = true) : memWf (State.runTicket s c).mem = true := by
  grind [State.runTicket, rotateKey_mem, emit_mem, ok_mem, setRealmWord_mem, createRealm_mem, askSeal_mem, refuseState_mem, beginPages_wf, destroyRealm_wf]
theorem runTask_wf (s : State) (t : RealmTask) (w : memWf s.mem = true) : memWf (State.runTask s t).mem = true := by
  unfold State.runTask; grind [modRealms_mem, openDomain_mem, runReg_mem, runTicket_wf]
theorem realmNext_wf (s : State) (x1 : Nat) (w : memWf s.mem = true) : memWf (State.realmNext s x1).mem = true := by
  fun_induction State.realmNext s x1 <;> grind [modRealms_mem, runTask_wf]
theorem realmCommand_wf (s : State) (t : RealmTask) (w : memWf s.mem = true) : memWf (State.realmCommand s t).mem = true := by
  grind [State.realmCommand, modRealms_mem, realmNext_wf]
theorem rlmCommand_wf (s : State) (cmd : Nat) (realm : Nat) (origin : BitVec 16) (w : memWf s.mem = true) : memWf (State.rlmCommand s cmd realm origin).mem = true := by
  grind [State.rlmCommand, rlmDone_mem, setFld_mem, realmCommand_wf]
theorem writeRlmCmd_wf (s : State) (o : BitVec 16) (v : Word) (m : Word) (w : memWf s.mem = true) : memWf (State.writeRlmCmd s o v m).mem = true := by
  grind [State.writeRlmCmd, rlmCommand_wf]
theorem pageCommand_wf (s : State) (assign : Bool) (page : BitVec 40) (w : memWf s.mem = true) : memWf (State.pageCommand s assign page).mem = true := by
  grind [State.pageCommand, setFld_mem, beginPages_wf]
theorem writePgarg_wf (s : State) (v : Word) (m : Word) (w : memWf s.mem = true) : memWf (State.writePgarg s v m).mem = true := by
  grind [State.writePgarg, setFld_mem, pageCommand_wf]
theorem writePlain_mem (s : State) (who : Writer) (off : Nat) (v m : Word) (k : State → Word → State)
    (h : ∀ u x, (k u x).mem = u.mem) : (s.writePlain who off v m k).mem = s.mem := by
  unfold State.writePlain
  dsimp only
  repeat' split
  all_goals simp only [h, setReg_mem, writeRecs_mem]
theorem writeReg_wf (s : State) (who : Writer) (off : Nat) (v m : Word) (w : memWf s.mem = true) :
    memWf (s.writeReg who off v m).mem = true := by
  unfold State.writeReg
  dsimp only
  repeat' with_reducible apply ite_wf
  all_goals first
    | exact w
    | exact writeRlmCmd_wf _ _ _ _ w
    | exact writePgarg_wf _ _ _ w
    | (simp only [freezeWrite_mem, writeInject_mem, writeDumpctl_mem, writeCounter_mem, writeRealmEntry_mem, writeCtxcmd_mem,
        writeRing_mem, mapWrite_mem, rpRelease_mem, rpassignWrite_mem]; exact w)
    | skip
  · rw [writePlain_mem]
    · exact w
    · intro u x; rfl
  · split
    · split <;> simp only [disableL3_mem, enableL3_mem, writeRecs_mem] <;> exact w
    · simp only [writeRecs_mem]; exact w
  · rw [writePlain_mem]
    · exact w
    · intro u x
      repeat' split
      all_goals simp only [spillWritten_mem, rateWritten_mem, clearCetab_mem, setFld_mem, partialReset_mem]
theorem prsWrite_wf (s : State) (who : Writer) (off : Nat) (size : Nat) (v : Word) (w : memWf s.mem = true) : memWf (State.prsWrite s who off size v).mem = true := by
  grind [State.prsWrite, writeReg_wf]
theorem regWritePart_wf (s : State) (c : Command) (w : memWf s.mem = true) : memWf (State.regWritePart s c).mem = true := by
  grind [State.regWritePart, partDone_mem, prsWrite_wf]
theorem performPart_wf (s : State) (c : Command) (w : memWf s.mem = true) : memWf (State.performPart s c).mem = true := by
  grind [State.performPart, tlogPart_mem, freeGrants_mem, installGrant_mem, partDone_mem, reshapePart_mem, beginDrain_mem, regWritePart_wf, meminitPart_wf]
theorem startParts_wf (s : State) (c : Command) (w : memWf s.mem = true) : memWf (State.startParts s c).mem = true := by
  grind [State.startParts, passAll_mem, ok_mem, startLong_mem, performPart_wf]
theorem askParts_wf (s : State) (c : Command) (named : Bool) (w : memWf s.mem = true) : memWf (State.askParts s c named).mem = true := by
  grind [State.askParts, askMembers_mem, partRecord_mem, complete_mem, startParts_wf]
theorem runCommand_wf (s : State) (c : Command) (named : Bool) (w : memWf s.mem = true) : memWf (State.runCommand s c named).mem = true := by
  grind [State.runCommand, setSlot_mem, passCommand_mem, flood_mem, runReset_mem, refuseState_mem, runMode_mem, runRegime_mem, beginJoin_mem, runClaim_mem, runProgress_mem, ok_mem, realmCommand_wf, startParts_wf, askParts_wf]
theorem resolveCommand_wf (s : State) (c : Command) (w : memWf s.mem = true) : memWf (State.resolveCommand s c).mem = true := by
  grind [State.resolveCommand, refuseState_mem, runCommand_wf]
theorem actOn_wf (s : State) (e : Event) (w : memWf s.mem = true) : memWf (State.actOn s e).1.mem = true := by
  grind [State.actOn, wakeThread_mem, detect_mem, actTimer_mem, actInterrupt_mem, actTakeover_mem, cutComplete_mem, degradeNow_mem, resolveUeR_mem, noticeVector_mem, hostRecord_mem, haltAll_mem, resolveCommand_wf]
theorem viewWrite_wf (s : State) (off : Nat) (v : Word) (m : Word) (w : memWf s.mem = true) : memWf (State.viewWrite s off v m).mem = true := by
  grind [State.viewWrite, chgRecs_mem, writeReg_wf]
theorem barWrite_wf (s : State) (o : Nat) (size : Nat) (v : Word) (w : memWf s.mem = true) : memWf (State.barWrite s o size v).mem = true := by
  grind [State.barWrite, msixWrite_mem, viewWrite_wf, writeReg_wf]
theorem checksEnded_wf (s : State) (j : MemberJob) (w : memWf s.mem = true) : memWf (State.checksEnded s j).mem = true := by
  grind [State.checksEnded, complete_mem, sealAnswered_mem, startParts_wf]
theorem recallEntries_wf (s : State) (x1 : List (Nat × DirEntry)) (w : memWf s.mem = true) : memWf (State.recallEntries s x1).mem = true := by
  fun_induction State.recallEntries s x1 <;> grind [clearWay_mem, settle_wf]
theorem drainTick_wf (s : State) (w : memWf s.mem = true) : memWf (State.drainTick s).mem = true := by
  grind [State.drainTick, partDone_mem, flushAll_mem, recallEntries_wf]
theorem homeArrive_wf (s : State) (n : Nat) (ty : MsgType) (x3 : Hdr) (b : Body) (w : memWf s.mem = true) : memWf (State.homeArrive s n ty x3 b).mem = true := by
  grind [State.homeArrive, modHome_mem, sendRdSub_mem, settle_wf]
theorem imageTick_wf (s : State) (w : memWf s.mem = true) : memWf (State.imageTick s).mem = true := by
  grind [State.imageTick, silenceTick_mem, holdTick_mem, cutTick_mem, realignTick_mem, finishWaits_mem, reshapeTick_mem, leaveTick_mem, wakeTick_mem, noticeResume_mem, issueReads_mem, pageTick_wf, drainTick_wf]
theorem memberAnswer_wf (s : State) (p : Nat) (c : Command) (status : Nat) (r0 : Word) (r1 : Word) (w : memWf s.mem = true) : memWf (State.memberAnswer s p c status r0 r1).mem = true := by
  grind [State.memberAnswer, complete_mem, partEnded_mem, checksEnded_wf, realmNext_wf]
theorem managerReport_wf (s : State) (p : Nat) (x2 : Report) (w : memWf s.mem = true) : memWf (State.managerReport s p x2).mem = true := by
  unfold State.managerReport; grind [memberFinished_mem, realignImage_mem, realignTick_mem, alignmentReport_mem, linkReport_mem, takeEvent_mem, memberAnswer_wf]
theorem wiped_wf (s : State) (keepLog : Bool) (_w : memWf s.mem = true) : memWf (s.wiped keepLog).mem = true := by
  unfold State.wiped; rfl
theorem restart_wf (s : State) (new : Nat) (trans : Nat) (keepLog : Bool) (w : memWf s.mem = true) : memWf (State.restart s new trans keepLog).mem = true := by
  grind [State.restart, emit_mem, setReg_mem, flushEvents_mem, wiped_wf]
theorem senseEntry_wf (s : State) (trans : Nat) (keepLog : Bool) (w : memWf s.mem = true) : memWf (State.senseEntry s trans keepLog).mem = true := by
  grind [State.senseEntry, setReg_mem, setFld_mem, restart_wf]
theorem packageReset_wf (s : State) (w : memWf s.mem = true) : memWf (State.packageReset s).mem = true := by grind [State.packageReset, senseEntry_wf]
theorem rekeyLines_wf (s : State) (r : Nat) (k : Nat) (x3 : List LineAddr) (w : memWf s.mem = true) : memWf (State.rekeyLines s r k x3).mem = true := by
  fun_induction State.rekeyLines s r k x3 <;> grind [storeLine_wf, dramWriteKey_wf, dramRead_wf]
theorem requestIn_wf (s : State) (n : Nat) (ty : MsgType) (x3 : Hdr) (b : Body) (w : memWf s.mem = true) : memWf (State.requestIn s n ty x3 b).mem = true := by
  grind [State.requestIn, enterPool_mem, homLast_mem, ueP_mem, homeArrive_wf, State.poolIn]
theorem resetPart_wf (s : State) (c : Command) (w : memWf s.mem = true) : memWf (State.resetPart s c).mem = true := by
  grind [State.resetPart, emit_mem, packageReset_wf]
theorem resetTick_wf (s : State) (w : memWf s.mem = true) : memWf (State.resetTick s).mem = true := by
  grind [State.resetTick, flood_mem, passAll_mem, resetPart_wf]
theorem resolveAll_wf (s : State) (dead : Bool) (x2 : List Event) (w : memWf s.mem = true) : memWf (State.resolveAll s dead x2).mem = true := by
  fun_induction State.resolveAll s dead x2 <;> grind [enqueueAll_mem, actOn_wf]
theorem resolveClause_wf (s : State) (w : memWf s.mem = true) : memWf (State.resolveClause s).mem = true := by
  grind [State.resolveClause, resolveAll_wf]
theorem resolveUpTo_wf (s : State) (c : Word) (x2 : Nat) (w : memWf s.mem = true) : memWf (State.resolveUpTo s c x2).mem = true := by
  fun_induction State.resolveUpTo s c x2 <;> grind [resolveClause_wf]
theorem retryHeld_wf (s : State) (w : memWf s.mem = true) : memWf (State.retryHeld s).mem = true := by
  grind [State.retryHeld, modRealms_mem, runTask_wf, realmNext_wf]
theorem runPassed_wf (s : State) (c : Command) (w : memWf s.mem = true) : memWf (State.runPassed s c).mem = true := by
  grind [State.runPassed, partRecord_mem, spendFree_mem, complete_mem, performPart_wf, beginPages_wf, resetPart_wf]
theorem tickOnce_wf (s : State) (w : memWf s.mem = true) : memWf (State.tickOnce s).mem = true := by
  grind [State.tickOnce, linkTick_mem, cacheTick_mem, engineAdvanceAll_mem, inboundTick_mem, dumpSettle_mem, tlbiTick_mem, clauseTick_mem, dumpRequested_mem, countTick_mem, mapTick_mem, imageTick_wf, resetTick_wf]
theorem toStandby_wf (s : State) (trans : Nat) (keepLog : Bool) (w : memWf s.mem = true) : memWf (State.toStandby s trans keepLog).mem = true := by
  grind [State.toStandby, restart_wf]
theorem ucPerform_wf (s : State) (n : Nat) (q : UcReq) (o : ReadOutcome) (w : memWf s.mem = true) : memWf (State.ucPerform s n q o).mem = true := by
  grind [State.ucPerform, journal_mem, ucRespond_mem, dramWrite_wf, dramRead_wf]
theorem execClauseResolution_wf (s : State) (w : memWf s.mem = true) (u : State) (h : execClauseResolution s = .next u) : memWf u.mem = true := by
  grind [execClauseResolution, resolveClause_wf]
theorem request_wf (s : State) (ty : MsgType) (x2 : Hdr) (b : Body) (w : memWf s.mem = true) (u : State) (h : request s ty x2 b = .next u) : memWf u.mem = true := by
  grind [request, delivered_mem, requestIn_wf, onAgent, arrive]
theorem execRds_wf (x0 : Hdr) (s : State) (w : memWf s.mem = true) (u : State) (h : execRds x0 s = .next u) : memWf u.mem = true := by
  grind [execRds, request_wf]
theorem execRdx_wf (x0 : Hdr) (s : State) (w : memWf s.mem = true) (u : State) (h : execRdx x0 s = .next u) : memWf u.mem = true := by
  grind [execRdx, request_wf]
theorem execUpg_wf (x0 : Hdr) (s : State) (w : memWf s.mem = true) (u : State) (h : execUpg x0 s = .next u) : memWf u.mem = true := by
  grind [execUpg, request_wf]
theorem execRdz_wf (x0 : Hdr) (s : State) (w : memWf s.mem = true) (u : State) (h : execRdz x0 s = .next u) : memWf u.mem = true := by
  grind [execRdz, request_wf]
theorem execWbm_wf (x0 : Hdr) (line : Line) (s : State) (w : memWf s.mem = true) (u : State) (h : execWbm x0 line s = .next u) : memWf u.mem = true := by
  grind [execWbm, request_wf]
theorem execEvn_wf (x0 : Hdr) (s : State) (w : memWf s.mem = true) (u : State) (h : execEvn x0 s = .next u) : memWf u.mem = true := by
  grind [execEvn, request_wf]
theorem execAtom_wf (x0 : Hdr) (args : AtomArgs) (s : State) (w : memWf s.mem = true) (u : State) (h : execAtom x0 args s = .next u) : memWf u.mem = true := by
  grind [execAtom, request_wf]
theorem execCmo_wf (x0 : Hdr) (clinv : Bool) (s : State) (w : memWf s.mem = true) (u : State) (h : execCmo x0 clinv s = .next u) : memWf u.mem = true := by
  grind [execCmo, request_wf]
theorem execWrp_wf (x0 : Hdr) (bytes : Line) (mask : BitVec 64) (s : State) (w : memWf s.mem = true) (u : State) (h : execWrp x0 bytes mask s = .next u) : memWf u.mem = true := by
  grind [execWrp, request_wf]
theorem snoopIn_wf (s : State) (ty : MsgType) (x2 : Hdr) (w : memWf s.mem = true) (u : State) (h : snoopIn s ty x2 = .next u) : memWf u.mem = true := by
  grind [snoopIn, proxySnoop_mem, proxyStep_mem, putTxn_mem, delivered_mem, engineSnoop_mem, dieSnoop_mem, settle_wf, onAgent, arrive]
theorem execSnps_wf (x0 : Hdr) (s : State) (w : memWf s.mem = true) (u : State) (h : execSnps x0 s = .next u) : memWf u.mem = true := by
  grind [execSnps, snoopIn_wf]
theorem execSnpx_wf (x0 : Hdr) (s : State) (w : memWf s.mem = true) (u : State) (h : execSnpx x0 s = .next u) : memWf u.mem = true := by
  grind [execSnpx, snoopIn_wf]
theorem execSnpi_wf (x0 : Hdr) (s : State) (w : memWf s.mem = true) (u : State) (h : execSnpi x0 s = .next u) : memWf u.mem = true := by
  grind [execSnpi, snoopIn_wf]
theorem execSnph_wf (x0 : Hdr) (s : State) (w : memWf s.mem = true) (u : State) (h : execSnph x0 s = .next u) : memWf u.mem = true := by
  grind [execSnph, snoopIn_wf]
theorem execSnpc_wf (x0 : Hdr) (s : State) (w : memWf s.mem = true) (u : State) (h : execSnpc x0 s = .next u) : memWf u.mem = true := by
  grind [execSnpc, snoopIn_wf]
theorem ownServe_wf (n : Nat) (x : State × Option HReq) (w : memWf x.1.mem = true) : memWf (State.ownServe n x).mem = true := by
  rcases x with ⟨s, _ | r⟩
  · exact w
  · exact homeArrive_wf _ _ _ _ _ w
theorem execCmp_wf (hd : Hdr) (s : State) (w : memWf s.mem = true) (t : State) (h : execCmp hd s = .next t) : memWf t.mem = true := by
  unfold execCmp at h
  dsimp only at h
  split at h
  · unfold arrive at h
    split at h
    · cases h; exact w
    · cases h
      split
      · exact ownServe_wf _ _ (by rw [journalCmp_mem, delivered_mem]; exact w)
      · split
        · rw [engineCmp_mem, proxyCredit_mem, delivered_mem]; exact w
        · rw [portCmp_mem, proxyCredit_mem, delivered_mem]; exact w
  · split at h
    · unfold arrive at h
      grind [completeAccess_mem, refuseAccess_mem, returnCredit_mem, ackOther_mem, discard_mem, delivered_mem]
    · unfold onCore arrive at h
      grind [coreCmp_mem, proxyCmp_mem, closedCoherent_mem, delivered_mem]
theorem execCmpack_wf (x0 : Hdr) (s : State) (w : memWf s.mem = true) (u : State) (h : execCmpack x0 s = .next u) : memWf u.mem = true := by
  unfold execCmpack at h; grind [send_mem, proxySnoop_mem, proxyStep_mem, homeErr_mem, endHTxn_mem, delivered_mem, settle_wf, onAgent, arrive]
theorem execFwdack_wf (x0 : Hdr) (st : CState) (s : State) (w : memWf s.mem = true) (u : State) (h : execFwdack x0 st s = .next u) : memWf u.mem = true := by
  grind [execFwdack, noteBroken_mem, proxyStep_mem, putTxn_mem, homeErr_mem, delivered_mem, settle_wf, State.answered, onAgent, arrive]
theorem execSnpack_wf (x0 : Hdr) (s : State) (w : memWf s.mem = true) (u : State) (h : execSnpack x0 s = .next u) : memWf u.mem = true := by
  grind [execSnpack, proxyStep_mem, putTxn_mem, homeErr_mem, delivered_mem, settle_wf, State.answered, onAgent, arrive]
theorem execSnpnone_wf (x0 : Hdr) (s : State) (w : memWf s.mem = true) (u : State) (h : execSnpnone x0 s = .next u) : memWf u.mem = true := by
  grind [execSnpnone, proxyStep_mem, putTxn_mem, homeErr_mem, addFld_mem, homeCount_mem, delivered_mem, settle_wf, State.answered, onAgent, arrive]
theorem execSnpdata_wf (x0 : Hdr) (line : Line) (s : State) (w : memWf s.mem = true) (u : State) (h : execSnpdata x0 line s = .next u) : memWf u.mem = true := by
  grind [execSnpdata, proxyStep_mem, putTxn_mem, homeErr_mem, delivered_mem, settle_wf, State.answered, onAgent, arrive]
theorem execSubfwd_wf (x0 : Hdr) (st : CState) (s : State) (w : memWf s.mem = true) (u : State) (h : execSubfwd x0 st s = .next u) : memWf u.mem = true := by
  grind [execSubfwd, putTxn_mem, proxyReply_mem, modHome_mem, delivered_mem, settle_wf, onAgent, arrive]
theorem execJrnwr_wf (hd : Hdr) (record : BitVec 256) (s : State) (w : memWf s.mem = true) (t : State)
    (h : execJrnwr hd record s = .next t) : memWf t.mem = true := by
  unfold execJrnwr onAgent arrive at h
  split at h
  · split at h
    · cases h; exact w
    · cases h
      refine ownServe_wf _ _ ?_
      split
      · rw [journalAppend_mem, delivered_mem]; exact w
      · rw [delivered_mem]; exact w
  · cases h
theorem execSettlePointReached_wf (n : Chan) (line : LineAddr) (s : State) (w : memWf s.mem = true) (u : State) (h : execSettlePointReached n line s = .next u) : memWf u.mem = true := by
  grind [execSettlePointReached, settle_wf]
theorem execLeadPointReached_wf (n : Chan) (line : LineAddr) (s : State) (w : memWf s.mem = true) (u : State) (h : execLeadPointReached n line s = .next u) : memWf u.mem = true := by
  grind [execLeadPointReached, settle_wf]
theorem execMemoryReadDone_wf (n : Chan) (line : LineAddr) (o : ReadOutcome) (s : State) (w : memWf s.mem = true) (u : State) (h : execMemoryReadDone n line o s = .next u) : memWf u.mem = true := by
  grind [execMemoryReadDone, putTxn_mem, ownCacheRead_mem, admitReads_mem, ucPerform_wf, settle_wf, dramRead_wf]
theorem execDirectoryLookupDone_wf (n : Chan) (line : LineAddr) (o : DirOutcome) (s : State) (w : memWf s.mem = true) (u : State) (h : execDirectoryLookupDone n line o s = .next u) :
    memWf u.mem = true := by
  grind [execDirectoryLookupDone, putTxn_mem, queueRecalls_mem, dirAlloc_mem, dirReadError_mem, settle_wf, settleHomes_wf]
theorem execReshapeMigrate_wf (o : DirOutcome) (s : State) (w : memWf s.mem = true) (u : State) (h : execReshapeMigrate o s = .next u) : memWf u.mem = true := by
  grind [execReshapeMigrate, migrateSet_mem, settleHomes_wf]
theorem execEvent_wf (src : Pkg) (r : Report) (e : MeshError) (s : State) (w : memWf s.mem = true) (u : State) (h : execEvent src r e s = .next u) : memWf u.mem = true := by
  grind [execEvent, memberNotice_mem, meshError_mem, delivered_mem, managerReport_wf]
theorem execRegisterWrite_wf (x0 : Hdr) (off : BitVec 40) (size : Fin 9) (v : Word) (e : MeshError) (s : State) (w : memWf s.mem = true) (u : State) (h : execRegisterWrite x0 off size v e s = .next u) :
    memWf u.mem = true := by
  grind [execRegisterWrite, devWrite_mem, meshError_mem, delivered_mem, meshRefuse_mem, prsWrite_wf, State.regMessage, arrive]
theorem execDramScrub_wf (n : Chan) (line : LineAddr) (o : ReadOutcome) (s : State) (w : memWf s.mem = true) (u : State) (h : execDramScrub n line o s = .next u) : memWf u.mem = true := by
  grind [execDramScrub, setFld_mem, dramRead_wf]
theorem execStart_wf (realm : Realm) (origin : BitVec 16) (s : State) (w : memWf s.mem = true) (u : State) (h : execStart realm origin s = .next u) : memWf u.mem = true := by
  grind [execStart, rlmCommand_wf]
theorem execStop_wf (realm : Realm) (origin : BitVec 16) (s : State) (w : memWf s.mem = true) (u : State) (h : execStop realm origin s = .next u) : memWf u.mem = true := by
  grind [execStop, rlmCommand_wf]
theorem execBind_wf (realm : Realm) (origin : BitVec 16) (s : State) (w : memWf s.mem = true) (u : State) (h : execBind realm origin s = .next u) : memWf u.mem = true := by
  grind [execBind, rlmCommand_wf]
theorem execUnbind_wf (realm : Realm) (origin : BitVec 16) (s : State) (w : memWf s.mem = true) (u : State) (h : execUnbind realm origin s = .next u) : memWf u.mem = true := by
  grind [execUnbind, rlmCommand_wf]
theorem execPgcmdAssign_wf (page : BitVec 40) (s : State) (w : memWf s.mem = true) (u : State) (h : execPgcmdAssign page s = .next u) : memWf u.mem = true := by
  grind [execPgcmdAssign, pageCommand_wf]
theorem execReclaim_wf (page : BitVec 40) (s : State) (w : memWf s.mem = true) (u : State) (h : execReclaim page s = .next u) : memWf u.mem = true := by
  grind [execReclaim, pageCommand_wf]
theorem execKeyRotateSweep_wf (s : State) (w : memWf s.mem = true) (u : State) (h : execKeyRotateSweep s = .next u) : memWf u.mem = true := by
  grind [execKeyRotateSweep, realmPart'_mem, finishWaits_mem, modRealms_mem, setFld_mem, setPot_mem, rekeyLines_wf]
theorem hostCommand_wf (c : Command) (op : Nat) (sel : Option (Nat × Nat)) (s : State) (w : memWf s.mem = true) : memWf (hostCommand c op sel s).mem = true := by
  unfold hostCommand; grind [takeCommand_mem, runPassed_wf, resolveCommand_wf, resolveUpTo_wf]
theorem execNop_wf (c : Command) (s : State) (w : memWf s.mem = true) (u : State) (h : execNop c s = .next u) : memWf u.mem = true := by
  grind [execNop, hostCommand_wf]
theorem execProgress_wf (c : Command) (s : State) (w : memWf s.mem = true) (u : State) (h : execProgress c s = .next u) : memWf u.mem = true := by
  grind [execProgress, hostCommand_wf]
theorem execOwnerClaim_wf (c : Command) (s : State) (w : memWf s.mem = true) (u : State) (h : execOwnerClaim c s = .next u) : memWf u.mem = true := by
  grind [execOwnerClaim, hostCommand_wf]
theorem execJoin_wf (c : Command) (s : State) (w : memWf s.mem = true) (u : State) (h : execJoin c s = .next u) : memWf u.mem = true := by
  grind [execJoin, hostCommand_wf]
theorem execSetRegime_wf (c : Command) (s : State) (w : memWf s.mem = true) (u : State) (h : execSetRegime c s = .next u) : memWf u.mem = true := by
  grind [execSetRegime, hostCommand_wf]
theorem execModeQuiesce_wf (c : Command) (s : State) (w : memWf s.mem = true) (u : State) (h : execModeQuiesce c s = .next u) : memWf u.mem = true := by
  grind [execModeQuiesce, hostCommand_wf]
theorem execModeJoin_wf (c : Command) (s : State) (w : memWf s.mem = true) (u : State) (h : execModeJoin c s = .next u) : memWf u.mem = true := by
  grind [execModeJoin, hostCommand_wf]
theorem execModeRunI_wf (c : Command) (s : State) (w : memWf s.mem = true) (u : State) (h : execModeRunI c s = .next u) : memWf u.mem = true := by
  grind [execModeRunI, hostCommand_wf]
theorem execModeRunS_wf (c : Command) (s : State) (w : memWf s.mem = true) (u : State) (h : execModeRunS c s = .next u) : memWf u.mem = true := by
  grind [execModeRunS, hostCommand_wf]
theorem execModeDrain_wf (c : Command) (s : State) (w : memWf s.mem = true) (u : State) (h : execModeDrain c s = .next u) : memWf u.mem = true := by
  grind [execModeDrain, hostCommand_wf]
theorem execReset_wf (c : Command) (s : State) (w : memWf s.mem = true) (u : State) (h : execReset c s = .next u) : memWf u.mem = true := by
  grind [execReset, hostCommand_wf]
theorem execReshape_wf (c : Command) (s : State) (w : memWf s.mem = true) (u : State) (h : execReshape c s = .next u) : memWf u.mem = true := by
  grind [execReshape, hostCommand_wf]
theorem execMeminit_wf (c : Command) (s : State) (w : memWf s.mem = true) (u : State) (h : execMeminit c s = .next u) : memWf u.mem = true := by
  grind [execMeminit, hostCommand_wf]
theorem execRegWrite_wf (c : Command) (s : State) (w : memWf s.mem = true) (u : State) (h : execRegWrite c s = .next u) : memWf u.mem = true := by
  grind [execRegWrite, hostCommand_wf]
theorem execFwUpdateFirmware_wf (c : Command) (s : State) (w : memWf s.mem = true) (u : State) (h : execFwUpdateFirmware c s = .next u) : memWf u.mem = true := by
  grind [execFwUpdateFirmware, hostCommand_wf]
theorem execFwUpdateBoardRecord_wf (c : Command) (s : State) (w : memWf s.mem = true) (u : State) (h : execFwUpdateBoardRecord c s = .next u) : memWf u.mem = true := by
  grind [execFwUpdateBoardRecord, hostCommand_wf]
theorem execFwUpdateFloor_wf (c : Command) (s : State) (w : memWf s.mem = true) (u : State) (h : execFwUpdateFloor c s = .next u) : memWf u.mem = true := by
  grind [execFwUpdateFloor, hostCommand_wf]
theorem execExpertGrant_wf (c : Command) (s : State) (w : memWf s.mem = true) (u : State) (h : execExpertGrant c s = .next u) : memWf u.mem = true := by
  grind [execExpertGrant, hostCommand_wf]
theorem execExpertRevoke_wf (c : Command) (s : State) (w : memWf s.mem = true) (u : State) (h : execExpertRevoke c s = .next u) : memWf u.mem = true := by
  grind [execExpertRevoke, hostCommand_wf]
theorem execTlogClear_wf (c : Command) (s : State) (w : memWf s.mem = true) (u : State) (h : execTlogClear c s = .next u) : memWf u.mem = true := by
  grind [execTlogClear, hostCommand_wf]
theorem execRealmCreate_wf (c : Command) (s : State) (w : memWf s.mem = true) (u : State) (h : execRealmCreate c s = .next u) : memWf u.mem = true := by
  grind [execRealmCreate, hostCommand_wf]
theorem execRealmDestroy_wf (c : Command) (s : State) (w : memWf s.mem = true) (u : State) (h : execRealmDestroy c s = .next u) : memWf u.mem = true := by
  grind [execRealmDestroy, hostCommand_wf]
theorem execRealmSeal_wf (c : Command) (s : State) (w : memWf s.mem = true) (u : State) (h : execRealmSeal c s = .next u) : memWf u.mem = true := by
  grind [execRealmSeal, hostCommand_wf]
theorem execRealmUnseal_wf (c : Command) (s : State) (w : memWf s.mem = true) (u : State) (h : execRealmUnseal c s = .next u) : memWf u.mem = true := by
  grind [execRealmUnseal, hostCommand_wf]
theorem execKeyRotate_wf (c : Command) (s : State) (w : memWf s.mem = true) (u : State) (h : execKeyRotate c s = .next u) : memWf u.mem = true := by
  grind [execKeyRotate, hostCommand_wf]
theorem execPageReclaim_wf (c : Command) (s : State) (w : memWf s.mem = true) (u : State) (h : execPageReclaim c s = .next u) : memWf u.mem = true := by
  grind [execPageReclaim, hostCommand_wf]
theorem execOwnerKeySet_wf (c : Command) (s : State) (w : memWf s.mem = true) (u : State) (h : execOwnerKeySet c s = .next u) : memWf u.mem = true := by
  grind [execOwnerKeySet, hostCommand_wf]
theorem execOwnerKeyClear_wf (c : Command) (s : State) (w : memWf s.mem = true) (u : State) (h : execOwnerKeyClear c s = .next u) : memWf u.mem = true := by
  grind [execOwnerKeyClear, hostCommand_wf]
theorem execDomainOpen_wf (d : Fin 96) (s : State) (w : memWf s.mem = true) (u : State) (h : execDomainOpen d s = .next u) : memWf u.mem = true := by
  grind [execDomainOpen, enableResume_mem, clusterOpened_mem, setDomain_mem, retryHeld_wf]
theorem execVauxRise_wf (mgr : Bool) (stby : Bool) (s : State) (w : memWf s.mem = true) (u : State) (h : execVauxRise mgr stby s = .next u) : memWf u.mem = true := by
  grind [execVauxRise, senseEntry_wf, restart_wf]
theorem execVauxLoss_wf (s : State) (w : memWf s.mem = true) (u : State) (h : execVauxLoss s = .next u) : memWf u.mem = true := by
  grind [execVauxLoss, setReg_mem, wiped_wf]
theorem execPwrGoodFall_wf (s : State) (w : memWf s.mem = true) (u : State) (h : execPwrGoodFall s = .next u) : memWf u.mem = true := by
  grind [execPwrGoodFall, wiped_wf, toStandby_wf]
theorem execResetNAssert_wf (s : State) (w : memWf s.mem = true) (u : State) (h : execResetNAssert s = .next u) : memWf u.mem = true := by
  grind [execResetNAssert, toStandby_wf]
theorem execPwrGoodRise_wf (mgr : Bool) (stby : Bool) (s : State) (w : memWf s.mem = true) (u : State) (h : execPwrGoodRise mgr stby s = .next u) : memWf u.mem = true := by
  grind [execPwrGoodRise, modEpf_mem, senseEntry_wf]
theorem execResetNRise_wf (mgr : Bool) (stby : Bool) (s : State) (w : memWf s.mem = true) (u : State) (h : execResetNRise mgr stby s = .next u) : memWf u.mem = true := by
  grind [execResetNRise, senseEntry_wf]
theorem execTrainComplete_wf (s : State) (w : memWf s.mem = true) (u : State) (h : execTrainComplete s = .next u) : memWf u.mem = true := by
  grind [execTrainComplete, setFld_mem, firstKey_mem, enterMode_mem, initMemory_wf]
theorem execDrainDone_wf (s : State) (w : memWf s.mem = true) (u : State) (h : execDrainDone s = .next u) : memWf u.mem = true := by
  grind [execDrainDone, toStandby_wf]
theorem execQuantumBoundary_wf (p : BitVec 16) (dies : List Nat) (s : State) (w : memWf s.mem = true) (u : State) (h : execQuantumBoundary p dies s = .next u) : memWf u.mem = true := by
  grind [execQuantumBoundary, gateSteps_mem, leaveUniform_mem, setFrequencies_mem, uniformBoundary_mem, alertUpdate_mem, clearAlarms_mem, telemetry_mem, emit_mem, setReg_mem, setFld_mem, modParasol_mem, retryHeld_wf]
theorem execPrsWrite_wf (who : Writer) (off : BitVec 26) (size : Fin 9) (v : Word) (s : State) (w : memWf s.mem = true) (u : State) (h : execPrsWrite who off size v s = .next u) : memWf u.mem = true := by
  unfold execPrsWrite at h; grind [tlpIn_mem, prsWrite_wf, barWrite_wf]

end Sys2Proof.Machine
end

