-- ==== Sys2Proof/Laws/Transfer.lean ====
section
/-! SUPPORT. What a resolved control transfer changes beside its thread's pc: the predictor, the thread's history and return stack, and
counters. -/
set_option Elab.async false
namespace Sys2Proof.Machine
open Sys2Proof

theorem predictsOnly_refl (s : State) (t : Nat) : s.predictsOnly s t :=
  ⟨rfl, samplesOnly_of_events rfl, fun _ => rfl, fun _ _ => rfl, fun _ => rfl, fun _ _ => rfl, rfl⟩

theorem predictsOnly_trans {a b c : State} {t : Nat} (h : a.predictsOnly b t) (k : b.predictsOnly c t) : a.predictsOnly c t :=
  ⟨k.1.trans h.1, samplesOnly_trans h.2.1 k.2.1, fun d => (k.2.2.1 d).trans (h.2.2.1 d), fun t' ht => (k.2.2.2.1 t' ht).trans (h.2.2.2.1 t' ht),
    fun i => (k.2.2.2.2.1 i).trans (h.2.2.2.2.1 i), fun i hi => (k.2.2.2.2.2.1 i hi).trans (h.2.2.2.2.2.1 i hi),
    k.2.2.2.2.2.2.trans h.2.2.2.2.2.2⟩

theorem unpredicted_of_unsampled {a b : Core} (h : a.unsampled = b.unsampled) : a.unpredicted = b.unpredicted := by
  have : ∀ k : Core, k.unpredicted = k.unsampled.unpredicted := fun _ => rfl
  rw [this a, this b, h]

theorem unpredicted_of_special {a b : Thread} (h : a.special = b.special) : a.unpredicted = b.unpredicted := by
  unfold Thread.unpredicted; rw [h]

theorem predictsOnly_of_onlyRegs {s u : State} {t : Nat} (h : s.onlyRegs u t) : s.predictsOnly u t := by
  refine ⟨by rw [h.1.1], h.1.2.1, fun d => ?_, h.1.2.2.1, fun c => unpredicted_of_unsampled (h.1.2.2.2 c), fun c _ => h.1.2.2.2 c,
    unpredicted_of_special h.2⟩
  have e : u.outside.dies = s.outside.dies := congrArg State.dies h.1.1
  have e : u.dies = s.dies := e
  unfold State.die; rw [e]

theorem predictsOnly_of_countsOnly {s u : State} {t : Nat} (h : s.countsOnly u t) : s.predictsOnly u t :=
  predictsOnly_of_onlyRegs ⟨h.1, by rw [h.2]⟩

theorem predictsOnly_modCore (s : State) (t : Nat) (f : Core → Core) (h : ∀ k, (f k).unpredicted = k.unpredicted) :
    s.predictsOnly (s.modCore (coreOf t) f) t := by
  refine ⟨rfl, samplesOnly_of_events rfl, fun _ => rfl, fun _ _ => rfl, fun i => ?_, fun i hi => ?_, rfl⟩
  · rw [core_modCore]
    split
    · subst_vars; exact h _
    · rfl
  · rw [core_modCore, if_neg hi]

theorem predictsOnly_modThread (s : State) (t : Nat) (f : Thread → Thread) (h : ∀ y, (f y).unpredicted = y.unpredicted) :
    s.predictsOnly (s.modThread t f) t := by
  refine ⟨rfl, samplesOnly_of_events rfl, fun _ => rfl, fun t' ht => by simp [ht], fun _ => rfl, fun _ _ => rfl, ?_⟩
  rw [modThread_thread_self]; exact h _

theorem predictsOnly_modDie (s : State) (t : Nat) (l : Tbl SfEntry) :
    s.predictsOnly (s.modDie (dieOf t) (fun d => { d with sf := l })) t := by
  refine ⟨rfl, samplesOnly_of_events rfl, fun d => ?_, fun _ _ => rfl, fun _ => rfl, fun _ _ => rfl, rfl⟩
  unfold State.modDie State.setDie State.die
  rw [Tbl_get_set]
  split
  · subst_vars; rfl
  · rfl

theorem predictsOnly_spendFree (s : State) (t : Nat) : s.predictsOnly s.spendFree t :=
  ⟨rfl, samplesOnly_of_events rfl, fun _ => rfl, fun _ _ => rfl, fun _ => rfl, fun _ _ => rfl, rfl⟩

theorem countFree_predictsOnly (s : State) (t ev n : Nat) : s.predictsOnly (s.countFree t ev n) t := by
  unfold State.countFree
  split
  · exact predictsOnly_refl s t
  · exact predictsOnly_trans (predictsOnly_of_countsOnly (countFrom_countsOnly _ _ _ _ _ _ _)) (predictsOnly_spendFree _ _)

theorem countWrongPath_predictsOnly (s : State) (t : Nat) : s.predictsOnly (s.countWrongPath t) t := by
  unfold State.countWrongPath
  split
  · have h : ∀ (l : List Nat) (u : State), u.predictsOnly (l.foldl (fun (s : State) ev => s.countFree t ev 512) u) t := by
      intro l
      induction l with
      | nil => intro u; exact predictsOnly_refl u t
      | cons a l ih => intro u; exact predictsOnly_trans (countFree_predictsOnly u t a 512) (ih _)
    exact h _ _
  · exact predictsOnly_refl _ _

/-- What wrong-path work has done to its core, thread and die stays. -/
theorem leave_predictsOnly (s : State) (t : Nat) (w : Wrong) : s.predictsOnly
    (((s.modCore (coreOf t) (fun k =>
      { k with btb := w.core.btb, btbOrder := w.core.btbOrder, t0 := w.core.t0, t1 := w.core.t1, t2 := w.core.t2,
               chooser := w.core.chooser, l1i := w.core.l1i, l1d := w.core.l1d, l2 := w.core.l2, plruI := w.core.plruI,
               plruD := w.core.plruD, plru2 := w.core.plru2, l2tlb := w.core.l2tlb, walks := w.core.walks })).modDie (dieOf t)
      (fun d => { d with sf := w.die.sf })).modThread t (fun y => { y with rstack := w.thread.rstack, rtop := w.thread.rtop })).spendFree t := by
  refine predictsOnly_trans (b := State.modThread _ t _) ?_ (predictsOnly_spendFree _ t)
  refine predictsOnly_trans (b := State.modDie _ _ _) ?_ (predictsOnly_modThread _ t _ (fun _ => rfl))
  refine predictsOnly_trans (b := s.modCore _ _) ?_ (predictsOnly_modDie _ t _)
  exact predictsOnly_modCore s t _ (fun _ => rfl)

/-- What a squashed wrong path leaves (R135). -/
theorem wrongPath_predictsOnly (s : State) (t : Nat) : s.predictsOnly (s.wrongPath t) t :=
  leave_predictsOnly s t (s.wrongAll t (Config.wrongPath s.freeCount))

theorem squash_predictsOnly (s : State) (t : Nat) : s.predictsOnly (s.squash t) t :=
  predictsOnly_trans (countWrongPath_predictsOnly s t) (wrongPath_predictsOnly _ t)

theorem mispredict_predictsOnly (s : State) (t : Nat) : s.predictsOnly (s.mispredict t) t :=
  predictsOnly_trans (predictsOnly_of_countsOnly (countEv_countsOnly s t 0x05 true)) (squash_predictsOnly _ t)

theorem unpredicted_train (c : Core) (x : PredIx) (taken : Bool) : (c.train x taken).unpredicted = c.unpredicted := rfl
theorem unpredicted_btbPut (c : Core) (pc : BitVec 57) (realm : Realm) (kind : Fin 5) (target : BitVec 57) (part : Option Nat) :
    (c.btbPut pc realm kind target part).unpredicted = c.unpredicted := by
  rfl

/-- The resolution of a conditional transfer. -/
theorem resolveCond_predictsOnly (s : State) (t : Nat) (taken : Bool) (target : BitVec 57) :
    s.predictsOnly (s.resolveCond t taken target) t := by
  unfold State.resolveCond
  dsimp only
  have h1 := predictsOnly_modThread s t (fun y => { y with history := y.history <<< 1 ||| (if taken then 1 else 0) }) (fun y => rfl)
  have h2 : ∀ (u : State) (f : Core → Core), (∀ k, (f k).unpredicted = k.unpredicted) → s.predictsOnly u t →
      s.predictsOnly ((u.modCore (coreOf t) f).countEv t 0x04) t := fun u f hf hu =>
    predictsOnly_trans hu (predictsOnly_trans (predictsOnly_modCore u t f hf) (predictsOnly_of_countsOnly (countEv_countsOnly _ _ _ _)))
  have h3 : ∀ k : Core, (if taken then (k.train (predIx (s.thread t).pc.toNat (s.thread t).history.toNat (s.thread t).part) taken).btbPut
      (s.thread t).pc (s.thread t).realm 0 target (s.thread t).part
      else k.train (predIx (s.thread t).pc.toNat (s.thread t).history.toNat (s.thread t).part) taken).unpredicted = k.unpredicted := by
    intro k
    by_cases ht : taken = true
    · rw [if_pos ht, unpredicted_btbPut, unpredicted_train]
    · rw [if_neg ht, unpredicted_train]
  have h4 := h2 _ _ h3 h1
  have h5 : ∀ (p : Prop) [Decidable p] (u : State), s.predictsOnly u t → s.predictsOnly (if p then u.mispredict t else u) t := by
    intro p _ u hu
    by_cases hp : p
    · rw [if_pos hp]; exact predictsOnly_trans hu (mispredict_predictsOnly u t)
    · rw [if_neg hp]; exact hu
  exact h5 _ _ h4

/-- The resolution of an unconditional transfer. -/
theorem resolveJump_predictsOnly (s : State) (t : Nat) (kind : Fin 5) (target : BitVec 57) :
    s.predictsOnly (s.resolveJump t kind target) t := by
  have h1 : s.predictsOnly (s.modCore (coreOf t) (fun k => k.btbPut (s.thread t).pc (s.thread t).realm kind target (s.thread t).part)) t :=
    predictsOnly_modCore s t _ (fun k => unpredicted_btbPut k _ _ _ _ _)
  have h4 : ∀ (u : State) (f : Thread → Thread), (∀ y, (f y).unpredicted = y.unpredicted) → s.predictsOnly u t →
      s.predictsOnly (u.modThread t f) t :=
    fun u f hf hu => predictsOnly_trans hu (predictsOnly_modThread u t f hf)
  have h5 : ∀ u : State, s.predictsOnly u t → s.predictsOnly (u.mispredict t) t :=
    fun u hu => predictsOnly_trans hu (mispredict_predictsOnly u t)
  have h6 : ∀ u : State, s.predictsOnly u t → s.predictsOnly (u.countEv t 0x06) t :=
    fun u hu => predictsOnly_trans hu (predictsOnly_of_countsOnly (countEv_countsOnly u t 0x06 true))
  unfold State.resolveJump
  dsimp only
  generalize (if (s.core (coreOf t)).flushing then none else
    (s.core (coreOf t)).btbHit (s.thread t).pc (s.thread t).realm (btbWays (s.thread t).part)) = hit
  generalize s.modCore (coreOf t) _ = v at h1 ⊢
  generalize s.thread t = y
  have h7 := h4 v (fun y' => y'.pushRet (linkOf y.pc)) (fun y => rfl) h1
  have h8 := h4 v (fun y' => y'.popRet) (fun y => rfl) h1
  repeat' split
  all_goals first
    | with_reducible exact h7
    | with_reducible exact h5 _ h7
    | with_reducible exact h8
    | with_reducible exact h6 _ h8
    | with_reducible exact h5 _ h8
    | with_reducible exact h6 _ (h5 _ h8)
    | with_reducible exact h1
    | with_reducible exact h5 _ h1

/-- A resolved transfer that retires to `pc` is one of control. -/
theorem retire_transfers {s u : State} {t : Nat} (h : s.predictsOnly u t) (pc : BitVec 57) (slot : Option (BitVec 57)) :
    s.transfers (u.retireTo t pc slot) t pc slot ∧ ∀ r, ((u.retireTo t pc slot).thread t).gpr r = (u.thread t).gpr r :=
  have k := retireTo_spec u t pc slot
  ⟨⟨predictsOnly_trans h (predictsOnly_of_onlyRegs k.1), k.2.2⟩, k.2.1⟩

end Sys2Proof.Machine
end

