-- ==== Sys2Proof/WellFormed.lean ====
section
/-! DEFINITION. Which commands can occur: the lengths and sizes that the spec gives their operands. Every meaning is total; no meaning
asks for this. -/
namespace Sys2Proof

/-- The size of a register access or of an uncached access (R374, R669). -/
def sizeOk (n : Nat) : Bool := decide (n = 1 ∨ n = 2 ∨ n = 4 ∨ n = 8)

/-- The payload of an inbound write: at most 4,096 bytes (R490). -/
def payloadOk (n : Nat) : Bool := decide (0 < n ∧ n ≤ 4096)

/-- A flit has fifteen slots, and brings a message for each slot in which its SSTART mask says that one begins (R320). -/
def Flit.wellFormed (f : Flit) : Bool :=
  decide (f.slots.length = 15) && decide (f.pkts.length = ((List.range 15).filter (fun i => f.tail.getLsbD (36 + i))).length)

/-- A member of an image is among the members, its manager too, or it is left out (R344, log entry 26). -/
def Assign.wellFormed (a : Assign) : Bool :=
  decide (a.members = 0) || (a.members.getLsbD a.num.toNat && a.members.getLsbD a.manager.toNat)

/-- A descriptor of the opcode, with its eleven parameter words, and with the value that the row names in bits [n:0] of P0 (R495,
R507). -/
def commandOk (c : Command) (op : Nat) (sel : Option (Nat × Nat)) : Bool :=
  decide (c.opcode.toNat = op) && decide (c.ps.length = 11) && (match sel with
    | none => true
    | some (n, v) => decide ((c.ps.getD 0 0).toNat % 2 ^ (n + 1) = v))

def Instr.wellFormed : Instr → Bool
  | .clauseClockLock => true
  | .clauseLockLoss => true
  | .syncReq _ _ _ _ => true
  | .syncRsp _ _ tm _ => decide (tm < 2 ^ 68)
  | .epoch _ => true
  | .driftCorrection xs => decide (xs.length = 4)
  | .clauseRealign _ _ => true
  | .clauseResolution => true
  | .addi _ _ _ _ => true
  | .andi _ _ _ _ => true
  | .ori _ _ _ _ => true
  | .xori _ _ _ _ => true
  | .slti _ _ _ _ => true
  | .sltiu _ _ _ _ => true
  | .lui _ _ _ => true
  | .addis _ _ _ _ => true
  | .alu _ _ _ _ _ _ => true
  | .muldiv _ _ _ _ _ _ => true
  | .shift _ _ _ _ _ _ => true
  | .beq _ _ _ _ _ => true
  | .bne _ _ _ _ _ => true
  | .blt _ _ _ _ _ => true
  | .bge _ _ _ _ _ => true
  | .bltu _ _ _ _ _ => true
  | .bgeu _ _ _ _ _ => true
  | .j _ _ _ => true
  | .jal _ _ _ => true
  | .jalr _ _ _ _ => true
  | .load _ _ _ _ _ => true
  | .store _ _ _ _ _ => true
  | .loadIndexed _ _ _ _ _ => true
  | .storeIndexed _ _ _ _ _ => true
  | .law _ _ _ => true
  | .lad _ _ _ => true
  | .srw _ _ _ => true
  | .srd _ _ _ => true
  | .pref _ _ _ _ => true
  | .aadd _ _ _ _ _ _ => true
  | .aand _ _ _ _ _ _ => true
  | .aor _ _ _ _ _ _ => true
  | .axor _ _ _ _ _ _ => true
  | .aswap _ _ _ _ _ _ => true
  | .amin _ _ _ _ _ _ => true
  | .amax _ _ _ _ _ _ => true
  | .acas _ _ _ _ _ _ _ => true
  | .vint _ _ _ _ _ _ _ => true
  | .vfp _ _ _ _ _ _ _ => true
  | .vmem _ _ _ _ _ _ _ => true
  | .vmask _ _ _ _ _ _ _ => true
  | .syscall _ => true
  | .hcall _ => true
  | .rte _ => true
  | .brk _ => true
  | .wfi _ => true
  | .renter _ _ => true
  | .tlbi _ _ _ => true
  | .syncT _ => true
  | .isync _ => true
  | .clk _ _ => true
  | .pcrd _ _ _ => true
  | .rsync _ => true
  | .rsclr _ => true
  | .waitd _ _ _ => true
  | .waitdTimeout _ => true
  | .fence _ _ => true
  | .mfc _ _ _ => true
  | .mtc _ _ _ => true
  | .cleanVa _ _ => true
  | .invVa _ _ => true
  | .clinvVa _ _ => true
  | .zeroVa _ _ => true
  | .invL1i _ _ => true
  | .cleanSw2 _ _ => true
  | .invSw2 _ _ => true
  | .clinvSw2 _ _ => true
  | .cleanSw3 _ _ => true
  | .invSw3 _ _ => true
  | .clinvSw3 _ _ => true
  | .interrupt _ _ _ _ => true
  | .timerCompare _ _ => true
  | .predctlFlush _ => true
  | .predictorFlushDone _ => true
  | .residueRetry _ _ _ => true
  | .mbDrain _ => true
  | .evictionIssue _ => true
  | .l2Scrub _ => true
  | .l3Scrub _ _ => true
  | .l2Disable _ => true
  | .l2Enable _ => true
  | .l2FlushDone _ => true
  | .l3Disable _ => true
  | .l3Enable _ => true
  | .l3FlushDone _ => true
  | .adUpdate _ => true
  | .transTlbiTimeout _ _ => true
  | .rds _ => true
  | .rdx _ => true
  | .upg _ => true
  | .rdz _ => true
  | .wbm _ _ => true
  | .evn _ => true
  | .atom _ _ => true
  | .cmo _ _ => true
  | .wrp _ _ _ => true
  | .ucrd _ off size => sizeOk size && decide (off.toNat % size = 0)
  | .ucwr _ _ _ => true
  | .ucatom _ _ => true
  | .ownchk _ => true
  | .snps _ => true
  | .snpx _ => true
  | .snpi _ => true
  | .snph _ => true
  | .snpc _ => true
  | .rdsub _ => true
  | .data _ _ _ => true
  | .datasub _ _ => true
  | .cmp _ => true
  | .cmpack _ => true
  | .refute _ => true
  | .fwdack _ _ => true
  | .snpack _ => true
  | .snpnone _ => true
  | .snpdata _ _ => true
  | .subfwd _ _ => true
  | .subdone _ _ => true
  | .wback _ => true
  | .atomrsp _ _ => true
  | .ucrsp _ _ => true
  | .ownrsp _ _ => true
  | .credit _ _ count => decide (0 < count)
  | .tlbiMessage _ _ => true
  | .tlbidone _ _ => true
  | .tlbiack _ _ => true
  | .jrnwr _ _ => true
  | .settlePointReached _ _ => true
  | .leadPointReached _ _ => true
  | .memoryReadDone _ _ _ => true
  | .cohTimeout _ _ => true
  | .directoryLookupDone _ _ _ => true
  | .ageClock => true
  | .dirScrub _ _ => true
  | .dirPortLost _ => true
  | .reshapeMigrate _ => true
  | .dataFlit _ f => f.wellFormed
  | .idleFlit _ f => f.wellFormed
  | .nakFlit _ f => f.wellFormed
  | .widthControlFlit _ f _ _ _ => f.wellFormed
  | .trainingMarker _ _ => true
  | .replayTimeout _ => true
  | .fecLockLoss _ => true
  | .laneLimit _ _ => true
  | .trlRetrain _ => true
  | .partialResetDone _ _ => true
  | .widthConfirmTimeout _ => true
  | .fullRetrainDone _ _ _ _ => true
  | .linkTrainingDone _ _ _ _ _ => true
  | .linkTrainingTimeout _ => true
  | .linkDown _ => true
  | .discover _ => true
  | .ident _ => true
  | .discoveryEnd => true
  | .assign a => a.wellFormed
  | .routeWrite _ routes => decide (routes.length = 32)
  | .routeHold => true
  | .holdDone _ => true
  | .routeSwitch => true
  | .routeChangeTimeout => true
  | .regime _ => true
  | .heartbeatPeriod => true
  | .heartbeat _ => true
  | .standbySilenceLimit => true
  | .heardReq _ => true
  | .heardRsp _ _ => true
  | .heardTimeout => true
  | .takeover _ => true
  | .heartbeatSilence => true
  | .event _ _ _ => true
  | .mirror _ => true
  | .mirrorAck => true
  | .mirrorTimeout => true
  | .haltImage _ => true
  | .cut _ _ => true
  | .cutDone _ _ => true
  | .registerRead _ _ size _ => sizeOk size.val
  | .registerWrite _ _ size _ _ => sizeOk size.val
  | .registerAnswer _ _ _ => true
  | .interruptDelivery _ _ _ _ _ => true
  | .retryLater _ => true
  | .retryLaterResend => true
  | .meshRetryExhausted => true
  | .refresh _ _ _ _ => true
  | .dimmTempPoll _ _ celsius => decide (celsius < 256)
  | .rowIdleTimeout _ _ => true
  | .prechargePowerDown _ _ => true
  | .dimmAlert _ _ _ => true
  | .pmicPowerGoodLoss _ => true
  | .phyLockLoss _ => true
  | .dramScrub _ _ _ => true
  | .cetabClear _ => true
  | .ctxcmdRead _ => true
  | .ctxcmdWrite _ => true
  | .ctxcmdEnable _ => true
  | .ctxcmdDisable _ => true
  | .ctxcmdAbort _ => true
  | .descriptorNop _ => true
  | .scanFilter _ => true
  | .project _ => true
  | .aggregate _ => true
  | .hashPartition _ => true
  | .gather _ => true
  | .copy _ => true
  | .fill _ => true
  | .crc32c _ => true
  | .segmentDone _ _ => true
  | .completionRecordWrite _ => true
  | .realmCapPeriod => true
  | .start _ _ => true
  | .stop _ _ => true
  | .bind _ _ => true
  | .unbind _ _ => true
  | .pgcmdAssign _ => true
  | .reclaim _ => true
  | .keyRotateSweep => true
  | .realmResetDone _ => true
  | .doorbellPoll words => decide (words.length = 128)
  | .commandDescriptor _ ext => decide (ext.length ≤ 2 ^ 26)
  | .ticketAccept => true
  | .commandCompletion => true
  | .nop c => commandOk c 0x01 none
  | .progress c => commandOk c 0x02 none
  | .ownerClaim c => commandOk c 0x03 none
  | .join c => commandOk c 0x10 none
  | .setRegime c => commandOk c 0x11 none
  | .modeQuiesce c => commandOk c 0x12 (some (3, 8))
  | .modeJoin c => commandOk c 0x12 (some (3, 5))
  | .modeRunI c => commandOk c 0x12 (some (3, 6))
  | .modeRunS c => commandOk c 0x12 (some (3, 7))
  | .modeDrain c => commandOk c 0x12 (some (3, 10))
  | .reset c => commandOk c 0x13 none
  | .reshape c => commandOk c 0x14 none
  | .meminit c => commandOk c 0x15 none
  | .regWrite c => commandOk c 0x16 none
  | .fwUpdateFirmware c => commandOk c 0x17 (some (1, 0))
  | .fwUpdateBoardRecord c => commandOk c 0x17 (some (1, 1))
  | .fwUpdateFloor c => commandOk c 0x17 (some (1, 2))
  | .expertGrant c => commandOk c 0x18 none
  | .expertRevoke c => commandOk c 0x19 none
  | .grantExpired => true
  | .tlogClear c => commandOk c 0x1a none
  | .realmCreate c => commandOk c 0x20 none
  | .realmDestroy c => commandOk c 0x21 none
  | .realmSeal c => commandOk c 0x22 none
  | .realmUnseal c => commandOk c 0x23 none
  | .keyRotate c => commandOk c 0x24 none
  | .pageReclaim c => commandOk c 0x25 none
  | .ownerKeySet c => commandOk c 0x30 none
  | .ownerKeyClear c => commandOk c 0x31 none
  | .peerWindowRead _ _ len => decide (0 < len.val)
  | .peerWindowWrite _ bs => payloadOk bs.length
  | .windowWrite _ _ _ => true
  | .configRequest _ _ _ => true
  | .busMasterDisable => true
  | .functionLevelReset => true
  | .perstN _ => true
  | .dStateChange _ => true
  | .epfContained _ _ => true
  | .containmentRelease => true
  | .inboundDmaWrite _ _ _ bs => payloadOk bs.length
  | .inboundDmaRead _ _ _ _ len => decide (0 < len.val)
  | .deviceReadTimeout _ => true
  | .rpContained _ _ _ => true
  | .rpRelease _ => true
  | .rpassignWrite _ _ _ _ => true
  | .bridgeFrame _ _ _ => true
  | .bridgeRetrainDone _ _ => true
  | .strobeLockLoss _ => true
  | .domainClosed _ => true
  | .meshCloseAborted _ => true
  | .domainOpen _ => true
  | .vauxRise _ _ => true
  | .vauxLoss => true
  | .pwrGoodFall => true
  | .resetNAssert => true
  | .pwrGoodRise _ _ => true
  | .resetNRise _ _ => true
  | .trainStart _ chans ports => decide (chans.length = 16) && decide (ports.length = 8)
  | .trainComplete => true
  | .quiesceCut => true
  | .quiesceTimeout => true
  | .quiesceRelease => true
  | .drainDone => true
  | .quantumBoundary _ dies => decide (dies.length = 12)
  | .sensorSample rs => decide ((rs.map (·.1)).Nodup)
  | .thermalAlarm _ _ => true
  | .thermalTrip _ _ => true
  | .powerClamp _ => true
  | .frequencyChangeDone _ => true
  | .mcWatchdog => true
  | .injectArm _ _ => true
  | .tripLogRecord => true
  | .spillCopy => true
  | .rateToken _ => true
  | .freeze _ => true
  | .freezeTimeout => true
  | .counterDump => true
  | .dumpNow => true
  | .dumpEnable => true
  | .dumpCommit => true
  | .pcevWrite _ _ _ => true
  | .pcwrite _ _ => true
  | .prsWrite _ _ size _ => sizeOk size.val
  | .illegal _ _ => true
  | .l3VictimInstall _ _ => true
  | .controllerCycle _ => true
  | .selfRefreshEntry _ => true
  | .busMasterEnable => true
  | .pcieLinkUp _ _ _ => true
  | .deviceReadCompletion _ _ _ _ => true
  | .completionTimeout => true
  | .fwUpdateDone => true
  | .noticeSpacingExpiry => true

end Sys2Proof
end

