-- ==== Sys2Proof/Tests/Slice0.lean ====
section
/-! SUPPORT. Tests: every check of WellFormed refuses an ill-formed command; a few commands with results worked out by hand from the
spec; and for each statement of Obligations.lean the witnesses of its hypotheses. -/
set_option Elab.async false
set_option maxRecDepth 1000000
namespace Sys2Proof.Tests
open Sys2Proof Sys2Proof.Machine

/-! ## Ill-formed commands -/

abbrev cmd (op : Nat) (p0 : Word) : Command := { opcode := BitVec.ofNat 16 op, target := 0xff, ps := p0 :: List.replicate 10 0 }

theorem test_wf_size : (Instr.ucrd {} 0 3).wellFormed = false ∧ (Instr.ucrd {} 4 8).wellFormed = false ∧ (Instr.ucrd {} 8 8).wellFormed = true ∧
    (Instr.registerRead {} 0 0 .clean).wellFormed = false ∧ (Instr.registerWrite {} 0 5 0 .clean).wellFormed = false ∧
    (Instr.prsWrite .host 0 6 0).wellFormed = false := by decide
theorem test_wf_exchange : (Instr.syncRsp 0 false (2 ^ 68) 0).wellFormed = false ∧ (Instr.driftCorrection []).wellFormed = false := by decide
theorem test_wf_flit : (Instr.dataFlit 0 { head := 0, slots := [0] }).wellFormed = false ∧
    (Instr.dataFlit 0 { head := 0, tail := 1 <<< 36 }).wellFormed = false ∧ (Instr.idleFlit 0 { head := 0 }).wellFormed = true ∧
    (Instr.nakFlit 0 { head := 0, slots := [] }).wellFormed = false ∧ (Instr.credit {} false 0).wellFormed = false := by decide
theorem test_wf_image : (Instr.assign { num := 3, manager := 0, members := 1, serial := 0 }).wellFormed = false ∧
    (Instr.routeWrite 0 [0]).wellFormed = false := by decide
theorem test_wf_descriptor : (Instr.nop (cmd 2 0)).wellFormed = false ∧ (Instr.nop { cmd 1 0 with ps := [] }).wellFormed = false ∧
    (Instr.modeQuiesce (cmd 0x12 5)).wellFormed = false ∧ (Instr.modeQuiesce (cmd 0x12 8)).wellFormed = true ∧
    (Instr.doorbellPoll []).wellFormed = false := by decide
theorem test_wf_payload : (Instr.peerWindowRead 0 0 0).wellFormed = false ∧ (Instr.peerWindowWrite 0 []).wellFormed = false ∧
    (Instr.inboundDmaWrite 0 0 0 []).wellFormed = false ∧ (Instr.inboundDmaRead 0 0 0 0 0).wellFormed = false := by decide
theorem test_wf_board : (Instr.trainStart [] [] []).wellFormed = false ∧ (Instr.quantumBoundary 0 [1]).wellFormed = false ∧
    (Instr.sensorSample [(3, 1), (3, 2)]).wellFormed = false ∧ (Instr.dimmTempPoll 0 0 256).wellFormed = false := by decide

/-! ## Commands on small states

`run` is a package in RUN_I that has joined an image of its own; thread 6 is at H without tables. -/

abbrev run : State := (((((State.reset.setFld regGlbMode 3 0 6).setFld regGlbMode 7 4 6).setReg regDmcTop (BitVec.ofNat 64 (2 ^ 40))).setFld
  regClkStatus 3 3 1).setFld regTrlImage 5 5 1).setFld regTrlImage 63 32 1
abbrev gprs (l : List (Nat × Word)) (s : State) : State :=
  s.modThread 6 (fun y => { y with pc := 0x1000, g := l.foldr (fun p (t : Tbl Word) => Tbl.set t p.1 p.2) [] })
/-- The state after a command. -/
def after (i : Instr) (s : State) : State := match exec i s with
  | .next u => u
  | _ => { s with vaux := !s.vaux }

-- R62: FFFF_FFFF_FFFF_FFFFh + 1 wraps; FFFFh is sign-extended.
theorem test_addi_wraps : ((after (.addi 6 4 1 1) (gprs [(1, 0xffffffffffffffff)] run)).thread 6).gpr 4 = 0 ∧
    ((after (.addi 6 4 1 0xffff) (gprs [(1, 5)] run)).thread 6).gpr 4 = 4 ∧
    ((after (.addi 6 4 1 1) (gprs [(1, 5)] run)).thread 6).pc = 0x1004 := by decide +kernel
-- R55: g0 reads as zero whatever is written.
theorem test_g0_stays : ((after (.addi 6 0 1 1) (gprs [(1, 5)] run)).thread 6).gpr 0 = 0 := by decide +kernel
-- R62: 8000h shifted left by 16 and sign-extended.
theorem test_lui_extends : ((after (.lui 6 4 0x8000) (gprs [] run)).thread 6).gpr 4 = 0xffffffff80000000 := by decide +kernel
-- 03_wemir_instruction_set.md, the fault in a delay slot: BNE g5, g6, +16 with g5 = 1 and g6 = 2 goes to its slot, then to 4010_0210h.
theorem test_bne_slot : ((after (.bne 6 true 5 6 4) ((gprs [(5, 1), (6, 2)] run).modThread 6 (fun y => { y with pc := 0x40100200 }))).thread 6).pc
      = 0x40100204 ∧
    ((after (.bne 6 true 5 6 4) ((gprs [(5, 1), (6, 2)] run).modThread 6 (fun y => { y with pc := 0x40100200 }))).thread 6).slot
      = some 0x40100210 := by decide +kernel
-- R65: not taken with A = 1, the slot is annulled.
theorem test_bne_annuls : ((after (.bne 6 true 5 6 4) (gprs [(5, 2), (6, 2)] run)).thread 6).pc = 0x1008 := by decide +kernel
-- R110, R111: SYSCALL saves the pc of the instruction and goes to the vector at S.
theorem test_syscall_saves : ((after (.syscall 6) ((gprs [] run).modThread 6 (fun y => { y with status := 0, s := { y.s with vbase := 0x8000 } }))).thread
    6).s.epc = 0x1000 := by decide +kernel
-- An instruction of thread 6 leaves its sibling as it was.
theorem test_sibling_unchanged : (after (.addi 6 4 1 1) (gprs [(1, 5)] run)).thread 7 = (gprs [(1, 5)] run).thread 7 := by decide +kernel

/-! ### Worked examples of the spec -/

abbrev pkg2 : State := (((State.reset.setFld regTrlImage 4 0 2).setFld (regDmcStatus 11) 0 0 1).setFld (regDmcStatus 0) 0 0 1)
-- 10_dram_subsystem.md, decoding one address: 1_0215_3A5C_D6C0h lies in channel 11.
theorem test_decoded_channel : pkg2.chanOf 0x102153a5cd6c0 = 11 := by decide +kernel
-- The same: bank 3, subchannel 1, bank group 7 of the channel's rank 0.
theorem test_decoded_bank : pkg2.dramBank 11 (0x2153a5cd6c0 / 64) % 256 = 3 * 64 + 1 * 8 + 7 := by decide +kernel
-- 16_thermos.md, a package-wide throttle: 2,950 MHz runs at 0.870 V and 3,000 MHz at 0.875 V.
theorem test_throttle_volts : voltOf 59 * 5 = 870 ∧ voltOf 60 * 5 = 875 := by decide
-- 20_register_space.md, a scrub enable without and with a grant: the write of C01h leaves 1800h without, and C01h with a grant of block 8.
theorem test_scrub_enable : (after (.prsWrite (.thread 7) 0x850048 8 0xc01) run).reg (regDmcScrub 5) = 0x1800 ∧
    (after (.prsWrite (.thread 7) 0x850048 8 0xc01) (((run.setFld (regTktGrant0 3) 8 8 1).setFld (regTktGrant0 3) 4 0 8).setReg (regTktGrant1 3) 99)).reg
      (regDmcScrub 5) = 0xc01 := by decide +kernel
-- 18_trip_log.md, a burst under a rate limit: an empty bucket suppresses a record of 3050h; the head stays.
abbrev burst (tokens : Nat) : State := { (run.setReg regTlgHead 0x12340) with
  log := { queue := [{ proc := 5, rank := 8, r := { clause := 325, code := 0x3050, origin := 5, realm := 0, p0 := 0, p1 := 0, p2 := 0, p3 := 0 } }]
           buckets := [(0x3050, tokens)] } }
theorem test_burst_suppressed : (after .tripLogRecord (burst 0)).reg regTlgHead = 0x12340 ∧
    (after .tripLogRecord (burst 1)).reg regTlgHead = 0x12341 ∧ (after .tripLogRecord (burst 1)).bucket 0x3050 = 0 := by decide +kernel

/-! ### Instruction words, written out from the formats of R58 and the opcode map of R61 -/

theorem test_word_addi : wordInstr 6 (BitVec.ofNat 32 (0xffff * 2 ^ 16 + 1 * 2 ^ 11 + 4 * 2 ^ 6 + 0x08)) = some (.addi 6 4 1 0xffff) := by decide
theorem test_word_load : wordInstr 6 (BitVec.ofNat 32 (0x8 * 2 ^ 16 + 1 * 2 ^ 11 + 4 * 2 ^ 6 + 0x13)) = some (.load 6 .ld 4 1 8) := by decide
theorem test_word_branch : wordInstr 6 (BitVec.ofNat 32 (2 ^ 29 + 4 * 2 ^ 16 + 6 * 2 ^ 11 + 5 * 2 ^ 6 + 0x21)) = some (.bne 6 true 5 6 4) := by decide
theorem test_word_jump : wordInstr 6 (BitVec.ofNat 32 (0xdfffffc0 + 0x28)) = some (.j 6 false (BitVec.allOnes 25)) := by decide
theorem test_word_atomic : wordInstr 6 (BitVec.ofNat 32 (0x3f * 2 ^ 26 + 3 * 2 ^ 21 + 2 * 2 ^ 16 + 1 * 2 ^ 11 + 4 * 2 ^ 6 + 0x30)) =
    some (.acas 6 true 3 4 1 2 3) := by decide
theorem test_word_system : wordInstr 6 (BitVec.ofNat 32 (3 * 2 ^ 30 + 0x30 * 2 ^ 16 + 1 * 2 ^ 11 + 0x31)) = some (.zeroVa 6 1) ∧
    wordInstr 6 (BitVec.ofNat 32 (0x31)) = some (.syscall 6) := by decide
theorem test_word_vector : wordInstr 6 (BitVec.ofNat 32 (2 * 2 ^ 24 + 1 * 2 ^ 21 + 3 * 2 ^ 16 + 2 * 2 ^ 11 + 1 * 2 ^ 6 + 0x38)) =
    some (.vint 6 0 2 1 3 2 1) := by decide
theorem test_word_illegal : wordInstr 6 0 = none ∧ wordInstr 6 0xffffffff = none ∧
    wordInstr 6 (BitVec.ofNat 32 (2 ^ 29 + 0x31)) = none := by decide

/-! ### Check functions (their standards' examples) -/

theorem test_crc32c : crc32c 0 [0x31, 0x32, 0x33, 0x34, 0x35, 0x36, 0x37, 0x38, 0x39] = 0xe3069283 := by decide +kernel
theorem test_sha256 : beNat (sha256 [0x61, 0x62, 0x63]) = 0xba7816bf8f01cfea414140de5dae2223b00361a396177a9cb410ff61f20015ad := by
  decide +kernel

/-! ## Witnesses: states and operands that meet the hypotheses of each clause of a statement -/

namespace A1
abbrev m6 : State := (((((State.reset.setFld regGlbMode 3 0 6).setFld regGlbMode 7 4 6).setReg regDmcTop (BitVec.ofNat 64 (2^40))).setFld regClkStatus 3 3 1).setFld regTrlImage 5 5 1).setFld regTrlImage 63 32 1
abbrev gg (l : List (Nat × Word)) : Tbl Word := l.foldr (fun p (t : Tbl Word) => Tbl.set t p.1 p.2) []
abbrev g (l : List (Nat × Word)) (s : State) : State := s.modThread 6 (fun y => {y with pc := 0x1000, g := gg l})
abbrev r0 : State := g [(1, 5), (2, 7), (3, 9)] m6

theorem test_witness_IntegerImmediates :
    (r0.threadExists 6 = true ∧ r0.startInstr 6 (some 0) = (r0, true)) := by decide +kernel

theorem test_witness_IntegerRegisterForms :
    (r0.threadExists 6 = true ∧ r0.startInstr 6 (some 0) = (r0, true) ∧ (0 : BitVec 5) = (0 : BitVec 5)) ∧
    (r0.threadExists 6 = true ∧ r0.startInstr 6 (some 0) = (r0, true)) ∧
    (r0.threadExists 6 = true ∧ r0.startInstr 6 (some 5) = (r0, true) ∧ (0 : BitVec 5) = (0 : BitVec 5)) ∧
    (r0.threadExists 6 = true ∧ r0.startInstr 6 (some 5) = (r0, true)) ∧
    (r0.threadExists 6 = true ∧ r0.startInstr 6 (some 0) = (r0, true) ∧ (2 : BitVec 5) ≠ (0 : BitVec 5)) ∧
    (r0.threadExists 6 = true ∧ r0.startInstr 6 (some 0) = (r0, true) ∧ (3 : BitVec 5) ≠ (0 : BitVec 5)) ∧
    (r0.threadExists 6 = true ∧ r0.startInstr 6 (some 5) = (r0, true) ∧ (3 : BitVec 5) ≠ (0 : BitVec 5)) ∧
    (r0.threadExists 6 = true ∧ r0.startInstr 6 (some 0) = (r0, true) ∧ (0 : BitVec 5) = (0 : BitVec 5)) := by
  refine ⟨?_, ?_, ?_, ?_, ?_, ?_, ?_, ?_⟩ <;> decide +kernel

def a4_4 : State := g [(1, 0x8000000000000000), (2, 0xfffffffffffffff7)] m6
def a4_5 : State := g [(1, 0x8000000000000000), (2, 0xfffffffffffffff7)] m6
theorem test_witness_ProductsAndCounts :
    (a4_4.threadExists 6 = true ∧ a4_4.startInstr 6 (some 5) = (a4_5, true)) ∧
    (a4_4.threadExists 6 = true ∧ a4_4.startInstr 6 (some 0) = (a4_5, true)) := by decide +kernel

def a5_4 : State := g [(1, 0x8000000000000000), (2, 0xffffffffffffffff)] m6
def a5_5 : State := g [(1, 0x8000000000000000), (2, 0xffffffffffffffff)] m6
theorem test_witness_Divisions :
    (a5_4.threadExists 6 = true ∧ a5_4.startInstr 6 (some 4) = (a5_5, true) ∧
      (a5_5.thread 6).gpr (1 : BitVec 5) = (9223372036854775808 : Word) ∧
      (a5_5.thread 6).gpr (2 : BitVec 5) = (18446744073709551615 : Word)) ∧
    (a5_4.threadExists 6 = true ∧ a5_4.startInstr 6 (some 4) = (a5_5, true) ∧ (a5_5.thread 6).gpr (2 : BitVec 5) ≠ (0 : Word)) ∧
    (r0.threadExists 6 = true ∧ r0.startInstr 6 (some 4) = (r0, true) ∧ (r0.thread 6).gpr (4 : BitVec 5) = (0 : Word)) := by decide +kernel

def a9_5 : State := r0.modThread 6 (fun y => {y with slot := some 0x2000})
def a9_6 : State := r0.modThread 6 (fun y => {y with slot := some 0x2000})
def b2_5 : State := g [(2, 0x8000)] m6
def b2_6 : State := g [(2, 0x8000)] m6
def b3_5 : State := r0.modThread 6 (fun y => {y with slot := some 0x2000})
def b3_6 : State := r0.modThread 6 (fun y => {y with slot := some 0x2000})
theorem test_witness_ControlTransfers :
    (r0.threadExists 6 = true ∧ r0.startInstr 6 none = (r0, true) ∧ (r0.thread 6).slot = none) ∧
    (a9_5.threadExists 6 = true ∧ a9_5.startInstr 6 none = (a9_6, true) ∧ (a9_6.thread 6).slot ≠ none) ∧
    (r0.threadExists 6 = true ∧ r0.startInstr 6 none = (r0, true) ∧ (r0.thread 6).slot = none) ∧
    (r0.threadExists 6 = true ∧ r0.startInstr 6 none = (r0, true) ∧ (r0.thread 6).slot = none ∧
      BitVec.toNat ((r0.thread 6).gpr (2 : BitVec 5)) % 4 ≠ 0) ∧
    (b2_5.threadExists 6 = true ∧ b2_5.startInstr 6 none = (b2_6, true) ∧ BitVec.toNat ((b2_6.thread 6).gpr (2 : BitVec 5)) % 4 = 0 ∧
      (b2_6.thread 6).slot = none) ∧
    (b3_5.threadExists 6 = true ∧ b3_5.startInstr 6 none = (b3_6, true) ∧ (b3_6.thread 6).slot ≠ none) := by
  refine ⟨?_, ?_, ?_, ?_, ?_, ?_⟩ <;> decide +kernel

theorem test_witness_InstructionStarts :
    (r0.threadExists 6 = true ∧ r0.canStart 6 = true ∧ (r0.thread 6).takeable = none ∧ (r0.thread 6).level = 2 ∧
      bit (r0.thread 6).h.ttbase 0 = false ∧ (r0.thread 6).ad = none ∧ BitVec.toNat (wordOfPc (r0.thread 6).pc) < 2 ^ 52 ∧
      r0.region (BitVec.toNat (wordOfPc (r0.thread 6).pc)) = Region.dram ∧ bit (r0.reg regGlbInject) 63 = false) := by decide +kernel
end A1

namespace B1
abbrev m6 : State := (((((State.reset.setFld regGlbMode 3 0 6).setFld regGlbMode 7 4 6).setReg regDmcTop (BitVec.ofNat 64 (2^40))).setFld regClkStatus 3 3 1).setFld regTrlImage 5 5 1).setFld regTrlImage 63 32 1
abbrev gg (l : List (Nat × Word)) : Tbl Word := l.foldr (fun p (t : Tbl Word) => Tbl.set t p.1 p.2) []
abbrev g (l : List (Nat × Word)) (s : State) : State := s.modThread 6 (fun y => {y with pc := 0x1000, g := gg l})
abbrev r0 : State := g [(1, 5), (2, 7), (3, 9)] m6
abbrev te : Tlb := {realm := 0, hreg := true, asn := 0, global := false, va := 0, level := 1, group := false, small := false, leaf := 0x19f}
abbrev lc (l : LineAddr) (d : Line) : Nat × CLine := (l.toNat % 2048 * 16, { line := l, st := .M, realm := 0, data := d })
abbrev rc : State := ((r0.modThread 6 (fun y => {y with h := {y.h with ttbase := 1}, g := gg [(1, 0x2038), (2, 0xfedcba9876543210), (3, 8), (4, 0x2000)]})).modCore 3 (fun k => {k with itlb := [te], dtlb := [te], l1i := [(0, {line := 0x40, data := 0})], l2 := [lc 0x40 0, lc 0x80 (BitVec.ofNat 512 (0x8182838485868788 * 2^448 + 5)), lc 0x81 0x99]})).modDie 0 (fun d => {d with creds := (upTo 32).map (fun i => (i, 4))})
abbrev rc' : State := (rc.startInstr 6 (some 2)).1
abbrev pcs (s : State) (va : Word) (n : Nat) (k : AccKind) (f : AccForm) : List Piece := match (s.pieces 6 va n k f).2 with | .ok l => l | _ => []
abbrev p2 (s : State) (va : Word) (n : Nat) (k : AccKind) (f : AccForm) : State := (s.pieces 6 va n k f).1
abbrev rd3 (s : State) (va : Word) (n : Nat) (f : AccForm) : State := ((p2 s va n .load f).readPieces 6 (pcs s va n .load f)).1
abbrev rdv (s : State) (va : Word) (n : Nat) (f : AccForm) : Nat := (((p2 s va n .load f).readPieces 6 (pcs s va n .load f)).2).getD 0
abbrev st3' (s : State) (va : Word) (n : Nat) (v : Word) (f : AccForm) (rel : Bool) : State := ((if rel then (p2 s va n .store f).closeMb 6 else p2 s va n .store f).mbStorePieces 6 v.toNat rel (pcs s va n .store f)).getD State.reset
abbrev hd' (l : List Piece) : Piece := l.headD {va := 0, pa := 0, len := 0, mt := 0}
abbrev ms (s : State) (u z : Bool): State := (s.mbStore 6 0x80 0x1234 0xff u false z).getD State.reset
abbrev rv : State := rc.modThread 6 (fun y => {y with v := [(1, BitVec.ofNat 256 0x8000000000000000000000000001ffff00020003), (2, BitVec.ofNat 256 0x7000000000000000000000000001f00f00020004)], k := [(1, 0x5)]})
abbrev rv' : State := (rv.startInstr 6 (some 6)).1

def a1_8 : State := p2 rc' 0x203a 2 .load .plain
def a1_9 : State := rd3 rc' 0x203a 2 .plain
def a1_10 : List Piece := pcs rc' 0x203a 2 .load .plain
def a1_11 : ℕ := rdv rc' 0x203a 2 .plain
def a3_8 : State := p2 rc' 0x2000 8 .load .aligned
def a3_9 : State := rd3 rc' 0x2000 8 .aligned
def a3_10 : List Piece := pcs rc' 0x2000 8 .load .aligned
def a3_11 : ℕ := rdv rc' 0x2000 8 .aligned
def a4_8 : State := p2 rc' 0x2000 4 .load .aligned
def a4_9 : State := rd3 rc' 0x2000 4 .aligned
def a4_10 : List Piece := pcs rc' 0x2000 4 .load .aligned
def a4_11 : ℕ := rdv rc' 0x2000 4 .aligned
def a5_8 : State := p2 rc' 0x2040 1 .load .plain
def a5_9 : State := rd3 rc' 0x2040 1 .plain
def a5_10 : List Piece := pcs rc' 0x2040 1 .load .plain
def a5_11 : ℕ := rdv rc' 0x2040 1 .plain
theorem test_witness_LoadsAndPrefetch :
    (rc.threadExists 6 = true ∧ rc.startInstr 6 (some 2) = (rc', true) ∧ a1_10 ≠ [] ∧ (∀ p ∈ a1_10, p.mt = 0) ∧
      a1_8.readPieces 6 a1_10 = (a1_9, some a1_11) ∧
      rc'.pieces 6 ((rc'.thread 6).gpr (1 : BitVec 5) + BitVec.signExtend 64 (2 : BitVec 16)) (loadSize LoadOp.lh) AccKind.load AccForm.plain = (a1_8, Acc.ok a1_10) ∧
      (AccForm.plain = AccForm.aligned → a1_8.mbOf 6 = [])) ∧
    (rc.threadExists 6 = true ∧ rc.startInstr 6 (some 2) = (rc', true) ∧ a3_10 ≠ [] ∧ (∀ p ∈ a3_10, p.mt = 0) ∧
      a3_8.readPieces 6 a3_10 = (a3_9, some a3_11) ∧
      rc'.pieces 6 ((rc'.thread 6).gpr (4 : BitVec 5)) (loadSize LoadOp.ld) AccKind.load AccForm.aligned = (a3_8, Acc.ok a3_10) ∧
      (AccForm.aligned = AccForm.aligned → a3_8.mbOf 6 = [])) ∧
    (rc.threadExists 6 = true ∧ rc.startInstr 6 (some 2) = (rc', true) ∧ a4_10 ≠ [] ∧ (∀ p ∈ a4_10, p.mt = 0) ∧
      a4_8.readPieces 6 a4_10 = (a4_9, some a4_11) ∧
      rc'.pieces 6 ((rc'.thread 6).gpr (4 : BitVec 5)) (loadSize LoadOp.lw) AccKind.load AccForm.aligned = (a4_8, Acc.ok a4_10) ∧
      (AccForm.aligned = AccForm.aligned → a4_8.mbOf 6 = [])) ∧
    (rc.threadExists 6 = true ∧ rc.startInstr 6 (some 2) = (rc', true) ∧ a5_10 ≠ [] ∧ (∀ p ∈ a5_10, p.mt = 0) ∧
      a5_8.readPieces 6 a5_10 = (a5_9, some a5_11) ∧
      rc'.pieces 6 ((rc'.thread 6).gpr (1 : BitVec 5) + (rc'.thread 6).gpr (3 : BitVec 5)) (loadSize LoadOp.lbu) AccKind.load AccForm.plain = (a5_8, Acc.ok a5_10) ∧
      (AccForm.plain = AccForm.aligned → a5_8.mbOf 6 = [])) ∧
    (rc.threadExists 6 = true ∧ rc.startInstr 6 (some 1) = (rc', true)) := by
  refine ⟨?_, ?_, ?_, ?_, ?_⟩ <;> decide +kernel

def b1_8 : State := p2 rc' 0x203e 8 .store .plain
def b1_9 : State := st3' rc' 0x203e 8 0xfedcba9876543210 .plain false
def b1_10 : Piece := hd' (pcs rc' 0x203e 8 .store .plain)
def b1_11 : List Piece := (pcs rc' 0x203e 8 .store .plain).tail
def b2_8 : State := p2 rc' 0x2040 1 .store .plain
def b2_9 : State := st3' rc' 0x2040 1 0xfedcba9876543210 .plain false
def b2_10 : Piece := hd' (pcs rc' 0x2040 1 .store .plain)
def b2_11 : List Piece := (pcs rc' 0x2040 1 .store .plain).tail
def b3_8 : State := p2 rc' 0x2000 4 .store .aligned
def b3_9 : State := st3' rc' 0x2000 4 0xfedcba9876543210 .aligned true
def b3_10 : Piece := hd' (pcs rc' 0x2000 4 .store .aligned)
def b3_11 : List Piece := (pcs rc' 0x2000 4 .store .aligned).tail
def b4_8 : State := p2 rc' 0x2000 8 .store .aligned
def b4_9 : State := st3' rc' 0x2000 8 0xfedcba9876543210 .aligned true
def b4_10 : Piece := hd' (pcs rc' 0x2000 8 .store .aligned)
def b4_11 : List Piece := (pcs rc' 0x2000 8 .store .aligned).tail
theorem test_witness_Stores :
    (rc.threadExists 6 = true ∧ rc.startInstr 6 (some 3) = (rc', true) ∧ b1_10.mt ≠ 2 ∧
      rc'.pieces 6 ((rc'.thread 6).gpr (1 : BitVec 5) + BitVec.signExtend 64 (6 : BitVec 16)) (storeSize StoreOp.sd) AccKind.store (if false = true then AccForm.aligned else AccForm.plain) = (b1_8, Acc.ok (b1_10 :: b1_11)) ∧
      (if false = true then b1_8.closeMb 6 else b1_8).mbStorePieces 6 (BitVec.toNat ((rc'.thread 6).gpr (2 : BitVec 5))) false (b1_10 :: b1_11) = some b1_9) ∧
    (rc.threadExists 6 = true ∧ rc.startInstr 6 (some 3) = (rc', true) ∧ b2_10.mt ≠ 2 ∧
      rc'.pieces 6 ((rc'.thread 6).gpr (1 : BitVec 5) + (rc'.thread 6).gpr (3 : BitVec 5)) (storeSize StoreOp.sb) AccKind.store (if false = true then AccForm.aligned else AccForm.plain) = (b2_8, Acc.ok (b2_10 :: b2_11)) ∧
      (if false = true then b2_8.closeMb 6 else b2_8).mbStorePieces 6 (BitVec.toNat ((rc'.thread 6).gpr (2 : BitVec 5))) false (b2_10 :: b2_11) = some b2_9) ∧
    (rc.threadExists 6 = true ∧ rc.startInstr 6 (some 3) = (rc', true) ∧ b3_10.mt ≠ 2 ∧
      rc'.pieces 6 ((rc'.thread 6).gpr (4 : BitVec 5)) 4 AccKind.store (if true = true then AccForm.aligned else AccForm.plain) = (b3_8, Acc.ok (b3_10 :: b3_11)) ∧
      (if true = true then b3_8.closeMb 6 else b3_8).mbStorePieces 6 (BitVec.toNat ((rc'.thread 6).gpr (2 : BitVec 5))) true (b3_10 :: b3_11) = some b3_9) ∧
    (rc.threadExists 6 = true ∧ rc.startInstr 6 (some 3) = (rc', true) ∧ b4_10.mt ≠ 2 ∧
      rc'.pieces 6 ((rc'.thread 6).gpr (4 : BitVec 5)) 8 AccKind.store (if true = true then AccForm.aligned else AccForm.plain) = (b4_8, Acc.ok (b4_10 :: b4_11)) ∧
      (if true = true then b4_8.closeMb 6 else b4_8).mbStorePieces 6 (BitVec.toNat ((rc'.thread 6).gpr (2 : BitVec 5))) true (b4_10 :: b4_11) = some b4_9) := by
  refine ⟨?_, ?_, ?_, ?_⟩ <;> decide +kernel

def c1_9 : State := p2 rc' 0x2000 8 .store .aligned
def c1_10 : Piece := hd' (pcs rc' 0x2000 8 .store .aligned)
theorem test_witness_FarAtomics :
    (rc.threadExists 6 = true ∧ rc.startInstr 6 (some 1) = (rc', true) ∧
      rc'.pieces 6 ((rc'.thread 6).gpr (4 : BitVec 5)) (if true = true then 8 else 4) AccKind.store AccForm.aligned = (c1_9, Acc.ok [c1_10]) ∧
      c1_10.mt = 0 ∧ c1_9.atomWaits 6 c1_10.line (0 : BitVec 2) = false ∧ c1_9.sourcesHeld = false ∧
      c1_9.credits (dieOf 6) (c1_9.chanOf (lineBase c1_10.line)) 0 ≠ 0) := by decide +kernel

theorem test_witness_AtomicResults :
    (9223372036854775808 < 2 ^ 64 ∧ 5 < 2 ^ 64 ∧ 9223372036854775808 < 2 ^ 64) := by decide +kernel

def d1_1 : State := ms rc false false
theorem test_witness_StoreMerges :
    (rc.mbStore 6 (128 : LineAddr) (4660 : Line) (255 : BitVec 64) false false false = some d1_1) ∧
    (rc.mbStore 6 (128 : LineAddr) (4660 : Line) (255 : BitVec 64) false false false = some d1_1 ∧
      (false = true ∨ ((List.filter (fun e => decide (e.line = (128 : LineAddr))) (rc.mbOf 6)).any fun e => !e.closed && decide (e.uncached = false)) = false ∨ Option.any (fun e => !e.closed && decide (e.uncached = false)) (List.filter (fun e => decide (e.line = (128 : LineAddr))) (rc.mbOf 6)).getLast? = true)) := by decide +kernel

theorem test_witness_VectorRegisters :
    (rv.threadExists 6 = true ∧ rv.startInstr 6 (some 6) = (rv', true)) ∧
    (rv.threadExists 6 = true ∧ rv.startInstr 6 (some 6) = (rv', true) ∧ BitVec.toNat (3 : BitVec 5) < 8) ∧
    (rv.threadExists 6 = true ∧ rv.startInstr 6 (some 6) = (rv', true) ∧ 8 ≤ BitVec.toNat (9 : BitVec 5)) ∧
    (rv.threadExists 6 = true ∧ rv.startInstr 6 (some 7) = (rv', true) ∧ 2 ≤ BitVec.toNat (3 : BitVec 2)) ∧
    (rv.threadExists 6 = true ∧ rv.startInstr 6 (some 7) = (rv', true) ∧ 2 ≤ BitVec.toNat (3 : BitVec 2) ∧
      (2 : BitVec 5) ≠ (0 : BitVec 5)) ∧
    (rv.threadExists 6 = true ∧ rv.startInstr 6 (some 7) = (rv', true) ∧ 2 ≤ BitVec.toNat (3 : BitVec 2) ∧
      BitVec.toNat (3 : BitVec 5) < 8) ∧
    (rv.threadExists 6 = true ∧ rv.startInstr 6 (some 6) = (rv', true) ∧ BitVec.toNat (2 : BitVec 5) < elemCount (3 : BitVec 2)) ∧
    (rv.threadExists 6 = true ∧ rv.startInstr 6 (some 6) = (rv', true)) ∧
    (rv.threadExists 6 = true ∧ rv.startInstr 6 (some 7) = (rv', true) ∧ BitVec.toNat (0 : BitVec 2) < 2) ∧
    (rv.threadExists 6 = true ∧ rv.startInstr 6 none = (rv', true) ∧ (0 : BitVec 2) = (0 : BitVec 2) ∧ (0 : BitVec 3) = (0 : BitVec 3) ∧
      BitVec.toNat (1 : BitVec 5) < 8 ∧ BitVec.toNat (2 : BitVec 5) < 8 ∧ BitVec.toNat (3 : BitVec 5) < 8) ∧
    (rv.threadExists 6 = true ∧ rv.startInstr 6 none = (rv', true) ∧ (0 : BitVec 2) = (0 : BitVec 2) ∧ (0 : BitVec 3) = (0 : BitVec 3)) ∧
    (rv.threadExists 6 = true ∧ rv.startInstr 6 (some 6) = (rv', true) ∧ BitVec.toNat (2 : BitVec 5) < elemCount (0 : BitVec 2) ∧
      (0 : BitVec 3) = (0 : BitVec 3)) ∧
    (rv.threadExists 6 = true ∧ rv.startInstr 6 (some 7) = (rv', true) ∧ 2 ≤ BitVec.toNat (2 : BitVec 2) ∧
      (0 : BitVec 5) = (0 : BitVec 5)) ∧
    (rv.threadExists 6 = true ∧ rv.startInstr 6 (some 6) = (rv', true) ∧ (0 : BitVec 5) = (0 : BitVec 5)) ∧
    (rv.threadExists 6 = true ∧ rv.startInstr 6 none = (rv', true) ∧ (0 : BitVec 2) = (0 : BitVec 2) ∧ (0 : BitVec 3) = (0 : BitVec 3) ∧
      8 ≤ BitVec.toNat (9 : BitVec 5)) ∧
    (rv.threadExists 6 = true ∧ rv.startInstr 6 (some 6) = (rv', true) ∧ elemCount (2 : BitVec 2) ≤ BitVec.toNat (31 : BitVec 5)) ∧
    (rv.threadExists 6 = true ∧ rv.startInstr 6 (some 7) = (rv', true) ∧ 2 ≤ BitVec.toNat (3 : BitVec 2) ∧
      8 ≤ BitVec.toNat (9 : BitVec 5)) ∧
    (rv.threadExists 6 = true ∧ rv.startInstr 6 none = (rv', true) ∧ (0 : BitVec 2) = (0 : BitVec 2) ∧ (0 : BitVec 3) = (0 : BitVec 3) ∧
      (0 : BitVec 5) = (0 : BitVec 5) ∧ BitVec.toNat (3 : BitVec 5) < 8) ∧
    (rv.threadExists 6 = true ∧ rv.startInstr 6 none = (rv', true) ∧ (0 : BitVec 2) = (0 : BitVec 2) ∧ (0 : BitVec 3) = (0 : BitVec 3) ∧
      (0 : BitVec 5) = (0 : BitVec 5) ∧ BitVec.toNat (1 : BitVec 5) < 8) := by
  refine ⟨?_, ?_, ?_, ?_, ?_, ?_, ?_, ?_, ?_, ?_, ?_, ?_, ?_, ?_, ?_, ?_, ?_, ?_, ?_⟩ <;> decide +kernel
end B1

namespace C1
abbrev m6 : State := (((((State.reset.setFld regGlbMode 3 0 6).setFld regGlbMode 7 4 6).setReg regDmcTop (BitVec.ofNat 64 (2^40))).setFld regClkStatus 3 3 1).setFld regTrlImage 5 5 1).setFld regTrlImage 63 32 1
abbrev gg (l : List (Nat × Word)) : Tbl Word := l.foldr (fun p (t : Tbl Word) => Tbl.set t p.1 p.2) []
abbrev g (l : List (Nat × Word)) (s : State) : State := s.modThread 6 (fun y => {y with pc := 0x1000, g := gg l})
abbrev r0 : State := g [(1, 5), (2, 7), (3, 9)] m6
abbrev te : Tlb := {realm := 0, hreg := true, asn := 0, global := false, va := 0, level := 1, group := false, small := false, leaf := 0x19f}
abbrev lc (l : LineAddr) (d : Line) : Nat × CLine := (l.toNat % 2048 * 16, { line := l, st := .M, realm := 0, data := d })
abbrev rc : State := ((r0.modThread 6 (fun y => {y with h := {y.h with ttbase := 1}, g := gg [(1, 0x2038), (2, 0xfedcba9876543210), (3, 8), (4, 0x2000)]})).modCore 3 (fun k => {k with itlb := [te], dtlb := [te], l1i := [(0, {line := 0x40, data := 0})], l2 := [lc 0x40 0, lc 0x80 (BitVec.ofNat 512 (0x8182838485868788 * 2^448 + 5)), lc 0x81 0x99]})).modDie 0 (fun d => {d with creds := (upTo 32).map (fun i => (i, 4))})
abbrev tu (l : Nat) : Tlb := {te with hreg := false, leaf := if l = 0 then 0x1bf else 0x19f}
abbrev rl (l : Nat) : State := (rc.modThread 6 (fun y => {y with status := BitVec.ofNat 64 l, s := {y.s with ttbase := 1}})).modCore 3 (fun k => {k with itlb := [tu l], dtlb := [tu l]})
abbrev rl' (l : Nat) : State := ((rl l).startInstr 6 none).1
abbrev sl (s : State) : State := s.modThread 6 (fun y => {y with slot := some 0x2000})
abbrev eb (h : Bool) (w : Word) (s : State) : State := s.modThread 6 (fun y => if h then {y with h := {y.h with estatus := w, epc := 0x4563, enpc := 0x7777}} else {y with s := {y.s with estatus := w, epc := 0x4563, enpc := 0x7777}})

theorem test_witness_TrapInstructions :
    (r0.threadExists 6 = true ∧ r0.startInstr 6 none = (r0, true) ∧ (r0.thread 6).slot = none ∧
      ¬(((r0.thread 6).level = 1 ∨ (r0.thread 6).level = 2) ∧ (r0.thread 6).exl = true)) ∧
    (r0.threadExists 6 = true ∧ r0.startInstr 6 none = (r0, true) ∧ wordInstr (6 : ThreadPos) (4294967295 : BitVec 32) = none ∧
      ¬(((r0.thread 6).level = 1 ∨ (r0.thread 6).level = 2) ∧ (r0.thread 6).exl = true)) ∧
    (r0.threadExists 6 = true ∧ r0.startInstr 6 none = (r0, true) ∧ (r0.thread 6).slot = none ∧ 1 ≤ (r0.thread 6).level ∧
      (r0.thread 6).realm = (0 : Realm) ∧ ¬((r0.thread 6).level = 2 ∧ (r0.thread 6).exl = true)) ∧
    (r0.threadExists 6 = true ∧ r0.startInstr 6 none = (r0, true) ∧ wordInstr (6 : ThreadPos) (40 : BitVec 32) ≠ none) := by
  refine ⟨?_, ?_, ?_, ?_⟩ <;> decide +kernel

def b1_3 : State := rl 0
def b1_4 : State := rl' 0
def b3_3 : State := sl r0
def b3_4 : State := sl r0
theorem test_witness_SystemInstructionGuards :
    (b1_3.threadExists 6 = true ∧ b1_3.startInstr 6 none = (b1_4, true) ∧ (b1_4.thread 6).level = 0) ∧
    (b1_3.threadExists 6 = true ∧ b1_3.startInstr 6 none = (b1_4, true) ∧ (b1_4.thread 6).level ≤ 1) ∧
    (b3_3.threadExists 6 = true ∧ b3_3.startInstr 6 none = (b3_4, true) ∧ (b3_4.thread 6).slot ≠ none) ∧
    (b3_3.threadExists 6 = true ∧ b3_3.startInstr 6 none = (b3_4, true) ∧ (b3_4.thread 6).slot ≠ none ∧ 1 ≤ (b3_4.thread 6).level) := by
  refine ⟨?_, ?_, ?_, ?_⟩ <;> decide +kernel

def b4_1 : State := eb true 0x10036 r0
def b4_2 : State := eb true 0x10036 r0
def f1_1 : State := eb false 0x2 (rl 1)
def f1_2 : State := ((eb false 0x2 (rl 1)).startInstr 6 none).1
def f2_1 : State := sl r0
def f2_2 : State := sl r0
theorem test_witness_ReturnFromException :
    (b4_1.threadExists 6 = true ∧ b4_1.startInstr 6 none = (b4_2, true) ∧ 1 ≤ (b4_2.thread 6).level ∧
      bits ((b4_2.thread 6).bank (decide ((b4_2.thread 6).level = 2))).estatus 1 0 ≤ (b4_2.thread 6).level ∧ (b4_2.thread 6).slot = none) ∧
    (f1_1.threadExists 6 = true ∧ f1_1.startInstr 6 none = (f1_2, true) ∧ 1 ≤ (f1_2.thread 6).level ∧
      (f1_2.thread 6).level < bits ((f1_2.thread 6).bank (decide ((f1_2.thread 6).level = 2))).estatus 1 0) ∧
    (f2_1.threadExists 6 = true ∧ f2_1.startInstr 6 none = (f2_2, true) ∧ 1 ≤ (f2_2.thread 6).level ∧
      bits ((f2_2.thread 6).bank (decide ((f2_2.thread 6).level = 2))).estatus 1 0 ≤ (f2_2.thread 6).level ∧ (f2_2.thread 6).slot ≠ none) := by decide +kernel

def c2_4 : State := rl 0
def c2_5 : State := rl' 0
def c3_4 : State := rl 0
def c3_5 : State := rl' 0
theorem test_witness_ReadingInstructions :
    (r0.threadExists 6 = true ∧ r0.startInstr 6 none = (r0, true)) ∧
    (r0.threadExists 6 = true ∧ r0.startInstr 6 none = (r0, true) ∧
      ctlAccess (BitVec.toNat (14 : BitVec 13)) (r0.thread 6).level = CtlAccess.open) ∧
    (r0.threadExists 6 = true ∧ r0.startInstr 6 none = (r0, true) ∧ BitVec.toNat (7 : BitVec 5) ≤ 7 ∧ 1 ≤ (r0.thread 6).level) ∧
    (r0.threadExists 6 = true ∧ r0.startInstr 6 none = (r0, true) ∧ 1 ≤ (r0.thread 6).level) ∧
    (c2_4.threadExists 6 = true ∧ c2_4.startInstr 6 none = (c2_5, true) ∧
      ctlAccess (BitVec.toNat (8191 : BitVec 13)) (c2_5.thread 6).level = CtlAccess.unassigned) ∧
    (c2_4.threadExists 6 = true ∧ c2_4.startInstr 6 none = (c2_5, true) ∧ BitVec.toNat (8 : BitVec 5) > 7) ∧
    (c3_4.threadExists 6 = true ∧ c3_4.startInstr 6 none = (c3_5, true) ∧
      ctlAccess (BitVec.toNat (0 : BitVec 13)) (c3_5.thread 6).level = CtlAccess.closed) := by
  refine ⟨?_, ?_, ?_, ?_, ?_, ?_, ?_⟩ <;> decide +kernel

def d3_3 : State := g [(2, 0xfedcba9876543210)] m6
def d3_4 : State := g [(2, 0xfedcba9876543210)] m6
def d4_3 : State := g [(2, 0xfedcba9876543210)] m6
def d4_4 : State := g [(2, 0xfedcba9876543210)] m6
def d5_3 : State := g [(2, 0xfedcba9876543210)] m6
def d5_4 : State := g [(2, 0xfedcba9876543210)] m6
def d6_3 : State := rl 0
def d6_4 : State := rl' 0
def d7_3 : State := rl 0
def d7_4 : State := rl' 0
theorem test_witness_ControlRegisterWrites :
    (r0.threadExists 6 = true ∧ r0.startInstr 6 none = (r0, true) ∧ (0 : BitVec 13) = (0 : BitVec 13) ∧ 1 ≤ (r0.thread 6).level) ∧
    (r0.threadExists 6 = true ∧ r0.startInstr 6 none = (r0, true) ∧ (3 : BitVec 13) = (3 : BitVec 13)) ∧
    (d3_3.threadExists 6 = true ∧ d3_3.startInstr 6 none = (d3_4, true) ∧ (13 : BitVec 13) = (13 : BitVec 13) ∧ 1 ≤ (d3_4.thread 6).level ∧
      (d3_4.thread 6).level ≤ 2) ∧
    (d4_3.threadExists 6 = true ∧ d4_3.startInstr 6 none = (d4_4, true) ∧ (14 : BitVec 13) = (14 : BitVec 13) ∧ 1 ≤ (d4_4.thread 6).level ∧
      (d4_4.thread 6).level ≤ 2) ∧
    (d5_3.threadExists 6 = true ∧ d5_3.startInstr 6 none = (d5_4, true) ∧ (16 : BitVec 13) = (16 : BitVec 13) ∧ 1 ≤ (d5_4.thread 6).level ∧
      (d5_4.thread 6).level ≤ 2) ∧
    (d6_3.threadExists 6 = true ∧ d6_3.startInstr 6 none = (d6_4, true) ∧
      ctlAccess (BitVec.toNat (0 : BitVec 13)) (d6_4.thread 6).level = CtlAccess.closed) ∧
    (d7_3.threadExists 6 = true ∧ d7_3.startInstr 6 none = (d7_4, true) ∧
      ctlAccess (BitVec.toNat (8191 : BitVec 13)) (d7_4.thread 6).level = CtlAccess.unassigned) := by
  refine ⟨?_, ?_, ?_, ?_, ?_, ?_, ?_⟩ <;> decide +kernel
end C1

namespace C2
abbrev m6 : State := (((((State.reset.setFld regGlbMode 3 0 6).setFld regGlbMode 7 4 6).setReg regDmcTop (BitVec.ofNat 64 (2^40))).setFld regClkStatus 3 3 1).setFld regTrlImage 5 5 1).setFld regTrlImage 63 32 1
abbrev gg (l : List (Nat × Word)) : Tbl Word := l.foldr (fun p (t : Tbl Word) => Tbl.set t p.1 p.2) []
abbrev g (l : List (Nat × Word)) (s : State) : State := s.modThread 6 (fun y => {y with pc := 0x1000, g := gg l})
abbrev r0 : State := g [(1, 5), (2, 7), (3, 9)] m6
abbrev te : Tlb := {realm := 0, hreg := true, asn := 0, global := false, va := 0, level := 1, group := false, small := false, leaf := 0x19f}
abbrev lc (l : LineAddr) (d : Line) : Nat × CLine := (l.toNat % 2048 * 16, { line := l, st := .M, realm := 0, data := d })
abbrev rc : State := ((r0.modThread 6 (fun y => {y with h := {y.h with ttbase := 1}, g := gg [(1, 0x2038), (2, 0xfedcba9876543210), (3, 8), (4, 0x2000)]})).modCore 3 (fun k => {k with itlb := [te], dtlb := [te], l1i := [(0, {line := 0x40, data := 0})], l2 := [lc 0x40 0, lc 0x80 (BitVec.ofNat 512 (0x8182838485868788 * 2^448 + 5)), lc 0x81 0x99]})).modDie 0 (fun d => {d with creds := (upTo 32).map (fun i => (i, 4))})
abbrev tu (l : Nat) : Tlb := {te with hreg := false, leaf := if l = 0 then 0x1bf else 0x19f}
abbrev rl (l : Nat) : State := (rc.modThread 6 (fun y => {y with status := BitVec.ofNat 64 l, s := {y.s with ttbase := 1}})).modCore 3 (fun k => {k with itlb := [tu l], dtlb := [tu l]})
abbrev rl' (l : Nat) : State := ((rl l).startInstr 6 none).1
abbrev rg (w : Word) (s : State) : State := s.modThread 6 (fun y => {y with g := gg [(2, w), (1, 0x2000), (29, 0x2000), (5, 0)]})
abbrev rs' (s : State) : State := (s.startInstr 6 none).1
abbrev rt (s : State) : State := s.modThread 6 (fun y => {y with pendS := [.timer], tlbis := [{seq := 3, issued := 0, left := [0], args := { issuer := s.tidOf 6, realm := 0, control := 0, va := 5, seq := 3 }}]})
abbrev op (s : State) : State × Acc := (rs' s).onePiece 6 ((s.thread 6).gpr 1) 1 .load .watch true
abbrev op1 (s : State) : Piece := match (op s).2 with | .ok [p] => p | _ => {va := 0, pa := 0, len := 0, mt := 0}
abbrev ll (s : State) : State × Option Line := (op s).1.loadLine 6 (op1 s).line ((op s).1.thread 6).realm
abbrev fr (s : State) := (rs' s).frames 6 (((rs' s).thread 6).gpr 29) 7

def a1_3 : State := rg 0xffffffffff0f7f02 (rl 1)
def a1_4 : State := rs' (rg 0xffffffffff0f7f02 (rl 1))
def a2_3 : State := rg 0x0007ffffffffffff (rl 1)
def a2_4 : State := rs' (rg 0x0007ffffffffffff (rl 1))
theorem test_witness_ControlRegisterWrites_2 :
    (a1_3.threadExists 6 = true ∧ a1_3.startInstr 6 none = (a1_4, true) ∧ (a1_4.thread 6).level = 1) ∧
    (a1_3.threadExists 6 = true ∧ a1_3.startInstr 6 none = (a1_4, true) ∧ 1 ≤ (a1_4.thread 6).level) ∧
    (a2_3.threadExists 6 = true ∧ a2_3.startInstr 6 none = (a2_4, true) ∧ 1 ≤ (a2_4.thread 6).level ∧
      bits ((a2_4.thread 6).gpr (2 : BitVec 5)) 50 48 = 7 ∧ a2_4.counterVisible 6 (coreOf 6 * 8 + 7) = true ∧
      bits (a2_4.pccS (coreOf 6 * 8 + 7)) 33 24 = BitVec.toNat (a2_4.thread 6).realm ∧
      ∀ q < 8, bit (a2_4.pccS (coreOf 6 * 8 + q)) 12 = false) := by decide +kernel

def b2_4 : State := rl 1
def b2_5 : State := rl' 1
def b3_4 : State := rt rc
def b3_5 : State := rs' (rt rc)
def c1_3 : State := (rg 0 rc)
def c1_4 : State := rs' (rg 0 rc)
def c1_5 : State := (op (rg 0 rc)).1
def c1_6 : State := (ll (rg 0 rc)).1
def c1_7 : Piece := op1 (rg 0 rc)
def c1_8 : Line := (ll (rg 0 rc)).2.getD 0
def c2_3 : State := (rg 0 rc)
def c2_4 : State := rs' (rg 0 rc)
def c2_5 : State := (fr (rg 0 rc)).1
def c2_9 : List Word := (match (fr (rg 0 rc)).2 with | some x => x.1 | none => [])
def c2_10 : ℕ := (match (fr (rg 0 rc)).2 with | some x => x.2 | none => 9)
def c3_3 : State := (rg 0 r0)
def c3_4 : State := rs' (rg 0 r0)
def c3_5 : State := (op (rg 0 r0)).1
def c3_7 : Piece := op1 (rg 0 r0)
def c4_3 : State := (rt (rg 0 rc))
def c4_4 : State := rs' (rt (rg 0 rc))
def c4_5 : State := (op (rt (rg 0 rc))).1
def c4_7 : Piece := op1 (rt (rg 0 rc))
def c5_3 : State := {((rg 0 rc).modThread 6 (fun y => {y with wait := .waitd 0x80 (some 77) 5})) with clause := 77}
theorem test_witness_WaitingInstructions :
    (r0.threadExists 6 = true ∧ r0.startInstr 6 none = (r0, true) ∧ 1 ≤ (r0.thread 6).level ∧ (r0.thread 6).slot = none) ∧
    (r0.threadExists 6 = true ∧ r0.startInstr 6 none = (r0, true) ∧ 1 ≤ (r0.thread 6).level ∧ (r0.thread 6).tlbis.length < 8) ∧
    (r0.threadExists 6 = true ∧ r0.startInstr 6 none = (r0, true) ∧ 1 ≤ (r0.thread 6).level ∧ (r0.thread 6).tlbis = []) ∧
    (r0.threadExists 6 = true ∧ r0.startInstr 6 none = (r0, true) ∧ BitVec.getLsbD (15 : BitVec 4) 3 = true ∧ r0.mbOf 6 = [] ∧
      r0.devicePending 6 = false) ∧
    (b2_4.threadExists 6 = true ∧ b2_4.startInstr 6 none = (b2_5, true) ∧ BitVec.getLsbD (7 : BitVec 4) 3 = false) ∧
    (b3_4.threadExists 6 = true ∧ b3_4.startInstr 6 none = (b3_5, true) ∧ 1 ≤ (b3_5.thread 6).level ∧ (b3_5.thread 6).tlbis ≠ []) ∧
    (c1_3.threadExists 6 = true ∧ c1_3.startInstr 6 none = (c1_4, true) ∧
      c1_4.onePiece 6 ((c1_4.thread 6).gpr (1 : BitVec 5)) 1 AccKind.load AccForm.watch true = (c1_5, Acc.ok [c1_7]) ∧
      (c1_5.thread 6).refused = none ∧ c1_7.mt = 0 ∧ (c1_5.thread 6).pendingAny = false ∧
      c1_5.loadLine 6 c1_7.line (c1_5.thread 6).realm = (c1_6, some c1_8)) ∧
    (c2_3.threadExists 6 = true ∧ c2_3.startInstr 6 none = (c2_4, true) ∧
      c2_4.frames 6 ((c2_4.thread 6).gpr (29 : BitVec 5)) 7 = (c2_5, some (c2_9, c2_10))) ∧
    (c3_3.threadExists 6 = true ∧ c3_3.startInstr 6 none = (c3_4, true) ∧
      c3_4.onePiece 6 ((c3_4.thread 6).gpr (1 : BitVec 5)) 1 AccKind.load AccForm.watch true = (c3_5, Acc.ok [c3_7]) ∧
      (c3_5.thread 6).refused = none ∧ c3_7.mt ≠ 0) ∧
    (c4_3.threadExists 6 = true ∧ c4_3.startInstr 6 none = (c4_4, true) ∧
      c4_4.onePiece 6 ((c4_4.thread 6).gpr (1 : BitVec 5)) 1 AccKind.load AccForm.watch true = (c4_5, Acc.ok [c4_7]) ∧
      (c4_5.thread 6).refused = none ∧ c4_7.mt = 0 ∧ (c4_5.thread 6).pendingAny = true) ∧
    (c5_3.threadExists 6 = true ∧ c5_3.running = true ∧
      (c5_3.thread 6).wait = Wait.waitd (128 : LineAddr) (some (77 : Word)) (5 : BitVec 5) ∧
      BitVec.toNat (77 : Word) ≤ BitVec.toNat c5_3.clause) := by
  refine ⟨?_, ?_, ?_, ?_, ?_, ?_, ?_, ?_, ?_, ?_, ?_⟩ <;> decide +kernel
end C2

namespace D1
abbrev m6 : State := (((((State.reset.setFld regGlbMode 3 0 6).setFld regGlbMode 7 4 6).setReg regDmcTop (BitVec.ofNat 64 (2^40))).setFld regClkStatus 3 3 1).setFld regTrlImage 5 5 1).setFld regTrlImage 63 32 1
abbrev gg (l : List (Nat × Word)) : Tbl Word := l.foldr (fun p (t : Tbl Word) => Tbl.set t p.1 p.2) []
abbrev g (l : List (Nat × Word)) (s : State) : State := s.modThread 6 (fun y => {y with pc := 0x1000, g := gg l})
abbrev r0 : State := g [(1, 5), (2, 7), (3, 9)] m6
abbrev te : Tlb := {realm := 0, hreg := true, asn := 0, global := false, va := 0, level := 1, group := false, small := false, leaf := 0x19f}
abbrev lc (l : LineAddr) (d : Line) : Nat × CLine := (l.toNat % 2048 * 16, { line := l, st := .M, realm := 0, data := d })
abbrev rc : State := ((r0.modThread 6 (fun y => {y with h := {y.h with ttbase := 1}, g := gg [(1, 0x2038), (2, 0xfedcba9876543210), (3, 8), (4, 0x2000)]})).modCore 3 (fun k => {k with itlb := [te], dtlb := [te], l1i := [(0, {line := 0x40, data := 0})], l2 := [lc 0x40 0, lc 0x80 (BitVec.ofNat 512 (0x8182838485868788 * 2^448 + 5)), lc 0x81 0x99]})).modDie 0 (fun d => {d with creds := (upTo 32).map (fun i => (i, 4))})
abbrev tu (l : Nat) : Tlb := {te with hreg := false, leaf := if l = 0 then 0x1bf else 0x19f}
abbrev rl (l : Nat) : State := (rc.modThread 6 (fun y => {y with status := BitVec.ofNat 64 l, s := {y.s with ttbase := 1}})).modCore 3 (fun k => {k with itlb := [tu l], dtlb := [tu l]})
abbrev rs' (s : State) : State := (s.startInstr 6 none).1
abbrev rgs (l : List (Nat × Word)) (s : State) : State := s.modThread 6 (fun y => {y with g := gg l}) -- RealmEntry: block at 0x8000 (lines 0x200..0x217), realm 5 running, bound
abbrev blk : List (Nat × CLine) := (upTo 24).map (fun i => let x := lc (BitVec.ofNat 46 (0x200 + i)) (if i = 3 then BitVec.ofNat 512 (0x77 * 2^(64*6) + 1 * 2^(64*7)) else if i = 20 then BitVec.ofNat 512 (0x4000 * 2^(64*4)) else 0); (x.1, {x.2 with realm := 5}))
abbrev re : State := (((((rgs [(1, 5)] r0).modCore 3 (fun k => {k with l2 := blk})).setFld (regRlmTable0 5) 18 16 2).setFld (regRlmBind0 6) 16 16 1).setFld (regRlmBind0 6) 9 0 5).setFld (regRlmBind1 6) 51 6 0x200
abbrev rr := re.readCtx 6 (re.ctxBase 6) 5 0 24
abbrev rv : State := rc.modThread 6 (fun y => {y with v := [(1, BitVec.ofNat 256 0x8000000000000000000000000001ffff00020003), (2, BitVec.ofNat 256 0x7000000000000000000000000001f00f00020004)], k := [(1, 0x5)]})
abbrev rv' : State := (rv.startInstr 6 (some 1)).1
abbrev va (st : AccKind) (k : BitVec 3) := rv'.vecPieces 6 (fun i => 0x2038 + BitVec.ofNat 64 (i * 4)) 4 st false ((upTo (elemCount 2)).filter (active ((rv'.thread 6).mask k)))
abbrev sld (q : State) : State := (((q.setFld (regRlmTable0 5) 32 32 1).setFld (regRlmBind0 7) 16 16 1).setFld (regRlmBind0 7) 9 0 5).setFld (regRlmBind1 7) 51 6 0x200
abbrev rg1 : State := re.modThread 7 (fun y => { y with renter := some 5 })
abbrev rr1 (q : State) := q.readCtx 6 (q.ctxBase 6) 5 0 24
abbrev rr2 (q : State) := (rr1 q).1.readCtx 7 ((rr1 q).1.ctxBase 7) 5 0 24
abbrev cp (s : State) (k : AccKind) := (rs' s).cachePiece 6 (((rs' s).thread 6).gpr 1) k (if k = .load then .plain else .vector)
abbrev cp1 (s : State) (k : AccKind) : Piece := match (cp s k).2 with | .ok [p] => p | _ => {va := 0, pa := 0, len := 0, mt := 0}
abbrev cl : CLine := (lc 0x80 5).2
abbrev l3s (st : CState) : State := rc.modDie 0 (fun d => {d with l3 := [((3 * 4096 + 7) * 16 + 2, {cl with st := st, line := 0x12345})]})
abbrev mbe : MbEntry := { line := 0x80, data := 0x12, mask := 0xff, thread := 0, realm := 0 }
abbrev rcm : State := rc.modCore 3 (fun k => {k with mb := [mbe]})
abbrev u0 : State := rgs [(1, 0x2000)] r0
abbrev c6l : CLine := { (lc 0x80 (BitVec.ofNat 512 (0x8182838485868788 * 2^448 + 5))).2 with st := .S }
abbrev rS : State := (rgs [(1, 0x800000)] rc).modCore 3 (fun k => {k with l2 := [lc 0x40 0, (0x80 * 16, c6l)]})

def a1b_2 : State := rgs [(1, 6)] re
def a1b_3 : State := rgs [(1, 6)] re
def a1c_2 : State := rgs [(1, 0)] re
def a1c_3 : State := rgs [(1, 0)] re
theorem test_witness_RealmEntry :
    (a1b_2.threadExists 6 = true ∧ a1b_2.startInstr 6 none = (a1b_3, true) ∧ (a1b_3.thread 6).level = 2 ∧ (a1b_3.thread 6).slot = none ∧
      (a1b_3.realmState (bits ((a1b_3.thread 6).gpr (1 : BitVec 5)) 9 0) ≠ realmRunning ∨ a1b_3.realmHalted (bits ((a1b_3.thread 6).gpr (1 : BitVec 5)) 9 0) = true)) ∧
    (a1c_2.threadExists 6 = true ∧ a1c_2.startInstr 6 none = (a1c_3, true) ∧ (a1c_3.thread 6).level = 2 ∧ (a1c_3.thread 6).slot = none ∧
      a1c_3.realmState (bits ((a1c_3.thread 6).gpr (1 : BitVec 5)) 9 0) = realmRunning ∧
      a1c_3.realmHalted (bits ((a1c_3.thread 6).gpr (1 : BitVec 5)) 9 0) = false ∧
      (bits ((a1c_3.thread 6).gpr (1 : BitVec 5)) 9 0 = 0 ∨ a1c_3.boundTo 6 (bits ((a1c_3.thread 6).gpr (1 : BitVec 5)) 9 0) = false ∨ (a1c_3.core (coreOf 6)).fenced = true)) := by decide +kernel

def b1_3 : State := rs' rc
def b1_4 : State := (cp rc .load).1
def b1_5 : State := ((cp rc .load).1.mbStore 6 (cp1 rc .load).line 0 (BitVec.allOnes 64) false true true).getD rc
def b1_6 : Piece := cp1 rc .load
def b3_2 : State := (rgs [(1, 0x2000)] r0)
def b3_3 : State := rs' (rgs [(1, 0x2000)] r0)
def b3_4 : State := (cp (rgs [(1, 0x2000)] r0) .load).1
def b3_6 : Piece := cp1 (rgs [(1, 0x2000)] r0) .load
def b5_2 : State := (rl 0)
def b5_3 : State := rs' (rl 0)
def c1_2 : State := rgs [(1, 0x10000)] rc
def c1_3 : State := rs' (rgs [(1, 0x10000)] rc)
def c1_6 : ℕ × ℕ × ℕ := (0, 1, 0)
def c2_2 : State := rgs [(1, 0x10000)] (rl 1)
def c2_3 : State := rs' (rgs [(1, 0x10000)] (rl 1))
def c2_6 : ℕ × ℕ × ℕ := (0, 1, 0)
def c3_2 : State := rgs [(1, 0x1000)] rc
def c3_3 : State := rs' (rgs [(1, 0x1000)] rc)
def c4_2 : State := rgs [(1, 0x800000)] rc
def c4_3 : State := rs' (rgs [(1, 0x800000)] rc)
def c4_6 : ℕ × ℕ × ℕ := (0, 128, 0)
def c4_7 : CLine := (lc 0x80 (BitVec.ofNat 512 (0x8182838485868788 * 2^448 + 5))).2
def c4_8 : Core := ((((rs' (rgs [(1, 0x800000)] rc)).core 3).evict (lc 0x80 (BitVec.ofNat 512 (0x8182838485868788 * 2^448 + 5))).2 true).getD {})
def c5_2 : State := rgs [(1, 0x300070002)] (l3s .M)
def c5_3 : State := rs' (rgs [(1, 0x300070002)] (l3s .M))
def c5_4 : State := (((rs' (rgs [(1, 0x300070002)] (l3s .M))).l3Evict 0 {cl with st := .M, line := 0x12345}).getD rc)
def c5_6 : ℕ × ℕ × ℕ := (2, 7, 3)
def c5_7 : CLine := {cl with st := .M, line := 0x12345}
def y1_3 : State := rs' rcm
def y1_4 : State := (cp rcm .load).1
def y1_6 : Piece := cp1 rcm .load
def y3_3 : State := rs' u0
def y3_4 : State := ((rs' u0).translate 6 0x2000 .store).1
def y4_2 : State := rgs [(1, 0x800000)] rS
def y4_3 : State := rs' (rgs [(1, 0x800000)] rS)
def y4_6 : ℕ × ℕ × ℕ := (0, 128, 0)
theorem test_witness_CacheInstructions :
    (rc.threadExists 6 = true ∧ rc.startInstr 6 none = (b1_3, true) ∧
      b1_3.cachePiece 6 ((b1_3.thread 6).gpr (1 : BitVec 5)) AccKind.load AccForm.plain = (b1_4, Acc.ok [b1_6]) ∧ b1_6.mt = 0 ∧
      ((b1_4.mbOf 6).any fun e => decide (e.line = b1_6.line)) = false ∧ b1_4.sourcesHeld = false ∧
      b1_4.credits (dieOf 6) (b1_4.chanOf (lineBase b1_6.line)) 0 ≠ 0) ∧
    (rc.threadExists 6 = true ∧ rc.startInstr 6 none = (b1_3, true) ∧
      b1_3.cachePiece 6 ((b1_3.thread 6).gpr (1 : BitVec 5)) AccKind.load AccForm.plain = (b1_4, Acc.ok [b1_6]) ∧ b1_6.mt = 0 ∧
      ((b1_4.mbOf 6).any fun e => decide (e.line = b1_6.line)) = false ∧ b1_4.sourcesHeld = false ∧
      b1_4.credits (dieOf 6) (b1_4.chanOf (lineBase b1_6.line)) 0 ≠ 0 ∧ 1 ≤ (b1_3.thread 6).level) ∧
    (rc.threadExists 6 = true ∧ rc.startInstr 6 none = (b1_3, true) ∧
      b1_3.cachePiece 6 ((b1_3.thread 6).gpr (1 : BitVec 5)) AccKind.load AccForm.plain = (b1_4, Acc.ok [b1_6]) ∧
      ((b1_4.mbOf 6).any fun e => decide (e.line = b1_6.line)) = false) ∧
    (rc.threadExists 6 = true ∧ rc.startInstr 6 none = (b1_3, true) ∧
      b1_3.cachePiece 6 ((b1_3.thread 6).gpr (1 : BitVec 5)) AccKind.store AccForm.vector = (b1_4, Acc.ok [b1_6]) ∧
      ((b1_4.mbOf 6).any fun e => decide (e.line = b1_6.line)) = false ∧
      b1_4.mbStore 6 b1_6.line (0 : Line) (BitVec.allOnes 64) false true true = some b1_5) ∧
    (b3_2.threadExists 6 = true ∧ b3_2.startInstr 6 none = (b3_3, true) ∧
      b3_3.cachePiece 6 ((b3_3.thread 6).gpr (1 : BitVec 5)) AccKind.load AccForm.plain = (b3_4, Acc.ok [b3_6]) ∧ b3_6.mt ≠ 0) ∧
    (b3_2.threadExists 6 = true ∧ b3_2.startInstr 6 none = (b3_3, true) ∧
      b3_3.cachePiece 6 ((b3_3.thread 6).gpr (1 : BitVec 5)) AccKind.load AccForm.plain = (b3_4, Acc.ok [b3_6]) ∧ b3_6.mt ≠ 0 ∧
      1 ≤ (b3_3.thread 6).level) ∧
    (b5_2.threadExists 6 = true ∧ b5_2.startInstr 6 none = (b5_3, true) ∧ (b5_3.thread 6).level = 0) ∧
    (c1_2.threadExists 6 = true ∧ c1_2.startInstr 6 none = (c1_3, true) ∧
      swDescriptor ((c1_3.thread 6).gpr (1 : BitVec 5)) false = some c1_6 ∧ (c1_3.thread 6).level = 2 ∧
      (if false = true then (c1_3.die (dieOf 6)).l3.find ((c1_6.2.2 * 4096 + c1_6.2.1) * 16 + c1_6.1) else (c1_3.core (coreOf 6)).l2.find (c1_6.2.1 * 16 + c1_6.1)) = none) ∧
    (c2_2.threadExists 6 = true ∧ c2_2.startInstr 6 none = (c2_3, true) ∧
      swDescriptor ((c2_3.thread 6).gpr (1 : BitVec 5)) false = some c2_6 ∧ (c2_3.thread 6).level < 2) ∧
    (c3_2.threadExists 6 = true ∧ c3_2.startInstr 6 none = (c3_3, true) ∧ swDescriptor ((c3_3.thread 6).gpr (1 : BitVec 5)) false = none) ∧
    (c4_2.threadExists 6 = true ∧ c4_2.startInstr 6 none = (c4_3, true) ∧
      swDescriptor ((c4_3.thread 6).gpr (1 : BitVec 5)) false = some c4_6 ∧ (c4_3.thread 6).level = 2 ∧
      (if false = true then (c4_3.die (dieOf 6)).l3.find ((c4_6.2.2 * 4096 + c4_6.2.1) * 16 + c4_6.1) else (c4_3.core (coreOf 6)).l2.find (c4_6.2.1 * 16 + c4_6.1)) = some c4_7 ∧
      (c4_7.st = CState.M ∨ c4_7.st = CState.O) ∧ c4_3.sourcesHeld = false ∧
      c4_3.credits (dieOf 6) (c4_3.chanOf (lineBase c4_7.line)) 0 ≠ 0) ∧
    (c4_2.threadExists 6 = true ∧ c4_2.startInstr 6 none = (c4_3, true) ∧
      swDescriptor ((c4_3.thread 6).gpr (1 : BitVec 5)) false = some c4_6 ∧ (c4_3.thread 6).level = 2 ∧
      (if false = true then (c4_3.die (dieOf 6)).l3.find ((c4_6.2.2 * 4096 + c4_6.2.1) * 16 + c4_6.1) else (c4_3.core (coreOf 6)).l2.find (c4_6.2.1 * 16 + c4_6.1)) = some c4_7 ∧
      false = false ∧ c4_7.frozen = false ∧ (c4_3.core (coreOf 6)).evict c4_7 true = some c4_8) ∧
    (c5_2.threadExists 6 = true ∧ c5_2.startInstr 6 none = (c5_3, true) ∧
      swDescriptor ((c5_3.thread 6).gpr (1 : BitVec 5)) true = some c5_6 ∧ (c5_3.thread 6).level = 2 ∧
      (if true = true then (c5_3.die (dieOf 6)).l3.find ((c5_6.2.2 * 4096 + c5_6.2.1) * 16 + c5_6.1) else (c5_3.core (coreOf 6)).l2.find (c5_6.2.1 * 16 + c5_6.1)) = some c5_7 ∧
      true = true ∧ c5_3.l3Evict (dieOf 6) c5_7 = some c5_4) ∧
    (rcm.threadExists 6 = true ∧ rcm.startInstr 6 none = (y1_3, true) ∧
      y1_3.cachePiece 6 ((y1_3.thread 6).gpr (1 : BitVec 5)) AccKind.load AccForm.plain = (y1_4, Acc.ok [y1_6]) ∧
      ¬((y1_4.mbOf 6).any fun e => decide (e.line = y1_6.line)) = false) ∧
    (rcm.threadExists 6 = true ∧ rcm.startInstr 6 none = (y1_3, true) ∧
      y1_3.cachePiece 6 ((y1_3.thread 6).gpr (1 : BitVec 5)) AccKind.load AccForm.plain = (y1_4, Acc.ok [y1_6]) ∧
      ¬((y1_4.mbOf 6).any fun e => decide (e.line = y1_6.line)) = false ∧ y1_6.mt = 0) ∧
    (rcm.threadExists 6 = true ∧ rcm.startInstr 6 none = (y1_3, true) ∧
      y1_3.cachePiece 6 ((y1_3.thread 6).gpr (1 : BitVec 5)) AccKind.load AccForm.plain = (y1_4, Acc.ok [y1_6]) ∧
      ¬((y1_4.mbOf 6).any fun e => decide (e.line = y1_6.line)) = false ∧ y1_6.mt = 0 ∧ 1 ≤ (y1_3.thread 6).level) ∧
    (rcm.threadExists 6 = true ∧ rcm.startInstr 6 none = (y1_3, true) ∧
      y1_3.cachePiece 6 ((y1_3.thread 6).gpr (1 : BitVec 5)) AccKind.store AccForm.vector = (y1_4, Acc.ok [y1_6]) ∧
      ¬((y1_4.mbOf 6).any fun e => decide (e.line = y1_6.line)) = false) ∧
    (u0.threadExists 6 = true ∧ u0.startInstr 6 none = (y3_3, true) ∧
      y3_3.translate 6 ((y3_3.thread 6).gpr (1 : BitVec 5)) AccKind.store = (y3_4, Tr.ok 8192 1) ∧ 1 ≠ 0) ∧
    (y4_2.threadExists 6 = true ∧ y4_2.startInstr 6 none = (y4_3, true) ∧
      swDescriptor ((y4_3.thread 6).gpr (1 : BitVec 5)) false = some y4_6 ∧ (y4_3.thread 6).level = 2 ∧
      (if false = true then (y4_3.die (dieOf 6)).l3.find ((y4_6.2.2 * 4096 + y4_6.2.1) * 16 + y4_6.1) else (y4_3.core (coreOf 6)).l2.find (y4_6.2.1 * 16 + y4_6.1)) = some c6l ∧
      c6l.st ≠ CState.M ∧ c6l.st ≠ CState.O) := by
  refine ⟨?_, ?_, ?_, ?_, ?_, ?_, ?_, ?_, ?_, ?_, ?_, ?_, ?_, ?_, ?_, ?_, ?_, ?_, ?_⟩ <;> decide +kernel
end D1

namespace D2
abbrev m6 : State := (((((State.reset.setFld regGlbMode 3 0 6).setFld regGlbMode 7 4 6).setReg regDmcTop (BitVec.ofNat 64 (2^40))).setFld regClkStatus 3 3 1).setFld regTrlImage 5 5 1).setFld regTrlImage 63 32 1
abbrev gg (l : List (Nat × Word)) : Tbl Word := l.foldr (fun p (t : Tbl Word) => Tbl.set t p.1 p.2) []
abbrev g (l : List (Nat × Word)) (s : State) : State := s.modThread 6 (fun y => {y with pc := 0x1000, g := gg l})
abbrev r0 : State := g [(1, 5), (2, 7), (3, 9)] m6
abbrev te : Tlb := {realm := 0, hreg := true, asn := 0, global := false, va := 0, level := 1, group := false, small := false, leaf := 0x19f}
abbrev lc (l : LineAddr) (d : Line) : Nat × CLine := (l.toNat % 2048 * 16, { line := l, st := .M, realm := 0, data := d })
abbrev rc : State := ((r0.modThread 6 (fun y => {y with h := {y.h with ttbase := 1}, g := gg [(1, 0x2038), (2, 0xfedcba9876543210), (3, 8), (4, 0x2000)]})).modCore 3 (fun k => {k with itlb := [te], dtlb := [te], l1i := [(0, {line := 0x40, data := 0})], l2 := [lc 0x40 0, lc 0x80 (BitVec.ofNat 512 (0x8182838485868788 * 2^448 + 5)), lc 0x81 0x99]})).modDie 0 (fun d => {d with creds := (upTo 32).map (fun i => (i, 4))})
abbrev cl : CLine := (lc 0x80 5).2
abbrev ev (k : EventKind) : Event := { stamp := 5, rank := 9, origin := 6, kind := k }
abbrev evs (k : EventKind) (s : State) : State := { s with events := [ev k], clause := 77 }
abbrev au : AdUpdate := { ea := 0x2008, old := 5, new := 7 }
abbrev tout : TlbiOut := {seq := 3, issued := 0, left := [0], args := { issuer := 6, realm := 0, control := 0, va := 5, seq := 3 }}
abbrev me : MbEntry := { line := 0x80, data := 0x12, mask := 0xff, thread := 0, realm := 0 }
abbrev eb : EbEntry := { idx := 0, line := 0x85, st := .M, realm := 0, data := 4}
abbrev ei : EbEntry := {eb with issued := true, toL3 := true}
abbrev si : State := rc.modCore 3 (fun k => {k with eb := [ei]})
abbrev mec : MbEntry := { me with closed := true }

def a1_5 : Event := (ev (.timer 6 true))
def a1_6 : State := (evs (.timer 6 true) (rc.modThread 6 (fun y => {y with h := {y.h with tcmp := 77}})))
def a3_5 : Event := (ev (.interrupt 6 .device 5 true none))
def a3_6 : State := (evs (.interrupt 6 .device 5 true none) (rc.modThread 6 (fun y => {y with realm := 5})))
def a4_5 : Event := (ev (.interrupt 6 .device 0 true none))
def a4_6 : State := (evs (.interrupt 6 .device 0 true none) (rc.modThread 6 (fun y => {y with realm := 5})))
def b2_6 : State := {rc.modThread 6 (fun y => {y with ad := some au, tlbis := [tout], realm := 5}) with clause := 1000000}
def y1_6 : State := (rc.modDie 0 (fun d => {d with fenced := true}))
def y2_6 : State := ((rc.modThread 6 (fun y => {y with realm := 5})).modThread 7 (fun y => {y with realm := 5}))
theorem test_witness_CoreEvents :
    (a1_6.threadExists 6 = true ∧ (a1_6.core (coreOf 6)).fenced = false) ∧
    (a1_6.threadExists 6 = true ∧ (a1_6.core (coreOf 6)).fenced = false ∧ ((a1_6.thread 6).bank true).tcmp ≠ (0 : Word) ∧
      BitVec.toNat ((a1_6.thread 6).bank true).tcmp ≤ BitVec.toNat a1_6.clause) ∧
    (a1_6.threadExists 6 = true ∧ (a1_6.core (coreOf 6)).fenced = false ∧ a1_6.events = [a1_5] ∧ a1_5.recs = [] ∧
      BitVec.toNat a1_5.clause + a1_6.horizon ≤ BitVec.toNat a1_6.clause ∧ a1_5.kind = EventKind.timer 6 true ∧
      ((a1_6.thread 6).bank true).tcmp ≠ (0 : Word) ∧ BitVec.toNat ((a1_6.thread 6).bank true).tcmp ≤ BitVec.toNat a1_6.clause) ∧
    (a3_6.threadExists 6 = true ∧ (a3_6.core (coreOf 6)).fenced = false ∧ ¬(((a3_6.thread 6).bank false).tcmp ≠ (0 : Word) ∧
      BitVec.toNat ((a3_6.thread 6).bank false).tcmp ≤ BitVec.toNat a3_6.clause)) ∧
    (a3_6.threadExists 6 = true ∧ (a3_6.core (coreOf 6)).fenced = false ∧ a3_6.events = [a3_5] ∧ a3_5.recs = [] ∧
      BitVec.toNat a3_5.clause + a3_6.horizon ≤ BitVec.toNat a3_6.clause ∧
      a3_5.kind = EventKind.interrupt 6 IntClass.device (5 : Realm) true none ∧ (5 : Realm) ≠ (0 : Realm) ∧
      (a3_6.thread 6).realm = (5 : Realm)) ∧
    (a4_6.threadExists 6 = true ∧ (a4_6.core (coreOf 6)).fenced = false ∧ a4_6.events = [a4_5] ∧ a4_5.recs = [] ∧
      BitVec.toNat a4_5.clause + a4_6.horizon ≤ BitVec.toNat a4_6.clause ∧
      a4_5.kind = EventKind.interrupt 6 IntClass.device (0 : Realm) true none) ∧
    (rc.threadExists 6 = true ∧ rc.running = true ∧ (rc.core (coreOf 6)).fenced = false ∧ (rc.thread 6).wait = Wait.ready ∧
      (rc.thread 6).residue = none ∧ (rc.core (coreOf 6)).retries ≠ BitVec.allOnes 32) ∧
    (rc.threadExists 6 = true ∧ rc.running = true ∧ (rc.core (coreOf 6)).fenced = false ∧ (rc.thread 6).wait = Wait.ready ∧
      (rc.thread 6).residue = none ∧ (rc.thread 6).realm = (0 : Realm)) ∧
    (rc.coreExists 3 = true) ∧
    (b2_6.threadExists 6 = true ∧ (b2_6.thread 6).ad = some au ∧ au.tid = none ∧ b2_6.sourcesHeld = false ∧
      b2_6.credits (dieOf 6) (b2_6.chanOf (lineBase (lineOf au.ea))) 0 ≠ 0) ∧
    (b2_6.threadExists 6 = true ∧ List.find? (fun o => decide (o.seq = (3 : BitVec 16))) (b2_6.thread 6).tlbis = some tout ∧
      BitVec.toNat tout.issued + 1000000 ≤ BitVec.toNat b2_6.clause ∧ modeStandby < b2_6.mode ∧ b2_6.mode ≠ modeHalt) ∧
    (y1_6.threadExists 6 = false) ∧
    (y2_6.threadExists 6 = true ∧ y2_6.running = true ∧ (y2_6.core (coreOf 6)).fenced = false ∧ (y2_6.thread 6).wait = Wait.ready ∧
      (y2_6.thread 6).residue = none ∧ (y2_6.thread 6).realm ≠ (0 : Realm) ∧ (y2_6.thread (siblingOf 6)).realm ≠ (0 : Realm) ∧
      modeStandby < y2_6.mode ∧ y2_6.mode ≠ modeHalt) := by
  refine ⟨?_, ?_, ?_, ?_, ?_, ?_, ?_, ?_, ?_, ?_, ?_, ?_, ?_⟩ <;> decide +kernel

def c1_6 : List MbEntry := []
def c1_9 : State := (rc.modCore 3 (fun k => {k with mb := [me]}))
def c2_4 : MbEntry := {me with closed := true, uncached := true}
def c2_6 : List MbEntry := []
def c2_9 : State := (rc.modCore 3 (fun k => {k with l2 := [], mb := [{me with closed := true, uncached := true}]}))
def c3_9 : State := ((rc.modCore 3 (fun k => {k with eb := [eb]})).setFld (regL3ctl 0) 0 0 1)
def c4_10 : State := ((si.l3Install 0 { line := 0x85, st := .M, realm := 0, data := 4 }).getD rc)
def d3_2 : State := (((rc.modCore 3 (fun k => {k with l2 := [], l2Dis := true})).setFld (regL3ctl 0) 0 0 1))
def d4_2 : State := (((rc.modCore 3 (fun k => {k with l2 := [], l2Dis := true, l2Flushing := true})).setFld (regL3ctl 0) 0 0 1).setFld (regL3ctl 0) 1 1 1)
def y3_6 : List MbEntry := []
def y3_7 : ℕ := (((rc.core 3).l2Find 0x80).getD (0, cl)).1
def y3_8 : CLine := (((rc.core 3).l2Find 0x80).getD (0, cl)).2
def y3_9 : State := (rc.modCore 3 (fun k => {k with mb := [mec]}))
theorem test_witness_CachesBetweenInstructions :
    (c1_9.coreExists 3 = true ∧ (c1_9.core 3).fenced = false ∧ (c1_9.core 3).ctxWrites = [] ∧ (c1_9.core 3).mb = me :: c1_6 ∧
      c1_9.drains 3 me = false) ∧
    (c1_9.coreExists 3 = true ∧ (c1_9.core 3).eb = [] ∧ (c1_9.core 3).l2Flushing = false ∧ (c1_9.core 3).txns = []) ∧
    (c1_9.coreExists 3 = true ∧ List.find? (fun x => decide (x.line = (133 : LineAddr)) && x.issued && x.toL3) (c1_9.core 3).eb = none) ∧
    (c1_9.coreExists 3 = true ∧ bit (c1_9.reg regGlbInject) 63 = false ∧ ∀ p ∈ (c1_9.core 3).l2, p.2.bad = 0 ∧ p.2.tagBad = false) ∧
    ((c1_9.die 0).fenced = false ∧ bit (c1_9.reg regGlbInject) 63 = false ∧ ∀ p ∈ (c1_9.die 0).l3, p.2.bad = 0 ∧ p.2.tagBad = false) ∧
    (c2_9.coreExists 3 = true ∧ (c2_9.core 3).fenced = false ∧ (c2_9.core 3).ctxWrites = [] ∧ (c2_9.core 3).mb = c2_4 :: c2_6 ∧
      c2_9.drains 3 c2_4 = true ∧ c2_4.bad = false ∧ bit (c2_9.reg regGlbInject) 63 = false ∧ c2_4.uncached = true ∧ c2_4.sent = none ∧
      c2_9.sourcesHeld = false ∧ c2_9.credits (dieOf (2 * 3 + 0)) (c2_9.chanOf (lineBase c2_4.line)) 0 ≠ 0) ∧
    (c3_9.coreExists 3 = true ∧ List.find? (fun x => !x.issued) (c3_9.core 3).eb = some eb ∧ c3_9.ebCheck 3 eb.line = (c3_9, some eb) ∧
      (c3_9.core 3).ebFind eb.line = some eb ∧ eb.st = CState.M ∧ eb.lost = false ∧
      c3_9.l3Available (dieOfCore 3) (BitVec.toNat eb.realm) = false ∧ c3_9.sourcesHeld = false ∧
      c3_9.credits (dieOf (2 * 3)) (c3_9.chanOf (lineBase eb.line)) 1 ≠ 0 ∧ (c3_9.core 3).l2Flushing = false ∧ (c3_9.core 3).txns = []) ∧
    (si.coreExists 3 = true ∧ List.find? (fun x => decide (x.line = (133 : LineAddr)) && x.issued && x.toL3) (si.core 3).eb = some ei ∧
      ei.taken = false ∧ ei.gone = false ∧ si.l3Available (dieOfCore 3) (BitVec.toNat ei.realm) = true ∧
      si.l3Install (dieOfCore 3) { line := (133 : LineAddr), st := ei.st, realm := ei.realm, data := ei.data } = some c4_10) ∧
    (rc.coreExists 3 = true ∧ (rc.core 3).l2Dis = false) ∧
    ((rc.die 0).fenced = false ∧ rc.fld (regL3ctl 0) 0 0 = 0) ∧
    ((rc.die 0).fenced = false ∧ (rc.die 0).l3 = [] ∧ (rc.die 0).wbs = [] ∧ (rc.die 0).flushDue = false) ∧
    (d3_2.coreExists 3 = true ∧ (d3_2.core 3).l2Dis = true) ∧
    (d3_2.coreExists 3 = true ∧ (d3_2.core 3).l2Dis = true ∧ (d3_2.core 3).l2Flushing = false ∧ (d3_2.core 3).l2FlushDue = false) ∧
    ((d3_2.die 0).fenced = false ∧ d3_2.fld (regL3ctl 0) 0 0 = 1) ∧
    ((d3_2.die 0).fenced = false ∧ d3_2.fld (regL3ctl 0) 1 0 = 1 ∧ (d3_2.die 0).flushDue = false) ∧
    (d4_2.coreExists 3 = true ∧ ((d4_2.core 3).l2Flushing = true ∨ (d4_2.core 3).l2FlushDue = true)) ∧
    (d4_2.coreExists 3 = true ∧ (d4_2.core 3).l2Flushing = true ∧ (d4_2.core 3).l2 = [] ∧ (d4_2.core 3).eb = []) ∧
    ((d4_2.die 0).fenced = false ∧ (d4_2.fld (regL3ctl 0) 1 1 = 1 ∨ (d4_2.die 0).flushDue = true)) ∧
    (y3_9.coreExists 3 = true ∧ (y3_9.core 3).fenced = false ∧ (y3_9.core 3).ctxWrites = [] ∧ (y3_9.core 3).mb = mec :: y3_6 ∧
      y3_9.drains 3 mec = true ∧ mec.bad = false ∧ bit (y3_9.reg regGlbInject) 63 = false ∧ mec ∉ y3_6 ∧ mec.uncached = false ∧
      (y3_9.core 3).l2On = true ∧ (y3_9.core 3).txnFind mec.line = none ∧ (y3_9.core 3).l2Find mec.line = some (y3_7, y3_8) ∧
      (y3_8.st = CState.M ∨ y3_8.st = CState.E) ∧ y3_8.frozen = false ∧ y3_8.bad = 0 ∧ y3_8.tagBad = false ∧
      (y3_9.thread (2 * 3 + (1 - 0))).wait = Wait.ready) := by
  refine ⟨?_, ?_, ?_, ?_, ?_, ?_, ?_, ?_, ?_, ?_, ?_, ?_, ?_, ?_, ?_, ?_, ?_, ?_, ?_⟩ <;> decide +kernel
end D2

namespace E1
abbrev b0 : State := State.reset.setFld regGlbMode 3 0 6
abbrev hd : Hdr := { tid := 5, src := agentId 0 3 2, dst := agentId 0 12 4, addr := 0x1240, stamp := 7, rank := 9, realm := 0, cr := 1 }
abbrev pf (m : Msg) : State := { b0 with sent := [{ m with hdr := { m.hdr with tid := 77 } }, m] }

def y1_7 : State := pf { type := .wrP, hdr := hd, body := .bytes 99 (BitVec.allOnes 64) }
theorem test_witness_HomeRequests :
    ((b0.home 4).txns = [] ∧ (b0.home 4).held = [] ∧ (b0.home 4).recalls = [] ∧ (b0.home 4).recallBuf = [] ∧ (b0.home 4).presence = [] ∧
      b0.monitors = [] ∧ b0.reshaping = false ∧ b0.oldLayout.total = 0 ∧ b0.fld (regHomStatus 4) 1 0 = 0 ∧ agentPkg hd.dst = b0.pkgNum ∧
      agentDie hd.dst = 12 ∧ agentUnit hd.dst = 4 ∧ agentPkg hd.src = b0.pkgNum ∧ agentDie hd.src < 12 ∧ linePkg hd.addr = b0.pkgNum ∧
      b0.admitsPage (BitVec.toNat hd.realm) (pageOfLine (lineIx hd.addr)) = true ∧ b0.journalBlock (BitVec.toNat hd.realm) = none ∧
      b0.poolRoom 4 0 hd = true) ∧
    ((b0.home 4).txns = [] ∧ (b0.home 4).held = [] ∧ (b0.home 4).recalls = [] ∧ (b0.home 4).recallBuf = [] ∧ (b0.home 4).presence = [] ∧
      b0.monitors = [] ∧ b0.reshaping = false ∧ b0.oldLayout.total = 0 ∧ b0.fld (regHomStatus 4) 1 0 = 0 ∧ agentPkg hd.dst = b0.pkgNum ∧
      agentDie hd.dst = 12 ∧ agentUnit hd.dst = 4 ∧ agentPkg hd.src = b0.pkgNum ∧ agentDie hd.src < 12 ∧ linePkg hd.addr = b0.pkgNum ∧
      b0.admitsPage (BitVec.toNat hd.realm) (pageOfLine (lineIx hd.addr)) = true ∧ b0.journalBlock (BitVec.toNat hd.realm) = none ∧
      b0.poolRoom 4 0 hd = true ∧ (1 : BitVec 64) ≠ BitVec.allOnes 64) ∧
    ((b0.home 4).txns = [] ∧ (b0.home 4).held = [] ∧ (b0.home 4).recalls = [] ∧ (b0.home 4).recallBuf = [] ∧ (b0.home 4).presence = [] ∧
      b0.monitors = [] ∧ b0.reshaping = false ∧ b0.oldLayout.total = 0 ∧ b0.fld (regHomStatus 4) 1 0 = 0 ∧ agentPkg hd.dst = b0.pkgNum ∧
      agentDie hd.dst = 12 ∧ agentUnit hd.dst = 4 ∧ agentPkg hd.src = b0.pkgNum ∧ agentDie hd.src < 12 ∧ linePkg hd.addr = b0.pkgNum ∧
      b0.admitsPage (BitVec.toNat hd.realm) (pageOfLine (lineIx hd.addr)) = true ∧ b0.journalBlock (BitVec.toNat hd.realm) = none ∧
      b0.poolRoom 4 0 hd = true ∧
      b0.behind { type := MsgType.wrP, hdr := hd, body := Body.bytes (99 : Line) (BitVec.allOnes 64) } = false) ∧
    ((b0.home 4).txns = [] ∧ (b0.home 4).held = [] ∧ (b0.home 4).recalls = [] ∧ (b0.home 4).recallBuf = [] ∧ (b0.home 4).presence = [] ∧
      b0.monitors = [] ∧ b0.reshaping = false ∧ b0.oldLayout.total = 0 ∧ b0.fld (regHomStatus 4) 1 0 = 0 ∧ agentPkg hd.dst = b0.pkgNum ∧
      agentDie hd.dst = 12 ∧ agentUnit hd.dst = 4 ∧ agentPkg hd.src = b0.pkgNum ∧ agentDie hd.src < 12 ∧ linePkg hd.addr = b0.pkgNum ∧
      b0.admitsPage (BitVec.toNat hd.realm) (pageOfLine (lineIx hd.addr)) = true ∧ b0.journalBlock (BitVec.toNat hd.realm) = none ∧
      b0.poolRoom 4 1 hd = true) ∧
    ((y1_7.home 4).txns = [] ∧ (y1_7.home 4).held = [] ∧ (y1_7.home 4).recalls = [] ∧ (y1_7.home 4).recallBuf = [] ∧
      (y1_7.home 4).presence = [] ∧ y1_7.monitors = [] ∧ y1_7.reshaping = false ∧ y1_7.oldLayout.total = 0 ∧
      y1_7.fld (regHomStatus 4) 1 0 = 0 ∧ agentPkg hd.dst = y1_7.pkgNum ∧ agentDie hd.dst = 12 ∧ agentUnit hd.dst = 4 ∧
      agentPkg hd.src = y1_7.pkgNum ∧ agentDie hd.src < 12 ∧ linePkg hd.addr = y1_7.pkgNum ∧
      y1_7.admitsPage (BitVec.toNat hd.realm) (pageOfLine (lineIx hd.addr)) = true ∧ y1_7.journalBlock (BitVec.toNat hd.realm) = none ∧
      y1_7.poolRoom 4 0 hd = true ∧
      y1_7.behind { type := MsgType.wrP, hdr := hd, body := Body.bytes (99 : Line) (BitVec.allOnes 64) } = true) := by
  refine ⟨?_, ?_, ?_, ?_, ?_⟩ <;> decide +kernel
end E1

namespace E2
abbrev b0 : State := State.reset.setFld regGlbMode 3 0 6
abbrev hd : Hdr := { tid := 5, src := agentId 0 3 2, dst := agentId 0 12 4, addr := 0x1240, stamp := 7, rank := 9, realm := 0, cr := 1 }
abbrev am : AtomArgs := { op := .add, wide := true, off := 8, operand := 3, compare := 0 }
abbrev uq : UcReq := { line := 0x1240, msg := { type := .ucRd, hdr := hd, body := .uc 8 4 } }
abbrev hr : HReq := { kind := .rdS, hdr := hd }
abbrev tx : HTxn := { line := 0x1240, kind := .request, req := { kind := .rdX, hdr := hd }, phase := .tw, answers := 2 , decided := true}
abbrev uw (b : Body) (ty : MsgType) : UcReq := { line := 0x1240, msg := { type := ty, hdr := hd, body := b } }
abbrev ub (q : UcReq) : State := ({b0 with ucq := [q], written := [(0,0x2000)] }).writeMem (64 * 0x1240) 0x123456789abcdef0
abbrev ur (k : MsgType) : State := {({b0 with written := [(0,0x2000)] }).writeMem (64 * 0x1240) 0x123456789abcdef0 with homes := [(4, { ({} : Home) with txns := [{ line := 0x1240, kind := .request, req := { hr with kind := k }, phase := .tw, memWait := true, since := 0 }] })]}
abbrev ty : HTxn := { line := 0x1240, kind := .request, req := { kind := .rdX, hdr := hd }, phase := .ta, answers := 0 , decided := true}
abbrev rq : HReq := { kind := .rdS, hdr := hd, settleAt := 10, leadAt := 8 }
abbrev bi : State := { (b0.setFld (regHomStatus 4) 1 0 1).modHome 4 (fun x => { x with held := [rq] }) with clause := 10}
abbrev tz : HTxn := { line := 0x1240, kind := .request, req := { kind := .rdX, hdr := hd }, phase := .tw, dirWait := true}

def c2_2 : State := b0.modHome 4 (fun x => { x with reqUsed := [(3, 300)] })
theorem test_witness_HomeRequests_2 :
    (agentPkg hd.dst = c2_2.pkgNum ∧ agentDie hd.dst = 12 ∧ agentUnit hd.dst = 4 ∧ agentPkg hd.src = c2_2.pkgNum ∧ agentDie hd.src < 12 ∧
      linePkg hd.addr = c2_2.pkgNum ∧ c2_2.poolRoom 4 0 hd = false ∧ modeStandby < c2_2.mode ∧ c2_2.mode ≠ modeHalt ∧
      c2_2.behind { type := MsgType.rdS, hdr := hd } = false) := by decide +kernel

def c3_1 : Hdr := {hd with dst := agentId 0 12 20}
def c3_10 : State := {b0 with ucq := [uq], written := [(0,0x2000)] }
def c3b_1 : Hdr := {hd with dst := agentId 0 12 97}
def c3b_10 : State := {b0 with  written := [(0,0x2000)] }
def c3c_1 : Hdr := {hd with realm := 5, dst := agentId 0 12 20}
def c3c_10 : State := {b0 with  written := [(0,0x2000)] }
def c3d_7 : UcReq := uw (.bytes 99 3) .ucWr
def c3d_10 : State := ub (uw (.bytes 99 3) .ucWr)
def c3e_7 : UcReq := uw (.atom am) .ucAtom
def c3e_10 : State := ub (uw (.atom am) .ucAtom)
def c3f_8 : HReq := { hr with kind := .rdX}
def c3f_10 : State := ur .rdX
def c4_5 : State := b0.modHome 4 (fun x => { x with txns := [tx] })
def c4b_5 : State := b0.modHome 4 (fun x => { x with txns := [ty] })
theorem test_witness_HomeAnswers :
    (agentPkg c3_1.dst = c3_10.pkgNum ∧ agentDie c3_1.dst = 12 ∧ agentUnit c3_1.dst = 16 + 4 ∧ linePkg c3_1.addr = c3_10.pkgNum ∧
      c3_10.poolRoom 4 0 c3_1 = true ∧ c3_10.admitsPage (BitVec.toNat c3_1.realm) (pageOfLine (lineIx c3_1.addr)) = true ∧
      c3_10.behind { type := MsgType.ucRd, hdr := c3_1, body := Body.uc (8 : BitVec 6) 4 } = false) ∧
    (agentPkg c3_1.dst = c3_10.pkgNum ∧ agentDie c3_1.dst = 12 ∧ agentUnit c3_1.dst = 16 + 4 ∧ linePkg c3_1.addr = c3_10.pkgNum ∧
      c3_10.poolRoom 4 0 c3_1 = true ∧ c3_10.admitsPage (BitVec.toNat c3_1.realm) (pageOfLine (lineIx c3_1.addr)) = true ∧
      c3_10.behind { type := MsgType.ucWr, hdr := c3_1, body := Body.bytes (99 : Line) (3 : BitVec 64) } = false) ∧
    (agentPkg c3_1.dst = c3_10.pkgNum ∧ agentDie c3_1.dst = 12 ∧ agentUnit c3_1.dst = 16 + 4 ∧ linePkg c3_1.addr = c3_10.pkgNum ∧
      c3_10.poolRoom 4 0 c3_1 = true ∧ c3_10.admitsPage (BitVec.toNat c3_1.realm) (pageOfLine (lineIx c3_1.addr)) = true ∧
      c3_10.behind { type := MsgType.ucAtom, hdr := c3_1, body := Body.atom am } = false) ∧
    (((c3_10.admitReads 4).readQueue 4).contains c3_1.addr = true ∧ (c3_10.admitReads 4).portReady 4 3 = true ∧
      c3_10.txnAt 4 c3_1.addr = none ∧ List.find? (fun q => decide (q.line = c3_1.addr)) c3_10.ucq = some uq ∧
      c3_10.isWritten (lineIx c3_1.addr) = true ∧ Tbl.get 0 c3_10.dramBad (lineIx c3_1.addr) = 0 ∧ bit (c3_10.reg regGlbInject) 63 = false ∧
      c3_10.realms.keyBad = [] ∧ c3_10.journalBlock (BitVec.toNat uq.msg.hdr.realm) = none ∧ uq.msg.type = MsgType.ucRd ∧
      uq.msg.body = Body.uc (8 : BitVec 6) 4) ∧
    (agentPkg c3b_1.dst = c3b_10.pkgNum ∧ agentDie c3b_1.dst = 12 ∧ agentUnit c3b_1.dst = 97 ∧
      c3b_10.realms.ownBad.find (pageOfLine (lineIx c3b_1.addr) / 32) = none ∧
      c3b_10.behind { type := MsgType.ownChk, hdr := c3b_1 } = false) ∧
    (((c3b_10.admitReads 4).readQueue 4).contains c3b_1.addr = false) ∧
    (agentPkg c3c_1.dst = c3c_10.pkgNum ∧ agentDie c3c_1.dst = 12 ∧ agentUnit c3c_1.dst = 16 + 4 ∧ linePkg c3c_1.addr = c3c_10.pkgNum ∧
      c3c_10.poolRoom 4 0 c3c_1 = true ∧ c3c_10.admitsPage (BitVec.toNat c3c_1.realm) (pageOfLine (lineIx c3c_1.addr)) = false ∧
      c3c_10.behind { type := MsgType.ucRd, hdr := c3c_1, body := Body.uc (8 : BitVec 6) 4 } = false) ∧
    (((c3d_10.admitReads 4).readQueue 4).contains hd.addr = true ∧ (c3d_10.admitReads 4).portReady 4 3 = true ∧
      c3d_10.txnAt 4 hd.addr = none ∧ List.find? (fun q => decide (q.line = hd.addr)) c3d_10.ucq = some c3d_7 ∧
      c3d_10.isWritten (lineIx hd.addr) = true ∧ Tbl.get 0 c3d_10.dramBad (lineIx hd.addr) = 0 ∧ bit (c3d_10.reg regGlbInject) 63 = false ∧
      c3d_10.realms.keyBad = [] ∧ c3d_10.journalBlock (BitVec.toNat c3d_7.msg.hdr.realm) = none ∧ c3d_7.msg.type = MsgType.ucWr ∧
      c3d_7.msg.body = Body.bytes (99 : Line) (3 : BitVec 64) ∧ (3 : BitVec 64) ≠ BitVec.allOnes 64) ∧
    (((c3e_10.admitReads 4).readQueue 4).contains hd.addr = true ∧ (c3e_10.admitReads 4).portReady 4 3 = true ∧
      c3e_10.txnAt 4 hd.addr = none ∧ List.find? (fun q => decide (q.line = hd.addr)) c3e_10.ucq = some c3e_7 ∧
      c3e_10.isWritten (lineIx hd.addr) = true ∧ Tbl.get 0 c3e_10.dramBad (lineIx hd.addr) = 0 ∧ bit (c3e_10.reg regGlbInject) 63 = false ∧
      c3e_10.realms.keyBad = [] ∧ c3e_10.journalBlock (BitVec.toNat c3e_7.msg.hdr.realm) = none ∧ c3e_7.msg.type = MsgType.ucAtom ∧
      c3e_7.msg.body = Body.atom am) ∧
    (c3f_8.hdr = hd ∧ (c3f_8.kind = MsgType.rdS ∨ c3f_8.kind = MsgType.rdX) ∧ hd.flags = { } ∧ agentPkg hd.src = c3f_10.pkgNum ∧
      agentDie hd.src < 12 ∧ linePkg hd.addr = c3f_10.pkgNum ∧
      (c3f_10.home 4).txns = [{ line := hd.addr, req := c3f_8, phase := HPhase.tw, memWait := true }] ∧ (c3f_10.home 4).held = [] ∧
      (c3f_10.home 4).recalls = [] ∧ (c3f_10.home 4).recallBuf = [] ∧ (c3f_10.home 4).presence = [] ∧ c3f_10.monitors = [] ∧
      c3f_10.reshaping = false ∧ c3f_10.oldLayout.total = 0 ∧ ((c3f_10.admitReads 4).readQueue 4).contains hd.addr = true ∧
      (c3f_10.admitReads 4).portReady 4 (c3f_10.portOf hd) = true ∧ c3f_10.isWritten (lineIx hd.addr) = true ∧
      Tbl.get 0 c3f_10.dramBad (lineIx hd.addr) = 0 ∧ bit (c3f_10.reg regGlbInject) 63 = false ∧ c3f_10.realms.keyBad = [] ∧
      c3f_10.realms.ownBad = [] ∧ c3f_10.journalBlock (BitVec.toNat hd.realm) = none) ∧
    (agentPkg hd.dst = c4_5.pkgNum ∧ agentDie hd.dst = 12 ∧ agentUnit hd.dst = 4 ∧ agentPkg hd.src = c4_5.pkgNum ∧ agentDie hd.src < 12 ∧
      linePkg hd.addr = c4_5.pkgNum ∧ (c4_5.home 4).held = [] ∧ (c4_5.home 4).recalls = [] ∧ tx.line = hd.addr ∧ tx.kind = TxnKind.request ∧
      (c4_5.home 4).txns = [tx] ∧ tx.phase = HPhase.tw ∧ 2 ≤ tx.answers ∧ tx.owner ≠ some (c4_5.keyOf hd.src) ∧
      c4_5.behind { type := MsgType.fwdAck, hdr := hd, body := Body.state CState.O } = false) ∧
    (agentPkg hd.dst = c4_5.pkgNum ∧ agentDie hd.dst = 12 ∧ agentUnit hd.dst = 4 ∧ agentPkg hd.src = c4_5.pkgNum ∧ agentDie hd.src < 12 ∧
      linePkg hd.addr = c4_5.pkgNum ∧ (c4_5.home 4).held = [] ∧ (c4_5.home 4).recalls = [] ∧ tx.line = hd.addr ∧ tx.kind = TxnKind.request ∧
      (c4_5.home 4).txns = [tx] ∧ tx.phase = HPhase.tw ∧ 2 ≤ tx.answers ∧ tx.owner ≠ some (c4_5.keyOf hd.src) ∧
      c4_5.behind { type := MsgType.snpAck, hdr := hd } = false) ∧
    (agentPkg hd.dst = c4_5.pkgNum ∧ agentDie hd.dst = 12 ∧ agentUnit hd.dst = 4 ∧ agentPkg hd.src = c4_5.pkgNum ∧ agentDie hd.src < 12 ∧
      linePkg hd.addr = c4_5.pkgNum ∧ (c4_5.home 4).held = [] ∧ (c4_5.home 4).recalls = [] ∧ tx.line = hd.addr ∧ tx.kind = TxnKind.request ∧
      (c4_5.home 4).txns = [tx] ∧ tx.phase = HPhase.tw ∧ 2 ≤ tx.answers ∧ tx.owner ≠ some (c4_5.keyOf hd.src) ∧
      c4_5.behind { type := MsgType.snpNone, hdr := hd } = false) ∧
    (agentPkg hd.dst = c4_5.pkgNum ∧ agentDie hd.dst = 12 ∧ agentUnit hd.dst = 4 ∧ agentPkg hd.src = c4_5.pkgNum ∧ agentDie hd.src < 12 ∧
      linePkg hd.addr = c4_5.pkgNum ∧ (c4_5.home 4).held = [] ∧ (c4_5.home 4).recalls = [] ∧ tx.line = hd.addr ∧ tx.kind = TxnKind.request ∧
      (c4_5.home 4).txns = [tx] ∧ tx.phase = HPhase.tw ∧ 2 ≤ tx.answers ∧ tx.owner ≠ some (c4_5.keyOf hd.src) ∧ hd.flags.lost = false ∧
      c4_5.behind { type := MsgType.snpData, hdr := hd, body := Body.line (88 : Line) } = false) ∧
    (agentPkg hd.dst = c4b_5.pkgNum ∧ agentDie hd.dst = 12 ∧ agentUnit hd.dst = 4 ∧ agentPkg hd.src = c4b_5.pkgNum ∧ agentDie hd.src < 12 ∧
      linePkg hd.addr = c4b_5.pkgNum ∧ (c4b_5.home 4).held = [] ∧ (c4b_5.home 4).recalls = [] ∧ ty.line = hd.addr ∧
      ty.kind = TxnKind.request ∧ (c4b_5.home 4).txns = [ty] ∧ ty.phase = HPhase.ta ∧
      c4b_5.behind { type := MsgType.cmpAck, hdr := hd } = false) ∧
    (agentPkg hd.dst = b0.pkgNum ∧ agentDie hd.dst = 12 ∧ agentUnit hd.dst = 4 ∧ agentPkg hd.src = b0.pkgNum ∧ agentDie hd.src < 12 ∧
      linePkg hd.addr = b0.pkgNum ∧ (b0.home 4).held = [] ∧ (b0.home 4).recalls = [] ∧ ty.line = hd.addr ∧ ty.kind = TxnKind.request ∧
      (b0.home 4).txns = [] ∧ b0.behind { type := MsgType.subFwd, hdr := hd, body := Body.state CState.O } = false) ∧
    (agentPkg hd.dst = b0.pkgNum ∧ agentDie hd.dst = 12 ∧ agentUnit hd.dst = 4 ∧ agentPkg hd.src = b0.pkgNum ∧ agentDie hd.src < 12 ∧
      linePkg hd.addr = b0.pkgNum ∧ (b0.home 4).held = [] ∧ (b0.home 4).recalls = [] ∧ ty.line = hd.addr ∧ ty.kind = TxnKind.request ∧
      (b0.home 4).txns = [] ∧ modeStandby < b0.mode ∧ b0.mode ≠ modeHalt ∧ b0.behind { type := MsgType.cmpAck, hdr := hd } = false) := by
  refine ⟨?_, ?_, ?_, ?_, ?_, ?_, ?_, ?_, ?_, ?_, ?_, ?_, ?_, ?_, ?_, ?_, ?_⟩ <;> decide +kernel

def c5a_4 : State := {bi with clause := 9}
def c5b_2 : HReq := {rq with lead := true}
def c5b_4 : State := { (b0.setFld (regHomStatus 4) 1 0 1).modHome 4 (fun x => { x with held := [{rq with lead := true}] }) with clause := 8}
def c5c_4 : State := (b0.setReg regDirLayout 0x0000100000000001).modHome 4 (fun x => { x with txns := [tz]})
def c6_3 : State := {b0.modHome 4 (fun x => { x with txns := [tx] }) with clause := 2500001}
def z5_2 : HReq := {rq with lead := true}
def z5_4 : State := { (b0.setFld (regHomStatus 4) 1 0 1).modHome 4 (fun x => { x with held := [{rq with lead := true}] }) with clause := 7}
def z6_3 : State := {b0 with clause := 2500001}
def z6a_3 : State := {b0.modHome 4 (fun x => { x with txns := [tx] }) with clause := 2500000}
theorem test_witness_HomeProgress :
    ((bi.home 4).txns = [] ∧ (bi.home 4).held = [rq] ∧ (bi.home 4).recalls = [] ∧ (bi.home 4).recallBuf = [] ∧ (bi.home 4).presence = [] ∧
      bi.monitors = [] ∧ bi.reshaping = false ∧ bi.oldLayout.total = 0 ∧ bi.fld (regHomStatus 4) 1 0 = 1 ∧ rq.hdr.addr = (4672 : LineAddr) ∧
      linePkg (4672 : LineAddr) = bi.pkgNum ∧ agentPkg rq.hdr.src = bi.pkgNum ∧ rq.kind = MsgType.rdS ∧
      bi.admitsPage (BitVec.toNat rq.hdr.realm) (pageOfLine (lineIx (4672 : LineAddr))) = true ∧ rq.lead = false ∧
      BitVec.toNat rq.settleAt ≤ BitVec.toNat bi.clause) ∧
    (bi.txnAt 4 (4672 : LineAddr) = none) ∧
    ((c5a_4.home 4).txns = [] ∧ (c5a_4.home 4).held = [rq] ∧ (c5a_4.home 4).recalls = [] ∧ (c5a_4.home 4).recallBuf = [] ∧
      (c5a_4.home 4).presence = [] ∧ c5a_4.monitors = [] ∧ c5a_4.reshaping = false ∧ c5a_4.oldLayout.total = 0 ∧
      c5a_4.fld (regHomStatus 4) 1 0 = 1 ∧ rq.hdr.addr = (4672 : LineAddr) ∧ linePkg (4672 : LineAddr) = c5a_4.pkgNum ∧
      agentPkg rq.hdr.src = c5a_4.pkgNum ∧ rq.kind = MsgType.rdS ∧
      c5a_4.admitsPage (BitVec.toNat rq.hdr.realm) (pageOfLine (lineIx (4672 : LineAddr))) = true ∧ rq.lead = false ∧
      BitVec.toNat c5a_4.clause < BitVec.toNat rq.settleAt) ∧
    ((c5b_4.home 4).txns = [] ∧ (c5b_4.home 4).held = [c5b_2] ∧ (c5b_4.home 4).recalls = [] ∧ (c5b_4.home 4).recallBuf = [] ∧
      (c5b_4.home 4).presence = [] ∧ c5b_4.monitors = [] ∧ c5b_4.reshaping = false ∧ c5b_4.oldLayout.total = 0 ∧
      c5b_4.fld (regHomStatus 4) 1 0 = 1 ∧ c5b_2.hdr.addr = (4672 : LineAddr) ∧ linePkg (4672 : LineAddr) = c5b_4.pkgNum ∧
      agentPkg c5b_2.hdr.src = c5b_4.pkgNum ∧ c5b_2.kind = MsgType.rdS ∧
      c5b_4.admitsPage (BitVec.toNat c5b_2.hdr.realm) (pageOfLine (lineIx (4672 : LineAddr))) = true ∧ c5b_2.lead = true ∧
      BitVec.toNat c5b_2.leadAt ≤ BitVec.toNat c5b_4.clause) ∧
    ((c5c_4.home 4).txns = [tz] ∧ tz.line = (4672 : LineAddr) ∧ tz.kind = TxnKind.request ∧ tz.req.kind = MsgType.rdX ∧
      tz.req.hdr.addr = (4672 : LineAddr) ∧ tz.req.hdr.flags = { } ∧ linePkg (4672 : LineAddr) = c5c_4.pkgNum ∧
      agentPkg tz.req.hdr.src = c5c_4.pkgNum ∧ tz.phase = HPhase.tw ∧ tz.answers = 0 ∧ tz.dirWait = true ∧ tz.decided = false ∧
      tz.lost = false ∧ tz.mem = none ∧ (c5c_4.home 4).held = [] ∧ (c5c_4.home 4).recalls = [] ∧ (c5c_4.home 4).presence = [] ∧
      c5c_4.monitors = [] ∧ c5c_4.dirFind 4 (4672 : LineAddr) = none ∧ bit (c5c_4.reg regGlbInject) 63 = false ∧ c5c_4.dirMem = []) ∧
    (c6_3.txnAt 4 (4672 : LineAddr) = some tx ∧ 0 < tx.answers ∧ 2500000 < BitVec.toNat (c6_3.clause - tx.since) ∧ modeStandby < c6_3.mode ∧
      c6_3.mode ≠ modeHalt) ∧
    ((z5_4.home 4).txns = [] ∧ (z5_4.home 4).held = [z5_2] ∧ (z5_4.home 4).recalls = [] ∧ (z5_4.home 4).recallBuf = [] ∧
      (z5_4.home 4).presence = [] ∧ z5_4.monitors = [] ∧ z5_4.reshaping = false ∧ z5_4.oldLayout.total = 0 ∧
      z5_4.fld (regHomStatus 4) 1 0 = 1 ∧ z5_2.hdr.addr = (4672 : LineAddr) ∧ linePkg (4672 : LineAddr) = z5_4.pkgNum ∧
      agentPkg z5_2.hdr.src = z5_4.pkgNum ∧ z5_2.kind = MsgType.rdS ∧
      z5_4.admitsPage (BitVec.toNat z5_2.hdr.realm) (pageOfLine (lineIx (4672 : LineAddr))) = true ∧ z5_2.lead = true ∧
      BitVec.toNat z5_4.clause < BitVec.toNat z5_2.leadAt) ∧
    (z6_3.txnAt 4 (4672 : LineAddr) = none) ∧
    (z6a_3.txnAt 4 (4672 : LineAddr) = some tx ∧ BitVec.toNat (z6a_3.clause - tx.since) ≤ 2500000) := by
  refine ⟨?_, ?_, ?_, ?_, ?_, ?_, ?_, ?_, ?_⟩ <;> decide +kernel
end E2

namespace F1
abbrev b0 : State := State.reset.setFld regGlbMode 3 0 6
abbrev hs : Hdr := { tid := 5, src := agentId 0 3 2, dst := agentId 0 2 48, addr := 0x1234, stamp := 7, rank := 9, realm := 0, cr := 1 }
abbrev cl : CLine := { line := 0x1234, st := .M, realm := 0, data := 77 }
abbrev sf : SfEntry := { cores := [3], owner := some 3, st := .M }
abbrev bo (st : CState) : State := ((b0.modCore 43 (fun k => { k with l2 := [(0x1234 % 2048 * 16, {cl with st := st})] })).modDie 2 (fun d => d.sfSet 0x1234 {sf with st := st}))
abbrev hc : Hdr := { tid := 5, src := agentId 0 12 4, dst := agentId 0 2 3, addr := 0x1234, stamp := 7, rank := 9, realm := 0, cr := 1 }
abbrev x0 : Txn := { tid := 5, line := 0x1234, kind := .rdS, thread := 0, realm := 0 }
abbrev bc (x : Txn) : State := b0.modCore 43 (fun k => { k with txns := [x] })
abbrev eb : EbEntry := { idx := 0, line := 0x1234, st := .M, realm := 0, data := 4, issued := true, tid := 5 }
abbrev ta : TlbiArgs := { issuer := b0.tidOf 86, realm := 0, control := 0, va := 5, seq := 3 }
abbrev bj : State := (b0.setFld (regRlmTable1 0) 51 12 1).writeMem 0x1000 (BitVec.ofNat 512 (0x100000 + 16 * 2 ^ 64))
abbrev hj : Hdr := {hc with dst := agentId 0 12 4, addr := 0x80}

def c2_8 : State := bo .M
theorem test_witness_Snoops :
    (agentPkg hs.dst = b0.pkgNum ∧ agentDie hs.dst = 2 ∧ b0.dieCopies 2 hs.addr = [] ∧ (b0.die 2).sfFind hs.addr = none ∧
      b0.behind { type := MsgType.snpS, hdr := hs } = false) ∧
    (agentPkg hs.dst = b0.pkgNum ∧ agentDie hs.dst = 2 ∧ b0.dieCopies 2 hs.addr = [] ∧ (b0.die 2).sfFind hs.addr = none ∧
      b0.behind { type := MsgType.snpX, hdr := hs } = false) ∧
    (agentPkg hs.dst = b0.pkgNum ∧ agentDie hs.dst = 2 ∧ b0.dieCopies 2 hs.addr = [] ∧ (b0.die 2).sfFind hs.addr = none ∧
      b0.behind { type := MsgType.snpI, hdr := hs } = false) ∧
    (agentPkg hs.dst = b0.pkgNum ∧ agentDie hs.dst = 2 ∧ b0.dieCopies 2 hs.addr = [] ∧ (b0.die 2).sfFind hs.addr = none ∧
      b0.behind { type := MsgType.snpH, hdr := hs } = false) ∧
    (agentPkg hs.dst = b0.pkgNum ∧ agentDie hs.dst = 2 ∧ b0.dieCopies 2 hs.addr = [] ∧ (b0.die 2).sfFind hs.addr = none ∧
      b0.behind { type := MsgType.snpC, hdr := hs } = false) ∧
    (agentPkg hs.dst = b0.pkgNum ∧ agentDie hs.dst = 2 ∧ b0.dieCopies 2 hs.addr = [] ∧ (b0.die 2).sfFind hs.addr = none ∧
      b0.behind { type := MsgType.rdSub, hdr := hs } = false) ∧
    (agentPkg hs.dst = c2_8.pkgNum ∧ agentDie hs.dst = 2 ∧ dieOfCore 43 = 2 ∧ (c2_8.die 2).sfFind hs.addr = some sf ∧ sf.bad = 0 ∧
      c2_8.dieCopies 2 hs.addr = [{ place := Place.l2 43, st := CState.M, data := (77 : Line) }] ∧
      (c2_8.core 43).l2Find hs.addr = some (0, cl) ∧ cl.data = (77 : Line) ∧ cl.st = CState.M ∧ cl.bad = 0 ∧ cl.tagBad = false ∧
      cl.frozen = false ∧ (CState.M = CState.M ∨ CState.M = CState.O ∨ CState.M = CState.E) ∧ bit (c2_8.reg regGlbInject) 63 = false ∧
      hs.flags.keepS = false ∧ (c2_8.core 43).txnFind hs.addr = none ∧ c2_8.behind { type := MsgType.snpS, hdr := hs } = false) ∧
    (agentPkg hs.dst = c2_8.pkgNum ∧ agentDie hs.dst = 2 ∧ dieOfCore 43 = 2 ∧ (c2_8.die 2).sfFind hs.addr = some sf ∧ sf.bad = 0 ∧
      c2_8.dieCopies 2 hs.addr = [{ place := Place.l2 43, st := CState.M, data := (77 : Line) }] ∧
      (c2_8.core 43).l2Find hs.addr = some (0, cl) ∧ cl.data = (77 : Line) ∧ cl.st = CState.M ∧ cl.bad = 0 ∧ cl.tagBad = false ∧
      cl.frozen = false ∧ (CState.M = CState.M ∨ CState.M = CState.O ∨ CState.M = CState.E) ∧ bit (c2_8.reg regGlbInject) 63 = false ∧
      hs.flags.keepS = false ∧ (c2_8.core 43).txnFind hs.addr = none ∧ c2_8.behind { type := MsgType.snpX, hdr := hs } = false) ∧
    (agentPkg hs.dst = c2_8.pkgNum ∧ agentDie hs.dst = 2 ∧ dieOfCore 43 = 2 ∧ (c2_8.die 2).sfFind hs.addr = some sf ∧ sf.bad = 0 ∧
      c2_8.dieCopies 2 hs.addr = [{ place := Place.l2 43, st := CState.M, data := (77 : Line) }] ∧
      (c2_8.core 43).l2Find hs.addr = some (0, cl) ∧ cl.data = (77 : Line) ∧ cl.st = CState.M ∧ cl.bad = 0 ∧ cl.tagBad = false ∧
      cl.frozen = false ∧ (CState.M = CState.M ∨ CState.M = CState.O ∨ CState.M = CState.E) ∧ bit (c2_8.reg regGlbInject) 63 = false ∧
      hs.flags.keepS = false ∧ (c2_8.core 43).txnFind hs.addr = none ∧ c2_8.behind { type := MsgType.snpI, hdr := hs } = false) ∧
    (agentPkg hs.dst = c2_8.pkgNum ∧ agentDie hs.dst = 2 ∧ dieOfCore 43 = 2 ∧ (c2_8.die 2).sfFind hs.addr = some sf ∧ sf.bad = 0 ∧
      c2_8.dieCopies 2 hs.addr = [{ place := Place.l2 43, st := CState.M, data := (77 : Line) }] ∧
      (c2_8.core 43).l2Find hs.addr = some (0, cl) ∧ cl.data = (77 : Line) ∧ cl.st = CState.M ∧ cl.bad = 0 ∧ cl.tagBad = false ∧
      cl.frozen = false ∧ (CState.M = CState.M ∨ CState.M = CState.O ∨ CState.M = CState.E) ∧ bit (c2_8.reg regGlbInject) 63 = false ∧
      hs.flags.keepS = false ∧ (c2_8.core 43).txnFind hs.addr = none ∧ c2_8.behind { type := MsgType.snpH, hdr := hs } = false) ∧
    (agentPkg hs.dst = c2_8.pkgNum ∧ agentDie hs.dst = 2 ∧ dieOfCore 43 = 2 ∧ (c2_8.die 2).sfFind hs.addr = some sf ∧ sf.bad = 0 ∧
      c2_8.dieCopies 2 hs.addr = [{ place := Place.l2 43, st := CState.M, data := (77 : Line) }] ∧
      (c2_8.core 43).l2Find hs.addr = some (0, cl) ∧ cl.data = (77 : Line) ∧ cl.st = CState.M ∧ cl.bad = 0 ∧ cl.tagBad = false ∧
      cl.frozen = false ∧ (CState.M = CState.M ∨ CState.M = CState.O ∨ CState.M = CState.E) ∧ bit (c2_8.reg regGlbInject) 63 = false ∧
      hs.flags.keepS = false ∧ (c2_8.core 43).txnFind hs.addr = none ∧ c2_8.behind { type := MsgType.snpC, hdr := hs } = false) ∧
    (agentPkg hs.dst = c2_8.pkgNum ∧ agentDie hs.dst = 2 ∧ dieOfCore 43 = 2 ∧ (c2_8.die 2).sfFind hs.addr = some sf ∧ sf.bad = 0 ∧
      c2_8.dieCopies 2 hs.addr = [{ place := Place.l2 43, st := CState.M, data := (77 : Line) }] ∧
      (c2_8.core 43).l2Find hs.addr = some (0, cl) ∧ cl.data = (77 : Line) ∧ cl.st = CState.M ∧ cl.bad = 0 ∧ cl.tagBad = false ∧
      cl.frozen = false ∧ (CState.M = CState.M ∨ CState.M = CState.O ∨ CState.M = CState.E) ∧ bit (c2_8.reg regGlbInject) 63 = false ∧
      hs.flags.keepS = false ∧ (c2_8.core 43).txnFind hs.addr = none ∧ c2_8.behind { type := MsgType.rdSub, hdr := hs } = false) := by
  refine ⟨?_, ?_, ?_, ?_, ?_, ?_, ?_, ?_, ?_, ?_, ?_, ?_⟩ <;> decide +kernel

def c3_4 : State := bc x0
def c3b_1 : Hdr := {hc with grant := .S}
def c3b_3 : Txn := {x0 with data := some 66}
def c3b_4 : State := bc {x0 with data := some 66}
def c3c_1 : Hdr := {hc with grant := .S}
def c3c_3 : Txn := {x0 with sub := true}
def c3c_4 : State := bc {x0 with sub := true}
def c3d_1 : Hdr := {hc with grant := .S}
def c3d_3 : Txn := {x0 with sub := true, subData := some 66}
def c3d_4 : State := bc {x0 with sub := true, subData := some 66}
def y1_1 : Hdr := {hc with grant := .S}
def y1_3 : Txn := {x0 with sub := true, refuted := true}
def y1_4 : State := bc {x0 with sub := true, refuted := true}
theorem test_witness_CoreFills :
    (c3_4.coreOfAgent hc.dst = some 43 ∧ c3_4.coreExists 43 = true ∧ c3_4.domainOpen (43 / 4 : ℕ) = true ∧ (c3_4.core 43).txns = [x0] ∧
      x0.tid = hc.tid ∧ x0.line = hc.addr ∧ bit (c3_4.reg regGlbInject) 63 = false ∧ x0.kind ≠ MsgType.upg ∧ x0.cmp = none ∧
      x0.subData = none ∧ c3_4.behind { type := MsgType.data, hdr := hc, body := Body.line (66 : Line) } = false) ∧
    (c3b_4.coreOfAgent c3b_1.dst = some 43 ∧ c3b_4.coreExists 43 = true ∧ c3b_4.domainOpen (43 / 4 : ℕ) = true ∧
      (c3b_4.core 43).txns = [c3b_3] ∧ c3b_3.tid = c3b_1.tid ∧ c3b_3.line = c3b_1.addr ∧ bit (c3b_4.reg regGlbInject) 63 = false ∧
      (c3b_3.kind = MsgType.rdS ∧ (c3b_1.grant = CState.S ∨ c3b_1.grant = CState.E) ∨ c3b_3.kind = MsgType.rdX ∧
      (c3b_1.grant = CState.E ∨ c3b_1.grant = CState.M)) ∧ c3b_3.cmp = none ∧ c3b_3.data = some (66 : Line) ∧ c3b_3.subData = none ∧
      c3b_1.flags = { } ∧ agentPkg c3b_1.src = c3b_4.pkgNum ∧ (c3b_4.core 43).l2 = [] ∧ (c3b_4.core 43).l2On = true ∧
      c3b_4.dieCopies (dieOfCore 43) c3b_1.addr = [] ∧ c3b_4.behind { type := MsgType.cmp, hdr := c3b_1 } = false) ∧
    (c3c_4.coreOfAgent c3c_1.dst = some 43 ∧ c3c_4.coreExists 43 = true ∧ c3c_4.domainOpen (43 / 4 : ℕ) = true ∧
      (c3c_4.core 43).txns = [c3c_3] ∧ c3c_3.tid = c3c_1.tid ∧ c3c_3.line = c3c_1.addr ∧ bit (c3c_4.reg regGlbInject) 63 = false ∧
      c3c_3.sub = true ∧ c3c_3.subData = none ∧ c3c_3.subLost = false ∧ c3c_3.cmp = none ∧ c3c_3.conf = false ∧ c3c_3.refuted = false ∧
      c3c_4.behind { type := MsgType.dataSub, hdr := c3c_1, body := Body.line (66 : Line) } = false) ∧
    (c3c_4.coreOfAgent c3c_1.dst = some 43 ∧ c3c_4.coreExists 43 = true ∧ c3c_4.domainOpen (43 / 4 : ℕ) = true ∧
      (c3c_4.core 43).txns = [c3c_3] ∧ c3c_3.tid = c3c_1.tid ∧ c3c_3.line = c3c_1.addr ∧ bit (c3c_4.reg regGlbInject) 63 = false ∧
      c3c_3.sub = true ∧ c3c_3.subData = none ∧ c3c_3.subLost = false ∧ c3c_3.cmp = none ∧ c3c_3.conf = false ∧
      c3c_4.behind { type := MsgType.refute, hdr := c3c_1 } = false) ∧
    (c3d_4.coreOfAgent c3d_1.dst = some 43 ∧ c3d_4.coreExists 43 = true ∧ c3d_4.domainOpen (43 / 4 : ℕ) = true ∧
      (c3d_4.core 43).txns = [c3d_3] ∧ c3d_3.tid = c3d_1.tid ∧ c3d_3.line = c3d_1.addr ∧ bit (c3d_4.reg regGlbInject) 63 = false ∧
      c3d_3.sub = true ∧ c3d_3.subData = some (66 : Line) ∧ c3d_3.subLost = false ∧ c3d_3.consumer = none ∧
      c3d_4.behind { type := MsgType.refute, hdr := c3d_1 } = false) ∧
    (y1_4.coreOfAgent y1_1.dst = some 43 ∧ y1_4.coreExists 43 = true ∧ y1_4.domainOpen (43 / 4 : ℕ) = true ∧ (y1_4.core 43).txns = [y1_3] ∧
      y1_3.tid = y1_1.tid ∧ y1_3.line = y1_1.addr ∧ bit (y1_4.reg regGlbInject) 63 = false ∧ y1_3.sub = true ∧ y1_3.subData = none ∧
      y1_3.subLost = false ∧ y1_3.cmp = none ∧ y1_3.conf = false ∧ y1_3.refuted = true ∧
      y1_4.behind { type := MsgType.dataSub, hdr := y1_1, body := Body.line (66 : Line) } = false) := by
  refine ⟨?_, ?_, ?_, ?_, ?_, ?_⟩ <;> decide +kernel

def c4_7 : OwnQuery := {page := 3, tid := 5, answer := none}
def c4_8 : State := b0.modThread 86 (fun y => {y with wait := .access 5 (.atomic 4 true), own := [{page := 3, tid := 5, answer := none}]})
def c4b_8 : State := b0.modThread 86 (fun y => {y with wait := .access 5 (.load .lh 4 0 0)})
theorem test_witness_ThreadAnswers :
    (c4_8.coreOfAgent hc.dst = some (coreOf 86) ∧ c4_8.coreExists (coreOf 86) = true ∧ c4_8.domainOpen (coreOf 86 / 4) = true ∧
      (c4_8.thread (siblingOf 86)).wait = Wait.ready ∧ (c4_8.thread 86).ad = none ∧ (c4_8.thread (siblingOf 86)).ad = none ∧
      (c4_8.core (coreOf 86)).mb = [] ∧ hc.flags = { } ∧ agentPkg hc.src = c4_8.pkgNum ∧ (c4_8.thread 86).exitDue = none ∧
      (c4_8.thread 86).wait = Wait.access hc.tid (Dest.atomic (4 : BitVec 5) true) ∧
      c4_8.behind { type := MsgType.atomRsp, hdr := hc, body := Body.value (9756277977086449272 : Word) } = false) ∧
    (c4_8.coreOfAgent hc.dst = some (coreOf 86) ∧ c4_8.coreExists (coreOf 86) = true ∧ c4_8.domainOpen (coreOf 86 / 4) = true ∧
      (c4_8.thread (siblingOf 86)).wait = Wait.ready ∧ (c4_8.thread 86).ad = none ∧ (c4_8.thread (siblingOf 86)).ad = none ∧
      (c4_8.core (coreOf 86)).mb = [] ∧ hc.flags = { } ∧ agentPkg hc.src = c4_8.pkgNum ∧ (c4_8.thread 86).exitDue = none ∧
      (c4_8.thread 86).own = [c4_7] ∧ c4_7.tid = hc.tid ∧ (c4_8.thread (siblingOf 86)).own = [] ∧
      c4_8.behind { type := MsgType.ownRsp, hdr := hc, body := Body.flag true } = false) ∧
    (c4b_8.coreOfAgent hc.dst = some (coreOf 86) ∧ c4b_8.coreExists (coreOf 86) = true ∧ c4b_8.domainOpen (coreOf 86 / 4) = true ∧
      (c4b_8.thread (siblingOf 86)).wait = Wait.ready ∧ (c4b_8.thread 86).ad = none ∧ (c4b_8.thread (siblingOf 86)).ad = none ∧
      (c4b_8.core (coreOf 86)).mb = [] ∧ hc.flags = { } ∧ agentPkg hc.src = c4b_8.pkgNum ∧ (c4b_8.thread 86).exitDue = none ∧
      (c4b_8.thread 86).wait = Wait.access hc.tid (Dest.load LoadOp.lh (4 : BitVec 5) (0 : BitVec 8) (0 : Word)) ∧
      c4b_8.behind { type := MsgType.ucRsp, hdr := hc, body := Body.value (9756277977086461560 : Word) } = false) := by decide +kernel

def c5_9 : CLine := {cl with frozen := true}
def c5_10 : State := (b0.modCore 43 (fun k => { k with eb := [eb], l2 := [(0x1234 % 2048 * 16, {cl with frozen := true})] }))
def c6_2 : Hdr := {hc with src := agentId 0 2 48}
def c6_4 : TlbiOut := {seq := 3, issued := 0, left := [0], args := ta}
def c6_5 : State := {b0.modThread 86 (fun y => {y with tlbis := [{seq := 3, issued := 0, left := [0], args := ta}]}) with tlbiUnit := [{args := ta, dies := [2]}]}
def c6b_2 : Hdr := {hc with src := agentId 0 2 48}
def c6b_4 : TlbiOut := {seq := 3, issued := 0, left := [0], args := ta}
def c6b_5 : State := {b0.modThread 86 (fun y => {y with wait := .syncT, tlbis := [{seq := 3, issued := 0, left := [0], args := ta}]}) with tlbiUnit := [{args := ta, dies := [2]}]}
theorem test_witness_DieAnswers :
    (c5_10.coreOfAgent hc.dst = some 43 ∧ c5_10.coreExists 43 = true ∧ c5_10.domainOpen (43 / 4 : ℕ) = true ∧ agentDie hc.dst < 12 ∧
      agentUnit hc.dst < 20 ∧ (c5_10.core 43).eb = [eb] ∧ eb.line = hc.addr ∧ eb.issued = true ∧ eb.tid = hc.tid ∧
      (c5_10.core 43).txns = [] ∧ (c5_10.core 43).l2Flushing = false ∧ agentPkg hc.src = c5_10.pkgNum ∧
      c5_10.behind { type := MsgType.wbAck, hdr := hc } = false) ∧
    (agentPkg hc.dst = c5_10.pkgNum ∧ agentDie hc.dst = 2 ∧ agentUnit hc.src = 4 ∧
      c5_10.behind { type := MsgType.credit, hdr := hc, body := Body.words [BitVec.ofNat 64 (b2n true), BitVec.ofNat 64 3] } = false) ∧
    (agentPkg hc.dst = c5_10.pkgNum ∧
  agentDie hc.dst = 2 ∧
    (c5_10.core (2 * 20 + 3)).l2Find hc.addr = some (0, c5_9) ∧
      c5_9.st ≠ CState.I ∧
        List.find?
              (fun o =>
                match (c5_10.core (2 * 20 + o)).l2Find hc.addr with
                | some (_, v) => v.frozen
                | none => false)
              (upTo 20) =
            some 3 ∧
          c5_10.behind { type := MsgType.subDone, hdr := hc, body := Body.flag false } = false) ∧
    (agentPkg hc.dst = c5_10.pkgNum ∧
  agentDie hc.dst = 2 ∧
    (c5_10.core (2 * 20 + 3)).l2Find hc.addr = some (0, c5_9) ∧
      c5_9.st ≠ CState.I ∧
        List.find?
              (fun o =>
                match (c5_10.core (2 * 20 + o)).l2Find hc.addr with
                | some (_, v) => v.frozen
                | none => false)
              (upTo 20) =
            some 3 ∧
          c5_9.frozenX = false ∧
      c5_10.behind { type := MsgType.subDone, hdr := hc, body := Body.flag true } = false) ∧
    (agentPkg c6_2.dst = c6_5.pkgNum ∧ agentDie c6_2.dst = 2 ∧
      c6_5.behind { type := MsgType.tlbi, hdr := c6_2, body := Body.tlbi ta } = false) ∧
    (agentPkg c6_2.dst = c6_5.pkgNum ∧ c6_5.tlbiUnit = [{ args := ta, dies := [agentDie c6_2.src] }] ∧
      c6_5.behind { type := MsgType.tlbiDone, hdr := c6_2, body := Body.tlbi ta } = false) ∧
    (agentPkg c6_2.dst = c6_5.pkgNum ∧ posOfTid ta.issuer.toNat = some 86 ∧ (c6_5.thread 86).tlbis = [c6_4] ∧ c6_4.seq = ta.seq ∧
      c6_4.left = [agentPkg c6_2.src] ∧ c6_5.behind { type := MsgType.tlbiAck, hdr := c6_2, body := Body.tlbi ta } = false ∧
      (c6_5.thread 86).wait = Wait.ready) ∧
    (agentPkg c6b_2.dst = c6b_5.pkgNum ∧ posOfTid ta.issuer.toNat = some 86 ∧ (c6b_5.thread 86).tlbis = [c6b_4] ∧ c6b_4.seq = ta.seq ∧
      c6b_4.left = [agentPkg c6b_2.src] ∧ c6b_5.behind { type := MsgType.tlbiAck, hdr := c6b_2, body := Body.tlbi ta } = false ∧
      (c6b_5.thread 86).wait = Wait.syncT) := by
  refine ⟨?_, ?_, ?_, ?_, ?_, ?_, ?_, ?_, ?_, ?_⟩ <;> decide +kernel

def c7b_1 : Hdr := {hj with addr := 0x1240}
def c7b_2 : BitVec 256 := 99 + 2^192
def c7c_1 : Hdr := {hj with realm := 5}
def c7c_5 : State := bj.setFld (regRlmTable1 5) 51 12 1
def z1_4 : List ℕ := []
def z1_5 : State := (bj.writeMem 0x2000 (BitVec.ofNat 512 (2048 * 2^256))).modHome 4 (fun x => { x with lanes := [(0x2020, {next := 2048, done := 2048, out := [2047]})]})
theorem test_witness_HomeAnswers_2 :
    (agentPkg hj.dst = bj.pkgNum ∧ agentDie hj.dst = 12 ∧ agentUnit hj.dst = 4 ∧
      bj.behind { type := MsgType.jrnWr, hdr := hj, body := Body.journal (99 : BitVec 256) } = false ∧
      bj.isWriteLine (BitVec.toNat hj.realm) hj.addr = true ∧
      bj.ownOk (BitVec.toNat hj.realm) (bj.fld (regRlmTable1 (BitVec.toNat hj.realm)) 51 12 * 4096 % 2 ^ 47 / 4096) = true ∧
      16 ≤ BitVec.toNat (bj.peekWord (bj.fld (regRlmTable1 (BitVec.toNat hj.realm)) 51 12 * 4096 + 8)) ∧
      BitVec.toNat (bj.peekWord (bj.fld (regRlmTable1 (BitVec.toNat hj.realm)) 51 12 * 4096 + 8)) ≤ 30 ∧
      (bj.laneAt 4 (bj.fld (regRlmTable1 (BitVec.toNat hj.realm)) 51 12 * 4096 + 4096 + (agentPkg hj.src * 16 + agentUnit hj.src) * 8)).next - BitVec.toNat (bj.peekWord (bj.fld (regRlmTable1 (BitVec.toNat hj.realm)) 51 12 * 4096 + 8192 + (agentPkg hj.src * 16 + agentUnit hj.src) * 8)) < 2 ^ (BitVec.toNat (bj.peekWord (bj.fld (regRlmTable1 (BitVec.toNat hj.realm)) 51 12 * 4096 + 8)) - 5)) ∧
    (agentPkg c7b_1.dst = bj.pkgNum ∧ agentDie c7b_1.dst = 12 ∧ agentUnit c7b_1.dst = 4 ∧
      bj.behind { type := MsgType.jrnWr, hdr := c7b_1, body := Body.journal c7b_2 } = false ∧
      bj.isWriteLine (BitVec.toNat c7b_1.realm) c7b_1.addr = false ∧ (bj.home 4).txns = [] ∧ (bj.home 4).held = [] ∧
      (bj.home 4).recalls = [] ∧ (bj.home 4).recallBuf = [] ∧ (bj.home 4).presence = [] ∧ bj.monitors = [] ∧ bj.reshaping = false ∧
      bj.oldLayout.total = 0 ∧ bj.fld (regHomStatus 4) 1 0 = 0 ∧ linePkg c7b_1.addr = bj.pkgNum ∧ agentPkg c7b_1.src = bj.pkgNum ∧
      bj.admitsPage (BitVec.toNat c7b_1.realm) (pageOfLine (lineIx c7b_1.addr)) = true ∧ c7b_1.flags = { }) ∧
    (agentPkg c7c_1.dst = c7c_5.pkgNum ∧ agentDie c7c_1.dst = 12 ∧ agentUnit c7c_1.dst = 4 ∧
      c7c_5.behind { type := MsgType.jrnWr, hdr := c7c_1, body := Body.journal (99 : BitVec 256) } = false ∧
      c7c_5.isWriteLine (BitVec.toNat c7c_1.realm) c7c_1.addr = true ∧
      c7c_5.ownOk (BitVec.toNat c7c_1.realm) (c7c_5.fld (regRlmTable1 (BitVec.toNat c7c_1.realm)) 51 12 * 4096 % 2 ^ 47 / 4096) = false) ∧
    (agentPkg hj.dst = z1_5.pkgNum ∧ agentDie hj.dst = 12 ∧ agentUnit hj.dst = 4 ∧
      z1_5.behind { type := MsgType.jrnWr, hdr := hj, body := Body.journal (99 : BitVec 256) } = false ∧
      z1_5.isWriteLine (BitVec.toNat hj.realm) hj.addr = true ∧
      z1_5.ownOk (BitVec.toNat hj.realm) (z1_5.fld (regRlmTable1 (BitVec.toNat hj.realm)) 51 12 * 4096 % 2 ^ 47 / 4096) = true ∧
      16 ≤ BitVec.toNat (z1_5.peekWord (z1_5.fld (regRlmTable1 (BitVec.toNat hj.realm)) 51 12 * 4096 + 8)) ∧
      BitVec.toNat (z1_5.peekWord (z1_5.fld (regRlmTable1 (BitVec.toNat hj.realm)) 51 12 * 4096 + 8)) ≤ 30 ∧
      2 ^ (BitVec.toNat (z1_5.peekWord (z1_5.fld (regRlmTable1 (BitVec.toNat hj.realm)) 51 12 * 4096 + 8)) - 5) ≤ (z1_5.laneAt 4 (z1_5.fld (regRlmTable1 (BitVec.toNat hj.realm)) 51 12 * 4096 + 4096 + (agentPkg hj.src * 16 + agentUnit hj.src) * 8)).next - BitVec.toNat (z1_5.peekWord (z1_5.fld (regRlmTable1 (BitVec.toNat hj.realm)) 51 12 * 4096 + 8192 + (agentPkg hj.src * 16 + agentUnit hj.src) * 8)) ∧
      (z1_5.laneAt 4 (z1_5.fld (regRlmTable1 (BitVec.toNat hj.realm)) 51 12 * 4096 + 4096 + (agentPkg hj.src * 16 + agentUnit hj.src) * 8)).out = 2047 :: z1_4 ∧
      2047 ≤ (z1_5.laneAt 4 (z1_5.fld (regRlmTable1 (BitVec.toNat hj.realm)) 51 12 * 4096 + 4096 + (agentPkg hj.src * 16 + agentUnit hj.src) * 8)).done) := by
  refine ⟨?_, ?_, ?_, ?_⟩ <;> decide +kernel
end F1

namespace G1
abbrev b0 : State := State.reset.setFld regGlbMode 3 0 6
abbrev hd : Hdr := { tid := 5, src := agentId 1 3 2, dst := agentId 0 12 4, addr := 0x1234, stamp := 7, rank := 9, realm := 0, cr := 1 }
abbrev pk : Pkt := { route := { src := 1, dst := 0, len := 2 }, msg := { type := .rdS, hdr := hd } }
abbrev fc (f : Flit) : Flit := {f with crc := crc32c 0 f.bytes}
abbrev fl : Flit := fc { head := BitVec.ofNat 32 (0 + 7 * 2^16), slots := (BitVec.ofNat 128 (2^5 + 2 * 2^15)) :: List.replicate 14 0, tail := BitVec.ofNat 64 (2^36), pkts := [pk] }
abbrev fi (k : Nat) (tail : Word) : Flit := fc { head := BitVec.ofNat 32 (k * 2^12 + 7 * 2^16), tail := tail }
abbrev bl (st : Nat) : State := (b0.setFld (regOctCfg 3) 6 4 1).setLinkState 3 st
abbrev tf : TxFlit := { seq := 7, pkts := [pk] }

def c1_9 : State := (bl 3).modLink 3 (fun l => {l with rxSeq := 0xfff})
def c1b_1 : Flit := {fl with crc := 5}
def c1b_9 : State := {(bl 3).modLink 3 (fun l => {l with replay := [tf]}) with clause := 400}
def c1c_1 : Flit := {fl with rx := {uncorr := 1}}
def c1c_9 : State := {(bl 3).modLink 3 (fun l => {l with replay := [tf], nakAt := some 300}) with clause := 400}
def c1d_1 : Flit := fi 1 (3 + 4 * 2^8)
def c1d_5 : List TxFlit := []
def c1d_9 : State := {(bl 3).modLink 3 (fun l => {l with replay := [tf]}) with clause := 400}
def c1e_1 : Flit := fi 2 0
def c1e_4 : TxFlit := {tf with seq := 8}
def c1e_9 : State := {(bl 3).modLink 3 (fun l => {l with replay := [{tf with seq := 8}]}) with clause := 100}
theorem test_witness_Flits :
    (c1_9.linkCarries 3 = true ∧ bit (c1_9.reg regGlbInject) 63 = false ∧ fl.intact = true ∧ fl.kind = kindData ∧
      fl.seq = (c1_9.link 3).rxSeq + (1 : BitVec 12) ∧ fl.begun = [(0, pk)] ∧ 0 + pk.route.len.toNat ≤ 15 ∧ fl.crets = [] ∧
      (c1_9.link 3).rxRest = none ∧ 2 ≤ pk.route.len.toNat ∧ pk.route.reserved = (0 : BitVec 11) ∧ pk.unknown = none ∧
      pk.route.flood = false ∧ BitVec.toNat pk.route.dst = c1_9.pkgNum ∧ (c1_9.link 3).replay = []) ∧
    (c1_9.linkCarries 3 = true ∧ bit (c1_9.reg regGlbInject) 63 = false ∧
      BitVec.toNat c1_9.clause < BitVec.toNat (c1_9.link 3).lastAck + 256) ∧
    (c1b_9.linkCarries 3 = true ∧ bit (c1b_9.reg regGlbInject) 63 = false ∧ (c1b_1.intact = false ∨ c1b_1.kind = kindData ∧
      c1b_1.seq ≠ (c1b_9.link 3).rxSeq + (1 : BitVec 12)) ∧ (c1b_9.link 3).nakAt = none) ∧
    (c1b_9.linkCarries 3 = true ∧ bit (c1b_9.reg regGlbInject) 63 = false ∧ c1b_1.intact = false) ∧
    (c1b_9.linkCarries 3 = true ∧ bit (c1b_9.reg regGlbInject) 63 = false ∧ (c1b_9.link 3).replay = [tf] ∧
      tf.resends + 1 < c1b_9.fld (regTrlLinkctl 3) 23 16 ∧ BitVec.toNat (c1b_9.link 3).lastAck + 256 ≤ BitVec.toNat c1b_9.clause) ∧
    (c1c_9.linkCarries 3 = true ∧ bit (c1c_9.reg regGlbInject) 63 = false ∧ (c1c_1.intact = false ∨ c1c_1.kind = kindData ∧
      c1c_1.seq ≠ (c1c_9.link 3).rxSeq + (1 : BitVec 12)) ∧ (c1c_9.link 3).nakAt = some (300 : Word) ∧
      BitVec.toNat c1c_9.clause < BitVec.toNat (300 : Word) + 256) ∧
    (c1d_9.linkCarries 3 = true ∧ bit (c1d_9.reg regGlbInject) 63 = false ∧ c1d_1.intact = true ∧ c1d_1.kind = kindIdle ∧
      (c1d_9.link 3).replay = tf :: c1d_5 ∧ c1d_1.ackseq = tf.seq ∧ c1d_1.crets = [(4, 3)]) ∧
    (c1e_9.linkCarries 3 = true ∧ bit (c1e_9.reg regGlbInject) 63 = false ∧ c1e_1.intact = true ∧ c1e_1.kind = kindNak ∧
      (c1e_9.link 3).replay = [c1e_4] ∧ c1e_1.ackseq ≠ c1e_4.seq ∧ c1e_1.crets = [] ∧
      c1e_4.resends + 1 < c1e_9.fld (regTrlLinkctl 3) 23 16) := by
  refine ⟨?_, ?_, ?_, ?_, ?_, ?_, ?_, ?_⟩ <;> decide +kernel
end G1

namespace G2
abbrev b0 : State := State.reset.setFld regGlbMode 3 0 6
abbrev hd : Hdr := { tid := 5, src := agentId 1 3 2, dst := agentId 0 12 4, addr := 0x1234, stamp := 7, rank := 9, realm := 0, cr := 1 }
abbrev pk : Pkt := { route := { src := 1, dst := 0, len := 2 }, msg := { type := .rdS, hdr := hd } }
abbrev fc (f : Flit) : Flit := {f with crc := crc32c 0 f.bytes}
abbrev fi (k : Nat) (tail : Word) : Flit := fc { head := BitVec.ofNat 32 (k * 2^12 + 7 * 2^16), tail := tail }
abbrev bl (st : Nat) : State := (b0.setFld (regOctCfg 3) 6 4 1).setLinkState 3 st
abbrev fw : Flit := fi 3 0

def c2_8 : State := {((bl 3).setFld (regTrlLinkctl 3) 15 4 0).modLink 3 (fun l => {l with queue := [pk]}) with clause := 400}
def c2a_8 : State := {(bl 1).modLink 3 (fun l => {l with queue := [pk]}) with clause := 400}
def c2b_8 : State := {(bl 2).modLink 3 (fun l => {l with agreeing := some 50, met := true}) with clause := 400}
def c2c_8 : State := {(bl 1).modLink 3 (fun l => {l with queue := [pk], full := true, attempts := 2}) with clause := 400}
def zz2_8 : State := {(bl 2).modLink 3 (fun l => {l with agreeing := some 50, met := true}) with clause := 113}
def c3_5 : State := (bl 1).setFld regGlbMode 3 0 3
def c3b_5 : State := (bl 1).setFld regGlbMode 3 0 3
def c2y_8 : State := {((bl 3).setFld (regTrlLinkctl 3) 15 4 3).modLink 3 (fun l => {l with queue := [pk], laneSyms := [(4, [(300, 2), (350, 1)])]}) with clause := 400}
theorem test_witness_Retrains :
    (c2_8.isTrail 3 = true ∧ c2_8.linkState 3 = linkUp) ∧
    (c2_8.isTrail 3 = true ∧ c2_8.linkState 3 = linkUp ∧ c2_8.mode ≠ modeTrain) ∧
    (c2a_8.isTrail 3 = true ∧ c2a_8.linkState 3 = linkTrainingSt ∧ (c2a_8.link 3).full = false ∧ c2a_8.mode ≠ modeTrain) ∧
    (c2b_8.isTrail 3 = true ∧ c2b_8.linkState 3 = linkAgreeing ∧ fw.intact = true ∧ fw.kind = kindWidth ∧
      c2b_8.widthOk 3 (widthOf ((c2b_8.link 3).good &&& (255 : BitVec 8)) (if BitVec.toNat (2 : BitVec 2) < (widthOf (c2b_8.link 3).good 3).1 then BitVec.toNat (2 : BitVec 2) else (widthOf (c2b_8.link 3).good 3).1)).1 = true) ∧
    (c2b_8.isTrail 3 = true ∧ c2b_8.linkState 3 = linkAgreeing ∧ fw.intact = true ∧ fw.kind = kindWidth ∧ (c2b_8.link 3).met = true ∧
      (c2b_8.link 3).isolated = false ∧ (c2b_8.link 3).replay = []) ∧
    (c2b_8.isTrail 3 = true ∧ c2b_8.linkState 3 = linkAgreeing ∧ (c2b_8.link 3).agreeing = some (50 : Word) ∧
      BitVec.toNat (50 : Word) + 64 ≤ BitVec.toNat c2b_8.clause) ∧
    (c2c_8.isTrail 3 = true ∧ c2c_8.linkState 3 = linkTrainingSt ∧ (c2c_8.link 3).full = true ∧ (c2c_8.link 3).isolated = false ∧
      (c2c_8.link 3).replay = [] ∧ c2c_8.widthOk 3 (widthOf ((255 : BitVec 8) &&& (15 : BitVec 8)) 3).1 = true) ∧
    (c2c_8.isTrail 3 = true ∧ c2c_8.linkState 3 = linkTrainingSt ∧ (c2c_8.link 3).full = true ∧ (c2c_8.link 3).attempts = 2) ∧
    (zz2_8.isTrail 3 = true ∧ (zz2_8.link 3).agreeing = some (50 : Word) ∧ BitVec.toNat zz2_8.clause < BitVec.toNat (50 : Word) + 64) ∧
    (c3_5.mode = modeTrain ∧ c3_5.isTrail 3 = true ∧ c3_5.linkState 3 = linkTrainingSt ∧
      c3_5.widthOk 3 (widthOf ((255 : BitVec 8) &&& (15 : BitVec 8)) 3).1 = true) ∧
    (c3_5.mode = modeTrain ∧ c3_5.isTrail 3 = true ∧ c3_5.linkState 3 = linkTrainingSt) ∧
    (c3b_5.mode = modeTrain ∧ c3b_5.isTrail 3 = true ∧ c3b_5.linkState 3 = linkTrainingSt ∧
      c3b_5.widthOk 3 (widthOf ((255 : BitVec 8) &&& (0 : BitVec 8)) 3).1 = false) ∧
    (c2y_8.isTrail 3 = true ∧ c2y_8.linkState 3 = linkUp ∧ c2y_8.fld (regTrlLinkctl 3) 15 4 ≠ 0 ∧
      c2y_8.fld (regTrlLinkctl 3) 15 4 ≤ c2y_8.laneSum 3 4) := by
  refine ⟨?_, ?_, ?_, ?_, ?_, ?_, ?_, ?_, ?_, ?_, ?_, ?_, ?_⟩ <;> decide +kernel
end G2

namespace H1
abbrev bm (m : Nat) : State := State.reset.setFld regGlbMode 3 0 m /-- a member 0 of an image of 0,1,2 with manager 0 standby 1 -/
abbrev mgr (m : Nat) : State := (((bm m).setReg regTrlImage (BitVec.ofNat 64 (0 + 32 + 0 + 2^16 + 2^22 + 7 * 2^32))).setFld regClkStatus 3 3 1).setFld regGlbMode 7 4 6
abbrev wrk (m : Nat) : State := ((bm m).setReg regTrlImage (BitVec.ofNat 64 (1 + 32 + 0 + 2^16 + 2^22 + 7 * 2^32))).setFld regGlbMode 7 4 6
abbrev rr : Rec := { clause := 7, code := 0x3051, origin := 5, realm := 0, p0 := 1, p1 := 2, p2 := 3, p3 := 4}
abbrev ev : Event := { stamp := 7, rank := 8, origin := 5, kind := .record, recs := [rr] }
abbrev idn : Ident := { serial := 77, mgrSel := true }
abbrev jj : JoinJob := { cmd := {}, regime := 1, minPkg := 1, table := [], re := false }

def c1_7 : Align := {xid := 5, left := 3}
def c1_8 : State := {mgr 2 with image := {align := some {xid := 5, left := 3}}, clause := 5}
def c1a_8 : State := (mgr 6).setFld regClkStatus 0 0 1
def c1b_8 : State := bm 5
def c2_2 : State := wrk 6
def y1_0 : List Exchange := [{t1 := 1000, t2 := 1100, tm := 1050, ta := 10}]
def y1_1 : ℤ × ℤ := (90, -5)
def y1_2 : State := (wrk 6).setFld regClkStatus 0 0 1
def y2_0 : List Exchange := []
def y2_2 : State := ((wrk 6).setFld regClkStatus 0 0 1).setFld regClkStatus 11 8 3
theorem test_witness_ClauseClock :
    (c1_8.mode = modeSense) ∧
    (c1_8.fld regClkStatus 0 0 = 0) ∧
    (c1_8.timeSource = true ∧ c1_8.joined = true) ∧
    (c1_8.image.align = some c1_7 ∧ c1_7.xid = (5 : BitVec 12) ∧ c1_7.paused = false ∧ 2 ≤ c1_7.left) ∧
    (c1_8.canQuiesce = true ∧ c1_8.image.realignAsked = [] ∧ c1_8.isMember (BitVec.toNat (2 : Pkg)) = true) ∧
    (c1a_8.mode ≠ modeSense) ∧
    (c1a_8.fld regClkStatus 0 0 = 1 ∧ modeStandby < c1a_8.mode ∧ c1a_8.mode ≠ modeHalt) ∧
    (c1b_8.isManager = false ∧ c1b_8.mode = modeJoin) ∧
    (c2_2.joined = true ∧ c2_2.isManager = false ∧ c2_2.mode ≠ modeHalt ∧ c2_2.fld regClkStatus 0 0 = 0) ∧
    (y1_2.joined = true ∧ y1_2.isManager = false ∧ y1_2.mode ≠ modeHalt ∧ y1_2.fld regClkStatus 0 0 = 1 ∧ bestExchange y1_0 = some y1_1 ∧
      y1_1.2.natAbs < 32 ∧ (0 : ℤ) ≤ y1_1.1 ∧ y1_1.1 < (65536 : ℤ)) ∧
    (y2_2.joined = true ∧ y2_2.isManager = false ∧ y2_2.mode ≠ modeHalt ∧ y2_2.fld regClkStatus 0 0 = 1 ∧ bestExchange y2_0 = none ∧
      y2_2.fld regClkStatus 11 8 < 8) := by
  refine ⟨?_, ?_, ?_, ?_, ?_, ?_, ?_, ?_, ?_, ?_, ?_⟩ <;> decide +kernel

def c3_2 : State := {mgr 6 with events := [ev], clause := 1000000}
def c3a_2 : State := {mgr 6 with events := [ev], clause := 7}
def c3b_2 : State := mgr 6
theorem test_witness_ClauseResolves :
    (c3_2.events = [ev] ∧ BitVec.toNat ev.clause + c3_2.horizon ≤ BitVec.toNat c3_2.clause ∧ ev.kind = EventKind.record ∧ ev.recs = [rr] ∧
      c3_2.log.queue.length < 4096) ∧
    (c3a_2.events = [ev] ∧ BitVec.toNat c3a_2.clause < BitVec.toNat ev.clause + c3a_2.horizon) ∧
    (c3b_2.events = []) := by decide +kernel

def c4_4 : State := {bm 4 with clause := 9}
def c4a_2 : Assign := {serial := 0, num := 3, members := 9, manager := 0}
def c4a_4 : State := {bm 5 with clause := 9, image := {join := some jj}}
def c4b_4 : State := {bm 5 with clause := 900000, image := {join := some jj, idents := [idn]}}
def c5_0 : Ident := {serial := 0}
def c5_2 : State := {(bm 5) with clause := 900000, image := {join := some jj, idents := [{serial := 0}]}}
theorem test_witness_ImageForms :
    (c4_4.mode = modeSealed ∧ (5 : Word) ≠ c4_4.reg regMshIoserial) ∧
    (c4a_4.image.join = some jj ∧ jj.step = 1 ∧ (c4a_4.image.idents.any fun x => decide (x.serial = idn.serial)) = false) ∧
    (c4a_2.serial = c4a_4.reg regMshIoserial ∧ c4a_4.mode = modeJoin ∧ c4a_2.members ≠ (0 : BitVec 32)) ∧
    (c4a_4.image.join = some jj ∧ BitVec.toNat c4a_4.clause < BitVec.toNat c4a_4.image.lastIdent + 250000) ∧
    (c4b_4.image.join = some jj ∧ jj.step = 1 ∧ jj.re = false ∧ c4b_4.mode = modeJoin ∧ c4b_4.joined = false ∧
      BitVec.toNat c4b_4.image.lastIdent + 250000 ≤ BitVec.toNat c4b_4.clause ∧
      ((List.filter (fun i => decide (i.serial ≠ c4b_4.reg regMshIoserial)) c4b_4.image.idents).any fun x => x.mgrSel) = true) ∧
    (c5_2.image.join = some jj ∧ jj.step = 1 ∧ jj.re = false ∧ jj.table = [] ∧ jj.minPkg ≤ 1 ∧ (jj.regime = 1 ∨ jj.regime = 2) ∧
      c5_2.mode = modeJoin ∧ c5_2.joined = false ∧ c5_2.image.idents = [c5_0] ∧ c5_0.serial = c5_2.reg regMshIoserial ∧ c5_0.links = [] ∧
      c5_0.stby = false ∧ BitVec.toNat c5_2.image.lastIdent + 250000 ≤ BitVec.toNat c5_2.clause ∧ c5_2.holdsFenced = false ∧
      c5_2.trailOctets = [] ∧ BitVec.toNat c5_2.clause < 2 ^ 62 ∧ BitVec.toNat c5_0.clause < 2 ^ 62) := by
  refine ⟨?_, ?_, ?_, ?_, ?_, ?_⟩ <;> decide +kernel
end H1

namespace H2
abbrev bm (m : Nat) : State := State.reset.setFld regGlbMode 3 0 m /-- a member 0 of an image of 0,1,2 with manager 0 standby 1 -/
abbrev mgr (m : Nat) : State := (((bm m).setReg regTrlImage (BitVec.ofNat 64 (0 + 32 + 0 + 2^16 + 2^22 + 7 * 2^32))).setFld regClkStatus 3 3 1).setFld regGlbMode 7 4 6
abbrev wrk (m : Nat) : State := ((bm m).setReg regTrlImage (BitVec.ofNat 64 (1 + 32 + 0 + 2^16 + 2^22 + 7 * 2^32))).setFld regGlbMode 7 4 6
abbrev rt : List Word := [1,2,3]
abbrev ch : RouteChange := {pkg := 1, octet := 3, started := 5, waiting := [2, 1]}
abbrev ev (k : EventKind) : Event := { stamp := 7, rank := 6, origin := 6, kind := k }
abbrev ve (k : EventKind) (s : State) : State := { s with events := [ev k], clause := 1000 }
abbrev ac : Accept := {cmd := {}, mirror := 1, since := 3}
abbrev zz : Quiesce := {purpose := .command, cut := 100, waiting := [2, 0]}

def c5_0 : Ident := {serial := 0}
def c5_1 : JoinJob := {cmd := {}, regime := 2, minPkg := 1, table := [], re := false}
def c5_2 : State := {(bm 5) with clause := 900000, image := {join := some {cmd := {}, regime := 2, minPkg := 1, table := [], re := false}, idents := [{serial := 0}]}}
theorem test_witness_ImageForms_2 :
    (c5_2.image.join = some c5_1 ∧ c5_1.step = 1 ∧ c5_1.re = false ∧ c5_1.table = [] ∧ c5_1.minPkg ≤ 1 ∧
      (c5_1.regime = 1 ∨ c5_1.regime = 2) ∧ c5_2.mode = modeJoin ∧ c5_2.joined = false ∧ c5_2.image.idents = [c5_0] ∧
      c5_0.serial = c5_2.reg regMshIoserial ∧ c5_0.links = [] ∧ c5_0.stby = false ∧
      BitVec.toNat c5_2.image.lastIdent + 250000 ≤ BitVec.toNat c5_2.clause ∧ c5_2.holdsFenced = false ∧ c5_2.trailOctets = [] ∧
      BitVec.toNat c5_2.clause < 2 ^ 62 ∧ BitVec.toNat c5_0.clause < 2 ^ 62) := by decide +kernel

def c6_6 : State := {mgr 6 with clause := 600000, image := {newRoutes := rt, change := some ch}}
def c6a_4 : RouteChange := {ch with waiting := [2]}
def c6a_6 : State := {mgr 6 with clause := 600000, image := {newRoutes := rt, change := some {ch with waiting := [2]}}}
def z6_6 : State := mgr 6
theorem test_witness_RoutesAndRegime :
    (c6_6.mode ≠ modeJoin) ∧
    (c6_6.image.newRoutes = rt ∧ rt ≠ [] ∧ c6_6.trailOctets = []) ∧
    (c6_6.image.change = some ch ∧ ch.waiting = [BitVec.toNat (2 : Pkg), 1] ∧ 1 ≠ BitVec.toNat (2 : Pkg)) ∧
    (c6_6.image.change = some ch ∧ BitVec.toNat ch.started + 500000 ≤ BitVec.toNat c6_6.clause ∧ modeStandby < c6_6.mode ∧
      c6_6.mode ≠ modeHalt) ∧
    (c6_6.joined = true ∧ (2 : BitVec 2) ≠ (0 : BitVec 2)) ∧
    (c6a_6.image.change = some c6a_4 ∧ c6a_4.waiting = [BitVec.toNat (2 : Pkg)]) ∧
    (z6_6.image.change = none) := by
  refine ⟨?_, ?_, ?_, ?_, ?_, ?_, ?_⟩ <;> decide +kernel

def c7_4 : State := mgr 6
def c7a_3 : Event := ev .degrade
def c7a_4 : State := ve .degrade ((wrk 6).setFld regTrlHeartbeat 31 0 6000000)
def c7b_3 : Event := ev .takeover
def c7b_4 : State := ve .takeover {(wrk 6).setFld regTrlHeartbeat 31 0 2500000 with image := {heardAt := some 7}}
def c7c_4 : State := {((((wrk 6).setFld regGlbMode 7 4 8).setFld (regOctCfg 3) 6 4 1).setLinkState 3 3).setReg (regTrlRoute 0) 0x9008 with clause := 700000, image := {heardAt := some 7}}
def c8_7 : State := {mgr 6 with clause := 700000, epf := {mirrorSent := 1, accepting := [ac]}}
def c8a_7 : State := wrk 6
theorem test_witness_WatchOverTheManager :
    (c7_4.isManager = true ∧ c7_4.joined = true ∧ c7_4.mode ≠ modeHalt) ∧
    (c7_4.joined = true) ∧
    (c7_4.joined = true ∧ BitVec.toNat (2 : Pkg) ≠ c7_4.pkgNum ∧ c7_4.isManager = true) ∧
    (c7_4.silence < 5000000) ∧
    (c7a_4.joined = true ∧ BitVec.toNat (0 : Pkg) = c7a_4.managerNum) ∧
    (c7a_4.isStandby = true ∧ c7a_4.image.askAgain ≤ c7a_4.silence ∧ c7a_4.image.heardAt = none) ∧
    (c7a_4.joined = true ∧ BitVec.toNat (0 : Pkg) ≠ c7a_4.pkgNum ∧ c7a_4.isManager = false) ∧
    (c7a_4.events = [c7a_3] ∧ c7a_3.kind = EventKind.degrade ∧ c7a_3.recs = [] ∧
      BitVec.toNat c7a_3.clause + c7a_4.horizon ≤ BitVec.toNat c7a_4.clause ∧ (c7a_4.mode = modeRunI ∨ c7a_4.mode = modeRunS)) ∧
    (c7a_4.joined = true ∧ c7a_4.isManager = false ∧ modeStandby < c7a_4.mode ∧ c7a_4.mode ≠ modeHalt ∧ 5000000 ≤ c7a_4.silence) ∧
    (c7b_4.image.heardAt = some (7 : Word) ∧ c7b_4.image.heard = [] ∧ c7b_4.workersAsked = [BitVec.toNat (2 : Pkg)] ∧
      BitVec.toNat (50 : BitVec 32) < 500000) ∧
    (c7b_4.events = [c7b_3] ∧ c7b_3.kind = EventKind.takeover ∧ c7b_3.recs = [] ∧
      BitVec.toNat c7b_3.clause + c7b_4.horizon ≤ BitVec.toNat c7b_4.clause ∧ c7b_4.isStandby = true ∧ c7b_4.mode ≠ modeHalt) ∧
    (c7b_4.image.heardAt = some (7 : Word) ∧ BitVec.toNat c7b_4.clause < BitVec.toNat (7 : Word) + 250000) ∧
    (c7c_4.image.heardAt = some (7 : Word) ∧ BitVec.toNat (7 : Word) + 250000 ≤ BitVec.toNat c7c_4.clause ∧ c7c_4.image.heard = [] ∧
      c7c_4.joined = true ∧ (c7c_4.upOctets.any fun n => bit (c7c_4.reg (regTrlRoute c7c_4.managerNum)) n) = true) ∧
    (c8_7.isManager = true ∧ c8_7.epf.mirrorAcked < c8_7.epf.mirrorSent) ∧
    (c8_7.epf.accepting = [ac] ∧ c8_7.epf.mirrorAcked < ac.mirror ∧ BitVec.toNat ac.since + 250000 ≤ BitVec.toNat c8_7.clause ∧
      c8_7.isManager = true ∧ c8_7.fld regTrlImage 22 22 = 1) ∧
    (c8_7.isManager = true ∧ c8_7.openClause ≤ BitVec.toNat (800000 : Word) ∧ ownKind EventKind.record = false) ∧
    (c8_7.joined = true ∧ modeStandby < c8_7.mode ∧ c8_7.mode ≠ modeHalt) ∧
    (c8a_7.isManager = false) ∧
    (c8a_7.epf.accepting = []) := by
  refine ⟨?_, ?_, ?_, ?_, ?_, ?_, ?_, ?_, ?_, ?_, ?_, ?_, ?_, ?_, ?_, ?_, ?_, ?_, ?_⟩ <;> decide +kernel

def c9_7 : State := {mgr 6 with clause := 3000000, image := {cutAt := some 100, quiesce := some zz}}
def c9a_7 : State := {wrk 8 with clause := 3000000, image := {cutAt := some 100, releaseAt := some 50}}
def z9_7 : State := {mgr 6 with clause := 99, image := {cutAt := some 100, quiesce := some zz}}
def z9b_4 : Quiesce := {zz with waiting := [2]}
def z9b_7 : State := {mgr 6 with clause := 99, image := {cutAt := some 100, quiesce := some {zz with waiting := [2]}}}
def z9c_4 : Quiesce := {zz with waiting := [], cmd := some {}}
def z9c_5 : Event := ev (.quiesced 100)
def z9c_6 : Command := {}
def z9c_7 : State := ve (.quiesced 100) {mgr 8 with image := {cutAt := some 100, quiesce := some {zz with waiting := [], cmd := some {}}}}
theorem test_witness_CutAndRelease :
    (c9_7.joined = true) ∧
    (c9_7.image.cutAt = some (100 : Word) ∧ BitVec.toNat (100 : Word) ≤ BitVec.toNat c9_7.clause ∧
      (c9_7.mode = modeRunI ∨ c9_7.mode = modeRunS)) ∧
    (c9_7.isManager = true ∧ c9_7.image.quiesce = some zz ∧ zz.complete = false ∧ zz.waiting = [BitVec.toNat (2 : Pkg), 0] ∧
      0 ≠ BitVec.toNat (2 : Pkg)) ∧
    (c9_7.image.quiesce = some zz ∧ zz.complete = false ∧ modeStandby < c9_7.mode ∧ c9_7.mode ≠ modeHalt ∧
      BitVec.toNat zz.cut + 2500000 ≤ BitVec.toNat c9_7.clause) ∧
    (c9a_7.isManager = false ∧ BitVec.toNat (0 : Pkg) = c9a_7.managerNum) ∧
    (c9a_7.image.quiesce = none) ∧
    (c9a_7.image.releaseAt = some (50 : Word) ∧ BitVec.toNat (50 : Word) ≤ BitVec.toNat c9a_7.clause ∧ c9a_7.mode = modeQuiesce ∧
      c9a_7.image.quiesce = none) ∧
    (z9_7.image.cutAt = some (100 : Word) ∧ BitVec.toNat z9_7.clause < BitVec.toNat (100 : Word)) ∧
    (z9b_7.isManager = true ∧ z9b_7.image.quiesce = some z9b_4 ∧ z9b_4.complete = false ∧ z9b_4.waiting = [BitVec.toNat (2 : Pkg)]) ∧
    (z9c_7.events = [z9c_5] ∧ z9c_5.kind = EventKind.quiesced z9c_4.cut ∧ z9c_5.recs = [] ∧
      BitVec.toNat z9c_5.clause + z9c_7.horizon ≤ BitVec.toNat z9c_7.clause ∧ z9c_7.image.quiesce = some z9c_4 ∧ z9c_4.complete = false ∧
      z9c_4.waiting = [] ∧ z9c_4.purpose = Purpose.command ∧ z9c_4.cmd = some z9c_6 ∧ z9c_6.gen = z9c_7.epf.gen) := by
  refine ⟨?_, ?_, ?_, ?_, ?_, ?_, ?_, ?_, ?_, ?_⟩ <;> decide +kernel
end H2

namespace I1
abbrev bm (m : Nat) : State := State.reset.setFld regGlbMode 3 0 m
abbrev de : DirEntry := { quot := 3, age := 5 }
abbrev ds : State := { (((bm 6).setFld (regDirStatus 2) 2 1 1).setFld regDirLayout 63 32 100) with dirAge := 200, dirScrubAt := [(2, 13)], dirMem := [(33554445, de)] }
abbrev hh : Hdr := { src := agentId 0 3 5, dst := agentId 0 12 96, tid := 9, rank := 3 }
abbrev rs : State := (bm 6)
abbrev h2 : Hdr := { src := agentId 0 12 96, dst := agentId 0 0 1, tid := 9, rank := 3 }
abbrev gr : State := ((rs.setFld (regTktGrant0 3) 8 8 1).setFld (regTktGrant0 3) 4 0 0).setReg (regTktGrant1 3) 99
abbrev mm : Msg := { type := .regRead, hdr := hh, body := .reg (BitVec.ofNat 40 0xe00000) 8 0 }
abbrev hp : HeldPacket := { msg := mm, dom := 60, first := 5, next := 30 }
abbrev md : State := { ((bm 6).setFld (regBrgStatus 2) 0 0 1) with domains := [(60, { phase := .closed })], sent := [mm], clause := 29 }
abbrev dr : State := { ((bm 6).setFld (regDmcScrub 3) 0 0 1) with openRow := [((3*1024+5*4+2)*64+7, 9), (77, 3)], powerDown := [29, 4], dramBad := [], written := [(0, 1000000)], mem := [⟨64*12288+5, 7⟩] }
abbrev r1 : Rec := { clause := 7, code := 0x3051, origin := 5, realm := 0, p0 := 1, p1 := 2, p2 := 3, p3 := 4}
abbrev q1 : QRec := { proc := 5, rank := 8, r := r1 }
abbrev tl : State := { ((bm 6).setReg regTlgHead 65540).setReg regTlgTail 4 with log := { queue := [q1], buckets := [(0x3051, 3), (0x3052, 7)] } }
abbrev cd : State := ((((bm 6).setReg regDmcTop (BitVec.ofNat 64 (2^40))).setFld regPccDumpctl 0 0 1).setFld regGlbBoot 3 3 1).setFld regPccDumpbase 51 21 2
abbrev dj : DumpJob := { number := 3, addr := 0x400000, clause := 9, header := 77 }
abbrev dz : State := { ((bm 6).setFld (regDmcScrub 0) 0 0 1) with written := [(0, 1000000)], mem := [⟨64*12288+5, 7⟩] }
abbrev tw : State := { (tl.setReg regTrlImage (BitVec.ofNat 64 (1 + 32 + 0 + 2^16 + 2^22 + 7 * 2^32))) with counting := true, clause := 5 }

def a1b_2 : State := {ds with dirScrubAt := [(1, 899)]}
def a1c_2 : State := ((({ds with dirMem := []}).setFld regDirLayout 7 0 3).setFld regDirReshape 0 0 1).setReg regDirCursor (BitVec.ofNat 64 (100*2^32 + 7))
def a1d_2 : State := (((({ds with dirMem := []}).setFld regDirLayout 7 0 3).setFld regDirReshape 0 0 1).setFld regDirReshape 17 10 7).setReg regDirCursor (BitVec.ofNat 64 (100*2^32 + 100))
theorem test_witness_DirectoryEvents :
    (ds.fld (regDirStatus 2) 2 1 = 1 ∧ bit (ds.reg regGlbInject) 63 = false ∧ Tbl.get 0 ds.dirScrubAt 2 % 9 ≠ 0 ∧
      ds.dirMem.find (dirLoc 2 (Tbl.get 0 ds.dirScrubAt 2 / 9) (Tbl.get 0 ds.dirScrubAt 2 % 9 - 1)) = some de ∧ de.bad = 0) ∧
    ((∃ x ∈ ds.dirMem, x.1 / 2 ^ 24 = 2) ∧ modeStandby < ds.mode ∧ ds.mode ≠ modeHalt) ∧
    (ds.reshaping = false) ∧
    (a1b_2.fld (regDirStatus 1) 2 1 ≠ 1) ∧
    (∀ x ∈ a1b_2.dirMem, x.1 / 2 ^ 24 ≠ 1) ∧
    (a1c_2.reshaping = true ∧ (∀ n < 16, (a1c_2.home n).recalls = [] ∧ (a1c_2.home n).held = [] ∧ (a1c_2.home n).txns = []) ∧
      a1c_2.fld regDirCursor 31 0 + 1 < a1c_2.fld regDirCursor 63 32 ∧
      (a1c_2.dirCtlAt ((portList a1c_2.oldLayout.ports).getD (a1c_2.fld regDirCursor 31 0 % (portList a1c_2.oldLayout.ports).length) 0) (a1c_2.fld regDirCursor 31 0 / (portList a1c_2.oldLayout.ports).length)).oldgen = (0 : BitVec 8)) ∧
    (a1d_2.reshaping = true ∧ (∀ n < 16, (a1d_2.home n).recalls = [] ∧ (a1d_2.home n).held = [] ∧ (a1d_2.home n).txns = []) ∧
      a1d_2.fld regDirCursor 63 32 ≤ a1d_2.fld regDirCursor 31 0 ∧ a1d_2.reshapeQueue = []) := by
  refine ⟨?_, ?_, ?_, ?_, ?_, ?_, ?_⟩ <;> decide +kernel

def b1_1 : BitVec 40 := BitVec.ofNat 40 regGlbMode
def b1b_10 : State := rs.modThread 3 (fun y => {y with wait := .access 9 (.load .ld 5 0 0)})
def b1c_9 : Word := BitVec.ofNat 64 (2^63 + 10*2^48 + 5 * 2^16)
def b1f_10 : State := bm 1
def z1_10 : State := (((bm 4).setFld regEpfStatus 9 8 0).setFld regEpfStatus 10 10 1).setFld regEpfStatus 7 4 8 |>.setFld regGlbIdent 4 4 1
def z2_10 : State := bm 11
theorem test_witness_RegisterMessages :
    (agentPkg hh.dst = rs.pkgNum ∧ rs.regsOn = true ∧
      rs.meshBlocked { type := MsgType.regRead, hdr := hh, body := Body.reg b1_1 8 (0 : Word) } = false ∧
      rs.behind { type := MsgType.regRead, hdr := hh, body := Body.reg b1_1 8 (0 : Word) } = false ∧ b1_1.toNat < 67108864 ∧
      rs.directedIndex hh b1_1 8 = (0 : Word) ∧
      (rs.delivered { type := MsgType.regRead, hdr := hh, body := Body.reg b1_1 8 (0 : Word) }).readsOther b1_1.toNat = none) ∧
    (agentPkg hh.dst = rs.pkgNum ∧ rs.regsOn = true ∧ rs.mode ≠ modeHalt ∧
      rs.meshBlocked { type := MsgType.regWrite, hdr := hh, body := Body.reg (BitVec.ofNat 40 regThmCap) 8 (61443 : Word) } = false ∧
      rs.behind { type := MsgType.regWrite, hdr := hh, body := Body.reg (BitVec.ofNat 40 regThmCap) 8 (61443 : Word) } = false) ∧
    (agentPkg hh.dst = rs.pkgNum ∧ rs.regsOn = true ∧ rs.mode ≠ modeHalt ∧
      rs.meshBlocked { type := MsgType.interrupt, hdr := hh, body := Body.interrupt (rs.tidOf 3) IntClass.ring false } = false ∧
      rs.behind { type := MsgType.interrupt, hdr := hh, body := Body.interrupt (rs.tidOf 3) IntClass.ring false } = false ∧
      rs.threadExists 3 = true ∧ (rs.tidOf 3).toNat / 2048 = rs.pkgNum ∧ posOfTid (rs.tidOf 3).toNat = some 3) ∧
    (bit (rs.reg regGlbInject) 63 = false ∧ rs.grantLive 0 = false) ∧
    (rs.barsOpen = false) ∧
    (rs.regsOn = true ∧ rs.mode ≠ modeHalt) ∧
    (modeStandby < rs.mode ∧ rs.mode ≠ modeHalt ∧ rs.regsOn = true) ∧
    (b1b_10.coreOfAgent h2.dst = some (coreOf 3) ∧ b1b_10.coreExists (coreOf 3) = true ∧ b1b_10.domainOpen (coreOf 3 / 4) = true ∧
      b1b_10.coreOfAgent h2.dst = some (coreOf 3) ∧
      (b1b_10.thread 3).wait = Wait.access h2.tid (Dest.load LoadOp.ld (5 : BitVec 5) (0 : BitVec 8) (0 : Word)) ∧
      (b1b_10.thread 3).exitDue = none ∧ (b1b_10.thread (siblingOf 3)).wait = Wait.ready ∧
      b1b_10.behind { type := MsgType.regAnswer, hdr := h2, body := Body.value (61443 : Word) } = false) ∧
    (gr.mode ≠ modeHalt ∧ bit (gr.reg regGlbInject) 63 = false ∧ bit b1c_9 63 = true ∧ bits b1c_9 47 46 < 2 ∧
      gr.injectUnit (bits b1c_9 51 48) (bits b1c_9 31 16) = true ∧ gr.grantLive 0 = true) ∧
    (b1f_10.regsOn = false) ∧
    (z1_10.barsOpen = true ∧ BitVec.toNat (32772 : BitVec 26) = 32768 + 4 * (BitVec.toNat (32772 : BitVec 26) % 32768 / 4) ∧
      BitVec.toNat (32772 : BitVec 26) < 65536 ∧ z1_10.epf.msixPending = []) ∧
    (z2_10.mode = modeHalt) := by
  refine ⟨?_, ?_, ?_, ?_, ?_, ?_, ?_, ?_, ?_, ?_, ?_, ?_⟩ <;> decide +kernel

def c1b_5 : State := {md with bridges := [(2, {run := [(1, 7)]})], meshHeld := [hp], clause := 30}
def c1c_5 : State := {md with bridges := [(2, {retrain := true})], meshHeld := [hp], clause := 25005, domains := [(60, {phase := .closing})]}
def c1d_5 : State := {md with meshHeld := [hp], clause := 25005, domains := [(20, {phase := .opening})]}
def z3_5 : State := {md with meshHeld := [hp]}
theorem test_witness_BridgesAndDomains :
    (md.bridgeUp 2 = true ∧ (md.bridge 2).retrain = false ∧ bit (md.reg regGlbInject) 63 = false) ∧
    (md.bridgeUp 2 = true ∧ (md.bridge 2).retrain = false ∧ bit (md.reg regGlbInject) 63 = false ∧
      Tbl.get 0 (md.bridge 2).run (b2n true) < 7) ∧
    (md.bridgeUp 2 = true ∧ modeStandby < md.mode ∧ md.mode ≠ modeHalt) ∧
    (List.find? (fun m => decide (md.msgDomain m = some 60) && md.meshBlocked m) md.sent = some mm) ∧
    ((md.domain 60).phase ≠ DomainPhase.closing) ∧
    ((md.domain 60).phase ≠ DomainPhase.opening) ∧
    (c1b_5.bridgeUp 2 = true ∧ (c1b_5.bridge 2).retrain = false ∧ bit (c1b_5.reg regGlbInject) 63 = false ∧
      Tbl.get 0 (c1b_5.bridge 2).run (b2n true) = 7) ∧
    (c1b_5.meshHeld = [hp] ∧ BitVec.toNat hp.next ≤ BitVec.toNat c1b_5.clause ∧ c1b_5.domainOpen hp.dom = false) ∧
    (c1b_5.meshHeld = [hp] ∧ BitVec.toNat c1b_5.clause < BitVec.toNat hp.first + 25000) ∧
    ((c1c_5.bridge 2).retrain = true) ∧
    ((c1c_5.bridge 2).retrain = true ∧ modeStandby < c1c_5.mode ∧ c1c_5.mode ≠ modeHalt) ∧
    (c1c_5.meshHeld = [hp] ∧ BitVec.toNat hp.first + 25000 ≤ BitVec.toNat c1c_5.clause ∧ modeStandby < c1c_5.mode ∧ c1c_5.mode ≠ modeHalt) ∧
    ((c1c_5.domain 60).phase = DomainPhase.closing) ∧
    ((c1c_5.domain 60).phase = DomainPhase.closing ∧ BitVec.toNat (c1c_5.domain 60).since + 25000 ≤ BitVec.toNat c1c_5.clause) ∧
    (c1d_5.bridgeUp 3 = false) ∧
    (List.find? (fun m => decide (c1d_5.msgDomain m = some 20) && c1d_5.meshBlocked m) c1d_5.sent = none) ∧
    (c1d_5.meshHeld = [hp] ∧ BitVec.toNat hp.next ≤ BitVec.toNat c1d_5.clause ∧ c1d_5.domainOpen hp.dom = true) ∧
    ((c1d_5.domain 20).phase = DomainPhase.opening ∧ c1d_5.realms.hold = none ∧ c1d_5.ctxJob = none) ∧
    (z3_5.meshHeld = [hp] ∧ BitVec.toNat z3_5.clause < BitVec.toNat hp.next) := by
  refine ⟨?_, ?_, ?_, ?_, ?_, ?_, ?_, ?_, ?_, ?_, ?_, ?_, ?_, ?_, ?_, ?_, ?_, ?_, ?_⟩ <;> decide +kernel

def d1b_12 : State := {dr.setFld regGlbMode 3 0 8 with parasol := {dimmHot := [(3, 50)]}, pot := [(192, potMake 0 1 5)]}
def d1c_12 : State := {(bm 4) with parasol := {dimmHot := [(3, 50)]}, pot := [(192, potMake 0 1 5)]}
def z5_12 : State := {dz with pot := [(192, potMake 0 1 5)]}
theorem test_witness_DramEvents :
    (∃ x ∈ dr.openRow, decide (x.1 / 64 = 3 * 1024 + 5 * 4 + 2) = true) ∧
    (dr.parasol.dimmHot.find 3 = none) ∧
    (dr.mode ≠ modeQuiesce ∧ dr.mode ≠ modeDrain) ∧
    (2 < 4 ∧ Tbl.get 0 dr.replays 3 + 2 + 1 < 1024) ∧
    (modeStandby < dr.mode ∧ dr.mode ≠ modeHalt) ∧
    (∀ x ∈ d1b_12.openRow, decide (x.1 / 64 = 3 * 1024 + 5 * 4 + 1) = false) ∧
    (d1b_12.parasol.dimmHot.find 3 = some (50 : Word)) ∧
    (d1b_12.mode = modeQuiesce ∨ d1b_12.mode = modeDrain) ∧
    (4 = 4 ∧ modeStandby < d1b_12.mode ∧ d1b_12.mode ≠ modeHalt) ∧
    (d1c_12.fld (regDmcScrub 3) 0 0 = 0) ∧
    (dz.fld (regDmcScrub 0) 0 0 = 1 ∧ linePkg (12288 : LineAddr) = dz.pkgNum ∧ dz.chanOf (lineBase (12288 : LineAddr)) = 0 ∧
      dz.realms.keyBad = [] ∧ bit (dz.reg regGlbInject) 63 = false ∧ dz.isWritten (lineIx (12288 : LineAddr)) = true ∧
      Tbl.get 0 dz.dramBad (lineIx (12288 : LineAddr)) = 0) ∧
    (dz.fld (regDmcScrub 0) 0 0 = 1 ∧ linePkg (12288 : LineAddr) = dz.pkgNum ∧ dz.chanOf (lineBase (12288 : LineAddr)) = 0 ∧
      dz.realms.keyBad = [] ∧ bit (dz.reg regGlbInject) 63 = false ∧ dz.isWritten (lineIx (12288 : LineAddr)) = true ∧
      Tbl.get 0 dz.dramBad (lineIx (12288 : LineAddr)) = 0 ∧ dz.pageOwner (pageOfLine (lineIx (12288 : LineAddr))) = 0 ∧
      modeStandby < dz.mode ∧ dz.mode ≠ modeHalt) ∧
    (z5_12.fld (regDmcScrub 0) 0 0 = 1 ∧ linePkg (12288 : LineAddr) = z5_12.pkgNum ∧ z5_12.chanOf (lineBase (12288 : LineAddr)) = 0 ∧
      z5_12.realms.keyBad = [] ∧ bit (z5_12.reg regGlbInject) 63 = false ∧ z5_12.isWritten (lineIx (12288 : LineAddr)) = true ∧
      Tbl.get 0 z5_12.dramBad (lineIx (12288 : LineAddr)) = 0 ∧ z5_12.pageOwner (pageOfLine (lineIx (12288 : LineAddr))) ≠ 0 ∧
      memWf z5_12.mem = true) := by
  refine ⟨?_, ?_, ?_, ?_, ?_, ?_, ?_, ?_, ?_, ?_, ?_, ?_, ?_⟩ <;> decide +kernel

def t1_1 : List QRec := []
def t1a_1 : List QRec := []
def t1a_8 : State := {tl with clause := 250050, log := { queue := [q1], frozenAt := some 50, buckets := [(0x3051, 0), (0x3052, 7)] }}
def t1b_0 : QRec := {q1 with r := {r1 with code := 0x1000}}
def t1b_1 : List QRec := []
def t1b_8 : State := {tl with clause := 250049, log := { queue := [{q1 with r := {r1 with code := 0x1000}}], frozenAt := some 50, buckets := [(0x3051, 0), (0x3052, 7)] }}
def t1c_8 : State := { (((((tl.setReg regDmcTop (BitVec.ofNat 64 (2^40))).setFld regTlgSpill 0 0 1).setFld regTlgSpill 5 1 16).setFld regTlgSpill 51 21 2).setReg regTlgSpilled 65539) with log := {}}
def t1d_8 : State := { ((tl.setReg regDmcTop (BitVec.ofNat 64 (2^40))).setFld regGlbErrnote 0 0 1) with clause := 300, notice := { due := some (0x3051, 0, 5), seq := some 4, last := some 44 } , log := {}}
def v1a_1 : State := {cd with dump := {next := 4, missed := 2, job := some dj}}
def v1b_0 : DumpJob := {dj with headerSent := true}
def v1b_1 : State := {cd with dump := {next := 4, missed := 2, job := some {dj with headerSent := true}}}
def v1c_1 : State := {(cd.setFld regPccDumpctl 0 0 0) with dump := {next := 4, missed := 2, job := some {dj with headerSent := true}}, ports := [(83, {writes := [(3, 4)]})]}
def v1d_1 : State := {((cd.setReg regDmcTop 0).setFld regPccDumpctl 0 0 0) with dump := {next := 4, missed := 2, job := some dj}, ports := [(83, {writes := [(3, 4)]})]}
def v1e_1 : State := bm 11
def v1f_1 : State := {(cd.setFld regPccDumpctl 1 1 1).setFld regPccDumpctl 63 32 100 with clause := 7}
def y1_1 : List QRec := []
theorem test_witness_LogAndCounters :
    (tl.log.queue = q1 :: t1_1 ∧ tl.log.dropDue = false ∧ tl.notice.due = none ∧ tl.clauseOpen q1.proc = false ∧ tl.frozen = false ∧
      (neverSuppressed q1.r.code.toNat = true ∨ 0 < tl.bucket q1.r.code.toNat ∧ (Tbl.get { } tl.log.suppressed q1.r.code.toNat).count = 0) ∧
      (tl.joined = true → tl.isManager = true)) ∧
    (tl.fld regTlgSpill 0 0 = 0) ∧
    (tl.log.suppressed = []) ∧
    (¬(tl.isManager = true ∧ tl.fld regTlgCursor 52 48 ≠ tl.pkgNum ∧ tl.isMember (tl.fld regTlgCursor 52 48) = true) ∧ tl.frozen = false) ∧
    (tl.notice.due = none) ∧
    (t1a_8.log.queue = q1 :: t1a_1 ∧ t1a_8.log.dropDue = false ∧ t1a_8.notice.due = none ∧ t1a_8.clauseOpen q1.proc = false ∧
      neverSuppressed q1.r.code.toNat = false ∧ q1.r.realm.getLsbD 15 = false ∧ t1a_8.bucket q1.r.code.toNat = 0) ∧
    (¬(t1a_8.isManager = true ∧ t1a_8.fld regTlgCursor 52 48 ≠ t1a_8.pkgNum ∧ t1a_8.isMember (t1a_8.fld regTlgCursor 52 48) = true) ∧
      t1a_8.frozen = true) ∧
    (t1a_8.log.frozenAt = some (50 : Word) ∧ BitVec.toNat (50 : Word) + 250000 ≤ BitVec.toNat t1a_8.clause) ∧
    (t1b_8.log.queue = t1b_0 :: t1b_1 ∧ t1b_8.log.dropDue = false ∧ t1b_8.notice.due = none ∧ t1b_8.clauseOpen t1b_0.proc = false ∧
      t1b_8.frozen = true ∧ neverSuppressed t1b_0.r.code.toNat = true) ∧
    (t1b_8.log.frozenAt = some (50 : Word) ∧ BitVec.toNat t1b_8.clause < BitVec.toNat (50 : Word) + 250000) ∧
    (t1c_8.log.queue = []) ∧
    (t1c_8.fld regTlgSpill 0 0 = 1 ∧ t1c_8.frozen = false ∧ BitVec.toNat (t1c_8.reg regTlgSpilled) < BitVec.toNat (t1c_8.reg regTlgHead) ∧
      t1c_8.spillCheck (t1c_8.spillBase + BitVec.toNat (t1c_8.reg regTlgSpilled) % t1c_8.spillLen * 32) = 0) ∧
    (t1d_8.notice.due = some (12369, 0, (5 : BitVec 16)) ∧ t1d_8.notice.seq = some 4 ∧ t1d_8.fld regGlbErrnote 0 0 = 1 ∧
      t1d_8.noticeTime = true ∧ t1d_8.systemRange (t1d_8.fld regGlbErrnote 51 6 * 64) 64 = 0) ∧
    (cd.fld regPccDumpctl 0 0 = 1 ∧ BitVec.toNat cd.clause % cd.fld regPccDumpctl 63 32 = 0 ∧ cd.dump.job = none ∧ cd.sourcesHeld = false ∧
      cd.mode ≠ modeHalt ∧ cd.fld regGlbBoot 3 3 = 1 ∧ cd.dumpRegion = 0) ∧
    (cd.mode ≠ modeHalt) ∧
    (cd.dump.job = none) ∧
    (v1a_1.fld regPccDumpctl 0 0 = 1 ∧ BitVec.toNat v1a_1.clause % v1a_1.fld regPccDumpctl 63 32 = 0 ∧ v1a_1.dump.job = some dj ∧
      dj.headerSent = false) ∧
    (v1a_1.dump.job = some dj ∧ dj.headerSent = false ∧ v1a_1.portQuiet 83 = true) ∧
    (v1b_1.dump.job = some v1b_0 ∧ v1b_0.headerSent = true ∧ v1b_1.portQuiet 83 = true) ∧
    (¬(v1c_1.fld regPccDumpctl 0 0 = 1 ∧ BitVec.toNat v1c_1.clause % v1c_1.fld regPccDumpctl 63 32 = 0)) ∧
    (v1c_1.fld regPccDumpctl 0 0 = 0 ∧ v1c_1.fld regPccDumpctl 1 1 = 0 ∧ v1c_1.mode ≠ modeHalt) ∧
    (v1d_1.dump.job = some dj ∧ dj.headerSent = false ∧ v1d_1.portQuiet 83 = false) ∧
    (v1e_1.mode = modeHalt) ∧
    (v1f_1.fld regPccDumpctl 0 0 = 1 ∧ v1f_1.fld regPccDumpctl 1 1 = 1 ∧ v1f_1.dump.job = none ∧ v1f_1.sourcesHeld = false ∧
      v1f_1.mode ≠ modeHalt ∧ v1f_1.fld regGlbBoot 3 3 = 1 ∧ v1f_1.dumpRegion = 0) ∧
    (tw.log.queue = q1 :: y1_1 ∧ tw.clauseOpen q1.proc = true) := by
  refine ⟨?_, ?_, ?_, ?_, ?_, ?_, ?_, ?_, ?_, ?_, ?_, ?_, ?_, ?_, ?_, ?_, ?_, ?_, ?_, ?_, ?_, ?_, ?_, ?_, ?_⟩ <;> decide +kernel
end I1

namespace J1
abbrev bm (m : Nat) : State := (State.reset.setFld regGlbMode 3 0 m).setReg regDmcTop (BitVec.ofNat 64 (2^40))
abbrev cx (st : Nat) : RingCtx := { w0 := 0x100008, w1 := 0x200009, w2 := 0x300040, w3 := 0x3000, w4 := 0x500000007, w5 := 9, w6 := BitVec.ofNat 64 st }
abbrev cs (st : Nat) : State := { bm 6 with ctxs := [(77, cx st), (3, cx 1)], monitors := [{line := 0xc001, ctx := 77, engine := 3, armed := true}, {line := 0xc002, ctx := 3, engine := 3, armed := true}] }
abbrev rr : EngRun := { head := 7 }
def ln (l : List Nat) : Line := BitVec.ofNat 512 (l.foldr (fun x v => x % 256 + 256 * v) 0)
abbrev es (r : EngRun) (ls : List (LineAddr × Line)) : State := { cs 1 with ctxRuns := [(77, {run := some r})], engines := [(3, {cur := some 77})], ports := [(43, { lines := ls })] }
abbrev mk (op : Nat) (ps : List Nat) : EngRun := { head := 7, words := BitVec.ofNat 64 op :: ps.map (BitVec.ofNat 64) }
abbrev g5 := mk 5 [0x5000,0x4000,3,0x6000,9,0,4]
abbrev g4 := mk 4 [0x4000,3,0x5000,0,0,0,4 + 2^25*4 + 2^30*1]
abbrev g3 := mk 3 [0x4000,0x5000,3,0x6000,0x7000,0,1+32+64+256]
abbrev g2 := mk 2 [0x4000,0x5000,4,0x6000,0x7000,0x8000,1+32+64]
abbrev g2b := mk 2 [0x4000,0x5000,4,0x6000,0x7000,0,1]
abbrev pb : Line := ln [0,0x40,0,0,0,0,0,0, 0,0,0,0,0,0,0,0, 2, 1,0,0,0,0,0,0, 0,0,0,0,0,0,0,0, 3]
abbrev g1 (f cap : Nat) := mk 1 [0x5000,100,4,0x6000,0x7000,cap,1+32*f]
abbrev ed : EngRun := { head := 8, words := [0x5500000000], status := some 0, result := 9 }
abbrev ps' : State := { bm 6 with ctxs := [(77, cx 1)], ctxRuns := [(77, {run := some ed})], engines := [(3, {})] }
abbrev ee : EngRun := { head := 8, words := [0x5500000400], status := some 0, result := 9 }

def a1_3 : State := cs 0
def a2_3 : State := (cs 0).setReg (regPenCtxdata 3) 0x800
def a3_3 : State := cs 1
def a4_3 : State := {cs 1 with ctxRuns := [(77, {run := some rr})]}
def a6_3 : State := (cs 1).setFld regPenCtxcmd 19 19 1
def a7_3 : State := (cs 0).setFld (regPenStatus 3) 2 1 1
def a8_3 : State := (cs 0).setReg regDmcTop 5
def a9_3 : State := {cs 0 with ctxs := [(77, {cx 0 with w0 := 0x100005})]}
def c2_3 : State := {ps' with engines := [(3, {cur := some 77, past := true})]}
def c3_3 : State := {ps' with engines := [(3, {cur := some 77, past := false})], ports := [(43, {writes := [(3,3)]})]}
def c4_3 : State := {ps' with ctxRuns := [(77, {run := some ee})]}
def c5_3 : State := {ps' with ctxRuns := [], capHeld := [3]}
def c6_3 : State := {bm 8 with ctxRuns := [], capHeld := [3]}
theorem test_witness_EngineContexts :
    (a1_3.fld regPenCtxcmd 19 19 = 0 ∧ a1_3.servesRegs = true ∧ a1_3.ctxBad.find 77 = none) ∧
    (a1_3.fld regPenCtxcmd 19 19 = 0 ∧ a1_3.servesRegs = true ∧ a1_3.ctxBad.find 77 = none ∧ (a1_3.ctx 77).state = ctxDisabled ∧
      a1_3.stagingReserved = false) ∧
    (a1_3.fld regPenCtxcmd 19 19 = 0 ∧ a1_3.servesRegs = true ∧ a1_3.ctxBad.find 77 = none ∧ (a1_3.ctx 77).state = ctxDisabled) ∧
    (a1_3.fld regPenCtxcmd 19 19 = 0 ∧ a1_3.servesRegs = true ∧ a1_3.ctxBad.find 77 = none ∧ (a1_3.ctx 77).state = ctxDisabled ∧
      6 ≤ (a1_3.ctx 77).ringLog ∧ (a1_3.ctx 77).ringLog ≤ 16 ∧ 8 ≤ (a1_3.ctx 77).cringLog ∧ (a1_3.ctx 77).cringLog ≤ 18 ∧
      baseAligned (bits (a1_3.ctx 77).w0 51 12 * 4096) (2 ^ (a1_3.ctx 77).ringLog * 64) = true ∧
      baseAligned (bits (a1_3.ctx 77).w1 51 12 * 4096) (2 ^ (a1_3.ctx 77).cringLog * 16) = true ∧
      a1_3.engineOn (a1_3.ctx 77).engineOf = true ∧
      ((a1_3.setFld regPenCtxcmd 13 0 77).setFld regPenCtxcmd 19 19 1).checkRanges (a1_3.ctx 77).realm [(bits (a1_3.ctx 77).w0 51 12 * 4096, 2 ^ (a1_3.ctx 77).ringLog * 64), (bits (a1_3.ctx 77).w1 51 12 * 4096, 2 ^ (a1_3.ctx 77).cringLog * 16), (lineBase (a1_3.ctx 77).dbLine, 64)] = ((a1_3.setFld regPenCtxcmd 13 0 77).setFld regPenCtxcmd 19 19 1, peOk) ∧
      (List.filter (fun m => decide (a1_3.chanOf (lineBase m.line) = a1_3.chanOf (lineBase (a1_3.ctx 77).dbLine))) a1_3.monitors).length < 2048) ∧
    (a2_3.fld regPenCtxcmd 19 19 = 0 ∧ a2_3.servesRegs = true ∧ a2_3.ctxBad.find 77 = none ∧ (a2_3.ctx 77).state = ctxDisabled ∧
      a2_3.stagingReserved = true) ∧
    (a3_3.fld regPenCtxcmd 19 19 = 0 ∧ a3_3.servesRegs = true ∧ a3_3.ctxBad.find 77 = none ∧ (a3_3.ctx 77).state ≠ ctxDisabled) ∧
    (a3_3.fld regPenCtxcmd 19 19 = 0 ∧ a3_3.servesRegs = true ∧ a3_3.ctxBad.find 77 = none ∧
      ((a3_3.ctx 77).state = ctxEnabled ∨ (a3_3.ctx 77).state = ctxError ∨ (a3_3.ctx 77).state = ctxFenced) ∧ (a3_3.ctxRun 77).run = none) ∧
    (a3_3.fld regPenCtxcmd 19 19 = 0 ∧ a3_3.servesRegs = true ∧ a3_3.ctxBad.find 77 = none ∧
      ((a3_3.ctx 77).state = ctxEnabled ∨ (a3_3.ctx 77).state = ctxDraining) ∧ (a3_3.ctxRun 77).run = none) ∧
    (a4_3.fld regPenCtxcmd 19 19 = 0 ∧ a4_3.servesRegs = true ∧ a4_3.ctxBad.find 77 = none ∧ (a4_3.ctx 77).state = ctxEnabled ∧
      (a4_3.ctxRun 77).run = some rr) ∧
    (a4_3.fld regPenCtxcmd 19 19 = 0 ∧ a4_3.servesRegs = true ∧ a4_3.ctxBad.find 77 = none ∧
      ((a4_3.ctx 77).state = ctxEnabled ∨ (a4_3.ctx 77).state = ctxDraining) ∧ (a4_3.ctxRun 77).run = some rr ∧ rr.status = none ∧
      rr.pos = 0) ∧
    (a6_3.fld regPenCtxcmd 19 19 = 1) ∧
    (a7_3.fld regPenCtxcmd 19 19 = 0 ∧ a7_3.servesRegs = true ∧ a7_3.ctxBad.find 77 = none ∧ (a7_3.ctx 77).state = ctxDisabled ∧
      6 ≤ (a7_3.ctx 77).ringLog ∧ (a7_3.ctx 77).ringLog ≤ 16 ∧ 8 ≤ (a7_3.ctx 77).cringLog ∧ (a7_3.ctx 77).cringLog ≤ 18 ∧
      baseAligned (bits (a7_3.ctx 77).w0 51 12 * 4096) (2 ^ (a7_3.ctx 77).ringLog * 64) = true ∧
      baseAligned (bits (a7_3.ctx 77).w1 51 12 * 4096) (2 ^ (a7_3.ctx 77).cringLog * 16) = true ∧
      a7_3.fld (regPenStatus (a7_3.ctx 77).engineOf) 2 1 ≠ 0) ∧
    (a8_3.fld regPenCtxcmd 19 19 = 0 ∧ a8_3.servesRegs = true ∧ a8_3.ctxBad.find 77 = none ∧ (a8_3.ctx 77).state = ctxDisabled ∧
      6 ≤ (a8_3.ctx 77).ringLog ∧ (a8_3.ctx 77).ringLog ≤ 16 ∧ 8 ≤ (a8_3.ctx 77).cringLog ∧ (a8_3.ctx 77).cringLog ≤ 18 ∧
      baseAligned (bits (a8_3.ctx 77).w0 51 12 * 4096) (2 ^ (a8_3.ctx 77).ringLog * 64) = true ∧
      baseAligned (bits (a8_3.ctx 77).w1 51 12 * 4096) (2 ^ (a8_3.ctx 77).cringLog * 16) = true ∧
      a8_3.engineOn (a8_3.ctx 77).engineOf = true ∧ (3 = peNotLocal ∨ 3 = peOwner) ∧
      ((a8_3.setFld regPenCtxcmd 13 0 77).setFld regPenCtxcmd 19 19 1).checkRanges (a8_3.ctx 77).realm [(bits (a8_3.ctx 77).w0 51 12 * 4096, 2 ^ (a8_3.ctx 77).ringLog * 64), (bits (a8_3.ctx 77).w1 51 12 * 4096, 2 ^ (a8_3.ctx 77).cringLog * 16), (lineBase (a8_3.ctx 77).dbLine, 64)] = ((a8_3.setFld regPenCtxcmd 13 0 77).setFld regPenCtxcmd 19 19 1, 3)) ∧
    (a9_3.fld regPenCtxcmd 19 19 = 0 ∧ a9_3.servesRegs = true ∧ a9_3.ctxBad.find 77 = none ∧ (a9_3.ctx 77).state = ctxDisabled ∧
      ((a9_3.ctx 77).ringLog < 6 ∨ 18 < (a9_3.ctx 77).cringLog)) ∧
    (ps'.engineOn 3 = true ∧ ps'.ctxList = [77] ∧ (ps'.ctx 77).engineOf = 3 ∧ (ps'.ctxRun 77).run = some ed ∧ ed.status ≠ none ∧
      (ps'.ctxRun 77).bell = none ∧ (ps'.engine 3).cur = none ∧ (ps'.engine 3).due = [] ∧ ps'.portQuiet (engPort 3) = true ∧
      ed.written = false ∧ ps'.ringRoom 77 = true ∧ (bit (ed.words.getD 0 (0 : Word)) 10 = false ∨ ed.status ≠ some peOk)) ∧
    (c2_3.engineOn 3 = true ∧ c2_3.ctxList = [77] ∧ (c2_3.ctx 77).engineOf = 3 ∧ (c2_3.ctxRun 77).run = some ed ∧ ed.status ≠ none ∧
      (c2_3.ctxRun 77).bell = none ∧ (c2_3.engine 3).cur = some 77 ∧ (c2_3.engine 3).past = true ∧ c2_3.monitors = [] ∧
      bit (c2_3.reg regGlbInject) 63 = false) ∧
    (c3_3.engineOn 3 = true ∧ (c3_3.engine 3).cur = some 77 ∧ (c3_3.engine 3).past = false) ∧
    (c3_3.portQuiet (engPort 3) = false) ∧
    (c4_3.engineOn 3 = true ∧ c4_3.ctxList = [77] ∧ (c4_3.ctx 77).engineOf = 3 ∧ (c4_3.ctxRun 77).run = some ee ∧ ee.status ≠ none ∧
      (c4_3.ctxRun 77).bell = none ∧ (c4_3.engine 3).cur = none ∧ (c4_3.engine 3).due = [] ∧ c4_3.portQuiet (engPort 3) = true ∧
      ee.written = false ∧ bit (ee.words.getD 0 (0 : Word)) 10 = true ∧ ee.status = some peOk ∧
      (ee.head + 1) % 2 ^ 32 = (c4_3.ctx 77).tailSeen) ∧
    ((∀ i < 16, (c5_3.engine i).due = []) ∧ c5_3.ctxRuns = []) ∧
    (c6_3.engineOn 3 = false) := by
  refine ⟨?_, ?_, ?_, ?_, ?_, ?_, ?_, ?_, ?_, ?_, ?_, ?_, ?_, ?_, ?_, ?_, ?_, ?_, ?_, ?_, ?_⟩ <;> decide +kernel

def b0_2 : EngRun := mk 0 [0,0,0,0,0,0,0]
def b0_9 : State := es (mk 0 [0,0,0,0,0,0,0]) []
def b6_2 : EngRun := mk 6 [0x4000,0x5003,5,0,0,0,0]
def b6_9 : State := es (mk 6 [0x4000,0x5003,5,0,0,0,0]) [(0x100, ln [1,2,3,4,5])]
def b7_2 : EngRun := mk 7 [0,0x5003,5,0x1122334455667788,0,0,0]
def b7_9 : State := es (mk 7 [0,0x5003,5,0x1122334455667788,0,0,0]) []
def b8_2 : EngRun := mk 8 [0x4000,0,5,0,0,0,0]
def b8_9 : State := es (mk 8 [0x4000,0,5,0,0,0,0]) [(0x100, ln [1,2,3,4,5])]
def b5_8 : List ℕ := [0x0c0b0a09,0x08070605,0x100f0e0d]
def b5_9 : State := es g5 [(0x100, ln [2,0,0,0,1,0,0,0,3,0,0,0]), (0x140, ln [1,2,3,4,5,6,7,8,9,10,11,12,13,14,15,16])]
def b4_9 : State := es g4 [(0x100, ln [1,2,3,4,5,6,7,8,9,10,11,12]), (0x140, ln [0,0x60,0,0,0,0,0,0,4,0,0,0,1,0,0,0])]
def b3_9 : State := es g3 [(0x100, ln [1,254,3]), (0x140, ln [2]), (0x180, ln [7])]
def b2_9 : State := es g2 [(0x100, ln [1,2,3,4]), (0x140, ln [4]), (0x180, ln [13])]
def b2b_9 : State := es g2b [(0x100, ln [1,2,3,4]), (0x140, ln [4]), (0x180, ln [13])]
def b1_2 : EngRun := g1 0 0
def b1_8 : List ℕ := [0x04010502, 0]
def b1_9 : State := es (g1 0 0) [(0x100, ln [2,5,1,4]), (0x140, pb)]
def b1b_2 : EngRun := g1 1 9
def b1b_8 : List ℕ := [0x04010502, 0]
def b1b_9 : State := es (g1 1 9) [(0x100, ln [2,5,1,4]), (0x140, pb)]
def b1c_2 : EngRun := g1 2 1
def b1c_8 : List ℕ := [0x04010502, 0]
def b1c_9 : State := es (g1 2 1) [(0x100, ln [2,5,1,4]), (0x140, pb)]
theorem test_witness_EngineOperations :
    (b0_9.engineOn 3 = true ∧ (b0_9.engine 3).past = false ∧ (b0_9.engine 3).cur = some 77 ∧ (b0_9.ctxRun 77).run = some b0_2 ∧
      b0_2.words ≠ [] ∧ b0_2.status = none ∧ (bit (b0_2.words.getD 0 (0 : Word)) 8 = false ∨ b0_9.portQuiet (engPort 3) = true)) ∧
    (b6_9.engineOn 3 = true ∧ (b6_9.engine 3).past = false ∧ (b6_9.engine 3).cur = some 77 ∧ (b6_9.ctxRun 77).run = some b6_2 ∧
      b6_2.words ≠ [] ∧ b6_2.status = none ∧ (bit (b6_2.words.getD 0 (0 : Word)) 8 = false ∨ b6_9.portQuiet (engPort 3) = true) ∧
      b6_2.early = none ∧ b6_2.op = 6 ∧ b6_2.pos = 0 ∧ b6_2.out = 0 ∧ b6_2.buf = 0 ∧ 0 < b6_2.count ∧ b6_2.count ≤ b6_2.bytes ∧
      (b6_9.putRun 77 b6_2).checkRanges (b6_9.ctx 77).realm [(b6_2.p 0, b6_2.bytes)] = (b6_9.putRun 77 b6_2, peOk) ∧
      (b6_9.putRun 77 b6_2).fetchAll 3 (b6_9.ctx 77).realm [(b6_2.p 0, b6_2.bytes)] = (b6_9.putRun 77 b6_2, some [21542142465]) ∧
      (b6_9.putRun 77 b6_2).checkRanges (b6_9.ctx 77).realm (List.map (fun p => (p.1, p.2.1)) [(b6_2.p 1, b6_2.bytes, 21542142465 % 2 ^ (8 * b6_2.bytes))]) = (b6_9.putRun 77 b6_2, peOk)) ∧
    (b7_9.engineOn 3 = true ∧ (b7_9.engine 3).past = false ∧ (b7_9.engine 3).cur = some 77 ∧ (b7_9.ctxRun 77).run = some b7_2 ∧
      b7_2.words ≠ [] ∧ b7_2.status = none ∧ (bit (b7_2.words.getD 0 (0 : Word)) 8 = false ∨ b7_9.portQuiet (engPort 3) = true) ∧
      b7_2.early = none ∧ b7_2.op = 7 ∧ b7_2.pos = 0 ∧ b7_2.out = 0 ∧ b7_2.buf = 0 ∧ 0 < b7_2.count ∧ b7_2.count ≤ b7_2.bytes ∧
      (b7_9.putRun 77 b7_2).checkRanges (b7_9.ctx 77).realm (List.map (fun p => (p.1, p.2.1)) [(b7_2.p 1, b7_2.bytes, patternAt (b7_2.p 3) (b7_2.p 1) b7_2.bytes)]) = (b7_9.putRun 77 b7_2, peOk)) ∧
    (b8_9.engineOn 3 = true ∧ (b8_9.engine 3).past = false ∧ (b8_9.engine 3).cur = some 77 ∧ (b8_9.ctxRun 77).run = some b8_2 ∧
      b8_2.words ≠ [] ∧ b8_2.status = none ∧ (bit (b8_2.words.getD 0 (0 : Word)) 8 = false ∨ b8_9.portQuiet (engPort 3) = true) ∧
      b8_2.early = none ∧ b8_2.op = 8 ∧ b8_2.pos = 0 ∧ b8_2.out = 0 ∧ b8_2.buf = 0 ∧ 0 < b8_2.count ∧
      (b8_9.putRun 77 b8_2).checkRanges (b8_9.ctx 77).realm [(b8_2.p 0, b8_2.bytes)] = (b8_9.putRun 77 b8_2, peOk) ∧
      (b8_9.putRun 77 b8_2).fetchAll 3 (b8_9.ctx 77).realm [(b8_2.p 0, b8_2.bytes)] = (b8_9.putRun 77 b8_2, some [21542142465]) ∧
      (b8_9.putRun 77 b8_2).checkRanges (b8_9.ctx 77).realm [] = (b8_9.putRun 77 b8_2, peOk)) ∧
    (b5_9.engineOn 3 = true ∧ (b5_9.engine 3).past = false ∧ (b5_9.engine 3).cur = some 77 ∧ (b5_9.ctxRun 77).run = some g5 ∧
      g5.words ≠ [] ∧ g5.status = none ∧ (bit (g5.words.getD 0 (0 : Word)) 8 = false ∨ b5_9.portQuiet (engPort 3) = true) ∧
      g5.early = none ∧ g5.op = 5 ∧ g5.pos = 0 ∧ g5.out = 0 ∧ g5.buf = 0 ∧ 0 < g5.count ∧ g5.ctl 5 5 = 0 ∧
      (b5_9.putRun 77 g5).checkRanges (b5_9.ctx 77).realm [(g5.p 1, g5.rows * if g5.ctl 6 6 = 1 then 8 else 4)] = (b5_9.putRun 77 g5, peOk) ∧
      (b5_9.putRun 77 g5).fetchAll 3 (b5_9.ctx 77).realm [(g5.p 1, g5.rows * if g5.ctl 6 6 = 1 then 8 else 4)] = (b5_9.putRun 77 g5, some [55340232225423622146]) ∧
      (b5_9.putRun 77 g5).checkRanges (b5_9.ctx 77).realm (List.map (fun i => (g5.p 0 + i * g5.ctl 4 0, g5.ctl 4 0)) (List.takeWhile (fun i => decide (i < g5.p 4)) (List.map (fun i => elt 55340232225423622146 (if g5.ctl 6 6 = 1 then 8 else 4) i) (upTo g5.rows)))) = (b5_9.putRun 77 g5, peOk) ∧
      (b5_9.putRun 77 g5).fetchAll 3 (b5_9.ctx 77).realm (List.map (fun i => (g5.p 0 + i * g5.ctl 4 0, g5.ctl 4 0)) (List.takeWhile (fun i => decide (i < g5.p 4)) (List.map (fun i => elt 55340232225423622146 (if g5.ctl 6 6 = 1 then 8 else 4) i) (upTo g5.rows)))) = (b5_9.putRun 77 g5, some b5_8) ∧
      (b5_9.putRun 77 g5).checkRanges (b5_9.ctx 77).realm (List.map (fun p => (p.1, p.2.1)) [(g5.p 3, (List.takeWhile (fun i => decide (i < g5.p 4)) (List.map (fun i => elt 55340232225423622146 (if g5.ctl 6 6 = 1 then 8 else 4) i) (upTo g5.rows))).length * g5.ctl 4 0, packed (g5.ctl 4 0) b5_8)]) = (b5_9.putRun 77 g5, peOk)) ∧
    (b4_9.engineOn 3 = true ∧ (b4_9.engine 3).past = false ∧ (b4_9.engine 3).cur = some 77 ∧ (b4_9.ctxRun 77).run = some g4 ∧
      g4.words ≠ [] ∧ g4.status = none ∧ (bit (g4.words.getD 0 (0 : Word)) 8 = false ∨ b4_9.portQuiet (engPort 3) = true) ∧
      g4.early = none ∧ g4.op = 4 ∧ g4.pos = 0 ∧ g4.out = 0 ∧ g4.buf = 0 ∧ 0 < g4.count ∧ g4.count ≤ g4.rows ∧
      (b4_9.putRun 77 g4).checkRanges (b4_9.ctx 77).realm [(g4.p 2, g4.ctl 40 30 * 16), (g4.p 0, g4.rows * g4.ctl 12 0)] = (b4_9.putRun 77 g4, peOk) ∧
      (b4_9.putRun 77 g4).fetchAll 3 (b4_9.ctx 77).realm [(g4.p 2, g4.ctl 40 30 * 16), (g4.p 0, g4.rows * g4.ctl 12 0)] = (b4_9.putRun 77 g4, some [79228162588051313888382181376, 3727165692135864801209549313]) ∧
      (b4_9.putRun 77 g4).checkRanges (b4_9.ctx 77).realm (List.map (fun p => (p.1, p.2.1)) (List.foldl (fun a q => g4.part 79228162588051313888382181376 a q) { fills := g4.fills } (List.map (fun i => elt 3727165692135864801209549313 (g4.ctl 12 0) i) (upTo g4.rows))).writes) = (b4_9.putRun 77 g4, peOk) ∧
      ((b4_9.putRun 77 g4).putAll 3 (b4_9.ctx 77).realm (List.foldl (fun a q => g4.part 79228162588051313888382181376 a q) { fills := g4.fills } (List.map (fun i => elt 3727165692135864801209549313 (g4.ctl 12 0) i) (upTo g4.rows))).writes).checkRanges (b4_9.ctx 77).realm (List.map (fun p => (p.1, p.2.1)) { head := g4.head, words := g4.words, out := (List.foldl (fun a q => g4.part 79228162588051313888382181376 a q) { fills := g4.fills } (List.map (fun i => elt 3727165692135864801209549313 (g4.ctl 12 0) i) (upTo g4.rows))).placed, fills := (List.foldl (fun a q => g4.part 79228162588051313888382181376 a q) { fills := g4.fills } (List.map (fun i => elt 3727165692135864801209549313 (g4.ctl 12 0) i) (upTo g4.rows))).fills : EngRun }.fillWrites) = ((b4_9.putRun 77 g4).putAll 3 (b4_9.ctx 77).realm (List.foldl (fun a q => g4.part 79228162588051313888382181376 a q) { fills := g4.fills } (List.map (fun i => elt 3727165692135864801209549313 (g4.ctl 12 0) i) (upTo g4.rows))).writes, peOk)) ∧
    (b3_9.engineOn 3 = true ∧ (b3_9.engine 3).past = false ∧ (b3_9.engine 3).cur = some 77 ∧ (b3_9.ctxRun 77).run = some g3 ∧
      g3.words ≠ [] ∧ g3.status = none ∧ (bit (g3.words.getD 0 (0 : Word)) 8 = false ∨ b3_9.portQuiet (engPort 3) = true) ∧
      g3.early = none ∧ g3.op = 3 ∧ g3.pos = 0 ∧ g3.out = 0 ∧ g3.buf = 0 ∧ 0 < g3.count ∧ g3.count ≤ g3.rows ∧
      (b3_9.putRun 77 g3).checkRanges (b3_9.ctx 77).realm [(g3.p 0, g3.rows * g3.ctl 4 0), (g3.p 1, if g3.ctl 5 5 = 1 then bitBytes g3.rows else 0), (g3.p 3, if g3.ctl 6 6 = 1 then bitBytes g3.rows else 0), (g3.p 4, if g3.ctl 7 7 = 1 then 64 else 0)] = (b3_9.putRun 77 g3, peOk) ∧
      (b3_9.putRun 77 g3).fetchAll 3 (b3_9.ctx 77).realm [(g3.p 0, g3.rows * g3.ctl 4 0), (g3.p 1, if g3.ctl 5 5 = 1 then bitBytes g3.rows else 0), (g3.p 3, if g3.ctl 6 6 = 1 then bitBytes g3.rows else 0), (g3.p 4, if g3.ctl 7 7 = 1 then 64 else 0)] = (b3_9.putRun 77 g3, some [261633, 2, 7, 0]) ∧
      (b3_9.putRun 77 g3).checkRanges (b3_9.ctx 77).realm (List.map (fun p => (p.1, p.2.1)) [(g3.p 4, 64, ((List.foldl (fun a i => a.aggRow (decide (g3.ctl 5 5 = 1) && Nat.testBit 2 i) (if g3.ctl 9 8 = 1 then signedOf (8 * g3.ctl 4 0) (elt 261633 (g3.ctl 4 0) i) else ↑(elt 261633 (g3.ctl 4 0) i))) g3 (List.filter (fun i => decide (g3.ctl 6 6 = 0) || Nat.testBit 7 i) (upTo g3.rows))).aggEnd 0).1)]) = (b3_9.putRun 77 g3, peOk)) ∧
    (b2_9.engineOn 3 = true ∧ (b2_9.engine 3).past = false ∧ (b2_9.engine 3).cur = some 77 ∧ (b2_9.ctxRun 77).run = some g2 ∧
      g2.words ≠ [] ∧ g2.status = none ∧ (bit (g2.words.getD 0 (0 : Word)) 8 = false ∨ b2_9.portQuiet (engPort 3) = true) ∧
      g2.early = none ∧ g2.op = 2 ∧ g2.pos = 0 ∧ g2.out = 0 ∧ g2.buf = 0 ∧ 0 < g2.count ∧
      (b2_9.putRun 77 g2).checkRanges (b2_9.ctx 77).realm [(g2.p 3, bitBytes g2.rows), (g2.p 0, g2.rows * g2.ctl 4 0), (g2.p 1, if decide (g2.ctl 5 5 = 1) = true then bitBytes g2.rows else 0)] = (b2_9.putRun 77 g2, peOk) ∧
      (b2_9.putRun 77 g2).fetchAll 3 (b2_9.ctx 77).realm [(g2.p 3, bitBytes g2.rows), (g2.p 0, g2.rows * g2.ctl 4 0), (g2.p 1, if decide (g2.ctl 5 5 = 1) = true then bitBytes g2.rows else 0)] = (b2_9.putRun 77 g2, some [13, 67305985, 4]) ∧
      g2.ctl 6 6 = 1 ∧ g2.count ≤ g2.rows ∧
      (b2_9.putRun 77 g2).checkRanges (b2_9.ctx 77).realm (List.map (fun p => (p.1, p.2.1)) [(g2.p 4, (List.filter (fun i => Nat.testBit 13 i) (upTo g2.rows)).length * g2.ctl 4 0, packed (g2.ctl 4 0) (List.map (fun i => elt 67305985 (g2.ctl 4 0) i) (List.filter (fun i => Nat.testBit 13 i) (upTo g2.rows)))), (g2.p 5, bitBytes (List.filter (fun i => Nat.testBit 13 i) (upTo g2.rows)).length, packBits (List.map (fun i => decide (g2.ctl 5 5 = 1) && Nat.testBit 4 i) (List.filter (fun i => Nat.testBit 13 i) (upTo g2.rows))))]) = (b2_9.putRun 77 g2, peOk)) ∧
    (b2b_9.engineOn 3 = true ∧ (b2b_9.engine 3).past = false ∧ (b2b_9.engine 3).cur = some 77 ∧ (b2b_9.ctxRun 77).run = some g2b ∧
      g2b.words ≠ [] ∧ g2b.status = none ∧ (bit (g2b.words.getD 0 (0 : Word)) 8 = false ∨ b2b_9.portQuiet (engPort 3) = true) ∧
      g2b.early = none ∧ g2b.op = 2 ∧ g2b.pos = 0 ∧ g2b.out = 0 ∧ g2b.buf = 0 ∧ 0 < g2b.count ∧
      (b2b_9.putRun 77 g2b).checkRanges (b2b_9.ctx 77).realm [(g2b.p 3, bitBytes g2b.rows), (g2b.p 0, g2b.rows * g2b.ctl 4 0), (g2b.p 1, if decide (g2b.ctl 5 5 = 1) = true then bitBytes g2b.rows else 0)] = (b2b_9.putRun 77 g2b, peOk) ∧
      (b2b_9.putRun 77 g2b).fetchAll 3 (b2b_9.ctx 77).realm [(g2b.p 3, bitBytes g2b.rows), (g2b.p 0, g2b.rows * g2b.ctl 4 0), (g2b.p 1, if decide (g2b.ctl 5 5 = 1) = true then bitBytes g2b.rows else 0)] = (b2b_9.putRun 77 g2b, some [13, 67305985, 0]) ∧
      g2b.ctl 6 6 = 0 ∧ decide (g2b.ctl 5 5 = 1) = false ∧
      (b2b_9.putRun 77 g2b).checkRanges (b2b_9.ctx 77).realm (List.map (fun p => (p.1, p.2.1)) [(g2b.p 4, (List.filter (fun i => Nat.testBit 13 i) (upTo g2b.rows)).length * g2b.ctl 4 0, packed (g2b.ctl 4 0) (List.map (fun i => elt 67305985 (g2b.ctl 4 0) i) (List.filter (fun i => Nat.testBit 13 i) (upTo g2b.rows))))]) = (b2b_9.putRun 77 g2b, peOk)) ∧
    (b1_9.engineOn 3 = true ∧ (b1_9.engine 3).past = false ∧ (b1_9.engine 3).cur = some 77 ∧ (b1_9.ctxRun 77).run = some b1_2 ∧
      b1_2.words ≠ [] ∧ b1_2.status = none ∧ (bit (b1_2.words.getD 0 (0 : Word)) 8 = false ∨ b1_9.portQuiet (engPort 3) = true) ∧
      b1_2.early = none ∧ b1_2.op = 1 ∧ b1_2.pos = 0 ∧ b1_2.out = 0 ∧ b1_2.buf = 0 ∧ 0 < b1_2.count ∧
      (b1_9.putRun 77 b1_2).checkRanges (b1_9.ctx 77).realm [(b1_2.p 0, b1_2.ctl 3 0 * 64)] = (b1_9.putRun 77 b1_2, peOk) ∧
      (b1_9.putRun 77 b1_2).fetchAll 3 (b1_9.ctx 77).realm [(b1_2.p 0, b1_2.ctl 3 0 * 64)] = (b1_9.putRun 77 b1_2, some [BitVec.toNat pb]) ∧
      (List.map (fun i => Pred.of (elt (BitVec.toNat pb) 64 i)) (upTo (b1_2.ctl 3 0))).all Pred.ok = true ∧
      (b1_9.putRun 77 b1_2).checkRanges (b1_9.ctx 77).realm ((b1_2.p 3, if decide (b1_2.ctl 7 7 = 1) = true then bitBytes b1_2.rows else 0) :: predRanges 0 b1_2.rows (List.map (fun i => Pred.of (elt (BitVec.toNat pb) 64 i)) (upTo (b1_2.ctl 3 0)))) = (b1_9.putRun 77 b1_2, peOk) ∧
      (b1_9.putRun 77 b1_2).fetchAll 3 (b1_9.ctx 77).realm ((b1_2.p 3, if decide (b1_2.ctl 7 7 = 1) = true then bitBytes b1_2.rows else 0) :: predRanges 0 b1_2.rows (List.map (fun i => Pred.of (elt (BitVec.toNat pb) 64 i)) (upTo (b1_2.ctl 3 0)))) = (b1_9.putRun 77 b1_2, some (0 :: b1_8)) ∧
      b1_2.ctl 6 5 = 0 ∧
      (b1_9.putRun 77 b1_2).checkRanges (b1_9.ctx 77).realm (List.map (fun p => (p.1, p.2.1)) [(b1_2.p 4, bitBytes b1_2.rows, packBits (List.map (fun i => decide (i ∈ List.filter (fun i => combineTrue (decide (b1_2.ctl 4 4 = 1)) (predRow i (List.map (fun i => Pred.of (elt (BitVec.toNat pb) 64 i)) (upTo (b1_2.ctl 3 0))) b1_8) && (!decide (b1_2.ctl 7 7 = 1) || Nat.testBit 0 i)) (upTo b1_2.rows))) (upTo b1_2.rows)))]) = (b1_9.putRun 77 b1_2, peOk)) ∧
    (b1b_9.engineOn 3 = true ∧ (b1b_9.engine 3).past = false ∧ (b1b_9.engine 3).cur = some 77 ∧ (b1b_9.ctxRun 77).run = some b1b_2 ∧
      b1b_2.words ≠ [] ∧ b1b_2.status = none ∧ (bit (b1b_2.words.getD 0 (0 : Word)) 8 = false ∨ b1b_9.portQuiet (engPort 3) = true) ∧
      b1b_2.early = none ∧ b1b_2.op = 1 ∧ b1b_2.pos = 0 ∧ b1b_2.out = 0 ∧ b1b_2.buf = 0 ∧ 0 < b1b_2.count ∧
      (b1b_9.putRun 77 b1b_2).checkRanges (b1b_9.ctx 77).realm [(b1b_2.p 0, b1b_2.ctl 3 0 * 64)] = (b1b_9.putRun 77 b1b_2, peOk) ∧
      (b1b_9.putRun 77 b1b_2).fetchAll 3 (b1b_9.ctx 77).realm [(b1b_2.p 0, b1b_2.ctl 3 0 * 64)] = (b1b_9.putRun 77 b1b_2, some [BitVec.toNat pb]) ∧
      (List.map (fun i => Pred.of (elt (BitVec.toNat pb) 64 i)) (upTo (b1b_2.ctl 3 0))).all Pred.ok = true ∧
      (b1b_9.putRun 77 b1b_2).checkRanges (b1b_9.ctx 77).realm ((b1b_2.p 3, if decide (b1b_2.ctl 7 7 = 1) = true then bitBytes b1b_2.rows else 0) :: predRanges 0 b1b_2.rows (List.map (fun i => Pred.of (elt (BitVec.toNat pb) 64 i)) (upTo (b1b_2.ctl 3 0)))) = (b1b_9.putRun 77 b1b_2, peOk) ∧
      (b1b_9.putRun 77 b1b_2).fetchAll 3 (b1b_9.ctx 77).realm ((b1b_2.p 3, if decide (b1b_2.ctl 7 7 = 1) = true then bitBytes b1b_2.rows else 0) :: predRanges 0 b1b_2.rows (List.map (fun i => Pred.of (elt (BitVec.toNat pb) 64 i)) (upTo (b1b_2.ctl 3 0)))) = (b1b_9.putRun 77 b1b_2, some (0 :: b1b_8)) ∧
      b1b_2.ctl 6 5 ≠ 0 ∧
      (List.filter (fun i => combineTrue (decide (b1b_2.ctl 4 4 = 1)) (predRow i (List.map (fun i => Pred.of (elt (BitVec.toNat pb) 64 i)) (upTo (b1b_2.ctl 3 0))) b1b_8) && (!decide (b1b_2.ctl 7 7 = 1) || Nat.testBit 0 i)) (upTo b1b_2.rows)).length ≤ b1b_2.p 5 ∧
      (b1b_9.putRun 77 b1b_2).checkRanges (b1b_9.ctx 77).realm (List.map (fun p => (p.1, p.2.1)) [(b1b_2.p 4, (List.filter (fun i => combineTrue (decide (b1b_2.ctl 4 4 = 1)) (predRow i (List.map (fun i => Pred.of (elt (BitVec.toNat pb) 64 i)) (upTo (b1b_2.ctl 3 0))) b1b_8) && (!decide (b1b_2.ctl 7 7 = 1) || Nat.testBit 0 i)) (upTo b1b_2.rows)).length * if b1b_2.ctl 6 5 = 1 then 4 else 8, packed (if b1b_2.ctl 6 5 = 1 then 4 else 8) (List.map (fun i => b1b_2.p 1 + i) (List.filter (fun i => combineTrue (decide (b1b_2.ctl 4 4 = 1)) (predRow i (List.map (fun i => Pred.of (elt (BitVec.toNat pb) 64 i)) (upTo (b1b_2.ctl 3 0))) b1b_8) && (!decide (b1b_2.ctl 7 7 = 1) || Nat.testBit 0 i)) (upTo b1b_2.rows))))]) = (b1b_9.putRun 77 b1b_2, peOk)) ∧
    (b1c_9.engineOn 3 = true ∧ (b1c_9.engine 3).past = false ∧ (b1c_9.engine 3).cur = some 77 ∧ (b1c_9.ctxRun 77).run = some b1c_2 ∧
      b1c_2.words ≠ [] ∧ b1c_2.status = none ∧ (bit (b1c_2.words.getD 0 (0 : Word)) 8 = false ∨ b1c_9.portQuiet (engPort 3) = true) ∧
      b1c_2.early = none ∧ b1c_2.op = 1 ∧ b1c_2.pos = 0 ∧ b1c_2.out = 0 ∧ b1c_2.buf = 0 ∧ 0 < b1c_2.count ∧
      (b1c_9.putRun 77 b1c_2).checkRanges (b1c_9.ctx 77).realm [(b1c_2.p 0, b1c_2.ctl 3 0 * 64)] = (b1c_9.putRun 77 b1c_2, peOk) ∧
      (b1c_9.putRun 77 b1c_2).fetchAll 3 (b1c_9.ctx 77).realm [(b1c_2.p 0, b1c_2.ctl 3 0 * 64)] = (b1c_9.putRun 77 b1c_2, some [BitVec.toNat pb]) ∧
      (List.map (fun i => Pred.of (elt (BitVec.toNat pb) 64 i)) (upTo (b1c_2.ctl 3 0))).all Pred.ok = true ∧
      (b1c_9.putRun 77 b1c_2).checkRanges (b1c_9.ctx 77).realm ((b1c_2.p 3, if decide (b1c_2.ctl 7 7 = 1) = true then bitBytes b1c_2.rows else 0) :: predRanges 0 b1c_2.rows (List.map (fun i => Pred.of (elt (BitVec.toNat pb) 64 i)) (upTo (b1c_2.ctl 3 0)))) = (b1c_9.putRun 77 b1c_2, peOk) ∧
      (b1c_9.putRun 77 b1c_2).fetchAll 3 (b1c_9.ctx 77).realm ((b1c_2.p 3, if decide (b1c_2.ctl 7 7 = 1) = true then bitBytes b1c_2.rows else 0) :: predRanges 0 b1c_2.rows (List.map (fun i => Pred.of (elt (BitVec.toNat pb) 64 i)) (upTo (b1c_2.ctl 3 0)))) = (b1c_9.putRun 77 b1c_2, some (0 :: b1c_8)) ∧
      b1c_2.ctl 6 5 ≠ 0 ∧
      b1c_2.p 5 < (List.filter (fun i => combineTrue (decide (b1c_2.ctl 4 4 = 1)) (predRow i (List.map (fun i => Pred.of (elt (BitVec.toNat pb) 64 i)) (upTo (b1c_2.ctl 3 0))) b1c_8) && (!decide (b1c_2.ctl 7 7 = 1) || Nat.testBit 0 i)) (upTo b1c_2.rows)).length ∧
      (b1c_9.putRun 77 b1c_2).checkRanges (b1c_9.ctx 77).realm (List.map (fun p => (p.1, p.2.1)) [(b1c_2.p 4, b1c_2.p 5 * if b1c_2.ctl 6 5 = 1 then 4 else 8, packed (if b1c_2.ctl 6 5 = 1 then 4 else 8) (List.map (fun i => b1c_2.p 1 + i) (List.take (b1c_2.p 5) (List.filter (fun i => combineTrue (decide (b1c_2.ctl 4 4 = 1)) (predRow i (List.map (fun i => Pred.of (elt (BitVec.toNat pb) 64 i)) (upTo (b1c_2.ctl 3 0))) b1c_8) && (!decide (b1c_2.ctl 7 7 = 1) || Nat.testBit 0 i)) (upTo b1c_2.rows)))))]) = (b1c_9.putRun 77 b1c_2, peOk)) := by
  refine ⟨?_, ?_, ?_, ?_, ?_, ?_, ?_, ?_, ?_, ?_, ?_, ?_⟩ <;> decide +kernel
end J1

namespace K1
abbrev m6 : State := (((((State.reset.setFld regGlbMode 3 0 6).setFld regGlbMode 7 4 6).setReg regDmcTop (BitVec.ofNat 64 (2^40))).setFld regClkStatus 3 3 1).setFld regTrlImage 5 5 1).setFld regTrlImage 63 32 1
abbrev st (r k : Nat) (s : State) : State := s.setFld (regRlmTable0 r) 18 16 k
abbrev cc : Command := { opcode := 1, target := 0xff, ps := [] }
abbrev sw : Sweep := { realm := 5, pages := [7, 9], total := 4 }
abbrev bd : State := {((st 5 1 m6).setReg regRlmCmdarg0 6).setReg regRlmCmdarg1 0x5040 with pot := [(5, potMake 0 1 5)]}
abbrev bt : State := {((st 5 1 m6).setReg regRlmCmdarg0 ((bd.tidOf 6).zeroExtend 64)).setReg regRlmCmdarg1 0x5040 with pot := [(5, potMake 0 1 5)]}
abbrev pg : State := (st 5 1 m6).setFld regRlmPgcmd 9 0 5
abbrev kc (op : Nat) (ps : List Word) : Command := { opcode := BitVec.ofNat 16 op, target := 0xff, ps := ps, ticketed := true, stamp := some 3 }
abbrev kv (c : Command) (s : State) : State := { s with clause := 1000, events := [{ stamp := 5, rank := 5, origin := 0, kind := .command c }] }
abbrev s1 : State := (st 5 1 m6).setFld (regKeySlot 5) 2 0 1
abbrev pz : State := ((st 5 1 m6).setFld regRlmPgcmd 19 10 1).setFld regRlmPgcmd 9 0 5
abbrev wk : State := ((st 5 1 m6).setReg regTrlImage (BitVec.ofNat 64 (1 + 32 + 2^16 + 2 * 2^32))).setFld regClkStatus 3 3 0

def a1_12 : State := st 5 1 m6
def a2_12 : State := (st 5 2 m6).modThread 6 (fun y => {y with realm := 5})
def a3_12 : State := (st 5 1 m6).setFld (regRlmTable0 5) 32 32 1
def a5_12 : State := ((st 5 1 m6).setFld regRlmCmd 31 31 1).setFld regRlmPgcmd 63 63 1
def b3_12 : State := ((bt.setFld (regRlmBind0 6) 16 16 1).setFld (regRlmBind0 6) 9 0 5)
def w1_6 : List Sweep := []
def w1_8 : List ℕ := [9]
def w1_12 : State := {(pg.setFld (regKeySlot 5) 2 0 2) with realms := { sweeps := [sw] }, pot := [(7, potMake 0 1 5)]}
def w2_5 : Sweep := {sw with pages := []}
def w2_12 : State := {(pg.setFld (regKeySlot 5) 2 0 2) with realms := { sweeps := [{sw with pages := []}], waits := [{ kind := .rotate cc, realm := 5, started := 8, waiting := [0] }] }, pot := [(7, potMake 0 1 5)]}
def w3_12 : State := {(st 5 3 m6) with realms := { sweeps := [{sw with pages := []}], waits := [{ kind := .reset 3 4, realm := 5, started := 8, waiting := [] }] }, pot := [(7, potMake 0 1 5)]}
def z1_12 : State := {pz with mem := [⟨409605, 7⟩]}
def z2_12 : State := {pz with mem := [⟨409605, 7⟩], pot := [(100, potMake 1 1 5)]}
theorem test_witness_RealmRegisterCommands :
    (a1_12.fld regRlmCmd 31 31 = 0 ∧ a1_12.servesRegs = true ∧ a1_12.otherMembers = [] ∧ a1_12.memberJobs = [] ∧ a1_12.realms.hold = none ∧
      a1_12.realms.queue = [] ∧ a1_12.realms.pageJobs = [] ∧ a1_12.isManager = true ∧ BitVec.toNat (5 : Realm) ≠ 0 ∧
      a1_12.realmState (BitVec.toNat (5 : Realm)) = realmStopped ∧
      (a1_12.realmSealed (BitVec.toNat (5 : Realm)) = false ∨ a1_12.fld regThmStatus 6 6 = 1)) ∧
    (a1_12.fld regRlmCmd 31 31 = 0 ∧ a1_12.servesRegs = true ∧ a1_12.otherMembers = [] ∧ a1_12.memberJobs = [] ∧ a1_12.realms.hold = none ∧
      a1_12.realms.queue = [] ∧ a1_12.realms.pageJobs = [] ∧ a1_12.isManager = true ∧
      (BitVec.toNat (5 : Realm) = 0 ∨ a1_12.realmState (BitVec.toNat (5 : Realm)) ≠ realmRunning)) ∧
    (a1_12.realms.sweeps = []) ∧
    (a1_12.realms.waits = []) ∧
    (a2_12.fld regRlmCmd 31 31 = 0 ∧ a2_12.servesRegs = true ∧ a2_12.otherMembers = [] ∧ a2_12.memberJobs = [] ∧ a2_12.realms.hold = none ∧
      a2_12.realms.queue = [] ∧ a2_12.realms.pageJobs = [] ∧ a2_12.isManager = true ∧
      (BitVec.toNat (5 : Realm) = 0 ∨ a2_12.realmState (BitVec.toNat (5 : Realm)) ≠ realmStopped)) ∧
    (a2_12.fld regRlmCmd 31 31 = 0 ∧ a2_12.servesRegs = true ∧ a2_12.otherMembers = [] ∧ a2_12.memberJobs = [] ∧ a2_12.realms.hold = none ∧
      a2_12.realms.queue = [] ∧ a2_12.realms.pageJobs = [] ∧ a2_12.isManager = true ∧ BitVec.toNat (5 : Realm) ≠ 0 ∧
      a2_12.realmState (BitVec.toNat (5 : Realm)) = realmRunning) ∧
    (a3_12.fld regRlmCmd 31 31 = 0 ∧ a3_12.servesRegs = true ∧ a3_12.otherMembers = [] ∧ a3_12.memberJobs = [] ∧ a3_12.realms.hold = none ∧
      a3_12.realms.queue = [] ∧ a3_12.realms.pageJobs = [] ∧ a3_12.isManager = true ∧ BitVec.toNat (5 : Realm) ≠ 0 ∧
      a3_12.realmState (BitVec.toNat (5 : Realm)) = realmStopped ∧ a3_12.realmSealed (BitVec.toNat (5 : Realm)) = true ∧
      a3_12.fld regThmStatus 6 6 = 0) ∧
    (a5_12.fld regRlmCmd 31 31 = 1) ∧
    (a5_12.fld regRlmPgcmd 63 63 = 1) ∧
    (bt.fld regRlmCmd 31 31 = 0 ∧ bt.servesRegs = true ∧ bt.otherMembers = [] ∧ bt.memberJobs = [] ∧ bt.realms.hold = none ∧
      bt.realms.queue = [] ∧ bt.realms.pageJobs = [] ∧ bt.rlmThreads (bt.reg regRlmCmdarg0) = some [6] ∧ BitVec.toNat (5 : Realm) ≠ 0 ∧
      (bt.realmState (BitVec.toNat (5 : Realm)) = realmStopped ∨ bt.realmState (BitVec.toNat (5 : Realm)) = realmRunning) ∧
      bt.mayBind (BitVec.toNat (5 : Realm)) [6] = true ∧
      bt.ctxOwned (BitVec.toNat (5 : Realm)) (bits (bt.reg regRlmCmdarg1) 51 6 * 64) = true ∧ bt.domainOpen (6 / 8 : ℕ) = true) ∧
    (bt.fld regRlmCmd 31 31 = 0 ∧ bt.servesRegs = true ∧ bt.otherMembers = [] ∧ bt.memberJobs = [] ∧ bt.realms.hold = none ∧
      bt.realms.queue = [] ∧ bt.realms.pageJobs = [] ∧ bt.rlmThreads (bt.reg regRlmCmdarg0) = some [6] ∧
      bt.boundTo 6 (BitVec.toNat (5 : Realm)) = false) ∧
    (b3_12.fld regRlmCmd 31 31 = 0 ∧ b3_12.servesRegs = true ∧ b3_12.otherMembers = [] ∧ b3_12.memberJobs = [] ∧ b3_12.realms.hold = none ∧
      b3_12.realms.queue = [] ∧ b3_12.realms.pageJobs = [] ∧ b3_12.rlmThreads (b3_12.reg regRlmCmdarg0) = some [6] ∧
      b3_12.boundTo 6 (BitVec.toNat (5 : Realm)) = true ∧ b3_12.realmSealed (BitVec.toNat (5 : Realm)) = false ∧
      (b3_12.thread 6).realm ≠ (5 : Realm)) ∧
    (w1_12.sourcesHeld = false ∧ w1_12.realms.sweeps = sw :: w1_6 ∧ sw.pages = 7 :: w1_8 ∧
      w1_12.potEntry 7 = potMake (w1_12.keyCur sw.realm) potOwned sw.realm ∧ sw.realm < 1024 ∧ w1_12.dramBad = []) ∧
    (w2_12.sourcesHeld = false ∧ w2_12.otherMembers = [] ∧ w2_12.memberJobs = [] ∧ w2_12.realms.hold = none ∧ w2_12.realms.queue = [] ∧
      w2_12.realms.pageJobs = [] ∧ w2_12.isManager = true ∧ w2_12.joined = true ∧ cc.gen = w2_12.epf.gen ∧ w2_12.realms.sweeps = [w2_5] ∧
      w2_5.pages = [] ∧ w2_5.realm < 1024 ∧
      w2_12.realms.waits = [{ kind := RealmWaitKind.rotate cc, realm := w2_5.realm, started := (8 : Word), waiting := [w2_12.pkgNum] }]) ∧
    (w3_12.otherMembers = [] ∧ w3_12.memberJobs = [] ∧ w3_12.realms.hold = none ∧ w3_12.realms.queue = [] ∧ w3_12.realms.pageJobs = [] ∧
      w3_12.realmState (BitVec.toNat (5 : Realm)) = realmResetting ∧
      w3_12.realms.waits = [{ kind := RealmWaitKind.reset 3 4, realm := BitVec.toNat (5 : Realm), started := (8 : Word), waiting := [] }]) ∧
    (z1_12.fld regRlmPgcmd 63 63 = 0 ∧ z1_12.servesRegs = true ∧ z1_12.otherMembers = [] ∧ z1_12.memberJobs = [] ∧
      z1_12.realms.hold = none ∧ z1_12.realms.queue = [] ∧ z1_12.realms.pageJobs = [] ∧ z1_12.fld regRlmPgcmd 19 10 = 1 ∧
      z1_12.fld regRlmPgcmd 9 0 = BitVec.toNat (5 : Realm) ∧ BitVec.toNat (100 : BitVec 40) / 2 ^ 35 = z1_12.pkgNum ∧
      BitVec.toNat (100 : BitVec 40) % 2 ^ 35 * 4096 < BitVec.toNat (z1_12.reg regDmcTop) ∧ memWf z1_12.mem = true ∧
      ((((z1_12.setFld regRlmPgarg 51 12 (BitVec.toNat (100 : BitVec 40))).setFld regRlmPgcmd 63 63 1).beginPage (BitVec.toNat (100 : BitVec 40) % 2 ^ 35)).pageLines (BitVec.toNat (100 : BitVec 40) % 2 ^ 35)).all (((z1_12.setFld regRlmPgarg 51 12 (BitVec.toNat (100 : BitVec 40))).setFld regRlmPgcmd 63 63 1).beginPage (BitVec.toNat (100 : BitVec 40) % 2 ^ 35)).lineIdle = true ∧
      potState (z1_12.potEntry (BitVec.toNat (100 : BitVec 40) % 2 ^ 35)) = potFree ∧
      (z1_12.realmState (BitVec.toNat (5 : Realm)) = realmStopped ∨ z1_12.realmState (BitVec.toNat (5 : Realm)) = realmRunning) ∧
      bit (z1_12.reg regGlbInject) 63 = false) ∧
    (z2_12.fld regRlmPgcmd 63 63 = 0 ∧ z2_12.servesRegs = true ∧ z2_12.otherMembers = [] ∧ z2_12.memberJobs = [] ∧
      z2_12.realms.hold = none ∧ z2_12.realms.queue = [] ∧ z2_12.realms.pageJobs = [] ∧ z2_12.fld regRlmPgcmd 19 10 = 1 ∧
      z2_12.fld regRlmPgcmd 9 0 = BitVec.toNat (5 : Realm) ∧ BitVec.toNat (100 : BitVec 40) / 2 ^ 35 = z2_12.pkgNum ∧
      BitVec.toNat (100 : BitVec 40) % 2 ^ 35 * 4096 < BitVec.toNat (z2_12.reg regDmcTop) ∧ memWf z2_12.mem = true ∧
      ((((z2_12.setFld regRlmPgarg 51 12 (BitVec.toNat (100 : BitVec 40))).setFld regRlmPgcmd 63 63 1).beginPage (BitVec.toNat (100 : BitVec 40) % 2 ^ 35)).pageLines (BitVec.toNat (100 : BitVec 40) % 2 ^ 35)).all (((z2_12.setFld regRlmPgarg 51 12 (BitVec.toNat (100 : BitVec 40))).setFld regRlmPgcmd 63 63 1).beginPage (BitVec.toNat (100 : BitVec 40) % 2 ^ 35)).lineIdle = true ∧
      potState (z2_12.potEntry (BitVec.toNat (100 : BitVec 40) % 2 ^ 35)) = potOwned ∧
      potRealm (z2_12.potEntry (BitVec.toNat (100 : BitVec 40) % 2 ^ 35)) = BitVec.toNat (5 : Realm) ∧
      z2_12.realmSealed (BitVec.toNat (5 : Realm)) = false ∧ z2_12.holdsCtx (BitVec.toNat (100 : BitVec 40) % 2 ^ 35) = false ∧
      bit (z2_12.reg regGlbInject) 63 = false) ∧
    (z2_12.fld regRlmPgcmd 63 63 = 0 ∧ z2_12.servesRegs = true ∧ z2_12.otherMembers = [] ∧ z2_12.memberJobs = [] ∧
      z2_12.realms.hold = none ∧ z2_12.realms.queue = [] ∧ z2_12.realms.pageJobs = [] ∧ z2_12.fld regRlmPgcmd 19 10 = 1 ∧
      z2_12.fld regRlmPgcmd 9 0 = BitVec.toNat (5 : Realm) ∧ BitVec.toNat (100 : BitVec 40) / 2 ^ 35 = z2_12.pkgNum ∧
      BitVec.toNat (100 : BitVec 40) % 2 ^ 35 * 4096 < BitVec.toNat (z2_12.reg regDmcTop) ∧
      potState (z2_12.potEntry (BitVec.toNat (100 : BitVec 40) % 2 ^ 35)) ≠ potFree) ∧
    (wk.fld regRlmCmd 31 31 = 0 ∧ wk.servesRegs = true ∧ wk.otherMembers = [] ∧ wk.memberJobs = [] ∧ wk.realms.hold = none ∧
      wk.realms.queue = [] ∧ wk.realms.pageJobs = [] ∧ wk.isManager = false) := by
  refine ⟨?_, ?_, ?_, ?_, ?_, ?_, ?_, ?_, ?_, ?_, ?_, ?_, ?_, ?_, ?_, ?_, ?_, ?_, ?_⟩ <;> decide +kernel

def t1_0 : Command := kc 0x20 [5, 0xf0, 0]
def t1_1 : State := kv (kc 0x20 [5, 0xf0, 0]) m6
def t2_0 : Command := kc 0x20 [0x10005, 0xf0, 0]
def t2_1 : State := kv (kc 0x20 [0x10005, 0xf0, 0]) m6
def t3_0 : Command := kc 0x20 [0x10005, 0xf0, 0]
def t3_1 : State := kv (kc 0x20 [0x10005, 0xf0, 0]) (st 5 2 m6)
def t4_0 : Command := kc 0x21 [5, 0xf0, 0]
def t4_1 : State := kv (kc 0x21 [5, 0xf0, 0]) ((s1.setFld (regRlmBind0 6) 16 16 1).setFld (regRlmBind0 6) 9 0 5)
def t5_0 : Command := kc 0x21 [5, 0xf0, 0]
def t5_1 : State := kv (kc 0x21 [5, 0xf0, 0]) (st 5 2 m6)
def t6_0 : Command := kc 0x22 [5, 0xf0, 0]
def t6_1 : State := kv (kc 0x22 [5, 0xf0, 0]) s1
def t7_0 : Command := kc 0x22 [5, 0xf0, 0]
def t7_1 : State := kv (kc 0x22 [5, 0xf0, 0]) ((st 6 1 s1).setReg (regRlmTable0 6) (BitVec.ofNat 64 (0x30*2^48 + 2^32 + 65536)))
def t8_0 : Command := kc 0x23 [5, 0xf0, 0]
def t8_1 : State := kv (kc 0x23 [5, 0xf0, 0]) ((s1).setReg (regRlmTable0 5) (BitVec.ofNat 64 (0x30*2^48 + 2^32 + 65536)))
def t9_0 : Command := kc 0x23 [5, 0xf0, 0]
def t9_1 : State := kv (kc 0x23 [5, 0xf0, 0]) ((s1).setReg (regRlmTable0 5) (BitVec.ofNat 64 (0x30*2^48 + 2^32 + 2*65536)))
def u1_0 : Command := kc 0x24 [5, 0xf0, 0]
def u1_1 : State := kv (kc 0x24 [5, 0xf0, 0]) {s1 with pot := [(7, potMake 0 1 5)]}
def u2_0 : Command := kc 0x24 [5, 0xf0, 0]
def u2_1 : State := kv (kc 0x24 [5, 0xf0, 0]) (st 5 1 m6)
def u3_0 : Command := kc 0x25 [5, 0x64000, 1]
def u3_1 : State := kv (kc 0x25 [5, 0x64000, 1]) {s1 with mem := [⟨409605, 7⟩], pot := [(100, potMake 1 1 5)]}
def u4_0 : Command := kc 0x25 [5, 0x64000, 1]
def u4_1 : State := kv (kc 0x25 [5, 0x64000, 1]) {m6 with mem := [⟨409605, 7⟩], pot := [(100, potMake 1 1 5)]}
theorem test_witness_RealmTickets :
    (t1_1.resolves t1_0 = true ∧ t1_0.opcode.toNat = 32 ∧ modeSealed ≤ t1_1.mode ∧ t1_1.servesHost = true ∧ t1_0.gen = t1_1.epf.gen ∧
      (t1_0.target = (255 : BitVec 8) ∨ t1_0.target.toNat = t1_1.pkgNum) ∧
      t1_1.legalIn t1_0 (if t1_0.target = (255 : BitVec 8) then t1_1.imageJudge else t1_1.ownJudge) = true ∧ t1_1.otherMembers = [] ∧
      t1_1.memberJobs = [] ∧ t1_1.realms.hold = none ∧ t1_1.realms.queue = [] ∧ t1_1.realms.pageJobs = [] ∧ t1_1.isManager = true ∧
      t1_1.realms.keyBad = [] ∧ cmdRealm t1_0 ≠ 0 ∧ t1_1.realmState (cmdRealm t1_0) = realmFree ∧ bit (cmdWord t1_0 0) 16 = false) ∧
    (t2_1.resolves t2_0 = true ∧ t2_0.opcode.toNat = 32 ∧ modeSealed ≤ t2_1.mode ∧ t2_1.servesHost = true ∧ t2_0.gen = t2_1.epf.gen ∧
      (t2_0.target = (255 : BitVec 8) ∨ t2_0.target.toNat = t2_1.pkgNum) ∧
      t2_1.legalIn t2_0 (if t2_0.target = (255 : BitVec 8) then t2_1.imageJudge else t2_1.ownJudge) = true ∧ t2_1.otherMembers = [] ∧
      t2_1.memberJobs = [] ∧ t2_1.realms.hold = none ∧ t2_1.realms.queue = [] ∧ t2_1.realms.pageJobs = [] ∧ t2_1.isManager = true ∧
      t2_1.realms.keyBad = [] ∧ cmdRealm t2_0 ≠ 0 ∧ t2_1.realmState (cmdRealm t2_0) = realmFree ∧ bit (cmdWord t2_0 0) 16 = true ∧
      t2_1.commandSealCheck t2_0 = none) ∧
    (t3_1.resolves t3_0 = true ∧ t3_0.opcode.toNat = 32 ∧ modeSealed ≤ t3_1.mode ∧ t3_1.servesHost = true ∧ t3_0.gen = t3_1.epf.gen ∧
      (t3_0.target = (255 : BitVec 8) ∨ t3_0.target.toNat = t3_1.pkgNum) ∧
      t3_1.legalIn t3_0 (if t3_0.target = (255 : BitVec 8) then t3_1.imageJudge else t3_1.ownJudge) = true ∧ t3_1.otherMembers = [] ∧
      t3_1.memberJobs = [] ∧ t3_1.realms.hold = none ∧ t3_1.realms.queue = [] ∧ t3_1.realms.pageJobs = [] ∧ t3_1.isManager = true ∧
      t3_1.realms.keyBad = [] ∧ (cmdRealm t3_0 = 0 ∨ t3_1.realmState (cmdRealm t3_0) ≠ realmFree)) ∧
    (t4_1.resolves t4_0 = true ∧ t4_0.opcode.toNat = 33 ∧ modeSealed ≤ t4_1.mode ∧ t4_1.servesHost = true ∧ t4_0.gen = t4_1.epf.gen ∧
      (t4_0.target = (255 : BitVec 8) ∨ t4_0.target.toNat = t4_1.pkgNum) ∧
      t4_1.legalIn t4_0 (if t4_0.target = (255 : BitVec 8) then t4_1.imageJudge else t4_1.ownJudge) = true ∧ t4_1.otherMembers = [] ∧
      t4_1.memberJobs = [] ∧ t4_1.realms.hold = none ∧ t4_1.realms.queue = [] ∧ t4_1.realms.pageJobs = [] ∧ t4_1.isManager = true ∧
      t4_1.realms.keyBad = [] ∧ cmdRealm t4_0 ≠ 0 ∧ t4_1.realmState (cmdRealm t4_0) = realmStopped ∧
      t4_1.keyState (cmdRealm t4_0) = keyActive) ∧
    (t5_1.resolves t5_0 = true ∧ t5_0.opcode.toNat = 33 ∧ modeSealed ≤ t5_1.mode ∧ t5_1.servesHost = true ∧ t5_0.gen = t5_1.epf.gen ∧
      (t5_0.target = (255 : BitVec 8) ∨ t5_0.target.toNat = t5_1.pkgNum) ∧
      t5_1.legalIn t5_0 (if t5_0.target = (255 : BitVec 8) then t5_1.imageJudge else t5_1.ownJudge) = true ∧ t5_1.otherMembers = [] ∧
      t5_1.memberJobs = [] ∧ t5_1.realms.hold = none ∧ t5_1.realms.queue = [] ∧ t5_1.realms.pageJobs = [] ∧ t5_1.isManager = true ∧
      t5_1.realms.keyBad = [] ∧ (cmdRealm t5_0 = 0 ∨ t5_1.realmState (cmdRealm t5_0) ≠ realmStopped)) ∧
    (t6_1.resolves t6_0 = true ∧ t6_0.opcode.toNat = 34 ∧ modeSealed ≤ t6_1.mode ∧ t6_1.servesHost = true ∧ t6_0.gen = t6_1.epf.gen ∧
      (t6_0.target = (255 : BitVec 8) ∨ t6_0.target.toNat = t6_1.pkgNum) ∧
      t6_1.legalIn t6_0 (if t6_0.target = (255 : BitVec 8) then t6_1.imageJudge else t6_1.ownJudge) = true ∧ t6_1.otherMembers = [] ∧
      t6_1.memberJobs = [] ∧ t6_1.realms.hold = none ∧ t6_1.realms.queue = [] ∧ t6_1.realms.pageJobs = [] ∧ t6_1.isManager = true ∧
      t6_1.realms.keyBad = [] ∧ cmdRealm t6_0 ≠ 0 ∧ t6_1.realmState (cmdRealm t6_0) = realmStopped ∧ t6_1.commandSealCheck t6_0 = none) ∧
    (t7_1.resolves t7_0 = true ∧ t7_0.opcode.toNat = 34 ∧ modeSealed ≤ t7_1.mode ∧ t7_1.servesHost = true ∧ t7_0.gen = t7_1.epf.gen ∧
      (t7_0.target = (255 : BitVec 8) ∨ t7_0.target.toNat = t7_1.pkgNum) ∧
      t7_1.legalIn t7_0 (if t7_0.target = (255 : BitVec 8) then t7_1.imageJudge else t7_1.ownJudge) = true ∧ t7_1.otherMembers = [] ∧
      t7_1.memberJobs = [] ∧ t7_1.realms.hold = none ∧ t7_1.realms.queue = [] ∧ t7_1.realms.pageJobs = [] ∧ t7_1.isManager = true ∧
      t7_1.realms.keyBad = [] ∧ cmdRealm t7_0 ≠ 0 ∧ t7_1.realmState (cmdRealm t7_0) = realmStopped ∧ t7_1.commandSealCheck t7_0 ≠ none) ∧
    (t8_1.resolves t8_0 = true ∧ t8_0.opcode.toNat = 35 ∧ modeSealed ≤ t8_1.mode ∧ t8_1.servesHost = true ∧ t8_0.gen = t8_1.epf.gen ∧
      (t8_0.target = (255 : BitVec 8) ∨ t8_0.target.toNat = t8_1.pkgNum) ∧
      t8_1.legalIn t8_0 (if t8_0.target = (255 : BitVec 8) then t8_1.imageJudge else t8_1.ownJudge) = true ∧ t8_1.otherMembers = [] ∧
      t8_1.memberJobs = [] ∧ t8_1.realms.hold = none ∧ t8_1.realms.queue = [] ∧ t8_1.realms.pageJobs = [] ∧ t8_1.isManager = true ∧
      t8_1.realms.keyBad = [] ∧ cmdRealm t8_0 ≠ 0 ∧ t8_1.realmState (cmdRealm t8_0) = realmStopped) ∧
    (t9_1.resolves t9_0 = true ∧ t9_0.opcode.toNat = 35 ∧ modeSealed ≤ t9_1.mode ∧ t9_1.servesHost = true ∧ t9_0.gen = t9_1.epf.gen ∧
      (t9_0.target = (255 : BitVec 8) ∨ t9_0.target.toNat = t9_1.pkgNum) ∧
      t9_1.legalIn t9_0 (if t9_0.target = (255 : BitVec 8) then t9_1.imageJudge else t9_1.ownJudge) = true ∧ t9_1.otherMembers = [] ∧
      t9_1.memberJobs = [] ∧ t9_1.realms.hold = none ∧ t9_1.realms.queue = [] ∧ t9_1.realms.pageJobs = [] ∧ t9_1.isManager = true ∧
      t9_1.realms.keyBad = [] ∧ t9_1.realmState (cmdRealm t9_0) ≠ realmStopped) ∧
    (u1_1.resolves u1_0 = true ∧ u1_0.opcode.toNat = 36 ∧ modeSealed ≤ u1_1.mode ∧ u1_1.servesHost = true ∧ u1_0.gen = u1_1.epf.gen ∧
      (u1_0.target = (255 : BitVec 8) ∨ u1_0.target.toNat = u1_1.pkgNum) ∧
      u1_1.legalIn u1_0 (if u1_0.target = (255 : BitVec 8) then u1_1.imageJudge else u1_1.ownJudge) = true ∧ u1_1.otherMembers = [] ∧
      u1_1.memberJobs = [] ∧ u1_1.realms.hold = none ∧ u1_1.realms.queue = [] ∧ u1_1.realms.pageJobs = [] ∧ u1_1.isManager = true ∧
      u1_1.realms.keyBad = [] ∧ cmdRealm u1_0 ≠ 0 ∧
      (u1_1.realmState (cmdRealm u1_0) = realmStopped ∨ u1_1.realmState (cmdRealm u1_0) = realmRunning) ∧
      u1_1.keyState (cmdRealm u1_0) = keyActive) ∧
    (u2_1.resolves u2_0 = true ∧ u2_0.opcode.toNat = 36 ∧ modeSealed ≤ u2_1.mode ∧ u2_1.servesHost = true ∧ u2_0.gen = u2_1.epf.gen ∧
      (u2_0.target = (255 : BitVec 8) ∨ u2_0.target.toNat = u2_1.pkgNum) ∧
      u2_1.legalIn u2_0 (if u2_0.target = (255 : BitVec 8) then u2_1.imageJudge else u2_1.ownJudge) = true ∧ u2_1.otherMembers = [] ∧
      u2_1.memberJobs = [] ∧ u2_1.realms.hold = none ∧ u2_1.realms.queue = [] ∧ u2_1.realms.pageJobs = [] ∧ u2_1.isManager = true ∧
      u2_1.realms.keyBad = [] ∧ u2_1.keyState (cmdRealm u2_0) ≠ keyActive) ∧
    (u3_1.resolves u3_0 = true ∧ u3_0.opcode.toNat = 37 ∧ modeSealed ≤ u3_1.mode ∧ u3_1.servesHost = true ∧ u3_0.gen = u3_1.epf.gen ∧
      (u3_0.target = (255 : BitVec 8) ∨ u3_0.target.toNat = u3_1.pkgNum) ∧
      u3_1.legalIn u3_0 (if u3_0.target = (255 : BitVec 8) then u3_1.imageJudge else u3_1.ownJudge) = true ∧ u3_1.otherMembers = [] ∧
      u3_1.memberJobs = [] ∧ u3_1.realms.hold = none ∧ u3_1.realms.queue = [] ∧ u3_1.realms.pageJobs = [] ∧ u3_1.isManager = true ∧
      u3_1.realms.keyBad = [] ∧ cmdRealm u3_0 ≠ 0 ∧
      (u3_1.realmState (cmdRealm u3_0) = realmStopped ∨ u3_1.realmState (cmdRealm u3_0) = realmRunning) ∧ cmdWord u3_0 2 = (1 : Word) ∧
      bits (cmdWord u3_0 1) 51 12 / 2 ^ 35 = u3_1.pkgNum ∧ bits (cmdWord u3_0 1) 51 12 % 2 ^ 35 * 4096 < BitVec.toNat (u3_1.reg regDmcTop) ∧
      potState (u3_1.potEntry (bits (cmdWord u3_0 1) 51 12 % 2 ^ 35)) = potOwned ∧
      potRealm (u3_1.potEntry (bits (cmdWord u3_0 1) 51 12 % 2 ^ 35)) = cmdRealm u3_0 ∧
      u3_1.holdsCtx (bits (cmdWord u3_0 1) 51 12 % 2 ^ 35) = false ∧ memWf u3_1.mem = true ∧ bit (u3_1.reg regGlbInject) 63 = false ∧
      ((u3_1.beginPage (bits (cmdWord u3_0 1) 51 12 % 2 ^ 35)).pageLines (bits (cmdWord u3_0 1) 51 12 % 2 ^ 35)).all (u3_1.beginPage (bits (cmdWord u3_0 1) 51 12 % 2 ^ 35)).lineIdle = true) ∧
    (u4_1.resolves u4_0 = true ∧ u4_0.opcode.toNat = 37 ∧ modeSealed ≤ u4_1.mode ∧ u4_1.servesHost = true ∧ u4_0.gen = u4_1.epf.gen ∧
      (u4_0.target = (255 : BitVec 8) ∨ u4_0.target.toNat = u4_1.pkgNum) ∧
      u4_1.legalIn u4_0 (if u4_0.target = (255 : BitVec 8) then u4_1.imageJudge else u4_1.ownJudge) = true ∧ u4_1.otherMembers = [] ∧
      u4_1.memberJobs = [] ∧ u4_1.realms.hold = none ∧ u4_1.realms.queue = [] ∧ u4_1.realms.pageJobs = [] ∧ u4_1.isManager = true ∧
      u4_1.realms.keyBad = [] ∧ u4_1.realmState (cmdRealm u4_0) ≠ realmStopped ∧ u4_1.realmState (cmdRealm u4_0) ≠ realmRunning ∧
      bits (cmdWord u4_0 1) 51 47 = u4_1.pkgNum) := by
  refine ⟨?_, ?_, ?_, ?_, ?_, ?_, ?_, ?_, ?_, ?_, ?_, ?_, ?_⟩ <;> decide +kernel
end K1

namespace L1
abbrev m6 : State := (((((State.reset.setFld regGlbMode 3 0 6).setFld regGlbMode 7 4 6).setReg regDmcTop (BitVec.ofNat 64 (2^40))).setFld regClkStatus 3 3 1).setFld regTrlImage 5 5 1).setFld regTrlImage 63 32 1
abbrev m4 : State := (State.reset.setFld regGlbMode 3 0 4).setFld regGlbIdent 4 4 1
abbrev kc (op : Nat) (ps : List Word) : Command := { opcode := BitVec.ofNat 16 op, target := 0xff, ps := ps, ticketed := true, stamp := some 3 }
abbrev kd (op : Nat) (ps : List Word) : Command := { opcode := BitVec.ofNat 16 op, target := 0, ps := ps, ticketed := true, stamp := some 3 }
abbrev ke (op : Nat) (ps : List Word) (e : List (BitVec 8)) : Command := { opcode := BitVec.ofNat 16 op, target := 0, ps := ps, ticketed := true, stamp := some 3, ext := e, hasExt := true }
abbrev kv (c : Command) (s : State) : State := { s with clause := 1000, events := [{ stamp := 5, rank := 5, origin := 0, kind := .command c }] }
abbrev jb (c : Command) : State := {(m4.setFld regGlbBoot 31 24 3) with flashJob := some c, memberJobs := [{ cmd := c, waiting := [0], started := 0}]}
abbrev gr (k : Nat) (e : Word) (s : State) : State := ((s.setFld (regTktGrant0 k) 8 8 1).setFld (regTktGrant0 k) 4 0 3).setReg (regTktGrant1 k) e
abbrev dn : Drain := { cmd := kc 0x12 [10], flushing := true }
abbrev mq (b : Bool) : State := {(m6.setFld regGlbMode 3 0 8).setFld regGlbMode 7 4 8 with image := {m6.image with quiesce := some {purpose := .command, cut := 5, waiting := [], complete := b}}}
abbrev dl (s : State) : State := (((s.setFld (regDirStatus 0) 1 1 1).setFld (regDirStatus 1) 1 1 1).setFld regDirLayout 7 0 3)
abbrev fwk : Nat × Nat := (0xf1a251cb0a3003d4908e3ca24abac07d21ee97dee0c714a87077b71657edb0f8d759fdefbe355b3ed064431cbf2fb7a0, 0xc6c40abf8316ba2bb9ec9aef42251d7a688706890463556776e5ddceaa4663087b3e7d348fbc42033b08e7405ab6819a)
abbrev fwi : List (BitVec 8) := leBytes 0x100000001000000004c4b4657 64 ++ beBytes 0x77a41d4606ffa1464793c7e5fdc7d98cb9d3910202dcd06bea4f240d3566da6b408bbae5026580d02d7e5c70500c831 48 ++ beBytes 0xe921ea6822577599f2809da60ac57053a770afeea801a22c80524b0cd80fc16eac0d751f01b493b156f0f846c118b46 48

def a1_0 : Command := (kc 1 [])
def a1_3 : State := kv (kc 1 []) m6
def a2_0 : Command := (kc 2 [5])
def a2_3 : State := kv (kc 2 [5]) m6
def a3_0 : Command := (kc 2 [5])
def a3_1 : Command := kc 0x10 []
def a3_3 : State := kv (kc 2 [5]) {m6 with longOps := [(5, (kc 0x10 [], true))]}
def a4_0 : Command := kc 2 [5]
def a4_1 : Command := kc 0x14 []
def a4_3 : State := kv (kc 2 [5]) {m6.setReg regDirCursor 0x500000003 with longOps := [(5, (kc 0x14 [], false))]}
def a5_0 : Command := (kc 3 [5,6,7,8])
def a5_3 : State := kv (kc 3 [5,6,7,8]) m4
def a6_0 : Command := (kc 3 [5,6,7,8])
def a6_3 : State := kv (kc 3 [5,6,7,8]) (m4.setFld (regTktSlot0 3) 0 0 1)
def a7_0 : Command := (kc 0x30 [5,6,7,8,9])
def a7_3 : State := kv (kc 0x30 [5,6,7,8,9]) m4
def a8_0 : Command := (kc 0x31 [3,6,7,8,9])
def a8_3 : State := kv (kc 0x31 [3,6,7,8,9]) {m4.setFld (regTktSlot0 3) 0 0 1 with ownerKeys := [(3, 7)]}
def a9_0 : Command := (kd 0x16 [BitVec.ofNat 64 regDmcChanhash0,0x1234567890abcdef,BitVec.allOnes 64])
def a9_3 : State := kv (kd 0x16 [BitVec.ofNat 64 regDmcChanhash0,0x1234567890abcdef,BitVec.allOnes 64]) m4
def b1_0 : Command := (ke 0x17 [0] [1])
def b1_3 : State := kv (ke 0x17 [0] [1]) m4
def b3_0 : Command := (kd 0x17 [2])
def b3_3 : State := kv (kd 0x17 [2]) (m4.setFld regGlbBoot 31 24 3)
def b4_0 : Command := (kd 0x17 [2])
def b4_3 : State := kv (kd 0x17 [2]) {(m4.setFld regGlbBoot 31 24 3) with fuses := {svnLeft := 0}}
def c1_0 : Command := ke 0x17 [0] [1,2]
def c1_3 : State := jb (ke 0x17 [0] [1,2])
def c2_0 : Command := ke 0x17 [1] [1,2]
def c2_3 : State := jb (ke 0x17 [1] [1,2])
def c3_0 : Command := kd 0x17 [2]
def c3_3 : State := jb (kd 0x17 [2])
def d1_0 : Command := kc 0x18 [0xf00000001, 99]
def d1_3 : State := kv (kc 0x18 [0xf00000001, 99]) (gr 0 7 (gr 1 8 m6))
def d2_0 : Command := (kc 0x19 [0x100000001])
def d2_3 : State := kv (kc 0x19 [0x100000001]) (gr 0 7 (gr 1 8 m6))
def d4_0 : Command := kc 0x18 [0xf00000001, 99]
def d4_3 : State := kv (kc 0x18 [0xf00000001, 99]) {((upTo 16).foldl (fun s k => gr k 9 s) m6) with clause := 9}
def e1_0 : Command := (kd 0x1a [5])
def e1_3 : State := kv (kd 0x1a [5]) ((m6.setReg regTlgHead 9).setReg regTlgTail 3)
def z1_0 : Command := (ke 0x17 [0] fwi)
def z1_3 : State := kv (ke 0x17 [0] fwi) {m4 with fuses := {fwKey := fwk}}
theorem test_witness_HostCommands :
    (a1_3.resolves a1_0 = true ∧ a1_0.opcode.toNat = 1 ∧ modeSealed ≤ a1_3.mode ∧ a1_3.servesHost = true ∧ a1_0.gen = a1_3.epf.gen ∧
      (a1_0.target = (255 : BitVec 8) ∨ a1_0.target.toNat = a1_3.pkgNum) ∧
      a1_3.legalIn a1_0 (if a1_0.target = (255 : BitVec 8) then a1_3.imageJudge else a1_3.ownJudge) = true ∧
      a1_3.cmdMembers a1_0 = [a1_3.pkgNum] ∧ a1_3.memberJobs = []) ∧
    (a1_3.flashJob = none) ∧
    (a2_3.resolves a2_0 = true ∧ a2_0.opcode.toNat = 2 ∧ modeSealed ≤ a2_3.mode ∧ a2_3.servesHost = true ∧ a2_0.gen = a2_3.epf.gen ∧
      (a2_0.target = (255 : BitVec 8) ∨ a2_0.target.toNat = a2_3.pkgNum) ∧
      a2_3.legalIn a2_0 (if a2_0.target = (255 : BitVec 8) then a2_3.imageJudge else a2_3.ownJudge) = true ∧
      a2_3.cmdMembers a2_0 = [a2_3.pkgNum] ∧ a2_3.memberJobs = [] ∧ a2_3.longOps.find (BitVec.toNat (cmdWord a2_0 0)) = none) ∧
    (a3_3.resolves a3_0 = true ∧ a3_0.opcode.toNat = 2 ∧ modeSealed ≤ a3_3.mode ∧ a3_3.servesHost = true ∧ a3_0.gen = a3_3.epf.gen ∧
      (a3_0.target = (255 : BitVec 8) ∨ a3_0.target.toNat = a3_3.pkgNum) ∧
      a3_3.legalIn a3_0 (if a3_0.target = (255 : BitVec 8) then a3_3.imageJudge else a3_3.ownJudge) = true ∧
      a3_3.cmdMembers a3_0 = [a3_3.pkgNum] ∧ a3_3.memberJobs = [] ∧ a3_3.longOps.find (BitVec.toNat (cmdWord a3_0 0)) = some (a3_1, true) ∧
      a3_1.opcode = (16 : BitVec 16)) ∧
    (a4_3.resolves a4_0 = true ∧ a4_0.opcode.toNat = 2 ∧ modeSealed ≤ a4_3.mode ∧ a4_3.servesHost = true ∧ a4_0.gen = a4_3.epf.gen ∧
      (a4_0.target = (255 : BitVec 8) ∨ a4_0.target.toNat = a4_3.pkgNum) ∧
      a4_3.legalIn a4_0 (if a4_0.target = (255 : BitVec 8) then a4_3.imageJudge else a4_3.ownJudge) = true ∧
      a4_3.cmdMembers a4_0 = [a4_3.pkgNum] ∧ a4_3.memberJobs = [] ∧ a4_3.longOps.find (BitVec.toNat (cmdWord a4_0 0)) = some (a4_1, false) ∧
      a4_1.opcode = (20 : BitVec 16) ∧ a4_3.cmdMembers a4_1 = [a4_3.pkgNum]) ∧
    (a5_3.resolves a5_0 = true ∧ a5_0.opcode.toNat = 3 ∧ modeSealed ≤ a5_3.mode ∧ a5_3.servesHost = true ∧ a5_0.gen = a5_3.epf.gen ∧
      (a5_0.target = (255 : BitVec 8) ∨ a5_0.target.toNat = a5_3.pkgNum) ∧
      a5_3.legalIn a5_0 (if a5_0.target = (255 : BitVec 8) then a5_3.imageJudge else a5_3.ownJudge) = true ∧
      a5_3.cmdMembers a5_0 = [a5_3.pkgNum] ∧ a5_3.memberJobs = [] ∧ ∀ k < 8, a5_3.fld (regTktSlot0 k) 0 0 = 0) ∧
    (a6_3.resolves a6_0 = true ∧ a6_0.opcode.toNat = 3 ∧ modeSealed ≤ a6_3.mode ∧ a6_3.servesHost = true ∧ a6_0.gen = a6_3.epf.gen ∧
      (a6_0.target = (255 : BitVec 8) ∨ a6_0.target.toNat = a6_3.pkgNum) ∧
      a6_3.legalIn a6_0 (if a6_0.target = (255 : BitVec 8) then a6_3.imageJudge else a6_3.ownJudge) = true ∧
      a6_3.cmdMembers a6_0 = [a6_3.pkgNum] ∧ a6_3.memberJobs = [] ∧ ∃ k < 8, a6_3.fld (regTktSlot0 k) 0 0 = 1) ∧
    (a7_3.resolves a7_0 = true ∧ a7_0.opcode.toNat = 48 ∧ modeSealed ≤ a7_3.mode ∧ a7_3.servesHost = true ∧ a7_0.gen = a7_3.epf.gen ∧
      (a7_0.target = (255 : BitVec 8) ∨ a7_0.target.toNat = a7_3.pkgNum) ∧
      a7_3.legalIn a7_0 (if a7_0.target = (255 : BitVec 8) then a7_3.imageJudge else a7_3.ownJudge) = true ∧
      a7_3.cmdMembers a7_0 = [a7_3.pkgNum] ∧ a7_3.memberJobs = []) ∧
    (a8_3.resolves a8_0 = true ∧ a8_0.opcode.toNat = 49 ∧ modeSealed ≤ a8_3.mode ∧ a8_3.servesHost = true ∧ a8_0.gen = a8_3.epf.gen ∧
      (a8_0.target = (255 : BitVec 8) ∨ a8_0.target.toNat = a8_3.pkgNum) ∧
      a8_3.legalIn a8_0 (if a8_0.target = (255 : BitVec 8) then a8_3.imageJudge else a8_3.ownJudge) = true ∧
      a8_3.cmdMembers a8_0 = [a8_3.pkgNum] ∧ a8_3.memberJobs = []) ∧
    (a9_3.resolves a9_0 = true ∧ a9_0.opcode.toNat = 22 ∧ modeSealed ≤ a9_3.mode ∧ a9_3.servesHost = true ∧ a9_0.gen = a9_3.epf.gen ∧
      (a9_0.target = (255 : BitVec 8) ∨ a9_0.target.toNat = a9_3.pkgNum) ∧
      a9_3.legalIn a9_0 (if a9_0.target = (255 : BitVec 8) then a9_3.imageJudge else a9_3.ownJudge) = true ∧
      a9_3.cmdMembers a9_0 = [a9_3.pkgNum] ∧ a9_3.memberJobs = [] ∧ bits (cmdWord a9_0 0) 25 0 = regDmcChanhash0 ∧
      cmdWord a9_0 2 = BitVec.allOnes 64) ∧
    (b1_3.resolves b1_0 = true ∧ b1_0.opcode.toNat = 23 ∧ modeSealed ≤ b1_3.mode ∧ b1_3.servesHost = true ∧ b1_0.gen = b1_3.epf.gen ∧
      (b1_0.target = (255 : BitVec 8) ∨ b1_0.target.toNat = b1_3.pkgNum) ∧
      b1_3.legalIn b1_0 (if b1_0.target = (255 : BitVec 8) then b1_3.imageJudge else b1_3.ownJudge) = true ∧
      b1_3.cmdMembers b1_0 = [b1_3.pkgNum] ∧ b1_3.memberJobs = [] ∧ bits (cmdWord b1_0 0) 1 0 = 0 ∧ b1_3.fwContentOk b1_0 = false) ∧
    (b3_3.resolves b3_0 = true ∧ b3_0.opcode.toNat = 23 ∧ modeSealed ≤ b3_3.mode ∧ b3_3.servesHost = true ∧ b3_0.gen = b3_3.epf.gen ∧
      (b3_0.target = (255 : BitVec 8) ∨ b3_0.target.toNat = b3_3.pkgNum) ∧
      b3_3.legalIn b3_0 (if b3_0.target = (255 : BitVec 8) then b3_3.imageJudge else b3_3.ownJudge) = true ∧
      b3_3.cmdMembers b3_0 = [b3_3.pkgNum] ∧ b3_3.memberJobs = [] ∧ bits (cmdWord b3_0 0) 1 0 = 2 ∧ b3_3.flashJob = none ∧
      b3_3.fuses.svnMin ≠ b3_3.fld regGlbBoot 31 24 ∧ b3_3.fuses.svnLeft ≠ 0) ∧
    (b4_3.resolves b4_0 = true ∧ b4_0.opcode.toNat = 23 ∧ modeSealed ≤ b4_3.mode ∧ b4_3.servesHost = true ∧ b4_0.gen = b4_3.epf.gen ∧
      (b4_0.target = (255 : BitVec 8) ∨ b4_0.target.toNat = b4_3.pkgNum) ∧
      b4_3.legalIn b4_0 (if b4_0.target = (255 : BitVec 8) then b4_3.imageJudge else b4_3.ownJudge) = true ∧
      b4_3.cmdMembers b4_0 = [b4_3.pkgNum] ∧ b4_3.memberJobs = [] ∧ bits (cmdWord b4_0 0) 1 0 = 2 ∧ b4_3.flashJob = none ∧
      b4_3.fuses.svnMin ≠ b4_3.fld regGlbBoot 31 24 ∧ b4_3.fuses.svnLeft = 0) ∧
    (c1_3.servesHost = true ∧ c1_3.flashJob = some c1_0 ∧
      c1_3.memberJobs = [{ cmd := c1_0, waiting := [c1_3.pkgNum], started := c1_3.clause }] ∧ c1_0.gen = c1_3.epf.gen ∧
      c1_0.opcode = (23 : BitVec 16) ∧ bits (cmdWord c1_0 0) 1 0 = 0) ∧
    (c2_3.servesHost = true ∧ c2_3.flashJob = some c2_0 ∧
      c2_3.memberJobs = [{ cmd := c2_0, waiting := [c2_3.pkgNum], started := c2_3.clause }] ∧ c2_0.gen = c2_3.epf.gen ∧
      c2_0.opcode = (23 : BitVec 16) ∧ bits (cmdWord c2_0 0) 1 0 = 1) ∧
    (c3_3.servesHost = true ∧ c3_3.flashJob = some c3_0 ∧
      c3_3.memberJobs = [{ cmd := c3_0, waiting := [c3_3.pkgNum], started := c3_3.clause }] ∧ c3_0.gen = c3_3.epf.gen ∧
      c3_0.opcode = (23 : BitVec 16) ∧ bits (cmdWord c3_0 0) 1 0 = 2) ∧
    (d1_3.resolves d1_0 = true ∧ d1_0.opcode.toNat = 24 ∧ modeSealed ≤ d1_3.mode ∧ d1_3.servesHost = true ∧ d1_0.gen = d1_3.epf.gen ∧
      (d1_0.target = (255 : BitVec 8) ∨ d1_0.target.toNat = d1_3.pkgNum) ∧
      d1_3.legalIn d1_0 (if d1_0.target = (255 : BitVec 8) then d1_3.imageJudge else d1_3.ownJudge) = true ∧
      d1_3.cmdMembers d1_0 = [d1_3.pkgNum] ∧ d1_3.memberJobs = [] ∧ d1_3.freeGrant = some 2) ∧
    (d2_3.resolves d2_0 = true ∧ d2_0.opcode.toNat = 25 ∧ modeSealed ≤ d2_3.mode ∧ d2_3.servesHost = true ∧ d2_0.gen = d2_3.epf.gen ∧
      (d2_0.target = (255 : BitVec 8) ∨ d2_0.target.toNat = d2_3.pkgNum) ∧
      d2_3.legalIn d2_0 (if d2_0.target = (255 : BitVec 8) then d2_3.imageJudge else d2_3.ownJudge) = true ∧
      d2_3.cmdMembers d2_0 = [d2_3.pkgNum] ∧ d2_3.memberJobs = []) ∧
    (d4_3.resolves d4_0 = true ∧ d4_0.opcode.toNat = 24 ∧ modeSealed ≤ d4_3.mode ∧ d4_3.servesHost = true ∧ d4_0.gen = d4_3.epf.gen ∧
      (d4_0.target = (255 : BitVec 8) ∨ d4_0.target.toNat = d4_3.pkgNum) ∧
      d4_3.legalIn d4_0 (if d4_0.target = (255 : BitVec 8) then d4_3.imageJudge else d4_3.ownJudge) = true ∧
      d4_3.cmdMembers d4_0 = [d4_3.pkgNum] ∧ d4_3.memberJobs = [] ∧ d4_3.freeGrant = none) ∧
    (e1_3.resolves e1_0 = true ∧ e1_0.opcode.toNat = 26 ∧ modeSealed ≤ e1_3.mode ∧ e1_3.servesHost = true ∧ e1_0.gen = e1_3.epf.gen ∧
      (e1_0.target = (255 : BitVec 8) ∨ e1_0.target.toNat = e1_3.pkgNum) ∧
      e1_3.legalIn e1_0 (if e1_0.target = (255 : BitVec 8) then e1_3.imageJudge else e1_3.ownJudge) = true ∧
      e1_3.cmdMembers e1_0 = [e1_3.pkgNum] ∧ e1_3.memberJobs = []) ∧
    (z1_3.resolves z1_0 = true ∧ z1_0.opcode.toNat = 23 ∧ modeSealed ≤ z1_3.mode ∧ z1_3.servesHost = true ∧ z1_0.gen = z1_3.epf.gen ∧
      (z1_0.target = (255 : BitVec 8) ∨ z1_0.target.toNat = z1_3.pkgNum) ∧
      z1_3.legalIn z1_0 (if z1_0.target = (255 : BitVec 8) then z1_3.imageJudge else z1_3.ownJudge) = true ∧
      z1_3.cmdMembers z1_0 = [z1_3.pkgNum] ∧ z1_3.memberJobs = [] ∧ bits (cmdWord z1_0 0) 1 0 = 0 ∧ z1_3.fwContentOk z1_0 = true ∧
      z1_3.flashJob = none) := by
  refine ⟨?_, ?_, ?_, ?_, ?_, ?_, ?_, ?_, ?_, ?_, ?_, ?_, ?_, ?_, ?_, ?_, ?_, ?_, ?_, ?_, ?_⟩ <;> decide +kernel

def f1_0 : Command := (kc 0x10 [1])
def f1_2 : State := kv (kc 0x10 [1]) m4
def f2_0 : Command := (kc 0x11 [1])
def f2_2 : State := kv (kc 0x11 [1]) m6
def f5_0 : Command := (kc 0x12 [8])
def f5_2 : State := kv (kc 0x12 [8]) m6
def f6_0 : Command := (kc 0x12 [8])
def f6_2 : State := kv (kc 0x12 [8]) {m6 with image := {m6.image with quiesce := some {purpose := .command, cut := 5, waiting := []}}}
def g1_0 : Command := (kc 0x12 [5])
def g1_2 : State := kv (kc 0x12 [5]) (mq true)
def g2_0 : Command := (kc 0x12 [5])
def g2_2 : State := kv (kc 0x12 [5]) (mq false)
def g5_0 : Command := (kc 0x12 [10])
def g5_2 : State := kv (kc 0x12 [10]) ((mq true))
def g6_0 : Command := (kc 0x12 [10])
def g6_2 : State := kv (kc 0x12 [10]) ((mq false))
def g7_2 : State := {m6.setFld regGlbMode 3 0 10 with drain := some dn, mem := [⟨5, 6⟩]}
def h1_0 : Command := (kc 0x13 [0])
def h1_2 : State := kv (kc 0x13 [0]) m6
def h2_0 : Command := (kc 0x14 [0x101])
def h2_2 : State := kv (kc 0x14 [0x101]) (dl m6)
def h3_0 : Command := (kc 0x14 [0x100])
def h3_2 : State := kv (kc 0x14 [0x100]) (dl m6)
def z4_0 : Command := (kc 0x11 [0])
def z4_2 : State := kv (kc 0x11 [0]) m6
def z5_2 : State := {m6.setFld regGlbMode 3 0 10 with drain := some dn, cores := [(3, { l2 := [(0, { line := 0x1234, st := .M, realm := 0, data := 77 })] })]}
theorem test_witness_ImageCommands :
    (f1_2.resolves f1_0 = true ∧ f1_0.opcode.toNat = 16 ∧ modeSealed ≤ f1_2.mode ∧ f1_2.servesHost = true ∧ f1_0.gen = f1_2.epf.gen ∧
      (f1_0.target = (255 : BitVec 8) ∨ f1_0.target.toNat = f1_2.pkgNum) ∧
      f1_2.legalIn f1_0 (if f1_0.target = (255 : BitVec 8) then f1_2.imageJudge else f1_2.ownJudge) = true ∧
      f1_2.cmdMembers f1_0 = [f1_2.pkgNum] ∧ f1_2.otherMembers = [] ∧ f1_2.memberJobs = []) ∧
    (f1_2.drain = none) ∧
    (f2_2.resolves f2_0 = true ∧ f2_0.opcode.toNat = 17 ∧ modeSealed ≤ f2_2.mode ∧ f2_2.servesHost = true ∧ f2_0.gen = f2_2.epf.gen ∧
      (f2_0.target = (255 : BitVec 8) ∨ f2_0.target.toNat = f2_2.pkgNum) ∧
      f2_2.legalIn f2_0 (if f2_0.target = (255 : BitVec 8) then f2_2.imageJudge else f2_2.ownJudge) = true ∧
      f2_2.cmdMembers f2_0 = [f2_2.pkgNum] ∧ f2_2.otherMembers = [] ∧ f2_2.memberJobs = [] ∧ bits (cmdWord f2_0 0) 1 0 ≠ f2_2.regime ∧
      f2_2.canQuiesce = true) ∧
    (f5_2.resolves f5_0 = true ∧ f5_0.opcode.toNat = 18 ∧ modeSealed ≤ f5_2.mode ∧ f5_2.servesHost = true ∧ f5_0.gen = f5_2.epf.gen ∧
      (f5_0.target = (255 : BitVec 8) ∨ f5_0.target.toNat = f5_2.pkgNum) ∧
      f5_2.legalIn f5_0 (if f5_0.target = (255 : BitVec 8) then f5_2.imageJudge else f5_2.ownJudge) = true ∧
      f5_2.cmdMembers f5_0 = [f5_2.pkgNum] ∧ f5_2.otherMembers = [] ∧ f5_2.memberJobs = [] ∧ f5_0.target = (255 : BitVec 8) ∧
      bits (cmdWord f5_0 0) 3 0 = 8 ∧ f5_2.canQuiesce = true) ∧
    (f6_2.resolves f6_0 = true ∧ f6_0.opcode.toNat = 18 ∧ modeSealed ≤ f6_2.mode ∧ f6_2.servesHost = true ∧ f6_0.gen = f6_2.epf.gen ∧
      (f6_0.target = (255 : BitVec 8) ∨ f6_0.target.toNat = f6_2.pkgNum) ∧
      f6_2.legalIn f6_0 (if f6_0.target = (255 : BitVec 8) then f6_2.imageJudge else f6_2.ownJudge) = true ∧
      f6_2.cmdMembers f6_0 = [f6_2.pkgNum] ∧ f6_2.otherMembers = [] ∧ f6_2.memberJobs = [] ∧ f6_0.target = (255 : BitVec 8) ∧
      bits (cmdWord f6_0 0) 3 0 = 8 ∧ f6_2.canQuiesce = false) ∧
    (g1_2.resolves g1_0 = true ∧ g1_0.opcode.toNat = 18 ∧ modeSealed ≤ g1_2.mode ∧ g1_2.servesHost = true ∧ g1_0.gen = g1_2.epf.gen ∧
      (g1_0.target = (255 : BitVec 8) ∨ g1_0.target.toNat = g1_2.pkgNum) ∧
      g1_2.legalIn g1_0 (if g1_0.target = (255 : BitVec 8) then g1_2.imageJudge else g1_2.ownJudge) = true ∧
      g1_2.cmdMembers g1_0 = [g1_2.pkgNum] ∧ g1_2.otherMembers = [] ∧ g1_2.memberJobs = [] ∧ g1_0.target = (255 : BitVec 8) ∧
      bits (cmdWord g1_0 0) 3 0 = 5 ∧ g1_2.quiesced = true) ∧
    (g2_2.resolves g2_0 = true ∧ g2_0.opcode.toNat = 18 ∧ modeSealed ≤ g2_2.mode ∧ g2_2.servesHost = true ∧ g2_0.gen = g2_2.epf.gen ∧
      (g2_0.target = (255 : BitVec 8) ∨ g2_0.target.toNat = g2_2.pkgNum) ∧
      g2_2.legalIn g2_0 (if g2_0.target = (255 : BitVec 8) then g2_2.imageJudge else g2_2.ownJudge) = true ∧
      g2_2.cmdMembers g2_0 = [g2_2.pkgNum] ∧ g2_2.otherMembers = [] ∧ g2_2.memberJobs = [] ∧ g2_0.target = (255 : BitVec 8) ∧
      bits (cmdWord g2_0 0) 3 0 = 5 ∧ g2_2.quiesced = false) ∧
    (g5_2.resolves g5_0 = true ∧ g5_0.opcode.toNat = 18 ∧ modeSealed ≤ g5_2.mode ∧ g5_2.servesHost = true ∧ g5_0.gen = g5_2.epf.gen ∧
      (g5_0.target = (255 : BitVec 8) ∨ g5_0.target.toNat = g5_2.pkgNum) ∧
      g5_2.legalIn g5_0 (if g5_0.target = (255 : BitVec 8) then g5_2.imageJudge else g5_2.ownJudge) = true ∧
      g5_2.cmdMembers g5_0 = [g5_2.pkgNum] ∧ g5_2.otherMembers = [] ∧ g5_2.memberJobs = [] ∧ g5_0.target = (255 : BitVec 8) ∧
      bits (cmdWord g5_0 0) 3 0 = 10 ∧ g5_2.joined = true ∧ (g5_2.mode ≠ modeQuiesce ∨ g5_2.quiesced = true)) ∧
    (g6_2.resolves g6_0 = true ∧ g6_0.opcode.toNat = 18 ∧ modeSealed ≤ g6_2.mode ∧ g6_2.servesHost = true ∧ g6_0.gen = g6_2.epf.gen ∧
      (g6_0.target = (255 : BitVec 8) ∨ g6_0.target.toNat = g6_2.pkgNum) ∧
      g6_2.legalIn g6_0 (if g6_0.target = (255 : BitVec 8) then g6_2.imageJudge else g6_2.ownJudge) = true ∧
      g6_2.cmdMembers g6_0 = [g6_2.pkgNum] ∧ g6_2.otherMembers = [] ∧ g6_2.memberJobs = [] ∧ g6_0.target = (255 : BitVec 8) ∧
      bits (cmdWord g6_0 0) 3 0 = 10 ∧ g6_2.joined = true ∧ g6_2.mode = modeQuiesce ∧ g6_2.quiesced = false) ∧
    (g7_2.drain = some dn ∧ g7_2.mode = modeDrain ∧ dn.flushing = true ∧ dn.leaving = false ∧ g7_2.completions = [] ∧
      g7_2.servesHost = true ∧ g7_2.flushed = true) ∧
    (h1_2.resolves h1_0 = true ∧ h1_0.opcode.toNat = 19 ∧ modeSealed ≤ h1_2.mode ∧ h1_2.servesHost = true ∧ h1_0.gen = h1_2.epf.gen ∧
      (h1_0.target = (255 : BitVec 8) ∨ h1_0.target.toNat = h1_2.pkgNum) ∧
      h1_2.legalIn h1_0 (if h1_0.target = (255 : BitVec 8) then h1_2.imageJudge else h1_2.ownJudge) = true ∧
      h1_2.cmdMembers h1_0 = [h1_2.pkgNum] ∧ h1_2.otherMembers = [] ∧ h1_2.memberJobs = []) ∧
    (h2_2.resolves h2_0 = true ∧ h2_0.opcode.toNat = 20 ∧ modeSealed ≤ h2_2.mode ∧ h2_2.servesHost = true ∧ h2_0.gen = h2_2.epf.gen ∧
      (h2_0.target = (255 : BitVec 8) ∨ h2_0.target.toNat = h2_2.pkgNum) ∧
      h2_2.legalIn h2_0 (if h2_0.target = (255 : BitVec 8) then h2_2.imageJudge else h2_2.ownJudge) = true ∧
      h2_2.cmdMembers h2_0 = [h2_2.pkgNum] ∧ h2_2.otherMembers = [] ∧ h2_2.memberJobs = [] ∧ h2_2.reshapeOk h2_0 = true) ∧
    (h3_2.resolves h3_0 = true ∧ h3_0.opcode.toNat = 20 ∧ modeSealed ≤ h3_2.mode ∧ h3_2.servesHost = true ∧ h3_0.gen = h3_2.epf.gen ∧
      (h3_0.target = (255 : BitVec 8) ∨ h3_0.target.toNat = h3_2.pkgNum) ∧
      h3_2.legalIn h3_0 (if h3_0.target = (255 : BitVec 8) then h3_2.imageJudge else h3_2.ownJudge) = true ∧
      h3_2.cmdMembers h3_0 = [h3_2.pkgNum] ∧ h3_2.otherMembers = [] ∧ h3_2.memberJobs = [] ∧ h3_2.reshapeOk h3_0 = false) ∧
    (z4_2.resolves z4_0 = true ∧ z4_0.opcode.toNat = 17 ∧ modeSealed ≤ z4_2.mode ∧ z4_2.servesHost = true ∧ z4_0.gen = z4_2.epf.gen ∧
      (z4_0.target = (255 : BitVec 8) ∨ z4_0.target.toNat = z4_2.pkgNum) ∧
      z4_2.legalIn z4_0 (if z4_0.target = (255 : BitVec 8) then z4_2.imageJudge else z4_2.ownJudge) = true ∧
      z4_2.cmdMembers z4_0 = [z4_2.pkgNum] ∧ z4_2.otherMembers = [] ∧ z4_2.memberJobs = [] ∧ bits (cmdWord z4_0 0) 1 0 = z4_2.regime) ∧
    (z5_2.drain = some dn ∧ z5_2.mode = modeDrain ∧ dn.flushing = true ∧ dn.leaving = false ∧ z5_2.completions = [] ∧
      z5_2.servesHost = true ∧ z5_2.flushed = false) := by
  refine ⟨?_, ?_, ?_, ?_, ?_, ?_, ?_, ?_, ?_, ?_, ?_, ?_, ?_, ?_, ?_⟩ <;> decide +kernel
end L1

namespace L2
abbrev m6 : State := (((((State.reset.setFld regGlbMode 3 0 6).setFld regGlbMode 7 4 6).setReg regDmcTop (BitVec.ofNat 64 (2^40))).setFld regClkStatus 3 3 1).setFld regTrlImage 5 5 1).setFld regTrlImage 63 32 1
abbrev kc (op : Nat) (ps : List Word) : Command := { opcode := BitVec.ofNat 16 op, target := 0xff, ps := ps, ticketed := true, stamp := some 3 }
abbrev kd (op : Nat) (ps : List Word) : Command := { opcode := BitVec.ofNat 16 op, target := 0, ps := ps, ticketed := true, stamp := some 3 }
abbrev kv (c : Command) (s : State) : State := { s with clause := 1000, events := [{ stamp := 5, rank := 5, origin := 0, kind := .command c }] }
abbrev mq (b : Bool) : State := {(m6.setFld regGlbMode 3 0 8).setFld regGlbMode 7 4 8 with image := {m6.image with quiesce := some {purpose := .command, cut := 5, waiting := [], complete := b}}}

def f4_0 : Command := (kc 0x11 [2])
def f4_2 : State := kv (kc 0x11 [2]) {m6 with image := {m6.image with quiesce := some {purpose := .command, cut := 5, waiting := []}}}
def g3_0 : Command := (kc 0x12 [6])
def g3_2 : State := kv (kc 0x12 [6]) ((mq true).setRegime 1 (upTo 16))
def g3b_0 : Command := (kc 0x12 [6])
def g3b_2 : State := kv (kc 0x12 [6]) ((mq false).setRegime 1 (upTo 16))
def g4_0 : Command := (kc 0x12 [7])
def g4_2 : State := kv (kc 0x12 [7]) ((mq true).setRegime 2 (upTo 16))
def g4b_0 : Command := (kc 0x12 [7])
def g4b_2 : State := kv (kc 0x12 [7]) ((mq false).setRegime 2 (upTo 16))
def h4_0 : Command := (kd 0x15 [0])
def h4_2 : State := kv (kd 0x15 [0]) {m6.setFld regGlbMode 3 0 4 with mem := [⟨5, 6⟩]}
theorem test_witness_ImageCommands_2 :
    (f4_2.resolves f4_0 = true ∧ f4_0.opcode.toNat = 17 ∧ modeSealed ≤ f4_2.mode ∧ f4_2.servesHost = true ∧ f4_0.gen = f4_2.epf.gen ∧
      (f4_0.target = (255 : BitVec 8) ∨ f4_0.target.toNat = f4_2.pkgNum) ∧
      f4_2.legalIn f4_0 (if f4_0.target = (255 : BitVec 8) then f4_2.imageJudge else f4_2.ownJudge) = true ∧
      f4_2.cmdMembers f4_0 = [f4_2.pkgNum] ∧ f4_2.otherMembers = [] ∧ f4_2.memberJobs = [] ∧ bits (cmdWord f4_0 0) 1 0 ≠ f4_2.regime ∧
      f4_2.canQuiesce = false) ∧
    (f4_2.drain = none) ∧
    (g3_2.resolves g3_0 = true ∧ g3_0.opcode.toNat = 18 ∧ modeSealed ≤ g3_2.mode ∧ g3_2.servesHost = true ∧ g3_0.gen = g3_2.epf.gen ∧
      (g3_0.target = (255 : BitVec 8) ∨ g3_0.target.toNat = g3_2.pkgNum) ∧
      g3_2.legalIn g3_0 (if g3_0.target = (255 : BitVec 8) then g3_2.imageJudge else g3_2.ownJudge) = true ∧
      g3_2.cmdMembers g3_0 = [g3_2.pkgNum] ∧ g3_2.otherMembers = [] ∧ g3_2.memberJobs = [] ∧ g3_0.target = (255 : BitVec 8) ∧
      bits (cmdWord g3_0 0) 3 0 = 6 ∧ g3_2.quiesced = true) ∧
    (g3b_2.resolves g3b_0 = true ∧ g3b_0.opcode.toNat = 18 ∧ modeSealed ≤ g3b_2.mode ∧ g3b_2.servesHost = true ∧ g3b_0.gen = g3b_2.epf.gen ∧
      (g3b_0.target = (255 : BitVec 8) ∨ g3b_0.target.toNat = g3b_2.pkgNum) ∧
      g3b_2.legalIn g3b_0 (if g3b_0.target = (255 : BitVec 8) then g3b_2.imageJudge else g3b_2.ownJudge) = true ∧
      g3b_2.cmdMembers g3b_0 = [g3b_2.pkgNum] ∧ g3b_2.otherMembers = [] ∧ g3b_2.memberJobs = [] ∧ g3b_0.target = (255 : BitVec 8) ∧
      bits (cmdWord g3b_0 0) 3 0 = 6 ∧ g3b_2.quiesced = false) ∧
    (g4_2.resolves g4_0 = true ∧ g4_0.opcode.toNat = 18 ∧ modeSealed ≤ g4_2.mode ∧ g4_2.servesHost = true ∧ g4_0.gen = g4_2.epf.gen ∧
      (g4_0.target = (255 : BitVec 8) ∨ g4_0.target.toNat = g4_2.pkgNum) ∧
      g4_2.legalIn g4_0 (if g4_0.target = (255 : BitVec 8) then g4_2.imageJudge else g4_2.ownJudge) = true ∧
      g4_2.cmdMembers g4_0 = [g4_2.pkgNum] ∧ g4_2.otherMembers = [] ∧ g4_2.memberJobs = [] ∧ g4_0.target = (255 : BitVec 8) ∧
      bits (cmdWord g4_0 0) 3 0 = 7 ∧ g4_2.quiesced = true) ∧
    (g4b_2.resolves g4b_0 = true ∧ g4b_0.opcode.toNat = 18 ∧ modeSealed ≤ g4b_2.mode ∧ g4b_2.servesHost = true ∧ g4b_0.gen = g4b_2.epf.gen ∧
      (g4b_0.target = (255 : BitVec 8) ∨ g4b_0.target.toNat = g4b_2.pkgNum) ∧
      g4b_2.legalIn g4b_0 (if g4b_0.target = (255 : BitVec 8) then g4b_2.imageJudge else g4b_2.ownJudge) = true ∧
      g4b_2.cmdMembers g4b_0 = [g4b_2.pkgNum] ∧ g4b_2.otherMembers = [] ∧ g4b_2.memberJobs = [] ∧ g4b_0.target = (255 : BitVec 8) ∧
      bits (cmdWord g4b_0 0) 3 0 = 7 ∧ g4b_2.quiesced = false) ∧
    (h4_2.resolves h4_0 = true ∧ h4_0.opcode.toNat = 21 ∧ modeSealed ≤ h4_2.mode ∧ h4_2.servesHost = true ∧ h4_0.gen = h4_2.epf.gen ∧
      (h4_0.target = (255 : BitVec 8) ∨ h4_0.target.toNat = h4_2.pkgNum) ∧
      h4_2.legalIn h4_0 (if h4_0.target = (255 : BitVec 8) then h4_2.imageJudge else h4_2.ownJudge) = true ∧
      h4_2.cmdMembers h4_0 = [h4_2.pkgNum] ∧ h4_2.otherMembers = [] ∧ h4_2.memberJobs = [] ∧ h4_2.joined = true) := by
  refine ⟨?_, ?_, ?_, ?_, ?_, ?_, ?_⟩ <;> decide +kernel
end L2

namespace M1
abbrev m6 : State := (((((State.reset.setFld regGlbMode 3 0 6).setFld regGlbMode 7 4 6).setReg regDmcTop (BitVec.ofNat 64 (2^40))).setFld regClkStatus 3 3 1).setFld regTrlImage 5 5 1).setFld regTrlImage 63 32 1
abbrev m4 : State := (State.reset.setFld regGlbMode 3 0 4).setFld regGlbIdent 4 4 1
abbrev lk (s : State) : State := (s.setFld regEpfStatus 7 4 8).setFld regEpfStatus 10 10 1
abbrev ep (s : State) : State := {((lk s).setReg regEpfDbpage 0x12345001).setReg regEpfPoll 0x00040502 with clause := 77, epf := { bme := true, nextPoll := 60, nextTag := 1023 }}
abbrev cr (i : Nat) (s : State) : State := ((((s.setReg (regEpfCring0 i) 0x5000).setReg (regEpfCring1 i) 0x0000000300010012).setReg (regEpfPring0 1) 0x9000)).setReg (regEpfPring1 1) 0x0000000500000012
abbrev hr : HostRead := { tag := 9, ring := 3, index := 3, since := 50 }
abbrev ac : Accept := { cmd := { opcode := 1, target := 0xff, ps := [] }, since := 3 }
abbrev cp : Completion := { cmd := { opcode := 1, target := 0xff, ps := [], ring := 3, index := 4, cmdid := 7 }, status := 0 }
abbrev ws : List Word := (upTo 128).map (fun i => if i = 3 then 4 else if i = 65 then 2 else 0)
abbrev rd (s : State) : State := { cr 3 (ep s) with epf := { (ep s).epf with reads := [hr], doorbells := [(3, 4)] } } -- 0 opcode (bad)
abbrev d1 : BitVec 1024 := BitVec.ofNat 1024 (1 + 0x55*2^32 + 0xff*2^(8*32))
abbrev d2 (tag : Nat) : BitVec 1024 := BitVec.ofNat 1024 (0x13 + 2^16 + 2*2^24 + 0x66*2^32 + 5*2^64 + tag*2^128 + 0xff*2^(8*32) + 1*2^(8*40))
abbrev sl (l : Nat) (s : State) : State := {(s.setFld (regTktSlot0 2) 0 0 1).setReg (regTktSlot1 2) (BitVec.ofNat 64 l) with ownerKeys := [(2, 0x1234)]}
abbrev tg : Nat := leNat (ticketTag 0x1234 (leBytes (d2 0).toNat 128))
abbrev wa (a : Accept) (s : State) : State := {s with clause := 77, epf := { accepting := [a] }}
abbrev kc (op : Nat) (ps : List Word) (tg : BitVec 8) : Command := { opcode := BitVec.ofNat 16 op, target := tg, ps := ps, ticketed := true }
abbrev cs (x : Completion) (s : State) : State := {s with completions := [x]}
abbrev cq : Completion := { cp with status := 1, final := false }

def a2_7 : State := (ep m4)
def a3_7 : State := (cr 3 (ep m4))
def b1_3 : List HostRead := []
def b1_7 : State := (rd m4)
def b2_3 : List HostRead := []
def b2_7 : State := (rd m4)
def b3_1 : BitVec 1024 := (d2 0)
def b3_3 : List HostRead := []
def b3_7 : State := (rd m4)
def b4_1 : BitVec 1024 := (d2 0)
def b4_3 : List HostRead := []
def b4_7 : State := (sl 3 (rd m4))
def b5_1 : BitVec 1024 := (d2 tg)
def b5_3 : List HostRead := []
def b5_7 : State := (sl 5 (rd m4))
def b6_1 : BitVec 1024 := (d2 tg)
def b6_3 : List HostRead := []
def b6_7 : State := (sl 4 (rd m4))
def c1_4 : Accept := {ac with mirror := 3}
def c1_7 : State := (wa {ac with mirror := 3} m6)
def c2_4 : Accept := {ac with cmd := kc 0x13 [1] 0xff}
def c2_7 : State := (wa {ac with cmd := kc 0x13 [1] 0xff} m6)
def c3_4 : Accept := {ac with cmd := kc 0x10 [0] 0xff}
def c3_7 : State := (wa {ac with cmd := kc 0x10 [0] 0xff} m4)
def e1_7 : State := (cs cp (cr 3 (ep m4)))
def e2_7 : State := ({cs cp (cr 3 (ep m4)) with epf := {(ep m4).epf with doorbells := [(3, 3), (65, 4)]}})
def e3_7 : State := ({cs cq (cr 3 (ep m4)) with epf := {(ep m4).epf with doorbells := [(3, 3), (65, 4)]}})
def y1_4 : Accept := {ac with cmd := kc 0x13 [0] 0}
def y1_7 : State := (wa {ac with cmd := kc 0x13 [0] 0} m6)
theorem test_witness_Tickets :
    (¬(m4.epfMaster = true ∧ m4.fld regEpfDbpage 0 0 = 1 ∧ BitVec.toNat m4.epf.nextPoll ≤ BitVec.toNat m4.clause)) ∧
    (m4.epf.late = [] ∧ m4.epf.reads = []) ∧
    (m4.epfMaster = false ∨ m4.completions = []) ∧
    (a2_7.epfMaster = true ∧ a2_7.fld regEpfDbpage 0 0 = 1 ∧ BitVec.toNat a2_7.epf.nextPoll ≤ BitVec.toNat a2_7.clause ∧
      ∀ k < 64, a2_7.cringOn k = false) ∧
    (a3_7.epfMaster = true ∧ a3_7.fld regEpfDbpage 0 0 = 1 ∧ BitVec.toNat a3_7.epf.nextPoll ≤ BitVec.toNat a3_7.clause ∧
      (∀ k < 64, a3_7.cringOn k = true ↔ k = 3) ∧ a3_7.epf.reads = [] ∧ a3_7.fld regEpfStatus 40 32 < 256 ∧
      (Tbl.get (0 : BitVec 32) (doorbellTbl ws) 3).toNat = (a3_7.cringHead 3 + 1) % 2 ^ 32) ∧
    (b1_7.epf.late = [] ∧ b1_7.epf.reads = hr :: b1_3 ∧ b1_7.servesHost = true ∧
      (parseDescriptor (leBytes (BitVec.toNat (0 : BitVec 1024)) 128) [] hr.ring hr.index b1_7.epf.gen).hasExt = false ∧ hr.ring < 64 ∧
      formOk (parseDescriptor (leBytes (BitVec.toNat (0 : BitVec 1024)) 128) [] hr.ring hr.index b1_7.epf.gen) = false) ∧
    (b2_7.epf.late = [] ∧ b2_7.epf.reads = hr :: b2_3 ∧ b2_7.servesHost = true ∧
      (parseDescriptor (leBytes d1.toNat 128) [] hr.ring hr.index b2_7.epf.gen).hasExt = false ∧ hr.ring < 64 ∧
      formOk (parseDescriptor (leBytes d1.toNat 128) [] hr.ring hr.index b2_7.epf.gen) = true ∧
      (parseDescriptor (leBytes d1.toNat 128) [] hr.ring hr.index b2_7.epf.gen).ticketed = false ∧
      b2_7.fieldStatus (parseDescriptor (leBytes d1.toNat 128) [] hr.ring hr.index b2_7.epf.gen) = none ∧
      ¬((parseDescriptor (leBytes d1.toNat 128) [] hr.ring hr.index b2_7.epf.gen).opcode = (19 : BitVec 16) ∧
      (parseDescriptor (leBytes d1.toNat 128) [] hr.ring hr.index b2_7.epf.gen).target.toNat = b2_7.pkgNum ∧
      bit (cmdWord (parseDescriptor (leBytes d1.toNat 128) [] hr.ring hr.index b2_7.epf.gen) 0) 0 = false)) ∧
    (b3_7.epf.late = [] ∧ b3_7.epf.reads = hr :: b3_3 ∧ b3_7.servesHost = true ∧
      (parseDescriptor (leBytes b3_1.toNat 128) [] hr.ring hr.index b3_7.epf.gen).hasExt = false ∧ hr.ring < 64 ∧
      formOk (parseDescriptor (leBytes b3_1.toNat 128) [] hr.ring hr.index b3_7.epf.gen) = true ∧
      (parseDescriptor (leBytes b3_1.toNat 128) [] hr.ring hr.index b3_7.epf.gen).ticketed = true ∧
      ¬b3_7.fld (regTktSlot0 ((parseDescriptor (leBytes b3_1.toNat 128) [] hr.ring hr.index b3_7.epf.gen).slot.toNat % 8)) 0 0 = 1) ∧
    (b4_7.epf.late = [] ∧ b4_7.epf.reads = hr :: b4_3 ∧ b4_7.servesHost = true ∧
      (parseDescriptor (leBytes b4_1.toNat 128) [] hr.ring hr.index b4_7.epf.gen).hasExt = false ∧ hr.ring < 64 ∧
      formOk (parseDescriptor (leBytes b4_1.toNat 128) [] hr.ring hr.index b4_7.epf.gen) = true ∧
      (parseDescriptor (leBytes b4_1.toNat 128) [] hr.ring hr.index b4_7.epf.gen).ticketed = true ∧
      b4_7.fld (regTktSlot0 ((parseDescriptor (leBytes b4_1.toNat 128) [] hr.ring hr.index b4_7.epf.gen).slot.toNat % 8)) 0 0 = 1 ∧
      ¬ticketTag (Tbl.get (0 : BitVec 256) b4_7.ownerKeys ((parseDescriptor (leBytes b4_1.toNat 128) [] hr.ring hr.index b4_7.epf.gen).slot.toNat % 8)) (leBytes b4_1.toNat 128) = List.take 16 (List.drop 16 (leBytes b4_1.toNat 128))) ∧
    (b5_7.epf.late = [] ∧ b5_7.epf.reads = hr :: b5_3 ∧ b5_7.servesHost = true ∧
      (parseDescriptor (leBytes b5_1.toNat 128) [] hr.ring hr.index b5_7.epf.gen).hasExt = false ∧ hr.ring < 64 ∧
      formOk (parseDescriptor (leBytes b5_1.toNat 128) [] hr.ring hr.index b5_7.epf.gen) = true ∧
      (parseDescriptor (leBytes b5_1.toNat 128) [] hr.ring hr.index b5_7.epf.gen).ticketed = true ∧
      b5_7.fld (regTktSlot0 ((parseDescriptor (leBytes b5_1.toNat 128) [] hr.ring hr.index b5_7.epf.gen).slot.toNat % 8)) 0 0 = 1 ∧
      ticketTag (Tbl.get (0 : BitVec 256) b5_7.ownerKeys ((parseDescriptor (leBytes b5_1.toNat 128) [] hr.ring hr.index b5_7.epf.gen).slot.toNat % 8)) (leBytes b5_1.toNat 128) = List.take 16 (List.drop 16 (leBytes b5_1.toNat 128)) ∧
      BitVec.toNat (parseDescriptor (leBytes b5_1.toNat 128) [] hr.ring hr.index b5_7.epf.gen).counter ≤ BitVec.toNat (b5_7.reg (regTktSlot1 ((parseDescriptor (leBytes b5_1.toNat 128) [] hr.ring hr.index b5_7.epf.gen).slot.toNat % 8)))) ∧
    (b6_7.epf.late = [] ∧ b6_7.epf.reads = hr :: b6_3 ∧ b6_7.servesHost = true ∧
      (parseDescriptor (leBytes b6_1.toNat 128) [] hr.ring hr.index b6_7.epf.gen).hasExt = false ∧ hr.ring < 64 ∧
      formOk (parseDescriptor (leBytes b6_1.toNat 128) [] hr.ring hr.index b6_7.epf.gen) = true ∧
      (parseDescriptor (leBytes b6_1.toNat 128) [] hr.ring hr.index b6_7.epf.gen).ticketed = true ∧
      b6_7.fld (regTktSlot0 ((parseDescriptor (leBytes b6_1.toNat 128) [] hr.ring hr.index b6_7.epf.gen).slot.toNat % 8)) 0 0 = 1 ∧
      ticketTag (Tbl.get (0 : BitVec 256) b6_7.ownerKeys ((parseDescriptor (leBytes b6_1.toNat 128) [] hr.ring hr.index b6_7.epf.gen).slot.toNat % 8)) (leBytes b6_1.toNat 128) = List.take 16 (List.drop 16 (leBytes b6_1.toNat 128)) ∧
      BitVec.toNat (b6_7.reg (regTktSlot1 ((parseDescriptor (leBytes b6_1.toNat 128) [] hr.ring hr.index b6_7.epf.gen).slot.toNat % 8))) < BitVec.toNat (parseDescriptor (leBytes b6_1.toNat 128) [] hr.ring hr.index b6_7.epf.gen).counter ∧
      b6_7.joined = false) ∧
    (c1_7.servesHost = true ∧ c1_7.epf.accepting = [c1_4] ∧ c1_7.epf.mirrorAcked < c1_4.mirror) ∧
    (c2_7.servesHost = true ∧ c2_7.epf.accepting = [c2_4] ∧ c2_4.mirror ≤ c2_7.epf.mirrorAcked ∧ c2_4.cmd.ticketed = true ∧
      c2_7.fieldStatus c2_4.cmd = none ∧ ¬(c2_4.cmd.opcode = (19 : BitVec 16) ∧ c2_4.cmd.target.toNat = c2_7.pkgNum ∧
      bit (cmdWord c2_4.cmd 0) 0 = false)) ∧
    (c3_7.servesHost = true ∧ c3_7.epf.accepting = [c3_4] ∧ c3_4.mirror ≤ c3_7.epf.mirrorAcked ∧
      c3_7.fieldStatus c3_4.cmd = some stBadField ∧ c3_4.cmd.gen = c3_7.epf.gen) ∧
    (e1_7.completions = [cp] ∧ e1_7.pringRoom (e1_7.pringOf cp.cmd) = false) ∧
    (e2_7.epfMaster = true ∧ e2_7.completions = [cp] ∧ e2_7.pringRoom (e2_7.pringOf cp.cmd) = true ∧ cp.final = true) ∧
    (e3_7.epfMaster = true ∧ e3_7.completions = [cq] ∧ e3_7.pringRoom (e3_7.pringOf cq.cmd) = true ∧ cq.final = false ∧ cq.cmd.int = false ∧
      cq.status = stRunning) ∧
    (y1_7.servesHost = true ∧ y1_7.epf.accepting = [y1_4] ∧ y1_4.mirror ≤ y1_7.epf.mirrorAcked ∧ y1_4.cmd.ticketed = true ∧
      y1_7.fieldStatus y1_4.cmd = none ∧ y1_4.cmd.opcode = (19 : BitVec 16) ∧ y1_4.cmd.target.toNat = y1_7.pkgNum ∧
      bit (cmdWord y1_4.cmd 0) 0 = false ∧ y1_4.cmd.gen = y1_7.epf.gen) := by
  refine ⟨?_, ?_, ?_, ?_, ?_, ?_, ?_, ?_, ?_, ?_, ?_, ?_, ?_, ?_, ?_, ?_, ?_, ?_⟩ <;> decide +kernel
end M1

namespace M2
abbrev m6 : State := (((((State.reset.setFld regGlbMode 3 0 6).setFld regGlbMode 7 4 6).setReg regDmcTop (BitVec.ofNat 64 (2^40))).setFld regClkStatus 3 3 1).setFld regTrlImage 5 5 1).setFld regTrlImage 63 32 1
abbrev m4 : State := (State.reset.setFld regGlbMode 3 0 4).setFld regGlbIdent 4 4 1
abbrev lk (s : State) : State := (s.setFld regEpfStatus 7 4 8).setFld regEpfStatus 10 10 1
abbrev hr : HostRead := { tag := 9, ring := 3, index := 3, since := 50 }
abbrev wn (s : State) : State := {(lk s).setReg (regEpfWin 2) 0x3000001 with clause := 77}
abbrev dr : DevRead := { octet := 3, tag := 5, hdr := {}, addr := 77, len := 4, since := 3 }
abbrev rt (s : State) : State := {((s.setFld (regOctCfg 3) 6 4 2).setFld (regRpstatus 3) 7 4 8).setReg (regRpassign 3 4) (BitVec.ofNat 64 (2^32 + 5*65536 + 0x123)) with pot := [(3, potMake 0 1 5)], clause := 88}

def a2_4 : List (BitVec 8) := [1,2,3,4]
def a2_12 : State := (wn m6)
def a3_12 : State := ((wn m6).setFld regEpfStatus 11 11 1)
def a4_4 : List (BitVec 8) := [1,2,3,4]
def a4_12 : State := (wn m6)
def a6_12 : State := ((wn m4).setFld regGlbMode 3 0 1)
def a7_12 : State := ((wn m4).setFld regEpfStatus 10 10 0)
def a8_12 : State := (wn m4)
def b1_12 : State := {wn m4 with epf := { bme := true, reads := [hr] }}
def b2_12 : State := {wn m6 with epf := { bme := true, late := [hr] }}
def b5_12 : State := {wn m6 with clause := 12500050, epf := { bme := true, reads := [hr] }}
def z1_12 : State := wn m4
theorem test_witness_EndpointFunction :
    (m6.peerOpen = false) ∧
    (modeStandby < m6.mode ∧ m6.mode ≠ modeHalt ∧ m6.mapDue = []) ∧
    (m6.epfPresent = false ∨ m6.epfLinked = false ∨ m6.fld regEpfStatus 9 8 = 2) ∧
    (m6.epfPresent = true ∧ m6.epf.bme = false ∧ m6.epf.resetDue = none) ∧
    (m6.epf.bme = false) ∧
    (m6.epfPresent = true ∧ m6.epf.resetDue = none ∧ m6.epf.reads = [] ∧ m6.epf.late = []) ∧
    (m6.epfPresent = true) ∧
    (m6.epfPresent = true ∧ m6.epfContained = false) ∧
    (m6.epfPresent = true ∧ m6.epfContained = false ∧ (32 : BitVec 32) ≠ (0 : BitVec 32)) ∧
    (m6.epfContained = false) ∧
    (a2_12.peerOpen = true ∧ a2_12.epfContained = false ∧ a2_12.mode ≠ modeHalt ∧ a2_12.inboundOf 0 = [] ∧ a2_12.port 64 = { } ∧
      (a2_12.peerTarget (BitVec.toNat (33554448 : BitVec 36)) 8).2.2 = true ∧ 0 < 8 ∧
      (a2_12.peerTarget (BitVec.toNat (33554448 : BitVec 36)) 8).2.1 % 64 + 8 ≤ 64) ∧
    (a2_12.peerOpen = true ∧ a2_12.epfContained = false ∧ a2_12.mode ≠ modeHalt ∧ a2_12.inboundOf 0 = [] ∧ a2_12.port 64 = { } ∧
      (a2_12.peerTarget (BitVec.toNat (33554448 : BitVec 36)) a2_4.length).2.2 = true ∧ 0 < a2_4.length ∧
      (a2_12.peerTarget (BitVec.toNat (33554448 : BitVec 36)) a2_4.length).2.1 % 64 + a2_4.length ≤ 64) ∧
    (a2_12.epfPresent = true ∧ a2_12.epfLinked = true ∧ a2_12.fld regEpfStatus 9 8 ≠ 2 ∧ a2_12.fld regEpfStatus 10 10 = 1) ∧
    (a3_12.peerOpen = true ∧ (a3_12.epfContained = true ∨ a3_12.mode = modeHalt)) ∧
    (a3_12.epfPresent = true ∧ a3_12.epfContained = true ∧ a3_12.epfLinked = true ∧ a3_12.epf.aer = (0 : BitVec 32)) ∧
    (a4_12.peerOpen = true ∧ a4_12.epfContained = false ∧ a4_12.mode ≠ modeHalt ∧
      (a4_12.peerTarget (BitVec.toNat (16777232 : BitVec 36)) 8).2.2 = false) ∧
    (a4_12.peerOpen = true ∧ a4_12.epfContained = false ∧ a4_12.mode ≠ modeHalt ∧
      (a4_12.peerTarget (BitVec.toNat (16777232 : BitVec 36)) a4_4.length).2.2 = false) ∧
    (a6_12.mode = modeHalt ∨ a6_12.mode ≤ modeStandby) ∧
    (a6_12.epfPresent = false) ∧
    (a7_12.epfPresent = true ∧ a7_12.epfLinked = true ∧ a7_12.fld regEpfStatus 9 8 ≠ 2 ∧ a7_12.fld regEpfStatus 10 10 = 0) ∧
    (a8_12.epfPresent = true ∧ a8_12.epfLinked = true ∧ a8_12.fld regEpfStatus 9 8 ≠ 2 ∧ a8_12.fld regEpfStatus 10 10 = 1 ∧
      a8_12.configRead (BitVec.toNat (14 : BitVec 10)) = none) ∧
    (b1_12.epf.bme = true) ∧
    (b1_12.epfPresent = true ∧ b1_12.epf.bme = true ∧ b1_12.epf.reads = [hr] ∧ hr.ring < 64) ∧
    (b1_12.epf.late = [] ∧ b1_12.epf.reads = [hr] ∧ BitVec.toNat b1_12.clause < BitVec.toNat hr.since + 12500000) ∧
    (b2_12.epfPresent = true ∧ b2_12.epf.resetDue = none ∧ b2_12.epf.reads = [] ∧ b2_12.epf.late = [hr]) ∧
    (b5_12.epf.late = [] ∧ b5_12.epf.reads = [hr] ∧ BitVec.toNat hr.since + 12500000 ≤ BitVec.toNat b5_12.clause ∧
      b5_12.epfContained = false) ∧
    (z1_12.epfPresent = true ∧ z1_12.epfLinked = true ∧ z1_12.fld regEpfStatus 9 8 ≠ 2 ∧ z1_12.fld regEpfStatus 10 10 = 1 ∧
      z1_12.configRead (BitVec.toNat (0 : BitVec 10)) = some (559947578 : BitVec 32)) := by
  refine ⟨?_, ?_, ?_, ?_, ?_, ?_, ?_, ?_, ?_, ?_, ?_, ?_, ?_, ?_, ?_, ?_, ?_, ?_, ?_, ?_, ?_, ?_, ?_, ?_, ?_, ?_, ?_⟩ <;> decide +kernel

def r2_5 : List (BitVec 8) := [1,2,3,4]
def r2_15 : State := (rt m6)
def r3_5 : List (BitVec 8) := [1,2,3,4]
def r3_15 : State := (rt m6)
def r4_5 : List (BitVec 8) := [1,2,3,4]
def r4_15 : State := (rt m6)
def r5_5 : List (BitVec 8) := [1,2,3,4]
def r5_15 : State := (rt m6)
def r6_15 : State := {rt m6 with devReads := [dr]}
def r8_15 : State := {rt m6 with devReads := [dr], clause := 12500003}
def r9_15 : State := {(rt m6).setFld (regRpstatus 3) 11 11 1 with devReads := [dr], clause := 12500002}
def q1_15 : State := {((rt m6).setFld (regRpstatus 3) 11 11 1).setFld (regRpstatus 3) 7 4 0 with devReads := [dr], clause := 12500002}
def q2_15 : State := (((rt m6).setFld (regRlmTable0 8) 18 16 1).setFld (regRlmTable0 8) 32 32 1)
def q3_15 : State := (((rt m6).setFld (regOctCfg 0) 6 4 5))
theorem test_witness_RootPortTraffic :
    (m6.rpDeaf 3 = true) ∧
    (m6.devReads = []) ∧
    (m6.isRoot 3 = false) ∧
    (r2_15.rpDeaf 3 = false ∧ r2_5 ≠ [] ∧ r2_15.rpEntry 3 (291 : BitVec 16) = some 4 ∧
      r2_15.intPage (BitVec.toNat (12304 : BitVec 52)) = false ∧
      r2_15.dmaBad (r2_15.fld (regRpassign 3 4) 25 16) (BitVec.toNat (12304 : BitVec 52)) r2_5.length = none ∧ r2_15.inboundOf 3 = [] ∧
      r2_15.port (64 + 3) = { } ∧ BitVec.toNat (12304 : BitVec 52) % 64 + r2_5.length ≤ 64) ∧
    (r2_15.rpDeaf 3 = false ∧ 8 ≠ 0 ∧ ¬((3 : Fin 12) = (0 : Fin 12) ∧ r2_15.servesHost = true) ∧
      r2_15.rpEntry 3 (291 : BitVec 16) = some 4 ∧
      r2_15.dmaBad (r2_15.fld (regRpassign 3 4) 25 16) (BitVec.toNat (12304 : BitVec 52)) 8 = none ∧ r2_15.inboundOf 3 = [] ∧
      r2_15.port (64 + 3) = { } ∧ BitVec.toNat (12304 : BitVec 52) % 64 + 8 ≤ 64) ∧
    (r2_15.isRoot 3 = true ∧ r2_15.mode ≠ modeHalt ∧ r2_15.mapDue = [] ∧ r2_15.realmSealed (r2_15.fld (regRpassign 3 4) 25 16) = false ∧
      r2_15.realmSealed (bits (1311768467294899695 : Word) 25 16) = false) ∧
    ((4 : BitVec 4) ≠ (0 : BitVec 4) ∧ (3 : BitVec 4) ≠ (0 : BitVec 4) ∧ modeSense ≤ r2_15.mode ∧
      ((3 : Fin 12) ≠ (0 : Fin 12) ∨ r2_15.servesHost = false) ∧ r2_15.isRoot 3 = true) ∧
    (r3_15.rpDeaf 3 = false ∧ r3_5 ≠ [] ∧ r3_15.rpEntry 3 (292 : BitVec 16) = none) ∧
    (r3_15.rpDeaf 3 = false ∧ 8 ≠ 0 ∧ ¬((3 : Fin 12) = (0 : Fin 12) ∧ r3_15.servesHost = true) ∧ r3_15.rpEntry 3 (292 : BitVec 16) = none) ∧
    (r4_15.rpDeaf 3 = false ∧ r4_5 ≠ [] ∧ r4_15.rpEntry 3 (291 : BitVec 16) = some 4 ∧
      r4_15.intPage (BitVec.toNat (16400 : BitVec 52)) = false ∧
      r4_15.dmaBad (r4_15.fld (regRpassign 3 4) 25 16) (BitVec.toNat (16400 : BitVec 52)) r4_5.length ≠ none) ∧
    (r4_15.rpDeaf 3 = false ∧ 8 ≠ 0 ∧ ¬((3 : Fin 12) = (0 : Fin 12) ∧ r4_15.servesHost = true) ∧
      r4_15.rpEntry 3 (291 : BitVec 16) = some 4 ∧
      r4_15.dmaBad (r4_15.fld (regRpassign 3 4) 25 16) (BitVec.toNat (16400 : BitVec 52)) 8 ≠ none) ∧
    ((0 : BitVec 4) = (0 : BitVec 4) ∨ r4_15.mode < modeSense) ∧
    (r5_15.rpDeaf 3 = false ∧ r5_5 ≠ [] ∧ r5_15.rpEntry 3 (291 : BitVec 16) = some 4 ∧
      r5_15.intPage (BitVec.toNat (139638245163008 : BitVec 52)) = true) ∧
    (r6_15.devReads = [dr] ∧ dr.octet = 3 ∧ dr.tag = BitVec.toNat (5 : BitVec 10)) ∧
    (r6_15.devReads = [dr] ∧ dr.octet = 3 ∧ BitVec.toNat r6_15.clause < BitVec.toNat dr.since + 12500000) ∧
    (r6_15.isRoot 3 = true ∧ r6_15.rpContained 3 = false ∧ r6_15.devReads = [dr] ∧ dr.octet = 3) ∧
    (r8_15.devReads = [dr] ∧ dr.octet = 3 ∧ BitVec.toNat dr.since + 12500000 ≤ BitVec.toNat r8_15.clause) ∧
    (r9_15.isRoot 3 = true ∧ r9_15.rpContained 3 = true ∧ r9_15.rpLinked 3 = true ∧ r9_15.mode ≠ modeHalt) ∧
    (q1_15.isRoot 3 = true ∧ q1_15.rpContained 3 = true ∧ q1_15.rpLinked 3 = false ∧ q1_15.mode ≠ modeHalt) ∧
    (q2_15.isRoot 3 = true ∧ q2_15.mode ≠ modeHalt ∧ q2_15.realmSealed (bits (524289 : Word) 25 16) = true) ∧
    ((4 : BitVec 4) ≠ (0 : BitVec 4) ∧ (3 : BitVec 4) ≠ (0 : BitVec 4) ∧ modeSense ≤ q3_15.mode ∧ (0 : Fin 12) = (0 : Fin 12) ∧
      q3_15.servesHost = true ∧ q3_15.fld (regOctCfg 0) 6 4 = 5) := by
  refine ⟨?_, ?_, ?_, ?_, ?_, ?_, ?_, ?_, ?_, ?_, ?_, ?_, ?_, ?_, ?_, ?_, ?_, ?_, ?_, ?_, ?_⟩ <;> decide +kernel
end M2

namespace N1
abbrev m6 : State := (((((State.reset.setFld regGlbMode 3 0 6).setFld regGlbMode 7 4 6).setReg regDmcTop (BitVec.ofNat 64 (2^40))).setFld regClkStatus 3 3 1).setFld regTrlImage 5 5 1).setFld regTrlImage 63 32 1
abbrev m4 : State := (State.reset.setFld regGlbMode 3 0 4).setFld regGlbIdent 4 4 1
abbrev ju (m : Nat) (pg rn : Bool) : State := {(m6.setFld regGlbMode 3 0 m) with mem := [⟨5, 6⟩], pwrGood := pg, resetN := rn, clause := 99}
abbrev sn (p : SensePhase) : State := {((State.reset.setFld regGlbMode 3 0 2).setFld regGlbIdent 4 4 1).setFld regDmcCfg 7 0 0x19 with counting := true, sense := p}
abbrev se (x : Sensor) (s : State) : State := {s with realms := {s.realms with hold := some (.ticket {opcode := 1, target := 0, ps := []})}, parasol := {s.parasol with sensors := [(77, x)], target := [(3, 33)], temp := 95}}

def a1_5 : State := (ju 0 true true)
def a2_5 : State := (ju 0 true false)
def a3_5 : State := (ju 1 false true)
def a4_5 : State := (ju 1 false false)
def a5_5 : State := (ju 1 true false)
def a6_5 : State := (ju 6 true true)
def b1_5 : State := (sn .due)
def b2_3 : List ChanTrain := List.replicate 16 {dimms := 1, size := 2, ranks := 1, fail8000 := false, fail6400 := false}
def b2_5 : State := (sn .passed)
def b5_5 : State := ((State.reset.setFld regGlbMode 3 0 3).setReg regDmcTop 0x10000000000)
theorem test_witness_PowerAndStartup :
    (a1_5.mode = modeOff ∧ a1_5.pwrGood = true ∧ a1_5.resetN = true) ∧
    (a1_5.mode < modeSense) ∧
    (a1_5.pwrGood = false ∨ a1_5.mode < modeSense) ∧
    (a1_5.pwrGood = true) ∧
    (a1_5.resetN = true) ∧
    (a1_5.mode ≠ modeSense ∨ a1_5.counting = false ∨ a1_5.sense = SensePhase.failed) ∧
    (a1_5.trained = false) ∧
    (a2_5.mode = modeOff ∧ (a2_5.pwrGood = false ∨ a2_5.resetN = false)) ∧
    (a3_5.mode ≠ modeOff) ∧
    (a3_5.pwrGood = false ∧ a3_5.mode = modeStandby ∧ a3_5.resetN = true) ∧
    (a4_5.pwrGood = false ∧ a4_5.mode = modeStandby ∧ a4_5.resetN = false) ∧
    (a4_5.resetN = false ∧ a4_5.pwrGood = false) ∧
    (a5_5.resetN = false ∧ a5_5.pwrGood = true ∧ a5_5.mode = modeStandby) ∧
    (modeSense ≤ a6_5.mode) ∧
    (a6_5.pwrGood = true ∧ modeSense ≤ a6_5.mode) ∧
    (b1_5.mode = modeSense ∧ b1_5.counting = true ∧ b1_5.sense = SensePhase.due ∧ b1_5.bootSlot = none) ∧
    (b2_5.mode = modeSense ∧ b2_5.counting = true ∧ b2_5.sense = SensePhase.passed) ∧
    (b2_5.mode = modeSense ∧ b2_5.counting = true ∧ b2_5.sense = SensePhase.passed ∧ b2_5.wantsFast = true ∧
      ∀ n < 16, b2_5.chanTrains true (b2_3.getD n { }) = true) ∧
    (b5_5.trained = true) := by
  refine ⟨?_, ?_, ?_, ?_, ?_, ?_, ?_, ?_, ?_, ?_, ?_, ?_, ?_, ?_, ?_, ?_, ?_, ?_, ?_⟩ <;> decide +kernel

def c1_9 : State := (se {} m6)
def c2_9 : State := (se {last := 150, run := 3, hot := some 7} m6)
def c4_9 : State := (se {last := 150, run := 3, excluded := true} m4)
def c5_9 : State := ((se {last := 150, run := 3, excluded := false} m4).setFld regGlbMode 3 0 11)
def c6_9 : State := ((se {last := 150, run := 3, excluded := false} m4).setFld regGlbMode 3 0 1)
theorem test_witness_ParasolEvents :
    (modeStandby < c1_9.mode ∧ (c1_9.sensor 77).excluded = false ∧ (-40 : ℤ) ≤ reading (50 : BitVec 16) ∧
      reading (50 : BitVec 16) ≤ (150 : ℤ) ∧ ((c1_9.sensor 77).run = 0 ∨ (c1_9.sensor 77).last ≠ reading (50 : BitVec 16))) ∧
    (modeStandby < c1_9.mode ∧ c1_9.parasol.alarms = [] ∧ 77 < 240 ∧ (c1_9.sensor 77).excluded = false ∧
      ↑c1_9.parasol.temp ≤ reading (95 : BitVec 16)) ∧
    (modeStandby < c1_9.mode ∧ c1_9.mode ≠ modeHalt) ∧
    (500 ≤ 500 ∧ modeStandby < c1_9.mode) ∧
    (c1_9.parasol.target.find 3 = some 33 ∧ 33 < 256) ∧
    (modeStandby < c2_9.mode ∧ (c2_9.sensor 77).excluded = false ∧
      (reading (151 : BitVec 16) < (-40 : ℤ) ∨ (150 : ℤ) < reading (151 : BitVec 16))) ∧
    (modeStandby < c2_9.mode ∧ c2_9.parasol.alarms = [] ∧ 77 < 240 ∧ (c2_9.sensor 77).excluded = false ∧
      reading (94 : BitVec 16) < ↑c2_9.parasol.temp) ∧
    (499 < 500) ∧
    (c2_9.parasol.target.find 4 = none) ∧
    (modeStandby < c4_9.mode ∧ (c4_9.sensor 77).excluded = true) ∧
    (c5_9.mode ≤ modeStandby ∨ c5_9.mode = modeHalt) ∧
    (c5_9.mode = modeHalt) ∧
    (c6_9.mode ≤ modeStandby) ∧
    (modeStandby < m6.mode ∧ m6.mode ≠ modeHalt ∧ m6.realms.hold = none) := by
  refine ⟨?_, ?_, ?_, ?_, ?_, ?_, ?_, ?_, ?_, ?_, ?_, ?_, ?_, ?_⟩ <;> decide +kernel
end N1

namespace D1
abbrev vl := (va .load 1).1.vecRead 6 (va .load 1).2.ps
abbrev vs := (va .store 0).1.vecStore 6 (elem (elemBits 2) ((rv'.thread 6).vec 2)) (va .store 0).2.ps
theorem test_witness_VectorMemory :
    (rv.threadExists 6 = true ∧ rv.startInstr 6 (some 1) = (rv', true)) ∧
    ((va .load 1).2.wait = false ∧ (va .load 1).2.excs = [] ∧ vl = (vl.1, some (vl.2.getD []))) ∧
    ((va .store 0).2.wait = false ∧ (va .store 0).2.excs = [] ∧ vs = some (vs.getD rv')) := by
  refine ⟨⟨by decide +kernel, by decide +kernel⟩, ⟨by decide +kernel, by decide +kernel, ?_⟩, ⟨by decide +kernel, by decide +kernel, ?_⟩⟩
  · decide +kernel
  · decide +kernel

/-- A read that answers some list answers that list. -/
theorem pair_some {α β : Type} (p : α × Option (List β)) (h : p.2.isSome = true) : p = (p.1, some (p.2.getD [])) := by
  rcases p with ⟨a, _ | b⟩
  · simp at h
  · rfl

abbrev re2 : State := re.modCore 3 (fun k => {k with l2 := Tbl.map (fun x => if x.line = 0x203 then {x with data := BitVec.ofNat 512 (2 * 2^(64*7))} else x) k.l2})
theorem test_witness_RealmEntry_block :
    (∀ q, q = re2 ∨ q = re ∨ q = sld re ∨ q = sld rg1 → q.threadExists 6 = true ∧ q.startInstr 6 none = (q, true) ∧ (q.thread 6).level = 2 ∧
      (q.thread 6).slot = none ∧ q.realmState (bits ((q.thread 6).gpr 1) 9 0) = realmRunning ∧ q.realmHalted 5 = false ∧
      bits ((q.thread 6).gpr 1) 9 0 = 5 ∧ q.boundTo 6 5 = true ∧ (q.core 3).fenced = false ∧ (q.thread 6).refused = none ∧
      (q.core 3).ctxWrites = [] ∧ (q.core 3).ctxOut = []) ∧
    (∀ q, q = re2 ∨ q = re ∨ q = sld re ∨ q = sld rg1 → rr1 q = ((rr1 q).1, some ((rr1 q).2.getD []))) ∧
    2 ≤ bits (blockWord ((rr1 re2).2.getD []) 31) 1 0 ∧
    (bits (blockWord ((rr1 re).2.getD []) 31) 1 0 < 2 ∧ (rr1 re).1.realmSealed 5 = false) ∧
    (bits (blockWord ((rr1 (sld re)).2.getD []) 31) 1 0 < 2 ∧ (rr1 (sld re)).1.realmSealed 5 = true ∧
      ((rr1 (sld re)).1.thread 7).renter ≠ some 5) ∧
    (bits (blockWord ((rr1 (sld rg1)).2.getD []) 31) 1 0 < 2 ∧ (rr1 (sld rg1)).1.realmSealed 5 = true ∧
      ((rr1 (sld rg1)).1.thread 7).renter = some 5 ∧ rr2 (sld rg1) = ((rr2 (sld rg1)).1, some ((rr2 (sld rg1)).2.getD []))) := by
  refine ⟨?_, ?_, by decide +kernel, ⟨by decide +kernel, by decide +kernel⟩, ⟨by decide +kernel, by decide +kernel, by decide +kernel⟩,
    by decide +kernel, by decide +kernel, by decide +kernel, pair_some _ (by decide +kernel)⟩
  · rintro q (rfl | rfl | rfl | rfl) <;> refine ⟨?_, ?_, ?_, ?_, ?_, ?_, ?_, ?_, ?_, ?_, ?_, ?_⟩ <;> decide +kernel
  · rintro q (rfl | rfl | rfl | rfl) <;> exact pair_some _ (by decide +kernel)
end D1

theorem test_witness_StepKeepsMemory : memWf ({ run with mem := [⟨5, 6⟩] } : State).mem = true ∧
    ∃ u, step { run with mem := [⟨5, 6⟩], pending := [.addi 6 4 1 1] } = .next u := ⟨by decide +kernel, _, rfl⟩
theorem test_witness_LineReadsBack : memWf ({ run with mem := [⟨5, 6⟩] } : State).mem = true := by decide +kernel

/-! An update of the firmware with a signed image, and of the board record with one whose CRC holds (R561, R563). The record's eight
first bytes leave the CRC register 0, which zeros keep. -/

abbrev record : List (BitVec 8) := [0x42, 0x43, 0x4c, 0x4b, 19, 90, 105, 122] ++ List.replicate 0xff4 0 ++ [255, 255, 255, 255]
theorem crc_zeros (n : Nat) : crcBytes 0 (List.replicate n 0) = 0 := by
  induction n with
  | zero => rfl
  | succ n ih => rw [List.replicate_succ, crcBytes, show crcStep (0 ^^^ (0 : BitVec 8).zeroExtend 32) 8 = 0 by decide, ih]
theorem crc_append (c : BitVec 32) (a b : List (BitVec 8)) : crcBytes c (a ++ b) = crcBytes (crcBytes c a) b := by
  induction a generalizing c with
  | nil => rfl
  | cons x a ih => exact ih _
theorem test_record_ok : recordFault record = none := by
  have h : record.take 0xffc = [0x42, 0x43, 0x4c, 0x4b, 19, 90, 105, 122] ++ List.replicate 0xff4 0 := by decide +kernel
  have hc : crc32c 0 (record.take 0xffc) = 0xffffffff := by
    rw [h, crc32c, crc_append, show crcBytes (~~~0) [0x42, 0x43, 0x4c, 0x4b, 19, 90, 105, 122] = 0 by decide +kernel, crc_zeros]; rfl
  have hm : leNat (record.take 4) = 0x4b4c4342 := by decide +kernel
  have he : leNat ((record.drop 0xffc).take 4) = 0xffffffff := by decide +kernel
  rw [recordFault, hc, hm, he]; simp

namespace L1
abbrev uc : Command := ke 0x17 [1] record
theorem test_witness_HostCommands_record :
    ((∃ e, e ∈ (kv uc m4).events ∧ e.kind = EventKind.command uc) ∧ uc.opcode.toNat = 0x17 ∧ modeSealed ≤ (kv uc m4).mode ∧
      (kv uc m4).servesHost = true ∧ uc.gen = (kv uc m4).epf.gen ∧ (uc.target = 0xff ∨ uc.target.toNat = (kv uc m4).pkgNum)) ∧
    ((kv uc m4).legalIn uc (kv uc m4).ownJudge = true ∧ (kv uc m4).cmdMembers uc = [(kv uc m4).pkgNum] ∧ (kv uc m4).memberJobs = []) ∧
    bits (cmdWord uc 0) 1 0 = 1 ∧ recordFault uc.ext = none ∧ (kv uc m4).flashJob = none ∧
    ({ (kv uc m4) with flashJob := some uc } : State).flashJob ≠ none :=
  ⟨⟨⟨_, List.mem_singleton.2 rfl, rfl⟩, by decide +kernel, by decide +kernel, by decide +kernel, by decide +kernel, by decide +kernel⟩,
    ⟨by decide +kernel, by decide +kernel, by decide +kernel⟩, by decide +kernel, test_record_ok, rfl, nofun⟩
end L1
end Sys2Proof.Tests
end

namespace Sys2Proof.Machine
open Sys2Proof

/-- What leaves DRAM as it is keeps its form. -/
theorem memOk_of_mem_eq {s u : State} (w : s.MemOk) (h : u.mem = s.mem) : u.MemOk := by rwa [State.MemOk, h]

/-- Every command keeps the canonical form of DRAM: most leave DRAM as it is, the others change it only by operations that keep the
form (Laws/MemForm). One arm per arm of `exec`, in its order. -/
theorem exec_memOk (i : Instr) (s u : State) (w : s.MemOk) (h : exec i s = .next u) : u.MemOk := by
  cases i with
  | clauseClockLock => exact memOk_of_mem_eq w (execClauseClockLock_mem (h := h))
  | clauseLockLoss => exact memOk_of_mem_eq w (execClauseLockLoss_mem (h := h))
  | syncReq => exact memOk_of_mem_eq w (execSyncReq_mem (h := h))
  | syncRsp => exact memOk_of_mem_eq w (execSyncRsp_mem (h := h))
  | epoch => exact memOk_of_mem_eq w (execEpoch_mem (h := h))
  | driftCorrection => exact memOk_of_mem_eq w (execDriftCorrection_mem (h := h))
  | clauseRealign => exact memOk_of_mem_eq w (execClauseRealign_mem (h := h))
  | clauseResolution => exact execClauseResolution_wf (w := w) (h := h)
  | addi => exact memOk_of_mem_eq w (execAddi_mem (h := h))
  | andi => exact memOk_of_mem_eq w (execAndi_mem (h := h))
  | ori => exact memOk_of_mem_eq w (execOri_mem (h := h))
  | xori => exact memOk_of_mem_eq w (execXori_mem (h := h))
  | slti => exact memOk_of_mem_eq w (execSlti_mem (h := h))
  | sltiu => exact memOk_of_mem_eq w (execSltiu_mem (h := h))
  | lui => exact memOk_of_mem_eq w (execLui_mem (h := h))
  | addis => exact memOk_of_mem_eq w (execAddis_mem (h := h))
  | alu => exact memOk_of_mem_eq w (execAlu_mem (h := h))
  | muldiv => exact memOk_of_mem_eq w (execMuldiv_mem (h := h))
  | shift => exact memOk_of_mem_eq w (execShift_mem (h := h))
  | beq => exact memOk_of_mem_eq w (execBeq_mem (h := h))
  | bne => exact memOk_of_mem_eq w (execBne_mem (h := h))
  | blt => exact memOk_of_mem_eq w (execBlt_mem (h := h))
  | bge => exact memOk_of_mem_eq w (execBge_mem (h := h))
  | bltu => exact memOk_of_mem_eq w (execBltu_mem (h := h))
  | bgeu => exact memOk_of_mem_eq w (execBgeu_mem (h := h))
  | j => exact memOk_of_mem_eq w (execJ_mem (h := h))
  | jal => exact memOk_of_mem_eq w (execJal_mem (h := h))
  | jalr => exact memOk_of_mem_eq w (execJalr_mem (h := h))
  | load => exact memOk_of_mem_eq w (execLoad_mem (h := h))
  | store => exact memOk_of_mem_eq w (execStore_mem (h := h))
  | loadIndexed => exact memOk_of_mem_eq w (execLoadIndexed_mem (h := h))
  | storeIndexed => exact memOk_of_mem_eq w (execStoreIndexed_mem (h := h))
  | law => exact memOk_of_mem_eq w (execLaw_mem (h := h))
  | lad => exact memOk_of_mem_eq w (execLad_mem (h := h))
  | srw => exact memOk_of_mem_eq w (execSrw_mem (h := h))
  | srd => exact memOk_of_mem_eq w (execSrd_mem (h := h))
  | pref => exact memOk_of_mem_eq w (execPref_mem (h := h))
  | aadd => exact memOk_of_mem_eq w (execAadd_mem (h := h))
  | aand => exact memOk_of_mem_eq w (execAand_mem (h := h))
  | aor => exact memOk_of_mem_eq w (execAor_mem (h := h))
  | axor => exact memOk_of_mem_eq w (execAxor_mem (h := h))
  | aswap => exact memOk_of_mem_eq w (execAswap_mem (h := h))
  | amin => exact memOk_of_mem_eq w (execAmin_mem (h := h))
  | amax => exact memOk_of_mem_eq w (execAmax_mem (h := h))
  | acas => exact memOk_of_mem_eq w (execAcas_mem (h := h))
  | vint => exact memOk_of_mem_eq w (execVint_mem (h := h))
  | vfp => exact memOk_of_mem_eq w (execVfp_mem (h := h))
  | vmem => exact memOk_of_mem_eq w (execVmem_mem (h := h))
  | vmask => exact memOk_of_mem_eq w (execVmask_mem (h := h))
  | syscall => exact memOk_of_mem_eq w (execSyscall_mem (h := h))
  | hcall => exact memOk_of_mem_eq w (execHcall_mem (h := h))
  | rte => exact memOk_of_mem_eq w (execRte_mem (h := h))
  | brk => exact memOk_of_mem_eq w (execBrk_mem (h := h))
  | wfi => exact memOk_of_mem_eq w (execWfi_mem (h := h))
  | renter => exact memOk_of_mem_eq w (execRenter_mem (h := h))
  | tlbi => exact memOk_of_mem_eq w (execTlbi_mem (h := h))
  | syncT => exact memOk_of_mem_eq w (execSyncT_mem (h := h))
  | isync => exact memOk_of_mem_eq w (execIsync_mem (h := h))
  | clk => exact memOk_of_mem_eq w (execClk_mem (h := h))
  | pcrd => exact memOk_of_mem_eq w (execPcrd_mem (h := h))
  | rsync => exact memOk_of_mem_eq w (execRsync_mem (h := h))
  | rsclr => exact memOk_of_mem_eq w (execRsclr_mem (h := h))
  | waitd => exact memOk_of_mem_eq w (execWaitd_mem (h := h))
  | waitdTimeout => exact memOk_of_mem_eq w (execWaitdTimeout_mem (h := h))
  | fence => exact memOk_of_mem_eq w (execFence_mem (h := h))
  | mfc => exact memOk_of_mem_eq w (execMfc_mem (h := h))
  | mtc => exact memOk_of_mem_eq w (execMtc_mem (h := h))
  | cleanVa => exact memOk_of_mem_eq w (execCleanVa_mem (h := h))
  | invVa => exact memOk_of_mem_eq w (execInvVa_mem (h := h))
  | clinvVa => exact memOk_of_mem_eq w (execClinvVa_mem (h := h))
  | zeroVa => exact memOk_of_mem_eq w (execZeroVa_mem (h := h))
  | invL1i => exact memOk_of_mem_eq w (execInvL1i_mem (h := h))
  | cleanSw2 => exact memOk_of_mem_eq w (execCleanSw2_mem (h := h))
  | invSw2 => exact memOk_of_mem_eq w (execInvSw2_mem (h := h))
  | clinvSw2 => exact memOk_of_mem_eq w (execClinvSw2_mem (h := h))
  | cleanSw3 => exact memOk_of_mem_eq w (execCleanSw3_mem (h := h))
  | invSw3 => exact memOk_of_mem_eq w (execInvSw3_mem (h := h))
  | clinvSw3 => exact memOk_of_mem_eq w (execClinvSw3_mem (h := h))
  | interrupt => exact memOk_of_mem_eq w (execInterrupt_mem (h := h))
  | timerCompare => exact memOk_of_mem_eq w (execTimerCompare_mem (h := h))
  | predctlFlush => exact memOk_of_mem_eq w (execPredctlFlush_mem (h := h))
  | predictorFlushDone => exact memOk_of_mem_eq w (execPredictorFlushDone_mem (h := h))
  | residueRetry => exact memOk_of_mem_eq w (execResidueRetry_mem (h := h))
  | mbDrain => exact memOk_of_mem_eq w (execMbDrain_mem (h := h))
  | evictionIssue => exact memOk_of_mem_eq w (execEvictionIssue_mem (h := h))
  | l2Scrub => exact memOk_of_mem_eq w (execL2Scrub_mem (h := h))
  | l3Scrub => exact memOk_of_mem_eq w (execL3Scrub_mem (h := h))
  | l2Disable => exact memOk_of_mem_eq w (execL2Disable_mem (h := h))
  | l2Enable => exact memOk_of_mem_eq w (execL2Enable_mem (h := h))
  | l2FlushDone => exact memOk_of_mem_eq w (execL2FlushDone_mem (h := h))
  | l3Disable => exact memOk_of_mem_eq w (execL3Disable_mem (h := h))
  | l3Enable => exact memOk_of_mem_eq w (execL3Enable_mem (h := h))
  | l3FlushDone => exact memOk_of_mem_eq w (execL3FlushDone_mem (h := h))
  | adUpdate => exact memOk_of_mem_eq w (execAdUpdate_mem (h := h))
  | transTlbiTimeout => exact memOk_of_mem_eq w (execTransTlbiTimeout_mem (h := h))
  | rds => exact execRds_wf (w := w) (h := h)
  | rdx => exact execRdx_wf (w := w) (h := h)
  | upg => exact execUpg_wf (w := w) (h := h)
  | rdz => exact execRdz_wf (w := w) (h := h)
  | wbm => exact execWbm_wf (w := w) (h := h)
  | evn => exact execEvn_wf (w := w) (h := h)
  | atom => exact execAtom_wf (w := w) (h := h)
  | cmo => exact execCmo_wf (w := w) (h := h)
  | wrp => exact execWrp_wf (w := w) (h := h)
  | ucrd => exact memOk_of_mem_eq w (execUcrd_mem (h := h))
  | ucwr => exact memOk_of_mem_eq w (execUcwr_mem (h := h))
  | ucatom => exact memOk_of_mem_eq w (execUcatom_mem (h := h))
  | ownchk => exact memOk_of_mem_eq w (execOwnchk_mem (h := h))
  | snps => exact execSnps_wf (w := w) (h := h)
  | snpx => exact execSnpx_wf (w := w) (h := h)
  | snpi => exact execSnpi_wf (w := w) (h := h)
  | snph => exact execSnph_wf (w := w) (h := h)
  | snpc => exact execSnpc_wf (w := w) (h := h)
  | rdsub => exact memOk_of_mem_eq w (execRdsub_mem (h := h))
  | data => exact memOk_of_mem_eq w (execData_mem (h := h))
  | datasub => exact memOk_of_mem_eq w (execDatasub_mem (h := h))
  | cmp => exact execCmp_wf (w := w) (h := h)
  | cmpack => exact execCmpack_wf (w := w) (h := h)
  | refute => exact memOk_of_mem_eq w (execRefute_mem (h := h))
  | fwdack => exact execFwdack_wf (w := w) (h := h)
  | snpack => exact execSnpack_wf (w := w) (h := h)
  | snpnone => exact execSnpnone_wf (w := w) (h := h)
  | snpdata => exact execSnpdata_wf (w := w) (h := h)
  | subfwd => exact execSubfwd_wf (w := w) (h := h)
  | subdone => exact memOk_of_mem_eq w (execSubdone_mem (h := h))
  | wback => exact memOk_of_mem_eq w (execWback_mem (h := h))
  | atomrsp => exact memOk_of_mem_eq w (execAtomrsp_mem (h := h))
  | ucrsp => exact memOk_of_mem_eq w (execUcrsp_mem (h := h))
  | ownrsp => exact memOk_of_mem_eq w (execOwnrsp_mem (h := h))
  | credit => exact memOk_of_mem_eq w (execCredit_mem (h := h))
  | tlbiMessage => exact memOk_of_mem_eq w (execTlbiMessage_mem (h := h))
  | tlbidone => exact memOk_of_mem_eq w (execTlbidone_mem (h := h))
  | tlbiack => exact memOk_of_mem_eq w (execTlbiack_mem (h := h))
  | jrnwr => exact execJrnwr_wf (w := w) (h := h)
  | settlePointReached => exact execSettlePointReached_wf (w := w) (h := h)
  | leadPointReached => exact execLeadPointReached_wf (w := w) (h := h)
  | memoryReadDone => exact execMemoryReadDone_wf (w := w) (h := h)
  | cohTimeout => exact memOk_of_mem_eq w (execCohTimeout_mem (h := h))
  | directoryLookupDone => exact execDirectoryLookupDone_wf (w := w) (h := h)
  | ageClock => exact memOk_of_mem_eq w (execAgeClock_mem (h := h))
  | dirScrub => exact memOk_of_mem_eq w (execDirScrub_mem (h := h))
  | dirPortLost => exact memOk_of_mem_eq w (execDirPortLost_mem (h := h))
  | reshapeMigrate => exact execReshapeMigrate_wf (w := w) (h := h)
  | dataFlit => exact memOk_of_mem_eq w (execDataFlit_mem (h := h))
  | idleFlit => exact memOk_of_mem_eq w (execIdleFlit_mem (h := h))
  | nakFlit => exact memOk_of_mem_eq w (execNakFlit_mem (h := h))
  | widthControlFlit => exact memOk_of_mem_eq w (execWidthControlFlit_mem (h := h))
  | trainingMarker => exact memOk_of_mem_eq w (execTrainingMarker_mem (h := h))
  | replayTimeout => exact memOk_of_mem_eq w (execReplayTimeout_mem (h := h))
  | fecLockLoss => exact memOk_of_mem_eq w (execFecLockLoss_mem (h := h))
  | laneLimit => exact memOk_of_mem_eq w (execLaneLimit_mem (h := h))
  | trlRetrain => exact memOk_of_mem_eq w (execTrlRetrain_mem (h := h))
  | partialResetDone => exact memOk_of_mem_eq w (execPartialResetDone_mem (h := h))
  | widthConfirmTimeout => exact memOk_of_mem_eq w (execWidthConfirmTimeout_mem (h := h))
  | fullRetrainDone => exact memOk_of_mem_eq w (execFullRetrainDone_mem (h := h))
  | linkTrainingDone => exact memOk_of_mem_eq w (execLinkTrainingDone_mem (h := h))
  | linkTrainingTimeout => exact memOk_of_mem_eq w (execLinkTrainingTimeout_mem (h := h))
  | linkDown => exact memOk_of_mem_eq w (execLinkDown_mem (h := h))
  | discover => exact memOk_of_mem_eq w (execDiscover_mem (h := h))
  | ident => exact memOk_of_mem_eq w (execIdent_mem (h := h))
  | discoveryEnd => exact memOk_of_mem_eq w (execDiscoveryEnd_mem (h := h))
  | assign => exact memOk_of_mem_eq w (execAssign_mem (h := h))
  | routeWrite => exact memOk_of_mem_eq w (execRouteWrite_mem (h := h))
  | routeHold => exact memOk_of_mem_eq w (execRouteHold_mem (h := h))
  | holdDone => exact memOk_of_mem_eq w (execHoldDone_mem (h := h))
  | routeSwitch => exact memOk_of_mem_eq w (execRouteSwitch_mem (h := h))
  | routeChangeTimeout => exact memOk_of_mem_eq w (execRouteChangeTimeout_mem (h := h))
  | regime => exact memOk_of_mem_eq w (execRegime_mem (h := h))
  | heartbeatPeriod => exact memOk_of_mem_eq w (execHeartbeatPeriod_mem (h := h))
  | heartbeat => exact memOk_of_mem_eq w (execHeartbeat_mem (h := h))
  | standbySilenceLimit => exact memOk_of_mem_eq w (execStandbySilenceLimit_mem (h := h))
  | heardReq => exact memOk_of_mem_eq w (execHeardReq_mem (h := h))
  | heardRsp => exact memOk_of_mem_eq w (execHeardRsp_mem (h := h))
  | heardTimeout => exact memOk_of_mem_eq w (execHeardTimeout_mem (h := h))
  | takeover => exact memOk_of_mem_eq w (execTakeover_mem (h := h))
  | heartbeatSilence => exact memOk_of_mem_eq w (execHeartbeatSilence_mem (h := h))
  | event => exact execEvent_wf (w := w) (h := h)
  | mirror => exact memOk_of_mem_eq w (execMirror_mem (h := h))
  | mirrorAck => exact memOk_of_mem_eq w (execMirrorAck_mem (h := h))
  | mirrorTimeout => exact memOk_of_mem_eq w (execMirrorTimeout_mem (h := h))
  | haltImage => exact memOk_of_mem_eq w (execHaltImage_mem (h := h))
  | cut => exact memOk_of_mem_eq w (execCut_mem (h := h))
  | cutDone => exact memOk_of_mem_eq w (execCutDone_mem (h := h))
  | registerRead => exact memOk_of_mem_eq w (execRegisterRead_mem (h := h))
  | registerWrite => exact execRegisterWrite_wf (w := w) (h := h)
  | registerAnswer => exact memOk_of_mem_eq w (execRegisterAnswer_mem (h := h))
  | interruptDelivery => exact memOk_of_mem_eq w (execInterruptDelivery_mem (h := h))
  | retryLater => exact memOk_of_mem_eq w (execRetryLater_mem (h := h))
  | retryLaterResend => exact memOk_of_mem_eq w (execRetryLaterResend_mem (h := h))
  | meshRetryExhausted => exact memOk_of_mem_eq w (execMeshRetryExhausted_mem (h := h))
  | refresh => exact memOk_of_mem_eq w (execRefresh_mem (h := h))
  | dimmTempPoll => exact memOk_of_mem_eq w (execDimmTempPoll_mem (h := h))
  | rowIdleTimeout => exact memOk_of_mem_eq w (execRowIdleTimeout_mem (h := h))
  | prechargePowerDown => exact memOk_of_mem_eq w (execPrechargePowerDown_mem (h := h))
  | dimmAlert => exact memOk_of_mem_eq w (execDimmAlert_mem (h := h))
  | pmicPowerGoodLoss => exact memOk_of_mem_eq w (execPmicPowerGoodLoss_mem (h := h))
  | phyLockLoss => exact memOk_of_mem_eq w (execPhyLockLoss_mem (h := h))
  | dramScrub => exact execDramScrub_wf (w := w) (h := h)
  | cetabClear => exact memOk_of_mem_eq w (execCetabClear_mem (h := h))
  | ctxcmdRead => exact memOk_of_mem_eq w (execCtxcmdRead_mem (h := h))
  | ctxcmdWrite => exact memOk_of_mem_eq w (execCtxcmdWrite_mem (h := h))
  | ctxcmdEnable => exact memOk_of_mem_eq w (execCtxcmdEnable_mem (h := h))
  | ctxcmdDisable => exact memOk_of_mem_eq w (execCtxcmdDisable_mem (h := h))
  | ctxcmdAbort => exact memOk_of_mem_eq w (execCtxcmdAbort_mem (h := h))
  | descriptorNop => exact memOk_of_mem_eq w (execDescriptorNop_mem (h := h))
  | scanFilter => exact memOk_of_mem_eq w (execScanFilter_mem (h := h))
  | project => exact memOk_of_mem_eq w (execProject_mem (h := h))
  | aggregate => exact memOk_of_mem_eq w (execAggregate_mem (h := h))
  | hashPartition => exact memOk_of_mem_eq w (execHashPartition_mem (h := h))
  | gather => exact memOk_of_mem_eq w (execGather_mem (h := h))
  | copy => exact memOk_of_mem_eq w (execCopy_mem (h := h))
  | fill => exact memOk_of_mem_eq w (execFill_mem (h := h))
  | crc32c => exact memOk_of_mem_eq w (execCrc32c_mem (h := h))
  | segmentDone => exact memOk_of_mem_eq w (execSegmentDone_mem (h := h))
  | completionRecordWrite => exact memOk_of_mem_eq w (execCompletionRecordWrite_mem (h := h))
  | realmCapPeriod => exact memOk_of_mem_eq w (execRealmCapPeriod_mem (h := h))
  | start => exact execStart_wf (w := w) (h := h)
  | stop => exact execStop_wf (w := w) (h := h)
  | bind => exact execBind_wf (w := w) (h := h)
  | unbind => exact execUnbind_wf (w := w) (h := h)
  | pgcmdAssign => exact execPgcmdAssign_wf (w := w) (h := h)
  | reclaim => exact execReclaim_wf (w := w) (h := h)
  | keyRotateSweep => exact execKeyRotateSweep_wf (w := w) (h := h)
  | realmResetDone => exact memOk_of_mem_eq w (execRealmResetDone_mem (h := h))
  | doorbellPoll => exact memOk_of_mem_eq w (execDoorbellPoll_mem (h := h))
  | commandDescriptor => exact memOk_of_mem_eq w (execCommandDescriptor_mem (h := h))
  | ticketAccept => exact memOk_of_mem_eq w (execTicketAccept_mem (h := h))
  | commandCompletion => exact memOk_of_mem_eq w (execCommandCompletion_mem (h := h))
  | nop => exact execNop_wf (w := w) (h := h)
  | progress => exact execProgress_wf (w := w) (h := h)
  | ownerClaim => exact execOwnerClaim_wf (w := w) (h := h)
  | join => exact execJoin_wf (w := w) (h := h)
  | setRegime => exact execSetRegime_wf (w := w) (h := h)
  | modeQuiesce => exact execModeQuiesce_wf (w := w) (h := h)
  | modeJoin => exact execModeJoin_wf (w := w) (h := h)
  | modeRunI => exact execModeRunI_wf (w := w) (h := h)
  | modeRunS => exact execModeRunS_wf (w := w) (h := h)
  | modeDrain => exact execModeDrain_wf (w := w) (h := h)
  | reset => exact execReset_wf (w := w) (h := h)
  | reshape => exact execReshape_wf (w := w) (h := h)
  | meminit => exact execMeminit_wf (w := w) (h := h)
  | regWrite => exact execRegWrite_wf (w := w) (h := h)
  | fwUpdateFirmware => exact execFwUpdateFirmware_wf (w := w) (h := h)
  | fwUpdateBoardRecord => exact execFwUpdateBoardRecord_wf (w := w) (h := h)
  | fwUpdateFloor => exact execFwUpdateFloor_wf (w := w) (h := h)
  | expertGrant => exact execExpertGrant_wf (w := w) (h := h)
  | expertRevoke => exact execExpertRevoke_wf (w := w) (h := h)
  | grantExpired => exact memOk_of_mem_eq w (execGrantExpired_mem (h := h))
  | tlogClear => exact execTlogClear_wf (w := w) (h := h)
  | realmCreate => exact execRealmCreate_wf (w := w) (h := h)
  | realmDestroy => exact execRealmDestroy_wf (w := w) (h := h)
  | realmSeal => exact execRealmSeal_wf (w := w) (h := h)
  | realmUnseal => exact execRealmUnseal_wf (w := w) (h := h)
  | keyRotate => exact execKeyRotate_wf (w := w) (h := h)
  | pageReclaim => exact execPageReclaim_wf (w := w) (h := h)
  | ownerKeySet => exact execOwnerKeySet_wf (w := w) (h := h)
  | ownerKeyClear => exact execOwnerKeyClear_wf (w := w) (h := h)
  | peerWindowRead => exact memOk_of_mem_eq w (execPeerWindowRead_mem (h := h))
  | peerWindowWrite => exact memOk_of_mem_eq w (execPeerWindowWrite_mem (h := h))
  | windowWrite => exact memOk_of_mem_eq w (execWindowWrite_mem (h := h))
  | configRequest => exact memOk_of_mem_eq w (execConfigRequest_mem (h := h))
  | busMasterDisable => exact memOk_of_mem_eq w (execBusMasterDisable_mem (h := h))
  | functionLevelReset => exact memOk_of_mem_eq w (execFunctionLevelReset_mem (h := h))
  | perstN => exact memOk_of_mem_eq w (execPerstN_mem (h := h))
  | dStateChange => exact memOk_of_mem_eq w (execDStateChange_mem (h := h))
  | epfContained => exact memOk_of_mem_eq w (execEpfContained_mem (h := h))
  | containmentRelease => exact memOk_of_mem_eq w (execContainmentRelease_mem (h := h))
  | inboundDmaWrite => exact memOk_of_mem_eq w (execInboundDmaWrite_mem (h := h))
  | inboundDmaRead => exact memOk_of_mem_eq w (execInboundDmaRead_mem (h := h))
  | deviceReadTimeout => exact memOk_of_mem_eq w (execDeviceReadTimeout_mem (h := h))
  | rpContained => exact memOk_of_mem_eq w (execRpContained_mem (h := h))
  | rpRelease => exact memOk_of_mem_eq w (execRpRelease_mem (h := h))
  | rpassignWrite => exact memOk_of_mem_eq w (execRpassignWrite_mem (h := h))
  | bridgeFrame => exact memOk_of_mem_eq w (execBridgeFrame_mem (h := h))
  | bridgeRetrainDone => exact memOk_of_mem_eq w (execBridgeRetrainDone_mem (h := h))
  | strobeLockLoss => exact memOk_of_mem_eq w (execStrobeLockLoss_mem (h := h))
  | domainClosed => exact memOk_of_mem_eq w (execDomainClosed_mem (h := h))
  | meshCloseAborted => exact memOk_of_mem_eq w (execMeshCloseAborted_mem (h := h))
  | domainOpen => exact execDomainOpen_wf (w := w) (h := h)
  | vauxRise => exact execVauxRise_wf (w := w) (h := h)
  | vauxLoss => exact execVauxLoss_wf (w := w) (h := h)
  | pwrGoodFall => exact execPwrGoodFall_wf (w := w) (h := h)
  | resetNAssert => exact execResetNAssert_wf (w := w) (h := h)
  | pwrGoodRise => exact execPwrGoodRise_wf (w := w) (h := h)
  | resetNRise => exact execResetNRise_wf (w := w) (h := h)
  | trainStart => exact memOk_of_mem_eq w (execTrainStart_mem (h := h))
  | trainComplete => exact execTrainComplete_wf (w := w) (h := h)
  | quiesceCut => exact memOk_of_mem_eq w (execQuiesceCut_mem (h := h))
  | quiesceTimeout => exact memOk_of_mem_eq w (execQuiesceTimeout_mem (h := h))
  | quiesceRelease => exact memOk_of_mem_eq w (execQuiesceRelease_mem (h := h))
  | drainDone => exact execDrainDone_wf (w := w) (h := h)
  | quantumBoundary => exact execQuantumBoundary_wf (w := w) (h := h)
  | sensorSample => exact memOk_of_mem_eq w (execSensorSample_mem (h := h))
  | thermalAlarm => exact memOk_of_mem_eq w (execThermalAlarm_mem (h := h))
  | thermalTrip => exact memOk_of_mem_eq w (execThermalTrip_mem (h := h))
  | powerClamp => exact memOk_of_mem_eq w (execPowerClamp_mem (h := h))
  | frequencyChangeDone => exact memOk_of_mem_eq w (execFrequencyChangeDone_mem (h := h))
  | mcWatchdog => exact memOk_of_mem_eq w (execMcWatchdog_mem (h := h))
  | injectArm => exact memOk_of_mem_eq w (execInjectArm_mem (h := h))
  | tripLogRecord => exact memOk_of_mem_eq w (execTripLogRecord_mem (h := h))
  | spillCopy => exact memOk_of_mem_eq w (execSpillCopy_mem (h := h))
  | rateToken => exact memOk_of_mem_eq w (execRateToken_mem (h := h))
  | freeze => exact memOk_of_mem_eq w (execFreeze_mem (h := h))
  | freezeTimeout => exact memOk_of_mem_eq w (execFreezeTimeout_mem (h := h))
  | counterDump => exact memOk_of_mem_eq w (execCounterDump_mem (h := h))
  | dumpNow => exact memOk_of_mem_eq w (execDumpNow_mem (h := h))
  | dumpEnable => exact memOk_of_mem_eq w (execDumpEnable_mem (h := h))
  | dumpCommit => exact memOk_of_mem_eq w (execDumpCommit_mem (h := h))
  | pcevWrite => exact memOk_of_mem_eq w (execPcevWrite_mem (h := h))
  | pcwrite => exact memOk_of_mem_eq w (execPcwrite_mem (h := h))
  | prsWrite => exact execPrsWrite_wf (w := w) (h := h)
  | illegal => exact memOk_of_mem_eq w (execIllegal_mem (h := h))
  | l3VictimInstall => exact memOk_of_mem_eq w (execL3VictimInstall_mem (h := h))
  | controllerCycle => exact memOk_of_mem_eq w (execControllerCycle_mem (h := h))
  | selfRefreshEntry => exact memOk_of_mem_eq w (execSelfRefreshEntry_mem (h := h))
  | busMasterEnable => exact memOk_of_mem_eq w (execBusMasterEnable_mem (h := h))
  | pcieLinkUp => exact memOk_of_mem_eq w (execPcieLinkUp_mem (h := h))
  | deviceReadCompletion => exact memOk_of_mem_eq w (execDeviceReadCompletion_mem (h := h))
  | completionTimeout => exact memOk_of_mem_eq w (execCompletionTimeout_mem (h := h))
  | fwUpdateDone => exact memOk_of_mem_eq w (execFwUpdateDone_mem (h := h))
  | noticeSpacingExpiry => exact memOk_of_mem_eq w (execNoticeSpacingExpiry_mem (h := h))

/-- A clause keeps the canonical form of DRAM. -/
theorem tick_memOk (s : State) (w : s.MemOk) : s.tick.MemOk := by
  unfold State.tick
  split
  · exact tickOnce_wf _ (tickOnce_wf _ w)
  · exact tickOnce_wf _ w

/-- Settles O4: a step is a command on the rest of the queue or a clause, and each keeps the form. -/
theorem stepKeepsMemory : Obligations.StepKeepsMemory := by
  intro s u w h
  unfold step at h
  split at h
  next c rest _ => exact exec_memOk c { s with pending := rest } u (memOk_of_mem_eq w rfl) h
  next =>
    obtain rfl : s.tick = u := by injection h
    exact tick_memOk s w

/-- Settles O5: the bytes of a line write are those of the line, and no other byte changes. -/
theorem lineReadsBack : Obligations.LineReadsBack := by
  intro s a l w
  refine ⟨readMem_writeMem s a l w, writeMem_wf s a l w, fun b hb => ?_⟩
  rw [memGet_writeMem s a l b w, if_neg (by omega)]

end Sys2Proof.Machine

/-! ## Training halts a package with a failed directory port (R300, R560 step 9)

GLB.MODE through the steps of TRAIN: all but the loss of a port leave it, and a lost port is a UE-P, which halts the package. -/

namespace Sys2Proof.Machine
open Sys2Proof

/-- A field update of another register leaves GLB.MODE. -/
theorem setFld_glbMode (s : State) {off : Nat} (hi lo v : Nat) (h : regGlbMode < off) :
    (s.setFld off hi lo v).reg regGlbMode = s.reg regGlbMode := reg_setFld_ne s off hi lo v _ (by omega)

theorem setReg_glbMode (s : State) {off : Nat} (w : Word) (h : regGlbMode < off) :
    (s.setReg off w).reg regGlbMode = s.reg regGlbMode := by rw [reg_setReg, if_neg (by omega)]

/-- What both branches leave, the choice leaves. -/
theorem ite_glbMode {c : Prop} [Decidable c] {s t u : State} (ht : t.reg regGlbMode = s.reg regGlbMode)
    (hu : u.reg regGlbMode = s.reg regGlbMode) : (if c then t else u).reg regGlbMode = s.reg regGlbMode := by
  split
  · exact ht
  · exact hu

@[simp] theorem enqueueRec_glbMode (s : State) (q : QRec) : (s.enqueueRec q).reg regGlbMode = s.reg regGlbMode :=
  ite_glbMode rfl (reg_addFld_ne _ _ _ _ _ _ (by decide))

@[simp] theorem emit_glbMode (s : State) (die src code realm : Nat) (ps : List Nat) :
    (s.emit die src code realm ps).reg regGlbMode = s.reg regGlbMode :=
  ite_glbMode rfl (enqueueRec_glbMode _ _)

@[simp] theorem raiseEvent_glbMode (s : State) (kind : EventKind) (rank die src : Nat) :
    (s.raiseEvent kind rank die src).reg regGlbMode = s.reg regGlbMode := ite_glbMode rfl (ite_glbMode rfl rfl)

/-- Mode entry puts the new mode into GLB.MODE (R558). -/
theorem enterMode_mode (s : State) (new trans : Nat) : (s.enterMode new trans).mode = new % 16 := by
  simp only [State.mode, State.fld, State.enterMode, emit_glbMode, reg_setReg]
  rw [if_neg (by decide), if_pos trivial, bits_putBits_ne _ _ _ _ _ _ (by decide) (by decide) (by decide),
    bits_putBits_ne _ _ _ _ _ _ (by decide) (by decide) (by decide), bits_putBits _ _ _ _ (by decide) (by decide)]
  rfl

/-- The mode is a function of GLB.MODE. -/
theorem mode_congr {s u : State} (h : u.reg regGlbMode = s.reg regGlbMode) : u.mode = s.mode := by
  rw [State.mode, State.mode, State.fld, State.fld, h]

/-! ### Bridges, channels, masks and octets leave GLB.MODE -/

@[simp] theorem fenceDie_glbMode (s : State) (d reason : Nat) : (s.fenceDie d reason).reg regGlbMode = s.reg regGlbMode := by
  have hb : regGlbMode < regBrgStatus d := by unfold regGlbMode regBrgStatus; omega
  simp only [State.fenceDie, emit_glbMode]
  rw [setFld_glbMode _ _ _ _ (by decide), setFld_glbMode _ _ _ _ hb, setFld_glbMode _ _ _ _ hb]
  rfl

theorem repairWires_glbMode (l : List WireFault) (s : State) : (s.repairWires l).reg regGlbMode = s.reg regGlbMode := by
  induction l generalizing s with
  | nil => rfl
  | cons w l ih =>
    have hb : regGlbMode < regBrgSpared w.die.val := by unfold regGlbMode regBrgSpared; omega
    rw [State.repairWires, ih]
    exact ite_glbMode rfl (ite_glbMode (fenceDie_glbMode _ _ _) (ite_glbMode rfl
      ((emit_glbMode _ _ _ _ _ _).trans (setFld_glbMode _ _ _ _ hb))))

theorem applyProfiles_glbMode (l : List Nat) (s : State) : (s.applyProfiles l).reg regGlbMode = s.reg regGlbMode := by
  induction l generalizing s with
  | nil => rfl
  | cons d l ih =>
    have hb : regGlbMode < regBrgStatus d := by unfold regGlbMode regBrgStatus; omega
    have hgot (got : Nat) : ((s.setFld (regBrgStatus d) 9 8 got).setFld (regBrgStatus d) 0 0 1).reg regGlbMode = s.reg regGlbMode :=
      (setFld_glbMode _ _ _ _ hb).trans (setFld_glbMode _ _ _ _ hb)
    rw [State.applyProfiles, ih]
    exact ite_glbMode (hgot _) ((emit_glbMode _ _ _ _ _ _).trans (hgot _))

theorem recordChans_glbMode (fast : Bool) (cs : Nat → ChanTrain) (l : List Nat) (s : State) :
    (s.recordChans fast cs l).reg regGlbMode = s.reg regGlbMode := by
  induction l generalizing s with
  | nil => rfl
  | cons n l ih =>
    have h0 : regGlbMode < regDmcStatus n := by unfold regGlbMode regDmcStatus; omega
    have h1 : regGlbMode < regDmcTrainres0 n := by unfold regGlbMode regDmcTrainres0; omega
    have h2 : regGlbMode < regDmcTrainres1 n := by unfold regGlbMode regDmcTrainres1; omega
    rw [State.recordChans, ih]
    have hset (w0 w1 w2 : Word) : (((s.setReg (regDmcStatus n) w0).setReg (regDmcTrainres0 n) w1).setReg (regDmcTrainres1 n) w2).reg
        regGlbMode = s.reg regGlbMode := by rw [setReg_glbMode _ _ h2, setReg_glbMode _ _ h1, setReg_glbMode _ _ h0]
    exact ite_glbMode ((emit_glbMode _ _ _ _ _ _).trans (hset _ _ _)) (hset _ _ _)

theorem fenceChans_glbMode (l : List Nat) (s : State) : (s.fenceChans l).reg regGlbMode = s.reg regGlbMode := by
  induction l generalizing s with
  | nil => rfl
  | cons n l ih => rw [State.fenceChans, ih, setFld_glbMode _ _ _ _ (by unfold regGlbMode regDmcStatus; omega)]

theorem fenceEngines_glbMode (l : List Nat) (s : State) : (s.fenceEngines l).reg regGlbMode = s.reg regGlbMode := by
  induction l generalizing s with
  | nil => rfl
  | cons n l ih => rw [State.fenceEngines, ih, setFld_glbMode _ _ _ _ (by unfold regGlbMode regPenStatus; omega)]

theorem trainDram_glbMode (s : State) (chans : List ChanTrain) : (s.trainDram chans).reg regGlbMode = s.reg regGlbMode := by
  have hTop : regGlbMode < regDmcTop := by decide
  unfold State.trainDram
  extract_lets cs slow fall t fast r
  have hr : r.reg regGlbMode = s.reg regGlbMode :=
    (recordChans_glbMode _ _ _ _).trans (ite_glbMode (emit_glbMode _ _ _ _ _ _) rfl)
  refine ite_glbMode ((emit_glbMode _ _ _ _ _ _).trans hr) (ite_glbMode ((setReg_glbMode _ _ hTop).trans hr) ?_)
  rw [emit_glbMode, setReg_glbMode _ _ hTop, fenceEngines_glbMode, fenceChans_glbMode, hr]

theorem resetMasks_glbMode (l : List Nat) (s : State) : (s.resetMasks l).reg regGlbMode = s.reg regGlbMode := by
  induction l generalizing s with
  | nil => rfl
  | cons i l ih =>
    rw [State.resetMasks, ih, setReg_glbMode _ _ (by unfold regGlbMode channelMaskReg regDmcChanhash0; omega)]

theorem trainMasks_glbMode (s : State) : s.trainMasks.reg regGlbMode = s.reg regGlbMode := by
  unfold State.trainMasks
  extract_lets half t
  change t.reg regGlbMode = s.reg regGlbMode
  simp only [t]
  split
  · exact (emit_glbMode _ _ _ _ _ _).trans (resetMasks_glbMode _ _)
  · rfl

theorem applyRoles_glbMode (l : List Nat) (s : State) : (s.applyRoles l).reg regGlbMode = s.reg regGlbMode := by
  induction l generalizing s with
  | nil => rfl
  | cons n l ih =>
    have ho : regGlbMode < regOctCfg n := by unfold regGlbMode regOctCfg; omega
    have ht : regGlbMode < regTrlStatus n := by unfold regGlbMode regTrlStatus; omega
    rw [State.applyRoles, ih]
    have hset (r : Nat) : (s.setFld (regOctCfg n) 6 4 r).reg regGlbMode = s.reg regGlbMode := setFld_glbMode _ _ _ _ ho
    exact ite_glbMode ((setFld_glbMode _ _ _ _ ht).trans (ite_glbMode (hset _) ((emit_glbMode _ _ _ _ _ _).trans (hset _))))
      (ite_glbMode (hset _) ((emit_glbMode _ _ _ _ _ _).trans (hset _)))

/-! ### A failed port halts the package -/

/-- A UE-P leaves a powered package in HALT (R605, R608). -/
theorem ueP_mode (s : State) (die src code realm : Nat) (ps : List Nat) (h : modeStandby < s.mode) :
    (s.ueP die src code realm ps).mode = modeHalt := by
  have hm : ((s.emit die src code realm ps).noteUe code).mode = s.mode :=
    mode_congr ((setFld_glbMode _ _ _ _ (by decide)).trans (emit_glbMode _ _ _ _ _ _))
  unfold State.ueP
  extract_lets t
  split
  next hh => exact hh.resolve_right (by simp only [t, hm]; omega)
  next => exact (mode_congr (raiseEvent_glbMode _ _ _ _ _)).trans (enterMode_mode _ _ _)

theorem dirPortLost_mode (s : State) (p : Nat) (h : modeStandby < s.mode) : (s.dirPortLost p).mode = modeHalt := by
  refine ueP_mode _ _ _ _ _ _ (h.trans_eq (mode_congr ?_).symm)
  exact setReg_glbMode _ _ (by unfold regGlbMode regDirLasterr; omega)

/-- A package that halts for one port stays halted, whatever the ports after it. -/
theorem failedPorts_mode_of_halt (l : List Nat) (s : State) (h : s.mode = modeHalt) : (s.failedPorts l).mode = modeHalt := by
  induction l generalizing s with
  | nil => exact h
  | cons p l ih =>
    rw [State.failedPorts]
    split
    · exact ih _ (dirPortLost_mode _ _ (by rw [h]; decide))
    · exact ih _ h

/-- DIR.STATUS of `p` reads PRESENT without TRAINED: the port failed. -/
def State.portFailed (s : State) (p : Nat) : Prop := s.fld (regDirStatus p) 1 0 = 1

theorem failedPorts_mode (l : List Nat) (s : State) (p : Nat) (hp : p ∈ l) (hf : s.portFailed p) (h : modeStandby < s.mode) :
    (s.failedPorts l).mode = modeHalt := by
  induction l with
  | nil => cases hp
  | cons q l ih =>
    rw [State.failedPorts]
    split
    next => exact failedPorts_mode_of_halt _ _ (dirPortLost_mode _ _ h)
    next hq => exact ih ((List.mem_cons.1 hp).resolve_left fun e => hq (e ▸ hf))

theorem recordPorts_glbMode (ps : Nat → PortTrain) (l : List Nat) (s : State) :
    (s.recordPorts ps l).reg regGlbMode = s.reg regGlbMode := by
  induction l generalizing s with
  | nil => rfl
  | cons p l ih => rw [State.recordPorts, ih, setReg_glbMode _ _ (by unfold regGlbMode regDirStatus; omega)]

/-- DIR.STATUS of a port that fails training: PRESENT without TRAINED, and the density. -/
theorem bits_failedPort (density : BitVec 2) : bits (BitVec.ofNat 64 (1 + density.toNat * 2 ^ 6)) 1 0 = 1 := by
  revert density
  decide

/-- A port that is present and did not train shows as failed once the ports are recorded. -/
theorem recordPorts_portFailed (ps : Nat → PortTrain) (l : List Nat) (s : State) (p : Nat) (hpres : (ps p).present = true)
    (htr : (ps p).trained = false) (hp : p ∈ l ∨ s.portFailed p) : (s.recordPorts ps l).portFailed p := by
  induction l generalizing s with
  | nil => exact hp.resolve_left List.not_mem_nil
  | cons q l ih =>
    rw [State.recordPorts]
    refine ih _ ?_
    by_cases hq : p = q
    · subst hq
      exact .inr (by simpa [State.portFailed, State.fld, hpres, htr, b2n] using bits_failedPort (ps p).density)
    · have hne : regDirStatus p ≠ regDirStatus q := by unfold regDirStatus; omega
      refine hp.imp (fun hm => (List.mem_cons.1 hm).resolve_left hq) (fun hs => ?_)
      rwa [State.portFailed, State.fld, reg_setReg, if_neg hne]

/-- R300: a directory port that fails training halts the package, whatever the other ports do. -/
theorem trainPorts_mode (s : State) (ports : List PortTrain) (p : Fin 8) (hpres : (ports.getD p {}).present = true)
    (htr : (ports.getD p {}).trained = false) (h : modeStandby < s.mode) : (s.trainPorts ports).mode = modeHalt := by
  have hrec := mode_congr (recordPorts_glbMode (fun q => ports.getD q {}) (upTo 8) s)
  have hhalt := failedPorts_mode (upTo 8) _ p (List.mem_range.2 p.isLt)
    (recordPorts_portFailed (fun q => ports.getD q {}) (upTo 8) s p hpres htr (.inl (List.mem_range.2 p.isLt))) (hrec ▸ h)
  rw [← hhalt]
  apply mode_congr
  have hl : regGlbMode < regDirLayout := by decide
  unfold State.trainPorts
  extract_lets _ _ ps
  clear_value ps
  split
  · exact ite_glbMode ((setFld_glbMode _ _ _ _ hl).trans (setFld_glbMode _ _ _ _ hl)) (emit_glbMode _ _ _ _ _ _)
  · exact emit_glbMode _ _ _ _ _ _

/-- TRAIN with a failed directory port ends in HALT: every step before the ports keeps mode TRAIN, and the octets after them HALT. -/
theorem train_mode_of_failedPort (s : State) (wires : List WireFault) (chans : List ChanTrain) (ports : List PortTrain) (p : Fin 8)
    (hpres : (ports.getD p {}).present = true) (htr : (ports.getD p {}).trained = false) :
    (s.train wires chans ports).mode = modeHalt := by
  unfold State.train
  rw [mode_congr (applyRoles_glbMode _ _)]
  apply trainPorts_mode _ _ p hpres htr
  rw [mode_congr (trainMasks_glbMode _), mode_congr (trainDram_glbMode _ _)]
  have htrain : (((s.enterMode modeTrain 5).repairWires wires).applyProfiles
      ((s.enterMode modeTrain 5).repairWires wires).liveDies).mode = modeTrain := by
    rw [mode_congr (applyProfiles_glbMode _ _), mode_congr (repairWires_glbMode _ _), enterMode_mode]
    rfl
  split
  · rw [mode_congr (emit_glbMode _ _ _ _ _ _), htrain]; decide
  · rw [htrain]; decide

/-- TRAIN_START of a package that has passed SENSE, with a failed directory port. -/
theorem execTrainStart_failedPort (s : State) (wires : List WireFault) (chans : List ChanTrain) (ports : List PortTrain) (p : Fin 8)
    (hmode : s.mode = modeSense) (hcount : s.counting = true) (hsense : s.sense = .passed)
    (hpres : (ports.getD p {}).present = true) (htr : (ports.getD p {}).trained = false) :
    Ends (.trainStart wires chans ports) s (fun u => u.mode = modeHalt) :=
  ⟨s.train wires chans ports, by simp [execTrainStart, hmode, hcount, hsense], train_mode_of_failedPort s wires chans ports p hpres htr⟩

/-- A package that has passed SENSE, its clause clock locked. -/
def sensedPackage : State := { State.reset.setFld regGlbMode 3 0 modeSense with counting := true, sense := .passed }

/-- What TRAIN finds on a board whose directory port 0 is present and fails training. -/
def failedPort0 : List PortTrain := [{ present := true, trained := false }]

/-- Refutes O59: its clause for a package that has passed SENSE lets training end in mode TRAIN whatever TRAIN finds on the directory
ports. A port that fails training is a UE-P (R300, code 50A1h), so that `sensedPackage` with `failedPort0` ends in HALT (R559
transition 18). -/
theorem not_powerAndStartup : ¬ Obligations.PowerAndStartup := by
  unfold Obligations.PowerAndStartup
  intro h
  obtain ⟨-, -, -, -, -, -, -, -, -, -, -, -, -, -, -, -, hpassed, -⟩ := h false false [] [] failedPort0 sensedPackage
  have hmode : sensedPackage.mode = modeSense := by decide
  obtain ⟨u, hu, ⟨htrain, -⟩, -⟩ := hpassed hmode rfl rfl
  obtain ⟨v, hv, hhalt⟩ := execTrainStart_failedPort sensedPackage [] [] failedPort0 0 hmode rfl rfl rfl rfl
  obtain rfl : u = v := Host.Outcome.next.inj (hu.symm.trans hv)
  exact absurd (htrain.symm.trans hhalt) (by decide)

end Sys2Proof.Machine

/-! ## Clause time

The events of 02_clause_time.md and the instructions that read it. First the step itself, then what a message, a record and a register
field leave of the state; the obligations follow. -/

namespace Sys2Proof.Machine
open Sys2Proof

/-- Settles O1: both arms of the step. -/
theorem stepRunsFront : Obligations.StepRunsFront := by
  refine ⟨fun s c => rfl, fun s h => ?_⟩
  unfold step
  rw [h]

/-! ### Register fields -/

theorem fld_setFld (s : State) (off hi lo v : Nat) (h : lo ≤ hi) (h64 : hi < 64) :
    (s.setFld off hi lo v).fld off hi lo = v % 2 ^ (hi - lo + 1) := by
  rw [State.fld, reg_setFld, if_pos rfl, bits_putBits _ _ _ _ h h64]

/-- A field keeps what it held when another field is set, of its register or of another. -/
theorem fld_setFld_ne (s : State) (off hi lo v off' hi' lo' : Nat) (h : off' ≠ off ∨ hi' < lo ∨ hi < lo') (hl : lo ≤ hi) (hl' : lo' ≤ hi') :
    (s.setFld off hi lo v).fld off' hi' lo' = s.fld off' hi' lo' := by
  rw [State.fld, State.fld, reg_setFld]
  split
  next heq => subst heq; exact bits_putBits_ne _ _ _ _ _ _ (h.resolve_left (fun hne => hne rfl)) hl hl'
  next => rfl

theorem fld_setReg_ne (s : State) (off : Nat) (w : Word) (off' hi lo : Nat) (h : off' ≠ off) : (s.setReg off w).fld off' hi lo = s.fld off' hi lo := by
  rw [State.fld, State.fld, reg_setReg, if_neg h]

/-- A field is a function of the registers. -/
theorem fld_of_regs {s u : State} (h : u.regs = s.regs) (off hi lo : Nat) : u.fld off hi lo = s.fld off hi lo := by
  rw [State.fld, State.fld, State.reg, State.reg, h]

theorem bits_lt (w : Word) (hi lo : Nat) : bits w hi lo < 2 ^ (hi - lo + 1) := Nat.mod_lt _ (Nat.two_pow_pos _)

/-! ### Messages that arrive -/

/-- A message has been taken off the list of messages sent: that list and the routers' counters may differ, and nothing else. -/
def State.received (s u : State) : Prop := ∃ l v, u = { s with sent := l, pccVal := v }

theorem State.received.regs {s u : State} (h : s.received u) : u.regs = s.regs := by
  obtain ⟨l, v, rfl⟩ := h
  rfl

theorem State.received.events {s u : State} (h : s.received u) : u.events = s.events := by
  obtain ⟨l, v, rfl⟩ := h
  rfl

theorem received_refl (s : State) : s.received s := ⟨s.sent, s.pccVal, rfl⟩

theorem received_trans {a b c : State} (h : a.received b) (k : b.received c) : a.received c := by
  obtain ⟨l, v, rfl⟩ := h
  obtain ⟨m, w, rfl⟩ := k
  exact ⟨m, w, rfl⟩

theorem bump_received (s : State) (i j n : Nat) : s.received (s.bump i j n).1 := by
  unfold State.bump
  dsimp only
  split
  · exact ⟨s.sent, _, rfl⟩
  · split <;> exact ⟨s.sent, _, rfl⟩

theorem uncoreFrom_received (s : State) (base ev n : Nat) (realm : Option Nat) (i k : Nat) : s.received (s.uncoreFrom base ev n realm i k) := by
  induction k generalizing s i with
  | zero => exact received_refl s
  | succ k ih =>
    unfold State.uncoreFrom
    refine received_trans ?_ (ih _ _)
    split
    · exact bump_received _ _ _ _
    · exact received_refl s

theorem routerCount_received (s : State) (k ev n : Nat) : s.received (s.routerCount k ev n) := by
  unfold State.routerCount State.countUncore
  split
  · exact received_refl s
  · exact uncoreFrom_received _ _ _ _ _ _ _

theorem meshPassed_received (s : State) (h : Hdr) : s.received (s.meshPassed h) := by
  have hfold : ∀ (l : List Nat) (u : State), u.received (l.foldl (fun s k => s.routerCount k 0x01 1) u) := by
    intro l
    induction l with
    | nil => exact received_refl
    | cons k l ih => exact fun u => received_trans (routerCount_received u k 0x01 1) (ih _)
  unfold State.meshPassed
  split
  · exact received_refl s
  · exact hfold _ s

theorem delivered_received (s : State) (m : Msg) : s.received (s.delivered m) :=
  received_trans ⟨s.sent.erase m, s.pccVal, rfl⟩ (meshPassed_received _ _)

/-- The message that a command finds among those sent is taken off. -/
theorem firstDelivered_received (s : State) (o : Option Msg) : s.received (match o with | some m => s.delivered m | none => s) := by
  split
  · exact delivered_received _ _
  · exact received_refl s

theorem takeMgmt_received (s : State) (ty : MsgType) (p : Nat) : s.received (s.takeMgmt ty p) := by
  unfold State.takeMgmt
  split
  · exact delivered_received _ _
  · exact received_refl s

/-! ### Messages that leave, and records -/

theorem sendAll_eq (s : State) (ty : MsgType) (b : Body) (l : List Nat) :
    s.sendAll ty b l = { s with sent := s.sent ++ l.map (fun p => s.mgmt ty p b) } := by
  induction l generalizing s with
  | nil => simp [State.sendAll]
  | cons p l ih =>
    rw [State.sendAll, ih]
    simp [State.sendMgmt, State.send, State.mgmt, State.pkgNum, State.fld, State.reg]

/-- The state without what a record or a message may write. -/
def State.unnoted (s : State) : State :=
  { s with log := {}, events := [], sent := [], links := [], pccVal := [], regs := [], notice := {},
           image := { s.image with floods := [], floodSeq := 0 } }

/-- The registers that records write: the log's count of drops and the summary of errors. -/
def noteRegs : List Nat := [regTlgStatus, regGlbErrsum]

/-- Every register but those holds what it held. -/
def State.keepsRegs (s u : State) : Prop := ∀ off, off ∉ noteRegs → u.reg off = s.reg off

/-- Messages are on their way and records are written; nothing else differs. -/
def State.notes (s u : State) : Prop := u.unnoted = s.unnoted ∧ s.keepsRegs u

theorem notes_refl (s : State) : s.notes s := ⟨rfl, fun _ _ => rfl⟩

theorem notes_trans {a b c : State} (h : a.notes b) (k : b.notes c) : a.notes c :=
  ⟨k.1.trans h.1, fun off ho => (k.2 off ho).trans (h.2 off ho)⟩

/-- What both branches note, the choice notes. -/
theorem notes_ite {c : Prop} [Decidable c] {s t u : State} (ht : s.notes t) (hu : s.notes u) : s.notes (if c then t else u) := by
  split
  · exact ht
  · exact hu

section
variable {s u : State} (h : s.notes u)
include h

theorem State.notes.unnoted {α : Type} (f : State → α) : f u.unnoted = f s.unnoted := congrArg f h.1

theorem State.notes.unresolved : u.unresolved = s.unresolved := h.unnoted State.unresolved
theorem State.notes.clause : u.clause = s.clause := h.unnoted State.clause
theorem State.notes.phase : u.phase = s.phase := h.unnoted State.phase
theorem State.notes.counting : u.counting = s.counting := h.unnoted State.counting
theorem State.notes.alertN : u.alertN = s.alertN := h.unnoted State.alertN
theorem State.notes.mem : u.mem = s.mem := h.unnoted State.mem
theorem State.notes.epf : u.epf = s.epf := h.unnoted State.epf
theorem State.notes.ownerKeys : u.ownerKeys = s.ownerKeys := h.unnoted State.ownerKeys
theorem State.notes.sameMachine : s.sameMachine u := ⟨h.mem, h.unnoted State.threads, h.unnoted State.cores⟩
theorem State.notes.align : u.image.align = s.image.align := h.unnoted (fun x : State => x.image.align)
theorem State.notes.quiesce : u.image.quiesce = s.image.quiesce := h.unnoted (fun x : State => x.image.quiesce)
theorem State.notes.cutAt : u.image.cutAt = s.image.cutAt := h.unnoted (fun x : State => x.image.cutAt)
theorem State.notes.heardAt : u.image.heardAt = s.image.heardAt := h.unnoted (fun x : State => x.image.heardAt)
theorem State.notes.askAgain : u.image.askAgain = s.image.askAgain := h.unnoted (fun x : State => x.image.askAgain)
theorem State.notes.takeover : u.image.takeover = s.image.takeover := h.unnoted (fun x : State => x.image.takeover)
theorem State.notes.realignAsked : u.image.realignAsked = s.image.realignAsked := h.unnoted (fun x : State => x.image.realignAsked)
theorem State.notes.now16 : u.now16 = s.now16 := by rw [State.now16, State.now16, h.clause, h.phase]
theorem State.notes.heard : u.image.heard = s.image.heard := h.unnoted (fun x : State => x.image.heard)
theorem State.notes.regs : s.keepsRegs u := h.2

end

theorem sameMachine_trans {a b c : State} (h : a.sameMachine b) (k : b.sameMachine c) : a.sameMachine c :=
  ⟨k.1.trans h.1, k.2.1.trans h.2.1, k.2.2.trans h.2.2⟩

theorem keepsRegs_of_regs {s u : State} (h : u.regs = s.regs) : s.keepsRegs u := fun off _ => by rw [State.reg, State.reg, h]

theorem State.received.notes {s u : State} (h : s.received u) : s.notes u := by
  obtain ⟨l, v, rfl⟩ := h
  exact ⟨rfl, fun _ _ => rfl⟩

theorem setFld_notes (s : State) {off : Nat} (hi lo v : Nat) (h : off ∈ noteRegs) : s.notes (s.setFld off hi lo v) :=
  ⟨rfl, fun _ ho => reg_setFld_ne _ _ _ _ _ _ (fun e => ho (e ▸ h))⟩

theorem addFld_notes (s : State) {off : Nat} (hi lo n : Nat) (h : off ∈ noteRegs) : s.notes (s.addFld off hi lo n) := setFld_notes s _ _ _ h

theorem enqueueRec_notes (s : State) (q : QRec) : s.notes (s.enqueueRec q) :=
  notes_ite ⟨rfl, fun _ _ => rfl⟩
    (notes_trans (b := { s with log := { s.log with dropDue := true } }) ⟨rfl, fun _ _ => rfl⟩ (addFld_notes _ _ _ _ (by decide)))

theorem emitRank_notes (s : State) (rank die src code realm : Nat) (ps : List Nat) : s.notes (s.emitRank rank die src code realm ps) :=
  notes_ite ⟨rfl, fun _ _ => rfl⟩ (enqueueRec_notes _ _)

theorem emit_notes (s : State) (die src code realm : Nat) (ps : List Nat) : s.notes (s.emit die src code realm ps) := emitRank_notes _ _ _ _ _ _ _

theorem emitOrigin_notes (s : State) (origin : BitVec 16) (code realm : Nat) (ps : List Nat) : s.notes (s.emitOrigin origin code realm ps) :=
  notes_ite ⟨rfl, fun _ _ => rfl⟩ (enqueueRec_notes _ _)

theorem noticeDue_notes (s : State) (code realm : Nat) (origin : BitVec 16) (ue : Bool) : s.notes (s.noticeDue code realm origin ue) :=
  notes_ite ⟨rfl, fun _ _ => rfl⟩ (notes_refl s)

theorem ce_notes (s : State) (die src code realm : Nat) (ps : List Nat) : s.notes (s.ce die src code realm ps) := by
  unfold State.ce
  exact notes_trans (emit_notes s die src code realm ps) (notes_trans (addFld_notes _ _ _ _ (by decide)) (noticeDue_notes _ _ _ _ _))

theorem noteUe_notes (s : State) (code : Nat) : s.notes (s.noteUe code) := setFld_notes s _ _ _ (by decide)

theorem localEvent_notes (s : State) (kind : EventKind) (rank die src : Nat) : s.notes (s.localEvent kind rank die src) := ⟨rfl, fun _ _ => rfl⟩

theorem sendMgmt_notes (s : State) (ty : MsgType) (p : Nat) (b : Body) : s.notes (s.sendMgmt ty p b) := ⟨rfl, fun _ _ => rfl⟩

theorem sendAll_notes (s : State) (ty : MsgType) (b : Body) (l : List Nat) : s.notes (s.sendAll ty b l) := by
  rw [sendAll_eq]
  exact ⟨rfl, fun _ _ => rfl⟩

theorem queueOn_notes (s : State) (k : Pkt) (l : List Nat) : s.notes (s.queueOn k l) := by
  induction l generalizing s with
  | nil => exact notes_refl s
  | cons n l ih => exact notes_trans (b := s.modLink n _) ⟨rfl, fun _ _ => rfl⟩ (ih _)

theorem flood_notes (s : State) (m : Msg) : s.notes (s.flood m) := by
  unfold State.flood State.floodPkt
  exact notes_trans (b := { s with image := { s.image with floods := _, floodSeq := _ } }) ⟨rfl, fun _ _ => rfl⟩ (queueOn_notes _ _ _)

theorem floodMgmt_notes (s : State) (ty : MsgType) (b : Body) : s.notes (s.floodMgmt ty b) := flood_notes s _

theorem sendCtl_notes (s : State) (ty : MsgType) (p : Nat) (b : Body) : s.notes (s.sendCtl ty p b) :=
  notes_ite ⟨rfl, fun _ _ => rfl⟩ (flood_notes _ _)

theorem raiseEvent_notes (s : State) (kind : EventKind) (rank die src : Nat) : s.notes (s.raiseEvent kind rank die src) :=
  notes_ite ⟨rfl, fun _ _ => rfl⟩ (notes_ite (sendMgmt_notes _ _ _ _) (notes_refl s))

/-! ### Modes and the image, as functions of the registers -/

section
variable {s u : State} (h : s.keepsRegs u)
include h

theorem State.keepsRegs.fld {off : Nat} (ho : off ∉ noteRegs) (hi lo : Nat) : u.fld off hi lo = s.fld off hi lo := by
  rw [State.fld, State.fld, h off ho]
theorem State.keepsRegs.mode : u.mode = s.mode := h.fld (by decide) _ _
theorem State.keepsRegs.imageMode : u.imageMode = s.imageMode := h.fld (by decide) _ _
theorem State.keepsRegs.pkgNum : u.pkgNum = s.pkgNum := h.fld (by decide) _ _
theorem State.keepsRegs.managerNum : u.managerNum = s.managerNum := h.fld (by decide) _ _
theorem State.keepsRegs.silence : u.silence = s.silence := h.fld (by decide) _ _
theorem State.keepsRegs.joined : u.joined = s.joined := by rw [State.joined, State.joined, h.fld (by decide)]
theorem State.keepsRegs.timeSource : u.timeSource = s.timeSource := by rw [State.timeSource, State.timeSource, h.fld (by decide)]
theorem State.keepsRegs.isManager : u.isManager = s.isManager := by
  rw [State.isManager, State.isManager, h.timeSource, h.joined, h.managerNum, h.pkgNum]
theorem State.keepsRegs.isMember (p : Nat) : u.isMember p = s.isMember p := by
  rw [State.isMember, State.isMember, h.joined, h.fld (by decide)]
theorem State.keepsRegs.workersAsked : u.workersAsked = s.workersAsked := by
  have hmember : u.isMember = s.isMember := funext h.isMember
  rw [State.workersAsked, State.workersAsked, State.otherMembers, State.otherMembers, hmember, h.pkgNum, h.managerNum]
theorem State.keepsRegs.live (hl : s.live) : u.live := by rwa [State.live, h.mode]

end

theorem State.notes.mgmt {s u : State} (h : s.notes u) (ty : MsgType) (p : Nat) (b : Body) : u.mgmt ty p b = s.mgmt ty p b := by
  rw [State.mgmt, State.mgmt, h.regs.pkgNum, h.clause]

theorem State.notes.canQuiesce {s u : State} (h : s.notes u) : u.canQuiesce = s.canQuiesce := by
  rw [State.canQuiesce, State.canQuiesce, h.regs.isManager, h.regs.joined, h.quiesce, h.takeover, h.regs.imageMode]

/-! ### Reading instructions (R43, R84, R93, R94, R134) -/

/-- An instruction that updates its thread and retires, where the update leaves pc and delay slot. -/
theorem finish_spec (s : State) (t : Nat) (f : Thread → Thread) (h : (f (s.thread t)).nextPc = (s.thread t).nextPc) :
    s.onlyThread (s.finish t f) t ∧ ((s.finish t f).thread t).special = (f (s.thread t)).special ∧
      (∀ r, ((s.finish t f).thread t).gpr r = (f (s.thread t)).gpr r) ∧ ((s.finish t f).thread t).goesTo (s.thread t).nextPc none := by
  have hf : (s.modThread t f).thread t = f (s.thread t) := modThread_thread_self s t f
  obtain ⟨⟨honly, hspecial⟩, hgpr, hgoes⟩ := retireTo_spec (s.modThread t f) t ((s.modThread t f).thread t).nextPc none
  rw [hf] at honly hspecial hgoes
  simp only [hf] at hgpr
  rw [State.finish, State.retire, hf]
  exact ⟨onlyThread_trans (onlyThread_modThread s t f) honly, hspecial, hgpr, h ▸ hgoes⟩

/-- Settles O22: each instruction ends by `finish` or `retire` on the state after its fetch. -/
theorem readingInstructions : Obligations.ReadingInstructions := by
  intro t rd n m s s' hs x
  have hrun (f : State → State) : onThread s t.val none f = .next (f s') := onThread_starts s s' t.val none f hs
  refine ⟨⟨_, hrun _, finish_computes ..⟩, ⟨_, hrun _, retireTo_jumps ..⟩, fun h => ?_, fun h => ?_, fun h => ?_, fun hm hl => ?_, fun hm => ?_,
    fun hl => ?_⟩
  · refine ⟨_, hrun _, ?_⟩
    simp only [show ctlAccess n.toNat (s'.thread t.val).level = .open from h]
    exact finish_computes ..
  · rw [exec_mfc, execMfc, hrun]
    simp only [show ctlAccess n.toNat (s'.thread t.val).level = .unassigned from h]
  · rw [exec_mfc, execMfc, hrun]
    simp only [show ctlAccess n.toNat (s'.thread t.val).level = .closed from h]
  · refine ⟨_, hrun _, ?_⟩
    simp only
    rw [if_neg (by omega), if_neg (fun h => absurd (show x.level = 0 from h.1) (by omega))]
    exact finish_computes ..
  · rw [exec_pcrd, execPcrd, hrun]
    simp only
    rw [if_pos hm]
  · refine ⟨_, hrun _, ?_⟩
    simp only
    rw [if_neg (show ¬ x.level < 1 by omega), if_neg (by simp)]
    obtain ⟨honly, hspecial, hgpr, hgoes⟩ := finish_spec s' t.val (fun y => y.clearRet) rfl
    exact ⟨honly, congrArg Thread.rtop hspecial, congrArg Thread.rstack hspecial, hgpr, hgoes⟩

/-! ### The resolution of a clause with one event (R27 to R31, R38, R40) -/

theorem resolveClause_of_nil {s : State} (h : s.events = []) : s.resolveClause = s := by
  unfold State.resolveClause State.firstClause
  rw [h]
  rfl

theorem firstClause_single {s : State} {e : Event} (h : s.events = [e]) : s.firstClause = some e.clause := by
  rw [State.firstClause, h]
  rfl

theorem resolveClause_early {s : State} {e : Event} (h : s.events = [e]) (hc : s.clause.toNat < e.clause.toNat + s.horizon) :
    s.resolveClause = s := by
  unfold State.resolveClause
  rw [firstClause_single h]
  exact if_pos hc

/-- The clause of its only event is resolved: no event waits, and the next clause is open. -/
def State.closedWith (s : State) (e : Event) : State := { s with events := [], unresolved := e.clause + 1 }

theorem resolveClause_single {s : State} {e : Event} (h : s.events = [e]) (hc : e.clause.toNat + s.horizon ≤ s.clause.toNat) :
    s.resolveClause = (s.closedWith e).resolveAll false [e] := by
  unfold State.resolveClause
  rw [firstClause_single h]
  simp [h, Nat.not_lt.2 hc, State.closedWith, sortEvents, insertEvent]

/-- A package acts on its own event, wherever it stands in the image (R351). -/
theorem resolveClause_own {s : State} {e : Event} (h : s.events = [e]) (hr : e.recs = []) (hc : e.clause.toNat + s.horizon ≤ s.clause.toNat)
    (ho : ownKind e.kind = true) : s.resolveClause = ((s.closedWith e).actOn e).1 := by
  rw [resolveClause_single h hc, State.resolveAll, hr, State.enqueueAll]
  simp [ho, State.resolveAll]

/-- An event that only leaves its record leaves it in the input queue. -/
theorem resolveClause_record {s : State} {e : Event} {r : Rec} (h : s.events = [e]) (hr : e.recs = [r])
    (hc : e.clause.toNat + s.horizon ≤ s.clause.toNat) (hk : e.kind = .record) :
    s.resolveClause = (s.closedWith e).enqueueRec { proc := e.clause, rank := e.rank, r := r } := by
  rw [resolveClause_single h hc, State.resolveAll, hr, State.enqueueAll, State.enqueueAll]
  split
  next u d heq =>
    have hu : u = (s.closedWith e).enqueueRec { proc := e.clause, rank := e.rank, r := r } := by
      split at heq
      · exact (congrArg Prod.fst heq).symm
      · rw [State.actOn, hk] at heq
        exact (congrArg Prod.fst heq).symm
    rw [State.resolveAll, hu]

theorem exec_clauseResolution_of {s u : State} (h : s.resolveClause = u) : exec .clauseResolution s = .next u := congrArg Host.Outcome.next h

/-- Settles O40: nothing is resolved before the horizon; after it, the record of the clause's only event enters the queue. -/
theorem clauseResolves : Obligations.ClauseResolves := by
  intro e r s
  refine ⟨fun h => exec_clauseResolution_of (resolveClause_of_nil h), fun h hc => exec_clauseResolution_of (resolveClause_early h hc),
    fun h hc hk hr hq => ?_⟩
  refine ⟨_, exec_clauseResolution_of (resolveClause_record h hr hc hk), ?_⟩
  rw [State.enqueueRec, if_pos (show (s.closedWith e).log.queue.length < 4096 from hq)]
  exact ⟨rfl, rfl, ⟨rfl, rfl, rfl⟩, rfl⟩

/-! ### Mode entry and halting (R558, R574, R608) -/

/-- The registers of mode entry. -/
def modeRegs : List Nat := [regGlbMode, regGlbModetime]

theorem enterMode_notes (s : State) (new trans : Nat) :
    ((s.setReg regGlbMode (putBits (putBits (putBits (s.reg regGlbMode) 3 0 new) 11 8 s.mode) 23 16 trans)).setReg regGlbModetime
      s.clause).notes (s.enterMode new trans) := emit_notes _ _ _ _ _ _

theorem enterMode_sameMachine (s : State) (new trans : Nat) : s.sameMachine (s.enterMode new trans) := (enterMode_notes s new trans).sameMachine

theorem enterMode_reg (s : State) (new trans : Nat) {off : Nat} (ho : off ∉ noteRegs) (hm : off ∉ modeRegs) :
    (s.enterMode new trans).reg off = s.reg off := by
  have hne : off ≠ regGlbMode ∧ off ≠ regGlbModetime := by simpa [modeRegs] using hm
  rw [(enterMode_notes s new trans).2 off ho, reg_setReg, if_neg hne.2, reg_setReg, if_neg hne.1]

theorem enterMode_entersMode (s : State) (new trans : Nat) (hn : new < 16) (ht : trans < 256) : s.entersMode (s.enterMode new trans) new trans := by
  have hmode : s.mode < 16 := bits_lt _ 3 0
  refine ⟨(enterMode_mode s new trans).trans (Nat.mod_eq_of_lt hn), ?_, ?_, ?_⟩
  · rw [(enterMode_notes s new trans).regs.fld (by decide), State.fld, reg_setReg, if_neg (by decide), reg_setReg, if_pos rfl,
      bits_putBits_ne _ _ _ _ _ _ (by decide) (by decide) (by decide), bits_putBits _ _ _ _ (by decide) (by decide)]
    exact Nat.mod_eq_of_lt hmode
  · rw [(enterMode_notes s new trans).regs.fld (by decide), State.fld, reg_setReg, if_neg (by decide), reg_setReg, if_pos rfl,
      bits_putBits _ _ _ _ (by decide) (by decide)]
    exact Nat.mod_eq_of_lt ht
  · rw [(enterMode_notes s new trans).2 _ (by decide), reg_setReg, if_pos rfl]

/-- A package that is live halts by a UE-P; what is not of the caches, the mode or the record stays. -/
theorem ueP_live (s : State) (die src code realm : Nat) (ps : List Nat) (h : s.live) :
    s.halts (s.ueP die src code realm ps) ∧ (s.ueP die src code realm ps).counting = s.counting ∧
      ∀ off, off ∉ noteRegs → off ∉ modeRegs → (s.ueP die src code realm ps).reg off = s.reg off := by
  refine ⟨⟨ueP_mode _ _ _ _ _ _ h.1, ?_, ueP_mem ..⟩, ?_⟩
  all_goals
    unfold State.ueP
    extract_lets t c m k
    have ht : s.notes t := notes_trans (emit_notes s die src code realm ps) (noteUe_notes _ code)
    obtain ⟨hstandby, hhalt⟩ := ht.regs.live h
    rw [if_neg (show ¬(t.mode = modeHalt ∨ t.mode ≤ modeStandby) by omega)]
    have hr := raiseEvent_notes k (.ueP (BitVec.ofNat 16 code)) 2 die src
  · exact hr.alertN
  · refine ⟨hr.counting.trans ?_, fun off ho hm => (hr.2 off ho).trans ?_⟩
    · exact (enterMode_notes c modeHalt 18).counting.trans ht.counting
    · exact (enterMode_reg c modeHalt 18 ho hm).trans (ht.2 off ho)

theorem haltHeld_live (s : State) (h : s.live) : s.halts s.haltHeld ∧ s.sameMachine s.haltHeld := by
  obtain ⟨hstandby, hhalt⟩ := h
  rw [State.haltHeld, if_neg (by omega)]
  have hm := enterMode_sameMachine s modeHalt 18
  exact ⟨⟨enterMode_mode s modeHalt 18, rfl, hm.1⟩, hm⟩

/-! ### The clause clock (R21, R33 to R36, R46, R47) -/

theorem startExchange_notes (s : State) (a : Align) :
    ({ s with image := { s.image with align := some { a with xid := a.xid + 1, t1 := s.now16 } } } : State).notes (s.startExchange a) :=
  sendCtl_notes _ _ _ _

theorem startExchange_spec (s : State) (a : Align) :
    s.sameMachine (s.startExchange a) ∧ (s.startExchange a).image.align = some { a with xid := a.xid + 1, t1 := s.now16 } :=
  ⟨(startExchange_notes s a).sameMachine, (startExchange_notes s a).align⟩

theorem beginQuiesce_notes (s : State) (why : Purpose) (cmd : Option Command) :
    ({ s with image := { s.image with
        cutAt := some (s.clause + BitVec.ofNat 64 (s.fld regGlbQuiescectl 7 0)), cutReported := false,
        quiesce := some { purpose := why, cmd := cmd, cut := s.clause + BitVec.ofNat 64 (s.fld regGlbQuiescectl 7 0),
                          waiting := (s.pkgNum :: s.otherMembers).filter (fun p => decide (why ≠ .leave p)) } } } : State).notes
      (s.beginQuiesce why cmd) := sendAll_notes _ _ _ _

theorem canQuiesce_iff (s : State) : s.canQuiesce = true ↔ s.isManager = true ∧ s.joined = true ∧ s.image.quiesce = none ∧
    s.image.takeover = none ∧ (s.imageMode = modeRunI ∨ s.imageMode = modeRunS) := by
  simp [State.canQuiesce, and_assoc]

/-- The workers whose realignment waits. -/
def State.setAsked (s : State) (l : List (Nat × BitVec 16)) : State := { s with image := { s.image with realignAsked := l } }

/-- A manager that runs no QUIESCE notes the worker that asks for a realignment. -/
theorem realignImage_free (s : State) (p : Nat) (off : BitVec 16) (hq : s.canQuiesce = true) (ha : s.image.realignAsked = [])
    (hm : s.isMember p = true) : s.realignImage p off = s.setAsked [(p, off)] := by
  obtain ⟨hmgr, -, hnone, -, -⟩ := (canQuiesce_iff s).1 hq
  rw [State.realignImage, if_neg (by simp [hmgr, hm])]
  simp [hnone, ha, State.setAsked]

/-- The realignment of the one worker that has asked begins with a cut (R47 step 1). -/
theorem realignTick_single (s : State) (p : Nat) (off : BitVec 16) (hq : s.canQuiesce = true) (ha : s.image.realignAsked = [(p, off)])
    (hm : s.isMember p = true) : s.realignTick =
      ((s.setAsked []).realignRecord p off).beginQuiesce (.realign [p]) none := by
  rw [State.realignTick, if_neg (by simp [ha, hq])]
  simp [ha, hm, State.realignRecords, State.setAsked]

/-- The manager answers with its time (R33, R35). -/
theorem execSyncReq_answers (s : State) (p : Pkg) (xid : BitVec 12) (retx : Bool) (turn : BitVec 16) (ht : s.timeSource = true)
    (hj : s.joined = true) : Ends (.syncReq p xid retx turn) s (fun u => s.sameMachine u ∧
      u.sent = (s.takeMgmt .syncReq p.toNat).sent ++
        [s.mgmt .syncRsp p.toNat (.words [xid.zeroExtend 64, BitVec.ofNat 64 (b2n retx), BitVec.ofNat 64 s.now16, turn.zeroExtend 64])]) := by
  rw [Ends, exec_syncReq]
  unfold execSyncReq
  extract_lets v
  have hv : s.notes v := (takeMgmt_received _ _ _).notes
  rw [if_pos (hv.regs.timeSource.trans ht), State.sendCtl, if_pos (hv.regs.joined.trans hj), ← hv.mgmt, ← hv.now16]
  exact ⟨_, rfl, hv.sameMachine, rfl⟩

/-- An answer that is not the last starts the next exchange (R33, R34). -/
theorem execSyncRsp_continues (s : State) (xid : BitVec 12) (retx : Bool) (tm : Nat) (turn : BitVec 16) (a : Align)
    (ha : s.image.align = some a) (hx : a.xid = xid) (hp : a.paused = false) (hl : 2 ≤ a.left) :
    Ends (.syncRsp xid retx tm turn) s (fun u => s.sameMachine u ∧
      ∃ x, u.image.align = some x ∧ x.left = a.left - 1 ∧ x.xid = a.xid + 1 ∧ x.t1 = s.now16 ∧ (retx = true → x.best = a.best)) := by
  rw [Ends, exec_syncRsp]
  unfold execSyncRsp
  extract_lets v
  have hv : s.notes v := (takeMgmt_received _ _ _).notes
  rw [hv.align.trans ha]
  dsimp -zeta only
  extract_lets rtt o b
  rw [if_neg (by simp [hx, hp]), if_neg (by simp only [b]; omega)]
  obtain ⟨hsame, halign⟩ := startExchange_spec v b
  exact ⟨_, rfl, sameMachine_trans hv.sameMachine hsame, _, halign, rfl, rfl, hv.now16, fun h => if_pos h⟩

/-- The epoch starts a worker's alignment in JOIN (R33 steps 2 and 3). -/
theorem execEpoch_joins (s : State) (v : Word) (hm : s.isManager = false) (hj : s.mode = modeJoin) :
    Ends (.epoch v) s (fun u => s.sameMachine u ∧ u.image.align = some { realign := s.joined, xid := 1, t1 := s.now16 }) := by
  rw [Ends, exec_epoch]
  unfold execEpoch
  extract_lets u
  have hu : s.received u := firstDelivered_received s _
  have hn := hu.notes
  rw [if_neg (by simp [hn.regs.isManager, hm]), if_pos (.inl (hn.regs.mode.trans hj))]
  obtain ⟨hsame, halign⟩ := startExchange_spec u { realign := u.joined }
  refine ⟨_, rfl, sameMachine_trans hn.sameMachine hsame, halign.trans ?_⟩
  rw [hn.regs.joined, hn.now16]
  rfl

/-- The manager realigns a member through QUIESCE (R46, R47). -/
theorem execClauseRealign_cuts (s : State) (p : Pkg) (off : BitVec 16) (hq : s.canQuiesce = true) (ha : s.image.realignAsked = [])
    (hm : s.isMember p.toNat = true) : Ends (.clauseRealign p off) s (fun u => s.sameMachine u ∧
      u.image.cutAt = some (s.clause + BitVec.ofNat 64 (s.fld regGlbQuiescectl 7 0)) ∧
      ∃ z, u.image.quiesce = some z ∧ z.purpose = .realign [p.toNat] ∧ z.complete = false) := by
  rw [Ends, exec_clauseRealign]
  unfold execClauseRealign
  extract_lets v
  have hv : s.notes v := (firstDelivered_received s _).notes
  have hq' : v.canQuiesce = true := hv.canQuiesce.trans hq
  have hm' : v.isMember p.toNat = true := (hv.regs.isMember _).trans hm
  rw [realignImage_free v p.toNat off hq' (hv.realignAsked.trans ha) hm', realignTick_single (v.setAsked [(p.toNat, off)]) p.toNat off hq' rfl hm']
  have hr := emit_notes ((v.setAsked [(p.toNat, off)]).setAsked []) 12 87 0x00C0 0 [p.toNat, bits (sextNat 16 off.toNat) 31 0]
  have hb := beginQuiesce_notes (((v.setAsked [(p.toNat, off)]).setAsked []).realignRecord p.toNat off) (.realign [p.toNat]) none
  refine ⟨_, rfl, sameMachine_trans hv.sameMachine (sameMachine_trans hr.sameMachine hb.sameMachine), hb.cutAt.trans ?_, _, hb.quiesce, rfl, rfl⟩
  have hc := hr.clause.trans hv.clause
  have hf := (hr.regs.fld (off := regGlbQuiescectl) (by decide) 7 0).trans (hv.regs.fld (by decide) 7 0)
  exact congrArg some (congrArg₂ (fun c n => c + BitVec.ofNat 64 n) hc hf)

/-! ### Drift correction (R36, R46, R50) -/

/-- CLK.SYNCSTAT of an exchange whose round trip fits its field. -/
theorem setSyncstat_fields (s : State) (b : Int × Int) (h : b.1 < 65536) : (s.setSyncstat b).fld regClkSyncstat 47 32 = b.1.toNat ∧
    (s.setSyncstat b).fld regClkSyncstat 15 0 = (wordOfInt b.2).toNat % 2 ^ 16 := by
  have hsat : satTo 65535 b.1.toNat = b.1.toNat := if_pos (by omega)
  refine ⟨?_, fld_setFld _ _ _ _ _ (by decide) (by decide)⟩
  rw [State.setSyncstat, hsat, fld_setFld_ne _ _ _ _ _ _ _ _ (by decide) (by decide) (by decide), fld_setFld _ _ _ _ _ (by decide) (by decide)]
  exact Nat.mod_eq_of_lt (by omega)

/-- A member with its clock locked corrects its drift. -/
theorem execDriftCorrection_runs (s : State) (hj : s.joined = true) (hm : s.isManager = false) (hh : s.mode ≠ modeHalt)
    (hlock : s.fld regClkStatus 0 0 = 1) : ¬(!s.joined ∨ s.isManager ∨ s.mode = modeHalt ∨ s.fld regClkStatus 0 0 = 0) := by
  simp [hj, hm, hh, hlock]

theorem b2n_within (off : Int) (n : Nat) : b2n (within off n) = if off.natAbs ≤ 16 * n then 1 else 0 := by
  unfold b2n within
  split <;> simp_all

/-- CLK.SYNCSTAT and CLK.STATUS after a correction by the exchange `b`. -/
def State.corrected (s : State) (b : Int × Int) : State :=
  ((s.setSyncstat b).setFld regClkStatus 11 8 0).setFld regClkStatus 2 2 (b2n (within b.2 1))

theorem corrected_fields (s : State) (b : Int × Int) (h : b.1 < 65536) : (s.corrected b).fld regClkStatus 11 8 = 0 ∧
    (s.corrected b).fld regClkStatus 2 2 = (if b.2.natAbs ≤ 16 then 1 else 0) ∧ (s.corrected b).fld regClkSyncstat 47 32 = b.1.toNat ∧
    (s.corrected b).fld regClkSyncstat 15 0 = (wordOfInt b.2).toNat % 2 ^ 16 := by
  obtain ⟨htrip, hoffset⟩ := setSyncstat_fields s b h
  unfold State.corrected
  simp (disch := decide) only [fld_setFld_ne, fld_setFld]
  refine ⟨rfl, ?_, htrip, hoffset⟩
  rw [b2n_within]
  split <;> rfl

theorem execDriftCorrection_slews (s : State) (xs : List Exchange) (b : Int × Int) (hj : s.joined = true) (hm : s.isManager = false)
    (hh : s.mode ≠ modeHalt) (hlock : s.fld regClkStatus 0 0 = 1) (hb : bestExchange xs = some b) (hoff : b.2.natAbs < 32) (hrtt : b.1 < 65536) :
    Ends (.driftCorrection xs) s (fun u => u.image.slew = b.2 ∧ u.fld regClkStatus 11 8 = 0 ∧
      u.fld regClkStatus 2 2 = (if b.2.natAbs ≤ 16 then 1 else 0) ∧ u.fld regClkSyncstat 47 32 = b.1.toNat ∧
      u.fld regClkSyncstat 15 0 = (wordOfInt b.2).toNat % 2 ^ 16 ∧ u.clause = s.clause ∧ s.sameMachine u) := by
  rw [Ends, exec_driftCorrection]
  unfold execDriftCorrection
  rw [if_neg (execDriftCorrection_runs s hj hm hh hlock), hb]
  dsimp -zeta only
  extract_lets c a t m u
  have h8 : within b.2 8 = true := decide_eq_true (by omega)
  rw [if_neg (by simp [h8]), if_neg (by omega)]
  obtain ⟨rate, ht⟩ : ∃ rate, t = (a.setFld regClkTrim 31 0 rate).spendFree := ⟨_, rfl⟩
  clear_value t
  have hfld {off : Nat} (hi lo : Nat) (hne : off ≠ regClkTrim) : u.fld off hi lo = (s.corrected b).fld off hi lo :=
    (fld_of_regs (ht ▸ spendFree_regs _) off hi lo).trans (congrArg (fun w => bits w hi lo) (reg_setFld_ne a _ _ _ _ _ hne))
  have hsame : s.sameMachine t := ht ▸ ⟨rfl, rfl, rfl⟩
  have hclause : t.clause = s.clause := ht ▸ rfl
  obtain ⟨hcount, haligned, htrip, hoffset⟩ := corrected_fields s b hrtt
  exact ⟨u, rfl, rfl, (hfld _ _ (by decide)).trans hcount, (hfld _ _ (by decide)).trans haligned, (hfld _ _ (by decide)).trans htrip,
    (hfld _ _ (by decide)).trans hoffset, hclause, hsame⟩

/-- A correction without a usable exchange counts as missed; the fourth is a CE, the eighth asks for a realignment. -/
theorem execDriftCorrection_misses (s : State) (xs : List Exchange) (hj : s.joined = true) (hm : s.isManager = false) (hh : s.mode ≠ modeHalt)
    (hlock : s.fld regClkStatus 0 0 = 1) (hb : bestExchange xs = none) (hk : s.fld regClkStatus 11 8 < 8) :
    Ends (.driftCorrection xs) s (fun u => u.fld regClkStatus 11 8 = s.fld regClkStatus 11 8 + 1 ∧ u.clause = s.clause ∧ s.sameMachine u) := by
  rw [Ends, exec_driftCorrection, execDriftCorrection, if_neg (execDriftCorrection_runs s hj hm hh hlock), hb]
  dsimp -zeta only
  extract_lets k c e
  have hkv : k = s.fld regClkStatus 11 8 + 1 := if_pos (by omega)
  have he : c.notes e := notes_ite (ce_notes _ _ _ _ _ _) (notes_refl c)
  have hu := notes_trans he (notes_ite (c := k = 8) (sendMgmt_notes e .event e.managerNum (.report (.realign (BitVec.ofInt 16 0)))) (notes_refl e))
  refine ⟨_, rfl, (hu.regs.fld (by decide) _ _).trans ?_, hu.clause, hu.sameMachine⟩
  rw [fld_setFld _ _ _ _ _ (by decide) (by decide), hkv]
  exact Nat.mod_eq_of_lt (by omega)

theorem execClauseLockLoss_halts (s : State) (hlock : s.fld regClkStatus 0 0 = 1) (hl : s.live) :
    Ends .clauseLockLoss s (fun u => s.halts u ∧ u.fld regClkStatus 0 0 = 0 ∧ u.counting = s.counting) := by
  rw [Ends, exec_clauseLockLoss, execClauseLockLoss, if_pos hlock]
  extract_lets w m v
  have hlive : (v.setFld regClkStatus 0 0 0).live := by
    rw [State.live, State.mode, fld_setFld_ne _ _ _ _ _ _ _ _ (by decide) (by decide) (by decide)]
    exact hl
  obtain ⟨⟨hmode, halert, hmem⟩, hcount, hreg⟩ := ueP_live _ 12 87 0x50C0 0 [w] hlive
  refine ⟨_, rfl, ⟨hmode, halert, hmem⟩, ?_, hcount⟩
  rw [State.fld, hreg _ (by decide) (by decide)]
  exact fld_setFld _ _ _ _ _ (by decide) (by decide)

/-- Settles O38: a rule of the clause unit to each clause. -/
theorem clauseClock : Obligations.ClauseClock := by
  refine ⟨fun p xid retx turn off tm v a s => ⟨fun h => ?_, fun h => ?_, fun hlock hl => execClauseLockLoss_halts s hlock hl, fun h => ?_,
    fun ht hj => execSyncReq_answers s p xid retx turn ht hj, fun ha hx hp hl => execSyncRsp_continues s xid retx tm turn a ha hx hp hl,
    fun hm hj => execEpoch_joins s v hm hj, fun hq ha hm => execClauseRealign_cuts s p off hq ha hm⟩, fun xs b s hj hm hh => ⟨?_, ?_, fun h => ?_⟩⟩
  · exact ⟨_, if_pos h, rfl, fld_setFld _ _ _ _ _ (by decide) (by decide), rfl, rfl, rfl, rfl⟩
  · exact if_neg h
  · exact if_neg (by omega)
  · exact fun hlock hb hoff _ hrtt => execDriftCorrection_slews s xs b hj hm hh hlock hb hoff hrtt
  · exact fun hlock hb hk => execDriftCorrection_misses s xs hj hm hh hlock hb hk
  · exact if_pos (.inr (.inr (.inr h)))

/-! ### The watch over the manager (R349 to R353, R609) -/

theorem execHeartbeatPeriod_sends (s : State) (hm : s.isManager = true) (hj : s.joined = true) (hh : s.mode ≠ modeHalt) :
    Ends .heartbeatPeriod s (fun u => s.sameMachine u ∧ u.regs = s.regs ∧
      u.sent = s.sent ++ s.otherMembers.map (fun p => s.mgmt .heartbeat p .none)) := by
  rw [Ends, exec_heartbeatPeriod, execHeartbeatPeriod, if_pos ⟨hm, hj, hh⟩, sendAll_eq]
  exact ⟨_, rfl, ⟨rfl, rfl, rfl⟩, rfl, rfl⟩

theorem execHeartbeat_restarts (s : State) (p : Pkg) (hj : s.joined = true) (hp : p.toNat = s.managerNum) :
    Ends (.heartbeat p) s (fun u => u.silence = 0 ∧ s.sameMachine u) := by
  rw [Ends, exec_heartbeat]
  unfold execHeartbeat
  extract_lets v
  have hv : s.notes v := (takeMgmt_received _ _ _).notes
  rw [if_pos ⟨hv.regs.joined.trans hj, hp.trans hv.regs.managerNum.symm⟩]
  exact ⟨_, rfl, fld_setFld v regTrlHeartbeat 31 0 0 (by decide) (by decide), hv.sameMachine⟩

theorem execStandbySilenceLimit_asks (s : State) (hs : s.isStandby = true) (ha : s.image.askAgain ≤ s.silence) (hn : s.image.heardAt = none) :
    Ends .standbySilenceLimit s (fun u => u.image.heardAt = some s.clause ∧ s.sameMachine u ∧
      u.sent = s.sent ++ s.workersAsked.map (fun p => s.mgmt .heardReq p .none)) := by
  rw [Ends, exec_standbySilenceLimit, execStandbySilenceLimit, if_pos ⟨hs, ha, hn⟩, sendAll_eq]
  exact ⟨_, rfl, rfl, ⟨rfl, rfl, rfl⟩, rfl⟩

theorem execHeardReq_answers (s : State) (p : Pkg) (hj : s.joined = true) : Ends (.heardReq p) s (fun u => s.sameMachine u ∧
    u.sent = (s.takeMgmt .heardReq p.toNat).sent ++ [s.mgmt .heardRsp p.toNat (.value (BitVec.ofNat 64 s.silence))]) := by
  rw [Ends, exec_heardReq]
  unfold execHeardReq
  extract_lets v
  have hv : s.notes v := (takeMgmt_received _ _ _).notes
  rw [if_pos (hv.regs.joined.trans hj), ← hv.mgmt, ← hv.regs.silence]
  exact ⟨_, rfl, hv.sameMachine, rfl⟩

/-! #### The standby's decision (R350) -/

/-- A worker that has heard the manager within 2 ms keeps it in office. -/
theorem decideTakeover_heard (s : State) (h : s.image.heard.any (fun p => decide (p.2 < 500000)) = true) :
    ({ s with image := { s.image with heardAt := none, heard := [], askAgain := s.silence + 2500000 } } : State).notes s.decideTakeover := by
  rw [State.decideTakeover]
  simp only
  rw [if_pos h]
  exact emit_notes _ _ _ _ _ _

/-- Without a worker's word, but with a route to the manager, the loss of the manager is an event of rank 6. -/
theorem decideTakeover_lost (s : State) (h : s.image.heard = [])
    (hr : s.upOctets.any (fun n => bit (s.reg (regTrlRoute s.managerNum)) n) = true) : s.decideTakeover =
      ({ s with image := { s.image with heardAt := none, heard := [], askAgain := s.silence + 2500000 } } : State).localEvent .takeover 6 12 81 := by
  rw [State.decideTakeover]
  simp only
  rw [if_neg (by simp [h]), if_pos hr]

theorem execHeardRsp_keeps (s : State) (p : Pkg) (silence : BitVec 32) (c : Word) (ha : s.image.heardAt = some c) (hh : s.image.heard = [])
    (hw : s.workersAsked = [p.toNat]) (hs : silence.toNat < 500000) :
    Ends (.heardRsp p silence) s (fun u => u.image.heardAt = none ∧ u.image.askAgain = s.silence + 2500000 ∧ u.managerNum = s.managerNum ∧
      s.sameMachine u) := by
  rw [Ends, exec_heardRsp]
  unfold execHeardRsp
  extract_lets v heard im w
  have hv : s.notes v := (takeMgmt_received _ _ _).notes
  have hheard : heard = [(p.toNat, silence.toNat)] := by simp only [heard, hv.heard, hh, List.filter_nil]
  have hasked : w.workersAsked = [p.toNat] := hv.regs.workersAsked.trans hw
  rw [if_neg (by rw [hv.heardAt, ha]; simp), if_pos (by simp [hasked, hheard])]
  have hd := decideTakeover_heard w (by simp [w, hheard, hs])
  refine ⟨_, rfl, hd.heardAt, hd.askAgain.trans ?_, hd.regs.managerNum.trans hv.regs.managerNum, sameMachine_trans hv.sameMachine hd.sameMachine⟩
  exact congrArg (· + 2500000) hv.regs.silence

theorem execHeardTimeout_late (s : State) (c : Word) (ha : s.image.heardAt = some c) (hc : c.toNat + 250000 ≤ s.clause.toNat) :
    exec .heardTimeout s = .next s.decideTakeover := by
  rw [exec_heardTimeout, execHeardTimeout, ha]
  exact if_pos hc

theorem execHeardTimeout_early (s : State) (c : Word) (ha : s.image.heardAt = some c) (hc : s.clause.toNat < c.toNat + 250000) :
    exec .heardTimeout s = .next s := by
  rw [exec_heardTimeout, execHeardTimeout, ha]
  exact if_neg (by omega)

/-! #### The takeover (R351) -/

/-- What a takeover writes on every member, and what it leaves (R351 step 1). -/
theorem takeoverMember_spec (s : State) (new : Nat) (h : new < 32) :
    (s.takeoverMember new).managerNum = new ∧ (s.takeoverMember new).silence = 0 ∧ (s.takeoverMember new).fld regTrlImage 22 22 = 0 ∧
      (s.takeoverMember new).pkgNum = s.pkgNum ∧ (s.takeoverMember new).joined = s.joined ∧
      (s.takeoverMember new).timeSource = s.timeSource ∧ (s.takeoverMember new).mode = s.mode ∧
      (s.takeoverMember new).imageMode = s.imageMode := by
  unfold State.takeoverMember
  refine ⟨?_, ?_, ?_, ?_, ?_, ?_, ?_, ?_⟩
  all_goals simp (disch := decide) only [State.managerNum, State.silence, State.pkgNum, State.joined, State.timeSource, State.mode, State.imageMode,
    fld_setFld_ne, fld_setFld, Nat.zero_mod]
  exact Nat.mod_eq_of_lt h

/-- The takeover's completion is a record, and the mark of the takeover goes (R351 step 5). -/
theorem endTakeover_spec (s : State) : s.sameMachine s.endTakeover ∧ s.keepsRegs s.endTakeover := by
  unfold State.endTakeover
  split
  next old sil _ =>
    have h := emit_notes s 12 82 0x0094 0 [old, s.pkgNum, sil]
    exact ⟨h.sameMachine, h.regs⟩
  next => exact ⟨⟨rfl, rfl, rfl⟩, fun _ _ => rfl⟩

/-- Package `n` is the manager by a takeover: what its registers show (R49, R50, R351). -/
def State.leads (s : State) (n : Nat) : Prop :=
  s.managerNum = n ∧ s.pkgNum = n ∧ s.joined = true ∧ s.silence = 0 ∧ s.fld regClkStatus 2 2 = 1 ∧ s.reg regClkSyncstat = 0 ∧
    s.fld regTrlImage 22 22 = 0

theorem State.leads.isManager {s : State} {n : Nat} (h : s.leads n) : s.isManager = true := by
  obtain ⟨hmanager, hnum, hjoined, -⟩ := h
  simp [State.isManager, hmanager, hnum, hjoined]

theorem State.keepsRegs.leads {s u : State} (h : s.keepsRegs u) {n : Nat} (hn : s.leads n) : u.leads n := by
  rwa [State.leads, h.managerNum, h.pkgNum, h.joined, h.silence, h.fld (by decide), h regClkSyncstat (by decide), h.fld (by decide)]

/-- Becoming the time source leaves the rest of what a manager shows. -/
theorem leads_setTimeSource {s : State} {n : Nat} (h : s.leads n) : (s.setFld regClkStatus 3 3 1).leads n := by
  unfold State.leads at h ⊢
  simpa (disch := decide) only [State.managerNum, State.silence, State.pkgNum, State.joined, fld_setFld_ne, reg_setFld_ne] using h

/-- The standby's registers once it is the manager. -/
def State.claimed (s : State) : State := ((s.takeoverMember s.pkgNum).setFld regClkStatus 2 2 1).setReg regClkSyncstat 0

theorem claimed_leads (s : State) (hj : s.joined = true) : s.claimed.leads s.pkgNum := by
  obtain ⟨hmanager, hsilence, hstandby, hnum, hjoined, -⟩ := takeoverMember_spec s s.pkgNum (bits_lt _ 4 0)
  refine ⟨?_, ?_, ?_, ?_, ?_, ?_, ?_⟩
  all_goals
    simp (disch := decide) only [State.claimed, State.managerNum, State.pkgNum, State.joined, State.silence, fld_setReg_ne, fld_setFld_ne,
      fld_setFld, reg_setReg, if_true]
  · exact hmanager
  · exact hnum
  · exact hjoined.trans hj
  · exact hsilence
  · rfl
  · exact hstandby

theorem claimed_keeps (s : State) : s.claimed.timeSource = s.timeSource ∧ s.claimed.imageMode = s.imageMode := by
  obtain ⟨-, -, -, -, -, hsource, -, himage⟩ := takeoverMember_spec s s.pkgNum (bits_lt _ 4 0)
  simp (disch := decide) only [State.claimed, State.timeSource, State.imageMode, fld_setReg_ne, fld_setFld_ne]
  exact ⟨hsource, himage⟩

theorem claimed_sameMachine (s : State) : s.sameMachine s.claimed := ⟨rfl, rfl, rfl⟩

/-- An image of this mode is brought to QUIESCE by a takeover (log entry 48). -/
def State.imageRuns (s : State) : Prop := s.imageMode = modeRunI ∨ s.imageMode = modeRunS ∨ s.imageMode = modeQuiesce

/-- The standby takes over: it leads, and it becomes the time source at once unless the image is first brought to QUIESCE. -/
theorem takeOver_spec (s : State) (hj : s.joined = true) : s.sameMachine s.takeOver ∧ s.takeOver.leads s.pkgNum ∧
    (s.imageRuns → (∃ z, s.takeOver.image.quiesce = some z ∧ z.purpose = .takeover) ∧ s.takeOver.timeSource = s.timeSource) ∧
    (¬ s.imageRuns → s.takeOver.timeSource = true) := by
  unfold State.takeOver
  extract_lets old sil f c im m h
  have hf : s.notes f := floodMgmt_notes _ _ _
  have hc : c = f.claimed := rfl
  clear_value f c
  have hcs : f.sameMachine c := hc ▸ claimed_sameMachine f
  have hm : c.keepsRegs m := keepsRegs_of_regs rfl
  have hms : c.sameMachine m := ⟨rfl, rfl, rfl⟩
  have hh : m.notes h := sendAll_notes _ _ _ _
  clear_value m h
  have hsame : s.sameMachine h := sameMachine_trans hf.sameMachine (sameMachine_trans hcs (sameMachine_trans hms hh.sameMachine))
  obtain ⟨hsource, himage⟩ := claimed_keeps f
  have hleads : h.leads s.pkgNum := by
    rw [← hf.regs.pkgNum]
    exact hh.regs.leads (hm.leads (hc ▸ claimed_leads f (hf.regs.joined.trans hj)))
  have hruns : h.imageMode = s.imageMode := hh.regs.imageMode.trans (hm.imageMode.trans ((hc ▸ himage).trans hf.regs.imageMode))
  have htime : h.timeSource = s.timeSource := hh.regs.timeSource.trans (hm.timeSource.trans ((hc ▸ hsource).trans hf.regs.timeSource))
  rw [hruns]
  split
  next hrun =>
    have hq := beginQuiesce_notes h .takeover none
    exact ⟨sameMachine_trans hsame hq.sameMachine, hq.regs.leads hleads, fun _ => ⟨⟨_, hq.quiesce, rfl⟩, hq.regs.timeSource.trans htime⟩,
      fun hn => absurd hrun hn⟩
  next hrun =>
    obtain ⟨he, hk⟩ := endTakeover_spec (h.setFld regClkStatus 3 3 1)
    refine ⟨sameMachine_trans hsame he, hk.leads (leads_setTimeSource hleads), fun hr => absurd hr hrun, fun _ => hk.timeSource.trans ?_⟩
    rw [State.timeSource, fld_setFld _ _ _ _ _ (by decide) (by decide)]
    rfl

theorem isStandby_iff (s : State) : s.isStandby = true ↔ s.joined = true ∧ s.fld regTrlImage 22 22 = 1 ∧ s.fld regTrlImage 20 16 = s.pkgNum ∧
    s.isManager = false := by
  simp [State.isStandby, and_assoc]

/-- The loss of the manager is resolved: the standby takes over. -/
theorem resolveClause_takeover {s : State} {e : Event} (h : s.events = [e]) (hk : e.kind = .takeover) (hr : e.recs = [])
    (hc : e.clause.toNat + s.horizon ≤ s.clause.toNat) (hs : s.isStandby = true) (hm : s.mode ≠ modeHalt) :
    s.resolveClause = (s.closedWith e).takeOver := by
  rw [resolveClause_own h hr hc (by rw [hk]; rfl), State.actOn]
  simp only [hk]
  exact if_pos ⟨hs, hm⟩

/-- A member follows the new manager. -/
theorem execTakeover_follows (s : State) (p : Pkg) (hj : s.joined = true) (hp : p.toNat ≠ s.pkgNum) (hm : s.isManager = false) :
    Ends (.takeover p) s (fun u => u.managerNum = p.toNat ∧ u.silence = 0 ∧ u.mode = s.mode ∧ s.sameMachine u) := by
  rw [Ends, exec_takeover]
  unfold execTakeover
  extract_lets v was w
  have hv : s.notes v := (takeMgmt_received _ _ _).notes
  rw [if_neg (by simp [hv.regs.joined, hj, hv.regs.pkgNum, hp]), if_neg (by simp [was, hv.regs.isManager, hm])]
  obtain ⟨hmanager, hsilence, -, -, -, -, hmode, -⟩ := takeoverMember_spec v p.toNat p.isLt
  exact ⟨w, rfl, hmanager, hsilence, hmode.trans hv.regs.mode, hv.sameMachine⟩

/-! #### The old manager (R351 step 2) and the workers (R353) -/

/-- Records add events at the end of those that wait. -/
theorem emit_events (s : State) (die src code realm : Nat) (ps : List Nat) : ∃ q, (s.emit die src code realm ps).events = s.events ++ q := by
  unfold State.emit State.emitRank
  extract_lets r
  split
  · exact ⟨_, rfl⟩
  · refine ⟨[], ?_⟩
    unfold State.enqueueRec
    split <;> simp

/-- Containment of the endpoint (R515): it is contained, and a record may be written. -/
theorem epfContain_spec (s : State) (cause : Nat) : (s.epfContain cause).epfContained = true ∧
    (s.epfContain cause).clause = s.clause ∧ s.sameMachine (s.epfContain cause) ∧
    (∀ off, off ∉ noteRegs → off ≠ regEpfStatus → (s.epfContain cause).reg off = s.reg off) ∧
    ∃ q, (s.epfContain cause).events = s.events ++ q := by
  unfold State.epfContain
  split
  next h => exact ⟨decide_eq_true h, rfl, ⟨rfl, rfl, rfl⟩, fun _ _ _ => rfl, [], (List.append_nil _).symm⟩
  next =>
    extract_lets c
    have he := emit_notes ({ c with epf := { c.epf with containedAt := c.clause, reads := [], late := c.epf.late ++ c.epf.reads } } : State) 12 84
      0xB000 0 [cause, c.epf.aer.toNat]
    refine ⟨decide_eq_true ?_, he.clause, he.sameMachine, fun off ho hne => (he.regs off ho).trans ?_, emit_events _ _ _ _ _ _⟩
    · exact (he.regs.fld (by decide) _ _).trans (fld_setFld _ _ _ _ _ (by decide) (by decide))
    · exact (reg_setFld_ne _ _ _ _ _ _ hne).trans (reg_setFld_ne _ _ _ _ _ _ hne)

/-- The old manager contains its endpoint, is no time source any more, and asks for DEGRADED. -/
theorem deposed_spec (w : State) : let u := ((w.epfContain 3).setFld regClkStatus 3 3 0).degrade
    u.managerNum = w.managerNum ∧ u.pkgNum = w.pkgNum ∧ u.timeSource = false ∧ u.mode = w.mode ∧
      (∃ q, u.events = w.events ++ q ++ [{ stamp := w.clause, rank := 6, origin := w.origin 12 81, kind := .degrade }]) ∧
      u.epfContained = true ∧ w.sameMachine u := by
  obtain ⟨hcontained, hclause, hsame, hregs, q, hq⟩ := epfContain_spec w 3
  have hfld {off : Nat} (hi lo : Nat) (ho : off ∉ noteRegs) (hne : off ≠ regEpfStatus) (hs : off ≠ regClkStatus) :
      ((w.epfContain 3).setFld regClkStatus 3 3 0).degrade.fld off hi lo = w.fld off hi lo := by
    rw [State.fld, State.fld, ← hregs off ho hne]
    exact congrArg (fun r => bits r hi lo) (reg_setFld_ne _ _ _ _ _ _ hs)
  have hnum := hfld (off := regTrlImage) 4 0 (by decide) (by decide) (by decide)
  have hsource : ((w.epfContain 3).setFld regClkStatus 3 3 0).degrade.fld regClkStatus 3 3 = 0 :=
    fld_setFld (w.epfContain 3) regClkStatus 3 3 0 (by decide) (by decide)
  refine ⟨hfld 12 8 (by decide) (by decide) (by decide), hnum, decide_eq_false (by omega), hfld 3 0 (by decide) (by decide) (by decide), ⟨q, ?_⟩, ?_, hsame⟩
  · rw [← hq, ← hclause, State.origin, ← show State.pkgNum _ = w.pkgNum from hnum]
    rfl
  · rw [← hcontained]
    exact congrArg (fun n => decide (n = 1)) (fld_setFld_ne _ _ _ _ _ _ _ _ (by decide) (by decide) (by decide))

theorem execTakeover_deposes (s : State) (p : Pkg) (hj : s.joined = true) (hp : p.toNat ≠ s.pkgNum) (hm : s.isManager = true) :
    Ends (.takeover p) s (fun u => u.managerNum = p.toNat ∧ u.isManager = false ∧ u.timeSource = false ∧ u.mode = s.mode ∧
      (∃ q, u.events = s.events ++ q ++ [{ stamp := s.clause, rank := 6, origin := s.origin 12 81, kind := .degrade }]) ∧
      u.epfContained = true ∧ s.sameMachine u) := by
  rw [Ends, exec_takeover]
  unfold execTakeover
  extract_lets v was w
  have hv : s.received v := takeMgmt_received _ _ _
  have hn := hv.notes
  rw [if_neg (by simp [hn.regs.joined, hj, hn.regs.pkgNum, hp]), if_pos (hn.regs.isManager.trans hm)]
  obtain ⟨hmanager, -, -, hnum, -, -, hmode, -⟩ := takeoverMember_spec v p.toNat p.isLt
  obtain ⟨kmanager, knum, ksource, kmode, ⟨q, kevents⟩, kcontained, ksame⟩ := deposed_spec w
  refine ⟨_, rfl, kmanager.trans hmanager, ?_, ksource, kmode.trans (hmode.trans hn.regs.mode), ⟨q, kevents.trans ?_⟩, kcontained,
    sameMachine_trans hn.sameMachine ksame⟩
  · rw [State.isManager, ksource, kmanager.trans hmanager, knum.trans (hnum.trans hn.regs.pkgNum)]
    simpa using fun _ => hp
  · rw [State.origin, State.origin, hnum.trans hn.regs.pkgNum, ← hv.events, ← hn.clause]
    rfl

theorem degradeNow_enters (s : State) (h : s.mode = modeRunI ∨ s.mode = modeRunS) :
    s.entersMode s.degradeNow modeDegraded 14 ∧ s.sameMachine s.degradeNow := by
  rw [State.degradeNow, if_pos h]
  exact ⟨enterMode_entersMode s modeDegraded 14 (by decide) (by decide), enterMode_sameMachine s _ _⟩

theorem resolveClause_degrade {s : State} {e : Event} (h : s.events = [e]) (hk : e.kind = .degrade) (hr : e.recs = [])
    (hc : e.clause.toNat + s.horizon ≤ s.clause.toNat) : s.resolveClause = (s.closedWith e).degradeNow := by
  rw [resolveClause_own h hr hc (by rw [hk]; rfl), State.actOn]
  simp only [hk]

/-- A member without a manager halts (R353, R689). -/
theorem imageLost_halts (s : State) (cause mask : Nat) (h : s.live) : s.halts (s.imageLost cause mask) := by
  have hn := notes_trans (emit_notes s 12 81 0x7006 0 [cause, mask]) (noteUe_notes _ 0x7006)
  obtain ⟨⟨hmode, halert, hmem⟩, -⟩ := haltHeld_live _ (hn.regs.live h)
  exact ⟨hmode, halert, hmem.trans hn.mem⟩

theorem execHeartbeatSilence_halts (s : State) (hj : s.joined = true) (hm : s.isManager = false) (hl : s.live) (hs : 5000000 ≤ s.silence) :
    Ends .heartbeatSilence s s.halts := by
  rw [Ends, exec_heartbeatSilence, execHeartbeatSilence, if_pos ⟨hj, by simp [hm], hl.2, hs⟩]
  exact ⟨_, rfl, imageLost_halts s _ _ hl⟩

/-! #### Key slots, events and the image's halt (R40, R352, R609) -/

theorem execMirror_stores (s : State) (m : MirrorArgs) (hm : s.isManager = false) : Ends (.mirror m) s (fun u =>
    Tbl.get 0 u.ownerKeys m.slot.val = m.key ∧ u.reg (regTktSlot1 m.slot.val) = m.last ∧ u.fld (regTktSlot0 m.slot.val) 0 0 = b2n m.active ∧
      s.sameMachine u) := by
  rw [Ends, exec_mirror]
  unfold execMirror
  extract_lets v w k
  have hv : s.notes v := (firstDelivered_received s _).notes
  rw [if_neg (by simp [hv.regs.isManager, hm])]
  have hk := sendCtl_notes k .mirror k.managerNum (.flag true)
  have h0 : regTktSlot0 m.slot.val ∉ noteRegs := by simp [noteRegs, regTktSlot0, regTlgStatus, regGlbErrsum]; omega
  have h1 : regTktSlot1 m.slot.val ∉ noteRegs := by simp [noteRegs, regTktSlot1, regTlgStatus, regGlbErrsum]; omega
  have hne : regTktSlot0 m.slot.val ≠ regTktSlot1 m.slot.val := by unfold regTktSlot0 regTktSlot1; omega
  refine ⟨_, rfl, ?_, (hk.regs _ h1).trans ?_, (hk.regs.fld h0 0 0).trans ?_, sameMachine_trans hv.sameMachine hk.sameMachine⟩
  · rw [hk.ownerKeys]
    exact (Tbl_get_set ..).trans (if_pos rfl)
  · exact (reg_setReg ..).trans (if_pos rfl)
  · refine (fld_setReg_ne _ _ _ _ _ _ hne).trans ((fld_setFld _ _ _ _ _ (by decide) (by decide)).trans ?_)
    cases m.active <;> rfl

theorem execMirrorAck_counts (s : State) (hm : s.isManager = true) (ha : s.epf.mirrorAcked < s.epf.mirrorSent) :
    Ends .mirrorAck s (fun u => u.epf.mirrorAcked = s.epf.mirrorAcked + 1 ∧ u.regs = s.regs ∧ s.sameMachine u) := by
  rw [Ends, exec_mirrorAck]
  unfold execMirrorAck
  extract_lets v
  have hv : s.received v := firstDelivered_received s _
  have hn := hv.notes
  rw [if_pos (by simp [hn.regs.isManager, hm, hn.epf, ha])]
  exact ⟨_, rfl, congrArg (fun e : Endpoint => e.mirrorAcked + 1) hn.epf, hv.regs, hn.sameMachine⟩

/-- The endpoint's own data and TRL.IMAGE stay. -/
def State.keepsEndpoint (s u : State) : Prop := u.epf = s.epf ∧ u.reg regTrlImage = s.reg regTrlImage

theorem keepsEndpoint_trans {a b c : State} (h : a.keepsEndpoint b) (k : b.keepsEndpoint c) : a.keepsEndpoint c :=
  ⟨k.1.trans h.1, k.2.trans h.2⟩

theorem State.notes.keepsEndpoint {s u : State} (h : s.notes u) : s.keepsEndpoint u := ⟨h.epf, h.regs _ (by decide)⟩

theorem pushCompletion_keepsEndpoint (s : State) (x : Completion) : s.keepsEndpoint (s.pushCompletion x) := by
  unfold State.pushCompletion
  split
  · extract_lets u
    have hu : s.keepsEndpoint u := (emit_notes _ _ _ _ _ _).keepsEndpoint
    split
    · exact keepsEndpoint_trans hu ⟨rfl, reg_setFld_ne _ _ _ _ _ _ (by decide)⟩
    · exact hu
  · exact ⟨rfl, rfl⟩

theorem complete_keepsEndpoint (s : State) (c : Command) (status : Nat) (r0 r1 : Word) : s.keepsEndpoint (s.complete c status r0 r1) := by
  unfold State.complete
  split
  · extract_lets u v
    have hu : s.keepsEndpoint u := by
      simp only [u]
      split
      · exact (emitOrigin_notes _ _ _ _ _).keepsEndpoint
      · exact ⟨rfl, rfl⟩
    exact keepsEndpoint_trans (b := v) hu (pushCompletion_keepsEndpoint _ _)
  · split
    · exact (sendMgmt_notes _ _ _ _).keepsEndpoint
    · exact ⟨rfl, rfl⟩

theorem accept_keepsEndpoint (s : State) (c : Command) : s.keepsEndpoint (s.accept c) := by
  unfold State.accept
  split
  · exact keepsEndpoint_trans (emit_notes _ _ _ _ _ _).keepsEndpoint (complete_keepsEndpoint _ _ _ _ _)
  · extract_lets d u
    have hu : s.keepsEndpoint u := by
      simp only [u]
      split
      · exact (emitOrigin_notes _ _ _ _ _).keepsEndpoint
      · exact ⟨rfl, rfl⟩
    split
    · exact keepsEndpoint_trans hu (complete_keepsEndpoint _ _ _ _ _)
    · exact keepsEndpoint_trans hu (localEvent_notes _ _ _ _ _).keepsEndpoint

/-- The next acceptance leaves the count of mirrors acknowledged, and TRL.IMAGE. -/
theorem acceptNext_spec (s : State) : s.acceptNext.epf.mirrorAcked = s.epf.mirrorAcked ∧ s.acceptNext.reg regTrlImage = s.reg regTrlImage := by
  unfold State.acceptNext
  split
  next a _ =>
    obtain ⟨hepf, hreg⟩ := accept_keepsEndpoint (s.modEpf (fun e => { e with accepting := e.accepting.erase a })) a.cmd
    exact ⟨by rw [hepf]; rfl, hreg⟩
  next => exact ⟨rfl, rfl⟩

/-- A standby that gives no acknowledgement is dropped (R352). -/
theorem execMirrorTimeout_drops (s : State) (a : Accept) (ha : s.epf.accepting = [a]) (hk : s.epf.mirrorAcked < a.mirror)
    (hc : a.since.toNat + 250000 ≤ s.clause.toNat) (hm : s.isManager = true) (hs : s.fld regTrlImage 22 22 = 1) :
    Ends .mirrorTimeout s (fun u => u.fld regTrlImage 22 22 = 0 ∧ u.epf.mirrorAcked = s.epf.mirrorSent ∧ u.mem = s.mem) := by
  have hfind : s.epf.accepting.find? (fun a => decide (s.epf.mirrorAcked < a.mirror) && decide (a.since.toNat + 250000 ≤ s.clause.toNat)) = some a := by
    simp [ha, hk, hc]
  rw [Ends, exec_mirrorTimeout, execMirrorTimeout, hfind]
  simp only
  rw [if_pos ⟨hm, hs⟩, sendAll_eq]
  have he (w : State) (ps : List Nat) := acceptNext_spec (w.emit 12 82 0x0097 0 ps)
  have hn (w : State) (ps : List Nat) := emit_notes w 12 82 0x0097 0 ps
  refine ⟨_, rfl, ?_, (he _ _).1.trans (congrArg Endpoint.mirrorAcked (hn _ _).epf), (acceptNext_mem _).trans (hn _ _).mem⟩
  rw [State.fld, (he _ _).2, (hn _ _).regs _ (by decide)]
  exact (fld_setFld_ne _ _ _ _ _ _ _ _ (by decide) (by decide) (by decide)).trans (fld_setFld _ _ _ _ _ (by decide) (by decide))

theorem execEvent_waits (s : State) (p : Pkg) (stamp : Word) (rank : Nat) (origin : BitVec 16) (kind : EventKind) (hm : s.isManager = true)
    (ho : s.openClause ≤ stamp.toNat) (hk : ownKind kind = false) :
    Ends (.event p (.event stamp rank origin kind) .clean) s (fun u =>
      u.events = s.events ++ [{ stamp := stamp, rank := rank, origin := origin, kind := kind }] ∧ u.regs = s.regs ∧ s.sameMachine u) := by
  rw [Ends, exec_event]
  unfold execEvent
  extract_lets v
  have hv : s.received v := firstDelivered_received s _
  have hn := hv.notes
  have hopen : v.openClause = s.openClause := by
    rw [State.openClause, State.openClause, State.horizon, State.horizon, hn.clause, hn.regs.fld (by decide), hn.unresolved]
  simp only [State.meshError, hn.regs.isManager.trans hm, Bool.not_true, Bool.false_eq_true, if_false, if_true]
  rw [State.managerReport, hk, if_neg (by simp), State.takeEvent, if_pos (hopen.trans_le ho), ← hv.events]
  exact ⟨_, rfl, rfl, hv.regs, hn.sameMachine⟩

theorem execHaltImage_halts (s : State) (stamp : Word) (hj : s.joined = true) (hl : s.live) :
    Ends (.haltImage stamp) s (fun u => s.halts u ∧ u.imageMode = modeHalt ∧ s.sameMachine u) := by
  rw [Ends, exec_haltImage]
  unfold execHaltImage
  extract_lets v
  have hv : s.notes v := (firstDelivered_received s _).notes
  rw [if_pos (hv.regs.joined.trans hj)]
  obtain ⟨⟨hmode, halert, hmem⟩, hsame⟩ := haltHeld_live v (hv.regs.live hl)
  refine ⟨_, rfl, ⟨?_, halert, hmem.trans hv.mem⟩, fld_setFld _ _ _ _ _ (by decide) (by decide), sameMachine_trans hv.sameMachine hsame⟩
  rw [State.mode, fld_setFld_ne _ _ _ _ _ _ _ _ (by decide) (by decide) (by decide)]
  exact hmode

/-- Settles O43: a rule of the watch to each clause. -/
theorem watchOverTheManager : Obligations.WatchOverTheManager := by
  refine ⟨?watch, ?mirrors⟩
  case watch =>
    intro p silence c e s asks running
    refine ⟨execHeartbeatPeriod_sends s, execHeartbeat_restarts s p, execStandbySilenceLimit_asks s, execHeardReq_answers s p,
      execHeardRsp_keeps s p silence c, fun ha hc hh _ hr => ?_, fun hev hk hr hc hs hm => ?_, execHeardTimeout_early s c,
      execTakeover_follows s p, execTakeover_deposes s p, fun hev hk hr hc hm => ?_, execHeartbeatSilence_halts s, fun h => ?_⟩
    · refine ⟨_, (execHeardTimeout_late s c ha hc).trans (congrArg Host.Outcome.next (decideTakeover_lost s hh hr)), rfl, rfl, ⟨[], ?_⟩,
        rfl, rfl, rfl⟩
      rw [List.append_nil]
      rfl
    · have hj : (s.closedWith e).joined = true := ((isStandby_iff s).1 hs).1
      obtain ⟨hsame, hleads, hrun, hnot⟩ := takeOver_spec (s.closedWith e) hj
      have hmgr := hleads.isManager
      obtain ⟨hmanager, -, -, hsilence, haligned, hsync, hstandby⟩ := hleads
      exact ⟨_, exec_clauseResolution_of (resolveClause_takeover hev hk hr hc hs hm), hmanager, hmgr, hsilence, haligned, hsync, hsame, hrun,
        fun hn => ⟨hnot hn, hstandby⟩⟩
    · exact ⟨_, exec_clauseResolution_of (resolveClause_degrade hev hk hr hc), degradeNow_enters (s.closedWith e) hm⟩
    · exact if_neg (by omega)
  case mirrors =>
    intro m a p stamp rank origin kind s
    refine ⟨execMirror_stores s m, execMirrorAck_counts s, execMirrorTimeout_drops s a, fun h => ?_, execEvent_waits s p stamp rank origin kind,
      execHaltImage_halts s stamp⟩
    rw [exec_mirrorTimeout, execMirrorTimeout, h]
    rfl

/-! ### An interrupt that ends a WAITD counts an instruction (R96, R651, R652) -/

/-- c.pcev0 counts the retired instructions (event 03h) of thread 0 at H in realm 0, unchained, and asks for a sampling interrupt. -/
def retiredSelect : Word := 0x417003

/-- A device interrupt of realm 0 for thread 0. -/
def deviceInterrupt : Event := { stamp := 5, rank := 9, origin := 0, kind := .interrupt 0 .device 0 false none }

/-- Thread 0 waits in WAITD at H, its counter of retired instructions one short of an overflow; a device interrupt for it is the only event,
and the horizon of its clause has passed. -/
def countingWaiter : State :=
  { State.reset.setFld regGlbMode 3 0 modeRunI with
    threads := [(0, { wait := .waitd 0x80 none 1 })]
    pccSel := [(slotCore 0 0, retiredSelect)]
    pccVal := [(slotCore 0 0, 0xffffffffffff)]
    events := [deviceInterrupt]
    clause := 1000000 }

/-- The interrupt ends the WAITD, whose retirement overflows the counter: a sampling interrupt waits for its own clause. -/
theorem countingWaiter_resolved : countingWaiter.resolveClause.events.map (·.kind) = [.interrupt 0 .counter 0 true none] := by decide +kernel

/-- Refutes O27: its clause for the resolution of an interrupt has no event wait afterwards. In `countingWaiter` the interrupt ends a WAITD
(R96), whose retirement is an event of its thread (R651); the counter that it overflows asks for a sampling interrupt, an event of rank 9 of
the present clause (R27, R652), which waits for that clause's own resolution. -/
theorem not_coreEvents : ¬ Obligations.CoreEvents := by
  intro h
  obtain ⟨hinterrupts, -⟩ := h
  obtain ⟨-, hexists⟩ := hinterrupts 0 .device 0 false false deviceInterrupt countingWaiter
  obtain ⟨-, -, -, hresolved⟩ := hexists (by decide) (by decide)
  obtain ⟨hrealm0, -, -⟩ := hresolved rfl rfl (by decide)
  obtain ⟨u, hu, hempty, -⟩ := hrealm0 rfl
  obtain rfl : countingWaiter.resolveClause = u := Host.Outcome.next.inj hu
  have hwaits := countingWaiter_resolved
  rw [hempty] at hwaits
  exact absurd hwaits (by decide)

end Sys2Proof.Machine

/-! ## The instruction set

The instructions of 03_wemir_instruction_set.md. An instruction that starts answers its own meaning on the state after the fetch
(`onThread_starts`); what that meaning writes, and what it leaves, follows the order of the chapter. -/

namespace Sys2Proof.Machine
open Sys2Proof

/-! ### When an instruction starts (R109, R112, R118) -/

/-- With translation off a level above U reaches DRAM at the address itself, as uncached memory (R199). -/
theorem translate_off_dram {s : State} {t : Nat} {va : Word} (k : AccKind) (had : (s.thread t).ad = none)
    (htt : bit (s.thread t).ttbase 0 = false) (hl : (s.thread t).level ≠ 0) (hva : va.toNat < 2 ^ 52) (hr : s.region va.toNat = .dram) :
    s.translate t va k = (s, .ok va.toNat 1) := by
  have hoff : s.translateOff t va = .ok va.toNat 1 := by
    simp only [State.translateOff, Nat.mod_eq_of_lt hva, hr]
    rw [if_neg hl, if_neg (by rw [Nat.div_eq_of_lt hva]; exact fun h => h rfl)]
  simp [State.translate, had, htt, hoff]

/-- No instruction is marked while no injection is armed (R615, R616). -/
theorem residueMark_unarmed {s : State} (t : Nat) (unit : Option Nat) (h : bit (s.reg regGlbInject) 63 = false) :
    s.residueMark t unit = (s, true) := by
  have hnone (target u : Nat) : s.injectKind target u none = none := by simp [State.injectKind, h]
  unfold State.residueMark
  split
  · rfl
  · rw [hnone]

theorem startInstr_of_fetch {s : State} {t : Nat} (unit : Option Nat) (hc : s.canStart t = true) (ht : (s.thread t).takeable = none)
    (hf : s.fetch t = (s, true)) : s.startInstr t unit = s.residueMark t unit := by
  simp [State.startInstr, hc, ht, hf]

/-- Settles O6: with translation off the fetch changes nothing. -/
theorem instructionStarts : Obligations.InstructionStarts := by
  intro s t unit hexists hcan htake hlevel htt had hva hregion hinject
  have htables : bit (s.thread t).ttbase 0 = false := by simp [Thread.ttbase, Thread.regime, hlevel, htt]
  have hfetch : s.fetch t = (s, true) := by
    simp [State.fetch, translate_off_dram .fetch had htables (by omega) hva hregion]
  exact ⟨hexists, by rw [startInstr_of_fetch unit hcan htake hfetch, residueMark_unarmed t unit hinject]⟩

/-! ### Integer instructions (R62 to R64) -/

theorem upperImm_eq (i : BitVec 16) : upperImm i = i.signExtend 64 * 2 ^ 16 := by
  rw [upperImm, BitVec.shiftLeft_eq_mul_twoPow]
  rfl

theorem sltWord_eq (a b : Word) : sltWord a b = if a.toInt < b.toInt then 1 else 0 := by simp [sltWord, BitVec.slt_iff_toInt_lt]

theorem sltuWord_eq (a b : Word) : sltuWord a b = if a.toNat < b.toNat then 1 else 0 := by simp [sltuWord, BitVec.ult_iff_toNat_lt]

/-- What an instruction of the integer units with a result does. -/
theorem intOp_ends {c : Instr} {s s' : State} {t unit : Nat} {rd : BitVec 5} {f : Thread → Option Word} {v w : Word}
    (hc : exec c s = intOp s t unit rd f) (hs : s.starts t (some unit) s') (hf : f (s'.thread t) = some v) (hw : v = w) :
    Ends c s (fun u => s'.computes u t rd w) := by
  obtain ⟨u, hu, hcomputes⟩ := intOp_computes s s' t unit rd f v hs hf
  exact ⟨u, hc.trans hu, hw ▸ hcomputes⟩

/-- Settles O7: each of the eight is an integer operation with one result. -/
theorem integerImmediates : Obligations.IntegerImmediates := by
  intro t rd ra imm s s' hs a gives
  exact ⟨intOp_ends (exec_addi ..) hs rfl rfl, intOp_ends (exec_andi ..) hs rfl rfl, intOp_ends (exec_ori ..) hs rfl rfl,
    intOp_ends (exec_xori ..) hs rfl rfl, intOp_ends (exec_lui ..) hs rfl (upperImm_eq imm),
    intOp_ends (exec_addis ..) hs rfl (congrArg (a + ·) (upperImm_eq imm)), intOp_ends (exec_slti ..) hs rfl (sltWord_eq a _),
    intOp_ends (exec_sltiu ..) hs rfl (sltuWord_eq a _)⟩

/-- An instruction of the integer units without a result raises ILLEGAL (R60). -/
theorem intOp_illegal {c : Instr} {s s' : State} {t unit : Nat} {rd : BitVec 5} {f : Thread → Option Word}
    (hc : exec c s = intOp s t unit rd f) (hs : s.starts t (some unit) s') (hf : f (s'.thread t) = none) :
    exec c s = .next (s'.illegal t) := by
  rw [hc, intOp, onThread_starts s s' t (some unit) _ hs, hf]
  rfl

theorem aluResult_unassigned {fn : Nat} (rc : BitVec 5) (a b c : Word) (h : 0x10 ≤ fn) : aluResult fn rc a b c = none := by
  obtain ⟨n, rfl⟩ := Nat.exists_eq_add_of_le' h
  unfold aluResult
  split <;> rfl

theorem aluResult_unused_rc {fn : Nat} {rc : BitVec 5} (a b c : Word) (h : fn ≠ 0x0D) (hr : rc ≠ 0) : aluResult fn rc a b c = none :=
  if_pos ⟨h, hr⟩

theorem muldivResult_unassigned {fn : Nat} (rc : BitVec 5) (a b c : Word) (h : 0x09 ≤ fn) : muldivResult fn rc a b c = none := by
  obtain ⟨n, rfl⟩ := Nat.exists_eq_add_of_le' h
  unfold muldivResult
  split <;> rfl

theorem muldivResult_unused_rc {fn : Nat} {rc : BitVec 5} (a b c : Word) (h : fn ≠ 0x08) (hr : rc ≠ 0) :
    muldivResult fn rc a b c = none :=
  if_pos ⟨h, hr⟩

theorem shiftResult_unassigned {fn : Nat} (rc rb : BitVec 5) (a b : Word) (h : 0x10 ≤ fn) : shiftResult fn rc rb a b = none := by
  obtain ⟨n, rfl⟩ := Nat.exists_eq_add_of_le' h
  simp [shiftResult]

/-- A code that takes its amount from rc does not use rb. -/
theorem shiftResult_unused_rb {rb : BitVec 5} (rc : BitVec 5) (a b : Word) (h : rb ≠ 0) : shiftResult 0x04 rc rb a b = none := by
  simp only [shiftResult]
  rw [if_neg (by omega), if_pos ⟨by omega, by omega, h⟩]

/-- A code that takes its amount from rb, or none, does not use rc. -/
theorem shiftResult_unused_rc {rc : BitVec 5} (rb : BitVec 5) (a b : Word) (h : rc ≠ 0) :
    shiftResult 0x00 rc rb a b = none ∧ shiftResult 0x0C rc rb a b = none := by
  simp only [shiftResult]
  rw [if_pos ⟨by omega, h⟩, if_neg (by omega), if_neg (by omega), if_pos ⟨by omega, .inl h⟩]
  exact ⟨rfl, rfl⟩

theorem toNat_ne_of_ne {n : Nat} {a b : BitVec n} (h : a ≠ b) : a.toNat ≠ b.toNat := fun e => h (BitVec.eq_of_toNat_eq e)

/-- The products use the multiplier: no function code from 04h to 07h. -/
theorem exec_muldiv_mul (t : ThreadPos) {fn : BitVec 6} (rc rb ra rd : BitVec 5) (s : State) (h : ¬ (4 ≤ fn.toNat ∧ fn.toNat ≤ 7)) :
    exec (.muldiv t fn rc rb ra rd) s = intOp s t.val 5 rd (fun y => muldivResult fn.toNat rc (y.gpr ra) (y.gpr rb) (y.gpr rc)) := by
  rw [exec_muldiv, execMuldiv, if_neg h]

/-- Settles O8: each code with its result, and the forms without one. -/
theorem integerRegisterForms : Obligations.IntegerRegisterForms := by
  intro t rc rb ra rd s s' a b c gives
  refine ⟨?alu, fun hs => intOp_ends (exec_alu ..) hs rfl rfl, ?shift, ?shiftImm, ?mul, ?mulAdd, ?aluCode, ?aluRc, ?badMul, ?badShift⟩
  case alu =>
    rintro hs rfl
    exact ⟨intOp_ends (exec_alu ..) hs rfl rfl, intOp_ends (exec_alu ..) hs rfl rfl, intOp_ends (exec_alu ..) hs rfl rfl,
      intOp_ends (exec_alu ..) hs rfl rfl, intOp_ends (exec_alu ..) hs rfl rfl, intOp_ends (exec_alu ..) hs rfl rfl,
      intOp_ends (exec_alu ..) hs rfl (sltWord_eq a b), intOp_ends (exec_alu ..) hs rfl (sltuWord_eq a b),
      intOp_ends (exec_alu ..) hs rfl rfl, intOp_ends (exec_alu ..) hs rfl rfl⟩
  case shift =>
    rintro hs rfl
    exact ⟨intOp_ends (exec_shift ..) hs rfl rfl, intOp_ends (exec_shift ..) hs rfl rfl, intOp_ends (exec_shift ..) hs rfl rfl,
      intOp_ends (exec_shift ..) hs rfl rfl⟩
  case shiftImm =>
    rintro hs rfl
    have low (f : Nat → Word) : f (0 * 32 + rc.toNat) = f rc.toNat := by rw [Nat.zero_mul, Nat.zero_add]
    exact ⟨intOp_ends (exec_shift ..) hs rfl (low (a <<< ·)), intOp_ends (exec_shift ..) hs rfl rfl,
      intOp_ends (exec_shift ..) hs rfl (low (a >>> ·)), intOp_ends (exec_shift ..) hs rfl rfl,
      intOp_ends (exec_shift ..) hs rfl (low a.sshiftRight), intOp_ends (exec_shift ..) hs rfl rfl,
      intOp_ends (exec_shift ..) hs rfl (low a.rotateRight), intOp_ends (exec_shift ..) hs rfl rfl⟩
  case mul =>
    rintro hs rfl
    exact intOp_ends (exec_muldiv_mul _ _ _ _ _ _ (by decide)) hs rfl rfl
  case mulAdd => exact fun hs => intOp_ends (exec_muldiv_mul _ _ _ _ _ _ (by decide)) hs rfl rfl
  case aluCode => exact fun hs fn hfn => intOp_illegal (exec_alu ..) hs (aluResult_unassigned _ _ _ _ hfn)
  case aluRc => exact fun hs hrc fn hfn => intOp_illegal (exec_alu ..) hs (aluResult_unused_rc _ _ _ (toNat_ne_of_ne hfn) hrc)
  case badMul =>
    exact fun hs => ⟨fun fn hfn => intOp_illegal (exec_muldiv_mul _ _ _ _ _ _ (by omega)) hs (muldivResult_unassigned _ _ _ _ hfn),
      fun hrc fn hfn => intOp_illegal (exec_muldiv_mul _ _ _ _ _ _ (by omega)) hs (muldivResult_unused_rc _ _ _ (by omega) hrc)⟩
  case badShift =>
    exact fun hs => ⟨fun fn hfn => intOp_illegal (exec_shift ..) hs (shiftResult_unassigned _ _ _ _ hfn),
      fun hrc => ⟨intOp_illegal (exec_shift ..) hs (shiftResult_unused_rc _ _ _ hrc).1,
        intOp_illegal (exec_shift ..) hs (shiftResult_unused_rc _ _ _ hrc).2⟩,
      fun hrb => intOp_illegal (exec_shift ..) hs (shiftResult_unused_rb _ _ _ hrb)⟩

/-! #### Products, counts and byte order (R63) -/

/-- The high half of a product taken at twice the width is the product divided by 2^64, rounded down. -/
theorem extractHigh_ofInt (z : Int) : (BitVec.ofInt 128 z).extractLsb' 64 64 = BitVec.ofInt 64 (z / 2 ^ 64) := by
  apply BitVec.eq_of_toNat_eq
  simp only [BitVec.extractLsb'_toNat, BitVec.toNat_ofInt, Nat.shiftRight_eq_div_pow]
  omega

theorem extractHigh_mul {x y : BitVec 128} {a b : Int} (hx : x = BitVec.ofInt 128 a) (hy : y = BitVec.ofInt 128 b) :
    (x * y).extractLsb' 64 64 = BitVec.ofInt 64 (a * b / 2 ^ 64) := by
  rw [hx, hy, ← BitVec.ofInt_mul, extractHigh_ofInt]

theorem signExtend_eq_ofInt (a : Word) : a.signExtend 128 = BitVec.ofInt 128 a.toInt := rfl

theorem zeroExtend_eq_ofInt (a : Word) : a.zeroExtend 128 = BitVec.ofInt 128 a.toNat := by
  rw [BitVec.ofInt_natCast, BitVec.ofNat_toNat]

theorem clzNat_eq (v n : Nat) : clzNat v n = (List.range n).findIdx (fun i => v.testBit (n - 1 - i)) := by
  induction n with
  | zero => rfl
  | succ n ih =>
    rw [clzNat, List.range_succ_eq_map, List.findIdx_cons, List.findIdx_map, ih]
    have hshift : ((fun i => v.testBit (n + 1 - 1 - i)) ∘ Nat.succ) = fun i => v.testBit (n - 1 - i) := by
      funext i
      simp only [Function.comp_apply]
      congr 1
      omega
    rw [hshift]
    cases h : v.testBit n <;> simp [h, Nat.add_comm]

theorem ctzNat_eq (v i n : Nat) : ctzNat v i n = (List.range n).findIdx (fun j => v.testBit (i + j)) := by
  induction n generalizing i with
  | zero => rfl
  | succ n ih =>
    rw [ctzNat, List.range_succ_eq_map, List.findIdx_cons, List.findIdx_map, ih]
    have hshift : ((fun j => v.testBit (i + j)) ∘ Nat.succ) = fun j => v.testBit (i + 1 + j) := by
      funext j
      simp only [Function.comp_apply]
      congr 1
      omega
    rw [hshift]
    cases v.testBit i <;> simp [Nat.add_comm]

theorem popBits_eq (v n : Nat) : popBits v n = (List.range n).countP (fun i => v.testBit i) := by
  induction n with
  | zero => rfl
  | succ n ih => rw [popBits, List.range_succ, List.countP_append, ih, List.countP_singleton, b2n]

/-- The bytes of a number from the least significant, read with the first as the most significant. -/
theorem bswapNat_eq (v n : Nat) : bswapNat v n = beNat (leBytes v n) := by
  have hfold (v n acc : Nat) : (leBytes v n).foldl (fun n b => n * 256 + b.toNat) acc = acc * 256 ^ n + bswapNat v n := by
    induction n generalizing v acc with
    | zero => simp [leBytes, bswapNat]
    | succ n ih =>
      rw [leBytes, List.foldl_cons, ih, bswapNat, BitVec.toNat_ofNat]
      ring
  rw [beNat, hfold, Nat.zero_mul, Nat.zero_add]

theorem ite_slt {α : Type} (a b : Word) (x y : α) : (if a.slt b then x else y) = if a.toInt < b.toInt then x else y := by
  simp [BitVec.slt_iff_toInt_lt]

theorem ite_ult {α : Type} (a b : Word) (x y : α) : (if a.ult b then x else y) = if a.toNat < b.toNat then x else y := by
  simp [BitVec.ult_iff_toNat_lt]

/-- Settles O9: each code's result is the stated one. -/
theorem productsAndCounts : Obligations.ProductsAndCounts := by
  intro t rb ra rd s s' a b gives
  have mulhu : BitVec.ofInt 64 ((a.toNat : Int) * b.toNat / 2 ^ 64) = BitVec.ofNat 64 (a.toNat * b.toNat / 2 ^ 64) := by
    exact_mod_cast BitVec.ofInt_natCast 64 (a.toNat * b.toNat / 2 ^ 64)
  refine ⟨fun hs => ⟨?_, ?_, ?_⟩, fun hs => ⟨?_, ?_, ?_, ?_, ?_⟩, fun hs => ⟨?_, ?_, ?_, ?_⟩⟩
  · exact intOp_ends (exec_muldiv_mul _ _ _ _ _ _ (by decide)) hs rfl (extractHigh_mul (signExtend_eq_ofInt a) (signExtend_eq_ofInt b))
  · exact intOp_ends (exec_muldiv_mul _ _ _ _ _ _ (by decide)) hs rfl
      ((extractHigh_mul (zeroExtend_eq_ofInt a) (zeroExtend_eq_ofInt b)).trans mulhu)
  · exact intOp_ends (exec_muldiv_mul _ _ _ _ _ _ (by decide)) hs rfl (extractHigh_mul (signExtend_eq_ofInt a) (zeroExtend_eq_ofInt b))
  · exact intOp_ends (exec_alu ..) hs rfl rfl
  · exact intOp_ends (exec_alu ..) hs rfl (ite_slt a b a b)
  · exact intOp_ends (exec_alu ..) hs rfl (ite_slt a b b a)
  · exact intOp_ends (exec_alu ..) hs rfl (ite_ult a b a b)
  · exact intOp_ends (exec_alu ..) hs rfl (ite_ult a b b a)
  · exact intOp_ends (exec_shift ..) hs rfl (congrArg (BitVec.ofNat 64) (clzNat_eq a.toNat 64))
  · refine intOp_ends (exec_shift ..) hs rfl (congrArg (BitVec.ofNat 64) ?_)
    simp only [ctzNat_eq, Nat.zero_add]
    rfl
  · exact intOp_ends (exec_shift ..) hs rfl (congrArg (BitVec.ofNat 64) (popBits_eq a.toNat 64))
  · exact intOp_ends (exec_shift ..) hs rfl (congrArg (BitVec.ofNat 64) (bswapNat_eq a.toNat 8))

/-! #### Division (R64) -/

theorem divWord_eq {a b : Word} (h : b ≠ 0) : divWord a b = BitVec.ofInt 64 (a.toInt.tdiv b.toInt) := by
  rw [divWord, if_neg h]
  apply BitVec.eq_of_toInt_eq
  rw [BitVec.toInt_sdiv, BitVec.toInt_ofInt]

theorem remWord_eq {a b : Word} (h : b ≠ 0) : remWord a b = BitVec.ofInt 64 (a.toInt.tmod b.toInt) := by
  rw [remWord, if_neg h, ← BitVec.toInt_srem, BitVec.ofInt_toInt]

theorem divuWord_eq {a b : Word} (h : b ≠ 0) : divuWord a b = BitVec.ofNat 64 (a.toNat / b.toNat) := by
  rw [divuWord, if_neg h, ← BitVec.toNat_udiv, BitVec.ofNat_toNat, BitVec.setWidth_eq]
  rfl

theorem remuWord_eq {a b : Word} (h : b ≠ 0) : remuWord a b = BitVec.ofNat 64 (a.toNat % b.toNat) := by
  rw [remuWord, if_neg h, ← BitVec.toNat_umod, BitVec.ofNat_toNat, BitVec.setWidth_eq]
  rfl

/-- Function codes 04h to 07h use the divider. -/
theorem exec_muldiv_div (t : ThreadPos) {fn : BitVec 6} (rc rb ra rd : BitVec 5) (s : State) (h : 4 ≤ fn.toNat ∧ fn.toNat ≤ 7) :
    exec (.muldiv t fn rc rb ra rd) s = intOp s t.val 4 rd (fun y => muldivResult fn.toNat rc (y.gpr ra) (y.gpr rb) (y.gpr rc)) := by
  rw [exec_muldiv, execMuldiv, if_pos h]

/-- Settles O10: division by zero, the quotient that overflows, and the rest. -/
theorem divisions : Obligations.Divisions := by
  intro t rb ra rd s s' hs a b gives
  have quotient {w : Word} (hw : divWord a b = w) : gives (.muldiv t 0x04 0 rb ra rd) w :=
    intOp_ends (exec_muldiv_div _ _ _ _ _ _ (by decide)) hs rfl hw
  have quotientU {w : Word} (hw : divuWord a b = w) : gives (.muldiv t 0x05 0 rb ra rd) w :=
    intOp_ends (exec_muldiv_div _ _ _ _ _ _ (by decide)) hs rfl hw
  have remainder {w : Word} (hw : remWord a b = w) : gives (.muldiv t 0x06 0 rb ra rd) w :=
    intOp_ends (exec_muldiv_div _ _ _ _ _ _ (by decide)) hs rfl hw
  have remainderU {w : Word} (hw : remuWord a b = w) : gives (.muldiv t 0x07 0 rb ra rd) w :=
    intOp_ends (exec_muldiv_div _ _ _ _ _ _ (by decide)) hs rfl hw
  refine ⟨fun hb => ⟨quotient (if_pos hb), quotientU (if_pos hb), remainder (if_pos hb), remainderU (if_pos hb)⟩, fun ha hb => ?_,
    fun hb => ⟨quotient (divWord_eq hb), quotientU (divuWord_eq hb), remainder (remWord_eq hb), remainderU (remuWord_eq hb)⟩⟩
  have hdiv : divWord a b = 0x8000000000000000 := by rw [ha, hb]; decide
  have hrem : remWord a b = 0 := by rw [ha, hb]; decide
  exact ⟨quotient hdiv, remainder hrem⟩

end Sys2Proof.Machine

namespace Sys2Proof.Machine
open Sys2Proof

/-! ### Control transfers (R65 to R70) -/

theorem thread_countEv (s : State) (t ev : Nat) (x : Bool) (t' : Nat) : (s.countEv t ev x).thread t' = s.thread t' := by
  obtain ⟨⟨-, -, hother, -⟩, hself⟩ := countEv_countsOnly s t ev x
  by_cases h : t' = t
  · rw [h, hself]
  · exact hother t' h

theorem gpr_of_g {x y : Thread} (h : y.g = x.g) (r : BitVec 5) : y.gpr r = x.gpr r := by rw [Thread.gpr, Thread.gpr, h]

theorem mispredict_g (s : State) (t : Nat) : ((s.mispredict t).thread t).g = (s.thread t).g := by
  obtain ⟨-, r, n, hsquash⟩ := squash_threads (s.countEv t 0x05) t t
  rw [State.mispredict, hsquash, thread_countEv]

theorem mispredict_if_g (s : State) (t : Nat) (c : Bool) : ((if c then s.mispredict t else s).thread t).g = (s.thread t).g := by
  cases c
  · rfl
  · exact mispredict_g s t

theorem resolveCond_g (s : State) (t : Nat) (taken : Bool) (target : BitVec 57) :
    ((s.resolveCond t taken target).thread t).g = (s.thread t).g := by
  unfold State.resolveCond
  dsimp only
  rw [mispredict_if_g, thread_countEv, thread_modCore, modThread_thread_self]

theorem resolveJump_g (s : State) (t : Nat) (kind : Fin 5) (target : BitVec 57) :
    ((s.resolveJump t kind target).thread t).g = (s.thread t).g := by
  have hpush (u : State) (w : BitVec 57) : ((u.modThread t (fun y => y.pushRet w)).thread t).g = (u.thread t).g := by
    rw [modThread_thread_self]
    rfl
  have hpop (u : State) : ((u.modThread t (fun y => y.popRet)).thread t).g = (u.thread t).g := by
    rw [modThread_thread_self]
    rfl
  have hcount (c : Bool) (u : State) : ((if c then u.countEv t 0x06 else u).thread t).g = (u.thread t).g := by
    cases c
    · rfl
    · exact congrArg Thread.g (thread_countEv u t 0x06 true t)
  unfold State.resolveJump
  dsimp only
  split
  · rw [mispredict_if_g, hpush, thread_modCore]
  · rw [hcount, mispredict_if_g, hpop, thread_modCore]
  · rw [mispredict_if_g, thread_modCore]

/-- A conditional transfer: its slot, its target, annulment, and SLOT in a delay slot. -/
theorem condTransfer_branches {i : Instr} {s s' : State} {t : Nat} {a : Bool} {disp : BitVec 15} {cond : Thread → Bool} {c : Bool}
    (hi : exec i s = condTransfer s t a disp cond) (hs : s.starts t none s') (hc : cond (s'.thread t) = c) :
    ((s'.thread t).slot = none → Ends i s (fun u => (∀ r, (u.thread t).gpr r = (s'.thread t).gpr r) ∧
      (if c then s'.transfers u t ((s'.thread t).pc + 4) (some ((s'.thread t).pc + disp.signExtend 57 * 4))
       else if a then s'.transfers u t ((s'.thread t).pc + 8) none
       else s'.transfers u t ((s'.thread t).pc + 4) (some ((s'.thread t).pc + 8))))) ∧
    ((s'.thread t).slot ≠ none → exec i s = .next (s'.slotFault t)) := by
  have hrun := onThread_starts s s' t none
  refine ⟨fun hslot => ⟨_, hi.trans (hrun _ hs), ?_⟩, fun hslot => hi.trans ((hrun _ hs).trans ?_)⟩
  · have hpred := resolveCond_predictsOnly s' t c (branchTarget (s'.thread t).pc disp)
    have hgoes (pc : BitVec 57) (slot : Option (BitVec 57)) :
        let u := (s'.resolveCond t c (branchTarget (s'.thread t).pc disp)).retireTo t pc slot
        (∀ r, (u.thread t).gpr r = (s'.thread t).gpr r) ∧ s'.transfers u t pc slot := by
      obtain ⟨htransfers, hgpr⟩ := retire_transfers hpred pc slot
      exact ⟨fun r => (hgpr r).trans (gpr_of_g (resolveCond_g ..) r), htransfers⟩
    simp only [hslot, hc]
    cases c <;> cases a <;> exact hgoes _ _
  · simp only [Option.isSome_iff_ne_none.mpr hslot, if_true]

/-- An unconditional transfer outside a delay slot: its link and its target. -/
theorem uncondTransfer_jumps (s : State) (t : Nat) (a : Bool) (kind : Fin 5) (rd : BitVec 5) (target : BitVec 57) :
    wroteGpr (s.thread t) ((uncondTransfer s t a kind rd target).thread t) rd (wordOfPc (linkOf (s.thread t).pc)) ∧
      (if a then s.transfers (uncondTransfer s t a kind rd target) t target none
       else s.transfers (uncondTransfer s t a kind rd target) t ((s.thread t).pc + 4) (some target)) := by
  let link := wordOfPc (linkOf (s.thread t).pc)
  have hpred : s.predictsOnly ((s.resolveJump t kind target).modThread t (fun y => y.setGpr rd link)) t :=
    predictsOnly_trans (resolveJump_predictsOnly s t kind target)
      (predictsOnly_modThread _ t _ (fun y => unpredicted_of_special (special_setGpr y rd link)))
  have hgoes (pc : BitVec 57) (slot : Option (BitVec 57)) :
      let u := ((s.resolveJump t kind target).modThread t (fun y => y.setGpr rd link)).retireTo t pc slot
      wroteGpr (s.thread t) (u.thread t) rd link ∧ s.transfers u t pc slot := by
    obtain ⟨htransfers, hgpr⟩ := retire_transfers hpred pc slot
    refine ⟨fun r => (hgpr r).trans ?_, htransfers⟩
    rw [modThread_thread_self, gpr_setGpr, gpr_of_g (resolveJump_g ..)]
  cases a <;> exact hgoes _ _

theorem jumps_of_not_slot {s s' : State} {t : Nat} {c : Instr} (a : Bool) (kind : Fin 5) (rd : BitVec 5) (target : BitVec 57)
    (h : exec c s = .next (uncondTransfer s' t a kind rd target)) :
    Ends c s (fun u => wroteGpr (s'.thread t) (u.thread t) rd ((s'.thread t).pc + 8 |>.signExtend 64) ∧
      (if a then s'.transfers u t target none else s'.transfers u t ((s'.thread t).pc + 4) (some target))) :=
  ⟨_, h, uncondTransfer_jumps s' t a kind rd target⟩

/-- Settles O11: the conditional transfers share one proof, and so do the unconditional ones. -/
theorem controlTransfers : Obligations.ControlTransfers := by
  constructor
  · intro t a ra rb disp s s' hs y x z target branches
    have hslt (p q : Word) : p.slt q = decide (p.toInt < q.toInt) := rfl
    have hult (p q : Word) : p.ult q = decide (p.toNat < q.toNat) := rfl
    exact ⟨condTransfer_branches (exec_beq ..) hs rfl, condTransfer_branches (exec_bne ..) hs rfl,
      condTransfer_branches (exec_blt ..) hs (hslt x z),
      condTransfer_branches (exec_bge ..) hs (by rw [hslt, ← decide_not, decide_eq_decide, not_lt]),
      condTransfer_branches (exec_bltu ..) hs (hult x z),
      condTransfer_branches (exec_bgeu ..) hs (by rw [hult, ← decide_not, decide_eq_decide, not_lt])⟩
  · intro t a rd ra disp s s' hs y link jumps
    have hrun (f : State → State) : onThread s t.val none f = .next (f s') := onThread_starts s s' t.val none f hs
    have hout (hslot : y.slot = none) : (s'.thread t.val).slot.isSome = false := by rw [show (s'.thread t.val).slot = none from hslot]; rfl
    have hin (hslot : y.slot ≠ none) : (s'.thread t.val).slot.isSome = true := Option.isSome_iff_ne_none.mpr hslot
    have hjalr (hslot : y.slot = none) : exec (.jalr t a rd ra) s = .next (if (y.gpr ra).toNat % 4 ≠ 0 then
        s'.raise t.val { code := 0x04, eaddr := y.gpr ra } else
        uncondTransfer s' t.val a (jalrKind rd ra) rd (BitVec.ofNat 57 (y.gpr ra).toNat)) := by
      rw [exec_jalr, execJalr, hrun]
      simp only [hout hslot]
      rfl
    refine ⟨fun hslot => jumps_of_not_slot a 1 0 _ ?_, fun hslot => jumps_of_not_slot a 2 31 _ ?_,
      fun halign hslot => jumps_of_not_slot a (jalrKind rd ra) rd _ ?_, fun hslot halign => ?_, fun hslot => ⟨?_, ?_, ?_⟩⟩
    · rw [exec_j, execJ, hrun, hout hslot]
      rfl
    · rw [exec_jal, execJal, hrun, hout hslot]
      rfl
    · rw [hjalr hslot, if_neg (by omega)]
    · rw [hjalr hslot, if_pos halign]
    · rw [exec_j, execJ, hrun, hin hslot]
      rfl
    · rw [exec_jal, execJal, hrun, hin hslot]
      rfl
    · rw [exec_jalr, execJalr, hrun]
      simp only [hin hslot, if_true]

end Sys2Proof.Machine

namespace Sys2Proof.Machine
open Sys2Proof

/-! ### Loads, stores and far atomics (R71 to R77, R161 to R166) -/

section
variable {s u v : State} {t : Nat} (h : s.countsOnly u t)
include h

/-- What an instruction computes is not changed by counting before it. -/
theorem State.countsOnly.computes {rd : BitVec 5} {w : Word} (k : u.computes v t rd w) : s.computes v t rd w := by
  obtain ⟨honly, hself⟩ := h
  obtain ⟨⟨honly', hspecial⟩, hgpr, hgoes⟩ := k
  rw [hself] at hspecial hgpr hgoes
  exact ⟨⟨onlyThread_trans honly honly', hspecial⟩, hgpr, hgoes⟩

theorem State.countsOnly.jumps {pc : BitVec 57} {slot : Option (BitVec 57)} (k : u.jumps v t pc slot) : s.jumps v t pc slot := by
  obtain ⟨honly, hself⟩ := h
  obtain ⟨⟨honly', hspecial⟩, hgpr, hgoes⟩ := k
  rw [hself] at hspecial
  simp only [hself] at hgpr
  exact ⟨⟨onlyThread_trans honly honly', hspecial⟩, hgpr, hgoes⟩

end

theorem retire_jumps (s : State) (t : Nat) : s.jumps (s.retire t) t (s.thread t).nextPc none := retireTo_jumps s t _ none

theorem finishLoad_computes (s : State) (t : Nat) (rd : BitVec 5) (w : Word) :
    s.computes (s.finishLoad t (fun y => y.setGpr rd w)) t rd w :=
  (countMem_countsOnly s t true false).computes (finish_computes _ t rd w)

theorem finishStore_jumps (s : State) (t : Nat) : s.jumps (s.finishStore t) t (s.thread t).nextPc none := by
  have hcounts := countMem_countsOnly s t false true
  have hjumps := retire_jumps (s.countMem t false true) t
  rw [hcounts.2] at hjumps
  exact hcounts.jumps hjumps

theorem signedOf_eq_toInt {n : Nat} (h : 0 < n) (v : Nat) : signedOf n v = (BitVec.ofNat n v).toInt := by
  obtain ⟨k, rfl⟩ : ∃ k, n = k + 1 := ⟨n - 1, by omega⟩
  have hpow : 2 ^ (k + 1) = 2 * 2 ^ k := Nat.pow_succ'
  rw [BitVec.toInt_eq_toNat_cond, BitVec.toNat_ofNat]
  simp only [signedOf, Nat.add_sub_cancel]
  omega

theorem sextNat_eq_signExtend {n : Nat} (h : 0 < n) (v : Nat) : sextNat n v = (BitVec.ofNat n v).signExtend 64 := by
  rw [sextNat, signedOf_eq_toInt h]
  rfl

theorem ofNat_mod_eq_zeroExtend {n : Nat} (v : Nat) : BitVec.ofNat 64 (v % 2 ^ n) = (BitVec.ofNat n v).zeroExtend 64 := by
  rw [← BitVec.toNat_ofNat, BitVec.ofNat_toNat]

theorem loadExtend_eq (op : LoadOp) (v : Nat) : loadExtend op v = loadedWord op v := by
  cases op with
  | lb | lh | lw => exact sextNat_eq_signExtend (by decide) v
  | ld => rfl
  | lbu | lhu | lwu => exact ofNat_mod_eq_zeroExtend v

/-- A load from cacheable memory whose bytes are held; an acquire has no older store of its thread left to drain. -/
theorem loadAt_held {s s2 s3 : State} {t : Nat} {op : LoadOp} {va : Word} {acquire : Bool} {ps : List Piece} {v : Nat} (rd : BitVec 5)
    (hp : s.pieces t va (loadSize op) .load (if acquire then .aligned else .plain) = (s2, .ok ps)) (hmb : acquire = true → s2.mbOf t = [])
    (hne : ps ≠ []) (hmt : ∀ p ∈ ps, p.mt = 0) (hr : s2.readPieces t ps = (s3, some v)) :
    s.loadAt t op rd va acquire = s3.finishLoad t (fun y => y.setGpr rd (loadExtend op v)) := by
  have hdrained : (acquire && !(s2.mbOf t).isEmpty) = false := by
    cases acquire
    · rfl
    · simp [hmb rfl]
  obtain ⟨p, l, rfl⟩ := List.exists_cons_of_ne_nil hne
  simp only [State.loadAt, hp, hdrained, Bool.false_eq_true, if_false, hmt p List.mem_cons_self, if_true, hr]

/-- Settles O12: the four loads, and the prefetch. -/
theorem loadsAndPrefetch : Obligations.LoadsAndPrefetch := by
  constructor
  · intro t op rd ra rb imm s s' s2 s3 ps v hs hne hmt hr y loads
    have run {c : Instr} {op : LoadOp} {va : Word} {acquire : Bool} {form : AccForm}
        (hc : exec c s = onThread s t.val (some 2) (fun _ => s'.loadAt t.val op rd va acquire))
        (hform : (if acquire then AccForm.aligned else .plain) = form) : loads c op va form := by
      subst hform
      refine fun hp hmb => ⟨_, hc.trans (onThread_starts s s' t.val _ _ hs), ?_⟩
      rw [loadAt_held rd hp (fun ha => hmb (if_pos ha)) hne hmt hr, loadExtend_eq]
      exact finishLoad_computes s3 t.val rd _
    have start (f : State → State) : onThread s t.val (some 2) f = onThread s t.val (some 2) (fun _ => f s') := by
      rw [onThread_starts s s' t.val _ _ hs, onThread_starts s s' t.val _ _ hs]
    exact ⟨run (acquire := false) (start _) rfl, run (acquire := false) (start _) rfl,
      run (acquire := true) (start _) rfl, run (acquire := true) (start _) rfl⟩
  · intro t write ra rb s s' hs f
    exact ⟨f.retire t.val, onThread_starts s s' t.val _ _ hs, retire_jumps f t.val, (retire_mem f t.val).trans (prefetch_mem ..)⟩

/-! #### A release that an earlier device store holds back (R99) -/

/-- A release store follows every earlier device store of its thread. -/
theorem storeAt_release_held {s s2 : State} {t n : Nat} {v va : Word} {p : Piece} {ps : List Piece}
    (hp : s.pieces t va n .store .aligned = (s2, .ok (p :: ps))) (hmt : p.mt ≠ 2) (hd : s2.devicePending t = true) :
    s.storeAt t n v va true = s2 := by
  simp [State.storeAt, hp, hmt, hd]

/-- So does an atomic with release ordering. -/
theorem atomRun_release_held {s s2 : State} {t : Nat} {op : AtomOp} {wide : Bool} {ord : BitVec 2} {rd : BitVec 5}
    {va operand compare : Word} {p : Piece} {ps : List Piece}
    (hp : s.pieces t va (if wide then 8 else 4) .store .atomic = (s2, .ok (p :: ps)))
    (hord : ord.getLsbD 1 = true) (hd : s2.devicePending t = true) : s.atomRun t op wide ord rd va operand compare = s2 := by
  simp [State.atomRun, hp, hord, hd]

/-- A running package with DRAM, whose thread 0 stands at H at address 0 without tables; its store to a device register is under way. -/
def deviceStoreUnderWay : State :=
  { (State.reset.setFld regGlbMode 3 0 modeRunI).setReg regDmcTop (BitVec.ofNat 64 (2 ^ 40)) with
    sent := [{ type := .regWrite, hdr := {} }] }

/-- The first four bytes of DRAM, as uncached memory. -/
def firstBytes : Piece := { va := 0, pa := 0, len := 4, mt := 1 }

/-- The buffer would take a release store of 0 to them. -/
def releaseTaken : State := ((deviceStoreUnderWay.closeMb 0).mbStorePieces 0 0 true [firstBytes]).getD State.reset

theorem deviceStoreUnderWay_starts : deviceStoreUnderWay.starts 0 (some 3) deviceStoreUnderWay :=
  instructionStarts _ _ _ (by decide +kernel) (by decide +kernel) (by decide +kernel) (by decide +kernel) (by decide +kernel)
    (by decide +kernel) (by decide +kernel) (by decide +kernel) (by decide +kernel)

/-- Refutes O13: its release stores retire whenever the buffer takes them, but a release store follows every earlier device store of its
thread (R99). In `deviceStoreUnderWay` the device store is not performed, and SRW stays where it is. -/
theorem not_stores : ¬ Obligations.Stores := by
  intro h
  have hpieces : deviceStoreUnderWay.pieces 0 0 4 .store .aligned = (deviceStoreUnderWay, .ok [firstBytes]) := by decide +kernel
  have htaken : (deviceStoreUnderWay.closeMb 0).mbStorePieces 0 0 true [firstBytes] = some releaseTaken := by decide +kernel
  obtain ⟨-, -, hsrw, -⟩ := h 0 .sb 0 0 0 0 deviceStoreUnderWay deviceStoreUnderWay deviceStoreUnderWay releaseTaken firstBytes []
    deviceStoreUnderWay_starts (by decide)
  obtain ⟨u, hu, -, -, hpc, -⟩ := hsrw hpieces htaken
  have hheld : exec (.srw 0 0 0) deviceStoreUnderWay = .next deviceStoreUnderWay := by
    rw [exec_srw, execSrw]
    exact (onThread_starts _ _ 0 (some 3) _ deviceStoreUnderWay_starts).trans
      (congrArg _ (storeAt_release_held hpieces (by decide) (by decide +kernel)))
  obtain rfl : deviceStoreUnderWay = u := Host.Outcome.next.inj (hheld.symm.trans hu)
  exact absurd hpc (by decide +kernel)

/-- A level-1 leaf at address 0 that grants all but U, as the TLB holds it for realm 0 at H; `mt` is its memory type. -/
def lowPages (mt : Nat) : Tlb :=
  { realm := 0, hreg := true, asn := 0, global := false, va := 0, level := 1, group := false, small := false,
    leaf := BitVec.ofNat 64 (0x19f + mt * 512) }

/-- The same thread with tables: it fetches from uncached pages and reaches address 0 in cacheable memory, whose home grants it a credit. -/
def atomicAfterDeviceStore : State :=
  { deviceStoreUnderWay with
    threads := [(0, { h := { ttbase := 1 } })]
    cores := [(0, { itlb := [lowPages 1], dtlb := [lowPages 0] })]
    dies := [(0, { deviceStoreUnderWay.die 0 with creds := [(0, 1)] })] }

/-- The first four bytes of DRAM, cacheable. -/
def firstCached : Piece := { firstBytes with mt := 0 }

theorem atomicAfterDeviceStore_starts : atomicAfterDeviceStore.starts 0 (some 1) atomicAfterDeviceStore := by
  unfold State.starts
  decide +kernel

/-- Refutes O15: its atomics send their request whenever no entry of the merging buffer holds them back and a credit is held, but one with
release ordering follows every earlier device store of its thread too (R99). In `atomicAfterDeviceStore` the device store is not performed,
and AADD with ordering 2 sends nothing. -/
theorem not_farAtomics : ¬ Obligations.FarAtomics := by
  intro h
  have hpieces (form : AccForm) (hform : form = .aligned ∨ form = .atomic) :
      atomicAfterDeviceStore.pieces 0 0 4 .store form = (atomicAfterDeviceStore, .ok [firstCached]) := by
    rcases hform with rfl | rfl <;> decide +kernel
  obtain ⟨haadd, -⟩ := h 0 false 2 0 0 0 0 atomicAfterDeviceStore atomicAfterDeviceStore atomicAfterDeviceStore firstCached
    atomicAfterDeviceStore_starts (hpieces _ (.inl rfl)) rfl (by decide +kernel) ⟨by decide +kernel, by decide +kernel⟩
  obtain ⟨u, hu, hsent, -⟩ := haadd
  have hheld : exec (.aadd 0 false 2 0 0 0) atomicAfterDeviceStore = .next atomicAfterDeviceStore := by
    rw [exec_aadd, execAadd, atomInstr]
    exact (onThread_starts _ _ 0 (some 1) _ atomicAfterDeviceStore_starts).trans
      (congrArg _ (atomRun_release_held (hpieces _ (.inr rfl)) (by decide) (by decide +kernel)))
  obtain rfl : atomicAfterDeviceStore = u := Host.Outcome.next.inj (hheld.symm.trans hu)
  exact absurd (congrArg List.length hsent) (by simp)

/-! ### Vector loads and stores (R79, R81) -/

/-- No element of a contiguous access must be aligned (R81). -/
@[simp] theorem find?_false {α : Type} (l : List α) : l.find? (fun _ => false) = none :=
  List.find?_eq_none.mpr (fun _ _ => Bool.false_ne_true)

/-- The elements' pieces of VLD and VST meet no exception: they are read, or enter the merging buffer. -/
theorem vmemRun_load {s s2 s3 : State} {t : Nat} {esz : BitVec 2} {k : BitVec 3} {va : BitVec 5} {r : VAcc} {l : List (Nat × Nat)}
    (vb vd : BitVec 5) (hwait : r.wait = false) (hexcs : r.excs = [])
    (hp : s.vecPieces t (fun i => (s.thread t).gpr va + BitVec.ofNat 64 (i * 2 ^ esz.toNat)) (2 ^ esz.toNat) .load false
      ((upTo (elemCount esz)).filter (active ((s.thread t).mask k))) = (s2, r)) (hr : s2.vecRead t r.ps = (s3, some l)) :
    s.vmemRun t 0x00 esz k vb va vd =
      s3.finishLoad t (fun y => y.setVec vd (mapActive esz ((s.thread t).mask k) (y.vec vd) (Tbl.get 0 l))) := by
  simp [State.vmemRun, hp, hwait, hexcs, pickExc, hr]

theorem vmemRun_store {s s2 s3 : State} {t : Nat} {esz : BitVec 2} {k : BitVec 3} {va vd : BitVec 5} {r : VAcc}
    (vb : BitVec 5) (hwait : r.wait = false) (hexcs : r.excs = [])
    (hp : s.vecPieces t (fun i => (s.thread t).gpr va + BitVec.ofNat 64 (i * 2 ^ esz.toNat)) (2 ^ esz.toNat) .store false
      ((upTo (elemCount esz)).filter (active ((s.thread t).mask k))) = (s2, r))
    (hst : s2.vecStore t (elem (elemBits esz) ((s.thread t).vec vd)) r.ps = some s3) :
    s.vmemRun t 0x01 esz k vb va vd = s3.finishStore t := by
  simp [State.vmemRun, hp, hwait, hexcs, pickExc, hst]

@[simp] theorem vec_setVec (y : Thread) (vd r : BitVec 5) (x : BitVec 256) : (y.setVec vd x).vec r = if r = vd then x else y.vec r := by
  simp only [Thread.vec, Thread.setVec, Tbl_get_set, BitVec.toNat_inj]

theorem vec_of_special {x y : Thread} (h : y.special = x.special) (r : BitVec 5) : y.vec r = x.vec r := by
  change y.special.vec r = x.special.vec r
  rw [h]

/-- Settles O18: VLD and VST run the access their elements have been checked for. -/
theorem vectorMemory : Obligations.VectorMemory := by
  intro t esz k va vd s s' s2 s3 r l hs hwait hexcs y len addr act
  refine ⟨fun hp hr => ⟨_, onThread_starts s s' t.val _ _ hs, ?_⟩, fun hp hst => ⟨_, onThread_starts s s' t.val _ _ hs, ?_⟩⟩
  · rw [if_pos (by rfl), show (0x00 : BitVec 6).toNat = 0x00 from rfl, vmemRun_load 0 vd hwait hexcs hp hr]
    obtain ⟨hcounts, hself⟩ := countMem_countsOnly s3 t.val true false
    obtain ⟨honly, hspecial, -, hpc, hslot⟩ := finish_spec (s3.countMem t.val true false) t.val
      (fun y => y.setVec vd (mapActive esz ((s'.thread t.val).mask k) (y.vec vd) (Tbl.get 0 l))) rfl
    rw [hself] at hspecial hpc
    refine ⟨onlyThread_trans hcounts honly, hslot, hpc, fun q hq => ?_, ?_⟩
    · rw [State.finishLoad, vec_of_special hspecial, vec_setVec, if_neg hq]
    · rw [State.finishLoad, vec_of_special hspecial, vec_setVec, if_pos rfl]
  · rw [if_pos (by rfl), show (0x01 : BitVec 6).toNat = 0x01 from rfl, vmemRun_store 0 hwait hexcs hp hst]
    exact finishStore_jumps s3 t.val

end Sys2Proof.Machine

namespace Sys2Proof.Machine
open Sys2Proof

/-! ### Vector registers (R78 to R83) -/

/-! #### Elements of a register -/

theorem packElems_lt (w : Nat) (f : Nat → Nat) (n : Nat) : packElems w f n < 2 ^ (w * n) := by
  induction n with
  | zero => simp [packElems]
  | succ n ih =>
    have hlast : f n % 2 ^ w < 2 ^ w := Nat.mod_lt _ (Nat.two_pow_pos w)
    calc packElems w f n + f n % 2 ^ w * 2 ^ (w * n)
        < 2 ^ (w * n) + f n % 2 ^ w * 2 ^ (w * n) := by omega
      _ = (f n % 2 ^ w + 1) * 2 ^ (w * n) := by ring
      _ ≤ 2 ^ w * 2 ^ (w * n) := Nat.mul_le_mul_right _ hlast
      _ = 2 ^ (w * (n + 1)) := by rw [← Nat.pow_add, Nat.mul_succ, Nat.add_comm]

theorem packElems_elem (w : Nat) (f : Nat → Nat) {n i : Nat} (h : i < n) : packElems w f n / 2 ^ (w * i) % 2 ^ w = f i % 2 ^ w := by
  induction n with
  | zero => omega
  | succ n ih =>
    rw [packElems]
    by_cases hin : i = n
    · subst hin
      rw [Nat.add_mul_div_right _ _ (Nat.two_pow_pos _), Nat.div_eq_of_lt (packElems_lt w f i), Nat.zero_add, Nat.mod_mod]
    · have hpow : 2 ^ (w * n) = 2 ^ (w * (n - 1 - i)) * 2 ^ w * 2 ^ (w * i) := by
        rw [← Nat.pow_add, ← Nat.pow_add]
        congr 1
        obtain ⟨d, rfl⟩ : ∃ d, n = i + 1 + d := ⟨n - 1 - i, by omega⟩
        rw [show i + 1 + d - 1 - i = d by omega]
        ring
      rw [hpow, ← Nat.mul_assoc, ← Nat.mul_assoc, Nat.add_mul_div_right _ _ (Nat.two_pow_pos _), Nat.add_mul_mod_self_right]
      exact ih (by omega)

theorem elemBits_mul_elemCount (esz : BitVec 2) : elemBits esz * elemCount esz = 256 := by
  revert esz
  decide

/-- The elements of a register that is given by its elements. -/
theorem elem_vecOf (esz : BitVec 2) (f : Nat → Nat) {i : Nat} (h : i < elemCount esz) :
    elem (elemBits esz) (vecOf esz f) i = f i % 2 ^ elemBits esz := by
  have hlt := packElems_lt (elemBits esz) f (elemCount esz)
  rw [elemBits_mul_elemCount] at hlt
  rw [elem, vecOf, BitVec.toNat_ofNat, Nat.mod_eq_of_lt hlt, Nat.shiftRight_eq_div_pow, packElems_elem _ _ h]

@[simp] theorem mask_setMask (y : Thread) (kd q : BitVec 3) (x : BitVec 32) :
    (y.setMask kd x).mask q = if q = kd ∧ q ≠ 0 then x else y.mask q := by
  unfold Thread.setMask Thread.mask
  by_cases hkd : kd = 0
  · subst hkd
    by_cases hq : q = 0 <;> simp [hq]
  · rw [if_neg hkd]
    by_cases hq : q = 0
    · simp [hq]
    · rw [if_neg hq, if_neg hq, Tbl_get_set]
      simp only [BitVec.toNat_inj, ne_eq, hq, not_false_eq_true, and_true]

/-! #### An instruction that writes one vector or mask register -/

/-- The instruction leaves the thread as `y`, in which vd holds the elements of `f`. -/
theorem finish_writesVec {s : State} {t : Nat} {y : Thread} {vd : BitVec 5} {esz : BitVec 2} {f g : Nat → Nat}
    (hnext : y.nextPc = (s.thread t).nextPc) (hg : y.g = (s.thread t).g) (hk : y.k = (s.thread t).k)
    (hv : y.v = ((s.thread t).setVec vd (vecOf esz f)).v)
    (hfg : ∀ i, i < elemCount esz → f i % 2 ^ elemBits esz = g i % 2 ^ elemBits esz) :
    s.writesVec (s.finish t (fun _ => y)) t vd esz g ∧ ((s.finish t (fun _ => y)).thread t).fpcsr = y.fpcsr := by
  obtain ⟨honly, hspecial, hgpr, hgoes⟩ := finish_spec s t (fun _ => y) hnext
  have hvec (r : BitVec 5) : ((s.finish t (fun _ => y)).thread t).vec r = if r = vd then vecOf esz f else (s.thread t).vec r := by
    rw [vec_of_special hspecial, Thread.vec, hv]
    exact vec_setVec (s.thread t) vd r _
  refine ⟨⟨honly, hgoes, fun r => (hgpr r).trans (gpr_of_g hg r), fun r hr => ?_, ?_, fun i hi => ?_⟩, congrArg (·.fpcsr) hspecial⟩
  · rw [hvec, if_neg hr]
  · exact (congrArg (·.k) hspecial).trans hk
  · rw [hvec, if_pos rfl, elem_vecOf esz f hi, hfg i hi]

/-- The instruction leaves the thread as `y`, in which mask register `kd` holds `x`. -/
theorem finish_writesMask {s : State} {t : Nat} {y : Thread} {kd : BitVec 3} {x : BitVec 32}
    (hnext : y.nextPc = (s.thread t).nextPc) (hg : y.g = (s.thread t).g) (hv : y.v = (s.thread t).v)
    (hk : y.k = ((s.thread t).setMask kd x).k) :
    s.writesMask (s.finish t (fun _ => y)) t kd x ∧ ((s.finish t (fun _ => y)).thread t).fpcsr = y.fpcsr := by
  obtain ⟨honly, hspecial, hgpr, hgoes⟩ := finish_spec s t (fun _ => y) hnext
  refine ⟨⟨honly, hgoes, fun r => (hgpr r).trans (gpr_of_g hg r), (congrArg (·.v) hspecial).trans hv, fun q => ?_⟩,
    congrArg (·.fpcsr) hspecial⟩
  have hmask : ((s.finish t (fun _ => y)).thread t).k = ((s.thread t).setMask kd x).k := (congrArg (·.k) hspecial).trans hk
  rw [← mask_setMask, Thread.mask, Thread.mask, hmask]

/-- A write of a mask register leaves the rest of the thread. -/
theorem setMask_keeps (y : Thread) (kd : BitVec 3) (x : BitVec 32) :
    (y.setMask kd x).nextPc = y.nextPc ∧ (y.setMask kd x).g = y.g ∧ (y.setMask kd x).v = y.v ∧ (y.setMask kd x).fpcsr = y.fpcsr := by
  unfold Thread.setMask
  split <;> exact ⟨rfl, rfl, rfl, rfl⟩

theorem finish_setMask (s : State) (t : Nat) (kd : BitVec 3) (x : BitVec 32) :
    s.writesMask (s.finish t (fun _ => (s.thread t).setMask kd x)) t kd x ∧
      ((s.finish t (fun _ => (s.thread t).setMask kd x)).thread t).fpcsr = (s.thread t).fpcsr := by
  obtain ⟨hnext, hg, hv, hfpcsr⟩ := setMask_keeps (s.thread t) kd x
  exact (finish_writesMask hnext hg hv rfl).imp_right (fun h => h.trans hfpcsr)

/-! #### VINT (R79) -/

section
variable {t : ThreadPos} {fn : BitVec 6} {esz : BitVec 2} {k : BitVec 3} {vb va vd : BitVec 5} {s s' : State}

theorem exec_vint_some (hs : s.starts t.val (some 6) s') {y : Thread} (h : (s'.thread t.val).vint fn.toNat esz k vb va vd = some y) :
    exec (.vint t fn esz k vb va vd) s = .next (s'.finish t.val (fun _ => y)) := by
  rw [exec_vint, execVint, onThread_starts _ _ _ _ _ hs, h]

theorem exec_vint_none (hs : s.starts t.val (some 6) s') (h : (s'.thread t.val).vint fn.toNat esz k vb va vd = none) :
    exec (.vint t fn esz k vb va vd) s = .next (s'.illegal t.val) := by
  rw [exec_vint, execVint, onThread_starts _ _ _ _ _ hs, h]

/-- A code of element-wise arithmetic. -/
theorem vint_elems (hs : s.starts t.val (some 6) s') {f : Nat → Nat} (hcmp : vintCmp fn.toNat (elemBits esz) 0 0 = none)
    (hcode : (vintElem fn.toNat (elemBits esz) 0 0).isSome = true)
    (hf : ∀ i, (vintElem fn.toNat (elemBits esz) (elem (elemBits esz) ((s'.thread t.val).vec va) i)
      (elem (elemBits esz) ((s'.thread t.val).vec vb) i)).getD 0 % 2 ^ elemBits esz = f i % 2 ^ elemBits esz) :
    Ends (.vint t fn esz k vb va vd) s (fun u => s'.writesVec u t.val vd esz (fun i => if active ((s'.thread t.val).mask k) i then f i
      else elem (elemBits esz) ((s'.thread t.val).vec vd) i) ∧ (u.thread t.val).fpcsr = (s'.thread t.val).fpcsr) := by
  have hy : (s'.thread t.val).vint fn.toNat esz k vb va vd = some ((s'.thread t.val).setVec vd (mapActive esz ((s'.thread t.val).mask k)
      ((s'.thread t.val).vec vd) (fun i => (vintElem fn.toNat (elemBits esz) (elem (elemBits esz) ((s'.thread t.val).vec va) i)
        (elem (elemBits esz) ((s'.thread t.val).vec vb) i)).getD 0))) := by
    rw [Thread.vint, hcmp, if_neg (by simp), if_pos hcode]
  refine ⟨_, exec_vint_some hs hy, finish_writesVec rfl rfl rfl rfl (fun i hi => ?_)⟩
  split
  · exact hf i
  · rfl

/-- A code of comparison. -/
theorem vint_compares (hs : s.starts t.val (some 6) s') {f : Nat → Bool} (hcmp : (vintCmp fn.toNat (elemBits esz) 0 0).isSome = true)
    (hf : ∀ i, (vintCmp fn.toNat (elemBits esz) (elem (elemBits esz) ((s'.thread t.val).vec va) i)
      (elem (elemBits esz) ((s'.thread t.val).vec vb) i)).getD false = f i) :
    (vd.toNat < 8 → Ends (.vint t fn esz k vb va vd) s (fun u => (u.thread t.val).fpcsr = (s'.thread t.val).fpcsr ∧
      s'.writesMask u t.val (vd.truncate 3)
        (BitVec.ofNat 32 (maskOf (fun i => active ((s'.thread t.val).mask k) i && f i) (elemCount esz))))) ∧
    (8 ≤ vd.toNat → exec (.vint t fn esz k vb va vd) s = .next (s'.illegal t.val)) := by
  refine ⟨fun hvd => ?_, fun hvd => exec_vint_none hs ?_⟩
  · have hmask : maskField vd = true := decide_eq_true hvd
    have hy : (s'.thread t.val).vint fn.toNat esz k vb va vd = some ((s'.thread t.val).setMask (maskReg vd)
        (BitVec.ofNat 32 (maskOf (fun i => active ((s'.thread t.val).mask k) i && f i) (elemCount esz)))) := by
      rw [Thread.vint, if_pos hcmp, if_pos hmask]
      simp only [hf]
    exact ⟨_, exec_vint_some hs hy, (finish_setMask s' t.val (maskReg vd) _).symm⟩
  · have hmask : ¬ maskField vd = true := by simpa [maskField] using hvd
    rw [Thread.vint, if_pos hcmp, if_neg hmask]

theorem vint_unassigned (y : Thread) (h : fn = 0x0F ∨ fn = 0x13 ∨ 0x16 ≤ fn.toNat) : y.vint fn.toNat esz k vb va vd = none := by
  rcases h with rfl | rfl | h
  · rfl
  · rfl
  · obtain ⟨m, hm⟩ := Nat.exists_eq_add_of_le' h
    rw [hm]
    rfl

end

/-- The sum of two signed elements, held within the range of an element. -/
theorem clamp_eq (lo hi r : Int) (h : lo ≤ hi) : (if r > hi then hi else if r < lo then lo else r) = max lo (min hi r) := by
  split
  · omega
  · split <;> omega

/-- The sum of two elements, held at the largest. -/
theorem saturate_eq {n : Nat} (r : Nat) (h : 0 < n) : (if r < n then r else n - 1) = min (n - 1) r := by
  split <;> omega

/-! #### VFP (R79, R80, R83) -/

/-- The format of an element of esz 10b or 11b. -/
abbrev fpFormat (esz : BitVec 2) : FpFormat := if esz = 2 then fp32 else fp64

theorem fpFormat_eq (esz : BitVec 2) : (if esz.toNat = 2 then fp32 else fp64) = fpFormat esz := by
  revert esz
  decide

theorem fpFormat_width {esz : BitVec 2} (h : 2 ≤ esz.toNat) : (fpFormat esz).width = elemBits esz := by
  revert esz
  decide

/-- Element `i` of vector register `r`. -/
abbrev Thread.lane (y : Thread) (esz : BitVec 2) (r : BitVec 5) (i : Nat) : Nat := elem (elemBits esz) (y.vec r) i

section
variable {t : ThreadPos} {fn : BitVec 6} {esz : BitVec 2} {k : BitVec 3} {vb va vd : BitVec 5} {s s' : State}

theorem exec_vfp_some (hs : s.starts t.val (some 7) s') {y : Thread} (h : (s'.thread t.val).vfp fn.toNat esz k vb va vd = some y) :
    exec (.vfp t fn esz k vb va vd) s = .next (s'.finish t.val (fun _ => y)) := by
  rw [exec_vfp, execVfp, onThread_starts _ _ _ _ _ hs, h]

theorem exec_vfp_none (hs : s.starts t.val (some 7) s') (h : (s'.thread t.val).vfp fn.toNat esz k vb va vd = none) :
    exec (.vfp t fn esz k vb va vd) s = .next (s'.illegal t.val) := by
  rw [exec_vfp, execVfp, onThread_starts _ _ _ _ _ hs, h]

/-- A code of element-wise arithmetic: the results and the flags of the active elements. -/
theorem vfp_ops (hs : s.starts t.val (some 7) s') (hesz : 2 ≤ esz.toNat) {g : Nat → FpRes}
    (hvb : ¬((fn.toNat = 0x05 ∨ fn.toNat = 0x18 ∨ fn.toNat = 0x19) ∧ vb ≠ 0))
    (hcmp : vfpCmp fn.toNat (fpFormat esz) 0 0 = none) (hcode : (vfpElem fn.toNat (fpFormat esz) 0 0 0 0).isSome = true)
    (hg : ∀ i, (vfpElem fn.toNat (fpFormat esz) (s'.thread t.val).rm ((s'.thread t.val).lane esz va i) ((s'.thread t.val).lane esz vb i)
      ((s'.thread t.val).lane esz vd i)).getD (0, 0) = g i) :
    Ends (.vfp t fn esz k vb va vd) s (fun u =>
      (u.thread t.val).fpcsr = (s'.thread t.val).fpcsr |||
        BitVec.ofNat 64 (256 * (orFlags ((s'.thread t.val).mask k) (fun i => (g i).2) (elemCount esz) % 32)) ∧
      s'.writesVec u t.val vd esz (fun i => if active ((s'.thread t.val).mask k) i then (g i).1 else (s'.thread t.val).lane esz vd i)) := by
  have hy : (s'.thread t.val).vfp fn.toNat esz k vb va vd = some (((s'.thread t.val).setVec vd (mapActive esz ((s'.thread t.val).mask k)
      ((s'.thread t.val).vec vd) (fun i => (g i).1))).raiseFp
        (orFlags ((s'.thread t.val).mask k) (fun i => (g i).2) (elemCount esz))) := by
    rw [Thread.vfp, if_neg (by omega), if_neg hvb]
    simp only [fpFormat_eq, hcmp, hcode, hg, Option.isSome_none, Bool.false_eq_true, if_false, if_true]
  obtain ⟨hwrites, hfpcsr⟩ := finish_writesVec (s := s') (t := t.val) (vd := vd) (esz := esz)
    (y := ((s'.thread t.val).setVec vd (mapActive esz ((s'.thread t.val).mask k) ((s'.thread t.val).vec vd) (fun i => (g i).1))).raiseFp
        (orFlags ((s'.thread t.val).mask k) (fun i => (g i).2) (elemCount esz))) rfl rfl rfl rfl (fun _ _ => rfl)
  refine ⟨_, exec_vfp_some hs hy, ?_, hwrites⟩
  rw [hfpcsr, Nat.mul_comm 256]
  rfl

/-- A code of comparison: the mask bits and the flags of the active elements. -/
theorem vfp_tests (hs : s.starts t.val (some 7) s') (hesz : 2 ≤ esz.toNat) {g : Nat → Bool} {fl : Nat → Nat}
    (hvb : ¬((fn.toNat = 0x05 ∨ fn.toNat = 0x18 ∨ fn.toNat = 0x19) ∧ vb ≠ 0))
    (hcmp : (vfpCmp fn.toNat (fpFormat esz) 0 0).isSome = true)
    (hg : ∀ i, (vfpCmp fn.toNat (fpFormat esz) ((s'.thread t.val).lane esz va i) ((s'.thread t.val).lane esz vb i)).getD (false, 0) =
      (g i, fl i)) :
    (vd.toNat < 8 → Ends (.vfp t fn esz k vb va vd) s (fun u =>
      (u.thread t.val).fpcsr = (s'.thread t.val).fpcsr |||
        BitVec.ofNat 64 (256 * (orFlags ((s'.thread t.val).mask k) fl (elemCount esz) % 32)) ∧
      s'.writesMask u t.val (vd.truncate 3)
        (BitVec.ofNat 32 (maskOf (fun i => active ((s'.thread t.val).mask k) i && g i) (elemCount esz))))) ∧
    (8 ≤ vd.toNat → exec (.vfp t fn esz k vb va vd) s = .next (s'.illegal t.val)) := by
  refine ⟨fun hvd => ?_, fun hvd => exec_vfp_none hs ?_⟩
  · have hmask : maskField vd = true := decide_eq_true hvd
    have hy : (s'.thread t.val).vfp fn.toNat esz k vb va vd = some (((s'.thread t.val).setMask (maskReg vd)
        (BitVec.ofNat 32 (maskOf (fun i => active ((s'.thread t.val).mask k) i && g i) (elemCount esz)))).raiseFp
          (orFlags ((s'.thread t.val).mask k) fl (elemCount esz))) := by
      rw [Thread.vfp, if_neg (by omega), if_neg hvb]
      simp only [fpFormat_eq, hcmp, hmask, hg, if_true]
    obtain ⟨hnext, hgp, hv, hfp⟩ := setMask_keeps (s'.thread t.val) (maskReg vd)
      (BitVec.ofNat 32 (maskOf (fun i => active ((s'.thread t.val).mask k) i && g i) (elemCount esz)))
    obtain ⟨hwrites, hfpcsr⟩ := finish_writesMask (s := s') (t := t.val)
      (y := ((s'.thread t.val).setMask (maskReg vd) _).raiseFp (orFlags ((s'.thread t.val).mask k) fl (elemCount esz))) hnext hgp hv rfl
    refine ⟨_, exec_vfp_some hs hy, ?_, hwrites⟩
    rw [hfpcsr, Nat.mul_comm 256, ← hfp]
    rfl
  · have hmask : ¬ maskField vd = true := by simpa [maskField] using hvd
    rw [Thread.vfp, if_neg (by omega), if_neg hvb]
    simp only [fpFormat_eq, hcmp, hmask, if_true, Bool.false_eq_true, if_false]

theorem vfp_esz (hs : s.starts t.val (some 7) s') (h : esz.toNat < 2) : exec (.vfp t fn esz k vb va vd) s = .next (s'.illegal t.val) :=
  exec_vfp_none hs (if_pos h)

/-- A code with one operand has vb 0. -/
theorem vfp_unused_vb (hs : s.starts t.val (some 7) s') (hesz : 2 ≤ esz.toNat)
    (hfn : fn.toNat = 0x05 ∨ fn.toNat = 0x18 ∨ fn.toNat = 0x19)
    (h : vb ≠ 0) : exec (.vfp t fn esz k vb va vd) s = .next (s'.illegal t.val) :=
  exec_vfp_none hs (by rw [Thread.vfp, if_neg (by omega), if_pos ⟨hfn, h⟩])

theorem vfp_unassigned (hs : s.starts t.val (some 7) s') (hesz : 2 ≤ esz.toNat)
    (hfn : ¬(fn.toNat = 0x05 ∨ fn.toNat = 0x18 ∨ fn.toNat = 0x19)) (hcmp : vfpCmp fn.toNat (fpFormat esz) 0 0 = none)
    (hcode : vfpElem fn.toNat (fpFormat esz) 0 0 0 0 = none) : exec (.vfp t fn esz k vb va vd) s = .next (s'.illegal t.val) :=
  exec_vfp_none hs (by
    rw [Thread.vfp, if_neg (by omega), if_neg (fun h => hfn h.1)]
    simp only [fpFormat_eq, hcmp, hcode, Option.isSome_none, Bool.false_eq_true, if_false])

/-! #### VMASK (R79, R80) -/

theorem exec_vmask_some (hs : s.starts t.val (if fn.toNat < 8 then none else some 6) s') {y : Thread}
    (h : (s'.thread t.val).vmask fn.toNat esz k vb va vd = some y) :
    exec (.vmask t fn esz k vb va vd) s = .next (s'.finish t.val (fun _ => y)) := by
  rw [exec_vmask, execVmask, onThread_starts _ _ _ _ _ hs, h]

theorem exec_vmask_none (hs : s.starts t.val (if fn.toNat < 8 then none else some 6) s')
    (h : (s'.thread t.val).vmask fn.toNat esz k vb va vd = none) :
    exec (.vmask t fn esz k vb va vd) s = .next (s'.illegal t.val) := by
  rw [exec_vmask, execVmask, onThread_starts _ _ _ _ _ hs, h]

theorem vmask_writesMask (hs : s.starts t.val (if fn.toNat < 8 then none else some 6) s') {x : BitVec 32}
    (h : (s'.thread t.val).vmask fn.toNat esz k vb va vd = some ((s'.thread t.val).setMask (maskReg vd) x)) :
    Ends (.vmask t fn esz k vb va vd) s (fun u => s'.writesMask u t.val (vd.truncate 3) x ∧
      (u.thread t.val).fpcsr = (s'.thread t.val).fpcsr) :=
  ⟨_, exec_vmask_some hs h, finish_setMask s' t.val (maskReg vd) x⟩

theorem vmask_writesVec (hs : s.starts t.val (if fn.toNat < 8 then none else some 6) s') {f g : Nat → Nat}
    (h : (s'.thread t.val).vmask fn.toNat esz k vb va vd = some ((s'.thread t.val).setVec vd (vecOf esz f))) (hfg : ∀ i, f i = g i) :
    Ends (.vmask t fn esz k vb va vd) s (fun u => s'.writesVec u t.val vd esz g ∧ (u.thread t.val).fpcsr = (s'.thread t.val).fpcsr) :=
  ⟨_, exec_vmask_some hs h, finish_writesVec rfl rfl rfl rfl (fun i _ => by rw [hfg])⟩

theorem vmask_computes (hs : s.starts t.val (if fn.toNat < 8 then none else some 6) s') {v w : Word}
    (h : (s'.thread t.val).vmask fn.toNat esz k vb va vd = some ((s'.thread t.val).setGpr vd v)) (hw : v = w) :
    Ends (.vmask t fn esz k vb va vd) s (fun u => s'.computes u t.val vd w) :=
  ⟨_, exec_vmask_some hs h, hw ▸ finish_computes s' t.val vd v⟩

end

theorem activeElems_eq (w : Nat) (m : BitVec 32) (v : BitVec 256) (n : Nat) :
    activeElems w m v n = ((upTo n).filter (active m)).map (elem w v) := by
  rw [activeElems, ← List.filterMap_eq_filter, List.map_filterMap]
  congr 1
  funext i
  cases h : active m i <;> simp [Option.guard, h]

/-- Settles O17: the codes of VINT, of VFP and of VMASK. -/
theorem vectorRegisters : Obligations.VectorRegisters := by
  constructor
  · intro t esz k vb va vd s s' hs y w m a b sa sb elems compares
    have hrange : -((2 ^ (w - 1) : Nat) : Int) ≤ (2 ^ (w - 1) : Nat) - 1 := by
      have := Nat.two_pow_pos (w - 1)
      omega
    refine ⟨vint_elems hs rfl rfl (fun i => Nat.mod_mod _ _), vint_elems hs rfl rfl (fun i => Nat.mod_mod _ _),
      vint_elems hs rfl rfl (fun i => Nat.mod_mod _ _), vint_elems hs rfl rfl (fun i => rfl), vint_elems hs rfl rfl (fun i => rfl),
      vint_elems hs rfl rfl (fun i => rfl), vint_elems hs rfl rfl (fun i => rfl), vint_elems hs rfl rfl (fun i => rfl),
      vint_elems hs rfl rfl (fun i => rfl), vint_elems hs rfl rfl (fun i => rfl), vint_elems hs rfl rfl (fun i => rfl),
      vint_elems hs rfl rfl (fun i => rfl), vint_elems hs rfl rfl (fun i => ?shiftLeft), vint_elems hs rfl rfl (fun i => ?shiftRight),
      vint_elems hs rfl rfl (fun i => rfl), vint_elems hs rfl rfl (fun i => ?clamp), vint_elems hs rfl rfl (fun i => ?saturate),
      vint_compares hs rfl (fun i => rfl), vint_compares hs rfl (fun i => rfl), vint_compares hs rfl (fun i => rfl),
      fun fn hfn => exec_vint_none hs (vint_unassigned y hfn)⟩
    case shiftLeft => exact (Nat.mod_mod _ _).trans (congrArg (· % 2 ^ w) (Nat.shiftLeft_eq _ _))
    case shiftRight => exact congrArg (· % 2 ^ w) (Nat.shiftRight_eq_div_pow _ _)
    case clamp => exact congrArg (fun z => elemOfInt w z % 2 ^ w) (clamp_eq _ _ _ hrange)
    case saturate => exact congrArg (· % 2 ^ w) (saturate_eq _ (Nat.two_pow_pos w))
  · intro t esz k vb va vd s s' y w n f m e num flags ops bad tests mask wrong ka kb kop writes gives act
    refine ⟨fun hs hesz => ?vfp, fun hs hesz fn => vfp_esz hs hesz, fun hs hesz hk => ?kregs, fun hs => ?elements⟩
    case vfp =>
      have two (fn : BitVec 6) (h : ¬(fn.toNat = 0x05 ∨ fn.toNat = 0x18 ∨ fn.toNat = 0x19)) :
          ¬((fn.toNat = 0x05 ∨ fn.toNat = 0x18 ∨ fn.toNat = 0x19) ∧ vb ≠ 0) := fun hand => h hand.1
      have one (fn : BitVec 6) (h : vb = 0) : ¬((fn.toNat = 0x05 ∨ fn.toNat = 0x18 ∨ fn.toNat = 0x19) ∧ vb ≠ 0) :=
        fun hand => hand.2 h
      have hwidth : (fpFormat esz).width = w := fpFormat_width hesz
      refine ⟨vfp_ops hs hesz (two _ (by decide)) rfl rfl (fun i => rfl), vfp_ops hs hesz (two _ (by decide)) rfl rfl (fun i => rfl),
        vfp_ops hs hesz (two _ (by decide)) rfl rfl (fun i => rfl), vfp_ops hs hesz (two _ (by decide)) rfl rfl (fun i => rfl),
        vfp_ops hs hesz (two _ (by decide)) rfl rfl (fun i => rfl), vfp_ops hs hesz (two _ (by decide)) rfl rfl (fun i => rfl),
        vfp_ops hs hesz (two _ (by decide)) rfl rfl (fun i => rfl), fun hvb => ⟨?_, ?_, ?_⟩, fun hvb => ⟨?_, ?_, ?_⟩,
        vfp_tests hs hesz (two _ (by decide)) rfl (fun i => rfl), vfp_tests hs hesz (two _ (by decide)) rfl (fun i => rfl),
        vfp_tests hs hesz (two _ (by decide)) rfl (fun i => rfl), vfp_unassigned hs hesz (by decide) rfl rfl,
        vfp_unassigned hs hesz (by decide) rfl rfl⟩
      · exact vfp_ops hs hesz (one _ hvb) rfl rfl (fun i => rfl)
      · exact vfp_ops hs hesz (one _ hvb) rfl rfl (fun i => by rw [← hwidth]; rfl)
      · exact vfp_ops hs hesz (one _ hvb) rfl rfl (fun i => by rw [← hwidth]; rfl)
      · exact vfp_unused_vb hs hesz (by decide) hvb
      · exact vfp_unused_vb hs hesz (by decide) hvb
      · exact vfp_unused_vb hs hesz (by decide) hvb
    case kregs =>
      subst hesz hk
      have hin (r : BitVec 5) (h : r.toNat < 8) : maskField r = true := decide_eq_true h
      have hout (r : BitVec 5) (h : 8 ≤ r.toNat) : maskField r = false := decide_eq_false (by omega)
      refine ⟨fun hva hvb hvd => ⟨?_, ?_, ?_, ?_⟩, fun hvb hvd => ?_, fun hvb hva => ⟨?_, ?_⟩, fun hva => ⟨?_, ?_⟩, ?_⟩
      · exact vmask_writesMask hs (by simp [Thread.vmask, hin va hva, hin vb hvb, hin vd hvd]; rfl)
      · exact vmask_writesMask hs (by simp [Thread.vmask, hin va hva, hin vb hvb, hin vd hvd]; rfl)
      · exact vmask_writesMask hs (by simp [Thread.vmask, hin va hva, hin vb hvb, hin vd hvd]; rfl)
      · exact vmask_writesMask hs (by simp [Thread.vmask, hin va hva, hin vb hvb, hin vd hvd]; rfl)
      · exact vmask_writesMask hs (by simp [Thread.vmask, hvb, hin vd hvd]; rfl)
      · exact vmask_computes hs (by simp [Thread.vmask, hvb, hin va hva]; rfl) rfl
      · exact vmask_computes hs (by simp [Thread.vmask, hvb, hin va hva]; rfl) (congrArg (BitVec.ofNat 64) (popBits_eq _ _))
      · exact exec_vmask_none hs (by simp [Thread.vmask, hout va hva])
      · exact exec_vmask_none hs (by simp [Thread.vmask, hout va hva])
      · exact exec_vmask_none hs rfl
    case elements =>
      have hsum : (activeElems w m (y.vec va) n).foldl (· + ·) 0 = (act.map (e va)).sum := by
        rw [activeElems_eq, List.sum_eq_foldl]
      refine ⟨fun hvb => ⟨?_, fun hk => ?_⟩, fun hvb => ⟨?_, ?_⟩, fun hvb => ⟨?_, ?_, ?_⟩, ?_, ?_, ?_⟩
      · exact vmask_writesVec hs (if_pos hvb) (fun i => by simp only [Bool.and_eq_true, decide_eq_true_eq]; rfl)
      · exact vmask_computes hs (if_pos ⟨hvb, hk⟩) rfl
      · exact exec_vmask_none hs (if_neg (Nat.not_lt.mpr hvb))
      · exact exec_vmask_none hs (if_neg (fun h => absurd h.1 (Nat.not_lt.mpr hvb)))
      · exact vmask_writesVec hs (if_pos hvb) (fun i => rfl)
      · exact vmask_computes hs (if_pos hvb) (congrArg (sextNat w) hsum)
      · exact vmask_writesVec hs (if_pos hvb) (fun i => by rw [activeElems_eq])
      · exact vmask_writesVec hs rfl (fun i => rfl)
      · exact exec_vmask_none hs rfl
      · exact exec_vmask_none hs rfl

end Sys2Proof.Machine

namespace Sys2Proof.Machine
open Sys2Proof

/-! ### Traps and the return from them (R84, R108 to R113) -/

section
variable {c : Instr} {s s' : State} {t least : Nat} {slotRule : Bool} {f : State → State}

/-- A system instruction that may run at this level and place does what it says. -/
theorem sysInstr_runs (hc : exec c s = sysInstr s t least slotRule f) (hs : s.starts t none s') (hl : least ≤ (s'.thread t).level)
    (hslot : slotRule = true → (s'.thread t).slot = none) : exec c s = .next (f s') := by
  have hplace : ¬ (slotRule && (s'.thread t).slot.isSome) = true := by
    rw [Bool.and_eq_true, Option.isSome_iff_ne_none]
    exact fun h => h.2 (hslot h.1)
  rw [hc, sysInstr, onThread_starts s s' t none _ hs, if_neg (Nat.not_lt.mpr hl), if_neg hplace]

theorem sysInstr_privileged (hc : exec c s = sysInstr s t least slotRule f) (hs : s.starts t none s') (hl : (s'.thread t).level < least) :
    exec c s = .next (s'.privileged t) := by
  rw [hc, sysInstr, onThread_starts s s' t none _ hs, if_pos hl]

end

/-- HCALL enters H from every level, S with EXL = 1 included. -/
theorem raise_hcall_enters (s : State) (t : Nat) (e : Exc) (after : Bool) (h : ¬((s.thread t).level = 2 ∧ (s.thread t).exl = true))
    (hc : e.code = exHcall) :
    ∃ y : Thread, { (s.thread t) with pendS := y.pendS, pendH := y.pendH, rstack := y.rstack, rtop := y.rtop } = y ∧
      (s.raise t e after).thread t = y.enter 2 (if (s.thread t).level = 2 then 0 else 0x100) e after ∧
      (∀ t', t' ≠ t → (s.raise t e after).thread t' = s.thread t') := by
  obtain ⟨⟨-, -, hothers, -⟩, hself⟩ := countEv_countsOnly s t 0x14 true
  have hsquash := squash_threads (s.countEv t 0x14) t
  have hraise : s.raise t e after = (((s.countEv t 0x14).squash t).closeMb t).modThread t
      (fun y => y.enter 2 (if (s.thread t).level = 2 then 0 else 0x100) e after) := by
    rw [State.raise, if_neg h, if_neg (fun hin => hin.2.2 hc), if_pos (Or.inl hc)]
  rw [hraise]
  refine ⟨((s.countEv t 0x14).squash t).thread t, ?_, modThread_thread_self _ _ _, fun t' ht' => ?_⟩
  · obtain ⟨r, n, hy⟩ := (hsquash t).2
    rw [hy, hself]
  · rw [thread_modThread, if_neg ht']
    exact ((hsquash t').1 ht').trans (hothers t' ht')

/-- Settles O19: each of the four raises its exception, or for a word that is legal does nothing. -/
theorem trapInstructions : Obligations.TrapInstructions := by
  intro t word s s' hs x same target off pc
  have htarget : target = 1 ∨ target = 2 := by
    by_cases h : x.level = 2
    · exact .inr (if_pos h)
    · exact .inl (if_neg h)
  have enters (e : Exc) (after : Bool) (hexl : ¬((x.level = 1 ∨ x.level = 2) ∧ x.exl)) (hcode : e.code ≠ 0x0D) :
      entered x ((s'.raise t e after).thread t.val) target off e (if after then x.pc + 4 else x.pc)
        (x.slot.getD ((if after then x.pc + 4 else x.pc) + 4)) ∧ same (s'.raise t e after) := by
    obtain ⟨y, hy, hself, hothers⟩ := raise_enters s' t e after target off hexl hcode rfl rfl
    exact ⟨hself ▸ enter_entered x y target off e after hy htarget, raise_mem s' t e after, hothers⟩
  have hnext : x.pc + 4 + 4 = x.pc + 8 := BitVec.add_assoc x.pc 4 4
  refine ⟨fun hslot hexl => ⟨?syscall, ?brk⟩, fun hword hexl => ?illegal, fun hword => ?legal, fun hslot hl hrealm hexl => ?hcall⟩
  case syscall =>
    refine ⟨_, sysInstr_runs (exec_syscall t s) hs (Nat.zero_le _) (fun _ => hslot), ?_⟩
    have h := enters { code := 0x0C, eaddr := pc } true hexl (show (0x0C : Nat) ≠ 0x0D by decide)
    rw [hslot, if_pos rfl, Option.getD_none, hnext] at h
    exact h
  case brk =>
    refine ⟨_, sysInstr_runs (exec_brk t s) hs (Nat.zero_le _) (fun _ => hslot), ?_⟩
    have h := enters { code := 0x0E, eaddr := pc } true hexl (show (0x0E : Nat) ≠ 0x0D by decide)
    rw [hslot, if_pos rfl, Option.getD_none, hnext] at h
    exact h
  case illegal =>
    have hnone : ¬ (wordInstr t word).isSome = true := by simp [hword]
    exact ⟨_, by rw [exec_illegal, execIllegal, onThread_starts _ _ _ _ _ hs, if_neg hnone]; rfl,
      enters { code := 0x01, eaddr := pc } false hexl (show (0x01 : Nat) ≠ 0x0D by decide)⟩
  case legal =>
    rw [exec_illegal, execIllegal, onThread_starts _ _ _ _ _ hs, if_pos (Option.isSome_iff_ne_none.mpr hword)]
  case hcall =>
    refine ⟨_, sysInstr_runs (exec_hcall t s) hs hl (fun _ => hslot), ?_⟩
    rw [if_pos hrealm]
    obtain ⟨y, hy, hself, hothers⟩ := raise_hcall_enters s' t { code := exHcall, eaddr := pc } true hexl rfl
    have h := enter_entered x y 2 (if x.level = 2 then 0 else 0x100) { code := exHcall, eaddr := pc } true hy (.inr rfl)
    rw [hslot, if_pos rfl, Option.getD_none, hnext] at h
    exact ⟨hself ▸ h, raise_mem _ _ _ _, hothers⟩

/-! #### The status after RTE (R113) -/

theorem bits_one_zero (w : Word) : bits w 1 0 = (bit w 0).toNat + 2 * (bit w 1).toNat := by
  have h : w.toNat % 4 = w.toNat % 2 + 2 * (w.toNat / 2 % 2) := by omega
  have hbit (b : Nat) (hb : b < 2) : b = (decide (b = 1)).toNat := by
    rcases Nat.lt_succ_iff_lt_or_eq.mp hb with h0 | h1
    · rw [Nat.lt_one_iff.mp h0]
      rfl
    · rw [h1]
      rfl
  simp only [bits, natBits, bit, BitVec.getLsbD, Nat.testBit_eq_decide_div_mod_eq, pow_zero, Nat.div_one, pow_one, Nat.shiftRight_zero]
  rw [← hbit _ (Nat.mod_lt _ (by decide)), ← hbit _ (Nat.mod_lt _ (by decide))]
  exact h

theorem bit_putBits (w : Word) {hi lo : Nat} (v : Nat) {i : Nat} (h : i < 64) :
    bit (putBits w hi lo v) i = if lo ≤ i ∧ i - lo < hi - lo + 1 then v.testBit (i - lo) else bit w i := by
  simp only [bit, putBits, BitVec.getLsbD_or, BitVec.getLsbD_and, BitVec.getLsbD_not, BitVec.getLsbD_ofNat, h, Nat.testBit_mul_two_pow,
    Nat.testBit_two_pow_sub_one, Nat.testBit_mod_two_pow]
  by_cases hlo : lo ≤ i <;> by_cases hhi : i - lo < hi - lo + 1 <;> simp [hlo, hhi]

theorem testBit_bits (w : Word) (hi lo i : Nat) : (bits w hi lo).testBit i = (decide (i < hi - lo + 1) && bit w (lo + i)) := by
  rw [bits, natBits, Nat.testBit_mod_two_pow, Nat.testBit_shiftRight]
  rfl

/-- The bits from 0 to 5 come from c.estatus, without EXL. -/
theorem bit_rteStatus (st es : Word) {i : Nat} (h : i < 6) : bit (rteStatus st es) i = (bit es i && i != 3) := by
  rw [rteStatus, bit_putBits _ _ (by omega), bit_putBits _ _ (by omega), testBit_bits]
  by_cases h3 : i = 3
  · subst h3
    simp
  · rw [if_neg (by omega), if_pos (by omega)]
    simp [h, h3]

theorem rteStatus_fields (st es : Word) : bits (rteStatus st es) 1 0 = bits es 1 0 ∧ bit (rteStatus st es) 2 = bit es 2 ∧
    bit (rteStatus st es) 3 = false ∧ bit (rteStatus st es) 4 = bit es 4 ∧ bit (rteStatus st es) 5 = bit es 5 := by
  simp [bits_one_zero, bit_rteStatus]

/-- Settles O21. -/
theorem returnFromException : Obligations.ReturnFromException := by
  intro t s s' hs x b
  have hrun (hl : 1 ≤ x.level) := sysInstr_runs (exec_rte t s) hs hl (fun h => absurd h Bool.false_ne_true)
  refine ⟨fun hl hle hslot => ⟨_, hrun hl, ?_⟩, fun hl hlt => (hrun hl).trans ?_, fun hl hle hslot => (hrun hl).trans ?_⟩
  · rw [if_neg (Nat.not_lt.mpr hle), if_neg (fun h => Option.isSome_iff_ne_none.mp h hslot)]
    let u := s'.modThread t (fun y => { y with status := rteStatus y.status b.estatus })
    have hu : u.thread t = { x with status := rteStatus x.status b.estatus } := modThread_thread_self _ _ _
    obtain ⟨⟨honly, hspecial⟩, hgpr, hpc, hslot'⟩ :=
      retireTo_spec u t (pcOf b.epc) (if bit b.estatus 16 then some (pcOf b.enpc) else none)
    rw [hu] at hspecial
    have hstatus := congrArg Thread.status hspecial
    obtain ⟨hlevel, hie, hexl, hsxg, hsag⟩ := rteStatus_fields x.status b.estatus
    rw [← show _ = rteStatus x.status b.estatus from hstatus] at hlevel hie hexl hsxg hsag
    exact ⟨onlyThread_trans (onlyThread_modThread s' t _) honly, hlevel, hie, hexl, hsxg, hsag, hpc, hslot',
      fun r => (hgpr r).trans (by rw [hu]; rfl), congrArg (·.s) hspecial, congrArg (·.h) hspecial, congrArg (·.realm) hspecial,
      congrArg (·.v) hspecial, congrArg (·.k) hspecial⟩
  · rw [if_pos hlt]
  · rw [if_neg (Nat.not_lt.mpr hle), if_pos (Option.isSome_iff_ne_none.mpr hslot)]

end Sys2Proof.Machine

namespace Sys2Proof.Machine
open Sys2Proof

/-! ### Instructions that wait or order (R84 to R88, R96 to R99, R131) -/

section
variable {s u : State} {t : Nat} (h : s.onlyThread u t)
include h

theorem State.onlyThread.mem : u.mem = s.mem := congrArg (·.mem) h.1

theorem State.onlyThread.sent : u.sent = s.sent := congrArg (·.sent) h.1

theorem State.onlyThread.core (c : Nat) : (u.core c).unsampled = (s.core c).unsampled := by
  obtain ⟨-, -, -, hcores⟩ := h
  exact hcores c

end

/-- A thread whose merging buffer is empty has nothing to close. -/
theorem mbOf_closeMb_nil {s : State} {t : Nat} (h : s.mbOf t = []) : (s.closeMb t).mbOf t = [] := by
  rw [State.mbOf, List.filter_eq_nil_iff] at h ⊢
  rw [State.closeMb, core_modCore, if_pos rfl, Core.closeMb]
  intro e he
  obtain ⟨e', he', rfl⟩ := List.mem_map.mp he
  have hold := h e' he'
  split <;> exact hold

theorem fenceRun_loads {s : State} {t : Nat} {mask : BitVec 4} (h : mask.getLsbD 3 = false) : s.fenceRun t mask = s.retire t := by
  have h3 : ¬ mask.getLsbD 3 = true := by rw [h]; exact Bool.false_ne_true
  have h15 : mask ≠ 15 := by
    rintro rfl
    exact h3 rfl
  rw [State.fenceRun, if_neg h3, if_neg (fun hm => h3 hm.1), if_neg (fun hm => h15 hm.1)]

theorem fenceRun_drained {s : State} {t : Nat} {mask : BitVec 4} (h : mask.getLsbD 3 = true) (hmb : s.mbOf t = [])
    (hdev : s.devicePending t = false) : s.fenceRun t mask = (s.closeMb t).retire t := by
  have hdev' : (s.closeMb t).devicePending t = false := hdev
  simp [State.fenceRun, h, mbOf_closeMb_nil hmb, hdev']

/-- The thread with one more TLBI outstanding. -/
abbrev Thread.addTlbi (y : Thread) (o : TlbiOut) : Thread := { y with tlbiSeq := y.tlbiSeq + 1, tlbis := y.tlbis ++ [o] }

theorem tlbiRun_eq {s : State} {t : Nat} (va control : Word) (h : (s.thread t).tlbis.length < 8) :
    ∃ o m, s.tlbiRun t va control = ((s.modThread t (fun y => y.addTlbi o)).send m).retire t ∧
      o.seq = (s.thread t).tlbiSeq ∧ o.left = s.pkgNum :: s.otherMembers ∧
      m.type = .tlbi ∧ m.hdr.dst = agentId s.pkgNum 12 96 ∧ m.hdr.rank = s.tidOf t :=
  ⟨_, _, if_neg (Nat.not_le.mpr h), rfl, rfl, rfl, rfl, rfl⟩

theorem tlbiRun_sends {s : State} {t : Nat} (va control : Word) (h : (s.thread t).tlbis.length < 8) :
    let u := s.tlbiRun t va control
    (∃ m, u.sent = s.sent ++ [m] ∧ m.type = .tlbi ∧ m.hdr.dst = agentId s.pkgNum 12 96 ∧ m.hdr.rank = s.tidOf t) ∧
      (∃ o, (u.thread t).tlbis = (s.thread t).tlbis ++ [o] ∧ o.seq = (s.thread t).tlbiSeq ∧ o.left = s.pkgNum :: s.otherMembers) ∧
      (u.thread t).goesTo (s.thread t).nextPc none ∧ u.mem = s.mem := by
  obtain ⟨o, m, heq, hseq, hleft, htype, hdst, hrank⟩ := tlbiRun_eq va control h
  have hthread : ((s.modThread t (fun y => y.addTlbi o)).send m).thread t = (s.thread t).addTlbi o :=
    modThread_thread_self s t (fun y => y.addTlbi o)
  obtain ⟨⟨honly, hspecial⟩, -, hgoes⟩ := retire_jumps ((s.modThread t (fun y => y.addTlbi o)).send m) t
  rw [hthread] at hspecial hgoes
  rw [heq]
  exact ⟨⟨m, honly.sent, htype, hdst, hrank⟩, ⟨o, congrArg (·.tlbis) hspecial, hseq, hleft⟩, hgoes, honly.mem⟩

section
variable {s s2 s3 : State} {t : Nat} {va : Word} {p : Piece} (rd : BitVec 5) (hp : s.onePiece t va 1 .load .watch true = (s2, .ok [p]))
include hp

theorem waitdRun_uncacheable (hmt : p.mt ≠ 0) : s.waitdRun t rd va = s2.waitdReturn t rd 3 := by
  simp only [State.waitdRun, hp]
  rw [if_pos hmt]

theorem waitdRun_pending (hrefused : (s2.thread t).refused = none) (hmt : p.mt = 0) (hpending : (s2.thread t).pendingAny = true) :
    s.waitdRun t rd va = s2.waitdReturn t rd 1 := by
  simp only [State.waitdRun, hp, hrefused]
  rw [if_neg (not_not.mpr hmt), if_neg (by simp), if_pos hpending]

theorem waitdRun_waits (hrefused : (s2.thread t).refused = none) (hmt : p.mt = 0) (hpending : (s2.thread t).pendingAny = false) {d : Line}
    (hline : s2.loadLine t p.line (s2.thread t).realm = (s3, some d)) :
    s.waitdRun t rd va = s3.modThread t (fun y =>
      { y with wait := .waitd p.line (if (s.thread t).gpr rd = 0 then none else some (s3.clause + (s.thread t).gpr rd)) rd }) := by
  simp only [State.waitdRun, hp, hrefused, hline]
  rw [if_neg (not_not.mpr hmt), if_neg (by simp), if_neg (by simp [hpending])]

end

theorem wake_waitd {y : Thread} {l : LineAddr} {lim : Option Word} {rd : BitVec 5} (h : y.wait = .waitd l lim rd) (status : Nat) :
    (y.wake l status).wait = .ready ∧ (rd ≠ 0 → (y.wake l status).gpr rd = BitVec.ofNat 64 status) := by
  rw [Thread.wake, h]
  dsimp only
  rw [if_pos rfl]
  refine ⟨rfl, fun hrd => ?_⟩
  exact (gpr_setGpr y rd rd _).trans (if_pos ⟨rfl, hrd⟩)

/-- Waking a thread that waits in WAITD. -/
theorem wakeThread_waitd {s : State} {t : Nat} {l : LineAddr} {lim : Option Word} {rd : BitVec 5}
    (h : (s.thread t).wait = .waitd l lim rd) (status : Nat) : ((s.wakeThread t l status).thread t) = (s.thread t).wake l status := by
  rw [State.wakeThread, h]
  dsimp only
  rw [if_pos rfl, modThread_thread_self, thread_countEv]
  rfl

/-- Settles O24. -/
theorem waitingInstructions : Obligations.WaitingInstructions := by
  refine ⟨fun t ra rd mask s s' hs => ?_, fun t rd ra s s' s2 s3 p d ls why l lim => ?_⟩
  · intro x
    refine ⟨fun hl hslot => ?wfi, fun hl hlen => ?tlbi, fun hl hnil => ?noTlbi, fun hl hnil => ?syncT, fun hmask => ?loads,
      fun hmask hmb hdev => ?drained⟩
    case wfi =>
      obtain ⟨⟨honly, -⟩, hgpr, hpc, -⟩ := retire_jumps s' t
      have hnext : x.nextPc = x.pc + 4 := by rw [Thread.nextPc, hslot, Option.getD_none]
      refine ⟨_, sysInstr_runs (exec_wfi t s) hs hl (fun _ => hslot), ?_⟩
      dsimp only
      rw [modThread_thread_self]
      exact ⟨rfl, hpc.trans hnext, hgpr, honly.mem⟩
    case tlbi => exact ⟨_, sysInstr_runs (exec_tlbi t ra rd s) hs hl (fun h => absurd h Bool.false_ne_true), tlbiRun_sends _ _ hlen⟩
    case noTlbi =>
      refine ⟨_, sysInstr_runs (exec_syncT t s) hs hl (fun h => absurd h Bool.false_ne_true), ?_⟩
      rw [if_pos (List.isEmpty_iff.mpr hnil)]
      exact retire_jumps s' t
    case syncT =>
      refine ⟨_, sysInstr_runs (exec_syncT t s) hs hl (fun h => absurd h Bool.false_ne_true), ?_⟩
      dsimp only
      rw [if_neg (fun h => hnil (List.isEmpty_iff.mp h)), modThread_thread_self]
      exact ⟨rfl, rfl⟩
    case loads =>
      exact ⟨_, (exec_fence t mask s).trans (onThread_starts _ _ _ _ _ hs), fenceRun_loads hmask ▸ retire_jumps s' t⟩
    case drained =>
      obtain ⟨⟨honly, -⟩, -, hgoes⟩ := retire_jumps (s'.closeMb t) t
      refine ⟨_, (exec_fence t mask s).trans (onThread_starts _ _ _ _ _ hs), ?_⟩
      rw [fenceRun_drained hmask hmb hdev]
      exact ⟨hgoes, honly.mem, honly.sent⟩
  · intro x
    refine ⟨fun hs hp hrefused => ⟨fun hmt => ?outside, fun hmt hpending => ?pending, fun hmt hpending hline => ?waits⟩,
      fun hexists hrunning hwait hlim => ?timeout, fun hs hframes => ?rsync⟩
    case outside =>
      refine ⟨_, (exec_waitd t rd ra s).trans (onThread_starts _ _ _ _ _ hs), ?_⟩
      rw [waitdRun_uncacheable rd hp hmt]
      exact finish_computes s2 t rd 3
    case pending =>
      refine ⟨_, (exec_waitd t rd ra s).trans (onThread_starts _ _ _ _ _ hs), ?_⟩
      rw [waitdRun_pending rd hp hrefused hmt hpending]
      exact finish_computes s2 t rd 1
    case waits =>
      refine ⟨_, (exec_waitd t rd ra s).trans (onThread_starts _ _ _ _ _ hs), ?_⟩
      rw [waitdRun_waits rd hp hrefused hmt hpending hline]
      dsimp only
      rw [modThread_thread_self]
      exact ⟨rfl, rfl⟩
    case timeout =>
      have hrun : exec (.waitdTimeout t) s = .next (s.wakeThread t l 2) := by
        simp only [exec_waitdTimeout, execWaitdTimeout, State.wakeWaitd, hwait, hexists, hlim, hrunning, and_self, if_true]
      obtain ⟨hready, hstatus⟩ := wake_waitd hwait 2
      refine ⟨_, hrun, ?_⟩
      dsimp only
      rw [wakeThread_waitd hwait]
      exact ⟨hready, hstatus, wakeThread_mem s t l 2⟩
    case rsync =>
      obtain ⟨hcounts, hself⟩ := countEv_countsOnly s2 t 0x13 true
      obtain ⟨honly, hspecial, hgpr, -⟩ := finish_spec (s2.countEv t 0x13) t (fun y => y.rebuild ls why) rfl
      rw [hself] at hspecial hgpr
      refine ⟨_, (exec_rsync t s).trans (onThread_starts _ _ _ _ _ hs), ?_⟩
      rw [show s'.frames t ((s'.thread t).gpr 29) 7 = _ from hframes]
      exact ⟨onlyThread_trans hcounts honly, hgpr, congrArg (·.rtop) hspecial, congrArg (·.rstack) hspecial⟩

end Sys2Proof.Machine

namespace Sys2Proof.Machine
open Sys2Proof

/-! ### Writes of control registers (R84, R102 to R107, R648 to R650, R149) -/

section
variable {s s' : State} {t n : Nat} {w : Word}

theorem mtcRun_open (h : ctlAccess n (s.thread t).level = .open) : s.mtcRun t n w = (s.writeCtl t n w).retire t := by
  rw [State.mtcRun, h]

theorem mtcRun_closed (h : ctlAccess n (s.thread t).level = .closed) : s.mtcRun t n w = s.privileged t := by rw [State.mtcRun, h]

theorem mtcRun_unassigned (h : ctlAccess n (s.thread t).level = .unassigned) : s.mtcRun t n w = s.illegal t := by rw [State.mtcRun, h]

/-- The registers of S and H are open from level 1. -/
theorem ctlAccess_open {l : Nat} (hl : 1 ≤ l)
    (hn : n = 0 ∨ (0x008 ≤ n ∧ n ≤ 0x010) ∨ n = 0x020 ∨ (0x060 ≤ n ∧ n ≤ 0x06A)) : ctlAccess n l = .open := by
  have hl0 : l ≠ 0 := by omega
  rw [ctlAccess]
  rcases hn with rfl | hn | rfl | hn
  · exact (if_pos rfl).trans (if_neg hl0)
  · rw [if_neg (by omega), if_neg (by omega), if_pos (by omega), if_neg hl0]
  · simp [hl0]
  · rw [if_neg (by omega), if_neg (by omega), if_neg (by omega), if_neg (by omega), if_neg (by omega), if_pos hn, if_neg hl0]

theorem writeCtl_fpcsr : s.writeCtl t 3 w = s.modThread t (fun y => { y with fpcsr := w &&& maskFpcsr }) := rfl

theorem writeCtl_status : s.writeCtl t 0 w = s.modThread t (fun y => { y with status := putBits y.status 5 2 (bits w 5 2) }) := rfl

theorem writeCtl_bank (h : 0x008 ≤ n ∧ n ≤ 0x010) : s.writeCtl t n w = (s.modThread t (fun y =>
    y.setBank (decide ((s.thread t).level = 2)) ((y.bank (decide ((s.thread t).level = 2))).write (n - 8) w))).refreshTimers t := by
  rw [State.writeCtl, if_neg (by omega), if_neg (by omega), if_pos h]

theorem writeCtl_predctl : s.writeCtl t 0x20 w =
    let u := s.modThread t (fun y =>
      if decide ((s.thread t).level = 2) then { y with rsclrH := bit w 0 } else { y with predctl := putBits y.predctl 0 0 (bits w 0 0) })
    if bit w 1 then u.startFlush t else u := rfl

theorem writeCtl_pcev {i : Nat} (h : i < 8) : s.writeCtl t (0x60 + i) w = s.writePcev t i w := by
  rw [State.writeCtl, if_neg (by omega), if_neg (by omega), if_neg (by omega), if_neg (by omega), if_neg (by omega), if_neg (by omega),
    if_neg (by omega), if_pos (by omega), Nat.add_sub_cancel_left]

theorem writeCtl_pcwrite : s.writeCtl t 0x6A w = s.writePcwrite t w := rfl

end

/-- What a write that changes only the thread leaves behind when it retires. -/
theorem retire_after {s u : State} {t : Nat} (h : s.onlyThread u t) :
    s.onlyThread (u.retire t) t ∧ ((u.retire t).thread t).special = (u.thread t).special := by
  obtain ⟨⟨honly, hspecial⟩, -, -⟩ := retire_jumps u t
  exact ⟨onlyThread_trans h honly, hspecial⟩

theorem bank_of_special {x y : Thread} (hxy : x.special = y.special) (h : Bool) : x.bank h = y.bank h := by
  have hs : x.s = y.s := congrArg (·.s) hxy
  have hh : x.h = y.h := congrArg (·.h) hxy
  rw [Thread.bank, Thread.bank, hs, hh]

theorem level_of_special {x y : Thread} (hxy : x.special = y.special) : x.level = y.level :=
  congrArg (fun w => bits w 1 0) (congrArg (·.status) hxy : x.status = y.status)

/-- The timers that are no longer due leave the pending interrupts, and nothing else. -/
theorem refreshTimers_thread (s : State) (t : Nat) :
    s.onlyThread (s.refreshTimers t) t ∧ ∃ p q, (s.refreshTimers t).thread t = { (s.thread t) with pendS := p, pendH := q } :=
  ⟨onlyThread_modThread s t _, _, _, modThread_thread_self s t _⟩

theorem readCtl_bank (s : State) (t : Nat) {n : Nat} (h : 0x008 ≤ n ∧ n ≤ 0x010) :
    s.readCtl t n = ((s.thread t).bank (decide ((s.thread t).level = 2))).read (n - 8) := by
  rw [State.readCtl, if_neg (by omega), if_neg (by omega), if_neg (by omega), if_neg (by omega), if_pos h]

/-- A write of a register of the present level's bank is read back as the bank holds it. -/
theorem mtc_bank {s : State} {t n : Nat} {w : Word} (hn : 0x008 ≤ n ∧ n ≤ 0x010) (hl : 1 ≤ (s.thread t).level) :
    let u := s.mtcRun t n w
    let b := (s.thread t).bank (decide ((s.thread t).level = 2))
    s.onlyThread u t ∧ (u.thread t).level = (s.thread t).level ∧
      (u.thread t).bank (decide ((s.thread t).level = 2)) = b.write (n - 8) w ∧
      u.readCtl t n = (b.write (n - 8) w).read (n - 8) := by
  dsimp only
  rw [mtcRun_open (ctlAccess_open hl (.inr (.inl hn))), writeCtl_bank hn, readCtl_bank _ _ hn]
  generalize hh : decide ((s.thread t).level = 2) = h
  generalize hf : (fun y : Thread => y.setBank h ((y.bank h).write (n - 8) w)) = f
  have hv : (s.modThread t f).thread t = (s.thread t).setBank h (((s.thread t).bank h).write (n - 8) w) := by
    rw [modThread_thread_self, ← hf]
  obtain ⟨htimers, p, q, hpend⟩ := refreshTimers_thread (s.modThread t f) t
  obtain ⟨honly, hspecial⟩ := retire_after (onlyThread_trans (onlyThread_modThread s t f) htimers)
  rw [hv] at hpend
  have hlevel : ((((s.modThread t f).refreshTimers t).retire t).thread t).level = (s.thread t).level := by
    rw [level_of_special hspecial, hpend]
    cases h <;> rfl
  have hbank : ((((s.modThread t f).refreshTimers t).retire t).thread t).bank h = ((s.thread t).bank h).write (n - 8) w := by
    rw [bank_of_special hspecial, hpend]
    cases h <;> rfl
  rw [hlevel, hh, hbank]
  exact ⟨honly, rfl, rfl, rfl⟩

/-- A retirement counts nothing while no counter of the core is enabled (R648). -/
theorem countFrom_disabled {s : State} {t : Nat} (ev n : Nat) (exact : Option (BitVec 57)) (i k : Nat)
    (h : ∀ q, i ≤ q → q < i + k → bit (s.pccS (slotCore (coreOf t) q)) 12 = false) : s.countFrom t ev n exact i k = s := by
  induction k generalizing i with
  | zero => rfl
  | succ k ih =>
    have hhere : s.countsHere t i ev = false := by simp [State.countsHere, h i (le_refl i) (by omega)]
    rw [State.countFrom, hhere]
    exact ih (i + 1) (fun q hlo hhi => h q (by omega) (by omega))

theorem countEv_disabled {s : State} {t : Nat} (ev : Nat) (x : Bool) (h : ∀ q, q < 8 → bit (s.pccS (coreOf t * 8 + q)) 12 = false) :
    s.countEv t ev x = s := by
  rw [State.countEv]
  split
  · rfl
  · exact countFrom_disabled ev 1 _ 0 8 (fun q _ hq => h q (by omega))

/-- A counter's select as its fields. -/
theorem bits_select {realm h levels threads modes ev : Nat} (hr : realm < 2 ^ 10) (hh : h < 2) (hl : levels < 8) (ht : threads < 4)
    (hm : modes < 16) (hev : ev < 256) :
    let w := BitVec.ofNat 64 (realm * 2 ^ 24 + h * 2 ^ 23 + levels * 2 ^ 20 + threads * 2 ^ 16 + modes * 2 ^ 12 + ev)
    bits w 33 24 = realm ∧ bits w 7 0 = ev ∧ bits w 23 23 = h ∧ bits w 17 16 = threads ∧ bits w 15 12 = modes := by
  simp only [bits, natBits, BitVec.toNat_ofNat, Nat.shiftRight_eq_div_pow]
  omega

/-- The select that a write of c.pcev at S leaves. -/
theorem writePcev_atS {s : State} {t : Nat} (i : Nat) (w : Word) (hl : (s.thread t).level = 1) :
    s.writePcev t i w = (s.setPccS (slotCore (coreOf t) i) (BitVec.ofNat 64 ((s.thread t).realm.toNat * 2 ^ 24 + 0 * 2 ^ 23 +
      (bits w 22 20 % 4) * 2 ^ 20 + bits w 17 16 * 2 ^ 16 + bits w 15 12 * 2 ^ 12 +
      if coreEvent (bits w 7 0) then bits w 7 0 else 0))).setPccV (slotCore (coreOf t) i) 0 := by
  have hl2 : decide ((s.thread t).level = 2) = false := by simp [hl]
  rw [State.writePcev, hl2]
  rfl

theorem pccS_setPccS_self (s : State) (j k : Nat) (w v : Word) : ((s.setPccS j w).setPccV k v).pccS j = w := by
  rw [State.pccS, State.setPccV, State.setPccS, Tbl_get_set, if_pos rfl]

theorem writePcwrite_visible {s : State} {t : Nat} {w : Word} (hv : s.counterVisible t (slotCore (coreOf t) (bits w 50 48)) = true)
    (htag : bits (s.pccS (slotCore (coreOf t) (bits w 50 48))) 33 24 = (s.thread t).realm.toNat) :
    s.writePcwrite t w = s.setPccV (slotCore (coreOf t) (bits w 50 48))
      (putBits (putBits (s.pccV (slotCore (coreOf t) (bits w 50 48))) 47 0 (bits w 47 0)) 48 48 0) := by
  rw [State.writePcwrite, hv, htag, decide_eq_true rfl]
  rfl

theorem pccV_setPccV_self (s : State) (j : Nat) (w : Word) : (s.setPccV j w).pccV j = w := by
  rw [State.pccV, State.setPccV, Tbl_get_set, if_pos rfl]

/-- A flush of the predictor is under way from the write on. -/
theorem startFlush_flushing (s : State) (t : Nat) : ((s.startFlush t).core (coreOf t)).flushing = true := by
  rw [State.startFlush, core_modCore, if_pos rfl]
  unfold Core.flushPred
  split <;> rfl

/-- A write of the status leaves the level. -/
theorem putBits_status (st w : Word) : bits (putBits st 5 2 (bits w 5 2)) 1 0 = bits st 1 0 ∧
    ∀ i, 2 ≤ i → i ≤ 5 → bit (putBits st 5 2 (bits w 5 2)) i = bit w i := by
  refine ⟨bits_putBits_ne _ _ _ _ _ _ (by omega) (by omega) (by omega), fun i hlo hhi => ?_⟩
  rw [bit_putBits _ _ (by omega), if_pos (by omega), testBit_bits, decide_eq_true (by omega), Bool.true_and, Nat.add_sub_cancel' hlo]

/-- Settles O23. -/
theorem controlRegisterWrites : Obligations.ControlRegisterWrites := by
  constructor
  · intro t ra n s s' hs x w
    have hrun : exec (.mtc t ra n) s = .next (s'.mtcRun t n.toNat w) := (exec_mtc t ra n s).trans (onThread_starts _ _ _ _ _ hs)
    refine ⟨fun h => hrun.trans (by rw [mtcRun_unassigned h]), fun h => hrun.trans (by rw [mtcRun_closed h]), ?fpcsr, ?vbase, ?scratch,
      ?ttbase, ?status⟩
    case fpcsr =>
      rintro rfl
      obtain ⟨honly, hspecial⟩ := retire_after (onlyThread_modThread s' t (fun y => { y with fpcsr := w &&& maskFpcsr }))
      rw [modThread_thread_self] at hspecial
      exact ⟨_, hrun.trans (congrArg _ (mtcRun_open rfl)), honly, congrArg (·.fpcsr) hspecial⟩
    case vbase =>
      rintro rfl hl hle
      obtain ⟨honly, hlevel, hbank, hread⟩ := mtc_bank (s := s') (t := t) (n := 0x00D) (w := w) (by decide) hl
      refine ⟨_, hrun, honly, ?_, hread⟩
      exact congrArg Bank.vbase hbank
    case scratch =>
      rintro rfl hl hle
      obtain ⟨honly, hlevel, hbank, hread⟩ := mtc_bank (s := s') (t := t) (n := 0x00E) (w := w) (by decide) hl
      exact ⟨_, hrun, honly, hread⟩
    case ttbase =>
      rintro rfl hl hle
      obtain ⟨honly, hlevel, hbank, hread⟩ := mtc_bank (s := s') (t := t) (n := 0x010) (w := w) (by decide) hl
      exact ⟨_, hrun, honly, hread⟩
    case status =>
      rintro rfl hl
      obtain ⟨honly, hspecial⟩ := retire_after
        (onlyThread_modThread s' t (fun y => { y with status := putBits y.status 5 2 (bits w 5 2) }))
      rw [modThread_thread_self] at hspecial
      have hstatus := congrArg (·.status) hspecial
      obtain ⟨hlevel, hbit⟩ := putBits_status x.status w
      rw [← show _ = putBits x.status 5 2 (bits w 5 2) from hstatus] at hlevel hbit
      exact ⟨_, hrun.trans (congrArg _ (mtcRun_open (ctlAccess_open hl (.inl rfl)))), honly, hlevel, hbit 2 (by omega) (by omega),
        hbit 3 (by omega) (by omega), hbit 4 (by omega) (by omega), hbit 5 (by omega) (by omega)⟩
  · intro t i ra s s' hs x w j
    refine ⟨fun hl => ?pcev, fun hl hi hvisible htag hdisabled => ?pcwrite, fun hl => ?flush⟩
    case pcev =>
      have hrun : exec (.pcevWrite t i ra) s = .next ((s'.writePcev t i w).retire t) := by
        rw [exec_pcevWrite, execPcevWrite, onThread_starts _ _ _ _ _ hs,
          mtcRun_open (ctlAccess_open (le_of_eq hl.symm) (.inr (.inr (.inr (by omega))))), writeCtl_pcev i.isLt]
      obtain ⟨⟨⟨houtside, -⟩, -⟩, -, hgoes⟩ := retire_jumps (s'.writePcev t i w) t
      have hsel : ((s'.writePcev t i w).retire t).pccSel = (s'.writePcev t i w).pccSel := congrArg (·.pccSel) houtside
      have hev : (if coreEvent (bits w 7 0) then bits w 7 0 else 0) < 256 := by
        split
        · exact bits_lt w 7 0
        · decide
      obtain ⟨hrealm, hevent, hh, hthreads, hmodes⟩ := bits_select x.realm.isLt (by decide : 0 < 2)
        (show bits w 22 20 % 4 < 8 by omega) (bits_lt w 17 16) (bits_lt w 15 12) hev
      have hwrite : ((s'.writePcev t i w).retire t).pccS j = BitVec.ofNat 64 (x.realm.toNat * 2 ^ 24 + 0 * 2 ^ 23 +
          (bits w 22 20 % 4) * 2 ^ 20 + bits w 17 16 * 2 ^ 16 + bits w 15 12 * 2 ^ 12 +
          if coreEvent (bits w 7 0) then bits w 7 0 else 0) := by
        rw [State.pccS, hsel, writePcev_atS i w hl]
        exact pccS_setPccS_self _ _ _ _ _
      have hthread : (s'.writePcev t i w).thread t = x := by
        rw [writePcev_atS i w hl]
        rfl
      rw [hthread] at hgoes
      refine ⟨_, hrun, hgoes, ?_, ?_⟩
      · rw [retire_mem, writePcev_atS i w hl]
        rfl
      · rw [hwrite]
        exact ⟨hrealm, hevent, hh, hthreads, hmodes⟩
    case pcwrite =>
      have hrun : exec (.pcwrite t ra) s = .next ((s'.writePcwrite t w).retire t) := by
        rw [exec_pcwrite, execPcwrite, onThread_starts _ _ _ _ _ hs, mtcRun_open (ctlAccess_open hl (.inr (.inr (.inr (by omega))))),
          writeCtl_pcwrite]
      have hj : slotCore (coreOf t) (bits w 50 48) = j := by rw [hi, slotCore]
      have hwrite : s'.writePcwrite t w = s'.setPccV j (putBits (putBits (s'.pccV j) 47 0 (bits w 47 0)) 48 48 0) := by
        rw [writePcwrite_visible (hj ▸ hvisible) (hj ▸ htag), hj]
      rw [hwrite] at hrun
      generalize hu : s'.setPccV j (putBits (putBits (s'.pccV j) 47 0 (bits w 47 0)) 48 48 0) = u at hrun
      have hcount : u.countEv t 0x03 = u := countEv_disabled 0x03 true (hu ▸ hdisabled)
      have hval : (u.retire t).pccV j = putBits (putBits (s'.pccV j) 47 0 (bits w 47 0)) 48 48 0 := by
        rw [State.retire, State.retireTo, hcount, ← hu]
        exact pccV_setPccV_self _ _ _
      obtain ⟨-, -, hgoes⟩ := retire_jumps u t
      have hthread : u.thread t = x := by rw [← hu]; rfl
      rw [hthread] at hgoes
      refine ⟨_, hrun, hgoes, ?_, ?_⟩
      · rw [hval, bits_putBits_ne _ _ _ _ _ _ (by omega) (by omega) (by omega), bits_putBits _ _ _ _ (by omega) (by omega)]
        exact Nat.mod_eq_of_lt (bits_lt w 47 0)
      · rw [hval, bits_putBits _ _ _ _ (by omega) (by omega)]
        rfl
    case flush =>
      let v := s'.readCtl t 0x20 ||| 2
      have hbit : bit v 1 = true := by simp [v, bit]
      have hrun : exec (.predctlFlush t) s = .next (((s'.modThread t (fun y => if decide (x.level = 2) then { y with rsclrH := bit v 0 }
          else { y with predctl := putBits y.predctl 0 0 (bits v 0 0) })).startFlush t).retire t) := by
        rw [exec_predctlFlush, execPredctlFlush, onThread_starts _ _ _ _ _ hs,
          mtcRun_open (ctlAccess_open hl (.inr (.inr (.inl rfl)))), writeCtl_predctl, if_pos hbit]
      generalize hf : (fun y : Thread => if decide (x.level = 2) then { y with rsclrH := bit v 0 }
          else { y with predctl := putBits y.predctl 0 0 (bits v 0 0) }) = f at hrun
      have hthread : ((s'.modThread t f).startFlush t).thread t = f x := modThread_thread_self s' t f
      have hkeeps : (f x).nextPc = x.nextPc ∧ (f x).g = x.g := by
        rw [← hf]
        dsimp only
        split <;> exact ⟨rfl, rfl⟩
      obtain ⟨⟨⟨-, -, -, hcores⟩, -⟩, hgpr, hgoes⟩ := retire_jumps ((s'.modThread t f).startFlush t) t
      rw [hthread, hkeeps.1] at hgoes
      simp only [hthread] at hgpr
      refine ⟨_, hrun, ?_, by rw [retire_mem, startFlush_mem, modThread_mem], hgoes, fun r => (hgpr r).trans (gpr_of_g hkeeps.2 r)⟩
      exact (congrArg (·.flushing) (hcores (coreOf t))).trans (startFlush_flushing _ t)

end Sys2Proof.Machine

namespace Sys2Proof.Machine
open Sys2Proof

/-! ### RENTER (R115, R469) -/

theorem siblingOf_ne (t : Nat) : siblingOf t ≠ t := by
  rw [siblingOf]
  split <;> omega

/-- The thread's registers as its context block holds them. -/
theorem loadCtx_fields (y : Thread) (ls : List Line) (hg : Bool) :
    (y.loadCtx ls hg).level = bits (blockWord ls 31) 1 0 ∧
      (y.loadCtx ls hg).pc = BitVec.ofNat 57 ((blockWord ls 164).toNat / 4 * 4) ∧ (y.loadCtx ls hg).gpr 31 = blockWord ls 30 := by
  refine ⟨?_, rfl, ?_⟩
  · rw [Thread.level]
    change bits (BitVec.ofNat 64 (bits (blockWord ls 31) 5 0)) 1 0 = _
    simp only [bits, natBits, BitVec.toNat_ofNat, Nat.shiftRight_eq_div_pow]
    omega
  · cases hg <;> rfl

theorem switchPred_thread (s : State) (c left r t : Nat) : (s.switchPred c left r).thread t = s.thread t := by
  rw [State.switchPred]
  split
  · split <;> rfl
  · rfl

section
variable (s : State) (t r : Nat) (ls : List Line)

/-- The thread that enters a realm has the registers of its block, an empty return stack and no history. -/
theorem enterRealm_self :
    let y := (s.enterRealm t r ls).thread t
    y.realm = BitVec.ofNat 10 r ∧ y.level = bits (blockWord ls 31) 1 0 ∧
      y.pc = BitVec.ofNat 57 ((blockWord ls 164).toNat / 4 * 4) ∧ y.gpr 31 = blockWord ls 30 ∧ y.rstack = [] ∧ y.history = 0 := by
  rw [State.enterRealm]
  dsimp only
  rw [modThread_thread_self]
  generalize (State.setFld _ _ _ _ _).thread t = y
  obtain ⟨hlevel, hpc, hgpr⟩ := loadCtx_fields y ls ((s.thread t).hcallExits.contains r)
  exact ⟨rfl, hlevel, hpc, hgpr, rfl, rfl⟩

theorem enterRealm_others {t' : Nat} (h : t' ≠ t) : (s.enterRealm t r ls).thread t' = s.thread t' := by
  rw [State.enterRealm]
  dsimp only
  rw [thread_modThread, if_neg h]
  change (((s.closeMb t).countEv t 0x03).switchPred (coreOf t) 0 r).thread t' = _
  rw [switchPred_thread, thread_countEv]
  rfl

end

section
variable {s s2 s3 : State} {t r : Nat} {ls ls' : List Line}

theorem renterRun_state (h : s.realmState r ≠ realmRunning ∨ s.realmHalted r = true) : s.renterRun t r = s.renterRefused t 1 r :=
  if_pos h

section
variable (hrun : s.realmState r = realmRunning) (hhalted : s.realmHalted r = false)
include hrun hhalted

theorem renterRun_unbound (h : r = 0 ∨ s.boundTo t r = false ∨ (s.core (coreOf t)).fenced = true) :
    s.renterRun t r = s.renterRefused t 2 r := by
  have hbound : r = 0 ∨ ¬ s.boundTo t r = true ∨ (s.core (coreOf t)).fenced = true := by simpa using h
  rw [State.renterRun, if_neg (by simp [hrun, hhalted]), if_pos hbound]

variable (hr : r ≠ 0) (hbound : s.boundTo t r = true) (hfence : (s.core (coreOf t)).fenced = false)
  (hrefused : (s.thread t).refused = none) (hwrites : (s.core (coreOf t)).ctxWrites = []) (hout : (s.core (coreOf t)).ctxOut = [])
  (hread : s.readCtx t (s.ctxBase t) (BitVec.ofNat 10 r) 0 24 = (s2, some ls))
include hr hbound hfence hrefused hwrites hout hread

/-- RENTER of a realm that the thread may enter, with its context block read. -/
theorem renterRun_read : s.renterRun t r = if 2 ≤ bits (blockWord ls 31) 1 0 then s2.renterRefused t 4 r
    else if s2.realmSealed r then s2.renterBoth t r ls else s2.enterRealm t r ls := by
  simp [State.renterRun, hrun, hhalted, hr, hbound, hfence, hrefused, hwrites, hout, hread]

end

theorem renterBoth_waits (h : (s.thread (siblingOf t)).renter ≠ some r) :
    s.renterBoth t r ls = s.modThread t (fun y => { y with renter := some r }) := if_neg h

theorem renterBoth_enters (h : (s.thread (siblingOf t)).renter = some r)
    (hread : s.readCtx (siblingOf t) (s.ctxBase (siblingOf t)) (BitVec.ofNat 10 r) 0 24 = (s2, some ls')) :
    s.renterBoth t r ls = (s2.enterRealm t r ls).enterRealm (siblingOf t) r ls' := by
  rw [State.renterBoth, if_pos h, hread]

end

/-- Settles O25. -/
theorem realmEntry : Obligations.RealmEntry := by
  intro t ra s s' s2 s3 ls ls' hs x r sib k refused enters hl hslot
  have hexec {u : State} (h : s'.renterRun t r = u) : exec (.renter t ra) s = .next u :=
    h ▸ sysInstr_runs (exec_renter t ra s) hs (le_of_eq hl.symm) (fun _ => hslot)
  refine ⟨fun h => hexec (renterRun_state h), fun hrun hhalted h => hexec (renterRun_unbound hrun hhalted h),
    fun hrun hhalted hr hbound hfence hrefused hwrites hout hread => ?_⟩
  have hruns := renterRun_read hrun hhalted hr hbound hfence hrefused hwrites hout hread
  refine ⟨fun hlevel => hexec ?level, fun hlevel hsealed => ?unsealed, fun hlevel hsealed hsib => ?waits,
    fun hlevel hsealed hsib hread' => ?both⟩
  case level => exact hruns.trans (if_pos hlevel)
  case unsealed =>
    refine ⟨_, hexec (hruns.trans ?_), enterRealm_self s2 t r ls, enterRealm_mem s2 t r ls⟩
    rw [if_neg (Nat.not_le.mpr hlevel), if_neg (by rw [hsealed]; exact Bool.false_ne_true)]
  case waits =>
    refine ⟨s2.modThread t (fun y => { y with renter := some r }), hexec (hruns.trans ?_), ?_⟩
    · rw [if_neg (Nat.not_le.mpr hlevel), if_pos hsealed, renterBoth_waits hsib]
    · dsimp only
      rw [modThread_thread_self]
      exact ⟨rfl, rfl, rfl, rfl⟩
  case both =>
    refine ⟨(s3.enterRealm t r ls).enterRealm sib r ls', hexec (hruns.trans ?_), ?_⟩
    · rw [if_neg (Nat.not_le.mpr hlevel), if_pos hsealed, renterBoth_enters hsib hread']
    · obtain ⟨hrealm, -, -, hgpr, -⟩ := enterRealm_self (s3.enterRealm t r ls) sib r ls'
      have hself := enterRealm_self s3 t r ls
      rw [← enterRealm_others _ sib r ls' (siblingOf_ne t).symm] at hself
      exact ⟨hself, hrealm, hgpr, (enterRealm_mem _ _ _ _).trans (enterRealm_mem _ _ _ _)⟩

end Sys2Proof.Machine

namespace Sys2Proof.Machine
open Sys2Proof

/-! ### CACHE by address (R89 to R92, R162, R167, R176) -/

/-- A request with a credit held: the message leaves, and the thread waits for the answer that names it. -/
theorem sendAndWait_asks {s : State} {t : Nat} {ty : MsgType} {hdr : BitVec 12 → State → Hdr} {b : Body} {d : Dest} {h : Hdr}
    {a : LineAddr} (hh : hdr (s.core (coreOf t)).nextTid (s.takeTid (coreOf t)).2 = h) (htid : h.tid = (s.core (coreOf t)).nextTid)
    (haddr : h.addr = a) (hcan : s.canAsk t 0 a) : s.asks (s.sendAndWait t ty hdr b d) t { type := ty, hdr := h, body := b } d := by
  obtain ⟨hheld, hcredits⟩ := hcan
  have htake : s.takeTid (coreOf t) = ((s.core (coreOf t)).nextTid, (s.takeTid (coreOf t)).2) := rfl
  have hs1 : (s.takeTid (coreOf t)).2 = s.modCore (coreOf t) (fun k => { k with nextTid := k.nextTid + 1 }) := rfl
  generalize (s.takeTid (coreOf t)).2 = s1 at hh htake hs1
  let m : Msg := { type := ty, hdr := h, body := b }
  let v := s1.useCredit (dieOf t) (s1.chanOf (lineBase h.addr)) 0
  have hheld1 : s1.sourcesHeld = false := hs1 ▸ hheld
  have hcredits1 : s1.credits (dieOf t) (s1.chanOf (lineBase h.addr)) 0 ≠ 0 := by
    rw [haddr, hs1]
    exact hcredits
  have hsend : s1.sendCredited t 0 m = (v.sendReq t m, true) := by
    rw [State.sendCredited, hheld1, decide_eq_false hcredits1]
    rfl
  have heq : s.sendAndWait t ty hdr b d = (v.sendReq t m).modThread t (fun y => { y with wait := .access h.tid d }) := by
    simp only [State.sendAndWait, htake, hh, htid]
    rw [show s1.sendCredited t 0 { type := ty, hdr := h, body := b } = _ from hsend]
    rfl
  subst hs1
  obtain ⟨⟨houtside, -⟩, -⟩ := countEv_countsOnly v t 0x0B false
  have hthread (t' : Nat) : (v.sendReq t m).thread t' = s.thread t' := thread_countEv v t 0x0B false t'
  have hsent : (v.countEv t 0x0B false).sent = s.sent := congrArg (·.sent) houtside
  have hwait : ((v.sendReq t m).modThread t (fun y => { y with wait := .access h.tid d })).thread t =
      { (s.thread t) with wait := .access h.tid d } := by
    rw [modThread_thread_self, hthread]
  rw [heq]
  refine ⟨congrArg (· ++ [m]) hsent, congrArg (·.wait) hwait, fun r => ?_, congrArg (·.pc) hwait, fun t' ht' => ?_,
    congrArg (·.mem) houtside, congrArg (·.regs) houtside, congrArg (·.homes) houtside⟩
  · rw [hwait]
    rfl
  · rw [thread_modThread, if_neg ht', hthread]

/-- The header of a core's request does not depend on the cores. -/
theorem coreHdr_modCore (s : State) (c' : Nat) (f : Core → Core) (c t : Nat) (a : LineAddr) (tid : BitVec 12) (realm : Realm) :
    (s.modCore c' f).coreHdr c t a tid realm = s.coreHdr c t a tid realm := rfl

section
variable {s s2 s3 : State} {t : Nat} {va : Word} {p : Piece}

theorem closeLine_clear {a : LineAddr} (h : (s.mbOf t).any (fun e => decide (e.line = a)) = false) : s.closeLine t a = (s, true) := by
  rw [State.closeLine, if_neg (by rw [h]; exact Bool.false_ne_true)]

/-- Entries of the line that are left close, and nothing else changes. -/
theorem closeLine_left {a : LineAddr} (h : ¬ (s.mbOf t).any (fun e => decide (e.line = a)) = false) :
    ∃ u, s.closeLine t a = (u, false) ∧ (u.thread t).pc = (s.thread t).pc ∧ u.mem = s.mem ∧ u.sent = s.sent ∧
      ∀ e ∈ u.mbOf t, e.line = a → e.closed = true := by
  refine ⟨_, if_pos (Bool.eq_true_of_not_eq_false h), rfl, rfl, rfl, fun e he hline => ?_⟩
  rw [State.mbOf, core_modCore, if_pos rfl] at he
  obtain ⟨hmem, hthread⟩ := List.mem_filter.mp he
  obtain ⟨e', -, rfl⟩ := List.mem_map.mp hmem
  by_cases hc : e'.line = a ∧ e'.thread.val = threadIx t
  · rw [if_pos hc]
  · rw [if_neg hc] at hline hthread
    exact absurd ⟨hline, of_decide_eq_true hthread⟩ hc

section
variable (hp : s.cachePiece t va .load .plain = (s2, .ok [p])) (clinv : Bool)
include hp

theorem cmoRun_uncached (hmt : p.mt ≠ 0) : s.cmoRun t va clinv = s2.retire t := by
  simp only [State.cmoRun, hp]
  rw [if_pos hmt]

theorem cmoRun_asks (hmt : p.mt = 0) (hclear : (s2.mbOf t).any (fun e => decide (e.line = p.line)) = false) (hcan : s2.canAsk t 0 p.line) :
    s2.asks (s.cmoRun t va clinv) t {
      type := .cmo, hdr := s2.coreHdr (coreOf t) t p.line (s2.core (coreOf t)).nextTid (s2.thread t).realm, body := .cmo clinv } .done := by
  simp only [State.cmoRun, hp, closeLine_clear hclear]
  rw [if_neg (not_not.mpr hmt)]
  exact sendAndWait_asks (hdr := fun tid s => s.coreHdr (coreOf t) t p.line tid (s.thread t).realm)
    (coreHdr_modCore s2 (coreOf t) _ (coreOf t) t p.line _ _) rfl rfl hcan

theorem cmoRun_again (hmt : p.mt = 0) {u : State} (hleft : s2.closeLine t p.line = (u, false)) : s.cmoRun t va clinv = u := by
  simp only [State.cmoRun, hp, hleft]
  rw [if_neg (not_not.mpr hmt)]
  rfl

theorem invL1iRun_again {u : State} (hleft : s2.closeLine t p.line = (u, false)) : s.invL1iRun t va = u := by
  simp only [State.invL1iRun, hp, hleft]
  rfl

theorem invL1iRun_clear (hclear : (s2.mbOf t).any (fun e => decide (e.line = p.line)) = false) :
    s.invL1iRun t va = (s2.modCore (coreOf t) (fun k => k.l1iDrop p.line)).retire t := by
  simp only [State.invL1iRun, hp, closeLine_clear hclear]
  rfl

end

section
variable (hp : s.cachePiece t va .store .vector = (s2, .ok [p]))
include hp

theorem zeroRun_stores (hclear : (s2.mbOf t).any (fun e => decide (e.line = p.line)) = false)
    (hstore : s2.mbStore t p.line 0 (BitVec.allOnes 64) false true true = some s3) : s.zeroRun t va = s3.retire t := by
  simp only [State.zeroRun, hp, closeLine_clear hclear, hstore]
  rfl

theorem zeroRun_again {u : State} (hleft : s2.closeLine t p.line = (u, false)) : s.zeroRun t va = u := by
  simp only [State.zeroRun, hp, hleft]
  rfl

end

/-- ZERO.VA outside cacheable memory raises MEMTYPE (R92). -/
theorem zeroRun_memtype {pa mt : Nat} (ht : s.translate t va .store = (s2, .ok pa mt)) (hmt : mt ≠ 0) :
    s.zeroRun t va = s2.raise t { code := exMemtype, eaddr := va } := by
  have htype : AccForm.typeExc .vector true mt = some exMemtype := if_pos hmt
  have hcode : exMemtype ≠ exStoreFault := by decide
  simp only [State.zeroRun, State.cachePiece, State.onePiece, ht, htype, hcode, if_false]

theorem exec_invVa_open {ra : BitVec 5} {t : ThreadPos} {s s' : State} (hs : s.starts t none s') (hl : 1 ≤ (s'.thread t).level) :
    exec (.invVa t ra) s = .next (s'.cmoRun t ((s'.thread t).gpr ra) true) :=
  sysInstr_runs (exec_invVa t ra s) hs hl (fun h => absurd h Bool.false_ne_true)

end

end Sys2Proof.Machine

namespace Sys2Proof.Machine
open Sys2Proof

/-! ### Threads that wait in WAITD

Only a WAITD begins such a wait (R96). What an instruction's start and its fetch can do to other threads, a realm exit and a wake, ends a
wait: a thread that does not wait in WAITD before does not after. -/

/-- The thread waits in WAITD (R96). -/
def Thread.watches (y : Thread) : Bool := match y.wait with
  | .waitd _ _ _ => true
  | _ => false

/-- The thread does not wait in WAITD. -/
def State.awake (s : State) (t : Nat) : Bool := !(s.thread t).watches

theorem watches_of_wait {x y : Thread} (h : x.wait = y.wait) : x.watches = y.watches := by rw [Thread.watches, Thread.watches, h]

theorem awake_of_thread {s u : State} {t : Nat} (h : u.thread t = s.thread t) : u.awake t = s.awake t := by rw [State.awake, State.awake, h]

theorem awake_of_threads {s u : State} (h : u.threads = s.threads) (t : Nat) : u.awake t = s.awake t :=
  awake_of_thread (congrArg (fun x => Tbl.get ({} : Thread) x t) h)

theorem awake_of_notes {s u : State} (h : s.notes u) (t : Nat) : u.awake t = s.awake t := awake_of_threads h.sameMachine.2.1 t

section
variable (s : State) (t : Nat)

theorem setReg_awake (off : Nat) (w : Word) : (s.setReg off w).awake t = s.awake t := rfl
theorem setFld_awake (off hi lo v : Nat) : (s.setFld off hi lo v).awake t = s.awake t := rfl
theorem addFld_awake (off hi lo n : Nat) : (s.addFld off hi lo n).awake t = s.awake t := rfl
theorem setCore_awake (c : Nat) (x : Core) : (s.setCore c x).awake t = s.awake t := rfl
theorem modCore_awake (c : Nat) (f : Core → Core) : (s.modCore c f).awake t = s.awake t := rfl
theorem modDie_awake (d : Nat) (f : Die → Die) : (s.modDie d f).awake t = s.awake t := rfl
theorem modRealms_awake (f : Realms → Realms) : (s.modRealms f).awake t = s.awake t := rfl
theorem send_awake (m : Msg) : (s.send m).awake t = s.awake t := rfl

theorem modThread_awake (t' : Nat) (f : Thread → Thread) (h : ∀ y, (f y).wait = y.wait) : (s.modThread t' f).awake t = s.awake t := by
  rw [State.awake, State.awake, thread_modThread]
  split
  · next ht => rw [watches_of_wait (h _), ht]
  · rfl

theorem emit_awake (die src code realm : Nat) (ps : List Nat) : (s.emit die src code realm ps).awake t = s.awake t :=
  awake_of_notes (emit_notes s die src code realm ps) t
theorem emitRank_awake (rank die src code realm : Nat) (ps : List Nat) : (s.emitRank rank die src code realm ps).awake t = s.awake t :=
  awake_of_notes (emitRank_notes s rank die src code realm ps) t
theorem ce_awake (die src code realm : Nat) (ps : List Nat) : (s.ce die src code realm ps).awake t = s.awake t :=
  awake_of_notes (ce_notes s die src code realm ps) t
theorem noteUe_awake (code : Nat) : (s.noteUe code).awake t = s.awake t := awake_of_notes (noteUe_notes s code) t
theorem noticeDue_awake (code realm : Nat) (origin : BitVec 16) (ue : Bool) : (s.noticeDue code realm origin ue).awake t = s.awake t :=
  awake_of_notes (noticeDue_notes s code realm origin ue) t
theorem raiseEvent_awake (kind : EventKind) (rank die src : Nat) : (s.raiseEvent kind rank die src).awake t = s.awake t :=
  awake_of_notes (raiseEvent_notes s kind rank die src) t
theorem localEvent_awake (kind : EventKind) (rank die src : Nat) : (s.localEvent kind rank die src).awake t = s.awake t := rfl
theorem countEv_awake (t' ev : Nat) (x : Bool) : (s.countEv t' ev x).awake t = s.awake t := awake_of_thread (thread_countEv s t' ev x t)

theorem countUncore_awake (base k ev n : Nat) (realm : Option Nat) : (s.countUncore base k ev n realm).awake t = s.awake t := by
  unfold State.countUncore
  split
  · rfl
  · exact awake_of_notes (uncoreFrom_received s base ev n realm 0 k).notes t

theorem enterMode_awake (new trans : Nat) : (s.enterMode new trans).awake t = s.awake t := by
  rw [State.enterMode, emit_awake, setReg_awake, setReg_awake]

theorem ueP_awake (die src code realm : Nat) (ps : List Nat) : (s.ueP die src code realm ps).awake t = s.awake t := by
  have hnoted : ((s.emit die src code realm ps).noteUe code).awake t = s.awake t := by rw [noteUe_awake, emit_awake]
  unfold State.ueP
  dsimp only
  split
  · exact hnoted
  · rw [raiseEvent_awake]
    exact (enterMode_awake _ t _ _).trans hnoted

theorem fireInject_awake (rank die src : Nat) : (s.fireInject rank die src).awake t = s.awake t := by
  rw [State.fireInject, emitRank_awake, setReg_awake]

theorem cacheErr_awake (c lo : Nat) : (s.cacheErr c lo).awake t = s.awake t := rfl

theorem useCredit_awake (die n pool : Nat) : (s.useCredit die n pool).awake t = s.awake t := rfl

theorem sendReq_awake (t' : Nat) (m : Msg) : (s.sendReq t' m).awake t = s.awake t := by rw [State.sendReq, send_awake, countEv_awake]

theorem sendCredited_awake (t' pool : Nat) (m : Msg) : (s.sendCredited t' pool m).1.awake t = s.awake t := by
  unfold State.sendCredited
  dsimp only
  split
  · rfl
  · rw [sendReq_awake, useCredit_awake]

theorem sendLineReq_awake (t' : Nat) (kind : MsgType) (a : LineAddr) (held : CState) (realm : Realm) (instr : Bool) :
    (s.sendLineReq t' kind a held realm instr).awake t = s.awake t := by
  grind [State.sendLineReq, modDie_awake, modCore_awake, sendCredited_awake, State.takeTid]

theorem l3Evict_awake (die : Nat) (v : CLine) {u : State} (h : s.l3Evict die v = some u) : u.awake t = s.awake t := by
  grind [State.l3Evict, countUncore_awake, send_awake, modDie_awake, useCredit_awake, modCore_awake, State.takeTid]

end

/-! #### A realm exit ends the wait -/

section
variable {s : State} {t : Nat}

theorem squash_awake (t' : Nat) : (s.squash t').awake t = s.awake t := by
  obtain ⟨hothers, r, n, hself⟩ := squash_threads s t' t
  by_cases h : t = t'
  · subst h
    rw [State.awake, State.awake, hself]
    rfl
  · exact awake_of_thread (hothers h)

theorem saveCtx_awake (t' base : Nat) (th : Thread) (i k : Nat) : (s.saveCtx t' base th i k).awake t = s.awake t := by
  induction k generalizing s i with
  | zero => rfl
  | succ k ih => exact ih (i + 1)

theorem switchPred_awake (c left r : Nat) : (s.switchPred c left r).awake t = s.awake t :=
  awake_of_thread (switchPred_thread s c left r t)

theorem parkPending_awake (t' : Nat) : (s.parkPending t').awake t = s.awake t := by
  unfold State.parkPending
  dsimp only
  split
  · rfl
  · exact modThread_awake _ t t' _ (fun _ => rfl)

theorem closeMb_awake (t' : Nat) : (s.closeMb t').awake t = s.awake t := rfl

theorem modThread_other_awake {t' : Nat} (f : Thread → Thread) (h : t ≠ t') : (s.modThread t' f).awake t = s.awake t :=
  awake_of_thread (by rw [thread_modThread, if_neg h])

/-- A thread that leaves its realm is ready. -/
theorem exitOne_awake (t' sub : Nat) (save : Bool) (h : s.awake t = true) : (s.exitOne t' sub save).awake t = true := by
  unfold State.exitOne
  dsimp only
  by_cases ht : t = t'
  · subst ht
    rw [State.awake, modThread_thread_self]
    rfl
  · rw [modThread_other_awake _ ht, parkPending_awake, switchPred_awake, closeMb_awake, modCore_awake]
    cases save
    · rw [if_neg Bool.false_ne_true, squash_awake, h]
    · rw [if_pos rfl, saveCtx_awake, squash_awake, h]

theorem exitAll_awake (l : List Nat) (h : s.awake t = true) : (s.exitAll l).awake t = true := by
  induction l generalizing s with
  | nil => exact h
  | cons t' l ih => exact ih (exitOne_awake t' 6 false h)

theorem dropServedAll_awake (p : Nat → Bool) (l : List Nat) : (s.dropServedAll p l).awake t = s.awake t := by
  induction l generalizing s with
  | nil => rfl
  | cons e l ih =>
    refine ih.trans (awake_of_threads ?_ t)
    unfold State.dropServed
    dsimp only
    split <;> split <;> rfl

theorem countContexts_awake (l : List Nat) : (s.countContexts l).awake t = s.awake t := by
  induction l generalizing s with
  | nil => rfl
  | cons e l ih => exact ih

theorem ctxJob_awake (j : Option CtxJob) : ({ s with ctxJob := j } : State).awake t = s.awake t := rfl

theorem disableCtxs_awake (r : Nat) : (s.disableCtxs r).awake t = s.awake t := by
  unfold State.disableCtxs State.stopCtxs
  dsimp only
  split
  · split
    · rw [setFld_awake, ctxJob_awake, countContexts_awake, dropServedAll_awake]
      exact awake_of_threads rfl t
    · rw [countContexts_awake, dropServedAll_awake]
      exact awake_of_threads rfl t
  · rw [countContexts_awake, dropServedAll_awake]
    exact awake_of_threads rfl t

theorem resetLocal_awake (r : Nat) (h : s.awake t = true) : (s.resetLocal r).awake t = true := by
  rw [State.resetLocal, disableCtxs_awake]
  exact exitAll_awake _ h

theorem ueR_awake (die src code codeP r : Nat) (ps : List Nat) (h : s.awake t = true) : (s.ueR die src code codeP r ps).awake t = true := by
  unfold State.ueR
  dsimp only
  have hnoted (o : BitVec 16) :
      ((((s.emit die src code r ps).addFld regGlbErrsum 31 16 1).noteUe code).noticeDue code r o true).awake t = true := by
    rw [noticeDue_awake, noteUe_awake, addFld_awake, emit_awake, h]
  split
  · rw [ueP_awake, h]
  · split
    · exact hnoted _
    · split
      · exact hnoted _
      · rw [raiseEvent_awake, modRealms_awake]
        exact resetLocal_awake r (hnoted _)

/-! #### A line that leaves a core wakes its watchers -/

theorem wake_watches (y : Thread) (a : LineAddr) (status : Nat) (h : y.watches = false) : (y.wake a status).watches = false := by
  unfold Thread.wake
  split
  · split
    · rfl
    · exact h
  · exact h

theorem wakeThread_awake (t' : Nat) (a : LineAddr) (status : Nat) (h : s.awake t = true) : (s.wakeThread t' a status).awake t = true := by
  unfold State.wakeThread
  split
  · split
    · rw [State.awake, thread_modThread]
      split
      · next ht =>
        subst ht
        rw [thread_countEv]
        rw [State.awake, Bool.not_eq_true'] at h
        rw [Bool.not_eq_true']
        exact wake_watches _ _ _ h
      · rw [thread_countEv]
        exact h
    · exact h
  · exact h

theorem wakeCore_awake (c : Nat) (a : LineAddr) (h : s.awake t = true) : (s.wakeCore c a).awake t = true :=
  wakeThread_awake _ a 4 (wakeThread_awake _ a 4 h)

theorem wakeCores_awake (c : Nat) (l : List LineAddr) (h : s.awake t = true) : (l.foldl (fun s a => s.wakeCore c a) s).awake t = true := by
  induction l generalizing s with
  | nil => exact h
  | cons a l ih => exact ih (wakeCore_awake c a h)

theorem snoopWakes_awake (c : Nat) (a : LineAddr) : (s.snoopWakes c a).awake t = s.awake t := by
  have hone (u : State) (i : Nat) : (u.snoopWake i a).awake t = u.awake t := by
    unfold State.snoopWake
    split
    · split <;> rfl
    · rfl
  rw [State.snoopWakes, hone, hone]

theorem takeCopies_awake (die : Nat) (a : LineAddr) (l : List Nat) : (s.takeCopies die a l).awake t = s.awake t := by
  induction l generalizing s with
  | nil => rfl
  | cons o l ih =>
    refine ih.trans ?_
    unfold State.takeCopy
    dsimp only
    rw [snoopWakes_awake]
    split <;> rfl

end

end Sys2Proof.Machine

namespace Sys2Proof.Machine
open Sys2Proof

/-! #### How a core obtains a line -/

section
variable {s : State} {t : Nat}

theorem l2Check_awake (c : Nat) (a : LineAddr) (snoop : Bool) (h : s.awake t = true) : (s.l2Check c a snoop).1.awake t = true := by
  unfold State.l2Check
  dsimp only
  split
  · exact h
  · next w v _ =>
    split
    · next k _ =>
      split
      · generalize hu : s.fireInject _ _ _ = u
        have hfire : u.awake t = true := by rw [← hu, fireInject_awake, h]
        generalize ({ v with bad := k + 1 } : CLine) = x
        grind [ueR_awake, wakeCore_awake, modDie_awake, setCore_awake, modCore_awake, cacheErr_awake, ce_awake, ueP_awake]
      · grind [ueR_awake, wakeCore_awake, modDie_awake, setCore_awake, modCore_awake, cacheErr_awake, ce_awake, ueP_awake]
    · grind [ueR_awake, wakeCore_awake, modDie_awake, setCore_awake, modCore_awake, cacheErr_awake, ce_awake, ueP_awake]

theorem l2Read_awake (c : Nat) (a : LineAddr) (h : s.awake t = true) : (s.l2Read c a).1.awake t = true := by
  grind [State.l2Read, modCore_awake, l2Check_awake]

theorem ebCheck_awake (c : Nat) (a : LineAddr) (h : s.awake t = true) : (s.ebCheck c a).1.awake t = true := by
  grind [State.ebCheck, ueR_awake, modCore_awake, cacheErr_awake, ce_awake, fireInject_awake]

theorem l1Fill_awake (c : Nat) (a : LineAddr) (d : Line) (realm : Realm) (instr : Bool) {u : State}
    (hu : s.l1Fill c a d realm instr = some u) (h : s.awake t = true) : u.awake t = true := by
  grind [State.l1Fill, setCore_awake, wakeCore_awake, modCore_awake]

theorem fillCore_awake (c : Nat) (a : LineAddr) (st : CState) (realm : Realm) (d : Line) (instr : Bool) {u : State}
    (hu : s.fillCore c a st realm d instr = some u) (h : s.awake t = true) : u.awake t = true := by
  unfold State.fillCore at hu
  split at hu
  · split at hu
    · cases hu
    · cases hu
      rw [modDie_awake]
      exact wakeCores_awake c _ h
  · obtain ⟨v, hv, rfl⟩ := Option.map_eq_some_iff.mp hu
    rw [modDie_awake]
    exact l1Fill_awake c a d realm instr hv h

theorem cancelEvict_awake (c : Nat) (a : LineAddr) (h : s.awake t = true) : (s.cancelEvict c a).1.awake t = true := by
  grind [State.cancelEvict, modCore_awake, fillCore_awake, ebCheck_awake]

theorem checkHolder_awake (c : Nat) (a : LineAddr) (h : s.awake t = true) : (s.checkHolder c a).awake t = true := by
  grind [State.checkHolder, ebCheck_awake, l2Check_awake]

theorem copyFromCore_awake (c o : Nat) (a : LineAddr) (realm : Realm) (instr : Bool) (h : s.awake t = true) :
    (s.copyFromCore c o a realm instr).1.awake t = true := by
  grind [State.copyFromCore, checkHolder_awake, fillCore_awake, modCore_awake, modDie_awake]

theorem l3Check_awake (die : Nat) (a : LineAddr) (h : s.awake t = true) : (s.l3Check die a).1.awake t = true := by
  unfold State.l3Check
  dsimp only
  split
  · exact h
  · next w v _ =>
    split
    · next k _ =>
      split
      · generalize hu : s.fireInject _ _ _ = u
        have hfire : u.awake t = true := by rw [← hu, fireInject_awake, h]
        generalize ({ v with bad := k + 1 } : CLine) = x
        grind [ueR_awake, modDie_awake, modCore_awake, ce_awake, ueP_awake, setReg_awake, addFld_awake, send_awake, State.takeTid]
      · grind [ueR_awake, modDie_awake, modCore_awake, ce_awake, ueP_awake, setReg_awake, addFld_awake, send_awake, State.takeTid]
    · grind [ueR_awake, modDie_awake, modCore_awake, ce_awake, ueP_awake, setReg_awake, addFld_awake, send_awake, State.takeTid]

theorem l3Read_awake (die : Nat) (a : LineAddr) (h : s.awake t = true) : (s.l3Read die a).1.awake t = true := by
  grind [State.l3Read, modDie_awake, countUncore_awake, l3Check_awake]

theorem l3Install_awake (die : Nat) (v : CLine) {u : State} (hu : s.l3Install die v = some u) : u.awake t = s.awake t := by
  have hput (x : State) (w : Nat) : ((x.modDie die (fun d => { (d.l3Use (l3Key v.line) w) with
      l3 := Tbl.set d.l3 (l3Key v.line * 16 + w) v })).countUncore
        (slotL3 (die * 16 + l3Slice v.line) 0) 4 0x03 1 (some v.realm.toNat)).awake t = x.awake t := by
    rw [countUncore_awake, modDie_awake]
  unfold State.l3Install at hu
  dsimp only at hu
  split at hu
  · cases hu
    exact hput s _
  · split at hu
    · cases hu
    · split at hu
      · cases hu
        exact hput s _
      · split at hu
        · cases hu
        · next x hx =>
          cases hu
          exact (hput x _).trans (l3Evict_awake s t die _ hx)

theorem sfReplace_awake (die : Nat) (a : LineAddr) (e : SfEntry) (h : s.awake t = true) : (s.sfReplace die a e).1.awake t = true := by
  unfold State.sfReplace
  dsimp only
  split
  · rw [takeCopies_awake, h]
  · next o _ =>
    generalize hq : (if ((s.core (die * 20 + o)).l2Find a).isSome then (s.l2Check (die * 20 + o) a).1 else s) = q
    have hcheck : q.awake t = true := by
      rw [← hq]
      split
      · exact l2Check_awake _ a false h
      · exact h
    split
    · exact hcheck
    · split
      · next u hu =>
        have htaken : ((q.takeCopies die a e.cores).modDie die (fun x => x.sfDrop a)).awake t = true := by
          rw [modDie_awake, takeCopies_awake, hcheck]
        split at hu
        · rw [l3Install_awake die _ hu, htaken]
        · rw [l3Evict_awake _ t die _ hu, htaken]
      · exact hcheck

theorem sfRoom_awake (die : Nat) (a : LineAddr) (h : s.awake t = true) : (s.sfRoom die a).1.awake t = true := by
  grind [State.sfRoom, sfReplace_awake]

theorem copyFromL3_awake (c : Nat) (a : LineAddr) (own : Bool) (realm : Realm) (instr : Bool) (h : s.awake t = true) :
    (s.copyFromL3 c a own realm instr).1.awake t = true := by
  grind [State.copyFromL3, l3Read_awake, fillCore_awake, modDie_awake]

theorem sfCorrect_awake (die : Nat) (a : LineAddr) (realm : Realm) : (s.sfCorrect die a realm).awake t = s.awake t := by
  grind [State.sfCorrect, modDie_awake, ce_awake]

theorem l3Lookup_awake (die : Nat) (a : LineAddr) (realm : Realm) : (s.l3Lookup die a realm).awake t = s.awake t :=
  countUncore_awake s t _ _ _ _ _

theorem missL2_awake (t' : Nat) : (s.modThread t' (fun y => { y with missL2 := true })).awake t = s.awake t :=
  modThread_awake s t t' _ (fun _ => rfl)

theorem getShared_awake (t' : Nat) (a : LineAddr) (realm : Realm) (use : LineUse) (h : s.awake t = true) :
    (s.getShared t' a realm use).1.awake t = true := by
  unfold State.getShared
  dsimp only
  have hread := l2Read_awake (coreOf t') a h
  generalize s.l2Read (coreOf t') a = q at hread
  obtain ⟨q, r⟩ := q
  split
  · split <;> exact h
  · split
    · split
      · exact hread
      · split
        · exact hread
        · split
          · exact hread
          · cases Core.evict _ _ _
            · exact hread
            · exact wakeCore_awake _ a hread
    · split
      · split
        · exact hread
        · exact cancelEvict_awake _ a hread
      · have hmiss : (q.modThread t' (fun y => { y with missL2 := true })).awake t = true := by rw [missL2_awake, hread]
        split
        · split
          · rw [ueP_awake, hmiss]
          · have hcorrect : ((q.modThread t' (fun y => { y with missL2 := true })).sfCorrect (dieOfCore (coreOf t')) a realm).awake t =
                true := by rw [sfCorrect_awake, hmiss]
            split
            · exact hcorrect
            · split
              · exact copyFromCore_awake _ _ a realm _ hcorrect
              · rw [sendLineReq_awake, hcorrect]
        · have hroom := sfRoom_awake (dieOfCore (coreOf t')) a hmiss
          split
          · exact hroom
          · split
            · exact copyFromL3_awake _ a false realm _ (by rw [l3Lookup_awake, hroom])
            · rw [sendLineReq_awake, l3Lookup_awake, hroom]

theorem missL1_awake (t' : Nat) : (s.modThread t' (fun y => { y with missL1 := true })).awake t = s.awake t :=
  modThread_awake s t t' _ (fun _ => rfl)

theorem loadLine_awake (t' : Nat) (a : LineAddr) (realm : Realm) (h : s.awake t = true) : (s.loadLine t' a realm).1.awake t = true := by
  grind [State.loadLine, missL1_awake, getShared_awake, modCore_awake, cacheErr_awake, ce_awake, fireInject_awake]

theorem fetchLine_awake (t' : Nat) (a : LineAddr) (h : s.awake t = true) : (s.fetchLine t' a).1.awake t = true := by
  unfold State.fetchLine
  dsimp only
  split
  · split
    · grind [cacheErr_awake, ce_awake, modCore_awake, getShared_awake]
    · exact h
  · grind [modCore_awake, getShared_awake]

/-! #### The walk and the fetch -/

theorem readEntry_awake (t' ea : Nat) (h : s.awake t = true) : (s.readEntry t' ea).1.awake t = true := by
  grind [State.readEntry, getShared_awake, loadLine_awake]

theorem checkOwner_awake (t' pa : Nat) : (s.checkOwner t' pa).1.awake t = s.awake t := by
  unfold State.checkOwner
  dsimp only
  split
  · rfl
  · split
    · rfl
    · unfold State.askOwner
      dsimp only
      refine (modThread_awake _ t t' _ ?_).trans (sendReq_awake _ t t' _)
      exact fun _ => rfl

theorem walkLeaf_awake (t' : Nat) (va : BitVec 57) (k : AccKind) (lvl ea : Nat) (e : Word) :
    (s.walkLeaf t' va k lvl ea e).1.awake t = s.awake t := by
  unfold State.walkLeaf
  dsimp only
  have howner := checkOwner_awake (s := s) (t := t) t' ((pteAddr e + va.toNat % 2 ^ (12 + 9 * lvl)) % 2 ^ 52)
  generalize (if k = .store then putBits (putBits e 7 7 1) 8 8 1 else putBits e 7 7 1) = need
  split
  · rfl
  · split
    · exact howner
    · exact howner
    · split
      · exact howner
      · split
        · refine (modThread_awake _ t t' _ ?_).trans howner
          exact fun _ => rfl
        · split
          · exact howner
          · rw [modCore_awake, countEv_awake, howner]

theorem refused_awake (t' : Nat) : (s.modThread t' (fun y => { y with refused := none })).awake t = s.awake t :=
  modThread_awake s t t' _ (fun _ => rfl)

theorem walk_awake (t' : Nat) (va : BitVec 57) (k : AccKind) (table n : Nat) (h : s.awake t = true) :
    (s.walk t' va k table n).1.awake t = true := by
  fun_induction State.walk s t' va k table n <;> grind [modCore_awake, walkLeaf_awake, readEntry_awake, refused_awake]

theorem tlbParity_awake (c st set way : Nat) : (s.tlbParity c st set way).awake t = s.awake t := ce_awake s t _ _ _ _ _

theorem missTlb_awake (t' : Nat) : (s.modThread t' (fun y => { y with missTlb := true })).awake t = s.awake t :=
  modThread_awake s t t' _ (fun _ => rfl)

theorem startWalk_awake (t' : Nat) (va : BitVec 57) (k : AccKind) (h : s.awake t = true) : (s.startWalk t' va k).1.awake t = true := by
  grind [State.startWalk, walk_awake, modCore_awake, tlbParity_awake, missTlb_awake]

theorem dropBadTlb_awake (t' : Nat) (va : BitVec 57) : (s.dropBadTlb t' va).awake t = s.awake t := by
  grind [State.dropBadTlb, modCore_awake, tlbParity_awake]

theorem fromL2Tlb_awake (t' : Nat) (va : BitVec 57) (k : AccKind) (e : Tlb) (h : s.awake t = true) :
    (s.fromL2Tlb t' va k e).1.awake t = true := by
  grind [State.fromL2Tlb, checkOwner_awake, startWalk_awake, modCore_awake]

theorem translateOn_awake (t' : Nat) (va : BitVec 57) (k : AccKind) (h : s.awake t = true) : (s.translateOn t' va k).1.awake t = true := by
  grind [State.translateOn, fromL2Tlb_awake, startWalk_awake, modCore_awake, dropBadTlb_awake]

theorem translate_awake (t' : Nat) (va : Word) (k : AccKind) (h : s.awake t = true) : (s.translate t' va k).1.awake t = true := by
  grind [State.translate, translateOn_awake]

/-- A fetch that may go on. -/
theorem fetch_awake (t' : Nat) {u : State} (hu : s.fetch t' = (u, true)) (h : s.awake t = true) : u.awake t = true := by
  grind [State.fetch, fetchLine_awake, translate_awake]

/-- An instruction starts in a thread that is ready. -/
theorem starts_awake {u : State} (hs : s.starts t none u) : u.awake t = true := by
  obtain ⟨-, hstart⟩ := hs
  unfold State.startInstr at hstart
  split at hstart
  · cases hstart
  · next hcan =>
    have hready : s.awake t = true := by
      have hwait : (s.thread t).wait = .ready := by
        simp [State.canStart] at hcan
        exact hcan.1.1.1.2
      rw [State.awake, Thread.watches, hwait]
      rfl
    split at hstart
    · cases hstart
    · split at hstart
      · cases hstart
      · next v hfetch =>
        have hmark : v.residueMark t none = (v, true) := by
          unfold State.residueMark
          cases (v.thread t).retried <;> rfl
        rw [hmark] at hstart
        cases hstart
        exact fetch_awake t hfetch hready

end

end Sys2Proof.Machine

namespace Sys2Proof.Machine
open Sys2Proof

/-! ### CACHE by set and way (R89, R91, R168, R177, R178) -/

section
variable {s s' : State} {t : Nat} {ra : BitVec 5} {l3 : Bool} {f : State → Nat × Nat × Nat → State} {c : Instr}
  {d : Nat × Nat × Nat}
  (hc : exec c s = swInstr s t ra l3 f) (hs : s.starts t none s')
include hc hs

theorem swInstr_geometry (h : swDescriptor ((s'.thread t).gpr ra) l3 = none) : exec c s = .next (s'.illegal t) := by
  rw [hc, swInstr, onThread_starts _ _ _ _ _ hs]
  simp only [h]

theorem swInstr_privileged (h : swDescriptor ((s'.thread t).gpr ra) l3 = some d) (hl : (s'.thread t).level < 2) :
    exec c s = .next (s'.privileged t) := by
  rw [hc, swInstr, onThread_starts _ _ _ _ _ hs]
  simp only [h]
  rw [if_pos hl]

theorem swInstr_runs (h : swDescriptor ((s'.thread t).gpr ra) l3 = some d) (hl : (s'.thread t).level = 2) : exec c s = .next (f s' d) := by
  rw [hc, swInstr, onThread_starts _ _ _ _ _ hs]
  simp only [h]
  rw [if_neg (by omega)]

end

/-- The lines a set and way instruction may name: those of the die's L3, or of the core's L2. -/
abbrev State.swLine (s : State) (t : Nat) (l3 : Bool) (d : Nat × Nat × Nat) : Option CLine :=
  if l3 then Tbl.find (s.die (dieOf t)).l3 ((d.2.2 * 4096 + d.2.1) * 16 + d.1) else Tbl.find (s.core (coreOf t)).l2 (d.2.1 * 16 + d.1)

/-- CLEAN by set and way, in either cache. -/
abbrev State.cleanSwRun (s : State) (t : Nat) (l3 : Bool) (d : Nat × Nat × Nat) : State :=
  if l3 then s.cleanSw3Run t d else s.cleanSw2Run t d

/-- INV and CLINV by set and way, in either cache. -/
abbrev State.invSwRun (s : State) (t : Nat) (l3 : Bool) (d : Nat × Nat × Nat) : State :=
  if l3 then s.invSw3Run t d else s.invSw2Run t d

theorem exec_cleanSw (t : ThreadPos) (ra : BitVec 5) (l3 : Bool) (s : State) :
    exec (if l3 then .cleanSw3 t ra else .cleanSw2 t ra) s = swInstr s t ra l3 (fun s d => s.cleanSwRun t l3 d) := by
  cases l3 <;> rfl

theorem exec_invSw (t : ThreadPos) (ra : BitVec 5) (l3 : Bool) (s : State) :
    exec (if l3 then .invSw3 t ra else .invSw2 t ra) s = swInstr s t ra l3 (fun s d => s.invSwRun t l3 d) := by
  cases l3 <;> rfl

theorem exec_clinvSw (t : ThreadPos) (ra : BitVec 5) (l3 : Bool) (s : State) :
    exec (if l3 then .clinvSw3 t ra else .clinvSw2 t ra) s = swInstr s t ra l3 (fun s d => s.invSwRun t l3 d) := by
  cases l3 <;> rfl

theorem l3Hdr_modCore (s : State) (c' : Nat) (f : Core → Core) (c t : Nat) (a : LineAddr) (tid : BitVec 12) (realm : Realm)
    (die slice : Nat) :
    { (s.modCore c' f).coreHdr c t a tid realm with src := (s.modCore c' f).l3Agent die slice } =
      { s.coreHdr c t a tid realm with src := s.l3Agent die slice } := rfl

section
variable {s : State} {t : Nat} {l3 : Bool} {d : Nat × Nat × Nat}

theorem cleanSwRun_absent (h : s.swLine t l3 d = none) : s.cleanSwRun t l3 d = s.retire t := by
  cases l3
  · simp only [State.swLine, State.cleanSwRun, Bool.false_eq_true, if_false] at h ⊢
    simp only [State.cleanSw2Run, h]
  · simp only [State.swLine, State.cleanSwRun, if_true] at h ⊢
    simp only [State.cleanSw3Run, h]

theorem invSwRun_absent (h : s.swLine t l3 d = none) : s.invSwRun t l3 d = s.retire t := by
  cases l3
  · simp only [State.swLine, State.invSwRun, Bool.false_eq_true, if_false] at h ⊢
    simp only [State.invSw2Run, h]
  · simp only [State.swLine, State.invSwRun, if_true] at h ⊢
    simp only [State.invSw3Run, h]

variable {v : CLine} (h : s.swLine t l3 d = some v)
include h

theorem cleanSwRun_clean (hM : v.st ≠ .M) (hO : v.st ≠ .O) : s.cleanSwRun t l3 d = s.retire t := by
  have hst : ¬ (v.st = .M ∨ v.st = .O) := fun hd => hd.elim hM hO
  cases l3
  · simp only [State.swLine, State.cleanSwRun, Bool.false_eq_true, if_false] at h ⊢
    simp only [State.cleanSw2Run, h, hst, if_false]
  · simp only [State.swLine, State.cleanSwRun, if_true] at h ⊢
    simp only [State.cleanSw3Run, h, hst, if_false]

theorem cleanSwRun_dirty (hst : v.st = .M ∨ v.st = .O) (hcan : s.canAsk t 0 v.line) :
    s.asks (s.cleanSwRun t l3 d) t { type := .cmo, hdr := { s.coreHdr (coreOf t) t v.line (s.core (coreOf t)).nextTid v.realm with
      src := if l3 then s.l3Agent (dieOf t) d.2.2 else s.coreAgent (coreOf t) }, body := .cmo false } .done := by
  cases l3
  · simp only [State.swLine, State.cleanSwRun, Bool.false_eq_true, if_false] at h ⊢
    simp only [State.cleanSw2Run, h, hst, if_true]
    exact sendAndWait_asks (hdr := fun tid s => s.coreHdr (coreOf t) t v.line tid v.realm)
      (coreHdr_modCore s (coreOf t) _ (coreOf t) t v.line _ _) rfl rfl hcan
  · simp only [State.swLine, State.cleanSwRun, if_true] at h ⊢
    simp only [State.cleanSw3Run, h, hst, if_true]
    exact sendAndWait_asks (hdr := fun tid s => { s.coreHdr (coreOf t) t v.line tid v.realm with src := s.l3Agent (dieOf t) d.2.2 })
      (l3Hdr_modCore s (coreOf t) _ (coreOf t) t v.line _ _ _ _) rfl rfl hcan

end

/-- Waking a thread leaves what a request or a line is read from, and the other threads. -/
theorem wakeThread_keeps (s : State) (t : Nat) (a : LineAddr) (status : Nat) :
    (∀ c, ((s.wakeThread t a status).core c).unsampled = (s.core c).unsampled) ∧ (s.wakeThread t a status).sent = s.sent ∧
      (∀ t', t' ≠ t → (s.wakeThread t a status).thread t' = s.thread t') := by
  unfold State.wakeThread
  split
  · split
    · obtain ⟨⟨houtside, -, hothers, hcores⟩, -⟩ :=
        countEv_countsOnly { s with events := s.events.filter (fun e => decide (e.kind ≠ EventKind.wake t a)) } t 0x03 true
      exact ⟨hcores, congrArg (·.sent) houtside, fun t' ht' => by rw [thread_modThread, if_neg ht', hothers t' ht']; rfl⟩
    · exact ⟨fun _ => rfl, rfl, fun _ _ => rfl⟩
  · exact ⟨fun _ => rfl, rfl, fun _ _ => rfl⟩

theorem wakeThread_of_awake {s : State} {t : Nat} (a : LineAddr) (status : Nat) (h : s.awake t = true) : s.wakeThread t a status = s := by
  unfold State.wakeThread
  split
  · next hw =>
    rw [State.awake, Thread.watches, hw] at h
    cases h
  · rfl

/-- A line that leaves the L2 wakes only threads that wait in WAITD. -/
theorem wakeCore_keeps (s : State) (c : Nat) (a : LineAddr) :
    (∀ c', ((s.wakeCore c a).core c').unsampled = (s.core c').unsampled) ∧ (s.wakeCore c a).sent = s.sent ∧
      (∀ t, s.awake t = true → (s.wakeCore c a).thread t = s.thread t) := by
  obtain ⟨hcores, hsent, -⟩ := wakeThread_keeps s (2 * c) a 4
  obtain ⟨hcores', hsent', -⟩ := wakeThread_keeps (s.wakeThread (2 * c) a 4) (2 * c + 1) a 4
  have hawake (u : State) (i t st : Nat) (hw : u.awake t = true) : (u.wakeThread i a st).thread t = u.thread t := by
    by_cases hi : t = i
    · rw [← hi, wakeThread_of_awake a st hw]
    · obtain ⟨-, -, hothers⟩ := wakeThread_keeps u i a st
      exact hothers t hi
  refine ⟨fun c' => (hcores' c').trans (hcores c'), hsent'.trans hsent, fun t hw => ?_⟩
  exact (hawake _ (2 * c + 1) t 4 (wakeThread_awake _ a 4 hw)).trans (hawake s (2 * c) t 4 hw)

section
variable {s : State} {t : Nat} {d : Nat × Nat × Nat} {v : CLine}

/-- INV.SW2: the line leaves the L2 through the eviction buffer. -/
theorem invSw2Run_evicts {k : Core} (h : s.swLine t false d = some v) (hfrozen : v.frozen = false)
    (hevict : (s.core (coreOf t)).evict v true = some k) (hawake : s.awake t = true) :
    let u := s.invSwRun t false d
    (u.core (coreOf t)).l2 = k.l2 ∧ (u.core (coreOf t)).eb = k.eb ∧ u.mem = s.mem ∧ u.sent = s.sent ∧
      (u.thread t).goesTo (s.thread t).nextPc none := by
  have heq : s.invSwRun t false d = ((s.setCore (coreOf t) k).wakeCore (coreOf t) v.line).retire t := by
    simp only [State.swLine, State.invSwRun, Bool.false_eq_true, if_false] at h ⊢
    simp only [State.invSw2Run, h, hfrozen, hevict, Bool.false_eq_true, if_false]
  obtain ⟨hcores, hsent, hthread⟩ := wakeCore_keeps (s.setCore (coreOf t) k) (coreOf t) v.line
  obtain ⟨⟨honly, -⟩, -, hgoes⟩ := retire_jumps ((s.setCore (coreOf t) k).wakeCore (coreOf t) v.line) t
  have hcore := (honly.core (coreOf t)).trans (hcores (coreOf t))
  rw [core_setCore, if_pos rfl] at hcore
  rw [hthread t hawake] at hgoes
  rw [heq]
  exact ⟨congrArg (·.l2) hcore, congrArg (·.eb) hcore, honly.mem.trans (wakeCore_mem _ _ _), honly.sent.trans hsent, hgoes⟩

theorem die_modDie_self (s : State) (d : Nat) (f : Die → Die) : (s.modDie d f).die d = f (s.die d) := by
  rw [State.modDie, State.setDie, State.die, Tbl_get_set, if_pos rfl]

theorem countUncore_thread (s : State) (base k ev n : Nat) (realm : Option Nat) (t : Nat) :
    (s.countUncore base k ev n realm).thread t = s.thread t := by
  unfold State.countUncore
  split
  · rfl
  · exact congrArg (fun x => Tbl.get ({} : Thread) x t) (uncoreFrom_received s base ev n realm 0 k).notes.sameMachine.2.1

theorem l3Evict_thread {u : State} (die : Nat) (v : CLine) (h : s.l3Evict die v = some u) (t : Nat) : u.thread t = s.thread t := by
  unfold State.l3Evict at h
  dsimp only at h
  split at h
  · cases h
    rfl
  · split at h
    · cases h
    · cases h
      split
      · exact countUncore_thread _ _ _ _ _ _ t
      · rfl

/-- INV.SW3: the line leaves the L3. -/
theorem invSw3Run_evicts {s2 : State} (h : s.swLine t true d = some v) (hevict : s.l3Evict (dieOf t) v = some s2) :
    let u := s.invSwRun t true d
    (u.die (dieOf t)).l3 = ((s2.die (dieOf t)).l3Drop v.line).l3 ∧ u.mem = s.mem ∧ (u.thread t).goesTo (s.thread t).nextPc none := by
  have heq : s.invSwRun t true d = (s2.modDie (dieOf t) (fun x => x.l3Drop v.line)).retire t := by
    simp only [State.swLine, State.invSwRun, if_true] at h ⊢
    simp only [State.invSw3Run, h, hevict]
  obtain ⟨⟨honly, -⟩, -, hgoes⟩ := retire_jumps (s2.modDie (dieOf t) (fun x => x.l3Drop v.line)) t
  have hdies : ((s2.modDie (dieOf t) (fun x => x.l3Drop v.line)).retire t).dies = (s2.modDie (dieOf t) (fun x => x.l3Drop v.line)).dies :=
    congrArg (·.dies) honly.1
  rw [show (s2.modDie (dieOf t) (fun x => x.l3Drop v.line)).thread t = s.thread t from l3Evict_thread (dieOf t) v hevict t] at hgoes
  rw [heq]
  refine ⟨?_, honly.mem.trans (l3Evict_mem s _ v s2 hevict), hgoes⟩
  rw [State.die, hdies]
  exact congrArg (·.l3) (die_modDie_self s2 (dieOf t) (fun x => x.l3Drop v.line))

end

/-- Settles O26: the instructions by address, and those by set and way of either cache. -/
theorem cacheInstructions : Obligations.CacheInstructions := by
  constructor
  · intro t ra s s' s2 s3 p pa mt hs x va c ask clear goes again
    have hclean : exec (.cleanVa t ra) s = .next (s'.cmoRun t va false) := (exec_cleanVa t ra s).trans (onThread_starts _ _ _ _ _ hs)
    have hclinv : exec (.clinvVa t ra) s = .next (s'.cmoRun t va true) := (exec_clinvVa t ra s).trans (onThread_starts _ _ _ _ _ hs)
    have hinv (hl : 1 ≤ x.level) : exec (.invVa t ra) s = .next (s'.cmoRun t va true) := exec_invVa_open hs hl
    have hl1i : exec (.invL1i t ra) s = .next (s'.invL1iRun t va) := (exec_invL1i t ra s).trans (onThread_starts _ _ _ _ _ hs)
    have hzero : exec (.zeroVa t ra) s = .next (s'.zeroRun t va) := (exec_zeroVa t ra s).trans (onThread_starts _ _ _ _ _ hs)
    have hgoes {i : Instr} {u v : State} (hi : exec i s = .next u) (hu : u = v.retire t) :
        Ends i s (fun w => v.jumps w t (v.thread t).nextPc none) := ⟨u, hi, hu ▸ retire_jumps v t⟩
    refine ⟨fun hl => ?user, fun hp hmt hclear hcan => ?asks, fun hp hmt => ?uncached, fun hp hleft => ?again, fun hp hclear => ?l1i,
      fun hp hclear hstore => ?zero, fun hp hleft => ?zeroAgain, fun hp hmt => ?memtype⟩
    case user => exact sysInstr_privileged (exec_invVa t ra s) hs (Nat.lt_one_iff.mpr hl)
    case asks =>
      have hasks (clinv : Bool) := cmoRun_asks hp clinv hmt hclear hcan
      exact ⟨⟨_, hclean, hasks false⟩, ⟨_, hclinv, hasks true⟩, fun hl => ⟨_, hinv hl, hasks true⟩⟩
    case uncached =>
      exact ⟨hgoes hclean (cmoRun_uncached hp false hmt), hgoes hclinv (cmoRun_uncached hp true hmt),
        fun hl => hgoes (hinv hl) (cmoRun_uncached hp true hmt)⟩
    case again =>
      obtain ⟨u, hclose, hagain⟩ := closeLine_left hleft
      exact ⟨⟨u, hl1i.trans (congrArg _ (invL1iRun_again hp hclose)), hagain⟩, fun hmt =>
        ⟨⟨u, hclean.trans (congrArg _ (cmoRun_again hp false hmt hclose)), hagain⟩,
          ⟨u, hclinv.trans (congrArg _ (cmoRun_again hp true hmt hclose)), hagain⟩,
          fun hl => ⟨u, (hinv hl).trans (congrArg _ (cmoRun_again hp true hmt hclose)), hagain⟩⟩⟩
    case l1i =>
      obtain ⟨⟨honly, -⟩, -, hgoes⟩ := retire_jumps (s2.modCore (coreOf t) (fun k => k.l1iDrop p.line)) t
      have hcore := honly.core (coreOf t)
      rw [core_modCore, if_pos rfl] at hcore
      have hl1i' : (((s2.modCore (coreOf t) (fun k => k.l1iDrop p.line)).retire t).core (coreOf t)).l1i =
          (s2.core (coreOf t)).l1i.filter (fun q => decide (q.2.line ≠ p.line)) := congrArg (·.l1i) hcore
      refine ⟨_, hl1i.trans (congrArg _ (invL1iRun_clear hp hclear)), fun q hq => ?_, congrArg (·.l2) hcore, honly.mem,
        honly.sent, hgoes⟩
      rw [hl1i'] at hq
      exact of_decide_eq_true (List.mem_filter.mp hq).2
    case zero => exact hgoes hzero (zeroRun_stores hp hclear hstore)
    case zeroAgain =>
      obtain ⟨u, hclose, hagain⟩ := closeLine_left hleft
      exact ⟨u, hzero.trans (congrArg _ (zeroRun_again hp hclose)), hagain⟩
    case memtype => exact hzero.trans (congrArg _ (zeroRun_memtype hp hmt))
  · intro t ra s s' s2 l3 d v k hs x c die ask goes found clean inv clinv
    have hclean := exec_cleanSw t ra l3 s
    have hinv := exec_invSw t ra l3 s
    have hclinv := exec_clinvSw t ra l3 s
    have hgoes {i : Instr} {u : State} (hi : exec i s = .next u) (hu : u = s'.retire t) : goes i := ⟨u, hi, hu ▸ retire_jumps s' t⟩
    refine ⟨fun hd => ⟨swInstr_geometry hclean hs hd, swInstr_geometry hinv hs hd, swInstr_geometry hclinv hs hd⟩,
      fun hd hl => ⟨swInstr_privileged hclean hs hd hl, swInstr_privileged hinv hs hd hl, swInstr_privileged hclinv hs hd hl⟩,
      fun hd hl hfound => ?absent, fun hd hl hfound => ?held⟩
    case absent =>
      exact ⟨hgoes (swInstr_runs hclean hs hd hl) (cleanSwRun_absent hfound), hgoes (swInstr_runs hinv hs hd hl) (invSwRun_absent hfound),
        hgoes (swInstr_runs hclinv hs hd hl) (invSwRun_absent hfound)⟩
    case held =>
      refine ⟨fun hM hO => hgoes (swInstr_runs hclean hs hd hl) (cleanSwRun_clean hfound hM hO),
        fun hst hcan => ⟨_, swInstr_runs hclean hs hd hl, cleanSwRun_dirty hfound hst hcan⟩, fun h3 hfrozen hevict => ?_,
        fun h3 hevict => ?_⟩
      · cases h3
        have hput := invSw2Run_evicts hfound hfrozen hevict (starts_awake hs)
        exact ⟨⟨_, swInstr_runs hinv hs hd hl, hput⟩, ⟨_, swInstr_runs hclinv hs hd hl, hput⟩⟩
      · cases h3
        have hput := invSw3Run_evicts hfound hevict
        exact ⟨⟨_, swInstr_runs hinv hs hd hl, hput⟩, ⟨_, swInstr_runs hclinv hs hd hl, hput⟩⟩

end Sys2Proof.Machine

namespace Sys2Proof.Machine
open Sys2Proof

/-! ## Cores and caches between instructions

### What a store leaves in the merging buffer (R160, R161, R164, R165) -/

theorem maskNat_lt (m n : Nat) : maskNat m n < 2 ^ (8 * n) := by
  induction n with
  | zero => exact Nat.one_pos
  | succ n ih =>
    have hpow : 2 ^ (8 * (n + 1)) = 256 * 2 ^ (8 * n) := by rw [Nat.mul_add, Nat.pow_add, Nat.mul_comm]
    rw [maskNat, hpow]
    split <;> omega

/-- Bit `i` of the mask of a line's bits is that of byte `i / 8`. -/
theorem testBit_maskNat (m n i : Nat) : (maskNat m n).testBit i = (decide (i < 8 * n) && m.testBit (i / 8)) := by
  induction n with
  | zero => simp [maskNat]
  | succ n ih =>
    have hsum : maskNat m (n + 1) = 2 ^ (8 * n) * (if m.testBit n then 2 ^ 8 - 1 else 0) + maskNat m n := by
      rw [maskNat, Nat.add_comm]
      split
      · rw [Nat.mul_comm]
        rfl
      · rw [Nat.mul_zero]
    rw [hsum, Nat.testBit_two_pow_mul_add _ (maskNat_lt m n), ih]
    by_cases hlow : i < 8 * n
    · simp [hlow, show i < 8 * (n + 1) by omega]
    · rw [if_neg hlow]
      by_cases hbyte : i < 8 * (n + 1)
      · rw [show i / 8 = n by omega, decide_eq_true hbyte, Bool.true_and]
        split
        · next hm => rw [Nat.testBit_two_pow_sub_one, hm, decide_eq_true (by omega)]
        · next hm => rw [Nat.zero_testBit, Bool.eq_false_of_not_eq_true hm]
      · rw [decide_eq_false hbyte, Bool.false_and]
        split
        · rw [Nat.testBit_two_pow_sub_one, decide_eq_false (by omega)]
        · exact Nat.zero_testBit _

/-- Each bit of a merged line is the new one's where its byte is named. -/
theorem getLsbD_mergeLine (old new : Line) (m : BitVec 64) {i : Nat} (h : i < 512) :
    (mergeLine old new m).getLsbD i = if m.getLsbD (i / 8) then new.getLsbD i else old.getLsbD i := by
  have hmask : (maskLine m).getLsbD i = m.getLsbD (i / 8) := by
    rw [maskLine, BitVec.getLsbD_ofNat, testBit_maskNat, decide_eq_true h, Bool.true_and, Bool.true_and,
      BitVec.testBit_toNat]
  rw [mergeLine, BitVec.getLsbD_or, BitVec.getLsbD_and, BitVec.getLsbD_and, BitVec.getLsbD_not, hmask, decide_eq_true h]
  cases m.getLsbD (i / 8) <;> simp

/-- Only the named bytes of what is merged matter. -/
theorem mergeLine_merged (old base new : Line) (m : BitVec 64) : mergeLine old (mergeLine base new m) m = mergeLine old new m := by
  refine BitVec.eq_of_getLsbD_eq fun i hi => ?_
  simp only [getLsbD_mergeLine _ _ _ hi]
  split <;> rfl

/-- Merging an entry's bytes after those of the entries before it. -/
def forwardStep (p : BitVec 64 × Line) (e : MbEntry) : BitVec 64 × Line := (p.1 ||| e.mask, mergeLine p.2 e.data e.mask)

theorem mbForward_eq (l : List MbEntry) (a : LineAddr) :
    mbForward l a = (l.filter (fun e => decide (e.line = a))).foldl forwardStep (0, 0) := rfl

/-- The entries supply a byte when one of them does. -/
theorem getLsbD_forward (p : BitVec 64 × Line) (l : List MbEntry) (i : Nat) :
    (l.foldl forwardStep p).1.getLsbD i = (p.1.getLsbD i || l.any (fun e => e.mask.getLsbD i)) := by
  induction l generalizing p with
  | nil => simp
  | cons e l ih => rw [List.foldl_cons, ih, forwardStep, BitVec.getLsbD_or, List.any_cons, Bool.or_assoc]

/-- The entries of a list that `o` names take a store's bytes. -/
def takeStore (o : MbEntry → Bool) (d : Line) (m : BitVec 64) (clk : Word) (e : MbEntry) : MbEntry :=
  if o e then { e with data := mergeLine e.data d m, mask := e.mask ||| m, lastStore := clk } else e

section
variable {o : MbEntry → Bool} {d : Line} {m : BitVec 64} {clk : Word}

theorem takeStore_line (e : MbEntry) : (takeStore o d m clk e).line = e.line := by rw [takeStore]; split <;> rfl
theorem takeStore_thread (e : MbEntry) : (takeStore o d m clk e).thread = e.thread := by rw [takeStore]; split <;> rfl

theorem getLsbD_takeStore_mask (e : MbEntry) (i : Nat) :
    (takeStore o d m clk e).mask.getLsbD i = (e.mask.getLsbD i || (o e && m.getLsbD i)) := by
  rw [takeStore]
  split
  · next h => rw [h, Bool.true_and, BitVec.getLsbD_or]
  · next h => rw [Bool.eq_false_of_not_eq_true h, Bool.false_and, Bool.or_false]

/-- Where one of the entries takes the store, they supply its bytes beside those of before. -/
theorem forward_takeStore_mask {l : List MbEntry} (h : l.any o = true) (p : BitVec 64 × Line) :
    ((l.map (takeStore o d m clk)).foldl forwardStep p).1 = (l.foldl forwardStep p).1 ||| m := by
  refine BitVec.eq_of_getLsbD_eq fun i _ => ?_
  rw [getLsbD_forward, BitVec.getLsbD_or, getLsbD_forward, List.any_map, Bool.or_assoc]
  congr 1
  rw [Function.comp_def]
  simp only [getLsbD_takeStore_mask]
  obtain ⟨e, he, ho⟩ := List.any_eq_true.mp h
  cases hm : m.getLsbD i
  · simp only [Bool.and_false, Bool.or_false]
  · rw [Bool.or_true]
    exact List.any_eq_true.mpr ⟨e, he, by rw [ho, Bool.true_and, Bool.or_true]⟩

/-- Bytes that the store does not name are supplied as before. -/
theorem forward_takeStore_other {i : Nat} (hi : i < 512) (hm : m.getLsbD (i / 8) = false) (l : List MbEntry) {p q : BitVec 64 × Line}
    (h : q.2.getLsbD i = p.2.getLsbD i) :
    ((l.map (takeStore o d m clk)).foldl forwardStep q).2.getLsbD i = (l.foldl forwardStep p).2.getLsbD i := by
  induction l generalizing p q with
  | nil => exact h
  | cons e l ih =>
    refine ih ?_
    simp only [forwardStep, getLsbD_mergeLine _ _ _ hi, getLsbD_takeStore_mask, hm, Bool.and_false, Bool.or_false, h]
    have hdata : (takeStore o d m clk e).data.getLsbD i = e.data.getLsbD i := by
      rw [takeStore]
      split
      · rw [getLsbD_mergeLine _ _ _ hi, hm, if_neg Bool.false_ne_true]
      · rfl
    rw [hdata]

/-- Where the youngest entry takes the store, the store's bytes go over those of before. -/
theorem forward_takeStore_data {l : List MbEntry} (h : l.getLast?.any o = true) (p : BitVec 64 × Line) :
    ((l.map (takeStore o d m clk)).foldl forwardStep p).2 = mergeLine (l.foldl forwardStep p).2 d m := by
  obtain ⟨init, e, rfl⟩ : ∃ init e, l = init ++ [e] := by
    rcases List.eq_nil_or_concat' l with rfl | ⟨init, e, rfl⟩
    · cases h
    · exact ⟨init, e, rfl⟩
  rw [List.getLast?_concat, Option.any_some] at h
  refine BitVec.eq_of_getLsbD_eq fun i hi => ?_
  rw [List.map_append, List.foldl_append, List.foldl_append, getLsbD_mergeLine _ _ _ hi]
  simp only [List.map_cons, List.map_nil, List.foldl_cons, List.foldl_nil, forwardStep, getLsbD_mergeLine _ _ _ hi,
    getLsbD_takeStore_mask, h, Bool.true_and]
  have hdata : (takeStore o d m clk e).data = mergeLine e.data d m := by rw [takeStore, if_pos h]
  rw [hdata, getLsbD_mergeLine _ _ _ hi]
  cases hm : m.getLsbD (i / 8)
  · rw [Bool.or_false, if_neg Bool.false_ne_true, if_neg Bool.false_ne_true, forward_takeStore_other hi hm init rfl]
  · rw [Bool.or_true, if_pos rfl, if_pos rfl, if_pos rfl]

theorem mbForward_takeStore (l : List MbEntry) (b : LineAddr) :
    mbForward (l.map (takeStore o d m clk)) b = ((l.filter (fun e => decide (e.line = b))).map (takeStore o d m clk)).foldl forwardStep (0, 0) := by
  rw [mbForward_eq, List.filter_map]
  simp only [Function.comp_def, takeStore_line]

/-- Entries of another line are supplied as before. -/
theorem mbForward_takeStore_ne {b : LineAddr} (h : ∀ e : MbEntry, e.line = b → o e = false) (l : List MbEntry) :
    mbForward (l.map (takeStore o d m clk)) b = mbForward l b := by
  rw [mbForward_takeStore, mbForward_eq]
  congr 1
  refine List.map_congr_left (g := id) (fun e he => ?_) |>.trans (List.map_id _)
  rw [takeStore, h e (of_decide_eq_true (List.mem_filter.mp he).2), if_neg Bool.false_ne_true, id]

end

/-- A younger entry's bytes go over those of before. -/
theorem mbForward_concat (l : List MbEntry) (e : MbEntry) : mbForward (l ++ [e]) e.line = forwardStep (mbForward l e.line) e := by
  rw [mbForward_eq, List.filter_append, List.foldl_append, List.filter_singleton, decide_eq_true rfl]
  rfl

theorem mbForward_concat_ne (l : List MbEntry) {e : MbEntry} {b : LineAddr} (h : b ≠ e.line) : mbForward (l ++ [e]) b = mbForward l b := by
  rw [mbForward_eq, List.filter_append, List.filter_singleton, decide_eq_false (Ne.symm h), cond_false, List.append_nil, ← mbForward_eq]

/-- The entry may take a store of the thread to the line (R161). -/
def openFor (t : Nat) (a : LineAddr) (uncached : Bool) (e : MbEntry) : Bool :=
  decide (e.thread.val = threadIx t) && decide (e.line = a) && !e.closed && e.uncached == uncached

/-- The buffer of the thread's core becomes `f` of what it was. -/
abbrev State.modMb (s : State) (t : Nat) (f : List MbEntry → List MbEntry) : State :=
  s.modCore (coreOf t) (fun k => { k with mb := f k.mb })

theorem mbOf_modMb (s : State) (t : Nat) (f : List MbEntry → List MbEntry) :
    (s.modMb t f).mbOf t = (f (s.core (coreOf t)).mb).filter (fun e => e.thread.val = threadIx t) := by
  rw [State.mbOf, core_modCore, if_pos rfl]

/-- A store enters the open entries of its thread for the line, or a new one. -/
theorem mbStore_cases {s s3 : State} {t : Nat} {a : LineAddr} {d : Line} {m : BitVec 64} {uncached closed zero : Bool}
    (h : s.mbStore t a d m uncached closed zero = some s3) :
    (closed = false ∧ (s.core (coreOf t)).mb.any (openFor t a uncached) = true ∧
      s3 = s.modMb t (List.map (takeStore (openFor t a uncached) d m s.clause))) ∨
    ((closed = true ∨ (s.core (coreOf t)).mb.any (openFor t a uncached) = false) ∧
      ∃ e : MbEntry, e.line = a ∧ e.data = mergeLine 0 d m ∧ e.mask = m ∧ e.thread = mbThread t ∧ s3 = s.modMb t (· ++ [e])) := by
  unfold State.mbStore at h
  dsimp only at h
  split at h
  · next hopen =>
    rw [Bool.and_eq_true, Bool.not_eq_true'] at hopen
    exact .inl ⟨hopen.1, hopen.2, (Option.some.inj h).symm⟩
  · next hclosed =>
    rw [Bool.and_eq_true, Bool.not_eq_true', not_and_or, Bool.not_eq_false, Bool.not_eq_true] at hclosed
    split at h
    · exact .inr ⟨hclosed, _, rfl, rfl, rfl, rfl, (Option.some.inj h).symm⟩
    · cases h

theorem mbThread_val (t : Nat) : (mbThread t).val = threadIx t := by
  rw [mbThread, threadIx]
  split <;> omega

/-- The entries of the thread that hold bytes of the line. -/
abbrev State.mbLine (s : State) (t : Nat) (a : LineAddr) : List MbEntry := (s.mbOf t).filter (fun e => decide (e.line = a))

theorem openFor_of_mem {s : State} {t : Nat} {a : LineAddr} {e : MbEntry} (uncached : Bool) (h : e ∈ s.mbLine t a) :
    openFor t a uncached e = (!e.closed && decide (e.uncached = uncached)) := by
  obtain ⟨hof, hline⟩ := List.mem_filter.mp h
  obtain ⟨-, hthread⟩ := List.mem_filter.mp hof
  rw [openFor, hthread, hline]
  rfl

/-- An entry that may take the store is one of those. -/
theorem any_openFor (s : State) (t : Nat) (a : LineAddr) (uncached : Bool) :
    (s.core (coreOf t)).mb.any (openFor t a uncached) = (s.mbLine t a).any (openFor t a uncached) := by
  rw [State.mbLine, State.mbOf, List.filter_filter, List.any_filter]
  congr 1
  funext e
  rw [openFor]
  cases decide (e.thread.val = threadIx t) <;> cases decide (e.line = a) <;> rfl

/-- Settles O14: the store is merged into open entries, or entered in a new one. -/
theorem storeMerges : Obligations.StoreMerges := by
  intro s s3 t a d m uncached closed zero hstore l opened
  have hframe (f : List MbEntry → List MbEntry) : (s.modMb t f).mem = s.mem ∧ (s.modMb t f).threads = s.threads ∧
      (s.modMb t f).sent = s.sent ∧ (s.modMb t f).regs = s.regs ∧ ∀ c, c ≠ coreOf t.val → (s.modMb t f).core c = s.core c :=
    ⟨rfl, rfl, rfl, rfl, fun c hc => by rw [core_modCore, if_neg hc]⟩
  rcases mbStore_cases hstore with ⟨hclosed, hany, rfl⟩ | ⟨hnew, e, rfl, hdata, hmask, hthread, rfl⟩
  · obtain ⟨hmem, hthreads, hsent, hregs, hcores⟩ := hframe (List.map (takeStore (openFor t a uncached) d m s.clause))
    have hmb : (s.modMb t (List.map (takeStore (openFor t a uncached) d m s.clause))).mbOf t.val =
        (s.mbOf t).map (takeStore (openFor t a uncached) d m s.clause) := by
      rw [mbOf_modMb, List.filter_map, State.mbOf]
      simp only [Function.comp_def, takeStore_thread]
    rw [any_openFor] at hany
    rw [hmb]
    refine ⟨?_, fun hlast => ?_, hmem, hthreads, hsent, hregs, hcores, fun b hb => mbForward_takeStore_ne (fun e he => ?_) _⟩
    · rw [mbForward_takeStore]
      exact forward_takeStore_mask hany _
    · rw [mbForward_takeStore]
      refine forward_takeStore_data ?_ _
      rcases hlast with h | h | h
      · rw [hclosed] at h
        cases h
      · obtain ⟨e, he, ho⟩ := List.any_eq_true.mp hany
        rw [openFor_of_mem uncached he] at ho
        exact absurd ho (List.any_eq_false.mp h e he)
      · change l.getLast?.any (openFor t a uncached) = true
        cases he : l.getLast? with
        | none =>
          rw [he] at h
          cases h
        | some e =>
          rw [he] at h
          exact (openFor_of_mem uncached (List.mem_of_getLast? he)).trans h
    · rw [openFor, he, decide_eq_false hb, Bool.and_false]
      rfl
  · obtain ⟨hmem, hthreads, hsent, hregs, hcores⟩ := hframe (· ++ [e])
    have hmb : (s.modMb t (· ++ [e])).mbOf t.val = s.mbOf t ++ [e] := by
      rw [mbOf_modMb, List.filter_append, List.filter_singleton, hthread, mbThread_val, decide_eq_true rfl, cond_true, State.mbOf]
    rw [hmb]
    refine ⟨?_, fun _ => ?_, hmem, hthreads, hsent, hregs, hcores, fun b hb => mbForward_concat_ne _ hb⟩
    · rw [mbForward_concat, forwardStep, hmask]
    · rw [mbForward_concat, forwardStep, hmask, hdata, mergeLine_merged]

end Sys2Proof.Machine

namespace Sys2Proof.Machine
open Sys2Proof

/-! ### Messages that arrive at a die or a core (R244, R531, R544) -/

theorem bump_sent (s : State) (i j n : Nat) : (s.bump i j n).1.sent = s.sent := by
  unfold State.bump
  dsimp only
  split
  · rfl
  · split <;> rfl

theorem uncoreFrom_sent (s : State) (base ev n : Nat) (realm : Option Nat) (i k : Nat) : (s.uncoreFrom base ev n realm i k).sent = s.sent := by
  induction k generalizing s i with
  | zero => rfl
  | succ k ih =>
    unfold State.uncoreFrom
    refine (ih _ _).trans ?_
    split
    · exact bump_sent _ _ _ _
    · rfl

theorem routerCounts_sent (l : List Nat) (s : State) : (l.foldl (fun (s : State) k => s.routerCount k 0x01 1) s).sent = s.sent := by
  induction l generalizing s with
  | nil => rfl
  | cons k l ih =>
    refine (ih _).trans ?_
    dsimp only [State.routerCount, State.countUncore]
    split
    · rfl
    · exact uncoreFrom_sent _ _ _ _ _ _ _

/-- The state once a message is delivered: it leaves the list of messages sent, and the routers it passed have counted it. -/
def State.taken (s : State) (m : Msg) (v : Tbl Word) : State := { s with sent := s.sent.erase m, pccVal := v }

theorem delivered_taken (s : State) (m : Msg) : ∃ v, s.delivered m = s.taken m v := by
  obtain ⟨l, v, h⟩ := delivered_received s m
  have hsent : (s.delivered m).sent = s.sent.erase m := by
    unfold State.delivered State.meshPassed
    split
    · rfl
    · exact routerCounts_sent _ _
  rw [h] at hsent
  exact ⟨v, h.trans (by rw [show l = s.sent.erase m from hsent, State.taken])⟩

theorem arrive_delivered {s : State} {m : Msg} (f : State → Host.Outcome State Fault Refusal) (h : s.behind m = false) :
    arrive s m f = f (s.delivered m) := if_neg (by rw [h]; exact Bool.false_ne_true)

/-- A message that nothing holds back arrives, and its receiver does `f`. -/
theorem arrive_ends {i : Instr} {s : State} {m : Msg} {f : State → State} {P : State → Prop} (hexec : exec i s = arrive s m (fun s => .next (f s)))
    (h : s.behind m = false) (hf : ∀ v, exec i s = .next (f (s.taken m v)) → P (f (s.taken m v))) : Ends i s P := by
  obtain ⟨v, hv⟩ := delivered_taken s m
  have hrun := hexec.trans (arrive_delivered _ h)
  rw [hv] at hrun
  exact ⟨_, hrun, hf v hrun⟩

/-- A message reaches a core that takes it, and the core does `f`. -/
theorem onCore_ends {i : Instr} {s : State} {m : Msg} {c : Nat} {f : State → Nat → State} {P : State → Prop}
    (hexec : exec i s = onCore s m (fun s c => .next (f s c))) (hc : s.coreTakes c m.hdr) (h : s.behind m = false)
    (hf : ∀ v, exec i s = .next (f (s.taken m v) c) → P (f (s.taken m v) c)) : Ends i s P := by
  obtain ⟨hagent, hexists, hopen⟩ := hc
  obtain ⟨v, hv⟩ := delivered_taken s m
  have hrun : exec i s = .next (f (s.taken m v) c) := by
    rw [hexec, onCore, hagent]
    dsimp only
    rw [arrive_delivered _ h, hv, show (s.taken m v).coreExists c = true from hexists, show (s.taken m v).domainOpen (c / 4) = true from hopen]
    rfl
  exact ⟨_, hrun, hf v hrun⟩

/-! ### Results that a thread waits for (R165, R212, R239, R255) -/

/-- The threads of a core are a thread and its sibling. -/
theorem threads_of_core (t : Nat) :
    (2 * coreOf t = t ∧ 2 * coreOf t + 1 = siblingOf t) ∨ (2 * coreOf t = siblingOf t ∧ 2 * coreOf t + 1 = t) := by
  unfold coreOf siblingOf
  split <;> omega

/-- The one thread that waits for an answer is found by its number. -/
theorem waiter_eq {s : State} {t : Nat} {tid : BitVec 12} {d : Dest} (h : (s.thread t).wait = .access tid d)
    (hsib : (s.thread (siblingOf t)).wait = .ready) : s.waiter (coreOf t) tid = some (t, d) := by
  rcases threads_of_core t with ⟨h0, h1⟩ | ⟨h0, h1⟩ <;> (rw [State.waiter, h1, h0]; simp [h, hsib])

theorem adWaiter_none {s : State} {t : Nat} (tid : BitVec 12) (h : (s.thread t).ad = none) (hsib : (s.thread (siblingOf t)).ad = none) :
    s.adWaiter (coreOf t) tid = none := by
  rcases threads_of_core t with ⟨h0, h1⟩ | ⟨h0, h1⟩ <;> (rw [State.adWaiter, h1, h0]; simp [h, hsib])

theorem returnCredit_local {s : State} (die pool : Nat) {h : Hdr} (hsrc : agentPkg h.src = s.pkgNum) :
    s.returnCredit die pool h = s.addCredits die (s.chanOf (lineBase h.addr)) pool h.cr.toNat := by
  unfold State.returnCredit
  dsimp only
  rw [if_pos hsrc]

/-- The access is over: the thread is ready again. -/
def State.readied (s : State) (t : Nat) : State := s.modThread t (fun y => { y with wait := .ready })

/-- What a completed access leaves: its value in rd, and its thread ready at the next instruction. -/
def State.accessDone (s u : State) (t : Nat) (rd : BitVec 5) (w : Word) : Prop :=
  u.mem = s.mem ∧ wroteGpr (s.thread t) (u.thread t) rd w ∧ (u.thread t).goesTo (s.thread t).nextPc none ∧ (u.thread t).wait = .ready

/-- An instruction that computes rd once its access is over, with no realm exit due. -/
theorem computes_readied {s u : State} {t : Nat} {rd : BitVec 5} {w : Word} (hexit : (s.thread t).exitDue = none)
    (h : (s.readied t).computes u t rd w) : s.accessDone (u.exitNow t) t rd w := by
  obtain ⟨⟨honly, hspecial⟩, hgpr, hgoes⟩ := h
  have hself : (s.readied t).thread t = { s.thread t with wait := .ready } := modThread_thread_self _ _ _
  rw [hself] at hspecial hgpr hgoes
  have hdue : (u.thread t).exitDue = none := (congrArg (·.exitDue) hspecial).trans hexit
  rw [State.exitNow, hdue]
  exact ⟨honly.mem, hgpr, hgoes, congrArg (·.wait) hspecial⟩

theorem maskNat_zero (n : Nat) : maskNat 0 n = 0 := by
  induction n with
  | zero => rfl
  | succ n ih => rw [maskNat, ih, Nat.zero_testBit, if_neg Bool.false_ne_true]

/-- Where the thread's own stores supply nothing, the answer stands. -/
theorem overBytes_zero (n v : Nat) : overBytes n v 0 0 = v := by
  rw [overBytes, show (0 : BitVec 8).toNat = 0 from rfl, maskNat_zero, Nat.and_zero, Nat.and_zero, Nat.sub_zero, Nat.add_zero]

section
variable {s : State} {t : Nat} (hexit : (s.thread t).exitDue = none) (rd : BitVec 5) (v : Word)
include hexit

theorem completeAccess_atomic (wide : Bool) : s.accessDone (s.completeAccess t (.atomic rd wide) v) t rd (atomResult wide v) :=
  have hcounts := countsOnly_trans (countEv_countsOnly (s.readied t) t 0x0C true) (countMem_countsOnly _ t true true)
  computes_readied hexit (hcounts.computes (finish_computes _ t rd (atomResult wide v)))

theorem completeAccess_load (op : LoadOp) :
    s.accessDone (s.completeAccess t (.load op rd 0 0) v) t rd (loadedWord op (v.toNat % 256 ^ loadSize op)) := by
  rw [State.completeAccess, overBytes_zero, loadExtend_eq]
  exact computes_readied hexit (finishLoad_computes (s.readied t) t rd _)

end

/-- The answer that a thread's access waits for completes it. -/
theorem coreAtomRsp_completes {s : State} {t : Nat} {h : Hdr} {d : Dest} {rd : BitVec 5} {v w : Word} (hsrc : agentPkg h.src = s.pkgNum)
    (hflags : h.flags = {}) (hwait : (s.thread t).wait = .access h.tid d) (hsib : (s.thread (siblingOf t)).wait = .ready)
    (had : (s.thread t).ad = none) (hsibad : (s.thread (siblingOf t)).ad = none) (hexit : (s.thread t).exitDue = none)
    (hdone : ∀ u : State, (u.thread t).exitDue = none → u.accessDone (u.completeAccess t d v) t rd w) :
    s.accessDone (s.coreAtomRsp (coreOf t) h v) t rd w := by
  let u := s.addCredits (dieOfCore (coreOf t)) (s.chanOf (lineBase h.addr)) 0 h.cr.toNat
  have heq : s.coreAtomRsp (coreOf t) h v = u.completeAccess t d v := by
    unfold State.coreAtomRsp
    rw [returnCredit_local _ _ hsrc]
    dsimp only
    rw [adWaiter_none (s := u) h.tid had hsibad, waiter_eq (s := u) hwait hsib, hflags]
    rfl
  rw [heq]
  exact hdone u hexit

/-- The answer to an ownership query is kept with the query that it names. -/
def OwnQuery.answered (tid : BitVec 12) (ok : Bool) (q : OwnQuery) : OwnQuery := if q.tid = tid then { q with answer := some ok } else q

def Thread.answered (tid : BitVec 12) (ok : Bool) (y : Thread) : Thread := { y with own := y.own.map (OwnQuery.answered tid ok) }

/-- The answer of an uncached access reaches the entry of the merging buffer or the thread that waits for it. -/
def State.coreUcRsp (s : State) (c : Nat) (h : Hdr) (v : Word) : State :=
  match (s.core c).mb.find? (fun e => e.sent = some h.tid) with
  | some e =>
    let s := s.returnCredit (dieOfCore c) 0 h
    if refusedFlags h.flags then s.drainRefused c e else s.modCore c (fun k => { k with mb := k.mb.erase e })
  | none => s.coreAtomRsp c h v

theorem coreUcRsp_thread {s : State} {c : Nat} (h : Hdr) (v : Word) (hmb : (s.core c).mb = []) :
    s.coreUcRsp c h v = s.coreAtomRsp c h v := by
  rw [State.coreUcRsp, hmb]
  rfl

/-- The ownership answer reaches both threads of the core. -/
def State.coreOwnRsp (s : State) (c : Nat) (h : Hdr) (ok : Bool) : State :=
  (s.modThread (2 * c) (Thread.answered h.tid ok)).modThread (2 * c + 1) (Thread.answered h.tid ok)

theorem coreOwnRsp_thread (s : State) (t : Nat) (h : Hdr) (ok : Bool) :
    (s.coreOwnRsp (coreOf t) h ok).thread t = (s.thread t).answered h.tid ok := by
  rcases threads_of_core t with ⟨h0, h1⟩ | ⟨h0, h1⟩
  · rw [State.coreOwnRsp, h1, h0, thread_modThread, if_neg (siblingOf_ne t).symm, modThread_thread_self]
  · rw [State.coreOwnRsp, h1, h0, modThread_thread_self, thread_modThread, if_neg (siblingOf_ne t).symm]

/-- Settles O34: the message is delivered, and the access that waits for it is completed. -/
theorem threadAnswers : Obligations.ThreadAnswers := by
  intro t h op rd wide ok v q s y c htakes hsib had hsibad hmb hflags hsrc hexit result
  refine ⟨fun hwait hbehind => ?atomic, fun hwait hbehind => ?load, fun hown htid _ hbehind => ?owner⟩
  case atomic =>
    refine onCore_ends (f := fun s c => s.coreAtomRsp c h v) rfl htakes hbehind fun pv _ => ?_
    exact coreAtomRsp_completes (s := s.taken _ pv) hsrc hflags hwait hsib had hsibad hexit fun u hu => completeAccess_atomic hu rd v wide
  case load =>
    refine onCore_ends (f := fun s c => s.coreUcRsp c h v) rfl htakes hbehind fun pv _ => ?_
    rw [coreUcRsp_thread (s := s.taken _ pv) h v hmb]
    exact coreAtomRsp_completes (s := s.taken _ pv) hsrc hflags hwait hsib had hsibad hexit fun u hu => completeAccess_load hu rd v op
  case owner =>
    refine onCore_ends (f := fun s c => s.coreOwnRsp c h ok) rfl htakes hbehind fun pv hexec => ?_
    have hself := coreOwnRsp_thread (s.taken { type := .ownRsp, hdr := h, body := .flag ok } pv) t.val h ok
    refine ⟨(congrArg (·.own) hself).trans ?_, fun r => congrArg (·.gpr r) hself, execOwnrsp_mem h ok s _ hexec⟩
    change y.own.map (OwnQuery.answered h.tid ok) = _
    rw [hown, List.map_singleton, OwnQuery.answered, if_pos htid]

end Sys2Proof.Machine

namespace Sys2Proof.Machine
open Sys2Proof

/-! ### A way of a cache set that is written (R155, R157) -/

/-- The way that a search finds is found again once what it holds is replaced by something that is found too. -/
theorem findWay_set {V : Type} {t : Tbl V} {set ways w : Nat} {p : V → Bool} {v v' : V} (h : findWay t set ways p = some (w, v))
    (hp : p v' = true) : findWay (Tbl.set t (set * ways + w) v') set ways p = some (w, v') := by
  unfold findWay at h ⊢
  obtain ⟨before, a, after, hlist, hat, hnone⟩ := List.findSome?_eq_some_iff.mp h
  obtain rfl : a = w := by
    split at hat
    · split at hat
      · exact (Prod.mk.inj (Option.some.inj hat)).1
      · cases hat
    · cases hat
  refine List.findSome?_eq_some_iff.mpr ⟨before, a, after, hlist, ?_, fun x hx => ?_⟩
  · simp only [Tbl_find_set, if_true, hp]
  · have hne : x ≠ a := fun e => by
      rw [← e, hnone x hx] at hat
      cases hat
    rw [Tbl_find_set, if_neg (fun e => hne (Nat.add_left_cancel e))]
    exact hnone x hx

/-- What a search finds is what was looked for. -/
theorem findWay_holds {V : Type} {t : Tbl V} {set ways w : Nat} {p : V → Bool} {v : V} (h : findWay t set ways p = some (w, v)) :
    p v = true ∧ Tbl.find t (set * ways + w) = some v := by
  obtain ⟨a, -, hat⟩ := List.exists_of_findSome?_eq_some h
  split at hat
  · next x hx =>
    split at hat
    · next hpx =>
      obtain ⟨rfl, rfl⟩ := Prod.mk.inj (Option.some.inj hat)
      exact ⟨hpx, hx⟩
    · cases hat
  · cases hat

/-- The L2's copy of a line after a change that keeps the line. -/
theorem l2Find_l2Mod {k : Core} {a : LineAddr} {w : Nat} {v : CLine} {f : CLine → CLine} (h : k.l2Find a = some (w, v))
    (hline : (f v).line = v.line) : (k.l2Mod a f).l2Find a = some (w, f v) := by
  obtain ⟨hv, -⟩ := findWay_holds h
  rw [Core.l2Mod, h]
  exact findWay_set h (by rw [hline]; exact hv)

/-! ### Credits, and entries of the eviction buffer that are freed (R169, R241) -/

theorem credits_addCredits (s : State) (die n pool k : Nat) : (s.addCredits die n pool k).credits die n pool = s.credits die n pool + k := by
  rw [State.credits, State.addCredits, die_modDie_self, Tbl_get_set, if_pos rfl]

theorem sfRemove_creds (d : Die) (a : LineAddr) (core : Nat) : (d.sfRemove a core).creds = d.creds := by
  unfold Die.sfRemove
  split
  · rfl
  · dsimp only
    split <;> rfl

theorem credits_modDie (s : State) (d : Nat) {f : Die → Die} (h : ∀ x, (f x).creds = x.creds) (die n pool : Nat) :
    (s.modDie d f).credits die n pool = s.credits die n pool := by
  rw [State.credits, State.modDie, die_setDie]
  split
  · next e => rw [h, e, State.credits]
  · rfl

theorem flushL2_off {s : State} {c : Nat} (h : (s.core c).l2Flushing = false) : s.flushL2 c = s := by
  rw [State.flushL2]
  exact if_neg (by rw [h]; exact Bool.false_ne_true)

/-- With no fill waiting and no flush in progress, a freed entry leaves the buffer, and the snoop filter follows. -/
theorem freeEb_frees {s : State} {c : Nat} (a : LineAddr) (htxns : (s.core c).txns = []) (hflush : (s.core c).l2Flushing = false) :
    ((s.freeEb c a).core c).eb = (s.core c).eb.filter (fun e => decide (e.line ≠ a)) ∧
      ∀ die n pool, (s.freeEb c a).credits die n pool = s.credits die n pool := by
  have hcore : (s.modCore c (fun k => k.ebDrop a)).core c = (s.core c).ebDrop a := by rw [core_modCore, if_pos rfl]
  have hquiet (u : State) (hu : u.core c = (s.core c).ebDrop a) : (u.flushL2 c).retryInstalls c (u.core c).txns = u := by
    rw [flushL2_off (by rw [hu]; exact hflush), show (u.core c).txns = [] by rw [hu]; exact htxns]
    rfl
  let v := (s.modCore c (fun k => k.ebDrop a)).modDie (dieOfCore c) (fun d => d.sfRemove a (c % 20))
  unfold State.freeEb
  dsimp only
  split
  · rw [hquiet _ hcore, hcore]
    exact ⟨rfl, fun _ _ _ => rfl⟩
  · change ((((v.flushL2 c).retryInstalls c (v.core c).txns).core c).eb = _) ∧ ∀ die n pool,
      ((v.flushL2 c).retryInstalls c (v.core c).txns).credits die n pool = _
    rw [hquiet v hcore, show v.core c = _ from hcore]
    exact ⟨rfl, credits_modDie _ _ (fun x => sfRemove_creds x a (c % 20))⟩

/-- A core's own writeback or notice is acknowledged. -/
def State.coreWbAck (s : State) (c : Nat) (h : Hdr) : State :=
  let s := s.returnCredit (dieOfCore c) 1 h
  match (s.core c).eb.find? (fun e => e.line = h.addr && e.issued && e.tid = h.tid) with
  | some _ => s.freeEb c h.addr
  | none => s.discard c .wbAck h

theorem execWback_core {h : Hdr} {s : State} (hdie : agentDie h.dst < 12) (hunit : agentUnit h.dst < 20) :
    execWback h s = onCore s { type := .wbAck, hdr := h } (fun s c => .next (s.coreWbAck c h)) := by
  unfold execWback
  dsimp only
  rw [if_neg (by omega), if_neg (by omega)]
  rfl

/-- The acknowledgement frees the entry that waits for it, and returns the credit. -/
theorem coreWbAck_frees {s : State} {c : Nat} {h : Hdr} {e : EbEntry} (hsrc : agentPkg h.src = s.pkgNum) (heb : (s.core c).eb = [e])
    (hline : e.line = h.addr) (hissued : e.issued = true) (htid : e.tid = h.tid) (htxns : (s.core c).txns = [])
    (hflush : (s.core c).l2Flushing = false) : ((s.coreWbAck c h).core c).eb = [] ∧
      (s.coreWbAck c h).credits (dieOfCore c) (s.chanOf (lineBase h.addr)) 1 =
        s.credits (dieOfCore c) (s.chanOf (lineBase h.addr)) 1 + h.cr.toNat := by
  let s1 := s.addCredits (dieOfCore c) (s.chanOf (lineBase h.addr)) 1 h.cr.toNat
  have hack : s.coreWbAck c h = s1.freeEb c h.addr := by
    have hfound : (s1.core c).eb.find? (fun e => e.line = h.addr && e.issued && e.tid = h.tid) = some e := by
      rw [show (s1.core c).eb = [e] from heb]
      simp [hline, hissued, htid]
    unfold State.coreWbAck
    rw [returnCredit_local _ _ hsrc]
    dsimp only
    rw [hfound]
  obtain ⟨hfreed, hcredits⟩ := freeEb_frees (s := s1) h.addr htxns hflush
  rw [hack]
  refine ⟨hfreed.trans ?_, (hcredits _ _ _).trans (credits_addCredits s _ _ _ _)⟩
  rw [show (s1.core c).eb = [e] from heb]
  simp [hline]

/-! ### A subjunctive copy that is released (R246, R263) -/

/-- A subjunctive copy that is no longer frozen. -/
def CLine.unfreeze (v : CLine) : CLine := { v with frozen := false, frozenX := false }

theorem refreshSf_core (s : State) (die : Nat) (a : LineAddr) (c : Nat) : (s.refreshSf die a).core c = s.core c := rfl

section
variable {s : State} {die o w : Nat} {h : Hdr} {v : CLine}
  (hfind : (upTo 20).find? (fun o => (s.core (die * 20 + o)).frozenAt h.addr) = some o)
  (hat : (s.core (die * 20 + o)).l2Find h.addr = some (w, v)) (hst : v.st ≠ .I)
include hfind hat hst

theorem dieSubDone_released : ((s.dieSubDone die h false).core (die * 20 + o)).l2Find h.addr = some (w, v.unfreeze) ∧
    (s.dieSubDone die h false).threads = s.threads := by
  have heq : s.dieSubDone die h false = (s.modCore (die * 20 + o) (fun k => k.l2Mod h.addr CLine.unfreeze)).refreshSf die h.addr := by
    unfold State.dieSubDone
    dsimp only
    split
    · next hnone => cases hfind.symm.trans hnone
    · next o' hsome =>
    obtain rfl : o = o' := Option.some.inj (hfind.symm.trans hsome)
    rw [hat]
    dsimp only
    rw [if_neg hst]
    rfl
  rw [heq, refreshSf_core, core_modCore, if_pos rfl]
  exact ⟨l2Find_l2Mod hat rfl, rfl⟩

theorem dieSubDone_applied (hx : v.frozenX = false) :
    ((s.dieSubDone die h true).core (die * 20 + o)).l2Find h.addr = some (w, { v.unfreeze with st := shareState v.st }) ∧
      (s.dieSubDone die h true).threads = s.threads := by
  have heq : s.dieSubDone die h true = ((s.modCore (die * 20 + o) (fun k => k.l2Mod h.addr CLine.unfreeze)).modCore (die * 20 + o)
      (fun k => k.l2Mod h.addr (fun v => { v with st := shareState v.st }))).refreshSf die h.addr := by
    unfold State.dieSubDone
    dsimp only
    split
    · next hnone => cases hfind.symm.trans hnone
    · next o' hsome =>
    obtain rfl : o = o' := Option.some.inj (hfind.symm.trans hsome)
    rw [hat]
    dsimp only
    rw [if_neg hst, hx]
    rfl
  rw [heq, refreshSf_core, core_modCore, if_pos rfl, core_modCore, if_pos rfl]
  exact ⟨l2Find_l2Mod (f := fun v => { v with st := shareState v.st }) (l2Find_l2Mod (f := CLine.unfreeze) hat rfl) rfl, rfl⟩

end

/-! ### TLBI messages (R220, R270) -/

/-- The cores of a list that are not fenced drop what the TLBI names. -/
def State.tlbiCores (s : State) (d : Nat) (a : TlbiArgs) (l : List Nat) : State :=
  l.foldl (fun s c => if (s.core (d * 20 + c)).fenced then s else s.modCore (d * 20 + c) (fun k => k.tlbi a)) s

theorem tlbiCores_cons (s : State) (d : Nat) (a : TlbiArgs) (c : Nat) (l : List Nat) : s.tlbiCores d a (c :: l) =
    (if (s.core (d * 20 + c)).fenced then s else s.modCore (d * 20 + c) (fun k => k.tlbi a)).tlbiCores d a l := rfl

theorem tlbiCores_threads (s : State) (d : Nat) (a : TlbiArgs) (l : List Nat) : (s.tlbiCores d a l).threads = s.threads := by
  induction l generalizing s with
  | nil => rfl
  | cons c l ih =>
    rw [tlbiCores_cons, ih]
    split <;> rfl

theorem tlbiCores_other (s : State) (d : Nat) (a : TlbiArgs) {c : Nat} {l : List Nat} (h : c ∉ l) :
    (s.tlbiCores d a l).core (d * 20 + c) = s.core (d * 20 + c) := by
  induction l generalizing s with
  | nil => rfl
  | cons c' l ih =>
    have hne : c ≠ c' := fun e => h (e ▸ List.mem_cons_self)
    rw [tlbiCores_cons, ih _ (fun hc => h (List.mem_cons_of_mem _ hc))]
    split
    · rfl
    · rw [core_modCore, if_neg (fun e => hne (Nat.add_left_cancel e))]

theorem tlbiCores_core (s : State) (d : Nat) (a : TlbiArgs) {c : Nat} {l : List Nat} (hl : l.Nodup) (hc : c ∈ l)
    (hopen : (s.core (d * 20 + c)).fenced = false) : (s.tlbiCores d a l).core (d * 20 + c) = (s.core (d * 20 + c)).tlbi a := by
  induction l generalizing s with
  | nil => cases hc
  | cons c' l ih =>
    obtain ⟨hnotin, hl⟩ := List.nodup_cons.mp hl
    rw [tlbiCores_cons]
    rcases List.mem_cons.mp hc with rfl | hc
    · rw [tlbiCores_other _ _ _ hnotin, hopen, if_neg Bool.false_ne_true, core_modCore, if_pos rfl]
    · have hne : d * 20 + c ≠ d * 20 + c' := fun e => hnotin (Nat.add_left_cancel e ▸ hc)
      have hcore : (if (s.core (d * 20 + c')).fenced then s else s.modCore (d * 20 + c') (fun k => k.tlbi a)).core (d * 20 + c) =
          s.core (d * 20 + c) := by
        split
        · rfl
        · rw [core_modCore, if_neg hne]
      rw [ih _ hl hc (by rw [hcore]; exact hopen), hcore]

/-- Messages that are sent one after another leave threads and cores. -/
theorem sends_sameMachine {α : Type} (m : State → α → Msg) (l : List α) (s : State) :
    s.sameMachine (l.foldl (fun s x => s.send (m s x)) s) := by
  induction l generalizing s with
  | nil => exact ⟨rfl, rfl, rfl⟩
  | cons x l ih => exact sameMachine_trans ⟨rfl, rfl, rfl⟩ (ih _)

theorem tlbiReport_sameMachine (s : State) (d : Nat) : s.sameMachine (s.tlbiReport d) :=
  sameMachine_trans ⟨rfl, rfl, rfl⟩ (sends_sameMachine _ _ _)

/-- The die notes a TLBI that it has taken. -/
def State.tlbiNoted (s : State) (d : Nat) (a : TlbiArgs) : State := s.modDie d (fun x => { x with tlbis := x.tlbis ++ [a] })

theorem tlbiNoted_sameMachine (s : State) (d : Nat) (a : TlbiArgs) : s.sameMachine (s.tlbiNoted d a) := ⟨rfl, rfl, rfl⟩

theorem dieTlbi_sameMachine (s : State) (d : Nat) (a : TlbiArgs) : (s.tlbiCores d a (upTo 20)).sameMachine (s.dieTlbi d a) :=
  sameMachine_trans (tlbiNoted_sameMachine _ d a) (tlbiReport_sameMachine _ d)

/-- A TLBI at a die: its cores drop what it names, and no thread changes. -/
theorem dieTlbi_spec (s : State) (d : Nat) (a : TlbiArgs) : (s.dieTlbi d a).mem = s.mem ∧ (s.dieTlbi d a).threads = s.threads ∧
    ∀ c, c < 20 → (s.core (d * 20 + c)).fenced = false → (s.dieTlbi d a).core (d * 20 + c) = (s.core (d * 20 + c)).tlbi a := by
  obtain ⟨-, hthreads, hcores⟩ := dieTlbi_sameMachine s d a
  refine ⟨dieTlbi_mem s d a, ?_, fun c hc hopen => ?_⟩
  · rw [hthreads, tlbiCores_threads]
  · rw [← tlbiCores_core s d a (l := upTo 20) List.nodup_range (List.mem_range.mpr hc) hopen, State.core, State.core, hcores]

/-- The unit takes a die's report. -/
def State.tlbiReported (s : State) (h : Hdr) (a : TlbiArgs) : State :=
  let jobs := s.tlbiUnit.map (fun (j : TlbiJob) => if j.args = a then { j with dies := j.dies.erase (agentDie h.src) } else j)
  let s := { s with tlbiUnit := jobs.filter (fun j => !j.dies.isEmpty) }
  if jobs.any (fun j => decide (j.args = a) && j.dies.isEmpty) then s.tlbiAcked h a else s

theorem execTlbidone_here {s : State} {h : Hdr} {a : TlbiArgs} (hpkg : agentPkg h.dst = s.pkgNum) : execTlbidone h a s =
    arrive s { type := .tlbiDone, hdr := h, body := .tlbi a } (fun s => .next (s.tlbiReported h a)) := if_neg (not_not.mpr hpkg)

/-- The report of the last die is acknowledged. -/
theorem tlbiReported_last {s : State} {h : Hdr} {a : TlbiArgs} (hunit : s.tlbiUnit = [{ args := a, dies := [agentDie h.src] }]) :
    s.tlbiReported h a = State.tlbiAcked { s with tlbiUnit := [] } h a := by
  simp [State.tlbiReported, hunit]

/-- Package `p` has performed the TLBI with this number. -/
def TlbiOut.acked (seq : BitVec 16) (p : Nat) (o : TlbiOut) : TlbiOut := if o.seq = seq then { o with left := o.left.erase p } else o

def Thread.acked (seq : BitVec 16) (p : Nat) (y : Thread) : Thread :=
  { y with tlbis := (y.tlbis.map (TlbiOut.acked seq p)).filter (fun o => !o.left.isEmpty) }

/-- The issuing thread takes a package's acknowledgement. -/
def State.tlbiPerformed (s : State) (t : Nat) (h : Hdr) (a : TlbiArgs) : State :=
  let s := s.modThread t (Thread.acked a.seq (agentPkg h.src))
  if (s.thread t).wait = .syncT ∧ (s.thread t).tlbis.isEmpty then (s.readied t).retire t else s

theorem execTlbiack_here {s : State} {h : Hdr} {a : TlbiArgs} {t : Nat} (hpkg : agentPkg h.dst = s.pkgNum)
    (hpos : posOfTid a.issuer.toNat = some t) : execTlbiack h a s =
      arrive s { type := .tlbiAck, hdr := h, body := .tlbi a } (fun s => .next (s.tlbiPerformed t h a)) := by
  unfold execTlbiack
  rw [if_neg (not_not.mpr hpkg), hpos]
  rfl

section
variable {s : State} {t : Nat} {h : Hdr} {a : TlbiArgs} {o : TlbiOut} (htlbis : (s.thread t).tlbis = [o]) (hseq : o.seq = a.seq)
  (hleft : o.left = [agentPkg h.src])
include htlbis hseq hleft

/-- The acknowledgement of the last package ends the TLBI. -/
theorem acked_last : (s.thread t).acked a.seq (agentPkg h.src) = { s.thread t with tlbis := [] } := by
  simp [Thread.acked, TlbiOut.acked, htlbis, hseq, hleft]

theorem tlbiPerformed_ready (hwait : (s.thread t).wait = .ready) : (s.tlbiPerformed t h a).thread t = { s.thread t with tlbis := [] } := by
  have hself := (modThread_thread_self s t (Thread.acked a.seq (agentPkg h.src))).trans (acked_last htlbis hseq hleft)
  unfold State.tlbiPerformed
  dsimp only
  rw [hself, if_neg (fun e => Wait.noConfusion (hwait.symm.trans e.1)), hself]

/-- A thread in SYNC.T goes on with the next instruction. -/
theorem tlbiPerformed_syncT (hwait : (s.thread t).wait = .syncT) : let u := s.tlbiPerformed t h a
    (u.thread t).tlbis = [] ∧ (u.thread t).wait = .ready ∧ (∀ r, (u.thread t).gpr r = (s.thread t).gpr r) ∧
      (u.thread t).goesTo (s.thread t).nextPc none := by
  let v := (s.modThread t (Thread.acked a.seq (agentPkg h.src))).readied t
  have hself : v.thread t = { s.thread t with tlbis := [], wait := .ready } := by
    rw [show v.thread t = _ from modThread_thread_self _ _ _, modThread_thread_self, acked_last htlbis hseq hleft]
  have hdone : s.tlbiPerformed t h a = v.retire t := by
    unfold State.tlbiPerformed
    dsimp only
    rw [modThread_thread_self, acked_last htlbis hseq hleft, if_pos ⟨hwait, rfl⟩]
  obtain ⟨⟨-, hspecial⟩, hgpr, hgoes⟩ := retire_jumps v t
  rw [hself] at hspecial hgoes
  rw [hdone]
  refine ⟨congrArg (·.tlbis) hspecial, congrArg (·.wait) hspecial, fun r => ?_, hgoes⟩
  rw [hgpr, hself]
  rfl

end

/-- Settles O35: each message is delivered, and its receiver does what its rule says. -/
theorem dieAnswers : Obligations.DieAnswers := by
  constructor
  · intro c d n o h pool count w e v s
    refine ⟨fun htakes hdie hunit heb hline hissued htid htxns hflush hsrc hbehind => ?wback, fun hpkg hdie hunit hbehind => ?credit,
      fun hpkg hdie hat hst hfind => ?subdone⟩
    case wback =>
      refine onCore_ends (f := fun s c => s.coreWbAck c h) (execWback_core hdie hunit) htakes hbehind fun pv hexec => ?_
      obtain ⟨hfreed, hcredits⟩ := coreWbAck_frees (s := s.taken _ pv) hsrc heb hline hissued htid htxns hflush
      exact ⟨hfreed, execWback_mem h s _ hexec, hcredits⟩
    case credit =>
      refine arrive_ends (f := fun s => s.addCredits (agentDie h.dst) (agentUnit h.src % 16) (b2n pool) count)
        (if_pos ⟨hpkg, by omega⟩) hbehind fun pv hexec => ⟨?_, execCredit_mem h pool count s _ hexec, rfl⟩
      rw [hdie, hunit, Nat.mod_eq_of_lt n.isLt]
      exact credits_addCredits _ _ _ _ _
    case subdone =>
      have hhere : agentPkg h.dst = s.pkgNum ∧ agentDie h.dst < 12 := ⟨hpkg, by omega⟩
      refine ⟨fun hbehind => ?_, fun hx hbehind => ?_⟩
      all_goals
        refine arrive_ends (f := fun s => s.dieSubDone (agentDie h.dst) h _) (if_pos hhere) hbehind fun pv hexec => ?_
        refine and_left_comm.mp ⟨execSubdone_mem h _ s _ hexec, ?_⟩
        rw [hdie]
      · exact dieSubDone_released (s := s.taken _ pv) hfind hat hst
      · exact dieSubDone_applied (s := s.taken _ pv) hfind hat hst hx
  · intro d t h a o s hpkg
    refine ⟨fun hdie hbehind => ?tlbi, fun hunit hbehind => ?done, fun hpos htlbis hseq hleft hbehind hwait => ?acked,
      fun hpos htlbis hseq hleft hbehind hwait => ?ends⟩
    case tlbi =>
      refine arrive_ends (f := fun s => s.dieTlbi (agentDie h.dst) a) ((if_neg (not_not.mpr hpkg)).trans (if_pos (by omega))) hbehind
        fun pv _ => ?_
      rw [hdie]
      exact dieTlbi_spec _ d a
    case done =>
      refine arrive_ends (f := fun s => s.tlbiReported h a) (execTlbidone_here hpkg) hbehind fun pv _ => ?_
      rw [tlbiReported_last (s := s.taken _ pv) hunit]
      exact ⟨rfl, rfl, rfl⟩
    case acked =>
      refine arrive_ends (f := fun s => s.tlbiPerformed t h a) (execTlbiack_here hpkg hpos) hbehind fun pv hexec => ?_
      have hself := tlbiPerformed_ready (s := s.taken { type := .tlbiAck, hdr := h, body := .tlbi a } pv) htlbis hseq hleft hwait
      rw [hself]
      exact ⟨rfl, execTlbiack_mem h a s _ hexec, fun r => rfl, rfl⟩
    case ends =>
      refine arrive_ends (f := fun s => s.tlbiPerformed t h a) (execTlbiack_here hpkg hpos) hbehind fun pv hexec => ?_
      obtain ⟨htlbis', hwait', hgpr, hgoes⟩ := tlbiPerformed_syncT (s := s.taken _ pv) htlbis hseq hleft hwait
      exact ⟨htlbis', hwait', execTlbiack_mem h a s _ hexec, hgpr, hgoes⟩

end Sys2Proof.Machine

namespace Sys2Proof.Machine
open Sys2Proof

/-! ### Reads of a cache that meet no error (R179, R615, R616) -/

theorem injectKind_unarmed {s : State} (target unit : Nat) (line : Option LineAddr) (h : bit (s.reg regGlbInject) 63 = false) :
    s.injectKind target unit line = none := by
  unfold State.injectKind
  simp only [h, Bool.false_and, Bool.false_eq_true, if_false]

theorem mbCheck_clean {s : State} (c : Nat) {e : MbEntry} (h : bit (s.reg regGlbInject) 63 = false) (hbad : e.bad = false) :
    s.mbCheck c e = (s, true) := by
  unfold State.mbCheck
  simp only [injectKind_unarmed _ _ _ h, hbad, Bool.false_eq_true, if_false]

theorem l2Check_clean {s : State} {c w : Nat} {a : LineAddr} {v : CLine} (h : bit (s.reg regGlbInject) 63 = false)
    (hfind : (s.core c).l2Find a = some (w, v)) (hbad : v.bad = 0) (htag : v.tagBad = false) : s.l2Check c a = (s, some v) := by
  unfold State.l2Check
  simp only [hfind, injectKind_unarmed _ _ _ h, htag, hbad, Bool.false_eq_true, if_false]

theorem l3Check_clean {s : State} {die w : Nat} {a : LineAddr} {v : CLine} (h : bit (s.reg regGlbInject) 63 = false)
    (hfind : (s.die die).l3Find a = some (w, v)) (hbad : v.bad = 0) (htag : v.tagBad = false) : s.l3Check die a = (s, some v) := by
  unfold State.l3Check
  simp only [hfind, injectKind_unarmed _ _ _ h, htag, hbad, Bool.false_eq_true, if_false]

theorem Tbl_find_mem {V : Type} {t : Tbl V} {k : Nat} {v : V} (h : Tbl.find t k = some v) : (k, v) ∈ t := by
  induction t with
  | nil => cases h
  | cons p t ih =>
    obtain ⟨k', v'⟩ := p
    rw [Tbl.find] at h
    split at h
    · next hk =>
      rw [hk, Option.some.inj h]
      exact List.mem_cons_self
    · exact List.mem_cons_of_mem _ (ih h)

/-- Every line that a cache lists can be read. -/
def linesGood (l : Tbl CLine) : Prop := ∀ p ∈ l, p.2.bad = 0 ∧ p.2.tagBad = false

theorem findWay_good {l : Tbl CLine} (hgood : linesGood l) {set ways w : Nat} {p : CLine → Bool} {v : CLine}
    (h : findWay l set ways p = some (w, v)) : v.bad = 0 ∧ v.tagBad = false := by
  obtain ⟨-, hat⟩ := findWay_holds h
  exact hgood _ (Tbl_find_mem hat)

section
variable {s : State} (h : bit (s.reg regGlbInject) 63 = false)
include h

theorem scrubLines2_good {c : Nat} (hgood : linesGood (s.core c).l2) (l : List LineAddr) : s.scrubLines2 c l = s := by
  induction l with
  | nil => rfl
  | cons a l ih =>
    have hcheck : (s.l2Check c a).1 = s := by
      cases hfind : (s.core c).l2Find a with
      | none => unfold State.l2Check; simp only [hfind]
      | some p =>
        obtain ⟨hbad, htag⟩ := findWay_good hgood hfind
        rw [l2Check_clean h hfind hbad htag]
    rw [State.scrubLines2, hcheck, ih]

theorem scrubLines3_good {die : Nat} (hgood : linesGood (s.die die).l3) (l : List LineAddr) : s.scrubLines3 die l = s := by
  induction l with
  | nil => rfl
  | cons a l ih =>
    have hcheck : (s.l3Check die a).1 = s := by
      cases hfind : (s.die die).l3Find a with
      | none => unfold State.l3Check; simp only [hfind]
      | some p =>
        obtain ⟨hbad, htag⟩ := findWay_good hgood hfind
        rw [l3Check_clean h hfind hbad htag]
    rw [State.scrubLines3, hcheck, ih]

end

/-! ### Commands of a core's or a die's own units (R11, R541) -/

theorem coreUnit_next {i : Instr} {s u : State} {c : Nat} {f : State → State} (hexec : exec i s = onCoreUnit s c f)
    (h : s.coreExists c = true) (hf : f s = u) : exec i s = .next u := by
  rw [hexec, onCoreUnit, if_pos h, hf]

theorem dieUnit_next {i : Instr} {s u : State} {d : DiePos} {f : State → State} (hexec : exec i s = onDie s d f)
    (h : (s.die d.val).fenced = false) (hf : f s = u) : exec i s = .next u := by
  rw [hexec, onDie, if_neg (by rw [h]; exact Bool.false_ne_true), hf]

/-! ### The drain of the merging buffer (R161, R163, R166) -/

/-- A request for which a credit is held leaves. -/
theorem sendCredited_sends {s : State} {t pool : Nat} {m : Msg} (h : s.canAsk t pool m.hdr.addr) :
    s.sendCredited t pool m = ((s.useCredit (dieOf t) (s.chanOf (lineBase m.hdr.addr)) pool).sendReq t m, true) := by
  obtain ⟨hheld, hcredits⟩ := h
  rw [State.sendCredited, hheld, decide_eq_false hcredits]
  rfl

theorem sendReq_sent (s : State) (t : Nat) (m : Msg) : (s.sendReq t m).sent = s.sent ++ [m] := by
  obtain ⟨honly, -⟩ := countEv_countsOnly s t 0x0B false
  exact congrArg (· ++ [m]) honly.sent

/-- The entry that drains is closed. -/
abbrev MbEntry.closing (e : MbEntry) : MbEntry := { e with closed := true }

abbrev State.closing (s : State) (c : Nat) (e : MbEntry) : State :=
  s.modCore c (fun k => { k with mb := k.mb.map (fun x => if x = e then e.closing else x) })

theorem closing_core (s : State) (c : Nat) (e : MbEntry) :
    (s.closing c e).core c = { s.core c with mb := (s.core c).mb.map (fun x => if x = e then e.closing else x) } := by
  rw [core_modCore, if_pos rfl]

/-- With no line of a context block to write, the oldest entry drains. -/
theorem exec_mbDrain_oldest {c : CorePos} {s : State} (hc : s.coreExists c.val = true) (hfenced : (s.core c.val).fenced = false)
    (hctx : (s.core c.val).ctxWrites = []) : exec (.mbDrain c) s = .next (s.drainOldest c.val) := by
  refine coreUnit_next (exec_mbDrain c s) hc ?_
  rw [hfenced, if_neg Bool.false_ne_true, State.sendCtx, hctx]

section
variable {s : State} {c : Nat} {e : MbEntry} {es : List MbEntry} (hmb : (s.core c).mb = e :: es)
include hmb

theorem drainOldest_waits (h : s.drains c e = false) : s.drainOldest c = s := by
  unfold State.drainOldest
  rw [hmb]
  dsimp only
  rw [h]
  rfl

variable (hdrains : s.drains c e = true) (hbad : e.bad = false) (hinject : bit (s.reg regGlbInject) 63 = false)
include hdrains hbad hinject

theorem drainOldest_uncached (h : e.uncached = true) : s.drainOldest c = (s.closing c e).writeOut c e.closing := by
  unfold State.drainOldest
  rw [hmb]
  simp only [hdrains, mbCheck_clean c hinject hbad, Bool.not_true, Bool.false_eq_true, if_false]
  rw [if_pos h]

theorem drainOldest_owned {u : State} (h : ¬ e.uncached = true) (hon : (s.core c).l2On = true)
    (hown : (s.closing c e).getOwned (2 * c + e.thread.val) e.line e.realm e.zero = (u, true)) :
    s.drainOldest c = u.writeL2 c e.closing := by
  have hon' : ((s.closing c e).core c).l2On = true := by rw [closing_core]; exact hon
  unfold State.drainOldest
  rw [hmb]
  simp only [hdrains, mbCheck_clean c hinject hbad, Bool.not_true, Bool.false_eq_true, if_false]
  rw [if_neg h, hon', hown]
  rfl

end

theorem closing_mb {e : MbEntry} {es : List MbEntry} (h : e ∉ es) :
    (e :: es).map (fun x => if x = e then e.closing else x) = e.closing :: es := by
  rw [List.map_cons, if_pos rfl]
  refine congrArg _ ((List.map_congr_left (g := id) fun x hx => if_neg ?_).trans (List.map_id es))
  exact fun e => h (e ▸ hx)

/-- A line that the core's L2 owns is there to be written. -/
theorem getOwned_held {s : State} {t c w : Nat} {a : LineAddr} {v : CLine} (realm : Realm) (zero : Bool) (hcore : coreOf t = c)
    (hinject : bit (s.reg regGlbInject) 63 = false) (hon : (s.core c).l2On = true) (htxn : (s.core c).txnFind a = none)
    (hfind : (s.core c).l2Find a = some (w, v)) (hst : v.st = .M ∨ v.st = .E) (hfrozen : v.frozen = false) (hbad : v.bad = 0)
    (htag : v.tagBad = false) : s.getOwned t a realm zero = (s.modCore c (fun k => k.l2Touch a), true) := by
  subst hcore
  have hread : s.l2Read (coreOf t) a = (s.modCore (coreOf t) (fun k => k.l2Touch a), some v) := by
    rw [State.l2Read, l2Check_clean hinject hfind hbad htag]
    rfl
  unfold State.getOwned
  dsimp only
  rw [htxn, hon, hread]
  dsimp only
  rw [hfrozen]
  rcases hst with hst | hst <;> rw [hst] <;> rfl

theorem l2Touch_l2 (k : Core) (a : LineAddr) : (k.l2Touch a).l2 = k.l2 := by
  unfold Core.l2Touch
  split <;> rfl

theorem l2Touch_mb (k : Core) (a : LineAddr) : (k.l2Touch a).mb = k.mb := by
  unfold Core.l2Touch
  split <;> rfl

theorem l2Mod_mb (k : Core) (a : LineAddr) (f : CLine → CLine) : (k.l2Mod a f).mb = k.mb := by
  unfold Core.l2Mod
  split <;> rfl

theorem l2Find_of_l2 {k k' : Core} (h : k'.l2 = k.l2) (a : LineAddr) : k'.l2Find a = k.l2Find a := by rw [Core.l2Find, Core.l2Find, h]

/-- The core once an entry's bytes are in its caches: the entry leaves the buffer. -/
def Core.written (e : MbEntry) (k : Core) : Core :=
  let upd (l : Line) : Line := mergeLine l e.data e.mask
  let k := k.l2Mod e.line (fun v => { v with st := .M, data := upd v.data })
  { k with l1d := Tbl.map (fun x => if x.line = e.line then { x with data := upd x.data } else x) k.l1d,
           l1i := Tbl.map (fun x => if x.line = e.line then { x with data := upd x.data } else x) k.l1i,
           mb := k.mb.erase e }

/-- With no sibling in WAITD, the entry's bytes enter the caches and nothing else happens. -/
theorem writeL2_quiet {s : State} {c : Nat} {e : MbEntry} (hsib : (s.thread (2 * c + (1 - e.thread.val))).wait = .ready) :
    s.writeL2 c e = (s.modCore c (Core.written e)).modDie (dieOfCore c) (fun d => d.sfAdd e.line (c % 20) .M) := by
  let u := (s.modCore c (Core.written e)).modDie (dieOfCore c) (fun d => d.sfAdd e.line (c % 20) .M)
  have hu : (u.thread (2 * c + (1 - e.thread.val))).wait = .ready := hsib
  unfold State.writeL2
  change (match (u.thread (2 * c + (1 - e.thread.val))).wait with
    | .waitd l _ _ => if l = e.line then u.snoopWake (2 * c + (1 - e.thread.val)) l else u
    | _ => u) = u
  rw [hu]

theorem written_l2Find {k : Core} {e : MbEntry} {w : Nat} {v : CLine} (h : k.l2Find e.line = some (w, v)) :
    (k.written e).l2Find e.line = some (w, { v with st := .M, data := mergeLine v.data e.data e.mask }) :=
  l2Find_l2Mod (f := fun v => { v with st := .M, data := mergeLine v.data e.data e.mask }) h rfl

theorem written_mb (k : Core) (e : MbEntry) : (k.written e).mb = k.mb.erase e := congrArg (·.erase e) (l2Mod_mb k _ _)

/-- The core after its oldest entry has entered a line that its L2 holds. -/
theorem written_owned {s : State} {c w : Nat} {e : MbEntry} {es : List MbEntry} {v : CLine} (hmb : (s.core c).mb = e :: es) (hin : e ∉ es)
    (hfind : (s.core c).l2Find e.line = some (w, v)) :
    let u := (((s.closing c e).modCore c (fun k => k.l2Touch e.line)).modCore c (Core.written e.closing)).modDie (dieOfCore c)
      (fun d => d.sfAdd e.line (c % 20) .M)
    (u.core c).mb = es ∧ (u.core c).l2Find e.line = some (w, { v with st := .M, data := mergeLine v.data e.data e.mask }) := by
  let k := ((s.closing c e).core c).l2Touch e.line
  have hcore : (((s.closing c e).modCore c (fun k => k.l2Touch e.line)).modCore c (Core.written e.closing)).core c = k.written e.closing := by
    rw [core_modCore, if_pos rfl, core_modCore, if_pos rfl]
  have hk : k.l2Find e.line = some (w, v) := by
    rw [l2Find_of_l2 (l2Touch_l2 _ _), closing_core]
    exact hfind
  constructor
  · refine (congrArg (·.mb) hcore).trans ?_
    rw [written_mb, l2Touch_mb, closing_core, hmb, closing_mb hin, List.erase_cons_head]
  · exact (congrArg (·.l2Find e.line) hcore).trans (written_l2Find (e := e.closing) hk)

theorem ucHdr_addr (s : State) (t : Nat) (a : LineAddr) (tid : BitVec 12) (realm : Realm) : (s.ucHdr t a tid realm).addr = a := by
  unfold State.ucHdr
  dsimp only
  split <;> rfl

/-- An uncached entry goes to its controller. -/
theorem writeOut_uncached {s : State} {c : Nat} {e : MbEntry} (h : e.uncached = true) (hsent : e.sent = none)
    (hcan : s.canAsk (2 * c + e.thread.val) 0 e.line) :
    ∃ m, (s.writeOut c e).sent = s.sent ++ [m] ∧ m.type = .ucWr ∧ m.body = .bytes e.data e.mask ∧ m.hdr.addr = e.line := by
  let s1 := (s.takeTid c).2
  let m : Msg := { type := .ucWr, hdr := s1.ucHdr (2 * c + e.thread.val) e.line (s.takeTid c).1 e.realm, body := .bytes e.data e.mask }
  have haddr : m.hdr.addr = e.line := ucHdr_addr _ _ _ _ _
  have hsend := sendCredited_sends (s := s1) (t := 2 * c + e.thread.val) (pool := 0) (m := m) (by rw [haddr]; exact hcan)
  refine ⟨m, ?_, rfl, rfl, haddr⟩
  have hout : (s.writeOut c e).sent = (s1.sendCredited (2 * c + e.thread.val) 0 m).1.sent := by
    unfold State.writeOut
    rw [hsent]
    simp only [h, if_true]
    rw [show State.sendCredited _ _ _ _ = _ from hsend]
    rfl
  rw [hout, hsend]
  exact sendReq_sent _ _ _

/-! ### Evictions (R168, R169) -/

/-- A dirty victim goes to its home: the die spends a credit, and the entry notes that it is issued. -/
theorem evictHome_writesBack {s : State} {c : Nat} {v : EbEntry} (hst : v.st = .M) (hlost : v.lost = false)
    (hcan : s.canAsk (2 * c) 1 v.line) : let u := s.evictHome c v
    u.threads = s.threads ∧ (u.core c).l2Flushing = (s.core c).l2Flushing ∧ (u.core c).txns = (s.core c).txns ∧
    ∃ m, u.sent = s.sent ++ [m] ∧ m.type = .wbM ∧ m.body = .line v.data ∧ m.hdr.addr = v.line := by
  obtain ⟨hheld, hcredits⟩ := hcan
  rw [show dieOf (2 * c) = dieOfCore c by unfold dieOf dieOfCore; omega] at hcredits
  let s1 := s.useCredit (dieOfCore c) (s.chanOf (lineBase v.line)) 1
  let mark (k : Core) : Core := k.ebMod v.line (fun x => { x with issued := true, tid := (s1.takeTid c).1 })
  have hsends : ∃ m, s.evictHome c v = ((s1.takeTid c).2.modCore c mark).send m ∧
      m.type = .wbM ∧ m.body = .line v.data ∧ m.hdr.addr = v.line := by
    unfold State.evictHome
    dsimp only
    rw [hheld, decide_eq_false hcredits, hlost, hst]
    exact ⟨_, rfl, rfl, rfl, rfl⟩
  obtain ⟨m, heq, hm⟩ := hsends
  have hcore : (((s1.takeTid c).2.modCore c mark).send m).core c = mark { s.core c with nextTid := (s.core c).nextTid + 1 } :=
    (core_modCore (s1.takeTid c).2 c c mark).trans ((if_pos rfl).trans (congrArg mark ((core_modCore s1 c c _).trans (if_pos rfl))))
  rw [heq]
  exact ⟨rfl, congrArg (·.l2Flushing) hcore, congrArg (·.txns) hcore, m, rfl, hm⟩

theorem issueEviction_none {s : State} {c : Nat} (h : (s.core c).eb = []) : s.issueEviction c = s := by
  unfold State.issueEviction
  rw [h]
  rfl

/-- With no flush in progress and no fill waiting, only the eviction is issued. -/
theorem exec_evictionIssue_quiet {s u : State} {c : CorePos} (hc : s.coreExists c.val = true) (hu : s.issueEviction c.val = u)
    (hflush : (u.core c.val).l2Flushing = false) (htxns : (u.core c.val).txns = []) : exec (.evictionIssue c) s = .next u := by
  refine coreUnit_next (exec_evictionIssue c s) hc ?_
  rw [hu, flushL2_off hflush, htxns]
  rfl

theorem issueEviction_home {s : State} {c : Nat} {v : EbEntry} (hnext : (s.core c).eb.find? (fun x => !x.issued) = some v)
    (hcheck : s.ebCheck c v.line = (s, some v)) (hfind : (s.core c).ebFind v.line = some v) (hst : v.st = .M)
    (hl3 : s.l3Available (dieOfCore c) v.realm.toNat = false) : s.issueEviction c = s.evictHome c v := by
  unfold State.issueEviction
  rw [hnext]
  dsimp only
  rw [hcheck]
  dsimp only
  rw [hfind]
  dsimp only
  rw [if_neg (by rw [hst]; exact fun h => nomatch h.1), hl3, Bool.and_false, if_neg Bool.false_ne_true]

/-! ### Caches taken out of use and back (R182, R184, R185) -/

/-- An empty L2 has nothing to flush. -/
theorem flushL2_empty {s : State} {c : Nat} (h : (s.core c).l2 = []) : (s.flushL2 c).core c = s.core c ∧ (s.flushL2 c).threads = s.threads ∧
    (s.flushL2 c).sent = s.sent := by
  have hlines : (s.core c).flushLines 32 = s.core c := by rw [Core.flushLines, h]
  unfold State.flushL2
  dsimp only
  split
  · rw [hlines, h]
    refine ⟨?_, rfl, rfl⟩
    exact (core_setCore s c c _).trans (if_pos rfl)
  · exact ⟨rfl, rfl, rfl⟩

/-- Lines that leave a core wake threads alone. -/
theorem wakeCores_keeps (c : Nat) (l : List LineAddr) (s : State) :
    (∀ c', ((l.foldl (fun s a => s.wakeCore c a) s).core c').unsampled = (s.core c').unsampled) ∧
      (l.foldl (fun s a => s.wakeCore c a) s).sent = s.sent := by
  induction l generalizing s with
  | nil => exact ⟨fun _ => rfl, rfl⟩
  | cons a l ih =>
    obtain ⟨hcores, hsent⟩ := ih (s.wakeCore c a)
    obtain ⟨hcores', hsent', -⟩ := wakeCore_keeps s c a
    exact ⟨fun c' => (hcores c').trans (hcores' c'), hsent.trans hsent'⟩

/-- The L2 is on again, and it and the L1s are empty. -/
theorem enableL2_spec {s : State} {c : Nat} (hdis : (s.core c).l2Dis = true) (hflush : (s.core c).l2Flushing = false)
    (hdue : (s.core c).l2FlushDue = false) : let u := s.enableL2 c
    (u.core c).l2Dis = false ∧ (u.core c).l2 = [] ∧ (u.core c).l1d = [] ∧ (u.core c).l1i = [] ∧ u.sent = s.sent := by
  unfold State.enableL2
  dsimp only
  rw [if_pos (by rw [hdis, hflush, hdue]; rfl)]
  obtain ⟨hcores, hsent⟩ := wakeCores_keeps c (List.map (fun p => p.2.line) (s.core c).l1d ++ List.map (fun p => p.2.line) (s.core c).l1i)
    ((s.modDie (dieOfCore c) _).modCore c (fun k => { k with l2Dis := false, l2 := [], plru2 := [], l1d := [], l1i := [] }))
  have hcore := hcores c
  rw [core_modCore, if_pos rfl] at hcore
  exact ⟨congrArg (·.l2Dis) hcore, congrArg (·.l2) hcore, congrArg (·.l1d) hcore, congrArg (·.l1i) hcore, hsent⟩

theorem enableL2_flushing {s : State} {c : Nat} (h : (s.core c).l2Flushing = true ∨ (s.core c).l2FlushDue = true) : s.enableL2 c = s := by
  unfold State.enableL2
  dsimp only
  rcases h with h | h <;> rw [h] <;> simp

theorem disableL2_on {s : State} {c : Nat} (h : (s.core c).l2Dis = false) :
    s.disableL2 c = s.modCore c (fun k => { k with l2Dis := true, l2FlushDue := true }) := by
  rw [State.disableL2, h]
  rfl

theorem disableL2_off {s : State} {c : Nat} (h : (s.core c).l2Dis = true) : s.disableL2 c = s := if_pos h

/-- Step 4 of the flush of an L2 (R182): it is over once the L2 and the eviction buffer are empty. -/
def State.endFlushL2 (s : State) (c : Nat) : State :=
  if (s.core c).l2Flushing && (s.core c).l2.isEmpty && (s.core c).eb.isEmpty then s.modCore c (fun k => { k with l2Flushing := false }) else s

theorem endFlushL2_empty {s : State} {c : Nat} (h : (s.core c).l2Flushing = true) (hl2 : (s.core c).l2 = []) (heb : (s.core c).eb = []) :
    s.endFlushL2 c = s.modCore c (fun k => { k with l2Flushing := false }) := by
  rw [State.endFlushL2, h, hl2, heb]
  rfl

theorem disableL3_on {s : State} {d : Nat} (h : s.fld (regL3ctl d) 0 0 = 0) :
    s.disableL3 d = (s.setFld (regL3ctl d) 0 0 1).modDie d (fun d => { d with flushDue := true }) :=
  if_neg (by rw [h]; decide)

theorem enableL3_flushed {s : State} {d : Nat} (h : s.fld (regL3ctl d) 1 0 = 1) (hdue : (s.die d).flushDue = false) :
    s.enableL3 d = (s.setFld (regL3ctl d) 0 0 0).modDie d (fun d => { d with l3 := [], l3Order := [] }) :=
  if_pos (by rw [h, hdue]; rfl)

/-- FLUSHING is the higher of the two low bits of X_L3CTL. -/
theorem fld_one_of_flushing {s : State} {off : Nat} (h : s.fld off 1 1 = 1) : s.fld off 1 0 ≠ 1 := by
  unfold State.fld bits natBits at *
  omega

theorem enableL3_flushing {s : State} {d : Nat} (h : s.fld (regL3ctl d) 1 1 = 1 ∨ (s.die d).flushDue = true) : s.enableL3 d = s := by
  refine if_neg ?_
  rcases h with h | h
  · rw [decide_eq_false (fld_one_of_flushing h)]
    exact Bool.false_ne_true
  · rw [h, Bool.not_true, Bool.and_false]
    exact Bool.false_ne_true

theorem flushL3All_empty {s : State} {d : Nat} (h : (s.die d).l3 = []) : s.flushL3All d = s := by
  rw [State.flushL3All, h]
  rfl

/-- Settles O28: each unit does what its rule says. -/
theorem cachesBetweenInstructions : Obligations.CachesBetweenInstructions := by
  constructor
  · intro c d slice line e v es w y s s2 k oldest ready
    have hruns (hold : oldest) : exec (.mbDrain c) s = .next (s.drainOldest c) := by
      obtain ⟨hc, hfenced, hctx, -⟩ := hold
      exact exec_mbDrain_oldest hc hfenced hctx
    refine ⟨fun hold hdrains => ?waits, fun hready hin huncached hon htxn hfind hst hfrozen hbad htag hsib => ?owned,
      fun hready huncached hsent hcan => ?uncached, fun hc heb hflush htxns => ?noEviction,
      fun hc hnext hcheck hfind hst hlost hl3 hcan hflush htxns => ?eviction, fun hc hnone => ?noVictim,
      fun hc hfound htaken hgone hl3 hput => ?victim, fun hc hinject hgood => ?scrub2, fun hopen hinject hgood => ?scrub3⟩
    case waits =>
      have hrun := hruns hold
      obtain ⟨-, -, -, hmb⟩ := hold
      rw [hrun, drainOldest_waits hmb hdrains]
    case owned =>
      obtain ⟨hold, hdrains, hgood, hinject⟩ := hready
      have hrun := hruns hold
      obtain ⟨-, -, -, hmb⟩ := hold
      have hown := getOwned_held (s := s.closing c e) (t := 2 * c + e.thread.val) (c := c) e.realm e.zero (by unfold coreOf; omega) hinject
        (by rw [closing_core]; exact hon) (by rw [closing_core]; exact htxn) (by rw [closing_core]; exact hfind) hst hfrozen hbad htag
      rw [drainOldest_owned hmb hdrains hgood hinject (by rw [huncached]; exact Bool.false_ne_true) hon hown,
        writeL2_quiet (s := (s.closing c e).modCore c _) (e := e.closing) hsib] at hrun
      obtain ⟨hmb', hfind'⟩ := written_owned hmb hin hfind
      exact ⟨_, hrun, hmb', execMbDrain_mem c s _ hrun, rfl, rfl, hfind'⟩
    case uncached =>
      obtain ⟨hold, hdrains, hgood, hinject⟩ := hready
      have hrun := hruns hold
      obtain ⟨-, -, -, hmb⟩ := hold
      rw [drainOldest_uncached hmb hdrains hgood hinject huncached] at hrun
      exact ⟨_, hrun, writeOut_uncached (s := s.closing c e) (e := e.closing) huncached hsent hcan, execMbDrain_mem c s _ hrun⟩
    case noEviction => exact exec_evictionIssue_quiet hc (issueEviction_none heb) hflush htxns
    case eviction =>
      obtain ⟨hthreads, hflush', htxns', hsent⟩ := evictHome_writesBack hst hlost hcan
      have hrun := exec_evictionIssue_quiet hc (issueEviction_home hnext hcheck hfind hst hl3) (hflush'.trans hflush) (htxns'.trans htxns)
      exact ⟨_, hrun, execEvictionIssue_mem c s _ hrun, hthreads, hsent⟩
    case noVictim =>
      refine coreUnit_next (exec_l3VictimInstall c line s) hc ?_
      dsimp only
      rw [hnone]
    case victim =>
      have hrun : exec (.l3VictimInstall c line) s = .next (s2.freeEb c.val line) := by
        refine coreUnit_next (exec_l3VictimInstall c line s) hc ?_
        dsimp only
        rw [hfound]
        simp only [htaken, hgone, hl3, hput, Bool.false_eq_true, if_false, Bool.not_true, Bool.or_false]
      exact ⟨_, hrun, execL3VictimInstall_mem c line s _ hrun, rfl⟩
    case scrub2 =>
      refine ⟨_, coreUnit_next (exec_l2Scrub c s) hc (congrArg (State.modCore · c _) (scrubLines2_good hinject hgood _)), ?_⟩
      beta_reduce
      rw [core_modCore, if_pos rfl]
      exact ⟨rfl, rfl, rfl, rfl, rfl, rfl⟩
    case scrub3 =>
      refine ⟨_, dieUnit_next (exec_l3Scrub d slice s) hopen (congrArg (State.modDie · d _) (scrubLines3_good hinject hgood _)), ?_⟩
      beta_reduce
      rw [die_modDie_self]
      exact ⟨(Tbl_get_set _ _ _ _ _).trans (if_pos rfl), rfl, rfl, rfl, rfl, rfl⟩
  · intro c d s k x there die keeps
    refine ⟨fun hc hdis => ?l2Disable, fun hc hdis => ?l2Disabled, fun hc hdis hflush hdue => ?l2Enable, fun hc hbusy => ?l2Busy,
      fun hc hflush hl2 heb => ?l2Flushed, fun hd hdis => ?l3Disable, fun hd hdis => ?l3Disabled, fun hd hctl hdue => ?l3Enable,
      fun hd hbusy => ?l3Busy, fun hd hl3 hwbs hdue => ?l3Flushed⟩
    case l2Disable =>
      refine ⟨_, coreUnit_next (exec_l2Disable c s) hc (disableL2_on hdis), ?_⟩
      beta_reduce
      rw [core_modCore, if_pos rfl]
      exact ⟨rfl, rfl, rfl, rfl, rfl, rfl⟩
    case l2Disabled => exact coreUnit_next (exec_l2Disable c s) hc (disableL2_off hdis)
    case l2Enable =>
      have hrun : exec (.l2Enable c) s = .next (s.enableL2 c) := coreUnit_next (exec_l2Enable c s) hc rfl
      obtain ⟨hdis', hl2, hl1d, hl1i, hsent⟩ := enableL2_spec hdis hflush hdue
      exact ⟨_, hrun, hdis', hl2, hl1d, hl1i, execL2Enable_mem c s _ hrun, hsent⟩
    case l2Busy => exact coreUnit_next (exec_l2Enable c s) hc (enableL2_flushing hbusy)
    case l2Flushed =>
      have hrun : exec (.l2FlushDone c) s = .next ((s.flushL2 c).endFlushL2 c) := coreUnit_next (exec_l2FlushDone c s) hc rfl
      obtain ⟨hcore, hthreads, hsent⟩ := flushL2_empty hl2
      rw [endFlushL2_empty (by rw [hcore]; exact hflush) (by rw [hcore]; exact hl2) (by rw [hcore]; exact heb)] at hrun
      refine ⟨_, hrun, ?_, hthreads, execL2FlushDone_mem c s _ hrun, hsent⟩
      rw [core_modCore, if_pos rfl]
    case l3Disable =>
      refine ⟨_, dieUnit_next (exec_l3Disable d s) hd (disableL3_on hdis), fld_setFld s _ 0 0 1 (le_refl 0) (by decide), ?_⟩
      rw [die_modDie_self]
      exact ⟨rfl, rfl, rfl, rfl, rfl, rfl⟩
    case l3Disabled => exact dieUnit_next (exec_l3Disable d s) hd (if_pos hdis)
    case l3Enable =>
      refine ⟨_, dieUnit_next (exec_l3Enable d s) hd (enableL3_flushed hctl hdue), fld_setFld s _ 0 0 0 (le_refl 0) (by decide), ?_⟩
      rw [die_modDie_self]
      exact ⟨rfl, rfl, rfl, rfl, rfl⟩
    case l3Busy => exact dieUnit_next (exec_l3Enable d s) hd (enableL3_flushing hbusy)
    case l3Flushed =>
      have hrun : exec (.l3FlushDone d) s = .next (s.setFld (regL3ctl d) 1 1 0) := by
        refine dieUnit_next (exec_l3FlushDone d s) hd ?_
        dsimp only
        rw [flushL3All_empty hl3, hdue, if_neg Bool.false_ne_true, hl3, hwbs]
        rfl
      exact ⟨_, hrun, fld_setFld s _ 1 1 0 (le_refl 1) (by decide), rfl, rfl, rfl, rfl⟩

end Sys2Proof.Machine

/-! ## Home agents, and completions at a core

The events of 07_coherence_protocol.md at the home agents and at a core that waits for a line. Four of the family's statements leave out a
condition; each is refuted by a small state on which the command is run. -/

namespace Sys2Proof.Machine
open Sys2Proof

/-! ### What a command that completes leaves -/

/-- The state after a command, where it completes. -/
def State.after (s : State) (c : Instr) : State := match exec c s with
  | .next u => u
  | _ => s

theorem after_of_next {c : Instr} {s u : State} (h : exec c s = .next u) : s.after c = u := by rw [State.after, h]

theorem Ends.after {c : Instr} {s : State} {P : State → Prop} (h : Ends c s P) : P (s.after c) := by
  obtain ⟨u, hu, hP⟩ := h
  rwa [after_of_next hu]

/-! ### A request that asks for a subjunctive forward (R263) -/

/-- A package in RUN-I, its agents at rest in Arrival order. -/
def runningPackage : State := State.reset.setFld regGlbMode 3 0 modeRunI

/-- A subjunctive RdS of line 0 from core 0, which predicts package 1 as the owner. -/
def subjunctiveRead : Hdr := { src := agentId 0 0 0, dst := agentId 0 12 0, pred := 1, flags := { subj := true } }

/-- The agent sends RdSub at the request's arrival. -/
theorem subjunctiveRead_sends : (runningPackage.after (.rds subjunctiveRead)).sent.map (·.type) = [.rdSub] := by decide +kernel

/-- Refutes O29: its requests that go on to memory send nothing, whatever flags their header has. An agent of the requester's own package
that takes a request with SUBJ sends RdSub to the predicted package (R263), and so does `runningPackage` for `subjunctiveRead`. The
statement needs `h.flags.subj = false`. -/
theorem not_homeRequests : ¬ Obligations.HomeRequests := by
  intro h
  obtain ⟨hserves, -⟩ := h
  obtain ⟨hrequests, -⟩ := hserves 0 subjunctiveRead 0 0 { op := .add, wide := true, off := 0, operand := 0, compare := 0 } false 0
    runningPackage (by unfold State.homeRests; decide +kernel) (by unfold State.homeTakes; decide +kernel) (by decide +kernel)
    (by decide +kernel)
  obtain ⟨⟨harrives, -⟩, -⟩ := hrequests (by decide +kernel)
  obtain ⟨⟨hsent, -⟩, -⟩ := (harrives (by decide +kernel)).after
  have hsends := subjunctiveRead_sends
  rw [hsent] at hsends
  exact absurd hsends (by decide +kernel)

/-! ### A request that is due at another agent (R256)

After an event at one agent every agent of the package serves what it may serve by then. -/

/-- A notice of line 1 from a die that does not hold it, its settle point at clause 0. -/
def dueNotice : HReq := { kind := .evN, hdr := { src := agentId 0 0 0, dst := agentId 0 12 1, addr := 1 } }

/-- Agents 0 and 1 in Indicative order; agent 1 holds the notice, which is due and not yet served. -/
def noticeDue : State :=
  ((runningPackage.setFld (regHomStatus 0) 1 0 1).setFld (regHomStatus 1) 1 0 1).modHome 1 (fun x => { x with held := [dueNotice] })

/-- An RdS of line 0 from core 0. -/
def readOfLine0 : Hdr := { src := agentId 0 0 0, dst := agentId 0 12 0 }

/-- A grant of line 0 that waits for its acknowledgement. -/
def grantedRead : HTxn := { line := 0, req := { kind := .rdS, hdr := readOfLine0 }, phase := .ta }

/-- Agent 0 waits for the acknowledgement while the notice is due at agent 1. -/
def grantedAndDue : State := noticeDue.modHome 0 (fun x => { x with txns := [grantedRead] })

/-- The acknowledgement at agent 0 lets agent 1 answer the notice. -/
theorem grantedAndDue_sends : (grantedAndDue.after (.cmpack readOfLine0)).sent.map (·.type) = [.wbAck] := by decide +kernel

/-- Refutes O30: its answers change the list of messages sent by their own delivery alone, whatever the other agents hold. In
`grantedAndDue` a notice at agent 1 has reached its settle point (R256), and the event at agent 0 has it served: WbAck is sent. The
statement needs the other agents at rest. -/
theorem not_homeAnswers : ¬ Obligations.HomeAnswers := by
  intro h
  obtain ⟨hanswers, -⟩ := h
  obtain ⟨-, hack, -⟩ := hanswers 0 readOfLine0 .I 0 grantedRead grantedAndDue (by unfold State.homeTakes; decide +kernel)
    (by decide +kernel) (by decide +kernel) rfl rfl
  obtain ⟨-, hsent, -⟩ := (hack (by decide +kernel) rfl (by decide +kernel)).after
  have hsends := grantedAndDue_sends
  rw [hsent] at hsends
  exact absurd hsends (by decide +kernel)

/-- The read of line 0 as agent 0 holds it, its settle point at clause 1. -/
def heldRead : HReq := { kind := .rdS, hdr := readOfLine0, settleAt := 1 }

/-- Clause 0: agent 0 holds the read, which is not due, while the notice is due at agent 1. -/
def heldAndDue : State := noticeDue.modHome 0 (fun x => { x with held := [heldRead] })

/-- A settle point at agent 0 lets agent 1 answer the notice. -/
theorem heldAndDue_sends : (heldAndDue.after (.settlePointReached 0 0)).sent.map (·.type) = [.wbAck] := by decide +kernel

/-- Refutes O31: before a held request's settle point its SETTLE_POINT_REACHED is to change nothing, whatever the other agents hold. In
`heldAndDue` the read of agent 0 goes on waiting, but the notice at agent 1 has reached its own settle point (R256) and is served. The
statement needs the other agents at rest. -/
theorem not_homeProgress : ¬ Obligations.HomeProgress := by
  intro h
  obtain ⟨hholds, -⟩ := h
  obtain ⟨hsettle, -⟩ := hholds 0 0 heldRead grantedRead heldAndDue
  obtain ⟨-, -, hwaits, -⟩ := hsettle (by decide +kernel) (by decide +kernel) (by decide +kernel) (by decide +kernel) (by decide +kernel)
    (by decide +kernel) (by decide +kernel) (by decide +kernel) (by decide +kernel) rfl (by decide +kernel) (by decide +kernel) rfl
    (by decide +kernel)
  have hsends := heldAndDue_sends
  rw [after_of_next (hwaits rfl (by decide +kernel))] at hsends
  exact absurd hsends (by decide +kernel)

/-! ### A transaction that is confirmed (R264, R266) -/

/-- An RdX of line 0 that has the home's data and is marked as confirmed. -/
def confirmedRdx : Txn := { tid := 5, line := 0, kind := .rdX, thread := 0, realm := 0, data := some 7, conf := true }

/-- Core 0 waits for the completion of it. -/
def confirmedCore : State := runningPackage.modCore 0 (fun k => { k with txns := [confirmedRdx] })

/-- The completion, with grant E. -/
def grantE : Hdr := { tid := 5, src := agentId 0 12 0, dst := agentId 0 0 0, grant := .E, cr := 1 }

/-- The request goes on waiting: a confirmed fill takes the subjunctive data, and there is none. -/
theorem confirmedCore_waits : ((confirmedCore.after (.cmp grantE)).core 0).txns = [{ confirmedRdx with cmp := some .E }] := by decide +kernel

/-- Refutes O33: its completion with the data there fills the L2, whether or not the request is marked as confirmed. What is confirmed is
the subjunctive data (R266), so in `confirmedCore` the completion ends nothing. The statement needs `x.conf = false` in that clause, as
its clause for subjunctive data has it. -/
theorem not_coreFills : ¬ Obligations.CoreFills := by
  intro h
  obtain ⟨-, hcmp, -⟩ := h 0 grantE 7 confirmedRdx confirmedCore (by unfold State.coreTakes; decide +kernel) (by decide +kernel) rfl rfl
    (by decide +kernel)
  obtain ⟨hends, -⟩ := (hcmp (.inr ⟨rfl, .inl rfl⟩) rfl rfl rfl rfl (by decide +kernel) (by decide +kernel) (by decide +kernel)
    (by decide +kernel) (by decide +kernel)).after
  exact absurd (confirmedCore_waits.symm.trans hends) (by decide)

end Sys2Proof.Machine

namespace Sys2Proof.Machine
open Sys2Proof

/-! ## Snoops at a compute die (R246, R250, R251, R263)

What a snoop does to the copies of a die stays within its caches (`cachesOnly`); the messages that follow are then those of the state
before. -/

/-! ### A line that leaves a set (R155) -/

/-- A search in a table that keeps only what the search rejects finds nothing. -/
theorem findWay_filter_none {V : Type} {t : Tbl V} {keep : Nat × V → Bool} {p : V → Bool} (set ways : Nat)
    (h : ∀ x, keep x = true → p x.2 = false) : findWay (t.filter keep) set ways p = none := by
  refine List.findSome?_eq_none_iff.mpr fun i _ => ?_
  split
  · next v hv =>
    have hkept := (List.mem_filter.mp (Tbl_find_mem hv)).2
    rw [h _ hkept, if_neg Bool.false_ne_true]
  · rfl

theorem l2Find_l2Drop (k : Core) (a : LineAddr) : (k.l2Drop a).l2Find a = none :=
  findWay_filter_none _ _ fun x hx => by simpa using hx

theorem l2State_of_l2Find {k : Core} {a : LineAddr} {w : Nat} {v : CLine} (h : k.l2Find a = some (w, v)) : k.l2State a = v.st := by
  rw [Core.l2State, h]

theorem l2State_l2Drop (k : Core) (a : LineAddr) : (k.l2Drop a).l2State a = .I := by rw [Core.l2State, l2Find_l2Drop]

/-! ### What a snoop leaves of the state -/

/-- Only caches, snoop filters and the events of the open clause differ. -/
def State.cachesOnly (s u : State) : Prop := ∃ cs ds ev, u = { s with cores := cs, dies := ds, events := ev }

theorem cachesOnly_refl (s : State) : s.cachesOnly s := ⟨s.cores, s.dies, s.events, rfl⟩

theorem cachesOnly_trans {a b c : State} (h : a.cachesOnly b) (k : b.cachesOnly c) : a.cachesOnly c := by
  obtain ⟨cs, ds, ev, rfl⟩ := h
  obtain ⟨cs', ds', ev', rfl⟩ := k
  exact ⟨cs', ds', ev', rfl⟩

theorem modCore_cachesOnly (s : State) (c : Nat) (f : Core → Core) : s.cachesOnly (s.modCore c f) := ⟨_, s.dies, s.events, rfl⟩

theorem modDie_cachesOnly (s : State) (d : Nat) (f : Die → Die) : s.cachesOnly (s.modDie d f) := ⟨s.cores, _, s.events, rfl⟩

theorem refreshSf_cachesOnly (s : State) (die : Nat) (a : LineAddr) : s.cachesOnly (s.refreshSf die a) := ⟨s.cores, _, s.events, rfl⟩

theorem snoopWake_events (s : State) (t : Nat) (a : LineAddr) : ∃ ev, s.snoopWake t a = { s with events := ev } := by
  unfold State.snoopWake
  split
  · split
    · exact ⟨_, rfl⟩
    · exact ⟨s.events, rfl⟩
  · exact ⟨s.events, rfl⟩

theorem snoopWakes_events (s : State) (c : Nat) (a : LineAddr) : ∃ ev, s.snoopWakes c a = { s with events := ev } := by
  obtain ⟨ev, h⟩ := snoopWake_events s (2 * c) a
  obtain ⟨ev', h'⟩ := snoopWake_events (s.snoopWake (2 * c) a) (2 * c + 1) a
  exact ⟨ev', by rw [State.snoopWakes, h', h]⟩

theorem snoopWakes_cachesOnly (s : State) (c : Nat) (a : LineAddr) : s.cachesOnly (s.snoopWakes c a) := by
  obtain ⟨ev, h⟩ := snoopWakes_events s c a
  exact ⟨s.cores, s.dies, ev, h⟩

theorem snoopWakes_core (s : State) (c : Nat) (a : LineAddr) (c' : Nat) : (s.snoopWakes c a).core c' = s.core c' := by
  obtain ⟨ev, h⟩ := snoopWakes_events s c a
  rw [h]
  rfl

/-- The answer of a die to agent h, as it is sent. -/
def State.answerMsg (s : State) (die : Nat) (h : Hdr) (ty : MsgType) (fl : Flags) (b : Body) : Msg :=
  { type := ty, hdr := { h with src := agentId s.pkgNum die 48, dst := s.agentH h.addr, flags := fl, grant := .I }, body := b }

/-- The forward of a line to the requester, as it is sent. -/
def State.forwardMsg (s : State) (die : Nat) (h : Hdr) (ty : MsgType) (g : CState) (l : Line) : Msg :=
  { type := ty, hdr := { h with src := agentId s.pkgNum die 48, dst := h.src, grant := g, flags := { fwd := true } }, body := .line l }

section
variable {s u : State} (hu : s.cachesOnly u) (die : Nat) (h : Hdr)
include hu

theorem State.cachesOnly.sent : u.sent = s.sent := by
  obtain ⟨_, _, _, rfl⟩ := hu
  rfl

theorem State.cachesOnly.answerMsg (ty : MsgType) (fl : Flags) (b : Body) : u.answerMsg die h ty fl b = s.answerMsg die h ty fl b := by
  obtain ⟨_, _, _, rfl⟩ := hu
  rfl

theorem State.cachesOnly.forwardMsg (ty : MsgType) (g : CState) (l : Line) : u.forwardMsg die h ty g l = s.forwardMsg die h ty g l := by
  obtain ⟨_, _, _, rfl⟩ := hu
  rfl

/-- The answer that follows the work on the copies. -/
theorem State.cachesOnly.answer (ty : MsgType) (fl : Flags) (b : Body) :
    (u.answer die h ty fl b).sent = s.sent ++ [s.answerMsg die h ty fl b] := by
  rw [← hu.sent, ← hu.answerMsg]
  rfl

/-- The forward that follows it, and the answer after that. -/
theorem State.cachesOnly.forwardAnswer (ty ty' : MsgType) (g : CState) (l : Line) (fl : Flags) (b : Body) :
    ((u.forward die h ty' g l).answer die h ty fl b).sent = s.sent ++ [s.forwardMsg die h ty' g l, s.answerMsg die h ty fl b] := by
  rw [← hu.sent, ← hu.answerMsg, ← hu.forwardMsg]
  exact List.append_assoc u.sent [u.forwardMsg die h ty' g l] [u.answerMsg die h ty fl b]

end

/-! ### A snoop that reaches a compute die -/

theorem snoopIn_die {s : State} {ty : MsgType} {h : Hdr} (hpkg : agentPkg h.dst = s.pkgNum) (hdie : agentDie h.dst < 12) :
    snoopIn s ty h = arrive s { type := ty, hdr := h } (fun s => .next (s.dieSnoop (agentDie h.dst) ty h)) := if_pos ⟨hpkg, hdie⟩

theorem execRdsub_die {s : State} {h : Hdr} (hpkg : agentPkg h.dst = s.pkgNum) (hdie : agentDie h.dst < 12) :
    execRdsub h s = arrive s { type := .rdSub, hdr := h } (fun s => .next (s.dieSnoop (agentDie h.dst) .rdSub h)) := if_pos ⟨hpkg, hdie⟩

/-- The die's snoop-filter entry of the line, where there is one, can be read. -/
def State.sfClean (s : State) (die : Nat) (a : LineAddr) : Prop := ∀ e, (s.die die).sfFind a = some e → e.bad = 0

/-- Each snoop of a line whose entry can be read is answered by its own rule. -/
theorem dieSnoop_clean {s : State} {die : Nat} {h : Hdr} (hclean : s.sfClean die h.addr) :
    s.dieSnoop die .snpS h = s.dieSnpS die h ∧ s.dieSnoop die .snpX h = s.dieSnpX die h ∧ s.dieSnoop die .snpI h = s.dieSnpI die h ∧
      s.dieSnoop die .snpH h = s.dieSnpH die h ∧ s.dieSnoop die .snpC h = s.dieSnpC die h ∧
      s.dieSnoop die .rdSub h = s.dieRdSub die h := by
  unfold State.dieSnoop State.sfCorrect
  cases hsf : (s.die die).sfFind h.addr with
  | none => exact ⟨rfl, rfl, rfl, rfl, rfl, rfl⟩
  | some e => simp [hclean e hsf]

/-! ### A die that holds no copy (R250) -/

section
variable {s : State} {die : Nat} {h : Hdr} (hnone : s.dieCopies die h.addr = [])
include hnone

theorem sharedAnswer_absent : s.sharedAnswer die h = s.answer die h .snpNone {} .none := by simp [State.sharedAnswer, hnone]

theorem dieSnpS_absent : s.dieSnpS die h = s.answer die h .snpNone {} .none := by simp [State.dieSnpS, hnone, sharedAnswer_absent]

theorem dieSnpX_absent : s.dieSnpX die h = (s.refreshSf die h.addr).answer die h .snpNone {} .none := by
  simp [State.dieSnpX, State.dropAnswer, State.removeCopies, hnone]

theorem dieSnpI_absent : s.dieSnpI die h = (s.refreshSf die h.addr).answer die h .snpNone {} .none := by
  simp [State.dieSnpI, State.removeCopies, hnone]

theorem dieSnpH_absent : s.dieSnpH die h = s.answer die h .snpNone {} .none := by simp [State.dieSnpH, hnone]

theorem dieSnpC_absent : s.dieSnpC die h = s.answer die h .snpNone {} .none := by simp [State.dieSnpC, hnone, sharedAnswer_absent]

theorem dieRdSub_absent : s.dieRdSub die h = s.answer die h .subFwd {} (.state .I) := by simp [State.dieRdSub, hnone]

end

/-! ### A die one of whose L2s owns the line, alone (R246, R251) -/

/-- The copy that a line of core `c`'s L2 is, while it is neither frozen nor bad. -/
def CLine.copyAt (v : CLine) (c : Nat) : Copy := { place := .l2 c, st := v.st, data := v.data }

/-- The L2 of core `c` owns line `a` in way `w`, its copy can be read and is the die's only one. -/
structure State.OwnedAlone (s : State) (die c : Nat) (a : LineAddr) (w : Nat) (v : CLine) : Prop where
  copies : s.dieCopies die a = [v.copyAt c]
  find : (s.core c).l2Find a = some (w, v)
  owner : v.st = .M ∨ v.st = .O ∨ v.st = .E
  bad : v.bad = 0
  tagBad : v.tagBad = false
  unarmed : bit (s.reg regGlbInject) 63 = false

/-- A snoop's read of an L2 line that meets no error. -/
theorem l2Check_clean_snoop {s : State} {c w : Nat} {a : LineAddr} {v : CLine} (h : bit (s.reg regGlbInject) 63 = false)
    (hfind : (s.core c).l2Find a = some (w, v)) (hbad : v.bad = 0) (htag : v.tagBad = false) : s.l2Check c a true = (s, some v) := by
  unfold State.l2Check
  simp only [hfind, injectKind_unarmed _ _ _ h, htag, hbad, Bool.false_eq_true, if_false]

/-- What a snoop leaves: messages behind those on their way, and the line's state in core `c`. -/
def State.snooped (s u : State) (c : Nat) (a : LineAddr) (ms : List Msg) (after : CState) : Prop :=
  u.sent = s.sent ++ ms ∧ (u.core c).l2State a = after

/-- The answer that brings a copy's dirty data home, or tells that there is none. -/
def State.homeMsg (s : State) (die : Nat) (h : Hdr) (p : Copy) : Msg :=
  if p.dirty then s.answerMsg die h .snpData { dirty := true } (.line p.data) else s.answerMsg die h .snpAck {} .none

/-- The die without its copies of a line. -/
def State.noCopies (s : State) (die : Nat) (a : LineAddr) : State := (s.removeCopies die a (s.dieCopies die a)).refreshSf die a

/-- The L2's copy of a line in another state. -/
def CLine.inState (st : CState) (v : CLine) : CLine := { v with st := st }

section
variable {s : State} {die c w : Nat} {h : Hdr} {v : CLine}

/-- The copy is taken away. -/
theorem removeCopies_copyAt (s : State) (die c : Nat) (a : LineAddr) (v : CLine) : s.removeCopies die a [v.copyAt c] =
    ((s.modCore c (fun k => (k.upgHeld a .I).l2Drop a)).modDie die (fun d => d.sfRemove a (c % 20))).snoopWakes c a := rfl

theorem removeCopies_l2 (s : State) (die c : Nat) (a : LineAddr) (v : CLine) : s.cachesOnly (s.removeCopies die a [v.copyAt c]) ∧
    ((s.removeCopies die a [v.copyAt c]).core c).l2State a = .I := by
  rw [removeCopies_copyAt]
  refine ⟨cachesOnly_trans (modCore_cachesOnly s c _) (cachesOnly_trans (modDie_cachesOnly _ die _) (snoopWakes_cachesOnly _ c a)), ?_⟩
  have hcore : ((s.modCore c (fun k => (k.upgHeld a .I).l2Drop a)).modDie die (fun d => d.sfRemove a (c % 20))).core c =
    ((s.core c).upgHeld a .I).l2Drop a := (core_modCore s c c (fun k => (k.upgHeld a .I).l2Drop a)).trans (if_pos rfl)
  rw [snoopWakes_core, hcore, l2State_l2Drop]

/-- The copy stays, in another state. -/
theorem setCopy_copyAt (s : State) (die c : Nat) (a : LineAddr) (v : CLine) (st : CState) : s.setCopy die a (v.copyAt c) st =
    s.modCore c (fun k => (k.l2Mod a (CLine.inState st)).upgHeld a st) := rfl

theorem setCopy_l2 {a : LineAddr} (hfind : (s.core c).l2Find a = some (w, v)) (st : CState) :
    s.cachesOnly (s.setCopy die a (v.copyAt c) st) ∧ ((s.setCopy die a (v.copyAt c) st).core c).l2State a = st := by
  rw [setCopy_copyAt]
  refine ⟨modCore_cachesOnly s c _, ?_⟩
  rw [core_modCore, if_pos rfl]
  exact l2State_of_l2Find (l2Find_l2Mod (f := CLine.inState st) hfind rfl)

variable (hx : s.OwnedAlone die c h.addr w v)
include hx

theorem State.OwnedAlone.owns : (v.copyAt c).owns = true := decide_eq_true hx.owner

theorem State.OwnedAlone.readOwner : s.readOwner die h.addr (v.copyAt c) = (s, some (v.copyAt c)) := by
  simp only [State.readOwner, CLine.copyAt, l2Check_clean_snoop hx.unarmed hx.find hx.bad hx.tagBad, Option.map_some]

theorem dieSnpS_owned : s.snooped (s.dieSnpS die h) c h.addr [s.forwardMsg die h .data .S v.data,
    s.answerMsg die h .fwdAck { dirty := (v.copyAt c).dirty } (.state (shareState v.st))] (shareState v.st) := by
  have heq : s.dieSnpS die h = (((s.setCopy die h.addr (v.copyAt c) (shareState v.st)).refreshSf die h.addr).forward die h .data .S
      v.data).answer die h .fwdAck { dirty := (v.copyAt c).dirty } (.state (shareState v.st)) := by
    simp only [State.dieSnpS, hx.copies, List.find?_cons_of_pos hx.owns, hx.readOwner]
    rfl
  obtain ⟨hcaches, hstate⟩ := setCopy_l2 (die := die) hx.find (shareState v.st)
  rw [heq]
  exact ⟨(cachesOnly_trans hcaches (refreshSf_cachesOnly _ die h.addr)).forwardAnswer die h _ _ _ _ _ _, hstate⟩

theorem State.OwnedAlone.dropped : s.cachesOnly (s.noCopies die h.addr) ∧ ((s.noCopies die h.addr).core c).l2State h.addr = .I := by
  obtain ⟨hcaches, hstate⟩ := removeCopies_l2 s die c h.addr v
  rw [State.noCopies, hx.copies]
  exact ⟨cachesOnly_trans hcaches (refreshSf_cachesOnly _ die h.addr), hstate⟩

theorem dieSnpX_owned : s.snooped (s.dieSnpX die h) c h.addr [s.forwardMsg die h .data (if (v.copyAt c).dirty then .M else .E) v.data,
    s.answerMsg die h .fwdAck { dirty := (v.copyAt c).dirty } (.state .I)] .I := by
  have hsupplies : ((v.copyAt c).owns && !(v.copyAt c).quietE) = true := by rw [hx.owns]; rfl
  have heq : s.dieSnpX die h = ((s.noCopies die h.addr).forward die h .data (if (v.copyAt c).dirty then .M else .E) v.data).answer die h
      .fwdAck { dirty := (v.copyAt c).dirty } (.state .I) := by
    simp only [State.dieSnpX, State.noCopies, hx.copies, List.find?_cons_of_pos (p := fun p : Copy => p.owns && !p.quietE) hsupplies,
      hx.readOwner]
    rfl
  obtain ⟨hcaches, hstate⟩ := hx.dropped
  rw [heq]
  exact ⟨hcaches.forwardAnswer die h _ _ _ _ _ _, hstate⟩

theorem dieSnpI_owned : s.snooped (s.dieSnpI die h) c h.addr [s.answerMsg die h .snpAck {} .none] .I := by
  have heq : s.dieSnpI die h = (s.noCopies die h.addr).answer die h .snpAck {} .none := by
    simp only [State.dieSnpI, State.noCopies, hx.copies]
    rfl
  obtain ⟨hcaches, hstate⟩ := hx.dropped
  rw [heq]
  exact ⟨hcaches.answer die h _ _ _, hstate⟩

theorem dieSnpH_owned (hkeep : h.flags.keepS = false) : s.snooped (s.dieSnpH die h) c h.addr [s.homeMsg die h (v.copyAt c)] .I := by
  obtain ⟨hcaches, hstate⟩ := hx.dropped
  rw [State.homeMsg]
  cases hdirty : (v.copyAt c).dirty with
  | true =>
    have heq : s.dieSnpH die h = (s.noCopies die h.addr).answer die h .snpData { dirty := true } (.line v.data) := by
      simp only [State.dieSnpH, State.noCopies, hx.copies, List.find?_cons_of_pos hdirty, hx.readOwner, hkeep]
      rfl
    rw [heq]
    exact ⟨hcaches.answer die h _ _ _, hstate⟩
  | false =>
    have heq : s.dieSnpH die h = (s.noCopies die h.addr).answer die h .snpAck {} .none := by
      simp only [State.dieSnpH, State.noCopies, hx.copies, List.find?_cons_of_neg (hdirty ▸ Bool.false_ne_true), List.find?_nil, hkeep]
      rfl
    rw [heq]
    exact ⟨hcaches.answer die h _ _ _, hstate⟩

/-- The state of an owner's copy once its dirty data has gone home (R246). -/
def cleanState (st : CState) : CState := if st = .M then .E else if st = .O then .S else st

theorem dieSnpC_owned : s.snooped (s.dieSnpC die h) c h.addr [s.homeMsg die h (v.copyAt c)] (cleanState v.st) := by
  rw [State.homeMsg]
  cases hdirty : (v.copyAt c).dirty with
  | true =>
    have hclean : (if v.st = .M then CState.E else .S) = cleanState v.st := by
      rcases of_decide_eq_true hdirty with hst | hst <;> (change v.st = _ at hst; rw [hst]; rfl)
    have heq : s.dieSnpC die h = ((s.setCopy die h.addr (v.copyAt c) (if v.st = .M then .E else .S)).refreshSf die h.addr).answer die h
        .snpData { dirty := true } (.line v.data) := by
      simp only [State.dieSnpC, hx.copies, List.find?_cons_of_pos hx.owns, hx.readOwner, hdirty]
      rfl
    obtain ⟨hcaches, hstate⟩ := setCopy_l2 (die := die) hx.find (if v.st = .M then .E else .S)
    rw [heq]
    exact ⟨(cachesOnly_trans hcaches (refreshSf_cachesOnly _ die h.addr)).answer die h _ _ _, hstate.trans hclean⟩
  | false =>
    obtain ⟨hM, hO⟩ := not_or.mp (of_decide_eq_false hdirty)
    have hclean : v.st = cleanState v.st := (show cleanState v.st = v.st from (if_neg hM).trans (if_neg hO)).symm
    have heq : s.dieSnpC die h = s.answer die h .snpAck {} .none := by
      simp only [State.dieSnpC, hx.copies, List.find?_cons_of_pos hx.owns, hdirty]
      rfl
    rw [heq]
    exact ⟨(cachesOnly_refl s).answer die h _ _ _, (l2State_of_l2Find hx.find).trans hclean⟩

/-- The L2's copy of a line that has been forwarded subjunctively (R246 row OF). -/
def CLine.freeze (forX : Bool) (v : CLine) : CLine := { v with frozen := true, frozenX := forX }

theorem dieRdSub_owned (htxn : (s.core c).txnFind h.addr = none) :
    s.snooped (s.dieRdSub die h) c h.addr [s.forwardMsg die h .dataSub h.grant v.data,
      s.answerMsg die h .subFwd { forwarded := true, dirty := (v.copyAt c).dirty } (.state v.st)] v.st ∧
    ((s.dieRdSub die h).core c).l2Find h.addr = some (w, v.freeze (decide (h.grant = .M))) := by
  have hsupplies : ((v.copyAt c).owns && !(v.copyAt c).frozen && !(v.copyAt c).wbp) = true := by rw [hx.owns]; rfl
  have heq : s.dieRdSub die h = ((s.modCore c (fun k => k.l2Mod h.addr (CLine.freeze (decide (h.grant = .M))))).forward die h .dataSub
      h.grant v.data).answer die h .subFwd { forwarded := true, dirty := (v.copyAt c).dirty } (.state v.st) := by
    simp only [State.dieRdSub, hx.copies, hx.readOwner,
      List.find?_cons_of_pos (p := fun p : Copy => p.owns && !p.frozen && !p.wbp) hsupplies]
    change (if ((s.core c).txnFind h.addr).isSome then _ else _) = _
    rw [htxn]
    rfl
  have hcore : ((s.modCore c (fun k => k.l2Mod h.addr (CLine.freeze (decide (h.grant = .M))))).core c).l2Find h.addr =
      some (w, v.freeze (decide (h.grant = .M))) := by
    rw [core_modCore, if_pos rfl]
    exact l2Find_l2Mod hx.find rfl
  rw [heq]
  exact ⟨⟨(modCore_cachesOnly s c _).forwardAnswer die h _ _ _ _ _ _, (l2State_of_l2Find hcore :)⟩, hcore⟩

end

/-! ### The snoops of a die -/

/-- The snoops of a line of which the die holds no copy. -/
theorem dieSnoop_absent {s : State} {die : Nat} {h : Hdr} (hnone : s.dieCopies die h.addr = []) (hclean : s.sfClean die h.addr) :
    (∀ ty ∈ [MsgType.snpS, .snpX, .snpI, .snpH, .snpC], ∃ ds, s.dieSnoop die ty h =
      ({ s with dies := ds } : State).answer die h .snpNone {} .none) ∧
    ∃ ds, s.dieSnoop die .rdSub h = ({ s with dies := ds } : State).answer die h .subFwd {} (.state .I) := by
  obtain ⟨hS, hX, hI, hH, hC, hSub⟩ := dieSnoop_clean hclean
  simp only [List.forall_mem_cons, List.not_mem_nil, false_implies, implies_true, and_true]
  exact ⟨⟨⟨_, hS.trans (dieSnpS_absent hnone)⟩, ⟨_, hX.trans (dieSnpX_absent hnone)⟩, ⟨_, hI.trans (dieSnpI_absent hnone)⟩,
    ⟨_, hH.trans (dieSnpH_absent hnone)⟩, ⟨_, hC.trans (dieSnpC_absent hnone)⟩⟩, ⟨_, hSub.trans (dieRdSub_absent hnone)⟩⟩

/-- Settles O32: the die answers by what its copies are, and changes them as the snoop's rule says. -/
theorem snoops : Obligations.Snoops := by
  constructor
  · intro d h s hpkg hdst hnone hsf answers
    have hdie : agentDie h.dst < 12 := hdst ▸ d.isLt
    have habsent (m : Msg) (pv : Tbl Word) := dieSnoop_absent (s := s.taken m pv) (die := d.val) (h := h) hnone
      fun e he => by cases hsf.symm.trans he
    have answersBy {i : Instr} {ty r : MsgType} {b : Body}
        (hexec : exec i s = arrive s { type := ty, hdr := h } (fun s => .next (s.dieSnoop (agentDie h.dst) ty h)))
        (hans : ∀ m pv, ∃ ds, (s.taken m pv).dieSnoop d.val ty h = ({ s.taken m pv with dies := ds } : State).answer d.val h r {} b) :
        answers i ty r {} b := fun hbehind => arrive_ends hexec hbehind fun pv _ => by
      obtain ⟨ds, hds⟩ := hans _ pv
      rw [hdst, hds]
      exact ⟨rfl, rfl, rfl, rfl⟩
    have snpNone {ty : MsgType} (hty : ty ∈ [MsgType.snpS, .snpX, .snpI, .snpH, .snpC]) (m : Msg) (pv : Tbl Word) :=
      (habsent m pv).1 ty hty
    exact ⟨answersBy (snoopIn_die hpkg hdie) (snpNone (by decide)), answersBy (snoopIn_die hpkg hdie) (snpNone (by decide)),
      answersBy (snoopIn_die hpkg hdie) (snpNone (by decide)), answersBy (snoopIn_die hpkg hdie) (snpNone (by decide)),
      answersBy (snoopIn_die hpkg hdie) (snpNone (by decide)), answersBy (execRdsub_die hpkg hdie) fun m pv => (habsent m pv).2⟩
  · intro d c h l st e w v s hpkg hdst _ hsf hgood hcopies hfind hdata hst hbad htag _ howner hinject hkeep htxn dirty back fwd sends
    subst hdata hst
    have hdie : agentDie h.dst < 12 := hdst ▸ d.isLt
    have howned (m : Msg) (pv : Tbl Word) : (s.taken m pv).OwnedAlone d.val c.val h.addr w v :=
      ⟨hcopies, hfind, howner, hbad, htag, hinject⟩
    have hclean (m : Msg) (pv : Tbl Word) := dieSnoop_clean (s := s.taken m pv) (die := d.val) (h := h) fun e' he' => by
      obtain rfl : e = e' := Option.some.inj (hsf.symm.trans he')
      exact hgood
    have sendsBy {i : Instr} {ty : MsgType} {ms : List Msg} {after : CState}
        (hexec : exec i s = arrive s { type := ty, hdr := h } (fun s => .next (s.dieSnoop (agentDie h.dst) ty h)))
        (hans : ∀ m pv, (s.taken m pv).snooped ((s.taken m pv).dieSnoop d.val ty h) c.val h.addr ms after) : sends i ty ms after :=
      fun hbehind => arrive_ends hexec hbehind fun pv _ => by
        obtain ⟨hsent, hstate⟩ := hans { type := ty, hdr := h } pv
        rw [hdst]
        exact ⟨hsent, dieSnoop_mem _ _ _ _, hstate⟩
    refine ⟨sendsBy (snoopIn_die hpkg hdie) fun m pv => ?snpS, sendsBy (snoopIn_die hpkg hdie) fun m pv => ?snpX,
      sendsBy (snoopIn_die hpkg hdie) fun m pv => ?snpI, sendsBy (snoopIn_die hpkg hdie) fun m pv => ?snpH,
      sendsBy (snoopIn_die hpkg hdie) fun m pv => ?snpC, sendsBy (execRdsub_die hpkg hdie) fun m pv => ?rdSub, fun hbehind => ?frozen⟩
    case snpS =>
      obtain ⟨hS, -⟩ := hclean m pv
      exact hS ▸ dieSnpS_owned (howned m pv)
    case snpX =>
      obtain ⟨-, hX, -⟩ := hclean m pv
      exact hX ▸ dieSnpX_owned (howned m pv)
    case snpI =>
      obtain ⟨-, -, hI, -⟩ := hclean m pv
      exact hI ▸ dieSnpI_owned (howned m pv)
    case snpH =>
      obtain ⟨-, -, -, hH, -⟩ := hclean m pv
      exact hH ▸ dieSnpH_owned (howned m pv) hkeep
    case snpC =>
      obtain ⟨-, -, -, -, hC, -⟩ := hclean m pv
      exact hC ▸ dieSnpC_owned (howned m pv)
    case rdSub =>
      obtain ⟨-, -, -, -, -, hSub⟩ := hclean m pv
      exact hSub ▸ (dieRdSub_owned (howned m pv) htxn).1
    case frozen =>
      refine arrive_ends (execRdsub_die hpkg hdie) hbehind fun pv _ => ?_
      obtain ⟨-, -, -, -, -, hSub⟩ := hclean { type := .rdSub, hdr := h } pv
      obtain ⟨-, hfrozen⟩ := dieRdSub_owned (howned { type := .rdSub, hdr := h } pv) htxn
      rw [hdst, hSub]
      exact ⟨_, hfrozen, rfl⟩

end Sys2Proof.Machine

/-! ## The global directory between requests

The events of 08_global_directory.md that no request causes: the age clock, the scrubber, a lost port, the steps of a reshape. -/

namespace Sys2Proof.Machine
open Sys2Proof

/-! ### A scrub that meets no error (R293, R295, R300) -/

theorem dirInject_unarmed {s : State} (p set : Nat) (e : DirEntry) (h : bit (s.reg regGlbInject) 63 = false) :
    s.dirInject p set e = none := by
  unfold State.dirInject
  simp only [injectKind_unarmed _ _ _ h, ite_self]

theorem dirError_clean {s : State} {p set w : Nat} {e : DirEntry} (h : bit (s.reg regGlbInject) 63 = false)
    (hfind : Tbl.find s.dirMem (dirLoc p set w) = some e) (hbad : e.bad = 0) : s.dirError p set w .clean = s := by
  unfold State.dirError
  simp [hfind, dirInject_unarmed p set e h, hbad, State.dirCtlError]

/-- An entry as the scrubber leaves it: one of age 128 or more takes the age 128. -/
def State.scrubbed (s : State) (e : DirEntry) : DirEntry :=
  if 128 ≤ (s.dirAge.toNat + 256 - e.age) % 256 then { e with age := (s.dirAge.toNat + 128) % 256 } else e

/-- Only the entries and the set controls of the directory may differ. -/
def State.directoryOnly (s u : State) : Prop := ∃ m c, u = { s with dirMem := m, dirCtl := c }

theorem freshAge_directoryOnly (s : State) (port set w : Nat) : s.directoryOnly (s.freshAge port set w) := by
  unfold State.freshAge
  split
  · split
    · extract_lets old c t
      split
      · exact ⟨_, s.dirCtl, rfl⟩
      · exact ⟨_, _, rfl⟩
    · exact ⟨s.dirMem, s.dirCtl, rfl⟩
  · exact ⟨s.dirMem, s.dirCtl, rfl⟩

theorem freshAge_find {s : State} {port set w : Nat} {e : DirEntry} (hfind : Tbl.find s.dirMem (dirLoc port set w) = some e) :
    Tbl.find (s.freshAge port set w).dirMem (dirLoc port set w) = some (s.scrubbed e) := by
  unfold State.freshAge State.scrubbed
  simp only [hfind]
  split
  · rw [apply_ite State.dirMem]
    simp [State.setDirCtl]
  · exact hfind

/-- Where the scrubber of a port goes after location `loc`. -/
def State.nextScrub (s : State) (loc : Nat) : Nat := if s.fld regDirLayout 63 32 * 9 ≤ loc + 1 then 0 else loc + 1

theorem execDirScrub_entry {s : State} {p : Fin 8} {loc : Nat} {e : DirEntry} (hloc : Tbl.get 0 s.dirScrubAt p.val = loc)
    (htrained : s.fld (regDirStatus p.val) 2 1 = 1) (hunarmed : bit (s.reg regGlbInject) 63 = false) (hentry : loc % 9 ≠ 0)
    (hfind : Tbl.find s.dirMem (dirLoc p.val (loc / 9) (loc % 9 - 1)) = some e) (hbad : e.bad = 0) :
    Ends (.dirScrub p .clean) s (fun u => Tbl.get 0 u.dirScrubAt p.val = s.nextScrub loc ∧
      Tbl.find u.dirMem (dirLoc p.val (loc / 9) (loc % 9 - 1)) = some (s.scrubbed e) ∧ u.regs = s.regs ∧ u.sent = s.sent ∧ s.sameMachine u) := by
  rw [Ends, exec_dirScrub]
  unfold execDirScrub
  rw [if_neg (not_not_intro htrained), hloc]
  extract_lets at' limit stepped set
  have hclean : stepped.dirError p.val set (loc % 9 - 1) .clean = stepped := dirError_clean (s := stepped) hunarmed hfind hbad
  rw [if_neg hentry, hclean]
  have hkept := freshAge_find (s := stepped) hfind
  obtain ⟨m, c, hu⟩ := freshAge_directoryOnly stepped p.val set (loc % 9 - 1)
  refine ⟨_, rfl, ?_, hkept, ?_⟩
  · rw [hu]
    exact (Tbl_get_set ..).trans (if_pos rfl)
  · rw [hu]
    exact ⟨rfl, rfl, rfl, rfl, rfl⟩

/-! ### A port that loses lock (R300, R314) -/

theorem dirPortLost_halts (s : State) (p : Fin 8) (h : s.live) :
    s.halts (s.dirPortLost p.val) ∧ (s.dirPortLost p.val).fld (regDirLasterr p.val) 63 48 = 0x50A1 := by
  obtain ⟨hhalts, -, hregs⟩ := ueP_live (s.dirLastErr p.val 0x50A1 0) 12 (32 + p.val) 0x50A1 0
    [p.val, (s.reg (regDirStatus p.val)).toNat % 2 ^ 32] (by
      have hmode : (s.dirLastErr p.val 0x50A1 0).mode = s.mode :=
        mode_congr (setReg_glbMode _ _ (by unfold regGlbMode regDirLasterr; omega))
      rwa [State.live, hmode])
  refine ⟨hhalts, ?_⟩
  have hlast : (s.dirPortLost p.val).reg (regDirLasterr p.val) = BitVec.ofNat 64 (0x50A1 * 2 ^ 48 + 0 % 2 ^ 24) := by
    refine (hregs _ ?_ ?_).trans ((reg_setReg ..).trans (if_pos rfl))
    · simp [noteRegs, regDirLasterr, regTlgStatus, regGlbErrsum]
      omega
    · simp [modeRegs, regDirLasterr, regGlbMode, regGlbModetime]
      omega
  rw [State.fld, hlast]
  decide

theorem execDirPortLost_held {s : State} (p : Fin 8) (hheld : ∃ x ∈ s.dirMem, x.1 / 2 ^ 24 = p.val) (h : s.live) :
    Ends (.dirPortLost p) s (fun u => s.halts u ∧ u.fld (regDirLasterr p.val) 63 48 = 0x50A1) := by
  have hany : s.dirMem.any (fun e => decide (e.1 / 2 ^ 24 = p.val)) = true := by simpa using hheld
  rw [Ends, exec_dirPortLost, execDirPortLost, if_pos hany]
  exact ⟨_, rfl, dirPortLost_halts s p h⟩

theorem execDirPortLost_free {s : State} (p : Fin 8) (hfree : ∀ x ∈ s.dirMem, x.1 / 2 ^ 24 ≠ p.val) : exec (.dirPortLost p) s = .next s := by
  have hany : ¬ s.dirMem.any (fun e => decide (e.1 / 2 ^ 24 = p.val)) = true := by simpa using hfree
  rw [exec_dirPortLost, execDirPortLost, if_neg hany]

/-! ### A reshape that passes a set (R304, R309) -/

/-- No agent of the package has anything that waits. -/
def State.homesRest (s : State) : Prop := ∀ n, n < 16 → (s.home n).recalls = [] ∧ (s.home n).held = [] ∧ (s.home n).txns = []

theorem settleHomes_rest {s : State} (h : s.homesRest) (l : List Nat) (hl : ∀ n ∈ l, n < 16) : s.settleHomes l = s := by
  induction l with
  | nil => rfl
  | cons n l ih =>
    obtain ⟨hrecalls, hheld, htxns⟩ := h n (hl n List.mem_cons_self)
    rw [State.settleHomes]
    simp only [hrecalls, hheld, htxns, List.isEmpty_nil, Bool.and_self, if_true]
    exact ih (fun m hm => hl m (List.mem_cons_of_mem _ hm))

/-- The command of a reshape ends with the migration's own step where no agent has anything that waits. -/
theorem exec_reshapeMigrate_rest {s u : State} {o : DirOutcome} (hreshaping : s.reshaping = true) (h : s.homesRest) (hu : s.migrateSet o = u)
    (hhomes : u.homes = s.homes) : exec (.reshapeMigrate o) s = .next u := by
  have hrest : u.homesRest := by
    unfold State.homesRest State.home
    rwa [hhomes]
  rw [exec_reshapeMigrate, execReshapeMigrate, if_pos hreshaping, hu,
    settleHomes_rest hrest (upTo 16) (fun _ hn => List.mem_range.1 hn)]

/-- A set without entries of the old layout is passed as it is. -/
theorem migrateWays_empty {s : State} {port set : Nat} (o : DirOutcome) (l : List Nat) (h : (s.dirCtlAt port set).oldgen = 0) :
    s.migrateWays port set o l = (s, true) := by
  induction l with
  | nil => rfl
  | cons w l ih =>
    rw [State.migrateWays, h]
    simpa using ih

theorem reshaping_congr {s u : State} (h : u.reg regDirReshape = s.reg regDirReshape) : u.reshaping = s.reshaping := by
  rw [State.reshaping, State.reshaping, State.fld, State.fld, h]

theorem dirCtlError_clean (s : State) (p set : Nat) : s.dirCtlError p set .clean = s := rfl

theorem emit_sent (s : State) (die src code realm : Nat) (ps : List Nat) : (s.emit die src code realm ps).sent = s.sent := by
  unfold State.emit State.emitRank State.enqueueRec
  extract_lets r
  split
  · rfl
  · split <;> rfl

/-- The cursor stands on the next old set, and at each eighth a record says so. -/
theorem migrateSet_passes {s : State} {g total : Nat} (hg : s.fld regDirCursor 31 0 = g) (htotal : s.fld regDirCursor 63 32 = total)
    (hlast : g + 1 < total) (hset : (s.dirCtlAt ((portList s.oldLayout.ports).getD (g % (portList s.oldLayout.ports).length) 0)
      (g / (portList s.oldLayout.ports).length)).oldgen = 0) : (s.setFld regDirCursor 31 0 (g + 1)).notes (s.migrateSet .clean) ∧
      (s.migrateSet .clean).sent = s.sent := by
  unfold State.migrateSet
  simp only [hg, htotal]
  rw [if_neg (by omega), dirCtlError_clean, migrateWays_empty _ _ hset]
  simp only [Bool.not_true, Bool.false_eq_true, if_false]
  rw [if_neg (by omega)]
  split
  · exact ⟨emit_notes _ _ _ _ _ _, emit_sent _ _ _ _ _ _⟩
  · exact ⟨notes_refl _, rfl⟩

theorem execReshapeMigrate_passes {s : State} {g total : Nat} (hreshaping : s.reshaping = true) (hrest : s.homesRest)
    (hg : s.fld regDirCursor 31 0 = g) (htotal : s.fld regDirCursor 63 32 = total) (hlast : g + 1 < total)
    (hset : (s.dirCtlAt ((portList s.oldLayout.ports).getD (g % (portList s.oldLayout.ports).length) 0)
      (g / (portList s.oldLayout.ports).length)).oldgen = 0) :
    Ends (.reshapeMigrate .clean) s (fun u => u.reshaping = true ∧ u.fld regDirCursor 31 0 = g + 1 ∧ u.dirMem = s.dirMem ∧ u.sent = s.sent ∧
      s.sameMachine u) := by
  obtain ⟨hnotes, hsent⟩ := migrateSet_passes hg htotal hlast hset
  have hbound : total < 2 ^ 32 := htotal ▸ bits_lt _ 63 32
  refine ⟨_, exec_reshapeMigrate_rest hreshaping hrest rfl (hnotes.unnoted State.homes), (reshaping_congr ?_).trans hreshaping, ?_,
    hnotes.unnoted State.dirMem, hsent, hnotes.sameMachine⟩
  · exact (hnotes.regs _ (by decide)).trans (reg_setFld_ne _ _ _ _ _ _ (by decide))
  · rw [hnotes.regs.fld (by decide), fld_setFld _ _ _ _ _ (by decide) (by decide)]
    exact Nat.mod_eq_of_lt (by omega)

/-! ### The end of a reshape (R304 step 3) -/

/-- Records are written and directory ports change their status; nothing else differs. -/
def State.notesPorts (s u : State) : Prop :=
  u.unnoted = s.unnoted ∧ ∀ off, off ∉ noteRegs → (∀ p, off ≠ regDirStatus p) → u.reg off = s.reg off

theorem State.notes.notesPorts {s u : State} (h : s.notes u) : s.notesPorts u := ⟨h.1, fun off ho _ => h.2 off ho⟩

theorem notesPorts_trans {a b c : State} (h : a.notesPorts b) (k : b.notesPorts c) : a.notesPorts c :=
  ⟨k.1.trans h.1, fun off ho hp => (k.2 off ho hp).trans (h.2 off ho hp)⟩

theorem setFld_notesPorts (s : State) (p hi lo v : Nat) : s.notesPorts (s.setFld (regDirStatus p) hi lo v) :=
  ⟨rfl, fun _ _ hp => reg_setFld_ne _ _ _ _ _ _ (hp p)⟩

theorem fencePorts_notesPorts (old new : Nat) (l : List Nat) (s : State) : s.notesPorts (s.fencePorts old new l) := by
  induction l generalizing s with
  | nil => exact (notes_refl s).notesPorts
  | cons p l ih =>
    rw [State.fencePorts]
    refine notesPorts_trans ?_ (ih _)
    split
    · exact notesPorts_trans (notesPorts_trans (setFld_notesPorts _ p 3 3 0) (setFld_notesPorts _ p 2 2 1)) (emit_notes _ _ _ _ _ _).notesPorts
    · exact (notes_refl s).notesPorts

/-- The new layout stands in DIR.LAYOUT, the reshape is over, and the pointers of the old layout and the filter are gone. -/
def State.installed (s : State) : State :=
  let w := putBits (putBits (putBits (s.reg regDirLayout) 7 0 s.newLayout.ports) 9 8 s.newLayout.span) 13 12 s.newLayout.gen
  { ((s.setReg regDirLayout w).setFld regDirReshape 0 0 0) with disp := s.disp.filter (fun p => p.gen ≠ s.oldLayout.gen), dirFilter := [] }

/-- What a port's status register is not. -/
theorem ne_regDirStatus {off : Nat} (h : off % 0x10000 ≠ 0) (p : Nat) : off ≠ regDirStatus p := by
  unfold regDirStatus
  omega

theorem endReshape_last {s : State} (h : s.reshapeQueue = []) :
    ∃ v, s.installed.notesPorts v ∧ s.endReshape = v.setFld regDirReshape 9 8 0 := by
  unfold State.endReshape
  extract_lets nl o w a b c d
  have hc : s.installed.notesPorts c := (emit_notes b _ _ _ _ _).notesPorts
  have hd : s.installed.notesPorts d := notesPorts_trans hc (fencePorts_notesPorts _ _ _ c)
  have hqueue : d.reshapeQueue = [] := (congrArg State.reshapeQueue hd.1).trans h
  refine ⟨d, hd, ?_⟩
  split
  next => rfl
  next cause rest heq => exact absurd (hqueue.symm.trans heq) (by simp)

theorem installed_layout (s : State) : s.installed.reshaping = false ∧ s.installed.oldLayout.ports = s.newLayout.ports ∧
    s.installed.oldLayout.span = s.newLayout.span ∧ s.installed.oldLayout.gen = s.newLayout.gen := by
  have hports : s.newLayout.ports < 2 ^ 8 := by
    unfold State.newLayout
    split
    · exact bits_lt _ 17 10
    · exact bits_lt _ 7 0
  have hspan : s.newLayout.span < 2 ^ 2 := by
    unfold State.newLayout
    split
    · exact bits_lt _ 19 18
    · exact bits_lt _ 9 8
  have hgen : s.newLayout.gen < 2 ^ 2 := by
    unfold State.newLayout
    split
    · exact Nat.mod_lt _ (by decide)
    · exact bits_lt _ 13 12
  have hlayout : s.installed.reg regDirLayout =
      putBits (putBits (putBits (s.reg regDirLayout) 7 0 s.newLayout.ports) 9 8 s.newLayout.span) 13 12 s.newLayout.gen :=
    (reg_setFld_ne _ _ _ _ _ _ (by decide)).trans ((reg_setReg ..).trans (if_pos rfl))
  refine ⟨?_, ?_, ?_, ?_⟩
  · have hoff : s.installed.fld regDirReshape 0 0 = 0 := fld_setFld _ _ _ _ _ (by decide) (by decide)
    rw [State.reshaping, hoff]
    rfl
  all_goals
    simp (disch := decide) only [State.oldLayout, State.fld, hlayout, bits_putBits_ne, bits_putBits]
  · exact Nat.mod_eq_of_lt hports
  · exact Nat.mod_eq_of_lt hspan
  · exact Nat.mod_eq_of_lt hgen

/-- A reshape after which none waits ends with the new layout. -/
theorem endReshape_spec {s : State} (h : s.reshapeQueue = []) : s.endReshape.reshaping = false ∧
    s.endReshape.oldLayout.ports = s.newLayout.ports ∧ s.endReshape.oldLayout.span = s.newLayout.span ∧
    s.endReshape.oldLayout.gen = s.newLayout.gen ∧ s.endReshape.dirFilter = [] ∧ s.endReshape.dirMem = s.dirMem ∧
    s.endReshape.homes = s.homes ∧ s.sameMachine s.endReshape := by
  obtain ⟨v, hv, hend⟩ := endReshape_last h
  obtain ⟨hreshaping, hports, hspan, hgen⟩ := installed_layout s
  have hlayout : (v.setFld regDirReshape 9 8 0).oldLayout = s.installed.oldLayout := by
    have hreg : (v.setFld regDirReshape 9 8 0).reg regDirLayout = s.installed.reg regDirLayout :=
      (reg_setFld_ne _ _ _ _ _ _ (by decide)).trans (hv.2 _ (by decide) (ne_regDirStatus (by decide)))
    simp only [State.oldLayout, State.fld, hreg]
  have hkeeps {α : Type} (f : State → α) : f v.unnoted = f s.installed.unnoted := congrArg f hv.1
  rw [hend, hlayout]
  refine ⟨?_, hports, hspan, hgen, hkeeps State.dirFilter, hkeeps State.dirMem, hkeeps State.homes, hkeeps State.mem, hkeeps State.threads,
    hkeeps State.cores⟩
  rw [State.reshaping, fld_setFld_ne _ _ _ _ _ _ _ _ (by decide) (by decide) (by decide)]
  exact (reshaping_congr (hv.2 _ (by decide) (ne_regDirStatus (by decide)))).trans hreshaping

theorem execReshapeMigrate_ends {s : State} (hreshaping : s.reshaping = true) (hrest : s.homesRest)
    (hlast : s.fld regDirCursor 63 32 ≤ s.fld regDirCursor 31 0) (hqueue : s.reshapeQueue = []) :
    Ends (.reshapeMigrate .clean) s (fun u => u.reshaping = false ∧ u.oldLayout.ports = s.newLayout.ports ∧
      u.oldLayout.span = s.newLayout.span ∧ u.oldLayout.gen = s.newLayout.gen ∧ u.dirFilter = [] ∧ u.dirMem = s.dirMem ∧ s.sameMachine u) := by
  obtain ⟨hends, hports, hspan, hgen, hfilter, hentries, hhomes, hsame⟩ := endReshape_spec hqueue
  have hmigrate : s.migrateSet .clean = s.endReshape := by
    unfold State.migrateSet
    exact if_pos hlast
  exact ⟨_, exec_reshapeMigrate_rest hreshaping hrest hmigrate hhomes, hends, hports, hspan, hgen, hfilter, hentries, hsame⟩

/-- Settles O45: one lemma for each event of the directory and each of its outcomes. -/
theorem directoryEvents : Obligations.DirectoryEvents := by
  intro p e s at' loc old ps g total
  refine ⟨⟨_, rfl, rfl, rfl, rfl, rfl, rfl, rfl, rfl, rfl⟩, fun h => ?_, fun htrained hunarmed hentry hfind hbad => ?_,
    execDirPortLost_free p, execDirPortLost_held p, fun h => ?_, fun hreshaping hrest hlast hset => ?_, execReshapeMigrate_ends⟩
  · rw [exec_dirScrub]
    unfold execDirScrub
    rw [if_pos h]
  · exact execDirScrub_entry rfl htrained hunarmed hentry hfind hbad
  · rw [exec_reshapeMigrate, execReshapeMigrate, if_neg (by simp [h])]
  · exact execReshapeMigrate_passes hreshaping hrest rfl rfl hlast hset

end Sys2Proof.Machine

/-! ## Commands of the platform host at their resolution

A command that the ticket engine has accepted runs when its clause is resolved (R29, R40). What it then leaves in the list of events belongs
to a later clause, so that nothing else is resolved with it. -/

namespace Sys2Proof.Machine
open Sys2Proof

/-! ### Clauses that lie behind -/

/-- Clause `w` has passed, and no event of it or of an earlier one waits. -/
def State.past (s : State) (w : Word) : Prop := w.toNat < s.clause.toNat ∧ ∀ x ∈ s.events, w.toNat < x.clause.toNat

/-- The earlier of a clause and an event's clause. -/
def earlier (m : Option Word) (e : Event) : Option Word := match m with
  | some c => if e.clause.toNat < c.toNat then some e.clause else some c
  | none => some e.clause

theorem firstClause_eq (s : State) : s.firstClause = s.events.foldl earlier none := rfl

/-- The earliest of a list of events, where `a` is the earliest before them. -/
theorem foldl_earlier (l : List Event) (a : Event) : ∃ x ∈ a :: l, l.foldl earlier (some a.clause) = some x.clause ∧
    ∀ y ∈ a :: l, x.clause.toNat ≤ y.clause.toNat := by
  induction l generalizing a with
  | nil => exact ⟨a, List.mem_cons_self, rfl, by simp⟩
  | cons b l ih =>
    have hb : earlier (some a.clause) b = if b.clause.toNat < a.clause.toNat then some b.clause else some a.clause := rfl
    rw [List.foldl_cons, hb]
    split
    next hlt =>
      obtain ⟨x, hx, hfold, hmin⟩ := ih b
      have hxb := hmin b List.mem_cons_self
      exact ⟨x, List.mem_cons_of_mem _ hx, hfold, List.forall_mem_cons.2 ⟨by omega, hmin⟩⟩
    next hge =>
      obtain ⟨x, hx, hfold, hmin⟩ := ih a
      obtain ⟨hxa, hrest⟩ := List.forall_mem_cons.1 hmin
      refine ⟨x, ?_, hfold, List.forall_mem_cons.2 ⟨hxa, List.forall_mem_cons.2 ⟨by omega, hrest⟩⟩⟩
      exact (List.mem_cons.1 hx).elim (fun h => h ▸ List.mem_cons_self) (fun h => List.mem_cons_of_mem _ (List.mem_cons_of_mem _ h))

theorem firstClause_nil {s : State} (h : s.events = []) : s.firstClause = none := by rw [firstClause_eq, h, List.foldl_nil]

theorem firstClause_spec {s : State} (h : s.events ≠ []) :
    ∃ x ∈ s.events, s.firstClause = some x.clause ∧ ∀ y ∈ s.events, x.clause.toNat ≤ y.clause.toNat := by
  rw [firstClause_eq]
  obtain ⟨a, l, hl⟩ := List.exists_cons_of_ne_nil h
  rw [hl]
  exact foldl_earlier l a

/-- Where clause `w` lies behind, resolving up to it changes nothing. -/
theorem resolveUpTo_past {s : State} {w : Word} (h : s.past w) (k : Nat) : s.resolveUpTo w k = s := by
  cases k with
  | zero => rfl
  | succ k =>
    rw [State.resolveUpTo]
    by_cases hnil : s.events = []
    · rw [firstClause_nil hnil]
    · obtain ⟨x, hx, hfirst, -⟩ := firstClause_spec hnil
      have hlate := h.2 x hx
      rw [hfirst]
      exact if_neg (by omega)

/-! ### What keeps clauses behind: records, messages, completions -/

theorem past_event {s : State} {w : Word} (h : s.past w) {e : Event} (hstamp : e.stamp = s.clause) (hdue : e.due = none) :
    ({ s with events := s.events ++ [e] } : State).past w := by
  refine ⟨h.1, List.forall_mem_append.2 ⟨h.2, List.forall_mem_singleton.2 ?_⟩⟩
  rw [Event.clause, hdue, hstamp]
  exact h.1

theorem past_ite {c : Prop} [Decidable c] {s t : State} {w : Word} (hs : s.past w) (ht : t.past w) : (if c then s else t).past w := by
  split
  · exact hs
  · exact ht

section
variable {s : State} {w : Word} (h : s.past w)
include h

theorem enqueueRec_past (q : QRec) : (s.enqueueRec q).past w := past_ite h h

theorem emitRank_past (rank die src code realm : Nat) (ps : List Nat) : (s.emitRank rank die src code realm ps).past w :=
  past_ite (past_event h rfl rfl) (enqueueRec_past h _)

theorem emit_past (die src code realm : Nat) (ps : List Nat) : (s.emit die src code realm ps).past w := emitRank_past h _ _ _ _ _ _

theorem emitOrigin_past (origin : BitVec 16) (code realm : Nat) (ps : List Nat) : (s.emitOrigin origin code realm ps).past w :=
  past_ite (past_event h rfl rfl) (enqueueRec_past h _)

theorem emitStamped_past (stamp : Word) (die src code realm : Nat) (ps : List Nat) : (s.emitStamped stamp die src code realm ps).past w :=
  enqueueRec_past h _

theorem localEvent_past (kind : EventKind) (rank die src : Nat) : (s.localEvent kind rank die src).past w := past_event h rfl rfl

theorem enterMode_past (new trans : Nat) : (s.enterMode new trans).past w :=
  emit_past (s := (s.setReg regGlbMode _).setReg regGlbModetime s.clause) h _ _ _ _ _

theorem sendAll_past (ty : MsgType) (b : Body) (l : List Nat) : (s.sendAll ty b l).past w := by
  rw [sendAll_eq]
  exact h

theorem queueOn_past (k : Pkt) (l : List Nat) : (s.queueOn k l).past w := by
  induction l generalizing s with
  | nil => exact h
  | cons n l ih => exact ih (s := s.modLink n _) h

theorem flood_past (m : Msg) : (s.flood m).past w := by
  unfold State.flood State.floodPkt
  extract_lets src k outs image t
  exact queueOn_past (s := t) h _ _

theorem pushCompletion_past (x : Completion) : (s.pushCompletion x).past w := by
  unfold State.pushCompletion
  refine past_ite ?_ h
  have hlost := emit_past h 12 84 0xB004 0 [x.cmd.cmdid.toNat, x.status, x.cmd.ring]
  exact past_ite hlost hlost

theorem complete_past (c : Command) (status : Nat) (r0 r1 : Word) : (s.complete c status r0 r1).past w := by
  unfold State.complete
  refine past_ite ?_ (past_ite h h)
  extract_lets t u
  have ht : t.past w := by
    simp only [t]
    split
    · exact emitOrigin_past h _ _ _ _
    · exact h
  exact pushCompletion_past (s := u) ht _

theorem refuseState_past (c : Command) : (s.refuseState c).past w := by
  unfold State.refuseState
  extract_lets ps
  refine complete_past ?_ _ _ _ _
  split
  · exact emitStamped_past h _ _ _ _ _ _
  · exact emit_past h _ _ _ _ _

end

/-! ### A command alone in its clause -/

theorem resolves_iff (s : State) (c : Command) : s.resolves c = true ↔
    ∃ e, s.events.find? (fun e => decide (e.kind = .command c)) = some e ∧ e.recs = [] ∧ e.clause.toNat + s.horizon ≤ s.clause.toNat ∧
      e.clause.toNat < s.clause.toNat ∧ s.events.filter (fun x => decide (x.clause.toNat ≤ e.clause.toNat)) = [e] := by
  unfold State.resolves
  split
  next e he => simp [he, and_assoc]
  next he => simp [he]

/-- The state with other events that wait, and another clause as the earliest open one. -/
def State.reopened (s : State) (l : List Event) (n : Word) : State := { s with events := l, unresolved := n }

/-- The events of the clause are taken from those that wait, and the next clause is open. -/
def State.clauseClosed (s : State) (w : Word) : State := s.reopened (s.events.filter (fun e => decide (e.clause ≠ w))) (w + 1)

section
variable {s : State} {e : Event} (hmem : e ∈ s.events) (hpassed : e.clause.toNat < s.clause.toNat)
  (halone : s.events.filter (fun x => decide (x.clause.toNat ≤ e.clause.toNat)) = [e])
include hmem halone

/-- No event is earlier than the one alone in its clause. -/
theorem firstClause_alone : s.firstClause = some e.clause := by
  obtain ⟨x, hx, hfirst, hmin⟩ := firstClause_spec (List.ne_nil_of_mem hmem)
  have hxe : x ∈ s.events.filter (fun x => decide (x.clause.toNat ≤ e.clause.toNat)) :=
    List.mem_filter.2 ⟨hx, decide_eq_true (hmin e hmem)⟩
  rw [halone, List.mem_singleton] at hxe
  rw [hfirst, hxe]

omit hmem in
theorem sameClause_alone : s.events.filter (fun x => decide (x.clause = e.clause)) = [e] := by
  have hsub : s.events.filter (fun x => decide (x.clause = e.clause)) =
      (s.events.filter (fun x => decide (x.clause.toNat ≤ e.clause.toNat))).filter (fun x => decide (x.clause = e.clause)) := by
    rw [List.filter_filter]
    refine List.filter_congr (fun x _ => ?_)
    by_cases hx : x.clause = e.clause <;> simp [hx]
  rw [hsub, halone]
  simp

omit hmem in
include hpassed in
theorem clauseClosed_past : (s.clauseClosed e.clause).past e.clause := by
  refine ⟨hpassed, fun x hx => ?_⟩
  obtain ⟨hx, hne⟩ := List.mem_filter.1 hx
  by_contra hle
  have hxe : x ∈ s.events.filter (fun x => decide (x.clause.toNat ≤ e.clause.toNat)) :=
    List.mem_filter.2 ⟨hx, decide_eq_true (by omega)⟩
  rw [halone, List.mem_singleton] at hxe
  simp [hxe] at hne

/-- The clause of a command that this package judges: the command runs in the state without it. -/
theorem resolveClause_alone {c : Command} (hkind : e.kind = .command c) (hrecs : e.recs = []) (hhost : s.servesHost = true)
    (hdue : e.clause.toNat + s.horizon ≤ s.clause.toNat) : s.resolveClause = (s.clauseClosed e.clause).resolveCommand c := by
  have hacts : (s.clauseClosed e.clause).servesHost = true := hhost
  unfold State.resolveClause
  rw [firstClause_alone hmem halone]
  simp only
  rw [if_neg (by omega), sameClause_alone halone]
  change (s.clauseClosed e.clause).resolveAll false [e] = _
  rw [State.resolveAll, hrecs, State.enqueueAll, State.actOn, hkind]
  simp [hacts, State.resolveAll]

end

/-- A command that the package judges for the image or for itself, legal in the mode judged. -/
theorem resolveCommand_legal {s : State} {c : Command} (htarget : c.target = 0xff ∨ c.target.toNat = s.pkgNum)
    (hlegal : s.legalIn c (if c.target = 0xff then s.imageJudge else s.ownJudge) = true) :
    s.resolveCommand c = s.runCommand c (!decide (c.target = 0xff)) := by
  have hhere : ¬((!decide (c.target = 0xff)) = true ∧ c.target.toNat ≠ s.pkgNum ∧ c.opcode.toNat ≠ 0x13 ∧ c.opcode.toNat ≠ 0x01 ∧
      c.opcode.toNat ≠ 0x02) := by
    rintro ⟨hone, hother, -⟩
    exact htarget.elim (fun h => by simp [h] at hone) hother
  unfold State.resolveCommand
  extract_lets any op
  rw [if_neg hhere, if_pos (by simpa [any] using hlegal)]

/-- The parameter by which a row of the catalogue is chosen has the row's value. -/
def selects (sel : Option (Nat × Nat)) (c : Command) : Prop := ∀ x, sel = some x → bits (cmdWord c 0) x.1 0 = x.2

/-- A command that comes to its resolution runs, in a state in which its clause lies behind; and where its own events leave that clause
behind, nothing else happens. -/
theorem hostCommand_runs {s : State} {c : Command} {op : Nat} {sel : Option (Nat × Nat)} (hjudges : s.judges c op) (hsel : selects sel c)
    {P : State → Prop} (hrun : ∀ l n w, (s.reopened l n).past w → ((s.reopened l n).runCommand c (!decide (c.target = 0xff))).past w ∧
      P ((s.reopened l n).runCommand c (!decide (c.target = 0xff)))) : P (hostCommand c op sel s) := by
  obtain ⟨hresolves, hop, hmode, hhost, -, htarget, hlegal⟩ := hjudges
  obtain ⟨e, hfind, hrecs, hdue, hpassed, halone⟩ := (resolves_iff s c).1 hresolves
  have hmem : e ∈ s.events := List.mem_of_find?_eq_some hfind
  have hkind : e.kind = .command c := by simpa using List.find?_some hfind
  obtain ⟨hpast, hP⟩ : ((s.clauseClosed e.clause).runCommand c (!decide (c.target = 0xff))).past e.clause ∧ _ :=
    hrun _ _ e.clause (clauseClosed_past hpassed halone)
  have hrow : hostCommand c op sel s = s.resolveUpTo e.clause s.events.length := by
    unfold hostCommand
    extract_lets selOk
    have hselOk : selOk = true := by
      cases sel with
      | none => rfl
      | some x => exact decide_eq_true (hsel x rfl)
    rw [if_neg (by simp [hop, hselOk, hmode]), hfind]
  have hlength : s.events.length = s.events.length - 1 + 1 := (Nat.sub_add_cancel (List.length_pos_of_mem hmem)).symm
  rw [hrow, hlength, State.resolveUpTo, firstClause_alone hmem halone]
  simp only
  rw [if_pos ⟨Nat.le_refl _, hdue⟩, resolveClause_alone hmem halone hkind hrecs hhost hdue,
    resolveCommand_legal (s := s.clauseClosed e.clause) htarget hlegal, resolveUpTo_past hpast]
  exact hP

end Sys2Proof.Machine

/-! ## Commands of the image on its only member

The commands by which the platform host forms, holds and leaves the image, and reshapes or initialises its memory, where this package is the
only member or not yet one (R302, R343, R347, R348, R566 to R573, R576, R577). -/

namespace Sys2Proof.Machine
open Sys2Proof

/-! ### Final completions (R497, R500) -/

theorem enqueueRec_image (s : State) (q : QRec) : (s.enqueueRec q).image = s.image := by
  unfold State.enqueueRec
  split <;> rfl

theorem emit_image (s : State) (die src code realm : Nat) (ps : List Nat) : (s.emit die src code realm ps).image = s.image := by
  unfold State.emit State.emitRank
  extract_lets r
  split
  · rfl
  · exact enqueueRec_image _ _

theorem emitOrigin_image (s : State) (origin : BitVec 16) (code realm : Nat) (ps : List Nat) :
    (s.emitOrigin origin code realm ps).image = s.image := by
  unfold State.emitOrigin
  extract_lets r
  split
  · rfl
  · exact enqueueRec_image _ _

theorem State.notes.servesHost {s u : State} (h : s.notes u) : u.servesHost = s.servesHost := by
  rw [State.servesHost, State.servesHost, h.regs.joined, h.regs.isManager, h.takeover, h.regs.fld (by decide)]

/-- The final completion of the command waits for its ring. -/
def State.ended (s : State) (c : Command) (status : Nat) (r0 r1 : Word) : State :=
  { s with longOps := if c.oper = 0 then s.longOps else Tbl.set s.longOps c.oper (c, true),
           completions := s.completions ++ [{ cmd := c, status := status, r0 := r0, r1 := r1 }] }

theorem ended_notes {s t : State} (h : s.notes t) (c : Command) (status : Nat) (r0 r1 : Word) :
    (s.ended c status r0 r1).notes (t.ended c status r0 r1) :=
  ⟨congrArg (fun y : State => y.ended c status r0 r1) h.1, h.2⟩

/-- The long command has its number, and its RUNNING completion waits for its ring (R508). -/
def State.began (s : State) (c : Command) : State :=
  { s with opNext := if s.opNext = 255 then 1 else s.opNext + 1,
           longOps := Tbl.set s.longOps s.opNext ({ c with oper := s.opNext }, false),
           completions := s.completions ++ [{ cmd := { c with oper := s.opNext }, status := stRunning, final := false }] }

/-- A command that fails in its state: its completion says so, and nothing of the image differs. -/
def State.refuses (s u : State) (c : Command) : Prop :=
  s.completes u c stState 0 0 ∧ u.mode = s.mode ∧ u.image = s.image ∧ u.drain = s.drain ∧ s.sameMachine u

section
variable {s : State} {c : Command} (hhost : s.servesHost = true) (hgen : c.gen = s.epf.gen)
include hhost hgen

/-- On the package that serves the host a final completion leaves, beside it, at most the record of a ticketed command. -/
theorem complete_ended (status : Nat) (r0 r1 : Word) :
    ∃ t, s.notes t ∧ t.image = s.image ∧ s.complete c status r0 r1 = t.ended c status r0 r1 := by
  unfold State.complete
  rw [if_pos hhost]
  extract_lets t u
  have ht : s.notes t ∧ t.image = s.image := by
    simp only [t]
    split
    · exact ⟨emitOrigin_notes _ _ _ _ _, emitOrigin_image _ _ _ _ _⟩
    · exact ⟨notes_refl s, rfl⟩
  obtain ⟨hnotes, himage⟩ := ht
  refine ⟨t, hnotes, himage, ?_⟩
  have hkept : ¬ c.gen ≠ u.epf.gen := not_not_intro (hgen.trans (congrArg Endpoint.gen hnotes.epf).symm)
  unfold State.pushCompletion
  rw [if_neg hkept]
  rfl

theorem complete_notes (status : Nat) (r0 r1 : Word) : (s.ended c status r0 r1).notes (s.complete c status r0 r1) := by
  obtain ⟨t, ht, -, heq⟩ := complete_ended hhost hgen status r0 r1
  exact heq ▸ ended_notes ht c status r0 r1

theorem complete_image (status : Nat) (r0 r1 : Word) : (s.complete c status r0 r1).image = s.image := by
  obtain ⟨t, -, ht, heq⟩ := complete_ended hhost hgen status r0 r1
  rw [heq]
  exact ht

/-- What a final completion leaves. -/
theorem complete_keeps (status : Nat) (r0 r1 : Word) : let u := s.complete c status r0 r1
    s.keepsRegs u ∧ u.mem = s.mem ∧ u.written = s.written ∧ u.pot = s.pot ∧ u.freeCount = s.freeCount ∧
      u.completions = s.completions ++ [{ cmd := c, status := status, r0 := r0, r1 := r1 }] := by
  have hn := complete_notes hhost hgen status r0 r1
  exact ⟨hn.regs, hn.mem, hn.unnoted State.written, hn.unnoted State.pot, hn.unnoted State.freeCount, hn.unnoted State.completions⟩

theorem ok_completes : s.completes (s.ok c) c stOk 0 0 ∧ (s.ok c).image = s.image ∧ (s.ok c).mode = s.mode ∧ s.sameMachine (s.ok c) := by
  have hn := complete_notes hhost hgen stOk 0 0
  exact ⟨hn.unnoted State.completions, complete_image hhost hgen stOk 0 0, hn.regs.mode, hn.sameMachine⟩

/-- A STATE completion after records alone. -/
theorem complete_refuses {t : State} (ht : s.notes t) (himage : t.image = s.image) : s.refuses (t.complete c stState 0 0) c := by
  have hserves : t.servesHost = true := ht.servesHost.trans hhost
  have hcurrent : c.gen = t.epf.gen := hgen.trans (congrArg Endpoint.gen ht.epf).symm
  have hn := notes_trans (ended_notes ht c stState 0 0) (complete_notes hserves hcurrent stState 0 0)
  exact ⟨hn.unnoted State.completions, hn.regs.mode, (complete_image hserves hcurrent stState 0 0).trans himage, hn.unnoted State.drain,
    hn.sameMachine⟩

theorem refuseState_refuses : s.refuses (s.refuseState c) c := by
  unfold State.refuseState
  extract_lets ps
  split
  · exact complete_refuses hhost hgen (enqueueRec_notes _ _) (enqueueRec_image _ _)
  · exact complete_refuses hhost hgen (emit_notes _ _ _ _ _ _) (emit_image _ _ _ _ _ _)

theorem startLong_began : s.startLong c = (s.began c, { c with oper := s.opNext }) := by
  unfold State.startLong
  rw [if_neg (by simp [hhost])]
  extract_lets d t
  have hkept : ¬ d.gen ≠ t.epf.gen := not_not_intro hgen
  rw [State.pushCompletion, if_neg hkept]
  rfl

end

/-! ### QUIESCE: its cut and its release (R348, R567, R569) -/

/-- The clause that a QUIESCECTL from now names. -/
def State.soon (s : State) : Word := s.clause + BitVec.ofNat 64 (s.fld regGlbQuiescectl 7 0)

/-- The command runs on while the image is brought to QUIESCE, whose cut clause is named. -/
def State.cuts (s u : State) (c : Command) (why : Purpose) : Prop :=
  s.runsOn u c ∧ u.image.cutAt = some s.soon ∧ u.image.cutReported = false ∧
    u.image.quiesce = some { purpose := why, cmd := some { c with oper := s.opNext }, cut := s.soon, waiting := [s.pkgNum] } ∧
    u.mode = s.mode ∧ s.sameMachine u

theorem beginQuiesce_past {s : State} {w : Word} (h : s.past w) (why : Purpose) (cmd : Option Command) : (s.beginQuiesce why cmd).past w := by
  unfold State.beginQuiesce
  extract_lets q all img t
  exact sendAll_past (s := t) h _ _ _

theorem began_cuts {s : State} (c : Command) {why : Purpose} (hothers : s.otherMembers = []) (hwhy : ∀ p, why ≠ .leave p) :
    s.cuts ((s.began c).beginQuiesce why (some { c with oper := s.opNext })) c why := by
  have hn := beginQuiesce_notes (s.began c) why (some { c with oper := s.opNext })
  have hwaiting : ((s.began c).pkgNum :: (s.began c).otherMembers).filter (fun p => decide (why ≠ .leave p)) = [s.pkgNum] := by
    have hbegan : (s.began c).otherMembers = [] := hothers
    rw [hbegan]
    simp [hwhy]
    rfl
  rw [hwaiting] at hn
  exact ⟨⟨hn.unnoted State.completions, hn.unnoted State.opNext⟩, hn.cutAt, hn.unnoted (fun x : State => x.image.cutReported), hn.quiesce,
    hn.regs.mode, hn.sameMachine⟩

theorem beginRelease_notes (s : State) (cmd : Option Command) :
    ∃ q, ({ s with image := { s.image with releaseAt := some s.soon, quiesce := q } } : State).notes (s.beginRelease cmd) := by
  unfold State.beginRelease
  extract_lets img v t
  have ht : ∃ q, t = { s with image := { s.image with releaseAt := some s.soon, quiesce := q } } := by
    simp only [t]
    split <;> exact ⟨_, rfl⟩
  obtain ⟨q, hq⟩ := ht
  exact ⟨q, hq ▸ sendAll_notes _ _ _ _⟩

theorem beginRelease_past {s : State} {w : Word} (h : s.past w) (cmd : Option Command) : (s.beginRelease cmd).past w := by
  unfold State.beginRelease
  extract_lets img v t
  have ht : t.past w := by
    simp only [t]
    split <;> exact h
  exact sendAll_past ht _ _ _

/-- The command runs on until the release clause that is named. -/
theorem began_releases {s : State} (c : Command) (cmd : Option Command) : let u := (s.began c).beginRelease cmd
    s.runsOn u c ∧ u.image.releaseAt = some s.soon ∧ u.mode = s.mode ∧ s.sameMachine u := by
  obtain ⟨q, hn⟩ := beginRelease_notes (s.began c) cmd
  exact ⟨⟨hn.unnoted State.completions, hn.unnoted State.opNext⟩, hn.unnoted (fun x : State => x.image.releaseAt), hn.regs.mode,
    hn.sameMachine⟩

/-! ### Modes entered (R343, R558, R570) -/

/-- What neither records nor messages write is a function of the rest of the state. -/
theorem unnoted_field {α : Type} {s u : State} (h : u.unnoted = s.unnoted) (f : State → α) : f u.unnoted = f s.unnoted := congrArg f h

theorem enterMode_unnoted (s : State) (new trans : Nat) : (s.enterMode new trans).unnoted = s.unnoted := (enterMode_notes s new trans).1

/-- What keeps the two registers of mode entry. -/
theorem State.entersMode.keeps {s t u : State} {new trans : Nat} (h : s.entersMode t new trans) (hmode : u.reg regGlbMode = t.reg regGlbMode)
    (htime : u.reg regGlbModetime = t.reg regGlbModetime) : s.entersMode u new trans := by
  obtain ⟨h1, h2, h3, h4⟩ := h
  exact ⟨(mode_congr hmode).trans h1, (congrArg (bits · 11 8) hmode).trans h2, (congrArg (bits · 23 16) hmode).trans h3, htime.trans h4⟩

/-- A field of GLB.MODE that mode entry does not write. -/
theorem State.entersMode.setFld {s t : State} {new trans : Nat} (h : s.entersMode t new trans) {hi lo : Nat} (v : Nat) (hl : lo ≤ hi)
    (hout : 3 < lo ∧ hi < 8 ∨ 11 < lo ∧ hi < 16) : s.entersMode (t.setFld regGlbMode hi lo v) new trans := by
  obtain ⟨hmode, hprev, htrans, htime⟩ := h
  refine ⟨(fld_setFld_ne _ _ _ _ _ _ _ _ (.inr (by omega)) hl (by decide)).trans hmode,
    (fld_setFld_ne _ _ _ _ _ _ _ _ (.inr (by omega)) hl (by decide)).trans hprev,
    (fld_setFld_ne _ _ _ _ _ _ _ _ (.inr (by omega)) hl (by decide)).trans htrans, (reg_setFld_ne _ _ _ _ _ _ (by decide)).trans htime⟩

/-- Mode entry from a state of the same mode and clause. -/
theorem State.entersMode.from {s t u : State} {new trans : Nat} (h : t.entersMode u new trans) (hmode : t.mode = s.mode)
    (hclause : t.clause = s.clause) : s.entersMode u new trans := by
  rwa [State.entersMode, hmode, hclause] at h

/-- JOIN is entered, for the first time or from QUIESCE. -/
def State.inJoin (s : State) (re : Bool) : State :=
  if re then ((s.enterMode modeJoin 13).setFld regGlbMode 12 12 0).setFld regGlbMode 7 4 modeJoin else s.enterMode modeJoin 7

theorem inJoin_unnoted (s : State) (re : Bool) : (s.inJoin re).unnoted = s.unnoted := by
  cases re
  · exact enterMode_unnoted s modeJoin 7
  · exact enterMode_unnoted s modeJoin 13

theorem inJoin_past {s : State} {w : Word} (h : s.past w) (re : Bool) : (s.inJoin re).past w := by
  cases re
  · exact enterMode_past h modeJoin 7
  · exact enterMode_past h modeJoin 13

theorem inJoin_entersMode (s : State) (re : Bool) : s.entersMode (s.inJoin re) modeJoin (if re then 13 else 7) := by
  cases re
  · exact enterMode_entersMode s modeJoin 7 (by decide) (by decide)
  · exact ((enterMode_entersMode s modeJoin 13 (by decide) (by decide)).setFld 0 (by decide) (by decide)).setFld modeJoin (by decide) (by decide)

/-- The manager gathers identities for the join `j`. -/
def State.gathers (s : State) (j : JoinJob) : State :=
  { s with image := { s.image with idents := [s.ownIdent], lastIdent := s.clause, join := some j } }

section
variable {s : State} {c : Command} (hhost : s.servesHost = true) (hgen : c.gen = s.epf.gen) (regime minPkg : Nat)
  (table : List (Word × Nat)) (re : Bool)
include hhost hgen

theorem beginJoin_eq : ∃ b, s.beginJoin c regime minPkg table re = (((s.began c).inJoin re).gathers
    { cmd := { c with oper := s.opNext }, regime := regime, minPkg := minPkg, table := table, re := re }).floodMgmt .discover b := by
  unfold State.beginJoin
  rw [startLong_began hhost hgen]
  exact ⟨_, rfl⟩

theorem beginJoin_past {w : Word} (h : s.past w) : (s.beginJoin c regime minPkg table re).past w := by
  obtain ⟨b, hb⟩ := beginJoin_eq hhost hgen regime minPkg table re
  rw [hb]
  exact flood_past (s := ((s.began c).inJoin re).gathers _) (inJoin_past (s := s.began c) h re) _

/-- A JOIN or re-JOIN runs on in mode JOIN, its discovery begun. -/
theorem beginJoin_joins : let u := s.beginJoin c regime minPkg table re
    s.runsOn u c ∧ s.entersMode u modeJoin (if re then 13 else 7) ∧ (re = true → u.imageMode = modeJoin) ∧ u.image.lastIdent = s.clause ∧
      u.image.join = some { cmd := { c with oper := s.opNext }, regime := regime, minPkg := minPkg, table := table, re := re } ∧
      s.sameMachine u := by
  obtain ⟨b, hb⟩ := beginJoin_eq hhost hgen regime minPkg table re
  rw [hb]
  extract_lets u
  have hn := floodMgmt_notes (((s.began c).inJoin re).gathers
    { cmd := { c with oper := s.opNext }, regime := regime, minPkg := minPkg, table := table, re := re }) .discover b
  have hk := inJoin_unnoted (s.began c) re
  refine ⟨⟨?_, ?_⟩, State.entersMode.keeps (inJoin_entersMode (s.began c) re) (hn.regs _ (by decide)) (hn.regs _ (by decide)), ?_, ?_, ?_, ?_⟩
  · exact (hn.unnoted State.completions).trans (unnoted_field hk State.completions)
  · exact (hn.unnoted State.opNext).trans (unnoted_field hk State.opNext)
  · rintro rfl
    exact hn.regs.imageMode.trans (fld_setFld _ _ _ _ _ (by decide) (by decide))
  · exact (hn.unnoted (fun x : State => x.image.lastIdent)).trans (unnoted_field hk State.clause)
  · exact hn.unnoted (fun x : State => x.image.join)
  · exact sameMachine_trans ⟨unnoted_field hk State.mem, unnoted_field hk State.threads, unnoted_field hk State.cores⟩ hn.sameMachine

end

/-! ### A drain begins (R571, R573) -/

/-- Caches are told to flush: cores, dies and the control registers of the L3s may differ, nothing else. -/
def State.tellsFlush (s u : State) : Prop :=
  (∃ cs ds rs, u = { s with cores := cs, dies := ds, regs := rs }) ∧ ∀ off, (∀ d, off ≠ regL3ctl d) → u.reg off = s.reg off

theorem tellsFlush_refl (s : State) : s.tellsFlush s := ⟨⟨s.cores, s.dies, s.regs, rfl⟩, fun _ _ => rfl⟩

theorem tellsFlush_trans {a b c : State} (h : a.tellsFlush b) (k : b.tellsFlush c) : a.tellsFlush c := by
  obtain ⟨⟨_, _, _, rfl⟩, hregs⟩ := h
  obtain ⟨⟨cs, ds, rs, rfl⟩, kregs⟩ := k
  exact ⟨⟨cs, ds, rs, rfl⟩, fun off ho => (kregs off ho).trans (hregs off ho)⟩

theorem disableL2_tellsFlush (s : State) (c : Nat) : s.tellsFlush (s.disableL2 c) := by
  unfold State.disableL2
  split
  · exact tellsFlush_refl s
  · exact ⟨⟨_, s.dies, s.regs, rfl⟩, fun _ _ => rfl⟩

theorem disableL3_tellsFlush (s : State) (d : Nat) : s.tellsFlush (s.disableL3 d) := by
  unfold State.disableL3
  split
  · exact tellsFlush_refl s
  · exact ⟨⟨s.cores, _, _, rfl⟩, fun off ho => reg_setFld_ne s (regL3ctl d) 0 0 1 off (ho d)⟩

theorem flushCores_tellsFlush (l : List Nat) (s : State) : s.tellsFlush (s.flushCores l) := by
  induction l generalizing s with
  | nil => exact tellsFlush_refl s
  | cons c l ih =>
    rw [State.flushCores]
    refine tellsFlush_trans ?_ (ih _)
    split
    · exact disableL2_tellsFlush s c
    · exact tellsFlush_refl s

theorem flushDies_tellsFlush (l : List Nat) (s : State) : s.tellsFlush (s.flushDies l) := by
  induction l generalizing s with
  | nil => exact tellsFlush_refl s
  | cons d l ih => exact tellsFlush_trans (disableL3_tellsFlush s d) (ih _)

theorem flushAll_tellsFlush (s : State) : s.tellsFlush s.flushAll := tellsFlush_trans (flushCores_tellsFlush _ s) (flushDies_tellsFlush _ _)

theorem ne_regL3ctl {off : Nat} (h : off < 0x1010000) (d : Nat) : off ≠ regL3ctl d := by
  unfold regL3ctl
  omega

theorem enterMode_imageMode (s : State) (new trans : Nat) : (s.enterMode new trans).imageMode = s.imageMode := by
  rw [State.imageMode, (enterMode_notes s new trans).regs.fld (by decide), State.fld, reg_setReg, if_neg (by decide), reg_setReg, if_pos rfl]
  simp (disch := decide) only [bits_putBits_ne]
  rfl

/-- The package drains as a whole: it is in DRAIN, its flush has begun. -/
theorem beginDrain_spec (s : State) (c : Command) : let u := s.beginDrain c false true
    s.entersMode u modeDrain 15 ∧ u.imageMode = s.imageMode ∧ u.mem = s.mem ∧ u.drain = some { cmd := c, flushing := true } ∧
      u.completions = s.completions := by
  have hmode := enterMode_entersMode s modeDrain 15 (by decide) (by decide)
  have himage := enterMode_imageMode s modeDrain 15
  have hk := enterMode_unnoted s modeDrain 15
  obtain ⟨⟨cs, ds, rs, hu⟩, hregs⟩ := flushAll_tellsFlush { s.enterMode modeDrain 15 with drain := some { cmd := c, flushing := true } }
  have hword := hregs regGlbMode (ne_regL3ctl (by decide))
  have htime := hregs regGlbModetime (ne_regL3ctl (by decide))
  refine ⟨hmode.keeps hword htime, (congrArg (bits · 7 4) hword).trans himage, ?_, ?_, ?_⟩
  · exact (congrArg State.mem hu).trans (unnoted_field hk State.mem)
  · exact congrArg State.drain hu
  · exact (congrArg State.completions hu).trans (unnoted_field hk State.completions)

theorem beginDrain_past {s : State} {w : Word} (h : s.past w) (c : Command) : (s.beginDrain c false true).past w := by
  obtain ⟨⟨cs, ds, rs, hu⟩, -⟩ := flushAll_tellsFlush { s.enterMode modeDrain 15 with drain := some { cmd := c, flushing := true } }
  have hentered : (s.enterMode modeDrain 15).past w := enterMode_past h modeDrain 15
  change (State.flushAll { s.enterMode modeDrain 15 with drain := some { cmd := c, flushing := true } }).past w
  rw [hu]
  exact hentered

/-! ### A drain ends (R573, R559 transition 17) -/

theorem enqueueAll_notes (e : Event) (l : List Rec) (s : State) : s.notes (s.enqueueAll e l) := by
  induction l generalizing s with
  | nil => exact notes_refl s
  | cons r l ih => exact notes_trans (enqueueRec_notes s _) (ih _)

theorem flushEvents_notes (l : List Event) (s : State) : s.notes (s.flushEvents l) := by
  induction l generalizing s with
  | nil => exact notes_refl s
  | cons e l ih => exact notes_trans (enqueueAll_notes e e.recs s) (ih _)

/-- Outside the TLG window nothing is kept over a reset. -/
theorem tlgRegs_get (t : Tbl Word) (w : Word) {off : Nat} (h : ¬(0x200000 ≤ off ∧ off < 0x300000)) : Tbl.get w (tlgRegs t) off = w := by
  induction t with
  | nil => rfl
  | cons p t ih =>
    by_cases hp : 0x200000 ≤ p.1 ∧ p.1 < 0x300000
    · have hne : p.1 ≠ off := fun e => h (e ▸ hp)
      obtain ⟨k, v⟩ := p
      simpa [tlgRegs, hp, Tbl.get, hne] using ih
    · simpa [tlgRegs, hp] using ih

/-- The package as a restart that keeps the trip log leaves it, its record apart. -/
def State.restarted (s : State) (old new trans : Nat) : State :=
  ((s.wiped true).setReg regGlbMode (modeWord old new trans)).setReg regGlbModetime s.clause

theorem restart_restarted (s : State) (new trans : Nat) :
    ∃ f, s.notes f ∧ (f.restarted s.mode new trans).notes (s.restart new trans true) := by
  unfold State.restart
  extract_lets w old f t
  refine ⟨f, flushEvents_notes s.events s, notes_ite (emit_notes _ _ _ _ _ _) (notes_refl _)⟩

theorem toStandby_spec (s : State) (trans : Nat) (ht : trans < 256) : let u := s.toStandby trans true
    u.mode = modeStandby ∧ u.fld regGlbMode 11 8 = s.mode ∧ u.fld regGlbMode 23 16 = trans ∧ u.mem = [] ∧ u.threads = [] ∧
      u.joined = false ∧ u.clause = s.clause ∧ u.selfRefresh = s.selfRefresh := by
  obtain ⟨f, hf, hn⟩ := restart_restarted s modeStandby trans
  have hmode : s.mode < 16 := bits_lt _ 3 0
  have hword : (s.toStandby trans true).reg regGlbMode = modeWord s.mode modeStandby trans := by
    refine (hn.regs _ (by decide)).trans ?_
    rw [State.restarted, reg_setReg, if_neg (by decide), reg_setReg, if_pos rfl]
  have himage : (s.toStandby trans true).reg regTrlImage = regInit regTrlImage := by
    refine (hn.regs _ (by decide)).trans ?_
    rw [State.restarted, reg_setReg, if_neg (by decide), reg_setReg, if_neg (by decide)]
    exact tlgRegs_get _ _ (by decide)
  refine ⟨?_, ?_, ?_, hn.mem, hn.unnoted State.threads, ?_, hn.clause.trans hf.clause,
    (hn.unnoted State.selfRefresh).trans (hf.unnoted State.selfRefresh)⟩
  · rw [State.mode, State.fld, hword]
    simp only [bits, natBits, modeWord, modeStandby, BitVec.toNat_ofNat, Nat.shiftRight_zero]
    omega
  · rw [State.fld, hword]
    simp only [bits, natBits, modeWord, modeStandby, BitVec.toNat_ofNat, Nat.shiftRight_eq_div_pow]
    omega
  · rw [State.fld, hword]
    simp only [bits, natBits, modeWord, modeStandby, BitVec.toNat_ofNat, Nat.shiftRight_eq_div_pow]
    omega
  · rw [State.joined, State.fld, himage]
    decide +kernel

theorem execDrainDone_unflushed {s : State} (hflushed : s.flushed = false) : exec .drainDone s = .next s := by
  rw [exec_drainDone]
  unfold execDrainDone
  split
  · rfl
  · rw [if_pos (.inr (.inr (.inl (by simp [hflushed]))))]

section
variable {s : State} {d : Drain} (hdrain : s.drain = some d) (hmode : s.mode = modeDrain) (hflushing : d.flushing = true)
  (hleaving : d.leaving = false) (hcompletions : s.completions = []) (hhost : s.servesHost = true)
include hdrain hmode hflushing hleaving hcompletions hhost

theorem execDrainDone_ends (hflushed : s.flushed = true) : Ends .drainDone s (fun u => u.mode = modeStandby ∧
    u.fld regGlbMode 11 8 = modeDrain ∧ u.fld regGlbMode 23 16 = 17 ∧ u.mem = [] ∧ u.threads = [] ∧ u.sent = [] ∧ u.joined = false ∧
      u.clause = s.clause ∧ ∀ n, n ∈ u.selfRefresh ↔ n < 16 ∧ s.fld (regDmcStatus n) 0 0 = 1 ∧ s.fld (regDmcStatus n) 1 1 = 0) := by
  rw [Ends, exec_drainDone]
  unfold execDrainDone
  split
  next hnone => exact absurd (hnone.symm.trans hdrain) (by simp)
  next d' hsome =>
  obtain rfl : d' = d := Option.some.inj (hsome.symm.trans hdrain)
  rw [if_neg (by simp [hmode, hflushing, hflushed, hleaving, hcompletions])]
  extract_lets chans t done
  have hdone : done = [] := if_neg (by simp [show t.servesHost = true from hhost])
  obtain ⟨hstandby, hprev, htrans, hmem, hthreads, hjoined, hclause, hchans⟩ := toStandby_spec t 17 (by decide)
  refine ⟨_, rfl, hstandby, hprev.trans hmode, htrans, hmem, hthreads, hdone, hjoined, hclause, fun n => ?_⟩
  change n ∈ (t.toStandby 17 true).selfRefresh ↔ _
  rw [hchans]
  simp [t, chans, upTo]

end

/-! ### Commands for packages on the only one (R506, R508) -/

/-- A long command whose part this package begins: it has its number, and the manager notes whose parts it waits for. -/
def State.partBegun (s : State) (c : Command) : State :=
  { s.began c with memberJobs := s.memberJobs ++
      [{ cmd := { c with oper := s.opNext, phase := 2 }, waiting := [s.pkgNum], started := s.clause }] }

section
variable {s : State} {c : Command} {named : Bool} (hmembers : s.cmdMembers c = [s.pkgNum])
include hmembers

theorem askParts_starts (hst : s.partStatus c named = stOk) : s.askParts c named = s.startParts c := by
  unfold State.askParts
  simp [hmembers, hst]

theorem askParts_fails (hst : s.partStatus c named ≠ stOk) :
    s.askParts c named = (s.partRecord c (s.partStatus c named)).complete c (s.partStatus c named) 0 0 := by
  unfold State.askParts
  simp [hmembers, hst]

theorem startParts_performs (hhost : s.servesHost = true) (hgen : c.gen = s.epf.gen) {r : CmdRow} (hrow : cmdRow c.opcode.toNat = some r)
    (hlong : r.long = true) : s.startParts c = (s.partBegun c).performPart { c with oper := s.opNext, phase := 2 } := by
  have hnone : [s.pkgNum].filter (fun p => decide (p ≠ s.pkgNum)) = [] := by simp
  have hhere : [s.pkgNum].contains s.pkgNum = true := by simp
  unfold State.startParts
  simp only [hrow, hlong, hmembers, if_true, startLong_began hhost hgen, List.isEmpty_cons, Bool.false_eq_true, if_false]
  change (if [s.pkgNum].contains ((s.partBegun c).passAll { c with oper := s.opNext, phase := 2 }
    ([s.pkgNum].filter (fun p => decide (p ≠ s.pkgNum)))).pkgNum = true then ((s.partBegun c).passAll { c with oper := s.opNext, phase := 2 }
    ([s.pkgNum].filter (fun p => decide (p ≠ s.pkgNum)))).performPart { c with oper := s.opNext, phase := 2 } else _) = _
  rw [hnone]
  exact if_pos hhere

end

/-! ### A reshape begins (R302, R304) -/

/-- The ports of a list drain. -/
def State.drainPorts (s : State) (l : List Nat) : State := l.foldl (fun (s : State) p => s.setFld (regDirStatus p) 3 3 1) s

theorem drainPorts_cons (s : State) (p : Nat) (l : List Nat) : s.drainPorts (p :: l) = (s.setFld (regDirStatus p) 3 3 1).drainPorts l := rfl

theorem drainPorts_notesPorts (l : List Nat) (s : State) : s.notesPorts (s.drainPorts l) := by
  induction l generalizing s with
  | nil => exact (notes_refl s).notesPorts
  | cons p l ih => exact notesPorts_trans (setFld_notesPorts s p 3 3 1) (ih _)

theorem drainPorts_past {w : Word} (l : List Nat) {s : State} (h : s.past w) : (s.drainPorts l).past w := by
  induction l generalizing s with
  | nil => exact h
  | cons p l ih => exact ih (s := s.setFld (regDirStatus p) 3 3 1) h

theorem drainPorts_draining (l : List Nat) (s : State) {p : Nat} (hp : p ∈ l ∨ s.fld (regDirStatus p) 3 3 = 1) :
    (s.drainPorts l).fld (regDirStatus p) 3 3 = 1 := by
  induction l generalizing s with
  | nil => exact hp.resolve_left List.not_mem_nil
  | cons q l ih =>
    rw [drainPorts_cons]
    refine ih _ ?_
    by_cases hq : p = q
    · subst hq
      exact .inr (fld_setFld _ _ _ _ _ (by decide) (by decide))
    · have hne : regDirStatus p ≠ regDirStatus q := by unfold regDirStatus; omega
      refine hp.imp (fun hm => (List.mem_cons.1 hm).resolve_left hq) (fun hs => ?_)
      rwa [fld_setFld_ne _ _ _ _ _ _ _ _ (.inl hne) (by decide) (by decide)]

theorem bits_low_zero (n : Nat) : bits (BitVec.ofNat 64 (n * 2 ^ 32)) 31 0 = 0 := by
  simp only [bits, natBits, BitVec.toNat_ofNat, Nat.shiftRight_zero]
  omega

/-- The value of DIR_RESHAPE as a reshape begins. -/
def State.reshapeWord (s : State) (cause ports span : Nat) : Word :=
  putBits (putBits (putBits (putBits (s.reg regDirReshape) 19 18 span) 17 10 ports) 2 1 cause) 0 0 1

/-- A reshape has begun with `w` in DIR_RESHAPE and `cursor` in DIR_CURSOR, its record apart. -/
def State.reshapeBegun (s : State) (w cursor : Word) : State :=
  { (s.setReg regDirReshape w).setReg regDirCursor cursor with
    dirFilter := [], reshapeStart := s.clause, reshapeEvicted := 0, dirCtl := Tbl.map (fun c => { c with oldgen := c.valid }) s.dirCtl }

theorem reshapeBegun_word (s : State) (w cursor : Word) : (s.reshapeBegun w cursor).reg regDirReshape = w :=
  (reg_setReg ..).trans ((if_neg (by decide)).trans ((reg_setReg ..).trans (if_pos rfl)))

theorem reshapeBegun_cursor (s : State) (w cursor : Word) : (s.reshapeBegun w cursor).reg regDirCursor = cursor :=
  (reg_setReg ..).trans (if_pos rfl)

theorem reshapeBegun_reg (s : State) (w cursor : Word) {off : Nat} (hr : off ≠ regDirReshape) (hc : off ≠ regDirCursor) :
    (s.reshapeBegun w cursor).reg off = s.reg off :=
  (reg_setReg ..).trans ((if_neg hc).trans ((reg_setReg ..).trans (if_neg hr)))

theorem startReshape_notes (s : State) (cause ports span : Nat) :
    (s.reshapeBegun (s.reshapeWord cause ports span) (BitVec.ofNat 64 (s.oldLayout.total * 2 ^ 32))).notes (s.startReshape cause ports span) := by
  unfold State.startReshape
  exact emit_notes _ _ _ _ _ _

/-- A package whose DIR_RESHAPE is written for a reshape reshapes to what it names. -/
theorem reshaping_of_word {s u : State} {cause ports span : Nat} (hword : u.reg regDirReshape = s.reshapeWord cause ports span)
    (hports : ports < 2 ^ 8) (hspan : span < 2 ^ 2) : u.reshaping = true ∧ u.newLayout.ports = ports ∧ u.newLayout.span = span := by
  have hreshaping : u.reshaping = true := by
    rw [State.reshaping, State.fld, hword, State.reshapeWord, bits_putBits _ _ _ _ (by decide) (by decide)]
    rfl
  refine ⟨hreshaping, ?_, ?_⟩
  all_goals
    rw [State.newLayout, if_pos hreshaping]
    simp (disch := decide) only [State.fld, hword, State.reshapeWord, bits_putBits_ne, bits_putBits]
  · exact Nat.mod_eq_of_lt hports
  · exact Nat.mod_eq_of_lt hspan

/-- A reshape to the port map `ports` and the span code `span` has begun. -/
theorem startReshape_spec (s : State) (cause : Nat) {ports span : Nat} (hports : ports < 2 ^ 8) (hspan : span < 2 ^ 2) :
    let u := s.startReshape cause ports span
    u.reshaping = true ∧ u.newLayout.ports = ports ∧ u.newLayout.span = span ∧ u.fld regDirCursor 31 0 = 0 ∧
      (∀ off, off ∉ noteRegs → off ≠ regDirReshape → off ≠ regDirCursor → u.reg off = s.reg off) ∧
      u.completions = s.completions ∧ u.opNext = s.opNext ∧ s.sameMachine u := by
  have hn := startReshape_notes s cause ports span
  obtain ⟨hreshaping, hp, hs⟩ := reshaping_of_word ((hn.regs _ (by decide)).trans (reshapeBegun_word _ _ _)) hports hspan
  refine ⟨hreshaping, hp, hs, ?_, fun off ho hr hc => (hn.regs off ho).trans (reshapeBegun_reg s _ _ hr hc), hn.unnoted State.completions,
    hn.unnoted State.opNext, hn.sameMachine⟩
  rw [hn.regs.fld (by decide), State.fld, reshapeBegun_cursor]
  exact bits_low_zero _

theorem startReshape_past {s : State} {w : Word} (h : s.past w) (cause ports span : Nat) : (s.startReshape cause ports span).past w := by
  unfold State.startReshape
  extract_lets o v a b
  exact emit_past (s := b) h _ _ _ _ _

/-- The ports in use that a RESHAPE command does not name. -/
def State.gonePorts (s : State) (c : Command) : List Nat :=
  (portList s.oldLayout.ports).filter (fun p => !(bits (cmdWord c 0) 7 0).testBit p)

theorem reshapePart_eq (s : State) (c : Command) : ∃ t cause, (t = s.drainPorts (s.gonePorts c) ∨ t = (s.drainPorts (s.gonePorts c)).degrade) ∧
    s.reshapePart c = { t.startReshape cause (bits (cmdWord c 0) 7 0) (bits (cmdWord c 0) 9 8) with reshapeCmd := some c } := by
  unfold State.reshapePart
  extract_lets m span gone d t
  refine ⟨t, _, ?_, rfl⟩
  simp only [t]
  split
  · exact .inl rfl
  · exact .inr rfl

theorem reshapePart_past {s : State} {w : Word} (h : s.past w) (c : Command) : (s.reshapePart c).past w := by
  obtain ⟨t, cause, ht, heq⟩ := reshapePart_eq s c
  have hpast : t.past w := by
    obtain rfl | rfl := ht
    · exact drainPorts_past _ h
    · exact localEvent_past (drainPorts_past _ h) _ _ _ _
  rw [heq]
  exact startReshape_past hpast cause _ _

/-- This package's part of a RESHAPE: the reshape runs, and the ports it removes drain. -/
theorem reshapePart_spec (s : State) (c : Command) : let u := s.reshapePart c
    u.reshaping = true ∧ u.newLayout.ports = bits (cmdWord c 0) 7 0 ∧ u.newLayout.span = bits (cmdWord c 0) 9 8 ∧
      u.fld regDirCursor 31 0 = 0 ∧ u.reshapeCmd = some c ∧ (∀ p ∈ s.gonePorts c, u.fld (regDirStatus p) 3 3 = 1) ∧
      u.completions = s.completions ∧ u.opNext = s.opNext ∧ s.sameMachine u := by
  obtain ⟨t, cause, ht, heq⟩ := reshapePart_eq s c
  have hdrained := drainPorts_notesPorts (s.gonePorts c) s
  have hunnoted : t.unnoted = s.unnoted := by
    obtain rfl | rfl := ht
    · exact hdrained.1
    · exact hdrained.1
  have hdraining : ∀ p ∈ s.gonePorts c, t.fld (regDirStatus p) 3 3 = 1 := by
    intro p hp
    obtain rfl | rfl := ht
    · exact drainPorts_draining _ s (.inl hp)
    · exact drainPorts_draining _ s (.inl hp)
  obtain ⟨hreshaping, hports, hspan, hcursor, hregs, hcompletions, hopNext, hsame⟩ :=
    startReshape_spec t cause (bits_lt (cmdWord c 0) 7 0) (bits_lt (cmdWord c 0) 9 8)
  rw [heq]
  refine ⟨hreshaping, hports, hspan, hcursor, rfl, fun p hp => (congrArg (bits · 3 3) (hregs _ ?_ ?_ ?_)).trans (hdraining p hp), ?_, ?_, ?_⟩
  · simp [noteRegs, regDirStatus, regTlgStatus, regGlbErrsum]
    omega
  · exact (ne_regDirStatus (by decide) p).symm
  · exact (ne_regDirStatus (by decide) p).symm
  · exact hcompletions.trans (unnoted_field hunnoted State.completions)
  · exact hopNext.trans (unnoted_field hunnoted State.opNext)
  · exact sameMachine_trans ⟨unnoted_field hunnoted State.mem, unnoted_field hunnoted State.threads, unnoted_field hunnoted State.cores⟩ hsame

/-- The checks of a RESHAPE on the package that a legal command names. -/
theorem partStatus_reshape {s : State} {c : Command} {named : Bool} (hop : c.opcode.toNat = 0x14)
    (hlegal : named = true → s.legalIn c s.ownJudge = true) : s.partStatus c named = if s.reshapeOk c then stOk else stState := by
  unfold State.partStatus
  rw [if_neg (by simpa using hlegal)]
  simp only [hop]

theorem partStatus_meminit {s : State} {c : Command} {named : Bool} (hop : c.opcode.toNat = 0x15)
    (hlegal : named = true → s.legalIn c s.ownJudge = true) : s.partStatus c named = stOk := by
  unfold State.partStatus
  rw [if_neg (by simpa using hlegal)]
  simp only [hop]

/-! ### A memory initialisation (R577) -/

/-- The manager waits for no package's part. -/
def State.jobsDone (s : State) : State := { s with memberJobs := [] }

theorem partDone_last {s : State} {c : Command} {started : Word} (hhost : s.servesHost = true)
    (hjobs : s.memberJobs = [{ cmd := c, waiting := [s.pkgNum], started := started }]) (hop : c.opcode ≠ 0x12) :
    s.partDone c stOk 0 0 = s.jobsDone.complete c stOk 0 0 := by
  have hfind : s.memberJobs.find? (fun j => decide (j.cmd = c)) = some { cmd := c, waiting := [s.pkgNum], started := started } := by simp [hjobs]
  have hrest : s.memberJobs.erase { cmd := c, waiting := [s.pkgNum], started := started } = [] := by simp [hjobs]
  have hlast : (({ cmd := c, waiting := [s.pkgNum], started := started } : MemberJob).answered s.pkgNum stOk 0 0).waiting.isEmpty = true := by
    simp [MemberJob.answered]
  unfold State.partDone State.partEnded
  rw [if_pos hhost, hfind]
  simp only
  rw [hrest, hlast, Bool.true_and, if_pos (decide_eq_true (.inl hop))]
  rfl

theorem servesHost_congr {s u : State} (himage : u.reg regTrlImage = s.reg regTrlImage) (hclock : u.reg regClkStatus = s.reg regClkStatus)
    (hident : u.reg regGlbIdent = s.reg regGlbIdent) (htakeover : u.image.takeover = s.image.takeover) : u.servesHost = s.servesHost := by
  have hjoined : u.joined = s.joined := congrArg (fun w => decide (bits w 5 5 = 1)) himage
  have hmanager : u.managerNum = s.managerNum := congrArg (bits · 12 8) himage
  have hnum : u.pkgNum = s.pkgNum := congrArg (bits · 4 0) himage
  have hsource : u.timeSource = s.timeSource := congrArg (fun w => decide (bits w 3 3 = 1)) hclock
  rw [State.servesHost, State.servesHost, State.isManager, State.isManager, hjoined, hsource, hmanager, hnum, htakeover, State.fld, State.fld, hident]

/-- Memory as an initialisation leaves it, its registers apart. -/
def State.memCleared (s : State) : State :=
  { s with mem := [], written := [(0, (s.reg regDmcTop).toNat / 64)], away := [], dramBad := [], pot := [], fillKey := s.keyIn 0 (s.keyCur 0),
           lineKeys := [] }

theorem initMemory_eq (s : State) : ∃ base,
    s.initMemory = ((s.memCleared.setReg regRlmPotbase base).setFld regGlbBoot 3 3 1).setFld regGlbBoot 4 4 1 := ⟨_, rfl⟩

theorem initMemory_reg (s : State) {off : Nat} (hpot : off ≠ regRlmPotbase) (hboot : off ≠ regGlbBoot) : s.initMemory.reg off = s.reg off := by
  obtain ⟨base, heq⟩ := initMemory_eq s
  rw [heq, reg_setFld_ne _ _ _ _ _ _ hboot, reg_setFld_ne _ _ _ _ _ _ hboot, reg_setReg, if_neg hpot]
  rfl

/-- Memory holds zeros, page ownership starts anew, and GLB.BOOT says so. -/
theorem initMemory_spec (s : State) : let u := s.initMemory
    u.mem = [] ∧ u.written = [(0, (s.reg regDmcTop).toNat / 64)] ∧ u.pot = [] ∧ u.fld regGlbBoot 4 3 = 3 ∧ u.freeCount = s.freeCount ∧
      u.completions = s.completions ∧ u.memberJobs = s.memberJobs ∧ u.epf = s.epf ∧ u.image = s.image := by
  obtain ⟨base, heq⟩ := initMemory_eq s
  intro u
  have hu : u = (((s.memCleared.setReg regRlmPotbase base).setFld regGlbBoot 3 3 1).setFld regGlbBoot 4 4 1) := heq
  clear_value u
  subst hu
  refine ⟨rfl, rfl, rfl, ?_, rfl, rfl, rfl, rfl, rfl⟩
  have hhigh := fld_setFld ((s.memCleared.setReg regRlmPotbase base).setFld regGlbBoot 3 3 1) regGlbBoot 4 4 1 (by decide) (by decide)
  have hlow := (fld_setFld_ne ((s.memCleared.setReg regRlmPotbase base).setFld regGlbBoot 3 3 1) regGlbBoot 4 4 1 regGlbBoot 3 3 (.inr (by decide))
    (by decide) (by decide)).trans (fld_setFld (s.memCleared.setReg regRlmPotbase base) regGlbBoot 3 3 1 (by decide) (by decide))
  simp only [State.fld, bits, natBits, Nat.shiftRight_eq_div_pow] at hhigh hlow ⊢
  omega

/-- The record of a memory initialisation is written, and the manager waits for no part any more. -/
def State.initRecorded (s : State) (ps : List Nat) : State := (s.spendFree.emit 12 81 0x0007 0 ps).jobsDone

theorem initRecorded_past {s : State} {w : Word} (h : s.past w) (ps : List Nat) : (s.initRecorded ps).past w :=
  emit_past (s := s.spendFree) h _ _ _ _ _

/-- What the record and the end of the parts leave. -/
theorem initRecorded_keeps (s : State) (ps : List Nat) : let u := s.initRecorded ps
    s.keepsRegs u ∧ u.mem = s.mem ∧ u.written = s.written ∧ u.pot = s.pot ∧ u.freeCount = s.freeCount + 1 ∧ u.completions = s.completions ∧
      u.epf = s.epf ∧ u.servesHost = s.servesHost := by
  have hn : s.spendFree.notes (s.spendFree.emit 12 81 0x0007 0 ps) := emit_notes _ _ _ _ _ _
  exact ⟨hn.regs, hn.mem, hn.unnoted State.written, hn.unnoted State.pot, hn.unnoted State.freeCount, hn.unnoted State.completions, hn.epf,
    hn.servesHost⟩

theorem initMemory_servesHost (s : State) : s.initMemory.servesHost = s.servesHost := by
  obtain ⟨-, -, -, -, -, -, -, -, himage⟩ := initMemory_spec s
  exact servesHost_congr (initMemory_reg s (by decide) (by decide)) (initMemory_reg s (by decide) (by decide))
    (initMemory_reg s (by decide) (by decide)) (congrArg Image.takeover himage)

section
variable {s : State} {c : Command} {started : Word} (hhost : s.servesHost = true) (hgen : c.gen = s.epf.gen)
  (hjobs : s.memberJobs = [{ cmd := c, waiting := [s.pkgNum], started := started }]) (hop : c.opcode ≠ 0x12)
include hhost

include hjobs hop in
theorem partDone_initRecorded (ps : List Nat) :
    (s.spendFree.emit 12 81 0x0007 0 ps).partDone c stOk 0 0 = (s.initRecorded ps).complete c stOk 0 0 := by
  have hn : s.spendFree.notes (s.spendFree.emit 12 81 0x0007 0 ps) := emit_notes _ _ _ _ _ _
  refine partDone_last (started := started) (hn.servesHost.trans hhost) ?_ hop
  rw [hn.regs.pkgNum]
  exact (hn.unnoted State.memberJobs).trans hjobs

include hgen in
/-- What the record and the final completion leave. -/
theorem initRecorded_completes (ps : List Nat) : let u := (s.initRecorded ps).complete c stOk 0 0
    s.keepsRegs u ∧ u.mem = s.mem ∧ u.written = s.written ∧ u.pot = s.pot ∧ u.freeCount = s.freeCount + 1 ∧
      u.completions = s.completions ++ [{ cmd := c, status := stOk }] := by
  obtain ⟨kregs, kmem, kwritten, kpot, kfree, kcompletions, kepf, kserves⟩ := initRecorded_keeps s ps
  obtain ⟨hregs, hmem, hwritten, hpot, hfree, hcompletions⟩ :=
    complete_keeps (kserves.trans hhost) (hgen.trans (congrArg Endpoint.gen kepf).symm) stOk 0 0
  exact ⟨fun off ho => (hregs off ho).trans (kregs off ho), hmem.trans kmem, hwritten.trans kwritten, hpot.trans kpot, hfree.trans kfree,
    hcompletions.trans (kcompletions ▸ rfl)⟩

include hjobs hop

/-- The part of a MEMINIT that the manager waits for last ends the command. -/
theorem meminitPart_eq : ∃ ps, s.meminitPart c = (s.initMemory.initRecorded ps).complete c stOk 0 0 := by
  obtain ⟨-, -, -, -, -, -, hkept, -⟩ := initMemory_spec s
  have hnum : s.initMemory.pkgNum = s.pkgNum := congrArg (bits · 4 0) (initMemory_reg s (by decide) (by decide))
  exact ⟨_, partDone_initRecorded ((initMemory_servesHost s).trans hhost) (hnum ▸ hkept.trans hjobs) hop _⟩

theorem meminitPart_past {w : Word} (h : s.past w) : (s.meminitPart c).past w := by
  obtain ⟨ps, heq⟩ := meminitPart_eq hhost hjobs hop
  rw [heq]
  exact complete_past (initRecorded_past (s := s.initMemory) h ps) _ _ _ _

include hgen in
theorem meminitPart_spec : let u := s.meminitPart c
    u.mem = [] ∧ u.written = [(0, (s.reg regDmcTop).toNat / 64)] ∧ u.pot = [] ∧ u.fld regGlbBoot 4 3 = 3 ∧ u.mode = s.mode ∧
      u.freeCount = s.freeCount + 1 ∧ u.completions = s.completions ++ [{ cmd := c, status := stOk }] := by
  obtain ⟨ps, heq⟩ := meminitPart_eq hhost hjobs hop
  obtain ⟨hmem, hwritten, hpot, hboot, hfree, hcompletions, -, hepf, -⟩ := initMemory_spec s
  obtain ⟨kregs, kmem, kwritten, kpot, kfree, kcompletions⟩ := initRecorded_completes ((initMemory_servesHost s).trans hhost)
    (hgen.trans (congrArg Endpoint.gen hepf).symm) ps
  rw [heq]
  refine ⟨kmem.trans hmem, kwritten.trans hwritten, kpot.trans hpot, (kregs.fld (by decide) _ _).trans hboot,
    kregs.mode.trans (mode_congr (initMemory_reg s (by decide) (by decide))), ?_, ?_⟩
  · rw [kfree, hfree]
  · rw [kcompletions, hcompletions]

end

end Sys2Proof.Machine

namespace Sys2Proof.Machine
open Sys2Proof

/-! ### What a command of the image runs -/

section
variable {s : State} {c : Command} {named : Bool}

theorem runCommand_join (hop : c.opcode.toNat = 0x10) : s.runCommand c named =
    s.beginJoin c (bits (cmdWord c 0) 1 0) (if bits (cmdWord c 0) 13 8 = 0 then 1 else bits (cmdWord c 0) 13 8) (joinTable c.ext 32) false := by
  unfold State.runCommand
  simp only [hop]

theorem runCommand_regime (hop : c.opcode.toNat = 0x11) : s.runCommand c named = s.runRegime c := by
  unfold State.runCommand
  simp only [hop]

theorem runCommand_mode (hop : c.opcode.toNat = 0x12) (htarget : c.target = 0xff) : s.runCommand c named = s.runMode c := by
  unfold State.runCommand
  simp only [hop, htarget, if_true]

theorem runCommand_reset (hop : c.opcode.toNat = 0x13) : s.runCommand c named = s.runReset c := by
  unfold State.runCommand
  simp only [hop]

theorem runCommand_reshape (hop : c.opcode.toNat = 0x14) : s.runCommand c named = s.askParts c named := by
  unfold State.runCommand
  simp only [hop]
  rfl

theorem runCommand_meminit (hop : c.opcode.toNat = 0x15) (hjoined : s.joined = true) : s.runCommand c named = s.askParts c named := by
  unfold State.runCommand
  simp [hop, hjoined]

variable (hhost : s.servesHost = true) (hgen : c.gen = s.epf.gen)

theorem runRegime_same (h : bits (cmdWord c 0) 1 0 = s.regime) : s.runRegime c = s.ok c := if_pos h

include hhost hgen in
theorem runRegime_begins (h : bits (cmdWord c 0) 1 0 ≠ s.regime) (hq : s.canQuiesce = true) : s.runRegime c =
    (s.began c).beginQuiesce (.regime (bits (cmdWord c 0) 1 0)) (some { c with oper := s.opNext }) := by
  unfold State.runRegime
  simp [h, hq, startLong_began hhost hgen]

theorem runRegime_fails (h : bits (cmdWord c 0) 1 0 ≠ s.regime) (hq : s.canQuiesce = false) : s.runRegime c = s.refuseState c := by
  unfold State.runRegime
  simp [h, hq]

include hhost hgen in
theorem runMode_quiesce (ht : bits (cmdWord c 0) 3 0 = 8) (hq : s.canQuiesce = true) :
    s.runMode c = (s.began c).beginQuiesce .command (some { c with oper := s.opNext }) := by
  unfold State.runMode
  simp [ht, hq, startLong_began hhost hgen]

theorem runMode_quiesce_fails (ht : bits (cmdWord c 0) 3 0 = 8) (hq : s.canQuiesce = false) : s.runMode c = s.refuseState c := by
  unfold State.runMode
  simp [ht, hq]

theorem runMode_join (ht : bits (cmdWord c 0) 3 0 = 5) (hq : s.quiesced = true) : s.runMode c = s.beginJoin c s.regime 1 [] true := by
  unfold State.runMode
  simp [ht, hq]

theorem runMode_fails (ht : bits (cmdWord c 0) 3 0 = 5 ∨ bits (cmdWord c 0) 3 0 = 6 ∨ bits (cmdWord c 0) 3 0 = 7) (hq : s.quiesced = false) :
    s.runMode c = s.refuseState c := by
  unfold State.runMode
  obtain ht | ht | ht := ht
  all_goals simp [ht, hq]

include hhost hgen in
theorem runMode_release (ht : bits (cmdWord c 0) 3 0 = 6 ∨ bits (cmdWord c 0) 3 0 = 7) (hq : s.quiesced = true) :
    s.runMode c = (s.began c).beginRelease (some { c with oper := s.opNext }) := by
  unfold State.runMode
  obtain ht | ht := ht
  all_goals simp [ht, hq, startLong_began hhost hgen]

theorem runMode_drain_fails (ht : bits (cmdWord c 0) 3 0 = 10) (hjoined : s.joined = true) (hm : s.mode = modeQuiesce) (hq : s.quiesced = false) :
    s.runMode c = s.refuseState c := by
  unfold State.runMode
  simp [ht, hjoined, hm, hq]

/-- The image's mode reads DRAIN from the resolution of the command on (R571). -/
def State.imageDrains (s : State) : State := s.setFld regGlbMode 7 4 modeDrain

theorem otherMembers_congr {s u : State} (h : u.reg regTrlImage = s.reg regTrlImage) : u.otherMembers = s.otherMembers := by
  simp only [State.otherMembers, State.isMember, State.joined, State.pkgNum, State.fld, h]
  rfl

include hhost hgen in
theorem runMode_drain (ht : bits (cmdWord c 0) 3 0 = 10) (hjoined : s.joined = true) (hm : s.mode ≠ modeQuiesce ∨ s.quiesced = true)
    (hothers : s.otherMembers = []) : s.runMode c = ((s.began c).imageDrains.ok { c with oper := s.opNext, phase := 2 }).beginDrain
      { c with oper := s.opNext, phase := 2 } false true := by
  have hnone : (s.began c).imageDrains.otherMembers = [] := (otherMembers_congr (reg_setFld_ne _ _ _ _ _ _ (by decide))).trans hothers
  have hfree : ¬(s.mode = modeQuiesce ∧ (!s.quiesced) = true) := by
    rintro ⟨hmode, hq⟩
    exact hm.elim (fun h => h hmode) (fun h => by simp [h] at hq)
  rw [State.imageDrains] at *
  unfold State.runMode
  simp only [ht, hjoined, startLong_began hhost hgen, Bool.not_true, Bool.false_eq_true, if_false, hfree, hnone, List.isEmpty_nil, if_true,
    State.sendAll]

section
variable (hmembers : s.cmdMembers c = [s.pkgNum])
include hhost hgen hmembers

/-- A RESHAPE of this package alone begins its part. -/
theorem runCommand_reshape_begins (hop : c.opcode.toNat = 0x14) (hst : s.partStatus c named = stOk) :
    s.runCommand c named = (s.partBegun c).reshapePart { c with oper := s.opNext, phase := 2 } := by
  have hrow : cmdRow c.opcode.toNat = some { op := 0x14, ticketed := true, legal := legalRun, long := true } := by
    rw [hop]
    rfl
  rw [runCommand_reshape hop, askParts_starts hmembers hst, startParts_performs hmembers hhost hgen hrow rfl]
  unfold State.performPart
  simp only [hop]

/-- A MEMINIT of this package alone begins its part. -/
theorem runCommand_meminit_begins (hop : c.opcode.toNat = 0x15) (hjoined : s.joined = true) (hst : s.partStatus c named = stOk) :
    s.runCommand c named = (s.partBegun c).meminitPart { c with oper := s.opNext, phase := 2 } := by
  have hrow : cmdRow c.opcode.toNat = some { op := 0x15, ticketed := true, legal := legalSealed, long := true } := by
    rw [hop]
    rfl
  rw [runCommand_meminit hop hjoined, askParts_starts hmembers hst, startParts_performs hmembers hhost hgen hrow rfl]
  unfold State.performPart
  simp only [hop]

end

end

/-! ### The commands at their resolution -/

/-- What a command that is judged needs of the package to be carried out. -/
theorem State.judges.serves {s : State} {c : Command} {op : Nat} (h : s.judges c op) :
    c.opcode.toNat = op ∧ s.servesHost = true ∧ c.gen = s.epf.gen := by
  obtain ⟨-, hop, -, hhost, hgen, -⟩ := h
  exact ⟨hop, hhost, hgen⟩

theorem State.judges.legal {s : State} {c : Command} {op : Nat} (h : s.judges c op) (hnamed : (!decide (c.target = 0xff)) = true) :
    s.legalIn c s.ownJudge = true := by
  obtain ⟨-, -, -, -, -, -, hlegal⟩ := h
  have htarget : c.target ≠ 0xff := by simpa using hnamed
  rwa [if_neg htarget] at hlegal

theorem selects_none (c : Command) : selects none c := by
  rintro x ⟨⟩

theorem selects_mode {c : Command} {t : Nat} (h : bits (cmdWord c 0) 3 0 = t) : selects (some (3, t)) c := by
  rintro x ⟨⟩
  exact h

section
variable {i : Instr} {s : State} {c : Command} {P : State → Prop}

/-- A command of the host that is judged ends as it runs. -/
theorem judged_ends {op : Nat} (hexec : exec i s = .next (hostCommand c op none s)) (hj : s.judges c op)
    (hrun : ∀ l n w, (s.reopened l n).past w → ((s.reopened l n).runCommand c (!decide (c.target = 0xff))).past w ∧
      P ((s.reopened l n).runCommand c (!decide (c.target = 0xff)))) : Ends i s P :=
  ⟨_, hexec, hostCommand_runs hj (selects_none c) hrun⟩

/-- A MODE command for the image that is judged ends as it runs. -/
theorem judgedMode_ends {t : Nat} (hexec : exec i s = .next (hostCommand c 0x12 (some (3, t)) s)) (hj : s.judges c 0x12) (htarget : c.target = 0xff)
    (ht : bits (cmdWord c 0) 3 0 = t) (hrun : ∀ l n w, (s.reopened l n).past w → ((s.reopened l n).runMode c).past w ∧ P ((s.reopened l n).runMode c)) :
    Ends i s P := by
  obtain ⟨hop, -, -⟩ := hj.serves
  refine ⟨_, hexec, hostCommand_runs hj (selects_mode ht) (fun l n w hpast => ?_)⟩
  rw [runCommand_mode hop htarget]
  exact hrun l n w hpast

end

section
variable {s : State} {c : Command}

theorem join_joins (hj : s.judges c 0x10) : Ends (.join c) s (fun u => s.runsOn u c ∧ s.entersMode u modeJoin 7 ∧ u.image.lastIdent = s.clause ∧
    u.image.join = some { cmd := { c with oper := s.opNext }, regime := bits (cmdWord c 0) 1 0,
                          minPkg := if bits (cmdWord c 0) 13 8 = 0 then 1 else bits (cmdWord c 0) 13 8,
                          table := joinTable c.ext 32, re := false } ∧ s.sameMachine u) := by
  obtain ⟨hop, hhost, hgen⟩ := hj.serves
  refine judged_ends rfl hj (fun l n w hpast => ?_)
  rw [runCommand_join hop]
  obtain ⟨hruns, henters, -, hident, hjoin, hsame⟩ := beginJoin_joins (s := s.reopened l n) hhost hgen (bits (cmdWord c 0) 1 0)
    (if bits (cmdWord c 0) 13 8 = 0 then 1 else bits (cmdWord c 0) 13 8) (joinTable c.ext 32) false
  exact ⟨beginJoin_past (s := s.reopened l n) hhost hgen _ _ _ _ hpast, hruns, henters, hident, hjoin, hsame⟩

theorem setRegime_same (hj : s.judges c 0x11) (h : bits (cmdWord c 0) 1 0 = s.regime) :
    Ends (.setRegime c) s (fun u => s.completes u c stOk 0 0 ∧ u.image = s.image ∧ s.sameMachine u) := by
  obtain ⟨hop, hhost, hgen⟩ := hj.serves
  refine judged_ends rfl hj (fun l n w hpast => ?_)
  rw [runCommand_regime hop, runRegime_same (s := s.reopened l n) h]
  obtain ⟨hcompletes, himage, -, hsame⟩ := ok_completes (s := s.reopened l n) hhost hgen
  exact ⟨complete_past hpast _ _ _ _, hcompletes, himage, hsame⟩

theorem setRegime_cuts (hj : s.judges c 0x11) (hothers : s.otherMembers = []) (h : bits (cmdWord c 0) 1 0 ≠ s.regime)
    (hq : s.canQuiesce = true) : Ends (.setRegime c) s (fun u => s.cuts u c (.regime (bits (cmdWord c 0) 1 0))) := by
  obtain ⟨hop, hhost, hgen⟩ := hj.serves
  refine judged_ends rfl hj (fun l n w hpast => ?_)
  rw [runCommand_regime hop, runRegime_begins (s := s.reopened l n) hhost hgen h hq]
  exact ⟨beginQuiesce_past (s := (s.reopened l n).began c) hpast _ _, began_cuts (s := s.reopened l n) c hothers (fun p => Purpose.noConfusion)⟩

theorem setRegime_refuses (hj : s.judges c 0x11) (h : bits (cmdWord c 0) 1 0 ≠ s.regime) (hq : s.canQuiesce = false) :
    Ends (.setRegime c) s (fun u => s.refuses u c) := by
  obtain ⟨hop, hhost, hgen⟩ := hj.serves
  refine judged_ends rfl hj (fun l n w hpast => ?_)
  rw [runCommand_regime hop, runRegime_fails (s := s.reopened l n) h hq]
  exact ⟨refuseState_past hpast c, refuseState_refuses (s := s.reopened l n) hhost hgen⟩

theorem reset_waits (hj : s.judges c 0x13) : Ends (.reset c) s (fun u => s.completes u c stOk 0 0 ∧ u.resetDue = some c ∧ u.mode = s.mode ∧
    s.sameMachine u) := by
  obtain ⟨hop, hhost, hgen⟩ := hj.serves
  refine judged_ends rfl hj (fun l n w hpast => ?_)
  rw [runCommand_reset hop]
  obtain ⟨hcompletes, -, hmode, hsame⟩ := ok_completes (s := s.reopened l n) hhost hgen
  exact ⟨complete_past hpast _ _ _ _, hcompletes, rfl, hmode, hsame⟩

theorem reshape_begins (hj : s.judges c 0x14) (hmembers : s.cmdMembers c = [s.pkgNum]) (h : s.reshapeOk c = true) :
    Ends (.reshape c) s (fun u => s.runsOn u c ∧ u.reshaping = true ∧ u.newLayout.ports = bits (cmdWord c 0) 7 0 ∧
      u.newLayout.span = bits (cmdWord c 0) 9 8 ∧ u.fld regDirCursor 31 0 = 0 ∧ u.reshapeCmd = some { c with oper := s.opNext, phase := 2 } ∧
      (∀ p ∈ s.gonePorts c, u.fld (regDirStatus p) 3 3 = 1) ∧ s.sameMachine u) := by
  obtain ⟨hop, hhost, hgen⟩ := hj.serves
  refine judged_ends rfl hj (fun l n w hpast => ?_)
  have hst : (s.reopened l n).partStatus c (!decide (c.target = 0xff)) = stOk :=
    (partStatus_reshape (s := s.reopened l n) hop hj.legal).trans (if_pos h)
  rw [runCommand_reshape_begins (s := s.reopened l n) hhost hgen hmembers hop hst]
  obtain ⟨hreshaping, hports, hspan, hcursor, hcmd, hgone, hcompletions, hopNext, hsame⟩ :=
    reshapePart_spec ((s.reopened l n).partBegun c) { c with oper := s.opNext, phase := 2 }
  exact ⟨reshapePart_past (s := (s.reopened l n).partBegun c) hpast _, ⟨hcompletions, hopNext⟩, hreshaping, hports, hspan, hcursor, hcmd, hgone,
    hsame⟩

theorem reshape_refuses (hj : s.judges c 0x14) (hmembers : s.cmdMembers c = [s.pkgNum]) (h : s.reshapeOk c = false) :
    Ends (.reshape c) s (fun u => s.refuses u c) := by
  obtain ⟨hop, hhost, hgen⟩ := hj.serves
  refine judged_ends rfl hj (fun l n w hpast => ?_)
  have hst : (s.reopened l n).partStatus c (!decide (c.target = 0xff)) = stState :=
    (partStatus_reshape (s := s.reopened l n) hop hj.legal).trans (if_neg (by simp [show (s.reopened l n).reshapeOk c = false from h]))
  have hrecord : ∃ ps, (s.reopened l n).partRecord c stState = (s.reopened l n).emit 12 82 0x2003 0 ps := by
    unfold State.partRecord
    simp [hop, stState, stOk, stBadField]
  obtain ⟨ps, hps⟩ := hrecord
  rw [runCommand_reshape hop, askParts_fails (s := s.reopened l n) hmembers (by rw [hst]; decide), hst, hps]
  exact ⟨complete_past (emit_past hpast _ _ _ _ _) _ _ _ _,
    complete_refuses (s := s.reopened l n) hhost hgen (emit_notes _ _ _ _ _ _) (emit_image _ _ _ _ _ _)⟩

theorem meminit_ends (hj : s.judges c 0x15) (hmembers : s.cmdMembers c = [s.pkgNum]) (hjobs : s.memberJobs = []) (hjoined : s.joined = true) :
    Ends (.meminit c) s (fun u => u.mem = [] ∧ u.written = [(0, (s.reg regDmcTop).toNat / 64)] ∧ u.pot = [] ∧ u.fld regGlbBoot 4 3 = 3 ∧
      u.mode = s.mode ∧ u.freeCount = s.freeCount + 1 ∧ u.completions = s.completions ++
        [{ cmd := { c with oper := s.opNext }, status := stRunning, final := false },
         { cmd := { c with oper := s.opNext, phase := 2 }, status := stOk }]) := by
  obtain ⟨hop, hhost, hgen⟩ := hj.serves
  refine judged_ends rfl hj (fun l n w hpast => ?_)
  have hst : (s.reopened l n).partStatus c (!decide (c.target = 0xff)) = stOk := partStatus_meminit (s := s.reopened l n) hop hj.legal
  have hmode : c.opcode ≠ 0x12 := fun h => by simp [h] at hop
  have hwaits : ((s.reopened l n).partBegun c).memberJobs =
      [{ cmd := { c with oper := s.opNext, phase := 2 }, waiting := [((s.reopened l n).partBegun c).pkgNum], started := s.clause }] :=
    congrArg (· ++ _) hjobs
  rw [runCommand_meminit_begins (s := s.reopened l n) hhost hgen hmembers hop hjoined hst]
  obtain ⟨hmem, hwritten, hpot, hboot, hkept, hfree, hcompletions⟩ :=
    meminitPart_spec (s := (s.reopened l n).partBegun c) (c := { c with oper := s.opNext, phase := 2 }) hhost hgen hwaits hmode
  refine ⟨meminitPart_past (s := (s.reopened l n).partBegun c) hhost hwaits hmode hpast, hmem, hwritten, hpot, hboot, hkept, hfree,
    hcompletions.trans ?_⟩
  exact List.append_assoc _ _ _

end

/-! ### MODE at its resolution (R566 to R571) -/

section
variable {i : Instr} {s : State} {c : Command} {t : Nat} (hexec : exec i s = .next (hostCommand c 0x12 (some (3, t)) s)) (hj : s.judges c 0x12)
  (htarget : c.target = 0xff) (ht : bits (cmdWord c 0) 3 0 = t)
include hexec hj htarget ht

theorem mode_cuts (ht8 : t = 8) (hothers : s.otherMembers = []) (hq : s.canQuiesce = true) : Ends i s (fun u => s.cuts u c .command) := by
  obtain ⟨hop, hhost, hgen⟩ := hj.serves
  refine judgedMode_ends hexec hj htarget ht (fun l n w hpast => ?_)
  rw [runMode_quiesce (s := s.reopened l n) hhost hgen (ht.trans ht8) hq]
  exact ⟨beginQuiesce_past (s := (s.reopened l n).began c) hpast _ _, began_cuts (s := s.reopened l n) c hothers (fun p => Purpose.noConfusion)⟩

theorem mode_joins (ht5 : t = 5) (hq : s.quiesced = true) : Ends i s (fun u => s.runsOn u c ∧ s.entersMode u modeJoin 13 ∧ u.imageMode = modeJoin ∧
    u.image.join = some { cmd := { c with oper := s.opNext }, regime := s.regime, minPkg := 1, table := [], re := true } ∧ s.sameMachine u) := by
  obtain ⟨hop, hhost, hgen⟩ := hj.serves
  refine judgedMode_ends hexec hj htarget ht (fun l n w hpast => ?_)
  rw [runMode_join (s := s.reopened l n) (ht.trans ht5) hq]
  obtain ⟨hruns, henters, himage, -, hjoin, hsame⟩ := beginJoin_joins (s := s.reopened l n) hhost hgen (s.reopened l n).regime 1 [] true
  exact ⟨beginJoin_past (s := s.reopened l n) hhost hgen _ _ _ _ hpast, hruns, henters, himage rfl, hjoin, hsame⟩

theorem mode_releases (ht67 : t = 6 ∨ t = 7) (hq : s.quiesced = true) : Ends i s (fun u => s.runsOn u c ∧ u.image.releaseAt = some s.soon ∧
    u.mode = s.mode ∧ s.sameMachine u) := by
  obtain ⟨hop, hhost, hgen⟩ := hj.serves
  refine judgedMode_ends hexec hj htarget ht (fun l n w hpast => ?_)
  rw [runMode_release (s := s.reopened l n) hhost hgen (ht.symm ▸ ht67) hq]
  exact ⟨beginRelease_past (s := (s.reopened l n).began c) hpast _, began_releases (s := s.reopened l n) c _⟩

/-- The whole image drains: the package enters DRAIN and its flush begins. -/
theorem mode_drains (ht10 : t = 10) (hothers : s.otherMembers = []) (hjoined : s.joined = true) (hm : s.mode ≠ modeQuiesce ∨ s.quiesced = true) :
    Ends i s (fun u => s.entersMode u modeDrain 15 ∧ u.imageMode = modeDrain ∧ u.mem = s.mem ∧
      u.drain = some { cmd := { c with oper := s.opNext, phase := 2 }, flushing := true } ∧ u.completions = s.completions ++
        [{ cmd := { c with oper := s.opNext }, status := stRunning, final := false },
         { cmd := { c with oper := s.opNext, phase := 2 }, status := stOk }]) := by
  obtain ⟨hop, hhost, hgen⟩ := hj.serves
  refine judgedMode_ends hexec hj htarget ht (fun l n w hpast => ?_)
  rw [runMode_drain (s := s.reopened l n) hhost hgen (ht.trans ht10) hjoined hm hothers]
  have hserves : ((s.reopened l n).began c).imageDrains.servesHost = true :=
    (servesHost_congr (reg_setFld_ne _ _ _ _ _ _ (by decide)) (reg_setFld_ne _ _ _ _ _ _ (by decide))
      (reg_setFld_ne _ _ _ _ _ _ (by decide)) rfl).trans (show ((s.reopened l n).began c).servesHost = true from hhost)
  have hn := complete_notes (s := ((s.reopened l n).began c).imageDrains) (c := { c with oper := s.opNext, phase := 2 }) hserves hgen stOk 0 0
  obtain ⟨henters, himage, hmem, hdrain, hcompletions⟩ := beginDrain_spec
    (((s.reopened l n).began c).imageDrains.ok { c with oper := s.opNext, phase := 2 }) { c with oper := s.opNext, phase := 2 }
  have hkept : ((s.reopened l n).began c).imageDrains.mode = s.mode :=
    fld_setFld_ne _ _ _ _ _ _ _ _ (.inr (.inl (by decide))) (by decide) (by decide)
  have hdrains : ((s.reopened l n).began c).imageDrains.imageMode = modeDrain := fld_setFld _ _ _ _ _ (by decide) (by decide)
  refine ⟨beginDrain_past (complete_past (s := ((s.reopened l n).began c).imageDrains) hpast _ _ _ _) _,
    henters.from (hn.regs.mode.trans hkept) hn.clause, himage.trans (hn.regs.imageMode.trans hdrains), hmem.trans hn.mem, hdrain,
    hcompletions.trans ((hn.unnoted State.completions).trans ?_)⟩
  exact List.append_assoc _ _ _

/-- What a MODE command needs of the state that it is resolved in (R566). -/
def State.modeFails (s : State) (t : Nat) : Prop :=
  t = 8 ∧ s.canQuiesce = false ∨ (t = 5 ∨ t = 6 ∨ t = 7) ∧ s.quiesced = false ∨ t = 10 ∧ s.joined = true ∧ s.mode = modeQuiesce ∧ s.quiesced = false

theorem mode_refuses (hfails : s.modeFails t) : Ends i s (fun u => s.refuses u c) := by
  obtain ⟨hop, hhost, hgen⟩ := hj.serves
  refine judgedMode_ends hexec hj htarget ht (fun l n w hpast => ?_)
  have hrun : (s.reopened l n).runMode c = (s.reopened l n).refuseState c := by
    subst ht
    obtain ⟨h, hq⟩ | ⟨h, hq⟩ | ⟨h, hjoined, hm, hq⟩ := hfails
    · exact runMode_quiesce_fails (s := s.reopened l n) h hq
    · exact runMode_fails (s := s.reopened l n) h hq
    · exact runMode_drain_fails (s := s.reopened l n) h hjoined hm hq
  rw [hrun]
  exact ⟨refuseState_past hpast c, refuseState_refuses (s := s.reopened l n) hhost hgen⟩

end

/-- The ports that the command's word does not name, bit by bit. -/
theorem gonePorts_eq (s : State) (c : Command) :
    s.gonePorts c = (portList s.oldLayout.ports).filter (fun p => !(cmdWord c 0).getLsbD p) := by
  refine List.filter_congr (fun p hp => ?_)
  have hp8 : p < 8 := List.mem_range.1 (List.mem_filter.1 hp).1
  have hbit : (bits (cmdWord c 0) 7 0).testBit p = (cmdWord c 0).getLsbD p :=
    (Nat.testBit_mod_two_pow _ 8 p).trans (by simp [hp8, BitVec.testBit_toNat])
  rw [hbit]

/-- Settles O55: one lemma for each command of the image and each of its outcomes. -/
theorem imageCommands : Obligations.ImageCommands := by
  intro c d s p0 judged mode long refuses soon cuts gone
  refine ⟨fun ⟨hj, _⟩ => join_joins hj, fun ⟨hj, _⟩ => setRegime_same hj, fun ⟨hj, _, hothers, _⟩ => setRegime_cuts hj hothers,
    fun ⟨hj, _⟩ => setRegime_refuses hj, fun ⟨⟨hj, _, hothers, _⟩, htarget, ht⟩ => mode_cuts rfl hj htarget ht rfl hothers,
    fun ⟨⟨hj, _⟩, htarget, ht⟩ hq => mode_refuses rfl hj htarget ht (.inl ⟨rfl, hq⟩),
    fun ⟨⟨hj, _⟩, htarget, ht⟩ => mode_joins rfl hj htarget ht rfl,
    fun ⟨⟨hj, _⟩, htarget, ht⟩ => mode_releases rfl hj htarget ht (.inl rfl),
    fun ⟨⟨hj, _⟩, htarget, ht⟩ => mode_releases rfl hj htarget ht (.inr rfl),
    fun ⟨⟨hj, _⟩, htarget, ht⟩ hq => mode_refuses rfl hj htarget ht (.inr (.inl ⟨.inl rfl, hq⟩)),
    fun ⟨⟨hj, _⟩, htarget, ht⟩ hq => mode_refuses rfl hj htarget ht (.inr (.inl ⟨.inr (.inl rfl), hq⟩)),
    fun ⟨⟨hj, _⟩, htarget, ht⟩ hq => mode_refuses rfl hj htarget ht (.inr (.inl ⟨.inr (.inr rfl), hq⟩)),
    fun ⟨⟨hj, _, hothers, _⟩, htarget, ht⟩ => mode_drains (c := c) rfl hj htarget ht rfl hothers,
    fun ⟨⟨hj, _⟩, htarget, ht⟩ hjoined hm hq => mode_refuses rfl hj htarget ht (.inr (.inr ⟨rfl, hjoined, hm, hq⟩)),
    fun h => ?_, fun hdrain hmode hflushing hleaving hcompletions hhost =>
      ⟨execDrainDone_unflushed, execDrainDone_ends hdrain hmode hflushing hleaving hcompletions hhost⟩,
    fun ⟨hj, _⟩ => reset_waits hj, fun ⟨hj, hmembers, _⟩ h => ?_, fun ⟨hj, hmembers, _⟩ => reshape_refuses hj hmembers,
    fun ⟨hj, hmembers, _, hjobs⟩ => meminit_ends hj hmembers hjobs⟩
  · rw [exec_drainDone, execDrainDone, h]
  · have hends := reshape_begins hj hmembers h
    rwa [gonePorts_eq] at hends

end Sys2Proof.Machine

/-! ## Trail links: flits (R319 to R329)

What an octet does with a flit that it receives, and when it resends what it holds. First what counters and records leave of its link. -/

namespace Sys2Proof.Machine
open Sys2Proof

/-! ### What counters and records leave of a link -/

/-- The counts of an octet (R319, R326, R335). -/
def countRegs (n : Nat) : List Nat := [regTrlCount0 n, regTrlCount1 n]

/-- Octet `n` has counted, and records may be written of it: beside them, of its link the symbols charged to its lanes and the count of
resends may differ. -/
structure State.counts (s u : State) (n : Nat) : Prop where
  unnoted : u.unnoted = s.unnoted
  sent : u.sent = s.sent
  link : ∃ y r, u.link n = { s.link n with laneSyms := y, resent := r }
  regs : ∀ off, off ∉ noteRegs → off ∉ countRegs n → u.reg off = s.reg off

theorem counts_refl (s : State) (n : Nat) : s.counts s n := ⟨rfl, rfl, ⟨_, _, rfl⟩, fun _ _ _ => rfl⟩

theorem counts_trans {a b c : State} {n : Nat} (h : a.counts b n) (k : b.counts c n) : a.counts c n := by
  obtain ⟨y, r, hlink⟩ := h.link
  obtain ⟨y', r', hlink'⟩ := k.link
  exact ⟨k.unnoted.trans h.unnoted, k.sent.trans h.sent, ⟨y', r', by rw [hlink', hlink]⟩,
    fun off ho hc => (k.regs off ho hc).trans (h.regs off ho hc)⟩

theorem counts_of_notes {s u : State} {n : Nat} (h : s.notes u) (hsent : u.sent = s.sent) (hlinks : u.links = s.links) : s.counts u n := by
  refine ⟨h.1, hsent, ⟨(s.link n).laneSyms, (s.link n).resent, ?_⟩, fun off ho _ => h.2 off ho⟩
  rw [State.link, State.link, hlinks]

/-- A change of the link that keeps all but the lanes' symbols and the count of resends. -/
theorem modLink_counts (s : State) (n : Nat) {f : Link → Link} (h : ∃ y r, f (s.link n) = { s.link n with laneSyms := y, resent := r }) :
    s.counts (s.modLink n f) n := ⟨rfl, rfl, by simpa [State.modLink] using h, fun _ _ _ => rfl⟩

/-- A count field of the octet, or of the log and the summary of errors. -/
theorem addFld_counts (s : State) (n : Nat) {off : Nat} (hi lo k : Nat) (h : off ∈ noteRegs ∨ off ∈ countRegs n) :
    s.counts (s.addFld off hi lo k) n := by
  refine ⟨rfl, rfl, ⟨_, _, rfl⟩, fun o ho hc => reg_addFld_ne _ _ _ _ _ _ (fun e => ?_)⟩
  subst e
  exact h.elim ho hc

theorem octetCount_counts (s : State) (n ev k : Nat) : s.counts (s.octetCount n ev k) n := by
  unfold State.octetCount State.countUncore
  split
  · exact counts_refl s n
  · obtain ⟨l, v, h⟩ := uncoreFrom_received s (slotOctet n 0) ev k none 0 4
    exact counts_of_notes (State.received.notes ⟨l, v, h⟩) (uncoreFrom_sent _ _ _ _ _ _ _) (h ▸ rfl)

theorem emit_links (s : State) (die src code realm : Nat) (ps : List Nat) : (s.emit die src code realm ps).links = s.links := by
  unfold State.emit State.emitRank State.enqueueRec
  extract_lets r
  split
  · rfl
  · split <;> rfl

theorem emit_counts (s : State) (n die src code realm : Nat) (ps : List Nat) : s.counts (s.emit die src code realm ps) n :=
  counts_of_notes (emit_notes ..) (emit_sent ..) (emit_links ..)

theorem noticeDue_counts (s : State) (n code realm : Nat) (origin : BitVec 16) (ue : Bool) : s.counts (s.noticeDue code realm origin ue) n := by
  refine counts_of_notes (noticeDue_notes ..) ?_ ?_
  all_goals
    unfold State.noticeDue
    split <;> rfl

/-- A resend is counted, and a record written when one is due (R326). -/
theorem countResends_counts (s : State) (n k : Nat) (last : BitVec 12) : s.counts (s.countResends n k last) n := by
  unfold State.countResends
  extract_lets c rec'
  have hc : s.counts c n := counts_trans (addFld_counts s n 31 0 k (.inr (by simp [countRegs])))
    (counts_trans (addFld_counts _ n 63 32 k (.inl (by decide))) (octetCount_counts _ n 0x03 k))
  have hrec (j : Nat) : c.counts ((rec' j c).modLink n (fun l => { l with resent := some 0 })) n :=
    counts_trans (counts_trans (emit_counts c n _ _ _ _ _) (noticeDue_counts _ n _ _ _ _)) (modLink_counts _ n ⟨_, _, rfl⟩)
  split
  · exact counts_trans hc (hrec _)
  · split
    · exact counts_trans hc (hrec _)
    · exact counts_trans hc (modLink_counts _ n ⟨_, _, rfl⟩)

/-- The decoder of a flit counts, and notes the symbols of each lane (R319). -/
theorem decoded_counts (s : State) (n : Nat) (d : Decoded) : s.counts (s.decoded n d) n := by
  unfold State.decoded
  extract_lets k
  have hu : s.counts (((s.addFld (regTrlCount0 n) 63 32 k).addFld (regTrlCount1 n) 63 32 d.uncorr).octetCount n 0x04 k) n :=
    counts_trans (addFld_counts s n _ _ _ (.inr (by simp [countRegs])))
      (counts_trans (addFld_counts _ n _ _ _ (.inr (by simp [countRegs]))) (octetCount_counts _ n _ _))
  generalize ((s.addFld (regTrlCount0 n) 63 32 k).addFld (regTrlCount1 n) 63 32 d.uncorr).octetCount n 0x04 k = u at hu ⊢
  generalize d.syms = l
  induction l generalizing u with
  | nil => exact hu
  | cons x l ih => exact ih _ (counts_trans hu (modLink_counts u n ⟨_, _, rfl⟩))

section
variable {s u : State} {n : Nat} (h : s.counts u n)
include h

/-- A field of the link that no count changes. -/
theorem State.counts.field {α : Type} (f : Link → α) (hf : ∀ l y r, f { l with laneSyms := y, resent := r } = f l := by exact fun _ _ _ => rfl) :
    f (u.link n) = f (s.link n) := by
  obtain ⟨y, r, hlink⟩ := h.link
  rw [hlink, hf]
theorem State.counts.clause : u.clause = s.clause := unnoted_field h.unnoted State.clause
theorem State.counts.mem : u.mem = s.mem := unnoted_field h.unnoted State.mem
theorem State.counts.threads : u.threads = s.threads := unnoted_field h.unnoted State.threads
theorem State.counts.fld {off : Nat} (ho : off ∉ noteRegs) (hc : off ∉ countRegs n) (hi lo : Nat) : u.fld off hi lo = s.fld off hi lo := by
  rw [State.fld, State.fld, h.regs off ho hc]

end

theorem not_mem_noteRegs {off : Nat} (h : 0x200000 < off) : off ∉ noteRegs := by
  simp only [noteRegs, regTlgStatus, regGlbErrsum, List.mem_cons, List.not_mem_nil, or_false]
  omega

/-- The counts of an octet are the registers 110h and 118h of its block. -/
theorem not_mem_countRegs {off : Nat} (n : Nat) (h : off < 0xc00110 ∨ off % 0x10000 ≠ 0x110 ∧ off % 0x10000 ≠ 0x118) : off ∉ countRegs n := by
  simp only [countRegs, regTrlCount0, regTrlCount1, List.mem_cons, List.not_mem_nil, or_false]
  omega

end Sys2Proof.Machine

namespace Sys2Proof.Machine
open Sys2Proof

/-! ### Acknowledgements, credits and discards (R322, R324, R329) -/

theorem link_setLink_self (s : State) (n : Nat) (l : Link) : (s.setLink n l).link n = l := (link_setLink s n n l).trans (if_pos rfl)

theorem link_modLink (s : State) (n : Nat) (f : Link → Link) : (s.modLink n f).link n = f (s.link n) := link_setLink_self s n _

theorem ackIn_unheld {s : State} {n : Nat} {a : BitVec 12} (h : ∀ x ∈ (s.link n).replay, x.seq ≠ a) : s.ackIn n a = s :=
  if_neg (by simpa using h)

/-- An acknowledgement of the oldest flit held frees it alone. -/
theorem ackIn_oldest {s : State} {n : Nat} {x : TxFlit} {xs : List TxFlit} (h : (s.link n).replay = x :: xs) :
    s.ackIn n x.seq = s.setLink n { s.link n with replay := xs, acked := x.seq, lastAck := s.clause } := by
  unfold State.ackIn
  extract_lets l
  simp [l, h]

theorem credIn_nil_counts (s : State) (n : Nat) : s.counts (s.credIn n []) n := modLink_counts s n ⟨_, _, rfl⟩

theorem credIn_single (s : State) (n p c : Nat) : (s.credIn n [(p, c)]).link n =
    { s.link n with creds := Tbl.set (s.link n).creds p ((s.link n).credit p + 4 * c) } := link_modLink s n _

/-! ### Resends (R324, R325) -/

/-- A held flit once it has been sent again. -/
def TxFlit.again (x : TxFlit) : TxFlit :=
  { x with pkts := x.pkts.map (fun k => { k with route := { k.route with retx := true } }), resends := x.resends + 1 }

/-- The only flit held is sent again, with RETX. -/
theorem resendAll_single {s : State} {n : Nat} {x : TxFlit} (h : (s.link n).replay = [x]) :
    (s.setLink n { s.link n with replay := [x.again], lastAck := s.clause, out := [(s.link n).dataFlit x.again] }).counts (s.resendAll n) n := by
  unfold State.resendAll
  simp only [h]
  exact countResends_counts _ n 1 x.seq

/-- The octet has sent the only flit it holds again. -/
def State.resends (s u : State) (n : Nat) (x : TxFlit) : Prop :=
  (u.link n).out = [(s.link n).dataFlit x.again] ∧ (u.link n).replay = [x.again] ∧ (u.link n).lastAck = s.clause ∧ u.sent = s.sent ∧
    u.mem = s.mem

theorem retry_resends {s : State} {n : Nat} {x : TxFlit} (h : (s.link n).replay = [x])
    (hx : x.resends + 1 < s.fld (regTrlLinkctl n) 23 16) : s.resends (s.retry n) n x := by
  have hr := resendAll_single h
  obtain ⟨y, r, hlink⟩ := hr.link
  rw [link_setLink_self] at hlink
  have hlimit : (s.resendAll n).fld (regTrlLinkctl n) 23 16 = s.fld (regTrlLinkctl n) 23 16 := by
    refine hr.fld (not_mem_noteRegs ?_) (not_mem_countRegs n ?_) _ _ <;> (unfold regTrlLinkctl; omega)
  have hretry : s.retry n = s.resendAll n := by
    refine if_neg ?_
    rw [hlimit, hlink]
    simpa [TxFlit.again] using hx
  rw [hretry, State.resends, hlink]
  exact ⟨rfl, rfl, rfl, hr.sent, hr.mem⟩

/-- What counters leave of a link does not change what is sent again. -/
theorem State.counts.resends {s u v : State} {n : Nat} {x : TxFlit} (h : s.counts u n) (hr : u.resends v n x) : s.resends v n x := by
  obtain ⟨y, r, hlink⟩ := h.link
  unfold State.resends at hr ⊢
  rwa [hlink, h.clause, h.sent, h.mem] at hr

/-! ### A data flit (R322, R327, R616) -/

section
variable {n : Octet} {f : Flit} {s : State}

theorem execDataFlit_eq (hc : s.linkCarries n.val = true) (hi : bit (s.reg regGlbInject) 63 = false) : exec (.dataFlit n f) s =
    if f.intact && decide (f.kind ≠ kindData) then .next (s.decoded n.val f.rx)
    else if f.intact && decide (f.seq = (s.link n.val).rxSeq + 1) then .next ((s.decoded n.val f.rx).acceptFlit n.val f)
    else .next ((s.decoded n.val f.rx).discardFlit n.val) := by
  have hd := decoded_counts s n.val f.rx
  have hinject : bit ((s.decoded n.val f.rx).reg regGlbInject) 63 = false := by
    rw [hd.regs _ (by decide) (not_mem_countRegs n.val (by decide)), hi]
  rw [exec_dataFlit, execDataFlit, if_neg (by simp [hc])]
  simp only [injectKind_unarmed _ _ _ hinject, hd.field (·.rxSeq)]

/-- The messages of a flit whose only message ends in it. -/
theorem splitFlit_single {i : Nat} {k : Pkt} (h : i + k.route.len.toNat ≤ 15) : splitFlit [(i, k)] = ([k], none) := by
  simp [splitFlit, h]

/-- The link once a flit with the one message `k` has been accepted: `due` is when it is to be acknowledged. -/
def State.owesFor (s : State) (n : Nat) (f : Flit) (k : Pkt) (due : Word) : State :=
  s.setLink n { s.link n with
    rxSeq := f.seq, nakAt := none, ackDue := some due, rxRest := none,
    owed := Tbl.set (s.link n).owed (pktPool k) (Tbl.get 0 (s.link n).owed (pktPool k) + k.route.len.toNat) }

theorem acceptFlit_single {s : State} {n i : Nat} {k : Pkt} (hbegun : f.begun = [(i, k)]) (hlen : i + k.route.len.toNat ≤ 15)
    (hcrets : f.crets = []) (hrest : (s.link n).rxRest = none) (hreplay : (s.link n).replay = []) :
    ∃ due, s.acceptFlit n f = (((s.owesFor n f k due).credIn n []).octetCount n 0x02 1).takePkt n k := by
  unfold State.acceptFlit
  simp only [hbegun, splitFlit_single hlen, hcrets, hrest, List.nil_append, List.foldl_cons, List.foldl_nil]
  rw [ackIn_unheld (by simp [hreplay])]
  exact ⟨_, rfl⟩

/-- A whole message for this package is delivered to its agent. -/
theorem takePkt_delivers {s : State} (n : Nat) {k : Pkt} (hlen : 2 ≤ k.route.len.toNat) (hres : k.route.reserved = 0)
    (hknown : k.unknown = none) (hflood : k.route.flood = false) (hdst : k.route.dst.toNat = s.pkgNum) :
    s.takePkt n k = { s with sent := s.sent ++ [k.msg] } := by
  unfold State.takePkt
  extract_lets mine
  rw [if_neg (by simp [hres, hknown]; omega), if_neg (by simp [hflood]), if_pos hdst]

theorem execDataFlit_accepts {i : Nat} {k : Pkt} (hc : s.linkCarries n.val = true) (hi : bit (s.reg regGlbInject) 63 = false)
    (hintact : f.intact = true) (hkind : f.kind = kindData) (hseq : f.seq = (s.link n.val).rxSeq + 1) (hbegun : f.begun = [(i, k)])
    (hend : i + k.route.len.toNat ≤ 15) (hcrets : f.crets = []) (hrest : (s.link n.val).rxRest = none) (hlen : 2 ≤ k.route.len.toNat)
    (hres : k.route.reserved = 0) (hknown : k.unknown = none) (hflood : k.route.flood = false) (hdst : k.route.dst.toNat = s.pkgNum)
    (hreplay : (s.link n.val).replay = []) :
    Ends (.dataFlit n f) s (fun u => u.sent = s.sent ++ [k.msg] ∧ (u.link n.val).rxSeq = f.seq ∧ (u.link n.val).nakAt = none ∧
      Tbl.get 0 (u.link n.val).owed (pktPool k) = Tbl.get 0 (s.link n.val).owed (pktPool k) + k.route.len.toNat ∧ u.mem = s.mem ∧
      u.threads = s.threads) := by
  have hd := decoded_counts s n.val f.rx
  obtain ⟨due, haccept⟩ := acceptFlit_single (s := s.decoded n.val f.rx) (n := n.val) hbegun hend hcrets ((hd.field (·.rxRest)).trans hrest)
    ((hd.field (·.replay)).trans hreplay)
  have hlink : ((s.decoded n.val f.rx).owesFor n.val f k due).link n.val = _ := link_setLink_self ..
  have ho := counts_trans (credIn_nil_counts ((s.decoded n.val f.rx).owesFor n.val f k due) n.val) (octetCount_counts _ n.val 0x02 1)
  have hnum := (ho.fld (off := regTrlImage) (by decide) (not_mem_countRegs n.val (by decide)) 4 0).trans
    (hd.fld (by decide) (not_mem_countRegs n.val (by decide)) 4 0)
  rw [Ends, execDataFlit_eq hc hi, if_neg (by simp [hkind]), if_pos (by simp [hintact, hseq]), haccept,
    takePkt_delivers n.val hlen hres hknown hflood (hdst.trans hnum.symm)]
  refine ⟨_, rfl, congrArg (· ++ [k.msg]) (ho.sent.trans hd.sent), (ho.field (·.rxSeq)).trans (congrArg (·.rxSeq) hlink),
    (ho.field (·.nakAt)).trans (congrArg (·.nakAt) hlink), ?_, ho.mem.trans hd.mem, ho.threads.trans hd.threads⟩
  refine (ho.field (fun l => Tbl.get 0 l.owed (pktPool k))).trans ((congrArg (fun l => Tbl.get 0 l.owed (pktPool k)) hlink).trans ?_)
  rw [Tbl_get_set, if_pos rfl, hd.field (·.owed)]

/-- A flit that is not in sequence, or was received in error, is discarded. -/
theorem execDataFlit_discards (hc : s.linkCarries n.val = true) (hi : bit (s.reg regGlbInject) 63 = false)
    (h : f.intact = false ∨ f.kind = kindData ∧ f.seq ≠ (s.link n.val).rxSeq + 1) :
    exec (.dataFlit n f) s = .next ((s.decoded n.val f.rx).discardFlit n.val) := by
  rw [execDataFlit_eq hc hi]
  obtain h | ⟨hkind, hseq⟩ := h
  · rw [if_neg (by simp [h]), if_neg (by simp [h])]
  · rw [if_neg (by simp [hkind]), if_neg (fun hand => hseq (of_decide_eq_true (Bool.and_eq_true_iff.1 hand).2))]

end

theorem discardFlit_asks {s : State} {n : Nat} (h : (s.link n).nakAt = none) :
    s.discardFlit n = s.setLink n { s.link n with nakAt := some s.clause, out := (s.link n).out ++ [(s.link n).control kindNak] } :=
  if_neg (by simp [h])

/-- A flit is asked for once, until the timeout has passed (log entry 96). -/
theorem discardFlit_asked {s : State} {n : Nat} {w : Word} (h : (s.link n).nakAt = some w) (hw : s.clause.toNat < w.toNat + 256) :
    s.discardFlit n = s := if_pos (by simp [h, hw])

/-! ### Control flits (R319, R323, R324) -/

section
variable {n : Octet} {f : Flit} {s : State} (hc : s.linkCarries n.val = true)
include hc

theorem execIdleFlit_intact (hintact : f.intact = true) (hkind : f.kind = kindIdle) :
    exec (.idleFlit n f) s = .next (((s.decoded n.val f.rx).ackIn n.val f.ackseq).credIn n.val f.crets) := by
  rw [exec_idleFlit, execIdleFlit, if_pos hc, onControl]
  simp [hintact, hkind]

theorem execNakFlit_intact (hintact : f.intact = true) (hkind : f.kind = kindNak) :
    exec (.nakFlit n f) s = .next ((((s.decoded n.val f.rx).ackIn n.val f.ackseq).credIn n.val f.crets).retry n.val) := by
  rw [exec_nakFlit, execNakFlit, if_pos hc, onControl]
  simp [hintact, hkind]

theorem execIdleFlit_error (h : f.intact = false) : exec (.idleFlit n f) s = .next (s.decoded n.val f.rx) := by
  rw [exec_idleFlit, execIdleFlit, if_pos hc, onControl]
  simp [h]

theorem execNakFlit_error (h : f.intact = false) : exec (.nakFlit n f) s = .next (s.decoded n.val f.rx) := by
  rw [exec_nakFlit, execNakFlit, if_pos hc, onControl]
  simp [h]

/-- An idle flit frees the oldest flit held and returns credits of one pool. -/
theorem execIdleFlit_frees {x : TxFlit} {xs : List TxFlit} {p c : Nat} (hintact : f.intact = true) (hkind : f.kind = kindIdle)
    (hreplay : (s.link n.val).replay = x :: xs) (hack : f.ackseq = x.seq) (hcrets : f.crets = [(p, c)]) :
    Ends (.idleFlit n f) s (fun u => (u.link n.val).replay = xs ∧ (u.link n.val).acked = x.seq ∧
      (u.link n.val).credit p = (s.link n.val).credit p + 4 * c ∧ u.sent = s.sent ∧ u.mem = s.mem) := by
  have hd := decoded_counts s n.val f.rx
  rw [Ends, execIdleFlit_intact hc hintact hkind, hack, ackIn_oldest ((hd.field (·.replay)).trans hreplay), hcrets]
  refine ⟨_, rfl, ?_, ?_, ?_, hd.sent, hd.mem⟩
  · rw [credIn_single, link_setLink_self]
  · rw [credIn_single, link_setLink_self]
  · rw [credIn_single, link_setLink_self, Link.credit, Tbl_get_set, if_pos rfl]
    exact congrArg (· + 4 * c) (hd.field (·.credit p))

/-- A NAK for the only flit held sends it again. -/
theorem execNakFlit_resends {x : TxFlit} (hintact : f.intact = true) (hkind : f.kind = kindNak) (hreplay : (s.link n.val).replay = [x])
    (hack : f.ackseq ≠ x.seq) (hcrets : f.crets = []) (hx : x.resends + 1 < s.fld (regTrlLinkctl n.val) 23 16) :
    Ends (.nakFlit n f) s (fun u => s.resends u n.val x) := by
  have hd := decoded_counts s n.val f.rx
  have hv := counts_trans hd (credIn_nil_counts _ n.val)
  have hlimit := hv.fld (off := regTrlLinkctl n.val) (not_mem_noteRegs (by unfold regTrlLinkctl; omega))
    (not_mem_countRegs n.val (by unfold regTrlLinkctl; omega)) 23 16
  rw [Ends, execNakFlit_intact hc hintact hkind, ackIn_unheld (by simpa [hd.field (·.replay), hreplay] using hack.symm), hcrets]
  exact ⟨_, rfl, hv.resends (retry_resends ((hv.field (·.replay)).trans hreplay) (hx.trans_eq hlimit.symm))⟩

end

/-- A silence of 256 clauses sends the only flit held again. -/
theorem execReplayTimeout_resends {n : Octet} {x : TxFlit} {s : State} (hc : s.linkCarries n.val = true) (hreplay : (s.link n.val).replay = [x])
    (hx : x.resends + 1 < s.fld (regTrlLinkctl n.val) 23 16) (hlast : (s.link n.val).lastAck.toNat + 256 ≤ s.clause.toNat) :
    Ends (.replayTimeout n) s (fun u => s.resends u n.val x) :=
  ⟨_, if_pos ⟨hc, by simp [hreplay], hlast⟩, retry_resends hreplay hx⟩

/-- Settles O36: one lemma for each kind of flit and each of its outcomes. -/
theorem flits : Obligations.Flits := by
  intro n f i k x xs p c w s hc hi l again resent
  have hd := decoded_counts s n.val f.rx
  refine ⟨execDataFlit_accepts hc hi, fun hbad => ⟨fun hn => ⟨_, execDataFlit_discards hc hi hbad, ?_⟩, fun hn hw => ⟨_, execDataFlit_discards hc hi hbad, ?_⟩⟩,
    execIdleFlit_frees hc, fun h => ⟨_, execIdleFlit_error hc h, hd.field (·.replay), hd.field (·.creds), hd.sent, hd.mem⟩,
    fun hintact hkind hreplay hack hcrets hx => ?_,
    fun h => ⟨_, execNakFlit_error hc h, hd.field (·.replay), hd.field (·.out), hd.sent, hd.mem⟩, fun hreplay hx hlast => ?_,
    fun hlast => if_neg (fun h => ?_)⟩
  · rw [discardFlit_asks ((hd.field (·.nakAt)).trans hn)]
    refine ⟨hd.sent, ?_, ?_, ?_, hd.mem⟩ <;> rw [link_setLink_self]
    · exact hd.field (·.rxSeq)
    · exact congrArg some hd.clause
    · exact hd.field (fun y => y.out ++ [y.control kindNak])
  · rw [discardFlit_asked ((hd.field (·.nakAt)).trans hn) (hd.clause.symm ▸ hw)]
    exact ⟨hd.sent, hd.field (·.rxSeq), hd.field (·.out), hd.mem⟩
  · obtain ⟨u, hu, hout, hheld, -, hsent, hmem⟩ := execNakFlit_resends hc hintact hkind hreplay hack hcrets hx
    exact ⟨u, hu, hout, hheld, hsent, hmem⟩
  · obtain ⟨u, hu, hout, hheld, hlastAck, hsent, hmem⟩ := execReplayTimeout_resends hc hreplay hx hlast
    exact ⟨u, hu, hout, hheld, hlastAck, hsent, hmem⟩
  · exact absurd h.2.2 (Nat.not_le.2 hlast)

end Sys2Proof.Machine

/-! ## Trail links: retrains (R331 to R335, R689)

How a link loses its lanes, agrees on a width and comes up again: first the state of the link and what keeps it, then what each step of a
retrain leaves, then the commands. -/

namespace Sys2Proof.Machine
open Sys2Proof

/-! ### The state of a link (R356) -/

/-- Another field of the same register keeps what it held. -/
theorem fld_setFld_same (s : State) (off hi lo v hi' lo' : Nat) (h : hi' < lo ∨ hi < lo') (hl : lo ≤ hi) (hl' : lo' ≤ hi') :
    (s.setFld off hi lo v).fld off hi' lo' = s.fld off hi' lo' := fld_setFld_ne _ _ _ _ _ _ _ _ (.inr h) hl hl'

theorem reg_setLink (s : State) (n : Nat) (x : Link) (off : Nat) : (s.setLink n x).reg off = s.reg off := rfl
theorem fld_setLink (s : State) (n : Nat) (x : Link) (off hi lo : Nat) : (s.setLink n x).fld off hi lo = s.fld off hi lo := rfl

/-- The link of octet `n` has come to state `st`; beside links and registers, only messages and records may differ. -/
def State.linkComes (s u : State) (n st : Nat) : Prop := u.unnoted = s.unnoted ∧ u.linkState n = st

section
variable {s u v : State} {n st : Nat}

theorem State.linkComes.mem (h : s.linkComes u n st) : u.mem = s.mem := unnoted_field h.1 State.mem
theorem State.linkComes.threads (h : s.linkComes u n st) : u.threads = s.threads := unnoted_field h.1 State.threads

theorem not_mem_noteRegs_status (n : Nat) : regTrlStatus n ∉ noteRegs := not_mem_noteRegs (by unfold regTrlStatus; omega)
theorem not_mem_countRegs_status (n m : Nat) : regTrlStatus n ∉ countRegs m := not_mem_countRegs m (by unfold regTrlStatus; omega)

/-- Counts and records leave the status of a link. -/
theorem State.counts.status {m : Nat} (h : s.counts u m) (n hi lo : Nat) : u.fld (regTrlStatus n) hi lo = s.fld (regTrlStatus n) hi lo :=
  h.fld (not_mem_noteRegs_status n) (not_mem_countRegs_status n m) hi lo

theorem State.counts.neighbour {m : Nat} (h : s.counts u m) (n : Nat) : u.reg (regTrlNeighbour n) = s.reg (regTrlNeighbour n) :=
  h.regs _ (not_mem_noteRegs (by unfold regTrlNeighbour; omega)) (not_mem_countRegs m (by unfold regTrlNeighbour; omega))

theorem State.linkComes.counts (h : s.linkComes u n st) (hv : u.counts v n) : s.linkComes v n st :=
  ⟨hv.unnoted.trans h.1, (hv.status n 2 0).trans h.2⟩

theorem State.linkComes.notes (h : s.linkComes u n st) (hv : u.notes v) : s.linkComes v n st :=
  ⟨hv.1.trans h.1, (hv.regs.fld (not_mem_noteRegs_status n) 2 0).trans h.2⟩

theorem State.linkComes.modLink (h : s.linkComes u n st) (m : Nat) (f : Link → Link) : s.linkComes (u.modLink m f) n st := h

theorem State.linkComes.setLink (h : s.linkComes u n st) (m : Nat) (x : Link) : s.linkComes (u.setLink m x) n st := h

/-- Another field of the status is written. -/
theorem State.linkComes.setStatus (h : s.linkComes u n st) {hi lo : Nat} (v : Nat) (hlo : 2 < lo) (hl : lo ≤ hi) :
    s.linkComes (u.setFld (regTrlStatus n) hi lo v) n st := ⟨h.1, (fld_setFld_same _ _ _ _ _ _ _ (.inl hlo) hl (by decide)).trans h.2⟩

theorem linkComes_setLinkState (h : u.unnoted = s.unnoted) (hst : st < 8) : s.linkComes (u.setLinkState n st) n st :=
  ⟨h, (fld_setFld _ _ _ _ _ (by decide) (by decide)).trans (Nat.mod_eq_of_lt hst)⟩

theorem linkComes_of_counts (h : s.counts u n) (hst : s.linkState n = st) : s.linkComes u n st := State.linkComes.counts ⟨rfl, hst⟩ h

end

theorem ce_counts (s : State) (n die src code realm : Nat) (ps : List Nat) : s.counts (s.ce die src code realm ps) n :=
  counts_trans (emit_counts s n die src code realm ps)
    (counts_trans (addFld_counts _ n 63 32 1 (.inl (by decide))) (noticeDue_counts _ n code realm _ false))

/-! ### Partial resets and full retrains (R332, R335) -/

/-- The link of an end that begins a partial reset. -/
def Link.resets (l : Link) : Link := { l with full := false, agreeing := none, met := false, out := [l.marker] }

/-- The link of an end that begins a full retrain. -/
def Link.retrains (l : Link) : Link := { l with full := true, agreeing := none, met := false, out := [l.marker] }

/-- A link in state up begins a partial reset. -/
theorem partialReset_up {s : State} {n : Nat} (h : s.linkState n = linkUp) (cause : Nat) :
    s.linkComes (s.partialReset n cause) n linkTrainingSt ∧ ∃ y r, (s.partialReset n cause).link n =
      Link.resets { s.link n with laneSyms := y, resent := r } := by
  unfold State.partialReset
  rw [if_pos (.inl h)]
  extract_lets t
  have ht : s.counts t n := counts_trans (emit_counts s n _ _ _ _ _) (addFld_counts _ n _ _ _ (.inr (by simp [countRegs])))
  obtain ⟨y, r, hlink⟩ := ht.link
  refine ⟨(linkComes_setLinkState ht.unnoted (by decide)).modLink n Link.resets, y, r, ?_⟩
  rw [← hlink]
  exact link_modLink (t.setLinkState n linkTrainingSt) n Link.resets

theorem fullRetrain_begins {s u : State} {n : Nat} (h : u.unnoted = s.unnoted) :
    s.linkComes (u.fullRetrain n) n linkTrainingSt ∧ (u.fullRetrain n).link n = (u.link n).retrains :=
  ⟨((linkComes_setLinkState h (by decide)).counts (addFld_counts _ n 15 0 1 (.inr (by simp [countRegs])))).modLink n _, link_modLink _ n _⟩

/-- The third failed attempt fences the link (R335). -/
theorem retrainFailed_third {s : State} {n : Nat} (last : Nat) (h : (s.link n).attempts = 2) :
    s.linkComes (s.retrainFailed n last) n linkFenced ∧ ((s.retrainFailed n last).link n).queue = [] := by
  unfold State.retrainFailed
  extract_lets t
  have ht : t.link n = { s.link n with attempts := (s.link n).attempts + 1 } := link_modLink s n _
  rw [if_pos (by rw [ht, h])]
  unfold State.fenceLink
  extract_lets l nb a b c e
  have hb : s.linkComes b n linkFenced :=
    (linkComes_setLinkState (s := s) (u := t) rfl (by decide)).setStatus (hi := 15) (lo := 8) 0 (by decide) (by decide)
  have hc := emit_counts b n 12 (56 + n) 0x7004 0 [n, l.attempts, last]
  have he : c.notes e ∧ e.links = c.links := by
    simp only [e]
    split
    · exact ⟨sendMgmt_notes c _ _ _, rfl⟩
    · exact ⟨notes_refl c, rfl⟩
  obtain ⟨hnotes, hlinks⟩ := he
  refine ⟨((hb.counts hc).notes hnotes).notes (localEvent_notes e _ _ _ _), ?_⟩
  have hqueue : (e.link n).queue = (c.link n).queue := by rw [State.link, State.link, hlinks]
  exact hqueue.trans ((hc.field (·.queue)).trans (congrArg (·.queue) (link_setLink_self a n _)))

/-! ### The way up (R333, R334) -/

/-- R334 names widths 1 to 3, and 0 for none. -/
theorem widthOf_lt (m : BitVec 8) (most : Nat) : (widthOf m most).1 < 4 := by
  unfold widthOf
  extract_lets has
  split_ifs <;> decide

/-- Without a flit held nothing is sent again. -/
theorem resendAll_nil {s : State} {n : Nat} (h : (s.link n).replay = []) : s.resendAll n = s := by
  unfold State.resendAll
  simp only [h, List.getLast?_nil]

/-- A link that is not isolated and holds no flit comes up at its width. -/
theorem enterUp_up {s : State} {n w : Nat} (lanes : Nat) (hiso : (s.link n).isolated = false) (hreplay : (s.link n).replay = []) (hw : w < 4) :
    s.linkComes (s.enterUp n w lanes) n linkUp ∧ (s.enterUp n w lanes).fld (regTrlStatus n) 7 6 = w ∧
      ((s.enterUp n w lanes).link n).attempts = 0 := by
  unfold State.enterUp
  extract_lets old a b c d
  have hb : b = a.setLinkState n linkUp := congrArg (a.setLinkState n) (if_neg (by rw [show a.link n = s.link n from rfl, hiso]; decide))
  have hd : c.counts d n := by
    simp only [d]
    split
    · exact ce_counts c n _ _ _ _ _
    · exact counts_refl c n
  have hlink : c.link n = _ := link_modLink b n _
  have hheldb : (b.link n).replay = [] := by
    rw [hb]
    exact hreplay
  have hheld : (d.link n).replay = [] := (hd.field (·.replay)).trans ((congrArg (·.replay) hlink).trans (List.map_eq_nil_iff.2 hheldb))
  rw [resendAll_nil hheld]
  refine ⟨((hb ▸ linkComes_setLinkState (s := s) (u := a) rfl (by decide) : s.linkComes b n linkUp).modLink n _).counts hd, ?_,
    (hd.field (·.attempts)).trans (congrArg (·.attempts) hlink)⟩
  refine (hd.status n 7 6).trans ((fld_of_regs (show c.regs = b.regs from rfl) _ 7 6).trans ?_)
  rw [hb]
  simp (disch := decide) only [State.setLinkState, a, fld_setFld_same, fld_setFld]
  exact Nat.mod_eq_of_lt hw

end Sys2Proof.Machine

namespace Sys2Proof.Machine
open Sys2Proof

/-! ### Loss of lanes (R332, R689) -/

/-- A link in state up trains, and keeps its queue. -/
theorem partialReset_trains {n : Nat} {s : State} (hup : s.linkState n = linkUp) (cause : Nat) : let u := s.partialReset n cause
    u.linkState n = linkTrainingSt ∧ u.mem = s.mem ∧ u.threads = s.threads ∧ (u.link n).queue = (s.link n).queue := by
  obtain ⟨hcomes, y, r, hlink⟩ := partialReset_up hup cause
  exact ⟨hcomes.2, hcomes.mem, hcomes.threads, congrArg (·.queue) hlink⟩

section
variable {n : Octet} {s : State} (htrail : s.isTrail n.val = true)
include htrail

theorem execTrainingMarker_trains (mask : BitVec 8) (hup : s.linkState n.val = linkUp) : Ends (.trainingMarker n mask) s (fun u =>
    u.linkState n.val = linkTrainingSt ∧ u.mem = s.mem ∧ u.threads = s.threads ∧ (u.link n.val).queue = (s.link n.val).queue) := by
  rw [Ends, exec_trainingMarker]
  unfold execTrainingMarker
  extract_lets st t
  rw [if_neg (by simp [htrail, st, hup, linkUp, linkFenced, linkDownSt]), if_pos (.inl hup)]
  have hcomes : s.linkComes ((t.setLinkState n.val linkTrainingSt).modLink n.val Link.resets) n.val linkTrainingSt :=
    (linkComes_setLinkState (u := t) rfl (by decide)).modLink n.val _
  refine ⟨_, rfl, hcomes.2, hcomes.mem, hcomes.threads, (congrArg (·.queue) (link_modLink (t.setLinkState n.val linkTrainingSt) n.val _)).trans ?_⟩
  exact congrArg (·.queue) (link_modLink s n.val (fun l => { l with far := mask }))

/-- A lane at its limit leaves the good lanes. -/
theorem execLaneLimit_resets (lane : Fin 8) (hup : s.linkState n.val = linkUp) (hon : s.fld (regTrlLinkctl n.val) 15 4 ≠ 0)
    (hlimit : s.fld (regTrlLinkctl n.val) 15 4 ≤ s.laneSum n.val lane.val) : Ends (.laneLimit n lane) s (fun u =>
      u.linkState n.val = linkTrainingSt ∧ (u.link n.val).good = (s.link n.val).good &&& ~~~(BitVec.ofNat 8 (2 ^ lane.val)) ∧ u.mem = s.mem) := by
  rw [Ends, exec_laneLimit]
  unfold execLaneLimit
  extract_lets limit
  rw [if_pos ⟨by simp [State.linkCarries, htrail, hup], hon, hlimit⟩]
  obtain ⟨hcomes, y, r, hlink⟩ := partialReset_up (s := s.modLink n.val (fun l => { l with
    good := l.good &&& ~~~(BitVec.ofNat 8 (2 ^ lane.val)), laneSyms := Tbl.erase l.laneSyms lane.val })) hup 3
  exact ⟨_, rfl, hcomes.2, (congrArg (·.good) hlink).trans (congrArg (·.good) (link_modLink s n.val _)), hcomes.mem⟩

/-- The far end is silent: a full retrain begins. -/
theorem execLinkDown_retrains (hup : s.linkState n.val = linkUp) (hmode : s.mode ≠ modeTrain) : Ends (.linkDown n) s (fun u =>
    u.linkState n.val = linkTrainingSt ∧ (u.link n.val).full = true ∧ (u.link n.val).attempts = 0 ∧ u.mem = s.mem) := by
  rw [Ends, exec_linkDown]
  unfold execLinkDown
  extract_lets st nb a b
  rw [if_neg (by simp [htrail, st, hup, hmode, linkUp, linkFenced, linkDownSt])]
  have hb : a.notes b := notes_ite (sendMgmt_notes a _ _ _) (notes_refl a)
  have hnotes : s.notes b := notes_trans (emit_notes s _ _ _ _ _) hb
  obtain ⟨hcomes, hlink⟩ := fullRetrain_begins (s := s) (u := b.modLink n.val (fun l => { l with attempts := 0 })) (n := n.val) hnotes.1
  refine ⟨_, rfl, hcomes.2, congrArg (·.full) hlink, (congrArg (·.attempts) hlink).trans ?_, hcomes.mem⟩
  exact congrArg (·.attempts) (link_modLink b n.val _)

end

/-! ### Width agreement (R333, R334) -/

section
variable {n : Octet} {f : Flit} {s : State}

theorem execPartialResetDone_agrees {good : BitVec 8} (hst : s.linkState n.val = linkTrainingSt) (hfull : (s.link n.val).full = false)
    (hmode : s.mode ≠ modeTrain) : Ends (.partialResetDone n good) s (fun u => u.linkState n.val = linkAgreeing ∧
      (u.link n.val).good = (s.link n.val).good &&& good ∧ (u.link n.val).agreeing = some s.clause ∧ u.mem = s.mem) := by
  rw [Ends, exec_partialResetDone]
  unfold execPartialResetDone
  extract_lets l g
  rw [if_pos ⟨hst, by simp [l, hfull], hmode⟩]
  have hlink := link_setLink_self (s.setLinkState n.val linkAgreeing) n.val
    { l with good := g, agreeing := some s.clause, met := false, out := [l.widthFlit g (widthOf g 3).1 false] }
  have hcomes : s.linkComes (s.setLinkState n.val linkAgreeing) n.val linkAgreeing := linkComes_setLinkState rfl (by decide)
  exact ⟨_, rfl, hcomes.2, congrArg (·.good) hlink, congrArg (·.agreeing) hlink, rfl⟩

theorem execWidthControlFlit_intact {mask : BitVec 8} {prop : BitVec 2} {confirm : Bool} (hst : s.linkState n.val = linkAgreeing)
    (hintact : f.intact = true) (hkind : f.kind = kindWidth) : exec (.widthControlFlit n f mask prop confirm) s =
      .next ((s.decoded n.val f.rx).agreeWidth n.val mask prop confirm) := by
  rw [exec_widthControlFlit, execWidthControlFlit, if_pos hst, onControl]
  simp [hintact, hkind]

/-- Counts leave which widths are usable. -/
theorem State.counts.widthOk {u : State} {n : Nat} (h : s.counts u n) (w : Nat) : u.widthOk n w = s.widthOk n w := by
  rw [State.widthOk, State.widthOk, h.fld (not_mem_noteRegs (by unfold regTrlLinkctl; omega)) (not_mem_countRegs n (by unfold regTrlLinkctl; omega))]

/-- The two masks meet at a usable width. -/
theorem execWidthControlFlit_meets {mask : BitVec 8} {prop : BitVec 2} (hst : s.linkState n.val = linkAgreeing) (hintact : f.intact = true)
    (hkind : f.kind = kindWidth) (hok : s.widthOk n.val (widthOf ((s.link n.val).good &&& mask)
      (if prop.toNat < (widthOf (s.link n.val).good 3).1 then prop.toNat else (widthOf (s.link n.val).good 3).1)).1 = true) :
    Ends (.widthControlFlit n f mask prop false) s (fun u => u.linkState n.val = linkAgreeing ∧ (u.link n.val).met = true ∧
      (u.link n.val).far = mask ∧ u.mem = s.mem) := by
  have hd := decoded_counts s n.val f.rx
  have hcomes := linkComes_of_counts hd hst
  rw [← hd.widthOk, ← hd.field (·.good)] at hok
  rw [Ends, execWidthControlFlit_intact hst hintact hkind]
  unfold State.agreeWidth
  extract_lets l mine most far
  simp only [Bool.false_eq_true, if_false]
  rw [if_neg (by simpa [far] using hok)]
  refine ⟨_, rfl, hcomes.2, ?_, ?_, hcomes.mem⟩
  · exact congrArg (·.met) (link_setLink_self _ n.val _)
  · exact congrArg (·.far) (link_setLink_self _ n.val _)

/-- The confirmation brings the link up. -/
theorem execWidthControlFlit_confirms {mask : BitVec 8} {prop : BitVec 2} (hst : s.linkState n.val = linkAgreeing) (hintact : f.intact = true)
    (hkind : f.kind = kindWidth) (hmet : (s.link n.val).met = true) (hiso : (s.link n.val).isolated = false)
    (hreplay : (s.link n.val).replay = []) : Ends (.widthControlFlit n f mask prop true) s (fun u =>
      u.linkState n.val = linkUp ∧ (u.link n.val).attempts = 0 ∧ u.mem = s.mem) := by
  have hd := decoded_counts s n.val f.rx
  rw [Ends, execWidthControlFlit_intact hst hintact hkind]
  unfold State.agreeWidth
  extract_lets l mine most far
  simp only [if_true]
  rw [if_pos ((hd.field (·.met)).trans hmet)]
  obtain ⟨hcomes, -, hattempts⟩ := enterUp_up (widthOf (l.good &&& far) most).2 ((hd.field (·.isolated)).trans hiso)
    ((hd.field (·.replay)).trans hreplay) (widthOf_lt (l.good &&& far) most)
  exact ⟨_, rfl, hcomes.2, hattempts, hcomes.mem.trans hd.mem⟩

/-- Without a confirmation within 64 clauses a full retrain begins. -/
theorem execWidthConfirmTimeout_retrains {c : Word} (hst : s.linkState n.val = linkAgreeing) (hc : (s.link n.val).agreeing = some c)
    (hlate : c.toNat + 64 ≤ s.clause.toNat) : Ends (.widthConfirmTimeout n) s (fun u =>
      u.linkState n.val = linkTrainingSt ∧ (u.link n.val).full = true ∧ u.mem = s.mem) := by
  rw [Ends, exec_widthConfirmTimeout]
  unfold execWidthConfirmTimeout
  simp only [hc]
  rw [if_pos ⟨hst, hlate⟩]
  obtain ⟨hcomes, hlink⟩ := fullRetrain_begins (n := n.val) (emit_notes s 12 (56 + n.val) 0x7002 0
    [n.val, (s.link n.val).good.toNat + (widthOf (s.link n.val).good 3).1 * 256,
      (s.link n.val).far.toNat + (widthOf (s.link n.val).far 3).1 * 256]).1
  exact ⟨_, rfl, hcomes.2, congrArg (·.full) hlink, hcomes.mem⟩

theorem execWidthConfirmTimeout_early {c : Word} (hc : (s.link n.val).agreeing = some c) (hearly : s.clause.toNat < c.toNat + 64) :
    exec (.widthConfirmTimeout n) s = .next s := by
  rw [exec_widthConfirmTimeout]
  unfold execWidthConfirmTimeout
  simp only [hc]
  exact if_neg (fun h => absurd h.2 (Nat.not_le.2 hearly))

/-! ### Full retrains (R335) -/

/-- A full retrain that finds a usable width brings the link up. -/
theorem execFullRetrainDone_up {good far : BitVec 8} (hst : s.linkState n.val = linkTrainingSt) (hfull : (s.link n.val).full = true)
    (hiso : (s.link n.val).isolated = false) (hreplay : (s.link n.val).replay = []) (hok : s.widthOk n.val (widthOf (good &&& far) 3).1 = true) :
    Ends (.fullRetrainDone n true good far) s (fun u => u.linkState n.val = linkUp ∧
      u.fld (regTrlStatus n.val) 7 6 = (widthOf (good &&& far) 3).1 ∧ u.mem = s.mem) := by
  rw [Ends, exec_fullRetrainDone]
  unfold execFullRetrainDone
  extract_lets l
  rw [if_pos ⟨hst, hfull⟩]
  simp only [hok, Bool.and_self, if_true]
  have hlink := link_setLink_self s n.val { l with good := good, far := far }
  obtain ⟨hcomes, hwidth, -⟩ := enterUp_up (widthOf (good &&& far) 3).2 ((congrArg (·.isolated) hlink).trans hiso)
    ((congrArg (·.replay) hlink).trans hreplay) (widthOf_lt (good &&& far) 3)
  exact ⟨_, rfl, hcomes.2, hwidth, hcomes.mem⟩

theorem execFullRetrainDone_fences {good far : BitVec 8} (hst : s.linkState n.val = linkTrainingSt) (hfull : (s.link n.val).full = true)
    (hattempts : (s.link n.val).attempts = 2) : Ends (.fullRetrainDone n false good far) s (fun u =>
      u.linkState n.val = linkFenced ∧ (u.link n.val).queue = [] ∧ u.mem = s.mem) := by
  rw [Ends, exec_fullRetrainDone]
  unfold execFullRetrainDone
  extract_lets l
  rw [if_pos ⟨hst, hfull⟩]
  simp only [Bool.false_and, Bool.false_eq_true, if_false]
  obtain ⟨hcomes, hqueue⟩ := retrainFailed_third (widthOf (good &&& far) 3).1 hattempts
  exact ⟨_, rfl, hcomes.2, hqueue, hcomes.mem⟩

/-! ### Training in TRAIN (R331) -/

/-- What the registers of an octet show once its training has found the width `w`, a neighbour and that neighbour's octet. -/
def State.linkTrained (s : State) (n : Nat) (w : Nat × Nat) (serial : Word) (o : Nat) : State :=
  ((((s.setReg (regTrlNeighbour n) serial).setFld (regTrlStatus n) 27 24 o).setFld (regTrlStatus n) 7 6 w.1).setFld (regTrlStatus n) 15 8
    w.2).setLinkState n linkUp

theorem linkTrained_reg (s : State) (n : Nat) (w : Nat × Nat) (serial : Word) (o : Nat) :
    (s.linkTrained n w serial o).reg (regTrlNeighbour n) = serial := by
  have hne : regTrlNeighbour n ≠ regTrlStatus n := by simp [regTrlNeighbour, regTrlStatus]
  rw [State.linkTrained, State.setLinkState, reg_setFld_ne _ _ _ _ _ _ hne, reg_setFld_ne _ _ _ _ _ _ hne, reg_setFld_ne _ _ _ _ _ _ hne,
    reg_setFld_ne _ _ _ _ _ _ hne, reg_setReg, if_pos rfl]

theorem linkTrained_status (s : State) (n : Nat) {w : Nat × Nat} (serial : Word) {o : Nat} (hw : w.1 < 4) (ho : o < 16) :
    (s.linkTrained n w serial o).fld (regTrlStatus n) 27 24 = o ∧ (s.linkTrained n w serial o).fld (regTrlStatus n) 7 6 = w.1 := by
  simp (disch := decide) only [State.linkTrained, State.setLinkState, fld_setFld_same, fld_setFld]
  exact ⟨Nat.mod_eq_of_lt ho, Nat.mod_eq_of_lt hw⟩

/-- An octet whose training finds a usable width is up, with its neighbour's serial and octet. -/
theorem execLinkTrainingDone_up {o : Octet} {good far : BitVec 8} {serial : Word} (hrun : s.mode = modeTrain ∧ s.isTrail n.val ∧
    s.linkState n.val = linkTrainingSt) (hok : s.widthOk n.val (widthOf (good &&& far) 3).1 = true) :
    Ends (.linkTrainingDone n good far serial o) s (fun u => u.linkState n.val = linkUp ∧ u.reg (regTrlNeighbour n.val) = serial ∧
      u.fld (regTrlStatus n.val) 27 24 = o.val ∧ u.fld (regTrlStatus n.val) 7 6 = (widthOf (good &&& far) 3).1 ∧ u.mem = s.mem) := by
  generalize hw : widthOf (good &&& far) 3 = w at hok ⊢
  have hexec : exec (.linkTrainingDone n good far serial o) s = .next (((s.linkTrained n.val w serial o.val).setLink n.val
      { good := good, far := far }).emit 12 (56 + n.val) 0x7000 0 [n.val, w.1, w.2, bits serial 31 0]) := by
    rw [exec_linkTrainingDone, execLinkTrainingDone, if_pos hrun, hw]
    exact if_pos hok
  have hup : s.linkComes ((s.linkTrained n.val w serial o.val).setLink n.val { good := good, far := far }) n.val linkUp :=
    (linkComes_setLinkState rfl (by decide)).setLink n.val _
  have hserial := linkTrained_reg s n.val w serial o.val
  obtain ⟨hoctet, hwidth⟩ := linkTrained_status s n.val serial (hw ▸ widthOf_lt (good &&& far) 3 : w.1 < 4) (show o.val < 16 by omega)
  have hu := emit_counts ((s.linkTrained n.val w serial o.val).setLink n.val { good := good, far := far }) n.val 12 (56 + n.val) 0x7000 0
    [n.val, w.1, w.2, bits serial 31 0]
  have hcomes := hup.counts hu
  refine ⟨_, hexec, hcomes.2, (hu.neighbour n.val).trans ((reg_setLink ..).trans hserial),
    (hu.status n.val 27 24).trans ((fld_setLink ..).trans hoctet), (hu.status n.val 7 6).trans ((fld_setLink ..).trans hwidth), hcomes.mem⟩

end

/-- Settles O37: one lemma for each step of a retrain and each of its outcomes. -/
theorem retrains : Obligations.Retrains := by
  refine ⟨?_, ?_⟩
  · intro n f lane good far mask prop c s l st dest htrail
    exact ⟨fun hup => ⟨⟨_, congrArg Host.Outcome.next (if_pos htrail), partialReset_trains hup 2⟩,
        ⟨_, congrArg Host.Outcome.next (if_pos htrail), partialReset_trains hup 4⟩, execTrainingMarker_trains htrail mask hup⟩,
      execLaneLimit_resets htrail lane, execPartialResetDone_agrees, execWidthControlFlit_meets, execWidthControlFlit_confirms,
      execWidthConfirmTimeout_retrains, execWidthConfirmTimeout_early, execFullRetrainDone_up, execFullRetrainDone_fences,
      execLinkDown_retrains htrail⟩
  · intro n o good far serial s hmode htrail hst
    have hdown : s.linkComes (s.setLinkState n.val linkDownSt) n.val linkDownSt := linkComes_setLinkState rfl (by decide)
    refine ⟨execLinkTrainingDone_up ⟨hmode, htrail, hst⟩, fun hbad => ⟨_, ?_, hdown.2, hdown.mem⟩,
      ⟨_, if_pos ⟨hmode, htrail, hst⟩, hdown.2, hdown.mem, hdown.threads⟩⟩
    rw [exec_linkTrainingDone, execLinkTrainingDone, if_pos ⟨hmode, htrail, hst⟩]
    simp only [hbad, Bool.false_eq_true, if_false]

end Sys2Proof.Machine

/-! ## Routes and the regime (R341, R342, R348)

What a change of routes writes and what it only sends, on a member and on the manager, and the regime in the home agents. -/

namespace Sys2Proof.Machine
open Sys2Proof

/-! ### Messages on their way by the routes (R339 to R341) -/

theorem State.received.image {s u : State} (h : s.received u) : u.image = s.image := by
  obtain ⟨l, v, rfl⟩ := h
  rfl

theorem State.received.sameMachine {s u : State} (h : s.received u) : s.sameMachine u := h.notes.sameMachine

theorem floodPkt_notes (s : State) (k : Pkt) : s.notes (s.floodPkt k) := by
  unfold State.floodPkt
  exact notes_trans (b := { s with image := { s.image with floods := _, floodSeq := _ } }) ⟨rfl, fun _ _ => rfl⟩ (queueOn_notes _ _ _)

theorem route_notes (s : State) (k : Pkt) : s.notes (s.route k) := by
  unfold State.route
  extract_lets w anyUp
  refine notes_ite (floodPkt_notes s k) ?_
  split
  · exact queueOn_notes s k _
  · exact notes_refl s

theorem routes_notes (ks : List Pkt) (s : State) : s.notes (ks.foldl State.route s) := by
  induction ks generalizing s with
  | nil => exact notes_refl s
  | cons k ks ih => exact notes_trans (route_notes s k) (ih _)

/-- Stranded messages go by the new routes: nothing but the links and the floods differs. -/
theorem sendStranded_notes (l : List Nat) (s : State) : s.notes (s.sendStranded l) := by
  induction l generalizing s with
  | nil => exact notes_refl s
  | cons n l ih =>
    unfold State.sendStranded
    extract_lets x late ks t
    exact notes_trans (b := t) ⟨rfl, fun _ _ => rfl⟩ (notes_trans (routes_notes ks t) (ih _))

/-! ### The route table (R338, R341 step 5) -/

theorem writeRoutes_unnoted (rs : List Word) (l : List Nat) (s : State) : (s.writeRoutes rs l).unnoted = s.unnoted := by
  induction l generalizing s with
  | nil => rfl
  | cons d l ih => exact ih _

theorem writeRoutes_image (rs : List Word) (l : List Nat) (s : State) : (s.writeRoutes rs l).image = s.image := by
  induction l generalizing s with
  | nil => rfl
  | cons d l ih => exact ih _

theorem writeRoutes_reg_ne (rs : List Word) {off : Nat} (l : List Nat) (h : ∀ d ∈ l, off ≠ regTrlRoute d) (s : State) :
    (s.writeRoutes rs l).reg off = s.reg off := by
  induction l generalizing s with
  | nil => rfl
  | cons d l ih =>
    rw [State.writeRoutes, ih (fun e he => h e (List.mem_cons_of_mem d he)), reg_setReg, if_neg (h d List.mem_cons_self)]

theorem writeRoutes_reg (rs : List Word) {d : Nat} (l : List Nat) (h : d ∈ l) (s : State) :
    (s.writeRoutes rs l).reg (regTrlRoute d) = rs.getD d 0 := by
  induction l generalizing s with
  | nil => exact absurd h List.not_mem_nil
  | cons e l ih =>
    rw [State.writeRoutes]
    by_cases hd : d ∈ l
    · exact ih hd _
    · obtain rfl := (List.mem_cons.1 h).resolve_right hd
      rw [writeRoutes_reg_ne rs l (fun x hx => ?_), reg_setReg, if_pos rfl]
      intro heq
      have : d = x := by
        unfold regTrlRoute at heq
        omega
      exact hd (this ▸ hx)

/-- A register below the route table, or beside it. -/
theorem ne_regTrlRoute {off : Nat} (h : off < 0xc08100 ∨ 0xc08200 ≤ off) : ∀ d ∈ upTo 32, off ≠ regTrlRoute d := by
  intro d hd
  have hlt : d < 32 := List.mem_range.1 hd
  unfold regTrlRoute
  omega

/-- The octets that carry Trail are a matter of their roles. -/
theorem trailOctets_congr {s u : State} (h : ∀ n, u.reg (regOctCfg n) = s.reg (regOctCfg n)) : u.trailOctets = s.trailOctets := by
  have htrail : u.isTrail = s.isTrail := funext (fun n => by rw [State.isTrail, State.isTrail, State.fld, State.fld, h])
  rw [State.trailOctets, State.trailOctets, htrail]

/-- At the switch nothing is held any more, whatever was stranded goes. -/
theorem switchRoutes_releases (s : State) : s.switchRoutes.image.held = false ∧ s.switchRoutes.image.newRoutes = [] ∧
    s.switchRoutes.image.change = s.image.change ∧ s.sameMachine s.switchRoutes := by
  unfold State.switchRoutes
  extract_lets a i b
  have ha : a.unnoted = s.unnoted := by
    simp only [a]
    split
    · rfl
    · exact writeRoutes_unnoted _ _ _
  have hn := sendStranded_notes b.trailOctets b
  refine ⟨hn.unnoted (fun x : State => x.image.held), hn.unnoted (fun x : State => x.image.newRoutes),
    (hn.unnoted (fun x : State => x.image.change)).trans (unnoted_field ha (fun x : State => x.image.change)), hn.mem.trans
      (unnoted_field ha State.mem), (hn.unnoted State.threads).trans (unnoted_field ha State.threads),
      (hn.unnoted State.cores).trans (unnoted_field ha State.cores)⟩

/-- The stored routes are in force. -/
theorem switchRoutes_routes {s : State} (h : s.image.newRoutes ≠ []) {d : Nat} (hd : d < 32) :
    s.switchRoutes.reg (regTrlRoute d) = s.image.newRoutes.getD d 0 := by
  have hmem : d ∈ upTo 32 := List.mem_range.2 hd
  unfold State.switchRoutes
  rw [if_neg h]
  generalize upTo 32 = l at hmem
  extract_lets a i b
  have hlog : regTrlRoute d ∉ noteRegs := not_mem_noteRegs (by unfold regTrlRoute; omega)
  refine ((sendStranded_notes b.trailOctets b).regs _ hlog).trans ?_
  exact writeRoutes_reg _ l hmem s

/-! ### The change of routes (R341, R342) -/

section
variable {s : State}

theorem execRouteWrite_stores {gen : BitVec 16} {routes : List Word} (hm : s.mode ≠ modeJoin) : Ends (.routeWrite gen routes) s (fun u =>
    u.image.newRoutes = routes ∧ u.image.gen = gen ∧ u.regs = s.regs ∧ s.sameMachine u) := by
  rw [Ends, exec_routeWrite]
  unfold execRouteWrite
  extract_lets v
  have hv : s.received v := firstDelivered_received s _
  rw [if_neg (fun h => hm (hv.notes.regs.mode.symm.trans h.1))]
  exact ⟨_, rfl, rfl, rfl, hv.regs, hv.sameMachine⟩

theorem execRouteHold_holds (s : State) : Ends .routeHold s (fun u => u.image.held = true ∧ u.image.holdDone = false ∧ u.regs = s.regs ∧
    s.sameMachine u) :=
  ⟨_, rfl, rfl, rfl, (takeMgmt_received s .routeHold s.managerNum).regs, (takeMgmt_received s .routeHold s.managerNum).sameMachine⟩

theorem execRouteSwitch_switches {routes : List Word} (h : s.image.newRoutes = routes) (hne : routes ≠ []) : Ends .routeSwitch s (fun u =>
    u.image.held = false ∧ u.image.newRoutes = [] ∧ (∀ d, d < 32 → u.reg (regTrlRoute d) = routes.getD d 0) ∧ s.sameMachine u) := by
  have hv := takeMgmt_received s .routeSwitch s.managerNum
  have hnew : (s.takeMgmt .routeSwitch s.managerNum).image.newRoutes = routes := (congrArg Image.newRoutes hv.image).trans h
  obtain ⟨hheld, hgone, -, hsame⟩ := switchRoutes_releases (s.takeMgmt .routeSwitch s.managerNum)
  refine ⟨_, rfl, hheld, hgone, fun d hd => ?_, sameMachine_trans hv.sameMachine hsame⟩
  rw [switchRoutes_routes (hnew ▸ hne) hd, hnew]

/-- The manager waits for the members that have not reported. -/
theorem execHoldDone_waits {p : Pkg} {q : Nat} {c : RouteChange} (hc : s.image.change = some c) (hw : c.waiting = [p.toNat, q])
    (hq : q ≠ p.toNat) : Ends (.holdDone p) s (fun u => u.image.change = some { c with waiting := [q] } ∧ s.sameMachine u) := by
  rw [Ends, exec_holdDone]
  unfold execHoldDone
  extract_lets v
  have hv := takeMgmt_received s .holdDone p.toNat
  have hleft : c.waiting.filter (· ≠ p.toNat) = [q] := by simp [hw, hq]
  rw [show v.image.change = some c from (congrArg Image.change hv.image).trans hc]
  simp only [hleft]
  exact ⟨_, rfl, rfl, hv.sameMachine⟩

/-- The last report completes the change: the routes are switched on every member. -/
theorem execHoldDone_completes {p : Pkg} {c : RouteChange} (hc : s.image.change = some c) (hw : c.waiting = [p.toNat]) :
    Ends (.holdDone p) s (fun u => u.image.change = none ∧ u.image.held = false ∧ s.sameMachine u) := by
  rw [Ends, exec_holdDone]
  unfold execHoldDone
  extract_lets v i a b
  have hv := takeMgmt_received s .holdDone p.toNat
  have hleft : c.waiting.filter (· ≠ p.toNat) = [] := by simp [hw]
  rw [show v.image.change = some c from (congrArg Image.change hv.image).trans hc]
  dsimp -zeta only
  extract_lets w
  rw [if_neg (not_not_intro hleft)]
  have ha := sendAll_notes a .routeSwitch .none a.otherMembers
  obtain ⟨hheld, -, hchange, hsame⟩ := switchRoutes_releases (a.sendAll .routeSwitch .none a.otherMembers)
  have hb := emit_notes b 12 82 0x0095 0 [c.pkg, c.octet, b.clause.toNat - c.started.toNat]
  refine ⟨_, rfl, (hb.unnoted (fun x : State => x.image.change)).trans (hchange.trans (ha.unnoted (fun x : State => x.image.change))),
    (hb.unnoted (fun x : State => x.image.held)).trans hheld, ?_⟩
  exact sameMachine_trans (show s.sameMachine a from hv.sameMachine) (sameMachine_trans ha.sameMachine (sameMachine_trans hsame hb.sameMachine))

/-- A HALT-class error stops a package that is live (R574, R608). -/
theorem haltError_halts (die src code : Nat) (ps : List Nat) (h : s.live) : s.halts (s.haltError die src code ps) := by
  unfold State.haltError
  extract_lets t e m
  have ht : s.notes t := notes_trans (emit_notes s die src code 0 ps) (noteUe_notes _ code)
  obtain ⟨hstandby, hhalt⟩ := ht.regs.live h
  rw [if_neg (by omega)]
  have hr := raiseEvent_notes m (.haltClass (BitVec.ofNat 16 code)) 1 die src
  exact ⟨hr.regs.mode.trans (enterMode_mode t modeHalt 18), hr.alertN, hr.mem.trans ((enterMode_sameMachine t modeHalt 18).1.trans ht.mem)⟩

theorem execRouteChangeTimeout_halts {c : RouteChange} (hc : s.image.change = some c) (hlate : c.started.toNat + 500000 ≤ s.clause.toNat)
    (hl : s.live) : Ends .routeChangeTimeout s s.halts := by
  rw [Ends, exec_routeChangeTimeout, execRouteChangeTimeout, hc]
  dsimp only
  rw [if_pos hlate]
  exact ⟨_, rfl, haltError_halts _ _ _ _ hl⟩

end

/-! ### The regime (R348) -/

theorem setRegime_reg_ne (v : Nat) {off : Nat} (l : List Nat) (h : ∀ n ∈ l, off ≠ regHomStatus n) (s : State) :
    (s.setRegime v l).reg off = s.reg off := by
  induction l generalizing s with
  | nil => rfl
  | cons n l ih =>
    rw [State.setRegime, ih (fun e he => h e (List.mem_cons_of_mem n he)), reg_setFld_ne _ _ _ _ _ _ (h n List.mem_cons_self)]

theorem setRegime_fld (v : Nat) {n : Nat} (l : List Nat) (h : n ∈ l) (s : State) : (s.setRegime v l).fld (regHomStatus n) 1 0 = v % 4 := by
  induction l generalizing s with
  | nil => exact absurd h List.not_mem_nil
  | cons m l ih =>
    rw [State.setRegime]
    by_cases hn : n ∈ l
    · exact ih hn _
    · obtain rfl := (List.mem_cons.1 h).resolve_right hn
      rw [State.fld, setRegime_reg_ne v l (fun x hx => ?_), ← State.fld]
      · exact fld_setFld _ _ _ _ _ (by decide) (by decide)
      · intro heq
        have : n = x := by
          unfold regHomStatus at heq
          omega
        exact hn (this ▸ hx)

theorem setRegime_unnoted (v : Nat) (l : List Nat) (s : State) : (s.setRegime v l).unnoted = s.unnoted := by
  induction l generalizing s with
  | nil => rfl
  | cons n l ih => exact ih _

/-- The regime reaches every home agent, and DRAM and threads are as they were. -/
theorem writeRegime_spec (s : State) {v : Nat} (hv : v < 4) : (∀ n, n < 16 → (s.writeRegime v).fld (regHomStatus n) 1 0 = v) ∧
    (s.writeRegime v).mem = s.mem ∧ (s.writeRegime v).threads = s.threads := by
  unfold State.writeRegime
  extract_lets a
  have ha : a.mem = s.mem ∧ a.threads = s.threads := by
    simp only [a]
    split <;> exact ⟨rfl, rfl⟩
  have hmem : ∀ n, n < 16 → n ∈ upTo 16 := fun n hn => List.mem_range.2 hn
  generalize upTo 16 = l at hmem
  have hu := setRegime_unnoted v l a
  exact ⟨fun n hn => (setRegime_fld v l (hmem n hn) a).trans (Nat.mod_eq_of_lt hv), (unnoted_field hu State.mem).trans ha.1,
    (unnoted_field hu State.threads).trans ha.2⟩

/-- A member writes the regime into each of its home agents. -/
theorem execRegime_writes {s : State} {v : BitVec 2} (hj : s.joined = true) (hv : v ≠ 0) : Ends (.regime v) s (fun u =>
    (∀ n, n < 16 → u.fld (regHomStatus n) 1 0 = v.toNat) ∧ u.mem = s.mem ∧ u.threads = s.threads) := by
  rw [Ends, exec_regime]
  unfold execRegime
  extract_lets t
  have ht : s.notes t := (takeMgmt_received s .regime s.managerNum).notes
  rw [if_pos ⟨ht.regs.joined.trans hj, hv⟩]
  obtain ⟨hfld, hmem, hthreads⟩ := writeRegime_spec t v.isLt
  exact ⟨_, rfl, hfld, hmem.trans ht.mem, hthreads.trans (ht.unnoted State.threads)⟩

/-- Settles O42: one lemma for each message of a route change and each of its outcomes. -/
theorem routesAndRegime : Obligations.RoutesAndRegime := by
  intro gen routes p q c v s
  refine ⟨execRouteWrite_stores, execRouteHold_holds s, fun h hne _ => execRouteSwitch_switches h hne, execHoldDone_waits,
    execHoldDone_completes, execRouteChangeTimeout_halts, fun hc => ?_, execRegime_writes⟩
  rw [exec_routeChangeTimeout, execRouteChangeTimeout, hc]

end Sys2Proof.Machine
/-! ## An image forms (R343 to R345)

DISCOVER, IDENT and ASSIGN on a member, and the end of discovery on the manager. First what the steps of a JOIN leave of the state, then the
tables that each of them writes. -/

namespace Sys2Proof.Machine
open Sys2Proof

/-! ### What the steps of a JOIN leave -/

/-- The state without what records, messages and the steps of a JOIN may write. -/
def State.unformed (s : State) : State :=
  { s.unnoted with homes := [], image := {}, completions := [], longOps := [], tops := [] }

theorem unformed_of_unnoted {s u : State} (h : u.unnoted = s.unnoted) : u.unformed = s.unformed :=
  congrArg (fun x : State => { x with homes := [], image := {}, completions := [], longOps := [], tops := [] }) h

theorem unformed_field {α : Type} {s u : State} (h : u.unformed = s.unformed) (f : State → α) : f u.unformed = f s.unformed := congrArg f h

theorem sameMachine_of_unformed {s u : State} (h : u.unformed = s.unformed) : s.sameMachine u :=
  ⟨unformed_field h State.mem, unformed_field h State.threads, unformed_field h State.cores⟩

/-- A command's completion, with the records before it, leaves this. -/
def State.concludes (s u : State) : Prop :=
  u.unformed = s.unformed ∧ u.image.join = s.image.join ∧ ∀ off, off ∉ noteRegs → off ≠ regEpfStatus → u.reg off = s.reg off

theorem concludes_trans {a b c : State} (h : a.concludes b) (k : b.concludes c) : a.concludes c :=
  ⟨k.1.trans h.1, k.2.1.trans h.2.1, fun off ho he => (k.2.2 off ho he).trans (h.2.2 off ho he)⟩

theorem State.notes.concludes {s u : State} (h : s.notes u) : s.concludes u :=
  ⟨unformed_of_unnoted h.1, h.unnoted (fun x : State => x.image.join), fun off ho _ => h.2 off ho⟩

theorem pushCompletion_concludes (s : State) (x : Completion) : s.concludes (s.pushCompletion x) := by
  unfold State.pushCompletion
  split
  · extract_lets t
    have ht : s.concludes t := (emit_notes s 12 84 0xB004 0 [x.cmd.cmdid.toNat, x.status, x.cmd.ring]).concludes
    split
    · exact concludes_trans ht ⟨rfl, rfl, fun off _ he => reg_setFld_ne _ _ _ _ _ _ he⟩
    · exact ht
  · exact ⟨rfl, rfl, fun _ _ _ => rfl⟩

theorem complete_concludes (s : State) (c : Command) (status : Nat) (r0 r1 : Word) : s.concludes (s.complete c status r0 r1) := by
  unfold State.complete
  split
  · extract_lets t u
    have ht : s.concludes t := by
      simp only [t]
      split
      · exact (emitOrigin_notes _ _ _ _ _).concludes
      · exact (notes_refl s).concludes
    have hu : t.concludes u := ⟨rfl, rfl, fun _ _ _ => rfl⟩
    exact concludes_trans ht (concludes_trans hu (pushCompletion_concludes u _))
  · split
    · exact (sendMgmt_notes s _ _ _).concludes
    · exact (notes_refl s).concludes

theorem queueOn_image (k : Pkt) (l : List Nat) (s : State) : (s.queueOn k l).image = s.image := by
  induction l generalizing s with
  | nil => rfl
  | cons n l ih => exact ih _

theorem floodMgmt_floodSeq (s : State) (ty : MsgType) (b : Body) : (s.floodMgmt ty b).image.floodSeq = s.image.floodSeq + 1 := by
  unfold State.floodMgmt State.flood State.floodPkt
  extract_lets m k outs i t
  exact congrArg Image.floodSeq (queueOn_image _ _ _)

theorem enterMode_image (s : State) (new trans : Nat) : (s.enterMode new trans).image = s.image := emit_image _ _ _ _ _ _

theorem tellLeftOut_notes (ms : List Word) (l : List Word) (s : State) : s.notes (s.tellLeftOut ms l) := by
  induction l generalizing s with
  | nil => exact notes_refl s
  | cons w l ih => exact notes_trans (floodMgmt_notes s _ _) (ih _)

/-! ### DISCOVER and IDENT (R343, R344 step 1) -/

section
variable {s : State}

/-- A package in SEALED that hears of another manager enters JOIN and floods its identity. -/
theorem execDiscover_joins {w : Word} (hm : s.mode = modeSealed) (hw : w ≠ s.reg regMshIoserial) : Ends (.discover w) s (fun u =>
    s.entersMode u modeJoin 7 ∧ s.sameMachine u ∧ u.image.floodSeq = s.image.floodSeq + 1) := by
  rw [Ends, exec_discover]
  unfold execDiscover
  extract_lets v t
  have hv : s.received v := firstDelivered_received s _
  have hmode : v.mode = modeSealed := hv.notes.regs.mode.trans hm
  rw [if_neg (fun h => hw (h.trans (hv.notes.regs _ (by decide)))), if_pos (.inl hmode), show t = v.enterMode modeJoin 7 from if_pos hmode]
  have hf := floodMgmt_notes (v.enterMode modeJoin 7) .ident (.ident (v.enterMode modeJoin 7).ownIdent)
  have hj := enterMode_entersMode v modeJoin 7 (by decide) (by decide)
  refine ⟨_, rfl, ((hj.keeps (hf.regs _ (by decide)) (hf.regs _ (by decide))).from hv.notes.regs.mode hv.notes.clause),
    sameMachine_trans hv.sameMachine (sameMachine_trans (enterMode_sameMachine v modeJoin 7) hf.sameMachine), ?_⟩
  rw [floodMgmt_floodSeq, enterMode_image, hv.image]

/-- The manager notes an identity that it does not know yet. -/
theorem execIdent_notes {i : Ident} {j : JoinJob} (hj : s.image.join = some j) (hstep : j.step = 1)
    (hnew : s.image.idents.any (fun x => decide (x.serial = i.serial)) = false) : Ends (.ident i) s (fun u =>
      u.image.idents = s.image.idents ++ [i] ∧ u.image.lastIdent = s.clause ∧ s.sameMachine u) := by
  rw [Ends, exec_ident]
  unfold execIdent
  extract_lets v
  have hv : s.received v := firstDelivered_received s _
  rw [show v.image.join = some j from (congrArg Image.join hv.image).trans hj]
  dsimp only
  rw [if_neg (not_not_intro hstep), if_neg (by simp only [hv.image, hnew]; decide)]
  exact ⟨_, rfl, congrArg (·.idents ++ [i]) hv.image, hv.notes.clause, hv.sameMachine⟩

end

/-! ### ASSIGN (R344 step 4) -/

/-- Only the states of links differ. -/
theorem openLinks_spec (l : List Nat) (s : State) : (s.openLinks l).unnoted = s.unnoted ∧ (s.openLinks l).image = s.image ∧
    ∀ off, (∀ n ∈ l, off ≠ regTrlStatus n) → (s.openLinks l).reg off = s.reg off := by
  induction l generalizing s with
  | nil => exact ⟨rfl, rfl, fun _ _ => rfl⟩
  | cons n l ih =>
    unfold State.openLinks
    split
    · obtain ⟨hstate, himage, hreg⟩ := ih ((s.setLinkState n linkUp).modLink n (fun x => { x with isolated := false }))
      refine ⟨hstate, himage, fun off h => (hreg off (fun m hm => h m (List.mem_cons_of_mem n hm))).trans ?_⟩
      exact reg_setFld_ne s _ _ _ _ _ (h n List.mem_cons_self)
    · obtain ⟨hstate, himage, hreg⟩ := ih s
      exact ⟨hstate, himage, fun off h => hreg off (fun m hm => h m (List.mem_cons_of_mem n hm))⟩

/-- The fields of TRL.IMAGE that an ASSIGN gives. -/
theorem imageWord_fields (a : Assign) (joined : Bool) : bits (imageWord a joined) 4 0 = a.num.toNat ∧
    bits (imageWord a joined) 5 5 = b2n joined ∧ bits (imageWord a joined) 12 8 = a.manager.toNat ∧
    bits (imageWord a joined) 63 32 = a.members.toNat := by
  obtain ⟨sv, sb, hsv, hsb, hword⟩ : ∃ sv sb : Nat, sv ≤ 1 ∧ sb < 32 ∧ imageWord a joined = BitVec.ofNat 64 (a.num.toNat + b2n joined * 2 ^ 5 +
      a.manager.toNat * 2 ^ 8 + sb * 2 ^ 16 + sv * 2 ^ 22 + a.members.toNat * 2 ^ 32) := by
    unfold imageWord
    cases a.standby with
    | none => exact ⟨0, 0, by omega, by omega, rfl⟩
    | some p => exact ⟨1, p.toNat, by omega, p.isLt, rfl⟩
  have hnum : a.num.toNat < 32 := a.num.isLt
  have hmanager : a.manager.toNat < 32 := a.manager.isLt
  have hmembers : a.members.toNat < 4294967296 := a.members.isLt
  have hjoined : b2n joined ≤ 1 := by cases joined <;> decide
  rw [hword]
  simp only [bits, natBits, BitVec.toNat_ofNat, Nat.shiftRight_eq_div_pow]
  omega

theorem ne_regTrlStatus {off : Nat} (h : off % 0x10000 ≠ 0x100) (n : Nat) : off ≠ regTrlStatus n := by
  unfold regTrlStatus
  omega

/-- The tables of DRAM tops and the image's records stand beside the registers. -/
theorem reg_tops_image (m : State) (t : List (Nat × Nat)) (i : Image) (off : Nat) : ({ m with tops := t, image := i } : State).reg off = m.reg off :=
  rfl

theorem unformed_tops_image (m : State) (t : List (Nat × Nat)) (i : Image) : ({ m with tops := t, image := i } : State).unformed = m.unformed :=
  rfl

theorem unformed_setReg (s : State) (off : Nat) (w : Word) : (s.setReg off w).unformed = s.unformed := rfl

theorem takeAssign_reg (s : State) (a : Assign) (off : Nat) : (s.takeAssign a).reg off = if off = regDmcHalfmap then halfmapOf a.modes
    else if off = regTrlImage then imageWord a (s.openLinks s.trailOctets).joined else (s.openLinks s.trailOctets).reg off := by
  unfold State.takeAssign
  rw [reg_tops_image, reg_setReg, reg_setReg]

theorem takeAssign_unformed (s : State) (a : Assign) : (s.takeAssign a).unformed = s.unformed := by
  unfold State.takeAssign
  rw [unformed_tops_image, unformed_setReg, unformed_setReg]
  exact unformed_of_unnoted (openLinks_spec s.trailOctets s).1

/-- An ASSIGN is taken: TRL.IMAGE and the channel modes are written, and links that were isolated are up. -/
theorem takeAssign_spec (s : State) (a : Assign) : (s.takeAssign a).unformed = s.unformed ∧
    (s.takeAssign a).reg regTrlImage = imageWord a s.joined ∧
    ∀ off, off % 0x10000 ≠ 0x100 → off ≠ regTrlImage → off ≠ regDmcHalfmap → (s.takeAssign a).reg off = s.reg off := by
  obtain ⟨hstate, -, hreg⟩ := openLinks_spec s.trailOctets s
  have hopen : ∀ off, off % 0x10000 ≠ 0x100 → (s.openLinks s.trailOctets).reg off = s.reg off :=
    fun off h => hreg off (fun n _ => ne_regTrlStatus h n)
  have hjoined : (s.openLinks s.trailOctets).joined = s.joined := by
    rw [State.joined, State.joined, State.fld, State.fld, hopen _ (by decide)]
  have hne : regTrlImage ≠ regDmcHalfmap := by decide
  refine ⟨takeAssign_unformed s a, ?_, fun off h himage hmap => ?_⟩
  · rw [takeAssign_reg, if_neg hne, if_pos rfl, hjoined]
  · rw [takeAssign_reg, if_neg hmap, if_neg himage, hopen off h]

theorem takeAssign_assigned (s : State) (a : Assign) : (s.takeAssign a).image.assigned = some a := rfl

/-- The package of the ASSIGN has its number, the members and the manager. -/
theorem execAssign_assigns {s : State} {a : Assign} (hserial : a.serial = s.reg regMshIoserial) (hm : s.mode = modeJoin) (hmembers : a.members ≠ 0) :
    Ends (.assign a) s (fun u => u.pkgNum = a.num.toNat ∧ u.fld regTrlImage 63 32 = a.members.toNat ∧ u.managerNum = a.manager.toNat ∧
      u.joined = s.joined ∧ u.image.assigned = some a ∧ u.mode = modeJoin ∧ s.sameMachine u) := by
  rw [Ends, exec_assign]
  unfold execAssign
  extract_lets v
  have hv : s.received v := firstDelivered_received s _
  have hmode : v.mode = modeJoin := hv.notes.regs.mode.trans hm
  rw [if_neg (by rw [hv.notes.regs regMshIoserial (by decide)]; simp [hserial, hmode]), if_neg hmembers]
  obtain ⟨hnum, hjoined, hmanager, hmask⟩ := imageWord_fields a v.joined
  obtain ⟨hstate, himage, hregs⟩ := takeAssign_spec v a
  refine ⟨_, rfl, (congrArg (bits · 4 0) himage).trans hnum, (congrArg (bits · 63 32) himage).trans hmask,
    (congrArg (bits · 12 8) himage).trans hmanager, ?_, takeAssign_assigned v a, ?_,
    sameMachine_trans hv.sameMachine (sameMachine_of_unformed hstate)⟩
  · rw [← hv.notes.regs.joined, State.joined, State.fld, himage, hjoined]
    cases v.joined <;> rfl
  · exact (mode_congr (hregs _ (by decide) (by decide) (by decide))).trans hmode

/-! ### A second manager (R343, R344 step 2) -/

/-- A package that is no member yet returns to SEALED (transition 10). -/
theorem leaveJoin_seals {s : State} (hm : s.mode = modeJoin) (hj : s.joined = false) : (s.leaveJoin []).mode = modeSealed ∧
    (s.leaveJoin []).joined = false ∧ (s.leaveJoin []).image.join = s.image.join ∧ (s.leaveJoin []).unformed = s.unformed := by
  unfold State.leaveJoin
  rw [if_pos hm]
  extract_lets a i b c
  rw [if_pos rfl]
  have ha : a = ((s.setReg regTrlImage 0).setFld regRlmPotbase 51 47 0).setFld regGlbMode 7 4 0 := if_neg (by simp [hj])
  have himage : a.reg regTrlImage = 0 := by
    rw [ha, reg_setFld_ne _ _ _ _ _ _ (by decide), reg_setFld_ne _ _ _ _ _ _ (by decide), reg_setReg, if_pos rfl]
  have hstate : a.unformed = s.unformed ∧ a.image = s.image := ha ▸ ⟨rfl, rfl⟩
  have hb : b.reg regTrlImage = a.reg regTrlImage ∧ b.unformed = a.unformed ∧ b.image.join = a.image.join := ⟨rfl, rfl, rfl⟩
  clear_value a b
  obtain ⟨hword, hformed, hjob⟩ := hb
  refine ⟨enterMode_mode b modeSealed 10, ?_, (congrArg Image.join (enterMode_image b modeSealed 10)).trans (hjob.trans
    (congrArg Image.join hstate.2)), (unformed_of_unnoted (enterMode_unnoted b modeSealed 10)).trans (hformed.trans hstate.1)⟩
  rw [State.joined, State.fld, enterMode_reg _ _ _ (by decide) (by decide), hword, himage]
  decide

/-- A refused JOIN ends with the package in SEALED, and its command completes. -/
theorem joinRefused_seals {s : State} {j : JoinJob} (reason left : Nat) (hre : j.re = false) (hm : s.mode = modeJoin) (hj : s.joined = false) :
    (s.joinRefused j reason left).image.join = none ∧ (s.joinRefused j reason left).mode = modeSealed ∧
    (s.joinRefused j reason left).joined = false ∧ s.sameMachine (s.joinRefused j reason left) := by
  unfold State.joinRefused
  extract_lets a news b
  rw [if_neg (by simp [hre])]
  have hemit := emit_notes s 12 82 0x0091 0 [reason, left]
  have ha : a.unformed = s.unformed ∧ s.keepsRegs a := ⟨(show a.unformed = (s.emit 12 82 0x0091 0 [reason, left]).unformed from rfl).trans
    (unformed_of_unnoted hemit.1), hemit.2⟩
  have hb : a.notes b := tellLeftOut_notes _ _ _
  obtain ⟨hmode, hjoined, hjob, hstate⟩ := leaveJoin_seals (s := b) (hb.regs.mode.trans (ha.2.mode.trans hm))
    (hb.regs.joined.trans (ha.2.joined.trans hj))
  obtain ⟨hstate', hjob', hregs⟩ := complete_concludes (b.leaveJoin []) j.cmd stState 0 0
  have hnone : b.image.join = none := hb.unnoted (fun x : State => x.image.join)
  refine ⟨hjob'.trans (hjob.trans hnone), (mode_congr (hregs _ (by decide) (by decide))).trans hmode, ?_,
    sameMachine_of_unformed (hstate'.trans (hstate.trans ((unformed_of_unnoted hb.1).trans ha.1)))⟩
  rw [State.joined, State.fld, hregs _ (by decide) (by decide)]
  exact hjoined

/-- A second manager makes the JOIN fail. -/
theorem execDiscoveryEnd_refuses {s : State} {j : JoinJob} (hjob : s.image.join = some j) (hstep : j.step = 1) (hre : j.re = false)
    (hm : s.mode = modeJoin) (hj : s.joined = false) (hlate : s.image.lastIdent.toNat + 250000 ≤ s.clause.toNat)
    (hmgr : (s.image.idents.filter (fun i => decide (i.serial ≠ s.reg regMshIoserial))).any (·.mgrSel) = true) :
    Ends .discoveryEnd s (fun u => u.image.join = none ∧ u.mode = modeSealed ∧ u.joined = false ∧ s.sameMachine u) := by
  refine ⟨s.joinRefused j 1 s.image.idents.length, ?_, joinRefused_seals 1 _ hre hm hj⟩
  rw [exec_discoveryEnd, execDiscoveryEnd, hjob]
  dsimp only
  rw [if_neg (by omega), if_pos hmgr]

theorem execDiscoveryEnd_early {s : State} {j : JoinJob} (hjob : s.image.join = some j) (hearly : s.clause.toNat < s.image.lastIdent.toNat + 250000) :
    exec .discoveryEnd s = .next s := by
  rw [exec_discoveryEnd, execDiscoveryEnd, hjob]
  exact if_pos (.inr hearly)

end Sys2Proof.Machine

/-! ## An image of one package (R343, R344)

A manager that finds no other package: the topology of one package without links, its number, the JOIN epoch, and what steps 7 and 8 of R344
write on it. -/

namespace Sys2Proof.Machine
open Sys2Proof

/-! ### One package without links -/

theorem edges_lone (i : Ident) (hl : i.links = []) (ms : List (Word × Nat)) (lost : List (Nat × Nat)) : edges [i] ms lost = [] := by
  unfold edges
  rw [List.flatMap_cons, List.flatMap_nil, List.append_nil]
  split
  · rfl
  · rw [hl, List.filterMap_nil]

theorem reachable_lone (i : Ident) (hl : i.links = []) : reachable [i] i.serial = [i] := by
  unfold reachable
  extract_lets ix ms start seen
  have hstart : start = 0 := by simp [start, ms, ix, numOf, upTo]
  have hseen : seen = [0] := by
    simp only [seen, edges_lone i hl, hstart]
    rfl
  rw [hseen]
  rfl

theorem numberAll_lone (i : Ident) : numberAll [] i.serial [i] = some [(i.serial, 0)] := by
  simp [numberAll, numOf, sortWords, giveNumbers]

theorem topologyFault_lone : topologyFault [] [0] = 0 := by decide

/-! ### The end of discovery without another package -/

/-- What a manager alone assigns to itself. -/
def loneAssign (j : JoinJob) (i : Ident) : Assign :=
  { serial := i.serial, num := 0, members := 1, manager := 0, regime := j.regime, modes := [(0, i.chanMode.toNat)], tops := [(0, i.top)] }

/-- The clause is the JOIN epoch, of which the package is the time source (R33 step 2). -/
def State.atEpoch (s : State) (e : Nat) : State :=
  (({ s with clause := BitVec.ofNat 64 e } : State).setFld regClkStatus 3 1 7).emit 12 87 0x00C1 0 [e % 2 ^ 32, e / 2 ^ 32]

/-- The JOIN epoch of a manager alone (R33 step 1). -/
def loneEpoch (s : State) (i : Ident) : Nat :=
  roundEpoch ((if s.clause.toNat < i.clause.toNat then i.clause.toNat else s.clause.toNat) + 2 ^ 20)

theorem loneEpoch_spec {s : State} {i : Ident} (hs : s.clause.toNat < 2 ^ 62) (hi : i.clause.toNat < 2 ^ 62) :
    s.clause.toNat ≤ loneEpoch s i ∧ loneEpoch s i < 2 ^ 64 := by
  unfold loneEpoch roundEpoch
  split <;> omega

theorem takeAssign_clause (s : State) (a : Assign) : (s.takeAssign a).clause = s.clause :=
  unformed_field (takeAssign_unformed s a) State.clause

section
variable {s : State} {j : JoinJob} {i : Ident}

/-- The lone package is given its number and the JOIN epoch, and the JOIN goes on to its end. -/
theorem formImage_lone (hre : j.re = false) (htable : j.table = []) (hids : s.image.idents = [i]) (hserial : i.serial = s.reg regMshIoserial)
    (hl : i.links = []) : s.formImage j [i] none = ((s.takeAssign (loneAssign j i)).atEpoch (loneEpoch s i)).finishJoin
      { j with step := 6, members := [(i.serial, 0)], epoch := ((s.takeAssign (loneAssign j i)).atEpoch (loneEpoch s i)).clause, waiting := [] } := by
  have hedges : s.joinEdges [(i.serial, 0)] = [] := by
    rw [State.joinEdges, hids, edges_lone i hl]
    rfl
  have hown : i.serial = (s.takeAssign (loneAssign j i)).reg regMshIoserial := by
    rw [(takeAssign_spec s _).2.2 _ (by decide) (by decide) (by decide), hserial]
  have hassign (mk : Word → Nat → Assign) : (s.takeAssign (loneAssign j i)).sendAssigns mk [(i.serial, 0)] = s.takeAssign (loneAssign j i) :=
    if_pos hown
  unfold State.formImage
  extract_lets own
  have hserial' : own = i.serial := hserial.symm
  clear_value own
  subst hserial'
  rw [if_neg (by simp [hre]), htable, numberAll_lone]
  dsimp -zeta only
  extract_lets nums mask tbl mgr mk a news e b c v job
  have hnums : nums = [0] := rfl
  rw [hedges, hnums, topologyFault_lone, if_neg (by decide), if_neg (by simp [hre])]
  have hmgr : mgr = 0 := by simp [mgr, numOf]
  have hmk : mk i.serial mgr = loneAssign j i := by
    rw [hmgr]
    simp [mk, tbl, mask, hnums, hmgr, loneAssign]
  have ha : a = s.takeAssign (loneAssign j i) := by rw [← hassign mk, ← hmk]
  have hnews : news = [] := by simp [news]
  have hclause : a.clause = s.clause := (congrArg State.clause ha).trans (takeAssign_clause s _)
  have he : e = loneEpoch s i := by
    simp only [e, hclause]
    rfl
  have hv : v = a.atEpoch e := if_neg (by simp [hre])
  rw [if_pos hnews]
  simp only [job, hnews, hv, ha, he, List.map_nil]

theorem execDiscoveryEnd_lone (hjob : s.image.join = some j) (hstep : j.step = 1) (hmin : j.minPkg ≤ 1)
    (hids : s.image.idents = [i]) (hserial : i.serial = s.reg regMshIoserial) (hl : i.links = []) (hstby : i.stby = false)
    (hlate : s.image.lastIdent.toNat + 250000 ≤ s.clause.toNat) : exec .discoveryEnd s = .next (s.formImage j [i] none) := by
  rw [exec_discoveryEnd, execDiscoveryEnd, hjob]
  dsimp -zeta only
  rw [if_neg (by omega)]
  simp [hids, ← hserial, hstby, reachable_lone i hl, State.leftOut, State.tellLeftOut, hmin]

end

end Sys2Proof.Machine

/-! ## A member enters its image (R344 steps 7 and 8)

What the steps that put an image in force write on one package, in their order, and which registers they leave: those that say what is
fenced, TRL.IMAGE once it is written, and the regime once the agents hold it. -/

namespace Sys2Proof.Machine
open Sys2Proof

/-- The status registers of the channels, the directory ports and the octets. -/
def statusReg (off : Nat) : Prop := off % 0x10000 = 0 ∧ (0x800000 ≤ off ∧ off < 0xb00000 ∨ 0xc00000 ≤ off ∧ off < 0xd00000)

theorem dies_of_unformed {s u : State} (h : u.unformed = s.unformed) : u.dies = s.dies := unformed_field h State.dies

theorem any_congr_of_mem {α : Type} {l : List α} {p q : α → Bool} (h : ∀ x ∈ l, p x = q x) : l.any p = l.any q := by
  rw [← Function.id_comp p, ← Function.id_comp q, ← List.any_map, ← List.any_map, List.map_congr_left h]

/-- What is fenced is a matter of the dies and of those registers, on a package without links. -/
theorem holdsFenced_congr {s u : State} (hd : u.dies = s.dies) (hr : ∀ off, statusReg off → u.reg off = s.reg off) (ht : s.trailOctets = []) :
    u.trailOctets = [] ∧ u.holdsFenced = s.holdsFenced := by
  have htrail : u.trailOctets = [] := by
    have hany : ∀ n ∈ upTo 12, u.isTrail n = s.isTrail n := fun n hn => by
      have hlt : n < 12 := List.mem_range.1 hn
      rw [State.isTrail, State.isTrail, State.fld, State.fld, hr _ (by unfold statusReg regOctCfg; omega)]
    rw [State.trailOctets, List.filter_congr hany]
    exact ht
  have hdie : u.die = s.die := funext (fun d => by rw [State.die, State.die, hd])
  have hchan : (upTo 16).any (fun n => u.fld (regDmcStatus n) 1 1 = 1) = (upTo 16).any (fun n => s.fld (regDmcStatus n) 1 1 = 1) := by
    refine any_congr_of_mem (fun n hn => ?_)
    have hlt : n < 16 := List.mem_range.1 hn
    rw [State.fld, State.fld, hr _ (by unfold statusReg regDmcStatus; omega)]
  have hport : (upTo 8).any (fun p => u.fld (regDirStatus p) 2 2 = 1) = (upTo 8).any (fun p => s.fld (regDirStatus p) 2 2 = 1) := by
    refine any_congr_of_mem (fun n hn => ?_)
    have hlt : n < 8 := List.mem_range.1 hn
    rw [State.fld, State.fld, hr _ (by unfold statusReg regDirStatus; omega)]
  refine ⟨htrail, ?_⟩
  rw [State.holdsFenced, State.holdsFenced, hchan, hport, hdie, htrail, ht]
  rfl

/-! ### Credits, the directory, the regime -/

theorem takeCredit_spec (s : State) (n : Nat) : (s.takeCredit n).unformed = s.unformed ∧ s.keepsRegs (s.takeCredit n) := by
  unfold State.takeCredit
  extract_lets w f bad t
  have ht : t.unformed = s.unformed ∧ s.keepsRegs t := ⟨rfl, fun _ _ => rfl⟩
  clear_value t
  split
  · have he := emit_notes t 12 n 0x0070 0 [(homeAgentId t.pkgNum n).toNat, bits w 31 0]
    exact ⟨(unformed_of_unnoted he.1).trans ht.1, fun off ho => (he.2 off ho).trans (ht.2 off ho)⟩
  · exact ht

theorem grantCredits_spec (s : State) (n : Nat) (news : List Nat) : (s.grantCredits n false news).unformed = s.unformed ∧
    s.keepsRegs (s.grantCredits n false news) := takeCredit_spec s n

theorem grantAll_spec (news : List Nat) (l : List Nat) (s : State) : (s.grantAll false news l).unformed = s.unformed ∧
    s.keepsRegs (s.grantAll false news l) := by
  induction l generalizing s with
  | nil => exact ⟨rfl, fun _ _ => rfl⟩
  | cons n l ih =>
    obtain ⟨hstate, hregs⟩ := grantCredits_spec s n news
    obtain ⟨hstate', hregs'⟩ := ih (s.grantCredits n false news)
    exact ⟨hstate'.trans hstate, fun off ho => (hregs' off ho).trans (hregs off ho)⟩

theorem joinDirectory_spec (s : State) (a : Assign) : (s.joinDirectory a false).unformed = s.unformed ∧
    ∀ off, off ≠ regDirLayout → (s.joinDirectory a false).reg off = s.reg off := by
  unfold State.joinDirectory
  extract_lets n
  rw [if_pos (show (!false) = true from rfl)]
  split
  · exact ⟨rfl, fun off h => reg_setFld_ne _ _ _ _ _ _ h⟩
  · exact ⟨rfl, fun _ _ => rfl⟩

/-! ### The steps of a first JOIN -/

/-- The routes, the package's number, and the packages' base of partitions (R344 step 7). -/
def State.numbered (s : State) (rs : List Word) (a : Assign) : State :=
  let u := (s.writeRoutes rs (upTo 32)).setReg regTrlImage (imageWord a true)
  if u.fld regGlbBoot 4 4 = 1 then u.setFld regRlmPotbase 51 47 a.num.toNat else u

/-- The regime, the directory's port map and the credits. -/
def State.homed (s : State) (a : Assign) : State :=
  let u := (s.setRegime a.regime (upTo 16)).joinDirectory a false
  u.grantAll false u.otherMembers (upTo 16)

/-- The image's mode, and nothing heard of the manager yet. -/
def State.arrived (s : State) (a : Assign) : State :=
  let u := { s with image := { s.image with assigned := none, cutAt := none, releaseAt := none, cutReported := false, quiesce := none } }
  (u.setFld regGlbMode 7 4 (runModeOf a.regime)).setFld regTrlHeartbeat 31 0 0

/-- The mode that the package enters (R344 step 8, transitions 8 and 9). -/
def State.runs (s : State) (a : Assign) : State :=
  (if s.holdsFenced then s.enterMode modeDegraded 9 else s.enterMode (runModeOf a.regime) 8).setFld regGlbMode 12 12 0

theorem enterImage_first {s : State} {a : Assign} (ha : s.image.assigned = some a) (hj : s.joined = false) (rs : List Word) :
    s.enterImage rs = (((s.numbered rs a).homed a).arrived a).runs a := by
  unfold State.enterImage
  rw [ha, hj]
  dsimp -zeta only
  extract_lets re same had t v w y x i b c m
  have hv : v = s.numbered rs a := rfl
  have hy : y = w.joinDirectory a false := if_neg Bool.false_ne_true
  have hx : x = y.grantAll false y.otherMembers (upTo 16) := congrArg (y.grantAll false · (upTo 16)) (if_neg Bool.false_ne_true)
  have hhomed : x = v.homed a := by
    rw [hx, hy]
    rfl
  have hm : m = x.arrived a := if_neg Bool.false_ne_true
  rw [← hv, ← hhomed, ← hm]
  rfl

theorem unformed_setFld (s : State) (off hi lo v : Nat) : (s.setFld off hi lo v).unformed = s.unformed := rfl

theorem numbered_spec (s : State) (rs : List Word) (a : Assign) : (s.numbered rs a).unformed = s.unformed ∧
    (s.numbered rs a).reg regTrlImage = imageWord a true ∧ ∀ off, statusReg off → (s.numbered rs a).reg off = s.reg off := by
  unfold State.numbered
  have hl : ∀ d ∈ upTo 32, d < 32 := fun d hd => List.mem_range.1 hd
  generalize upTo 32 = l at hl ⊢
  extract_lets u
  have hu : u.unformed = s.unformed := (unformed_setReg _ _ _).trans (unformed_of_unnoted (writeRoutes_unnoted rs l s))
  have hkeep (off : Nat) (ho : statusReg off) : u.reg off = s.reg off := by
    obtain ⟨hblock, -⟩ := ho
    rw [reg_setReg, if_neg (by unfold regTrlImage; omega), writeRoutes_reg_ne]
    intro d hd
    have hlt : d < 32 := hl d hd
    unfold regTrlRoute
    omega
  have himage : u.reg regTrlImage = imageWord a true := by rw [reg_setReg, if_pos rfl]
  clear_value u
  split
  · refine ⟨(unformed_setFld _ _ _ _ _).trans hu, (reg_setFld_ne _ _ _ _ _ _ (by decide)).trans himage, fun off ho => (reg_setFld_ne _ _ _ _ _ _ ?_).trans (hkeep off ho)⟩
    obtain ⟨hblock, -⟩ := ho
    unfold regRlmPotbase
    omega
  · exact ⟨hu, himage, hkeep⟩

theorem homed_spec (s : State) (a : Assign) : (s.homed a).unformed = s.unformed ∧ (s.homed a).reg regTrlImage = s.reg regTrlImage ∧
    (s.homed a).regime = a.regime % 4 ∧ ∀ off, statusReg off → (s.homed a).reg off = s.reg off := by
  unfold State.homed
  have hmem : 0 ∈ upTo 16 := List.mem_range.2 (by decide)
  have hstatus : ∀ n ∈ upTo 16, n < 16 := fun n hn => List.mem_range.1 hn
  generalize upTo 16 = l at hmem hstatus ⊢
  extract_lets u
  obtain ⟨hstate, hdir⟩ := joinDirectory_spec (s.setRegime a.regime l) a
  obtain ⟨hstate', hgrant⟩ := grantAll_spec u.otherMembers l u
  have hu (off : Nat) (hlog : off ∉ noteRegs) (hlayout : off ≠ regDirLayout) :
      (u.grantAll false u.otherMembers l).reg off = (s.setRegime a.regime l).reg off := (hgrant off hlog).trans (hdir off hlayout)
  have hne (off : Nat) (h : off % 0x10000 ≠ 0 ∨ off < 0xb00000 ∨ 0xc00000 ≤ off) (hlog : off ∉ noteRegs) (hlayout : off ≠ regDirLayout) :
      (u.grantAll false u.otherMembers l).reg off = s.reg off := by
    rw [hu off hlog hlayout, setRegime_reg_ne]
    intro n hn
    have hlt := hstatus n hn
    unfold regHomStatus
    omega
  refine ⟨hstate'.trans (hstate.trans (unformed_of_unnoted (setRegime_unnoted _ _ _))),
    hne _ (.inl (by decide)) (by decide) (by decide), ?_, fun off ho => ?_⟩
  · rw [State.regime, State.fld, hu _ (by decide) (by decide), ← State.fld, setRegime_fld _ _ hmem]
  · obtain ⟨hblock, hrange⟩ := ho
    exact hne off (.inr (by omega)) (not_mem_noteRegs (by omega)) (by unfold regDirLayout; omega)

theorem arrived_spec (s : State) (a : Assign) : (s.arrived a).unformed = s.unformed ∧ (s.arrived a).imageMode = runModeOf a.regime % 16 ∧
    ∀ off, off ≠ regGlbMode → off ≠ regTrlHeartbeat → (s.arrived a).reg off = s.reg off := by
  unfold State.arrived
  extract_lets i u
  have hu : u.unformed = s.unformed ∧ ∀ off, u.reg off = s.reg off := ⟨rfl, fun _ => rfl⟩
  clear_value u
  refine ⟨hu.1, ?_, fun off hmode hbeat => ?_⟩
  · rw [State.imageMode, fld_setFld_ne _ _ _ _ _ _ _ _ (.inl (by decide)) (by decide) (by decide)]
    exact fld_setFld _ _ _ _ _ (by decide) (by decide)
  · rw [reg_setFld_ne _ _ _ _ _ _ hbeat, reg_setFld_ne _ _ _ _ _ _ hmode, hu.2]

theorem runs_spec {s : State} (a : Assign) (hf : s.holdsFenced = false) : (s.runs a).unformed = s.unformed ∧
    (s.runs a).mode = runModeOf a.regime % 16 ∧ (s.runs a).imageMode = s.imageMode ∧
    ∀ off, off ∉ noteRegs → off ≠ regGlbMode → off ≠ regGlbModetime → (s.runs a).reg off = s.reg off := by
  unfold State.runs
  rw [hf, if_neg (by decide)]
  refine ⟨unformed_of_unnoted (u := s.enterMode (runModeOf a.regime) 8) (enterMode_unnoted _ _ _), ?_, ?_, fun off hlog hmode htime => ?_⟩
  · rw [State.mode, fld_setFld_same _ _ _ _ _ _ _ (by decide) (by decide) (by decide)]
    exact enterMode_mode _ _ _
  · rw [State.imageMode, fld_setFld_same _ _ _ _ _ _ _ (by decide) (by decide) (by decide)]
    exact enterMode_imageMode _ _ _
  · rw [reg_setFld_ne _ _ _ _ _ _ hmode]
    exact enterMode_reg _ _ _ hlog (by simp [modeRegs, hmode, htime])

/-- A package without links and without fenced resources, in an image for the first time. -/
theorem enterImage_joins {s : State} {a : Assign} (ha : s.image.assigned = some a) (hj : s.joined = false) (ht : s.trailOctets = [])
    (hf : s.holdsFenced = false) (rs : List Word) : (s.enterImage rs).unformed = s.unformed ∧
      (s.enterImage rs).reg regTrlImage = imageWord a true ∧ (s.enterImage rs).regime = a.regime % 4 ∧
      (s.enterImage rs).mode = runModeOf a.regime % 16 ∧ (s.enterImage rs).imageMode = runModeOf a.regime % 16 := by
  rw [enterImage_first ha hj]
  obtain ⟨hnumbered, himage, hstatus⟩ := numbered_spec s rs a
  obtain ⟨hhomed, himage', hregime, hstatus'⟩ := homed_spec (s.numbered rs a) a
  obtain ⟨harrived, hmode, hkeep⟩ := arrived_spec ((s.numbered rs a).homed a) a
  generalize (s.numbered rs a).homed a = v at *
  have hstate : (v.arrived a).unformed = s.unformed := harrived.trans (hhomed.trans hnumbered)
  have hfence : (v.arrived a).holdsFenced = s.holdsFenced := by
    refine (holdsFenced_congr (dies_of_unformed hstate) (fun off ho => ?_) ht).2
    have hoff := ho.1
    have hrange := ho.2
    rw [hkeep off (by unfold regGlbMode; omega) (by unfold regTrlHeartbeat; omega), hstatus' off ho, hstatus off ho]
  obtain ⟨hruns, hrun, hrunImage, hkept⟩ := runs_spec a (hfence.trans hf)
  refine ⟨hruns.trans hstate, ?_, ?_, hrun, hrunImage.trans hmode⟩
  · rw [hkept _ (by decide) (by decide) (by decide), hkeep _ (by decide) (by decide), himage', himage]
  · rw [State.regime, State.fld, hkept _ (by decide) (by decide) (by decide), hkeep _ (by decide) (by decide), ← State.fld, ← State.regime, hregime]

/-! ### The end of a JOIN -/

/-- A manager alone sends no routes, mirrors nothing and has no links to set: it enters its image, and the command completes. -/
theorem finishJoin_lone {s : State} {j : JoinJob} {a : Assign} {w : Word} (ha : s.image.assigned = some a) (hsb : a.standby = none)
    (hm : j.members = [(w, 0)]) (hn : s.pkgNum = 0) (ht : s.trailOctets = []) :
    ∃ (b : State) (rs : List Word), b.image.assigned = some a ∧ b.unformed = s.unformed ∧ b.regs = s.regs ∧
      (b.enterImage rs).concludes (s.finishJoin j) := by
  unfold State.finishJoin
  rw [hm]
  extract_lets nums es numbered i b c sb d e f
  have hb : b.image.assigned = some a ∧ b.unformed = s.unformed ∧ b.regs = s.regs := ⟨ha, rfl, rfl⟩
  have hnum : b.pkgNum = 0 := hn
  have htrail : b.trailOctets = [] := ht
  have hc : c = b := by
    have hnums : nums.filter (· ≠ b.pkgNum) = [] := by rw [hnum]; rfl
    simp only [c, hnums]
    rfl
  have hd : d = b := by
    have hnone : sb = none := by simp only [sb, hc, hb.1, hsb]
    simp only [d, hnone, hc]
  have he : e = b := by
    simp only [e, hd, htrail]
    rfl
  refine ⟨b, routeTable es nums e.pkgNum, hb.1, hb.2.1, hb.2.2, ?_⟩
  have hf : f = b.enterImage (routeTable es nums e.pkgNum) := congrArg (State.enterImage · _) he
  rw [← hf]
  clear_value f
  split
  · exact complete_concludes f _ _ _ _
  · exact concludes_trans (emit_notes f _ _ _ _ _).concludes (complete_concludes _ _ _ _ _)

end Sys2Proof.Machine

/-! ### An image of one package in its regime -/

namespace Sys2Proof.Machine
open Sys2Proof

theorem atEpoch_spec (s : State) (e : Nat) : (s.atEpoch e).clause = BitVec.ofNat 64 e ∧ (s.atEpoch e).mem = s.mem ∧
    (s.atEpoch e).dies = s.dies ∧ (s.atEpoch e).image = s.image ∧
    ∀ off, off ∉ noteRegs → off ≠ regClkStatus → (s.atEpoch e).reg off = s.reg off := by
  unfold State.atEpoch
  have hu := emit_notes (({ s with clause := BitVec.ofNat 64 e } : State).setFld regClkStatus 3 1 7) 12 87 0x00C1 0 [e % 2 ^ 32, e / 2 ^ 32]
  exact ⟨hu.clause, hu.mem, hu.unnoted State.dies, emit_image _ _ _ _ _ _, fun off hlog hclk => (hu.regs off hlog).trans
    (reg_setFld_ne _ _ _ _ _ _ hclk)⟩

theorem runModeOf_lt (regime : Nat) : runModeOf regime < 16 := by
  unfold runModeOf
  split <;> decide

section
variable {s : State} {j : JoinJob} {i : Ident}

/-- The lone package at its JOIN epoch is package 0, not yet a member, and shows no fence that it did not show. -/
theorem atEpoch_takeAssign (e : Nat) (hj : s.joined = false) (ht : s.trailOctets = []) :
    let v := (s.takeAssign (loneAssign j i)).atEpoch e
    v.image.assigned = some (loneAssign j i) ∧ v.clause = BitVec.ofNat 64 e ∧ v.mem = s.mem ∧ v.pkgNum = 0 ∧ v.joined = false ∧
      v.trailOctets = [] ∧ v.holdsFenced = s.holdsFenced := by
  intro v
  obtain ⟨hstate, himage, hkeep⟩ := takeAssign_spec s (loneAssign j i)
  have hassigned := takeAssign_assigned s (loneAssign j i)
  obtain ⟨hnum, hjoined, -, -⟩ := imageWord_fields (loneAssign j i) s.joined
  obtain ⟨hclause, hmem, hdies, himg, hreg⟩ := atEpoch_spec (s.takeAssign (loneAssign j i)) e
  have hword : v.reg regTrlImage = imageWord (loneAssign j i) s.joined := (hreg _ (by decide) (by decide)).trans himage
  have hstatus (off : Nat) (ho : statusReg off) : v.reg off = s.reg off := by
    obtain ⟨hblock, hrange⟩ := ho
    rw [hreg off (not_mem_noteRegs (by omega)) (by unfold regClkStatus; omega),
      hkeep off (by omega) (by unfold regTrlImage; omega) (by unfold regDmcHalfmap; omega)]
  have hfence := holdsFenced_congr (hdies.trans (dies_of_unformed hstate)) hstatus ht
  refine ⟨(congrArg Image.assigned himg).trans hassigned, hclause, hmem.trans (unformed_field hstate State.mem),
    (congrArg (bits · 4 0) hword).trans hnum, ?_, hfence.1, hfence.2⟩
  rw [State.joined, State.fld, hword, hjoined, hj]
  rfl

/-- The image of one package forms, and runs in the regime asked for. -/
theorem execDiscoveryEnd_forms (hjob : s.image.join = some j) (hstep : j.step = 1) (hre : j.re = false) (htable : j.table = [])
    (hmin : j.minPkg ≤ 1) (hregime : j.regime = 1 ∨ j.regime = 2) (hj : s.joined = false) (hids : s.image.idents = [i])
    (hserial : i.serial = s.reg regMshIoserial) (hl : i.links = []) (hstby : i.stby = false)
    (hlate : s.image.lastIdent.toNat + 250000 ≤ s.clause.toNat) (hf : s.holdsFenced = false) (ht : s.trailOctets = [])
    (hc : s.clause.toNat < 2 ^ 62) (hi : i.clause.toNat < 2 ^ 62) :
    Ends .discoveryEnd s (fun u => u.mode = runModeOf j.regime ∧ u.imageMode = runModeOf j.regime ∧ u.joined = true ∧ u.pkgNum = 0 ∧
      u.managerNum = 0 ∧ u.fld regTrlImage 63 32 = 1 ∧ u.regime = j.regime ∧ s.clause.toNat ≤ u.clause.toNat ∧ u.mem = s.mem) := by
  refine ⟨_, execDiscoveryEnd_lone hjob hstep hmin hids hserial hl hstby hlate, ?_⟩
  rw [formImage_lone hre htable hids hserial hl]
  obtain ⟨hepoch, hfits⟩ := loneEpoch_spec hc hi
  obtain ⟨hassigned, hclause, hmem, hnum, hnot, htrail, hfenced⟩ := atEpoch_takeAssign (s := s) (j := j) (i := i) (loneEpoch s i) hj ht
  generalize (s.takeAssign (loneAssign j i)).atEpoch (loneEpoch s i) = v at *
  generalize hjob' : ({ j with step := 6, members := [(i.serial, 0)], epoch := v.clause, waiting := [] } : JoinJob) = job
  obtain ⟨b, rs, hbimage, hbstate, hbregs, hend⟩ := finishJoin_lone (j := job) (w := i.serial) hassigned rfl (hjob' ▸ rfl) hnum htrail
  have hbreg (off : Nat) : b.reg off = v.reg off := by rw [State.reg, State.reg, hbregs]
  obtain ⟨hbtrail, hbfenced⟩ := holdsFenced_congr (dies_of_unformed hbstate) (fun off _ => hbreg off) htrail
  have hbnot : b.joined = false := by rw [State.joined, State.fld, hbreg, ← State.fld, ← State.joined, hnot]
  obtain ⟨hstate, hword, hreg, hmode, himage⟩ := enterImage_joins hbimage hbnot hbtrail (hbfenced.trans (hfenced.trans hf)) rs
  obtain ⟨hendState, -, hendRegs⟩ := hend
  have hfinal : (v.finishJoin job).unformed = v.unformed := hendState.trans (hstate.trans hbstate)
  have himg := (hendRegs regTrlImage (by decide) (by decide)).trans hword
  have hglb := hendRegs regGlbMode (by decide) (by decide)
  obtain ⟨hfnum, hfjoined, hfmanager, hfmembers⟩ := imageWord_fields (loneAssign j i) true
  have hrun := Nat.mod_eq_of_lt (runModeOf_lt j.regime)
  refine ⟨(mode_congr hglb).trans (hmode.trans hrun), ?_, ?_, (congrArg (bits · 4 0) himg).trans hfnum,
    (congrArg (bits · 12 8) himg).trans hfmanager, (congrArg (bits · 63 32) himg).trans hfmembers, ?_, ?_, ?_⟩
  · rw [State.imageMode, State.fld, hglb, ← State.fld, ← State.imageMode, himage]
    exact hrun
  · rw [State.joined, State.fld, himg, hfjoined]
    rfl
  · rw [State.regime, State.fld, hendRegs _ (by decide) (by decide), ← State.fld, ← State.regime, hreg]
    exact Nat.mod_eq_of_lt (by rcases hregime with h | h <;> simp [loneAssign, h])
  · rw [show (v.finishJoin job).clause = v.clause from unformed_field hfinal State.clause, hclause, BitVec.toNat_ofNat, Nat.mod_eq_of_lt hfits]
    exact hepoch
  · exact (unformed_field hfinal State.mem).trans hmem

end

/-- Settles O41: one lemma for each message of a JOIN and each end of discovery. -/
theorem imageForms : Obligations.ImageForms := by
  refine ⟨fun w i a j s => ⟨execDiscover_joins, execIdent_notes, execAssign_assigns, execDiscoveryEnd_refuses, execDiscoveryEnd_early⟩, ?_⟩
  intro i j s hjob hstep hre htable hmin hregime _ hj hids hserial hl hstby hlate hf ht hc hi
  exact execDiscoveryEnd_forms hjob hstep hre htable hmin hregime hj hids hserial hl hstby hlate hf ht hc hi

end Sys2Proof.Machine

/-! ## DRAM at reset and in self-refresh (R363, R385) -/

namespace Sys2Proof.Machine
open Sys2Proof

/-- DRAM contents that list nothing are in canonical form. -/
theorem memOk_of_nil {s : State} (h : s.mem = []) : s.MemOk := by
  rw [State.MemOk, h]
  rfl

/-- Settles O3: DRAM at reset lists nothing. -/
theorem resetMemory : Obligations.ResetMemory := memOk_of_nil rfl

/-- In QUIESCE a channel stays out of self-refresh until the mode has lasted longer than 1 ms (R363). -/
theorem execSelfRefreshEntry_early (n : Chan) {s : State} (hm : s.mode = modeQuiesce)
    (hearly : s.clause.toNat ≤ (s.reg regGlbModetime).toNat + 250000) : exec (.selfRefreshEntry n) s = .next s := by
  have hdrain : s.mode ≠ modeDrain := by
    rw [hm]
    decide
  have hwait : ¬(s.mode = modeDrain ∨ s.mode = modeQuiesce ∧ (s.reg regGlbModetime).toNat + 250000 < s.clause.toNat) := by
    rintro (h | ⟨-, hlate⟩)
    · exact hdrain h
    · omega
  exact congrArg Host.Outcome.next (if_neg hwait)

/-- A package that has entered QUIESCE in the present clause, no channel in self-refresh. -/
def quiescedNow : State := State.reset.setFld regGlbMode 3 0 modeQuiesce

/-- Refutes O48: its SELF_REFRESH_ENTRY puts the channel into self-refresh at any time in QUIESCE, but R363 uses self-refresh there only once
the package has held memory without traffic for longer than 1 ms. In `quiescedNow` the command changes nothing. The statement needs
GLB.MODETIME to lie more than 250,000 clauses back. -/
theorem not_dramEvents : ¬ Obligations.DramEvents := by
  unfold Obligations.DramEvents
  intro h
  obtain ⟨-, -, -, -, -, -, -, -, hself, -⟩ := h 0 0 0 0 0 0 false 0 0 0 0 0 quiescedNow
  have hmode : quiescedNow.mode = modeQuiesce := by decide
  have hearly : quiescedNow.clause.toNat ≤ (quiescedNow.reg regGlbModetime).toNat + 250000 := by decide
  obtain ⟨u, hu, hsleeps, -⟩ := hself (.inl hmode)
  obtain rfl : quiescedNow = u := Host.Outcome.next.inj ((execSelfRefreshEntry_early 0 hmode hearly).symm.trans hu)
  exact List.not_mem_nil ((hsleeps 0).2 (.inr rfl))

end Sys2Proof.Machine

/-! ## Predicate engines: what checks, reads and writes leave (R398 to R400, R434) -/

namespace Sys2Proof.Machine
open Sys2Proof

/-! ### What the writes of a port leave -/

/-- A port has written: ports, caps, counters and the messages sent may differ, and nothing else. -/
def State.ported (s u : State) : Prop :=
  ∃ ports used val sent, u = { s with ports := ports, capUsed := used, pccVal := val, sent := sent }

theorem ported_refl (s : State) : s.ported s := ⟨s.ports, s.capUsed, s.pccVal, s.sent, rfl⟩

theorem ported_trans {a b c : State} (h : a.ported b) (k : b.ported c) : a.ported c := by
  obtain ⟨_, _, _, _, rfl⟩ := h
  obtain ⟨p, u, v, l, rfl⟩ := k
  exact ⟨p, u, v, l, rfl⟩

theorem State.ported.ctxs {s u : State} (h : s.ported u) : u.ctxs = s.ctxs := by
  obtain ⟨_, _, _, _, rfl⟩ := h
  rfl

theorem countUncore_received (s : State) (base k ev n : Nat) (realm : Option Nat) : s.received (s.countUncore base k ev n realm) := by
  unfold State.countUncore
  split
  · exact received_refl s
  · exact uncoreFrom_received _ _ _ _ _ _ _

theorem noteEngine_ported (s : State) (u r ev : Nat) : s.ported (s.noteEngine u r ev) := by
  unfold State.noteEngine
  split
  · obtain ⟨l, v, h⟩ := countUncore_received { s with capUsed := Tbl.set s.capUsed r (Tbl.get 0 s.capUsed r + 1) } (slotEngine (u - 40) 0) 4 ev 1
      (some r)
    exact ⟨_, _, v, l, h⟩
  · exact ported_refl s

theorem portWrite_ported (s : State) (u : Nat) (realm : Realm) (a : LineAddr) (d : Line) (m : BitVec 64) : s.ported (s.portWrite u realm a d m) := by
  have hport (f : Port → Port) : s.ported (s.modPort u f) := ⟨_, _, _, _, rfl⟩
  have hsend (q : State) (m : Msg) : q.ported (q.send m) := ⟨_, _, _, _, rfl⟩
  exact ported_trans (ported_trans (hport _) (noteEngine_ported _ _ _ _)) (hsend _ _)

theorem portWriteBytes_ported (s : State) (u : Nat) (realm : Realm) (pa n v k : Nat) : s.ported (s.portWriteBytes u realm pa n v k) := by
  induction k generalizing s pa n v with
  | zero => exact ported_refl s
  | succ k ih =>
    unfold State.portWriteBytes
    split
    · exact ported_refl s
    · exact ported_trans (portWrite_ported _ _ _ _ _ _) (ih _ _ _ _)

theorem putAll_ported (s : State) (e realm : Nat) (l : List (Nat × Nat × Nat)) : s.ported (s.putAll e realm l) := by
  induction l generalizing s with
  | nil => exact ported_refl s
  | cons x l ih => exact ported_trans (portWriteBytes_ported _ _ _ _ _ _ _) (ih _)

/-! ### Checks and writes do not look at the descriptors in progress

HASH-PARTITION checks and writes its partitions' FILL after the writes of its records have been noted in the context's run (R429). -/

/-- The state with other descriptors in progress. -/
def State.withRuns (s : State) (t : Tbl CtxRun) : State := { s with ctxRuns := t }

section
variable (s : State) (t : Tbl CtxRun)

theorem pccV_withRuns (j : Nat) : (s.withRuns t).pccV j = s.pccV j := rfl
theorem setPccV_withRuns (j : Nat) (w : Word) : (s.withRuns t).setPccV j w = (s.setPccV j w).withRuns t := rfl
theorem chains_withRuns (i j : Nat) : (s.withRuns t).chains i j = s.chains i j := rfl
theorem modPort_withRuns (u : Nat) (f : Port → Port) : (s.withRuns t).modPort u f = (s.modPort u f).withRuns t := rfl

theorem enqueueRec_withRuns (q : QRec) : (s.withRuns t).enqueueRec q = (s.enqueueRec q).withRuns t := by
  by_cases h : s.log.queue.length < 4096
  · rw [State.enqueueRec, if_pos (show (s.withRuns t).log.queue.length < 4096 from h), State.enqueueRec, if_pos h]
    rfl
  · rw [State.enqueueRec, if_neg (show ¬(s.withRuns t).log.queue.length < 4096 from h), State.enqueueRec, if_neg h]
    rfl

theorem emit_withRuns (die src code realm : Nat) (ps : List Nat) :
    (s.withRuns t).emit die src code realm ps = (s.emit die src code realm ps).withRuns t := by
  by_cases h : s.isManager = true
  · rw [State.emit, State.emitRank, if_pos (show (s.withRuns t).isManager = true from h), State.emit, State.emitRank, if_pos h]
    rfl
  · rw [State.emit, State.emitRank, if_neg (show ¬(s.withRuns t).isManager = true from h), State.emit, State.emitRank, if_neg h]
    exact enqueueRec_withRuns s t _

theorem noticeDue_withRuns (code realm : Nat) (origin : BitVec 16) (ue : Bool) :
    (s.withRuns t).noticeDue code realm origin ue = (s.noticeDue code realm origin ue).withRuns t := by
  rw [State.noticeDue, State.noticeDue, apply_ite (fun q : State => q.withRuns t)]
  rfl

theorem ce_withRuns (die src code realm : Nat) (ps : List Nat) :
    (s.withRuns t).ce die src code realm ps = (s.ce die src code realm ps).withRuns t := by
  rw [State.ce, emit_withRuns]
  exact noticeDue_withRuns ((s.emit die src code realm ps).addFld regGlbErrsum 63 32 1) t code realm (s.origin die src) false

theorem ownCacheRead_withRuns (page : Nat) : (s.withRuns t).ownCacheRead page = (s.ownCacheRead page).withRuns t := by
  have hsame : (s.withRuns t).realms = s.realms := rfl
  rw [State.ownCacheRead, State.ownCacheRead, hsame]
  cases Tbl.find s.realms.ownBad (page / 32) with
  | none => rfl
  | some k => exact ce_withRuns (s.modRealms (fun x => { x with ownBad := Tbl.erase x.ownBad (page / 32) })) t 12 81 0x30E0 0 _

theorem checkPages_withRuns (realm : Nat) (l : List Nat) :
    (s.withRuns t).checkPages realm l = ((s.checkPages realm l).1.withRuns t, (s.checkPages realm l).2) := by
  induction l generalizing s with
  | nil => rfl
  | cons p l ih =>
    rw [State.checkPages, State.checkPages, ownCacheRead_withRuns]
    by_cases h : (s.ownCacheRead p).ownOk realm p = true
    · rw [if_pos h, if_pos (show ((s.ownCacheRead p).withRuns t).ownOk realm p = true from h)]
      exact ih _
    · rw [if_neg h, if_neg (show ¬((s.ownCacheRead p).withRuns t).ownOk realm p = true from h)]

theorem checkRange_withRuns (realm pa n : Nat) :
    (s.withRuns t).checkRange realm pa n = ((s.checkRange realm pa n).1.withRuns t, (s.checkRange realm pa n).2) := by
  rw [State.checkRange, State.checkRange, checkPages_withRuns]
  generalize s.checkPages realm _ = q
  by_cases hn : n = 0
  · rw [if_pos hn, if_pos hn]
  · rw [if_neg hn, if_neg hn, apply_ite (fun q : State × Nat => (q.1.withRuns t, q.2))]
    rfl

theorem checkRanges_withRuns (realm : Nat) (l : List (Nat × Nat)) :
    (s.withRuns t).checkRanges realm l = ((s.checkRanges realm l).1.withRuns t, (s.checkRanges realm l).2) := by
  induction l generalizing s with
  | nil => rfl
  | cons x l ih =>
    rw [State.checkRanges, State.checkRanges, checkRange_withRuns]
    dsimp only
    split
    · exact ih _
    · rfl

theorem bump_withRuns (i j n : Nat) : ((s.withRuns t).bump i j n).1 = (s.bump i j n).1.withRuns t := by
  rw [State.bump, State.bump, pccV_withRuns]
  by_cases hsum : bits (s.pccV j) 47 0 + n < 2 ^ 48
  · rw [if_pos hsum, if_pos hsum]
    rfl
  · rw [if_neg hsum, if_neg hsum, setPccV_withRuns]
    generalize s.setPccV j (putBits (s.pccV j) 47 0 (bits (s.pccV j) 47 0 + n)) = q
    dsimp only
    rw [chains_withRuns]
    by_cases hchain : q.chains i j = true
    · rw [if_pos hchain, if_pos hchain]
      rfl
    · rw [if_neg hchain, if_neg hchain]
      rfl

theorem uncoreFrom_withRuns (base ev n : Nat) (realm : Option Nat) (i k : Nat) :
    (s.withRuns t).uncoreFrom base ev n realm i k = (s.uncoreFrom base ev n realm i k).withRuns t := by
  induction k generalizing s i with
  | zero => rfl
  | succ k ih =>
    rw [State.uncoreFrom, State.uncoreFrom, bump_withRuns, ← ih]
    congr 1
    exact (apply_ite (fun q : State => q.withRuns t) _ _ _).symm

theorem countUncore_withRuns (base k ev n : Nat) (realm : Option Nat) :
    (s.withRuns t).countUncore base k ev n realm = (s.countUncore base k ev n realm).withRuns t := by
  rw [State.countUncore, State.countUncore, uncoreFrom_withRuns]
  exact (apply_ite (fun q : State => q.withRuns t) _ _ _).symm

theorem noteEngine_withRuns (u r ev : Nat) : (s.withRuns t).noteEngine u r ev = (s.noteEngine u r ev).withRuns t := by
  rw [State.noteEngine, State.noteEngine]
  split
  · exact countUncore_withRuns { s with capUsed := Tbl.set s.capUsed r (Tbl.get 0 s.capUsed r + 1) } t _ _ _ _ _
  · rfl

theorem portWrite_withRuns (u : Nat) (realm : Realm) (a : LineAddr) (d : Line) (m : BitVec 64) :
    (s.withRuns t).portWrite u realm a d m = (s.portWrite u realm a d m).withRuns t := by
  unfold State.portWrite
  dsimp only
  rw [modPort_withRuns, noteEngine_withRuns]
  rfl

theorem portWriteBytes_withRuns (u : Nat) (realm : Realm) (pa n v k : Nat) :
    (s.withRuns t).portWriteBytes u realm pa n v k = (s.portWriteBytes u realm pa n v k).withRuns t := by
  induction k generalizing s pa n v with
  | zero => rfl
  | succ k ih =>
    rw [State.portWriteBytes, State.portWriteBytes]
    split
    · rfl
    · dsimp only
      rw [portWrite_withRuns]
      exact ih _ _ _ _

theorem putAll_withRuns (e realm : Nat) (l : List (Nat × Nat × Nat)) :
    (s.withRuns t).putAll e realm l = (s.putAll e realm l).withRuns t := by
  induction l generalizing s with
  | nil => rfl
  | cons x l ih =>
    rw [State.putAll, State.putAll, portWriteBytes_withRuns]
    exact ih _

end

theorem noteWrites_eq (s : State) (e c n : Nat) : s.noteWrites e c n = s.withRuns (s.noteWrites e c n).ctxRuns := rfl

end Sys2Proof.Machine

/-! ## Predicate engines: one segment of each operation (R415 to R432) -/

namespace Sys2Proof.Machine
open Sys2Proof

/-! ### What a segment reads and writes -/

/-- The ranges pass the checks, and the checks correct nothing (R398). -/
def State.allows (s : State) (realm : Nat) (l : List (Nat × Nat)) : Prop := s.checkRanges realm l = (s, peOk)

/-- The ranges pass the checks, and their bytes have come (R399). -/
def State.reads (s : State) (e realm : Nat) (l : List (Nat × Nat)) (vs : List Nat) : Prop :=
  s.allows realm l ∧ s.fetchAll e realm l = (s, some vs)

/-- What a segment that begins in `s` leaves: the descriptor's new state and the messages sent; contexts and memory stay. -/
def SegOut.gives (o : SegOut) (s : State) (r : EngRun) (l : List Msg) : Prop :=
  o.2 = some r ∧ o.1.sent = l ∧ o.1.ctxs = s.ctxs ∧ o.1.mem = s.mem

theorem fetchAll_length {s u : State} {e realm : Nat} {l : List (Nat × Nat)} {vs : List Nat} (h : s.fetchAll e realm l = (u, some vs)) :
    vs.length = l.length := by
  induction l generalizing s u vs with
  | nil =>
    obtain rfl : [] = vs := Option.some.inj (congrArg Prod.snd h)
    rfl
  | cons x l ih =>
    rw [State.fetchAll] at h
    dsimp only at h
    generalize hrest : State.fetchAll _ e realm l = q at h
    obtain ⟨u', ws⟩ := q
    generalize (s.portReadBytes (engPort e) (BitVec.ofNat 10 realm) x.1 x.2).2 = w at h
    cases w with
    | none => cases ws <;> cases h
    | some w =>
      cases ws with
      | none => cases h
      | some ws =>
        obtain rfl : w :: ws = vs := Option.some.inj (congrArg Prod.snd h)
        exact congrArg (· + 1) (ih hrest)

section
variable {s : State} {e realm : Nat} {r r' : EngRun}

theorem engRead_reads {l : List (Nat × Nat)} {vs : List Nat} (h : s.reads e realm l vs) (k : State → List Nat → SegOut) :
    s.engRead e realm r l k = k s vs := by
  obtain ⟨hallow, hfetch⟩ := h
  rw [State.engRead, hallow]
  dsimp only
  rw [if_neg (fun hne : peOk ≠ peOk => hne rfl), hfetch]

theorem engWrite_allows {l : List (Nat × Nat × Nat)} (h : s.allows realm (l.map (fun p => (p.1, p.2.1)))) (k : State → SegOut) :
    s.engWrite e realm r l k = k ((s.putAll e realm l).noteWrites e r.ctx (s.port (engPort e)).writes.length) := by
  rw [State.engWrite, h]
  exact if_neg (fun hne : peOk ≠ peOk => hne rfl)

/-- Ranges are written, and the segment is over. -/
theorem engWrite_gives {l : List (Nat × Nat × Nat)} (h : s.allows realm (l.map (fun p => (p.1, p.2.1)))) :
    SegOut.gives (s.engWrite e realm r l (fun q => (q, some r'))) s r' (s.putAll e realm l).sent := by
  rw [engWrite_allows h]
  exact ⟨rfl, rfl, (putAll_ported s e realm l).ctxs, putAll_mem s e realm l⟩

/-- Two lists of ranges are written one after the other, and the segment is over. -/
theorem engWrite_twice_gives {r1 : EngRun} {l m : List (Nat × Nat × Nat)} (hl : s.allows realm (l.map (fun p => (p.1, p.2.1))))
    (hm : (s.putAll e realm l).allows realm (m.map (fun p => (p.1, p.2.1)))) :
    SegOut.gives (s.engWrite e realm r l (fun q => q.engWrite e realm r1 m (fun q => (q, some r')))) s r'
      ((s.putAll e realm l).putAll e realm m).sent := by
  have hm' : State.allows ((s.putAll e realm l).noteWrites e r.ctx (s.port (engPort e)).writes.length) realm (m.map (fun p => (p.1, p.2.1))) := by
    rw [State.allows, noteWrites_eq, checkRanges_withRuns, hm]
  rw [engWrite_allows hl]
  obtain ⟨hrun, hsent, hctxs, hmem⟩ := engWrite_gives (e := e) (r := r1) (r' := r') hm'
  refine ⟨hrun, ?_, hctxs.trans (putAll_ported s e realm l).ctxs, hmem.trans (putAll_mem s e realm l)⟩
  rw [hsent, noteWrites_eq, putAll_withRuns]
  rfl

end

/-! ### The place that a first segment reaches -/

section
variable {r : EngRun}

/-- The run once its first segment has finished `n`: it has ended with RESULT when that was all. -/
def EngRun.reach (r : EngRun) (n result : Nat) : EngRun :=
  if r.count ≤ n then { r with pos := n, status := some peOk, result := BitVec.ofNat 64 result } else { r with pos := n }

theorem step_from_start (hpos : r.pos = 0) (n result : Nat) : r.step n result = r.reach n result := by
  unfold EngRun.step
  rw [hpos, Nat.zero_add]
  rfl

theorem step_to_end (hpos : r.pos = 0) {n : Nat} (hn : r.count ≤ n) (result : Nat) :
    r.step n result = { r with pos := n, status := some peOk, result := BitVec.ofNat 64 result } := by
  rw [step_from_start hpos, EngRun.reach, if_pos hn]

end

/-- What is 0 at a descriptor's first segment: its place, what it has written, what waits to be written. The lemmas clear it out of the
addresses and leave it in the run, whose other fields the statement keeps by name. -/
def AtStart (a : Nat) : Prop := a = 0

section
variable {a : Nat}

theorem AtStart.add (h : AtStart a) (b : Nat) : b + a = b := by rw [h, Nat.add_zero]
theorem AtStart.left_add (h : AtStart a) (b : Nat) : a + b = b := by rw [h, Nat.zero_add]
theorem AtStart.div (h : AtStart a) (b : Nat) : a / b = 0 := by rw [h, Nat.zero_div]
theorem AtStart.mod (h : AtStart a) (b : Nat) : a % b = 0 := by rw [h, Nat.zero_mod]
theorem AtStart.left_mul (h : AtStart a) (b : Nat) : a * b = 0 := by rw [h, Nat.zero_mul]
theorem AtStart.sub (h : AtStart a) (b : Nat) : b - a = b := by rw [h, Nat.sub_zero]
theorem AtStart.ranges (h : AtStart a) (n : Nat) (ps : List Pred) : predRanges a n ps = predRanges 0 n ps := by rw [h]

end

theorem with_buf_zero {r : EngRun} (h : AtStart r.buf) (k : Nat) : ({ r with out := k, buf := 0 } : EngRun) = { r with out := k } := by
  rw [← show r.buf = 0 from h]

/-! ### Bits packed into bytes (R422) -/

theorem packBits_lt (l : List Bool) : packBits l < 2 ^ l.length := by
  induction l with
  | nil => exact Nat.one_pos
  | cons b l ih =>
    have hb : b2n b ≤ 1 := by cases b <;> decide
    rw [packBits, List.length_cons, Nat.pow_succ]
    omega

/-- No byte is left of bits that were all written. -/
theorem packBits_div_bytes (l : List Bool) : packBits l / 2 ^ (8 * bitBytes l.length) = 0 := by
  refine Nat.div_eq_of_lt (Nat.lt_of_lt_of_le (packBits_lt l) (Nat.pow_le_pow_right (by decide) ?_))
  unfold bitBytes
  omega

theorem packBits_false {α : Type} (l : List α) : packBits (l.map (fun _ => false)) = 0 := by
  induction l with
  | nil => rfl
  | cons a l ih => rw [List.map_cons, packBits, ih]; rfl

/-! ### SCAN-FILTER (R425) -/

/-- The predicates of a SCAN-FILTER, out of the block that holds them. -/
abbrev EngRun.preds (r : EngRun) (v : Nat) : List Pred := (upTo (r.ctl 3 0)).map (fun i => Pred.of (elt v 64 i))

/-- A SCAN-FILTER selects row `i` of a segment, from its selection bits and the values of `predRanges`. -/
abbrev EngRun.hit (r : EngRun) (ps : List Pred) (sel : Nat) (vs : List Nat) (i : Nat) : Bool :=
  combineTrue (decide (r.ctl 4 4 = 1)) (predRow i ps vs) && (!decide (r.ctl 7 7 = 1) || sel.testBit i)

/-- The rows of a segment that a SCAN-FILTER selects. -/
abbrev EngRun.hits (r : EngRun) (ps : List Pred) (sel : Nat) (vs : List Nat) : List Nat := (upTo r.rows).filter (r.hit ps sel vs)

theorem map_mem_filter {α : Type} [DecidableEq α] (f : α → Bool) (l : List α) : l.map (fun i => decide (i ∈ l.filter f)) = l.map f :=
  List.map_congr_left (fun i hi => by simp only [List.mem_filter, hi, true_and, Bool.decide_eq_true])

section
variable {s : State} {e realm : Nat} {r : EngRun} {v x : Nat} {vs : List Nat}

/-- What a SCAN-FILTER's first segment reads: its predicates, and its columns. -/
structure State.scans (s : State) (e realm : Nat) (r : EngRun) (v x : Nat) (vs : List Nat) : Prop where
  fresh : AtStart r.pos ∧ AtStart r.out
  block : s.reads e realm [(r.p 0, r.ctl 3 0 * 64)] [v]
  valid : (r.preds v).all Pred.ok = true
  columns : s.reads e realm ((r.p 3, if decide (r.ctl 7 7 = 1) then bitBytes r.rows else 0) :: predRanges 0 r.rows (r.preds v)) (x :: vs)

/-- One segment of SCAN-FILTER: a bitmap, row numbers that fit, or row numbers up to the first that does not. -/
theorem segScan_gives (h : s.scans e realm r v x vs) :
    let hits := r.hits (r.preds v) x vs
    let wide : Nat := if r.ctl 6 5 = 1 then 4 else 8
    let ids (k : Nat) (l : List Nat) : List (Nat × Nat × Nat) := [(r.p 4, k * wide, packed wide (l.map (fun i => r.p 1 + i)))]
    let bitmap : List (Nat × Nat × Nat) := [(r.p 4, bitBytes r.rows, packBits ((upTo r.rows).map (r.hit (r.preds v) x vs)))]
    let done : EngRun := ({ r with out := hits.length }).reach r.rows hits.length
    (r.ctl 6 5 = 0 → s.allows realm (bitmap.map (fun p => (p.1, p.2.1))) →
      SegOut.gives (s.segScan e realm r) s done (s.putAll e realm bitmap).sent) ∧
    (r.ctl 6 5 ≠ 0 → hits.length ≤ r.p 5 → s.allows realm ((ids hits.length hits).map (fun p => (p.1, p.2.1))) →
      SegOut.gives (s.segScan e realm r) s done (s.putAll e realm (ids hits.length hits)).sent) ∧
    (r.ctl 6 5 ≠ 0 → r.p 5 < hits.length → s.allows realm ((ids (r.p 5) (hits.take (r.p 5))).map (fun p => (p.1, p.2.1))) →
      SegOut.gives (s.segScan e realm r) s (({ r with out := r.p 5 }).stop peOutFull (hits.getD (r.p 5) 0))
        (s.putAll e realm (ids (r.p 5) (hits.take (r.p 5)))).sent) := by
  intro hits wide ids bitmap done
  obtain ⟨⟨hpos, hout⟩, hblock, hvalid, hcolumns⟩ := h
  simp only [decide_eq_true_eq] at hcolumns
  have hall : (!((upTo (r.ctl 3 0)).map (fun i => Pred.of (elt v 64 i))).all Pred.ok) = false := congrArg not hvalid
  unfold State.segScan
  rw [engRead_reads hblock]
  simp only [List.headD_cons, hall, Bool.false_eq_true, if_false, hpos.div, hpos.add, hpos.left_add, hpos.ranges, hout.left_add,
    hout.left_mul, hout.sub, Nat.add_zero]
  rw [engRead_reads hcolumns]
  simp only [List.headD_cons, List.tail_cons]
  refine ⟨fun hform hallow => ?_, fun hform hfit hallow => ?_, fun hform hfull hallow => ?_⟩
  · rw [if_pos hform, step_from_start (by exact hpos)]
    exact engWrite_gives hallow
  · rw [if_neg hform, List.take_of_length_le (l := r.hits (r.preds v) x vs) hfit,
      List.drop_of_length_le (l := r.hits (r.preds v) x vs) hfit, List.length_map,
      step_from_start (by exact hpos)]
    exact engWrite_gives hallow
  · rw [if_neg hform, List.drop_eq_getElem_cons (l := r.hits (r.preds v) x vs) hfull, List.length_map, List.length_take, Nat.min_eq_left hfull.le,
      List.getD_eq_getElem hits 0 hfull]
    exact engWrite_gives hallow

end

/-! ### PROJECT (R426) -/

section
variable {s : State} {e realm : Nat} {r : EngRun} {x y z : Nat}

/-- What a PROJECT's first segment reads: its selection bits, the values, and the null bits. -/
structure State.projects (s : State) (e realm : Nat) (r : EngRun) (x y z : Nat) : Prop where
  fresh : AtStart r.pos ∧ AtStart r.out
  buf : AtStart r.buf
  columns : s.reads e realm [(r.p 3, bitBytes r.rows), (r.p 0, r.rows * r.ctl 4 0),
    (r.p 1, if decide (r.ctl 5 5 = 1) then bitBytes r.rows else 0)] [x, y, z]

/-- The rows that a PROJECT selects. -/
abbrev EngRun.picked (r : EngRun) (x : Nat) : List Nat := (upTo r.rows).filter (fun i => x.testBit i)

/-- One segment of PROJECT: the values, and in the last one the null bits of those values. -/
theorem segProject_gives (h : s.projects e realm r x y z) :
    let rows := r.picked x
    let values : Nat × Nat × Nat := (r.p 4, rows.length * r.ctl 4 0, packed (r.ctl 4 0) (rows.map (fun i => elt y (r.ctl 4 0) i)))
    let nulls := rows.map (fun i => decide (r.ctl 5 5 = 1) && z.testBit i)
    let done : EngRun := ({ r with out := rows.length }).reach r.rows rows.length
    (r.ctl 6 6 = 0 → r.ctl 5 5 ≠ 1 → s.allows realm [(values.1, values.2.1)] →
      SegOut.gives (s.segProject e realm r) s done (s.putAll e realm [values]).sent) ∧
    (r.ctl 6 6 = 1 → r.count ≤ r.rows → s.allows realm [(values.1, values.2.1), (r.p 5, bitBytes rows.length)] →
      SegOut.gives (s.segProject e realm r) s done (s.putAll e realm [values, (r.p 5, bitBytes rows.length, packBits nulls)]).sent) := by
  obtain ⟨⟨hpos, hout⟩, hbuf, hcolumns⟩ := h
  simp only [decide_eq_true_eq] at hcolumns
  intro rows values nulls done
  unfold State.segProject
  simp only [hpos.div, hpos.left_mul, hpos.left_add, hout.left_add, hout.left_mul, hout.div, hout.mod, hbuf.left_add, Nat.add_zero, Nat.zero_add,
    Nat.pow_zero, Nat.mul_one]
  rw [engRead_reads hcolumns]
  simp only [List.getD_cons_zero, List.getD_cons_succ, List.length_map]
  refine ⟨fun hmap hnul hallow => ?_, fun hmap hlast hallow => ?_⟩
  · have hmap1 : ¬r.ctl 6 6 = 1 := by omega
    simp only [hmap1, decide_eq_false hnul, Bool.false_and, packBits_false, Nat.zero_div, if_false]
    rw [with_buf_zero hbuf, step_from_start (by exact hpos)]
    exact engWrite_gives hallow
  · have hrest := packBits_div_bytes nulls
    rw [List.length_map] at hrest
    simp only [hmap, hlast, decide_true, if_true]
    rw [show packBits _ / 2 ^ (8 * bitBytes (List.length _)) = 0 from hrest, with_buf_zero hbuf, step_from_start (by exact hpos)]
    exact engWrite_gives hallow

end

/-! ### AGGREGATE (R428) -/

section
variable {s : State} {e realm : Nat} {r : EngRun} {v w x y : Nat}

/-- A row's value in an AGGREGATE, by its type. -/
abbrev EngRun.aggKey (r : EngRun) (v i : Nat) : Int :=
  if r.ctl 9 8 = 1 then signedOf (8 * r.ctl 4 0) (elt v (r.ctl 4 0) i) else (elt v (r.ctl 4 0) i : Int)

/-- The rows that an AGGREGATE takes. -/
abbrev EngRun.aggTaken (r : EngRun) (x : Nat) : List Nat := (upTo r.rows).filter (fun i => decide (r.ctl 6 6 = 0) || x.testBit i)

/-- The run once a segment's rows are taken. -/
abbrev EngRun.aggAll (r : EngRun) (v w x : Nat) : EngRun :=
  (r.aggTaken x).foldl (fun (a : EngRun) i => a.aggRow (decide (r.ctl 5 5 = 1) && w.testBit i) (r.aggKey v i)) r

/-- Rows leave the descriptor and the place as they are. -/
theorem foldl_aggRow_keeps (null : Nat → Bool) (key : Nat → Int) (l : List Nat) (r : EngRun) :
    (l.foldl (fun (a : EngRun) i => a.aggRow (null i) (key i)) r).words = r.words ∧
      (l.foldl (fun (a : EngRun) i => a.aggRow (null i) (key i)) r).pos = r.pos := by
  induction l generalizing r with
  | nil => exact ⟨rfl, rfl⟩
  | cons i l ih =>
    have hrow : (r.aggRow (null i) (key i)).words = r.words ∧ (r.aggRow (null i) (key i)).pos = r.pos := by
      unfold EngRun.aggRow
      split <;> exact ⟨rfl, rfl⟩
    obtain ⟨hwords, hpos⟩ := ih (r.aggRow (null i) (key i))
    exact ⟨hwords.trans hrow.1, hpos.trans hrow.2⟩

theorem count_of_words {a b : EngRun} (h : a.words = b.words) : a.count = b.count := by
  simp only [EngRun.count, EngRun.op, EngRun.p, h]

theorem p_of_words {a b : EngRun} (h : a.words = b.words) (i : Nat) : a.p i = b.p i := by
  rw [EngRun.p, EngRun.p, h]

/-- What an AGGREGATE that is one segment reads: values, null and selection bits, and the block it adds to. -/
structure State.aggregates (s : State) (e realm : Nat) (r : EngRun) (v w x y : Nat) : Prop where
  fresh : AtStart r.pos
  nonempty : 0 < r.count
  last : r.count ≤ r.rows
  columns : s.reads e realm [(r.p 0, r.rows * r.ctl 4 0), (r.p 1, if r.ctl 5 5 = 1 then bitBytes r.rows else 0),
    (r.p 3, if r.ctl 6 6 = 1 then bitBytes r.rows else 0), (r.p 4, if r.ctl 7 7 = 1 then 64 else 0)] [v, w, x, y]

theorem ctl_bit (r : EngRun) (k : Nat) : (!decide (r.ctl k k = 1)) = decide (r.ctl k k = 0) := by
  have h : r.ctl k k < 2 ^ (k - k + 1) := Nat.mod_lt _ (Nat.two_pow_pos _)
  rw [Nat.sub_self] at h
  rcases (by omega : r.ctl k k = 0 ∨ r.ctl k k = 1) with h | h <;> rw [h] <;> rfl

/-- The result block is written once all rows have been read. -/
theorem aggWrite_gives {n : Nat} (hpos : r.pos = 0) (hsome : 0 < r.count) (hlast : r.count ≤ n) (hallow : s.allows realm [(r.p 4, 64)]) :
    SegOut.gives (s.engWrite e realm r (if r.count = 0 then [] else [(r.p 4, 64, (r.aggEnd y).1)])
        (fun q => (q, some (({ r with ovf := (r.aggEnd y).2.1, empty := (r.aggEnd y).2.2 }).step n r.cnt)))) s
      { r with pos := n, ovf := (r.aggEnd y).2.1, empty := (r.aggEnd y).2.2, status := some peOk, result := BitVec.ofNat 64 r.cnt }
      (s.putAll e realm [(r.p 4, 64, (r.aggEnd y).1)]).sent := by
  rw [if_neg hsome.ne', step_to_end (r := { r with ovf := (r.aggEnd y).2.1, empty := (r.aggEnd y).2.2 }) hpos hlast]
  exact engWrite_gives hallow

theorem segAggregate_gives {r1 : EngRun} (h : s.aggregates e realm r v w x y) (hr1 : r.aggAll v w x = r1) (hallow : s.allows realm [(r.p 4, 64)]) :
    SegOut.gives (s.segAggregate e realm r) s
      { r1 with pos := r.rows, ovf := (r1.aggEnd y).2.1, empty := (r1.aggEnd y).2.2, status := some peOk, result := BitVec.ofNat 64 r1.cnt }
      (s.putAll e realm [(r.p 4, 64, (r1.aggEnd y).1)]).sent := by
  obtain ⟨hpos, hsome, hlast, hcolumns⟩ := h
  obtain ⟨hwords, hplace⟩ := foldl_aggRow_keeps (fun i => decide (r.ctl 5 5 = 1) && w.testBit i) (r.aggKey v) (r.aggTaken x) r
  unfold EngRun.aggAll at hr1
  rw [hr1] at hwords hplace
  have hcount : r1.count = r.count := count_of_words hwords
  unfold State.segAggregate
  simp only [hpos.div, hpos.left_mul, hpos.left_add, Nat.add_zero, ge_iff_le, hlast, decide_true, true_and]
  rw [engRead_reads hcolumns]
  simp only [List.getD_cons_zero, List.getD_cons_succ, ctl_bit, Bool.not_true, Bool.false_eq_true, if_false]
  rw [hr1, ← p_of_words hwords]
  exact aggWrite_gives (hplace.trans hpos) (hcount.trans_gt hsome) (hcount.trans_le hlast) (by rwa [p_of_words hwords])

end

/-! ### HASH-PARTITION (R429) -/

section
variable {s : State} {e realm : Nat} {r : EngRun} {v y : Nat}

/-- What HASH-PARTITION has done once it has taken a segment's records. -/
abbrev EngRun.parts (r : EngRun) (v y : Nat) : Parted :=
  ((upTo r.rows).map (fun i => elt v (r.ctl 12 0) i)).foldl (fun a q => r.part y a q) { fills := r.fills }

/-- What a HASH-PARTITION's first segment reads: the partition table, and the records. -/
structure State.partitions (s : State) (e realm : Nat) (r : EngRun) (v y : Nat) : Prop where
  fresh : AtStart r.pos ∧ AtStart r.out
  last : r.count ≤ r.rows
  columns : s.reads e realm [(r.p 2, r.ctl 40 30 * 16), (r.p 0, r.rows * r.ctl 12 0)] [y, v]

theorem segHash_gives (h : s.partitions e realm r v y) :
    let a := r.parts v y
    let s2 := s.putAll e realm a.writes
    let grown := { r with fills := a.fills, out := a.placed }
    s.allows realm (a.writes.map (fun p => (p.1, p.2.1))) → s2.allows realm (grown.fillWrites.map (fun p => (p.1, p.2.1))) →
    (a.full = none → SegOut.gives (s.segHash e realm r) s
      { grown with pos := r.rows, status := some peOk, result := BitVec.ofNat 64 a.placed } (s2.putAll e realm grown.fillWrites).sent) ∧
    (∀ p, a.full = some p → SegOut.gives (s.segHash e realm r) s
      { grown with status := some pePartFull, result := BitVec.ofNat 64 (a.placed + p * 2 ^ 48) } (s2.putAll e realm grown.fillWrites).sent) := by
  intro a s2 grown hrecords hfills
  obtain ⟨⟨hpos, hout⟩, hlast, hcolumns⟩ := h
  unfold State.segHash
  simp only [hpos.left_mul, hout.left_add, Nat.add_zero]
  rw [engRead_reads hcolumns]
  simp only [List.getD_cons_zero, List.getD_cons_succ]
  refine ⟨fun hroom => ?_, fun p hfull => ?_⟩
  · rw [show (r.parts v y).full = none from hroom, step_to_end (r := { r with fills := a.fills, out := a.placed }) hpos hlast]
    exact engWrite_twice_gives hrecords hfills
  · rw [show (r.parts v y).full = some p from hfull]
    exact engWrite_twice_gives hrecords hfills

end

/-! ### GATHER (R427) -/

section
variable {s : State} {e realm : Nat} {r : EngRun} {v : Nat} {vs : List Nat}

/-- The ids of a GATHER's segment up to the first that is out of range. -/
abbrev EngRun.gathered (r : EngRun) (v : Nat) : List Nat :=
  ((upTo r.rows).map (fun i => elt v (if r.ctl 6 6 = 1 then 8 else 4) i)).takeWhile (fun i => decide (i < r.p 4))

theorem gathered_length_le (r : EngRun) (v : Nat) : (r.gathered v).length ≤ r.rows := by
  refine (List.takeWhile_sublist _).length_le.trans ?_
  rw [List.length_map, upTo, List.length_range]

/-- What a GATHER's first segment reads: its ids, and the values they name. -/
structure State.gatherings (s : State) (e realm : Nat) (r : EngRun) (v : Nat) (vs : List Nat) : Prop where
  fresh : AtStart r.pos ∧ AtStart r.out
  plain : r.ctl 5 5 = 0
  ids : s.reads e realm [(r.p 1, r.rows * if r.ctl 6 6 = 1 then 8 else 4)] [v]
  values : s.reads e realm ((r.gathered v).map (fun i => (r.p 0 + i * r.ctl 4 0, r.ctl 4 0))) vs

theorem segGather_gives (h : s.gatherings e realm r v vs) (hallow : s.allows realm [(r.p 3, (r.gathered v).length * r.ctl 4 0)]) :
    SegOut.gives (s.segGather e realm r) s
      (if (r.gathered v).length < r.rows then ({ r with out := (r.gathered v).length }).stop peRange (r.gathered v).length
        else ({ r with out := r.rows }).reach r.rows r.rows)
      (s.putAll e realm [(r.p 3, (r.gathered v).length * r.ctl 4 0, packed (r.ctl 4 0) vs)]).sent := by
  obtain ⟨⟨hpos, hout⟩, hplain, hids, hvalues⟩ := h
  have hlen : vs.length = (r.gathered v).length := (fetchAll_length hvalues.2).trans (List.length_map _)
  have hplain1 : decide (r.ctl 5 5 = 1) = false := decide_eq_false (by omega)
  unfold State.segGather
  simp only [hpos.left_mul, hpos.left_add, hout.left_add, Nat.add_zero, hplain1, Bool.false_eq_true, if_false, List.append_nil]
  rw [engRead_reads hids]
  simp only [List.headD_cons]
  rw [engRead_reads hvalues, List.take_of_length_le hlen.le]
  have hplace : (if (r.gathered v).length < r.rows then ({ r with out := (r.gathered v).length }).stop peRange (r.gathered v).length
      else ({ r with out := r.rows }).reach r.rows r.rows) =
      if (r.gathered v).length < r.rows then ({ r with out := (r.gathered v).length }).stop peRange (r.gathered v).length
      else ({ r with out := (r.gathered v).length }).step r.rows (r.gathered v).length := by
    split
    · rfl
    next hshort => rw [le_antisymm (gathered_length_le r v) (Nat.le_of_not_lt hshort), step_from_start (by exact hpos)]
  rw [hplace]
  exact engWrite_gives (l := [(r.p 3, (r.gathered v).length * r.ctl 4 0, packed (r.ctl 4 0) vs)]) hallow

end

/-! ### COPY, FILL and CRC32C (R430 to R432) -/

section
variable {s : State} {e realm : Nat} {r : EngRun} {v : Nat}

/-- Nothing of a stream is finished, read or written yet, and one segment takes it whole. -/
structure EngRun.OneStream (r : EngRun) : Prop where
  fresh : AtStart r.pos ∧ AtStart r.out
  buf : AtStart r.buf
  last : r.count ≤ r.bytes

theorem putStream_gives (h : r.OneStream) (hallow : s.allows realm [(r.p 1, r.bytes)]) :
    SegOut.gives (s.putStream e realm r r.bytes v) s
      { r with pos := r.bytes, out := r.bytes, buf := v / 2 ^ (8 * r.bytes), status := some peOk, result := BitVec.ofNat 64 r.bytes }
      (s.putAll e realm [(r.p 1, r.bytes, v % 2 ^ (8 * r.bytes))]).sent := by
  obtain ⟨⟨hpos, hout⟩, hbuf, hlast⟩ := h
  have hzero : r.pos - r.out = 0 := by rw [hpos, Nat.zero_sub]
  unfold State.putStream
  simp only [hzero, hpos.left_add, hout.add, hout.sub, hbuf.left_add, ge_iff_le, hlast, if_true, Nat.mul_zero, Nat.pow_zero, Nat.mul_one]
  rw [step_to_end (r := { r with out := r.bytes, buf := v / 2 ^ (8 * r.bytes) }) hpos hlast]
  exact engWrite_gives hallow

theorem segCopy_gives (h : r.OneStream) (hread : s.reads e realm [(r.p 0, r.bytes)] [v]) (hallow : s.allows realm [(r.p 1, r.bytes)]) :
    SegOut.gives (s.segCopy e realm r) s
      { r with pos := r.bytes, out := r.bytes, buf := v / 2 ^ (8 * r.bytes), status := some peOk, result := BitVec.ofNat 64 r.bytes }
      (s.putAll e realm [(r.p 1, r.bytes, v % 2 ^ (8 * r.bytes))]).sent := by
  unfold State.segCopy
  simp only [h.fresh.1.add]
  rw [engRead_reads hread]
  exact putStream_gives h hallow

theorem patternAt_lt (p a n : Nat) : patternAt p a n < 2 ^ (8 * n) := Nat.mod_lt _ (Nat.two_pow_pos _)

theorem segFill_gives (h : r.OneStream) (hallow : s.allows realm [(r.p 1, r.bytes)]) :
    SegOut.gives (s.segFill e realm r) s
      { r with pos := r.bytes, out := r.bytes, status := some peOk, result := BitVec.ofNat 64 r.bytes }
      (s.putAll e realm [(r.p 1, r.bytes, patternAt (r.p 3) (r.p 1) r.bytes)]).sent := by
  have hgives := putStream_gives (e := e) (v := patternAt (r.p 3) (r.p 1) r.bytes) h hallow
  rw [Nat.div_eq_of_lt (patternAt_lt _ _ _), Nat.mod_eq_of_lt (patternAt_lt _ _ _), ← show r.buf = 0 from h.buf] at hgives
  unfold State.segFill
  rw [h.fresh.1.add]
  exact hgives

theorem segCrc_gives (hpos : AtStart r.pos) (hsome : 0 < r.count) (hread : s.reads e realm [(r.p 0, r.bytes)] [v]) :
    SegOut.gives (s.segCrc e realm r) s
      (({ r with crc := crcBytes (~~~(BitVec.ofNat 32 (r.p 3))) (leBytes v r.bytes) }).reach r.bytes
        (crc32c (BitVec.ofNat 32 (r.p 3)) (leBytes v r.bytes)).toNat)
      s.sent := by
  unfold State.segCrc
  simp only [hpos.add]
  rw [engRead_reads hread, if_pos (show r.pos = 0 from hpos), if_neg hsome.ne', step_from_start (by exact hpos)]
  exact ⟨rfl, rfl, rfl, rfl⟩

end

end Sys2Proof.Machine

namespace Sys2Proof.Machine
open Sys2Proof

/-! ### The segment of an engine's command (R415, R420) -/

theorem kick_busy {s : State} {e c : Nat} (h : (s.engine e).cur = some c) : s.kick e = s := by
  rw [State.kick, h]
  rfl

/-- The engine serves a descriptor that has been read and has not ended. -/
structure State.servesRun (s : State) (e c : Nat) (r : EngRun) : Prop where
  on : s.engineOn e = true
  past : (s.engine e).past = false
  cur : (s.engine e).cur = some c
  run : (s.ctxRun c).run = some r
  words : r.words ≠ []
  unended : r.status = none

/-- What a command leaves that ends a segment: the descriptor's new state, the segment over, the lines forgotten, the messages sent;
the context and DRAM stay. -/
def State.segmentEnds (s u : State) (e c : Nat) (r : EngRun) (l : List Msg) : Prop :=
  (u.ctxRun c).run = some r ∧ (u.engine e).past = true ∧ (u.port (engPort e)).lines = [] ∧ u.sent = l ∧ u.ctx c = s.ctx c ∧ u.mem = s.mem

theorem segmentOver_ends {s q : State} (e c : Nat) (r : EngRun) (hctxs : q.ctxs = s.ctxs) (hmem : q.mem = s.mem) :
    s.segmentEnds (q.segmentOver e c r) e c r q.sent := by
  refine ⟨?_, ?_, ?_, rfl, congrArg (fun t : Tbl RingCtx => Tbl.get ({} : RingCtx) t c) hctxs, (segmentOver_mem q e c r).trans hmem⟩
  · exact congrArg CtxRun.run ((Tbl_get_set _ _ _ _ _).trans (if_pos rfl))
  · exact congrArg Engine.past ((Tbl_get_set _ _ _ _ _).trans (if_pos rfl))
  · exact congrArg Port.lines ((Tbl_get_set _ _ _ _ _).trans (if_pos rfl))

section
variable {s : State} {e c : Nat} {r r' : EngRun} {l : List Msg}

theorem ctxRun_putRun (s : State) (c : Nat) (r : EngRun) : ((s.putRun c r).ctxRun c).run = some r :=
  congrArg CtxRun.run ((Tbl_get_set _ _ _ _ _).trans (if_pos rfl))

/-- A descriptor without FENCE, or with no write outstanding, waits for none (R415). -/
theorem fenceWaits_putRun (hfence : bit (r.words.getD 0 0) 8 = false ∨ s.portQuiet (engPort e) = true) :
    (s.putRun c r).fenceWaits e ((s.putRun c r).ctxRun c) = false := by
  rw [State.fenceWaits, ctxRun_putRun]
  rcases hfence with hbit | hquiet
  · simp only [hbit, Bool.and_false, Bool.false_and]
  · have hnone : ((s.putRun c r).port (engPort e)).writes = [] := List.isEmpty_iff.1 hquiet
    simp only [State.ctxQuiet, hnone, List.all_nil, Bool.not_true, Bool.and_false]

theorem engineOp_serves (h : s.servesRun e c r) (op : Nat) : s.engineOp e op =
    r.early.elim (if r.op ≠ op then s.putRun c r else if (s.putRun c r).fenceWaits e ((s.putRun c r).ctxRun c) then (s.putRun c r).choose e else
      ((s.putRun c r).segment e (s.ctx c).realm r).2.elim ((s.putRun c r).segment e (s.ctx c).realm r).1
        (((s.putRun c r).segment e (s.ctx c).realm r).1.segmentOver e c))
      (fun st => (s.putRun c r).spendFree.segmentOver e c { r with status := some st, result := s.freeWord }) := by
  obtain ⟨hon, hpast, hcur, hrun, hwords, hopen⟩ := h
  unfold State.engineOp
  simp only [hon, hpast, kick_busy hcur, hcur, hrun, if_neg hwords, hopen, Bool.not_true, Bool.or_self,
    Bool.false_eq_true, if_false, Option.isSome_none]
  cases hearly : r.early with
  | some st => rfl
  | none =>
    rw [Option.elim_none, show (s.putRun c r).ctx c = s.ctx c from rfl]
    cases ((s.putRun c r).segment e (s.ctx c).realm r).2 <;> rfl

/-- A descriptor that a check refuses ends at once, with a free RESULT (log entry 32). -/
theorem engineOp_refused (h : s.servesRun e c r) (op : Nat) {st : Nat} (hearly : r.early = some st) :
    s.segmentEnds (s.engineOp e op) e c { r with status := some st, result := s.freeWord } s.sent := by
  rw [engineOp_serves h, hearly]
  exact segmentOver_ends e c _ rfl rfl

/-- A command of the descriptor's operation runs its segment. -/
theorem engineOp_runs (h : s.servesRun e c r) (hearly : r.early = none) (hfence : bit (r.words.getD 0 0) 8 = false ∨ s.portQuiet (engPort e) = true)
    (hseg : SegOut.gives ((s.putRun c r).segment e (s.ctx c).realm r) (s.putRun c r) r' l) :
    s.segmentEnds (s.engineOp e r.op) e c r' l := by
  obtain ⟨hrun, hsent, hctxs, hmem⟩ := hseg
  rw [engineOp_serves h, hearly, Option.elim_none, if_neg (fun hne : r.op ≠ r.op => hne rfl), fenceWaits_putRun hfence, hrun, ← hsent]
  exact segmentOver_ends e c r' hctxs (hmem.trans (putRun_mem s c r))

end

/-! ### The operation of a descriptor -/

section
variable {s : State} {e realm : Nat} {r : EngRun}

/-- A descriptor of no rows, AGGREGATE apart, is done at once. -/
theorem segment_empty (hop : r.op ≠ 3) (hcount : r.count = 0) :
    SegOut.gives (s.segment e realm r) s { r with status := some peOk, result := 0 } s.sent := by
  have hdone : r.count ≤ r.pos := hcount.trans_le (Nat.zero_le _)
  have hstep : r.step 0 0 = { r with status := some peOk, result := 0 } := if_pos hdone
  rw [State.segment, if_pos ⟨hcount, hop⟩, hstep]
  exact ⟨rfl, rfl, rfl, rfl⟩

theorem segment_nonempty (h : 0 < r.count) : ¬(r.count = 0 ∧ r.op ≠ 3) := fun hempty => h.ne' hempty.1

theorem segment_scan (h : 0 < r.count) (hop : r.op = 1) : s.segment e realm r = s.segScan e realm r := by
  rw [State.segment, if_neg (segment_nonempty h), hop]
  rfl

theorem segment_project (h : 0 < r.count) (hop : r.op = 2) : s.segment e realm r = s.segProject e realm r := by
  rw [State.segment, if_neg (segment_nonempty h), hop]
  rfl

theorem segment_aggregate (h : 0 < r.count) (hop : r.op = 3) : s.segment e realm r = s.segAggregate e realm r := by
  rw [State.segment, if_neg (segment_nonempty h), hop]
  rfl

theorem segment_hash (h : 0 < r.count) (hop : r.op = 4) : s.segment e realm r = s.segHash e realm r := by
  rw [State.segment, if_neg (segment_nonempty h), hop]
  rfl

theorem segment_gather (h : 0 < r.count) (hop : r.op = 5) : s.segment e realm r = s.segGather e realm r := by
  rw [State.segment, if_neg (segment_nonempty h), hop]
  rfl

theorem segment_copy (h : 0 < r.count) (hop : r.op = 6) : s.segment e realm r = s.segCopy e realm r := by
  rw [State.segment, if_neg (segment_nonempty h), hop]
  rfl

theorem segment_fill (h : 0 < r.count) (hop : r.op = 7) : s.segment e realm r = s.segFill e realm r := by
  rw [State.segment, if_neg (segment_nonempty h), hop]
  rfl

theorem segment_crc (h : 0 < r.count) (hop : r.op = 8) : s.segment e realm r = s.segCrc e realm r := by
  rw [State.segment, if_neg (segment_nonempty h), hop]
  rfl

end

/-- The commands of the operations, with the operation each runs. -/
def engineRows (e : Fin 16) : List (Nat × Instr) := [(0, .descriptorNop e), (1, .scanFilter e), (2, .project e), (3, .aggregate e),
  (4, .hashPartition e), (5, .gather e), (6, .copy e), (7, .fill e), (8, .crc32c e)]

theorem exec_engineRows {e : Fin 16} {q : Nat × Instr} (h : q ∈ engineRows e) (s : State) : exec q.2 s = .next (s.engineOp e.val q.1) := by
  simp only [engineRows, List.mem_cons, List.not_mem_nil, or_false] at h
  rcases h with rfl | rfl | rfl | rfl | rfl | rfl | rfl | rfl | rfl <;> rfl

section
variable {s : State} {e : Fin 16} {c : Nat} {r r' : EngRun} {l : List Msg} {q : Nat × Instr}

theorem ends_refused (hq : q ∈ engineRows e) (h : s.servesRun e.val c r) {st : Nat} (hearly : r.early = some st) :
    Ends q.2 s (fun u => s.segmentEnds u e.val c { r with status := some st, result := s.freeWord } s.sent) :=
  ⟨_, exec_engineRows hq s, engineOp_refused h q.1 hearly⟩

theorem ends_segment (hq : q ∈ engineRows e) (h : s.servesRun e.val c r) (hearly : r.early = none) (hop : r.op = q.1)
    (hfence : bit (r.words.getD 0 0) 8 = false ∨ s.portQuiet (engPort e.val) = true)
    (hseg : SegOut.gives ((s.putRun c r).segment e.val (s.ctx c).realm r) (s.putRun c r) r' l) :
    Ends q.2 s (fun u => s.segmentEnds u e.val c r' l) :=
  ⟨_, exec_engineRows hq s, hop ▸ engineOp_runs h hearly hfence hseg⟩

end

/-- Settles O51: `segScan_gives` to `segCrc_gives` say what a segment of each operation gives, `ends_segment` that a command of the
descriptor's operation runs it; a descriptor of no rows is `segment_empty`, a refused one `ends_refused`. -/
theorem engineOperations : Obligations.EngineOperations := by
  intro e c r v w x y z vs s hon hpast hcur hrun hwords hopen hfence realm s1 n b allowed reads past ran first at' rows
  have h : s.servesRun e.val c r := ⟨hon, hpast, hcur, hrun, hwords, hopen⟩
  have hrow {op : Nat} {i : Instr} {o : SegOut} {r' : EngRun} {l : List Msg} (hq : (op, i) ∈ engineRows e) (hearly : r.early = none)
      (hop : r.op = op) (hseg : s1.segment e.val realm r = o) (hgives : o.gives s1 r' l) : past i r' l :=
    ends_segment hq h hearly hop hfence (hseg ▸ hgives)
  refine ⟨?_, ?_, ?_, ?_, ?_, ?_, ?_, ?_, ?_, ?_⟩
  · intro q hq hearly hop hsum hcount
    exact ends_segment hq h hearly hop hfence (segment_empty (hop.trans_ne hsum) hcount)
  · intro q hq st hearly
    exact ends_refused hq h hearly
  · rintro ⟨hearly, hop, hpos, hout, -, hsome⟩ ps sel hits wide hblock hvalid hcolumns
    have hscan {r' : EngRun} {l : List Msg} := hrow (r' := r') (l := l) (i := .scanFilter e) (by simp [engineRows]) hearly hop
      (segment_scan hsome hop)
    obtain ⟨hbitmap, hlist, hfull⟩ := segScan_gives (s := s1) ⟨⟨hpos, hout⟩, hblock, hvalid, hcolumns⟩
    rw [← map_mem_filter] at hbitmap
    exact ⟨fun hform hallow => hscan (hbitmap hform hallow), fun hform hfit hallow => hscan (hlist hform hfit hallow),
      fun hform hover hallow => hscan (hfull hform hover hallow)⟩
  · rintro ⟨hearly, hop, hpos, hout, hbuf, hsome⟩ wide nul l hcolumns
    have hproject {r' : EngRun} {l : List Msg} := hrow (r' := r') (l := l) (i := .project e) (by simp [engineRows]) hearly hop
      (segment_project hsome hop)
    obtain ⟨hvalues, hnulls⟩ := segProject_gives (s := s1) ⟨⟨hpos, hout⟩, hbuf, hcolumns⟩
    exact ⟨fun hmap hnul hallow => hproject (hvalues hmap (of_decide_eq_false hnul) hallow),
      fun hmap hlast hallow => hproject (hnulls hmap hlast hallow)⟩
  · rintro ⟨hearly, hop, hpos, -, -, hsome⟩ hlast wide key r1 blk hcolumns hallow
    exact hrow (by simp [engineRows]) hearly hop (segment_aggregate hsome hop) (segAggregate_gives ⟨hpos, hsome, hlast, hcolumns⟩ rfl hallow)
  · rintro ⟨hearly, hop, hpos, hout, -, hsome⟩ hlast a s2 grown hcolumns hrecords hfills
    obtain ⟨hroom, hfull⟩ := segHash_gives ⟨⟨hpos, hout⟩, hlast, hcolumns⟩ hrecords hfills
    refine hrow (by simp [engineRows]) hearly hop (segment_hash hsome hop) ?_
    cases hcase : a.full with
    | none => exact hroom hcase
    | some p => exact hfull p hcase
  · rintro ⟨hearly, hop, hpos, hout, -, hsome⟩ hplain wide iw ids hids hvalues hallow
    have hgives := segGather_gives (s := s1) ⟨⟨hpos, hout⟩, hplain, hids, hvalues⟩ hallow
    exact hrow (by simp [engineRows]) hearly hop (segment_gather hsome hop) hgives
  · rintro ⟨hearly, hop, hpos, hout, hbuf, hsome⟩ hlast hread hallow
    exact hrow (by simp [engineRows]) hearly hop (segment_copy hsome hop) (segCopy_gives ⟨⟨hpos, hout⟩, hbuf, hlast⟩ hread hallow)
  · rintro ⟨hearly, hop, hpos, hout, hbuf, hsome⟩ hlast hallow
    exact hrow (by simp [engineRows]) hearly hop (segment_fill hsome hop) (segFill_gives ⟨⟨hpos, hout⟩, hbuf, hlast⟩ hallow)
  · rintro ⟨hearly, hop, hpos, -, -, hsome⟩ hread -
    have hgives := segCrc_gives hpos hsome hread
    exact hrow (by simp [engineRows]) hearly hop (segment_crc hsome hop) hgives

end Sys2Proof.Machine

/-! ## Predicate engines: a completion record (R418) -/

namespace Sys2Proof.Machine
open Sys2Proof

/-- Engine 3 runs a segment of context 5, one write of it outstanding; the descriptor of context 77 has ended with every write complete,
and its record is still to write. -/
def recordDue : State :=
  { State.reset.setFld regGlbMode 3 0 modeRunI with
    ctxs := [(77, { w1 := 0x200009, w3 := 0x3000, w6 := 1 }), (5, { w1 := 0x300009, w3 := 0x3000, w6 := 1 })]
    ctxRuns := [(77, { run := some { head := 0, ctx := 77, words := [0], status := some peOk } }),
      (5, { run := some { head := 0, ctx := 5, words := [6] }, wrs := [3] })]
    engines := [(3, { cur := some 5 })]
    ports := [(engPort 3, { writes := [(3, 0x100)] })] }

/-- The record of context 77 is written to slot 0, and CHEAD advances (R418 steps 1 to 3). -/
theorem recordDue_completes : ∃ u, exec (.completionRecordWrite 3) recordDue = .next u ∧ (u.ctx 77).chead = 1 :=
  ⟨_, rfl, by decide⟩

/-- Refutes O50: its COMPLETION_RECORD_WRITE does nothing while any write of the engine's port is outstanding, but R418 step 1 waits for the
writes of the descriptor alone. In `recordDue` the outstanding write is that of another context, and the record is written. The statement
needs the outstanding write to be one of the context's (`State.ctxQuiet`). -/
theorem not_engineContexts : ¬ Obligations.EngineContexts := by
  unfold Obligations.EngineContexts
  intro h
  obtain ⟨-, -, -, hwaits, -⟩ := h.2 3 77 { head := 0 } recordDue
  obtain ⟨u, hu, hchead⟩ := recordDue_completes
  have hstay : exec (.completionRecordWrite 3) recordDue = .next recordDue := hwaits (by decide)
  obtain rfl : u = recordDue := Host.Outcome.next.inj (hu.symm.trans hstay)
  exact absurd hchead (by decide)

end Sys2Proof.Machine

/-! ## Register accesses, interrupts, injections

What reaches the register unit (R465, R607, R670), and what a write of a register leaves there: a plain one (THM.CAP), one protected by grants
(GLB.X_INJECT, R615, R619, R674), and the platform host's window (R489). -/

namespace Sys2Proof.Machine
open Sys2Proof

/-! ### Messages for the register unit (R543, R670) -/

/-- A message for this package's register unit that arrives without an error is served. -/
theorem regMessage_ends {i : Instr} {s : State} {m : Msg} {f : State → State} {P : State → Prop} (hexec : exec i s = s.regMessage m .clean f)
    (hdst : agentPkg m.hdr.dst = s.pkgNum) (hon : s.regsOn = true) (hopen : s.meshBlocked m = false) (hbehind : s.behind m = false)
    (hP : P (f (s.delivered m))) : Ends i s P := by
  refine ⟨_, ?_, hP⟩
  rw [hexec, State.regMessage, if_neg (not_not_intro hdst), hon, hopen, arrive_delivered _ hbehind]
  rfl

theorem delivered_takesOnly (s : State) (m : Msg) : s.takesOnly (s.delivered m) m := by
  obtain ⟨v, hv⟩ := delivered_taken s m
  rw [hv]
  exact ⟨rfl, rfl, rfl⟩

/-- A read of a register that no cursor directs elsewhere is answered with its value. -/
theorem serveRead_register {s : State} (h : Hdr) {off : Nat} (size : Nat) (hoff : off < 0x4000000) (hother : s.readsOther off = none) :
    s.serveRead h off size 0 = s.regReply h (s.prsRead off size) := by
  unfold State.serveRead
  rw [if_pos hoff, if_neg (fun hw => absurd hw.1 (by decide)), hother]

theorem registerRead_answers {s : State} {h : Hdr} {off : BitVec 40} (hdst : agentPkg h.dst = s.pkgNum) (hon : s.regsOn = true)
    (hopen : s.meshBlocked { type := .regRead, hdr := h, body := .reg off 8 0 } = false)
    (hbehind : s.behind { type := .regRead, hdr := h, body := .reg off 8 0 } = false) (hoff : off.toNat < 0x4000000)
    (hindex : s.directedIndex h off 8 = 0)
    (hother : (s.delivered { type := .regRead, hdr := h, body := .reg off 8 0 }).readsOther off.toNat = none) :
    let d := s.delivered { type := .regRead, hdr := h, body := .reg off 8 0 }
    Ends (.registerRead h off 8 .clean) s (fun u => s.sameMachine u ∧ u.regs = d.regs ∧ u.sent = d.sent ++
      [{ type := .regAnswer, hdr := { h with src := h.dst, dst := h.src, stamp := s.clause }, body := .value (d.prsRead off.toNat 8) }]) := by
  intro d
  have hexec : exec (.registerRead h off 8 .clean) s =
      s.regMessage { type := .regRead, hdr := h, body := .reg off 8 0 } .clean (fun s => s.serveRead h off.toNat 8 0) := by
    rw [exec_registerRead, execRegisterRead]
    change s.regMessage { type := .regRead, hdr := h, body := .reg off 8 (s.directedIndex h off 8) } .clean
      (fun u => u.serveRead h off.toNat 8 (s.directedIndex h off 8)) = _
    rw [hindex]
  have hd : s.notes d := (delivered_received s _).notes
  refine regMessage_ends hexec hdst hon hopen hbehind ?_
  rw [serveRead_register h 8 hoff hother]
  refine ⟨hd.sameMachine, rfl, ?_⟩
  rw [← hd.clause]
  rfl

/-- The answer completes the load that waits for it (R670). -/
theorem registerAnswer_completes {s : State} {h : Hdr} {t : Nat} {op : LoadOp} {rd : BitVec 5} {v : Word}
    (hagent : s.coreOfAgent h.dst = some (coreOf t)) (hexists : s.coreExists (coreOf t) = true)
    (hwait : (s.thread t).wait = .access h.tid (.load op rd 0 0)) (hexit : (s.thread t).exitDue = none)
    (hsib : (s.thread (siblingOf t)).wait = .ready) (hbehind : s.behind { type := .regAnswer, hdr := h, body := .value v } = false) :
    Ends (.registerAnswer h v .clean) s (fun u => s.accessDone u t rd (loadedWord op (v.toNat % 256 ^ loadSize op))) := by
  obtain ⟨pv, hpv⟩ := delivered_taken s { type := .regAnswer, hdr := h, body := .value v }
  have hwaiter := waiter_eq (s := s.taken { type := .regAnswer, hdr := h, body := .value v } pv) hwait hsib
  refine ⟨_, ?_, completeAccess_load (s := s.taken { type := .regAnswer, hdr := h, body := .value v } pv) hexit rd v op⟩
  rw [exec_registerAnswer, execRegisterAnswer, hagent]
  dsimp only
  rw [arrive_delivered _ hbehind, hpv, show State.coreExists (s.taken _ pv) _ = true from hexists]
  dsimp only [State.meshError]
  rw [hwaiter]
  rfl

/-- An interrupt for a thread of this package waits for its clause's resolution (R465). -/
theorem interruptDelivery_waits {s : State} {h : Hdr} {tid : BitVec 16} {cls : IntClass} {atS : Bool} {t : Nat}
    (hdst : agentPkg h.dst = s.pkgNum) (hon : s.regsOn = true) (hhalt : s.mode ≠ modeHalt)
    (hopen : s.meshBlocked { type := .interrupt, hdr := h, body := .interrupt tid cls atS } = false)
    (hbehind : s.behind { type := .interrupt, hdr := h, body := .interrupt tid cls atS } = false) (hexists : s.threadExists t = true)
    (hpkg : tid.toNat / 2048 = s.pkgNum) (hpos : posOfTid tid.toNat = some t) :
    Ends (.interruptDelivery h tid cls atS .clean) s (fun u =>
      s.takesOnly u { type := .interrupt, hdr := h, body := .interrupt tid cls atS } ∧ u.regs = s.regs ∧
        u.events = s.events ++ [{ stamp := s.clause, rank := 9, origin := s.origin (dieOf t) (t % 40),
                                  kind := .interrupt t cls h.realm atS (some (h, tid)) }]) := by
  refine regMessage_ends rfl hdst hon hopen hbehind ?_
  obtain ⟨pv, hpv⟩ := delivered_taken s { type := .interrupt, hdr := h, body := .interrupt tid cls atS }
  rw [hpv, if_neg (show ¬ State.mode (s.taken _ pv) = modeHalt from hhalt), hpos]
  dsimp only
  rw [if_pos (show tid.toNat / 2048 = State.pkgNum (s.taken _ pv) ∧ State.threadExists (s.taken _ pv) t = true from ⟨hpkg, hexists⟩)]
  exact ⟨⟨rfl, rfl, rfl⟩, rfl, rfl⟩

end Sys2Proof.Machine

namespace Sys2Proof.Machine
open Sys2Proof

/-! ### Whole writes of a register (R674) -/

/-- The bits of `m` come from `v`, the others from `old`. -/
def blend (m old v : Word) : Word := (old &&& ~~~m) ||| (v &&& m)

theorem bit_blend (m old v : Word) (i : Nat) : bit (blend m old v) i = if bit m i then bit v i else bit old i := by
  by_cases hi : i < 64
  · simp only [bit, blend, BitVec.getLsbD_or, BitVec.getLsbD_and, BitVec.getLsbD_not, hi, decide_true, Bool.true_and]
    by_cases hm : m.getLsbD i = true <;> simp [hm]
  · simp [bit, BitVec.getLsbD_of_ge _ i (Nat.le_of_not_lt hi)]

theorem blend_zero (old v : Word) : blend 0 old v = old := by
  simp only [blend, BitVec.ofNat_eq_ofNat, BitVec.not_zero, BitVec.and_allOnes, BitVec.and_zero, BitVec.or_zero]

/-- A field takes what is written. -/
theorem bits_blend {m : Word} (old v : Word) {hi lo : Nat} (hl : lo ≤ hi) (h : ∀ i < hi + 1, lo ≤ i → bit m i = true) :
    bits (blend m old v) hi lo = bits v hi lo := by
  refine Nat.eq_of_testBit_eq fun i => ?_
  rw [testBit_bits, testBit_bits]
  by_cases hin : i < hi - lo + 1
  · rw [bit_blend, if_pos (h _ (by omega) (by omega))]
  · simp [hin]

/-- A write of all bits, to a register without fields that clear or set by ones. -/
theorem applyFields_whole {fs : List RegField} (prot : Bool) (old v : Word) (hw1c : fieldsMask fs .w1c = 0) (hw1s : fieldsMask fs .w1s = 0) :
    applyFields fs prot old v (BitVec.allOnes 64) =
      blend (fieldsMask fs .rw ||| if prot then fieldsMask fs .rwt ||| fieldsMask fs .rwx else 0) old v := by
  simp only [applyFields, hw1c, hw1s, BitVec.ofNat_eq_ofNat, BitVec.and_allOnes, BitVec.zero_and, BitVec.not_zero,
    BitVec.or_zero]
  rfl

/-! ### THM.CAP (R600) -/

/-- What a write of `v` leaves in THM.CAP: its [9:0], held within 200 to 780. -/
def capWord (old v : Word) : Word := holdFld (blend 0x3ff old v) 9 0 200 780

theorem bits_capWord (old v : Word) : bits (capWord old v) 9 0 = clampTo 200 780 (bits v 9 0) := by
  rw [capWord, holdFld, bits_putBits _ _ _ _ (by decide) (by decide), bits_blend old v (by decide) (by decide)]
  refine Nat.mod_eq_of_lt ?_
  unfold clampTo
  split
  · decide
  · split <;> omega

theorem regFields_thmCap : regFields regThmCap = [{ hi := 9, lo := 0, access := .rw, reset := 780 }] := by decide +kernel

/-- A register without protected fields takes what is written, without a record (R674). -/
theorem judge_unprotected (s : State) (who : Writer) {off : Nat} (v m : Word)
    (h : fieldsMask (regFields off) .rwt ||| fieldsMask (regFields off) .rwx = 0) :
    s.judge who off v m = (s.clampReg off (applyFields (regFields off) true (s.reg off) v m), none) := if_pos h

theorem judge_thmCap (s : State) (who : Writer) (v : Word) :
    s.judge who regThmCap v (BitVec.allOnes 64) = (capWord (s.reg regThmCap) v, none) := by
  rw [judge_unprotected _ _ _ _ (by rw [regFields_thmCap]; decide), regFields_thmCap, applyFields_whole _ _ _ (by decide) (by decide)]
  rfl

theorem writePlain_thmCap (s : State) (who : Writer) (v : Word) (done : State → Word → State) :
    s.writePlain who regThmCap v (BitVec.allOnes 64) done =
      done (s.setReg regThmCap (capWord (s.reg regThmCap) v)) (capWord (s.reg regThmCap) v) := by
  unfold State.writePlain
  rw [judge_thmCap]

theorem regAbsent_thmCap (s : State) : s.regAbsent regThmCap = false := by
  unfold State.regAbsent
  rw [if_neg (by decide), if_neg (by decide)]

theorem writeReg_thmCap {s : State} (who : Writer) (v : Word) (hhalt : s.mode ≠ modeHalt) :
    s.writeReg who regThmCap v (BitVec.allOnes 64) = s.setReg regThmCap (capWord (s.reg regThmCap) v) := by
  unfold State.writeReg
  rw [regFields_thmCap, regAbsent_thmCap, if_neg (by decide), if_neg (by decide), if_neg (fun h => hhalt h.1)]
  simp (decide := true) only [if_false]
  exact writePlain_thmCap s who v _

theorem prsWrite_whole {s : State} (who : Writer) {off : Nat} (v : Word) (hoff : off % 8 = 0) (hon : s.regsOn = true) :
    s.prsWrite who off 8 v = s.writeReg who off v (BitVec.allOnes 64) := by
  unfold State.prsWrite accessMask accessWord
  rw [if_pos ⟨rfl, hoff⟩]
  dsimp only
  rw [if_pos hon, if_neg (by omega), Nat.div_mul_cancel (Nat.dvd_of_mod_eq_zero hoff)]

/-- A thread's write of THM.CAP sets the cap, held within its range. -/
theorem prsWrite_thmCap {s : State} (o : BitVec 16) (v : Word) (hon : s.regsOn = true) (hhalt : s.mode ≠ modeHalt) :
    s.prsWrite (.thread o) regThmCap 8 v = s.setReg regThmCap (capWord (s.reg regThmCap) v) := by
  rw [prsWrite_whole _ _ (by decide) hon, writeReg_thmCap _ _ hhalt]

theorem setReg_capWord (s : State) (old v : Word) : (s.setReg regThmCap (capWord old v)).fld regThmCap 9 0 = clampTo 200 780 (bits v 9 0) := by
  rw [State.fld, reg_setReg, if_pos rfl, bits_capWord]

theorem registerWrite_thmCap {s : State} {h : Hdr} {v : Word} (hdst : agentPkg h.dst = s.pkgNum) (hon : s.regsOn = true)
    (hhalt : s.mode ≠ modeHalt) (hopen : s.meshBlocked { type := .regWrite, hdr := h, body := .reg (BitVec.ofNat 40 regThmCap) 8 v } = false)
    (hbehind : s.behind { type := .regWrite, hdr := h, body := .reg (BitVec.ofNat 40 regThmCap) 8 v } = false) :
    Ends (.registerWrite h (BitVec.ofNat 40 regThmCap) 8 v .clean) s (fun u =>
      s.takesOnly u { type := .regWrite, hdr := h, body := .reg (BitVec.ofNat 40 regThmCap) 8 v } ∧
        u.fld regThmCap 9 0 = clampTo 200 780 (bits v 9 0)) := by
  have hexec : exec (.registerWrite h (BitVec.ofNat 40 regThmCap) 8 v .clean) s =
      s.regMessage { type := .regWrite, hdr := h, body := .reg (BitVec.ofNat 40 regThmCap) 8 v } .clean
        (fun u => u.prsWrite (.thread (threadOrigin h.rank)) regThmCap 8 v) := rfl
  have hmode := (delivered_received s { type := .regWrite, hdr := h, body := .reg (BitVec.ofNat 40 regThmCap) 8 v }).notes.regs.mode
  refine regMessage_ends hexec hdst hon hopen hbehind ?_
  rw [prsWrite_thmCap _ v (by rwa [State.regsOn, hmode]) (by rwa [hmode])]
  exact ⟨delivered_takesOnly _ _, setReg_capWord _ _ _⟩

theorem prsWrite_caps {s : State} (o : BitVec 16) {v : Word} (hon : s.regsOn = true) (hhalt : s.mode ≠ modeHalt) :
    Ends (.prsWrite (.thread o) (BitVec.ofNat 26 regThmCap) 8 v) s (fun u => u.fld regThmCap 9 0 = clampTo 200 780 (bits v 9 0) ∧
      u.sent = s.sent ∧ s.sameMachine u) := by
  refine ⟨_, congrArg Host.Outcome.next (prsWrite_thmCap o v hon hhalt), setReg_capWord _ _ _, rfl, rfl, rfl, rfl⟩

/-! ### Protected registers (R674) -/

/-- Words that differ in no bit of `m` agree on each of its bits. -/
theorem bit_eq_of_masked {a b m : Word} (h : (a ^^^ b) &&& m = 0) {i : Nat} (hi : bit m i = true) : bit a i = bit b i := by
  have hbit : bit ((a ^^^ b) &&& m) i = false := by rw [h]; exact BitVec.getLsbD_zero
  simp only [bit, BitVec.getLsbD_and, BitVec.getLsbD_xor] at hbit hi ⊢
  simpa [hi] using hbit

/-- The outcome that a thread's write of a register protected by grants alone is recorded with, and what it leaves there: with a grant for
the block it is applied, without one only where it changes no protected field. -/
theorem judge_grant (s : State) (o : BitVec 16) {off : Nat} (v m : Word) (hrwt : fieldsMask (regFields off) .rwt = 0)
    (hrwx : fieldsMask (regFields off) .rwx ≠ 0) (hstate : ∀ old new, s.stateAllows off old new = true) :
    let want := s.clampReg off (applyFields (regFields off) true (s.reg off) v m)
    s.judge (.thread o) off v m =
      if (want ^^^ s.reg off) &&& fieldsMask (regFields off) .rwx = 0 ∨ s.grantLive (blockOf off) = true then (want, some 0)
      else (s.clampReg off (applyFields (regFields off) false (s.reg off) v m), some 2) := by
  intro want
  unfold State.judge
  extract_lets old fs want' rwt rwx dt dx thread outcome
  have hprot : rwt ||| rwx = rwx := by rw [show rwt = 0 from hrwt]; exact BitVec.zero_or
  rw [hprot, if_neg hrwx]
  have hdt : dt = false := by simp [dt, show rwt = 0 from hrwt]
  have hst : s.stateAllows off old want' = true := hstate _ _
  by_cases hx : (want ^^^ s.reg off) &&& fieldsMask (regFields off) .rwx = 0
  · have hdx : dx = false := decide_eq_false (not_not_intro hx)
    have hout : outcome = 0 := by simp [outcome, hdt, hdx]
    rw [hout, if_pos rfl, if_pos (.inl hx)]
  · have hdx : dx = true := decide_eq_true hx
    cases hg : s.grantLive (blockOf off)
    · have hout : outcome = 2 := by simp [outcome, hdt, hdx, hg]
      rw [hout, if_neg (by decide), if_neg (fun h => h.elim hx Bool.false_ne_true)]
    · have hout : outcome = 0 := by simp [outcome, hdt, hdx, hg, hst, thread]
      rw [hout, if_pos rfl, if_pos (.inr rfl)]

end Sys2Proof.Machine

namespace Sys2Proof.Machine
open Sys2Proof

/-! ### GLB.X_INJECT (R615, R619) -/

/-- The fields of GLB.X_INJECT that a grant allows to be written: ARMED, TARGET, KIND and UNIT. -/
def injectMask : Word := 0x800FC000FFFF0000

theorem injectFields : fieldsMask (regFields regGlbInject) .rwx = injectMask ∧ fieldsMask (regFields regGlbInject) .rwt = 0 ∧
    fieldsMask (regFields regGlbInject) .rw = 0 ∧ fieldsMask (regFields regGlbInject) .w1c = 0 ∧
    fieldsMask (regFields regGlbInject) .w1s = 0 := by decide +kernel

theorem stateAllows_inject (s : State) (old new : Word) : s.stateAllows regGlbInject old new = true := by
  unfold State.stateAllows
  rw [show realmOfOffset regGlbInject = none from by decide]
  dsimp only
  rw [if_neg (by decide), if_neg (by decide)]

theorem clampReg_inject (s : State) (w : Word) : s.clampReg regGlbInject w = s.injectValue w := rfl

/-- What a thread's whole write leaves in GLB.X_INJECT. -/
theorem judge_inject (s : State) (o : BitVec 16) (v : Word) :
    let old := s.reg regGlbInject
    let want := s.injectValue (blend injectMask old v)
    s.judge (.thread o) regGlbInject v (BitVec.allOnes 64) =
      if (want ^^^ old) &&& injectMask = 0 ∨ s.grantLive 0 = true then (want, some 0) else (s.injectValue old, some 2) := by
  intro old want
  obtain ⟨hrwx, hrwt, hrw, hw1c, hw1s⟩ := injectFields
  rw [judge_grant s o v _ hrwt (by rw [hrwx]; decide) (stateAllows_inject s), applyFields_whole _ _ _ hw1c hw1s,
    applyFields_whole _ _ _ hw1c hw1s, hrwx, hrwt, hrw, clampReg_inject, clampReg_inject,
    show ((0 : Word) ||| if false = true then 0 ||| injectMask else 0) = 0 from rfl, blend_zero]
  rfl

/-- While no injection is armed, a thread's write is judged, and recorded. -/
theorem writeInject_judged {s : State} (o : BitVec 16) (v : Word) (hfree : bit (s.reg regGlbInject) 63 = false) :
    let u := s.writeInject (.thread o) v (BitVec.allOnes 64)
    u.reg regGlbInject = (s.judge (.thread o) regGlbInject v (BitVec.allOnes 64)).1 ∧ s.sameMachine u := by
  have hjudged : ∃ w k, s.judge (.thread o) regGlbInject v (BitVec.allOnes 64) = (w, some k) := by
    rw [judge_inject]
    split <;> exact ⟨_, _, rfl⟩
  obtain ⟨w, k, hjudged⟩ := hjudged
  unfold State.writeInject State.writePlain
  rw [hfree, Bool.false_and, if_neg Bool.false_ne_true, hjudged]
  dsimp only
  rw [ite_self]
  have hn : (s.setReg regGlbInject w).notes ((s.setReg regGlbInject w).writeRecs (.thread o) regGlbInject k (s.reg regGlbInject) w v) :=
    notes_trans (emitOrigin_notes _ _ _ _ _) (emitOrigin_notes _ _ _ _ _)
  exact ⟨(hn.regs _ (by decide)).trans ((reg_setReg ..).trans (if_pos rfl)), hn.sameMachine⟩

/-- Under a grant an injection that names a unit of its structure is armed. -/
theorem injectArm_arms {s : State} (o : BitVec 16) {v : Word} (hhalt : s.mode ≠ modeHalt) (hfree : bit (s.reg regGlbInject) 63 = false)
    (harm : bit v 63 = true) (hkind : bits v 47 46 < 2) (hunit : s.injectUnit (bits v 51 48) (bits v 31 16) = true)
    (hgrant : s.grantLive 0 = true) : Ends (.injectArm (.thread o) v) s (fun u => bit (u.reg regGlbInject) 63 = true ∧
      bit (u.reg regGlbInject) 62 = false ∧ u.fld regGlbInject 51 48 = bits v 51 48 ∧ u.fld regGlbInject 31 16 = bits v 31 16 ∧
      s.sameMachine u) := by
  refine ⟨_, congrArg Host.Outcome.next (if_neg hhalt), ?_⟩
  obtain ⟨hreg, hsame⟩ := writeInject_judged o v hfree
  have hfield (hi lo : Nat) (hl : lo ≤ hi) (h : ∀ i < hi + 1, lo ≤ i → bit injectMask i = true) :
      bits (blend injectMask (s.reg regGlbInject) v) hi lo = bits v hi lo := bits_blend _ _ hl h
  have harmed : bit (blend injectMask (s.reg regGlbInject) v) 63 = true := (bit_blend ..).trans ((if_pos (by decide)).trans harm)
  have hvalue : s.injectValue (blend injectMask (s.reg regGlbInject) v) = putBits (blend injectMask (s.reg regGlbInject) v) 62 62 0 := by
    unfold State.injectValue
    rw [if_pos harmed, hfield 47 46 (by decide) (by decide), hfield 51 48 (by decide) (by decide),
      hfield 31 16 (by decide) (by decide), if_pos ⟨hkind, hunit⟩]
  rw [judge_inject, if_pos (.inr hgrant), hvalue] at hreg
  simp only [State.fld, hreg]
  refine ⟨?_, ?_, ?_, ?_, hsame⟩
  · rw [bit_putBits _ _ (by decide), if_neg (by decide), harmed]
  · rw [bit_putBits _ _ (by decide), if_pos (by decide), Nat.zero_testBit]
  · rw [bits_putBits_ne _ _ _ _ _ _ (by decide) (by decide) (by decide), hfield _ _ (by decide) (by decide)]
  · rw [bits_putBits_ne _ _ _ _ _ _ (by decide) (by decide) (by decide), hfield _ _ (by decide) (by decide)]

theorem injectValue_unarmed {s : State} {w : Word} (h : bit w 63 = false) : s.injectValue w = w := by
  unfold State.injectValue
  rw [if_neg (by rw [h]; exact Bool.false_ne_true)]

/-- A value that does not arm differs from the word written in ARMED alone. -/
theorem bit_injectValue {s : State} {w : Word} (h : bit (s.injectValue w) 63 = false) {i : Nat} (hi : i < 63) :
    bit (s.injectValue w) i = bit w i := by
  unfold State.injectValue at h ⊢
  split at h
  next harmed =>
    split at h
    · rw [bit_putBits _ _ (by decide), if_neg (by decide), harmed] at h
      exact absurd h (by decide)
    · rw [if_pos harmed, if_neg ‹_›, bit_putBits _ _ (by omega), if_neg (by omega)]
  next hnot => rw [if_neg hnot]

/-- A write that changes none of its fields leaves GLB.X_INJECT. -/
theorem injectValue_unchanged {s : State} {old v : Word} (hold : bit old 63 = false)
    (h : (s.injectValue (blend injectMask old v) ^^^ old) &&& injectMask = 0) : s.injectValue (blend injectMask old v) = old := by
  have h63 : bit (s.injectValue (blend injectMask old v)) 63 = false := (bit_eq_of_masked h (by decide)).trans hold
  refine BitVec.eq_of_getLsbD_eq fun i hi => ?_
  change bit _ i = bit old i
  by_cases hm : bit injectMask i = true
  · exact bit_eq_of_masked h hm
  · have hne : i ≠ 63 := fun e => hm (e ▸ by decide)
    rw [bit_injectValue h63 (by omega), bit_blend, if_neg hm]

/-- Without a grant GLB.X_INJECT stays. -/
theorem injectArm_refused {s : State} (o : BitVec 16) (v : Word) (hfree : bit (s.reg regGlbInject) 63 = false)
    (hgrant : s.grantLive 0 = false) :
    Ends (.injectArm (.thread o) v) s (fun u => u.reg regGlbInject = s.reg regGlbInject ∧ s.sameMachine u) := by
  refine ⟨_, rfl, ?_⟩
  split
  · exact ⟨rfl, rfl, rfl, rfl⟩
  · obtain ⟨hreg, hsame⟩ := writeInject_judged o v hfree
    refine ⟨hreg.trans ?_, hsame⟩
    rw [judge_inject]
    split
    next h => exact injectValue_unchanged hfree (h.resolve_right (by rw [hgrant]; exact Bool.false_ne_true))
    next => exact injectValue_unarmed hfree

end Sys2Proof.Machine

namespace Sys2Proof.Machine
open Sys2Proof

/-! ### The platform host's accesses (R486, R489) -/

theorem octetCount_received (s : State) (n ev k : Nat) : s.received (s.octetCount n ev k) := by
  unfold State.octetCount State.countUncore
  split
  · exact received_refl s
  · exact uncoreFrom_received _ _ _ _ _ _ _

theorem tlpIn_received (s : State) (n bytes : Nat) : s.received (s.tlpIn n bytes) :=
  received_trans (octetCount_received _ _ _ _) (octetCount_received _ _ _ _)

theorem barWrite_closed {s : State} (o size : Nat) (v : Word) (h : s.barsOpen = false) : s.barWrite o size v = s := by
  unfold State.barWrite
  split
  · rfl
  · rw [if_pos (by rw [h]; rfl)]

/-- A write of a word of the MSI-X table, while no vector is pending. -/
theorem barWrite_msix {s : State} {o : Nat} (v : Word) (h : s.barsOpen = true) (hword : o = 0x8000 + 4 * (o % 0x8000 / 4)) (htop : o < 0x10000)
    (hpending : s.epf.msixPending = []) :
    s.barWrite o 4 v = s.modEpf (fun e => { e with msix := Tbl.set e.msix (o % 0x8000 / 4) (v.truncate 32) }) := by
  have hmask : ∃ m, accessMask o 4 = some m := by
    unfold accessMask
    rw [if_neg (by omega)]
    rcases (show o % 8 = 0 ∨ o % 8 = 4 by omega) with h8 | h8
    · exact ⟨_, if_pos ⟨rfl, h8⟩⟩
    · exact ⟨_, (if_neg (by omega)).trans (if_pos ⟨rfl, h8⟩)⟩
  obtain ⟨m, hm⟩ := hmask
  unfold State.barWrite
  rw [hm]
  dsimp only
  have hin : ¬ 0x100000 ≤ o := by omega
  rw [if_neg (by simp [h, hin]), if_neg (by omega), if_pos htop, if_neg (by decide), show (o - 0x8000) / 4 = o % 0x8000 / 4 by omega]
  unfold State.msixWrite
  extract_lets t
  rw [if_neg (by simp [show t.epf.msixPending = [] from hpending])]

theorem prsWrite_msix {s : State} {bar : BitVec 26} (v : Word) (h : s.barsOpen = true) (hword : bar.toNat = 0x8000 + 4 * (bar.toNat % 0x8000 / 4))
    (htop : bar.toNat < 0x10000) (hpending : s.epf.msixPending = []) : Ends (.prsWrite .host bar 4 v) s (fun u =>
      Tbl.get 0 u.epf.msix (bar.toNat % 0x8000 / 4) = v.truncate 32 ∧ u.regs = s.regs ∧ s.sameMachine u) := by
  obtain ⟨l, pv, ht⟩ := tlpIn_received s 0 4
  refine ⟨_, congrArg Host.Outcome.next (barWrite_msix (s := s.tlpIn 0 4) v ?_ hword htop ?_), ?_⟩
  · rw [ht]; exact h
  · rw [ht]; exact hpending
  · rw [ht]
    refine ⟨?_, rfl, rfl, rfl, rfl⟩
    exact (Tbl_get_set ..).trans (if_pos rfl)

theorem prsWrite_closed {s : State} (bar : BitVec 26) (v : Word) (h : s.barsOpen = false) :
    Ends (.prsWrite .host bar 8 v) s (fun u => u.regs = s.regs ∧ u.epf = s.epf ∧ s.sameMachine u) := by
  obtain ⟨l, pv, ht⟩ := tlpIn_received s 0 8
  refine ⟨_, congrArg Host.Outcome.next (barWrite_closed (s := s.tlpIn 0 8) bar.toNat 8 v ?_), ?_⟩
  · rw [ht]; exact h
  · rw [ht]; exact ⟨rfl, rfl, rfl, rfl, rfl⟩

/-! ### The watchdog (R607) -/

theorem emit_errsum (s : State) (die src code realm : Nat) (ps : List Nat) :
    (s.emit die src code realm ps).reg regGlbErrsum = s.reg regGlbErrsum := by
  unfold State.emit State.emitRank State.enqueueRec
  extract_lets r
  split
  · rfl
  · split
    · rfl
    · exact reg_addFld_ne _ _ _ _ _ _ (by decide)

theorem raiseEvent_regs (s : State) (kind : EventKind) (rank die src : Nat) : (s.raiseEvent kind rank die src).regs = s.regs := by
  unfold State.raiseEvent
  split
  · rfl
  · split <;> rfl

/-- A UE-P of a live package is the latest error that GLB.ERRSUM names (R619). -/
theorem ueP_errsum (s : State) (die src code realm : Nat) (ps : List Nat) (h : s.live) :
    (s.ueP die src code realm ps).fld regGlbErrsum 15 0 = code % 2 ^ 16 := by
  unfold State.ueP
  extract_lets t c m k
  have ht : s.notes t := notes_trans (emit_notes s die src code realm ps) (noteUe_notes _ code)
  obtain ⟨hstandby, hhalt⟩ := ht.regs.live h
  have hentered : k.reg regGlbErrsum = t.reg regGlbErrsum := by
    change (c.enterMode modeHalt 18).reg regGlbErrsum = _
    unfold State.enterMode
    rw [emit_errsum, reg_setReg, if_neg (by decide), reg_setReg, if_neg (by decide)]
    rfl
  rw [if_neg (by omega), fld_of_regs (raiseEvent_regs _ _ _ _ _), State.fld, hentered]
  exact fld_setFld _ _ _ _ _ (by decide) (by decide)

theorem mcWatchdog_halts {s : State} (hlive : s.live) (hon : s.regsOn = true) :
    Ends .mcWatchdog s (fun u => s.halts u ∧ u.fld regGlbErrsum 15 0 = 0x5000) := by
  obtain ⟨hhalts, -⟩ := ueP_live s 12 81 0x5000 0 [250000] hlive
  exact ⟨_, congrArg Host.Outcome.next (if_pos hon), hhalts, ueP_errsum s 12 81 0x5000 0 [250000] hlive⟩

/-- Settles O46: one lemma for each message, write and lapse, and each of its outcomes. -/
theorem registerMessages : Obligations.RegisterMessages := by
  intro h off t op rd cls atS o bar v s rdMsg wrMsg inMsg cap y c
  refine ⟨registerRead_answers, registerWrite_thmCap, fun ⟨_, hexists, _⟩ hagent hwait hexit hsib hbehind =>
      registerAnswer_completes hagent hexists hwait hexit hsib hbehind, interruptDelivery_waits, injectArm_arms o, injectArm_refused o v,
    fun hhalt => congrArg Host.Outcome.next (if_pos hhalt), prsWrite_msix v, prsWrite_closed bar v, prsWrite_caps o, mcWatchdog_halts,
    fun hoff => congrArg Host.Outcome.next (if_neg (by rw [hoff]; exact Bool.false_ne_true))⟩
end Sys2Proof.Machine

/-! ## Realm commands

START, STOP, BIND and UNBIND by RLM.CMD, and the platform host's commands, on a package that is the image's only member (R447, R450). -/

namespace Sys2Proof.Machine
open Sys2Proof

/-! ### STOP of a realm with an access under way (R100, R116, R447) -/

/-- A package in RUN-I that is the image's only member, and so its manager. -/
def loneManager : State :=
  ((((State.reset.setFld regGlbMode 3 0 modeRunI).setFld regGlbMode 7 4 modeRunI).setFld regClkStatus 3 3 1).setFld regTrlImage 5 5 1).setFld
    regTrlImage 63 32 1

/-- Realm 5 runs, and thread 6 in it awaits the answer to a load from a device. -/
def accessingRealm : State :=
  { loneManager.setFld (regRlmTable0 5) 18 16 realmRunning with threads := [(6, { realm := 5, wait := .access 9 (.load .ld 1 0 0) })] }

/-- STOP leaves thread 6 in the realm, its exit with SUB 4 due. -/
theorem accessingRealm_stop : let u := accessingRealm.after (.stop 5 0)
    (u.thread 6).realm = 5 ∧ (u.thread 6).exitDue = some 4 := by decide +kernel

/-- Refutes O52: its STOP has every thread of the realm out of it at once. A thread whose access is under way leaves only when the answer has
come, because the access is performed exactly once (R100) and the exit orders it before what H does (R116): in `accessingRealm` thread 6 stays
in realm 5 with its exit due. The statement needs no thread of the realm to be awaiting an answer. -/
theorem not_realmRegisterCommands : ¬ Obligations.RealmRegisterCommands := by
  intro h
  obtain ⟨-, -, -, -, -, -, hstop, -⟩ := h 5 0 0 0 {} { realm := 5, pages := [], total := 0 } [] 0 [] 0 0 0 accessingRealm
  obtain ⟨-, -, -, hleft⟩ := (hstop (by unfold State.alone; decide +kernel) (by decide +kernel) (by decide) (by decide +kernel)).after
  obtain ⟨hstays, -⟩ := accessingRealm_stop
  rw [hleft 6 (by decide +kernel)] at hstays
  exact absurd hstays (by decide)

/-! ### A refusal while the trip log's input queue is full (R447, R503, R624) -/

/-- A REALM_CREATE of realm 5 that the ticket engine accepted at clause 3. -/
def createRealm5 : Command := { opcode := 0x20, ticketed := true, ps := [5, 0, 0], stamp := some 3 }

/-- The record of a refused command. -/
def oldRefusal : QRec :=
  { proc := 0, rank := 5, r := { clause := 0, code := 0x2003, origin := 0, realm := 0, p0 := 0, p1 := 0x20, p2 := 0, p3 := 0 } }

/-- Realm 5 runs; the command comes to its resolution while the trip log's input queue is full. -/
def fullLog : State :=
  { loneManager.setFld (regRlmTable0 5) 18 16 realmRunning with
    clause := 1000
    events := [{ stamp := 5, rank := 5, origin := 0, kind := .command createRealm5 }]
    log := { queue := List.replicate 4096 oldRefusal } }

/-- The refusal's record is dropped, and TLG.STATUS counts it (R624). -/
theorem fullLog_drops : (fullLog.after (.realmCreate createRealm5)).fld regTlgStatus 63 48 = 1 := by decide +kernel

/-- Refutes O53: a command that its realm's STATE does not allow is to leave every register as it was. Its refusal leaves record 2003h (R503
check 6), and in `fullLog` the input queue has no room for it, so that TLG.STATUS.DROPPED counts one more (R624). The statement needs fewer
than 4096 records in the queue. -/
theorem not_realmTickets : ¬ Obligations.RealmTickets := by
  intro h
  obtain ⟨-, -, hrefuses, -⟩ := h createRealm5 fullLog
  obtain ⟨-, hregs, -⟩ := (hrefuses (by unfold State.judges State.alone; decide +kernel) (.inr (by decide +kernel))).after
  have hdrops := fullLog_drops
  rw [fld_of_regs hregs] at hdrops
  exact absurd hdrops (by decide +kernel)

end Sys2Proof.Machine

namespace Sys2Proof.Machine
open Sys2Proof

/-! ## After reset (R560) -/

/-- Settles O2: SENSE stands in GLB.MODE at reset, and each list of the package is empty. -/
theorem resetState : Obligations.ResetState := ⟨by decide, rfl, rfl, rfl, rfl, rfl, rfl⟩

/-! ## The end of a cut on a package that is no manager any more (R351, R567) -/

/-- The MODE command that asked for a QUIESCE. -/
def quiesceCommand : Command := { opcode := 0x12, ticketed := true, ps := [8], stamp := some 3 }

/-- The last member has reported the cut of clause 4. -/
def cutReportedLast : Event := { stamp := 5, rank := 6, origin := 0, kind := .quiesced 4 }

/-- Package 0 began the QUIESCE; package 1 has taken over since, and the event of its last report waits for its clause. -/
def deposedManager : State :=
  { (((State.reset.setFld regGlbMode 3 0 modeQuiesce).setFld regTrlImage 5 5 1).setFld regTrlImage 12 8 1).setFld regTrlImage 63 32 3 with
    clause := 1000
    events := [cutReportedLast]
    image := { State.reset.image with quiesce := some { purpose := .command, cmd := some quiesceCommand, cut := 4, waiting := [] } } }

/-- The command's result goes to the new manager; no completion is written here. -/
theorem deposedManager_completesNothing : (deposedManager.after .clauseResolution).completions = [] := by decide +kernel

/-- Refutes O44: its clause for the resolution of the last report has the command completed wherever the event is resolved. Only the package
that serves the host has completion rings (R351 step 4, R506): in `deposedManager`, which another package has followed as manager, the result
goes to that manager. The statement needs `servesHost`. -/
theorem not_cutAndRelease : ¬ Obligations.CutAndRelease := by
  intro h
  obtain ⟨-, -, -, -, -, hresolved, -⟩ := h 0 0 0 0 { purpose := .command, cmd := some quiesceCommand, cut := 4, waiting := [] } cutReportedLast
    quiesceCommand deposedManager
  obtain ⟨-, hcompletes, -⟩ := (hresolved rfl rfl rfl (by decide +kernel) rfl rfl rfl rfl rfl rfl).after
  have hnone := deposedManager_completesNothing
  rw [hcompletes] at hnone
  exact absurd hnone (by decide)

/-! ## PROGRESS while the trip log's input queue is full (R508, R624, R636) -/

/-- A PROGRESS for operation 1 that carries the stamp of an acceptance. -/
def stampedProgress : Command := { opcode := 0x02, ps := [1], stamp := some 3 }

/-- A package strapped to serve the host before its JOIN: operation 1, a JOIN, has ended, the PROGRESS comes to its resolution, and the trip
log's input queue is full. -/
def progressDue : State :=
  { (State.reset.setFld regGlbMode 3 0 modeSealed).setFld regGlbIdent 4 4 1 with
    clause := 1000
    events := [{ stamp := 5, rank := 5, origin := 0, kind := .command stampedProgress }]
    longOps := [(1, ({ opcode := 0x10 }, true))]
    log := { queue := List.replicate 4096 oldRefusal } }

/-- The completion's record is dropped, and TLG.STATUS counts it (R624). -/
theorem progressDue_drops : (progressDue.after (.progress stampedProgress)).fld regTlgStatus 63 48 = 1 := by decide +kernel

/-- Refutes O54: its PROGRESS on a JOIN that has ended leaves every register as it was. The final completion of a command that carries a stamp
leaves record 1006h (R636), and in `progressDue` the input queue has no room for it, so that TLG.STATUS.DROPPED counts one more (R624). The
statement needs a command without a stamp, or fewer than 4096 records in the queue. -/
theorem not_hostCommands : ¬ Obligations.HostCommands := by
  intro h
  obtain ⟨-, -, -, hended, -⟩ := h stampedProgress { opcode := 0x10 } 0 progressDue
  obtain ⟨-, hregs, -⟩ := (hended ⟨by unfold State.judges; decide +kernel, by decide +kernel, rfl⟩ rfl rfl).after
  have hdrops := progressDue_drops
  rw [fld_of_regs hregs] at hdrops
  exact absurd hdrops (by decide +kernel)

end Sys2Proof.Machine

/-! ## Records and counters

What a record, a correctable error or a counted packet may write of the state, once for the events of the I/O die that follow. -/

namespace Sys2Proof.Machine
open Sys2Proof

/-- The state without what a record or a counter may write. -/
def State.unlogged (s : State) : State :=
  { s with log := { s.log with queue := [], dropDue := false }, events := [], regs := [], notice := {}, pccVal := [] }

/-- Records are written and counters run; nothing else differs, and no event is lost. -/
def State.logs (s u : State) : Prop := u.unlogged = s.unlogged ∧ (∃ q, u.events = s.events ++ q) ∧ s.keepsRegs u

theorem logs_refl (s : State) : s.logs s := ⟨rfl, ⟨[], (List.append_nil _).symm⟩, fun _ _ => rfl⟩

theorem logs_trans {a b c : State} (h : a.logs b) (k : b.logs c) : a.logs c := by
  obtain ⟨hrest, ⟨p, hp⟩, hregs⟩ := h
  obtain ⟨krest, ⟨q, hq⟩, kregs⟩ := k
  exact ⟨krest.trans hrest, ⟨p ++ q, by rw [hq, hp, List.append_assoc]⟩, fun off ho => (kregs off ho).trans (hregs off ho)⟩

theorem logs_ite {c : Prop} [Decidable c] {s t u : State} (ht : s.logs t) (hu : s.logs u) : s.logs (if c then t else u) := by
  split
  · exact ht
  · exact hu

section
variable {s u : State} (h : s.logs u)
include h

theorem State.logs.unlogged {α : Type} (f : State → α) : f u.unlogged = f s.unlogged := congrArg f h.1
theorem State.logs.events : ∃ q, u.events = s.events ++ q := h.2.1
theorem State.logs.regs : s.keepsRegs u := h.2.2
theorem State.logs.sent : u.sent = s.sent := h.unlogged State.sent
theorem State.logs.clause : u.clause = s.clause := h.unlogged State.clause
theorem State.logs.mem : u.mem = s.mem := h.unlogged State.mem
theorem State.logs.epf : u.epf = s.epf := h.unlogged State.epf
theorem State.logs.completions : u.completions = s.completions := h.unlogged State.completions
theorem State.logs.parasol : u.parasol = s.parasol := h.unlogged State.parasol
theorem State.logs.alertN : u.alertN = s.alertN := h.unlogged State.alertN
theorem State.logs.sameMachine : s.sameMachine u := ⟨h.mem, h.unlogged State.threads, h.unlogged State.cores⟩
theorem State.logs.notes : s.notes u := ⟨h.unlogged State.unnoted, h.regs⟩

end

theorem setFld_logs (s : State) {off : Nat} (hi lo v : Nat) (h : off ∈ noteRegs) : s.logs (s.setFld off hi lo v) :=
  ⟨rfl, ⟨[], (List.append_nil _).symm⟩, (setFld_notes s hi lo v h).regs⟩

theorem addFld_logs (s : State) {off : Nat} (hi lo n : Nat) (h : off ∈ noteRegs) : s.logs (s.addFld off hi lo n) := setFld_logs s _ _ _ h

theorem enqueueRec_logs (s : State) (q : QRec) : s.logs (s.enqueueRec q) := by
  refine ⟨?_, ⟨[], ?_⟩, (enqueueRec_notes s q).regs⟩
  all_goals
    unfold State.enqueueRec
    split
  · rfl
  · rfl
  · exact (List.append_nil _).symm
  · exact (List.append_nil _).symm

theorem emitRank_logs (s : State) (rank die src code realm : Nat) (ps : List Nat) : s.logs (s.emitRank rank die src code realm ps) :=
  logs_ite ⟨rfl, ⟨_, rfl⟩, fun _ _ => rfl⟩ (enqueueRec_logs _ _)

theorem emit_logs (s : State) (die src code realm : Nat) (ps : List Nat) : s.logs (s.emit die src code realm ps) := emitRank_logs ..

theorem emitOrigin_logs (s : State) (origin : BitVec 16) (code realm : Nat) (ps : List Nat) : s.logs (s.emitOrigin origin code realm ps) :=
  logs_ite ⟨rfl, ⟨_, rfl⟩, fun _ _ => rfl⟩ (enqueueRec_logs _ _)

theorem chgRecs_logs (s : State) (origin : BitVec 16) (off outcome : Nat) (old new : Word) : s.logs (s.chgRecs origin off outcome old new) :=
  logs_trans (emitOrigin_logs _ _ _ _ _) (emitOrigin_logs _ _ _ _ _)

theorem noticeDue_logs (s : State) (code realm : Nat) (origin : BitVec 16) (ue : Bool) : s.logs (s.noticeDue code realm origin ue) :=
  logs_ite ⟨rfl, ⟨[], (List.append_nil _).symm⟩, fun _ _ => rfl⟩ (logs_refl s)

theorem ce_logs (s : State) (die src code realm : Nat) (ps : List Nat) : s.logs (s.ce die src code realm ps) :=
  logs_trans (emit_logs ..) (logs_trans (addFld_logs _ _ _ _ (by decide)) (noticeDue_logs _ _ _ _ _))

theorem State.received.logs {s u : State} (h : s.received u) (hsent : u.sent = s.sent) : s.logs u := by
  obtain ⟨l, v, rfl⟩ := h
  obtain rfl : l = s.sent := hsent
  exact ⟨rfl, ⟨[], (List.append_nil _).symm⟩, fun _ _ => rfl⟩

theorem countUncore_logs (s : State) (base k ev n : Nat) (realm : Option Nat) : s.logs (s.countUncore base k ev n realm) := by
  unfold State.countUncore
  split
  · exact logs_refl s
  · exact (uncoreFrom_received ..).logs (uncoreFrom_sent ..)

/-- What counters leave of the registers: all of them. -/
theorem countUncore_regs (s : State) (base k ev n : Nat) (realm : Option Nat) : (s.countUncore base k ev n realm).regs = s.regs := by
  unfold State.countUncore
  split
  · rfl
  · exact (uncoreFrom_received ..).regs

theorem routerCount_logs (s : State) (k ev n : Nat) : s.logs (s.routerCount k ev n) := countUncore_logs ..

/-! ### Die bridges (R535, R536) -/

theorem injectKind_disarmed {s : State} (h : bit (s.reg regGlbInject) 63 = false) (target unit : Nat) (line : Option LineAddr) :
    s.injectKind target unit line = none := by
  unfold State.injectKind
  simp [h]

theorem bridge_modBridge (s : State) (d : Nat) (f : Bridge → Bridge) : (s.modBridge d f).bridge d = f (s.bridge d) :=
  (Tbl_get_set ..).trans (if_pos rfl)

/-- The bridge as a replay leaves it, with `n` replays in a row of direction `dir`. -/
def Bridge.replayed (b : Bridge) (dir n : Nat) : Bridge :=
  if n = 8 then { b with run := Tbl.erase b.run dir, retrain := true } else { b with run := Tbl.set b.run dir n }

theorem bridge_congr {s u : State} (h : u.bridges = s.bridges) (d : Nat) : u.bridge d = s.bridge d := by
  unfold State.bridge
  rw [h]

/-- Replay `n` in a row of direction `dir` stands in the bridge. -/
def State.replayNoted (s : State) (d dir n : Nat) : State :=
  if n = 8 then (s.addFld (regBrgCount d) 31 16 1).modBridge d (fun b => { b with run := Tbl.erase b.run dir, retrain := true })
  else s.modBridge d (fun b => { b with run := Tbl.set b.run dir n })

theorem replayNoted_spec (s : State) (d dir n : Nat) : s.sameMachine (s.replayNoted d dir n) ∧
    (s.replayNoted d dir n).bridge d = (s.bridge d).replayed dir n := by
  unfold State.replayNoted Bridge.replayed
  split
  · exact ⟨⟨rfl, rfl, rfl⟩, bridge_modBridge ..⟩
  · exact ⟨⟨rfl, rfl, rfl⟩, bridge_modBridge ..⟩

/-- A replay is counted before its bridge notes it. -/
theorem replayFrame_eq (s : State) (d dir : Nat) : ∃ v since, s.sameMachine v ∧ v.bridges = s.bridges ∧
    s.replayFrame d dir = (v.modBridge d (fun b => { b with since := since })).replayNoted d dir (Tbl.get 0 (s.bridge d).run dir + 1) := by
  unfold State.replayFrame
  extract_lets b n t
  split
  next rec' since _ =>
    extract_lets v w
    have hv : t.logs v := logs_ite (ce_logs ..) (addFld_logs _ _ _ _ (by decide))
    exact ⟨v, some (if rec' then 0 else since), sameMachine_trans (b := t) ⟨rfl, rfl, rfl⟩ hv.sameMachine, hv.unlogged State.bridges, rfl⟩

/-- A replay counts in its direction, and the eighth in a row starts a retrain. -/
theorem replayFrame_spec (s : State) (d dir : Nat) : s.sameMachine (s.replayFrame d dir) ∧
    ∃ since, (s.replayFrame d dir).bridge d = { s.bridge d with since := since }.replayed dir (Tbl.get 0 (s.bridge d).run dir + 1) := by
  obtain ⟨v, since, hsame, hbridges, heq⟩ := replayFrame_eq s d dir
  obtain ⟨hnoted, hbridge⟩ := replayNoted_spec (v.modBridge d (fun b => { b with since := since })) d dir (Tbl.get 0 (s.bridge d).run dir + 1)
  rw [heq]
  refine ⟨sameMachine_trans hsame hnoted, since, ?_⟩
  rw [hbridge, bridge_modBridge, bridge_congr hbridges]

section
variable {d : DiePos} {dir : Bool} {s : State}

section
variable (hup : s.bridgeUp d.val = true) (hretrain : (s.bridge d.val).retrain = false) (hinject : bit (s.reg regGlbInject) 63 = false)
include hup hretrain hinject

theorem exec_bridgeFrame_runs (ok : Bool) : exec (.bridgeFrame d dir ok) s = .next (if ok then
    s.modBridge d.val (fun b => { b with run := Tbl.erase b.run (b2n dir) }) else s.replayFrame d.val (b2n dir)) := by
  rw [exec_bridgeFrame, execBridgeFrame, if_neg (by simp [hup, hretrain]), injectKind_disarmed hinject]

theorem bridgeFrame_passes : Ends (.bridgeFrame d dir true) s (fun u => Tbl.get 0 (u.bridge d.val).run (b2n dir) = 0 ∧
    (u.bridge d.val).retrain = false ∧ u.regs = s.regs ∧ s.sameMachine u) := by
  refine ⟨_, exec_bridgeFrame_runs hup hretrain hinject true, ?_, ?_, rfl, rfl, rfl, rfl⟩
  · simp [bridge_modBridge]
  · simpa [bridge_modBridge] using hretrain

theorem bridgeFrame_replays (h : Tbl.get 0 (s.bridge d.val).run (b2n dir) < 7) : Ends (.bridgeFrame d dir false) s (fun u =>
    Tbl.get 0 (u.bridge d.val).run (b2n dir) = Tbl.get 0 (s.bridge d.val).run (b2n dir) + 1 ∧ (u.bridge d.val).retrain = false ∧
      s.sameMachine u) := by
  obtain ⟨hsame, since, hb⟩ := replayFrame_spec s d.val (b2n dir)
  rw [Bridge.replayed, if_neg (by omega)] at hb
  refine ⟨_, exec_bridgeFrame_runs hup hretrain hinject false, ?_, ?_, hsame⟩
  · simp [hb]
  · simpa [hb] using hretrain

theorem bridgeFrame_retrains (h : Tbl.get 0 (s.bridge d.val).run (b2n dir) = 7) : Ends (.bridgeFrame d dir false) s (fun u =>
    Tbl.get 0 (u.bridge d.val).run (b2n dir) = 0 ∧ (u.bridge d.val).retrain = true ∧ s.sameMachine u) := by
  obtain ⟨hsame, since, hb⟩ := replayFrame_spec s d.val (b2n dir)
  rw [Bridge.replayed, if_pos (by omega)] at hb
  refine ⟨_, exec_bridgeFrame_runs hup hretrain hinject false, ?_, ?_, hsame⟩
  · simp [hb]
  · simp [hb]

end

theorem bridgeRetrainDone_ends (h : (s.bridge d.val).retrain = true) : Ends (.bridgeRetrainDone d true) s (fun u =>
    (u.bridge d.val).retrain = false ∧ u.regs = s.regs ∧ s.sameMachine u) := by
  have hb := bridge_modBridge s d.val (fun b => { b with retrain := false })
  rw [Ends, exec_bridgeRetrainDone, execBridgeRetrainDone, if_pos h]
  exact ⟨_, rfl, congrArg Bridge.retrain hb, rfl, rfl, rfl, rfl⟩

/-- A UE-P of a live package halts it, and GLB.ERRSUM names it (R608, R619). -/
theorem ueP_halts (t : State) (die src code : Nat) (ps : List Nat) (h : t.live) (hcode : code < 2 ^ 16) :
    t.halts (t.ueP die src code 0 ps) ∧ (t.ueP die src code 0 ps).fld regGlbErrsum 15 0 = code :=
  ⟨(ueP_live t die src code 0 ps h).1, (ueP_errsum t die src code 0 ps h).trans (Nat.mod_eq_of_lt hcode)⟩

theorem bridgeRetrainDone_halts (h : (s.bridge d.val).retrain = true) (hlive : s.live) : Ends (.bridgeRetrainDone d false) s (fun u =>
    s.halts u ∧ u.fld regGlbErrsum 15 0 = 0x5010) := by
  rw [Ends, exec_bridgeRetrainDone, execBridgeRetrainDone, if_pos h]
  exact ⟨_, rfl, ueP_halts (s.modBridge d.val _) 12 (68 + d.val) 0x5010 [d.val, 1] hlive (by decide)⟩

theorem strobeLockLoss_halts (h : s.bridgeUp d.val = true) (hlive : s.live) : Ends (.strobeLockLoss d) s (fun u =>
    s.halts u ∧ u.fld regGlbErrsum 15 0 = 0x5010) := by
  rw [Ends, exec_strobeLockLoss, execStrobeLockLoss, if_pos h]
  exact ⟨_, rfl, ueP_halts s 12 (68 + d.val) 0x5010 [d.val, 2] hlive (by decide)⟩

end

/-! ### Packets held by closed domains (R549 to R551) -/

theorem openDomain_domain (s : State) (d : Nat) : (s.openDomain d).domain d =
    if (s.domain d).phase = .opened then s.domain d else { s.domain d with phase := .opening, since := s.clause } := by
  unfold State.openDomain State.domain
  split
  next h => exact (if_pos h).symm
  next h => exact ((Tbl_get_set ..).trans (if_pos rfl)).trans (if_neg h).symm

theorem domain_congr {s u : State} (h : u.domains = s.domains) (d : Nat) : u.domain d = s.domain d := by
  unfold State.domain
  rw [h]

/-- A closed domain is asked to open; nothing but the domains differs. -/
theorem openDomain_eq (s : State) (d : Nat) : ∃ t, s.openDomain d = { s with domains := t } := by
  unfold State.openDomain
  split
  · exact ⟨s.domains, rfl⟩
  · exact ⟨_, rfl⟩

/-- A refusal is counted at the domain's router, and a closed domain is asked to open (R551). -/
def State.refusedAt (s : State) (d : Nat) : State :=
  let s := if s.domainOpen d then s else (s.addFld (regMshRouter (domainRouter d)) 31 0 1).routerCount (domainRouter d) 0x03 1
  if (Tbl.get {} s.domains d).phase = .closed then s.openDomain d else s

/-- What a refusal leaves: the domains, the routers' counts and counters apart, all. -/
theorem refusedAt_spec (s : State) (d : Nat) : let u := s.refusedAt d
    u.sent = s.sent ∧ u.meshHeld = s.meshHeld ∧ u.clause = s.clause ∧ s.sameMachine u ∧ u.fld regMshRetry 7 0 = s.fld regMshRetry 7 0 ∧
      ((s.domain d).phase = .closed → (u.domain d).phase = .opening) := by
  unfold State.refusedAt
  extract_lets t u
  have ht : t.sent = s.sent ∧ t.meshHeld = s.meshHeld ∧ t.clause = s.clause ∧ s.sameMachine t ∧ t.reg regMshRetry = s.reg regMshRetry ∧
      t.domains = s.domains := by
    simp only [t]
    split
    · exact ⟨rfl, rfl, rfl, ⟨rfl, rfl, rfl⟩, rfl, rfl⟩
    · have hl := routerCount_logs (s.addFld (regMshRouter (domainRouter d)) 31 0 1) (domainRouter d) 0x03 1
      refine ⟨hl.sent, hl.unlogged State.meshHeld, hl.clause, hl.sameMachine, (hl.regs _ (by decide)).trans ?_, hl.unlogged State.domains⟩
      exact reg_addFld_ne _ _ _ _ _ _ (by unfold regMshRetry regMshRouter; omega)
  obtain ⟨hsent, hheld, hclause, hsame, hretry, hdomains⟩ := ht
  have hfld : t.fld regMshRetry 7 0 = s.fld regMshRetry 7 0 := congrArg (bits · 7 0) hretry
  have hdomain : t.domain d = s.domain d := domain_congr hdomains d
  simp only [u]
  split
  next hclosed =>
    obtain ⟨x, hx⟩ := openDomain_eq t d
    have hopening : ((t.openDomain d).domain d).phase = .opening := by
      rw [openDomain_domain, if_neg (show (t.domain d).phase ≠ .opened by rw [show (t.domain d).phase = .closed from hclosed]; decide)]
    rw [hx] at hopening ⊢
    exact ⟨hsent, hheld, hclause, hsame, hfld, fun _ => hopening⟩
  next hclosed =>
    exact ⟨hsent, hheld, hclause, hsame, hfld, fun h => absurd ((congrArg Domain.phase hdomain).trans h) hclosed⟩

theorem meshRefuse_eq {s : State} {m : Msg} {d : Nat} (h : s.msgDomain m = some d) : s.meshRefuse m =
    let t := s.refusedAt d
    { t with sent := t.sent.erase m, meshHeld := t.meshHeld ++
        [{ msg := m, dom := d, first := t.clause, next := t.clause + BitVec.ofNat 64 (t.fld regMshRetry 7 0) }] } := by
  unfold State.meshRefuse
  rw [h]
  rfl

section
variable {k : Fin 96} {m : Msg} {x : HeldPacket} {s : State}

theorem retryLater_holds (h : s.sent.find? (fun m => decide (s.msgDomain m = some k.val) && s.meshBlocked m) = some m) :
    Ends (.retryLater k) s (fun u => u.sent = s.sent.erase m ∧ u.meshHeld = s.meshHeld ++
      [{ msg := m, dom := k.val, first := s.clause, next := s.clause + BitVec.ofNat 64 (s.fld regMshRetry 7 0) }] ∧
      ((s.domain k.val).phase = .closed → (u.domain k.val).phase = .opening) ∧ s.sameMachine u) := by
  have hdomain : s.msgDomain m = some k.val := by
    have hm := List.find?_some h
    simp only [Bool.and_eq_true, decide_eq_true_eq] at hm
    exact hm.1
  obtain ⟨hsent, hheld, hclause, hsame, hretry, hopens⟩ := refusedAt_spec s k.val
  rw [Ends, exec_retryLater, execRetryLater, h]
  refine ⟨_, congrArg Host.Outcome.next (meshRefuse_eq hdomain), ?_, ?_, hopens, hsame⟩
  · dsimp only; rw [hsent]
  · dsimp only; rw [hheld, hclause, hretry]

theorem linkClass_lt (t : MsgType) : linkClass t < 5 := by
  unfold linkClass
  dsimp only
  repeat' split
  all_goals decide

/-- An output with one packet sends it. -/
theorem arbitrate_single (s : State) (x : HeldPacket) : s.arbitrate [x] = some x := by
  unfold State.arbitrate
  by_cases hold : s.fld regMshArb 9 0 ≤ s.headWait x
  · simp [hold, leastBy]
  · simp only [List.filter_cons, List.filter_nil, decide_eq_false hold, Bool.false_eq_true, if_false, leastBy]
    have hc := linkClass_lt x.msg.type
    generalize linkClass x.msg.type = c at hc ⊢
    interval_cases c
    all_goals rfl

/-- The head of an output, chosen, has taken its turn. -/
def State.turned (s : State) (x : HeldPacket) : State :=
  { s with meshTurn := Tbl.set s.meshTurn (x.router * 8 + linkClass x.msg.type) x.input }

theorem exec_retryLaterResend_single (hheld : s.meshHeld = [x]) (hdue : x.next.toNat ≤ s.clause.toNat) :
    exec .retryLaterResend s = .next ((s.turned x).meshResend x) := by
  have hdues : s.dueResends = [x] := by
    unfold State.dueResends
    simp [hheld, hdue, List.takeWhile]
  have hrouter : [x].filter (fun y => decide (y.router = x.router)) = [x] := by simp
  rw [exec_retryLaterResend]
  unfold execRetryLaterResend
  simp only [hdues, hrouter, arbitrate_single]
  rfl

theorem retryLaterResend_early (hheld : s.meshHeld = [x]) (hdue : s.clause.toNat < x.next.toNat) : exec .retryLaterResend s = .next s := by
  have hdues : s.dueResends = [] := by
    unfold State.dueResends
    simp [hheld, Nat.not_le.2 hdue]
  rw [exec_retryLaterResend, execRetryLaterResend, hdues]

theorem retryLaterResend_sends (hheld : s.meshHeld = [x]) (hdue : x.next.toNat ≤ s.clause.toNat) (hopen : s.domainOpen x.dom = true) :
    Ends .retryLaterResend s (fun u => u.meshHeld = [] ∧ u.sent = s.sent ++ [x.msg] ∧ u.regs = s.regs ∧ s.sameMachine u) := by
  have hsends : (s.turned x).meshResend x = { s.turned x with meshHeld := s.meshHeld.erase x, sent := s.sent ++ [x.msg] } := if_pos hopen
  refine ⟨_, (exec_retryLaterResend_single hheld hdue).trans (congrArg Host.Outcome.next hsends), ?_, rfl, rfl, rfl, rfl, rfl⟩
  simp [hheld]

theorem retryLaterResend_refused (hheld : s.meshHeld = [x]) (hdue : x.next.toNat ≤ s.clause.toNat) (hopen : s.domainOpen x.dom = false) :
    Ends .retryLaterResend s (fun u => u.sent = s.sent ∧ s.sameMachine u ∧
      u.meshHeld = [{ x with next := s.clause + BitVec.ofNat 64 (s.fld regMshRetry 7 0) }]) := by
  have hopen' : (s.turned x).domainOpen x.dom = false := hopen
  have hresend : (s.turned x).meshResend x = (let t := (s.turned x).refusedAt x.dom
      { t with meshHeld := t.meshHeld.map (fun z => if z = x then { x with next := t.clause + BitVec.ofNat 64 (t.fld regMshRetry 7 0) } else z) }) := by
    unfold State.meshResend State.refusedAt
    rw [hopen']
    rfl
  obtain ⟨hsent, hkept, hclause, hsame, hretry, -⟩ := refusedAt_spec (s.turned x) x.dom
  refine ⟨_, (exec_retryLaterResend_single hheld hdue).trans (congrArg Host.Outcome.next hresend), hsent, hsame, ?_⟩
  have hkept' : ((s.turned x).refusedAt x.dom).meshHeld = [x] := hkept.trans hheld
  dsimp only
  rw [hkept', hclause, hretry]
  simp [State.turned]
  rfl

theorem raiseEvent_meshHeld (t : State) (kind : EventKind) (rank die src : Nat) : (t.raiseEvent kind rank die src).meshHeld = t.meshHeld :=
  (raiseEvent_notes t kind rank die src).unnoted State.meshHeld

theorem ueP_meshHeld (t : State) (die src code realm : Nat) (ps : List Nat) : (t.ueP die src code realm ps).meshHeld = t.meshHeld := by
  have hn := notes_trans (emit_notes t die src code realm ps) (noteUe_notes _ code)
  unfold State.ueP
  extract_lets a c e k
  split
  · exact hn.unnoted State.meshHeld
  · exact (raiseEvent_meshHeld ..).trans (((enterMode_notes c modeHalt 18).unnoted State.meshHeld).trans (hn.unnoted State.meshHeld))

theorem meshRetryExhausted_halts (hheld : s.meshHeld = [x]) (hdue : x.first.toNat + 25000 ≤ s.clause.toNat) (hlive : s.live) :
    Ends .meshRetryExhausted s (fun u => s.halts u ∧ u.meshHeld = [] ∧ u.fld regGlbErrsum 15 0 = 0x5022) := by
  have hfind : s.meshHeld.find? (fun x => decide (x.first.toNat + 25000 ≤ s.clause.toNat)) = some x := by simp [hheld, hdue]
  have hnone : s.meshHeld.erase x = [] := by simp [hheld]
  rw [Ends, exec_meshRetryExhausted, execMeshRetryExhausted, hfind]
  dsimp only
  rw [hnone]
  obtain ⟨hhalts, hcode⟩ := ueP_halts { s with meshHeld := [] } 12
    (88 + agentRouter (agentDie x.msg.hdr.src) (agentUnit x.msg.hdr.src)) 0x5022
    [agentRouter (agentDie x.msg.hdr.src) (agentUnit x.msg.hdr.src), x.dom] hlive (by decide)
  exact ⟨_, rfl, hhalts, ueP_meshHeld _ _ _ _ _ _, hcode⟩

theorem meshRetryExhausted_early (hheld : s.meshHeld = [x]) (hdue : s.clause.toNat < x.first.toNat + 25000) :
    exec .meshRetryExhausted s = .next s := by
  have hfind : s.meshHeld.find? (fun x => decide (x.first.toNat + 25000 ≤ s.clause.toNat)) = none := by simp [hheld]; omega
  rw [exec_meshRetryExhausted, execMeshRetryExhausted, hfind]

/-! ### Domains that close and open (R549, R597, R598) -/

theorem domain_setDomain (s : State) (d : Nat) (x : Domain) : (s.setDomain d x).domain d = x := (Tbl_get_set ..).trans (if_pos rfl)

theorem domainClosed_closes (h : (s.domain k.val).phase = .closing) : Ends (.domainClosed k) s (fun u => (u.domain k.val).phase = .closed ∧
    (k.val < 60 → u.fld (regThmCluster k.val) 23 23 = 1) ∧ u.sent = s.sent ∧ s.sameMachine u) := by
  have hclosed := domain_setDomain s k.val { (s.domain k.val) with phase := .closed, since := s.clause, flush := false }
  rw [Ends, exec_domainClosed, execDomainClosed, if_pos h]
  dsimp only
  split
  next => exact ⟨_, rfl, congrArg Domain.phase hclosed, fun _ => fld_setFld _ _ _ _ _ (by decide) (by decide), rfl, rfl, rfl, rfl⟩
  next hcluster => exact ⟨_, rfl, congrArg Domain.phase hclosed, fun hk => absurd hk hcluster, rfl, rfl, rfl, rfl⟩

theorem meshCloseAborted_opens (h : (s.domain k.val).phase = .closing) (hdue : (s.domain k.val).since.toNat + 25000 ≤ s.clause.toNat) :
    Ends (.meshCloseAborted k) s (fun u => (u.domain k.val).phase = .opened ∧ (u.domain k.val).rest = 10 ∧ u.sent = s.sent ∧
      s.sameMachine u) := by
  rw [Ends, exec_meshCloseAborted]
  unfold execMeshCloseAborted
  extract_lets x t r
  have hopened : t.domain k.val = { phase := .opened, since := s.clause, rest := 10 } := domain_setDomain ..
  have hsent : t.sent = s.sent := rfl
  have hsame : s.sameMachine t := ⟨rfl, rfl, rfl⟩
  rw [if_pos ⟨h, hdue⟩]
  clear_value t r
  obtain ⟨v, hv⟩ : ∃ v, v = t.ce 12 (88 + r) 0x3021 0 [k.val, t.freeWord.toNat % 2 ^ 32] := ⟨_, rfl⟩
  have hl : t.logs v := hv ▸ ce_logs ..
  have hdomain : v.domain k.val = { phase := .opened, since := s.clause, rest := 10 } := (domain_congr (hl.unlogged State.domains) k.val).trans hopened
  rw [← hv]
  exact ⟨v.spendFree, rfl, congrArg Domain.phase hdomain, congrArg Domain.rest hdomain, hl.sent.trans hsent, sameMachine_trans hsame hl.sameMachine⟩

/-- The cores of a cluster start afresh, the others stay. -/
theorem clusterCores_fresh (f : Core → Core) (k : Nat) (l : List Nat) (s : State) (c : Nat) (hf : ∀ y, f (f y) = f y) :
    (l.foldl (fun (s : State) i => s.modCore (4 * k + i) f) s).core c = if ∃ i ∈ l, c = 4 * k + i then f (s.core c) else s.core c := by
  induction l generalizing s with
  | nil => simp
  | cons i l ih =>
    rw [List.foldl_cons, ih]
    by_cases hc : c = 4 * k + i
    · subst hc
      simp [hf]
    · simp [hc]

theorem modCores_eq (f : Core → Core) (k : Nat) (l : List Nat) (s : State) :
    ∃ cs, l.foldl (fun (s : State) i => s.modCore (4 * k + i) f) s = { s with cores := cs } := by
  induction l generalizing s with
  | nil => exact ⟨s.cores, rfl⟩
  | cons i l ih =>
    obtain ⟨cs, hcs⟩ := ih (s.modCore (4 * k + i) f)
    exact ⟨cs, hcs.trans rfl⟩

/-- A core as an opened cluster has it: nothing cached. -/
def Core.fresh (y : Core) : Core := { y.discard with itlb := [], dtlb := [], l2tlb := [], walks := [] }

/-- The registers of an opened cluster: its gate is off, its frequency is `f`. -/
def State.clusterRuns (s : State) (k f : Nat) : State :=
  ((s.setFld (regThmCluster k) 23 23 0).setFreq k f).modParasol (fun p => { p with target := Tbl.erase p.target k })

theorem clusterOpened_eq (s : State) (k : Nat) : ∃ f, s.clusterOpened k =
    ((upTo 4).foldl (fun (s : State) i => s.modCore (4 * k + i) Core.fresh) s).clusterRuns k f := ⟨_, rfl⟩

theorem clusterRuns_gate (s : State) (k f : Nat) : (s.clusterRuns k f).fld (regThmCluster k) 23 23 = 0 := by
  unfold State.clusterRuns State.setFreq
  rw [fld_of_regs (modParasol_regs _ _), fld_setFld_ne _ _ _ _ _ _ _ _ (.inr (.inr (by decide))) (by decide) (by decide),
    fld_setFld_ne _ _ _ _ _ _ _ _ (.inr (.inr (by decide))) (by decide) (by decide), fld_setFld _ _ _ _ _ (by decide) (by decide), Nat.zero_mod]

/-- What an opened cluster starts with (R598). -/
theorem clusterOpened_spec (s : State) (k : Nat) : let u := s.clusterOpened k
    u.domains = s.domains ∧ u.sent = s.sent ∧ u.mem = s.mem ∧ u.threads = s.threads ∧ u.realms = s.realms ∧ u.ctxJob = s.ctxJob ∧
      u.fld (regThmCluster k) 23 23 = 0 ∧ ∀ i, i < 4 → (u.core (4 * k + i)).l2 = [] ∧ (u.core (4 * k + i)).dtlb = [] := by
  obtain ⟨f, heq⟩ := clusterOpened_eq s k
  obtain ⟨cs, hcs⟩ := modCores_eq Core.fresh k (upTo 4) s
  have hcore : ∀ i, i < 4 → ({ s with cores := cs } : State).core (4 * k + i) = (s.core (4 * k + i)).fresh := fun i hi => by
    rw [← hcs]
    refine (clusterCores_fresh Core.fresh k (upTo 4) s (4 * k + i) (fun y => rfl)).trans (if_pos ⟨i, ?_, rfl⟩)
    simpa [upTo] using hi
  rw [heq, hcs]
  refine ⟨rfl, rfl, rfl, rfl, rfl, rfl, clusterRuns_gate _ k f, fun i hi => ?_⟩
  have hi' : (({ s with cores := cs } : State).clusterRuns k f).core (4 * k + i) = (s.core (4 * k + i)).fresh := hcore i hi
  rw [hi']
  exact ⟨rfl, rfl⟩

theorem retryHeld_none {t : State} (h : t.realms.hold = none) : t.retryHeld = t := by
  unfold State.retryHeld
  rw [h]

theorem enableResume_none {t : State} (h : t.ctxJob = none) : t.enableResume = t := by
  unfold State.enableResume
  rw [h]

theorem domainOpen_opens (h : (s.domain k.val).phase = .opening) (hhold : s.realms.hold = none) (hjob : s.ctxJob = none) :
    Ends (.domainOpen k) s (fun u => (u.domain k.val).phase = .opened ∧ u.sent = s.sent ∧ u.mem = s.mem ∧ u.threads = s.threads ∧
      (k.val < 60 → u.fld (regThmCluster k.val) 23 23 = 0 ∧ ∀ i, i < 4 → (u.core (4 * k.val + i)).l2 = [] ∧ (u.core (4 * k.val + i)).dtlb = []) ∧
      (60 ≤ k.val → u.cores = s.cores ∧ u.regs = s.regs)) := by
  have hopened := domain_setDomain s k.val { phase := .opened, since := s.clause }
  rw [Ends, exec_domainOpen, execDomainOpen, if_pos h]
  dsimp only
  split
  next hcluster =>
    obtain ⟨hdomains, hsent, hmem, hthreads, hrealms, hctx, hgate, hcores⟩ := clusterOpened_spec (s.setDomain k.val { phase := .opened, since := s.clause }) k.val
    have hretry := retryHeld_none ((congrArg Realms.hold hrealms).trans hhold)
    have hresume := enableResume_none (hctx.trans hjob)
    rw [hretry, hresume]
    exact ⟨_, rfl, (congrArg Domain.phase (domain_congr hdomains k.val)).trans (congrArg Domain.phase hopened), hsent, hmem, hthreads,
      fun _ => ⟨hgate, hcores⟩, fun hk => absurd hcluster (by omega)⟩
  next hcluster =>
    rw [retryHeld_none (t := s.setDomain k.val _) hhold, enableResume_none (t := s.setDomain k.val _) hjob]
    exact ⟨_, rfl, congrArg Domain.phase hopened, rfl, rfl, rfl, fun hk => absurd hk hcluster, fun _ => ⟨rfl, rfl⟩⟩

end

/-- Settles O47: one lemma for each event of the bridges, the mesh and the domains, and each of its outcomes. -/
theorem bridgesAndDomains : Obligations.BridgesAndDomains := by
  intro d k dir m x s runs
  refine ⟨fun hup hretrain hinject => ⟨bridgeFrame_passes hup hretrain hinject, bridgeFrame_replays hup hretrain hinject,
      bridgeFrame_retrains hup hretrain hinject⟩, fun hdown => ?_, bridgeRetrainDone_ends, bridgeRetrainDone_halts, strobeLockLoss_halts, fun hdown => ?_,
    retryLater_holds, fun hnone => ?_, fun hheld hdue => ⟨retryLaterResend_sends hheld hdue, retryLaterResend_refused hheld hdue⟩,
    retryLaterResend_early, meshRetryExhausted_halts, meshRetryExhausted_early, domainClosed_closes, fun hphase => ⟨?_, ?_⟩,
    meshCloseAborted_opens, domainOpen_opens, fun hphase => ?_⟩
  · exact congrArg Host.Outcome.next (if_pos (by simp [hdown]))
  · exact congrArg Host.Outcome.next (if_neg (by simp [hdown]))
  · rw [exec_retryLater, execRetryLater, hnone]
  · exact congrArg Host.Outcome.next (if_neg hphase)
  · exact congrArg Host.Outcome.next (if_neg (fun h => hphase h.1))
  · exact congrArg Host.Outcome.next (if_neg hphase)

end Sys2Proof.Machine

/-! ## Links of the I/O die

What an octet's counters leave, the requests that an agent of the I/O die sends, and the inbound requests of a link that touch one line. -/

namespace Sys2Proof.Machine
open Sys2Proof

/-- The state with other counter values. -/
def State.counted (s : State) (v : Tbl Word) : State := { s with pccVal := v }

theorem octetCount_counted (s : State) (n ev k : Nat) : ∃ v, s.octetCount n ev k = s.counted v := by
  obtain ⟨l, v, h⟩ := octetCount_received s n ev k
  have hsent : (s.octetCount n ev k).sent = s.sent := (countUncore_logs ..).sent
  rw [h] at hsent
  exact ⟨v, h.trans (by rw [show l = s.sent from hsent]; rfl)⟩

/-- A TLP that comes in at an octet is counted. -/
theorem tlpIn_counted (s : State) (n bytes : Nat) : ∃ v, s.tlpIn n bytes = s.counted v := by
  obtain ⟨v, hv⟩ := octetCount_counted s n 0x08 1
  obtain ⟨w, hw⟩ := octetCount_counted (s.counted v) n 0x0A (payloadUnits bytes)
  exact ⟨w, by rw [State.tlpIn, hv, hw]; rfl⟩

/-- A TLP that goes out at an octet is counted. -/
theorem tlpOut_counted (s : State) (n bytes : Nat) : ∃ v, s.tlpOut n bytes = s.counted v := by
  obtain ⟨v, hv⟩ := octetCount_counted s n 0x09 1
  obtain ⟨w, hw⟩ := octetCount_counted (s.counted v) n 0x0B (payloadUnits bytes)
  exact ⟨w, by rw [State.tlpOut, hv, hw]; rfl⟩

/-! ### Ports that are no engine's (R399, R400) -/

/-- What a port asks for, or writes, under its next TID. -/
def State.portMsg (s : State) (u : Nat) (realm : Realm) (a : LineAddr) (ty : MsgType) (b : Body) : Msg :=
  { type := ty, hdr := s.portHdr u a (s.port u).nextTid realm, body := b }

theorem noteEngine_other {s : State} {u : Nat} (h : 56 ≤ u) (r ev : Nat) : s.noteEngine u r ev = s := if_neg (by omega)

theorem portWrite_eq {s : State} {u : Nat} (h : 56 ≤ u) (realm : Realm) (a : LineAddr) (d : Line) (m : BitVec 64) : s.portWrite u realm a d m =
    (s.modPort u (fun p => { p with writes := p.writes ++ [((s.port u).nextTid, a)], nextTid := (s.port u).nextTid + 1 })).send
      (s.portMsg u realm a .wrP (.bytes d m)) := by
  unfold State.portWrite
  dsimp only
  rw [noteEngine_other h]
  rfl

/-- What a write of a port leaves: its port and the messages sent apart, all. -/
theorem portWrite_sends {s : State} {u : Nat} (h : 56 ≤ u) (realm : Realm) (a : LineAddr) (d : Line) (m : BitVec 64) :
    ∃ ports, s.portWrite u realm a d m = { s with ports := ports, sent := s.sent ++ [s.portMsg u realm a .wrP (.bytes d m)] } :=
  ⟨_, portWrite_eq h realm a d m⟩

theorem portWrite_keeps {s : State} {u : Nat} (h : 56 ≤ u) (realm : Realm) (a : LineAddr) (d : Line) (m : BitVec 64) :
    let w := s.portWrite u realm a d m
    w.regs = s.regs ∧ w.sent = s.sent ++ [s.portMsg u realm a .wrP (.bytes d m)] ∧ s.sameMachine w := by
  obtain ⟨ports, hports⟩ := portWrite_sends (s := s) h realm a d m
  rw [hports]
  exact ⟨rfl, rfl, rfl, rfl, rfl⟩

/-- A write within one line is one message. -/
theorem portWriteBytes_line (s : State) (u : Nat) (realm : Realm) {pa n : Nat} (v k : Nat) (hn : 0 < n) (hline : pa % 64 + n ≤ 64) :
    s.portWriteBytes u realm pa n v (k + 2) = s.portWrite u realm (lineOf pa) (putLine 0 (pa % 64) n v) (byteMask (pa % 64) n) := by
  rw [State.portWriteBytes, if_neg (by omega)]
  dsimp only
  rw [if_neg (show ¬ 64 - pa % 64 < n by omega), State.portWriteBytes, if_pos (by omega)]

theorem linesOf_line {pa n : Nat} (hn : 0 < n) (hline : pa % 64 + n ≤ 64) : linesOf pa n = [lineOf pa] := by
  unfold linesOf
  rw [if_neg (by omega), show (pa + n - 1) / 64 - pa / 64 + 1 = 1 by omega]
  rfl

/-- An unused port asks for the line. -/
theorem portRead_asks {s : State} {u : Nat} (hport : s.port u = {}) (hu : 56 ≤ u) (hheld : s.sourcesHeld = false) (realm : Realm) (a : LineAddr) :
    s.portRead u realm a =
      ((s.modPort u (fun p => { p with reads := p.reads ++ [((s.port u).nextTid, a)], nextTid := (s.port u).nextTid + 1 })).send
        (s.portMsg u realm a .rdS .none), none) := by
  have hnone : (s.port u).lines.find? (fun x => decide (x.1 = a)) = none := by rw [hport]; rfl
  have hidle : ((s.port u).reads.any (fun x => decide (x.2 = a)) || (s.port u).failed.contains a || s.sourcesHeld ||
      (decide (40 ≤ u ∧ u < 56) && decide (256 ≤ (s.port u).reads.length))) = false := by
    rw [hport, hheld, decide_eq_false (show ¬(40 ≤ u ∧ u < 56) by omega)]
    rfl
  unfold State.portRead
  dsimp only
  rw [hnone]
  dsimp only
  rw [if_neg (by rw [hidle]; exact Bool.false_ne_true), noteEngine_other hu]
  rfl

/-! ### An inbound request of one line (R490, R491, R520) -/

theorem inboundOf_setInbound (s : State) (n : Nat) (l : List InReq) : (s.setInbound n l).inboundOf n = l := (Tbl_get_set ..).trans (if_pos rfl)

section
variable {s : State} {n : Nat} {r : InReq} (hempty : s.inboundOf n = []) (hheld : s.sourcesHeld = false) (hmode : s.mode ≠ modeHalt)
include hempty hheld hmode

/-- The only request of its link goes on at once. -/
theorem inboundPut_first : s.inboundPut n r = (s.setInbound n [r]).inboundRun n 2 := by
  have hrun : (s.setInbound n [r]).inboundAdvance n = (s.setInbound n [r]).inboundRun n (((s.setInbound n [r]).inboundOf n).length + 1) :=
    if_neg (by rw [show (s.setInbound n [r]).sourcesHeld = false from hheld, show (s.setInbound n [r]).mode = s.mode from rfl]; simp [hmode])
  rw [State.inboundPut, hempty, List.nil_append, hrun, inboundOf_setInbound]
  rfl

variable (hlen : 0 < r.len) (hline : r.pa % 64 + r.len ≤ 64)
include hlen hline

/-- A write is sent, and waits for the home's answer. -/
theorem inboundPut_writes (htag : r.tag = none) (hstarted : r.started = false) : ∃ ports inbound, s.inboundPut n r =
    { s with ports := ports, inbound := inbound, sent := s.sent ++ [s.portMsg (64 + n) (BitVec.ofNat 10 r.realm) (lineOf r.pa) .wrP
      (.bytes (putLine 0 (r.pa % 64) r.len r.data) (byteMask (r.pa % 64) r.len))] } := by
  rw [inboundPut_first hempty hheld hmode, State.inboundRun]
  unfold State.inboundStep
  rw [inboundOf_setInbound]
  dsimp only
  rw [htag]
  dsimp only
  rw [hstarted, Bool.not_false, if_pos rfl]
  dsimp only
  have hone : (s.setInbound n [r]).portWriteBytes (64 + n) (BitVec.ofNat 10 r.realm) r.pa r.len r.data inboundLines =
      (s.setInbound n [r]).portWrite (64 + n) (BitVec.ofNat 10 r.realm) (lineOf r.pa) (putLine 0 (r.pa % 64) r.len r.data)
        (byteMask (r.pa % 64) r.len) := portWriteBytes_line _ _ _ _ 63 hlen hline
  obtain ⟨ports, hports⟩ := portWrite_sends (s := s.setInbound n [r]) (u := 64 + n) (by omega) (BitVec.ofNat 10 r.realm) (lineOf r.pa)
    (putLine 0 (r.pa % 64) r.len r.data) (byteMask (r.pa % 64) r.len)
  rw [hone, hports]
  exact ⟨ports, _, rfl⟩

/-- A read asks for its line, and waits for it. -/
theorem inboundPut_reads {tag : Nat} (htag : r.tag = some tag) (hport : s.port (64 + n) = {}) : ∃ ports inbound, s.inboundPut n r =
    { s with ports := ports, inbound := inbound, sent := s.sent ++ [s.portMsg (64 + n) (BitVec.ofNat 10 r.realm) (lineOf r.pa) .rdS .none] } ∧
    (s.inboundPut n r).inboundOf n = [r] := by
  have hfresh : (s.setInbound n [r]).port (64 + n) = {} := hport
  have hasks := portRead_asks hfresh (by omega) (show (s.setInbound n [r]).sourcesHeld = false from hheld) (BitVec.ofNat 10 r.realm) (lineOf r.pa)
  have hput : s.inboundPut n r = ((s.setInbound n [r]).portRead (64 + n) (BitVec.ofNat 10 r.realm) (lineOf r.pa)).1 := by
    rw [inboundPut_first hempty hheld hmode, State.inboundRun]
    unfold State.inboundStep
    rw [inboundOf_setInbound]
    dsimp only
    rw [htag]
    dsimp only
    rw [linesOf_line hlen hline, hfresh]
    unfold State.portReadBytes
    rw [linesOf_line hlen hline]
    simp only [State.portReadAll, hasks]
    rfl
  rw [hput, hasks]
  exact ⟨_, _, rfl, inboundOf_setInbound s n [r]⟩

end

end Sys2Proof.Machine

/-! ## Root ports

Inbound DMA, device reads, containment and assignment of root ports, and links that come up (R487, R518 to R522). -/

namespace Sys2Proof.Machine
open Sys2Proof

/-! ### Register addresses of the I/O die -/

theorem rpassign_notes (n : Fin 12) (e : Nat) (he : e < 64) : regRpassign n.val e ∉ noteRegs := by
  simp [noteRegs, regRpassign, regTlgStatus, regGlbErrsum]
  omega

theorem rpstatus_notes (n : Fin 12) : regRpstatus n.val ∉ noteRegs := by
  simp [noteRegs, regRpstatus, regTlgStatus, regGlbErrsum]
  omega

theorem rpctl_notes (n : Fin 12) : regRpctl n.val ∉ noteRegs := by
  simp [noteRegs, regRpctl, regTlgStatus, regGlbErrsum]
  omega

/-! ### Inbound DMA (R518, R520) -/

section
variable {n : Fin 12} {tag : BitVec 10} {rid : BitVec 16} {pa : BitVec 52} {data : List (BitVec 8)} {len : Fin 4097} {e : Nat} {s : State}

/-- The inbound request that assignment entry `e` of octet `n` admits. -/
def dmaReq (s : State) (n e pa len : Nat) (tag : Option Nat) (data : Nat) : InReq :=
  { tag := tag, realm := s.fld (regRpassign n e) 25 16, pa := pa, len := len, data := data, via := regRpassign n e }

/-- What a link that may be used tells of the package. -/
theorem rpDeaf_iff : s.rpDeaf n.val = false ↔ s.isRoot n.val = true ∧ s.rpContained n.val = false ∧ s.sourcesHeld = false ∧ s.mode ≠ modeHalt ∧
    modeSealed ≤ s.mode := by
  simp [State.rpDeaf, and_assoc]

theorem inboundDma_deaf (h : s.rpDeaf n.val = true) :
    exec (.inboundDmaWrite n rid pa data) s = .next s ∧ exec (.inboundDmaRead n tag rid pa len) s = .next s :=
  ⟨congrArg Host.Outcome.next (if_pos (by simp [h])), congrArg Host.Outcome.next (if_pos (by simp [h]))⟩

section
variable (hopen : s.rpDeaf n.val = false)
include hopen

section
variable (hdata : data ≠ [])
include hdata

/-- An inbound write, its TLP counted. -/
theorem exec_inboundDmaWrite_open : ∃ v, exec (.inboundDmaWrite n rid pa data) s = .next (let t := s.counted v
    match s.rpEntry n.val rid with
    | none => t.emit 12 (56 + n.val) 0xB010 0 [n.val, rid.toNat]
    | some i =>
      let r := s.fld (regRpassign n.val i) 25 16
      if s.intPage pa.toNat then
        t.send { type := .interrupt, hdr := { src := agentId s.pkgNum 12 (64 + n.val), dst := agentId (leNat data % 65536 / 2048) 12 96, stamp := s.clause,
                                              realm := BitVec.ofNat 10 r }, body := .interrupt (BitVec.ofNat 16 (leNat data % 65536)) .device false }
      else match s.dmaBad r pa.toNat data.length with
        | some p => t.dmaRefused n.val r p
        | none => t.inboundPut n.val { realm := r, pa := pa.toNat, len := data.length, data := leNat data, via := regRpassign n.val i }) := by
  obtain ⟨v, hv⟩ := tlpIn_counted s n.val data.length
  refine ⟨v, ?_⟩
  rw [exec_inboundDmaWrite, execInboundDmaWrite, if_neg (by simp [hopen, hdata]), hv]
  rfl

theorem inboundDmaWrite_unassigned (h : s.rpEntry n.val rid = none) : Ends (.inboundDmaWrite n rid pa data) s (fun u => u.sent = s.sent ∧
    u.inbound = s.inbound ∧ s.sameMachine u) := by
  obtain ⟨v, hexec⟩ := exec_inboundDmaWrite_open (rid := rid) (pa := pa) hopen hdata
  rw [h] at hexec
  have hl := emit_logs (s.counted v) 12 (56 + n.val) 0xB010 0 [n.val, rid.toNat]
  exact ⟨_, hexec, hl.sent, hl.unlogged State.inbound, hl.sameMachine⟩

theorem inboundDmaWrite_refused (h : s.rpEntry n.val rid = some e) (hpage : s.intPage pa.toNat = false)
    (hbad : s.dmaBad (s.fld (regRpassign n.val e) 25 16) pa.toNat data.length ≠ none) :
    Ends (.inboundDmaWrite n rid pa data) s (fun u => u.sent = s.sent ∧ u.inbound = s.inbound ∧ s.sameMachine u) := by
  obtain ⟨v, hexec⟩ := exec_inboundDmaWrite_open (rid := rid) (pa := pa) hopen hdata
  obtain ⟨p, hp⟩ := Option.ne_none_iff_exists'.1 hbad
  rw [h] at hexec
  simp only [hpage, Bool.false_eq_true, if_false, hp] at hexec
  have hl : (s.counted v).logs ((s.counted v).dmaRefused n.val (s.fld (regRpassign n.val e) 25 16) p) := emit_logs ..
  exact ⟨_, hexec, hl.sent, hl.unlogged State.inbound, hl.sameMachine⟩

theorem inboundDmaWrite_interrupts (h : s.rpEntry n.val rid = some e) (hpage : s.intPage pa.toNat = true) :
    Ends (.inboundDmaWrite n rid pa data) s (fun u => s.sameMachine u ∧ u.inbound = s.inbound ∧ ∃ m, u.sent = s.sent ++ [m] ∧
      m.type = .interrupt ∧ m.hdr.realm = BitVec.ofNat 10 (s.fld (regRpassign n.val e) 25 16) ∧
      m.body = .interrupt (BitVec.ofNat 16 (leNat data)) .device false) := by
  obtain ⟨v, hexec⟩ := exec_inboundDmaWrite_open (rid := rid) (pa := pa) hopen hdata
  rw [h] at hexec
  simp only [hpage, if_true] at hexec
  refine ⟨_, hexec, ⟨rfl, rfl, rfl⟩, rfl, _, rfl, rfl, rfl, ?_⟩
  rw [show BitVec.ofNat 16 (leNat data % 65536) = BitVec.ofNat 16 (leNat data) from BitVec.eq_of_toNat_eq (by simp)]

theorem inboundDmaWrite_writes (h : s.rpEntry n.val rid = some e) (hpage : s.intPage pa.toNat = false)
    (hgood : s.dmaBad (s.fld (regRpassign n.val e) 25 16) pa.toNat data.length = none) (hempty : s.inboundOf n.val = [])
    (hline : pa.toNat % 64 + data.length ≤ 64) :
    Ends (.inboundDmaWrite n rid pa data) s (fun u => s.sameMachine u ∧ ∃ m, u.sent = s.sent ++ [m] ∧ m.type = .wrP ∧
      m.hdr.addr = lineOf pa.toNat ∧ m.hdr.realm = BitVec.ofNat 10 (s.fld (regRpassign n.val e) 25 16) ∧
      m.body = .bytes (putLine 0 (pa.toNat % 64) data.length (leNat data)) (byteMask (pa.toNat % 64) data.length)) := by
  obtain ⟨-, -, hheld, hmode, -⟩ := rpDeaf_iff.1 hopen
  obtain ⟨v, hexec⟩ := exec_inboundDmaWrite_open (rid := rid) (pa := pa) hopen hdata
  rw [h] at hexec
  simp only [hpage, Bool.false_eq_true, if_false, hgood] at hexec
  have hput := inboundPut_writes (s := s.counted v) (n := n.val) (r := dmaReq s n.val e pa.toNat data.length none (leNat data)) hempty hheld hmode
    (List.length_pos_iff.2 hdata) hline rfl rfl
  obtain ⟨ports, inbound, hput⟩ := hput
  exact ⟨_, hexec.trans (congrArg Host.Outcome.next hput), ⟨rfl, rfl, rfl⟩, _, rfl, rfl, rfl, rfl, rfl⟩

end

section
variable (hlen : len.val ≠ 0)
include hlen

/-- An inbound read, its TLP counted. -/
theorem exec_inboundDmaRead_open : ∃ v, exec (.inboundDmaRead n tag rid pa len) s = .next (let t := s.counted v
    match s.rpEntry n.val rid with
    | none => (t.emit 12 (56 + n.val) 0xB010 0 [n.val, rid.toNat]).octetOut n.val (.completion tag.toNat len.val none)
    | some i =>
      let r := s.fld (regRpassign n.val i) 25 16
      match s.dmaBad r pa.toNat len.val with
      | some p => (t.dmaRefused n.val r p).octetOut n.val (.completion tag.toNat len.val none)
      | none => t.inboundPut n.val { tag := some tag.toNat, realm := r, pa := pa.toNat, len := len.val, via := regRpassign n.val i }) := by
  obtain ⟨v, hv⟩ := tlpIn_counted s n.val 0
  refine ⟨v, ?_⟩
  rw [exec_inboundDmaRead, execInboundDmaRead, if_neg (by simp [hopen, hlen]), hv]
  rfl

omit hopen hlen in
/-- A TLP that goes out at a root port. -/
theorem octetOut_root {t : State} {k : Nat} (hport : ¬(k = 0 ∧ t.servesHost = true)) (x : Tlp) :
    ∃ v, t.octetOut k x = { t with rpOut := Tbl.set t.rpOut k (Tbl.get [] t.rpOut k ++ [x]), pccVal := v } := by
  obtain ⟨v, hv⟩ := tlpOut_counted { t with rpOut := Tbl.set t.rpOut k (Tbl.get [] t.rpOut k ++ [x]) } k (tlpBytes x)
  exact ⟨v, (if_neg hport).trans hv⟩

omit hopen hlen in
/-- An Unsupported Request leaves the package as records left it. -/
theorem octetOut_answers {t : State} (hl : s.logs t) (hport : ¬(n = 0 ∧ s.servesHost = true)) (x : Tlp) : let u := t.octetOut n.val x
    Tbl.get [] u.rpOut n.val = Tbl.get [] s.rpOut n.val ++ [x] ∧ u.sent = s.sent ∧ s.sameMachine u := by
  have hport' : ¬(n.val = 0 ∧ t.servesHost = true) := fun h => hport ⟨Fin.ext h.1, hl.notes.servesHost ▸ h.2⟩
  obtain ⟨v, hv⟩ := octetOut_root hport' x
  rw [hv]
  refine ⟨?_, hl.sent, hl.sameMachine⟩
  rw [show t.rpOut = s.rpOut from hl.unlogged State.rpOut]
  exact (Tbl_get_set ..).trans (if_pos rfl)

variable (hport : ¬(n = 0 ∧ s.servesHost = true))
include hport

theorem inboundDmaRead_unassigned (h : s.rpEntry n.val rid = none) : Ends (.inboundDmaRead n tag rid pa len) s (fun u =>
    Tbl.get [] u.rpOut n.val = Tbl.get [] s.rpOut n.val ++ [.completion tag.toNat len.val none] ∧ u.sent = s.sent ∧ s.sameMachine u) := by
  obtain ⟨v, hexec⟩ := exec_inboundDmaRead_open (tag := tag) (rid := rid) (pa := pa) hopen hlen
  rw [h] at hexec
  exact ⟨_, hexec, octetOut_answers (s := s.counted v) (emit_logs ..) hport _⟩

theorem inboundDmaRead_refused (h : s.rpEntry n.val rid = some e)
    (hbad : s.dmaBad (s.fld (regRpassign n.val e) 25 16) pa.toNat len.val ≠ none) : Ends (.inboundDmaRead n tag rid pa len) s (fun u =>
    Tbl.get [] u.rpOut n.val = Tbl.get [] s.rpOut n.val ++ [.completion tag.toNat len.val none] ∧ u.sent = s.sent ∧ s.sameMachine u) := by
  obtain ⟨v, hexec⟩ := exec_inboundDmaRead_open (tag := tag) (rid := rid) (pa := pa) hopen hlen
  obtain ⟨p, hp⟩ := Option.ne_none_iff_exists'.1 hbad
  rw [h] at hexec
  simp only [hp] at hexec
  exact ⟨_, hexec, octetOut_answers (s := s.counted v) (emit_logs ..) hport _⟩

omit hport in
theorem inboundDmaRead_reads (h : s.rpEntry n.val rid = some e)
    (hgood : s.dmaBad (s.fld (regRpassign n.val e) 25 16) pa.toNat len.val = none) (hempty : s.inboundOf n.val = [])
    (hfresh : s.port (64 + n.val) = {}) (hline : pa.toNat % 64 + len.val ≤ 64) : Ends (.inboundDmaRead n tag rid pa len) s (fun u =>
      u.rpOut = s.rpOut ∧ u.inboundOf n.val = [{ tag := some tag.toNat, realm := s.fld (regRpassign n.val e) 25 16,
                                                 pa := pa.toNat, len := len.val, via := regRpassign n.val e }] ∧ s.sameMachine u ∧ ∃ m, u.sent = s.sent ++ [m] ∧ m.type = .rdS ∧ m.hdr.addr = lineOf pa.toNat ∧
        m.hdr.realm = BitVec.ofNat 10 (s.fld (regRpassign n.val e) 25 16)) := by
  obtain ⟨-, -, hheld, hmode, -⟩ := rpDeaf_iff.1 hopen
  obtain ⟨v, hexec⟩ := exec_inboundDmaRead_open (tag := tag) (rid := rid) (pa := pa) hopen hlen
  rw [h] at hexec
  simp only [hgood] at hexec
  obtain ⟨ports, inbound, hput, hof⟩ := inboundPut_reads (s := s.counted v) (n := n.val) (r := dmaReq s n.val e pa.toNat len.val (some tag.toNat) 0)
    hempty hheld hmode (Nat.pos_of_ne_zero hlen) hline rfl hfresh
  rw [hput] at hof
  exact ⟨_, hexec.trans (congrArg Host.Outcome.next hput), rfl, hof, ⟨rfl, rfl, rfl⟩, _, rfl, rfl, rfl, rfl⟩

end

end

end

/-! ### Device reads (R521) -/

/-- The answer to a device read. -/
def State.devAnswer (s : State) (r : DevRead) (v : Word) : Msg :=
  { type := .regAnswer, hdr := { r.hdr with src := r.hdr.dst, dst := r.hdr.src, stamp := s.clause }, body := .value v }

section
variable {n : Fin 12} {tag : BitVec 10} {st : Fin 3} {v : Word} {r : DevRead} {s : State}

/-- A device read that fails, the only one, is answered with ones. -/
theorem devReadFailed_answers (h : s.devReads = [r]) (why : Nat) : let u := s.devReadFailed r why
    u.devReads = [] ∧ s.sameMachine u ∧ u.sent = s.sent ++ [s.devAnswer r (BitVec.allOnes 64)] ∧ u.inbound = s.inbound ∧ s.keepsRegs u := by
  intro u
  have hl := emit_logs { s with devReads := s.devReads.erase r } 12 (56 + r.octet) 0xB013 0 [r.octet, r.hdr.rank.toNat, r.addr % 2 ^ 32, why]
  have hnone : s.devReads.erase r = [] := by simp [h]
  refine ⟨(hl.unlogged State.devReads).trans hnone, hl.sameMachine, ?_, hl.unlogged State.inbound, hl.regs⟩
  rw [show s.devAnswer r (BitVec.allOnes 64) = ({ s with devReads := s.devReads.erase r }.emit 12 (56 + r.octet) 0xB013 0
    [r.octet, r.hdr.rank.toNat, r.addr % 2 ^ 32, why]).devAnswer r (BitVec.allOnes 64) from by rw [State.devAnswer, State.devAnswer, hl.clause]]
  exact congrArg (· ++ [_]) hl.sent

theorem deviceRead_idle (h : s.devReads = []) :
    exec (.deviceReadCompletion n tag st v) s = .next s ∧ exec (.deviceReadTimeout n) s = .next s := by
  constructor
  · rw [exec_deviceReadCompletion, execDeviceReadCompletion, h]
    rfl
  · rw [exec_deviceReadTimeout, execDeviceReadTimeout, h]
    rfl

theorem deviceReadCompletion_answers (h : s.devReads = [r]) (hoctet : r.octet = n.val) (htag : r.tag = tag.toNat) :
    Ends (.deviceReadCompletion n tag st v) s (fun u => u.devReads = [] ∧ s.sameMachine u ∧
      u.sent = s.sent ++ [s.devAnswer r (if st = 0 then BitVec.ofNat 64 (v.toNat % 256 ^ r.len) else BitVec.allOnes 64)]) := by
  have hfind : s.devReads.find? (fun r => decide (r.octet = n.val) && decide (r.tag = tag.toNat)) = some r := by simp [h, hoctet, htag]
  obtain ⟨w, hw⟩ := tlpIn_counted s n.val (if st = 0 then r.len else 0)
  rw [Ends, exec_deviceReadCompletion, execDeviceReadCompletion, hfind]
  dsimp only
  rw [hw]
  split
  · have herase : (s.counted w).devReads.erase r = [] := by
      change s.devReads.erase r = []
      simp [h]
    rw [herase]
    exact ⟨_, rfl, rfl, ⟨rfl, rfl, rfl⟩, rfl⟩
  · obtain ⟨hnone, hsame, hsent, -⟩ := devReadFailed_answers (s := s.counted w) h st.val
    exact ⟨_, rfl, hnone, hsame, hsent⟩

theorem deviceReadTimeout_answers (h : s.devReads = [r]) (hoctet : r.octet = n.val) (hdue : r.since.toNat + 12500000 ≤ s.clause.toNat) :
    Ends (.deviceReadTimeout n) s (fun u => u.devReads = [] ∧ s.sameMachine u ∧ u.sent = s.sent ++ [s.devAnswer r (BitVec.allOnes 64)]) := by
  have hfind : s.devReads.find? (fun r => decide (r.octet = n.val) && decide (r.since.toNat + 12500000 ≤ s.clause.toNat)) = some r := by
    simp [h, hoctet, hdue]
  obtain ⟨hnone, hsame, hsent, -⟩ := devReadFailed_answers h 3
  rw [Ends, exec_deviceReadTimeout, execDeviceReadTimeout, hfind]
  exact ⟨_, rfl, hnone, hsame, hsent⟩

theorem deviceReadTimeout_early (h : s.devReads = [r]) (hdue : s.clause.toNat < r.since.toNat + 12500000) :
    exec (.deviceReadTimeout n) s = .next s := by
  have hfind : s.devReads.find? (fun r => decide (r.octet = n.val) && decide (r.since.toNat + 12500000 ≤ s.clause.toNat)) = none := by
    simp [h, Nat.not_le.2 hdue]
  rw [exec_deviceReadTimeout, execDeviceReadTimeout, hfind]

end

/-! ### Containment (R522) -/

section
variable {n : Fin 12} {aer : BitVec 32} {i : Fin 64} {v : Word} {origin : BitVec 16} {r : DevRead} {s : State}

theorem rootPort_other (h : s.isRoot n.val = false) : exec (.rpContained n true aer) s = .next s ∧ exec (.rpRelease n) s = .next s ∧
    exec (.rpassignWrite n i v origin) s = .next s :=
  ⟨congrArg Host.Outcome.next (if_pos (by simp [h])), congrArg Host.Outcome.next (if_neg (by simp [h])),
    congrArg Host.Outcome.next (if_pos (by simp [h]))⟩

/-- A port whose link has gone down, and that stands contained. -/
def State.portDown (s : State) (n : Nat) : State :=
  let t := (((s.setFld (regRpstatus n) 7 4 0).setFld (regRpstatus n) 3 0 0).setFld (regRpstatus n) 15 12 1).setFld (regRpstatus n) 11 11 1
  t.setInbound n ((t.inboundOf n).filter (·.started))

theorem portDown_fields (s : State) (n : Nat) : let u := s.portDown n
    u.fld (regRpstatus n) 11 11 = 1 ∧ u.fld (regRpstatus n) 15 12 = 1 ∧ u.fld (regRpstatus n) 7 4 = 0 ∧
      u.inboundOf n = (s.inboundOf n).filter (·.started) := by
  have hfld (hi lo : Nat) : (s.portDown n).fld (regRpstatus n) hi lo = ((((s.setFld (regRpstatus n) 7 4 0).setFld (regRpstatus n) 3 0 0).setFld
    (regRpstatus n) 15 12 1).setFld (regRpstatus n) 11 11 1).fld (regRpstatus n) hi lo := rfl
  dsimp only
  rw [hfld, hfld, hfld]
  refine ⟨?_, ?_, ?_, inboundOf_setInbound ..⟩ <;> simp (disch := decide) only [fld_setFld_same, fld_setFld] <;> decide

theorem rpContained_contains (hroot : s.isRoot n.val = true) (hfree : s.rpContained n.val = false) (h : s.devReads = [r])
    (hoctet : r.octet = n.val) : Ends (.rpContained n true aer) s (fun u => u.rpContained n.val = true ∧ u.fld (regRpstatus n.val) 15 12 = 1 ∧
      u.rpLinked n.val = false ∧ u.devReads = [] ∧ u.sent = s.sent ++ [s.devAnswer r (BitVec.allOnes 64)] ∧
      (∀ q ∈ u.inboundOf n.val, q.started = true) ∧ s.sameMachine u) := by
  have hnot : ((s.setFld (regRpstatus n.val) 7 4 0).setFld (regRpstatus n.val) 3 0 0).rpContained n.val = false := by
    rw [← hfree, State.rpContained, State.rpContained]
    simp (disch := decide) only [fld_setFld_same]
  have hl := emit_logs (s.portDown n.val) 12 (56 + n.val) 0xB011 0 [n.val, 1, aer.toNat]
  generalize hv : (s.portDown n.val).emit 12 (56 + n.val) 0xB011 0 [n.val, 1, aer.toNat] = w at hl
  have hreads : w.devReads = [r] := (hl.unlogged State.devReads).trans h
  have hexec : exec (.rpContained n true aer) s = .next (w.devReadFailed r 1) := by
    rw [exec_rpContained, execRpContained, if_neg (by simp [hroot]), if_pos rfl, State.rpContain, if_neg (by simp [hnot])]
    change Host.Outcome.next (((s.portDown n.val).emit 12 (56 + n.val) 0xB011 0 [n.val, 1, aer.toNat]).failReads 1
      (((s.portDown n.val).emit 12 (56 + n.val) 0xB011 0 [n.val, 1, aer.toNat]).devReads.filter (fun r => decide (r.octet = n.val)))) = _
    rw [hv, hreads, List.filter_cons, if_pos (by simp [hoctet])]
    rfl
  obtain ⟨hnone, hsame, hsent, hinbound, hregs⟩ := devReadFailed_answers hreads 1
  obtain ⟨hcontained, hcause, hlink, hin⟩ := portDown_fields s n.val
  have hfld (hi lo : Nat) : (w.devReadFailed r 1).fld (regRpstatus n.val) hi lo = (s.portDown n.val).fld (regRpstatus n.val) hi lo :=
    (hregs.fld (rpstatus_notes n) hi lo).trans (hl.regs.fld (rpstatus_notes n) hi lo)
  have hof : (w.devReadFailed r 1).inboundOf n.val = (s.inboundOf n.val).filter (·.started) := by
    rw [← hin, State.inboundOf, State.inboundOf, hinbound, show w.inbound = (s.portDown n.val).inbound from hl.unlogged State.inbound]
  refine ⟨_, hexec, decide_eq_true ((hfld 11 11).trans hcontained), (hfld 15 12).trans hcause,
    decide_eq_false (not_not_intro ((hfld 7 4).trans hlink)), hnone, ?_, fun q hq => ?_, sameMachine_trans (b := s.portDown n.val) ⟨rfl, rfl, rfl⟩
      (sameMachine_trans hl.sameMachine hsame)⟩
  · rw [hsent, hl.sent, State.devAnswer, hl.clause]
    rfl
  · rw [hof] at hq
    exact (List.mem_filter.1 hq).2

/-- A port whose release is asked for. -/
theorem rpRelease_asked (hroot : s.isRoot n.val = true) (hcontained : s.rpContained n.val = true) (hmode : s.mode ≠ modeHalt) :
    exec (.rpRelease n) s = .next ((s.setFld (regRpctl n.val) 0 0 1).rpReleaseTry n.val) :=
  congrArg Host.Outcome.next (if_pos (by simp [hroot, hcontained, hmode]))

theorem rpctl_asked (s : State) (n : Nat) : (s.setFld (regRpctl n) 0 0 1).fld (regRpctl n) 0 0 = 1 := fld_setFld _ _ _ _ _ (by decide) (by decide)

theorem rpstatus_asked (s : State) (n hi lo : Nat) : (s.setFld (regRpctl n) 0 0 1).fld (regRpstatus n) hi lo = s.fld (regRpstatus n) hi lo := by
  rw [State.fld, State.fld, reg_setFld_ne _ _ _ _ _ _ (by unfold regRpctl regRpstatus; omega)]

/-- The release of a port that is done. -/
def State.portReleased (s : State) (n : Nat) : State :=
  ((s.setFld (regRpstatus n) 11 11 0).setFld (regRpstatus n) 15 12 0).setFld (regRpctl n) 0 0 0

theorem rpReleaseTry_done {t : State} {k : Nat} (hasked : t.fld (regRpctl k) 0 0 = 1) (hcontained : t.rpContained k = true)
    (hlinked : t.rpLinked k = true) : t.rpReleaseTry k = (t.portReleased k).emit 12 (56 + k) 0xB012 0 [k] :=
  if_pos (by simp [hasked, hcontained, hlinked])

theorem portReleased_fields (s : State) (n : Nat) : let u := s.portReleased n
    u.fld (regRpstatus n) 11 11 = 0 ∧ u.fld (regRpstatus n) 15 12 = 0 ∧ u.fld (regRpctl n) 0 0 = 0 := by
  have hne : regRpstatus n ≠ regRpctl n := by unfold regRpctl regRpstatus; omega
  unfold State.portReleased
  refine ⟨?_, ?_, fld_setFld _ _ _ _ _ (by decide) (by decide)⟩
  · rw [fld_setFld_ne _ _ _ _ _ _ _ _ (.inl hne) (by decide) (by decide), fld_setFld_ne _ _ _ _ _ _ _ _ (.inr (.inl (by decide))) (by decide) (by decide),
      fld_setFld _ _ _ _ _ (by decide) (by decide), Nat.zero_mod]
  · rw [fld_setFld_ne _ _ _ _ _ _ _ _ (.inl hne) (by decide) (by decide), fld_setFld _ _ _ _ _ (by decide) (by decide), Nat.zero_mod]

section
variable (hroot : s.isRoot n.val = true) (hcontained : s.rpContained n.val = true) (hmode : s.mode ≠ modeHalt)
include hroot hcontained hmode

theorem rpRelease_releases (hlinked : s.rpLinked n.val = true) : Ends (.rpRelease n) s (fun u => u.rpContained n.val = false ∧
    u.fld (regRpstatus n.val) 15 12 = 0 ∧ u.fld (regRpctl n.val) 0 0 = 0 ∧ s.sameMachine u) := by
  have hcontained' : (s.setFld (regRpctl n.val) 0 0 1).rpContained n.val = true := by rwa [State.rpContained, rpstatus_asked]
  have hlinked' : (s.setFld (regRpctl n.val) 0 0 1).rpLinked n.val = true := by rwa [State.rpLinked, rpstatus_asked]
  obtain ⟨hfree, hcause, hctl⟩ := portReleased_fields (s.setFld (regRpctl n.val) 0 0 1) n.val
  have hl := emit_logs ((s.setFld (regRpctl n.val) 0 0 1).portReleased n.val) 12 (56 + n.val) 0xB012 0 [n.val]
  refine ⟨_, (rpRelease_asked hroot hcontained hmode).trans (congrArg Host.Outcome.next (rpReleaseTry_done (rpctl_asked s n.val) hcontained' hlinked')),
    decide_eq_false ?_, (hl.regs.fld (rpstatus_notes n) _ _).trans hcause, (hl.regs.fld (rpctl_notes n) _ _).trans hctl, hl.sameMachine⟩
  rw [hl.regs.fld (rpstatus_notes n), hfree]
  decide

theorem rpRelease_waits (hdown : s.rpLinked n.val = false) : Ends (.rpRelease n) s (fun u => u.rpContained n.val = true ∧
    u.fld (regRpctl n.val) 0 0 = 1 ∧ s.sameMachine u) := by
  have hdown' : (s.setFld (regRpctl n.val) 0 0 1).rpLinked n.val = false := by rwa [State.rpLinked, rpstatus_asked]
  have htry : (s.setFld (regRpctl n.val) 0 0 1).rpReleaseTry n.val = s.setFld (regRpctl n.val) 0 0 1 := if_neg (by simp [hdown'])
  refine ⟨_, (rpRelease_asked hroot hcontained hmode).trans (congrArg Host.Outcome.next htry), ?_, rpctl_asked s n.val, rfl, rfl, rfl⟩
  rwa [State.rpContained, rpstatus_asked]

end

/-! ### Assignment (R519) -/

/-- A mapping register is due at the next clause, and holds its old value till then (R492). -/
theorem mapWrite_due (hdue : s.mapDue = []) {off : Nat} (hoff : off ∉ noteRegs) (w : Word) : let u := s.mapWrite off w origin
    u.mapDue = [(off, w, origin)] ∧ u.reg off = s.reg off ∧ s.sameMachine u := by
  have hl := chgRecs_logs { s with mapDue := mapInsert (off, w, origin) s.mapDue } origin off 0 (s.reg off) w
  refine ⟨(hl.unlogged State.mapDue).trans ?_, hl.regs _ hoff, hl.sameMachine⟩
  change mapInsert _ s.mapDue = _
  rw [hdue]
  rfl

theorem rpassignWrite_due (hroot : s.isRoot n.val = true) (hmode : s.mode ≠ modeHalt) (hdue : s.mapDue = [])
    (hold : s.realmSealed (s.fld (regRpassign n.val i.val) 25 16) = false) (hnew : s.realmSealed (bits v 25 16) = false) :
    Ends (.rpassignWrite n i v origin) s (fun u => u.mapDue = [(regRpassign n.val i.val, rpassignMask v, origin)] ∧
      u.reg (regRpassign n.val i.val) = s.reg (regRpassign n.val i.val) ∧ s.sameMachine u) := by
  have hwrite : s.rpassignWrite n.val i.val v origin = s.mapWrite (regRpassign n.val i.val) (rpassignMask v) origin := by
    unfold State.rpassignWrite
    dsimp only
    rw [if_neg (by simp [hroot, hmode]), if_neg (by simp [hold, hnew])]
  exact ⟨_, congrArg Host.Outcome.next hwrite, mapWrite_due hdue (rpassign_notes n i.val i.isLt) (rpassignMask v)⟩

theorem rpassignWrite_refused (hroot : s.isRoot n.val = true) (hmode : s.mode ≠ modeHalt) (hsealed : s.realmSealed (bits v 25 16) = true) :
    Ends (.rpassignWrite n i v origin) s (fun u => u.mapDue = s.mapDue ∧ u.reg (regRpassign n.val i.val) = s.reg (regRpassign n.val i.val) ∧
      s.sameMachine u) := by
  have hwrite : s.rpassignWrite n.val i.val v origin = s.chgRecs origin (regRpassign n.val i.val) 3 (s.reg (regRpassign n.val i.val)) v := by
    unfold State.rpassignWrite
    dsimp only
    rw [if_neg (by simp [hroot, hmode]), if_pos (by simp [hsealed])]
  have hl := chgRecs_logs s origin (regRpassign n.val i.val) 3 (s.reg (regRpassign n.val i.val)) v
  exact ⟨_, congrArg Host.Outcome.next hwrite, hl.unlogged State.mapDue, hl.regs _ (rpassign_notes n i.val i.isLt), hl.sameMachine⟩

end

/-! ### Links that come up (R487) -/

section
variable {n : Fin 12} {width speed : BitVec 4} {s : State}

/-- A release keeps the link's width and speed, and the machine. -/
theorem rpReleaseTry_link (t : State) (n : Fin 12) :
    (∀ hi lo, hi < 11 → lo ≤ hi → (t.rpReleaseTry n.val).fld (regRpstatus n.val) hi lo = t.fld (regRpstatus n.val) hi lo) ∧
      t.sameMachine (t.rpReleaseTry n.val) := by
  unfold State.rpReleaseTry
  split
  · have hl := emit_logs (t.portReleased n.val) 12 (56 + n.val) 0xB012 0 [n.val]
    refine ⟨fun hi lo hhi hlo => (hl.regs.fld (rpstatus_notes n) hi lo).trans ?_, hl.sameMachine⟩
    unfold State.portReleased
    rw [fld_setFld_ne _ _ _ _ _ _ _ _ (.inl (by unfold regRpctl regRpstatus; omega)) (by decide) hlo,
      fld_setFld_same _ _ _ _ _ _ _ (.inl (by omega)) (by decide) hlo, fld_setFld_same _ _ _ _ _ _ _ (.inl (by omega)) (by decide) hlo]
  · exact ⟨fun _ _ _ _ => rfl, rfl, rfl, rfl⟩

theorem pcieLinkUp_none (h : width = 0 ∨ s.mode < modeSense) : exec (.pcieLinkUp n width speed) s = .next s :=
  congrArg Host.Outcome.next (if_pos (h.imp id .inr))

/-- The link's width and speed stand in a status register. -/
def State.linkOf (s : State) (reg : Nat) (width speed : BitVec 4) : State := (s.setFld reg 7 4 width.toNat).setFld reg 3 0 speed.toNat

theorem linkOf_fields (s : State) (reg : Nat) (width speed : BitVec 4) :
    (s.linkOf reg width speed).fld reg 7 4 = width.toNat ∧ (s.linkOf reg width speed).fld reg 3 0 = speed.toNat := by
  unfold State.linkOf
  simp (disch := decide) only [fld_setFld_same, fld_setFld]
  exact ⟨Nat.mod_eq_of_lt width.isLt, Nat.mod_eq_of_lt speed.isLt⟩

/-- The endpoint's status when its link has trained: the link is down no longer, and a package that serves tells of it. -/
def State.linkTold (s : State) : State :=
  let s := if s.fld regEpfStatus 9 8 = 2 then s.setFld regEpfStatus 9 8 0 else s
  if modeSealed ≤ s.mode ∧ s.epf.resetDue.isNone then s.setFld regEpfStatus 10 10 1 else s

theorem linkTold_fld (t : State) {hi lo : Nat} (hhi : hi < 8) (hlo : lo ≤ hi) : t.linkTold.fld regEpfStatus hi lo = t.fld regEpfStatus hi lo := by
  have hup : (t.setFld regEpfStatus 9 8 0).fld regEpfStatus hi lo = t.fld regEpfStatus hi lo :=
    fld_setFld_same _ _ _ _ _ _ _ (.inl (by omega)) (by decide) hlo
  have htold (v : State) : (v.setFld regEpfStatus 10 10 1).fld regEpfStatus hi lo = v.fld regEpfStatus hi lo :=
    fld_setFld_same _ _ _ _ _ _ _ (.inl (by omega)) (by decide) hlo
  unfold State.linkTold
  dsimp only
  rw [apply_ite (fun v : State => v.fld regEpfStatus hi lo), htold, ite_self, apply_ite (fun v : State => v.fld regEpfStatus hi lo), hup, ite_self]

theorem linkTold_sameMachine (t : State) : t.sameMachine t.linkTold := by
  unfold State.linkTold
  dsimp only
  split <;> split <;> exact ⟨rfl, rfl, rfl⟩

section
variable (hwidth : width ≠ 0) (hspeed : speed ≠ 0) (hmode : modeSense ≤ s.mode)
include hwidth hspeed hmode

theorem pcieLinkUp_root (hport : n ≠ 0 ∨ s.servesHost = false) (hroot : s.isRoot n.val = true) : Ends (.pcieLinkUp n width speed) s (fun u =>
    u.fld (regRpstatus n.val) 7 4 = width.toNat ∧ u.fld (regRpstatus n.val) 3 0 = speed.toNat ∧ s.sameMachine u) := by
  obtain ⟨hw, hs⟩ := linkOf_fields s (regRpstatus n.val) width speed
  have hexec : exec (.pcieLinkUp n width speed) s = .next ((s.linkOf (regRpstatus n.val) width speed).rpReleaseTry n.val) := by
    rw [exec_pcieLinkUp]
    unfold execPcieLinkUp
    dsimp only
    rw [if_neg (fun h => h.elim hwidth (fun h => h.elim hspeed (Nat.not_lt.2 hmode))), if_neg (fun h => hport.elim (fun hn => hn h.1) (fun hs => by simp [hs] at h)),
      if_pos hroot]
    rfl
  obtain ⟨hregs, hsame⟩ := rpReleaseTry_link (s.linkOf (regRpstatus n.val) width speed) n
  exact ⟨_, hexec, (hregs 7 4 (by decide) (by decide)).trans hw, (hregs 3 0 (by decide) (by decide)).trans hs, hsame⟩

theorem pcieLinkUp_endpoint (hn : n = 0) (hhost : s.servesHost = true) (hrole : s.fld (regOctCfg 0) 6 4 = 5) :
    Ends (.pcieLinkUp n width speed) s (fun u => u.fld regEpfStatus 7 4 = width.toNat ∧ u.fld regEpfStatus 3 0 = speed.toNat ∧ s.sameMachine u) := by
  obtain ⟨hw, hs⟩ := linkOf_fields s regEpfStatus width speed
  have hexec : exec (.pcieLinkUp n width speed) s = .next (s.linkOf regEpfStatus width speed).linkTold := by
    rw [exec_pcieLinkUp]
    unfold execPcieLinkUp
    dsimp only
    rw [if_neg (fun h => h.elim hwidth (fun h => h.elim hspeed (Nat.not_lt.2 hmode))), if_pos ⟨hn, hhost, .inl (by rw [hn]; exact hrole)⟩]
    rfl
  exact ⟨_, hexec, (linkTold_fld _ (by decide) (by decide)).trans hw,
    (linkTold_fld _ (by decide) (by decide)).trans hs, sameMachine_trans (b := s.linkOf regEpfStatus width speed) ⟨rfl, rfl, rfl⟩ (linkTold_sameMachine _)⟩

end

end

/-- Settles O58: one lemma for each inbound request, end of a device read, write and link event, and each of its outcomes. -/
theorem rootPortTraffic : Obligations.RootPortTraffic := by
  intro n i tag rid pa data len e st v aer width speed origin r s realm open' out ur writes reads fresh own answer mine linkUp
  refine ⟨inboundDma_deaf, fun ⟨hopen, hdata⟩ => inboundDmaWrite_unassigned hopen hdata, fun ⟨hopen, hdata⟩ => inboundDmaWrite_refused hopen hdata,
    fun ⟨hopen, hdata⟩ hown hpage hgood ⟨hempty, _⟩ => inboundDmaWrite_writes hopen hdata hown hpage hgood hempty,
    fun ⟨hopen, hdata⟩ => inboundDmaWrite_interrupts hopen hdata,
    fun ⟨hopen, hlen, hport⟩ => inboundDmaRead_unassigned hopen hlen hport, fun ⟨hopen, hlen, hport⟩ => inboundDmaRead_refused hopen hlen hport,
    fun ⟨hopen, hlen, _⟩ hown hgood ⟨hempty, hfresh⟩ => inboundDmaRead_reads hopen hlen hown hgood hempty hfresh, deviceRead_idle,
    fun ⟨h, hoctet⟩ => deviceReadCompletion_answers h hoctet, fun ⟨h, hoctet⟩ => deviceReadTimeout_answers h hoctet,
    fun ⟨h, _⟩ => deviceReadTimeout_early h, rootPort_other, fun hroot hfree ⟨h, hoctet⟩ => rpContained_contains hroot hfree h hoctet,
    fun hroot hcontained hlinked hmode => rpRelease_releases hroot hcontained hmode hlinked,
    fun hroot hcontained hdown hmode => rpRelease_waits hroot hcontained hmode hdown, rpassignWrite_due, rpassignWrite_refused, pcieLinkUp_none,
    pcieLinkUp_root, pcieLinkUp_endpoint⟩

end Sys2Proof.Machine

/-! ## The endpoint function

What the endpoint says to its link, and the events of R486 to R492 and R513 to R517: configuration, the peer window, bus mastering, resets,
power states and containment. -/

namespace Sys2Proof.Machine
open Sys2Proof

/-! ### What the function says (R486, R494, R498) -/

/-- The endpoint without what it says, and without the descriptor reads that it asks for. -/
def Endpoint.quiet (e : Endpoint) : Endpoint :=
  { e with reads := [], nextTag := 0, nextRing := 0, out := [], msixPending := [], noticeHeld := false, pmeSent := false, wakeN := false }

/-- The function says something to its link; nothing else differs. -/
def State.talks (s u : State) : Prop := u.epf.quiet = s.epf.quiet ∧ ∃ e v, u = { s with epf := e, pccVal := v }

theorem talks_refl (s : State) : s.talks s := ⟨rfl, s.epf, s.pccVal, rfl⟩

theorem talks_trans {a b c : State} (h : a.talks b) (k : b.talks c) : a.talks c := by
  obtain ⟨hquiet, e, v, hb⟩ := h
  obtain ⟨kquiet, f, w, hc⟩ := k
  exact ⟨kquiet.trans hquiet, f, w, by rw [hc, hb]⟩

theorem talks_ite {c : Prop} [Decidable c] {s t u : State} (ht : s.talks t) (hu : s.talks u) : s.talks (if c then t else u) := by
  split
  · exact ht
  · exact hu

section
variable {s u : State} (h : s.talks u)
include h

theorem State.talks.quiet {α : Type} (f : Endpoint → α) : f u.epf.quiet = f s.epf.quiet := congrArg f h.1
theorem State.talks.silent : { u with epf := {}, pccVal := [] } = { s with epf := {}, pccVal := [] } := by
  obtain ⟨-, e, v, rfl⟩ := h
  rfl
theorem State.talks.rest {α : Type} (f : State → α) : f { u with epf := {}, pccVal := [] } = f { s with epf := {}, pccVal := [] } :=
  congrArg f h.silent
theorem State.talks.regs : u.regs = s.regs := h.rest State.regs
theorem State.talks.fld (off hi lo : Nat) : u.fld off hi lo = s.fld off hi lo := fld_of_regs h.regs off hi lo
theorem State.talks.reg (off : Nat) : u.reg off = s.reg off := by rw [State.reg, State.reg, h.regs]
theorem State.talks.completions : u.completions = s.completions := h.rest State.completions
theorem State.talks.sameMachine : s.sameMachine u := ⟨h.rest State.mem, h.rest State.threads, h.rest State.cores⟩

end

/-- A TLP has gone out at the endpoint, counted. -/
def State.said (s : State) (x : Tlp) (v : Tbl Word) : State := { s with epf := { s.epf with out := s.epf.out ++ [x] }, pccVal := v }

theorem epfOut_said (s : State) (x : Tlp) : ∃ v, s.epfOut x = s.said x v := by
  obtain ⟨v, hv⟩ := tlpOut_counted (s.modEpf (fun e => { e with out := e.out ++ [x] })) 0 (tlpBytes x)
  exact ⟨v, hv⟩

theorem epfOut_talks (s : State) (x : Tlp) : s.talks (s.epfOut x) := by
  obtain ⟨v, hv⟩ := epfOut_said s x
  rw [hv]
  exact ⟨rfl, _, v, rfl⟩

theorem modEpf_talks (s : State) {f : Endpoint → Endpoint} (h : (f s.epf).quiet = s.epf.quiet) : s.talks (s.modEpf f) := ⟨h, _, s.pccVal, rfl⟩

theorem sendMsix_talks (s : State) (v : Nat) : s.talks (s.sendMsix v) := talks_ite (modEpf_talks s rfl) (epfOut_talks s _)

theorem noticeResume_talks (s : State) : s.talks s.noticeResume :=
  talks_ite (talks_trans (modEpf_talks s rfl) (sendMsix_talks _ _)) (talks_refl s)

theorem askDescriptor_talks (s : State) (i : Nat) : s.talks (s.askDescriptor i) := talks_trans (modEpf_talks s rfl) (epfOut_talks _ _)

theorem issueReads_talks (s : State) (k : Nat) : s.talks (s.issueReads k) := by
  induction k generalizing s with
  | zero => exact talks_refl s
  | succ k ih =>
    rw [State.issueReads]
    refine talks_ite (talks_refl s) ?_
    split
    · exact talks_trans (askDescriptor_talks s _) (ih _)
    · exact talks_refl s

theorem wakeTick_talks (s : State) : s.talks s.wakeTick := by
  unfold State.wakeTick
  refine talks_ite (talks_refl s) ?_
  extract_lets d t w
  have ht : s.talks t := talks_ite (talks_trans (epfOut_talks s _) (modEpf_talks _ rfl)) (talks_refl s)
  exact talks_ite ht (talks_trans ht (modEpf_talks t rfl))

/-! ### Register addresses of the endpoint -/

theorem epfStatus_notes : regEpfStatus ∉ noteRegs := by decide

theorem epfWin_notes (k : Nat) (hk : k < 16) : regEpfWin k ∉ noteRegs := by
  simp [noteRegs, regEpfWin, regTlgStatus, regGlbErrsum]
  omega

theorem epfCring1_notes (j : Nat) : regEpfCring1 j ∉ noteRegs := by
  simp [noteRegs, regEpfCring1, regTlgStatus, regGlbErrsum]
  omega

/-! ### The peer window (R490, R492) -/

section
variable {tag : BitVec 10} {off : BitVec 36} {len : Fin 4097} {data : List (BitVec 8)} {s : State}

theorem peerWindow_closed (h : s.peerOpen = false) :
    exec (.peerWindowRead tag off len) s = .next s ∧ exec (.peerWindowWrite off data) s = .next s :=
  ⟨congrArg Host.Outcome.next (if_pos (by simp [h])), congrArg Host.Outcome.next (if_pos (by simp [h]))⟩

/-- A completion of a counted request leaves the registers, the messages and the machine. -/
theorem counted_epfOut (s : State) (v : Tbl Word) (x : Tlp) : let u := (s.counted v).epfOut x
    u.epf.out = s.epf.out ++ [x] ∧ u.sent = s.sent ∧ u.regs = s.regs ∧ s.sameMachine u := by
  obtain ⟨w, hw⟩ := epfOut_said (s.counted v) x
  rw [hw]
  exact ⟨rfl, rfl, rfl, rfl, rfl, rfl⟩

section
variable (hopen : s.peerOpen = true)
include hopen

theorem peerWindow_unserved (h : s.epfContained = true ∨ s.mode = modeHalt) : Ends (.peerWindowRead tag off len) s (fun u =>
    u.epf.out = s.epf.out ++ [.completion tag.toNat len.val none] ∧ u.sent = s.sent ∧ u.regs = s.regs ∧ s.sameMachine u) ∧
    exec (.peerWindowWrite off data) s = .next s := by
  obtain ⟨v, hv⟩ := tlpIn_counted s 0 0
  have hrefused : (s.epfContained || decide (s.mode = modeHalt)) = true := by simpa using h
  constructor
  · have hexec : exec (.peerWindowRead tag off len) s = .next ((s.counted v).epfOut (.completion tag.toNat len.val none)) := by
      rw [exec_peerWindowRead, execPeerWindowRead, if_neg (by simp [hopen]), if_pos hrefused, hv]
    exact ⟨_, hexec, counted_epfOut s v _⟩
  · exact congrArg Host.Outcome.next (if_pos (by rw [Bool.or_assoc, hrefused]; simp))

variable (hfree : s.epfContained = false) (hmode : s.mode ≠ modeHalt)
include hfree hmode

/-- The inbound request of the peer window. -/
def peerReq (s : State) (o len : Nat) (tag : Option Nat) (data : Nat) : InReq :=
  { tag := tag, pa := (s.peerTarget o len).2.1, len := len, data := data, via := regEpfWin (s.peerTarget o len).1 }

theorem exec_peerWindowRead_open : ∃ v, exec (.peerWindowRead tag off len) s = .next (if (s.peerTarget off.toNat len.val).2.2 then
    (s.counted v).inboundPut 0 (peerReq s off.toNat len.val (some tag.toNat) 0)
    else ((s.counted v).peerRefused (s.peerTarget off.toNat len.val).1 off.toNat (s.peerTarget off.toNat len.val).2.1).epfOut
      (.completion tag.toNat len.val none)) := by
  obtain ⟨v, hv⟩ := tlpIn_counted s 0 0
  refine ⟨v, ?_⟩
  rw [exec_peerWindowRead, execPeerWindowRead, if_neg (by simp [hopen]), if_neg (by simp [hfree, hmode]), hv]
  rfl

theorem exec_peerWindowWrite_open : ∃ v, exec (.peerWindowWrite off data) s = .next (if (s.peerTarget off.toNat data.length).2.2 then
    (s.counted v).inboundPut 0 (peerReq s off.toNat data.length none (leNat data))
    else (s.counted v).peerRefused (s.peerTarget off.toNat data.length).1 off.toNat (s.peerTarget off.toNat data.length).2.1) := by
  obtain ⟨v, hv⟩ := tlpIn_counted s 0 data.length
  refine ⟨v, ?_⟩
  rw [exec_peerWindowWrite, execPeerWindowWrite, if_neg (by simp [hopen, hfree, hmode]), hv]
  rfl

theorem peerWindowRead_refused (hbad : (s.peerTarget off.toNat len.val).2.2 = false) : Ends (.peerWindowRead tag off len) s (fun u =>
    u.epf.out = s.epf.out ++ [.completion tag.toNat len.val none] ∧ u.sent = s.sent ∧ s.sameMachine u) := by
  obtain ⟨v, hexec⟩ := exec_peerWindowRead_open (tag := tag) (off := off) (len := len) hopen hfree hmode
  rw [hbad, if_neg Bool.false_ne_true] at hexec
  have hl : (s.counted v).logs ((s.counted v).peerRefused (s.peerTarget off.toNat len.val).1 off.toNat (s.peerTarget off.toNat len.val).2.1) :=
    emit_logs ..
  generalize (s.counted v).peerRefused (s.peerTarget off.toNat len.val).1 off.toNat (s.peerTarget off.toNat len.val).2.1 = t at hexec hl
  obtain ⟨w, hw⟩ := epfOut_said t (.completion tag.toNat len.val none)
  rw [hw] at hexec
  exact ⟨_, hexec, congrArg (fun e : Endpoint => e.out ++ [_]) hl.epf, hl.sent, hl.sameMachine⟩

theorem peerWindowWrite_refused (hbad : (s.peerTarget off.toNat data.length).2.2 = false) : Ends (.peerWindowWrite off data) s (fun u =>
    u.sent = s.sent ∧ s.sameMachine u) := by
  obtain ⟨v, hexec⟩ := exec_peerWindowWrite_open (off := off) (data := data) hopen hfree hmode
  rw [hbad, if_neg Bool.false_ne_true] at hexec
  have hl : (s.counted v).logs ((s.counted v).peerRefused (s.peerTarget off.toNat data.length).1 off.toNat (s.peerTarget off.toNat data.length).2.1) :=
    emit_logs ..
  exact ⟨_, hexec, hl.sent, hl.sameMachine⟩

variable (hempty : s.inboundOf 0 = [])
include hempty

omit hfree hmode hempty in
theorem peerOpen_unheld : s.sourcesHeld = false := by
  simp only [State.peerOpen, Bool.and_eq_true, Bool.not_eq_true'] at hopen
  exact hopen.2

theorem peerWindowRead_reads (hfresh : s.port 64 = {}) (hgood : (s.peerTarget off.toNat len.val).2.2 = true) (hlen : 0 < len.val)
    (hline : (s.peerTarget off.toNat len.val).2.1 % 64 + len.val ≤ 64) : Ends (.peerWindowRead tag off len) s (fun u =>
      u.epf.out = s.epf.out ∧ u.inboundOf 0 = [peerReq s off.toNat len.val (some tag.toNat) 0] ∧ s.sameMachine u ∧
      ∃ m, u.sent = s.sent ++ [m] ∧ m.type = .rdS ∧ m.hdr.addr = lineOf (s.peerTarget off.toNat len.val).2.1 ∧ m.hdr.realm = 0) := by
  obtain ⟨v, hexec⟩ := exec_peerWindowRead_open (tag := tag) (off := off) (len := len) hopen hfree hmode
  rw [hgood, if_pos rfl] at hexec
  obtain ⟨ports, inbound, hput, hof⟩ := inboundPut_reads (s := s.counted v) (n := 0) (r := peerReq s off.toNat len.val (some tag.toNat) 0)
    hempty (peerOpen_unheld hopen) hmode hlen hline rfl hfresh
  rw [hput] at hof
  exact ⟨_, hexec.trans (congrArg Host.Outcome.next hput), rfl, hof, ⟨rfl, rfl, rfl⟩, _, rfl, rfl, rfl, rfl⟩

theorem peerWindowWrite_writes (hgood : (s.peerTarget off.toNat data.length).2.2 = true) (hlen : 0 < data.length)
    (hline : (s.peerTarget off.toNat data.length).2.1 % 64 + data.length ≤ 64) : Ends (.peerWindowWrite off data) s (fun u =>
      s.sameMachine u ∧ ∃ m, u.sent = s.sent ++ [m] ∧ m.type = .wrP ∧ m.hdr.addr = lineOf (s.peerTarget off.toNat data.length).2.1 ∧
        m.body = .bytes (putLine 0 ((s.peerTarget off.toNat data.length).2.1 % 64) data.length (leNat data))
          (byteMask ((s.peerTarget off.toNat data.length).2.1 % 64) data.length)) := by
  obtain ⟨v, hexec⟩ := exec_peerWindowWrite_open (off := off) (data := data) hopen hfree hmode
  rw [hgood, if_pos rfl] at hexec
  obtain ⟨ports, inbound, hput⟩ := inboundPut_writes (s := s.counted v) (n := 0) (r := peerReq s off.toNat data.length none (leNat data))
    hempty (peerOpen_unheld hopen) hmode hlen hline rfl rfl
  exact ⟨_, hexec.trans (congrArg Host.Outcome.next hput), ⟨rfl, rfl, rfl⟩, _, rfl, rfl, rfl, rfl⟩

end

theorem windowWrite_none {k : Fin 16} {v : Word} {origin : BitVec 16} (h : s.mode = modeHalt ∨ s.mode ≤ modeStandby) :
    exec (.windowWrite k v origin) s = .next s := congrArg Host.Outcome.next (if_pos h)

theorem windowWrite_due {k : Fin 16} {v : Word} {origin : BitVec 16} (hmode : modeStandby < s.mode) (hhalt : s.mode ≠ modeHalt) (hdue : s.mapDue = []) :
    Ends (.windowWrite k v origin) s (fun u => u.mapDue = [(regEpfWin k.val, winMask v, origin)] ∧
      u.reg (regEpfWin k.val) = s.reg (regEpfWin k.val) ∧ s.sameMachine u) :=
  ⟨_, congrArg Host.Outcome.next (if_neg (fun h => h.elim hhalt (Nat.not_le.2 hmode))), mapWrite_due hdue (epfWin_notes k.val k.isLt) (winMask v)⟩

end

/-! ### Configuration requests (R486 to R488) -/

section
variable {tag dw : BitVec 10} {w : BitVec 32} {s : State}

/-- A write of all bytes stores the value. -/
theorem dwordMerge_all (old new : BitVec 32) : dwordMerge old new 0xf = new := by
  have hmask : (BitVec.ofNat 32 (maskNat (0xf : BitVec 4).toNat 4) : BitVec 32) = BitVec.allOnes 32 := by decide
  unfold dwordMerge
  dsimp only
  rw [hmask, BitVec.not_allOnes, BitVec.and_zero, BitVec.zero_or, BitVec.and_allOnes]

theorem configRequest_absent (h : s.epfPresent = false ∨ s.epfLinked = false ∨ s.fld regEpfStatus 9 8 = 2) :
    exec (.configRequest tag dw none) s = .next s := by
  refine congrArg Host.Outcome.next (if_pos ?_)
  obtain h | h | h := h <;> simp [h]

section
variable (hpresent : s.epfPresent = true) (hlinked : s.epfLinked = true) (hcold : s.fld regEpfStatus 9 8 ≠ 2)
include hpresent hlinked hcold

theorem configRequest_retries (h : s.fld regEpfStatus 10 10 = 0) : Ends (.configRequest tag dw none) s (fun u =>
    u.epf.out = s.epf.out ++ [.retryStatus tag.toNat] ∧ u.sent = s.sent ∧ u.regs = s.regs ∧ s.sameMachine u) := by
  obtain ⟨v, hv⟩ := tlpIn_counted s 0 0
  have hexec : exec (.configRequest tag dw none) s = .next ((s.counted v).epfOut (.retryStatus tag.toNat)) := by
    rw [exec_configRequest, execConfigRequest, if_neg (by simp [hpresent, hlinked, hcold]), if_pos h]
    exact congrArg (fun t : State => Host.Outcome.next (t.epfOut _)) hv
  exact ⟨_, hexec, counted_epfOut s v _⟩

variable (hready : s.fld regEpfStatus 10 10 = 1)
include hready

theorem exec_configRequest_read : ∃ v, exec (.configRequest tag dw none) s = .next (match s.configRead dw.toNat with
    | some v' => (s.counted v).epfOut (.completion tag.toNat 4 (some v'.toNat))
    | none => ((s.counted v).epfOut (.completion tag.toNat 4 (some (s.freeWord.toNat % 2 ^ 32)))).spendFree) := by
  obtain ⟨v, hv⟩ := tlpIn_counted s 0 0
  refine ⟨v, ?_⟩
  rw [exec_configRequest]
  unfold execConfigRequest
  rw [if_neg (by simp [hpresent, hlinked, hcold]), if_neg (by simp [hready])]
  simp only [Option.isSome_none, Bool.false_eq_true, if_false]
  rw [hv]
  rfl

theorem configRequest_reads (h : s.configRead dw.toNat = some w) : Ends (.configRequest tag dw none) s (fun u =>
    u.epf.out = s.epf.out ++ [.completion tag.toNat 4 (some w.toNat)] ∧ u.sent = s.sent ∧ u.regs = s.regs ∧ s.sameMachine u) := by
  obtain ⟨v, hexec⟩ := exec_configRequest_read (tag := tag) (dw := dw) hpresent hlinked hcold hready
  rw [h] at hexec
  exact ⟨_, hexec, counted_epfOut s v _⟩

theorem configRequest_free (h : s.configRead dw.toNat = none) : Ends (.configRequest tag dw none) s (fun u =>
    u.epf.out = s.epf.out ++ [.completion tag.toNat 4 (some (s.freeWord.toNat % 2 ^ 32))] ∧ u.sent = s.sent ∧ u.regs = s.regs ∧ s.sameMachine u) := by
  obtain ⟨v, hexec⟩ := exec_configRequest_read (tag := tag) (dw := dw) hpresent hlinked hcold hready
  rw [h] at hexec
  exact ⟨_, hexec, counted_epfOut s v (.completion tag.toNat 4 (some (s.freeWord.toNat % 2 ^ 32)))⟩

theorem configRequest_writesBar : Ends (.configRequest tag 5 (some (0xf, w))) s (fun u =>
      u.epf.out = s.epf.out ++ [.completion tag.toNat 0 (some 0)] ∧ u.sent = s.sent ∧ u.regs = s.regs ∧ s.sameMachine u) ∧
    Ends (.configRequest tag 5 (some (0xf, w))) s (fun u => u.configRead 5 = some w) := by
  obtain ⟨v, hv⟩ := tlpIn_counted s 0 4
  have hwrite : (s.counted v).configWrite 5 0xf w = (s.counted v).modEpf (fun e => { e with config := Tbl.set e.config 5 w }) := by
    unfold State.configWrite
    rw [dwordMerge_all]
    rfl
  obtain ⟨x, hx⟩ := epfOut_said ((s.counted v).modEpf (fun e => { e with config := Tbl.set e.config 5 w })) (.completion tag.toNat 0 (some 0))
  have hexec : exec (.configRequest tag 5 (some (0xf, w))) s =
      .next (((s.counted v).modEpf (fun e => { e with config := Tbl.set e.config 5 w })).said (.completion tag.toNat 0 (some 0)) x) := by
    rw [exec_configRequest]
    unfold execConfigRequest
    rw [if_neg (by simp [hpresent, hlinked, hcold]), if_neg (by simp [hready])]
    simp only [Option.isSome_some, if_true]
    rw [hv, show (5 : BitVec 10).toNat = 5 from rfl, hwrite, hx]
  refine ⟨⟨_, hexec, rfl, rfl, rfl, rfl, rfl, rfl⟩, _, hexec, ?_⟩
  exact congrArg some ((Tbl_get_set ..).trans (if_pos rfl))

end

end

/-! ### Bus mastering (R513) -/

theorem epfPresent_servesHost {s : State} (h : s.epfPresent = true) : s.servesHost = true := by
  simp only [State.epfPresent, Bool.and_eq_true] at h
  exact h.1

/-- Bus Master Enable is cleared. -/
def State.unmastered (s : State) : State :=
  s.modEpf (fun e => { e with bme := false, config := Tbl.set e.config 1 (Tbl.get 0 e.config 1 &&& ~~~4) })

/-- Bus Master Enable is set. -/
def State.mastered (s : State) : State :=
  s.modEpf (fun e => { e with bme := true, nextPoll := s.clause, config := Tbl.set e.config 1 (Tbl.get 0 e.config 1 ||| 4) })

/-- The command of a read that is abandoned, its CMDID unknown. -/
def State.abandonedCmd (s : State) (r : HostRead) : Command :=
  { cmdid := BitVec.ofNat 32 s.freeWord.toNat, ring := r.ring, index := r.index, gen := s.epf.gen }

/-- A read is abandoned; its command's completion is still to come. -/
def State.abandoned (s : State) (r : HostRead) : State :=
  ((s.spendFree.setFld (regEpfCring1 r.ring) 63 32 (r.index + 1)).addFld regEpfStatus 40 32 1).modEpf
    (fun e => { e with reads := e.reads.erase r, late := e.late ++ [r] })

theorem reg_modEpf (s : State) (f : Endpoint → Endpoint) (off : Nat) : (s.modEpf f).reg off = s.reg off := rfl

theorem abandoned_reg {s : State} {r : HostRead} {off : Nat} (hring : off ≠ regEpfCring1 r.ring) (hstatus : off ≠ regEpfStatus) :
    (s.abandoned r).reg off = s.reg off := by
  rw [State.abandoned, reg_modEpf, reg_addFld_ne _ _ _ _ _ _ hstatus, reg_setFld_ne _ _ _ _ _ _ hring]
  rfl

theorem abandoned_servesHost {s : State} {r : HostRead} (hring : r.ring < 64) : (s.abandoned r).servesHost = s.servesHost :=
  servesHost_congr (abandoned_reg (by unfold regTrlImage regEpfCring1; omega) (by decide))
    (abandoned_reg (by unfold regClkStatus regEpfCring1; omega) (by decide))
    (abandoned_reg (by unfold regGlbIdent regEpfCring1; omega) (by decide)) rfl

section
variable {r : HostRead} {s : State}

theorem stopMaster_idle (h : s.epf.reads = []) : s.stopMaster = (s.unmastered, 0) := by
  unfold State.stopMaster
  rw [h]
  rfl

theorem stopMaster_abandons (h : s.epf.reads = [r]) :
    s.stopMaster = (((s.abandoned r).complete (s.abandonedCmd r) stAborted 0 0).unmastered, 1) := by
  unfold State.stopMaster
  rw [h]
  rfl

theorem busMasterEnable_enables (hpresent : s.epfPresent = true) (h : s.epf.bme = false) (hdue : s.epf.resetDue = none) :
    Ends .busMasterEnable s (fun u => u.epf.bme = true ∧ u.epf.nextPoll = s.clause ∧ s.sameMachine u) := by
  have hexec : exec .busMasterEnable s = .next (s.mastered.noticeResume.issueReads 256) :=
    congrArg Host.Outcome.next (if_pos (by simp [hpresent, h, hdue]))
  have ht := talks_trans (noticeResume_talks s.mastered) (issueReads_talks _ 256)
  exact ⟨_, hexec, ht.quiet Endpoint.bme, ht.quiet Endpoint.nextPoll, ht.sameMachine⟩

theorem busMasterEnable_enabled (h : s.epf.bme = true) : exec .busMasterEnable s = .next s := congrArg Host.Outcome.next (if_neg (by simp [h]))

theorem busMasterDisable_disabled (h : s.epf.bme = false) : exec .busMasterDisable s = .next s := congrArg Host.Outcome.next (if_neg (by simp [h]))

theorem busMasterDisable_aborts (hpresent : s.epfPresent = true) (hbme : s.epf.bme = true) (h : s.epf.reads = [r]) (hring : r.ring < 64) :
    Ends .busMasterDisable s (fun u => u.epf.bme = false ∧ u.epf.reads = [] ∧ u.epf.late = s.epf.late ++ [r] ∧ s.sameMachine u ∧
      u.completions = s.completions ++ [{ cmd := s.abandonedCmd r, status := stAborted }]) := by
  have hserves : (s.abandoned r).servesHost = true := (abandoned_servesHost hring).trans (epfPresent_servesHost hpresent)
  have hn := complete_notes hserves (show (s.abandonedCmd r).gen = (s.abandoned r).epf.gen from rfl) stAborted 0 0
  generalize hw : (s.abandoned r).complete (s.abandonedCmd r) stAborted 0 0 = w at hn
  have hl := emit_logs w.unmastered 12 84 0xB003 0 [1]
  have hexec : exec .busMasterDisable s = .next (w.unmastered.emit 12 84 0xB003 0 [1]) := by
    rw [exec_busMasterDisable, execBusMasterDisable, State.busMasterOff, if_pos (by simp [hpresent, hbme]), stopMaster_abandons h, hw]
  have hepf : w.epf = (s.abandoned r).epf := hn.epf
  have hreads : w.epf.reads = [] := by
    rw [hepf]
    change s.epf.reads.erase r = []
    simp [h]
  have hlate : w.epf.late = s.epf.late ++ [r] := congrArg Endpoint.late hepf
  have hdone : w.completions = s.completions ++ [{ cmd := s.abandonedCmd r, status := stAborted }] := hn.unnoted State.completions
  exact ⟨_, hexec, congrArg Endpoint.bme hl.epf, (congrArg Endpoint.reads hl.epf).trans hreads, (congrArg Endpoint.late hl.epf).trans hlate,
    sameMachine_trans (b := w) hn.sameMachine hl.sameMachine, hl.completions.trans hdone⟩

end

/-! ### Resets of the function (R513) -/

/-- Completions are undelivered: what their records and the count of outstanding commands may write. -/
def State.drops (s u : State) : Prop := u.unlogged = s.unlogged ∧ (∀ off, off ∉ noteRegs → off ≠ regEpfStatus → u.reg off = s.reg off) ∧
  ∀ hi lo, hi < 32 → lo ≤ hi → u.fld regEpfStatus hi lo = s.fld regEpfStatus hi lo

theorem drops_trans {a b c : State} (h : a.drops b) (k : b.drops c) : a.drops c := by
  obtain ⟨hrest, hregs, hstatus⟩ := h
  obtain ⟨krest, kregs, kstatus⟩ := k
  exact ⟨krest.trans hrest, fun off ho hs => (kregs off ho hs).trans (hregs off ho hs),
    fun hi lo hhi hlo => (kstatus hi lo hhi hlo).trans (hstatus hi lo hhi hlo)⟩

theorem State.drops.unlogged {s u : State} (h : s.drops u) {α : Type} (f : State → α) : f u.unlogged = f s.unlogged := congrArg f h.1

theorem State.logs.drops {s u : State} (h : s.logs u) : s.drops u := ⟨h.1, fun off ho _ => h.regs off ho, fun hi lo _ _ => h.regs.fld epfStatus_notes hi lo⟩

theorem notOutstanding_drops (s : State) : s.drops s.notOutstanding :=
  ⟨rfl, fun _ _ hs => reg_setFld_ne _ _ _ _ _ _ hs, fun _ _ hhi hlo => fld_setFld_same _ _ _ _ _ _ _ (.inl hhi) (by decide) hlo⟩

theorem dropCompletions_drops (s : State) (l : List Completion) : s.drops (s.dropCompletions l) := by
  induction l generalizing s with
  | nil => exact (logs_refl s).drops
  | cons x l ih =>
    have he := (emit_logs s 12 84 0xB004 0 [x.cmd.cmdid.toNat, x.status, x.cmd.ring]).drops
    rw [State.dropCompletions]
    refine drops_trans ?_ (ih _)
    split
    · exact drops_trans he (notOutstanding_drops _)
    · exact he

/-- Registers that take their reset values, and no others, change. -/
theorem resetRegs_reg (s : State) (l : List Nat) (off : Nat) : (s.resetRegs l).reg off = if off ∈ l then regInit off else s.reg off := by
  induction l generalizing s with
  | nil => rfl
  | cons o l ih =>
    rw [State.resetRegs, ih, reg_setReg]
    by_cases h : off = o
    · simp [h]
    · simp [h]

theorem resetRegs_regs (s : State) (l : List Nat) : ∃ regs, s.resetRegs l = { s with regs := regs } := by
  induction l generalizing s with
  | nil => exact ⟨s.regs, rfl⟩
  | cons o l ih => exact ih (s.setReg o (regInit o))

theorem epfWin_resets {j : Nat} (h : j < 16) : regEpfWin j ∈ epfResetRegs := by
  have hj : regEpfWin j ∈ (upTo 16).map regEpfWin := List.mem_map_of_mem (List.mem_range.2 h)
  simp [epfResetRegs, hj]

theorem epfCring1_resets {j : Nat} (h : j < 64) : regEpfCring1 j ∈ epfResetRegs := by
  have hj : regEpfCring1 j ∈ (upTo 64).map regEpfCring1 := List.mem_map_of_mem (List.mem_range.2 h)
  simp [epfResetRegs, hj]

/-- Registers of a reset of the function lie above the status of the endpoint. -/
theorem epfResetRegs_above {off : Nat} (h : off ∈ epfResetRegs) : regEpfStatus < off := by
  simp only [epfResetRegs, List.mem_cons, List.mem_append, List.mem_map, regEpfDbpage, regEpfWin, regEpfCring0, regEpfCring1, regEpfPring0,
    regEpfPring1] at h
  unfold regEpfStatus
  omega

/-- The ring, window and DBPAGE registers and the function's own state are reset. -/
def State.resetEpf (s : State) : State :=
  (s.resetRegs epfResetRegs).modEpf (fun e => { e with config := [], msix := [], msixPending := [], doorbells := [], nextPoll := 0, gen := e.gen + 1,
                                                       nextRing := 0, resetDue := none })

/-- The status after a reset: ready when the link is up, in D0 unless it was D3cold. -/
def State.resetStatus (s : State) : State :=
  let s := s.setFld regEpfStatus 10 10 (b2n (s.epfLinked && decide (modeSealed ≤ s.mode)))
  if s.fld regEpfStatus 9 8 = 2 then s else s.setFld regEpfStatus 9 8 0

theorem resetEpf_reg (s : State) (off : Nat) : s.resetEpf.reg off = if off ∈ epfResetRegs then regInit off else s.reg off := by
  rw [State.resetEpf, reg_modEpf, resetRegs_reg]

theorem resetEpf_low {s : State} {off : Nat} (h : off ≤ regEpfStatus) : s.resetEpf.reg off = s.reg off :=
  (resetEpf_reg s off).trans (if_neg (fun hmem => Nat.not_lt.2 h (epfResetRegs_above hmem)))

theorem resetEpf_epf (s : State) : s.resetEpf.epf = { s.epf with config := [], msix := [], msixPending := [], doorbells := [], nextPoll := 0,
                                                                 gen := s.epf.gen + 1, nextRing := 0, resetDue := none } ∧
    s.resetEpf.completions = s.completions ∧ s.sameMachine s.resetEpf := by
  obtain ⟨regs, h⟩ := resetRegs_regs s epfResetRegs
  unfold State.resetEpf
  rw [h]
  exact ⟨rfl, rfl, rfl, rfl, rfl⟩

theorem resetStatus_keeps (s : State) : s.resetStatus.epf = s.epf ∧ s.resetStatus.completions = s.completions ∧ s.sameMachine s.resetStatus := by
  unfold State.resetStatus
  dsimp only
  split
  · exact ⟨rfl, rfl, rfl, rfl, rfl⟩
  · exact ⟨rfl, rfl, rfl, rfl, rfl⟩

theorem resetStatus_reg {s : State} {off : Nat} (h : off ≠ regEpfStatus) : s.resetStatus.reg off = s.reg off := by
  unfold State.resetStatus
  dsimp only
  split
  · exact reg_setFld_ne _ _ _ _ _ _ h
  · exact (reg_setFld_ne _ _ _ _ _ _ h).trans (reg_setFld_ne _ _ _ _ _ _ h)

theorem resetStatus_ready (s : State) : s.resetStatus.fld regEpfStatus 10 10 = b2n (s.epfLinked && decide (modeSealed ≤ s.mode)) := by
  have hset : (s.setFld regEpfStatus 10 10 (b2n (s.epfLinked && decide (modeSealed ≤ s.mode)))).fld regEpfStatus 10 10 =
      b2n (s.epfLinked && decide (modeSealed ≤ s.mode)) := by
    rw [fld_setFld _ _ _ _ _ (by decide) (by decide)]
    exact Nat.mod_eq_of_lt (by unfold b2n; split <;> decide)
  unfold State.resetStatus
  dsimp only
  split
  · exact hset
  · exact (fld_setFld_same _ _ _ _ _ _ _ (by decide) (by decide) (by decide)).trans hset

theorem resetStatus_link {s : State} {hi lo : Nat} (hhi : hi < 8) (hlo : lo ≤ hi) : s.resetStatus.fld regEpfStatus hi lo = s.fld regEpfStatus hi lo := by
  have hset (v : Nat) : (s.setFld regEpfStatus 10 10 v).fld regEpfStatus hi lo = s.fld regEpfStatus hi lo :=
    fld_setFld_same _ _ _ _ _ _ _ (.inl (by omega)) (by decide) hlo
  unfold State.resetStatus
  dsimp only
  split
  · exact hset _
  · exact (fld_setFld_same _ _ _ _ _ _ _ (.inl hhi) (by decide) hlo).trans (hset _)

/-- The reset of the function is done and recorded. -/
def State.resetDone (s : State) (kind aborted : Nat) : State := s.resetEpf.resetStatus.emit 12 84 0xB002 0 [kind, aborted]

section
variable (s : State) (kind aborted : Nat)

theorem resetDone_epf : (s.resetDone kind aborted).epf = { s.epf with config := [], msix := [], msixPending := [], doorbells := [], nextPoll := 0,
                                                                      gen := s.epf.gen + 1, nextRing := 0, resetDue := none } ∧
    (s.resetDone kind aborted).completions = s.completions ∧ s.sameMachine (s.resetDone kind aborted) := by
  obtain ⟨hepf, hdone, hsame⟩ := resetEpf_epf s
  obtain ⟨kepf, kdone, ksame⟩ := resetStatus_keeps s.resetEpf
  have hl := emit_logs s.resetEpf.resetStatus 12 84 0xB002 0 [kind, aborted]
  exact ⟨hl.epf.trans (kepf.trans hepf), hl.completions.trans (kdone.trans hdone), sameMachine_trans hsame (sameMachine_trans ksame hl.sameMachine)⟩

theorem resetDone_reg {off : Nat} (hmem : off ∈ epfResetRegs) (hoff : off ∉ noteRegs) : (s.resetDone kind aborted).reg off = regInit off := by
  rw [State.resetDone, (emit_logs ..).regs off hoff, resetStatus_reg (Nat.ne_of_gt (epfResetRegs_above hmem)), resetEpf_reg, if_pos hmem]

theorem resetDone_ready : (s.resetDone kind aborted).fld regEpfStatus 10 10 = b2n (s.epfLinked && decide (modeSealed ≤ s.mode)) := by
  have hlinked : s.resetEpf.epfLinked = s.epfLinked := by rw [State.epfLinked, State.epfLinked, State.fld, resetEpf_low (Nat.le_refl _), State.fld]
  have hmode : s.resetEpf.mode = s.mode := by rw [State.mode, State.mode, State.fld, resetEpf_low (by decide), State.fld]
  rw [State.resetDone, (emit_logs ..).regs.fld epfStatus_notes, resetStatus_ready, hlinked, hmode]

theorem resetDone_link : (s.resetDone kind aborted).fld regEpfStatus 7 4 = s.fld regEpfStatus 7 4 := by
  rw [State.resetDone, (emit_logs ..).regs.fld epfStatus_notes, resetStatus_link (by decide) (by decide), State.fld, resetEpf_low (Nat.le_refl _),
    State.fld]

end

/-- What a reset of the function leaves (R513). -/
def State.resets (s u : State) : Prop := u.epf.bme = false ∧ u.epf.gen = s.epf.gen + 1 ∧ u.completions = [] ∧ u.epf.msix = [] ∧ u.epf.doorbells = [] ∧
  (∀ j, j < 64 → u.reg (regEpfCring1 j) = regInit (regEpfCring1 j)) ∧ (∀ j, j < 16 → u.reg (regEpfWin j) = regInit (regEpfWin j)) ∧ s.sameMachine u

/-- No completion is left, and no write of a window register is due. -/
def State.emptied (s : State) : State :=
  { s with completions := [], mapDue := s.mapDue.filter (fun d => decide (d.1 < regEpfWin 0 ∨ regEpfWin 16 ≤ d.1)) }

theorem finishReset_eq (s : State) (kind aborted : Nat) :
    s.finishReset kind aborted = (s.emptied.dropCompletions s.completions).resetDone kind aborted := rfl

theorem finishReset_spec {s : State} (hbme : s.epf.bme = false) (kind aborted : Nat) : let u := s.finishReset kind aborted
    s.resets u ∧ u.fld regEpfStatus 10 10 = b2n (s.epfLinked && decide (modeSealed ≤ s.mode)) ∧ u.fld regEpfStatus 7 4 = s.fld regEpfStatus 7 4 ∧
      u.epf.bar2Log = s.epf.bar2Log := by
  intro u
  have hu : u = _ := finishReset_eq s kind aborted
  have hdrops := dropCompletions_drops s.emptied s.completions
  clear_value u
  generalize s.emptied.dropCompletions s.completions = t at hdrops hu
  obtain ⟨-, kregs, kstatus⟩ := id hdrops
  have tstatus : t.fld regEpfStatus 7 4 = s.fld regEpfStatus 7 4 := kstatus 7 4 (by decide) (by decide)
  have tmode : t.mode = s.mode := congrArg (bits · 3 0) (kregs regGlbMode (by decide) (by decide))
  have tlinked : t.epfLinked = s.epfLinked := congrArg (fun n => decide (n ≠ 0)) tstatus
  have tepf : t.epf = s.epf := hdrops.unlogged State.epf
  have tsame : s.sameMachine t := ⟨hdrops.unlogged State.mem, hdrops.unlogged State.threads, hdrops.unlogged State.cores⟩
  obtain ⟨hepf, hdone, hsame⟩ := resetDone_epf t kind aborted
  rw [tepf, ← hu] at hepf
  rw [← hu] at hdone hsame
  refine ⟨⟨?_, ?_, hdone.trans (hdrops.unlogged State.completions), ?_, ?_, fun j hj => ?_, fun j hj => ?_, sameMachine_trans tsame hsame⟩, ?_, ?_, ?_⟩
  · rw [hepf]
    exact hbme
  · rw [hepf]
  · rw [hepf]
  · rw [hepf]
  · rw [hu]
    exact resetDone_reg t kind aborted (epfCring1_resets hj) (epfCring1_notes j)
  · rw [hu]
    exact resetDone_reg t kind aborted (epfWin_resets hj) (epfWin_notes j hj)
  · rw [hu, resetDone_ready, tlinked, tmode]
  · rw [hu, resetDone_link, tstatus]
  · rw [hepf]

section
variable {r : HostRead} {hot : Bool} {s : State}

theorem beginReset_resets (h : s.epf.reads = []) (hlate : s.epf.late = []) (kind : Nat) : s.beginReset kind =
    (s.unmastered.setFld regEpfStatus 10 10 0).finishReset kind 0 := by
  unfold State.beginReset
  rw [stopMaster_idle h]
  exact if_pos (by change s.epf.late.isEmpty = true; rw [hlate]; rfl)

theorem beginReset_waits (h : s.epf.reads = []) (hlate : s.epf.late = [r]) (kind : Nat) : s.beginReset kind =
    (s.unmastered.setFld regEpfStatus 10 10 0).modEpf (fun e => { e with resetDue := some (kind, 0) }) := by
  unfold State.beginReset
  rw [stopMaster_idle h]
  exact if_neg (by change ¬s.epf.late.isEmpty = true; rw [hlate]; exact Bool.false_ne_true)

/-- A reset with no read outstanding is done at once. -/
theorem beginReset_spec (h : s.epf.reads = []) (hlate : s.epf.late = []) (kind : Nat) : let u := s.beginReset kind
    s.resets u ∧ u.fld regEpfStatus 10 10 = b2n (s.epfLinked && decide (modeSealed ≤ s.mode)) ∧
      u.fld regEpfStatus 7 4 = s.fld regEpfStatus 7 4 ∧ u.epf.bar2Log = s.epf.bar2Log := by
  intro u
  obtain ⟨hresets, hready, hlink, hlog⟩ := finishReset_spec (s := s.unmastered.setFld regEpfStatus 10 10 0) rfl kind 0
  rw [show u = _ from beginReset_resets h hlate kind]
  have hstatus : (s.unmastered.setFld regEpfStatus 10 10 0).fld regEpfStatus 7 4 = s.fld regEpfStatus 7 4 :=
    fld_setFld_same _ _ _ _ _ _ _ (by decide) (by decide) (by decide)
  have hmode : (s.unmastered.setFld regEpfStatus 10 10 0).mode = s.mode := congrArg (bits · 3 0) (reg_setFld_ne _ _ _ _ _ _ (by decide))
  refine ⟨hresets, ?_, hlink.trans hstatus, hlog⟩
  rw [hready, hmode, State.epfLinked, State.epfLinked, hstatus]

theorem functionLevelReset_absent (h : s.epfPresent = false) : exec .functionLevelReset s = .next s ∧ exec (.perstN hot) s = .next s ∧
    exec (.dStateChange 3) s = .next s :=
  ⟨congrArg Host.Outcome.next (if_neg (by simp [h])), congrArg Host.Outcome.next (if_neg (by simp [h])),
    congrArg Host.Outcome.next (if_neg (by simp [h]))⟩

section
variable (hpresent : s.epfPresent = true) (hdue : s.epf.resetDue = none) (h : s.epf.reads = [])
include hpresent hdue h

theorem functionLevelReset_resets (hlate : s.epf.late = []) : Ends .functionLevelReset s (fun u => s.resets u ∧
    u.fld regEpfStatus 10 10 = b2n (s.epfLinked && decide (modeSealed ≤ s.mode))) := by
  obtain ⟨hresets, hready, -, -⟩ := beginReset_spec h hlate 3
  exact ⟨_, congrArg Host.Outcome.next (if_pos (by simp [hpresent, hdue])), hresets, hready⟩

theorem functionLevelReset_waits (hlate : s.epf.late = [r]) : Ends .functionLevelReset s (fun u => u.epf.bme = false ∧
    u.epf.resetDue = some (3, 0) ∧ u.epf.gen = s.epf.gen ∧ u.fld regEpfStatus 10 10 = 0 ∧ u.completions = s.completions ∧ s.sameMachine u) := by
  have hexec : exec .functionLevelReset s = .next (s.beginReset 3) := congrArg Host.Outcome.next (if_pos (by simp [hpresent, hdue]))
  rw [beginReset_waits h hlate] at hexec
  exact ⟨_, hexec, rfl, rfl, rfl, fld_setFld _ _ _ _ _ (by decide) (by decide), rfl, rfl, rfl, rfl⟩

/-- The link is down; PERST_N makes LOG of BAR2CFG take effect. -/
def State.unlinked (s : State) (hot : Bool) : State :=
  let s := (s.setFld regEpfStatus 7 4 0).setFld regEpfStatus 3 0 0
  if hot then s else s.modEpf (fun e => { e with bar2Log := s.fld regEpfBar2cfg 5 0 })

omit hpresent hdue h in
theorem unlinked_spec (s : State) (hot : Bool) : (s.unlinked hot).fld regEpfStatus 7 4 = 0 ∧ s.sameMachine (s.unlinked hot) ∧
    (s.unlinked hot).epf = { s.epf with bar2Log := if hot then s.epf.bar2Log else s.fld regEpfBar2cfg 5 0 } := by
  have hlink : ((s.setFld regEpfStatus 7 4 0).setFld regEpfStatus 3 0 0).fld regEpfStatus 7 4 = 0 :=
    (fld_setFld_same _ _ _ _ _ _ _ (by decide) (by decide) (by decide)).trans (fld_setFld _ _ _ _ _ (by decide) (by decide))
  have hlog : ((s.setFld regEpfStatus 7 4 0).setFld regEpfStatus 3 0 0).fld regEpfBar2cfg 5 0 = s.fld regEpfBar2cfg 5 0 := by
    rw [State.fld, reg_setFld_ne _ _ _ _ _ _ (by decide), reg_setFld_ne _ _ _ _ _ _ (by decide), State.fld]
  cases hot with
  | true => exact ⟨hlink, ⟨rfl, rfl, rfl⟩, rfl⟩
  | false => exact ⟨hlink, ⟨rfl, rfl, rfl⟩, congrArg (fun n => { s.epf with bar2Log := n }) hlog⟩

theorem perstN_resets (hlate : s.epf.late = []) : Ends (.perstN hot) s (fun u => s.resets u ∧ u.fld regEpfStatus 7 4 = 0 ∧
    u.fld regEpfStatus 10 10 = 0 ∧ u.epf.bar2Log = (if hot then s.epf.bar2Log else s.fld regEpfBar2cfg 5 0)) := by
  obtain ⟨hlink, hsame, hepf⟩ := unlinked_spec s hot
  have hexec : exec (.perstN hot) s = .next ((s.unlinked hot).beginReset (if hot then 2 else 1)) := by
    rw [exec_perstN, execPerstN, if_pos hpresent]
    exact congrArg Host.Outcome.next (if_pos (by change (s.unlinked hot).epf.resetDue.isNone = true; rw [hepf]; simp [hdue]))
  obtain ⟨⟨hbme, hgen, hdone, hmsix, hbells, hrings, hwins, hmachine⟩, hready, hdown, hlog⟩ := beginReset_spec (s := s.unlinked hot)
    (by rw [hepf]; exact h) (by rw [hepf]; exact hlate) (if hot then 2 else 1)
  refine ⟨_, hexec, ⟨hbme, ?_, hdone, hmsix, hbells, hrings, hwins, sameMachine_trans hsame hmachine⟩, hdown.trans hlink, ?_, ?_⟩
  · rw [hgen, hepf]
  · rw [hready, State.epfLinked, hlink]
    rfl
  · rw [hlog, hepf]

end

/-! ### Power states (R514) -/

theorem dStateChange_none : exec (.dStateChange 1) s = .next s := congrArg Host.Outcome.next (if_neg (by simp))

section
variable (hpresent : s.epfPresent = true)
include hpresent

theorem dStateChange_sleeps : Ends (.dStateChange 3) s (fun u => u.fld regEpfStatus 9 8 = 3 ∧ u.completions = s.completions ∧ s.sameMachine u) := by
  have ht := wakeTick_talks (s.setFld regEpfStatus 9 8 3)
  have hexec : exec (.dStateChange 3) s = .next (s.setFld regEpfStatus 9 8 3).wakeTick := by
    rw [exec_dStateChange, execDStateChange, if_pos (by simp [hpresent])]
    exact congrArg Host.Outcome.next (if_neg (by decide))
  exact ⟨_, hexec, (ht.fld _ _ _).trans (fld_setFld _ _ _ _ _ (by decide) (by decide)), ht.completions, ht.sameMachine⟩

/-- The function has returned to D0. -/
def State.woken (s : State) : State :=
  (s.setFld regEpfStatus 9 8 0).modEpf (fun e => { e with pmeSent := false, hostRec := false, wakeN := false, nextPoll := s.clause })

theorem dStateChange_wakes : Ends (.dStateChange 0) s (fun u => u.fld regEpfStatus 9 8 = 0 ∧ u.epf.nextPoll = s.clause ∧
    u.completions = s.completions ∧ s.sameMachine u) := by
  have ht := talks_trans (noticeResume_talks s.woken) (issueReads_talks _ 256)
  have hexec : exec (.dStateChange 0) s = .next (s.woken.noticeResume.issueReads 256) := by
    rw [exec_dStateChange, execDStateChange, if_pos (by simp [hpresent])]
    exact congrArg Host.Outcome.next (if_pos rfl)
  exact ⟨_, hexec, (ht.fld _ _ _).trans (fld_setFld _ _ _ _ _ (by decide) (by decide)), ht.quiet Endpoint.nextPoll, ht.completions, ht.sameMachine⟩

end

/-! ### Containment (R515, R516, R486) -/

/-- The function as containment leaves it, before its record. -/
def State.abandoning (s : State) (cause : Nat) : State :=
  ((s.setFld regEpfStatus 15 12 cause).setFld regEpfStatus 11 11 1).modEpf
    (fun e => { e with containedAt := s.clause, reads := [], late := e.late ++ e.reads })

/-- A function that is contained: its reads are abandoned, and the cause stands. -/
theorem epfContain_abandons (h : s.epfContained = false) (cause : Nat) : let u := s.epfContain cause
    u.epfContained = true ∧ u.fld regEpfStatus 15 12 = cause % 16 ∧ u.fld regEpfStatus 7 4 = s.fld regEpfStatus 7 4 ∧ u.epf.reads = [] ∧
      u.epf.late = s.epf.late ++ s.epf.reads ∧ u.epf.aer = s.epf.aer ∧ s.sameMachine u := by
  have hfree : ¬s.fld regEpfStatus 11 11 = 1 := of_decide_eq_false h
  obtain ⟨hcontained, -, hsame, -, -⟩ := epfContain_spec s cause
  have hu : s.epfContain cause = (s.abandoning cause).emit 12 84 0xB000 0 [cause, s.epf.aer.toNat] := if_neg hfree
  have hl := emit_logs (s.abandoning cause) 12 84 0xB000 0 [cause, s.epf.aer.toNat]
  rw [← hu] at hl
  refine ⟨hcontained, (hl.regs.fld epfStatus_notes _ _).trans ?_, (hl.regs.fld epfStatus_notes _ _).trans ?_, (congrArg Endpoint.reads hl.epf :),
    (congrArg Endpoint.late hl.epf :), (congrArg Endpoint.aer hl.epf :), hsame⟩
  · exact (fld_setFld_same _ _ _ _ _ _ _ (by decide) (by decide) (by decide)).trans (fld_setFld _ _ _ _ _ (by decide) (by decide))
  · exact (fld_setFld_same _ _ _ _ _ _ _ (by decide) (by decide) (by decide)).trans
      (fld_setFld_same _ _ _ _ _ _ _ (by decide) (by decide) (by decide))

section
variable {aer : BitVec 32} (hpresent : s.epfPresent = true)
include hpresent

section
variable (h : s.epfContained = false)
include h

/-- The link has gone down with errors. -/
def State.lostLink (s : State) (aer : BitVec 32) : State :=
  ((s.modEpf (fun e => { e with aer := e.aer ||| aer })).setFld regEpfStatus 7 4 0).setFld regEpfStatus 3 0 0

theorem epfContained_linkDown : Ends (.epfContained true aer) s (fun u => u.epfContained = true ∧ u.fld regEpfStatus 15 12 = 1 ∧
    u.fld regEpfStatus 7 4 = 0 ∧ u.epf.reads = [] ∧ u.epf.late = s.epf.late ++ s.epf.reads ∧ u.epf.aer = s.epf.aer ||| aer ∧ s.sameMachine u) := by
  have hlink : (s.lostLink aer).fld regEpfStatus 7 4 = 0 :=
    (fld_setFld_same _ _ _ _ _ _ _ (by decide) (by decide) (by decide)).trans (fld_setFld _ _ _ _ _ (by decide) (by decide))
  have hfree : (s.lostLink aer).epfContained = false := by
    refine Eq.trans (congrArg (fun n => decide (n = 1)) ?_) h
    exact (fld_setFld_same _ _ _ _ _ _ _ (by decide) (by decide) (by decide)).trans
      (fld_setFld_same _ _ _ _ _ _ _ (by decide) (by decide) (by decide))
  obtain ⟨hcontained, hcause, hdown, hreads, hlate, haer, hsame⟩ := epfContain_abandons hfree 1
  have hexec : exec (.epfContained true aer) s = .next ((s.lostLink aer).epfContain 1) := by
    rw [exec_epfContained, execEpfContained, if_pos hpresent]
    rfl
  exact ⟨_, hexec, hcontained, hcause, hdown.trans hlink, hreads, hlate, haer, hsame⟩

theorem epfContained_errors (haer : aer ≠ 0) : Ends (.epfContained false aer) s (fun u => u.epfContained = true ∧
    u.fld regEpfStatus 15 12 = 2 ∧ u.epf.reads = [] ∧ s.sameMachine u) := by
  obtain ⟨hcontained, hcause, -, hreads, -, -, hsame⟩ := epfContain_abandons (s := s.modEpf (fun e => { e with aer := e.aer ||| aer })) h 2
  have hexec : exec (.epfContained false aer) s = .next ((s.modEpf (fun e => { e with aer := e.aer ||| aer })).epfContain 2) := by
    rw [exec_epfContained, execEpfContained, if_pos hpresent]
    exact congrArg Host.Outcome.next (if_neg haer)
  exact ⟨_, hexec, hcontained, hcause, hreads, hsame⟩

end

/-- The containment has ended. -/
def State.epfReleased (s : State) : State :=
  ((s.setFld regEpfStatus 11 11 0).setFld regEpfStatus 15 12 0).modEpf (fun e => { e with nextPoll := s.clause })

omit hpresent in
theorem epfReleased_fields (s : State) : s.epfReleased.fld regEpfStatus 11 11 = 0 ∧ s.epfReleased.fld regEpfStatus 15 12 = 0 :=
  ⟨(fld_setFld_same _ _ _ _ _ _ _ (by decide) (by decide) (by decide)).trans (fld_setFld _ _ _ _ _ (by decide) (by decide)),
    fld_setFld _ _ _ _ _ (by decide) (by decide)⟩

theorem containmentRelease_releases (hcontained : s.epfContained = true) (hlinked : s.epfLinked = true) (haer : s.epf.aer = 0) :
    Ends .containmentRelease s (fun u => u.epfContained = false ∧ u.fld regEpfStatus 15 12 = 0 ∧ u.epf.nextPoll = s.clause ∧ s.sameMachine u) := by
  have ht := talks_trans (noticeResume_talks s.epfReleased) (issueReads_talks _ 256)
  have hexec : exec .containmentRelease s = .next ((s.epfReleased.noticeResume.issueReads 256).emit 12 84 0xB001 0
      [(s.clause.toNat - s.epf.containedAt.toNat) % 2 ^ 32]) :=
    congrArg Host.Outcome.next (if_pos (by simp [hpresent, hcontained, hlinked, haer]))
  generalize s.epfReleased.noticeResume.issueReads 256 = w at ht hexec
  have hl := emit_logs w 12 84 0xB001 0 [(s.clause.toNat - s.epf.containedAt.toNat) % 2 ^ 32]
  obtain ⟨hfree, hcause⟩ := epfReleased_fields s
  have hfld (hi lo : Nat) : (w.emit 12 84 0xB001 0 [(s.clause.toNat - s.epf.containedAt.toNat) % 2 ^ 32]).fld regEpfStatus hi lo =
      s.epfReleased.fld regEpfStatus hi lo := (hl.regs.fld epfStatus_notes hi lo).trans (ht.fld _ hi lo)
  refine ⟨_, hexec, ?_, (hfld 15 12).trans hcause, (congrArg Endpoint.nextPoll hl.epf).trans (ht.quiet Endpoint.nextPoll),
    sameMachine_trans (a := s) ht.sameMachine hl.sameMachine⟩
  rw [State.epfContained, hfld, hfree]
  rfl

end

theorem containmentRelease_free (h : s.epfContained = false) : exec .containmentRelease s = .next s :=
  congrArg Host.Outcome.next (if_neg (by simp [h]))

section
variable (hlate : s.epf.late = []) (h : s.epf.reads = [r])
include hlate h

theorem completionTimeout_early (hdue : s.clause.toNat < r.since.toNat + 12500000) : exec .completionTimeout s = .next s := by
  have hfind : s.epf.reads.find? (fun r => decide (r.since.toNat + 12500000 ≤ s.clause.toNat)) = none := by simp [h, Nat.not_le.2 hdue]
  rw [exec_completionTimeout]
  unfold execCompletionTimeout
  dsimp only
  rw [hlate, hfind]
  rfl

theorem completionTimeout_contains (hdue : r.since.toNat + 12500000 ≤ s.clause.toNat) (hfree : s.epfContained = false) :
    Ends .completionTimeout s (fun u => u.epfContained = true ∧ u.fld regEpfStatus 15 12 = 2 ∧ u.epf.aer = s.epf.aer ||| 0x4000 ∧
      u.epf.reads = [] ∧ s.sameMachine u) := by
  obtain ⟨hcontained, hcause, -, hreads, -, haer, hsame⟩ := epfContain_abandons
    (s := s.modEpf (fun e => { e with aer := e.aer ||| 0x4000, reads := e.reads.erase r })) hfree 2
  have hexec : exec .completionTimeout s =
      .next ((s.modEpf (fun e => { e with aer := e.aer ||| 0x4000, reads := e.reads.erase r })).epfContain 2) := by
    have hfind : s.epf.reads.find? (fun r => decide (r.since.toNat + 12500000 ≤ s.clause.toNat)) = some r := by simp [h, hdue]
    rw [exec_completionTimeout]
    unfold execCompletionTimeout
    dsimp only
    rw [hlate, hfind]
    rfl
  exact ⟨_, hexec, hcontained, hcause, haer, hreads, hsame⟩

end

end

/-- Settles O57: one lemma for each request of the host, reset, power state and containment event, and each of its outcomes. -/
theorem endpointFunction : Obligations.EndpointFunction := by
  intro tag dw off len data k v w aer origin hot r s gives t tw inService fresh present linked ready resets
  exact ⟨peerWindow_closed, peerWindow_unserved, fun ⟨hopen, hfree, hmode⟩ => peerWindowRead_refused hopen hfree hmode,
    fun ⟨hopen, hfree, hmode⟩ ⟨hempty, hfresh⟩ => peerWindowRead_reads hopen hfree hmode hempty hfresh,
    fun ⟨hopen, hfree, hmode⟩ => peerWindowWrite_refused hopen hfree hmode,
    fun ⟨hopen, hfree, hmode⟩ ⟨hempty, _⟩ => peerWindowWrite_writes hopen hfree hmode hempty,
    windowWrite_none, windowWrite_due, configRequest_absent, fun ⟨hpresent, hlinked, hcold⟩ => configRequest_retries hpresent hlinked hcold,
    fun ⟨⟨hpresent, hlinked, hcold⟩, hready⟩ => configRequest_reads hpresent hlinked hcold hready,
    fun ⟨⟨hpresent, hlinked, hcold⟩, hready⟩ => configRequest_free hpresent hlinked hcold hready,
    fun ⟨⟨hpresent, hlinked, hcold⟩, hready⟩ => configRequest_writesBar hpresent hlinked hcold hready,
    busMasterEnable_enables, busMasterEnable_enabled, busMasterDisable_disabled, busMasterDisable_aborts, functionLevelReset_resets, perstN_resets,
    functionLevelReset_waits, functionLevelReset_absent, dStateChange_none, fun h => ⟨dStateChange_sleeps h, dStateChange_wakes h⟩,
    epfContained_linkDown, epfContained_errors, containmentRelease_free, containmentRelease_releases, completionTimeout_early,
    completionTimeout_contains⟩

end Sys2Proof.Machine

/-! ## Command rings and tickets

Polls, the descriptors they announce and their checks, acceptance, and completions that go to their rings (R493 to R504). -/

namespace Sys2Proof.Machine
open Sys2Proof

/-! ### What the rings leave -/

/-- The state without its registers, its endpoint and its counters. -/
def State.unserved (s : State) : State := { s with regs := [], epf := {}, pccVal := [] }

/-- Registers, the endpoint and counters aside, nothing differs. -/
def State.serves (s u : State) : Prop := u.unserved = s.unserved

theorem serves_refl (s : State) : s.serves s := Eq.refl s.unserved
theorem serves_trans {a b c : State} (h : a.serves b) (k : b.serves c) : a.serves c := Eq.trans k h
theorem setFld_serves (s : State) (off hi lo v : Nat) : s.serves (s.setFld off hi lo v) := Eq.refl s.unserved
theorem addFld_serves (s : State) (off hi lo v : Nat) : s.serves (s.addFld off hi lo v) := Eq.refl s.unserved
theorem modEpf_serves (s : State) (f : Endpoint → Endpoint) : s.serves (s.modEpf f) := Eq.refl s.unserved
theorem counted_serves (s : State) (v : Tbl Word) : s.serves (s.counted v) := Eq.refl s.unserved

theorem State.talks.serves {s u : State} (h : s.talks u) : s.serves u := by
  obtain ⟨-, e, v, rfl⟩ := h
  exact Eq.refl s.unserved

section
variable {s u : State} (h : s.serves u)
include h

theorem State.serves.rest {α : Type} (f : State → α) : f u.unserved = f s.unserved := congrArg f h
theorem State.serves.sent : u.sent = s.sent := h.rest State.sent
theorem State.serves.takeover : u.image.takeover = s.image.takeover := h.rest (fun x : State => x.image.takeover)
theorem State.serves.clause : u.clause = s.clause := h.rest State.clause
theorem State.serves.events : u.events = s.events := h.rest State.events
theorem State.serves.longOps : u.longOps = s.longOps := h.rest State.longOps
theorem State.serves.ownerKeys : u.ownerKeys = s.ownerKeys := h.rest State.ownerKeys
theorem State.serves.flash : u.flash = s.flash := h.rest State.flash
theorem State.serves.completions : u.completions = s.completions := h.rest State.completions
theorem State.serves.sameMachine : s.sameMachine u := ⟨h.rest State.mem, h.rest State.threads, h.rest State.cores⟩

end

theorem fld_modEpf (s : State) (f : Endpoint → Endpoint) (off hi lo : Nat) : (s.modEpf f).fld off hi lo = s.fld off hi lo := rfl
theorem reg_counted (s : State) (v : Tbl Word) (off : Nat) : (s.counted v).reg off = s.reg off := rfl
theorem epf_counted (s : State) (v : Tbl Word) : (s.counted v).epf = s.epf := rfl
theorem epf_modEpf (s : State) (f : Endpoint → Endpoint) : (s.modEpf f).epf = f s.epf := rfl

theorem said_clause (s : State) (x : Tlp) (v : Tbl Word) : (s.said x v).clause = s.clause := rfl
theorem said_modEpf (s : State) (x : Tlp) (v : Tbl Word) (f : Endpoint → Endpoint) :
    (s.said x v).modEpf f = (s.modEpf (fun e => f { e with out := e.out ++ [x] })).counted v := rfl

/-- What lets the function issue requests. -/
theorem epfMaster_congr {s u : State} (hserves : u.servesHost = s.servesHost) (hmode : u.mode = s.mode)
    (hstatus : u.reg regEpfStatus = s.reg regEpfStatus) (hbme : u.epf.bme = s.epf.bme) (hdue : u.epf.resetDue = s.epf.resetDue) :
    u.epfMaster = s.epfMaster := by
  rw [State.epfMaster, State.epfMaster, hserves, hmode, State.epfContained, State.epfContained, State.fld, State.fld, State.fld, State.fld, hstatus,
    hbme, hdue]

/-! ### Polls (R493 to R496) -/

/-- The interval to the next poll: the least when a word has changed, else twice the last within the greatest. -/
def State.pollNext (s : State) (ws : List Word) : Nat :=
  if (upTo 128).any (fun i => decide (Tbl.get (0 : BitVec 32) s.epf.doorbells i ≠ Tbl.get 0 (doorbellTbl ws) i)) then s.fld regEpfPoll 7 0
  else min (2 * s.fld regEpfPoll 23 16) (s.fld regEpfPoll 15 8)

theorem pollNext_lt (s : State) (ws : List Word) : s.pollNext ws < 256 := by
  have hleast : s.fld regEpfPoll 7 0 < 256 := bits_lt ..
  have hmost : s.fld regEpfPoll 15 8 < 256 := bits_lt ..
  unfold State.pollNext
  split
  · exact hleast
  · exact Nat.lt_of_le_of_lt (Nat.min_le_right _ _) hmost

/-- The registers of a poll. -/
def State.pollRegs (s : State) (ws : List Word) : State := (s.addFld regEpfCount0 63 32 1).setFld regEpfPoll 23 16 (s.pollNext ws)

theorem pollRegs_reg {s : State} {ws : List Word} {off : Nat} (hcount : off ≠ regEpfCount0) (hpoll : off ≠ regEpfPoll) :
    (s.pollRegs ws).reg off = s.reg off :=
  (reg_setFld_ne _ _ _ _ _ _ hpoll).trans (reg_addFld_ne _ _ _ _ _ _ hcount)

theorem pollRegs_fld {s : State} {ws : List Word} {off : Nat} (hcount : off ≠ regEpfCount0) (hpoll : off ≠ regEpfPoll) (hi lo : Nat) :
    (s.pollRegs ws).fld off hi lo = s.fld off hi lo := by
  rw [State.fld, pollRegs_reg hcount hpoll, State.fld]

/-- An endpoint that has polled. -/
def Endpoint.polled (e : Endpoint) (bells : Tbl (BitVec 32)) (tag : Nat) (next : Word) (x : Tlp) : Endpoint :=
  { e with doorbells := bells, nextTag := tag, nextPoll := next, out := e.out ++ [x] }

section
variable (e : Endpoint) (bells : Tbl (BitVec 32)) (tag : Nat) (next : Word) (x : Tlp)

theorem polled_bme : (e.polled bells tag next x).bme = e.bme := rfl
theorem polled_resetDue : (e.polled bells tag next x).resetDue = e.resetDue := rfl
theorem polled_reads : (e.polled bells tag next x).reads = e.reads := rfl

end

/-- The endpoint of a package that has polled. -/
def State.polledEpf (s : State) (ws : List Word) : Endpoint :=
  s.epf.polled (doorbellTbl ws) ((s.epf.nextTag + 1) % 1024) (s.clause + BitVec.ofNat 64 (250 * s.pollNext ws))
    (.memRead s.epf.nextTag (s.fld regEpfDbpage 63 12 * 4096) 1024)

/-- A poll is answered, before the rings are looked at. -/
def State.pollDone (s : State) (ws : List Word) (v : Tbl Word) : State := ((s.pollRegs ws).modEpf (fun _ => s.polledEpf ws)).counted v

theorem poll_eq (s : State) (ws : List Word) : ∃ v, s.poll ws = ((s.pollDone ws v).checkRings (upTo 64)).issueReads 256 := by
  unfold State.poll
  extract_lets old new changed cur max next t u w
  have hnext : next = s.pollNext ws := by
    unfold State.pollNext
    refine if_congr Iff.rfl rfl ?_
    rw [Nat.min_def]
    split <;> split <;> omega
  have ht : t = s.pollRegs ws := by rw [State.pollRegs, ← hnext]
  have hpage : t.fld regEpfDbpage 63 12 = s.fld regEpfDbpage 63 12 := by rw [ht, pollRegs_fld (by decide) (by decide)]
  have hepf : t.epf = s.epf := by rw [ht, State.pollRegs, setFld_epf, addFld_epf]
  have hclock : t.clause = s.clause := by rw [ht, State.pollRegs, setFld_clause, addFld_clause]
  obtain ⟨v, hv⟩ := epfOut_said t (.memRead t.epf.nextTag (t.fld regEpfDbpage 63 12 * 4096) 1024)
  have hw : w = s.pollDone ws v := by
    change (t.epfOut (.memRead t.epf.nextTag (t.fld regEpfDbpage 63 12 * 4096) 1024)).modEpf (fun e => { e with
      doorbells := new, nextTag := (e.nextTag + 1) % 1024,
      nextPoll := (t.epfOut (.memRead t.epf.nextTag (t.fld regEpfDbpage 63 12 * 4096) 1024)).clause + BitVec.ofNat 64 (250 * next) }) = _
    rw [hv, said_modEpf, said_clause, hpage, hepf, hnext, hclock, State.pollDone, ← ht]
    rfl
  exact ⟨v, by rw [hw]⟩

/-- Rings whose TAIL keeps within their size stay enabled. -/
theorem checkRings_sound {s : State} {l : List Nat} (h : ∀ i ∈ l, s.cringOn i = true → (s.cringTail i + 2 ^ 32 - s.cringHead i) % 2 ^ 32 ≤ s.cringSize i) :
    s.checkRings l = s := by
  induction l with
  | nil => rfl
  | cons i l ih =>
    rw [State.checkRings, if_neg (by simpa using h i List.mem_cons_self)]
    exact ih (fun k hk => h k (List.mem_cons_of_mem _ hk))

/-- With no ring that wants a descriptor, none is read. -/
theorem issueReads_idle {s : State} (h : ∀ k, k < 64 → s.ringWants k = false) (n : Nat) : s.issueReads n = s := by
  cases n with
  | zero => rfl
  | succ n =>
    have hnone : ((upTo 64).map (fun j => (s.epf.nextRing + j) % 64)).find? s.ringWants = none := by
      rw [List.find?_eq_none]
      rintro k hk
      obtain ⟨j, -, rfl⟩ := List.mem_map.1 hk
      simp [h _ (Nat.mod_lt _ (by decide))]
    rw [State.issueReads, hnone, ite_self]

/-- The only ring that wants a descriptor is found. -/
theorem findRing_only {s : State} {i : Nat} (hi : i < 64) (hwants : s.ringWants i = true) (honly : ∀ k, k < 64 → s.ringWants k = true → k = i) :
    ((upTo 64).map (fun j => (s.epf.nextRing + j) % 64)).find? s.ringWants = some i := by
  cases h : ((upTo 64).map (fun j => (s.epf.nextRing + j) % 64)).find? s.ringWants with
  | none =>
    have hmem : i ∈ (upTo 64).map (fun j => (s.epf.nextRing + j) % 64) :=
      List.mem_map.2 ⟨(i + 64 - s.epf.nextRing % 64) % 64, List.mem_range.2 (Nat.mod_lt _ (by decide)), by omega⟩
    exact absurd hwants (List.find?_eq_none.1 h i hmem)
  | some k =>
    obtain ⟨j, -, hj⟩ := List.mem_map.1 (List.mem_of_find?_eq_some h)
    exact congrArg some (honly k (by omega) (List.find?_some h))

section
variable {ws : List Word} {s : State}

/-- A poll keeps what the doorbell page holds, and its interval. -/
def State.polls (s u : State) (ws : List Word) : Prop := u.epf.doorbells = doorbellTbl ws ∧ u.fld regEpfPoll 23 16 = s.pollNext ws ∧
  u.epf.nextPoll = s.clause + BitVec.ofNat 64 (250 * s.pollNext ws) ∧ u.sent = s.sent ∧ s.sameMachine u

theorem pollDone_epf (v : Tbl Word) : (s.pollDone ws v).epf = s.polledEpf ws := by rw [State.pollDone, epf_counted, epf_modEpf]

theorem pollDone_serves (v : Tbl Word) : s.serves (s.pollDone ws v) :=
  serves_trans (serves_trans (addFld_serves s _ _ _ _) (setFld_serves _ _ _ _ _)) (serves_trans (modEpf_serves _ _) (counted_serves _ v))

theorem pollDone_reg (v : Tbl Word) (off : Nat) : (s.pollDone ws v).reg off = (s.pollRegs ws).reg off := by rw [State.pollDone, reg_counted, reg_modEpf]

theorem pollDone_fld {v : Tbl Word} {off : Nat} (hcount : off ≠ regEpfCount0) (hpoll : off ≠ regEpfPoll) (hi lo : Nat) :
    (s.pollDone ws v).fld off hi lo = s.fld off hi lo := by
  rw [State.fld, pollDone_reg, pollRegs_reg hcount hpoll, State.fld]

theorem pollDone_polls (v : Tbl Word) : s.polls (s.pollDone ws v) ws := by
  refine ⟨?_, ?_, ?_, (pollDone_serves v).sent, (pollDone_serves v).sameMachine⟩
  · rw [pollDone_epf]
    rfl
  · rw [State.fld, pollDone_reg]
    exact (fld_setFld _ _ _ _ _ (by decide) (by decide)).trans (Nat.mod_eq_of_lt (pollNext_lt s ws))
  · rw [pollDone_epf]
    rfl

theorem cring_low (i : Nat) : regEpfCring0 i ≠ regEpfCount0 ∧ regEpfCring0 i ≠ regEpfPoll ∧ regEpfCring1 i ≠ regEpfCount0 ∧ regEpfCring1 i ≠ regEpfPoll := by
  unfold regEpfCring0 regEpfCring1 regEpfCount0 regEpfPoll
  omega

theorem pollDone_ring (v : Tbl Word) (i : Nat) : (s.pollDone ws v).cringOn i = s.cringOn i ∧ (s.pollDone ws v).cringHead i = s.cringHead i ∧
    (s.pollDone ws v).cringSize i = s.cringSize i ∧ (s.pollDone ws v).cringTail i = (Tbl.get 0 (doorbellTbl ws) i).toNat := by
  obtain ⟨-, -, hcount, hpoll⟩ := cring_low i
  refine ⟨?_, pollDone_fld hcount hpoll _ _, ?_, ?_⟩
  · rw [State.cringOn, State.cringOn, pollDone_fld hcount hpoll]
  · rw [State.cringSize, State.cringSize, pollDone_fld hcount hpoll]
  · rw [State.cringTail, pollDone_epf]
    rfl

/-- A poll that is due. -/
theorem exec_doorbellPoll_due (hmaster : s.epfMaster = true) (hon : s.fld regEpfDbpage 0 0 = 1) (hdue : s.epf.nextPoll.toNat ≤ s.clause.toNat) :
    ∃ w v, exec (.doorbellPoll ws) s = .next ((((s.counted w).pollDone ws v).checkRings (upTo 64)).issueReads 256) := by
  obtain ⟨w, hw⟩ := tlpIn_counted s 0 1024
  obtain ⟨v, hv⟩ := poll_eq (s.counted w) ws
  refine ⟨w, v, ?_⟩
  rw [exec_doorbellPoll, execDoorbellPoll, if_pos (by simp [hmaster, hon, hdue]), hw, hv]

theorem doorbellPoll_early (h : ¬(s.epfMaster = true ∧ s.fld regEpfDbpage 0 0 = 1 ∧ s.epf.nextPoll.toNat ≤ s.clause.toNat)) :
    exec (.doorbellPoll ws) s = .next s := if_neg (by simpa [and_assoc] using h)

section
variable (hmaster : s.epfMaster = true) (hon : s.fld regEpfDbpage 0 0 = 1) (hdue : s.epf.nextPoll.toNat ≤ s.clause.toNat)
include hmaster hon hdue

theorem doorbellPoll_noRing (hoff : ∀ k, k < 64 → s.cringOn k = false) : Ends (.doorbellPoll ws) s (fun u => s.polls u ws ∧
    u.epf.reads = s.epf.reads ∧ u.epf.out = s.epf.out ++ [.memRead s.epf.nextTag (s.fld regEpfDbpage 63 12 * 4096) 1024]) := by
  obtain ⟨w, v, hexec⟩ := exec_doorbellPoll_due (ws := ws) hmaster hon hdue
  have hring (k : Nat) (hk : k < 64) : ((s.counted w).pollDone ws v).cringOn k = false := (pollDone_ring v k).1.trans (hoff k hk)
  have hcheck : ((s.counted w).pollDone ws v).checkRings (upTo 64) = (s.counted w).pollDone ws v :=
    checkRings_sound (fun k hk h => by simp [hring k (List.mem_range.1 hk)] at h)
  have hidle : ((s.counted w).pollDone ws v).issueReads 256 = (s.counted w).pollDone ws v :=
    issueReads_idle (fun k hk => by simp [State.ringWants, hring k hk]) 256
  rw [hcheck, hidle] at hexec
  refine ⟨_, hexec, pollDone_polls (s := s.counted w) v, ?_, ?_⟩
  · rw [pollDone_epf, State.polledEpf, polled_reads, epf_counted]
  · rw [pollDone_epf]
    rfl

end

/-- The function may issue requests after the poll as before it. -/
theorem pollDone_master (v : Tbl Word) : (s.pollDone ws v).epfMaster = s.epfMaster := by
  have hreg {off : Nat} (hcount : off ≠ regEpfCount0) (hpoll : off ≠ regEpfPoll) : (s.pollDone ws v).reg off = s.reg off :=
    (pollDone_reg v off).trans (pollRegs_reg hcount hpoll)
  have hserves : (s.pollDone ws v).servesHost = s.servesHost := servesHost_congr (hreg (by decide) (by decide)) (hreg (by decide) (by decide))
    (hreg (by decide) (by decide)) (pollDone_serves v).takeover
  refine epfMaster_congr hserves (pollDone_fld (by decide) (by decide) _ _) (hreg (by decide) (by decide)) ?_ ?_
  · rw [pollDone_epf, State.polledEpf, polled_bme]
  · rw [pollDone_epf, State.polledEpf, polled_resetDue]

/-- The endpoint that has asked for the next descriptor of ring `i`. -/
def State.askedEpf (s : State) (i : Nat) : Endpoint :=
  { s.epf with reads := [{ tag := s.epf.nextTag, ring := i, index := s.cringHead i, since := s.clause }],
               nextTag := (s.epf.nextTag + 1) % 1024, nextRing := (i + 1) % 64,
               out := s.epf.out ++ [.memRead s.epf.nextTag (s.fld (regEpfCring0 i) 63 12 * 4096 + s.cringHead i % s.cringSize i * 128) 128] }

/-- The read of a ring's next descriptor, none being outstanding. -/
theorem askDescriptor_first {t : State} {i : Nat} (h : t.epf.reads = []) : ∃ v, t.askDescriptor i = (t.modEpf (fun _ => t.askedEpf i)).counted v := by
  have hindex : (t.cringHead i + t.ringReads i) % 2 ^ 32 = t.cringHead i := by
    rw [State.ringReads, h]
    exact Nat.mod_eq_of_lt (bits_lt ..)
  obtain ⟨v, hv⟩ := epfOut_said (t.modEpf (fun e => { e with reads := e.reads ++ [{ tag := t.epf.nextTag, ring := i, index := t.cringHead i, since := t.clause }],
                                                             nextTag := (t.epf.nextTag + 1) % 1024, nextRing := (i + 1) % 64 }))
    (.memRead t.epf.nextTag (t.fld (regEpfCring0 i) 63 12 * 4096 + t.cringHead i % t.cringSize i * 128) 128)
  refine ⟨v, ?_⟩
  unfold State.askDescriptor
  dsimp only
  rw [hindex, State.cringSize, fld_modEpf, fld_modEpf, ← State.cringSize, hv, State.said, epf_modEpf, h]
  rfl

theorem ringWants_iff {t : State} {i : Nat} : t.ringWants i = true ↔ t.cringOn i = true ∧ (t.cringHead i + t.ringReads i) % 2 ^ 32 ≠ t.cringTail i := by
  simp [State.ringWants]

/-- The one descriptor announced is read. -/
theorem issueReads_one {t : State} {i : Nat} (hi : i < 64) (hmaster : t.epfMaster = true) (hopen : ∀ k, k < 64 → (t.cringOn k = true ↔ k = i))
    (hreads : t.epf.reads = []) (hroom : t.fld regEpfStatus 40 32 < 256) (htail : t.cringTail i = (t.cringHead i + 1) % 2 ^ 32) :
    (t.checkRings (upTo 64)).issueReads 256 = t.askDescriptor i := by
  have hhead : t.cringHead i < 2 ^ 32 := bits_lt ..
  have hsize : 0 < t.cringSize i := Nat.two_pow_pos _
  have hnone : t.ringReads i = 0 := by rw [State.ringReads, hreads, List.filter_nil, List.length_nil]
  have hcheck : t.checkRings (upTo 64) = t := by
    refine checkRings_sound (fun k hk hon => ?_)
    obtain rfl := (hopen k (List.mem_range.1 hk)).1 hon
    rw [htail]
    omega
  have hwants : t.ringWants i = true := ringWants_iff.2 ⟨(hopen i hi).2 rfl, by rw [htail, hnone]; omega⟩
  have hfind := findRing_only (s := t) hi hwants (fun k hk h => (hopen k hk).1 (ringWants_iff.1 h).1)
  have hmay : ¬(!t.epfMaster || decide (256 ≤ t.outstanding)) = true := by
    rw [State.outstanding, hmaster, hreads]
    simpa using hroom
  obtain ⟨w, hw⟩ := askDescriptor_first (t := t) (i := i) hreads
  have htalks := askDescriptor_talks t i
  have hasked : (t.askDescriptor i).epf = t.askedEpf i := by rw [hw, epf_counted, epf_modEpf]
  rw [hcheck, State.issueReads, if_neg hmay, hfind]
  refine issueReads_idle (fun k hk => Bool.eq_false_iff.2 (fun h => ?_)) 255
  obtain ⟨hon, hne⟩ := ringWants_iff.1 h
  rw [State.cringOn, htalks.fld] at hon
  obtain rfl := (hopen k hk).1 hon
  have hhead' : (t.askDescriptor k).cringHead k = t.cringHead k := htalks.fld ..
  have hone : (t.askDescriptor k).ringReads k = 1 := by
    rw [State.ringReads, hasked, State.askedEpf, List.filter_cons, if_pos (decide_eq_true rfl)]
    rfl
  have hbells : (t.askDescriptor k).epf.doorbells = t.epf.doorbells := htalks.quiet Endpoint.doorbells
  exact hne (by rw [hhead', hone, State.cringTail, hbells]; exact htail.symm)

theorem doorbellPoll_reads {i : Fin 64} (hmaster : s.epfMaster = true) (hon : s.fld regEpfDbpage 0 0 = 1)
    (hdue : s.epf.nextPoll.toNat ≤ s.clause.toNat) (honly : ∀ k, k < 64 → (s.cringOn k = true ↔ k = i.val)) (hreads : s.epf.reads = [])
    (hroom : s.fld regEpfStatus 40 32 < 256) (htail : (Tbl.get 0 (doorbellTbl ws) i.val).toNat = (s.cringHead i.val + 1) % 2 ^ 32) :
    Ends (.doorbellPoll ws) s (fun u => s.polls u ws ∧
      u.epf.reads = [{ tag := (s.epf.nextTag + 1) % 1024, ring := i.val, index := s.cringHead i.val, since := s.clause }] ∧
      u.epf.out = s.epf.out ++ [.memRead s.epf.nextTag (s.fld regEpfDbpage 63 12 * 4096) 1024, .memRead ((s.epf.nextTag + 1) % 1024)
        (s.fld (regEpfCring0 i.val) 63 12 * 4096 + s.cringHead i.val % s.cringSize i.val * 128) 128]) := by
  obtain ⟨w, v, hexec⟩ := exec_doorbellPoll_due (ws := ws) hmaster hon hdue
  obtain ⟨-, hringHead, hringSize, hringTail⟩ := pollDone_ring (s := s.counted w) (ws := ws) v i.val
  obtain ⟨hbells, hinterval, hnext, hsent, hsame⟩ := pollDone_polls (s := s.counted w) (ws := ws) v
  have hepf := pollDone_epf (s := s.counted w) (ws := ws) v
  have hclock := (pollDone_serves (s := s.counted w) (ws := ws) v).clause
  have hopen (k : Nat) (hk : k < 64) : ((s.counted w).pollDone ws v).cringOn k = true ↔ k = i.val := by
    rw [(pollDone_ring v k).1]
    exact honly k hk
  have hmaster' : ((s.counted w).pollDone ws v).epfMaster = true := (pollDone_master v).trans hmaster
  have hroom' : ((s.counted w).pollDone ws v).fld regEpfStatus 40 32 < 256 := by
    rw [pollDone_fld (by decide) (by decide)]
    exact hroom
  obtain ⟨hcount, hpoll, -, -⟩ := cring_low i.val
  have hbase : ((s.counted w).pollDone ws v).fld (regEpfCring0 i.val) 63 12 = s.fld (regEpfCring0 i.val) 63 12 := pollDone_fld hcount hpoll _ _
  generalize (s.counted w).pollDone ws v = t at *
  have hreads' : t.epf.reads = [] := by rw [hepf, State.polledEpf, polled_reads, epf_counted, hreads]
  rw [issueReads_one i.isLt hmaster' hopen hreads' hroom' (by rw [hringTail, hringHead]; exact htail)] at hexec
  obtain ⟨x, hx⟩ := askDescriptor_first (t := t) (i := i.val) hreads'
  have htalks := askDescriptor_talks t i.val
  have hasked : (t.askDescriptor i.val).epf = t.askedEpf i.val := by rw [hx, epf_counted, epf_modEpf]
  refine ⟨_, hexec, ⟨(htalks.quiet Endpoint.doorbells).trans hbells, (htalks.fld ..).trans hinterval, (htalks.quiet Endpoint.nextPoll).trans hnext,
    htalks.serves.sent.trans hsent, sameMachine_trans (a := s) hsame htalks.sameMachine⟩, ?_, ?_⟩
  · rw [hasked, State.askedEpf, hringHead, hepf, hclock]
    rfl
  · rw [hasked, State.askedEpf, hringHead, hringSize, hbase, hepf]
    exact List.append_assoc ..

end

end Sys2Proof.Machine

namespace Sys2Proof.Machine
open Sys2Proof

/-! ### Descriptors and their checks (R495, R502, R503) -/

/-- A descriptor's read has returned: HEAD moves on, and its command counts as outstanding. -/
def State.returned (s : State) (r : HostRead) (l : List HostRead) : State :=
  (((s.modEpf (fun e => { e with reads := l })).setFld (regEpfCring1 r.ring) 63 32 (r.index + 1)).addFld regEpfCount0 31 0 1).addFld regEpfStatus 40 32 1

/-- What a returned descriptor leaves, whatever becomes of it. -/
def State.takes (s u : State) (r : HostRead) : Prop := u.fld (regEpfCring1 r.ring) 63 32 = (r.index + 1) % 2 ^ 32 ∧
  u.fld regEpfStatus 40 32 = satTo 511 (s.fld regEpfStatus 40 32 + 1) ∧ s.sameMachine u

section
variable {s : State} {r : HostRead} {l : List HostRead}

theorem returned_reg {off : Nat} (hring : off ≠ regEpfCring1 r.ring) (hcount : off ≠ regEpfCount0) (hstatus : off ≠ regEpfStatus) :
    (s.returned r l).reg off = s.reg off := by
  rw [State.returned, reg_addFld_ne _ _ _ _ _ _ hstatus, reg_addFld_ne _ _ _ _ _ _ hcount, reg_setFld_ne _ _ _ _ _ _ hring, reg_modEpf]

/-- Registers below the endpoint's keep their values. -/
theorem returned_low {off : Nat} (h : off < regEpfStatus) : (s.returned r l).reg off = s.reg off := by
  unfold regEpfStatus at h
  exact returned_reg (by unfold regEpfCring1; omega) (by unfold regEpfCount0; omega) (by unfold regEpfStatus; omega)

theorem returned_epf : (s.returned r l).epf = { s.epf with reads := l } := by
  rw [State.returned, addFld_epf, addFld_epf, setFld_epf, epf_modEpf]

theorem returned_serves : s.serves (s.returned r l) :=
  serves_trans (serves_trans (modEpf_serves s _) (setFld_serves _ _ _ _ _)) (serves_trans (addFld_serves _ _ _ _ _) (addFld_serves _ _ _ _ _))

theorem returned_servesHost : (s.returned r l).servesHost = s.servesHost :=
  servesHost_congr (returned_low (by decide)) (returned_low (by decide)) (returned_low (by decide)) returned_serves.takeover

theorem returned_head : (s.returned r l).fld (regEpfCring1 r.ring) 63 32 = (r.index + 1) % 2 ^ 32 := by
  have hstatus : regEpfCring1 r.ring ≠ regEpfStatus := by unfold regEpfCring1 regEpfStatus; omega
  have hcount : regEpfCring1 r.ring ≠ regEpfCount0 := by unfold regEpfCring1 regEpfCount0; omega
  rw [State.fld, State.returned, reg_addFld_ne _ _ _ _ _ _ hstatus, reg_addFld_ne _ _ _ _ _ _ hcount, ← State.fld]
  exact fld_setFld _ _ _ _ _ (by decide) (by decide)

theorem returned_outstanding : (s.returned r l).fld regEpfStatus 40 32 = satTo 511 (s.fld regEpfStatus 40 32 + 1) := by
  have hring : regEpfStatus ≠ regEpfCring1 r.ring := by unfold regEpfCring1 regEpfStatus; omega
  have hold : (((s.modEpf (fun e => { e with reads := l })).setFld (regEpfCring1 r.ring) 63 32 (r.index + 1)).addFld regEpfCount0 31 0 1).fld
      regEpfStatus 40 32 = s.fld regEpfStatus 40 32 := by
    rw [State.fld, reg_addFld_ne _ _ _ _ _ _ (by decide), reg_setFld_ne _ _ _ _ _ _ hring, reg_modEpf, State.fld]
  rw [State.returned, State.addFld, fld_setFld _ _ _ _ _ (by decide) (by decide), hold]
  refine Nat.mod_eq_of_lt ?_
  unfold satTo
  split <;> omega

/-- The registers of the rings and the machine are all that matters. -/
theorem takes_of {u : State} (hring : u.reg (regEpfCring1 r.ring) = (s.returned r l).reg (regEpfCring1 r.ring))
    (hstatus : u.reg regEpfStatus = (s.returned r l).reg regEpfStatus) (hsame : (s.returned r l).sameMachine u) : s.takes u r :=
  ⟨(congrArg (bits · 63 32) hring).trans returned_head, (congrArg (bits · 40 32) hstatus).trans returned_outstanding,
    sameMachine_trans returned_serves.sameMachine hsame⟩

end

theorem localEvent_events (s : State) (kind : EventKind) (rank die src : Nat) : (s.localEvent kind rank die src).events =
    s.events ++ [{ stamp := s.clause, rank := rank, origin := s.origin die src, kind := kind }] := rfl
theorem localEvent_sameMachine (s : State) (kind : EventKind) (rank die src : Nat) : s.sameMachine (s.localEvent kind rank die src) := ⟨rfl, rfl, rfl⟩
theorem localEvent_reg (s : State) (kind : EventKind) (rank die src off : Nat) : (s.localEvent kind rank die src).reg off = s.reg off := rfl

/-! ### What check 5 reads (R503) -/

/-- Check 5 reads the registers of the image and of the clock, the clause and the long operations. -/
theorem fieldStatus_congr {s u : State} (himage : u.reg regTrlImage = s.reg regTrlImage) (hclock : u.clause = s.clause)
    (hlong : u.longOps = s.longOps) (c : Command) : u.fieldStatus c = s.fieldStatus c := by
  have hjoined : u.joined = s.joined := by rw [State.joined, State.joined, State.fld, State.fld, himage]
  have hnum : u.pkgNum = s.pkgNum := by rw [State.pkgNum, State.pkgNum, State.fld, State.fld, himage]
  have hmember (p : Nat) : u.isMember p = s.isMember p := by rw [State.isMember, State.isMember, hjoined, State.fld, State.fld, himage]
  have htarget : u.isTarget = s.isTarget := funext (fun p => by rw [State.isTarget, State.isTarget, hmember, hjoined, hnum])
  have hmask (m : Nat) : u.maskOk m = s.maskOk m := by rw [State.maskOk, State.maskOk, htarget]
  have hbad : u.badField c = s.badField c := by
    unfold State.badField
    simp only [hmask, hnum, hclock, hlong]
  rw [State.fieldStatus, State.fieldStatus, hbad, htarget]

/-! ### Refusals (R503) -/

section
variable {t : State} {c : Command} (hserves : t.servesHost = true) (hgen : c.gen = t.epf.gen)
include hserves hgen

/-- A final completion after records. -/
theorem complete_after {w : State} (hl : t.logs w) (status : Nat) : let u := w.complete c status 0 0
    t.completes u c status 0 0 ∧ u.epf = t.epf ∧ t.keepsRegs u ∧ u.ownerKeys = t.ownerKeys ∧ t.sameMachine u := by
  intro u
  have hn := complete_notes (hl.notes.servesHost.trans hserves) (hgen.trans (congrArg Endpoint.gen hl.epf).symm) status 0 0
  have hdone : u.completions = w.completions ++ [_] := hn.unnoted State.completions
  have hkeys : u.ownerKeys = w.ownerKeys := hn.ownerKeys
  refine ⟨?_, hn.epf.trans hl.epf, fun off ho => (hn.regs off ho).trans (hl.regs off ho), hkeys.trans (hl.unlogged State.ownerKeys),
    sameMachine_trans hl.sameMachine hn.sameMachine⟩
  rw [State.completes, hdone, hl.completions]

theorem refuseTicket_spec (code status : Nat) (ps : List Nat) : let u := t.refuseTicket c code status ps
    t.completes u c status 0 0 ∧ u.epf = t.epf ∧ t.keepsRegs u ∧ u.ownerKeys = t.ownerKeys ∧ t.sameMachine u :=
  complete_after hserves hgen (emit_logs ..) status

theorem refuseField_spec (status : Nat) : let u := t.refuseField c status
    t.completes u c status 0 0 ∧ u.epf = t.epf ∧ t.keepsRegs u ∧ u.ownerKeys = t.ownerKeys ∧ t.sameMachine u :=
  complete_after hserves hgen (emit_logs ..) status

end

/-! ### The checks of a descriptor (R503) -/

section
variable {t : State} {c : Command} {d : List (BitVec 8)} (hext : c.hasExt = false)
include hext

theorem extOk_none : extOk c d = true := by simp [extOk, hext]

omit hext in
theorem checkTicket_form (h : formOk c = false) : ∃ code ps, t.checkTicket c d = t.refuseTicket c code stBadField ps :=
  ⟨_, _, if_pos (by simp [h])⟩

variable (hform : formOk c = true)
include hform

theorem checkTicket_unticketed (h : c.ticketed = false) : t.checkTicket c d = t.accept c := by
  unfold State.checkTicket
  dsimp only
  rw [if_neg (by simp [extOk_none hext, hform]), if_pos (by simp [h])]

variable (hticketed : c.ticketed = true)
include hticketed

/-- Checks 2 to 4 of a ticketed command. -/
theorem checkTicket_ticketed : ∃ ps1 ps2 ps3, t.checkTicket c d =
    if t.fld (regTktSlot0 (c.slot.toNat % 8)) 0 0 = 0 then t.refuseTicket c 0x2005 stSlotEmpty ps1
    else if ticketTag (Tbl.get 0 t.ownerKeys (c.slot.toNat % 8)) d ≠ (d.drop 16).take 16 then t.refuseTicket c 0x2001 stAuth ps2
    else if c.counter.toNat ≤ (t.reg (regTktSlot1 (c.slot.toNat % 8))).toNat then t.refuseTicket c 0x2002 stReplay ps3
    else t.beginAccept c := by
  refine ⟨[c.slot.toNat, c.opcode.toNat, c.cmdid.toNat], [c.slot.toNat, c.opcode.toNat, c.cmdid.toNat, bits c.counter 31 0],
    [c.slot.toNat, c.opcode.toNat, bits c.counter 31 0, bits (t.reg (regTktSlot1 (c.slot.toNat % 8))) 31 0], ?_⟩
  unfold State.checkTicket
  dsimp only
  rw [if_neg (by simp [extOk_none hext, hform]), if_neg (by simp [hticketed])]
  rfl

end

/-! ### Acceptance (R503 check 5, R504) -/

/-- A command for this package alone that resets it. -/
def State.resetsHere (s : State) (c : Command) : Prop := c.opcode = 0x13 ∧ c.target.toNat = s.pkgNum ∧ bit (cmdWord c 0) 0 = false

/-- The command waits for the resolution of its clause. -/
def State.lists (s u : State) (c : Command) : Prop :=
  ∃ q, u.events = s.events ++ q ++ [{ stamp := s.clause, rank := if c.opcode = 0x13 then 2 else 5, origin := s.origin 12 82, kind := .command c }]

section
variable {t : State} {c : Command} (hfield : t.fieldStatus c = none)
include hfield

theorem accept_unticketed (hticketed : c.ticketed = false) (hhere : ¬t.resetsHere c) :
    t.accept c = t.localEvent (.command c) (if c.opcode = 0x13 then 2 else 5) 12 82 := by
  unfold State.accept
  rw [hfield]
  simp only [hticketed, Bool.false_eq_true, if_false]
  exact if_neg (fun ⟨hop, htarget, hbit⟩ => hhere ⟨hop, htarget, by simpa using hbit⟩)

variable (hticketed : c.ticketed = true)
include hticketed

/-- A ticketed command is stamped and recorded. -/
theorem accept_ticketed : ∃ w, t.logs w ∧ t.accept c = (if c.opcode = 0x13 ∧ c.target.toNat = w.pkgNum ∧ !bit (cmdWord c 0) 0 then
      { (w.ok { c with stamp := some t.clause }) with resetDue := some { c with stamp := some t.clause } }
    else w.localEvent (.command { c with stamp := some t.clause }) (if c.opcode = 0x13 then 2 else 5) 12 82) := by
  unfold State.accept
  rw [hfield]
  simp only [hticketed, if_true]
  exact ⟨_, emitOrigin_logs .., rfl⟩

theorem accept_lists (hhere : ¬t.resetsHere c) : let u := t.accept c
    t.lists u { c with stamp := some t.clause } ∧ u.completions = t.completions ∧ u.epf = t.epf ∧ t.sameMachine u := by
  obtain ⟨w, hl, haccept⟩ := accept_ticketed hfield hticketed
  obtain ⟨q, hq⟩ := hl.events
  rw [if_neg (fun ⟨hop, htarget, hbit⟩ => hhere ⟨hop, htarget.trans hl.regs.pkgNum, by simpa using hbit⟩)] at haccept
  rw [haccept]
  refine ⟨⟨q, ?_⟩, hl.completions, hl.epf, hl.sameMachine⟩
  rw [localEvent_events, hq, hl.clause, State.origin, State.origin, hl.regs.pkgNum]

theorem accept_resets (hhere : t.resetsHere c) (hserves : t.servesHost = true) (hgen : c.gen = t.epf.gen) : let u := t.accept c
    u.resetDue = some { c with stamp := some t.clause } ∧ t.completes u { c with stamp := some t.clause } stOk 0 0 ∧ u.epf = t.epf ∧ t.sameMachine u := by
  obtain ⟨w, hl, haccept⟩ := accept_ticketed hfield hticketed
  obtain ⟨hop, htarget, hbit⟩ := hhere
  rw [if_pos ⟨hop, htarget.trans hl.regs.pkgNum.symm, by simpa using hbit⟩] at haccept
  obtain ⟨hdone, hepf, -, -, hsame⟩ := complete_after (c := { c with stamp := some t.clause }) hserves hgen hl stOk
  rw [haccept]
  exact ⟨rfl, hdone, hepf, hsame⟩

end

/-! ### Descriptors -/

/-- The command of a descriptor without extension. -/
def State.descriptorOf (s : State) (desc : BitVec 1024) (r : HostRead) : Command := parseDescriptor (leBytes desc.toNat 128) [] r.ring r.index s.epf.gen

theorem commandDescriptor_idle {s : State} {desc : BitVec 1024} (hlate : s.epf.late = []) (h : s.epf.reads = []) :
    exec (.commandDescriptor desc []) s = .next s := by
  rw [exec_commandDescriptor, execCommandDescriptor, hlate, h]

section
variable {s : State} {r : HostRead} {l : List HostRead} {desc : BitVec 1024} (hlate : s.epf.late = []) (hreads : s.epf.reads = r :: l)
  (hserves : s.servesHost = true) (hext : (s.descriptorOf desc r).hasExt = false)
include hlate hreads hext

/-- A descriptor's checks, its read returned. -/
theorem exec_commandDescriptor_read : ∃ v, exec (.commandDescriptor desc []) s =
    .next ((((s.counted v).returned r l).checkTicket (s.descriptorOf desc r) (leBytes desc.toNat 128)).issueReads 256) := by
  obtain ⟨v, hv⟩ := tlpIn_counted s 0 (128 + ([] : List (BitVec 8)).length)
  refine ⟨v, ?_⟩
  rw [exec_commandDescriptor, execCommandDescriptor, hlate, hreads]
  dsimp only
  rw [hv, ← State.descriptorOf, hext, if_neg Bool.false_ne_true]
  rfl

include hserves

omit hlate hreads hserves hext in
/-- A register of the ticket slots lies below the endpoint's and takes no record. -/
theorem tktSlot1_low {k : Nat} (hk : k < 8) : regTktSlot1 k < regEpfStatus ∧ regTktSlot1 k ∉ noteRegs ∧ regTktSlot0 k < regEpfStatus := by
  refine ⟨?_, ?_, ?_⟩
  · unfold regTktSlot1 regEpfStatus
    omega
  · simp [noteRegs, regTktSlot1, regTlgStatus, regGlbErrsum]
    omega
  · unfold regTktSlot0 regEpfStatus
    omega

/-- A check that fails: the completion tells why, and nothing of the tickets changes. -/
theorem commandDescriptor_refused {status k : Nat} (hk : k < 8) (h : ∀ v, ∃ code ps,
      ((s.counted v).returned r l).checkTicket (s.descriptorOf desc r) (leBytes desc.toNat 128) =
        ((s.counted v).returned r l).refuseTicket (s.descriptorOf desc r) code status ps) :
    Ends (.commandDescriptor desc []) s (fun u => s.takes u r ∧ s.completes u (s.descriptorOf desc r) status 0 0 ∧
      u.epf.accepting = s.epf.accepting ∧ u.ownerKeys = s.ownerKeys ∧ u.reg (regTktSlot1 k) = s.reg (regTktSlot1 k)) := by
  obtain ⟨v, hexec⟩ := exec_commandDescriptor_read hlate hreads hext
  obtain ⟨code, ps, hcheck⟩ := h v
  have hback := returned_serves (s := s.counted v) (r := r) (l := l)
  have hepf := returned_epf (s := s.counted v) (r := r) (l := l)
  obtain ⟨hdone, kepf, kregs, kkeys, ksame⟩ := refuseTicket_spec (t := (s.counted v).returned r l) (c := s.descriptorOf desc r)
    (returned_servesHost.trans hserves) (by rw [hepf]; rfl) code status ps
  rw [hcheck] at hexec
  generalize ((s.counted v).returned r l).refuseTicket (s.descriptorOf desc r) code status ps = w at *
  have ht := issueReads_talks w 256
  obtain ⟨hlow, hnote, -⟩ := tktSlot1_low hk
  refine ⟨_, hexec, takes_of (s := s.counted v) ((ht.reg _).trans (kregs _ (epfCring1_notes _))) ((ht.reg _).trans (kregs _ epfStatus_notes))
    (sameMachine_trans ksame ht.sameMachine), ?_, ?_, ?_, (ht.reg _).trans ((kregs _ hnote).trans (returned_low hlow))⟩
  · rw [State.completes, ht.completions, hdone, hback.completions]
    rfl
  · have haccepting : (w.issueReads 256).epf.accepting = w.epf.accepting := ht.quiet Endpoint.accepting
    rw [haccepting, kepf, hepf]
    rfl
  · have hkeys : (w.issueReads 256).ownerKeys = w.ownerKeys := ht.serves.ownerKeys
    have hkeys' : ((s.counted v).returned r l).ownerKeys = (s.counted v).ownerKeys := hback.ownerKeys
    rw [hkeys, kkeys, hkeys']
    rfl

theorem commandDescriptor_badField (hform : formOk (s.descriptorOf desc r) = false) {k : Nat} (hk : k < 8) :
    Ends (.commandDescriptor desc []) s (fun u => s.takes u r ∧ s.completes u (s.descriptorOf desc r) stBadField 0 0 ∧
      u.epf.accepting = s.epf.accepting ∧ u.ownerKeys = s.ownerKeys ∧ u.reg (regTktSlot1 k) = s.reg (regTktSlot1 k)) :=
  commandDescriptor_refused hlate hreads hserves hext hk (fun _ => checkTicket_form hform)

variable (hform : formOk (s.descriptorOf desc r) = true)
include hform

omit hserves in
theorem commandDescriptor_lists (hticketed : (s.descriptorOf desc r).ticketed = false) (hfield : s.fieldStatus (s.descriptorOf desc r) = none)
    (hhere : ¬s.resetsHere (s.descriptorOf desc r)) :
    Ends (.commandDescriptor desc []) s (fun u => s.takes u r ∧ s.lists u (s.descriptorOf desc r)) := by
  obtain ⟨v, hexec⟩ := exec_commandDescriptor_read hlate hreads hext
  have hback := returned_serves (s := s.counted v) (r := r) (l := l)
  have himage : ((s.counted v).returned r l).reg regTrlImage = s.reg regTrlImage := returned_low (by decide)
  have hnum : ((s.counted v).returned r l).pkgNum = s.pkgNum := congrArg (bits · 4 0) himage
  have hclock : ((s.counted v).returned r l).clause = s.clause := hback.clause
  have hevents : ((s.counted v).returned r l).events = s.events := hback.events
  have hfield' : ((s.counted v).returned r l).fieldStatus (s.descriptorOf desc r) = none :=
    (fieldStatus_congr himage hclock (hback.longOps) _).trans hfield
  rw [checkTicket_unticketed hext hform hticketed, accept_unticketed hfield' hticketed
    (fun ⟨hop, htarget, hbit⟩ => hhere ⟨hop, htarget.trans hnum, hbit⟩)] at hexec
  refine ⟨_, hexec, takes_of (s := s.counted v) (((issueReads_talks _ 256).reg _).trans (localEvent_reg ..))
    (((issueReads_talks _ 256).reg _).trans (localEvent_reg ..)) (sameMachine_trans (localEvent_sameMachine ..) (issueReads_talks _ 256).sameMachine), [], ?_⟩
  · have hkept : ((((s.counted v).returned r l).localEvent (.command (s.descriptorOf desc r))
      (if (s.descriptorOf desc r).opcode = 0x13 then 2 else 5) 12 82).issueReads 256).events = _ :=
      (issueReads_talks _ 256).serves.events
    rw [hkept, localEvent_events, hevents, hclock, State.origin, hnum, State.origin, List.append_nil]

variable (hticketed : (s.descriptorOf desc r).ticketed = true)
include hticketed

omit hlate hreads hserves hext hform hticketed in
/-- The ticket slots as the checks find them. -/
theorem returned_slot (v : Tbl Word) {k : Nat} (hk : k < 8) : ((s.counted v).returned r l).fld (regTktSlot0 k) 0 0 = s.fld (regTktSlot0 k) 0 0 ∧
    ((s.counted v).returned r l).ownerKeys = s.ownerKeys ∧ ((s.counted v).returned r l).reg (regTktSlot1 k) = s.reg (regTktSlot1 k) := by
  obtain ⟨hlow, -, hlow0⟩ := tktSlot1_low hk
  exact ⟨congrArg (bits · 0 0) (returned_low hlow0), returned_serves.ownerKeys, returned_low hlow⟩

theorem commandDescriptor_inactive (hactive : ¬s.fld (regTktSlot0 ((s.descriptorOf desc r).slot.toNat % 8)) 0 0 = 1) :
    Ends (.commandDescriptor desc []) s (fun u => s.takes u r ∧ s.completes u (s.descriptorOf desc r) stSlotEmpty 0 0 ∧
      u.epf.accepting = s.epf.accepting ∧ u.ownerKeys = s.ownerKeys ∧ u.reg (regTktSlot1 ((s.descriptorOf desc r).slot.toNat % 8)) =
        s.reg (regTktSlot1 ((s.descriptorOf desc r).slot.toNat % 8))) := by
  refine commandDescriptor_refused hlate hreads hserves hext (Nat.mod_lt _ (by decide)) (fun v => ?_)
  obtain ⟨ps, _, _, hcheck⟩ := checkTicket_ticketed (t := (s.counted v).returned r l) (d := leBytes desc.toNat 128) hext hform hticketed
  obtain ⟨hslot, -, -⟩ := returned_slot (s := s) (r := r) (l := l) v (k := (s.descriptorOf desc r).slot.toNat % 8) (Nat.mod_lt _ (by decide))
  have hbit : s.fld (regTktSlot0 ((s.descriptorOf desc r).slot.toNat % 8)) 0 0 < 2 := bits_lt ..
  rw [if_pos (hslot.trans (by omega))] at hcheck
  exact ⟨_, ps, hcheck⟩

variable (hactive : s.fld (regTktSlot0 ((s.descriptorOf desc r).slot.toNat % 8)) 0 0 = 1)
include hactive

omit hlate hreads hserves in
/-- Checks 3 and 4 of a command for an active slot. -/
theorem checkTicket_active (v : Tbl Word) : ∃ ps2 ps3, ((s.counted v).returned r l).checkTicket (s.descriptorOf desc r) (leBytes desc.toNat 128) =
    if ticketTag (Tbl.get 0 s.ownerKeys ((s.descriptorOf desc r).slot.toNat % 8)) (leBytes desc.toNat 128) ≠ ((leBytes desc.toNat 128).drop 16).take 16 then
      ((s.counted v).returned r l).refuseTicket (s.descriptorOf desc r) 0x2001 stAuth ps2
    else if (s.descriptorOf desc r).counter.toNat ≤ (s.reg (regTktSlot1 ((s.descriptorOf desc r).slot.toNat % 8))).toNat then
      ((s.counted v).returned r l).refuseTicket (s.descriptorOf desc r) 0x2002 stReplay ps3
    else ((s.counted v).returned r l).beginAccept (s.descriptorOf desc r) := by
  obtain ⟨_, ps2, ps3, hcheck⟩ := checkTicket_ticketed (t := (s.counted v).returned r l) (d := leBytes desc.toNat 128) hext hform hticketed
  obtain ⟨hslot, hkeys, hlast⟩ := returned_slot (s := s) (r := r) (l := l) v (k := (s.descriptorOf desc r).slot.toNat % 8) (Nat.mod_lt _ (by decide))
  rw [hslot, hkeys, hlast, if_neg (by omega)] at hcheck
  exact ⟨ps2, ps3, hcheck⟩

theorem commandDescriptor_untagged (htag : ¬ticketTag (Tbl.get 0 s.ownerKeys ((s.descriptorOf desc r).slot.toNat % 8)) (leBytes desc.toNat 128) =
      ((leBytes desc.toNat 128).drop 16).take 16) :
    Ends (.commandDescriptor desc []) s (fun u => s.takes u r ∧ s.completes u (s.descriptorOf desc r) stAuth 0 0 ∧
      u.epf.accepting = s.epf.accepting ∧ u.ownerKeys = s.ownerKeys ∧ u.reg (regTktSlot1 ((s.descriptorOf desc r).slot.toNat % 8)) =
        s.reg (regTktSlot1 ((s.descriptorOf desc r).slot.toNat % 8))) := by
  refine commandDescriptor_refused hlate hreads hserves hext (Nat.mod_lt _ (by decide)) (fun v => ?_)
  obtain ⟨ps, _, hcheck⟩ := checkTicket_active (l := l) hext hform hticketed hactive v
  rw [if_pos htag] at hcheck
  exact ⟨_, ps, hcheck⟩

variable (htag : ticketTag (Tbl.get 0 s.ownerKeys ((s.descriptorOf desc r).slot.toNat % 8)) (leBytes desc.toNat 128) =
  ((leBytes desc.toNat 128).drop 16).take 16)
include htag

theorem commandDescriptor_replayed
    (hcounter : (s.descriptorOf desc r).counter.toNat ≤ (s.reg (regTktSlot1 ((s.descriptorOf desc r).slot.toNat % 8))).toNat) :
    Ends (.commandDescriptor desc []) s (fun u => s.takes u r ∧ s.completes u (s.descriptorOf desc r) stReplay 0 0 ∧
      u.epf.accepting = s.epf.accepting ∧ u.ownerKeys = s.ownerKeys ∧ u.reg (regTktSlot1 ((s.descriptorOf desc r).slot.toNat % 8)) =
        s.reg (regTktSlot1 ((s.descriptorOf desc r).slot.toNat % 8))) := by
  refine commandDescriptor_refused hlate hreads hserves hext (Nat.mod_lt _ (by decide)) (fun v => ?_)
  obtain ⟨_, ps, hcheck⟩ := checkTicket_active (l := l) hext hform hticketed hactive v
  rw [if_neg (not_not_intro htag), if_pos hcounter] at hcheck
  exact ⟨_, ps, hcheck⟩

omit hlate hreads hserves hext hform hticketed hactive htag in
theorem keyRecord_congr {u : State} (hregs : ∀ k, k < 8 → u.reg (regTktSlot0 k) = s.reg (regTktSlot0 k) ∧ u.reg (regTktSlot1 k) = s.reg (regTktSlot1 k))
    (hkeys : u.ownerKeys = s.ownerKeys) : u.keyRecord = s.keyRecord := by
  have hactive : (upTo 8).filter (fun k => u.fld (regTktSlot0 k) 0 0 = 1) = (upTo 8).filter (fun k => s.fld (regTktSlot0 k) 0 0 = 1) :=
    List.filter_congr (fun k hk => by rw [State.fld, State.fld, (hregs k (List.mem_range.1 hk)).1])
  rw [State.keyRecord, State.keyRecord, hactive, hkeys]
  exact List.map_congr_left (fun k hk => by rw [(hregs k (List.mem_range.1 (List.mem_of_mem_filter hk))).2])

/-- A ticketed command that waits for its flash write: LAST and the key record are written. -/
def State.waiting (t : State) (c : Command) : State :=
  ((t.setReg (regTktSlot1 (c.slot.toNat % 8)) c.counter).saveKeys).modEpf
    (fun e => { e with accepting := e.accepting ++ [{ cmd := c, mirror := 0, since := t.clause }] })

omit hlate hreads hserves hext hform hticketed hactive htag in
theorem beginAccept_alone {t : State} {c : Command} (h : t.joined = false) : t.beginAccept c = t.waiting c := by
  have hjoined : (t.setReg (regTktSlot1 (c.slot.toNat % 8)) c.counter).saveKeys.joined = false := by
    refine Eq.trans ?_ h
    refine congrArg (fun w => decide (bits w 5 5 = 1)) ((reg_setReg ..).trans (if_neg ?_))
    unfold regTrlImage regTktSlot1
    omega
  unfold State.beginAccept
  dsimp only
  rw [hjoined, Bool.false_and, if_neg Bool.false_ne_true]
  rfl

omit hlate hreads hserves hext hform hticketed hactive htag in
theorem waiting_spec (t : State) (c : Command) : let u := t.waiting c
    u.reg (regTktSlot1 (c.slot.toNat % 8)) = c.counter ∧ (∀ off, off ≠ regTktSlot1 (c.slot.toNat % 8) → u.reg off = t.reg off) ∧
      u.flash.keys0 = some u.keyRecord ∧ u.flash.keys1 = some u.keyRecord ∧ u.epf.accepting = t.epf.accepting ++ [{ cmd := c, mirror := 0, since := t.clause }] ∧
      u.completions = t.completions ∧ t.sameMachine u :=
  ⟨(reg_setReg ..).trans (if_pos rfl), fun _ ho => (reg_setReg ..).trans (if_neg ho), rfl, rfl, rfl, rfl, rfl, rfl, rfl⟩

omit hserves in
theorem commandDescriptor_waits (hcounter : (s.reg (regTktSlot1 ((s.descriptorOf desc r).slot.toNat % 8))).toNat < (s.descriptorOf desc r).counter.toNat)
    (hjoined : s.joined = false) : Ends (.commandDescriptor desc []) s (fun u => s.takes u r ∧
      u.reg (regTktSlot1 ((s.descriptorOf desc r).slot.toNat % 8)) = (s.descriptorOf desc r).counter ∧ u.flash.keys0 = some u.keyRecord ∧
      u.flash.keys1 = some u.keyRecord ∧ u.epf.accepting = s.epf.accepting ++ [{ cmd := s.descriptorOf desc r, mirror := 0, since := s.clause }] ∧
      u.completions = s.completions) := by
  obtain ⟨v, hexec⟩ := exec_commandDescriptor_read hlate hreads hext
  obtain ⟨_, _, hcheck⟩ := checkTicket_active (l := l) hext hform hticketed hactive v
  have hback := returned_serves (s := s.counted v) (r := r) (l := l)
  have hepf := returned_epf (s := s.counted v) (r := r) (l := l)
  have himage : ((s.counted v).returned r l).reg regTrlImage = s.reg regTrlImage := returned_low (by decide)
  have hjoined' : ((s.counted v).returned r l).joined = false := (congrArg (fun w => decide (bits w 5 5 = 1)) himage).trans hjoined
  rw [if_neg (not_not_intro htag), if_neg (Nat.not_le.2 hcounter), beginAccept_alone hjoined'] at hcheck
  obtain ⟨hlast, hregs, hkeys0, hkeys1, haccepting, hdone, hsame⟩ := waiting_spec ((s.counted v).returned r l) (s.descriptorOf desc r)
  rw [hcheck] at hexec
  have hring := hregs (regEpfCring1 r.ring) (by unfold regEpfCring1 regTktSlot1; omega)
  have hstatus := hregs regEpfStatus (by unfold regEpfStatus regTktSlot1; omega)
  have haccepted : ((s.counted v).returned r l).epf.accepting = s.epf.accepting := by rw [hepf, epf_counted]
  rw [haccepted, hback.clause] at haccepting
  rw [hback.completions] at hdone
  generalize ((s.counted v).returned r l).waiting (s.descriptorOf desc r) = w at *
  have ht := issueReads_talks w 256
  have hflash := ht.serves.flash
  have hrecord : (w.issueReads 256).keyRecord = w.keyRecord := keyRecord_congr (fun k _ => ⟨ht.reg _, ht.reg _⟩) ht.serves.ownerKeys
  have hkept : (w.issueReads 256).epf.accepting = w.epf.accepting := ht.quiet Endpoint.accepting
  exact ⟨_, hexec, takes_of (s := s.counted v) ((ht.reg _).trans hring) ((ht.reg _).trans hstatus) (sameMachine_trans hsame ht.sameMachine),
    (ht.reg _).trans hlast, by rw [hflash, hrecord, hkeys0], by rw [hflash, hrecord, hkeys1], hkept.trans haccepting, ht.completions.trans hdone⟩

end

/-! ### Acceptance of a ticketed command (R504) -/

section
variable {s : State} {a : Accept}

section
variable (hserves : s.servesHost = true) (h : s.epf.accepting = [a])
include hserves h

theorem ticketAccept_waits (hmirror : s.epf.mirrorAcked < a.mirror) : exec .ticketAccept s = .next s := by
  have hfind : s.epf.accepting.find? (fun a => decide (a.mirror ≤ s.epf.mirrorAcked)) = none := by simp [h, hmirror]
  rw [exec_ticketAccept, execTicketAccept, if_pos hserves, State.acceptNext, hfind]

variable (hmirror : a.mirror ≤ s.epf.mirrorAcked)
include hmirror

/-- A command leaves the commands that wait for their acceptance. -/
def State.accepted (s : State) (a : Accept) : State := s.modEpf (fun e => { e with accepting := e.accepting.erase a })

theorem exec_ticketAccept_next : exec .ticketAccept s = .next ((s.accepted a).accept a.cmd) := by
  have hfind : s.epf.accepting.find? (fun a => decide (a.mirror ≤ s.epf.mirrorAcked)) = some a := by simp [h, hmirror]
  rw [exec_ticketAccept, execTicketAccept, if_pos hserves, State.acceptNext, hfind]
  rfl

omit hserves hmirror in
theorem accepted_none : (s.accepted a).epf.accepting = [] := by
  rw [State.accepted, epf_modEpf, h]
  simp

theorem ticketAccept_refuses (hfield : s.fieldStatus a.cmd = some stBadField) (hgen : a.cmd.gen = s.epf.gen) : Ends .ticketAccept s (fun u =>
    u.epf.accepting = [] ∧ s.completes u a.cmd stBadField 0 0 ∧ s.sameMachine u) := by
  obtain ⟨hdone, hepf, -, -, hsame⟩ := refuseField_spec (t := s.accepted a) (c := a.cmd) hserves hgen stBadField
  have hfield' : (s.accepted a).fieldStatus a.cmd = some stBadField := hfield
  refine ⟨_, (exec_ticketAccept_next hserves h hmirror).trans ?_, (congrArg Endpoint.accepting hepf).trans (accepted_none h), hdone, hsame⟩
  rw [State.accept, hfield']

variable (hticketed : a.cmd.ticketed = true) (hfield : s.fieldStatus a.cmd = none)
include hticketed hfield

theorem ticketAccept_resets (hhere : s.resetsHere a.cmd) (hgen : a.cmd.gen = s.epf.gen) : Ends .ticketAccept s (fun u => u.epf.accepting = [] ∧
    u.resetDue = some { a.cmd with stamp := some s.clause } ∧ s.completes u { a.cmd with stamp := some s.clause } stOk 0 0 ∧ s.sameMachine u) := by
  obtain ⟨hdue, hdone, hepf, hsame⟩ := accept_resets (t := s.accepted a) (c := a.cmd) hfield hticketed hhere hserves hgen
  exact ⟨_, exec_ticketAccept_next hserves h hmirror, (congrArg Endpoint.accepting hepf).trans (accepted_none h), hdue, hdone, hsame⟩

theorem ticketAccept_lists (hhere : ¬s.resetsHere a.cmd) : Ends .ticketAccept s (fun u => u.epf.accepting = [] ∧
    s.lists u { a.cmd with stamp := some s.clause } ∧ u.completions = s.completions ∧ s.sameMachine u) := by
  obtain ⟨hlists, hdone, hepf, hsame⟩ := accept_lists (t := s.accepted a) (c := a.cmd) hfield hticketed hhere
  exact ⟨_, exec_ticketAccept_next hserves h hmirror, (congrArg Endpoint.accepting hepf).trans (accepted_none h), hlists, hdone, hsame⟩

end

end

/-! ### Completions (R497, R498) -/

section
variable {s : State} {x : Completion}

theorem commandCompletion_idle (h : s.epfMaster = false ∨ s.completions = []) : exec .commandCompletion s = .next s := by
  rw [exec_commandCompletion, execCommandCompletion]
  obtain h | h := h
  · rw [h, if_neg Bool.false_ne_true]
  · rw [h, List.find?_nil, ite_self]

section
variable (h : s.completions = [x])
include h

theorem commandCompletion_full (hroom : s.pringRoom (s.pringOf x.cmd) = false) : exec .commandCompletion s = .next s := by
  have hfind : s.completions.find? (fun x => s.pringRoom (s.pringOf x.cmd)) = none := by simp [h, hroom]
  rw [exec_commandCompletion, execCommandCompletion, hfind, ite_self]

/-- A completion has gone to its ring; its vector and the reads it lets are still to come. -/
def State.wrote (s : State) (x : Completion) : State :=
  let j := s.pringOf x.cmd
  let n := s.fld (regEpfPring1 j) 63 32
  (s.epfOut (.memWrite (s.fld (regEpfPring0 j) 63 12 * 4096 + n % s.pringSize j * 32) 32 (completionBits x ((n / s.pringSize j + 1) % 2)))).setFld
    (regEpfPring1 j) 63 32 (n + 1)

/-- The completion is no longer held. -/
def State.forgets (s : State) (x : Completion) : State := { s with completions := s.completions.erase x }

variable (hmaster : s.epfMaster = true) (hroom : s.pringRoom (s.pringOf x.cmd) = true)
include hmaster hroom

theorem exec_commandCompletion_writes : ∃ w, (s.wrote x).talks w ∧
    (x.cmd.int = false → x.status = stRunning → w = s.wrote x) ∧
    exec .commandCompletion s = .next (if x.final then (w.forgets x).notOutstanding.issueReads 256 else w.forgets x) := by
  have hfind : s.completions.find? (fun x => s.pringRoom (s.pringOf x.cmd)) = some x := by simp [h, hroom]
  refine ⟨if x.cmd.int || !(decide (x.status = stOk) || decide (x.status = stRunning)) then
    (s.wrote x).sendMsix ((s.wrote x).fld (regEpfPring1 (s.pringOf x.cmd)) 26 16) else s.wrote x, talks_ite (sendMsix_talks _ _) (talks_refl _), ?_, ?_⟩
  · intro hint hstatus
    rw [hint, hstatus]
    rfl
  · rw [exec_commandCompletion, execCommandCompletion, if_pos hmaster, hfind]
    rfl

omit h hmaster hroom in
theorem wrote_spec (s : State) (x : Completion) : let j := s.pringOf x.cmd
    s.serves (s.wrote x) ∧ (s.wrote x).fld (regEpfPring1 j) 63 32 = (s.fld (regEpfPring1 j) 63 32 + 1) % 2 ^ 32 ∧
      (s.wrote x).epf.out = s.epf.out ++ [.memWrite (s.fld (regEpfPring0 j) 63 12 * 4096 + s.fld (regEpfPring1 j) 63 32 % s.pringSize j * 32) 32
        (completionBits x ((s.fld (regEpfPring1 j) 63 32 / s.pringSize j + 1) % 2))] := by
  refine ⟨serves_trans (epfOut_talks s _).serves (setFld_serves _ _ _ _ _), fld_setFld _ _ _ _ _ (by decide) (by decide), ?_⟩
  obtain ⟨v, hv⟩ := epfOut_said s (.memWrite (s.fld (regEpfPring0 (s.pringOf x.cmd)) 63 12 * 4096 +
    s.fld (regEpfPring1 (s.pringOf x.cmd)) 63 32 % s.pringSize (s.pringOf x.cmd) * 32) 32
    (completionBits x ((s.fld (regEpfPring1 (s.pringOf x.cmd)) 63 32 / s.pringSize (s.pringOf x.cmd) + 1) % 2)))
  rw [State.wrote, setFld_epf, hv]
  rfl

omit hmaster hroom in
theorem forgets_spec {w : State} (hw : (s.wrote x).talks w) : (w.forgets x).completions = [] ∧
    (w.forgets x).fld (regEpfPring1 (s.pringOf x.cmd)) 63 32 = (s.fld (regEpfPring1 (s.pringOf x.cmd)) 63 32 + 1) % 2 ^ 32 ∧ s.sameMachine (w.forgets x) := by
  obtain ⟨hserves, hhead, -⟩ := wrote_spec s x
  have hdone : w.completions = [x] := (hw.completions.trans hserves.completions).trans h
  refine ⟨?_, (hw.fld ..).trans hhead, sameMachine_trans (b := w) (sameMachine_trans hserves.sameMachine hw.sameMachine) ⟨rfl, rfl, rfl⟩⟩
  rw [State.forgets, hdone]
  simp

theorem commandCompletion_runs (hfinal : x.final = false) (hint : x.cmd.int = false) (hstatus : x.status = stRunning) :
    Ends .commandCompletion s (fun u => u.completions = [] ∧
      u.fld (regEpfPring1 (s.pringOf x.cmd)) 63 32 = (s.fld (regEpfPring1 (s.pringOf x.cmd)) 63 32 + 1) % 2 ^ 32 ∧ s.sameMachine u ∧
      u.epf.out = s.epf.out ++ [.memWrite (s.fld (regEpfPring0 (s.pringOf x.cmd)) 63 12 * 4096 +
        s.fld (regEpfPring1 (s.pringOf x.cmd)) 63 32 % s.pringSize (s.pringOf x.cmd) * 32) 32
        (completionBits x ((s.fld (regEpfPring1 (s.pringOf x.cmd)) 63 32 / s.pringSize (s.pringOf x.cmd) + 1) % 2))]) := by
  obtain ⟨w, hw, hquiet, hexec⟩ := exec_commandCompletion_writes h hmaster hroom
  obtain ⟨hnone, hhead, hsame⟩ := forgets_spec h hw
  obtain ⟨-, -, hout⟩ := wrote_spec s x
  rw [hfinal, if_neg Bool.false_ne_true] at hexec
  obtain rfl := hquiet hint hstatus
  exact ⟨_, hexec, hnone, hhead, hsame, hout⟩

theorem commandCompletion_ends (hfinal : x.final = true) : Ends .commandCompletion s (fun u => u.completions = [] ∧
    u.fld (regEpfPring1 (s.pringOf x.cmd)) 63 32 = (s.fld (regEpfPring1 (s.pringOf x.cmd)) 63 32 + 1) % 2 ^ 32 ∧ s.sameMachine u) := by
  obtain ⟨w, hw, -, hexec⟩ := exec_commandCompletion_writes h hmaster hroom
  obtain ⟨hnone, hhead, hsame⟩ := forgets_spec h hw
  rw [hfinal, if_pos rfl] at hexec
  generalize w.forgets x = y at *
  have ht := issueReads_talks y.notOutstanding 256
  have hring : regEpfPring1 (s.pringOf x.cmd) ≠ regEpfStatus := by unfold regEpfPring1 regEpfStatus; omega
  have hreg : y.notOutstanding.reg (regEpfPring1 (s.pringOf x.cmd)) = y.reg (regEpfPring1 (s.pringOf x.cmd)) := reg_setFld_ne _ _ _ _ _ _ hring
  exact ⟨_, hexec, ht.completions.trans hnone, (congrArg (bits · 63 32) ((ht.reg _).trans hreg)).trans hhead,
    sameMachine_trans (b := y.notOutstanding) hsame ht.sameMachine⟩

end

end

/-- Settles O56: one lemma for each outcome of a poll, of a descriptor's checks, of an acceptance and of a completion. -/
theorem tickets : Obligations.Tickets := by
  intro words desc r l a x i s doorbells changed cur next due asked polled d c k read taken refused listed here active tagged j chead
  have hk : k < 8 := Nat.mod_lt _ (by decide)
  exact ⟨doorbellPoll_early, fun ⟨hmaster, hon, hdue⟩ => doorbellPoll_noRing hmaster hon hdue,
    fun ⟨hmaster, hon, hdue⟩ => doorbellPoll_reads hmaster hon hdue, commandDescriptor_idle,
    fun ⟨hlate, hreads, hserves, hext, _⟩ hform => commandDescriptor_badField hlate hreads hserves hext hform hk,
    fun ⟨hlate, hreads, _, hext, _⟩ => commandDescriptor_lists hlate hreads hext,
    fun ⟨hlate, hreads, hserves, hext, _⟩ => commandDescriptor_inactive hlate hreads hserves hext,
    fun ⟨hlate, hreads, hserves, hext, _⟩ => commandDescriptor_untagged hlate hreads hserves hext,
    fun ⟨hlate, hreads, hserves, hext, _⟩ => commandDescriptor_replayed hlate hreads hserves hext,
    fun ⟨hlate, hreads, _, hext, _⟩ => commandDescriptor_waits hlate hreads hext,
    ticketAccept_waits, fun hserves h hmirror hticketed hfield hhere => ticketAccept_resets hserves h hmirror hticketed hfield hhere,
    fun hserves h hmirror hticketed hfield hhere => ticketAccept_lists hserves h hmirror hticketed hfield hhere,
    fun hserves h hmirror hfield => ticketAccept_refuses hserves h hmirror hfield, commandCompletion_idle, commandCompletion_full,
    fun hmaster h hroom => commandCompletion_runs h hmaster hroom, fun hmaster h hroom => commandCompletion_ends h hmaster hroom⟩

end Sys2Proof.Machine

/-! ## The trip log, the notice line and the counter collector

Records that are stored, dropped or suppressed, the spill, tokens, the freeze, the notice (R613, R622 to R634), and the snapshots of the counters
(R656 to R660). -/

namespace Sys2Proof.Machine
open Sys2Proof

/-! ### Lists and tables -/

theorem nodup_eraseDups {α : Type} [BEq α] [LawfulBEq α] (l : List α) : l.eraseDups.Nodup := by
  induction hn : l.length using Nat.strong_induction_on generalizing l with
  | _ n ih =>
    cases l with
    | nil => exact List.nodup_nil
    | cons a as =>
      have hlt : (as.filter (fun b => !b == a)).length < n := by
        subst hn
        exact Nat.lt_succ_of_le (List.length_filter_le _ as)
      rw [List.eraseDups_cons, List.nodup_cons]
      refine ⟨fun hmem => ?_, ih _ hlt _ rfl⟩
      simpa using (List.mem_filter.1 (List.mem_eraseDups.1 hmem)).2

/-- A key that no entry has reads as the default. -/
theorem Tbl_get_unlisted {V : Type} (d : V) {t : Tbl V} {k : Nat} (h : k ∉ t.map (·.1)) : Tbl.get d t k = d := by
  induction t with
  | nil => rfl
  | cons p t ih =>
    simp only [List.map_cons, List.mem_cons, not_or] at h
    obtain ⟨hne, hrest⟩ := h
    exact (if_neg (fun heq => hne heq.symm)).trans (ih hrest)

/-- A field that counts, and saturates. -/
theorem fld_addFld (s : State) (off hi lo n : Nat) (h : lo ≤ hi) (h64 : hi < 64) :
    (s.addFld off hi lo n).fld off hi lo = satTo (2 ^ (hi - lo + 1) - 1) (s.fld off hi lo + n) := by
  have hpos : 0 < 2 ^ (hi - lo + 1) := Nat.two_pow_pos _
  rw [State.addFld, fld_setFld _ _ _ _ _ h h64]
  refine Nat.mod_eq_of_lt ?_
  unfold satTo
  split <;> omega

/-! ### Pages that the system may write -/

/-- The check of a range reads the package's number, the end of its DRAM, and the page ownership table. -/
theorem systemRange_congr {s u : State} (himage : u.reg regTrlImage = s.reg regTrlImage) (htop : u.reg regDmcTop = s.reg regDmcTop)
    (hbase : u.reg regRlmPotbase = s.reg regRlmPotbase) (hpot : u.pot = s.pot) (pa n : Nat) : u.systemRange pa n = s.systemRange pa n := by
  have hnum : u.pkgNum = s.pkgNum := congrArg (bits · 4 0) himage
  have hfirst : u.potFirst = s.potFirst := by rw [State.potFirst, State.potFirst, State.fld, State.fld, hbase]
  have hown (page : Nat) : u.ownOk 0 page = s.ownOk 0 page := by
    rw [State.ownOk, State.ownOk, State.potEntry, State.potEntry, hpot, hfirst]
  unfold State.systemRange
  simp only [hnum, htop, hown]

/-! ### The oldest queued record (R622 to R624, R628, R634) -/

theorem noticeStored_none {s : State} (h : s.notice.due = none) (r : Rec) (ix : Nat) : s.noticeStored r ix = s := by
  unfold State.noticeStored
  rw [h]

theorem writeNotice_none {s : State} (h : s.notice.due = none) : s.writeNotice = s := by
  unfold State.writeNotice
  rw [h]

/-- A store that is full loses its oldest record. -/
def State.tailMoved (s : State) : State :=
  if (s.reg regTlgTail).toNat + 65536 ≤ (s.reg regTlgHead).toNat then s.setReg regTlgTail (BitVec.ofNat 64 ((s.reg regTlgHead).toNat - 65535)) else s

/-- A record stands in the store. -/
def State.stored (s : State) (r : Rec) : State :=
  State.setReg { s.tailMoved with log := { s.tailMoved.log with store := Tbl.set s.tailMoved.log.store ((s.reg regTlgHead).toNat % 65536) r } } regTlgHead
    (BitVec.ofNat 64 ((s.reg regTlgHead).toNat + 1))

theorem tailMoved_spec (s : State) : (∀ off, off ≠ regTlgTail → s.tailMoved.reg off = s.reg off) ∧ s.tailMoved.log = s.log ∧
    s.tailMoved.notice = s.notice ∧ s.tailMoved.sent = s.sent ∧ s.sameMachine s.tailMoved := by
  unfold State.tailMoved
  split
  · exact ⟨fun off ho => (reg_setReg ..).trans (if_neg ho), rfl, rfl, rfl, rfl, rfl, rfl⟩
  · exact ⟨fun _ _ => rfl, rfl, rfl, rfl, rfl, rfl, rfl⟩

theorem stored_spec (s : State) (r : Rec) : (∀ off, off ≠ regTlgTail → off ≠ regTlgHead → (s.stored r).reg off = s.reg off) ∧
    (s.stored r).reg regTlgHead = s.reg regTlgHead + 1 ∧
    (s.stored r).log = { s.log with store := Tbl.set s.log.store ((s.reg regTlgHead).toNat % 65536) r } ∧ (s.stored r).notice = s.notice ∧
    (s.stored r).sent = s.sent ∧ s.sameMachine (s.stored r) := by
  obtain ⟨hregs, hlog, hnotice, hsent, hsame⟩ := tailMoved_spec s
  unfold State.stored
  generalize s.tailMoved = t at *
  refine ⟨fun off htail hhead => (reg_setReg ..).trans ((if_neg hhead).trans (hregs off htail)), ?_, ?_, hnotice, hsent, hsame⟩
  · rw [reg_setReg, if_pos rfl]
    exact BitVec.eq_of_toNat_eq (by simp)
  · rw [setReg_log, hlog]

theorem storeRec_stored {s : State} (hdue : s.notice.due = none) (hmanager : s.joined = true → s.isManager = true) (r : Rec) :
    s.storeRec r = s.stored r := by
  obtain ⟨hregs, -, -, hnotice, -, -⟩ := stored_spec s r
  have hjoined : (s.stored r).joined = s.joined := by rw [State.joined, State.joined, State.fld, State.fld, hregs _ (by decide) (by decide)]
  have hclock : (s.stored r).timeSource = s.timeSource := by
    rw [State.timeSource, State.timeSource, State.fld, State.fld, hregs _ (by decide) (by decide)]
  have hleads : (s.stored r).isManager = s.isManager := by
    rw [State.isManager, State.isManager, hjoined, hclock, State.managerNum, State.managerNum, State.pkgNum, State.pkgNum, State.fld, State.fld,
      State.fld, State.fld, hregs _ (by decide) (by decide)]
  change ((s.stored r).noticeStored r (s.reg regTlgHead).toNat).forwardRec r = _
  rw [noticeStored_none (by rw [hnotice, hdue])]
  refine if_neg ?_
  rw [hjoined, hleads]
  cases hj : s.joined with
  | false => simp
  | true => simp [hmanager hj]

/-- A record that a frozen store does not take is counted, and its class noted. -/
theorem dropFrozen_spec (s : State) (r : Rec) : (s.dropFrozen r).log = s.log ∧ (s.dropFrozen r).notice = s.notice ∧
    (s.dropFrozen r).reg regTlgHead = s.reg regTlgHead ∧
    (s.dropFrozen r).fld regTlgFreeze 63 32 = satTo (2 ^ 32 - 1) (s.fld regTlgFreeze 63 32 + 1) ∧ (s.dropFrozen r).sent = s.sent ∧
    s.sameMachine (s.dropFrozen r) := by
  unfold State.dropFrozen
  refine ⟨rfl, rfl, ?_, ?_, rfl, rfl, rfl, rfl⟩
  · dsimp only
    rw [reg_setFld_ne _ _ _ _ _ _ (by decide), reg_addFld_ne _ _ _ _ _ _ (by decide)]
  · dsimp only
    rw [fld_setFld_same _ _ _ _ _ _ _ (by decide) (by decide) (by decide), fld_addFld _ _ _ _ _ (by decide) (by decide)]

/-- The oldest record has left the queue. -/
def State.dequeued (s : State) (l : List QRec) : State := { s with log := { s.log with queue := l } }

/-- The oldest record has left the queue, and the tokens are those of `b`. -/
def State.dequeuedWith (s : State) (l : List QRec) (b : Tbl Nat) : State := { s with log := { s.log with queue := l, buckets := b } }

section
variable {q : QRec} {l : List QRec} {s : State}

theorem tripLogRecord_empty (h : s.log.queue = []) : exec .tripLogRecord s = .next s := by rw [exec_tripLogRecord, execTripLogRecord, h]

theorem tripLogRecord_open (h : s.log.queue = q :: l) (hopen : s.clauseOpen q.proc = true) : exec .tripLogRecord s = .next s := by
  rw [exec_tripLogRecord, execTripLogRecord, h]
  exact if_pos hopen

/-- A record whose clause has ended passes its bucket. -/
theorem tripLogRecord_passes {w : State} (h : s.log.queue = q :: l) (hclosed : s.clauseOpen q.proc = false) (hw : (s.dequeued l).passBucket q.r = w)
    (hdrop : w.log.dropDue = false) (hdue : w.notice.due = none) : exec .tripLogRecord s = .next w := by
  have hpass : ({ s with log := { s.log with queue := l } } : State).passBucket q.r = w := hw
  rw [exec_tripLogRecord, execTripLogRecord, h]
  dsimp only
  rw [if_neg (by rw [hclosed]; exact Bool.false_ne_true), hpass, if_neg (by simp [hdrop]), writeNotice_none hdue]

section
variable (h : s.log.queue = q :: l) (hdrop : s.log.dropDue = false) (hdue : s.notice.due = none) (hclosed : s.clauseOpen q.proc = false)
include h hdrop hdue hclosed

omit h hdrop hdue hclosed in
/-- Another number of tokens is no other record. -/
theorem setBucket_spec (t : State) (code n : Nat) : (t.setBucket code n).regs = t.regs ∧ (t.setBucket code n).notice = t.notice ∧
    (t.setBucket code n).log = { t.log with buckets := Tbl.set t.log.buckets code n } ∧ (t.setBucket code n).sent = t.sent ∧
    t.sameMachine (t.setBucket code n) := ⟨rfl, rfl, rfl, rfl, rfl, rfl, rfl⟩

omit h hdrop hdue hclosed in
/-- A record that its bucket lets pass goes on from a state with the tokens left. -/
theorem passBucket_passes (hpass : neverSuppressed q.r.code.toNat = true ∨
    (0 < s.bucket q.r.code.toNat ∧ (Tbl.get {} s.log.suppressed q.r.code.toNat).count = 0)) :
    ∃ b, (s.dequeued l).passBucket q.r = (s.dequeuedWith l b).storeOrDrop q.r := by
  unfold State.passBucket
  extract_lets code waiting t
  split
  · exact ⟨s.log.buckets, rfl⟩
  next hnever =>
    obtain ⟨hbucket, hcount⟩ := hpass.resolve_left (fun hn => hnever (.inl hn))
    have ht : t = s.dequeued l := if_neg (by
      have hwaiting : waiting = false := decide_eq_false (by rw [show Tbl.get {} (s.dequeued l).log.suppressed code = _ from rfl, Nat.not_lt]; exact hcount.le)
      rw [hwaiting]
      simp)
    rw [ht]
    exact ⟨_, if_pos hbucket⟩

theorem tripLogRecord_stores (hfrozen : s.frozen = false) (hpass : neverSuppressed q.r.code.toNat = true ∨
      (0 < s.bucket q.r.code.toNat ∧ (Tbl.get {} s.log.suppressed q.r.code.toNat).count = 0)) (hmanager : s.joined = true → s.isManager = true) :
    Ends .tripLogRecord s (fun u => u.log.queue = l ∧ u.reg regTlgHead = s.reg regTlgHead + 1 ∧
      Tbl.find u.log.store ((s.reg regTlgHead).toNat % 65536) = some q.r ∧ u.sent = s.sent ∧ s.sameMachine u) := by
  obtain ⟨b, hb⟩ := passBucket_passes (l := l) hpass
  have hstore : (s.dequeuedWith l b).storeOrDrop q.r =
      (s.dequeuedWith l b).stored q.r := by
    rw [State.storeOrDrop, if_neg (by change ¬s.frozen = true; simp [hfrozen]), storeRec_stored (s := s.dequeuedWith l b) hdue hmanager]
  obtain ⟨-, hhead, hlog, hnotice, hsent, hsame⟩ := stored_spec (s.dequeuedWith l b) q.r
  refine ⟨_, tripLogRecord_passes h hclosed (hb.trans hstore) (by rw [hlog]; exact hdrop) (by rw [hnotice]; exact hdue), by rw [hlog]; rfl, hhead, ?_,
    hsent, hsame⟩
  rw [hlog]
  exact (Tbl_find_set ..).trans (if_pos rfl)

theorem tripLogRecord_drops (hfrozen : s.frozen = true) (hnever : neverSuppressed q.r.code.toNat = true) :
    Ends .tripLogRecord s (fun u => u.log.queue = l ∧ u.log.store = s.log.store ∧ u.reg regTlgHead = s.reg regTlgHead ∧
      u.fld regTlgFreeze 63 32 = satTo (2 ^ 32 - 1) (s.fld regTlgFreeze 63 32 + 1) ∧ u.sent = s.sent ∧ s.sameMachine u) := by
  obtain ⟨b, hb⟩ := passBucket_passes (l := l) (.inl hnever)
  have hdropped : (s.dequeuedWith l b).storeOrDrop q.r =
      (s.dequeuedWith l b).dropFrozen q.r := if_pos hfrozen
  obtain ⟨hlog, hnotice, hhead, hcount, hsent, hsame⟩ := dropFrozen_spec (s.dequeuedWith l b) q.r
  exact ⟨_, tripLogRecord_passes h hclosed (hb.trans hdropped) (by rw [hlog]; exact hdrop) (by rw [hnotice]; exact hdue), by rw [hlog]; rfl,
    by rw [hlog]; rfl, hhead, hcount, hsent, hsame⟩

theorem tripLogRecord_suppresses (hnever : neverSuppressed q.r.code.toNat = false) (hown : q.r.realm.getLsbD 15 = false)
    (hempty : s.bucket q.r.code.toNat = 0) : Ends .tripLogRecord s (fun u => u.log.queue = l ∧ u.log.store = s.log.store ∧ u.regs = s.regs ∧
      (Tbl.get {} u.log.suppressed q.r.code.toNat).count = (Tbl.get {} s.log.suppressed q.r.code.toNat).count + 1 ∧
      u.sent = s.sent ∧ s.sameMachine u) := by
  have hbucket : (s.dequeued l).bucket q.r.code.toNat = 0 := hempty
  have hpass : (s.dequeued l).passBucket q.r = (s.dequeued l).suppress q.r := by
    unfold State.passBucket
    dsimp only
    rw [if_neg (not_or.2 ⟨by rw [hnever]; exact Bool.false_ne_true, by rw [hown]; exact Bool.false_ne_true⟩), hbucket]
    simp only [gt_iff_lt, Nat.lt_irrefl, decide_false, Bool.and_false, Bool.false_eq_true, if_false, hbucket]
  refine ⟨_, tripLogRecord_passes h hclosed hpass hdrop hdue, rfl, rfl, rfl, ?_, rfl, rfl, rfl, rfl⟩
  exact congrArg Suppressed.count ((Tbl_get_set ..).trans (if_pos rfl))

end

/-! ### The spill (R625) -/

theorem spillCopy_off (h : s.fld regTlgSpill 0 0 = 0) : exec .spillCopy s = .next s := if_pos (.inl h)

/-- The spill has taken record `i`, and the one after it when they share a line. -/
def State.spilled (s : State) (i : Nat) : State :=
  (s.setReg regTlgSpilled (BitVec.ofNat 64 (if i / 2 * 2 + 1 < (s.reg regTlgHead).toNat then i / 2 * 2 + 2 else i + 1))).setFld regTlgStatus 1 1 1

theorem spillCopy_copies (hon : s.fld regTlgSpill 0 0 = 1) (hfrozen : s.frozen = false) (hleft : (s.reg regTlgSpilled).toNat < (s.reg regTlgHead).toNat)
    (hcheck : s.spillCheck (s.spillBase + (s.reg regTlgSpilled).toNat % s.spillLen * 32) = 0) : Ends .spillCopy s (fun u =>
      (s.reg regTlgSpilled).toNat < (u.reg regTlgSpilled).toNat ∧ s.sameMachine u ∧ ∃ m, u.sent = s.sent ++ [m] ∧ m.type = .wrP ∧
        m.hdr.addr = lineOf (s.spillBase + (s.reg regTlgSpilled).toNat % s.spillLen * 32) ∧
        m.body = .bytes (BitVec.ofNat 512 (s.recBits ((s.reg regTlgSpilled).toNat / 2 * 2) + s.recBits ((s.reg regTlgSpilled).toNat / 2 * 2 + 1) * 2 ^ 256))
          (BitVec.allOnes 64)) := by
  obtain ⟨hregs, hsent, hsame⟩ := portWrite_keeps (s := s) (u := 86) (by decide) 0
    (lineOf (s.spillBase + (s.reg regTlgSpilled).toNat % s.spillLen * 32))
    (BitVec.ofNat 512 (s.recBits ((s.reg regTlgSpilled).toNat / 2 * 2) + s.recBits ((s.reg regTlgSpilled).toNat / 2 * 2 + 1) * 2 ^ 256)) (BitVec.allOnes 64)
  have hhead : (s.reg regTlgHead).toNat < 2 ^ 64 := (s.reg regTlgHead).isLt
  have hexec : exec .spillCopy s = .next ((s.portWrite 86 0 (lineOf (s.spillBase + (s.reg regTlgSpilled).toNat % s.spillLen * 32))
      (BitVec.ofNat 512 (s.recBits ((s.reg regTlgSpilled).toNat / 2 * 2) + s.recBits ((s.reg regTlgSpilled).toNat / 2 * 2 + 1) * 2 ^ 256))
      (BitVec.allOnes 64)).spilled (s.reg regTlgSpilled).toNat) := by
    have hruns : ¬(s.fld regTlgSpill 0 0 = 0 ∨ s.frozen = true ∨ (s.reg regTlgHead).toNat ≤ (s.reg regTlgSpilled).toNat) := by
      rintro (hoff | hfreeze | hle)
      · omega
      · exact Bool.false_ne_true (hfrozen.symm.trans hfreeze)
      · exact Nat.not_le.2 hleft hle
    rw [exec_spillCopy, execSpillCopy, if_neg hruns]
    simp only [hcheck]
    rfl
  generalize s.portWrite 86 0 (lineOf (s.spillBase + (s.reg regTlgSpilled).toNat % s.spillLen * 32))
    (BitVec.ofNat 512 (s.recBits ((s.reg regTlgSpilled).toNat / 2 * 2) + s.recBits ((s.reg regTlgSpilled).toNat / 2 * 2 + 1) * 2 ^ 256))
    (BitVec.allOnes 64) = w at *
  have hkept : w.reg regTlgHead = s.reg regTlgHead := by rw [State.reg, hregs, State.reg]
  refine ⟨_, hexec, ?_, sameMachine_trans (b := w) hsame ⟨rfl, rfl, rfl⟩, _, hsent, rfl, rfl, rfl⟩
  unfold State.spilled
  rw [hkept]
  rw [reg_setFld_ne _ _ _ _ _ _ (by decide), reg_setReg, if_pos rfl, BitVec.toNat_ofNat]
  split
  · rw [Nat.mod_eq_of_lt (by omega)]
    omega
  · rw [Nat.mod_eq_of_lt (by omega)]
    omega

end

/-! ### Tokens (R628) -/

/-- The state with other tokens. -/
def State.bucketed (s : State) (b : Tbl Nat) : State := { s with log := { s.log with buckets := b } }

section
variable {s : State} {b : Tbl Nat}

theorem bucket_bucketed (code : Nat) : (s.bucketed b).bucket code = satTo (s.bucketDepth code) (Tbl.get (s.bucketDepth code) b code) := rfl

theorem bucket_le (s : State) (code : Nat) : s.bucket code ≤ s.bucketDepth code := by
  unfold State.bucket satTo
  split <;> omega

/-- A bucket gains a token, and no other does. -/
theorem addToken_bucket (s : State) (code : Nat) : ∃ b, s.addToken code = s.bucketed b ∧ ∀ k, (s.bucketed b).bucket k =
    if k = code then satTo (s.bucketDepth code) (s.bucket code + 1) else s.bucket k := by
  have hle := bucket_le s code
  unfold State.addToken
  split
  next hlt =>
    refine ⟨Tbl.set s.log.buckets code (s.bucket code + 1), rfl, fun k => ?_⟩
    rw [bucket_bucketed, Tbl_get_set]
    split
    next hk => rw [hk]
    next => rfl
  next hfull =>
    refine ⟨Tbl.erase s.log.buckets code, rfl, fun k => ?_⟩
    rw [bucket_bucketed, Tbl_get_erase]
    split
    next hk =>
      rw [hk]
      unfold satTo
      split <;> split <;> omega
    next => rfl

theorem giveToken_unsuppressed (h : s.log.suppressed = []) (code : Nat) : s.giveToken code = s.addToken code := by
  obtain ⟨b, hb, -⟩ := addToken_bucket s code
  have hnone : (s.addToken code).log.suppressed = [] := by rw [hb]; exact h
  unfold State.giveToken
  dsimp only
  rw [hnone]
  rfl

/-- Each bucket of a list gains a token. -/
theorem giveTokens_buckets {l : List Nat} (hl : l.Nodup) (h : s.log.suppressed = []) : ∃ b, s.giveTokens l = s.bucketed b ∧ ∀ k, (s.bucketed b).bucket k =
    if k ∈ l then satTo (s.bucketDepth k) (s.bucket k + 1) else s.bucket k := by
  induction l generalizing s with
  | nil => exact ⟨s.log.buckets, rfl, fun _ => rfl⟩
  | cons code l ih =>
    obtain ⟨hcode, hrest⟩ := List.nodup_cons.1 hl
    obtain ⟨b, hb, hbucket⟩ := addToken_bucket s code
    obtain ⟨b', hb', hbucket'⟩ := ih (s := s.bucketed b) hrest h
    have hgives : s.giveTokens (code :: l) = (s.bucketed b).giveTokens l := by
      rw [State.giveTokens, List.foldl_cons, giveToken_unsuppressed h, hb, State.giveTokens]
    refine ⟨b', hgives.trans hb', fun k => (hbucket' k).trans ?_⟩
    rw [hbucket, show (s.bucketed b).bucketDepth k = s.bucketDepth k from rfl]
    by_cases hk : k = code
    · subst hk
      rw [if_neg hcode, if_pos rfl, if_pos List.mem_cons_self]
    · rw [if_neg hk]
      simp [hk]

theorem rateToken_gives {cls : Fin 16} (h : s.log.suppressed = []) : Ends (.rateToken cls) s (fun u => (∀ code, u.bucket code =
    if codeClass code = cls.val then satTo (s.bucketDepth code) (s.bucket code + 1) else s.bucket code) ∧ u.regs = s.regs ∧ u.sent = s.sent ∧
      s.sameMachine u) := by
  have hmem (code : Nat) : code ∈ s.log.codesOf cls.val ↔ code ∈ s.log.buckets.map (·.1) ∧ codeClass code = cls.val := by
    simp [TripLog.codesOf, List.mem_eraseDups, h]
  obtain ⟨b, hb, hbucket⟩ := giveTokens_buckets (l := s.log.codesOf cls.val) (nodup_eraseDups _) h
  refine ⟨_, congrArg Host.Outcome.next hb, fun code => (hbucket code).trans ?_, rfl, rfl, rfl, rfl, rfl⟩
  by_cases hclass : codeClass code = cls.val
  · by_cases hlisted : code ∈ s.log.buckets.map (·.1)
    · rw [if_pos ((hmem code).2 ⟨hlisted, hclass⟩), if_pos hclass]
    · have hfull : s.bucket code = s.bucketDepth code := by
        rw [State.bucket, Tbl_get_unlisted _ hlisted]
        simp [satTo]
      rw [if_neg (fun hm => hlisted ((hmem code).1 hm).1), if_pos hclass, hfull]
      simp [satTo]
  · rw [if_neg (fun hm => hclass ((hmem code).1 hm).2), if_neg hclass]

end

/-! ### The freeze (R634) -/

section
variable {s : State}

theorem unfreezeLog_spec (hfrozen : s.frozen = true) (how : Nat) : let u := s.unfreezeLog how
    u.frozen = false ∧ u.fld regTlgFreeze 0 0 = 0 ∧ u.log.store = s.log.store ∧ u.sent = s.sent ∧ s.sameMachine u := by
  intro u
  have hl := emit_logs { ((s.setFld regTlgFreeze 0 0 0).setFld regTlgStatus 0 0 0) with log := { s.log with frozenAt := none } } 12 86 0x00E1 0
    [((s.setFld regTlgFreeze 0 0 0).setFld regTlgStatus 0 0 0).fld regTlgFreeze 63 32,
      ((s.setFld regTlgFreeze 0 0 0).setFld regTlgStatus 0 0 0).fld regTlgFreeze 31 16, how]
  have hu : u = _ := if_pos hfrozen
  have hnone : u.log.frozenAt = none := by rw [hu]; exact hl.unlogged (fun x : State => x.log.frozenAt)
  refine ⟨by rw [State.frozen, hnone]; rfl, ?_, ?_, ?_, ?_⟩
  · rw [hu]
    refine (hl.regs.fld (by decide) 0 0).trans ?_
    change ((s.setFld regTlgFreeze 0 0 0).setFld regTlgStatus 0 0 0).fld regTlgFreeze 0 0 = 0
    rw [fld_setFld_ne _ _ _ _ _ _ _ _ (.inl (by decide)) (by decide) (by decide), fld_setFld _ _ _ _ _ (by decide) (by decide)]
    rfl
  · rw [hu]
    exact hl.unlogged (fun x : State => x.log.store)
  · rw [hu]
    exact hl.sent
  · rw [hu]
    exact hl.sameMachine

section
variable (hhere : ¬(s.isManager = true ∧ s.fld regTlgCursor 52 48 ≠ s.pkgNum ∧ s.isMember (s.fld regTlgCursor 52 48) = true))
include hhere

theorem freezeWrite_here (on : Bool) : exec (.freeze on) s = .next (if on then s.freezeLog else s.unfreezeLog 1) :=
  congrArg Host.Outcome.next (if_neg hhere)

theorem freeze_freezes (hfrozen : s.frozen = false) : Ends (.freeze true) s (fun u => u.log.frozenAt = some s.clause ∧ u.fld regTlgFreeze 0 0 = 1 ∧
    u.fld regTlgStatus 0 0 = 1 ∧ u.log.store = s.log.store ∧ u.sent = s.sent ∧ s.sameMachine u) := by
  have hlog : s.freezeLog = { ((s.setReg regTlgFreeze 1).setFld regTlgStatus 0 0 1) with log := { s.log with frozenAt := some s.clause } } :=
    if_neg (by simp [hfrozen])
  have hexec := freezeWrite_here hhere true
  rw [if_pos rfl, hlog] at hexec
  refine ⟨_, hexec, rfl, ?_, ?_, rfl, rfl, rfl, rfl, rfl⟩
  · change ((s.setReg regTlgFreeze 1).setFld regTlgStatus 0 0 1).fld regTlgFreeze 0 0 = 1
    rw [fld_setFld_ne _ _ _ _ _ _ _ _ (.inl (by decide)) (by decide) (by decide), State.fld, reg_setReg, if_pos rfl]
    decide
  · change ((s.setReg regTlgFreeze 1).setFld regTlgStatus 0 0 1).fld regTlgStatus 0 0 = 1
    rw [fld_setFld _ _ _ _ _ (by decide) (by decide)]
    rfl

theorem freeze_frozen (hfrozen : s.frozen = true) : exec (.freeze true) s = .next s ∧ Ends (.freeze false) s (fun u => u.frozen = false ∧
    u.fld regTlgFreeze 0 0 = 0 ∧ u.log.store = s.log.store ∧ u.sent = s.sent ∧ s.sameMachine u) :=
  ⟨(freezeWrite_here hhere true).trans (congrArg Host.Outcome.next (if_pos hfrozen)), _, freezeWrite_here hhere false, unfreezeLog_spec hfrozen 1⟩

end

theorem freezeTimeout_unfreezes {c : Word} (h : s.log.frozenAt = some c) (hdue : c.toNat + 250000 ≤ s.clause.toNat) : Ends .freezeTimeout s (fun u =>
    u.frozen = false ∧ u.fld regTlgFreeze 0 0 = 0 ∧ u.log.store = s.log.store ∧ u.sent = s.sent ∧ s.sameMachine u) := by
  have hexec : exec .freezeTimeout s = .next (s.unfreezeLog 2) := by
    rw [exec_freezeTimeout, execFreezeTimeout, h]
    exact if_pos hdue
  exact ⟨_, hexec, unfreezeLog_spec (by rw [State.frozen, h]; rfl) 2⟩

theorem freezeTimeout_early {c : Word} (h : s.log.frozenAt = some c) (hdue : s.clause.toNat < c.toNat + 250000) : exec .freezeTimeout s = .next s := by
  rw [exec_freezeTimeout, execFreezeTimeout, h]
  exact if_neg (Nat.not_le.2 hdue)

/-! ### The deferred notice (R613) -/

theorem noticeSpacingExpiry_none (h : s.notice.due = none) : exec .noticeSpacingExpiry s = .next s := congrArg Host.Outcome.next (writeNotice_none h)

theorem noticeSpacingExpiry_writes {code realm seq : Nat} {origin : BitVec 16} (hdue : s.notice.due = some (code, realm, origin))
    (hseq : s.notice.seq = some seq) (hon : s.fld regGlbErrnote 0 0 = 1) (htime : s.noticeTime = true)
    (hcheck : s.systemRange (s.fld regGlbErrnote 51 6 * 64) 64 = 0) : Ends .noticeSpacingExpiry s (fun u => u.notice.due = none ∧
      u.notice.count = s.notice.count + 1 ∧ u.notice.last = some s.clause ∧ s.sameMachine u ∧
      ∃ m, u.sent = s.sent ++ [m] ∧ m.type = .wrP ∧ m.hdr.addr = lineOf (s.fld regGlbErrnote 51 6 * 64)) := by
  have hnotice : ∃ d, s.writeNotice = { s.portWrite 81 0 (lineOf (s.fld regGlbErrnote 51 6 * 64)) d (BitVec.allOnes 64) with
      notice := { count := s.notice.count + 1, last := some (s.portWrite 81 0 (lineOf (s.fld regGlbErrnote 51 6 * 64)) d (BitVec.allOnes 64)).clause,
                  lastCe := if s.notice.ueDue then s.notice.lastCe
                    else some (s.portWrite 81 0 (lineOf (s.fld regGlbErrnote 51 6 * 64)) d (BitVec.allOnes 64)).clause } } := by
    unfold State.writeNotice
    rw [hdue, hseq]
    dsimp only
    rw [if_pos ⟨hon, htime⟩, hcheck]
    exact ⟨_, rfl⟩
  obtain ⟨d, hd⟩ := hnotice
  obtain ⟨ports, hports⟩ := portWrite_sends (s := s) (u := 81) (by decide) 0 (lineOf (s.fld regGlbErrnote 51 6 * 64)) d (BitVec.allOnes 64)
  rw [hports] at hd
  exact ⟨_, congrArg Host.Outcome.next hd, rfl, rfl, rfl, ⟨rfl, rfl, rfl⟩, _, rfl, rfl, rfl⟩

end

/-! ### Snapshots of the counters (R656 to R660) -/

section
variable {s : State}

/-- Lines of slots are messages of port 83, one each. -/
theorem dumpSlots_sends (s : State) (base n : Nat) : (s.dumpSlots base n).sent.length = s.sent.length + n ∧ s.sameMachine (s.dumpSlots base n) := by
  induction n with
  | zero => exact ⟨rfl, rfl, rfl, rfl⟩
  | succ n ih =>
    obtain ⟨hlen, hsame⟩ := ih
    obtain ⟨-, hsent, hkept⟩ := portWrite_keeps (s := s.dumpSlots base n) (u := 83) (by decide) 0 (lineOf (base + 0x40 + n * 64))
      (BitVec.ofNat 512 ((upTo 8).foldr (fun k v => (s.counterValue (n * 8 + k)).toNat + v * 2 ^ 64) 0)) (BitVec.allOnes 64)
    rw [State.dumpSlots]
    refine ⟨?_, sameMachine_trans hsame hkept⟩
    rw [hsent, List.length_append, hlen, List.length_singleton, Nat.add_assoc]

/-- What a snapshot that is taken leaves (R658). -/
def State.dumpTaken (s u : State) (expl : Nat) : Prop := u.dump.next = s.dump.next + 1 ∧ u.dump.missed = 0 ∧
  u.dump.job = some { number := s.dump.next, addr := s.dumpAddr s.dump.next, clause := s.clause,
                      header := s.fld regPccDumpctl 63 32 + s.pkgNum * 2 ^ 32 + expl * 2 ^ 40 + s.dump.missed * 2 ^ 48 } ∧
  u.sent.length = s.sent.length + 383 ∧ s.sameMachine u

theorem dumpSettle_idle (h : s.dump.job = none) : s.dumpSettle = s := by
  unfold State.dumpSettle
  rw [h]

theorem dumpSettle_waits {x : DumpJob} (h : s.dump.job = some x) (hheader : x.headerSent = false) : s.dumpSettle = s := by
  unfold State.dumpSettle
  rw [h]
  exact if_neg (by simp [hheader])

theorem setDump_spec (s : State) (d : Dump) : (s.setDump d).dump = d ∧ (s.setDump d).sent = s.sent ∧ s.sameMachine (s.setDump d) ∧
    (s.setDump d).regs = s.regs := ⟨rfl, rfl, ⟨rfl, rfl, rfl⟩, rfl⟩

/-- The job of a snapshot that is taken. -/
def State.dumpJob (s : State) (expl : Bool) : DumpJob :=
  { number := s.dump.next, addr := s.dumpAddr s.dump.next, clause := s.clause,
    header := s.fld regPccDumpctl 63 32 + s.pkgNum * 2 ^ 32 + b2n expl * 2 ^ 40 + s.dump.missed * 2 ^ 48 }

theorem snapshot_eq (hjob : s.dump.job = none) (hskip : s.dumpSkip = none) (hregion : s.dumpRegion = 0) (expl : Bool) : s.snapshot expl =
    (s.dumpSlots (s.dumpAddr s.dump.next) 383).setDump { next := s.dump.next + 1, missed := 0, job := some (s.dumpJob expl) } := by
  unfold State.snapshot
  rw [dumpSettle_idle hjob]
  simp only [hskip, hregion, State.dumpJob]

theorem snapshot_takes (hjob : s.dump.job = none) (hheld : s.sourcesHeld = false) (hmode : s.mode ≠ modeHalt) (hboot : s.fld regGlbBoot 3 3 = 1)
    (hregion : s.dumpRegion = 0) (expl : Bool) : s.dumpTaken (s.snapshot expl) (b2n expl) := by
  have hskip : s.dumpSkip = none := by simp [State.dumpSkip, hjob, hheld, hmode, hboot]
  obtain ⟨hlen, hsame⟩ := dumpSlots_sends s (s.dumpAddr s.dump.next) 383
  rw [snapshot_eq hjob hskip hregion]
  generalize s.dumpSlots (s.dumpAddr s.dump.next) 383 = w at *
  obtain ⟨hdump, hsent, hkept, -⟩ := setDump_spec w { next := s.dump.next + 1, missed := 0, job := some (s.dumpJob expl) }
  refine ⟨?_, ?_, ?_, (congrArg List.length hsent).trans hlen, sameMachine_trans hsame hkept⟩
  · rw [hdump]
  · rw [hdump]
  · rw [hdump, State.dumpJob]

/-- The check of the dump region reads its base and size too. -/
theorem dumpRegion_congr {u : State} (hregs : ∀ off, off ≠ regPccDumpctl → off ≠ regPccDumpstat → off ∉ noteRegs → u.reg off = s.reg off)
    (hsize : u.fld regPccDumpctl 7 4 = s.fld regPccDumpctl 7 4) (hpot : u.pot = s.pot) : u.dumpRegion = s.dumpRegion := by
  have hbase : u.dumpBase = s.dumpBase := by rw [State.dumpBase, State.dumpBase, State.fld, State.fld, hregs _ (by decide) (by decide) (by decide)]
  rw [State.dumpRegion, State.dumpRegion, hbase, hsize]
  exact systemRange_congr (hregs _ (by decide) (by decide) (by decide)) (hregs _ (by decide) (by decide) (by decide))
    (hregs _ (by decide) (by decide) (by decide)) hpot _ _

/-- A snapshot more has been missed. -/
def State.dumpMissed (s : State) : State :=
  (s.setDump { s.dump with missed := satTo 65535 (s.dump.missed + 1) }).addFld regPccDumpstat 63 48 1

theorem addFld_spec (s : State) (off hi lo n : Nat) : (s.addFld off hi lo n).dump = s.dump ∧ (s.addFld off hi lo n).sent = s.sent ∧
    s.sameMachine (s.addFld off hi lo n) := ⟨rfl, rfl, rfl, rfl, rfl⟩

theorem dumpMissed_spec (s : State) : s.dumpMissed.dump = { s.dump with missed := satTo 65535 (s.dump.missed + 1) } ∧ s.dumpMissed.sent = s.sent ∧
    s.sameMachine s.dumpMissed ∧ s.dumpMissed.fld regPccDumpstat 63 48 = satTo 65535 (s.fld regPccDumpstat 63 48 + 1) := by
  obtain ⟨hdump, hsent, hsame, hregs⟩ := setDump_spec s { s.dump with missed := satTo 65535 (s.dump.missed + 1) }
  unfold State.dumpMissed
  generalize s.setDump { s.dump with missed := satTo 65535 (s.dump.missed + 1) } = t at *
  obtain ⟨kdump, ksent, ksame⟩ := addFld_spec t regPccDumpstat 63 48 1
  refine ⟨kdump.trans hdump, ksent.trans hsent, sameMachine_trans hsame ksame, ?_⟩
  rw [fld_addFld _ _ _ _ _ (by decide) (by decide), fld_of_regs hregs]
  exact congrArg (satTo · (s.fld regPccDumpstat 63 48 + 1)) (by decide)

/-- A free value that is spent, or none. -/
theorem spent_spec (c : Prop) [Decidable c] (t : State) : let u := if c then t.spendFree else t
    u.dump = t.dump ∧ u.sent = t.sent ∧ t.sameMachine u ∧ u.regs = t.regs := by
  dsimp only
  split
  · exact ⟨rfl, rfl, ⟨rfl, rfl, rfl⟩, rfl⟩
  · exact ⟨rfl, rfl, ⟨rfl, rfl, rfl⟩, rfl⟩

theorem counterDump_early (h : ¬(s.fld regPccDumpctl 0 0 = 1 ∧ s.clause.toNat % s.fld regPccDumpctl 63 32 = 0)) : exec .counterDump s = .next s :=
  congrArg Host.Outcome.next (if_neg h)

section
variable (hon : s.fld regPccDumpctl 0 0 = 1)
include hon

section
variable (hdue : s.clause.toNat % s.fld regPccDumpctl 63 32 = 0)
include hdue

theorem exec_counterDump_due : exec .counterDump s = .next (s.snapshot false) := congrArg Host.Outcome.next (if_pos ⟨hon, hdue⟩)

omit hon hdue in
/-- A snapshot that is skipped is counted, and the first in a row recorded. -/
theorem snapshot_misses {x : DumpJob} (h : s.dump.job = some x) (hheader : x.headerSent = false) (expl : Bool) :
    (if s.mode = modeHalt then s.dumpMissed.spendFree else s.dumpMissed).logs (s.snapshot expl) := by
  have hskip : s.dumpSkip = some 1 := if_pos (by rw [h]; rfl)
  have hsnap : s.snapshot expl = if s.dump.missed = 0 then
      (if s.mode = modeHalt then s.dumpMissed.spendFree else s.dumpMissed).emit 12 83 0xD001 0 [s.dump.next % 2 ^ 32, 1]
      else if s.mode = modeHalt then s.dumpMissed.spendFree else s.dumpMissed := by
    unfold State.snapshot
    rw [dumpSettle_waits h hheader]
    simp only [hskip]
    rfl
  rw [hsnap]
  exact logs_ite (emit_logs ..) (logs_refl _)

theorem counterDump_misses {x : DumpJob} (h : s.dump.job = some x) (hheader : x.headerSent = false) : Ends .counterDump s (fun u =>
    u.dump.missed = satTo 65535 (s.dump.missed + 1) ∧ u.dump.job = some x ∧ u.dump.next = s.dump.next ∧ u.sent = s.sent ∧ s.sameMachine u ∧
    u.fld regPccDumpstat 63 48 = satTo 65535 (s.fld regPccDumpstat 63 48 + 1)) := by
  have hl := snapshot_misses h hheader false
  obtain ⟨hdump, hsent, hsame, hcount⟩ := dumpMissed_spec s
  obtain ⟨kdump, ksent, ksame, kregs⟩ := spent_spec (s.mode = modeHalt) s.dumpMissed
  generalize (if s.mode = modeHalt then s.dumpMissed.spendFree else s.dumpMissed) = w at *
  have hdump' : (s.snapshot false).dump = { s.dump with missed := satTo 65535 (s.dump.missed + 1) } :=
    (hl.unlogged State.dump).trans (kdump.trans hdump)
  refine ⟨_, exec_counterDump_due hon hdue, by rw [hdump'], by rw [hdump']; exact h, by rw [hdump'], hl.sent.trans (ksent.trans hsent),
    sameMachine_trans hsame (sameMachine_trans ksame hl.sameMachine), ?_⟩
  rw [hl.regs.fld (by decide), fld_of_regs kregs, hcount]

end

theorem dumpRequested_takes (hnow : s.fld regPccDumpctl 1 1 = 1) (hjob : s.dump.job = none) (hheld : s.sourcesHeld = false) (hmode : s.mode ≠ modeHalt)
    (hboot : s.fld regGlbBoot 3 3 = 1) (hregion : s.dumpRegion = 0) : s.dumpTaken s.dumpRequested 1 := by
  have hother {off : Nat} (ho : off ≠ regPccDumpctl) : (s.setFld regPccDumpctl 1 1 0).reg off = s.reg off := reg_setFld_ne _ _ _ _ _ _ ho
  have hctl {hi lo : Nat} (hlo : 1 < lo) (hle : lo ≤ hi) : (s.setFld regPccDumpctl 1 1 0).fld regPccDumpctl hi lo = s.fld regPccDumpctl hi lo :=
    fld_setFld_same _ _ _ _ _ _ _ (.inr hlo) (by decide) hle
  have hmode' : (s.setFld regPccDumpctl 1 1 0).mode = s.mode := congrArg (bits · 3 0) (hother (by decide))
  have hheld' : (s.setFld regPccDumpctl 1 1 0).sourcesHeld = false := by
    rw [State.sourcesHeld, hmode', State.heldBit, State.fld, hother (by decide)]
    exact hheld
  have hboot' : (s.setFld regPccDumpctl 1 1 0).fld regGlbBoot 3 3 = 1 := (congrArg (bits · 3 3) (hother (by decide))).trans hboot
  have hregion' : (s.setFld regPccDumpctl 1 1 0).dumpRegion = 0 :=
    (dumpRegion_congr (fun off ho _ _ => hother ho) (hctl (by decide) (by decide)) rfl).trans hregion
  obtain ⟨hnext, hmissed, htaken, hsent, hsame⟩ := snapshot_takes (s := s.setFld regPccDumpctl 1 1 0) hjob hheld' (fun h => hmode (hmode'.symm.trans h)) hboot' hregion' true
  have hexec : s.dumpRequested = (s.setFld regPccDumpctl 1 1 0).snapshot true := if_pos ⟨hon, hnow⟩
  have haddr : (s.setFld regPccDumpctl 1 1 0).dumpAddr s.dump.next = s.dumpAddr s.dump.next := by
    have hbase : (s.setFld regPccDumpctl 1 1 0).dumpBase = s.dumpBase := by
      rw [State.dumpBase, State.dumpBase, State.fld, hother (by decide), State.fld]
    rw [State.dumpAddr, State.dumpAddr, hbase, hctl (by decide) (by decide)]
  have hnum : (s.setFld regPccDumpctl 1 1 0).pkgNum = s.pkgNum := congrArg (bits · 4 0) (hother (by decide))
  rw [setFld_dump, haddr, hctl (by decide) (by decide), hnum] at htaken
  rw [hexec]
  exact ⟨hnext, hmissed, htaken, hsent, hsame⟩

end

theorem dumpNow_asks (hmode : s.mode ≠ modeHalt) : Ends .dumpNow s (fun u => u.fld regPccDumpctl 1 1 = 1 ∧ u.dump = s.dump ∧ u.sent = s.sent ∧
    s.sameMachine u) :=
  ⟨_, congrArg Host.Outcome.next (if_neg hmode), fld_setFld _ _ _ _ _ (by decide) (by decide), rfl, rfl, rfl, rfl, rfl⟩

theorem dump_halted (h : s.mode = modeHalt) : exec .dumpNow s = .next s ∧ exec .dumpEnable s = .next s :=
  ⟨congrArg Host.Outcome.next (if_pos h), congrArg Host.Outcome.next (if_pos h)⟩

/-- The collector is enabled, before its region is checked. -/
def State.dumpOn (s : State) : State :=
  ((s.setFld regPccDumpctl 0 0 1).setReg regPccDumpstat 0).setDump { s.dump with next := 0, missed := 0 }

theorem dumpOn_regs (s : State) : (∀ off, off ≠ regPccDumpctl → off ≠ regPccDumpstat → s.dumpOn.reg off = s.reg off) ∧
    s.dumpOn.fld regPccDumpctl 0 0 = 1 ∧ s.dumpOn.fld regPccDumpctl 7 4 = s.fld regPccDumpctl 7 4 ∧ s.dumpOn.reg regPccDumpstat = 0 := by
  have hreg (off : Nat) : s.dumpOn.reg off = if off = regPccDumpstat then 0 else (s.setFld regPccDumpctl 0 0 1).reg off := reg_setReg ..
  have hctl (hi lo : Nat) : s.dumpOn.fld regPccDumpctl hi lo = (s.setFld regPccDumpctl 0 0 1).fld regPccDumpctl hi lo := by
    rw [State.fld, hreg, if_neg (by decide), State.fld]
  refine ⟨fun off hc hs => ?_, ?_, ?_, ?_⟩
  · rw [hreg, if_neg hs, reg_setFld_ne _ _ _ _ _ _ hc]
  · rw [hctl, fld_setFld _ _ _ _ _ (by decide) (by decide)]
    rfl
  · rw [hctl, fld_setFld_same _ _ _ _ _ _ _ (.inr (by decide)) (by decide) (by decide)]
  · rw [hreg, if_pos rfl]

/-- The check of the dump region at the enable. -/
def State.dumpChecked (s : State) : State :=
  match s.dumpRegion with
  | 0 => s
  | cause => s.dumpOff cause

theorem dumpChecked_spec {w : State} (h : w.fld regPccDumpctl 0 0 = 1) : w.dumpChecked.fld regPccDumpctl 0 0 = (if w.dumpRegion = 0 then 1 else 0) ∧
    w.dumpChecked.reg regPccDumpstat = w.reg regPccDumpstat ∧ w.dumpChecked.dump = w.dump ∧ w.dumpChecked.sent = w.sent ∧
    w.sameMachine w.dumpChecked := by
  unfold State.dumpChecked
  split
  next hzero => exact ⟨h.trans (if_pos hzero).symm, rfl, rfl, rfl, rfl, rfl, rfl⟩
  next hbad =>
    have hl := emit_logs (w.setFld regPccDumpctl 0 0 0) 12 83 0xD002 0 [w.dumpRegion, w.fld regPccDumpbase 31 21]
    refine ⟨(hl.regs.fld (by decide) 0 0).trans ?_, (hl.regs _ (by decide)).trans (reg_setFld_ne _ _ _ _ _ _ (by decide)), hl.unlogged State.dump,
      hl.sent, hl.sameMachine⟩
    rw [if_neg hbad]
    exact fld_setFld _ _ _ _ _ (by decide) (by decide)

theorem dumpEnable_enables (hoff : s.fld regPccDumpctl 0 0 = 0) (hmode : s.mode ≠ modeHalt) : Ends .dumpEnable s (fun u =>
    u.fld regPccDumpctl 0 0 = (if s.dumpRegion = 0 then 1 else 0) ∧ u.reg regPccDumpstat = 0 ∧ u.dump.next = 0 ∧ u.dump.missed = 0 ∧
    u.dump.job = s.dump.job ∧ u.sent = s.sent ∧ s.sameMachine u) := by
  obtain ⟨hother, henabled, hsize, hcount⟩ := dumpOn_regs s
  have hl := emit_logs s.dumpOn 12 83 0xD000 0 [s.dumpOn.fld regPccDumpctl 63 32, s.dumpOn.fld regPccDumpctl 7 4, s.dumpOn.fld regPccDumpbase 31 21]
  have hexec : exec .dumpEnable s = .next (State.dumpChecked (s.dumpOn.emit 12 83 0xD000 0
      [s.dumpOn.fld regPccDumpctl 63 32, s.dumpOn.fld regPccDumpctl 7 4, s.dumpOn.fld regPccDumpbase 31 21])) := by
    rw [exec_dumpEnable, execDumpEnable, if_neg hmode, State.dumpEnable, if_neg (by omega)]
    rfl
  generalize s.dumpOn.emit 12 83 0xD000 0
    [s.dumpOn.fld regPccDumpctl 63 32, s.dumpOn.fld regPccDumpctl 7 4, s.dumpOn.fld regPccDumpbase 31 21] = w at *
  have hregion : w.dumpRegion = s.dumpRegion := dumpRegion_congr (fun off hctl hstat hnote => (hl.regs off hnote).trans (hother off hctl hstat))
    ((hl.regs.fld (by decide) 7 4).trans hsize) (hl.unlogged State.pot)
  obtain ⟨hctl, hstat, hdump, hsent, hsame⟩ := dumpChecked_spec ((hl.regs.fld (by decide) 0 0).trans henabled)
  have hdump' : w.dump = { s.dump with next := 0, missed := 0 } := hl.unlogged State.dump
  refine ⟨_, hexec, by rw [hctl, hregion], hstat.trans ((hl.regs _ (by decide)).trans hcount), by rw [hdump, hdump'], by rw [hdump, hdump'],
    by rw [hdump, hdump'], hsent.trans hl.sent, sameMachine_trans (b := w) hl.sameMachine hsame⟩

/-! ### The header (R658) -/

theorem dumpCommit_idle (h : s.dump.job = none) : exec .dumpCommit s = .next s := by rw [exec_dumpCommit, execDumpCommit, h]

section
variable {x : DumpJob} (h : s.dump.job = some x)
include h

theorem dumpCommit_waits (hheader : x.headerSent = false) (hquiet : s.portQuiet 83 = false) : exec .dumpCommit s = .next s := by
  rw [exec_dumpCommit, execDumpCommit, h]
  dsimp only
  rw [if_neg (by simp [hheader]), if_neg (by simp [hquiet])]

theorem dumpCommit_sends (hheader : x.headerSent = false) (hquiet : s.portQuiet 83 = true) : Ends .dumpCommit s (fun u =>
    u.dump = { s.dump with job := some { x with headerSent := true } } ∧ s.sameMachine u ∧ ∃ m, u.sent = s.sent ++ [m] ∧ m.type = .wrP ∧
      m.hdr.addr = lineOf x.addr ∧
      m.body = .bytes (BitVec.ofNat 512 (x.clause.toNat + x.number % 2 ^ 64 * 2 ^ 64 + x.header * 2 ^ 128)) (BitVec.allOnes 64)) := by
  obtain ⟨ports, hports⟩ := portWrite_sends (s := s) (u := 83) (by decide) 0 (lineOf x.addr)
    (BitVec.ofNat 512 (x.clause.toNat + x.number % 2 ^ 64 * 2 ^ 64 + x.header * 2 ^ 128)) (BitVec.allOnes 64)
  have hexec : exec .dumpCommit s = .next ((s.portWrite 83 0 (lineOf x.addr)
      (BitVec.ofNat 512 (x.clause.toNat + x.number % 2 ^ 64 * 2 ^ 64 + x.header * 2 ^ 128)) (BitVec.allOnes 64)).setDump
      { s.dump with job := some { x with headerSent := true } }) := by
    rw [exec_dumpCommit, execDumpCommit, h]
    dsimp only
    rw [if_neg (by simp [hheader]), if_pos hquiet]
  rw [hports] at hexec
  exact ⟨_, hexec, rfl, ⟨rfl, rfl, rfl⟩, _, rfl, rfl, rfl, rfl⟩

theorem dumpCommit_settles (hheader : x.headerSent = true) (hquiet : s.portQuiet 83 = true) : Ends .dumpCommit s (fun u =>
    u.dump = { s.dump with job := none } ∧ u.fld regPccDumpstat 47 0 = satTo (2 ^ 48 - 1) (s.fld regPccDumpstat 47 0 + 1) ∧ u.sent = s.sent ∧
      s.sameMachine u) := by
  have hexec : exec .dumpCommit s = .next ((s.setDump { s.dump with job := none }).addFld regPccDumpstat 47 0 1) := by
    rw [exec_dumpCommit, execDumpCommit, h]
    dsimp only
    rw [if_pos hheader, State.dumpSettle, h]
    exact congrArg Host.Outcome.next (if_pos (by simp [hheader, hquiet]))
  refine ⟨_, hexec, rfl, ?_, rfl, rfl, rfl, rfl⟩
  exact fld_addFld _ _ _ _ _ (by decide) (by decide)

end

end

/-- Settles O49: one lemma for each outcome of a queued record, of the spill, the tokens, the freeze and the notice, and of a snapshot and its header. -/
theorem logAndCounters : Obligations.LogAndCounters := by
  constructor
  · intro q l cls c code realm seq origin s quiet here i
    exact ⟨tripLogRecord_empty, tripLogRecord_open,
      fun ⟨h, hdrop, hdue, hclosed⟩ hfrozen hpass => tripLogRecord_stores h hdrop hdue hclosed hfrozen hpass,
      fun ⟨h, hdrop, hdue, hclosed⟩ => tripLogRecord_drops h hdrop hdue hclosed,
      fun ⟨h, hdrop, hdue, hclosed⟩ => tripLogRecord_suppresses h hdrop hdue hclosed, spillCopy_off, spillCopy_copies, rateToken_gives,
      freeze_freezes, freeze_frozen, freezeTimeout_unfreezes, freezeTimeout_early, noticeSpacingExpiry_none, noticeSpacingExpiry_writes⟩
  · intro x s free due taken
    exact ⟨counterDump_early,
      fun ⟨hon, hdue⟩ ⟨hjob, hheld, hmode, hboot, hregion⟩ => ⟨_, exec_counterDump_due hon hdue, snapshot_takes hjob hheld hmode hboot hregion false⟩,
      fun hon hnow ⟨hjob, hheld, hmode, hboot, hregion⟩ => dumpRequested_takes hon hnow hjob hheld hmode hboot hregion,
      fun ⟨hon, hdue⟩ => counterDump_misses hon hdue, dumpNow_asks, dump_halted, fun hoff _ => dumpEnable_enables hoff, dumpCommit_idle,
      dumpCommit_waits, dumpCommit_sends, dumpCommit_settles⟩

end Sys2Proof.Machine

/-! ## Parasol

Sensors, alarms, the trip, the clamp, frequency changes (R585 to R588, R592, R595, R596), and what a quantum boundary records (R584 to R594). -/

namespace Sys2Proof.Machine
open Sys2Proof

theorem modParasol_sameMachine (s : State) (f : Parasol → Parasol) : s.sameMachine (s.modParasol f) := ⟨rfl, rfl, rfl⟩

theorem setFld_sameMachine (s : State) (off hi lo v : Nat) : s.sameMachine (s.setFld off hi lo v) := ⟨rfl, rfl, rfl⟩

theorem thmStatus_notes : regThmStatus ∉ noteRegs := by decide

theorem thmCluster_notes {k : Nat} (hk : k < 60) : regThmCluster k ∉ noteRegs := by
  simp only [noteRegs, List.mem_cons, List.not_mem_nil, regThmCluster, regTlgStatus, regGlbErrsum, or_false]
  omega

theorem thmCluster_status (k : Nat) : regThmCluster k ≠ regThmStatus := by
  unfold regThmCluster regThmStatus
  omega

/-! ### Sensors and alarms (R585, R586, R595) -/

theorem sensor_setSensor (s : State) (i : Nat) (x : Sensor) : (s.setSensor i x).sensor i = x := (Tbl_get_set ..).trans (if_pos rfl)

theorem setSensor_sameMachine (s : State) (i : Nat) (x : Sensor) : s.sameMachine (s.setSensor i x) := modParasol_sameMachine s _

theorem sensor_congr {s u : State} (h : u.parasol.sensors = s.parasol.sensors) (i : Nat) : u.sensor i = s.sensor i := by
  unfold State.sensor
  rw [h]

/-- ALERT_N follows the alarms and HALT, and bit 3 of THM.STATUS the channels' alarms. -/
theorem alertUpdate_spec (s : State) : let u := s.alertUpdate
    u.parasol = s.parasol ∧ u.realms = s.realms ∧ s.sameMachine u ∧ u.regs = (s.setFld regThmStatus 3 3 (b2n !s.parasol.dimmHot.isEmpty)).regs ∧
      (s.parasol.alarms.isEmpty = false → u.alertN = true) :=
  ⟨rfl, rfl, ⟨rfl, rfl, rfl⟩, rfl, fun h => by
    change (decide (State.mode (s.setFld regThmStatus 3 3 (b2n !s.parasol.dimmHot.isEmpty)) = modeHalt) || !s.parasol.dimmHot.isEmpty ||
      !s.parasol.alarms.isEmpty) = true
    rw [h, Bool.not_false, Bool.or_true]⟩

/-- An alarm of cluster `k` stands in the tables and registers; its record is to come. -/
def State.alarmNoted (s : State) (k : Nat) : State :=
  ((s.modParasol (fun p => { p with alarms := Tbl.set p.alarms k s.clause })).setFld (regThmCluster k) 22 22 1).setFld regThmStatus 4 4 1

section
variable {s : State} {i k : Nat} {temp : Int}

theorem clusterAlarm_cool (h : temp < s.parasol.temp) : s.clusterAlarm i temp = s := by
  unfold State.clusterAlarm
  split
  · rfl
  · exact if_pos (.inr (.inr h))

theorem clusterAlarm_eq : s.clusterAlarm i temp = s ∨ ∃ k u, (s.alarmNoted k).logs u ∧ s.clusterAlarm i temp = u.alertUpdate := by
  unfold State.clusterAlarm
  split
  · exact .inl rfl
  next k _ =>
    split
    · exact .inl rfl
    · exact .inr ⟨k, _, emit_logs (s.alarmNoted k) .., rfl⟩

theorem clusterAlarm_keeps : (s.clusterAlarm i temp).parasol.sensors = s.parasol.sensors ∧ s.sameMachine (s.clusterAlarm i temp) := by
  obtain h | ⟨k, u, hu, h⟩ := clusterAlarm_eq (s := s) (i := i) (temp := temp)
  · rw [h]
    exact ⟨rfl, rfl, rfl, rfl⟩
  · obtain ⟨hparasol, -, hsame, -⟩ := alertUpdate_spec u
    rw [h, hparasol, hu.parasol]
    exact ⟨rfl, sameMachine_trans ⟨rfl, rfl, rfl⟩ (sameMachine_trans hu.sameMachine hsame)⟩

theorem clusterAlarm_raises (hcluster : i < 240) (hnone : s.parasol.alarms = []) (hcounted : (s.sensor i).excluded = false) (hhot : s.parasol.temp ≤ temp) :
    ∃ u, (s.alarmNoted (i / 4)).logs u ∧ s.clusterAlarm i temp = u.alertUpdate := by
  have hquiet : ¬((Tbl.find s.parasol.alarms (i / 4)).isSome = true ∨ (s.sensor i).excluded = true ∨ temp < s.parasol.temp) := by
    rw [hnone, hcounted]
    rintro (h | h | h)
    · exact Bool.false_ne_true h
    · exact Bool.false_ne_true h
    · omega
  have hfound : sensorCluster i = some (i / 4) := if_pos hcluster
  unfold State.clusterAlarm
  simp only [hfound, if_neg hquiet]
  exact ⟨_, emit_logs (s.alarmNoted (i / 4)) .., rfl⟩

theorem clusterAlarm_shows (hcluster : i < 240) (hnone : s.parasol.alarms = []) (hcounted : (s.sensor i).excluded = false)
    (hhot : s.parasol.temp ≤ temp) : let u := s.clusterAlarm i temp
    u.alarmed (i / 4) = true ∧ u.fld (regThmCluster (i / 4)) 22 22 = 1 ∧ u.fld regThmStatus 4 4 = 1 ∧ u.alertN = true ∧ s.sameMachine u := by
  obtain ⟨u, hu, heq⟩ := clusterAlarm_raises hcluster hnone hcounted hhot
  obtain ⟨hparasol, -, hsame, hregs, halert⟩ := alertUpdate_spec u
  have halarms : u.parasol.alarms = [(i / 4, s.clause)] := by
    rw [hu.parasol]
    change Tbl.set s.parasol.alarms (i / 4) s.clause = _
    rw [hnone]
    rfl
  rw [heq]
  refine ⟨?_, ?_, ?_, halert (by rw [halarms]; rfl), sameMachine_trans ⟨rfl, rfl, rfl⟩ (sameMachine_trans hu.sameMachine hsame)⟩
  · rw [State.alarmed, hparasol, halarms]
    simp [Tbl.find]
  · rw [fld_of_regs hregs, fld_setFld_ne _ _ _ _ _ _ _ _ (.inl (thmCluster_status _)) (by decide) (by decide), hu.regs.fld (thmCluster_notes (by omega)),
      State.alarmNoted, fld_setFld_ne _ _ _ _ _ _ _ _ (.inl (thmCluster_status _)) (by decide) (by decide)]
    exact fld_setFld _ _ _ _ _ (by decide) (by decide)
  · rw [fld_of_regs hregs, fld_setFld_same _ _ _ _ _ _ _ (by decide) (by decide) (by decide), hu.regs.fld thmStatus_notes, State.alarmNoted]
    exact fld_setFld _ _ _ _ _ (by decide) (by decide)

end

section
variable {s : State} {i : Nat} {v : Int} {m : Bool}

theorem takeReading_excluded (h : (s.sensor i).excluded = true) : s.takeReading i v m = s := if_pos h

/-- The highest reading of the quantum, with the reading `v`. -/
def hotter (hot : Option Int) (v : Int) : Option Int :=
  match hot with
  | some h => if h < v then some v else some h
  | none => some v

theorem takeReading_new (h : (s.sensor i).excluded = false) (hlo : -40 ≤ v) (hhi : v ≤ 150) (hnew : (s.sensor i).run = 0 ∨ (s.sensor i).last ≠ v) :
    s.takeReading i v m = (s.setSensor i { last := v, run := 1, moved := false, excluded := false, hot := hotter (s.sensor i).hot v }).clusterAlarm i v := by
  have hsame : (decide ((s.sensor i).run > 0) && decide ((s.sensor i).last = v)) = false := by
    obtain h | h := hnew <;> simp [h]
  have hgood : (decide (v < -40) || decide (150 < v)) = false := by simp [hlo, hhi]
  unfold State.takeReading
  simp only [h, hsame, hgood, Bool.false_and, Bool.and_false, Bool.or_false, Bool.false_eq_true, if_false]
  rfl

theorem takeReading_bad (h : (s.sensor i).excluded = false) (hout : v < -40 ∨ 150 < v) :
    ∃ n b, s.takeReading i v m = (s.setSensor i { last := v, run := n, moved := b, excluded := true, hot := (s.sensor i).hot }).ce
      (sensorDie i) (sensorSrc i) 0x30F0 0 [sensorDie i, sensorSrc i, (BitVec.ofInt 32 v).toNat] := by
  have hbad : (decide (v < -40) || decide (150 < v)) = true := by simpa using hout
  unfold State.takeReading
  simp only [h, hbad, Bool.true_or, Bool.false_eq_true, if_false, if_true]
  exact ⟨_, _, rfl⟩

end

section
variable {i : Fin 248} {v temp : BitVec 16} {s : State}

theorem exec_sensorSample_one (h : modeStandby < s.mode) : ∃ m, exec (.sensorSample [(i, v)]) s = .next (s.takeReading i.val (reading v) m) :=
  ⟨_, congrArg Host.Outcome.next (if_neg (Nat.not_le.mpr h))⟩

theorem sensorSample_reads (hmode : modeStandby < s.mode) (h : (s.sensor i.val).excluded = false) (hlo : -40 ≤ reading v) (hhi : reading v ≤ 150)
    (hnew : (s.sensor i.val).run = 0 ∨ (s.sensor i.val).last ≠ reading v) : Ends (.sensorSample [(i, v)]) s (fun u =>
      u.sensor i.val = { last := reading v, run := 1, moved := false, excluded := false, hot := hotter (s.sensor i.val).hot (reading v) } ∧
        s.sameMachine u) := by
  obtain ⟨m, hrun⟩ := exec_sensorSample_one (i := i) (v := v) hmode
  rw [takeReading_new h hlo hhi hnew] at hrun
  obtain ⟨hsensors, hsame⟩ := clusterAlarm_keeps (i := i.val) (temp := reading v) (s := s.setSensor i.val
    { last := reading v, run := 1, moved := false, excluded := false, hot := hotter (s.sensor i.val).hot (reading v) })
  exact ⟨_, hrun, (sensor_congr hsensors i.val).trans (sensor_setSensor ..), sameMachine_trans (setSensor_sameMachine ..) hsame⟩

theorem sensorSample_excludes (hmode : modeStandby < s.mode) (h : (s.sensor i.val).excluded = false) (hout : reading v < -40 ∨ 150 < reading v) :
    Ends (.sensorSample [(i, v)]) s (fun u => (u.sensor i.val).excluded = true ∧ (u.sensor i.val).hot = (s.sensor i.val).hot ∧
      u.parasol.alarms = s.parasol.alarms ∧ s.sameMachine u) := by
  obtain ⟨m, hrun⟩ := exec_sensorSample_one (i := i) (v := v) hmode
  obtain ⟨n, b, heq⟩ := takeReading_bad (m := m) h hout
  have hlogs := ce_logs (s.setSensor i.val { last := reading v, run := n, moved := b, excluded := true, hot := (s.sensor i.val).hot })
    (sensorDie i.val) (sensorSrc i.val) 0x30F0 0 [sensorDie i.val, sensorSrc i.val, (BitVec.ofInt 32 (reading v)).toNat]
  rw [← heq] at hlogs
  have hx := (sensor_congr (congrArg Parasol.sensors hlogs.parasol) i.val).trans (sensor_setSensor ..)
  refine ⟨_, hrun, congrArg Sensor.excluded hx, by rw [hx], (congrArg Parasol.alarms hlogs.parasol).trans ?_,
    sameMachine_trans (setSensor_sameMachine ..) hlogs.sameMachine⟩
  rfl

theorem sensorSample_excluded (hmode : modeStandby < s.mode) (h : (s.sensor i.val).excluded = true) :
    Ends (.sensorSample [(i, v)]) s (fun u => u.sensor i.val = s.sensor i.val ∧ s.sameMachine u) := by
  obtain ⟨m, hrun⟩ := exec_sensorSample_one (i := i) (v := v) hmode
  rw [takeReading_excluded h] at hrun
  exact ⟨s, hrun, rfl, rfl, rfl, rfl⟩

/-- A sensor that is counted takes the comparator's temperature before its cluster's alarm is judged. -/
theorem exec_thermalAlarm_counted (hmode : modeStandby < s.mode) (h : (s.sensor i.val).excluded = false) :
    ∃ x : Sensor, x.excluded = false ∧ exec (.thermalAlarm i temp) s = .next ((s.setSensor i.val x).clusterAlarm i.val (reading temp)) := by
  refine ⟨{ s.sensor i.val with hot := hotter (s.sensor i.val).hot (reading temp) }, h, ?_⟩
  rw [exec_thermalAlarm, execThermalAlarm, if_neg (Nat.not_le.mpr hmode)]
  simp only [h, Bool.false_eq_true, if_false]
  rfl

theorem thermalAlarm_raises (hmode : modeStandby < s.mode) (hnone : s.parasol.alarms = []) (hcluster : i.val < 240)
    (h : (s.sensor i.val).excluded = false) (hhot : s.parasol.temp ≤ reading temp) : Ends (.thermalAlarm i temp) s (fun u =>
      u.alarmed (i.val / 4) = true ∧ u.fld (regThmCluster (i.val / 4)) 22 22 = 1 ∧ u.fld regThmStatus 4 4 = 1 ∧ u.alertN = true ∧ s.sameMachine u) := by
  obtain ⟨x, hx, hrun⟩ := exec_thermalAlarm_counted (temp := temp) hmode h
  obtain ⟨halarmed, hbit, hstatus, halert, hsame⟩ := clusterAlarm_shows (s := s.setSensor i.val x) (temp := reading temp) hcluster hnone
    ((congrArg Sensor.excluded (sensor_setSensor s i.val x)).trans hx) hhot
  exact ⟨_, hrun, halarmed, hbit, hstatus, halert, sameMachine_trans (setSensor_sameMachine s i.val x) hsame⟩

theorem thermalAlarm_cool (hmode : modeStandby < s.mode) (hnone : s.parasol.alarms = []) (h : (s.sensor i.val).excluded = false)
    (hcool : reading temp < s.parasol.temp) : Ends (.thermalAlarm i temp) s (fun u => u.parasol.alarms = [] ∧
      u.fld regThmStatus 4 4 = s.fld regThmStatus 4 4 ∧ u.alertN = s.alertN ∧ s.sameMachine u) := by
  obtain ⟨x, -, hrun⟩ := exec_thermalAlarm_counted (temp := temp) hmode h
  rw [clusterAlarm_cool (s := s.setSensor i.val x) hcool] at hrun
  exact ⟨_, hrun, hnone, rfl, rfl, rfl, rfl, rfl⟩

/-! ### The trip (R596) -/

/-- The comparator's crossing is shown at the pin and in THM.STATUS. -/
def State.tripShown (s : State) : State := ({ s with thermtripN := true }).setFld regThmStatus 7 7 1

theorem exec_thermalTrip_shown (hmode : modeStandby < s.mode) : ∃ u, s.tripShown.logs u ∧ exec (.thermalTrip i temp) s = .next (if u.mode = modeHalt then u
    else ({ u.powerOffDies.enterMode modeHalt 18 with alertN := true }).raiseEvent .trip 3 (sensorDie i.val) (sensorSrc i.val)) :=
  ⟨_, emit_logs s.tripShown .., congrArg Host.Outcome.next (if_neg (Nat.not_le.mpr hmode))⟩

theorem tripShown_fld (s : State) : s.tripShown.fld regThmStatus 7 7 = 1 := fld_setFld _ _ _ _ _ (by decide) (by decide)

theorem tripShown_mode (s : State) : s.tripShown.mode = s.mode := fld_setFld_ne _ _ _ _ _ _ _ _ (.inl (by decide)) (by decide) (by decide)

theorem thermalTrip_halted (h : s.mode = modeHalt) : Ends (.thermalTrip i temp) s (fun u => u.mode = modeHalt ∧ u.thermtripN = true ∧
    u.fld regThmStatus 7 7 = 1 ∧ s.sameMachine u) := by
  obtain ⟨u, hu, hrun⟩ := exec_thermalTrip_shown (i := i) (temp := temp) (s := s) (by rw [h]; decide)
  have hmode : u.mode = modeHalt := (hu.regs.mode.trans (tripShown_mode s)).trans h
  rw [if_pos hmode] at hrun
  exact ⟨u, hrun, hmode, hu.unlogged State.thermtripN, (hu.regs.fld thmStatus_notes 7 7).trans (tripShown_fld s), hu.sameMachine⟩

theorem enterMode_status (s : State) (new trans : Nat) : (s.enterMode new trans).fld regThmStatus 7 7 = s.fld regThmStatus 7 7 := by
  rw [(enterMode_notes s new trans).regs.fld thmStatus_notes, fld_setReg_ne _ _ _ _ _ _ (by decide), fld_setReg_ne _ _ _ _ _ _ (by decide)]

theorem entersMode_of_shown {s t u w : State} {new trans : Nat} (hmode : t.mode = s.mode) (hclause : t.clause = s.clause) (h : t.entersMode u new trans)
    (hregs : w.regs = u.regs) : s.entersMode w new trans := by
  obtain ⟨hnew, hold, htrans, htime⟩ := h
  refine ⟨(fld_of_regs hregs _ _ _).trans hnew, ?_, (fld_of_regs hregs _ _ _).trans htrans, ?_⟩
  · rw [fld_of_regs hregs, hold, hmode]
  · rw [State.reg, hregs, ← hclause, ← htime, State.reg]

theorem thermalTrip_halts (h : s.live) : Ends (.thermalTrip i temp) s (fun u => s.entersMode u modeHalt 18 ∧ u.thermtripN = true ∧ u.alertN = true ∧
    u.fld regThmStatus 7 7 = 1 ∧ u.threads = [] ∧ u.cores = [] ∧ u.homes = [] ∧ u.mem = s.mem) := by
  obtain ⟨hup, hrunning⟩ := h
  obtain ⟨u, hu, hrun⟩ := exec_thermalTrip_shown (i := i) (temp := temp) hup
  have hmode : u.mode = s.mode := hu.regs.mode.trans (tripShown_mode s)
  rw [if_neg (by rwa [hmode])] at hrun
  have hentered := enterMode_notes u.powerOffDies modeHalt 18
  have hraised := raiseEvent_notes ({ u.powerOffDies.enterMode modeHalt 18 with alertN := true }) .trip 3 (sensorDie i.val) (sensorSrc i.val)
  have hregs := raiseEvent_regs ({ u.powerOffDies.enterMode modeHalt 18 with alertN := true }) .trip 3 (sensorDie i.val) (sensorSrc i.val)
  have hstatus : u.powerOffDies.fld regThmStatus 7 7 = 1 := (hu.regs.fld thmStatus_notes 7 7).trans (tripShown_fld s)
  refine ⟨_, hrun, entersMode_of_shown (t := u.powerOffDies) hmode hu.clause (enterMode_entersMode u.powerOffDies modeHalt 18 (by decide) (by decide)) hregs,
    ?_, hraised.alertN, ?_, ?_, ?_, ?_, ?_⟩
  · exact (hraised.unnoted State.thermtripN).trans ((hentered.unnoted State.thermtripN).trans (hu.unlogged State.thermtripN))
  · exact (fld_of_regs hregs _ _ _).trans ((enterMode_status u.powerOffDies modeHalt 18).trans hstatus)
  · exact (hraised.unnoted State.threads).trans (hentered.unnoted State.threads)
  · exact (hraised.unnoted State.cores).trans (hentered.unnoted State.cores)
  · exact (hraised.unnoted State.homes).trans (hentered.unnoted State.homes)
  · exact hraised.mem.trans (hentered.mem.trans hu.mem)

end

/-! ### The clamp and a cluster's frequency (R588, R592) -/

section
variable {amps f : Nat} {k : Fin 60} {s : State}

theorem powerClamp_clamps (hamps : 500 ≤ amps) (hmode : modeStandby < s.mode) : Ends (.powerClamp amps) s (fun u => u.fld regThmStatus 5 5 = 1 ∧
    u.parasol.clampRec = true ∧ s.sameMachine u) := by
  have hset : (s.setFld regThmStatus 5 5 1).fld regThmStatus 5 5 = 1 := fld_setFld _ _ _ _ _ (by decide) (by decide)
  have hjudged : ¬(amps < 500 ∨ s.mode ≤ modeStandby) := by omega
  rw [Ends, exec_powerClamp, execPowerClamp, if_neg hjudged]
  dsimp only
  split
  next hrec => exact ⟨_, rfl, hset, hrec, setFld_sameMachine ..⟩
  next =>
    have hlogs := emit_logs ((s.setFld regThmStatus 5 5 1).modParasol (fun p => { p with clampRec := true })) 12 80 0x6003 0
      [amps, (s.setFld regThmStatus 5 5 1).parasol.lastP]
    exact ⟨_, rfl, (hlogs.regs.fld thmStatus_notes 5 5).trans hset, congrArg Parasol.clampRec hlogs.parasol, hlogs.sameMachine⟩

theorem setFreq_shows (s : State) (k f : Nat) (hf : f < 256) : (s.setFreq k f).freq k = f ∧
    (s.setFreq k f).fld (regThmCluster k) 15 8 = voltOf f % 256 := by
  constructor
  · rw [State.freq, State.setFreq, fld_setFld_same _ _ _ _ _ _ _ (by decide) (by decide) (by decide), fld_setFld _ _ _ _ _ (by decide) (by decide)]
    exact Nat.mod_eq_of_lt hf
  · exact fld_setFld _ _ _ _ _ (by decide) (by decide)

theorem frequencyChangeDone_changes (h : Tbl.find s.parasol.target k.val = some f) (hf : f < 256) : Ends (.frequencyChangeDone k) s (fun u =>
    u.freq k.val = f ∧ u.fld (regThmCluster k.val) 15 8 = voltOf f % 256 ∧ u.parasol.target = Tbl.erase s.parasol.target k.val ∧ s.sameMachine u) := by
  obtain ⟨hfreq, hvolt⟩ := setFreq_shows s k.val f hf
  rw [Ends, exec_frequencyChangeDone, execFrequencyChangeDone, h]
  exact ⟨_, rfl, hfreq, hvolt, rfl, rfl, rfl, rfl⟩

end

/-! ### What the stages of a boundary leave alone (R590 to R595) -/

theorem rlmTable0_cluster {k : Nat} (hk : k < 60) (r : Nat) : regRlmTable0 r ≠ regThmCluster k := by
  unfold regRlmTable0 regThmCluster
  omega

theorem rlmTable0_status (r : Nat) : regRlmTable0 r ≠ regThmStatus := by
  unfold regRlmTable0 regThmStatus
  omega

theorem rlmTable0_notes (r : Nat) (hr : r < 1024) : regRlmTable0 r ∉ noteRegs := by
  simp only [noteRegs, List.mem_cons, List.not_mem_nil, regRlmTable0, regTlgStatus, regGlbErrsum, or_false]
  omega

theorem anySealed_congr {s u : State} (h : ∀ r, r < 1024 → u.fld (regRlmTable0 r) 32 32 = s.fld (regRlmTable0 r) 32 32) : u.anySealed = s.anySealed := by
  have hall : ∀ r ∈ upTo 1024, u.realmSealed r = s.realmSealed r := fun r hr => by
    rw [State.realmSealed, State.realmSealed, h r (List.mem_range.mp hr)]
  rw [Bool.eq_iff_iff, State.anySealed, State.anySealed, List.any_eq_true, List.any_eq_true]
  exact exists_congr fun r => and_congr_right fun hr => by rw [hall r hr]

/-- What a boundary has recorded of its quantum, the realms' seals and what is held for a domain are as they were. -/
structure State.paces (s u : State) : Prop where
  past : u.parasol.past = s.parasol.past
  lastP : u.parasol.lastP = s.parasol.lastP
  clampRec : u.parasol.clampRec = s.parasol.clampRec
  hold : u.realms.hold = s.realms.hold
  power : u.fld regThmStatus 63 48 = s.fld regThmStatus 63 48
  clamped : u.fld regThmStatus 5 5 = s.fld regThmStatus 5 5
  energy : u.reg regThmEnergy = s.reg regThmEnergy
  seals : u.anySealed = s.anySealed

theorem paces_refl (s : State) : s.paces s := ⟨rfl, rfl, rfl, rfl, rfl, rfl, rfl, rfl⟩

theorem paces_trans {a b c : State} (h : a.paces b) (k : b.paces c) : a.paces c :=
  ⟨k.past.trans h.past, k.lastP.trans h.lastP, k.clampRec.trans h.clampRec, k.hold.trans h.hold, k.power.trans h.power, k.clamped.trans h.clamped,
    k.energy.trans h.energy, k.seals.trans h.seals⟩

theorem State.logs.paces {s u : State} (h : s.logs u) : s.paces u where
  past := congrArg Parasol.past h.parasol
  lastP := congrArg Parasol.lastP h.parasol
  clampRec := congrArg Parasol.clampRec h.parasol
  hold := h.unlogged (fun x : State => x.realms.hold)
  power := h.regs.fld thmStatus_notes _ _
  clamped := h.regs.fld thmStatus_notes _ _
  energy := h.regs _ (by decide)
  seals := anySealed_congr fun r hr => h.regs.fld (rlmTable0_notes r hr) _ _

/-- The registers, Parasol's own data and what the realms hold stay. -/
theorem paces_of_same {s u : State} (hparasol : u.parasol = s.parasol) (hrealms : u.realms = s.realms) (hregs : u.regs = s.regs) : s.paces u where
  past := congrArg Parasol.past hparasol
  lastP := congrArg Parasol.lastP hparasol
  clampRec := congrArg Parasol.clampRec hparasol
  hold := congrArg Realms.hold hrealms
  power := fld_of_regs hregs _ _ _
  clamped := fld_of_regs hregs _ _ _
  energy := by rw [State.reg, hregs, State.reg]
  seals := anySealed_congr fun r _ => fld_of_regs hregs _ _ _

/-- A field is set that is none of those recorded and no realm's seal. -/
theorem setFld_paces (s : State) {off hi lo : Nat} (v : Nat) (hl : lo ≤ hi) (henergy : regThmEnergy ≠ off)
    (hstatus : regThmStatus ≠ off ∨ hi < 5 ∨ 5 < lo ∧ hi < 48) (hseals : hi < 32 ∨ regThmStatus = off) : s.paces (s.setFld off hi lo v) where
  past := rfl
  lastP := rfl
  clampRec := rfl
  hold := rfl
  power := fld_setFld_ne _ _ _ _ _ _ _ _ (by omega) hl (by decide)
  clamped := fld_setFld_ne _ _ _ _ _ _ _ _ (by omega) hl (by decide)
  energy := reg_setFld_ne _ _ _ _ _ _ henergy
  seals := anySealed_congr fun r _ => by
    refine fld_setFld_ne _ _ _ _ _ _ _ _ ?_ hl (by decide)
    obtain h | h := hseals
    · exact .inr (.inr h)
    · exact .inl (h ▸ rlmTable0_status r)

theorem setFld_paces_cluster (s : State) (k : Nat) {hi lo : Nat} (v : Nat) (hl : lo ≤ hi) (hhi : hi < 32) :
    s.paces (s.setFld (regThmCluster k) hi lo v) :=
  setFld_paces s v hl (by unfold regThmCluster regThmEnergy; omega) (.inl (thmCluster_status k).symm) (.inl hhi)

theorem setFld_paces_status (s : State) {hi lo : Nat} (v : Nat) (hl : lo ≤ hi) (hfree : hi < 5 ∨ 5 < lo ∧ hi < 48) :
    s.paces (s.setFld regThmStatus hi lo v) :=
  setFld_paces s v hl (by decide) (.inr hfree) (.inr rfl)

theorem modParasol_paces (s : State) {f : Parasol → Parasol} (hpast : (f s.parasol).past = s.parasol.past) (hlast : (f s.parasol).lastP = s.parasol.lastP)
    (hclamp : (f s.parasol).clampRec = s.parasol.clampRec) : s.paces (s.modParasol f) :=
  ⟨hpast, hlast, hclamp, rfl, rfl, rfl, rfl, rfl⟩

theorem fld_modParasol (s : State) (f : Parasol → Parasol) (off hi lo : Nat) : (s.modParasol f).fld off hi lo = s.fld off hi lo := rfl

/-- The uniform-mode bit stays. -/
def State.keepsUniform (s u : State) : Prop := u.fld regThmStatus 6 6 = s.fld regThmStatus 6 6

/-- The alarms and their bit of THM.STATUS stay. -/
def State.keepsAlarms (s u : State) : Prop := u.parasol.alarms = s.parasol.alarms ∧ u.fld regThmStatus 4 4 = s.fld regThmStatus 4 4

theorem keepsAlarms_trans {a b c : State} (h : a.keepsAlarms b) (k : b.keepsAlarms c) : a.keepsAlarms c := ⟨k.1.trans h.1, k.2.trans h.2⟩

theorem State.logs.keepsUniform {s u : State} (h : s.logs u) : s.keepsUniform u := h.regs.fld thmStatus_notes _ _

theorem State.logs.keepsAlarms {s u : State} (h : s.logs u) : s.keepsAlarms u := ⟨congrArg Parasol.alarms h.parasol, h.regs.fld thmStatus_notes _ _⟩

theorem setFld_cluster_status (s : State) (k hi lo v hi' lo' : Nat) (hl : lo ≤ hi) (hl' : lo' ≤ hi') :
    (s.setFld (regThmCluster k) hi lo v).fld regThmStatus hi' lo' = s.fld regThmStatus hi' lo' :=
  fld_setFld_ne _ _ _ _ _ _ _ _ (.inl (thmCluster_status k).symm) hl hl'

/-! ### Alarms and telemetry at a boundary (R585, R595) -/

/-- An alarm of cluster `k` has ended; its record is to come. -/
def State.alarmCleared (s : State) (k : Nat) : State :=
  (s.modParasol (fun p => { p with alarms := Tbl.erase p.alarms k })).setFld (regThmCluster k) 22 22 0

theorem alarmCleared_paces (s : State) (k : Nat) : s.paces (s.alarmCleared k) ∧ s.keepsUniform (s.alarmCleared k) :=
  ⟨paces_trans (modParasol_paces s rfl rfl rfl) (setFld_paces_cluster _ k 0 (by decide) (by decide)),
    setFld_cluster_status _ k _ _ _ _ _ (by decide) (by decide)⟩

theorem clearAlarms_cons (s : State) (k : Nat) (c : Word) (l : List (Nat × Word)) :
    ∃ u, (u = s ∨ (s.alarmCleared k).logs u) ∧ s.clearAlarms ((k, c) :: l) = u.clearAlarms l := by
  rw [State.clearAlarms]
  dsimp only
  split
  · exact ⟨_, .inr (emit_logs (s.alarmCleared k) 12 80 0x6001 0 _), rfl⟩
  · exact ⟨s, .inl rfl, rfl⟩

theorem clearAlarms_paces (l : List (Nat × Word)) (s : State) : s.paces (s.clearAlarms l) ∧ s.keepsUniform (s.clearAlarms l) := by
  induction l generalizing s with
  | nil => exact ⟨paces_refl s, rfl⟩
  | cons x l ih =>
    obtain ⟨k, c⟩ := x
    obtain ⟨u, hu, heq⟩ := clearAlarms_cons s k c l
    obtain ⟨hpaces, huniform⟩ := ih u
    rw [heq]
    obtain rfl | hlogs := hu
    · exact ⟨hpaces, huniform⟩
    · obtain ⟨hcleared, hkept⟩ := alarmCleared_paces s k
      exact ⟨paces_trans (paces_trans hcleared hlogs.paces) hpaces, huniform.trans (hlogs.keepsUniform.trans hkept)⟩

theorem clusterTemps_paces (t : Nat → Nat) (l : List Nat) (s : State) :
    let u := l.foldl (fun (x : State) k => x.setFld (regThmCluster k) 31 24 (t k)) s
    s.paces u ∧ s.keepsUniform u := by
  induction l generalizing s with
  | nil => exact ⟨paces_refl s, rfl⟩
  | cons k l ih =>
    obtain ⟨hpaces, huniform⟩ := ih (s.setFld (regThmCluster k) 31 24 (t k))
    exact ⟨paces_trans (setFld_paces_cluster s k _ (by decide) (by decide)) hpaces,
      huniform.trans (setFld_cluster_status s k _ _ _ _ _ (by decide) (by decide))⟩

/-- The two package temperatures are written and a new quantum begins. -/
theorem newQuantum_paces {s v : State} (a b : Nat) {f : Parasol → Parasol} (h : s.paces v ∧ s.keepsUniform v) (hpast : (f v.parasol).past = v.parasol.past)
    (hlast : (f v.parasol).lastP = v.parasol.lastP) (hclamp : (f v.parasol).clampRec = v.parasol.clampRec) :
    let u := ((v.setFld regThmStatus 47 40 a).setFld regThmStatus 39 32 b).modParasol f
    s.paces u ∧ s.keepsUniform u := by
  obtain ⟨hpaces, huniform⟩ := h
  have hset : v.paces ((v.setFld regThmStatus 47 40 a).setFld regThmStatus 39 32 b) :=
    paces_trans (setFld_paces_status v a (by decide) (by decide)) (setFld_paces_status _ b (by decide) (by decide))
  refine ⟨paces_trans (paces_trans hpaces hset) (modParasol_paces _ hpast hlast hclamp), ?_⟩
  rw [State.keepsUniform, fld_modParasol, fld_setFld_same _ _ _ _ _ _ _ (by decide) (by decide) (by decide),
    fld_setFld_same _ _ _ _ _ _ _ (by decide) (by decide) (by decide), huniform]

theorem telemetry_paces (s : State) : s.paces s.telemetry ∧ s.keepsUniform s.telemetry := by
  unfold State.telemetry
  exact newQuantum_paces _ _ (clusterTemps_paces _ (upTo 60) s) rfl rfl rfl

/-- The alarms of the quantum are judged, the telemetry is written, and THM.STATUS and ALERT_N follow. -/
def State.alarmsJudged (s : State) : State :=
  (((s.clearAlarms s.parasol.alarms).telemetry).setFld regThmStatus 4 4 (b2n !((s.clearAlarms s.parasol.alarms).telemetry).parasol.alarms.isEmpty)).alertUpdate

theorem b2n_bit (b : Bool) : b2n b % 2 ^ (4 - 4 + 1) = b2n b := by cases b <;> rfl

theorem alertUpdate_paces (s : State) : s.paces s.alertUpdate ∧ s.keepsUniform s.alertUpdate ∧ s.keepsAlarms s.alertUpdate := by
  obtain ⟨hparasol, hrealms, -, hregs, -⟩ := alertUpdate_spec s
  exact ⟨paces_trans (setFld_paces_status s (b2n !s.parasol.dimmHot.isEmpty) (by decide) (by decide)) (paces_of_same hparasol hrealms hregs),
    (fld_of_regs hregs _ _ _).trans (fld_setFld_same _ _ _ _ _ _ _ (by decide) (by decide) (by decide)),
    congrArg Parasol.alarms hparasol, (fld_of_regs hregs _ _ _).trans (fld_setFld_same _ _ _ _ _ _ _ (by decide) (by decide) (by decide))⟩

theorem alarmsJudged_spec (s : State) : let u := s.alarmsJudged
    s.paces u ∧ s.keepsUniform u ∧ u.fld regThmStatus 4 4 = b2n (!u.parasol.alarms.isEmpty) ∧ u.mem = s.mem := by
  obtain ⟨hcleared, hkept⟩ := clearAlarms_paces s.parasol.alarms s
  obtain ⟨htold, hstays⟩ := telemetry_paces (s.clearAlarms s.parasol.alarms)
  have hmem : (s.clearAlarms s.parasol.alarms).telemetry.mem = s.mem := by rw [telemetry_mem, clearAlarms_mem]
  unfold State.alarmsJudged
  generalize (s.clearAlarms s.parasol.alarms).telemetry = v at htold hstays hmem ⊢
  obtain ⟨hpaces, huniform, halarms, hbit⟩ := alertUpdate_paces (v.setFld regThmStatus 4 4 (b2n !v.parasol.alarms.isEmpty))
  refine ⟨paces_trans (paces_trans hcleared htold) (paces_trans (setFld_paces_status v _ (by decide) (by decide)) hpaces),
    huniform.trans ((fld_setFld_same _ _ _ _ _ _ _ (by decide) (by decide) (by decide)).trans (hstays.trans hkept)), ?_, ?_⟩
  · rw [hbit, halarms, fld_setFld _ _ _ _ _ (by decide) (by decide), b2n_bit]
    rfl
  · rw [alertUpdate_mem, setFld_mem, hmem]

/-! ### Frequencies and uniform mode (R587 to R594) -/

theorem order_paces (fs : Freqs) (s : State) : s.paces (s.order fs) ∧ s.keepsAlarms (s.order fs) ∧ (s.order fs).regs = s.regs := by
  induction fs generalizing s with
  | nil => exact ⟨paces_refl s, ⟨rfl, rfl⟩, rfl⟩
  | cons x fs ih =>
    obtain ⟨k, f⟩ := x
    rw [State.order]
    split
    · exact ih s
    · obtain ⟨hpaces, halarms, hregs⟩ := ih (s.modParasol (fun p => { p with target := Tbl.set p.target k f }))
      exact ⟨paces_trans (modParasol_paces s rfl rfl rfl) hpaces, halarms, hregs⟩

theorem setFrequencies_eq (s : State) (p cap : Nat) (dies : List Nat) : ∃ fs, s.setFrequencies p cap dies = s.order fs := ⟨_, rfl⟩

/-- Uniform mode begins or ends; its record is to come. -/
theorem uniformTurn_keeps (s : State) (v : Nat) : s.paces (s.setFld regThmStatus 6 6 v) ∧ s.keepsAlarms (s.setFld regThmStatus 6 6 v) :=
  ⟨setFld_paces_status s v (by decide) (by decide), rfl, fld_setFld_same _ _ _ _ _ _ _ (by decide) (by decide) (by decide)⟩

theorem leaveUniform_keeps (s : State) : s.paces s.leaveUniform ∧ s.keepsAlarms s.leaveUniform ∧ s.leaveUniform.fld regThmStatus 6 6 = 0 := by
  unfold State.leaveUniform
  split
  next =>
    obtain ⟨hpaces, halarms⟩ := uniformTurn_keeps s 0
    have hlogs := emit_logs (s.setFld regThmStatus 6 6 0) 12 80 0x6005 0 [0, s.parasol.f]
    refine ⟨paces_trans hpaces hlogs.paces, keepsAlarms_trans halarms hlogs.keepsAlarms, hlogs.keepsUniform.trans ?_⟩
    exact fld_setFld _ _ _ _ _ (by decide) (by decide)
  next h =>
    have hbit : s.fld regThmStatus 6 6 < 2 := bits_lt _ 6 6
    exact ⟨paces_refl s, ⟨rfl, rfl⟩, by omega⟩

theorem uniformBoundary_eq (s : State) (p cap : Nat) : ∃ g fs, s.uniformBoundary p cap = State.order (
    if s.fld regThmStatus 6 6 = 1 then s.modParasol (fun x => { x with f := g })
    else ((s.modParasol (fun x => { x with f := g })).setFld regThmStatus 6 6 1).emit 12 80 0x6005 0 [1, g]) fs := ⟨_, _, rfl⟩

theorem uniformBoundary_keeps (s : State) (p cap : Nat) : let u := s.uniformBoundary p cap
    s.paces u ∧ s.keepsAlarms u ∧ u.fld regThmStatus 6 6 = 1 := by
  obtain ⟨g, fs, heq⟩ := uniformBoundary_eq s p cap
  have hturned : s.paces (s.modParasol (fun x => { x with f := g })) := modParasol_paces s rfl rfl rfl
  rw [heq]
  split
  next hwas =>
    obtain ⟨hpaces, halarms, hregs⟩ := order_paces fs (s.modParasol (fun x => { x with f := g }))
    exact ⟨paces_trans hturned hpaces, halarms, (fld_of_regs hregs _ _ _).trans hwas⟩
  next =>
    obtain ⟨hset, hkept⟩ := uniformTurn_keeps (s.modParasol (fun x => { x with f := g })) 1
    have hlogs := emit_logs ((s.modParasol (fun x => { x with f := g })).setFld regThmStatus 6 6 1) 12 80 0x6005 0 [1, g]
    generalize ((s.modParasol (fun x => { x with f := g })).setFld regThmStatus 6 6 1).emit 12 80 0x6005 0 [1, g] = v at hlogs ⊢
    obtain ⟨hpaces, halarms, hregs⟩ := order_paces fs v
    refine ⟨paces_trans (paces_trans hturned hset) (paces_trans hlogs.paces hpaces), keepsAlarms_trans hkept (keepsAlarms_trans hlogs.keepsAlarms halarms),
      (fld_of_regs hregs _ _ _).trans (hlogs.keepsUniform.trans ?_)⟩
    exact fld_setFld _ _ _ _ _ (by decide) (by decide)

/-- The boundary's frequencies are ordered, in uniform mode if a realm is sealed. -/
def State.freqsOrdered (s : State) (p cap : Nat) (dies : List Nat) : State :=
  if s.anySealed then s.uniformBoundary p cap else s.leaveUniform.setFrequencies p cap dies

theorem freqsOrdered_spec (s : State) (p cap : Nat) (dies : List Nat) : let u := s.freqsOrdered p cap dies
    s.paces u ∧ s.keepsAlarms u ∧ u.fld regThmStatus 6 6 = b2n s.anySealed ∧ u.mem = s.mem := by
  unfold State.freqsOrdered
  split
  next h =>
    obtain ⟨hpaces, halarms, huniform⟩ := uniformBoundary_keeps s p cap
    rw [h]
    exact ⟨hpaces, halarms, huniform, uniformBoundary_mem ..⟩
  next h =>
    obtain ⟨hpaces, halarms, huniform⟩ := leaveUniform_keeps s
    obtain ⟨fs, heq⟩ := setFrequencies_eq s.leaveUniform p cap dies
    obtain ⟨hordered, hkept, hregs⟩ := order_paces fs s.leaveUniform
    have hnone : s.anySealed = false := by simpa using h
    rw [heq, hnone]
    exact ⟨paces_trans hpaces hordered, keepsAlarms_trans halarms hkept, (fld_of_regs hregs _ _ _).trans huniform, (order_mem ..).trans (leaveUniform_mem s)⟩

/-! ### Gating (R597, R598) -/

/-- The state without what a change of a domain may write. -/
def State.undomained (s : State) : State := { s.outside with domains := [] }

/-- Domains change, the caches of their cores, and threads that watch those; nothing else differs. -/
def State.gates (s u : State) : Prop := u.undomained = s.undomained

theorem gates_trans {a b c : State} (h : a.gates b) (k : b.gates c) : a.gates c := k.trans h

theorem State.gates.rest {s u : State} (h : s.gates u) {α : Type} (f : State → α) : f u.undomained = f s.undomained := congrArg f h

theorem State.onlyThread.gates {s u : State} {t : Nat} (h : s.onlyThread u t) : s.gates u := by
  rw [State.gates, State.undomained, State.undomained, h.1]

theorem foldl_gates {α : Type} (f : State → α → State) (h : ∀ (s : State) (a : α), s.gates (f s a)) (l : List α) (s : State) : s.gates (l.foldl f s) := by
  induction l generalizing s with
  | nil => rfl
  | cons a l ih => exact gates_trans (h s a) (ih _)

theorem setDomain_gates (s : State) (d : Nat) (x : Domain) : s.gates (s.setDomain d x) := rfl

theorem setCore_gates (s : State) (c : Nat) (x : Core) : s.gates (s.setCore c x) := rfl

theorem modCore_gates (s : State) (c : Nat) (f : Core → Core) : s.gates (s.modCore c f) := rfl

theorem wakeThread_gates (s : State) (t : Nat) (a : LineAddr) (status : Nat) : s.gates (s.wakeThread t a status) := by
  unfold State.wakeThread
  split
  · split
    · exact (countEv_countsOnly { s with events := s.events.filter (fun e => decide (e.kind ≠ EventKind.wake t a)) } t 0x03 true).1.gates
    · rfl
  · rfl

theorem flushL2_gates (s : State) (c : Nat) : s.gates (s.flushL2 c) := by
  unfold State.flushL2
  dsimp only
  split
  · exact gates_trans (setCore_gates s c _) (foldl_gates _ (fun v a => gates_trans (wakeThread_gates v _ a 4) (wakeThread_gates _ _ a 4)) _ _)
  · rfl

theorem flushCluster_gates (s : State) (k : Nat) : s.gates (s.flushCluster k) :=
  foldl_gates _ (fun v c => gates_trans (modCore_gates v c _) (flushL2_gates _ c)) _ s

theorem closeDomain_gates (s : State) (d : Nat) (x : Domain) : s.gates (s.closeDomain d x) := by
  unfold State.closeDomain
  dsimp only
  split
  · exact gates_trans (setDomain_gates s d _) (foldl_gates _ (fun v c => modCore_gates v c _) _ _)
  · exact setDomain_gates s d _

theorem openDomain_gates (s : State) (d : Nat) : s.gates (s.openDomain d) := by
  obtain ⟨t, h⟩ := openDomain_eq s d
  rw [h]
  rfl

theorem gates_ite {c : Prop} [Decidable c] {s t u : State} (ht : s.gates t) (hu : s.gates u) : s.gates (if c then t else u) := by
  split
  · exact ht
  · exact hu

theorem gateStep_gates (s : State) (d : Nat) : s.gates (s.gateStep d) := by
  unfold State.gateStep
  dsimp only
  split
  · exact gates_ite (gates_ite rfl (setDomain_gates s d _)) (gates_ite (setDomain_gates s d _) (gates_ite
      (gates_trans (setDomain_gates s d _) (flushCluster_gates _ d)) (gates_ite (setDomain_gates s d _) (closeDomain_gates s d _))))
  · exact gates_ite rfl (openDomain_gates s d)
  · rfl

theorem gateSteps_gates (l : List Nat) (s : State) : s.gates (s.gateSteps l) := by
  induction l generalizing s with
  | nil => rfl
  | cons d l ih => exact gates_trans (gateStep_gates s d) (ih _)

/-! ### The boundary (R584, R590 to R594) -/

/-- The boundary takes the alarm temperature and records the quantum: `n` quanta past the cap, and power `p`. -/
def State.quantumNoted (s : State) (n p : Nat) : State :=
  let t := (s.modParasol (fun x => { x with temp := s.fld regThmAlarm 7 0 })).modParasol (fun x => { x with past := n, lastP := p, clampRec := false })
  let t := (t.setFld regThmStatus 5 5 0).setFld regThmStatus 63 48 p
  t.setReg regThmEnergy (BitVec.ofNat 64 (satTo (2 ^ 64 - 1) ((t.reg regThmEnergy).toNat + p)))

/-- The quanta in a row past the cap, with the one that ends at power `p`. -/
def State.quantaPast (s : State) (p : Nat) : Nat :=
  if decide (s.fld regThmCap 9 0 < p) || decide (s.fld regThmStatus 5 5 = 1) then s.parasol.past + 1 else 0

/-- The cap of the next quantum, in 0.01 W: after ten quanta past it, 95 of 100 parts. -/
def State.quantumCap (s : State) (p : Nat) : Nat :=
  if decide (10 ≤ s.quantaPast p) then s.fld regThmCap 9 0 * 95 else s.fld regThmCap 9 0 * 100

theorem satTo_min (m n : Nat) : satTo m n = min m n := by
  unfold satTo
  split <;> omega

theorem quantumNoted_keeps (s : State) (n p : Nat) : let u := s.quantumNoted n p
    u.parasol.past = n ∧ u.parasol.lastP = p ∧ u.parasol.clampRec = false ∧ u.realms = s.realms ∧ u.mem = s.mem := by
  unfold State.quantumNoted
  simp only [setReg_parasol, setFld_parasol, setReg_realms, setFld_realms, setReg_mem, setFld_mem]
  exact ⟨rfl, rfl, rfl, rfl, rfl⟩

theorem quantumNoted_spec (s : State) (n : Nat) (p : BitVec 16) : let u := s.quantumNoted n p.toNat
    u.fld regThmStatus 63 48 = p.toNat ∧ u.fld regThmStatus 5 5 = 0 ∧
      (u.reg regThmEnergy).toNat = min (2 ^ 64 - 1) ((s.reg regThmEnergy).toNat + p.toNat) ∧ u.anySealed = s.anySealed := by
  have hmin : min (2 ^ 64 - 1) ((s.reg regThmEnergy).toNat + p.toNat) < 2 ^ 64 := by omega
  unfold State.quantumNoted
  refine ⟨?_, ?_, ?_, anySealed_congr fun r hr => ?_⟩
  · rw [fld_setReg_ne _ _ _ _ _ _ (by decide), fld_setFld _ _ _ _ _ (by decide) (by decide)]
    exact Nat.mod_eq_of_lt p.isLt
  · rw [fld_setReg_ne _ _ _ _ _ _ (by decide), fld_setFld_same _ _ _ _ _ _ _ (by decide) (by decide) (by decide), fld_setFld _ _ _ _ _ (by decide) (by decide)]
    exact Nat.zero_mod _
  · rw [reg_setReg, if_pos rfl, reg_setFld_ne _ _ _ _ _ _ (by decide), reg_setFld_ne _ _ _ _ _ _ (by decide), satTo_min]
    exact (BitVec.toNat_ofNat ..).trans (Nat.mod_eq_of_lt hmin)
  · have henergy : regRlmTable0 r ≠ regThmEnergy := by unfold regRlmTable0 regThmEnergy; omega
    rw [fld_setReg_ne _ _ _ _ _ _ henergy, fld_setFld_ne _ _ _ _ _ _ _ _ (.inl (rlmTable0_status r)) (by decide) (by decide),
      fld_setFld_ne _ _ _ _ _ _ _ _ (.inl (rlmTable0_status r)) (by decide) (by decide)]
    rfl

section
variable {p : BitVec 16} {dies : List Nat} {s : State}

theorem exec_quantumBoundary_live (h : s.live) : ∃ v, (s.quantumNoted (s.quantaPast p.toNat) p.toNat).logs v ∧ exec (.quantumBoundary p dies) s =
    .next (State.retryHeld (if modeSealed ≤ (v.alarmsJudged.freqsOrdered p.toNat (s.quantumCap p.toNat) dies).mode
      then (v.alarmsJudged.freqsOrdered p.toNat (s.quantumCap p.toNat) dies).gateSteps (upTo 96)
      else v.alarmsJudged.freqsOrdered p.toNat (s.quantumCap p.toNat) dies)) := by
  obtain ⟨hup, hrunning⟩ := h
  have hjudged : ¬(s.mode ≤ modeStandby ∨ s.mode = modeHalt) := by
    rintro (h | h)
    · omega
    · exact hrunning h
  rw [exec_quantumBoundary, execQuantumBoundary, if_neg hjudged]
  exact ⟨_, logs_ite (c := decide (10 ≤ s.quantaPast p.toNat) = true) (emit_logs (s.quantumNoted (s.quantaPast p.toNat) p.toNat) 12 80 0x6004 0
    [s.quantaPast p.toNat, s.quantumCap p.toNat / 100]) (logs_refl _), rfl⟩

/-- The rest of a boundary leaves the quantum's record, and shows the alarms and uniform mode. -/
theorem boundaryRest_spec (u : State) (p cap : Nat) (dies : List Nat) (hhold : u.realms.hold = none) :
    let w := State.retryHeld (if modeSealed ≤ (u.alarmsJudged.freqsOrdered p cap dies).mode then (u.alarmsJudged.freqsOrdered p cap dies).gateSteps (upTo 96)
      else u.alarmsJudged.freqsOrdered p cap dies)
    u.paces w ∧ w.fld regThmStatus 6 6 = b2n u.anySealed ∧ w.fld regThmStatus 4 4 = b2n (!w.parasol.alarms.isEmpty) ∧ w.mem = u.mem := by
  obtain ⟨hjudged, -, hshown, hmem⟩ := alarmsJudged_spec u
  generalize u.alarmsJudged = a at *
  obtain ⟨hordered, ⟨halarms, hbit⟩, huniform, hkept⟩ := freqsOrdered_spec a p cap dies
  generalize a.freqsOrdered p cap dies = o at *
  have hgates : o.gates (if modeSealed ≤ o.mode then o.gateSteps (upTo 96) else o) := gates_ite (gateSteps_gates _ o) rfl
  generalize (if modeSealed ≤ o.mode then o.gateSteps (upTo 96) else o) = g at hgates ⊢
  have hparasol : g.parasol = o.parasol := hgates.rest State.parasol
  have hregs : g.regs = o.regs := hgates.rest State.regs
  have hpaces : u.paces g := paces_trans (paces_trans hjudged hordered) (paces_of_same hparasol (hgates.rest State.realms) hregs)
  rw [retryHeld_none (hpaces.hold.trans hhold)]
  refine ⟨hpaces, ?_, ?_, (hgates.rest State.mem).trans (hkept.trans hmem)⟩
  · rw [fld_of_regs hregs, huniform, hjudged.seals]
  · rw [fld_of_regs hregs, hbit, hshown, hparasol, halarms]

theorem quantumBoundary_records (h : s.live) (hhold : s.realms.hold = none) : Ends (.quantumBoundary p dies) s (fun u =>
    u.fld regThmStatus 63 48 = p.toNat ∧ u.fld regThmStatus 5 5 = 0 ∧
      (u.reg regThmEnergy).toNat = min (2 ^ 64 - 1) ((s.reg regThmEnergy).toNat + p.toNat) ∧ u.parasol.past = s.quantaPast p.toNat ∧
      u.parasol.lastP = p.toNat ∧ u.parasol.clampRec = false ∧ u.fld regThmStatus 6 6 = b2n s.anySealed ∧
      u.fld regThmStatus 4 4 = b2n (!u.parasol.alarms.isEmpty) ∧ u.mem = s.mem) := by
  obtain ⟨v, hlogs, hrun⟩ := exec_quantumBoundary_live (p := p) (dies := dies) h
  obtain ⟨hpower, hclamped, henergy, hseals⟩ := quantumNoted_spec s (s.quantaPast p.toNat) p
  obtain ⟨hpast, hlast, hclamp, hrealms, hmem⟩ := quantumNoted_keeps s (s.quantaPast p.toNat) p.toNat
  generalize s.quantumNoted (s.quantaPast p.toNat) p.toNat = q at hlogs hpower hclamped henergy hseals hpast hlast hclamp hrealms hmem
  obtain ⟨hpaces, huniform, hshown, hrest⟩ := boundaryRest_spec v p.toNat (s.quantumCap p.toNat) dies (hlogs.paces.hold.trans (by rw [hrealms, hhold]))
  have hkept := paces_trans hlogs.paces hpaces
  refine ⟨_, hrun, ?_⟩
  generalize State.retryHeld _ = w at hpaces huniform hshown hrest hkept ⊢
  refine ⟨hkept.power.trans hpower, hkept.clamped.trans hclamped, ?_, hkept.past.trans hpast, hkept.lastP.trans hlast, hkept.clampRec.trans hclamp, ?_,
    hshown, hrest.trans (hlogs.mem.trans hmem)⟩
  · rw [hkept.energy, henergy]
  · rw [huniform, hlogs.paces.seals, hseals]

end

/-- Settles O60: one lemma for each event of Parasol and each of its outcomes. -/
theorem parasolEvents : Obligations.ParasolEvents := by
  intro i v temp amps k f p dies rs s
  refine ⟨fun hoff => ⟨?_, ?_, ?_, ?_⟩, fun hoff => ?_, sensorSample_reads, sensorSample_excludes, sensorSample_excluded,
    fun hmode ⟨hnone, hcluster, hcounted⟩ => thermalAlarm_raises hmode hnone hcluster hcounted,
    fun hmode ⟨hnone, _, hcounted⟩ => thermalAlarm_cool hmode hnone hcounted, thermalTrip_halts, thermalTrip_halted, fun hamps => ?_, powerClamp_clamps,
    fun hnone => ?_, frequencyChangeDone_changes, fun hlive hhold => ?_⟩
  · exact congrArg Host.Outcome.next (if_pos hoff)
  · exact congrArg Host.Outcome.next (if_pos hoff)
  · exact congrArg Host.Outcome.next (if_pos hoff)
  · exact congrArg Host.Outcome.next (if_pos (.inr hoff))
  · exact congrArg Host.Outcome.next (if_pos hoff)
  · exact congrArg Host.Outcome.next (if_pos (.inl hamps))
  · rw [exec_frequencyChangeDone, execFrequencyChangeDone, hnone]
  · have hpast : s.quantaPast p.toNat = if s.fld regThmCap 9 0 < p.toNat ∨ s.fld regThmStatus 5 5 = 1 then s.parasol.past + 1 else 0 := by
      simp [State.quantaPast]
    rw [← hpast]
    exact quantumBoundary_records hlive hhold

end Sys2Proof.Machine
